-- ==== Sys2Proof/Word.lean ====
section
/-! DEFINITION. Byte and octet string types of the VZM-7216 (00 R7, R8). -/

namespace Sys2Proof

/-- One byte (00 R7, R8). -/
abbrev Byte := BitVec 8

/-- An octet string or the bytes of a field, lowest address first. -/
abbrev Bytes := List (BitVec 8)

end Sys2Proof
end

