-- ==== Sys2Proof/Syntax.lean ====
section
/-! DEFINITION. The commands of the block: one constructor per row of spec/opcode_table.json, with the operands
the row acts on. Data that the module reads from the host, and outcomes that only the physical world decides, are
operands of the command that reports them (log entries 2 and 6). -/

namespace Sys2Proof

/-- A host supply of the always-on domain (02 R73). -/
inductive Rail where
  | aux33
  | main12
  deriving DecidableEq, Repr

/-- Where a register that has no row of its own lies (03 R95, 10 R384, 16 R601). -/
inductive RegSpace where
  /-- BAR `bar` of function `fn` (0 is PF0). -/
  | bar (fn bar : Nat)
  /-- compute register space, accessed under a master identity -/
  | compute (mid : Nat)
  /-- control-die register space, accessed under a master identity -/
  | control (mid : Nat)
  /-- a configuration-space field that a rule names: 0 PTM Enable, 1 Completion Timeout Disable, 2 Completion Timeout
  Value, 3 Max Payload Size, 4 Max Read Request Size (03 R85, R129, R131, R132; log entry 14) -/
  | config
  deriving DecidableEq, Repr

/-- A read of host memory that the module has issued (03 R131). -/
inductive ReadRef where
  /-- operand reads of a job -/
  | job (id : Nat)
  /-- the current descriptor of a DMA channel, with the data that earlier reads of it returned: they end at the stream offset of the
  access that fails -/
  | channel (ch : Nat) (data : Bytes)
  deriving DecidableEq, Repr

/-- A transfer whose last written word is read back (10 R395). -/
inductive XferRef where
  | job (id : Nat)
  | channel (ch : Nat)
  deriving DecidableEq, Repr

/-- A descriptor queue with a Q_TAIL register (10 R385, 16 R601). -/
inductive QueueRef where
  | dma (ch : Nat)
  | code (q : Nat)
  | vault (q : Nat)
  deriving DecidableEq, Repr

/-- A Glossary session (22 R764): the PF0 mailbox or one of 8 GAP sessions. -/
inductive SessId where
  | mailbox
  | gap (n : Nat)
  deriving DecidableEq, Repr

/-- A request of the SPDM responder or of TDISP carried in it (03 R119, R126, R127). -/
inductive SpdmReq where
  | getVersion
  | getCapabilities
  | negotiateAlgorithms (asym hash dhe aead : Nat)
  | keyExchange
  | endSession (id : Nat)
  | heartbeat (id : Nat)
  | getCertificate (slot : Nat)
  | challenge (slot : Nat)
  | getMeasurements
  | startInterface (vf : Nat)
  | getInterfaceReport (vf : Nat)
  | getInterfaceState (vf : Nat)
  | unsupported
  deriving DecidableEq, Repr

/-- A DOE object by its type: DOE Discovery of an index, CMA/SPDM, Secured CMA/SPDM, or one that the module does not know (03 R125). -/
inductive DoeKind where
  | discovery (index : Nat)
  | spdm
  | securedSpdm
  | unknown
  deriving DecidableEq, Repr

/-- Staging slots of an intake core: those that partitions share, or partition 0's own (04 R178). -/
structure StagingPool where
  core : Nat
  own : Bool
  deriving DecidableEq, Repr

/-- An asynchronous event presented to a Verb core (14 Table 1). -/
inductive AsyncEvent where
  | device (line : Nat)
  | supervisor (code : Nat)
  | lockstep
  deriving DecidableEq, Repr

/-- An agent's answer to a hoist or strike request (18 Table 5). -/
inductive AgentReply where
  | accept
  | delay (n : Nat)
  | refuse (reason : Nat)
  deriving DecidableEq, Repr

/-- A spare row or column of an SRAM macro mapped in: the island that holds the macro, the macro, the row or column (19 R699 to R702). -/
structure Spare where
  island : Nat
  mac : Nat
  line : Nat
  column : Bool
  deriving DecidableEq, Repr

/-- What held the content that a repair found uncorrectable (19 Table 4): nothing; scratch or lane registers of resident jobs, their
checkpoints in the row or not; a job's staging slot; a transit unit; a context or park image, held twice; the local data memory of a
Compact Verb core; that of a Deep Verb pair. -/
inductive SramUse where
  | nothing
  | scratch (jobs : List Nat) (checkpointLost : Bool)
  | staging (job : Nat)
  | transit
  | context
  | coreData (unit : Nat)
  | pairData (second : Bool)
  deriving DecidableEq, Repr

/-- What the self-test of ASSAY found (19 Table 3): units that repair could not restore, lanes at fault (squad, lane of 34), squads
whose constants fail, SRAM repairs made, and the time taken in ms. -/
structure AssayReport where
  islandsLost : List Nat
  lanesFailed : List (Nat × Nat)
  sumsFailed : List Nat
  sramMapped : List Spare
  durationMs : Nat
  deriving DecidableEq, Repr

/-- What scrubbing found in a slot of an active bank (15 R580). -/
inductive ScrubError where
  | single (slot : Nat)
  | double (slot : Nat)
  deriving DecidableEq, Repr

/-- What arrives from a custodian card (23 Tables 1 to 4). -/
inductive CardReply where
  /-- the ATR: class B offered, T=1 offered, negotiable mode, its Fi/Di byte, its clock stop indicator (0 not supported, 1 low, 2 high,
  3 no preference), IFSC, BWI, CWI, EDC by CRC -/
  | atr (classB t1 negotiable : Bool) (fidi clockStop ifsc bwi cwi : Nat) (crc : Bool)
  /-- the echo of the PPS, or a PPS answer that does not echo the proposal -/
  | pps (echoed : Bool)
  /-- the answer to S(IFS request) -/
  | ifs
  /-- a response: status word and data -/
  | resp (sw : Nat) (data : Bytes)
  /-- a block in error -/
  | badBlock
  /-- the answer to S(RESYNCH) -/
  | resynch
  deriving DecidableEq, Repr

/-- What arrives from badges in the field (24 R821 to R824). -/
inductive BadgeReply where
  | atqa
  /-- an anticollision answer: the bits known before a collision, in the order sent, or the whole UID -/
  | collision (known : List Bool)
  | uid (uid : Bytes)
  | sak
  /-- the ATS: highest bit rate offered in both directions, FWI -/
  | ats (kbit fwi : Nat)
  | pps
  | resp (sw : Nat) (data : Bytes)
  | badBlock
  /-- S(WTX): the seconds asked for -/
  | wtx (secs : Nat)
  deriving DecidableEq, Repr

/-- A frame on the management segment (22 R777, R783). -/
inductive FrameKind where
  | neighborSolicitation
  | echoRequest
  /-- a protected GAP frame: session, sequence number, whether its tag verifies -/
  | gapProtected (sess seq : Nat) (tagOk : Bool) (msg : List (BitVec 8))
  | foreign
  deriving DecidableEq, Repr

/-- A command of the block, one constructor per row of spec/opcode_table.json. -/
inductive Instr where
  -- supplies, modes of the link and functions (02, 03, 18, 19)
  | supplyArrival (rail : Rail)
  | assay (report : AssayReport)
  | assayDone
  | cut
  | suppliesLost
  | auxPowerLoss
  | auxPowerReturn
  | conventionalReset
  | perstDeasserted
  | linkRecovery (width rate : Nat)
  | linkReturnL0 (width rate : Nat)
  | functionLevelReset (vf : Nat)
  | vfEnableClear
  | vfEnableSet
  | numvfsWrite (n : Nat)
  | d3hotEntry
  | d3hotExit
  | barAccessDropped (fn off size : Nat) (write : Bool)
  | poisonedWrite (fn bar off : Nat)
  | registerWrite (space : RegSpace) (off size : Nat) (value : BitVec 64)
  | proxyDoorbell (vf ring : Nat) (cq : Bool) (value : BitVec 32)
  | ideKm (stream set lo hi : Nat) (keyOut keyIn : Bytes)
  | kSetGo (stream set : Nat)
  | ideStreamInsecure (stream : Nat)
  | tlpIntegrityFail (stream fn : Nat)
  | lockInterface (vf : Nat)
  | stopInterface (vf : Nat)
  | tdiFrozenChange (vf : Nat)
  | doeObject (kind : DoeKind) (len : Nat)
  | spdmMessage (req : SpdmReq)
  -- time (17)
  | ptmRequest
  | ptmResponse (master : Nat)
  | ptmAbandon
  | holdoverEntry
  | holdoverExpiry
  -- host reads (03)
  | hostReadError (who : ReadRef)
  | completionTimeout (who : ReadRef)
  | readAbandoned (who : ReadRef)
  -- administrative opcodes (03)
  | windowSet (job : Nat) (block : BitVec 256)
  | windowSetDone (job : Nat)
  | windowGet (job : Nat)
  | partitionInfo (job : Nat)
  | timeGet (job : Nat)
  | fence (job : Nat)
  | fenceDone (job : Nat)
  | quiesce (job : Nat) (word : BitVec 64)
  | quiesceDone (job : Nat)
  | resume (job : Nat) (word : BitVec 64)
  | timeSet (job : Nat) (ns word : BitVec 64)
  | timeSetDone (job : Nat)
  -- rings and intake (04)
  | ringEnable (part ring : Nat)
  | ringDisable (part ring : Nat)
  | ringAbort (part ring : Nat)
  | ringDrained (part ring : Nat)
  | sqDb (part ring : Nat) (value : BitVec 32)
  | cqDb (part ring : Nat) (value : BitVec 32)
  | intakeVisit (core : Nat)
  | descriptorArrival (core : Nat) (descs : List (BitVec 512))
  | descriptorReadFailed (core : Nat)
  | contextFreed
  | stagingReadDone (job : Nat) (opa opb : Bytes)
  | stagingWipeDone (core : StagingPool)
  | rngWaitEnd (job : Nat)
  /-- `squad` is the choice that 04 R190 leaves. `opa` and `opb` have no effect: operands above 2 KiB are read once the job is placed
  (10 R401; log entry 145). -/
  | dispatch (squad : Nat) (opa opb : Bytes)
  | gangSliceStart (job : Nat)
  -- generic arithmetic (05)
  | modadd (job : Nat)
  | modmul (job : Nat)
  | modexp (job : Nat)
  | modinv (job : Nat)
  -- classical public key (07)
  | rsaPrivate (job : Nat)
  | rsaPublic (job : Nat)
  | rsaSignV15 (job : Nat)
  | rsaSignPss (job : Nat)
  | rsaVerifyV15 (job : Nat)
  | rsaVerifyPss (job : Nat)
  | rsaEncryptOaep (job : Nat)
  | rsaDecryptOaep (job : Nat)
  | rsaKeygen (job : Nat)
  | ecdsaSign (job : Nat)
  | ecdsaVerify (job : Nat)
  | ecdh (job : Nat)
  | eddsaSign (job : Nat)
  | eddsaVerify (job : Nat)
  | xdh (job : Nat)
  | ecKeygen (job : Nat)
  -- lattice (08)
  | mlkemEncaps (job : Nat)
  | mlkemDecaps (job : Nat)
  | mldsaSign (job : Nat)
  | mldsaVerify (job : Nat)
  | mlkemKeygen (job : Nat)
  | mldsaKeygen (job : Nat)
  -- key store (09)
  | keyGenSym (job : Nat)
  | keyImport (job : Nat)
  | keyExport (job : Nat)
  | keyDestroy (job : Nat)
  | destroyComplete (slot : Nat)
  | keyInfo (job : Nat)
  | keyRestrict (job : Nat)
  | restrictDone (job : Nat)
  | keyPurge (job : Nat)
  | purgeWipe (part : Nat)
  | commitService
  | useCountPage
  | keyCacheFill (slot : Nat) (copy1Ok copy2Ok : Bool)
  -- streams, random job (10, 12)
  | streamSeal (job : Nat) (opa opb : Bytes)
  | streamOpen (job : Nat) (opa opb : Bytes)
  | streamBind
  | streamSegment (engine : Nat) (mismatch : Bool)
  | randomBytes (job : Nat)
  -- DMA channels (10)
  | channelGrant
  | channelEnable (ch : Nat) (on : Bool)
  | channelAbort (ch : Nat)
  | qTail (queue : QueueRef) (value : Nat)
  | copy (ch : Nat) (hostData : Bytes)
  | fill (ch : Nat)
  | compareConst (ch : Nat) (hostData : Bytes)
  | compareBuf (ch : Nat) (hostData : Bytes)
  | readBackDone (who : XferRef) (ok : Bool)
  -- metering (11)
  | minuteClose
  | minuteSetDurable
  | minuteDelivery (vf : Nat) (ok : Bool)
  -- random numbers (12)
  | rngRetired (chan test : Nat)
  | channelRestart (chan : Nat)
  | startTimeout (chan : Nat)
  | reseed (expander : Nat)
  | rngDataLo (unit : Nat)
  | rngDataHi (unit : Nat)
  | rngJdataLo (unit : Nat)
  | rngJdataHi (unit : Nat)
  | rngHoldExpiry (job : Nat)
  | rngKatRun (which : Nat) (failed : List Nat)
  | rnsSelftestRun (squad : Nat)
  | patrolTest (squad : Nat) (lanesFailed : List Nat) (keccakOk : Bool)
  -- Verb-14, SYSTEM class (13 Table 9)
  | nop (u : Nat)
  | wfe (u : Nat)
  | waitc (u : Nat) (dn : Fin 8)
  | waitWake (u : Nat)
  | retg (u : Nat)
  | retx (u : Nat)
  | verbFence (u : Nat)
  | brk (u : Nat)
  | ems (u : Nat)
  | emc (u : Nat)
  | gate (u : Nat) (n : BitVec 8)
  | sev (u : Nat) (dn : Fin 8) (bank : Bool)
  | mfs (u : Nat) (dd : Fin 8) (sreg : Fin 32)
  | mts (u : Nat) (sreg : Fin 32) (ds : Fin 8)
  | movad (u : Nat) (ad ds : Fin 8)
  | movda (u : Nat) (dd as : Fin 8)
  | movaa (u : Nat) (ad as : Fin 8)
  | jmp (u : Nat) (as : Fin 8)
  | jsr (u : Nat) (as : Fin 8)
  | adda (u : Nat) (ad ds : Fin 8)
  | addaa (u : Nat) (ad as : Fin 8)
  | cmpa (u : Nat) (ad as : Fin 8)
  | addai (u : Nat) (pre : List (BitVec 12)) (ad : Fin 8) (imm : BitVec 5)
  -- DATA class (13 Table 10)
  | mov (u : Nat) (dd ds : Fin 8)
  | add (u : Nat) (dd ds : Fin 8)
  | adc (u : Nat) (dd ds : Fin 8)
  | sub (u : Nat) (dd ds : Fin 8)
  | sbc (u : Nat) (dd ds : Fin 8)
  | cmp (u : Nat) (dd ds : Fin 8)
  | and (u : Nat) (dd ds : Fin 8)
  | or (u : Nat) (dd ds : Fin 8)
  | xor (u : Nat) (dd ds : Fin 8)
  | andn (u : Nat) (dd ds : Fin 8)
  | tst (u : Nat) (dd ds : Fin 8)
  | neg (u : Nat) (dd ds : Fin 8)
  | not (u : Nat) (dd ds : Fin 8)
  | shl (u : Nat) (dd ds : Fin 8)
  | shr (u : Nat) (dd ds : Fin 8)
  | sar (u : Nat) (dd ds : Fin 8)
  | ror (u : Nat) (dd ds : Fin 8)
  | mul (u : Nat) (dd ds : Fin 8)
  | mulhu (u : Nat) (dd ds : Fin 8)
  | mulhs (u : Nat) (dd ds : Fin 8)
  | minu (u : Nat) (dd ds : Fin 8)
  | maxu (u : Nat) (dd ds : Fin 8)
  | mins (u : Nat) (dd ds : Fin 8)
  | maxs (u : Nat) (dd ds : Fin 8)
  | clz (u : Nat) (dd ds : Fin 8)
  | popc (u : Nat) (dd ds : Fin 8)
  | bswap (u : Nat) (dd ds : Fin 8)
  | cmovz (u : Nat) (dd ds : Fin 8)
  | cmovc (u : Nat) (dd ds : Fin 8)
  | sxb (u : Nat) (dd ds : Fin 8)
  | sxh (u : Nat) (dd ds : Fin 8)
  -- IMMEDIATE class (13 R515)
  | movi (u : Nat) (pre : List (BitVec 12)) (dd : Fin 8) (imm : BitVec 5)
  | addi (u : Nat) (pre : List (BitVec 12)) (dd : Fin 8) (imm : BitVec 5)
  | cmpi (u : Nat) (pre : List (BitVec 12)) (dd : Fin 8) (imm : BitVec 5)
  | andi (u : Nat) (pre : List (BitVec 12)) (dd : Fin 8) (imm : BitVec 5)
  | ori (u : Nat) (pre : List (BitVec 12)) (dd : Fin 8) (imm : BitVec 5)
  | xori (u : Nat) (pre : List (BitVec 12)) (dd : Fin 8) (imm : BitVec 5)
  | shli (u : Nat) (dd : Fin 8) (imm : BitVec 5)
  | shri (u : Nat) (dd : Fin 8) (imm : BitVec 5)
  -- MEMORY class (13 R516)
  | ldb (u : Nat) (pre : List (BitVec 12)) (r aa : Fin 8) (mode : BitVec 2)
  | ldh (u : Nat) (pre : List (BitVec 12)) (r aa : Fin 8) (mode : BitVec 2)
  | ldw (u : Nat) (pre : List (BitVec 12)) (r aa : Fin 8) (mode : BitVec 2)
  | lda (u : Nat) (pre : List (BitVec 12)) (r aa : Fin 8) (mode : BitVec 2)
  | stb (u : Nat) (pre : List (BitVec 12)) (r aa : Fin 8) (mode : BitVec 2)
  | sth (u : Nat) (pre : List (BitVec 12)) (r aa : Fin 8) (mode : BitVec 2)
  | stw (u : Nat) (pre : List (BitVec 12)) (r aa : Fin 8) (mode : BitVec 2)
  | sta (u : Nat) (pre : List (BitVec 12)) (r aa : Fin 8) (mode : BitVec 2)
  -- FLOW class (13 R520)
  | branch (u : Nat) (pre : List (BitVec 12)) (cond : Fin 15) (disp : BitVec 7)
  | call (u : Nat) (pre : List (BitVec 12)) (disp : BitVec 7)
  -- ACC class (13 Table 12)
  | macu (u : Nat) (q : Fin 4) (m n : Fin 8)
  | macs (u : Nat) (q : Fin 4) (m n : Fin 8)
  | mulu (u : Nat) (q : Fin 4) (m n : Fin 8)
  | mql (u : Nat) (q : Fin 4) (d : Fin 8)
  | mqh (u : Nat) (q : Fin 4) (d : Fin 8)
  | mqg (u : Nat) (q : Fin 4) (d : Fin 8)
  | mdql (u : Nat) (q : Fin 4) (d : Fin 8)
  | mdqh (u : Nat) (q : Fin 4) (d : Fin 8)
  | mdqg (u : Nat) (q : Fin 4) (d : Fin 8)
  | shrq (u : Nat) (q : Fin 4) (d : Fin 8)
  | shlq (u : Nat) (q : Fin 4) (d : Fin 8)
  -- LANE class (13 Table 13); `bad` says that the check of 05 R213, R221 or 08 R327 fails in this run
  | lmont (u : Nat) (ld ls : Fin 8) (bad : Bool)
  | ladd (u : Nat) (ld ls : Fin 8)
  | lsub (u : Nat) (ld ls : Fin 8)
  | lmov (u : Nat) (ld ls : Fin 8)
  | lconv (u : Nat) (ld as : Fin 8)
  | lsettle (u : Nat) (as ls : Fin 8) (bad : Bool)
  | lld (u : Nat) (ld as : Fin 8)
  | lst (u : Nat) (as ls : Fin 8)
  | lsetup (u : Nat) (as dn : Fin 8)
  | nmul (u : Nat) (ld ls : Fin 8) (bad : Bool)
  | nadd (u : Nat) (ld ls : Fin 8) (bad : Bool)
  | nsub (u : Nat) (ld ls : Fin 8) (bad : Bool)
  | nbfct (u : Nat) (ld ls : Fin 8) (bad : Bool)
  | nbfgs (u : Nat) (ld ls : Fin 8) (bad : Bool)
  | lqn (u : Nat) (dn width : Fin 8)
  | kperm (u : Nat) (as : Fin 8) (bad : Bool)
  | ypt (u : Nat)
  | reservedPattern (u : Nat) (pre : List (BitVec 12)) (word : BitVec 14)
  -- exceptions, pairs, guards (14, 15)
  | deviceInterrupt (u : Nat) (ev : AsyncEvent)
  | frozenUnitRecovery (u : Nat)
  | pairDiverged (pair : Bool)
  | pairSelftestDone (pair passed : Bool)
  | runAhead (pair : Bool)
  | guardScrub (g : Nat) (errors : List ScrubError)
  | guardDrainDone
  -- flash (16); `retry` is the read-retry step at which every codeword decoded, none when every step failed
  | flashRead (queue : QueueRef) (retry : Option Nat)
  | flashProgram (queue : QueueRef)
  | flashProgramDone (bank : Nat) (ok : Bool)
  | flashErase (queue : QueueRef)
  | flashEraseDone (bank : Nat) (ok : Bool)
  | eraseSuspend (queue : QueueRef)
  | eraseResume (queue : QueueRef)
  | suspendExpiry (bank : Nat)
  | readStatus (queue : QueueRef)
  | flushTick
  | collection
  | victimErase
  | wearCollection (bank : Nat)
  -- islands, events, modes (17, 18)
  | crossingTimeout (island : Nat)
  | eventStamp
  | otcSave
  | agentAnswer (island : Nat) (ans : AgentReply)
  | agentTimeout (island : Nat)
  | delayExpiry (island : Nat)
  | modeTarget (sess : SessId) (req : BitVec 16) (value : Bytes)
  | serviceEnd (sess : SessId) (req : BitVec 16) (value : Bytes)
  | serviceLimitExpiry
  | changeoverUnitDone (passedNew passedOld : Bool)
  | sramRepaired (spare : Spare) (corrected : Bool) (use : SramUse)
  | lifecycleEraseComplete
  -- tamper (20)
  | monitorSample (mon unit value : Nat) (holds : Bool)
  | batchExecute
  | quiesceHoldEnd
  | alertAck (sess : SessId) (req : BitVec 16) (value : Bytes)
  -- recorder (21)
  | coalesceWindowClose
  | suppressed (code : Nat)
  -- mailbox, GAP, Glossary, countersign (22)
  | mbGo
  | hello (nonce eph cert key : Bytes)
  | finish (sess : Nat) (sig : Bytes)
  | authChallenge (req : BitVec 16)
  | authResponse (req : BitVec 16) (cred : Nat) (sig : Bytes)
  | authDrop (req : BitVec 16)
  | officerIdle
  | read (sess : SessId) (req : BitVec 16) (index sub off len : Nat)
  | write (sess : SessId) (req : BitVec 16) (index sub : Nat) (value : Bytes)
  | describe (sess : SessId) (req : BitVec 16) (index sub : Nat)
  | csSeal (sess : SessId) (req : BitVec 16)
  | csSign (sess : SessId) (req : BitVec 16) (change cred : Nat) (sig : Bytes)
  | csCancel (sess : SessId) (req : BitVec 16) (change : Nat)
  | csQuery (sess : SessId) (req : BitVec 16) (change off : Nat)
  | csDiscard (sess : SessId) (req : BitVec 16)
  | notifyAck (sess : Nat) (req : BitVec 16)
  | notifyResend (sess : Nat) (req : BitVec 16)
  | nopMessage (sess : SessId) (req : BitVec 16)
  | close (sess : Nat) (req : BitVec 16)
  | msgUnknown (sess : SessId) (req : BitVec 16) (msg : Nat)
  | gapSessionExpiry (sess : Nat)
  | countersignExpiry (slot : Nat)
  | csCommit
  -- custodian card (23)
  | cardInserted
  | cardResponse (reply : CardReply)
  | cardWtx (secs : Nat)
  | clockStop
  | cardRemoved
  | cardOvercurrent
  | cardRequest (sess : SessId) (req : BitVec 16) (value : Bytes)
  | cardMidstepClear (sess : SessId) (req : BitVec 16) (value : Bytes)
  -- contactless (24)
  | ping (amplitude : Nat)
  | badgeResponse (reply : BadgeReply)
  | badgePresenceCheck (answered : Bool)
  | externalField
  | externalFieldGone
  | fieldRequest (sess : SessId) (req : BitVec 16) (value : Bytes)
  | tagTransactionStart
  | tagSelect (aid : Bytes)
  | readBinary (off len : Nat)
  | updateBinary (off : Nat) (data : Bytes)
  | increment (ctr : Nat) (data : Bytes) (torn : Bool)
  | tagTransactionEnd
  | tagTransactionTimeout
  | tagMemBlock (sess : SessId) (req : BitVec 16) (data : Option Bytes)
  | tagCounterAdd (sess : SessId) (req : BitVec 16) (value : Bytes)
  | tagHostTimeout
  -- the rows at the end of the table
  | thermalOverload (die : Nat) (hot : Bool)
  | startUpTestPassed (chan : Nat)
  | selfTestDone (passed : Bool)
  | inboundFrame (frame : FrameKind)
  | blockWaitingTimeExpiry
  | frameWaitingTimeExpiry
  | vaultBankIdle (bank : Nat)
  | cellExhausted
  | alwaysOnSupplyChange (present : Bool)
  | dtbFrac (u : Nat)
  deriving DecidableEq, Repr

end Sys2Proof
end

