-- ==== Sys2Proof/Config.lean ====
section
/-! DEFINITION. What the spec names and does not restate, and what it leaves open: opaque constants, so that no proof
knows a value of them (00: published algorithms are named, not restated; log entries 3 and 11). -/

namespace Sys2Proof.Config

open Sys2Proof

/-- A free value: `freeNat c` for the c-th draw (random draws, results the spec leaves open). -/
opaque freeNat : Nat → Nat

/-- A free octet string: the c-th draw, of n octets once fitted. -/
opaque freeBytes : Nat → Nat → Bytes

/-- Codes that record fields carry and the spec does not number: the cause of MODE_CHANGED, the kind of a refused
register access, and the like, by the model's own numbering of their meanings. -/
opaque code : Nat → Nat → Nat

/-- The master identity that owns a system-class DMA channel between two ASSAYs: the spec names no owners (10 R383; log entry 162). -/
opaque channelOwner : Nat → Nat

/-- SHA-384 (FIPS 180-4). -/
opaque sha384 : Bytes → Bytes

/-- KMAC256 (SP 800-185): key, message, output octets, customization. -/
opaque kmac256 : Bytes → Bytes → Nat → Bytes → Bytes

/-- AES-256-GCM-SIV: key, nonce, associated data, plaintext; the result carries its 16-byte tag. -/
opaque gcmSiv : Bytes → Bytes → Bytes → Bytes → Bytes

/-- AES-KWP (RFC 5649): wrap, and unwrap with its integrity check. -/
opaque kwpWrap : Bytes → Bytes → Bytes
opaque kwpUnwrap : Bytes → Bytes → Option Bytes

/-- AES-256-XTS: decrypt or encrypt, both keys, number of the first data unit, bytes in a data unit, data. -/
opaque xts : Bool → Bytes → Nat → Nat → Bytes → Bytes

/-- Key stream octets of a stream cipher: algorithm, key, nonce, length (10 Table 9). -/
opaque keystream : Nat → Bytes → Bytes → Nat → Bytes

/-- Authentication tag of a stream cipher: algorithm, key, nonce, AAD, ciphertext. -/
opaque aeadTag : Nat → Bytes → Bytes → Bytes → Bytes → Bytes

/-- ECDSA over a curve: signature of a digest under a private key and a nonce, and its check under a public key. -/
opaque ecdsaSign : Nat → Bytes → Bytes → Bytes → Bytes
opaque ecdsaVerify : Nat → Bytes → Bytes → Bytes → Bool

/-- ML-DSA (FIPS 204) at a level: signature of a message under a key, a context string and random octets. -/
opaque mldsaSign : Nat → Bytes → Bytes → Bytes → Bytes → Bytes
opaque mldsaVerify : Nat → Bytes → Bytes → Bytes → Bytes → Bool

/-- The module's serial number, MAC address and certificates, set at MANUFACTURE. -/
opaque serial : Bytes
opaque mac : Bytes
opaque dikCert : Bytes
opaque minuteCert : Nat → Bytes
opaque aliasCert : Nat → Bytes

/-- Private keys the module holds from MANUFACTURE: minute signing keys of a generation, the secret of the device identity key. -/
opaque minuteKeyEc : Nat → Bytes
opaque minuteKeyMl : Nat → Bytes
opaque dikSecret : Bytes

/-- Elliptic curves by CURVE identifier (07 Table 3; SEC 1, RFC 5639, RFC 7748, RFC 8032): field prime, group order,
the y of an x with a sign or prefix bit, the curve equation, prime-order membership, and multiples of a point and of
the base point, as affine pairs; none is the identity. -/
opaque fieldP : Nat → Nat
opaque orderN : Nat → Nat
opaque liftX : Nat → Nat → Nat → Option Nat
opaque onCurve : Nat → Nat → Nat → Bool
opaque inSubgroup : Nat → Nat → Nat → Bool
opaque mulPoint : Nat → Nat → Option (Nat × Nat) → Option (Nat × Nat)
opaque mulBase : Nat → Nat → Option (Nat × Nat)
opaque addPoints : Nat → Option (Nat × Nat) → Option (Nat × Nat) → Option (Nat × Nat)

/-- HMAC_DRBG of RFC 6979 steps a to g over a hash: private key, digest integer, additional data, octets asked for. -/
opaque hmacDrbg : Nat → Bytes → Bytes → Bytes → Nat → Bytes

/-- The hashes of 07 Table 2 by identifier, and SHAKE256 of a number of octets (FIPS 180-4, FIPS 202). -/
opaque hash : Nat → Bytes → Bytes
opaque shake256 : Bytes → Nat → Bytes

/-- X25519 and X448 (RFC 7748) by CURVE: scalar, u; the public u of a private key; whether u lies on the curve itself, in
its prime-order subgroup. -/
opaque xdh : Nat → Bytes → Bytes → Bytes
opaque xPublic : Nat → Bytes → Bytes
opaque uValid : Nat → Nat → Bool

/-- K-PKE of ML-KEM (FIPS 203) by PSET: encryption of m under ek with r, decryption of c under dk, and (ek, dk) from d. -/
opaque kemEncrypt : Nat → Bytes → Bytes → Bytes → Bytes
opaque kemDecrypt : Nat → Bytes → Bytes → Bytes
opaque kemPair : Nat → Bytes → Bytes × Bytes

/-- ML-DSA (FIPS 204) by PSET with its HASH identifier: signature and number of attempts from sk, ctx, message and rnd; whether the
challenge recomputed from pk, ctx, message and signature is the one that the signature holds; (pk, sk) from ξ. -/
opaque mldsaJob : Nat → Nat → Bytes → Bytes → Bytes → Bytes → Bytes × Nat
opaque mldsaChallenge : Nat → Nat → Bytes → Bytes → Bytes → Bytes → Bool
opaque mldsaKeygen : Nat → Bytes → Bytes × Bytes

/-- The fixed message of 32 octets, and the rnd, of the signature that checks a new ML-DSA key (08 Table 4). -/
opaque dsaCheckMsg : Bytes
opaque dsaCheckRnd : Bytes

/-- Squeezes beyond 08 Table 5 that a lattice operation makes, by opcode and PSET, on all its inputs (08 R330). -/
opaque samplerExtra : Nat → Nat → Bytes → Nat

/-- Where the search for a prime candidate of a number of bits starts, from octets drawn for it: how a candidate is built is open (07
R300). -/
opaque candidateFrom : Nat → Bytes → Nat

/-- What key generation counts and the spec does not number (07 R306, log entry 30): MONTs of a Miller–Rabin round at H words, nominal
cycles of the CRT values of a modulus of w words, MONTs of an EC_KEYGEN on a curve. -/
opaque roundMonts : Nat → Nat
opaque crtCycles : Nat → Nat
opaque ecKeygenMonts : Nat → Nat

/-- Places that the spec names and gives no address: the PTAG field of a unit's core control block, the gate block of a core,
within the register space of its die (14 R555, 15 R575). -/
opaque ptagReg : Nat → Nat
opaque gateBlock : Nat → Nat

/-- The event permit mask that the duty pair writes for a core at ASSAY (13 R522). -/
opaque sevPermit : Nat → Nat

/-- The Key Root, the device time and the DIK public key of a module as it leaves Olirad (19 R709, 24 Table 5). -/
opaque keyRoot : Bytes
opaque madeAt : Nat
opaque dikPublic : Bytes

/-- The options that the module was ordered with: its card option by number, its harness (01 Table 5). -/
opaque cardOption : Nat
opaque harness : Bool

/-- What Olirad wrote into the identity bank and the recovery image: image keys, header of the recovery image, whether that image
is valid (16 Table 2, R598). -/
opaque imageKeyEc : Bytes
opaque imageKeyMl : Bytes
opaque recoveryHeader : Bytes
opaque recoveryValid : Bool

/-- The guard rule set that an image carries, by its DIGEST: whether it carries one, and its slots by guard (15 R591, 18 R681). -/
opaque imageHasRules : Bytes → Bool
opaque imageRules : Bytes → Nat → List (Nat × Nat)

/-- Program SRAM images that a firmware image holds, by its DIGEST (19 Table 6). -/
opaque sramImages : Bytes → Bytes

/-- Version of the image checker, and the identity bank (19 Table 6). -/
opaque checkerVersion : Bytes
opaque identityBank : Bytes

/-- Second output of the CTR_DRBG known-answer test (12 R479; SP 800-90A). -/
opaque drbgKat : Bytes

/-- Nominal lane-cycles of residents up to which a squad counts as about to finish (04 R190, log entry 144). -/
opaque nearEnd : Nat

/-- Keccak-f[1600] on its 200-byte state (FIPS 202). -/
opaque keccakF : Bytes → Bytes
end Sys2Proof.Config
end

