-- ==== Sys2Proof/Machine/Bits.lean ====
section
/-! DEFINITION. Byte order (00 R8, R9), bit fields (00 R7), fixed lengths and the arithmetic that the meanings share. -/

namespace Sys2Proof

/-- The little-endian value of a byte list (00 R8). -/
def leNat : Bytes → Nat
  | [] => 0
  | b :: bs => b.toNat + 256 * leNat bs

/-- `n` bytes, little-endian, of a value; higher bits are dropped (00 R8). -/
def toLE : Nat → Nat → Bytes
  | 0, _ => []
  | n + 1, v => BitVec.ofNat 8 v :: toLE n (v / 256)

/-- The big-endian value of an octet string (00 R8). -/
def beNat (bs : Bytes) : Nat := bs.foldl (fun a b => 256 * a + b.toNat) 0

/-- `n` octets, big-endian, of a value (I2OSP of a value below 256^n). -/
def toBE (n v : Nat) : Bytes := (toLE n v).reverse

/-- Bits `h`:`l` of a value (00 R7). -/
def bits (v h l : Nat) : Nat := v / 2 ^ l % 2 ^ (h + 1 - l)

/-- Bit `i` of a value. -/
def bit (v i : Nat) : Bool := v / 2 ^ i % 2 == 1

/-- 1 for true, 0 for false. -/
def b2n (b : Bool) : Nat := if b then 1 else 0

/-- Exactly `n` bytes: cut, or filled up with zero bytes. -/
def fit (n : Nat) (bs : Bytes) : Bytes := (bs ++ List.replicate n 0).take n

/-- `n` zero bytes. -/
def zeros (n : Nat) : Bytes := List.replicate n 0

/-- The bytes of an ASCII label. -/
def ascii (t : String) : Bytes := t.toList.map (fun c => BitVec.ofNat 8 c.toNat)

/-- Division rounded up. -/
def ceilDiv (a b : Nat) : Nat := (a + b - 1) / b

/-- `round(y) = floor(y + 1/2)` of the quotient of two integers, the divisor positive (17 R647). -/
def roundDiv (a : Int) (b : Int) : Int := (2 * a + b) / (2 * b)

/-- A value held between two bounds (17 R647). -/
def clampInt (x lo hi : Int) : Int := if x < lo then lo else if hi < x then hi else x

/-- The number of one bits among the low `n` bits. -/
def popcount : Nat → Nat → Nat
  | 0, _ => 0
  | n + 1, v => v % 2 + popcount n (v / 2)

/-- The bit length of a value, by structural recursion on fuel `n`. -/
def bitLen : Nat → Nat → Nat
  | 0, _ => 0
  | n + 1, v => if v = 0 then 0 else 1 + bitLen n (v / 2)

/-- Two's-complement image of an integer on `n` bits. -/
def toTwos (n : Nat) (x : Int) : Nat := (x % (2 ^ n : Int)).toNat

/-- `true` for an item at most once: the list without later repeats of what it holds. -/
def addUnique {α : Type} [BEq α] (x : α) (l : List α) : List α := if l.contains x then l else l ++ [x]

end Sys2Proof
end

