-- ==== Sys2Proof/Machine/Tab.lean ====
section
/-! DEFINITION. Tables keyed by a number, and byte memory in one canonical form: the data structures of State and
their named operations. -/

namespace Sys2Proof.Machine

open Sys2Proof

/-- A table: what stands under each key, keys rising. A key that is not listed reads as a default that the reader names. -/
abbrev Tab (α : Type) := List (Nat × α)

/-- What stands under a key, if anything. -/
def Tab.find {α : Type} : Tab α → Nat → Option α
  | [], _ => none
  | (k, v) :: t, i => if k = i then some v else Tab.find t i

/-- What stands under a key, or the default. -/
def Tab.get {α : Type} (d : α) (t : Tab α) (i : Nat) : α := (Tab.find t i).getD d

/-- The table with a value put under a key. -/
def Tab.set {α : Type} : Tab α → Nat → α → Tab α
  | [], i, v => [(i, v)]
  | (k, w) :: t, i, v =>
    if k = i then (i, v) :: t
    else if i < k then (i, v) :: (k, w) :: t
    else (k, w) :: Tab.set t i v

/-- The table without a key. -/
def Tab.erase {α : Type} (t : Tab α) (i : Nat) : Tab α := t.filter (fun p => p.1 != i)

/-- The table with the value under a key changed by a function. -/
def Tab.upd {α : Type} (d : α) (t : Tab α) (i : Nat) (f : α → α) : Tab α := t.set i (f (t.get d i))

/-- The table with a function applied to every value. -/
def Tab.mapVals {α : Type} (t : Tab α) (f : Nat → α → α) : Tab α := t.map (fun p => (p.1, f p.1 p.2))

/-- The keys whose value passes a test, rising. -/
def Tab.keysWith {α : Type} (t : Tab α) (p : α → Bool) : List Nat := (t.filter (fun e => p e.2)).map Prod.fst

/-- How many values pass a test. -/
def Tab.countP {α : Type} (t : Tab α) (p : α → Bool) : Nat := (t.filter (fun e => p e.2)).length

/-- Memory: listed bytes in rising address order, none equal to what an unlisted byte reads as. -/
abbrev Mem := List Host.Cell

/-- The canonical form of a memory whose unlisted bytes read as `d`. -/
def Mem.wfFrom (d : Byte) : Nat → Mem → Bool
  | _, [] => true
  | lo, (a, b) :: m => decide (lo ≤ a) && (b != d) && Mem.wfFrom d (a + 1) m

/-- The canonical form, from address 0. -/
def Mem.wf (d : Byte) (m : Mem) : Bool := Mem.wfFrom d 0 m

/-- One byte read. -/
def Mem.get (d : Byte) : Mem → Nat → Byte
  | [], _ => d
  | (a, b) :: m, i => if a = i then b else Mem.get d m i

/-- One byte written; writing what an unlisted byte reads as removes the entry. -/
def Mem.set (d : Byte) : Mem → Nat → Byte → Mem
  | [], i, v => if v = d then [] else [(i, v)]
  | (a, b) :: m, i, v =>
    if a = i then (if v = d then m else (i, v) :: m)
    else if i < a then (if v = d then (a, b) :: m else (i, v) :: (a, b) :: m)
    else (a, b) :: Mem.set d m i v

/-- `n` bytes from an address upward. -/
def Mem.read (d : Byte) (m : Mem) (a n : Nat) : Bytes := (List.range n).map (fun i => Mem.get d m (a + i))

/-- Bytes stored from an address upward. -/
def Mem.write (d : Byte) : Mem → Nat → Bytes → Mem
  | m, _, [] => m
  | m, a, b :: bs => Mem.write d (Mem.set d m a b) (a + 1) bs

/-- Bytes of a range made equal to what unlisted bytes read as: they are no longer listed. -/
def Mem.clear (m : Mem) (a n : Nat) : Mem := m.filter (fun c => decide (c.1 < a ∨ a + n ≤ c.1))

end Sys2Proof.Machine
end

