-- ==== Sys2Proof/Machine/GlossTable.lean ====
section
/-! DEFINITION. The Glossary's entries (Tables 13, 14, 10, 12, ... of files 03 to 24, gathered under 22 R763): address, name,
type, access code, default, range, roles and selector of every entry, and the address and default of each by its name. -/

namespace Sys2Proof.Machine

open Sys2Proof

/-- Value types (00 Table 3). -/
inductive GTy where
  | bool | u8 | u16 | u32 | u64 | i32 | i64 | q1616 | q3232 | q9632 | time64
  | octets (n : Nat)
  | text (n : Nat)
  | record
  deriving DecidableEq, Repr

/-- Access codes (00 Table 4). -/
inductive GAcc where
  | const | ro | rw | wo | w1c | rwp | dual
  deriving DecidableEq, Repr

/-- One row of a Glossary table: address INDEX·256 + SUB, name, type, access, default, ranges (empty where the table
states none), read and write role (22 R768 codes, 0 for a dash), and the selector entry it is shown under (0 none). -/
structure GRow where
  key : Nat
  name : String
  ty : GTy
  acc : GAcc
  dflt : Nat
  ranges : List (Nat × Nat)
  rd : Nat
  wr : Nat
  sel : Nat
  deriving DecidableEq, Repr

/-- An entry named in a rule: its address and its default. -/
structure GE where
  key : Nat
  dflt : Nat
  deriving DecidableEq, Repr

/-- Rows of the Glossary tables, part 0. -/
def glossRows0 : List GRow := [
  ⟨0x200000, "link", .record, .const, 5, [], 1, 0, 0x0⟩,
  ⟨0x200001, "link.width", .u8, .ro, 0, [(0, 16)], 1, 0, 0x0⟩,
  ⟨0x200002, "link.rate", .u8, .ro, 0, [(0, 128)], 1, 0, 0x0⟩,
  ⟨0x200003, "link.aer.cie_report", .bool, .rwp, 0, [(0, 1)], 1, 2, 0x0⟩,
  ⟨0x200004, "link.recovery.count", .u64, .ro, 0, [], 1, 0, 0x0⟩,
  ⟨0x200005, "link.numvfs", .u16, .ro, 0, [(0, 1024)], 1, 0, 0x0⟩,
  ⟨0x210100, "partition.host.select", .u16, .rw, 1, [(1, 1024)], 1, 1, 0x0⟩,
  ⟨0x211000, "partition.host", .record, .const, 3, [], 1, 0, 0x210100⟩,
  ⟨0x211001, "partition.event.vector", .u8, .rwp, 0, [(0, 7)], 1, 2, 0x210100⟩,
  ⟨0x211002, "partition.proxy.dropped", .u64, .ro, 0, [], 1, 0, 0x210100⟩,
  ⟨0x211003, "partition.tdi.state", .u8, .ro, 0, [(0, 3)], 1, 0, 0x210100⟩,
  ⟨0x220000, "intake", .record, .const, 6, [], 1, 0, 0x0⟩,
  ⟨0x220001, "intake.contexts.total", .u32, .const, 0x10000, [], 1, 0, 0x0⟩,
  ⟨0x220002, "intake.contexts.used", .u32, .ro, 0, [(0, 65536)], 1, 0, 0x0⟩,
  ⟨0x220003, "intake.stage.slots", .u16, .const, 0x400, [], 1, 0, 0x0⟩,
  ⟨0x220004, "intake.stage.reserve", .u8, .const, 4, [], 1, 0, 0x0⟩,
  ⟨0x220005, "intake.stage.limit", .u16, .rwp, 64, [(4, 1024)], 1, 2, 0x0⟩,
  ⟨0x220006, "intake.squash.total", .u64, .ro, 0, [], 1, 0, 0x0⟩,
  ⟨0x220100, "intake.select", .u16, .rw, 0, [(0, 1024)], 1, 1, 0x0⟩,
  ⟨0x221000, "partition", .record, .const, 6, [], 1, 0, 0x220100⟩,
  ⟨0x221001, "partition.cap", .u32, .rwp, 0x1000, [(1, 65536)], 1, 2, 0x220100⟩,
  ⟨0x221002, "partition.weight", .u8, .rwp, 16, [(1, 255)], 1, 2, 0x220100⟩,
  ⟨0x221003, "partition.inflight", .u32, .ro, 0, [(0, 65536)], 1, 0, 0x220100⟩,
  ⟨0x221004, "partition.deficit", .i64, .ro, 0, [], 1, 0, 0x220100⟩,
  ⟨0x221005, "partition.staged", .u16, .ro, 0, [(0, 1024)], 1, 0, 0x220100⟩,
  ⟨0x221006, "partition.cap.waits", .u64, .ro, 0, [], 1, 0, 0x220100⟩,
  ⟨0x310000, "rns", .record, .const, 10, [], 1, 0, 0x0⟩,
  ⟨0x310001, "rns.base.size", .u16, .const, 144, [], 1, 0, 0x0⟩,
  ⟨0x310002, "rns.frac.bits", .u8, .const, 32, [], 1, 0, 0x0⟩,
  ⟨0x310003, "rns.sum.a", .u32, .const, 0x6cf6e, [], 1, 0, 0x0⟩]

/-- Rows of the Glossary tables, part 1. -/
def glossRows1 : List GRow := [
  ⟨0x310004, "rns.sum.b", .u32, .const, 0x14705e, [], 1, 0, 0x0⟩,
  ⟨0x310005, "rns.sum.weighted", .u32, .const, 0x1463a2c6, [], 1, 0, 0x0⟩,
  ⟨0x310006, "rns.table.failed", .u32, .ro, 0, [], 1, 0, 0x0⟩,
  ⟨0x310007, "rns.watch.mismatch", .u64, .ro, 0, [], 1, 0, 0x0⟩,
  ⟨0x310008, "rns.narrow.check.fail", .u64, .ro, 0, [], 1, 0, 0x0⟩,
  ⟨0x310009, "rns.selftest.run", .bool, .wo, 0, [(1, 1)], 2, 2, 0x0⟩,
  ⟨0x31000a, "rns.selftest.result", .u8, .ro, 0, [(0, 3)], 1, 0, 0x0⟩,
  ⟨0x300000, "lane", .record, .const, 12, [], 1, 0, 0x0⟩,
  ⟨0x300001, "lane.squads", .u8, .const, 32, [], 1, 0, 0x0⟩,
  ⟨0x300002, "lane.active.nominal", .u16, .const, 0x400, [], 1, 0, 0x0⟩,
  ⟨0x300003, "lane.active.now", .u16, .ro, 0x400, [(0, 1024)], 1, 0, 0x0⟩,
  ⟨0x300004, "lane.spares.left", .u8, .ro, 64, [(0, 64)], 1, 0, 0x0⟩,
  ⟨0x300005, "lane.squads.lost", .u32, .ro, 0, [], 1, 0, 0x0⟩,
  ⟨0x300006, "lane.squads.degraded", .u32, .ro, 0, [], 1, 0, 0x0⟩,
  ⟨0x300007, "lane.dmax", .u64, .const, 0x10000000, [], 1, 0, 0x0⟩,
  ⟨0x300008, "lane.gang.parked", .u16, .ro, 0, [(0, 256)], 1, 0, 0x0⟩,
  ⟨0x300009, "lane.retry.total", .u64, .ro, 0, [], 1, 0, 0x0⟩,
  ⟨0x30000a, "lane.retry.exhausted", .u64, .ro, 0, [], 1, 0, 0x0⟩,
  ⟨0x30000b, "lane.wipe.owner", .u64, .ro, 0, [], 1, 0, 0x0⟩,
  ⟨0x30000c, "lane.patrol.period", .u16, .rwp, 0x3e8, [(100, 10000)], 1, 2, 0x0⟩,
  ⟨0x300100, "lane.select", .u8, .rw, 0, [(0, 31)], 1, 1, 0x0⟩,
  ⟨0x301000, "squad", .record, .const, 6, [], 1, 0, 0x300100⟩,
  ⟨0x301001, "squad.state", .u8, .ro, 0, [(0, 6)], 1, 0, 0x300100⟩,
  ⟨0x301002, "squad.lanes.a", .u8, .ro, 16, [(0, 16)], 1, 0, 0x300100⟩,
  ⟨0x301003, "squad.lanes.b", .u8, .ro, 16, [(0, 16)], 1, 0, 0x300100⟩,
  ⟨0x301004, "squad.spares.used", .u8, .ro, 0, [(0, 2)], 1, 0, 0x300100⟩,
  ⟨0x301005, "squad.resident", .u8, .ro, 0, [(0, 16)], 2, 0, 0x300100⟩,
  ⟨0x301006, "squad.owner", .u16, .ro, 0, [(0, 1024)], 2, 0, 0x300100⟩,
  ⟨0x320000, "pk", .record, .const, 5, [], 1, 0, 0x0⟩,
  ⟨0x320001, "pk.release.fail", .u64, .ro, 0, [], 1, 0, 0x0⟩]

/-- Rows of the Glossary tables, part 2. -/
def glossRows2 : List GRow := [
  ⟨0x320002, "pk.keygen.rebatch", .u64, .ro, 0, [], 1, 0, 0x0⟩,
  ⟨0x320003, "pk.nonce.retry", .u64, .ro, 0, [], 1, 0, 0x0⟩,
  ⟨0x320004, "pk.rsa.verify.min.bits", .u16, .const, 0x400, [], 1, 0, 0x0⟩,
  ⟨0x320005, "pk.rsa.min.bits", .u16, .const, 0x440, [], 1, 0, 0x0⟩,
  ⟨0x321000, "pq", .record, .const, 5, [], 1, 0, 0x0⟩,
  ⟨0x321001, "pq.sign.attempts", .u64, .ro, 0, [], 1, 0, 0x0⟩,
  ⟨0x321002, "pq.sign.attempts.max", .u16, .ro, 0, [(0, 814)], 1, 0, 0x0⟩,
  ⟨0x321003, "pq.sampler.extra", .u64, .ro, 0, [], 1, 0, 0x0⟩,
  ⟨0x321004, "pq.sign.deterministic", .bool, .dual, 1, [(0, 1)], 1, 3, 0x0⟩,
  ⟨0x321005, "pq.sign.attempt.cap", .u16, .const, 0x32e, [], 1, 0, 0x0⟩,
  ⟨0x330000, "keystore", .record, .const, 7, [], 1, 0, 0x0⟩,
  ⟨0x330001, "keystore.slots.total", .u32, .const, 0x1fffff, [], 1, 0, 0x0⟩,
  ⟨0x330002, "keystore.slots.used", .u32, .ro, 0, [(0, 2097151)], 1, 0, 0x0⟩,
  ⟨0x330003, "keystore.commit.ceiling", .u32, .const, 0x61a8, [], 1, 0, 0x0⟩,
  ⟨0x330004, "keystore.commit.bytes.ceiling", .u32, .const, 0x61a800, [], 1, 0, 0x0⟩,
  ⟨0x330005, "keystore.commit.rate", .u32, .ro, 0, [(0, 25000)], 1, 0, 0x0⟩,
  ⟨0x330006, "keystore.cache.miss", .u64, .ro, 0, [], 1, 0, 0x0⟩,
  ⟨0x330007, "keystore.integrity.fail", .u64, .ro, 0, [], 1, 0, 0x0⟩,
  ⟨0x330100, "keystore.select", .u16, .rw, 0, [(0, 1024)], 1, 1, 0x0⟩,
  ⟨0x331000, "keystore.partition", .record, .const, 5, [], 1, 0, 0x330100⟩,
  ⟨0x331001, "keystore.quota", .u32, .rwp, 0x400, [(0, 2097151)], 1, 2, 0x330100⟩,
  ⟨0x331002, "keystore.held", .u32, .ro, 0, [(0, 2097151)], 1, 0, 0x330100⟩,
  ⟨0x331003, "keystore.held.volatile", .u32, .ro, 0, [(0, 2097151)], 1, 0, 0x330100⟩,
  ⟨0x331004, "keystore.commits.queued", .u32, .ro, 0, [(0, 65536)], 1, 0, 0x330100⟩,
  ⟨0x331005, "keystore.purge", .bool, .dual, 0, [(1, 1)], 1, 3, 0x330100⟩,
  ⟨0x340000, "dma", .record, .const, 6, [], 1, 0, 0x0⟩,
  ⟨0x340001, "dma.channels.data", .u16, .const, 0x180, [], 1, 0, 0x0⟩,
  ⟨0x340002, "dma.channels.system", .u16, .const, 128, [], 1, 0, 0x0⟩,
  ⟨0x340003, "dma.transit.units", .u16, .const, 0x800, [], 1, 0, 0x0⟩,
  ⟨0x340004, "dma.partition.channels", .u8, .rwp, 16, [(1, 64)], 1, 2, 0x0⟩]

/-- Rows of the Glossary tables, part 3. -/
def glossRows3 : List GRow := [
  ⟨0x340005, "dma.bad.total", .u64, .ro, 0, [], 1, 0, 0x0⟩,
  ⟨0x340006, "dma.readback.fail", .u64, .ro, 0, [], 1, 0, 0x0⟩,
  ⟨0x341000, "stream", .record, .const, 6, [], 1, 0, 0x0⟩,
  ⟨0x341001, "stream.engines", .u8, .const, 12, [], 1, 0, 0x0⟩,
  ⟨0x341002, "stream.engines.lost", .u16, .ro, 0, [(0, 4095)], 1, 0, 0x0⟩,
  ⟨0x341003, "stream.open.hold", .u32, .const, 0x10000, [], 1, 0, 0x0⟩,
  ⟨0x341004, "stream.auth.fail", .u64, .ro, 0, [], 1, 0, 0x0⟩,
  ⟨0x341005, "stream.retry.total", .u64, .ro, 0, [], 1, 0, 0x0⟩,
  ⟨0x341006, "stream.bytes.total", .u64, .ro, 0, [], 1, 0, 0x0⟩,
  ⟨0x350000, "tally", .record, .const, 8, [], 1, 0, 0x0⟩,
  ⟨0x350001, "tally.classes", .u8, .const, 4, [], 1, 0, 0x0⟩,
  ⟨0x350002, "tally.minute.seq", .u64, .ro, 0, [], 1, 0, 0x0⟩,
  ⟨0x350003, "tally.minute.open", .time64, .ro, 0, [], 1, 0, 0x0⟩,
  ⟨0x350004, "tally.minute.flags", .u16, .ro, 0, [], 1, 0, 0x0⟩,
  ⟨0x350005, "tally.ring.slots", .u8, .const, 96, [], 1, 0, 0x0⟩,
  ⟨0x350006, "tally.ring.latest", .u64, .ro, 0, [], 1, 0, 0x0⟩,
  ⟨0x350007, "tally.delivery.fail", .u64, .ro, 0, [], 1, 0, 0x0⟩,
  ⟨0x350008, "tally.leaves", .u16, .const, 0x401, [], 1, 0, 0x0⟩,
  ⟨0x350100, "tally.select", .u16, .rw, 0, [(0, 1024)], 1, 1, 0x0⟩,
  ⟨0x351000, "tally.partition", .record, .const, 13, [], 1, 0, 0x350100⟩,
  ⟨0x351001, "tally.weight.lane", .q1616, .dual, 0x10000, [(0, 16777216)], 1, 3, 0x350100⟩,
  ⟨0x351002, "tally.weight.stream", .q1616, .dual, 0x1000, [(0, 16777216)], 1, 3, 0x350100⟩,
  ⟨0x351003, "tally.weight.commit", .q1616, .dual, 0x1000000, [(0, 4294901760)], 1, 3, 0x350100⟩,
  ⟨0x351004, "tally.weight.random", .q1616, .dual, 0x4000, [(0, 16777216)], 1, 3, 0x350100⟩,
  ⟨0x351005, "tally.open.acc", .q9632, .ro, 0, [], 1, 0, 0x350100⟩,
  ⟨0x351006, "tally.life.lane", .q9632, .ro, 0, [], 1, 0, 0x350100⟩,
  ⟨0x351007, "tally.life.stream", .q9632, .ro, 0, [], 1, 0, 0x350100⟩,
  ⟨0x351008, "tally.life.commit", .q9632, .ro, 0, [], 1, 0, 0x350100⟩,
  ⟨0x351009, "tally.life.random", .q9632, .ro, 0, [], 1, 0, 0x350100⟩,
  ⟨0x35100a, "tally.carry.lane", .i64, .ro, 0, [], 1, 0, 0x350100⟩]

/-- Rows of the Glossary tables, part 4. -/
def glossRows4 : List GRow := [
  ⟨0x35100b, "tally.carry.stream", .i64, .ro, 0, [], 1, 0, 0x350100⟩,
  ⟨0x35100c, "tally.carry.commit", .i64, .ro, 0, [], 1, 0, 0x350100⟩,
  ⟨0x35100d, "tally.carry.random", .i64, .ro, 0, [], 1, 0, 0x350100⟩,
  ⟨0x360000, "rng", .record, .const, 14, [], 1, 0, 0x0⟩,
  ⟨0x360001, "rng.state", .u8, .ro, 0, [(0, 2)], 1, 0, 0x0⟩,
  ⟨0x360002, "rng.jstate", .u8, .ro, 0, [(0, 2)], 1, 0, 0x0⟩,
  ⟨0x360003, "rng.healthy", .u8, .ro, 0, [(0, 255)], 1, 0, 0x0⟩,
  ⟨0x360004, "rng.cond.thermal", .u8, .dual, 0, [(0, 63)], 1, 3, 0x0⟩,
  ⟨0x360005, "rng.cond.jitter", .u8, .dual, 3, [(0, 3)], 1, 3, 0x0⟩,
  ⟨0x360006, "rng.health.rct.fail", .u64, .ro, 0, [], 1, 0, 0x0⟩,
  ⟨0x360007, "rng.health.apt.fail", .u64, .ro, 0, [], 1, 0, 0x0⟩,
  ⟨0x360008, "rng.hold.limit", .u32, .rwp, 0x2710, [(100, 600000)], 1, 2, 0x0⟩,
  ⟨0x360009, "rng.kat.run", .u8, .wo, 0, [(1, 3)], 2, 2, 0x0⟩,
  ⟨0x36000a, "rng.kat.result", .u8, .ro, 0, [(0, 3)], 1, 0, 0x0⟩,
  ⟨0x36000b, "rng.kat.cond.xor", (.octets 256), .const, 0, [], 1, 0, 0x0⟩,
  ⟨0x36000c, "rng.kat.cond.vn", (.octets 128), .const, 0, [], 1, 0, 0x0⟩,
  ⟨0x36000d, "rng.kat.drbg.expect", (.octets 64), .const, 0, [], 1, 0, 0x0⟩,
  ⟨0x36000e, "rng.host.bytes", .u64, .ro, 0, [], 1, 0, 0x0⟩,
  ⟨0x400000, "verb", .record, .const, 7, [], 1, 0, 0x0⟩,
  ⟨0x400001, "verb.isa.version", .u8, .const, 1, [], 1, 0, 0x0⟩,
  ⟨0x400002, "verb.cores", .u8, .const, 44, [], 1, 0, 0x0⟩,
  ⟨0x400003, "verb.emu.traps", .u64, .ro, 0, [], 1, 0, 0x0⟩,
  ⟨0x400004, "verb.prog.parity", .u64, .ro, 0, [], 1, 0, 0x0⟩,
  ⟨0x400005, "verb.runahead", .bool, .dual, 1, [(0, 1)], 1, 3, 0x0⟩,
  ⟨0x400006, "verb.sev.dropped", .u64, .ro, 0, [], 1, 0, 0x0⟩,
  ⟨0x400007, "verb.runahead.count", .u64, .ro, 0, [], 1, 0, 0x0⟩,
  ⟨0x402000, "exc", .record, .const, 6, [], 1, 0, 0x0⟩,
  ⟨0x402001, "exc.freeze.total", .u64, .ro, 0, [], 1, 0, 0x0⟩,
  ⟨0x402002, "exc.priv.return", .u64, .ro, 0, [], 1, 0, 0x0⟩,
  ⟨0x402003, "exc.gate.fault", .u64, .ro, 0, [], 1, 0, 0x0⟩]

/-- Rows of the Glossary tables, part 5. -/
def glossRows5 : List GRow := [
  ⟨0x402004, "exc.lockstep.diverge", .u64, .ro, 0, [], 1, 0, 0x0⟩,
  ⟨0x402005, "exc.takeover", .u64, .ro, 0, [], 1, 0, 0x0⟩,
  ⟨0x402006, "exc.standby", .bool, .ro, 1, [(0, 1)], 1, 0, 0x0⟩,
  ⟨0x410000, "guard", .record, .const, 7, [], 1, 0, 0x0⟩,
  ⟨0x410001, "guard.count", .u8, .const, 5, [], 1, 0, 0x0⟩,
  ⟨0x410002, "guard.epoch", .u64, .ro, 0, [], 1, 0, 0x0⟩,
  ⟨0x410003, "guard.commit.state", .u16, .ro, 0xfc0, [], 1, 0, 0x0⟩,
  ⟨0x410004, "guard.commit.change", .u32, .ro, 0, [], 1, 0, 0x0⟩,
  ⟨0x410005, "guard.faults", .u64, .ro, 0, [], 1, 0, 0x0⟩,
  ⟨0x410006, "guard.integrity.fail", .u64, .ro, 0, [], 1, 0, 0x0⟩,
  ⟨0x410007, "guard.overlap.refused", .u64, .ro, 0, [], 1, 0, 0x0⟩,
  ⟨0x410100, "guard.select", .u8, .rw, 0, [(0, 4)], 2, 2, 0x0⟩,
  ⟨0x410200, "guard.slot.select", .u16, .rw, 0, [(0, 511)], 2, 2, 0x0⟩,
  ⟨0x411000, "guard.view", .record, .const, 4, [], 1, 0, 0x410100⟩,
  ⟨0x411001, "guard.slots", .u16, .ro, 0, [(64, 512)], 2, 0, 0x410100⟩,
  ⟨0x411002, "guard.slots.enabled", .u16, .ro, 0, [(0, 512)], 2, 0, 0x410100⟩,
  ⟨0x411003, "guard.active", (.octets 16), .ro, 0, [], 2, 0, 0x410100⟩,
  ⟨0x411004, "guard.stage", (.octets 16), .dual, 0, [], 2, 3, 0x410100⟩,
  ⟨0x420000, "flash", .record, .const, 8, [], 1, 0, 0x0⟩,
  ⟨0x420001, "flash.slot.running", .u8, .ro, 0, [(0, 2)], 1, 0, 0x0⟩,
  ⟨0x420002, "flash.slot.valid", .u8, .ro, 0, [(0, 3)], 1, 0, 0x0⟩,
  ⟨0x420003, "flash.svn.floor", .u32, .ro, 0, [], 1, 0, 0x0⟩,
  ⟨0x420004, "flash.code.torn", .u16, .ro, 0, [(0, 16384)], 1, 0, 0x0⟩,
  ⟨0x420005, "flash.code.erase.max", .u32, .ro, 0, [], 1, 0, 0x0⟩,
  ⟨0x420006, "flash.code.degraded", .bool, .ro, 0, [(0, 1)], 1, 0, 0x0⟩,
  ⟨0x420007, "flash.code.retry", .u64, .ro, 0, [], 1, 0, 0x0⟩,
  ⟨0x420008, "flash.erase.rest", .u32, .const, 0x1c20, [], 1, 0, 0x0⟩,
  ⟨0x421000, "flash.vault", .record, .const, 8, [], 1, 0, 0x0⟩,
  ⟨0x421001, "flash.vault.live", .u64, .ro, 0, [], 1, 0, 0x0⟩,
  ⟨0x421002, "flash.vault.retired", .u16, .ro, 0, [(0, 43520)], 1, 0, 0x0⟩]

/-- Rows of the Glossary tables, part 6. -/
def glossRows6 : List GRow := [
  ⟨0x421003, "flash.vault.erase.max", .u32, .ro, 0, [], 1, 0, 0x0⟩,
  ⟨0x421004, "flash.vault.wear", .u16, .ro, 0, [(0, 1000)], 1, 0, 0x0⟩,
  ⟨0x421005, "flash.vault.rate", .u32, .ro, 0, [], 1, 0, 0x0⟩,
  ⟨0x421006, "flash.vault.budget", .u32, .const, 0x337f980, [], 1, 0, 0x0⟩,
  ⟨0x421007, "flash.vault.relocated", .u64, .ro, 0, [], 1, 0, 0x0⟩,
  ⟨0x421008, "flash.vault.read.fail", .u64, .ro, 0, [], 1, 0, 0x0⟩,
  ⟨0x120000, "time", .record, .const, 12, [], 1, 0, 0x0⟩,
  ⟨0x120001, "time.state", .u8, .ro, 2, [(0, 2)], 1, 0, 0x0⟩,
  ⟨0x120002, "time.dtb", .time64, .ro, 0, [], 1, 0, 0x0⟩,
  ⟨0x120003, "time.rate", .i64, .ro, 0, [], 1, 0, 0x0⟩,
  ⟨0x120004, "time.rate.freq", .i64, .ro, 0, [], 1, 0, 0x0⟩,
  ⟨0x120005, "time.ptm.valid", .u64, .ro, 0, [], 1, 0, 0x0⟩,
  ⟨0x120006, "time.ptm.discarded", .u64, .ro, 0, [], 1, 0, 0x0⟩,
  ⟨0x120007, "time.holdover.left", .u32, .ro, 0, [(0, 3600)], 1, 0, 0x0⟩,
  ⟨0x120008, "time.set.count", .u64, .ro, 0, [], 1, 0, 0x0⟩,
  ⟨0x120009, "time.otc", .u64, .ro, 0, [(0, 281474976710655)], 1, 0, 0x0⟩,
  ⟨0x12000a, "time.pcc", .u32, .ro, 0, [], 1, 0, 0x0⟩,
  ⟨0x12000b, "time.st", .u64, .ro, 0, [(0, 281474976710655)], 1, 0, 0x0⟩,
  ⟨0x12000c, "time.aseq", .u64, .ro, 0, [], 1, 0, 0x0⟩,
  ⟨0x120100, "island.select", .u8, .rw, 0, [(0, 243)], 1, 1, 0x0⟩,
  ⟨0x121000, "island", .record, .const, 5, [], 1, 0, 0x120100⟩,
  ⟨0x121001, "island.name", (.text 12), .ro, 0, [], 1, 0, 0x120100⟩,
  ⟨0x121002, "island.die", .u8, .ro, 0, [(0, 1)], 1, 0, 0x120100⟩,
  ⟨0x121003, "island.clock.nominal", .u32, .ro, 0, [], 1, 0, 0x120100⟩,
  ⟨0x121004, "island.clock.now", .u32, .ro, 0, [], 1, 0, 0x120100⟩,
  ⟨0x121005, "island.state", .u8, .ro, 0, [(0, 3)], 1, 0, 0x120100⟩,
  ⟨0x110000, "mode", .record, .const, 13, [], 1, 0, 0x0⟩,
  ⟨0x110001, "mode.current", .u8, .ro, 0, [(0, 7)], 1, 0, 0x0⟩,
  ⟨0x110002, "mode.code", .u16, .ro, 0x5a5, [], 1, 0, 0x0⟩,
  ⟨0x110003, "mode.phase", .u16, .ro, 0x5a5, [], 1, 0, 0x0⟩]

/-- Rows of the Glossary tables, part 7. -/
def glossRows7 : List GRow := [
  ⟨0x110004, "mode.previous", .u8, .ro, 0, [(0, 7)], 1, 0, 0x0⟩,
  ⟨0x110005, "mode.target", .u8, .rw, 3, [(3, 4)], 1, 2, 0x0⟩,
  ⟨0x110006, "mode.lean.cause", .u8, .ro, 0, [(0, 3)], 1, 0, 0x0⟩,
  ⟨0x110007, "mode.power.now", .u16, .ro, 0, [(0, 150)], 1, 0, 0x0⟩,
  ⟨0x110008, "mode.power.cap", .u16, .ro, 150, [(60, 150)], 1, 0, 0x0⟩,
  ⟨0x110009, "mode.service", .bool, .dual, 0, [(1, 1)], 1, 3, 0x0⟩,
  ⟨0x11000a, "mode.service.end", .bool, .wo, 0, [(1, 1)], 3, 3, 0x0⟩,
  ⟨0x11000b, "mode.service.limit", .u32, .rwp, 0x3840, [(60, 86400)], 1, 3, 0x0⟩,
  ⟨0x11000c, "mode.transitions", .u64, .ro, 0, [], 1, 0, 0x0⟩,
  ⟨0x11000d, "mode.refused.last", .u16, .ro, 0, [], 1, 0, 0x0⟩,
  ⟨0x110100, "changeover", .record, .const, 4, [], 1, 0, 0x0⟩,
  ⟨0x110101, "changeover.slot", .u8, .dual, 0, [(0, 1)], 1, 3, 0x0⟩,
  ⟨0x110102, "changeover.raise.floor", .bool, .dual, 0, [(0, 1)], 1, 3, 0x0⟩,
  ⟨0x110103, "changeover.progress", .u8, .ro, 0, [(0, 42)], 1, 0, 0x0⟩,
  ⟨0x110104, "changeover.result", .u8, .ro, 0, [(0, 3)], 1, 0, 0x0⟩,
  ⟨0x112000, "power.island", .record, .const, 5, [], 1, 0, 0x120100⟩,
  ⟨0x112001, "power.island.name", (.text 12), .ro, 0, [], 1, 0, 0x120100⟩,
  ⟨0x112002, "power.island.domain", .u8, .ro, 0, [(0, 3)], 1, 0, 0x120100⟩,
  ⟨0x112003, "power.island.refusals", .u32, .ro, 0, [], 1, 0, 0x120100⟩,
  ⟨0x112004, "power.island.reason", .u8, .ro, 0, [(0, 7)], 1, 0, 0x120100⟩,
  ⟨0x112005, "power.island.delays", .u64, .ro, 0, [], 1, 0, 0x120100⟩,
  ⟨0x100000, "life", .record, .const, 8, [], 1, 0, 0x0⟩,
  ⟨0x100001, "life.serial", (.octets 16), .const, 0, [], 1, 0, 0x0⟩,
  ⟨0x100002, "life.state", .u16, .ro, 0x3cc, [], 1, 0, 0x0⟩,
  ⟨0x100003, "life.seq", .u32, .ro, 1, [], 1, 0, 0x0⟩,
  ⟨0x100004, "life.target", .u8, .dual, 0, [(1, 3)], 1, 3, 0x0⟩,
  ⟨0x100005, "life.change.step", .u8, .ro, 0, [(0, 5)], 1, 0, 0x0⟩,
  ⟨0x100006, "life.dik.cert", (.octets 4096), .ro, 0, [], 1, 0, 0x0⟩,
  ⟨0x100007, "life.minute.cert", (.octets 8192), .ro, 0, [], 1, 0, 0x0⟩,
  ⟨0x100008, "life.root.held", .bool, .ro, 0, [(0, 1)], 1, 0, 0x0⟩]

/-- Rows of the Glossary tables, part 8. -/
def glossRows8 : List GRow := [
  ⟨0x130000, "boot", .record, .const, 9, [], 1, 0, 0x0⟩,
  ⟨0x130001, "boot.assay.ms", .u32, .ro, 0, [], 1, 0, 0x0⟩,
  ⟨0x130002, "boot.result", .u8, .ro, 0, [(0, 2)], 1, 0, 0x0⟩,
  ⟨0x130003, "boot.units.lost", .u16, .ro, 0, [], 1, 0, 0x0⟩,
  ⟨0x130004, "boot.root.due", .bool, .ro, 0, [(0, 1)], 1, 0, 0x0⟩,
  ⟨0x130005, "repair.sram.spares", .u32, .const, 0xa200, [], 1, 0, 0x0⟩,
  ⟨0x130006, "repair.sram.used", .u32, .ro, 0, [(0, 41472)], 1, 0, 0x0⟩,
  ⟨0x130007, "repair.runtime", .u64, .ro, 0, [], 1, 0, 0x0⟩,
  ⟨0x130008, "repair.ecc.corrected", .u64, .ro, 0, [], 1, 0, 0x0⟩,
  ⟨0x130009, "attest.log.count", .u16, .const, 8, [], 1, 0, 0x0⟩,
  ⟨0x500000, "tamper", .record, .const, 9, [], 1, 0, 0x0⟩,
  ⟨0x500001, "tamper.monitors", .u8, .const, 21, [], 1, 0, 0x0⟩,
  ⟨0x500002, "tamper.alert.pending", .u32, .w1c, 0, [], 1, 2, 0x0⟩,
  ⟨0x500003, "tamper.wake.enable", .bool, .rwp, 0, [(0, 1)], 1, 2, 0x0⟩,
  ⟨0x500004, "tamper.alarms.total", .u64, .ro, 0, [], 1, 0, 0x0⟩,
  ⟨0x500005, "tamper.root.erased", .u64, .ro, 0, [], 1, 0, 0x0⟩,
  ⟨0x500006, "tamper.lockdown.cause", .u8, .ro, 255, [(0, 20), (255, 255)], 1, 0, 0x0⟩,
  ⟨0x500007, "tamper.quiesce.active", .bool, .ro, 0, [(0, 1)], 1, 0, 0x0⟩,
  ⟨0x500008, "tamper.state.corrected", .u64, .ro, 0, [], 1, 0, 0x0⟩,
  ⟨0x500009, "sentinel.overflow", .u32, .ro, 0, [], 1, 0, 0x0⟩,
  ⟨0x500100, "tamper.select", .u8, .rw, 0, [(0, 20)], 1, 1, 0x0⟩,
  ⟨0x501000, "tamper.mon", .record, .const, 7, [], 1, 0, 0x500100⟩,
  ⟨0x501001, "tamper.mon.name", (.text 12), .ro, 0, [], 1, 0, 0x500100⟩,
  ⟨0x501002, "tamper.mon.n", .u8, .dual, 0, [(1, 255)], 1, 3, 0x500100⟩,
  ⟨0x501003, "tamper.mon.w", .u16, .dual, 0, [(1, 60000)], 1, 3, 0x500100⟩,
  ⟨0x501004, "tamper.mon.response", .u8, .dual, 0, [(0, 4)], 1, 3, 0x500100⟩,
  ⟨0x501005, "tamper.mon.floor", .u8, .ro, 0, [(0, 4)], 1, 0, 0x500100⟩,
  ⟨0x501006, "tamper.mon.events", .u64, .ro, 0, [], 1, 0, 0x500100⟩,
  ⟨0x501007, "tamper.mon.alarms", .u64, .ro, 0, [], 1, 0, 0x500100⟩,
  ⟨0x510000, "evr", .record, .const, 11, [], 1, 0, 0x0⟩]

/-- Rows of the Glossary tables, part 9. -/
def glossRows9 : List GRow := [
  ⟨0x510001, "evr.rnum.next", .u64, .ro, 0, [], 1, 0, 0x0⟩,
  ⟨0x510002, "evr.founding.used", .u32, .ro, 0, [(0, 65536)], 1, 0, 0x0⟩,
  ⟨0x510003, "evr.founding.reserved", .u16, .const, 0x1000, [], 1, 0, 0x0⟩,
  ⟨0x510004, "evr.rolling.oldest", .u64, .ro, 0, [], 1, 0, 0x0⟩,
  ⟨0x510005, "evr.suppressed.total", .u64, .ro, 0, [], 1, 0, 0x0⟩,
  ⟨0x510006, "evr.coalesced.total", .u64, .ro, 0, [], 1, 0, 0x0⟩,
  ⟨0x510007, "evr.queue.depth", .u16, .ro, 0, [(0, 4096)], 1, 0, 0x0⟩,
  ⟨0x510008, "evr.rate.global", .u16, .const, 0xf00, [], 1, 0, 0x0⟩,
  ⟨0x510009, "evr.read.area", .u8, .rw, 0, [(0, 1)], 2, 2, 0x0⟩,
  ⟨0x51000a, "evr.read.cursor", .u64, .rw, 0, [], 2, 2, 0x0⟩,
  ⟨0x51000b, "evr.read.block", (.octets 4096), .ro, 0, [], 2, 0, 0x0⟩,
  ⟨0x520000, "gls", .record, .const, 4, [], 1, 0, 0x0⟩,
  ⟨0x520001, "gls.rwp.interval", .u16, .const, 10, [], 1, 0, 0x0⟩,
  ⟨0x520002, "gls.rwp.busy", .u64, .ro, 0, [], 1, 0, 0x0⟩,
  ⟨0x520003, "gls.denied", .u64, .ro, 0, [], 1, 0, 0x0⟩,
  ⟨0x520004, "config.epoch", .u64, .ro, 0, [], 1, 0, 0x0⟩,
  ⟨0x521000, "mgmt", .record, .const, 11, [], 1, 0, 0x0⟩,
  ⟨0x521001, "mgmt.enable", .bool, .rwp, 1, [(0, 1)], 1, 2, 0x0⟩,
  ⟨0x521002, "mgmt.mac", (.octets 6), .const, 0, [], 1, 0, 0x0⟩,
  ⟨0x521003, "mgmt.term", .bool, .rwp, 0, [(0, 1)], 1, 2, 0x0⟩,
  ⟨0x521004, "mgmt.plca.id", .u8, .rwp, 255, [(0, 15), (255, 255)], 1, 2, 0x0⟩,
  ⟨0x521005, "mgmt.plca.count", .u8, .rwp, 16, [(1, 16)], 1, 2, 0x0⟩,
  ⟨0x521006, "mgmt.plca.to", .u8, .rwp, 32, [(1, 255)], 1, 2, 0x0⟩,
  ⟨0x521007, "mgmt.plca.burst", .u8, .rwp, 0, [(0, 255)], 1, 2, 0x0⟩,
  ⟨0x521008, "mgmt.gap.port", .u16, .const, 0xb870, [], 1, 0, 0x0⟩,
  ⟨0x521009, "mgmt.gap.sessions", .u8, .ro, 0, [(0, 8)], 1, 0, 0x0⟩,
  ⟨0x52100a, "mgmt.gap.rejected", .u64, .ro, 0, [], 1, 0, 0x0⟩,
  ⟨0x52100b, "mgmt.rx.dropped", .u64, .ro, 0, [], 1, 0, 0x0⟩,
  ⟨0x522000, "cs", .record, .const, 5, [], 1, 0, 0x0⟩,
  ⟨0x522001, "cs.window", .u32, .dual, 0x258, [(60, 3600)], 1, 3, 0x0⟩]

/-- Rows of the Glossary tables, part 10. -/
def glossRows10 : List GRow := [
  ⟨0x522002, "cs.next.id", .u32, .ro, 1, [], 1, 0, 0x0⟩,
  ⟨0x522003, "cs.held", .u8, .ro, 0, [(0, 16)], 1, 0, 0x0⟩,
  ⟨0x522004, "cs.committed", .u64, .ro, 0, [], 1, 0, 0x0⟩,
  ⟨0x522005, "cs.expired", .u64, .ro, 0, [], 1, 0, 0x0⟩,
  ⟨0x522100, "cs.select", .u8, .rw, 0, [(0, 15)], 1, 1, 0x0⟩,
  ⟨0x523000, "cs.slot", .record, .const, 6, [], 1, 0, 0x522100⟩,
  ⟨0x523001, "cs.slot.state", .u16, .ro, 0x356, [], 1, 0, 0x522100⟩,
  ⟨0x523002, "cs.slot.id", .u32, .ro, 0, [], 1, 0, 0x522100⟩,
  ⟨0x523003, "cs.slot.hash", (.octets 48), .ro, 0, [], 1, 0, 0x522100⟩,
  ⟨0x523004, "cs.slot.left", .u32, .ro, 0, [(0, 3600)], 1, 0, 0x522100⟩,
  ⟨0x523005, "cs.slot.final", .u16, .ro, 0, [], 1, 0, 0x522100⟩,
  ⟨0x523006, "cs.slot.reason", .u8, .ro, 0, [(0, 5)], 1, 0, 0x522100⟩,
  ⟨0x524100, "cred.select", .u8, .rw, 0, [(0, 31)], 1, 1, 0x0⟩,
  ⟨0x525000, "cred", .record, .const, 4, [], 1, 0, 0x524100⟩,
  ⟨0x525001, "cred.role", .u8, .dual, 0, [(0, 4)], 1, 3, 0x524100⟩,
  ⟨0x525002, "cred.key", (.octets 97), .dual, 0, [], 1, 3, 0x524100⟩,
  ⟨0x525003, "cred.label", (.text 16), .dual, 0, [], 1, 3, 0x524100⟩,
  ⟨0x525004, "cred.counter", .u32, .ro, 0, [], 1, 0, 0x524100⟩,
  ⟨0x530000, "card", .record, .const, 12, [], 1, 0, 0x0⟩,
  ⟨0x530001, "card.state", .u8, .ro, 0, [(0, 5)], 1, 0, 0x0⟩,
  ⟨0x530002, "card.class", .u8, .ro, 0, [(0, 2)], 1, 0, 0x0⟩,
  ⟨0x530003, "card.fidi", .u8, .ro, 17, [], 1, 0, 0x0⟩,
  ⟨0x530004, "card.clock.khz", .u32, .ro, 0, [(0, 5000)], 1, 0, 0x0⟩,
  ⟨0x530005, "card.clock.tail", .u16, .rwp, 0x744, [(1, 65535)], 1, 2, 0x0⟩,
  ⟨0x530006, "card.cred", .u8, .ro, 255, [(0, 31), (255, 255)], 1, 0, 0x0⟩,
  ⟨0x530007, "card.counter", .u32, .ro, 0, [], 1, 0, 0x0⟩,
  ⟨0x530008, "card.request", (.octets 16), .wo, 0, [], 1, 1, 0x0⟩,
  ⟨0x530009, "card.result", .u16, .ro, 0, [], 1, 0, 0x0⟩,
  ⟨0x53000a, "card.midstep", .u32, .ro, 0, [], 1, 0, 0x0⟩,
  ⟨0x53000b, "card.midstep.clear", .bool, .wo, 0, [(1, 1)], 3, 3, 0x0⟩]

/-- Rows of the Glossary tables, part 11. -/
def glossRows11 : List GRow := [
  ⟨0x53000c, "card.removed.midstep", .u64, .ro, 0, [], 1, 0, 0x0⟩,
  ⟨0x540000, "field", .record, .const, 10, [], 1, 0, 0x0⟩,
  ⟨0x540001, "field.reader.enable", .bool, .rwp, 1, [(0, 1)], 1, 2, 0x0⟩,
  ⟨0x540002, "field.ping.period", .u16, .const, 250, [], 1, 0, 0x0⟩,
  ⟨0x540003, "field.ping.threshold", .u16, .rwp, 40, [(5, 500)], 1, 2, 0x0⟩,
  ⟨0x540004, "field.badge.state", .u8, .ro, 0, [(0, 5)], 1, 0, 0x0⟩,
  ⟨0x540005, "field.badge.cred", .u8, .ro, 255, [(0, 31), (255, 255)], 1, 0, 0x0⟩,
  ⟨0x540006, "field.badge.rate", .u16, .ro, 0, [(0, 848)], 1, 0, 0x0⟩,
  ⟨0x540007, "field.request", (.octets 16), .wo, 0, [], 1, 1, 0x0⟩,
  ⟨0x540008, "field.result", .u16, .ro, 0, [], 1, 0, 0x0⟩,
  ⟨0x540009, "field.external", .bool, .ro, 0, [(0, 1)], 1, 0, 0x0⟩,
  ⟨0x54000a, "field.collisions", .u64, .ro, 0, [], 1, 0, 0x0⟩,
  ⟨0x541000, "tag", .record, .const, 9, [], 1, 0, 0x0⟩,
  ⟨0x541001, "tag.field.write", .bool, .rwp, 0, [(0, 1)], 1, 2, 0x0⟩,
  ⟨0x541002, "tag.budget", .u16, .const, 0x7d0, [], 1, 0, 0x0⟩,
  ⟨0x541003, "tag.budget.used", .u16, .ro, 0, [(0, 2000)], 1, 0, 0x0⟩,
  ⟨0x541004, "tag.mem.offset", .u16, .rw, 0, [(0, 7936)], 1, 1, 0x0⟩,
  ⟨0x541005, "tag.mem.block", (.octets 256), .rwp, 0, [], 1, 2, 0x541004⟩,
  ⟨0x541006, "tag.counter.select", .u8, .rw, 0, [(0, 15)], 1, 1, 0x0⟩,
  ⟨0x541007, "tag.counter.value", .u32, .ro, 0, [], 1, 0, 0x541006⟩,
  ⟨0x541008, "tag.counter.add", .u32, .wo, 0, [(1, 4294967295)], 2, 2, 0x541006⟩,
  ⟨0x541009, "tag.busy", .u64, .ro, 0, [], 1, 0, 0x0⟩]

/-- Every row of the Glossary. -/
def glossRows : List GRow :=
  glossRows0 ++ glossRows1 ++ glossRows2 ++ glossRows3 ++ glossRows4 ++ glossRows5 ++ glossRows6 ++ glossRows7 ++ glossRows8 ++ glossRows9 ++ glossRows10 ++ glossRows11

/-- 0x2000.01 -/
def gLinkWidth : GE := ⟨0x200001, 0⟩
/-- 0x2000.02 -/
def gLinkRate : GE := ⟨0x200002, 0⟩
/-- 0x2000.03 -/
def gLinkAerCieReport : GE := ⟨0x200003, 0⟩
/-- 0x2000.04 -/
def gLinkRecoveryCount : GE := ⟨0x200004, 0⟩
/-- 0x2000.05 -/
def gLinkNumvfs : GE := ⟨0x200005, 0⟩
/-- 0x2101.00 -/
def gPartitionHostSelect : GE := ⟨0x210100, 1⟩
/-- 0x2110.01 -/
def gPartitionEventVector : GE := ⟨0x211001, 0⟩
/-- 0x2110.02 -/
def gPartitionProxyDropped : GE := ⟨0x211002, 0⟩
/-- 0x2110.03 -/
def gPartitionTdiState : GE := ⟨0x211003, 0⟩
/-- 0x2200.01 -/
def gIntakeContextsTotal : GE := ⟨0x220001, 65536⟩
/-- 0x2200.02 -/
def gIntakeContextsUsed : GE := ⟨0x220002, 0⟩
/-- 0x2200.03 -/
def gIntakeStageSlots : GE := ⟨0x220003, 1024⟩
/-- 0x2200.04 -/
def gIntakeStageReserve : GE := ⟨0x220004, 4⟩
/-- 0x2200.05 -/
def gIntakeStageLimit : GE := ⟨0x220005, 64⟩
/-- 0x2200.06 -/
def gIntakeSquashTotal : GE := ⟨0x220006, 0⟩
/-- 0x2201.00 -/
def gIntakeSelect : GE := ⟨0x220100, 0⟩
/-- 0x2210.01 -/
def gPartitionCap : GE := ⟨0x221001, 4096⟩
/-- 0x2210.02 -/
def gPartitionWeight : GE := ⟨0x221002, 16⟩
/-- 0x2210.03 -/
def gPartitionInflight : GE := ⟨0x221003, 0⟩
/-- 0x2210.04 -/
def gPartitionDeficit : GE := ⟨0x221004, 0⟩
/-- 0x2210.05 -/
def gPartitionStaged : GE := ⟨0x221005, 0⟩
/-- 0x2210.06 -/
def gPartitionCapWaits : GE := ⟨0x221006, 0⟩
/-- 0x3100.01 -/
def gRnsBaseSize : GE := ⟨0x310001, 144⟩
/-- 0x3100.02 -/
def gRnsFracBits : GE := ⟨0x310002, 32⟩
/-- 0x3100.03 -/
def gRnsSumA : GE := ⟨0x310003, 446318⟩
/-- 0x3100.04 -/
def gRnsSumB : GE := ⟨0x310004, 1339486⟩
/-- 0x3100.05 -/
def gRnsSumWeighted : GE := ⟨0x310005, 342074054⟩
/-- 0x3100.06 -/
def gRnsTableFailed : GE := ⟨0x310006, 0⟩
/-- 0x3100.07 -/
def gRnsWatchMismatch : GE := ⟨0x310007, 0⟩
/-- 0x3100.08 -/
def gRnsNarrowCheckFail : GE := ⟨0x310008, 0⟩
/-- 0x3100.09 -/
def gRnsSelftestRun : GE := ⟨0x310009, 0⟩
/-- 0x3100.0A -/
def gRnsSelftestResult : GE := ⟨0x31000a, 0⟩
/-- 0x3000.01 -/
def gLaneSquads : GE := ⟨0x300001, 32⟩
/-- 0x3000.02 -/
def gLaneActiveNominal : GE := ⟨0x300002, 1024⟩
/-- 0x3000.03 -/
def gLaneActiveNow : GE := ⟨0x300003, 1024⟩
/-- 0x3000.04 -/
def gLaneSparesLeft : GE := ⟨0x300004, 64⟩
/-- 0x3000.05 -/
def gLaneSquadsLost : GE := ⟨0x300005, 0⟩
/-- 0x3000.06 -/
def gLaneSquadsDegraded : GE := ⟨0x300006, 0⟩
/-- 0x3000.07 -/
def gLaneDmax : GE := ⟨0x300007, 268435456⟩
/-- 0x3000.08 -/
def gLaneGangParked : GE := ⟨0x300008, 0⟩
/-- 0x3000.09 -/
def gLaneRetryTotal : GE := ⟨0x300009, 0⟩
/-- 0x3000.0A -/
def gLaneRetryExhausted : GE := ⟨0x30000a, 0⟩
/-- 0x3000.0B -/
def gLaneWipeOwner : GE := ⟨0x30000b, 0⟩
/-- 0x3000.0C -/
def gLanePatrolPeriod : GE := ⟨0x30000c, 1000⟩
/-- 0x3001.00 -/
def gLaneSelect : GE := ⟨0x300100, 0⟩
/-- 0x3010.01 -/
def gSquadState : GE := ⟨0x301001, 0⟩
/-- 0x3010.02 -/
def gSquadLanesA : GE := ⟨0x301002, 16⟩
/-- 0x3010.03 -/
def gSquadLanesB : GE := ⟨0x301003, 16⟩
/-- 0x3010.04 -/
def gSquadSparesUsed : GE := ⟨0x301004, 0⟩
/-- 0x3010.05 -/
def gSquadResident : GE := ⟨0x301005, 0⟩
/-- 0x3010.06 -/
def gSquadOwner : GE := ⟨0x301006, 0⟩
/-- 0x3200.01 -/
def gPkReleaseFail : GE := ⟨0x320001, 0⟩
/-- 0x3200.02 -/
def gPkKeygenRebatch : GE := ⟨0x320002, 0⟩
/-- 0x3200.03 -/
def gPkNonceRetry : GE := ⟨0x320003, 0⟩
/-- 0x3200.04 -/
def gPkRsaVerifyMinBits : GE := ⟨0x320004, 1024⟩
/-- 0x3200.05 -/
def gPkRsaMinBits : GE := ⟨0x320005, 1088⟩
/-- 0x3210.01 -/
def gPqSignAttempts : GE := ⟨0x321001, 0⟩
/-- 0x3210.02 -/
def gPqSignAttemptsMax : GE := ⟨0x321002, 0⟩
/-- 0x3210.03 -/
def gPqSamplerExtra : GE := ⟨0x321003, 0⟩
/-- 0x3210.04 -/
def gPqSignDeterministic : GE := ⟨0x321004, 1⟩
/-- 0x3210.05 -/
def gPqSignAttemptCap : GE := ⟨0x321005, 814⟩
/-- 0x3300.01 -/
def gKeystoreSlotsTotal : GE := ⟨0x330001, 2097151⟩
/-- 0x3300.02 -/
def gKeystoreSlotsUsed : GE := ⟨0x330002, 0⟩
/-- 0x3300.03 -/
def gKeystoreCommitCeiling : GE := ⟨0x330003, 25000⟩
/-- 0x3300.04 -/
def gKeystoreCommitBytesCeiling : GE := ⟨0x330004, 6400000⟩
/-- 0x3300.05 -/
def gKeystoreCommitRate : GE := ⟨0x330005, 0⟩
/-- 0x3300.06 -/
def gKeystoreCacheMiss : GE := ⟨0x330006, 0⟩
/-- 0x3300.07 -/
def gKeystoreIntegrityFail : GE := ⟨0x330007, 0⟩
/-- 0x3301.00 -/
def gKeystoreSelect : GE := ⟨0x330100, 0⟩
/-- 0x3310.01 -/
def gKeystoreQuota : GE := ⟨0x331001, 1024⟩
/-- 0x3310.02 -/
def gKeystoreHeld : GE := ⟨0x331002, 0⟩
/-- 0x3310.03 -/
def gKeystoreHeldVolatile : GE := ⟨0x331003, 0⟩
/-- 0x3310.04 -/
def gKeystoreCommitsQueued : GE := ⟨0x331004, 0⟩
/-- 0x3310.05 -/
def gKeystorePurge : GE := ⟨0x331005, 0⟩
/-- 0x3400.01 -/
def gDmaChannelsData : GE := ⟨0x340001, 384⟩
/-- 0x3400.02 -/
def gDmaChannelsSystem : GE := ⟨0x340002, 128⟩
/-- 0x3400.03 -/
def gDmaTransitUnits : GE := ⟨0x340003, 2048⟩
/-- 0x3400.04 -/
def gDmaPartitionChannels : GE := ⟨0x340004, 16⟩
/-- 0x3400.05 -/
def gDmaBadTotal : GE := ⟨0x340005, 0⟩
/-- 0x3400.06 -/
def gDmaReadbackFail : GE := ⟨0x340006, 0⟩
/-- 0x3410.01 -/
def gStreamEngines : GE := ⟨0x341001, 12⟩
/-- 0x3410.02 -/
def gStreamEnginesLost : GE := ⟨0x341002, 0⟩
/-- 0x3410.03 -/
def gStreamOpenHold : GE := ⟨0x341003, 65536⟩
/-- 0x3410.04 -/
def gStreamAuthFail : GE := ⟨0x341004, 0⟩
/-- 0x3410.05 -/
def gStreamRetryTotal : GE := ⟨0x341005, 0⟩
/-- 0x3410.06 -/
def gStreamBytesTotal : GE := ⟨0x341006, 0⟩
/-- 0x3500.01 -/
def gTallyClasses : GE := ⟨0x350001, 4⟩
/-- 0x3500.02 -/
def gTallyMinuteSeq : GE := ⟨0x350002, 0⟩
/-- 0x3500.03 -/
def gTallyMinuteOpen : GE := ⟨0x350003, 0⟩
/-- 0x3500.04 -/
def gTallyMinuteFlags : GE := ⟨0x350004, 0⟩
/-- 0x3500.05 -/
def gTallyRingSlots : GE := ⟨0x350005, 96⟩
/-- 0x3500.06 -/
def gTallyRingLatest : GE := ⟨0x350006, 0⟩
/-- 0x3500.07 -/
def gTallyDeliveryFail : GE := ⟨0x350007, 0⟩
/-- 0x3500.08 -/
def gTallyLeaves : GE := ⟨0x350008, 1025⟩
/-- 0x3501.00 -/
def gTallySelect : GE := ⟨0x350100, 0⟩
/-- 0x3510.01 -/
def gTallyWeightLane : GE := ⟨0x351001, 65536⟩
/-- 0x3510.02 -/
def gTallyWeightStream : GE := ⟨0x351002, 4096⟩
/-- 0x3510.03 -/
def gTallyWeightCommit : GE := ⟨0x351003, 16777216⟩
/-- 0x3510.04 -/
def gTallyWeightRandom : GE := ⟨0x351004, 16384⟩
/-- 0x3510.05 -/
def gTallyOpenAcc : GE := ⟨0x351005, 0⟩
/-- 0x3510.06 -/
def gTallyLifeLane : GE := ⟨0x351006, 0⟩
/-- 0x3510.07 -/
def gTallyLifeStream : GE := ⟨0x351007, 0⟩
/-- 0x3510.08 -/
def gTallyLifeCommit : GE := ⟨0x351008, 0⟩
/-- 0x3510.09 -/
def gTallyLifeRandom : GE := ⟨0x351009, 0⟩
/-- 0x3510.0A -/
def gTallyCarryLane : GE := ⟨0x35100a, 0⟩
/-- 0x3510.0B -/
def gTallyCarryStream : GE := ⟨0x35100b, 0⟩
/-- 0x3510.0C -/
def gTallyCarryCommit : GE := ⟨0x35100c, 0⟩
/-- 0x3510.0D -/
def gTallyCarryRandom : GE := ⟨0x35100d, 0⟩
/-- 0x3600.01 -/
def gRngState : GE := ⟨0x360001, 0⟩
/-- 0x3600.02 -/
def gRngJstate : GE := ⟨0x360002, 0⟩
/-- 0x3600.03 -/
def gRngHealthy : GE := ⟨0x360003, 0⟩
/-- 0x3600.04 -/
def gRngCondThermal : GE := ⟨0x360004, 0⟩
/-- 0x3600.05 -/
def gRngCondJitter : GE := ⟨0x360005, 3⟩
/-- 0x3600.06 -/
def gRngHealthRctFail : GE := ⟨0x360006, 0⟩
/-- 0x3600.07 -/
def gRngHealthAptFail : GE := ⟨0x360007, 0⟩
/-- 0x3600.08 -/
def gRngHoldLimit : GE := ⟨0x360008, 10000⟩
/-- 0x3600.09 -/
def gRngKatRun : GE := ⟨0x360009, 0⟩
/-- 0x3600.0A -/
def gRngKatResult : GE := ⟨0x36000a, 0⟩
/-- 0x3600.0B -/
def gRngKatCondXor : GE := ⟨0x36000b, 0⟩
/-- 0x3600.0C -/
def gRngKatCondVn : GE := ⟨0x36000c, 0⟩
/-- 0x3600.0D -/
def gRngKatDrbgExpect : GE := ⟨0x36000d, 0⟩
/-- 0x3600.0E -/
def gRngHostBytes : GE := ⟨0x36000e, 0⟩
/-- 0x4000.01 -/
def gVerbIsaVersion : GE := ⟨0x400001, 1⟩
/-- 0x4000.02 -/
def gVerbCores : GE := ⟨0x400002, 44⟩
/-- 0x4000.03 -/
def gVerbEmuTraps : GE := ⟨0x400003, 0⟩
/-- 0x4000.04 -/
def gVerbProgParity : GE := ⟨0x400004, 0⟩
/-- 0x4000.05 -/
def gVerbRunahead : GE := ⟨0x400005, 1⟩
/-- 0x4000.06 -/
def gVerbSevDropped : GE := ⟨0x400006, 0⟩
/-- 0x4000.07 -/
def gVerbRunaheadCount : GE := ⟨0x400007, 0⟩
/-- 0x4020.01 -/
def gExcFreezeTotal : GE := ⟨0x402001, 0⟩
/-- 0x4020.02 -/
def gExcPrivReturn : GE := ⟨0x402002, 0⟩
/-- 0x4020.03 -/
def gExcGateFault : GE := ⟨0x402003, 0⟩
/-- 0x4020.04 -/
def gExcLockstepDiverge : GE := ⟨0x402004, 0⟩
/-- 0x4020.05 -/
def gExcTakeover : GE := ⟨0x402005, 0⟩
/-- 0x4020.06 -/
def gExcStandby : GE := ⟨0x402006, 1⟩
/-- 0x4100.01 -/
def gGuardCount : GE := ⟨0x410001, 5⟩
/-- 0x4100.02 -/
def gGuardEpoch : GE := ⟨0x410002, 0⟩
/-- 0x4100.03 -/
def gGuardCommitState : GE := ⟨0x410003, 4032⟩
/-- 0x4100.04 -/
def gGuardCommitChange : GE := ⟨0x410004, 0⟩
/-- 0x4100.05 -/
def gGuardFaults : GE := ⟨0x410005, 0⟩
/-- 0x4100.06 -/
def gGuardIntegrityFail : GE := ⟨0x410006, 0⟩
/-- 0x4100.07 -/
def gGuardOverlapRefused : GE := ⟨0x410007, 0⟩
/-- 0x4101.00 -/
def gGuardSelect : GE := ⟨0x410100, 0⟩
/-- 0x4102.00 -/
def gGuardSlotSelect : GE := ⟨0x410200, 0⟩
/-- 0x4110.01 -/
def gGuardSlots : GE := ⟨0x411001, 0⟩
/-- 0x4110.02 -/
def gGuardSlotsEnabled : GE := ⟨0x411002, 0⟩
/-- 0x4110.03 -/
def gGuardActive : GE := ⟨0x411003, 0⟩
/-- 0x4110.04 -/
def gGuardStage : GE := ⟨0x411004, 0⟩
/-- 0x4200.01 -/
def gFlashSlotRunning : GE := ⟨0x420001, 0⟩
/-- 0x4200.02 -/
def gFlashSlotValid : GE := ⟨0x420002, 0⟩
/-- 0x4200.03 -/
def gFlashSvnFloor : GE := ⟨0x420003, 0⟩
/-- 0x4200.04 -/
def gFlashCodeTorn : GE := ⟨0x420004, 0⟩
/-- 0x4200.05 -/
def gFlashCodeEraseMax : GE := ⟨0x420005, 0⟩
/-- 0x4200.06 -/
def gFlashCodeDegraded : GE := ⟨0x420006, 0⟩
/-- 0x4200.07 -/
def gFlashCodeRetry : GE := ⟨0x420007, 0⟩
/-- 0x4200.08 -/
def gFlashEraseRest : GE := ⟨0x420008, 7200⟩
/-- 0x4210.01 -/
def gFlashVaultLive : GE := ⟨0x421001, 0⟩
/-- 0x4210.02 -/
def gFlashVaultRetired : GE := ⟨0x421002, 0⟩
/-- 0x4210.03 -/
def gFlashVaultEraseMax : GE := ⟨0x421003, 0⟩
/-- 0x4210.04 -/
def gFlashVaultWear : GE := ⟨0x421004, 0⟩
/-- 0x4210.05 -/
def gFlashVaultRate : GE := ⟨0x421005, 0⟩
/-- 0x4210.06 -/
def gFlashVaultBudget : GE := ⟨0x421006, 54000000⟩
/-- 0x4210.07 -/
def gFlashVaultRelocated : GE := ⟨0x421007, 0⟩
/-- 0x4210.08 -/
def gFlashVaultReadFail : GE := ⟨0x421008, 0⟩
/-- 0x1200.01 -/
def gTimeState : GE := ⟨0x120001, 2⟩
/-- 0x1200.02 -/
def gTimeDtb : GE := ⟨0x120002, 0⟩
/-- 0x1200.03 -/
def gTimeRate : GE := ⟨0x120003, 0⟩
/-- 0x1200.04 -/
def gTimeRateFreq : GE := ⟨0x120004, 0⟩
/-- 0x1200.05 -/
def gTimePtmValid : GE := ⟨0x120005, 0⟩
/-- 0x1200.06 -/
def gTimePtmDiscarded : GE := ⟨0x120006, 0⟩
/-- 0x1200.07 -/
def gTimeHoldoverLeft : GE := ⟨0x120007, 0⟩
/-- 0x1200.08 -/
def gTimeSetCount : GE := ⟨0x120008, 0⟩
/-- 0x1200.09 -/
def gTimeOtc : GE := ⟨0x120009, 0⟩
/-- 0x1200.0A -/
def gTimePcc : GE := ⟨0x12000a, 0⟩
/-- 0x1200.0B -/
def gTimeSt : GE := ⟨0x12000b, 0⟩
/-- 0x1200.0C -/
def gTimeAseq : GE := ⟨0x12000c, 0⟩
/-- 0x1201.00 -/
def gIslandSelect : GE := ⟨0x120100, 0⟩
/-- 0x1210.01 -/
def gIslandName : GE := ⟨0x121001, 0⟩
/-- 0x1210.02 -/
def gIslandDie : GE := ⟨0x121002, 0⟩
/-- 0x1210.03 -/
def gIslandClockNominal : GE := ⟨0x121003, 0⟩
/-- 0x1210.04 -/
def gIslandClockNow : GE := ⟨0x121004, 0⟩
/-- 0x1210.05 -/
def gIslandState : GE := ⟨0x121005, 0⟩
/-- 0x1100.01 -/
def gModeCurrent : GE := ⟨0x110001, 0⟩
/-- 0x1100.02 -/
def gModeCode : GE := ⟨0x110002, 1445⟩
/-- 0x1100.03 -/
def gModePhase : GE := ⟨0x110003, 1445⟩
/-- 0x1100.04 -/
def gModePrevious : GE := ⟨0x110004, 0⟩
/-- 0x1100.05 -/
def gModeTarget : GE := ⟨0x110005, 3⟩
/-- 0x1100.06 -/
def gModeLeanCause : GE := ⟨0x110006, 0⟩
/-- 0x1100.07 -/
def gModePowerNow : GE := ⟨0x110007, 0⟩
/-- 0x1100.08 -/
def gModePowerCap : GE := ⟨0x110008, 150⟩
/-- 0x1100.09 -/
def gModeService : GE := ⟨0x110009, 0⟩
/-- 0x1100.0A -/
def gModeServiceEnd : GE := ⟨0x11000a, 0⟩
/-- 0x1100.0B -/
def gModeServiceLimit : GE := ⟨0x11000b, 14400⟩
/-- 0x1100.0C -/
def gModeTransitions : GE := ⟨0x11000c, 0⟩
/-- 0x1100.0D -/
def gModeRefusedLast : GE := ⟨0x11000d, 0⟩
/-- 0x1101.01 -/
def gChangeoverSlot : GE := ⟨0x110101, 0⟩
/-- 0x1101.02 -/
def gChangeoverRaiseFloor : GE := ⟨0x110102, 0⟩
/-- 0x1101.03 -/
def gChangeoverProgress : GE := ⟨0x110103, 0⟩
/-- 0x1101.04 -/
def gChangeoverResult : GE := ⟨0x110104, 0⟩
/-- 0x1120.01 -/
def gPowerIslandName : GE := ⟨0x112001, 0⟩
/-- 0x1120.02 -/
def gPowerIslandDomain : GE := ⟨0x112002, 0⟩
/-- 0x1120.03 -/
def gPowerIslandRefusals : GE := ⟨0x112003, 0⟩
/-- 0x1120.04 -/
def gPowerIslandReason : GE := ⟨0x112004, 0⟩
/-- 0x1120.05 -/
def gPowerIslandDelays : GE := ⟨0x112005, 0⟩
/-- 0x1000.01 -/
def gLifeSerial : GE := ⟨0x100001, 0⟩
/-- 0x1000.02 -/
def gLifeState : GE := ⟨0x100002, 972⟩
/-- 0x1000.03 -/
def gLifeSeq : GE := ⟨0x100003, 1⟩
/-- 0x1000.04 -/
def gLifeTarget : GE := ⟨0x100004, 0⟩
/-- 0x1000.05 -/
def gLifeChangeStep : GE := ⟨0x100005, 0⟩
/-- 0x1000.06 -/
def gLifeDikCert : GE := ⟨0x100006, 0⟩
/-- 0x1000.07 -/
def gLifeMinuteCert : GE := ⟨0x100007, 0⟩
/-- 0x1000.08 -/
def gLifeRootHeld : GE := ⟨0x100008, 0⟩
/-- 0x1300.01 -/
def gBootAssayMs : GE := ⟨0x130001, 0⟩
/-- 0x1300.02 -/
def gBootResult : GE := ⟨0x130002, 0⟩
/-- 0x1300.03 -/
def gBootUnitsLost : GE := ⟨0x130003, 0⟩
/-- 0x1300.04 -/
def gBootRootDue : GE := ⟨0x130004, 0⟩
/-- 0x1300.05 -/
def gRepairSramSpares : GE := ⟨0x130005, 41472⟩
/-- 0x1300.06 -/
def gRepairSramUsed : GE := ⟨0x130006, 0⟩
/-- 0x1300.07 -/
def gRepairRuntime : GE := ⟨0x130007, 0⟩
/-- 0x1300.08 -/
def gRepairEccCorrected : GE := ⟨0x130008, 0⟩
/-- 0x1300.09 -/
def gAttestLogCount : GE := ⟨0x130009, 8⟩
/-- 0x5000.01 -/
def gTamperMonitors : GE := ⟨0x500001, 21⟩
/-- 0x5000.02 -/
def gTamperAlertPending : GE := ⟨0x500002, 0⟩
/-- 0x5000.03 -/
def gTamperWakeEnable : GE := ⟨0x500003, 0⟩
/-- 0x5000.04 -/
def gTamperAlarmsTotal : GE := ⟨0x500004, 0⟩
/-- 0x5000.05 -/
def gTamperRootErased : GE := ⟨0x500005, 0⟩
/-- 0x5000.06 -/
def gTamperLockdownCause : GE := ⟨0x500006, 255⟩
/-- 0x5000.07 -/
def gTamperQuiesceActive : GE := ⟨0x500007, 0⟩
/-- 0x5000.08 -/
def gTamperStateCorrected : GE := ⟨0x500008, 0⟩
/-- 0x5000.09 -/
def gSentinelOverflow : GE := ⟨0x500009, 0⟩
/-- 0x5001.00 -/
def gTamperSelect : GE := ⟨0x500100, 0⟩
/-- 0x5010.01 -/
def gTamperMonName : GE := ⟨0x501001, 0⟩
/-- 0x5010.02 -/
def gTamperMonN : GE := ⟨0x501002, 0⟩
/-- 0x5010.03 -/
def gTamperMonW : GE := ⟨0x501003, 0⟩
/-- 0x5010.04 -/
def gTamperMonResponse : GE := ⟨0x501004, 0⟩
/-- 0x5010.05 -/
def gTamperMonFloor : GE := ⟨0x501005, 0⟩
/-- 0x5010.06 -/
def gTamperMonEvents : GE := ⟨0x501006, 0⟩
/-- 0x5010.07 -/
def gTamperMonAlarms : GE := ⟨0x501007, 0⟩
/-- 0x5100.01 -/
def gEvrRnumNext : GE := ⟨0x510001, 0⟩
/-- 0x5100.02 -/
def gEvrFoundingUsed : GE := ⟨0x510002, 0⟩
/-- 0x5100.03 -/
def gEvrFoundingReserved : GE := ⟨0x510003, 4096⟩
/-- 0x5100.04 -/
def gEvrRollingOldest : GE := ⟨0x510004, 0⟩
/-- 0x5100.05 -/
def gEvrSuppressedTotal : GE := ⟨0x510005, 0⟩
/-- 0x5100.06 -/
def gEvrCoalescedTotal : GE := ⟨0x510006, 0⟩
/-- 0x5100.07 -/
def gEvrQueueDepth : GE := ⟨0x510007, 0⟩
/-- 0x5100.08 -/
def gEvrRateGlobal : GE := ⟨0x510008, 3840⟩
/-- 0x5100.09 -/
def gEvrReadArea : GE := ⟨0x510009, 0⟩
/-- 0x5100.0A -/
def gEvrReadCursor : GE := ⟨0x51000a, 0⟩
/-- 0x5100.0B -/
def gEvrReadBlock : GE := ⟨0x51000b, 0⟩
/-- 0x5200.01 -/
def gGlsRwpInterval : GE := ⟨0x520001, 10⟩
/-- 0x5200.02 -/
def gGlsRwpBusy : GE := ⟨0x520002, 0⟩
/-- 0x5200.03 -/
def gGlsDenied : GE := ⟨0x520003, 0⟩
/-- 0x5200.04 -/
def gConfigEpoch : GE := ⟨0x520004, 0⟩
/-- 0x5210.01 -/
def gMgmtEnable : GE := ⟨0x521001, 1⟩
/-- 0x5210.02 -/
def gMgmtMac : GE := ⟨0x521002, 0⟩
/-- 0x5210.03 -/
def gMgmtTerm : GE := ⟨0x521003, 0⟩
/-- 0x5210.04 -/
def gMgmtPlcaId : GE := ⟨0x521004, 255⟩
/-- 0x5210.05 -/
def gMgmtPlcaCount : GE := ⟨0x521005, 16⟩
/-- 0x5210.06 -/
def gMgmtPlcaTo : GE := ⟨0x521006, 32⟩
/-- 0x5210.07 -/
def gMgmtPlcaBurst : GE := ⟨0x521007, 0⟩
/-- 0x5210.08 -/
def gMgmtGapPort : GE := ⟨0x521008, 47216⟩
/-- 0x5210.09 -/
def gMgmtGapSessions : GE := ⟨0x521009, 0⟩
/-- 0x5210.0A -/
def gMgmtGapRejected : GE := ⟨0x52100a, 0⟩
/-- 0x5210.0B -/
def gMgmtRxDropped : GE := ⟨0x52100b, 0⟩
/-- 0x5220.01 -/
def gCsWindow : GE := ⟨0x522001, 600⟩
/-- 0x5220.02 -/
def gCsNextId : GE := ⟨0x522002, 1⟩
/-- 0x5220.03 -/
def gCsHeld : GE := ⟨0x522003, 0⟩
/-- 0x5220.04 -/
def gCsCommitted : GE := ⟨0x522004, 0⟩
/-- 0x5220.05 -/
def gCsExpired : GE := ⟨0x522005, 0⟩
/-- 0x5221.00 -/
def gCsSelect : GE := ⟨0x522100, 0⟩
/-- 0x5230.01 -/
def gCsSlotState : GE := ⟨0x523001, 854⟩
/-- 0x5230.02 -/
def gCsSlotId : GE := ⟨0x523002, 0⟩
/-- 0x5230.03 -/
def gCsSlotHash : GE := ⟨0x523003, 0⟩
/-- 0x5230.04 -/
def gCsSlotLeft : GE := ⟨0x523004, 0⟩
/-- 0x5230.05 -/
def gCsSlotFinal : GE := ⟨0x523005, 0⟩
/-- 0x5230.06 -/
def gCsSlotReason : GE := ⟨0x523006, 0⟩
/-- 0x5241.00 -/
def gCredSelect : GE := ⟨0x524100, 0⟩
/-- 0x5250.01 -/
def gCredRole : GE := ⟨0x525001, 0⟩
/-- 0x5250.02 -/
def gCredKey : GE := ⟨0x525002, 0⟩
/-- 0x5250.03 -/
def gCredLabel : GE := ⟨0x525003, 0⟩
/-- 0x5250.04 -/
def gCredCounter : GE := ⟨0x525004, 0⟩
/-- 0x5300.01 -/
def gCardState : GE := ⟨0x530001, 0⟩
/-- 0x5300.02 -/
def gCardClass : GE := ⟨0x530002, 0⟩
/-- 0x5300.03 -/
def gCardFidi : GE := ⟨0x530003, 17⟩
/-- 0x5300.04 -/
def gCardClockKhz : GE := ⟨0x530004, 0⟩
/-- 0x5300.05 -/
def gCardClockTail : GE := ⟨0x530005, 1860⟩
/-- 0x5300.06 -/
def gCardCred : GE := ⟨0x530006, 255⟩
/-- 0x5300.07 -/
def gCardCounter : GE := ⟨0x530007, 0⟩
/-- 0x5300.08 -/
def gCardRequest : GE := ⟨0x530008, 0⟩
/-- 0x5300.09 -/
def gCardResult : GE := ⟨0x530009, 0⟩
/-- 0x5300.0A -/
def gCardMidstep : GE := ⟨0x53000a, 0⟩
/-- 0x5300.0B -/
def gCardMidstepClear : GE := ⟨0x53000b, 0⟩
/-- 0x5300.0C -/
def gCardRemovedMidstep : GE := ⟨0x53000c, 0⟩
/-- 0x5400.01 -/
def gFieldReaderEnable : GE := ⟨0x540001, 1⟩
/-- 0x5400.02 -/
def gFieldPingPeriod : GE := ⟨0x540002, 250⟩
/-- 0x5400.03 -/
def gFieldPingThreshold : GE := ⟨0x540003, 40⟩
/-- 0x5400.04 -/
def gFieldBadgeState : GE := ⟨0x540004, 0⟩
/-- 0x5400.05 -/
def gFieldBadgeCred : GE := ⟨0x540005, 255⟩
/-- 0x5400.06 -/
def gFieldBadgeRate : GE := ⟨0x540006, 0⟩
/-- 0x5400.07 -/
def gFieldRequest : GE := ⟨0x540007, 0⟩
/-- 0x5400.08 -/
def gFieldResult : GE := ⟨0x540008, 0⟩
/-- 0x5400.09 -/
def gFieldExternal : GE := ⟨0x540009, 0⟩
/-- 0x5400.0A -/
def gFieldCollisions : GE := ⟨0x54000a, 0⟩
/-- 0x5410.01 -/
def gTagFieldWrite : GE := ⟨0x541001, 0⟩
/-- 0x5410.02 -/
def gTagBudget : GE := ⟨0x541002, 2000⟩
/-- 0x5410.03 -/
def gTagBudgetUsed : GE := ⟨0x541003, 0⟩
/-- 0x5410.04 -/
def gTagMemOffset : GE := ⟨0x541004, 0⟩
/-- 0x5410.05 -/
def gTagMemBlock : GE := ⟨0x541005, 0⟩
/-- 0x5410.06 -/
def gTagCounterSelect : GE := ⟨0x541006, 0⟩
/-- 0x5410.07 -/
def gTagCounterValue : GE := ⟨0x541007, 0⟩
/-- 0x5410.08 -/
def gTagCounterAdd : GE := ⟨0x541008, 0⟩
/-- 0x5410.09 -/
def gTagBusy : GE := ⟨0x541009, 0⟩

end Sys2Proof.Machine
end

