-- ==== Sys2Proof/Machine/State.lean ====
section
/-! DEFINITION. The state of the block as plain data: every register, table, queue, counter, mode and pin the spec gives
the module, the commands that wait, and the state after reset. -/

namespace Sys2Proof.Machine

open Sys2Proof

/-- No command of the block ends in a fault: every failure the spec names is a completion, an event, an exception of
a core or a mark in the state (spec/95; log entry 8). -/
inductive Fault where
  /-- raised by no command; safe -/
  | none
  deriving DecidableEq, Repr

/-- Why a command has no outcome. -/
inductive Refusal where
  /-- an arm of exec that has no meaning yet; safe: no claim about the command can be proved -/
  | notModelled (mnemonic : String)
  deriving DecidableEq, Repr

/-! ### Supplies and pins (02) -/

/-- What supplies the always-on domain (02 R73). -/
inductive Supply where
  | cell | aux33 | main12
  deriving DecidableEq, Repr

/-- The auxiliary 12 V connector (02 R49, R69 to R72). -/
inductive AuxConn where
  | absent | sixPin | eightPin
  deriving DecidableEq, Repr

/-- Supplies, supply pins and the outputs of the enclosure (02). -/
structure Power where
  aux33 : Bool := false
  main12 : Bool := false
  auxConn : AuxConn := .eightPin
  auxGood : Bool := true
  source : Supply := .cell
  perst : Bool := true
  wake : Bool := false
  cellExhausted : Bool := false
  hotDies : List Nat := []
  cap60 : Bool := false
  deriving DecidableEq, Repr

/-! ### Time (17) -/

/-- Timebase, operating time, Sentinel Time and power cycles (17 R641 to R657). `ticks` counts the 400 MHz ticks the
model has made (log entry 5); `DTB` and offsets are in units of 2^-32 ns. -/
structure Clock where
  ticks : Nat := 0
  stSub : Nat := 0
  dtb : Nat := 0
  resid : Nat := 0
  rate : Int := 0
  rateF : Int := 0
  rateFSaved : Int := 0
  off : Int := 0
  anchored : Bool := false
  tstate : Nat := 2
  lastValid : Option (Nat × Nat) := none
  validRun : Nat := 0
  discRun : Nat := 0
  setThisCycle : Bool := false
  setJob : Option Nat := none
  anchorLost : Bool := false
  ptmEnable : Bool := false
  ptmOut : Option (Nat × Nat) := none
  ptmSlot : Option Nat := none
  holdoverAt : Nat := 0
  latNs : BitVec 64 := 0
  latStatus : BitVec 32 := 0
  latRate : BitVec 64 := 0
  savedDtb : Nat := 0
  savedSt : Nat := 0
  st : Nat := 0
  stLost : Bool := false
  saveStale : Bool := false
  otc : Nat := 0
  otcSaved : Nat := 0
  otcPos : Nat := 0
  pcc : Nat := 0
  deriving DecidableEq, Repr

/-! ### Islands, event order and the recorder (17, 21) -/

/-- One island: state of island.state (0 in service, 1 throttled, 2 struck, 3 lost) and its latest REFUSE (17, 18). -/
structure Island where
  state : Nat := 2
  deriving DecidableEq, Repr

/-- What an island presents to the arbiter (17 R637). -/
inductive Tok where
  /-- an event record: code and payload bytes -/
  | evt (code : Nat) (payload : Bytes)
  /-- a report of a coalesced code: code, SUBJECT, DETAIL, reporter -/
  | coal (code subj detail reporter : Nat)
  /-- a stamped token that makes no record: 1 guard epoch switch, 2 mode transition, 3 hoist, 4 strike,
  5 countersign commit, 6 minute close, 7 TIME_SET, 8 timebase state -/
  | mark (kind arg : Nat)
  deriving DecidableEq, Repr

/-- An event record (21 R742, R746): CODE, SEQ from RNUM, PCC, OTC, ISLAND, founding place, payload, and its vault log address once it is durable. -/
structure EvRec where
  code : Nat := 0
  rnum : Nat := 0
  pcc : Nat := 0
  otc : Nat := 0
  island : Nat := 0
  place : Option Nat := none
  payload : Bytes := []
  addr : Nat := 0
  deriving DecidableEq, Repr

/-- An open coalescing window (21 R753 to R755). -/
structure CoalWin where
  code : Nat := 0
  subj : Nat := 0
  detail : Nat := 0
  island : Nat := 0
  first : Nat := 0
  reporters : List Nat := []
  pcc : Nat := 0
  otc : Nat := 0
  openedAt : Nat := 0
  deriving DecidableEq, Repr

/-- What EVR holds in stamp order before rate limiting (21 R750). -/
inductive EvItem where
  | formed (r : EvRec)
  | window (w : CoalWin)
  deriving DecidableEq, Repr

/-- A token bucket: level in 1/400,000,000 of a token and the tick of its last refill (21 R756). -/
structure Bucket where
  level : Nat := 0
  at_ : Nat := 0
  deriving DecidableEq, Repr

/-- Suppressed occurrences of a code (21 R758). -/
structure Supp where
  count : Nat := 0
  first : Nat := 0
  last : Nat := 0
  since : Nat := 0
  deriving DecidableEq, Repr

/-- The arbiter and the event recorder (17 R635 to R640, 21). -/
structure Recorder where
  ports : Tab (List Tok) := []
  granted : Nat := 0
  aseq : Nat := 0
  held : List EvItem := []
  buckets : Tab Bucket := []
  global : Int := 1536000000000
  globalAt : Nat := 0
  supp : Tab Supp := []
  queue : List EvRec := []
  rnum : Nat := 0
  founding : List EvRec := []
  foundingUsed : Nat := 0
  reservedUsed : Nat := 0
  fullNoted : Bool := false
  rolling : List EvRec := []
  deriving DecidableEq, Repr

/-! ### Modes (18, 19) -/

/-- A mode transition that waits for its agents (18 R664 to R672): `asked` gives the tick of an agent's latest request, or the one at which a
delaying agent is asked again; every other was asked at `askedAt`. -/
structure Transition where
  target : Nat := 0
  cause : Nat := 0
  strike : Bool := true
  islands : List Nat := []
  waiting : List Nat := []
  delayed : List Nat := []
  delays : Tab Nat := []
  askedAt : Nat := 0
  asked : Tab Nat := []
  deriving DecidableEq, Repr

/-- A changeover in progress (18 R680 to R687): slots, change ID, the unit in hand (1 the standby pair, 2 the duty pair alone, 4 the guards, 5
the former duty pair, 6 to 9 SVC, 10 to 13 INTK, 14 + q squad q), units moved, units to take back, the island that failed, the mode left. -/
structure Changeover where
  slot : Nat := 0
  old : Nat := 0
  change : Nat := 0
  raise : Bool := false
  unit : Nat := 1
  moved : List Nat := []
  back : List Nat := []
  rolling : Bool := false
  failed : Nat := 0
  rulesDue : Bool := false
  left : Nat := 3
  deriving DecidableEq, Repr

/-- The mode controller and start-up (18, 19); `dramGen` numbers the DRAM keys and interleave permutations drawn at each boot
(19 Table 2 step 3), whose values nothing shows (log entry 137). -/
structure ModeSt where
  code : BitVec 12 := 0x5A5
  phase : BitVec 12 := 0x5A5
  previous : Nat := 0
  trans : Option Transition := none
  waiting : Option Nat := none
  struckSquads : List Nat := []
  struckEngines : List Nat := []
  serviceAt : Option Nat := none
  serviceLeft : Nat := 3
  changeover : Option Changeover := none
  assayRun : Bool := false
  meas : Tab Bytes := []
  noImage : Bool := false
  dramGen : Nat := 0
  deriving DecidableEq, Repr

/-! ### Host link, functions and partitions (03) -/

/-- Link training state (02 R74, 03 R106). -/
inductive LinkSt where
  | down | training | l0 | recovery
  deriving DecidableEq, Repr

/-- A key set of an IDE stream: sub-streams programmed and keys in each direction (03 R115, R117). -/
structure IdeKeys where
  keyOut : Bytes := []
  keyIn : Bytes := []
  deriving DecidableEq, Repr

/-- An IDE stream: 0 is the link stream, 1 to 64 are selective streams (03 R115 to R118). -/
structure IdeStream where
  secure : Bool := false
  insecure : Bool := false
  sets : Tab IdeKeys := []
  cur : Nat := 0
  lo : Nat := 0
  hi : Nat := 0
  deriving DecidableEq, Repr

/-- TDISP state of a VF (03 R119 to R123). -/
structure Tdi where
  state : Nat := 0
  stream : Nat := 0
  deriving DecidableEq, Repr

/-- One host window (03 R107 to R112). -/
structure Window where
  base : Nat := 0
  size : Nat := 0
  rd : Bool := false
  wr : Bool := false
  deriving DecidableEq, Repr

/-- One partition (03, 04, 11). -/
structure Part where
  enabled : Bool := false
  quiesced : Bool := false
  windows : Tab Window := []
  winVer : Nat := 0
  tdi : Tdi := {}
  salt : Bytes := []
  aer : List Nat := []
  pba : List Nat := []
  deriving DecidableEq, Repr

/-- An SPDM session of the DOE responder (03 R126). -/
structure SpdmSess where
  beat : Nat := 0
  deriving DecidableEq, Repr

/-- A read of host memory that waits for its answer (03 R131): who asked, since when, the function under whose routing ID it left,
the IDE stream that carries it, and its non-posted requests (03 R85, R93, R116). -/
structure HostRead where
  who : ReadRef
  issuedAt : Nat := 0
  fn : Nat := 0
  stream : Option Nat := none
  requests : Nat := 1
  deriving DecidableEq, Repr

/-- The host link and its functions (03): `mps` and `mrrs` code Max Payload Size and Max Read Request Size as 128 B · 2^n (03 Table 1),
`pba` holds PF0's messages pending in D3hot, `msixHeld` those that wait for L0. -/
structure Link where
  state : LinkSt := .down
  width : Nat := 0
  rate : Nat := 0
  d3hot : Bool := false
  numVfs : Nat := 0
  vfEnable : Bool := false
  pba : List Nat := []
  msixSent : List (Nat × Nat) := []
  msixHeld : List (Nat × Nat) := []
  mps : Nat := 0
  mrrs : Nat := 2
  ide : Tab IdeStream := []
  doeError : Bool := false
  doeOut : Bytes := []
  spdm : Tab SpdmSess := []
  spdmNext : Nat := 1
  slot1 : Nat := 0
  reads : List HostRead := []
  ctoDisable : Bool := false
  ctoValue : Nat := 0
  heldPosts : List Nat := []
  deriving DecidableEq, Repr

/-! ### Rings and jobs (04) -/

/-- A job descriptor (04 Table 8). -/
structure Desc where
  opcode : Nat := 0
  ordered : Bool := false
  chained : Bool := false
  noWait : Bool := false
  noIrq : Bool := false
  handle : Nat := 0
  opaAddr : Nat := 0
  opbAddr : Nat := 0
  resAddr : Nat := 0
  opaLen : Nat := 0
  opbLen : Nat := 0
  resCap : Nat := 0
  param : Nat := 0
  cookie : Nat := 0
  rsvd : Bool := false
  deriving DecidableEq, Repr

/-- Where a job stands between intake and its completion entry (04 R173 to R188). -/
inductive Phase where
  /-- passed Table 11, waits for a job context -/
  | waitCtx
  /-- holds a context; its operands are not read (run-ahead, or more than 2 KiB) -/
  | staged
  /-- operands are in its staging slot, or are to be read at dispatch -/
  | ready
  /-- an administrative job that holds a context and has not run -/
  | admin
  /-- an administrative job whose effect has begun and which waits (R113, R140, R141, R439) -/
  | adminWait
  /-- held in SHORT (12 R487), or waiting for start-up randomness (R177) -/
  | waitRng
  /-- a gang that has reserved its squads and waits for them to empty (06 R252) -/
  | reserving
  /-- on its squads, its operands of more than 2 KiB being read through a data-class channel (10 R401) -/
  | fetching
  /-- on a squad -/
  | running
  /-- a stream job waiting for a place on an engine -/
  | waitEngine
  /-- on a stream engine -/
  | streaming
  /-- a random job whose output is being generated and written (12 R482) -/
  | drawing
  /-- waits for its commit to be durable, or for users of a key to retire (09) -/
  | waitCommit
  /-- held by QUIESCE before its key load (20 R726) -/
  | held
  /-- has its status; its result is being written and read back -/
  | finished
  deriving DecidableEq, Repr

/-- Running state of a stream job (10 R413, R406, R420, R423): payload bytes committed, output committed, mismatches, whether the
first segment is committed, the key in the engine's registers, whether it is to be loaded again. -/
structure StreamSt where
  done : Nat := 0
  out : Bytes := []
  mism : Nat := 0
  started : Bool := false
  key : Bytes := []
  rekey : Bool := false
  deriving DecidableEq, Repr

/-- A job (04 R158 to R188). `n` counts the descriptors of its ring since the ring was enabled, so that its wrap-doubled
index is n mod 2·ENTRIES. -/
structure Job where
  part : Nat := 0
  ring : Nat := 0
  n : Nat := 0
  d : Desc := {}
  phase : Phase := .waitCtx
  ctx : Bool := false
  slot : Option Nat := none
  winVer : Nat := 0
  epoch : Nat := 0
  opa : Bytes := []
  opb : Bytes := []
  squads : List Nat := []
  again : Bool := false
  order : Nat := 0
  engine : Option Nat := none
  chan : Option Nat := none
  keys : List Nat := []
  uses : List Nat := []
  waits : List Nat := []
  status : Nat := 0
  out : Bytes := []
  timeClass : Nat := 0
  lane : Nat := 0
  stream : Nat := 0
  commit : Nat := 0
  random : Nat := 0
  retries : Nat := 0
  slices : Nat := 0
  parkSlot : Option Nat := none
  parked : Bool := false
  strm : StreamSt := {}
  heldAt : Nat := 0
  note : Nat := 0
  monts : Nat := 0
  ckptAt : Nat := 0
  avoid : Option Nat := none
  freezes : Nat := 0
  batches : Nat := 0
  deriving DecidableEq, Repr

/-- One squad (06): 0 in service, 2 lost, 3 draining, 4 reloading, 5 self-test, 6 struck; failed lanes of each half (lane 16
is the spare); partition of the last resident; resident slots; the gang that reserved it; times of third mismatches
(ticks); its latest patrol, and one that is due at once; withdrawn until that patrol (06 R258); the patrol period that began with its
latest patrol (06 R269); since when it has had residents throughout (06 R259). -/
structure Squad where
  mode : Nat := 0
  failA : List Nat := []
  failB : List Nat := []
  owner : Nat := 0
  owned : Bool := false
  slots : Tab Nat := []
  gang : Option Nat := none
  thirds : List Nat := []
  tableOk : Bool := true
  patrolAt : Nat := 0
  patrolDue : Bool := false
  withdrawn : Bool := false
  period : Nat := 1000
  busyAt : Option Nat := none
  deriving DecidableEq, Repr

/-- Registers of a core or context: A, D, Q, ST, PC (13 Tables 4, 5); lane registers L0 to L7, each the list of its words; N with
its length from LSETUP, QN with its width from LQN (13 R526, R527). -/
structure VRegs where
  a : Vector (BitVec 24) 8 := Vector.replicate 8 0
  d : Vector (BitVec 32) 8 := Vector.replicate 8 0
  q : Vector (BitVec 72) 4 := Vector.replicate 4 0
  st : BitVec 32 := 0xE00
  pc : BitVec 20 := 0
  lanes : Tab (List Nat) := []
  setup : Option (Nat × Nat) := none
  qn : Option (Nat × Nat) := none
  deriving DecidableEq, Repr

/-- Live values of a job in one context: its registers, and what its resident slot of scratch holds, by offset (06 R255, R256). -/
structure LaneImage where
  r : VRegs := {}
  scratch : Mem := []
  deriving DecidableEq, Repr

/-- The lane array (06): squads, park slots by number with their job, park slots whose image is held, and by slot the live values of
the contexts at the last yield, in the order of the squads (06 R255). -/
structure Lanes where
  squads : Tab Squad := []
  park : Tab Nat := []
  parked : List Nat := []
  images : Tab (List LaneImage) := []
  dispatched : Nat := 0
  selfTest : Option Nat := none
  deriving DecidableEq, Repr

/-- One ring (04 Tables 1 to 5): descriptors to be fetched again, passed, their CHAINED flags, where the next member of a squashed chain
would stand, members that complete when they arrive, ORDERED descriptors that have arrived and not posted (04 R180 to R184). -/
structure Ring where
  sqBase : Nat := 0
  cqBase : Nat := 0
  msixVec : Nat := 0
  entries : Nat := 0
  enable : Bool := false
  state : Nat := 0
  sqTail : Nat := 0
  cqHead : Nat := 0
  headN : Nat := 0
  cqN : Nat := 0
  fetchN : Nat := 0
  refetch : List Nat := []
  passed : List Nat := []
  flags : List (Nat × Bool) := []
  chainAt : List Nat := []
  chainSq : List Nat := []
  barriers : List Nat := []
  reserved : Nat := 0
  dbDropped : Nat := 0
  squashed : Nat := 0
  fault : Bool := false
  faultCode : Nat := 0
  heldSq : Option Nat := none
  heldCq : Option Nat := none
  bootstrap : Bool := false
  deriving DecidableEq, Repr

/-- One intake core: where its visits stand, the read it has issued, shared slots in wipe and slots of partition 0's own 4 in wipe (04
R166 to R183). -/
structure Intake where
  lastPart : Nat := 0
  ringTurn : Tab Nat := []
  out : Option (Nat × Nat × List Nat) := none
  wiping : Nat := 0
  wiping0 : Nat := 0
  held : Bool := false
  deriving DecidableEq, Repr

/-- Dispatch: deficits in lane-cycles and positions (04 R176, R187). -/
structure Dispatch where
  deficit : Tab Int := []
  cur : Nat := 0
  granted : Bool := false
  ctxPos : Nat := 0
  deriving DecidableEq, Repr

/-! ### Metering (11) -/

/-- Accumulators of one partition and class: COUNT, ACC in 2^-32, CARRY in 2^-32, LIFE_BILLED (11 R444 to R448). -/
structure MeterCls where
  count : Nat := 0
  acc : Nat := 0
  carry : Int := 0
  life : Nat := 0
  deriving DecidableEq, Repr

/-- A partition's entries of the open minute: completion entries per ring, orphan jobs and charge (2^-16), whether it was
enabled at any moment (11 R434, R448, Table 6). -/
structure MinPart where
  jobs : Tab Nat := []
  orphanJobs : Nat := 0
  orphanTu : Nat := 0
  enabledAny : Bool := false
  deriving DecidableEq, Repr

/-- One class block of a closed record (11 Table 5). -/
structure MinCls where
  count : Nat := 0
  weight : Nat := 0
  acc : Nat := 0
  carryIn : Int := 0
  billed : Nat := 0
  life : Nat := 0
  deriving DecidableEq, Repr

/-- One partition's minute record (11 Table 4). -/
structure MinRec where
  part : Nat := 0
  flags : Nat := 0
  jobs : List Nat := []
  orphanJobs : Nat := 0
  orphanTu : Nat := 0
  cls : List MinCls := []
  deriving DecidableEq, Repr

/-- A closed minute's set: head fields, records, root and signatures (11 R451, R452). -/
structure MinSet where
  seq : Nat := 0
  flags : Nat := 0
  start : Nat := 0
  stop : Nat := 0
  recs : List MinRec := []
  prevRoot : Bytes := []
  root : Bytes := []
  sigEc : Bytes := []
  sigMl : Bytes := []
  deriving DecidableEq, Repr

/-- The open minute (11 R437, R441). -/
structure OpenMin where
  start : Nat := 0
  flags : Nat := 0
  deriving DecidableEq, Repr

/-- A VF's meter delivery block (11 Tables 9, 10). -/
structure MdBlock where
  base : Nat := 0
  enable : Bool := false
  fault : Bool := false
  code : Nat := 0
  last : Nat := 0
  due : List Nat := []
  deriving DecidableEq, Repr

/-- The metering unit (11). -/
structure Meter where
  accepting : Bool := false
  started : Bool := false
  openMin : Option OpenMin := none
  seq : Nat := 0
  cls : Tab MeterCls := []
  parts : Tab MinPart := []
  weights : Tab Nat := []
  prevWeights : Tab Nat := []
  closing : List MinSet := []
  prevRoot : Bytes := []
  ring : Tab MinSet := []
  ready : Tab Nat := []
  vault : List MinSet := []
  cutAt : Option Nat := none
  md : Tab MdBlock := []
  deriving DecidableEq, Repr

/-! ### Tamper and Sentinel (20) -/

/-- A Sentinel record (20 Table 4). -/
structure SntRec where
  st : Nat := 0
  mon : Nat := 0
  resp : Nat := 0
  rootErased : Bool := false
  notExec : Bool := false
  value : Nat := 0
  count : Nat := 0
  seq : Nat := 0
  deriving DecidableEq, Repr

/-- Filter of one monitor: times of counted events (ticks), whether a level alarm stands, events in a hold (20 R718, R719). -/
structure MonSt where
  times : List Nat := []
  standing : Bool := false
  inHold : Nat := 0
  deriving DecidableEq, Repr

/-- An alarm not yet executed (20 R730). -/
structure Alarm where
  mon : Nat := 0
  resp : Nat := 0
  count : Nat := 0
  value : Nat := 0
  deriving DecidableEq, Repr

/-- TMP and SNT (20). -/
structure Tamper where
  mons : Tab MonSt := []
  burst : Tab (List Nat) := []
  batch : List Alarm := []
  batchAt : Nat := 0
  holdUntil : Option Nat := none
  holdMons : List Nat := []
  sntRuns : Bool := true
  tmpLost : Bool := false
  store : List SntRec := []
  seq : Nat := 0
  rootHeld : Bool := true
  root : Bytes := fit 32 Config.keyRoot
  rootInv : Bytes := (fit 32 Config.keyRoot).map (~~~ ·)
  rootCheck : Bytes := fit 8 (Config.kmac256 (fit 32 Config.keyRoot) (ascii "VZM7216 KRC") 8 (ascii "KC"))
  rootMachine : BitVec 12 := 0x6C9
  deriving DecidableEq, Repr

/-! ### Key store (09) -/

/-- A slot of the Key Handle Table (09 Table 1, R353 to R361): state 0 FREE to 4 DAMAGED; `mark` the durable reservation
mark, `resv` a reservation commit on its way, `page` the use count last written to a use-count page and its tick,
`restricting` a restrict commit on its way, the KEY_DESTROY job, whether the generation cell has advanced; `index` the entry's own index,
checked at every read (R348); `cached` that its material is in the key cache, `loadedAt` the tick of its latest load (R365). -/
structure KSlot where
  state : Nat := 0
  index : Nat := 0
  gen : Nat := 0
  owner : Nat := 0
  cls : Nat := 0
  usage : Nat := 0
  exp : Nat := 0
  limited : Bool := false
  vol : Bool := false
  limit : Nat := 0
  count : Nat := 0
  label : Nat := 0
  created : Nat := 0
  material : Bytes := []
  keyBytes : Nat := 0
  pubDigest : Bytes := []
  vaultLoc : Nat := 0
  wrapLen : Nat := 0
  jseq : Nat := 0
  cached : Bool := false
  loadedAt : Nat := 0
  mark : Nat := 0
  resv : Bool := false
  page : Nat := 0
  pageAt : Option Nat := none
  restricting : Bool := false
  destroyer : Option Nat := none
  advanced : Bool := false
  deriving DecidableEq, Repr

/-- A queued commit (09 R355, R363, R366, R852): kind 1 create, 2 destroy, 3 restrict, 4 use reservation, 5 purge; its
record; the block of a restriction or the mark of a reservation. -/
structure KCommit where
  kind : Nat := 0
  part : Nat := 0
  job : Option Nat := none
  slot : Nat := 0
  rec_ : Bytes := []
  arg : Nat := 0
  deriving DecidableEq, Repr

/-- A purge in progress (09 R370): its job, its slots, whether its record is queued. -/
structure Purge where
  job : Option Nat := none
  victims : List Nat := []
  queued : Bool := false
  deriving DecidableEq, Repr

/-- The key store (09): slots, generation cells, commit queues with their round robin, commits served within the last
second as (tick, record bytes), and the number of cache keys drawn (20 R727), whose values nothing shows (log entry 137). -/
structure KeyStore where
  slots : Tab KSlot := []
  gens : Tab Nat := []
  queues : Tab (List KCommit) := []
  deficit : Tab Int := []
  cur : Option Nat := none
  served : List (Nat × Nat) := []
  jseq : Nat := 0
  purges : Tab Purge := []
  cacheGen : Nat := 0
  deriving DecidableEq, Repr

/-! ### Random numbers (12) -/

/-- A noise channel (12 R463 to R465): 0 to 5 thermal, 6 and 7 jitter; state 0 starting, 1 HEALTHY, 2 RETIRED, 3 off;
ticks of start and of retirement; operating times of its retirements; conditioned bits used in seeds since its start, which are
discarded (12 R470). -/
structure NoiseCh where
  state : Nat := 3
  startedAt : Nat := 0
  retiredAt : Nat := 0
  retires : List Nat := []
  stays : Bool := false
  used : Nat := 0
  deriving DecidableEq, Repr

/-- An expander (12 R472 to R475): 0 to 15 general, 16 PX0, 17 PX1. -/
structure Expander where
  inst : Bool := false
  out : Nat := 0
  seededAt : Nat := 0
  failed : Bool := false
  deriving DecidableEq, Repr

/-- The random sources (12): channels, expanders, the next channel of the seed round robin; deficits of the host random jobs by
partition, in bytes, and the partition in turn (R482). -/
structure Rng where
  chans : Tab NoiseCh := []
  exps : Tab Expander := []
  seedTurn : Nat := 0
  hostDef : Tab Int := []
  hostCur : Option Nat := none
  deriving DecidableEq, Repr

/-! ### DMA channels and stream engines (10) -/

/-- A descriptor that has made its accesses and waits for its read-back (10 R393, R395, R398, R400), with its TAG, LINK and
NO_EVENT. -/
structure DmaCur where
  tag : Nat := 0
  link : Bool := false
  noEvent : Bool := false
  status : Nat := 0
  offset : Nat := 0
  done : Nat := 0
  deriving DecidableEq, Repr

/-- A channel's register block, whether it skips a chain, its current descriptor, since when its head descriptor's reads are out (10
Table 2, 03 R131); the data that its transit units hold and the units it has drawn from the shared pool (10 R379, R380). -/
structure DmaCh where
  qBase : Nat := 0
  cqBase : Nat := 0
  entries : Nat := 0
  evtMask : Nat := 0
  tail : Nat := 0
  headN : Nat := 0
  cqN : Nat := 0
  state : Nat := 0
  owner : Nat := 0
  skip : Bool := false
  cur : Option DmaCur := none
  readAt : Nat := 0
  data : Bytes := []
  shared : Nat := 0
  deriving DecidableEq, Repr

/-- DMA channels and the schedulers of the stream engines (10 R382, R414, R415). -/
structure Dma where
  chans : Tab DmaCh := []
  lastPart : Nat := 0
  bindDef : Tab Int := []
  bindCur : Option Nat := none
  bindRing : Tab Nat := []
  engDef : Tab (Tab Int) := []
  engCur : Tab Nat := []
  deriving DecidableEq, Repr

/-! ### Flash arrays (16) -/

/-- A flash descriptor (16 Table 4). -/
structure FDesc where
  op : Nat := 0
  bank : Nat := 0
  tag : Nat := 0
  len : Nat := 0
  target : Nat := 0
  buf : Nat := 0
  rsvd : Bool := false
  deriving DecidableEq, Repr

/-- A descriptor queue of CFC or VFC (16 R601): registers of 10 Table 2, and the descriptors it has accepted and not
completed. -/
structure FQueue where
  qBase : Nat := 0
  cqBase : Nat := 0
  entries : Nat := 0
  evtMask : Nat := 0
  tail : Nat := 0
  headN : Nat := 0
  cqN : Nat := 0
  state : Nat := 0
  owner : Nat := 0
  deriving DecidableEq, Repr

/-- State of a code flash sector or a vault block (16 Table 9): state, erases, Sentinel Time of its last completed erase. -/
structure FUnit where
  state : Nat := 0
  count : Nat := 0
  lastErase : Option Nat := none
  deriving DecidableEq, Repr

/-- An accepted descriptor that a busy bank holds up (16 R605 to R607): its queue, the guard epoch it was accepted in, the highest
read-retry step that its read will need (none: every step fails), the vault data as it was at acceptance. -/
structure FWait where
  queue : Nat := 0
  epoch : Nat := 0
  d : FDesc := {}
  retry : Option Nat := none
  data : Bytes := []
  deriving DecidableEq, Repr

/-- A program or erase that a bank runs (16 R605, R606, R608, R610): its queue, guard epoch and descriptor, units still to erase, bytes done,
when it was suspended. -/
structure BankOp where
  queue : Nat := 0
  epoch : Nat := 0
  d : FDesc := {}
  data : Bytes := []
  left : List Nat := []
  done : Nat := 0
  suspAt : Option Nat := none
  deriving DecidableEq, Repr

/-- What a vault program holds (16 R617 to R619): a key store commit, a use-count page, queued event records, a descriptor of
a queue (aborted ones keep their data and tell nobody), or a relocated run with its old address and the queue that programmed it. -/
inductive VSrc where
  | commit (c : KCommit)
  | usePage (items : List (Nat × Nat))
  | events (n : Nat)
  | desc (queue epoch tag : Nat)
  | aborted
  | reloc (old : Nat) (queue : Option Nat)
  deriving DecidableEq, Repr

/-- A vault program gathered or being programmed: its source, first-copy log address and data. -/
structure VProg where
  src : VSrc := .events 0
  addr : Nat := 0
  data : Bytes := []
  deriving DecidableEq, Repr

/-- A programmed run of the vault log: address, data, the queue that programmed it, ranges marked dead, where it was relocated
to, whether it holds event records (16 R618, R621, R622). -/
structure VRun where
  addr : Nat := 0
  data : Bytes := []
  queue : Option Nat := none
  dead : List (Nat × Nat) := []
  moved : Option Nat := none
  evr : Bool := false
  deriving DecidableEq, Repr

/-- A vault bank (16 R606, R619, R620, R624, R625, 18 R661): pages it programs or is to program, the block it erases, reserve
blocks spent, erases since its last wear collection, the open log block and next page of both rotations, when it fell idle. -/
structure VBank where
  prog : List (List VProg) := []
  erasing : Option Nat := none
  spent : Nat := 0
  erases : Nat := 0
  openLog : Option Nat := none
  nextPage : Nat := 0
  openRel : Option Nat := none
  relPage : Nat := 0
  idleAt : Nat := 0
  deriving DecidableEq, Repr

/-- Code flash beside its content (16): queues, sectors, bank operations, accepted descriptors that wait for a bank in the order of
acceptance. -/
structure CodeFlash where
  queues : Tab FQueue := []
  turn : Nat := 0
  sectors : Tab FUnit := []
  banks : Tab BankOp := []
  waits : List FWait := []
  deriving DecidableEq, Repr

/-- The vault (16): queues, physical blocks under bank·2,720 + block, log blocks mapped to (first, second) physical blocks,
programs gathered into the open page of each rotation, banks, the two rotations, programmed runs, victims of collection, whether collection goes on,
the latest flush tick, the bytes appended in their second and those of the event recorder among them, reads that wait for a bank. -/
structure Vault where
  queues : Tab FQueue := []
  turn : Nat := 0
  blocks : Tab FUnit := []
  map : Tab (Nat × Nat) := []
  gather : List VProg := []
  rgather : List VProg := []
  banks : Tab VBank := []
  rot : Nat := 0
  rrot : Nat := 0
  runs : List VRun := []
  victims : List Nat := []
  collecting : Bool := false
  flushAt : Nat := 0
  rateSec : Nat := 0
  rateNow : Nat := 0
  ratePrev : Nat := 0
  rateEvr : Nat := 0
  waits : List FWait := []
  deriving DecidableEq, Repr

/-! ### Guards (15) -/

/-- One guard: active and staging banks (slot to 128-bit value), active slots that failed their check (15 R569, R580). -/
structure Guard where
  active : Tab Nat := []
  staging : Tab Nat := []
  bad : List Nat := []
  deriving DecidableEq, Repr

/-- The guards' common state (15 R580, R585, R590, R591): epoch 1 not yet active, the rule set last committed, the copy of the
current one, banks to reload. -/
structure GuardSt where
  closed : Bool := true
  pes : Tab (Tab Nat) := []
  copy : Tab (Tab Nat) := []
  reload : List Nat := []
  deriving DecidableEq, Repr

/-! ### Verb cores (13, 14) -/

/-- A core or a squad context (13 Table 6, 14): TICK as it stood at `tickAt`, and while its island is throttled the part in 2^16 of its
nominal clock (13 R509); special registers, the load that has not landed (into A or D, register, value),
pending events, the latch of a frozen unit (cause, PC, level), what it waits for (WFE, or WAITC with its deadline), partition
tag, event permit mask, local data memory, the word latched for RNG_DATA_HI or RNG_JDATA_HI, the address of a read of those registers
that stalls (12 R484). -/
structure VUnit where
  r : VRegs := {}
  ckpt : Option LaneImage := none
  latch : Bool := false
  tickAt : Nat := 0
  tickBase : Nat := 0
  tickSlow : Option Nat := none
  tickHi : BitVec 32 := 0
  ev0 : BitVec 32 := 0
  ev1 : BitVec 32 := 0
  emuWord : BitVec 32 := 0
  emuLo : BitVec 32 := 0
  emuHi : BitVec 32 := 0
  spc : Vector (BitVec 20) 3 := Vector.replicate 3 0
  sst : Vector (BitVec 32) 3 := Vector.replicate 3 0
  rceil : Vector (BitVec 32) 3 := Vector.replicate 3 0
  xcause : BitVec 32 := 0
  xaddr : BitVec 32 := 0
  xbase : BitVec 32 := 0
  gtbase : BitVec 32 := 0
  xroute : BitVec 32 := 0x3FCFFF
  flwin : BitVec 32 := 0
  pendLoad : Option (Bool × Nat × BitVec 32) := none
  pendDev : List Nat := []
  pendSup : List Nat := []
  pendLock : Bool := false
  frozen : Option (Nat × Nat × Nat) := none
  wait : Option (Option (BitVec 32)) := none
  tag : Nat := 0x7FF
  sevMask : BitVec 64 := 0
  ldata : Mem := []
  rngHi : Option (BitVec 32) := none
  rngStall : Option Nat := none
  deriving DecidableEq, Repr

/-- The Verb cores: units 0 and 2 are the Deep Verb pairs, 4 to 7 INTK, 8 to 11 SVC, 12 + 16·q + c context c of squad q; the
duty pair's unit, units of pairs in self-test or out of service; run-ahead in force by pair; the image
slot that each core's program SRAM was loaded from, and the words of it whose parity does not hold (13 Table 1, R500, R502, R534, 14
R561 to R564). -/
structure VerbSt where
  units : Tab VUnit := []
  duty : Nat := 0
  testing : List Nat := []
  out : List Nat := []
  runahead : Tab Nat := []
  prog : Tab Nat := []
  badWords : Tab (List Nat) := []
  deriving DecidableEq, Repr

/-! ### Management, countersign (22) -/

/-- A countersign record (22 Table 9). -/
structure CsRec where
  idx : Nat := 0
  sub : Nat := 0
  selA : Nat := 0xFFFF
  selB : Nat := 0xFFFF
  value : Bytes := []
  deriving DecidableEq, Repr

/-- A change-set slot (22 R791 to R797, Table 13). -/
structure ChangeSet where
  code : BitVec 12 := 0x356
  id : Nat := 0
  recs : List CsRec := []
  hash : Bytes := []
  deadline : Nat := 0
  window : Nat := 0
  final : Nat := 0
  reason : Nat := 0
  order : Nat := 0
  deriving DecidableEq, Repr

/-- A credential slot (22 R768). -/
structure Cred where
  role : Nat := 0
  key : Bytes := []
  label : Bytes := []
  counter : Nat := 0
  deriving DecidableEq, Repr

/-- A notification not yet acknowledged: its body, resends made, the tick of its latest frame (22 R786). -/
structure Notify where
  req : Nat := 0
  body : Bytes := []
  resends : Nat := 0
  sentAt : Nat := 0
  deriving DecidableEq, Repr

/-- A session of the mailbox or of GAP (22 R764, R773, R784, R785). -/
structure Sess where
  role : Nat := 2
  sel : Tab Nat := []
  draft : List CsRec := []
  cred : Option Nat := none
  nonce : Option Bytes := none
  lastAt : Nat := 0
  openedAt : Nat := 0
  hello : Option Bytes := none
  peerKey : Bytes := []
  opened : Bool := true
  seqIn : Nat := 0
  seqOut : Nat := 0
  framesIn : Nat := 0
  framesOut : Nat := 0
  replies : List (Nat × Bytes) := []
  sent : List Bytes := []
  notifies : List Notify := []
  notifyNext : Nat := 0
  deriving DecidableEq, Repr

/-- The PF0 mailbox, GAP and the change sets (22). -/
structure Mgmt where
  busy : Bool := false
  done : Bool := false
  dropped : Bool := false
  reqId : Nat := 0
  reqArea : Mem := []
  request : Bytes := []
  respArea : Bytes := []
  mbox : Sess := {}
  gap : Tab Sess := []
  gapNext : Nat := 1
  slots : Tab ChangeSet := []
  orderNext : Nat := 0
  creds : Tab Cred := []
  rwpAt : Tab Nat := []
  frameSecond : Nat := 0
  frameCount : Nat := 0
  frameReplies : Nat := 0
  deriving DecidableEq, Repr

/-! ### Custodian card and badge (23, 24) -/

/-- What a card or a badge is asked for, or where it stands (23 Tables 1 and 2, 24 R821 to R824). -/
inductive TokStage where
  /-- no card, no badge -/
  | absent
  | atr | pps | ifs
  /-- badge only: REQA, anticollision, SELECT, RATS, PPS sent -/
  | atqa | anticoll | sak | ats | bpps
  /-- SELECT of the applet, GET STATUS sent -/
  | select | status
  | ready | unknown | failed
  /-- VERIFY PIN, APPROVE, GET RECEIPT sent -/
  | pin | approve | receipt
  deriving DecidableEq, Repr

/-- A card or a badge (23 R802 to R808, 24 R822 to R828): stage, class, activation without PPS, the rate proposed and in use, clock and
whether it runs, the ATR's clock stop indicator and the level the clock was stopped at, the ATR's IFSC, BWI, CWI and EDC, blocks sent
again, S(RESYNCH) sent, the tick until which an answer may come, seconds of S(WTX) granted for the block, matched Custodian slot,
COUNTER of its latest GET STATUS, tick of its latest answer, and, of a badge, known UID bits, UID, FWI and rate. -/
structure TokSt where
  stage : TokStage := .absent
  classA : Bool := false
  noPps : Bool := false
  want : Nat := 0x11
  fidi : Nat := 0x11
  khz : Nat := 0
  clockOn : Bool := false
  clockStop : Nat := 0
  stoppedHigh : Bool := false
  ifsc : Nat := 0
  bwi : Nat := 0
  cwi : Nat := 0
  crc : Bool := false
  resends : Nat := 0
  resynch : Bool := false
  waitUntil : Nat := 0
  wtx : Nat := 0
  cred : Option Nat := none
  counter : Nat := 0
  knownBits : List Bool := []
  uid : Bytes := []
  fwi : Nat := 0
  rate : Nat := 0
  seenAt : Nat := 0
  deriving DecidableEq, Repr

/-- An approval request in progress (23 R812, 24 R826): by badge, change, action, PIN. -/
structure AppReq where
  badge : Bool := false
  change : Nat := 0
  action : Nat := 0
  pin : Bytes := []
  deriving DecidableEq, Repr

/-- A midstep record (23 R814). -/
structure Midstep where
  change : Nat := 0
  hash : Bytes := []
  slot : Nat := 0
  counter : Nat := 0
  deriving DecidableEq, Repr

/-- A host access of tag memory that waits (24 R838): session, REQ_ID, entry, value written, OFFSET and LENGTH of a read, tick of its
arrival. -/
structure TagWait where
  sess : SessId := .mailbox
  req : BitVec 16 := 0
  key : Nat := 0
  value : Option Bytes := none
  off : Nat := 0
  len : Nat := 256
  since : Nat := 0
  deriving DecidableEq, Repr

/-- Card slot, reader, and the request engine they share (23, 24 R818 to R828). -/
structure Approvals where
  card : TokSt := {}
  badge : TokSt := {}
  req : Option AppReq := none
  midstep : Option Midstep := none
  carrier : Bool := false
  external : Bool := false
  pingAt : Nat := 0
  refs : List Nat := []
  deriving DecidableEq, Repr

/-- The inventory tag (24 R829 to R839): UID, counter copies under 2·n + copy, user area by offset, status block, transaction with
its start, mute, application selected, latest response, status rewrite that waits, budget event recorded, host accesses that wait. -/
structure Tag where
  uid : Bytes := []
  copies : Tab Nat := []
  user : Mem := []
  status : Bytes := []
  txn : Option Nat := none
  muted : Bool := false
  selected : Bool := false
  out : Bytes := []
  statusDue : Bool := false
  spentNoted : Bool := false
  waits : List TagWait := []
  deriving DecidableEq, Repr

/-! ### Repair and lifecycle (19) -/

/-- A lifecycle change in progress: source and target code, change ID (19 R711). -/
structure LifeChange where
  source : Nat := 0
  target : Nat := 0
  change : Nat := 0
  deriving DecidableEq, Repr

/-- Repair map, lifecycle change in progress, minute-keys-due mark and generation of the minute keys (19 R702, R708, R711). -/
structure Life where
  spares : List Spare := []
  change : Option LifeChange := none
  keysDue : Bool := false
  keyGen : Nat := 0
  deriving DecidableEq, Repr

/-- The whole block. -/
structure State where
  /-- the commands that wait, first in first out -/
  pending : List Instr := []
  /-- the model's own counter of free values drawn (log entry 3) -/
  free : Nat := 0
  power : Power := {}
  clock : Clock := {}
  islands : Tab Island := [(235, ⟨0⟩), (243, ⟨0⟩)]
  evr : Recorder := {}
  mode : ModeSt := {}
  link : Link := {}
  parts : Tab Part := []
  rings : Tab Ring := []
  jobs : Tab Job := []
  nextJob : Nat := 0
  intake : Tab Intake := []
  disp : Dispatch := {}
  lanes : Lanes := {}
  meter : Meter := {}
  guards : Tab Guard := []
  guardSt : GuardSt := {}
  tamper : Tamper := {}
  mgmt : Mgmt := {}
  keys : KeyStore := {}
  rng : Rng := {}
  dma : Dma := {}
  code : CodeFlash := {}
  vault : Vault := {}
  verb : VerbSt := {}
  appr : Approvals := {}
  tag : Tag := {}
  life : Life := {}
  /-- the jobs as they stood when the compute die lost its power, for the entries of struck islands (18 R661) -/
  stood : Tab Job := []
  /-- stored values of Glossary entries, under (INDEX·256 + SUB)·65,536 + selector -/
  gls : Tab Nat := []
  /-- module memory by module address (15 Table 2): DRAM, squad scratch and registers that nothing else holds -/
  mem : Mem := []
  /-- code flash by offset; a byte not listed is erased, 0xFF (16) -/
  codeFlash : Mem := []
  /-- bytes of register space that no other field holds (the MSI-X tables), by function·2^32 + offset -/
  barMem : Mem := []
  /-- bytes the module has written to host memory, by function·2^64 + address: each partition writes under its own routing ID (03 R93,
  R110; log entry 2) -/
  hostMem : Mem := []
  deriving DecidableEq, Repr

/-- The module right after reset: in SENTINEL on the backup cell, every field at its default (log entry 10). -/
def State.reset : State := {}

end Sys2Proof.Machine
end

