-- ==== Sys2Proof/Machine/Ops.lean ====
section
/-! DEFINITION. Operations that the meanings share: Glossary values, free values, time, islands and modes as numbers,
events presented for stamping, MSI-X messages, notifications, host memory and outcomes. -/

namespace Sys2Proof.Machine

open Sys2Proof

/-- The outcome of a command that completes. -/
abbrev Out := Host.Outcome State Fault Refusal

/-- A function applied to a value when a condition holds. -/
def onlyIf {α : Type} (c : Bool) (f : α → α) (x : α) : α := if c then f x else x

/-! ### Glossary values (22 R764, R766) -/

/-- The stored value of an entry for one value of its selectors. -/
def State.gvs (s : State) (e : GE) (sel : Nat) : Nat := s.gls.get e.dflt (e.key * 65536 + sel)

/-- The stored value of an entry without a selector. -/
def State.gv (s : State) (e : GE) : Nat := s.gvs e 0

/-- An entry's value for one selector value set. -/
def State.gsets (s : State) (e : GE) (sel v : Nat) : State := { s with gls := s.gls.set (e.key * 65536 + sel) v }

/-- An entry's value set. -/
def State.gset (s : State) (e : GE) (v : Nat) : State := s.gsets e 0 v

/-- A counter entry raised by `n`, modulo 2^64. -/
def State.bumpBys (s : State) (e : GE) (sel n : Nat) : State := s.gsets e sel ((s.gvs e sel + n) % 2 ^ 64)

/-- A counter entry raised by one. -/
def State.bump (s : State) (e : GE) : State := s.bumpBys e 0 1

/-- A counter entry under a selector raised by one. -/
def State.bumps (s : State) (e : GE) (sel : Nat) : State := s.bumpBys e sel 1

/-! ### Free values (log entry 3) -/

/-- A free number, and the state after the draw. -/
def State.drawNat (s : State) : Nat × State := (Config.freeNat s.free, { s with free := s.free + 1 })

/-- `n` free octets, and the state after the draw. -/
def State.drawBytes (s : State) (n : Nat) : Bytes × State :=
  (fit n (Config.freeBytes s.free n), { s with free := s.free + 1 })

/-! ### Time -/

/-- The ticks of 2.5 ns that the model has made (17 R642, log entry 5). -/
def State.now (s : State) : Nat := s.clock.ticks

/-- Ticks in `n` microseconds. -/
def usTicks (n : Nat) : Nat := n * 400

/-- Ticks in `n` milliseconds. -/
def msTicks (n : Nat) : Nat := n * 400000

/-- Ticks in `n` seconds. -/
def secTicks (n : Nat) : Nat := n * 400000000

/-- Device time in whole nanoseconds (17 R641). -/
def State.dtbNs (s : State) : Nat := s.clock.dtb / 2 ^ 32

/-! ### Modes (18 Table 1) -/

/-- State codes of the modes, by mode code. -/
def modeCode : Nat → BitVec 12
  | 0 => 0x5A5 | 1 => 0x5AA | 2 => 0x555 | 3 => 0x55A | 4 => 0xAA5 | 5 => 0xAAA | 6 => 0xA55 | _ => 0xA5A

/-- The mode that a state code names; a code outside Table 1 reads as LOCKDOWN (20 R723). -/
def modeOfCode (c : BitVec 12) : Nat :=
  if c = 0x5A5 then 0 else if c = 0x5AA then 1 else if c = 0x555 then 2 else if c = 0x55A then 3
  else if c = 0xAA5 then 4 else if c = 0xAAA then 5 else if c = 0xA55 then 6 else if c = 0xA5A then 7 else 6

/-- The current mode, 0 SENTINEL to 7 SERVICE. -/
def State.modeNum (s : State) : Nat := modeOfCode s.mode.code

/-- The module serves jobs: SERVE, LEAN, CHANGEOVER, LOCKDOWN or SERVICE (18 Table 1). -/
def State.serving (s : State) : Bool := decide (3 ≤ s.modeNum)

/-- +12V is in range, so domains K and C are powered (18 Table 1). -/
def State.mainUp (s : State) : Bool := decide (2 ≤ s.modeNum)

/-- The always-on domain has a host supply (18 Table 1). -/
def State.hostSupply (s : State) : Bool := decide (1 ≤ s.modeNum)

/-! ### Islands (17 Table 1, 18 Table 3) -/

/-- Power domain of an island: 0 S, 1 A, 2 K, 3 C. -/
def islDomain (n : Nat) : Nat :=
  if n = 243 ∨ n = 235 then 0
  else if n = 233 ∨ n = 234 ∨ n = 238 then 2
  else if n < 200 then 3 else 1

/-- island.state of an island: 0 in service, 1 throttled, 2 struck, 3 lost. -/
def State.isl (s : State) (n : Nat) : Nat := (s.islands.get {} n).state

/-- The state of an island set. -/
def State.setIsl (s : State) (n v : Nat) : State := { s with islands := s.islands.set n ⟨v⟩ }

/-- Islands struck: each that is not lost becomes struck. -/
def strikeIsl (s : State) (l : List Nat) : State :=
  l.foldl (fun s n => if s.isl n = 3 then s else s.setIsl n 2) s

/-- An island's clock is throttled by the supplies' state: its die is at 95 °C, or the 60 W cap of a lost auxiliary supply holds on
the compute die (02 R71, R79). TBS and SNT keep their clocks (17 R631). -/
def slowed (p : Power) (n : Nat) : Bool :=
  n != 194 && n != 243 && (p.hotDies.contains (if n < 200 then 0 else 1) || (p.cap60 && decide (n < 200)))

/-- Islands hoisted: each that is struck returns to service, throttled where its clock is. -/
def hoistIsl (s : State) (l : List Nat) : State :=
  l.foldl (fun s n => if s.isl n = 2 then s.setIsl n (b2n (slowed s.power n)) else s) s

/-- A unit of the Verb cores is a Deep Verb pair. -/
def isDeep (u : Nat) : Bool := decide (u < 4)

/-- The island that a unit of the Verb cores stands in (17 Table 1). -/
def unitIsl (u : Nat) : Nat :=
  if u < 4 then 200 + u else if u < 8 then 151 + (u - 4) else if u < 12 then 199 else 4 * ((u - 12) / 16)

/-- TICK (13 R509): cycles of the core's own clock since its reset, at its nominal rate, or at a part of it while its island is throttled. -/
def tickOf (s : State) (u : Nat) : Nat :=
  let x := s.verb.units.get {} u
  let t := s.clock.ticks - x.tickAt
  let n := if isDeep u then 2 * t else 9 * t / 2
  (x.tickBase + (match x.tickSlow with | none => n | some f => n * (f % 2 ^ 16) / 2 ^ 16)) % 2 ^ 64

/-- The part of its clock that a unit keeps under the present supplies: nothing fixes how far a clock is lowered (13 R509, 17 R631; log
entry 160). -/
def tickPart (s : State) (u : Nat) : Option Nat := if slowed s.power (unitIsl u) then some (Config.freeNat s.free) else none

/-- TICK goes on at the rate that the supplies now give a unit. -/
def rebaseTick (s : State) (u : Nat) (x : VUnit) : VUnit :=
  if x.tickSlow.isSome = slowed s.power (unitIsl u) then x
  else { x with tickBase := tickOf s u, tickAt := s.clock.ticks, tickSlow := tickPart s u }

/-- Every island in service marked throttled or not, as its clock now is, and the cores' TICK with it (02 R71, R79; 13 R509). -/
def setThrottle (s0 : State) : State :=
  let s : State := { s0 with free := s0.free + 1, verb := { s0.verb with units := s0.verb.units.mapVals (rebaseTick s0) } }
  (List.range 244).foldl (fun s n =>
    if s.isl n ≤ 1 ∧ s.isl n ≠ b2n (slowed s.power n) then s.setIsl n (b2n (slowed s.power n)) else s) s

/-- The islands of a domain. -/
def domIsl (d : Nat) : List Nat := (List.range 244).filter (fun n => islDomain n == d)

/-- The first island of squad `q`: SQq.SEQ. -/
def sqIsl (q : Nat) : Nat := 4 * q

/-- The island of stream engine `e`. -/
def strIsl (e : Nat) : Nat := 128 + e

/-! ### Events (17 R637, R638; 21 R747) -/

/-- A token presented at an island's arbiter port. -/
def State.present (s : State) (isl : Nat) (t : Tok) : State :=
  { s with evr := { s.evr with ports := s.evr.ports.upd [] isl (fun l => l ++ [t]) } }

/-- An event presented: its payload padded to LEN 16-byte units. -/
def State.event (s : State) (isl code len : Nat) (pay : Bytes) : State := s.present isl (.evt code (fit (16 * len) pay))

/-- A report of a coalesced code presented. -/
def State.report (s : State) (isl code subj detail : Nat) : State :=
  s.present isl (.coal code subj detail (0xC00 + isl))

/-- A report of a coalesced code by a master identity. -/
def State.reportBy (s : State) (isl code subj detail who : Nat) : State := s.present isl (.coal code subj detail who)

/-! ### Interrupt messages and notifications (03 R90, R100; 22 R786) -/

/-- An MSI-X message of a function: sent in L0, pending for PF0 in D3hot, held while the link is on its way to L0 (03 R90; log entry
138). Without main power there is no link, and nothing is held. -/
def State.msix (s : State) (fn vec : Nat) : State :=
  if fn = 0 ∧ s.link.d3hot then { s with link := { s.link with pba := addUnique vec s.link.pba } }
  else if s.link.state = .l0 then { s with link := { s.link with msixSent := s.link.msixSent ++ [(fn, vec)] } }
  else if s.mainUp then { s with link := { s.link with msixHeld := addUnique (fn, vec) s.link.msixHeld } }
  else s

/-- The vector 0 message of an ALERT: out of L0 it is neither sent nor held (20 R849). -/
def State.msixAlert (s : State) : State := if s.link.state = .l0 then s.msix 0 0 else s

/-- A message: MSG, FLAGS 0, REQ_ID, LEN, two zero bytes, body (22 R781). -/
def message (msg req : Nat) (body : Bytes) : Bytes :=
  toLE 1 msg ++ zeros 1 ++ toLE 2 req ++ toLE 2 body.length ++ zeros 2 ++ body

/-- A frame of NOTIFY queued to one GAP session (22 R786). -/
def notifySess (now : Nat) (body : Bytes) (x : Sess) : Sess :=
  if x.opened then
    { x with notifies := x.notifies ++ [{ req := x.notifyNext, body := body, sentAt := now }], notifyNext := x.notifyNext + 1,
             seqOut := x.seqOut + 1, framesOut := x.framesOut + 1, sent := x.sent ++ [message 0x30 (x.notifyNext % 65536) body] }
  else x

/-- A NOTIFY sent to every GAP session. -/
def State.notify (s : State) (body : Bytes) : State :=
  { s with mgmt := { s.mgmt with gap := s.mgmt.gap.mapVals (fun _ x => notifySess s.now body x) } }

/-! ### Host memory (log entry 2) -/

/-- The key of a host address under a function's routing ID: what two functions write does not meet (03 R93, R110). -/
def hostPlace (fn a : Nat) : Nat := fn * 2 ^ 64 + a

/-- Bytes written to host memory under a function's routing ID (03 R93). -/
def State.hostWrite (s : State) (fn a : Nat) (bs : Bytes) : State :=
  { s with hostMem := Mem.write 0 s.hostMem (hostPlace fn a) bs }

/-! ### Monitors (20 Table 1) -/

/-- Default N, W and response, and the floor, of a monitor (20 Table 1). -/
def monRow : Nat → Nat × Nat × Nat × Nat
  | 0 => (3, 1, 1, 0) | 1 => (3, 1, 1, 0) | 2 => (3, 1, 1, 0) | 3 => (4, 1000, 4, 1) | 4 => (3, 1000, 1, 0)
  | 5 => (2, 1, 2, 0) | 6 => (1, 1, 4, 1) | 7 => (1, 1, 4, 4) | 8 => (1, 1, 4, 4) | 9 => (1, 1, 4, 4)
  | 10 => (1, 1, 4, 4) | 11 => (1, 1, 4, 1) | 12 => (1, 1, 4, 1) | 13 => (2, 10, 3, 2) | 14 => (2, 10, 3, 2)
  | 15 => (1, 1, 4, 4) | 16 => (8, 1000, 1, 1) | 17 => (8, 1000, 1, 1) | 18 => (64, 1000, 3, 1) | 19 => (8, 10, 2, 0)
  | _ => (1, 1, 2, 1)

/-- tamper.mon.n of a monitor in force. -/
def State.monN (s : State) (m : Nat) : Nat := s.gls.get (monRow m).1 (gTamperMonN.key * 65536 + m)

/-- tamper.mon.w of a monitor in force, in ms. -/
def State.monW (s : State) (m : Nat) : Nat := s.gls.get (monRow m).2.1 (gTamperMonW.key * 65536 + m)

/-- The response of a monitor in force; CELL_CRIT acts as ERASE-ROOT on the cell alone and as ALERT otherwise
(20 R735). -/
def State.monResp (s : State) (m : Nat) : Nat :=
  if m = 17 then (if s.tamper.sntRuns && !s.hostSupply then 4 else 1)
  else s.gls.get (monRow m).2.2.1 (gTamperMonResponse.key * 65536 + m)

/-- The weakest response permitted (20 Table 1). -/
def monFloor (m : Nat) : Nat := (monRow m).2.2.2

/-- Names of the monitors (20 Table 1). -/
def monName : Nat → String
  | 0 => "RAIL12S" | 1 => "RAIL12A" | 2 => "RAIL33A" | 3 => "TEMP" | 4 => "TEMP_WARN" | 5 => "CLOCK" | 6 => "LIGHT"
  | 7 => "MESH0" | 8 => "MESH1" | 9 => "MESH2" | 10 => "MESH3" | 11 => "LOOP1" | 12 => "LOOP2" | 13 => "VGLITCH"
  | 14 => "CGLITCH" | 15 => "STATE_CODE" | 16 => "CELL_LOW" | 17 => "CELL_CRIT" | 18 => "FAULT_RATE"
  | 19 => "FAULT_BURST" | _ => "GUARD_INT"

/-! ### Sub-states -/

def State.withClock (s : State) (f : Clock → Clock) : State := { s with clock := f s.clock }
def State.withEvr (s : State) (f : Recorder → Recorder) : State := { s with evr := f s.evr }
def State.withMode (s : State) (f : ModeSt → ModeSt) : State := { s with mode := f s.mode }
def State.withLink (s : State) (f : Link → Link) : State := { s with link := f s.link }
def State.withPower (s : State) (f : Power → Power) : State := { s with power := f s.power }
def State.withTamper (s : State) (f : Tamper → Tamper) : State := { s with tamper := f s.tamper }
def State.withMgmt (s : State) (f : Mgmt → Mgmt) : State := { s with mgmt := f s.mgmt }
def State.withPart (s : State) (p : Nat) (f : Part → Part) : State := { s with parts := s.parts.upd {} p f }
def State.withJob (s : State) (j : Nat) (f : Job → Job) : State := { s with jobs := s.jobs.upd {} j f }

def State.withKeys (s : State) (f : KeyStore → KeyStore) : State := { s with keys := f s.keys }
def State.withSlot (s : State) (i : Nat) (f : KSlot → KSlot) : State :=
  s.withKeys (fun k => { k with slots := k.slots.upd {} i f })
def State.withRng (s : State) (f : Rng → Rng) : State := { s with rng := f s.rng }
def State.withDma (s : State) (f : Dma → Dma) : State := { s with dma := f s.dma }
def State.withChan (s : State) (c : Nat) (f : DmaCh → DmaCh) : State :=
  s.withDma (fun d => { d with chans := d.chans.upd {} c f })
def State.withCode (s : State) (f : CodeFlash → CodeFlash) : State := { s with code := f s.code }
def State.withVault (s : State) (f : Vault → Vault) : State := { s with vault := f s.vault }

/-- The key slot; FREE where none is listed. -/
def State.kslot (s : State) (i : Nat) : KSlot := s.keys.slots.get {} i

/-- The DMA channel. -/
def State.chan (s : State) (c : Nat) : DmaCh := s.dma.chans.get {} c

def State.withLanes (s : State) (f : Lanes → Lanes) : State := { s with lanes := f s.lanes }
def State.withSquad (s : State) (q : Nat) (f : Squad → Squad) : State :=
  s.withLanes (fun l => { l with squads := l.squads.upd {} q f })
def State.withIntake (s : State) (c : Nat) (f : Intake → Intake) : State := { s with intake := s.intake.upd {} c f }

def State.withVerb (s : State) (f : VerbSt → VerbSt) : State := { s with verb := f s.verb }
def State.withUnit (s : State) (u : Nat) (f : VUnit → VUnit) : State :=
  s.withVerb (fun v => { v with units := v.units.upd {} u f })

/-- The core or context. -/
def State.unit (s : State) (u : Nat) : VUnit := s.verb.units.get {} u

/-- Units of core `n` of 13 Table 1: a pair, a core, or the 16 contexts of a squad (13 R522). -/
def coreUnits (n : Nat) : List Nat :=
  if n < 4 then [n / 2 * 2] else if n < 12 then [n] else (List.range 16).map (fun c => 12 + 16 * (n - 12) + c)

/-- The event latches of the cores that a mask names are set; each records the sender's bit (13 R522, R523). -/
def sendEvents (s : State) (mask : Nat) (sender : Option Nat) : State :=
  ((List.range 44).filter (fun n => bit mask n)).foldl (fun s n => (coreUnits n).foldl (fun s u => s.withUnit u (fun x =>
    match sender with
    | none => { x with latch := true }
    | some b =>
      let w := (BitVec.ofNat 64 (2 ^ b) ||| (x.ev1 ++ x.ev0))
      { x with latch := true, ev0 := w.setWidth 32, ev1 := (w >>> 32).setWidth 32 })) s) s

/-- The squad. -/
def State.squad (s : State) (q : Nat) : Squad := s.lanes.squads.get {} q

def State.withGuard (s : State) (g : Nat) (f : Guard → Guard) : State := { s with guards := s.guards.upd {} g f }

def State.withLife (s : State) (f : Life → Life) : State := { s with life := f s.life }

def State.withMeter (s : State) (f : Meter → Meter) : State := { s with meter := f s.meter }

/-- The partition. -/
def State.part (s : State) (p : Nat) : Part := s.parts.get {} p

/-- The job. -/
def State.job (s : State) (j : Nat) : Job := s.jobs.get {} j

/-- The key of ring `r` of partition `p`. -/
def ringKey (p r : Nat) : Nat := p * 8 + r

/-- The ring. -/
def State.ring (s : State) (p r : Nat) : Ring := s.rings.get {} (ringKey p r)

def State.withRing (s : State) (p r : Nat) (f : Ring → Ring) : State :=
  { s with rings := s.rings.upd {} (ringKey p r) f }

end Sys2Proof.Machine
end

