-- ==== Sys2Proof/Machine/Costs.lean ====
section
/-! DEFINITION. Opcodes, their lengths, and the nominal cycles that they count (05 R198, R228, R233; 06 R243 to R250; 07 R275,
R276, R304, R306; 08 R315, R334 to R337). -/

namespace Sys2Proof.Machine

open Sys2Proof

/-! ### Opcodes -/

/-- Every opcode that a chapter defines (03 Table 8, 05 Table 6, 07 Tables 5 and 6, 08 Table 3, 09 Table 7, 10 Table 8,
12 R491). -/
def definedOps : List Nat :=
  [0x0101, 0x0102, 0x0103, 0x0104, 0x0201, 0x0202, 0x0203, 0x0204, 0x0205, 0x0206, 0x0207, 0x0208, 0x0220, 0x0301, 0x0302,
   0x0303, 0x0304, 0x0305, 0x0306, 0x0320, 0x0401, 0x0402, 0x0410, 0x0411, 0x0420, 0x0421, 0x0501, 0x0502, 0x0503, 0x0504,
   0x0505, 0x0506, 0x0510, 0x0601, 0x0602, 0x0701, 0x0801, 0x0802, 0x0803, 0x0804, 0x0805, 0x0880, 0x0881, 0x0882]

/-- Administrative opcodes run on the intake cores (03 R135). -/
def isAdminOp (op : Nat) : Bool := op / 256 == 8

/-- Opcodes that run on squads: 0x01xx to 0x04xx, and KEY_IMPORT (06, 09 R851). -/
def isSquadOp (op : Nat) : Bool := decide (1 ≤ op / 256 ∧ op / 256 ≤ 4) || op == 0x0502

def isStreamOp (op : Nat) : Bool := op / 256 == 6

/-- Bytes in a unit of OPA_LEN and OPB_LEN (04 R159, 03 R136, R137). -/
def lenUnit (op : Nat) : Nat := if op / 256 = 1 ∨ op / 256 = 8 then 8 else 1

/-- Bytes in a unit of RESULT_CAP. -/
def capUnit (op : Nat) : Nat := if op / 256 = 1 then 8 else 1

/-- Opcodes without output (04 Table 11 check 11). -/
def noOutput (op : Nat) : Bool := [0x0504, 0x0506, 0x0510, 0x0801, 0x0805, 0x0880, 0x0881, 0x0882].contains op

/-- PARAM.HOST_KEY and the other PARAM fields of 07 Table 1 and 08 Table 2. -/
def Desc.hostKey (d : Desc) : Bool := bit d.param 31
def Desc.hash (d : Desc) : Nat := d.param % 256
def Desc.curve (d : Desc) : Nat := bits d.param 15 8
def Desc.salt (d : Desc) : Nat := bits d.param 23 16

/-- The opcode draws randomness, so that its job waits for it (04 R177; the Random columns). -/
def randomOp (d : Desc) : Bool :=
  [0x0207, 0x0220, 0x0301, 0x0303, 0x0306, 0x0320, 0x0401, 0x0420, 0x0421, 0x0501, 0x0502, 0x0701].contains d.opcode ||
    (d.opcode == 0x0204 && d.salt != 0) || (d.opcode == 0x0410 && !bit d.param 30)

/-- Bytes of operands that a job reads. -/
def operandBytes (d : Desc) : Nat := (d.opaLen + d.opbLen) * lenUnit d.opcode

/-- Where a job that holds a context and its randomness stands: operands up to 2 KiB are read ahead, those of stream jobs included,
larger ones at dispatch (04 R179). -/
def readyPhase (d : Desc) : Phase :=
  if isAdminOp d.opcode then .admin
  else if operandBytes d = 0 ∨ 2048 < operandBytes d then .ready
  else .staged

/-! ### Primitive steps (06 Table 2) -/

/-- Channels of each base for L words (05 R198). -/
def chans (L : Nat) : Nat := ceilDiv (64 * L + 18) 61

def cSetup (L : Nat) : Nat := 256 + 8 * chans L + 64 * L
def cConv (L : Nat) : Nat := ceilDiv ((2 * chans L + 2) * L) 32 + 4
def cMont (L : Nat) : Nat := ceilDiv (chans L * (chans L + 2)) 20 + 2 * ceilDiv (chans L + 1) 16
def cAdd (L : Nat) : Nat := ceilDiv (chans L + 1) 16
def cSettle (L : Nat) : Nat := ceilDiv (chans L * (chans L + 2)) 20 + 3 * L + 8
def cDivstep (L : Nat) : Nat := 2 * ceilDiv L 4

/-- D(L) divsteps (05 R228). -/
def divsteps (L : Nat) : Nat := (49 * 64 * L + 57) / 17

/-- V(op, L) of MODADD, MODMUL, MODEXP and of the RSA opcodes; of MODINV (05 R228, 07 R304). -/
def vMod (L : Nat) : Nat := 768 + 8 * L * ceilDiv (chans L) 16
def vInv (L : Nat) : Nat := 1024 + 2 * divsteps L * ceilDiv L 4

/-- MONTs of one exponentiation at L words (05 R230). -/
def expMonts (L : Nat) : Nat := 80 * L + 17

/-- A run of equal steps of a sequence: how many, the nominal cycles of each, and whether they are MONTs. -/
structure StepRun where
  n : Nat
  c : Nat
  mont : Bool := false
  deriving DecidableEq, Repr

/-- Nominal cycles of a whole sequence of steps. -/
def runCycles (l : List StepRun) : Nat := (l.map (fun r => r.n * r.c)).sum

/-- Steps of a sequence. -/
def runSteps (l : List StepRun) : Nat := (l.map (fun r => r.n)).sum

/-- Nominal cycles of the first `n` steps of a sequence (06 R244). -/
def runPrefix : List StepRun → Nat → Nat
  | [], _ => 0
  | r :: l, n => if n < r.n then n * r.c else r.n * r.c + runPrefix l (n - r.n)

/-- Steps of a sequence up to its `m`-th MONT, that one included. -/
def stepsToMont : List StepRun → Nat → Nat
  | [], _ => 0
  | r :: l, m => if !r.mont then r.n + stepsToMont l m else if m ≤ r.n then m else r.n + stepsToMont l (m - r.n)

/-- The steps of the generic opcodes, in their order (05 R233). -/
def genericRuns (op L le : Nat) : List StepRun :=
  if op = 0x0101 then [⟨1, cSetup L, false⟩, ⟨2, cConv L, false⟩, ⟨1, cAdd L, false⟩, ⟨1, cSettle L, false⟩]
  else if op = 0x0102 then [⟨1, cSetup L, false⟩, ⟨2, cConv L, false⟩, ⟨2, cMont L, true⟩, ⟨1, cSettle L, false⟩]
  else if op = 0x0103 then [⟨1, cSetup L, false⟩, ⟨1, cConv L, false⟩, ⟨expMonts le, cMont L, true⟩, ⟨1, cSettle L, false⟩]
  else [⟨1, cSetup L, false⟩, ⟨1, cConv L, false⟩, ⟨divsteps L, cDivstep L, false⟩, ⟨1, cSettle L, false⟩]

/-- Nominal cycles of the generic opcodes (05 R233). -/
def genericCycles (op L le : Nat) : Nat := runCycles (genericRuns op L le)

/-! ### Hashes (07 Table 2, R275) -/

def hLen : Nat → Nat
  | 1 => 32 | 2 => 48 | 3 => 64 | 4 => 32 | 5 => 48 | 6 => 64 | 7 => 64 | _ => 0

/-- Block or rate of a hash. -/
def hBlock : Nat → Nat
  | 1 => 64 | 2 => 128 | 3 => 128 | 4 => 136 | 5 => 104 | 6 => 72 | _ => 136

/-- Hash steps over `n` bytes. -/
def hSteps (h n : Nat) : Nat :=
  if h = 0 then 0 else if h = 1 then ceilDiv (n + 9) 64 else if h ≤ 3 then ceilDiv (n + 17) 128 else n / hBlock h + 1

/-- Hash steps of MGF1 from a seed of `n` bytes to a mask of `m`. -/
def mgfSteps (h n m : Nat) : Nat := ceilDiv m (hLen h) * hSteps h (n + 4)

def pssSteps (h kn salt : Nat) : Nat := hSteps h (8 + hLen h + salt) + mgfSteps h (hLen h) (kn - hLen h - 1)
def oaepSteps (h kn : Nat) : Nat :=
  hSteps h 0 + mgfSteps h (hLen h) (kn - hLen h - 1) + mgfSteps h (kn - hLen h - 1) (hLen h)

/-- Hash steps of one HMAC over `n` bytes. -/
def hmacSteps (h n : Nat) : Nat := hSteps h (hBlock h + n) + hSteps h (hBlock h + hLen h)

/-- Hash steps of the nonce derivation of 07 R294, for an order of `q` bytes. -/
def nonceSteps (h q : Nat) : Nat :=
  2 * hmacSteps h (hLen h + 1 + 3 * q) + 2 * hmacSteps h (hLen h) + ceilDiv (q + 8) (hLen h) * hmacSteps h (hLen h)

/-! ### RSA (07 R282, R288, R306) -/

/-- B(e) = bitlen(e) + popcount(e). -/
def bOf (e : Nat) : Nat := bitLen 64 e + popcount 64 e

/-- RSA private, all padding modes, with `hs` hash steps, in the order of the columns of 07 Table 11 (log entry 31). -/
def rsaPrivRuns (L b hs : Nat) : List StepRun :=
  let H := ceilDiv L 2
  [⟨1, cSetup L, false⟩, ⟨2, cSetup H, false⟩, ⟨3, cConv L, false⟩, ⟨4, cConv H, false⟩, ⟨2 * expMonts H + 4, cMont H, true⟩,
   ⟨2 + b, cMont L, true⟩, ⟨4, cAdd H, false⟩, ⟨1, cAdd L, false⟩, ⟨3, cSettle H, false⟩, ⟨2, cSettle L, false⟩, ⟨hs, 24, false⟩]
def rsaPrivCycles (L b hs : Nat) : Nat := runCycles (rsaPrivRuns L b hs)

/-- RSA public, encrypt and verify. -/
def rsaPubRuns (L b hs : Nat) : List StepRun :=
  [⟨1, cSetup L, false⟩, ⟨1, cConv L, false⟩, ⟨b, cMont L, true⟩, ⟨1, cSettle L, false⟩, ⟨hs, 24, false⟩]
def rsaPubCycles (L b hs : Nat) : Nat := runCycles (rsaPubRuns L b hs)

/-! ### RSA key generation (07 R299 to R301, R306): the spec numbers the candidates and the rounds, not the steps of a round -/

/-- Bits of a prime, and candidates of a batch, of a modulus of `w` words (07 R299, R300). -/
def primeBits (w : Nat) : Nat := 32 * w

/-- One Miller–Rabin round at H words: a set-up, a conversion, its MONTs, whose number is open, a SETTLE (06 R250; log entry 30). -/
def roundRuns (H : Nat) : List StepRun :=
  [⟨1, cSetup H, false⟩, ⟨1, cConv H, false⟩, ⟨Config.roundMonts H, cMont H, true⟩, ⟨1, cSettle H, false⟩]

/-- A generation with `batches` batches in all: a round for each candidate, five further rounds for each prime, then the CRT values and
the check before release, a raw private operation with e = 65,537 among them. -/
def rsaKeygenRuns (w batches : Nat) : List StepRun :=
  (List.replicate (batches * primeBits w + 10) (roundRuns (ceilDiv w 2))).flatten ++ [⟨1, Config.crtCycles w, false⟩] ++ rsaPrivRuns w 19 0

/-- MONTs of a generation. -/
def rsaKeygenMonts (w batches : Nat) : Nat := (batches * primeBits w + 10) * Config.roundMonts (ceilDiv w 2)

/-- Hash steps of an RSA opcode. -/
def rsaHash (d : Desc) (kn : Nat) : Nat :=
  if d.opcode = 0x0204 ∨ d.opcode = 0x0206 then pssSteps d.hash kn d.salt
  else if d.opcode = 0x0207 ∨ d.opcode = 0x0208 then oaepSteps d.hash kn
  else 0

/-! ### Curves (07 Tables 3, 9, 11) -/

/-- A curve: field bytes, order bytes, words, windows or ladder steps, MONTs of a doubling, Z. -/
structure Curve where
  fb : Nat
  qb : Nat
  L : Nat
  w : Nat
  D : Nat
  Z : Nat
  deriving DecidableEq, Repr

def curveRow : Nat → Option Curve
  | 0x01 => some ⟨32, 32, 4, 64, 8, 0⟩
  | 0x02 => some ⟨48, 48, 6, 96, 8, 0⟩
  | 0x03 => some ⟨66, 66, 9, 131, 8, 0⟩
  | 0x04 => some ⟨32, 32, 4, 64, 7, 0⟩
  | 0x05 => some ⟨32, 32, 4, 64, 10, 0⟩
  | 0x06 => some ⟨48, 48, 6, 96, 10, 0⟩
  | 0x10 => some ⟨32, 32, 4, 64, 8, 2174⟩
  | 0x11 => some ⟨57, 57, 7, 112, 8, 3710⟩
  | 0x20 => some ⟨32, 32, 4, 255, 0, 2174⟩
  | 0x21 => some ⟨56, 56, 7, 448, 0, 3710⟩
  | _ => none

/-- The curve of an identifier; P-256 stands where none is named, and no command reaches it there. -/
def curveOf (c : Nat) : Curve := (curveRow c).getD ⟨32, 32, 4, 64, 8, 0⟩

/-- PC = E + 8 + Z, the point test (07 R306). -/
def pointTest (c : Curve) : Nat := expMonts c.L + 8 + c.Z

/-- V_pt and V_sc (07 Table 9). -/
def vPoint (c : Curve) : Nat := cSetup c.L + 2 * cConv c.L + pointTest c * cMont c.L
def vScalar (c : Curve) : Nat := cSetup c.L + 2 * cConv c.L + 8 * cMont c.L

/-- A row of 07 Table 11 for a curve: set-ups, conversions, MONTs, adds, SETTLEs, hash steps, in that order (log entry 31). -/
def curveRuns (c : Curve) (su cv mo ad se hs : Nat) : List StepRun :=
  [⟨su, cSetup c.L, false⟩, ⟨cv, cConv c.L, false⟩, ⟨mo, cMont c.L, true⟩, ⟨ad, cAdd c.L, false⟩, ⟨se, cSettle c.L, false⟩, ⟨hs, 24, false⟩]

def ecdsaSignRuns (c : Curve) (hs : Nat) : List StepRun :=
  curveRuns c 2 4 (c.w * (4 * c.D + 11) + 2 * expMonts c.L + 24) 12 4 hs
def ecdsaVerifyRuns (c : Curve) (host : Bool) : List StepRun :=
  curveRuns c 2 5 (224 + c.w * (4 * c.D + 27) + 2 * expMonts c.L + 12 + (if host then pointTest c else 0)) 10 3 0
def ecdhRuns (c : Curve) : List StepRun := curveRuns c 1 3 (224 + c.w * (4 * c.D + 16) + expMonts c.L + 16 + pointTest c) 6 1 0
def eddsaSignRuns (c : Curve) (hs : Nat) : List StepRun := curveRuns c 2 3 (40 * c.w + 2 * expMonts c.L + 20) 8 3 hs
def eddsaVerifyRuns (c : Curve) (host : Bool) (hs : Nat) : List StepRun :=
  curveRuns c 2 4 (126 + 49 * c.w + expMonts c.L + 12 + (if host then pointTest c else 0)) 8 2 hs
def xdhRuns (c : Curve) (pc : Bool) : List StepRun :=
  curveRuns c 1 2 (10 * c.w + expMonts c.L + 8 + (if pc then pointTest c else 0)) 4 1 0
def ecdsaSignCycles (c : Curve) (hs : Nat) : Nat := runCycles (ecdsaSignRuns c hs)

/-- EC_KEYGEN: the multiplication by the base point and its recomputation, whose steps the spec does not number (07 R306; log entry 30). -/
def ecKeygenRuns (cn : Nat) (c : Curve) : List StepRun :=
  [⟨1, cSetup c.L, false⟩, ⟨Config.ecKeygenMonts cn, cMont c.L, true⟩, ⟨2, cSettle c.L, false⟩]

/-- Steps of RFC 8032's hashing over `n` bytes: SHA-512 for Ed25519, SHAKE256 for Ed448. -/
def edSteps (curve n : Nat) : Nat := if curve = 0x10 then hSteps 3 n else hSteps 7 n

/-- Bytes that dom2 or dom4 with an empty context puts in front (RFC 8032). -/
def edDom (curve : Nat) (ph : Bool) : Nat := if curve = 0x11 then 10 else if ph then 34 else 0

/-- Hash steps of an EdDSA signature: the seed, r, k; of a verification: k. -/
def edSignSteps (curve m : Nat) (ph : Bool) : Nat :=
  let b := (curveOf curve).fb
  edSteps curve b + edSteps curve (edDom curve ph + b + m) + edSteps curve (edDom curve ph + 2 * b + m)
def edVerifySteps (curve m : Nat) (ph : Bool) : Nat := edSteps curve (edDom curve ph + 2 * (curveOf curve).fb + m)

/-- Octets of an EdDSA signature. -/
def edSigLen (curve : Nat) : Nat := if curve = 0x11 then 114 else 64

/-! ### Lattice sets (08 Tables 1, 8) -/

/-- A parameter set: k, l, public key bytes, ciphertext or signature bytes, h_p, h_w, A_nom. -/
structure PSet where
  k : Nat
  l : Nat
  pk : Nat
  ct : Nat
  hp : Nat
  hw : Nat
  A : Nat
  deriving DecidableEq, Repr

def psetRow : Nat → Option PSet
  | 0x01 => some ⟨2, 0, 800, 768, 6, 0, 0⟩
  | 0x02 => some ⟨3, 0, 1184, 1088, 9, 0, 0⟩
  | 0x03 => some ⟨4, 0, 1568, 1568, 12, 0, 0⟩
  | 0x11 => some ⟨4, 4, 1312, 2420, 10, 7, 4⟩
  | 0x12 => some ⟨6, 5, 1952, 3309, 15, 7, 5⟩
  | 0x13 => some ⟨8, 7, 2592, 4627, 20, 9, 4⟩
  | _ => none

def psetOf (p : Nat) : PSet := (psetRow p).getD ⟨2, 0, 800, 768, 6, 0, 0⟩

/-- p of 08 Table 8. -/
def kemP (x : PSet) : Nat := if x.k = 2 then 2 else 1

/-- N_n narrow instructions, then N_k permutations (08 Table 8; log entry 31). -/
def latticeRuns (nn nk : Nat) : List StepRun := [⟨nn, 1, false⟩, ⟨nk, 24, false⟩]

def encapsRuns (x : PSet) : List StepRun :=
  latticeRuns (10 * x.k * x.k + 54 * x.k + 30) (4 * x.k * x.k + (kemP x + 1) * x.k + x.hp + 2)
def decapsRuns (x : PSet) : List StepRun :=
  latticeRuns (10 * x.k * x.k + 88 * x.k + 60) (4 * x.k * x.k + (kemP x + 1) * x.k + x.hp + 2)
def kemKeygenRuns (x : PSet) : List StepRun :=
  latticeRuns (30 * x.k * x.k + 184 * x.k + 90) (12 * x.k * x.k + (4 * kemP x + 2) * x.k + 3 * x.hp + 5)

/-- μ permutations for a context and a message part of `m` bytes (08 R337). -/
def muSteps (ctx m : Nat) : Nat := (66 + ctx + m) / 136 + 1

/-- The message part: the message, or 11 + hLen under HashML-DSA (08 R337). -/
def muPart (h m : Nat) : Nat := if h = 0 then m else 11 + hLen h

def dsaVerifyRuns (x : PSet) (mu : Nat) : List StepRun :=
  latticeRuns (8 * x.k * x.l + 34 * x.l + 84 * x.k + 30) (5 * x.k * x.l + x.hp + x.hw + 1 + mu)
def dsaSignNarrow (x : PSet) : Nat :=
  30 * (x.l + 2 * x.k) + x.A * (8 * x.k * x.l + 80 * x.l + 140 * x.k + 32) + (8 * x.k * x.l + 34 * x.l + 84 * x.k + 30)
def dsaSignKeccak (x : PSet) (mu : Nat) : Nat := 5 * x.k * x.l + 2 + x.A * (5 * x.l + x.hw + 1) + x.hw + mu
def dsaSignRuns (x : PSet) (mu : Nat) : List StepRun := latticeRuns (dsaSignNarrow x) (dsaSignKeccak x mu)
def dsaKeygenRuns (x : PSet) : List StepRun :=
  latticeRuns ((8 * x.k * x.l + 34 * x.l + 60 * x.k) + dsaSignNarrow x)
    ((1 + 5 * x.k * x.l + 3 * (x.l + x.k) + x.hp) + dsaSignKeccak x 1)

/-- V of the lattice opcodes (08 R334). -/
def vLattice (pset : Nat) : Nat := if pset ≤ 3 then 128 + 8 * (psetOf pset).k else 128

/-- The curve of a key class (09 Table 2). -/
def clsCurve (c : Nat) : Nat :=
  if c = 0x30 ∨ c = 0x38 then 0x10 else if c = 0x31 ∨ c = 0x39 then 0x11
  else if c = 0x40 then 0x20 else if c = 0x41 then 0x21 else c % 16

/-- The parameter set of a key class (09 Table 2). -/
def clsPset (c : Nat) : Nat := if c < 0x60 then (if c < 0x58 then c - 0x50 else c - 0x58) else (if c < 0x68 then c - 0x50 else c - 0x58)

/-! ### KEY_IMPORT (09 Table 2, R373, R851) -/

/-- Bytes of an AES-KWP of `m` bytes (RFC 5649). -/
def kwpLen (m : Nat) : Nat := 8 * ceilDiv m 8 + 8

/-- Material bytes of a class other than the RSA classes; secret key bytes of the lattice sets are those of FIPS 203 and
FIPS 204. -/
def matLen (cls : Nat) : Option Nat :=
  let c := curveOf (clsCurve cls)
  let x := psetOf (clsPset cls)
  if 0x11 ≤ cls ∧ cls ≤ 0x16 then some (c.qb + 1 + 2 * c.fb)
  else if 0x21 ≤ cls ∧ cls ≤ 0x26 then some (1 + 2 * c.fb)
  else if cls = 0x30 ∨ cls = 0x31 ∨ cls = 0x40 ∨ cls = 0x41 then some (2 * c.fb)
  else if cls = 0x38 ∨ cls = 0x39 then some c.fb
  else if 0x51 ≤ cls ∧ cls ≤ 0x53 then some (768 * x.k + 96)
  else if (0x59 ≤ cls ∧ cls ≤ 0x5B) ∨ (0x69 ≤ cls ∧ cls ≤ 0x6B) then some x.pk
  else if cls = 0x61 then some (2560 + x.pk) else if cls = 0x62 then some (4032 + x.pk)
  else if cls = 0x63 then some (4896 + x.pk)
  else if cls = 0x70 then some 16
  else if cls = 0x71 ∨ cls = 0x72 ∨ cls = 0x78 then some 32
  else if cls = 0x73 then some 64
  else none

/-- k_n of an RSA class whose material has `m` bytes: 4.5·k_n + 8 private, k_n + 8 public, k_n a multiple of 8 in range
(07 R282, 09 Table 2). -/
def rsaMatKn (cls m : Nat) : Option Nat :=
  let kn := if cls = 0x01 then (m - 8) * 2 / 9 else m - 8
  if (if cls = 0x01 then kn * 9 / 2 + 8 else kn + 8) = m ∧ kn % 8 = 0 ∧ (if cls = 0x01 then 136 else 128) ≤ kn ∧ kn ≤ 1024 then some kn
  else none

/-- The material length fits its class. -/
def matFits (cls m : Nat) : Bool :=
  if cls = 0x01 ∨ cls = 0x02 then (rsaMatKn cls m).isSome else matLen cls == some m

/-- The steps of the checks of an import (09 R851). -/
def importRuns (cls kn b : Nat) : List StepRun :=
  let c := curveOf (clsCurve cls)
  let x := psetOf (clsPset cls)
  if cls = 0x01 then rsaPrivRuns (kn / 8) b 0
  else if cls = 0x02 then [⟨1, vMod (kn / 8), false⟩]
  else if 0x11 ≤ cls ∧ cls ≤ 0x16 then ecdsaSignRuns c 0
  else if (0x21 ≤ cls ∧ cls ≤ 0x26) ∨ cls = 0x38 ∨ cls = 0x39 then curveRuns c 1 2 (expMonts c.L + 8 + c.Z) 0 0 0
  else if cls = 0x30 ∨ cls = 0x31 then eddsaSignRuns c 0
  else if cls = 0x40 ∨ cls = 0x41 then xdhRuns c false
  else if 0x51 ≤ cls ∧ cls ≤ 0x53 then encapsRuns x ++ decapsRuns x
  else if 0x59 ≤ cls ∧ cls ≤ 0x5B then [⟨1, 128 + 8 * x.k, false⟩]
  else if 0x61 ≤ cls ∧ cls ≤ 0x63 then dsaSignRuns x 1
  else []
def importCycles (cls kn b : Nat) : Nat := runCycles (importRuns cls kn b)

/-- Classes of 09 Table 2. -/
def keyClasses : List Nat :=
  [0x01, 0x02, 0x11, 0x12, 0x13, 0x14, 0x15, 0x16, 0x21, 0x22, 0x23, 0x24, 0x25, 0x26, 0x30, 0x31, 0x38, 0x39, 0x40, 0x41,
   0x51, 0x52, 0x53, 0x59, 0x5A, 0x5B, 0x61, 0x62, 0x63, 0x69, 0x6A, 0x6B, 0x70, 0x71, 0x72, 0x73, 0x78]

/-- Material lengths that an OPA_LEN may carry: as it stands, or under AES-KWP, whose padding hides up to seven bytes. -/
def importLens (opaLen : Nat) : List Nat :=
  let m := opaLen - 64
  m :: (if m % 8 = 0 ∧ 16 ≤ m then (List.range 8).map (fun i => m - 15 + i) else [])

/-- The largest count of an import of a length, over the classes that fit it (06 R246). -/
def importMax (opaLen : Nat) : Nat :=
  keyClasses.foldl (fun a c => (importLens opaLen).foldl (fun a m =>
    if matFits c m then max a (importCycles c ((rsaMatKn c m).getD 0) 128) else a) a) 0

/-! ### What a job is about: the class and size of its key -/

/-- Classes that an opcode takes, and the USAGE flag it needs as bit + 1 (09 Tables 2 and 3). -/
def keyNeeds (op : Nat) : List Nat × Nat :=
  if op = 0x0201 then ([0x01], 5) else if op = 0x0202 then ([0x01, 0x02], 5)
  else if op = 0x0203 ∨ op = 0x0204 then ([0x01], 1) else if op = 0x0205 ∨ op = 0x0206 then ([0x01, 0x02], 2)
  else if op = 0x0207 then ([0x01, 0x02], 4) else if op = 0x0208 then ([0x01], 3)
  else if op = 0x0301 then ([0x11, 0x12, 0x13, 0x14, 0x15, 0x16], 1)
  else if op = 0x0302 then ([0x11, 0x12, 0x13, 0x14, 0x15, 0x16, 0x21, 0x22, 0x23, 0x24, 0x25, 0x26], 2)
  else if op = 0x0303 then ([0x11, 0x12, 0x13, 0x14, 0x15, 0x16], 6)
  else if op = 0x0304 then ([0x30, 0x31], 1) else if op = 0x0305 then ([0x30, 0x31, 0x38, 0x39], 2)
  else if op = 0x0306 then ([0x40, 0x41], 6)
  else if op = 0x0401 then ([0x51, 0x52, 0x53, 0x59, 0x5A, 0x5B], 7) else if op = 0x0402 then ([0x51, 0x52, 0x53], 8)
  else if op = 0x0410 then ([0x61, 0x62, 0x63], 1) else if op = 0x0411 then ([0x61, 0x62, 0x63, 0x69, 0x6A, 0x6B], 2)
  else ([], 0)

/-- An opcode of 0x02xx to 0x04xx takes its key from a slot. -/
def slotKeyed (d : Desc) : Bool :=
  decide (2 ≤ d.opcode / 256 ∧ d.opcode / 256 ≤ 4) && !d.hostKey && !(keyNeeds d.opcode).1.isEmpty

/-- Words of the largest step of an import of a length: those of the RSA private key that it may hold, whose length no other class
shares (06 R249, 09 R851). -/
def importWords (opaLen : Nat) : Nat := (importLens opaLen).foldl (fun a m => max a ((rsaMatKn 0x01 m).getD 8 / 8)) 1

/-- Modulus bytes of an RSA job: of its slot, or of its host key block (07 R279, R283). -/
def rsaKn (s : State) (d : Desc) : Nat := if d.hostKey then d.opbLen - 8 else (s.kslot (d.handle % 2097152)).keyBytes

/-- The curve of an elliptic-curve job. -/
def jobCurve (s : State) (d : Desc) : Nat :=
  if d.hostKey ∨ d.opcode = 0x0320 then d.curve else clsCurve (s.kslot (d.handle % 2097152)).cls

/-- The parameter set of a lattice job. -/
def jobPset (s : State) (d : Desc) : Nat :=
  if d.hostKey ∨ d.opcode = 0x0420 ∨ d.opcode = 0x0421 then d.curve else clsPset (s.kslot (d.handle % 2097152)).cls

/-- EDDSA: pre-hashed. -/
def Desc.ph (d : Desc) : Bool := d.hash != 0

/-- The slot that a job names. -/
def jobSlot (s : State) (j : Job) : KSlot := s.kslot (j.d.handle % 2097152)

/-- e of the RSA key that a job works with: of its slot (09 Table 2), or of its host key block (07 R279). -/
def jobE (s : State) (j : Job) : Nat :=
  let k := jobSlot s j
  if j.d.hostKey then beNat (j.opb.take 8)
  else if k.cls = 0x01 then beNat ((k.material.drop k.keyBytes).take 8)
  else beNat (k.material.take 8)

/-- B(e) of a job's key. -/
def jobB (s : State) (j : Job) : Nat := bOf (jobE s j)

/-- The material that an import brings, once its wrapping is off. -/
def importMat (s : State) (j : Job) : Bytes :=
  if j.d.handle = 0 then j.opa.drop 64 else (Config.kwpUnwrap (jobSlot s j).material (j.opa.drop 64)).getD []

/-- The whole sequence of steps of a job, with B(e) given for RSA (05 R233, 07 R306, 08 R336); an RSA key generation that needs no batch
beyond one for each prime. -/
def jobRuns (s : State) (d : Desc) (b : Nat) : List StepRun :=
  let op := d.opcode
  let kn := rsaKn s d
  let L := kn / 8
  let cn := jobCurve s d
  let c := curveOf cn
  let x := psetOf (jobPset s d)
  if op / 256 = 1 then genericRuns op (d.opaLen / 2) d.opbLen
  else if op = 0x0201 ∨ op = 0x0203 ∨ op = 0x0204 ∨ op = 0x0208 then rsaPrivRuns L b (rsaHash d kn)
  else if op = 0x0202 ∨ op = 0x0205 ∨ op = 0x0206 ∨ op = 0x0207 then rsaPubRuns L b (rsaHash d kn)
  else if op = 0x0220 then rsaKeygenRuns d.salt 2
  else if op = 0x0320 then ecKeygenRuns d.curve (curveOf d.curve)
  else if op = 0x0301 then ecdsaSignRuns c (nonceSteps d.hash c.qb)
  else if op = 0x0302 then ecdsaVerifyRuns c d.hostKey
  else if op = 0x0303 then ecdhRuns c
  else if op = 0x0304 then eddsaSignRuns c (edSignSteps cn d.opaLen d.ph)
  else if op = 0x0305 then eddsaVerifyRuns c d.hostKey (edVerifySteps cn (d.opaLen - edSigLen cn) d.ph)
  else if op = 0x0306 then xdhRuns c true
  else if op = 0x0401 then encapsRuns x
  else if op = 0x0402 then decapsRuns x
  else if op = 0x0410 then dsaSignRuns x (muSteps d.salt (muPart d.hash (d.opaLen - d.salt)))
  else if op = 0x0411 then dsaVerifyRuns x (muSteps d.salt (muPart d.hash (d.opaLen - d.salt - x.ct)))
  else if op = 0x0420 then kemKeygenRuns x
  else if op = 0x0421 then dsaKeygenRuns x
  else []

/-- Nominal cycles of the whole sequence of a job. -/
def jobCycles (s : State) (d : Desc) (b : Nat) : Nat := runCycles (jobRuns s d b)

/-- The sequence of a job as it stands: its e, its material, the batches it has drawn (06 R244). -/
def jobSequence (s : State) (j : Job) : List StepRun :=
  if j.d.opcode = 0x0502 then
    let m := importMat s j
    let cls := (j.opa.getD 4 0).toNat
    let kn := (rsaMatKn cls m.length).getD 0
    importRuns cls kn (bOf (beNat (if cls = 0x01 then (m.drop kn).take 8 else m.take 8)))
  else if j.d.opcode = 0x0220 then rsaKeygenRuns j.d.salt (2 + j.batches)
  else jobRuns s j.d (jobB s j)

/-- V(op, L) of a job, nominal cycles (05 R228, 07 R286, R304, 08 R334); of an OAEP decryption the full count. -/
def jobV (s : State) (j : Job) : Nat :=
  let d := j.d
  let op := d.opcode
  let L := rsaKn s d / 8
  let c := curveOf (jobCurve s d)
  if op = 0x0104 then vInv (d.opaLen / 2)
  else if op / 256 = 1 then vMod (d.opaLen / 2)
  else if op = 0x0220 then vMod d.salt
  else if op = 0x0208 then jobCycles s d (jobB s j)
  else if op / 256 = 2 then vMod L
  else if op = 0x0303 ∨ op = 0x0306 ∨ ((op = 0x0302 ∨ op = 0x0305) ∧ d.hostKey) then vPoint c
  else if op / 256 = 3 then vScalar c
  else vLattice (jobPset s d)

/-- The class of a job's slot gives the size that V(op, L) of its opcode goes by; ML-DSA needs none (07 R304, 08 R334). -/
def sizeKnown (s : State) (j : Job) : Bool :=
  let op := j.d.opcode
  let c := (jobSlot s j).cls
  if op / 256 = 2 then c == 0x01 || c == 0x02
  else if op / 256 = 3 then decide (0x11 ≤ c ∧ c ≤ 0x41)
  else if op = 0x0401 ∨ op = 0x0402 then decide (0x51 ≤ c ∧ c ≤ 0x5B)
  else true

/-- The count of a job whose key is of another class than its opcode takes: V(op, L) at the size of the key; where the key gives no such
size, L is open (log entry 32). -/
def classV (s : State) (j : Job) (free : Nat) : Nat :=
  if j.d.opcode = 0x0410 ∨ j.d.opcode = 0x0411 then 128
  else if sizeKnown s j then jobV s j
  else free

/-! ### Gangs, slices and dispatch units (06 R246 to R255) -/

/-- Words of the largest step of a job. -/
def jobWords (s : State) (d : Desc) : Nat :=
  let op := d.opcode
  if op / 256 = 1 then d.opaLen / 2
  else if op = 0x0220 then d.salt
  else if op = 0x0502 then importWords d.opaLen
  else if op / 256 = 2 then rsaKn s d / 8
  else 1

/-- The job runs as a gang (06 R249). -/
def isGang (s : State) (d : Desc) : Bool :=
  decide (64 < jobWords s d) || (d.opcode == 0x0220 && decide (64 ≤ d.salt))

/-- Squads of a gang (06 R249). -/
def gangSize (s : State) (d : Desc) : Nat := max 2 (ceilDiv (chans (jobWords s d) + 1) 17)

/-- RSA key generation below 4,096 bits runs in slices on one squad (06 R250). -/
def isSliced (d : Desc) : Bool := d.opcode == 0x0220 && decide (d.salt < 64)

/-- The job takes a park slot (06 R250, R255). -/
def takesPark (s : State) (d : Desc) : Bool := isGang s d || isSliced d

def dMax : Nat := 268435456

/-- A private RSA operation: of its opcodes, or of an import of class 0x01 that runs as a gang. -/
def isRsaPriv (d : Desc) : Bool := [0x0201, 0x0203, 0x0204, 0x0208, 0x0502].contains d.opcode

/-- MONTs up to the first window end at or past 8,192, in a run of `w` windows that `m` MONTs precede; none when the run ends before
(06 R254). -/
def yieldInRun (m w : Nat) : Option Nat := if 8192 ≤ m + 5 * w then some (m + 5 * ceilDiv (8192 - m) 5) else none

/-- MONTs of a job at its `n`-th yield, if it yields that often (06 R254): an exponentiation at the end of a window, a key generation
within 8,196 of the yield before; no other sequence passes 16,384 MONTs. -/
def yieldMonts (s : State) (d : Desc) (batches n : Nat) : Option Nat :=
  if !takesPark s d ∨ n = 0 then none
  else if d.opcode = 0x0220 then
    if n * 8196 < rsaKeygenMonts d.salt batches then some (n * 8196) else none
  else if 1 < n then none
  else if d.opcode = 0x0103 then yieldInRun 16 (16 * d.opbLen)
  else if isRsaPriv d then
    let H := ceilDiv (jobWords s d) 2
    match yieldInRun 16 (16 * H) with
    | some m => some m
    | none => yieldInRun (expMonts H + 16) (16 * H)
  else none

/-- The slice that a job is in is its last: it comes to no yield any more (06 R254, R255). -/
def lastSlice (s : State) (j : Job) : Bool := (yieldMonts s j.d (2 + j.batches) (j.slices + 1)).isNone

/-- Steps that a job had done at its latest yield. -/
def stepsAtYield (s : State) (j : Job) : Nat :=
  match yieldMonts s j.d (2 + j.batches) j.slices with
  | none => 0
  | some m => stepsToMont (jobSequence s j) m

/-- The largest count of a slice of an RSA key generation: 8,196 MONTs, with the set-ups, conversions and SETTLEs of the candidates that
they test (06 R250). -/
def keygenSlice (H : Nat) : Nat :=
  8196 * cMont H + (ceilDiv 8196 (max 1 (Config.roundMonts H)) + 1) * (cSetup H + cConv H + cSettle H)

/-- Nominal lane-cycles of a dispatch unit, at its largest (06 R246): slice `n` of a gang or sliced job, or the whole job. -/
def unitCost (s : State) (d : Desc) (n : Nat) : Nat :=
  let whole := if d.opcode = 0x0502 then 32 * importMax d.opaLen else 32 * jobCycles s d 128
  if d.opcode = 0x0220 then min dMax (32 * keygenSlice (ceilDiv d.salt 2))
  else match yieldMonts s d 2 1 with
    | none => whole
    | some m =>
      let runs := if d.opcode = 0x0502 then rsaPrivRuns (jobWords s d) 128 0 else jobRuns s d 128
      let one := 32 * runPrefix runs (stepsToMont runs m)
      if n = 0 then one else whole - one

end Sys2Proof.Machine
end

