-- ==== Sys2Proof/Machine/Events.lean ====
section
/-! DEFINITION. The arbiter and the event recorder: stamping, coalescing, rate limits, storage (17 R635 to R640, 21). -/

namespace Sys2Proof.Machine

open Sys2Proof

/-- Limit class of an event code (21 Table 4): 4 stands for F. -/
def evClass (c : Nat) : Nat :=
  if c ∈ [0x0107, 0x0706, 0x0804, 0x0805] then 4
  else if c ∈ [0x0101, 0x0102, 0x0103, 0x0106, 0x0307, 0x0504, 0x0505, 0x0604, 0x0605, 0x0701, 0x0703, 0x0704, 0x0705,
    0x0802, 0x0803, 0x0808, 0x0901, 0x0903, 0x0904, 0x0905] then 0
  else if c ∈ [0x0104, 0x0105, 0x0306, 0x0308, 0x0401, 0x0502, 0x0503, 0x0602, 0x0702, 0x0806] then 1
  else if c ∈ [0x0203, 0x0402, 0x0403, 0x0601, 0x0603, 0x0801, 0x0807, 0x0902] then 2
  else 3

/-- Bucket depth and refill per second of limit classes 1 to 3 (21 Table 3). -/
def bucketDepth (cl : Nat) : Nat := if cl = 1 then 64 else if cl = 2 then 256 else 1024
def bucketRate (cl : Nat) : Nat := if cl = 1 then 10 else if cl = 2 then 100 else 1000

/-- One token in the unit of a bucket's level. -/
def token : Nat := 400000000

/-- A code's bucket, refilled to the present tick (21 R756). -/
def bucketNow (e : Recorder) (now c : Nat) : Bucket :=
  let cl := evClass c
  let full : Bucket := ⟨bucketDepth cl * token, now⟩
  match e.buckets.find c with
  | none => full
  | some b => ⟨min (bucketDepth cl * token) (b.level + (now - b.at_) * bucketRate cl), now⟩

/-- The global bucket, refilled to the present tick (21 R757). -/
def globalNow (e : Recorder) (now : Nat) : Int :=
  min (3840 * token : Int) (e.global + ((now - e.globalAt) * 3840 : Nat))

/-- The payload of a coalesced record (21 Table 2); DIGEST is the first eight bytes of SHA-384 over the reporter bitmap. -/
def coalPayload (w : CoalWin) : Bytes :=
  let bitmap := (List.range 512).map (fun i =>
    BitVec.ofNat 8 (((List.range 8).filter (fun k => (8 * i + k) ∈ w.reporters)).foldl (fun a k => a + 2 ^ k) 0))
  toLE 8 w.subj ++ toLE 8 w.detail ++ toLE 2 w.reporters.length ++ toLE 2 w.first ++ zeros 4
    ++ fit 8 (Config.sha384 bitmap)

/-- The record of a closed window (21 R753, R749). -/
def coalRec (w : CoalWin) : EvRec :=
  { code := w.code, pcc := w.pcc, otc := w.otc, island := w.island, payload := coalPayload w }

/-- A record given its RNUM and place, and queued for storage (21 R742, R745, R752). -/
def storeRec (s : State) (r : EvRec) : State :=
  let e := s.evr
  let f := evClass r.code == 4
  let early := decide (e.rnum < 61440)
  let res := !early && f && decide (e.reservedUsed < 4096)
  let place := if early then some e.rnum else if res then some (61440 + e.reservedUsed) else none
  let r' := { r with rnum := e.rnum, place := place }
  let s1 := { s with evr := { e with
    rnum := e.rnum + 1, queue := e.queue ++ [r'],
    foundingUsed := e.foundingUsed + b2n (early || res), reservedUsed := e.reservedUsed + b2n res } }
  if f && !early && !res && !e.fullNoted then
    ({ s1 with evr := { s1.evr with fullNoted := true } } : State).event 230 0x0103 0 []
  else s1

/-- An occurrence suppressed by a rate limit (21 R757, R758). -/
def suppress (s : State) (c otc : Nat) : State :=
  let s1 := s.bump gEvrSuppressedTotal
  { s1 with evr := { s1.evr with supp := s1.evr.supp.upd {} c (fun x =>
      if x.count = 0 then { count := 1, first := otc, last := otc, since := s.now }
      else { x with count := x.count + 1, last := otc }) } }

/-- One formed record passes the rate limit: stored, or suppressed (21 R756, R757). -/
def limitRec (s : State) (r : EvRec) : State :=
  let g := globalNow s.evr s.now
  let cl := evClass r.code
  if cl = 4 ∨ cl = 0 then
    storeRec { s with evr := { s.evr with global := g - token, globalAt := s.now } } r
  else
    let b := bucketNow s.evr s.now r.code
    if token ≤ b.level ∧ (token : Int) ≤ g then
      storeRec (s.withEvr (fun e => { e with
        global := g - token, globalAt := s.now, buckets := e.buckets.set r.code ⟨b.level - token, s.now⟩ })) r
    else suppress s r.code r.otc

/-- Whether a record may leave the held list now: a class F or 0 record waits while the global bucket stands at its
lowest (21 R757). -/
def mayLeave (s : State) (r : EvRec) : Bool :=
  !(decide (evClass r.code = 4 ∨ evClass r.code = 0) && decide (globalNow s.evr s.now - token < -(3840 * token : Int)))

/-- The held items in stamp order: formed records leave until an open window or a waiting record stands first
(21 R750, R753). -/
def drainItems : List EvItem → State → State
  | [], s => s.withEvr (fun e => { e with held := [] })
  | .formed r :: l, s =>
    if mayLeave s r then drainItems l (limitRec s r)
    else s.withEvr (fun e => { e with held := .formed r :: l })
  | .window w :: l, s => s.withEvr (fun e => { e with held := .window w :: l })

/-- The held list drained. -/
def drain (s : State) : State := drainItems s.evr.held s

/-- A report folded into the open window of its code and subject, if there is one (21 R753, R755). -/
def foldReport (code subj who : Nat) : List EvItem → Option (List EvItem)
  | [] => none
  | .window w :: l =>
    if w.code = code ∧ w.subj = subj then some (.window { w with reporters := addUnique who w.reporters } :: l)
    else (foldReport code subj who l).map (fun l' => .window w :: l')
  | .formed r :: l => (foldReport code subj who l).map (fun l' => .formed r :: l')

/-- The first island after `g` in rising cyclic order whose port holds a token (17 R639). -/
def nextPort (ports : Tab (List Tok)) (g : Nat) : Option Nat :=
  let l := ports.keysWith (fun l => !l.isEmpty)
  match l.filter (fun k => decide (g < k)) with
  | k :: _ => some k
  | [] => l.head?

/-- What a stamped token does in EVR (17 R637, 21 R750, R753). -/
def takeTok (s : State) (isl : Nat) : Tok → State
  | .mark _ _ => s
  | .evt c pay =>
    drain (s.withEvr (fun e => { e with held := e.held ++
      [.formed { code := c, pcc := s.clock.pcc, otc := s.clock.otc, island := isl, payload := pay }] }))
  | .coal c subj det who =>
    match foldReport c subj who s.evr.held with
    | some h => (s.withEvr (fun e => { e with held := h })).bump gEvrCoalescedTotal
    | none => s.withEvr (fun e => { e with held := e.held ++ [.window { code := c, subj := subj, detail := det, island := isl, first := who, reporters := [who], pcc := s.clock.pcc, otc := s.clock.otc, openedAt := s.now }] })

/-- Events that tell of a fault which the module corrects or recovers from (log entry 57). -/
def recoveredCodes : List Nat :=
  [0x0301, 0x0302, 0x0303, 0x0304, 0x0305, 0x0306, 0x0502, 0x0504, 0x0505, 0x0601, 0x0602, 0x0603, 0x0807]

/-- A fault that the module corrects or recovers from is also signalled as Corrected Internal Error on PF0 when
link.aer.cie_report is set; the AER status bit so set and the count of such errors are recorded as LINK_CORRECTED (03 R134, 21 Table 4; log
entry 149). -/
def signalCie (s : State) (t : Tok) : State :=
  let c := match t with | .evt c _ => c | .coal c _ _ _ => c | .mark _ _ => 0
  if recoveredCodes.contains c && s.gv gLinkAerCieReport == 1 then
    let s1 := s.withPart 0 (fun x => { x with aer := x.aer ++ [3] })
    s1.report 140 0x0202 14 ((s1.part 0).aer.countP (· == 3))
  else s

/-- EVENT_STAMP (17 R635, R638, R639): one port is granted, its head token takes the next ASEQ; nothing is stamped while
EVR's queue is full (21 R752). -/
def execEventStamp (s : State) : Out :=
  if !s.hostSupply || decide (4096 ≤ s.evr.queue.length) then .next s
  else match nextPort s.evr.ports s.evr.granted with
    | none => .next s
    | some k => match s.evr.ports.get [] k with
      | [] => .next s
      | t :: l =>
        .next (takeTok (s.withEvr (fun e => { e with
          ports := e.ports.set k l, granted := k, aseq := (e.aseq + 1) % 2 ^ 64 })) k t |> (signalCie · t))

/-- The oldest open window that has been open for 1 ms becomes a formed record (21 R753). -/
def closeOldest (now : Nat) : List EvItem → Option (List EvItem)
  | [] => none
  | .window w :: l =>
    if w.openedAt + msTicks 1 ≤ now then some (.formed (coalRec w) :: l)
    else (closeOldest now l).map (fun l' => .window w :: l')
  | .formed r :: l => (closeOldest now l).map (fun l' => .formed r :: l')

/-- COALESCE_WINDOW_CLOSE (21 R753): the closing token is stamped 1 ms after the first report. -/
def execCoalesceWindowClose (s : State) : Out :=
  match closeOldest s.now s.evr.held with
  | none => .next s
  | some h => .next (drain (s.withEvr (fun e => { e with held := h, aseq := (e.aseq + 1) % 2 ^ 64 })))

/-- SUPPRESSED (21 R758): the record that counts a code's suppressed occurrences is made when its bucket holds a token
again, or 1 s after the first. -/
def execSuppressed (code : Nat) (s : State) : Out :=
  let x := s.evr.supp.get {} code
  if decide (0 < x.count) && (decide (token ≤ (bucketNow s.evr s.now code).level) || decide (x.since + secTicks 1 ≤ s.now)) then
    .next ((s.withEvr (fun e => { e with supp := e.supp.set code {} })).event 230 0x0102 2
      (toLE 2 code ++ toLE 4 x.count ++ toLE 6 x.first ++ toLE 6 x.last))
  else .next s

/-- The record's size in bytes (21 R746). -/
def recSize (r : EvRec) : Nat := 16 + r.payload.length

/-- The rolling area with its oldest records discarded until it fits (21 R743). -/
def trimRolling : List EvRec → Nat → Nat → List EvRec
  | [], _, _ => []
  | r :: l, n, sz => if 1048576 < n ∨ 240 * 2 ^ 20 < sz then trimRolling l (n - 1) (sz - recSize r) else r :: l

/-- Records in their order at their vault log addresses. -/
def placeAt : Nat → List EvRec → List EvRec
  | _, [] => []
  | a, r :: l => { r with addr := a } :: placeAt (a + recSize r) l

/-- The first `n` of EVR's queued records become durable at a log address: in the founding area, the rolling area or both (21 R742,
R743, R751). -/
def evrDurable (s : State) (n addr : Nat) : State :=
  let l := placeAt addr (s.evr.queue.take n)
  let roll := s.evr.rolling ++ l
  s.withEvr (fun e => { e with queue := e.queue.drop n, founding := e.founding ++ l.filter (fun r => r.place.isSome), rolling := trimRolling roll roll.length ((roll.map recSize).foldl (· + ·) 0) })

/-- The 16-byte header and payload of a record (21 Table 1). -/
def recBytes (r : EvRec) : Bytes :=
  toLE 16 (r.island % 256 + 2 ^ 8 * (r.payload.length / 16 % 16) + 2 ^ 12 * (r.otc % 2 ^ 40) + 2 ^ 52 * (r.pcc % 2 ^ 28)
    + 2 ^ 80 * (r.rnum % 2 ^ 32) + 2 ^ 112 * (r.code % 2 ^ 16)) ++ r.payload

/-- Records taken while they fit whole in a number of bytes, at most 255 (21 R760, Table 5). -/
def takeFit : List EvRec → Nat → Nat → List EvRec
  | [], _, _ => []
  | r :: l, room, k => if k = 0 ∨ room < recSize r then [] else r :: takeFit l (room - recSize r) (k - 1)

/-- evr.read.block (21 R760, R761, Table 5): area 0 founding by place, 1 rolling by RNUM. -/
def readBlock (s : State) (area cursor : Nat) : Bytes :=
  let from_ := if area = 0 then s.evr.founding.filter (fun r => decide (cursor ≤ r.place.getD 0))
               else s.evr.rolling.filter (fun r => decide (cursor ≤ r.rnum))
  let rs := takeFit from_ 4080 255
  match rs with
  | [] => fit 4096 (toLE 8 (Config.freeNat s.free))
  | r :: _ => fit 4096 (toLE 8 r.rnum ++ toLE 2 rs.length ++ zeros 2 ++
      toLE 4 (if area = 0 then r.place.getD 0 else 0) ++ (rs.map recBytes).flatten)

end Sys2Proof.Machine
end

