-- ==== Sys2Proof/Machine/Meter.lean ====
section
/-! DEFINITION. Tenant metering: charges, minutes, records, heads, the meter ring and deliveries (11). -/

namespace Sys2Proof.Machine

open Sys2Proof

/-- The weight entries by class (11 Table 1). -/
def weightEntry : Nat → GE
  | 0 => gTallyWeightLane | 1 => gTallyWeightStream | 2 => gTallyWeightCommit | _ => gTallyWeightRandom

/-- The weight in force of a partition and class, Q16.16 (11 R431, R432). -/
def State.weight (s : State) (p c : Nat) : Nat := s.meter.weights.get (weightEntry c).dflt (p * 4 + c)

/-- The charge of four counts under a partition's weights, in 2^-16 TU (11 R431). -/
def State.tu (s : State) (p : Nat) (n : Nat → Nat) : Nat :=
  s.weight p 0 * n 0 + s.weight p 1 * n 1 + s.weight p 2 * n 2 + s.weight p 3 * n 3

/-- A job's count in a class (11 Table 1). -/
def Job.count (j : Job) : Nat → Nat
  | 0 => j.lane | 1 => j.stream | 2 => j.commit | _ => j.random

/-- One class count added to a partition's accumulator (11 R431). -/
def addClass (s : State) (p c n : Nat) : State :=
  s.withMeter (fun m => { m with cls := m.cls.upd {} (p * 4 + c) (fun x =>
    { x with count := x.count + n, acc := x.acc + n * s.weight p c * 2 ^ 16 }) })

/-- The four counts of a job added to its partition's accumulators. -/
def addCounts (s : State) (j : Job) : State :=
  (if j.stream = 0 then (fun s => s) else (fun (s : State) => s.bumpBys gStreamBytesTotal 0 j.stream)) <| addClass (addClass (addClass (addClass s j.part 0 j.lane) j.part 1 j.stream) j.part 2 j.commit) j.part 3 j.random

/-- A charge accepted with a completion entry of a ring (11 R433). -/
def acceptEntry (s : State) (j : Job) : State :=
  (addCounts s j).withMeter (fun m => { m with parts := m.parts.upd {} j.part (fun x =>
    { x with jobs := x.jobs.upd 0 j.ring (· + 1) }) })

/-- A charge accepted without a completion entry (11 R434). -/
def acceptOrphan (s : State) (j : Job) : State :=
  (addCounts s j).withMeter (fun m => { m with parts := m.parts.upd {} j.part (fun x =>
    { x with orphanJobs := x.orphanJobs + 1, orphanTu := x.orphanTu + s.tu j.part j.count }) })

/-- A flag gathered by the open minute (11 Table 6), unless its boundary has been reached (17 R653). -/
def noteFlag (s : State) (bitNo : Nat) : State :=
  s.withMeter (fun m => { m with openMin := m.openMin.map (fun o =>
    if o.start / 60000000000 < s.dtbNs / 60000000000 then o
    else if bit o.flags bitNo then o else { o with flags := o.flags + 2 ^ bitNo }) })

/-- The flags that hold at the moment a minute opens: LOCKDOWN, HOLDOVER, UNCALIBRATED (11 Table 6, R441). -/
def openFlags (s : State) : Nat :=
  b2n (s.modeNum == 6) * 2 ^ 7 + b2n (s.clock.tstate == 2) * 2 ^ 2 + b2n (s.clock.tstate == 1) * 2 ^ 1

/-- The partitions' committed weights at this moment (11 R432). -/
def committedWeights (s : State) : Tab Nat :=
  (List.range 4100).map (fun k => (k, s.gvs (weightEntry (k % 4)) (k / 4)))

/-- A minute opened at a device time, with the flags given beside those that hold (11 R432, R437, R442). -/
def openMinute (s : State) (start extra : Nat) : State :=
  let w := committedWeights s
  s.withMeter (fun m => { m with
    openMin := some { start := start, flags := openFlags s + extra },
    prevWeights := m.weights, weights := w,
    parts := (List.range 1025).map (fun p => (p, { enabledAny := (p == 0) || (s.part p).enabled })) })

/-- The billed figure of x in 2^-32, rounded half to even (11 R444). -/
def billOf (x : Int) : Int :=
  let b := (x + 2 ^ 31) / 2 ^ 32
  if (x + 2 ^ 31) % 2 ^ 32 = 0 ∧ b % 2 = 1 then b - 1 else b

/-- A class block closed: the record's block and the accumulator of the next minute (11 R444). -/
def closeCls (w : Nat) (x : MeterCls) : MinCls × MeterCls :=
  let sum := (x.acc : Int) + x.carry
  let b := billOf sum
  let life := x.life + b.toNat
  ({ count := x.count, weight := w, acc := x.acc, carryIn := x.carry, billed := b.toNat, life := life },
   { count := 0, acc := 0, carry := sum - b * 2 ^ 32, life := life })

/-- A partition's record of the closing minute (11 R448). -/
def closeRec (s : State) (flags p : Nat) : MinRec :=
  let m := s.meter
  let x := m.parts.get {} p
  let wdiff := (List.range 4).any (fun c => s.weight p c != m.prevWeights.get (weightEntry c).dflt (p * 4 + c))
  { part := p, flags := flags + b2n (wdiff && m.started) * 2 ^ 6 + b2n (!x.enabledAny) * 2 ^ 8,
    jobs := (List.range 8).map (fun r => x.jobs.get 0 r), orphanJobs := x.orphanJobs, orphanTu := x.orphanTu,
    cls := (List.range 4).map (fun c => (closeCls (s.weight p c) (m.cls.get {} (p * 4 + c))).1) }

/-- A class block's 64 bytes (11 Table 5). -/
def clsBytes (c : MinCls) : Bytes :=
  toLE 8 c.count ++ toLE 4 c.weight ++ zeros 4 ++ toLE 16 c.acc ++ toLE 8 (toTwos 64 c.carryIn) ++ toLE 8 c.billed
    ++ toLE 12 c.life ++ zeros 4

/-- A record's 384 bytes (11 Table 4). -/
def minRecBytes (h : MinSet) (r : MinRec) : Bytes :=
  toLE 2 0x4D52 ++ toLE 1 1 ++ zeros 1 ++ toLE 2 r.part ++ toLE 2 r.flags ++ toLE 8 h.seq ++ toLE 8 h.start
    ++ toLE 8 h.stop ++ (r.jobs.map (toLE 4)).flatten ++ toLE 4 r.orphanJobs ++ zeros 4 ++ toLE 8 r.orphanTu
    ++ toLE 8 (h.start / 60000000000) ++ zeros 40 ++ (r.cls.map clsBytes).flatten

/-- The leaves of the tree (11 R450). -/
def leaves (h : MinSet) : List Bytes :=
  h.recs.map (fun r => fit 48 (Config.sha384 (0x00 :: minRecBytes h r)))
    ++ List.replicate (2048 - h.recs.length) (fit 48 (Config.sha384 [0x00]))

/-- One level up the tree: neighbours hashed in pairs (11 R450). -/
def upLevel : List Bytes → List Bytes
  | a :: b :: l => fit 48 (Config.sha384 (0x01 :: (a ++ b))) :: upLevel l
  | l => l

/-- The root over 2^n leaves. -/
def treeRoot : Nat → List Bytes → Bytes
  | 0, l => l.headD []
  | n + 1, l => treeRoot n (upLevel l)

/-- The proof path of a position: sibling hashes from the leaf level upward (11 R450). -/
def proofPath : Nat → List Bytes → Nat → List Bytes
  | 0, _, _ => []
  | n + 1, l, p => l.getD (if p % 2 = 0 then p + 1 else p - 1) [] :: proofPath n (upLevel l) (p / 2)

/-- The head's 144 bytes (11 Table 7). -/
def headBytes (h : MinSet) : Bytes :=
  toLE 2 0x4D48 ++ toLE 1 1 ++ zeros 1 ++ toLE 2 1025 ++ toLE 2 h.flags ++ toLE 8 h.seq ++ toLE 8 h.start
    ++ toLE 8 h.stop ++ fit 16 Config.serial ++ fit 48 h.prevRoot ++ fit 48 h.root

/-- The open minute closed at a device time with further flags: records built, head signed, accumulators carried over
(11 R440, R444, R450 to R454 steps 1 and 2). Signing without random input is recorded (12 R488). -/
def closeMinute (s : State) (stop extra : Nat) (noRandom : Bool) : State :=
  match s.meter.openMin with
  | none => s
  | some o =>
    let m := s.meter
    let flags := o.flags + extra
    let seq := m.seq + m.closing.length + 1
    let h0 : MinSet := { seq := seq, flags := flags, start := o.start, stop := stop,
                         recs := (List.range 1025).map (closeRec s flags), prevRoot := m.prevRoot }
    let h1 := { h0 with root := treeRoot 11 (leaves h0) }
    let (rnd, s1) := if noRandom then (zeros 32, s) else s.drawBytes 32
    let msg := headBytes h1
    let h2 := { h1 with
      sigEc := fit 96 (Config.ecdsaSign 2 (Config.minuteKeyEc s.life.keyGen) (Config.sha384 msg) rnd),
      sigMl := fit 3309 (Config.mldsaSign 65 (Config.minuteKeyMl s.life.keyGen) (ascii "VZM7216 MINUTE") msg rnd) }
    let s2 := s1.withMeter (fun m => { m with
      openMin := none, started := true, closing := m.closing ++ [h2], prevRoot := h2.root,
      cls := (List.range 4100).map (fun k => (k, (closeCls (s.weight (k / 4) (k % 4)) (m.cls.get {} k)).2)) })
    let s3 := s2.present 160 (.mark 6 seq)
    if noRandom then s3.event 160 0x0402 1 (toLE 1 0 ++ toLE 8 seq) else s3

/-- The randomness that signing inside the module draws from is unavailable (12 R488): RNG_JSTATUS STATE is not NORMAL. -/
def State.noPrivRandom (s : State) : Bool := s.gv gRngJstate != 1

/-- The boundary at which the open minute closes (11 R437). -/
def boundary (start : Nat) : Nat := (start / 60000000000 + 1) * 60000000000

/-- MINUTE_CLOSE (11 R433, R437, R444): at the first tick at or past the boundary the open minute closes and the next one
opens; DTB and RATE_F are saved (17 R647, R652). -/
def execMinuteClose (s : State) : Out :=
  match s.meter.openMin with
  | none => .next s
  | some o =>
    if s.meter.accepting && decide (boundary o.start ≤ s.dtbNs) then
      let s1 := closeMinute s (boundary o.start) 0 s.noPrivRandom
      .next ((openMinute s1 (boundary o.start) 0).withClock (fun c => { c with savedDtb := c.dtb, savedSt := c.st, saveStale := false, rateFSaved := c.rateF }))
    else .next s

/-- A closed set becomes durable and READY: the PES takes MINUTE_SEQ, the ring slot is written and marked, vector 2 is
sent and the deliveries fall due (11 R454 steps 3 to 5, R456, R458). -/
def setDurable (s : State) (h : MinSet) (rest : List MinSet) : State :=
  let slot := h.seq % 96
  let s1 := s.withMeter (fun m => { m with
    seq := h.seq, closing := rest, vault := m.vault ++ [h], ring := m.ring.set slot h, ready := m.ready.set slot h.seq,
    md := m.md.mapVals (fun p b => if b.enable && (s.part p).enabled then { b with due := b.due ++ [h.seq] } else b) })
  s1.msix 0 2

/-- The set of a MINUTE_SEQ in the meter ring or the vault. -/
def findSet (s : State) (seq : Nat) : Option MinSet := s.meter.vault.find? (fun h => h.seq == seq)

/-- A delivered package without SEAL: 8,184 bytes (11 R458). -/
def packageBytes (h : MinSet) (p : Nat) : Bytes :=
  fit 0x1FF8 (minRecBytes h (h.recs.getD p {}) ++ (proofPath 11 (leaves h) p).flatten ++ headBytes h ++ fit 96 h.sigEc
    ++ fit 3309 h.sigMl)

/-- A meter ring slot's byte content (11 Table 8); read through PF BAR0. -/
def slotBytes (h : MinSet) (ready : Nat) : Bytes :=
  headBytes h ++ fit 96 h.sigEc ++ zeros 16 ++ fit 3309 h.sigMl ++ zeros 523 ++ toLE 8 ready
    ++ (h.recs.map (minRecBytes h)).flatten

end Sys2Proof.Machine
end

