-- ==== Sys2Proof/Machine/Time.lean ====
section
/-! DEFINITION. Device time, its calibration against PTM, operating time, Sentinel Time and the idle tick (17 R641 to
R657). -/

namespace Sys2Proof.Machine

open Sys2Proof

/-- The nominal period in 2^-32 ns (17 R642). -/
def pNom : Nat := 10737418240

/-- One tick of the TBS oscillator (17 R642). -/
def tbsAdvance (c : Clock) : Clock :=
  let x : Int := (pNom : Int) * (2 ^ 48 + c.rate) + c.resid
  { c with dtb := (c.dtb + (x / 2 ^ 48).toNat) % 2 ^ 96, resid := (x % 2 ^ 48).toNat, ticks := c.ticks + 1 }

/-- One tick of Sentinel Time; OTC gains 3 or 4 ms, 125 ms in 32 ticks, while a host supply is present
(17 R654, R656). -/
def stAdvance (supply : Bool) (c : Clock) : Clock :=
  let c1 := { c with st := (c.st + 1) % 2 ^ 48, stSub := 0 }
  if supply then
    { c1 with otc := (c.otc + (125 * (c.otcPos % 32 + 1) / 32 - 125 * (c.otcPos % 32) / 32)) % 2 ^ 48,
              otcPos := (c.otcPos + 1) % 32 }
  else c1

/-- TBS ticks in one tick of Sentinel Time: 400 MHz / 256 Hz. -/
def ticksPerSt : Nat := 1562500

/-- What an empty queue does: one tick of the TBS oscillator while the compute die is powered, one tick of Sentinel Time
otherwise (17 R642, R654; log entry 5). -/
def idleTick (s : State) : State :=
  if !s.hostSupply && s.power.cellExhausted then s.withClock (fun c => { c with ticks := c.ticks + ticksPerSt })
  else if s.mainUp then
    s.withClock (fun c =>
      let c1 := tbsAdvance c
      if ticksPerSt ≤ c.stSub + 1 then stAdvance true c1 else { c1 with stSub := c.stSub + 1 })
  else
    s.withClock (fun c => stAdvance s.hostSupply { c with ticks := c.ticks + ticksPerSt })

/-- The timebase state changed: stamped, recorded and gathered by the open minute (17 R648, 11 R441). -/
def setTState (s : State) (n : Nat) : State :=
  if s.clock.tstate = n then s
  else
    let s1 := s.withClock (fun c => { c with tstate := n })
    let s2 := (s1.present 194 (.mark 8 n)).event 194 0x0104 1
      (toLE 1 s.clock.tstate ++ toLE 1 n ++ zeros 6 ++ toLE 8 (toTwos 64 s1.clock.rate))
    if n = 2 then noteFlag s2 2 else if n = 1 then noteFlag s2 1 else s2

/-- Entry to HOLDOVER: RATE becomes RATE_F (17 R648). -/
def enterHoldover (s : State) : State :=
  setTState (s.withClock (fun c => { c with rate := c.rateF, holdoverAt := c.ticks })) 1

/-- The 10 ms period of device time in which a PTM request leaves (03 R129). -/
def ptmPeriod (s : State) : Nat := s.dtbNs / 10000000

/-- PTM_REQUEST (03 R129): while PTM Enable is set and the link is in L0, one request leaves in each 10 ms of device time and t1 is
noted. -/
def execPtmRequest (s : State) : Out :=
  if s.clock.ptmEnable && s.mainUp && s.link.state == .l0 && s.clock.ptmOut.isNone && s.clock.ptmSlot != some (ptmPeriod s) then
    .next (s.withClock (fun c => { c with ptmOut := some (c.ticks, c.dtb), ptmSlot := some (ptmPeriod s) }))
  else .next s

/-- An exchange discarded (17 R646, R648). -/
def discardExchange (s : State) : State :=
  let s1 := (s.withClock (fun c => { c with ptmOut := none, discRun := c.discRun + 1 })).bump gTimePtmDiscarded
  if 100 ≤ s1.clock.discRun ∧ s1.clock.tstate ≠ 2 ∧ !s1.clock.anchorLost then
    let s2 := s1.withClock (fun c => { c with anchorLost := true })
    (onlyIf (s2.clock.tstate == 0) enterHoldover s2).event 194 0x0105 0 []
  else s1

/-- PTM_ABANDON (03 R129): no response within 1 ms. -/
def execPtmAbandon (s : State) : Out :=
  match s.clock.ptmOut with
  | none => .next s
  | some (t1, _) => if t1 + msTicks 1 ≤ s.now then .next (discardExchange s) else .next s

/-- The tests of 17 R646 on an exchange. -/
def exchangeValid (c : Clock) (t1 d m : Nat) : Bool :=
  match c.lastValid with
  | none => true
  | some (mLast, nLast) =>
    let dm : Int := (m : Int) - mLast
    let n : Int := (t1 : Int) - nLast
    let e : Int := (d : Int) - (m + c.off)
    decide (|n * pNom - dm| * 10000 ≤ dm) &&
      (!c.anchored || decide (|e| * 1000000 ≤ 10000 * 2 ^ 32 * 1000000 + 5 * dm))

/-- RATE and RATE_F after a valid exchange (17 R647). -/
def steer (c : Clock) (t1 d m : Nat) : Int × Int :=
  match c.lastValid with
  | none => (c.rate, c.rateF)
  | some (mLast, nLast) =>
    let dm : Int := (m : Int) - mLast
    let n : Int := (t1 : Int) - nLast
    let target := - roundDiv ((n * pNom - dm) * 2 ^ 48) dm
    let f := c.rateF + roundDiv (target - c.rateF) 8
    let e : Int := (d : Int) - (m + c.off)
    let p := clampInt (- roundDiv (e * 2 ^ 16) 1000000000) (-2814749767) 2814749767
    (clampInt (f + p) (-28147497671) 28147497671, f)

/-- The state after a valid exchange (17 R648). -/
def stateAfterValid (s : State) : State :=
  let c := s.clock
  if c.anchorLost then s
  else if c.tstate = 1 then setTState s 0
  else if c.tstate = 2 ∧ 10 ≤ c.validRun ∧ c.setThisCycle then setTState s 0
  else s

/-- A valid exchange: the first anchors, later ones steer (17 R647). -/
def acceptExchange (s : State) (t1 d m : Nat) : State :=
  let c := s.clock
  let s1 := s.bump gTimePtmValid
  if !c.anchored then
    s1.withClock (fun c => { c with
      off := (d : Int) - m, anchored := true, lastValid := some (m, t1), validRun := 0, discRun := 0, ptmOut := none })
  else
    let r := steer c t1 d m
    stateAfterValid (s1.withClock (fun c => { c with
      rate := r.1, rateF := r.2, lastValid := some (m, t1), validRun := c.validRun + 1, discRun := 0, ptmOut := none }))

/-- PTM_RESPONSE (17 R646 to R648): `master` is M_k in 2^-32 ns. -/
def execPtmResponse (master : Nat) (s : State) : Out :=
  match s.clock.ptmOut with
  | none => .next s
  | some (t1, d) =>
    if decide (s.now ≤ t1 + msTicks 1) && exchangeValid s.clock t1 d master then
      .next (acceptExchange s t1 d master)
    else .next (discardExchange s)

/-- HOLDOVER_ENTRY (17 R648): CALIBRATED and 100 ms without a valid exchange. -/
def execHoldoverEntry (s : State) : Out :=
  if s.clock.tstate == 0 && (match s.clock.lastValid with
      | some (_, n) => decide (n + msTicks 100 ≤ s.now)
      | none => true) then
    .next (enterHoldover s)
  else .next s

/-- HOLDOVER_EXPIRY (17 R648): 3,600 s in HOLDOVER; ANCHORED stays 1. -/
def execHoldoverExpiry (s : State) : Out :=
  if s.clock.tstate == 1 && decide (s.clock.holdoverAt + secTicks 3600 ≤ s.now) then .next (setTState s 2)
  else .next s

/-- time.holdover.left (17 Table 6). -/
def holdoverLeft (s : State) : Nat :=
  if s.clock.tstate = 1 then 3600 - (s.now - s.clock.holdoverAt) / secTicks 1 else 0

/-- The timebase forgets its anchor: power-up, return from DORMANT, TIME_SET (17 R648). -/
def unanchor (s : State) : State :=
  setTState (s.withClock (fun c => { c with anchored := false, validRun := 0, discRun := 0, anchorLost := false })) 2

/-- DTB restored from the save in the PES plus the Sentinel Time since it (17 R652). -/
def restoreDtb (c : Clock) : Nat :=
  if c.saveStale then c.savedDtb
  else c.savedDtb + (c.st - c.savedSt) * 1000000000 * 2 ^ 32 / 256

/-- The timebase started again at power-up or on return from DORMANT (17 R648, R652). -/
def startTimebase (s : State) : State :=
  unanchor (s.withClock (fun c => { c with
    dtb := restoreDtb c, resid := 0, rate := c.rateFSaved, rateF := c.rateFSaved, lastValid := none, ptmOut := none, ptmSlot := none,
    setThisCycle := false, setJob := none }))

/-- DTB saved in the PES with the Sentinel Time of the save (17 R652). -/
def saveDtb (s : State) : State := s.withClock (fun c => { c with savedDtb := c.dtb, savedSt := c.st, saveStale := false })

/-- OTC_SAVE (17 R656). -/
def execOtcSave (s : State) : Out :=
  if s.hostSupply then .next (s.withClock (fun c => { c with otcSaved := c.otc })) else .next s

/-- TIME_SET's effect on the timebase (17 R644, R648): DTB := ns + fraction, resid cleared, RATE unchanged. -/
def setDtb (s : State) (ns frac : Nat) : State :=
  let before := s.dtbNs
  let s1 := s.withClock (fun c => { c with dtb := (ns * 2 ^ 32 + frac) % 2 ^ 96, resid := 0 })
  ((unanchor s1).present 194 (.mark 7 0)).event 194 0x0106 1 (toLE 8 before ++ toLE 8 ns)

/-- TB_STATUS (17 Table 3). -/
def tbStatus (c : Clock) : BitVec 32 := BitVec.ofNat 32 (c.tstate + 4 * b2n c.anchored)

/-- The latches that a read of DTB_FRAC takes (17 R645). -/
def latchDtb (s : State) : State :=
  s.withClock (fun c => { c with latNs := BitVec.ofNat 64 (c.dtb / 2 ^ 32), latStatus := tbStatus c, latRate := BitVec.ofInt 64 c.rate })

/-- Registers of the timebase block by offset (17 Table 2): reads other than DTB_FRAC return what is latched. -/
def readTb (c : Clock) (off : Nat) : BitVec 32 :=
  if off = 0x00 then BitVec.ofNat 32 c.dtb
  else if off = 0x04 then c.latNs.setWidth 32
  else if off = 0x08 then (c.latNs >>> 32).setWidth 32
  else if off = 0x0C then c.latStatus
  else if off = 0x10 then c.latRate.setWidth 32
  else if off = 0x14 then (c.latRate >>> 32).setWidth 32
  else 0

/-- Name of an island (17 Table 1). -/
def islName (n : Nat) : String :=
  let two (k : Nat) : String := (if k < 10 then "0" else "") ++ toString k
  if n < 128 then "SQ" ++ two (n / 4) ++ (match n % 4 with | 0 => ".SEQ" | 1 => ".LHA" | 2 => ".LHB" | _ => ".KEC")
  else if n < 140 then "STR" ++ two (n - 128)
  else if n = 140 then "HL.LNK"
  else if n < 145 then "HL.PHY" ++ toString (n - 141)
  else if n < 147 then "IDE" ++ toString (n - 145)
  else if n = 147 then "DOE"
  else if n = 148 then "DMA.RD" else if n = 149 then "DMA.WR" else if n = 150 then "DMA.BUF"
  else if n < 155 then "INTK" ++ toString (n - 151)
  else if n = 155 then "JCS" else if n = 156 then "KSE" else if n = 157 then "SKC"
  else if n < 160 then "DRC" ++ toString (n - 158)
  else if n = 160 then "MTR"
  else if n < 164 then "GD" ++ toString (n - 161)
  else if n < 180 then "FAB" ++ two (n - 164)
  else if n < 188 then "STG" ++ toString (n - 180)
  else if n < 194 then "RNGT" ++ toString (n - 188)
  else if n = 194 then "TBS"
  else if n < 197 then "PSN" ++ toString (n - 195)
  else if n = 197 then "RPR" else if n = 198 then "D2D.C" else if n = 199 then "GLS"
  else if n < 204 then "DV" ++ toString (n - 200)
  else if n < 208 then "CFB" ++ toString (n - 204)
  else if n = 208 then "CFC" else if n = 209 then "VFC"
  else if n < 226 then "VFB" ++ two (n - 210)
  else if n < 228 then "RNGJ" ++ toString (n - 226)
  else if n = 228 then "PES" else if n = 229 then "MOD" else if n = 230 then "EVR"
  else if n < 233 then "MGT" ++ toString (n - 231)
  else if n = 233 then "CRD" else if n = 234 then "CLR" else if n = 235 then "CLT"
  else if n = 236 then "TMP" else if n = 237 then "GDC" else if n = 238 then "D2D.K"
  else if n < 243 then "KFB" ++ toString (n - 239)
  else "SNT"

/-- Nominal clock of an island in kHz (17 Table 1); HL.PHY follows the PHY's PLL at the link rate. -/
def islKhz (s : State) (n : Nat) : Nat :=
  if n < 128 then 1800000 else if n < 140 then 1250000 else if n = 140 then 2000000
  else if n < 145 then Config.freeNat (1000000 + s.link.rate)
  else if n < 147 then 2000000 else if n = 147 then 800000 else if n < 151 then 2000000 else if n < 155 then 1800000
  else if n < 160 then 1200000 else if n = 160 then 800000 else if n < 180 then 2000000 else if n < 188 then 1800000
  else if n < 194 then 800000 else if n = 194 then 400000 else if n < 197 then 200000 else if n = 197 then 400000
  else if n = 198 then 1600000 else if n = 199 then 1800000 else if n < 204 then 800000 else if n < 209 then 400000
  else if n = 209 then 800000 else if n < 228 then 400000 else if n < 230 then 200000 else if n = 230 then 400000
  else if n < 233 then 125000 else if n = 233 then 100000 else if n < 236 then 54240 else if n = 236 then 200000
  else if n = 237 then 400000 else if n = 238 then 1600000 else if n < 243 then 800000 else 32

end Sys2Proof.Machine
end

