-- ==== Sys2Proof/Machine/Jobs.lean ====
section
/-! DEFINITION. Jobs and rings: descriptors, completion entries, posting, squashes, chains, aborts and teardown
(03 R102, 04). -/

namespace Sys2Proof.Machine

open Sys2Proof

/-! ### Descriptors and indices -/

/-- The fields of a 64-byte job descriptor (04 Table 8). -/
def parseDesc (w : BitVec 512) : Desc :=
  let v := w.toNat
  { opcode := bits v 15 0, ordered := bit v 16, chained := bit v 17, noWait := bit v 18, noIrq := bit v 19,
    handle := bits v 63 32, opaAddr := bits v 127 64, opbAddr := bits v 191 128, resAddr := bits v 255 192,
    opaLen := bits v 287 256, opbLen := bits v 319 288, resCap := bits v 351 320, param := bits v 383 352,
    cookie := bits v 447 384, rsvd := bits v 31 20 != 0 || bits v 511 448 != 0 }

/-- The wrap-doubled index of the descriptor number `n` of a ring (04 R144). -/
def Ring.idx (r : Ring) (n : Nat) : Nat := n % (2 * r.entries)

/-- SQ_HEAD (04 R146). -/
def Ring.sqHead (r : Ring) : Nat := r.idx r.headN

/-- CQ_TAIL (04 R147). -/
def Ring.cqTail (r : Ring) : Nat := r.idx r.cqN

/-- (a − b) mod (2·ENTRIES) (04 R145). -/
def Ring.diff (r : Ring) (a b : Nat) : Nat := (a + 2 * r.entries - b) % (2 * r.entries)

/-- Pending descriptors: (SQ_TAIL − SQ_HEAD) mod (2·ENTRIES) (04 R145). -/
def Ring.pend (r : Ring) : Nat := r.diff r.sqTail r.sqHead

/-- Descriptors submitted and never fetched: none when SQ_TAIL was written back behind those fetched (log entry 139). -/
def Ring.unfetched (r : Ring) : Nat := r.pend - (r.fetchN - r.headN)

/-- SQ_HEAD passes every leading descriptor that has passed (04 R146). -/
def advanceHead : Nat → Ring → Ring
  | 0, r => r
  | k + 1, r =>
    if r.headN ∈ r.passed then
      advanceHead k { r with headN := r.headN + 1, passed := r.passed.filter (fun n => n != r.headN) }
    else r

/-- A descriptor has left staging, or was completed at intake (04 R146). -/
def Ring.pass (r : Ring) (n : Nat) : Ring :=
  if n < r.headN then r
  else
    let r1 := { r with passed := addUnique n r.passed }
    advanceHead r1.passed.length r1

/-! ### What is in flight -/

/-- The job is in staging: it has not been dispatched and has no outcome (04 R182). `order` numbers first dispatches from 1. -/
def Job.inStaging (j : Job) : Bool :=
  j.order == 0 && (match j.phase with
  | .waitCtx | .staged | .ready | .admin | .waitRng => true
  | _ => false)

/-- Job identifiers that pass a test, in the order in which the jobs were fetched. -/
def State.jobsWith (s : State) (p : Job → Bool) : List Nat := s.jobs.keysWith p

/-- Jobs in flight of a partition (04 R173). -/
def State.inFlight (s : State) (p : Nat) : Nat := s.jobs.countP (fun j => j.ctx && j.part == p)

/-- Contexts allocated (04 R173). -/
def State.ctxUsed (s : State) : Nat := s.jobs.countP (fun j => j.ctx)

/-- The intake core that serves a partition (04: four cores, 256 VFs each). -/
def coreOf (p : Nat) : Nat := (p - 1) / 256

/-- Staging slots a partition holds. -/
def State.slotsOf (s : State) (p : Nat) : Nat := s.jobs.countP (fun j => j.slot.isSome && j.part == p)

/-! ### Requests to host memory (03 R85, R93, R116) -/

/-- The selective stream that carries a function's requests, if one does (03 R116, R120). -/
def carrier (s : State) (vf : Nat) : Option Nat :=
  (s.link.ide.find? (fun e => e.1 != 0 && e.2.secure && decide (e.2.lo ≤ vf ∧ vf ≤ e.2.hi))).map Prod.fst

/-- The IDE stream on which a request of a function leaves: its selective stream, else the link stream when that is enabled (03 R116).
Every read, and every write at the moment it is made, goes on it. -/
def requestStream (s : State) (p : Nat) : Option Nat :=
  match carrier s p with
  | some n => some n
  | none => if (s.link.ide.get {} 0).secure then some 0 else none

/-- Non-posted requests that are out (03 Table 1). -/
def outstanding (s : State) : Nat := s.link.reads.foldl (fun a h => a + h.requests) 0

/-- Reads of `n` bytes issued for a job under its partition's routing ID, in requests of Max Read Request Size, as many as the bound of
4,096 outstanding ones leaves (03 Table 1). -/
def issueRead (s : State) (id p n : Nat) : State :=
  let req := min (max 1 (ceilDiv n (128 * 2 ^ s.link.mrrs))) (4096 - outstanding s)
  let h : HostRead := ⟨.job id, s.now, p, requestStream s p, req⟩
  s.withLink (fun l => { l with reads := l.reads ++ [h] })

/-! ### Leaving squads, engines and slots -/

/-- A job's staging slot freed into its wipe; of partition 0's slots those beyond its own 4 are freed first (04 R178, R183). -/
def freeSlot (s : State) (id : Nat) : State :=
  match (s.job id).slot with
  | none => s
  | some c =>
    let own := (s.job id).part == 0 && decide (s.slotsOf 0 + (s.intake.get {} c).wiping0 ≤ 4)
    (s.withIntake c (fun i => if own then { i with wiping0 := i.wiping0 + 1 } else { i with wiping := i.wiping + 1 })).withJob id
      (fun j => { j with slot := none })

/-- Module address of resident slot `c` of squad `q` (06 R240, 15 Table 2). -/
def slotAddr (q c : Nat) : Nat := 0x001000000000 + q * 0x200000 + c * 0x20000

/-- The unit number of context `c` of squad `q`. -/
def ctxUnit (q c : Nat) : Nat := 12 + 16 * q + c

/-- A resident slot wiped: its scratch, lane registers, set-up and QN (06 R263, R265, 13 R527). -/
def wipeSlot (s : State) (q c : Nat) : State :=
  ({ s with mem := s.mem.clear (slotAddr q c) 0x20000 } : State).withUnit (ctxUnit q c) (fun x =>
    { x with r := { x.r with lanes := [], setup := none, qn := none }, ckpt := none, tag := 0x7FF })

/-- What a squad's scratch, lanes and contexts hold is gone with its power (06 R261). -/
def clearSquad (s : State) (q : Nat) : State :=
  (List.range 16).foldl (fun s c => s.withUnit (ctxUnit q c) (fun x =>
    { x with
      r := { x.r with lanes := [], setup := none, qn := none, d := Vector.replicate 8 0 },
      ckpt := none, ldata := [], tag := 0x7FF })) { s with mem := s.mem.clear (slotAddr q 0) 0x200000 }

/-- A job taken off its squads; its resident slots are wiped (06 R263, R265). -/
def leaveSquads (s0 : State) (id : Nat) : State :=
  let j := s0.job id
  let s := j.squads.foldl (fun s q => (((s.squad q).slots.filter (fun e => e.2 == id)).map Prod.fst).foldl (fun s c => wipeSlot s q c) s) s0
  let s1 := j.squads.foldl (fun s q => s.withSquad q (fun x =>
    let l := x.slots.filter (fun e => e.2 != id)
    { x with slots := l, gang := if x.gang = some id then none else x.gang, busyAt := if l.isEmpty then none else x.busyAt })) s
  s1.withJob id (fun j => { j with squads := [] })

/-- Scratch that a context's resident slot holds, by its offset in the slot (06 R240). -/
def slotCells (s : State) (q c : Nat) : Mem :=
  (s.mem.filter (fun e => decide (slotAddr q c ≤ e.1 ∧ e.1 < slotAddr q c + 0x20000))).map (fun e => (e.1 - slotAddr q c, e.2))

/-- The image of what a job keeps at its last yield forgotten: it starts from its start. -/
def dropImage (s : State) (id : Nat) : State :=
  s.withLanes (fun l => { l with images := l.images.filter (fun e => (l.park.find e.1) != some id) })

/-- A job's park slot freed and wiped (06 R255, R265). -/
def freePark (s : State) (id : Nat) : State :=
  (s.withLanes (fun l => { l with park := l.park.filter (fun e => e.2 != id), images := l.images.filter (fun e =>
    !((l.park.find e.1) == some id)), parked := l.parked.filter (fun k =>
    !((l.park.find k) == some id)) })).withJob id (fun j => { j with parkSlot := none, parked := false })

/-- A job taken off its stream engine; its context there, an unwrapped key included, is wiped (10 R406, R422). -/
def leaveEngine (s : State) (id : Nat) : State :=
  s.withJob id (fun j => { j with engine := none, strm := { j.strm with key := [] } })

/-- The reads that a job has out are answered, given up or no longer wanted. -/
def dropReads (s : State) (id : Nat) : State :=
  s.withLink (fun l => { l with reads := l.reads.filter (fun h => h.who != .job id) })

/-- The data-class channel lent to a job returns to the pool; its registers are cleared, its transit units wiped and given back (10
R380, R381, R403). -/
def returnChannel (s : State) (id : Nat) : State :=
  match (s.job id).chan with
  | none => s
  | some c => ((dropReads s id).withDma (fun d => { d with chans := d.chans.erase c })).withJob id (fun j => { j with chan := none })

/-- A job that needs no squad leaves staging for the unit that runs it (04 R146, 09 R851). -/
def toEngine (s : State) (id : Nat) : State :=
  let j := s.job id
  (freeSlot s id).withRing j.part j.ring (fun r => r.pass j.n)

/-- Everything a job holds outside its context released. -/
def releaseUnits (s : State) (id : Nat) : State :=
  returnChannel (leaveEngine (freePark (leaveSquads (freeSlot s id) id) id) id) id

/-! ### Outcomes -/

/-- The uses a job has counted given back to their slots (09 R359). -/
def returnUses (s : State) (id : Nat) : State :=
  let s1 := (s.job id).uses.foldl (fun s i =>
    if (s.keys.slots.find i).isSome then s.withSlot i (fun k => { k with count := k.count - 1 }) else s) s
  s1.withJob id (fun j => { j with uses := [] })

/-- Outcomes that count nothing whatever was done before: device-internal codes, a handle that fails at key load, VAULT_EMPTY (00 Table
5, 01 R33, 11 Table 2). -/
def chargeless (status : Nat) : Bool :=
  decide (0x5000 ≤ status ∧ status < 0x6000) || status == 0x4001 || status == 0x4002 || status == 0x4010

/-- A job gets its status, output and time class, leaves its unit and waits for its result to be written and read
back (01 R38, 04 R161, R845). It waits for no dispatch any more (06 R264). -/
def finish (s : State) (id status : Nat) (out : Bytes) (tc : Nat) : State :=
  (onlyIf (decide (0x5000 ≤ status)) (fun s => returnUses s id) (releaseUnits s id)).withJob id (fun j =>
    let k := { j with phase := .finished, again := false, status := status, out := if status = 0 then out else [], timeClass := tc }
    if chargeless status then { k with lane := 0, stream := 0, commit := 0, random := 0 } else k)

/-- A job finished with counts of its own. -/
def finishWith (s : State) (id status : Nat) (out : Bytes) (tc lane random : Nat) : State :=
  finish (s.withJob id (fun j => { j with lane := lane, random := random })) id status out tc

/-! ### Squashes (04 R182 to R186, R843) -/

/-- A list of descriptor numbers with one inserted in rising order. -/
def insertAsc (n : Nat) : List Nat → List Nat
  | [] => [n]
  | m :: l => if n < m then n :: m :: l else if n = m then m :: l else m :: insertAsc n l

/-- A staged job squashed: it loses context, slot and reservation; its descriptor is fetched again when asked. -/
def squashJob (s : State) (again : Bool) (id : Nat) : State :=
  let j := s.job id
  let s1 := returnChannel (freeSlot s id) id
  let s2 := s1.withRing j.part j.ring (fun r => { r with
    reserved := r.reserved - 1, squashed := (r.squashed + 1) % 2 ^ 32,
    refetch := if again then insertAsc j.n r.refetch else r.refetch })
  ({ s2 with jobs := s2.jobs.erase id } : State).bump gIntakeSquashTotal

/-- The staged jobs that pass a test, squashed. -/
def squashWhere (s : State) (again : Bool) (p : Job → Bool) : State :=
  (s.jobsWith (fun j => j.inStaging && p j)).foldl (fun s id => squashJob s again id) s

/-! ### Completion entries (04 R161 to R165) -/

/-- The 32-byte completion entry (04 Table 9). -/
def entryBytes (r : Ring) (j : Job) (tu : Nat) : Bytes :=
  toLE 32 (2 ^ 16 * (j.d.opcode % 2 ^ 16) + 2 ^ 32 * (j.out.length % 2 ^ 32)
    + 2 ^ 64 * b2n (decide (r.cqTail < r.entries)) + 2 ^ 80 * (j.timeClass % 16) + 2 ^ 95 * (r.sqHead % 2 ^ 17)
    + 2 ^ 112 * (j.status % 2 ^ 16) + 2 ^ 128 * (tu % 2 ^ 64) + 2 ^ 192 * (j.d.cookie % 2 ^ 64))

/-- A finished job's entry written: its charge is accepted, CQ_TAIL advances, its context is freed and the ring's MSI-X
message follows unless NO_IRQ (04 R147, R161, R165, 11 R433). -/
def writeEntry (s : State) (id : Nat) : State :=
  let j := s.job id
  let r := (s.ring j.part j.ring).pass j.n
  let s1 := acceptEntry s j
  let s2 := s1.hostWrite j.part (r.cqBase + 32 * (r.cqTail % r.entries)) (entryBytes r j (s.tu j.part j.count))
  let s3 := s2.withRing j.part j.ring (fun _ => { r with
    cqN := r.cqN + 1, reserved := r.reserved - 1, barriers := r.barriers.filter (fun k => k != j.n) })
  let s4 : State := { s3 with jobs := s3.jobs.erase id }
  if j.d.noIrq then s4 else s4.msix j.part r.msixVec

/-- The run of CHAINED descriptors that directly follow number `n`, as far as they have been fetched, and where the next
chain member would stand (04 R184). -/
def chainRun (flags : List (Nat × Bool)) : Nat → Nat → List Nat × Option Nat
  | 0, _ => ([], none)
  | k + 1, n =>
    match flags.find? (fun f => f.1 == n + 1) with
    | none => ([], some (n + 1))
    | some (_, false) => ([], none)
    | some (_, true) => let r := chainRun flags k (n + 1); ((n + 1) :: r.1, r.2)

/-- Descriptors of a ring that are on their way to intake: to be fetched again, or in a read that a core has issued. -/
def fetching (s : State) (p r : Nat) : List Nat :=
  (s.ring p r).refetch ++ s.intake.flatMap (fun e => match e.2.out with
    | some (q, k, ns) => if q = p ∧ k = r then ns else []
    | none => [])

/-- One chain member squashed (04 R184): a staged one completes SQUASHED at once, and is counted (R186); one on its way again, or one
behind such a member, completes when its descriptor arrives, so that the chain completes in descriptor order. -/
def squashMember (s : State) (p r n : Nat) : State :=
  let wait (s : State) : State := s.withRing p r (fun x => { x with chainSq := addUnique n x.chainSq })
  match (s.jobsWith (fun j => j.part == p && j.ring == r && j.n == n && j.inStaging)).head? with
  | some id =>
    if (s.ring p r).chainSq.any (fun m => decide (m < n)) then wait (squashJob s true id)
    else
      let s1 := (s.withRing p r (fun x => { x with squashed := (x.squashed + 1) % 2 ^ 32 })).bump gIntakeSquashTotal
      writeEntry ((returnChannel (freeSlot s1 id) id).withJob id (fun j => { j with
        phase := .finished, status := 0x6002, out := [], timeClass := 6, lane := 0, stream := 0, commit := 0, random := 0 })) id
  | none => if n ∈ fetching s p r then wait s else s

/-- An ORDERED job has failed: its chain completes SQUASHED in descriptor order, and later staged jobs outside it are
fetched again (04 R184, R185). -/
def chainSquash (s : State) (p r n : Nat) : State :=
  let x := s.ring p r
  let run := chainRun x.flags (x.flags.length + 1) n
  let s1 := squashWhere s true (fun j => j.part == p && j.ring == r && decide (n < j.n) && !(run.1.contains j.n))
  let s2 := run.1.foldl (fun s m => squashMember s p r m) s1
  match run.2 with
  | none => s2
  | some m => s2.withRing p r (fun x => { x with chainAt := addUnique m x.chainAt })

/-- A finished job posts: its entry is written and, when it is ORDERED and failed, its chain is squashed (04 R161, R184). -/
def post (s : State) (id : Nat) : State :=
  let j := s.job id
  let s1 := writeEntry s id
  if j.d.ordered && decide (1 < j.status) then chainSquash s1 j.part j.ring j.n else s1

/-- A completion that is due: posted in L0, held while the link is elsewhere (01 R29); after a cut nothing is posted
(11 R443). -/
def complete (s : State) (id : Nat) : State :=
  if !s.meter.accepting then s
  else if s.link.state = .l0 then post s id
  else s.withLink (fun l => { l with heldPosts := addUnique id l.heldPosts })

/-- A job completed at intake: no context, zero tally units, no output (04 R170). -/
def completeAtIntake (s : State) (id status : Nat) (tc : Nat) : State :=
  complete ((freeSlot s id).withJob id (fun j =>
    { j with phase := .finished, status := status, out := [], timeClass := tc, ctx := false })) id

/-! ### Windows (03 R109) -/

/-- A host range lies in one enabled window with the direction asked (03 R109, 04 R159). -/
def rangeOk (s : State) (p a len : Nat) (write : Bool) : Bool :=
  len == 0 || ((s.part p).windows.any (fun e => let w := e.2
    decide (w.size ≠ 0 ∧ w.base ≤ a ∧ a + len ≤ w.base + w.size) && (if write then w.wr else w.rd)))

/-- The partition has no enabled window (03 R842). -/
def inBootstrap (s : State) (p : Nat) : Bool := (s.part p).windows.all (fun e => e.2.size == 0)

/-! ### Rings -/

/-- A ring fault recorded (04 Table 5). -/
def ringFault (s : State) (p r code : Nat) : State := s.withRing p r (fun x => { x with fault := true, faultCode := code })

/-- SQ_HEAD after a disable: it stands behind the last descriptor that was executed or completed at intake, past those squashed before
it (04 R152, R844). -/
def finalHead (r : Ring) : Nat := r.passed.foldl (fun a n => max a (n + 1)) r.headN

/-- A ring drains: fetching stops and its staged jobs are squashed, never fetched again (04 R152). -/
def drainRing (s : State) (p r : Nat) : State :=
  let s1 := squashWhere s false (fun j => j.part == p && j.ring == r)
  s1.withRing p r (fun x => { x with
    enable := false, state := 2, refetch := [], chainSq := [], chainAt := [], barriers := [], headN := finalHead x, passed := [] })

/-- The lane-cycles and stream bytes of a job cut short (05 R233, 06 R244, 11 R435): the whole steps complete when it ended, in their
order. How many those are is free between its latest yield and its last step while it runs, and stands at the yield while it waits for a
squad, its operands or its key (log entry 31). The bytes are those of its committed segments, or the random bytes written (12 R493). -/
def partialCounts (s : State) (id : Nat) : State :=
  let j := s.job id
  if isSquadOp j.d.opcode then
    let l := jobSequence s j
    let lo := stepsAtYield s j
    if j.phase = .running then
      let (n, s1) := s.drawNat
      s1.withJob id (fun j => { j with lane := 32 * runPrefix l (lo + n % (runSteps l - lo + 1)) })
    else s.withJob id (fun j => { j with lane := 32 * runPrefix l lo })
  else if j.d.opcode = 0x0701 then s.withJob id (fun j => { j with random := j.strm.done })
  else s.withJob id (fun j => { j with stream := j.strm.done + (if j.strm.started then leNat ((j.opb.drop 16).take 4) else 0) })

/-- The job is at work on a squad or an engine, or between two slices. -/
def Job.atWork (j : Job) : Bool :=
  match j.phase with
  | .reserving | .fetching | .running | .waitEngine | .streaming | .drawing | .held => true
  | .ready => j.order != 0
  | _ => false

/-- A job ended without an entry: its charge goes to the orphans, its uses stay counted (09 R359, 11 R434). -/
def dropJob (s0 : State) (id : Nat) : State :=
  let s := if (s0.job id).atWork then partialCounts s0 id else s0
  let j := s.job id
  let s1 := if s.meter.accepting && j.ctx && !j.inStaging then acceptOrphan s j else s
  let s2 := releaseUnits s1 id
  ({ s2 with jobs := s2.jobs.erase id } : State).withLink (fun l => { l with
    heldPosts := l.heldPosts.filter (fun k => k != id), reads := l.reads.filter (fun h => h.who != .job id) })

/-- Steps 2 to 5 of 03 R102 on a partition: run-ahead squashed, jobs aborted without entries, messages that wait under its routing ID
dropped, rings disabled, windows cleared; MD_CFG and MD_LAST return to zero (11 R457). The TDI state, the MSI-X table and what PF0 holds
pending in D3hot stay as they are: R102 names none of them (log entry 140). -/
def tearDown (s : State) (p : Nat) : State :=
  let s1 := squashWhere s false (fun j => j.part == p)
  let s2 := (s1.jobsWith (fun j => j.part == p)).foldl dropJob s1
  let s3 := (List.range 8).foldl (fun s r => s.withRing p r (fun x => { x with
    enable := false, state := 0, refetch := [], chainSq := [], chainAt := [], barriers := [], heldSq := none, heldCq := none,
    reserved := 0 })) s2
  let s4 := { s3 with intake := s3.intake.mapVals (fun _ i =>
    match i.out with
    | some (q, _, _) => if q = p then { i with out := none } else i
    | none => i) }
  let s5 : State := (s4.withPart p (fun x => { x with windows := [], winVer := x.winVer + 1 })).withLink (fun l => { l with
    msixHeld := l.msixHeld.filter (fun e => e.1 != p) })
  s5.withMeter (fun m => { m with md := m.md.mapVals (fun q b => if q = p then { b with base := 0, enable := false, last := 0, due := [] } else b) })

end Sys2Proof.Machine
end

