-- ==== Sys2Proof/Machine/Rings.lean ====
section
/-! DEFINITION. Ring control, doorbells, intake visits, contexts and staging (04). -/

namespace Sys2Proof.Machine

open Sys2Proof

/-- The partition exists and takes register writes: PF0, or an enabled VF not in FLR whose TDI is not in ERROR (03 R94, R102, R123). -/
def partOn (s : State) (p : Nat) : Bool :=
  s.mainUp && (p == 0 || ((s.part p).enabled && decide (p ≤ 1024) && (s.part p).tdi.state != 3))

/-- The rings of a partition are held: quiesced, or not yet in service after a module reset (04 R154). -/
def ringsHeld (s : State) (p : Nat) : Bool := (s.part p).quiesced || s.modeNum == 2

/-- The enable checks of 04 Table 6; 0 when every check passes, else the ring fault. -/
def enableCheck (s : State) (p : Nat) (r : Ring) : Nat :=
  let sqLen := 64 * r.entries
  let cqLen := 32 * r.entries
  let boot := inBootstrap s p
  if r.entries = 0 ∨ 65536 < r.entries then 0x2013
  else if (if p = 0 then 256 else 8) ≤ r.msixVec then 0x2013
  else if r.sqBase < r.cqBase + cqLen ∧ r.cqBase < r.sqBase + sqLen then 0x2013
  else if !boot && !rangeOk s p r.sqBase sqLen false then 0x3002
  else if !boot && !rangeOk s p r.cqBase cqLen true then 0x3002
  else 0

/-- RING_ENABLE (04 R151, R154). -/
def execRingEnable (part ring : Nat) (s : State) : Out :=
  let r := s.ring part ring
  if !partOn s part || decide (8 ≤ ring) || r.state != 0 then .next s
  else
    let c := enableCheck s part r
    if c ≠ 0 then .next (ringFault s part ring c)
    else .next (s.withRing part ring (fun x => { x with
      enable := true, state := if ringsHeld s part then 3 else 1, headN := 0, cqN := 0, fetchN := 0, sqTail := 0,
      cqHead := 0, refetch := [], passed := [], flags := [], chainAt := [], chainSq := [], barriers := [], reserved := 0,
      dbDropped := 0, squashed := 0, heldSq := none, heldCq := none, bootstrap := inBootstrap s part }))

/-- No dispatched job and no completion of the ring remains (04 R152). -/
def ringQuiet (s : State) (p r : Nat) : Bool := (s.jobsWith (fun j => j.part == p && j.ring == r)).isEmpty

/-- A draining ring with nothing left becomes DISABLED (04 R152). -/
def settleRing (s : State) (p r : Nat) : State :=
  if (s.ring p r).state == 2 && ringQuiet s p r then s.withRing p r (fun x => { x with state := 0, reserved := 0 }) else s

/-- The descriptor read of a ring dropped: what it returns is not used (04 R152). -/
def dropRead (s : State) (p r : Nat) : State :=
  { s with intake := s.intake.mapVals (fun _ i =>
      match i.out with
      | some (q, k, _) => if q = p ∧ k = r then { i with out := none } else i
      | none => i) }


/-- A STREAM_OPEN with an AEAD algorithm and more payload than stream.open.hold (10 R417, R418). -/
def largeOpen (d : Desc) : Bool :=
  d.opcode == 0x0602 && decide (1 ≤ d.param % 16 ∧ d.param % 16 ≤ 3) && decide (65536 < d.opaLen - 16)

/-- Plaintext that a large STREAM_OPEN has written is zero-filled before its failing completion (10 R418). -/
def zeroFill (s : State) (j : Job) : State :=
  if largeOpen j.d then s.hostWrite j.part j.d.resAddr (zeros j.strm.done) else s

/-- A job that waits and is not aborted: WINDOW_SET or TIME_SET accepted (03 R848), KEY_RESTRICT with its commit durable
(09 R847). -/
def runsOn (j : Job) : Bool := j.d.opcode == 0x0801 || j.d.opcode == 0x0882 || (j.d.opcode == 0x0506 && j.commit != 0)

/-- An opcode whose effect on the key store is complete once it has its status (09 R847; log entry 141). -/
def slotMade (op : Nat) : Bool := [0x0220, 0x0320, 0x0420, 0x0421, 0x0501, 0x0502, 0x0504, 0x0506, 0x0510].contains op

/-- A dispatched job aborted by its ring (04 R153, 06 R263, R264): what waits for a commit, has changed the key store, is administrative
or has its completion held runs on; a job whose result is being written loses it (10 R403). -/
def abortJob (s : State) (id : Nat) : State :=
  let j := s.job id
  match j.phase with
  | .reserving | .fetching | .running | .waitEngine | .streaming | .drawing | .held =>
    finish (partialCounts (zeroFill s j) id) id 0x6001 [] 6
  | .ready => if j.order = 0 then s else finish (partialCounts s id) id 0x6001 [] 6
  | .waitRng => if j.order = 0 then s else finish (partialCounts s id) id 0x6001 [] 6
  | .adminWait => if runsOn j then s else finish s id 0x6001 [] 6
  | .finished =>
    if !j.ctx || isAdminOp j.d.opcode || slotMade j.d.opcode || s.link.heldPosts.contains id then s
    else finish s id 0x6001 [] 6
  | _ => s

/-- RING_DRAINED (04 R152). -/
def execRingDrained (part ring : Nat) (s : State) : Out := .next (settleRing s part ring)

/-- A submission doorbell on an ACTIVE ring checked and serviced (04 R155, R157). -/
def serveSq (s : State) (p r v : Nat) : State :=
  let x := s.ring p r
  if v = x.sqTail then s
  else if 2 * x.entries ≤ v then (ringFault s p r 0x2011).withRing p r (fun x => { x with dbDropped := (x.dbDropped + 1) % 2 ^ 32 })
  else if x.entries < x.diff v x.sqHead then
    (ringFault s p r 0x2001).withRing p r (fun x => { x with dbDropped := (x.dbDropped + 1) % 2 ^ 32 })
  else s.withRing p r (fun x => { x with sqTail := v })

/-- A completion doorbell checked and serviced (04 R155, R157). -/
def serveCq (s : State) (p r v : Nat) : State :=
  let x := s.ring p r
  if v = x.cqHead then s
  else if 2 * x.entries ≤ v ∨ x.entries < x.diff x.cqTail v then
    (ringFault s p r 0x2011).withRing p r (fun x => { x with dbDropped := (x.dbDropped + 1) % 2 ^ 32 })
  else s.withRing p r (fun x => { x with cqHead := v })

/-- A submission doorbell by the ring's state (04 R155 to R157). -/
def ringSq (s : State) (p r v : Nat) : State :=
  let x := s.ring p r
  if x.state = 3 then s.withRing p r (fun x => { x with heldSq := some v })
  else if x.state = 1 then serveSq s p r v
  else if v = x.sqTail then s
  else s.withRing p r (fun x => { x with dbDropped := (x.dbDropped + 1) % 2 ^ 32 })

/-- A completion doorbell by the ring's state. -/
def ringCq (s : State) (p r v : Nat) : State :=
  let x := s.ring p r
  if x.state = 3 then s.withRing p r (fun x => { x with heldCq := some v })
  else if x.state = 1 ∨ x.state = 2 then serveCq s p r v
  else if v = x.cqHead then s
  else s.withRing p r (fun x => { x with dbDropped := (x.dbDropped + 1) % 2 ^ 32 })

/-- SQ_DB (04 R155). -/
def execSqDb (part ring : Nat) (value : BitVec 32) (s : State) : Out :=
  if partOn s part && decide (ring < 8) then .next (ringSq s part ring (bits value.toNat 16 0)) else .next s

/-- CQ_DB (04 R155). -/
def execCqDb (part ring : Nat) (value : BitVec 32) (s : State) : Out :=
  if partOn s part && decide (ring < 8) then .next (ringCq s part ring (bits value.toNat 16 0)) else .next s

/-- The latest doorbells held by a ring that has left HELD, checked and serviced in its new state (04 R156). -/
def heldBells (s : State) (p r : Nat) : State :=
  let x := s.ring p r
  let s1 := s.withRing p r (fun x => { x with heldSq := none, heldCq := none })
  let s2 := match x.heldCq with | some v => ringCq s1 p r v | none => s1
  match x.heldSq with | some v => ringSq s2 p r v | none => s2

/-- A HELD ring leaves HELD for ACTIVE (04 R154, R156). -/
def releaseRing (s : State) (p r : Nat) : State :=
  if (s.ring p r).state ≠ 3 then s else heldBells (s.withRing p r (fun x => { x with state := 1 })) p r

/-- ENABLE written 0 on a ring that is ACTIVE or HELD, or a failed descriptor read (04 R152, R850). -/
def disableRing (s : State) (p r : Nat) : State := settleRing (heldBells (dropRead (drainRing s p r) p r) p r) p r

/-- RING_DISABLE (04 R152). -/
def execRingDisable (part ring : Nat) (s : State) : Out :=
  let st := (s.ring part ring).state
  if partOn s part && (st == 1 || st == 3) then .next (disableRing s part ring) else .next s

/-- RING_ABORT (04 R153). -/
def execRingAbort (part ring : Nat) (s : State) : Out :=
  let st := (s.ring part ring).state
  if partOn s part && st != 0 then
    let s1 := heldBells (dropRead (drainRing s part ring) part ring) part ring
    let s2 := (s1.jobsWith (fun j => j.part == part && j.ring == ring)).foldl abortJob s1
    .next (settleRing s2 part ring)
  else .next s

/-- Every HELD ring of the partitions that are not quiesced leaves HELD (04 R154). -/
def releaseHeld (s : State) : State :=
  s.rings.foldl (fun s e => if (s.part (e.1 / 8)).quiesced then s else releaseRing s (e.1 / 8) (e.1 % 8)) s

/-- The rings of one partition become HELD (04 R154). -/
def holdRings (s : State) (p : Nat) : State :=
  (List.range 8).foldl (fun s r => s.withRing p r (fun x => if x.state = 1 then { x with state := 3 } else x)) s

/-! ### Intake visits (04 R166 to R168, R178) -/

/-- The ring has descriptors to fetch. -/
def Ring.hasWork (r : Ring) : Bool := r.state == 1 && (!r.refetch.isEmpty || decide (0 < r.unfetched))

/-- The intake core that serves a partition now: the partitions of a lost core pass to the next core in service, in rising order (19
Table 5). -/
def coreFor (s : State) (p : Nat) : Nat :=
  (((List.range 4).map (fun k => (coreOf p + k) % 4)).find? (fun c => s.isl (151 + c) != 3)).getD (coreOf p)

/-- Partitions of an intake core that have pending descriptors, rising. -/
def pendingParts (s : State) (core : Nat) : List Nat :=
  ((s.rings.filter (fun e => e.2.hasWork && partOn s (e.1 / 8) && coreFor s (e.1 / 8) == core)).map (fun e => e.1 / 8)).dedup

/-- Staging slots a partition may still take (04 R178). -/
def freeSlots (s : State) (p : Nat) : Nat :=
  let core := coreFor s p
  let held := s.slotsOf p
  let others := s.jobs.countP (fun j => j.slot == some core && j.part != p && j.part != 0)
  let own := 4 - (s.intake.get {} core).wiping0
  let mine := if p = 0 then held - own else held
  let zeroOver := if p = 0 then 0 else if core = 0 then s.slotsOf 0 - own else 0
  let used := others + mine + zeroOver + (s.intake.get {} core).wiping
  let need := ((pendingParts s core).filter (fun q => q != p && q != 0)).foldl (fun a q => a + (4 - s.slotsOf q)) 0
  let shared := 1024 - used
  let reserve := if p = 0 then own - held else min (4 - held) shared
  let beyond := shared - (if p = 0 then 0 else reserve) - need
  min (reserve + beyond) (s.gv gIntakeStageLimit - held)

/-- The first of a list that comes after `k` in cyclic order. -/
def afterCyc (l : List Nat) (k : Nat) : Option Nat :=
  match l.filter (fun x => decide (k < x)) with
  | x :: _ => some x
  | [] => l.head?

/-- How many of a rising list of numbers follow one another without a gap. -/
def contig : List Nat → Nat
  | [] => 0
  | [_] => 1
  | a :: b :: l => if b = a + 1 then contig (b :: l) + 1 else 1

/-- The descriptors of the next read of a ring: contiguous slots, at most 8 and at most `room` (04 R167). -/
def nextRead (r : Ring) (room : Nat) : List Nat :=
  let start := match r.refetch with | n :: _ => n | [] => r.fetchN
  let avail := if r.refetch.isEmpty then r.unfetched else contig r.refetch
  let toWrap := r.entries - start % r.entries
  (List.range (min (min avail toWrap) (min 8 room))).map (· + start)

/-- INTAKE_VISIT (04 R166 to R168): one partition visited, one read of at most 8 descriptors of one ring issued. -/
def execIntakeVisit (core : Nat) (s : State) : Out :=
  let i := s.intake.get {} core
  if !s.serving || s.link.state != .l0 || i.held || i.out.isSome || decide (4 ≤ core) || decide (2 ≤ s.isl (151 + core)) then .next s
  else match afterCyc (pendingParts s core) i.lastPart with
    | none => .next s
    | some p =>
      match afterCyc ((List.range 8).filter (fun r => (s.ring p r).hasWork)) (i.ringTurn.get 7 p) with
      | none => .next s
      | some r =>
        let x := s.ring p r
        let free := x.entries - x.diff x.cqTail x.cqHead - x.reserved
        let head := s.gvs gPartitionCap p - s.inFlight p
        let ns := nextRead x (min free (min (freeSlots s p) head))
        let s1 := s.withIntake core (fun i => { i with
          lastPart := p, ringTurn := i.ringTurn.set p r, out := if ns.isEmpty then none else some (p, r, ns) })
        .next (s1.withRing p r (fun x => { x with
          reserved := x.reserved + ns.length,
          fetchN := if x.refetch.isEmpty then x.fetchN + ns.length else x.fetchN,
          refetch := x.refetch.filter (fun n => !(ns.contains n)) }))

/-- DESCRIPTOR_READ_FAILED (04 R850). -/
def execDescriptorReadFailed (core : Nat) (s : State) : Out :=
  match (s.intake.get {} core).out with
  | none => .next s
  | some (p, r, ns) =>
    let s1 := s.withIntake core (fun i => { i with out := none })
    let s2 := ringFault (s1.withRing p r (fun x => { x with reserved := x.reserved - ns.length })) p r 0x3003
    let st := (s.ring p r).state
    if st = 1 ∨ st = 3 then .next (disableRing s2 p r) else .next s2

/-- The descriptor read that an intake core has issued is lost with the core's state: its descriptors are to be read again. -/
def requeueRead (s : State) (c : Nat) : State :=
  match (s.intake.get {} c).out with
  | none => s
  | some (p, r, ns) =>
    (s.withIntake c (fun i => { i with out := none })).withRing p r (fun x => { x with
      reserved := x.reserved - ns.length, refetch := ns.foldl (fun l n => insertAsc n l) x.refetch })

/-- The staged jobs of an intake core squashed, to be fetched again, and its read given up (04 R182, 14 Table 5). -/
def emptyIntake (s : State) (c : Nat) : State := squashWhere (requeueRead s c) true (fun j => coreFor s j.part == c)

/-- STAGING_WIPE_DONE (04 R183): a shared slot, or one of partition 0's own. -/
def execStagingWipeDone (pool : StagingPool) (s : State) : Out :=
  .next (s.withIntake pool.core (fun i => if pool.own then { i with wiping0 := i.wiping0 - 1 } else { i with wiping := i.wiping - 1 }))

/-- An ORDERED job of the ring stands before this one and has not posted, be it squashed and still to be fetched again (04 R180). -/
def orderBlocked (s : State) (j : Job) : Bool := (s.ring j.part j.ring).barriers.any (fun n => decide (n < j.n))

end Sys2Proof.Machine
end

