-- ==== Sys2Proof/Machine/Rng.lean ====
section
/-! DEFINITION. Noise channels, expanders and the random job (12). Channels 0 to 5 are T0 to T5, 6 and 7 are J0 and J1;
expanders 0 to 15 are general, 16 and 17 are PX0 and PX1. -/

namespace Sys2Proof.Machine

open Sys2Proof

def State.noise (s : State) (c : Nat) : NoiseCh := s.rng.chans.get {} c
def State.expander (s : State) (e : Nat) : Expander := s.rng.exps.get {} e
def State.withNoise (s : State) (c : Nat) (f : NoiseCh → NoiseCh) : State :=
  s.withRng (fun r => { r with chans := r.chans.upd {} c f })
def State.withExp (s : State) (e : Nat) (f : Expander → Expander) : State :=
  s.withRng (fun r => { r with exps := r.exps.upd {} e f })

/-- Channels and expanders of a path: 0 thermal and general, 1 jitter and privileged (12 Table 1, R472, R475). -/
def pathChans (p : Nat) : List Nat := if p = 0 then [0, 1, 2, 3, 4, 5] else [6, 7]
def pathExps (p : Nat) : List Nat := if p = 0 then List.range 16 else [16, 17]

/-- HEALTHY channels of a path, rising (12 R464). -/
def healthyChans (s : State) (p : Nat) : List Nat := (pathChans p).filter (fun c => (s.noise c).state == 1)

/-- STATE entry of a path (12 R485, Table 10). -/
def pathState (p : Nat) : GE := if p = 0 then gRngState else gRngJstate

/-! ### Conditioned bits and seeds (12 R469, R470, R473, R475) -/

/-- Ticks in which a channel takes the 1,024 raw samples of a window, at 200 or 50 Mbit/s (12 Tables 1, 3). -/
def windowTicks (c : Nat) : Nat := if c < 6 then 2048 else 8192

/-- Conditioned bits that the closed windows of a channel have released since its start: 512 from each window of 1,024 raw bits. A von
Neumann conditioner releases at most so many; how many of them its noise gives is open (12 R466, R470; log entry 159). -/
def releasedBits (s : State) (c : Nat) : Nat := (s.now - (s.noise c).startedAt) / windowTicks c * 512

/-- A HEALTHY channel holds `n` released bits that no seed has used (12 R470). -/
def bitsReady (s : State) (c n : Nat) : Bool :=
  (s.noise c).state == 1 && decide ((s.noise c).used + n ≤ releasedBits s c)

/-- Conditioned bits that an expander draws from each of its two channels (12 R473, R475). -/
def seedBits (e : Nat) : Nat := if e < 16 then 320 else 640

/-- The first HEALTHY thermal channel at or after one, cyclically. -/
def thermalFrom (s : State) (t : Nat) : Nat :=
  (((healthyChans s 0).find? (fun c => decide (t ≤ c))).getD ((healthyChans s 0).headD 0))

/-- The two channels of an expander's next seed: HEALTHY thermal ones round-robin in rising number, or J0 and J1 (12 R473, R475). -/
def seedPair (s : State) (e : Nat) : Nat × Nat :=
  if e < 16 then
    let a := thermalFrom s s.rng.seedTurn
    (a, thermalFrom s (a + 1))
  else (6, 7)

/-- An expander can be seeded now: its two channels differ, are HEALTHY and hold the bits. -/
def canSeed (s : State) (e : Nat) : Bool :=
  let p := seedPair s e
  p.1 != p.2 && bitsReady s p.1 (seedBits e) && bitsReady s p.2 (seedBits e)

/-- A seeding: the bits that it takes are used up, and the next seed goes on with the next channel (12 R470, R473). -/
def seed (s : State) (e : Nat) : State :=
  let p := seedPair s e
  let take (x : NoiseCh) : NoiseCh := { x with used := x.used + seedBits e }
  s.withRng (fun r => { r with
    chans := (r.chans.upd {} p.1 take).upd {} p.2 take,
    exps := r.exps.upd {} e (fun x => { x with inst := true, out := 0, seededAt := s.now }),
    seedTurn := if e < 16 then (p.2 + 1) % 6 else r.seedTurn })

/-- Every expander of a path that has not failed instantiated, or instantiated again, as far as the channels hold the bits; RESEED
instantiates the others when they do (12 R473, R478, R486, R489). -/
def instantiate (s : State) (p : Nat) : State :=
  (pathExps p).foldl (fun s e => if (s.expander e).failed || !canSeed s e then s else seed s e) s

/-- Every expander of a path uninstantiated; its pending output is wiped (12 R486, R487). -/
def uninstantiate (s : State) (p : Nat) : State :=
  (pathExps p).foldl (fun s e => s.withExp e (fun x => { x with inst := false, out := 0 })) s

/-- On entry to SHORT a random job that streams its output stops: what it has written stays, and it completes RNG_UNAVAILABLE; jobs that
wait for randomness take their hold limit (12 R487). -/
def startHolds (s0 : State) : State :=
  let s := (s0.jobsWith (fun j => j.phase == .drawing)).foldl (fun s id => finish s id 0x5002 [] 6) s0
  { s with jobs := s.jobs.mapVals (fun _ j =>
      if j.phase = .waitRng ∧ j.heldAt = 0 then { j with heldAt := s.now + msTicks (s.gv gRngHoldLimit) } else j) }

/-- The holds of SHORT end with it. -/
def endHolds (s : State) : State :=
  { s with jobs := s.jobs.mapVals (fun _ j => if j.heldAt = 0 then j else { j with heldAt := 0 }) }

/-- HEALTHY and STATE of a path brought up to date (12 R477, R485 to R487). -/
def updatePath (s : State) (p : Nat) (retired : Bool) : State :=
  let n := (healthyChans s p).length
  let old := s.gv (pathState p)
  let s1 := s.gset gRngHealthy (((healthyChans s 0) ++ healthyChans s 1).foldl (fun a c => a + 2 ^ c) 0)
  let pending := (pathChans p).any (fun c => (s.noise c).state == 0)
  if old = 0 then
    if 2 ≤ n then (instantiate s1 p).gset (pathState p) 1
    else if pending then s1
    else onlyIf (p == 0) startHolds (s1.gset (pathState p) 2)
  else if n < 2 then
    onlyIf (p == 0 && old != 2) startHolds ((uninstantiate s1 p).gset (pathState p) 2)
  else if old = 2 ∨ retired then
    onlyIf (p == 0) endHolds ((instantiate (onlyIf retired (fun s => uninstantiate s p) s1) p).gset (pathState p) 1)
  else s1

/-- Path of a channel and its island. -/
def chanPath (c : Nat) : Nat := if c < 6 then 0 else 1
def chanIsl (c : Nat) : Nat := if c < 6 then 188 + c else 226 + (c - 6)

/-- A channel started, with its full start-up test (12 R465, R468, R477). -/
def startChan (s : State) (c : Nat) : State := s.withNoise c (fun x => { x with state := 0, startedAt := s.now, used := 0 })

/-- The channels of a path started (12 R477, R478): STATE is STARTING. -/
def startPath (s : State) (p : Nat) : State :=
  ((pathChans p).foldl (fun s c => startChan (s.withNoise c (fun x => { x with stays := false, retires := [] })) c)
    ((pathExps p).foldl (fun s e => s.withExp e (fun _ => {})) s)).gset (pathState p) 0

/-- A channel RETIRED (12 R464, R465, R471, R478): test 1 RCT, 2 APT, 3 KAT, 4 START_TIMEOUT. -/
def retire (s : State) (c test : Nat) : State :=
  let ts := ((s.noise c).retires.filter (fun t => decide (s.clock.otc < t + 86400000))) ++ [s.clock.otc]
  let s1 := s.withNoise c (fun x => { x with state := 2, retiredAt := s.now, retires := ts, stays := x.stays || decide (3 ≤ ts.length) })
  let s2 := s1.event (chanIsl c) 0x0401 1 (toLE 1 c ++ toLE 1 test ++ toLE 1 ts.length)
  let s3 := if test = 1 then s2.bump gRngHealthRctFail else if test = 2 then s2.bump gRngHealthAptFail else s2
  updatePath s3 (chanPath c) true

/-- The minute signing keys made anew when they are due and the privileged path is NORMAL; the former ones sign until then
(19 R708). -/
def makeMinuteKeys (s : State) : State :=
  if s.life.keysDue && s.mode.assayRun && s.mainUp && s.gv gRngJstate == 1 then
    s.withLife (fun l => { l with keysDue := false, keyGen := l.keyGen + 1 })
  else s

/-- START_UP_TEST_PASSED (12 R464, R477; 19 R708): 4,096 raw samples, four windows, have passed both tests. -/
def execStartUpTestPassed (chan : Nat) (s : State) : Out :=
  let x := s.noise chan
  if decide (chan < 8) && x.state == 0 && decide (x.startedAt + 4 * windowTicks chan ≤ s.now) then
    .next (makeMinuteKeys (updatePath (s.withNoise chan (fun x => { x with state := 1 })) (chanPath chan) false))
  else .next s

/-- CHANNEL_RESTART (12 R465): 100 ms after retirement, unless it stays RETIRED. -/
def execChannelRestart (chan : Nat) (s : State) : Out :=
  let x := s.noise chan
  if decide (chan < 8) && x.state == 2 && !x.stays && decide (x.retiredAt + msTicks 100 ≤ s.now) then .next (startChan s chan)
  else .next s

/-- A reseed is due: 1 MiB of output, or 1 ms since the last (12 R474). -/
def reseedDue (s : State) (e : Nat) : Bool :=
  let x := s.expander e
  decide (1048576 ≤ x.out) || decide (x.seededAt + msTicks 1 ≤ s.now)

/-- An expander of a NORMAL path that is not instantiated, and has not failed. -/
def instDue (s : State) (e : Nat) : Bool :=
  !(s.expander e).inst && !(s.expander e).failed && s.gv (pathState (if e < 16 then 0 else 1)) == 1

/-- RESEED (12 R470, R473, R474): an expander whose reseed is due, or which is to be instantiated, takes its seed when its channels hold
the bits. -/
def execReseed (expander : Nat) (s : State) : Out :=
  if decide (expander < 18) && (((s.expander expander).inst && reseedDue s expander) || instDue s expander) && canSeed s expander then
    .next (seed s expander)
  else .next s

/-- The first expander of a path that can generate now (12 R474, R477). -/
def readyExp (s : State) (p : Nat) : Option Nat := (pathExps p).find? (fun e => (s.expander e).inst && !reseedDue s e)

/-- General expander output is ready. -/
def rngReady (s : State) : Bool := (readyExp s 0).isSome

/-- `n` octets drawn from a path (12 R476). -/
def rngDraw (s : State) (p n : Nat) : Bytes × State :=
  let (b, s1) := s.drawBytes n
  (b, match readyExp s p with | some e => s1.withExp e (fun x => { x with out := x.out + n }) | none => s1)

/-! ### Who is served (12 R480) -/

/-- The priority of a job's draws: lane blinding, key generation and slot choice, nonces and the like, host random jobs (12 Table 5). -/
def rngPrio (op : Nat) : Nat :=
  if op = 0x0303 ∨ op = 0x0306 then 2
  else if [0x0220, 0x0320, 0x0420, 0x0421, 0x0501, 0x0502].contains op then 3
  else if op = 0x0701 then 5 else 4

/-- A read of RNG_DATA by a core that issues stalls (12 R484). -/
def coreWaits (s : State) : Bool :=
  s.verb.units.any (fun e => decide (4 ≤ e.1) && e.2.rngStall.isSome && e.2.frozen.isNone)

/-- General output is ready, and no consumer of a higher priority waits for it (12 R480). -/
def rngTurn (s : State) (op : Nat) : Bool :=
  rngReady s && !coreWaits s && !(s.jobs.any (fun e => e.2.phase == .waitRng && decide (rngPrio e.2.d.opcode < rngPrio op)))

/-- A job that is to draw and is not served yet is held: in SHORT for the hold limit at most (12 R487). -/
def rngHold (s : State) (id : Nat) : State :=
  if s.gv gRngState = 2 ∧ (s.job id).heldAt = 0 then s.withJob id (fun j => { j with heldAt := s.now + msTicks (s.gv gRngHoldLimit) })
  else s

/-- RNG_WAIT_END (04 R177, 12 R479, R480, R487): a job that waits for randomness proceeds. -/
def execRngWaitEnd (job : Nat) (s : State) : Out :=
  if (s.job job).phase = .waitRng ∧ rngTurn s (s.job job).d.opcode then
    .next (s.withJob job (fun j => { j with phase := readyPhase j.d, heldAt := 0 }))
  else .next s

/-- RNG_HOLD_EXPIRY (12 R487): the hold limit elapses in SHORT, wherever the job waits; not billed. -/
def execRngHoldExpiry (job : Nat) (s : State) : Out :=
  let j := s.job job
  if j.phase ≠ .finished ∧ s.gv gRngState = 2 ∧ j.heldAt ≠ 0 ∧ j.heldAt ≤ s.now then .next (finish s job 0x5002 [] 6)
  else .next s

/-! ### Host random jobs (12 R482, R491 to R493) -/

/-- A host random job stands at the random scheduler: it streams its output, or is ready to begin. -/
def wantsOutput (s : State) (j : Job) : Bool :=
  j.d.opcode == 0x0701 && (j.phase == .drawing || (j.phase == .ready && !orderBlocked s j))

/-- Partitions with such jobs, rising. -/
def outputParts (s : State) : List Nat :=
  (((s.jobs.filter (fun e => wantsOutput s e.2)).map (fun e => e.2.part)).dedup).mergeSort (fun a b => decide (a ≤ b))

/-- Visits in turn until a partition's deficit is positive: each adds partition.weight × 4,096 bytes (12 R482). -/
def outputRound : Nat → Nat → State → Option (Nat × State)
  | 0, _, _ => none
  | n + 1, last, s =>
    match afterCyc (outputParts s) last with
    | none => none
    | some p =>
      let d := s.rng.hostDef.get 0 p + (s.gvs gPartitionWeight p * 4096 : Nat)
      let s1 := s.withRng (fun r => { r with hostDef := r.hostDef.set p d, hostCur := some p })
      if 0 < d then some (p, s1) else outputRound n p s1

/-- The partition that the scheduler serves now, and the state after its visits (12 R482). -/
def outputPart (s : State) : Option (Nat × State) :=
  let cur := s.rng.hostCur.getD 1024
  if (outputParts s).contains cur && decide (0 < s.rng.hostDef.get 0 cur) then some (cur, s)
  else outputRound (3 * (outputParts s).length) cur s

/-- The job of a partition that goes next: the one that streams, else the first that was fetched. -/
def outputJob (s : State) (p : Nat) : Option Nat :=
  match (s.jobsWith (fun j => j.part == p && j.phase == .drawing && wantsOutput s j)).head? with
  | some id => some id
  | none => (s.jobsWith (fun j => j.part == p && wantsOutput s j)).head?

/-- The next 4 KiB of a random job's output, or what remains, drawn and written; after the last the job ends (12 R430, R491, R493). -/
def outputStep (s0 : State) (id : Nat) : State :=
  let s := if (s0.job id).phase = .ready then toEngine s0 id else s0
  let j := s.job id
  let n := min 4096 (j.d.resCap - j.strm.done)
  let (b, s1) := rngDraw s 0 n
  let s2 := (s1.hostWrite j.part (j.d.resAddr + j.strm.done) b).bumpBys gRngHostBytes 0 n
  if j.strm.done + n = j.d.resCap then finishWith s2 id 0 (j.strm.out ++ b) 4 0 j.d.resCap
  else s2.withJob id (fun j => { j with phase := .drawing, strm := { j.strm with done := j.strm.done + n, out := j.strm.out ++ b } })

/-- What a step of output takes from its partition's deficit; a partition with no job left leaves the round. -/
def outputCharge (s : State) (p n : Nat) : State :=
  s.withRng (fun r => { r with
    hostDef := if (outputParts s).contains p then r.hostDef.set p (r.hostDef.get 0 p - n) else r.hostDef.erase p })

/-- RANDOM_BYTES (12 R474, R480, R482, R487, R491, R492): the job whose turn it is writes its next 4 KiB; with FRESH the serving expander
reseeds first; in SHORT a job that reaches the scheduler completes RNG_UNAVAILABLE. -/
def execRandomBytes (job : Nat) (s : State) : Out :=
  let j := s.job job
  if !wantsOutput s j then .next s
  else if s.gv gRngState = 2 then .next (finish s job 0x5002 [] 6)
  else if !rngTurn s 0x0701 ∨ s.link.state ≠ .l0 then .next s
  else match outputPart s, readyExp s 0 with
    | some (p, s1), some e =>
      if outputJob s1 p ≠ some job ∨ (bit j.d.param 0 ∧ !canSeed s e) then .next s
      else .next (outputCharge (outputStep (if bit j.d.param 0 then seed s1 e else s1) job) p (min 4096 (j.d.resCap - j.strm.done)))
    | _, _ => .next s

/-- A change of a conditioner selection restarts the channels whose selection changed (12 R468). -/
def condChanged (s : State) (p old new : Nat) : State :=
  updatePath ((pathChans p).foldl (fun s c =>
    let i := if p = 0 then c else c - 6
    if bit old i != bit new i then startChan s c else s) s) p true

/-- ERASE-VOLATILE and ERASE-ROOT instantiate every general expander again (12 R489). -/
def rngErase (s : State) : State :=
  if s.gv gRngState = 1 then instantiate (uninstantiate s 0) 0 else uninstantiate s 0

/-- Conditioner test input (12 R467): 4,096 raw bits of bytes 0 to 255 twice. -/
def katBits : List Bool := (List.range 512).flatMap (fun i => (List.range 8).map (fun k => bit (i % 256) k))

/-- Bits packed least significant first (12 R467). -/
def packBits (l : List Bool) (n : Nat) : Bytes :=
  (List.range n).map (fun i => BitVec.ofNat 8 ((List.range 8).foldl (fun a k => a + (if l.getD (8 * i + k) false then 2 ^ k else 0)) 0))

/-- The XOR conditioner and the von Neumann conditioner over pairs (12 R466). -/
def condXor : List Bool → List Bool
  | a :: b :: l => (a != b) :: condXor l
  | _ => []
def condVn : List Bool → List Bool
  | a :: b :: l => if a != b then a :: condVn l else condVn l
  | _ => []

end Sys2Proof.Machine
end

