-- ==== Sys2Proof/Machine/VaultLog.lean ====
section
/-! DEFINITION. Appending to the vault log: pages, banks in rotation, log blocks and their physical blocks (16 R617 to R620,
R625). -/

namespace Sys2Proof.Machine

open Sys2Proof

/-- Bytes of a vault page, of a log block, and of the lower half of the log space (16 Table 1, R617). -/
def vPage : Nat := 16384
def vBlock : Nat := 4194304
def vHalf : Nat := 2 ^ 36

/-- A vault bank. -/
def State.vbank (s : State) (b : Nat) : VBank := s.vault.banks.get {} b

def State.withVBank (s : State) (b : Nat) (f : VBank → VBank) : State :=
  s.withVault (fun v => { v with banks := v.banks.upd {} b f })

/-- A physical block under its key. -/
def blkKey (b n : Nat) : Nat := b * 2720 + n

/-- The block of a list with the lowest erase count (16 R625). -/
def lowestCount (t : Tab FUnit) : List Nat → Option Nat → Option Nat
  | [], acc => acc
  | k :: l, none => lowestCount t l (some k)
  | k :: l, some m => lowestCount t l (some (if (t.get {} k).count < (t.get {} m).count then k else m))

/-- Free blocks of a bank: ERASED, or TORN and to be erased before use, not mapped, not in the reserve (16 R614, R616, R624, R625). -/
def freeBlocks (s : State) (b : Nat) : List Nat :=
  ((List.range (2656 + (s.vbank b).spent)).map (blkKey b)).filter (fun k =>
    ((s.vault.blocks.get {} k).state == 0 || (s.vault.blocks.get {} k).state == 4) && !(s.vault.map.any (fun e => e.2.1 == k || e.2.2 == k)))

/-- An unmapped log block of the lower half. -/
def freeLog (s : State) : Nat := ((List.range 16384).find? (fun n => (s.vault.map.find n).isNone)).getD 0

/-- A block taken into use; a TORN one is erased first (16 R616). -/
def takeBlock (st : Nat) (u : FUnit) : FUnit :=
  if u.state = 4 then { state := 1, count := u.count + 1, lastErase := some st } else { u with state := 1 }

/-- A log block mapped for a bank: first copies in bank b, second copies in bank b + 8 (16 R617, R620, R625). -/
def allocLog (s : State) (b : Nat) : Nat × State :=
  let n := freeLog s
  let p := (lowestCount s.vault.blocks (freeBlocks s b) none).getD (blkKey b 0)
  let q := (lowestCount s.vault.blocks (freeBlocks s ((b + 8) % 16)) none).getD (blkKey ((b + 8) % 16) 0)
  (n, s.withVault (fun v => { v with
    map := v.map.set n (p, q),
    blocks := (v.blocks.upd {} p (takeBlock s.clock.st)).upd {} q (takeBlock s.clock.st) }))

/-- The open log block and page of a bank for a rotation, opened when there is none or it is full (16 R620). -/
def headOf (s : State) (rel : Bool) (b : Nat) : (Nat × Nat) × State :=
  let x := s.vbank b
  match (if rel then x.openRel else x.openLog) with
  | some n =>
    if (if rel then x.relPage else x.nextPage) < 256 then ((n, if rel then x.relPage else x.nextPage), s)
    else
      let (m, s1) := allocLog s b
      ((m, 0), s1.withVBank b (fun x => if rel then { x with openRel := some m, relPage := 0 } else { x with openLog := some m, nextPage := 0 }))
  | none =>
    let (m, s1) := allocLog s b
    ((m, 0), s1.withVBank b (fun x => if rel then { x with openRel := some m, relPage := 0 } else { x with openLog := some m, nextPage := 0 }))

/-- Bytes that a program takes in its page: whole 32-byte units. -/
def unitLen (n : Nat) : Nat := ceilDiv n 32 * 32

/-- Bytes gathered into an open page. -/
def gathered (l : List VProg) : Nat := l.foldl (fun a p => a + unitLen p.data.length) 0

/-- The open page of a rotation goes to its bank to be programmed; the next page is the next bank's (16 R619, R620). -/
def flushPage (s : State) (rel : Bool) : State :=
  let l := if rel then s.vault.rgather else s.vault.gather
  if l.isEmpty then s
  else
    let b := if rel then s.vault.rrot else s.vault.rot
    let s1 := s.withVBank b (fun x =>
      if rel then { x with prog := x.prog ++ [l], relPage := x.relPage + 1 }
      else { x with prog := x.prog ++ [l], nextPage := x.nextPage + 1 })
    s1.withVault (fun v => if rel then { v with rgather := [], rrot := (v.rrot + 1) % 16 }
                           else { v with gather := [], rot := (v.rot + 1) % 16 })

/-- Bytes appended counted in their second, both copies (16 Table 15). -/
def countRate (s : State) (n : Nat) : State :=
  let sec := s.now / secTicks 1
  s.withVault (fun v =>
    if v.rateSec = sec then { v with rateNow := v.rateNow + n }
    else { v with rateSec := sec, ratePrev := if v.rateSec + 1 = sec then v.rateNow else 0, rateNow := n, rateEvr := 0 })

/-- A program appended: it never straddles a page; a page that is full is programmed (16 R618, R619). -/
def vAppend (s : State) (rel : Bool) (src : VSrc) (data : Bytes) : State :=
  let n := unitLen data.length
  let s1 := if vPage < gathered (if rel then s.vault.rgather else s.vault.gather) + n then flushPage s rel else s
  let used := gathered (if rel then s1.vault.rgather else s1.vault.gather)
  let b := if rel then s1.vault.rrot else s1.vault.rot
  let (h, s2) := headOf s1 rel b
  let p : VProg := { src := src, addr := h.1 * vBlock + h.2 * vPage + used, data := data }
  let s3 := s2.withVault (fun v => if rel then { v with rgather := v.rgather ++ [p] } else { v with gather := v.gather ++ [p] })
  let s4 := countRate s3 (2 * n)
  if vPage ≤ used + n then flushPage s4 rel else s4

/-- A range of the log marked dead, both copies: a run that was relocated takes the discard at its new address
(16 R621, R622). -/
def vDiscard (s : State) (a n : Nat) : State :=
  let hit (r : VRun) : Bool := decide (a < r.addr + r.data.length ∧ r.addr < a + n)
  let mark (x m : Nat) (r : VRun) : VRun :=
    if x < r.addr + r.data.length ∧ r.addr < x + m then { r with dead := r.dead ++ [(x, m)] } else r
  let moved := (s.vault.runs.filter (fun r => hit r && r.moved.isSome)).map (fun r =>
    (r.moved.getD 0 + (a - r.addr), min n (r.data.length - (a - r.addr))))
  let s1 := s.withVault (fun v => { v with runs := v.runs.map (mark a n) })
  moved.foldl (fun s e => s.withVault (fun v => { v with runs := v.runs.map (mark e.1 e.2) })) s1

/-- One byte of the log: 0 in a range marked dead, the programmed byte, 0xFF where nothing is programmed (16 R618, R621,
Table 9). -/
def vByte (s : State) (a : Nat) : Byte :=
  let x := if vHalf ≤ a then a - vHalf else a
  match s.vault.runs.find? (fun r => decide (r.addr ≤ x ∧ x < r.addr + r.data.length)) with
  | none => 0xFF
  | some r => if r.dead.any (fun d => decide (d.1 ≤ x ∧ x < d.1 + d.2)) then 0 else r.data.getD (x - r.addr) 0

/-- Live bytes of a run. -/
def liveBytes (r : VRun) : Nat :=
  (((List.range r.data.length).filter (fun i => !(r.dead.any (fun d => decide (d.1 ≤ r.addr + i ∧ r.addr + i < d.1 + d.2))))).length)

end Sys2Proof.Machine
end

