-- ==== Sys2Proof/Machine/Keys.lean ====
section
/-! DEFINITION. The key store: handles, key loads, use counts, commits, destruction and purges (09). -/

namespace Sys2Proof.Machine

open Sys2Proof

/-! ### Handles, entries and records (09 R342 to R347, R362, R363, R852) -/

/-- The handle of a slot (09 R342). -/
def handleOf (i : Nat) (k : KSlot) : Nat := k.gen % 2048 * 2097152 + i

/-- EXPORT, CLASS, FLAGS of an entry. -/
def KSlot.flags (k : KSlot) : Nat := 2 * b2n k.limited + b2n k.vol

/-- A Key Handle Table entry (09 Table 1); `bare` gives the image with USE_COUNT, VAULT_LOC and JOURNAL_SEQ zero. -/
def entryImage (i : Nat) (k : KSlot) (bare : Bool) : Bytes :=
  toLE 8 (k.state + 2 ^ 21 * i + 2 ^ 42 * (k.gen % 2048) + 2 ^ 53 * k.owner) ++
  toLE 16 (2 ^ 40 * k.flags + 2 ^ 48 * k.cls + 2 ^ 56 * k.exp + 2 ^ 64 * k.usage + 2 ^ 80 * k.keyBytes) ++
  fit 48 k.pubDigest ++ toLE 8 (if bare then 0 else k.jseq) ++
  toLE 8 (k.wrapLen + 2 ^ 16 * (if bare then 0 else k.vaultLoc)) ++ toLE 8 (if bare then 0 else k.count) ++ toLE 8 k.limit ++
  toLE 8 k.created ++ toLE 16 k.label

/-- The partition key PK_p (09 R362). -/
def partKey (s : State) (p : Nat) : Bytes :=
  fit 32 (Config.kmac256 s.tamper.root (ascii "VZM7216 PWK" ++ toLE 2 p ++ fit 32 (s.part p).salt) 32 (ascii "KS"))

/-- The first 32 bytes of a key record (09 Table 5). -/
def recHead (kind handle jseq owner cls len : Nat) : Bytes :=
  toLE 2 0x4B52 ++ toLE 1 1 ++ toLE 1 kind ++ toLE 4 handle ++ toLE 8 jseq ++ toLE 2 owner ++ toLE 1 cls ++ zeros 1 ++
    toLE 4 len ++ zeros 8

/-- The record of a creating commit (09 R363, R852). -/
def createRec (s : State) (i jseq : Nat) (k : KSlot) : Bytes :=
  let h := recHead 1 (handleOf i k) jseq k.owner k.cls (144 + k.material.length)
  let img := entryImage i k true
  h ++ img ++ fit (k.material.length + 16)
    (Config.gcmSiv (partKey s k.owner) (toLE 4 (handleOf i k) ++ toLE 8 jseq) (h ++ img) k.material)

/-- A commit queued in its partition's queue with its record (09 R355, R363, R366). -/
def queueCommit (s : State) (kind p : Nat) (job : Option Nat) (slot arg : Nat) (body : Bytes) : State :=
  let k := s.kslot slot
  let seq := s.keys.jseq + 1
  let r := if kind = 1 then createRec s slot seq k
           else recHead kind (if kind = 5 then 0 else handleOf slot k) seq p (if kind = 5 then 0 else k.cls) body.length ++ body
  let c : KCommit := { kind := kind, part := p, job := job, slot := slot, rec_ := r, arg := arg }
  s.withKeys (fun x => { x with
    jseq := seq, queues := x.queues.upd [] p (fun l => l ++ [c]),
    slots := if kind = 5 then x.slots else x.slots.upd {} slot (fun k => { k with jseq := seq }) })

/-! ### Slots (09 R344, R345, R353, R368) -/

/-- Slots a partition holds, PENDING and VOLATILE included (09 R368). -/
def slotsHeld (s : State) (p : Nat) : Nat := s.keys.slots.countP (fun k => k.owner == p)

/-- The generation cell of a slot. -/
def State.genOf (s : State) (i : Nat) : Nat := s.keys.gens.get 0 i

/-- A generation cell advanced (09 R344). -/
def advanceGen (s : State) (i : Nat) : State :=
  s.withKeys (fun k => { k with gens := k.gens.set i ((k.gens.get 0 i + 1) % 2048) })

/-- A slot becomes FREE: its generation has advanced (09 R344, R353). -/
def freeKey (s : State) (i : Nat) : State :=
  let s1 := if (s.kslot i).advanced then s else advanceGen s i
  s1.withKeys (fun k => { k with slots := k.slots.erase i })

/-- KEY_QUOTA or STORE_FULL when a partition may not allocate; 0 otherwise (09 R368). -/
def allocCheck (s : State) (p : Nat) : Nat :=
  if s.gvs gKeystoreQuota p ≤ slotsHeld s p then 0x4013
  else if 2097151 ≤ s.keys.slots.length then 0x4014
  else 0

/-- The first free index at or after one, cyclically over 1 to 2,097,151 (09 R343, R345). -/
def freeIndex (t : Tab KSlot) : Nat → Nat → Nat
  | 0, i => i
  | n + 1, i => if (t.find i).isSome then freeIndex t n (i % 2097151 + 1) else i

/-- A new slot, drawn from the free slots, in PENDING (09 R345, R353). -/
def allocKey (s : State) (k : KSlot) : Nat × State :=
  let (d, s1) := s.drawNat
  let i := freeIndex s1.keys.slots s1.keys.slots.length (d % 2097151 + 1)
  (i, s1.withKeys (fun x => { x with slots := x.slots.set i { k with state := 1, index := i, gen := s1.genOf i } }))

/-! ### The key cache and the entries' check (09 R348, R365) -/

/-- Lines of 512 bytes in the key cache, and those that a partition is guaranteed (09 R365). -/
def cacheLines : Nat := 8388608
def lineGuarantee : Nat := 4096

/-- Lines of the cache that a slot's material takes (09 R365). -/
def KSlot.lines (k : KSlot) : Nat := ceilDiv k.material.length 512

/-- Lines that a test's slots take. -/
def linesWhere (s : State) (f : KSlot → Bool) : Nat :=
  s.keys.slots.foldl (fun a e => if e.2.cached && f e.2 then a + e.2.lines else a) 0

/-- Lines that a partition holds beyond its guarantee (09 R365). -/
def beyondLines (s : State) (p : Nat) : Nat := linesWhere s (fun k => k.owner == p) - lineGuarantee

/-- The slot that a miss evicts: of the partition with the most lines beyond its guarantee, the least recently used. A VOLATILE slot's
material lies in the cache only and stays (09 R354, R365; log entry 158). -/
def victimSlot (s : State) : Option Nat :=
  (s.keys.slots.filter (fun e => e.2.cached && !e.2.vol && decide (0 < beyondLines s e.2.owner))).foldl (fun a e =>
    match a with
    | none => some e.1
    | some i =>
      let k := s.kslot i
      let x := beyondLines s k.owner
      let y := beyondLines s e.2.owner
      if x < y ∨ (x = y ∧ e.2.loadedAt < k.loadedAt) then some e.1 else a) none

/-- Lines evicted, and wiped, until `n` are free (09 R365). -/
def makeRoom (n : Nat) : Nat → State → State
  | 0, s => s
  | f + 1, s =>
    if linesWhere s (fun _ => true) + n ≤ cacheLines then s
    else match victimSlot s with
      | none => s
      | some i => makeRoom n f (s.withSlot i (fun k => { k with cached := false }))

/-- A slot's material comes into the key cache (09 R364, R365). -/
def fillCache (s : State) (i : Nat) : State :=
  (makeRoom (s.kslot i).lines s.keys.slots.length s).withSlot i (fun k => { k with cached := true, loadedAt := s.now })

/-- An entry read from DRAM whose INDEX is not its position or whose GEN is not its generation cell (09 R348); the cell of a slot on its
way to FREE is ahead of its entry (R355). -/
def entryBad (s : State) (i : Nat) : Bool :=
  let k := s.kslot i
  k.state != 0 && !k.advanced && (k.index != i || k.gen % 2048 != s.genOf i % 2048)

/-- A slot marked DAMAGED and recorded, with cause 1 of R364 or 2 of R348. -/
def damageSlot (s : State) (i cause : Nat) : State :=
  (s.withSlot i (fun k => { k with state := 4, cached := false })).event 156 0x0403 1
    (toLE 4 i ++ toLE 2 (s.kslot i).owner ++ toLE 1 (Config.code 6 cause))

/-- An entry checked as it is read (09 R348): one that fails is DAMAGED, is recorded, and takes INDEX and GEN again as the journal has
them; it stays DAMAGED until its owner's KEY_DESTROY (R353; log entry 72). -/
def checkEntry (s : State) (i : Nat) : State :=
  if entryBad s i then (damageSlot s i 2).withSlot i (fun k => { k with index := i, gen := s.genOf i }) else s

/-- Jobs that have loaded a slot's key, but for those that load no key material (09 R346, R356). -/
def usersOf (s : State) (i : Nat) : List Nat :=
  s.jobsWith (fun j => j.keys.contains i && j.d.opcode != 0x0504)

/-! ### Key loads (09 R346, R358 to R360, R364) -/

/-- The module holds a Key Root and is not in LOCKDOWN (00, 01 R33). -/
def keysServed (s : State) : Bool := s.tamper.rootHeld && s.modeNum != 6

/-- Checks 9 and 10 of 04 Table 11 (09 R343, R346). -/
def handleCheck (s : State) (p handle : Nat) : Nat :=
  let i := handle % 2097152
  let k := s.kslot i
  if i = 0 ∨ k.state = 0 ∨ k.owner ≠ p then 0x4002
  else if k.gen ≠ handle / 2097152 then 0x4001
  else 0

/-- The check of a handle at key load (09 R346, R353, R356, R370). -/
def loadCheck (s : State) (p handle : Nat) (destroys : Bool) : Nat :=
  let c := handleCheck s p handle
  let k := s.kslot (handle % 2097152)
  if !keysServed s then 0x4010
  else if c ≠ 0 then c
  else if (s.keys.purges.find p).isSome then 0x4001
  else if k.state = 4 ∧ destroys then 0
  else if k.state ≠ 2 then 0x4001
  else 0

/-- What a key load asks for beside the handle's check: a use to be counted or not, and the checks of class and usage that
stand before the use limit (09 R350, R358). -/
structure LoadAsk where
  use : Bool := true
  destroys : Bool := false
  classes : List Nat := []
  usage : Nat := 0

/-- Checks 1 and 2 of a validation table: class, then usage (09 R350). -/
def classCheck (k : KSlot) (a : LoadAsk) : Nat :=
  if !a.classes.isEmpty && !a.classes.contains k.cls then 0x4011
  else if a.usage ≠ 0 ∧ !bit k.usage (a.usage - 1) then 0x4012
  else 0

/-- Codes of a key load that has to wait: for the QUIESCE hold, for the vault, for a reservation commit. -/
def waitHold : Nat := 0x10001
def waitMiss : Nat := 0x10002
def waitResv : Nat := 0x10003

/-- A use counted and the key loaded by a job (09 R358). -/
def loadKey (s : State) (id i : Nat) (use : Bool) : State :=
  let s1 := s.withJob id (fun j => { j with keys := addUnique i j.keys, uses := if use then j.uses ++ [i] else j.uses })
  let s2 := s1.withSlot i (fun k => { k with loadedAt := s.now })
  if use then s2.withSlot i (fun k => { k with count := k.count + 1 }) else s2

/-- A reservation commit queued for a block of uses (09 R360). -/
def reserve (s : State) (i : Nat) : State :=
  let k := s.kslot i
  if k.resv then s
  else
    let mark := k.mark + min 65536 (k.limit - k.mark)
    (queueCommit s 4 k.owner none i mark (toLE 8 mark)).withSlot i (fun k => { k with resv := true })

/-- A key load: 0 and the key loaded, a status, or a wait (09 R346, R348, R358, R360, R364, 20 R726). -/
def tryLoad (s0 : State) (id handle : Nat) (a : LoadAsk) : Nat × State :=
  let i := handle % 2097152
  let s := if s0.tamper.holdUntil.isSome then s0 else checkEntry s0 i
  let k := s.kslot i
  let c := loadCheck s (s.job id).part handle a.destroys
  if s0.tamper.holdUntil.isSome then (waitHold, s0)
  else if c ≠ 0 then (c, s)
  else if k.state = 4 then (0, loadKey s id i false)
  else if !k.vol && !k.cached then
    (waitMiss, if (s.job id).phase = .held ∧ (s.job id).note = waitMiss then s else s.bump gKeystoreCacheMiss)
  else
    let cc := classCheck k a
    if cc ≠ 0 then (cc, s)
    else if !a.use then (0, loadKey s id i false)
    else if k.limited && decide (k.limit ≤ k.count) then (0x4003, s)
    else if k.limited && !k.vol && decide (k.mark ≤ k.count) then (waitResv, reserve s i)
    else (0, loadKey s id i true)

/-- A job that waits for its key load. -/
def holdJob (s : State) (id w : Nat) : State := s.withJob id (fun j => { j with phase := .held, note := w })

/-! ### Attribute blocks (09 R350 to R352) -/

/-- USAGE flags that a class permits; none for a value that is no class (09 Table 2). -/
def classUsage (c : Nat) : Option Nat :=
  if c = 0x01 then some 0x1F else if c = 0x02 then some 0x1A
  else if 0x11 ≤ c ∧ c ≤ 0x16 then some 0x23 else if 0x21 ≤ c ∧ c ≤ 0x26 then some 0x02
  else if c = 0x30 ∨ c = 0x31 then some 0x03 else if c = 0x38 ∨ c = 0x39 then some 0x02
  else if c = 0x40 ∨ c = 0x41 then some 0x20
  else if 0x51 ≤ c ∧ c ≤ 0x53 then some 0xC0 else if 0x59 ≤ c ∧ c ≤ 0x5B then some 0x40
  else if 0x61 ≤ c ∧ c ≤ 0x63 then some 0x03 else if 0x69 ≤ c ∧ c ≤ 0x6B then some 0x02
  else if 0x70 ≤ c ∧ c ≤ 0x73 then some 0x300 else if c = 0x78 then some 0xC00
  else none

/-- A symmetric class or the key-encryption class, and its material bytes (09 Table 2). -/
def symLen (c : Nat) : Option Nat :=
  if c = 0x70 then some 16 else if c = 0x71 ∨ c = 0x72 ∨ c = 0x78 then some 32 else if c = 0x73 then some 64 else none

/-- The fields of an attribute block (09 Table 4). -/
structure Attr where
  usage : Nat
  exp : Nat
  vol : Bool
  limited : Bool
  cls : Nat
  limit : Nat
  label : Nat
  rsvd : Bool

def parseAttr (b : Bytes) : Attr :=
  let v := leNat (b.take 64)
  { usage := bits v 15 0, exp := bits v 17 16, vol := bit v 24, limited := bit v 25, cls := bits v 39 32,
    limit := bits v 127 64, label := bits v 511 384,
    rsvd := bits v 23 18 != 0 || bits v 31 26 != 0 || bits v 63 40 != 0 || bits v 383 128 != 0 }

/-- The attribute rules of 09 R352 for a class: flags permitted and at least one, the limit, EXPORT_PUBLIC. -/
def attrBad (a : Attr) (cls : Nat) : Bool :=
  match classUsage cls with
  | none => true
  | some u => a.usage == 0 || (BitVec.ofNat 16 a.usage &&& ~~~(BitVec.ofNat 16 u)) != 0 ||
      (!a.limited && a.limit != 0) || ((symLen cls).isSome && bit a.exp 0)

/-- The slot that an attribute block and material describe. -/
def attrSlot (a : Attr) (cls p : Nat) (mat : Bytes) (keyBytes : Nat) (pub : Bytes) : KSlot :=
  { owner := p, cls := cls, usage := a.usage, exp := a.exp, limited := a.limited, vol := a.vol, limit := a.limit,
    label := a.label, material := mat, keyBytes := keyBytes, wrapLen := if a.vol then 0 else 176 + mat.length,
    pubDigest := if pub.isEmpty then zeros 48 else fit 48 (Config.sha384 pub) }

/-! ### Creation (09 R353, R355) -/

/-- A new key made for a job, in a slot of its own: VOLATILE slots become ACTIVE and the job ends at once; otherwise the
creating commit is queued and the job waits for it (09 R353, R366). -/
def createKey (s : State) (id : Nat) (k : KSlot) (out : Nat → Bytes) (tc lane : Nat) : State :=
  let (i, s1) := allocKey s k
  let h := toLE 8 (handleOf i (s1.kslot i))
  if k.vol then
    finishWith ((fillCache s1 i).withSlot i (fun k => { k with state := 2, created := s.dtbNs })) id 0 (h ++ out i) tc lane 0
  else
    (queueCommit (releaseUnits s1 id) 1 k.owner (some id) i 0 []).withJob id (fun j => { j with
      phase := .waitCommit, out := h ++ out i, timeClass := tc, lane := lane })

/-- The time class of a status outside intake where the operation's table lists what validates (04 R845). -/
def tcOf (st : Nat) (valid : List Nat) (ok : Nat) : Nat := if st = 0 then ok else if valid.contains st then 2 else 6

/-- KEY_GEN_SYM (09 R352, R369, 10 R412 check 9): a draw whose XTS halves are equal is drawn again. -/
def execKeyGenSym (job : Nat) (s : State) : Out :=
  let j := s.job job
  if j.phase ≠ .ready ∨ j.d.opcode ≠ 0x0501 ∨ orderBlocked s j then .next s
  else if keysServed s && !rngTurn s 0x0501 then .next (rngHold s job)
  else
    let a := parseAttr j.opa
    let s1 := toEngine s job
    if !keysServed s then .next (finish s1 job 0x4010 [] 6)
    else if a.rsvd then .next (finish s1 job 0x1003 [] 2)
    else if attrBad a a.cls || (symLen a.cls).isNone then .next (finish s1 job 0x4015 [] 2)
    else
      let c := allocCheck s j.part
      if c ≠ 0 then .next (finish s1 job c [] 6)
      else
        let n := (symLen a.cls).getD 0
        let (m, s2) := rngDraw s1 0 n
        if a.cls = 0x73 ∧ m.take 32 = m.drop 32 then .next ({ s with free := s2.free } : State)
        else .next (createKey s2 job (attrSlot a a.cls j.part m n []) (fun _ => []) 1 0)

/-! ### Key jobs that load a slot -/

/-- A key store job starts, or tries its load again: on a status it ends, on a wait it is held, otherwise `f` goes on
(09 R346, R364). -/
def withKey (s : State) (id op : Nat) (a : LoadAsk) (valid : List Nat) (f : State → State) : Out :=
  let j := s.job id
  if j.d.opcode ≠ op ∨ (j.phase ≠ .ready ∧ j.phase ≠ .held) ∨ (j.phase = .ready ∧ orderBlocked s j) then .next s
  else
    let s0 := if j.phase = .ready then toEngine s id else s
    let (c, s1) := tryLoad s0 id j.d.handle a
    if c = 0 then .next (f s1)
    else if c < 0x10000 then .next (finish s1 id c [] (tcOf c valid 1))
    else .next (holdJob s1 id c)

/-- KEY_INFO output (09 Table 8). -/
def infoBytes (handle : Nat) (k : KSlot) : Bytes :=
  toLE 4 handle ++ toLE 1 k.state ++ toLE 1 k.flags ++ toLE 1 k.cls ++ toLE 1 k.exp ++ toLE 2 k.usage ++ toLE 2 k.keyBytes ++
    zeros 12 ++ toLE 8 k.count ++ toLE 8 k.limit ++ toLE 8 k.created ++ toLE 16 k.label

/-- KEY_INFO (09 R369, Table 8). -/
def execKeyInfo (job : Nat) (s : State) : Out :=
  withKey s job 0x0505 { use := false } [] (fun s =>
    let h := (s.job job).d.handle
    finish s job 0 (infoBytes h (s.kslot (h % 2097152))) 1)

/-- KEY_DESTROY (09 R356, R357): the slot is DESTROYING; the job waits. -/
def execKeyDestroy (job : Nat) (s : State) : Out :=
  withKey s job 0x0504 { use := false, destroys := true } [] (fun s =>
    let i := (s.job job).d.handle % 2097152
    (s.withSlot i (fun k => { k with state := 3, destroyer := some job })).withJob job (fun j => { j with phase := .waitCommit }))

/-- DESTROY_COMPLETE (09 R354 to R356): no job uses the slot; its lines are wiped, its generation advances; a persistent slot
queues its destroy commit, a VOLATILE one is freed at once and KEY_DESTROY completes. -/
def execDestroyComplete (slot : Nat) (s : State) : Out :=
  let k := s.kslot slot
  if k.state ≠ 3 ∨ k.destroyer.isNone ∨ k.advanced ∨ !(usersOf s slot).isEmpty then .next s
  else
    let s1 := (advanceGen s slot).withSlot slot (fun k => { k with cached := false, advanced := true })
    if k.vol then
      let id := k.destroyer.getD 0
      .next ((fun s => if (s.jobs.find id).isSome then finish s id 0 [] 1 else s) (freeKey s1 slot))
    else .next (queueCommit s1 2 k.owner k.destroyer slot 0 (toLE 2 (s1.genOf slot) ++ zeros 6))

/-- The restrict block breaks 09 R371 against an entry. -/
def restrictBad (k : KSlot) (v : Nat) : Bool :=
  let u := BitVec.ofNat 16 (bits v 15 0)
  let e := BitVec.ofNat 2 (bits v 17 16)
  (u &&& ~~~(BitVec.ofNat 16 k.usage)) != 0 || (e &&& ~~~(BitVec.ofNat 2 k.exp)) != 0 ||
    (if k.limited then !bit v 25 || decide (k.limit < bits v 127 64) else !bit v 25 && bits v 127 64 != 0)

/-- The restrict block equals the entry's attributes (09 R371). -/
def restrictSame (k : KSlot) (v : Nat) : Bool :=
  bits v 15 0 == k.usage && bits v 17 16 == k.exp && bit v 25 == k.limited && bits v 127 64 == k.limit

/-- A restriction applied to the entry; the job then waits for those that loaded the key before (09 R360, R371). -/
def applyRestrict (s : State) (i v : Nat) (job : Option Nat) : State :=
  let olds := s.jobsWith (fun j => j.keys.contains i && j.d.opcode != 0x0504 && j.d.opcode != 0x0506)
  let s1 := s.withSlot i (fun k => { k with
    usage := bits v 15 0, exp := bits v 17 16, mark := if !k.limited && bit v 25 && !k.vol then k.count else k.mark,
    limited := bit v 25, limit := bits v 127 64, restricting := false })
  match job with
  | some id => if (s1.jobs.find id).isSome then s1.withJob id (fun j => { j with phase := .adminWait, waits := olds }) else s1
  | none => s1

/-- KEY_RESTRICT (09 R369, R371); restrictions of one slot are checked one after another. -/
def execKeyRestrict (job : Nat) (s : State) : Out :=
  let v := leNat ((s.job job).opa.take 16)
  if (s.kslot ((s.job job).d.handle % 2097152)).restricting ∧ loadCheck s (s.job job).part (s.job job).d.handle false = 0 then .next s
  else withKey s job 0x0506 { use := false } [] (fun s =>
    let i := (s.job job).d.handle % 2097152
    let k := s.kslot i
    if bits v 24 18 != 0 || bits v 63 26 != 0 then finish s job 0x1003 [] 2
    else if restrictBad k v then finish s job 0x4015 [] 2
    else if restrictSame k v then finish s job 0 [] 1
    else if k.vol then applyRestrict s i v (some job)
    else ((queueCommit s 3 k.owner (some job) i v (toLE 16 v)).withSlot i (fun k => { k with restricting := true })).withJob job
      (fun j => { j with phase := .waitCommit }))

/-- RESTRICT_DONE (09 R371): every job that loaded the key under the old attributes has retired. -/
def execRestrictDone (job : Nat) (s : State) : Out :=
  let j := s.job job
  if j.phase = .adminWait ∧ j.d.opcode = 0x0506 ∧ j.waits.all (fun id => (s.jobs.find id).isNone) then
    .next (finish s job 0 [] 1)
  else .next s

/-! ### Purges (09 R370) -/

/-- A fresh partition salt (09 R362). -/
def newSalt (s : State) (p : Nat) : State :=
  let (b, s1) := rngDraw s 0 32
  s1.withPart p (fun x => { x with salt := b })

/-- A purge begun: key loads are refused, PENDING slots lose their commits and their jobs complete HANDLE_STALE; a partition
that holds no slot only takes a new salt. The answer says whether a purge record is to come. -/
def beginPurge (s : State) (p : Nat) (job : Option Nat) : Bool × State :=
  let vs := s.keys.slots.keysWith (fun k => k.owner == p)
  if vs.isEmpty then (false, newSalt s p)
  else
    let pend := s.keys.slots.keysWith (fun k => k.owner == p && k.state == 1)
    let js := s.jobsWith (fun j => j.part == p && j.phase == .waitCommit && j.d.opcode != 0x0504 && j.d.opcode != 0x0506
      && j.d.opcode != 0x0510)
    let s1 := s.withKeys (fun x => { x with
      queues := x.queues.upd [] p (fun l => l.filter (fun c => !(c.kind == 1 && pend.contains c.slot))),
      purges := x.purges.set p { job := job, victims := vs },
      slots := x.slots.mapVals (fun _ k => if k.owner = p ∧ k.state = 2 then { k with state := 3 } else k) })
    let s2 := s1.withVault (fun v =>
      let cut (l : List VProg) : List VProg := l.filter (fun g => match g.src with | .commit c => !(c.kind == 1 && pend.contains c.slot) | _ => true)
      { v with gather := cut v.gather, banks := v.banks.mapVals (fun _ b => { b with prog := b.prog.map cut }) })
    (true, js.foldl (fun s id => finish s id 0x4001 [] 6) s2)

/-- KEY_PURGE (09 R370). -/
def execKeyPurge (job : Nat) (s : State) : Out :=
  let j := s.job job
  if j.phase ≠ .ready ∨ j.d.opcode ≠ 0x0510 ∨ orderBlocked s j ∨ (s.keys.purges.find j.part).isSome ∨ !rngReady s then .next s
  else if !keysServed s then .next (finish (toEngine s job) job 0x4010 [] 6)
  else
    let (more, s1) := beginPurge (toEngine s job) j.part (some job)
    if more then .next (s1.withJob job (fun j => { j with phase := .waitCommit })) else .next (finish s1 job 0 [] 1)

/-- PURGE_WIPE (09 R370): the partition's loaded jobs have retired; its lines are wiped, a new salt is drawn and one purge
record is queued. -/
def execPurgeWipe (part : Nat) (s : State) : Out :=
  match s.keys.purges.find part with
  | none => .next s
  | some g =>
    if g.queued || g.victims.any (fun i => !(usersOf s i).isEmpty) || !rngReady s then .next s
    else
      let s1 := newSalt (s.withKeys (fun x => { x with
        slots := x.slots.mapVals (fun i k => if g.victims.contains i then { k with cached := false } else k),
        purges := x.purges.set part { g with queued := true } })) part
      .next (queueCommit s1 5 part g.job 0 0 (toLE 2 part ++ zeros 6))

/-! ### Commits (09 R353, R366) -/

/-- Queues with waiting commits, rising. -/
def waitingQueues (s : State) : List Nat := s.keys.queues.keysWith (fun l => !l.isEmpty)

/-- The first commit of a queue served now, when the ceilings of 09 R366 allow it. -/
def serveCommit (s : State) (p : Nat) : Option State :=
  match s.keys.queues.get [] p with
  | [] => none
  | c :: l =>
    let win := s.keys.served.filter (fun e => decide (s.now < e.1 + secTicks 1))
    if 25000 ≤ win.length ∨ 6400000 < win.foldl (fun a e => a + e.2) 0 + c.rec_.length then none
    else
      let s1 := s.withKeys (fun x => { x with
        queues := x.queues.set p l,
        deficit := if l.isEmpty then x.deficit.erase p else x.deficit.set p (x.deficit.get 0 p - c.rec_.length),
        cur := if l.isEmpty then none else some p,
        served := (x.served.filter (fun e => decide (s.now < e.1 + secTicks 2))) ++ [(s.now, c.rec_.length)] })
      some (vAppend s1 false (.commit c) c.rec_)

/-- The weighted deficit round robin of 09 R366: the queue in turn goes on while its deficit is positive; otherwise the next
one, in rising order, is visited. -/
def commitRound : Nat → Nat → State → State
  | 0, _, s => s
  | n + 1, last, s =>
    match afterCyc (waitingQueues s) last with
    | none => s
    | some p =>
      let d := s.keys.deficit.get 0 p + (s.gvs gPartitionWeight p * 4096 : Nat)
      let s1 := s.withKeys (fun x => { x with deficit := x.deficit.set p d, cur := some p })
      if 0 < d then (serveCommit s1 p).getD s else commitRound n p s1

/-- COMMIT_SERVICE (09 R366): one commit is handed to the vault, under both ceilings. -/
def execCommitService (s : State) : Out :=
  let q := waitingQueues s
  match s.keys.cur with
  | some p =>
    if q.contains p && decide (0 < s.keys.deficit.get 0 p) then .next ((serveCommit s p).getD s)
    else .next (commitRound (3 * q.length) p s)
  | none => .next (commitRound (3 * q.length) 1024 s)

/-- A job whose commit is durable counts one commit and, for a creating or destroying commit, ends (09 R353, R356, R374). -/
def commitJob (s : State) (job : Option Nat) : State :=
  match job with
  | none => s
  | some id =>
    if (s.jobs.find id).isSome then
      let j := s.job id
      finish (s.withJob id (fun j => { j with commit := 1 })) id 0 j.out (if j.timeClass = 0 then 1 else j.timeClass)
    else s

/-- The slot that a commit names still is the one it was made for. -/
def commitCurrent (s : State) (c : KCommit) : Bool :=
  (s.keys.slots.find c.slot).isSome && handleOf c.slot (s.kslot c.slot) == leNat ((c.rec_.drop 4).take 4)

/-- A KEY_DESTROY that still waits for the users of a slot which a purge has freed completes with it (09 R356, R370). -/
def endDestroyer (s : State) (k : KSlot) : State :=
  match k.destroyer with
  | some id => if !k.advanced && (s.jobs.find id).isSome then finish s id 0 [] 1 else s
  | none => s

/-- A commit is durable (09 R353 to R356, R360, R370, R371). -/
def commitDurable (s : State) (c : KCommit) (addr : Nat) : State :=
  let k := s.kslot c.slot
  if c.kind = 1 then
    if k.state = 1 then
      commitJob ((fillCache s c.slot).withSlot c.slot (fun k => { k with state := 2, created := s.dtbNs, vaultLoc := addr / 32 })) c.job
    else s
  else if c.kind = 2 then commitJob (if k.state = 3 then freeKey s c.slot else s) c.job
  else if c.kind = 3 then
    if !commitCurrent s c then commitJob s c.job
    else applyRestrict (match c.job with | some id => (if (s.jobs.find id).isSome then s.withJob id (fun j => { j with commit := 1 }) else s) | none => s) c.slot c.arg c.job
  else if c.kind = 4 then (if commitCurrent s c then s.withSlot c.slot (fun k => { k with mark := c.arg, resv := false }) else s)
  else match s.keys.purges.find c.part with
    | none => s
    | some g =>
      let s1 := g.victims.foldl (fun s i => if (s.keys.slots.find i).isSome then endDestroyer (freeKey s i) (s.kslot i) else s) s
      commitJob (s1.withKeys (fun x => { x with purges := x.purges.erase c.part })) c.job

/-- USE_COUNT_PAGE (09 R361): changed counts of persistent slots without LIMITED go to a page, each at most once in 60 s. -/
def execUseCountPage (s : State) : Out :=
  let due := (s.keys.slots.filter (fun e => let k := e.2
    (k.state == 2 || k.state == 3) && !k.vol && !k.limited && k.count != k.page &&
      (match k.pageAt with | some t => decide (t + secTicks 60 ≤ s.now) | none => true))).take 1022
  if due.isEmpty || !s.serving then .next s
  else
    let items := due.map (fun e => (e.1, e.2.count))
    let body := (due.map (fun e => toLE 4 (handleOf e.1 e.2) ++ zeros 4 ++ toLE 8 e.2.count)).flatten
    let seq := s.keys.jseq + 1
    let s1 := s.withKeys (fun x => { x with jseq := seq })
    let s2 := items.foldl (fun s e => s.withSlot e.1 (fun k => { k with pageAt := some s.now })) s1
    .next (vAppend s2 false (.usePage items) (recHead 6 0 seq 0 0 body.length ++ body))

/-- A use-count page is durable (09 R361). -/
def pageDurable (s : State) (items : List (Nat × Nat)) : State :=
  items.foldl (fun s e => if (s.keys.slots.find e.1).isSome then s.withSlot e.1 (fun k => { k with page := e.2 }) else s) s

/-! ### Misses of the key cache (09 R348, R364) -/

/-- The slot whose load a held job awaits: KEY_EXPORT that has its source loaded awaits its key-encryption key (09 R369). -/
def Job.awaits (j : Job) : Nat :=
  if j.d.opcode = 0x0503 ∧ j.keys.contains (j.d.handle % 2097152) then j.d.param % 2097152 else j.d.handle % 2097152

/-- Held jobs that wait for one slot's record. -/
def missJobs (s : State) (i : Nat) : List Nat :=
  s.jobsWith (fun j => j.phase == .held && j.note == waitMiss && j.awaits == i)

/-- KEY_CACHE_FILL (09 R364): the first copy, then the second, is unwrapped; when both fail the slot is DAMAGED and its
waiting jobs complete KEY_INTEGRITY. An entry that fails its check is DAMAGED before (R348), and its jobs find it so. -/
def execKeyCacheFill (slot : Nat) (copy1Ok copy2Ok : Bool) (s : State) : Out :=
  let k := s.kslot slot
  if k.state ≠ 2 ∨ k.vol ∨ k.cached ∨ !keysServed s then .next s
  else if entryBad s slot then .next (checkEntry s slot)
  else if copy1Ok || copy2Ok then .next (fillCache s slot)
  else
    let s1 := damageSlot s slot 1
    .next ((missJobs s slot).foldl (fun s id => (finish s id 0x5011 [] 6).bump gKeystoreIntegrityFail) s1)

/-! ### What power and tamper do to the key store (09 R354, R355, R360, R361, R375, 19 R696) -/

/-- VOLATILE slots destroyed, their generations advanced (09 R354). -/
def destroyVolatile (s : State) : State :=
  (s.keys.slots.keysWith (fun k => k.vol)).foldl freeKey s

/-- The key cache wiped and its key drawn anew (09 R375, 20 R727). -/
def wipeCache (s : State) : State :=
  s.withKeys (fun x => { x with slots := x.slots.mapVals (fun _ k => { k with cached := false }), cacheGen := x.cacheGen + 1 })

/-- Commits that are not durable abandoned; their jobs complete VAULT_EMPTY (09 R375). -/
def abandonCommits (s : State) : State :=
  let js := s.jobsWith (fun j => j.phase == .waitCommit)
  let pend := s.keys.slots.keysWith (fun k => k.state == 1)
  let s1 := s.withKeys (fun x => { x with
    queues := [], purges := [], slots := x.slots.mapVals (fun _ k => { k with resv := false, restricting := false }) })
  let cut (l : List VProg) : List VProg := l.filter (fun g => match g.src with | .commit _ => false | _ => true)
  let s2 := s1.withVault (fun v => { v with gather := cut v.gather, banks := v.banks.mapVals (fun _ b => { b with prog := b.prog.map cut }) })
  js.foldl (fun s id => finish s id 0x4010 [] 6) (pend.foldl freeKey s2)

/-- The table as the journal gives it at ASSAY: PENDING and VOLATILE slots are gone, a destroy whose generation advanced
completes, any other DESTROYING slot is ACTIVE again; counts resume at the durable mark or page (09 R355, R360, R361). -/
def rebuildKeys (s : State) : State :=
  let gone := s.keys.slots.keysWith (fun k => k.vol || k.state == 1 || (k.state == 3 && k.advanced))
  let s1 := gone.foldl freeKey s
  s1.withKeys (fun x => { x with
    queues := [], deficit := [], cur := none, served := [], purges := [],
    slots := x.slots.mapVals (fun _ k => { k with
      state := if k.state = 3 then 2 else k.state, cached := false, resv := false, restricting := false, destroyer := none,
      count := if k.limited then k.mark else k.page, pageAt := none }) })

end Sys2Proof.Machine
end

