-- ==== Sys2Proof/Machine/Opcodes.lean ====
section
/-! DEFINITION. The intake checks of every opcode (04 Table 11; 03 R136, R137; 05 R223, R224; 07 R270 to R289; 08 R318 to R321;
09 R369; 10 R408 to R411; 12 R491, R492). -/

namespace Sys2Proof.Machine

open Sys2Proof

/-- What checks 4 to 6 and 11 ask of one descriptor: reserved fields set, a used length that is zero, a length, PARAM or
capacity out of range, nothing to do. -/
structure Shape where
  rsvd : Bool := false
  zero : Bool := false
  range : Bool := false
  empty : Bool := false
  deriving DecidableEq, Repr

/-- Bits of PARAM outside a mask. -/
def paramOutside (d : Desc) (mask : Nat) : Bool := (BitVec.ofNat 32 d.param &&& ~~~(BitVec.ofNat 32 mask)) != 0

/-- Operand A or operand B is not used: its pointer and length are reserved (04 R160). -/
def Desc.opaSet (d : Desc) : Bool := d.opaAddr != 0 || d.opaLen != 0
def Desc.opbSet (d : Desc) : Bool := d.opbAddr != 0 || d.opbLen != 0

/-- A capacity that is not zero and lies below the output's size (04 Table 11 check 6). -/
def capShort (d : Desc) (n : Nat) : Bool := d.resCap != 0 && decide (d.resCap < n)

/-! ### Generic arithmetic (05 R223, R224) -/

def shapeGeneric (d : Desc) : Shape :=
  let op := d.opcode
  let L := d.opaLen / 2
  { rsvd := d.handle != 0 || d.param != 0 || (op == 0x0104 && d.opbSet),
    zero := d.opaLen == 0 || (op != 0x0104 && d.opbLen == 0),
    range := d.opaLen % 2 != 0 || decide (256 < d.opaLen) || ((op == 0x0101 || op == 0x0102) && d.opbLen != L)
      || (op == 0x0103 && decide (128 < d.opbLen)) || capShort d L,
    empty := d.resCap == 0 }

/-! ### RSA (07 R272 to R285) -/

/-- PARAM fields that an opcode of 07 names, without CURVE of a slot key (07 Tables 5 and 6, R289). -/
def pkMask (d : Desc) : Nat :=
  let op := d.opcode
  if op = 0x0202 then 0x80000000
  else if op = 0x0203 ∨ op = 0x0208 ∨ op = 0x0301 ∨ op = 0x0304 then 0xFF
  else if op = 0x0204 then 0xFF00FF
  else if op = 0x0205 ∨ op = 0x0207 then 0x800000FF
  else if op = 0x0206 then 0x80FF00FF
  else if op = 0x0220 then 0xFF0000
  else if op = 0x0302 ∨ op = 0x0305 then (if d.hostKey then 0x8000FFFF else 0x800000FF)
  else if op = 0x0320 then 0xFF00
  else 0

/-- The reserved fields of 07 R272 and R273: PARAM, KEY_HANDLE with HOST_KEY and for key generation, operand B. -/
def pkRsvd (d : Desc) (usesB : Bool) : Bool :=
  paramOutside d (pkMask d) || ((d.hostKey || d.opcode % 256 / 32 == 1) && d.handle != 0) || (!usesB && d.opbSet)

/-- k_n is known at intake: a host key, or a slot of the issuer of an RSA class that fits (07 R279, R283, 04 R171). -/
def rsaKnKnown (s : State) (p : Nat) (d : Desc) : Bool :=
  d.hostKey || (let k := s.kslot (d.handle % 2097152)
    k.owner == p && k.state != 0 && (keyNeeds d.opcode).1.contains k.cls)

def shapeRsa (s : State) (p : Nat) (d : Desc) : Shape :=
  let op := d.opcode
  let kn := rsaKn s d
  let h := hLen d.hash
  let known := rsaKnKnown s p d
  let hashBad := decide (3 ≤ op % 256 ∧ op % 256 ≤ 8) && !decide (1 ≤ d.hash ∧ d.hash ≤ 6)
  if op = 0x0220 then
    { rsvd := pkRsvd d false, zero := d.opaLen == 0,
      range := d.opaLen != 64 || !decide (32 ≤ d.salt ∧ d.salt ≤ 128) || capShort d (16 + 8 * d.salt), empty := d.resCap == 0 }
  else
    let lenBad :=
      if op = 0x0201 ∨ op = 0x0202 ∨ op = 0x0208 then d.opaLen != kn
      else if op = 0x0203 then d.opaLen != h
      else if op = 0x0204 then d.opaLen != h || decide (kn < h + d.salt + 2)
      else if op = 0x0205 then d.opaLen != h + kn
      else if op = 0x0206 then d.opaLen != h + kn || decide (kn < h + d.salt + 2)
      else decide (kn < d.opaLen + 2 * h + 2)
    let out := if op = 0x0205 ∨ op = 0x0206 then 8 else if op = 0x0208 then kn - 2 * h - 2 else kn
    { rsvd := pkRsvd d d.hostKey, zero := d.opaLen == 0 || (d.hostKey && d.opbLen == 0),
      range := hashBad || (d.hostKey && !(decide (136 ≤ d.opbLen ∧ d.opbLen ≤ 1032) && d.opbLen % 8 == 0))
        || (known && (lenBad || capShort d out)),
      empty := d.resCap == 0 }

/-! ### Elliptic curves (07 Table 6, R289 to R291) -/

/-- The curve is known at intake. -/
def curveKnown (s : State) (p : Nat) (d : Desc) : Bool :=
  d.hostKey || (let k := s.kslot (d.handle % 2097152)
    k.owner == p && k.state != 0 && (keyNeeds d.opcode).1.contains k.cls)

/-- Octets of the encoding in which the module writes a public key (07 R277, R278). -/
def pubLen (curve : Nat) : Nat := let c := curveOf curve; if curve ≤ 6 then 1 + 2 * c.fb else c.fb

def shapeEc (s : State) (p : Nat) (d : Desc) : Shape :=
  let op := d.opcode
  let cn := jobCurve s d
  let c := curveOf cn
  let known := curveKnown s p d
  let h := hLen d.hash
  let sig := edSigLen cn
  let e := d.resCap == 0
  if op = 0x0301 then
    { rsvd := pkRsvd d false, zero := d.opaLen == 0,
      range := !decide (1 ≤ d.hash ∧ d.hash ≤ 6) || d.opaLen != h || (known && capShort d (2 * c.qb)), empty := e }
  else if op = 0x0302 then
    { rsvd := pkRsvd d d.hostKey, zero := d.opaLen == 0 || (d.hostKey && d.opbLen == 0),
      range := !decide (1 ≤ d.hash ∧ d.hash ≤ 6) || (d.hostKey && !decide (1 ≤ cn ∧ cn ≤ 6)) ||
        (known && d.opaLen != h + 2 * c.qb) || capShort d 8, empty := e }
  else if op = 0x0303 then
    { rsvd := pkRsvd d true || d.opaSet, zero := d.opbLen == 0, range := known && capShort d c.fb, empty := e }
  else if op = 0x0304 then
    let hashBad := if known then !(d.hash == 0 || d.hash == (if cn = 0x11 then 7 else 3)) else !(d.hash == 0 || d.hash == 3 || d.hash == 7)
    { rsvd := pkRsvd d false, zero := d.opaLen == 0,
      range := hashBad || (if d.ph then d.opaLen != 64 else decide (65536 < d.opaLen)) || (known && capShort d sig), empty := e }
  else if op = 0x0305 then
    let hashBad := if known then !(d.hash == 0 || d.hash == (if cn = 0x11 then 7 else 3)) else !(d.hash == 0 || d.hash == 3 || d.hash == 7)
    { rsvd := pkRsvd d d.hostKey, zero := d.opaLen == 0 || (d.hostKey && d.opbLen == 0),
      range := hashBad || (d.hostKey && cn != 0x10 && cn != 0x11) || (d.hostKey && d.opbLen != 32 && d.opbLen != 57)
        || (known && (if d.ph then d.opaLen != sig + 64 else decide (d.opaLen < sig ∨ sig + 65536 < d.opaLen))) || capShort d 8,
      empty := e }
  else if op = 0x0306 then
    { rsvd := pkRsvd d true || d.opaSet, zero := d.opbLen == 0,
      range := (d.opbLen != 32 && d.opbLen != 56) || (known && capShort d c.fb), empty := e }
  else
    { rsvd := pkRsvd d false, zero := d.opaLen == 0,
      range := (curveRow d.curve).isNone || d.opaLen != 64 || capShort d (8 + pubLen d.curve), empty := e }

/-! ### Lattices (08 R318 to R321) -/

/-- PARAM fields that a lattice opcode names (08 Tables 2 and 3). -/
def pqMask (d : Desc) : Nat :=
  let op := d.opcode
  let ps := if d.hostKey then 0xFF00 else 0
  if op = 0x0401 then 0x80000000 + ps
  else if op = 0x0410 then 0x40FF00FF
  else if op = 0x0411 then 0x80FF00FF + ps
  else if op = 0x0420 ∨ op = 0x0421 then 0xFF00
  else 0

/-- Reserved fields of a lattice job. -/
def pqRsvd (d : Desc) (usesB : Bool) : Bool :=
  paramOutside d (pqMask d) || ((d.hostKey || d.opcode % 256 / 32 == 1) && d.handle != 0) || (!usesB && d.opbSet)

def shapeLattice (s : State) (p : Nat) (d : Desc) : Shape :=
  let op := d.opcode
  let ps := jobPset s d
  let x := psetOf ps
  let known := curveKnown s p d
  let kem := op == 0x0401 || op == 0x0402 || op == 0x0420
  let psBad := (d.hostKey || op == 0x0420 || op == 0x0421) && !(if kem then decide (1 ≤ ps ∧ ps ≤ 3) else decide (0x11 ≤ ps ∧ ps ≤ 0x13))
  let e := d.resCap == 0
  let msgBad (front : Nat) : Bool :=
    decide (d.opaLen < front + d.salt) ||
      (if d.hash = 0 then decide (front + d.salt + 65536 < d.opaLen) else d.opaLen != front + d.salt + hLen d.hash)
  if op = 0x0401 then
    { rsvd := pqRsvd d d.hostKey || d.opaSet, zero := d.hostKey && d.opbLen == 0,
      range := psBad || (d.hostKey && d.opbLen != x.pk) || (known && capShort d (x.ct + 32)), empty := e }
  else if op = 0x0402 then
    { rsvd := pqRsvd d false, zero := d.opaLen == 0, range := (known && d.opaLen != x.ct) || capShort d 32, empty := e }
  else if op = 0x0410 then
    { rsvd := pqRsvd d false, zero := d.opaLen == 0,
      range := decide (7 < d.hash) || (bit d.param 30 && s.gv gPqSignDeterministic == 0) || msgBad 0 || (known && capShort d x.ct),
      empty := e }
  else if op = 0x0411 then
    { rsvd := pqRsvd d d.hostKey, zero := d.opaLen == 0 || (d.hostKey && d.opbLen == 0),
      range := psBad || decide (7 < d.hash) || (d.hostKey && d.opbLen != x.pk) || (known && msgBad x.ct) || capShort d 8, empty := e }
  else
    { rsvd := pqRsvd d false, zero := d.opaLen == 0, range := psBad || d.opaLen != 64 || capShort d (8 + x.pk), empty := e }

/-! ### Key store (09 R369, R373) -/

/-- Octets of the public key encoding of a slot (07 R277 to R279, 09 R369). -/
def slotPubLen (k : KSlot) : Nat :=
  if k.cls ≤ 2 then 8 + k.keyBytes
  else if k.cls < 0x50 then pubLen (clsCurve k.cls)
  else (psetOf (clsPset k.cls)).pk

/-- The output of a KEY_EXPORT, where its slot gives one. -/
def exportLen (s : State) (p : Nat) (d : Desc) : Nat :=
  let k := s.kslot (d.handle % 2097152)
  if k.owner ≠ p ∨ k.state = 0 then 0
  else if d.param ≠ 0 then 64 + kwpLen k.material.length
  else if (symLen k.cls).isSome then 0
  else slotPubLen k

def shapeKey (s : State) (p : Nat) (d : Desc) : Shape :=
  let op := d.opcode
  let opa := op == 0x0501 || op == 0x0502 || op == 0x0506
  let lenBad := if op = 0x0501 then d.opaLen != 64
    else if op = 0x0502 then !decide (65 ≤ d.opaLen ∧ d.opaLen ≤ 7560)
    else if op = 0x0506 then d.opaLen != 16 else false
  let out := if op = 0x0501 ∨ op = 0x0502 then 8 else if op = 0x0505 then 64 else if op = 0x0503 then exportLen s p d else 0
  { rsvd := d.opbSet || (!opa && d.opaSet) || (op != 0x0503 && d.param != 0) || ((op == 0x0501 || op == 0x0510) && d.handle != 0)
      || (noOutput op && (d.resAddr != 0 || d.resCap != 0)),
    zero := opa && d.opaLen == 0, range := lenBad || (!noOutput op && capShort d out), empty := !noOutput op && d.resCap == 0 }

/-! ### Streams (10 R407 to R411) -/

def Desc.alg (d : Desc) : Nat := d.param % 16
def Desc.wrapped (d : Desc) : Bool := bit d.param 31
def Desc.duExp (d : Desc) : Nat := bits d.param 18 16

/-- Bytes of an XTS data unit. -/
def Desc.dataUnit (d : Desc) : Nat := 512 * 2 ^ d.duExp

def Desc.aead (d : Desc) : Bool := decide (1 ≤ d.alg ∧ d.alg ≤ 3)

/-- Payload bytes of a stream job (10 R425). -/
def Desc.payload (d : Desc) : Nat := if d.aead && d.opcode == 0x0602 then d.opaLen - 16 else d.opaLen

/-- Output bytes of a stream job (10 Table 8). -/
def Desc.streamOut (d : Desc) : Nat := if d.aead && d.opcode == 0x0601 then d.opaLen + 16 else d.payload

def shapeStream (d : Desc) : Shape :=
  let openTag := d.aead && d.opcode == 0x0602 && d.opaLen == 16
  let sealTag := d.aead && d.opcode == 0x0601 && d.opaLen == 0
  { rsvd := paramOutside d 0x8007000F || (sealTag && d.opaAddr != 0) || (openTag && (d.resAddr != 0 || d.resCap != 0)),
    zero := (d.opaLen == 0 && !sealTag) || d.opbLen == 0,
    range := !decide (1 ≤ d.alg ∧ d.alg ≤ 4) || (d.aead && d.duExp != 0) || decide (d.opbLen < 32)
      || (d.alg == 4 && d.opaLen % d.dataUnit != 0)
      || (d.aead && d.opcode == 0x0602 && (decide (d.opaLen < 16) || (d.resCap == 0 && !openTag)))
      || (d.aead && d.opcode == 0x0601 && decide (2 ^ 32 - 17 < d.opaLen)) || capShort d d.streamOut,
    empty := d.resCap == 0 && !openTag }

/-! ### Random numbers and administration (12 R491, R492; 03 R136, R137) -/

def shapeRandom (d : Desc) : Shape :=
  { rsvd := paramOutside d 1 || d.handle != 0 || d.opaSet || d.opbSet,
    range := decide ((if bit d.param 0 then 4096 else 1048576) < d.resCap), empty := d.resCap == 0 }

/-- Words of an administrative parameter block; 0 where the opcode takes none (03 Table 8). -/
def blockWords (op : Nat) : Nat := if op = 0x0801 then 4 else if op = 0x0880 ∨ op = 0x0881 then 1 else if op = 0x0882 then 2 else 0

/-- Output bytes of an administrative opcode (03 R137). -/
def adminOut (op : Nat) : Nat := if op = 0x0802 then 512 else if op = 0x0803 then 64 else if op = 0x0804 then 16 else 0

def shapeAdmin (d : Desc) : Shape :=
  let n := blockWords d.opcode
  let out := adminOut d.opcode
  { rsvd := d.handle != 0 || d.param != 0 || d.opbSet || (n == 0 && d.opaSet) || (out == 0 && (d.resAddr != 0 || d.resCap != 0)),
    zero := n != 0 && d.opaLen == 0, range := (n != 0 && d.opaLen != n) || (out != 0 && capShort d out),
    empty := out != 0 && d.resCap == 0 }

/-! ### The checks in order (04 Table 11) -/

/-- What a descriptor's opcode asks of its fields. -/
def shape (s : State) (p : Nat) (d : Desc) : Shape :=
  let f := d.opcode / 256
  if f = 1 then shapeGeneric d else if f = 2 then shapeRsa s p d else if f = 3 then shapeEc s p d
  else if f = 4 then shapeLattice s p d else if f = 5 then shapeKey s p d else if f = 6 then shapeStream d
  else if f = 7 then shapeRandom d else shapeAdmin d

/-- Every host range of a job lies in an enabled window with the direction used (check 7; 03 R109, R842). -/
def windowsOk (s : State) (p : Nat) (d : Desc) : Bool :=
  let u := lenUnit d.opcode
  let boot := d.opcode == 0x0801 && inBootstrap s p
  (boot || rangeOk s p d.opaAddr (d.opaLen * u) false) && rangeOk s p d.opbAddr (d.opbLen * u) false
    && rangeOk s p d.resAddr (d.resCap * capUnit d.opcode) true

/-- The job needs a key from the key store, or makes one (check 8; 01 R32, R33). -/
def needsKey (d : Desc) : Bool :=
  slotKeyed d || d.opcode / 256 == 5 || d.opcode / 256 == 6 || [0x0220, 0x0320, 0x0420, 0x0421].contains d.opcode

/-- The job names a slot that checks 9 and 10 look at. -/
def namesSlot (d : Desc) : Bool :=
  slotKeyed d || isStreamOp d.opcode || [0x0503, 0x0504, 0x0505, 0x0506].contains d.opcode || (d.opcode == 0x0502 && d.handle != 0)

/-- The status of Table 11; 0 when every check passes. -/
def intakeCheck (s : State) (p : Nat) (d : Desc) : Nat :=
  let x := shape s p d
  let h := handleCheck s p d.handle
  if s.modeNum = 7 ∧ p ≠ 0 then 0x2014
  else if !definedOps.contains d.opcode then 0x1004
  else if 0x0880 ≤ d.opcode ∧ p ≠ 0 then 0x3011
  else if d.rsvd || x.rsvd then 0x1003
  else if x.zero then 0x1001
  else if x.range then 0x1002
  else if !windowsOk s p d then 0x3002
  else if s.modeNum = 6 ∧ needsKey d then 0x4010
  else if namesSlot d ∧ h ≠ 0 then h
  else if x.empty then 1
  else 0

end Sys2Proof.Machine
end

