-- ==== Sys2Proof/Machine/Intake.lean ====
section
/-! DEFINITION. Descriptors that arrive, contexts, data channels for staging, and staged operands (04 R166 to R181, 10 R382,
R401). -/

namespace Sys2Proof.Machine

open Sys2Proof

/-! ### Contexts (04 R173 to R177) -/

/-- A context may be allocated to a partition now (04 R174). -/
def canAlloc (s : State) (p : Nat) : Bool := decide (s.inFlight p < s.gvs gPartitionCap p ∧ s.ctxUsed < 65536)

/-- The phase in which a job stands once it holds a context: it waits for randomness that is not ready. A host random job goes to the
random scheduler in SHORT, which reports RNG_UNAVAILABLE there (04 R177, 12 R487). -/
def afterContext (s : State) (d : Desc) : Phase :=
  if randomOp d && !rngReady s && !(d.opcode == 0x0701 && s.gv gRngState == 2) then .waitRng else readyPhase d

/-- A context allocated to a job (04 R173). -/
def giveContext (s : State) (id : Nat) : State :=
  let ph := afterContext s (s.job id).d
  s.withJob id (fun j => { j with ctx := true, phase := ph, heldAt := if ph = .waitRng ∧ s.gv gRngState = 2 then s.now + msTicks (s.gv gRngHoldLimit) else 0 })

/-- A job that passes Table 11 (04 R174, R176): where its cap or the module's limit stops an allocation it completes CAP_REACHED or
waits; where a context is free it takes it, behind the jobs that wait already. -/
def letIn (s : State) (id : Nat) : State :=
  let j := s.job id
  if canAlloc s j.part then
    if s.jobs.any (fun e => e.1 != id && e.2.phase == .waitCtx && canAlloc s e.2.part) then s else giveContext s id
  else if j.d.noWait then completeAtIntake s id 0x2002 0
  else if s.gvs gPartitionCap j.part ≤ s.inFlight j.part then s.bumps gPartitionCapWaits j.part
  else s

/-- Partitions whose oldest waiting job may be given a context, rising. -/
def waitingParts (s : State) : List Nat :=
  (((s.jobs.filter (fun e => e.2.phase == .waitCtx)).map (fun e => e.2.part)).dedup.filter (canAlloc s)).mergeSort (fun a b => decide (a ≤ b))

/-- CONTEXT_FREED (04 R176): a freed context goes round-robin, first among partitions that hold fewer than
min(partition.cap, 32). -/
def execContextFreed (s : State) : Out :=
  let l := waitingParts s
  let first := l.filter (fun p => decide (s.inFlight p < min (s.gvs gPartitionCap p) 32))
  match afterCyc (if first.isEmpty then l else first) s.disp.ctxPos with
  | none => .next s
  | some p =>
    match (s.jobsWith (fun j => j.part == p && j.phase == .waitCtx)).head? with
    | none => .next s
    | some id => .next (giveContext { s with disp := { s.disp with ctxPos := p } } id)

/-! ### Arriving descriptors (04 R170 to R172, R184) -/

/-- The descriptor is a member of a chain that is being squashed: it lies in the list of members to come, or directly after
the last one known and CHAINED (04 R184). -/
def chainMember (r : Ring) (n : Nat) (d : Desc) : Bool := r.chainSq.contains n || (r.chainAt.contains n && d.chained)

/-- The ring's account of a descriptor that has arrived. -/
def noteArrival (r : Ring) (n : Nat) (d : Desc) : Ring :=
  { r with
    flags := if (r.flags.any (fun f => f.1 == n)) then r.flags else r.flags ++ [(n, d.chained)],
    chainSq := r.chainSq.filter (fun k => k != n),
    chainAt := if r.chainAt.contains n ∧ d.chained then addUnique (n + 1) (r.chainAt.filter (fun k => k != n))
      else r.chainAt.filter (fun k => k != n),
    barriers := if d.ordered then addUnique n r.barriers else r.barriers.filter (fun k => k != n) }

/-- One descriptor that arrives: checked, completed at intake, or admitted (04 R170, R172, R173, R184). -/
def arrive (core p r : Nat) (s : State) (e : Nat × BitVec 512) : State :=
  let d := parseDesc e.2
  let member := chainMember (s.ring p r) e.1 d
  let id := s.nextJob
  let j : Job := { part := p, ring := r, n := e.1, d := d, slot := some core, winVer := (s.part p).winVer, epoch := s.gv gGuardEpoch }
  let s1 : State := ({ s with nextJob := id + 1, jobs := s.jobs.set id j } : State).withRing p r (fun x => noteArrival x e.1 d)
  if member then completeAtIntake s1 id 0x6002 6
  else
    let c := intakeCheck s1 p d
    if c = 0 then letIn s1 id else completeAtIntake s1 id c 0

/-- DESCRIPTOR_ARRIVAL (04 R170): the descriptors that an intake core has asked for, in order. -/
def execDescriptorArrival (core : Nat) (descs : List (BitVec 512)) (s : State) : Out :=
  match (s.intake.get {} core).out with
  | none => .next s
  | some (p, r, ns) =>
    if descs.length ≠ ns.length ∨ s.link.state ≠ .l0 then .next s
    else .next ((ns.zip descs).foldl (arrive core p r) (s.withIntake core (fun i => { i with out := none })))

/-! ### Data-class channels (04 R179, R180; 10 R379 to R382, R401) -/

/-- An administrative job stands first among those of its ring that have not acted, with no ORDERED job before it (04 R180, R181). -/
def adminFirst (s : State) (j : Job) : Bool :=
  j.phase == .admin && !orderBlocked s j &&
    !(s.jobs.any (fun e => e.2.part == j.part && e.2.ring == j.ring && decide (e.2.n < j.n) && e.2.phase == .admin))

/-- Bytes that a job has to read now through a data-class channel: staged operands, operands of more than 2 KiB at dispatch, the
payload of a bound stream job that is not staged, a parameter block (03 R136, 04 R179, 10 R401). -/
def wantsRead (s : State) (j : Job) : Nat :=
  if j.phase = .fetching ∨ (j.phase = .staged ∧ !orderBlocked s j) ∨ adminFirst s j ∨
      (j.phase = .streaming ∧ j.strm.key.isEmpty ∧ 2048 < operandBytes j.d) then operandBytes j.d
  else 0

/-- Bytes of its result that a finished job has to write through a data-class channel (10 R401). -/
def wantsWrite (j : Job) : Nat := if j.phase = .finished then j.out.length else 0

/-- Data-class channels lent to a partition. -/
def chansOf (s : State) (p : Nat) : Nat := s.jobs.countP (fun j => j.chan.isSome && j.part == p)

/-- Jobs of a partition that wait for a channel, in the order in which they were fetched. -/
def wantsChannel (s : State) (p : Nat) : List Nat :=
  s.jobsWith (fun j => j.part == p && j.chan.isNone && decide (0 < wantsRead s j + wantsWrite j))

/-- The lowest data-class channel that is not lent. -/
def freeChannel (s : State) : Option Nat :=
  (List.range 384).find? (fun c => !(s.jobs.any (fun e => e.2.chan == some c)) && (s.chan c).state == 0)

/-- Units of the shared pool that no channel holds (10 Table 1). -/
def poolFree (s : State) : Nat := 768 - s.dma.chans.foldl (fun a e => a + e.2.shared) 0

/-- Shared units that a partition's channels hold (10 R379). -/
def sharedOf (s : State) (p : Nat) : Nat :=
  (s.jobs.filter (fun e => e.2.part == p)).foldl (fun a e => a + ((e.2.chan.map (fun c => (s.chan c).shared)).getD 0)) 0

/-- A channel that a transfer of `n` bytes takes first uses its reserved unit of 4 KiB and beyond it draws on the shared pool, a partition
at most 64 units at once (10 R379; log entry 142). -/
def drawUnits (s : State) (c n : Nat) (part : Option Nat) : State :=
  let room := match part with
    | some p => min (poolFree s) (64 - sharedOf s p)
    | none => poolFree s
  s.withChan c (fun x => { x with shared := min (ceilDiv n 4096 - 1) room })

/-- CHANNEL_GRANT (10 R382): a free data-class channel is lent to the next partition in turn that asks for one, up to
dma.partition.channels; the reads that it is to make are issued (03 R131). -/
def execChannelGrant (s : State) : Out :=
  let ps := (((s.jobs.filter (fun e => e.2.chan.isNone && decide (0 < wantsRead s e.2 + wantsWrite e.2))).map (fun e =>
    e.2.part)).dedup.filter (fun p => decide (chansOf s p < s.gv gDmaPartitionChannels))).mergeSort (fun a b => decide (a ≤ b))
  if s.link.state ≠ .l0 ∨ 4096 ≤ outstanding s then .next s
  else match freeChannel s, afterCyc ps s.dma.lastPart with
  | some c, some p =>
    match (wantsChannel s p).head? with
    | some id =>
      let n := wantsRead s (s.job id)
      let s1 := drawUnits (s.withDma (fun d => { d with lastPart := p })) c (n + wantsWrite (s.job id)) (some p)
      .next ((if n = 0 then s1 else issueRead s1 id p n).withJob id (fun j => { j with chan := some c }))
    | none => .next s
  | _, _ => .next s

end Sys2Proof.Machine
end

