-- ==== Sys2Proof/Machine/Squads.lean ====
section
/-! DEFINITION. Dispatch to squads: the deficit round robin, placement, gangs and slices, ownership wipes and key loads
(04 R180, R181, R187 to R190; 06 R247 to R255, R262, R846; 09 R346). -/

namespace Sys2Proof.Machine

open Sys2Proof

/-! ### Ready jobs -/

/-- A job of the ring that is bound for a squad stands before this one in staging, or a descriptor is being fetched again
(04 R181). -/
def earlierSquad (s : State) (j : Job) : Bool :=
  s.jobs.any (fun e => e.2.part == j.part && e.2.ring == j.ring && decide (e.2.n < j.n) && e.2.inStaging && isSquadOp e.2.d.opcode)
    || (fetching s j.part j.ring).any (fun n => decide (n < j.n))

/-- A job is ready for a new dispatch unit: staged in order, or parked between two slices (04 R180, R181, 06 R255). -/
def isReady (s : State) (j : Job) : Bool :=
  j.phase == .ready && isSquadOp j.d.opcode && !j.again && (j.order != 0 || (!orderBlocked s j && !earlierSquad s j))

/-- The ready job of a partition that goes first. -/
def readyJob (s : State) (p : Nat) : Option Nat := (s.jobsWith (fun j => j.part == p && isReady s j)).head?

/-- Partitions with ready jobs, rising. -/
def readyParts (s : State) : List Nat :=
  (((s.jobs.filter (fun e => isReady s e.2)).map (fun e => e.2.part)).dedup).mergeSort (fun a b => decide (a ≤ b))

/-- The job to be dispatched again that goes next: the first in the order of first dispatch, over all partitions (06 R846; log entry 143). -/
def againJob (s : State) : Option Nat :=
  (s.jobs.filter (fun e => e.2.again && e.2.phase == .ready)).foldl (fun acc e =>
    match acc with
    | none => some e.1
    | some i => if e.2.order < (s.job i).order then some e.1 else acc) none

/-! ### Placement (04 R190, 06 R247 to R252) -/

/-- A squad admits jobs: it serves, and no gang has reserved it. -/
def admits (x : Squad) : Bool := x.mode == 0 && x.tableOk && x.gang.isNone

/-- Nominal lane-cycles that a squad's residents hold, each those of its job or slice: those with the least finish first (06 R252). -/
def squadLoad (s : State) (q : Nat) : Nat :=
  (s.squad q).slots.foldl (fun a e => a + unitCost s (s.job e.2).d (s.job e.2).slices) 0

/-- The dispatcher withholds one resident slot of the squad for its patrol: it has had residents for half a patrol period, and 20 µs have
not passed since; then the next half period runs (06 R259; log entry 154). -/
def withheld (s : State) (q : Nat) : Bool :=
  let x := s.squad q
  let half := msTicks x.period / 2
  match x.busyAt with
  | none => false
  | some t => decide (half ≤ (s.now - t) % (half + 8000))

/-- Resident slots that the squad offers (06 R240, R259). -/
def slotsOffered (s : State) (q : Nat) : Nat := if withheld s q then 15 else 16

/-- The squad has been asked to strike, and admits no more (18 Table 7). -/
def askedToStrike (s : State) (q : Nat) : Bool :=
  match s.mode.trans with
  | some t => t.strike && t.islands.contains (sqIsl q)
  | none => false

/-- The preference of a squad with a free resident slot for a job of a partition (04 R190): 1 it holds the partition's jobs, 2 it is idle,
3 its residents, of another partition, are about to finish (log entry 144); 0 it cannot take the job. A job that moves goes to another
squad when one serves (06 Table 3). -/
def seat (s : State) (p q : Nat) (avoid : Option Nat) : Nat :=
  let x := s.squad q
  let others := (List.range 32).any (fun k => some k != avoid && (s.squad k).mode == 0)
  if 32 ≤ q ∨ (others ∧ some q = avoid) ∨ !admits x ∨ askedToStrike s q ∨ slotsOffered s q ≤ x.slots.length then 0
  else if x.slots.isEmpty then 2
  else if x.owner = p then 1
  else if squadLoad s q ≤ Config.nearEnd then 3
  else 0

/-- The squad may take a job of the partition: no squad stands before it in the preference of 04 R190. -/
def squadOk (s : State) (p q : Nat) (avoid : Option Nat) : Bool :=
  seat s p q avoid != 0 && (List.range 32).all (fun k => seat s p k avoid == 0 || decide (seat s p q avoid ≤ seat s p k avoid))

/-- An ownership wipe (06 R262): scratch, lane registers, QN, data registers and data memory. -/
def ownershipWipe (s : State) (q : Nat) : State :=
  (clearSquad s q).bump gLaneWipeOwner

/-- A squad made ready for a partition: wiped when its last resident was another partition's (06 R248, R262). -/
def ownSquad (s : State) (q p : Nat) : State :=
  let x := s.squad q
  let s1 := if x.slots.isEmpty && x.owned && x.owner != p then ownershipWipe s q else s
  s1.withSquad q (fun x => { x with owner := p, owned := true })

/-- The lowest free slot below `n` of a table of slots. -/
def freeSlotIn (t : Tab Nat) (n : Nat) : Option Nat := (List.range n).find? (fun c => (t.find c).isNone)

/-- A job leaves staging for its first dispatch (04 R146, 06 R846). -/
def firstDispatch (s : State) (id : Nat) : State :=
  let j := s.job id
  if j.order ≠ 0 then s.withJob id (fun j => { j with again := false })
  else
    let n := s.lanes.dispatched + 1
    ((toEngine s id).withLanes (fun l => { l with dispatched := n })).withJob id (fun j => { j with order := n })

/-- A park slot reserved for a job that takes one (06 R250, R255); none when all 256 are held. -/
def reservePark (s : State) (id : Nat) : Option State :=
  let j := s.job id
  if !takesPark s j.d || j.parkSlot.isSome then some s
  else match freeSlotIn s.lanes.park 256 with
    | none => none
    | some k => some ((s.withLanes (fun l => { l with park := l.park.set k id })).withJob id (fun j => { j with parkSlot := some k }))

/-- The squads that a gang reserves, all of one image, of which most squads run (06 R251, R252, 18 R684); none when too few can be
reserved. -/
def gangSquads (s : State) (j : Job) : Option (List Nat) :=
  let all := (List.range 32).filter (fun q => (s.squad q).mode == 0 && (s.squad q).tableOk)
  let of (k : Nat) : List Nat := all.filter (fun q => Tab.get (s.gv gFlashSlotRunning) s.verb.prog (12 + q) == k)
  let up := [1, 2].foldl (fun l k => if l.length < (of k).length then of k else l) (of 0)
  let free := up.filter (fun q => (s.squad q).gang.isNone && !askedToStrike s q)
  let g := min (gangSize s j.d) up.length
  let pref := free.filter (fun q => some q != j.avoid)
  let l := if g ≤ pref.length then pref else free
  if g = 0 ∨ l.length < g then none
  else some ((l.mergeSort (fun a b => decide (squadLoad s a < squadLoad s b ∨ (squadLoad s a = squadLoad s b ∧ a ≤ b)))).take g)

/-! ### Key loads of squad jobs (09 R346, R350; 07 Table 8, 08 Table 6) -/

/-- What the key load of an opcode of 0x02xx to 0x04xx asks for; a modulus of 1,024 bits fits no RSA_ENCRYPT_OAEP (07 R282). -/
def squadAsk (s : State) (d : Desc) : LoadAsk :=
  let n := keyNeeds d.opcode
  { classes := if d.opcode = 0x0207 ∧ (s.kslot (d.handle % 2097152)).keyBytes = 128 then [0xFFF] else n.1, usage := n.2 }

/-- A job that fails its key load: checks 1 to 3 of the validation tables count V(op, L); the others count nothing (07 R306, 08 R336, 11
Table 2). -/
def failLoad (s : State) (id c : Nat) : State :=
  if c = 0x4011 then
    let (n, s1) := s.drawNat
    finishWith s1 id c [] 2 (32 * classV s (s.job id) n) 0
  else if c = 0x4012 ∨ c = 0x4003 then finishWith s id c [] 2 (32 * jobV s (s.job id)) 0
  else finishWith s id c [] 6 0 0

/-- The key of a squad job loaded, if it takes one and has not: the job runs, ends, or is held (09 R346, R364). -/
def loadForSquad (s : State) (id : Nat) : State :=
  let j := s.job id
  if !slotKeyed j.d || !j.keys.isEmpty then s.withJob id (fun j => { j with phase := .running })
  else
    let (c, s1) := tryLoad s id j.d.handle (squadAsk s j.d)
    if c = 0 then s1.withJob id (fun j => { j with phase := .running })
    else if c < 0x10000 then failLoad s1 id c
    else holdJob s1 id c

/-! ### Dispatch (04 R187, R188) -/

/-- The contexts of a job: its resident slots, in the order of its squads. -/
def contextsOf (s : State) (id : Nat) : List Nat :=
  (s.job id).squads.flatMap (fun q => (((s.squad q).slots.filter (fun e => e.2 == id)).map (fun e => ctxUnit q e.1)))

/-- The live values of a context: its registers and its resident slot of scratch (06 R255, R256). -/
def liveImage (s : State) (u : Nat) : LaneImage := ⟨(s.unit u).r, slotCells s ((u - 12) / 16) ((u - 12) % 16)⟩

/-- Live values put back into a context. -/
def putImage (s : State) (u : Nat) (i : LaneImage) : State :=
  let a := slotAddr ((u - 12) / 16) ((u - 12) % 16)
  let m := i.scratch.foldl (fun m e => Mem.write 0 m (a + e.1 % 0x20000) [e.2]) (s.mem.clear a 0x20000)
  ({ s with mem := m } : State).withUnit u (fun x => { x with r := i.r })

/-- The live values of a job's contexts become its checkpoint (06 R256). -/
def checkpoint (s : State) (id : Nat) : State :=
  (contextsOf s id).foldl (fun s u => s.withUnit u (fun x => { x with ckpt := some (liveImage s u) })) s

/-- The contexts that take a job take its partition as their tag (15 R575). -/
def tagContexts (s : State) (id : Nat) : State :=
  (contextsOf s id).foldl (fun s u => s.withUnit u (fun x => { x with tag := (s.job id).part })) s

/-- A job goes on on its gang or squad from its last yield; its park slot's image is wiped (06 R255). The values of the yield are
kept, for R261 resumes a gang from them (log entry 35). A gang's registers stand whole in its first context, so that a gang that
resumes on fewer squads loses nothing of them (R251; log entry 155). -/
def unpark (s : State) (id : Nat) : State :=
  match (s.job id).parkSlot with
  | none => s
  | some k =>
    let s1 := ((contextsOf s id).zip (s.lanes.images.get [] k)).foldl (fun s e => putImage s e.1 e.2) s
    (s1.withLanes (fun l => { l with parked := l.parked.filter (fun n => n != k) })).withJob id (fun j => { j with parked := false })

/-- A job parks at a yield: the live values of its contexts go to its park slot, and it waits for its next slice; the yield is a checkpoint
(06 R254 to R256). -/
def parkJob (s : State) (id k : Nat) : State :=
  let img := (contextsOf s id).map (liveImage s)
  let s1 := s.withLanes (fun l => { l with images := Tab.set l.images k img, parked := addUnique k l.parked })
  (leaveSquads s1 id).withJob id (fun j => { j with phase := .ready, slices := j.slices + 1, parked := true, monts := 0, ckptAt := 0 })

/-- The operands of a job are in the module: staged, read at dispatch, or none (04 R179, 10 R401). -/
def operandsHeld (j : Job) : Bool := decide (operandBytes j.d ≤ 2048) || j.opa.length + j.opb.length == operandBytes j.d

/-- A job that has taken its squads starts: it loads its key, once its operands are read (10 R401; log entry 145). -/
def seatJob (s : State) (id : Nat) : State :=
  if operandsHeld (s.job id) then loadForSquad s id else s.withJob id (fun j => { j with phase := .fetching })

/-- A job put on one squad. -/
def putOnSquad (s : State) (id q : Nat) : State :=
  let s1 := ownSquad (firstDispatch s id) q (s.job id).part
  match freeSlotIn (s1.squad q).slots 16 with
  | none => s
  | some c =>
    let s2 := (s1.withSquad q (fun x => { x with slots := x.slots.set c id, busyAt := some (x.busyAt.getD s.now) })).withJob id (fun j =>
      { j with squads := [q], monts := 0, ckptAt := 0 })
    seatJob (checkpoint (unpark (tagContexts s2 id) id) id) id

/-- Squads reserved: a gang's, or the one whose residents are about to finish (06 R252, 04 R190). -/
def reserveGang (s : State) (id : Nat) (l : List Nat) : State :=
  (l.foldl (fun s q => s.withSquad q (fun x => { x with gang := some id })) (firstDispatch s id)).withJob id (fun j =>
    { j with squads := l, phase := .reserving })

/-- A job placed on the named squad, or its squads reserved; none when it has to wait (04 R188). -/
def place (s : State) (id squad : Nat) : Option State :=
  let j := s.job id
  if isGang s j.d then
    match gangSquads s j, reservePark s id with
    | some l, some s2 => some (reserveGang s2 id l)
    | _, _ => none
  else if squadOk s j.part squad j.avoid then (reservePark s id).map (fun s2 =>
    if seat s j.part squad j.avoid = 3 then reserveGang s2 id [squad] else putOnSquad s2 id squad)
  else none

/-- A squad slot for the job exists (04 R187). -/
def canPlace (s : State) (id : Nat) : Bool := (List.range 32).any (fun q => (place s id q).isSome)

/-- The quantum of a partition (04 R187). -/
def quantum (s : State) (p : Nat) : Int := (s.gvs gPartitionWeight p * 65536 : Nat)

/-- Visits that a partition needs before its deficit is positive. -/
def visits (s : State) (p : Nat) : Nat :=
  let d := s.disp.deficit.get 0 p
  if 0 < d then 1 else ((-d) / quantum s p).toNat + 1

/-- The partitions in the order of their visits: rising from the one after the last visited, cyclically. -/
def visitOrder (l : List Nat) (cur : Nat) : List Nat := l.filter (fun p => decide (cur < p)) ++ l.filter (fun p => decide (p ≤ cur))

/-- Deficits after the visits that lead to the winner: those before it in the order are visited as often as it is, the others
once less. -/
def addVisits (s : State) (n : Nat) : List Nat → Nat → Tab Int → Tab Int
  | [], _, t => t
  | p :: l, w, t =>
    let t1 := t.set p (t.get 0 p + quantum s p * n)
    if p = w then l.foldl (fun t k => t.set k (t.get 0 k + quantum s k * (n - 1 : Nat))) t1 else addVisits s n l w t1

/-- The partition that the round robin serves now, and the state after its visits (04 R187): one whose ready job finds no squad slot is
passed by; with no slot for any, the dispatcher waits and keeps its position (R188). -/
def grant (s : State) : Option (Nat × State) :=
  let l := readyParts s
  let d := s.disp
  let kept : Tab Int := d.deficit.filter (fun e => l.contains e.1)
  let able := l.filter (fun p => match readyJob s p with | some id => canPlace s id | none => false)
  if d.granted && able.contains d.cur && decide (0 < d.deficit.get 0 d.cur) then some (d.cur, s)
  else
    let s1 : State := { s with disp := { d with deficit := kept, granted := false } }
    let o := visitOrder l d.cur
    let n := able.foldl (fun a p => min a (visits s1 p)) (visits s1 (able.headD 0))
    match o.find? (fun p => able.contains p && visits s1 p == n) with
    | none => none
    | some w => some (w, { s1 with disp := { s1.disp with deficit := addVisits s1 n o w kept, cur := w, granted := true } })

/-- A dispatch charged to its partition (04 R187, R188). -/
def chargeDispatch (s : State) (p cost : Nat) : State :=
  let d := max (s.disp.deficit.get 0 p - cost) (-(dMax : Int))
  if (readyJob s p).isNone then { s with disp := { s.disp with deficit := s.disp.deficit.erase p, granted := false } }
  else { s with disp := { s.disp with deficit := s.disp.deficit.set p d, granted := decide (0 < d) } }

/-- DISPATCH (04 R187, 06 R846): jobs dispatched again first, then the partition that the round robin serves; `squad` is the
choice that 04 R190 leaves, the other operands have no effect. -/
def execDispatch (squad : Nat) (_opa _opb : Bytes) (s : State) : Out :=
  if !s.serving then .next s
  else match againJob s with
    | some id => .next ((place s id squad).getD s)
    | none =>
      match grant s with
      | none => .next s
      | some (p, s1) =>
        match readyJob s1 p with
        | none => .next s
        | some id =>
          match place s1 id squad with
          | none => .next s
          | some s2 => .next (chargeDispatch s2 p (unitCost s (s.job id).d (s.job id).slices))

/-- GANG_SLICE_START (06 R252, R255): the reserved squads are empty; they are wiped where another partition held them. -/
def execGangSliceStart (job : Nat) (s : State) : Out :=
  let j := s.job job
  if j.phase = .reserving ∧ j.squads.all (fun q => (s.squad q).slots.isEmpty) then
    let s1 := j.squads.foldl (fun s q => (ownSquad s q j.part).withSquad q (fun x =>
      { x with slots := x.slots.set 0 job, busyAt := some s.now })) s
    .next (seatJob (checkpoint ((unpark (tagContexts s1 job) job).withJob job (fun j => { j with monts := 0, ckptAt := 0 })) job) job)
  else .next s

/-- STAGING_READ_DONE (04 R179, 10 R401): a job's operands stand in its slot, or on its squad, where it now loads its key; the channel
returns. -/
def execStagingReadDone (job : Nat) (opa opb : Bytes) (s : State) : Out :=
  let j := s.job job
  let u := lenUnit j.d.opcode
  if j.chan.isSome ∧ s.link.state = .l0 ∧ opa.length = j.d.opaLen * u ∧ opb.length = j.d.opbLen * u then
    let s1 := returnChannel (s.withJob job (fun j => { j with opa := opa, opb := opb })) job
    if j.phase = .staged ∧ !orderBlocked s j then .next (s1.withJob job (fun j => { j with phase := .ready }))
    else if j.phase = .fetching then .next (loadForSquad s1 job)
    else .next s
  else .next s

end Sys2Proof.Machine
end

