-- ==== Sys2Proof/Machine/Access.lean ====
section
/-! DEFINITION. Sessions, replies and the access checks of the Glossary (22 R763 to R767, R772, R781, R785). -/

namespace Sys2Proof.Machine

open Sys2Proof

/-! ### Entries -/

/-- The Glossary row of an address (22 R763). -/
def glossRow (key : Nat) : Option GRow := glossRows.find? (fun r => r.key == key)

/-- Size in bytes of a type (00 Table 3). -/
def GTy.size : GTy → Nat
  | .bool => 1 | .u8 => 1 | .u16 => 2 | .u32 => 4 | .u64 => 8 | .i32 => 4 | .i64 => 8 | .q1616 => 4 | .q3232 => 8
  | .q9632 => 16 | .time64 => 8 | .octets n => n | .text n => n | .record => 1

/-- TYPE codes of DESCRIBE (22 R787). -/
def GTy.code : GTy → Nat
  | .bool => 1 | .u8 => 2 | .u16 => 3 | .u32 => 4 | .u64 => 5 | .i32 => 6 | .i64 => 7 | .q1616 => 8 | .q3232 => 9
  | .q9632 => 10 | .time64 => 11 | .octets _ => 12 | .text _ => 13 | .record => 14

/-- ACCESS codes of DESCRIBE (22 R787). -/
def GAcc.code : GAcc → Nat
  | .const => 1 | .ro => 2 | .rw => 3 | .wo => 4 | .w1c => 5 | .rwp => 6 | .dual => 7

/-- The entry is a number or a BOOL, not a string of octets. -/
def GTy.isNum : GTy → Bool
  | .octets _ => false
  | .text _ => false
  | _ => true

/-! ### Sessions -/

/-- A session's record: the mailbox's, or a GAP session's. -/
def State.sess (s : State) : SessId → Sess
  | .mailbox => s.mgmt.mbox
  | .gap n => s.mgmt.gap.get { opened := false, role := 0 } n

/-- A session's record changed. -/
def State.withSess (s : State) (x : SessId) (f : Sess → Sess) : State :=
  match x with
  | .mailbox => s.withMgmt (fun m => { m with mbox := f m.mbox })
  | .gap n => s.withMgmt (fun m => { m with gap := m.gap.upd { opened := false, role := 0 } n f })

/-- Role rights: Reader, Operator, Officer are ordered; the Custodian holds Reader rights; 0 asks for nothing
(00 R14, 22 Table 2). -/
def roleReaches (role need : Nat) : Bool := need == 0 || (if role = 4 then decide (need ≤ 1) else decide (need ≤ role))

/-- The default of an entry by its address. -/
def glossDefault (key : Nat) : Nat := ((glossRow key).map (fun r => r.dflt)).getD 0

/-- The value that a session's selector entry holds (22 R764). -/
def Sess.selVal (x : Sess) (selKey : Nat) : Nat := x.sel.get (glossDefault selKey) selKey

/-- The selector value under which a session sees an entry; 0 where it has none (22 R764). -/
def selFor (x : Sess) (r : GRow) : Nat := if r.sel = 0 then 0 else x.selVal r.sel

/-- SEL_A and SEL_B of a countersign record (22 R790). -/
def selPair (x : Sess) (r : GRow) : Nat × Nat :=
  (if r.sel = 0 then 0xFFFF else x.selVal r.sel, if r.key / 256 = 0x4110 then x.selVal 0x410200 else 0xFFFF)

/-- A selector entry: RW and kept per session (22 R764, 21 Table 6, 24 Table 8). -/
def isSelector (key : Nat) : Bool :=
  [0x210100, 0x220100, 0x300100, 0x330100, 0x350100, 0x120100, 0x410100, 0x410200, 0x500100, 0x522100, 0x524100,
   0x510009, 0x51000A, 0x541004, 0x541006].contains key

/-! ### Replies -/

/-- A reply sent: on the mailbox into the response area with BUSY cleared, DONE set and vector 1; over GAP as a protected
frame, kept among the session's last 16 replies (22 R772, R781, R785). -/
def reply (s : State) (x : SessId) (msg : Nat) (req : BitVec 16) (body : Bytes) : State :=
  let m := message msg req.toNat body
  match x with
  | .mailbox => (s.withMgmt (fun g => { g with
      respArea := m, busy := false, done := true, reqId := req.toNat,
      mbox := { g.mbox with lastAt := s.now } })).msix 0 1
  | .gap _ => s.withSess x (fun z => { z with
      replies := (z.replies ++ [(req.toNat, m)]).drop (z.replies.length + 1 - 16), sent := z.sent ++ [m],
      seqOut := z.seqOut + 1, framesOut := z.framesOut + 1, lastAt := s.now })

/-- A reply that carries a status and, when it is OK or EMPTY, further fields (22 R781). -/
def replyStatus (s : State) (x : SessId) (msg : Nat) (req : BitVec 16) (st : Nat) (rest : Bytes) : State :=
  reply s x (msg + 0x80) req (toLE 2 st ++ (if st ≤ 1 then rest else []))

/-- Whether a message of a session is served now: the mailbox while BUSY, a GAP session while open (22 R772, R780). -/
def canServe (s : State) (x : SessId) : Bool :=
  match x with
  | .mailbox => s.mgmt.busy && s.mainUp
  | .gap _ => (s.sess x).opened && s.hostSupply && s.gv gMgmtEnable == 1

/-- A message served: a repeat of one of the last 16 replies is answered with the stored reply; any other is executed
(22 R772, R785). -/
def onMsg (s : State) (x : SessId) (req : BitVec 16) (f : State → State) : Out :=
  if !canServe s x then .next s
  else match (s.sess x).replies.find? (fun p => p.1 == req.toNat) with
    | some (_, m) => .next (s.withSess x (fun z => { z with
        sent := z.sent ++ [m], seqOut := z.seqOut + 1, framesOut := z.framesOut + 1, lastAt := s.now }))
    | none => .next (f s)

/-! ### Access checks (22 Table 2) -/

/-- The credential entries act as RW entries of the mailbox in ENROL (22 R769). -/
def credKeys (key : Nat) : Bool := key == 0x525001 || key == 0x525002 || key == 0x525003

/-- The lifecycle is ENROL (19 Table 7). -/
def State.inEnrol (s : State) : Bool := s.gv gLifeState == 0x3CC

/-- The write role of an entry for a session (22 Table 2 check 2, R769). -/
def writeRole (s : State) (x : SessId) (r : GRow) : Nat :=
  if credKeys r.key && s.inEnrol && x == .mailbox then 2 else r.wr

/-- The entry takes its write at once, as RW (22 R769). -/
def directCred (s : State) (x : SessId) (key : Nat) : Bool := credKeys key && s.inEnrol && x == .mailbox

/-- The island behind an RW entry; 0xFFF for one that is never struck while sessions are served (18 R661). -/
def entryIsland (key : Nat) : Nat := if key = 0x110005 then 229 else 0xFFF

/-- The value lies in the entry's Range for a value of its selector (00 R13). -/
def inRangeAt (sel : Nat) (r : GRow) (v : Bytes) : Bool :=
  let n := leNat v
  let base := match r.ty with
    | .bool => decide (n ≤ 1) && (r.ranges.isEmpty || r.ranges.any (fun p => decide (p.1 ≤ n ∧ n ≤ p.2)))
    | .octets _ => true
    | .text _ => true
    | _ => r.ranges.isEmpty || r.ranges.any (fun p => decide (p.1 ≤ n ∧ n ≤ p.2))
  let special :=
    if r.key = 0x541004 then n % 256 == 0
    else if r.key = 0x501002 then !([7, 8, 9, 10, 11, 12, 15].contains sel) || n == 1
    else if r.key = 0x501004 then sel != 17 && decide (monFloor sel ≤ n)
    else true
  base && special

/-- The value lies in the entry's Range as the session sees it. -/
def inRange (x : Sess) (r : GRow) (v : Bytes) : Bool := inRangeAt (selFor x r) r v

/-- Checks 1 to 3 of a read (22 Table 2). -/
def readCheck (s : State) (x : SessId) (key : Nat) : Nat :=
  match glossRow key with
  | none => 0x7021
  | some r => if roleReaches (s.sess x).role r.rd then 0 else 0x7020

/-- Checks 1 to 8 of a write (22 Table 2); `cond` says that the conditions of the entry's chapter hold, `busy` that the
unit behind it is busy. -/
def writeCheck (s : State) (x : SessId) (key : Nat) (v : Bytes) (cond busy : Bool) : Nat :=
  match glossRow key with
  | none => 0x7021
  | some r =>
    let z := s.sess x
    if !roleReaches z.role (writeRole s x r) then 0x7020
    else if r.acc == .const || r.acc == .ro || !cond then 0x7023
    else if r.acc == .rw && entryIsland key != 0xFFF && s.isl (entryIsland key) == 2 then 0x7010
    else if v.length ≠ r.ty.size then 0x7022
    else if !inRange z r v then 0x7022
    else if busy then 0x7024
    else if r.acc == .rwp && (match s.mgmt.rwpAt.find (key * 65536 + selFor z r) with
        | some t => decide (s.now < t + usTicks 10)
        | none => false) then 0x7024
    else if r.acc == .dual && !directCred s x key && decide (64 ≤ z.draft.length)
        && !(z.draft.any (fun d => d.idx == key / 256 && d.sub == key % 256 && (d.selA, d.selB) == selPair z r)) then 0x7004
    else 0

/-- The reply to a READ of a value: with LENGTH zero, or OFFSET at or beyond its size, EMPTY and TOTAL; else TOTAL and the bytes from
OFFSET (22 R788). -/
def replyRead (s : State) (x : SessId) (req : BitVec 16) (v : Bytes) (off len : Nat) : State :=
  if len = 0 ∨ v.length ≤ off then replyStatus s x 0x10 req 1 (toLE 4 v.length)
  else replyStatus s x 0x10 req 0 (toLE 4 v.length ++ (v.drop off).take len)

/-- A refusal under check 2 or 3 is counted, and one under R767 as well (22 Table 13). -/
def countRefusal (s : State) (st : Nat) (rwp : Bool) : State :=
  if st = 0x7020 ∨ st = 0x7023 then s.bump gGlsDenied
  else if st = 0x7024 ∧ rwp then s.bump gGlsRwpBusy
  else s

/-- A write of a session to an entry that acts once: the checks, then the effect, then the reply (22 R765). -/
def actWrite (s : State) (x : SessId) (req : BitVec 16) (key : Nat) (v : Bytes) (cond busy : Bool)
    (f : State → State) : Out :=
  onMsg s x req (fun s =>
    let st := writeCheck s x key v cond busy
    if st ≠ 0 then replyStatus (countRefusal s st false) x 0x11 req st []
    else replyStatus (f s) x 0x11 req 0 [])

end Sys2Proof.Machine
end

