-- ==== Sys2Proof/Machine/Image.lean ====
section
/-! DEFINITION. Image slots: header fields, validity and the choice of the image that runs (16 R597 to R599). -/

namespace Sys2Proof.Machine

open Sys2Proof

/-- Header bytes 0x000 to 0x07F of slot A, slot B or the recovery image (2), which was written at MANUFACTURE (16 Tables 2 and 3). -/
def imageHeader (s : State) (slot : Nat) : Bytes :=
  if slot ≤ 1 then Mem.read 0xFF s.codeFlash (slot * 0x1000000) 0x80 else fit 0x80 Config.recoveryHeader

/-- A little-endian field of a header. -/
def hdrField (h : Bytes) (off n : Nat) : Nat := leNat ((h.drop off).take n)

def svnOf (h : Bytes) : Nat := hdrField h 0x008 4
def buildOf (h : Bytes) : Nat := hdrField h 0x00C 4
def digestOf (h : Bytes) : Bytes := (h.drop 0x020).take 48

/-- The header meets Table 3 (16): MAGIC, FORMAT, LENGTH in range, reserved bytes zero, those behind the signatures included. -/
def headerOk (s : State) (slot : Nat) (h : Bytes) : Bool :=
  let len := hdrField h 0x010 4
  hdrField h 0 4 == 0x4D495A56 && hdrField h 4 2 == 1 && hdrField h 6 2 == 0 && len % 4096 == 0 &&
    decide (0x201000 ≤ len ∧ len ≤ 0x1000000) && hdrField h 0x014 12 == 0 && hdrField h 0x050 48 == 0 &&
    Mem.read 0xFF s.codeFlash (slot * 0x1000000 + 0xDCD) 563 == zeros 563

/-- No sector of the slot is ERASING, SUSPENDED or TORN. -/
def slotWhole (s : State) (slot : Nat) : Bool :=
  s.code.sectors.all (fun e => !(decide (slot * 4096 ≤ e.1 ∧ e.1 < slot * 4096 + 4096)) || decide (e.2.state < 2))

/-- A slot is valid (16 R598); the recovery image is as MANUFACTURE left it. -/
def slotValid (s : State) (slot : Nat) : Bool :=
  if 2 ≤ slot then Config.recoveryValid
  else
    let h := imageHeader s slot
    let base := slot * 0x1000000
    headerOk s slot h && slotWhole s slot &&
      digestOf h == fit 48 (Config.sha384 (Mem.read 0xFF s.codeFlash (base + 0x1000) (hdrField h 0x010 4 - 0x1000))) &&
      Config.ecdsaVerify 2 Config.imageKeyEc (Config.sha384 h) (Mem.read 0xFF s.codeFlash (base + 0x080) 96) &&
      Config.mldsaVerify 65 Config.imageKeyMl (ascii "VZM7216 IMAGE") h (Mem.read 0xFF s.codeFlash (base + 0x0E0) 3309) &&
      decide (s.gv gFlashSvnFloor ≤ svnOf h)

/-- (SVN, BUILD) of one header is greater than that of another (16 R599). -/
def newerImage (h g : Bytes) : Bool := decide (svnOf g < svnOf h ∨ (svnOf h = svnOf g ∧ buildOf g < buildOf h))

/-- The image chosen at start-up; none when not even the recovery image is valid (16 R599, 19 R691). -/
def chooseImage (s : State) : Option Nat :=
  let a := slotValid s 0
  let b := slotValid s 1
  let ha := imageHeader s 0
  let hb := imageHeader s 1
  if a && b then some (if newerImage ha hb then 0 else if newerImage hb ha then 1 else if s.gv gFlashSlotRunning = 1 then 1 else 0)
  else if a then some 0
  else if b then some 1
  else if slotValid s 2 then some 2
  else none

/-- The alias key of an image, whose DIGEST and SVN `k` stands for: the scalar (T mod (n − 1)) + 1 of P-384, T read as a big-endian number
(19 R705; log entry 164). -/
def aliasKey (k : Nat) : Bytes :=
  toBE 48 (beNat (Config.kmac256 Config.dikSecret (ascii "VZM7216 ALIAS" ++ toLE 52 k) 56 (ascii "AL")) % (Config.orderN 2 - 1) + 1)

/-- The header of the image that runs. -/
def runningHeader (s : State) : Bytes := imageHeader s (s.gv gFlashSlotRunning)

end Sys2Proof.Machine
end

