-- ==== Sys2Proof/Machine/TagMem.lean ====
section
/-! DEFINITION. Tag memory: identity block, status block, counters that only rise, user area (24 R835 to R837). -/

namespace Sys2Proof.Machine

open Sys2Proof

def State.withTag (s : State) (f : Tag → Tag) : State := { s with tag := f s.tag }

/-! ### Counters (24 R837) -/

/-- One bit of CRC_A (ISO/IEC 14443-3): the reflected polynomial 0x8408. -/
def crcStep (c : BitVec 16) : BitVec 16 := if c.getLsbD 0 then (c >>> 1) ^^^ 0x8408 else c >>> 1

/-- CRC_A over octets, from 0x6363. -/
def crcA (bs : Bytes) : BitVec 16 :=
  bs.foldl (fun c b => crcStep (crcStep (crcStep (crcStep (crcStep (crcStep (crcStep (crcStep (c ^^^ b.setWidth 16))))))))) 0x6363

/-- A counter copy: CRC, NUMBER, VALUE (24 Table 7). -/
def copyWord (n v : Nat) : Nat :=
  let low := v % 2 ^ 32 + n * 2 ^ 32
  low + (crcA (toLE 6 low)).toNat * 2 ^ 48

/-- Copy `c` of counter `n`; at MANUFACTURE each is valid with count 0. -/
def tagCopy (s : State) (n c : Nat) : Nat := Tab.get (copyWord n 0) s.tag.copies (2 * n + c)

/-- A copy is valid. -/
def copyValid (n w : Nat) : Bool := w / 2 ^ 48 == (crcA (toLE 6 (w % 2 ^ 48))).toNat && bits w 47 32 == n

/-- read(n): the greater of the valid copies; saturated when neither is valid. Counters 2 to 7 read as zero. -/
def tagCount (s : State) (n : Nat) : Nat :=
  if 2 ≤ n ∧ n ≤ 7 then 0
  else
    let a := tagCopy s n 0
    let b := tagCopy s n 1
    if copyValid n a then (if copyValid n b then max (a % 2 ^ 32) (b % 2 ^ 32) else a % 2 ^ 32)
    else if copyValid n b then b % 2 ^ 32
    else 0xFFFFFFFF

/-- The copy that add(n, a) writes: the invalid one, else the one of lower value, copy 0 on equality. -/
def copyToWrite (s : State) (n : Nat) : Nat :=
  let a := tagCopy s n 0
  let b := tagCopy s n 1
  if !copyValid n a then 0 else if !copyValid n b then 1 else if b % 2 ^ 32 < a % 2 ^ 32 then 1 else 0

/-- add(n, a): refused when the sum passes 0xFFFF_FFFF. -/
def tagAdd (s : State) (n a : Nat) : Option State :=
  let v := tagCount s n
  if 0xFFFFFFFF < v + a then none
  else some (s.withTag (fun t => { t with copies := Tab.set t.copies (2 * n + copyToWrite s n) (copyWord n (v + a)) }))

/-- A write of a copy torn by a dying field: the copy fails its CRC, what it holds is free. -/
def tagTear (s : State) (n : Nat) : State :=
  let (f, s1) := s.drawNat
  let low := f % 2 ^ 48
  let crc := ((crcA (toLE 6 low)).toNat + 1 + f / 2 ^ 48 % 65535) % 65536
  s1.withTag (fun t => { t with copies := Tab.set t.copies (2 * n + copyToWrite s n) (low + crc * 2 ^ 48) })

/-- The SENTINEL transactions of the life budget are spent (24 R831). -/
def budgetSpent (s : State) : Bool := decide (2000 ≤ tagCount s 1)

/-! ### Blocks (24 Tables 4 to 6) -/

/-- The ordering code VZM-7216-E-Kn-Hm: 0, 2 or 4 custodian cards, with or without the harness (01 R41, Table 5). -/
def orderCode : Bytes :=
  let k := if Config.cardOption % 3 = 0 then "K0" else if Config.cardOption % 3 = 1 then "K2" else "K4"
  ascii ("VZM-7216-E-" ++ k ++ (if Config.harness then "-H1" else "-H0"))

/-- The identity block, written at MANUFACTURE (24 Table 5). -/
def identityBlock : Bytes :=
  fit 256 ([0x56, 0x5A, 0x49, 0x54] ++ toLE 2 1 ++ toLE 2 0x1F4E ++ toLE 2 0x7216 ++ zeros 6 ++ fit 16 Config.serial ++
    fit 24 orderCode ++ toLE 8 Config.madeAt ++ fit 48 (Config.sha384 Config.dikPublic))

/-- The status block as it stands now (24 Table 6). -/
def statusBlock (s : State) (mode : Nat) : Bytes :=
  fit 256 (toLE 2 (s.gv gLifeState) ++ toLE 1 mode ++ toLE 1 (s.gv gLifeRootHeld) ++ toLE 1 (s.gv gTamperLockdownCause) ++
    toLE 1 (s.gv gFlashSlotRunning) ++ toLE 2 (2000 - tagCount s 1) ++ toLE 4 s.clock.pcc ++ toLE 4 (svnOf (runningHeader s)) ++
    toLE 8 s.clock.otc ++ toLE 4 (s.gv gTamperAlertPending) ++ zeros 4 ++ toLE 8 s.clock.st)

/-- The status block rewritten, once no transaction holds tag memory (24 R836, R839). -/
def refreshTag (s : State) : State :=
  if s.tag.txn.isSome then s.withTag (fun t => { t with statusDue := true })
  else s.withTag (fun t => { t with status := statusBlock s s.modeNum, statusDue := false })

/-- One byte of tag memory (24 Table 4). -/
def tagByte (s : State) (a : Nat) : Byte :=
  if a < 0x100 then identityBlock.getD a 0
  else if a < 0x200 then s.tag.status.getD (a - 0x100) 0
  else if a < 0x300 then
    let n := (a - 0x200) / 16
    if 2 ≤ n ∧ n ≤ 7 then 0 else BitVec.ofNat 8 (tagCopy s n (a / 8 % 2) / 2 ^ (8 * (a % 8)))
  else if a < 0x400 then 0
  else Mem.get 0 s.tag.user a

def tagBytes (s : State) (a n : Nat) : Bytes := (List.range n).map (fun i => tagByte s (a + i))

end Sys2Proof.Machine
end

