-- ==== Sys2Proof/Machine/Modes.lean ====
section
/-! DEFINITION. The mode controller: entering modes, the hoist and strike handshake, LEAN, SERVICE (18). -/

namespace Sys2Proof.Machine

open Sys2Proof

/-! ### Units out of and back in service -/

/-- A job placed for dispatch again from its start, or a gang's from its last park image (06 R261, R846): its partition is not charged
again. Operands that it was still reading are read again. -/
def redispatch (s : State) (id : Nat) : State :=
  let j := s.job id
  if j.phase = .running ∨ j.phase = .reserving ∨ j.phase = .fetching ∨ (j.phase = .held ∧ !j.squads.isEmpty) then
    let s1 := leaveSquads (returnChannel s id) id
    if isGang s j.d then s1.withJob id (fun j => { j with phase := .ready, again := true, monts := 0, ckptAt := 0 })
    else (dropImage s1 id).withJob id (fun j => { j with phase := .ready, again := true, monts := 0, ckptAt := 0, slices := 0, batches := 0 })
  else s

/-- Jobs resident on a squad, or holding it as a gang. -/
def residents (s : State) (q : Nat) : List Nat := s.jobsWith (fun j => j.squads.contains q)

/-- A stream job that resumes on another engine from its committed state (10 R420, R421). -/
def unbind (s : State) (id : Nat) : State :=
  if (s.job id).phase = .streaming then s.withJob id (fun j => { j with phase := .waitEngine, engine := none }) else s

/-- Jobs on a stream engine. -/
def engineJobs (s : State) (e : Nat) : List Nat := s.jobsWith (fun j => j.engine == some e)

/-- A squad whose islands are struck; its residents are dispatched again (18 Table 7, R676). -/
def strikeSquad (s : State) (q : Nat) : State :=
  let s1 := (residents s q).foldl redispatch s
  let s2 := s1.withSquad q (fun x => { x with mode := 6, slots := [], gang := none, owned := false, busyAt := none })
  let l := [sqIsl q, sqIsl q + 1, sqIsl q + 2, sqIsl q + 3]
  l.foldl (fun s n => s.present n (.mark 4 n)) (strikeIsl s2 l)

/-- A stream engine struck; its jobs resume elsewhere (18 Table 7). -/
def strikeEngine (s : State) (e : Nat) : State :=
  let s1 := (engineJobs s e).foldl unbind s
  (strikeIsl s1 [strIsl e]).present (strIsl e) (.mark 4 (strIsl e))

/-- A squad lost: residents dispatched again, islands struck, its content gone, recorded (06 R261, 21 UNIT_LOST). -/
def loseSquad (s : State) (q cause : Nat) : State :=
  if (s.squad q).mode = 2 then s
  else
    let s1 := (residents s q).foldl redispatch s
    let s2 := (clearSquad s1 q).withSquad q (fun x => { x with mode := 2, slots := [], gang := none, owned := false, busyAt := none })
    let s3 := [sqIsl q, sqIsl q + 1, sqIsl q + 2, sqIsl q + 3].foldl (fun s n => (s.setIsl n 3).present n (.mark 4 n)) s2
    s3.event (sqIsl q) 0x0307 1 (toLE 1 (sqIsl q) ++ toLE 1 (Config.code 1 0) ++ toLE 1 (Config.code 2 cause))

/-- A stream engine lost (10 R421). -/
def loseEngine (s : State) (e cause : Nat) : State :=
  if s.isl (strIsl e) = 3 then s
  else (((engineJobs s e).foldl unbind s).setIsl (strIsl e) 3).event (strIsl e) 0x0307 1
    (toLE 1 (strIsl e) ++ toLE 1 (Config.code 1 1) ++ toLE 1 (Config.code 2 cause))

/-- Squads in service, rising (06 R238). -/
def squadsUp (s : State) : List Nat :=
  (List.range 32).filter (fun q => (s.squad q).mode != 2 && (s.squad q).mode != 6 && (s.squad q).tableOk)

/-- Stream engines in service, rising. -/
def enginesUp (s : State) : List Nat := (List.range 12).filter (fun e => decide (s.isl (strIsl e) ≤ 1))

/-- Islands that LEAN strikes: squads outside the 12 lowest in service and engines outside the 4 lowest (18 R676). -/
def leanIslands (s : State) : List Nat :=
  ((squadsUp s).drop 12).flatMap (fun q => [sqIsl q, sqIsl q + 1, sqIsl q + 2, sqIsl q + 3])
    ++ ((enginesUp s).drop 4).map strIsl

/-- The units of LEAN struck (18 R676). -/
def strikeLean (s : State) : State :=
  let sq := (squadsUp s).drop 12
  let en := (enginesUp s).drop 4
  let s1 := en.foldl strikeEngine (sq.foldl strikeSquad s)
  s1.withMode (fun m => { m with struckSquads := m.struckSquads ++ sq, struckEngines := m.struckEngines ++ en })

/-- The units that LEAN struck hoisted again (18 R679); a squad loads the image that the duty pair runs (18 R686). -/
def hoistLean (s : State) : State :=
  let s1 := s.mode.struckSquads.foldl (fun s q =>
    let l := [sqIsl q, sqIsl q + 1, sqIsl q + 2, sqIsl q + 3]
    let s2 := l.foldl (fun s n => s.present n (.mark 3 n)) (hoistIsl s l)
    (s2.withSquad q (fun x => if x.mode = 6 then { x with mode := 0 } else x)).withVerb (fun v => { v with
      prog := Tab.set v.prog (12 + q) (Tab.get (s.gv gFlashSlotRunning) v.prog v.duty), badWords := v.badWords.erase (12 + q) })) s
  let s3 := s1.mode.struckEngines.foldl (fun s e => (hoistIsl s [strIsl e]).present (strIsl e) (.mark 3 (strIsl e))) s1
  s3.withMode (fun m => { m with struckSquads := [], struckEngines := [] })

/-! ### Entering a mode (18 R659, R671, 03 R100, 22 R786) -/

/-- The mode changes: code, previous mode, count, stamp, record, vector 0 and notifications, the tag's status block; LOCKDOWN is
gathered by the open minute (11 Table 6, 24 R836). -/
def enterMode (s : State) (m : Nat) (forced : Bool) (cause : Nat) : State :=
  let old := s.modeNum
  let s1 := s.withMode (fun x => { x with code := modeCode m, phase := 0x5A5, previous := old, trans := none })
  let s2 := s1.bump gModeTransitions
  let s3 := (s2.present 229 (.mark 2 m)).event 229 0x0701 1
    (toLE 1 old ++ toLE 1 m ++ toLE 1 (b2n forced) ++ toLE 1 (Config.code 0 cause))
  let s4 := refreshTag ((s3.msix 0 0).notify (toLE 1 2 ++ toLE 1 m))
  if m = 6 then noteFlag s4 7 else s4

/-- The cap of 12 V power outside LEAN: lower when only a 6-pin plug is fitted (02 R70). -/
def fullCap (s : State) : Nat := if s.power.auxConn = .sixPin then 135 else 150

/-- The 60 W limit put in force or lifted: island clocks are throttled while it holds, and mode.power.cap shows what is enforced
(02 R71, 18 R677, R678; log entry 151). -/
def limit60 (s : State) (on : Bool) : State :=
  (setThrottle (s.withPower (fun p => { p with cap60 := on }))).gset gModePowerCap (if on then 60 else fullCap s)

/-- LEAN's power cap and cause in force (18 R676 to R678, 02 R71). -/
def leanOn (s : State) (cause : Nat) : State := limit60 ((strikeLean s).gset gModeLeanCause cause) true

/-- LEAN's restriction lifted (18 R679). -/
def leanOff (s : State) : State := limit60 ((hoistLean s).gset gModeLeanCause 0) false

/-- LEAN's restrictions are in force, in LEAN or within another mode (18 R678). -/
def State.isLean (s : State) : Bool := s.gv gModeLeanCause != 0

/-! ### Requested transitions (18 R664 to R672) -/

/-- A requested transition whose agents have all answered ACCEPT. -/
def completeTrans (s : State) (t : Transition) : State :=
  if t.target = 4 then enterMode (leanOn s t.cause) 4 false t.cause
  else if t.target = 3 then enterMode (leanOff s) 3 false t.cause
  else enterMode s t.target false t.cause

/-- A requested transition begun: requests go to every affected agent at once; with none affected it completes. -/
def beginTrans (s : State) (target cause : Nat) : State :=
  let isls := if target = 4 then (if s.isLean then [] else leanIslands s)
              else if target = 3 then s.mode.struckSquads.flatMap (fun q => [sqIsl q, sqIsl q + 1, sqIsl q + 2, sqIsl q + 3])
                ++ s.mode.struckEngines.map strIsl
              else []
  let t : Transition := { target := target, cause := cause, strike := target == 4, islands := isls, waiting := isls, askedAt := s.now }
  if isls.isEmpty then completeTrans s t
  else s.withMode (fun m => { m with phase := if t.strike then 0x59A else 0xA65, trans := some t })

/-- The operator's choice acted on when it can be (18 Table 8, R671). -/
def requestMode (s : State) (target : Nat) : State :=
  if target = 4 ∧ s.modeNum = 3 then beginTrans s 4 1
  else if target = 3 ∧ s.modeNum = 4 ∧ s.power.auxGood ∧ s.power.auxConn ≠ .absent then beginTrans s 3 0
  else s

/-- After a transition has ended, the request that waits is carried out (18 R671). -/
def takeWaiting (s : State) : State :=
  match s.mode.waiting, s.mode.trans with
  | some w, none => requestMode (s.withMode (fun m => { m with waiting := none })) w
  | _, _ => s

/-- A transition aborted: the mode stays, and RETREAT is over with the command (18 R667, R672; log entry 24). -/
def abortTrans (s : State) : State := s.withMode (fun m => { m with phase := 0x5A5, trans := none })

/-- An island declared lost under its chapter's rule (18 R667, 17 R634). -/
def loseIsland (s : State) (n cause : Nat) : State :=
  if n < 128 then loseSquad s (n / 4) cause
  else if n < 140 then loseEngine s (n - 128) cause
  else if s.isl n = 3 then s
  else ((if 151 ≤ n ∧ n ≤ 154 then emptyIntake s (n - 151) else s).setIsl n 3).event 197 0x0307 1 (toLE 1 n ++ toLE 1 (Config.code 1 4) ++ toLE 1 (Config.code 2 cause))

/-- A REFUSE counted (18 R668). -/
def countRefuse (s : State) (n reason : Nat) : State :=
  ((s.bumps gPowerIslandRefusals n).gsets gPowerIslandReason n reason).gset gModeRefusedLast (256 * reason + n)

/-- A REFUSE of a requested transition: recorded and aborted; with reason FAULT the island is lost and the transition is
repeated at once without it (18 R667). -/
def refuse (s : State) (t : Transition) (n reason : Nat) : State :=
  let s1 := (countRefuse s n reason).event 229 0x0702 1 (toLE 1 t.target ++ toLE 1 n ++ toLE 1 reason)
  if reason = 1 then
    let s2 := loseIsland (abortTrans s1) n 0
    let gone (k : Nat) : Bool := if n < 128 then k / 4 == n / 4 && decide (k < 128) else k == n
    let s3 := s2.withMode (fun m => { m with
      struckSquads := m.struckSquads.filter (fun q => !gone (sqIsl q)),
      struckEngines := m.struckEngines.filter (fun e => !gone (strIsl e)) })
    beginTrans s3 t.target t.cause
  else takeWaiting (abortTrans s1)

/-- AGENT_ANSWER (18 R664 to R668). -/
def execAgentAnswer (island : Nat) (ans : AgentReply) (s : State) : Out :=
  match s.mode.trans with
  | none => .next s
  | some t =>
    if !(t.waiting.contains island) then .next s
    else match ans with
      | .accept =>
        let t1 := { t with waiting := t.waiting.filter (fun k => k != island) }
        if t1.waiting.isEmpty && t1.delayed.isEmpty then .next (takeWaiting (completeTrans s t1))
        else .next (s.withMode (fun m => { m with trans := some t1 }))
      | .delay n =>
        let total := t.delays.get 0 island + n
        if n = 0 ∨ 255 < n then .next (refuse s t island 6)
        else if 255 < total then .next (refuse (s.bumps gPowerIslandDelays island) t island 7)
        else .next ((s.bumps gPowerIslandDelays island).withMode (fun m => { m with trans := some { t with
          waiting := t.waiting.filter (fun k => k != island), delayed := addUnique island t.delayed,
          delays := t.delays.set island total, asked := t.asked.set island (s.now + usTicks (10 * n)) } }))
      | .refuse reason => .next (refuse s t island reason)

/-- AGENT_TIMEOUT (18 R664): no answer within 20 µs is REFUSE with reason NO_ANSWER. -/
def execAgentTimeout (island : Nat) (s : State) : Out :=
  match s.mode.trans with
  | none => .next s
  | some t =>
    if t.waiting.contains island && decide (t.asked.get t.askedAt island + usTicks 20 ≤ s.now) then .next (refuse s t island 5) else .next s

/-- DELAY_EXPIRY (18 R664, R665): after n × 10 µs a delaying agent is asked again. -/
def execDelayExpiry (island : Nat) (s : State) : Out :=
  match s.mode.trans with
  | none => .next s
  | some t =>
    if t.delayed.contains island && decide (t.asked.get 0 island ≤ s.now) then
      .next (s.withMode (fun m => { m with trans := some { t with
        delayed := t.delayed.filter (fun k => k != island), waiting := t.waiting ++ [island], asked := t.asked.set island s.now } }))
    else .next s

/-- A request by the operator: begun, or kept as the latest one that waits, for a transition or for the end of CHANGEOVER or SERVICE (18
R671; log entry 163). -/
def askMode (s : State) (target : Nat) : State :=
  if s.mode.trans.isSome ∨ s.modeNum = 5 ∨ s.modeNum = 7 then s.withMode (fun m => { m with waiting := some target }) else requestMode s target

/-- MODE_TARGET (18 R671): a write of mode.target. -/
def execModeTarget (sess : SessId) (req : BitVec 16) (value : Bytes) (s : State) : Out :=
  actWrite s sess req 0x110005 value true false (fun s => askMode (s.gset gModeTarget (leNat value)) (leNat value))

/-- The mode SERVICE or CHANGEOVER returns to: the mode it left, or the one the module would otherwise hold
(18 Table 8, R678). -/
def modeBack (s : State) (left : Nat) : Nat :=
  if left = 6 ∨ !s.tamper.rootHeld then 6 else if s.isLean then 4 else 3

/-- SERVICE is left (18 R675). -/
def leaveService (s : State) : State :=
  let s1 := s.withMode (fun m => { m with serviceAt := none })
  takeWaiting (enterMode s1 (modeBack s s.mode.serviceLeft) false 2)

/-- SERVICE is entered (18 R675). -/
def enterService (s : State) : State :=
  enterMode (s.withMode (fun m => { m with serviceAt := some s.now, serviceLeft := s.modeNum })) 7 false 3

/-- SERVICE_END (18 R675): a write of mode.service.end by the Officer. -/
def execServiceEnd (sess : SessId) (req : BitVec 16) (value : Bytes) (s : State) : Out :=
  actWrite s sess req 0x11000A value (s.modeNum == 7) false (fun s => if s.modeNum = 7 then leaveService s else s)

/-- SERVICE_LIMIT_EXPIRY (18 R675). -/
def execServiceLimitExpiry (s : State) : Out :=
  match s.mode.serviceAt with
  | some t => if s.modeNum == 7 && decide (t + secTicks (s.gv gModeServiceLimit) ≤ s.now) then .next (leaveService s) else .next s
  | none => .next s

/-- AUX_POWER_LOSS (02 R71, 18 R678): draw is throttled to 60 W ahead of any handshake; SERVE is forced into LEAN; LOCKDOWN, SERVICE
and CHANGEOVER keep their mode under LEAN's rules. In LEAN by request mode.lean.cause shows 3 from here on (log entry 151). -/
def auxLost (s : State) : State :=
  let s0 := (abortTrans s).withPower (fun p => { p with auxGood := false })
  let s1 := if s.mainUp then limit60 s0 true else s0
  if s.modeNum = 3 then enterMode (leanOn s1 3) 4 true 4
  else if s.modeNum = 4 then s1.gset gModeLeanCause 3
  else if 5 ≤ s.modeNum then (if s1.isLean then s1.gset gModeLeanCause 3 else leanOn s1 3)
  else s1

def execAuxPowerLoss (s : State) : Out := .next (auxLost s)

/-- AUX_POWER_RETURN (02 R72): in range for 1 s, through a plug fitted meanwhile where there was none, the module leaves the LEAN it was
forced into when mode.target is 3; with mode.target 4 it goes on as a LEAN by request, whose cause is 1 (log entry 151). -/
def execAuxPowerReturn (s : State) : Out :=
  let s1 := s.withPower (fun p => { p with auxGood := true, auxConn := if p.auxConn = .absent then .eightPin else p.auxConn })
  if s.isLean ∧ s.gv gModeTarget ≠ 3 then .next (s1.gset gModeLeanCause 1)
  else if s.modeNum = 4 then .next (askMode s1 3)
  else if s.isLean then .next (leanOff s1)
  else .next (if s.mainUp then limit60 s1 false else s1)

end Sys2Proof.Machine
end

