-- ==== Sys2Proof/Machine/Guards.lean ====
section
/-! DEFINITION. Protection guards: the address map, regions, checks, staging and the epoch switch (15). -/

namespace Sys2Proof.Machine

open Sys2Proof

/-- Region slots of a guard (15 Table 1). -/
def guardSlots (g : Nat) : Nat := if g = 0 then 512 else 64

/-- Space size of a guard (15 Table 1). -/
def guardSpace : Nat → Nat
  | 0 => 2 ^ 34 | 1 => 2 ^ 26 | 2 => 2 ^ 22 | 3 => 2 ^ 28 | _ => 2 ^ 37

/-- Island of a guard. -/
def guardIsl (g : Nat) : Nat := if g ≤ 2 then 161 + g else 237

/-- Guard and offset of a module address (15 Table 2). -/
def spaceOf (a : Nat) : Option (Nat × Nat) :=
  if a < 2 ^ 34 then some (0, a)
  else if 0x001000000000 ≤ a ∧ a < 0x001000000000 + 2 ^ 26 then some (1, a - 0x001000000000)
  else if 0x001100000000 ≤ a ∧ a < 0x001100000000 + 2 ^ 22 then some (2, a - 0x001100000000)
  else if 0x001200000000 ≤ a ∧ a < 0x001200000000 + 2 ^ 28 then some (3, a - 0x001200000000)
  else if 0x002000000000 ≤ a ∧ a < 0x002000000000 + 2 ^ 37 then some (4, a - 0x002000000000)
  else none

/-- The module address of an offset in a guard's space (15 Table 2). -/
def moduleAddr (g off : Nat) : Nat :=
  (match g with | 0 => 0 | 1 => 0x001000000000 | 2 => 0x001100000000 | 3 => 0x001200000000 | _ => 0x002000000000) + off

/-! ### Region slots (15 Table 3) -/

def rSize (v : Nat) : Nat := bits v 5 0
def rRd (v : Nat) : Bool := bit v 8
def rWr (v : Nat) : Bool := bit v 9
def rEx (v : Nat) : Bool := bit v 10
def rMid (v : Nat) : Nat := bits v 35 24
def rMask (v : Nat) : Nat := bits v 47 36
def rOwner (v : Nat) : Nat := bits v 58 48
def rBase (v : Nat) : Nat := bits v 127 64
def rRsvd (v : Nat) : Bool := bits v 7 6 != 0 || bits v 23 11 != 0 || bits v 63 59 != 0

/-- Bitwise AND of two 12-bit identities. -/
def and12 (a b : Nat) : Nat := (BitVec.ofNat 12 a &&& BitVec.ofNat 12 b).toNat

/-- The identity matches a region's MID_VALUE under its mask (15 R571). -/
def midMatch (v i : Nat) : Bool := and12 i (rMask v) == and12 (rMid v) (rMask v)

/-- What an access asks for. -/
inductive Access where
  | read | write | fetch
  deriving DecidableEq, Repr

/-- The region admits an access by identity `i` to offsets a to b (15 R571); `holder` is the partition that holds the
squad whose scratch is reached. -/
def regionAdmits (v i a b holder : Nat) (k : Access) : Bool :=
  rSize v != 0 && midMatch v i && decide (rBase v ≤ a ∧ b < rBase v + 2 ^ rSize v) &&
    (match k with | .read => rRd v | .write => rWr v | .fetch => rEx v) &&
    !(rOwner v == 0x7FE && decide (i ≤ 0x400) && i != holder)

/-- The partition that holds the squad of a scratch offset (15 R571). -/
def holderAt (s : State) (g a : Nat) : Nat := if g = 1 then (s.squad (a / 0x200000)).owner else 0x7FF

/-- An access checked by a guard (15 R571, R580, R590): 0 admitted, 1 refused, 2 refused by an affected slot. -/
def guardCheck (s : State) (g i a b : Nat) (k : Access) : Nat :=
  if s.guardSt.closed then (if i = 0x803 ∨ i = 0x80B then 0 else 1)
  else
    let x := s.guards.get {} g
    let h := holderAt s g a
    if x.bad.any (fun n => regionAdmits (x.active.get 0 n) i a b h k) then 2
    else if x.active.any (fun e => !(x.bad.contains e.1) && regionAdmits e.2 i a b h k) then 0
    else 1

/-- A refused access counted and reported by guard, page and identity (15 R578, 21 0x0501). -/
def guardRefused (s : State) (g i off : Nat) : State :=
  (s.bump gGuardFaults).reportBy (guardIsl g) 0x0501 (g * 2 ^ 56 + off / 4096 * 4096) off i

/-! ### Rules of a slot (15 R570, R579) -/

/-- A staged slot breaks no rule of 15 R570. -/
def ruleOk (g v : Nat) : Bool :=
  let z := rSize v
  z == 0 || (!rRsvd v && decide (6 ≤ z ∧ z ≤ 40) && rBase v % 2 ^ z == 0 &&
    decide (rBase v + 2 ^ z ≤ guardSpace g) &&
    !(rEx v && (g != 3 || decide (0x4000000 < rBase v + 2 ^ z))) &&
    !(decide (1025 ≤ rOwner v ∧ rOwner v ≤ 0x7FD)) &&
    !(decide (rOwner v ≤ 1024) && (List.range 1025).any (fun i => i != rOwner v && midMatch v i)) &&
    !(rOwner v == 0x7FE && (g != 1 || rBase v / 0x200000 != (rBase v + 2 ^ z - 1) / 0x200000)))

/-- Two slots are enabled and overlap (15 R579). -/
def slotsOverlap (v w : Nat) : Bool :=
  rSize v != 0 && rSize w != 0 && decide (rBase v < rBase w + 2 ^ rSize w ∧ rBase w < rBase v + 2 ^ rSize v)

/-- No two enabled regions of a bank overlap (15 R579). -/
def bankOk : Tab Nat → Bool
  | [] => true
  | (_, v) :: l => !(l.any (fun e => slotsOverlap v e.2)) && bankOk l

/-- Slots of an active bank that a scrub finds wrong at runtime (15 R580). -/
def runtimeBad (g : Nat) (x : Guard) : List Nat :=
  (x.active.filter (fun e => !ruleOk g e.2 || x.active.any (fun f => f.1 != e.1 && slotsOverlap e.2 f.2))).map Prod.fst

/-- A guard commit is in progress: SWITCHING or DRAINING (15 R583). -/
def commitBusy (s : State) : Bool := s.gv gGuardCommitState == 0x0FC || s.gv gGuardCommitState == 0x30F

/-- The status of a staging write (15 R570, R579, R583). -/
def stageCheck (s : State) (g slot v : Nat) : Nat :=
  if commitBusy s then 0x2015
  else if !ruleOk g v then 0x3012
  else if (s.guards.get {} g).staging.any (fun e => e.1 != slot && slotsOverlap v e.2) then 0x3013
  else 0

/-- A slot written to the staging bank (15 R581). -/
def stageSlot (s : State) (g slot v : Nat) : State :=
  s.withGuard g (fun x => { x with staging := x.staging.set slot v })

/-- The staging banks of some guards restored to the active rules (15 R582). -/
def restoreStaging (s : State) (gs : List Nat) : State :=
  gs.foldl (fun s g => s.withGuard g (fun x => { x with staging := x.active })) s

/-- A staging bank, slot by slot (22 R790). -/
def bankBytes (g : Nat) (b : Tab Nat) : Bytes := (List.range (guardSlots g)).flatMap (fun k => toLE 16 (b.get 0 k))

/-- The bank that a record's value encodes. -/
def bankOfBytes (g : Nat) (v : Bytes) : Tab Nat :=
  ((List.range (guardSlots g)).map (fun k => (k, leNat ((v.drop (16 * k)).take 16)))).filter (fun e => e.2 != 0)

/-- A partition is affected by a change from one bank to another (15 R586). -/
def bankAffects (a b : Tab Nat) (p : Nat) : Bool :=
  let touches (v : Nat) : Bool := rSize v != 0 && (rOwner v == p || midMatch v p)
  ((a ++ b).map Prod.fst).any (fun k => a.get 0 k != b.get 0 k && (touches (a.get 0 k) || touches (b.get 0 k)))

/-- The switch of 15 R585, steps 2 to 5: rules to the PES, staged jobs of affected partitions squashed, the token
stamped, the banks swapped; the state becomes DRAINING. -/
def switchGuards (s : State) (rules : Tab (Tab Nat)) (change : Nat) : State :=
  let aff (p : Nat) : Bool := rules.any (fun e => bankAffects (s.guards.get {} e.1).active e.2 p)
  let all := (List.range 5).map (fun g => (g, (rules.find g).getD (s.guards.get {} g).active))
  let s1 := squashWhere { s with guardSt := { s.guardSt with pes := all, copy := all } } true (fun j => aff j.part)
  let s2 := s1.present 230 (.mark 1 change)
  let s3 := rules.foldl (fun s e => s.withGuard e.1 (fun x => { x with active := e.2, bad := [] })) s2
  (s3.gset gGuardCommitState 0x30F).gset gGuardCommitChange change

/-- The drain is over: the epoch rises, the staging banks take the new rules, the state returns to IDLE
(15 R585 step 6). -/
def endDrain (s : State) : State :=
  let s1 := restoreStaging s [0, 1, 2, 3, 4]
  ((s1.bump gGuardEpoch).gset gGuardCommitState 0xFC0).gset gGuardCommitChange 0

/-- Banks with a failed slot reloaded from the rule set in the PES; the epoch rises (15 R580 step 3). -/
def reloadGuards (s : State) : State :=
  if s.guardSt.reload.isEmpty then s
  else
    let s1 := s.guardSt.reload.foldl (fun s g => s.withGuard g (fun x => { x with active := s.guardSt.copy.get [] g, bad := [] })) s
    (({ s1 with guardSt := { s1.guardSt with reload := [] } } : State).present 230 (.mark 1 0)).bump gGuardEpoch

end Sys2Proof.Machine
end

