-- ==== Sys2Proof/Machine/Volatile.lean ====
section
/-! DEFINITION. What ERASE-VOLATILE and ERASE-ROOT destroy and which jobs start again (20 R727, R728; 07 R312; 09 R375; 10 R423;
12 R489). -/

namespace Sys2Proof.Machine

open Sys2Proof

/-- A job on a squad wiped and dispatched again from its start, its uses returned: its key is loaded and its use counted anew, and a slot
destroyed meanwhile fails that load (07 R312, 09 R346, R359). -/
def restartJob (s : State) (id : Nat) : State :=
  (redispatch (returnUses (dropImage s id) id) id).withJob id (fun j => { j with keys := [], slices := 0, batches := 0, retries := 0 })

/-- A job that needs a slot key completes VAULT_EMPTY when the Key Root is gone, wherever it stands after its dispatch: on its squads, with
squads reserved, parked, or waiting to be dispatched again (07 R312). -/
def needsRoot (j : Job) : Bool := slotKeyed j.d && j.order != 0 && j.atWork

/-- A stream job in progress loads its key again and resumes from its committed state; when the Key Root is gone it completes
VAULT_EMPTY (10 R423, R418). -/
def restartStream (s : State) (root : Bool) (id : Nat) : State :=
  if root then finish (zeroFill s (s.job id)) id 0x4010 [] 6
  else s.withJob id (fun j => { j with strm := { j.strm with key := [], rekey := true } })

/-- The jobs that R312 bears on: those on squads, and those that hold a squad's contexts. -/
def onSquads (j : Job) : Bool := (j.phase == .running || j.phase == .held || j.phase == .fetching) && !j.squads.isEmpty

/-- The actions of 20 R727, each once; with ERASE-ROOT the commits that are not durable are abandoned as well (09 R375). -/
def eraseVolatile (s : State) (root : Bool) : State :=
  let s1 := destroyVolatile (wipeCache s)
  let s2 := squashWhere s1 true (fun _ => true)
  let s2a := if root then (s2.jobsWith needsRoot).foldl (fun s id => finish s id 0x4010 [] 6) s2 else s2
  let s3 := (s2a.jobsWith onSquads).foldl restartJob s2a
  let s4 := (s3.jobsWith (fun j => j.phase == .streaming)).foldl (fun s id => restartStream s root id) s3
  rngErase (if root then abandonCommits s4 else s4)

end Sys2Proof.Machine
end

