-- ==== Sys2Proof/Machine/Tamper.lean ====
section
/-! DEFINITION. Tamper monitors, alarms, batches and responses, state codes, the Sentinel store (20). -/

namespace Sys2Proof.Machine

open Sys2Proof

/-- A level condition, as against a pulse or a report (20 Table 1, R719). -/
def isLevel (m : Nat) : Bool := decide (m ≤ 12) || m == 16 || m == 17

/-- A monitor that is watched on the cell alone (20 Table 1). -/
def onCell (m : Nat) : Bool := m == 3 || (decide (7 ≤ m) && decide (m ≤ 12)) || m == 16 || m == 17

/-- TMP ignores monitors of struck islands (18 Table 4): the unit that CLOCK or CGLITCH names is an island, that of GUARD_INT a guard. -/
def ignored (s : State) (m unit : Nat) : Bool :=
  ((m == 5 || m == 14) && decide (2 ≤ s.isl unit)) || (m == 20 && decide (2 ≤ s.isl (guardIsl unit)))

/-- Whether a monitor is watched now (20 R717, R720, R734). -/
def watched (s : State) (m : Nat) : Bool :=
  decide (m ≤ 20) && (if s.tamper.sntRuns then onCell m && (s.hostSupply || !s.power.cellExhausted) else s.hostSupply)

/-! ### Actions -/

/-- What ERASE-ROOT does (20 R728): the root is zeroised, the volatile actions follow, the PES is written, the mode is forced to
LOCKDOWN from SERVE, LEAN, CHANGEOVER and SERVICE. -/
def rootGone (s : State) (m : Nat) : State :=
  let s1 := s.withTamper (fun t => { t with rootHeld := false, root := [], rootInv := [], rootCheck := [], rootMachine := 0x6C9 })
  let s2 := ((s1.gset gLifeRootHeld 0).gset gBootRootDue 0).gset gTamperLockdownCause m
  let s3 := s2.event 243 0x0804 1 (toLE 1 m ++ toLE 1 s.modeNum)
  let s4 := if s.mainUp then eraseVolatile s3 true else s3
  if s.modeNum = 3 ∨ s.modeNum = 4 ∨ s.modeNum = 5 ∨ s.modeNum = 7 then
    enterMode ((abortTrans s4).withMode (fun x => { x with serviceAt := none })) 6 true 5
  else s4

/-- ERASE-ROOT, counted (20 R728). -/
def eraseRoot (s : State) (m : Nat) : State := rootGone (s.bump gTamperRootErased) m

/-- A record put into the Sentinel store (20 R736, R737). -/
def sntStore (s : State) (r : SntRec) : State :=
  let t := s.tamper
  let r1 := { r with seq := t.seq, st := s.clock.st }
  if t.store.length < 64 then s.withTamper (fun t => { t with store := t.store ++ [r1], seq := t.seq + 1 })
  else match t.store.find? (fun x => x.resp == 0 && !x.rootErased) with
    | some old => s.withTamper (fun t => { t with store := t.store.filter (fun x => x.seq != old.seq) ++ [r1], seq := t.seq + 1 })
    | none => s.bump gSentinelOverflow

/-- ERASE-ROOT by SNT on the cell alone (20 R728, R734): the PES writes are made at the hand-over. -/
def cellEraseRoot (s : State) : State :=
  s.withTamper (fun t => { t with rootHeld := false, root := [], rootInv := [], rootCheck := [] })

/-- An alarm raised (20 R718, R724, R730, R731, R734); while SNT filters because TMP is lost, its ERASE-ROOT is whole, and counted at the
hand-over of its record. -/
def raiseAlarm (s : State) (m count value : Nat) : State :=
  let resp := s.monResp m
  let s1 := (s.bumps gTamperMonAlarms m).bump gTamperAlarmsTotal
  if s.tamper.sntRuns then
    let s2 := if resp ≠ 4 then s1 else if s.hostSupply then rootGone s1 m else cellEraseRoot s1
    sntStore s2 { mon := m, resp := resp, rootErased := resp == 4, notExec := decide (1 ≤ resp) && resp != 4,
                  value := value % 2 ^ 16, count := count }
  else
    let s2 := s1.event 236 0x0801 1 (toLE 1 m ++ toLE 1 resp ++ toLE 2 count ++ toLE 4 value)
    let s3 := s2.withTamper (fun t => { t with
      batch := t.batch ++ [{ mon := m, resp := resp, count := count, value := value }],
      batchAt := if t.batch.isEmpty then s.now else t.batchAt })
    if resp = 4 then eraseRoot s3 m else s3

/-- One event of a monitor counted; the alarm follows at N events within W ms (20 R718, R719). -/
def countEvent (s : State) (m value : Nat) : State :=
  let x := s.tamper.mons.get {} m
  let times := x.times.filter (fun t => decide (s.now < t + msTicks (s.monW m))) ++ [s.now]
  let held := s.tamper.holdUntil.isSome && s.tamper.holdMons.contains m
  let s1 := s.bumps gTamperMonEvents m
  let fire := decide (s.monN m ≤ times.length) && !x.standing
  let x1 : MonSt := { times := if fire then [] else times, standing := x.standing || (fire && isLevel m),
                      inHold := x.inHold + b2n held }
  let s2 := s1.withTamper (fun t => { t with mons := t.mons.set m x1 })
  if fire then raiseAlarm s2 m times.length value else s2

/-- One report counted in the window of the unit that made it (20 R854). -/
def countBurst (s : State) (unit value : Nat) : State :=
  let times := ((s.tamper.burst.get [] unit).filter (fun t => decide (s.now < t + msTicks (s.monW 19)))) ++ [s.now]
  let held := s.tamper.holdUntil.isSome && s.tamper.holdMons.contains 19
  let s1 := (s.bumps gTamperMonEvents 19).withTamper (fun t => { t with
    burst := t.burst.set unit (if s.monN 19 ≤ times.length then [] else times),
    mons := t.mons.upd {} 19 (fun x => { x with inHold := x.inHold + b2n held }) })
  if s.monN 19 ≤ times.length then raiseAlarm s1 19 times.length value else s1

/-- A fault report: one event of FAULT_RATE and one of FAULT_BURST (20 R854). Units 0 to 31 are squads, 64 + n stream
engines. -/
def faultReport (s : State) (unit : Nat) : State :=
  if s.mainUp && !s.tamper.sntRuns then countBurst (countEvent s 18 unit) unit unit else s

/-! ### State codes (20 R721 to R723) -/

/-- Hamming distance of two 12-bit codes. -/
def hamming (a b : BitVec 12) : Nat := popcount 12 (a ^^^ b).toNat

/-- The valid codes of a machine: 0 mode, 1 phase, 2 guard commit, 3 lifecycle, 4 Key Root access, 16 + k change-set
slot k. -/
def machineCodes (k : Nat) : List (BitVec 12) :=
  if k = 0 then [0x5A5, 0x5AA, 0x555, 0x55A, 0xAA5, 0xAAA, 0xA55, 0xA5A]
  else if k = 1 then [0x5A5, 0x59A, 0xA65, 0xA5A]
  else if k = 2 then [0xFC0, 0xC3C, 0x3F0, 0x0FC, 0x30F]
  else if k = 3 then [0x3C3, 0x3CC, 0xC33, 0xC3C]
  else if k = 4 then [0x6C9, 0x936, 0xC93, 0x36C]
  else [0x356, 0x365, 0x5A3, 0xC9A, 0xF0F]

/-- The guards that a change set covers. -/
def setGuards (x : ChangeSet) : List Nat := (x.recs.filter (fun r => r.idx == 0x4110 && r.sub == 4)).map (·.selA)

/-- A change of countersign state recorded and notified: step 0 staged, 1 signed, 2 approved, 3 committed, 4 cancelled,
5 expired (22 R786, R799). -/
def csNote (s : State) (x : ChangeSet) (step : Nat) (code : BitVec 12) : State :=
  (s.event 199 0x0901 1 (toLE 4 x.id ++ toLE 1 (Config.code 4 step) ++ x.hash.take 8)).notify
    (toLE 1 3 ++ toLE 4 x.id ++ toLE 2 code.toNat)

/-- A change-set slot made FREE with a final status and a reason; a set that did not commit gives its guards' staging
banks back to the active rules (22 R796, Table 13, 15 R582). -/
def freeSet (s : State) (k final reason : Nat) : State :=
  let x := s.mgmt.slots.get {} k
  let s0 := if final = 0 ∨ (setGuards x).isEmpty then s
            else (restoreStaging s (setGuards x)).gset gGuardCommitState 0xFC0
  let s1 := s0.withMgmt (fun m => { m with slots := m.slots.set k { x with code := 0x356, final := final, reason := reason } })
  csNote (if final = 0 then s1.bump gCsCommitted else s1.bump gCsExpired) x
    (if final = 0 then 3 else if reason = 1 then 5 else 4) 0x356

/-- A machine's code set. -/
def setMachine (s : State) (k : Nat) (c : BitVec 12) : State :=
  if k = 0 then s.withMode (fun m => { m with code := c })
  else if k = 1 then s.withMode (fun m => { m with phase := c })
  else if k = 2 then s.gset gGuardCommitState c.toNat
  else if k = 3 then s.gset gLifeState c.toNat
  else if k = 4 then s.withTamper (fun t => { t with rootMachine := c })
  else s.withMgmt (fun m => { m with slots := m.slots.upd {} (k - 16) (fun x => { x with code := c }) })

/-- What a machine becomes at a code that cannot be corrected (20 R723); the alarm's response forces the mode
controller into LOCKDOWN. -/
def failMachine (s : State) (k : Nat) : State :=
  if k = 2 then
    ({ s with guardSt := { s.guardSt with reload := [0, 1, 2, 3, 4] } } : State).gset gGuardCommitState 0xFC0
      |>.gset gGuardCommitChange 0
  else if k = 4 then s.withTamper (fun t => { t with rootMachine := 0x36C })
  else if 16 ≤ k then freeSet s (k - 16) 0x7001 5
  else s

/-- A code read from a machine (20 R721, R723): valid, corrected at distance 1, or a STATE_CODE event. -/
def readMachine (s : State) (k : Nat) (c : BitVec 12) : State :=
  if (machineCodes k).contains c then s
  else match (machineCodes k).find? (fun v => hamming v c == 1) with
    | some v =>
      ((setMachine s k v).bump gTamperStateCorrected).event 236 0x0807 1
        (toLE 1 (Config.code 3 k) ++ toLE 2 c.toNat ++ toLE 2 v.toNat)
    | none => countEvent (failMachine s k) 15 k

/-! ### Batches (20 R730 to R732, R849) -/

/-- TAMPER_ACTION recorded: 0 executed, 1 covered, 2 NOT_EXECUTED. -/
def actionRec (s : State) (resp outcome : Nat) : State := s.event 236 0x0803 1 (toLE 1 resp ++ toLE 1 outcome)

/-- ALERT of a batch: pending bits, one vector 0 message, a NOTIFY for each alarm; WAKE# in DORMANT (20 R849, 02 R48). -/
def alertBatch (s : State) (l : List Alarm) : State :=
  let bitsOn := l.foldl (fun v a => if bit v a.mon then v else v + 2 ^ a.mon) (s.gv gTamperAlertPending)
  let s1 := (s.gset gTamperAlertPending bitsOn).msixAlert
  let s2 := l.foldl (fun s a => s.notify (toLE 1 1 ++ toLE 1 a.mon ++ toLE 1 a.resp)) s1
  let s3 := refreshTag s2
  if s.modeNum = 1 ∧ s.gv gTamperWakeEnable = 1 then s3.withPower (fun p => { p with wake := true }) else s3

/-- QUIESCE: key loads are held until 100 ms from now (20 R726). -/
def startHold (s : State) (mons : List Nat) : State :=
  (s.withTamper (fun t => { t with
    holdUntil := some (s.now + msTicks 100), holdMons := (t.holdMons ++ mons).dedup,
    mons := if t.holdUntil.isSome then t.mons else t.mons.mapVals (fun _ x => { x with inHold := 0 }) })).gset gTamperQuiesceActive 1

/-- BATCH_EXECUTE (20 R730, R731): 1 µs after the first alarm not yet executed, the union of the batch's actions, strongest
first. -/
def execBatchExecute (s : State) : Out :=
  let l := s.tamper.batch
  if l.isEmpty || !s.hostSupply || decide (s.now < s.tamper.batchAt + usTicks 1) then .next s
  else
    let has (r : Nat) : Bool := l.any (fun a => a.resp == r)
    let root := has 4
    let s0 := s.withTamper (fun t => { t with batch := [] })
    let s1 := if root then actionRec s0 4 0 else s0
    let s2 := if !has 3 then s1
              else if root then actionRec s1 3 1
              else if s.mainUp then actionRec (eraseVolatile s1 false) 3 0
              else actionRec s1 3 2
    let s3 := if !has 2 then s2
              else if root then actionRec s2 2 1
              else if s.mainUp then actionRec (startHold s2 ((l.filter (fun a => a.resp == 2)).map (·.mon))) 2 0
              else actionRec s2 2 2
    .next (if l.any (fun a => decide (1 ≤ a.resp)) then actionRec (alertBatch s3 (l.filter (fun a => decide (1 ≤ a.resp)))) 1 0 else s3)

/-- QUIESCE_HOLD_END (20 R726): the hold lifts, or escalates when a monitor that called it has counted an event. -/
def execQuiesceHoldEnd (s : State) : Out :=
  match s.tamper.holdUntil with
  | none => .next s
  | some t =>
    if s.now < t then .next s
    else
      let hot := s.tamper.holdMons.filter (fun m => decide (0 < (s.tamper.mons.get {} m).inHold))
      let s1 := (s.withTamper (fun t => { t with holdUntil := none, holdMons := [] })).gset gTamperQuiesceActive 0
      match hot with
      | [] => .next s1
      | m :: _ => .next ((eraseVolatile s1 false).event 236 0x0806 1 (toLE 1 m))

/-- ALERT_ACK (20 R733): a write of ones to tamper.alert.pending clears those bits. -/
def execAlertAck (sess : SessId) (req : BitVec 16) (value : Bytes) (s : State) : Out :=
  actWrite s sess req 0x500002 value true false (fun s =>
    s.gset gTamperAlertPending (BitVec.ofNat 32 (s.gv gTamperAlertPending) &&& ~~~(BitVec.ofNat 32 (leNat value))).toNat)

/-! ### Hand-over between TMP and SNT (20 R720, R738) -/

/-- The filters pass to SNT or back to TMP: windows restart empty (20 R720). -/
def handover (s : State) (toSnt : Bool) : State :=
  s.withTamper (fun t => { t with sntRuns := toSnt, mons := [], burst := [] })

/-- A Sentinel record's 16 bytes (20 Table 4). -/
def sntBytes (r : SntRec) : Bytes :=
  toLE 16 (r.seq % 2 ^ 32 + 2 ^ 32 * (r.count % 2 ^ 16) + 2 ^ 48 * (r.value % 2 ^ 16) + 2 ^ 66 * b2n r.notExec
    + 2 ^ 67 * b2n r.rootErased + 2 ^ 68 * (r.resp % 16) + 2 ^ 72 * (r.mon % 256) + 2 ^ 80 * (r.st % 2 ^ 48))

/-- The Sentinel store moved into event records at start-up (20 R738). -/
def sntHandover (s : State) : State :=
  let l := s.tamper.store
  let s1 := l.foldl (fun s r =>
    let s2 := s.event 243 0x0802 1 (sntBytes r)
    let s3 := if 1 ≤ r.resp ∧ !bit (s2.gv gTamperAlertPending) r.mon then
                s2.gset gTamperAlertPending (s2.gv gTamperAlertPending + 2 ^ r.mon) else s2
    if r.rootErased then
      ((((s3.gset gLifeRootHeld 0).gset gBootRootDue 0).gset gTamperLockdownCause r.mon).bump gTamperRootErased)
    else s3) s
  let s2 := s1.withTamper (fun t => { t with store := [] })
  s2.event 230 0x0808 1 (toLE 1 l.length ++ toLE 4 (s.gv gSentinelOverflow))

/-- An island that failed is taken out of use; a lost TMP hands its filters to SNT (17 R634, 20 R720). -/
def takeOut (s : State) (island cause : Nat) : State :=
  let s1 := loseIsland s island cause
  if island = 236 then handover (s1.withTamper (fun t => { t with tmpLost := true })) true else s1

/-- CROSSING_TIMEOUT (17 R634): the receiving island is reported failed and taken out of use. A crossing to a struck island is closed (18
R663). -/
def execCrossingTimeout (island : Nat) (s : State) : Out :=
  if 243 < island ∨ 2 ≤ s.isl island then .next s else .next (takeOut s island 1)

/-! ### Samples -/

/-- An event of CLOCK: at its alarm the island has failed the clock-frequency monitor and is taken out of use (17 R634; log entry
165). -/
def countClock (s : State) (island value : Nat) : State :=
  let s1 := countEvent s 5 value
  if s1.gvs gTamperMonAlarms 5 = s.gvs gTamperMonAlarms 5 then s1 else takeOut s1 island 2

/-- MONITOR_SAMPLE (20 R717 to R721, R854): `holds` says that the condition holds in the sample, or that a pulse or report
was counted; `unit` names the reporting unit or the state machine, `value` the measured value or the code read. -/
def execMonitorSample (mon unit value : Nat) (holds : Bool) (s : State) : Out :=
  if !watched s mon || ignored s mon unit then .next s
  else if !holds then
    .next (s.withTamper (fun t => { t with mons := t.mons.upd {} mon (fun x => { x with standing := false }) }))
  else if mon = 18 ∨ mon = 19 then .next (faultReport s unit)
  else if mon = 15 then .next (readMachine s unit (BitVec.ofNat 12 value))
  else if mon = 5 then .next (countClock s unit value)
  else .next (countEvent s mon value)

end Sys2Proof.Machine
end

