-- ==== Sys2Proof/Machine/Rns.lean ====
section
/-! DEFINITION. Residue arithmetic: the channel moduli, residue form, MONT and SETTLE, narrow lanes (05 R193 to R221), and the
integer arithmetic that whole operations need. -/

namespace Sys2Proof.Machine

open Sys2Proof

/-! ### Integers -/

/-- `b^e mod n` by squaring, over `fuel` bits of the exponent. -/
def powFuel : Nat → Nat → Nat → Nat → Nat
  | 0, _, _, n => 1 % n
  | f + 1, b, e, n => if e = 0 then 1 % n else
    let h := powFuel f (b * b % n) (e / 2) n
    if e % 2 = 1 then b * h % n else h

/-- `b^e mod n` for an exponent below 2^8192. -/
def powMod (b e n : Nat) : Nat := powFuel 8192 (b % n) e n

/-- Extended Euclid: (gcd, coefficient of the first argument), by fuel. -/
def egcd : Nat → Nat → Nat → Int → Int → Nat × Int
  | 0, a, _, u, _ => (a, u)
  | f + 1, a, b, u, v => if b = 0 then (a, u) else egcd f b (a % b) v (u - (a / b : Nat) * v)

/-- The inverse of `a` modulo `m`, where there is one. -/
def invMod? (a m : Nat) : Option Nat :=
  let r := egcd 16384 (a % m) m 1 0
  if r.1 = 1 then some (r.2 % (m : Int)).toNat else none

def invMod (a m : Nat) : Nat := (invMod? a m).getD 0

/-! ### Channel moduli (05 R193 to R199) -/

/-- Values of c of ranks 0 to 47 (05 R194). -/
def cRanks0 : List Nat :=
  [57, 87, 117, 143, 153, 167, 171, 195, 203, 273, 287, 317, 443, 483, 495, 575,
   581, 603, 633, 663, 765, 773, 777, 791, 813, 831, 923, 981, 993, 1001, 1007, 1017,
   1197, 1241, 1293, 1353, 1433, 1515, 1553, 1575, 1581, 1595, 1617, 1673, 1697, 1701, 1703, 1823]

/-- Values of c of ranks 48 to 95 (05 R194). -/
def cRanks1 : List Nat :=
  [1881, 1911, 1923, 2043, 2073, 2103, 2141, 2187, 2217, 2247, 2285, 2351, 2367, 2375, 2397, 2421,
   2511, 2541, 2583, 2661, 2675, 2753, 2777, 2793, 2861, 2891, 2927, 3023, 3041, 3221, 3251, 3255,
   3257, 3263, 3317, 3377, 3521, 3537, 3545, 3551, 3563, 3671, 3705, 3767, 3797, 3803, 3873, 3933]

/-- Values of c of ranks 96 to 143 (05 R194). -/
def cRanks2 : List Nat :=
  [4163, 4247, 4275, 4301, 4377, 4403, 4485, 4557, 4595, 4641, 4661, 4707, 4781, 4815, 4821, 4857,
   4881, 4917, 4941, 4971, 4991, 4997, 5003, 5055, 5103, 5133, 5153, 5265, 5355, 5393, 5445, 5465,
   5475, 5483, 5547, 5571, 5637, 5645, 5693, 5771, 5805, 5817, 5883, 5885, 5915, 5927, 5943, 5991]

/-- Values of c of ranks 144 to 191 (05 R194). -/
def cRanks3 : List Nat :=
  [6027, 6035, 6057, 6063, 6077, 6123, 6135, 6147, 6225, 6237, 6273, 6281, 6323, 6327, 6333, 6411,
   6425, 6525, 6573, 6597, 6617, 6627, 6665, 6827, 6905, 7007, 7043, 7071, 7113, 7283, 7335, 7371,
   7395, 7415, 7521, 7535, 7541, 7547, 7601, 7637, 7707, 7757, 7815, 7821, 7841, 7845, 7911, 8015]

/-- Values of c of ranks 192 to 239 (05 R194). -/
def cRanks4 : List Nat :=
  [8115, 8121, 8135, 8151, 8183, 8231, 8253, 8261, 8321, 8325, 8351, 8373, 8393, 8457, 8567, 8585,
   8601, 8613, 8631, 8645, 8687, 8703, 8763, 8823, 8847, 8871, 8895, 8907, 8975, 8997, 9005, 9033,
   9063, 9095, 9287, 9347, 9435, 9513, 9593, 9731, 9753, 9777, 9791, 9821, 9855, 9905, 9977, 10023]

/-- Values of c of ranks 240 to 287 (05 R194). -/
def cRanks5 : List Nat :=
  [10163, 10197, 10227, 10233, 10251, 10323, 10361, 10373, 10425, 10431, 10433, 10457, 10503, 10523, 10565, 10613,
   10635, 10643, 10683, 10691, 10785, 10797, 10811, 10863, 10865, 10887, 10985, 11031, 11121, 11123, 11187, 11207,
   11217, 11255, 11271, 11273, 11307, 11343, 11363, 11423, 11451, 11453, 11493, 11585, 11657, 11661, 11667, 11733]
/-- c by rank: base A has ranks 0 to 143, base B 144 to 287. They follow R194, from which 05 Table 1 and R196 depart (log
entry 33). -/
def cRanks : List Nat := cRanks0 ++ cRanks1 ++ cRanks2 ++ cRanks3 ++ cRanks4 ++ cRanks5

/-- The channel modulus of a rank: 2^62 − c. -/
def chanMod (rank : Nat) : Nat := 2 ^ 62 - cRanks.getD rank 57

def pW : Nat := 2 ^ 61 - 1

def modsA (k : Nat) : List Nat := (List.range k).map chanMod
def modsB (k : Nat) : List Nat := (List.range k).map (fun j => chanMod (144 + j))

/-- The moduli of a residue form on k channels, in its order: base A, base B, X, W (05 R200). -/
def rnsMods (k : Nat) : List Nat := modsA k ++ modsB k ++ [2 ^ 64, pW]

/-- The product of a list of moduli. -/
def prodOf (l : List Nat) : Nat := l.foldl (· * ·) 1

/-! ### Residue form, MONT, SETTLE (05 R200 to R214) -/

/-- A number in residue form (05 R201). -/
def toRns (k v : Nat) : List Nat := (rnsMods k).map (fun m => v % m)

/-- Values combined channel by channel, reduced. -/
def chanwise (f : Nat → Nat → Nat → Nat) (k : Nat) (x y : List Nat) : List Nat :=
  (rnsMods k).zipWith (fun m p => f m p.1 p.2 % m) (x.zip y)

/-- A list cut into shares of `n`, in order; `fuel` shares at most. -/
def sharesOf {α : Type} (n : Nat) : Nat → List α → List (List α)
  | 0, l => [l]
  | f + 1, l => if l.length ≤ n ∨ n = 0 then [l] else l.take n :: sharesOf n f (l.drop n)

/-- A channel sum formed over the squads of a gang: each squad's share of the channels, 17 to a half at most, in rising order, and the
shares added in the order of the squads as they cross through the staging routers (06 R253). -/
def crossSum (share : Nat) (l : List Nat) : Nat := ((sharesOf share l.length l).map List.sum).sum

/-- Sum over channels of e_i·(M / m_i), less c·M, modulo m (05 R202), in shares of channels. -/
def extend (share : Nat) (ms es : List Nat) (c m : Nat) : Nat :=
  let M := prodOf ms
  let t := crossSum share ((ms.zip es).map (fun p => p.2 * (M / p.1)))
  (((t : Int) - (c * M : Nat)) % (m : Int)).toNat

/-- β of a value held on base B and X: the multiple of M_B that reconstruction exceeds it by (05 R204). -/
def betaOf (k : Nat) (eta : List Nat) (x : Nat) : Nat :=
  let bs := modsB k
  let MB := prodOf bs
  let t := (bs.zip eta).foldl (fun a p => a + p.2 * (MB / p.1)) 0
  ((((t : Int) - x) * (invMod MB (2 ^ 64) : Nat)) % (2 ^ 64 : Int)).toNat

/-- η of the base B part of a residue form. -/
def etaOf (k : Nat) (b : List Nat) : List Nat :=
  let bs := modsB k
  let MB := prodOf bs
  bs.zipWith (fun m s => s * invMod (MB / m) m % m) b

/-- MONT (05 R202) with the channels in shares: the result, and whether the watch comparison disagrees. -/
def montShared (share k N : Nat) (x y : List Nat) : List Nat × Bool :=
  let as := modsA k
  let bs := modsB k
  let MA := prodOf as
  let t := chanwise (fun _ p q => p * q) k x y
  let xi := as.zipWith (fun m v => v * ((m - invMod N m) % m) % m * invMod (MA / m) m % m) (t.take k)
  let ahat := (as.zipWith (fun m v => v * 2 ^ 32 / m) xi).foldl (· + ·) 0 / 2 ^ 32
  let s := (bs ++ [2 ^ 64, pW]).zipWith (fun m v => (v + extend share as xi ahat m * (N % m)) * invMod MA m % m) (t.drop k)
  let sX := s.getD k 0
  let sW := s.getD (k + 1) 0
  let eta := etaOf k (s.take k)
  let beta := betaOf k eta sX
  (as.map (fun m => extend share bs eta beta m) ++ s, extend share bs eta beta pW != sW)

/-- MONT on one squad. -/
def montRns (k N : Nat) (x y : List Nat) : List Nat × Bool := montShared (k + 1) k N x y

/-- SETTLE (05 R210): v mod N for v < 3·N, and whether the watch comparison disagrees. -/
def settleRns (k N : Nat) (v : List Nat) : Nat × Bool :=
  let bs := modsB k
  let eta := etaOf k ((v.drop k).take k)
  let beta := betaOf k eta (v.getD (2 * k) 0)
  let MB := prodOf bs
  let t := (bs.zip eta).foldl (fun a p => a + p.2 * (MB / p.1)) 0
  let z : Int := (t : Int) - (beta * MB : Nat)
  let r : Int := if 2 * (N : Int) ≤ z then z - 2 * N else if (N : Int) ≤ z then z - N else z
  (r.toNat, (z % (pW : Int)).toNat != v.getD (2 * k + 1) 0)

/-- The integer that both bases hold together, below M_A·M_B. -/
def rnsValue (k : Nat) (v : List Nat) : Nat :=
  let ms := modsA k ++ modsB k
  let M := prodOf ms
  ((ms.zip v).foldl (fun a p => a + p.2 * (invMod (M / p.1) p.1) % p.1 * (M / p.1)) 0) % M

/-- u − v as u + (3·N − v), channel by channel (05 R209). -/
def subRns (k N : Nat) (x y : List Nat) : List Nat := chanwise (fun m p q => p + (3 * N % m) + (m - q % m)) k x y

/-! ### Narrow lanes (05 R217 to R221) -/

/-- QN lies in the range of a width of 16 or 32 bits (05 R218). -/
def qnOk (w qn : Nat) : Bool := decide (3 ≤ qn ∧ qn < (if w = 16 then 2 ^ 15 else 2 ^ 30))

/-- No odd number from `d` up divides `n`, as far as its square does not pass `n`. -/
def noOddDivisor : Nat → Nat → Nat → Bool
  | 0, _, _ => true
  | f + 1, n, d => decide (n < d * d) || (n % d != 0 && noOddDivisor f n (d + 2))

/-- QN is an odd prime, as R218 asks of one in range; the results under another are open (log entry 34). -/
def qnPrime (qn : Nat) : Bool := qn % 2 == 1 && decide (3 ≤ qn) && noOddDivisor 16384 qn 3

/-- The fields of a lane register, field 0 first. -/
def fieldsOf (w v : Nat) : List Nat := (List.range (64 / w)).map (fun i => v / 2 ^ (w * i) % 2 ^ w)

/-- A lane register made of its fields. -/
def ofFields (w : Nat) (l : List Nat) : Nat := (l.zipIdx).foldl (fun a p => a + p.1 % 2 ^ w * 2 ^ (w * p.2)) 0

end Sys2Proof.Machine
end

