-- ==== Sys2Proof/Machine/Retry.lean ====
section
/-! DEFINITION. The lanes of a half and the channels they carry, swaps, and the retry sequence after a watch mismatch (05 R215; 06 R239,
R256 to R260; 07 R298; 08 R328). -/

namespace Sys2Proof.Machine

open Sys2Proof

/-! ### Lanes (06 R239, R259, R260) -/

/-- Working lanes of a half whose failed lanes are listed; lane 16 is its spare (06 R260). -/
def working (fails : List Nat) : Nat := min 16 (17 - fails.length)

/-- Spares of a half swapped in: one, when a working lane failed while the spare was good (06 R259). -/
def spareUsed (fails : List Nat) : Nat := match fails with | [] => 0 | a :: _ => if a < 16 then 1 else 0

/-- Spare lanes not yet swapped in, of the whole array (06 Table 7); a spare that has failed unused is not left. -/
def sparesLeft (s : State) : Nat :=
  (List.range 32).foldl (fun a q => a + (if (s.squad q).failA.isEmpty then 1 else 0) + (if (s.squad q).failB.isEmpty then 1 else 0)) 0

/-- One lane of a half fails: recorded as swapped when the spare takes its place (06 R259, R260, 21 0x0306). -/
def failLane (s : State) (q half lane : Nat) : State :=
  let x := s.squad q
  let l := if half = 0 then x.failA else x.failB
  if l.contains lane then s
  else
    let s1 := s.withSquad q (fun x => if half = 0 then { x with failA := x.failA ++ [lane] } else { x with failB := x.failB ++ [lane] })
    if l.isEmpty && decide (lane < 16) then
      s1.event (sqIsl q) 0x0306 1 (toLE 1 q ++ toLE 1 half ++ toLE 1 lane ++ toLE 1 (sparesLeft s1))
    else s1

/-- The active lane that the spare of a half stands in for: the first that failed while the spare was good. -/
def spareFor (fails : List Nat) : Option Nat := match fails with | [] => none | a :: _ => if a < 16 then some a else none

/-- The working lanes of a half, each in the place of the active lane that it is or stands in for. -/
def halfLanes (fails : List Nat) : List Nat :=
  (List.range 16).flatMap (fun p =>
    if !fails.contains p then [p] else if spareFor fails = some p ∧ !fails.contains 16 then [16] else [])

/-- The lane that carries channel `i` of a half: round-robin over its working lanes, from lane 0 (06 R239). -/
def laneFor (fails : List Nat) (i : Nat) : Nat := (halfLanes fails).getD (i % (halfLanes fails).length) 0

/-- Every context of a job goes back to its checkpoint. -/
def rewind (s : State) (id : Nat) : State :=
  (contextsOf s id).foldl (fun s u => match (s.unit u).ckpt with | some i => putImage s u i | none => s) s

/-- Lanes found at fault: swapped between two lane instructions; the residents go on from their checkpoints, and a half with fewer
than 8 working lanes loses the squad (06 R260). Lanes 0 to 16 are half A, 17 to 33 half B. -/
def swapLanes (s : State) (q : Nat) (lanes : List Nat) : State :=
  let ok := lanes.filter (fun n => decide (n < 34))
  if ok.isEmpty then s
  else
    let s1 := ok.foldl (fun s n => failLane s q (n / 17) (n % 17)) s
    let s2 := (residents s1 q).foldl rewind s1
    if working (s2.squad q).failA < 8 ∨ working (s2.squad q).failB < 8 then loseSquad s2 q 0 else s2

/-! ### The retry sequence (06 Table 3) -/

/-- A third mismatch on a squad: the third such count in 60 s withdraws it from dispatch until its patrol (06 R258). -/
def countThird (s : State) (q : Nat) : State :=
  let l := ((s.squad q).thirds.filter (fun t => decide (s.now < t + secTicks 60))) ++ [s.now]
  if l.length < 3 then s.withSquad q (fun x => { x with thirds := l })
  else s.withSquad q (fun x => { x with
    thirds := [], patrolDue := true, withdrawn := x.withdrawn || x.mode == 0, mode := if x.mode = 0 then 3 else x.mode })

/-- The single active lane of a half whose replacement clears the mismatch, `n` telling by its bits which of the 16 runs clear; none where
the half has no spare left to stand in (06 R257). -/
def faultLane (fails : List Nat) (n : Nat) : Option Nat :=
  match (List.range 16).filter (fun l => bit n l) with
  | [l] => if fails.isEmpty then some l else none
  | _ => none

/-- Localisation (06 R257): the failing MONT is repeated from its inputs, 16 times in each half, the half's spare standing in for active
lanes 0 to 15 in turn. Which repeats clear the mismatch is the fault's, hence free. The lanes found are numbered as a swap takes them. -/
def localise (s : State) (q : Nat) : List Nat × State :=
  let (n, s1) := s.drawNat
  ((faultLane (s.squad q).failA n).toList ++ ((faultLane (s.squad q).failB (n / 65536)).toList.map (· + 17)), s1)

/-- The second mismatch: lanes found at fault are swapped out, else the squad's patrol runs at once; the job goes on from its checkpoint. -/
def localiseSwap (s : State) (id q : Nat) : State :=
  let (l, s1) := localise s q
  rewind (if l.isEmpty then s1.withSquad q (fun x => { x with patrolDue := true }) else swapLanes s1 q l) id

/-- The retry sequence of 06 Table 3 after a mismatch of a job on squad `q`. -/
def retryJob (s : State) (id q : Nat) : State :=
  let n := (s.job id).retries + 1
  let s1 := s.withJob id (fun j => { j with retries := n })
  if n = 1 then rewind (s1.bump gLaneRetryTotal) id
  else if n = 2 then localiseSwap (s1.bump gLaneRetryTotal) id q
  else if n = 3 then
    (redispatch (countThird (s1.bump gLaneRetryTotal) q) id).withJob id (fun j => { j with avoid := some q })
  else finish (s1.bump gLaneRetryExhausted) id 0x5001 [] 6

/-- A fault in the lanes of a job: counted under its entry, recorded under its code, reported, retried. -/
def laneFault (s : State) (id q : Nat) (e : GE) (code detail : Nat) : State :=
  retryJob (faultReport ((s.bump e).report (sqIsl q) code q detail) q) id q

/-- A failed check before release (07 R298, 08 R328). -/
def releaseFail (s : State) (id : Nat) : State :=
  laneFault s id ((s.job id).squads.headD 0) gPkReleaseFail 0x0304 (s.job id).d.opcode

end Sys2Proof.Machine
end

