-- ==== Sys2Proof/Machine/Arith.lean ====
section
/-! DEFINITION. What the squad operations share, and generic arithmetic (05 R222 to R234; 06 R243, R263; 11 R435). -/

namespace Sys2Proof.Machine

open Sys2Proof

/-! ### A job on its squads -/

/-- A slice of a job that is on its squads: a job that is to draw is held until it is served (12 R480, R487); the last slice is the operation `f`; one before it runs up to its yield, where the job parks,
unless a check of its operands ends the job (05 R232, 06 R250, R254, R255). -/
def runSlice (s : State) (id : Nat) (f : State → State) : State :=
  let j := s.job id
  if randomOp j.d && !rngTurn s j.d.opcode then rngHold s id
  else if lastSlice s j then f s
  else match j.parkSlot with
    | none => f s
    | some k =>
      let t := (f s).job id
      if t.phase = .finished ∧ t.status ≠ 0 ∧ t.status ≠ 0x1016 then f s else parkJob s id k

/-- A squad operation of a job that is on its squads with its key loaded; a job held at its key load tries again first (09 R346,
R364). -/
def onSquad (s : State) (id op : Nat) (f : State → State) : Out :=
  let j := s.job id
  if j.d.opcode ≠ op ∨ j.squads.isEmpty then .next s
  else if j.phase = .running then .next (runSlice s id f)
  else if j.phase = .held then
    let s1 := loadForSquad s id
    .next (if (s1.job id).phase = .running then runSlice s1 id f else s1)
  else .next s

/-- A job ends OK: its lane-cycles are 32 times the nominal cycles of its steps, with B(e) of its exponent (05 R233, 06 R243). -/
def passJob (s : State) (id : Nat) (out : Bytes) (tc b : Nat) : State :=
  finishWith s id 0 out tc (32 * jobCycles s (s.job id).d b) 0

/-- A job fails a check of its validation table: it counts V(op, L) (05 R227, R233). -/
def failValid (s : State) (id status : Nat) : State := finishWith s id status [] 2 (32 * jobV s (s.job id)) 0

/-- The status of the first failed check of a validation table; 0 when all pass (05 R227). -/
def firstFail : List (Bool × Nat) → Nat
  | [] => 0
  | (ok, st) :: l => if ok then firstFail l else st

/-! ### Generic arithmetic (05 Tables 6 and 7) -/

/-- N, A and B or E of a generic job, and its L. -/
structure GenOps where
  L : Nat
  n : Nat
  a : Nat
  b : Nat

def genOps (j : Job) : GenOps :=
  let L := j.d.opaLen / 2
  ⟨L, leNat (j.opa.take (8 * L)), leNat ((j.opa.drop (8 * L)).take (8 * L)), leNat j.opb⟩

/-- Checks 1 and 2 of 05 Table 7: N is odd, N ≥ 3, its highest word is not zero, and no channel modulus in use divides it. -/
def modulusOk (L n : Nat) : Bool :=
  n % 2 == 1 && decide (3 ≤ n) && n / 2 ^ (64 * (L - 1)) != 0 && (modsA (chans L)).all (fun m => n % m != 0)

/-- A generic opcode: its checks in order, then its result of L words (05 R225, R227). `r` is none when the inversion fails. -/
def runGeneric (s : State) (id : Nat) (checkB : Bool) (r : GenOps → Option Nat) : State :=
  let g := genOps (s.job id)
  let c := firstFail [(modulusOk g.L g.n, 0x1014), (decide (g.a < g.n), 0x1010), (!checkB || decide (g.b < g.n), 0x1010)]
  if c ≠ 0 then failValid s id c
  else match r g with
    | none => failValid s id 0x1015
    | some v => passJob s id (toLE (8 * g.L) v) 1 0

/-- MODADD (05 R229). -/
def execModadd (job : Nat) (s : State) : Out :=
  onSquad s job 0x0101 (fun s => runGeneric s job true (fun g => some ((g.a + g.b) % g.n)))

/-- MODMUL (05 R229). -/
def execModmul (job : Nat) (s : State) : Out :=
  onSquad s job 0x0102 (fun s => runGeneric s job true (fun g => some (g.a * g.b % g.n)))

/-- MODEXP (05 R229, R232, R234): every window of E is processed, leading zeros included; a gang's yields at the end of a window. -/
def execModexp (job : Nat) (s : State) : Out :=
  onSquad s job 0x0103 (fun s => runGeneric s job false (fun g => some (powMod g.a g.b g.n)))

/-- MODINV (05 R229): NOT_INVERTIBLE when the gcd is not 1. -/
def execModinv (job : Nat) (s : State) : Out :=
  onSquad s job 0x0104 (fun s => runGeneric s job false (fun g => invMod? g.a g.n))

end Sys2Proof.Machine
end

