-- ==== Sys2Proof/Machine/Mgmt.lean ====
section
/-! DEFINITION. The PF0 mailbox, the GAP handshake and sessions, and the countersign messages (22). -/

namespace Sys2Proof.Machine

open Sys2Proof

/-! ### Messages of a session -/

/-- A message that asks for a role: 22 Table 7's Role column, refused with ROLE_DENIED (22 R765, R800). -/
def onRole (s : State) (x : SessId) (req : BitVec 16) (msg : Nat) (may : Nat → Bool) (f : State → State) : Out :=
  onMsg s x req (fun s =>
    if may (s.sess x).role then f s else replyStatus s x msg req 0x7020 [])

/-- The body length that Table 7 gives a message of the mailbox or, within a session, of GAP, for the LENGTH of a WRITE (22 Table 7). -/
def bodyLen (gap : Bool) (msg len : Nat) : Option Nat :=
  if (msg = 0x05 ∨ msg = 0x06 ∨ msg = 0x07) ∧ gap then none
  else if msg = 0x3F ∧ gap then some 0
  else if msg = 0x05 ∨ msg = 0x07 ∨ msg = 0x20 ∨ msg = 0x24 ∨ msg = 0x3E then some 0
  else if msg = 0x06 then some 97
  else if msg = 0x10 then some 10
  else if msg = 0x11 then some (6 + len)
  else if msg = 0x12 ∨ msg = 0x22 then some 4
  else if msg = 0x21 then some 101
  else if msg = 0x23 then some 8
  else none

/-- A message breaks its form (22 R781): LEN, FLAGS, zero bytes, limits; a GAP message fills its frame. A message that Table 7 does not
give the path is left to MSG_UNKNOWN. -/
def badForm (gap : Bool) (m : Bytes) : Bool :=
  let b (i : Nat) : Nat := (m.getD i 0).toNat
  let len := b 4 + 256 * b 5
  match bodyLen gap (b 0) (b 12 + 256 * b 13) with
  | none => false
  | some n => b 1 != 0 || b 6 != 0 || b 7 != 0 || len != n || (if gap then m.length != 8 + len else decide (28 * 1024 < 8 + len)) ||
      ((b 0 == 0x10 || b 0 == 0x11 || b 0 == 0x12) && b 11 != 0) || (b 0 == 0x10 && decide (1024 < b 16 + 256 * b 17))

/-- The refusal of a message that breaks its form (22 R781). -/
def refuseForm (s : State) (x : SessId) (m : Bytes) : Out :=
  let req := BitVec.ofNat 16 (leNat ((m.drop 2).take 2))
  onMsg s x req (fun s => replyStatus s x (m.getD 0 0).toNat req 0x7027 [])

/-- MB_GO (22 R772): the request area is copied and BUSY set; a GO while BUSY is dropped and sets DROPPED. A request that
breaks its form is refused with MSG_FORMAT (22 R781). -/
def execMbGo (s : State) : Out :=
  if !s.mainUp then .next s
  else if s.mgmt.busy then .next (s.withMgmt (fun m => { m with dropped := true }))
  else
    let m := Mem.read 0 s.mgmt.reqArea 0 (28 * 1024)
    let s1 := s.withMgmt (fun g => { g with request := m, busy := true })
    if badForm false m then refuseForm s1 .mailbox m else .next s1

/-- NOP_MESSAGE (22 R787). -/
def execNopMessage (sess : SessId) (req : BitVec 16) (s : State) : Out :=
  onRole s sess req 0x3E (fun r => roleReaches r 1) (fun s => replyStatus s sess 0x3E req 0 [])

/-- The messages of Table 7 that a path names (22 Table 7). -/
def knownMsg (x : SessId) (msg : Nat) : Bool :=
  [0x10, 0x11, 0x12, 0x20, 0x21, 0x22, 0x23, 0x24, 0x3E].contains msg ||
    (match x with
     | .mailbox => [0x05, 0x06, 0x07].contains msg
     | .gap _ => [0x01, 0x03, 0x30, 0x3F, 0xB0].contains msg)

/-- MSG_UNKNOWN (22 R781). -/
def execMsgUnknown (sess : SessId) (req : BitVec 16) (msg : Nat) (s : State) : Out :=
  if knownMsg sess msg then .next s
  else onMsg s sess req (fun s => reply s sess 0xFF req (toLE 2 0x7026))

/-- DESCRIBE (22 R787). -/
def execDescribe (sess : SessId) (req : BitVec 16) (index sub : Nat) (s : State) : Out :=
  onRole s sess req 0x12 (fun r => roleReaches r 1) (fun s =>
    match glossRow (index * 256 + sub) with
    | none => replyStatus s sess 0x12 req 0x7021 []
    | some r => replyStatus s sess 0x12 req 0 (toLE 1 r.ty.code ++ toLE 1 r.acc.code ++ toLE 1 r.rd ++ toLE 1 r.wr ++
        toLE 4 r.ty.size ++ fit 48 (ascii r.name)))

/-! ### Officer role of the mailbox (22 R774) -/

/-- AUTH_CHALLENGE: a fresh nonce; it voids the previous one. -/
def execAuthChallenge (req : BitVec 16) (s : State) : Out :=
  onRole s .mailbox req 0x05 (fun r => roleReaches r 2) (fun s =>
    let (n, s1) := s.drawBytes 48
    replyStatus (s1.withSess .mailbox (fun z => { z with nonce := some n })) .mailbox 0x05 req 0 n)

/-- The credential slot. -/
def State.cred (s : State) (k : Nat) : Cred := s.mgmt.creds.get {} k

/-- AUTH_RESPONSE: the signature of the nonce under the key of an Officer slot gives the Officer role. -/
def execAuthResponse (req : BitVec 16) (cred : Nat) (sig : Bytes) (s : State) : Out :=
  onRole s .mailbox req 0x06 (fun r => roleReaches r 2) (fun s =>
    let s1 := s.withSess .mailbox (fun z => { z with nonce := none })
    match s.mgmt.mbox.nonce with
    | none => replyStatus s1 .mailbox 0x06 req 0x7003 []
    | some n =>
      let c := s.cred cred
      let msg := ascii "VZM7216 MB-AUTH" ++ zeros 1 ++ n ++ fit 16 Config.serial
      if decide (cred < 32) && c.role == 3 && Config.ecdsaVerify 2 c.key (Config.sha384 msg) sig then
        replyStatus (s1.withSess .mailbox (fun z => { z with role := 3, cred := some cred })) .mailbox 0x06 req 0 (toLE 1 3)
      else replyStatus s1 .mailbox 0x06 req 0x7003 [])

/-- The Officer role of the mailbox ends (22 R774). -/
def dropOfficer (s : State) : State := s.withSess .mailbox (fun z => { z with role := 2, cred := none })

/-- AUTH_DROP. -/
def execAuthDrop (req : BitVec 16) (s : State) : Out :=
  onRole s .mailbox req 0x07 (fun r => roleReaches r 2) (fun s => replyStatus (dropOfficer s) .mailbox 0x07 req 0 [])

/-- OFFICER_IDLE: 600 s without a mailbox message. -/
def execOfficerIdle (s : State) : Out :=
  if s.mgmt.mbox.role == 3 && !s.mgmt.busy && decide (s.mgmt.mbox.lastAt + secTicks 600 ≤ s.now) then .next (dropOfficer s)
  else .next s

/-- The mailbox session opened anew; MB_STATUS and both areas return to reset (22 R773). -/
def reopenMailbox (s : State) : State :=
  s.withMgmt (fun m => { m with busy := false, done := false, dropped := false, reqId := 0, reqArea := [], request := [],
                                respArea := [], mbox := { lastAt := s.now } })

/-! ### GAP (22 R777 to R786) -/

/-- GAP_SESSION recorded: 0 opened, 1 closed, 2 refused; the peer's node is not known to the model and is free. -/
def gapEvent (s : State) (ev role : Nat) : State :=
  let (n, s1) := s.drawNat
  s1.event 231 0x0902 1 (toLE 1 n ++ toLE 1 (Config.code 5 ev) ++ toLE 1 role)

/-- A session closed: its draft goes with it (22 R784, R789). -/
def closeGap (s : State) (n : Nat) : State :=
  let x := s.sess (.gap n)
  gapEvent (s.withMgmt (fun m => { m with gap := m.gap.erase n })) 1 x.role

/-- Every GAP session closed (22 R784: a lifecycle change, loss of both host supplies). -/
def closeAllGap (s : State) : State := (s.mgmt.gap.map Prod.fst).foldl closeGap s

/-- The management segment is served (22 R777, 18 Table 3). -/
def gapOn (s : State) : Bool := s.hostSupply && s.gv gMgmtEnable == 1

/-- HELLO (22 R780 steps 1 and 2, R784): at most 8 sessions; `key` is the subject public key of the certificate. -/
def execHello (nonce eph cert key : Bytes) (s : State) : Out :=
  if !gapOn s || decide (8 ≤ s.mgmt.gap.length) then .next s
  else if nonce.length ≠ 32 ∨ eph.length ≠ 97 ∨ 1024 < cert.length then .next (gapEvent s 2 0)
  else
    let body := nonce ++ eph ++ toLE 2 cert.length ++ cert
    let (mn, s1) := s.drawBytes 32
    let (me, s2) := s1.drawBytes 97
    let (rnd, s3) := s2.drawBytes 32
    let acert := Config.aliasCert s.link.slot1
    let pre := mn ++ me ++ toLE 2 acert.length ++ acert
    let sig := fit 96 (Config.ecdsaSign 2 (aliasKey s.link.slot1) (Config.sha384 (body ++ pre)) rnd)
    let n := s.mgmt.gapNext
    let x : Sess := { role := 0, opened := false, hello := some (body ++ pre ++ sig), peerKey := key, openedAt := s.now,
                      lastAt := s.now, sent := [message 0x81 0 (pre ++ sig)] }
    .next (s3.withMgmt (fun m => { m with gap := m.gap.set n x, gapNext := n % 65535 + 1 }))

/-- The credential slot that holds a key, if any (22 R768, R780). -/
def credOf (s : State) (key : Bytes) : Option Nat :=
  (List.range 32).find? (fun k => (s.cred k).role != 0 && (s.cred k).key == key)

/-- FINISH (22 R780 steps 3 and 4): the peer is admitted with the role of the slot that holds its key, or refused. -/
def execFinish (sess : Nat) (sig : Bytes) (s : State) : Out :=
  let x := s.sess (.gap sess)
  match x.hello with
  | none => .next s
  | some t =>
    if !gapOn s || x.opened then .next s
    else match credOf s x.peerKey with
      | some k =>
        if Config.ecdsaVerify 2 x.peerKey (Config.sha384 t) sig then
          let r := (s.cred k).role
          let s1 := s.withSess (.gap sess) (fun z => { z with
            opened := true, role := r, cred := some k, seqOut := 1, framesOut := 1, framesIn := 1, lastAt := s.now,
            openedAt := s.now, sent := z.sent ++ [message 0x83 0 (toLE 2 0 ++ toLE 1 r)] })
          .next (gapEvent s1 0 r)
        else .next (gapEvent (s.withMgmt (fun m => { m with gap := m.gap.erase sess })) 2 0)
      | none => .next (gapEvent (s.withMgmt (fun m => { m with gap := m.gap.erase sess })) 2 0)

/-- CLOSE (22 R784): no reply. -/
def execClose (sess : Nat) (_req : BitVec 16) (s : State) : Out :=
  if (s.sess (.gap sess)).opened && gapOn s then .next (closeGap s sess) else .next s

/-- GAP_SESSION_EXPIRY (22 R784): 300 s without an accepted frame, 24 h after the handshake, or 2^32 frames in either
direction. -/
def execGapSessionExpiry (sess : Nat) (s : State) : Out :=
  match s.mgmt.gap.find sess with
  | none => .next s
  | some x =>
    if decide (x.lastAt + secTicks 300 ≤ s.now) || decide (x.openedAt + secTicks 86400 ≤ s.now)
        || decide (2 ^ 32 ≤ x.framesIn) || decide (2 ^ 32 ≤ x.framesOut) then .next (closeGap s sess)
    else .next s

/-- NOTIFY_ACK (22 R786). -/
def execNotifyAck (sess : Nat) (req : BitVec 16) (s : State) : Out :=
  if (s.sess (.gap sess)).opened then
    .next (s.withSess (.gap sess) (fun z => { z with notifies := z.notifies.filter (fun n => n.req % 65536 != req.toNat) }))
  else .next s

/-- One NOTIFY sent again (22 R786). -/
def resend (now : Nat) (req : Nat) (z : Sess) : Sess :=
  match z.notifies.find? (fun n => n.req % 65536 == req) with
  | none => z
  | some n =>
    if n.resends < 5 ∧ n.sentAt + secTicks 1 ≤ now then
      { z with notifies := z.notifies.map (fun k => if k.req = n.req then { k with resends := k.resends + 1, sentAt := now } else k), seqOut := z.seqOut + 1, framesOut := z.framesOut + 1, sent := z.sent ++ [message 0x30 (n.req % 65536) n.body] }
    else z

/-- NOTIFY_RESEND (22 R786): every 1 s, at most 5 times, until acknowledged. -/
def execNotifyResend (sess : Nat) (req : BitVec 16) (s : State) : Out :=
  if (s.sess (.gap sess)).opened then .next (s.withSess (.gap sess) (resend s.now req.toNat)) else .next s

/-- What a frame within the rate limit does (22 R777, R781, R783). A message of sound form acts as the command of its own row. -/
def takeFrame (s : State) : FrameKind → Out
  | .neighborSolicitation => .next (s.withMgmt (fun m => { m with frameReplies := m.frameReplies + 1 }))
  | .echoRequest => .next (s.withMgmt (fun m => { m with frameReplies := m.frameReplies + 1 }))
  | .gapProtected n seq tagOk msg =>
    let x := s.sess (.gap n)
    if x.opened && tagOk && decide (x.seqIn < seq) then
      let s1 := s.withSess (.gap n) (fun z => { z with seqIn := seq, framesIn := z.framesIn + 1, lastAt := s.now })
      if badForm true msg then refuseForm s1 (.gap n) msg else .next s1
    else .next (s.bump gMgmtGapRejected)
  | .foreign => .next s

/-- INBOUND_FRAME (22 R777, R778, R783): at most 2,000 frames per second are processed. -/
def execInboundFrame (frame : FrameKind) (s : State) : Out :=
  if !gapOn s then .next s
  else
    let sec := s.now / secTicks 1
    let k := if s.mgmt.frameSecond = sec then s.mgmt.frameCount else 0
    if 2000 ≤ k then .next (s.bump gMgmtRxDropped)
    else takeFrame (s.withMgmt (fun m => { m with frameSecond := sec, frameCount := k + 1 })) frame

/-! ### Countersign (22 R789 to R799) -/

/-- A set is held: its slot is not FREE (22 R791). -/
def ChangeSet.isHeld (x : ChangeSet) : Bool := x.code != 0x356

/-- The slot of a held set by its CHANGE_ID. -/
def heldSlot (s : State) (id : Nat) : Option Nat :=
  (s.mgmt.slots.find? (fun e => e.2.isHeld && e.2.id == id)).map Prod.fst

/-- The 16 slots that are free, rising. -/
def freeSlots16 (s : State) : List Nat := (List.range 16).filter (fun k => !(s.mgmt.slots.get {} k).isHeld)

/-- Two records cover the same entry under the same selectors, or one guard (22 R792). -/
def sameCover (a b : CsRec) : Bool :=
  a.idx == b.idx && a.sub == b.sub && a.selA == b.selA && (a.selB == b.selB || (a.idx == 0x4110 && a.sub == 4))

/-- A record of the draft as it stands in the sealed set: a guard's writes merged into one record with its whole staging
bank; a changeover.slot record with raise.floor and the header bytes (22 R790). -/
def sealRec (s : State) (r : CsRec) : CsRec :=
  if r.idx = 0x4110 ∧ r.sub = 4 then { r with selB := 0xFFFF, value := bankBytes r.selA (s.guards.get {} r.selA).staging }
  else if r.idx = 0x1101 ∧ r.sub = 1 then
    { r with value := fit 1 r.value ++ toLE 1 (s.gv gChangeoverRaiseFloor) ++ zeros 2 ++
        imageHeader s (leNat (r.value.take 1)) }
  else r

/-- The records of a sealed set, in the order in which their entries were first written. -/
def sealRecs (s : State) : List CsRec → List CsRec → List CsRec
  | [], acc => acc
  | r :: l, acc => if acc.any (sameCover r) then sealRecs s l acc else sealRecs s l (acc ++ [sealRec s r])

/-- One record encoded (22 Table 9). -/
def csRecBytes (r : CsRec) : Bytes :=
  toLE 2 r.idx ++ toLE 1 r.sub ++ zeros 1 ++ toLE 2 r.selA ++ toLE 2 r.selB ++ toLE 2 r.value.length ++ zeros 2 ++
    r.value ++ zeros ((4 - r.value.length % 4) % 4)

/-- A change set encoded (22 Tables 8 and 9). -/
def csEncode (s : State) (id : Nat) (recs : List CsRec) : Bytes :=
  ascii "VZM7216 CHANGE" ++ zeros 2 ++ fit 16 Config.serial ++ toLE 4 (s.gv gLifeSeq) ++ toLE 4 id ++ toLE 2 recs.length
    ++ zeros 6 ++ (recs.map csRecBytes).flatten

/-- The code of the guard commit machine at a step of a set that covers guards (15 R584, Table 6). -/
def guardStep (s : State) (x : ChangeSet) (c : Nat) : State :=
  if (setGuards x).isEmpty then s else s.gset gGuardCommitState c

/-- CS_SEAL (22 R792). -/
def execCsSeal (sess : SessId) (req : BitVec 16) (s : State) : Out :=
  onRole s sess req 0x20 (fun r => r == 3) (fun s =>
    let d := (s.sess sess).draft
    if d.isEmpty then replyStatus s sess 0x20 req 1 []
    else match freeSlots16 s with
      | [] => replyStatus s sess 0x20 req 0x7004 []
      | k :: _ =>
        if d.any (fun r => s.mgmt.slots.any (fun e => e.2.isHeld && e.2.recs.any (sameCover r))) then
          replyStatus s sess 0x20 req 0x7002 []
        else
          let recs := sealRecs s d []
          let id := s.gv gCsNextId
          let old := s.mgmt.slots.get {} k
          let x : ChangeSet := { code := 0x365, id := id, recs := recs, hash := fit 48 (Config.sha384 (csEncode s id recs)),
                                 window := s.gv gCsWindow, deadline := s.clock.st + 256 * s.gv gCsWindow,
                                 final := old.final, reason := old.reason }
          let s1 := (s.withMgmt (fun m => { m with slots := m.slots.set k x })).gset gCsNextId ((id + 1) % 2 ^ 32)
          let s2 := guardStep (s1.withSess sess (fun z => { z with draft := [] })) x 0xC3C
          replyStatus (csNote s2 x 0 0x365) sess 0x20 req 0 (toLE 4 id ++ toLE 2 recs.length ++ x.hash))

/-- CS_SIGN (22 R793, R795). -/
def execCsSign (sess : SessId) (req : BitVec 16) (change cred : Nat) (sig : Bytes) (s : State) : Out :=
  onRole s sess req 0x21 (fun r => roleReaches r 1) (fun s =>
    match heldSlot s change with
    | none => replyStatus s sess 0x21 req 0x7005 []
    | some k =>
      let x := s.mgmt.slots.get {} k
      if x.code ≠ 0x365 then replyStatus s sess 0x21 req 0x7006 []
      else if x.deadline ≤ s.clock.st then replyStatus (freeSet s k 0x7001 1) sess 0x21 req 0x7001 []
      else
        let c := s.cred cred
        let msg := ascii "VZM7216 CS-SIGN" ++ zeros 1 ++ x.hash
        if decide (cred < 32) && c.role == 3 && Config.ecdsaVerify 2 c.key (Config.sha384 msg) sig then
          let y : ChangeSet := { x with code := 0x5A3, deadline := s.clock.st + 256 * x.window }
          let s1 := guardStep (s.withMgmt (fun m => { m with slots := m.slots.set k y })) y 0x3F0
          replyStatus (csNote s1 y 1 0x5A3) sess 0x21 req 0 []
        else replyStatus s sess 0x21 req 0x7003 [])

/-- The set may be cancelled or expire: STAGED or SIGNED (22 R795, R796). -/
def ChangeSet.isOpen (x : ChangeSet) : Bool := x.code == 0x365 || x.code == 0x5A3

/-- CS_CANCEL (22 R796). -/
def execCsCancel (sess : SessId) (req : BitVec 16) (change : Nat) (s : State) : Out :=
  onRole s sess req 0x22 (fun r => r == 3 || r == 4) (fun s =>
    match heldSlot s change with
    | none => replyStatus s sess 0x22 req 0x7005 []
    | some k =>
      if (s.mgmt.slots.get {} k).isOpen then replyStatus (freeSet s k 0x7001 2) sess 0x22 req 0 []
      else replyStatus s sess 0x22 req 0x7006 [])

/-- Seconds to a set's deadline; 0 outside STAGED and SIGNED (22 Table 13). -/
def csLeft (s : State) (x : ChangeSet) : Nat := if x.isOpen then (x.deadline - s.clock.st) / 256 else 0

/-- CS_QUERY (22 R787). -/
def execCsQuery (sess : SessId) (req : BitVec 16) (change off : Nat) (s : State) : Out :=
  onRole s sess req 0x23 (fun r => roleReaches r 1) (fun s =>
    match heldSlot s change with
    | none => replyStatus s sess 0x23 req 0x7005 []
    | some k =>
      let x := s.mgmt.slots.get {} k
      let e := csEncode s x.id x.recs
      replyStatus s sess 0x23 req 0 (toLE 2 x.code.toNat ++ toLE 2 x.final ++ toLE 4 (csLeft s x) ++ x.hash ++
        toLE 4 e.length ++ (e.drop off).take 1024))

/-- CS_DISCARD (22 R789). -/
def execCsDiscard (sess : SessId) (req : BitVec 16) (s : State) : Out :=
  onRole s sess req 0x24 (fun r => r == 3) (fun s =>
    replyStatus (s.withSess sess (fun z => { z with draft := [] })) sess 0x24 req 0 [])

/-- COUNTERSIGN_EXPIRY (22 R795). -/
def execCountersignExpiry (slot : Nat) (s : State) : Out :=
  let x := s.mgmt.slots.get {} slot
  if x.isOpen && decide (x.deadline ≤ s.clock.st) then .next (freeSet s slot 0x7001 1) else .next s

/-- An approval counted: the counter is stored, the set is durable and APPROVED (22 R794, R795); the answer is the status
of the request. -/
def approve (s : State) (k slot counter : Nat) : Nat × State :=
  let x := s.mgmt.slots.get {} k
  if x.deadline ≤ s.clock.st then (0x7001, freeSet s k 0x7001 1)
  else
    let y : ChangeSet := { x with code := 0xC9A, order := s.mgmt.orderNext }
    let s1 := s.withMgmt (fun m => { m with
      slots := m.slots.set k y, orderNext := m.orderNext + 1,
      creds := m.creds.upd {} slot (fun c => { c with counter := counter }) })
    (0, csNote s1 y 2 0xC9A)

/-- Sets in STAGED or SIGNED lost with the power (22 R798). -/
def losePower (s : State) : State :=
  s.withMgmt (fun m => { m with slots := m.slots.mapVals (fun _ x => if x.isOpen then { x with code := 0x356, final := 0x7001 } else x) })

/-- The sessions that rest on a credential slot end, and a mailbox Officer role gained with it (22 R771). -/
def endCredSessions (s : State) (k : Nat) : State :=
  let s1 := (s.mgmt.gap.keysWith (fun x => x.cred == some k)).foldl closeGap s
  if s1.mgmt.mbox.cred = some k then dropOfficer s1 else s1

end Sys2Proof.Machine
end

