-- ==== Sys2Proof/Machine/Approve.lean ====
section
/-! DEFINITION. The approval applet on a card or a badge: identification, requests, midstep records (23 R808 to R815, 24 R824 to
R827). -/

namespace Sys2Proof.Machine

open Sys2Proof

def State.withAppr (s : State) (f : Approvals → Approvals) : State := { s with appr := f s.appr }

/-- The card (false) or the badge (true). -/
def State.tok (s : State) (b : Bool) : TokSt := if b then s.appr.badge else s.appr.card

def State.withTok (s : State) (b : Bool) (f : TokSt → TokSt) : State :=
  s.withAppr (fun a => if b then { a with badge := f a.badge } else { a with card := f a.card })

/-- The change-set slot. -/
def State.cset (s : State) (k : Nat) : ChangeSet := Tab.get {} s.mgmt.slots k

/-- Island of the interface: CRD or CLR. -/
def tokIsl (b : Bool) : Nat := if b then 234 else 233

/-- Domain K is powered and the interface's island serves (18 Table 3). -/
def tokUp (s : State) (b : Bool) : Bool := s.mainUp && decide (s.isl (tokIsl b) ≤ 1)

/-- card.result or field.result. -/
def setResult (s : State) (b : Bool) (st : Nat) : State := s.gset (if b then gFieldResult else gCardResult) st

/-- Ticks of a number of clock cycles at a frequency in kHz. -/
def cycTicks (cycles khz : Nat) : Nat := cycles * 400000 / khz

/-- Fi and its highest clock in kHz by the high half of TA1, Di by the low half (ISO/IEC 7816-3, named by 23 R802). -/
def fiOf (ta1 : Nat) : Nat × Nat :=
  match ta1 / 16 % 16 with
  | 1 => (372, 5000) | 2 => (558, 6000) | 3 => (744, 8000) | 4 => (1116, 12000) | 5 => (1488, 16000) | 6 => (1860, 20000)
  | 9 => (512, 5000) | 10 => (768, 7500) | 11 => (1024, 10000) | 12 => (1536, 15000) | 13 => (2048, 20000) | _ => (372, 4000)

def diOf (ta1 : Nat) : Nat :=
  match ta1 % 16 with
  | 2 => 2 | 3 => 4 | 4 => 8 | 5 => 16 | 6 => 32 | 7 => 64 | 8 => 12 | 9 => 20 | _ => 1

/-- How long the card or badge may take to answer: a card 40,000 cycles with RST low and 40,000 more for its ATR, 9,600 etu for a PPS,
then its BWT; a badge 5 ms before its ATS, then its FWT (23 R804, Table 1, 24 R821, R822; log entry 99). -/
def answerWait (t : TokSt) (b : Bool) (g : TokStage) : Nat :=
  if b then
    match g with
    | .atqa | .anticoll | .sak | .ats => msTicks 5
    | _ => 4096 * 2 ^ t.fwi * 40000 / 1356
  else
    match g with
    | .atr => cycTicks 80000 4000
    | .pps => cycTicks (9600 * 372) 4000
    | _ => cycTicks (11 * (fiOf t.fidi).1 / diOf t.fidi + 2 ^ t.bwi * 960 * 372) (max 1 t.khz)

/-- A block sent: what it stands for, its counts of retransmission and waiting cleared, the clock running (23 R804 to R806). -/
def sendTok (s : State) (b : Bool) (g : TokStage) : State :=
  s.withTok b (fun t => { t with
    stage := g, resends := 0, resynch := false, wtx := 0, clockOn := true, waitUntil := s.now + answerWait t b g })

/-- The request in progress ended with a status; the card or badge is READY again. -/
def endRequest (s : State) (b : Bool) (st : Nat) : State :=
  ((setResult s b st).withAppr (fun a => { a with req := none })).withTok b (fun t => { t with stage := .ready, seenAt := s.now })

/-- The Custodian slot that holds a key (23 R808). -/
def custodianOf (s : State) (key : Bytes) : Option Nat :=
  (List.range 32).find? (fun k => (s.cred k).role == 4 && (s.cred k).key == key)

/-- Module outcome of a status word that is no success (23 Table 4). -/
def swOutcome (sw : Nat) : Nat :=
  if sw / 16 = 0x63C then 0x7032 else if sw = 0x6983 then 0x7033 else 0x7034

/-- What an approval signs (23 R811). -/
def approveMsg (change : Nat) (hash : Bytes) (counter : Nat) : Bytes :=
  ascii "VZM7216 CS-APPROVE" ++ zeros 1 ++ fit 16 Config.serial ++ toLE 4 change ++ fit 48 hash ++ toLE 4 counter

/-- The midstep record resolved: the outcome recorded, the record cleared (23 R815). -/
def resolveMidstep (s : State) (b : Bool) (m : Midstep) (counted : Bool) : State :=
  (s.event (tokIsl b) 0x0904 1 (toLE 4 m.change ++ toLE 1 (Config.code 10 (b2n (!counted))))).withAppr (fun a => { a with midstep := none })

/-- A card or badge becomes READY; when it holds the key of the midstep record, the record is resolved before any request (23 R808,
R815). -/
def becomeReady (s : State) (b : Bool) (slot counter : Nat) : State :=
  let s1 := (sendTok s b .ready).withTok b (fun t => { t with cred := some slot, counter := counter, seenAt := s.now })
  match s.appr.midstep with
  | none => s1
  | some m =>
    if m.slot ≠ slot then s1
    else if m.counter < counter then sendTok s1 b .receipt
    else resolveMidstep s1 b m false

/-- The answer to GET RECEIPT: one that names the change and verifies raises the slot's counter and approves the set when it is still
SIGNED; any other makes the step void (23 R815). -/
def takeReceipt (s : State) (b : Bool) (sw : Nat) (data : Bytes) : State :=
  let s1 := sendTok s b .ready
  match s.appr.midstep with
  | none => s1
  | some m =>
    let n := m.counter + 1
    let names := sw == 0x9000 && data.length == 148 && leNat (data.take 4) == m.change && (data.drop 4).take 48 == fit 48 m.hash
    if names && Config.ecdsaVerify 2 (s.cred m.slot).key (Config.sha384 (approveMsg m.change m.hash n)) (data.drop 52) then
      let s2 := s1.withMgmt (fun g => { g with creds := g.creds.upd {} m.slot (fun c => { c with counter := max c.counter n }) })
      match heldSlot s2 m.change with
      | none => resolveMidstep s2 b m false
      | some k =>
        if (s2.cset k).code = 0x5A3 then
          let (st, s3) := approve s2 k m.slot (max (s.cred m.slot).counter n)
          resolveMidstep s3 b m (st == 0)
        else resolveMidstep s2 b m false
    else resolveMidstep s1 b m false

/-- Step 5 of 23 R813: the signature and the counter are checked and the set is approved. -/
def takeApproval (s : State) (b : Bool) (r : AppReq) (data : Bytes) : State :=
  let slot := (s.tok b).cred.getD 0
  let counter := leNat (data.take 4)
  match heldSlot s r.change with
  | none => endRequest s b 0x7005
  | some k =>
    let x := s.cset k
    let ok := data.length == 100 && decide ((s.cred slot).counter < counter) && (s.cred slot).role == 4 &&
      Config.ecdsaVerify 2 (s.cred slot).key (Config.sha384 (approveMsg x.id x.hash counter)) (data.drop 4)
    if !ok then endRequest s b 0x7003
    else if x.code ≠ 0x5A3 then endRequest s b 0x7006
    else
      let (st, s1) := approve s k slot counter
      endRequest s1 b st

/-- The answer to VERIFY PIN: a refusal cancels the set, an approval goes on with APPROVE (23 R813 steps 2 to 4). -/
def takePin (s : State) (b : Bool) (r : AppReq) (sw : Nat) : State :=
  if sw ≠ 0x9000 then endRequest s b (swOutcome sw)
  else match heldSlot s r.change with
    | none => endRequest s b 0x7005
    | some k =>
      if (s.cset k).code ≠ 0x5A3 then endRequest s b 0x7006
      else if r.action = 2 then endRequest (freeSet s k 0x7001 3) b 0
      else sendTok s b .approve

/-- A card is deactivated or a badge has left the field. An APPROVE in doubt leaves a midstep record and completes CARD_REMOVED; any
other request ends with the status given (23 R807, R814, 24 R827). -/
def tokGone (s : State) (b : Bool) (g : TokStage) (st : Nat) : State :=
  let t := s.tok b
  let s1 := match s.appr.req with
    | none => s
    | some r =>
      if r.badge ≠ b then s
      else if t.stage = TokStage.approve then
        let hash := match heldSlot s r.change with | some k => (s.cset k).hash | none => []
        let m : Midstep := { change := r.change, hash := hash, slot := t.cred.getD 0, counter := t.counter }
        let s2 := (s.withAppr (fun a => { a with midstep := some m, req := none })).bump gCardRemovedMidstep
        setResult (s2.event (tokIsl b) 0x0903 1 (toLE 4 m.change ++ toLE 4 m.counter)) b 0x7037
      else setResult (s.withAppr (fun a => { a with req := none })) b st
  let s2 := s1.withTok b (fun _ => { stage := g, counter := t.counter })
  if b then s2.withAppr (fun a => { a with carrier := false, pingAt := s.now }) else s2

/-- A block in error or unanswered is sent again at most twice; a card then draws S(RESYNCH), and a further failure ends it (23 R804,
24 R822). -/
def blockFails (s : State) (b : Bool) : State :=
  let t := s.tok b
  let again := s.now + answerWait t b t.stage
  if t.resends < 2 then s.withTok b (fun t => { t with resends := t.resends + 1, waitUntil := again })
  else if !b && !t.resynch then s.withTok b (fun t => { t with resynch := true, waitUntil := again })
  else if b then tokGone s b .absent 0x7037
  else tokGone (setResult s b 0x7034) b .failed 0x7034

/-- S(WTX) granted while the waits for one block total at most 60 s; a request beyond that ends the card or the badge (23 R805, 24
R822). -/
def grantWtx (s : State) (b : Bool) (secs : Nat) : State :=
  if (s.tok b).wtx + secs ≤ 60 then
    s.withTok b (fun t => { t with wtx := t.wtx + secs, waitUntil := s.now + max (answerWait t b t.stage) (msTicks (1000 * secs)) })
  else tokGone (setResult s b 0x7034) b (if b then .absent else .failed) 0x7034

/-- A response of the applet to the command in hand (23 Tables 1, 2, 4). -/
def takeResp (s : State) (b : Bool) (sw : Nat) (data : Bytes) : State :=
  match (s.tok b).stage, s.appr.req with
  | .pin, some r => takePin s b r sw
  | .approve, some r => if sw = 0x9000 then takeApproval s b r data else endRequest s b (swOutcome sw)
  | .receipt, _ => takeReceipt s b sw data
  | _, _ => s

/-- A request written: refused, or accepted and begun (23 R812, R813). The answer is the status of the write. -/
def beginRequest (s : State) (b : Bool) (v : Bytes) : Nat × State :=
  let t := s.tok b
  let change := leNat (v.take 4)
  let action := ((v.drop 4).headD 0).toNat
  let blocked := match s.appr.midstep with | some m => t.cred != some m.slot | none => false
  if s.appr.req.isSome ∨ t.stage = .receipt then (0x7035, s)
  else if t.stage = .unknown then (0x7031, s)
  else if t.stage ≠ .ready then (0x7030, s)
  else if blocked then (0x7035, s)
  else if (action ≠ 1 ∧ action ≠ 2) ∨ (v.drop 5).take 3 ≠ zeros 3 then (0x7022, s)
  else
    match heldSlot s change with
    | none => (0, setResult s b 0x7005)
    | some k =>
      if (s.cset k).code ≠ 0x5A3 then (0, setResult s b 0x7006)
      else (0, (sendTok s b .pin).withAppr (fun a => { a with req := some { badge := b, change := change, action := action, pin := v.drop 8 } }))

/-- A write of card.request or field.request: the access checks, then the checks of R812, then the reply (23 R812, 24 R826). -/
def requestWrite (s : State) (x : SessId) (req : BitVec 16) (b : Bool) (v : Bytes) : State :=
  let st := writeCheck s x (if b then 0x540007 else 0x530008) v true false
  if st ≠ 0 then replyStatus (countRefusal s st false) x 0x11 req st []
  else
    let r := beginRequest s b v
    replyStatus r.2 x 0x11 req r.1 []

/-- A change of the credential table sends a READY card or badge back to the SELECT of its applet (23 R808, 22 R771). -/
def recheckTok (s : State) : State :=
  let one (s : State) (b : Bool) : State := if (s.tok b).stage = .ready then sendTok s b .select else s
  one (one s false) true

/-- card.state and field.badge.state (23 Table 7). -/
def tokState (t : TokSt) : Nat :=
  match t.stage with
  | .absent => 0 | .ready => 2 | .unknown => 3 | .pin | .approve | .receipt => 4 | .failed => 5 | _ => 1

end Sys2Proof.Machine
end

