-- ==== Sys2Proof/Machine/Padding.lean ====
section
/-! DEFINITION. Encodings of RSA messages: EMSA-PKCS1-v1_5, EMSA-PSS, EME-OAEP and MGF1 (07 R284, R285; RFC 8017). The hashes are named and
not restated (log entry 3). -/

namespace Sys2Proof.Machine

open Sys2Proof

/-- A hash of 07 Table 2, at its length. -/
def hashOf (h : Nat) (b : Bytes) : Bytes := fit (hLen h) (Config.hash h b)

/-- Octets combined bit by bit. -/
def xorBytes (a b : Bytes) : Bytes := a.zipWith (· ^^^ ·) b

/-- The last arc of the object identifier of a hash under 2.16.840.1.101.3.4.2 (RFC 8017, FIPS 202). -/
def hashArc : Nat → Byte
  | 1 => 0x01 | 2 => 0x02 | 3 => 0x03 | 4 => 0x08 | 5 => 0x09 | _ => 0x0A

/-- DigestInfo of a digest: the parameters are NULL for a SHA-2 hash and absent for a SHA-3 one (07 R284). -/
def digestInfo (h : Nat) (dig : Bytes) : Bytes :=
  let oid : Bytes := [0x06, 0x09, 0x60, 0x86, 0x48, 0x01, 0x65, 0x03, 0x04, 0x02, hashArc h]
  let params : Bytes := if h ≤ 3 then [0x05, 0x00] else []
  let alg := 0x30 :: toLE 1 (oid.length + params.length) ++ oid ++ params
  0x30 :: toLE 1 (alg.length + 2 + dig.length) ++ alg ++ (0x04 :: toLE 1 dig.length ++ dig)

/-- EMSA-PKCS1-v1_5 in k_n octets. -/
def emsaV15 (h kn : Nat) (dig : Bytes) : Bytes :=
  let t := digestInfo h dig
  [0x00, 0x01] ++ List.replicate (kn - t.length - 3) 0xFF ++ [0x00] ++ t

/-- MGF1 with a hash: a mask of `n` octets from a seed. -/
def mgf1 (h : Nat) (seed : Bytes) (n : Nat) : Bytes :=
  ((List.range (ceilDiv n (hLen h))).flatMap (fun c => hashOf h (seed ++ toBE 4 c))).take n

/-- The top bit of the first octet cleared: the encoded message has one bit less than the modulus. -/
def clearTop : Bytes → Bytes
  | [] => []
  | b :: l => (b &&& 0x7F) :: l

/-- H of EMSA-PSS: eight zero octets, the digest, the salt. -/
def pssHash (h : Nat) (dig salt : Bytes) : Bytes := hashOf h (zeros 8 ++ dig ++ salt)

/-- EMSA-PSS in k_n octets: MGF1 with the same hash, trailer 0xBC (07 R284). -/
def emsaPss (h kn : Nat) (dig salt : Bytes) : Bytes :=
  let hh := pssHash h dig salt
  let db := zeros (kn - hLen h - salt.length - 2) ++ [0x01] ++ salt
  clearTop (xorBytes db (mgf1 h hh (kn - hLen h - 1))) ++ hh ++ [0xBC]

/-- The data block that an encoded message of PSS hides. -/
def pssBlock (h kn : Nat) (em : Bytes) : Bytes :=
  let n := kn - hLen h - 1
  clearTop (xorBytes (em.take n) (mgf1 h ((em.drop n).take (hLen h)) n))

/-- An encoded message has the form of EMSA-PSS with a salt of `sl` octets, which its room must hold: trailer, top bit, padding. -/
def pssForm (h kn sl : Nat) (em : Bytes) : Bool :=
  let db := pssBlock h kn em
  let pad := kn - hLen h - sl - 2
  decide (hLen h + sl + 2 ≤ kn) && em.getLastD 0 == 0xBC && em.headD 0 &&& 0x80 == 0 && db.take (pad + 1) == zeros pad ++ [0x01]

/-- Its hash is the one that the digest and its own salt give. -/
def pssMatches (h kn sl : Nat) (dig em : Bytes) : Bool :=
  let db := pssBlock h kn em
  (em.drop (kn - hLen h - 1)).take (hLen h) == pssHash h dig (db.drop (db.length - sl))

/-- EME-OAEP with an empty label, in k_n octets (07 R285). -/
def emeOaep (h kn : Nat) (msg seed : Bytes) : Bytes :=
  let db := hashOf h [] ++ zeros (kn - msg.length - 2 * hLen h - 2) ++ [0x01] ++ msg
  let mdb := xorBytes db (mgf1 h seed (kn - hLen h - 1))
  0x00 :: xorBytes seed (mgf1 h mdb (hLen h)) ++ mdb

/-- The octets behind the 0x01 that ends the padding. -/
def afterPad : Bytes → Option Bytes
  | [] => none
  | b :: l => if b = 0x00 then afterPad l else if b = 0x01 then some l else none

/-- The message of an encoded one; none where the encoding fails. -/
def oaepDecode (h kn : Nat) (em : Bytes) : Option Bytes :=
  let mdb := em.drop (1 + hLen h)
  let seed := xorBytes ((em.drop 1).take (hLen h)) (mgf1 h mdb (hLen h))
  let db := xorBytes mdb (mgf1 h seed (kn - hLen h - 1))
  if em.headD 1 = 0x00 ∧ db.take (hLen h) = hashOf h [] then afterPad (db.drop (hLen h)) else none

end Sys2Proof.Machine
end

