-- ==== Sys2Proof/Machine/Primes.lean ====
section
/-! DEFINITION. RSA keys: their parts, the search for primes, the checks of a new key (07 R287, R297, R299 to R301). -/

namespace Sys2Proof.Machine

open Sys2Proof

/-! ### Parts of a key (07 R279, 09 Table 2) -/

/-- The public part of an RSA key: e, n, and the modulus bytes. -/
structure RsaPub where
  e : Nat
  n : Nat
  kn : Nat

/-- A host key block (07 R279). -/
def hostRsa (b : Bytes) : RsaPub := ⟨beNat (b.take 8), beNat (b.drop 8), b.length - 8⟩

/-- A private key with its CRT values. -/
structure RsaKey where
  pub : RsaPub
  d : Nat
  p : Nat
  q : Nat
  dP : Nat
  dQ : Nat
  qInv : Nat

/-- The private key that material of class 0x01 holds (09 Table 2). -/
def rsaKeyOf (kn : Nat) (m : Bytes) : RsaKey :=
  let h := kn / 2
  let part (i : Nat) : Nat := beNat ((m.drop (2 * kn + 8 + h * i)).take h)
  ⟨⟨beNat ((m.drop kn).take 8), beNat (m.take kn), kn⟩, beNat ((m.drop (kn + 8)).take kn), part 0, part 1, part 2, part 3, part 4⟩

/-- The material of a private key. -/
def rsaMaterial (k : RsaKey) : Bytes :=
  let kn := k.pub.kn
  toBE kn k.pub.n ++ toBE 8 k.pub.e ++ toBE kn k.d ++ [k.p, k.q, k.dP, k.dQ, k.qInv].flatMap (toBE (kn / 2))

/-- x^d mod n by the CRT: each half as MODEXP computes it, recombined by Garner's formula (07 R287). -/
def rsaCrt (k : RsaKey) (x : Nat) : Nat :=
  let m1 := powMod (x % k.p) k.dP k.p
  let m2 := powMod (x % k.q) k.dQ k.q
  m2 + k.qInv * (m1 + k.p - m2 % k.p) % k.p * k.q

/-- λ(n) of two primes. -/
def carmichael (p q : Nat) : Nat := Nat.lcm (p - 1) (q - 1)

/-- The key of two primes with a public exponent (07 R299). -/
def rsaFrom (kn e p q : Nat) : RsaKey :=
  let d := invMod e (carmichael p q)
  ⟨⟨e, p * q, kn⟩, d, p, q, d % (p - 1), d % (q - 1), invMod q p⟩

/-- The check of a key before release, with one raw private operation on `x` (07 Table 7). -/
def rsaKeyOk (k : RsaKey) (x : Nat) : Bool :=
  k.p * k.q == k.pub.n && k.pub.e * k.d % carmichael k.p k.q == 1 % carmichael k.p k.q && k.dP == k.d % (k.p - 1) && k.dQ == k.d % (k.q - 1) &&
    k.qInv * k.q % k.p == 1 % k.p && powMod (rsaCrt k x) k.pub.e k.pub.n == x % k.pub.n

/-! ### Primes (07 R299, R300) -/

/-- The odd primes below 2^16. -/
def smallPrimes : List Nat := ((List.range 32768).map (fun i => 2 * i + 1)).filter (fun n => decide (3 ≤ n) && noOddDivisor 256 n 3)

/-- What a candidate of `b` bits is built to: its top two bits set, coprime to every odd prime below 2^16 and to e, e not dividing it less
one, and far enough from the other prime. -/
def candOk (b e : Nat) (other : Option Nat) (c : Nat) : Bool :=
  decide (3 * 2 ^ (b - 2) ≤ c ∧ c < 2 ^ b) && c % 2 == 1 && smallPrimes.all (fun p => c % p != 0) && Nat.gcd c e == 1 && (c - 1) % e != 0 &&
    (match other with
     | none => true
     | some p => decide (2 ^ (b - 100) < (p - c) + (c - p)))

/-- The first number from `c` upward in steps of 2 that is fit to be a candidate. -/
def searchCand (ok : Nat → Bool) : Nat → Nat → Nat
  | 0, c => c
  | f + 1, c => if ok c then c else searchCand ok f (c + 2)

/-- A candidate from the octets drawn for it; where its search starts is open (07 R300). -/
def buildCand (b e : Nat) (other : Option Nat) (r : Bytes) : Nat :=
  searchCand (candOk b e other) 65536 (3 * 2 ^ (b - 2) + Config.candidateFrom b r % 2 ^ (b - 2) / 2 * 2 + 1)

/-- n as 2^s·d with d odd: s and d. -/
def oddPart : Nat → Nat → Nat × Nat
  | 0, n => (0, n)
  | f + 1, n => if n % 2 = 1 then (0, n) else let r := oddPart f (n / 2); (r.1 + 1, r.2)

/-- One of x, x², x⁴, … of `s` terms is −1 modulo n. -/
def reachesMinusOne : Nat → Nat → Nat → Bool
  | 0, _, _ => false
  | s + 1, x, n => x == n - 1 || reachesMinusOne s (x * x % n) n

/-- One Miller–Rabin round. -/
def millerRabin (n a : Nat) : Bool :=
  let o := oddPart 8192 (n - 1)
  let x := powMod a o.2 n
  x == 1 || reachesMinusOne o.1 x n

/-- A random base from octets. -/
def baseFrom (n : Nat) (r : Bytes) : Nat := 2 + leNat r % (n - 3)

/-- One batch of exactly b candidates: each is built and takes a round; the first that passes is selected, and takes five further rounds.
None where no candidate passes or a further round fails (07 R300, R301). -/
def tryBatch (b e : Nat) (other : Option Nat) (r : Bytes) : Option Nat :=
  let m := b / 8
  let at_ (i : Nat) : Bytes := (r.drop (m * i)).take m
  let cands := (List.range b).map (fun i => (buildCand b e other (at_ (2 * i)), at_ (2 * i + 1)))
  match cands.find? (fun c => candOk b e other c.1 && millerRabin c.1 (baseFrom c.1 c.2)) with
  | none => none
  | some c => if (List.range 5).all (fun i => millerRabin c.1 (baseFrom c.1 (at_ (2 * b + i)))) then some c.1 else none

/-- Octets that a batch draws. -/
def batchBytes (b : Nat) : Nat := b / 8 * (2 * b + 5)

end Sys2Proof.Machine
end

