-- ==== Sys2Proof/Machine/Classical.lean ====
section
/-! DEFINITION. RSA and elliptic-curve operations (07). -/

namespace Sys2Proof.Machine

open Sys2Proof

/-! ### Keys -/

/-- The RSA key of a slot: public part and private exponent (09 Table 2). -/
def slotRsa (k : KSlot) : RsaPub × Nat :=
  if k.cls = 0x01 then
    let kn := k.keyBytes
    (⟨beNat ((k.material.drop kn).take 8), beNat (k.material.take kn), kn⟩, beNat ((k.material.drop (kn + 8)).take kn))
  else (hostRsa k.material, 0)

/-- The private key of a slot with its CRT values. -/
def slotCrt (k : KSlot) : RsaKey := rsaKeyOf k.keyBytes k.material

/-- The public RSA key of a job: of its slot, or of its host key block. -/
def jobRsa (s : State) (j : Job) : RsaPub := if j.d.hostKey then hostRsa j.opb else (slotRsa (jobSlot s j)).1

/-- Checks 4 and 5 of 07 Table 8 on a host key. -/
def rsaHostChecks (d : Desc) (k : RsaPub) : List (Bool × Nat) :=
  if !d.hostKey then []
  else
    [(k.n % 2 == 1 && k.n / 2 ^ (8 * (k.kn - 1)) != 0 && !(k.kn == 128 && d.opcode == 0x0207) &&
        (modsA (chans (k.kn / 8))).all (fun m => k.n % m != 0), 0x1014),
     (k.e % 2 == 1 && decide (3 ≤ k.e ∧ k.e < k.n), 0x1010)]

/-! ### Verdicts (07 R280) -/

/-- The verdict word: valid, or invalid with REASON 1 or 2. -/
def verdict (reason : Nat) : Bytes := if reason = 0 then toLE 8 1 else toLE 8 (256 * reason)

/-! ### RSA (07 Table 5) -/

/-- A private operation by the CRT: input x, released after x = y^e mod n (07 R287, R297). -/
def rsaPrivate (s : State) (id x : Nat) (out : Nat → State) : State :=
  let k := slotCrt (jobSlot s (s.job id))
  let y := rsaCrt k x
  if powMod y k.pub.e k.pub.n = x then out y else releaseFail s id

/-- The result of a private operation of k_n bytes. -/
def rsaOut (s : State) (id x : Nat) : State :=
  let kn := (jobRsa s (s.job id)).kn
  rsaPrivate s id x (fun y => passJob s id (toBE kn y) 1 (jobB s (s.job id)))

/-- RSA_PRIVATE (07 R287, R297, Table 8). -/
def execRsaPrivate (job : Nat) (s : State) : Out :=
  onSquad s job 0x0201 (fun s =>
    let j := s.job job
    let x := beNat j.opa
    if x < (jobRsa s j).n then rsaOut s job x else failValid s job 0x1010)

/-- RSA_PUBLIC. -/
def execRsaPublic (job : Nat) (s : State) : Out :=
  onSquad s job 0x0202 (fun s =>
    let j := s.job job
    let k := jobRsa s j
    let x := beNat j.opa
    let c := firstFail (rsaHostChecks j.d k ++ [(decide (x < k.n), 0x1010)])
    if c ≠ 0 then failValid s job c else passJob s job (toBE k.kn (powMod x k.e k.n)) 3 (bOf k.e))

/-- RSA_SIGN_V15 (07 R284). -/
def execRsaSignV15 (job : Nat) (s : State) : Out :=
  onSquad s job 0x0203 (fun s =>
    let j := s.job job
    rsaOut s job (beNat (emsaV15 j.d.hash (jobRsa s j).kn j.opa)))

/-- RSA_SIGN_PSS (07 R284): the salt is drawn when SALT > 0. -/
def execRsaSignPss (job : Nat) (s : State) : Out :=
  onSquad s job 0x0204 (fun s =>
    let j := s.job job
    let (salt, s1) := if j.d.salt = 0 then ([], s) else rngDraw s 0 j.d.salt
    rsaOut s1 job (beNat (emsaPss j.d.hash (jobRsa s j).kn j.opa salt)))

/-- A verification: checks 4 to 6, then the verdict of the recovered encoding: REASON is ENCODING where it has not the form of its padding, a
signature of zero included, and EQUATION where the form holds another digest (07 R280, Table 10; log entry 36). -/
def rsaVerify (s : State) (id : Nat) (form matches_ : Desc → Nat → Bytes → Bytes → Bool) : State :=
  let j := s.job id
  let k := jobRsa s j
  let h := hLen j.d.hash
  let sig := beNat (j.opa.drop h)
  let c := firstFail (rsaHostChecks j.d k ++ [(decide (sig < k.n), 0x1010)])
  if c ≠ 0 then failValid s id c
  else
    let em := toBE k.kn (powMod sig k.e k.n)
    let dig := j.opa.take h
    passJob s id (verdict (if !form j.d k.kn dig em then 2 else if matches_ j.d k.kn dig em then 0 else 1)) 3 (bOf k.e)

/-- RSA_VERIFY_V15: the padding and DigestInfo of a digest of the same hash, and then the digest. -/
def execRsaVerifyV15 (job : Nat) (s : State) : Out :=
  onSquad s job 0x0205 (fun s => rsaVerify s job
    (fun d kn dig em => em.take (kn - dig.length) == (emsaV15 d.hash kn dig).take (kn - dig.length))
    (fun d kn dig em => em == emsaV15 d.hash kn dig))

/-- RSA_VERIFY_PSS: no salt length but SALT is accepted (07 R284). -/
def execRsaVerifyPss (job : Nat) (s : State) : Out :=
  onSquad s job 0x0206 (fun s => rsaVerify s job (fun d kn _ em => pssForm d.hash kn d.salt em)
    (fun d kn dig em => pssMatches d.hash kn d.salt dig em))

/-- RSA_ENCRYPT_OAEP (07 R285). -/
def execRsaEncryptOaep (job : Nat) (s : State) : Out :=
  onSquad s job 0x0207 (fun s =>
    let j := s.job job
    let k := jobRsa s j
    let c := firstFail (rsaHostChecks j.d k)
    if c ≠ 0 then failValid s job c
    else
      let (seed, s1) := rngDraw s 0 (hLen j.d.hash)
      passJob s1 job (toBE k.kn (powMod (beNat (emeOaep j.d.hash k.kn j.opa seed)) k.e k.n)) 3 (bOf k.e))

/-- RSA_DECRYPT_OAEP (07 R286): every decoding failure takes the full count. -/
def execRsaDecryptOaep (job : Nat) (s : State) : Out :=
  onSquad s job 0x0208 (fun s =>
    let j := s.job job
    let k := jobRsa s j
    let c := beNat j.opa
    if k.n ≤ c then failValid s job 0x1010
    else rsaPrivate s job c (fun m =>
      match (if c = 0 then none else oaepDecode j.d.hash k.kn (toBE k.kn m)) with
      | some msg => passJob s job msg 1 (bOf k.e)
      | none => finishWith s job 0x1016 [] 2 (32 * jobCycles s j.d (bOf k.e)) 0))

/-! ### Received points (07 R277, R278, Table 8 checks 7 to 11) -/

/-- A Weierstrass point: the status of the first failed check, or the point. -/
def readPoint (cn : Nat) (b : Bytes) : Nat × Option (Nat × Nat) :=
  let c := curveOf cn
  let p := Config.fieldP cn
  let x := beNat ((b.drop 1).take c.fb)
  let y := beNat (b.drop (1 + c.fb))
  if b = [0x00] then (0x1013, none)
  else if b.length = 1 + 2 * c.fb ∧ b.head? = some 0x04 then
    if p ≤ x ∨ p ≤ y then (0x1010, none)
    else if Config.onCurve cn x y then (0, some (x, y)) else (0x1012, none)
  else if b.length = 1 + c.fb ∧ (b.head? = some 0x02 ∨ b.head? = some 0x03) then
    if p ≤ x then (0x1010, none)
    else match Config.liftX cn x (if b.head? = some 0x03 then 1 else 0) with
      | some y => (0, some (x, y))
      | none => (0x1012, none)
  else (0x1012, none)

/-- An Edwards public key: the status of the first failed check, or the point. Bytes of another curve's length fail check 8 (log
entry 37). -/
def readEdPoint (cn : Nat) (b : Bytes) : Nat × Option (Nat × Nat) :=
  let c := curveOf cn
  let v := leNat b
  let sign := v / 2 ^ (8 * c.fb - 1)
  let y := v % 2 ^ (8 * c.fb - 1)
  if b.length ≠ c.fb then (0x1012, none)
  else if v = 1 then (0x1013, none)
  else if Config.fieldP cn ≤ y then (0x1010, none)
  else match Config.liftX cn y sign with
    | none => (0x1012, none)
    | some x => if Config.inSubgroup cn x y then (0, some (x, y)) else (0x1012, none)

/-- The status of an Edwards public key. -/
def readEdwards (cn : Nat) (b : Bytes) : Nat := (readEdPoint cn b).1

/-- A u-coordinate with bit 255 cleared for X25519 (07 R278): the status, and the value. -/
def readU (cn : Nat) (b : Bytes) : Nat × Nat :=
  let c := curveOf cn
  let u := if cn = 0x20 then leNat b % 2 ^ 255 else leNat b
  if b.length ≠ c.fb then (0x1012, u)
  else if Config.fieldP cn ≤ u then (0x1010, u)
  else if u = 0 ∨ !Config.uValid cn u then (0x1012, u)
  else (0, u)

/-- A Weierstrass point as the module writes it (07 R277). -/
def writePoint (cn : Nat) (p : Nat × Nat) : Bytes := 0x04 :: (toBE (curveOf cn).fb p.1 ++ toBE (curveOf cn).fb p.2)

/-- The private scalar of a Weierstrass slot. -/
def slotScalar (k : KSlot) : Nat := beNat (k.material.take (curveOf (clsCurve k.cls)).qb)

/-- The public key encoding of an elliptic-curve slot (09 Table 2). -/
def slotPoint (k : KSlot) : Bytes :=
  let c := curveOf (clsCurve k.cls)
  if k.cls < 0x20 then k.material.drop c.qb
  else if k.cls = 0x30 ∨ k.cls = 0x31 ∨ k.cls = 0x40 ∨ k.cls = 0x41 then k.material.drop c.fb
  else k.material

/-! ### ECDSA and ECDH (07 R290, R293 to R296) -/

/-- bits2int of a digest: its leftmost bits, as many as the order has (07 R290). -/
def bits2int (n : Nat) (dig : Bytes) : Nat := beNat dig / 2 ^ (8 * dig.length - bitLen 1024 n)

/-- The hedged nonce (07 R294). -/
def hedgedNonce (cn h d e : Nat) (extra : Bytes) : Nat :=
  let q := (curveOf cn).qb
  let n := Config.orderN cn
  beNat (fit (q + 8) (Config.hmacDrbg h (toBE q d) (toBE q (e % n)) extra (q + 8))) % (n - 1) + 1

/-- r and s of a signature under nonce k (FIPS 186-5). -/
def ecdsaPair (cn d e k : Nat) : Nat × Nat :=
  let n := Config.orderN cn
  let r := ((Config.mulBase cn k).map (fun p => p.1)).getD 0 % n
  (r, invMod k n * (e + r * d) % n)

/-- The check of a signature before release: [k]G is on the curve and gives r, and s·k ≡ e + r·d, computed on a second path (07 Table 7). -/
def ecdsaOk (cn d e k : Nat) (rs : Nat × Nat) : Bool :=
  let n := Config.orderN cn
  match Config.mulBase cn k with
  | none => false
  | some p => Config.onCurve cn p.1 p.2 && p.1 % n == rs.1 && rs.2 * k % n == (e + rs.1 * d) % n

/-- ECDSA_SIGN: r = 0 or s = 0 draws fresh bytes and repeats (07 R296); a signature that fails its check is not released (R297, R298). -/
def execEcdsaSign (job : Nat) (s : State) : Out :=
  onSquad s job 0x0301 (fun s =>
    let j := s.job job
    let k := jobSlot s j
    let cn := clsCurve k.cls
    let c := curveOf cn
    let (extra, s1) := rngDraw s 0 c.qb
    let (_, s2) := rngDraw s1 0 c.fb
    let e := bits2int (Config.orderN cn) j.opa
    let d := slotScalar k
    let kk := hedgedNonce cn j.d.hash d e extra
    let rs := ecdsaPair cn d e kk
    if rs.1 = 0 ∨ rs.2 = 0 then s2.bump gPkNonceRetry
    else if ecdsaOk cn d e kk rs then passJob s2 job (toBE c.qb rs.1 ++ toBE c.qb rs.2) 1 0
    else releaseFail s2 job)

/-- ECDSA_VERIFY (07 R280, R290). -/
def execEcdsaVerify (job : Nat) (s : State) : Out :=
  onSquad s job 0x0302 (fun s =>
    let j := s.job job
    let cn := jobCurve s j.d
    let q := (curveOf cn).qb
    let n := Config.orderN cn
    let h := hLen j.d.hash
    let pt := readPoint cn (if j.d.hostKey then j.opb else slotPoint (jobSlot s j))
    let r := beNat ((j.opa.drop h).take q)
    let sg := beNat (j.opa.drop (h + q))
    let c := firstFail [(!j.d.hostKey || pt.1 == 0, pt.1), (decide (1 ≤ r ∧ r < n ∧ 1 ≤ sg ∧ sg < n), 0x1011)]
    if c ≠ 0 then failValid s job c
    else
      let w := invMod sg n
      let e := bits2int n (j.opa.take h)
      let x := Config.addPoints cn (Config.mulBase cn (e * w % n)) (Config.mulPoint cn (r * w % n) pt.2)
      passJob s job (verdict (if x.map (fun p => p.1 % n) = some r then 0 else 1)) 1 0)

/-- ECDH (07 R293, R297): the shared point is on the curve and is not the identity. -/
def execEcdh (job : Nat) (s : State) : Out :=
  onSquad s job 0x0303 (fun s =>
    let j := s.job job
    let k := jobSlot s j
    let cn := clsCurve k.cls
    let pt := readPoint cn j.opb
    if pt.1 ≠ 0 then failValid s job pt.1
    else
      let (_, s1) := rngDraw s 0 (curveOf cn).fb
      match Config.mulPoint cn (slotScalar k) pt.2 with
      | some p => if Config.onCurve cn p.1 p.2 then passJob s1 job (toBE (curveOf cn).fb p.1) 1 0 else releaseFail s1 job
      | none => releaseFail s1 job)

/-! ### EdDSA and XDH (07 R291 to R293) -/

/-- The hash of an Edwards curve on its parts, as a number (RFC 8032): SHA-512, or SHAKE256 of 114 octets; dom2 and dom4 with an empty
context go in front. -/
def edHash (cn : Nat) (ph : Bool) (b : Bytes) : Nat :=
  if cn = 0x11 then leNat (fit 114 (Config.shake256 (ascii "SigEd448" ++ [if ph then 1 else 0, 0] ++ b) 114))
  else leNat (hashOf 3 ((if ph then ascii "SigEd25519 no Ed25519 collisions" ++ [1, 0] else []) ++ b))

/-- The octets that a seed expands to: scalar, then prefix (RFC 8032). -/
def edExpand (cn : Nat) (seed : Bytes) : Bytes := if cn = 0x11 then fit 114 (Config.shake256 seed 114) else hashOf 3 seed

/-- The secret scalar of a seed, its bits set and cleared as RFC 8032 asks. -/
def edScalar (cn : Nat) (seed : Bytes) : Nat :=
  let v := leNat ((edExpand cn seed).take (curveOf cn).fb)
  if cn = 0x11 then 2 ^ 447 + v % 2 ^ 447 / 4 * 4 else 2 ^ 254 + v % 2 ^ 254 / 8 * 8

/-- A point as RFC 8032 encodes it: y, with the low bit of x on top. The identity is (0, 1). -/
def edEncode (cn : Nat) (p : Option (Nat × Nat)) : Bytes :=
  let (x, y) := p.getD (0, 1)
  toLE (curveOf cn).fb (y + x % 2 * 2 ^ (8 * (curveOf cn).fb - 1))

/-- The public key of a seed. -/
def edPublic (cn : Nat) (seed : Bytes) : Bytes := edEncode cn (Config.mulBase cn (edScalar cn seed))

/-- r of a signature, from the prefix and the message. -/
def edNonce (cn : Nat) (ph : Bool) (seed msg : Bytes) : Nat :=
  edHash cn ph ((edExpand cn seed).drop (curveOf cn).fb ++ msg) % Config.orderN cn

/-- EDDSA_SIGN (07 R291, R297): R lies on the curve, and S ≡ r + k·a, computed on a second path. -/
def execEddsaSign (job : Nat) (s : State) : Out :=
  onSquad s job 0x0304 (fun s =>
    let j := s.job job
    let ks := jobSlot s j
    let cn := clsCurve ks.cls
    let n := Config.orderN cn
    let seed := ks.material.take (curveOf cn).fb
    let r := edNonce cn j.d.ph seed j.opa
    let pr := Config.mulBase cn r
    let rb := edEncode cn pr
    let k := edHash cn j.d.ph (rb ++ slotPoint ks ++ j.opa)
    let sc := (r + k * edScalar cn seed) % n
    let ok := match pr with
      | none => false
      | some p => Config.onCurve cn p.1 p.2 && sc == (r + k % n * (edScalar cn seed % n)) % n
    if ok then passJob s job (rb ++ toLE (curveOf cn).fb sc) 1 0 else releaseFail s job)

/-- [S]B − [k]A as its encoding (07 R292). -/
def edCheck (cn : Nat) (sc k : Nat) (a : Option (Nat × Nat)) : Bytes :=
  let n := Config.orderN cn
  edEncode cn (Config.addPoints cn (Config.mulBase cn sc) (Config.mulPoint cn ((n - k % n) % n) a))

/-- EDDSA_VERIFY (07 R292): R is not decoded; its octets are compared, and a mismatch is EQUATION. -/
def execEddsaVerify (job : Nat) (s : State) : Out :=
  onSquad s job 0x0305 (fun s =>
    let j := s.job job
    let cn := jobCurve s j.d
    let n := edSigLen cn
    let pk := if j.d.hostKey then j.opb else slotPoint (jobSlot s j)
    let a := readEdPoint cn pk
    let rb := j.opa.take (n / 2)
    let sc := leNat ((j.opa.drop (n / 2)).take (n / 2))
    let c := firstFail [(!j.d.hostKey || a.1 == 0, a.1), (decide (sc < Config.orderN cn), 0x1011)]
    if c ≠ 0 then failValid s job c
    else
      let k := edHash cn j.d.ph (rb ++ pk ++ j.opa.drop n)
      passJob s job (verdict (if edCheck cn sc k a.2 = rb then 0 else 1)) 1 0)

/-- A shared or public u lies on the curve, in its prime-order subgroup, and is not the identity's. -/
def uGood (cn : Nat) (b : Bytes) : Bool := leNat b != 0 && Config.uValid cn (leNat b)

/-- XDH (07 R293, R297): the shared point is on the curve and is not the identity. -/
def execXdh (job : Nat) (s : State) : Out :=
  onSquad s job 0x0306 (fun s =>
    let j := s.job job
    let k := jobSlot s j
    let cn := clsCurve k.cls
    let f := (curveOf cn).fb
    let u := readU cn j.opb
    if u.1 ≠ 0 then failValid s job u.1
    else
      let (_, s1) := rngDraw s 0 f
      let z := fit f (Config.xdh cn (k.material.take f) (toLE f u.2))
      if uGood cn z then passJob s1 job z 1 0 else releaseFail s1 job)

/-! ### Key generation (07 R299 to R302, R308; 09 R351 to R353) -/

/-- A key generation on a squad: the Key Root first, without which it is VAULT_EMPTY whatever else it holds, then the attribute block and
the quota; `f` makes the key of the class (01 R33; 09 R351, R352, R368). -/
def runKeygen (s : State) (id cls : Nat) (f : Attr → State) : State :=
  let j := s.job id
  let a := parseAttr j.opa
  let c := allocCheck s j.part
  if !keysServed s then finish s id 0x4010 [] 6
  else if a.rsvd then failValid s id 0x1003
  else if a.cls ≠ 0 ∨ attrBad a cls then failValid s id 0x4015
  else if c ≠ 0 then finish s id c [] 6
  else f a

/-- No candidate of a batch passed, or the selected one failed a further round: the next try draws a new batch, and the charge counts it
(07 R301). -/
def rebatch (s : State) (id : Nat) : State :=
  (s.bump gPkKeygenRebatch).withJob id (fun j => { j with batches := j.batches + 1 })

/-- RSA_KEYGEN (07 R299 to R301): two batches give p and q, and the key is checked before release (R297). -/
def execRsaKeygen (job : Nat) (s : State) : Out :=
  onSquad s job 0x0220 (fun s => runKeygen s job 0x01 (fun a =>
    let j := s.job job
    let kn := 8 * j.d.salt
    let b := primeBits j.d.salt
    let (u, s1) := rngDraw s 0 (batchBytes b)
    let (v, s2) := rngDraw s1 0 (batchBytes b)
    let (x, s3) := rngDraw s2 0 kn
    match tryBatch b 65537 none u with
    | none => rebatch s3 job
    | some p =>
      match tryBatch b 65537 (some p) v with
      | none => rebatch s3 job
      | some q =>
        let k := rsaFrom kn 65537 p q
        let pub := toBE 8 65537 ++ toBE kn k.pub.n
        if rsaKeyOk k (leNat x % k.pub.n) then
          createKey s3 job (attrSlot a 0x01 j.part (rsaMaterial k) kn pub) (fun _ => pub) 1
            (32 * runCycles (rsaKeygenRuns j.d.salt (2 + j.batches)))
        else releaseFail s3 job))

/-- The key class of a curve (09 Table 2). -/
def curveCls (cn : Nat) : Nat := if cn ≤ 6 then 0x10 + cn else if cn = 0x10 then 0x30 else if cn = 0x11 then 0x31
  else if cn = 0x20 then 0x40 else 0x41

/-- Private and public parts of a new elliptic-curve key, from the octets drawn for it (07 R302). -/
def ecPair (cn : Nat) (t : Bytes) : Bytes × Bytes :=
  let c := curveOf cn
  if cn ≤ 6 then
    let d := beNat t % (Config.orderN cn - 1) + 1
    (toBE c.qb d, writePoint cn ((Config.mulBase cn d).getD (0, 0)))
  else if cn < 0x20 then (t, edPublic cn t)
  else (t, fit c.fb (Config.xPublic cn t))

/-- The check of a new key before release: its public point, recomputed from the private part, is the same and lies on the curve (07
Table 7). -/
def ecKeyOk (cn : Nat) (priv pub : Bytes) : Bool :=
  if cn ≤ 6 then
    match Config.mulBase cn (beNat priv) with
    | none => false
    | some p => Config.onCurve cn p.1 p.2 && writePoint cn p == pub
  else if cn < 0x20 then
    match Config.mulBase cn (edScalar cn priv) with
    | none => false
    | some p => Config.onCurve cn p.1 p.2 && edEncode cn (some p) == pub
  else uGood cn pub && fit (curveOf cn).fb (Config.xPublic cn priv) == pub

/-- EC_KEYGEN (07 R297, R302, R308). -/
def execEcKeygen (job : Nat) (s : State) : Out :=
  onSquad s job 0x0320 (fun s =>
    let j := s.job job
    let cn := j.d.curve
    let c := curveOf cn
    runKeygen s job (curveCls cn) (fun a =>
      let (t, s1) := rngDraw s 0 (if cn ≤ 6 then c.qb + 8 else c.fb)
      let k := ecPair cn t
      if ecKeyOk cn k.1 k.2 then
        createKey s1 job (attrSlot a (curveCls cn) j.part (k.1 ++ k.2) c.fb k.2) (fun _ => k.2) 1 (32 * jobCycles s j.d 0)
      else releaseFail s1 job))

end Sys2Proof.Machine
end

