-- ==== Sys2Proof/Machine/Lattice.lean ====
section
/-! DEFINITION. ML-KEM and ML-DSA (08). -/

namespace Sys2Proof.Machine

open Sys2Proof

/-- The public key of a lattice slot: ek within dk, pk behind sk, or the material (09 Table 2). -/
def latticePub (k : KSlot) : Bytes :=
  let x := psetOf (clsPset k.cls)
  if 0x51 ≤ k.cls ∧ k.cls ≤ 0x53 then (k.material.drop (384 * x.k)).take x.pk
  else if 0x61 ≤ k.cls ∧ k.cls ≤ 0x63 then k.material.drop (k.material.length - x.pk)
  else k.material

/-- The secret key of an ML-DSA slot. -/
def dsaSecret (k : KSlot) : Bytes := k.material.take (k.material.length - (psetOf (clsPset k.cls)).pk)

/-- The public key of a lattice job. -/
def jobPub (s : State) (j : Job) : Bytes := if j.d.hostKey then j.opb else latticePub (jobSlot s j)

/-- The 12-bit coefficients that bytes decode to, three bytes for two (FIPS 203 ByteDecode12). -/
def coeffs12 : Bytes → List Nat
  | a :: b :: c :: l =>
    let v := a.toNat + 256 * b.toNat + 65536 * c.toNat
    (v % 4096) :: (v / 4096) :: coeffs12 l
  | _ => []

/-- Check 4 of 08 Table 6. -/
def ekOk (x : PSet) (ek : Bytes) : Bool := (coeffs12 (ek.take (384 * x.k))).all (fun c => decide (c < 3329))

/-- Squeezes beyond 08 Table 5 counted, on all the inputs of an operation (08 R330). -/
def countExtra (s : State) (op ps : Nat) (input : Bytes) : State := s.bumpBys gPqSamplerExtra 0 (Config.samplerExtra op ps input)

/-- G, H and J of FIPS 203. -/
def kemG (b : Bytes) : Bytes := hashOf 6 b
def kemH (b : Bytes) : Bytes := hashOf 4 b
def kemJ (b : Bytes) : Bytes := fit 32 (Config.shake256 b 32)

/-- c ‖ K of an encapsulation under ek with the random octets m (FIPS 203). -/
def kemEncaps (ps : Nat) (ek m : Bytes) : Bytes :=
  let g := kemG (m ++ kemH ek)
  fit (psetOf ps).ct (Config.kemEncrypt ps ek m (g.drop 32)) ++ g.take 32

/-- K of a decapsulation under dk (FIPS 203): the ciphertext is computed anew, and one that differs gives J(z ‖ c) in place of K (08 R324). -/
def kemDecaps (ps : Nat) (dk c : Bytes) : Bytes :=
  let x := psetOf ps
  let ek := (dk.drop (384 * x.k)).take x.pk
  let h := (dk.drop (384 * x.k + x.pk)).take 32
  let z := dk.drop (384 * x.k + x.pk + 32)
  let m := Config.kemDecrypt ps (dk.take (384 * x.k)) c
  let g := kemG (m ++ h)
  if fit x.ct (Config.kemEncrypt ps ek m (g.drop 32)) = c then g.take 32 else kemJ (z ++ c)

/-- (ek, dk) from d ‖ z (FIPS 203). -/
def kemKeygen (ps : Nat) (dz : Bytes) : Bytes × Bytes :=
  let x := psetOf ps
  let p := Config.kemPair ps (dz.take 32)
  let ek := fit x.pk p.1
  (ek, fit (384 * x.k) p.2 ++ ek ++ kemH ek ++ dz.drop 32)

/-- The check of a new ML-KEM key: an encapsulation and a decapsulation give the same K (08 Table 4). -/
def kemKeyOk (ps : Nat) (ek dk m : Bytes) : Bool :=
  let ck := kemEncaps ps ek m
  kemDecaps ps dk (ck.take (psetOf ps).ct) == ck.drop (psetOf ps).ct

/-- MLKEM_ENCAPS (08 R320, R334). -/
def execMlkemEncaps (job : Nat) (s : State) : Out :=
  onSquad s job 0x0401 (fun s =>
    let j := s.job job
    let ps := jobPset s j.d
    let x := psetOf ps
    let ek := jobPub s j
    if j.d.hostKey && !ekOk x ek then failValid s job 0x1010
    else
      let (m, s1) := rngDraw s 0 32
      passJob (countExtra s1 0x0401 ps (ek ++ m)) job (kemEncaps ps ek m) 1 0)

/-- MLKEM_DECAPS: implicit rejection, never a failure (08 R324). -/
def execMlkemDecaps (job : Nat) (s : State) : Out :=
  onSquad s job 0x0402 (fun s =>
    let j := s.job job
    let ps := jobPset s j.d
    let dk := (jobSlot s j).material
    passJob (countExtra s 0x0402 ps (dk ++ j.opa)) job (kemDecaps ps dk j.opa) 1 0)

/-! ### ML-DSA signatures (FIPS 204) -/

/-- Octets of the challenge, bits of a coefficient of z, β, ω of a set (FIPS 204). -/
structure DsaSet where
  lam : Nat
  zb : Nat
  beta : Nat
  om : Nat

def dsaSet (ps : Nat) : DsaSet :=
  if ps = 0x11 then ⟨32, 18, 78, 80⟩ else if ps = 0x12 then ⟨48, 20, 196, 55⟩ else ⟨64, 20, 120, 75⟩

/-- The hint part of a signature: indices, then how many each polynomial has reached. -/
def dsaHints (ps : Nat) (sig : Bytes) : List Nat :=
  let d := dsaSet ps
  (sig.drop (d.lam + 32 * d.zb * (psetOf ps).l)).map (·.toNat)

/-- Numbers rise strictly. -/
def risesStrictly : List Nat → Bool
  | a :: b :: l => decide (a < b) && risesStrictly (b :: l)
  | _ => true

/-- Hints decode: the counts rise and none exceeds ω, the indices of a polynomial rise strictly, the padding is zero (08 R322). -/
def hintsOk (ps : Nat) (y : List Nat) : Bool :=
  let k := (psetOf ps).k
  let om := (dsaSet ps).om
  let at_ (i : Nat) : Nat := if i = 0 then 0 else y.getD (om + i - 1) 0
  (List.range k).all (fun i => decide (at_ i ≤ at_ (i + 1) ∧ at_ (i + 1) ≤ om) &&
    risesStrictly ((y.drop (at_ i)).take (at_ (i + 1) - at_ i))) &&
    ((y.take om).drop (at_ k)).all (· == 0)

/-- The coefficients of z: γ1 less the number that its bits spell. -/
def dsaZ (ps : Nat) (sig : Bytes) : List Int :=
  let d := dsaSet ps
  let v := leNat ((sig.drop d.lam).take (32 * d.zb * (psetOf ps).l))
  (List.range (256 * (psetOf ps).l)).map (fun i => (2 ^ (d.zb - 1) : Int) - (v / 2 ^ (d.zb * i) % 2 ^ d.zb : Nat))

/-- Every coefficient of z is below γ1 − β in size. -/
def zNormOk (ps : Nat) (sig : Bytes) : Bool :=
  let d := dsaSet ps
  (dsaZ ps sig).all (fun c => decide (c.natAbs < 2 ^ (d.zb - 1) - d.beta))

/-- REASON of a verification (08 R322): ENCODING for hints that do not decode, EQUATION for a z too large or another challenge; 0 when the
signature is valid. -/
def dsaReason (ps h : Nat) (pk ctx msg sig : Bytes) : Nat :=
  if !hintsOk ps (dsaHints ps sig) then 2
  else if zNormOk ps sig && Config.mldsaChallenge ps h pk ctx msg sig then 0
  else 1

/-- Signing attempts counted, at most 814 of one signature (08 R333, R337). -/
def countAttempts (s : State) (n : Nat) : State :=
  let m := min n 814
  (s.bumpBys gPqSignAttempts 0 m).gset gPqSignAttemptsMax (max (s.gv gPqSignAttemptsMax) m)

/-- MLDSA_SIGN (08 R323, R328, R331 to R333): the signature is checked before release. -/
def execMldsaSign (job : Nat) (s : State) : Out :=
  onSquad s job 0x0410 (fun s =>
    let j := s.job job
    let ps := jobPset s j.d
    let x := psetOf ps
    let k := jobSlot s j
    let (rnd, s1) := if bit j.d.param 30 then (zeros 32, s) else rngDraw s 0 32
    let ctx := j.opa.take j.d.salt
    let msg := j.opa.drop j.d.salt
    let r := Config.mldsaJob ps j.d.hash (dsaSecret k) ctx msg rnd
    let sig := fit x.ct r.1
    let s2 := countAttempts (countExtra s1 0x0410 ps (toLE 1 j.d.hash ++ dsaSecret k ++ rnd ++ toLE 1 j.d.salt ++ ctx ++ msg)) r.2
    if 814 < r.2 then finish s2 job 0x5010 [] 6
    else if dsaReason ps j.d.hash (latticePub k) ctx msg sig = 0 then passJob s2 job sig 5 0
    else releaseFail s2 job)

/-- MLDSA_VERIFY (08 R322). -/
def execMldsaVerify (job : Nat) (s : State) : Out :=
  onSquad s job 0x0411 (fun s =>
    let j := s.job job
    let ps := jobPset s j.d
    let sig := j.opa.take (psetOf ps).ct
    let rest := j.opa.drop (psetOf ps).ct
    let r := dsaReason ps j.d.hash (jobPub s j) (rest.take j.d.salt) (rest.drop j.d.salt) sig
    passJob (countExtra s 0x0411 ps (toLE 1 j.d.hash ++ jobPub s j ++ j.opa)) job (verdict r) 1 0)

/-- MLKEM_KEYGEN (08 R325, R328): 64 octets are drawn for the key, 32 for the encapsulation that checks it. -/
def execMlkemKeygen (job : Nat) (s : State) : Out :=
  onSquad s job 0x0420 (fun s =>
    let j := s.job job
    let ps := j.d.curve
    let x := psetOf ps
    runKeygen s job (0x50 + ps) (fun a =>
      let (dz, s1) := rngDraw s 0 64
      let (m, s2) := rngDraw s1 0 32
      let k := kemKeygen ps dz
      let s3 := countExtra s2 0x0420 ps (dz ++ m)
      if kemKeyOk ps k.1 k.2 m then
        createKey s3 job (attrSlot a (0x50 + ps) j.part k.2 x.pk k.1) (fun _ => k.1) 1 (32 * jobCycles s j.d 0)
      else releaseFail s3 job))

/-- Bytes of an ML-DSA secret key (FIPS 204). -/
def dsaSkLen (ps : Nat) : Nat := if ps = 0x11 then 2560 else if ps = 0x12 then 4032 else 4896

/-- The signature that checks an ML-DSA key pair: of a fixed message, with an empty context (08 Table 4). -/
def dsaCheckSig (ps : Nat) (sk : Bytes) : Bytes × Nat := Config.mldsaJob ps 0 sk [] (fit 32 Config.dsaCheckMsg) Config.dsaCheckRnd

/-- It verifies under the public key. -/
def dsaKeyOk (ps : Nat) (pk sk : Bytes) : Bool :=
  dsaReason ps 0 pk [] (fit 32 Config.dsaCheckMsg) (fit (psetOf ps).ct (dsaCheckSig ps sk).1) == 0

/-- MLDSA_KEYGEN (08 R325, R328, R332, R333): 32 octets are drawn; the check signs once and verifies. -/
def execMldsaKeygen (job : Nat) (s : State) : Out :=
  onSquad s job 0x0421 (fun s =>
    let j := s.job job
    let ps := j.d.curve
    let x := psetOf ps
    runKeygen s job (0x50 + ps) (fun a =>
      let (xi, s1) := rngDraw s 0 32
      let k := Config.mldsaKeygen ps xi
      let pk := fit x.pk k.1
      let sk := fit (dsaSkLen ps) k.2
      let n := (dsaCheckSig ps sk).2
      let s2 := countAttempts (countExtra s1 0x0421 ps xi) n
      if 814 < n then finish s2 job 0x5010 [] 6
      else if dsaKeyOk ps pk sk then
        createKey s2 job (attrSlot a (0x50 + ps) j.part (sk ++ pk) x.pk pk) (fun _ => pk) 5 (32 * jobCycles s j.d 0)
      else releaseFail s2 job))

end Sys2Proof.Machine
end

