-- ==== Sys2Proof/Machine/KeyMove.lean ====
section
/-! DEFINITION. KEY_IMPORT and KEY_EXPORT (09 R369, R372, R373, R851). -/

namespace Sys2Proof.Machine

open Sys2Proof

/-- The public key encoding that material of a class holds (09 Table 2, R369); none for a symmetric class. -/
def materialPub (cls : Nat) (mat : Bytes) : Bytes :=
  let k : KSlot := { cls := cls, material := mat }
  if cls = 0x01 then
    let kn := (rsaMatKn cls mat.length).getD 0
    (mat.drop kn).take 8 ++ mat.take kn
  else if (symLen cls).isSome then []
  else if cls < 0x50 ∧ cls ≠ 0x02 then slotPoint k
  else latticePub k

/-- KEY_BYTES of material: the modulus, the field, the public key, or the material (09 Table 1). -/
def materialBytes (cls : Nat) (mat : Bytes) : Nat :=
  if cls ≤ 2 then (rsaMatKn cls mat.length).getD 0
  else if (symLen cls).isSome then mat.length
  else if cls < 0x50 then (curveOf (clsCurve cls)).fb
  else (psetOf (clsPset cls)).pk

/-- Check 7 of R373: what generation of the class checks (07 Table 7, 08 Table 4), the public part that of the private one, XTS halves that
differ, values in range. `r` is the octets drawn for the checks. -/
def materialPass (cls : Nat) (mat r : Bytes) : Bool :=
  let cn := clsCurve cls
  let ps := clsPset cls
  let c := curveOf cn
  let pub := materialPub cls mat
  if cls = 0x01 then
    let k := rsaKeyOf ((rsaMatKn cls mat.length).getD 0) mat
    k.pub.n / 2 ^ (8 * (k.pub.kn - 1)) != 0 && k.pub.e % 2 == 1 && decide (3 ≤ k.pub.e) && rsaKeyOk k (leNat r % k.pub.n)
  else if cls = 0x02 then
    let k := hostRsa mat
    k.n % 2 == 1 && k.n / 2 ^ (8 * (k.kn - 1)) != 0 && (modsA (chans (k.kn / 8))).all (fun m => k.n % m != 0) && k.e % 2 == 1 &&
      decide (3 ≤ k.e ∧ k.e < k.n)
  else if 0x11 ≤ cls ∧ cls ≤ 0x16 then
    let d := beNat (mat.take c.qb)
    decide (1 ≤ d ∧ d < Config.orderN cn) && ecKeyOk cn (mat.take c.qb) pub
  else if cls = 0x30 ∨ cls = 0x31 ∨ cls = 0x40 ∨ cls = 0x41 then ecKeyOk cn (mat.take c.fb) pub
  else if 0x21 ≤ cls ∧ cls ≤ 0x26 then (readPoint cn mat).1 == 0
  else if cls = 0x38 ∨ cls = 0x39 then readEdwards cn mat == 0
  else if 0x51 ≤ cls ∧ cls ≤ 0x53 then
    ekOk (psetOf ps) pub && (mat.drop (384 * (psetOf ps).k + (psetOf ps).pk)).take 32 == kemH pub && kemKeyOk ps pub mat (r.take 32)
  else if 0x59 ≤ cls ∧ cls ≤ 0x5B then ekOk (psetOf ps) mat
  else if 0x61 ≤ cls ∧ cls ≤ 0x63 then
    let sk := mat.take (mat.length - (psetOf ps).pk)
    decide ((dsaCheckSig ps sk).2 ≤ 814) && dsaKeyOk ps pub sk
  else if cls = 0x73 then mat.take 32 != mat.drop 32
  else true

/-- The material of an OPA_LEN for a class: how many bytes follow the attribute block are the material, or its AES-KWP (09 R373
check 3). -/
def importFits (cls : Nat) (wrapped : Bool) (n : Nat) : Bool :=
  if wrapped then (List.range 8).any (fun i => decide (15 ≤ n) && matFits cls (n - 15 + i) && kwpLen (n - 15 + i) == n)
  else matFits cls n

/-- Lane-cycles of an import, passing or failing (09 R851); a class outside Table 2 counts zero, a length outside its class that of
a size that the spec leaves open (log entry 38). -/
def importLane (cls : Nat) (m : Bytes) (free : Nat) : Nat :=
  if (classUsage cls).isNone then 0
  else if cls = 0x01 ∨ cls = 0x02 then
    match rsaMatKn cls m.length with
    | some kn => 32 * importCycles cls kn (bOf (beNat (if cls = 0x01 then (m.drop kn).take 8 else m.take 8)))
    | none => 32 * free
  else 32 * importCycles cls 0 0

/-- KEY_IMPORT after its key-encryption key: checks 6 and 7 and the new slot (09 R373, R353). -/
def finishImport (s : State) (id : Nat) (a : Attr) (mat : Option Bytes) : State :=
  let (n, s1) := s.drawNat
  let (r, s0) := rngDraw s1 0 1024
  match mat with
  | none => finishWith s0 id 0x4016 [] 2 (importLane a.cls [] n) 0
  | some m =>
    if !matFits a.cls m.length then finishWith s0 id 0x1002 [] 2 (importLane a.cls m n) 0
    else if !materialPass a.cls m r then finishWith s0 id 0x4018 [] 2 (importLane a.cls m n) 0
    else createKey s0 id (attrSlot a a.cls (s.job id).part m (materialBytes a.cls m) (materialPub a.cls m)) (fun _ => []) 1
      (importLane a.cls m n)

/-- KEY_IMPORT: VAULT_EMPTY without a Key Root, else its checks in order (01 R33, 09 R373): the load of the key-encryption key may hold the job (R364). -/
def runImport (s : State) (id : Nat) : State :=
  let j := s.job id
  let a := parseAttr j.opa
  let body := j.opa.drop 64
  let (n, s0) := s.drawNat
  let bad (st tc : Nat) : State := finishWith s0 id st [] tc (importLane a.cls body n) 0
  let c := allocCheck s j.part
  if !keysServed s then finish s id 0x4010 [] 6
  else if a.rsvd then bad 0x1003 2
  else if attrBad a a.cls then bad 0x4015 2
  else if !importFits a.cls (j.d.handle != 0) body.length then bad 0x1002 2
  else if c ≠ 0 then bad c 2
  else if j.d.handle = 0 then finishImport s id a (some body)
  else
    let (w, s1) := tryLoad s id j.d.handle { classes := [0x78], usage := 12 }
    if w = 0 then finishImport (s1.withJob id (fun j => { j with phase := .running })) id a
      (Config.kwpUnwrap ((s.kslot (j.d.handle % 2097152)).material) body)
    else if w = 0x4011 ∨ w = 0x4012 then bad w 2
    else if w < 0x10000 then finish s1 id w [] 6
    else holdJob s1 id w

/-- KEY_IMPORT; one that runs as a gang has the yield of the private operation that checks it (06 R249, 09 R851). -/
def execKeyImport (job : Nat) (s : State) : Out :=
  let j := s.job job
  if j.d.opcode ≠ 0x0502 ∨ j.squads.isEmpty ∨ (j.phase ≠ .running ∧ j.phase ≠ .held) then .next s
  else .next (runSlice s job (fun s => runImport s job))

/-- The attribute block of a wrapped export (09 R369). -/
def attrBlock (k : KSlot) : Bytes :=
  toLE 64 (k.usage + 2 ^ 16 * k.exp + 2 ^ 24 * b2n k.vol + 2 ^ 25 * b2n k.limited + 2 ^ 32 * k.cls + 2 ^ 64 * k.limit
    + 2 ^ 384 * k.label)

/-- A wrapped export: the key-encryption key is loaded, then EXPORT_WRAPPED is asked for (09 R369, R372; log entry 39). -/
def wrapExport (s : State) (id : Nat) : State :=
  let j := s.job id
  let k := jobSlot s j
  let (w, s1) := tryLoad s id j.d.param { classes := [0x78], usage := 11 }
  if w = 0 then
    if bit k.exp 1 then
      finish s1 id 0 (attrBlock k ++ fit (kwpLen k.material.length)
        (Config.kwpWrap ((s.kslot (j.d.param % 2097152)).material) k.material)) 1
    else finish s1 id 0x4017 [] 2
  else if w < 0x10000 then finish s1 id w [] 6
  else holdJob s1 id w

/-- KEY_EXPORT (09 R372). A job that was held for its key-encryption key has its source loaded already. -/
def execKeyExport (job : Nat) (s : State) : Out :=
  let j := s.job job
  let go (s : State) : State :=
    let k := jobSlot s j
    if j.d.param ≠ 0 then wrapExport s job
    else if (symLen k.cls).isSome ∨ (isPrivate k.cls ∧ !bit k.exp 0) then finish s job 0x4017 [] 2
    else finish s job 0 (materialPub k.cls k.material) 1
  if j.phase = .held ∧ j.d.opcode = 0x0503 ∧ j.keys.contains (j.d.handle % 2097152) then .next (go s)
  else withKey s job 0x0503 {} [] go
where
  /-- Classes that hold a private key (09 Table 2). -/
  isPrivate (c : Nat) : Bool :=
    c == 0x01 || decide (0x11 ≤ c ∧ c ≤ 0x16) || c == 0x30 || c == 0x31 || c == 0x40 || c == 0x41 || decide (0x51 ≤ c ∧ c ≤ 0x53)
      || decide (0x61 ≤ c ∧ c ≤ 0x63)

end Sys2Proof.Machine
end

