-- ==== Sys2Proof/Machine/Lanes.lean ====
section
/-! DEFINITION. Squads patrolled, withdrawn and tested (05 R237; 06 R258, R259, R267, R269). -/

namespace Sys2Proof.Machine

open Sys2Proof

/-- A patrol of a squad is due: at once, or after the period that began with the latest (06 R257 to R259, R269). -/
def patrolIsDue (s : State) (q : Nat) : Bool :=
  (s.squad q).patrolDue || decide ((s.squad q).patrolAt + msTicks (s.squad q).period ≤ s.now)

/-- PATROL_TEST (06 R257 to R260): failing lanes are swapped, a failing Keccak unit loses the squad; a withdrawn squad returns. -/
def execPatrolTest (squad : Nat) (lanesFailed : List Nat) (keccakOk : Bool) (s : State) : Out :=
  let x := s.squad squad
  if !decide (squad < 32) || !s.serving || x.mode == 2 || x.mode == 4 || x.mode == 6 || !patrolIsDue s squad then .next s
  else
    let s1 := s.withSquad squad (fun x => { x with
      patrolAt := s.now, patrolDue := false, period := s.gv gLanePatrolPeriod, busyAt := if x.slots.isEmpty then none else some s.now
      withdrawn := false, mode := if x.withdrawn && x.mode == 3 then 0 else x.mode })
    if !keccakOk then .next (loseSquad s1 squad 1) else .next (swapLanes s1 squad lanesFailed)

/-- The arithmetic self-test may take a squad: none is under test, and the squad serves (05 R237, 06 R267). -/
def selftestFree (s : State) (q : Nat) : Bool := decide (q < 32) && s.lanes.selfTest.isNone && (s.squad q).mode == 0

/-- A squad taken for the self-test: it drains (05 R237). -/
def startSelftest (s : State) (q : Nat) : State :=
  ((s.withSquad q (fun x => { x with mode := 3 })).withLanes (fun l => { l with selfTest := some q })).gset gRnsSelftestResult 3

/-- RNS_SELFTEST_RUN (05 R237): an accepted write of rns.selftest.run; the operand is the squad chosen. -/
def execRnsSelftestRun (squad : Nat) (s : State) : Out :=
  if s.serving && selftestFree s squad then .next (startSelftest s squad) else .next s

/-- SELF_TEST_DONE (05 R237): the squad has drained and was tested; a failure is recorded and its patrol follows at once. -/
def execSelfTestDone (passed : Bool) (s : State) : Out :=
  match s.lanes.selfTest with
  | none => .next s
  | some q =>
    let x := s.squad q
    let s1 := s.withLanes (fun l => { l with selfTest := none })
    if x.mode = 2 ∨ x.mode = 6 then .next (s1.gset gRnsSelftestResult 2)
    else if !x.slots.isEmpty || x.gang.isSome then .next s
    else if passed then .next ((s1.withSquad q (fun x => { x with mode := 0 })).gset gRnsSelftestResult 1)
    else
      let s2 := s1.withSquad q (fun x => { x with mode := 3, withdrawn := true, patrolDue := true })
      .next ((s2.gset gRnsSelftestResult 2).event (sqIsl q) 0x0308 1 (toLE 1 q ++ toLE 1 (Config.code 7 0)))

end Sys2Proof.Machine
end

