-- ==== Sys2Proof/Machine/Streams.lean ====
section
/-! DEFINITION. Stream jobs on the stream engines (10 R404 to R425). -/

namespace Sys2Proof.Machine

open Sys2Proof

/-! ### The stream header and its checks (10 Tables 7, 10, 11) -/

/-- Bytes of a wrapped key by ALG. -/
def wrapOf (alg : Nat) : Nat := match alg with | 1 => 24 | 2 => 40 | 3 => 40 | _ => 72

/-- Key class by ALG. -/
def algClass (alg : Nat) : Nat := 0x6F + alg

/-- IV, AAD_LEN and WRAP_LEN of a stream header. -/
def hdrIv (b : Bytes) : Nat := leNat (b.take 16)
def hdrAad (b : Bytes) : Nat := leNat ((b.drop 16).take 4)
def hdrWrap (b : Bytes) : Nat := leNat ((b.drop 20).take 2)

/-- Two host ranges have no byte in common. -/
def disjoint (a n b m : Nat) : Bool := n == 0 || m == 0 || decide (a + n ≤ b ∨ b + m ≤ a)

/-- Checks 4 to 9 of 10 Table 11 on a job, its header area and the stream key (none: the AES-KWP check failed). -/
def streamCheck (d : Desc) (opb : Bytes) (key : Option Bytes) : Nat :=
  let iv := hdrIv opb
  let wl := if d.wrapped then wrapOf d.alg else 0
  firstFail [
    (disjoint d.resAddr d.resCap d.opbAddr d.opbLen &&
      (d.resAddr == d.opaAddr || disjoint d.resAddr d.resCap d.opaAddr d.opaLen), 0x1030),
    ((opb.drop 22).take 10 == zeros 10 && (!d.aead || decide (iv < 2 ^ 96)), 0x1003),
    (hdrWrap opb == wl && decide (hdrAad opb ≤ (if d.aead then 65536 else 0)) && d.opbLen == 32 + wl + hdrAad opb, 0x1002),
    (d.aead || decide (iv + d.opaLen / d.dataUnit - 1 < 2 ^ 128), 0x1010),
    (key.isSome, 0x4016),
    (d.aead || (key.getD []).take 32 != (key.getD []).drop 32, 0x4018)]

/-- What the key load of a stream job asks for: the slot's class and SEAL or OPEN, or a key-encryption key with UNWRAP (10
R405). -/
def streamAsk (d : Desc) : LoadAsk :=
  if d.wrapped then { classes := [0x78], usage := 12 }
  else { classes := [algClass d.alg], usage := if d.opcode = 0x0601 then 9 else 10 }

/-! ### Key load and validation (10 R405, R412) -/

/-- The stream key of a job whose slot is loaded. -/
def streamKey (s : State) (j : Job) (opb : Bytes) : Option Bytes :=
  let m := (jobSlot s j).material
  if j.d.wrapped then Config.kwpUnwrap m ((opb.drop 32).take (wrapOf j.d.alg)) else some m

/-- A failing stream job ends: its counts, its plaintext zero-filled (10 R418, R425). -/
def failStream (s : State) (id status tc : Nat) : State := finish (partialCounts (zeroFill s (s.job id)) id) id status [] tc

/-- A stream job that is bound loads its key and is validated; a job whose key was wiped loads it again without counting a use (10
R412, R423; log entry 44). Operands of at most 2 KiB stand in its staging slot; larger ones, given with the command, come through the
data-class channel lent to it (04 R179, 10 R381, R401). -/
def startStream (s : State) (id op : Nat) (opaIn opbIn : Bytes) : Out :=
  let j := s.job id
  let small := decide (operandBytes j.d ≤ 2048)
  let opa := if small then j.opa else opaIn
  let opb := if small then j.opb else opbIn
  if j.d.opcode ≠ op ∨ j.engine.isNone ∨ (j.phase ≠ .streaming ∧ j.phase ≠ .held) ∨ !j.strm.key.isEmpty ∨
      (!small ∧ (s.link.state ≠ .l0 ∨ j.chan.isNone)) ∨ opa.length ≠ j.d.opaLen ∨ opb.length ≠ j.d.opbLen then .next s
  else
    let (c, s1) := tryLoad s id j.d.handle (if j.strm.rekey then { use := false } else streamAsk j.d)
    if c = 0 then
      let k := streamKey s j opb
      if j.strm.rekey then
        match k with
        | some key => .next (s1.withJob id (fun j => { j with phase := .streaming, strm := { j.strm with key := key, rekey := false } }))
        | none => .next (finish (zeroFill s1 j) id 0x4016 [] 2)
      else
        let v := streamCheck j.d opb k
        if v ≠ 0 then .next (finish s1 id v [] 2)
        else .next (s1.withJob id (fun j => { j with phase := .streaming, opa := opa, opb := opb, strm := { j.strm with key := k.getD [] } }))
    else if c < 0x10000 then .next (finish (zeroFill s1 j) id c [] (if [0x4011, 0x4012, 0x4003].contains c then 2 else 6))
    else .next (holdJob s1 id c)

/-- STREAM_SEAL. -/
def execStreamSeal (job : Nat) (opa opb : Bytes) (s : State) : Out := startStream s job 0x0601 opa opb

/-- STREAM_OPEN. -/
def execStreamOpen (job : Nat) (opa opb : Bytes) (s : State) : Out := startStream s job 0x0602 opa opb

/-! ### Binding to engines (10 R414, R415) -/

/-- A stream job waits for a place: it is ready and first of its ring, or resumes after the loss of its engine. -/
def streamWaits (s : State) (e : Nat × Job) : Bool :=
  let j := e.2
  j.phase == .waitEngine || (j.phase == .ready && isStreamOp j.d.opcode && !orderBlocked s j &&
    !(s.jobs.any (fun f => f.2.part == j.part && f.2.ring == j.ring && f.2.phase == .ready && isStreamOp f.2.d.opcode && decide (f.2.n < j.n))))

/-- Jobs that an engine holds. -/
def engineLoad (s : State) (e : Nat) : Nat := s.jobs.countP (fun j => j.engine == some e)

/-- The engine in service with the fewest jobs and a free place, the lowest on a tie. -/
def pickEngine (s : State) : Option Nat :=
  (enginesUp s).foldl (fun acc e =>
    if 16 ≤ engineLoad s e then acc
    else match acc with
      | none => some e
      | some b => if engineLoad s e < engineLoad s b then some e else acc) none

/-- A job bound: it leaves staging. -/
def bindJob (s : State) (id e : Nat) : State :=
  (if (s.job id).phase = .ready then toEngine s id else s).withJob id (fun j => { j with engine := some e, phase := .streaming })

/-- Partitions with waiting stream jobs, rising. -/
def bindParts (s : State) : List Nat :=
  (((s.jobs.filter (streamWaits s)).map (fun e => e.2.part)).dedup).mergeSort (fun a b => decide (a ≤ b))

/-- The waiting job of a partition that goes next: its rings in turn, each in descriptor order. -/
def bindNext (s : State) (p : Nat) : Option (Nat × Nat) :=
  let l := s.jobs.filter (fun e => e.2.part == p && streamWaits s e)
  match afterCyc (((l.map (fun e => e.2.ring)).dedup).mergeSort (fun a b => decide (a ≤ b))) (s.dma.bindRing.get 7 p) with
  | none => none
  | some r => (l.find? (fun e => e.2.ring == r)).map (fun e => (e.1, r))

/-- One job of a partition bound: 16 leave its deficit; a partition with none left leaves the round. -/
def bindOne (s : State) (p e : Nat) : State :=
  match bindNext s p with
  | none => s
  | some (id, r) =>
    let s1 := bindJob s id e
    s1.withDma (fun d => { d with
      bindRing := d.bindRing.set p r, bindCur := some p,
      bindDef := if (bindNext s1 p).isSome then d.bindDef.set p (d.bindDef.get 0 p - 16) else d.bindDef.erase p })

/-- Visits in turn until a partition's deficit is positive (10 R415). -/
def bindRound : Nat → Nat → Nat → State → State
  | 0, _, _, s => s
  | n + 1, last, e, s =>
    match afterCyc (bindParts s) last with
    | none => s
    | some p =>
      let d := s.dma.bindDef.get 0 p + (s.gvs gPartitionWeight p : Nat)
      let s1 := s.withDma (fun x => { x with bindDef := x.bindDef.set p d, bindCur := some p })
      if 0 < d then bindOne s1 p e else bindRound n p e s1

/-- STREAM_BIND (10 R414, R415): jobs whose engine was lost go first, uncharged (log entry 41). -/
def execStreamBind (s : State) : Out :=
  if !s.serving then .next s
  else match pickEngine s with
    | none => .next s
    | some e =>
      match (s.jobsWith (fun j => j.phase == .waitEngine)).head? with
      | some id => .next (bindJob s id e)
      | none =>
        let l := bindParts s
        let cur := s.dma.bindCur.getD 1024
        if l.contains cur && decide (0 < s.dma.bindDef.get 0 cur) then .next (bindOne s cur e)
        else .next (bindRound (18 * l.length) cur e s)

/-! ### Segments (10 R413, R417 to R420) -/

/-- The payload transformed: AEAD by the key stream, XTS by data units. -/
def cipher (d : Desc) (key opb data : Bytes) : Bytes :=
  if d.aead then xorBytes data (fit data.length (Config.keystream d.alg key (opb.take 12) data.length))
  else fit data.length (Config.xts (d.opcode == 0x0601) key (hdrIv opb) d.dataUnit data)

/-- The associated data of a job. -/
def aadOf (d : Desc) (opb : Bytes) : Bytes := opb.drop (32 + (if d.wrapped then wrapOf d.alg else 0))

/-- The tag of a job over its ciphertext. -/
def tagOf (d : Desc) (key opb ct : Bytes) : Bytes := fit 16 (Config.aeadTag d.alg key (opb.take 12) (aadOf d opb) ct)

/-- Bytes of the next segment: the AAD with the first, at most 65,536 of payload. -/
def segBytes (j : Job) : Nat := min 65536 (j.d.payload - j.strm.done) + (if j.strm.started then 0 else hdrAad j.opb)

/-- A whole pass done: the tag is written or verified, the stream bytes counted (10 R417 to R419, R425). -/
def endStream (s : State) (id : Nat) (out : Bytes) : State :=
  let j := s.job id
  let s1 := s.withJob id (fun j => { j with stream := hdrAad j.opb + j.d.payload })
  let data := j.opa.take j.d.payload
  if !j.d.aead then finish s1 id 0 out 4
  else if j.d.opcode = 0x0601 then finish s1 id 0 (out ++ tagOf j.d j.strm.key j.opb out) 4
  else if tagOf j.d j.strm.key j.opb data = j.opa.drop j.d.payload then finish s1 id 0 out 4
  else finish ((zeroFill s1 (s1.job id)).bump gStreamAuthFail) id 0x1017 [] 2

/-- The read of a job's next segment is issued (03 R131). -/
def laterRead (s : State) (id : Nat) : State :=
  s.withLink (fun l => { l with reads := l.reads.map (fun h => if h.who = .job id then { h with issuedAt := s.now } else h) })

/-- One segment of a job processed and its running state committed; output leaves its engine unless the tag comes first (10 R413,
R417). -/
def runSegment (s : State) (id : Nat) : State :=
  let j := s.job id
  let out := cipher j.d j.strm.key j.opb (j.opa.take j.d.payload)
  let n := min 65536 (j.d.payload - j.strm.done)
  let held := j.d.aead && j.d.opcode == 0x0602 && !largeOpen j.d
  let s1 := laterRead (if held then s else s.hostWrite j.part (j.d.resAddr + j.strm.done) ((out.drop j.strm.done).take n)) id
  let s2 := s1.withJob id (fun j => { j with strm := { j.strm with done := j.strm.done + n, started := true } })
  if j.strm.done + n = j.d.payload then endStream s2 id out else s2

/-- A mismatch between the two paths of an engine (10 R420). -/
def segMismatch (s : State) (id e : Nat) : State :=
  let j := s.job id
  let n := j.strm.mism + 1
  let s1 := faultReport (s.report (strIsl e) 0x0305 e j.strm.done) (64 + e)
  let s2 := s1.withJob id (fun j => { j with strm := { j.strm with mism := n } })
  if n = 1 then s2.bump gStreamRetryTotal
  else if n = 2 then loseEngine (s2.bump gStreamRetryTotal) e 2
  else failStream s2 id 0x5012 6

/-- Validated jobs of an engine's partition, oldest first. -/
def segJobs (s : State) (e : Nat) : List (Nat × Job) :=
  s.jobs.filter (fun x => x.2.engine == some e && x.2.phase == .streaming && !x.2.strm.key.isEmpty)

/-- The partition that an engine serves now, and the state after its visits (10 R414). -/
def segRound : Nat → Nat → Nat → State → Option (Nat × State)
  | 0, _, _, _ => none
  | n + 1, last, e, s =>
    match afterCyc ((((segJobs s e).map (fun x => x.2.part)).dedup).mergeSort (fun a b => decide (a ≤ b))) last with
    | none => none
    | some p =>
      let t : Tab Int := s.dma.engDef.get [] e
      let d := t.get 0 p + (s.gvs gPartitionWeight p * 65536 : Nat)
      let s1 := s.withDma (fun x => { x with engDef := x.engDef.set e (Tab.set t p d), engCur := x.engCur.set e p })
      if 0 < d then some (p, s1) else segRound n p e s1

/-- STREAM_SEGMENT (10 R413, R414, R420): the engine takes the next segment of the partition in turn. -/
def execStreamSegment (engine : Nat) (mismatch : Bool) (s : State) : Out :=
  let parts := (segJobs s engine).map (fun x => x.2.part)
  if !s.serving || s.link.state != .l0 || parts.isEmpty || !(enginesUp s).contains engine then .next s
  else
    let cur := s.dma.engCur.get 1024 engine
    let pick := if parts.contains cur && decide (0 < Tab.get 0 (s.dma.engDef.get [] engine) cur) then some (cur, s)
      else segRound (4 * parts.length) cur engine s
    match pick with
    | none => .next s
    | some (p, s1) =>
      match (segJobs s1 engine).find? (fun x => x.2.part == p) with
      | none => .next s1
      | some (id, j) =>
        if mismatch then .next (segMismatch s1 id engine)
        else
          let s2 := runSegment s1 id
          .next (s2.withDma (fun x => { x with engDef := x.engDef.upd [] engine (fun t =>
            if (segJobs s2 engine).any (fun y => y.2.part == p) then Tab.set t p (Tab.get 0 t p - segBytes j) else Tab.erase t p) }))

end Sys2Proof.Machine
end

