-- ==== Sys2Proof/Machine/DmaCh.lean ====
section
/-! DEFINITION. DMA channels: descriptors, completion records, tails, starts, aborts and failed reads (03 R131, R132; 10 R381 to
R403). -/

namespace Sys2Proof.Machine

open Sys2Proof

/-! ### Descriptors (10 Table 3) -/

/-- One side of a transfer. -/
structure Side where
  addr : Nat
  stride : Nat
  lines : Nat
  len : Nat
  inModule : Bool
  deriving DecidableEq, Repr

/-- A DMA descriptor. -/
structure DDesc where
  op : Nat
  xform : Nat
  src : Side
  dst : Side
  pattern : Nat
  tag : Nat
  link : Bool
  noEvent : Bool
  rsvd : Bool
  deriving DecidableEq, Repr

/-- Stream bytes of a side. -/
def Side.total (x : Side) : Nat := x.len * x.lines

def parseDma (b : Bytes) : DDesc :=
  let v := leNat (b.take 64)
  let src : Side := ⟨bits v 447 384, bits v 287 256, bits v 239 224, bits v 199 176, bit v 12⟩
  let dst : Side := ⟨bits v 511 448, bits v 319 288, bits v 255 240, bits v 223 200, bit v 13⟩
  let op := bits v 3 0
  let off (x : Side) : Bool := x.addr != 0 || x.stride != 0 || x.lines != 0 || x.len != 0 || x.inModule
  { op := op, xform := bits v 10 8, src := src, dst := dst, pattern := bits v 383 320, tag := bits v 175 144, link := bit v 15,
    noEvent := bit v 14,
    rsvd := bits v 7 4 != 0 || bit v 11 || bits v 143 16 != 0 || (op == 1 && off src) || (op == 2 && off dst) ||
      ((op == 0 || op == 3) && bits v 383 320 != 0) }

/-- The wrap-doubled index `n` of a queue (04 R144). -/
def qIdx (n entries : Nat) : Nat := n % (2 * entries)

/-- The channel has a descriptor to process. -/
def chanWork (x : DmaCh) : Bool := x.state == 1 && x.entries != 0 && x.tail != qIdx x.headN x.entries

/-- The descriptor at a channel's head. -/
def headDesc (s : State) (c : Nat) : DDesc :=
  let x := s.chan c
  parseDma (Mem.read 0 s.mem (x.qBase + 64 * (x.headN % x.entries)) 64)

/-- The job that a data-class channel is lent to (10 R381). -/
def lentTo (s : State) (c : Nat) : Option Job := ((s.jobs.filter (fun e => e.2.chan == some c)).head?).map Prod.snd

/-- The master identity of a channel (10 R381, R383): the partition's while a data-class channel is lent. -/
def chanId (s : State) (c : Nat) : Nat := if c < 384 then ((lentTo s c).map (fun j => j.part)).getD 0 else (s.chan c).owner

/-! ### Completion records (10 R385, R397 to R399) -/

/-- A completion record written; the head and the completion index advance, the channel's transit units are wiped (10 R380), a SEV follows
unless NO_EVENT. -/
def putRecord (s : State) (c : Nat) (d : DDesc) (status offset done : Nat) (unknown mismatch : Bool) : State :=
  let x := s.chan c
  let rec_ := toLE 32 (b2n (decide (qIdx x.cqN x.entries < x.entries)) + 2 * qIdx (x.headN + 1) x.entries + 2 ^ 64 * b2n mismatch +
    2 ^ 65 * b2n unknown + 2 ^ 80 * status + 2 ^ 96 * d.tag + 2 ^ 128 * done + 2 ^ 192 * offset)
  let s1 : State := { s with mem := Mem.write 0 s.mem (x.cqBase + 32 * (x.cqN % x.entries)) rec_ }
  let s2 := s1.withChan c (fun x => { x with headN := x.headN + 1, cqN := x.cqN + 1, cur := none, readAt := s.now, data := [], shared := 0 })
  if d.noEvent then s2 else sendEvents s2 x.evtMask none

/-- A channel that stops after its current descriptor is DISABLED. -/
def settleChan (s : State) (c : Nat) : State :=
  if (s.chan c).state = 2 ∧ (s.chan c).cur.isNone then s.withChan c (fun x => { x with state := 0, skip := false }) else s

/-- The descriptor at the head completes: a BAD one makes the rest of its chain be skipped (10 R393, R397). -/
def completeDesc (s : State) (c : Nat) (d : DDesc) (status offset done : Nat) (unknown mismatch : Bool) : State :=
  let bad := status == 0x3001 || status == 0x3003
  let s1 := putRecord (if bad then s.bump gDmaBadTotal else s) c d status offset done unknown mismatch
  settleChan (s1.withChan c (fun x => { x with skip := d.link && (x.skip || bad) })) c

/-- Bytes made: a descriptor that wrote waits for its read-back, any other completes (10 R395). -/
def endDesc (s : State) (c : Nat) (d : DDesc) (status offset done : Nat) (mismatch : Bool) : State :=
  if (d.op = 0 ∨ d.op = 1) ∧ done ≠ 0 then
    s.withChan c (fun x => { x with cur := some ⟨d.tag, d.link, d.noEvent, status, offset, done⟩ })
  else completeDesc s c d status offset done false mismatch

/-- What a descriptor's record and chain need of it, once its accesses are made. -/
def DmaCur.desc (k : DmaCur) : DDesc := { parseDma [] with tag := k.tag, link := k.link, noEvent := k.noEvent }

/-! ### Starts, tails and aborts (10 R385, R386) -/

/-- CHANNEL_ENABLE: a channel with 1 to 4,096 entries starts with both rings empty; cleared, it stops after its current
descriptor (10 Table 2). A data-class channel that is not lent does not start (log entry 42). -/
def enableChan (s : State) (c : Nat) (on : Bool) : State :=
  let x := s.chan c
  if on then
    if x.state = 0 ∧ 1 ≤ x.entries ∧ x.entries ≤ 4096 ∧ (384 ≤ c ∨ (lentTo s c).isSome) then
      s.withChan c (fun x => { x with state := 1, tail := 0, headN := 0, cqN := 0, skip := false, cur := none, readAt := s.now })
    else s
  else if x.state = 1 then settleChan (s.withChan c (fun x => { x with state := 2 })) c
  else s

/-- CHANNEL_ENABLE. -/
def execChannelEnable (ch : Nat) (on : Bool) (s : State) : Out :=
  if decide (ch < 512) && s.mainUp then .next (enableChan s ch on) else .next s

/-- Descriptors that still wait completed DESC_ABORTED (10 R386). -/
def abortRest : Nat → State → Nat → State
  | 0, s, _ => s
  | n + 1, s, c =>
    let x := s.chan c
    if x.tail = qIdx x.headN x.entries then s
    else abortRest n (putRecord s c ((x.cur.map DmaCur.desc).getD (headDesc s c)) 0x6004 0 ((x.cur.map (fun k => k.done)).getD 0) false false) c

/-- A channel aborted: what its current descriptor has written stays, and its record says how much; its transit units are wiped (10
R380, R403). -/
def abortChan (s : State) (c : Nat) : State :=
  let x := s.chan c
  if x.state = 0 then s
  else (abortRest (2 * x.entries) s c).withChan c (fun x => { x with state := 0, skip := false, cur := none, data := [], shared := 0 })

/-- CHANNEL_ABORT. -/
def execChannelAbort (ch : Nat) (s : State) : Out :=
  if decide (ch < 512) && s.mainUp then .next (abortChan s ch) else .next s

/-- A tail value that a queue accepts: an index of the ring that leaves at most ENTRIES pending (04 R145; log entry 43). -/
def tailOk (entries headN v : Nat) : Bool :=
  decide (entries ≠ 0 ∧ v < 2 * entries ∧ (v + 2 * entries - qIdx headN entries) % (2 * entries) ≤ entries)

/-- A tail written to a channel. -/
def tailChan (s : State) (c v : Nat) : State :=
  let x := s.chan c
  if x.state = 1 ∧ tailOk x.entries x.headN v then
    s.withChan c (fun x => { x with tail := v, readAt := if chanWork x then x.readAt else s.now })
  else s

/-! ### Failed and abandoned reads (03 R131, R132; 10 R393) -/

/-- A read that a job has out fails: the job ends DMA_BUS_ERROR. -/
def failJobRead (s : State) (id : Nat) : State :=
  let j := s.job id
  if s.link.reads.any (fun h => h.who == .job id) then
    finish (if j.atWork then partialCounts (zeroFill s j) id else s) id 0x3003 [] 6
  else s

/-- A read of a channel fails at the end of the data that came before it: the descriptor goes BAD there (10 R393). The data is
written where it was to go by the DMA row itself; here its descriptor has a compare or nothing before the failure. -/
def readHead (s : State) (c : Nat) : Option DDesc :=
  let x := s.chan c
  if chanWork x && x.cur.isNone && !x.skip then some (headDesc s c) else none

/-- The largest timeout of the sub-range that the Completion Timeout Value field selects, in ticks (03 R131; log entry 45). -/
def ctoTicks (v : Nat) : Nat :=
  match v with
  | 1 => usTicks 100 | 2 => msTicks 10 | 5 => msTicks 55 | 6 => msTicks 210 | 9 => msTicks 900 | 10 => msTicks 3500
  | 13 => secTicks 13 | 14 => secTicks 64 | _ => msTicks 50

/-- A read has been out for a time: a job's since it was issued, those of a channel's head descriptor since it reached the head (log
entry 45). -/
def readDue (s : State) (who : ReadRef) (t : Nat) : Bool :=
  match who with
  | .channel c _ => decide ((s.chan c).readAt + t ≤ s.now)
  | .job _ => match s.link.reads.find? (fun r => r.who == who) with
    | some r => decide (r.issuedAt + t ≤ s.now)
    | none => false

end Sys2Proof.Machine
end

