-- ==== Sys2Proof/Machine/Flash.lean ====
section
/-! DEFINITION. Code flash and vault flash: descriptor queues, reads, programs, erases, sparing and collection (16). -/

namespace Sys2Proof.Machine

open Sys2Proof

/-! ### Queues (16 R601 to R603) -/

/-- A flash queue. -/
inductive FlashQ where
  | code (q : Nat)
  | vault (q : Nat)
  deriving DecidableEq, Repr

/-- The flash queue of a reference; a DMA channel is none. -/
def flashQ : QueueRef → Option FlashQ
  | .dma _ => none
  | .code q => if q < 4 then some (.code q) else none
  | .vault q => if q < 16 then some (.vault q) else none

def State.fqueue (s : State) : FlashQ → FQueue
  | .code q => s.code.queues.get {} q
  | .vault q => s.vault.queues.get {} q

def State.withFQueue (s : State) (q : FlashQ) (f : FQueue → FQueue) : State :=
  match q with
  | .code k => s.withCode (fun c => { c with queues := c.queues.upd {} k f })
  | .vault k => s.withVault (fun v => { v with queues := v.queues.upd {} k f })

/-- Fields of a flash descriptor (16 Table 4). -/
def parseFlash (b : Bytes) : FDesc :=
  let v := leNat (b.take 32)
  { op := bits v 3 0, bank := bits v 19 16, tag := bits v 95 64, len := bits v 127 96, target := bits v 191 128,
    buf := bits v 255 192, rsvd := bits v 15 4 != 0 || bits v 63 20 != 0 }

/-- The descriptor at a queue's head. -/
def flashHead (s : State) (q : FlashQ) : FDesc :=
  let x := s.fqueue q
  parseFlash (Mem.read 0 s.mem (x.qBase + 32 * (x.headN % x.entries)) 32)

/-- A queue has a descriptor to accept. -/
def FQueue.hasWork (x : FQueue) : Bool := x.state == 1 && x.entries != 0 && x.tail != qIdx x.headN x.entries

/-- The queue that is in turn: one descriptor per queue per turn, round-robin (16 R606). -/
def queueTurn (s : State) : FlashQ → Option Nat
  | .code _ => afterCyc (s.code.queues.keysWith FQueue.hasWork) s.code.turn
  | .vault _ => afterCyc (s.vault.queues.keysWith FQueue.hasWork) s.vault.turn

/-- The queue's number. -/
def FlashQ.num : FlashQ → Nat
  | .code q => q
  | .vault q => q

/-- The descriptor at the head taken: the turn moves on. -/
def takeHead (s : State) (q : FlashQ) : State :=
  let s1 := s.withFQueue q (fun x => { x with headN := x.headN + 1 })
  match q with
  | .code k => s1.withCode (fun c => { c with turn := k })
  | .vault k => s1.withVault (fun v => { v with turn := k })

/-- The guard epoch of an access made now: during a drain it is already the next one (15 R585, 16 R605). -/
def accessEpoch (s : State) : Nat := s.gv gGuardEpoch + b2n (s.gv gGuardCommitState == 0x30F)

/-- A vault program of a queue's descriptor. -/
def VProg.ofQueue (q : Nat) (p : VProg) : Bool := match p.src with | .desc k _ _ => k == q | _ => false

/-- Every vault program that is gathered or being programmed. -/
def vPrograms (s : State) : List VProg := s.vault.gather ++ s.vault.rgather ++ s.vault.banks.flatMap (fun e => e.2.prog.flatten)

/-- A queue has accepted descriptors that are not completed. -/
def queueBusy (s : State) : FlashQ → Bool
  | .code k => s.code.banks.any (fun e => e.2.queue == k) || s.code.waits.any (fun w => w.queue == k)
  | .vault k => (vPrograms s).any (VProg.ofQueue k) || s.vault.waits.any (fun w => w.queue == k)

/-- A queue that drains is DISABLED once nothing of it is in progress (10 Table 2, 16 R601). -/
def settleQueue (s : State) (q : FlashQ) : State :=
  if (s.fqueue q).state = 2 && !queueBusy s q then s.withFQueue q (fun x => { x with state := 0 }) else s

/-- A completion entry written, followed by the queue's SEV (16 Table 5). -/
def flashEntry (s : State) (q : FlashQ) (op tag status done retry result aux : Nat) : State :=
  let x := s.fqueue q
  if x.entries = 0 then s
  else
    let e := toLE 32 (b2n (decide (qIdx x.cqN x.entries < x.entries)) + 2 * qIdx x.headN x.entries + 2 ^ 40 * retry + 2 ^ 44 * op +
      2 ^ 48 * status + 2 ^ 64 * tag + 2 ^ 96 * done + 2 ^ 128 * aux + 2 ^ 192 * result)
    let s1 : State := { s with mem := Mem.write 0 s.mem (x.cqBase + 32 * (x.cqN % x.entries)) e }
    settleQueue (sendEvents (s1.withFQueue q (fun x => { x with cqN := x.cqN + 1 })) x.evtMask none) q

/-- An entry of a descriptor without a result. -/
def flashDone (s : State) (q : FlashQ) (d : FDesc) (status done : Nat) : State := flashEntry s q d.op d.tag status done 0 0 0

/-! ### Sectors (16 Tables 1, 2, 9) -/

def sector (s : State) (n : Nat) : FUnit := s.code.sectors.get {} n

def withSector (s : State) (n : Nat) (f : FUnit → FUnit) : State :=
  s.withCode (fun c => { c with sectors := c.sectors.upd {} n f })

/-- Sectors that a code flash range touches. -/
def sectorsOf (a n : Nat) : List Nat :=
  if n = 0 then [] else (List.range ((a + n - 1) / 4096 - a / 4096 + 1)).map (· + a / 4096)

/-- The bank of a code flash offset. -/
def codeBank (a : Nat) : Nat := a / 0x1000000

/-- First code flash offset of the image that runs (16 Table 2). -/
def slotBase (slot : Nat) : Nat := match slot with | 0 => 0 | 1 => 0x1000000 | _ => 0x3000000

/-- The slot that a Deep Verb pair runs: the running one, or during a changeover the one it was reset into (18 Table 9). -/
def deepSlot (s : State) (u : Nat) : Nat := Tab.get (s.gv gFlashSlotRunning) s.verb.prog (u / 2 * 2)

/-! ### Acceptance (16 Table 7) -/

/-- A range is admitted to an identity by the guard of a module address. -/
def rangeAdmits (s : State) (i a n : Nat) (k : Access) : Option (Nat × Nat) :=
  match spaceOf a with
  | none => some (0, a)
  | some (g, off) => if guardSpace g < off + n ∨ guardCheck s g i off (off + n - 1) k ≠ 0 then some (g, off) else none

/-- Check 5 of Table 7: none when the guards allow target and buffer, else the guard and offset that refused. A vault PROGRAM has
no target before VFC assigns one (log entry 47). -/
def flashGuard (s : State) (vault : Bool) (i : Nat) (d : FDesc) : Option (Nat × Nat) :=
  let g := if vault then 4 else 3
  let len := max 1 d.len
  let tk := if d.op = 0 ∨ d.op = 5 then Access.read else Access.write
  let t := if d.op = 3 ∨ d.op = 4 ∨ (vault ∧ d.op = 1) ∨ guardCheck s g i d.target (d.target + len - 1) tk = 0 then none else some (g, d.target)
  match t with
  | some x => some x
  | none =>
    if d.op = 0 ∧ d.len ≠ 0 then rangeAdmits s i d.buf d.len .write
    else if d.op = 1 ∧ d.len ≠ 0 then rangeAdmits s i d.buf d.len .read
    else none

/-- Check 6 of Table 7: a sector of the range holds the owning core's PC, or slots of the queue's ring. -/
def selfOperation (s : State) (q : FlashQ) (d : FDesc) : Bool :=
  let x := s.fqueue q
  let l := sectorsOf d.target d.len
  let core := (x.owner - 0x800) / 4
  let pcAt := slotBase (deepSlot s core) + 0x1000 + 2 * (s.unit (core / 2 * 2)).r.pc.toNat
  let ring := match spaceOf x.qBase with
    | some (3, off) => if off < 0x4000000 then sectorsOf off (32 * x.entries) else []
    | _ => []
  (decide (0x800 ≤ x.owner ∧ core < 4) && l.contains (pcAt / 4096)) || l.any (fun n => ring.contains n)

/-- Check 7 of Table 7: a sector that is not ERASED completed an erase within 7,200 s of Sentinel Time. -/
def resting (s : State) (d : FDesc) : Bool :=
  (sectorsOf d.target d.len).any (fun n => let u := sector s n
    u.state != 0 && (match u.lastErase with | some t => decide (s.clock.st < t + 7200 * 256) | none => false))

/-- The status of Table 7 for a descriptor; 0 when it is accepted. -/
def flashCheck (s : State) (q : FlashQ) (d : FDesc) : Nat :=
  let v := match q with | .vault _ => true | .code _ => false
  let op := d.op
  let size := if v then 2 ^ 37 else 0x4000000
  let susp := op == 3 || op == 4
  let rw := op == 0 || op == 1
  firstFail [
    (decide (op ≤ 5) && !(susp && v), 0x1031),
    (!d.rsvd && (rw || d.buf == 0) && (susp || d.bank == 0) && (!susp || (d.target == 0 && d.len == 0)) &&
      !(v && op == 1 && d.target != 0), 0x1003),
    (!(op == 1 || op == 2) || (if v then d.len % 32 == 0 && (op != 2 || d.target % 32 == 0)
      else (if op = 1 then d.target % 32 == 0 && d.len % 32 == 0 else d.target % 4096 == 0 && d.len % 4096 == 0)), 0x1040),
    (decide (d.target + d.len ≤ size) && (op != 5 || decide (d.target < size)) &&
      (v || !(op == 1 || op == 2) || d.len == 0 || codeBank d.target == codeBank (d.target + d.len - 1)) &&
      (op != 1 || decide (d.len ≤ (if v then 16384 else 65536))) && (op != 0 || decide (d.len ≤ 1048576)) &&
      (!(v && op == 2) || decide (d.target + d.len ≤ 2 ^ 36)) && (!susp || decide (d.bank ≤ 3)), 0x1002),
    ((flashGuard s v (s.fqueue q).owner d).isNone, 0x3001),
    (v || !(op == 1 || op == 2) || !selfOperation s q d, 0x3014),
    (v || op != 2 || !resting s d, 0x2019),
    (!(rw || op == 2) || d.len != 0, 1)]

/-- One descriptor of a queue in turn: refused by Table 7, or handed to `f` with its head taken. `ops` are the operations that the
command stands for. -/
def onFlash (s : State) (ref : QueueRef) (ops : Nat → Bool) (f : FlashQ → FDesc → State → Option State) : Out :=
  match flashQ ref with
  | none => .next s
  | some q =>
    if !s.hostSupply || !(s.fqueue q).hasWork || queueTurn s q != some q.num then .next s
    else
      let d := flashHead s q
      if !ops d.op then .next s
      else
        let c := flashCheck s q d
        let v := match q with | .vault _ => true | .code _ => false
        if c = 0x3001 then
          let at_ := (flashGuard s v (s.fqueue q).owner d).getD (0, 0)
          .next (flashDone (guardRefused (takeHead s q) at_.1 (s.fqueue q).owner at_.2) q d c 0)
        else if c ≠ 0 then .next (flashDone (takeHead s q) q d c 0)
        else .next ((f q d (takeHead s q)).getD s)

/-! ### Reads (16 R607, R612 to R614) -/

/-- A code flash bank programs or erases now, so that accesses of it stall; a suspended erase does not (16 R607, R608). -/
def bankStalls (s : State) (b : Nat) : Bool :=
  match s.code.banks.find b with
  | some o => o.suspAt.isNone
  | none => false

/-- A vault block relocated and collected: its live runs are appended through the relocation rotation (16 R613, R622). -/
def collect (s : State) (n : Nat) : State :=
  if s.vault.victims.contains n || (s.vault.map.find n).isNone then s
  else
    let rs := s.vault.runs.filter (fun r => r.addr / vBlock == n && r.moved.isNone && decide (0 < liveBytes r))
    let s1 := rs.foldl (fun s r => (vAppend s true (.reloc r.addr r.queue) ((List.range r.data.length).map (fun i => vByte s (r.addr + i)))).bumpBys
      gFlashVaultRelocated 0 r.data.length) s
    s1.withVault (fun v => { v with victims := v.victims ++ [n] })

/-- A vault bank programs or erases: a page is programmed in its bank and, for its second copy, in bank + 8 (16 R606, R620). -/
def vBankBusy (s : State) (b : Nat) : Bool :=
  !(s.vbank b).prog.isEmpty || !(s.vbank ((b + 8) % 16)).prog.isEmpty || (s.vbank b).erasing.isSome

/-- Banks that hold a vault range. -/
def vaultBanks (s : State) (a n : Nat) : List Nat :=
  ((List.range ((a + n - 1) / vBlock - a / vBlock + 1)).map (· + a / vBlock)).filterMap (fun l =>
    (s.vault.map.find (l % 16384)).map (fun e => (if l < 16384 then e.1 else e.2) / 2720))

/-- Banks of code flash that a descriptor reaches. -/
def codeBanks (d : FDesc) : List Nat := ((sectorsOf d.target d.len).map (· / 4096)).dedup

/-- A read that decodes: its buffer is written, its retry step reported and acted on (16 R613). -/
def readOk (s : State) (q : FlashQ) (d : FDesc) (retry : Nat) (data : Bytes) : State :=
  let s1 : State := { s with mem := Mem.write 0 s.mem d.buf data }
  let s2 := flashEntry s1 q 0 d.tag 0 d.len retry 0 0
  match q with
  | .code _ =>
    let s3 := if retry = 0 then s2 else s2.bump gFlashCodeRetry
    if 4 ≤ retry then (s3.gset gFlashCodeDegraded 1).event 208 0x0601 1 (toLE 1 0 ++ toLE 4 (d.target / 4096) ++ toLE 1 retry) else s3
  | .vault _ => if 8 ≤ retry then collect s2 (d.target % vHalf / vBlock) else s2

/-- A code flash READ whose banks are free to be read (16 R608, R612 to R614). -/
def startRead (s : State) (w : FWait) : State :=
  let d := w.d
  let l := sectorsOf d.target d.len
  if l.any (fun n => (sector s n).state == 4) then flashDone s (.code w.queue) d 0x5016 0
  else if l.any (fun n => (sector s n).state == 3) then flashDone s (.code w.queue) d 0x2020 0
  else match w.retry with
    | none => flashDone (s.bump gFlashCodeRetry) (.code w.queue) d 0x5015 0
    | some r => readOk s (.code w.queue) d r (Mem.read 0xFF s.codeFlash d.target d.len)

/-- A vault READ whose banks are free to be read; the data is that of its acceptance (16 R606, R612, R613). -/
def startVaultRead (s : State) (w : FWait) : State :=
  match w.retry with
  | none => (flashDone s (.vault w.queue) w.d 0x5015 0).bump gFlashVaultReadFail
  | some r => readOk s (.vault w.queue) w.d r w.data

/-- A vault READ accepted: it waits while a bank of its range is busy, or behind a read that waits for that bank (16 R606, R607). -/
def acceptVaultRead (s : State) (w : FWait) : State :=
  let l := vaultBanks s w.d.target w.d.len
  if l.any (fun b => vBankBusy s b || s.vault.waits.any (fun v => (vaultBanks s v.d.target v.d.len).contains b)) then
    s.withVault (fun v => { v with waits := v.waits ++ [w] })
  else startVaultRead s w

/-- The vault reads that wait looked at again, in their order. -/
def serveVaultReads (s : State) : State := s.vault.waits.foldl acceptVaultRead (s.withVault (fun v => { v with waits := [] }))

/-! ### Programs (16 R609, R611, R618, R619) -/

/-- Every byte of a range of code flash is erased; a granule programmed with 0xFF bytes alone counts as erased (log entry 49). -/
def rangeErased (s : State) (a n : Nat) : Bool := s.codeFlash.all (fun c => decide (c.1 < a ∨ a + n ≤ c.1))

/-- A code flash PROGRAM whose bank is free (16 R608, R609, Table 9). -/
def startProgram (s : State) (w : FWait) : State :=
  let d := w.d
  let q : FlashQ := .code w.queue
  if (s.code.banks.find (codeBank d.target)).isSome then flashDone s q d 0x2017 0
  else if (sectorsOf d.target d.len).any (fun n => (sector s n).state == 4) then flashDone s q d 0x5016 0
  else if !rangeErased s d.target d.len then flashDone s q d 0x1041 0
  else s.withCode (fun c => { c with
    banks := c.banks.set (codeBank d.target) { queue := w.queue, epoch := w.epoch, d := d, data := Mem.read 0 s.mem d.buf d.len } })

/-- A vault block fails: it is RETIRED and a reserve block, or a free one, takes its place under its log block (16 R624). -/
def spareBlock (s : State) (b key cause : Nat) : State :=
  let x := s.vbank b
  let new := if x.spent < 64 then blkKey b (2656 + x.spent) else (lowestCount s.vault.blocks (freeBlocks s b) none).getD key
  let s1 := (s.withVBank b (fun x => { x with spent := if x.spent < 64 then x.spent + 1 else x.spent })).withVault (fun v => { v with
    blocks := (v.blocks.upd {} new (fun u => { u with state := if v.map.any (fun e => e.2.1 == key || e.2.2 == key) then 1 else u.state })).upd {} key
      (fun u => { u with state := 5 }),
    map := v.map.mapVals (fun _ e => (if e.1 = key then new else e.1, if e.2 = key then new else e.2)) })
  s1.event (210 + b) 0x0602 1 (toLE 1 b ++ toLE 2 (key % 2720) ++ toLE 1 (Config.code 8 cause))

/-- Records that have left the rolling area are discarded, those of the founding area apart (21 R742, R743, 16 R621). -/
def dropEvents (before : List EvRec) (s : State) : State :=
  let oldest := (s.evr.rolling.head?.map (·.rnum)).getD 0
  (before.filter (fun r => r.place.isNone && decide (r.rnum < oldest))).foldl (fun s r => vDiscard s r.addr (recSize r)) s

/-- A programmed run told to those who wait for it: the key store, EVR, the queue of a descriptor, or the queue of a relocated
run by a notice (09 R353, 16 R619, R622, 21 R751). -/
def programmed (s : State) (p : VProg) : State :=
  let n := p.data.length
  let run (q : Option Nat) : VRun := { addr := p.addr, data := p.data, queue := q }
  let add (s : State) (r : VRun) : State := s.withVault (fun v => { v with runs := v.runs ++ [r] })
  match p.src with
  | .commit c => commitDurable (add s (run none)) c p.addr
  | .usePage items => pageDurable (add s (run none)) items
  | .events k => dropEvents s.evr.rolling (evrDurable (add s { run none with evr := true }) k p.addr)
  | .desc q _ tag => flashEntry (add s (run (some q))) (.vault q) 1 tag 0 n 0 p.addr 0
  | .aborted => add s (run none)
  | .reloc old q =>
    let isEvr := s.vault.runs.any (fun r => r.addr == old && r.evr)
    let s0 := (add s { run q with evr := isEvr }).withVault (fun v => { v with runs := v.runs.map (fun r =>
      if r.addr = old ∧ r.moved.isNone then { r with moved := some p.addr } else r) })
    let s1 := if isEvr then s0.withEvr (fun e => { e with rolling := e.rolling.map (fun r =>
      if old ≤ r.addr ∧ r.addr < old + n then { r with addr := r.addr - old + p.addr } else r) }) else s0
    match q with
    | some k => flashEntry s1 (.vault k) 15 0xFFFFFFFF 0 n 0 p.addr old
    | none => s1

/-- The end of a code flash program (16 R611): on a failure the granules before it are programmed, and what the failing one holds is
free. -/
def endProgram (s : State) (b : Nat) (o : BankOp) (ok : Bool) : State :=
  let (f, s0) := s.drawNat
  let n := if ok then o.d.len else f % (o.d.len / 32) * 32
  let (b32, s0) := s0.drawBytes 32
  let bad := if ok then [] else b32
  let s1 : State := { s0 with codeFlash := Mem.write 0xFF s0.codeFlash o.d.target (o.data.take n ++ bad) }
  let s2 := (sectorsOf o.d.target (n + bad.length)).foldl (fun s k => withSector s k (fun u => { u with state := 1 })) s1
  flashDone (s2.withCode (fun c => { c with banks := c.banks.erase b })) (.code o.queue) o.d (if ok then 0 else 0x5017) n

/-! ### Erases (16 R608, R610, R611, R614, R615) -/

/-- The next sector of an erase begun, or the erase completed. -/
def nextErase (s : State) (b : Nat) (o : BankOp) : State :=
  match o.left with
  | n :: _ => (withSector s n (fun u => { u with state := 2 })).withCode (fun c => { c with banks := c.banks.set b o })
  | [] => flashDone (s.withCode (fun c => { c with banks := c.banks.erase b })) (.code o.queue) o.d 0 o.d.len

/-- A code flash ERASE whose bank is free: sectors that are ERASED are left as they are (16 R608, R610). -/
def startErase (s : State) (w : FWait) : State :=
  let d := w.d
  if (s.code.banks.find (codeBank d.target)).isSome then flashDone s (.code w.queue) d 0x2017 0
  else nextErase s (codeBank d.target)
    { queue := w.queue, epoch := w.epoch, d := d, left := (sectorsOf d.target d.len).filter (fun n => (sector s n).state != 0) }

/-! ### Acceptance order within a bank (16 R606, R607) -/

/-- A code flash READ, PROGRAM or ERASE accepted: it waits while a bank of its range programs or erases, or behind a descriptor that
waits for that bank. -/
def acceptCode (s : State) (w : FWait) : State :=
  if (codeBanks w.d).any (fun b => bankStalls s b || s.code.waits.any (fun v => (codeBanks v.d).contains b)) then
    s.withCode (fun c => { c with waits := c.waits ++ [w] })
  else match w.d.op with
    | 0 => startRead s w
    | 1 => startProgram s w
    | _ => startErase s w

/-- The descriptors that wait for a bank looked at again, in the order of their acceptance. -/
def serveCode (s : State) : State := s.code.waits.foldl acceptCode (s.withCode (fun c => { c with waits := [] }))

/-- FLASH_READ: `retry` is the highest step used, none when every step failed (16 R612). Descriptors of undefined operations are
taken here too (log entry 48). -/
def execFlashRead (queue : QueueRef) (retry : Option Nat) (s : State) : Out :=
  onFlash s queue (fun op => op == 0 || decide (6 ≤ op)) (fun q d s =>
    match q with
    | .code k => if 7 < retry.getD 0 then none else some (acceptCode s { queue := k, epoch := accessEpoch s, d := d, retry := retry })
    | .vault k =>
      if 15 < retry.getD 0 then none
      else some (acceptVaultRead s { queue := k, epoch := accessEpoch s, d := d, retry := retry, data := (List.range d.len).map (fun i => vByte s (d.target + i)) }))

/-- FLASH_PROGRAM: a code flash program begins on its bank; a vault program is gathered (16 R606, R608, R609, R618). -/
def execFlashProgram (queue : QueueRef) (s : State) : Out :=
  onFlash s queue (· == 1) (fun q d s =>
    match q with
    | .vault k => some (vAppend s false (.desc k (accessEpoch s) d.tag) (Mem.read 0 s.mem d.buf d.len))
    | .code k => some (acceptCode s { queue := k, epoch := accessEpoch s, d := d }))

/-- FLASH_ERASE: sectors that are ERASED are left as they are; a vault range is discarded (16 R606, R610, R621). -/
def execFlashErase (queue : QueueRef) (s : State) : Out :=
  onFlash s queue (· == 2) (fun q d s =>
    match q with
    | .vault _ => some (flashDone (vDiscard s d.target d.len) q d 0 d.len)
    | .code k => some (acceptCode s { queue := k, epoch := accessEpoch s, d := d }))

/-- A sector's erase has ended. -/
def endSector (s : State) (n : Nat) (ok : Bool) : State :=
  let s1 : State := if ok then { s with codeFlash := s.codeFlash.clear (n * 4096) 4096 } else s
  withSector s1 n (fun u => { u with state := if ok then 0 else 4, count := u.count + 1, lastErase := some s.clock.st })

/-- What FLASH_PROGRAM_DONE does in the arrays: banks 0 to 3 are those of code flash, 4 + b is vault bank b. A vault page that fails, in its first
or its second copy, is written again in the block that replaces its own (16 R619, R624). -/
def programDone (bank : Nat) (ok : Bool) (s : State) : State :=
  if !s.hostSupply then s
  else if bank < 4 then
    match s.code.banks.find bank with
    | some o => if o.d.op = 1 then serveCode (endProgram s bank o ok) else s
    | none => s
  else
    let b := bank - 4
    match (s.vbank b).prog with
    | [] => s
    | page :: rest =>
      if 16 ≤ b ∨ (s.vbank b).erasing.isSome then s
      else if ok then
        serveVaultReads (page.foldl programmed (s.withVBank b (fun x => { x with prog := rest, idleAt := s.now })))
      else
        let e := s.vault.map.get (0, 0) ((page.map (fun p => p.addr / vBlock)).headD 0)
        let (f, s1) := s.drawNat
        let key := if f % 2 = 0 then e.1 else e.2
        spareBlock s1 (key / 2720) key 0

/-- A vault block's erase has ended (16 R624, R625). -/
def endBlock (s : State) (b key : Nat) (ok : Bool) : State :=
  let s1 := s.withVBank b (fun x => { x with erasing := none, erases := x.erases + 1, idleAt := s.now })
  let s2 := s1.withVault (fun v => { v with blocks := v.blocks.upd {} key (fun u =>
    { u with state := 0, count := u.count + 1, lastErase := some s.clock.st }) })
  if ok then s2 else spareBlock s2 b key 1

/-- FLASH_ERASE_DONE (16 R611, R615): one sector or block; a failing sector is TORN and ends its ERASE. -/
def execFlashEraseDone (bank : Nat) (ok : Bool) (s : State) : Out :=
  if !s.hostSupply then .next s
  else if bank < 4 then
    match s.code.banks.find bank with
    | none => .next s
    | some o =>
      match o.left with
      | [] => .next s
      | n :: l =>
        if o.suspAt.isSome then .next s
        else if ok then .next (serveCode (nextErase (endSector s n true) bank { o with left := l }))
        else .next (serveCode (flashDone ((endSector s n false).withCode (fun c => { c with banks := c.banks.erase bank })) (.code o.queue) o.d
          0x5018 (n * 4096 - o.d.target)))
  else
    match (s.vbank (bank - 4)).erasing with
    | none => .next s
    | some key => .next (serveVaultReads (endBlock s (bank - 4) key ok))

/-- ERASE_SUSPEND (16 R608). -/
def execEraseSuspend (queue : QueueRef) (s : State) : Out :=
  onFlash s queue (· == 3) (fun q d s =>
    match s.code.banks.find d.bank with
    | some o =>
      match o.left, o.suspAt with
      | n :: _, none =>
        let s1 := (withSector s n (fun u => { u with state := 3 })).withCode (fun c => { c with
          banks := c.banks.set d.bank { o with suspAt := some s.now } })
        some (serveCode (flashDone s1 q d 0 0))
      | _, _ => some (flashDone s q d 0x2016 0)
    | none => some (flashDone s q d 0x2016 0))

/-- A suspended erase goes on. -/
def resumeErase (s : State) (b : Nat) (o : BankOp) : State := nextErase s b { o with suspAt := none }

/-- ERASE_RESUME (16 R608). -/
def execEraseResume (queue : QueueRef) (s : State) : Out :=
  onFlash s queue (· == 4) (fun q d s =>
    match s.code.banks.find d.bank with
    | some o => if o.suspAt.isSome then some (flashDone (resumeErase s d.bank o) q d 0 0) else some (flashDone s q d 0x2016 0)
    | none => some (flashDone s q d 0x2016 0))

/-- SUSPEND_EXPIRY (16 R608): 100 ms after its suspension an erase resumes by itself. -/
def execSuspendExpiry (bank : Nat) (s : State) : Out :=
  match s.code.banks.find bank with
  | none => .next s
  | some o =>
    match o.suspAt with
    | none => .next s
    | some t => if t + msTicks 100 ≤ s.now then .next (resumeErase s bank o) else .next s

/-- READ_STATUS (16 Table 6): a code flash sector, or the physical block of a log address; where none is mapped the spec states no
result (log entry 50). -/
def execReadStatus (queue : QueueRef) (s : State) : Out :=
  onFlash s queue (· == 5) (fun q d s =>
    let word (busy : Bool) (bank : Nat) (u : FUnit) : Nat := u.state + 2 ^ 8 * (u.count % 2 ^ 24) + 2 ^ 32 * bank + 2 ^ 36 * b2n busy
    match q with
    | .code _ =>
      let b := codeBank d.target
      some (flashEntry s q 5 d.tag 0 0 0 (word (bankStalls s b) b (sector s (d.target / 4096))) 0)
    | .vault _ =>
      match s.vault.map.find (d.target % vHalf / vBlock) with
      | some (p, p2) =>
        let key := if d.target < vHalf then p else p2
        let b := key / 2720
        some (flashEntry s q 5 d.tag 0 0 0 (word (vBankBusy s b) b (s.vault.blocks.get {} key)) 0)
      | none =>
        let (n, s1) := s.drawNat
        some (flashEntry s1 q 5 d.tag 0 0 0 (n % 2 ^ 37) 0))

/-! ### Starts and aborts of a queue (10 R385, R386, 16 R601) -/

/-- ENABLE written: cleared, the queue accepts no more and is DISABLED once what it has accepted is complete (10 Table 2). -/
def enableQueue (s : State) (q : FlashQ) (on : Bool) : State :=
  let x := s.fqueue q
  if on then
    if x.state = 0 ∧ 1 ≤ x.entries ∧ x.entries ≤ 4096 then s.withFQueue q (fun x => { x with state := 1, tail := 0, headN := 0, cqN := 0 }) else s
  else if x.state = 1 then settleQueue (s.withFQueue q (fun x => { x with state := 2 })) q else s

/-- A tail written. -/
def tailQueue (s : State) (q : FlashQ) (v : Nat) : State :=
  let x := s.fqueue q
  if x.state = 1 ∧ tailOk x.entries x.headN v then s.withFQueue q (fun x => { x with tail := v }) else s

/-- Descriptors not accepted complete DESC_ABORTED. -/
def abortPending : Nat → State → FlashQ → State
  | 0, s, _ => s
  | n + 1, s, q =>
    if !(s.fqueue q).hasWork then s
    else
      let d := flashHead s q
      abortPending n (flashDone (s.withFQueue q (fun x => { x with headN := x.headN + 1 })) q d 0x6004 0) q

/-- A code flash operation of a queue stopped at its next boundary: a program after some of its granules, an erase after the
sector in hand (10 R386; log entry 51). -/
def stopBank (s : State) (b : Nat) (o : BankOp) : State :=
  match o.left with
  | n :: _ => flashDone ((endSector s n true).withCode (fun c => { c with banks := c.banks.erase b })) (.code o.queue) o.d 0x6004
      (n * 4096 + 4096 - o.d.target)
  | [] =>
    let (f, s0) := s.drawNat
    let n := f % (o.d.len / 32 + 1) * 32
    let s1 : State := { s0 with codeFlash := Mem.write 0xFF s0.codeFlash o.d.target (o.data.take n) }
    let s2 := (sectorsOf o.d.target n).foldl (fun s k => withSector s k (fun u => { u with state := 1 })) s1
    flashDone (s2.withCode (fun c => { c with banks := c.banks.erase b })) (.code o.queue) o.d 0x6004 n

/-- What a code flash queue has accepted is stopped; descriptors of other queues that waited for its banks go on. -/
def abortCode (s : State) (k : Nat) : State :=
  let s1 := (s.code.banks.filter (fun e => e.2.queue == k)).foldl (fun (s : State) e => stopBank s e.1 e.2) s
  let s2 := s1.withCode (fun c => { c with waits := c.waits.filter (fun w => w.queue != k) })
  serveCode ((s1.code.waits.filter (fun w => w.queue == k)).foldl (fun (s : State) w => flashDone s (.code k) w.d 0x6004 0) s2)

/-- What a vault queue has accepted is stopped: the data of its programs goes to nobody. -/
def abortVault (s : State) (k : Nat) : State :=
  let tag (p : VProg) : Option Nat := match p.src with | .desc q _ t => (if q = k then some t else none) | _ => none
  let cut (p : VProg) : VProg := if p.ofQueue k then { p with src := .aborted } else p
  let s1 := s.withVault (fun v => { v with
    gather := v.gather.map cut, banks := v.banks.mapVals (fun _ b => { b with prog := b.prog.map (List.map cut) })
    waits := v.waits.filter (fun w => w.queue != k) })
  let s2 := ((vPrograms s).filterMap tag).foldl (fun (s : State) t => flashEntry s (.vault k) 1 t 0x6004 0 0 0 0) s1
  (s.vault.waits.filter (fun w => w.queue == k)).foldl (fun (s : State) w => flashDone s (.vault k) w.d 0x6004 0) s2

/-- ABORT written: what the queue has in progress and all it holds completes DESC_ABORTED (10 R386). -/
def abortQueue (s : State) (q : FlashQ) : State :=
  if (s.fqueue q).state = 0 then s
  else
    let s1 := match q with | .code k => abortCode s k | .vault k => abortVault s k
    (abortPending (2 * (s1.fqueue q).entries) (s1.withFQueue q (fun x => { x with state := 1 })) q).withFQueue q (fun x => { x with state := 0 })

/-- Q_TAIL (10 R385, 16 R601). -/
def execQTail (queue : QueueRef) (value : Nat) (s : State) : Out :=
  match queue with
  | .dma c => if decide (c < 512) && s.mainUp then .next (tailChan s c (value % 8192)) else .next s
  | _ =>
    match flashQ queue with
    | some q => if s.hostSupply then .next (tailQueue s q (value % 8192)) else .next s
    | none => .next s

/-! ### Flush ticks and collection (16 R619, R622, R625; 18 R661; 21 R751) -/

/-- EVR's queued records handed to the vault, when none of its records are on their way; what would exceed its write ceiling of 2.00 MB in
a second is held (16 R627; log entry 161). -/
def handEvents (s : State) : State :=
  let isEv (p : VProg) : Bool := match p.src with | .events _ => true | _ => false
  if s.evr.queue.isEmpty || s.vault.gather.any isEv || s.vault.banks.any (fun e => e.2.prog.any (fun l => l.any isEv)) then s
  else
    let l := (s.evr.queue.take 128)
    let b := l.flatMap recBytes
    let s1 := countRate s 0
    if 2000000 < s1.vault.rateEvr + 2 * unitLen b.length then s
    else vAppend (s1.withVault (fun v => { v with rateEvr := v.rateEvr + 2 * unitLen b.length })) false (.events l.length) b

/-- A vault bank that is struck in DORMANT is hoisted for its page (18 R661). -/
def hoistBanks (s : State) : State :=
  (List.range 16).foldl (fun s b =>
    if !(s.vbank b).prog.isEmpty && s.isl (210 + b) == 2 then
      ((hoistIsl s [210 + b]).present (210 + b) (.mark 3 (210 + b))).withVBank b (fun x => { x with idleAt := s.now })
    else s) s

/-- FLUSH_TICK (16 R619): every 4 ms the page that holds data is programmed, padded. -/
def execFlushTick (s : State) : Out :=
  if !s.hostSupply || decide (s.now < s.vault.flushAt + msTicks 4) then .next s
  else
    let s1 := handEvents (s.withVault (fun v => { v with flushAt := s.now }))
    .next (hoistBanks (flushPage (flushPage s1 false) true))

/-- Log blocks that no physical block is mapped to, of both halves (16 R617). -/
def unmapped (s : State) : Nat := 32768 - 2 * s.vault.map.length

/-- Live bytes of a log block. -/
def blockLive (s : State) (n : Nat) : Nat :=
  (s.vault.runs.filter (fun r => r.addr / vBlock == n && r.moved.isNone)).foldl (fun a r => a + liveBytes r) 0

/-- Mapped log blocks that may be collected: not open, not collected yet. -/
def collectable (s : State) : List Nat :=
  (s.vault.map.map Prod.fst).filter (fun n => !(s.vault.victims.contains n) &&
    !((List.range 16).any (fun b => (s.vbank b).openLog == some n || (s.vbank b).openRel == some n)))

/-- Erase count of the physical blocks of a log block. -/
def pairCount (s : State) (n : Nat) : Nat :=
  let e := s.vault.map.get (0, 0) n
  (s.vault.blocks.get {} e.1).count + (s.vault.blocks.get {} e.2).count

/-- The victim: fewest live bytes, then lowest erase count (16 R622). -/
def pickVictim (s : State) : Option Nat :=
  (collectable s).foldl (fun acc n =>
    match acc with
    | none => some n
    | some m => if blockLive s n < blockLive s m ∨ (blockLive s n = blockLive s m ∧ pairCount s n < pairCount s m) then some n else acc) none

/-- COLLECTION (16 R622): begun below 1,024 unmapped log blocks, it goes on until 1,536 are unmapped. -/
def execCollection (s : State) : Out :=
  let u := unmapped s
  let on := decide (u < 1024) || (s.vault.collecting && decide (u < 1536))
  let s1 := s.withVault (fun v => { v with collecting := on })
  if !s.hostSupply || !on then .next s1
  else match pickVictim s1 with
    | none => .next s1
    | some n => .next (collect s1 n)

/-- Every live run of a victim has been relocated. -/
def victimReady (s : State) (n : Nat) : Bool :=
  (s.vault.runs.filter (fun r => r.addr / vBlock == n)).all (fun r => r.moved.isSome || liveBytes r == 0)

/-- VICTIM_ERASE (16 R622): the owners have consumed every notice of the victim, which no register shows (log entry 46); its log
block is unmapped and its physical blocks are erased. -/
def execVictimErase (s : State) : Out :=
  match s.vault.victims.find? (fun n => victimReady s n) with
  | none => .next s
  | some n =>
    let e := s.vault.map.get (0, 0) n
    let b1 := e.1 / 2720
    let b2 := e.2 / 2720
    if !s.hostSupply || (s.vbank b1).erasing.isSome || (s.vbank b2).erasing.isSome then .next s
    else
      let s1 := s.withVault (fun v => { v with
        victims := v.victims.filter (fun k => k != n), map := v.map.erase n,
        runs := v.runs.filter (fun r => r.addr / vBlock != n),
        blocks := (v.blocks.upd {} e.1 (fun u => { u with state := 2 })).upd {} e.2 (fun u => { u with state := 2 }) })
      .next ((s1.withVBank b1 (fun x => { x with erasing := some e.1 })).withVBank b2 (fun x => { x with erasing := some e.2 }))

/-- WEAR_COLLECTION (16 R625). -/
def execWearCollection (bank : Nat) (s : State) : Out :=
  if 16 ≤ bank ∨ (s.vbank bank).erases < 1000 ∨ !s.hostSupply then .next s
  else
    let s1 := s.withVBank bank (fun x => { x with erases := x.erases - 1000 })
    let l := (collectable s1).filter (fun n => (s1.vault.map.get (0, 0) n).1 / 2720 == bank || (s1.vault.map.get (0, 0) n).2 / 2720 == bank)
    let cnt (n : Nat) : Nat :=
      let e := s1.vault.map.get (0, 0) n
      (s1.vault.blocks.get {} (if e.1 / 2720 = bank then e.1 else e.2)).count
    match l.foldl (fun acc n => match acc with | none => some n | some m => if cnt n < cnt m then some n else acc) none with
    | none => .next s1
    | some n => .next (collect s1 n)

/-- VAULT_BANK_IDLE (18 R661): in DORMANT a vault bank is struck again after 10 ms idle. -/
def execVaultBankIdle (bank : Nat) (s : State) : Out :=
  let x := s.vbank bank
  if s.modeNum = 1 ∧ bank < 16 ∧ s.isl (210 + bank) = 0 ∧ x.prog.isEmpty ∧ x.erasing.isNone ∧ x.idleAt + msTicks 10 ≤ s.now then
    .next ((strikeIsl s [210 + bank]).present (210 + bank) (.mark 4 (210 + bank)))
  else .next s

end Sys2Proof.Machine
end

