-- ==== Sys2Proof/Machine/RegSpace.lean ====
section
/-! DEFINITION. Register space of the two dies as words of 32 bits: what a read shows and what a write does (00 R10; 10 Table 2;
12 Table 6; 16 R601; 17 Table 2; 18 R663). A guard space's offset names a register: guard 2 the compute die, guard 3 from
0x8000000 the control die. -/

namespace Sys2Proof.Machine

open Sys2Proof

/-- First offset of the control die's register space in guard 3 (15 Table 1). -/
def ctlBase : Nat := 0x8000000

/-- The low or the high word of a 64-bit register. -/
def halfOf (v w : Nat) : Nat := if w % 8 = 0 then v % 2 ^ 32 else v / 2 ^ 32

/-- A 64-bit register with one of its words written. -/
def withHalf (v w x : Nat) : Nat := if w % 8 = 0 then v / 2 ^ 32 * 2 ^ 32 + x else v % 2 ^ 32 + x * 2 ^ 32

/-! ### What a read shows -/

/-- Word `w` of a descriptor queue's block (10 Table 2). -/
def queueWord (qBase cqBase entries evt tail headN cqN state owner w : Nat) : Nat :=
  if w < 0x08 then halfOf qBase w
  else if w < 0x10 then halfOf cqBase w
  else if w = 0x10 then entries
  else if w = 0x18 ∨ w = 0x1C then halfOf evt w
  else if w = 0x20 then tail
  else if w = 0x28 then qIdx headN entries * 2 ^ 16 + state
  else if w = 0x2C then qIdx cqN entries
  else if w = 0x30 then b2n (state == 1)
  else if w = 0x38 then owner
  else 0

/-- RNG_STATUS or RNG_JSTATUS (12 Table 7). -/
def rngStatus (s : State) (p : Nat) : Nat :=
  s.gv (pathState p) * 2 ^ 16 + (healthyChans s p).foldl (fun a c => a + 2 ^ (if p = 0 then c else c - 6)) 0

/-- The flash queue whose register block holds an offset of the control die's register space (16 R601). -/
def flashBlock (x : Nat) : Option FlashQ :=
  if 0x40000 ≤ x ∧ x < 0x40000 + 4 * 0x40 then some (.code ((x - 0x40000) / 0x40))
  else if 0x41000 ≤ x ∧ x < 0x41000 + 16 * 0x40 then some (.vault ((x - 0x41000) / 0x40))
  else none

/-- The unit whose core control block holds its PTAG at an offset (15 R575). The spec gives the field no address: the address is
free (log entry 9). -/
def tagUnit (g off : Nat) : Option Nat :=
  (if g = 2 then [4, 5, 6, 7, 8, 9, 10, 11] else [0, 2]).find? (fun u => Config.ptagReg u == off)

/-- An offset of compute register space lies in the gate block of a Compact Verb core (14 R555). -/
def inGateBlock (off : Nat) : Bool :=
  (List.range 44).any (fun n => decide (4 ≤ n ∧ Config.gateBlock n ≤ off ∧ off < Config.gateBlock n + 4096))

/-- A word of a guard's space of registers as a plain read shows it. RNG_DATA and RNG_JDATA show a word that nothing fixes here: their
reads by a core are commands of their own (log entry 40). Gate blocks are stored bytes, a PTAG register shows its 11 bits; reserved offsets
and bits read as zero (00 R10; log entry 9). -/
def regWord (s : State) (g off : Nat) : Nat :=
  let stored := match tagUnit g off with
    | some u => (s.unit u).tag % 2 ^ 11
    | none => if g = 2 ∧ inGateBlock off then leNat (Mem.read 0 s.mem (moduleAddr g off) 4) else 0
  if g = 2 then
    if 0x200000 ≤ off ∧ off < 0x208000 then
      let c := (off - 0x200000) / 0x40
      let x := s.chan c
      queueWord x.qBase x.cqBase x.entries x.evtMask x.tail x.headN x.cqN x.state (chanId s c) (off % 0x40)
    else if 0x210000 ≤ off ∧ off < 0x210010 then
      if off = 0x210008 then rngStatus s 0 else if off = 0x21000C then 0 else Config.freeNat s.free % 2 ^ 32
    else if 0x220000 ≤ off ∧ off < 0x220040 then
      (readTb s.clock (off % 0x40)).toNat
    else stored
  else if off < ctlBase then stored
  else
    let x := off - ctlBase
    if 0x30000 ≤ x ∧ x < 0x30010 then
      if x = 0x30008 then rngStatus s 1 else if x = 0x3000C then 0 else Config.freeNat s.free % 2 ^ 32
    else match flashBlock x with
      | some q =>
        let y := s.fqueue q
        queueWord y.qBase y.cqBase y.entries y.evtMask y.tail y.headN y.cqN y.state y.owner (x % 0x40)
      | none => stored

/-- The island of a register is struck (18 R663). -/
def regStruck (s : State) (g off : Nat) : Bool :=
  if g = 2 then
    !s.mainUp || s.isl (if off < 0x200000 then 161 else if off < 0x208000 then 148 else if off < 0x220000 then 188 else 194) == 2
  else
    !s.hostSupply || (decide (ctlBase ≤ off) && (match flashBlock (off - ctlBase) with
      | some (.code _) => s.isl 208 == 2
      | some (.vault _) => s.isl 209 == 2
      | none => false))

/-! ### What a write does -/

/-- A word written to a channel's block; CH_OWNER and Q_STATUS are read only (10 Table 2). -/
def chanStore (s : State) (c w v : Nat) : State :=
  if w < 0x08 then s.withChan c (fun x => { x with qBase := withHalf x.qBase w v / 64 * 64 })
  else if w < 0x10 then s.withChan c (fun x => { x with cqBase := withHalf x.cqBase w v / 32 * 32 })
  else if w = 0x10 then s.withChan c (fun x => { x with entries := v % 2 ^ 13 })
  else if w = 0x18 ∨ w = 0x1C then s.withChan c (fun x => { x with evtMask := withHalf x.evtMask w v })
  else if w = 0x20 then tailChan s c (v % 2 ^ 13)
  else if w = 0x30 then
    let s1 := if bit v 1 then abortChan s c else s
    if bit v 1 then s1 else enableChan s1 c (bit v 0)
  else s

/-- A master identity of the duty Deep Verb pair, at any level (15 Table 4). -/
def ofDuty (s : State) (i : Nat) : Bool := decide (0x800 + 4 * s.verb.duty ≤ i ∧ i < 0x804 + 4 * s.verb.duty)

/-- A word written to a flash queue's block by identity `i`; CH_OWNER is written by the duty pair at ASSAY alone (16 R601). -/
def queueStore (s : State) (i : Nat) (q : FlashQ) (w v : Nat) : State :=
  if w < 0x08 then s.withFQueue q (fun x => { x with qBase := withHalf x.qBase w v / 64 * 64 })
  else if w < 0x10 then s.withFQueue q (fun x => { x with cqBase := withHalf x.cqBase w v / 32 * 32 })
  else if w = 0x10 then s.withFQueue q (fun x => { x with entries := v % 2 ^ 13 })
  else if w = 0x18 ∨ w = 0x1C then s.withFQueue q (fun x => { x with evtMask := withHalf x.evtMask w v })
  else if w = 0x20 then tailQueue s q (v % 2 ^ 13)
  else if w = 0x30 then
    if bit v 1 then abortQueue s q else enableQueue s q (bit v 0)
  else if w = 0x38 ∧ s.modeNum = 2 ∧ ofDuty s i then s.withFQueue q (fun x => { x with owner := v % 2 ^ 12 })
  else s

/-- A word written to a register: stored, dropped, or with the effect its field map states. Read-only blocks and reserved offsets drop
it; of a PTAG register only its 11 bits are kept, and only the duty Deep Verb pair writes it (00 R10, 15 R575). -/
def regStore (s : State) (i g off v : Nat) : State :=
  if regStruck s g off then s
  else if g = 2 ∧ 0x200000 ≤ off ∧ off < 0x208000 then chanStore s ((off - 0x200000) / 0x40) (off % 0x40) v
  else if g = 2 ∧ ((0x210000 ≤ off ∧ off < 0x210010) ∨ (0x220000 ≤ off ∧ off < 0x220040)) then s
  else if g = 3 ∧ ctlBase + 0x30000 ≤ off ∧ off < ctlBase + 0x30010 then s
  else match (if g = 3 ∧ ctlBase ≤ off then flashBlock (off - ctlBase) else none) with
    | some q => queueStore s i q (off % 0x40) v
    | none =>
      match tagUnit g off with
      | some u => if ofDuty s i then s.withUnit u (fun x => { x with tag := v % 2 ^ 11 }) else s
      | none => if g = 2 ∧ inGateBlock off then { s with mem := Mem.write 0 s.mem (moduleAddr g off) (toLE 4 v) } else s

/-- Bytes stored within registers under identity `i`: each word that they touch is written with its other bytes as they read (log entry 52). -/
def regBytes : Nat → State → Nat → Nat → Nat → Bytes → State
  | 0, s, _, _, _, _ => s
  | _ + 1, s, _, _, _, [] => s
  | n + 1, s, i, g, off, b :: bs =>
    let k := min (4 - off % 4) (b :: bs).length
    let old := toLE 4 (regWord s g (off / 4 * 4))
    let new := old.take (off % 4) ++ (b :: bs).take k ++ old.drop (off % 4 + k)
    regBytes n (regStore s i g (off / 4 * 4) (leNat new)) i g (off + k) ((b :: bs).drop k)

/-- Bytes read from registers. -/
def regRead (s : State) (g off n : Nat) : Bytes :=
  (List.range n).map (fun i => BitVec.ofNat 8 ((if regStruck s g ((off + i) / 4 * 4) then 0 else regWord s g ((off + i) / 4 * 4)) / 256 ^ ((off + i) % 4)))

/-! ### Module memory by space (15 Table 2) -/

/-- Bytes that a DMA access reads from an offset of a guard's space; flash shows its content (log entry 53). -/
def spaceRead (s : State) (g off n : Nat) : Bytes :=
  if g ≤ 1 then Mem.read 0 s.mem (moduleAddr g off) n
  else if g = 2 then regRead s g off n
  else if g = 4 then (List.range n).map (fun i => vByte s (off + i))
  else if off < 0x4000000 then Mem.read 0xFF s.codeFlash off n
  else if off < ctlBase then Mem.read 0 s.mem (moduleAddr g off) n
  else regRead s g off n

/-- Bytes that an access of identity `i` writes; flash is written through its queues alone (15 Table 2, log entry 53). -/
def spaceWrite (s : State) (i g off : Nat) (bs : Bytes) : State :=
  if g ≤ 1 then { s with mem := Mem.write 0 s.mem (moduleAddr g off) bs }
  else if g = 2 then regBytes bs.length s i g off bs
  else if g = 4 ∨ off < 0x4000000 then s
  else if off < ctlBase then { s with mem := Mem.write 0 s.mem (moduleAddr g off) bs }
  else regBytes bs.length s i g off bs

end Sys2Proof.Machine
end

