-- ==== Sys2Proof/Machine/DmaOps.lean ====
section
/-! DEFINITION. The operations of the DMA channels, the read-back of what a transfer has written, and failed reads (03 R131,
R132; 10 R387 to R403). -/

namespace Sys2Proof.Machine

open Sys2Proof

/-! ### Checks (10 Table 4) -/

/-- Bytes in a transform unit (10 Table 3). -/
def xformUnit (x : Nat) : Nat := match x with | 1 => 2 | 2 => 4 | 3 => 8 | 4 => 4 | _ => 1

/-- The sides in use (10 R388). -/
def usesSrc (d : DDesc) : Bool := d.op != 1
def usesDst (d : DDesc) : Bool := d.op != 2

/-- Last address of a side's extent. -/
def Side.last (x : Side) : Nat := x.addr + (x.lines - 1) * x.stride + (x.len - 1)

/-- A side's lines lie apart where it is written (10 Table 4 check 6). -/
def linesApart (x : Side) : Bool := decide (x.lines ≤ 1) || decide (x.len ≤ x.stride)

/-- Two extents overlap. -/
def extentsMeet (a b : Side) : Bool := a.total != 0 && b.total != 0 && decide (a.addr ≤ b.last ∧ b.addr ≤ a.last)

/-- The status of Table 4; 0 when the descriptor passes. -/
def dmaCheck (data : Bool) (d : DDesc) : Nat :=
  firstFail [
    (decide (d.op ≤ 3 ∧ d.xform ≤ 4), 0x1031),
    ((d.op == 0 || !data) && (d.xform == 0 || data), 0x1031),
    ((!data || d.src.inModule != d.dst.inModule) && !((d.op == 0 || d.op == 3) && !d.src.inModule && !d.dst.inModule), 0x1031),
    (!d.rsvd, 0x1003),
    (d.op == 1 || d.op == 2 || d.src.total == d.dst.total, 0x1002),
    ((d.op != 0 && d.op != 1) || linesApart d.dst, 0x1002),
    (!(usesSrc d && d.src.total != 0 && decide (2 ^ 64 ≤ d.src.last)) && !(usesDst d && d.dst.total != 0 && decide (2 ^ 64 ≤ d.dst.last)), 0x1002),
    ((if usesSrc d then d.src.total else d.dst.total) % xformUnit d.xform == 0, 0x1002),
    (!(d.op == 0 && d.src.inModule && d.dst.inModule && extentsMeet d.src d.dst), 0x1030),
    ((!usesSrc d || d.src.total != 0) && (!usesDst d || d.dst.total != 0), 1)]

/-! ### Accesses (10 R392) -/

/-- The accesses of a side in module memory from a stream offset: offset, address and length of each, at most 256 bytes, within one
line and one 256-byte block. -/
def accesses : Nat → Side → Nat → List (Nat × Nat × Nat)
  | 0, _, _ => []
  | n + 1, x, o =>
    if x.total ≤ o then []
    else
      let a := x.addr + o / x.len * x.stride + o % x.len
      let k := max 1 (min (x.len - o % x.len) (256 - a % 256))
      (o, a, k) :: accesses n x (o + k)

/-- An access that its guard refuses, or that reaches no guarded space. -/
def refuses (s : State) (i a n : Nat) (k : Access) : Bool :=
  match spaceOf a with
  | none => true
  | some (g, off) => guardCheck s g i off (off + n - 1) k != 0

/-- The first access of a side that is refused to an identity. -/
def firstRefused (s : State) (i : Nat) (x : Side) (k : Access) : Option (Nat × Nat × Nat) :=
  if x.inModule then (accesses x.total x 0).find? (fun e => refuses s i e.2.1 e.2.2 k) else none

/-- A refusal counted and reported by the guard that made it. -/
def countRefused (s : State) (i a : Nat) : State :=
  match spaceOf a with
  | none => s
  | some (g, off) => guardRefused s g i off

/-- The stream of a side in module memory, access by access. -/
def sideRead (s : State) (x : Side) (n : Nat) : Bytes :=
  ((accesses x.total x 0).filter (fun e => decide (e.1 < n))).flatMap (fun e => match spaceOf e.2.1 with
    | none => []
    | some (g, off) => spaceRead s g off (min e.2.2 (n - e.1)))

/-- Pieces of a side with their stream offsets: lines in host memory, accesses in module memory. -/
def pieces (x : Side) : List (Nat × Nat × Nat) :=
  if x.inModule then accesses x.total x 0
  else (List.range x.lines).map (fun k => (k * x.len, x.addr + k * x.stride, x.len))

/-- The function under whose routing ID a channel's host requests leave: the partition it is lent to, or PF0 (10 R381, R383). -/
def chanFn (s : State) (c : Nat) : Nat := if c < 384 then chanId s c else 0

/-- A stream of channel `c` written to a side in rising offset, to host memory under its function's routing ID (10 R381, R383). -/
def sideWrite (s : State) (c : Nat) (x : Side) (bs : Bytes) : State :=
  (pieces x).foldl (fun s e =>
    let b := (bs.drop e.1).take e.2.2
    if b.isEmpty then s
    else if !x.inModule then s.hostWrite (chanFn s c) e.2.1 b
    else match spaceOf e.2.1 with
      | none => s
      | some (g, off) => spaceWrite s (chanId s c) g off b) s

/-! ### Transforms (10 R391) -/

/-- Each unit of a stream transformed. -/
def xformBytes (x : Nat) : Nat → Bytes → Bytes
  | 0, _ => []
  | n + 1, bs =>
    if bs.isEmpty then []
    else
      let u := bs.take (xformUnit x)
      (if x = 4 then u.drop 2 ++ u.take 2 else u.reverse) ++ xformBytes x n (bs.drop (xformUnit x))

def applyXform (x : Nat) (bs : Bytes) : Bytes := if xformUnit x = 1 then bs else xformBytes x bs.length bs

/-- `n` bytes of a pattern repeated (10 R388). -/
def patternBytes (p n : Nat) : Bytes := (List.range n).map (fun i => BitVec.ofNat 8 (p / 256 ^ (i % 8)))

/-- The first offset at which two streams differ. -/
def firstDiff : Nat → Bytes → Bytes → Option Nat
  | o, a :: l, b :: m => if a = b then firstDiff (o + 1) l m else some o
  | _, _, _ => none

/-! ### The run of one descriptor -/

/-- The lower of two failures; the source's on a tie. -/
def lowerFail (a b : Option (Nat × Nat)) : Option (Nat × Nat) :=
  match a, b with
  | none, x => x
  | x, none => x
  | some x, some y => if y.1 < x.1 then some y else some x

/-- Offset and status of the first access that fails: a refusal, or a host read that brings no data. -/
def firstFault (s : State) (i : Nat) (d : DDesc) (hostFail : Option Nat) : Option (Nat × Nat) :=
  let src := if usesSrc d then (firstRefused s i d.src .read).map (fun e => (e.1, 0x3001)) else none
  let dst := if usesDst d then (firstRefused s i d.dst (if d.op = 3 then .read else .write)).map (fun e => (e.1, 0x3001)) else none
  lowerFail (lowerFail src dst) (hostFail.map (fun o => (o, 0x3003)))

/-- The refused access at an offset is counted. -/
def noteRefusal (s : State) (i : Nat) (d : DDesc) (o : Nat) : State :=
  match (if usesSrc d then firstRefused s i d.src .read else none), (if usesDst d then firstRefused s i d.dst (if d.op = 3 then .read else .write) else none) with
  | some e, some f => countRefused s i (if f.1 < e.1 then f.2.1 else e.2.1)
  | some e, none => if e.1 = o then countRefused s i e.2.1 else s
  | none, some f => if f.1 = o then countRefused s i f.2.1 else s
  | none, none => s

/-- The stream of a side, host data given. -/
def sideData (s : State) (x : Side) (host : Bytes) (n : Nat) : Bytes := if x.inModule then sideRead s x n else fit n host

/-- The data of a transfer staged in the channel's transit units: its own 4 KiB and what it draws from the shared pool, so that they hold
the last bytes of the stream (10 R378, R379). -/
def stageData (s : State) (c : Nat) (bs : Bytes) : State :=
  (drawUnits s c bs.length (if c < 384 then some (chanId s c) else none)).withChan c (fun x => { x with
    data := bs.drop (bs.length - 4096 * (x.shared + 1)) })

/-- A descriptor that passes Table 4 makes its accesses (10 R388, R393, R400): COPY and FILL write the bytes below the first failing
access, a compare reads up to the first difference. -/
def runDesc (s : State) (c : Nat) (d : DDesc) (host : Bytes) (hostFail : Option Nat) : State :=
  let i := chanId s c
  let t := if usesSrc d then d.src.total else d.dst.total
  let fault := firstFault s i d hostFail
  let n := (fault.map Prod.fst).getD t
  let stop (s : State) (done : Nat) (mism : Option Nat) : State :=
    match mism with
    | some m => endDesc s c d 0 m m true
    | none => match fault with
      | none => endDesc s c d 0 0 done false
      | some (o, st) => endDesc (if st = 0x3001 then noteRefusal s i d o else s) c d st o done false
  match d.op with
  | 0 =>
    let u := xformUnit d.xform
    let raw := sideData s d.src host n
    let (pad, s1) := if n % u = 0 then (([] : Bytes), s) else s.drawBytes u
    stop (sideWrite (stageData s1 c raw) c d.dst ((applyXform d.xform (raw ++ pad)).take n)) n none
  | 1 => stop (sideWrite s c d.dst (patternBytes d.pattern n)) n none
  | 2 => stop s n (firstDiff 0 (sideData s d.src host n) (patternBytes d.pattern n))
  | _ => stop s n (firstDiff 0 (sideData s d.src host n) (sideData s d.dst host n))

/-- The descriptor at the head of a channel, when it is one of the command's: skipped, refused by Table 4, or run (10 R385, R389,
R397). -/
def onDma (s : State) (c : Nat) (ops : Nat → Bool) (host : Bytes) : State :=
  let x := s.chan c
  let d := headDesc s c
  if decide (512 ≤ c) || !s.mainUp || !chanWork x || x.cur.isSome || !ops d.op then s
  else if x.skip then completeDesc s c d 0x6003 0 0 false false
  else
    let st := dmaCheck (decide (c < 384)) d
    if st ≠ 0 then completeDesc s c d st 0 0 false false
    else runDesc s c d host none

/-- COPY; descriptors of undefined operations are taken here too (10 Table 4 check 1, log entry 48). -/
def execCopy (ch : Nat) (hostData : Bytes) (s : State) : Out := .next (onDma s ch (fun op => op == 0 || decide (4 ≤ op)) hostData)

/-- FILL. -/
def execFill (ch : Nat) (s : State) : Out := .next (onDma s ch (· == 1) [])

/-- COMPARE_CONST. -/
def execCompareConst (ch : Nat) (hostData : Bytes) (s : State) : Out := .next (onDma s ch (· == 2) hostData)

/-- COMPARE_BUF. -/
def execCompareBuf (ch : Nat) (hostData : Bytes) (s : State) : Out := .next (onDma s ch (· == 3) hostData)

/-! ### Read-backs (10 R395, R398; 01 R38) -/

/-- A job whose result, or whose zero fill, has been written to host memory. -/
def wroteHost (j : Job) : Bool := !j.out.isEmpty || ((largeOpen j.d || j.d.opcode == 0x0701) && j.status != 0 && j.strm.done != 0)

/-- A finished job's result written through the channel lent to it, under its partition's routing ID, and read back: then its completion is
due and the channel returns; a failed read-back ends the job DMA_BUS_ERROR, with no output (10 R401, R402). -/
def jobReadBack (s : State) (id : Nat) (ok : Bool) : State :=
  let j := s.job id
  if (s.jobs.find id).isNone || j.phase != .finished || s.link.heldPosts.contains id then s
  else if !wroteHost j then complete s id
  else if s.link.state ≠ .l0 ∨ (!j.out.isEmpty ∧ j.chan.isNone) then s
  else
    let s1 := returnChannel (if j.out.isEmpty then s else s.hostWrite j.part j.d.resAddr j.out) id
    if ok then complete s1 id
    else complete ((s1.bump gDmaReadbackFail).withJob id (fun j => { j with status := 0x3003, out := [], timeClass := 6 })) id

/-- A channel's read-back: its record follows; a failed one names the offset past the last byte written. -/
def chanReadBack (s : State) (c : Nat) (ok : Bool) : State :=
  match (s.chan c).cur with
  | none => s
  | some k =>
    if ok then completeDesc s c k.desc k.status k.offset k.done false false
    else completeDesc (s.bump gDmaReadbackFail) c k.desc 0x3003 k.done k.done true false

/-- READ_BACK_DONE. -/
def execReadBackDone (who : XferRef) (ok : Bool) (s : State) : Out :=
  if !s.mainUp then .next s
  else match who with
    | .job id => .next (jobReadBack s id ok)
    | .channel c => .next (chanReadBack s c ok)

/-! ### Failed and abandoned reads (03 R131, R132; 10 R393) -/

/-- A host read that a reference names fails: a job ends DMA_BUS_ERROR; a channel's descriptor goes BAD at the end of the data that
came before. -/
def failRead (s : State) (who : ReadRef) : State :=
  match who with
  | .job id => if (s.jobs.find id).isNone then s else failJobRead s id
  | .channel c data =>
    match readHead s c with
    | none => s
    | some d =>
      let hostSide := (usesSrc d && !d.src.inModule) || (d.op == 3 && !d.dst.inModule)
      if decide (512 ≤ c) || !s.mainUp || !hostSide || dmaCheck (decide (c < 384)) d != 0 || decide (d.src.total ≤ data.length) then s
      else runDesc s c d data (some data.length)

/-- HOST_READ_ERROR (03 R131). -/
def execHostReadError (who : ReadRef) (s : State) : Out := .next (failRead s who)

/-- COMPLETION_TIMEOUT (03 R131). -/
def execCompletionTimeout (who : ReadRef) (s : State) : Out :=
  if !s.link.ctoDisable && readDue s who (ctoTicks s.link.ctoValue) then .next (failRead s who) else .next s

/-- READ_ABANDONED (03 R132): 1 s after its issue. -/
def execReadAbandoned (who : ReadRef) (s : State) : Out :=
  if s.link.ctoDisable && readDue s who (secTicks 1) then .next (failRead s who) else .next s

end Sys2Proof.Machine
end

