-- ==== Sys2Proof/Machine/Flags.lean ====
section
/-! DEFINITION. Flag computations of Verb-14 (13, "DATA and IMMEDIATE classes", R514, Table 12). -/

namespace Sys2Proof.Machine

open Sys2Proof

/-- Bits of ST (13 Table 5). -/
def stZ (st : BitVec 32) : Bool := st.getLsbD 0
def stN (st : BitVec 32) : Bool := st.getLsbD 1
def stC (st : BitVec 32) : Bool := st.getLsbD 2
def stV (st : BitVec 32) : Bool := st.getLsbD 3
def stQG (st : BitVec 32) : Bool := st.getLsbD 4
def stLvl (st : BitVec 32) : Nat := st.toNat / 512 % 4
def stEM (st : BitVec 32) : Bool := st.getLsbD 11

/-- Bit `i` of a word set or cleared. -/
def putBit (st : BitVec 32) (i : Nat) (b : Bool) : BitVec 32 :=
  if b then st ||| (1#32 <<< i) else st &&& ~~~(1#32 <<< i)

/-- Level and EM written, all else kept. -/
def withLvl (st : BitVec 32) (l : Nat) (em : Bool) : BitVec 32 :=
  putBit (putBit (putBit st 9 (l % 2 == 1)) 10 (l / 2 % 2 == 1)) 11 em

/-- New values of Z, N, C and V; none leaves the flag as it is. -/
structure Fl where
  z : Option Bool := none
  n : Option Bool := none
  c : Option Bool := none
  v : Option Bool := none
  deriving DecidableEq, Repr

/-- A flag written when it has a new value. -/
def putOpt (st : BitVec 32) (i : Nat) : Option Bool → BitVec 32
  | none => st
  | some b => putBit st i b

/-- ST with its flags written. -/
def Fl.apply (f : Fl) (st : BitVec 32) : BitVec 32 := putOpt (putOpt (putOpt (putOpt st 0 f.z) 1 f.n) 2 f.c) 3 f.v

/-- Sum with a carry, and its flags. -/
def addF (a b : BitVec 32) (cin : Bool) : BitVec 32 × Fl :=
  let r := a.toNat + b.toNat + b2n cin
  let res := BitVec.ofNat 32 r
  (res, { z := some (res == 0), n := some res.msb, c := some (decide (2 ^ 32 ≤ r)), v := some (a.msb == b.msb && res.msb != a.msb) })

/-- Difference with a borrow, and its flags. -/
def subF (a b : BitVec 32) (bin : Bool) : BitVec 32 × Fl :=
  let r : Int := (a.toNat : Int) - b.toNat - b2n bin
  let res := BitVec.ofInt 32 r
  (res, { z := some (res == 0), n := some res.msb, c := some (decide (r < 0)), v := some (a.msb != b.msb && res.msb != a.msb) })

/-- Z and N of a result. -/
def znF (r : BitVec 32) : Fl := { z := some (r == 0), n := some r.msb }

/-- Z and N of a result; V is cleared. -/
def logicF (r : BitVec 32) : Fl := { z := some (r == 0), n := some r.msb, v := some false }

/-- A shift's flags: C is the last bit shifted out, kept when the count is zero (13 R514). -/
def shiftF (r : BitVec 32) (count : Nat) (last : Bool) : Fl :=
  { z := some (r == 0), n := some r.msb, c := if count = 0 then none else some last, v := some false }

def shlF (a : BitVec 32) (k : Nat) : BitVec 32 × Fl := let r := a <<< k; (r, shiftF r k (a.getLsbD (32 - k)))
def shrF (a : BitVec 32) (k : Nat) : BitVec 32 × Fl := let r := a >>> k; (r, shiftF r k (a.getLsbD (k - 1)))
def sarF (a : BitVec 32) (k : Nat) : BitVec 32 × Fl := let r := a.sshiftRight k; (r, shiftF r k (a.getLsbD (k - 1)))
def rorF (a : BitVec 32) (k : Nat) : BitVec 32 × Fl := let r := a.rotateRight k; (r, shiftF r k r.msb)

/-- Flags of the 24-bit subtraction of CMPA (13 Table 9). -/
def cmpaF (a b : BitVec 24) : Fl :=
  { z := some (a == b), n := some (a - b).msb, c := some (decide (a.toNat < b.toNat)), v := some false }

/-- Leading zeros of a word; 32 when it is zero. -/
def clz32 (a : BitVec 32) : BitVec 32 := BitVec.ofNat 32 (32 - bitLen 32 a.toNat)

/-- A word with its four bytes in reverse order. -/
def bswap32 (a : BitVec 32) : BitVec 32 := BitVec.ofNat 32 (beNat (toLE 4 a.toNat))

/-- A branch condition of FLOW (13 R520). -/
def condHolds (c : Nat) (st : BitVec 32) : Bool :=
  let z := stZ st; let n := stN st; let cc := stC st; let v := stV st
  match c with
  | 0 => true | 1 => z | 2 => !z | 3 => cc | 4 => !cc | 5 => n | 6 => !n | 7 => v | 8 => !v
  | 9 => !cc && !z | 10 => cc || z | 11 => n == v | 12 => n != v | 13 => !z && n == v | _ => z || n != v

end Sys2Proof.Machine
end

