-- ==== Sys2Proof/Machine/Operands.lean ====
section
/-! DEFINITION. Operand forms of Verb-14: immediates with their prefixes, addressing modes and words (13 R510 to R513, R516,
Tables 7 to 13). -/

namespace Sys2Proof.Machine

open Sys2Proof

/-- An immediate assembled from prefixes and a field of `w` bits, on `t` bits (13 R511). -/
def assemble (pre : List (BitVec 12)) (w field : Nat) (signed : Bool) (t : Nat) : Nat :=
  let v := pre.foldl (fun v e => v * 4096 + e.toNat) 0 * 2 ^ w + field
  let n := 12 * pre.length + w
  let x : Int := if signed ∧ 0 < n ∧ 2 ^ (n - 1) ≤ v then (v : Int) - 2 ^ n else v
  toTwos t x

/-- A signed immediate for a data register. -/
def immS (pre : List (BitVec 12)) (imm : BitVec 5) : BitVec 32 := BitVec.ofNat 32 (assemble pre 5 imm.toNat true 32)

/-- An unsigned immediate for a data register. -/
def immU (pre : List (BitVec 12)) (imm : BitVec 5) : BitVec 32 := BitVec.ofNat 32 (assemble pre 5 imm.toNat false 32)

/-- A FLOW displacement. -/
def immFlow (pre : List (BitVec 12)) (disp : BitVec 7) : BitVec 20 := BitVec.ofNat 20 (assemble pre 7 disp.toNat true 20)

/-- A MEMORY displacement. -/
def immMem (pre : List (BitVec 12)) : BitVec 24 := BitVec.ofNat 24 (assemble pre 0 0 true 24)

/-- Address of a MEMORY access, and the new value of Aa where the mode updates it (13 R516). -/
def memAddr (aa : BitVec 24) (mode : BitVec 2) (pre : List (BitVec 12)) (size : Nat) : BitVec 24 × Option (BitVec 24) :=
  let k := BitVec.ofNat 24 size
  if mode = 0 then (aa, none)
  else if mode = 1 then (aa, some (aa + k))
  else if mode = 2 then (aa - k, some (aa - k))
  else (aa + immMem pre, none)

/-! ### Words (13 Tables 7 to 13) -/

def wordSys (group low : Nat) : Nat := group * 256 + low
def wordImm (op dd imm : Nat) : Nat := 2 * 2048 + op * 256 + dd * 32 + imm
def wordMem (op r aa mode : Nat) : Nat := 3 * 2048 + op * 256 + r * 32 + aa * 4 + mode
def wordFlow (cond disp : Nat) : Nat := 4 * 2048 + cond * 128 + disp
def wordLane (lop a b : Nat) : Nat := 5 * 2048 + 1024 + lop * 64 + a * 8 + b
def wordExt (e : BitVec 12) : Nat := 0x3000 + e.toNat

/-- A word stands among the reserved patterns of Table 7; LANE words are defined on squad sequencers alone (13 R498, R508, R510,
R516, R526). -/
def wordReserved (squad : Bool) (w : Nat) : Bool :=
  let lo := w % 256
  match w / 2048 with
  | 0 =>
    match w / 256 % 8 with
    | 0 => decide (8 ≤ lo)
    | 2 => !(decide (lo < 16) || decide (64 ≤ lo ∧ lo < 72))
    | 3 => decide (23 < lo / 8)
    | 4 => decide (23 < lo / 8) || [1, 2, 3, 4, 5, 6, 7, 8, 18, 19].contains (lo / 8)
    | 5 => decide (208 ≤ lo)
    | 6 => decide (192 ≤ lo)
    | _ => false
  | 1 => w / 64 % 32 == 31
  | 3 => w / 256 % 8 == 3 && w / 32 % 8 == w / 4 % 8 && (w % 4 == 1 || w % 4 == 2)
  | 5 =>
    if w / 1024 % 2 = 0 then false
    else if !squad then true
    else
      let a := w / 8 % 8
      let b := w % 8
      match w / 64 % 16 with
      | 12 => a == 7 || b == 7 || a == b
      | 13 => a == 7 || b == 7 || a == b
      | 14 => decide (2 ≤ b)
      | 15 => !(b == 0 || (a == 0 && b == 1))
      | _ => false
  | _ => false

/-- A word takes prefixes (13 R511). -/
def takesPrefix (w : Nat) : Bool :=
  match w / 2048 with
  | 0 => w / 256 % 8 == 7
  | 2 => decide (w / 256 % 8 ≤ 5)
  | 3 => w % 4 == 3
  | 4 => true
  | _ => false

/-- A prefix sequence, or a lone word, is reserved (13 R512): four or more EXT words, or a last word that takes none. -/
def sequenceReserved (squad : Bool) (pre : List (BitVec 12)) (w : Nat) : Bool :=
  if 12288 ≤ w then decide (3 ≤ pre.length)
  else if pre.isEmpty then wordReserved squad w
  else decide (4 ≤ pre.length) || !takesPrefix w || wordReserved squad w

end Sys2Proof.Machine
end

