-- ==== Sys2Proof/Machine/Verb.lean ====
section
/-! DEFINITION. How a Verb core runs one instruction: units, identities, fetch, exception entry and freezes, asynchronous events,
and accesses to the data window (13 R496 to R509, R516 to R519; 14 R535 to R550; 15 R575). A unit number is that of VerbSt. -/

namespace Sys2Proof.Machine

open Sys2Proof

/-! ### Units -/

def isSquadUnit (u : Nat) : Bool := decide (12 ≤ u)

/-- Core number of 13 Table 1; a pair has its lower core's (13 R496, 15 R575). -/
def coreNum (u : Nat) : Nat := if u < 12 then u else 12 + (u - 12) / 16

/-- Context of a squad sequencer. -/
def ctxNum (u : Nat) : Nat := if u < 12 then 0 else (u - 12) % 16

/-- The squad of a context. -/
def squadOf (u : Nat) : Nat := (u - 12) / 16

/-- The unit is one of the 522, powered, in service, and on a Compact Verb core the guards have a rule set (14 R562; 15 R591; 18
R660). -/
def unitPowered (s : State) (u : Nat) : Bool :=
  !(s.verb.testing.contains u) && !(s.verb.out.contains u) && (if isDeep u then (u == 0 || u == 2) && s.hostSupply && !s.mode.noImage
   else decide (u < 524) && s.mainUp && !s.guardSt.closed) &&
    decide (s.isl (unitIsl u) ≤ 1)

/-- The unit issues: it is not frozen (14 R548). -/
def unitUp (s : State) (u : Nat) : Bool := unitPowered s u && (s.unit u).frozen.isNone

/-- The job that occupies a context. -/
def jobAt (s : State) (u : Nat) : Option Nat := if isSquadUnit u then (s.squad (squadOf u)).slots.find (ctxNum u) else none

/-- The master identity of a unit at a level (15 R575). -/
def identAt (u : Nat) (x : VUnit) (l : Nat) : Nat := if l = 0 ∧ x.tag ≤ 1024 then x.tag else 0x800 + 4 * coreNum u + l

/-- The level that a unit runs at. -/
def VUnit.lvl (x : VUnit) : Nat := stLvl x.r.st

/-! ### Register updates -/

def VUnit.withR (x : VUnit) (f : VRegs → VRegs) : VUnit := { x with r := f x.r }
def VRegs.setD (r : VRegs) (i : Fin 8) (v : BitVec 32) : VRegs := { r with d := r.d.set i v }
def VRegs.setA (r : VRegs) (i : Fin 8) (v : BitVec 24) : VRegs := { r with a := r.a.set i v }
def VRegs.setQ (r : VRegs) (i : Fin 4) (v : BitVec 72) : VRegs := { r with q := r.q.set i v }
def VRegs.setSt (r : VRegs) (v : BitVec 32) : VRegs := { r with st := v }
def VRegs.setPc (r : VRegs) (v : BitVec 20) : VRegs := { r with pc := v }

/-- A unit's registers changed. -/
def State.withRegs (s : State) (u : Nat) (f : VRegs → VRegs) : State := s.withUnit u (fun x => x.withR f)

/-- A load that is on its way reaches its register (13 R518): `true` for an address register. -/
def land (x : VUnit) : VUnit :=
  match x.pendLoad with
  | none => x
  | some (isA, i, v) =>
    { x with pendLoad := none, r := if isA then x.r.setA (Fin.ofNat 8 i) (v.setWidth 24) else x.r.setD (Fin.ofNat 8 i) v }

/-! ### Exceptions (14) -/

/-- A synchronous or asynchronous cause (14 Tables 1, 2); `integ` marks a refusal by an affected guard slot (15 R580). -/
structure Exc where
  cause : Nat
  cls : Nat
  detail : Nat := 0
  write : Bool := false
  addr : Nat := 0
  integ : Bool := false
  deriving DecidableEq, Repr

/-- XCAUSE of a cause that arose at a level. -/
def Exc.word (e : Exc) (lvl : Nat) : BitVec 32 :=
  BitVec.ofNat 32 (e.cause + 2 ^ 8 * e.cls + 2 ^ 12 * lvl + 2 ^ 14 * b2n e.write + 2 ^ 15 * b2n (decide (0x20 ≤ e.cause)) + 2 ^ 16 * e.detail)

def excParity : Exc := { cause := 1, cls := 0 }
def excFetch (a : Nat) : Exc := { cause := 2, cls := 0, addr := a }
def excEmu : Exc := { cause := 3, cls := 1 }
def excPriv (detail : Nat) : Exc := { cause := 4, cls := 2, detail := detail }
def excBreak : Exc := { cause := 5, cls := 3 }
def excAlign (a : Nat) (wr : Bool) : Exc := { cause := 6, cls := 4, write := wr, addr := a }
def excBus (detail a : Nat) (wr : Bool) : Exc := { cause := 7, cls := 4, detail := detail, write := wr, addr := a }
def excGuard (g a : Nat) (wr integ : Bool) : Exc := { cause := 8, cls := 4, detail := g, write := wr, addr := a, integ := integ }
def excLane : Exc := { cause := 9, cls := 5 }
def excGate (check idx a : Nat) : Exc := { cause := 10, cls := 6, detail := 16 * check + idx, addr := a }
def excReturn (lvl : Nat) (gate : Bool) : Exc := { cause := 11, cls := 7, detail := lvl + 128 * b2n gate }
def excDevice (line : Nat) : Exc := { cause := 0x20, cls := 8, detail := line }
def excSuper (code : Nat) : Exc := { cause := 0x21, cls := 9, detail := code }
def excLock : Exc := { cause := 0x22, cls := 10, detail := 1 }

/-- The level that takes an exception of a class raised at a level (14 R541). -/
def takenAt (xroute : BitVec 32) (cls lvl : Nat) : Nat := max (xroute.toNat / 2 ^ (2 * cls) % 4) (max lvl 1)

/-- Exception entry as one step (14 R543): taking an exception, for every cause. -/
def enterExc (x : VUnit) (e : Exc) (saved : BitVec 20) : VUnit :=
  let t := takenAt x.xroute e.cls x.lvl
  { x with
    spc := x.spc.set (Fin.ofNat 3 (t - 1)) saved
    sst := x.sst.set (Fin.ofNat 3 (t - 1)) x.r.st
    xcause := e.word x.lvl
    xaddr := BitVec.ofNat 32 e.addr
    wait := none
    rngStall := none
    r := { x.r with
      st := withLvl x.r.st t true
      pc := BitVec.ofNat 20 (x.xbase.toNat + 16 * e.cls) } }

/-- What an entry counts, and on a Deep Verb pair verb.runahead as it stands now (13 R513, R534; 14 Table 9). -/
def countEntry (s : State) (u : Nat) (e : Exc) : State :=
  let s1 := if e.cls = 1 then s.bump gVerbEmuTraps else if e.cls = 6 then s.bump gExcGateFault
    else if e.cls = 7 then s.bump gExcPrivReturn else s
  if isDeep u then s1.withVerb (fun v => { v with runahead := Tab.set v.runahead u (s1.gv gVerbRunahead) }) else s1

/-- The cause that an asynchronous event would raise, first by 14 Table 4, and the unit without it. -/
def nextAsync (x : VUnit) : Option (Exc × VUnit) :=
  if x.pendLock then some (excLock, { x with pendLock := false })
  else match x.pendSup with
    | c :: l =>
      let m := l.foldl min c
      some (excSuper m, { x with pendSup := x.pendSup.filter (· != m) })
    | [] => match x.pendDev with
      | c :: l =>
        let m := l.foldl min c
        some (excDevice m, { x with pendDev := x.pendDev.filter (· != m) })
      | [] => none

/-- An event that is pending is taken at an instruction boundary while EM is 0, not between a load and the instruction after it
(14 R545). A unit that waits takes none here: its wait decides (13 R524). -/
def takeAsync (s : State) (u : Nat) : State :=
  let x := s.unit u
  if stEM x.r.st || x.pendLoad.isSome || x.wait.isSome || !unitUp s u then s
  else match nextAsync x with
    | none => s
    | some (e, y) => countEntry (s.withUnit u (fun _ => enterExc y e y.r.pc)) u e

/-- An event raised at a unit: kept once, and its latch set whatever EM holds (13 R524, 14 R545). -/
def raiseAsync (s : State) (u : Nat) (ev : AsyncEvent) : State :=
  takeAsync (s.withUnit u (fun x =>
    let y : VUnit := { x with latch := true }
    match ev with
    | .device n => { y with pendDev := addUnique n y.pendDev }
    | .supervisor c => { y with pendSup := addUnique c y.pendSup }
    | .lockstep => { y with pendLock := true })) u

/-- A synchronous cause while EM is 1 freezes the unit, which changes no register (14 R548). -/
def freeze (s : State) (u : Nat) (x : VUnit) (e : Exc) : State :=
  let s1 := (s.withUnit u (fun _ => { x with frozen := some (e.cause, x.r.pc.toNat, x.lvl), rngStall := none })).bump gExcFreezeTotal
  let s2 := s1.event (unitIsl u) 0x0503 1 (toLE 1 (coreNum u) ++ toLE 1 (ctxNum u) ++ toLE 4 (e.word x.lvl).toNat ++ toLE 4 x.r.pc.toNat)
  if u = s.verb.duty then s2 else raiseAsync s2 s.verb.duty (.supervisor 0xFF)

/-- A PRIV_RETURN at L1 or L2 is taken whatever EM holds, one at L3 freezes; any other cause freezes exactly when EM is 1 (14
R548, R549). -/
def freezes (x : VUnit) (e : Exc) : Bool := if e.cls = 7 then x.lvl == 3 else stEM x.r.st

/-- A synchronous cause at a unit whose state before the instruction is `x`: a load on its way lands first (13 R519), nothing else of
the instruction stands. -/
def raiseSync (s : State) (u : Nat) (x : VUnit) (e : Exc) (mark : VUnit → VUnit) : State :=
  if freezes x e then freeze s u x e
  else
    let s1 := countEntry (s.withUnit u (fun _ => enterExc (mark (land x)) e x.r.pc)) u e
    match e.integ, jobAt s u with
    | true, some id => finish s1 id 0x5014 [] 6
    | _, _ => s1

/-! ### Running one instruction -/

/-- What an instruction's own effect comes to. -/
inductive VRes where
  /-- the state after it -/
  | done (s : State)
  /-- a synchronous cause, with the state of everything that is not the unit's -/
  | exc (e : Exc) (s : State)
  /-- its target does not answer now: the instruction waits where it stands -/
  | stall
  /-- a read of RNG_DATA or RNG_JDATA at an address waits for a word (12 R484) -/
  | rngWait (a : Nat)

/-- Both parity bits of a program memory cell hold (13 Table 2). -/
def cellOk (c : Nat) : Bool := (popcount 16 (c % 2 ^ 14 / 2 ^ 7) + c / 2 ^ 15 % 2) % 2 == 0 && (popcount 16 (c % 2 ^ 7) + c / 2 ^ 14 % 2) % 2 == 0

/-- A cell that a unit fetches fails its parity check: on a Deep Verb core a cell of code flash, on another a word of its program SRAM (13
R500, 16 R597). -/
def cellBad (s : State) (u w : Nat) : Bool :=
  if isDeep u then !cellOk (leNat (Mem.read 0xFF s.codeFlash (slotBase (deepSlot s u) + 0x1000 + 2 * w) 2))
  else (Tab.get [] s.verb.badWords (coreNum u)).contains w

/-- The first word of an instruction that cannot be fetched: outside program SRAM, or refused by the guard of code flash or in a
TORN sector (13 R501, 14 Table 1, 16 R597, R616). -/
def fetchFault (s : State) (u : Nat) (x : VUnit) (len : Nat) : Option Nat :=
  ((List.range len).map (fun i => (x.r.pc + BitVec.ofNat 20 i).toNat)).find? (fun w =>
    if isDeep u then
      let off := slotBase (deepSlot s u) + 0x1000 + 2 * w
      guardCheck s 3 (identAt u x x.lvl) off (off + 1) .fetch != 0 || (sector s (off / 4096)).state == 4
    else decide (0x3FFF < w))

/-- What the fetch of an instruction of `len` words raises: a parity fault of any word before a fetch fault (13 R500, 14 Table 4). -/
def fetchExc (s : State) (u : Nat) (x : VUnit) (len : Nat) : Option Exc :=
  if (List.range len).any (fun i => cellBad s u (x.r.pc + BitVec.ofNat 20 i).toNat) then some excParity
  else (fetchFault s u x len).map excFetch

/-- A fetch that fails: a parity fault is counted (13 R500). -/
def failFetch (s : State) (u : Nat) (x : VUnit) (e : Exc) : State :=
  raiseSync (onlyIf (e.cause == 1) (fun s => s.bump gVerbProgParity) s) u x e id

/-- A fetch waits on a bank of code flash that programs or erases (16 R607). -/
def fetchStalls (s : State) (u : Nat) (x : VUnit) : Bool :=
  isDeep u && bankStalls s (codeBank (slotBase (deepSlot s u) + 0x1000 + 2 * x.r.pc.toNat))

/-- One instruction of `len` words at a unit's PC. The body sees the registers as they stood, and works on the state in which a load
on its way has landed and the PC has passed the instruction; afterwards a pending event is taken. -/
def runVerb (s : State) (u len : Nat) (body : VUnit → State → VRes) : State :=
  let x := s.unit u
  if !unitUp s u || x.wait.isSome || fetchStalls s u x then s
  else match fetchExc s u x len with
    | some e => failFetch s u x e
    | none =>
      match body x (s.withUnit u (fun _ => (land x).withR (fun r => r.setPc (x.r.pc + BitVec.ofNat 20 len)))) with
      | .done t => takeAsync t u
      | .exc e t => raiseSync t u x e id
      | .stall => s
      | .rngWait a => s.withUnit u (fun x => { x with rngStall := some a })

/-- A reserved pattern or sequence (13 R512, R513): it traps at its first word, with the emulation registers set. -/
def trapReserved (s : State) (u : Nat) (pre : List (BitVec 12)) (word : Nat) : State :=
  let x := s.unit u
  let p := pre.take 3
  let w := match pre.drop 3 with | e :: _ => wordExt e | [] => word
  if !unitUp s u || x.wait.isSome || fetchStalls s u x then s
  else match fetchExc s u x (p.length + 1) with
    | some e => failFetch s u x e
    | none => raiseSync s u x excEmu (fun y => { y with
        emuWord := BitVec.ofNat 32 (p.length * 2 ^ 14 + w % 2 ^ 14)
        emuLo := BitVec.ofNat 32 ((match p.reverse with | a :: b :: _ => a.toNat + 4096 * b.toNat | [a] => a.toNat | [] => 0))
        emuHi := BitVec.ofNat 32 (match p with | [a, _, _] => a.toNat | _ => 0) })

/-- One instruction with its prefixes and its word: a reserved one traps. -/
def runWord (s : State) (u : Nat) (pre : List (BitVec 12)) (word : Nat) (body : VUnit → State → VRes) : State :=
  if sequenceReserved (isSquadUnit u) pre word then trapReserved s u pre word else runVerb s u (pre.length + 1) body

/-- An effect on the registers of the unit alone. -/
def onRegs (u : Nat) (f : VRegs → VRegs → VRegs) : VUnit → State → VRes := fun x s => .done (s.withRegs u (f x.r))

/-! ### The data window (13 Table 3) -/

/-- Where an address of the data window leads. -/
inductive Target where
  | mem (off : Nat)
  | space (g off : Nat)
  | flash (off : Nat)
  deriving DecidableEq, Repr

/-- Bytes of local data memory. -/
def localSize (u : Nat) : Nat := if isDeep u then 0x100000 else if isSquadUnit u then 0x1000 else 0x40000

/-- The target of a window address; none where Table 3 leaves it unmapped. -/
def resolve (u : Nat) (x : VUnit) (a : Nat) : Option Target :=
  if a < localSize u then some (.mem a)
  else if isSquadUnit u && decide (0x400000 ≤ a ∧ a < 0x420000) then
    some (.space 1 (squadOf u * 0x200000 + ctxNum u * 0x20000 + (a - 0x400000)))
  else if 0x800000 ≤ a ∧ a < 0xC00000 then
    some (if isDeep u then .space 3 (ctlBase + (a - 0x800000)) else .space 2 (a - 0x800000))
  else if isDeep u && decide (0xC00000 ≤ a ∧ a < 0x1000000) then some (.flash (x.flwin.toNat % 16 * 0x400000 + (a - 0xC00000)))
  else none

/-- A guard's refusal of a unit's access, as the exception it raises (15 R578). -/
def refusal (s : State) (g i off a code : Nat) (wr : Bool) : VRes := .exc (excGuard g a wr (code == 2)) (guardRefused s g i off)

/-- A fresh random word for a core, as (low, high); none while the path cannot serve now (12 R484). -/
def freshWord (s : State) (p : Nat) : Option (Nat × State) :=
  if (readyExp s p).isNone then none else let (b, s1) := rngDraw s p 8; some (leNat b, s1)

/-- A word of register space read by a core with what the read does: RNG_DATA and RNG_JDATA (12 R484, R487, R488), DTB_FRAC (17
R645). -/
def loadWord (s : State) (u g off a : Nat) : VRes ⊕ (BitVec 32 × State) :=
  let rng := if g = 2 ∧ (off = 0x210000 ∨ off = 0x210004) then some 0
    else if g = 3 ∧ (off = ctlBase + 0x30000 ∨ off = ctlBase + 0x30004) then some 1 else none
  match rng with
  | some p =>
    if s.gv (pathState p) = 2 then .inl (.exc (excBus 2 a false) s)
    else if off % 8 = 4 ∧ (s.unit u).rngHi.isSome then
      .inr (((s.unit u).rngHi).getD 0, s.withUnit u (fun x => { x with rngHi := none }))
    else match freshWord s p with
      | none => .inl (.rngWait a)
      | some (w, s0) =>
        let s1 := s0.withUnit u (fun x => { x with rngStall := none })
        if off % 8 = 4 then .inr (BitVec.ofNat 32 (w / 2 ^ 32), s1)
        else .inr (BitVec.ofNat 32 w, s1.withUnit u (fun x => { x with rngHi := some (BitVec.ofNat 32 (w / 2 ^ 32)) }))
  | none =>
    let s1 := if g = 2 ∧ off = 0x220000 then latchDtb s else s
    .inr (BitVec.ofNat 32 (regWord s1 g off), s1)

/-- Reads of a path's register that stall when its output fails complete with a bus error of cause RNG_FAILED (12 R486 to R488). -/
def failStalled (s : State) (p : Nat) : State :=
  (s.verb.units.map Prod.fst).foldl (fun s u =>
    match (s.unit u).rngStall with
    | none => s
    | some a => if isDeep u = decide (p = 1) then raiseSync s u (s.unit u) (excBus 2 a false) id else s) s

/-- A load of `n` bytes by a unit (13 R503 to R505, 14 Table 4): its value, or what it raises. -/
def vLoad (s : State) (u : Nat) (x : VUnit) (a n : Nat) : VRes ⊕ (BitVec 32 × State) :=
  if a % n ≠ 0 then .inl (.exc (excAlign a false) s)
  else match resolve u x a with
    | none => .inl (.exc (excBus 1 a false) s)
    | some (.mem off) => .inr (BitVec.ofNat 32 (leNat (Mem.read 0 x.ldata off n)), s)
    | some (.space g off) =>
      let i := identAt u x x.lvl
      let c := guardCheck s g i off (off + n - 1) .read
      if c ≠ 0 then .inl (refusal s g i off a c false)
      else if g = 1 then .inr (BitVec.ofNat 32 (leNat (Mem.read 0 s.mem (moduleAddr 1 off) n)), s)
      else if regStruck s g off then .inl (.exc (excBus 3 a false) s)
      else match loadWord s u g (off / 4 * 4) a with
        | .inl r => .inl r
        | .inr (w, s1) => .inr (BitVec.ofNat 32 (w.toNat / 256 ^ (off % 4) % 256 ^ n), s1)
    | some (.flash off) =>
      let i := identAt u x x.lvl
      let c := guardCheck s 3 i off (off + n - 1) .read
      if c ≠ 0 then .inl (refusal s 3 i off a c false)
      else if (sector s (off / 4096)).state = 4 ∨ (sector s (off / 4096)).state = 3 then .inl (.exc (excBus 3 a false) s)
      else if bankStalls s (codeBank off) then .inl .stall
      else .inr (BitVec.ofNat 32 (leNat (Mem.read 0xFF s.codeFlash off n)), s)

/-- A store of bytes by a unit. The code flash window is read only: a store that its guard admits draws an error answer (log entry
54). -/
def vStore (s : State) (u : Nat) (x : VUnit) (a : Nat) (bs : Bytes) : VRes :=
  let n := bs.length
  if a % n ≠ 0 then .exc (excAlign a true) s
  else match resolve u x a with
    | none => .exc (excBus 1 a true) s
    | some (.mem off) => .done (s.withUnit u (fun y => { y with ldata := Mem.write 0 y.ldata off bs }))
    | some (.space g off) =>
      let i := identAt u x x.lvl
      let c := guardCheck s g i off (off + n - 1) .write
      if c ≠ 0 then refusal s g i off a c true
      else .done (spaceWrite s i g off bs)
    | some (.flash off) =>
      let i := identAt u x x.lvl
      let c := guardCheck s 3 i off (off + n - 1) .write
      if c ≠ 0 then refusal s 3 i off a c true else .exc (excBus 3 a true) s

end Sys2Proof.Machine
end

