-- ==== Sys2Proof/Machine/VerbLane.lean ====
section
/-! DEFINITION. Verb-14, LANE class (13 Table 13, R526 to R529; 05 R200 to R221; 06 R254 to R256; 08 R327). Lane words are 64 bits
wide; a register that holds fewer words than an operation takes reads as zero beyond them. -/

namespace Sys2Proof.Machine

open Sys2Proof

/-- The first `n` words of a lane register. -/
def laneWords (r : VRegs) (i n : Nat) : List Nat := (r.lanes.get [] i ++ List.replicate n 0).take n

/-- The words of a lane register replaced from word 0 up. -/
def VRegs.setLane (r : VRegs) (i : Nat) (ws : List Nat) : VRegs := { r with lanes := Tab.set r.lanes i (ws ++ (r.lanes.get [] i).drop ws.length) }

/-- A comparison of a context's lanes fails (05 R215, R221, 08 R327): counted, recorded, reported, and its job retried. -/
def laneBad (s : State) (u : Nat) (e : GE) (code detail : Nat) : State :=
  let q := squadOf u
  match jobAt s u with
  | some id => laneFault s id q e code detail
  | none => faultReport ((s.bump e).report (sqIsl q) code q detail) q

/-- The DETAIL of WATCH_MISMATCH: a half, and the lane of it that carries a channel of the k + 1 there; which channel is wrong, nothing
here fixes (05 R215, 06 R239). -/
def watchBad (s : State) (u k : Nat) : State :=
  let (n, s1) := s.drawNat
  let x := s.squad (squadOf u)
  let lane := laneFor (if n % 2 = 0 then x.failA else x.failB) (n / 2 % (k + 1))
  laneBad s1 u gRnsWatchMismatch 0x0301 (n % 2 + 2 ^ 8 * lane + 2 ^ 16 * k)

/-- A failed narrow check is a watch mismatch that is counted under rns.narrow.check.fail as well; its DETAIL names a half and a working
lane (05 R221). -/
def narrowBad (s : State) (u : Nat) : State :=
  let (n, s1) := s.drawNat
  let x := s.squad (squadOf u)
  let lane := laneFor (if n % 2 = 0 then x.failA else x.failB) (n / 2)
  laneBad (s1.bump gRnsWatchMismatch) u gRnsNarrowCheckFail 0x0302 (n % 2 + 2 ^ 8 * lane)

/-- The job of a context waits for its operands or its key, so that its turn is skipped (06 R241). -/
def turnSkipped (s : State) (u : Nat) : Bool :=
  match jobAt s u with
  | some id => (s.job id).phase == .fetching || (s.job id).phase == .held
  | none => false

/-- A LANE instruction; on any other unit than a squad sequencer its word is reserved (13 R498). The sequencer issues one at a time, and
the commands come in the order of its turns (06 R241; log entry 156). -/
def laneOp (s : State) (u lop a b : Nat) (body : VUnit → State → VRes) : State :=
  if turnSkipped s u then s else runWord s u [] (wordLane lop a b) body

/-- A wide instruction needs the context's set-up (13 R527): `f` gets k, L and N. -/
def wide (f : Nat → Nat → Nat → VUnit → State → VRes) : VUnit → State → VRes := fun x s =>
  match x.r.setup with
  | none => .exc excLane s
  | some (n, L) => f (chans L) L n x s

/-- The scratch offset of a lane access to the context's own slot, checked over its whole span; what it raises otherwise (13 R503,
R505, 15 R576). -/
def laneAt (s : State) (u : Nat) (x : VUnit) (as n : Nat) (wr : Bool) : VRes ⊕ Nat :=
  if as < 0x400000 ∨ 0x420000 < as + n then .inl (.exc (excBus 1 as wr) s)
  else
    let off := squadOf u * 0x200000 + ctxNum u * 0x20000 + (as - 0x400000)
    let i := identAt u x x.lvl
    let c := guardCheck s 1 i off (off + n - 1) (if wr then .write else .read)
    if c ≠ 0 then .inl (refusal s 1 i off as c wr) else .inr off

/-- Bytes read from scratch by a lane instruction. -/
def laneRead (s : State) (off n : Nat) : Bytes := Mem.read 0 s.mem (moduleAddr 1 off) n

/-- Words of 64 bits of a byte string. -/
def words64 (n : Nat) (b : Bytes) : List Nat := (List.range n).map (fun i => leNat ((b.drop (8 * i)).take 8))

/-- The image of words. -/
def image64 (ws : List Nat) : Bytes := ws.flatMap (toLE 8)

/-- One MONT counted for the job of a context: a gang's MONT is counted at its first context alone (06 R254, R256). -/
def countMont (s : State) (u : Nat) : State :=
  match jobAt s u with
  | some id => if (contextsOf s id).headD u = u then s.withJob id (fun j => { j with monts := j.monts + 1 }) else s
  | none => s

/-- Channels of a half that one squad of a job carries: a gang's are split over its squads (06 R251, R253). -/
def shareOf (s : State) (u k : Nat) : Nat :=
  match jobAt s u with
  | some id => ceilDiv (k + 1) (s.job id).squads.length
  | none => k + 1

/-- A value in residue form is the form of one number below the product of the two bases (05 R200). -/
def consistent (k : Nat) (v : List Nat) : Bool := toRns k (rnsValue k v) == v

/-- Both inputs of MONT lie below (k + 2)·N (05 R206), as far as they are forms of numbers. -/
def lazyOk (k n : Nat) (v : List Nat) : Bool := !consistent k v || decide (rnsValue k v < (k + 2) * n)

/-- LMONT (05 R202, R207, R213): beyond the lazy range the result is undefined, its channels stay consistent and no mismatch is raised. -/
def execLmont (u : Nat) (ld ls : Fin 8) (bad : Bool) (s : State) : Out :=
  .next (laneOp s u 0 ld.val ls.val (wide (fun k _ n x t =>
    let a := laneWords x.r ld.val (2 * k + 2)
    let b := laneWords x.r ls.val (2 * k + 2)
    if bad then .done (watchBad t u k)
    else if lazyOk k n a && lazyOk k n b then
      let m := montShared (shareOf t u k) k n a b
      if m.2 then .done (watchBad t u k) else .done (countMont (t.withRegs u (fun r => r.setLane ld.val m.1)) u)
    else
      let (f, t1) := t.drawNat
      .done (countMont (t1.withRegs u (fun r => r.setLane ld.val (toRns k (f % prodOf (modsA k))))) u))))

/-- LADD, channel by channel. -/
def execLadd (u : Nat) (ld ls : Fin 8) (s : State) : Out :=
  .next (laneOp s u 1 ld.val ls.val (wide (fun k _ _ x t =>
    .done (t.withRegs u (fun r => r.setLane ld.val (chanwise (fun _ p q => p + q) k (laneWords x.r ld.val (2 * k + 2)) (laneWords x.r ls.val (2 * k + 2))))))))

/-- LSUB: Ld + (3·N − Ls) (05 R209). -/
def execLsub (u : Nat) (ld ls : Fin 8) (s : State) : Out :=
  .next (laneOp s u 2 ld.val ls.val (wide (fun k _ n x t =>
    .done (t.withRegs u (fun r => r.setLane ld.val (subRns k n (laneWords x.r ld.val (2 * k + 2)) (laneWords x.r ls.val (2 * k + 2))))))))

/-- LMOV copies the whole register, whatever its mode. -/
def execLmov (u : Nat) (ld ls : Fin 8) (s : State) : Out :=
  .next (laneOp s u 3 ld.val ls.val (onRegs u (fun o r => { r with lanes := Tab.set r.lanes ld.val (o.lanes.get [] ls.val) })))

/-- The live values after a conversion are the job's checkpoint while it has done no MONT (06 R256). -/
def convCkpt (s : State) (u : Nat) : State :=
  match jobAt s u with
  | some id => if (s.job id).monts = 0 then checkpoint s id else s
  | none => s

/-- LCONV (05 R201). -/
def execLconv (u : Nat) (ld as : Fin 8) (s : State) : Out :=
  .next (laneOp s u 4 ld.val as.val (wide (fun k L _ x t =>
    match laneAt t u x (x.r.a.get as).toNat (8 * L) false with
    | .inl e => e
    | .inr off => .done (convCkpt (t.withRegs u (fun r => r.setLane ld.val (toRns k (leNat (laneRead t off (8 * L)))))) u))))

/-- LSETTLE (05 R210). -/
def execLsettle (u : Nat) (as ls : Fin 8) (bad : Bool) (s : State) : Out :=
  .next (laneOp s u 5 as.val ls.val (wide (fun k L n x t =>
    match laneAt t u x (x.r.a.get as).toNat (8 * L) true with
    | .inl e => e
    | .inr off =>
      let z := settleRns k n (laneWords x.r ls.val (2 * k + 2))
      if bad || z.2 then .done (watchBad t u k)
      else .done { t with mem := Mem.write 0 t.mem (moduleAddr 1 off) (toLE (8 * L) z.1) })))

/-- The words of an image in their channels: each is reduced, as a channel value is at the end of every instruction; those of a context
whose QN is set are narrow values, and stay as they are (05 R200, R217; log entry 153). -/
def loadedWords (r : VRegs) (k : Nat) (ws : List Nat) : List Nat :=
  if r.qn.isSome then ws else (rnsMods k).zipWith (fun m w => w % m) ws

/-- LLD: the image of 2·k + 2 words. -/
def execLld (u : Nat) (ld as : Fin 8) (s : State) : Out :=
  .next (laneOp s u 6 ld.val as.val (wide (fun k _ _ x t =>
    match laneAt t u x (x.r.a.get as).toNat (8 * (2 * k + 2)) false with
    | .inl e => e
    | .inr off => .done (t.withRegs u (fun r => r.setLane ld.val (loadedWords x.r k (words64 (2 * k + 2) (laneRead t off (8 * (2 * k + 2))))))))))

/-- LST. -/
def execLst (u : Nat) (as ls : Fin 8) (s : State) : Out :=
  .next (laneOp s u 7 as.val ls.val (wide (fun k _ _ x t =>
    match laneAt t u x (x.r.a.get as).toNat (8 * (2 * k + 2)) true with
    | .inl e => e
    | .inr off => .done { t with mem := Mem.write 0 t.mem (moduleAddr 1 off) (image64 (laneWords x.r ls.val (2 * k + 2))) })))

/-- LSETUP: L = Dn bits 7:0, 1 to 128 (13 R527). -/
def execLsetup (u : Nat) (as dn : Fin 8) (s : State) : Out :=
  .next (laneOp s u 8 as.val dn.val (fun x t =>
    let L := (x.r.d.get dn).toNat % 256
    if L = 0 ∨ 128 < L then .exc excLane t
    else match laneAt t u x (x.r.a.get as).toNat (8 * L) false with
      | .inl e => e
      | .inr off => .done (t.withRegs u (fun r => { r with setup := some (leNat (laneRead t off (8 * L)), L) }))))

/-! ### Narrow lanes (05 R217 to R221) -/

/-- One operation on the fields of words, with a free word where an input field is not below QN (05 R220), or where QN is no prime (log
entry 34). -/
def narrowWord (w q : Nat) (f : Nat → Nat → Nat → Nat) (a b z fr : Nat) : Nat :=
  ofFields w (((fieldsOf w a).zip ((fieldsOf w b).zip ((fieldsOf w z).zip (fieldsOf w fr)))).map (fun e =>
    if e.1 < q ∧ e.2.1 < q ∧ e.2.2.1 < q ∧ qnPrime q then f e.1 e.2.1 e.2.2.1 % q else e.2.2.2))

/-- One operation on whole registers. -/
def narrowAll (w q : Nat) (f : Nat → Nat → Nat → Nat) (n : Nat) (a b z fr : List Nat) : List Nat :=
  (List.range n).map (fun i => narrowWord w q f (a.getD i 0) (b.getD i 0) (z.getD i 0) (fr.getD i 0))

/-- A narrow instruction, on the words of the 32 active lanes (08 R326): reserved while QN lies outside its range (05 R218, 13 R527); `f` gives Ld and `g`, where there is one, Ls. -/
def narrowOp (s : State) (u lop ld ls : Nat) (bad : Bool) (f : Nat → Nat → Nat → Nat → Nat) (g : Option (Nat → Nat → Nat → Nat → Nat)) : State :=
  match (s.unit u).r.qn with
  | none => trapReserved s u [] (wordLane lop ld ls)
  | some (w, q) =>
    if !qnOk w q then trapReserved s u [] (wordLane lop ld ls)
    else laneOp s u lop ld ls (fun x t =>
      if bad then .done (narrowBad t u)
      else
        let n := 32
        let a := laneWords x.r ld n
        let b := laneWords x.r ls n
        let z := if g.isSome then laneWords x.r 7 n else []
        let (f1, t1) := t.drawBytes (8 * n)
        let (f2, t2) := t1.drawBytes (8 * n)
        let low := t2.withRegs u (fun r => r.setLane ld (narrowAll w q (f q) n a b z (words64 n f1)))
        match g with
        | none => .done low
        | some g => .done (low.withRegs u (fun r => r.setLane ls (narrowAll w q (g q) n a b z (words64 n f2)))))

/-- NMUL. -/
def execNmul (u : Nat) (ld ls : Fin 8) (bad : Bool) (s : State) : Out :=
  .next (narrowOp s u 9 ld.val ls.val bad (fun _ a b _ => a * b) none)
/-- NADD. -/
def execNadd (u : Nat) (ld ls : Fin 8) (bad : Bool) (s : State) : Out :=
  .next (narrowOp s u 10 ld.val ls.val bad (fun _ a b _ => a + b) none)
/-- NSUB. -/
def execNsub (u : Nat) (ld ls : Fin 8) (bad : Bool) (s : State) : Out :=
  .next (narrowOp s u 11 ld.val ls.val bad (fun q a b _ => a + (q - b)) none)
/-- NBFCT: (Ld + ζ·Ls, Ld − ζ·Ls), ζ from L7. -/
def execNbfct (u : Nat) (ld ls : Fin 8) (bad : Bool) (s : State) : Out :=
  .next (narrowOp s u 12 ld.val ls.val bad (fun _ a b z => a + z * b) (some (fun q a b z => a + (q - z * b % q))))
/-- NBFGS: (Ld + Ls, (Ld − Ls)·ζ), ζ from L7. -/
def execNbfgs (u : Nat) (ld ls : Fin 8) (bad : Bool) (s : State) : Out :=
  .next (narrowOp s u 13 ld.val ls.val bad (fun _ a b _ => a + b) (some (fun q a b z => (a + (q - b)) * z)))

/-- LQN: width 0 is narrow-16, 1 narrow-32. -/
def execLqn (u : Nat) (dn width : Fin 8) (s : State) : Out :=
  .next (laneOp s u 14 dn.val width.val (onRegs u (fun o r =>
    { r with qn := some (if width.val = 0 then 16 else 32, (o.d.get dn).toNat) })))

/-- KPERM: Keccak-f[1600] on the 200 bytes at As (08 R327). -/
def execKperm (u : Nat) (as : Fin 8) (bad : Bool) (s : State) : Out :=
  .next (laneOp s u 15 as.val 0 (fun x t =>
    let a := (x.r.a.get as).toNat
    match laneAt t u x a 200 false with
    | .inl e => e
    | .inr off => match laneAt t u x a 200 true with
      | .inl e => e
      | .inr _ =>
        if bad then
          let (n, t1) := t.drawNat
          .done (laneBad t1 u gRnsWatchMismatch 0x0303 (n % 24))
        else .done { t with mem := Mem.write 0 t.mem (moduleAddr 1 off) (fit 200 (Config.keccakF (laneRead t off 200))) }))

/-- What a YPT does for the job of its context: a gang's or a sliced job that has done 8,192 MONTs since its last yield parks; a job that has
done 512 since its last checkpoint writes one (06 R254, R256, 13 R529). -/
def yieldAt (s : State) (id : Nat) : State :=
  let j := s.job id
  match j.parkSlot with
  | some k =>
    if 8192 ≤ j.monts then parkJob s id k
    else if j.ckptAt + 512 ≤ j.monts then (checkpoint s id).withJob id (fun j => { j with ckptAt := j.monts }) else s
  | none => if j.ckptAt + 512 ≤ j.monts then (checkpoint s id).withJob id (fun j => { j with ckptAt := j.monts }) else s

/-- YPT. -/
def execYpt (u : Nat) (s : State) : Out :=
  .next (laneOp s u 15 0 1 (fun _ t => .done (match jobAt t u with | some id => yieldAt t id | none => t)))

end Sys2Proof.Machine
end

