-- ==== Sys2Proof/Machine/VerbSys.lean ====
section
/-! DEFINITION. Verb-14, SYSTEM class: control, events and waiting, special registers, gates and returns, address arithmetic (13
Table 9, R506 to R508, R522 to R525; 14 R551 to R560). -/

namespace Sys2Proof.Machine

open Sys2Proof

/-! ### Control -/

/-- NOP. -/
def execNop (u : Nat) (s : State) : Out := .next (runVerb s u 1 (fun _ t => .done t))

/-- FENCE: every instruction of the model has completed before the next begins (13 R528). -/
def execVerbFence (u : Nat) (s : State) : Out := .next (runVerb s u 1 (fun _ t => .done t))

/-- BRK. -/
def execBrk (u : Nat) (s : State) : Out := .next (runVerb s u 1 (fun _ t => .exc excBreak t))

/-- EMS (13 Table 9). -/
def execEms (u : Nat) (s : State) : Out :=
  .next (runVerb s u 1 (fun x t => if x.lvl = 0 then .exc (excPriv 0xFF) t else .done (t.withRegs u (fun r => r.setSt (putBit r.st 11 true)))))

/-- EMC: a pending event is taken before the next instruction (13 Table 9). -/
def execEmc (u : Nat) (s : State) : Out :=
  .next (runVerb s u 1 (fun x t => if x.lvl = 0 then .exc (excPriv 0xFF) t else .done (t.withRegs u (fun r => r.setSt (putBit r.st 11 false)))))

/-! ### Events and waiting (13 R522 to R525) -/

/-- The PC passes an instruction that waited. -/
def VUnit.wake (x : VUnit) : VUnit := { (x.withR (fun r => r.setPc (r.pc + 1))) with wait := none }

/-- WFE at the instruction that the PC names (13 R524). -/
def wfeStep (s : State) (u : Nat) : State :=
  let x := s.unit u
  if x.latch then takeAsync (s.withUnit u (fun x => { x.wake with latch := false })) u
  else if !stEM x.r.st && (nextAsync x).isSome then takeAsync (s.withUnit u (fun x => { x with wait := none })) u
  else s.withUnit u (fun x => { x with wait := some none })

/-- The deadline of a WAITC has come (13 R524). -/
def deadlineMet (tick : Nat) (dn : BitVec 32) : Bool := (BitVec.ofNat 32 tick - dn).toNat < 2 ^ 31

/-- WAITC at the instruction that the PC names (13 R524): the deadline wins over the latch. -/
def waitcStep (s : State) (u : Nat) (dn : BitVec 32) : State :=
  let x := s.unit u
  if deadlineMet (tickOf s u) dn then
    takeAsync (s.withUnit u (fun x => x.wake.withR (fun r => r.setSt (putBit r.st 2 false)))) u
  else if x.latch then
    takeAsync (s.withUnit u (fun x => { x.wake.withR (fun r => r.setSt (putBit r.st 2 true)) with latch := false })) u
  else if !stEM x.r.st && (nextAsync x).isSome then takeAsync (s.withUnit u (fun x => { x with wait := none })) u
  else s.withUnit u (fun x => { x with wait := some (some dn) })

/-- A waiting instruction begins: a load on its way lands, the PC stays at it. -/
def beginWait (s : State) (u : Nat) (f : VUnit → State → State) : State :=
  let x := s.unit u
  if !unitUp s u || x.wait.isSome || fetchStalls s u x then s
  else match fetchExc s u x 1 with
    | some e => failFetch s u x e
    | none => f x (s.withUnit u land)

/-- WFE. -/
def execWfe (u : Nat) (s : State) : Out := .next (beginWait s u (fun _ t => wfeStep t u))

/-- WAITC. -/
def execWaitc (u : Nat) (dn : Fin 8) (s : State) : Out := .next (beginWait s u (fun x t => waitcStep t u (x.r.d.get dn)))

/-- WAIT_WAKE (13 R524, R525): a wait looks at its deadline and its latch again. -/
def execWaitWake (u : Nat) (s : State) : Out :=
  if !unitUp s u then .next s
  else match (s.unit u).wait with
    | none => .next s
    | some none => .next (wfeStep s u)
    | some (some dn) => .next (waitcStep s u dn)

/-- Cores that a SEV names (13 R522). -/
def sevCores (bank : Bool) (d : BitVec 32) : Nat := if bank then d.toNat * 2 ^ 12 else d.toNat % 2 ^ 12

/-- SEV: bits outside the permit mask are dropped and counted (13 R522, R523). -/
def execSev (u : Nat) (dn : Fin 8) (bank : Bool) (s : State) : Out :=
  .next (runVerb s u 1 (fun x t =>
    let m := BitVec.ofNat 64 (sevCores bank (x.r.d.get dn))
    let drop := popcount 44 (m &&& ~~~x.sevMask).toNat
    .done (sendEvents (t.bumpBys gVerbSevDropped 0 drop) (m &&& x.sevMask).toNat (some (coreNum u)))))

/-! ### Special registers (13 Table 6) -/

/-- The lowest level that reads a special register. -/
def readLevel (r : Nat) : Nat := if r ≤ 5 then 0 else if r ≤ 8 then 1 else if r ≤ 17 then (r - 9) % 3 + 1 else 1

/-- The lowest level that writes a special register. -/
def writeLevel (r : Nat) : Nat :=
  if r = 0 then 0 else if r ≤ 14 then (r - 9) % 3 + 1 else if r = 23 then 2 else 3

/-- CORE. -/
def coreReg (u : Nat) : BitVec 32 := BitVec.ofNat 32 (coreNum u + 2 ^ 8 * b2n (isDeep u) + 2 ^ 12 * ctxNum u)

/-- The value of a special register. -/
def readSpec (s : State) (u : Nat) (x : VUnit) (r : Nat) : BitVec 32 :=
  match r with
  | 0 => x.r.st
  | 1 => BitVec.ofNat 32 (tickOf s u)
  | 2 => x.tickHi
  | 3 => coreReg u
  | 4 => x.ev0
  | 5 => x.ev1
  | 6 => x.emuWord
  | 7 => x.emuLo
  | 8 => x.emuHi
  | 9 => (x.spc.get 0).setWidth 32
  | 10 => (x.spc.get 1).setWidth 32
  | 11 => (x.spc.get 2).setWidth 32
  | 12 => x.sst.get 0
  | 13 => x.sst.get 1
  | 14 => x.sst.get 2
  | 15 => x.rceil.get 0
  | 16 => x.rceil.get 1
  | 17 => x.rceil.get 2
  | 18 => x.xcause
  | 19 => x.xaddr
  | 20 => x.xbase
  | 21 => x.gtbase
  | 22 => x.xroute
  | _ => if isDeep u then x.flwin else 0

/-- What the read of a special register does beside (13 Table 6): TICK_LO latches, EVSRC_LO and EVSRC_HI clear. -/
def afterRead (s : State) (u r : Nat) (x : VUnit) : VUnit :=
  match r with
  | 1 => { x with tickHi := BitVec.ofNat 32 (tickOf s u / 2 ^ 32) }
  | 4 => { x with ev0 := 0 }
  | 5 => { x with ev1 := 0 }
  | _ => x

/-- A special register written, truncated to its width; read-only fields keep their values (13 R507, Table 6; 14 Table 3, R543,
R551, R555). -/
def writeSpec (u : Nat) (x : VUnit) (r : Nat) (v : BitVec 32) : VUnit :=
  match r with
  | 0 => x.withR (fun g => g.setSt ((g.st &&& ~~~0x1F#32) ||| (v &&& 0x1F#32)))
  | 9 => { x with spc := x.spc.set 0 (v.setWidth 20) }
  | 10 => { x with spc := x.spc.set 1 (v.setWidth 20) }
  | 11 => { x with spc := x.spc.set 2 (v.setWidth 20) }
  | 12 => { x with sst := x.sst.set 0 v }
  | 13 => { x with sst := x.sst.set 1 v }
  | 14 => { x with sst := x.sst.set 2 v }
  | 15 => { x with rceil := x.rceil.set 0 (v &&& 0xE1F#32) }
  | 16 => { x with rceil := x.rceil.set 1 (v &&& 0xE1F#32) }
  | 17 => { x with rceil := x.rceil.set 2 (v &&& 0xE1F#32) }
  | 20 => { x with xbase := v &&& 0xFFF00#32 }
  | 21 => { x with gtbase := v &&& 0xFFF000#32 }
  | 22 => { x with xroute := (x.xroute &&& 0xF000#32) ||| (v &&& 0x3F0FFF#32) }
  | 23 => if isDeep u then { x with flwin := v &&& 0xF#32 } else x
  | _ => x

/-- MFS (13 R508). -/
def execMfs (u : Nat) (dd : Fin 8) (sreg : Fin 32) (s : State) : Out :=
  .next (runWord s u [] (wordSys 3 (sreg.val * 8 + dd.val)) (fun x t =>
    if x.lvl < readLevel sreg.val then .exc (excPriv sreg.val) t
    else .done ((t.withUnit u (afterRead t u sreg.val)).withRegs u (fun r => r.setD dd (readSpec t u x sreg.val)))))

/-- MTS (13 R508). -/
def execMts (u : Nat) (sreg : Fin 32) (ds : Fin 8) (s : State) : Out :=
  .next (runWord s u [] (wordSys 4 (sreg.val * 8 + ds.val)) (fun x t =>
    if x.lvl < writeLevel sreg.val then .exc (excPriv sreg.val) t
    else .done (t.withUnit u (fun y => writeSpec u y sreg.val (x.r.d.get ds)))))

/-! ### Returns (14 R551 to R554) -/

/-- A return from level `n` may restore a saved ST (14 R552). -/
def returnOk (x : VUnit) (n : Nat) : Bool :=
  let s := x.sst.get (Fin.ofNat 3 (n - 1))
  decide (stLvl s < n) && (s &&& x.rceil.get (Fin.ofNat 3 (n - 1))) == 0 && (s &&& 0xFFFFF1E0#32) == 0

/-- ST and PC restored from a level's saved state. -/
def returnRegs (x : VUnit) (n : Nat) (r : VRegs) : VRegs :=
  (r.setSt (x.sst.get (Fin.ofNat 3 (n - 1)))).setPc (x.spc.get (Fin.ofNat 3 (n - 1)))

/-- RETX (14 R552, R553). -/
def execRetx (u : Nat) (s : State) : Out :=
  .next (runVerb s u 1 (fun x t =>
    if x.lvl = 0 then .exc (excPriv 0xFF) t
    else if !returnOk x x.lvl then .exc (excReturn x.lvl false) t
    else .done (t.withRegs u (returnRegs x x.lvl))))

/-- RETG (14 R554): RETX with A7 taken back from A6. -/
def execRetg (u : Nat) (s : State) : Out :=
  .next (runVerb s u 1 (fun x t =>
    if x.lvl = 0 then .exc (excPriv 0xFF) t
    else if !returnOk x x.lvl then .exc (excReturn x.lvl true) t
    else .done (t.withRegs u (fun r => returnRegs x x.lvl (r.setA 7 (x.r.a.get 6))))))

/-! ### Gates (14 R555 to R560) -/

/-- GTBASE lies where 14 R555 requires; the gate block of a Compact Verb core has no stated address, and is taken to be 4 KiB
(log entry 9). -/
def gateTableOk (u : Nat) (x : VUnit) : Bool :=
  if isDeep u then decide (0xC00000 ≤ x.gtbase.toNat ∧ x.gtbase.toNat < 0x1000000)
  else x.gtbase.toNat == 0x800000 + Config.gateBlock (coreNum u)

/-- The 128 bits of a gate entry, read with the gate unit's own rights. -/
def gateEntry (s : State) (u : Nat) (x : VUnit) (n : Nat) : Nat :=
  let a := x.gtbase.toNat + 16 * n
  if isDeep u then leNat (Mem.read 0xFF s.codeFlash (x.flwin.toNat % 16 * 0x400000 + (a - 0xC00000)) 16)
  else leNat (Mem.read 0 s.mem (moduleAddr 2 (a - 0x800000)) 16)

/-- Reserved fields of a gate entry are zero (14 Table 6). -/
def gateRsvdOk (e : Nat) : Bool :=
  bits e 105 102 == 0 && bits e 71 69 == 0 && bits e 63 56 == 0 && bits e 30 28 == 0 && bits e 23 22 == 0

/-- A range of window addresses lies wholly in one guard region that admits an identity. -/
def rangeInRegion (s : State) (u : Nat) (x : VUnit) (i a n : Nat) (k : Access) : Bool :=
  match resolve u x a, resolve u x (a + n - 1) with
  | some (.space g off), some (.space h end_) => g == h && end_ == off + n - 1 && guardCheck s g i off end_ k == 0
  | some (.flash off), some (.flash end_) => end_ == off + n - 1 && guardCheck s 3 i off end_ k == 0
  | _, _ => false

/-- A range lies wholly in local data memory. -/
def rangeLocal (u a n : Nat) : Bool := decide (a + n ≤ localSize u)

/-- Check 4 of 14 Table 8 for one pointer argument. -/
def pointerOk (s : State) (u : Nat) (x : VUnit) (e i : Nat) : Bool :=
  let len := (x.r.d.get (Fin.ofNat 8 (bits e (3 * i + 80) (3 * i + 78)))).toNat
  let a := (x.r.a.get (Fin.ofNat 8 i)).toNat
  let who := identAt u x x.lvl
  len == 0 || (decide (len < 2 ^ 24 ∧ a + len - 1 < 2 ^ 24) &&
    (rangeLocal u a len || (rangeInRegion s u x who a len .read && (!bit e (96 + i) || rangeInRegion s u x who a len .write))))

/-- Check 5 of 14 Table 8: the target stack lies in one guard region of the target level. -/
def stackOk (s : State) (u : Nat) (x : VUnit) (e : Nat) : Bool :=
  let top := bits e 55 32
  let n := 2 ^ bits e 68 64
  let who := identAt u x (bits e 21 20)
  decide (n ≤ top) && rangeInRegion s u x who (top - n) n .read && rangeInRegion s u x who (top - n) n .write

/-- The first check of 14 Table 8 that fails, with the register index and address that the fault names. -/
def gateFault (s : State) (u : Nat) (x : VUnit) (e : Nat) : Option (Nat × Nat × Nat) :=
  let l := x.lvl
  let tag := BitVec.ofNat 11 x.tag
  let mask := BitVec.ofNat 11 (bits e 127 117)
  if !gateTableOk u x || !bit e 31 || !gateRsvdOk e || !decide (6 ≤ bits e 68 64 ∧ bits e 68 64 ≤ 20) then some (1, 0, 0)
  else if !bit e (24 + l) || decide (bits e 21 20 ≤ l) then some (2, 0, 0)
  else if (tag &&& mask) ≠ (BitVec.ofNat 11 (bits e 116 106) &&& mask) then some (3, 0, 0)
  else match (List.range 6).find? (fun i => bit e (72 + i) && !pointerOk s u x e i) with
    | some i => some (4, i, (x.r.a.get (Fin.ofNat 8 i)).toNat)
    | none => if stackOk s u x e then none else some (5, 7, 0)

/-- The step of GATE when every check passes (14 R558); `next` is the address of the word after it. -/
def enterGate (x : VUnit) (e : Nat) (next : BitVec 20) (y : VUnit) : VUnit :=
  let t := bits e 21 20
  { y with
    spc := y.spc.set (Fin.ofNat 3 (t - 1)) next
    sst := y.sst.set (Fin.ofNat 3 (t - 1)) x.r.st
    r := (((y.r.setA 6 (x.r.a.get 7)).setA 7 (BitVec.ofNat 24 (bits e 55 32))).setSt (withLvl x.r.st t true)).setPc (BitVec.ofNat 20 (bits e 19 0)) }

/-- GATE (14 R557, R558). -/
def execGate (u : Nat) (n : BitVec 8) (s : State) : Out :=
  .next (runVerb s u 1 (fun x t =>
    let e := gateEntry t u x n.toNat
    match gateFault t u x e with
    | some (c, i, a) => .exc (excGate c i a) t
    | none => .done (t.withUnit u (enterGate x e (x.r.pc + 1)))))

/-! ### Address moves, jumps and arithmetic (13 Table 9) -/

/-- MOVAD: Ad := Ds bits 23:0. -/
def execMovad (u : Nat) (ad ds : Fin 8) (s : State) : Out :=
  .next (runVerb s u 1 (onRegs u (fun o r => r.setA ad ((o.d.get ds).setWidth 24))))

/-- MOVDA: Dd := As, zero-extended. -/
def execMovda (u : Nat) (dd as : Fin 8) (s : State) : Out :=
  .next (runVerb s u 1 (onRegs u (fun o r => r.setD dd ((o.a.get as).setWidth 32))))

/-- MOVAA. -/
def execMovaa (u : Nat) (ad as : Fin 8) (s : State) : Out :=
  .next (runVerb s u 1 (onRegs u (fun o r => r.setA ad (o.a.get as))))

/-- JMP: PC := As bits 19:0. -/
def execJmp (u : Nat) (as : Fin 8) (s : State) : Out :=
  .next (runVerb s u 1 (onRegs u (fun o r => r.setPc ((o.a.get as).setWidth 20))))

/-- JSR: A6 := address of the next word; PC := the old As. -/
def execJsr (u : Nat) (as : Fin 8) (s : State) : Out :=
  .next (runVerb s u 1 (onRegs u (fun o r => (r.setA 6 ((o.pc + 1).setWidth 24)).setPc ((o.a.get as).setWidth 20))))

/-- ADDA. -/
def execAdda (u : Nat) (ad ds : Fin 8) (s : State) : Out :=
  .next (runVerb s u 1 (onRegs u (fun o r => r.setA ad (o.a.get ad + (o.d.get ds).setWidth 24))))

/-- ADDAA. -/
def execAddaa (u : Nat) (ad as : Fin 8) (s : State) : Out :=
  .next (runVerb s u 1 (onRegs u (fun o r => r.setA ad (o.a.get ad + o.a.get as))))

/-- CMPA. -/
def execCmpa (u : Nat) (ad as : Fin 8) (s : State) : Out :=
  .next (runVerb s u 1 (onRegs u (fun o r => r.setSt ((cmpaF (o.a.get ad) (o.a.get as)).apply r.st))))

/-- ADDAI, with up to three prefixes. -/
def execAddai (u : Nat) (pre : List (BitVec 12)) (ad : Fin 8) (imm : BitVec 5) (s : State) : Out :=
  .next (runWord s u pre (wordSys 7 (ad.val * 32 + imm.toNat)) (onRegs u (fun o r =>
    r.setA ad (o.a.get ad + BitVec.ofNat 24 (assemble pre 5 imm.toNat true 24)))))

/-- RESERVED_PATTERN (13 R512, R513): a word that is not reserved stands for no command of this row. -/
def execReservedPattern (u : Nat) (pre : List (BitVec 12)) (word : BitVec 14) (s : State) : Out :=
  if sequenceReserved (isSquadUnit u) pre word.toNat then .next (trapReserved s u pre word.toNat) else .next s

end Sys2Proof.Machine
end

