-- ==== Sys2Proof/Machine/VerbEvents.lean ====
section
/-! DEFINITION. Events of the Verb cores: asynchronous events, recovery of frozen units, lockstep pairs, run-ahead (13 R530 to R533;
14 R545, R550, R561 to R564). -/

namespace Sys2Proof.Machine

open Sys2Proof

/-- DEVICE_INTERRUPT: a device line, a request of the duty pair, or a takeover's LOCKSTEP at the standby pair (14 Table 1). -/
def execDeviceInterrupt (u : Nat) (ev : AsyncEvent) (s : State) : Out :=
  let ok := match ev with
    | .device n => decide (n < 64)
    | .supervisor c => decide (c < 256)
    | .lockstep => isDeep u && u != s.verb.duty
  if unitPowered s u && ok then .next (raiseAsync s u ev) else .next s

/-- A core, or a context, at its reset values (14 R535): L3, EM set, PC 0. What lies outside the core stays: its tag, its permit mask,
its local data memory. -/
def resetCore (s : State) (u : Nat) : State :=
  s.withUnit u (fun x => { tickAt := if isSquadUnit u then x.tickAt else s.now, tickBase := if isSquadUnit u then x.tickBase else 0,
                           tickSlow := if isSquadUnit u then x.tickSlow else tickPart s u, tag := if isSquadUnit u then 0x7FF else x.tag,
                           sevMask := x.sevMask, ldata := x.ldata, r := { lanes := x.r.lanes, setup := x.r.setup, qn := x.r.qn } })

/-- A core's program SRAM loaded again from the image it runs: the running one, but in a changeover the one the core has (13 R502, 18
Table 9). -/
def loadProgram (s : State) (core : Nat) : State :=
  s.withVerb (fun v => { v with prog := Tab.set v.prog core (Tab.get (s.gv gFlashSlotRunning) v.prog core), badWords := v.badWords.erase core })

/-- The other pair. -/
def otherPair (u : Nat) : Nat := 2 - u

/-- A standby pair is in service. -/
def standbyUp (s : State) : Bool := unitPowered s (otherPair s.verb.duty)

/-- A pair reset for its self-test (14 R562). -/
def testPair (s : State) (u : Nat) : State := (resetCore s u).withVerb (fun v => { v with testing := addUnique u v.testing })

/-- A pair stops: the standby pair takes over from the duty pair, or the duty pair starts again when there is none (14 R561, R562,
R564). -/
def pairStops (s : State) (u : Nat) : State :=
  if u ≠ s.verb.duty then testPair s u
  else if standbyUp s then
    let v := otherPair u
    let s1 := (testPair s u).withVerb (fun x => { x with duty := v })
    raiseAsync ((s1.bump gExcTakeover).event (200 + v) 0x0505 1 (toLE 1 (v / 2))) v .lockstep
  else resetCore s u

/-- PAIR_DIVERGED (14 R561, R562, R564). -/
def execPairDiverged (pair : Bool) (s : State) : Out :=
  let u := if pair then 2 else 0
  if !unitPowered s u then .next s
  else
    let role := Config.code 9 (b2n (u == s.verb.duty))
    .next (pairStops ((s.bump gExcLockstepDiverge).event (200 + u) 0x0504 1 (toLE 1 (u / 2) ++ toLE 1 role)) u)

/-- The pair is the unit that a changeover has in hand, which CHANGEOVER_UNIT_DONE ends (18 Table 9). -/
def pairInHand (s : State) (u : Nat) : Bool :=
  match s.mode.changeover with
  | none => false
  | some c => (c.unit == 2 && u == s.verb.duty) || ((c.unit == 1 || c.unit == 5) && u != s.verb.duty)

/-- PAIR_SELFTEST_DONE (14 R562): a pair with a failed core stays out of service until the next ASSAY. -/
def execPairSelftestDone (pair passed : Bool) (s : State) : Out :=
  let u := if pair then 2 else 0
  if s.verb.testing.contains u && !pairInHand s u then
    .next (s.withVerb (fun v => { v with testing := v.testing.filter (· != u), out := if passed then v.out else addUnique u v.out }))
  else .next s

/-- A frozen context's job is dispatched again from its start, elsewhere and unbilled; a second freeze ends it CORE_FAULT (14
Table 5). -/
def recoverContext (s : State) (u : Nat) : State :=
  let s1 := match jobAt s u with
    | none => wipeSlot s (squadOf u) (ctxNum u)
    | some id =>
      if (s.job id).freezes ≠ 0 then finish s id 0x5013 [] 6
      else
        (redispatch (dropImage s id) id).withJob id (fun j => { j with freezes := 1, slices := 0, retries := 0, avoid := some (squadOf u) })
  resetCore s1 u

/-- An intake core reset and loaded again: its staged jobs are squashed and fetched again (14 Table 5, 04 R182). -/
def recoverIntake (s : State) (u : Nat) : State :=
  loadProgram (resetCore (emptyIntake s (u - 4)) u) u

/-- FROZEN_UNIT_RECOVERY (14 Table 5). -/
def execFrozenUnitRecovery (u : Nat) (s : State) : Out :=
  if (s.unit u).frozen.isNone || !unitPowered s u then .next s
  else if isSquadUnit u then .next (recoverContext s u)
  else if 8 ≤ u then .next (loadProgram (resetCore s u) u)
  else if 4 ≤ u then .next (recoverIntake s u)
  else .next (pairStops s u)

/-- RUN_AHEAD (13 R530 to R533): an episode is counted, and changes nothing else; none occurs while verb.runahead is false. -/
def execRunAhead (pair : Bool) (s : State) : Out :=
  let u := if pair then 2 else 0
  if unitUp s u && s.verb.runahead.get 1 u == 1 then .next (s.bump gVerbRunaheadCount) else .next s

end Sys2Proof.Machine
end

