-- ==== Sys2Proof/Machine/Power.lean ====
section
/-! DEFINITION. Loss of +12V and of both host supplies, the cell, the always-on supply and thermal throttling (02 R73 to R84; 11 R443;
18 R660, R661, R673; 19 R714). -/

namespace Sys2Proof.Machine

open Sys2Proof

/-! ### What loss of +12V does (19 Table 9) -/

/-- Vault pages that have started are completed from hold-up, what is only gathered is lost; relocations cut short start again
(02 R76, 16 R619, 19 Table 9). -/
def holdUp (s : State) : State :=
  let s1 := (List.range 16).foldl (fun s b =>
    match (s.vbank b).prog, (s.vbank b).erasing with
    | page :: _, none => page.foldl programmed s
    | _, _ => s) s
  let s2 := s1.withVault (fun v => { v with
    gather := [], rgather := [], banks := v.banks.mapVals (fun _ x => { x with prog := [] }) })
  s2.withVault (fun v => { v with victims := v.victims.filter (victimReady s2) })

/-- Erases in progress leave their units TORN (16 R615, 19 Table 9); the descriptor of a code flash erase ends as a failed one. -/
def tearErases (s : State) : State :=
  let s1 := s.code.banks.foldl (fun s e =>
    match e.2.left with
    | n :: _ => flashDone ((withSector s n (fun u => { u with state := 4 })).withCode (fun c => { c with banks := c.banks.erase e.1 }))
        (.code e.2.queue) e.2.d 0x5018 (n * 4096 - e.2.d.target)
    | [] => s) s
  s1.withVault (fun v => { v with
    blocks := v.blocks.mapVals (fun _ u => if u.state = 2 then { u with state := 4 } else u)
    banks := v.banks.mapVals (fun _ x => { x with erasing := none }) })

/-- A guard change that is staged or signed is gone with its set: the staging banks take the active rules (15 R582, R592). -/
def loseStaged (s : State) : State :=
  if s.gv gGuardCommitState = 0xC3C ∨ s.gv gGuardCommitState = 0x3F0 then
    (restoreStaging s [0, 1, 2, 3, 4]).gset gGuardCommitState 0xFC0
  else s

/-- Islands that DORMANT strikes: domains K and C and the standby Deep Verb pair (18 R661, R673). -/
def dormantIslands (s : State) : List Nat := domIsl 2 ++ domIsl 3 ++ [200 + otherPair s.verb.duty, 201 + otherPair s.verb.duty]

/-- The cut: MTR stops accepting charges and saves its accumulators with the device time, DTB and OTC are saved; jobs, the link, the card and
the sets not yet approved are lost with the power (11 R443, 17 R652, R656, 18 R673, 19 Table 9, 22 R798). -/
def cutMain (s : State) : State :=
  let was := s.meter.accepting
  let s1 := (saveDtb (s.withMeter (fun m => { m with accepting := false, cutAt := if was then some s.dtbNs else m.cutAt }))).withClock
    (fun c => { c with otcSaved := c.otc, ptmOut := none, ptmSlot := none })
  let s2 := tokGone (tokGone s1 false .absent 0x7037) true .absent 0x7037
  let s3 := serveVaultReads (serveCode (tearErases (holdUp s2)))
  let s4 : State := { s3 with jobs := [], stood := s3.jobs }
  let s5 := (loseStaged (losePower (abortTrans s4))).withMode (fun m => { m with serviceAt := none, waiting := none })
  let s6 := s5.withLink (fun l => { l with
    state := .down, width := if l.state = .l0 then l.width else 0, rate := if l.state = .l0 then l.rate else 0,
    d3hot := false, heldPosts := [], reads := [], pba := [], msixHeld := [] })
  let s7 := [0, 1, 2, 3, 4, 5].foldl (fun s c => s.withNoise c (fun x => { x with state := 3 })) s6
  (pathExps 0).foldl (fun s e => s.withExp e (fun x => { x with inst := false, out := 0 })) s7

/-- A UID of the inventory tag drawn at entry to DORMANT (24 Table 4). -/
def newUid (s : State) : State :=
  let (b, s1) := rngDraw s 1 3
  s1.withTag (fun t => { t with uid := 0x08 :: b })

/-- The module falls to DORMANT: its islands are struck as one step (18 R661, R673). -/
def toDormant (s : State) : State :=
  let s1 := strikeIsl s (dormantIslands s)
  let s2 := (dormantIslands s).foldl (fun s n => s.present n (.mark 4 n)) s1
  enterMode (newUid s2) 1 true 7

/-- A program of code flash that the power cuts short: some of its granules stand. -/
def cutProgram (s : State) (o : BankOp) : State :=
  let (f, s0) := s.drawNat
  let n := f % (o.d.len / 32 + 1) * 32
  (sectorsOf o.d.target n).foldl (fun s k => withSector s k (fun u => { u with state := 1 }))
    { s0 with codeFlash := Mem.write 0xFF s0.codeFlash o.d.target (o.data.take n) }

/-- What the cell no longer holds: the Key Root and Sentinel Time (02 R84, 17 R655). The Sentinel's store of records stays (log entry
152). -/
def cellGone (s : State) : State :=
  (s.withTamper (fun t => { t with rootHeld := false, root := [], rootInv := [], rootCheck := [] })).withClock (fun c => { c with stLost := true })

/-- The module falls to SENTINEL: domain A is struck as well, every session ends, VOLATILE keys are gone, and SNT takes the filters
(18 R673, 20 R720, 22 R784). What EVR held is lost; what the vault and the PES hold stays. -/
def toSentinel (s : State) : State :=
  let s1 := destroyVolatile (closeAllGap s)
  let s2 := strikeIsl s1 (domIsl 1 ++ domIsl 2 ++ domIsl 3)
  let s3 := enterMode s2 0 true 6
  let s4 := handover s3 true
  let s5 := (s4.code.banks.foldl (fun s e => if e.2.left.isEmpty then cutProgram s e.2 else s) s4).withCode (fun c => { c with
    banks := [], waits := [], queues := [], turn := 0,
    sectors := c.sectors.mapVals (fun _ u => if u.state = 2 ∨ u.state = 3 then { u with state := 4 } else u) })
  let s6 := s5.withVault (fun v => { v with
    queues := [], turn := 0, gather := [], rgather := [], waits := [], collecting := false
    banks := v.banks.mapVals (fun _ x => { x with prog := [], erasing := none }) })
  let s7 := [6, 7].foldl (fun s c => s.withNoise c (fun x => { x with state := 3 })) s6
  let s8 := (pathExps 1).foldl (fun s e => s.withExp e (fun x => { x with inst := false, out := 0 })) s7
  let s9 : State := { s8 with
    evr := { rnum := s8.evr.rnum, founding := s8.evr.founding, foundingUsed := s8.evr.foundingUsed, reservedUsed := s8.evr.reservedUsed,
             fullNoted := s8.evr.fullNoted, rolling := s8.evr.rolling }
    guards := [], guardSt := { s8.guardSt with closed := true, reload := [] }
    verb := { s8.verb with units := [], testing := [] } }
  let s10 := ((s9.gset gGuardCommitState 0xFC0).gset gTamperQuiesceActive 0).withTamper (fun t => { t with
    batch := [], holdUntil := none, holdMons := [] })
  let s11 := s10.withPower (fun p => { p with source := .cell, wake := false, cap60 := false, hotDies := [] })
  if s11.power.cellExhausted then cellGone s11 else s11

/-- What the loss of the last host supply leaves of the flash operations that run: erases are torn, and programs that have started are
completed from hold-up where +12V was there to charge it (02 R76, 19 Table 9). -/
def flashCut (s : State) (was12 : Bool) : State := tearErases (if was12 then holdUp s else s)

/-- CUT (11 R443, 18 Table 8): +12V falls below 10.8 V; without 3.3Vaux the module passes into SENTINEL. -/
def execCut (s : State) : Out :=
  if !s.power.main12 then .next s
  else
    let s0 := s.withPower (fun p => { p with main12 := false, source := if p.aux33 then .aux33 else p.source })
    let s1 := if s.mainUp then cutMain s0 else s0
    if s.power.aux33 then .next (if s.mainUp then toDormant s1 else s1)
    else .next (toSentinel (if s.mainUp then s1 else flashCut s1 true))

/-- SUPPLIES_LOST (18 R673): both host supplies are absent. -/
def execSuppliesLost (s : State) : Out :=
  let s0 := s.withPower (fun p => { p with aux33 := false, main12 := false })
  if !s.hostSupply then .next s0
  else .next (toSentinel (if s.mainUp then cutMain s0 else flashCut s0 s.power.main12))

/-- CELL_EXHAUSTED (02 R84, 17 R655): with neither host supply present, the Key Root and Sentinel Time are lost. -/
def execCellExhausted (s : State) : Out :=
  if s.hostSupply then .next s else .next (cellGone (s.withPower (fun p => { p with cellExhausted := true })))

/-- ALWAYS_ON_SUPPLY_CHANGE (02 R73): 3.3Vaux is lost or returns while +12V stays. -/
def execAlwaysOnSupplyChange (present : Bool) (s : State) : Out :=
  if s.power.main12 && s.hostSupply then
    .next (s.withPower (fun p => { p with aux33 := present, source := if present then .aux33 else .main12 }))
  else .next s

/-- THERMAL_OVERLOAD (02 R79, R80): a die at 95 °C has its island clocks throttled; the throttle is released as it cools. No job is
refused. -/
def execThermalOverload (die : Nat) (hot : Bool) (s : State) : Out :=
  if 2 ≤ die ∨ !s.hostSupply then .next s
  else
    let s1 := s.withPower (fun p => { p with hotDies := if hot then addUnique die p.hotDies else p.hotDies.filter (· != die) })
    .next (setThrottle s1)

end Sys2Proof.Machine
end

