-- ==== Sys2Proof/Machine/Repair.lean ====
section
/-! DEFINITION. Repair of SRAM and the measurement blocks (19 R699 to R704). -/

namespace Sys2Proof.Machine

open Sys2Proof

/-! ### Spares (19 R699 to R702) -/

/-- Spare rows or columns of a macro that are left: 4 rows and 2 columns (19 R699). -/
def sparesOf (s : State) (mac : Nat) (column : Bool) : Nat :=
  (if column then 2 else 4) - (s.life.spares.filter (fun x => x.mac == mac && x.column == column)).length

/-- A repair made: the map, which is never cleared, takes the spare before it is used; with none left the unit that holds the macro is
lost (19 R701, R702). -/
def mapSpare (s : State) (x : Spare) : State :=
  if sparesOf s x.mac x.column = 0 then loseIsland s x.island 2
  else
    let s1 := (s.withLife (fun l => { l with spares := l.spares ++ [x] })).bump gRepairSramUsed
    s1.event 197 0x0603 1 (toLE 2 x.mac ++ toLE 1 (Config.code 11 (b2n x.column)) ++ toLE 1 (sparesOf s1 x.mac x.column))

/-- A job's operands are read again into a new staging slot: the slot is wiped, the job keeps its context and its place
(19 Table 4). -/
def restage (s : State) (id : Nat) : State :=
  let j := s.job id
  match j.slot with
  | none => s
  | some c =>
    if j.inStaging then
      (freeSlot s id).withJob id (fun j => { j with
        slot := some c, opa := [], opb := [], phase := if j.phase = .ready then .staged else j.phase })
    else s

/-- Work repeated after content that could not be corrected (19 Table 4). -/
def repeatWork (s : State) : SramUse → State
  | .nothing => s
  | .transit => s
  | .context => s
  | .scratch jobs lost => jobs.foldl (fun s id =>
      if (s.job id).phase = .running then (if lost then redispatch s id else rewind s id) else s) s
  | .staging id => restage s id
  | .coreData u =>
    if isSquadUnit u then recoverContext s u
    else if 8 ≤ u then loadProgram (resetCore s u) u
    else if 4 ≤ u then recoverIntake s u
    else s
  | .pairData b =>
    let u := if b then 2 else 0
    if unitPowered s u then
      pairStops ((s.bump gExcLockstepDiverge).event (200 + u) 0x0504 1 (toLE 1 (u / 2) ++ toLE 1 (Config.code 9 (b2n (u == s.verb.duty))))) u
    else s

/-- SRAM_REPAIRED (19 R699 to R702): an error that is due for repair; a uncorrectable one repeats the work that depended on it. -/
def execSramRepaired (spare : Spare) (corrected : Bool) (use : SramUse) (s : State) : Out :=
  if !s.hostSupply then .next s
  else
    let s1 := onlyIf (sparesOf s spare.mac spare.column != 0) (fun s => s.bump gRepairRuntime) (mapSpare s spare)
    if corrected then .next (s1.bump gRepairEccCorrected) else .next (repeatWork s1 use)

/-! ### Measurements (19 R704) -/

/-- The islands that are lost. -/
def lostIslands (s : State) : List Nat := (s.islands.filter (fun e => e.2.state == 3)).map Prod.fst

/-- The values of the DUAL entries: those that stand at other than their default, with their addresses and selectors, and the
credential table. The spec gives the block no layout (log entry 56). -/
def dualValues (s : State) : Bytes :=
  (s.gls.filter (fun e => ((glossRow (e.1 / 65536)).map (fun r => r.acc)) == some .dual)).flatMap (fun e => toLE 8 e.1 ++ toLE 16 e.2) ++
    s.mgmt.creds.flatMap (fun e => toLE 1 e.1 ++ toLE 1 e.2.role ++ fit 97 e.2.key ++ fit 16 e.2.label)

/-- The content of a measurement block (19 Table 6). -/
def measContent (s : State) (k : Nat) : Bytes :=
  let h := runningHeader s
  if k = 1 then Config.checkerVersion ++ Config.identityBank
  else if k = 2 then h ++ toLE 1 (s.gv gFlashSlotRunning)
  else if k = 3 then digestOf h
  else if k = 4 then Config.sramImages (digestOf h)
  else if k = 5 then (List.range 5).flatMap (fun g => bankBytes g (s.guards.get {} g).active)
  else if k = 6 then toLE 2 (s.gv gLifeState) ++ toLE 4 (s.gv gLifeSeq)
  else if k = 7 then toLE 4 (s.gv gRepairSramUsed) ++ (lostIslands s).map (BitVec.ofNat 8)
  else dualValues s

/-- Measurement blocks formed. -/
def measure (s : State) (ks : List Nat) : State :=
  s.withMode (fun m => { m with meas := ks.foldl (fun t k => Tab.set t k (fit 48 (Config.sha384 (measContent s k)))) m.meas })

end Sys2Proof.Machine
end

