-- ==== Sys2Proof/Machine/Lifecycle.lean ====
section
/-! DEFINITION. Lifecycle changes (19 R709 to R713). -/

namespace Sys2Proof.Machine

open Sys2Proof

/-- State codes of life.target (19 Table 7, Table 10). -/
def lifeCode (t : Nat) : Nat := if t = 1 then 0x3CC else if t = 2 then 0xC33 else 0xC3C

/-- The change is one that 19 R710 and 22 R770 permit now. MANUFACTURE to ENROL is made at Olirad alone. -/
def lifeOk (s : State) (t : Nat) : Bool :=
  let from_ := s.gv gLifeState
  let has (r : Nat) : Bool := s.mgmt.creds.any (fun e => e.2.role == r)
  s.life.change.isNone && s.modeNum != 7 &&
    ((from_ == 0x3CC && t == 2 && has 3 && has 4) || (from_ == 0xC33 && t == 1) || ((from_ == 0x3CC || from_ == 0xC33) && t == 3))

/-- PES contents cleared by a lifecycle change (19 Table 8): RWP and DUAL entries but flash.svn.floor, the guard rule set, salts, sets
staged or signed, and on ENROL or RETIRED the credentials. -/
def clearPes (s : State) (target : Nat) : State :=
  let keep (e : Nat × Nat) : Bool :=
    let k := e.1 / 65536
    k == 0x420003 || (match glossRow k with | some r => r.acc != .rwp && r.acc != .dual | none => true)
  let oldJ := s.gv gRngCondJitter
  let s1 : State := { s with gls := s.gls.filter keep, parts := s.parts.mapVals (fun _ x => { x with salt := [] }) }
  let s2 := loseStaged (losePower { s1 with guardSt := { s1.guardSt with pes := [] } })
  let s3 := if target = 0xC33 then s2
    else recheckTok (((s2.mgmt.creds.map Prod.fst).foldl endCredSessions s2).withMgmt (fun m => { m with creds := [] }))
  if oldJ = gRngCondJitter.dflt then s3 else condChanged s3 1 oldJ gRngCondJitter.dflt

/-- Step 3: every slot becomes FREE with its generation advanced, and the PES is cleared (19 R711). -/
def freeAllKeys (s : State) : State := (s.keys.slots.map Prod.fst).foldl freeKey s

/-- Log blocks that hold event records. -/
def keptLogs (s : State) : List Nat := ((s.vault.runs.filter (fun r => r.evr)).map (fun r => r.addr / vBlock)).dedup

/-- Step 4 begins: every run but those of the event recorder is discarded, log blocks without one are unmapped, and the latest 96
minute sets are kept (19 R711). -/
def discardVault (s : State) : State :=
  let kept := keptLogs s
  let isEv (p : VProg) : Bool := match p.src with | .events _ => true | _ => false
  let only (o : Option Nat) : Option Nat := match o with | some n => (if kept.contains n then some n else none) | none => none
  let s1 := s.withVault (fun v => { v with
    runs := v.runs.filter (fun r => r.evr), map := v.map.filter (fun e => kept.contains e.1), victims := [], collecting := false
    gather := v.gather.filter isEv, rgather := []
    banks := v.banks.mapVals (fun _ b => { b with
      prog := b.prog.map (fun l => l.filter isEv), openLog := only b.openLog, openRel := only b.openRel }) })
  s1.withMeter (fun m => { m with vault := m.vault.drop (m.vault.length - 96) })

/-- Steps 2 to 4 (19 R711); on a resumed change the Key Root is already gone, and each step repeats without effect (19 R712). -/
def lifeSteps (s : State) (c : LifeChange) (first : Bool) : State :=
  let s1 := if first || s.tamper.rootHeld then eraseRoot s 0xFF else s
  let s2 := closeAllGap s1
  let s3 := if s2.modeNum = 2 ∨ s2.modeNum = 6 then s2 else enterMode s2 6 true 12
  (discardVault (clearPes (freeAllKeys s3) c.target)).gset gLifeChangeStep 4

/-- The payload of LIFECYCLE_CHANGED (21 Table 4). -/
def lifeRec (s : State) (c : LifeChange) : Bytes :=
  toLE 2 c.source ++ toLE 2 c.target ++ toLE 4 (s.gv gLifeSeq + 1) ++ toLE 4 c.change

/-- A committed lifecycle change begun, step 1: the change record and its event (19 R711). -/
def beginLife (s : State) (t change : Nat) : State :=
  let c : LifeChange := { source := s.gv gLifeState, target := lifeCode t, change := change }
  ((s.withLife (fun l => { l with change := some c })).gset gLifeChangeStep 1).event 229 0x0706 1 (lifeRec s c)

/-- Once LIFECYCLE_CHANGED is durable, a change goes on to steps 2 to 4 (19 R711 step 1, 21 R751). -/
def lifeGoOn (s : State) : State :=
  match s.life.change with
  | none => s
  | some c =>
    let here (r : EvRec) : Bool := r.code == 0x0706 && r.payload == fit 16 (lifeRec s c)
    if s.gv gLifeChangeStep = 1 ∧ (s.evr.founding.any here ∨ s.evr.rolling.any here) then lifeSteps s c true else s

/-- FLASH_PROGRAM_DONE (16 R611, R619, R624): what its page made durable lets a lifecycle change go on. -/
def execFlashProgramDone (bank : Nat) (ok : Bool) (s : State) : Out := .next (lifeGoOn (programDone bank ok s))

/-- Every physical block that is not ERASED, not RETIRED and under no log block is erased (19 R711 step 4). -/
def eraseBlocks (s : State) : State :=
  s.withVault (fun v => { v with
    blocks := v.blocks.mapVals (fun k u =>
      if u.state = 0 ∨ u.state = 5 ∨ v.map.any (fun e => e.2.1 == k || e.2.2 == k) then u
      else { state := 0, count := u.count + 1, lastErase := some s.clock.st })
    banks := v.banks.mapVals (fun _ b => { b with erasing := none }) })

/-- LIFECYCLE_ERASE_COMPLETE (19 R711 steps 4 to 6): the state code becomes the target, the marks are set, and ASSAY is forced; a
change resumed within ASSAY has that ASSAY run its table again. -/
def execLifecycleEraseComplete (s : State) : Out :=
  match s.life.change with
  | none => .next s
  | some c =>
    if s.gv gLifeChangeStep ≠ 4 ∨ (s.modeNum ≠ 6 ∧ (s.modeNum ≠ 2 ∨ !s.mode.assayRun)) then .next s
    else
      let s1 := (serveVaultReads (eraseBlocks s)).gset gLifeState c.target
      let s2 := ((s1.gset gBootRootDue (b2n (c.target != 0xC3C))).bump gLifeSeq).gset gLifeChangeStep 0
      let s3 := (s2.withLife (fun l => { l with change := none, keysDue := true })).withMode (fun m => { m with assayRun := false, serviceAt := none })
      .next (if s.modeNum = 2 then refreshTag s3 else enterMode (abortTrans s3) 2 true 12)

end Sys2Proof.Machine
end

