-- ==== Sys2Proof/Machine/Startup.lean ====
section
/-! DEFINITION. From the backup cell to DORMANT, and ASSAY (19 R690 to R698, R704 to R708). -/

namespace Sys2Proof.Machine

open Sys2Proof

/-! ### From the cell to DORMANT (19 Table 1) -/

/-- Step 3: Sentinel Time restarts at zero when it was lost, and ST_LOST is recorded (17 R655). -/
def checkSt (s : State) : State :=
  if s.clock.stLost then (s.withClock (fun c => { c with st := 0, stLost := false, saveStale := true })).event 243 0x0107 0 [] else s

/-- The Key Root zeroised because a check of it failed: 1 the copies, 2 the check value (20 R729). -/
def rootInvalid (s : State) (check : Nat) : State :=
  ((s.withTamper (fun t => { t with rootHeld := false, root := [], rootInv := [], rootCheck := [] })).gset gLifeRootHeld 0).event 243
    0x0805 1 (toLE 1 check)

/-- The two copies are complements (20 R729). -/
def copiesOk (t : Tamper) : Bool := t.rootInv == t.root.map (~~~ ·)

/-- The POWER_UP record, the first of a power cycle (21 Table 4, 17 R657). -/
def powerUpRec (s : State) : State :=
  let pay := toLE 4 s.clock.pcc ++ toLE 4 0 ++ toLE 8 s.clock.otc ++ toLE 8 s.clock.st ++ toLE 8 (restoreDtb s.clock / 2 ^ 32)
  takeTok (s.withEvr (fun e => { e with aseq := 1 })) 230 (.evt 0x0101 (fit 32 pay))

/-- The certificate of slot 1 for an image: the alias key follows its DIGEST and SVN (19 R705). -/
def aliasOf (h : Bytes) : Nat := leNat (digestOf h ++ toLE 4 (svnOf h))

/-- An image takes the module's Deep Verb pairs: flash.slot.running, IMAGE_SELECTED, certificate slot 1 (16 R599, 19 R705). -/
def runImage (s : State) (k : Nat) : State :=
  let h := imageHeader s k
  let s1 := (s.gset gFlashSlotRunning k).event 208 0x0605 1 (toLE 1 k ++ toLE 4 (svnOf h) ++ toLE 4 (buildOf h))
  (s1.withLink (fun l => { l with slot1 := aliasOf h })).withVerb (fun v => { v with prog := Tab.set (Tab.set v.prog 0 k) 2 k })

/-- Step 5: CFC checks both slots and selects an image; with none the module stays in DORMANT; the recovery image raises an ALERT
(19 R691, R692). -/
def selectImage (s : State) : State :=
  let s1 := s.gset gFlashSlotValid (b2n (slotValid s 0) + 2 * b2n (slotValid s 1))
  match chooseImage s1 with
  | none => (s1.event 208 0x0604 0 []).withMode (fun m => { m with noImage := true })
  | some k =>
    let s2 := runImage (s1.withMode (fun m => { m with noImage := false })) k
    if k = 2 then s2.msixAlert else s2

/-- Units whose erase-intent mark is still set are TORN (16 R615). -/
def resolveMarks (s : State) : State :=
  (s.withCode (fun c => { c with sectors := c.sectors.mapVals (fun _ u => if u.state = 2 ∨ u.state = 3 then { u with state := 4 } else u) })).withVault
    (fun v => { v with blocks := v.blocks.mapVals (fun _ u => if u.state = 2 then { u with state := 4 } else u) })

/-- TAG_BUDGET_SPENT recorded once, at the first power-up that finds the life budget spent (24 R831). -/
def noteBudget (s : State) : State :=
  if budgetSpent s && !s.tag.spentNoted then (s.withTag (fun t => { t with spentNoted := true })).event 235 0x0905 0 [] else s

/-- SUPPLY_ARRIVAL (19 R690, Table 1): the module reaches DORMANT. -/
def execSupplyArrival (rail : Rail) (s : State) : Out :=
  if s.hostSupply then .next s
  else
    let s0 := s.withPower (fun p => match rail with
      | .aux33 => { p with aux33 := true, source := .aux33 }
      | .main12 => { p with main12 := true, source := .main12 })
    let s1 := ((domIsl 1).filter (fun n => n != 202 && n != 203)).foldl (fun s n => s.setIsl n 0) s0
    let s2 := resolveMarks (checkSt (powerUpRec (s1.withClock (fun c => { c with
      pcc := (c.pcc + 1) % 2 ^ 32, otc := c.otcSaved, st := if c.stLost then 0 else c.st, saveStale := c.saveStale || c.stLost }))))
    let s3 := s2.withClock (fun c => { c with dtb := restoreDtb c })
    let s4 := if s3.tamper.rootHeld && !copiesOk s3.tamper then rootInvalid s3 1 else s3
    let s5 := startPath (s4.gset gLifeRootHeld (b2n s4.tamper.rootHeld)) 1
    let s6 := selectImage (s5.withVerb (fun v => { v with duty := 0 }))
    let s7 := sntHandover (resetCore (resetCore s6 0) 2)
    let s8 := handover s7 false
    let s9 := if s8.tamper.tmpLost then (actionRec s8 1 0).withTamper (fun t => { t with tmpLost := false }) else s8
    .next (enterMode (newUid (noteBudget s9)) 1 true 8)

/-! ### ASSAY (19 Table 2) -/

/-- Entries that count since reset, or hold a result of service, at their default again (00 R12). -/
def resetEntries : List Nat :=
  [0x110005, 0x200004, 0x211002, 0x220006, 0x30000B, 0x310006, 0x31000A, 0x330006, 0x340005, 0x340006, 0x341004, 0x341006, 0x350007, 0x36000A,
   0x36000E, 0x400003, 0x400006, 0x400007, 0x402002, 0x402003, 0x410005, 0x410007, 0x120005, 0x120006, 0x112005, 0x130008, 0x501006,
   0x510006, 0x520002, 0x520003, 0x52100A, 0x52100B, 0x54000A, 0x541009]

/-- Every store that the volatile wipe covers, and every register, at reset (00 R12, 19 R695): DRAM, scratch, contexts, staging,
transit, engines, rings, channels, flash queues; a flash operation that runs on tells nobody. Code flash and PES keep their content. -/
def wipeAll (s : State) : State :=
  { s with
    jobs := [], stood := [], rings := [], intake := [], disp := {}
    dma := { chans := (List.range 128).map (fun k => (k + 384, { owner := Config.channelOwner (k + 384) % 4096 })) }
    code := { s.code with queues := [], turn := 0, waits := [] }
    vault := { s.vault with queues := [], turn := 0, waits := [] }
    mem := s.mem.filter (fun c => decide (0x001200000000 ≤ c.1 ∧ c.1 < 0x001200000000 + ctlBase))
    barMem := []
    lanes := { squads := (List.range 32).map (fun q => (q, { failA := (s.squad q).failA, failB := (s.squad q).failB, patrolAt := s.now, period := s.gv gLanePatrolPeriod })) }
    link := { state := if s.link.state = .down ∧ !s.power.perst then .training else s.link.state, width := if s.link.state = .l0 then s.link.width else 0,
              rate := if s.link.state = .l0 then s.link.rate else 0, slot1 := s.link.slot1 }
    parts := s.parts.mapVals (fun _ x => { salt := x.salt })
    meter := { s.meter with md := [] }
    gls := s.gls.filter (fun e => !(resetEntries.contains (e.1 / 65536)))
    mgmt := { s.mgmt with gap := s.mgmt.gap.mapVals (fun _ x => { x with sel := [] }) } }

/-- Cores reset and loaded: both pairs, the Compact Verb cores with their program SRAM and event permit masks (13 R502, R522). -/
def startCores (s : State) : State :=
  let us := [0, 2] ++ (List.range 520).map (· + 4)
  let v : VerbSt := { duty := s.verb.duty, prog := (Tab.set (Tab.set [] 0 (deepSlot s 0)) 2 (deepSlot s 2)) ++
    (List.range 40).map (fun c => (c + 4, s.gv gFlashSlotRunning)) }
  { s with verb := { v with units := us.map (fun u => (u, { tickAt := s.now, tickSlow := tickPart s u, sevMask := BitVec.ofNat 64 (Config.sevPermit (coreNum u)) })) } }

/-- The rule set of an image for a guard. -/
def imageBank (h : Bytes) (g : Nat) : Tab Nat := Config.imageRules (digestOf h) g

/-- The guards load epoch 1 from the PES, or from the running image when it holds none (15 R591). -/
def loadGuards (s : State) : State :=
  let h := runningHeader s
  let set : Tab (Tab Nat) := (List.range 5).map (fun g => (g, if s.guardSt.pes.isEmpty then imageBank h g else s.guardSt.pes.get [] g))
  let s1 : State := { s with
    guards := set.map (fun e => (e.1, { active := e.2, staging := e.2 }))
    guardSt := { s.guardSt with closed := false, copy := set, reload := [] } }
  ((s1.gset gGuardEpoch 1).gset gGuardCommitState 0xFC0).gset gGuardCommitChange 0

/-- Thermal channels start; jitter channels that stayed RETIRED and expanders that failed are tried again (12 R465, R475, R477). -/
def startNoise (s : State) : State :=
  let s1 := startPath s 0
  let s2 := [6, 7].foldl (fun s c =>
    if (s.noise c).stays then startChan (s.withNoise c (fun x => { x with stays := false, retires := [] })) c else s) s1
  [16, 17].foldl (fun s e => if (s.expander e).failed then
      onlyIf (s.gv gRngJstate == 1) (fun s => seed s e) (s.withExp e (fun x => { x with failed := false })) else s) s2

/-- A changeover that power or a lifecycle change cut short: the image is selected anew, the floor is not raised (18 R687). -/
def endChangeover (s : State) : State :=
  match s.mode.changeover with
  | none => s
  | some _ => (selectImage (s.withMode (fun m => { m with changeover := none }))).gset gChangeoverResult 0

/-- The findings of the self-test applied: repairs made, lanes swapped, squads and units declared lost (19 R698, Table 3; 05 R197). -/
def applyReport (s : State) (r : AssayReport) : State :=
  let s1 := r.sramMapped.foldl mapSpare s
  let s2 := r.lanesFailed.foldl (fun s e => if e.1 < 32 ∧ e.2 < 34 then failLane s e.1 (e.2 / 17) (e.2 % 17) else s) s1
  let s3 := (List.range 32).foldl (fun s q =>
    if working (s.squad q).failA < 8 ∨ working (s.squad q).failB < 8 then loseSquad s q 0 else s) s2
  let s4 := (r.sumsFailed.filter (· < 32)).foldl (fun s q => loseSquad (s.withSquad q (fun x => { x with tableOk := false })) q 3) s3
  let s5 := s4.gset gRnsTableFailed ((r.sumsFailed.filter (· < 32)).dedup.foldl (fun a q => a + 2 ^ q) 0)
  let s6 := (r.islandsLost.filter (· < 244)).foldl (fun s n => loseIsland s n 4) s5
  ([0, 2].filter (fun u => 2 ≤ s6.isl (200 + u) ∨ 2 ≤ s6.isl (201 + u))).foldl
    (fun s u => s.withVerb (fun v => { v with out := addUnique u v.out })) s6

/-- Units lost: squads, engines and other islands. -/
def unitsLost (s : State) : Nat :=
  ((List.range 32).filter (fun q => (s.squad q).mode == 2)).length + ((lostIslands s).filter (fun n => decide (128 ≤ n))).length

/-- Step 8: a close that was interrupted is completed, and the minute that the cut interrupted closes with the flag CUT; the meter ring
takes the latest 96 sets of the vault (11 R443, R454, R456). -/
def closeCut (s : State) : State :=
  let fin (s : State) : State := s.meter.closing.foldl (fun s h => setDurable s h (s.meter.closing.drop 1)) s
  let s1 := fin s
  let s2 := match s1.meter.cutAt with
    | some t => fin (closeMinute (s1.withMeter (fun m => { m with cutAt := none })) t (2 ^ 4) s1.noPrivRandom)
    | none => s1
  s2.withMeter (fun m =>
    let l := m.vault.drop (m.vault.length - 96)
    { m with ring := l.foldl (fun t h => Tab.set t (h.seq % 96) h) [], ready := l.foldl (fun t h => Tab.set t (h.seq % 96) h.seq) [] })

/-- The check value of a Key Root (20 R729). -/
def checkOf (root : Bytes) : Bytes := fit 8 (Config.kmac256 root (ascii "VZM7216 KRC") 8 (ascii "KC"))

/-- A Key Root generated when it is due and the privileged path is NORMAL: the mark is cleared, every salt is drawn afresh
(19 R706). -/
def makeRoot (s : State) : State :=
  if s.gv gBootRootDue = 1 ∧ s.gv gRngJstate = 1 then
    let (b, s1) := rngDraw s 1 32
    let s2 := s1.withTamper (fun t => { t with root := b, rootInv := b.map (~~~ ·), rootCheck := checkOf b, rootHeld := true })
    (List.range 1025).foldl newSalt ((s2.gset gLifeRootHeld 1).gset gBootRootDue 0)
  else s

/-- Step 10: the root's check value, then the root and the minute keys that are due (19 R706 to R708, 20 R729). -/
def stepTen (s : State) : State :=
  let s1 := if s.tamper.rootHeld && s.tamper.rootCheck != checkOf s.tamper.root then rootInvalid s 2 else s
  makeMinuteKeys (makeRoot s1)

/-- The auxiliary 12 V is absent (02 R69). -/
def auxAbsent (s : State) : Bool := !s.power.auxGood || s.power.auxConn == .absent

/-- A lifecycle change cut short goes on from step 2 (19 R712). -/
def resumeLife (s : State) : State :=
  match s.life.change with
  | none => s
  | some c => lifeSteps s c false

/-- Domains K and C and the Deep Verb pairs hoisted; every unit is tested (18 R666, 19 Table 2 steps 1, 2). -/
def hoistAll (s : State) : State :=
  let l := domIsl 2 ++ domIsl 3 ++ [200, 201, 202, 203]
  l.foldl (fun s n => if s.isl n ≤ 1 then s else (s.setIsl n (b2n (slowed s.power n))).present n (.mark 3 n)) s

/-- Steps 1 to 10 of ASSAY on a module whose mode is ASSAY. -/
def assaySteps (s : State) (r : AssayReport) (fromDormant : Bool) : State :=
  let s1 := hoistAll s
  let s2 := startNoise (if fromDormant then startTimebase s1 else s1)
  let s3 := endChangeover (wipeAll s2)
  let s4 := (startCores s3).withMode (fun m => { m with
    struckSquads := [], struckEngines := [], serviceAt := none, waiting := none, dramGen := m.dramGen + 1 })
  let s5 := loadGuards (limit60 (s4.gset gModeLeanCause 0) (auxAbsent s4))
  let s6 := rebuildKeys (resumeLife (applyReport s5 r))
  let s7 := (closeCut s6).withMode (fun m => { m with assayRun := true })
  let s8 := stepTen (measure s7 [1, 2, 3, 4, 5, 6, 7, 8])
  let n := unitsLost s8
  reopenMailbox (((s8.gset gBootAssayMs r.durationMs).gset gBootUnitsLost n).gset gBootResult (if n = 0 then 0 else 1))

/-- ASSAY (19 R694): from DORMANT when +12V enters range, or as forced by a lifecycle change; the report is what the self-test found.
Without a valid image the module stays in DORMANT (19 R691). -/
def execAssay (report : AssayReport) (s : State) : Out :=
  if s.modeNum = 1 then
    let s1 := s.withPower (fun p => { p with main12 := true })
    if s.mode.noImage then .next s1 else .next (assaySteps (enterMode s1 2 true 9) report true)
  else if s.modeNum = 2 ∧ s.mode.assayRun = false then .next (assaySteps s report false)
  else .next s

/-- The units that service needs: a squad, an intake core, both DMA engines, a Deep Verb pair (19 R698). -/
def unitsServe (s : State) : Bool :=
  !(squadsUp s).isEmpty && [151, 152, 153, 154].any (fun n => decide (s.isl n ≤ 1)) && decide (s.isl 148 ≤ 1 ∧ s.isl 149 ≤ 1) &&
    (unitPowered s 0 || unitPowered s 2)

/-- Step 11: the mode is entered, minutes run, rings leave HELD (19 Table 2, 11 R442, 04 R154, 22 R773). -/
def leaveAssay (s : State) (m : Nat) : State :=
  let cause := if auxAbsent s then 2 else if m = 4 then 1 else 0
  let s1 := enterMode (if cause = 0 then s else leanOn s cause) m false 10
  let s2 := s1.event 229 0x0705 1 (toLE 1 (s.gv gBootResult) ++ toLE 2 (s.gv gBootUnitsLost) ++ toLE 4 (s.gv gBootAssayMs))
  let s3 := if (s2.part 0).salt.isEmpty then newSalt s2 0 else s2
  let s4 := s3.withMeter (fun x => { x with accepting := true })
  let s5 := if s4.meter.openMin.isNone then openMinute s4 s4.dtbNs (2 ^ 5) else s4
  releaseHeld (reopenMailbox s5)

/-- A change set is approved and not committed, or a guard commit runs (22 R798). -/
def commitsLeft (s : State) : Bool :=
  commitBusy s || s.mgmt.slots.any (fun e => e.2.code == 0xC9A || e.2.code == 0xF0F)

/-- ASSAY_DONE (19 R694, R698, R707): SERVE or LEAN when a Key Root is held, LOCKDOWN when none is and none can be made. -/
def execAssayDone (s : State) : Out :=
  if s.modeNum ≠ 2 ∨ s.mode.assayRun = false ∨ s.power.perst ∨ commitsLeft s then .next s
  else if !unitsServe s then
    .next (if s.gv gBootResult = 2 then s else refreshTag (s.gset gBootResult 2).msixAlert)
  else
    let s1 := stepTen s
    if s1.tamper.rootHeld then .next (leaveAssay s1 (if auxAbsent s1 ∨ s1.gv gModeTarget = 4 then 4 else 3))
    else if s1.gv gBootRootDue = 1 ∧ (s1.noise 6).stays = false ∧ (s1.noise 7).stays = false then .next s1
    else .next (leaveAssay s1 6)

end Sys2Proof.Machine
end

