-- ==== Sys2Proof/Machine/Changeover.lean ====
section
/-! DEFINITION. Changeover to another image slot, and the guards' scrub and drain (15 R580, R585; 18 R680 to R687). -/

namespace Sys2Proof.Machine

open Sys2Proof

/-! ### Units of a changeover (18 Table 9) -/

/-- The core or pair that a unit number names: pairs under 1, 2 and 5, SVC under 6 to 9, INTK under 10 to 13. -/
def unitCore (s : State) (n : Nat) : Nat :=
  if n = 2 then s.verb.duty else if n = 1 ∨ n = 5 then otherPair s.verb.duty else if n < 10 then n + 2 else n - 6

/-- The island that CHANGEOVER_ROLLED_BACK names for a unit. -/
def unitIsland (s : State) (n : Nat) : Nat :=
  if n < 14 then unitIsl (unitCore s n) else sqIsl (n - 14)

/-- A core's image slot set. -/
def setProg (s : State) (core slot : Nat) : State := s.withVerb (fun v => { v with prog := Tab.set v.prog core slot, badWords := v.badWords.erase core })

/-- A core held in reset while it is loaded, and released (18 R682). -/
def holdCore (s : State) (u : Nat) : State := s.withVerb (fun v => { v with testing := addUnique u v.testing })
def releaseCore (s : State) (u : Nat) : State := s.withVerb (fun v => { v with testing := v.testing.filter (· != u) })

/-- A squad chosen for reload admits no new job (06 R266). -/
def drainForReload (s : State) (q : Nat) : State := s.withSquad q (fun x => if x.mode = 0 then { x with mode := 4 } else x)

/-- A unit's reload into a slot begins: its work is handled as its recovery states (18 R682, 14 Table 5). -/
def startUnit (s : State) (n slot : Nat) : State :=
  let u := unitCore s n
  if n ≤ 5 then setProg (testPair s u) u slot
  else if n < 10 then holdCore (setProg (resetCore s u) u slot) u
  else if n < 14 then
    (holdCore (setProg (resetCore (emptyIntake s (u - 4)) u) u slot) u).withIntake (u - 4) (fun i => { i with held := true })
  else drainForReload s (n - 14)

/-- The unit has emptied, so that its reload can end: a squad's residents have left it (06 R266). -/
def unitEmpty (s : State) (n : Nat) : Bool :=
  if n < 14 then true
  else
    let x := s.squad (n - 14)
    x.mode == 4 && x.slots.isEmpty && x.gang.isNone

/-- A unit returns to service on a slot (18 Table 9, 06 R266); of a squad the checksums over its table, recomputed before it returns, have
agreed. -/
def unitBack (s : State) (n slot : Nat) : State :=
  let u := unitCore s n
  if n < 10 then setProg (releaseCore s u) u slot
  else if n < 14 then (setProg (releaseCore s u) u slot).withIntake (u - 4) (fun i => { i with held := false })
  else
    let q := n - 14
    ((List.range 16).foldl (fun s c => resetCore s (12 + 16 * q + c)) (setProg (ownershipWipe s q) (12 + q) slot)).withSquad q (fun x => { x with
      mode := 0, tableOk := true, owned := false })

/-- A unit lost under its own chapter's rule (18 R685). -/
def unitLost (s : State) (n : Nat) : State :=
  let u := unitCore s n
  if n < 10 then (releaseCore s u).withVerb (fun v => { v with out := addUnique u v.out })
  else if n < 14 then loseIsland ((releaseCore s u).withIntake (u - 4) (fun i => { i with held := false })) (unitIsl u) 5
  else loseSquad s (n - 14) 5

/-- The unit is in service. -/
def unitServes (s : State) (n : Nat) : Bool :=
  if n < 14 then unitPowered s (unitCore s n) else (squadsUp s).contains (n - 14)

/-- The standby pair becomes the duty pair and takes LOCKSTEP with DETAIL TAKEOVER (18 Table 9 order 2, 14 R561). -/
def takeOver (s : State) : State :=
  let v := otherPair s.verb.duty
  let s1 := s.withVerb (fun x => { x with duty := v })
  raiseAsync ((s1.bump gExcTakeover).event (200 + v) 0x0505 1 (toLE 1 (v / 2))) v .lockstep

/-- SPDM sessions end and certificate slot 1 is reissued (03 R128, 18 Table 9 order 3). -/
def reissue (s : State) (slot : Nat) : State := s.withLink (fun l => { l with spdm := [], slot1 := aliasOf (imageHeader s slot) })

/-! ### Course of a changeover -/

def setChangeover (s : State) (c : Changeover) : State := s.withMode (fun m => { m with changeover := some c })

/-- The next unit in service at or after a number; 46 when none is left. -/
def nextUnit (s : State) (c : Changeover) (n : Nat) : Nat :=
  let due (k : Nat) : Bool :=
    if k = 4 then Config.imageHasRules (digestOf (imageHeader s c.slot))
    else if k = 5 then c.moved.contains 1 && unitServes s 5
    else unitServes s k
  (((List.range 46).filter (fun k => decide (n ≤ k) && due k)).head?).getD 46

/-- The mode left behind at the end: LOCKDOWN after ERASE-ROOT stays (18 R687). -/
def leaveChangeover (s : State) (left : Nat) : State :=
  let s1 := s.withMode (fun m => { m with changeover := none })
  takeWaiting (if s1.modeNum = 6 then s1 else enterMode s1 (modeBack s1 left) false 11)

/-- Order 9: flash.slot.running is set, the floor raised when it is to be, and MOD leaves CHANGEOVER (18 Table 9). -/
def finishChangeover (s : State) (c : Changeover) : State :=
  let h := imageHeader s c.slot
  let s1 := s.gset gFlashSlotRunning c.slot
  let s2 := if c.raise then s1.gset gFlashSvnFloor (svnOf h) else s1
  let s3 := (s2.gset gChangeoverResult 2).event 229 0x0703 1 (toLE 1 c.slot ++ toLE 4 (svnOf h) ++ toLE 4 (buildOf h))
  leaveChangeover (measure (setProg (setProg s3 0 c.slot) 2 c.slot) [1, 2, 3, 4, 5, 6, 7, 8]) c.left

/-- The guard rule set of the new image committed from step 2 of 15 R585; it waits while another commit runs (18 R681, 15 R583). -/
def startRules (s : State) (c : Changeover) : State :=
  if commitBusy s then setChangeover s { c with rulesDue := true }
  else switchGuards (setChangeover s { c with rulesDue := false })
    ((List.range 5).map (fun g => (g, imageBank (imageHeader s c.slot) g))) c.change

/-- The next unit of Table 9 starts, or the changeover ends. -/
def goOn (s : State) (c : Changeover) (n : Nat) : State :=
  let k := nextUnit s c n
  let c1 := { c with unit := k }
  if 46 ≤ k then finishChangeover s c1
  else if k = 4 then startRules s c1
  else startUnit (setChangeover s c1) k c.slot

/-- A rollback has taken every unit back (18 R685). -/
def finishRollback (s : State) (c : Changeover) : State :=
  leaveChangeover (measure ((s.gset gChangeoverResult 3).event 229 0x0704 1 (toLE 1 c.failed)) [1, 2, 3, 4, 5, 6, 7, 8]) c.left

/-- One unit taken back: the duty pair first hands over to a standby pair on the old image, or restarts when there is none. -/
def startBack (s : State) (c : Changeover) (n : Nat) (rest : List Nat) : State :=
  let n1 := if n = 1 ∧ !standbyUp s then 2 else n
  let s1 := if n1 = 1 then takeOver s else s
  let s2 := if n1 ≤ 2 then reissue s1 c.old else s1
  startUnit (setChangeover s2 { c with unit := n1, back := rest, rolling := true }) n1 c.old

/-- Units already moved are taken back, one at a time, in the reverse of the order of Table 9 (18 R685). -/
def goBack (s : State) (c : Changeover) : List Nat → State
  | [] => finishRollback s c
  | n :: l => if n ≤ 2 ∨ unitServes s n then startBack s c n l else goBack s c l

/-- A unit is on the new image: it counts, and the duty pair's move brings the handover and the SPDM step. -/
def unitMoved (s : State) (c : Changeover) : State :=
  let s1 := (unitBack s c.unit c.slot).gset gChangeoverProgress (s.gv gChangeoverProgress + 1)
  let c1 := { c with moved := c.unit :: c.moved }
  if c.unit = 1 then goOn (reissue (takeOver s1) c.slot) c1 4
  else if c.unit = 2 then goOn (reissue s1 c.slot) c1 4
  else goOn s1 c1 (c.unit + 1)

/-- A unit that fails on the new image and passes on the old one starts the rollback; one that fails on both is lost and the
changeover goes on (18 R685). -/
def unitFailed (s : State) (c : Changeover) (passedOld : Bool) : State :=
  if passedOld then
    let c1 := { c with rolling := true, failed := unitIsland s c.unit }
    goBack (unitBack s c.unit c.old) c1 c.moved
  else
    let s1 := unitLost s c.unit
    if c.unit = 1 then startUnit (setChangeover s1 { c with unit := 2 }) 2 c.slot
    else goOn s1 c (if c.unit = 2 then 4 else c.unit + 1)

/-- A changeover begins: MOD enters CHANGEOVER, and the standby pair, or the duty pair alone, is reset into the new slot (18 R680,
R683). -/
def beginChangeover (s : State) (slot change : Nat) (raise : Bool) : State :=
  let n := if standbyUp s then 1 else 2
  let c : Changeover := { slot := slot, old := s.gv gFlashSlotRunning, change := change, raise := raise, unit := n, left := s.modeNum }
  let s1 := ((setChangeover s c).gset gChangeoverResult 1).gset gChangeoverProgress 0
  startUnit (enterMode s1 5 false 11) n slot

/-- CHANGEOVER_UNIT_DONE (18 R682, R685): the unit in hand has been loaded and tested; the operands say whether it passed on the new
image, and on the old one when it was loaded with that. A squad's test is the three sums of 05 R196 recomputed from its table (05 R197,
06 R266). -/
def execChangeoverUnitDone (passedNew passedOld : Bool) (s : State) : Out :=
  match s.mode.changeover with
  | none => .next s
  | some c =>
    if (s.modeNum ≠ 5 ∧ s.modeNum ≠ 6) ∨ c.unit = 4 then .next s
    else if c.unit ≥ 14 ∧ !unitServes s c.unit then .next (if c.rolling then goBack s c c.back else goOn s c (c.unit + 1))
    else if !unitEmpty s c.unit then .next (if c.unit ≥ 14 then drainForReload s (c.unit - 14) else s)
    else if c.rolling then
      .next (goBack (if passedOld then unitBack s c.unit c.old else unitLost s c.unit) c c.back)
    else if passedNew then .next (unitMoved s c)
    else .next (unitFailed s c passedOld)

/-! ### Guards (15 R580, R585) -/

/-- A slot found wrong: GUARD_INTEGRITY recorded and counted by the tamper aggregator; its bank is to be reloaded (15 R580). -/
def guardBad (s : State) (g slot kind : Nat) : State :=
  if (s.guards.get {} g).bad.contains slot then s
  else
    let s1 := (s.withGuard g (fun x => { x with bad := addUnique slot x.bad })).bump gGuardIntegrityFail
    let s2 : State := { s1 with guardSt := { s1.guardSt with reload := addUnique g s1.guardSt.reload } }
    let s3 := s2.event (guardIsl g) 0x0502 1 (toLE 1 g ++ toLE 2 slot ++ toLE 1 (Config.code 12 kind))
    if s3.tamper.sntRuns then s3 else countEvent s3 20 g

/-- A guard's bank is active: after the first rule set, with its island's power (15 R590, R591). -/
def guardActive (s : State) (g : Nat) : Bool := decide (g < 5) && !s.guardSt.closed && (s.mainUp || (decide (3 ≤ g) && s.hostSupply))

/-- GUARD_SCRUB (15 R580): single-bit errors are corrected in place and recorded (03 R134; log entry 149); double-bit errors, overlaps and
slots against the rules raise GUARD_INTEGRITY. -/
def execGuardScrub (g : Nat) (errors : List ScrubError) (s : State) : Out :=
  if !guardActive s g then .next s
  else
    let s1 := errors.foldl (fun s e => match e with
      | .single n => if n < guardSlots g then s.event (guardIsl g) 0x0502 1 (toLE 1 g ++ toLE 2 n ++ toLE 1 (Config.code 12 2)) else s
      | .double n => if n < guardSlots g then guardBad s g n 0 else s) s
    .next ((runtimeBad g (s.guards.get {} g)).foldl (fun s n => guardBad s g n 1) s1)

/-- The set whose guard records have drained becomes FREE with final status OK (22 R797). -/
def freeDrained (s : State) : State :=
  match (s.mgmt.slots.find? (fun e => e.2.code == 0xF0F)).map Prod.fst with
  | some k => freeSet s k 0 0
  | none => s

/-- The drain of a switch is over: the epoch rises, the change set is FREE, and a changeover goes on (15 R585 step 6). -/
def drained (s : State) : State :=
  let s1 := measure (freeDrained (endDrain s)) [5]
  match s1.mode.changeover with
  | some c =>
    if c.unit ≠ 4 ∨ c.rolling then s1
    else if c.rulesDue then startRules s1 c
    else goOn s1 c 5
  | none => s1

/-- An accepted flash descriptor of the old epoch is not complete: the drain waits for it (15 R588, 16 R605). -/
def oldFlash (s : State) : Bool :=
  let e := s.gv gGuardEpoch
  s.code.banks.any (fun b => decide (b.2.epoch ≤ e)) || (s.code.waits ++ s.vault.waits).any (fun w => decide (w.epoch ≤ e)) ||
    (vPrograms s).any (fun p => match p.src with | .desc _ n _ => decide (n ≤ e) | _ => false)

/-- GUARD_DRAIN_DONE (15 R580, R585, R588): no access of the old epoch remains; banks that failed their check are reloaded. -/
def execGuardDrainDone (s : State) : Out :=
  if s.gv gGuardCommitState = 0x30F && !oldFlash s then .next (reloadGuards (drained s)) else .next (reloadGuards s)

end Sys2Proof.Machine
end

