-- ==== Sys2Proof/Machine/Commit.lean ====
section
/-! DEFINITION. Commit of an approved change set (22 R797, R798). -/

namespace Sys2Proof.Machine

open Sys2Proof

def CsRec.key (r : CsRec) : Nat := r.idx * 256 + r.sub
def CsRec.sel (r : CsRec) : Nat := if r.selA = 0xFFFF then 0 else r.selA

/-- The set covers an entry. -/
def setHas (l : List CsRec) (key : Nat) : Bool := l.any (fun r => r.key == key)

/-! ### The credential table that a set leaves (22 R768, R771) -/

/-- A key of octets that are all zero is none. -/
def noKey (k : Bytes) : Bool := k.all (· == 0)

/-- One credential entry set: a new key brings its counter to zero. -/
def credSet (c : Cred) (sub : Nat) (v : Bytes) : Cred :=
  if sub = 1 then { c with role := leNat v }
  else if sub = 2 then (if (noKey c.key && noKey v) || c.key == v then c else { c with key := if noKey v then [] else v, counter := 0 })
  else { c with label := v }

/-- Every credential record of a set applied. -/
def credsAfter (creds : Tab Cred) (l : List CsRec) : Tab Cred :=
  (l.filter (fun r => credKeys r.key)).foldl (fun t r => t.upd {} r.sel (fun c => credSet c r.sub r.value)) creds

/-- A key stands in two slots (22 R768). -/
def credsClash (creds : Tab Cred) : Bool :=
  creds.any (fun e => !noKey e.2.key && creds.any (fun f => f.1 != e.1 && f.2.key == e.2.key))

/-- Role or key of a slot differ. -/
def credDiffers (a b : Cred) : Bool := a.role != b.role || a.key != b.key

/-- The table replaced: sessions that rest on a slot whose role or key changed end, and cards and badges are matched anew (22 R771, 23
R808). -/
def setCreds (s : State) (t : Tab Cred) : State :=
  let ch := (List.range 32).filter (fun k => credDiffers (s.cred k) (t.get {} k))
  let s1 := ch.foldl endCredSessions (s.withMgmt (fun m => { m with creds := t }))
  if ch.isEmpty then s1 else recheckTok s1

/-! ### Checks before any effect (22 R797) -/

/-- The bank of a guard record keeps 15 R570 and R579. -/
def bankStatus (g : Nat) (v : Bytes) : Nat :=
  let b := bankOfBytes g v
  if b.any (fun e => !ruleOk g e.2) then 0x3012 else if !bankOk b then 0x3013 else 0

/-- The conditions of a changeover (18 R680). -/
def changeoverStatus (s : State) (l : List CsRec) (v : Bytes) : Nat :=
  let slot := leNat (v.take 1)
  let h := v.drop 4
  if slot = s.gv gFlashSlotRunning ∨ !slotValid s slot ∨ imageHeader s slot ≠ h ∨ !newerImage h (runningHeader s) then 0x7012
  else if (s.modeNum ≠ 3 ∧ s.modeNum ≠ 4 ∧ s.modeNum ≠ 6) ∨ s.mode.trans.isSome ∨ s.mode.changeover.isSome ∨ setHas l 0x110009 then 0x7011
  else 0

/-- The conditions of SERVICE (18 Table 8, R675). -/
def serviceStatus (s : State) (l : List CsRec) : Nat :=
  if (s.modeNum ≠ 3 ∧ s.modeNum ≠ 4 ∧ s.modeNum ≠ 6) ∨ s.mode.trans.isSome ∨ s.mode.changeover.isSome ∨ setHas l 0x110101 then 0x7011 else 0

/-- Length that a record's value must have (22 Table 2 check 5, R790). -/
def recLen (r : CsRec) (row : GRow) : Nat :=
  if r.key = 0x411004 then 16 * guardSlots r.selA else if r.key = 0x110101 then 132 else row.ty.size

/-- A record checked again: 0, or the code of its first failure (22 R797). -/
def recStatus (s : State) (l : List CsRec) (r : CsRec) : Nat :=
  match glossRow r.key with
  | none => 0x7021
  | some row =>
    if r.value.length ≠ recLen r row ∨ !inRangeAt r.sel row (if r.key = 0x110101 then r.value.take 1 else r.value) then 0x7022
    else if r.key = 0x411004 then bankStatus r.selA r.value
    else if r.key = 0x110101 then changeoverStatus s l r.value
    else if r.key = 0x110009 then serviceStatus s l
    else if r.key = 0x100004 then (if lifeOk s (leNat r.value) && !setHas l 0x110009 then 0 else 0x7013)
    else 0

/-- The code of the first failure of a set; 0 when every check passes. -/
def setStatus (s : State) (l : List CsRec) : Nat :=
  match (l.map (recStatus s l)).find? (· != 0) with
  | some c => c
  | none => if setHas l 0x525002 && credsClash (credsAfter s.mgmt.creds l) then 0x7025 else 0

/-! ### Effects -/

/-- A record that starts an action, and changes no stored value by itself. -/
def isAction (key : Nat) : Bool :=
  key == 0x110009 || key == 0x331005 || key == 0x411004 || credKeys key

/-- A value takes effect; a conditioner change restarts its channels (12 R466). -/
def applyValue (s : State) (r : CsRec) : State :=
  if isAction r.key then s
  else
    let v := leNat (if r.key = 0x110101 then r.value.take 1 else r.value)
    let s1 : State := { s with gls := s.gls.set (r.key * 65536 + r.sel) v }
    if r.key = 0x360004 then condChanged s1 0 (s.gv gRngCondThermal) v
    else if r.key = 0x360005 then condChanged s1 1 (s.gv gRngCondJitter) v
    else s1

/-- A purge under the Glossary (09 R370); one that runs already is not begun again. -/
def glossPurge (s : State) (p : Nat) : State := if (s.keys.purges.find p).isSome then s else (beginPurge s p none).2

/-- An action starts under its chapter. -/
def applyAction (id : Nat) (s : State) (r : CsRec) : State :=
  if r.key = 0x331005 then glossPurge s r.sel
  else if r.key = 0x110009 then enterService s
  else if r.key = 0x110101 then beginChangeover s (leNat (r.value.take 1)) id (leNat ((r.value.drop 1).take 1) == 1)
  else s

/-- Guard records of a set, as banks. -/
def setRules (l : List CsRec) : Tab (Tab Nat) :=
  (l.filter (fun r => r.key == 0x411004)).foldl (fun t r => Tab.set t r.selA (bankOfBytes r.selA r.value)) []

/-- What every record of a set does at the stamp of its token (22 R797). -/
def applySet (s : State) (x : ChangeSet) : State :=
  let l := x.recs
  let s1 := (s.present 199 (.mark 5 x.id)).bump gConfigEpoch
  let s2 := l.foldl applyValue s1
  let s3 := if l.any (fun r => credKeys r.key) then setCreds s2 (credsAfter s2.mgmt.creds l) else s2
  let s4 := if (setRules l).isEmpty then s3 else switchGuards s3 (setRules l) x.id
  let s5 := l.foldl (applyAction x.id) s4
  match l.find? (fun r => r.key == 0x100004) with
  | some r => beginLife s5 (leNat r.value) x.id
  | none => s5

/-- The approved set that commits next: the first in order of approval; one that the power cut short in COMMITTING goes first (22
R797, R798). -/
def nextSet (s : State) : Option Nat :=
  ((s.mgmt.slots.filter (fun e => e.2.code == 0xC9A || e.2.code == 0xF0F)).foldl (fun (acc : Option (Nat × Nat)) e =>
    match acc with
    | some (_, o) => if e.2.order < o then some (e.1, e.2.order) else acc
    | none => some (e.1, e.2.order)) none).map Prod.fst

/-- Approved sets commit while the module serves and, in ASSAY, after step 8 of start-up; one commit at a time (22 R797, R798, 15
R583). -/
def mayCommit (s : State) : Bool := s.mainUp && (s.modeNum != 2 || s.mode.assayRun) && !commitBusy s

/-- CS_COMMIT (22 R797). -/
def execCsCommit (s : State) : Out :=
  if !mayCommit s then .next s
  else match nextSet s with
    | none => .next s
    | some k =>
      let x := s.cset k
      let st := setStatus s x.recs
      if st ≠ 0 then .next (freeSet (if st = 0x3013 then s.bump gGuardOverlapRefused else s) k st 0)
      else
        let s1 := s.withMgmt (fun m => { m with slots := Tab.set m.slots k { x with code := 0xF0F } })
        let s2 := applySet s1 x
        .next (if (setRules x.recs).isEmpty then freeSet s2 k 0 0 else s2)

end Sys2Proof.Machine
end

