-- ==== Sys2Proof/Machine/Minutes.lean ====
section
/-! DEFINITION. What follows the close of a minute: the durable set and the deliveries to tenants (11 R454 to R461, R853). -/

namespace Sys2Proof.Machine

open Sys2Proof

/-- MINUTE_SET_DURABLE (11 R454 steps 3 to 5, R461): the oldest closed set becomes durable and READY. -/
def execMinuteSetDurable (s : State) : Out :=
  match s.meter.closing with
  | [] => .next s
  | h :: rest => if s.mainUp then .next (setDurable s h rest) else .next s

/-- A VF's delivery block changed. -/
def State.withMd (s : State) (vf : Nat) (f : MdBlock → MdBlock) : State :=
  s.withMeter (fun m => { m with md := m.md.upd {} vf f })

/-- A failed delivery recorded; it is not retried (11 R460). -/
def deliveryFailed (s : State) (vf code : Nat) : State :=
  (s.withMd vf (fun b => { b with fault := true, code := code })).bump gTallyDeliveryFail

/-- One package delivered: SEAL zero, the package, its read-back, then SEAL with the MINUTE_SEQ, MD_LAST and the vector
(11 R458 to R460); `ok` says that the read-backs succeed. -/
def deliverOne (s : State) (vf seq : Nat) (ok : Bool) : State :=
  let a := (s.meter.md.get {} vf).base + seq % 2 * 0x2000
  match findSet s seq with
  | none => s
  | some h =>
    if !rangeOk s vf a 0x2000 true then deliveryFailed s vf 0x3002
    else
      let s1 := s.hostWrite vf a (packageBytes h vf ++ zeros 8)
      if !ok then deliveryFailed s1 vf 0x3003
      else ((s1.hostWrite vf (a + 0x1FF8) (toLE 8 seq)).withMd vf (fun b => { b with last := seq })).msix vf (s.gvs gPartitionEventVector vf)

/-- A data-class channel can be lent to a partition for a transfer (10 R382). -/
def canLend (s : State) (p : Nat) : Bool := (freeChannel s).isSome && decide (chansOf s p < s.gv gDmaPartitionChannels)

/-- The oldest delivery that is due to a VF is made, through a data-class channel lent to it, while the link is in L0 (11 R459, R853). -/
def deliverDue (s : State) (vf : Nat) (ok : Bool) : State :=
  match (s.meter.md.get {} vf).due with
  | [] => s
  | seq :: rest =>
    if s.link.state = .l0 ∧ s.meter.accepting ∧ canLend s vf then deliverOne (s.withMd vf (fun b => { b with due := rest })) vf seq ok else s

/-- MINUTE_DELIVERY (11 R459, R460). -/
def execMinuteDelivery (vf : Nat) (ok : Bool) (s : State) : Out := .next (deliverDue s vf ok)

/-- Every waiting delivery of a VF, in MINUTE_SEQ order (11 R853). -/
def deliverAll (s : State) (vf : Nat) : State :=
  (s.meter.md.get {} vf).due.foldl (fun s _ => deliverDue s vf true) s

end Sys2Proof.Machine
end

