-- ==== Sys2Proof/WellFormed.lean ====
section
/-! DEFINITION. Which commands are well formed: every operand in the range that the spec gives its field. A command outside these
ranges is none that the block can be sent. -/

namespace Sys2Proof

/-- Byte limit of one frame or message that carries a value (22 R763, R773): an 8-byte head and up to 2,040 bytes. -/
def valueMax : Nat := 2040

/-- A unit of the Verb cores: a Deep Verb pair under 0 or 2, INTK and SVC cores 4 to 11, contexts of squads 12 to 523 (13 Table 1,
R522). -/
def unitOk (u : Nat) : Bool := u == 0 || u == 2 || (decide (4 ≤ u) && decide (u < 524))

/-- A context of a squad (13 R522): the units whose cores have class LANE. -/
def contextOk (u : Nat) : Bool := decide (12 ≤ u) && decide (u < 524)

/-- A VF (03 Table 1). -/
def vfOk (v : Nat) : Bool := decide (1 ≤ v) && decide (v ≤ 1024)

/-- A negotiated link: width x16, x8, x4, x2 or x1, rate in GT/s, 2.5 shown as 2 (03 Table 1). -/
def linkOk (w r : Nat) : Bool := [1, 2, 4, 8, 16].contains w && [2, 5, 8, 16, 32, 64, 128].contains r

/-- A partition: PF0 or a VF (03 R93). -/
def partOk (p : Nat) : Bool := decide (p ≤ 1024)

/-- One of a partition's 8 rings (03 Tables 3, 4). -/
def ringOk (p r : Nat) : Bool := partOk p && decide (r < 8)

/-- Prefix words: no more than 3 (13 R511). -/
def preOk (pre : List (BitVec 12)) : Bool := decide (pre.length ≤ 3)

/-- The size in bytes of an access of a register space (03 R88, 13 R504). -/
def sizeOk (n : Nat) : Bool := n == 1 || n == 2 || n == 4 || n == 8

/-- A DMA channel (10 R382). -/
def chanOk (c : Nat) : Bool := decide (c < 512)

/-- A descriptor queue (10 R382, 16 R601). -/
def QueueRef.wf : QueueRef → Bool
  | .dma c => chanOk c
  | .code q => decide (q < 4)
  | .vault q => decide (q < 16)

/-- A read of host memory by a channel (03 R131). -/
def ReadRef.wf : ReadRef → Bool
  | .job _ => true
  | .channel c _ => chanOk c

/-- A transfer by a channel (10 R395). -/
def XferRef.wf : XferRef → Bool
  | .job _ => true
  | .channel c => chanOk c

/-- A session: one of 8 of GAP under its number, or the mailbox (22 R764, R784). -/
def SessId.wf : SessId → Bool
  | .mailbox => true
  | .gap n => decide (1 ≤ n) && decide (n ≤ 65535)

/-- A register space: a function and BAR, or a master identity of 12 bits (03 R95, 15 R572). -/
def RegSpace.wf : RegSpace → Bool
  | .bar fn b => partOk fn && decide (b < 6)
  | .compute m => decide (m < 4096)
  | .control m => decide (m < 4096)
  | .config => true

/-- A DOE object: an index of one byte (03 R125). -/
def DoeKind.wf : DoeKind → Bool
  | .discovery n => decide (n < 256)
  | .spdm => true
  | .securedSpdm => true
  | .unknown => true

/-- A request of the SPDM responder (03 R126). -/
def SpdmReq.wf : SpdmReq → Bool
  | .getVersion => true
  | .getCapabilities => true
  | .negotiateAlgorithms a h d e => decide (a < 2 ^ 32) && decide (h < 2 ^ 32) && decide (d < 65536) && decide (e < 65536)
  | .keyExchange => true
  | .endSession n => decide (n < 2 ^ 32)
  | .heartbeat n => decide (n < 2 ^ 32)
  | .getCertificate n => decide (n < 8)
  | .challenge n => decide (n < 8)
  | .getMeasurements => true
  | .startInterface v => vfOk v
  | .getInterfaceReport v => vfOk v
  | .getInterfaceState v => vfOk v
  | .unsupported => true

/-- A spare: an island of Table 1 of file 17. -/
def Spare.wf (x : Spare) : Bool := decide (x.island < 244)

/-- A use of an SRAM: the unit named exists. -/
def SramUse.wf : SramUse → Bool
  | .nothing => true
  | .scratch _ _ => true
  | .staging _ => true
  | .transit => true
  | .context => true
  | .coreData u => decide (4 ≤ u) && decide (u < 12)
  | .pairData _ => true

/-- A report of the self-test: islands, lanes and squads that exist. -/
def AssayReport.wf (r : AssayReport) : Bool :=
  r.islandsLost.all (fun n => decide (n < 244)) && r.lanesFailed.all (fun p => decide (p.1 < 32) && decide (p.2 < 34)) &&
    r.sumsFailed.all (fun q => decide (q < 32)) && r.sramMapped.all Spare.wf

/-- A slot of a guard that scrubbing found in error: a guard has at most 512 (15 Table 1). -/
def ScrubError.wf : ScrubError → Bool
  | .single n => decide (n < 512)
  | .double n => decide (n < 512)

/-- An event that the fabric presents to a core: a line of 64, a supervisor code of 8 bits (14 Table 1). -/
def AsyncEvent.wf : AsyncEvent → Bool
  | .device n => decide (n < 64)
  | .supervisor c => decide (c < 256)
  | .lockstep => true

/-- An agent's answer: one byte of DELAY or of REFUSE reason (18 Table 5). -/
def AgentReply.wf : AgentReply → Bool
  | .accept => true
  | .delay n => decide (n < 256)
  | .refuse r => decide (r < 256)

/-- A reply of a card: status word of 16 bits (23 Table 3). -/
def CardReply.wf : CardReply → Bool
  | .atr _ _ _ f c i b w _ => decide (f < 256 ∧ c < 4 ∧ 0 < i ∧ i < 255 ∧ b < 10 ∧ w < 16)
  | .pps _ => true
  | .ifs => true
  | .resp sw d => decide (sw < 65536) && decide (d.length ≤ 256)
  | .badBlock => true
  | .resynch => true

/-- A reply of a badge: UIDs of 4, 7 or 10 bytes (24 R822). -/
def BadgeReply.wf : BadgeReply → Bool
  | .atqa => true
  | .collision l => decide (l.length < 80)
  | .uid u => u.length == 4 || u.length == 7 || u.length == 10
  | .sak => true
  | .ats k f => (k == 106 || k == 212 || k == 424 || k == 848) && decide (f < 16)
  | .pps => true
  | .resp sw d => decide (sw < 65536) && decide (d.length ≤ 256)
  | .badBlock => true
  | .wtx n => decide (n < 65536)

/-- A frame of the management segment: a session number and a 64-bit sequence number (22 R783, R784). -/
def FrameKind.wf : FrameKind → Bool
  | .neighborSolicitation => true
  | .echoRequest => true
  | .gapProtected n q _ m => decide (n < 65536) && decide (q < 2 ^ 64) && decide (m.length ≤ 1424)
  | .foreign => true

/-- Which commands are well formed. -/
def Instr.wf : Instr → Bool
  | .supplyArrival _ => true
  | .assay report => report.wf
  | .assayDone => true
  | .cut => true
  | .suppliesLost => true
  | .auxPowerLoss => true
  | .auxPowerReturn => true
  | .conventionalReset => true
  | .perstDeasserted => true
  | .linkRecovery width rate => linkOk width rate
  | .linkReturnL0 width rate => linkOk width rate
  | .functionLevelReset vf => vfOk vf
  | .vfEnableClear => true
  | .vfEnableSet => true
  | .numvfsWrite n => decide (n < 65536)
  | .d3hotEntry => true
  | .d3hotExit => true
  | .barAccessDropped fn _ size _ => partOk fn && decide (size ≤ 4096)
  | .poisonedWrite fn bar _ => partOk fn && decide (bar < 6)
  | .registerWrite space _ size _ => space.wf && sizeOk size
  | .proxyDoorbell vf ring _ _ => vfOk vf && ringOk vf ring
  | .ideKm stream set lo hi keyOut keyIn => decide (stream ≤ 64) && decide (set ≤ 1) && decide (lo ≤ hi) && decide (hi ≤ 1024) && keyOut.length == 32 && keyIn.length == 32
  | .kSetGo stream set => decide (stream ≤ 64) && decide (set ≤ 1)
  | .ideStreamInsecure stream => decide (stream ≤ 64)
  | .tlpIntegrityFail stream fn => decide (stream ≤ 64) && partOk fn
  | .lockInterface vf => vfOk vf
  | .stopInterface vf => vfOk vf
  | .tdiFrozenChange vf => vfOk vf
  | .doeObject kind _ => kind.wf
  | .spdmMessage req => req.wf
  | .ptmRequest => true
  | .ptmResponse _ => true
  | .ptmAbandon => true
  | .holdoverEntry => true
  | .holdoverExpiry => true
  | .hostReadError who => who.wf
  | .completionTimeout who => who.wf
  | .readAbandoned who => who.wf
  | .windowSet _ _ => true
  | .windowSetDone _ => true
  | .windowGet _ => true
  | .partitionInfo _ => true
  | .timeGet _ => true
  | .fence _ => true
  | .fenceDone _ => true
  | .quiesce _ _ => true
  | .quiesceDone _ => true
  | .resume _ _ => true
  | .timeSet _ _ _ => true
  | .timeSetDone _ => true
  | .ringEnable part ring => ringOk part ring
  | .ringDisable part ring => ringOk part ring
  | .ringAbort part ring => ringOk part ring
  | .ringDrained part ring => ringOk part ring
  | .sqDb part ring _ => ringOk part ring
  | .cqDb part ring _ => ringOk part ring
  | .intakeVisit core => decide (core < 4)
  | .descriptorArrival core _ => decide (core < 4)
  | .descriptorReadFailed core => decide (core < 4)
  | .contextFreed => true
  | .stagingReadDone _ _ _ => true
  | .stagingWipeDone pool => decide (pool.core < 4)
  | .rngWaitEnd _ => true
  | .dispatch squad _ _ => decide (squad < 32)
  | .gangSliceStart _ => true
  | .modadd _ => true
  | .modmul _ => true
  | .modexp _ => true
  | .modinv _ => true
  | .rsaPrivate _ => true
  | .rsaPublic _ => true
  | .rsaSignV15 _ => true
  | .rsaSignPss _ => true
  | .rsaVerifyV15 _ => true
  | .rsaVerifyPss _ => true
  | .rsaEncryptOaep _ => true
  | .rsaDecryptOaep _ => true
  | .rsaKeygen _ => true
  | .ecdsaSign _ => true
  | .ecdsaVerify _ => true
  | .ecdh _ => true
  | .eddsaSign _ => true
  | .eddsaVerify _ => true
  | .xdh _ => true
  | .ecKeygen _ => true
  | .mlkemEncaps _ => true
  | .mlkemDecaps _ => true
  | .mldsaSign _ => true
  | .mldsaVerify _ => true
  | .mlkemKeygen _ => true
  | .mldsaKeygen _ => true
  | .keyGenSym _ => true
  | .keyImport _ => true
  | .keyExport _ => true
  | .keyDestroy _ => true
  | .destroyComplete slot => decide (slot < 2097152)
  | .keyInfo _ => true
  | .keyRestrict _ => true
  | .restrictDone _ => true
  | .keyPurge _ => true
  | .purgeWipe part => partOk part
  | .commitService => true
  | .useCountPage => true
  | .keyCacheFill slot _ _ => decide (slot < 2097152)
  | .streamSeal _ _ _ => true
  | .streamOpen _ _ _ => true
  | .streamBind => true
  | .streamSegment engine _ => decide (engine < 12)
  | .randomBytes _ => true
  | .channelGrant => true
  | .channelEnable ch _ => chanOk ch
  | .channelAbort ch => chanOk ch
  | .qTail queue value => queue.wf && decide (value < 2 ^ 32)
  | .copy ch _ => chanOk ch
  | .fill ch => chanOk ch
  | .compareConst ch _ => chanOk ch
  | .compareBuf ch _ => chanOk ch
  | .readBackDone who _ => who.wf
  | .minuteClose => true
  | .minuteSetDurable => true
  | .minuteDelivery vf _ => vfOk vf
  | .rngRetired chan test => decide (chan < 8) && decide (1 ≤ test ∧ test ≤ 3)
  | .channelRestart chan => decide (chan < 8)
  | .startTimeout chan => decide (chan < 8)
  | .reseed expander => decide (expander < 18)
  | .rngDataLo unit => unitOk unit
  | .rngDataHi unit => unitOk unit
  | .rngJdataLo unit => unitOk unit
  | .rngJdataHi unit => unitOk unit
  | .rngHoldExpiry _ => true
  | .rngKatRun which _ => decide (1 ≤ which ∧ which ≤ 3)
  | .rnsSelftestRun squad => decide (squad < 32)
  | .patrolTest squad _ _ => decide (squad < 32)
  | .nop u => unitOk u
  | .wfe u => unitOk u
  | .waitc u _ => unitOk u
  | .waitWake u => unitOk u
  | .retg u => unitOk u
  | .retx u => unitOk u
  | .verbFence u => unitOk u
  | .brk u => unitOk u
  | .ems u => unitOk u
  | .emc u => unitOk u
  | .gate u _ => unitOk u
  | .sev u _ _ => unitOk u
  | .mfs u _ _ => unitOk u
  | .mts u _ _ => unitOk u
  | .movad u _ _ => unitOk u
  | .movda u _ _ => unitOk u
  | .movaa u _ _ => unitOk u
  | .jmp u _ => unitOk u
  | .jsr u _ => unitOk u
  | .adda u _ _ => unitOk u
  | .addaa u _ _ => unitOk u
  | .cmpa u _ _ => unitOk u
  | .addai u pre _ _ => unitOk u && preOk pre
  | .mov u _ _ => unitOk u
  | .add u _ _ => unitOk u
  | .adc u _ _ => unitOk u
  | .sub u _ _ => unitOk u
  | .sbc u _ _ => unitOk u
  | .cmp u _ _ => unitOk u
  | .and u _ _ => unitOk u
  | .or u _ _ => unitOk u
  | .xor u _ _ => unitOk u
  | .andn u _ _ => unitOk u
  | .tst u _ _ => unitOk u
  | .neg u _ _ => unitOk u
  | .not u _ _ => unitOk u
  | .shl u _ _ => unitOk u
  | .shr u _ _ => unitOk u
  | .sar u _ _ => unitOk u
  | .ror u _ _ => unitOk u
  | .mul u _ _ => unitOk u
  | .mulhu u _ _ => unitOk u
  | .mulhs u _ _ => unitOk u
  | .minu u _ _ => unitOk u
  | .maxu u _ _ => unitOk u
  | .mins u _ _ => unitOk u
  | .maxs u _ _ => unitOk u
  | .clz u _ _ => unitOk u
  | .popc u _ _ => unitOk u
  | .bswap u _ _ => unitOk u
  | .cmovz u _ _ => unitOk u
  | .cmovc u _ _ => unitOk u
  | .sxb u _ _ => unitOk u
  | .sxh u _ _ => unitOk u
  | .movi u pre _ _ => unitOk u && preOk pre
  | .addi u pre _ _ => unitOk u && preOk pre
  | .cmpi u pre _ _ => unitOk u && preOk pre
  | .andi u pre _ _ => unitOk u && preOk pre
  | .ori u pre _ _ => unitOk u && preOk pre
  | .xori u pre _ _ => unitOk u && preOk pre
  | .shli u _ _ => unitOk u
  | .shri u _ _ => unitOk u
  | .ldb u pre _ _ _ => unitOk u && preOk pre
  | .ldh u pre _ _ _ => unitOk u && preOk pre
  | .ldw u pre _ _ _ => unitOk u && preOk pre
  | .lda u pre _ _ _ => unitOk u && preOk pre
  | .stb u pre _ _ _ => unitOk u && preOk pre
  | .sth u pre _ _ _ => unitOk u && preOk pre
  | .stw u pre _ _ _ => unitOk u && preOk pre
  | .sta u pre _ _ _ => unitOk u && preOk pre
  | .branch u pre _ _ => unitOk u && preOk pre
  | .call u pre _ => unitOk u && preOk pre
  | .macu u _ _ _ => unitOk u
  | .macs u _ _ _ => unitOk u
  | .mulu u _ _ _ => unitOk u
  | .mql u _ _ => unitOk u
  | .mqh u _ _ => unitOk u
  | .mqg u _ _ => unitOk u
  | .mdql u _ _ => unitOk u
  | .mdqh u _ _ => unitOk u
  | .mdqg u _ _ => unitOk u
  | .shrq u _ _ => unitOk u
  | .shlq u _ _ => unitOk u
  | .lmont u _ _ _ => contextOk u
  | .ladd u _ _ => contextOk u
  | .lsub u _ _ => contextOk u
  | .lmov u _ _ => contextOk u
  | .lconv u _ _ => contextOk u
  | .lsettle u _ _ _ => contextOk u
  | .lld u _ _ => contextOk u
  | .lst u _ _ => contextOk u
  | .lsetup u _ _ => contextOk u
  | .nmul u _ _ _ => contextOk u
  | .nadd u _ _ _ => contextOk u
  | .nsub u _ _ _ => contextOk u
  | .nbfct u _ _ _ => contextOk u
  | .nbfgs u _ _ _ => contextOk u
  | .lqn u _ _ => contextOk u
  | .kperm u _ _ => contextOk u
  | .ypt u => unitOk u
  | .reservedPattern u _ _ => unitOk u
  | .deviceInterrupt u ev => unitOk u && ev.wf
  | .frozenUnitRecovery u => unitOk u
  | .pairDiverged _ => true
  | .pairSelftestDone _ _ => true
  | .runAhead _ => true
  | .guardScrub g errors => decide (g < 5) && errors.all ScrubError.wf
  | .guardDrainDone => true
  | .flashRead queue _ => queue.wf
  | .flashProgram queue => queue.wf
  | .flashProgramDone bank _ => decide (bank < 20)
  | .flashErase queue => queue.wf
  | .flashEraseDone bank _ => decide (bank < 20)
  | .eraseSuspend queue => queue.wf
  | .eraseResume queue => queue.wf
  | .suspendExpiry bank => decide (bank < 20)
  | .readStatus queue => queue.wf
  | .flushTick => true
  | .collection => true
  | .victimErase => true
  | .wearCollection bank => decide (bank < 16)
  | .crossingTimeout island => decide (island < 244)
  | .eventStamp => true
  | .otcSave => true
  | .agentAnswer island ans => decide (island < 244) && ans.wf
  | .agentTimeout island => decide (island < 244)
  | .delayExpiry island => decide (island < 244)
  | .modeTarget sess _ value => sess.wf && decide (value.length ≤ valueMax)
  | .serviceEnd sess _ value => sess.wf && decide (value.length ≤ valueMax)
  | .serviceLimitExpiry => true
  | .changeoverUnitDone _ _ => true
  | .sramRepaired spare _ use => spare.wf && use.wf
  | .lifecycleEraseComplete => true
  | .monitorSample mon _ _ _ => decide (mon < 21)
  | .batchExecute => true
  | .quiesceHoldEnd => true
  | .alertAck sess _ value => sess.wf && decide (value.length ≤ valueMax)
  | .coalesceWindowClose => true
  | .suppressed code => decide (code < 65536)
  | .mbGo => true
  | .hello nonce _ _ _ => nonce.length == 32
  | .finish sess sig => decide (sess < 65536) && sig.length == 96
  | .authChallenge _ => true
  | .authResponse _ cred sig => decide (cred < 256) && sig.length == 96
  | .authDrop _ => true
  | .officerIdle => true
  | .read sess _ index subi _ _ => sess.wf && decide (index < 65536) && decide (subi < 256)
  | .write sess _ index subi value => sess.wf && decide (index < 65536) && decide (subi < 256) && decide (value.length ≤ valueMax)
  | .describe sess _ index subi => sess.wf && decide (index < 65536) && decide (subi < 256)
  | .csSeal sess _ => sess.wf
  | .csSign sess _ change cred sig => sess.wf && decide (change < 2 ^ 32) && decide (cred < 256) && sig.length == 96
  | .csCancel sess _ change => sess.wf && decide (change < 2 ^ 32)
  | .csQuery sess _ change _ => sess.wf && decide (change < 2 ^ 32)
  | .csDiscard sess _ => sess.wf
  | .notifyAck sess _ => decide (sess < 65536)
  | .notifyResend sess _ => decide (sess < 65536)
  | .nopMessage sess _ => sess.wf
  | .close sess _ => decide (sess < 65536)
  | .msgUnknown sess _ msg => sess.wf && decide (msg < 256)
  | .gapSessionExpiry sess => decide (sess < 65536)
  | .countersignExpiry slot => decide (slot < 16)
  | .csCommit => true
  | .cardInserted => true
  | .cardResponse reply => reply.wf
  | .cardWtx _ => true
  | .clockStop => true
  | .cardRemoved => true
  | .cardOvercurrent => true
  | .cardRequest sess _ value => sess.wf && decide (value.length ≤ valueMax)
  | .cardMidstepClear sess _ value => sess.wf && decide (value.length ≤ valueMax)
  | .ping _ => true
  | .badgeResponse reply => reply.wf
  | .badgePresenceCheck _ => true
  | .externalField => true
  | .externalFieldGone => true
  | .fieldRequest sess _ value => sess.wf && decide (value.length ≤ valueMax)
  | .tagTransactionStart => true
  | .tagSelect aid => decide (aid.length ≤ 16)
  | .readBinary _ _ => true
  | .updateBinary _ _ => true
  | .increment ctr data _ => decide (ctr < 256 ∧ data.length < 256)
  | .tagTransactionEnd => true
  | .tagTransactionTimeout => true
  | .tagMemBlock sess _ _ => sess.wf
  | .tagCounterAdd sess _ value => sess.wf && decide (value.length ≤ valueMax)
  | .tagHostTimeout => true
  | .thermalOverload die _ => decide (die < 2)
  | .startUpTestPassed chan => decide (chan < 8)
  | .selfTestDone _ => true
  | .inboundFrame frame => frame.wf
  | .blockWaitingTimeExpiry => true
  | .frameWaitingTimeExpiry => true
  | .vaultBankIdle bank => decide (bank < 16)
  | .cellExhausted => true
  | .alwaysOnSupplyChange _ => true
  | .dtbFrac u => unitOk u

end Sys2Proof
end

