-- ==== Sys2Proof/Machine/Link.lean ====
section
/-! DEFINITION. The host link, its functions, IDE, TDISP, DOE and SPDM, and the administrative opcodes (03). -/

namespace Sys2Proof.Machine

open Sys2Proof

/-! ### Link state (02 R74, 03 R85, R90, R105, R106) -/

/-- An error reported through AER on a function: 1 poisoned TLP received, 2 IDE check failed, 3 corrected internal
error. -/
def State.aer (s : State) (fn e : Nat) : State := s.withPart fn (fun x => { x with aer := x.aer ++ [e] })

/-- CONVENTIONAL_RESET (03 R105, 22 R773): R102 on every partition, PF0 included; the mailbox session opens anew. After PERST# the link
trains when it is deasserted, after a hot reset or DL_Down at once (02 R74); which of them it was, the row has no operand for and a free
value says (log entry 167). PF0's power state and its pending bits stay (log entry 140). -/
def execConventionalReset (s0 : State) : Out :=
  let (n, s1) := s0.drawNat
  let s := s1.withPower (fun p => { p with perst := p.perst || n % 2 == 1 })
  if !s.mainUp then .next s
  else
    let s2 := ((List.range 1025).filter (fun p => p == 0 || (s.part p).enabled)).foldl tearDown s
    .next (reopenMailbox (s2.withLink (fun l => { l with
      state := if s.power.perst then .down else .training, width := 0, rate := 0, heldPosts := [], reads := [] })))

/-- PERST_DEASSERTED (02 R48, R74). -/
def execPerstDeasserted (s : State) : Out :=
  let s1 := s.withPower (fun p => { p with perst := false, wake := false })
  .next (if s.mainUp && s.link.state == .down then s1.withLink (fun l => { l with state := .training }) else s1)

/-- LINK_RECOVERY (03 R106, 01 R29): jobs continue; width and rate before and after are recorded. -/
def execLinkRecovery (width rate : Nat) (s : State) : Out :=
  if s.link.state = .l0 ∧ linkOk width rate then
    let s1 := (s.bump gLinkRecoveryCount).event 140 0x0203 1 (toLE 1 s.link.width ++ toLE 1 s.link.rate ++ toLE 1 width ++ toLE 1 rate)
    .next (s1.withLink (fun l => { l with state := .recovery, width := width, rate := rate }))
  else .next s

/-- LINK_RETURN_L0 (01 R29, 11 R853): held completions and waiting deliveries are written, held messages sent. -/
def execLinkReturnL0 (width rate : Nat) (s : State) : Out :=
  if s.mainUp && (s.link.state == .recovery || s.link.state == .training) && linkOk width rate then
    let s1 := s.withLink (fun l => { l with state := .l0, width := width, rate := rate, heldPosts := [], msixHeld := [] })
    let s2 := s.link.heldPosts.foldl post (s.link.msixHeld.foldl (fun s e => s.msix e.1 e.2) s1)
    .next ((s2.meter.md.map Prod.fst).foldl deliverAll s2)
  else .next s

/-- D3HOT_ENTRY (03 R90). -/
def execD3hotEntry (s : State) : Out :=
  .next (if s.mainUp then s.withLink (fun l => { l with d3hot := true }) else s)

/-- D3HOT_EXIT (03 R90): pending MSI-X messages of PF0 are sent, or held until the link is in L0; with No_Soft_Reset set nothing else
changes (03 Table 1). -/
def execD3hotExit (s : State) : Out :=
  if s.mainUp && s.link.d3hot then
    let s1 := s.withLink (fun l => { l with d3hot := false, pba := [] })
    .next (s.link.pba.foldl (fun s v => s.msix 0 v) s1)
  else .next s

/-! ### Functions and partitions (03 R94, R102 to R104) -/

/-- FUNCTION_LEVEL_RESET (03 R102). -/
def execFunctionLevelReset (vf : Nat) (s : State) : Out :=
  if vf ≠ 0 ∧ (s.part vf).enabled then .next (tearDown s vf) else .next s

/-- TotalVFs and InitialVFs (03 Table 2). -/
def totalVfs : Nat := 1024

/-- NUMVFS_WRITE (03 R94). -/
def execNumvfsWrite (n : Nat) (s : State) : Out :=
  if s.mainUp && !s.link.vfEnable && decide (n ≤ totalVfs) then .next (s.withLink (fun l => { l with numVfs := n })) else .next s

/-- A partition enabled: windows disabled, its salt drawn at the first enabling (03 R94, R107, 09 R362). -/
def enablePart (s : State) (p : Nat) : State :=
  let s1 := s.withPart p (fun x => { x with enabled := true, windows := [] })
  let s2 := s1.withMeter (fun m => { m with parts := m.parts.upd {} p (fun x => { x with enabledAny := true }) })
  if (s.part p).salt.isEmpty then newSalt s2 p else s2

/-- VF_ENABLE_SET (03 R94). -/
def execVfEnableSet (s : State) : Out :=
  if s.mainUp && !s.link.vfEnable then
    .next (((List.range s.link.numVfs).map (· + 1)).foldl enablePart (s.withLink (fun l => { l with vfEnable := true })))
  else .next s

/-- VF_ENABLE_CLEAR (03 R102). -/
def execVfEnableClear (s : State) : Out :=
  if s.link.vfEnable then
    .next (((List.range s.link.numVfs).map (· + 1)).foldl (fun s p => (tearDown s p).withPart p (fun x => { x with enabled := false }))
      (s.withLink (fun l => { l with vfEnable := false })))
  else .next s

/-! ### BAR accesses (03 R88, R97 to R99, R133) -/

/-- BAR_ACCESS_DROPPED (03 R88): an access that is not 32 or 64 bits and naturally aligned. -/
def execBarAccessDropped (fn off size : Nat) (write : Bool) (s : State) : Out :=
  if !s.mainUp || ((size == 4 || size == 8) && off % size == 0) then .next s
  else .next (s.reportBy 140 0x0201 fn (off % 2 ^ 32 + 2 ^ 32 * (size % 256) + 2 ^ 40 * b2n write) fn)

/-- POISONED_WRITE (03 R133). -/
def execPoisonedWrite (fn _bar _off : Nat) (s : State) : Out := .next (if s.mainUp then s.aer fn 1 else s)

/-- Writes to a VF's proxy block are dropped and counted: its TDI is not in CONFIG_UNLOCKED, or the VF is disabled (03 R99). -/
def proxyShut (s : State) (vf : Nat) : Bool := !(s.part vf).enabled || (s.part vf).tdi.state != 0

/-- PROXY_DOORBELL (03 R97 to R99): as the VF's own doorbell, or dropped and counted. -/
def execProxyDoorbell (vf ring : Nat) (cq : Bool) (value : BitVec 32) (s : State) : Out :=
  if !s.mainUp || vf == 0 || decide (1024 < vf) || decide (8 ≤ ring) then .next s
  else if proxyShut s vf then .next (s.bumps gPartitionProxyDropped vf)
  else if cq then .next (ringCq s vf ring (bits value.toNat 16 0))
  else .next (ringSq s vf ring (bits value.toNat 16 0))

/-! ### IDE and TDISP (03 R115 to R124) -/

/-- The IDE stream. -/
def State.ideStream (s : State) (n : Nat) : IdeStream := s.link.ide.get {} n

def State.withIde (s : State) (n : Nat) (f : IdeStream → IdeStream) : State :=
  s.withLink (fun l => { l with ide := l.ide.upd {} n f })

/-- An SPDM session is held, which IDE_KM and TDISP messages need (03 R115, R119). -/
def inSpdm (s : State) : Bool := s.mainUp && !s.link.spdm.isEmpty

/-- K_SET_GO (03 R117). -/
def execKSetGo (stream set : Nat) (s : State) : Out :=
  if inSpdm s && ((s.ideStream stream).sets.find set).isSome then
    .next (s.withIde stream (fun x => { x with cur := set, secure := true, insecure := false }))
  else .next s

/-- A TDI enters ERROR: R102 on the VF, whose BAR0 stays readable (03 R123). -/
def tdiError (s : State) (vf : Nat) : State :=
  (tearDown s vf).withPart vf (fun x => { x with tdi := { x.tdi with state := 3 } })

/-- VFs whose TDI is locked or running and whose requests are no longer carried on the stream it is bound to (03 R121). -/
def unbound (s : State) : List Nat :=
  (s.parts.filter (fun e => (e.2.tdi.state == 1 || e.2.tdi.state == 2) && carrier s e.1 != some e.2.tdi.stream)).map Prod.fst

/-- IDE_KM (03 R115 to R117): a key set of a stream, and the range of functions a selective stream covers (log entry 146). A TDI whose
binding the new range changes enters ERROR (R121). -/
def execIdeKm (stream set lo hi : Nat) (keyOut keyIn : Bytes) (s : State) : Out :=
  if inSpdm s && decide (stream ≤ 64) && decide (set ≤ 1) && decide (lo ≤ hi) && decide (hi ≤ 1024) then
    let s1 := s.withIde stream (fun x => { x with sets := x.sets.set set ⟨keyOut, keyIn⟩, lo := lo, hi := hi })
    .next ((unbound s1).foldl tdiError s1)
  else .next s

/-- IDE_STREAM_INSECURE (03 R118). -/
def execIdeStreamInsecure (stream : Nat) (s : State) : Out :=
  if !s.mainUp || (s.link.ide.find stream).isNone then .next s
  else
    let vs := s.parts.keysWith (fun x => (x.tdi.state == 1 || x.tdi.state == 2) && x.tdi.stream == stream)
    .next (vs.foldl tdiError (s.withIde stream (fun x => { x with secure := false, insecure := true })))

/-- TLP_INTEGRITY_FAIL (03 R118): the TLP is dropped and reported through AER on the addressed function. -/
def execTlpIntegrityFail (_stream fn : Nat) (s : State) : Out := .next (if s.mainUp then s.aer fn 2 else s)

/-- LOCK_INTERFACE (03 R120). -/
def execLockInterface (vf : Nat) (s : State) : Out :=
  if !inSpdm s || vf == 0 || !(s.part vf).enabled || (s.part vf).tdi.state != 0 then .next s
  else match carrier s vf with
    | none => .next s
    | some n => .next (s.withPart vf (fun x => { x with tdi := ⟨1, n⟩ }))

/-- STOP_INTERFACE (03 R123). -/
def execStopInterface (vf : Nat) (s : State) : Out :=
  if !inSpdm s || (s.part vf).tdi.state == 0 then .next s
  else .next ((tearDown s vf).withPart vf (fun x => { x with tdi := {} }))

/-- TDI_FROZEN_CHANGE (03 R121). -/
def execTdiFrozenChange (vf : Nat) (s : State) : Out :=
  let st := (s.part vf).tdi.state
  if s.mainUp && (st == 1 || st == 2) then .next (tdiError s vf) else .next s

/-! ### DOE and SPDM (03 R125 to R127) -/

/-- What the responder answers. -/
def doeReply (s : State) (b : Bytes) : State := s.withLink (fun l => { l with doeOut := b })

/-- The answer to DOE Discovery: vendor 0x0001, the object type of an index (0 DOE Discovery, 1 CMA/SPDM, 2 Secured CMA/SPDM), the next
index; an index beyond them names none (03 R125; log entry 147). -/
def discovery (index : Nat) : Bytes :=
  if index ≤ 2 then toLE 2 1 ++ toLE 1 index ++ toLE 1 ((index + 1) % 3) else toLE 2 0xFFFF ++ toLE 1 0xFF ++ zeros 1

/-- DOE_OBJECT (03 R125): an object of at most 64 KiB is accepted, a longer one refused with the DOE Error bit. DOE Discovery is answered;
a CMA/SPDM object acts as the SPDM_MESSAGE that it carries; an object of another type draws no answer. -/
def execDoeObject (kind : DoeKind) (len : Nat) (s : State) : Out :=
  .next (if !s.mainUp then s
    else if 65536 < len then s.withLink (fun l => { l with doeError := true })
    else match kind with
      | .discovery index => doeReply s (discovery index)
      | .spdm => s
      | .securedSpdm => s
      | .unknown => s)

/-- The capabilities of the SPDM responder: CERT, CHAL, MEAS with signature, ENCRYPT, MAC, MUT_AUTH, KEY_EX, HBEAT (03 R126; bits by DSP0274,
log entry 147). -/
def spdmCaps : Nat := 2 ^ 1 + 2 ^ 2 + 2 * 2 ^ 3 + 2 ^ 6 + 2 ^ 7 + 2 ^ 8 + 2 ^ 9 + 2 ^ 13

/-- One algorithm of a kind is chosen when the requester offers it; no other is supported (03 R126). -/
def offered (set bitNo : Nat) : Nat := if bit set bitNo then 2 ^ bitNo else 0

/-- A signature of the responder over its transcript; without privileged randomness it is made and recorded
(03 R126, 12 R488). -/
def spdmSign (s : State) (body : Bytes) : State :=
  let (rnd, s1) := if s.noPrivRandom then (zeros 32, s) else s.drawBytes 32
  let s2 := doeReply s1 (body ++ fit 96 (Config.ecdsaSign 2 (aliasKey s.link.slot1) (Config.sha384 body) rnd))
  if s.noPrivRandom then s2.event 147 0x0402 1 (toLE 1 1 ++ toLE 8 s.link.spdmNext) else s2

/-- The certificate chain of a slot; slots 2 to 7 are empty (03 R127). -/
def certOf (s : State) (slot : Nat) : Bytes :=
  if slot = 0 then Config.dikCert else if slot = 1 then Config.aliasCert s.link.slot1 else []

/-- The device interface report: VF BAR0 0x0000 to 0xBFFF, the MSI-X table and the pending bit array (03 R122), as offset and length in
4-byte words (log entry 148). -/
def interfaceReport : Bytes := toLE 4 0x0000 ++ toLE 4 0xC000 ++ toLE 4 0xA000 ++ toLE 4 0x1000 ++ toLE 4 0xB000 ++ toLE 4 0x1000

/-- SPDM_MESSAGE (03 R119, R122, R126, R127): versions 1.2 and 1.3, at most 4 sessions. -/
def execSpdmMessage (req : SpdmReq) (s : State) : Out :=
  if !s.mainUp then .next s
  else match req with
    | .getVersion => .next (doeReply s (toLE 2 0x1200 ++ toLE 2 0x1300))
    | .getCapabilities => .next (doeReply s (toLE 4 spdmCaps))
    | .negotiateAlgorithms asym hash dhe aead =>
      .next (doeReply s (toLE 4 (offered asym 7) ++ toLE 4 (offered hash 1) ++ toLE 2 (offered dhe 4) ++ toLE 2 (offered aead 1)))
    | .keyExchange =>
      if 4 ≤ s.link.spdm.length then .next s
      else
        let s1 := s.withLink (fun l => { l with spdm := l.spdm.set l.spdmNext ⟨s.now⟩, spdmNext := l.spdmNext + 1 })
        .next (spdmSign s1 (toLE 4 s.link.spdmNext))
    | .endSession id => .next (s.withLink (fun l => { l with spdm := l.spdm.erase id }))
    | .heartbeat id =>
      .next (if (s.link.spdm.find id).isSome then s.withLink (fun l => { l with spdm := l.spdm.set id ⟨s.now⟩ }) else s)
    | .getCertificate slot => .next (doeReply s (certOf s slot))
    | .challenge slot => .next (if slot ≤ 1 then spdmSign s (certOf s slot) else s)
    | .getMeasurements => .next (spdmSign s ((List.range 8).flatMap (fun k => fit 48 (s.mode.meas.get [] (k + 1)))))
    | .startInterface vf =>
      .next (if inSpdm s && (s.part vf).tdi.state == 1 then s.withPart vf (fun x => { x with tdi := { x.tdi with state := 2 } }) else s)
    | .getInterfaceReport vf => .next (if inSpdm s && (s.part vf).enabled then doeReply s interfaceReport else s)
    | .getInterfaceState vf => .next (if inSpdm s && (s.part vf).enabled then doeReply s (toLE 1 (s.part vf).tdi.state) else s)
    | .unsupported => .next s

/-! ### Administrative opcodes (03 R135 to R141, R848) -/

/-- An administrative job acts: it holds a context, no ORDERED job stands before it, and its ring's earlier administrative
jobs have acted (04 R180, R181). -/
def adminReady (s : State) (id op : Nat) : Bool := (s.job id).d.opcode == op && s.mainUp && adminFirst s (s.job id)

/-- The parameter block of an administrative job has been read through the channel lent to it, with the link in L0 (03 R136, 10 R401). -/
def adminRead (s : State) (id op : Nat) : Bool := adminReady s id op && s.link.state == .l0 && (s.job id).chan.isSome

/-- An administrative job that waits (03 R113, R140, R141, R439). -/
def adminWait (s : State) (id : Nat) : State := (toEngine (returnChannel s id) id).withJob id (fun j => { j with phase := .adminWait })

/-- The window block breaks Table 7 (03 R112). -/
def windowAlignBad (base size : Nat) : Bool :=
  base % 4096 != 0 || size % 4096 != 0 || decide (2 ^ 48 < size) || (size != 0 && decide (2 ^ 64 < base + size))

/-- A window table with one slot set (03 R112). -/
def putWindow (s : State) (p slot : Nat) (w : Window) : State :=
  s.withPart p (fun x => { x with windows := x.windows.set slot w })

/-- An enabled ring of a partition is uncovered under the window table (03 R112). -/
def ringUncovered (s : State) (p : Nat) : Bool :=
  (List.range 8).any (fun k => let r := s.ring p k
    r.enable && !r.bootstrap && !(rangeOk s p r.sqBase (64 * r.entries) false && rangeOk s p r.cqBase (32 * r.entries) true))

/-- The status of a window block: 0 when it is accepted (03 R111, R112). -/
def windowCheck (s : State) (p v : Nat) : Nat :=
  let slot := bits v 3 0
  let base := bits v 127 64
  let size := bits v 191 128
  let rd := bit v 8
  let wr := bit v 9
  if bits v 7 4 ≠ 0 ∨ bits v 63 10 ≠ 0 ∨ bits v 255 192 ≠ 0 then 0x1003
  else if windowAlignBad base size then 0x1020
  else if size ≠ 0 ∧ !rd ∧ !wr then 0x1021
  else if size ≠ 0 ∧ (s.part p).windows.any (fun e => e.1 != slot && e.2.size != 0 &&
      decide (base < e.2.base + e.2.size ∧ e.2.base < base + size)) then 0x3010
  else if ringUncovered (putWindow s p slot ⟨base, size, rd, wr⟩) p then 0x2010
  else 0

/-- The slot that a block describes; DEV_RD and DEV_WR of a disabled slot are not stored (03 R112). -/
def blockWindow (v : Nat) : Window :=
  { base := bits v 127 64, size := bits v 191 128, rd := bits v 191 128 != 0 && bit v 8, wr := bits v 191 128 != 0 && bit v 9 }

/-- WINDOW_SET (03 R111 to R113). -/
def execWindowSet (job : Nat) (block : BitVec 256) (s : State) : Out :=
  if !adminRead s job 0x0801 then .next s
  else
    let p := (s.job job).part
    let v := block.toNat
    let c := windowCheck s p v
    if c ≠ 0 then .next (finish s job c [] 2)
    else
      let s1 := squashWhere (adminWait s job) true (fun j => j.part == p)
      .next ((putWindow s1 p (bits v 3 0) (blockWindow v)).withPart p (fun x => { x with winVer := x.winVer + 1 }))

/-- WINDOW_SET_DONE (03 R113): every job checked under the old table has retired. -/
def execWindowSetDone (job : Nat) (s : State) : Out :=
  let j := s.job job
  if j.phase = .adminWait ∧ j.d.opcode = 0x0801 ∧
      !(s.jobs.any (fun e => e.1 != job && e.2.part == j.part && decide (e.2.winVer ≤ j.winVer))) then
    .next (finish s job 0 [] 6)
  else .next s

/-- A window slot in Table 7 form. -/
def windowBytes (k : Nat) (w : Window) : Bytes :=
  toLE 32 (k + 2 ^ 8 * b2n w.rd + 2 ^ 9 * b2n w.wr + 2 ^ 64 * w.base + 2 ^ 128 * w.size)

/-- WINDOW_GET (03 R137, Table 8). -/
def execWindowGet (job : Nat) (s : State) : Out :=
  if !adminReady s job 0x0802 then .next s
  else
    let ws := (s.part (s.job job).part).windows
    .next (finish s job 0 ((List.range 16).flatMap (fun k => windowBytes k (ws.get {} k))) 4)

/-- PARTITION_INFO output (03 Table 9). -/
def infoBlock (s : State) (p : Nat) : Bytes :=
  toLE 64 (p + 2 ^ 19 * b2n (s.part p).quiesced + 2 ^ 20 * (if p = 0 then 0 else (s.part p).tdi.state)
    + 2 ^ 24 * s.gvs gPartitionWeight p + 2 ^ 64 * s.gvs gKeystoreQuota p + 2 ^ 96 * slotsHeld s p
    + 2 ^ 128 * s.gvs gPartitionCap p + 2 ^ 160 * s.inFlight p)

/-- PARTITION_INFO (03 Table 8). -/
def execPartitionInfo (job : Nat) (s : State) : Out :=
  if adminReady s job 0x0803 then .next (finish s job 0 (infoBlock s (s.job job).part) 4) else .next s

/-- TIME_GET (03 Table 8). -/
def execTimeGet (job : Nat) (s : State) : Out :=
  if adminReady s job 0x0804 then
    .next (finish s job 0 (toLE 16 (s.dtbNs % 2 ^ 64 + 2 ^ 64 * (s.clock.dtb % 2 ^ 32) + 2 ^ 96 * s.clock.tstate)) 4)
  else .next s

/-- FENCE (03 R141). -/
def execFence (job : Nat) (s : State) : Out := .next (if adminReady s job 0x0805 then adminWait s job else s)

/-- FENCE_DONE (03 R141): every earlier job of the ring has posted. -/
def execFenceDone (job : Nat) (s : State) : Out :=
  let j := s.job job
  if j.phase = .adminWait ∧ j.d.opcode = 0x0805 ∧
      !(s.jobs.any (fun e => e.2.part == j.part && e.2.ring == j.ring && decide (e.2.n < j.n))) ∧
      !((fetching s j.part j.ring).any (fun n => decide (n < j.n))) then
    .next (finish s job 0 [] 6)
  else .next s

/-- The status of a QUIESCE or RESUME word (03 R136, R140). -/
def targetCheck (s : State) (v : Nat) : Nat :=
  if bits v 63 11 ≠ 0 then 0x1003 else if v = 0 ∨ s.link.numVfs < v then 0x1010 else 0

/-- A partition quiesced: intake stops, its run-ahead is squashed, its rings are HELD (03 R140, 04 R154). -/
def quiescePart (s : State) (p : Nat) : State :=
  let s1 := squashWhere (s.withPart p (fun x => { x with quiesced := true })) true (fun j => j.part == p)
  let s2 := s1.intake.foldl (fun s e =>
    match e.2.out with
    | some (q, r, ns) =>
      if q = p then (s.withIntake e.1 (fun i => { i with out := none })).withRing p r (fun x => { x with
        reserved := x.reserved - ns.length, refetch := ns.foldl (fun l n => insertAsc n l) x.refetch })
      else s
    | none => s) s1
  holdRings s2 p

/-- QUIESCE (03 R140). -/
def execQuiesce (job : Nat) (word : BitVec 64) (s : State) : Out :=
  if !adminRead s job 0x0880 then .next s
  else
    let p := word.toNat
    let c := targetCheck s p
    if c ≠ 0 then .next (finish s job c [] 2)
    else if (s.part p).quiesced then .next (finish s job 0 [] 6)
    else .next ((adminWait (quiescePart s p) job).withJob job (fun j => { j with waits := [p] }))

/-- QUIESCE_DONE (03 R140). -/
def execQuiesceDone (job : Nat) (s : State) : Out :=
  let j := s.job job
  if j.phase = .adminWait ∧ j.d.opcode = 0x0880 ∧ j.waits.all (fun p => s.inFlight p == 0) then .next (finish s job 0 [] 6)
  else .next s

/-- RESUME (03 R140, 04 R156). -/
def execResume (job : Nat) (word : BitVec 64) (s : State) : Out :=
  if !adminRead s job 0x0881 then .next s
  else
    let p := word.toNat
    let c := targetCheck s p
    if c ≠ 0 then .next (finish s job c [] 2)
    else if !(s.part p).quiesced then .next (finish s job 0 [] 4)
    else
      let s1 := s.withPart p (fun x => { x with quiesced := false })
      .next (finish ((List.range 8).foldl (fun s r => releaseRing s p r) s1) job 0 [] 4)

/-- A TIME_SET has not completed, or its STEP minute is not READY (17 R644, 11 R439). -/
def timeSetBusy (s : State) : Bool :=
  match s.clock.setJob with
  | none => false
  | some id => (s.jobs.find id).isSome || s.meter.closing.any (fun h => bit h.flags 3)

/-- TIME_SET (17 R644, R648, 11 R439): the open minute closes with STEP, device time is set, the next minute opens. -/
def execTimeSet (job : Nat) (ns word : BitVec 64) (s : State) : Out :=
  if !adminRead s job 0x0882 || timeSetBusy s then .next s
  else if bits word.toNat 63 32 ≠ 0 then .next (finish s job 0x1003 [] 2)
  else
    let s1 := closeMinute (adminWait s job) s.dtbNs (2 ^ 3) s.noPrivRandom
    let s2 := (setDtb s1 ns.toNat (bits word.toNat 31 0)).withClock (fun c => { c with setJob := some job, setThisCycle := true })
    .next ((openMinute s2 ns.toNat 0).bump gTimeSetCount)

/-- TIME_SET_DONE (11 R439): the STEP minute's set is READY. -/
def execTimeSetDone (job : Nat) (s : State) : Out :=
  let j := s.job job
  if j.phase = .adminWait ∧ j.d.opcode = 0x0882 ∧ !(s.meter.closing.any (fun h => bit h.flags 3)) then
    .next (finish (s.withClock (fun c => { c with setJob := none })) job 0 [] 6)
  else .next s

end Sys2Proof.Machine
end

