-- ==== Sys2Proof/Machine/Bar.lean ====
section
/-! DEFINITION. Writes of registers: the BARs of PF0 and of the VFs, configuration space, and the register spaces of the two dies
under a master identity (00 R10, 03 R88, R89, R95; 04 Tables 1 to 5; 11 Tables 9, 10; 22 Tables 3 to 5). -/

namespace Sys2Proof.Machine

open Sys2Proof

/-- The state that a command's outcome leaves. -/
def after (o : Out) (s : State) : State := match o with | .next t => t | _ => s

/-- A 64-bit register with a write of 4 or 8 bytes at an offset put in (04 R149). -/
def regMerge (old off size v : Nat) : Nat := if size = 8 then v % 2 ^ 64 else withHalf (old % 2 ^ 64) off (v % 2 ^ 32)

/-- The write reaches bits 31:0 of its 64-bit register. -/
def lowHalf (off : Nat) : Bool := off % 8 == 0

/-! ### Ring control (04 Tables 1 to 5) -/

/-- A write to SQ_BASE, CQ_BASE or RING_CFG: dropped with RING_BUSY unless the ring is DISABLED (04 R150). -/
def ringSet (s : State) (p r : Nat) (f : Ring → Ring) : State :=
  if (s.ring p r).state = 0 then s.withRing p r f else ringFault s p r 0x2012

/-- RING_CTL (04 Table 3, R149, R151 to R153): ABORT acts on a ring that is not DISABLED, and then ENABLE does not act. -/
def ringCtl (s : State) (p r v : Nat) : State :=
  if bit v 1 ∧ (s.ring p r).state ≠ 0 then after (execRingAbort p r s) s
  else if bit v 0 then after (execRingEnable p r s) s
  else after (execRingDisable p r s) s

/-- A write to RING_CTL: a word with a reserved bit set is rejected with RESERVED_SET, recorded as a ring fault, and has no other effect (00
R11; log entry 81). The upper half alone sets nothing (04 R149). -/
def ringCtlWrite (s : State) (p r w v : Nat) : State :=
  if v / (if lowHalf w then 4 else 1) ≠ 0 then ringFault s p r 0x1003
  else if lowHalf w then ringCtl s p r v
  else s

/-- A word of a ring control block written; RING_STATUS, RING_COUNT and CODE are read only (04 Table 1). -/
def ringBlock (s : State) (p r w size v : Nat) : State :=
  let x := s.ring p r
  if w < 0x08 then ringSet s p r (fun x => { x with sqBase := regMerge x.sqBase w size v / 64 * 64 })
  else if w < 0x10 then ringSet s p r (fun x => { x with cqBase := regMerge x.cqBase w size v / 32 * 32 })
  else if w < 0x18 then
    let n := regMerge (x.entries + 2 ^ 40 * x.msixVec) w size v
    ringSet s p r (fun x => { x with entries := bits n 16 0, msixVec := bits n 47 40 })
  else if w < 0x20 then ringCtlWrite s p r w v
  else if 0x30 ≤ w ∧ w < 0x38 ∧ lowHalf w ∧ bit v 16 then s.withRing p r (fun x => { x with fault := false })
  else s

/-! ### Blocks of the BARs (03 Tables 3 and 4) -/

/-- The ring control page and the doorbells of a function; the doorbells are 32 bits wide (04 Table 7). -/
def ringPages (s : State) (p off size v : Nat) : Option State :=
  if 0x1000 ≤ off ∧ off < 0x1400 then some (ringBlock s p ((off - 0x1000) / 0x80) ((off - 0x1000) % 0x80) size v)
  else if 0x2000 ≤ off ∧ off < 0xA000 then
    let r := (off - 0x2000) / 0x1000
    let w := off % 0x1000
    some (if size ≠ 4 then s else if w = 0 then ringSq s p r (bits v 16 0) else if w = 8 then ringCq s p r (bits v 16 0) else s)
  else none

/-- The MSI-X table's bytes are stored; the pending bit array is read only (03 Tables 3, 4). -/
def msixTable (s : State) (p off size v : Nat) : Option State :=
  if 0xA000 ≤ off ∧ off + size ≤ 0xA000 + 16 * (if p = 0 then 256 else 8) then
    some { s with barMem := Mem.write 0 s.barMem (p * 2 ^ 32 + off) (toLE size v) }
  else none

/-- MD_CFG and MD_STATUS of a VF (11 Tables 9 and 10). -/
def mdBlock (s : State) (vf off size v : Nat) : State :=
  if 0x800 ≤ off ∧ off < 0x808 then
    let b := s.meter.md.get {} vf
    let n := regMerge (b.base + b2n b.enable) off size v
    s.withMd vf (fun b => { b with base := n / 2 ^ 14 * 2 ^ 14, enable := bit n 0 })
  else if 0x808 ≤ off ∧ off < 0x810 ∧ lowHalf off ∧ bit v 16 then s.withMd vf (fun b => { b with fault := false })
  else s

/-- The mailbox: MB_CTL, MB_STATUS and the request area; it is served from ASSAY on (22 Tables 3 to 5, R773). -/
def mailbox (s : State) (w size v : Nat) : State :=
  if w < 8 then (if lowHalf w && bit v 0 then after (execMbGo s) s else s)
  else if w < 16 then
    if lowHalf w then s.withMgmt (fun m => { m with done := m.done && !bit v 0, dropped := m.dropped && !bit v 2 }) else s
  else if 0x1000 ≤ w ∧ w < 0x8000 then s.withMgmt (fun m => { m with reqArea := Mem.write 0 m.reqArea (w - 0x1000) (toLE size v) })
  else s

/-- A write to BAR0 of PF0; what is read only or reserved drops it (03 Table 3, R89). -/
def pfBar0 (s : State) (off size v : Nat) : State :=
  match ringPages s 0 off size v with
  | some t => t
  | none => match msixTable s 0 off size v with
    | some t => t
    | none => if 0x10000 ≤ off ∧ off < 0x20000 then mailbox s (off - 0x10000) size v else s

/-- A write to BAR0 of a VF (03 Table 4, R102). -/
def vfBar0 (s : State) (vf off size v : Nat) : State :=
  if !partOn s vf then s
  else match ringPages s vf off size v with
    | some t => t
    | none => match msixTable s vf off size v with
      | some t => t
      | none => mdBlock s vf off size v

/-- A write to BAR2 of PF0: the proxy doorbells; any write to the block of a VF that takes none is counted (03 R97 to R99). -/
def pfBar2 (s : State) (off size v : Nat) : State :=
  let w := off % 0x800
  let r := off % 0x4000 / 0x800
  let vf := off / 0x4000 + 1
  if size = 4 ∧ (w = 0 ∨ w = 8) then after (execProxyDoorbell vf r (w == 8) (BitVec.ofNat 32 v) s) s
  else if 1024 < vf then s
  else if proxyShut s vf then s.bumps gPartitionProxyDropped vf
  else s

/-- A write to a BAR; one that is not 32 or 64 bits and aligned is dropped and recorded (03 R88). -/
def barWrite (s : State) (fn bar off size v : Nat) : State :=
  if !s.mainUp then s
  else if (size ≠ 4 ∧ size ≠ 8) ∨ off % size ≠ 0 then after (execBarAccessDropped fn off size true s) s
  else if fn = 0 ∧ bar = 0 then pfBar0 s off size v
  else if fn = 0 ∧ bar = 2 then pfBar2 s off size v
  else if 1 ≤ fn ∧ fn ≤ 1024 ∧ bar = 0 then vfBar0 s fn off size v
  else s

/-- A write of a die's registers under a master identity: the guard decides (15 R571, R578). -/
def spaceRegWrite (s : State) (mid g off size v : Nat) : State :=
  if size = 0 ∨ 8 < size ∨ guardSpace g < off + size then s
  else if guardCheck s g mid off (off + size - 1) .write ≠ 0 then guardRefused s g mid off
  else regBytes size s mid g off (toLE size v)

/-- A configuration-space field that a rule names (03 R85, R129, R131): a payload or request size above 4,096 B is taken as 4,096 B. -/
def configWrite (s : State) (off v : Nat) : State :=
  if !s.mainUp then s
  else if off = 0 then s.withClock (fun c => { c with ptmEnable := bit v 0 })
  else if off = 1 then s.withLink (fun l => { l with ctoDisable := bit v 0 })
  else if off = 2 then s.withLink (fun l => { l with ctoValue := v % 16 })
  else if off = 3 then s.withLink (fun l => { l with mps := min (v % 8) 5 })
  else if off = 4 then s.withLink (fun l => { l with mrrs := min (v % 8) 5 })
  else s

/-- REGISTER_WRITE (00 R10, 03 R89): stored, dropped or cleared as the register's field map states. -/
def execRegisterWrite (space : RegSpace) (off size : Nat) (value : BitVec 64) (s : State) : Out :=
  .next (match space with
    | .bar fn bar => barWrite s fn bar off size value.toNat
    | .compute mid => if s.mainUp then spaceRegWrite s mid 2 off size value.toNat else s
    | .control mid => if s.hostSupply then spaceRegWrite s mid 3 (ctlBase + off) size value.toNat else s
    | .config => configWrite s off value.toNat)

end Sys2Proof.Machine
end

