-- ==== Sys2Proof/Machine/Card.lean ====
section
/-! DEFINITION. The custodian card interface (23, 02 R51, R52). -/

namespace Sys2Proof.Machine

open Sys2Proof

/-- The Fi of TA1 with the highest Di that does not exceed its Di and keeps Fi ÷ Di at 8 or more, as a TA1 byte (23 R803). -/
def proposal (ta1 : Nat) : Nat :=
  let fi := (fiOf ta1).1
  let ok (n : Nat) : Bool := decide (diOf n ≤ diOf ta1 ∧ 8 * diOf n ≤ fi)
  let best := ([1, 2, 3, 4, 5, 6, 7, 8, 9].filter ok).foldl (fun a n => if diOf a < diOf n then n else a) 1
  ta1 / 16 % 16 * 16 + best

/-- The Fi and Di of specific mode meet the rule of a proposal: both defined, Fi ÷ Di at 8 or more (23 R803). -/
def rateFits (ta1 : Nat) : Bool :=
  let f := ta1 / 16 % 16
  let d := ta1 % 16
  decide ((f ≤ 6 ∨ (9 ≤ f ∧ f ≤ 13)) ∧ 1 ≤ d ∧ d ≤ 9 ∧ 8 * diOf ta1 ≤ (fiOf ta1).1)

/-- A card's clock with a rate in use: min(5 MHz, f_max) (23 R803). -/
def cardKhz (fidi : Nat) : Nat := min 5000 (fiOf fidi).2

/-- Activation from step 1 of Table 1, at class A 10 ms after the deactivation (23 R802). -/
def activate (s : State) (classA noPps : Bool) : State :=
  s.withTok false (fun t => {
    stage := .atr, classA := classA, noPps := noPps, khz := 4000, clockOn := true, counter := t.counter,
    waitUntil := s.now + answerWait {} false .atr + (if classA then msTicks 10 else 0) })

/-- The card is unsupported (23 R802, R803). -/
def unsupported (s : State) : State := tokGone (setResult s false 0x7036) false .failed 0x7036

/-- The card runs at a rate; S(IFS request) follows (23 Table 1 steps 6 and 7). -/
def runAt (s : State) (fidi : Nat) : State := (sendTok s false .ifs).withTok false (fun t => { t with fidi := fidi, khz := cardKhz fidi })

/-- The ATR (23 Table 1 steps 3 to 6, R803). -/
def takeAtr (s : State) (classB t1 negotiable : Bool) (fidi clockStop ifsc bwi cwi : Nat) (crc : Bool) : State :=
  let t := s.appr.card
  if !classB && !t.classA then activate s true t.noPps
  else if !t1 then unsupported s
  else
    let s1 := s.withTok false (fun t => { t with clockStop := clockStop, ifsc := ifsc, bwi := bwi, cwi := cwi, crc := crc })
    if negotiable then
      if t.noPps then (sendTok s1 false .ifs).withTok false (fun t => { t with fidi := 0x11, khz := 4000 })
      else (sendTok s1 false .pps).withTok false (fun t => { t with want := proposal fidi })
    else if rateFits fidi then runAt s1 fidi
    else unsupported s1

/-- GET STATUS: the card is READY when its key is that of a Custodian slot (23 Table 3, R808). -/
def takeStatus (s : State) (sw : Nat) (data : Bytes) : State :=
  if sw ≠ 0x9000 ∨ data.length ≠ 117 then tokGone (setResult s false 0x7034) false .failed 0x7034
  else
    let counter := leNat ((data.drop 0x63).take 4)
    match custodianOf s ((data.drop 2).take 97) with
    | some k => becomeReady s false k counter
    | none => (sendTok s false .unknown).withTok false (fun t => { t with cred := none, counter := counter })

/-- CARD_INSERTED (23 R802). -/
def execCardInserted (s : State) : Out :=
  if tokUp s false && s.appr.card.stage == .absent then .next (activate s false false) else .next s

/-- A command or its answer is outstanding. -/
def TokSt.waits (t : TokSt) : Bool :=
  match t.stage with
  | .absent | .ready | .unknown | .failed => false
  | _ => true

/-- CARD_RESPONSE (23 R802 to R804, R813, R815). -/
def execCardResponse (reply : CardReply) (s : State) : Out :=
  let t := s.appr.card
  if !tokUp s false || !t.waits then .next s
  else
    let s1 := s.withTok false (fun t => { t with seenAt := s.now })
    match t.stage, reply with
    | .atr, .atr classB t1 negotiable fidi clockStop ifsc bwi cwi crc =>
      .next (takeAtr s1 classB t1 negotiable fidi clockStop ifsc bwi cwi crc)
    | .atr, _ => .next s
    | .pps, .pps echoed => .next (if echoed then runAt s1 t.want else activate s1 t.classA true)
    | .ifs, .ifs => .next (sendTok s1 false .select)
    | .select, .resp sw _ => .next (if sw = 0x9000 then sendTok s1 false .status else tokGone (setResult s1 false 0x7034) false .failed 0x7034)
    | .status, .resp sw data => .next (takeStatus s1 sw data)
    | _, .resp sw data => .next (takeResp s1 false sw data)
    | _, .badBlock => .next (blockFails s1 false)
    -- the block in hand is sent again; a further failure ends the card
    | _, .resynch => .next (s1.withTok false (fun t => { t with waitUntil := s.now + answerWait t false t.stage }))
    | _, _ => .next s

/-- CARD_WTX (23 R805). -/
def execCardWtx (secs : Nat) (s : State) : Out :=
  let t := s.appr.card
  if !tokUp s false || !t.waits || t.stage == .atr || t.stage == .pps then .next s else .next (grantWtx s false secs)

/-- CLOCK_STOP (23 R806): card.clock.tail cycles after a response, in the state that the clock stop indicator requests, low when it
states no preference; never when the card does not support clock stop. -/
def execClockStop (s : State) : Out :=
  let t := s.appr.card
  if tokUp s false && t.clockOn && t.clockStop != 0 && (t.stage == .ready || t.stage == .unknown) &&
      decide (t.seenAt + cycTicks (s.gv gCardClockTail) (max 1 t.khz) ≤ s.now) then
    .next (s.withTok false (fun t => { t with clockOn := false, stoppedHigh := t.clockStop == 2 }))
  else .next s

/-- CARD_REMOVED (23 R807, R814). -/
def execCardRemoved (s : State) : Out :=
  if s.appr.card.stage = .absent then .next s else .next (tokGone s false .absent 0x7037)

/-- CARD_OVERCURRENT (02 R52, 23 R814). -/
def execCardOvercurrent (s : State) : Out :=
  if s.appr.card.stage = .absent ∨ s.appr.card.stage = .failed then .next s else .next (tokGone s false .failed 0x7034)

/-- BLOCK_WAITING_TIME_EXPIRY (23 R803, R804, Table 1 step 3): no ATR ends the card; no answer to the PPS is no echo. -/
def execBlockWaitingTimeExpiry (s : State) : Out :=
  let t := s.appr.card
  if !tokUp s false || !t.waits || decide (s.now < t.waitUntil) then .next s
  else if t.stage = .pps then .next (activate s t.classA true)
  else if t.stage = .atr then .next (tokGone (setResult s false 0x7034) false .failed 0x7034)
  else .next (blockFails s false)

/-- CARD_REQUEST (23 R812, R813). -/
def execCardRequest (sess : SessId) (req : BitVec 16) (value : Bytes) (s : State) : Out :=
  onMsg s sess req (fun s => requestWrite s sess req false value)

/-- CARD_MIDSTEP_CLEAR (23 R815): the step is void. -/
def execCardMidstepClear (sess : SessId) (req : BitVec 16) (value : Bytes) (s : State) : Out :=
  actWrite s sess req 0x53000B value true false (fun s =>
    match s.appr.midstep with
    | none => s
    | some m => resolveMidstep s false m false)

end Sys2Proof.Machine
end

