-- ==== Sys2Proof/Machine/Field.lean ====
section
/-! DEFINITION. The contactless reader: pings, polls, anticollision, badges and their approvals (24 R818 to R828). -/

namespace Sys2Proof.Machine

open Sys2Proof

/-- The reference amplitude: the mean of the last 16 pings that led to no poll (24 R820), as sum and count. -/
def pingRef (l : List Nat) : Nat × Nat := (l.foldl (· + ·) 0, l.length)

/-- The amplitude differs from the reference by more than the threshold's thousandths of it (24 R820). -/
def detuned (s : State) (a : Nat) : Bool :=
  let (sum, n) := pingRef s.appr.refs
  n != 0 && decide (s.gv gFieldPingThreshold * sum < 1000 * ((n * a : Int) - sum).natAbs)

/-- PING (24 R820, R821): every 250 ms, no carrier on and no outside field; a shift beyond the threshold starts a poll. -/
def execPing (amplitude : Nat) (s : State) : Out :=
  if s.gv gFieldReaderEnable ≠ 1 ∨ tokUp s true = false ∨ s.appr.carrier ∨ s.appr.external ∨ s.now < s.appr.pingAt + msTicks 250 then .next s
  else
    let s1 := s.withAppr (fun a => { a with pingAt := s.now })
    if detuned s amplitude then .next ((sendTok s1 true .atqa).withAppr (fun a => { a with carrier := true }))
    else .next (s1.withAppr (fun a => { a with refs := (a.refs ++ [amplitude]).drop (a.refs.length + 1 - 16) }))

/-- A badge that is not READY is halted; the poll goes on (24 R824). -/
def haltBadge (s : State) : State := (s.withTok true (fun _ => {})) |> fun s => sendTok s true .atqa

/-- The highest bit rate of R822 that a badge offers in both directions. -/
def badgeRate (kbit : Nat) : Nat := if 848 ≤ kbit then 848 else if 424 ≤ kbit then 424 else if 212 ≤ kbit then 212 else 106

/-- GET STATUS of a badge (24 R824, 23 R808). -/
def badgeStatus (s : State) (sw : Nat) (data : Bytes) : State :=
  if sw ≠ 0x9000 ∨ data.length ≠ 117 then haltBadge s
  else match custodianOf s ((data.drop 2).take 97) with
    | some k => becomeReady s true k (leNat ((data.drop 0x63).take 4))
    | none => haltBadge s

/-- The bits of octets in the order they are sent. -/
def sentBits (l : Bytes) : List Bool := l.flatMap (fun b => (List.range 8).map (fun i => b.getLsbD i))

/-- BADGE_RESPONSE (24 R821 to R827). Anticollision answers go on from the bits known; a collision sets its bit to 1 (24 R823). -/
def execBadgeResponse (reply : BadgeReply) (s : State) : Out :=
  let t := s.appr.badge
  if !tokUp s true || !s.appr.carrier then .next s
  else match t.stage, reply with
    | .atqa, .atqa => .next ((sendTok s true .anticoll).withTok true (fun t => { t with knownBits := [] }))
    | .anticoll, .collision l =>
      if l.take t.knownBits.length = t.knownBits then
        .next ((sendTok (s.bump gFieldCollisions) true .anticoll).withTok true (fun t => { t with knownBits := l ++ [true] }))
      else .next (blockFails s true)
    | .anticoll, .uid u =>
      if (sentBits u).take t.knownBits.length = t.knownBits then .next ((sendTok s true .sak).withTok true (fun t => { t with uid := u }))
      else .next (blockFails s true)
    | .sak, .sak => .next (sendTok s true .ats)
    | .ats, .ats kbit fwi => .next (sendTok (s.withTok true (fun t => { t with want := badgeRate kbit, fwi := fwi })) true .bpps)
    | .bpps, .pps => .next ((sendTok s true .select).withTok true (fun t => { t with rate := t.want }))
    | .select, .resp sw _ => .next (if sw = 0x9000 then sendTok s true .status else haltBadge s)
    | .status, .resp sw data => .next (badgeStatus s sw data)
    | _, .resp sw data => .next (takeResp s true sw data)
    | .absent, _ => .next s
    | .ready, _ => .next s
    | _, .badBlock => .next (blockFails s true)
    | _, .wtx secs => .next (grantWtx s true secs)
    | _, _ => .next s

/-- FRAME_WAITING_TIME_EXPIRY (24 R821, R822, R827): no ATQA ends the poll; a block without answer is sent again, then the badge has
left. -/
def execFrameWaitingTimeExpiry (s : State) : Out :=
  let t := s.appr.badge
  if !tokUp s true || !s.appr.carrier || decide (s.now < t.waitUntil) then .next s
  else match t.stage with
    | .absent | .ready => .next s
    | .atqa => .next (tokGone s true .absent 0x7037)
    | _ => .next (blockFails s true)

/-- BADGE_PRESENCE_CHECK (24 R828): `answered` within two retransmissions. -/
def execBadgePresenceCheck (answered : Bool) (s : State) : Out :=
  let t := s.appr.badge
  if !tokUp s true || t.stage != .ready || decide (s.now < t.seenAt + msTicks 250) then .next s
  else if answered then .next (s.withTok true (fun t => { t with seenAt := s.now }))
  else .next (tokGone s true .absent 0x7037)

/-- EXTERNAL_FIELD (24 R818, R819): a field sensed while CLR drives its own carrier is no outside field. -/
def execExternalField (s : State) : Out :=
  if s.appr.carrier then .next s else .next (s.withAppr (fun a => { a with external := true }))

/-- FIELD_REQUEST (24 R826). -/
def execFieldRequest (sess : SessId) (req : BitVec 16) (value : Bytes) (s : State) : Out :=
  onMsg s sess req (fun s => requestWrite s sess req true value)

end Sys2Proof.Machine
end

