-- ==== Sys2Proof/Machine/TagCmds.lean ====
section
/-! DEFINITION. The inventory tag: transactions, the tag's commands, and the host's accesses of tag memory (24 R829 to R839). -/

namespace Sys2Proof.Machine

open Sys2Proof

/-- CLT answers by passive load modulation: SENTINEL with the budget spent (24 R831, R833). -/
def passive (s : State) : Bool := s.modeNum == 0 && budgetSpent s

/-- CLT has a supply, or needs none (18 Table 3, 24 R833). -/
def cltUp (s : State) : Bool := decide (s.isl 235 ≤ 1) && (s.hostSupply || !s.power.cellExhausted || budgetSpent s)

/-- TAG_TRANSACTION_START (24 R830 to R832): counters 1, in SENTINEL within the budget, and 0 rise before the first ATQA, 0x0004. -/
def execTagTransactionStart (s : State) : Out :=
  if s.appr.carrier ∨ s.tag.muted ∨ s.tag.txn.isSome ∨ cltUp s = false then .next s
  else
    let counted := s.modeNum == 0 && !budgetSpent s
    let s1 := if counted then refreshTag ((tagAdd s 1 1).getD s) else s
    let s2 := (tagAdd s1 0 1).getD s1
    .next ((s2.withTag (fun t => { t with txn := some s.now, selected := false, out := toLE 2 4 })).withAppr (fun a => { a with external := true }))

/-- The tag's response: data and status word (24 Table 3). -/
def tagAnswer (s : State) (data : Bytes) (sw : Nat) : State := s.withTag (fun t => { t with out := data ++ toBE 2 sw })

/-- A tag command within a transaction. -/
def onTag (s : State) (f : State → State) : Out := if s.tag.txn.isSome then .next (f s) else .next s

/-- AID of the inventory application (24 Table 2). -/
def tagAid : Bytes := [0xF0, 0x56, 0x5A, 0x4D, 0x37, 0x32, 0x31, 0x36, 0x49, 0x56]

/-- TAG_SELECT. -/
def execTagSelect (aid : Bytes) (s : State) : Out :=
  onTag s (fun s => if aid = tagAid then tagAnswer (s.withTag (fun t => { t with selected := true })) [] 0x9000 else tagAnswer s [] 0x6A82)

/-- READ_BINARY (24 Table 3, R833). -/
def execReadBinary (off len : Nat) (s : State) : Out :=
  onTag s (fun s =>
    if passive s ∧ (len = 0 ∨ 0x70 < off + len) then tagAnswer s [] 0x6A82
    else if len = 0 ∨ 256 < len then tagAnswer s [] 0x6700
    else if 0x2000 < off + len then tagAnswer s [] 0x6A86
    else tagAnswer s (tagBytes s off len) 0x9000)

/-- UPDATE_BINARY (24 Table 3). -/
def execUpdateBinary (off : Nat) (data : Bytes) (s : State) : Out :=
  onTag s (fun s =>
    if passive s then tagAnswer s [] 0x6A82
    else if data.isEmpty ∨ 240 < data.length then tagAnswer s [] 0x6700
    else if off < 0x400 ∨ 0x2000 < off + data.length ∨ s.gv gTagFieldWrite ≠ 1 then tagAnswer s [] 0x6982
    else tagAnswer (s.withTag (fun t => { t with user := Mem.write 0 t.user off data })) [] 0x9000)

/-- INCREMENT (24 Table 3, R837); `torn`: the field dies while the copy is written, and no response is sent. -/
def execIncrement (ctr : Nat) (data : Bytes) (torn : Bool) (s : State) : Out :=
  onTag s (fun s =>
    if passive s then tagAnswer s [] 0x6A82
    else if data.length ≠ 4 then tagAnswer s [] 0x6700
    else if 16 ≤ ctr ∨ leNat data = 0 then tagAnswer s [] 0x6D00
    else if ctr < 8 ∨ s.gv gTagFieldWrite ≠ 1 then tagAnswer s [] 0x6982
    else match tagAdd s ctr (leNat data) with
      | none => tagAnswer s [] 0x6985
      | some s1 => if torn then (tagTear s ctr).withTag (fun t => { t with out := [] }) else tagAnswer s1 (toLE 4 (tagCount s1 ctr)) 0x9000)

/-! ### The host's accesses (24 R838, R840) -/

/-- A read of tag.mem.block. -/
def tagRead (s : State) (x : SessId) (req : BitVec 16) (off len : Nat) : State :=
  let st := readCheck s x 0x541005
  if st ≠ 0 then replyStatus (countRefusal s st false) x 0x10 req st []
  else replyRead s x req (tagBytes s ((s.sess x).selVal 0x541004) 256) off len

/-- A write of tag.mem.block: only within the user area. -/
def tagWrite (s : State) (x : SessId) (req : BitVec 16) (v : Bytes) : State :=
  let off := (s.sess x).selVal 0x541004
  let st := writeCheck s x 0x541005 v (decide (0x400 ≤ off)) false
  if st ≠ 0 then replyStatus (countRefusal s st true) x 0x11 req st []
  else
    let s1 := s.withTag (fun t => { t with user := Mem.write 0 t.user off v })
    replyStatus (s1.withMgmt (fun m => { m with rwpAt := Tab.set m.rwpAt (0x541005 * 65536 + off) s.now })) x 0x11 req 0 []

/-- A write of tag.counter.add: counters 8 to 15; a saturated counter is refused. -/
def tagHostAdd (s : State) (x : SessId) (req : BitVec 16) (v : Bytes) : State :=
  let n := (s.sess x).selVal 0x541006
  let st := writeCheck s x 0x541008 v (decide (8 ≤ n)) false
  if st ≠ 0 then replyStatus (countRefusal s st false) x 0x11 req st []
  else match tagAdd s n (leNat v) with
    | none => replyStatus s x 0x11 req 0x7022 []
    | some s1 => replyStatus s1 x 0x11 req 0 []

/-- A host access carried out. -/
def tagAccess (s : State) (w : TagWait) : State :=
  match w.value with
  | none => tagRead s w.sess w.req w.off w.len
  | some v => if w.key = 0x541008 then tagHostAdd s w.sess w.req v else tagWrite s w.sess w.req v

/-- A host access that finds a transaction holding the memory waits (24 R838). -/
def tagHost (s : State) (w : TagWait) : State :=
  if s.tag.txn.isSome then s.withTag (fun t => { t with waits := t.waits ++ [w] }) else tagAccess s w

/-- TAG_MEM_BLOCK. -/
def execTagMemBlock (sess : SessId) (req : BitVec 16) (data : Option Bytes) (s : State) : Out :=
  onMsg s sess req (fun s => tagHost s { sess := sess, req := req, key := 0x541005, value := data, since := s.now })

/-- TAG_COUNTER_ADD. -/
def execTagCounterAdd (sess : SessId) (req : BitVec 16) (value : Bytes) (s : State) : Out :=
  onMsg s sess req (fun s => tagHost s { sess := sess, req := req, key := 0x541008, value := some value, since := s.now })

/-- TAG_HOST_TIMEOUT (24 R838): still held 5 ms after its arrival, the oldest waiting access is refused. -/
def execTagHostTimeout (s : State) : Out :=
  match s.tag.waits with
  | [] => .next s
  | w :: l =>
    if s.tag.txn.isSome ∧ w.since + msTicks 5 ≤ s.now then
      .next (replyStatus ((s.withTag (fun t => { t with waits := l })).bump gTagBusy) w.sess (if w.value.isSome then 0x11 else 0x10) w.req 0x7024 [])
    else .next s

/-- A transaction ends: waiting accesses are served, a status block that waits is rewritten (24 R838, R839). -/
def endTxn (s : State) : State :=
  let l := s.tag.waits
  let due := s.tag.statusDue
  let s1 := s.withTag (fun t => { t with txn := none, selected := false, waits := [] })
  l.foldl tagAccess (if due then refreshTag s1 else s1)

/-- TAG_TRANSACTION_END (24 R830): HLTA, S(DESELECT) or loss of the field. -/
def execTagTransactionEnd (s : State) : Out := onTag s endTxn

/-- EXTERNAL_FIELD_GONE (24 R819, R830): no outside field for 100 ms; a transaction still open has lost its field, and a muted tag may
answer again. -/
def execExternalFieldGone (s : State) : Out :=
  let s1 := if s.tag.txn.isSome then endTxn s else s
  .next ((s1.withAppr (fun a => { a with external := false })).withTag (fun t => { t with muted := false }))

/-- TAG_TRANSACTION_TIMEOUT (24 R830): 300 ms after it began; CLT stays mute until the field has been absent. -/
def execTagTransactionTimeout (s : State) : Out :=
  match s.tag.txn with
  | some t => if t + msTicks 300 ≤ s.now then .next ((endTxn s).withTag (fun t => { t with muted := true })) else .next s
  | none => .next s

end Sys2Proof.Machine
end

