-- ==== Sys2Proof/Machine/GlossView.lean ====
section
/-! DEFINITION. What a read of a Glossary entry shows (22 R764, R766; the Glossary tables of 03 to 24), and the status LEDs (02 R45,
R46). -/

namespace Sys2Proof.Machine

open Sys2Proof

/-- A mask of the numbers below `n` that pass a test. -/
def maskOf (n : Nat) (p : Nat → Bool) : Nat := ((List.range n).filter p).foldl (fun a k => a + 2 ^ k) 0

/-- Jobs as an entry of the compute die shows them: as they stood when its islands were struck (18 R661). -/
def shownJobs (s : State) : State := if s.mainUp then s else { s with jobs := s.stood }

/-- A half of the squad has fewer than 16 working lanes (06 R260). -/
def degraded (x : Squad) : Bool := decide (working x.failA < 16 ∨ working x.failB < 16)

/-- squad.state (06 Table 7). -/
def squadState (s : State) (q : Nat) : Nat :=
  let x := s.squad q
  let busy := !x.slots.isEmpty || x.gang.isSome
  if x.mode = 0 then b2n (degraded x)
  else if x.mode = 3 then (if s.lanes.selfTest = some q ∧ !busy then 5 else 3)
  else if x.mode = 4 then (if busy then 3 else 4)
  else x.mode

/-- lane.active.now (06 Table 7). -/
def lanesNow (s : State) : Nat :=
  (squadsUp s).foldl (fun a q => a + working (s.squad q).failA + working (s.squad q).failB) 0

/-- The class block of a partition (11 R444). -/
def meterCls (s : State) (p c : Nat) : MeterCls := s.meter.cls.get {} (p * 4 + c)

/-- Bytes appended in the last full second (16 Table 15). -/
def vaultRate (s : State) : Nat :=
  let sec := s.now / secTicks 1
  if s.vault.rateSec = sec then s.vault.ratePrev else if s.vault.rateSec + 1 = sec then s.vault.rateNow else 0

/-- Commits served in the last full second (09 Table 14). -/
def commitRate (s : State) : Nat :=
  let sec := s.now / secTicks 1
  (s.keys.served.filter (fun e => decide (e.1 / secTicks 1 + 1 = sec))).length

/-- A measured clock: 0 while struck; nothing fixes a measurement of an island in service, which is free (17 Table 5). -/
def clockNow (s : State) (n : Nat) : Nat := if s.isl n ≤ 1 then Config.freeNat s.free % (islKhz s n + 1) else 0

/-- Entries of chapters 03 to 08 that show a number held elsewhere. -/
def viewA (s : State) (key sel : Nat) : Option Nat :=
  let q := s.squad sel
  match key with
  | 0x200001 => some (if s.mainUp ∧ s.link.state ≠ .l0 then 0 else s.link.width)
  | 0x200002 => some (if s.mainUp ∧ s.link.state ≠ .l0 then 0 else s.link.rate)
  | 0x200005 => some (if s.link.vfEnable then s.link.numVfs else 0)
  | 0x211003 => some (s.part sel).tdi.state
  | 0x220002 => some (shownJobs s).ctxUsed
  | 0x221003 => some ((shownJobs s).inFlight sel)
  | 0x221004 => some (toTwos 64 (s.disp.deficit.get 0 sel))
  | 0x221005 => some ((shownJobs s).slotsOf sel)
  | 0x300003 => some (lanesNow s)
  | 0x300004 => some (sparesLeft s)
  | 0x300005 => some (maskOf 32 (fun k => (s.squad k).mode == 2))
  | 0x300006 => some (maskOf 32 (fun k => degraded (s.squad k)))
  | 0x300008 => some s.lanes.park.length
  | 0x301001 => some (squadState s sel)
  | 0x301002 => some (working q.failA)
  | 0x301003 => some (working q.failB)
  | 0x301004 => some (spareUsed q.failA + spareUsed q.failB)
  | 0x301005 => some q.slots.length
  | 0x301006 => some q.owner
  | _ => none

/-- Entries of chapters 09 to 16. -/
def viewB (s : State) (key sel : Nat) : Option Nat :=
  let c := meterCls s sel
  match key with
  | 0x330002 => some s.keys.slots.length
  | 0x330005 => some (commitRate s)
  | 0x331002 => some (slotsHeld s sel)
  | 0x331003 => some (s.keys.slots.countP (fun k => k.owner == sel && k.vol))
  | 0x331004 => some (s.keys.queues.get [] sel).length
  | 0x341002 => some (maskOf 12 (fun e => s.isl (strIsl e) == 3))
  | 0x350002 => some s.meter.seq
  | 0x350003 => some ((s.meter.openMin.map (·.start)).getD 0)
  | 0x350004 => some ((s.meter.openMin.map (·.flags)).getD 0)
  | 0x350006 => some (s.meter.ready.foldl (fun a e => max a e.2) 0)
  | 0x351005 => some ((c 0).acc + (c 1).acc + (c 2).acc + (c 3).acc)
  | 0x351006 => some ((c 0).life * 2 ^ 32)
  | 0x351007 => some ((c 1).life * 2 ^ 32)
  | 0x351008 => some ((c 2).life * 2 ^ 32)
  | 0x351009 => some ((c 3).life * 2 ^ 32)
  | 0x35100A => some (toTwos 64 (c 0).carry)
  | 0x35100B => some (toTwos 64 (c 1).carry)
  | 0x35100C => some (toTwos 64 (c 2).carry)
  | 0x35100D => some (toTwos 64 (c 3).carry)
  | 0x402006 => some (b2n (standbyUp s))
  | 0x411001 => some (guardSlots sel)
  | 0x411002 => some ((s.guards.get {} sel).active.countP (fun v => rSize v != 0))
  | 0x420004 => some (s.code.sectors.countP (fun u => u.state == 4))
  | 0x420005 => some (s.code.sectors.foldl (fun a e => max a e.2.count) 0)
  | 0x421001 => some (2 * s.vault.runs.foldl (fun a r => a + liveBytes r) 0)
  | 0x421002 => some (s.vault.blocks.countP (fun u => u.state == 5))
  | 0x421003 => some (s.vault.blocks.foldl (fun a e => max a e.2.count) 0)
  | 0x421004 => some (s.vault.blocks.foldl (fun a e => a + e.2.count) 0 * 1000 / (43520 * 185000))
  | 0x421005 => some (vaultRate s)
  | _ => none

/-- Entries of chapters 17 to 20. -/
def viewC (s : State) (key sel : Nat) : Option Nat :=
  match key with
  | 0x120001 => some s.clock.tstate
  | 0x120002 => some s.dtbNs
  | 0x120003 => some (toTwos 64 s.clock.rate)
  | 0x120004 => some (toTwos 64 s.clock.rateF)
  | 0x120007 => some (holdoverLeft s)
  | 0x120009 => some s.clock.otc
  | 0x12000A => some s.clock.pcc
  | 0x12000B => some s.clock.st
  | 0x12000C => some s.evr.aseq
  | 0x121002 => some (if sel < 200 then 0 else 1)
  | 0x121003 => some (islKhz s sel)
  | 0x121004 => some (clockNow s sel)
  | 0x121005 => some (s.isl sel)
  | 0x110001 => some s.modeNum
  | 0x110002 => some s.mode.code.toNat
  | 0x110003 => some s.mode.phase.toNat
  | 0x110004 => some s.mode.previous
  | 0x110007 => some (Config.freeNat s.free % 151)
  | 0x112002 => some (islDomain sel)
  | 0x501002 => some (s.monN sel)
  | 0x501003 => some (s.monW sel)
  | 0x501004 => some (s.monResp sel)
  | 0x501005 => some (monFloor sel)
  | _ => none

/-- Entries of chapters 21 to 24. -/
def viewD (s : State) (key sel : Nat) : Option Nat :=
  let x := s.cset sel
  let t := s.appr.card
  let b := s.appr.badge
  match key with
  | 0x510001 => some s.evr.rnum
  | 0x510002 => some s.evr.foundingUsed
  | 0x510004 => some ((s.evr.rolling.head?.map (·.rnum)).getD 0)
  | 0x510007 => some s.evr.queue.length
  | 0x521009 => some (s.mgmt.gap.countP (fun z => z.opened))
  | 0x522003 => some (s.mgmt.slots.countP (fun z => z.isHeld))
  | 0x523001 => some x.code.toNat
  | 0x523002 => some x.id
  | 0x523004 => some (csLeft s x)
  | 0x523005 => some x.final
  | 0x523006 => some x.reason
  | 0x525001 => some (s.cred sel).role
  | 0x525004 => some (s.cred sel).counter
  | 0x530001 => some (tokState t)
  | 0x530002 => some (if t.stage = .absent then 0 else if t.classA then 1 else 2)
  | 0x530003 => some t.fidi
  | 0x530004 => some (if t.clockOn then t.khz else 0)
  | 0x530006 => some (t.cred.getD 0xFF)
  | 0x530007 => some t.counter
  | 0x53000A => some ((s.appr.midstep.map (·.change)).getD 0)
  | 0x540004 => some (tokState b)
  | 0x540005 => some (b.cred.getD 0xFF)
  | 0x540006 => some b.rate
  | 0x540009 => some (b2n s.appr.external)
  | 0x541003 => some (tagCount s 1)
  | 0x541007 => some (tagCount s sel)
  | _ => none

/-- Entries of octets or text; guard.active and guard.stage show the slot that guard.slot.select names, zero above the guard's count
(15 Table 8). -/
def viewOctets (s : State) (x : Sess) (key sel : Nat) : Option Bytes :=
  let slot := x.selVal 0x410200
  match key with
  | 0x36000B => some (packBits (condXor katBits) 256)
  | 0x36000C => some (packBits (condVn katBits) 128)
  | 0x36000D => some Config.drbgKat
  | 0x411003 => some (toLE 16 (if slot < guardSlots sel then (s.guards.get {} sel).active.get 0 slot else 0))
  | 0x411004 => some (toLE 16 (if slot < guardSlots sel then (s.guards.get {} sel).staging.get 0 slot else 0))
  | 0x121001 => some (ascii (islName sel))
  | 0x112001 => some (ascii (islName sel))
  | 0x100001 => some Config.serial
  | 0x100006 => some Config.dikCert
  | 0x100007 => some (Config.minuteCert s.life.keyGen)
  | 0x501001 => some (ascii (monName sel))
  | 0x51000B => some (readBlock s (x.selVal 0x510009) (x.selVal 0x51000A))
  | 0x521002 => some Config.mac
  | 0x523003 => some (s.cset sel).hash
  | 0x525002 => some (s.cred sel).key
  | 0x525003 => some (s.cred sel).label
  | _ => none

/-- The number that an entry shows; one that nothing else holds is stored under its address and selector (22 R764). -/
def entryNat (s : State) (x : Sess) (r : GRow) : Nat :=
  let sel := selFor x r
  if isSelector r.key then x.selVal r.key
  else match viewA s r.key sel with
    | some n => n
    | none => match viewB s r.key sel with
      | some n => n
      | none => match viewC s r.key sel with
        | some n => n
        | none => (viewD s r.key sel).getD (s.gls.get r.dflt (r.key * 65536 + sel))

/-- The value that a read of an entry shows; a WO entry shows zero (22 Table 2). -/
def glossBytes (s : State) (x : Sess) (r : GRow) : Bytes :=
  if r.acc == .wo then zeros r.ty.size
  else if r.ty.isNum then toLE r.ty.size (entryNat s x r)
  else fit r.ty.size ((viewOctets s x r.key (selFor x r)).getD [])

/-! ### Status LEDs (02 Table 2) -/

/-- What an LED shows; blinking LEDs are lit for half of each period. -/
inductive Led where
  | dark | steady | blink1Hz
  | green | amber | greenBlink1Hz | amberBlink2Hz | alternating2Hz
  deriving DecidableEq, Repr

/-- The PWR LED. -/
def ledPwr (s : State) : Led := if s.modeNum = 0 then .dark else if s.modeNum = 1 then .blink1Hz else .steady

/-- The MODE LED. -/
def ledMode (s : State) : Led :=
  match s.modeNum with
  | 2 => .amberBlink2Hz | 3 => .green | 4 => .greenBlink1Hz | 5 => .alternating2Hz | 7 => .amber | _ => .dark

/-- The ALRT LED (02 R46, 20 R733); it is lit in a DORMANT that has no valid image (19 R691). -/
def ledAlrt (s : State) : Led :=
  if s.modeNum = 0 then .dark else if s.modeNum = 6 ∨ (s.modeNum = 1 ∧ s.mode.noImage) then .steady else if s.gv gTamperAlertPending ≠ 0 then .blink1Hz else .dark

end Sys2Proof.Machine
end

