-- ==== Sys2Proof/Machine/Gloss.lean ====
section
/-! DEFINITION. READ and WRITE of Glossary entries (22 R763 to R769, R788, R789). -/

namespace Sys2Proof.Machine

open Sys2Proof

/-! ### READ -/

/-- READ (22 R788): a LENGTH above 1,024 breaks the message's form; a host access of tag memory may wait (24 R838). Every read moves the
model's counter of free values, from which measured values come. -/
def execRead (sess : SessId) (req : BitVec 16) (index sub off len : Nat) (s : State) : Out :=
  let key := index * 256 + sub
  onMsg s sess req (fun s =>
    if 1024 < len then replyStatus s sess 0x10 req 0x7027 []
    else if key = 0x541005 then tagHost s { sess := sess, req := req, key := key, value := none, off := off, len := len, since := s.now }
    else
      let st := readCheck s sess key
      match glossRow key with
      | none => replyStatus s sess 0x10 req st []
      | some r =>
        if st ≠ 0 then replyStatus (countRefusal s st false) sess 0x10 req st []
        else replyRead { s with free := s.free + 1 } sess req (glossBytes s (s.sess sess) r) off len)

/-! ### WRITE -/

/-- The reply to a WRITE. -/
def wrote (s : State) (x : SessId) (req : BitVec 16) (st : Nat) : State := replyStatus s x 0x11 req st []

/-- A value made durable before its reply; the entry's interval starts (22 R767). -/
def writeRwp (s : State) (x : SessId) (req : BitVec 16) (r : GRow) (v : Bytes) : State :=
  let k := r.key * 65536 + selFor (s.sess x) r
  wrote (({ s with gls := s.gls.set k (leNat v) } : State).withMgmt (fun m => { m with rwpAt := Tab.set m.rwpAt k s.now })) x req 0

/-- A credential entry written in ENROL by the mailbox session, at once (22 R768, R769). -/
def writeCred (s : State) (x : SessId) (req : BitVec 16) (r : GRow) (v : Bytes) : State :=
  let t := s.mgmt.creds.upd {} (selFor (s.sess x) r) (fun c => credSet c (r.key % 256) v)
  if r.key = 0x525002 ∧ credsClash t then wrote s x req 0x7025 else wrote (setCreds s t) x req 0

/-- The session's draft with a record put in: a second write to the same entry under the same selectors replaces the value in place (22
R789). -/
def draftPut (l : List CsRec) (d : CsRec) : List CsRec :=
  let same (e : CsRec) : Bool := e.idx == d.idx && e.sub == d.sub && e.selA == d.selA && e.selB == d.selB
  if l.any same then l.map (fun e => if same e then d else e) else l ++ [d]

/-- A DUAL write that passes Table 2 adds a record to the draft and changes nothing in force (22 R766, R789). -/
def writeDraft (s : State) (x : SessId) (r : GRow) (v : Bytes) : State :=
  let p := selPair (s.sess x) r
  s.withSess x (fun z => { z with
    draft := draftPut z.draft { idx := r.key / 256, sub := r.key % 256, selA := p.1, selB := p.2, value := v } })

/-- Sets not yet approved that cover a guard are cancelled by a write to its staging bank (15 R582, 22 R796). -/
def cancelGuard (s : State) (g : Nat) : State :=
  ((List.range 16).filter (fun k => (s.cset k).isOpen && (setGuards (s.cset k)).contains g)).foldl (fun s k => freeSet s k 0x7001 4) s

/-- A write of guard.stage: the rules of the slot, the overlap within the staged set, a commit in progress; then the staging bank and
the draft (15 R570, R579, R581, R583). -/
def writeStage (s : State) (x : SessId) (req : BitVec 16) (r : GRow) (v : Bytes) : State :=
  let z := s.sess x
  let g := selFor z r
  let slot := z.selVal 0x410200
  let s1 := cancelGuard s g
  let st := if guardSlots g ≤ slot then 0x7022 else stageCheck s1 g slot (leNat v)
  if st ≠ 0 then wrote (if st = 0x3013 then s.bump gGuardOverlapRefused else s) x req st
  else wrote (writeDraft (stageSlot s1 g slot (leNat v)) x r v) x req 0

/-- A write of rng.kat.run starts the tests, whose end RNG_KAT_RUN tells (12 R490). -/
def startKat (s : State) : State := s.gset gRngKatResult 3

/-- A write of rns.selftest.run takes one squad out of dispatch; the spec does not say which (05 R237). -/
def writeSelftest (s : State) : State :=
  let l := (List.range 32).filter (selftestFree s)
  let (n, s1) := s.drawNat
  match l[n % l.length]? with
  | some q => startSelftest s1 q
  | none => s1

/-- The unit behind an entry is busy: the tests run, or no squad can be taken (05 R237, 12 R490). -/
def entryBusy (s : State) (key : Nat) : Bool :=
  if key = 0x360009 then s.gv gRngKatResult == 3
  else if key = 0x310009 then s.gv gRnsSelftestResult == 3 || !s.serving || !((List.range 32).any (selftestFree s))
  else false

/-- A WRITE that no row of its own serves: the checks of Table 2, then what the entry's access code says (22 R765 to R769). In ENROL a GAP
session cannot write a credential. -/
def writeEntry22 (s : State) (x : SessId) (req : BitVec 16) (key : Nat) (v : Bytes) : State :=
  let st := writeCheck s x key v (!(credKeys key && s.inEnrol && x != .mailbox)) (entryBusy s key)
  match glossRow key with
  | none => wrote s x req st
  | some r =>
    if st ≠ 0 then wrote (countRefusal s st (r.acc == .rwp)) x req st
    else if key = 0x360009 then wrote (startKat s) x req 0
    else if key = 0x310009 then wrote (writeSelftest s) x req 0
    else if key = 0x411004 then writeStage s x req r v
    else match r.acc with
      | .rw => wrote (s.withSess x (fun z => { z with sel := Tab.set z.sel key (leNat v) })) x req 0
      | .rwp => writeRwp s x req r v
      | .dual => if directCred s x key then writeCred s x req r v else wrote (writeDraft s x r v) x req 0
      | _ => wrote s x req 0

/-- WRITE (22 R765): an entry whose write is a row of its own acts as that row. -/
def execWrite (sess : SessId) (req : BitVec 16) (index sub : Nat) (value : Bytes) (s : State) : Out :=
  match index * 256 + sub with
  | 0x110005 => execModeTarget sess req value s
  | 0x11000A => execServiceEnd sess req value s
  | 0x500002 => execAlertAck sess req value s
  | 0x530008 => execCardRequest sess req value s
  | 0x53000B => execCardMidstepClear sess req value s
  | 0x540007 => execFieldRequest sess req value s
  | 0x541005 => execTagMemBlock sess req (some value) s
  | 0x541008 => execTagCounterAdd sess req value s
  | key => onMsg s sess req (fun s => writeEntry22 s sess req key value)

end Sys2Proof.Machine
end

