-- ==== Sys2Proof/Machine/RngFail.lean ====
section
/-! DEFINITION. Noise channels that fail, with the core reads that stall then (12 R464, R471, R478, R486, R487, R490). -/

namespace Sys2Proof.Machine

open Sys2Proof

/-- A channel RETIRED by a test; the reads of its path that stall at that moment fail (12 R486). -/
def retireChan (s : State) (c test : Nat) : State := failStalled (retire s c test) (chanPath c)

/-- RNG_RETIRED (12 R464, R471, R486): a health or known-answer test fails on a channel that runs. -/
def execRngRetired (chan test : Nat) (s : State) : Out :=
  if decide (chan < 8) && decide ((s.noise chan).state ≤ 1) && decide (1 ≤ test ∧ test ≤ 3) then .next (retireChan s chan test)
  else .next s

/-- START_TIMEOUT (12 R478): 150 µs without passing. -/
def execStartTimeout (chan : Nat) (s : State) : Out :=
  let x := s.noise chan
  if decide (chan < 8) && x.state == 0 && decide (x.startedAt + usTicks 150 ≤ s.now) then .next (retireChan s chan 4)
  else .next s

/-- RNG_KAT_RUN (12 R490): `failed` names the units that fail, channels 0 to 7 and expanders 8 upward. -/
def execRngKatRun (which : Nat) (failed : List Nat) (s : State) : Out :=
  if !s.mainUp || which == 0 || decide (3 < which) then .next s
  else
    let ch := (List.range 8).filter (fun c => which != 2 && failed.contains c && decide ((s.noise c).state ≤ 1))
    let ex := (List.range 18).filter (fun e => which != 1 && failed.contains (8 + e))
    let s1 := ch.foldl (fun s c => retireChan s c 3) s
    let s2 := ex.foldl (fun s e => s.withExp e (fun _ => { failed := true })) s1
    .next (s2.gset gRngKatResult (if ch.isEmpty && ex.isEmpty then 1 else 2))

end Sys2Proof.Machine
end

