-- ==== Sys2Proof/Machine/VerbData.lean ====
section
/-! DEFINITION. Verb-14, DATA, IMMEDIATE, FLOW and ACC classes (13 Tables 10 and 12, R514, R515, R520). -/

namespace Sys2Proof.Machine

open Sys2Proof

/-! ### DATA (13 Table 10) -/

/-- One word that computes Dd and flags from Dd, Ds and ST; Dd keeps its value where `f` gives none. -/
def dataOp (s : State) (u : Nat) (dd ds : Fin 8) (f : BitVec 32 → BitVec 32 → BitVec 32 → Option (BitVec 32) × Fl) : State :=
  runVerb s u 1 (onRegs u (fun o r =>
    let y := f (o.d.get dd) (o.d.get ds) o.st
    let r1 := r.setSt (y.2.apply r.st)
    match y.1 with
    | some v => r1.setD dd v
    | none => r1))

/-- A result with its flags. -/
def res (p : BitVec 32 × Fl) : Option (BitVec 32) × Fl := (some p.1, p.2)

/-- A logical result. -/
def resL (v : BitVec 32) : Option (BitVec 32) × Fl := (some v, logicF v)

/-- A product: Z and N alone. -/
def resP (v : BitVec 32) : Option (BitVec 32) × Fl := (some v, znF v)

/-- A result that changes no flag. -/
def resM (v : BitVec 32) : Option (BitVec 32) × Fl := (some v, {})

/-- MOV. -/
def execMov (u : Nat) (dd ds : Fin 8) (s : State) : Out := .next (dataOp s u dd ds (fun _ b _ => resM b))
/-- ADD. -/
def execAdd (u : Nat) (dd ds : Fin 8) (s : State) : Out := .next (dataOp s u dd ds (fun a b _ => res (addF a b false)))
/-- ADC. -/
def execAdc (u : Nat) (dd ds : Fin 8) (s : State) : Out := .next (dataOp s u dd ds (fun a b st => res (addF a b (stC st))))
/-- SUB. -/
def execSub (u : Nat) (dd ds : Fin 8) (s : State) : Out := .next (dataOp s u dd ds (fun a b _ => res (subF a b false)))
/-- SBC. -/
def execSbc (u : Nat) (dd ds : Fin 8) (s : State) : Out := .next (dataOp s u dd ds (fun a b st => res (subF a b (stC st))))
/-- CMP. -/
def execCmp (u : Nat) (dd ds : Fin 8) (s : State) : Out := .next (dataOp s u dd ds (fun a b _ => (none, (subF a b false).2)))
/-- AND. -/
def execAnd (u : Nat) (dd ds : Fin 8) (s : State) : Out := .next (dataOp s u dd ds (fun a b _ => resL (a &&& b)))
/-- OR. -/
def execOr (u : Nat) (dd ds : Fin 8) (s : State) : Out := .next (dataOp s u dd ds (fun a b _ => resL (a ||| b)))
/-- XOR. -/
def execXor (u : Nat) (dd ds : Fin 8) (s : State) : Out := .next (dataOp s u dd ds (fun a b _ => resL (a ^^^ b)))
/-- ANDN. -/
def execAndn (u : Nat) (dd ds : Fin 8) (s : State) : Out := .next (dataOp s u dd ds (fun a b _ => resL (a &&& ~~~b)))
/-- TST. -/
def execTst (u : Nat) (dd ds : Fin 8) (s : State) : Out := .next (dataOp s u dd ds (fun a b _ => (none, logicF (a &&& b))))
/-- NEG. -/
def execNeg (u : Nat) (dd ds : Fin 8) (s : State) : Out := .next (dataOp s u dd ds (fun _ b _ => res (subF 0 b false)))
/-- NOT. -/
def execNot (u : Nat) (dd ds : Fin 8) (s : State) : Out := .next (dataOp s u dd ds (fun _ b _ => resL (~~~b)))
/-- SHL. -/
def execShl (u : Nat) (dd ds : Fin 8) (s : State) : Out := .next (dataOp s u dd ds (fun a b _ => res (shlF a (b.toNat % 32))))
/-- SHR. -/
def execShr (u : Nat) (dd ds : Fin 8) (s : State) : Out := .next (dataOp s u dd ds (fun a b _ => res (shrF a (b.toNat % 32))))
/-- SAR. -/
def execSar (u : Nat) (dd ds : Fin 8) (s : State) : Out := .next (dataOp s u dd ds (fun a b _ => res (sarF a (b.toNat % 32))))
/-- ROR. -/
def execRor (u : Nat) (dd ds : Fin 8) (s : State) : Out := .next (dataOp s u dd ds (fun a b _ => res (rorF a (b.toNat % 32))))
/-- MUL. -/
def execMul (u : Nat) (dd ds : Fin 8) (s : State) : Out := .next (dataOp s u dd ds (fun a b _ => resP (a * b)))
/-- MULHU. -/
def execMulhu (u : Nat) (dd ds : Fin 8) (s : State) : Out :=
  .next (dataOp s u dd ds (fun a b _ => resP (BitVec.ofNat 32 (a.toNat * b.toNat / 2 ^ 32))))
/-- MULHS. -/
def execMulhs (u : Nat) (dd ds : Fin 8) (s : State) : Out :=
  .next (dataOp s u dd ds (fun a b _ => resP (BitVec.ofInt 32 (a.toInt * b.toInt / 2 ^ 32))))
/-- MINU. -/
def execMinu (u : Nat) (dd ds : Fin 8) (s : State) : Out := .next (dataOp s u dd ds (fun a b _ => resM (if a.ult b then a else b)))
/-- MAXU. -/
def execMaxu (u : Nat) (dd ds : Fin 8) (s : State) : Out := .next (dataOp s u dd ds (fun a b _ => resM (if a.ult b then b else a)))
/-- MINS. -/
def execMins (u : Nat) (dd ds : Fin 8) (s : State) : Out := .next (dataOp s u dd ds (fun a b _ => resM (if a.slt b then a else b)))
/-- MAXS. -/
def execMaxs (u : Nat) (dd ds : Fin 8) (s : State) : Out := .next (dataOp s u dd ds (fun a b _ => resM (if a.slt b then b else a)))
/-- CLZ. -/
def execClz (u : Nat) (dd ds : Fin 8) (s : State) : Out := .next (dataOp s u dd ds (fun _ b _ => resM (clz32 b)))
/-- POPC. -/
def execPopc (u : Nat) (dd ds : Fin 8) (s : State) : Out := .next (dataOp s u dd ds (fun _ b _ => resM (BitVec.ofNat 32 (popcount 32 b.toNat))))
/-- BSWAP. -/
def execBswap (u : Nat) (dd ds : Fin 8) (s : State) : Out := .next (dataOp s u dd ds (fun _ b _ => resM (bswap32 b)))
/-- CMOVZ. -/
def execCmovz (u : Nat) (dd ds : Fin 8) (s : State) : Out :=
  .next (dataOp s u dd ds (fun _ b st => (if stZ st then some b else none, {})))
/-- CMOVC. -/
def execCmovc (u : Nat) (dd ds : Fin 8) (s : State) : Out :=
  .next (dataOp s u dd ds (fun _ b st => (if stC st then some b else none, {})))
/-- SXB. -/
def execSxb (u : Nat) (dd ds : Fin 8) (s : State) : Out :=
  .next (dataOp s u dd ds (fun _ b _ => resM ((b.setWidth 8).signExtend 32)))
/-- SXH. -/
def execSxh (u : Nat) (dd ds : Fin 8) (s : State) : Out :=
  .next (dataOp s u dd ds (fun _ b _ => resM ((b.setWidth 16).signExtend 32)))

/-! ### IMMEDIATE (13 R511, R515) -/

/-- An instruction that computes Dd and flags from Dd and an immediate, with its prefixes. -/
def immOp (s : State) (u : Nat) (pre : List (BitVec 12)) (word : Nat) (dd : Fin 8) (f : BitVec 32 → Option (BitVec 32) × Fl) : State :=
  runWord s u pre word (onRegs u (fun o r =>
    let y := f (o.d.get dd)
    let r1 := r.setSt (y.2.apply r.st)
    match y.1 with
    | some v => r1.setD dd v
    | none => r1))

/-- MOVI. -/
def execMovi (u : Nat) (pre : List (BitVec 12)) (dd : Fin 8) (imm : BitVec 5) (s : State) : Out :=
  .next (immOp s u pre (wordImm 0 dd.val imm.toNat) dd (fun _ => resM (immS pre imm)))
/-- ADDI. -/
def execAddi (u : Nat) (pre : List (BitVec 12)) (dd : Fin 8) (imm : BitVec 5) (s : State) : Out :=
  .next (immOp s u pre (wordImm 1 dd.val imm.toNat) dd (fun a => res (addF a (immS pre imm) false)))
/-- CMPI. -/
def execCmpi (u : Nat) (pre : List (BitVec 12)) (dd : Fin 8) (imm : BitVec 5) (s : State) : Out :=
  .next (immOp s u pre (wordImm 2 dd.val imm.toNat) dd (fun a => (none, (subF a (immS pre imm) false).2)))
/-- ANDI. -/
def execAndi (u : Nat) (pre : List (BitVec 12)) (dd : Fin 8) (imm : BitVec 5) (s : State) : Out :=
  .next (immOp s u pre (wordImm 3 dd.val imm.toNat) dd (fun a => resL (a &&& immU pre imm)))
/-- ORI. -/
def execOri (u : Nat) (pre : List (BitVec 12)) (dd : Fin 8) (imm : BitVec 5) (s : State) : Out :=
  .next (immOp s u pre (wordImm 4 dd.val imm.toNat) dd (fun a => resL (a ||| immU pre imm)))
/-- XORI. -/
def execXori (u : Nat) (pre : List (BitVec 12)) (dd : Fin 8) (imm : BitVec 5) (s : State) : Out :=
  .next (immOp s u pre (wordImm 5 dd.val imm.toNat) dd (fun a => resL (a ^^^ immU pre imm)))
/-- SHLI. -/
def execShli (u : Nat) (dd : Fin 8) (imm : BitVec 5) (s : State) : Out :=
  .next (immOp s u [] (wordImm 6 dd.val imm.toNat) dd (fun a => res (shlF a imm.toNat)))
/-- SHRI. -/
def execShri (u : Nat) (dd : Fin 8) (imm : BitVec 5) (s : State) : Out :=
  .next (immOp s u [] (wordImm 7 dd.val imm.toNat) dd (fun a => res (shrF a imm.toNat)))

/-! ### FLOW (13 R520) -/

/-- A FLOW instruction's target: the address of the word after it plus its displacement. -/
def flowTarget (o : VRegs) (pre : List (BitVec 12)) (disp : BitVec 7) : BitVec 20 :=
  o.pc + BitVec.ofNat 20 (pre.length + 1) + immFlow pre disp

/-- A conditional branch. -/
def execBranch (u : Nat) (pre : List (BitVec 12)) (cond : Fin 15) (disp : BitVec 7) (s : State) : Out :=
  .next (runWord s u pre (wordFlow cond.val disp.toNat) (onRegs u (fun o r =>
    if condHolds cond.val o.st then r.setPc (flowTarget o pre disp) else r)))

/-- CALL: A6 := the address of the word after it. -/
def execCall (u : Nat) (pre : List (BitVec 12)) (disp : BitVec 7) (s : State) : Out :=
  .next (runWord s u pre (wordFlow 15 disp.toNat) (onRegs u (fun o r =>
    (r.setA 6 ((o.pc + BitVec.ofNat 20 (pre.length + 1)).setWidth 24)).setPc (flowTarget o pre disp))))

/-! ### ACC (13 Table 12) -/

/-- One word that computes an accumulator; QG is set where the second value says so, and never cleared (13 R507). -/
def accOp (s : State) (u : Nat) (q : Fin 4) (f : VRegs → BitVec 72 × Bool) : State :=
  runVerb s u 1 (onRegs u (fun o r =>
    let y := f o
    (r.setQ q y.1).setSt (if y.2 then putBit r.st 4 true else r.st)))

/-- MACU. -/
def execMacu (u : Nat) (q : Fin 4) (m n : Fin 8) (s : State) : Out :=
  .next (accOp s u q (fun o =>
    let v := (o.q.get q).toNat + (o.d.get m).toNat * (o.d.get n).toNat
    (BitVec.ofNat 72 v, decide (2 ^ 72 ≤ v))))
/-- MACS. -/
def execMacs (u : Nat) (q : Fin 4) (m n : Fin 8) (s : State) : Out :=
  .next (accOp s u q (fun o =>
    let v := (o.q.get q).toInt + (o.d.get m).toInt * (o.d.get n).toInt
    (BitVec.ofInt 72 v, decide (v < -(2 ^ 71) ∨ 2 ^ 71 ≤ v))))
/-- MULU. -/
def execMulu (u : Nat) (q : Fin 4) (m n : Fin 8) (s : State) : Out :=
  .next (accOp s u q (fun o => (BitVec.ofNat 72 ((o.d.get m).toNat * (o.d.get n).toNat), false)))

/-- One word that moves a field of an accumulator into a data register. -/
def accRead (s : State) (u : Nat) (q : Fin 4) (d : Fin 8) (sh w : Nat) : State :=
  runVerb s u 1 (onRegs u (fun o r => r.setD d (BitVec.ofNat 32 ((o.q.get q).toNat / 2 ^ sh % 2 ^ w))))

/-- MQL. -/
def execMql (u : Nat) (q : Fin 4) (d : Fin 8) (s : State) : Out := .next (accRead s u q d 0 32)
/-- MQH. -/
def execMqh (u : Nat) (q : Fin 4) (d : Fin 8) (s : State) : Out := .next (accRead s u q d 32 32)
/-- MQG. -/
def execMqg (u : Nat) (q : Fin 4) (d : Fin 8) (s : State) : Out := .next (accRead s u q d 64 8)

/-- A field of `w` bits at bit `sh` of an accumulator replaced. -/
def putField (v : BitVec 72) (sh w x : Nat) : BitVec 72 :=
  BitVec.ofNat 72 (v.toNat % 2 ^ sh + x % 2 ^ w * 2 ^ sh + v.toNat / 2 ^ (sh + w) * 2 ^ (sh + w))

/-- MDQL. -/
def execMdql (u : Nat) (q : Fin 4) (d : Fin 8) (s : State) : Out :=
  .next (accOp s u q (fun o => (putField (o.q.get q) 0 32 (o.d.get d).toNat, false)))
/-- MDQH. -/
def execMdqh (u : Nat) (q : Fin 4) (d : Fin 8) (s : State) : Out :=
  .next (accOp s u q (fun o => (putField (o.q.get q) 32 32 (o.d.get d).toNat, false)))
/-- MDQG. -/
def execMdqg (u : Nat) (q : Fin 4) (d : Fin 8) (s : State) : Out :=
  .next (accOp s u q (fun o => (putField (o.q.get q) 64 8 (o.d.get d).toNat, false)))
/-- SHRQ: a count of 72 or more gives 0. -/
def execShrq (u : Nat) (q : Fin 4) (d : Fin 8) (s : State) : Out :=
  .next (accOp s u q (fun o => ((o.q.get q) >>> ((o.d.get d).toNat % 128), false)))
/-- SHLQ: QG is set when a one bit is lost. -/
def execShlq (u : Nat) (q : Fin 4) (d : Fin 8) (s : State) : Out :=
  .next (accOp s u q (fun o =>
    let v := (o.q.get q).toNat * 2 ^ ((o.d.get d).toNat % 128)
    (BitVec.ofNat 72 v, decide (2 ^ 72 ≤ v))))

end Sys2Proof.Machine
end

