-- ==== Sys2Proof/Machine/VerbMem.lean ====
section
/-! DEFINITION. Verb-14, MEMORY class, and the register reads that have an effect of their own (13 R516 to R519; 12 R483, R484;
17 R645). -/

namespace Sys2Proof.Machine

open Sys2Proof

/-- A load of `n` bytes into a data or address register: the register keeps its old value until after the next instruction; an earlier
load of the same register is never seen (13 R518). -/
def loadOp (s : State) (u : Nat) (pre : List (BitVec 12)) (word : Nat) (isA : Bool) (r aa : Fin 8) (mode : BitVec 2) (n : Nat) : State :=
  runWord s u pre word (fun x t =>
    let at_ := memAddr (x.r.a.get aa) mode pre n
    match vLoad t u x at_.1.toNat n with
    | .inl e => e
    | .inr (v, t1) =>
      .done (t1.withUnit u (fun y =>
        let y1 := if isA then y.withR (fun g => g.setA r (x.r.a.get r)) else y.withR (fun g => g.setD r (x.r.d.get r))
        let keep := match x.pendLoad with | some (b, i, _) => b == isA && i == r.val | none => false
        let y2 := if keep then y1 else y
        let y3 := match at_.2 with | some a => y2.withR (fun g => g.setA aa a) | none => y2
        { y3 with pendLoad := some (isA, r.val, v) })))

/-- A store of `n` bytes (13 R516): an access that faults changes neither Aa nor memory. -/
def storeOp (s : State) (u : Nat) (pre : List (BitVec 12)) (word : Nat) (aa : Fin 8) (mode : BitVec 2) (n : Nat)
    (val : VRegs → Nat) : State :=
  runWord s u pre word (fun x t =>
    let at_ := memAddr (x.r.a.get aa) mode pre n
    match vStore t u x at_.1.toNat (toLE n (val x.r)) with
    | .done t1 => .done (match at_.2 with | some a => t1.withRegs u (fun g => g.setA aa a) | none => t1)
    | e => e)

/-- LDB. -/
def execLdb (u : Nat) (pre : List (BitVec 12)) (r aa : Fin 8) (mode : BitVec 2) (s : State) : Out :=
  .next (loadOp s u pre (wordMem 0 r.val aa.val mode.toNat) false r aa mode 1)
/-- LDH. -/
def execLdh (u : Nat) (pre : List (BitVec 12)) (r aa : Fin 8) (mode : BitVec 2) (s : State) : Out :=
  .next (loadOp s u pre (wordMem 1 r.val aa.val mode.toNat) false r aa mode 2)
/-- LDW. -/
def execLdw (u : Nat) (pre : List (BitVec 12)) (r aa : Fin 8) (mode : BitVec 2) (s : State) : Out :=
  .next (loadOp s u pre (wordMem 2 r.val aa.val mode.toNat) false r aa mode 4)
/-- LDA; with its own register as Aa in modes 1 and 2 it is reserved. -/
def execLda (u : Nat) (pre : List (BitVec 12)) (r aa : Fin 8) (mode : BitVec 2) (s : State) : Out :=
  .next (loadOp s u pre (wordMem 3 r.val aa.val mode.toNat) true r aa mode 4)
/-- STB. -/
def execStb (u : Nat) (pre : List (BitVec 12)) (r aa : Fin 8) (mode : BitVec 2) (s : State) : Out :=
  .next (storeOp s u pre (wordMem 4 r.val aa.val mode.toNat) aa mode 1 (fun g => (g.d.get r).toNat))
/-- STH. -/
def execSth (u : Nat) (pre : List (BitVec 12)) (r aa : Fin 8) (mode : BitVec 2) (s : State) : Out :=
  .next (storeOp s u pre (wordMem 5 r.val aa.val mode.toNat) aa mode 2 (fun g => (g.d.get r).toNat))
/-- STW. -/
def execStw (u : Nat) (pre : List (BitVec 12)) (r aa : Fin 8) (mode : BitVec 2) (s : State) : Out :=
  .next (storeOp s u pre (wordMem 6 r.val aa.val mode.toNat) aa mode 4 (fun g => (g.d.get r).toNat))
/-- STA. -/
def execSta (u : Nat) (pre : List (BitVec 12)) (r aa : Fin 8) (mode : BitVec 2) (s : State) : Out :=
  .next (storeOp s u pre (wordMem 7 r.val aa.val mode.toNat) aa mode 4 (fun g => (g.a.get r).toNat))

/-! ### Register reads with an effect -/

/-- A read of a register by a unit, taken apart from the load that makes it: what the read does stays, and a refused or failing read
is raised at the unit's PC. The load itself is LDW (log entry 55). -/
def readOnly (s : State) (u a : Nat) : State :=
  let x := s.unit u
  if !unitUp s u || x.wait.isSome then s
  else match vLoad s u x a 4 with
    | .inr (_, t) => t
    | .inl (.exc e t) => raiseSync t u x e id
    | .inl (.rngWait a) => s.withUnit u (fun x => { x with rngStall := some a })
    | .inl _ => s

/-- RNG_DATA_LO (12 R484, R487). -/
def execRngDataLo (unit : Nat) (s : State) : Out := if isDeep unit then .next s else .next (readOnly s unit 0xA10000)
/-- RNG_DATA_HI (12 R484, R487). -/
def execRngDataHi (unit : Nat) (s : State) : Out := if isDeep unit then .next s else .next (readOnly s unit 0xA10004)
/-- RNG_JDATA_LO (12 R483, R488). -/
def execRngJdataLo (unit : Nat) (s : State) : Out := if isDeep unit then .next (readOnly s unit 0x830000) else .next s
/-- RNG_JDATA_HI (12 R483, R488). -/
def execRngJdataHi (unit : Nat) (s : State) : Out := if isDeep unit then .next (readOnly s unit 0x830004) else .next s
/-- DTB_FRAC (17 R645). -/
def execDtbFrac (u : Nat) (s : State) : Out := if isDeep u then .next s else .next (readOnly s u 0xA20000)

end Sys2Proof.Machine
end

