-- ==== Sys2Proof/Machine/Dispatch.lean ====
section
/-! DEFINITION. One arm per command: each is one direct call of the meaning of that command. -/

namespace Sys2Proof.Machine

open Sys2Proof

def exec (i : Instr) (s : State) : Host.Outcome State Fault Refusal :=
  match i with
  | .supplyArrival rail => Sys2Proof.Machine.execSupplyArrival rail s
  | .assay report => Sys2Proof.Machine.execAssay report s
  | .assayDone => Sys2Proof.Machine.execAssayDone s
  | .cut => Sys2Proof.Machine.execCut s
  | .suppliesLost => Sys2Proof.Machine.execSuppliesLost s
  | .auxPowerLoss => Sys2Proof.Machine.execAuxPowerLoss s
  | .auxPowerReturn => Sys2Proof.Machine.execAuxPowerReturn s
  | .conventionalReset => Sys2Proof.Machine.execConventionalReset s
  | .perstDeasserted => Sys2Proof.Machine.execPerstDeasserted s
  | .linkRecovery width rate => Sys2Proof.Machine.execLinkRecovery width rate s
  | .linkReturnL0 width rate => Sys2Proof.Machine.execLinkReturnL0 width rate s
  | .functionLevelReset vf => Sys2Proof.Machine.execFunctionLevelReset vf s
  | .vfEnableClear => Sys2Proof.Machine.execVfEnableClear s
  | .vfEnableSet => Sys2Proof.Machine.execVfEnableSet s
  | .numvfsWrite n => Sys2Proof.Machine.execNumvfsWrite n s
  | .d3hotEntry => Sys2Proof.Machine.execD3hotEntry s
  | .d3hotExit => Sys2Proof.Machine.execD3hotExit s
  | .barAccessDropped fn off size write => Sys2Proof.Machine.execBarAccessDropped fn off size write s
  | .poisonedWrite fn bar off => Sys2Proof.Machine.execPoisonedWrite fn bar off s
  | .registerWrite space off size value => Sys2Proof.Machine.execRegisterWrite space off size value s
  | .proxyDoorbell vf ring cq value => Sys2Proof.Machine.execProxyDoorbell vf ring cq value s
  | .ideKm stream set lo hi keyOut keyIn => Sys2Proof.Machine.execIdeKm stream set lo hi keyOut keyIn s
  | .kSetGo stream set => Sys2Proof.Machine.execKSetGo stream set s
  | .ideStreamInsecure stream => Sys2Proof.Machine.execIdeStreamInsecure stream s
  | .tlpIntegrityFail stream fn => Sys2Proof.Machine.execTlpIntegrityFail stream fn s
  | .lockInterface vf => Sys2Proof.Machine.execLockInterface vf s
  | .stopInterface vf => Sys2Proof.Machine.execStopInterface vf s
  | .tdiFrozenChange vf => Sys2Proof.Machine.execTdiFrozenChange vf s
  | .doeObject kind len => Sys2Proof.Machine.execDoeObject kind len s
  | .spdmMessage req => Sys2Proof.Machine.execSpdmMessage req s
  | .ptmRequest => Sys2Proof.Machine.execPtmRequest s
  | .ptmResponse master => Sys2Proof.Machine.execPtmResponse master s
  | .ptmAbandon => Sys2Proof.Machine.execPtmAbandon s
  | .holdoverEntry => Sys2Proof.Machine.execHoldoverEntry s
  | .holdoverExpiry => Sys2Proof.Machine.execHoldoverExpiry s
  | .hostReadError who => Sys2Proof.Machine.execHostReadError who s
  | .completionTimeout who => Sys2Proof.Machine.execCompletionTimeout who s
  | .readAbandoned who => Sys2Proof.Machine.execReadAbandoned who s
  | .windowSet job block => Sys2Proof.Machine.execWindowSet job block s
  | .windowSetDone job => Sys2Proof.Machine.execWindowSetDone job s
  | .windowGet job => Sys2Proof.Machine.execWindowGet job s
  | .partitionInfo job => Sys2Proof.Machine.execPartitionInfo job s
  | .timeGet job => Sys2Proof.Machine.execTimeGet job s
  | .fence job => Sys2Proof.Machine.execFence job s
  | .fenceDone job => Sys2Proof.Machine.execFenceDone job s
  | .quiesce job word => Sys2Proof.Machine.execQuiesce job word s
  | .quiesceDone job => Sys2Proof.Machine.execQuiesceDone job s
  | .resume job word => Sys2Proof.Machine.execResume job word s
  | .timeSet job ns word => Sys2Proof.Machine.execTimeSet job ns word s
  | .timeSetDone job => Sys2Proof.Machine.execTimeSetDone job s
  | .ringEnable part ring => Sys2Proof.Machine.execRingEnable part ring s
  | .ringDisable part ring => Sys2Proof.Machine.execRingDisable part ring s
  | .ringAbort part ring => Sys2Proof.Machine.execRingAbort part ring s
  | .ringDrained part ring => Sys2Proof.Machine.execRingDrained part ring s
  | .sqDb part ring value => Sys2Proof.Machine.execSqDb part ring value s
  | .cqDb part ring value => Sys2Proof.Machine.execCqDb part ring value s
  | .intakeVisit core => Sys2Proof.Machine.execIntakeVisit core s
  | .descriptorArrival core descs => Sys2Proof.Machine.execDescriptorArrival core descs s
  | .descriptorReadFailed core => Sys2Proof.Machine.execDescriptorReadFailed core s
  | .contextFreed => Sys2Proof.Machine.execContextFreed s
  | .stagingReadDone job opa opb => Sys2Proof.Machine.execStagingReadDone job opa opb s
  | .stagingWipeDone core => Sys2Proof.Machine.execStagingWipeDone core s
  | .rngWaitEnd job => Sys2Proof.Machine.execRngWaitEnd job s
  | .dispatch squad opa opb => Sys2Proof.Machine.execDispatch squad opa opb s
  | .gangSliceStart job => Sys2Proof.Machine.execGangSliceStart job s
  | .modadd job => Sys2Proof.Machine.execModadd job s
  | .modmul job => Sys2Proof.Machine.execModmul job s
  | .modexp job => Sys2Proof.Machine.execModexp job s
  | .modinv job => Sys2Proof.Machine.execModinv job s
  | .rsaPrivate job => Sys2Proof.Machine.execRsaPrivate job s
  | .rsaPublic job => Sys2Proof.Machine.execRsaPublic job s
  | .rsaSignV15 job => Sys2Proof.Machine.execRsaSignV15 job s
  | .rsaSignPss job => Sys2Proof.Machine.execRsaSignPss job s
  | .rsaVerifyV15 job => Sys2Proof.Machine.execRsaVerifyV15 job s
  | .rsaVerifyPss job => Sys2Proof.Machine.execRsaVerifyPss job s
  | .rsaEncryptOaep job => Sys2Proof.Machine.execRsaEncryptOaep job s
  | .rsaDecryptOaep job => Sys2Proof.Machine.execRsaDecryptOaep job s
  | .rsaKeygen job => Sys2Proof.Machine.execRsaKeygen job s
  | .ecdsaSign job => Sys2Proof.Machine.execEcdsaSign job s
  | .ecdsaVerify job => Sys2Proof.Machine.execEcdsaVerify job s
  | .ecdh job => Sys2Proof.Machine.execEcdh job s
  | .eddsaSign job => Sys2Proof.Machine.execEddsaSign job s
  | .eddsaVerify job => Sys2Proof.Machine.execEddsaVerify job s
  | .xdh job => Sys2Proof.Machine.execXdh job s
  | .ecKeygen job => Sys2Proof.Machine.execEcKeygen job s
  | .mlkemEncaps job => Sys2Proof.Machine.execMlkemEncaps job s
  | .mlkemDecaps job => Sys2Proof.Machine.execMlkemDecaps job s
  | .mldsaSign job => Sys2Proof.Machine.execMldsaSign job s
  | .mldsaVerify job => Sys2Proof.Machine.execMldsaVerify job s
  | .mlkemKeygen job => Sys2Proof.Machine.execMlkemKeygen job s
  | .mldsaKeygen job => Sys2Proof.Machine.execMldsaKeygen job s
  | .keyGenSym job => Sys2Proof.Machine.execKeyGenSym job s
  | .keyImport job => Sys2Proof.Machine.execKeyImport job s
  | .keyExport job => Sys2Proof.Machine.execKeyExport job s
  | .keyDestroy job => Sys2Proof.Machine.execKeyDestroy job s
  | .destroyComplete slot => Sys2Proof.Machine.execDestroyComplete slot s
  | .keyInfo job => Sys2Proof.Machine.execKeyInfo job s
  | .keyRestrict job => Sys2Proof.Machine.execKeyRestrict job s
  | .restrictDone job => Sys2Proof.Machine.execRestrictDone job s
  | .keyPurge job => Sys2Proof.Machine.execKeyPurge job s
  | .purgeWipe part => Sys2Proof.Machine.execPurgeWipe part s
  | .commitService => Sys2Proof.Machine.execCommitService s
  | .useCountPage => Sys2Proof.Machine.execUseCountPage s
  | .keyCacheFill slot copy1Ok copy2Ok => Sys2Proof.Machine.execKeyCacheFill slot copy1Ok copy2Ok s
  | .streamSeal job opa opb => Sys2Proof.Machine.execStreamSeal job opa opb s
  | .streamOpen job opa opb => Sys2Proof.Machine.execStreamOpen job opa opb s
  | .streamBind => Sys2Proof.Machine.execStreamBind s
  | .streamSegment engine mismatch => Sys2Proof.Machine.execStreamSegment engine mismatch s
  | .randomBytes job => Sys2Proof.Machine.execRandomBytes job s
  | .channelGrant => Sys2Proof.Machine.execChannelGrant s
  | .channelEnable ch on => Sys2Proof.Machine.execChannelEnable ch on s
  | .channelAbort ch => Sys2Proof.Machine.execChannelAbort ch s
  | .qTail queue value => Sys2Proof.Machine.execQTail queue value s
  | .copy ch hostData => Sys2Proof.Machine.execCopy ch hostData s
  | .fill ch => Sys2Proof.Machine.execFill ch s
  | .compareConst ch hostData => Sys2Proof.Machine.execCompareConst ch hostData s
  | .compareBuf ch hostData => Sys2Proof.Machine.execCompareBuf ch hostData s
  | .readBackDone who ok => Sys2Proof.Machine.execReadBackDone who ok s
  | .minuteClose => Sys2Proof.Machine.execMinuteClose s
  | .minuteSetDurable => Sys2Proof.Machine.execMinuteSetDurable s
  | .minuteDelivery vf ok => Sys2Proof.Machine.execMinuteDelivery vf ok s
  | .rngRetired chan test => Sys2Proof.Machine.execRngRetired chan test s
  | .channelRestart chan => Sys2Proof.Machine.execChannelRestart chan s
  | .startTimeout chan => Sys2Proof.Machine.execStartTimeout chan s
  | .reseed expander => Sys2Proof.Machine.execReseed expander s
  | .rngDataLo unit => Sys2Proof.Machine.execRngDataLo unit s
  | .rngDataHi unit => Sys2Proof.Machine.execRngDataHi unit s
  | .rngJdataLo unit => Sys2Proof.Machine.execRngJdataLo unit s
  | .rngJdataHi unit => Sys2Proof.Machine.execRngJdataHi unit s
  | .rngHoldExpiry job => Sys2Proof.Machine.execRngHoldExpiry job s
  | .rngKatRun which failed => Sys2Proof.Machine.execRngKatRun which failed s
  | .rnsSelftestRun squad => Sys2Proof.Machine.execRnsSelftestRun squad s
  | .patrolTest squad lanesFailed keccakOk => Sys2Proof.Machine.execPatrolTest squad lanesFailed keccakOk s
  | .nop u => Sys2Proof.Machine.execNop u s
  | .wfe u => Sys2Proof.Machine.execWfe u s
  | .waitc u dn => Sys2Proof.Machine.execWaitc u dn s
  | .waitWake u => Sys2Proof.Machine.execWaitWake u s
  | .retg u => Sys2Proof.Machine.execRetg u s
  | .retx u => Sys2Proof.Machine.execRetx u s
  | .verbFence u => Sys2Proof.Machine.execVerbFence u s
  | .brk u => Sys2Proof.Machine.execBrk u s
  | .ems u => Sys2Proof.Machine.execEms u s
  | .emc u => Sys2Proof.Machine.execEmc u s
  | .gate u n => Sys2Proof.Machine.execGate u n s
  | .sev u dn bank => Sys2Proof.Machine.execSev u dn bank s
  | .mfs u dd sreg => Sys2Proof.Machine.execMfs u dd sreg s
  | .mts u sreg ds => Sys2Proof.Machine.execMts u sreg ds s
  | .movad u ad ds => Sys2Proof.Machine.execMovad u ad ds s
  | .movda u dd as => Sys2Proof.Machine.execMovda u dd as s
  | .movaa u ad as => Sys2Proof.Machine.execMovaa u ad as s
  | .jmp u as => Sys2Proof.Machine.execJmp u as s
  | .jsr u as => Sys2Proof.Machine.execJsr u as s
  | .adda u ad ds => Sys2Proof.Machine.execAdda u ad ds s
  | .addaa u ad as => Sys2Proof.Machine.execAddaa u ad as s
  | .cmpa u ad as => Sys2Proof.Machine.execCmpa u ad as s
  | .addai u pre ad imm => Sys2Proof.Machine.execAddai u pre ad imm s
  | .mov u dd ds => Sys2Proof.Machine.execMov u dd ds s
  | .add u dd ds => Sys2Proof.Machine.execAdd u dd ds s
  | .adc u dd ds => Sys2Proof.Machine.execAdc u dd ds s
  | .sub u dd ds => Sys2Proof.Machine.execSub u dd ds s
  | .sbc u dd ds => Sys2Proof.Machine.execSbc u dd ds s
  | .cmp u dd ds => Sys2Proof.Machine.execCmp u dd ds s
  | .and u dd ds => Sys2Proof.Machine.execAnd u dd ds s
  | .or u dd ds => Sys2Proof.Machine.execOr u dd ds s
  | .xor u dd ds => Sys2Proof.Machine.execXor u dd ds s
  | .andn u dd ds => Sys2Proof.Machine.execAndn u dd ds s
  | .tst u dd ds => Sys2Proof.Machine.execTst u dd ds s
  | .neg u dd ds => Sys2Proof.Machine.execNeg u dd ds s
  | .not u dd ds => Sys2Proof.Machine.execNot u dd ds s
  | .shl u dd ds => Sys2Proof.Machine.execShl u dd ds s
  | .shr u dd ds => Sys2Proof.Machine.execShr u dd ds s
  | .sar u dd ds => Sys2Proof.Machine.execSar u dd ds s
  | .ror u dd ds => Sys2Proof.Machine.execRor u dd ds s
  | .mul u dd ds => Sys2Proof.Machine.execMul u dd ds s
  | .mulhu u dd ds => Sys2Proof.Machine.execMulhu u dd ds s
  | .mulhs u dd ds => Sys2Proof.Machine.execMulhs u dd ds s
  | .minu u dd ds => Sys2Proof.Machine.execMinu u dd ds s
  | .maxu u dd ds => Sys2Proof.Machine.execMaxu u dd ds s
  | .mins u dd ds => Sys2Proof.Machine.execMins u dd ds s
  | .maxs u dd ds => Sys2Proof.Machine.execMaxs u dd ds s
  | .clz u dd ds => Sys2Proof.Machine.execClz u dd ds s
  | .popc u dd ds => Sys2Proof.Machine.execPopc u dd ds s
  | .bswap u dd ds => Sys2Proof.Machine.execBswap u dd ds s
  | .cmovz u dd ds => Sys2Proof.Machine.execCmovz u dd ds s
  | .cmovc u dd ds => Sys2Proof.Machine.execCmovc u dd ds s
  | .sxb u dd ds => Sys2Proof.Machine.execSxb u dd ds s
  | .sxh u dd ds => Sys2Proof.Machine.execSxh u dd ds s
  | .movi u pre dd imm => Sys2Proof.Machine.execMovi u pre dd imm s
  | .addi u pre dd imm => Sys2Proof.Machine.execAddi u pre dd imm s
  | .cmpi u pre dd imm => Sys2Proof.Machine.execCmpi u pre dd imm s
  | .andi u pre dd imm => Sys2Proof.Machine.execAndi u pre dd imm s
  | .ori u pre dd imm => Sys2Proof.Machine.execOri u pre dd imm s
  | .xori u pre dd imm => Sys2Proof.Machine.execXori u pre dd imm s
  | .shli u dd imm => Sys2Proof.Machine.execShli u dd imm s
  | .shri u dd imm => Sys2Proof.Machine.execShri u dd imm s
  | .ldb u pre r aa mode => Sys2Proof.Machine.execLdb u pre r aa mode s
  | .ldh u pre r aa mode => Sys2Proof.Machine.execLdh u pre r aa mode s
  | .ldw u pre r aa mode => Sys2Proof.Machine.execLdw u pre r aa mode s
  | .lda u pre r aa mode => Sys2Proof.Machine.execLda u pre r aa mode s
  | .stb u pre r aa mode => Sys2Proof.Machine.execStb u pre r aa mode s
  | .sth u pre r aa mode => Sys2Proof.Machine.execSth u pre r aa mode s
  | .stw u pre r aa mode => Sys2Proof.Machine.execStw u pre r aa mode s
  | .sta u pre r aa mode => Sys2Proof.Machine.execSta u pre r aa mode s
  | .branch u pre cond disp => Sys2Proof.Machine.execBranch u pre cond disp s
  | .call u pre disp => Sys2Proof.Machine.execCall u pre disp s
  | .macu u q m n => Sys2Proof.Machine.execMacu u q m n s
  | .macs u q m n => Sys2Proof.Machine.execMacs u q m n s
  | .mulu u q m n => Sys2Proof.Machine.execMulu u q m n s
  | .mql u q d => Sys2Proof.Machine.execMql u q d s
  | .mqh u q d => Sys2Proof.Machine.execMqh u q d s
  | .mqg u q d => Sys2Proof.Machine.execMqg u q d s
  | .mdql u q d => Sys2Proof.Machine.execMdql u q d s
  | .mdqh u q d => Sys2Proof.Machine.execMdqh u q d s
  | .mdqg u q d => Sys2Proof.Machine.execMdqg u q d s
  | .shrq u q d => Sys2Proof.Machine.execShrq u q d s
  | .shlq u q d => Sys2Proof.Machine.execShlq u q d s
  | .lmont u ld ls bad => Sys2Proof.Machine.execLmont u ld ls bad s
  | .ladd u ld ls => Sys2Proof.Machine.execLadd u ld ls s
  | .lsub u ld ls => Sys2Proof.Machine.execLsub u ld ls s
  | .lmov u ld ls => Sys2Proof.Machine.execLmov u ld ls s
  | .lconv u ld as => Sys2Proof.Machine.execLconv u ld as s
  | .lsettle u as ls bad => Sys2Proof.Machine.execLsettle u as ls bad s
  | .lld u ld as => Sys2Proof.Machine.execLld u ld as s
  | .lst u as ls => Sys2Proof.Machine.execLst u as ls s
  | .lsetup u as dn => Sys2Proof.Machine.execLsetup u as dn s
  | .nmul u ld ls bad => Sys2Proof.Machine.execNmul u ld ls bad s
  | .nadd u ld ls bad => Sys2Proof.Machine.execNadd u ld ls bad s
  | .nsub u ld ls bad => Sys2Proof.Machine.execNsub u ld ls bad s
  | .nbfct u ld ls bad => Sys2Proof.Machine.execNbfct u ld ls bad s
  | .nbfgs u ld ls bad => Sys2Proof.Machine.execNbfgs u ld ls bad s
  | .lqn u dn width => Sys2Proof.Machine.execLqn u dn width s
  | .kperm u as bad => Sys2Proof.Machine.execKperm u as bad s
  | .ypt u => Sys2Proof.Machine.execYpt u s
  | .reservedPattern u pre word => Sys2Proof.Machine.execReservedPattern u pre word s
  | .deviceInterrupt u ev => Sys2Proof.Machine.execDeviceInterrupt u ev s
  | .frozenUnitRecovery u => Sys2Proof.Machine.execFrozenUnitRecovery u s
  | .pairDiverged pair => Sys2Proof.Machine.execPairDiverged pair s
  | .pairSelftestDone pair passed => Sys2Proof.Machine.execPairSelftestDone pair passed s
  | .runAhead pair => Sys2Proof.Machine.execRunAhead pair s
  | .guardScrub g errors => Sys2Proof.Machine.execGuardScrub g errors s
  | .guardDrainDone => Sys2Proof.Machine.execGuardDrainDone s
  | .flashRead queue retry => Sys2Proof.Machine.execFlashRead queue retry s
  | .flashProgram queue => Sys2Proof.Machine.execFlashProgram queue s
  | .flashProgramDone bank ok => Sys2Proof.Machine.execFlashProgramDone bank ok s
  | .flashErase queue => Sys2Proof.Machine.execFlashErase queue s
  | .flashEraseDone bank ok => Sys2Proof.Machine.execFlashEraseDone bank ok s
  | .eraseSuspend queue => Sys2Proof.Machine.execEraseSuspend queue s
  | .eraseResume queue => Sys2Proof.Machine.execEraseResume queue s
  | .suspendExpiry bank => Sys2Proof.Machine.execSuspendExpiry bank s
  | .readStatus queue => Sys2Proof.Machine.execReadStatus queue s
  | .flushTick => Sys2Proof.Machine.execFlushTick s
  | .collection => Sys2Proof.Machine.execCollection s
  | .victimErase => Sys2Proof.Machine.execVictimErase s
  | .wearCollection bank => Sys2Proof.Machine.execWearCollection bank s
  | .crossingTimeout island => Sys2Proof.Machine.execCrossingTimeout island s
  | .eventStamp => Sys2Proof.Machine.execEventStamp s
  | .otcSave => Sys2Proof.Machine.execOtcSave s
  | .agentAnswer island ans => Sys2Proof.Machine.execAgentAnswer island ans s
  | .agentTimeout island => Sys2Proof.Machine.execAgentTimeout island s
  | .delayExpiry island => Sys2Proof.Machine.execDelayExpiry island s
  | .modeTarget sess req value => Sys2Proof.Machine.execModeTarget sess req value s
  | .serviceEnd sess req value => Sys2Proof.Machine.execServiceEnd sess req value s
  | .serviceLimitExpiry => Sys2Proof.Machine.execServiceLimitExpiry s
  | .changeoverUnitDone passedNew passedOld => Sys2Proof.Machine.execChangeoverUnitDone passedNew passedOld s
  | .sramRepaired spare corrected use => Sys2Proof.Machine.execSramRepaired spare corrected use s
  | .lifecycleEraseComplete => Sys2Proof.Machine.execLifecycleEraseComplete s
  | .monitorSample mon unit value holds => Sys2Proof.Machine.execMonitorSample mon unit value holds s
  | .batchExecute => Sys2Proof.Machine.execBatchExecute s
  | .quiesceHoldEnd => Sys2Proof.Machine.execQuiesceHoldEnd s
  | .alertAck sess req value => Sys2Proof.Machine.execAlertAck sess req value s
  | .coalesceWindowClose => Sys2Proof.Machine.execCoalesceWindowClose s
  | .suppressed code => Sys2Proof.Machine.execSuppressed code s
  | .mbGo => Sys2Proof.Machine.execMbGo s
  | .hello nonce eph cert key => Sys2Proof.Machine.execHello nonce eph cert key s
  | .finish sess sig => Sys2Proof.Machine.execFinish sess sig s
  | .authChallenge req => Sys2Proof.Machine.execAuthChallenge req s
  | .authResponse req cred sig => Sys2Proof.Machine.execAuthResponse req cred sig s
  | .authDrop req => Sys2Proof.Machine.execAuthDrop req s
  | .officerIdle => Sys2Proof.Machine.execOfficerIdle s
  | .read sess req index sub off len => Sys2Proof.Machine.execRead sess req index sub off len s
  | .write sess req index sub value => Sys2Proof.Machine.execWrite sess req index sub value s
  | .describe sess req index sub => Sys2Proof.Machine.execDescribe sess req index sub s
  | .csSeal sess req => Sys2Proof.Machine.execCsSeal sess req s
  | .csSign sess req change cred sig => Sys2Proof.Machine.execCsSign sess req change cred sig s
  | .csCancel sess req change => Sys2Proof.Machine.execCsCancel sess req change s
  | .csQuery sess req change off => Sys2Proof.Machine.execCsQuery sess req change off s
  | .csDiscard sess req => Sys2Proof.Machine.execCsDiscard sess req s
  | .notifyAck sess req => Sys2Proof.Machine.execNotifyAck sess req s
  | .notifyResend sess req => Sys2Proof.Machine.execNotifyResend sess req s
  | .nopMessage sess req => Sys2Proof.Machine.execNopMessage sess req s
  | .close sess req => Sys2Proof.Machine.execClose sess req s
  | .msgUnknown sess req msg => Sys2Proof.Machine.execMsgUnknown sess req msg s
  | .gapSessionExpiry sess => Sys2Proof.Machine.execGapSessionExpiry sess s
  | .countersignExpiry slot => Sys2Proof.Machine.execCountersignExpiry slot s
  | .csCommit => Sys2Proof.Machine.execCsCommit s
  | .cardInserted => Sys2Proof.Machine.execCardInserted s
  | .cardResponse reply => Sys2Proof.Machine.execCardResponse reply s
  | .cardWtx secs => Sys2Proof.Machine.execCardWtx secs s
  | .clockStop => Sys2Proof.Machine.execClockStop s
  | .cardRemoved => Sys2Proof.Machine.execCardRemoved s
  | .cardOvercurrent => Sys2Proof.Machine.execCardOvercurrent s
  | .cardRequest sess req value => Sys2Proof.Machine.execCardRequest sess req value s
  | .cardMidstepClear sess req value => Sys2Proof.Machine.execCardMidstepClear sess req value s
  | .ping amplitude => Sys2Proof.Machine.execPing amplitude s
  | .badgeResponse reply => Sys2Proof.Machine.execBadgeResponse reply s
  | .badgePresenceCheck answered => Sys2Proof.Machine.execBadgePresenceCheck answered s
  | .externalField => Sys2Proof.Machine.execExternalField s
  | .externalFieldGone => Sys2Proof.Machine.execExternalFieldGone s
  | .fieldRequest sess req value => Sys2Proof.Machine.execFieldRequest sess req value s
  | .tagTransactionStart => Sys2Proof.Machine.execTagTransactionStart s
  | .tagSelect aid => Sys2Proof.Machine.execTagSelect aid s
  | .readBinary off len => Sys2Proof.Machine.execReadBinary off len s
  | .updateBinary off data => Sys2Proof.Machine.execUpdateBinary off data s
  | .increment ctr data torn => Sys2Proof.Machine.execIncrement ctr data torn s
  | .tagTransactionEnd => Sys2Proof.Machine.execTagTransactionEnd s
  | .tagTransactionTimeout => Sys2Proof.Machine.execTagTransactionTimeout s
  | .tagMemBlock sess req data => Sys2Proof.Machine.execTagMemBlock sess req data s
  | .tagCounterAdd sess req value => Sys2Proof.Machine.execTagCounterAdd sess req value s
  | .tagHostTimeout => Sys2Proof.Machine.execTagHostTimeout s
  | .thermalOverload die hot => Sys2Proof.Machine.execThermalOverload die hot s
  | .startUpTestPassed chan => Sys2Proof.Machine.execStartUpTestPassed chan s
  | .selfTestDone passed => Sys2Proof.Machine.execSelfTestDone passed s
  | .inboundFrame frame => Sys2Proof.Machine.execInboundFrame frame s
  | .blockWaitingTimeExpiry => Sys2Proof.Machine.execBlockWaitingTimeExpiry s
  | .frameWaitingTimeExpiry => Sys2Proof.Machine.execFrameWaitingTimeExpiry s
  | .vaultBankIdle bank => Sys2Proof.Machine.execVaultBankIdle bank s
  | .cellExhausted => Sys2Proof.Machine.execCellExhausted s
  | .alwaysOnSupplyChange present => Sys2Proof.Machine.execAlwaysOnSupplyChange present s
  | .dtbFrac u => Sys2Proof.Machine.execDtbFrac u s

end Sys2Proof.Machine
end

