-- ==== Sys2Proof/Machine/BarRead.lean ====
section
/-! DEFINITION. What reads of the BARs and of configuration space show (00 R10; 03 R85, R87 to R91, R95, R96, R99, R123, R130; 04 Tables 1 to
7; 11 R455, Tables 8 to 10; 22 Tables 3 to 5). A read has no row of the table: it changes nothing, but for the record of one that is badly
formed, which BAR_ACCESS_DROPPED makes. -/

namespace Sys2Proof.Machine

open Sys2Proof

/-! ### Configuration space (03 R85, R91, R130) -/

/-- The items of a function's configuration space that the spec gives a value. -/
inductive CfgItem where
  | vendorId | deviceId | revisionId | classCode | subsystemVendorId | subsystemId
  | totalVfs | initialVfs | numVfs | vfEnable | firstVfOffset | vfStride | vfDeviceId | supportedPageSizes | functionDependencyLink
  | ptmEnable | ptmResponderCapable | ptmGranularity | ctoDisable | ctoValue | ctoRanges
  | maxPayload | maxReadRequest | maxOutstanding | noSoftReset | powerState
  deriving DecidableEq, Repr

/-- What a read of an item shows; the SR-IOV, PTM and power items are PF0's alone (03 Tables 1 and 2, R129 to R132). -/
def configRead (s : State) (fn : Nat) : CfgItem → Nat
  | .vendorId => 0x1F4E
  | .deviceId => if fn = 0 then 0x7216 else 0x7217
  | .revisionId => 0x10
  | .classCode => 0x108000
  | .subsystemVendorId => 0x1F4E
  | .subsystemId => 0x7216
  | .totalVfs => if fn = 0 then totalVfs else 0
  | .initialVfs => if fn = 0 then totalVfs else 0
  | .numVfs => if fn = 0 then s.link.numVfs else 0
  | .vfEnable => if fn = 0 then b2n s.link.vfEnable else 0
  | .firstVfOffset => if fn = 0 then 1 else 0
  | .vfStride => if fn = 0 then 1 else 0
  | .vfDeviceId => if fn = 0 then 0x7217 else 0
  | .supportedPageSizes => if fn = 0 then 0x11 else 0
  | .functionDependencyLink => 0
  | .ptmEnable => if fn = 0 then b2n s.clock.ptmEnable else 0
  | .ptmResponderCapable => 0
  | .ptmGranularity => 0
  | .ctoDisable => b2n s.link.ctoDisable
  | .ctoValue => s.link.ctoValue
  | .ctoRanges => 0xF
  | .maxPayload => 128 * 2 ^ s.link.mps
  | .maxReadRequest => 128 * 2 ^ s.link.mrrs
  | .maxOutstanding => 4096
  | .noSoftReset => 1
  | .powerState => if fn = 0 ∧ s.link.d3hot then 3 else 0

/-- The routing ID of a function, beside PF0's: VF n stands at PF0's plus n (03 R91). -/
def routingId (s : State) (pf0 fn : Nat) : Nat :=
  if fn = 0 then pf0 else pf0 + configRead s 0 .firstVfOffset + (fn - 1) * configRead s 0 .vfStride

/-! ### Blocks of the BARs -/

/-- The registers of a ring control block (04 Tables 1 to 5). -/
def ringRegs (r : Ring) : List Nat :=
  [r.sqBase, r.cqBase, r.entries + 2 ^ 40 * r.msixVec, b2n r.enable, r.state + 2 ^ 17 * r.cqTail + 2 ^ 34 * r.sqHead,
   r.squashed + 2 ^ 32 * r.dbDropped, r.faultCode + 2 ^ 16 * b2n r.fault]

/-- A list of bytes read from an offset on; what lies beyond it reads as zero. -/
def slice (b : Bytes) (off n : Nat) : Bytes := fit n (b.drop off)

/-- A ring control page: eight blocks of 128 B (04 Table 1). -/
def ringPage (s : State) (p : Nat) : Bytes :=
  (List.range 8).flatMap (fun r => fit 0x80 ((ringRegs (s.ring p r)).flatMap (toLE 8)))

/-- A function's pending bit array: messages of PF0 pending in D3hot, and those that wait for L0 (03 R90). -/
def pendingBits (s : State) (fn : Nat) : Bytes :=
  let l := (if fn = 0 then s.link.pba else []) ++ (s.link.msixHeld.filter (fun e => e.1 == fn)).map Prod.snd
  toLE 32 (l.dedup.foldl (fun a v => a + 2 ^ (v % 256)) 0)

/-- The identity page: Vendor, Device, Revision, Class, then PF0's module status or a VF's local status (03 Tables 3, 4; log entry
150). -/
def identityPage (s : State) (fn : Nat) : Bytes :=
  toLE 2 (configRead s fn .vendorId) ++ toLE 2 (configRead s fn .deviceId) ++ toLE 1 (configRead s fn .revisionId) ++
    toLE 3 (configRead s fn .classCode) ++
    (if fn = 0 then toLE 4 s.modeNum
     else toLE 4 (b2n (s.part fn).enabled + 2 * b2n (s.part fn).quiesced + 4 * (s.part fn).tdi.state))

/-- A VF's partition status page: scheduling and resource counters alone (03 R96, R99; log entry 150): jobs in flight, key slots held,
quota, TDISP state, proxy writes dropped, dispatch credits, and pending descriptors of each ring. -/
def statusPage (s : State) (vf : Nat) : Bytes :=
  toLE 4 (s.inFlight vf) ++ toLE 4 (slotsHeld s vf) ++ toLE 4 (s.gvs gKeystoreQuota vf) ++ toLE 4 (s.part vf).tdi.state ++
    toLE 8 (s.gvs gPartitionProxyDropped vf) ++ toLE 8 (toTwos 64 (s.disp.deficit.get 0 vf)) ++
    (List.range 8).flatMap (fun r => toLE 4 (if (s.ring vf r).entries = 0 then 0 else (s.ring vf r).pend))

/-- The mailbox: MB_CTL reads as zero, MB_STATUS, and both areas (22 Tables 3 to 5). -/
def mailboxRead (s : State) (w n : Nat) : Bytes :=
  let m := s.mgmt
  if w < 0x10 then
    slice (zeros 8 ++ toLE 8 (b2n m.done + 2 * b2n m.busy + 4 * b2n m.dropped + 2 ^ 16 * m.reqId)) w n
  else if w < 0x1000 then zeros n
  else if w < 0x8000 then Mem.read 0 m.reqArea (w - 0x1000) n
  else slice m.respArea (w - 0x8000) n

/-- The meter ring: 96 slots of 512 KiB, each with its READY (11 R455, R456). -/
def meterRing (s : State) (w n : Nat) : Bytes :=
  match s.meter.ring.find (w / 0x80000) with
  | some h => slice (slotBytes h (s.meter.ready.get 0 (w / 0x80000))) (w % 0x80000) n
  | none => zeros n

/-- The meter delivery block of a VF (11 Tables 9 and 10, MD_LAST). -/
def mdRead (s : State) (vf w n : Nat) : Bytes :=
  let b := s.meter.md.get {} vf
  slice (toLE 8 (b.base + b2n b.enable) ++ toLE 8 (b.code + 2 ^ 16 * b2n b.fault) ++ toLE 8 b.last) w n

/-! ### Reads (03 R88, R89, R95, R99, R123) -/

/-- A read of BAR0 of PF0 (03 Table 3). -/
def pfRead (s : State) (off n : Nat) : Bytes :=
  if off < 0x1000 then slice (identityPage s 0) off n
  else if off < 0x2000 then slice (ringPage s 0) (off - 0x1000) n
  else if 0xA000 ≤ off ∧ off < 0xB000 then Mem.read 0 s.barMem off n
  else if 0xB000 ≤ off ∧ off < 0xC000 then slice (pendingBits s 0) (off - 0xB000) n
  else if 0x10000 ≤ off ∧ off < 0x20000 then mailboxRead s (off - 0x10000) n
  else if 0x401000 ≤ off ∧ off < 0x801000 then slice (statusPage s ((off - 0x400000) / 0x1000)) (off % 0x1000) n
  else if 0x1000000 ≤ off ∧ off < 0x4000000 then meterRing s (off - 0x1000000) n
  else zeros n

/-- A read of BAR0 of a VF (03 Table 4). -/
def vfRead (s : State) (vf off n : Nat) : Bytes :=
  if 0x800 ≤ off ∧ off < 0x900 then mdRead s vf (off - 0x800) n
  else if off < 0x1000 then slice (identityPage s vf) off n
  else if off < 0x2000 then slice (ringPage s vf) (off - 0x1000) n
  else if 0xA000 ≤ off ∧ off < 0xB000 then Mem.read 0 s.barMem (vf * 2 ^ 32 + off) n
  else if 0xB000 ≤ off ∧ off < 0xC000 then slice (pendingBits s vf) (off - 0xB000) n
  else zeros n

/-- An access is 32 or 64 bits and naturally aligned (03 R88). -/
def accessOk (off n : Nat) : Bool := (n == 4 || n == 8) && off % n == 0

/-- What a read of a BAR returns: zero where it is badly formed, reserved, of BAR2, or of a function that is not there; a VF in ERROR stays
readable (03 R88, R89, R99, R123). -/
def barRead (s : State) (fn bar off n : Nat) : Bytes :=
  if !s.mainUp || !accessOk off n then zeros n
  else if fn = 0 ∧ bar = 0 ∧ off < 0x4000000 then pfRead s off n
  else if 1 ≤ fn ∧ fn ≤ 1024 ∧ (s.part fn).enabled ∧ bar = 0 ∧ off < 0x10000 then vfRead s fn off n
  else zeros n

/-- The size of a BAR; each is a 64-bit, non-prefetchable memory BAR (03 R95). -/
def barSize (fn bar : Nat) : Nat :=
  if fn = 0 then (if bar = 0 then 64 * 2 ^ 20 else if bar = 2 then 16 * 2 ^ 20 else 0) else if bar = 0 then 64 * 2 ^ 10 else 0

end Sys2Proof.Machine
end

