-- ==== Sys2Proof/Safety.lean ====
section
/-! DEFINITION. The terms that statements use: the invariant of the block, and what it means that a job has its outcome. -/

namespace Sys2Proof.Machine

open Sys2Proof

/-- The four memories are in canonical form: module memory, code flash, register bytes of the BARs, and what the module has written to
host memory. -/
def State.memoriesOk (s : State) : Bool :=
  Mem.wf 0 s.mem && Mem.wf 0xFF s.codeFlash && Mem.wf 0 s.barMem && Mem.wf 0 s.hostMem

/-- Every command that waits is well formed. -/
def State.queueOk (s : State) : Bool := s.pending.all Instr.wf

/-- The invariant of the block: what waits is well formed, and the memories are canonical. -/
def State.Inv (s : State) : Prop := s.queueOk = true ∧ s.memoriesOk = true

/-- A job has its outcome: it waits for its entry with this status, time class and output; a status other than 0 carries no output
(04 R161, R845). -/
def Finished (t : State) (id status : Nat) (out : Bytes) (tc : Nat) : Prop :=
  (t.job id).phase = .finished ∧ (t.job id).status = status ∧ (t.job id).timeClass = tc ∧
    (t.job id).out = if status = 0 then out else []

/-- A job has its outcome, and every other job is as before. -/
def Ended (s t : State) (id status : Nat) (out : Bytes) (tc : Nat) : Prop :=
  Finished t id status out tc ∧ ∀ k, k ≠ id → t.job k = s.job k

/-- A job is on its squads with its key loaded, its opcode is this one, what is left of it fits one slice or it holds no park slot, as only
a job of several slices does, and it waits for no random bits (06 R250, R255, 12 R480). -/
def OnSquads (s : State) (id op : Nat) : Prop :=
  (s.job id).d.opcode = op ∧ (s.job id).squads ≠ [] ∧ (s.job id).phase = .running ∧
    (lastSlice s (s.job id) = true ∨ (s.job id).parkSlot = none) ∧
    (randomOp (s.job id).d = true → rngTurn s op = true)

/-- A squad job ends OK: its output, and 32 lane-cycles for each nominal cycle (05 R233, 06 R243). -/
def Passed (s t : State) (id : Nat) (out : Bytes) (tc b : Nat) : Prop :=
  Ended s t id 0 out tc ∧ (t.job id).lane = 32 * jobCycles s (s.job id).d b ∧ (t.job id).random = 0

/-- A squad job fails a check of its validation table: no output, and the lane-cycles of the validation (05 R227, R233). -/
def Invalid (s t : State) (id status : Nat) : Prop :=
  Ended s t id status [] 2 ∧ (t.job id).lane = 32 * jobV s (s.job id) ∧ (t.job id).random = 0

/-- Beside one ring, nothing differs. -/
def State.sameBesideRing (t s : State) (p r : Nat) : Prop :=
  (∀ q k, ringKey q k ≠ ringKey p r → t.ring q k = s.ring q k) ∧ { t with rings := s.rings } = s

/-! ### Keys -/

/-- The checks of a new key of a class pass: the store is served, the attribute block is sound, and quota is left (09 R351, R352, R368). -/
def KeyReady (s : State) (id cls : Nat) : Prop :=
  keysServed s = true ∧ (parseAttr (s.job id).opa).rsvd = false ∧ attrBad (parseAttr (s.job id).opa) cls = false ∧
    allocCheck s (s.job id).part = 0

/-- Every slot but one is as before, save that it may have left the key cache (09 R365). -/
def OtherSlotsKept (s t : State) (i : Nat) : Prop :=
  ∀ k, k ≠ i → { t.kslot k with cached := (s.kslot k).cached } = s.kslot k

/-- A job has made a key in slot `i`, which was free: it has the generation of its cell, the material, and the attributes of the job's block.
A VOLATILE one is ACTIVE and its job has ended OK; any other is PENDING, with its job and one more commit waiting (09 R345, R353). -/
def KeyMade (s t : State) (id i cls : Nat) (mat out : Bytes) (tc : Nat) : Prop :=
  let a := parseAttr (s.job id).opa
  let k := t.kslot i
  1 ≤ i ∧ i ≤ 2097151 ∧ s.keys.slots.find i = none ∧ k.gen = s.genOf i ∧ k.owner = (s.job id).part ∧ k.cls = cls ∧ k.material = mat ∧
    k.usage = a.usage ∧ k.exp = a.exp ∧ k.vol = a.vol ∧ k.limited = a.limited ∧ k.limit = a.limit ∧ k.label = a.label ∧ k.count = 0 ∧
    OtherSlotsKept s t i ∧
    (t.job id).out = toLE 8 (handleOf i k) ++ out ∧ (t.job id).timeClass = tc ∧
    (a.vol = true → k.state = 2 ∧ (t.job id).phase = .finished ∧ (t.job id).status = 0) ∧
    (a.vol = false → k.state = 1 ∧ (t.job id).phase = .waitCommit ∧
      (t.keys.queues.get [] (s.job id).part).length = (s.keys.queues.get [] (s.job id).part).length + 1)

/-! ### Queues of channels and flash -/

/-- The descriptor at the head of a channel is the channel's next, passes its checks, and no access of it fails
(10 R385, R389, R393). -/
def DmaTurn (s : State) (c op : Nat) : Prop :=
  c < 512 ∧ s.mainUp = true ∧ chanWork (s.chan c) = true ∧ (s.chan c).cur = none ∧ (s.chan c).skip = false ∧
    (headDesc s c).op = op ∧ dmaCheck (decide (c < 384)) (headDesc s c) = 0 ∧
    firstFault s (chanId s c) (headDesc s c) none = none

/-- The descriptor at the head of a flash queue is the one in turn and passes its checks (16 R603, R606). -/
def FlashTurn (s : State) (ref : QueueRef) (q : FlashQ) (d : FDesc) : Prop :=
  flashQ ref = some q ∧ s.hostSupply = true ∧ (s.fqueue q).hasWork = true ∧ (s.fqueue q).entries ≤ 4096 ∧
    queueTurn s q = some q.num ∧ flashHead s q = d ∧ flashCheck s q d = 0

/-- A bank that a code flash descriptor reaches programs or erases, or a descriptor accepted before it waits for that bank (16 R606,
R607). -/
def BanksBusy (s : State) (d : FDesc) : Bool :=
  (codeBanks d).any (fun b => bankStalls s b || s.code.waits.any (fun v => (codeBanks v.d).contains b))

/-- Module address of the next completion entry of a flash queue. -/
def entryAt (s : State) (q : FlashQ) : Nat := (s.fqueue q).cqBase + 32 * ((s.fqueue q).cqN % (s.fqueue q).entries)

/-- A flash queue has taken its head and written one completion entry (16 R602, Table 5); in module memory of canonical form, as the
invariant has it, the entry reads with this status. -/
def Entered (s t : State) (q : FlashQ) (status : Nat) : Prop :=
  (t.fqueue q).headN = (s.fqueue q).headN + 1 ∧ (t.fqueue q).cqN = (s.fqueue q).cqN + 1 ∧
    (Mem.wf 0 s.mem = true → leNat (Mem.read 0 t.mem (entryAt s q + 6) 2) = status)

/-! ### Verb units -/

/-- A unit runs the `len` words at its PC: it issues, waits for nothing, fetches them with their parity, has no load on its way and no
event pending (13 R501, R518, R524; 14 R545, R548). -/
def Runs (s : State) (u len : Nat) : Prop :=
  unitUp s u = true ∧ (s.unit u).wait = none ∧ fetchStalls s u (s.unit u) = false ∧ fetchExc s u (s.unit u) len = none ∧
    (s.unit u).pendLoad = none ∧ nextAsync (s.unit u) = none

/-- The state in which one unit alone has changed: Dd, flags and PC (13 R514). -/
def State.afterData (s : State) (u len : Nat) (dd : Fin 8) (v : BitVec 32) (f : Fl) : State :=
  s.withRegs u (fun r => { r with d := r.d.set dd v, st := f.apply r.st, pc := r.pc + BitVec.ofNat 20 len })

/-- The state in which one unit alone has changed: flags and PC. -/
def State.afterFlags (s : State) (u len : Nat) (f : Fl) : State :=
  s.withRegs u (fun r => { r with st := f.apply r.st, pc := r.pc + BitVec.ofNat 20 len })

/-- The state in which one unit alone has changed: Ad and PC. -/
def State.afterAddr (s : State) (u len : Nat) (ad : Fin 8) (v : BitVec 24) : State :=
  s.withRegs u (fun r => { r with a := r.a.set ad v, pc := r.pc + BitVec.ofNat 20 len })

/-- The state in which one unit alone has changed: an accumulator, QG where it is set, and PC (13 R507). -/
def State.afterAcc (s : State) (u : Nat) (q : Fin 4) (v : BitVec 72) (qg : Bool) : State :=
  s.withRegs u (fun r => { r with q := r.q.set q v, st := if qg then r.st ||| 0x10 else r.st, pc := r.pc + 1 })

/-- The registers of a MEMORY word that completes: Aa where the mode updates it, and the PC (13 R516). -/
def memRegs (r : VRegs) (pre : List (BitVec 12)) (aa : Fin 8) (mode : BitVec 2) (n : Nat) : VRegs :=
  { r with a := (match (memAddr (r.a.get aa) mode pre n).2 with | some v => r.a.set aa v | none => r.a)
           pc := r.pc + BitVec.ofNat 20 (pre.length + 1) }

/-- The address of a MEMORY word at a unit (13 R516). -/
def memAt (s : State) (u : Nat) (pre : List (BitVec 12)) (aa : Fin 8) (mode : BitVec 2) (n : Nat) : Nat :=
  (memAddr ((s.unit u).r.a.get aa) mode pre n).1.toNat

/-- The state after a load of `n` bytes from local data memory: the value is on its way to its register (13 R504, R518). -/
def State.afterLoad (s : State) (u : Nat) (pre : List (BitVec 12)) (isA : Bool) (i aa : Fin 8) (mode : BitVec 2) (n : Nat) : State :=
  s.withUnit u (fun x => { x with
    pendLoad := some (isA, i.val, BitVec.ofNat 32 (leNat (Mem.read 0 x.ldata (memAt s u pre aa mode n) n)))
    r := memRegs x.r pre aa mode n })

/-- The state after a store of `n` bytes to local data memory: those bytes alone have changed (13 R504). -/
def State.afterStore (s : State) (u : Nat) (pre : List (BitVec 12)) (v : Nat) (aa : Fin 8) (mode : BitVec 2) (n : Nat) : State :=
  s.withUnit u (fun x => { x with
    ldata := Mem.write 0 x.ldata (memAt s u pre aa mode n) (toLE n v)
    r := memRegs x.r pre aa mode n })

/-- The state in which one unit alone has changed: a lane register, from word 0 up, and PC. -/
def State.afterLane (s : State) (u : Nat) (ld : Fin 8) (ws : List Nat) : State :=
  s.withRegs u (fun r => { r.setLane ld.val ws with pc := r.pc + 1 })

/-- The state in which the PC of one unit alone has changed. -/
def State.afterPc (s : State) (u : Nat) : State := s.withRegs u (fun r => { r with pc := r.pc + 1 })

/-- The words of a lane register of a unit (13 R526). -/
def State.laneOf (s : State) (u : Nat) (l : Fin 8) (n : Nat) : List Nat := laneWords (s.unit u).r l.val n

/-! ### Management messages -/

/-- A message of a session is served now, and is no repeat of one of its latest 16 (22 R772, R785). -/
def Served (s : State) (x : SessId) (req : BitVec 16) : Prop :=
  canServe s x = true ∧ (s.sess x).replies.find? (fun p => p.1 == req.toNat) = none

/-- The reply to a message: MSG + 0x80, the status and, when it is OK or EMPTY, further fields (22 R781). -/
def statusReply (msg : Nat) (req : BitVec 16) (st : Nat) (rest : Bytes) : Bytes :=
  message (msg + 0x80) req.toNat (toLE 2 st ++ (if st ≤ 1 then rest else []))

/-- The latest message to a session is `m`: in the response area with BUSY clear and DONE set, or the latest frame (22 R772, R785). -/
def Answered (t : State) (x : SessId) (m : Bytes) : Prop :=
  match x with
  | .mailbox => t.mgmt.respArea = m ∧ t.mgmt.busy = false ∧ t.mgmt.done = true
  | .gap n => (t.sess (.gap n)).sent.getLast? = some m

/-! ### Frames -/

/-- A field of State beside the queue. -/
inductive Field where
  | free | power | clock | islands | evr | mode | link | parts | rings | jobs | nextJob | intake | disp | lanes | meter | guards
  | guardSt | tamper | mgmt | keys | rng | dma | code | vault | verb | appr | tag | life | stood | gls | mem | codeFlash
  | barMem | hostMem
  deriving DecidableEq, Repr

/-- Two states agree in a field. -/
def State.agree (s t : State) : Field → Prop
  | .free => t.free = s.free
  | .power => t.power = s.power
  | .clock => t.clock = s.clock
  | .islands => t.islands = s.islands
  | .evr => t.evr = s.evr
  | .mode => t.mode = s.mode
  | .link => t.link = s.link
  | .parts => t.parts = s.parts
  | .rings => t.rings = s.rings
  | .jobs => t.jobs = s.jobs
  | .nextJob => t.nextJob = s.nextJob
  | .intake => t.intake = s.intake
  | .disp => t.disp = s.disp
  | .lanes => t.lanes = s.lanes
  | .meter => t.meter = s.meter
  | .guards => t.guards = s.guards
  | .guardSt => t.guardSt = s.guardSt
  | .tamper => t.tamper = s.tamper
  | .mgmt => t.mgmt = s.mgmt
  | .keys => t.keys = s.keys
  | .rng => t.rng = s.rng
  | .dma => t.dma = s.dma
  | .code => t.code = s.code
  | .vault => t.vault = s.vault
  | .verb => t.verb = s.verb
  | .appr => t.appr = s.appr
  | .tag => t.tag = s.tag
  | .life => t.life = s.life
  | .stood => t.stood = s.stood
  | .gls => t.gls = s.gls
  | .mem => t.mem = s.mem
  | .codeFlash => t.codeFlash = s.codeFlash
  | .barMem => t.barMem = s.barMem
  | .hostMem => t.hostMem = s.hostMem

/-- The fields that a command can change; every other field is its frame. The released units, wiped slots and returned uses of a job
that ends stand under jobs, lanes, verb, mem, keys, dma, intake and link; `free` is the model's counter of free values (log entry 3). -/
def fieldsChanged : Instr → List Field
  | .supplyArrival _ =>
    [.free, .power, .clock, .islands, .evr, .mode, .link, .meter, .tamper, .mgmt, .rng, .code, .vault, .verb, .tag, .gls]
  | .assay _ =>
    [.free, .power, .clock, .islands, .evr, .mode, .link, .parts, .rings, .jobs, .intake, .disp, .lanes, .meter, .guards, .guardSt, .tamper, .mgmt, .keys, .rng, .dma, .code, .vault, .verb, .appr, .tag, .life, .stood, .gls, .mem, .barMem, .hostMem]
  | .assayDone =>
    [.free, .power, .islands, .evr, .mode, .link, .parts, .rings, .jobs, .lanes, .meter, .tamper, .mgmt, .rng, .dma, .verb, .tag, .life, .gls, .mem]
  | .cut | .suppliesLost =>
    [.free, .power, .clock, .islands, .evr, .mode, .link, .jobs, .intake, .lanes, .meter, .guards, .guardSt, .tamper, .mgmt, .keys, .rng, .dma, .code, .vault, .verb, .appr, .tag, .stood, .gls, .mem, .codeFlash]
  | .auxPowerLoss | .auxPowerReturn | .modeTarget _ _ _ | .serviceEnd _ _ _ | .serviceLimitExpiry =>
    [.free, .power, .islands, .evr, .mode, .link, .jobs, .lanes, .meter, .mgmt, .dma, .verb, .tag, .gls, .mem]
  | .conventionalReset =>
    [.free, .power, .link, .parts, .rings, .jobs, .intake, .lanes, .meter, .mgmt, .dma, .verb, .gls, .mem]
  | .perstDeasserted =>
    [.power, .link]
  | .linkRecovery _ _ =>
    [.evr, .link, .gls]
  | .linkReturnL0 _ _ =>
    [.link, .rings, .jobs, .intake, .meter, .dma, .gls, .hostMem]
  | .functionLevelReset _ | .vfEnableClear | .ideKm _ _ _ _ _ _ | .ideStreamInsecure _ | .stopInterface _ | .tdiFrozenChange _ =>
    [.free, .link, .parts, .rings, .jobs, .intake, .lanes, .meter, .dma, .verb, .gls, .mem]
  | .vfEnableSet =>
    [.free, .link, .parts, .meter, .rng]
  | .numvfsWrite _ | .d3hotEntry | .d3hotExit | .kSetGo _ _ | .doeObject _ _ =>
    [.link]
  | .barAccessDropped _ _ _ _ | .suppressed _ =>
    [.evr]
  | .poisonedWrite _ _ _ | .tlpIntegrityFail _ _ | .lockInterface _ =>
    [.parts]
  | .registerWrite _ _ _ _ =>
    [.free, .clock, .evr, .link, .rings, .jobs, .intake, .lanes, .meter, .mgmt, .keys, .dma, .code, .vault, .verb, .gls, .mem, .codeFlash, .barMem, .hostMem]
  | .proxyDoorbell _ _ _ _ =>
    [.rings, .gls]
  | .spdmMessage _ =>
    [.free, .evr, .link, .parts]
  | .ptmRequest | .otcSave =>
    [.clock]
  | .ptmResponse _ | .ptmAbandon =>
    [.clock, .evr, .meter, .gls]
  | .holdoverEntry | .holdoverExpiry =>
    [.clock, .evr, .meter]
  | .hostReadError _ | .completionTimeout _ | .readAbandoned _ =>
    [.free, .evr, .link, .jobs, .intake, .lanes, .keys, .dma, .code, .vault, .verb, .gls, .mem, .codeFlash, .hostMem]
  | .windowSet _ _ | .quiesce _ _ =>
    [.link, .parts, .rings, .jobs, .intake, .lanes, .keys, .dma, .verb, .gls, .mem]
  | .windowSetDone _ | .windowGet _ | .partitionInfo _ | .timeGet _ | .fenceDone _ | .quiesceDone _ | .destroyComplete _ | .restrictDone _
    | .rngHoldExpiry _ =>
    [.link, .jobs, .intake, .lanes, .keys, .dma, .verb, .mem]
  | .fence _ =>
    [.link, .rings, .jobs, .intake, .dma]
  | .resume _ _ =>
    [.link, .parts, .rings, .jobs, .intake, .lanes, .keys, .dma, .verb, .mem]
  | .timeSet _ _ _ =>
    [.free, .clock, .evr, .link, .rings, .jobs, .intake, .lanes, .meter, .keys, .dma, .verb, .gls, .mem]
  | .timeSetDone _ =>
    [.clock, .link, .jobs, .intake, .lanes, .keys, .dma, .verb, .mem]
  | .ringEnable _ _ | .ringDrained _ _ | .sqDb _ _ _ | .cqDb _ _ _ =>
    [.rings]
  | .ringDisable _ _ | .descriptorReadFailed _ =>
    [.link, .rings, .jobs, .intake, .dma, .gls]
  | .ringAbort _ _ =>
    [.free, .link, .rings, .jobs, .intake, .lanes, .keys, .dma, .verb, .gls, .mem, .hostMem]
  | .intakeVisit _ =>
    [.rings, .intake]
  | .descriptorArrival _ _ =>
    [.link, .rings, .jobs, .nextJob, .intake, .meter, .dma, .gls, .hostMem]
  | .contextFreed =>
    [.jobs, .disp]
  | .stagingReadDone _ _ _ | .gangSliceStart _ | .modadd _ | .modmul _ | .modexp _ | .modinv _ | .rsaPublic _ | .rsaVerifyV15 _
    | .rsaVerifyPss _ | .ecdsaVerify _ | .eddsaVerify _ | .mlkemDecaps _ | .mldsaVerify _ =>
    [.free, .evr, .link, .jobs, .intake, .lanes, .keys, .dma, .verb, .gls, .mem]
  | .stagingWipeDone _ =>
    [.intake]
  | .rngWaitEnd _ =>
    [.jobs]
  | .dispatch _ _ _ =>
    [.free, .evr, .link, .rings, .jobs, .intake, .disp, .lanes, .keys, .dma, .verb, .gls, .mem]
  | .rsaPrivate _ | .rsaSignV15 _ | .rsaSignPss _ | .rsaDecryptOaep _ | .rsaKeygen _ | .ecdsaSign _ | .ecdh _ | .eddsaSign _ | .xdh _
    | .ecKeygen _ | .mldsaSign _ | .mlkemKeygen _ | .mldsaKeygen _ | .streamSegment _ _ | .lmont _ _ _ _ | .lsettle _ _ _ _ | .nmul _ _ _ _
    | .nadd _ _ _ _ | .nsub _ _ _ _ | .nbfct _ _ _ _ | .nbfgs _ _ _ _ | .kperm _ _ _ =>
    [.free, .islands, .evr, .mode, .link, .rings, .jobs, .intake, .lanes, .meter, .tamper, .mgmt, .keys, .rng, .dma, .vault, .verb, .tag, .gls, .mem, .hostMem]
  | .rsaEncryptOaep _ | .mlkemEncaps _ | .keyImport _ =>
    [.free, .evr, .link, .jobs, .intake, .lanes, .keys, .rng, .dma, .verb, .gls, .mem]
  | .keyGenSym _ =>
    [.free, .link, .rings, .jobs, .intake, .lanes, .keys, .rng, .dma, .verb, .mem]
  | .keyExport _ | .keyDestroy _ | .keyInfo _ | .keyRestrict _ | .frozenUnitRecovery _ =>
    [.evr, .link, .rings, .jobs, .intake, .lanes, .keys, .dma, .verb, .gls, .mem]
  | .keyPurge _ =>
    [.free, .link, .parts, .rings, .jobs, .intake, .lanes, .keys, .rng, .dma, .vault, .verb, .mem]
  | .purgeWipe _ =>
    [.free, .parts, .keys, .rng]
  | .commitService | .useCountPage =>
    [.keys, .vault]
  | .keyCacheFill _ _ _ | .nop _ | .wfe _ | .waitc _ _ | .retg _ | .retx _ | .verbFence _ | .brk _ | .ems _ | .emc _ | .gate _ _
    | .sev _ _ _ | .mfs _ _ _ | .mts _ _ _ | .movad _ _ _ | .movda _ _ _ | .movaa _ _ _ | .jmp _ _ | .jsr _ _ | .adda _ _ _ | .addaa _ _ _
    | .cmpa _ _ _ | .addai _ _ _ _ | .mov _ _ _ | .add _ _ _ | .adc _ _ _ | .sub _ _ _ | .sbc _ _ _ | .cmp _ _ _ | .and _ _ _ | .or _ _ _
    | .xor _ _ _ | .andn _ _ _ | .tst _ _ _ | .neg _ _ _ | .not _ _ _ | .shl _ _ _ | .shr _ _ _ | .sar _ _ _ | .ror _ _ _ | .mul _ _ _
    | .mulhu _ _ _ | .mulhs _ _ _ | .minu _ _ _ | .maxu _ _ _ | .mins _ _ _ | .maxs _ _ _ | .clz _ _ _ | .popc _ _ _ | .bswap _ _ _
    | .cmovz _ _ _ | .cmovc _ _ _ | .sxb _ _ _ | .sxh _ _ _ | .movi _ _ _ _ | .addi _ _ _ _ | .cmpi _ _ _ _ | .andi _ _ _ _ | .ori _ _ _ _
    | .xori _ _ _ _ | .shli _ _ _ | .shri _ _ _ | .branch _ _ _ _ | .call _ _ _ | .macu _ _ _ _ | .macs _ _ _ _ | .mulu _ _ _ _ | .mql _ _ _
    | .mqh _ _ _ | .mqg _ _ _ | .mdql _ _ _ | .mdqh _ _ _ | .mdqg _ _ _ | .shrq _ _ _ | .shlq _ _ _ | .ladd _ _ _ | .lsub _ _ _
    | .lmov _ _ _ | .lconv _ _ _ | .lld _ _ _ | .lst _ _ _ | .lsetup _ _ _ | .lqn _ _ _ | .ypt _ | .reservedPattern _ _ _ =>
    [.evr, .link, .jobs, .intake, .lanes, .keys, .dma, .verb, .gls, .mem]
  | .streamSeal _ _ _ | .streamOpen _ _ _ =>
    [.evr, .link, .jobs, .intake, .lanes, .keys, .dma, .verb, .gls, .mem, .hostMem]
  | .streamBind =>
    [.rings, .jobs, .intake, .dma]
  | .randomBytes _ =>
    [.free, .link, .rings, .jobs, .intake, .lanes, .keys, .rng, .dma, .verb, .gls, .mem, .hostMem]
  | .channelGrant =>
    [.link, .jobs, .dma]
  | .channelEnable _ _ =>
    [.dma]
  | .channelAbort _ =>
    [.dma, .verb, .mem]
  | .qTail _ _ =>
    [.dma, .code, .vault]
  | .copy _ _ | .fill _ | .compareConst _ _ | .compareBuf _ _ =>
    [.free, .evr, .dma, .code, .vault, .verb, .gls, .mem, .codeFlash, .hostMem]
  | .readBackDone _ _ =>
    [.link, .rings, .jobs, .intake, .meter, .dma, .verb, .gls, .mem, .hostMem]
  | .minuteClose =>
    [.free, .clock, .evr, .meter]
  | .minuteSetDurable =>
    [.link, .meter]
  | .minuteDelivery _ _ =>
    [.link, .meter, .gls, .hostMem]
  | .rngRetired _ _ | .startTimeout _ | .rngKatRun _ _ =>
    [.evr, .link, .jobs, .intake, .lanes, .keys, .rng, .dma, .verb, .gls, .mem]
  | .channelRestart _ | .reseed _ =>
    [.rng]
  | .rngDataLo _ | .rngDataHi _ | .rngJdataLo _ | .rngJdataHi _ | .ldb _ _ _ _ _ | .ldh _ _ _ _ _ | .ldw _ _ _ _ _ | .lda _ _ _ _ _
    | .dtbFrac _ =>
    [.free, .clock, .evr, .link, .jobs, .intake, .lanes, .keys, .rng, .dma, .verb, .gls, .mem]
  | .rnsSelftestRun _ =>
    [.lanes, .gls]
  | .patrolTest _ _ _ =>
    [.islands, .evr, .link, .jobs, .lanes, .dma, .verb, .mem]
  | .waitWake _ | .deviceInterrupt _ _ =>
    [.verb, .gls]
  | .stb _ _ _ _ _ | .sth _ _ _ _ _ | .stw _ _ _ _ _ | .sta _ _ _ _ _ =>
    [.free, .evr, .link, .jobs, .intake, .lanes, .keys, .dma, .code, .vault, .verb, .gls, .mem, .codeFlash]
  | .pairDiverged _ =>
    [.evr, .verb, .gls]
  | .pairSelftestDone _ _ =>
    [.verb]
  | .runAhead _ =>
    [.gls]
  | .guardScrub _ _ =>
    [.evr, .mode, .link, .rings, .jobs, .intake, .lanes, .meter, .guards, .guardSt, .tamper, .mgmt, .keys, .rng, .dma, .vault, .verb, .tag, .gls, .mem, .hostMem]
  | .guardDrainDone | .changeoverUnitDone _ _ =>
    [.free, .power, .islands, .evr, .mode, .link, .rings, .jobs, .intake, .lanes, .meter, .guards, .guardSt, .mgmt, .dma, .verb, .tag, .gls, .mem]
  | .flashRead _ _ | .flashProgram _ | .flashErase _ | .eraseSuspend _ | .eraseResume _ =>
    [.evr, .code, .vault, .verb, .gls, .mem]
  | .flashProgramDone _ _ =>
    [.free, .evr, .mode, .link, .parts, .rings, .jobs, .intake, .lanes, .meter, .guards, .guardSt, .tamper, .mgmt, .keys, .rng, .dma, .code, .vault, .verb, .appr, .tag, .gls, .mem, .codeFlash, .hostMem]
  | .flashEraseDone _ _ =>
    [.evr, .code, .vault, .verb, .gls, .mem, .codeFlash]
  | .suspendExpiry _ =>
    [.code, .vault, .verb, .mem]
  | .readStatus _ =>
    [.free, .evr, .code, .vault, .verb, .gls, .mem]
  | .flushTick =>
    [.islands, .evr, .vault]
  | .collection | .wearCollection _ =>
    [.vault, .gls]
  | .victimErase =>
    [.vault]
  | .crossingTimeout _ =>
    [.islands, .evr, .link, .rings, .jobs, .intake, .lanes, .tamper, .dma, .verb, .gls, .mem]
  | .eventStamp =>
    [.evr, .parts, .gls]
  | .agentAnswer _ _ | .agentTimeout _ =>
    [.free, .power, .islands, .evr, .mode, .link, .rings, .jobs, .intake, .lanes, .meter, .mgmt, .dma, .verb, .tag, .gls, .mem]
  | .delayExpiry _ =>
    [.mode]
  | .sramRepaired _ _ _ =>
    [.islands, .evr, .link, .rings, .jobs, .intake, .lanes, .keys, .dma, .verb, .life, .gls, .mem]
  | .lifecycleEraseComplete =>
    [.evr, .mode, .link, .meter, .mgmt, .code, .vault, .verb, .tag, .life, .gls, .mem]
  | .monitorSample _ _ _ _ =>
    [.islands, .evr, .mode, .link, .rings, .jobs, .intake, .lanes, .meter, .guards, .guardSt, .tamper, .mgmt, .keys, .rng, .dma, .vault, .verb, .tag, .gls, .mem, .hostMem]
  | .batchExecute =>
    [.power, .evr, .link, .rings, .jobs, .intake, .lanes, .tamper, .mgmt, .keys, .rng, .dma, .vault, .verb, .tag, .gls, .mem, .hostMem]
  | .quiesceHoldEnd =>
    [.evr, .link, .rings, .jobs, .intake, .lanes, .tamper, .keys, .rng, .dma, .vault, .verb, .gls, .mem, .hostMem]
  | .alertAck _ _ _ | .inboundFrame _ =>
    [.link, .mgmt, .gls]
  | .coalesceWindowClose =>
    [.evr, .gls]
  | .mbGo | .authResponse _ _ _ | .authDrop _ | .describe _ _ _ _ | .csQuery _ _ _ _ | .csDiscard _ _ | .nopMessage _ _ | .msgUnknown _ _ _ =>
    [.link, .mgmt]
  | .hello _ _ _ _ | .finish _ _ | .close _ _ | .gapSessionExpiry _ =>
    [.free, .evr, .mgmt]
  | .authChallenge _ =>
    [.free, .link, .mgmt]
  | .officerIdle | .notifyAck _ _ | .notifyResend _ _ =>
    [.mgmt]
  | .read _ _ _ _ _ _ =>
    [.free, .link, .mgmt, .tag, .gls]
  | .write _ _ _ _ _ =>
    [.free, .power, .islands, .evr, .mode, .link, .jobs, .lanes, .meter, .guards, .mgmt, .dma, .verb, .appr, .tag, .gls, .mem]
  | .csSeal _ _ =>
    [.evr, .link, .mgmt, .gls]
  | .csSign _ _ _ _ _ | .csCancel _ _ _ =>
    [.evr, .link, .guards, .mgmt, .gls]
  | .countersignExpiry _ =>
    [.evr, .guards, .mgmt, .gls]
  | .csCommit =>
    [.free, .evr, .mode, .link, .parts, .rings, .jobs, .intake, .lanes, .meter, .guards, .guardSt, .mgmt, .keys, .rng, .dma, .vault, .verb, .appr, .tag, .life, .gls, .mem]
  | .cardInserted | .clockStop | .ping _ | .externalField =>
    [.appr]
  | .cardResponse _ | .badgeResponse _ =>
    [.evr, .guards, .mgmt, .appr, .gls]
  | .cardWtx _ | .cardRemoved | .cardOvercurrent | .badgePresenceCheck _ | .blockWaitingTimeExpiry | .frameWaitingTimeExpiry =>
    [.evr, .appr, .gls]
  | .cardRequest _ _ _ | .fieldRequest _ _ _ =>
    [.link, .mgmt, .appr, .gls]
  | .cardMidstepClear _ _ _ =>
    [.evr, .link, .mgmt, .appr, .gls]
  | .externalFieldGone =>
    [.link, .mgmt, .appr, .tag, .gls]
  | .tagTransactionStart =>
    [.appr, .tag]
  | .tagSelect _ | .readBinary _ _ | .updateBinary _ _ =>
    [.tag]
  | .increment _ _ _ =>
    [.free, .tag]
  | .tagTransactionEnd | .tagTransactionTimeout | .tagMemBlock _ _ _ | .tagCounterAdd _ _ _ | .tagHostTimeout =>
    [.link, .mgmt, .tag, .gls]
  | .thermalOverload _ _ =>
    [.free, .power, .islands, .verb]
  | .startUpTestPassed _ =>
    [.link, .jobs, .intake, .lanes, .keys, .rng, .dma, .verb, .life, .gls, .mem]
  | .selfTestDone _ =>
    [.evr, .lanes, .gls]
  | .vaultBankIdle _ =>
    [.islands, .evr]
  | .cellExhausted =>
    [.power, .clock, .tamper]
  | .alwaysOnSupplyChange _ =>
    [.power]

end Sys2Proof.Machine
end

