-- ==== Sys2Proof/Certificates/Slice0/Obligations.lean ====
section
/-! DEFINITION. The statements about the block, for the provers. -/

open Sys2Proof Sys2Proof.Machine

/-- A step on a queue `c :: rest` is `exec c` on the state whose queue is `rest` (log entry 1: the model's queue of commands). -/
def Obligations.StepRunsFrontCommand : Prop :=
  ∀ (c : Instr) (rest : List Instr) (s : State), step { s with pending := c :: rest } = exec c { s with pending := rest }

/-- Every command completes in one step, and the queue of waiting commands is first in, first out: whatever the command, the step leaves
exactly the rest of the queue (the model's choice of one queue is log entry 1, its totality log entry 8). -/
def Obligations.EveryCommandCompletesInOrder : Prop :=
  ∀ (c : Instr) (rest : List Instr) (s : State), s.pending = c :: rest →
    ∃ t, step s = .next t ∧ t.pending = rest

/-- The invariant of the block is kept by every step, from every state that meets it: what waits stays well formed, and the four memories
stay in canonical form, so that equal memories are equal data. -/
def Obligations.EveryStepKeepsTheInvariant : Prop :=
  ∀ s t : State, s.Inv → step s = .next t → t.Inv

/-- The invariant holds right after reset. -/
def Obligations.ResetMeetsTheInvariant : Prop := State.reset.Inv

/-- The frame of every command: outside the fields listed for it, nothing changes. -/
def Obligations.CommandsChangeListedFieldsAlone : Prop :=
  ∀ (c : Instr) (s t : State) (f : Field), exec c s = .next t → f ∉ fieldsChanged c → s.agree t f

/-- Link events and D3hot (03 R90, R106; 02 R74; 01 R29). -/
def Obligations.LinkEventsSetTheLinkAlone : Prop :=
  (∀ s : State, s.mainUp = true → s.link.state = .down →
    ∃ t, exec .perstDeasserted s = .next t ∧ t.link.state = .training ∧ t.power.perst = false ∧
      t.jobs = s.jobs ∧ { t with link := s.link, power := s.power } = s) ∧
  (∀ (s : State) (width rate : Nat), s.link.state = .l0 → linkOk width rate = true →
    ∃ t, exec (.linkRecovery width rate) s = .next t ∧ t.link.state = .recovery ∧ t.link.width = width ∧ t.link.rate = rate ∧
      t.gv gLinkRecoveryCount = (s.gv gLinkRecoveryCount + 1) % 2 ^ 64 ∧
      t.evr.ports.get [] 140 = s.evr.ports.get [] 140 ++ [.evt 0x0203 (fit 16 (toLE 1 s.link.width ++ toLE 1 s.link.rate ++ toLE 1 width ++ toLE 1 rate))] ∧
      { t with link := s.link, gls := s.gls, evr := s.evr } = s) ∧
  (∀ (s : State) (width rate : Nat), s.mainUp = true → (s.link.state = .recovery ∨ s.link.state = .training) → s.link.heldPosts = [] →
    s.meter.md = [] → linkOk width rate = true → s.link.d3hot = false →
    ∃ t, exec (.linkReturnL0 width rate) s = .next t ∧ t.link.state = .l0 ∧ t.link.width = width ∧ t.link.rate = rate ∧
      t.link.msixHeld = [] ∧ t.link.msixSent = s.link.msixSent ++ s.link.msixHeld ∧
      { t with link := s.link } = s) ∧
  (∀ s : State, s.mainUp = true →
    ∃ t, exec .d3hotEntry s = .next t ∧ t.link.d3hot = true ∧ { t with link := s.link } = s) ∧
  (∀ s : State, s.mainUp = true → s.link.d3hot = true → s.link.state = .l0 →
    ∃ t, exec .d3hotExit s = .next t ∧ t.link.d3hot = false ∧ t.link.pba = [] ∧
      t.link.msixSent = s.link.msixSent ++ s.link.pba.map (fun v => (0, v)) ∧ { t with link := s.link } = s)

/-- Functions and their resets (03 R94, R102, R105). -/
def Obligations.FunctionsEnableAndReset : Prop :=
  (∀ (s : State) (n : Nat), s.mainUp = true → s.link.vfEnable = false → n ≤ 1024 →
    ∃ t, exec (.numvfsWrite n) s = .next t ∧ t.link.numVfs = n ∧ { t with link := s.link } = s) ∧
  (∀ (s : State) (n : Nat), s.link.vfEnable = true → exec (.numvfsWrite n) s = .next s) ∧
  (∀ s : State, s.mainUp = true → s.link.vfEnable = false →
    ∃ t, exec .vfEnableSet s = .next t ∧ t.link.vfEnable = true ∧
      (∀ p, 1 ≤ p → p ≤ s.link.numVfs → (t.part p).enabled = true) ∧ t.jobs = s.jobs ∧ t.rings = s.rings) ∧
  (∀ s : State, s.link.vfEnable = true →
    ∃ t, exec .vfEnableClear s = .next t ∧ ∀ p, 1 ≤ p → p ≤ s.link.numVfs → (t.part p).enabled = false) ∧
  (∀ (s : State) (vf : Nat), vf ≠ 0 → (s.part vf).enabled = true →
    ∃ t, exec (.functionLevelReset vf) s = .next t ∧ (t.part vf).windows = [] ∧
      ∀ r, r < 8 → (t.ring vf r).enable = false ∧ (t.ring vf r).state = 0) ∧
  (∀ s : State, s.mainUp = true →
    ∃ t, exec .conventionalReset s = .next t ∧ t.link.state = (if t.power.perst then .down else .training) ∧
      (s.power.perst = true → t.power.perst = true) ∧ t.link.heldPosts = [] ∧ t.link.reads = [] ∧
      (t.part 0).windows = [] ∧ t.mgmt.mbox.role = 2)

/-- IDE and TDISP (03 R115 to R123): what each message sets. -/
def Obligations.IdeAndTdispStates : Prop :=
  (∀ (s : State) (stream set lo hi : Nat) (ko ki : Bytes), s.mainUp = true → s.link.spdm ≠ [] → stream ≤ 64 → set ≤ 1 → lo ≤ hi → hi ≤ 1024 →
    s.parts.keysWith (fun x => x.tdi.state == 1 || x.tdi.state == 2) = [] →
    ∃ t, exec (.ideKm stream set lo hi ko ki) s = .next t ∧ (t.ideStream stream).sets.find set = some ⟨ko, ki⟩ ∧
      (t.ideStream stream).lo = lo ∧ (t.ideStream stream).hi = hi ∧ (∀ n, n ≠ stream → t.ideStream n = s.ideStream n) ∧
      { t with link := s.link } = s) ∧
  (∀ (s : State) (stream set lo hi vf : Nat) (ko ki : Bytes), s.mainUp = true → s.link.spdm ≠ [] → stream ≤ 64 → set ≤ 1 → lo ≤ hi →
    hi ≤ 1024 → ((s.part vf).tdi.state = 1 ∨ (s.part vf).tdi.state = 2) →
    carrier (s.withIde stream (fun x => { x with sets := x.sets.set set ⟨ko, ki⟩, lo := lo, hi := hi })) vf ≠ some (s.part vf).tdi.stream →
    ∃ t, exec (.ideKm stream set lo hi ko ki) s = .next t ∧ (t.part vf).tdi.state = 3) ∧
  (∀ (s : State) (stream set : Nat) (k : IdeKeys), s.mainUp = true → s.link.spdm ≠ [] → (s.ideStream stream).sets.find set = some k →
    ∃ t, exec (.kSetGo stream set) s = .next t ∧ (t.ideStream stream).cur = set ∧ (t.ideStream stream).secure = true ∧
      (t.ideStream stream).insecure = false ∧ (t.ideStream stream).sets = (s.ideStream stream).sets ∧
      (∀ n, n ≠ stream → t.ideStream n = s.ideStream n) ∧ { t with link := s.link } = s) ∧
  (∀ (s : State) (stream : Nat), s.mainUp = true → (s.link.ide.find stream).isSome = true →
    s.parts.keysWith (fun x => (x.tdi.state == 1 || x.tdi.state == 2) && x.tdi.stream == stream) = [] →
    ∃ t, exec (.ideStreamInsecure stream) s = .next t ∧ (t.ideStream stream).secure = false ∧ (t.ideStream stream).insecure = true ∧
      { t with link := s.link } = s) ∧
  (∀ (s : State) (stream fn : Nat), s.mainUp = true →
    ∃ t, exec (.tlpIntegrityFail stream fn) s = .next t ∧ (t.part fn).aer = (s.part fn).aer ++ [2] ∧
      (∀ p, p ≠ fn → t.part p = s.part p) ∧ { t with parts := s.parts } = s) ∧
  (∀ (s : State) (vf n : Nat), s.mainUp = true → s.link.spdm ≠ [] → vf ≠ 0 → (s.part vf).enabled = true → (s.part vf).tdi.state = 0 →
    carrier s vf = some n →
    ∃ t, exec (.lockInterface vf) s = .next t ∧ (t.part vf).tdi = ⟨1, n⟩ ∧ (t.part vf).windows = (s.part vf).windows ∧
      (∀ p, p ≠ vf → t.part p = s.part p) ∧ { t with parts := s.parts } = s) ∧
  (∀ (s : State) (vf : Nat), s.mainUp = true → s.link.spdm ≠ [] → (s.part vf).tdi.state ≠ 0 →
    ∃ t, exec (.stopInterface vf) s = .next t ∧ (t.part vf).tdi.state = 0 ∧ (t.part vf).windows = [] ∧
      ∀ p, p ≠ vf → t.part p = s.part p) ∧
  (∀ (s : State) (vf : Nat), s.mainUp = true → ((s.part vf).tdi.state = 1 ∨ (s.part vf).tdi.state = 2) →
    ∃ t, exec (.tdiFrozenChange vf) s = .next t ∧ (t.part vf).tdi = { (s.part vf).tdi with state := 3 } ∧ (t.part vf).windows = [] ∧
      ∀ p, p ≠ vf → t.part p = s.part p)

/-- Accesses of the BARs, DOE and SPDM (03 R88, R89, R97, R98, R125, R127, R133). -/
def Obligations.BarAccessesAndDoe : Prop :=
  (∀ (s : State) (fn off size : Nat) (write : Bool), s.mainUp = true → ((size ≠ 4 ∧ size ≠ 8) ∨ off % size ≠ 0) →
    ∃ t, exec (.barAccessDropped fn off size write) s = .next t ∧
      t.evr.ports.get [] 140 = s.evr.ports.get [] 140 ++ [.coal 0x0201 fn (off % 2 ^ 32 + 2 ^ 32 * (size % 256) + 2 ^ 40 * b2n write) fn] ∧
      { t with evr := s.evr } = s) ∧
  (∀ (s : State) (fn bar off : Nat), s.mainUp = true →
    ∃ t, exec (.poisonedWrite fn bar off) s = .next t ∧ (t.part fn).aer = (s.part fn).aer ++ [1] ∧
      (∀ p, p ≠ fn → t.part p = s.part p) ∧ { t with parts := s.parts } = s) ∧
  (∀ (s : State) (size : Nat) (value : BitVec 64), s.mainUp = true →
    ∃ t u, exec (.registerWrite .config 0 size value) s = .next t ∧ t.clock.ptmEnable = value.getLsbD 0 ∧ { t with clock := s.clock } = s ∧
      exec (.registerWrite .config 2 size value) s = .next u ∧ u.link.ctoValue = value.toNat % 16 ∧ { u with link := s.link } = s) ∧
  (∀ (s : State) (vf off : Nat) (value : BitVec 64), s.mainUp = true → 1 ≤ vf → vf ≤ 1024 → (s.part vf).enabled = true →
    0xA000 ≤ off → off + 4 ≤ 0xA080 → off % 4 = 0 →
    ((s.part vf).tdi.state ≠ 3 → ∃ t, exec (.registerWrite (.bar vf 0) off 4 value) s = .next t ∧
      t.barMem = Mem.write 0 s.barMem (vf * 2 ^ 32 + off) (toLE 4 value.toNat) ∧ { t with barMem := s.barMem } = s) ∧
    ((s.part vf).tdi.state = 3 → exec (.registerWrite (.bar vf 0) off 4 value) s = .next s)) ∧
  (∀ (s : State) (vf ring : Nat) (value : BitVec 32), s.mainUp = true → 1 ≤ vf → vf ≤ 1024 → ring < 8 → (s.part vf).enabled = true →
    (s.part vf).tdi.state = 0 →
    exec (.proxyDoorbell vf ring false value) s = exec (.sqDb vf ring value) s ∧
      exec (.proxyDoorbell vf ring true value) s = exec (.cqDb vf ring value) s) ∧
  (∀ (s : State) (vf ring : Nat) (cq : Bool) (value : BitVec 32), s.mainUp = true → 1 ≤ vf → vf ≤ 1024 → ring < 8 →
    ((s.part vf).enabled = false ∨ (s.part vf).tdi.state ≠ 0) →
    ∃ t, exec (.proxyDoorbell vf ring cq value) s = .next t ∧
      t.gvs gPartitionProxyDropped vf = (s.gvs gPartitionProxyDropped vf + 1) % 2 ^ 64 ∧ { t with gls := s.gls } = s) ∧
  (∀ (s : State) (kind : DoeKind) (len : Nat), s.mainUp = true → 65536 < len →
    ∃ t, exec (.doeObject kind len) s = .next t ∧ t.link.doeError = true ∧ { t with link := s.link } = s) ∧
  (∀ (s : State) (len index : Nat), s.mainUp = true → len ≤ 65536 →
    ∃ t, exec (.doeObject (.discovery index) len) s = .next t ∧ t.link.doeOut = discovery index ∧ { t with link := s.link } = s) ∧
  (∀ (s : State) (slot id : Nat), s.mainUp = true → 2 ≤ slot →
    ∃ t u v, exec (.spdmMessage .getVersion) s = .next t ∧ t.link.doeOut = [0x00, 0x12, 0x00, 0x13] ∧ { t with link := s.link } = s ∧
      exec (.spdmMessage (.getCertificate slot)) s = .next u ∧ u.link.doeOut = [] ∧ { u with link := s.link } = s ∧
      exec (.spdmMessage (.endSession id)) s = .next v ∧ v.link.spdm.find id = none ∧ { v with link := s.link } = s)

/-- Supplies (02 R71 to R84; 18 R661, R673, R678; 19 R690, R694). -/
def Obligations.SuppliesSetTheMode : Prop :=
  (∀ s : State, s.hostSupply = false →
    ∃ t u, exec (.supplyArrival .aux33) s = .next t ∧ t.modeNum = 1 ∧ t.mode.previous = s.modeNum ∧ t.power.aux33 = true ∧ t.power.source = .aux33 ∧
      exec (.supplyArrival .main12) s = .next u ∧ u.modeNum = 1 ∧ u.power.main12 = true ∧ u.power.source = .main12) ∧
  (∀ (s : State) (r : AssayReport), s.modeNum = 1 → s.mode.noImage = false → s.mode.changeover = none → s.life.change = none →
    ∃ t, exec (.assay r) s = .next t ∧ t.modeNum = 2 ∧ t.mode.assayRun = true ∧ t.power.main12 = true ∧
      t.gv gBootResult = (if t.gv gBootUnitsLost = 0 then 0 else 1) ∧ t.mgmt.mbox.role = 2) ∧
  (∀ s : State, s.power.main12 = true → s.mainUp = true → s.power.aux33 = true →
    ∃ t, exec .cut s = .next t ∧ t.modeNum = 1 ∧ t.power.main12 = false ∧ t.power.source = .aux33) ∧
  (∀ s : State, s.power.main12 = true → s.power.aux33 = false →
    ∃ t, exec .cut s = .next t ∧ t.modeNum = 0 ∧ t.power.main12 = false ∧ t.power.source = .cell ∧ t.verb.units = [] ∧ t.guards = []) ∧
  (∀ s : State, s.hostSupply = true →
    ∃ t, exec .suppliesLost s = .next t ∧ t.modeNum = 0 ∧ t.power.main12 = false ∧ t.power.aux33 = false ∧ t.power.source = .cell ∧
      t.verb.units = [] ∧ t.rings = s.rings ∧ t.parts = s.parts ∧ t.hostMem = s.hostMem) ∧
  (∀ s : State, s.hostSupply = false →
    ∃ t, exec .cellExhausted s = .next t ∧ t.tamper.rootHeld = false ∧ t.tamper.root = [] ∧ t.clock.stLost = true ∧
      t.power.cellExhausted = true ∧ { t with tamper := s.tamper, clock := s.clock, power := s.power } = s) ∧
  (∀ (s : State) (present : Bool), s.power.main12 = true → s.hostSupply = true →
    ∃ t, exec (.alwaysOnSupplyChange present) s = .next t ∧ t.power.aux33 = present ∧
      t.power.source = (if present then .aux33 else .main12) ∧ { t with power := s.power } = s) ∧
  (∀ s : State, s.modeNum = 3 →
    ∃ t, exec .auxPowerLoss s = .next t ∧ t.modeNum = 4 ∧ t.power.auxGood = false ∧ t.power.cap60 = true ∧ t.gv gModeLeanCause = 3) ∧
  (∀ s : State, s.modeNum = 3 → s.isLean = false →
    ∃ t, exec .auxPowerReturn s = .next t ∧ t.power.auxGood = true ∧ t.power.cap60 = false ∧
      t.gv gModePowerCap = (if s.power.auxConn = .sixPin then 135 else 150) ∧
      { t with power := s.power, islands := s.islands, verb := s.verb, gls := s.gls, free := s.free } = s) ∧
  (∀ (s : State) (die : Nat), die < 2 → s.hostSupply = true →
    ∃ t, exec (.thermalOverload die true) s = .next t ∧ die ∈ t.power.hotDies ∧
      (∀ n, n < 244 → (if n < 200 then 0 else 1) = die → n ≠ 194 → n ≠ 243 → s.isl n ≤ 1 → t.isl n = 1) ∧
      (∀ n, 1 < s.isl n → t.isl n = s.isl n) ∧ (s.isl 194 ≠ 1 → t.isl 194 = s.isl 194) ∧
      { t with power := s.power, islands := s.islands, verb := s.verb, free := s.free } = s)

/-- The mode controller and the tests of squads (18 R664 to R675; 19 R698, R707; 06 R257; 05 R237). -/
def Obligations.ModesHandshakeAndTests : Prop :=
  (∀ s : State, s.modeNum = 2 → s.mode.assayRun = true → s.power.perst = false → commitsLeft s = false → unitsServe s = true →
    s.tamper.rootHeld = true → s.tamper.rootCheck = checkOf s.tamper.root → s.gv gBootRootDue = 0 → auxAbsent s = false → s.gv gModeTarget = 3 →
    ∃ t, exec .assayDone s = .next t ∧ t.modeNum = 3 ∧ t.mode.previous = 2 ∧ t.meter.accepting = true ∧ t.tamper.root = s.tamper.root) ∧
  (∀ (s : State) (tr : Transition) (k : Nat), s.mode.trans = some tr → k ∈ tr.waiting → tr.waiting.filter (fun n => n != k) ≠ [] →
    ∃ t, exec (.agentAnswer k .accept) s = .next t ∧
      t.mode.trans = some { tr with waiting := tr.waiting.filter (fun n => n != k) } ∧ { t with mode := s.mode } = s) ∧
  (∀ (s : State) (tr : Transition) (k : Nat), s.mode.trans = some tr → tr.waiting = [k] → tr.delayed = [] → s.mode.waiting = none →
    tr.target ≤ 7 → ∃ t, exec (.agentAnswer k .accept) s = .next t ∧ t.modeNum = tr.target ∧ t.mode.trans = none ∧ t.mode.previous = s.modeNum) ∧
  (∀ (s : State) (tr : Transition) (k reason : Nat), s.mode.trans = some tr → k ∈ tr.waiting → reason ≠ 1 → s.mode.waiting = none → k < 65536 →
    ∃ t, exec (.agentAnswer k (.refuse reason)) s = .next t ∧ t.modeNum = s.modeNum ∧ t.mode.trans = none ∧
      t.gvs gPowerIslandRefusals k = (s.gvs gPowerIslandRefusals k + 1) % 2 ^ 64 ∧ t.gvs gPowerIslandReason k = reason ∧
      { t with mode := s.mode, gls := s.gls, evr := s.evr } = s) ∧
  (∀ (s : State) (tr : Transition) (k : Nat), s.mode.trans = some tr → k ∈ tr.waiting → s.mode.waiting = none → k < 65536 →
    (tr.asked.get tr.askedAt k + usTicks 20 ≤ s.now →
      ∃ t, exec (.agentTimeout k) s = .next t ∧ t.modeNum = s.modeNum ∧ t.mode.trans = none ∧ t.gvs gPowerIslandReason k = 5 ∧
        t.gv gModeRefusedLast = 256 * 5 + k) ∧
    (s.now < tr.asked.get tr.askedAt k + usTicks 20 → exec (.agentTimeout k) s = .next s)) ∧
  (∀ (s : State) (tr : Transition) (k n : Nat), s.mode.trans = some tr → k ∈ tr.waiting → 1 ≤ n → tr.delays.get 0 k + n ≤ 255 →
    ∃ t u, exec (.agentAnswer k (.delay n)) s = .next t ∧ t.mode.trans = some u ∧ u.waiting = tr.waiting.filter (fun m => m != k) ∧
      k ∈ u.delayed ∧ u.delays.get 0 k = tr.delays.get 0 k + n ∧ u.asked.get 0 k = s.now + usTicks (10 * n) ∧
      t.gvs gPowerIslandDelays k = (s.gvs gPowerIslandDelays k + 1) % 2 ^ 64 ∧ { t with mode := s.mode, gls := s.gls } = s) ∧
  (∀ (s : State) (tr : Transition) (k : Nat), s.mode.trans = some tr → k ∈ tr.delayed →
    (tr.asked.get 0 k ≤ s.now → ∃ t, exec (.delayExpiry k) s = .next t ∧ { t with mode := s.mode } = s ∧
      t.mode.trans = some { tr with
        delayed := tr.delayed.filter (fun n => n != k), waiting := tr.waiting ++ [k], asked := tr.asked.set k s.now }) ∧
    (s.now < tr.asked.get 0 k → exec (.delayExpiry k) s = .next s)) ∧
  (∀ (s : State) (x : SessId) (req : BitVec 16) (value : Bytes), Served s x req → writeCheck s x 0x110005 value true false = 0 →
    ∃ t, exec (.modeTarget x req value) s = .next t ∧ t.gv gModeTarget = leNat value ∧ Answered t x (statusReply 0x11 req 0 [])) ∧
  (∀ (s : State) (x : SessId) (req : BitVec 16) (value : Bytes), Served s x req → s.modeNum = 7 → writeCheck s x 0x11000A value true false = 0 →
    s.mode.waiting = none →
    ∃ t, exec (.serviceEnd x req value) s = .next t ∧ t.modeNum = modeBack s s.mode.serviceLeft ∧ t.mode.serviceAt = none ∧
      Answered t x (statusReply 0x11 req 0 [])) ∧
  (∀ (s : State) (n : Nat), s.modeNum = 7 → s.mode.serviceAt = some n → n + secTicks (s.gv gModeServiceLimit) ≤ s.now → s.mode.waiting = none →
    ∃ t, exec .serviceLimitExpiry s = .next t ∧ t.modeNum = modeBack s s.mode.serviceLeft ∧ t.mode.serviceAt = none) ∧
  (∀ (s : State) (q : Nat), q < 32 → s.serving = true → (s.squad q).mode = 0 → patrolIsDue s q = true →
    (∃ t, exec (.patrolTest q [] true) s = .next t ∧ (t.squad q).patrolAt = s.now ∧ (t.squad q).patrolDue = false ∧ (t.squad q).mode = 0 ∧
      (∀ k, k ≠ q → t.squad k = s.squad k) ∧ { t with lanes := s.lanes } = s) ∧
    ∀ l, ∃ t, exec (.patrolTest q l false) s = .next t ∧ (t.squad q).mode = 2 ∧ (t.squad q).slots = []) ∧
  (∀ (s : State) (q : Nat), s.serving = true → selftestFree s q = true →
    ∃ t, exec (.rnsSelftestRun q) s = .next t ∧ t.lanes.selfTest = some q ∧ (t.squad q).mode = 3 ∧ t.gv gRnsSelftestResult = 3 ∧
      { t with lanes := s.lanes, gls := s.gls } = s) ∧
  (∀ (s : State) (q : Nat), s.lanes.selfTest = some q → (s.squad q).mode = 3 → (s.squad q).slots = [] → (s.squad q).gang = none →
    (∃ t, exec (.selfTestDone true) s = .next t ∧ t.lanes.selfTest = none ∧ (t.squad q).mode = 0 ∧ t.gv gRnsSelftestResult = 1 ∧
      { t with lanes := s.lanes, gls := s.gls } = s) ∧
    ∃ t, exec (.selfTestDone false) s = .next t ∧ t.lanes.selfTest = none ∧ (t.squad q).mode = 3 ∧ (t.squad q).withdrawn = true ∧
      (t.squad q).patrolDue = true ∧ t.gv gRnsSelftestResult = 2 ∧ { t with lanes := s.lanes, gls := s.gls, evr := s.evr } = s)

/-- Device time (17 R642, R646 to R648, R656; 03 R129); that an empty queue is a tick is the model's choice (log entry 5). -/
def Obligations.DeviceTimeAndPtm : Prop :=
  (∀ s : State, s.clock.ptmEnable = true → s.mainUp = true → s.link.state = .l0 → s.clock.ptmOut = none →
    (s.clock.ptmSlot ≠ some (ptmPeriod s) →
      ∃ t, exec .ptmRequest s = .next t ∧
        t = { s with clock := { s.clock with ptmOut := some (s.clock.ticks, s.clock.dtb), ptmSlot := some (ptmPeriod s) } }) ∧
    (s.clock.ptmSlot = some (ptmPeriod s) → exec .ptmRequest s = .next s)) ∧
  (∀ (s : State) (m t1 d : Nat), s.clock.ptmOut = some (t1, d) → s.now ≤ t1 + msTicks 1 → s.clock.lastValid = none → s.clock.anchored = false →
    ∃ t, exec (.ptmResponse m) s = .next t ∧ t.clock.off = (d : Int) - m ∧ t.clock.anchored = true ∧ t.clock.lastValid = some (m, t1) ∧
      t.clock.ptmOut = none ∧ t.clock.dtb = s.clock.dtb ∧ t.clock.rate = s.clock.rate ∧
      t.gv gTimePtmValid = (s.gv gTimePtmValid + 1) % 2 ^ 64 ∧ { t with clock := s.clock, gls := s.gls } = s) ∧
  (∀ (s : State) (m t1 d : Nat), s.clock.ptmOut = some (t1, d) → s.now ≤ t1 + msTicks 1 → exchangeValid s.clock t1 d m = true → s.clock.anchored = true →
    s.clock.tstate = 0 → s.clock.anchorLost = false →
    ∃ t, exec (.ptmResponse m) s = .next t ∧ (t.clock.rate, t.clock.rateF) = steer s.clock t1 d m ∧ t.clock.lastValid = some (m, t1) ∧
      t.clock.validRun = s.clock.validRun + 1 ∧ t.clock.off = s.clock.off ∧ t.clock.dtb = s.clock.dtb ∧ { t with clock := s.clock, gls := s.gls } = s) ∧
  (∀ (s : State) (t1 d : Nat), s.clock.ptmOut = some (t1, d) → s.now < t1 + msTicks 1 → exec .ptmAbandon s = .next s) ∧
  (∀ (s : State) (t1 d : Nat), s.clock.ptmOut = some (t1, d) → t1 + msTicks 1 ≤ s.now → s.clock.discRun < 99 →
    ∃ t, exec .ptmAbandon s = .next t ∧ t.clock.ptmOut = none ∧ t.clock.discRun = s.clock.discRun + 1 ∧
      t.gv gTimePtmDiscarded = (s.gv gTimePtmDiscarded + 1) % 2 ^ 64 ∧ { t with clock := s.clock, gls := s.gls } = s) ∧
  (∀ (s : State) (m n : Nat), s.clock.tstate = 0 → s.clock.lastValid = some (m, n) → n + msTicks 100 ≤ s.now →
    ∃ t, exec .holdoverEntry s = .next t ∧ t.clock.tstate = 1 ∧ t.clock.rate = s.clock.rateF ∧ t.clock.dtb = s.clock.dtb ∧
      { t with clock := s.clock, evr := s.evr, meter := s.meter } = s) ∧
  (∀ s : State, s.clock.tstate = 1 → s.clock.holdoverAt + secTicks 3600 ≤ s.now →
    ∃ t, exec .holdoverExpiry s = .next t ∧ t.clock.tstate = 2 ∧ t.clock.anchored = s.clock.anchored ∧
      { t with clock := s.clock, evr := s.evr, meter := s.meter } = s) ∧
  (∀ s : State, s.hostSupply = true →
    ∃ t, exec .otcSave s = .next t ∧ t.clock.otcSaved = s.clock.otc ∧ { t with clock := s.clock } = s) ∧
  (∀ s : State, s.pending = [] → s.mainUp = true → s.clock.stSub + 1 < ticksPerSt → 0 ≤ 2 ^ 48 + s.clock.rate → s.clock.resid < 2 ^ 48 →
    ∃ t, step s = .next t ∧ t.clock.ticks = s.clock.ticks + 1 ∧ t.clock.stSub = s.clock.stSub + 1 ∧
      ∃ w : Nat, t.clock.dtb = w % 2 ^ 96 ∧
        (w : Int) * 2 ^ 48 + t.clock.resid = (s.clock.dtb : Int) * 2 ^ 48 + 10737418240 * (2 ^ 48 + s.clock.rate) + s.clock.resid ∧
      t.clock.resid < 2 ^ 48 ∧ { t with clock := s.clock } = s)

/-- DMA channels (10 R381 to R400). -/
def Obligations.DmaOperations : Prop :=
  (∀ (s : State) (c : Nat), 384 ≤ c → c < 512 → s.mainUp = true →
    ((s.chan c).state = 0 → 1 ≤ (s.chan c).entries → (s.chan c).entries ≤ 4096 →
      ∃ t, exec (.channelEnable c true) s = .next t ∧ (t.chan c).state = 1 ∧ (t.chan c).tail = 0 ∧ (t.chan c).headN = 0 ∧
        (t.chan c).cqN = 0 ∧ (∀ k, k ≠ c → t.chan k = s.chan k) ∧ { t with dma := s.dma } = s) ∧
    ((s.chan c).state = 1 → (s.chan c).cur = none →
      ∃ t, exec (.channelEnable c false) s = .next t ∧ (t.chan c).state = 0 ∧ (∀ k, k ≠ c → t.chan k = s.chan k) ∧
        { t with dma := s.dma } = s) ∧
    ((s.chan c).state ≠ 0 → ∃ t, exec (.channelAbort c) s = .next t ∧ (t.chan c).state = 0 ∧ (t.chan c).cur = none)) ∧
  (∀ (s : State) (c v : Nat), c < 512 → s.mainUp = true → (s.chan c).state = 1 → v < 8192 →
    tailOk (s.chan c).entries (s.chan c).headN v = true →
    ∃ t, exec (.qTail (.dma c) v) s = .next t ∧ t.chan c = { s.chan c with tail := v, readAt := (t.chan c).readAt } ∧
      (∀ k, k ≠ c → t.chan k = s.chan k) ∧ { t with dma := s.dma } = s) ∧
  (∀ (s : State) (ref : QueueRef) (q : FlashQ) (v : Nat), flashQ ref = some q → s.hostSupply = true →
    (s.fqueue q).state = 1 → v < 8192 → tailOk (s.fqueue q).entries (s.fqueue q).headN v = true →
    ∃ t, exec (.qTail ref v) s = .next t ∧ t.fqueue q = { s.fqueue q with tail := v } ∧ t.mem = s.mem ∧ t.dma = s.dma) ∧
  (∀ (s : State) (c : Nat) (host : Bytes), DmaTurn s c 0 → (headDesc s c).xform = 0 → (headDesc s c).src.inModule = true →
    (headDesc s c).dst.inModule = false → (headDesc s c).dst.lines = 1 →
    let d := headDesc s c
    ∃ t, exec (.copy c host) s = .next t ∧ t.mem = s.mem ∧
      t.hostMem = Mem.write 0 s.hostMem (hostPlace (chanFn s c) d.dst.addr) ((sideRead s d.src d.src.total).take d.src.total) ∧
      (t.chan c).cur = some ⟨d.tag, d.link, d.noEvent, 0, 0, d.src.total⟩ ∧ (t.chan c).headN = (s.chan c).headN) ∧
  (∀ (s : State) (c : Nat), DmaTurn s c 1 → (headDesc s c).dst.inModule = false → (headDesc s c).dst.lines = 1 →
    let d := headDesc s c
    ∃ t, exec (.fill c) s = .next t ∧ t.mem = s.mem ∧
      t.hostMem = Mem.write 0 s.hostMem (hostPlace (chanFn s c) d.dst.addr) (patternBytes d.pattern d.dst.len) ∧
      (t.chan c).cur = some ⟨d.tag, d.link, d.noEvent, 0, 0, d.dst.len⟩) ∧
  (∀ (s : State) (c : Nat) (host : Bytes), DmaTurn s c 2 → (s.chan c).entries ≤ 4096 → Mem.wf 0 s.mem = true →
    let d := headDesc s c
    let a := (s.chan c).cqBase + 32 * ((s.chan c).cqN % (s.chan c).entries)
    ∃ t, exec (.compareConst c host) s = .next t ∧ (t.chan c).headN = (s.chan c).headN + 1 ∧
      (t.chan c).cqN = (s.chan c).cqN + 1 ∧ t.hostMem = s.hostMem ∧
      (∀ k, k < a ∨ a + 32 ≤ k → Mem.get 0 t.mem k = Mem.get 0 s.mem k) ∧
      (Mem.get 0 t.mem (a + 8)).toNat =
        b2n (firstDiff 0 (sideData s d.src host d.src.total) (patternBytes d.pattern d.src.total)).isSome) ∧
  (∀ (s : State) (c : Nat) (host : Bytes), DmaTurn s c 3 → (s.chan c).entries ≤ 4096 → Mem.wf 0 s.mem = true →
    let d := headDesc s c
    let a := (s.chan c).cqBase + 32 * ((s.chan c).cqN % (s.chan c).entries)
    ∃ t, exec (.compareBuf c host) s = .next t ∧ (t.chan c).headN = (s.chan c).headN + 1 ∧
      (t.chan c).cqN = (s.chan c).cqN + 1 ∧ t.hostMem = s.hostMem ∧
      (∀ k, k < a ∨ a + 32 ≤ k → Mem.get 0 t.mem k = Mem.get 0 s.mem k) ∧
      (Mem.get 0 t.mem (a + 8)).toNat =
        b2n (firstDiff 0 (sideData s d.src host d.src.total) (sideData s d.dst host d.src.total)).isSome)

/-- Read-backs and failed reads (01 R38; 03 R131, R132; 04 R161; 10 R395, R398). -/
def Obligations.ReadBacksAndFailedReads : Prop :=
  (∀ (s : State) (c : Nat) (k : DmaCur) (ok : Bool), s.mainUp = true → (s.chan c).cur = some k →
    ∃ t, exec (.readBackDone (.channel c) ok) s = .next t ∧ (t.chan c).cur = none ∧
      (t.chan c).headN = (s.chan c).headN + 1 ∧ (t.chan c).cqN = (s.chan c).cqN + 1 ∧ t.hostMem = s.hostMem ∧
      t.jobs = s.jobs) ∧
  (∀ (s : State) (id : Nat), s.mainUp = true → (s.job id).phase = .finished → s.link.heldPosts.contains id = false →
    (s.job id).out ≠ [] → (s.job id).chan.isSome = true → s.link.state = .l0 → s.meter.accepting = true → (s.job id).d.ordered = false →
    let j := s.job id
    let r := (s.ring j.part j.ring).pass j.n
    ∃ t, exec (.readBackDone (.job id) true) s = .next t ∧ t.jobs.find id = none ∧
      (t.ring j.part j.ring).cqN = (s.ring j.part j.ring).cqN + 1 ∧
      t.hostMem = Mem.write 0 (Mem.write 0 s.hostMem (hostPlace j.part j.d.resAddr) j.out)
        (hostPlace j.part (r.cqBase + 32 * (r.cqTail % r.entries)))
        (entryBytes r j (s.tu j.part j.count)) ∧
      (∀ k, k ≠ id → t.job k = s.job k) ∧ t.mem = s.mem ∧ t.chan ((j.chan).getD 0) = {}) ∧
  (∀ (s : State) (id : Nat) (ok : Bool), (s.job id).out ≠ [] → (s.job id).chan = none → s.mainUp = true →
    exec (.readBackDone (.job id) ok) s = .next s) ∧
  (∀ (s : State) (id : Nat), s.mainUp = true → (s.job id).phase = .finished → s.link.heldPosts.contains id = false →
    (s.job id).out ≠ [] → (s.job id).chan.isSome = true → s.link.state = .l0 → s.meter.accepting = true → (s.job id).d.ordered = false →
    ∃ t, exec (.readBackDone (.job id) false) s = .next t ∧ t.jobs.find id = none ∧
      t.gv gDmaReadbackFail = (s.gv gDmaReadbackFail + 1) % 2 ^ 64 ∧ (∀ k, k ≠ id → t.job k = s.job k) ∧ t.mem = s.mem) ∧
  (∀ (s : State) (id : Nat) (c : Instr), (s.job id).phase = .staged ∨ (s.job id).phase = .fetching →
    s.link.reads.any (fun h => h.who == .job id) = true →
    c = .hostReadError (.job id) ∨
      (c = .completionTimeout (.job id) ∧ s.link.ctoDisable = false ∧
        readDue s (.job id) (ctoTicks s.link.ctoValue) = true) ∨
      (c = .readAbandoned (.job id) ∧ s.link.ctoDisable = true ∧ readDue s (.job id) (secTicks 1) = true) →
    ∃ t, exec c s = .next t ∧ Ended s t id 0x3003 [] 6)

/-- Administrative jobs (03 R111 to R113, R135 to R141; 17 R644). -/
def Obligations.AdministrativeJobs : Prop :=
  (∀ (s : State) (id : Nat) (b : BitVec 256), adminRead s id 0x0801 = true →
    (windowCheck s (s.job id).part b.toNat = 0 →
      ∃ t, exec (.windowSet id b) s = .next t ∧
        (t.part (s.job id).part).windows = Tab.set (s.part (s.job id).part).windows (bits b.toNat 3 0) (blockWindow b.toNat) ∧
        (t.part (s.job id).part).winVer = (s.part (s.job id).part).winVer + 1 ∧
        (∀ q, q ≠ (s.job id).part → t.part q = s.part q)) ∧
    (windowCheck s (s.job id).part b.toNat ≠ 0 →
      ∃ t, exec (.windowSet id b) s = .next t ∧ Ended s t id (windowCheck s (s.job id).part b.toNat) [] 2 ∧ t.parts = s.parts)) ∧
  (∀ (s : State) (id : Nat), (s.job id).phase = .adminWait → (s.job id).d.opcode = 0x0801 →
    (∀ e, e ∈ s.jobs → e.1 = id ∨ e.2.part ≠ (s.job id).part ∨ (s.job id).winVer < e.2.winVer) →
    ∃ t, exec (.windowSetDone id) s = .next t ∧ Ended s t id 0 [] 6) ∧
  (∀ (s : State) (id : Nat), adminReady s id 0x0802 = true →
    ∃ t, exec (.windowGet id) s = .next t ∧ Ended s t id 0
      ((List.range 16).flatMap (fun k => windowBytes k ((s.part (s.job id).part).windows.get {} k))) 4) ∧
  (∀ (s : State) (id : Nat), adminReady s id 0x0803 = true →
    ∃ t, exec (.partitionInfo id) s = .next t ∧ Ended s t id 0 (infoBlock s (s.job id).part) 4) ∧
  (∀ (s : State) (id : Nat), adminReady s id 0x0804 = true →
    ∃ t, exec (.timeGet id) s = .next t ∧ Ended s t id 0
      (toLE 16 (s.dtbNs % 2 ^ 64 + 2 ^ 64 * (s.clock.dtb % 2 ^ 32) + 2 ^ 96 * s.clock.tstate)) 4) ∧
  (∀ (s : State) (id : Nat), adminReady s id 0x0805 = true →
    ∃ t, exec (.fence id) s = .next t ∧ (t.job id).phase = .adminWait ∧ (∀ k, k ≠ id → t.job k = s.job k)) ∧
  (∀ (s : State) (id : Nat), (s.job id).phase = .adminWait → (s.job id).d.opcode = 0x0805 →
    (∀ e, e ∈ s.jobs → e.2.part ≠ (s.job id).part ∨ e.2.ring ≠ (s.job id).ring ∨ (s.job id).n ≤ e.2.n) →
    (∀ n, n ∈ fetching s (s.job id).part (s.job id).ring → (s.job id).n ≤ n) →
    ∃ t, exec (.fenceDone id) s = .next t ∧ Ended s t id 0 [] 6) ∧
  (∀ (s : State) (id : Nat) (w : BitVec 64), adminRead s id 0x0880 = true →
    (targetCheck s w.toNat = 0 → (s.part w.toNat).quiesced = false →
      ∃ t, exec (.quiesce id w) s = .next t ∧ (t.part w.toNat).quiesced = true ∧
        (∀ r, r < 8 → (s.ring w.toNat r).state = 1 → (t.ring w.toNat r).state = 3)) ∧
    (targetCheck s w.toNat = 0 → (s.part w.toNat).quiesced = true →
      ∃ t, exec (.quiesce id w) s = .next t ∧ Ended s t id 0 [] 6) ∧
    (targetCheck s w.toNat ≠ 0 → ∃ t, exec (.quiesce id w) s = .next t ∧ Ended s t id (targetCheck s w.toNat) [] 2)) ∧
  (∀ (s : State) (id : Nat), (s.job id).phase = .adminWait → (s.job id).d.opcode = 0x0880 →
    (∀ p, p ∈ (s.job id).waits → s.inFlight p = 0) →
    ∃ t, exec (.quiesceDone id) s = .next t ∧ Ended s t id 0 [] 6) ∧
  (∀ (s : State) (id : Nat) (w : BitVec 64), adminRead s id 0x0881 = true → targetCheck s w.toNat = 0 →
    ∃ t, exec (.resume id w) s = .next t ∧ Ended s t id 0 [] 4 ∧ (t.part w.toNat).quiesced = false) ∧
  (∀ (s : State) (id : Nat) (ns w : BitVec 64), adminRead s id 0x0882 = true → timeSetBusy s = false →
    (bits w.toNat 63 32 = 0 →
      ∃ t, exec (.timeSet id ns w) s = .next t ∧ t.clock.dtb = (ns.toNat * 2 ^ 32 + bits w.toNat 31 0) % 2 ^ 96 ∧
        t.clock.setJob = some id ∧ t.gv gTimeSetCount = (s.gv gTimeSetCount + 1) % 2 ^ 64) ∧
    (bits w.toNat 63 32 ≠ 0 → ∃ t, exec (.timeSet id ns w) s = .next t ∧ Ended s t id 0x1003 [] 2)) ∧
  (∀ (s : State) (id : Nat), (s.job id).phase = .adminWait → (s.job id).d.opcode = 0x0882 →
    (∀ h, h ∈ s.meter.closing → bit h.flags 3 = false) →
    ∃ t, exec (.timeSetDone id) s = .next t ∧ Ended s t id 0 [] 6 ∧ t.clock.setJob = none)

/-- The life of a ring (04 R151 to R157). -/
def Obligations.RingLife : Prop :=
  (∀ (s : State) (p r : Nat), partOn s p = true → r < 8 → (s.ring p r).state = 0 → enableCheck s p (s.ring p r) = 0 →
    ringsHeld s p = false →
    ∃ t, exec (.ringEnable p r) s = .next t ∧ (t.ring p r).state = 1 ∧ (t.ring p r).enable = true ∧
      (t.ring p r).sqHead = 0 ∧ (t.ring p r).cqTail = 0 ∧ (t.ring p r).sqTail = 0 ∧ (t.ring p r).cqHead = 0 ∧
      (t.ring p r).dbDropped = 0 ∧ (t.ring p r).squashed = 0 ∧ t.sameBesideRing s p r) ∧
  (∀ (s : State) (p r : Nat) (v : BitVec 32), partOn s p = true → r < 8 → (s.ring p r).state = 1 →
    bits v.toNat 16 0 < 2 * (s.ring p r).entries →
    (s.ring p r).diff (bits v.toNat 16 0) (s.ring p r).sqHead ≤ (s.ring p r).entries →
    ∃ t, exec (.sqDb p r v) s = .next t ∧ t.ring p r = { s.ring p r with sqTail := bits v.toNat 16 0 } ∧
      t.sameBesideRing s p r) ∧
  (∀ (s : State) (p r : Nat) (v : BitVec 32), partOn s p = true → r < 8 → (s.ring p r).state = 1 →
    bits v.toNat 16 0 ≠ (s.ring p r).sqTail →
    2 * (s.ring p r).entries ≤ bits v.toNat 16 0 ∨
      (s.ring p r).entries < (s.ring p r).diff (bits v.toNat 16 0) (s.ring p r).sqHead →
    ∃ t, exec (.sqDb p r v) s = .next t ∧ (t.ring p r).fault = true ∧
      (t.ring p r).faultCode = (if 2 * (s.ring p r).entries ≤ bits v.toNat 16 0 then 0x2011 else 0x2001) ∧
      (t.ring p r).sqTail = (s.ring p r).sqTail ∧
      (t.ring p r).dbDropped = ((s.ring p r).dbDropped + 1) % 2 ^ 32 ∧ t.sameBesideRing s p r) ∧
  (∀ (s : State) (p r : Nat) (v : BitVec 32), partOn s p = true → r < 8 → (s.ring p r).state = 1 →
    bits v.toNat 16 0 < 2 * (s.ring p r).entries →
    (s.ring p r).diff (s.ring p r).cqTail (bits v.toNat 16 0) ≤ (s.ring p r).entries →
    ∃ t, exec (.cqDb p r v) s = .next t ∧ t.ring p r = { s.ring p r with cqHead := bits v.toNat 16 0 } ∧
      t.sameBesideRing s p r) ∧
  (∀ (s : State) (p r : Nat), partOn s p = true → (s.ring p r).state = 1 → ringQuiet s p r = true →
    ∃ t, exec (.ringDisable p r) s = .next t ∧ (t.ring p r).state = 0 ∧ (t.ring p r).enable = false ∧ t.jobs = s.jobs ∧
      t.parts = s.parts ∧ t.hostMem = s.hostMem) ∧
  (∀ (s : State) (p r : Nat), (s.ring p r).state = 2 → ringQuiet s p r = true →
    ∃ t, exec (.ringDrained p r) s = .next t ∧ (t.ring p r).state = 0 ∧ t.sameBesideRing s p r) ∧
  (∀ (s : State) (p r : Nat), ringQuiet s p r = false → exec (.ringDrained p r) s = .next s) ∧
  (∀ (s : State) (p r id : Nat) (j : Job), partOn s p = true → (s.ring p r).state = 1 → s.jobs = [(id, j)] →
    j.part = p → j.ring = r → j.phase = .running → j.d.opcode ≠ 0x0602 →
    ∃ t, exec (.ringAbort p r) s = .next t ∧ Finished t id 0x6001 [] 6 ∧ (t.ring p r).state = 2 ∧ t.hostMem = s.hostMem)

/-- Intake (04 R166 to R176, R850). -/
def Obligations.IntakeAdmitsOrCompletes : Prop :=
  (∀ (s : State) (c p r : Nat), s.serving = true → s.link.state = .l0 → (s.intake.get {} c).held = false →
    (s.intake.get {} c).out = none → c < 4 → s.isl (151 + c) < 2 →
    afterCyc (pendingParts s c) (s.intake.get {} c).lastPart = some p →
    afterCyc ((List.range 8).filter (fun k => (s.ring p k).hasWork)) ((s.intake.get {} c).ringTurn.get 7 p) = some r →
    let room := min ((s.ring p r).entries - (s.ring p r).diff (s.ring p r).cqTail (s.ring p r).cqHead - (s.ring p r).reserved)
      (min (freeSlots s p) (s.gvs gPartitionCap p - s.inFlight p))
    let ns := nextRead (s.ring p r) room
    ∃ t, exec (.intakeVisit c) s = .next t ∧ ns.length ≤ 8 ∧ (t.intake.get {} c).lastPart = p ∧
      (t.intake.get {} c).out = (if ns.isEmpty then none else some (p, r, ns)) ∧
      (t.ring p r).reserved = (s.ring p r).reserved + ns.length ∧ t.jobs = s.jobs ∧ t.hostMem = s.hostMem) ∧
  (∀ (s : State) (c p r n : Nat) (w : BitVec 512), s.link.state = .l0 → (s.intake.get {} c).out = some (p, r, [n]) →
    chainMember (s.ring p r) n (parseDesc w) = false → s.jobs.find s.nextJob = none →
    (intakeCheck s p (parseDesc w) = 0 → canAlloc s p = true →
      s.jobs.any (fun e => e.2.phase == .waitCtx && canAlloc s e.2.part) = false →
      ∃ t, exec (.descriptorArrival c [w]) s = .next t ∧ t.nextJob = s.nextJob + 1 ∧ (t.job s.nextJob).part = p ∧
        (t.job s.nextJob).ring = r ∧ (t.job s.nextJob).n = n ∧ (t.job s.nextJob).d = parseDesc w ∧
        (t.job s.nextJob).ctx = true ∧ (t.job s.nextJob).phase = afterContext s (parseDesc w) ∧
        (t.job s.nextJob).winVer = (s.part p).winVer ∧ (∀ k, k ≠ s.nextJob → t.job k = s.job k) ∧
        (t.intake.get {} c).out = none) ∧
    (intakeCheck s p (parseDesc w) ≠ 0 → (parseDesc w).ordered = false → s.meter.accepting = true →
      ∃ t, exec (.descriptorArrival c [w]) s = .next t ∧ t.jobs.find s.nextJob = none ∧
        (t.ring p r).cqN = (s.ring p r).cqN + 1 ∧ (∀ k, k ≠ s.nextJob → t.job k = s.job k))) ∧
  (∀ (s : State) (c p r : Nat) (ns : List Nat), (s.intake.get {} c).out = some (p, r, ns) →
    (s.ring p r).heldSq = none → (s.ring p r).heldCq = none →
    ∃ t, exec (.descriptorReadFailed c) s = .next t ∧ (t.ring p r).fault = true ∧ (t.ring p r).faultCode = 0x3003 ∧
      (t.intake.get {} c).out = none) ∧
  (∀ (s : State) (p id : Nat),
    let l := waitingParts s
    let first := l.filter (fun p => decide (s.inFlight p < min (s.gvs gPartitionCap p) 32))
    afterCyc (if first.isEmpty then l else first) s.disp.ctxPos = some p →
    (s.jobsWith (fun j => j.part == p && j.phase == .waitCtx)).head? = some id →
    ∃ t, exec .contextFreed s = .next t ∧ (t.job id).ctx = true ∧ (t.job id).phase = afterContext s (s.job id).d ∧
      t.disp.ctxPos = p ∧ (∀ k, k ≠ id → t.job k = s.job k))

/-- Staging (04 R177 to R183, 10 R379, R382, R401, 12 R480). -/
def Obligations.StagingReadsOperands : Prop :=
  (∀ (s : State) (id c : Nat) (j : Job), s.jobs = [(id, j)] → j.phase = .staged → j.chan = none → orderBlocked s j = false →
    0 < operandBytes j.d → s.link.state = .l0 → outstanding s < 4096 → freeChannel s = some c → 0 < s.gv gDmaPartitionChannels →
    ∃ t, exec .channelGrant s = .next t ∧ (t.job id).chan = some c ∧ t.dma.lastPart = j.part ∧ c < 384 ∧
      (∃ h : HostRead, t.link.reads = s.link.reads ++ [h] ∧ h.who = .job id ∧ h.issuedAt = s.now ∧ h.fn = j.part) ∧
      (t.chan c).shared = min (ceilDiv (operandBytes j.d) 4096 - 1) (min (poolFree s) 64)) ∧
  (∀ (s : State) (id : Nat) (opa opb : Bytes), (s.job id).phase = .staged → (s.job id).chan.isSome = true →
    s.link.state = .l0 → opa.length = (s.job id).d.opaLen * lenUnit (s.job id).d.opcode →
    opb.length = (s.job id).d.opbLen * lenUnit (s.job id).d.opcode → orderBlocked s (s.job id) = false →
    ∃ t, exec (.stagingReadDone id opa opb) s = .next t ∧ (t.job id).phase = .ready ∧ (t.job id).opa = opa ∧
      (t.job id).opb = opb ∧ (t.job id).chan = none ∧ (t.job id).d = (s.job id).d ∧ (∀ k, k ≠ id → t.job k = s.job k)) ∧
  (∀ (s : State) (c : Nat), ∃ t u, exec (.stagingWipeDone ⟨c, false⟩) s = .next t ∧
    (t.intake.get {} c).wiping = (s.intake.get {} c).wiping - 1 ∧ (t.intake.get {} c).wiping0 = (s.intake.get {} c).wiping0 ∧
    { t with intake := s.intake } = s ∧ exec (.stagingWipeDone ⟨c, true⟩) s = .next u ∧
    (u.intake.get {} c).wiping0 = (s.intake.get {} c).wiping0 - 1 ∧ (u.intake.get {} c).wiping = (s.intake.get {} c).wiping ∧
    { u with intake := s.intake } = s) ∧
  (∀ (s : State) (id : Nat), (s.job id).phase = .waitRng → rngTurn s (s.job id).d.opcode = true →
    ∃ t, exec (.rngWaitEnd id) s = .next t ∧ (t.job id).phase = readyPhase (s.job id).d ∧
      (∀ k, k ≠ id → t.job k = s.job k) ∧ { t with jobs := s.jobs } = s)

/-- Dispatch (04 R187 to R190, 06 R247 to R252). -/
def Obligations.DispatchPlacesJobs : Prop :=
  (∀ (s s1 : State) (p id q : Nat) (opa opb : Bytes), s.serving = true → againJob s = none → grant s = some (p, s1) →
    readyJob s1 p = some id → isGang s1 (s1.job id).d = false →
    takesPark s1 (s1.job id).d = false → (s1.job id).parkSlot = none → (s1.job id).order = 0 →
    slotKeyed (s1.job id).d = false → squadOk s1 (s1.job id).part q (s1.job id).avoid = true → (s1.squad q).slots = [] →
    ∃ t, exec (.dispatch q opa opb) s = .next t ∧ (t.job id).phase = (if operandsHeld (s1.job id) then .running else .fetching) ∧ (t.job id).squads = [q] ∧
      (t.job id).order = s1.lanes.dispatched + 1 ∧ t.lanes.dispatched = s1.lanes.dispatched + 1 ∧
      (t.squad q).slots = [(0, id)] ∧ (t.squad q).owner = (s1.job id).part ∧ (∀ k, k ≠ id → t.job k = s1.job k)) ∧
  (∀ (s : State) (id : Nat), (s.job id).phase = .reserving → slotKeyed (s.job id).d = false →
    (s.job id).squads.all (fun q => (s.squad q).slots.isEmpty) = true →
    ∃ t, exec (.gangSliceStart id) s = .next t ∧ (t.job id).phase = (if operandsHeld (s.job id) then .running else .fetching) ∧ (t.job id).squads = (s.job id).squads ∧
      (∀ q, q ∈ (s.job id).squads → (t.squad q).slots.find 0 = some id ∧ (t.squad q).owner = (s.job id).part) ∧
      (∀ k, k ≠ id → t.job k = s.job k))

/-- Stream jobs (10 R404 to R420). -/
def Obligations.StreamJobs : Prop :=
  (∀ (s : State) (e id : Nat), s.serving = true → pickEngine s = some e →
    (s.jobsWith (fun j => j.phase == .waitEngine)).head? = some id → (s.job id).phase = .waitEngine →
    ∃ t, exec .streamBind s = .next t ∧ (t.job id).engine = some e ∧ (t.job id).phase = .streaming ∧
      (∀ k, k ≠ id → t.job k = s.job k) ∧ { t with jobs := s.jobs } = s) ∧
  (∀ (s s1 : State) (id op : Nat) (opa opb : Bytes) (c : Instr),
    (c = .streamSeal id opa opb ∧ op = 0x0601) ∨ (c = .streamOpen id opa opb ∧ op = 0x0602) →
    (s.job id).d.opcode = op → (s.job id).engine.isSome = true → (s.job id).phase = .streaming → (s.job id).strm.key = [] →
    (s.job id).strm.rekey = false →
    (2048 < operandBytes (s.job id).d → s.link.state = .l0 ∧ (s.job id).chan.isSome = true) →
    let small : Bool := decide (operandBytes (s.job id).d ≤ 2048)
    let head := if small then (s.job id).opa else opa
    let data := if small then (s.job id).opb else opb
    head.length = (s.job id).d.opaLen → data.length = (s.job id).d.opbLen →
    tryLoad s id (s.job id).d.handle (streamAsk (s.job id).d) = (0, s1) →
    ∃ t, exec c s = .next t ∧
      if streamCheck (s.job id).d data (streamKey s (s.job id) data) = 0 then
        (t.job id).opa = head ∧ (t.job id).opb = data ∧ (t.job id).strm.key = (streamKey s (s.job id) data).getD [] ∧
          (t.job id).phase = .streaming
      else Finished t id (streamCheck (s.job id).d data (streamKey s (s.job id) data)) [] 2) ∧
  (∀ (s : State) (e id : Nat) (j : Job), s.serving = true → s.link.state = .l0 → (enginesUp s).contains e = true →
    segJobs s e = [(id, j)] → s.job id = j → s.dma.engCur.get 1024 e = j.part →
    0 < Tab.get 0 (s.dma.engDef.get [] e) j.part →
    let n := min 65536 (j.d.payload - j.strm.done)
    (j.strm.done + n < j.d.payload →
      ∃ t, exec (.streamSegment e false) s = .next t ∧ (t.job id).strm.done = j.strm.done + n ∧
        (t.job id).strm.started = true ∧ (t.job id).phase = j.phase ∧ (∀ k, k ≠ id → t.job k = s.job k)) ∧
    (j.strm.done + n = j.d.payload → j.d.aead = false →
      ∃ t, exec (.streamSegment e false) s = .next t ∧
        Ended s t id 0 (cipher j.d j.strm.key j.opb (j.opa.take j.d.payload)) 4 ∧ (t.job id).stream = hdrAad j.opb + j.d.payload) ∧
    (j.strm.mism = 0 →
      ∃ t, exec (.streamSegment e true) s = .next t ∧ (t.job id).strm.mism = 1 ∧
        (s.tamper.mons = [] → s.tamper.burst = [] → 1 < s.monN 18 → 1 < s.monN 19 →
          (t.job id).strm.done = j.strm.done ∧ t.hostMem = s.hostMem ∧ ∀ k, k ≠ id → t.job k = s.job k)))

/-- Generic arithmetic (05 R225 to R233). -/
def Obligations.GenericArithmetic : Prop :=
  (∀ (s : State) (id : Nat), OnSquads s id 0x0101 →
    let g := genOps (s.job id)
    (modulusOk g.L g.n = true → g.a < g.n → g.b < g.n →
      ∃ t, exec (.modadd id) s = .next t ∧ Passed s t id (toLE (8 * g.L) ((g.a + g.b) % g.n)) 1 0) ∧
    (modulusOk g.L g.n = false → ∃ t, exec (.modadd id) s = .next t ∧ Invalid s t id 0x1014) ∧
    (modulusOk g.L g.n = true → g.n ≤ g.a ∨ g.n ≤ g.b → ∃ t, exec (.modadd id) s = .next t ∧ Invalid s t id 0x1010)) ∧
  (∀ (s : State) (id : Nat), OnSquads s id 0x0102 →
    let g := genOps (s.job id)
    (modulusOk g.L g.n = true → g.a < g.n → g.b < g.n →
      ∃ t, exec (.modmul id) s = .next t ∧ Passed s t id (toLE (8 * g.L) (g.a * g.b % g.n)) 1 0) ∧
    (modulusOk g.L g.n = false → ∃ t, exec (.modmul id) s = .next t ∧ Invalid s t id 0x1014) ∧
    (modulusOk g.L g.n = true → g.n ≤ g.a ∨ g.n ≤ g.b → ∃ t, exec (.modmul id) s = .next t ∧ Invalid s t id 0x1010)) ∧
  (∀ (s : State) (id : Nat), OnSquads s id 0x0103 →
    let g := genOps (s.job id)
    (modulusOk g.L g.n = true → g.a < g.n →
      ∃ t, exec (.modexp id) s = .next t ∧ Passed s t id (toLE (8 * g.L) (powMod g.a g.b g.n)) 1 0) ∧
    (modulusOk g.L g.n = false → ∃ t, exec (.modexp id) s = .next t ∧ Invalid s t id 0x1014) ∧
    (modulusOk g.L g.n = true → g.n ≤ g.a → ∃ t, exec (.modexp id) s = .next t ∧ Invalid s t id 0x1010)) ∧
  (∀ (s : State) (id : Nat), OnSquads s id 0x0104 →
    let g := genOps (s.job id)
    (∀ v, modulusOk g.L g.n = true → g.a < g.n → invMod? g.a g.n = some v →
      ∃ t, exec (.modinv id) s = .next t ∧ Passed s t id (toLE (8 * g.L) v) 1 0) ∧
    (modulusOk g.L g.n = true → g.a < g.n → invMod? g.a g.n = none →
      ∃ t, exec (.modinv id) s = .next t ∧ Invalid s t id 0x1015) ∧
    (modulusOk g.L g.n = false → ∃ t, exec (.modinv id) s = .next t ∧ Invalid s t id 0x1014))

/-- RSA (07 R272 to R287, R297). -/
def Obligations.RsaOperations : Prop :=
  (∀ (s : State) (id : Nat), OnSquads s id 0x0201 →
    let k := slotCrt (jobSlot s (s.job id))
    let x := beNat (s.job id).opa
    (x < (jobRsa s (s.job id)).n → powMod (rsaCrt k x) k.pub.e k.pub.n = x →
      ∃ t, exec (.rsaPrivate id) s = .next t ∧
        Passed s t id (toBE (jobRsa s (s.job id)).kn (rsaCrt k x)) 1 (jobB s (s.job id))) ∧
    (x < (jobRsa s (s.job id)).n → powMod (rsaCrt k x) k.pub.e k.pub.n ≠ x →
      exec (.rsaPrivate id) s = .next (releaseFail s id)) ∧
    ((jobRsa s (s.job id)).n ≤ x → ∃ t, exec (.rsaPrivate id) s = .next t ∧ Invalid s t id 0x1010)) ∧
  (∀ (s : State) (id : Nat), OnSquads s id 0x0202 →
    let k := jobRsa s (s.job id)
    let x := beNat (s.job id).opa
    (firstFail (rsaHostChecks (s.job id).d k) = 0 → x < k.n →
      ∃ t, exec (.rsaPublic id) s = .next t ∧ Passed s t id (toBE k.kn (powMod x k.e k.n)) 3 (bOf k.e)) ∧
    (∀ c, firstFail (rsaHostChecks (s.job id).d k ++ [(decide (x < k.n), 0x1010)]) = c → c ≠ 0 →
      ∃ t, exec (.rsaPublic id) s = .next t ∧ Invalid s t id c)) ∧
  (∀ (s : State) (id : Nat), OnSquads s id 0x0203 →
    let k := slotCrt (jobSlot s (s.job id))
    let x := beNat (emsaV15 (s.job id).d.hash (jobRsa s (s.job id)).kn (s.job id).opa)
    ∃ t, exec (.rsaSignV15 id) s = .next t ∧
      if powMod (rsaCrt k x) k.pub.e k.pub.n = x then
        Passed s t id (toBE (jobRsa s (s.job id)).kn (rsaCrt k x)) 1 (jobB s (s.job id))
      else t = releaseFail s id) ∧
  (∀ (s : State) (id : Nat), OnSquads s id 0x0204 →
    let k := slotCrt (jobSlot s (s.job id))
    let sd := if (s.job id).d.salt = 0 then ([], s) else rngDraw s 0 (s.job id).d.salt
    let x := beNat (emsaPss (s.job id).d.hash (jobRsa s (s.job id)).kn (s.job id).opa sd.1)
    ∃ t, exec (.rsaSignPss id) s = .next t ∧
      if powMod (rsaCrt k x) k.pub.e k.pub.n = x then Ended s t id 0 (toBE (jobRsa s (s.job id)).kn (rsaCrt k x)) 1
      else t = releaseFail sd.2 id) ∧
  (∀ (s : State) (id : Nat), OnSquads s id 0x0205 →
    let k := jobRsa s (s.job id)
    let h := hLen (s.job id).d.hash
    let sig := beNat ((s.job id).opa.drop h)
    let em := toBE k.kn (powMod sig k.e k.n)
    let want := emsaV15 (s.job id).d.hash k.kn ((s.job id).opa.take h)
    (firstFail (rsaHostChecks (s.job id).d k) = 0 → sig < k.n →
      ∃ t r, exec (.rsaVerifyV15 id) s = .next t ∧ Passed s t id (verdict r) 3 (bOf k.e) ∧ r ≤ 2 ∧
        (r = 0 ↔ em = want) ∧
        (r = 2 ↔ em.take (k.kn - ((s.job id).opa.take h).length) ≠ want.take (k.kn - ((s.job id).opa.take h).length))) ∧
    (∀ c, firstFail (rsaHostChecks (s.job id).d k ++ [(decide (sig < k.n), 0x1010)]) = c → c ≠ 0 →
      ∃ t, exec (.rsaVerifyV15 id) s = .next t ∧ Invalid s t id c)) ∧
  (∀ (s : State) (id : Nat), OnSquads s id 0x0206 →
    let k := jobRsa s (s.job id)
    let h := hLen (s.job id).d.hash
    let sig := beNat ((s.job id).opa.drop h)
    let em := toBE k.kn (powMod sig k.e k.n)
    (firstFail (rsaHostChecks (s.job id).d k) = 0 → sig < k.n →
      ∃ t r, exec (.rsaVerifyPss id) s = .next t ∧ Passed s t id (verdict r) 3 (bOf k.e) ∧ r ≤ 2 ∧
        (r = 2 ↔ pssForm (s.job id).d.hash k.kn (s.job id).d.salt em = false) ∧
        (r = 0 ↔ pssForm (s.job id).d.hash k.kn (s.job id).d.salt em = true ∧
          pssMatches (s.job id).d.hash k.kn (s.job id).d.salt ((s.job id).opa.take h) em = true)) ∧
    (∀ c, firstFail (rsaHostChecks (s.job id).d k ++ [(decide (sig < k.n), 0x1010)]) = c → c ≠ 0 →
      ∃ t, exec (.rsaVerifyPss id) s = .next t ∧ Invalid s t id c)) ∧
  (∀ (s : State) (id : Nat), OnSquads s id 0x0207 →
    let k := jobRsa s (s.job id)
    let seed := (rngDraw s 0 (hLen (s.job id).d.hash)).1
    (firstFail (rsaHostChecks (s.job id).d k) = 0 →
      ∃ t, exec (.rsaEncryptOaep id) s = .next t ∧
        Ended s t id 0 (toBE k.kn (powMod (beNat (emeOaep (s.job id).d.hash k.kn (s.job id).opa seed)) k.e k.n)) 3) ∧
    (∀ c, firstFail (rsaHostChecks (s.job id).d k) = c → c ≠ 0 →
      ∃ t, exec (.rsaEncryptOaep id) s = .next t ∧ Invalid s t id c)) ∧
  (∀ (s : State) (id : Nat), OnSquads s id 0x0208 →
    let k := slotCrt (jobSlot s (s.job id))
    let p := jobRsa s (s.job id)
    let x := beNat (s.job id).opa
    let m := rsaCrt k x
    (x < p.n → powMod m k.pub.e k.pub.n = x →
      ∃ t, exec (.rsaDecryptOaep id) s = .next t ∧ (t.job id).lane = 32 * jobCycles s (s.job id).d (bOf p.e) ∧
        Ended s t id (if x = 0 ∨ oaepDecode (s.job id).d.hash p.kn (toBE p.kn m) = none then 0x1016 else 0)
          ((oaepDecode (s.job id).d.hash p.kn (toBE p.kn m)).getD [])
          (if x = 0 ∨ oaepDecode (s.job id).d.hash p.kn (toBE p.kn m) = none then 2 else 1)) ∧
    (x < p.n → powMod m k.pub.e k.pub.n ≠ x → exec (.rsaDecryptOaep id) s = .next (releaseFail s id)) ∧
    (p.n ≤ x → ∃ t, exec (.rsaDecryptOaep id) s = .next t ∧ Invalid s t id 0x1010))

/-- Elliptic curves (07 R290 to R297). -/
def Obligations.CurveOperations : Prop :=
  (∀ (s : State) (id : Nat), OnSquads s id 0x0301 →
    let j := s.job id
    let cn := clsCurve (jobSlot s j).cls
    let q := (curveOf cn).qb
    let e := bits2int (Config.orderN cn) j.opa
    let d := slotScalar (jobSlot s j)
    let kk := hedgedNonce cn j.d.hash d e (rngDraw s 0 q).1
    let rs := ecdsaPair cn d e kk
    ∃ t, exec (.ecdsaSign id) s = .next t ∧
      if rs.1 = 0 ∨ rs.2 = 0 then t.jobs = s.jobs ∧ t.gv gPkNonceRetry = (s.gv gPkNonceRetry + 1) % 2 ^ 64
      else if ecdsaOk cn d e kk rs = true then Ended s t id 0 (toBE q rs.1 ++ toBE q rs.2) 1
      else t = releaseFail (rngDraw (rngDraw s 0 q).2 0 (curveOf cn).fb).2 id) ∧
  (∀ (s : State) (id : Nat), OnSquads s id 0x0302 →
    let j := s.job id
    let cn := jobCurve s j.d
    let q := (curveOf cn).qb
    let n := Config.orderN cn
    let h := hLen j.d.hash
    let pt := readPoint cn (if j.d.hostKey then j.opb else slotPoint (jobSlot s j))
    let r := beNat ((j.opa.drop h).take q)
    let g := beNat (j.opa.drop (h + q))
    let w := invMod g n
    let x := Config.addPoints cn (Config.mulBase cn (bits2int n (j.opa.take h) * w % n)) (Config.mulPoint cn (r * w % n) pt.2)
    ∃ t, exec (.ecdsaVerify id) s = .next t ∧
      if j.d.hostKey = true ∧ pt.1 ≠ 0 then Invalid s t id pt.1
      else if r = 0 ∨ n ≤ r ∨ g = 0 ∨ n ≤ g then Invalid s t id 0x1011
      else Passed s t id (verdict (if x.map (fun p => p.1 % n) = some r then 0 else 1)) 1 0) ∧
  (∀ (s : State) (id : Nat), OnSquads s id 0x0303 →
    let j := s.job id
    let cn := clsCurve (jobSlot s j).cls
    let pt := readPoint cn j.opb
    let z := Config.mulPoint cn (slotScalar (jobSlot s j)) pt.2
    ∃ t, exec (.ecdh id) s = .next t ∧ (pt.1 ≠ 0 → Invalid s t id pt.1) ∧
      (∀ p, pt.1 = 0 → z = some p → Config.onCurve cn p.1 p.2 = true → Ended s t id 0 (toBE (curveOf cn).fb p.1) 1) ∧
      (pt.1 = 0 → z.all (fun p => !Config.onCurve cn p.1 p.2) = true → t = releaseFail (rngDraw s 0 (curveOf cn).fb).2 id)) ∧
  (∀ (s : State) (id : Nat), OnSquads s id 0x0304 →
    let j := s.job id
    let k := jobSlot s j
    let cn := clsCurve k.cls
    let n := Config.orderN cn
    let seed := k.material.take (curveOf cn).fb
    let r := edNonce cn j.d.ph seed j.opa
    let rb := edEncode cn (Config.mulBase cn r)
    let h := edHash cn j.d.ph (rb ++ slotPoint k ++ j.opa)
    ∃ t, exec (.eddsaSign id) s = .next t ∧
      (∀ p, Config.mulBase cn r = some p → Config.onCurve cn p.1 p.2 = true →
        Passed s t id (rb ++ toLE (curveOf cn).fb ((r + h * edScalar cn seed) % n)) 1 0) ∧
      ((Config.mulBase cn r).all (fun p => !Config.onCurve cn p.1 p.2) = true → t = releaseFail s id)) ∧
  (∀ (s : State) (id : Nat), OnSquads s id 0x0305 →
    let j := s.job id
    let cn := jobCurve s j.d
    let n := edSigLen cn
    let pk := if j.d.hostKey then j.opb else slotPoint (jobSlot s j)
    let a := readEdPoint cn pk
    let rb := j.opa.take (n / 2)
    let sc := leNat ((j.opa.drop (n / 2)).take (n / 2))
    let k := edHash cn j.d.ph (rb ++ pk ++ j.opa.drop n)
    ∃ t, exec (.eddsaVerify id) s = .next t ∧
      if j.d.hostKey = true ∧ a.1 ≠ 0 then Invalid s t id a.1
      else if Config.orderN cn ≤ sc then Invalid s t id 0x1011
      else Passed s t id (verdict (if edCheck cn sc k a.2 = rb then 0 else 1)) 1 0) ∧
  (∀ (s : State) (id : Nat), OnSquads s id 0x0306 →
    let j := s.job id
    let k := jobSlot s j
    let cn := clsCurve k.cls
    let f := (curveOf cn).fb
    let u := readU cn j.opb
    let z := fit f (Config.xdh cn (k.material.take f) (toLE f u.2))
    ∃ t, exec (.xdh id) s = .next t ∧
      if u.1 ≠ 0 then Invalid s t id u.1
      else if uGood cn z = true then Ended s t id 0 z 1 else t = releaseFail (rngDraw s 0 f).2 id)

/-- Lattices, and key generations on a squad (08; 07 R297 to R302; 09 R351 to R353). -/
def Obligations.LatticeOperationsAndKeyGenerations : Prop :=
  (∀ (s : State) (id : Nat), OnSquads s id 0x0401 →
    let j := s.job id
    let ps := jobPset s j.d
    let ek := jobPub s j
    (j.d.hostKey = false ∨ ekOk (psetOf ps) ek = true →
      ∃ t, exec (.mlkemEncaps id) s = .next t ∧ Ended s t id 0 (kemEncaps ps ek (rngDraw s 0 32).1) 1) ∧
    (j.d.hostKey = true → ekOk (psetOf ps) ek = false → ∃ t, exec (.mlkemEncaps id) s = .next t ∧ Invalid s t id 0x1010)) ∧
  (∀ (s : State) (id : Nat), OnSquads s id 0x0402 →
    ∃ t, exec (.mlkemDecaps id) s = .next t ∧
      Ended s t id 0 (kemDecaps (jobPset s (s.job id).d) (jobSlot s (s.job id)).material (s.job id).opa) 1) ∧
  (∀ (s : State) (id : Nat), OnSquads s id 0x0410 →
    let j := s.job id
    let ps := jobPset s j.d
    let k := jobSlot s j
    let rnd := if bit j.d.param 30 then zeros 32 else (rngDraw s 0 32).1
    let r := Config.mldsaJob ps j.d.hash (dsaSecret k) (j.opa.take j.d.salt) (j.opa.drop j.d.salt) rnd
    let sig := fit (psetOf ps).ct r.1
    ∃ t, exec (.mldsaSign id) s = .next t ∧ (814 < r.2 → Ended s t id 0x5010 [] 6) ∧
      (r.2 ≤ 814 → dsaReason ps j.d.hash (latticePub k) (j.opa.take j.d.salt) (j.opa.drop j.d.salt) sig = 0 →
        Ended s t id 0 sig 5)) ∧
  (∀ (s : State) (id : Nat), OnSquads s id 0x0411 →
    let j := s.job id
    let ps := jobPset s j.d
    let rest := j.opa.drop (psetOf ps).ct
    ∃ t, exec (.mldsaVerify id) s = .next t ∧
      Ended s t id 0 (verdict (dsaReason ps j.d.hash (jobPub s j) (rest.take j.d.salt) (rest.drop j.d.salt)
        (j.opa.take (psetOf ps).ct))) 1) ∧
  (∀ (s : State) (id op : Nat) (c : Instr), OnSquads s id op → keysServed s = false →
    (c = .rsaKeygen id ∧ op = 0x0220) ∨ (c = .ecKeygen id ∧ op = 0x0320) ∨ (c = .mlkemKeygen id ∧ op = 0x0420) ∨
      (c = .mldsaKeygen id ∧ op = 0x0421) → ∃ t, exec c s = .next t ∧ Ended s t id 0x4010 [] 6) ∧
  (∀ (s : State) (id : Nat) (p q : Nat), OnSquads s id 0x0220 → (parseAttr (s.job id).opa).cls = 0 → KeyReady s id 0x01 →
    let j := s.job id
    let b := primeBits j.d.salt
    let u := rngDraw s 0 (batchBytes b)
    let v := rngDraw u.2 0 (batchBytes b)
    let x := rngDraw v.2 0 (8 * j.d.salt)
    let k := rsaFrom (8 * j.d.salt) 65537 p q
    (tryBatch b 65537 none u.1 = none →
      ∃ t, exec (.rsaKeygen id) s = .next t ∧ (t.job id).batches = j.batches + 1 ∧ (t.job id).phase = .running ∧ t.keys = s.keys ∧
        t.gv gPkKeygenRebatch = (s.gv gPkKeygenRebatch + 1) % 2 ^ 64) ∧
    (tryBatch b 65537 none u.1 = some p → tryBatch b 65537 (some p) v.1 = some q →
      rsaKeyOk k (leNat x.1 % k.pub.n) = true →
      ∃ t i, exec (.rsaKeygen id) s = .next t ∧ KeyMade s t id i 0x01 (rsaMaterial k)
        (toBE 8 65537 ++ toBE (8 * j.d.salt) (p * q)) 1)) ∧
  (∀ (s : State) (id : Nat), OnSquads s id 0x0320 → (parseAttr (s.job id).opa).cls = 0 → KeyReady s id (curveCls (s.job id).d.curve) →
    let cn := (s.job id).d.curve
    let k := ecPair cn (rngDraw s 0 (if cn ≤ 6 then (curveOf cn).qb + 8 else (curveOf cn).fb)).1
    ecKeyOk cn k.1 k.2 = true →
    ∃ t i, exec (.ecKeygen id) s = .next t ∧ KeyMade s t id i (curveCls cn) (k.1 ++ k.2) k.2 1) ∧
  (∀ (s : State) (id : Nat), OnSquads s id 0x0420 → (parseAttr (s.job id).opa).cls = 0 → KeyReady s id (0x50 + (s.job id).d.curve) →
    let ps := (s.job id).d.curve
    let d := rngDraw s 0 64
    let k := kemKeygen ps d.1
    kemKeyOk ps k.1 k.2 (rngDraw d.2 0 32).1 = true →
    ∃ t i, exec (.mlkemKeygen id) s = .next t ∧ KeyMade s t id i (0x50 + ps) k.2 k.1 1) ∧
  (∀ (s : State) (id : Nat), OnSquads s id 0x0421 → (parseAttr (s.job id).opa).cls = 0 → KeyReady s id (0x50 + (s.job id).d.curve) →
    let ps := (s.job id).d.curve
    let k := Config.mldsaKeygen ps (rngDraw s 0 32).1
    let pk := fit (psetOf ps).pk k.1
    let sk := fit (dsaSkLen ps) k.2
    (814 < (dsaCheckSig ps sk).2 → ∃ t, exec (.mldsaKeygen id) s = .next t ∧ Ended s t id 0x5010 [] 6) ∧
    ((dsaCheckSig ps sk).2 ≤ 814 → dsaKeyOk ps pk sk = true →
      ∃ t i, exec (.mldsaKeygen id) s = .next t ∧ KeyMade s t id i (0x50 + ps) (sk ++ pk) pk 5))

/-- Key store jobs that make or read a slot (09 R346 to R373). -/
def Obligations.KeyCreationInfoAndExport : Prop :=
  (∀ (s : State) (id : Nat), (s.job id).phase = .ready → (s.job id).d.opcode = 0x0501 → orderBlocked s (s.job id) = false →
    (keysServed s = false → ∃ t, exec (.keyGenSym id) s = .next t ∧ Ended s t id 0x4010 [] 6) ∧
    (∀ n, rngTurn s 0x0501 = true → symLen (parseAttr (s.job id).opa).cls = some n → KeyReady s id (parseAttr (s.job id).opa).cls →
      let m := (rngDraw s 0 n).1
      ((parseAttr (s.job id).opa).cls ≠ 0x73 ∨ m.take 32 ≠ m.drop 32 →
        ∃ t i, exec (.keyGenSym id) s = .next t ∧ KeyMade s t id i (parseAttr (s.job id).opa).cls m [] 1) ∧
      ((parseAttr (s.job id).opa).cls = 0x73 → m.take 32 = m.drop 32 →
        ∃ t, exec (.keyGenSym id) s = .next t ∧ (t.job id).phase = .ready ∧ t.keys = s.keys))) ∧
  (∀ (s : State) (id : Nat), OnSquads s id 0x0502 → (s.job id).d.handle = 0 →
    let a := parseAttr (s.job id).opa
    let m := (s.job id).opa.drop 64
    let r := (rngDraw s.drawNat.2 0 1024).1
    (keysServed s = false → ∃ t, exec (.keyImport id) s = .next t ∧ Ended s t id 0x4010 [] 6) ∧
    (keysServed s = true → a.rsvd = true → ∃ t, exec (.keyImport id) s = .next t ∧ Ended s t id 0x1003 [] 2) ∧
    (keysServed s = true → a.rsvd = false → attrBad a a.cls = true →
      ∃ t, exec (.keyImport id) s = .next t ∧ Ended s t id 0x4015 [] 2) ∧
    (keysServed s = true → a.rsvd = false → attrBad a a.cls = false → matFits a.cls m.length = false →
      ∃ t, exec (.keyImport id) s = .next t ∧ Ended s t id 0x1002 [] 2) ∧
    (KeyReady s id a.cls → matFits a.cls m.length = true →
      (materialPass a.cls m r = false → ∃ t, exec (.keyImport id) s = .next t ∧ Ended s t id 0x4018 [] 2 ∧ t.keys = s.keys) ∧
      (materialPass a.cls m r = true → ∃ t i, exec (.keyImport id) s = .next t ∧ KeyMade s t id i a.cls m [] 1))) ∧
  (∀ (s : State) (id : Nat), (s.job id).d.opcode = 0x0505 → (s.job id).phase = .ready → orderBlocked s (s.job id) = false →
    s.tamper.holdUntil = none →
    let i := (s.job id).d.handle % 2097152
    (entryBad s i = false → loadCheck s (s.job id).part (s.job id).d.handle false = 0 →
      (s.kslot i).vol = true ∨ (s.kslot i).cached = true →
      ∃ t, exec (.keyInfo id) s = .next t ∧ Ended s t id 0 (infoBytes (s.job id).d.handle (s.kslot i)) 1 ∧
        (t.kslot i) = { s.kslot i with loadedAt := s.now } ∧ (∀ k, k ≠ i → t.kslot k = s.kslot k)) ∧
    (∀ c, entryBad s i = false → loadCheck s (s.job id).part (s.job id).d.handle false = c → c ≠ 0 →
      ∃ t, exec (.keyInfo id) s = .next t ∧ Ended s t id c [] 6) ∧
    (entryBad s i = true → keysServed s = true → i ≠ 0 → (s.kslot i).owner = (s.job id).part →
      ∃ t, exec (.keyInfo id) s = .next t ∧ (t.kslot i).state = 4 ∧ (t.kslot i).index = i ∧ (t.kslot i).gen = s.genOf i ∧
        Ended s t id 0x4001 [] 6)) ∧
  (∀ (s : State) (id : Nat), (s.job id).d.opcode = 0x0503 → (s.job id).phase = .ready → orderBlocked s (s.job id) = false →
    s.tamper.holdUntil = none → (s.job id).d.param = 0 →
    let i := (s.job id).d.handle % 2097152
    let k := s.kslot i
    entryBad s i = false → loadCheck s (s.job id).part (s.job id).d.handle false = 0 → k.vol = true ∨ k.cached = true →
    (k.limited = true → k.limit ≤ k.count → ∃ t, exec (.keyExport id) s = .next t ∧ Ended s t id 0x4003 [] 6) ∧
    (k.limited = false ∨ k.count < k.limit ∧ (k.vol = true ∨ k.count < k.mark) →
      ∃ t, exec (.keyExport id) s = .next t ∧ (t.kslot i).count = k.count + 1 ∧
        if (symLen k.cls).isSome ∨ (execKeyExport.isPrivate k.cls ∧ !bit k.exp 0) then Ended s t id 0x4017 [] 2
        else Ended s t id 0 (materialPub k.cls k.material) 1))

/-- Key store jobs that end or narrow a slot (09 R344, R354 to R357, R370, R371). -/
def Obligations.KeyDestructionRestrictionAndPurge : Prop :=
  (∀ (s : State) (id : Nat), (s.job id).d.opcode = 0x0504 → (s.job id).phase = .ready → orderBlocked s (s.job id) = false →
    s.tamper.holdUntil = none → entryBad s ((s.job id).d.handle % 2097152) = false →
    loadCheck s (s.job id).part (s.job id).d.handle true = 0 →
    (s.kslot ((s.job id).d.handle % 2097152)).state = 4 ∨ (s.kslot ((s.job id).d.handle % 2097152)).vol = true ∨
      (s.kslot ((s.job id).d.handle % 2097152)).cached = true →
    ∃ t, exec (.keyDestroy id) s = .next t ∧ (t.job id).phase = .waitCommit ∧
      (t.kslot ((s.job id).d.handle % 2097152)).state = 3 ∧
      (t.kslot ((s.job id).d.handle % 2097152)).destroyer = some id ∧
      (∀ k, k ≠ (s.job id).d.handle % 2097152 → t.kslot k = s.kslot k)) ∧
  (∀ (s : State) (i id : Nat), (s.kslot i).state = 3 → (s.kslot i).destroyer = some id → (s.kslot i).advanced = false →
    usersOf s i = [] →
    ((s.kslot i).vol = true → (s.jobs.find id).isSome = true →
      ∃ t, exec (.destroyComplete i) s = .next t ∧ Ended s t id 0 [] 1 ∧ t.keys.slots.find i = none ∧
        t.genOf i = (s.genOf i + 1) % 2048) ∧
    ((s.kslot i).vol = false →
      ∃ t, exec (.destroyComplete i) s = .next t ∧ (t.kslot i).advanced = true ∧ (t.kslot i).cached = false ∧
        t.genOf i = (s.genOf i + 1) % 2048 ∧ t.keys.jseq = s.keys.jseq + 1 ∧
        (t.keys.queues.get [] (s.kslot i).owner).length = (s.keys.queues.get [] (s.kslot i).owner).length + 1)) ∧
  (∀ (s : State) (id : Nat), (s.job id).d.opcode = 0x0506 → (s.job id).phase = .ready → orderBlocked s (s.job id) = false →
    s.tamper.holdUntil = none → loadCheck s (s.job id).part (s.job id).d.handle false = 0 →
    let i := (s.job id).d.handle % 2097152
    let v := leNat ((s.job id).opa.take 16)
    entryBad s i = false → (s.kslot i).restricting = false → (s.kslot i).vol = true ∨ (s.kslot i).cached = true →
    bits v 24 18 = 0 → bits v 63 26 = 0 →
    (restrictBad (s.kslot i) v = true → ∃ t, exec (.keyRestrict id) s = .next t ∧ Ended s t id 0x4015 [] 2) ∧
    (restrictBad (s.kslot i) v = false → restrictSame (s.kslot i) v = true →
      ∃ t, exec (.keyRestrict id) s = .next t ∧ Ended s t id 0 [] 1) ∧
    (restrictBad (s.kslot i) v = false → restrictSame (s.kslot i) v = false → (s.kslot i).vol = false →
      ∃ t, exec (.keyRestrict id) s = .next t ∧ (t.job id).phase = .waitCommit ∧ (t.kslot i).restricting = true ∧
        (t.kslot i).usage = (s.kslot i).usage ∧ (t.kslot i).limit = (s.kslot i).limit ∧
        (t.keys.queues.get [] (s.kslot i).owner).length = (s.keys.queues.get [] (s.kslot i).owner).length + 1) ∧
    (restrictBad (s.kslot i) v = false → restrictSame (s.kslot i) v = false → (s.kslot i).vol = true →
      ∃ t, exec (.keyRestrict id) s = .next t ∧ (t.kslot i).usage = bits v 15 0 ∧ (t.kslot i).exp = bits v 17 16 ∧
        (t.kslot i).limited = bit v 25 ∧ (t.kslot i).limit = bits v 127 64 ∧ (t.kslot i).material = (s.kslot i).material ∧
        (∀ k, k ≠ i → t.kslot k = s.kslot k))) ∧
  (∀ (s : State) (id : Nat), (s.job id).phase = .adminWait → (s.job id).d.opcode = 0x0506 →
    (∀ k, k ∈ (s.job id).waits → s.jobs.find k = none) →
    ∃ t, exec (.restrictDone id) s = .next t ∧ Ended s t id 0 [] 1) ∧
  (∀ (s : State) (id : Nat), (s.job id).phase = .ready → (s.job id).d.opcode = 0x0510 → orderBlocked s (s.job id) = false →
    s.keys.purges.find (s.job id).part = none → rngReady s = true → keysServed s = true →
    (s.keys.slots.keysWith (fun k => k.owner == (s.job id).part) = [] →
      ∃ t, exec (.keyPurge id) s = .next t ∧ Ended s t id 0 [] 1 ∧ t.keys.slots = s.keys.slots) ∧
    (s.keys.slots.keysWith (fun k => k.owner == (s.job id).part) ≠ [] →
      ∃ t, exec (.keyPurge id) s = .next t ∧ (t.job id).phase = .waitCommit ∧
        (t.keys.purges.find (s.job id).part).isSome = true ∧
        (∀ e, e ∈ t.keys.slots → e.2.owner = (s.job id).part → e.2.state ≠ 2))) ∧
  (∀ (s : State) (p : Nat) (g : Purge), s.keys.purges.find p = some g → g.queued = false → rngReady s = true →
    (∀ i, i ∈ g.victims → usersOf s i = []) →
    ∃ t, exec (.purgeWipe p) s = .next t ∧ (t.keys.purges.find p).isSome = true ∧ t.keys.jseq = s.keys.jseq + 1 ∧
      (t.keys.queues.get [] p).length = (s.keys.queues.get [] p).length + 1 ∧ t.jobs = s.jobs)

/-- What the key store engine does by itself (09 R361, R364, R366). -/
def Obligations.KeyStoreCommitsAndCache : Prop :=
  (∀ (s : State) (p : Nat) (c : KCommit) (l : List KCommit), s.keys.cur = some p → s.keys.queues.get [] p = c :: l →
    (waitingQueues s).contains p = true → 0 < s.keys.deficit.get 0 p → s.keys.served = [] → c.rec_.length ≤ 6400000 →
    ∃ t, exec .commitService s = .next t ∧ t.keys.queues.get [] p = l ∧ t.keys.slots = s.keys.slots ∧
      t.keys.served = [(s.now, c.rec_.length)]) ∧
  (∀ (s : State) (i : Nat) (k : KSlot), s.serving = true → s.keys.slots = [(i, k)] → k.state = 2 → k.vol = false →
    k.limited = false → k.count ≠ k.page → k.pageAt = none →
    ∃ t, exec .useCountPage s = .next t ∧ t.keys.jseq = s.keys.jseq + 1 ∧ (t.kslot i).count = k.count ∧
      (t.kslot i).pageAt = some s.now) ∧
  (∀ (s : State) (i : Nat) (a b : Bool), (s.kslot i).state = 2 → (s.kslot i).vol = false → (s.kslot i).cached = false →
    keysServed s = true →
    (entryBad s i = true → ∃ t, exec (.keyCacheFill i a b) s = .next t ∧ (t.kslot i).state = 4 ∧ (t.kslot i).index = i ∧
      (t.kslot i).gen = s.genOf i ∧ (∀ k, k ≠ i → t.kslot k = s.kslot k) ∧ t.jobs = s.jobs) ∧
    (entryBad s i = false → a = true ∨ b = true → ∃ t, exec (.keyCacheFill i a b) s = .next t ∧ (t.kslot i).cached = true ∧
      (t.kslot i).state = 2 ∧ OtherSlotsKept s t i ∧ t.jobs = s.jobs) ∧
    (entryBad s i = false → a = false → b = false → missJobs s i = [] →
      ∃ t, exec (.keyCacheFill i a b) s = .next t ∧ (t.kslot i).state = 4 ∧ t.jobs = s.jobs) ∧
    (∀ id, entryBad s i = false → a = false → b = false → missJobs s i = [id] → (s.job id).uses = [] →
      ∃ t, exec (.keyCacheFill i a b) s = .next t ∧ (t.kslot i).state = 4 ∧ Ended s t id 0x5011 [] 6))

/-- Random numbers (12). -/
def Obligations.RandomJobsAndChannels : Prop :=
  (∀ (s : State) (id : Nat), wantsOutput s (s.job id) = true → s.gv gRngState = 2 →
    ∃ t, exec (.randomBytes id) s = .next t ∧ Ended s t id 0x5002 [] 6) ∧
  (∀ (s s1 : State) (id e : Nat), wantsOutput s (s.job id) = true → s.gv gRngState ≠ 2 → rngTurn s 0x0701 = true →
    s.link.state = .l0 → readyExp s 0 = some e → outputPart s = some ((s.job id).part, s1) →
    outputJob s1 (s.job id).part = some id → (bit (s.job id).d.param 0 = true → canSeed s e = true) →
    let j := s.job id
    let n := min 4096 (j.d.resCap - j.strm.done)
    let b := (rngDraw s 0 n).1
    ∃ t, exec (.randomBytes id) s = .next t ∧
      t.hostMem = Mem.write 0 s.hostMem (hostPlace j.part (j.d.resAddr + j.strm.done)) b ∧ b.length = n ∧
      t.gv gRngHostBytes = (s.gv gRngHostBytes + n) % 2 ^ 64 ∧
      (j.strm.done + n = j.d.resCap → Ended s t id 0 (j.strm.out ++ b) 4 ∧ (t.job id).random = j.d.resCap) ∧
      (j.strm.done + n ≠ j.d.resCap → (t.job id).phase = .drawing ∧ (t.job id).strm.done = j.strm.done + n ∧
        (t.job id).strm.out = j.strm.out ++ b ∧ (∀ k, k ≠ id → t.job k = s.job k))) ∧
  (∀ (s : State) (id : Nat), (s.job id).phase ≠ .finished → s.gv gRngState = 2 → (s.job id).heldAt ≠ 0 →
    (s.job id).heldAt ≤ s.now → ∃ t, exec (.rngHoldExpiry id) s = .next t ∧ Ended s t id 0x5002 [] 6) ∧
  (∀ (s : State) (c k : Nat), c < 8 → (s.noise c).state ≤ 1 → 1 ≤ k → k ≤ 3 →
    ∃ t, exec (.rngRetired c k) s = .next t ∧ (t.noise c).state = 2 ∧ (t.noise c).retiredAt = s.now ∧
      (∀ d, d ≠ c → (t.noise d).state = (s.noise d).state)) ∧
  (∀ (s : State) (c : Nat), c < 8 → (s.noise c).state = 0 → (s.noise c).startedAt + usTicks 150 ≤ s.now →
    ∃ t, exec (.startTimeout c) s = .next t ∧ (t.noise c).state = 2 ∧ (∀ d, d ≠ c → (t.noise d).state = (s.noise d).state)) ∧
  (∀ (s : State) (c : Nat), c < 8 → (s.noise c).state = 2 → (s.noise c).stays = false →
    (s.noise c).retiredAt + msTicks 100 ≤ s.now →
    ∃ t, exec (.channelRestart c) s = .next t ∧ (t.noise c).state = 0 ∧ (t.noise c).startedAt = s.now ∧
      (∀ d, d ≠ c → t.noise d = s.noise d) ∧ { t with rng := s.rng } = s) ∧
  (∀ (s : State) (c : Nat), c < 8 → (s.noise c).state = 0 → (s.noise c).startedAt + 4 * windowTicks c ≤ s.now →
    ∃ t, exec (.startUpTestPassed c) s = .next t ∧ (t.noise c).state = 1 ∧ (∀ d, d ≠ c → (t.noise d).state = (s.noise d).state)) ∧
  (∀ (s : State) (e : Nat), e < 18 → ((s.expander e).inst = true ∧ reseedDue s e = true) ∨ instDue s e = true →
    (canSeed s e = true →
      ∃ t, exec (.reseed e) s = .next t ∧ (t.expander e).inst = true ∧ (t.expander e).out = 0 ∧
        (t.expander e).seededAt = s.now ∧ (∀ d, d ≠ e → t.expander d = s.expander d) ∧
        (∀ c, (t.noise c).used = (s.noise c).used +
          (if c = (seedPair s e).1 ∨ c = (seedPair s e).2 then (if e < 16 then 320 else 640) else 0)) ∧
        { t with rng := s.rng } = s) ∧
    (canSeed s e = false → exec (.reseed e) s = .next s)) ∧
  (∀ (s : State) (w : Nat), s.mainUp = true → 1 ≤ w → w ≤ 3 →
    (∃ t, exec (.rngKatRun w []) s = .next t ∧ t.gv gRngKatResult = 1 ∧ t.rng = s.rng) ∧
    (∀ c, w ≠ 2 → c < 8 → (s.noise c).state ≤ 1 →
      ∃ t, exec (.rngKatRun w [c]) s = .next t ∧ t.gv gRngKatResult = 2 ∧ (t.noise c).state = 2) ∧
    (∀ e, w ≠ 1 → e < 18 →
      ∃ t, exec (.rngKatRun w [8 + e]) s = .next t ∧ t.gv gRngKatResult = 2 ∧ (t.expander e).failed = true ∧
        (t.expander e).inst = false))

/-- Minutes (11 R437 to R460). -/
def Obligations.MinutesCloseAndDeliver : Prop :=
  (∀ (s : State) (o : OpenMin), s.meter.openMin = some o → s.meter.accepting = true → boundary o.start ≤ s.dtbNs →
    ∃ t h, exec .minuteClose s = .next t ∧ t.meter.closing = s.meter.closing ++ [h] ∧
      h.seq = s.meter.seq + s.meter.closing.length + 1 ∧ h.start = o.start ∧ h.stop = boundary o.start ∧
      h.recs.length = 1025 ∧ h.prevRoot = s.meter.prevRoot ∧ t.meter.prevRoot = h.root ∧
      h.root = treeRoot 11 (leaves h) ∧
      (t.meter.openMin.map (fun m => m.start)) = some (boundary o.start) ∧
      (∀ k, k < 4100 →
        let x := s.meter.cls.get {} k
        let y := t.meter.cls.get {} k
        let b := billOf ((x.acc : Int) + x.carry)
        y.count = 0 ∧ y.acc = 0 ∧ y.carry + b * 2 ^ 32 = x.acc + x.carry ∧ y.life = x.life + b.toNat) ∧
      t.clock.savedDtb = s.clock.dtb ∧ t.hostMem = s.hostMem ∧ t.jobs = s.jobs) ∧
  (∀ (s : State) (h : MinSet) (l : List MinSet), s.meter.closing = h :: l → s.mainUp = true →
    ∃ t, exec .minuteSetDurable s = .next t ∧ t.meter.closing = l ∧ t.meter.seq = h.seq ∧
      t.meter.vault = s.meter.vault ++ [h] ∧ t.meter.ring = Tab.set s.meter.ring (h.seq % 96) h ∧
      Tab.get 0 t.meter.ready (h.seq % 96) = h.seq ∧
      (s.link.state = .l0 → s.link.d3hot = false → t.link.msixSent = s.link.msixSent ++ [(0, 2)])) ∧
  (∀ (s : State) (vf seq : Nat) (l : List Nat) (h : MinSet) (ok : Bool), (s.meter.md.get {} vf).due = seq :: l →
    s.link.state = .l0 → s.meter.accepting = true → canLend s vf = true → findSet s seq = some h →
    let a := (s.meter.md.get {} vf).base + seq % 2 * 0x2000
    (rangeOk s vf a 0x2000 true = true → ok = true →
      ∃ t, exec (.minuteDelivery vf ok) s = .next t ∧ (t.meter.md.get {} vf).last = seq ∧ (t.meter.md.get {} vf).due = l ∧
        t.hostMem = Mem.write 0 (Mem.write 0 s.hostMem (hostPlace vf a) (packageBytes h vf ++ zeros 8))
          (hostPlace vf (a + 0x1FF8)) (toLE 8 seq)) ∧
    (rangeOk s vf a 0x2000 true = true → ok = false →
      ∃ t, exec (.minuteDelivery vf ok) s = .next t ∧ (t.meter.md.get {} vf).fault = true ∧
        (t.meter.md.get {} vf).code = 0x3003 ∧ (t.meter.md.get {} vf).last = (s.meter.md.get {} vf).last) ∧
    (rangeOk s vf a 0x2000 true = false →
      ∃ t, exec (.minuteDelivery vf ok) s = .next t ∧ (t.meter.md.get {} vf).fault = true ∧
        (t.meter.md.get {} vf).code = 0x3002 ∧ t.hostMem = s.hostMem)) ∧
  (∀ (s : State) (vf : Nat) (ok : Bool), canLend s vf = false → exec (.minuteDelivery vf ok) s = .next s)

/-- Flash descriptors (16 R602 to R613). -/
def Obligations.FlashDescriptors : Prop :=
  (∀ (s : State) (ref : QueueRef) (q : FlashQ) (c : Nat), flashQ ref = some q → s.hostSupply = true →
    (s.fqueue q).hasWork = true → (s.fqueue q).entries ≤ 4096 → queueTurn s q = some q.num → (flashHead s q).op = 1 →
    flashCheck s q (flashHead s q) = c → c ≠ 0 → c ≠ 0x3001 →
    ∃ t, exec (.flashProgram ref) s = .next t ∧ Entered s t q c ∧ t.codeFlash = s.codeFlash) ∧
  (∀ (s : State) (ref : QueueRef) (k : Nat) (d : FDesc), FlashTurn s ref (.code k) d → BanksBusy s d = true →
    (∀ c r, (c = .flashRead ref r ∧ d.op = 0 ∧ r.getD 0 ≤ 7) ∨ (c = .flashProgram ref ∧ d.op = 1 ∧ r = none) ∨
        (c = .flashErase ref ∧ d.op = 2 ∧ r = none) →
      ∃ t, exec c s = .next t ∧ t.codeFlash = s.codeFlash ∧ t.mem = s.mem ∧ t.code.banks = s.code.banks ∧
        (t.fqueue (.code k)).headN = (s.fqueue (.code k)).headN + 1 ∧ (t.fqueue (.code k)).cqN = (s.fqueue (.code k)).cqN ∧
        t.code.waits = s.code.waits ++ [{ queue := k, epoch := accessEpoch s, d := d, retry := r }])) ∧
  (∀ (s : State) (ref : QueueRef) (k : Nat) (d : FDesc), FlashTurn s ref (.code k) d → d.op = 0 → BanksBusy s d = false →
    ((∀ n, n ∈ sectorsOf d.target d.len → (sector s n).state ≠ 3 ∧ (sector s n).state ≠ 4) →
      (∀ r, r ≤ 7 → ∃ t e, exec (.flashRead ref (some r)) s = .next t ∧ Entered s t (.code k) 0 ∧ e.length = 32 ∧
        t.mem = Mem.write 0 (Mem.write 0 s.mem d.buf (Mem.read 0xFF s.codeFlash d.target d.len)) (entryAt s (.code k)) e ∧
        t.codeFlash = s.codeFlash) ∧
      (∃ t, exec (.flashRead ref none) s = .next t ∧ Entered s t (.code k) 0x5015 ∧ t.codeFlash = s.codeFlash)) ∧
    (∀ n, n ∈ sectorsOf d.target d.len → (sector s n).state = 4 →
      ∃ t, exec (.flashRead ref (some 0)) s = .next t ∧ Entered s t (.code k) 0x5016 ∧ t.codeFlash = s.codeFlash) ∧
    (∀ n, n ∈ sectorsOf d.target d.len → (sector s n).state = 3 → (∀ m, m ∈ sectorsOf d.target d.len → (sector s m).state ≠ 4) →
      ∃ t, exec (.flashRead ref (some 0)) s = .next t ∧ Entered s t (.code k) 0x2020 ∧ t.codeFlash = s.codeFlash)) ∧
  (∀ (s : State) (ref : QueueRef) (k : Nat) (d : FDesc), FlashTurn s ref (.vault k) d → d.op = 0 → s.vault.waits = [] →
    (∀ b, b ∈ vaultBanks s d.target d.len → vBankBusy s b = false) →
    (∃ t e, exec (.flashRead ref (some 0)) s = .next t ∧ Entered s t (.vault k) 0 ∧ e.length = 32 ∧
      t.mem = Mem.write 0 (Mem.write 0 s.mem d.buf ((List.range d.len).map (fun i => vByte s (d.target + i)))) (entryAt s (.vault k)) e) ∧
    (∃ t, exec (.flashRead ref none) s = .next t ∧ Entered s t (.vault k) 0x5015 ∧
      t.gv gFlashVaultReadFail = (s.gv gFlashVaultReadFail + 1) % 2 ^ 64)) ∧
  (∀ (s : State) (ref : QueueRef) (k : Nat) (d : FDesc), FlashTurn s ref (.vault k) d → d.op = 1 →
    exec (.flashProgram ref) s =
      .next (vAppend (takeHead s (.vault k)) false (.desc k (accessEpoch s) d.tag) (Mem.read 0 s.mem d.buf d.len))) ∧
  (∀ (s : State) (ref : QueueRef) (k : Nat) (d : FDesc), FlashTurn s ref (.code k) d → d.op = 1 → BanksBusy s d = false →
    (∀ n, n ∈ sectorsOf d.target d.len → (sector s n).state ≠ 4) →
    ((s.code.banks.find (codeBank d.target)).isSome = true →
      ∃ t, exec (.flashProgram ref) s = .next t ∧ Entered s t (.code k) 0x2017 ∧ t.codeFlash = s.codeFlash) ∧
    (s.code.banks.find (codeBank d.target) = none → rangeErased s d.target d.len = true →
      ∃ t, exec (.flashProgram ref) s = .next t ∧
        t.code.banks.find (codeBank d.target) =
          some { queue := k, epoch := accessEpoch s, d := d, data := Mem.read 0 s.mem d.buf d.len } ∧
        t.codeFlash = s.codeFlash ∧ t.mem = s.mem) ∧
    (s.code.banks.find (codeBank d.target) = none → rangeErased s d.target d.len = false →
      ∃ t, exec (.flashProgram ref) s = .next t ∧ Entered s t (.code k) 0x1041 ∧ t.codeFlash = s.codeFlash)) ∧
  (∀ (s : State) (ref : QueueRef) (k : Nat) (d : FDesc), FlashTurn s ref (.code k) d → d.op = 2 → BanksBusy s d = false →
    s.code.banks.find (codeBank d.target) = none →
    let l := (sectorsOf d.target d.len).filter (fun n => (sector s n).state != 0)
    (∀ n m, l = n :: m →
      ∃ t o, exec (.flashErase ref) s = .next t ∧ t.code.banks.find (codeBank d.target) = some o ∧ o.left = l ∧ o.queue = k ∧
        (sector t n).state = 2 ∧ t.codeFlash = s.codeFlash) ∧
    (l = [] → ∃ t, exec (.flashErase ref) s = .next t ∧ Entered s t (.code k) 0 ∧ t.codeFlash = s.codeFlash)) ∧
  (∀ (s : State) (ref : QueueRef) (k : Nat) (d : FDesc), FlashTurn s ref (.vault k) d → d.op = 2 →
    ∃ t, exec (.flashErase ref) s = .next t ∧ Entered s t (.vault k) 0 ∧
      t.vault.runs = (vDiscard s d.target d.len).vault.runs) ∧
  (∀ (s : State) (ref : QueueRef) (k : Nat) (d : FDesc), FlashTurn s ref (.code k) d → d.op = 3 →
    (∀ (o : BankOp) (n : Nat) (l : List Nat), s.code.banks.find d.bank = some o → o.left = n :: l → o.suspAt = none →
      ∃ u, exec (.eraseSuspend ref) s = .next (serveCode u) ∧ Entered s u (.code k) 0 ∧ (sector u n).state = 3 ∧
        u.code.banks.find d.bank = some { o with suspAt := some s.now } ∧ u.code.waits = s.code.waits ∧
        (s.code.waits = [] → serveCode u = u)) ∧
    (s.code.banks.find d.bank = none → ∃ t, exec (.eraseSuspend ref) s = .next t ∧ Entered s t (.code k) 0x2016)) ∧
  (∀ (s : State) (ref : QueueRef) (k : Nat) (d : FDesc), FlashTurn s ref (.code k) d → d.op = 4 →
    (∀ (o : BankOp) (n : Nat) (l : List Nat), s.code.banks.find d.bank = some o → o.left = n :: l → o.suspAt.isSome = true →
      ∃ t, exec (.eraseResume ref) s = .next t ∧ Entered s t (.code k) 0 ∧ (sector t n).state = 2 ∧
        (t.code.banks.find d.bank) = some { o with suspAt := none }) ∧
    (s.code.banks.find d.bank = none → ∃ t, exec (.eraseResume ref) s = .next t ∧ Entered s t (.code k) 0x2016)) ∧
  (∀ (s : State) (ref : QueueRef) (k : Nat) (d : FDesc), FlashTurn s ref (.code k) d → d.op = 5 →
    Mem.wf 0 s.mem = true →
    let b := codeBank d.target
    let u := sector s (d.target / 4096)
    ∃ t, exec (.readStatus ref) s = .next t ∧ Entered s t (.code k) 0 ∧
      leNat (Mem.read 0 t.mem (entryAt s (.code k) + 24) 8) =
        (u.state + 2 ^ 8 * (u.count % 2 ^ 24) + 2 ^ 32 * b + 2 ^ 36 * b2n (bankStalls s b)) % 2 ^ 64) ∧
  (∀ (s : State) (ref : QueueRef) (k : Nat) (d : FDesc) (p p2 : Nat), FlashTurn s ref (.vault k) d → d.op = 5 →
    Mem.wf 0 s.mem = true → s.vault.map.find (d.target % vHalf / vBlock) = some (p, p2) →
    let key := if d.target < vHalf then p else p2
    let b := key / 2720
    let u := s.vault.blocks.get {} key
    ∃ t, exec (.readStatus ref) s = .next t ∧ Entered s t (.vault k) 0 ∧
      leNat (Mem.read 0 t.mem (entryAt s (.vault k) + 24) 8) =
        (u.state + 2 ^ 8 * (u.count % 2 ^ 24) + 2 ^ 32 * b + 2 ^ 36 * b2n (vBankBusy s b)) % 2 ^ 64)

/-- What flash does by itself (16 R608 to R625; 18 R661). -/
def Obligations.FlashOperationsEnd : Prop :=
  (∀ (s : State) (b : Nat) (o : BankOp), s.hostSupply = true → b < 4 → s.code.banks.find b = some o → o.d.op = 1 →
    (∃ u, exec (.flashProgramDone b true) s = .next (lifeGoOn (serveCode u)) ∧
      u.codeFlash = Mem.write 0xFF s.codeFlash o.d.target (o.data.take o.d.len) ∧ u.code.banks.find b = none ∧
      (∀ n, n ∈ sectorsOf o.d.target o.d.len → (sector u n).state = 1)) ∧
    (∃ u, exec (.flashProgramDone b false) s = .next (lifeGoOn (serveCode u)) ∧ u.code.banks.find b = none ∧
      (32 ≤ o.d.len → o.d.len % 32 = 0 → ∀ a, a < o.d.target ∨ o.d.target + o.d.len ≤ a →
        Mem.get 0xFF u.codeFlash a = Mem.get 0xFF s.codeFlash a))) ∧
  (∀ (s : State) (b : Nat) (p : VProg) (k e tag : Nat) (l : List (List VProg)), s.hostSupply = true → b < 16 →
    (s.vbank b).prog = [p] :: l → (s.vbank b).erasing = none →
    (p.src = .desc k e tag → ∃ u, exec (.flashProgramDone (4 + b) true) s = .next (lifeGoOn (serveVaultReads u)) ∧ (u.vbank b).prog = l ∧
      u.vault.runs = s.vault.runs ++ [{ addr := p.addr, data := p.data, queue := some k }]) ∧
    (∃ u key, exec (.flashProgramDone (4 + b) false) s = .next (lifeGoOn u) ∧ (u.vbank b).prog = (s.vbank b).prog ∧
      (key = (s.vault.map.get (0, 0) (p.addr / vBlock)).1 ∨ key = (s.vault.map.get (0, 0) (p.addr / vBlock)).2) ∧
      (u.vault.blocks.get {} key).state = 5)) ∧
  (∀ (s : State) (b n : Nat) (o : BankOp) (l : List Nat), s.hostSupply = true → b < 4 → s.code.banks.find b = some o → o.left = n :: l →
    o.suspAt = none →
    (∃ u, exec (.flashEraseDone b true) s = .next (serveCode u) ∧
      (n ∉ l → (sector u n).state = 0 ∧ (sector u n).count = (sector s n).count + 1 ∧ (sector u n).lastErase = some s.clock.st) ∧
      (l = [] → u.code.banks.find b = none) ∧
      (∀ m r, l = m :: r → u.code.banks.find b = some { o with left := l } ∧ (sector u m).state = 2) ∧
      (∀ a, n * 4096 ≤ a → a < n * 4096 + 4096 → Mem.get 0xFF u.codeFlash a = 0xFF) ∧
      (∀ a, a < n * 4096 ∨ n * 4096 + 4096 ≤ a → Mem.get 0xFF u.codeFlash a = Mem.get 0xFF s.codeFlash a)) ∧
    (∃ u, exec (.flashEraseDone b false) s = .next (serveCode u) ∧ (sector u n).state = 4 ∧ u.code.banks.find b = none ∧
      u.codeFlash = s.codeFlash)) ∧
  (∀ (s : State) (b key : Nat), s.hostSupply = true → (s.vbank b).erasing = some key →
    (∃ u, exec (.flashEraseDone (4 + b) true) s = .next (serveVaultReads u) ∧ (u.vbank b).erasing = none ∧
      (u.vault.blocks.get {} key).state = 0 ∧ (u.vault.blocks.get {} key).count = (s.vault.blocks.get {} key).count + 1) ∧
    (∃ u, exec (.flashEraseDone (4 + b) false) s = .next (serveVaultReads u) ∧ (u.vbank b).erasing = none ∧
      (u.vault.blocks.get {} key).state = 5)) ∧
  (∀ (s : State) (b n t0 : Nat) (o : BankOp) (l : List Nat), s.code.banks.find b = some o → o.suspAt = some t0 →
    t0 + msTicks 100 ≤ s.now → o.left = n :: l →
    ∃ t, exec (.suspendExpiry b) s = .next t ∧ t.code.banks.find b = some { o with suspAt := none } ∧ (sector t n).state = 2) ∧
  (∀ s : State, s.hostSupply = true → s.vault.flushAt + msTicks 4 ≤ s.now →
    ∃ t, exec .flushTick s = .next t ∧ t.vault.flushAt = s.now ∧ t.vault.gather = [] ∧ t.vault.rgather = []) ∧
  (∀ s : State, s.hostSupply = true →
    (unmapped s < 1024 → ∃ t, exec .collection s = .next t ∧ t.vault.collecting = true) ∧
    (1536 ≤ unmapped s → ∃ t, exec .collection s = .next t ∧ t.vault.collecting = false ∧ t.vault.map = s.vault.map)) ∧
  (∀ (s : State) (n : Nat), s.hostSupply = true → s.vault.victims.find? (fun k => victimReady s k) = some n →
    let e := s.vault.map.get (0, 0) n
    (s.vbank (e.1 / 2720)).erasing = none → (s.vbank (e.2 / 2720)).erasing = none → e.1 / 2720 ≠ e.2 / 2720 →
    ∃ t, exec .victimErase s = .next t ∧ t.vault.map.find n = none ∧ (t.vbank (e.1 / 2720)).erasing = some e.1 ∧
      (t.vbank (e.2 / 2720)).erasing = some e.2 ∧ t.mem = s.mem) ∧
  (∀ (s : State) (b : Nat), s.hostSupply = true → b < 16 → 1000 ≤ (s.vbank b).erases →
    ∃ t, exec (.wearCollection b) s = .next t ∧ (t.vbank b).erases = (s.vbank b).erases - 1000) ∧
  (∀ (s : State) (b : Nat), s.modeNum = 1 → b < 16 → s.isl (210 + b) = 0 → (s.vbank b).prog = [] →
    (s.vbank b).erasing = none → (s.vbank b).idleAt + msTicks 10 ≤ s.now →
    ∃ t, exec (.vaultBankIdle b) s = .next t ∧ t.isl (210 + b) = 2 ∧ (∀ k, k ≠ 210 + b → t.isl k = s.isl k))

/-- The recorder, repairs, lifecycle (17 R638, R639; 19 R699 to R711; 21 R753 to R758). -/
def Obligations.EventsRepairsAndLifecycle : Prop :=
  (∀ (s : State) (k : Nat) (x : Tok) (l : List Tok), s.hostSupply = true → s.evr.queue.length < 4096 →
    nextPort s.evr.ports s.evr.granted = some k → s.evr.ports.get [] k = x :: l →
    ∃ t, exec .eventStamp s = .next t ∧ t.evr.granted = k ∧ t.evr.aseq = (s.evr.aseq + 1) % 2 ^ 64 ∧
      (k ≠ 230 → k ≠ 140 → t.evr.ports.get [] k = l)) ∧
  (∀ (s : State) (k code subj det who : Nat) (l : List Tok) (h : List EvItem), s.hostSupply = true →
    s.evr.queue.length < 4096 → nextPort s.evr.ports s.evr.granted = some k →
    s.evr.ports.get [] k = .coal code subj det who :: l → foldReport code subj who s.evr.held = some h →
    ∃ t, exec .eventStamp s = .next t ∧ t.evr.held = h ∧ t.evr.queue = s.evr.queue ∧
      t.gv gEvrCoalescedTotal = (s.gv gEvrCoalescedTotal + 1) % 2 ^ 64) ∧
  (∀ (s : State) (w : CoalWin), s.evr.held = [.window w] → w.openedAt + msTicks 1 ≤ s.now →
    ∃ t, exec .coalesceWindowClose s = .next t ∧ t.evr.aseq = (s.evr.aseq + 1) % 2 ^ 64 ∧
      (mayLeave s (coalRec w) = true → t.evr.held = [])) ∧
  (∀ (s : State) (c : Nat), 0 < (s.evr.supp.get {} c).count → (s.evr.supp.get {} c).since + secTicks 1 ≤ s.now →
    let x := s.evr.supp.get {} c
    ∃ t, exec (.suppressed c) s = .next t ∧ (t.evr.supp.get {} c).count = 0 ∧
      t.evr.ports.get [] 230 = s.evr.ports.get [] 230 ++
        [.evt 0x0102 (fit 32 (toLE 2 c ++ toLE 4 x.count ++ toLE 6 x.first ++ toLE 6 x.last))]) ∧
  (∀ (s : State) (x : Spare) (u : SramUse), s.hostSupply = true → 0 < sparesOf s x.mac x.column →
    ∃ t, exec (.sramRepaired x true u) s = .next t ∧ t.life.spares = s.life.spares ++ [x] ∧
      t.gv gRepairSramUsed = (s.gv gRepairSramUsed + 1) % 2 ^ 64 ∧ t.gv gRepairRuntime = (s.gv gRepairRuntime + 1) % 2 ^ 64 ∧
      t.gv gRepairEccCorrected = (s.gv gRepairEccCorrected + 1) % 2 ^ 64 ∧ t.jobs = s.jobs) ∧
  (∀ (s : State) (c : LifeChange), s.life.change = some c → s.modeNum = 6 →
    (s.gv gLifeChangeStep ≠ 4 → exec .lifecycleEraseComplete s = .next s) ∧
    (s.gv gLifeChangeStep = 4 → ∃ t, exec .lifecycleEraseComplete s = .next t ∧ t.gv gLifeState = c.target ∧ t.gv gLifeSeq = (s.gv gLifeSeq + 1) % 2 ^ 64 ∧
      t.gv gLifeChangeStep = 0 ∧ t.life.change = none ∧ t.life.keysDue = true ∧ t.modeNum = 2))

/-- Tamper (20 R717 to R733; 17 R634). -/
def Obligations.TamperResponses : Prop :=
  (∀ (s : State) (m u v : Nat), watched s m = true → ignored s m u = false →
    ∃ t, exec (.monitorSample m u v false) s = .next t ∧ (t.tamper.mons.get {} m).standing = false ∧
      (∀ k, k ≠ m → t.tamper.mons.get {} k = s.tamper.mons.get {} k) ∧ { t with tamper := s.tamper } = s) ∧
  (∀ (s : State) (m u v : Nat), watched s m = true → ignored s m u = false → m ≠ 15 → m ≠ 18 → m ≠ 19 → s.tamper.mons.get {} m = {} → 1 < s.monN m →
    ∃ t, exec (.monitorSample m u v true) s = .next t ∧ (t.tamper.mons.get {} m).times = [s.now] ∧
      t.gvs gTamperMonEvents m = (s.gvs gTamperMonEvents m + 1) % 2 ^ 64 ∧ t.tamper.batch = s.tamper.batch ∧
      t.jobs = s.jobs ∧ t.keys = s.keys) ∧
  (∀ (s : State) (m u v : Nat) (b : Bool), ignored s m u = true → exec (.monitorSample m u v b) s = .next s) ∧
  (∀ (s : State) (a : Alarm), s.hostSupply = true → s.tamper.batch = [a] → a.resp = 1 →
    s.tamper.batchAt + usTicks 1 ≤ s.now →
    ∃ t, exec .batchExecute s = .next t ∧ t.tamper.batch = [] ∧ bit (t.gv gTamperAlertPending) a.mon = true ∧
      t.keys = s.keys ∧ t.jobs = s.jobs ∧
      (s.link.state = .l0 → s.link.d3hot = false → t.link.msixSent = s.link.msixSent ++ [(0, 0)])) ∧
  (∀ (s : State) (n : Nat), s.tamper.holdUntil = some n → n ≤ s.now →
    (∀ m, m ∈ s.tamper.holdMons → (s.tamper.mons.get {} m).inHold = 0) →
    ∃ t, exec .quiesceHoldEnd s = .next t ∧ t.tamper.holdUntil = none ∧ t.gv gTamperQuiesceActive = 0 ∧ t.keys = s.keys) ∧
  (∀ (s : State) (x : SessId) (req : BitVec 16) (v : Bytes), Served s x req →
    writeCheck s x 0x500002 v true false = 0 →
    ∃ t, exec (.alertAck x req v) s = .next t ∧ Answered t x (statusReply 0x11 req 0 []) ∧
      t.gv gTamperAlertPending = (BitVec.ofNat 32 (s.gv gTamperAlertPending) &&& ~~~(BitVec.ofNat 32 (leNat v))).toNat) ∧
  (∀ (s : State) (n : Nat), 140 ≤ n → n ≤ 243 → s.isl n < 2 → n ≠ 236 →
    ∃ t, exec (.crossingTimeout n) s = .next t ∧ t.isl n = 3) ∧
  (∀ (s : State) (n : Nat), 2 ≤ s.isl n → exec (.crossingTimeout n) s = .next s)

/-- Addition, subtraction and comparison of Verb-14 (13 R511, R514, R515, Tables 9, 10): the whole state after each. -/
def Obligations.VerbAddAndSubtract : Prop :=
  (∀ (s : State) (u : Nat) (dd ds : Fin 8), Runs s u 1 →
    let r := (s.unit u).r
    let a := r.d.get dd
    let b := r.d.get ds
    let cy := b2n (stC r.st)
    let sum (x : BitVec 32) (k : Nat) : Fl :=
      ⟨some (x == 0), some x.msb, some (decide (2 ^ 32 ≤ a.toNat + b.toNat + k)), some (a.msb == b.msb && x.msb != a.msb)⟩
    let dif (x p q : BitVec 32) (k : Nat) : Fl :=
      ⟨some (x == 0), some x.msb, some (decide (p.toNat < q.toNat + k)), some (p.msb != q.msb && x.msb != p.msb)⟩
    exec (.add u dd ds) s = .next (s.afterData u 1 dd (a + b) (sum (a + b) 0)) ∧
    exec (.adc u dd ds) s = .next (s.afterData u 1 dd (a + b + BitVec.ofNat 32 cy) (sum (a + b + BitVec.ofNat 32 cy) cy)) ∧
    exec (.sub u dd ds) s = .next (s.afterData u 1 dd (a - b) (dif (a - b) a b 0)) ∧
    exec (.sbc u dd ds) s = .next (s.afterData u 1 dd (a - b - BitVec.ofNat 32 cy) (dif (a - b - BitVec.ofNat 32 cy) a b cy)) ∧
    exec (.neg u dd ds) s = .next (s.afterData u 1 dd (-b) (dif (-b) 0 b 0)) ∧
    exec (.cmp u dd ds) s = .next (s.afterFlags u 1 (dif (a - b) a b 0))) ∧
  (∀ (s : State) (u : Nat) (pre : List (BitVec 12)) (dd : Fin 8) (imm : BitVec 5), pre.length ≤ 3 → Runs s u (pre.length + 1) →
    let a := (s.unit u).r.d.get dd
    let b := immS pre imm
    exec (.addi u pre dd imm) s = .next (s.afterData u (pre.length + 1) dd (a + b) ⟨some (a + b == 0), some (a + b).msb,
      some (decide (2 ^ 32 ≤ a.toNat + b.toNat)), some (a.msb == b.msb && (a + b).msb != a.msb)⟩) ∧
    exec (.cmpi u pre dd imm) s = .next (s.afterFlags u (pre.length + 1) ⟨some (a - b == 0), some (a - b).msb,
      some (decide (a.toNat < b.toNat)), some (a.msb != b.msb && (a - b).msb != a.msb)⟩)) ∧
  (∀ (s : State) (u : Nat) (ad x : Fin 8), Runs s u 1 →
    let r := (s.unit u).r
    exec (.adda u ad x) s = .next (s.afterAddr u 1 ad (r.a.get ad + (r.d.get x).setWidth 24)) ∧
    exec (.addaa u ad x) s = .next (s.afterAddr u 1 ad (r.a.get ad + r.a.get x)) ∧
    exec (.cmpa u ad x) s = .next (s.afterFlags u 1 ⟨some (r.a.get ad == r.a.get x), some (r.a.get ad - r.a.get x).msb,
      some (decide ((r.a.get ad).toNat < (r.a.get x).toNat)), some false⟩)) ∧
  (∀ (s : State) (u : Nat) (pre : List (BitVec 12)) (ad : Fin 8) (imm : BitVec 5), pre.length ≤ 3 → Runs s u (pre.length + 1) →
    exec (.addai u pre ad imm) s =
      .next (s.afterAddr u (pre.length + 1) ad ((s.unit u).r.a.get ad + BitVec.ofNat 24 (assemble pre 5 imm.toNat true 24))))

/-- Logic and shifts of Verb-14 (13 R511, R514, R515, Table 10): the whole state after each. -/
def Obligations.VerbLogicAndShifts : Prop :=
  (∀ (s : State) (u : Nat) (dd ds : Fin 8), Runs s u 1 →
    let a := (s.unit u).r.d.get dd
    let b := (s.unit u).r.d.get ds
    let k := b.toNat % 32
    let lg (x : BitVec 32) : Fl := ⟨some (x == 0), some x.msb, none, some false⟩
    let sh (x : BitVec 32) (c : Bool) : Fl := ⟨some (x == 0), some x.msb, if k = 0 then none else some c, some false⟩
    exec (.and u dd ds) s = .next (s.afterData u 1 dd (a &&& b) (lg (a &&& b))) ∧
    exec (.or u dd ds) s = .next (s.afterData u 1 dd (a ||| b) (lg (a ||| b))) ∧
    exec (.xor u dd ds) s = .next (s.afterData u 1 dd (a ^^^ b) (lg (a ^^^ b))) ∧
    exec (.andn u dd ds) s = .next (s.afterData u 1 dd (a &&& ~~~b) (lg (a &&& ~~~b))) ∧
    exec (.not u dd ds) s = .next (s.afterData u 1 dd (~~~b) (lg (~~~b))) ∧
    exec (.tst u dd ds) s = .next (s.afterFlags u 1 (lg (a &&& b))) ∧
    exec (.shl u dd ds) s = .next (s.afterData u 1 dd (a <<< k) (sh (a <<< k) (a.getLsbD (32 - k)))) ∧
    exec (.shr u dd ds) s = .next (s.afterData u 1 dd (a >>> k) (sh (a >>> k) (a.getLsbD (k - 1)))) ∧
    exec (.sar u dd ds) s = .next (s.afterData u 1 dd (a.sshiftRight k) (sh (a.sshiftRight k) (a.getLsbD (k - 1)))) ∧
    exec (.ror u dd ds) s = .next (s.afterData u 1 dd (a.rotateRight k) (sh (a.rotateRight k) (a.getLsbD (k - 1))))) ∧
  (∀ (s : State) (u : Nat) (pre : List (BitVec 12)) (dd : Fin 8) (imm : BitVec 5), pre.length ≤ 3 → Runs s u (pre.length + 1) →
    let a := (s.unit u).r.d.get dd
    let b := immU pre imm
    let lg (x : BitVec 32) : Fl := ⟨some (x == 0), some x.msb, none, some false⟩
    exec (.andi u pre dd imm) s = .next (s.afterData u (pre.length + 1) dd (a &&& b) (lg (a &&& b))) ∧
    exec (.ori u pre dd imm) s = .next (s.afterData u (pre.length + 1) dd (a ||| b) (lg (a ||| b))) ∧
    exec (.xori u pre dd imm) s = .next (s.afterData u (pre.length + 1) dd (a ^^^ b) (lg (a ^^^ b)))) ∧
  (∀ (s : State) (u : Nat) (dd : Fin 8) (imm : BitVec 5), Runs s u 1 →
    let a := (s.unit u).r.d.get dd
    let k := imm.toNat
    let sh (x : BitVec 32) (c : Bool) : Fl := ⟨some (x == 0), some x.msb, if k = 0 then none else some c, some false⟩
    exec (.shli u dd imm) s = .next (s.afterData u 1 dd (a <<< k) (sh (a <<< k) (a.getLsbD (32 - k)))) ∧
    exec (.shri u dd imm) s = .next (s.afterData u 1 dd (a >>> k) (sh (a >>> k) (a.getLsbD (k - 1)))))

/-- Products, selections and moves of Verb-14 (13 R511, R514, R515, Tables 9, 10): the whole state after each. -/
def Obligations.VerbProductsAndMoves : Prop :=
  (∀ (s : State) (u : Nat) (dd ds : Fin 8), Runs s u 1 →
    let r := (s.unit u).r
    let a := r.d.get dd
    let b := r.d.get ds
    let zn (x : BitVec 32) : Fl := ⟨some (x == 0), some x.msb, none, none⟩
    let hu := BitVec.ofNat 32 (a.toNat * b.toNat / 2 ^ 32)
    let hs := BitVec.ofInt 32 (a.toInt * b.toInt / 2 ^ 32)
    exec (.mul u dd ds) s = .next (s.afterData u 1 dd (a * b) (zn (a * b))) ∧
    exec (.mulhu u dd ds) s = .next (s.afterData u 1 dd hu (zn hu)) ∧
    exec (.mulhs u dd ds) s = .next (s.afterData u 1 dd hs (zn hs)) ∧
    exec (.mov u dd ds) s = .next (s.afterData u 1 dd b {}) ∧
    exec (.minu u dd ds) s = .next (s.afterData u 1 dd (if a.toNat < b.toNat then a else b) {}) ∧
    exec (.maxu u dd ds) s = .next (s.afterData u 1 dd (if a.toNat < b.toNat then b else a) {}) ∧
    exec (.mins u dd ds) s = .next (s.afterData u 1 dd (if a.toInt < b.toInt then a else b) {}) ∧
    exec (.maxs u dd ds) s = .next (s.afterData u 1 dd (if a.toInt < b.toInt then b else a) {}) ∧
    (∃ n : Nat, exec (.clz u dd ds) s = .next (s.afterData u 1 dd (BitVec.ofNat 32 n) {}) ∧ n ≤ 32 ∧ b.toNat < 2 ^ (32 - n) ∧
      (n < 32 → 2 ^ (31 - n) ≤ b.toNat)) ∧
    (∃ n : Nat, exec (.popc u dd ds) s = .next (s.afterData u 1 dd (BitVec.ofNat 32 n) {}) ∧
      n = ((List.range 32).filter (fun i => b.getLsbD i)).length) ∧
    exec (.bswap u dd ds) s = .next (s.afterData u 1 dd (b.extractLsb' 0 8 ++ b.extractLsb' 8 8 ++ b.extractLsb' 16 8 ++ b.extractLsb' 24 8) {}) ∧
    exec (.cmovz u dd ds) s = .next (if stZ r.st then s.afterData u 1 dd b {} else s.afterFlags u 1 {}) ∧
    exec (.cmovc u dd ds) s = .next (if stC r.st then s.afterData u 1 dd b {} else s.afterFlags u 1 {}) ∧
    exec (.sxb u dd ds) s = .next (s.afterData u 1 dd ((b.setWidth 8).signExtend 32) {}) ∧
    exec (.sxh u dd ds) s = .next (s.afterData u 1 dd ((b.setWidth 16).signExtend 32) {})) ∧
  (∀ (s : State) (u : Nat) (pre : List (BitVec 12)) (dd : Fin 8) (imm : BitVec 5), pre.length ≤ 3 → Runs s u (pre.length + 1) →
    exec (.movi u pre dd imm) s = .next (s.afterData u (pre.length + 1) dd (immS pre imm) {})) ∧
  (∀ (s : State) (u : Nat) (x y : Fin 8), Runs s u 1 →
    let r := (s.unit u).r
    exec (.movad u x y) s = .next (s.afterAddr u 1 x ((r.d.get y).setWidth 24)) ∧
    exec (.movda u x y) s = .next (s.afterData u 1 x ((r.a.get y).setWidth 32) {}) ∧
    exec (.movaa u x y) s = .next (s.afterAddr u 1 x (r.a.get y)))

/-- Accumulators of Verb-14 (13 R507, Table 12): the whole state after each. -/
def Obligations.VerbAccumulators : Prop :=
  ∀ (s : State) (u : Nat) (q : Fin 4) (m n : Fin 8), Runs s u 1 →
    let r := (s.unit u).r
    let x := r.q.get q
    let a := r.d.get m
    let b := r.d.get n
    exec (.macu u q m n) s = .next (s.afterAcc u q (x + BitVec.ofNat 72 (a.toNat * b.toNat)) (decide (2 ^ 72 ≤ x.toNat + a.toNat * b.toNat))) ∧
    exec (.macs u q m n) s = .next (s.afterAcc u q (x + BitVec.ofInt 72 (a.toInt * b.toInt))
      (decide (x.toInt + a.toInt * b.toInt < -(2 ^ 71) ∨ 2 ^ 71 ≤ x.toInt + a.toInt * b.toInt))) ∧
    exec (.mulu u q m n) s = .next (s.afterAcc u q (BitVec.ofNat 72 (a.toNat * b.toNat)) false) ∧
    exec (.mql u q m) s = .next (s.afterData u 1 m (x.extractLsb' 0 32) {}) ∧
    exec (.mqh u q m) s = .next (s.afterData u 1 m (x.extractLsb' 32 32) {}) ∧
    exec (.mqg u q m) s = .next (s.afterData u 1 m ((x.extractLsb' 64 8).setWidth 32) {}) ∧
    exec (.mdql u q m) s = .next (s.afterAcc u q (x.extractLsb' 32 40 ++ a) false) ∧
    exec (.mdqh u q m) s = .next (s.afterAcc u q (x.extractLsb' 64 8 ++ a ++ x.extractLsb' 0 32) false) ∧
    exec (.mdqg u q m) s = .next (s.afterAcc u q (a.setWidth 8 ++ x.extractLsb' 0 64) false) ∧
    exec (.shrq u q m) s = .next (s.afterAcc u q (x >>> (a.toNat % 128)) false) ∧
    exec (.shlq u q m) s = .next (s.afterAcc u q (x <<< (a.toNat % 128)) (decide (2 ^ 72 ≤ x.toNat * 2 ^ (a.toNat % 128))))

/-- Flow, events and waiting of Verb-14 (13 R520 to R524, R528). -/
def Obligations.VerbFlowEventsAndWaits : Prop :=
  (∀ (s : State) (u : Nat) (pre : List (BitVec 12)) (cond : Fin 15) (disp : BitVec 7), pre.length ≤ 3 → Runs s u (pre.length + 1) →
    let r := (s.unit u).r
    let next := r.pc + BitVec.ofNat 20 (pre.length + 1)
    exec (.branch u pre cond disp) s =
      .next (s.withRegs u (fun r => { r with pc := if condHolds cond.val r.st then next + immFlow pre disp else next })) ∧
    exec (.call u pre disp) s = .next (s.withRegs u (fun r => { r with a := r.a.set 6 (next.setWidth 24), pc := next + immFlow pre disp }))) ∧
  (∀ (s : State) (u : Nat) (as : Fin 8), Runs s u 1 →
    let r := (s.unit u).r
    exec (.jmp u as) s = .next (s.withRegs u (fun r => { r with pc := (r.a.get as).setWidth 20 })) ∧
    exec (.jsr u as) s = .next (s.withRegs u (fun r' => { r' with a := r.a.set 6 ((r.pc + 1).setWidth 24), pc := (r.a.get as).setWidth 20 })) ∧
    exec (.nop u) s = .next (s.withRegs u (fun r => { r with pc := r.pc + 1 })) ∧
    exec (.verbFence u) s = .next (s.withRegs u (fun r => { r with pc := r.pc + 1 }))) ∧
  (∀ (s : State) (u : Nat) (dn : Fin 8), Runs s u 1 → (s.unit u).latch = true →
    let d := (s.unit u).r.d.get dn
    exec (.wfe u) s = .next (s.withUnit u (fun x => { x with latch := false, r := { x.r with pc := x.r.pc + 1 } })) ∧
    (deadlineMet (tickOf s u) d = false → exec (.waitc u dn) s = .next (s.withUnit u (fun x =>
      { x with latch := false, r := { x.r with pc := x.r.pc + 1, st := x.r.st ||| 4 } }))) ∧
    (deadlineMet (tickOf s u) d = true → exec (.waitc u dn) s = .next (s.withUnit u (fun x =>
      { x with r := { x.r with pc := x.r.pc + 1, st := x.r.st &&& ~~~4 } })))) ∧
  (∀ (s : State) (u : Nat) (dn : Fin 8), Runs s u 1 → (s.unit u).latch = false →
    let d := (s.unit u).r.d.get dn
    exec (.wfe u) s = .next (s.withUnit u (fun x => { x with wait := some none })) ∧
    (deadlineMet (tickOf s u) d = false → exec (.waitc u dn) s = .next (s.withUnit u (fun x => { x with wait := some (some d) })))) ∧
  (∀ (s : State) (u : Nat), unitUp s u = true → (s.unit u).wait = some none → (s.unit u).latch = true → nextAsync (s.unit u) = none →
    exec (.waitWake u) s = .next (s.withUnit u (fun x => { x with latch := false, wait := none, r := { x.r with pc := x.r.pc + 1 } }))) ∧
  (∀ (s : State) (u v : Nat) (dn : Fin 8), Runs s u 1 → v < 12 → v ≠ 1 → v ≠ 3 →
    (BitVec.ofNat 64 ((s.unit u).r.d.get dn).toNat &&& (s.unit u).sevMask).getLsbD v = true →
    ∃ t, exec (.sev u dn false) s = .next t ∧ (t.unit v).latch = true ∧ (t.unit u).r.pc = (s.unit u).r.pc + 1 ∧
      (t.unit u).r.d = (s.unit u).r.d ∧ { t with verb := s.verb, gls := s.gls } = s)

/-- System words of Verb-14 and exception entry (13 R507, R508, R512, R513; 14 R543, R552 to R554, R558). -/
def Obligations.VerbSystemAndExceptions : Prop :=
  (∀ (s : State) (u : Nat), Runs s u 1 → (s.unit u).lvl ≠ 0 →
    exec (.ems u) s = .next (s.withRegs u (fun r => { r with st := r.st ||| 0x800, pc := r.pc + 1 })) ∧
    exec (.emc u) s = .next (s.withRegs u (fun r => { r with st := r.st &&& ~~~0x800, pc := r.pc + 1 }))) ∧
  (∀ (s : State) (u : Nat) (d : Fin 8) (k : Fin 24), Runs s u 1 →
    (readLevel k.val ≤ (s.unit u).lvl → ∃ t, exec (.mfs u d (k.castLE (by decide))) s = .next t ∧
      (t.unit u).r.d = (s.unit u).r.d.set d (readSpec s u (s.unit u) k.val) ∧ (t.unit u).r.pc = (s.unit u).r.pc + 1 ∧
      (t.unit u).r.st = (s.unit u).r.st ∧ { t with verb := s.verb } = s) ∧
    (writeLevel 0 ≤ (s.unit u).lvl → ∃ t, exec (.mts u 0 d) s = .next t ∧
      (t.unit u).r.st = ((s.unit u).r.st &&& ~~~0x1F) ||| ((s.unit u).r.d.get d &&& 0x1F) ∧ (t.unit u).r.d = (s.unit u).r.d ∧
      { t with verb := s.verb } = s) ∧
    (3 ≤ (s.unit u).lvl → ∃ t, exec (.mts u 20 d) s = .next t ∧ (t.unit u).xbase = (s.unit u).r.d.get d &&& 0xFFF00 ∧
      (t.unit u).r.st = (s.unit u).r.st ∧ { t with verb := s.verb } = s)) ∧
  (∀ (s : State) (u n : Nat), Runs s u 1 → (s.unit u).lvl = n + 1 → n < 3 → returnOk (s.unit u) (n + 1) = true →
    let x := s.unit u
    exec (.retx u) s = .next (s.withRegs u (fun r => { r with st := x.sst.get (Fin.ofNat 3 n), pc := x.spc.get (Fin.ofNat 3 n) })) ∧
    exec (.retg u) s = .next (s.withRegs u (fun r => { r with
      a := r.a.set 7 (x.r.a.get 6), st := x.sst.get (Fin.ofNat 3 n), pc := x.spc.get (Fin.ofNat 3 n) }))) ∧
  (∀ (s : State) (u : Nat) (n : BitVec 8), Runs s u 1 → 
    let e := gateEntry s u (s.unit u) n.toNat
    let l := bits e 21 20
    gateFault s u (s.unit u) e = none → l ≠ 0 →
    ∃ t, exec (.gate u n) s = .next t ∧ (t.unit u).lvl = l ∧ (t.unit u).spc.get (Fin.ofNat 3 (l - 1)) = (s.unit u).r.pc + 1 ∧
      (t.unit u).sst.get (Fin.ofNat 3 (l - 1)) = (s.unit u).r.st ∧ (t.unit u).r.pc = BitVec.ofNat 20 (bits e 19 0) ∧
      (t.unit u).r.a.get 6 = (s.unit u).r.a.get 7 ∧ (t.unit u).r.d = (s.unit u).r.d ∧ { t with verb := s.verb } = s) ∧
  (∀ (s : State) (u : Nat), Runs s u 1 → isDeep u = false → stEM (s.unit u).r.st = false →
    let x := s.unit u
    let l := takenAt x.xroute 3 x.lvl
    ∃ t, exec (.brk u) s = .next t ∧ (t.unit u).lvl = l ∧ stEM (t.unit u).r.st = true ∧ (t.unit u).spc.get (Fin.ofNat 3 (l - 1)) = x.r.pc ∧
      (t.unit u).sst.get (Fin.ofNat 3 (l - 1)) = x.r.st ∧ (t.unit u).r.pc = BitVec.ofNat 20 (x.xbase.toNat + 48) ∧
      (t.unit u).xcause = BitVec.ofNat 32 (0x305 + 2 ^ 12 * x.lvl) ∧ (t.unit u).r.d = x.r.d ∧ (t.unit u).r.a = x.r.a ∧ { t with verb := s.verb } = s) ∧
  (∀ (s : State) (u : Nat) (w : BitVec 14), Runs s u 1 → isDeep u = false → stEM (s.unit u).r.st = false → sequenceReserved (isSquadUnit u) [] w.toNat = true →
    let x := s.unit u
    let l := takenAt x.xroute 1 x.lvl
    ∃ t, exec (.reservedPattern u [] w) s = .next t ∧ (t.unit u).lvl = l ∧ (t.unit u).spc.get (Fin.ofNat 3 (l - 1)) = x.r.pc ∧
      (t.unit u).r.pc = BitVec.ofNat 20 (x.xbase.toNat + 16) ∧ (t.unit u).emuWord = w.setWidth 32 ∧ (t.unit u).xcause = BitVec.ofNat 32 (0x103 + 2 ^ 12 * x.lvl) ∧
      (t.unit u).r.d = x.r.d ∧ t.gv gVerbEmuTraps = (s.gv gVerbEmuTraps + 1) % 2 ^ 64 ∧ { t with verb := s.verb, gls := s.gls } = s) ∧
  (∀ (s : State) (u : Nat), Runs s u 1 → isDeep u = false → stEM (s.unit u).r.st = false → (s.unit u).lvl = 0 →
    ∃ t, exec (.retx u) s = .next t ∧ (t.unit u).lvl = takenAt (s.unit u).xroute 2 0 ∧
      (t.unit u).r.pc = BitVec.ofNat 20 ((s.unit u).xbase.toNat + 32) ∧ { t with verb := s.verb } = s)

/-- Loads and stores of Verb-14 (13 R503, R504, R516, R518): the whole state after each. -/
def Obligations.VerbLoadsAndStores : Prop :=
  (∀ (s : State) (u : Nat) (pre : List (BitVec 12)) (i aa : Fin 8) (mode : BitVec 2),
    (pre = [] ∨ (mode = 3 ∧ pre.length ≤ 3)) → Runs s u (pre.length + 1) →
    let ok (n : Nat) : Prop := memAt s u pre aa mode n % n = 0 ∧ memAt s u pre aa mode n < localSize u
    let r := (s.unit u).r
    (ok 1 → exec (.ldb u pre i aa mode) s = .next (s.afterLoad u pre false i aa mode 1)) ∧
    (ok 2 → exec (.ldh u pre i aa mode) s = .next (s.afterLoad u pre false i aa mode 2)) ∧
    (ok 4 → exec (.ldw u pre i aa mode) s = .next (s.afterLoad u pre false i aa mode 4)) ∧
    (ok 4 → (i ≠ aa ∨ mode = 0 ∨ mode = 3) → exec (.lda u pre i aa mode) s = .next (s.afterLoad u pre true i aa mode 4)) ∧
    (ok 1 → exec (.stb u pre i aa mode) s = .next (s.afterStore u pre (r.d.get i).toNat aa mode 1)) ∧
    (ok 2 → exec (.sth u pre i aa mode) s = .next (s.afterStore u pre (r.d.get i).toNat aa mode 2)) ∧
    (ok 4 → exec (.stw u pre i aa mode) s = .next (s.afterStore u pre (r.d.get i).toNat aa mode 4)) ∧
    (ok 4 → exec (.sta u pre i aa mode) s = .next (s.afterStore u pre (r.a.get i).toNat aa mode 4))) ∧
  (∀ (s : State) (u : Nat) (i aa : Fin 8), isSquadUnit u = true → Runs s u 1 →
    let a := memAt s u [] aa 0 4
    let off := squadOf u * 0x200000 + ctxNum u * 0x20000 + (a - 0x400000)
    a % 4 = 0 → 0x400000 ≤ a → a < 0x420000 → guardCheck s 1 (identAt u (s.unit u) (s.unit u).lvl) off (off + 3) .write = 0 →
    ∃ t, exec (.stw u [] i aa 0) s = .next t ∧ t.mem = Mem.write 0 s.mem (0x001000000000 + off) (toLE 4 ((s.unit u).r.d.get i).toNat) ∧
      { t with mem := s.mem } = s.afterPc u) ∧
  (∀ (s : State) (u : Nat) (i aa : Fin 8), Runs s u 1 → isDeep u = false → stEM (s.unit u).r.st = false → memAt s u [] aa 0 4 % 4 ≠ 0 →
    ∃ t, exec (.stw u [] i aa 0) s = .next t ∧ (t.unit u).r.pc = BitVec.ofNat 20 ((s.unit u).xbase.toNat + 64) ∧
      (t.unit u).xaddr = BitVec.ofNat 32 (memAt s u [] aa 0 4) ∧ (t.unit u).ldata = (s.unit u).ldata ∧ { t with verb := s.verb } = s)

/-- Register reads with an effect (12 R483, R484; 17 R645); that the row is taken apart from the load is the model's (log entry 55), and
the words drawn are free values. -/
def Obligations.RegisterReadsLatch : Prop :=
  (∀ (s : State) (u w : Nat) (s1 : State), unitUp s u = true → (s.unit u).wait = none → isDeep u = false →
    guardCheck s 2 (identAt u (s.unit u) (s.unit u).lvl) 0x210000 0x210003 .read = 0 → regStruck s 2 0x210000 = false →
    s.gv gRngState ≠ 2 → freshWord s 0 = some (w, s1) →
    ∃ t, exec (.rngDataLo u) s = .next t ∧ (t.unit u).rngHi = some (BitVec.ofNat 32 (w / 2 ^ 32)) ∧ (t.unit u).r = (s.unit u).r ∧
      { t with verb := s.verb, rng := s.rng, free := s.free } = s) ∧
  (∀ (s : State) (u : Nat), unitUp s u = true → (s.unit u).wait = none → isDeep u = false →
    guardCheck s 2 (identAt u (s.unit u) (s.unit u).lvl) 0x210000 0x210003 .read = 0 → regStruck s 2 0x210000 = false →
    s.gv gRngState ≠ 2 → freshWord s 0 = none →
    exec (.rngDataLo u) s = .next (s.withUnit u (fun x => { x with rngStall := some 0xA10000 }))) ∧
  (∀ (s : State) (u : Nat) (h : BitVec 32), unitUp s u = true → (s.unit u).wait = none → isDeep u = false →
    guardCheck s 2 (identAt u (s.unit u) (s.unit u).lvl) 0x210004 0x210007 .read = 0 → regStruck s 2 0x210004 = false →
    s.gv gRngState ≠ 2 → (s.unit u).rngHi = some h →
    exec (.rngDataHi u) s = .next (s.withUnit u (fun x => { x with rngHi := none }))) ∧
  (∀ (s : State) (u w : Nat) (s1 : State), unitUp s u = true → (s.unit u).wait = none → isDeep u = true →
    guardCheck s 3 (identAt u (s.unit u) (s.unit u).lvl) 0x8030000 0x8030003 .read = 0 → regStruck s 3 0x8030000 = false →
    s.gv gRngJstate ≠ 2 → freshWord s 1 = some (w, s1) →
    ∃ t, exec (.rngJdataLo u) s = .next t ∧ (t.unit u).rngHi = some (BitVec.ofNat 32 (w / 2 ^ 32)) ∧ (t.unit u).r = (s.unit u).r ∧
      { t with verb := s.verb, rng := s.rng, free := s.free } = s) ∧
  (∀ (s : State) (u : Nat) (h : BitVec 32), unitUp s u = true → (s.unit u).wait = none → isDeep u = true →
    guardCheck s 3 (identAt u (s.unit u) (s.unit u).lvl) 0x8030004 0x8030007 .read = 0 → regStruck s 3 0x8030004 = false →
    s.gv gRngJstate ≠ 2 → (s.unit u).rngHi = some h →
    exec (.rngJdataHi u) s = .next (s.withUnit u (fun x => { x with rngHi := none }))) ∧
  (∀ (s : State) (u : Nat), unitUp s u = true → (s.unit u).wait = none → isDeep u = false →
    guardCheck s 2 (identAt u (s.unit u) (s.unit u).lvl) 0x220000 0x220003 .read = 0 → regStruck s 2 0x220000 = false →
    ∃ t, exec (.dtbFrac u) s = .next t ∧ t.clock.latNs = BitVec.ofNat 64 (s.clock.dtb / 2 ^ 32) ∧
      t.clock.latStatus = BitVec.ofNat 32 (s.clock.tstate + 4 * b2n s.clock.anchored) ∧ t.clock.latRate = BitVec.ofInt 64 s.clock.rate ∧
      t.clock.dtb = s.clock.dtb ∧ { t with clock := s.clock } = s) ∧
  (∀ (s : State) (u : Nat), (isDeep u = true → exec (.rngDataLo u) s = .next s) ∧ (isDeep u = true → exec (.rngDataHi u) s = .next s) ∧
    (isDeep u = false → exec (.rngJdataLo u) s = .next s) ∧ (isDeep u = false → exec (.rngJdataHi u) s = .next s) ∧
    (isDeep u = true → exec (.dtbFrac u) s = .next s))

/-- Wide lane words (13 R526, R527, Table 13; 05 R201, R209, R210). -/
def Obligations.VerbWideLanes : Prop :=
  (∀ (s : State) (u n L : Nat) (ld ls : Fin 8), isSquadUnit u = true → Runs s u 1 → turnSkipped s u = false → (s.unit u).r.setup = some (n, L) →
    let k := chans L
    let a := s.laneOf u ld (2 * k + 2)
    let b := s.laneOf u ls (2 * k + 2)
    exec (.ladd u ld ls) s = .next (s.afterLane u ld (chanwise (fun _ p q => p + q) k a b)) ∧
    exec (.lsub u ld ls) s = .next (s.afterLane u ld (chanwise (fun m p q => p + (3 * n % m) + (m - q % m)) k a b)) ∧
    (lazyOk k n a = true → lazyOk k n b = true → (montRns k n a b).2 = false → jobAt s u = none →
      exec (.lmont u ld ls false) s = .next (s.afterLane u ld (montRns k n a b).1)) ∧
    (∀ id, lazyOk k n a = true → lazyOk k n b = true → (montRns k n a b).2 = false → jobAt s u = some id →
      (contextsOf s id).headD u = u →
      exec (.lmont u ld ls false) s =
        .next ((s.afterLane u ld (montRns k n a b).1).withJob id (fun j => { j with monts := j.monts + 1 })))) ∧
  (∀ (s : State) (u : Nat) (ld ls : Fin 8), isSquadUnit u = true → Runs s u 1 → turnSkipped s u = false →
    exec (.lmov u ld ls) s = .next (s.withRegs u (fun r => { r with lanes := Tab.set r.lanes ld.val (r.lanes.get [] ls.val), pc := r.pc + 1 }))) ∧
  (∀ (s : State) (u n L off : Nat) (l as : Fin 8), isSquadUnit u = true → Runs s u 1 → turnSkipped s u = false → (s.unit u).r.setup = some (n, L) →
    let a := ((s.unit u).r.a.get as).toNat
    let k := chans L
    (laneAt s u (s.unit u) a (8 * L) false = .inr off → (∀ id, jobAt s u = some id → (s.job id).monts ≠ 0) →
      exec (.lconv u l as) s = .next (s.afterLane u l (toRns k (leNat (Mem.read 0 s.mem (moduleAddr 1 off) (8 * L)))))) ∧
    (laneAt s u (s.unit u) a (8 * (2 * k + 2)) false = .inr off →
      let ws := words64 (2 * k + 2) (Mem.read 0 s.mem (moduleAddr 1 off) (8 * (2 * k + 2)))
      exec (.lld u l as) s = .next (s.afterLane u l (if (s.unit u).r.qn.isSome then ws else (rnsMods k).zipWith (fun m x => x % m) ws))) ∧
    (laneAt s u (s.unit u) a (8 * L) true = .inr off → (settleRns k n (s.laneOf u l (2 * k + 2))).2 = false →
      ∃ t, exec (.lsettle u as l false) s = .next t ∧
        t.mem = Mem.write 0 s.mem (moduleAddr 1 off) (toLE (8 * L) (settleRns k n (s.laneOf u l (2 * k + 2))).1) ∧
        { t with mem := s.mem } = s.afterPc u) ∧
    (laneAt s u (s.unit u) a (8 * (2 * k + 2)) true = .inr off →
      ∃ t, exec (.lst u as l) s = .next t ∧ t.mem = Mem.write 0 s.mem (moduleAddr 1 off) (image64 (s.laneOf u l (2 * k + 2))) ∧
        { t with mem := s.mem } = s.afterPc u)) ∧
  (∀ (s : State) (u L off : Nat) (as dn : Fin 8), isSquadUnit u = true → Runs s u 1 → turnSkipped s u = false → ((s.unit u).r.d.get dn).toNat % 256 = L → 1 ≤ L → L ≤ 128 →
    laneAt s u (s.unit u) ((s.unit u).r.a.get as).toNat (8 * L) false = .inr off →
    exec (.lsetup u as dn) s = .next (s.withRegs u (fun r => { r with
      setup := some (leNat (Mem.read 0 s.mem (moduleAddr 1 off) (8 * L)), L), pc := r.pc + 1 })))

/-- Narrow lane words, Keccak and yields (05 R217 to R220; 06 R256; 08 R327; 13 R527, R529, Table 13). The words `fr` and `fr2` are free
values: only fields beyond QN take them. -/
def Obligations.VerbNarrowLanesAndYields : Prop :=
  (∀ (s : State) (u w q : Nat) (ld ls : Fin 8), isSquadUnit u = true → Runs s u 1 → turnSkipped s u = false → (s.unit u).r.qn = some (w, q) → qnOk w q = true →
    let n := 32
    let a := s.laneOf u ld n
    let b := s.laneOf u ls n
    let z := s.laneOf u 7 n
    (∃ t fr, exec (.nmul u ld ls false) s = .next t ∧ { t with free := s.free } = s.afterLane u ld (narrowAll w q (fun x y _ => x * y) n a b [] fr)) ∧
    (∃ t fr, exec (.nadd u ld ls false) s = .next t ∧ { t with free := s.free } = s.afterLane u ld (narrowAll w q (fun x y _ => x + y) n a b [] fr)) ∧
    (∃ t fr, exec (.nsub u ld ls false) s = .next t ∧
      { t with free := s.free } = s.afterLane u ld (narrowAll w q (fun x y _ => x + (q - y)) n a b [] fr)) ∧
    (ld ≠ 7 → ls ≠ 7 → ld ≠ ls →
      (∃ t fr fr2, exec (.nbfct u ld ls false) s = .next t ∧ { t with free := s.free } = (s.afterLane u ld (narrowAll w q (fun x y c => x + c * y) n a b z fr)).withRegs u
        (fun r => r.setLane ls.val (narrowAll w q (fun x y c => x + (q - c * y % q)) n a b z fr2))) ∧
      (∃ t fr fr2, exec (.nbfgs u ld ls false) s = .next t ∧ { t with free := s.free } = (s.afterLane u ld (narrowAll w q (fun x y _ => x + y) n a b z fr)).withRegs u
        (fun r => r.setLane ls.val (narrowAll w q (fun x y c => (x + (q - y)) * c) n a b z fr2))))) ∧
  (∀ (s : State) (u : Nat) (dn width : Fin 8), isSquadUnit u = true → Runs s u 1 → turnSkipped s u = false → width.val < 2 →
    exec (.lqn u dn width) s = .next (s.withRegs u (fun r => { r with
      qn := some (if width = 0 then 16 else 32, (r.d.get dn).toNat), pc := r.pc + 1 }))) ∧
  (∀ (s : State) (u off : Nat) (as : Fin 8), isSquadUnit u = true → Runs s u 1 → turnSkipped s u = false →
    laneAt s u (s.unit u) ((s.unit u).r.a.get as).toNat 200 false = .inr off → laneAt s u (s.unit u) ((s.unit u).r.a.get as).toNat 200 true = .inr off →
    ∃ t, exec (.kperm u as false) s = .next t ∧
      t.mem = Mem.write 0 s.mem (moduleAddr 1 off) (fit 200 (Config.keccakF (Mem.read 0 s.mem (moduleAddr 1 off) 200))) ∧
      { t with mem := s.mem } = s.afterPc u) ∧
  (∀ (s : State) (u : Nat), isSquadUnit u = true → Runs s u 1 → turnSkipped s u = false →
    (jobAt s u = none → exec (.ypt u) s = .next (s.afterPc u)) ∧
    (∀ id, jobAt s u = some id → (s.job id).parkSlot = none → (s.job id).monts < (s.job id).ckptAt + 512 → exec (.ypt u) s = .next (s.afterPc u)) ∧
    (∀ id, jobAt s u = some id → (s.job id).parkSlot = none → (s.job id).ckptAt + 512 ≤ (s.job id).monts →
      ∃ t, exec (.ypt u) s = .next t ∧ (t.job id).ckptAt = (s.job id).monts ∧ (t.unit u).r.pc = (s.unit u).r.pc + 1))

/-- Events of the cores, of the guards and of a changeover (13 R530; 14 R543, R545, R550, R561, R562; 15 R580, R585; 18 R682). -/
def Obligations.CoreGuardAndChangeoverEvents : Prop :=
  (∀ (s : State) (u n : Nat), unitPowered s u = true → n < 64 → stEM (s.unit u).r.st = true →
    exec (.deviceInterrupt u (.device n)) s = .next (s.withUnit u (fun x => { x with latch := true, pendDev := addUnique n x.pendDev }))) ∧
  (∀ (s : State) (u n : Nat), unitUp s u = true → isDeep u = false → n < 64 → stEM (s.unit u).r.st = false → (s.unit u).pendLoad = none →
    (s.unit u).wait = none → nextAsync (s.unit u) = none →
    let x := s.unit u
    let l := takenAt x.xroute 8 x.lvl
    ∃ t, exec (.deviceInterrupt u (.device n)) s = .next t ∧ (t.unit u).latch = true ∧ (t.unit u).pendDev = [] ∧ (t.unit u).lvl = l ∧
      stEM (t.unit u).r.st = true ∧ (t.unit u).spc.get (Fin.ofNat 3 (l - 1)) = x.r.pc ∧ (t.unit u).sst.get (Fin.ofNat 3 (l - 1)) = x.r.st ∧
      (t.unit u).r.pc = BitVec.ofNat 20 (x.xbase.toNat + 128) ∧ (t.unit u).xcause = BitVec.ofNat 32 (0x20 + 0x800 + 2 ^ 12 * x.lvl + 2 ^ 15 + 2 ^ 16 * n) ∧
      (t.unit u).r.d = x.r.d ∧ { t with verb := s.verb } = s) ∧
  (∀ (s : State) (u : Nat), 8 ≤ u → u < 12 → unitPowered s u = true → (s.unit u).frozen.isSome = true →
    ∃ t, exec (.frozenUnitRecovery u) s = .next t ∧ (t.unit u).frozen = none ∧ (t.unit u).r.pc = 0 ∧ (t.unit u).r.st = 0xE00 ∧
      (t.unit u).ldata = (s.unit u).ldata ∧ { t with verb := s.verb } = s) ∧
  (∀ (s : State) (pair : Bool), let u := if pair then 2 else 0
    unitPowered s u = true → u ≠ s.verb.duty →
    ∃ t, exec (.pairDiverged pair) s = .next t ∧ u ∈ t.verb.testing ∧ t.verb.duty = s.verb.duty ∧ (t.unit u).r.pc = 0 ∧
      t.gv gExcLockstepDiverge = (s.gv gExcLockstepDiverge + 1) % 2 ^ 64 ∧ { t with verb := s.verb, gls := s.gls, evr := s.evr } = s) ∧
  (∀ (s : State) (pair : Bool), let u := if pair then 2 else 0
    unitPowered s u = true → u = s.verb.duty → standbyUp s = true →
    ∃ t, exec (.pairDiverged pair) s = .next t ∧ u ∈ t.verb.testing ∧ t.verb.duty = otherPair u) ∧
  (∀ (s : State) (pair passed : Bool), let u := if pair then 2 else 0
    u ∈ s.verb.testing → s.mode.changeover = none →
    ∃ t, exec (.pairSelftestDone pair passed) s = .next t ∧ u ∉ t.verb.testing ∧ (passed = true → t.verb.out = s.verb.out) ∧
      (passed = false → u ∈ t.verb.out) ∧ { t with verb := s.verb } = s) ∧
  (∀ (s : State) (pair : Bool), let u := if pair then 2 else 0
    unitUp s u = true → s.verb.runahead.get 1 u = 1 →
    ∃ t, exec (.runAhead pair) s = .next t ∧ t.gv gVerbRunaheadCount = (s.gv gVerbRunaheadCount + 1) % 2 ^ 64 ∧ { t with gls := s.gls } = s) ∧
  (∀ (s : State) (g n : Nat), guardActive s g = true → n < guardSlots g → n ∉ (s.guards.get {} g).bad → runtimeBad g (s.guards.get {} g) = [] →
    ∃ t, exec (.guardScrub g [.double n]) s = .next t ∧ n ∈ (t.guards.get {} g).bad ∧ g ∈ t.guardSt.reload ∧
      (t.guards.get {} g).active = (s.guards.get {} g).active ∧ t.gv gGuardIntegrityFail = (s.gv gGuardIntegrityFail + 1) % 2 ^ 64 ∧
      t.parts = s.parts ∧ t.codeFlash = s.codeFlash) ∧
  (∀ s : State, s.gv gGuardCommitState = 0x30F → s.guardSt.reload = [] → oldFlash s = true → exec .guardDrainDone s = .next s) ∧
  (∀ s : State, s.gv gGuardCommitState = 0x30F → s.guardSt.reload = [] → oldFlash s = false → s.mode.changeover = none →
    (∀ e ∈ s.mgmt.slots, e.2.code ≠ 0xF0F) →
    ∃ t, exec .guardDrainDone s = .next t ∧ t.gv gGuardEpoch = (s.gv gGuardEpoch + 1) % 2 ^ 64 ∧ t.gv gGuardCommitState = 0xFC0 ∧
      t.gv gGuardCommitChange = 0 ∧ ∀ g, g < 5 → (t.guards.get {} g).staging = (s.guards.get {} g).active ∧
        (t.guards.get {} g).active = (s.guards.get {} g).active) ∧
  (∀ (s : State) (c : Changeover), s.mode.changeover = some c → s.modeNum = 5 → 6 ≤ c.unit → c.unit < 10 → c.rolling = false →
    ∃ t, exec (.changeoverUnitDone true true) s = .next t ∧ t.gv gChangeoverProgress = s.gv gChangeoverProgress + 1 ∧
      t.verb.prog.get 0 (c.unit + 2) = c.slot ∧ t.parts = s.parts ∧ t.keys = s.keys)

/-- Messages of the mailbox and of sessions (22 R764 to R767, R772, R774, R781, R787 to R789). -/
def Obligations.MailboxAndEntryMessages : Prop :=
  (∀ s : State, s.mainUp = true → s.mgmt.busy = true →
    ∃ t, exec .mbGo s = .next t ∧ t.mgmt.dropped = true ∧ { t with mgmt := { t.mgmt with dropped := s.mgmt.dropped } } = s) ∧
  (∀ s : State, s.mainUp = true → s.mgmt.busy = false →
    let m := Mem.read 0 s.mgmt.reqArea 0 (28 * 1024)
    ∃ t, exec .mbGo s = .next t ∧ t.mgmt.request = m ∧
      (badForm false m = false → t.mgmt.busy = true ∧ { t with mgmt := { t.mgmt with request := s.mgmt.request, busy := false } } = s) ∧
      (badForm false m = true →
        Answered t .mailbox (statusReply (m.getD 0 0).toNat (BitVec.ofNat 16 (leNat ((m.drop 2).take 2))) 0x7027 []))) ∧
  (∀ (s : State) (x : SessId) (req : BitVec 16), Served s x req →
    ∃ t, exec (.nopMessage x req) s = .next t ∧
      Answered t x (statusReply 0x3E req (if roleReaches (s.sess x).role 1 then 0 else 0x7020) [])) ∧
  (∀ (s : State) (x : SessId) (req : BitVec 16) (msg : Nat), Served s x req → knownMsg x msg = false →
    ∃ t, exec (.msgUnknown x req msg) s = .next t ∧ Answered t x (message 0xFF req.toNat (toLE 2 0x7026))) ∧
  (∀ (s : State) (x : SessId) (req : BitVec 16) (index sub : Nat), Served s x req → roleReaches (s.sess x).role 1 = true →
    ∃ t, exec (.describe x req index sub) s = .next t ∧
      match glossRow (index * 256 + sub) with
      | none => Answered t x (statusReply 0x12 req 0x7021 [])
      | some r => Answered t x (statusReply 0x12 req 0 (toLE 1 r.ty.code ++ toLE 1 r.acc.code ++ toLE 1 r.rd ++ toLE 1 r.wr ++
          toLE 4 r.ty.size ++ fit 48 (ascii r.name)))) ∧
  (∀ (s : State) (req : BitVec 16), Served s .mailbox req → roleReaches s.mgmt.mbox.role 2 = true →
    ∃ t n, exec (.authChallenge req) s = .next t ∧ n.length = 48 ∧ t.mgmt.mbox.nonce = some n ∧
      Answered t .mailbox (statusReply 0x05 req 0 n)) ∧
  (∀ (s : State) (req : BitVec 16) (cred : Nat) (sig : Bytes), Served s .mailbox req → roleReaches s.mgmt.mbox.role 2 = true →
    ∃ t, exec (.authResponse req cred sig) s = .next t ∧ t.mgmt.mbox.nonce = none ∧
      match s.mgmt.mbox.nonce with
      | none => Answered t .mailbox (statusReply 0x06 req 0x7003 []) ∧ t.mgmt.mbox.role = s.mgmt.mbox.role
      | some n =>
        if cred < 32 ∧ (s.cred cred).role = 3 ∧ Config.ecdsaVerify 2 (s.cred cred).key
            (Config.sha384 (ascii "VZM7216 MB-AUTH" ++ zeros 1 ++ n ++ fit 16 Config.serial)) sig = true then
          Answered t .mailbox (statusReply 0x06 req 0 (toLE 1 3)) ∧ t.mgmt.mbox.role = 3 ∧ t.mgmt.mbox.cred = some cred
        else Answered t .mailbox (statusReply 0x06 req 0x7003 []) ∧ t.mgmt.mbox.role = s.mgmt.mbox.role) ∧
  (∀ (s : State) (req : BitVec 16), Served s .mailbox req → roleReaches s.mgmt.mbox.role 2 = true →
    ∃ t, exec (.authDrop req) s = .next t ∧ t.mgmt.mbox.role = 2 ∧ Answered t .mailbox (statusReply 0x07 req 0 [])) ∧
  (∀ s : State, s.mgmt.mbox.role = 3 → s.mgmt.busy = false → s.mgmt.mbox.lastAt + secTicks 600 ≤ s.now →
    ∃ t, exec .officerIdle s = .next t ∧ t.mgmt.mbox.role = 2 ∧ t.mgmt.mbox.cred = none ∧ { t with mgmt := s.mgmt } = s) ∧
  (∀ (s : State) (x : SessId) (req : BitVec 16) (index sub off len : Nat) (r : GRow), Served s x req → index * 256 + sub ≠ 0x541005 →
    len ≤ 1024 → glossRow (index * 256 + sub) = some r →
    ∃ t, exec (.read x req index sub off len) s = .next t ∧
      if roleReaches (s.sess x).role r.rd = false then Answered t x (statusReply 0x10 req 0x7020 [])
      else if len = 0 ∨ (glossBytes s (s.sess x) r).length ≤ off then
        Answered t x (statusReply 0x10 req 1 (toLE 4 (glossBytes s (s.sess x) r).length))
      else Answered t x (statusReply 0x10 req 0
        (toLE 4 (glossBytes s (s.sess x) r).length ++ ((glossBytes s (s.sess x) r).drop off).take len))) ∧
  (∀ (s : State) (x : SessId) (req : BitVec 16) (index sub : Nat) (v : Bytes), Served s x req →
    [0x110005, 0x11000A, 0x500002, 0x530008, 0x53000B, 0x540007, 0x541005, 0x541008].contains (index * 256 + sub) = false →
    let key := index * 256 + sub
    let st := writeCheck s x key v (!(credKeys key && s.inEnrol && x != .mailbox)) (entryBusy s key)
    ∃ t, exec (.write x req index sub v) s = .next t ∧
      (st ≠ 0 → Answered t x (statusReply 0x11 req st [])) ∧
      (∀ r, glossRow key = some r → st = 0 → key ≠ 0x411004 →
        (r.acc = .rw → Answered t x (statusReply 0x11 req 0 []) ∧ t.gls = s.gls ∧
          (t.sess x).sel = Tab.set (s.sess x).sel key (leNat v)) ∧
        (r.acc = .rwp → Answered t x (statusReply 0x11 req 0 []) ∧
          t.gls = Tab.set s.gls (key * 65536 + selFor (s.sess x) r) (leNat v) ∧
          t.mgmt.rwpAt = Tab.set s.mgmt.rwpAt (key * 65536 + selFor (s.sess x) r) s.now) ∧
        (r.acc = .dual → directCred s x key = false → Answered t x (statusReply 0x11 req 0 []) ∧ t.gls = s.gls ∧
          (t.sess x).draft = draftPut (s.sess x).draft { idx := key / 256, sub := key % 256, selA := (selPair (s.sess x) r).1, selB := (selPair (s.sess x) r).2, value := v }))) ∧
  (∀ (s : State) (x : SessId) (req : BitVec 16) (v : Bytes),
    exec (.write x req 0x1100 0x05 v) s = exec (.modeTarget x req v) s ∧
    exec (.write x req 0x1100 0x0A v) s = exec (.serviceEnd x req v) s ∧
    exec (.write x req 0x5000 0x02 v) s = exec (.alertAck x req v) s ∧
    exec (.write x req 0x5300 0x08 v) s = exec (.cardRequest x req v) s ∧
    exec (.write x req 0x5300 0x0B v) s = exec (.cardMidstepClear x req v) s ∧
    exec (.write x req 0x5400 0x07 v) s = exec (.fieldRequest x req v) s ∧
    exec (.write x req 0x5410 0x05 v) s = exec (.tagMemBlock x req (some v)) s ∧
    exec (.write x req 0x5410 0x08 v) s = exec (.tagCounterAdd x req v) s) ∧
  (∀ (s : State) (x : SessId) (req : BitVec 16), Served s x req → (s.sess x).role = 3 →
    ∃ t, exec (.csDiscard x req) s = .next t ∧ (t.sess x).draft = [] ∧ Answered t x (statusReply 0x24 req 0 []))

/-- GAP sessions (22 R777 to R786). -/
def Obligations.GapSessions : Prop :=
  (∀ (s : State) (nonce eph cert key : Bytes), gapOn s = true → s.mgmt.gap.length < 8 → nonce.length = 32 → eph.length = 97 →
    cert.length ≤ 1024 →
    ∃ t x answer, exec (.hello nonce eph cert key) s = .next t ∧ t.mgmt.gap = Tab.set s.mgmt.gap s.mgmt.gapNext x ∧
      x.opened = false ∧ x.role = 0 ∧ x.peerKey = key ∧ x.sent = [message 0x81 0 answer]) ∧
  (∀ (s : State) (nonce eph cert key : Bytes), 8 ≤ s.mgmt.gap.length → exec (.hello nonce eph cert key) s = .next s) ∧
  (∀ (s : State) (n k : Nat) (h sig : Bytes), gapOn s = true → (s.sess (.gap n)).hello = some h → (s.sess (.gap n)).opened = false →
    credOf s (s.sess (.gap n)).peerKey = some k →
    ∃ t, exec (.finish n sig) s = .next t ∧
      if Config.ecdsaVerify 2 (s.sess (.gap n)).peerKey (Config.sha384 h) sig = true then
        (t.sess (.gap n)).opened = true ∧ (t.sess (.gap n)).role = (s.cred k).role ∧ (t.sess (.gap n)).cred = some k ∧
          (∀ m, m ≠ n → t.sess (.gap m) = s.sess (.gap m))
      else t.mgmt.gap = Tab.erase s.mgmt.gap n) ∧
  (∀ (s : State) (n : Nat) (h sig : Bytes), gapOn s = true → (s.sess (.gap n)).hello = some h → (s.sess (.gap n)).opened = false →
    credOf s (s.sess (.gap n)).peerKey = none →
    ∃ t, exec (.finish n sig) s = .next t ∧ { t.mgmt with gap := [] } = { s.mgmt with gap := [] } ∧
      t.mgmt.gap = Tab.erase s.mgmt.gap n) ∧
  (∀ (s : State) (n : Nat) (req : BitVec 16), gapOn s = true → (s.sess (.gap n)).opened = true →
    ∃ t, exec (.close n req) s = .next t ∧ t.mgmt = { s.mgmt with gap := Tab.erase s.mgmt.gap n }) ∧
  (∀ (s : State) (n : Nat) (x : Sess), Tab.find s.mgmt.gap n = some x →
    (x.lastAt + secTicks 300 ≤ s.now ∨ x.openedAt + secTicks 86400 ≤ s.now ∨ 2 ^ 32 ≤ x.framesIn ∨ 2 ^ 32 ≤ x.framesOut) →
    ∃ t, exec (.gapSessionExpiry n) s = .next t ∧ t.mgmt = { s.mgmt with gap := Tab.erase s.mgmt.gap n }) ∧
  (∀ (s : State) (n : Nat) (req : BitVec 16), (s.sess (.gap n)).opened = true →
    ∃ t, exec (.notifyAck n req) s = .next t ∧ (∀ k, k ∈ (t.sess (.gap n)).notifies ↔ k ∈ (s.sess (.gap n)).notifies ∧ k.req % 65536 ≠ req.toNat) ∧
      (∀ m, m ≠ n → t.sess (.gap m) = s.sess (.gap m)) ∧ { t with mgmt := s.mgmt } = s) ∧
  (∀ (s : State) (n : Nat) (req : BitVec 16) (k : Notify), (s.sess (.gap n)).opened = true →
    (s.sess (.gap n)).notifies.find? (fun k => k.req % 65536 == req.toNat) = some k →
    ∃ t, exec (.notifyResend n req) s = .next t ∧ (∀ m, m ≠ n → t.sess (.gap m) = s.sess (.gap m)) ∧ { t with mgmt := s.mgmt } = s ∧
      (k.resends < 5 → k.sentAt + secTicks 1 ≤ s.now →
        (t.sess (.gap n)).sent = (s.sess (.gap n)).sent ++ [message 0x30 (k.req % 65536) k.body] ∧
        { k with resends := k.resends + 1, sentAt := s.now } ∈ (t.sess (.gap n)).notifies) ∧
      (¬ (k.resends < 5 ∧ k.sentAt + secTicks 1 ≤ s.now) → t.sess (.gap n) = s.sess (.gap n))) ∧
  (∀ (s : State) (f : FrameKind), gapOn s = true → s.mgmt.frameSecond = s.now / secTicks 1 → 2000 ≤ s.mgmt.frameCount →
    ∃ t, exec (.inboundFrame f) s = .next t ∧ t.gv gMgmtRxDropped = (s.gv gMgmtRxDropped + 1) % 2 ^ 64 ∧ { t with gls := s.gls } = s) ∧
  (∀ (s : State) (f : FrameKind), gapOn s = true → (s.mgmt.frameSecond ≠ s.now / secTicks 1 ∨ s.mgmt.frameCount < 2000) →
    ∃ t, exec (.inboundFrame f) s = .next t ∧
      match f with
      | .neighborSolicitation => t.mgmt.frameReplies = s.mgmt.frameReplies + 1 ∧ { t with mgmt := s.mgmt } = s
      | .echoRequest => t.mgmt.frameReplies = s.mgmt.frameReplies + 1 ∧ { t with mgmt := s.mgmt } = s
      | .foreign => t.mgmt.frameReplies = s.mgmt.frameReplies ∧ { t with mgmt := s.mgmt } = s
      | .gapProtected n q ok msg =>
        if (s.sess (.gap n)).opened = true ∧ ok = true ∧ (s.sess (.gap n)).seqIn < q then
          (badForm true msg = false → (t.sess (.gap n)).seqIn = q ∧ (t.sess (.gap n)).lastAt = s.now ∧ { t with mgmt := s.mgmt } = s) ∧
          (badForm true msg = true → s.hostSupply = true → s.gv gMgmtEnable = 1 →
            (s.sess (.gap n)).replies.find? (fun p => p.1 == leNat ((msg.drop 2).take 2)) = none →
            Answered t (.gap n) (statusReply (msg.getD 0 0).toNat (BitVec.ofNat 16 (leNat ((msg.drop 2).take 2))) 0x7027 []))
        else t.gv gMgmtGapRejected = (s.gv gMgmtGapRejected + 1) % 2 ^ 64 ∧ t.mgmt.gap = s.mgmt.gap ∧
          { t with mgmt := s.mgmt, gls := s.gls } = s)

/-- Countersign (22 R789 to R799). -/
def Obligations.ChangeSetsAndCommits : Prop :=
  (∀ (s : State) (x : SessId) (req : BitVec 16), Served s x req → (s.sess x).role = 3 →
    ∃ t, exec (.csSeal x req) s = .next t ∧
      if (s.sess x).draft = [] then Answered t x (statusReply 0x20 req 1 []) ∧ t.mgmt.slots = s.mgmt.slots
      else match freeSlots16 s with
        | [] => Answered t x (statusReply 0x20 req 0x7004 []) ∧ t.mgmt.slots = s.mgmt.slots
        | k :: _ =>
          if (∃ d ∈ (s.sess x).draft, ∃ e ∈ s.mgmt.slots, e.2.isHeld = true ∧ ∃ r ∈ e.2.recs, sameCover d r = true) then
            Answered t x (statusReply 0x20 req 0x7002 []) ∧ t.mgmt.slots = s.mgmt.slots
          else
            (t.cset k).code = 0x365 ∧ (t.cset k).id = s.gv gCsNextId ∧ (t.cset k).recs = sealRecs s (s.sess x).draft [] ∧
            (t.cset k).hash = fit 48 (Config.sha384 (csEncode s (s.gv gCsNextId) (sealRecs s (s.sess x).draft []))) ∧
            (t.cset k).deadline = s.clock.st + 256 * s.gv gCsWindow ∧ (t.sess x).draft = [] ∧ (∀ m, m ≠ k → t.cset m = s.cset m) ∧
            Answered t x (statusReply 0x20 req 0 (toLE 4 (s.gv gCsNextId) ++ toLE 2 (t.cset k).recs.length ++ (t.cset k).hash))) ∧
  (∀ (s : State) (x : SessId) (req : BitVec 16) (change cred : Nat) (sig : Bytes), Served s x req → roleReaches (s.sess x).role 1 = true →
    ∃ t, exec (.csSign x req change cred sig) s = .next t ∧
      match heldSlot s change with
      | none => Answered t x (statusReply 0x21 req 0x7005 []) ∧ t.mgmt.slots = s.mgmt.slots
      | some k =>
        if (s.cset k).code ≠ 0x365 then Answered t x (statusReply 0x21 req 0x7006 []) ∧ t.mgmt.slots = s.mgmt.slots
        else if (s.cset k).deadline ≤ s.clock.st then
          Answered t x (statusReply 0x21 req 0x7001 []) ∧ (t.cset k).code = 0x356 ∧ (t.cset k).final = 0x7001
        else if cred < 32 ∧ (s.cred cred).role = 3 ∧ Config.ecdsaVerify 2 (s.cred cred).key
            (Config.sha384 (ascii "VZM7216 CS-SIGN" ++ zeros 1 ++ (s.cset k).hash)) sig = true then
          Answered t x (statusReply 0x21 req 0 []) ∧ (∀ m, m ≠ k → t.cset m = s.cset m) ∧
          t.cset k = { s.cset k with code := 0x5A3, deadline := s.clock.st + 256 * (s.cset k).window }
        else Answered t x (statusReply 0x21 req 0x7003 []) ∧ t.mgmt.slots = s.mgmt.slots) ∧
  (∀ (s : State) (x : SessId) (req : BitVec 16) (change : Nat), Served s x req → ((s.sess x).role = 3 ∨ (s.sess x).role = 4) →
    ∃ t, exec (.csCancel x req change) s = .next t ∧
      match heldSlot s change with
      | none => Answered t x (statusReply 0x22 req 0x7005 []) ∧ t.mgmt.slots = s.mgmt.slots
      | some k =>
        if (s.cset k).isOpen = true then
          Answered t x (statusReply 0x22 req 0 []) ∧ (∀ m, m ≠ k → t.cset m = s.cset m) ∧
          t.cset k = { s.cset k with code := 0x356, final := 0x7001, reason := 2 }
        else Answered t x (statusReply 0x22 req 0x7006 []) ∧ t.mgmt.slots = s.mgmt.slots) ∧
  (∀ (s : State) (x : SessId) (req : BitVec 16) (change off : Nat), Served s x req → roleReaches (s.sess x).role 1 = true →
    ∃ t, exec (.csQuery x req change off) s = .next t ∧ t.mgmt.slots = s.mgmt.slots ∧
      match heldSlot s change with
      | none => Answered t x (statusReply 0x23 req 0x7005 [])
      | some k => Answered t x (statusReply 0x23 req 0 (toLE 2 (s.cset k).code.toNat ++ toLE 2 (s.cset k).final ++
          toLE 4 (csLeft s (s.cset k)) ++ (s.cset k).hash ++ toLE 4 (csEncode s (s.cset k).id (s.cset k).recs).length ++
          ((csEncode s (s.cset k).id (s.cset k).recs).drop off).take 1024))) ∧
  (∀ (s : State) (k : Nat), (s.cset k).isOpen = true → (s.cset k).deadline ≤ s.clock.st →
    ∃ t, exec (.countersignExpiry k) s = .next t ∧ (∀ m, m ≠ k → t.cset m = s.cset m) ∧
      t.cset k = { s.cset k with code := 0x356, final := 0x7001, reason := 1 }) ∧
  (∀ (s : State) (k : Nat), mayCommit s = true → nextSet s = some k → setStatus s (s.cset k).recs ≠ 0 →
    ∃ t, exec .csCommit s = .next t ∧ (∀ m, m ≠ k → t.cset m = s.cset m) ∧
      t.cset k = { s.cset k with code := 0x356, final := setStatus s (s.cset k).recs, reason := 0 } ∧
      t.mgmt.creds = s.mgmt.creds ∧ t.mode = s.mode ∧ t.life = s.life ∧
      (∀ g, (Tab.get {} t.guards g).active = (Tab.get {} s.guards g).active)) ∧
  (∀ (s : State) (k : Nat) (r : CsRec) (row : GRow), mayCommit s = true → nextSet s = some k → (s.cset k).recs = [r] →
    setStatus s [r] = 0 → glossRow r.key = some row → row.acc = .dual → r.sel < 65536 →
    (isAction r.key = false → r.key ≠ 0x110101 → r.key ≠ 0x100004 →
      ∃ t, exec .csCommit s = .next t ∧ (∀ m, m ≠ k → t.cset m = s.cset m) ∧
        t.cset k = { s.cset k with code := 0x356, final := 0, reason := 0 } ∧
        Tab.find t.gls (r.key * 65536 + r.sel) = some (leNat r.value) ∧
        t.gv gConfigEpoch = (s.gv gConfigEpoch + 1) % 2 ^ 64 ∧ t.mgmt.creds = s.mgmt.creds) ∧
    (credKeys r.key = true →
      ∃ t, exec .csCommit s = .next t ∧ t.cset k = { s.cset k with code := 0x356, final := 0, reason := 0 } ∧
        t.mgmt.creds = credsAfter s.mgmt.creds [r]) ∧
    (r.key = 0x411004 →
      ∃ t, exec .csCommit s = .next t ∧ (t.cset k).code = 0xF0F ∧ t.gv gGuardCommitState = 0x30F ∧
        (Tab.get {} t.guards r.selA).active = bankOfBytes r.selA r.value ∧
        (∀ g, g ≠ r.selA → (Tab.get {} t.guards g).active = (Tab.get {} s.guards g).active))) ∧
  (∀ s : State, nextSet s = none → exec .csCommit s = .next s)

/-- The card's transport and identification (23 R802 to R808; 02 R52). -/
def Obligations.CardActivationAndTransport : Prop :=
  (∀ s : State, tokUp s false = true → s.appr.card.stage = .absent →
    ∃ t, exec .cardInserted s = .next t ∧ t.appr.card.stage = .atr ∧ t.appr.card.khz = 4000 ∧ t.appr.card.clockOn = true ∧
      t.appr.card.classA = false ∧ { t with appr := s.appr } = s) ∧
  (∀ (s : State) (classB t1 neg crc : Bool) (fidi stop ifsc bwi cwi : Nat), tokUp s false = true → s.appr.card.stage = .atr →
    ∃ t, exec (.cardResponse (.atr classB t1 neg fidi stop ifsc bwi cwi crc)) s = .next t ∧
      if classB = false ∧ s.appr.card.classA = false then t.appr.card.stage = .atr ∧ t.appr.card.classA = true
      else if t1 = false ∨ (neg = false ∧ rateFits fidi = false) then t.appr.card.stage = .failed ∧ t.gv gCardResult = 0x7036
      else t.appr.card.clockStop = stop ∧ t.appr.card.ifsc = ifsc ∧ t.appr.card.crc = crc ∧
        (if neg = false then t.appr.card.stage = .ifs ∧ t.appr.card.fidi = fidi ∧ t.appr.card.khz = cardKhz fidi
         else if s.appr.card.noPps = true then t.appr.card.stage = .ifs ∧ t.appr.card.fidi = 0x11 ∧ t.appr.card.khz = 4000
         else t.appr.card.stage = .pps ∧ t.appr.card.want = proposal fidi)) ∧
  (∀ s : State, tokUp s false = true → s.appr.card.stage = .pps →
    (∃ t, exec (.cardResponse (.pps true)) s = .next t ∧ t.appr.card.stage = .ifs ∧ t.appr.card.fidi = s.appr.card.want ∧
      t.appr.card.khz = cardKhz s.appr.card.want ∧ { t with appr := s.appr } = s) ∧
    (∃ t, exec (.cardResponse (.pps false)) s = .next t ∧ t.appr.card.stage = .atr ∧ t.appr.card.noPps = true ∧
      t.appr.card.classA = s.appr.card.classA ∧ { t with appr := s.appr } = s)) ∧
  (∀ s : State, tokUp s false = true → s.appr.card.stage = .ifs →
    ∃ t, exec (.cardResponse .ifs) s = .next t ∧ t.appr.card.stage = .select ∧ { t with appr := s.appr } = s) ∧
  (∀ (s : State) (sw : Nat) (d : Bytes), tokUp s false = true → s.appr.card.stage = .select →
    ∃ t, exec (.cardResponse (.resp sw d)) s = .next t ∧
      if sw = 0x9000 then t.appr.card.stage = .status else t.appr.card.stage = .failed) ∧
  (∀ (s : State) (sw : Nat) (d : Bytes), tokUp s false = true → s.appr.card.stage = .status → s.appr.midstep = none →
    ∃ t, exec (.cardResponse (.resp sw d)) s = .next t ∧
      if sw ≠ 0x9000 ∨ d.length ≠ 117 then t.appr.card.stage = .failed
      else t.appr.card.counter = leNat ((d.drop 0x63).take 4) ∧ t.appr.card.cred = custodianOf s ((d.drop 2).take 97) ∧
        t.appr.card.stage = (if custodianOf s ((d.drop 2).take 97) = none then .unknown else .ready)) ∧
  (∀ s : State, s.now < s.appr.card.waitUntil → exec .blockWaitingTimeExpiry s = .next s) ∧
  (∀ s : State, tokUp s false = true → s.appr.card.waits = true → s.appr.card.stage ≠ .atr → s.appr.card.stage ≠ .pps →
    let again := s.now + answerWait s.appr.card false s.appr.card.stage
    (s.appr.card.resends < 2 →
      (s.appr.card.waitUntil ≤ s.now → ∃ t, exec .blockWaitingTimeExpiry s = .next t ∧
        t.appr.card = { s.appr.card with resends := s.appr.card.resends + 1, waitUntil := again } ∧ { t with appr := s.appr } = s) ∧
      ∃ t, exec (.cardResponse .badBlock) s = .next t ∧
        t.appr.card = { s.appr.card with resends := s.appr.card.resends + 1, waitUntil := again, seenAt := s.now } ∧
        { t with appr := s.appr } = s) ∧
    (2 ≤ s.appr.card.resends → s.appr.card.waitUntil ≤ s.now → ∃ t, exec .blockWaitingTimeExpiry s = .next t ∧
      if s.appr.card.resynch = false then
        t.appr.card = { s.appr.card with resynch := true, waitUntil := again } ∧ { t with appr := s.appr } = s
      else t.appr.card.stage = .failed)) ∧
  (∀ s : State, tokUp s false = true → s.appr.card.waitUntil ≤ s.now →
    (s.appr.card.stage = .atr →
      ∃ t, exec .blockWaitingTimeExpiry s = .next t ∧ t.appr.card.stage = .failed ∧ t.gv gCardResult = 0x7034) ∧
    (s.appr.card.stage = .pps → ∃ t, exec .blockWaitingTimeExpiry s = .next t ∧ t.appr.card.stage = .atr ∧ t.appr.card.noPps = true)) ∧
  (∀ (s : State) (n : Nat), tokUp s false = true → s.appr.card.waits = true → s.appr.card.stage ≠ .atr → s.appr.card.stage ≠ .pps →
    ∃ t, exec (.cardWtx n) s = .next t ∧
      if s.appr.card.wtx + n ≤ 60 then { t with appr := s.appr } = s ∧
        t.appr.card = { s.appr.card with
          wtx := s.appr.card.wtx + n
          waitUntil := s.now + max (answerWait s.appr.card false s.appr.card.stage) (msTicks (1000 * n)) }
      else t.appr.card.stage = .failed) ∧
  (∀ s : State, tokUp s false = true → s.appr.card.clockOn = true → s.appr.card.clockStop ≠ 0 →
    (s.appr.card.stage = .ready ∨ s.appr.card.stage = .unknown) →
    s.appr.card.seenAt + cycTicks (s.gv gCardClockTail) (max 1 s.appr.card.khz) ≤ s.now →
    ∃ t, exec .clockStop s = .next t ∧ { t with appr := s.appr } = s ∧
      t.appr.card = { s.appr.card with clockOn := false, stoppedHigh := s.appr.card.clockStop == 2 }) ∧
  (∀ s : State, s.appr.card.clockStop = 0 → exec .clockStop s = .next s) ∧
  (∀ s : State, s.appr.card.stage ≠ .absent →
    ∃ t, exec .cardRemoved s = .next t ∧ t.appr.card.stage = .absent ∧ t.appr.badge = s.appr.badge) ∧
  (∀ s : State, s.appr.card.stage ≠ .absent → s.appr.card.stage ≠ .failed →
    ∃ t, exec .cardOvercurrent s = .next t ∧ t.appr.card.stage = .failed ∧ t.appr.badge = s.appr.badge)

/-- Approvals (23 R811 to R815; 24 R826). -/
def Obligations.ApprovalsByCardAndBadge : Prop :=
  (∀ (s : State) (x : SessId) (req : BitVec 16) (v : Bytes) (b : Bool), Served s x req →
    writeCheck s x (if b then 0x540007 else 0x530008) v true false = 0 →
    ∃ t, (b = false → exec (.cardRequest x req v) s = .next t) ∧ (b = true → exec (.fieldRequest x req v) s = .next t) ∧
      (s.appr.req ≠ none → Answered t x (statusReply 0x11 req 0x7035 []) ∧ t.appr = s.appr) ∧
      (s.appr.req = none → (s.tok b).stage = .unknown → Answered t x (statusReply 0x11 req 0x7031 []) ∧ t.appr = s.appr) ∧
      (s.appr.req = none → (s.tok b).stage = .absent → Answered t x (statusReply 0x11 req 0x7030 []) ∧ t.appr = s.appr) ∧
      (s.appr.req = none → (s.tok b).stage = .ready → s.appr.midstep = none → (v.drop 5).take 3 = zeros 3 →
        (((v.drop 4).headD 0).toNat = 1 ∨ ((v.drop 4).headD 0).toNat = 2) →
        Answered t x (statusReply 0x11 req 0 []) ∧
        match heldSlot s (leNat (v.take 4)) with
        | none => t.appr = s.appr ∧ t.gv (if b then gFieldResult else gCardResult) = 0x7005
        | some k =>
          if (s.cset k).code = 0x5A3 then (t.tok b).stage = .pin ∧
            t.appr.req = some { badge := b, change := leNat (v.take 4), action := ((v.drop 4).headD 0).toNat, pin := v.drop 8 }
          else t.appr = s.appr ∧ t.gv (if b then gFieldResult else gCardResult) = 0x7006)) ∧
  (∀ (s : State) (b : Bool) (r : AppReq) (sw : Nat) (d : Bytes), tokUp s b = true → s.appr.req = some r →
    (b = true → s.appr.carrier = true) → (s.tok b).stage = .pin →
    ∃ t, (b = false → exec (.cardResponse (.resp sw d)) s = .next t) ∧ (b = true → exec (.badgeResponse (.resp sw d)) s = .next t) ∧
      if sw ≠ 0x9000 then
        t.appr.req = none ∧ (t.tok b).stage = .ready ∧ t.gv (if b then gFieldResult else gCardResult) = swOutcome sw ∧ t.mgmt = s.mgmt
      else match heldSlot s r.change with
        | none => t.appr.req = none ∧ (t.tok b).stage = .ready ∧ t.gv (if b then gFieldResult else gCardResult) = 0x7005
        | some k =>
          if (s.cset k).code ≠ 0x5A3 then
            t.appr.req = none ∧ (t.tok b).stage = .ready ∧ t.gv (if b then gFieldResult else gCardResult) = 0x7006
          else if r.action = 2 then
            t.cset k = { s.cset k with code := 0x356, final := 0x7001, reason := 3 } ∧ (∀ m, m ≠ k → t.cset m = s.cset m) ∧
            t.appr.req = none ∧ (t.tok b).stage = .ready ∧ t.gv (if b then gFieldResult else gCardResult) = 0
          else (t.tok b).stage = .approve ∧ t.appr.req = some r ∧ t.mgmt = s.mgmt) ∧
  (∀ (s : State) (b : Bool) (r : AppReq) (k slot : Nat) (d : Bytes), tokUp s b = true → s.appr.req = some r →
    (b = true → s.appr.carrier = true) → (s.tok b).stage = .approve → (s.tok b).cred = some slot →
    heldSlot s r.change = some k → (s.cset k).code = 0x5A3 → s.clock.st < (s.cset k).deadline →
    ∃ t, (b = false → exec (.cardResponse (.resp 0x9000 d)) s = .next t) ∧ (b = true → exec (.badgeResponse (.resp 0x9000 d)) s = .next t) ∧
      t.appr.req = none ∧ (t.tok b).stage = .ready ∧
      if d.length = 100 ∧ (s.cred slot).counter < leNat (d.take 4) ∧ (s.cred slot).role = 4 ∧
          Config.ecdsaVerify 2 (s.cred slot).key (Config.sha384 (approveMsg (s.cset k).id (s.cset k).hash (leNat (d.take 4)))) (d.drop 4) = true then
        t.cset k = { s.cset k with code := 0xC9A, order := s.mgmt.orderNext } ∧ (∀ m, m ≠ k → t.cset m = s.cset m) ∧
        t.cred slot = { s.cred slot with counter := leNat (d.take 4) } ∧ t.gv (if b then gFieldResult else gCardResult) = 0
      else t.mgmt = s.mgmt ∧ t.gv (if b then gFieldResult else gCardResult) = 0x7003) ∧
  (∀ (s : State) (b : Bool) (r : AppReq) (sw : Nat) (d : Bytes), tokUp s b = true → s.appr.req = some r →
    (b = true → s.appr.carrier = true) → (s.tok b).stage = .approve → sw ≠ 0x9000 →
    ∃ t, (b = false → exec (.cardResponse (.resp sw d)) s = .next t) ∧ (b = true → exec (.badgeResponse (.resp sw d)) s = .next t) ∧
      t.appr.req = none ∧ (t.tok b).stage = .ready ∧ t.gv (if b then gFieldResult else gCardResult) = swOutcome sw ∧ t.mgmt = s.mgmt) ∧
  (∀ (s : State) (r : AppReq) (slot : Nat), s.appr.req = some r → r.badge = false → s.appr.card.stage = .approve →
    s.appr.card.cred = some slot →
    ∃ t m, exec .cardRemoved s = .next t ∧ t.appr.midstep = some m ∧ m.change = r.change ∧ m.slot = slot ∧
      m.counter = s.appr.card.counter ∧ t.appr.req = none ∧ t.gv gCardResult = 0x7037 ∧ t.mgmt = s.mgmt) ∧
  (∀ (s : State) (x : SessId) (req : BitVec 16) (v : Bytes), Served s x req → writeCheck s x 0x53000B v true false = 0 →
    ∃ t, exec (.cardMidstepClear x req v) s = .next t ∧ Answered t x (statusReply 0x11 req 0 []) ∧ t.appr.midstep = none ∧
      t.mgmt.slots = s.mgmt.slots)

/-- The reader (24 R818 to R828). -/
def Obligations.ReaderPollsAndBadges : Prop :=
  (∀ (s : State) (a : Nat), s.gv gFieldReaderEnable = 1 → tokUp s true = true → s.appr.carrier = false → s.appr.external = false →
    s.appr.pingAt + msTicks 250 ≤ s.now →
    ∃ t, exec (.ping a) s = .next t ∧ t.appr.pingAt = s.now ∧ { t with appr := s.appr } = s ∧
      if s.appr.refs ≠ [] ∧ s.gv gFieldPingThreshold * s.appr.refs.sum < 1000 * ((s.appr.refs.length * a : Int) - (s.appr.refs.sum : Int)).natAbs then
        t.appr.carrier = true ∧ t.appr.badge.stage = .atqa ∧ t.appr.refs = s.appr.refs
      else t.appr.carrier = false ∧ t.appr.refs = (s.appr.refs ++ [a]).drop (s.appr.refs.length + 1 - 16)) ∧
  (∀ s : State, s.gv gFieldReaderEnable ≠ 1 ∨ s.appr.carrier = true ∨ s.appr.external = true → ∀ a, exec (.ping a) s = .next s) ∧
  (∀ s : State, tokUp s true = true → s.appr.carrier = true →
    (s.appr.badge.stage = .atqa →
      ∃ t, exec (.badgeResponse .atqa) s = .next t ∧ t.appr.badge.stage = .anticoll ∧ t.appr.badge.knownBits = []) ∧
    (s.appr.badge.stage = .anticoll →
      (∀ l, ∃ t, exec (.badgeResponse (.collision l)) s = .next t ∧
        if l.take s.appr.badge.knownBits.length = s.appr.badge.knownBits then
          t.appr.badge.stage = .anticoll ∧ t.appr.badge.knownBits = l ++ [true] ∧
            t.gv gFieldCollisions = (s.gv gFieldCollisions + 1) % 2 ^ 64
        else t = blockFails s true) ∧
      (∀ u, ∃ t, exec (.badgeResponse (.uid u)) s = .next t ∧
        if (sentBits u).take s.appr.badge.knownBits.length = s.appr.badge.knownBits then
          t.appr.badge.stage = .sak ∧ t.appr.badge.uid = u
        else t = blockFails s true)) ∧
    (s.appr.badge.stage = .sak → ∃ t, exec (.badgeResponse .sak) s = .next t ∧ t.appr.badge.stage = .ats) ∧
    (s.appr.badge.stage = .ats → ∀ kbit fwi, ∃ t, exec (.badgeResponse (.ats kbit fwi)) s = .next t ∧ t.appr.badge.stage = .bpps ∧
      t.appr.badge.want = badgeRate kbit) ∧
    (s.appr.badge.stage = .bpps → ∃ t, exec (.badgeResponse .pps) s = .next t ∧ t.appr.badge.stage = .select ∧
      t.appr.badge.rate = s.appr.badge.want) ∧
    (s.appr.badge.stage = .select → ∀ sw d, ∃ t, exec (.badgeResponse (.resp sw d)) s = .next t ∧
      t.appr.badge.stage = if sw = 0x9000 then .status else .atqa) ∧
    (s.appr.badge.stage = .status → s.appr.midstep = none → ∀ sw d, ∃ t, exec (.badgeResponse (.resp sw d)) s = .next t ∧
      if sw = 0x9000 ∧ d.length = 117 ∧ custodianOf s ((d.drop 2).take 97) ≠ none then
        t.appr.badge.stage = .ready ∧ t.appr.badge.cred = custodianOf s ((d.drop 2).take 97) ∧
          t.appr.badge.counter = leNat ((d.drop 0x63).take 4)
      else t.appr.badge.stage = .atqa ∧ t.appr.badge.cred = none)) ∧
  (∀ s : State, tokUp s true = true → s.appr.carrier = true → s.appr.badge.stage = .atqa → s.appr.badge.waitUntil ≤ s.now →
    ∃ t, exec .frameWaitingTimeExpiry s = .next t ∧ t.appr.badge.stage = .absent ∧ t.appr.carrier = false ∧ t.appr.card = s.appr.card) ∧
  (∀ s : State, tokUp s true = true → s.appr.carrier = true → s.appr.badge.stage ≠ .absent → s.appr.badge.stage ≠ .ready →
    s.appr.badge.stage ≠ .atqa → s.appr.badge.waitUntil ≤ s.now →
    ∃ t, exec .frameWaitingTimeExpiry s = .next t ∧
      if s.appr.badge.resends < 2 then
        { t with appr := s.appr } = s ∧
          t.appr.badge = { s.appr.badge with
            resends := s.appr.badge.resends + 1
            waitUntil := s.now + answerWait s.appr.badge true s.appr.badge.stage }
      else t.appr.badge.stage = .absent ∧ t.appr.carrier = false) ∧
  (∀ (s : State) (ok : Bool), tokUp s true = true → s.appr.badge.stage = .ready → s.appr.badge.seenAt + msTicks 250 ≤ s.now →
    ∃ t, exec (.badgePresenceCheck ok) s = .next t ∧
      if ok = true then t.appr.badge = { s.appr.badge with seenAt := s.now } ∧ { t with appr := s.appr } = s
      else t.appr.badge.stage = .absent ∧ t.appr.carrier = false) ∧
  (∀ s : State, s.appr.carrier = false →
    ∃ t, exec .externalField s = .next t ∧ t.appr = { s.appr with external := true } ∧ { t with appr := s.appr } = s) ∧
  (∀ s : State, s.now < s.appr.badge.waitUntil → exec .frameWaitingTimeExpiry s = .next s) ∧
  (∀ s : State, ∃ t, exec .externalFieldGone s = .next t ∧ t.appr = { s.appr with external := false } ∧ t.tag.muted = false ∧
      t.tag.txn = none ∧
      (s.tag.txn = none → t.tag = { s.tag with muted := false } ∧ { t with appr := s.appr, tag := s.tag } = s))

/-- The tag's side (24 R829 to R837). -/
def Obligations.TagTransactionsAndCommands : Prop :=
  (∀ s : State, s.appr.carrier = false → s.tag.muted = false → s.tag.txn = none → cltUp s = true →
    ∃ t, exec .tagTransactionStart s = .next t ∧ t.tag.txn = some s.now ∧ t.tag.out = [0x04, 0x00] ∧ t.appr.external = true ∧
      tagCount t 0 = min (tagCount s 0 + 1) 0xFFFFFFFF ∧
      tagCount t 1 = (if s.modeNum = 0 ∧ budgetSpent s = false then tagCount s 1 + 1 else tagCount s 1) ∧
      (∀ n, n ≠ 0 → n ≠ 1 → tagCount t n = tagCount s n) ∧ { t with tag := s.tag, appr := s.appr } = s) ∧
  (∀ s : State, s.appr.carrier = true ∨ s.tag.muted = true ∨ s.tag.txn ≠ none → exec .tagTransactionStart s = .next s) ∧
  (∀ (s : State) (aid : Bytes), s.tag.txn ≠ none →
    ∃ t, exec (.tagSelect aid) s = .next t ∧ { t with tag := s.tag } = s ∧
      if aid = tagAid then t.tag = { s.tag with selected := true, out := [0x90, 0x00] } else t.tag = { s.tag with out := [0x6A, 0x82] }) ∧
  (∀ (s : State) (off len : Nat), s.tag.txn ≠ none →
    ∃ t, exec (.readBinary off len) s = .next t ∧ { t with tag := s.tag } = s ∧
      t.tag.out = (if passive s = true ∧ (len = 0 ∨ 0x70 < off + len) then [0x6A, 0x82]
        else if len = 0 ∨ 256 < len then [0x67, 0x00]
        else if 0x2000 < off + len then [0x6A, 0x86]
        else (List.range len).map (fun i => tagByte s (off + i)) ++ [0x90, 0x00]) ∧
      { t.tag with out := s.tag.out } = s.tag) ∧
  (∀ (s : State) (off : Nat) (d : Bytes), s.tag.txn ≠ none →
    ∃ t, exec (.updateBinary off d) s = .next t ∧ { t with tag := s.tag } = s ∧
      if passive s = true then t.tag = { s.tag with out := [0x6A, 0x82] }
      else if d = [] ∨ 240 < d.length then t.tag = { s.tag with out := [0x67, 0x00] }
      else if off < 0x400 ∨ 0x2000 < off + d.length ∨ s.gv gTagFieldWrite ≠ 1 then t.tag = { s.tag with out := [0x69, 0x82] }
      else t.tag = { s.tag with user := Mem.write 0 s.tag.user off d, out := [0x90, 0x00] } ∧
        ∀ a, a < off ∨ off + d.length ≤ a → tagByte t a = tagByte s a) ∧
  (∀ (s : State) (n : Nat) (d : Bytes), s.tag.txn ≠ none →
    ∃ t, exec (.increment n d false) s = .next t ∧ { t with tag := s.tag } = s ∧
      (∀ k, k ≠ n → tagCount t k = tagCount s k) ∧
      if passive s = true then t.tag = { s.tag with out := [0x6A, 0x82] }
      else if d.length ≠ 4 then t.tag = { s.tag with out := [0x67, 0x00] }
      else if 16 ≤ n ∨ leNat d = 0 then t.tag = { s.tag with out := [0x6D, 0x00] }
      else if n < 8 ∨ s.gv gTagFieldWrite ≠ 1 then t.tag = { s.tag with out := [0x69, 0x82] }
      else if 0xFFFFFFFF < tagCount s n + leNat d then t.tag = { s.tag with out := [0x69, 0x85] }
      else tagCount t n = tagCount s n + leNat d ∧ t.tag.out = toLE 4 (tagCount s n + leNat d) ++ [0x90, 0x00]) ∧
  (∀ (s : State) (n : Nat) (d : Bytes), s.tag.txn ≠ none → passive s = false → 8 ≤ n → n < 16 → d.length = 4 → leNat d ≠ 0 →
    s.gv gTagFieldWrite = 1 → tagCount s n + leNat d ≤ 0xFFFFFFFF →
    ∃ t, exec (.increment n d true) s = .next t ∧ t.tag.out = [] ∧ (∀ k, k ≠ n → tagCount t k = tagCount s k)) ∧
  (∀ s : State, s.tag.txn ≠ none →
    ∃ t, exec .tagTransactionEnd s = .next t ∧ t.tag.txn = none ∧ t.tag.selected = false ∧ t.tag.waits = []) ∧
  (∀ (s : State) (n : Nat), s.tag.txn = some n → n + msTicks 300 ≤ s.now →
    ∃ t, exec .tagTransactionTimeout s = .next t ∧ t.tag.txn = none ∧ t.tag.muted = true ∧ t.tag.waits = [])

/-- The host's side of tag memory (24 R838, R840). -/
def Obligations.TagMemoryOfTheHost : Prop :=
  (∀ (s : State) (x : SessId) (req : BitVec 16), Served s x req → s.tag.txn = none →
    ∃ t, exec (.tagMemBlock x req none) s = .next t ∧ t.tag = s.tag ∧
      (readCheck s x 0x541005 = 0 → Answered t x (statusReply 0x10 req 0
        (toLE 4 256 ++ (List.range 256).map (fun i => tagByte s ((s.sess x).selVal 0x541004 + i))))) ∧
      (readCheck s x 0x541005 ≠ 0 → Answered t x (statusReply 0x10 req (readCheck s x 0x541005) []))) ∧
  (∀ (s : State) (x : SessId) (req : BitVec 16) (v : Bytes), Served s x req → s.tag.txn = none →
    let off := (s.sess x).selVal 0x541004
    let st := writeCheck s x 0x541005 v (decide (0x400 ≤ off)) false
    ∃ t, exec (.tagMemBlock x req (some v)) s = .next t ∧ Answered t x (statusReply 0x11 req st []) ∧
      (st = 0 → t.tag = { s.tag with user := Mem.write 0 s.tag.user off v } ∧
        (∀ a, a < off ∨ off + 256 ≤ a → tagByte t a = tagByte s a)) ∧
      (st ≠ 0 → t.tag = s.tag)) ∧
  (∀ (s : State) (x : SessId) (req : BitVec 16) (v : Bytes), Served s x req → s.tag.txn = none →
    let n := (s.sess x).selVal 0x541006
    let st := writeCheck s x 0x541008 v (decide (8 ≤ n)) false
    ∃ t, exec (.tagCounterAdd x req v) s = .next t ∧
      (n < 16 → st = 0 → tagCount s n + leNat v ≤ 0xFFFFFFFF → Answered t x (statusReply 0x11 req 0 []) ∧
        tagCount t n = tagCount s n + leNat v ∧ (∀ k, k ≠ n → tagCount t k = tagCount s k)) ∧
      (st = 0 → 0xFFFFFFFF < tagCount s n + leNat v → Answered t x (statusReply 0x11 req 0x7022 []) ∧ t.tag = s.tag) ∧
      (st ≠ 0 → Answered t x (statusReply 0x11 req st []) ∧ t.tag = s.tag)) ∧
  (∀ (s : State) (x : SessId) (req : BitVec 16) (v : Bytes) (d : Option Bytes), Served s x req → s.tag.txn ≠ none →
    (∃ t, exec (.tagMemBlock x req d) s = .next t ∧ { t with tag := s.tag } = s ∧
      t.tag = { s.tag with waits := s.tag.waits ++ [{ sess := x, req := req, key := 0x541005, value := d, since := s.now }] }) ∧
    (∃ t, exec (.tagCounterAdd x req v) s = .next t ∧ { t with tag := s.tag } = s ∧
      t.tag = { s.tag with waits := s.tag.waits ++ [{ sess := x, req := req, key := 0x541008, value := some v, since := s.now }] })) ∧
  (∀ (s : State) (w : TagWait) (l : List TagWait), s.tag.txn ≠ none → s.tag.waits = w :: l → w.since + msTicks 5 ≤ s.now →
    ∃ t, exec .tagHostTimeout s = .next t ∧ t.tag = { s.tag with waits := l } ∧
      t.gv gTagBusy = (s.gv gTagBusy + 1) % 2 ^ 64 ∧
      Answered t w.sess (statusReply (if w.value.isSome then 0x11 else 0x10) w.req 0x7024 []))

/-- A slice before the last ends in the job's park slot (06 R250, R254, R255), and a draw waits for its turn (12 R480, R487). -/
def Obligations.SlicesParkAndDrawsWait : Prop :=
  (∀ (s : State) (id k : Nat),
    (s.job id).d.opcode = 0x0103 → (s.job id).squads ≠ [] → (s.job id).phase = .running → lastSlice s (s.job id) = false →
    (s.job id).parkSlot = some k → modulusOk ((s.job id).d.opaLen / 2) (genOps (s.job id)).n = true →
    (genOps (s.job id)).a < (genOps (s.job id)).n →
    ∃ t, exec (.modexp id) s = .next t ∧ (t.job id).phase = .ready ∧ (t.job id).slices = (s.job id).slices + 1 ∧
      (t.job id).parked = true ∧ (t.job id).squads = [] ∧ (t.job id).parkSlot = some k ∧ (t.job id).d = (s.job id).d ∧
      (t.job id).opa = (s.job id).opa ∧ (t.job id).opb = (s.job id).opb ∧
      Tab.find t.lanes.images k = some ((contextsOf s id).map (liveImage s)) ∧ k ∈ t.lanes.parked ∧
      t.keys = s.keys ∧ t.meter = s.meter ∧ t.evr = s.evr ∧ t.hostMem = s.hostMem) ∧
  (∀ (s : State) (id : Nat) (c : Nat × Instr),
    c ∈ [(0x0207, Instr.rsaEncryptOaep id), (0x0220, .rsaKeygen id), (0x0301, .ecdsaSign id), (0x0303, .ecdh id), (0x0306, .xdh id),
      (0x0320, .ecKeygen id), (0x0401, .mlkemEncaps id), (0x0420, .mlkemKeygen id), (0x0421, .mldsaKeygen id), (0x0204, .rsaSignPss id),
      (0x0410, .mldsaSign id)] →
    (s.job id).d.opcode = c.1 → (s.job id).squads ≠ [] → (s.job id).phase = .running →
    (c.1 = 0x0204 → (s.job id).d.salt ≠ 0) → (c.1 = 0x0410 → bit (s.job id).d.param 30 = false) → rngTurn s c.1 = false →
    exec c.2 s = .next (if s.gv gRngState = 2 ∧ (s.job id).heldAt = 0 then
        s.withJob id (fun j => { j with heldAt := s.now + msTicks (s.gv gRngHoldLimit) })
      else s))

/-- What the host reads of configuration space and of the BARs (03 R85, R88, R89, R91, R95, R99, R123, R130; the layout inside the identity
page is log entry 150's). -/
def Obligations.HostReads : Prop :=
  (∀ s : State,
    configRead s 0 .vendorId = 0x1F4E ∧ configRead s 0 .deviceId = 0x7216 ∧ configRead s 1 .deviceId = 0x7217 ∧
    configRead s 0 .revisionId = 0x10 ∧ configRead s 0 .classCode = 0x108000 ∧ configRead s 0 .subsystemVendorId = 0x1F4E ∧
    configRead s 0 .subsystemId = 0x7216 ∧ configRead s 0 .totalVfs = 1024 ∧ configRead s 0 .initialVfs = 1024 ∧
    configRead s 0 .firstVfOffset = 1 ∧ configRead s 0 .vfStride = 1 ∧ configRead s 0 .ptmResponderCapable = 0 ∧
    configRead s 0 .ptmGranularity = 0 ∧ configRead s 0 .maxOutstanding = 4096 ∧ configRead s 0 .noSoftReset = 1 ∧
    (∀ pf0 n, 1 ≤ n → n ≤ 1024 → routingId s pf0 n = pf0 + n)) ∧
  (∀ (s : State) (fn bar off n : Nat),
    ((n ≠ 4 ∧ n ≠ 8) ∨ off % n ≠ 0 ∨ s.mainUp = false ∨ bar ≠ 0 ∨ 1024 < fn ∨ (1 ≤ fn ∧ (s.part fn).enabled = false) ∨
      (fn = 0 ∧ (0x2000 ≤ off ∧ off < 0xA000 ∨ 0xC000 ≤ off ∧ off < 0x10000 ∨ 0x20000 ≤ off ∧ off < 0x401000 ∨
        0x801000 ≤ off ∧ off < 0x1000000 ∨ 0x4000000 ≤ off)) ∨
      (1 ≤ fn ∧ (0x2000 ≤ off ∧ off < 0xA000 ∨ 0xC000 ≤ off))) → barRead s fn bar off n = zeros n) ∧
  (∀ (s : State) (fn e off n : Nat), 1 ≤ fn → 0x1000 ≤ off →
    barRead (s.withPart fn (fun p => { p with tdi := { p.tdi with state := e } })) fn 0 off n = barRead s fn 0 off n) ∧
  (∀ (s : State) (fn : Nat), 1 ≤ fn → fn ≤ 1024 → s.mainUp = true → (s.part fn).enabled = true →
    barRead s fn 0 0 4 = [0x4E, 0x1F, 0x17, 0x72] ∧ barRead s 0 0 0 4 = [0x4E, 0x1F, 0x16, 0x72]) ∧
  (∀ (s : State) (off n : Nat), s.mainUp = true → n = 4 ∨ n = 8 → off % n = 0 → 0x1000 ≤ off → off < 0x2000 →
    (barRead s 0 0 off n).length = n)

/-- 03 R94. -/
def Obligations.NumVfsAndVfEnable : Prop :=
  (∀ (s : State) (n : Nat), s.link.vfEnable = true → exec (.numvfsWrite n) s = .next s ∧ exec .vfEnableSet s = .next s) ∧
  (∀ (s : State) (n : Nat), s.mainUp = true → s.link.vfEnable = false → n ≤ 1024 →
    ∃ t, exec (.numvfsWrite n) s = .next t ∧ t.link = { s.link with numVfs := n } ∧ { t with link := s.link } = s) ∧
  (∀ s : State, s.mainUp = true → s.link.vfEnable = false →
    ∃ t, exec .vfEnableSet s = .next t ∧ t.link.vfEnable = true ∧
      (∀ p, 1 ≤ p → p ≤ s.link.numVfs → (t.part p).enabled = true ∧ (t.part p).windows = []) ∧
      (∀ p, p = 0 ∨ s.link.numVfs < p → t.part p = s.part p)) ∧
  (∀ (s : State) (p r : Nat) (v : BitVec 32), p ≠ 0 → (s.part p).enabled = false →
    exec (.sqDb p r v) s = .next s ∧ exec (.cqDb p r v) s = .next s ∧ exec (.ringEnable p r) s = .next s ∧
    exec (.ringDisable p r) s = .next s ∧ exec (.ringAbort p r) s = .next s)

/-- 04 R157. -/
def Obligations.RepeatedDoorbellHasNoEffect : Prop :=
  (∀ (s : State) (p r : Nat) (v : BitVec 32), (s.ring p r).state ≠ 3 →
    (bits v.toNat 16 0 = (s.ring p r).sqTail → exec (.sqDb p r v) s = .next s) ∧
    (bits v.toNat 16 0 = (s.ring p r).cqHead → exec (.cqDb p r v) s = .next s)) ∧
  (∀ (s : State) (p r : Nat) (v : BitVec 32), (s.ring p r).state ≠ 3 → (s.part p).enabled = true →
    (s.part p).tdi.state = 0 →
    (bits v.toNat 16 0 = (s.ring p r).sqTail → exec (.proxyDoorbell p r false v) s = .next s) ∧
    (bits v.toNat 16 0 = (s.ring p r).cqHead → exec (.proxyDoorbell p r true v) s = .next s)) ∧
  (∀ (s : State) (p r : Nat) (v : BitVec 32), partOn s p = true → r < 8 → (s.ring p r).state = 3 →
    (bits v.toNat 16 0 = (s.ring p r).sqTail → ∃ t, exec (.sqDb p r v) s = .next t ∧ t.gls = s.gls ∧
      t.sameBesideRing s p r ∧ t.ring p r = { s.ring p r with heldSq := some (s.ring p r).sqTail }) ∧
    (bits v.toNat 16 0 = (s.ring p r).cqHead → ∃ t, exec (.cqDb p r v) s = .next t ∧ t.gls = s.gls ∧
      t.sameBesideRing s p r ∧ t.ring p r = { s.ring p r with heldCq := some (s.ring p r).cqHead })) ∧
  (∀ (s : State) (p r : Nat), (s.ring p r).state = 3 →
    (∀ v, (s.ring p r).heldSq = some v → v = (s.ring p r).sqTail) → (∀ v, (s.ring p r).heldCq = some v → v = (s.ring p r).cqHead) →
    (releaseRing s p r).ring p r = { s.ring p r with state := 1, heldSq := none, heldCq := none } ∧
    (releaseRing s p r).sameBesideRing s p r)

/-- 22 R788; 00 R13. -/
def Obligations.EntryReadsAndRefusedWrites : Prop :=
  (∀ (s : State) (x : SessId) (req : BitVec 16) (index sub off len : Nat) (r : GRow), Served s x req → s.tag.txn = none →
    glossRow (index * 256 + sub) = some r → roleReaches (s.sess x).role r.rd = true →
    let v := if index * 256 + sub = 0x541005 then tagBytes s ((s.sess x).selVal 0x541004) 256 else glossBytes s (s.sess x) r
    ∃ t, exec (.read x req index sub off len) s = .next t ∧
      (1024 < len → Answered t x (statusReply 0x10 req 0x7027 [])) ∧
      (len ≤ 1024 → (len = 0 ∨ v.length ≤ off) → Answered t x (statusReply 0x10 req 1 (toLE 4 v.length))) ∧
      (len ≤ 1024 → 0 < len → off < v.length → off + len ≤ v.length →
        Answered t x (statusReply 0x10 req 0 (toLE 4 v.length ++ (v.drop off).take len))) ∧
      (len ≤ 1024 → 0 < len → off < v.length → v.length < off + len →
        Answered t x (statusReply 0x10 req 0 (toLE 4 v.length ++ v.drop off)))) ∧
  (∀ (s : State) (x : SessId) (req : BitVec 16) (index sub : Nat) (v : Bytes) (r : GRow), Served s x req → s.tag.txn = none →
    glossRow (index * 256 + sub) = some r → (v.length ≠ r.ty.size ∨ inRange (s.sess x) r v = false) →
    ∃ t st, exec (.write x req index sub v) s = .next t ∧ st ≠ 0 ∧ Answered t x (statusReply 0x11 req st []) ∧
      (r.acc ≠ .ro → ∀ sel, sel < 65536 → Tab.find t.gls (r.key * 65536 + sel) = Tab.find s.gls (r.key * 65536 + sel)) ∧
      (t.sess x).draft = (s.sess x).draft ∧ (t.sess x).sel = (s.sess x).sel ∧ t.mgmt.creds = s.mgmt.creds ∧ t.guards = s.guards ∧
      t.tag = s.tag ∧ t.appr = s.appr)

/-- 24 R832. -/
def Obligations.TagCountsTransactions : Prop :=
  (∀ s t : State, exec .tagTransactionStart s = .next t → s.tag.txn = none → t.tag.txn ≠ none →
    tagCount t 0 = min (tagCount s 0 + 1) 0xFFFFFFFF) ∧
  (∀ (s : State) (k : Nat), k ≤ 7 → s.modeNum = k → s.appr.carrier = false → s.tag.muted = false → s.tag.txn = none → cltUp s = true →
    ∃ t, exec .tagTransactionStart s = .next t ∧ t.tag.txn = some s.now ∧ t.modeNum = k ∧
      (tagCount s 0 < 0xFFFFFFFF → tagCount t 0 = tagCount s 0 + 1))

/-- 17 R657. -/
def Obligations.PowerCyclesAreCountedOnce : Prop :=
  (∀ (s : State) (rail : Rail), s.hostSupply = false →
    ∃ t, exec (.supplyArrival rail) s = .next t ∧ t.clock.pcc = (s.clock.pcc + 1) % 2 ^ 32) ∧
  (∀ (c : Instr) (s t : State), exec c s = .next t → (∀ rail, c = .supplyArrival rail → s.hostSupply = true) →
    t.clock.pcc = s.clock.pcc)

/-- State.reset. -/
def Obligations.ResetLeavesTheModuleIdle : Prop :=
  State.reset.modeNum = 0 ∧ State.reset.hostSupply = false ∧ State.reset.link.state = .down ∧
  (∀ p, partOn State.reset p = false) ∧ (∀ p r, (State.reset.ring p r).state = 0 ∧ (State.reset.ring p r).enable = false) ∧
  (∀ k, (State.reset.job k) = ({} : Job)) ∧ State.reset.keys.slots = [] ∧
  (∀ (e : GE) (sel : Nat), State.reset.gvs e sel = e.dflt) ∧ State.reset.gv gGuardCommitState = 0xFC0 ∧
  (∀ k, (State.reset.cset k).isHeld = false) ∧ State.reset.tag.txn = none ∧ State.reset.appr.req = none ∧
  State.reset.appr.midstep = none ∧ State.reset.appr.card.stage = .absent ∧ State.reset.appr.badge.stage = .absent ∧
  tagCount State.reset 0 = 0 ∧ tagCount State.reset 1 = 0 ∧ State.reset.pending = []
end

