-- ==== Sys2Proof/Laws/Memory.lean ====
section
/-! SUPPORT. Laws of byte memory and of tables: what a read finds after a write, and that every operation on a memory keeps its
canonical form. -/

namespace Sys2Proof.Machine

open Sys2Proof

/-! ### The canonical form is kept -/

theorem Mem.wfFrom_mono {d : Byte} : ∀ {m : Mem} {lo lo' : Nat}, lo' ≤ lo → Mem.wfFrom d lo m = true → Mem.wfFrom d lo' m = true
  | [], _, _, _, _ => rfl
  | (a, b) :: m, lo, lo', hl, h => by
    simp only [Mem.wfFrom, Bool.and_eq_true, decide_eq_true_eq] at h ⊢
    exact ⟨⟨Nat.le_trans hl h.1.1, h.1.2⟩, h.2⟩

theorem Mem.set_wfFrom {d : Byte} : ∀ {m : Mem} {lo i : Nat} {v : Byte}, lo ≤ i → Mem.wfFrom d lo m = true →
    Mem.wfFrom d lo (Mem.set d m i v) = true
  | [], lo, i, v, hi, _ => by
    unfold Mem.set
    split
    · rfl
    · rename_i hv
      simp [Mem.wfFrom, hi, hv]
  | (a, b) :: m, lo, i, v, hi, h => by
    simp only [Mem.wfFrom, Bool.and_eq_true, decide_eq_true_eq] at h
    obtain ⟨⟨hla, hb⟩, hm⟩ := h
    unfold Mem.set
    split
    · rename_i hai
      subst hai
      split
      · exact Mem.wfFrom_mono (by omega) hm
      · rename_i hv
        simp [Mem.wfFrom, hla, hv, hm]
    · split
      · rename_i hlt
        split
        · simp [Mem.wfFrom, hla, bne_iff_ne.mp hb, hm]
        · rename_i hv
          simp [Mem.wfFrom, hi, hv, bne_iff_ne.mp hb, hm]
          omega
      · rename_i hne hge
        simp only [Mem.wfFrom, Bool.and_eq_true, decide_eq_true_eq]
        exact ⟨⟨hla, hb⟩, Mem.set_wfFrom (by omega) hm⟩

/-- Writing one byte keeps the canonical form. -/
theorem Mem.set_wf {d : Byte} {m : Mem} (i : Nat) (v : Byte) (h : Mem.wf d m = true) : Mem.wf d (Mem.set d m i v) = true :=
  Mem.set_wfFrom (Nat.zero_le i) h

/-- Writing bytes keeps the canonical form. -/
theorem Mem.write_wf {d : Byte} : ∀ (bs : Bytes) {m : Mem} (a : Nat), Mem.wf d m = true → Mem.wf d (Mem.write d m a bs) = true
  | [], _, _, h => h
  | b :: bs, _, a, h => Mem.write_wf bs (a + 1) (Mem.set_wf a b h)

theorem Mem.putCells_wf {d : Byte} (f : Host.Cell → Nat) : ∀ (l : List Host.Cell) {m : Mem}, Mem.wf d m = true →
    Mem.wf d (l.foldl (fun m e => Mem.write d m (f e) [e.2]) m) = true
  | [], _, h => h
  | _ :: l, _, h => Mem.putCells_wf f l (Mem.write_wf _ _ h)

theorem Mem.filter_wfFrom {d : Byte} (p : Host.Cell → Bool) : ∀ {m : Mem} {lo : Nat}, Mem.wfFrom d lo m = true →
    Mem.wfFrom d lo (m.filter p) = true
  | [], _, _ => rfl
  | (a, b) :: m, lo, h => by
    simp only [Mem.wfFrom, Bool.and_eq_true, decide_eq_true_eq] at h
    obtain ⟨⟨hla, hb⟩, hm⟩ := h
    rw [List.filter_cons]
    split
    · simp only [Mem.wfFrom, Bool.and_eq_true, decide_eq_true_eq]
      exact ⟨⟨hla, hb⟩, Mem.filter_wfFrom p hm⟩
    · exact Mem.wfFrom_mono (by omega) (Mem.filter_wfFrom p hm)

/-- Dropping entries keeps the canonical form. -/
theorem Mem.filter_wf {d : Byte} {m : Mem} (p : Host.Cell → Bool) (h : Mem.wf d m = true) : Mem.wf d (m.filter p) = true :=
  Mem.filter_wfFrom p h

/-- Clearing a range keeps the canonical form. -/
theorem Mem.clear_wf {d : Byte} {m : Mem} (a n : Nat) (h : Mem.wf d m = true) : Mem.wf d (m.clear a n) = true :=
  Mem.filter_wf _ h

/-! ### What a read finds -/

theorem Mem.get_below {d : Byte} : ∀ {m : Mem} {lo i : Nat}, i < lo → Mem.wfFrom d lo m = true → Mem.get d m i = d
  | [], _, _, _, _ => rfl
  | (a, b) :: m, lo, i, hi, h => by
    simp only [Mem.wfFrom, Bool.and_eq_true, decide_eq_true_eq] at h
    unfold Mem.get
    rw [if_neg (by omega)]
    exact Mem.get_below (by omega) h.2

/-- A byte reads as written. -/
theorem Mem.get_set_self {d : Byte} : ∀ {m : Mem} {lo i : Nat} {v : Byte}, Mem.wfFrom d lo m = true →
    Mem.get d (Mem.set d m i v) i = v
  | [], _, i, v, _ => by
    unfold Mem.set
    split
    · rename_i hv; simp [Mem.get, hv]
    · simp [Mem.get]
  | (a, b) :: m, lo, i, v, h => by
    simp only [Mem.wfFrom, Bool.and_eq_true, decide_eq_true_eq] at h
    obtain ⟨⟨hla, hb⟩, hm⟩ := h
    unfold Mem.set
    split
    · rename_i hai
      subst hai
      split
      · rename_i hv
        rw [hv]; exact Mem.get_below (Nat.lt_succ_self a) hm
      · simp [Mem.get]
    · rename_i hne
      split
      · rename_i hlt
        split
        · rename_i hv
          unfold Mem.get
          rw [if_neg hne, hv]
          exact Mem.get_below (by omega) hm
        · simp [Mem.get]
      · unfold Mem.get
        rw [if_neg hne]
        exact Mem.get_set_self hm

/-- A write leaves every other byte alone. -/
theorem Mem.get_set_other {d : Byte} : ∀ {m : Mem} {lo i j : Nat} {v : Byte}, j ≠ i → Mem.wfFrom d lo m = true →
    Mem.get d (Mem.set d m i v) j = Mem.get d m j
  | [], _, i, j, v, hj, _ => by
    unfold Mem.set
    split
    · rfl
    · simp [Mem.get, Ne.symm hj]
  | (a, b) :: m, lo, i, j, v, hj, h => by
    simp only [Mem.wfFrom, Bool.and_eq_true, decide_eq_true_eq] at h
    obtain ⟨⟨hla, hb⟩, hm⟩ := h
    unfold Mem.set
    split
    · rename_i hai
      subst hai
      split
      · simp [Mem.get, Ne.symm hj]
      · simp [Mem.get, Ne.symm hj]
    · split
      · split
        · rfl
        · simp [Mem.get, Ne.symm hj]
      · simp only [Mem.get]
        split
        · rfl
        · exact Mem.get_set_other hj hm

/-- Bytes outside the stored ones read as before. -/
theorem Mem.get_write_outside {d : Byte} : ∀ (bs : Bytes) {m : Mem} (a j : Nat), Mem.wf d m = true → (j < a ∨ a + bs.length ≤ j) →
    Mem.get d (Mem.write d m a bs) j = Mem.get d m j
  | [], _, _, _, _, _ => rfl
  | b :: bs, m, a, j, h, hj => by
    simp only [List.length_cons] at hj
    rw [Mem.write, Mem.get_write_outside bs (a + 1) j (Mem.set_wf a b h) (by omega)]
    exact Mem.get_set_other (by omega) h

/-- A stored byte reads as written. -/
theorem Mem.get_write_inside {d : Byte} : ∀ (bs : Bytes) {m : Mem} (a i : Nat), Mem.wf d m = true → (hi : i < bs.length) →
    Mem.get d (Mem.write d m a bs) (a + i) = bs[i]
  | [], _, _, i, _, hi => absurd hi (Nat.not_lt_zero i)
  | b :: bs, m, a, 0, h, _ => by
    rw [Mem.write, Mem.get_write_outside bs (a + 1) (a + 0) (Mem.set_wf a b h) (by omega)]
    exact Mem.get_set_self h
  | b :: bs, m, a, i + 1, h, hi => by
    rw [Mem.write, show a + (i + 1) = a + 1 + i by omega]
    exact Mem.get_write_inside bs (a + 1) i (Mem.set_wf a b h) (by simpa using hi)

/-- In every memory, canonical or not, a write leaves every other byte alone. -/
theorem Mem.get_set_ne {d : Byte} {i j : Nat} {v : Byte} (hj : j ≠ i) : ∀ m : Mem, Mem.get d (Mem.set d m i v) j = Mem.get d m j
  | [] => by unfold Mem.set; split <;> simp [Mem.get, Ne.symm hj]
  | (a, b) :: m => by
    unfold Mem.set
    split
    · rename_i hai; subst hai; split <;> simp [Mem.get, Ne.symm hj]
    · split
      · split <;> simp [Mem.get, Ne.symm hj]
      · simp only [Mem.get]
        split
        · rfl
        · exact Mem.get_set_ne hj m

/-- In every memory, canonical or not, bytes outside the stored ones read as before. -/
theorem Mem.get_write_ne {d : Byte} : ∀ (bs : Bytes) (m : Mem) (a j : Nat), (j < a ∨ a + bs.length ≤ j) →
    Mem.get d (Mem.write d m a bs) j = Mem.get d m j
  | [], _, _, _, _ => rfl
  | b :: bs, m, a, j, hj => by
    simp only [List.length_cons] at hj
    rw [Mem.write, Mem.get_write_ne bs _ (a + 1) j (by omega)]
    exact Mem.get_set_ne (by omega) m

/-! ### Tables -/

theorem Tab.find_set_self {α : Type} : ∀ (t : Tab α) (i : Nat) (v : α), Tab.find (Tab.set t i v) i = some v
  | [], i, v => by simp [Tab.set, Tab.find]
  | (k, w) :: t, i, v => by
    unfold Tab.set
    split
    · simp [Tab.find]
    · split
      · simp [Tab.find]
      · rename_i hk _
        simp only [Tab.find, if_neg hk]
        exact Tab.find_set_self t i v

theorem Tab.find_set_other {α : Type} : ∀ (t : Tab α) {i j : Nat} (v : α), j ≠ i → Tab.find (Tab.set t i v) j = Tab.find t j
  | [], i, j, v, h => by simp [Tab.set, Tab.find, Ne.symm h]
  | (k, w) :: t, i, j, v, h => by
    unfold Tab.set
    split
    · rename_i hk
      subst hk
      simp [Tab.find, Ne.symm h]
    · split
      · simp [Tab.find, Ne.symm h]
      · simp only [Tab.find]
        split
        · rfl
        · exact Tab.find_set_other t v h

/-- A key reads as set. -/
@[simp] theorem Tab.get_set_self {α : Type} (d : α) (t : Tab α) (i : Nat) (v : α) : Tab.get d (Tab.set t i v) i = v := by
  simp [Tab.get, Tab.find_set_self]

/-- Setting a key leaves every other key alone. -/
theorem Tab.get_set_other {α : Type} (d : α) (t : Tab α) {i j : Nat} (v : α) (h : j ≠ i) :
    Tab.get d (Tab.set t i v) j = Tab.get d t j := by
  simp [Tab.get, Tab.find_set_other t v h]

/-- What stands under a key after a set. -/
theorem Tab.get_set {α : Type} (d : α) (t : Tab α) (i j : Nat) (v : α) :
    Tab.get d (Tab.set t i v) j = if j = i then v else Tab.get d t j := by
  split
  · rename_i h; subst h; exact Tab.get_set_self d t j v
  · rename_i h; exact Tab.get_set_other d t v h

/-- A key reads as changed. -/
@[simp] theorem Tab.get_upd_self {α : Type} (d : α) (t : Tab α) (i : Nat) (f : α → α) :
    Tab.get d (Tab.upd d t i f) i = f (Tab.get d t i) := Tab.get_set_self d t i _

/-- Changing a key leaves every other key alone. -/
theorem Tab.get_upd_other {α : Type} (d : α) (t : Tab α) {i j : Nat} (f : α → α) (h : j ≠ i) :
    Tab.get d (Tab.upd d t i f) j = Tab.get d t j := Tab.get_set_other d t _ h

end Sys2Proof.Machine
end

