-- ==== Sys2Proof/Laws/State.lean ====
section
/-! SUPPORT. What the updates of State leave in each field: one lemma per field per update, so that no proof unfolds a record update;
and what a part of a table reads as after one. -/

namespace Sys2Proof.Machine

open Sys2Proof

/-! ### withClock -/

@[simp] theorem State.withClock_pending (s : State) (f : Clock → Clock) : (s.withClock f).pending = s.pending := rfl
@[simp] theorem State.withClock_free (s : State) (f : Clock → Clock) : (s.withClock f).free = s.free := rfl
@[simp] theorem State.withClock_power (s : State) (f : Clock → Clock) : (s.withClock f).power = s.power := rfl
@[simp] theorem State.withClock_clock (s : State) (f : Clock → Clock) : (s.withClock f).clock = f s.clock := rfl
@[simp] theorem State.withClock_islands (s : State) (f : Clock → Clock) : (s.withClock f).islands = s.islands := rfl
@[simp] theorem State.withClock_evr (s : State) (f : Clock → Clock) : (s.withClock f).evr = s.evr := rfl
@[simp] theorem State.withClock_mode (s : State) (f : Clock → Clock) : (s.withClock f).mode = s.mode := rfl
@[simp] theorem State.withClock_link (s : State) (f : Clock → Clock) : (s.withClock f).link = s.link := rfl
@[simp] theorem State.withClock_parts (s : State) (f : Clock → Clock) : (s.withClock f).parts = s.parts := rfl
@[simp] theorem State.withClock_rings (s : State) (f : Clock → Clock) : (s.withClock f).rings = s.rings := rfl
@[simp] theorem State.withClock_jobs (s : State) (f : Clock → Clock) : (s.withClock f).jobs = s.jobs := rfl
@[simp] theorem State.withClock_nextJob (s : State) (f : Clock → Clock) : (s.withClock f).nextJob = s.nextJob := rfl
@[simp] theorem State.withClock_intake (s : State) (f : Clock → Clock) : (s.withClock f).intake = s.intake := rfl
@[simp] theorem State.withClock_disp (s : State) (f : Clock → Clock) : (s.withClock f).disp = s.disp := rfl
@[simp] theorem State.withClock_lanes (s : State) (f : Clock → Clock) : (s.withClock f).lanes = s.lanes := rfl
@[simp] theorem State.withClock_meter (s : State) (f : Clock → Clock) : (s.withClock f).meter = s.meter := rfl
@[simp] theorem State.withClock_guards (s : State) (f : Clock → Clock) : (s.withClock f).guards = s.guards := rfl
@[simp] theorem State.withClock_guardSt (s : State) (f : Clock → Clock) : (s.withClock f).guardSt = s.guardSt := rfl
@[simp] theorem State.withClock_tamper (s : State) (f : Clock → Clock) : (s.withClock f).tamper = s.tamper := rfl
@[simp] theorem State.withClock_mgmt (s : State) (f : Clock → Clock) : (s.withClock f).mgmt = s.mgmt := rfl
@[simp] theorem State.withClock_keys (s : State) (f : Clock → Clock) : (s.withClock f).keys = s.keys := rfl
@[simp] theorem State.withClock_rng (s : State) (f : Clock → Clock) : (s.withClock f).rng = s.rng := rfl
@[simp] theorem State.withClock_dma (s : State) (f : Clock → Clock) : (s.withClock f).dma = s.dma := rfl
@[simp] theorem State.withClock_code (s : State) (f : Clock → Clock) : (s.withClock f).code = s.code := rfl
@[simp] theorem State.withClock_vault (s : State) (f : Clock → Clock) : (s.withClock f).vault = s.vault := rfl
@[simp] theorem State.withClock_verb (s : State) (f : Clock → Clock) : (s.withClock f).verb = s.verb := rfl
@[simp] theorem State.withClock_appr (s : State) (f : Clock → Clock) : (s.withClock f).appr = s.appr := rfl
@[simp] theorem State.withClock_tag (s : State) (f : Clock → Clock) : (s.withClock f).tag = s.tag := rfl
@[simp] theorem State.withClock_life (s : State) (f : Clock → Clock) : (s.withClock f).life = s.life := rfl
@[simp] theorem State.withClock_stood (s : State) (f : Clock → Clock) : (s.withClock f).stood = s.stood := rfl
@[simp] theorem State.withClock_gls (s : State) (f : Clock → Clock) : (s.withClock f).gls = s.gls := rfl
@[simp] theorem State.withClock_mem (s : State) (f : Clock → Clock) : (s.withClock f).mem = s.mem := rfl
@[simp] theorem State.withClock_codeFlash (s : State) (f : Clock → Clock) : (s.withClock f).codeFlash = s.codeFlash := rfl
@[simp] theorem State.withClock_barMem (s : State) (f : Clock → Clock) : (s.withClock f).barMem = s.barMem := rfl
@[simp] theorem State.withClock_hostMem (s : State) (f : Clock → Clock) : (s.withClock f).hostMem = s.hostMem := rfl

/-! ### withEvr -/

@[simp] theorem State.withEvr_pending (s : State) (f : Recorder → Recorder) : (s.withEvr f).pending = s.pending := rfl
@[simp] theorem State.withEvr_free (s : State) (f : Recorder → Recorder) : (s.withEvr f).free = s.free := rfl
@[simp] theorem State.withEvr_power (s : State) (f : Recorder → Recorder) : (s.withEvr f).power = s.power := rfl
@[simp] theorem State.withEvr_clock (s : State) (f : Recorder → Recorder) : (s.withEvr f).clock = s.clock := rfl
@[simp] theorem State.withEvr_islands (s : State) (f : Recorder → Recorder) : (s.withEvr f).islands = s.islands := rfl
@[simp] theorem State.withEvr_evr (s : State) (f : Recorder → Recorder) : (s.withEvr f).evr = f s.evr := rfl
@[simp] theorem State.withEvr_mode (s : State) (f : Recorder → Recorder) : (s.withEvr f).mode = s.mode := rfl
@[simp] theorem State.withEvr_link (s : State) (f : Recorder → Recorder) : (s.withEvr f).link = s.link := rfl
@[simp] theorem State.withEvr_parts (s : State) (f : Recorder → Recorder) : (s.withEvr f).parts = s.parts := rfl
@[simp] theorem State.withEvr_rings (s : State) (f : Recorder → Recorder) : (s.withEvr f).rings = s.rings := rfl
@[simp] theorem State.withEvr_jobs (s : State) (f : Recorder → Recorder) : (s.withEvr f).jobs = s.jobs := rfl
@[simp] theorem State.withEvr_nextJob (s : State) (f : Recorder → Recorder) : (s.withEvr f).nextJob = s.nextJob := rfl
@[simp] theorem State.withEvr_intake (s : State) (f : Recorder → Recorder) : (s.withEvr f).intake = s.intake := rfl
@[simp] theorem State.withEvr_disp (s : State) (f : Recorder → Recorder) : (s.withEvr f).disp = s.disp := rfl
@[simp] theorem State.withEvr_lanes (s : State) (f : Recorder → Recorder) : (s.withEvr f).lanes = s.lanes := rfl
@[simp] theorem State.withEvr_meter (s : State) (f : Recorder → Recorder) : (s.withEvr f).meter = s.meter := rfl
@[simp] theorem State.withEvr_guards (s : State) (f : Recorder → Recorder) : (s.withEvr f).guards = s.guards := rfl
@[simp] theorem State.withEvr_guardSt (s : State) (f : Recorder → Recorder) : (s.withEvr f).guardSt = s.guardSt := rfl
@[simp] theorem State.withEvr_tamper (s : State) (f : Recorder → Recorder) : (s.withEvr f).tamper = s.tamper := rfl
@[simp] theorem State.withEvr_mgmt (s : State) (f : Recorder → Recorder) : (s.withEvr f).mgmt = s.mgmt := rfl
@[simp] theorem State.withEvr_keys (s : State) (f : Recorder → Recorder) : (s.withEvr f).keys = s.keys := rfl
@[simp] theorem State.withEvr_rng (s : State) (f : Recorder → Recorder) : (s.withEvr f).rng = s.rng := rfl
@[simp] theorem State.withEvr_dma (s : State) (f : Recorder → Recorder) : (s.withEvr f).dma = s.dma := rfl
@[simp] theorem State.withEvr_code (s : State) (f : Recorder → Recorder) : (s.withEvr f).code = s.code := rfl
@[simp] theorem State.withEvr_vault (s : State) (f : Recorder → Recorder) : (s.withEvr f).vault = s.vault := rfl
@[simp] theorem State.withEvr_verb (s : State) (f : Recorder → Recorder) : (s.withEvr f).verb = s.verb := rfl
@[simp] theorem State.withEvr_appr (s : State) (f : Recorder → Recorder) : (s.withEvr f).appr = s.appr := rfl
@[simp] theorem State.withEvr_tag (s : State) (f : Recorder → Recorder) : (s.withEvr f).tag = s.tag := rfl
@[simp] theorem State.withEvr_life (s : State) (f : Recorder → Recorder) : (s.withEvr f).life = s.life := rfl
@[simp] theorem State.withEvr_stood (s : State) (f : Recorder → Recorder) : (s.withEvr f).stood = s.stood := rfl
@[simp] theorem State.withEvr_gls (s : State) (f : Recorder → Recorder) : (s.withEvr f).gls = s.gls := rfl
@[simp] theorem State.withEvr_mem (s : State) (f : Recorder → Recorder) : (s.withEvr f).mem = s.mem := rfl
@[simp] theorem State.withEvr_codeFlash (s : State) (f : Recorder → Recorder) : (s.withEvr f).codeFlash = s.codeFlash := rfl
@[simp] theorem State.withEvr_barMem (s : State) (f : Recorder → Recorder) : (s.withEvr f).barMem = s.barMem := rfl
@[simp] theorem State.withEvr_hostMem (s : State) (f : Recorder → Recorder) : (s.withEvr f).hostMem = s.hostMem := rfl

/-! ### withMode -/

@[simp] theorem State.withMode_pending (s : State) (f : ModeSt → ModeSt) : (s.withMode f).pending = s.pending := rfl
@[simp] theorem State.withMode_free (s : State) (f : ModeSt → ModeSt) : (s.withMode f).free = s.free := rfl
@[simp] theorem State.withMode_power (s : State) (f : ModeSt → ModeSt) : (s.withMode f).power = s.power := rfl
@[simp] theorem State.withMode_clock (s : State) (f : ModeSt → ModeSt) : (s.withMode f).clock = s.clock := rfl
@[simp] theorem State.withMode_islands (s : State) (f : ModeSt → ModeSt) : (s.withMode f).islands = s.islands := rfl
@[simp] theorem State.withMode_evr (s : State) (f : ModeSt → ModeSt) : (s.withMode f).evr = s.evr := rfl
@[simp] theorem State.withMode_mode (s : State) (f : ModeSt → ModeSt) : (s.withMode f).mode = f s.mode := rfl
@[simp] theorem State.withMode_link (s : State) (f : ModeSt → ModeSt) : (s.withMode f).link = s.link := rfl
@[simp] theorem State.withMode_parts (s : State) (f : ModeSt → ModeSt) : (s.withMode f).parts = s.parts := rfl
@[simp] theorem State.withMode_rings (s : State) (f : ModeSt → ModeSt) : (s.withMode f).rings = s.rings := rfl
@[simp] theorem State.withMode_jobs (s : State) (f : ModeSt → ModeSt) : (s.withMode f).jobs = s.jobs := rfl
@[simp] theorem State.withMode_nextJob (s : State) (f : ModeSt → ModeSt) : (s.withMode f).nextJob = s.nextJob := rfl
@[simp] theorem State.withMode_intake (s : State) (f : ModeSt → ModeSt) : (s.withMode f).intake = s.intake := rfl
@[simp] theorem State.withMode_disp (s : State) (f : ModeSt → ModeSt) : (s.withMode f).disp = s.disp := rfl
@[simp] theorem State.withMode_lanes (s : State) (f : ModeSt → ModeSt) : (s.withMode f).lanes = s.lanes := rfl
@[simp] theorem State.withMode_meter (s : State) (f : ModeSt → ModeSt) : (s.withMode f).meter = s.meter := rfl
@[simp] theorem State.withMode_guards (s : State) (f : ModeSt → ModeSt) : (s.withMode f).guards = s.guards := rfl
@[simp] theorem State.withMode_guardSt (s : State) (f : ModeSt → ModeSt) : (s.withMode f).guardSt = s.guardSt := rfl
@[simp] theorem State.withMode_tamper (s : State) (f : ModeSt → ModeSt) : (s.withMode f).tamper = s.tamper := rfl
@[simp] theorem State.withMode_mgmt (s : State) (f : ModeSt → ModeSt) : (s.withMode f).mgmt = s.mgmt := rfl
@[simp] theorem State.withMode_keys (s : State) (f : ModeSt → ModeSt) : (s.withMode f).keys = s.keys := rfl
@[simp] theorem State.withMode_rng (s : State) (f : ModeSt → ModeSt) : (s.withMode f).rng = s.rng := rfl
@[simp] theorem State.withMode_dma (s : State) (f : ModeSt → ModeSt) : (s.withMode f).dma = s.dma := rfl
@[simp] theorem State.withMode_code (s : State) (f : ModeSt → ModeSt) : (s.withMode f).code = s.code := rfl
@[simp] theorem State.withMode_vault (s : State) (f : ModeSt → ModeSt) : (s.withMode f).vault = s.vault := rfl
@[simp] theorem State.withMode_verb (s : State) (f : ModeSt → ModeSt) : (s.withMode f).verb = s.verb := rfl
@[simp] theorem State.withMode_appr (s : State) (f : ModeSt → ModeSt) : (s.withMode f).appr = s.appr := rfl
@[simp] theorem State.withMode_tag (s : State) (f : ModeSt → ModeSt) : (s.withMode f).tag = s.tag := rfl
@[simp] theorem State.withMode_life (s : State) (f : ModeSt → ModeSt) : (s.withMode f).life = s.life := rfl
@[simp] theorem State.withMode_stood (s : State) (f : ModeSt → ModeSt) : (s.withMode f).stood = s.stood := rfl
@[simp] theorem State.withMode_gls (s : State) (f : ModeSt → ModeSt) : (s.withMode f).gls = s.gls := rfl
@[simp] theorem State.withMode_mem (s : State) (f : ModeSt → ModeSt) : (s.withMode f).mem = s.mem := rfl
@[simp] theorem State.withMode_codeFlash (s : State) (f : ModeSt → ModeSt) : (s.withMode f).codeFlash = s.codeFlash := rfl
@[simp] theorem State.withMode_barMem (s : State) (f : ModeSt → ModeSt) : (s.withMode f).barMem = s.barMem := rfl
@[simp] theorem State.withMode_hostMem (s : State) (f : ModeSt → ModeSt) : (s.withMode f).hostMem = s.hostMem := rfl

/-! ### withLink -/

@[simp] theorem State.withLink_pending (s : State) (f : Link → Link) : (s.withLink f).pending = s.pending := rfl
@[simp] theorem State.withLink_free (s : State) (f : Link → Link) : (s.withLink f).free = s.free := rfl
@[simp] theorem State.withLink_power (s : State) (f : Link → Link) : (s.withLink f).power = s.power := rfl
@[simp] theorem State.withLink_clock (s : State) (f : Link → Link) : (s.withLink f).clock = s.clock := rfl
@[simp] theorem State.withLink_islands (s : State) (f : Link → Link) : (s.withLink f).islands = s.islands := rfl
@[simp] theorem State.withLink_evr (s : State) (f : Link → Link) : (s.withLink f).evr = s.evr := rfl
@[simp] theorem State.withLink_mode (s : State) (f : Link → Link) : (s.withLink f).mode = s.mode := rfl
@[simp] theorem State.withLink_link (s : State) (f : Link → Link) : (s.withLink f).link = f s.link := rfl
@[simp] theorem State.withLink_parts (s : State) (f : Link → Link) : (s.withLink f).parts = s.parts := rfl
@[simp] theorem State.withLink_rings (s : State) (f : Link → Link) : (s.withLink f).rings = s.rings := rfl
@[simp] theorem State.withLink_jobs (s : State) (f : Link → Link) : (s.withLink f).jobs = s.jobs := rfl
@[simp] theorem State.withLink_nextJob (s : State) (f : Link → Link) : (s.withLink f).nextJob = s.nextJob := rfl
@[simp] theorem State.withLink_intake (s : State) (f : Link → Link) : (s.withLink f).intake = s.intake := rfl
@[simp] theorem State.withLink_disp (s : State) (f : Link → Link) : (s.withLink f).disp = s.disp := rfl
@[simp] theorem State.withLink_lanes (s : State) (f : Link → Link) : (s.withLink f).lanes = s.lanes := rfl
@[simp] theorem State.withLink_meter (s : State) (f : Link → Link) : (s.withLink f).meter = s.meter := rfl
@[simp] theorem State.withLink_guards (s : State) (f : Link → Link) : (s.withLink f).guards = s.guards := rfl
@[simp] theorem State.withLink_guardSt (s : State) (f : Link → Link) : (s.withLink f).guardSt = s.guardSt := rfl
@[simp] theorem State.withLink_tamper (s : State) (f : Link → Link) : (s.withLink f).tamper = s.tamper := rfl
@[simp] theorem State.withLink_mgmt (s : State) (f : Link → Link) : (s.withLink f).mgmt = s.mgmt := rfl
@[simp] theorem State.withLink_keys (s : State) (f : Link → Link) : (s.withLink f).keys = s.keys := rfl
@[simp] theorem State.withLink_rng (s : State) (f : Link → Link) : (s.withLink f).rng = s.rng := rfl
@[simp] theorem State.withLink_dma (s : State) (f : Link → Link) : (s.withLink f).dma = s.dma := rfl
@[simp] theorem State.withLink_code (s : State) (f : Link → Link) : (s.withLink f).code = s.code := rfl
@[simp] theorem State.withLink_vault (s : State) (f : Link → Link) : (s.withLink f).vault = s.vault := rfl
@[simp] theorem State.withLink_verb (s : State) (f : Link → Link) : (s.withLink f).verb = s.verb := rfl
@[simp] theorem State.withLink_appr (s : State) (f : Link → Link) : (s.withLink f).appr = s.appr := rfl
@[simp] theorem State.withLink_tag (s : State) (f : Link → Link) : (s.withLink f).tag = s.tag := rfl
@[simp] theorem State.withLink_life (s : State) (f : Link → Link) : (s.withLink f).life = s.life := rfl
@[simp] theorem State.withLink_stood (s : State) (f : Link → Link) : (s.withLink f).stood = s.stood := rfl
@[simp] theorem State.withLink_gls (s : State) (f : Link → Link) : (s.withLink f).gls = s.gls := rfl
@[simp] theorem State.withLink_mem (s : State) (f : Link → Link) : (s.withLink f).mem = s.mem := rfl
@[simp] theorem State.withLink_codeFlash (s : State) (f : Link → Link) : (s.withLink f).codeFlash = s.codeFlash := rfl
@[simp] theorem State.withLink_barMem (s : State) (f : Link → Link) : (s.withLink f).barMem = s.barMem := rfl
@[simp] theorem State.withLink_hostMem (s : State) (f : Link → Link) : (s.withLink f).hostMem = s.hostMem := rfl

/-! ### withPower -/

@[simp] theorem State.withPower_pending (s : State) (f : Power → Power) : (s.withPower f).pending = s.pending := rfl
@[simp] theorem State.withPower_free (s : State) (f : Power → Power) : (s.withPower f).free = s.free := rfl
@[simp] theorem State.withPower_power (s : State) (f : Power → Power) : (s.withPower f).power = f s.power := rfl
@[simp] theorem State.withPower_clock (s : State) (f : Power → Power) : (s.withPower f).clock = s.clock := rfl
@[simp] theorem State.withPower_islands (s : State) (f : Power → Power) : (s.withPower f).islands = s.islands := rfl
@[simp] theorem State.withPower_evr (s : State) (f : Power → Power) : (s.withPower f).evr = s.evr := rfl
@[simp] theorem State.withPower_mode (s : State) (f : Power → Power) : (s.withPower f).mode = s.mode := rfl
@[simp] theorem State.withPower_link (s : State) (f : Power → Power) : (s.withPower f).link = s.link := rfl
@[simp] theorem State.withPower_parts (s : State) (f : Power → Power) : (s.withPower f).parts = s.parts := rfl
@[simp] theorem State.withPower_rings (s : State) (f : Power → Power) : (s.withPower f).rings = s.rings := rfl
@[simp] theorem State.withPower_jobs (s : State) (f : Power → Power) : (s.withPower f).jobs = s.jobs := rfl
@[simp] theorem State.withPower_nextJob (s : State) (f : Power → Power) : (s.withPower f).nextJob = s.nextJob := rfl
@[simp] theorem State.withPower_intake (s : State) (f : Power → Power) : (s.withPower f).intake = s.intake := rfl
@[simp] theorem State.withPower_disp (s : State) (f : Power → Power) : (s.withPower f).disp = s.disp := rfl
@[simp] theorem State.withPower_lanes (s : State) (f : Power → Power) : (s.withPower f).lanes = s.lanes := rfl
@[simp] theorem State.withPower_meter (s : State) (f : Power → Power) : (s.withPower f).meter = s.meter := rfl
@[simp] theorem State.withPower_guards (s : State) (f : Power → Power) : (s.withPower f).guards = s.guards := rfl
@[simp] theorem State.withPower_guardSt (s : State) (f : Power → Power) : (s.withPower f).guardSt = s.guardSt := rfl
@[simp] theorem State.withPower_tamper (s : State) (f : Power → Power) : (s.withPower f).tamper = s.tamper := rfl
@[simp] theorem State.withPower_mgmt (s : State) (f : Power → Power) : (s.withPower f).mgmt = s.mgmt := rfl
@[simp] theorem State.withPower_keys (s : State) (f : Power → Power) : (s.withPower f).keys = s.keys := rfl
@[simp] theorem State.withPower_rng (s : State) (f : Power → Power) : (s.withPower f).rng = s.rng := rfl
@[simp] theorem State.withPower_dma (s : State) (f : Power → Power) : (s.withPower f).dma = s.dma := rfl
@[simp] theorem State.withPower_code (s : State) (f : Power → Power) : (s.withPower f).code = s.code := rfl
@[simp] theorem State.withPower_vault (s : State) (f : Power → Power) : (s.withPower f).vault = s.vault := rfl
@[simp] theorem State.withPower_verb (s : State) (f : Power → Power) : (s.withPower f).verb = s.verb := rfl
@[simp] theorem State.withPower_appr (s : State) (f : Power → Power) : (s.withPower f).appr = s.appr := rfl
@[simp] theorem State.withPower_tag (s : State) (f : Power → Power) : (s.withPower f).tag = s.tag := rfl
@[simp] theorem State.withPower_life (s : State) (f : Power → Power) : (s.withPower f).life = s.life := rfl
@[simp] theorem State.withPower_stood (s : State) (f : Power → Power) : (s.withPower f).stood = s.stood := rfl
@[simp] theorem State.withPower_gls (s : State) (f : Power → Power) : (s.withPower f).gls = s.gls := rfl
@[simp] theorem State.withPower_mem (s : State) (f : Power → Power) : (s.withPower f).mem = s.mem := rfl
@[simp] theorem State.withPower_codeFlash (s : State) (f : Power → Power) : (s.withPower f).codeFlash = s.codeFlash := rfl
@[simp] theorem State.withPower_barMem (s : State) (f : Power → Power) : (s.withPower f).barMem = s.barMem := rfl
@[simp] theorem State.withPower_hostMem (s : State) (f : Power → Power) : (s.withPower f).hostMem = s.hostMem := rfl

/-! ### withTamper -/

@[simp] theorem State.withTamper_pending (s : State) (f : Tamper → Tamper) : (s.withTamper f).pending = s.pending := rfl
@[simp] theorem State.withTamper_free (s : State) (f : Tamper → Tamper) : (s.withTamper f).free = s.free := rfl
@[simp] theorem State.withTamper_power (s : State) (f : Tamper → Tamper) : (s.withTamper f).power = s.power := rfl
@[simp] theorem State.withTamper_clock (s : State) (f : Tamper → Tamper) : (s.withTamper f).clock = s.clock := rfl
@[simp] theorem State.withTamper_islands (s : State) (f : Tamper → Tamper) : (s.withTamper f).islands = s.islands := rfl
@[simp] theorem State.withTamper_evr (s : State) (f : Tamper → Tamper) : (s.withTamper f).evr = s.evr := rfl
@[simp] theorem State.withTamper_mode (s : State) (f : Tamper → Tamper) : (s.withTamper f).mode = s.mode := rfl
@[simp] theorem State.withTamper_link (s : State) (f : Tamper → Tamper) : (s.withTamper f).link = s.link := rfl
@[simp] theorem State.withTamper_parts (s : State) (f : Tamper → Tamper) : (s.withTamper f).parts = s.parts := rfl
@[simp] theorem State.withTamper_rings (s : State) (f : Tamper → Tamper) : (s.withTamper f).rings = s.rings := rfl
@[simp] theorem State.withTamper_jobs (s : State) (f : Tamper → Tamper) : (s.withTamper f).jobs = s.jobs := rfl
@[simp] theorem State.withTamper_nextJob (s : State) (f : Tamper → Tamper) : (s.withTamper f).nextJob = s.nextJob := rfl
@[simp] theorem State.withTamper_intake (s : State) (f : Tamper → Tamper) : (s.withTamper f).intake = s.intake := rfl
@[simp] theorem State.withTamper_disp (s : State) (f : Tamper → Tamper) : (s.withTamper f).disp = s.disp := rfl
@[simp] theorem State.withTamper_lanes (s : State) (f : Tamper → Tamper) : (s.withTamper f).lanes = s.lanes := rfl
@[simp] theorem State.withTamper_meter (s : State) (f : Tamper → Tamper) : (s.withTamper f).meter = s.meter := rfl
@[simp] theorem State.withTamper_guards (s : State) (f : Tamper → Tamper) : (s.withTamper f).guards = s.guards := rfl
@[simp] theorem State.withTamper_guardSt (s : State) (f : Tamper → Tamper) : (s.withTamper f).guardSt = s.guardSt := rfl
@[simp] theorem State.withTamper_tamper (s : State) (f : Tamper → Tamper) : (s.withTamper f).tamper = f s.tamper := rfl
@[simp] theorem State.withTamper_mgmt (s : State) (f : Tamper → Tamper) : (s.withTamper f).mgmt = s.mgmt := rfl
@[simp] theorem State.withTamper_keys (s : State) (f : Tamper → Tamper) : (s.withTamper f).keys = s.keys := rfl
@[simp] theorem State.withTamper_rng (s : State) (f : Tamper → Tamper) : (s.withTamper f).rng = s.rng := rfl
@[simp] theorem State.withTamper_dma (s : State) (f : Tamper → Tamper) : (s.withTamper f).dma = s.dma := rfl
@[simp] theorem State.withTamper_code (s : State) (f : Tamper → Tamper) : (s.withTamper f).code = s.code := rfl
@[simp] theorem State.withTamper_vault (s : State) (f : Tamper → Tamper) : (s.withTamper f).vault = s.vault := rfl
@[simp] theorem State.withTamper_verb (s : State) (f : Tamper → Tamper) : (s.withTamper f).verb = s.verb := rfl
@[simp] theorem State.withTamper_appr (s : State) (f : Tamper → Tamper) : (s.withTamper f).appr = s.appr := rfl
@[simp] theorem State.withTamper_tag (s : State) (f : Tamper → Tamper) : (s.withTamper f).tag = s.tag := rfl
@[simp] theorem State.withTamper_life (s : State) (f : Tamper → Tamper) : (s.withTamper f).life = s.life := rfl
@[simp] theorem State.withTamper_stood (s : State) (f : Tamper → Tamper) : (s.withTamper f).stood = s.stood := rfl
@[simp] theorem State.withTamper_gls (s : State) (f : Tamper → Tamper) : (s.withTamper f).gls = s.gls := rfl
@[simp] theorem State.withTamper_mem (s : State) (f : Tamper → Tamper) : (s.withTamper f).mem = s.mem := rfl
@[simp] theorem State.withTamper_codeFlash (s : State) (f : Tamper → Tamper) : (s.withTamper f).codeFlash = s.codeFlash := rfl
@[simp] theorem State.withTamper_barMem (s : State) (f : Tamper → Tamper) : (s.withTamper f).barMem = s.barMem := rfl
@[simp] theorem State.withTamper_hostMem (s : State) (f : Tamper → Tamper) : (s.withTamper f).hostMem = s.hostMem := rfl

/-! ### withMgmt -/

@[simp] theorem State.withMgmt_pending (s : State) (f : Mgmt → Mgmt) : (s.withMgmt f).pending = s.pending := rfl
@[simp] theorem State.withMgmt_free (s : State) (f : Mgmt → Mgmt) : (s.withMgmt f).free = s.free := rfl
@[simp] theorem State.withMgmt_power (s : State) (f : Mgmt → Mgmt) : (s.withMgmt f).power = s.power := rfl
@[simp] theorem State.withMgmt_clock (s : State) (f : Mgmt → Mgmt) : (s.withMgmt f).clock = s.clock := rfl
@[simp] theorem State.withMgmt_islands (s : State) (f : Mgmt → Mgmt) : (s.withMgmt f).islands = s.islands := rfl
@[simp] theorem State.withMgmt_evr (s : State) (f : Mgmt → Mgmt) : (s.withMgmt f).evr = s.evr := rfl
@[simp] theorem State.withMgmt_mode (s : State) (f : Mgmt → Mgmt) : (s.withMgmt f).mode = s.mode := rfl
@[simp] theorem State.withMgmt_link (s : State) (f : Mgmt → Mgmt) : (s.withMgmt f).link = s.link := rfl
@[simp] theorem State.withMgmt_parts (s : State) (f : Mgmt → Mgmt) : (s.withMgmt f).parts = s.parts := rfl
@[simp] theorem State.withMgmt_rings (s : State) (f : Mgmt → Mgmt) : (s.withMgmt f).rings = s.rings := rfl
@[simp] theorem State.withMgmt_jobs (s : State) (f : Mgmt → Mgmt) : (s.withMgmt f).jobs = s.jobs := rfl
@[simp] theorem State.withMgmt_nextJob (s : State) (f : Mgmt → Mgmt) : (s.withMgmt f).nextJob = s.nextJob := rfl
@[simp] theorem State.withMgmt_intake (s : State) (f : Mgmt → Mgmt) : (s.withMgmt f).intake = s.intake := rfl
@[simp] theorem State.withMgmt_disp (s : State) (f : Mgmt → Mgmt) : (s.withMgmt f).disp = s.disp := rfl
@[simp] theorem State.withMgmt_lanes (s : State) (f : Mgmt → Mgmt) : (s.withMgmt f).lanes = s.lanes := rfl
@[simp] theorem State.withMgmt_meter (s : State) (f : Mgmt → Mgmt) : (s.withMgmt f).meter = s.meter := rfl
@[simp] theorem State.withMgmt_guards (s : State) (f : Mgmt → Mgmt) : (s.withMgmt f).guards = s.guards := rfl
@[simp] theorem State.withMgmt_guardSt (s : State) (f : Mgmt → Mgmt) : (s.withMgmt f).guardSt = s.guardSt := rfl
@[simp] theorem State.withMgmt_tamper (s : State) (f : Mgmt → Mgmt) : (s.withMgmt f).tamper = s.tamper := rfl
@[simp] theorem State.withMgmt_mgmt (s : State) (f : Mgmt → Mgmt) : (s.withMgmt f).mgmt = f s.mgmt := rfl
@[simp] theorem State.withMgmt_keys (s : State) (f : Mgmt → Mgmt) : (s.withMgmt f).keys = s.keys := rfl
@[simp] theorem State.withMgmt_rng (s : State) (f : Mgmt → Mgmt) : (s.withMgmt f).rng = s.rng := rfl
@[simp] theorem State.withMgmt_dma (s : State) (f : Mgmt → Mgmt) : (s.withMgmt f).dma = s.dma := rfl
@[simp] theorem State.withMgmt_code (s : State) (f : Mgmt → Mgmt) : (s.withMgmt f).code = s.code := rfl
@[simp] theorem State.withMgmt_vault (s : State) (f : Mgmt → Mgmt) : (s.withMgmt f).vault = s.vault := rfl
@[simp] theorem State.withMgmt_verb (s : State) (f : Mgmt → Mgmt) : (s.withMgmt f).verb = s.verb := rfl
@[simp] theorem State.withMgmt_appr (s : State) (f : Mgmt → Mgmt) : (s.withMgmt f).appr = s.appr := rfl
@[simp] theorem State.withMgmt_tag (s : State) (f : Mgmt → Mgmt) : (s.withMgmt f).tag = s.tag := rfl
@[simp] theorem State.withMgmt_life (s : State) (f : Mgmt → Mgmt) : (s.withMgmt f).life = s.life := rfl
@[simp] theorem State.withMgmt_stood (s : State) (f : Mgmt → Mgmt) : (s.withMgmt f).stood = s.stood := rfl
@[simp] theorem State.withMgmt_gls (s : State) (f : Mgmt → Mgmt) : (s.withMgmt f).gls = s.gls := rfl
@[simp] theorem State.withMgmt_mem (s : State) (f : Mgmt → Mgmt) : (s.withMgmt f).mem = s.mem := rfl
@[simp] theorem State.withMgmt_codeFlash (s : State) (f : Mgmt → Mgmt) : (s.withMgmt f).codeFlash = s.codeFlash := rfl
@[simp] theorem State.withMgmt_barMem (s : State) (f : Mgmt → Mgmt) : (s.withMgmt f).barMem = s.barMem := rfl
@[simp] theorem State.withMgmt_hostMem (s : State) (f : Mgmt → Mgmt) : (s.withMgmt f).hostMem = s.hostMem := rfl

/-! ### withKeys -/

@[simp] theorem State.withKeys_pending (s : State) (f : KeyStore → KeyStore) : (s.withKeys f).pending = s.pending := rfl
@[simp] theorem State.withKeys_free (s : State) (f : KeyStore → KeyStore) : (s.withKeys f).free = s.free := rfl
@[simp] theorem State.withKeys_power (s : State) (f : KeyStore → KeyStore) : (s.withKeys f).power = s.power := rfl
@[simp] theorem State.withKeys_clock (s : State) (f : KeyStore → KeyStore) : (s.withKeys f).clock = s.clock := rfl
@[simp] theorem State.withKeys_islands (s : State) (f : KeyStore → KeyStore) : (s.withKeys f).islands = s.islands := rfl
@[simp] theorem State.withKeys_evr (s : State) (f : KeyStore → KeyStore) : (s.withKeys f).evr = s.evr := rfl
@[simp] theorem State.withKeys_mode (s : State) (f : KeyStore → KeyStore) : (s.withKeys f).mode = s.mode := rfl
@[simp] theorem State.withKeys_link (s : State) (f : KeyStore → KeyStore) : (s.withKeys f).link = s.link := rfl
@[simp] theorem State.withKeys_parts (s : State) (f : KeyStore → KeyStore) : (s.withKeys f).parts = s.parts := rfl
@[simp] theorem State.withKeys_rings (s : State) (f : KeyStore → KeyStore) : (s.withKeys f).rings = s.rings := rfl
@[simp] theorem State.withKeys_jobs (s : State) (f : KeyStore → KeyStore) : (s.withKeys f).jobs = s.jobs := rfl
@[simp] theorem State.withKeys_nextJob (s : State) (f : KeyStore → KeyStore) : (s.withKeys f).nextJob = s.nextJob := rfl
@[simp] theorem State.withKeys_intake (s : State) (f : KeyStore → KeyStore) : (s.withKeys f).intake = s.intake := rfl
@[simp] theorem State.withKeys_disp (s : State) (f : KeyStore → KeyStore) : (s.withKeys f).disp = s.disp := rfl
@[simp] theorem State.withKeys_lanes (s : State) (f : KeyStore → KeyStore) : (s.withKeys f).lanes = s.lanes := rfl
@[simp] theorem State.withKeys_meter (s : State) (f : KeyStore → KeyStore) : (s.withKeys f).meter = s.meter := rfl
@[simp] theorem State.withKeys_guards (s : State) (f : KeyStore → KeyStore) : (s.withKeys f).guards = s.guards := rfl
@[simp] theorem State.withKeys_guardSt (s : State) (f : KeyStore → KeyStore) : (s.withKeys f).guardSt = s.guardSt := rfl
@[simp] theorem State.withKeys_tamper (s : State) (f : KeyStore → KeyStore) : (s.withKeys f).tamper = s.tamper := rfl
@[simp] theorem State.withKeys_mgmt (s : State) (f : KeyStore → KeyStore) : (s.withKeys f).mgmt = s.mgmt := rfl
@[simp] theorem State.withKeys_keys (s : State) (f : KeyStore → KeyStore) : (s.withKeys f).keys = f s.keys := rfl
@[simp] theorem State.withKeys_rng (s : State) (f : KeyStore → KeyStore) : (s.withKeys f).rng = s.rng := rfl
@[simp] theorem State.withKeys_dma (s : State) (f : KeyStore → KeyStore) : (s.withKeys f).dma = s.dma := rfl
@[simp] theorem State.withKeys_code (s : State) (f : KeyStore → KeyStore) : (s.withKeys f).code = s.code := rfl
@[simp] theorem State.withKeys_vault (s : State) (f : KeyStore → KeyStore) : (s.withKeys f).vault = s.vault := rfl
@[simp] theorem State.withKeys_verb (s : State) (f : KeyStore → KeyStore) : (s.withKeys f).verb = s.verb := rfl
@[simp] theorem State.withKeys_appr (s : State) (f : KeyStore → KeyStore) : (s.withKeys f).appr = s.appr := rfl
@[simp] theorem State.withKeys_tag (s : State) (f : KeyStore → KeyStore) : (s.withKeys f).tag = s.tag := rfl
@[simp] theorem State.withKeys_life (s : State) (f : KeyStore → KeyStore) : (s.withKeys f).life = s.life := rfl
@[simp] theorem State.withKeys_stood (s : State) (f : KeyStore → KeyStore) : (s.withKeys f).stood = s.stood := rfl
@[simp] theorem State.withKeys_gls (s : State) (f : KeyStore → KeyStore) : (s.withKeys f).gls = s.gls := rfl
@[simp] theorem State.withKeys_mem (s : State) (f : KeyStore → KeyStore) : (s.withKeys f).mem = s.mem := rfl
@[simp] theorem State.withKeys_codeFlash (s : State) (f : KeyStore → KeyStore) : (s.withKeys f).codeFlash = s.codeFlash := rfl
@[simp] theorem State.withKeys_barMem (s : State) (f : KeyStore → KeyStore) : (s.withKeys f).barMem = s.barMem := rfl
@[simp] theorem State.withKeys_hostMem (s : State) (f : KeyStore → KeyStore) : (s.withKeys f).hostMem = s.hostMem := rfl

/-! ### withRng -/

@[simp] theorem State.withRng_pending (s : State) (f : Rng → Rng) : (s.withRng f).pending = s.pending := rfl
@[simp] theorem State.withRng_free (s : State) (f : Rng → Rng) : (s.withRng f).free = s.free := rfl
@[simp] theorem State.withRng_power (s : State) (f : Rng → Rng) : (s.withRng f).power = s.power := rfl
@[simp] theorem State.withRng_clock (s : State) (f : Rng → Rng) : (s.withRng f).clock = s.clock := rfl
@[simp] theorem State.withRng_islands (s : State) (f : Rng → Rng) : (s.withRng f).islands = s.islands := rfl
@[simp] theorem State.withRng_evr (s : State) (f : Rng → Rng) : (s.withRng f).evr = s.evr := rfl
@[simp] theorem State.withRng_mode (s : State) (f : Rng → Rng) : (s.withRng f).mode = s.mode := rfl
@[simp] theorem State.withRng_link (s : State) (f : Rng → Rng) : (s.withRng f).link = s.link := rfl
@[simp] theorem State.withRng_parts (s : State) (f : Rng → Rng) : (s.withRng f).parts = s.parts := rfl
@[simp] theorem State.withRng_rings (s : State) (f : Rng → Rng) : (s.withRng f).rings = s.rings := rfl
@[simp] theorem State.withRng_jobs (s : State) (f : Rng → Rng) : (s.withRng f).jobs = s.jobs := rfl
@[simp] theorem State.withRng_nextJob (s : State) (f : Rng → Rng) : (s.withRng f).nextJob = s.nextJob := rfl
@[simp] theorem State.withRng_intake (s : State) (f : Rng → Rng) : (s.withRng f).intake = s.intake := rfl
@[simp] theorem State.withRng_disp (s : State) (f : Rng → Rng) : (s.withRng f).disp = s.disp := rfl
@[simp] theorem State.withRng_lanes (s : State) (f : Rng → Rng) : (s.withRng f).lanes = s.lanes := rfl
@[simp] theorem State.withRng_meter (s : State) (f : Rng → Rng) : (s.withRng f).meter = s.meter := rfl
@[simp] theorem State.withRng_guards (s : State) (f : Rng → Rng) : (s.withRng f).guards = s.guards := rfl
@[simp] theorem State.withRng_guardSt (s : State) (f : Rng → Rng) : (s.withRng f).guardSt = s.guardSt := rfl
@[simp] theorem State.withRng_tamper (s : State) (f : Rng → Rng) : (s.withRng f).tamper = s.tamper := rfl
@[simp] theorem State.withRng_mgmt (s : State) (f : Rng → Rng) : (s.withRng f).mgmt = s.mgmt := rfl
@[simp] theorem State.withRng_keys (s : State) (f : Rng → Rng) : (s.withRng f).keys = s.keys := rfl
@[simp] theorem State.withRng_rng (s : State) (f : Rng → Rng) : (s.withRng f).rng = f s.rng := rfl
@[simp] theorem State.withRng_dma (s : State) (f : Rng → Rng) : (s.withRng f).dma = s.dma := rfl
@[simp] theorem State.withRng_code (s : State) (f : Rng → Rng) : (s.withRng f).code = s.code := rfl
@[simp] theorem State.withRng_vault (s : State) (f : Rng → Rng) : (s.withRng f).vault = s.vault := rfl
@[simp] theorem State.withRng_verb (s : State) (f : Rng → Rng) : (s.withRng f).verb = s.verb := rfl
@[simp] theorem State.withRng_appr (s : State) (f : Rng → Rng) : (s.withRng f).appr = s.appr := rfl
@[simp] theorem State.withRng_tag (s : State) (f : Rng → Rng) : (s.withRng f).tag = s.tag := rfl
@[simp] theorem State.withRng_life (s : State) (f : Rng → Rng) : (s.withRng f).life = s.life := rfl
@[simp] theorem State.withRng_stood (s : State) (f : Rng → Rng) : (s.withRng f).stood = s.stood := rfl
@[simp] theorem State.withRng_gls (s : State) (f : Rng → Rng) : (s.withRng f).gls = s.gls := rfl
@[simp] theorem State.withRng_mem (s : State) (f : Rng → Rng) : (s.withRng f).mem = s.mem := rfl
@[simp] theorem State.withRng_codeFlash (s : State) (f : Rng → Rng) : (s.withRng f).codeFlash = s.codeFlash := rfl
@[simp] theorem State.withRng_barMem (s : State) (f : Rng → Rng) : (s.withRng f).barMem = s.barMem := rfl
@[simp] theorem State.withRng_hostMem (s : State) (f : Rng → Rng) : (s.withRng f).hostMem = s.hostMem := rfl

/-! ### withDma -/

@[simp] theorem State.withDma_pending (s : State) (f : Dma → Dma) : (s.withDma f).pending = s.pending := rfl
@[simp] theorem State.withDma_free (s : State) (f : Dma → Dma) : (s.withDma f).free = s.free := rfl
@[simp] theorem State.withDma_power (s : State) (f : Dma → Dma) : (s.withDma f).power = s.power := rfl
@[simp] theorem State.withDma_clock (s : State) (f : Dma → Dma) : (s.withDma f).clock = s.clock := rfl
@[simp] theorem State.withDma_islands (s : State) (f : Dma → Dma) : (s.withDma f).islands = s.islands := rfl
@[simp] theorem State.withDma_evr (s : State) (f : Dma → Dma) : (s.withDma f).evr = s.evr := rfl
@[simp] theorem State.withDma_mode (s : State) (f : Dma → Dma) : (s.withDma f).mode = s.mode := rfl
@[simp] theorem State.withDma_link (s : State) (f : Dma → Dma) : (s.withDma f).link = s.link := rfl
@[simp] theorem State.withDma_parts (s : State) (f : Dma → Dma) : (s.withDma f).parts = s.parts := rfl
@[simp] theorem State.withDma_rings (s : State) (f : Dma → Dma) : (s.withDma f).rings = s.rings := rfl
@[simp] theorem State.withDma_jobs (s : State) (f : Dma → Dma) : (s.withDma f).jobs = s.jobs := rfl
@[simp] theorem State.withDma_nextJob (s : State) (f : Dma → Dma) : (s.withDma f).nextJob = s.nextJob := rfl
@[simp] theorem State.withDma_intake (s : State) (f : Dma → Dma) : (s.withDma f).intake = s.intake := rfl
@[simp] theorem State.withDma_disp (s : State) (f : Dma → Dma) : (s.withDma f).disp = s.disp := rfl
@[simp] theorem State.withDma_lanes (s : State) (f : Dma → Dma) : (s.withDma f).lanes = s.lanes := rfl
@[simp] theorem State.withDma_meter (s : State) (f : Dma → Dma) : (s.withDma f).meter = s.meter := rfl
@[simp] theorem State.withDma_guards (s : State) (f : Dma → Dma) : (s.withDma f).guards = s.guards := rfl
@[simp] theorem State.withDma_guardSt (s : State) (f : Dma → Dma) : (s.withDma f).guardSt = s.guardSt := rfl
@[simp] theorem State.withDma_tamper (s : State) (f : Dma → Dma) : (s.withDma f).tamper = s.tamper := rfl
@[simp] theorem State.withDma_mgmt (s : State) (f : Dma → Dma) : (s.withDma f).mgmt = s.mgmt := rfl
@[simp] theorem State.withDma_keys (s : State) (f : Dma → Dma) : (s.withDma f).keys = s.keys := rfl
@[simp] theorem State.withDma_rng (s : State) (f : Dma → Dma) : (s.withDma f).rng = s.rng := rfl
@[simp] theorem State.withDma_dma (s : State) (f : Dma → Dma) : (s.withDma f).dma = f s.dma := rfl
@[simp] theorem State.withDma_code (s : State) (f : Dma → Dma) : (s.withDma f).code = s.code := rfl
@[simp] theorem State.withDma_vault (s : State) (f : Dma → Dma) : (s.withDma f).vault = s.vault := rfl
@[simp] theorem State.withDma_verb (s : State) (f : Dma → Dma) : (s.withDma f).verb = s.verb := rfl
@[simp] theorem State.withDma_appr (s : State) (f : Dma → Dma) : (s.withDma f).appr = s.appr := rfl
@[simp] theorem State.withDma_tag (s : State) (f : Dma → Dma) : (s.withDma f).tag = s.tag := rfl
@[simp] theorem State.withDma_life (s : State) (f : Dma → Dma) : (s.withDma f).life = s.life := rfl
@[simp] theorem State.withDma_stood (s : State) (f : Dma → Dma) : (s.withDma f).stood = s.stood := rfl
@[simp] theorem State.withDma_gls (s : State) (f : Dma → Dma) : (s.withDma f).gls = s.gls := rfl
@[simp] theorem State.withDma_mem (s : State) (f : Dma → Dma) : (s.withDma f).mem = s.mem := rfl
@[simp] theorem State.withDma_codeFlash (s : State) (f : Dma → Dma) : (s.withDma f).codeFlash = s.codeFlash := rfl
@[simp] theorem State.withDma_barMem (s : State) (f : Dma → Dma) : (s.withDma f).barMem = s.barMem := rfl
@[simp] theorem State.withDma_hostMem (s : State) (f : Dma → Dma) : (s.withDma f).hostMem = s.hostMem := rfl

/-! ### withCode -/

@[simp] theorem State.withCode_pending (s : State) (f : CodeFlash → CodeFlash) : (s.withCode f).pending = s.pending := rfl
@[simp] theorem State.withCode_free (s : State) (f : CodeFlash → CodeFlash) : (s.withCode f).free = s.free := rfl
@[simp] theorem State.withCode_power (s : State) (f : CodeFlash → CodeFlash) : (s.withCode f).power = s.power := rfl
@[simp] theorem State.withCode_clock (s : State) (f : CodeFlash → CodeFlash) : (s.withCode f).clock = s.clock := rfl
@[simp] theorem State.withCode_islands (s : State) (f : CodeFlash → CodeFlash) : (s.withCode f).islands = s.islands := rfl
@[simp] theorem State.withCode_evr (s : State) (f : CodeFlash → CodeFlash) : (s.withCode f).evr = s.evr := rfl
@[simp] theorem State.withCode_mode (s : State) (f : CodeFlash → CodeFlash) : (s.withCode f).mode = s.mode := rfl
@[simp] theorem State.withCode_link (s : State) (f : CodeFlash → CodeFlash) : (s.withCode f).link = s.link := rfl
@[simp] theorem State.withCode_parts (s : State) (f : CodeFlash → CodeFlash) : (s.withCode f).parts = s.parts := rfl
@[simp] theorem State.withCode_rings (s : State) (f : CodeFlash → CodeFlash) : (s.withCode f).rings = s.rings := rfl
@[simp] theorem State.withCode_jobs (s : State) (f : CodeFlash → CodeFlash) : (s.withCode f).jobs = s.jobs := rfl
@[simp] theorem State.withCode_nextJob (s : State) (f : CodeFlash → CodeFlash) : (s.withCode f).nextJob = s.nextJob := rfl
@[simp] theorem State.withCode_intake (s : State) (f : CodeFlash → CodeFlash) : (s.withCode f).intake = s.intake := rfl
@[simp] theorem State.withCode_disp (s : State) (f : CodeFlash → CodeFlash) : (s.withCode f).disp = s.disp := rfl
@[simp] theorem State.withCode_lanes (s : State) (f : CodeFlash → CodeFlash) : (s.withCode f).lanes = s.lanes := rfl
@[simp] theorem State.withCode_meter (s : State) (f : CodeFlash → CodeFlash) : (s.withCode f).meter = s.meter := rfl
@[simp] theorem State.withCode_guards (s : State) (f : CodeFlash → CodeFlash) : (s.withCode f).guards = s.guards := rfl
@[simp] theorem State.withCode_guardSt (s : State) (f : CodeFlash → CodeFlash) : (s.withCode f).guardSt = s.guardSt := rfl
@[simp] theorem State.withCode_tamper (s : State) (f : CodeFlash → CodeFlash) : (s.withCode f).tamper = s.tamper := rfl
@[simp] theorem State.withCode_mgmt (s : State) (f : CodeFlash → CodeFlash) : (s.withCode f).mgmt = s.mgmt := rfl
@[simp] theorem State.withCode_keys (s : State) (f : CodeFlash → CodeFlash) : (s.withCode f).keys = s.keys := rfl
@[simp] theorem State.withCode_rng (s : State) (f : CodeFlash → CodeFlash) : (s.withCode f).rng = s.rng := rfl
@[simp] theorem State.withCode_dma (s : State) (f : CodeFlash → CodeFlash) : (s.withCode f).dma = s.dma := rfl
@[simp] theorem State.withCode_code (s : State) (f : CodeFlash → CodeFlash) : (s.withCode f).code = f s.code := rfl
@[simp] theorem State.withCode_vault (s : State) (f : CodeFlash → CodeFlash) : (s.withCode f).vault = s.vault := rfl
@[simp] theorem State.withCode_verb (s : State) (f : CodeFlash → CodeFlash) : (s.withCode f).verb = s.verb := rfl
@[simp] theorem State.withCode_appr (s : State) (f : CodeFlash → CodeFlash) : (s.withCode f).appr = s.appr := rfl
@[simp] theorem State.withCode_tag (s : State) (f : CodeFlash → CodeFlash) : (s.withCode f).tag = s.tag := rfl
@[simp] theorem State.withCode_life (s : State) (f : CodeFlash → CodeFlash) : (s.withCode f).life = s.life := rfl
@[simp] theorem State.withCode_stood (s : State) (f : CodeFlash → CodeFlash) : (s.withCode f).stood = s.stood := rfl
@[simp] theorem State.withCode_gls (s : State) (f : CodeFlash → CodeFlash) : (s.withCode f).gls = s.gls := rfl
@[simp] theorem State.withCode_mem (s : State) (f : CodeFlash → CodeFlash) : (s.withCode f).mem = s.mem := rfl
@[simp] theorem State.withCode_codeFlash (s : State) (f : CodeFlash → CodeFlash) : (s.withCode f).codeFlash = s.codeFlash := rfl
@[simp] theorem State.withCode_barMem (s : State) (f : CodeFlash → CodeFlash) : (s.withCode f).barMem = s.barMem := rfl
@[simp] theorem State.withCode_hostMem (s : State) (f : CodeFlash → CodeFlash) : (s.withCode f).hostMem = s.hostMem := rfl

/-! ### withVault -/

@[simp] theorem State.withVault_pending (s : State) (f : Vault → Vault) : (s.withVault f).pending = s.pending := rfl
@[simp] theorem State.withVault_free (s : State) (f : Vault → Vault) : (s.withVault f).free = s.free := rfl
@[simp] theorem State.withVault_power (s : State) (f : Vault → Vault) : (s.withVault f).power = s.power := rfl
@[simp] theorem State.withVault_clock (s : State) (f : Vault → Vault) : (s.withVault f).clock = s.clock := rfl
@[simp] theorem State.withVault_islands (s : State) (f : Vault → Vault) : (s.withVault f).islands = s.islands := rfl
@[simp] theorem State.withVault_evr (s : State) (f : Vault → Vault) : (s.withVault f).evr = s.evr := rfl
@[simp] theorem State.withVault_mode (s : State) (f : Vault → Vault) : (s.withVault f).mode = s.mode := rfl
@[simp] theorem State.withVault_link (s : State) (f : Vault → Vault) : (s.withVault f).link = s.link := rfl
@[simp] theorem State.withVault_parts (s : State) (f : Vault → Vault) : (s.withVault f).parts = s.parts := rfl
@[simp] theorem State.withVault_rings (s : State) (f : Vault → Vault) : (s.withVault f).rings = s.rings := rfl
@[simp] theorem State.withVault_jobs (s : State) (f : Vault → Vault) : (s.withVault f).jobs = s.jobs := rfl
@[simp] theorem State.withVault_nextJob (s : State) (f : Vault → Vault) : (s.withVault f).nextJob = s.nextJob := rfl
@[simp] theorem State.withVault_intake (s : State) (f : Vault → Vault) : (s.withVault f).intake = s.intake := rfl
@[simp] theorem State.withVault_disp (s : State) (f : Vault → Vault) : (s.withVault f).disp = s.disp := rfl
@[simp] theorem State.withVault_lanes (s : State) (f : Vault → Vault) : (s.withVault f).lanes = s.lanes := rfl
@[simp] theorem State.withVault_meter (s : State) (f : Vault → Vault) : (s.withVault f).meter = s.meter := rfl
@[simp] theorem State.withVault_guards (s : State) (f : Vault → Vault) : (s.withVault f).guards = s.guards := rfl
@[simp] theorem State.withVault_guardSt (s : State) (f : Vault → Vault) : (s.withVault f).guardSt = s.guardSt := rfl
@[simp] theorem State.withVault_tamper (s : State) (f : Vault → Vault) : (s.withVault f).tamper = s.tamper := rfl
@[simp] theorem State.withVault_mgmt (s : State) (f : Vault → Vault) : (s.withVault f).mgmt = s.mgmt := rfl
@[simp] theorem State.withVault_keys (s : State) (f : Vault → Vault) : (s.withVault f).keys = s.keys := rfl
@[simp] theorem State.withVault_rng (s : State) (f : Vault → Vault) : (s.withVault f).rng = s.rng := rfl
@[simp] theorem State.withVault_dma (s : State) (f : Vault → Vault) : (s.withVault f).dma = s.dma := rfl
@[simp] theorem State.withVault_code (s : State) (f : Vault → Vault) : (s.withVault f).code = s.code := rfl
@[simp] theorem State.withVault_vault (s : State) (f : Vault → Vault) : (s.withVault f).vault = f s.vault := rfl
@[simp] theorem State.withVault_verb (s : State) (f : Vault → Vault) : (s.withVault f).verb = s.verb := rfl
@[simp] theorem State.withVault_appr (s : State) (f : Vault → Vault) : (s.withVault f).appr = s.appr := rfl
@[simp] theorem State.withVault_tag (s : State) (f : Vault → Vault) : (s.withVault f).tag = s.tag := rfl
@[simp] theorem State.withVault_life (s : State) (f : Vault → Vault) : (s.withVault f).life = s.life := rfl
@[simp] theorem State.withVault_stood (s : State) (f : Vault → Vault) : (s.withVault f).stood = s.stood := rfl
@[simp] theorem State.withVault_gls (s : State) (f : Vault → Vault) : (s.withVault f).gls = s.gls := rfl
@[simp] theorem State.withVault_mem (s : State) (f : Vault → Vault) : (s.withVault f).mem = s.mem := rfl
@[simp] theorem State.withVault_codeFlash (s : State) (f : Vault → Vault) : (s.withVault f).codeFlash = s.codeFlash := rfl
@[simp] theorem State.withVault_barMem (s : State) (f : Vault → Vault) : (s.withVault f).barMem = s.barMem := rfl
@[simp] theorem State.withVault_hostMem (s : State) (f : Vault → Vault) : (s.withVault f).hostMem = s.hostMem := rfl

/-! ### withLanes -/

@[simp] theorem State.withLanes_pending (s : State) (f : Lanes → Lanes) : (s.withLanes f).pending = s.pending := rfl
@[simp] theorem State.withLanes_free (s : State) (f : Lanes → Lanes) : (s.withLanes f).free = s.free := rfl
@[simp] theorem State.withLanes_power (s : State) (f : Lanes → Lanes) : (s.withLanes f).power = s.power := rfl
@[simp] theorem State.withLanes_clock (s : State) (f : Lanes → Lanes) : (s.withLanes f).clock = s.clock := rfl
@[simp] theorem State.withLanes_islands (s : State) (f : Lanes → Lanes) : (s.withLanes f).islands = s.islands := rfl
@[simp] theorem State.withLanes_evr (s : State) (f : Lanes → Lanes) : (s.withLanes f).evr = s.evr := rfl
@[simp] theorem State.withLanes_mode (s : State) (f : Lanes → Lanes) : (s.withLanes f).mode = s.mode := rfl
@[simp] theorem State.withLanes_link (s : State) (f : Lanes → Lanes) : (s.withLanes f).link = s.link := rfl
@[simp] theorem State.withLanes_parts (s : State) (f : Lanes → Lanes) : (s.withLanes f).parts = s.parts := rfl
@[simp] theorem State.withLanes_rings (s : State) (f : Lanes → Lanes) : (s.withLanes f).rings = s.rings := rfl
@[simp] theorem State.withLanes_jobs (s : State) (f : Lanes → Lanes) : (s.withLanes f).jobs = s.jobs := rfl
@[simp] theorem State.withLanes_nextJob (s : State) (f : Lanes → Lanes) : (s.withLanes f).nextJob = s.nextJob := rfl
@[simp] theorem State.withLanes_intake (s : State) (f : Lanes → Lanes) : (s.withLanes f).intake = s.intake := rfl
@[simp] theorem State.withLanes_disp (s : State) (f : Lanes → Lanes) : (s.withLanes f).disp = s.disp := rfl
@[simp] theorem State.withLanes_lanes (s : State) (f : Lanes → Lanes) : (s.withLanes f).lanes = f s.lanes := rfl
@[simp] theorem State.withLanes_meter (s : State) (f : Lanes → Lanes) : (s.withLanes f).meter = s.meter := rfl
@[simp] theorem State.withLanes_guards (s : State) (f : Lanes → Lanes) : (s.withLanes f).guards = s.guards := rfl
@[simp] theorem State.withLanes_guardSt (s : State) (f : Lanes → Lanes) : (s.withLanes f).guardSt = s.guardSt := rfl
@[simp] theorem State.withLanes_tamper (s : State) (f : Lanes → Lanes) : (s.withLanes f).tamper = s.tamper := rfl
@[simp] theorem State.withLanes_mgmt (s : State) (f : Lanes → Lanes) : (s.withLanes f).mgmt = s.mgmt := rfl
@[simp] theorem State.withLanes_keys (s : State) (f : Lanes → Lanes) : (s.withLanes f).keys = s.keys := rfl
@[simp] theorem State.withLanes_rng (s : State) (f : Lanes → Lanes) : (s.withLanes f).rng = s.rng := rfl
@[simp] theorem State.withLanes_dma (s : State) (f : Lanes → Lanes) : (s.withLanes f).dma = s.dma := rfl
@[simp] theorem State.withLanes_code (s : State) (f : Lanes → Lanes) : (s.withLanes f).code = s.code := rfl
@[simp] theorem State.withLanes_vault (s : State) (f : Lanes → Lanes) : (s.withLanes f).vault = s.vault := rfl
@[simp] theorem State.withLanes_verb (s : State) (f : Lanes → Lanes) : (s.withLanes f).verb = s.verb := rfl
@[simp] theorem State.withLanes_appr (s : State) (f : Lanes → Lanes) : (s.withLanes f).appr = s.appr := rfl
@[simp] theorem State.withLanes_tag (s : State) (f : Lanes → Lanes) : (s.withLanes f).tag = s.tag := rfl
@[simp] theorem State.withLanes_life (s : State) (f : Lanes → Lanes) : (s.withLanes f).life = s.life := rfl
@[simp] theorem State.withLanes_stood (s : State) (f : Lanes → Lanes) : (s.withLanes f).stood = s.stood := rfl
@[simp] theorem State.withLanes_gls (s : State) (f : Lanes → Lanes) : (s.withLanes f).gls = s.gls := rfl
@[simp] theorem State.withLanes_mem (s : State) (f : Lanes → Lanes) : (s.withLanes f).mem = s.mem := rfl
@[simp] theorem State.withLanes_codeFlash (s : State) (f : Lanes → Lanes) : (s.withLanes f).codeFlash = s.codeFlash := rfl
@[simp] theorem State.withLanes_barMem (s : State) (f : Lanes → Lanes) : (s.withLanes f).barMem = s.barMem := rfl
@[simp] theorem State.withLanes_hostMem (s : State) (f : Lanes → Lanes) : (s.withLanes f).hostMem = s.hostMem := rfl

/-! ### withVerb -/

@[simp] theorem State.withVerb_pending (s : State) (f : VerbSt → VerbSt) : (s.withVerb f).pending = s.pending := rfl
@[simp] theorem State.withVerb_free (s : State) (f : VerbSt → VerbSt) : (s.withVerb f).free = s.free := rfl
@[simp] theorem State.withVerb_power (s : State) (f : VerbSt → VerbSt) : (s.withVerb f).power = s.power := rfl
@[simp] theorem State.withVerb_clock (s : State) (f : VerbSt → VerbSt) : (s.withVerb f).clock = s.clock := rfl
@[simp] theorem State.withVerb_islands (s : State) (f : VerbSt → VerbSt) : (s.withVerb f).islands = s.islands := rfl
@[simp] theorem State.withVerb_evr (s : State) (f : VerbSt → VerbSt) : (s.withVerb f).evr = s.evr := rfl
@[simp] theorem State.withVerb_mode (s : State) (f : VerbSt → VerbSt) : (s.withVerb f).mode = s.mode := rfl
@[simp] theorem State.withVerb_link (s : State) (f : VerbSt → VerbSt) : (s.withVerb f).link = s.link := rfl
@[simp] theorem State.withVerb_parts (s : State) (f : VerbSt → VerbSt) : (s.withVerb f).parts = s.parts := rfl
@[simp] theorem State.withVerb_rings (s : State) (f : VerbSt → VerbSt) : (s.withVerb f).rings = s.rings := rfl
@[simp] theorem State.withVerb_jobs (s : State) (f : VerbSt → VerbSt) : (s.withVerb f).jobs = s.jobs := rfl
@[simp] theorem State.withVerb_nextJob (s : State) (f : VerbSt → VerbSt) : (s.withVerb f).nextJob = s.nextJob := rfl
@[simp] theorem State.withVerb_intake (s : State) (f : VerbSt → VerbSt) : (s.withVerb f).intake = s.intake := rfl
@[simp] theorem State.withVerb_disp (s : State) (f : VerbSt → VerbSt) : (s.withVerb f).disp = s.disp := rfl
@[simp] theorem State.withVerb_lanes (s : State) (f : VerbSt → VerbSt) : (s.withVerb f).lanes = s.lanes := rfl
@[simp] theorem State.withVerb_meter (s : State) (f : VerbSt → VerbSt) : (s.withVerb f).meter = s.meter := rfl
@[simp] theorem State.withVerb_guards (s : State) (f : VerbSt → VerbSt) : (s.withVerb f).guards = s.guards := rfl
@[simp] theorem State.withVerb_guardSt (s : State) (f : VerbSt → VerbSt) : (s.withVerb f).guardSt = s.guardSt := rfl
@[simp] theorem State.withVerb_tamper (s : State) (f : VerbSt → VerbSt) : (s.withVerb f).tamper = s.tamper := rfl
@[simp] theorem State.withVerb_mgmt (s : State) (f : VerbSt → VerbSt) : (s.withVerb f).mgmt = s.mgmt := rfl
@[simp] theorem State.withVerb_keys (s : State) (f : VerbSt → VerbSt) : (s.withVerb f).keys = s.keys := rfl
@[simp] theorem State.withVerb_rng (s : State) (f : VerbSt → VerbSt) : (s.withVerb f).rng = s.rng := rfl
@[simp] theorem State.withVerb_dma (s : State) (f : VerbSt → VerbSt) : (s.withVerb f).dma = s.dma := rfl
@[simp] theorem State.withVerb_code (s : State) (f : VerbSt → VerbSt) : (s.withVerb f).code = s.code := rfl
@[simp] theorem State.withVerb_vault (s : State) (f : VerbSt → VerbSt) : (s.withVerb f).vault = s.vault := rfl
@[simp] theorem State.withVerb_verb (s : State) (f : VerbSt → VerbSt) : (s.withVerb f).verb = f s.verb := rfl
@[simp] theorem State.withVerb_appr (s : State) (f : VerbSt → VerbSt) : (s.withVerb f).appr = s.appr := rfl
@[simp] theorem State.withVerb_tag (s : State) (f : VerbSt → VerbSt) : (s.withVerb f).tag = s.tag := rfl
@[simp] theorem State.withVerb_life (s : State) (f : VerbSt → VerbSt) : (s.withVerb f).life = s.life := rfl
@[simp] theorem State.withVerb_stood (s : State) (f : VerbSt → VerbSt) : (s.withVerb f).stood = s.stood := rfl
@[simp] theorem State.withVerb_gls (s : State) (f : VerbSt → VerbSt) : (s.withVerb f).gls = s.gls := rfl
@[simp] theorem State.withVerb_mem (s : State) (f : VerbSt → VerbSt) : (s.withVerb f).mem = s.mem := rfl
@[simp] theorem State.withVerb_codeFlash (s : State) (f : VerbSt → VerbSt) : (s.withVerb f).codeFlash = s.codeFlash := rfl
@[simp] theorem State.withVerb_barMem (s : State) (f : VerbSt → VerbSt) : (s.withVerb f).barMem = s.barMem := rfl
@[simp] theorem State.withVerb_hostMem (s : State) (f : VerbSt → VerbSt) : (s.withVerb f).hostMem = s.hostMem := rfl

/-! ### withLife -/

@[simp] theorem State.withLife_pending (s : State) (f : Life → Life) : (s.withLife f).pending = s.pending := rfl
@[simp] theorem State.withLife_free (s : State) (f : Life → Life) : (s.withLife f).free = s.free := rfl
@[simp] theorem State.withLife_power (s : State) (f : Life → Life) : (s.withLife f).power = s.power := rfl
@[simp] theorem State.withLife_clock (s : State) (f : Life → Life) : (s.withLife f).clock = s.clock := rfl
@[simp] theorem State.withLife_islands (s : State) (f : Life → Life) : (s.withLife f).islands = s.islands := rfl
@[simp] theorem State.withLife_evr (s : State) (f : Life → Life) : (s.withLife f).evr = s.evr := rfl
@[simp] theorem State.withLife_mode (s : State) (f : Life → Life) : (s.withLife f).mode = s.mode := rfl
@[simp] theorem State.withLife_link (s : State) (f : Life → Life) : (s.withLife f).link = s.link := rfl
@[simp] theorem State.withLife_parts (s : State) (f : Life → Life) : (s.withLife f).parts = s.parts := rfl
@[simp] theorem State.withLife_rings (s : State) (f : Life → Life) : (s.withLife f).rings = s.rings := rfl
@[simp] theorem State.withLife_jobs (s : State) (f : Life → Life) : (s.withLife f).jobs = s.jobs := rfl
@[simp] theorem State.withLife_nextJob (s : State) (f : Life → Life) : (s.withLife f).nextJob = s.nextJob := rfl
@[simp] theorem State.withLife_intake (s : State) (f : Life → Life) : (s.withLife f).intake = s.intake := rfl
@[simp] theorem State.withLife_disp (s : State) (f : Life → Life) : (s.withLife f).disp = s.disp := rfl
@[simp] theorem State.withLife_lanes (s : State) (f : Life → Life) : (s.withLife f).lanes = s.lanes := rfl
@[simp] theorem State.withLife_meter (s : State) (f : Life → Life) : (s.withLife f).meter = s.meter := rfl
@[simp] theorem State.withLife_guards (s : State) (f : Life → Life) : (s.withLife f).guards = s.guards := rfl
@[simp] theorem State.withLife_guardSt (s : State) (f : Life → Life) : (s.withLife f).guardSt = s.guardSt := rfl
@[simp] theorem State.withLife_tamper (s : State) (f : Life → Life) : (s.withLife f).tamper = s.tamper := rfl
@[simp] theorem State.withLife_mgmt (s : State) (f : Life → Life) : (s.withLife f).mgmt = s.mgmt := rfl
@[simp] theorem State.withLife_keys (s : State) (f : Life → Life) : (s.withLife f).keys = s.keys := rfl
@[simp] theorem State.withLife_rng (s : State) (f : Life → Life) : (s.withLife f).rng = s.rng := rfl
@[simp] theorem State.withLife_dma (s : State) (f : Life → Life) : (s.withLife f).dma = s.dma := rfl
@[simp] theorem State.withLife_code (s : State) (f : Life → Life) : (s.withLife f).code = s.code := rfl
@[simp] theorem State.withLife_vault (s : State) (f : Life → Life) : (s.withLife f).vault = s.vault := rfl
@[simp] theorem State.withLife_verb (s : State) (f : Life → Life) : (s.withLife f).verb = s.verb := rfl
@[simp] theorem State.withLife_appr (s : State) (f : Life → Life) : (s.withLife f).appr = s.appr := rfl
@[simp] theorem State.withLife_tag (s : State) (f : Life → Life) : (s.withLife f).tag = s.tag := rfl
@[simp] theorem State.withLife_life (s : State) (f : Life → Life) : (s.withLife f).life = f s.life := rfl
@[simp] theorem State.withLife_stood (s : State) (f : Life → Life) : (s.withLife f).stood = s.stood := rfl
@[simp] theorem State.withLife_gls (s : State) (f : Life → Life) : (s.withLife f).gls = s.gls := rfl
@[simp] theorem State.withLife_mem (s : State) (f : Life → Life) : (s.withLife f).mem = s.mem := rfl
@[simp] theorem State.withLife_codeFlash (s : State) (f : Life → Life) : (s.withLife f).codeFlash = s.codeFlash := rfl
@[simp] theorem State.withLife_barMem (s : State) (f : Life → Life) : (s.withLife f).barMem = s.barMem := rfl
@[simp] theorem State.withLife_hostMem (s : State) (f : Life → Life) : (s.withLife f).hostMem = s.hostMem := rfl

/-! ### withMeter -/

@[simp] theorem State.withMeter_pending (s : State) (f : Meter → Meter) : (s.withMeter f).pending = s.pending := rfl
@[simp] theorem State.withMeter_free (s : State) (f : Meter → Meter) : (s.withMeter f).free = s.free := rfl
@[simp] theorem State.withMeter_power (s : State) (f : Meter → Meter) : (s.withMeter f).power = s.power := rfl
@[simp] theorem State.withMeter_clock (s : State) (f : Meter → Meter) : (s.withMeter f).clock = s.clock := rfl
@[simp] theorem State.withMeter_islands (s : State) (f : Meter → Meter) : (s.withMeter f).islands = s.islands := rfl
@[simp] theorem State.withMeter_evr (s : State) (f : Meter → Meter) : (s.withMeter f).evr = s.evr := rfl
@[simp] theorem State.withMeter_mode (s : State) (f : Meter → Meter) : (s.withMeter f).mode = s.mode := rfl
@[simp] theorem State.withMeter_link (s : State) (f : Meter → Meter) : (s.withMeter f).link = s.link := rfl
@[simp] theorem State.withMeter_parts (s : State) (f : Meter → Meter) : (s.withMeter f).parts = s.parts := rfl
@[simp] theorem State.withMeter_rings (s : State) (f : Meter → Meter) : (s.withMeter f).rings = s.rings := rfl
@[simp] theorem State.withMeter_jobs (s : State) (f : Meter → Meter) : (s.withMeter f).jobs = s.jobs := rfl
@[simp] theorem State.withMeter_nextJob (s : State) (f : Meter → Meter) : (s.withMeter f).nextJob = s.nextJob := rfl
@[simp] theorem State.withMeter_intake (s : State) (f : Meter → Meter) : (s.withMeter f).intake = s.intake := rfl
@[simp] theorem State.withMeter_disp (s : State) (f : Meter → Meter) : (s.withMeter f).disp = s.disp := rfl
@[simp] theorem State.withMeter_lanes (s : State) (f : Meter → Meter) : (s.withMeter f).lanes = s.lanes := rfl
@[simp] theorem State.withMeter_meter (s : State) (f : Meter → Meter) : (s.withMeter f).meter = f s.meter := rfl
@[simp] theorem State.withMeter_guards (s : State) (f : Meter → Meter) : (s.withMeter f).guards = s.guards := rfl
@[simp] theorem State.withMeter_guardSt (s : State) (f : Meter → Meter) : (s.withMeter f).guardSt = s.guardSt := rfl
@[simp] theorem State.withMeter_tamper (s : State) (f : Meter → Meter) : (s.withMeter f).tamper = s.tamper := rfl
@[simp] theorem State.withMeter_mgmt (s : State) (f : Meter → Meter) : (s.withMeter f).mgmt = s.mgmt := rfl
@[simp] theorem State.withMeter_keys (s : State) (f : Meter → Meter) : (s.withMeter f).keys = s.keys := rfl
@[simp] theorem State.withMeter_rng (s : State) (f : Meter → Meter) : (s.withMeter f).rng = s.rng := rfl
@[simp] theorem State.withMeter_dma (s : State) (f : Meter → Meter) : (s.withMeter f).dma = s.dma := rfl
@[simp] theorem State.withMeter_code (s : State) (f : Meter → Meter) : (s.withMeter f).code = s.code := rfl
@[simp] theorem State.withMeter_vault (s : State) (f : Meter → Meter) : (s.withMeter f).vault = s.vault := rfl
@[simp] theorem State.withMeter_verb (s : State) (f : Meter → Meter) : (s.withMeter f).verb = s.verb := rfl
@[simp] theorem State.withMeter_appr (s : State) (f : Meter → Meter) : (s.withMeter f).appr = s.appr := rfl
@[simp] theorem State.withMeter_tag (s : State) (f : Meter → Meter) : (s.withMeter f).tag = s.tag := rfl
@[simp] theorem State.withMeter_life (s : State) (f : Meter → Meter) : (s.withMeter f).life = s.life := rfl
@[simp] theorem State.withMeter_stood (s : State) (f : Meter → Meter) : (s.withMeter f).stood = s.stood := rfl
@[simp] theorem State.withMeter_gls (s : State) (f : Meter → Meter) : (s.withMeter f).gls = s.gls := rfl
@[simp] theorem State.withMeter_mem (s : State) (f : Meter → Meter) : (s.withMeter f).mem = s.mem := rfl
@[simp] theorem State.withMeter_codeFlash (s : State) (f : Meter → Meter) : (s.withMeter f).codeFlash = s.codeFlash := rfl
@[simp] theorem State.withMeter_barMem (s : State) (f : Meter → Meter) : (s.withMeter f).barMem = s.barMem := rfl
@[simp] theorem State.withMeter_hostMem (s : State) (f : Meter → Meter) : (s.withMeter f).hostMem = s.hostMem := rfl

/-! ### withPart -/

@[simp] theorem State.withPart_pending (s : State) (i : Nat) (f : Part → Part) : (s.withPart i f).pending = s.pending := rfl
@[simp] theorem State.withPart_free (s : State) (i : Nat) (f : Part → Part) : (s.withPart i f).free = s.free := rfl
@[simp] theorem State.withPart_power (s : State) (i : Nat) (f : Part → Part) : (s.withPart i f).power = s.power := rfl
@[simp] theorem State.withPart_clock (s : State) (i : Nat) (f : Part → Part) : (s.withPart i f).clock = s.clock := rfl
@[simp] theorem State.withPart_islands (s : State) (i : Nat) (f : Part → Part) : (s.withPart i f).islands = s.islands := rfl
@[simp] theorem State.withPart_evr (s : State) (i : Nat) (f : Part → Part) : (s.withPart i f).evr = s.evr := rfl
@[simp] theorem State.withPart_mode (s : State) (i : Nat) (f : Part → Part) : (s.withPart i f).mode = s.mode := rfl
@[simp] theorem State.withPart_link (s : State) (i : Nat) (f : Part → Part) : (s.withPart i f).link = s.link := rfl
@[simp] theorem State.withPart_parts (s : State) (i : Nat) (f : Part → Part) : (s.withPart i f).parts = s.parts.upd {} i f := rfl
@[simp] theorem State.withPart_rings (s : State) (i : Nat) (f : Part → Part) : (s.withPart i f).rings = s.rings := rfl
@[simp] theorem State.withPart_jobs (s : State) (i : Nat) (f : Part → Part) : (s.withPart i f).jobs = s.jobs := rfl
@[simp] theorem State.withPart_nextJob (s : State) (i : Nat) (f : Part → Part) : (s.withPart i f).nextJob = s.nextJob := rfl
@[simp] theorem State.withPart_intake (s : State) (i : Nat) (f : Part → Part) : (s.withPart i f).intake = s.intake := rfl
@[simp] theorem State.withPart_disp (s : State) (i : Nat) (f : Part → Part) : (s.withPart i f).disp = s.disp := rfl
@[simp] theorem State.withPart_lanes (s : State) (i : Nat) (f : Part → Part) : (s.withPart i f).lanes = s.lanes := rfl
@[simp] theorem State.withPart_meter (s : State) (i : Nat) (f : Part → Part) : (s.withPart i f).meter = s.meter := rfl
@[simp] theorem State.withPart_guards (s : State) (i : Nat) (f : Part → Part) : (s.withPart i f).guards = s.guards := rfl
@[simp] theorem State.withPart_guardSt (s : State) (i : Nat) (f : Part → Part) : (s.withPart i f).guardSt = s.guardSt := rfl
@[simp] theorem State.withPart_tamper (s : State) (i : Nat) (f : Part → Part) : (s.withPart i f).tamper = s.tamper := rfl
@[simp] theorem State.withPart_mgmt (s : State) (i : Nat) (f : Part → Part) : (s.withPart i f).mgmt = s.mgmt := rfl
@[simp] theorem State.withPart_keys (s : State) (i : Nat) (f : Part → Part) : (s.withPart i f).keys = s.keys := rfl
@[simp] theorem State.withPart_rng (s : State) (i : Nat) (f : Part → Part) : (s.withPart i f).rng = s.rng := rfl
@[simp] theorem State.withPart_dma (s : State) (i : Nat) (f : Part → Part) : (s.withPart i f).dma = s.dma := rfl
@[simp] theorem State.withPart_code (s : State) (i : Nat) (f : Part → Part) : (s.withPart i f).code = s.code := rfl
@[simp] theorem State.withPart_vault (s : State) (i : Nat) (f : Part → Part) : (s.withPart i f).vault = s.vault := rfl
@[simp] theorem State.withPart_verb (s : State) (i : Nat) (f : Part → Part) : (s.withPart i f).verb = s.verb := rfl
@[simp] theorem State.withPart_appr (s : State) (i : Nat) (f : Part → Part) : (s.withPart i f).appr = s.appr := rfl
@[simp] theorem State.withPart_tag (s : State) (i : Nat) (f : Part → Part) : (s.withPart i f).tag = s.tag := rfl
@[simp] theorem State.withPart_life (s : State) (i : Nat) (f : Part → Part) : (s.withPart i f).life = s.life := rfl
@[simp] theorem State.withPart_stood (s : State) (i : Nat) (f : Part → Part) : (s.withPart i f).stood = s.stood := rfl
@[simp] theorem State.withPart_gls (s : State) (i : Nat) (f : Part → Part) : (s.withPart i f).gls = s.gls := rfl
@[simp] theorem State.withPart_mem (s : State) (i : Nat) (f : Part → Part) : (s.withPart i f).mem = s.mem := rfl
@[simp] theorem State.withPart_codeFlash (s : State) (i : Nat) (f : Part → Part) : (s.withPart i f).codeFlash = s.codeFlash := rfl
@[simp] theorem State.withPart_barMem (s : State) (i : Nat) (f : Part → Part) : (s.withPart i f).barMem = s.barMem := rfl
@[simp] theorem State.withPart_hostMem (s : State) (i : Nat) (f : Part → Part) : (s.withPart i f).hostMem = s.hostMem := rfl

/-! ### withJob -/

@[simp] theorem State.withJob_pending (s : State) (i : Nat) (f : Job → Job) : (s.withJob i f).pending = s.pending := rfl
@[simp] theorem State.withJob_free (s : State) (i : Nat) (f : Job → Job) : (s.withJob i f).free = s.free := rfl
@[simp] theorem State.withJob_power (s : State) (i : Nat) (f : Job → Job) : (s.withJob i f).power = s.power := rfl
@[simp] theorem State.withJob_clock (s : State) (i : Nat) (f : Job → Job) : (s.withJob i f).clock = s.clock := rfl
@[simp] theorem State.withJob_islands (s : State) (i : Nat) (f : Job → Job) : (s.withJob i f).islands = s.islands := rfl
@[simp] theorem State.withJob_evr (s : State) (i : Nat) (f : Job → Job) : (s.withJob i f).evr = s.evr := rfl
@[simp] theorem State.withJob_mode (s : State) (i : Nat) (f : Job → Job) : (s.withJob i f).mode = s.mode := rfl
@[simp] theorem State.withJob_link (s : State) (i : Nat) (f : Job → Job) : (s.withJob i f).link = s.link := rfl
@[simp] theorem State.withJob_parts (s : State) (i : Nat) (f : Job → Job) : (s.withJob i f).parts = s.parts := rfl
@[simp] theorem State.withJob_rings (s : State) (i : Nat) (f : Job → Job) : (s.withJob i f).rings = s.rings := rfl
@[simp] theorem State.withJob_jobs (s : State) (i : Nat) (f : Job → Job) : (s.withJob i f).jobs = s.jobs.upd {} i f := rfl
@[simp] theorem State.withJob_nextJob (s : State) (i : Nat) (f : Job → Job) : (s.withJob i f).nextJob = s.nextJob := rfl
@[simp] theorem State.withJob_intake (s : State) (i : Nat) (f : Job → Job) : (s.withJob i f).intake = s.intake := rfl
@[simp] theorem State.withJob_disp (s : State) (i : Nat) (f : Job → Job) : (s.withJob i f).disp = s.disp := rfl
@[simp] theorem State.withJob_lanes (s : State) (i : Nat) (f : Job → Job) : (s.withJob i f).lanes = s.lanes := rfl
@[simp] theorem State.withJob_meter (s : State) (i : Nat) (f : Job → Job) : (s.withJob i f).meter = s.meter := rfl
@[simp] theorem State.withJob_guards (s : State) (i : Nat) (f : Job → Job) : (s.withJob i f).guards = s.guards := rfl
@[simp] theorem State.withJob_guardSt (s : State) (i : Nat) (f : Job → Job) : (s.withJob i f).guardSt = s.guardSt := rfl
@[simp] theorem State.withJob_tamper (s : State) (i : Nat) (f : Job → Job) : (s.withJob i f).tamper = s.tamper := rfl
@[simp] theorem State.withJob_mgmt (s : State) (i : Nat) (f : Job → Job) : (s.withJob i f).mgmt = s.mgmt := rfl
@[simp] theorem State.withJob_keys (s : State) (i : Nat) (f : Job → Job) : (s.withJob i f).keys = s.keys := rfl
@[simp] theorem State.withJob_rng (s : State) (i : Nat) (f : Job → Job) : (s.withJob i f).rng = s.rng := rfl
@[simp] theorem State.withJob_dma (s : State) (i : Nat) (f : Job → Job) : (s.withJob i f).dma = s.dma := rfl
@[simp] theorem State.withJob_code (s : State) (i : Nat) (f : Job → Job) : (s.withJob i f).code = s.code := rfl
@[simp] theorem State.withJob_vault (s : State) (i : Nat) (f : Job → Job) : (s.withJob i f).vault = s.vault := rfl
@[simp] theorem State.withJob_verb (s : State) (i : Nat) (f : Job → Job) : (s.withJob i f).verb = s.verb := rfl
@[simp] theorem State.withJob_appr (s : State) (i : Nat) (f : Job → Job) : (s.withJob i f).appr = s.appr := rfl
@[simp] theorem State.withJob_tag (s : State) (i : Nat) (f : Job → Job) : (s.withJob i f).tag = s.tag := rfl
@[simp] theorem State.withJob_life (s : State) (i : Nat) (f : Job → Job) : (s.withJob i f).life = s.life := rfl
@[simp] theorem State.withJob_stood (s : State) (i : Nat) (f : Job → Job) : (s.withJob i f).stood = s.stood := rfl
@[simp] theorem State.withJob_gls (s : State) (i : Nat) (f : Job → Job) : (s.withJob i f).gls = s.gls := rfl
@[simp] theorem State.withJob_mem (s : State) (i : Nat) (f : Job → Job) : (s.withJob i f).mem = s.mem := rfl
@[simp] theorem State.withJob_codeFlash (s : State) (i : Nat) (f : Job → Job) : (s.withJob i f).codeFlash = s.codeFlash := rfl
@[simp] theorem State.withJob_barMem (s : State) (i : Nat) (f : Job → Job) : (s.withJob i f).barMem = s.barMem := rfl
@[simp] theorem State.withJob_hostMem (s : State) (i : Nat) (f : Job → Job) : (s.withJob i f).hostMem = s.hostMem := rfl

/-! ### withIntake -/

@[simp] theorem State.withIntake_pending (s : State) (i : Nat) (f : Intake → Intake) : (s.withIntake i f).pending = s.pending := rfl
@[simp] theorem State.withIntake_free (s : State) (i : Nat) (f : Intake → Intake) : (s.withIntake i f).free = s.free := rfl
@[simp] theorem State.withIntake_power (s : State) (i : Nat) (f : Intake → Intake) : (s.withIntake i f).power = s.power := rfl
@[simp] theorem State.withIntake_clock (s : State) (i : Nat) (f : Intake → Intake) : (s.withIntake i f).clock = s.clock := rfl
@[simp] theorem State.withIntake_islands (s : State) (i : Nat) (f : Intake → Intake) : (s.withIntake i f).islands = s.islands := rfl
@[simp] theorem State.withIntake_evr (s : State) (i : Nat) (f : Intake → Intake) : (s.withIntake i f).evr = s.evr := rfl
@[simp] theorem State.withIntake_mode (s : State) (i : Nat) (f : Intake → Intake) : (s.withIntake i f).mode = s.mode := rfl
@[simp] theorem State.withIntake_link (s : State) (i : Nat) (f : Intake → Intake) : (s.withIntake i f).link = s.link := rfl
@[simp] theorem State.withIntake_parts (s : State) (i : Nat) (f : Intake → Intake) : (s.withIntake i f).parts = s.parts := rfl
@[simp] theorem State.withIntake_rings (s : State) (i : Nat) (f : Intake → Intake) : (s.withIntake i f).rings = s.rings := rfl
@[simp] theorem State.withIntake_jobs (s : State) (i : Nat) (f : Intake → Intake) : (s.withIntake i f).jobs = s.jobs := rfl
@[simp] theorem State.withIntake_nextJob (s : State) (i : Nat) (f : Intake → Intake) : (s.withIntake i f).nextJob = s.nextJob := rfl
@[simp] theorem State.withIntake_intake (s : State) (i : Nat) (f : Intake → Intake) : (s.withIntake i f).intake = s.intake.upd {} i f := rfl
@[simp] theorem State.withIntake_disp (s : State) (i : Nat) (f : Intake → Intake) : (s.withIntake i f).disp = s.disp := rfl
@[simp] theorem State.withIntake_lanes (s : State) (i : Nat) (f : Intake → Intake) : (s.withIntake i f).lanes = s.lanes := rfl
@[simp] theorem State.withIntake_meter (s : State) (i : Nat) (f : Intake → Intake) : (s.withIntake i f).meter = s.meter := rfl
@[simp] theorem State.withIntake_guards (s : State) (i : Nat) (f : Intake → Intake) : (s.withIntake i f).guards = s.guards := rfl
@[simp] theorem State.withIntake_guardSt (s : State) (i : Nat) (f : Intake → Intake) : (s.withIntake i f).guardSt = s.guardSt := rfl
@[simp] theorem State.withIntake_tamper (s : State) (i : Nat) (f : Intake → Intake) : (s.withIntake i f).tamper = s.tamper := rfl
@[simp] theorem State.withIntake_mgmt (s : State) (i : Nat) (f : Intake → Intake) : (s.withIntake i f).mgmt = s.mgmt := rfl
@[simp] theorem State.withIntake_keys (s : State) (i : Nat) (f : Intake → Intake) : (s.withIntake i f).keys = s.keys := rfl
@[simp] theorem State.withIntake_rng (s : State) (i : Nat) (f : Intake → Intake) : (s.withIntake i f).rng = s.rng := rfl
@[simp] theorem State.withIntake_dma (s : State) (i : Nat) (f : Intake → Intake) : (s.withIntake i f).dma = s.dma := rfl
@[simp] theorem State.withIntake_code (s : State) (i : Nat) (f : Intake → Intake) : (s.withIntake i f).code = s.code := rfl
@[simp] theorem State.withIntake_vault (s : State) (i : Nat) (f : Intake → Intake) : (s.withIntake i f).vault = s.vault := rfl
@[simp] theorem State.withIntake_verb (s : State) (i : Nat) (f : Intake → Intake) : (s.withIntake i f).verb = s.verb := rfl
@[simp] theorem State.withIntake_appr (s : State) (i : Nat) (f : Intake → Intake) : (s.withIntake i f).appr = s.appr := rfl
@[simp] theorem State.withIntake_tag (s : State) (i : Nat) (f : Intake → Intake) : (s.withIntake i f).tag = s.tag := rfl
@[simp] theorem State.withIntake_life (s : State) (i : Nat) (f : Intake → Intake) : (s.withIntake i f).life = s.life := rfl
@[simp] theorem State.withIntake_stood (s : State) (i : Nat) (f : Intake → Intake) : (s.withIntake i f).stood = s.stood := rfl
@[simp] theorem State.withIntake_gls (s : State) (i : Nat) (f : Intake → Intake) : (s.withIntake i f).gls = s.gls := rfl
@[simp] theorem State.withIntake_mem (s : State) (i : Nat) (f : Intake → Intake) : (s.withIntake i f).mem = s.mem := rfl
@[simp] theorem State.withIntake_codeFlash (s : State) (i : Nat) (f : Intake → Intake) : (s.withIntake i f).codeFlash = s.codeFlash := rfl
@[simp] theorem State.withIntake_barMem (s : State) (i : Nat) (f : Intake → Intake) : (s.withIntake i f).barMem = s.barMem := rfl
@[simp] theorem State.withIntake_hostMem (s : State) (i : Nat) (f : Intake → Intake) : (s.withIntake i f).hostMem = s.hostMem := rfl

/-! ### withGuard -/

@[simp] theorem State.withGuard_pending (s : State) (i : Nat) (f : Guard → Guard) : (s.withGuard i f).pending = s.pending := rfl
@[simp] theorem State.withGuard_free (s : State) (i : Nat) (f : Guard → Guard) : (s.withGuard i f).free = s.free := rfl
@[simp] theorem State.withGuard_power (s : State) (i : Nat) (f : Guard → Guard) : (s.withGuard i f).power = s.power := rfl
@[simp] theorem State.withGuard_clock (s : State) (i : Nat) (f : Guard → Guard) : (s.withGuard i f).clock = s.clock := rfl
@[simp] theorem State.withGuard_islands (s : State) (i : Nat) (f : Guard → Guard) : (s.withGuard i f).islands = s.islands := rfl
@[simp] theorem State.withGuard_evr (s : State) (i : Nat) (f : Guard → Guard) : (s.withGuard i f).evr = s.evr := rfl
@[simp] theorem State.withGuard_mode (s : State) (i : Nat) (f : Guard → Guard) : (s.withGuard i f).mode = s.mode := rfl
@[simp] theorem State.withGuard_link (s : State) (i : Nat) (f : Guard → Guard) : (s.withGuard i f).link = s.link := rfl
@[simp] theorem State.withGuard_parts (s : State) (i : Nat) (f : Guard → Guard) : (s.withGuard i f).parts = s.parts := rfl
@[simp] theorem State.withGuard_rings (s : State) (i : Nat) (f : Guard → Guard) : (s.withGuard i f).rings = s.rings := rfl
@[simp] theorem State.withGuard_jobs (s : State) (i : Nat) (f : Guard → Guard) : (s.withGuard i f).jobs = s.jobs := rfl
@[simp] theorem State.withGuard_nextJob (s : State) (i : Nat) (f : Guard → Guard) : (s.withGuard i f).nextJob = s.nextJob := rfl
@[simp] theorem State.withGuard_intake (s : State) (i : Nat) (f : Guard → Guard) : (s.withGuard i f).intake = s.intake := rfl
@[simp] theorem State.withGuard_disp (s : State) (i : Nat) (f : Guard → Guard) : (s.withGuard i f).disp = s.disp := rfl
@[simp] theorem State.withGuard_lanes (s : State) (i : Nat) (f : Guard → Guard) : (s.withGuard i f).lanes = s.lanes := rfl
@[simp] theorem State.withGuard_meter (s : State) (i : Nat) (f : Guard → Guard) : (s.withGuard i f).meter = s.meter := rfl
@[simp] theorem State.withGuard_guards (s : State) (i : Nat) (f : Guard → Guard) : (s.withGuard i f).guards = s.guards.upd {} i f := rfl
@[simp] theorem State.withGuard_guardSt (s : State) (i : Nat) (f : Guard → Guard) : (s.withGuard i f).guardSt = s.guardSt := rfl
@[simp] theorem State.withGuard_tamper (s : State) (i : Nat) (f : Guard → Guard) : (s.withGuard i f).tamper = s.tamper := rfl
@[simp] theorem State.withGuard_mgmt (s : State) (i : Nat) (f : Guard → Guard) : (s.withGuard i f).mgmt = s.mgmt := rfl
@[simp] theorem State.withGuard_keys (s : State) (i : Nat) (f : Guard → Guard) : (s.withGuard i f).keys = s.keys := rfl
@[simp] theorem State.withGuard_rng (s : State) (i : Nat) (f : Guard → Guard) : (s.withGuard i f).rng = s.rng := rfl
@[simp] theorem State.withGuard_dma (s : State) (i : Nat) (f : Guard → Guard) : (s.withGuard i f).dma = s.dma := rfl
@[simp] theorem State.withGuard_code (s : State) (i : Nat) (f : Guard → Guard) : (s.withGuard i f).code = s.code := rfl
@[simp] theorem State.withGuard_vault (s : State) (i : Nat) (f : Guard → Guard) : (s.withGuard i f).vault = s.vault := rfl
@[simp] theorem State.withGuard_verb (s : State) (i : Nat) (f : Guard → Guard) : (s.withGuard i f).verb = s.verb := rfl
@[simp] theorem State.withGuard_appr (s : State) (i : Nat) (f : Guard → Guard) : (s.withGuard i f).appr = s.appr := rfl
@[simp] theorem State.withGuard_tag (s : State) (i : Nat) (f : Guard → Guard) : (s.withGuard i f).tag = s.tag := rfl
@[simp] theorem State.withGuard_life (s : State) (i : Nat) (f : Guard → Guard) : (s.withGuard i f).life = s.life := rfl
@[simp] theorem State.withGuard_stood (s : State) (i : Nat) (f : Guard → Guard) : (s.withGuard i f).stood = s.stood := rfl
@[simp] theorem State.withGuard_gls (s : State) (i : Nat) (f : Guard → Guard) : (s.withGuard i f).gls = s.gls := rfl
@[simp] theorem State.withGuard_mem (s : State) (i : Nat) (f : Guard → Guard) : (s.withGuard i f).mem = s.mem := rfl
@[simp] theorem State.withGuard_codeFlash (s : State) (i : Nat) (f : Guard → Guard) : (s.withGuard i f).codeFlash = s.codeFlash := rfl
@[simp] theorem State.withGuard_barMem (s : State) (i : Nat) (f : Guard → Guard) : (s.withGuard i f).barMem = s.barMem := rfl
@[simp] theorem State.withGuard_hostMem (s : State) (i : Nat) (f : Guard → Guard) : (s.withGuard i f).hostMem = s.hostMem := rfl

/-! ### withSlot -/

@[simp] theorem State.withSlot_pending (s : State) (i : Nat) (f : KSlot → KSlot) : (s.withSlot i f).pending = s.pending := rfl
@[simp] theorem State.withSlot_free (s : State) (i : Nat) (f : KSlot → KSlot) : (s.withSlot i f).free = s.free := rfl
@[simp] theorem State.withSlot_power (s : State) (i : Nat) (f : KSlot → KSlot) : (s.withSlot i f).power = s.power := rfl
@[simp] theorem State.withSlot_clock (s : State) (i : Nat) (f : KSlot → KSlot) : (s.withSlot i f).clock = s.clock := rfl
@[simp] theorem State.withSlot_islands (s : State) (i : Nat) (f : KSlot → KSlot) : (s.withSlot i f).islands = s.islands := rfl
@[simp] theorem State.withSlot_evr (s : State) (i : Nat) (f : KSlot → KSlot) : (s.withSlot i f).evr = s.evr := rfl
@[simp] theorem State.withSlot_mode (s : State) (i : Nat) (f : KSlot → KSlot) : (s.withSlot i f).mode = s.mode := rfl
@[simp] theorem State.withSlot_link (s : State) (i : Nat) (f : KSlot → KSlot) : (s.withSlot i f).link = s.link := rfl
@[simp] theorem State.withSlot_parts (s : State) (i : Nat) (f : KSlot → KSlot) : (s.withSlot i f).parts = s.parts := rfl
@[simp] theorem State.withSlot_rings (s : State) (i : Nat) (f : KSlot → KSlot) : (s.withSlot i f).rings = s.rings := rfl
@[simp] theorem State.withSlot_jobs (s : State) (i : Nat) (f : KSlot → KSlot) : (s.withSlot i f).jobs = s.jobs := rfl
@[simp] theorem State.withSlot_nextJob (s : State) (i : Nat) (f : KSlot → KSlot) : (s.withSlot i f).nextJob = s.nextJob := rfl
@[simp] theorem State.withSlot_intake (s : State) (i : Nat) (f : KSlot → KSlot) : (s.withSlot i f).intake = s.intake := rfl
@[simp] theorem State.withSlot_disp (s : State) (i : Nat) (f : KSlot → KSlot) : (s.withSlot i f).disp = s.disp := rfl
@[simp] theorem State.withSlot_lanes (s : State) (i : Nat) (f : KSlot → KSlot) : (s.withSlot i f).lanes = s.lanes := rfl
@[simp] theorem State.withSlot_meter (s : State) (i : Nat) (f : KSlot → KSlot) : (s.withSlot i f).meter = s.meter := rfl
@[simp] theorem State.withSlot_guards (s : State) (i : Nat) (f : KSlot → KSlot) : (s.withSlot i f).guards = s.guards := rfl
@[simp] theorem State.withSlot_guardSt (s : State) (i : Nat) (f : KSlot → KSlot) : (s.withSlot i f).guardSt = s.guardSt := rfl
@[simp] theorem State.withSlot_tamper (s : State) (i : Nat) (f : KSlot → KSlot) : (s.withSlot i f).tamper = s.tamper := rfl
@[simp] theorem State.withSlot_mgmt (s : State) (i : Nat) (f : KSlot → KSlot) : (s.withSlot i f).mgmt = s.mgmt := rfl
@[simp] theorem State.withSlot_keys (s : State) (i : Nat) (f : KSlot → KSlot) :
    (s.withSlot i f).keys = { s.keys with slots := s.keys.slots.upd {} i f } := rfl
@[simp] theorem State.withSlot_rng (s : State) (i : Nat) (f : KSlot → KSlot) : (s.withSlot i f).rng = s.rng := rfl
@[simp] theorem State.withSlot_dma (s : State) (i : Nat) (f : KSlot → KSlot) : (s.withSlot i f).dma = s.dma := rfl
@[simp] theorem State.withSlot_code (s : State) (i : Nat) (f : KSlot → KSlot) : (s.withSlot i f).code = s.code := rfl
@[simp] theorem State.withSlot_vault (s : State) (i : Nat) (f : KSlot → KSlot) : (s.withSlot i f).vault = s.vault := rfl
@[simp] theorem State.withSlot_verb (s : State) (i : Nat) (f : KSlot → KSlot) : (s.withSlot i f).verb = s.verb := rfl
@[simp] theorem State.withSlot_appr (s : State) (i : Nat) (f : KSlot → KSlot) : (s.withSlot i f).appr = s.appr := rfl
@[simp] theorem State.withSlot_tag (s : State) (i : Nat) (f : KSlot → KSlot) : (s.withSlot i f).tag = s.tag := rfl
@[simp] theorem State.withSlot_life (s : State) (i : Nat) (f : KSlot → KSlot) : (s.withSlot i f).life = s.life := rfl
@[simp] theorem State.withSlot_stood (s : State) (i : Nat) (f : KSlot → KSlot) : (s.withSlot i f).stood = s.stood := rfl
@[simp] theorem State.withSlot_gls (s : State) (i : Nat) (f : KSlot → KSlot) : (s.withSlot i f).gls = s.gls := rfl
@[simp] theorem State.withSlot_mem (s : State) (i : Nat) (f : KSlot → KSlot) : (s.withSlot i f).mem = s.mem := rfl
@[simp] theorem State.withSlot_codeFlash (s : State) (i : Nat) (f : KSlot → KSlot) : (s.withSlot i f).codeFlash = s.codeFlash := rfl
@[simp] theorem State.withSlot_barMem (s : State) (i : Nat) (f : KSlot → KSlot) : (s.withSlot i f).barMem = s.barMem := rfl
@[simp] theorem State.withSlot_hostMem (s : State) (i : Nat) (f : KSlot → KSlot) : (s.withSlot i f).hostMem = s.hostMem := rfl

/-! ### withChan -/

@[simp] theorem State.withChan_pending (s : State) (i : Nat) (f : DmaCh → DmaCh) : (s.withChan i f).pending = s.pending := rfl
@[simp] theorem State.withChan_free (s : State) (i : Nat) (f : DmaCh → DmaCh) : (s.withChan i f).free = s.free := rfl
@[simp] theorem State.withChan_power (s : State) (i : Nat) (f : DmaCh → DmaCh) : (s.withChan i f).power = s.power := rfl
@[simp] theorem State.withChan_clock (s : State) (i : Nat) (f : DmaCh → DmaCh) : (s.withChan i f).clock = s.clock := rfl
@[simp] theorem State.withChan_islands (s : State) (i : Nat) (f : DmaCh → DmaCh) : (s.withChan i f).islands = s.islands := rfl
@[simp] theorem State.withChan_evr (s : State) (i : Nat) (f : DmaCh → DmaCh) : (s.withChan i f).evr = s.evr := rfl
@[simp] theorem State.withChan_mode (s : State) (i : Nat) (f : DmaCh → DmaCh) : (s.withChan i f).mode = s.mode := rfl
@[simp] theorem State.withChan_link (s : State) (i : Nat) (f : DmaCh → DmaCh) : (s.withChan i f).link = s.link := rfl
@[simp] theorem State.withChan_parts (s : State) (i : Nat) (f : DmaCh → DmaCh) : (s.withChan i f).parts = s.parts := rfl
@[simp] theorem State.withChan_rings (s : State) (i : Nat) (f : DmaCh → DmaCh) : (s.withChan i f).rings = s.rings := rfl
@[simp] theorem State.withChan_jobs (s : State) (i : Nat) (f : DmaCh → DmaCh) : (s.withChan i f).jobs = s.jobs := rfl
@[simp] theorem State.withChan_nextJob (s : State) (i : Nat) (f : DmaCh → DmaCh) : (s.withChan i f).nextJob = s.nextJob := rfl
@[simp] theorem State.withChan_intake (s : State) (i : Nat) (f : DmaCh → DmaCh) : (s.withChan i f).intake = s.intake := rfl
@[simp] theorem State.withChan_disp (s : State) (i : Nat) (f : DmaCh → DmaCh) : (s.withChan i f).disp = s.disp := rfl
@[simp] theorem State.withChan_lanes (s : State) (i : Nat) (f : DmaCh → DmaCh) : (s.withChan i f).lanes = s.lanes := rfl
@[simp] theorem State.withChan_meter (s : State) (i : Nat) (f : DmaCh → DmaCh) : (s.withChan i f).meter = s.meter := rfl
@[simp] theorem State.withChan_guards (s : State) (i : Nat) (f : DmaCh → DmaCh) : (s.withChan i f).guards = s.guards := rfl
@[simp] theorem State.withChan_guardSt (s : State) (i : Nat) (f : DmaCh → DmaCh) : (s.withChan i f).guardSt = s.guardSt := rfl
@[simp] theorem State.withChan_tamper (s : State) (i : Nat) (f : DmaCh → DmaCh) : (s.withChan i f).tamper = s.tamper := rfl
@[simp] theorem State.withChan_mgmt (s : State) (i : Nat) (f : DmaCh → DmaCh) : (s.withChan i f).mgmt = s.mgmt := rfl
@[simp] theorem State.withChan_keys (s : State) (i : Nat) (f : DmaCh → DmaCh) : (s.withChan i f).keys = s.keys := rfl
@[simp] theorem State.withChan_rng (s : State) (i : Nat) (f : DmaCh → DmaCh) : (s.withChan i f).rng = s.rng := rfl
@[simp] theorem State.withChan_dma (s : State) (i : Nat) (f : DmaCh → DmaCh) :
    (s.withChan i f).dma = { s.dma with chans := s.dma.chans.upd {} i f } := rfl
@[simp] theorem State.withChan_code (s : State) (i : Nat) (f : DmaCh → DmaCh) : (s.withChan i f).code = s.code := rfl
@[simp] theorem State.withChan_vault (s : State) (i : Nat) (f : DmaCh → DmaCh) : (s.withChan i f).vault = s.vault := rfl
@[simp] theorem State.withChan_verb (s : State) (i : Nat) (f : DmaCh → DmaCh) : (s.withChan i f).verb = s.verb := rfl
@[simp] theorem State.withChan_appr (s : State) (i : Nat) (f : DmaCh → DmaCh) : (s.withChan i f).appr = s.appr := rfl
@[simp] theorem State.withChan_tag (s : State) (i : Nat) (f : DmaCh → DmaCh) : (s.withChan i f).tag = s.tag := rfl
@[simp] theorem State.withChan_life (s : State) (i : Nat) (f : DmaCh → DmaCh) : (s.withChan i f).life = s.life := rfl
@[simp] theorem State.withChan_stood (s : State) (i : Nat) (f : DmaCh → DmaCh) : (s.withChan i f).stood = s.stood := rfl
@[simp] theorem State.withChan_gls (s : State) (i : Nat) (f : DmaCh → DmaCh) : (s.withChan i f).gls = s.gls := rfl
@[simp] theorem State.withChan_mem (s : State) (i : Nat) (f : DmaCh → DmaCh) : (s.withChan i f).mem = s.mem := rfl
@[simp] theorem State.withChan_codeFlash (s : State) (i : Nat) (f : DmaCh → DmaCh) : (s.withChan i f).codeFlash = s.codeFlash := rfl
@[simp] theorem State.withChan_barMem (s : State) (i : Nat) (f : DmaCh → DmaCh) : (s.withChan i f).barMem = s.barMem := rfl
@[simp] theorem State.withChan_hostMem (s : State) (i : Nat) (f : DmaCh → DmaCh) : (s.withChan i f).hostMem = s.hostMem := rfl

/-! ### withSquad -/

@[simp] theorem State.withSquad_pending (s : State) (i : Nat) (f : Squad → Squad) : (s.withSquad i f).pending = s.pending := rfl
@[simp] theorem State.withSquad_free (s : State) (i : Nat) (f : Squad → Squad) : (s.withSquad i f).free = s.free := rfl
@[simp] theorem State.withSquad_power (s : State) (i : Nat) (f : Squad → Squad) : (s.withSquad i f).power = s.power := rfl
@[simp] theorem State.withSquad_clock (s : State) (i : Nat) (f : Squad → Squad) : (s.withSquad i f).clock = s.clock := rfl
@[simp] theorem State.withSquad_islands (s : State) (i : Nat) (f : Squad → Squad) : (s.withSquad i f).islands = s.islands := rfl
@[simp] theorem State.withSquad_evr (s : State) (i : Nat) (f : Squad → Squad) : (s.withSquad i f).evr = s.evr := rfl
@[simp] theorem State.withSquad_mode (s : State) (i : Nat) (f : Squad → Squad) : (s.withSquad i f).mode = s.mode := rfl
@[simp] theorem State.withSquad_link (s : State) (i : Nat) (f : Squad → Squad) : (s.withSquad i f).link = s.link := rfl
@[simp] theorem State.withSquad_parts (s : State) (i : Nat) (f : Squad → Squad) : (s.withSquad i f).parts = s.parts := rfl
@[simp] theorem State.withSquad_rings (s : State) (i : Nat) (f : Squad → Squad) : (s.withSquad i f).rings = s.rings := rfl
@[simp] theorem State.withSquad_jobs (s : State) (i : Nat) (f : Squad → Squad) : (s.withSquad i f).jobs = s.jobs := rfl
@[simp] theorem State.withSquad_nextJob (s : State) (i : Nat) (f : Squad → Squad) : (s.withSquad i f).nextJob = s.nextJob := rfl
@[simp] theorem State.withSquad_intake (s : State) (i : Nat) (f : Squad → Squad) : (s.withSquad i f).intake = s.intake := rfl
@[simp] theorem State.withSquad_disp (s : State) (i : Nat) (f : Squad → Squad) : (s.withSquad i f).disp = s.disp := rfl
@[simp] theorem State.withSquad_lanes (s : State) (i : Nat) (f : Squad → Squad) :
    (s.withSquad i f).lanes = { s.lanes with squads := s.lanes.squads.upd {} i f } := rfl
@[simp] theorem State.withSquad_meter (s : State) (i : Nat) (f : Squad → Squad) : (s.withSquad i f).meter = s.meter := rfl
@[simp] theorem State.withSquad_guards (s : State) (i : Nat) (f : Squad → Squad) : (s.withSquad i f).guards = s.guards := rfl
@[simp] theorem State.withSquad_guardSt (s : State) (i : Nat) (f : Squad → Squad) : (s.withSquad i f).guardSt = s.guardSt := rfl
@[simp] theorem State.withSquad_tamper (s : State) (i : Nat) (f : Squad → Squad) : (s.withSquad i f).tamper = s.tamper := rfl
@[simp] theorem State.withSquad_mgmt (s : State) (i : Nat) (f : Squad → Squad) : (s.withSquad i f).mgmt = s.mgmt := rfl
@[simp] theorem State.withSquad_keys (s : State) (i : Nat) (f : Squad → Squad) : (s.withSquad i f).keys = s.keys := rfl
@[simp] theorem State.withSquad_rng (s : State) (i : Nat) (f : Squad → Squad) : (s.withSquad i f).rng = s.rng := rfl
@[simp] theorem State.withSquad_dma (s : State) (i : Nat) (f : Squad → Squad) : (s.withSquad i f).dma = s.dma := rfl
@[simp] theorem State.withSquad_code (s : State) (i : Nat) (f : Squad → Squad) : (s.withSquad i f).code = s.code := rfl
@[simp] theorem State.withSquad_vault (s : State) (i : Nat) (f : Squad → Squad) : (s.withSquad i f).vault = s.vault := rfl
@[simp] theorem State.withSquad_verb (s : State) (i : Nat) (f : Squad → Squad) : (s.withSquad i f).verb = s.verb := rfl
@[simp] theorem State.withSquad_appr (s : State) (i : Nat) (f : Squad → Squad) : (s.withSquad i f).appr = s.appr := rfl
@[simp] theorem State.withSquad_tag (s : State) (i : Nat) (f : Squad → Squad) : (s.withSquad i f).tag = s.tag := rfl
@[simp] theorem State.withSquad_life (s : State) (i : Nat) (f : Squad → Squad) : (s.withSquad i f).life = s.life := rfl
@[simp] theorem State.withSquad_stood (s : State) (i : Nat) (f : Squad → Squad) : (s.withSquad i f).stood = s.stood := rfl
@[simp] theorem State.withSquad_gls (s : State) (i : Nat) (f : Squad → Squad) : (s.withSquad i f).gls = s.gls := rfl
@[simp] theorem State.withSquad_mem (s : State) (i : Nat) (f : Squad → Squad) : (s.withSquad i f).mem = s.mem := rfl
@[simp] theorem State.withSquad_codeFlash (s : State) (i : Nat) (f : Squad → Squad) : (s.withSquad i f).codeFlash = s.codeFlash := rfl
@[simp] theorem State.withSquad_barMem (s : State) (i : Nat) (f : Squad → Squad) : (s.withSquad i f).barMem = s.barMem := rfl
@[simp] theorem State.withSquad_hostMem (s : State) (i : Nat) (f : Squad → Squad) : (s.withSquad i f).hostMem = s.hostMem := rfl

/-! ### withUnit -/

@[simp] theorem State.withUnit_pending (s : State) (i : Nat) (f : VUnit → VUnit) : (s.withUnit i f).pending = s.pending := rfl
@[simp] theorem State.withUnit_free (s : State) (i : Nat) (f : VUnit → VUnit) : (s.withUnit i f).free = s.free := rfl
@[simp] theorem State.withUnit_power (s : State) (i : Nat) (f : VUnit → VUnit) : (s.withUnit i f).power = s.power := rfl
@[simp] theorem State.withUnit_clock (s : State) (i : Nat) (f : VUnit → VUnit) : (s.withUnit i f).clock = s.clock := rfl
@[simp] theorem State.withUnit_islands (s : State) (i : Nat) (f : VUnit → VUnit) : (s.withUnit i f).islands = s.islands := rfl
@[simp] theorem State.withUnit_evr (s : State) (i : Nat) (f : VUnit → VUnit) : (s.withUnit i f).evr = s.evr := rfl
@[simp] theorem State.withUnit_mode (s : State) (i : Nat) (f : VUnit → VUnit) : (s.withUnit i f).mode = s.mode := rfl
@[simp] theorem State.withUnit_link (s : State) (i : Nat) (f : VUnit → VUnit) : (s.withUnit i f).link = s.link := rfl
@[simp] theorem State.withUnit_parts (s : State) (i : Nat) (f : VUnit → VUnit) : (s.withUnit i f).parts = s.parts := rfl
@[simp] theorem State.withUnit_rings (s : State) (i : Nat) (f : VUnit → VUnit) : (s.withUnit i f).rings = s.rings := rfl
@[simp] theorem State.withUnit_jobs (s : State) (i : Nat) (f : VUnit → VUnit) : (s.withUnit i f).jobs = s.jobs := rfl
@[simp] theorem State.withUnit_nextJob (s : State) (i : Nat) (f : VUnit → VUnit) : (s.withUnit i f).nextJob = s.nextJob := rfl
@[simp] theorem State.withUnit_intake (s : State) (i : Nat) (f : VUnit → VUnit) : (s.withUnit i f).intake = s.intake := rfl
@[simp] theorem State.withUnit_disp (s : State) (i : Nat) (f : VUnit → VUnit) : (s.withUnit i f).disp = s.disp := rfl
@[simp] theorem State.withUnit_lanes (s : State) (i : Nat) (f : VUnit → VUnit) : (s.withUnit i f).lanes = s.lanes := rfl
@[simp] theorem State.withUnit_meter (s : State) (i : Nat) (f : VUnit → VUnit) : (s.withUnit i f).meter = s.meter := rfl
@[simp] theorem State.withUnit_guards (s : State) (i : Nat) (f : VUnit → VUnit) : (s.withUnit i f).guards = s.guards := rfl
@[simp] theorem State.withUnit_guardSt (s : State) (i : Nat) (f : VUnit → VUnit) : (s.withUnit i f).guardSt = s.guardSt := rfl
@[simp] theorem State.withUnit_tamper (s : State) (i : Nat) (f : VUnit → VUnit) : (s.withUnit i f).tamper = s.tamper := rfl
@[simp] theorem State.withUnit_mgmt (s : State) (i : Nat) (f : VUnit → VUnit) : (s.withUnit i f).mgmt = s.mgmt := rfl
@[simp] theorem State.withUnit_keys (s : State) (i : Nat) (f : VUnit → VUnit) : (s.withUnit i f).keys = s.keys := rfl
@[simp] theorem State.withUnit_rng (s : State) (i : Nat) (f : VUnit → VUnit) : (s.withUnit i f).rng = s.rng := rfl
@[simp] theorem State.withUnit_dma (s : State) (i : Nat) (f : VUnit → VUnit) : (s.withUnit i f).dma = s.dma := rfl
@[simp] theorem State.withUnit_code (s : State) (i : Nat) (f : VUnit → VUnit) : (s.withUnit i f).code = s.code := rfl
@[simp] theorem State.withUnit_vault (s : State) (i : Nat) (f : VUnit → VUnit) : (s.withUnit i f).vault = s.vault := rfl
@[simp] theorem State.withUnit_verb (s : State) (i : Nat) (f : VUnit → VUnit) :
    (s.withUnit i f).verb = { s.verb with units := s.verb.units.upd {} i f } := rfl
@[simp] theorem State.withUnit_appr (s : State) (i : Nat) (f : VUnit → VUnit) : (s.withUnit i f).appr = s.appr := rfl
@[simp] theorem State.withUnit_tag (s : State) (i : Nat) (f : VUnit → VUnit) : (s.withUnit i f).tag = s.tag := rfl
@[simp] theorem State.withUnit_life (s : State) (i : Nat) (f : VUnit → VUnit) : (s.withUnit i f).life = s.life := rfl
@[simp] theorem State.withUnit_stood (s : State) (i : Nat) (f : VUnit → VUnit) : (s.withUnit i f).stood = s.stood := rfl
@[simp] theorem State.withUnit_gls (s : State) (i : Nat) (f : VUnit → VUnit) : (s.withUnit i f).gls = s.gls := rfl
@[simp] theorem State.withUnit_mem (s : State) (i : Nat) (f : VUnit → VUnit) : (s.withUnit i f).mem = s.mem := rfl
@[simp] theorem State.withUnit_codeFlash (s : State) (i : Nat) (f : VUnit → VUnit) : (s.withUnit i f).codeFlash = s.codeFlash := rfl
@[simp] theorem State.withUnit_barMem (s : State) (i : Nat) (f : VUnit → VUnit) : (s.withUnit i f).barMem = s.barMem := rfl
@[simp] theorem State.withUnit_hostMem (s : State) (i : Nat) (f : VUnit → VUnit) : (s.withUnit i f).hostMem = s.hostMem := rfl

/-! ### withRing -/

@[simp] theorem State.withRing_pending (s : State) (p r : Nat) (f : Ring → Ring) : (s.withRing p r f).pending = s.pending := rfl
@[simp] theorem State.withRing_free (s : State) (p r : Nat) (f : Ring → Ring) : (s.withRing p r f).free = s.free := rfl
@[simp] theorem State.withRing_power (s : State) (p r : Nat) (f : Ring → Ring) : (s.withRing p r f).power = s.power := rfl
@[simp] theorem State.withRing_clock (s : State) (p r : Nat) (f : Ring → Ring) : (s.withRing p r f).clock = s.clock := rfl
@[simp] theorem State.withRing_islands (s : State) (p r : Nat) (f : Ring → Ring) : (s.withRing p r f).islands = s.islands := rfl
@[simp] theorem State.withRing_evr (s : State) (p r : Nat) (f : Ring → Ring) : (s.withRing p r f).evr = s.evr := rfl
@[simp] theorem State.withRing_mode (s : State) (p r : Nat) (f : Ring → Ring) : (s.withRing p r f).mode = s.mode := rfl
@[simp] theorem State.withRing_link (s : State) (p r : Nat) (f : Ring → Ring) : (s.withRing p r f).link = s.link := rfl
@[simp] theorem State.withRing_parts (s : State) (p r : Nat) (f : Ring → Ring) : (s.withRing p r f).parts = s.parts := rfl
@[simp] theorem State.withRing_rings (s : State) (p r : Nat) (f : Ring → Ring) : (s.withRing p r f).rings = s.rings.upd {} (ringKey p r) f := rfl
@[simp] theorem State.withRing_jobs (s : State) (p r : Nat) (f : Ring → Ring) : (s.withRing p r f).jobs = s.jobs := rfl
@[simp] theorem State.withRing_nextJob (s : State) (p r : Nat) (f : Ring → Ring) : (s.withRing p r f).nextJob = s.nextJob := rfl
@[simp] theorem State.withRing_intake (s : State) (p r : Nat) (f : Ring → Ring) : (s.withRing p r f).intake = s.intake := rfl
@[simp] theorem State.withRing_disp (s : State) (p r : Nat) (f : Ring → Ring) : (s.withRing p r f).disp = s.disp := rfl
@[simp] theorem State.withRing_lanes (s : State) (p r : Nat) (f : Ring → Ring) : (s.withRing p r f).lanes = s.lanes := rfl
@[simp] theorem State.withRing_meter (s : State) (p r : Nat) (f : Ring → Ring) : (s.withRing p r f).meter = s.meter := rfl
@[simp] theorem State.withRing_guards (s : State) (p r : Nat) (f : Ring → Ring) : (s.withRing p r f).guards = s.guards := rfl
@[simp] theorem State.withRing_guardSt (s : State) (p r : Nat) (f : Ring → Ring) : (s.withRing p r f).guardSt = s.guardSt := rfl
@[simp] theorem State.withRing_tamper (s : State) (p r : Nat) (f : Ring → Ring) : (s.withRing p r f).tamper = s.tamper := rfl
@[simp] theorem State.withRing_mgmt (s : State) (p r : Nat) (f : Ring → Ring) : (s.withRing p r f).mgmt = s.mgmt := rfl
@[simp] theorem State.withRing_keys (s : State) (p r : Nat) (f : Ring → Ring) : (s.withRing p r f).keys = s.keys := rfl
@[simp] theorem State.withRing_rng (s : State) (p r : Nat) (f : Ring → Ring) : (s.withRing p r f).rng = s.rng := rfl
@[simp] theorem State.withRing_dma (s : State) (p r : Nat) (f : Ring → Ring) : (s.withRing p r f).dma = s.dma := rfl
@[simp] theorem State.withRing_code (s : State) (p r : Nat) (f : Ring → Ring) : (s.withRing p r f).code = s.code := rfl
@[simp] theorem State.withRing_vault (s : State) (p r : Nat) (f : Ring → Ring) : (s.withRing p r f).vault = s.vault := rfl
@[simp] theorem State.withRing_verb (s : State) (p r : Nat) (f : Ring → Ring) : (s.withRing p r f).verb = s.verb := rfl
@[simp] theorem State.withRing_appr (s : State) (p r : Nat) (f : Ring → Ring) : (s.withRing p r f).appr = s.appr := rfl
@[simp] theorem State.withRing_tag (s : State) (p r : Nat) (f : Ring → Ring) : (s.withRing p r f).tag = s.tag := rfl
@[simp] theorem State.withRing_life (s : State) (p r : Nat) (f : Ring → Ring) : (s.withRing p r f).life = s.life := rfl
@[simp] theorem State.withRing_stood (s : State) (p r : Nat) (f : Ring → Ring) : (s.withRing p r f).stood = s.stood := rfl
@[simp] theorem State.withRing_gls (s : State) (p r : Nat) (f : Ring → Ring) : (s.withRing p r f).gls = s.gls := rfl
@[simp] theorem State.withRing_mem (s : State) (p r : Nat) (f : Ring → Ring) : (s.withRing p r f).mem = s.mem := rfl
@[simp] theorem State.withRing_codeFlash (s : State) (p r : Nat) (f : Ring → Ring) : (s.withRing p r f).codeFlash = s.codeFlash := rfl
@[simp] theorem State.withRing_barMem (s : State) (p r : Nat) (f : Ring → Ring) : (s.withRing p r f).barMem = s.barMem := rfl
@[simp] theorem State.withRing_hostMem (s : State) (p r : Nat) (f : Ring → Ring) : (s.withRing p r f).hostMem = s.hostMem := rfl

/-! ### setIsl -/

@[simp] theorem State.setIsl_pending (s : State) (n v : Nat) : (s.setIsl n v).pending = s.pending := rfl
@[simp] theorem State.setIsl_free (s : State) (n v : Nat) : (s.setIsl n v).free = s.free := rfl
@[simp] theorem State.setIsl_power (s : State) (n v : Nat) : (s.setIsl n v).power = s.power := rfl
@[simp] theorem State.setIsl_clock (s : State) (n v : Nat) : (s.setIsl n v).clock = s.clock := rfl
@[simp] theorem State.setIsl_islands (s : State) (n v : Nat) : (s.setIsl n v).islands = s.islands.set n ⟨v⟩ := rfl
@[simp] theorem State.setIsl_evr (s : State) (n v : Nat) : (s.setIsl n v).evr = s.evr := rfl
@[simp] theorem State.setIsl_mode (s : State) (n v : Nat) : (s.setIsl n v).mode = s.mode := rfl
@[simp] theorem State.setIsl_link (s : State) (n v : Nat) : (s.setIsl n v).link = s.link := rfl
@[simp] theorem State.setIsl_parts (s : State) (n v : Nat) : (s.setIsl n v).parts = s.parts := rfl
@[simp] theorem State.setIsl_rings (s : State) (n v : Nat) : (s.setIsl n v).rings = s.rings := rfl
@[simp] theorem State.setIsl_jobs (s : State) (n v : Nat) : (s.setIsl n v).jobs = s.jobs := rfl
@[simp] theorem State.setIsl_nextJob (s : State) (n v : Nat) : (s.setIsl n v).nextJob = s.nextJob := rfl
@[simp] theorem State.setIsl_intake (s : State) (n v : Nat) : (s.setIsl n v).intake = s.intake := rfl
@[simp] theorem State.setIsl_disp (s : State) (n v : Nat) : (s.setIsl n v).disp = s.disp := rfl
@[simp] theorem State.setIsl_lanes (s : State) (n v : Nat) : (s.setIsl n v).lanes = s.lanes := rfl
@[simp] theorem State.setIsl_meter (s : State) (n v : Nat) : (s.setIsl n v).meter = s.meter := rfl
@[simp] theorem State.setIsl_guards (s : State) (n v : Nat) : (s.setIsl n v).guards = s.guards := rfl
@[simp] theorem State.setIsl_guardSt (s : State) (n v : Nat) : (s.setIsl n v).guardSt = s.guardSt := rfl
@[simp] theorem State.setIsl_tamper (s : State) (n v : Nat) : (s.setIsl n v).tamper = s.tamper := rfl
@[simp] theorem State.setIsl_mgmt (s : State) (n v : Nat) : (s.setIsl n v).mgmt = s.mgmt := rfl
@[simp] theorem State.setIsl_keys (s : State) (n v : Nat) : (s.setIsl n v).keys = s.keys := rfl
@[simp] theorem State.setIsl_rng (s : State) (n v : Nat) : (s.setIsl n v).rng = s.rng := rfl
@[simp] theorem State.setIsl_dma (s : State) (n v : Nat) : (s.setIsl n v).dma = s.dma := rfl
@[simp] theorem State.setIsl_code (s : State) (n v : Nat) : (s.setIsl n v).code = s.code := rfl
@[simp] theorem State.setIsl_vault (s : State) (n v : Nat) : (s.setIsl n v).vault = s.vault := rfl
@[simp] theorem State.setIsl_verb (s : State) (n v : Nat) : (s.setIsl n v).verb = s.verb := rfl
@[simp] theorem State.setIsl_appr (s : State) (n v : Nat) : (s.setIsl n v).appr = s.appr := rfl
@[simp] theorem State.setIsl_tag (s : State) (n v : Nat) : (s.setIsl n v).tag = s.tag := rfl
@[simp] theorem State.setIsl_life (s : State) (n v : Nat) : (s.setIsl n v).life = s.life := rfl
@[simp] theorem State.setIsl_stood (s : State) (n v : Nat) : (s.setIsl n v).stood = s.stood := rfl
@[simp] theorem State.setIsl_gls (s : State) (n v : Nat) : (s.setIsl n v).gls = s.gls := rfl
@[simp] theorem State.setIsl_mem (s : State) (n v : Nat) : (s.setIsl n v).mem = s.mem := rfl
@[simp] theorem State.setIsl_codeFlash (s : State) (n v : Nat) : (s.setIsl n v).codeFlash = s.codeFlash := rfl
@[simp] theorem State.setIsl_barMem (s : State) (n v : Nat) : (s.setIsl n v).barMem = s.barMem := rfl
@[simp] theorem State.setIsl_hostMem (s : State) (n v : Nat) : (s.setIsl n v).hostMem = s.hostMem := rfl

/-! ### present -/

@[simp] theorem State.present_pending (s : State) (n : Nat) (t : Tok) : (s.present n t).pending = s.pending := rfl
@[simp] theorem State.present_free (s : State) (n : Nat) (t : Tok) : (s.present n t).free = s.free := rfl
@[simp] theorem State.present_power (s : State) (n : Nat) (t : Tok) : (s.present n t).power = s.power := rfl
@[simp] theorem State.present_clock (s : State) (n : Nat) (t : Tok) : (s.present n t).clock = s.clock := rfl
@[simp] theorem State.present_islands (s : State) (n : Nat) (t : Tok) : (s.present n t).islands = s.islands := rfl
@[simp] theorem State.present_evr (s : State) (n : Nat) (t : Tok) :
    (s.present n t).evr = { s.evr with ports := s.evr.ports.upd [] n (fun l => l ++ [t]) } := rfl
@[simp] theorem State.present_mode (s : State) (n : Nat) (t : Tok) : (s.present n t).mode = s.mode := rfl
@[simp] theorem State.present_link (s : State) (n : Nat) (t : Tok) : (s.present n t).link = s.link := rfl
@[simp] theorem State.present_parts (s : State) (n : Nat) (t : Tok) : (s.present n t).parts = s.parts := rfl
@[simp] theorem State.present_rings (s : State) (n : Nat) (t : Tok) : (s.present n t).rings = s.rings := rfl
@[simp] theorem State.present_jobs (s : State) (n : Nat) (t : Tok) : (s.present n t).jobs = s.jobs := rfl
@[simp] theorem State.present_nextJob (s : State) (n : Nat) (t : Tok) : (s.present n t).nextJob = s.nextJob := rfl
@[simp] theorem State.present_intake (s : State) (n : Nat) (t : Tok) : (s.present n t).intake = s.intake := rfl
@[simp] theorem State.present_disp (s : State) (n : Nat) (t : Tok) : (s.present n t).disp = s.disp := rfl
@[simp] theorem State.present_lanes (s : State) (n : Nat) (t : Tok) : (s.present n t).lanes = s.lanes := rfl
@[simp] theorem State.present_meter (s : State) (n : Nat) (t : Tok) : (s.present n t).meter = s.meter := rfl
@[simp] theorem State.present_guards (s : State) (n : Nat) (t : Tok) : (s.present n t).guards = s.guards := rfl
@[simp] theorem State.present_guardSt (s : State) (n : Nat) (t : Tok) : (s.present n t).guardSt = s.guardSt := rfl
@[simp] theorem State.present_tamper (s : State) (n : Nat) (t : Tok) : (s.present n t).tamper = s.tamper := rfl
@[simp] theorem State.present_mgmt (s : State) (n : Nat) (t : Tok) : (s.present n t).mgmt = s.mgmt := rfl
@[simp] theorem State.present_keys (s : State) (n : Nat) (t : Tok) : (s.present n t).keys = s.keys := rfl
@[simp] theorem State.present_rng (s : State) (n : Nat) (t : Tok) : (s.present n t).rng = s.rng := rfl
@[simp] theorem State.present_dma (s : State) (n : Nat) (t : Tok) : (s.present n t).dma = s.dma := rfl
@[simp] theorem State.present_code (s : State) (n : Nat) (t : Tok) : (s.present n t).code = s.code := rfl
@[simp] theorem State.present_vault (s : State) (n : Nat) (t : Tok) : (s.present n t).vault = s.vault := rfl
@[simp] theorem State.present_verb (s : State) (n : Nat) (t : Tok) : (s.present n t).verb = s.verb := rfl
@[simp] theorem State.present_appr (s : State) (n : Nat) (t : Tok) : (s.present n t).appr = s.appr := rfl
@[simp] theorem State.present_tag (s : State) (n : Nat) (t : Tok) : (s.present n t).tag = s.tag := rfl
@[simp] theorem State.present_life (s : State) (n : Nat) (t : Tok) : (s.present n t).life = s.life := rfl
@[simp] theorem State.present_stood (s : State) (n : Nat) (t : Tok) : (s.present n t).stood = s.stood := rfl
@[simp] theorem State.present_gls (s : State) (n : Nat) (t : Tok) : (s.present n t).gls = s.gls := rfl
@[simp] theorem State.present_mem (s : State) (n : Nat) (t : Tok) : (s.present n t).mem = s.mem := rfl
@[simp] theorem State.present_codeFlash (s : State) (n : Nat) (t : Tok) : (s.present n t).codeFlash = s.codeFlash := rfl
@[simp] theorem State.present_barMem (s : State) (n : Nat) (t : Tok) : (s.present n t).barMem = s.barMem := rfl
@[simp] theorem State.present_hostMem (s : State) (n : Nat) (t : Tok) : (s.present n t).hostMem = s.hostMem := rfl

/-! ### event -/

@[simp] theorem State.event_pending (s : State) (n code len : Nat) (pay : Bytes) : (s.event n code len pay).pending = s.pending := rfl
@[simp] theorem State.event_free (s : State) (n code len : Nat) (pay : Bytes) : (s.event n code len pay).free = s.free := rfl
@[simp] theorem State.event_power (s : State) (n code len : Nat) (pay : Bytes) : (s.event n code len pay).power = s.power := rfl
@[simp] theorem State.event_clock (s : State) (n code len : Nat) (pay : Bytes) : (s.event n code len pay).clock = s.clock := rfl
@[simp] theorem State.event_islands (s : State) (n code len : Nat) (pay : Bytes) : (s.event n code len pay).islands = s.islands := rfl
@[simp] theorem State.event_evr (s : State) (n code len : Nat) (pay : Bytes) :
    (s.event n code len pay).evr = { s.evr with ports := s.evr.ports.upd [] n (fun l => l ++ [.evt code (fit (16 * len) pay)]) } := rfl
@[simp] theorem State.event_mode (s : State) (n code len : Nat) (pay : Bytes) : (s.event n code len pay).mode = s.mode := rfl
@[simp] theorem State.event_link (s : State) (n code len : Nat) (pay : Bytes) : (s.event n code len pay).link = s.link := rfl
@[simp] theorem State.event_parts (s : State) (n code len : Nat) (pay : Bytes) : (s.event n code len pay).parts = s.parts := rfl
@[simp] theorem State.event_rings (s : State) (n code len : Nat) (pay : Bytes) : (s.event n code len pay).rings = s.rings := rfl
@[simp] theorem State.event_jobs (s : State) (n code len : Nat) (pay : Bytes) : (s.event n code len pay).jobs = s.jobs := rfl
@[simp] theorem State.event_nextJob (s : State) (n code len : Nat) (pay : Bytes) : (s.event n code len pay).nextJob = s.nextJob := rfl
@[simp] theorem State.event_intake (s : State) (n code len : Nat) (pay : Bytes) : (s.event n code len pay).intake = s.intake := rfl
@[simp] theorem State.event_disp (s : State) (n code len : Nat) (pay : Bytes) : (s.event n code len pay).disp = s.disp := rfl
@[simp] theorem State.event_lanes (s : State) (n code len : Nat) (pay : Bytes) : (s.event n code len pay).lanes = s.lanes := rfl
@[simp] theorem State.event_meter (s : State) (n code len : Nat) (pay : Bytes) : (s.event n code len pay).meter = s.meter := rfl
@[simp] theorem State.event_guards (s : State) (n code len : Nat) (pay : Bytes) : (s.event n code len pay).guards = s.guards := rfl
@[simp] theorem State.event_guardSt (s : State) (n code len : Nat) (pay : Bytes) : (s.event n code len pay).guardSt = s.guardSt := rfl
@[simp] theorem State.event_tamper (s : State) (n code len : Nat) (pay : Bytes) : (s.event n code len pay).tamper = s.tamper := rfl
@[simp] theorem State.event_mgmt (s : State) (n code len : Nat) (pay : Bytes) : (s.event n code len pay).mgmt = s.mgmt := rfl
@[simp] theorem State.event_keys (s : State) (n code len : Nat) (pay : Bytes) : (s.event n code len pay).keys = s.keys := rfl
@[simp] theorem State.event_rng (s : State) (n code len : Nat) (pay : Bytes) : (s.event n code len pay).rng = s.rng := rfl
@[simp] theorem State.event_dma (s : State) (n code len : Nat) (pay : Bytes) : (s.event n code len pay).dma = s.dma := rfl
@[simp] theorem State.event_code (s : State) (n code len : Nat) (pay : Bytes) : (s.event n code len pay).code = s.code := rfl
@[simp] theorem State.event_vault (s : State) (n code len : Nat) (pay : Bytes) : (s.event n code len pay).vault = s.vault := rfl
@[simp] theorem State.event_verb (s : State) (n code len : Nat) (pay : Bytes) : (s.event n code len pay).verb = s.verb := rfl
@[simp] theorem State.event_appr (s : State) (n code len : Nat) (pay : Bytes) : (s.event n code len pay).appr = s.appr := rfl
@[simp] theorem State.event_tag (s : State) (n code len : Nat) (pay : Bytes) : (s.event n code len pay).tag = s.tag := rfl
@[simp] theorem State.event_life (s : State) (n code len : Nat) (pay : Bytes) : (s.event n code len pay).life = s.life := rfl
@[simp] theorem State.event_stood (s : State) (n code len : Nat) (pay : Bytes) : (s.event n code len pay).stood = s.stood := rfl
@[simp] theorem State.event_gls (s : State) (n code len : Nat) (pay : Bytes) : (s.event n code len pay).gls = s.gls := rfl
@[simp] theorem State.event_mem (s : State) (n code len : Nat) (pay : Bytes) : (s.event n code len pay).mem = s.mem := rfl
@[simp] theorem State.event_codeFlash (s : State) (n code len : Nat) (pay : Bytes) : (s.event n code len pay).codeFlash = s.codeFlash := rfl
@[simp] theorem State.event_barMem (s : State) (n code len : Nat) (pay : Bytes) : (s.event n code len pay).barMem = s.barMem := rfl
@[simp] theorem State.event_hostMem (s : State) (n code len : Nat) (pay : Bytes) : (s.event n code len pay).hostMem = s.hostMem := rfl

/-! ### report -/

@[simp] theorem State.report_pending (s : State) (n code subj detail : Nat) : (s.report n code subj detail).pending = s.pending := rfl
@[simp] theorem State.report_free (s : State) (n code subj detail : Nat) : (s.report n code subj detail).free = s.free := rfl
@[simp] theorem State.report_power (s : State) (n code subj detail : Nat) : (s.report n code subj detail).power = s.power := rfl
@[simp] theorem State.report_clock (s : State) (n code subj detail : Nat) : (s.report n code subj detail).clock = s.clock := rfl
@[simp] theorem State.report_islands (s : State) (n code subj detail : Nat) : (s.report n code subj detail).islands = s.islands := rfl
@[simp] theorem State.report_evr (s : State) (n code subj detail : Nat) :
    (s.report n code subj detail).evr = { s.evr with ports := s.evr.ports.upd [] n (fun l => l ++ [.coal code subj detail (0xC00 + n)]) } := rfl
@[simp] theorem State.report_mode (s : State) (n code subj detail : Nat) : (s.report n code subj detail).mode = s.mode := rfl
@[simp] theorem State.report_link (s : State) (n code subj detail : Nat) : (s.report n code subj detail).link = s.link := rfl
@[simp] theorem State.report_parts (s : State) (n code subj detail : Nat) : (s.report n code subj detail).parts = s.parts := rfl
@[simp] theorem State.report_rings (s : State) (n code subj detail : Nat) : (s.report n code subj detail).rings = s.rings := rfl
@[simp] theorem State.report_jobs (s : State) (n code subj detail : Nat) : (s.report n code subj detail).jobs = s.jobs := rfl
@[simp] theorem State.report_nextJob (s : State) (n code subj detail : Nat) : (s.report n code subj detail).nextJob = s.nextJob := rfl
@[simp] theorem State.report_intake (s : State) (n code subj detail : Nat) : (s.report n code subj detail).intake = s.intake := rfl
@[simp] theorem State.report_disp (s : State) (n code subj detail : Nat) : (s.report n code subj detail).disp = s.disp := rfl
@[simp] theorem State.report_lanes (s : State) (n code subj detail : Nat) : (s.report n code subj detail).lanes = s.lanes := rfl
@[simp] theorem State.report_meter (s : State) (n code subj detail : Nat) : (s.report n code subj detail).meter = s.meter := rfl
@[simp] theorem State.report_guards (s : State) (n code subj detail : Nat) : (s.report n code subj detail).guards = s.guards := rfl
@[simp] theorem State.report_guardSt (s : State) (n code subj detail : Nat) : (s.report n code subj detail).guardSt = s.guardSt := rfl
@[simp] theorem State.report_tamper (s : State) (n code subj detail : Nat) : (s.report n code subj detail).tamper = s.tamper := rfl
@[simp] theorem State.report_mgmt (s : State) (n code subj detail : Nat) : (s.report n code subj detail).mgmt = s.mgmt := rfl
@[simp] theorem State.report_keys (s : State) (n code subj detail : Nat) : (s.report n code subj detail).keys = s.keys := rfl
@[simp] theorem State.report_rng (s : State) (n code subj detail : Nat) : (s.report n code subj detail).rng = s.rng := rfl
@[simp] theorem State.report_dma (s : State) (n code subj detail : Nat) : (s.report n code subj detail).dma = s.dma := rfl
@[simp] theorem State.report_code (s : State) (n code subj detail : Nat) : (s.report n code subj detail).code = s.code := rfl
@[simp] theorem State.report_vault (s : State) (n code subj detail : Nat) : (s.report n code subj detail).vault = s.vault := rfl
@[simp] theorem State.report_verb (s : State) (n code subj detail : Nat) : (s.report n code subj detail).verb = s.verb := rfl
@[simp] theorem State.report_appr (s : State) (n code subj detail : Nat) : (s.report n code subj detail).appr = s.appr := rfl
@[simp] theorem State.report_tag (s : State) (n code subj detail : Nat) : (s.report n code subj detail).tag = s.tag := rfl
@[simp] theorem State.report_life (s : State) (n code subj detail : Nat) : (s.report n code subj detail).life = s.life := rfl
@[simp] theorem State.report_stood (s : State) (n code subj detail : Nat) : (s.report n code subj detail).stood = s.stood := rfl
@[simp] theorem State.report_gls (s : State) (n code subj detail : Nat) : (s.report n code subj detail).gls = s.gls := rfl
@[simp] theorem State.report_mem (s : State) (n code subj detail : Nat) : (s.report n code subj detail).mem = s.mem := rfl
@[simp] theorem State.report_codeFlash (s : State) (n code subj detail : Nat) : (s.report n code subj detail).codeFlash = s.codeFlash := rfl
@[simp] theorem State.report_barMem (s : State) (n code subj detail : Nat) : (s.report n code subj detail).barMem = s.barMem := rfl
@[simp] theorem State.report_hostMem (s : State) (n code subj detail : Nat) : (s.report n code subj detail).hostMem = s.hostMem := rfl

/-! ### reportBy -/

@[simp] theorem State.reportBy_pending (s : State) (n code subj detail who : Nat) : (s.reportBy n code subj detail who).pending = s.pending := rfl
@[simp] theorem State.reportBy_free (s : State) (n code subj detail who : Nat) : (s.reportBy n code subj detail who).free = s.free := rfl
@[simp] theorem State.reportBy_power (s : State) (n code subj detail who : Nat) : (s.reportBy n code subj detail who).power = s.power := rfl
@[simp] theorem State.reportBy_clock (s : State) (n code subj detail who : Nat) : (s.reportBy n code subj detail who).clock = s.clock := rfl
@[simp] theorem State.reportBy_islands (s : State) (n code subj detail who : Nat) : (s.reportBy n code subj detail who).islands = s.islands := rfl
@[simp] theorem State.reportBy_evr (s : State) (n code subj detail who : Nat) :
    (s.reportBy n code subj detail who).evr = { s.evr with ports := s.evr.ports.upd [] n (fun l => l ++ [.coal code subj detail who]) } := rfl
@[simp] theorem State.reportBy_mode (s : State) (n code subj detail who : Nat) : (s.reportBy n code subj detail who).mode = s.mode := rfl
@[simp] theorem State.reportBy_link (s : State) (n code subj detail who : Nat) : (s.reportBy n code subj detail who).link = s.link := rfl
@[simp] theorem State.reportBy_parts (s : State) (n code subj detail who : Nat) : (s.reportBy n code subj detail who).parts = s.parts := rfl
@[simp] theorem State.reportBy_rings (s : State) (n code subj detail who : Nat) : (s.reportBy n code subj detail who).rings = s.rings := rfl
@[simp] theorem State.reportBy_jobs (s : State) (n code subj detail who : Nat) : (s.reportBy n code subj detail who).jobs = s.jobs := rfl
@[simp] theorem State.reportBy_nextJob (s : State) (n code subj detail who : Nat) : (s.reportBy n code subj detail who).nextJob = s.nextJob := rfl
@[simp] theorem State.reportBy_intake (s : State) (n code subj detail who : Nat) : (s.reportBy n code subj detail who).intake = s.intake := rfl
@[simp] theorem State.reportBy_disp (s : State) (n code subj detail who : Nat) : (s.reportBy n code subj detail who).disp = s.disp := rfl
@[simp] theorem State.reportBy_lanes (s : State) (n code subj detail who : Nat) : (s.reportBy n code subj detail who).lanes = s.lanes := rfl
@[simp] theorem State.reportBy_meter (s : State) (n code subj detail who : Nat) : (s.reportBy n code subj detail who).meter = s.meter := rfl
@[simp] theorem State.reportBy_guards (s : State) (n code subj detail who : Nat) : (s.reportBy n code subj detail who).guards = s.guards := rfl
@[simp] theorem State.reportBy_guardSt (s : State) (n code subj detail who : Nat) : (s.reportBy n code subj detail who).guardSt = s.guardSt := rfl
@[simp] theorem State.reportBy_tamper (s : State) (n code subj detail who : Nat) : (s.reportBy n code subj detail who).tamper = s.tamper := rfl
@[simp] theorem State.reportBy_mgmt (s : State) (n code subj detail who : Nat) : (s.reportBy n code subj detail who).mgmt = s.mgmt := rfl
@[simp] theorem State.reportBy_keys (s : State) (n code subj detail who : Nat) : (s.reportBy n code subj detail who).keys = s.keys := rfl
@[simp] theorem State.reportBy_rng (s : State) (n code subj detail who : Nat) : (s.reportBy n code subj detail who).rng = s.rng := rfl
@[simp] theorem State.reportBy_dma (s : State) (n code subj detail who : Nat) : (s.reportBy n code subj detail who).dma = s.dma := rfl
@[simp] theorem State.reportBy_code (s : State) (n code subj detail who : Nat) : (s.reportBy n code subj detail who).code = s.code := rfl
@[simp] theorem State.reportBy_vault (s : State) (n code subj detail who : Nat) : (s.reportBy n code subj detail who).vault = s.vault := rfl
@[simp] theorem State.reportBy_verb (s : State) (n code subj detail who : Nat) : (s.reportBy n code subj detail who).verb = s.verb := rfl
@[simp] theorem State.reportBy_appr (s : State) (n code subj detail who : Nat) : (s.reportBy n code subj detail who).appr = s.appr := rfl
@[simp] theorem State.reportBy_tag (s : State) (n code subj detail who : Nat) : (s.reportBy n code subj detail who).tag = s.tag := rfl
@[simp] theorem State.reportBy_life (s : State) (n code subj detail who : Nat) : (s.reportBy n code subj detail who).life = s.life := rfl
@[simp] theorem State.reportBy_stood (s : State) (n code subj detail who : Nat) : (s.reportBy n code subj detail who).stood = s.stood := rfl
@[simp] theorem State.reportBy_gls (s : State) (n code subj detail who : Nat) : (s.reportBy n code subj detail who).gls = s.gls := rfl
@[simp] theorem State.reportBy_mem (s : State) (n code subj detail who : Nat) : (s.reportBy n code subj detail who).mem = s.mem := rfl
@[simp] theorem State.reportBy_codeFlash (s : State) (n code subj detail who : Nat) :
    (s.reportBy n code subj detail who).codeFlash = s.codeFlash := rfl
@[simp] theorem State.reportBy_barMem (s : State) (n code subj detail who : Nat) : (s.reportBy n code subj detail who).barMem = s.barMem := rfl
@[simp] theorem State.reportBy_hostMem (s : State) (n code subj detail who : Nat) : (s.reportBy n code subj detail who).hostMem = s.hostMem := rfl

/-! ### gsets -/

@[simp] theorem State.gsets_pending (s : State) (e : GE) (sel v : Nat) : (s.gsets e sel v).pending = s.pending := rfl
@[simp] theorem State.gsets_free (s : State) (e : GE) (sel v : Nat) : (s.gsets e sel v).free = s.free := rfl
@[simp] theorem State.gsets_power (s : State) (e : GE) (sel v : Nat) : (s.gsets e sel v).power = s.power := rfl
@[simp] theorem State.gsets_clock (s : State) (e : GE) (sel v : Nat) : (s.gsets e sel v).clock = s.clock := rfl
@[simp] theorem State.gsets_islands (s : State) (e : GE) (sel v : Nat) : (s.gsets e sel v).islands = s.islands := rfl
@[simp] theorem State.gsets_evr (s : State) (e : GE) (sel v : Nat) : (s.gsets e sel v).evr = s.evr := rfl
@[simp] theorem State.gsets_mode (s : State) (e : GE) (sel v : Nat) : (s.gsets e sel v).mode = s.mode := rfl
@[simp] theorem State.gsets_link (s : State) (e : GE) (sel v : Nat) : (s.gsets e sel v).link = s.link := rfl
@[simp] theorem State.gsets_parts (s : State) (e : GE) (sel v : Nat) : (s.gsets e sel v).parts = s.parts := rfl
@[simp] theorem State.gsets_rings (s : State) (e : GE) (sel v : Nat) : (s.gsets e sel v).rings = s.rings := rfl
@[simp] theorem State.gsets_jobs (s : State) (e : GE) (sel v : Nat) : (s.gsets e sel v).jobs = s.jobs := rfl
@[simp] theorem State.gsets_nextJob (s : State) (e : GE) (sel v : Nat) : (s.gsets e sel v).nextJob = s.nextJob := rfl
@[simp] theorem State.gsets_intake (s : State) (e : GE) (sel v : Nat) : (s.gsets e sel v).intake = s.intake := rfl
@[simp] theorem State.gsets_disp (s : State) (e : GE) (sel v : Nat) : (s.gsets e sel v).disp = s.disp := rfl
@[simp] theorem State.gsets_lanes (s : State) (e : GE) (sel v : Nat) : (s.gsets e sel v).lanes = s.lanes := rfl
@[simp] theorem State.gsets_meter (s : State) (e : GE) (sel v : Nat) : (s.gsets e sel v).meter = s.meter := rfl
@[simp] theorem State.gsets_guards (s : State) (e : GE) (sel v : Nat) : (s.gsets e sel v).guards = s.guards := rfl
@[simp] theorem State.gsets_guardSt (s : State) (e : GE) (sel v : Nat) : (s.gsets e sel v).guardSt = s.guardSt := rfl
@[simp] theorem State.gsets_tamper (s : State) (e : GE) (sel v : Nat) : (s.gsets e sel v).tamper = s.tamper := rfl
@[simp] theorem State.gsets_mgmt (s : State) (e : GE) (sel v : Nat) : (s.gsets e sel v).mgmt = s.mgmt := rfl
@[simp] theorem State.gsets_keys (s : State) (e : GE) (sel v : Nat) : (s.gsets e sel v).keys = s.keys := rfl
@[simp] theorem State.gsets_rng (s : State) (e : GE) (sel v : Nat) : (s.gsets e sel v).rng = s.rng := rfl
@[simp] theorem State.gsets_dma (s : State) (e : GE) (sel v : Nat) : (s.gsets e sel v).dma = s.dma := rfl
@[simp] theorem State.gsets_code (s : State) (e : GE) (sel v : Nat) : (s.gsets e sel v).code = s.code := rfl
@[simp] theorem State.gsets_vault (s : State) (e : GE) (sel v : Nat) : (s.gsets e sel v).vault = s.vault := rfl
@[simp] theorem State.gsets_verb (s : State) (e : GE) (sel v : Nat) : (s.gsets e sel v).verb = s.verb := rfl
@[simp] theorem State.gsets_appr (s : State) (e : GE) (sel v : Nat) : (s.gsets e sel v).appr = s.appr := rfl
@[simp] theorem State.gsets_tag (s : State) (e : GE) (sel v : Nat) : (s.gsets e sel v).tag = s.tag := rfl
@[simp] theorem State.gsets_life (s : State) (e : GE) (sel v : Nat) : (s.gsets e sel v).life = s.life := rfl
@[simp] theorem State.gsets_stood (s : State) (e : GE) (sel v : Nat) : (s.gsets e sel v).stood = s.stood := rfl
@[simp] theorem State.gsets_gls (s : State) (e : GE) (sel v : Nat) : (s.gsets e sel v).gls = s.gls.set (e.key * 65536 + sel) v := rfl
@[simp] theorem State.gsets_mem (s : State) (e : GE) (sel v : Nat) : (s.gsets e sel v).mem = s.mem := rfl
@[simp] theorem State.gsets_codeFlash (s : State) (e : GE) (sel v : Nat) : (s.gsets e sel v).codeFlash = s.codeFlash := rfl
@[simp] theorem State.gsets_barMem (s : State) (e : GE) (sel v : Nat) : (s.gsets e sel v).barMem = s.barMem := rfl
@[simp] theorem State.gsets_hostMem (s : State) (e : GE) (sel v : Nat) : (s.gsets e sel v).hostMem = s.hostMem := rfl

/-! ### gset -/

@[simp] theorem State.gset_pending (s : State) (e : GE) (v : Nat) : (s.gset e v).pending = s.pending := rfl
@[simp] theorem State.gset_free (s : State) (e : GE) (v : Nat) : (s.gset e v).free = s.free := rfl
@[simp] theorem State.gset_power (s : State) (e : GE) (v : Nat) : (s.gset e v).power = s.power := rfl
@[simp] theorem State.gset_clock (s : State) (e : GE) (v : Nat) : (s.gset e v).clock = s.clock := rfl
@[simp] theorem State.gset_islands (s : State) (e : GE) (v : Nat) : (s.gset e v).islands = s.islands := rfl
@[simp] theorem State.gset_evr (s : State) (e : GE) (v : Nat) : (s.gset e v).evr = s.evr := rfl
@[simp] theorem State.gset_mode (s : State) (e : GE) (v : Nat) : (s.gset e v).mode = s.mode := rfl
@[simp] theorem State.gset_link (s : State) (e : GE) (v : Nat) : (s.gset e v).link = s.link := rfl
@[simp] theorem State.gset_parts (s : State) (e : GE) (v : Nat) : (s.gset e v).parts = s.parts := rfl
@[simp] theorem State.gset_rings (s : State) (e : GE) (v : Nat) : (s.gset e v).rings = s.rings := rfl
@[simp] theorem State.gset_jobs (s : State) (e : GE) (v : Nat) : (s.gset e v).jobs = s.jobs := rfl
@[simp] theorem State.gset_nextJob (s : State) (e : GE) (v : Nat) : (s.gset e v).nextJob = s.nextJob := rfl
@[simp] theorem State.gset_intake (s : State) (e : GE) (v : Nat) : (s.gset e v).intake = s.intake := rfl
@[simp] theorem State.gset_disp (s : State) (e : GE) (v : Nat) : (s.gset e v).disp = s.disp := rfl
@[simp] theorem State.gset_lanes (s : State) (e : GE) (v : Nat) : (s.gset e v).lanes = s.lanes := rfl
@[simp] theorem State.gset_meter (s : State) (e : GE) (v : Nat) : (s.gset e v).meter = s.meter := rfl
@[simp] theorem State.gset_guards (s : State) (e : GE) (v : Nat) : (s.gset e v).guards = s.guards := rfl
@[simp] theorem State.gset_guardSt (s : State) (e : GE) (v : Nat) : (s.gset e v).guardSt = s.guardSt := rfl
@[simp] theorem State.gset_tamper (s : State) (e : GE) (v : Nat) : (s.gset e v).tamper = s.tamper := rfl
@[simp] theorem State.gset_mgmt (s : State) (e : GE) (v : Nat) : (s.gset e v).mgmt = s.mgmt := rfl
@[simp] theorem State.gset_keys (s : State) (e : GE) (v : Nat) : (s.gset e v).keys = s.keys := rfl
@[simp] theorem State.gset_rng (s : State) (e : GE) (v : Nat) : (s.gset e v).rng = s.rng := rfl
@[simp] theorem State.gset_dma (s : State) (e : GE) (v : Nat) : (s.gset e v).dma = s.dma := rfl
@[simp] theorem State.gset_code (s : State) (e : GE) (v : Nat) : (s.gset e v).code = s.code := rfl
@[simp] theorem State.gset_vault (s : State) (e : GE) (v : Nat) : (s.gset e v).vault = s.vault := rfl
@[simp] theorem State.gset_verb (s : State) (e : GE) (v : Nat) : (s.gset e v).verb = s.verb := rfl
@[simp] theorem State.gset_appr (s : State) (e : GE) (v : Nat) : (s.gset e v).appr = s.appr := rfl
@[simp] theorem State.gset_tag (s : State) (e : GE) (v : Nat) : (s.gset e v).tag = s.tag := rfl
@[simp] theorem State.gset_life (s : State) (e : GE) (v : Nat) : (s.gset e v).life = s.life := rfl
@[simp] theorem State.gset_stood (s : State) (e : GE) (v : Nat) : (s.gset e v).stood = s.stood := rfl
@[simp] theorem State.gset_gls (s : State) (e : GE) (v : Nat) : (s.gset e v).gls = s.gls.set (e.key * 65536 + 0) v := rfl
@[simp] theorem State.gset_mem (s : State) (e : GE) (v : Nat) : (s.gset e v).mem = s.mem := rfl
@[simp] theorem State.gset_codeFlash (s : State) (e : GE) (v : Nat) : (s.gset e v).codeFlash = s.codeFlash := rfl
@[simp] theorem State.gset_barMem (s : State) (e : GE) (v : Nat) : (s.gset e v).barMem = s.barMem := rfl
@[simp] theorem State.gset_hostMem (s : State) (e : GE) (v : Nat) : (s.gset e v).hostMem = s.hostMem := rfl

/-! ### bumpBys -/

@[simp] theorem State.bumpBys_pending (s : State) (e : GE) (sel n : Nat) : (s.bumpBys e sel n).pending = s.pending := rfl
@[simp] theorem State.bumpBys_free (s : State) (e : GE) (sel n : Nat) : (s.bumpBys e sel n).free = s.free := rfl
@[simp] theorem State.bumpBys_power (s : State) (e : GE) (sel n : Nat) : (s.bumpBys e sel n).power = s.power := rfl
@[simp] theorem State.bumpBys_clock (s : State) (e : GE) (sel n : Nat) : (s.bumpBys e sel n).clock = s.clock := rfl
@[simp] theorem State.bumpBys_islands (s : State) (e : GE) (sel n : Nat) : (s.bumpBys e sel n).islands = s.islands := rfl
@[simp] theorem State.bumpBys_evr (s : State) (e : GE) (sel n : Nat) : (s.bumpBys e sel n).evr = s.evr := rfl
@[simp] theorem State.bumpBys_mode (s : State) (e : GE) (sel n : Nat) : (s.bumpBys e sel n).mode = s.mode := rfl
@[simp] theorem State.bumpBys_link (s : State) (e : GE) (sel n : Nat) : (s.bumpBys e sel n).link = s.link := rfl
@[simp] theorem State.bumpBys_parts (s : State) (e : GE) (sel n : Nat) : (s.bumpBys e sel n).parts = s.parts := rfl
@[simp] theorem State.bumpBys_rings (s : State) (e : GE) (sel n : Nat) : (s.bumpBys e sel n).rings = s.rings := rfl
@[simp] theorem State.bumpBys_jobs (s : State) (e : GE) (sel n : Nat) : (s.bumpBys e sel n).jobs = s.jobs := rfl
@[simp] theorem State.bumpBys_nextJob (s : State) (e : GE) (sel n : Nat) : (s.bumpBys e sel n).nextJob = s.nextJob := rfl
@[simp] theorem State.bumpBys_intake (s : State) (e : GE) (sel n : Nat) : (s.bumpBys e sel n).intake = s.intake := rfl
@[simp] theorem State.bumpBys_disp (s : State) (e : GE) (sel n : Nat) : (s.bumpBys e sel n).disp = s.disp := rfl
@[simp] theorem State.bumpBys_lanes (s : State) (e : GE) (sel n : Nat) : (s.bumpBys e sel n).lanes = s.lanes := rfl
@[simp] theorem State.bumpBys_meter (s : State) (e : GE) (sel n : Nat) : (s.bumpBys e sel n).meter = s.meter := rfl
@[simp] theorem State.bumpBys_guards (s : State) (e : GE) (sel n : Nat) : (s.bumpBys e sel n).guards = s.guards := rfl
@[simp] theorem State.bumpBys_guardSt (s : State) (e : GE) (sel n : Nat) : (s.bumpBys e sel n).guardSt = s.guardSt := rfl
@[simp] theorem State.bumpBys_tamper (s : State) (e : GE) (sel n : Nat) : (s.bumpBys e sel n).tamper = s.tamper := rfl
@[simp] theorem State.bumpBys_mgmt (s : State) (e : GE) (sel n : Nat) : (s.bumpBys e sel n).mgmt = s.mgmt := rfl
@[simp] theorem State.bumpBys_keys (s : State) (e : GE) (sel n : Nat) : (s.bumpBys e sel n).keys = s.keys := rfl
@[simp] theorem State.bumpBys_rng (s : State) (e : GE) (sel n : Nat) : (s.bumpBys e sel n).rng = s.rng := rfl
@[simp] theorem State.bumpBys_dma (s : State) (e : GE) (sel n : Nat) : (s.bumpBys e sel n).dma = s.dma := rfl
@[simp] theorem State.bumpBys_code (s : State) (e : GE) (sel n : Nat) : (s.bumpBys e sel n).code = s.code := rfl
@[simp] theorem State.bumpBys_vault (s : State) (e : GE) (sel n : Nat) : (s.bumpBys e sel n).vault = s.vault := rfl
@[simp] theorem State.bumpBys_verb (s : State) (e : GE) (sel n : Nat) : (s.bumpBys e sel n).verb = s.verb := rfl
@[simp] theorem State.bumpBys_appr (s : State) (e : GE) (sel n : Nat) : (s.bumpBys e sel n).appr = s.appr := rfl
@[simp] theorem State.bumpBys_tag (s : State) (e : GE) (sel n : Nat) : (s.bumpBys e sel n).tag = s.tag := rfl
@[simp] theorem State.bumpBys_life (s : State) (e : GE) (sel n : Nat) : (s.bumpBys e sel n).life = s.life := rfl
@[simp] theorem State.bumpBys_stood (s : State) (e : GE) (sel n : Nat) : (s.bumpBys e sel n).stood = s.stood := rfl
@[simp] theorem State.bumpBys_gls (s : State) (e : GE) (sel n : Nat) :
    (s.bumpBys e sel n).gls = s.gls.set (e.key * 65536 + sel) ((s.gvs e sel + n) % 2 ^ 64) := rfl
@[simp] theorem State.bumpBys_mem (s : State) (e : GE) (sel n : Nat) : (s.bumpBys e sel n).mem = s.mem := rfl
@[simp] theorem State.bumpBys_codeFlash (s : State) (e : GE) (sel n : Nat) : (s.bumpBys e sel n).codeFlash = s.codeFlash := rfl
@[simp] theorem State.bumpBys_barMem (s : State) (e : GE) (sel n : Nat) : (s.bumpBys e sel n).barMem = s.barMem := rfl
@[simp] theorem State.bumpBys_hostMem (s : State) (e : GE) (sel n : Nat) : (s.bumpBys e sel n).hostMem = s.hostMem := rfl

/-! ### bump -/

@[simp] theorem State.bump_pending (s : State) (e : GE) : (s.bump e).pending = s.pending := rfl
@[simp] theorem State.bump_free (s : State) (e : GE) : (s.bump e).free = s.free := rfl
@[simp] theorem State.bump_power (s : State) (e : GE) : (s.bump e).power = s.power := rfl
@[simp] theorem State.bump_clock (s : State) (e : GE) : (s.bump e).clock = s.clock := rfl
@[simp] theorem State.bump_islands (s : State) (e : GE) : (s.bump e).islands = s.islands := rfl
@[simp] theorem State.bump_evr (s : State) (e : GE) : (s.bump e).evr = s.evr := rfl
@[simp] theorem State.bump_mode (s : State) (e : GE) : (s.bump e).mode = s.mode := rfl
@[simp] theorem State.bump_link (s : State) (e : GE) : (s.bump e).link = s.link := rfl
@[simp] theorem State.bump_parts (s : State) (e : GE) : (s.bump e).parts = s.parts := rfl
@[simp] theorem State.bump_rings (s : State) (e : GE) : (s.bump e).rings = s.rings := rfl
@[simp] theorem State.bump_jobs (s : State) (e : GE) : (s.bump e).jobs = s.jobs := rfl
@[simp] theorem State.bump_nextJob (s : State) (e : GE) : (s.bump e).nextJob = s.nextJob := rfl
@[simp] theorem State.bump_intake (s : State) (e : GE) : (s.bump e).intake = s.intake := rfl
@[simp] theorem State.bump_disp (s : State) (e : GE) : (s.bump e).disp = s.disp := rfl
@[simp] theorem State.bump_lanes (s : State) (e : GE) : (s.bump e).lanes = s.lanes := rfl
@[simp] theorem State.bump_meter (s : State) (e : GE) : (s.bump e).meter = s.meter := rfl
@[simp] theorem State.bump_guards (s : State) (e : GE) : (s.bump e).guards = s.guards := rfl
@[simp] theorem State.bump_guardSt (s : State) (e : GE) : (s.bump e).guardSt = s.guardSt := rfl
@[simp] theorem State.bump_tamper (s : State) (e : GE) : (s.bump e).tamper = s.tamper := rfl
@[simp] theorem State.bump_mgmt (s : State) (e : GE) : (s.bump e).mgmt = s.mgmt := rfl
@[simp] theorem State.bump_keys (s : State) (e : GE) : (s.bump e).keys = s.keys := rfl
@[simp] theorem State.bump_rng (s : State) (e : GE) : (s.bump e).rng = s.rng := rfl
@[simp] theorem State.bump_dma (s : State) (e : GE) : (s.bump e).dma = s.dma := rfl
@[simp] theorem State.bump_code (s : State) (e : GE) : (s.bump e).code = s.code := rfl
@[simp] theorem State.bump_vault (s : State) (e : GE) : (s.bump e).vault = s.vault := rfl
@[simp] theorem State.bump_verb (s : State) (e : GE) : (s.bump e).verb = s.verb := rfl
@[simp] theorem State.bump_appr (s : State) (e : GE) : (s.bump e).appr = s.appr := rfl
@[simp] theorem State.bump_tag (s : State) (e : GE) : (s.bump e).tag = s.tag := rfl
@[simp] theorem State.bump_life (s : State) (e : GE) : (s.bump e).life = s.life := rfl
@[simp] theorem State.bump_stood (s : State) (e : GE) : (s.bump e).stood = s.stood := rfl
@[simp] theorem State.bump_gls (s : State) (e : GE) : (s.bump e).gls = s.gls.set (e.key * 65536 + 0) ((s.gvs e 0 + 1) % 2 ^ 64) := rfl
@[simp] theorem State.bump_mem (s : State) (e : GE) : (s.bump e).mem = s.mem := rfl
@[simp] theorem State.bump_codeFlash (s : State) (e : GE) : (s.bump e).codeFlash = s.codeFlash := rfl
@[simp] theorem State.bump_barMem (s : State) (e : GE) : (s.bump e).barMem = s.barMem := rfl
@[simp] theorem State.bump_hostMem (s : State) (e : GE) : (s.bump e).hostMem = s.hostMem := rfl

/-! ### bumps -/

@[simp] theorem State.bumps_pending (s : State) (e : GE) (sel : Nat) : (s.bumps e sel).pending = s.pending := rfl
@[simp] theorem State.bumps_free (s : State) (e : GE) (sel : Nat) : (s.bumps e sel).free = s.free := rfl
@[simp] theorem State.bumps_power (s : State) (e : GE) (sel : Nat) : (s.bumps e sel).power = s.power := rfl
@[simp] theorem State.bumps_clock (s : State) (e : GE) (sel : Nat) : (s.bumps e sel).clock = s.clock := rfl
@[simp] theorem State.bumps_islands (s : State) (e : GE) (sel : Nat) : (s.bumps e sel).islands = s.islands := rfl
@[simp] theorem State.bumps_evr (s : State) (e : GE) (sel : Nat) : (s.bumps e sel).evr = s.evr := rfl
@[simp] theorem State.bumps_mode (s : State) (e : GE) (sel : Nat) : (s.bumps e sel).mode = s.mode := rfl
@[simp] theorem State.bumps_link (s : State) (e : GE) (sel : Nat) : (s.bumps e sel).link = s.link := rfl
@[simp] theorem State.bumps_parts (s : State) (e : GE) (sel : Nat) : (s.bumps e sel).parts = s.parts := rfl
@[simp] theorem State.bumps_rings (s : State) (e : GE) (sel : Nat) : (s.bumps e sel).rings = s.rings := rfl
@[simp] theorem State.bumps_jobs (s : State) (e : GE) (sel : Nat) : (s.bumps e sel).jobs = s.jobs := rfl
@[simp] theorem State.bumps_nextJob (s : State) (e : GE) (sel : Nat) : (s.bumps e sel).nextJob = s.nextJob := rfl
@[simp] theorem State.bumps_intake (s : State) (e : GE) (sel : Nat) : (s.bumps e sel).intake = s.intake := rfl
@[simp] theorem State.bumps_disp (s : State) (e : GE) (sel : Nat) : (s.bumps e sel).disp = s.disp := rfl
@[simp] theorem State.bumps_lanes (s : State) (e : GE) (sel : Nat) : (s.bumps e sel).lanes = s.lanes := rfl
@[simp] theorem State.bumps_meter (s : State) (e : GE) (sel : Nat) : (s.bumps e sel).meter = s.meter := rfl
@[simp] theorem State.bumps_guards (s : State) (e : GE) (sel : Nat) : (s.bumps e sel).guards = s.guards := rfl
@[simp] theorem State.bumps_guardSt (s : State) (e : GE) (sel : Nat) : (s.bumps e sel).guardSt = s.guardSt := rfl
@[simp] theorem State.bumps_tamper (s : State) (e : GE) (sel : Nat) : (s.bumps e sel).tamper = s.tamper := rfl
@[simp] theorem State.bumps_mgmt (s : State) (e : GE) (sel : Nat) : (s.bumps e sel).mgmt = s.mgmt := rfl
@[simp] theorem State.bumps_keys (s : State) (e : GE) (sel : Nat) : (s.bumps e sel).keys = s.keys := rfl
@[simp] theorem State.bumps_rng (s : State) (e : GE) (sel : Nat) : (s.bumps e sel).rng = s.rng := rfl
@[simp] theorem State.bumps_dma (s : State) (e : GE) (sel : Nat) : (s.bumps e sel).dma = s.dma := rfl
@[simp] theorem State.bumps_code (s : State) (e : GE) (sel : Nat) : (s.bumps e sel).code = s.code := rfl
@[simp] theorem State.bumps_vault (s : State) (e : GE) (sel : Nat) : (s.bumps e sel).vault = s.vault := rfl
@[simp] theorem State.bumps_verb (s : State) (e : GE) (sel : Nat) : (s.bumps e sel).verb = s.verb := rfl
@[simp] theorem State.bumps_appr (s : State) (e : GE) (sel : Nat) : (s.bumps e sel).appr = s.appr := rfl
@[simp] theorem State.bumps_tag (s : State) (e : GE) (sel : Nat) : (s.bumps e sel).tag = s.tag := rfl
@[simp] theorem State.bumps_life (s : State) (e : GE) (sel : Nat) : (s.bumps e sel).life = s.life := rfl
@[simp] theorem State.bumps_stood (s : State) (e : GE) (sel : Nat) : (s.bumps e sel).stood = s.stood := rfl
@[simp] theorem State.bumps_gls (s : State) (e : GE) (sel : Nat) :
    (s.bumps e sel).gls = s.gls.set (e.key * 65536 + sel) ((s.gvs e sel + 1) % 2 ^ 64) := rfl
@[simp] theorem State.bumps_mem (s : State) (e : GE) (sel : Nat) : (s.bumps e sel).mem = s.mem := rfl
@[simp] theorem State.bumps_codeFlash (s : State) (e : GE) (sel : Nat) : (s.bumps e sel).codeFlash = s.codeFlash := rfl
@[simp] theorem State.bumps_barMem (s : State) (e : GE) (sel : Nat) : (s.bumps e sel).barMem = s.barMem := rfl
@[simp] theorem State.bumps_hostMem (s : State) (e : GE) (sel : Nat) : (s.bumps e sel).hostMem = s.hostMem := rfl

/-! ### hostWrite -/

@[simp] theorem State.hostWrite_pending (s : State) (fn a : Nat) (bs : Bytes) : (s.hostWrite fn a bs).pending = s.pending := rfl
@[simp] theorem State.hostWrite_free (s : State) (fn a : Nat) (bs : Bytes) : (s.hostWrite fn a bs).free = s.free := rfl
@[simp] theorem State.hostWrite_power (s : State) (fn a : Nat) (bs : Bytes) : (s.hostWrite fn a bs).power = s.power := rfl
@[simp] theorem State.hostWrite_clock (s : State) (fn a : Nat) (bs : Bytes) : (s.hostWrite fn a bs).clock = s.clock := rfl
@[simp] theorem State.hostWrite_islands (s : State) (fn a : Nat) (bs : Bytes) : (s.hostWrite fn a bs).islands = s.islands := rfl
@[simp] theorem State.hostWrite_evr (s : State) (fn a : Nat) (bs : Bytes) : (s.hostWrite fn a bs).evr = s.evr := rfl
@[simp] theorem State.hostWrite_mode (s : State) (fn a : Nat) (bs : Bytes) : (s.hostWrite fn a bs).mode = s.mode := rfl
@[simp] theorem State.hostWrite_link (s : State) (fn a : Nat) (bs : Bytes) : (s.hostWrite fn a bs).link = s.link := rfl
@[simp] theorem State.hostWrite_parts (s : State) (fn a : Nat) (bs : Bytes) : (s.hostWrite fn a bs).parts = s.parts := rfl
@[simp] theorem State.hostWrite_rings (s : State) (fn a : Nat) (bs : Bytes) : (s.hostWrite fn a bs).rings = s.rings := rfl
@[simp] theorem State.hostWrite_jobs (s : State) (fn a : Nat) (bs : Bytes) : (s.hostWrite fn a bs).jobs = s.jobs := rfl
@[simp] theorem State.hostWrite_nextJob (s : State) (fn a : Nat) (bs : Bytes) : (s.hostWrite fn a bs).nextJob = s.nextJob := rfl
@[simp] theorem State.hostWrite_intake (s : State) (fn a : Nat) (bs : Bytes) : (s.hostWrite fn a bs).intake = s.intake := rfl
@[simp] theorem State.hostWrite_disp (s : State) (fn a : Nat) (bs : Bytes) : (s.hostWrite fn a bs).disp = s.disp := rfl
@[simp] theorem State.hostWrite_lanes (s : State) (fn a : Nat) (bs : Bytes) : (s.hostWrite fn a bs).lanes = s.lanes := rfl
@[simp] theorem State.hostWrite_meter (s : State) (fn a : Nat) (bs : Bytes) : (s.hostWrite fn a bs).meter = s.meter := rfl
@[simp] theorem State.hostWrite_guards (s : State) (fn a : Nat) (bs : Bytes) : (s.hostWrite fn a bs).guards = s.guards := rfl
@[simp] theorem State.hostWrite_guardSt (s : State) (fn a : Nat) (bs : Bytes) : (s.hostWrite fn a bs).guardSt = s.guardSt := rfl
@[simp] theorem State.hostWrite_tamper (s : State) (fn a : Nat) (bs : Bytes) : (s.hostWrite fn a bs).tamper = s.tamper := rfl
@[simp] theorem State.hostWrite_mgmt (s : State) (fn a : Nat) (bs : Bytes) : (s.hostWrite fn a bs).mgmt = s.mgmt := rfl
@[simp] theorem State.hostWrite_keys (s : State) (fn a : Nat) (bs : Bytes) : (s.hostWrite fn a bs).keys = s.keys := rfl
@[simp] theorem State.hostWrite_rng (s : State) (fn a : Nat) (bs : Bytes) : (s.hostWrite fn a bs).rng = s.rng := rfl
@[simp] theorem State.hostWrite_dma (s : State) (fn a : Nat) (bs : Bytes) : (s.hostWrite fn a bs).dma = s.dma := rfl
@[simp] theorem State.hostWrite_code (s : State) (fn a : Nat) (bs : Bytes) : (s.hostWrite fn a bs).code = s.code := rfl
@[simp] theorem State.hostWrite_vault (s : State) (fn a : Nat) (bs : Bytes) : (s.hostWrite fn a bs).vault = s.vault := rfl
@[simp] theorem State.hostWrite_verb (s : State) (fn a : Nat) (bs : Bytes) : (s.hostWrite fn a bs).verb = s.verb := rfl
@[simp] theorem State.hostWrite_appr (s : State) (fn a : Nat) (bs : Bytes) : (s.hostWrite fn a bs).appr = s.appr := rfl
@[simp] theorem State.hostWrite_tag (s : State) (fn a : Nat) (bs : Bytes) : (s.hostWrite fn a bs).tag = s.tag := rfl
@[simp] theorem State.hostWrite_life (s : State) (fn a : Nat) (bs : Bytes) : (s.hostWrite fn a bs).life = s.life := rfl
@[simp] theorem State.hostWrite_stood (s : State) (fn a : Nat) (bs : Bytes) : (s.hostWrite fn a bs).stood = s.stood := rfl
@[simp] theorem State.hostWrite_gls (s : State) (fn a : Nat) (bs : Bytes) : (s.hostWrite fn a bs).gls = s.gls := rfl
@[simp] theorem State.hostWrite_mem (s : State) (fn a : Nat) (bs : Bytes) : (s.hostWrite fn a bs).mem = s.mem := rfl
@[simp] theorem State.hostWrite_codeFlash (s : State) (fn a : Nat) (bs : Bytes) : (s.hostWrite fn a bs).codeFlash = s.codeFlash := rfl
@[simp] theorem State.hostWrite_barMem (s : State) (fn a : Nat) (bs : Bytes) : (s.hostWrite fn a bs).barMem = s.barMem := rfl
@[simp] theorem State.hostWrite_hostMem (s : State) (fn a : Nat) (bs : Bytes) : (s.hostWrite fn a bs).hostMem = Mem.write 0 s.hostMem (hostPlace fn a) bs := rfl

/-! ### notify -/

@[simp] theorem State.notify_pending (s : State) (body : Bytes) : (s.notify body).pending = s.pending := rfl
@[simp] theorem State.notify_free (s : State) (body : Bytes) : (s.notify body).free = s.free := rfl
@[simp] theorem State.notify_power (s : State) (body : Bytes) : (s.notify body).power = s.power := rfl
@[simp] theorem State.notify_clock (s : State) (body : Bytes) : (s.notify body).clock = s.clock := rfl
@[simp] theorem State.notify_islands (s : State) (body : Bytes) : (s.notify body).islands = s.islands := rfl
@[simp] theorem State.notify_evr (s : State) (body : Bytes) : (s.notify body).evr = s.evr := rfl
@[simp] theorem State.notify_mode (s : State) (body : Bytes) : (s.notify body).mode = s.mode := rfl
@[simp] theorem State.notify_link (s : State) (body : Bytes) : (s.notify body).link = s.link := rfl
@[simp] theorem State.notify_parts (s : State) (body : Bytes) : (s.notify body).parts = s.parts := rfl
@[simp] theorem State.notify_rings (s : State) (body : Bytes) : (s.notify body).rings = s.rings := rfl
@[simp] theorem State.notify_jobs (s : State) (body : Bytes) : (s.notify body).jobs = s.jobs := rfl
@[simp] theorem State.notify_nextJob (s : State) (body : Bytes) : (s.notify body).nextJob = s.nextJob := rfl
@[simp] theorem State.notify_intake (s : State) (body : Bytes) : (s.notify body).intake = s.intake := rfl
@[simp] theorem State.notify_disp (s : State) (body : Bytes) : (s.notify body).disp = s.disp := rfl
@[simp] theorem State.notify_lanes (s : State) (body : Bytes) : (s.notify body).lanes = s.lanes := rfl
@[simp] theorem State.notify_meter (s : State) (body : Bytes) : (s.notify body).meter = s.meter := rfl
@[simp] theorem State.notify_guards (s : State) (body : Bytes) : (s.notify body).guards = s.guards := rfl
@[simp] theorem State.notify_guardSt (s : State) (body : Bytes) : (s.notify body).guardSt = s.guardSt := rfl
@[simp] theorem State.notify_tamper (s : State) (body : Bytes) : (s.notify body).tamper = s.tamper := rfl
@[simp] theorem State.notify_mgmt (s : State) (body : Bytes) :
    (s.notify body).mgmt = { s.mgmt with gap := s.mgmt.gap.mapVals (fun _ x => notifySess s.now body x) } := rfl
@[simp] theorem State.notify_keys (s : State) (body : Bytes) : (s.notify body).keys = s.keys := rfl
@[simp] theorem State.notify_rng (s : State) (body : Bytes) : (s.notify body).rng = s.rng := rfl
@[simp] theorem State.notify_dma (s : State) (body : Bytes) : (s.notify body).dma = s.dma := rfl
@[simp] theorem State.notify_code (s : State) (body : Bytes) : (s.notify body).code = s.code := rfl
@[simp] theorem State.notify_vault (s : State) (body : Bytes) : (s.notify body).vault = s.vault := rfl
@[simp] theorem State.notify_verb (s : State) (body : Bytes) : (s.notify body).verb = s.verb := rfl
@[simp] theorem State.notify_appr (s : State) (body : Bytes) : (s.notify body).appr = s.appr := rfl
@[simp] theorem State.notify_tag (s : State) (body : Bytes) : (s.notify body).tag = s.tag := rfl
@[simp] theorem State.notify_life (s : State) (body : Bytes) : (s.notify body).life = s.life := rfl
@[simp] theorem State.notify_stood (s : State) (body : Bytes) : (s.notify body).stood = s.stood := rfl
@[simp] theorem State.notify_gls (s : State) (body : Bytes) : (s.notify body).gls = s.gls := rfl
@[simp] theorem State.notify_mem (s : State) (body : Bytes) : (s.notify body).mem = s.mem := rfl
@[simp] theorem State.notify_codeFlash (s : State) (body : Bytes) : (s.notify body).codeFlash = s.codeFlash := rfl
@[simp] theorem State.notify_barMem (s : State) (body : Bytes) : (s.notify body).barMem = s.barMem := rfl
@[simp] theorem State.notify_hostMem (s : State) (body : Bytes) : (s.notify body).hostMem = s.hostMem := rfl

/-! ### Parts of tables after an update -/

/-- A job reads as changed. -/
@[simp] theorem State.job_withJob (s : State) (i : Nat) (f : Job → Job) : (s.withJob i f).job i = f (s.job i) :=
  Tab.get_upd_self _ s.jobs i f

/-- Another job reads as before. -/
theorem State.job_withJob_other (s : State) {i k : Nat} (f : Job → Job) (h : k ≠ i) : (s.withJob i f).job k = s.job k :=
  Tab.get_upd_other _ s.jobs f h

/-- A partition reads as changed. -/
@[simp] theorem State.part_withPart (s : State) (i : Nat) (f : Part → Part) : (s.withPart i f).part i = f (s.part i) :=
  Tab.get_upd_self _ s.parts i f

/-- Another partition reads as before. -/
theorem State.part_withPart_other (s : State) {i k : Nat} (f : Part → Part) (h : k ≠ i) : (s.withPart i f).part k = s.part k :=
  Tab.get_upd_other _ s.parts f h

/-- A ring reads as changed. -/
@[simp] theorem State.ring_withRing (s : State) (p r : Nat) (f : Ring → Ring) : (s.withRing p r f).ring p r = f (s.ring p r) :=
  Tab.get_upd_self _ s.rings (ringKey p r) f

/-- A key slot reads as changed. -/
@[simp] theorem State.kslot_withSlot (s : State) (i : Nat) (f : KSlot → KSlot) : (s.withSlot i f).kslot i = f (s.kslot i) :=
  Tab.get_upd_self _ s.keys.slots i f

/-- A DMA channel reads as changed. -/
@[simp] theorem State.chan_withChan (s : State) (i : Nat) (f : DmaCh → DmaCh) : (s.withChan i f).chan i = f (s.chan i) :=
  Tab.get_upd_self _ s.dma.chans i f

/-- A squad reads as changed. -/
@[simp] theorem State.squad_withSquad (s : State) (i : Nat) (f : Squad → Squad) : (s.withSquad i f).squad i = f (s.squad i) :=
  Tab.get_upd_self _ s.lanes.squads i f

/-- A unit of the cores reads as changed. -/
@[simp] theorem State.unit_withUnit (s : State) (i : Nat) (f : VUnit → VUnit) : (s.withUnit i f).unit i = f (s.unit i) :=
  Tab.get_upd_self _ s.verb.units i f

/-- Another unit reads as before. -/
theorem State.unit_withUnit_other (s : State) {i k : Nat} (f : VUnit → VUnit) (h : k ≠ i) : (s.withUnit i f).unit k = s.unit k :=
  Tab.get_upd_other _ s.verb.units f h

/-- An island's state reads as set. -/
@[simp] theorem State.isl_setIsl (s : State) (n v : Nat) : (s.setIsl n v).isl n = v := by
  simp [State.isl]

/-- Another island's state reads as before. -/
theorem State.isl_setIsl_other (s : State) {n k : Nat} (v : Nat) (h : k ≠ n) : (s.setIsl n v).isl k = s.isl k := by
  simp [State.isl, Tab.get_set_other _ _ _ h]

/-- A Glossary value reads as set. -/
@[simp] theorem State.gvs_gsets (s : State) (e : GE) (sel v : Nat) : (s.gsets e sel v).gvs e sel = v := by
  simp [State.gvs, State.gsets]

/-- A Glossary value without selector reads as set. -/
@[simp] theorem State.gv_gset (s : State) (e : GE) (v : Nat) : (s.gset e v).gv e = v := by
  simp [State.gv, State.gset]

/-- A counter raised by one. -/
@[simp] theorem State.gv_bump (s : State) (e : GE) : (s.bump e).gv e = (s.gv e + 1) % 2 ^ 64 := by
  simp [State.gv, State.bump, State.bumpBys]

/-- A Glossary value under another address or selector reads as before. -/
theorem State.gvs_gsets_other (s : State) {e e' : GE} {sel sel' v : Nat} (h : e'.key * 65536 + sel' ≠ e.key * 65536 + sel) :
    (s.gsets e sel v).gvs e' sel' = s.gvs e' sel' := Tab.get_set_other _ _ _ h

end Sys2Proof.Machine
end

