-- ==== Sys2Proof/Laws/Writes.lean ====
section
/-! SUPPORT. Which fields of State an operation can write. A number `m` stands for a set of fields, bit `k` for the field number `k` of
State in the order of its declaration; `Writes m s t` says that `t` differs from `s` in those fields alone. One lemma per operation
follows in the files Writes1 to the last: that lemma is its frame. -/

namespace Sys2Proof.Machine

open Sys2Proof

/-- `t` equals `s` in every field that the set `m` leaves out. -/
structure Writes (m : Nat) (s t : State) : Prop where
  pending : m.testBit 0 = false → t.pending = s.pending
  free : m.testBit 1 = false → t.free = s.free
  power : m.testBit 2 = false → t.power = s.power
  clock : m.testBit 3 = false → t.clock = s.clock
  islands : m.testBit 4 = false → t.islands = s.islands
  evr : m.testBit 5 = false → t.evr = s.evr
  mode : m.testBit 6 = false → t.mode = s.mode
  link : m.testBit 7 = false → t.link = s.link
  parts : m.testBit 8 = false → t.parts = s.parts
  rings : m.testBit 9 = false → t.rings = s.rings
  jobs : m.testBit 10 = false → t.jobs = s.jobs
  nextJob : m.testBit 11 = false → t.nextJob = s.nextJob
  intake : m.testBit 12 = false → t.intake = s.intake
  disp : m.testBit 13 = false → t.disp = s.disp
  lanes : m.testBit 14 = false → t.lanes = s.lanes
  meter : m.testBit 15 = false → t.meter = s.meter
  guards : m.testBit 16 = false → t.guards = s.guards
  guardSt : m.testBit 17 = false → t.guardSt = s.guardSt
  tamper : m.testBit 18 = false → t.tamper = s.tamper
  mgmt : m.testBit 19 = false → t.mgmt = s.mgmt
  keys : m.testBit 20 = false → t.keys = s.keys
  rng : m.testBit 21 = false → t.rng = s.rng
  dma : m.testBit 22 = false → t.dma = s.dma
  code : m.testBit 23 = false → t.code = s.code
  vault : m.testBit 24 = false → t.vault = s.vault
  verb : m.testBit 25 = false → t.verb = s.verb
  appr : m.testBit 26 = false → t.appr = s.appr
  tag : m.testBit 27 = false → t.tag = s.tag
  life : m.testBit 28 = false → t.life = s.life
  stood : m.testBit 29 = false → t.stood = s.stood
  gls : m.testBit 30 = false → t.gls = s.gls
  mem : m.testBit 31 = false → t.mem = s.mem
  codeFlash : m.testBit 32 = false → t.codeFlash = s.codeFlash
  barMem : m.testBit 33 = false → t.barMem = s.barMem
  hostMem : m.testBit 34 = false → t.hostMem = s.hostMem

theorem Writes.refl (m : Nat) (s : State) : Writes m s s := by
  constructor <;> exact fun _ => rfl

theorem Nat.testBit_of_or {a b k : Nat} (e : a ||| b = b) (h : b.testBit k = false) : a.testBit k = false := by
  have : (a ||| b).testBit k = b.testBit k := by rw [e]
  rw [Nat.testBit_or, h] at this
  simpa using this

/-- An operation that writes fewer fields, after one that writes those of `m`. -/
theorem Writes.step {m g : Nat} {s t u : State} (hg : Writes g t u) (e : g ||| m = m) (h : Writes m s t) : Writes m s u := by
  constructor <;> intro k
  · exact (hg.pending (Nat.testBit_of_or e k)).trans (h.pending k)
  · exact (hg.free (Nat.testBit_of_or e k)).trans (h.free k)
  · exact (hg.power (Nat.testBit_of_or e k)).trans (h.power k)
  · exact (hg.clock (Nat.testBit_of_or e k)).trans (h.clock k)
  · exact (hg.islands (Nat.testBit_of_or e k)).trans (h.islands k)
  · exact (hg.evr (Nat.testBit_of_or e k)).trans (h.evr k)
  · exact (hg.mode (Nat.testBit_of_or e k)).trans (h.mode k)
  · exact (hg.link (Nat.testBit_of_or e k)).trans (h.link k)
  · exact (hg.parts (Nat.testBit_of_or e k)).trans (h.parts k)
  · exact (hg.rings (Nat.testBit_of_or e k)).trans (h.rings k)
  · exact (hg.jobs (Nat.testBit_of_or e k)).trans (h.jobs k)
  · exact (hg.nextJob (Nat.testBit_of_or e k)).trans (h.nextJob k)
  · exact (hg.intake (Nat.testBit_of_or e k)).trans (h.intake k)
  · exact (hg.disp (Nat.testBit_of_or e k)).trans (h.disp k)
  · exact (hg.lanes (Nat.testBit_of_or e k)).trans (h.lanes k)
  · exact (hg.meter (Nat.testBit_of_or e k)).trans (h.meter k)
  · exact (hg.guards (Nat.testBit_of_or e k)).trans (h.guards k)
  · exact (hg.guardSt (Nat.testBit_of_or e k)).trans (h.guardSt k)
  · exact (hg.tamper (Nat.testBit_of_or e k)).trans (h.tamper k)
  · exact (hg.mgmt (Nat.testBit_of_or e k)).trans (h.mgmt k)
  · exact (hg.keys (Nat.testBit_of_or e k)).trans (h.keys k)
  · exact (hg.rng (Nat.testBit_of_or e k)).trans (h.rng k)
  · exact (hg.dma (Nat.testBit_of_or e k)).trans (h.dma k)
  · exact (hg.code (Nat.testBit_of_or e k)).trans (h.code k)
  · exact (hg.vault (Nat.testBit_of_or e k)).trans (h.vault k)
  · exact (hg.verb (Nat.testBit_of_or e k)).trans (h.verb k)
  · exact (hg.appr (Nat.testBit_of_or e k)).trans (h.appr k)
  · exact (hg.tag (Nat.testBit_of_or e k)).trans (h.tag k)
  · exact (hg.life (Nat.testBit_of_or e k)).trans (h.life k)
  · exact (hg.stood (Nat.testBit_of_or e k)).trans (h.stood k)
  · exact (hg.gls (Nat.testBit_of_or e k)).trans (h.gls k)
  · exact (hg.mem (Nat.testBit_of_or e k)).trans (h.mem k)
  · exact (hg.codeFlash (Nat.testBit_of_or e k)).trans (h.codeFlash k)
  · exact (hg.barMem (Nat.testBit_of_or e k)).trans (h.barMem k)
  · exact (hg.hostMem (Nat.testBit_of_or e k)).trans (h.hostMem k)

theorem Writes.sub {a b m : Nat} (h : a ||| b = b) (e : b ||| m = m) : a ||| m = m := by
  rw [← e, ← Nat.lor_assoc, h]

theorem Writes.mono {m g : Nat} {s t : State} (hg : Writes g s t) (e : g ||| m = m) : Writes m s t :=
  Writes.step hg e (Writes.refl m s)

theorem Writes.ite {m : Nat} {s a b : State} {c : Prop} [Decidable c] (ha : Writes m s a) (hb : Writes m s b) :
    Writes m s (if c then a else b) := by
  split <;> assumption

theorem Writes.foldl {m : Nat} {α : Type} {f : State → α → State} {l : List α} {s t : State} (h : Writes m s t)
    (hf : ∀ u, Writes m s u → ∀ a, Writes m s (f u a)) : Writes m s (l.foldl f t) := by
  induction l generalizing t with
  | nil => exact h
  | cons a l ih => exact ih (hf t h a)

theorem Writes.onlyIf {m : Nat} {c : Bool} {f : State → State} {s t : State} (h : Writes m s t)
    (hf : ∀ u, Writes m s u → Writes m s (f u)) : Writes m s (Machine.onlyIf c f t) := by
  unfold Machine.onlyIf
  split
  · exact hf t h
  · exact h

/-- A state with any fields of the set `m` replaced. -/
theorem Writes.lit {m : Nat} {s x : State} {v0 : List Instr} {v1 : Nat} {v2 : Power} {v3 : Clock} {v4 : Tab Island} {v5 : Recorder} {v6 : ModeSt} {v7 : Link} {v8 : Tab Part} {v9 : Tab Ring} {v10 : Tab Job} {v11 : Nat} {v12 : Tab Intake} {v13 : Dispatch} {v14 : Lanes} {v15 : Meter} {v16 : Tab Guard} {v17 : GuardSt} {v18 : Tamper} {v19 : Mgmt} {v20 : KeyStore} {v21 : Rng} {v22 : Dma} {v23 : CodeFlash} {v24 : Vault} {v25 : VerbSt} {v26 : Approvals} {v27 : Tag} {v28 : Life} {v29 : Tab Job} {v30 : Tab Nat} {v31 : Mem} {v32 : Mem} {v33 : Mem} {v34 : Mem}
    (h : Writes m s x) (h0 : m.testBit 0 = true ∨ v0 = x.pending) (h1 : m.testBit 1 = true ∨ v1 = x.free) (h2 : m.testBit 2 = true ∨ v2 = x.power) (h3 : m.testBit 3 = true ∨ v3 = x.clock) (h4 : m.testBit 4 = true ∨ v4 = x.islands) (h5 : m.testBit 5 = true ∨ v5 = x.evr) (h6 : m.testBit 6 = true ∨ v6 = x.mode) (h7 : m.testBit 7 = true ∨ v7 = x.link) (h8 : m.testBit 8 = true ∨ v8 = x.parts) (h9 : m.testBit 9 = true ∨ v9 = x.rings) (h10 : m.testBit 10 = true ∨ v10 = x.jobs) (h11 : m.testBit 11 = true ∨ v11 = x.nextJob) (h12 : m.testBit 12 = true ∨ v12 = x.intake) (h13 : m.testBit 13 = true ∨ v13 = x.disp) (h14 : m.testBit 14 = true ∨ v14 = x.lanes) (h15 : m.testBit 15 = true ∨ v15 = x.meter) (h16 : m.testBit 16 = true ∨ v16 = x.guards) (h17 : m.testBit 17 = true ∨ v17 = x.guardSt) (h18 : m.testBit 18 = true ∨ v18 = x.tamper) (h19 : m.testBit 19 = true ∨ v19 = x.mgmt) (h20 : m.testBit 20 = true ∨ v20 = x.keys) (h21 : m.testBit 21 = true ∨ v21 = x.rng) (h22 : m.testBit 22 = true ∨ v22 = x.dma) (h23 : m.testBit 23 = true ∨ v23 = x.code) (h24 : m.testBit 24 = true ∨ v24 = x.vault) (h25 : m.testBit 25 = true ∨ v25 = x.verb) (h26 : m.testBit 26 = true ∨ v26 = x.appr) (h27 : m.testBit 27 = true ∨ v27 = x.tag) (h28 : m.testBit 28 = true ∨ v28 = x.life) (h29 : m.testBit 29 = true ∨ v29 = x.stood) (h30 : m.testBit 30 = true ∨ v30 = x.gls) (h31 : m.testBit 31 = true ∨ v31 = x.mem) (h32 : m.testBit 32 = true ∨ v32 = x.codeFlash) (h33 : m.testBit 33 = true ∨ v33 = x.barMem) (h34 : m.testBit 34 = true ∨ v34 = x.hostMem) :
    Writes m s ⟨v0, v1, v2, v3, v4, v5, v6, v7, v8, v9, v10, v11, v12, v13, v14, v15, v16, v17, v18, v19, v20, v21, v22, v23, v24, v25, v26, v27, v28, v29, v30, v31, v32, v33, v34⟩ := by
  constructor <;> intro k
  · rcases h0 with e | e
    · rw [e] at k; exact absurd k (by decide)
    · exact e.trans (h.pending k)
  · rcases h1 with e | e
    · rw [e] at k; exact absurd k (by decide)
    · exact e.trans (h.free k)
  · rcases h2 with e | e
    · rw [e] at k; exact absurd k (by decide)
    · exact e.trans (h.power k)
  · rcases h3 with e | e
    · rw [e] at k; exact absurd k (by decide)
    · exact e.trans (h.clock k)
  · rcases h4 with e | e
    · rw [e] at k; exact absurd k (by decide)
    · exact e.trans (h.islands k)
  · rcases h5 with e | e
    · rw [e] at k; exact absurd k (by decide)
    · exact e.trans (h.evr k)
  · rcases h6 with e | e
    · rw [e] at k; exact absurd k (by decide)
    · exact e.trans (h.mode k)
  · rcases h7 with e | e
    · rw [e] at k; exact absurd k (by decide)
    · exact e.trans (h.link k)
  · rcases h8 with e | e
    · rw [e] at k; exact absurd k (by decide)
    · exact e.trans (h.parts k)
  · rcases h9 with e | e
    · rw [e] at k; exact absurd k (by decide)
    · exact e.trans (h.rings k)
  · rcases h10 with e | e
    · rw [e] at k; exact absurd k (by decide)
    · exact e.trans (h.jobs k)
  · rcases h11 with e | e
    · rw [e] at k; exact absurd k (by decide)
    · exact e.trans (h.nextJob k)
  · rcases h12 with e | e
    · rw [e] at k; exact absurd k (by decide)
    · exact e.trans (h.intake k)
  · rcases h13 with e | e
    · rw [e] at k; exact absurd k (by decide)
    · exact e.trans (h.disp k)
  · rcases h14 with e | e
    · rw [e] at k; exact absurd k (by decide)
    · exact e.trans (h.lanes k)
  · rcases h15 with e | e
    · rw [e] at k; exact absurd k (by decide)
    · exact e.trans (h.meter k)
  · rcases h16 with e | e
    · rw [e] at k; exact absurd k (by decide)
    · exact e.trans (h.guards k)
  · rcases h17 with e | e
    · rw [e] at k; exact absurd k (by decide)
    · exact e.trans (h.guardSt k)
  · rcases h18 with e | e
    · rw [e] at k; exact absurd k (by decide)
    · exact e.trans (h.tamper k)
  · rcases h19 with e | e
    · rw [e] at k; exact absurd k (by decide)
    · exact e.trans (h.mgmt k)
  · rcases h20 with e | e
    · rw [e] at k; exact absurd k (by decide)
    · exact e.trans (h.keys k)
  · rcases h21 with e | e
    · rw [e] at k; exact absurd k (by decide)
    · exact e.trans (h.rng k)
  · rcases h22 with e | e
    · rw [e] at k; exact absurd k (by decide)
    · exact e.trans (h.dma k)
  · rcases h23 with e | e
    · rw [e] at k; exact absurd k (by decide)
    · exact e.trans (h.code k)
  · rcases h24 with e | e
    · rw [e] at k; exact absurd k (by decide)
    · exact e.trans (h.vault k)
  · rcases h25 with e | e
    · rw [e] at k; exact absurd k (by decide)
    · exact e.trans (h.verb k)
  · rcases h26 with e | e
    · rw [e] at k; exact absurd k (by decide)
    · exact e.trans (h.appr k)
  · rcases h27 with e | e
    · rw [e] at k; exact absurd k (by decide)
    · exact e.trans (h.tag k)
  · rcases h28 with e | e
    · rw [e] at k; exact absurd k (by decide)
    · exact e.trans (h.life k)
  · rcases h29 with e | e
    · rw [e] at k; exact absurd k (by decide)
    · exact e.trans (h.stood k)
  · rcases h30 with e | e
    · rw [e] at k; exact absurd k (by decide)
    · exact e.trans (h.gls k)
  · rcases h31 with e | e
    · rw [e] at k; exact absurd k (by decide)
    · exact e.trans (h.mem k)
  · rcases h32 with e | e
    · rw [e] at k; exact absurd k (by decide)
    · exact e.trans (h.codeFlash k)
  · rcases h33 with e | e
    · rw [e] at k; exact absurd k (by decide)
    · exact e.trans (h.barMem k)
  · rcases h34 with e | e
    · rw [e] at k; exact absurd k (by decide)
    · exact e.trans (h.hostMem k)

/-! One field replaced. -/

theorem Writes.upd_pending {m : Nat} {s x : State} {v : List Instr} (h : Writes m s x) (e : m.testBit 0 = true) : Writes m s { x with pending := v } := by
  apply Writes.lit h <;> first | exact .inr rfl | exact .inl e
theorem Writes.upd_free {m : Nat} {s x : State} {v : Nat} (h : Writes m s x) (e : m.testBit 1 = true) : Writes m s { x with free := v } := by
  apply Writes.lit h <;> first | exact .inr rfl | exact .inl e
theorem Writes.upd_power {m : Nat} {s x : State} {v : Power} (h : Writes m s x) (e : m.testBit 2 = true) : Writes m s { x with power := v } := by
  apply Writes.lit h <;> first | exact .inr rfl | exact .inl e
theorem Writes.upd_clock {m : Nat} {s x : State} {v : Clock} (h : Writes m s x) (e : m.testBit 3 = true) : Writes m s { x with clock := v } := by
  apply Writes.lit h <;> first | exact .inr rfl | exact .inl e
theorem Writes.upd_islands {m : Nat} {s x : State} {v : Tab Island} (h : Writes m s x) (e : m.testBit 4 = true) : Writes m s { x with islands := v } := by
  apply Writes.lit h <;> first | exact .inr rfl | exact .inl e
theorem Writes.upd_evr {m : Nat} {s x : State} {v : Recorder} (h : Writes m s x) (e : m.testBit 5 = true) : Writes m s { x with evr := v } := by
  apply Writes.lit h <;> first | exact .inr rfl | exact .inl e
theorem Writes.upd_mode {m : Nat} {s x : State} {v : ModeSt} (h : Writes m s x) (e : m.testBit 6 = true) : Writes m s { x with mode := v } := by
  apply Writes.lit h <;> first | exact .inr rfl | exact .inl e
theorem Writes.upd_link {m : Nat} {s x : State} {v : Link} (h : Writes m s x) (e : m.testBit 7 = true) : Writes m s { x with link := v } := by
  apply Writes.lit h <;> first | exact .inr rfl | exact .inl e
theorem Writes.upd_parts {m : Nat} {s x : State} {v : Tab Part} (h : Writes m s x) (e : m.testBit 8 = true) : Writes m s { x with parts := v } := by
  apply Writes.lit h <;> first | exact .inr rfl | exact .inl e
theorem Writes.upd_rings {m : Nat} {s x : State} {v : Tab Ring} (h : Writes m s x) (e : m.testBit 9 = true) : Writes m s { x with rings := v } := by
  apply Writes.lit h <;> first | exact .inr rfl | exact .inl e
theorem Writes.upd_jobs {m : Nat} {s x : State} {v : Tab Job} (h : Writes m s x) (e : m.testBit 10 = true) : Writes m s { x with jobs := v } := by
  apply Writes.lit h <;> first | exact .inr rfl | exact .inl e
theorem Writes.upd_nextJob {m : Nat} {s x : State} {v : Nat} (h : Writes m s x) (e : m.testBit 11 = true) : Writes m s { x with nextJob := v } := by
  apply Writes.lit h <;> first | exact .inr rfl | exact .inl e
theorem Writes.upd_intake {m : Nat} {s x : State} {v : Tab Intake} (h : Writes m s x) (e : m.testBit 12 = true) : Writes m s { x with intake := v } := by
  apply Writes.lit h <;> first | exact .inr rfl | exact .inl e
theorem Writes.upd_disp {m : Nat} {s x : State} {v : Dispatch} (h : Writes m s x) (e : m.testBit 13 = true) : Writes m s { x with disp := v } := by
  apply Writes.lit h <;> first | exact .inr rfl | exact .inl e
theorem Writes.upd_lanes {m : Nat} {s x : State} {v : Lanes} (h : Writes m s x) (e : m.testBit 14 = true) : Writes m s { x with lanes := v } := by
  apply Writes.lit h <;> first | exact .inr rfl | exact .inl e
theorem Writes.upd_meter {m : Nat} {s x : State} {v : Meter} (h : Writes m s x) (e : m.testBit 15 = true) : Writes m s { x with meter := v } := by
  apply Writes.lit h <;> first | exact .inr rfl | exact .inl e
theorem Writes.upd_guards {m : Nat} {s x : State} {v : Tab Guard} (h : Writes m s x) (e : m.testBit 16 = true) : Writes m s { x with guards := v } := by
  apply Writes.lit h <;> first | exact .inr rfl | exact .inl e
theorem Writes.upd_guardSt {m : Nat} {s x : State} {v : GuardSt} (h : Writes m s x) (e : m.testBit 17 = true) : Writes m s { x with guardSt := v } := by
  apply Writes.lit h <;> first | exact .inr rfl | exact .inl e
theorem Writes.upd_tamper {m : Nat} {s x : State} {v : Tamper} (h : Writes m s x) (e : m.testBit 18 = true) : Writes m s { x with tamper := v } := by
  apply Writes.lit h <;> first | exact .inr rfl | exact .inl e
theorem Writes.upd_mgmt {m : Nat} {s x : State} {v : Mgmt} (h : Writes m s x) (e : m.testBit 19 = true) : Writes m s { x with mgmt := v } := by
  apply Writes.lit h <;> first | exact .inr rfl | exact .inl e
theorem Writes.upd_keys {m : Nat} {s x : State} {v : KeyStore} (h : Writes m s x) (e : m.testBit 20 = true) : Writes m s { x with keys := v } := by
  apply Writes.lit h <;> first | exact .inr rfl | exact .inl e
theorem Writes.upd_rng {m : Nat} {s x : State} {v : Rng} (h : Writes m s x) (e : m.testBit 21 = true) : Writes m s { x with rng := v } := by
  apply Writes.lit h <;> first | exact .inr rfl | exact .inl e
theorem Writes.upd_dma {m : Nat} {s x : State} {v : Dma} (h : Writes m s x) (e : m.testBit 22 = true) : Writes m s { x with dma := v } := by
  apply Writes.lit h <;> first | exact .inr rfl | exact .inl e
theorem Writes.upd_code {m : Nat} {s x : State} {v : CodeFlash} (h : Writes m s x) (e : m.testBit 23 = true) : Writes m s { x with code := v } := by
  apply Writes.lit h <;> first | exact .inr rfl | exact .inl e
theorem Writes.upd_vault {m : Nat} {s x : State} {v : Vault} (h : Writes m s x) (e : m.testBit 24 = true) : Writes m s { x with vault := v } := by
  apply Writes.lit h <;> first | exact .inr rfl | exact .inl e
theorem Writes.upd_verb {m : Nat} {s x : State} {v : VerbSt} (h : Writes m s x) (e : m.testBit 25 = true) : Writes m s { x with verb := v } := by
  apply Writes.lit h <;> first | exact .inr rfl | exact .inl e
theorem Writes.upd_appr {m : Nat} {s x : State} {v : Approvals} (h : Writes m s x) (e : m.testBit 26 = true) : Writes m s { x with appr := v } := by
  apply Writes.lit h <;> first | exact .inr rfl | exact .inl e
theorem Writes.upd_tag {m : Nat} {s x : State} {v : Tag} (h : Writes m s x) (e : m.testBit 27 = true) : Writes m s { x with tag := v } := by
  apply Writes.lit h <;> first | exact .inr rfl | exact .inl e
theorem Writes.upd_life {m : Nat} {s x : State} {v : Life} (h : Writes m s x) (e : m.testBit 28 = true) : Writes m s { x with life := v } := by
  apply Writes.lit h <;> first | exact .inr rfl | exact .inl e
theorem Writes.upd_stood {m : Nat} {s x : State} {v : Tab Job} (h : Writes m s x) (e : m.testBit 29 = true) : Writes m s { x with stood := v } := by
  apply Writes.lit h <;> first | exact .inr rfl | exact .inl e
theorem Writes.upd_gls {m : Nat} {s x : State} {v : Tab Nat} (h : Writes m s x) (e : m.testBit 30 = true) : Writes m s { x with gls := v } := by
  apply Writes.lit h <;> first | exact .inr rfl | exact .inl e
theorem Writes.upd_mem {m : Nat} {s x : State} {v : Mem} (h : Writes m s x) (e : m.testBit 31 = true) : Writes m s { x with mem := v } := by
  apply Writes.lit h <;> first | exact .inr rfl | exact .inl e
theorem Writes.upd_codeFlash {m : Nat} {s x : State} {v : Mem} (h : Writes m s x) (e : m.testBit 32 = true) : Writes m s { x with codeFlash := v } := by
  apply Writes.lit h <;> first | exact .inr rfl | exact .inl e
theorem Writes.upd_barMem {m : Nat} {s x : State} {v : Mem} (h : Writes m s x) (e : m.testBit 33 = true) : Writes m s { x with barMem := v } := by
  apply Writes.lit h <;> first | exact .inr rfl | exact .inl e
theorem Writes.upd_hostMem {m : Nat} {s x : State} {v : Mem} (h : Writes m s x) (e : m.testBit 34 = true) : Writes m s { x with hostMem := v } := by
  apply Writes.lit h <;> first | exact .inr rfl | exact .inl e

/-! Outcomes, results of instructions, and values that carry a state. -/

/-- The outcome is a next state that differs in the fields of `m` alone. -/
def WritesOut (m : Nat) (s : State) (o : Host.Outcome State Fault Refusal) : Prop := ∃ t, o = .next t ∧ Writes m s t

theorem WritesOut.next {m : Nat} {s t : State} (h : Writes m s t) : WritesOut m s (.next t) := ⟨t, rfl, h⟩

theorem WritesOut.ite {m : Nat} {s : State} {c : Prop} [Decidable c] {a b : Host.Outcome State Fault Refusal} (ha : WritesOut m s a)
    (hb : WritesOut m s b) : WritesOut m s (if c then a else b) := by
  split <;> assumption

theorem WritesOut.mono {m g : Nat} {s : State} {o : Host.Outcome State Fault Refusal} (hg : WritesOut g s o) (e : g ||| m = m) :
    WritesOut m s o := by
  obtain ⟨t, rfl, h⟩ := hg
  exact ⟨t, rfl, h.mono e⟩

/-- An outcome of an operation on a state that differs in the fields of `m` alone. -/
theorem WritesOut.step {m g : Nat} {s t : State} {o : Host.Outcome State Fault Refusal} (hg : WritesOut g t o) (e : g ||| m = m)
    (h : Writes m s t) : WritesOut m s o := by
  obtain ⟨u, rfl, hu⟩ := hg
  exact ⟨u, rfl, Writes.step hu e h⟩

/-- What an instruction comes to, done or with a cause, differs in the fields of `m` alone. -/
inductive WritesRes (m : Nat) (s : State) : VRes → Prop
  | done {t : State} (h : Writes m s t) : WritesRes m s (.done t)
  | exc {e : Exc} {t : State} (h : Writes m s t) : WritesRes m s (.exc e t)
  | stall : WritesRes m s .stall
  | rngWait {a : Nat} : WritesRes m s (.rngWait a)

/-- The state of a pair differs in the fields of `m` alone. -/
inductive WritesSnd (m : Nat) (s : State) {α : Type} : α × State → Prop
  | mk {a : α} {t : State} (h : Writes m s t) : WritesSnd m s (a, t)

/-- A state, if there is one, differs in the fields of `m` alone. -/
inductive WritesOpt (m : Nat) (s : State) : Option State → Prop
  | none : WritesOpt m s none
  | some {t : State} (h : Writes m s t) : WritesOpt m s (some t)

/-- The state of a pair, if there is one, differs in the fields of `m` alone. -/
inductive WritesOptSnd (m : Nat) (s : State) {α : Type} : Option (α × State) → Prop
  | none : WritesOptSnd m s none
  | some {a : α} {t : State} (h : Writes m s t) : WritesOptSnd m s (some (a, t))

/-- A result, or a pair with a state: both differ in the fields of `m` alone. -/
inductive WritesSum (m : Nat) (s : State) {α : Type} : VRes ⊕ (α × State) → Prop
  | inl {e : VRes} (h : WritesRes m s e) : WritesSum m s (.inl e)
  | inr {a : α} {t : State} (h : Writes m s t) : WritesSum m s (.inr (a, t))

/-- A result, if it is one, differs in the fields of `m` alone. -/
inductive WritesInl (m : Nat) (s : State) {α : Type} : VRes ⊕ α → Prop
  | inl {e : VRes} (h : WritesRes m s e) : WritesInl m s (.inl e)
  | inr {a : α} : WritesInl m s (.inr a)

theorem WritesRes.step {m g : Nat} {s t : State} {o : VRes} (hg : WritesRes g t o) (e : g ||| m = m) (h : Writes m s t) : WritesRes m s o := by
  cases hg
  · exact .done (Writes.step (by assumption) e h)
  · exact .exc (Writes.step (by assumption) e h)
  · exact .stall
  · exact .rngWait

theorem WritesSnd.step {m g : Nat} {s t : State} {α : Type} {o : α × State} (hg : WritesSnd g t o) (e : g ||| m = m) (h : Writes m s t) : WritesSnd m s o := by
  cases hg
  exact .mk (Writes.step (by assumption) e h)

theorem WritesOpt.step {m g : Nat} {s t : State} {o : Option State} (hg : WritesOpt g t o) (e : g ||| m = m) (h : Writes m s t) : WritesOpt m s o := by
  cases hg
  · exact .none
  · exact .some (Writes.step (by assumption) e h)

theorem WritesOptSnd.step {m g : Nat} {s t : State} {α : Type} {o : Option (α × State)} (hg : WritesOptSnd g t o) (e : g ||| m = m) (h : Writes m s t) : WritesOptSnd m s o := by
  cases hg
  · exact .none
  · exact .some (Writes.step (by assumption) e h)

theorem WritesSum.step {m g : Nat} {s t : State} {α : Type} {o : VRes ⊕ (α × State)} (hg : WritesSum g t o) (e : g ||| m = m) (h : Writes m s t) : WritesSum m s o := by
  cases hg
  · exact .inl (WritesRes.step (by assumption) e h)
  · exact .inr (Writes.step (by assumption) e h)

theorem WritesInl.step {m g : Nat} {s t : State} {α : Type} {o : VRes ⊕ α} (hg : WritesInl g t o) (e : g ||| m = m) (h : Writes m s t) : WritesInl m s o := by
  cases hg
  · exact .inl (WritesRes.step (by assumption) e h)
  · exact .inr

theorem WritesRes.ite {m : Nat} {s : State} {c : Prop} [Decidable c] {a b : VRes} (ha : WritesRes m s a) (hb : WritesRes m s b) :
    WritesRes m s (if c then a else b) := by
  split <;> assumption

theorem WritesRes.of_done {m : Nat} {s t : State} {r : VRes} (e : r = .done t) (h : WritesRes m s r) : Writes m s t := by
  subst e; cases h; assumption

theorem WritesRes.of_exc {m : Nat} {s t : State} {r : VRes} {x : Exc} (e : r = .exc x t) (h : WritesRes m s r) : Writes m s t := by
  subst e; cases h; assumption

theorem WritesSnd.of_eq {m : Nat} {s t : State} {α : Type} {p : α × State} {a : α} (e : p = (a, t)) (h : WritesSnd m s p) :
    Writes m s t := by
  subst e; cases h; assumption

theorem WritesSnd.snd {m : Nat} {s : State} {α : Type} {p : α × State} (h : WritesSnd m s p) : Writes m s p.2 := by
  cases h; assumption

theorem WritesOpt.of_eq {m : Nat} {s t : State} {o : Option State} (e : o = Option.some t) (h : WritesOpt m s o) : Writes m s t := by
  subst e; cases h; assumption

theorem WritesOpt.getD {m : Nat} {s t : State} {o : Option State} (h : WritesOpt m s o) (ht : Writes m s t) :
    Writes m s (o.getD t) := by
  cases h
  · exact ht
  · assumption

theorem WritesOpt.map {m : Nat} {s : State} {o : Option State} {f : State → State} (h : WritesOpt m s o)
    (hf : ∀ t, Writes m s t → Writes m s (f t)) : WritesOpt m s (o.map f) := by
  cases h
  · exact .none
  · exact .some (hf _ (by assumption))

theorem WritesOptSnd.of_eq {m : Nat} {s t : State} {α : Type} {o : Option (α × State)} {a : α} (e : o = Option.some (a, t))
    (h : WritesOptSnd m s o) : Writes m s t := by
  subst e; cases h; assumption

theorem WritesSum.of_inl {m : Nat} {s : State} {α : Type} {x : VRes ⊕ (α × State)} {r : VRes} (e : x = .inl r)
    (h : WritesSum m s x) : WritesRes m s r := by
  subst e; cases h; assumption

theorem WritesSum.of_exc {m : Nat} {s t : State} {α : Type} {x : VRes ⊕ (α × State)} {y : Exc} (e : x = .inl (.exc y t))
    (h : WritesSum m s x) : Writes m s t := WritesRes.of_exc rfl (WritesSum.of_inl e h)

theorem WritesSum.of_done {m : Nat} {s t : State} {α : Type} {x : VRes ⊕ (α × State)} (e : x = .inl (.done t))
    (h : WritesSum m s x) : Writes m s t := WritesRes.of_done rfl (WritesSum.of_inl e h)

theorem WritesSum.of_inr {m : Nat} {s t : State} {α : Type} {x : VRes ⊕ (α × State)} {a : α} (e : x = .inr (a, t))
    (h : WritesSum m s x) : Writes m s t := by
  subst e; cases h; assumption

theorem WritesInl.of_inl {m : Nat} {s : State} {α : Type} {x : VRes ⊕ α} {r : VRes} (e : x = .inl r) (h : WritesInl m s x) :
    WritesRes m s r := by
  subst e; cases h; assumption

end Sys2Proof.Machine
end

