-- ==== Sys2Proof/Laws/Writes1.lean ====
section
/-! SUPPORT. Which fields each operation can write (see Writes.lean), operation by operation: Ops, Events, Meter, Time, Jobs. -/

set_option linter.unusedTactic false
set_option linter.unreachableTactic false
set_option linter.unusedVariables false

namespace Sys2Proof.Machine

open Sys2Proof

/-! ### Ops -/

theorem State.gsets_writes {e : GE} {sel : Nat} {v : Nat} {wm : Nat} {z0 s : State} (wh : Writes wm z0 s) (we : 1073741824 ||| wm = wm) :
    Writes wm z0 (State.gsets s e sel v) := by
  refine Writes.step (g := 1073741824) ?_ we wh
  clear wh we
  have hz : Writes 1073741824 s s := Writes.refl _ _
  unfold State.gsets
  try dsimp only
  repeat' (first
    | (with_reducible refine Writes.upd_gls ?_ ?_; (on_goal 2 => decide); with_reducible assumption))

theorem State.gset_writes {e : GE} {v : Nat} {wm : Nat} {z0 s : State} (wh : Writes wm z0 s) (we : 1073741824 ||| wm = wm) : Writes wm z0
    (State.gset s e v) := by
  refine Writes.step (g := 1073741824) ?_ we wh
  clear wh we
  have hz : Writes 1073741824 s s := Writes.refl _ _
  unfold State.gset
  try dsimp only
  repeat' (first
    | with_reducible assumption
    | (with_reducible apply State.gsets_writes; (on_goal 2 => decide)))

theorem State.bumpBys_writes {e : GE} {sel : Nat} {n : Nat} {wm : Nat} {z0 s : State} (wh : Writes wm z0 s) (we : 1073741824 ||| wm = wm) :
    Writes wm z0 (State.bumpBys s e sel n) := by
  refine Writes.step (g := 1073741824) ?_ we wh
  clear wh we
  have hz : Writes 1073741824 s s := Writes.refl _ _
  unfold State.bumpBys
  try dsimp only
  repeat' (first
    | with_reducible assumption
    | (with_reducible apply State.gsets_writes; (on_goal 2 => decide)))

theorem State.bump_writes {e : GE} {wm : Nat} {z0 s : State} (wh : Writes wm z0 s) (we : 1073741824 ||| wm = wm) : Writes wm z0 (State.bump s e) := by
  refine Writes.step (g := 1073741824) ?_ we wh
  clear wh we
  have hz : Writes 1073741824 s s := Writes.refl _ _
  unfold State.bump
  try dsimp only
  repeat' (first
    | with_reducible assumption
    | (with_reducible apply State.bumpBys_writes; (on_goal 2 => decide)))

theorem State.bumps_writes {e : GE} {sel : Nat} {wm : Nat} {z0 s : State} (wh : Writes wm z0 s) (we : 1073741824 ||| wm = wm) : Writes wm
    z0 (State.bumps s e sel) := by
  refine Writes.step (g := 1073741824) ?_ we wh
  clear wh we
  have hz : Writes 1073741824 s s := Writes.refl _ _
  unfold State.bumps
  try dsimp only
  repeat' (first
    | with_reducible assumption
    | (with_reducible apply State.bumpBys_writes; (on_goal 2 => decide)))

theorem State.drawNat_writes {wm : Nat} {z0 s : State} (wh : Writes wm z0 s) (we : 2 ||| wm = wm) : WritesSnd wm z0 (State.drawNat s) := by
  refine WritesSnd.step (g := 2) ?_ we wh
  clear wh we
  have hz : Writes 2 s s := Writes.refl _ _
  unfold State.drawNat
  try dsimp only
  repeat' (first
    | with_reducible apply WritesSnd.mk
    | (with_reducible refine Writes.upd_free ?_ ?_; (on_goal 2 => decide); with_reducible assumption))

theorem State.drawBytes_writes {n : Nat} {wm : Nat} {z0 s : State} (wh : Writes wm z0 s) (we : 2 ||| wm = wm) : WritesSnd wm z0
    (State.drawBytes s n) := by
  refine WritesSnd.step (g := 2) ?_ we wh
  clear wh we
  have hz : Writes 2 s s := Writes.refl _ _
  unfold State.drawBytes
  try dsimp only
  repeat' (first
    | with_reducible apply WritesSnd.mk
    | (with_reducible refine Writes.upd_free ?_ ?_; (on_goal 2 => decide); with_reducible assumption))

theorem State.setIsl_writes {n : Nat} {v : Nat} {wm : Nat} {z0 s : State} (wh : Writes wm z0 s) (we : 16 ||| wm = wm) : Writes wm z0
    (State.setIsl s n v) := by
  refine Writes.step (g := 16) ?_ we wh
  clear wh we
  have hz : Writes 16 s s := Writes.refl _ _
  unfold State.setIsl
  try dsimp only
  repeat' (first
    | (with_reducible refine Writes.upd_islands ?_ ?_; (on_goal 2 => decide); with_reducible assumption))

theorem strikeIsl_writes {l : List Nat} {wm : Nat} {z0 s : State} (wh : Writes wm z0 s) (we : 16 ||| wm = wm) : Writes wm z0 (strikeIsl s l) := by
  refine Writes.step (g := 16) ?_ we wh
  clear wh we
  have hz : Writes 16 s s := Writes.refl _ _
  unfold strikeIsl
  try dsimp only
  repeat' (first
    | intro _
    | with_reducible assumption
    | (with_reducible apply State.setIsl_writes; (on_goal 2 => decide))
    | with_reducible apply Writes.ite
    | with_reducible apply Writes.foldl)

theorem hoistIsl_writes {l : List Nat} {wm : Nat} {z0 s : State} (wh : Writes wm z0 s) (we : 16 ||| wm = wm) : Writes wm z0 (hoistIsl s l) := by
  refine Writes.step (g := 16) ?_ we wh
  clear wh we
  have hz : Writes 16 s s := Writes.refl _ _
  unfold hoistIsl
  try dsimp only
  repeat' (first
    | intro _
    | with_reducible assumption
    | (with_reducible apply State.setIsl_writes; (on_goal 2 => decide))
    | with_reducible apply Writes.ite
    | with_reducible apply Writes.foldl)

theorem setThrottle_writes {wm : Nat} {z0 s0 : State} (wh : Writes wm z0 s0) (we : 33554450 ||| wm = wm) : Writes wm z0 (setThrottle s0) := by
  refine Writes.step (g := 33554450) ?_ we wh
  clear wh we
  have hz : Writes 33554450 s0 s0 := Writes.refl _ _
  unfold setThrottle
  try dsimp only
  repeat' (first
    | intro _
    | with_reducible assumption
    | (with_reducible apply State.setIsl_writes; (on_goal 2 => decide))
    | with_reducible apply Writes.ite
    | with_reducible apply Writes.foldl
    | (refine Writes.lit ?_ (.inr rfl) (.inl (by decide)) (.inr rfl) (.inr rfl) (.inr rfl) (.inr rfl) (.inr rfl) (.inr rfl) (.inr rfl) (.inr rfl) (.inr rfl) (.inr rfl) (.inr rfl) (.inr rfl) (.inr rfl) (.inr rfl) (.inr rfl) (.inr rfl) (.inr rfl) (.inr rfl) (.inr rfl) (.inr rfl) (.inr rfl) (.inr rfl) (.inr rfl) (.inl (by decide)) (.inr rfl) (.inr rfl) (.inr rfl) (.inr rfl) (.inr rfl) (.inr rfl) (.inr rfl) (.inr rfl) (.inr rfl); with_reducible assumption))

theorem State.present_writes {isl : Nat} {t : Tok} {wm : Nat} {z0 s : State} (wh : Writes wm z0 s) (we : 32 ||| wm = wm) : Writes wm z0
    (State.present s isl t) := by
  refine Writes.step (g := 32) ?_ we wh
  clear wh we
  have hz : Writes 32 s s := Writes.refl _ _
  unfold State.present
  try dsimp only
  repeat' (first
    | (with_reducible refine Writes.upd_evr ?_ ?_; (on_goal 2 => decide); with_reducible assumption))

theorem State.event_writes {isl : Nat} {code : Nat} {len : Nat} {pay : Bytes} {wm : Nat} {z0 s : State} (wh : Writes wm z0 s) (we : 32 |||
    wm = wm) : Writes wm z0 (State.event s isl code len pay) := by
  refine Writes.step (g := 32) ?_ we wh
  clear wh we
  have hz : Writes 32 s s := Writes.refl _ _
  unfold State.event
  try dsimp only
  repeat' (first
    | with_reducible assumption
    | (with_reducible apply State.present_writes; (on_goal 2 => decide)))

theorem State.report_writes {isl : Nat} {code : Nat} {subj : Nat} {detail : Nat} {wm : Nat} {z0 s : State} (wh : Writes wm z0 s) (we : 32
    ||| wm = wm) : Writes wm z0 (State.report s isl code subj detail) := by
  refine Writes.step (g := 32) ?_ we wh
  clear wh we
  have hz : Writes 32 s s := Writes.refl _ _
  unfold State.report
  try dsimp only
  repeat' (first
    | with_reducible assumption
    | (with_reducible apply State.present_writes; (on_goal 2 => decide)))

theorem State.reportBy_writes {isl : Nat} {code : Nat} {subj : Nat} {detail : Nat} {who : Nat} {wm : Nat} {z0 s : State} (wh : Writes wm z0
    s) (we : 32 ||| wm = wm) : Writes wm z0 (State.reportBy s isl code subj detail who) := by
  refine Writes.step (g := 32) ?_ we wh
  clear wh we
  have hz : Writes 32 s s := Writes.refl _ _
  unfold State.reportBy
  try dsimp only
  repeat' (first
    | with_reducible assumption
    | (with_reducible apply State.present_writes; (on_goal 2 => decide)))

theorem State.msix_writes {fn : Nat} {vec : Nat} {wm : Nat} {z0 s : State} (wh : Writes wm z0 s) (we : 128 ||| wm = wm) : Writes wm z0
    (State.msix s fn vec) := by
  refine Writes.step (g := 128) ?_ we wh
  clear wh we
  have hz : Writes 128 s s := Writes.refl _ _
  unfold State.msix
  try dsimp only
  repeat' (first
    | with_reducible assumption
    | with_reducible apply Writes.ite
    | (with_reducible refine Writes.upd_link ?_ ?_; (on_goal 2 => decide); with_reducible assumption))

theorem State.msixAlert_writes {wm : Nat} {z0 s : State} (wh : Writes wm z0 s) (we : 128 ||| wm = wm) : Writes wm z0 (State.msixAlert s) := by
  refine Writes.step (g := 128) ?_ we wh
  clear wh we
  have hz : Writes 128 s s := Writes.refl _ _
  unfold State.msixAlert
  try dsimp only
  repeat' (first
    | with_reducible assumption
    | (with_reducible apply State.msix_writes; (on_goal 2 => decide))
    | with_reducible apply Writes.ite)

theorem State.notify_writes {body : Bytes} {wm : Nat} {z0 s : State} (wh : Writes wm z0 s) (we : 524288 ||| wm = wm) : Writes wm z0
    (State.notify s body) := by
  refine Writes.step (g := 524288) ?_ we wh
  clear wh we
  have hz : Writes 524288 s s := Writes.refl _ _
  unfold State.notify
  try dsimp only
  repeat' (first
    | (with_reducible refine Writes.upd_mgmt ?_ ?_; (on_goal 2 => decide); with_reducible assumption))

theorem State.hostWrite_writes {fn : Nat} {a : Nat} {bs : Bytes} {wm : Nat} {z0 s : State} (wh : Writes wm z0 s) (we : 17179869184 ||| wm =
    wm) : Writes wm z0 (State.hostWrite s fn a bs) := by
  refine Writes.step (g := 17179869184) ?_ we wh
  clear wh we
  have hz : Writes 17179869184 s s := Writes.refl _ _
  unfold State.hostWrite
  try dsimp only
  repeat' (first
    | (with_reducible refine Writes.upd_hostMem ?_ ?_; (on_goal 2 => decide); with_reducible assumption))

theorem State.withClock_writes {f : Clock → Clock} {wm : Nat} {z0 s : State} (wh : Writes wm z0 s) (we : 8 ||| wm = wm) : Writes wm z0
    (State.withClock s f) := by
  refine Writes.step (g := 8) ?_ we wh
  clear wh we
  have hz : Writes 8 s s := Writes.refl _ _
  unfold State.withClock
  try dsimp only
  repeat' (first
    | (with_reducible refine Writes.upd_clock ?_ ?_; (on_goal 2 => decide); with_reducible assumption))

theorem State.withEvr_writes {f : Recorder → Recorder} {wm : Nat} {z0 s : State} (wh : Writes wm z0 s) (we : 32 ||| wm = wm) : Writes wm z0
    (State.withEvr s f) := by
  refine Writes.step (g := 32) ?_ we wh
  clear wh we
  have hz : Writes 32 s s := Writes.refl _ _
  unfold State.withEvr
  try dsimp only
  repeat' (first
    | (with_reducible refine Writes.upd_evr ?_ ?_; (on_goal 2 => decide); with_reducible assumption))

theorem State.withMode_writes {f : ModeSt → ModeSt} {wm : Nat} {z0 s : State} (wh : Writes wm z0 s) (we : 64 ||| wm = wm) : Writes wm z0
    (State.withMode s f) := by
  refine Writes.step (g := 64) ?_ we wh
  clear wh we
  have hz : Writes 64 s s := Writes.refl _ _
  unfold State.withMode
  try dsimp only
  repeat' (first
    | (with_reducible refine Writes.upd_mode ?_ ?_; (on_goal 2 => decide); with_reducible assumption))

theorem State.withLink_writes {f : Link → Link} {wm : Nat} {z0 s : State} (wh : Writes wm z0 s) (we : 128 ||| wm = wm) : Writes wm z0
    (State.withLink s f) := by
  refine Writes.step (g := 128) ?_ we wh
  clear wh we
  have hz : Writes 128 s s := Writes.refl _ _
  unfold State.withLink
  try dsimp only
  repeat' (first
    | (with_reducible refine Writes.upd_link ?_ ?_; (on_goal 2 => decide); with_reducible assumption))

theorem State.withPower_writes {f : Power → Power} {wm : Nat} {z0 s : State} (wh : Writes wm z0 s) (we : 4 ||| wm = wm) : Writes wm z0
    (State.withPower s f) := by
  refine Writes.step (g := 4) ?_ we wh
  clear wh we
  have hz : Writes 4 s s := Writes.refl _ _
  unfold State.withPower
  try dsimp only
  repeat' (first
    | (with_reducible refine Writes.upd_power ?_ ?_; (on_goal 2 => decide); with_reducible assumption))

theorem State.withTamper_writes {f : Tamper → Tamper} {wm : Nat} {z0 s : State} (wh : Writes wm z0 s) (we : 262144 ||| wm = wm) : Writes wm
    z0 (State.withTamper s f) := by
  refine Writes.step (g := 262144) ?_ we wh
  clear wh we
  have hz : Writes 262144 s s := Writes.refl _ _
  unfold State.withTamper
  try dsimp only
  repeat' (first
    | (with_reducible refine Writes.upd_tamper ?_ ?_; (on_goal 2 => decide); with_reducible assumption))

theorem State.withMgmt_writes {f : Mgmt → Mgmt} {wm : Nat} {z0 s : State} (wh : Writes wm z0 s) (we : 524288 ||| wm = wm) : Writes wm z0
    (State.withMgmt s f) := by
  refine Writes.step (g := 524288) ?_ we wh
  clear wh we
  have hz : Writes 524288 s s := Writes.refl _ _
  unfold State.withMgmt
  try dsimp only
  repeat' (first
    | (with_reducible refine Writes.upd_mgmt ?_ ?_; (on_goal 2 => decide); with_reducible assumption))

theorem State.withPart_writes {p : Nat} {f : Part → Part} {wm : Nat} {z0 s : State} (wh : Writes wm z0 s) (we : 256 ||| wm = wm) : Writes
    wm z0 (State.withPart s p f) := by
  refine Writes.step (g := 256) ?_ we wh
  clear wh we
  have hz : Writes 256 s s := Writes.refl _ _
  unfold State.withPart
  try dsimp only
  repeat' (first
    | (with_reducible refine Writes.upd_parts ?_ ?_; (on_goal 2 => decide); with_reducible assumption))

theorem State.withJob_writes {j : Nat} {f : Job → Job} {wm : Nat} {z0 s : State} (wh : Writes wm z0 s) (we : 1024 ||| wm = wm) : Writes wm
    z0 (State.withJob s j f) := by
  refine Writes.step (g := 1024) ?_ we wh
  clear wh we
  have hz : Writes 1024 s s := Writes.refl _ _
  unfold State.withJob
  try dsimp only
  repeat' (first
    | (with_reducible refine Writes.upd_jobs ?_ ?_; (on_goal 2 => decide); with_reducible assumption))

theorem State.withKeys_writes {f : KeyStore → KeyStore} {wm : Nat} {z0 s : State} (wh : Writes wm z0 s) (we : 1048576 ||| wm = wm) : Writes
    wm z0 (State.withKeys s f) := by
  refine Writes.step (g := 1048576) ?_ we wh
  clear wh we
  have hz : Writes 1048576 s s := Writes.refl _ _
  unfold State.withKeys
  try dsimp only
  repeat' (first
    | (with_reducible refine Writes.upd_keys ?_ ?_; (on_goal 2 => decide); with_reducible assumption))

theorem State.withSlot_writes {i : Nat} {f : KSlot → KSlot} {wm : Nat} {z0 s : State} (wh : Writes wm z0 s) (we : 1048576 ||| wm = wm) :
    Writes wm z0 (State.withSlot s i f) := by
  refine Writes.step (g := 1048576) ?_ we wh
  clear wh we
  have hz : Writes 1048576 s s := Writes.refl _ _
  unfold State.withSlot
  try dsimp only
  repeat' (first
    | with_reducible assumption
    | (with_reducible apply State.withKeys_writes; (on_goal 2 => decide)))

theorem State.withRng_writes {f : Rng → Rng} {wm : Nat} {z0 s : State} (wh : Writes wm z0 s) (we : 2097152 ||| wm = wm) : Writes wm z0
    (State.withRng s f) := by
  refine Writes.step (g := 2097152) ?_ we wh
  clear wh we
  have hz : Writes 2097152 s s := Writes.refl _ _
  unfold State.withRng
  try dsimp only
  repeat' (first
    | (with_reducible refine Writes.upd_rng ?_ ?_; (on_goal 2 => decide); with_reducible assumption))

theorem State.withDma_writes {f : Dma → Dma} {wm : Nat} {z0 s : State} (wh : Writes wm z0 s) (we : 4194304 ||| wm = wm) : Writes wm z0
    (State.withDma s f) := by
  refine Writes.step (g := 4194304) ?_ we wh
  clear wh we
  have hz : Writes 4194304 s s := Writes.refl _ _
  unfold State.withDma
  try dsimp only
  repeat' (first
    | (with_reducible refine Writes.upd_dma ?_ ?_; (on_goal 2 => decide); with_reducible assumption))

theorem State.withChan_writes {c : Nat} {f : DmaCh → DmaCh} {wm : Nat} {z0 s : State} (wh : Writes wm z0 s) (we : 4194304 ||| wm = wm) :
    Writes wm z0 (State.withChan s c f) := by
  refine Writes.step (g := 4194304) ?_ we wh
  clear wh we
  have hz : Writes 4194304 s s := Writes.refl _ _
  unfold State.withChan
  try dsimp only
  repeat' (first
    | with_reducible assumption
    | (with_reducible apply State.withDma_writes; (on_goal 2 => decide)))

theorem State.withCode_writes {f : CodeFlash → CodeFlash} {wm : Nat} {z0 s : State} (wh : Writes wm z0 s) (we : 8388608 ||| wm = wm) :
    Writes wm z0 (State.withCode s f) := by
  refine Writes.step (g := 8388608) ?_ we wh
  clear wh we
  have hz : Writes 8388608 s s := Writes.refl _ _
  unfold State.withCode
  try dsimp only
  repeat' (first
    | (with_reducible refine Writes.upd_code ?_ ?_; (on_goal 2 => decide); with_reducible assumption))

theorem State.withVault_writes {f : Vault → Vault} {wm : Nat} {z0 s : State} (wh : Writes wm z0 s) (we : 16777216 ||| wm = wm) : Writes wm
    z0 (State.withVault s f) := by
  refine Writes.step (g := 16777216) ?_ we wh
  clear wh we
  have hz : Writes 16777216 s s := Writes.refl _ _
  unfold State.withVault
  try dsimp only
  repeat' (first
    | (with_reducible refine Writes.upd_vault ?_ ?_; (on_goal 2 => decide); with_reducible assumption))

theorem State.withLanes_writes {f : Lanes → Lanes} {wm : Nat} {z0 s : State} (wh : Writes wm z0 s) (we : 16384 ||| wm = wm) : Writes wm z0
    (State.withLanes s f) := by
  refine Writes.step (g := 16384) ?_ we wh
  clear wh we
  have hz : Writes 16384 s s := Writes.refl _ _
  unfold State.withLanes
  try dsimp only
  repeat' (first
    | (with_reducible refine Writes.upd_lanes ?_ ?_; (on_goal 2 => decide); with_reducible assumption))

theorem State.withSquad_writes {q : Nat} {f : Squad → Squad} {wm : Nat} {z0 s : State} (wh : Writes wm z0 s) (we : 16384 ||| wm = wm) :
    Writes wm z0 (State.withSquad s q f) := by
  refine Writes.step (g := 16384) ?_ we wh
  clear wh we
  have hz : Writes 16384 s s := Writes.refl _ _
  unfold State.withSquad
  try dsimp only
  repeat' (first
    | with_reducible assumption
    | (with_reducible apply State.withLanes_writes; (on_goal 2 => decide)))

theorem State.withIntake_writes {c : Nat} {f : Intake → Intake} {wm : Nat} {z0 s : State} (wh : Writes wm z0 s) (we : 4096 ||| wm = wm) :
    Writes wm z0 (State.withIntake s c f) := by
  refine Writes.step (g := 4096) ?_ we wh
  clear wh we
  have hz : Writes 4096 s s := Writes.refl _ _
  unfold State.withIntake
  try dsimp only
  repeat' (first
    | (with_reducible refine Writes.upd_intake ?_ ?_; (on_goal 2 => decide); with_reducible assumption))

theorem State.withVerb_writes {f : VerbSt → VerbSt} {wm : Nat} {z0 s : State} (wh : Writes wm z0 s) (we : 33554432 ||| wm = wm) : Writes wm
    z0 (State.withVerb s f) := by
  refine Writes.step (g := 33554432) ?_ we wh
  clear wh we
  have hz : Writes 33554432 s s := Writes.refl _ _
  unfold State.withVerb
  try dsimp only
  repeat' (first
    | (with_reducible refine Writes.upd_verb ?_ ?_; (on_goal 2 => decide); with_reducible assumption))

theorem State.withUnit_writes {u : Nat} {f : VUnit → VUnit} {wm : Nat} {z0 s : State} (wh : Writes wm z0 s) (we : 33554432 ||| wm = wm) :
    Writes wm z0 (State.withUnit s u f) := by
  refine Writes.step (g := 33554432) ?_ we wh
  clear wh we
  have hz : Writes 33554432 s s := Writes.refl _ _
  unfold State.withUnit
  try dsimp only
  repeat' (first
    | with_reducible assumption
    | (with_reducible apply State.withVerb_writes; (on_goal 2 => decide)))

theorem sendEvents_writes {mask : Nat} {sender : Option Nat} {wm : Nat} {z0 s : State} (wh : Writes wm z0 s) (we : 33554432 ||| wm = wm) :
    Writes wm z0 (sendEvents s mask sender) := by
  refine Writes.step (g := 33554432) ?_ we wh
  clear wh we
  have hz : Writes 33554432 s s := Writes.refl _ _
  unfold sendEvents
  try dsimp only
  repeat' (first
    | intro _
    | with_reducible assumption
    | (with_reducible apply State.withUnit_writes; (on_goal 2 => decide))
    | with_reducible apply Writes.foldl)

theorem State.withGuard_writes {g : Nat} {f : Guard → Guard} {wm : Nat} {z0 s : State} (wh : Writes wm z0 s) (we : 65536 ||| wm = wm) :
    Writes wm z0 (State.withGuard s g f) := by
  refine Writes.step (g := 65536) ?_ we wh
  clear wh we
  have hz : Writes 65536 s s := Writes.refl _ _
  unfold State.withGuard
  try dsimp only
  repeat' (first
    | (with_reducible refine Writes.upd_guards ?_ ?_; (on_goal 2 => decide); with_reducible assumption))

theorem State.withLife_writes {f : Life → Life} {wm : Nat} {z0 s : State} (wh : Writes wm z0 s) (we : 268435456 ||| wm = wm) : Writes wm z0
    (State.withLife s f) := by
  refine Writes.step (g := 268435456) ?_ we wh
  clear wh we
  have hz : Writes 268435456 s s := Writes.refl _ _
  unfold State.withLife
  try dsimp only
  repeat' (first
    | (with_reducible refine Writes.upd_life ?_ ?_; (on_goal 2 => decide); with_reducible assumption))

theorem State.withMeter_writes {f : Meter → Meter} {wm : Nat} {z0 s : State} (wh : Writes wm z0 s) (we : 32768 ||| wm = wm) : Writes wm z0
    (State.withMeter s f) := by
  refine Writes.step (g := 32768) ?_ we wh
  clear wh we
  have hz : Writes 32768 s s := Writes.refl _ _
  unfold State.withMeter
  try dsimp only
  repeat' (first
    | (with_reducible refine Writes.upd_meter ?_ ?_; (on_goal 2 => decide); with_reducible assumption))

theorem State.withRing_writes {p : Nat} {r : Nat} {f : Ring → Ring} {wm : Nat} {z0 s : State} (wh : Writes wm z0 s) (we : 512 ||| wm = wm)
    : Writes wm z0 (State.withRing s p r f) := by
  refine Writes.step (g := 512) ?_ we wh
  clear wh we
  have hz : Writes 512 s s := Writes.refl _ _
  unfold State.withRing
  try dsimp only
  repeat' (first
    | (with_reducible refine Writes.upd_rings ?_ ?_; (on_goal 2 => decide); with_reducible assumption))

/-! ### Events -/

theorem storeRec_writes {r : EvRec} {wm : Nat} {z0 s : State} (wh : Writes wm z0 s) (we : 32 ||| wm = wm) : Writes wm z0 (storeRec s r) := by
  refine Writes.step (g := 32) ?_ we wh
  clear wh we
  have hz : Writes 32 s s := Writes.refl _ _
  unfold storeRec
  try dsimp only
  repeat' (first
    | (with_reducible apply State.event_writes; (on_goal 2 => decide))
    | with_reducible apply Writes.ite
    | (with_reducible refine Writes.upd_evr ?_ ?_; (on_goal 2 => decide); with_reducible assumption))

theorem suppress_writes {c : Nat} {otc : Nat} {wm : Nat} {z0 s : State} (wh : Writes wm z0 s) (we : 1073741856 ||| wm = wm) : Writes wm z0
    (suppress s c otc) := by
  refine Writes.step (g := 1073741856) ?_ we wh
  clear wh we
  have hz : Writes 1073741856 s s := Writes.refl _ _
  unfold suppress
  try dsimp only
  repeat' (first
    | with_reducible assumption
    | (with_reducible refine Writes.upd_evr ?_ ?_; (on_goal 2 => decide); first | (with_reducible apply State.bump_writes; (on_goal 2 => decide))))

theorem limitRec_writes {r : EvRec} {wm : Nat} {z0 s : State} (wh : Writes wm z0 s) (we : 1073741856 ||| wm = wm) : Writes wm z0 (limitRec s r) := by
  refine Writes.step (g := 1073741856) ?_ we wh
  clear wh we
  have hz : Writes 1073741856 s s := Writes.refl _ _
  unfold limitRec
  try dsimp only
  repeat' (first
    | with_reducible assumption
    | (with_reducible apply suppress_writes; (on_goal 2 => decide))
    | (with_reducible apply storeRec_writes; (on_goal 2 => decide))
    | (with_reducible apply State.withEvr_writes; (on_goal 2 => decide))
    | with_reducible apply Writes.ite
    | (with_reducible refine Writes.upd_evr ?_ ?_; (on_goal 2 => decide); with_reducible assumption))

theorem drainItems_writes : ∀ {l : List EvItem} {m : Nat} {z0 s : State} (_ : Writes m z0 s) (_ : 1073741856 ||| m = m), Writes m z0 (drainItems l s)
  | [], m, z0, s, h, e => State.withEvr_writes h (Writes.sub (by decide) e)
  | .formed r :: l, m, z0, s, h, e => by
    unfold drainItems
    split
    · exact drainItems_writes (limitRec_writes h (Writes.sub (by decide) e)) e
    · exact State.withEvr_writes h (Writes.sub (by decide) e)
  | .window w :: l, m, z0, s, h, e => State.withEvr_writes h (Writes.sub (by decide) e)

theorem drain_writes {wm : Nat} {z0 s : State} (wh : Writes wm z0 s) (we : 1073741856 ||| wm = wm) : Writes wm z0 (drain s) := by
  refine Writes.step (g := 1073741856) ?_ we wh
  clear wh we
  have hz : Writes 1073741856 s s := Writes.refl _ _
  unfold drain
  try dsimp only
  repeat' (first
    | with_reducible assumption
    | (with_reducible apply drainItems_writes; (on_goal 2 => decide)))

theorem takeTok_writes {isl : Nat} {x0 : Tok} {wm : Nat} {z0 s : State} (wh : Writes wm z0 s) (we : 1073741856 ||| wm = wm) : Writes wm z0
    (takeTok s isl x0) := by
  refine Writes.step (g := 1073741856) ?_ we wh
  clear wh we
  have hz : Writes 1073741856 s s := Writes.refl _ _
  unfold takeTok
  try dsimp only
  repeat' (first
    | with_reducible assumption
    | (with_reducible apply drain_writes; (on_goal 2 => decide))
    | (with_reducible apply State.withEvr_writes; (on_goal 2 => decide))
    | (with_reducible apply State.bump_writes; (on_goal 2 => decide))
    | split)

theorem signalCie_writes {t : Tok} {wm : Nat} {z0 s : State} (wh : Writes wm z0 s) (we : 288 ||| wm = wm) : Writes wm z0 (signalCie s t) := by
  refine Writes.step (g := 288) ?_ we wh
  clear wh we
  have hz : Writes 288 s s := Writes.refl _ _
  unfold signalCie
  try dsimp only
  repeat' (first
    | with_reducible assumption
    | (with_reducible apply State.withPart_writes; (on_goal 2 => decide))
    | (with_reducible apply State.report_writes; (on_goal 2 => decide))
    | with_reducible apply Writes.ite)

theorem execEventStamp_writes {wm : Nat} {z0 s : State} (wh : Writes wm z0 s) (we : 1073742112 ||| wm = wm) : WritesOut wm z0 (execEventStamp s) := by
  refine WritesOut.step (g := 1073742112) ?_ we wh
  clear wh we
  have hz : Writes 1073742112 s s := Writes.refl _ _
  unfold execEventStamp
  try dsimp only
  repeat' (first
    | with_reducible assumption
    | (with_reducible apply signalCie_writes; (on_goal 2 => decide))
    | (with_reducible apply takeTok_writes; (on_goal 2 => decide))
    | (with_reducible apply State.withEvr_writes; (on_goal 2 => decide))
    | with_reducible apply WritesOut.next
    | with_reducible apply WritesOut.ite
    | split)

theorem execCoalesceWindowClose_writes {wm : Nat} {z0 s : State} (wh : Writes wm z0 s) (we : 1073741856 ||| wm = wm) : WritesOut wm z0
    (execCoalesceWindowClose s) := by
  refine WritesOut.step (g := 1073741856) ?_ we wh
  clear wh we
  have hz : Writes 1073741856 s s := Writes.refl _ _
  unfold execCoalesceWindowClose
  try dsimp only
  repeat' (first
    | with_reducible assumption
    | (with_reducible apply drain_writes; (on_goal 2 => decide))
    | (with_reducible apply State.withEvr_writes; (on_goal 2 => decide))
    | with_reducible apply WritesOut.next
    | split)

theorem execSuppressed_writes {code : Nat} {wm : Nat} {z0 s : State} (wh : Writes wm z0 s) (we : 32 ||| wm = wm) : WritesOut wm z0
    (execSuppressed code s) := by
  refine WritesOut.step (g := 32) ?_ we wh
  clear wh we
  have hz : Writes 32 s s := Writes.refl _ _
  unfold execSuppressed
  try dsimp only
  repeat' (first
    | with_reducible assumption
    | (with_reducible apply State.withEvr_writes; (on_goal 2 => decide))
    | (with_reducible apply State.event_writes; (on_goal 2 => decide))
    | with_reducible apply WritesOut.next
    | with_reducible apply WritesOut.ite)

theorem evrDurable_writes {n : Nat} {addr : Nat} {wm : Nat} {z0 s : State} (wh : Writes wm z0 s) (we : 32 ||| wm = wm) : Writes wm z0
    (evrDurable s n addr) := by
  refine Writes.step (g := 32) ?_ we wh
  clear wh we
  have hz : Writes 32 s s := Writes.refl _ _
  unfold evrDurable
  try dsimp only
  repeat' (first
    | with_reducible assumption
    | (with_reducible apply State.withEvr_writes; (on_goal 2 => decide)))

/-! ### Meter -/

theorem addClass_writes {p : Nat} {c : Nat} {n : Nat} {wm : Nat} {z0 s : State} (wh : Writes wm z0 s) (we : 32768 ||| wm = wm) : Writes wm
    z0 (addClass s p c n) := by
  refine Writes.step (g := 32768) ?_ we wh
  clear wh we
  have hz : Writes 32768 s s := Writes.refl _ _
  unfold addClass
  try dsimp only
  repeat' (first
    | with_reducible assumption
    | (with_reducible apply State.withMeter_writes; (on_goal 2 => decide)))

theorem addCounts_writes {j : Job} {wm : Nat} {z0 s : State} (wh : Writes wm z0 s) (we : 1073774592 ||| wm = wm) : Writes wm z0 (addCounts s j) := by
  refine Writes.step (g := 1073774592) ?_ we wh
  clear wh we
  have hz : Writes 1073774592 s s := Writes.refl _ _
  unfold addCounts
  try dsimp only
  repeat' (first
    | with_reducible assumption
    | (with_reducible apply addClass_writes; (on_goal 2 => decide))
    | (with_reducible apply State.bumpBys_writes; (on_goal 2 => decide))
    | split)

theorem acceptEntry_writes {j : Job} {wm : Nat} {z0 s : State} (wh : Writes wm z0 s) (we : 1073774592 ||| wm = wm) : Writes wm z0
    (acceptEntry s j) := by
  refine Writes.step (g := 1073774592) ?_ we wh
  clear wh we
  have hz : Writes 1073774592 s s := Writes.refl _ _
  unfold acceptEntry
  try dsimp only
  repeat' (first
    | with_reducible assumption
    | (with_reducible apply addCounts_writes; (on_goal 2 => decide))
    | (with_reducible apply State.withMeter_writes; (on_goal 2 => decide)))

theorem acceptOrphan_writes {j : Job} {wm : Nat} {z0 s : State} (wh : Writes wm z0 s) (we : 1073774592 ||| wm = wm) : Writes wm z0
    (acceptOrphan s j) := by
  refine Writes.step (g := 1073774592) ?_ we wh
  clear wh we
  have hz : Writes 1073774592 s s := Writes.refl _ _
  unfold acceptOrphan
  try dsimp only
  repeat' (first
    | with_reducible assumption
    | (with_reducible apply addCounts_writes; (on_goal 2 => decide))
    | (with_reducible apply State.withMeter_writes; (on_goal 2 => decide)))

theorem noteFlag_writes {bitNo : Nat} {wm : Nat} {z0 s : State} (wh : Writes wm z0 s) (we : 32768 ||| wm = wm) : Writes wm z0 (noteFlag s bitNo) := by
  refine Writes.step (g := 32768) ?_ we wh
  clear wh we
  have hz : Writes 32768 s s := Writes.refl _ _
  unfold noteFlag
  try dsimp only
  repeat' (first
    | with_reducible assumption
    | (with_reducible apply State.withMeter_writes; (on_goal 2 => decide)))

theorem openMinute_writes {start : Nat} {extra : Nat} {wm : Nat} {z0 s : State} (wh : Writes wm z0 s) (we : 32768 ||| wm = wm) : Writes wm
    z0 (openMinute s start extra) := by
  refine Writes.step (g := 32768) ?_ we wh
  clear wh we
  have hz : Writes 32768 s s := Writes.refl _ _
  unfold openMinute
  try dsimp only
  repeat' (first
    | with_reducible assumption
    | (with_reducible apply State.withMeter_writes; (on_goal 2 => decide)))

theorem closeMinute_writes {stop : Nat} {extra : Nat} {noRandom : Bool} {wm : Nat} {z0 s : State} (wh : Writes wm z0 s) (we : 32802 ||| wm
    = wm) : Writes wm z0 (closeMinute s stop extra noRandom) := by
  refine Writes.step (g := 32802) ?_ we wh
  clear wh we
  have hz : Writes 32802 s s := Writes.refl _ _
  unfold closeMinute
  try dsimp only
  repeat' (first
    | with_reducible assumption
    | (with_reducible apply State.withMeter_writes; (on_goal 2 => decide))
    | (with_reducible apply State.event_writes; (on_goal 2 => decide))
    | (with_reducible apply State.present_writes; (on_goal 2 => decide))
    | (with_reducible apply State.drawBytes_writes; (on_goal 2 => decide))
    | with_reducible apply Writes.ite
    | split
    | with_reducible apply WritesSnd.snd)

theorem execMinuteClose_writes {wm : Nat} {z0 s : State} (wh : Writes wm z0 s) (we : 32810 ||| wm = wm) : WritesOut wm z0 (execMinuteClose s) := by
  refine WritesOut.step (g := 32810) ?_ we wh
  clear wh we
  have hz : Writes 32810 s s := Writes.refl _ _
  unfold execMinuteClose
  try dsimp only
  repeat' (first
    | with_reducible assumption
    | (with_reducible apply closeMinute_writes; (on_goal 2 => decide))
    | (with_reducible apply openMinute_writes; (on_goal 2 => decide))
    | (with_reducible apply State.withClock_writes; (on_goal 2 => decide))
    | with_reducible apply WritesOut.next
    | with_reducible apply WritesOut.ite
    | split)

theorem setDurable_writes {h : MinSet} {rest : List MinSet} {wm : Nat} {z0 s : State} (wh : Writes wm z0 s) (we : 32896 ||| wm = wm) :
    Writes wm z0 (setDurable s h rest) := by
  refine Writes.step (g := 32896) ?_ we wh
  clear wh we
  have hz : Writes 32896 s s := Writes.refl _ _
  unfold setDurable
  try dsimp only
  repeat' (first
    | with_reducible assumption
    | (with_reducible apply State.withMeter_writes; (on_goal 2 => decide))
    | (with_reducible apply State.msix_writes; (on_goal 2 => decide)))

/-! ### Time -/

theorem idleTick_writes {wm : Nat} {z0 s : State} (wh : Writes wm z0 s) (we : 8 ||| wm = wm) : Writes wm z0 (idleTick s) := by
  refine Writes.step (g := 8) ?_ we wh
  clear wh we
  have hz : Writes 8 s s := Writes.refl _ _
  unfold idleTick
  try dsimp only
  repeat' (first
    | with_reducible assumption
    | (with_reducible apply State.withClock_writes; (on_goal 2 => decide))
    | with_reducible apply Writes.ite)

theorem setTState_writes {n : Nat} {wm : Nat} {z0 s : State} (wh : Writes wm z0 s) (we : 32808 ||| wm = wm) : Writes wm z0 (setTState s n) := by
  refine Writes.step (g := 32808) ?_ we wh
  clear wh we
  have hz : Writes 32808 s s := Writes.refl _ _
  unfold setTState
  try dsimp only
  repeat' (first
    | with_reducible assumption
    | (with_reducible apply noteFlag_writes; (on_goal 2 => decide))
    | (with_reducible apply State.withClock_writes; (on_goal 2 => decide))
    | (with_reducible apply State.event_writes; (on_goal 2 => decide))
    | (with_reducible apply State.present_writes; (on_goal 2 => decide))
    | with_reducible apply Writes.ite)

theorem enterHoldover_writes {wm : Nat} {z0 s : State} (wh : Writes wm z0 s) (we : 32808 ||| wm = wm) : Writes wm z0 (enterHoldover s) := by
  refine Writes.step (g := 32808) ?_ we wh
  clear wh we
  have hz : Writes 32808 s s := Writes.refl _ _
  unfold enterHoldover
  try dsimp only
  repeat' (first
    | with_reducible assumption
    | (with_reducible apply setTState_writes; (on_goal 2 => decide))
    | (with_reducible apply State.withClock_writes; (on_goal 2 => decide)))

theorem execPtmRequest_writes {wm : Nat} {z0 s : State} (wh : Writes wm z0 s) (we : 8 ||| wm = wm) : WritesOut wm z0 (execPtmRequest s) := by
  refine WritesOut.step (g := 8) ?_ we wh
  clear wh we
  have hz : Writes 8 s s := Writes.refl _ _
  unfold execPtmRequest
  try dsimp only
  repeat' (first
    | with_reducible assumption
    | (with_reducible apply State.withClock_writes; (on_goal 2 => decide))
    | with_reducible apply WritesOut.next
    | with_reducible apply WritesOut.ite)

theorem discardExchange_writes {wm : Nat} {z0 s : State} (wh : Writes wm z0 s) (we : 1073774632 ||| wm = wm) : Writes wm z0 (discardExchange s) := by
  refine Writes.step (g := 1073774632) ?_ we wh
  clear wh we
  have hz : Writes 1073774632 s s := Writes.refl _ _
  unfold discardExchange
  try dsimp only
  repeat' (first
    | intro _
    | with_reducible assumption
    | (with_reducible apply enterHoldover_writes; (on_goal 2 => decide))
    | (with_reducible apply State.withClock_writes; (on_goal 2 => decide))
    | (with_reducible apply State.event_writes; (on_goal 2 => decide))
    | (with_reducible apply State.bump_writes; (on_goal 2 => decide))
    | with_reducible apply Writes.ite
    | with_reducible apply Writes.onlyIf)

theorem execPtmAbandon_writes {wm : Nat} {z0 s : State} (wh : Writes wm z0 s) (we : 1073774632 ||| wm = wm) : WritesOut wm z0 (execPtmAbandon s) := by
  refine WritesOut.step (g := 1073774632) ?_ we wh
  clear wh we
  have hz : Writes 1073774632 s s := Writes.refl _ _
  unfold execPtmAbandon
  try dsimp only
  repeat' (first
    | with_reducible assumption
    | (with_reducible apply discardExchange_writes; (on_goal 2 => decide))
    | with_reducible apply WritesOut.next
    | with_reducible apply WritesOut.ite
    | split)

theorem stateAfterValid_writes {wm : Nat} {z0 s : State} (wh : Writes wm z0 s) (we : 32808 ||| wm = wm) : Writes wm z0 (stateAfterValid s) := by
  refine Writes.step (g := 32808) ?_ we wh
  clear wh we
  have hz : Writes 32808 s s := Writes.refl _ _
  unfold stateAfterValid
  try dsimp only
  repeat' (first
    | with_reducible assumption
    | (with_reducible apply setTState_writes; (on_goal 2 => decide))
    | with_reducible apply Writes.ite)

theorem acceptExchange_writes {t1 : Nat} {d : Nat} {m : Nat} {wm : Nat} {z0 s : State} (wh : Writes wm z0 s) (we : 1073774632 ||| wm = wm)
    : Writes wm z0 (acceptExchange s t1 d m) := by
  refine Writes.step (g := 1073774632) ?_ we wh
  clear wh we
  have hz : Writes 1073774632 s s := Writes.refl _ _
  unfold acceptExchange
  try dsimp only
  repeat' (first
    | with_reducible assumption
    | (with_reducible apply stateAfterValid_writes; (on_goal 2 => decide))
    | (with_reducible apply State.withClock_writes; (on_goal 2 => decide))
    | (with_reducible apply State.bump_writes; (on_goal 2 => decide))
    | with_reducible apply Writes.ite)

theorem execPtmResponse_writes {master : Nat} {wm : Nat} {z0 s : State} (wh : Writes wm z0 s) (we : 1073774632 ||| wm = wm) : WritesOut wm
    z0 (execPtmResponse master s) := by
  refine WritesOut.step (g := 1073774632) ?_ we wh
  clear wh we
  have hz : Writes 1073774632 s s := Writes.refl _ _
  unfold execPtmResponse
  try dsimp only
  repeat' (first
    | with_reducible assumption
    | (with_reducible apply acceptExchange_writes; (on_goal 2 => decide))
    | (with_reducible apply discardExchange_writes; (on_goal 2 => decide))
    | with_reducible apply WritesOut.next
    | with_reducible apply WritesOut.ite
    | split)

theorem execHoldoverEntry_writes {wm : Nat} {z0 s : State} (wh : Writes wm z0 s) (we : 32808 ||| wm = wm) : WritesOut wm z0
    (execHoldoverEntry s) := by
  refine WritesOut.step (g := 32808) ?_ we wh
  clear wh we
  have hz : Writes 32808 s s := Writes.refl _ _
  unfold execHoldoverEntry
  try dsimp only
  repeat' (first
    | with_reducible assumption
    | (with_reducible apply enterHoldover_writes; (on_goal 2 => decide))
    | with_reducible apply WritesOut.next
    | with_reducible apply WritesOut.ite)

theorem execHoldoverExpiry_writes {wm : Nat} {z0 s : State} (wh : Writes wm z0 s) (we : 32808 ||| wm = wm) : WritesOut wm z0
    (execHoldoverExpiry s) := by
  refine WritesOut.step (g := 32808) ?_ we wh
  clear wh we
  have hz : Writes 32808 s s := Writes.refl _ _
  unfold execHoldoverExpiry
  try dsimp only
  repeat' (first
    | with_reducible assumption
    | (with_reducible apply setTState_writes; (on_goal 2 => decide))
    | with_reducible apply WritesOut.next
    | with_reducible apply WritesOut.ite)

theorem unanchor_writes {wm : Nat} {z0 s : State} (wh : Writes wm z0 s) (we : 32808 ||| wm = wm) : Writes wm z0 (unanchor s) := by
  refine Writes.step (g := 32808) ?_ we wh
  clear wh we
  have hz : Writes 32808 s s := Writes.refl _ _
  unfold unanchor
  try dsimp only
  repeat' (first
    | with_reducible assumption
    | (with_reducible apply setTState_writes; (on_goal 2 => decide))
    | (with_reducible apply State.withClock_writes; (on_goal 2 => decide)))

theorem startTimebase_writes {wm : Nat} {z0 s : State} (wh : Writes wm z0 s) (we : 32808 ||| wm = wm) : Writes wm z0 (startTimebase s) := by
  refine Writes.step (g := 32808) ?_ we wh
  clear wh we
  have hz : Writes 32808 s s := Writes.refl _ _
  unfold startTimebase
  try dsimp only
  repeat' (first
    | with_reducible assumption
    | (with_reducible apply unanchor_writes; (on_goal 2 => decide))
    | (with_reducible apply State.withClock_writes; (on_goal 2 => decide)))

theorem saveDtb_writes {wm : Nat} {z0 s : State} (wh : Writes wm z0 s) (we : 8 ||| wm = wm) : Writes wm z0 (saveDtb s) := by
  refine Writes.step (g := 8) ?_ we wh
  clear wh we
  have hz : Writes 8 s s := Writes.refl _ _
  unfold saveDtb
  try dsimp only
  repeat' (first
    | with_reducible assumption
    | (with_reducible apply State.withClock_writes; (on_goal 2 => decide)))

theorem execOtcSave_writes {wm : Nat} {z0 s : State} (wh : Writes wm z0 s) (we : 8 ||| wm = wm) : WritesOut wm z0 (execOtcSave s) := by
  refine WritesOut.step (g := 8) ?_ we wh
  clear wh we
  have hz : Writes 8 s s := Writes.refl _ _
  unfold execOtcSave
  try dsimp only
  repeat' (first
    | with_reducible assumption
    | (with_reducible apply State.withClock_writes; (on_goal 2 => decide))
    | with_reducible apply WritesOut.next
    | with_reducible apply WritesOut.ite)

theorem setDtb_writes {ns : Nat} {frac : Nat} {wm : Nat} {z0 s : State} (wh : Writes wm z0 s) (we : 32808 ||| wm = wm) : Writes wm z0
    (setDtb s ns frac) := by
  refine Writes.step (g := 32808) ?_ we wh
  clear wh we
  have hz : Writes 32808 s s := Writes.refl _ _
  unfold setDtb
  try dsimp only
  repeat' (first
    | with_reducible assumption
    | (with_reducible apply unanchor_writes; (on_goal 2 => decide))
    | (with_reducible apply State.withClock_writes; (on_goal 2 => decide))
    | (with_reducible apply State.event_writes; (on_goal 2 => decide))
    | (with_reducible apply State.present_writes; (on_goal 2 => decide)))

theorem latchDtb_writes {wm : Nat} {z0 s : State} (wh : Writes wm z0 s) (we : 8 ||| wm = wm) : Writes wm z0 (latchDtb s) := by
  refine Writes.step (g := 8) ?_ we wh
  clear wh we
  have hz : Writes 8 s s := Writes.refl _ _
  unfold latchDtb
  try dsimp only
  repeat' (first
    | with_reducible assumption
    | (with_reducible apply State.withClock_writes; (on_goal 2 => decide)))

/-! ### Jobs -/

theorem issueRead_writes {id : Nat} {p : Nat} {n : Nat} {wm : Nat} {z0 s : State} (wh : Writes wm z0 s) (we : 128 ||| wm = wm) : Writes wm
    z0 (issueRead s id p n) := by
  refine Writes.step (g := 128) ?_ we wh
  clear wh we
  have hz : Writes 128 s s := Writes.refl _ _
  unfold issueRead
  try dsimp only
  repeat' (first
    | with_reducible assumption
    | (with_reducible apply State.withLink_writes; (on_goal 2 => decide)))

theorem freeSlot_writes {id : Nat} {wm : Nat} {z0 s : State} (wh : Writes wm z0 s) (we : 5120 ||| wm = wm) : Writes wm z0 (freeSlot s id) := by
  refine Writes.step (g := 5120) ?_ we wh
  clear wh we
  have hz : Writes 5120 s s := Writes.refl _ _
  unfold freeSlot
  try dsimp only
  repeat' (first
    | with_reducible assumption
    | (with_reducible apply State.withIntake_writes; (on_goal 2 => decide))
    | (with_reducible apply State.withJob_writes; (on_goal 2 => decide))
    | split)

theorem wipeSlot_writes {q : Nat} {c : Nat} {wm : Nat} {z0 s : State} (wh : Writes wm z0 s) (we : 2181038080 ||| wm = wm) : Writes wm z0
    (wipeSlot s q c) := by
  refine Writes.step (g := 2181038080) ?_ we wh
  clear wh we
  have hz : Writes 2181038080 s s := Writes.refl _ _
  unfold wipeSlot
  try dsimp only
  repeat' (first
    | (with_reducible apply State.withUnit_writes; (on_goal 2 => decide))
    | (with_reducible refine Writes.upd_mem ?_ ?_; (on_goal 2 => decide); with_reducible assumption))

theorem clearSquad_writes {q : Nat} {wm : Nat} {z0 s : State} (wh : Writes wm z0 s) (we : 2181038080 ||| wm = wm) : Writes wm z0
    (clearSquad s q) := by
  refine Writes.step (g := 2181038080) ?_ we wh
  clear wh we
  have hz : Writes 2181038080 s s := Writes.refl _ _
  unfold clearSquad
  try dsimp only
  repeat' (first
    | intro _
    | with_reducible assumption
    | (with_reducible apply State.withUnit_writes; (on_goal 2 => decide))
    | with_reducible apply Writes.foldl
    | (with_reducible refine Writes.upd_mem ?_ ?_; (on_goal 2 => decide); with_reducible assumption))

theorem leaveSquads_writes {id : Nat} {wm : Nat} {z0 s0 : State} (wh : Writes wm z0 s0) (we : 2181055488 ||| wm = wm) : Writes wm z0
    (leaveSquads s0 id) := by
  refine Writes.step (g := 2181055488) ?_ we wh
  clear wh we
  have hz : Writes 2181055488 s0 s0 := Writes.refl _ _
  unfold leaveSquads
  try dsimp only
  repeat' (first
    | intro _
    | with_reducible assumption
    | (with_reducible apply wipeSlot_writes; (on_goal 2 => decide))
    | (with_reducible apply State.withSquad_writes; (on_goal 2 => decide))
    | (with_reducible apply State.withJob_writes; (on_goal 2 => decide))
    | with_reducible apply Writes.foldl)

theorem dropImage_writes {id : Nat} {wm : Nat} {z0 s : State} (wh : Writes wm z0 s) (we : 16384 ||| wm = wm) : Writes wm z0 (dropImage s id) := by
  refine Writes.step (g := 16384) ?_ we wh
  clear wh we
  have hz : Writes 16384 s s := Writes.refl _ _
  unfold dropImage
  try dsimp only
  repeat' (first
    | with_reducible assumption
    | (with_reducible apply State.withLanes_writes; (on_goal 2 => decide)))

theorem freePark_writes {id : Nat} {wm : Nat} {z0 s : State} (wh : Writes wm z0 s) (we : 17408 ||| wm = wm) : Writes wm z0 (freePark s id) := by
  refine Writes.step (g := 17408) ?_ we wh
  clear wh we
  have hz : Writes 17408 s s := Writes.refl _ _
  unfold freePark
  try dsimp only
  repeat' (first
    | with_reducible assumption
    | (with_reducible apply State.withLanes_writes; (on_goal 2 => decide))
    | (with_reducible apply State.withJob_writes; (on_goal 2 => decide)))

theorem leaveEngine_writes {id : Nat} {wm : Nat} {z0 s : State} (wh : Writes wm z0 s) (we : 1024 ||| wm = wm) : Writes wm z0 (leaveEngine s id) := by
  refine Writes.step (g := 1024) ?_ we wh
  clear wh we
  have hz : Writes 1024 s s := Writes.refl _ _
  unfold leaveEngine
  try dsimp only
  repeat' (first
    | with_reducible assumption
    | (with_reducible apply State.withJob_writes; (on_goal 2 => decide)))

theorem dropReads_writes {id : Nat} {wm : Nat} {z0 s : State} (wh : Writes wm z0 s) (we : 128 ||| wm = wm) : Writes wm z0 (dropReads s id) := by
  refine Writes.step (g := 128) ?_ we wh
  clear wh we
  have hz : Writes 128 s s := Writes.refl _ _
  unfold dropReads
  try dsimp only
  repeat' (first
    | with_reducible assumption
    | (with_reducible apply State.withLink_writes; (on_goal 2 => decide)))

theorem returnChannel_writes {id : Nat} {wm : Nat} {z0 s : State} (wh : Writes wm z0 s) (we : 4195456 ||| wm = wm) : Writes wm z0
    (returnChannel s id) := by
  refine Writes.step (g := 4195456) ?_ we wh
  clear wh we
  have hz : Writes 4195456 s s := Writes.refl _ _
  unfold returnChannel
  try dsimp only
  repeat' (first
    | with_reducible assumption
    | (with_reducible apply dropReads_writes; (on_goal 2 => decide))
    | (with_reducible apply State.withDma_writes; (on_goal 2 => decide))
    | (with_reducible apply State.withJob_writes; (on_goal 2 => decide))
    | split)

theorem toEngine_writes {id : Nat} {wm : Nat} {z0 s : State} (wh : Writes wm z0 s) (we : 5632 ||| wm = wm) : Writes wm z0 (toEngine s id) := by
  refine Writes.step (g := 5632) ?_ we wh
  clear wh we
  have hz : Writes 5632 s s := Writes.refl _ _
  unfold toEngine
  try dsimp only
  repeat' (first
    | with_reducible assumption
    | (with_reducible apply freeSlot_writes; (on_goal 2 => decide))
    | (with_reducible apply State.withRing_writes; (on_goal 2 => decide)))

theorem releaseUnits_writes {id : Nat} {wm : Nat} {z0 s : State} (wh : Writes wm z0 s) (we : 2185254016 ||| wm = wm) : Writes wm z0
    (releaseUnits s id) := by
  refine Writes.step (g := 2185254016) ?_ we wh
  clear wh we
  have hz : Writes 2185254016 s s := Writes.refl _ _
  unfold releaseUnits
  try dsimp only
  repeat' (first
    | with_reducible assumption
    | (with_reducible apply returnChannel_writes; (on_goal 2 => decide))
    | (with_reducible apply leaveEngine_writes; (on_goal 2 => decide))
    | (with_reducible apply freePark_writes; (on_goal 2 => decide))
    | (with_reducible apply leaveSquads_writes; (on_goal 2 => decide))
    | (with_reducible apply freeSlot_writes; (on_goal 2 => decide)))

theorem returnUses_writes {id : Nat} {wm : Nat} {z0 s : State} (wh : Writes wm z0 s) (we : 1049600 ||| wm = wm) : Writes wm z0 (returnUses s id) := by
  refine Writes.step (g := 1049600) ?_ we wh
  clear wh we
  have hz : Writes 1049600 s s := Writes.refl _ _
  unfold returnUses
  try dsimp only
  repeat' (first
    | intro _
    | with_reducible assumption
    | (with_reducible apply State.withSlot_writes; (on_goal 2 => decide))
    | (with_reducible apply State.withJob_writes; (on_goal 2 => decide))
    | with_reducible apply Writes.ite
    | with_reducible apply Writes.foldl)

theorem finish_writes {id : Nat} {status : Nat} {out : Bytes} {tc : Nat} {wm : Nat} {z0 s : State} (wh : Writes wm z0 s) (we : 2186302592
    ||| wm = wm) : Writes wm z0 (finish s id status out tc) := by
  refine Writes.step (g := 2186302592) ?_ we wh
  clear wh we
  have hz : Writes 2186302592 s s := Writes.refl _ _
  unfold finish
  try dsimp only
  repeat' (first
    | intro _
    | with_reducible assumption
    | (with_reducible apply returnUses_writes; (on_goal 2 => decide))
    | (with_reducible apply releaseUnits_writes; (on_goal 2 => decide))
    | (with_reducible apply State.withJob_writes; (on_goal 2 => decide))
    | with_reducible apply Writes.onlyIf)

theorem finishWith_writes {id : Nat} {status : Nat} {out : Bytes} {tc : Nat} {lane : Nat} {random : Nat} {wm : Nat} {z0 s : State} (wh :
    Writes wm z0 s) (we : 2186302592 ||| wm = wm) : Writes wm z0 (finishWith s id status out tc lane random) := by
  refine Writes.step (g := 2186302592) ?_ we wh
  clear wh we
  have hz : Writes 2186302592 s s := Writes.refl _ _
  unfold finishWith
  try dsimp only
  repeat' (first
    | with_reducible assumption
    | (with_reducible apply finish_writes; (on_goal 2 => decide))
    | (with_reducible apply State.withJob_writes; (on_goal 2 => decide)))

theorem squashJob_writes {again : Bool} {id : Nat} {wm : Nat} {z0 s : State} (wh : Writes wm z0 s) (we : 1077941888 ||| wm = wm) : Writes
    wm z0 (squashJob s again id) := by
  refine Writes.step (g := 1077941888) ?_ we wh
  clear wh we
  have hz : Writes 1077941888 s s := Writes.refl _ _
  unfold squashJob
  try dsimp only
  repeat' (first
    | with_reducible assumption
    | (with_reducible apply returnChannel_writes; (on_goal 2 => decide))
    | (with_reducible apply freeSlot_writes; (on_goal 2 => decide))
    | (with_reducible apply State.bump_writes; (on_goal 2 => decide))
    | (with_reducible refine Writes.upd_jobs ?_ ?_; (on_goal 2 => decide); first | (with_reducible apply State.withRing_writes; (on_goal 2 => decide))))

theorem squashWhere_writes {again : Bool} {p : Job → Bool} {wm : Nat} {z0 s : State} (wh : Writes wm z0 s) (we : 1077941888 ||| wm = wm) :
    Writes wm z0 (squashWhere s again p) := by
  refine Writes.step (g := 1077941888) ?_ we wh
  clear wh we
  have hz : Writes 1077941888 s s := Writes.refl _ _
  unfold squashWhere
  try dsimp only
  repeat' (first
    | intro _
    | with_reducible assumption
    | (with_reducible apply squashJob_writes; (on_goal 2 => decide))
    | with_reducible apply Writes.foldl)

theorem writeEntry_writes {id : Nat} {wm : Nat} {z0 s : State} (wh : Writes wm z0 s) (we : 18253645440 ||| wm = wm) : Writes wm z0
    (writeEntry s id) := by
  refine Writes.step (g := 18253645440) ?_ we wh
  clear wh we
  have hz : Writes 18253645440 s s := Writes.refl _ _
  unfold writeEntry
  try dsimp only
  repeat' (first
    | with_reducible assumption
    | (with_reducible apply acceptEntry_writes; (on_goal 2 => decide))
    | (with_reducible apply State.hostWrite_writes; (on_goal 2 => decide))
    | (with_reducible apply State.msix_writes; (on_goal 2 => decide))
    | with_reducible apply Writes.ite
    | (with_reducible refine Writes.upd_jobs ?_ ?_; (on_goal 2 => decide); first | (with_reducible apply State.withRing_writes; (on_goal 2 => decide))))

theorem squashMember_writes {p : Nat} {r : Nat} {n : Nat} {wm : Nat} {z0 s : State} (wh : Writes wm z0 s) (we : 18257843840 ||| wm = wm) :
    Writes wm z0 (squashMember s p r n) := by
  refine Writes.step (g := 18257843840) ?_ we wh
  clear wh we
  have hz : Writes 18257843840 s s := Writes.refl _ _
  unfold squashMember
  try dsimp only
  repeat' (first
    | with_reducible assumption
    | (with_reducible apply writeEntry_writes; (on_goal 2 => decide))
    | (with_reducible apply squashJob_writes; (on_goal 2 => decide))
    | (with_reducible apply returnChannel_writes; (on_goal 2 => decide))
    | (with_reducible apply freeSlot_writes; (on_goal 2 => decide))
    | (with_reducible apply State.withRing_writes; (on_goal 2 => decide))
    | (with_reducible apply State.withJob_writes; (on_goal 2 => decide))
    | (with_reducible apply State.bump_writes; (on_goal 2 => decide))
    | with_reducible apply Writes.ite
    | split)

theorem chainSquash_writes {p : Nat} {r : Nat} {n : Nat} {wm : Nat} {z0 s : State} (wh : Writes wm z0 s) (we : 18257843840 ||| wm = wm) :
    Writes wm z0 (chainSquash s p r n) := by
  refine Writes.step (g := 18257843840) ?_ we wh
  clear wh we
  have hz : Writes 18257843840 s s := Writes.refl _ _
  unfold chainSquash
  try dsimp only
  repeat' (first
    | intro _
    | with_reducible assumption
    | (with_reducible apply squashMember_writes; (on_goal 2 => decide))
    | (with_reducible apply squashWhere_writes; (on_goal 2 => decide))
    | (with_reducible apply State.withRing_writes; (on_goal 2 => decide))
    | with_reducible apply Writes.foldl
    | split)

theorem post_writes {id : Nat} {wm : Nat} {z0 s : State} (wh : Writes wm z0 s) (we : 18257843840 ||| wm = wm) : Writes wm z0 (post s id) := by
  refine Writes.step (g := 18257843840) ?_ we wh
  clear wh we
  have hz : Writes 18257843840 s s := Writes.refl _ _
  unfold post
  try dsimp only
  repeat' (first
    | with_reducible assumption
    | (with_reducible apply chainSquash_writes; (on_goal 2 => decide))
    | (with_reducible apply writeEntry_writes; (on_goal 2 => decide))
    | with_reducible apply Writes.ite)

theorem complete_writes {id : Nat} {wm : Nat} {z0 s : State} (wh : Writes wm z0 s) (we : 18257843840 ||| wm = wm) : Writes wm z0 (complete s id) := by
  refine Writes.step (g := 18257843840) ?_ we wh
  clear wh we
  have hz : Writes 18257843840 s s := Writes.refl _ _
  unfold complete
  try dsimp only
  repeat' (first
    | with_reducible assumption
    | (with_reducible apply post_writes; (on_goal 2 => decide))
    | (with_reducible apply State.withLink_writes; (on_goal 2 => decide))
    | with_reducible apply Writes.ite)

theorem completeAtIntake_writes {id : Nat} {status : Nat} {tc : Nat} {wm : Nat} {z0 s : State} (wh : Writes wm z0 s) (we : 18257843840 |||
    wm = wm) : Writes wm z0 (completeAtIntake s id status tc) := by
  refine Writes.step (g := 18257843840) ?_ we wh
  clear wh we
  have hz : Writes 18257843840 s s := Writes.refl _ _
  unfold completeAtIntake
  try dsimp only
  repeat' (first
    | with_reducible assumption
    | (with_reducible apply complete_writes; (on_goal 2 => decide))
    | (with_reducible apply freeSlot_writes; (on_goal 2 => decide))
    | (with_reducible apply State.withJob_writes; (on_goal 2 => decide)))

theorem ringFault_writes {p : Nat} {r : Nat} {code : Nat} {wm : Nat} {z0 s : State} (wh : Writes wm z0 s) (we : 512 ||| wm = wm) : Writes
    wm z0 (ringFault s p r code) := by
  refine Writes.step (g := 512) ?_ we wh
  clear wh we
  have hz : Writes 512 s s := Writes.refl _ _
  unfold ringFault
  try dsimp only
  repeat' (first
    | with_reducible assumption
    | (with_reducible apply State.withRing_writes; (on_goal 2 => decide)))

theorem drainRing_writes {p : Nat} {r : Nat} {wm : Nat} {z0 s : State} (wh : Writes wm z0 s) (we : 1077941888 ||| wm = wm) : Writes wm z0
    (drainRing s p r) := by
  refine Writes.step (g := 1077941888) ?_ we wh
  clear wh we
  have hz : Writes 1077941888 s s := Writes.refl _ _
  unfold drainRing
  try dsimp only
  repeat' (first
    | with_reducible assumption
    | (with_reducible apply squashWhere_writes; (on_goal 2 => decide))
    | (with_reducible apply State.withRing_writes; (on_goal 2 => decide)))

theorem partialCounts_writes {id : Nat} {wm : Nat} {z0 s : State} (wh : Writes wm z0 s) (we : 1026 ||| wm = wm) : Writes wm z0
    (partialCounts s id) := by
  refine Writes.step (g := 1026) ?_ we wh
  clear wh we
  have hz : Writes 1026 s s := Writes.refl _ _
  unfold partialCounts
  try dsimp only
  repeat' (first
    | with_reducible assumption
    | (with_reducible apply State.withJob_writes; (on_goal 2 => decide))
    | (with_reducible apply State.drawNat_writes; (on_goal 2 => decide))
    | with_reducible apply Writes.ite
    | with_reducible apply WritesSnd.snd)

theorem dropJob_writes {id : Nat} {wm : Nat} {z0 s0 : State} (wh : Writes wm z0 s0) (we : 3259028610 ||| wm = wm) : Writes wm z0 (dropJob s0 id) := by
  refine Writes.step (g := 3259028610) ?_ we wh
  clear wh we
  have hz : Writes 3259028610 s0 s0 := Writes.refl _ _
  unfold dropJob
  try dsimp only
  repeat' (first
    | with_reducible assumption
    | (with_reducible apply partialCounts_writes; (on_goal 2 => decide))
    | (with_reducible apply acceptOrphan_writes; (on_goal 2 => decide))
    | (with_reducible apply State.withLink_writes; (on_goal 2 => decide))
    | with_reducible apply Writes.ite
    | (with_reducible refine Writes.upd_jobs ?_ ?_; (on_goal 2 => decide); first | (with_reducible apply releaseUnits_writes; (on_goal 2 => decide))))

theorem tearDown_writes {p : Nat} {wm : Nat} {z0 s : State} (wh : Writes wm z0 s) (we : 3259029378 ||| wm = wm) : Writes wm z0 (tearDown s p) := by
  refine Writes.step (g := 3259029378) ?_ we wh
  clear wh we
  have hz : Writes 3259029378 s s := Writes.refl _ _
  unfold tearDown
  try dsimp only
  repeat' (first
    | intro _
    | with_reducible assumption
    | (with_reducible apply dropJob_writes; (on_goal 2 => decide))
    | (with_reducible apply squashWhere_writes; (on_goal 2 => decide))
    | (with_reducible apply State.withRing_writes; (on_goal 2 => decide))
    | (with_reducible apply State.withMeter_writes; (on_goal 2 => decide))
    | (with_reducible apply State.withPart_writes; (on_goal 2 => decide))
    | (with_reducible apply State.withLink_writes; (on_goal 2 => decide))
    | with_reducible apply Writes.foldl
    | (with_reducible refine Writes.upd_intake ?_ ?_; (on_goal 2 => decide); first | with_reducible apply Writes.foldl))

end Sys2Proof.Machine
end

