-- ==== Sys2Proof/Laws/Writes2.lean ====
section
/-! SUPPORT. Which fields each operation can write (see Writes.lean), operation by operation: Rings, Rng, VaultLog, Keys. -/

set_option linter.unusedTactic false
set_option linter.unreachableTactic false
set_option linter.unusedVariables false

namespace Sys2Proof.Machine

open Sys2Proof

/-! ### Rings -/

theorem execRingEnable_writes {part : Nat} {ring : Nat} {wm : Nat} {z0 s : State} (wh : Writes wm z0 s) (we : 512 ||| wm = wm) : WritesOut
    wm z0 (execRingEnable part ring s) := by
  refine WritesOut.step (g := 512) ?_ we wh
  clear wh we
  have hz : Writes 512 s s := Writes.refl _ _
  unfold execRingEnable
  try dsimp only
  repeat' (first
    | with_reducible assumption
    | (with_reducible apply ringFault_writes; (on_goal 2 => decide))
    | (with_reducible apply State.withRing_writes; (on_goal 2 => decide))
    | with_reducible apply WritesOut.next
    | with_reducible apply WritesOut.ite)

theorem settleRing_writes {p : Nat} {r : Nat} {wm : Nat} {z0 s : State} (wh : Writes wm z0 s) (we : 512 ||| wm = wm) : Writes wm z0
    (settleRing s p r) := by
  refine Writes.step (g := 512) ?_ we wh
  clear wh we
  have hz : Writes 512 s s := Writes.refl _ _
  unfold settleRing
  try dsimp only
  repeat' (first
    | with_reducible assumption
    | (with_reducible apply State.withRing_writes; (on_goal 2 => decide))
    | with_reducible apply Writes.ite)

theorem dropRead_writes {p : Nat} {r : Nat} {wm : Nat} {z0 s : State} (wh : Writes wm z0 s) (we : 4096 ||| wm = wm) : Writes wm z0
    (dropRead s p r) := by
  refine Writes.step (g := 4096) ?_ we wh
  clear wh we
  have hz : Writes 4096 s s := Writes.refl _ _
  unfold dropRead
  try dsimp only
  repeat' (first
    | (with_reducible refine Writes.upd_intake ?_ ?_; (on_goal 2 => decide); with_reducible assumption))

theorem zeroFill_writes {j : Job} {wm : Nat} {z0 s : State} (wh : Writes wm z0 s) (we : 17179869184 ||| wm = wm) : Writes wm z0 (zeroFill s j) := by
  refine Writes.step (g := 17179869184) ?_ we wh
  clear wh we
  have hz : Writes 17179869184 s s := Writes.refl _ _
  unfold zeroFill
  try dsimp only
  repeat' (first
    | with_reducible assumption
    | (with_reducible apply State.hostWrite_writes; (on_goal 2 => decide))
    | with_reducible apply Writes.ite)

theorem abortJob_writes {id : Nat} {wm : Nat} {z0 s : State} (wh : Writes wm z0 s) (we : 19366171778 ||| wm = wm) : Writes wm z0 (abortJob s id) := by
  refine Writes.step (g := 19366171778) ?_ we wh
  clear wh we
  have hz : Writes 19366171778 s s := Writes.refl _ _
  unfold abortJob
  try dsimp only
  repeat' (first
    | with_reducible assumption
    | (with_reducible apply zeroFill_writes; (on_goal 2 => decide))
    | (with_reducible apply partialCounts_writes; (on_goal 2 => decide))
    | (with_reducible apply finish_writes; (on_goal 2 => decide))
    | with_reducible apply Writes.ite
    | split)

theorem execRingDrained_writes {part : Nat} {ring : Nat} {wm : Nat} {z0 s : State} (wh : Writes wm z0 s) (we : 512 ||| wm = wm) : WritesOut
    wm z0 (execRingDrained part ring s) := by
  refine WritesOut.step (g := 512) ?_ we wh
  clear wh we
  have hz : Writes 512 s s := Writes.refl _ _
  unfold execRingDrained
  try dsimp only
  repeat' (first
    | with_reducible assumption
    | (with_reducible apply settleRing_writes; (on_goal 2 => decide))
    | with_reducible apply WritesOut.next)

theorem serveSq_writes {p : Nat} {r : Nat} {v : Nat} {wm : Nat} {z0 s : State} (wh : Writes wm z0 s) (we : 512 ||| wm = wm) : Writes wm z0
    (serveSq s p r v) := by
  refine Writes.step (g := 512) ?_ we wh
  clear wh we
  have hz : Writes 512 s s := Writes.refl _ _
  unfold serveSq
  try dsimp only
  repeat' (first
    | with_reducible assumption
    | (with_reducible apply ringFault_writes; (on_goal 2 => decide))
    | (with_reducible apply State.withRing_writes; (on_goal 2 => decide))
    | with_reducible apply Writes.ite)

theorem serveCq_writes {p : Nat} {r : Nat} {v : Nat} {wm : Nat} {z0 s : State} (wh : Writes wm z0 s) (we : 512 ||| wm = wm) : Writes wm z0
    (serveCq s p r v) := by
  refine Writes.step (g := 512) ?_ we wh
  clear wh we
  have hz : Writes 512 s s := Writes.refl _ _
  unfold serveCq
  try dsimp only
  repeat' (first
    | with_reducible assumption
    | (with_reducible apply ringFault_writes; (on_goal 2 => decide))
    | (with_reducible apply State.withRing_writes; (on_goal 2 => decide))
    | with_reducible apply Writes.ite)

theorem ringSq_writes {p : Nat} {r : Nat} {v : Nat} {wm : Nat} {z0 s : State} (wh : Writes wm z0 s) (we : 512 ||| wm = wm) : Writes wm z0
    (ringSq s p r v) := by
  refine Writes.step (g := 512) ?_ we wh
  clear wh we
  have hz : Writes 512 s s := Writes.refl _ _
  unfold ringSq
  try dsimp only
  repeat' (first
    | with_reducible assumption
    | (with_reducible apply serveSq_writes; (on_goal 2 => decide))
    | (with_reducible apply State.withRing_writes; (on_goal 2 => decide))
    | with_reducible apply Writes.ite)

theorem ringCq_writes {p : Nat} {r : Nat} {v : Nat} {wm : Nat} {z0 s : State} (wh : Writes wm z0 s) (we : 512 ||| wm = wm) : Writes wm z0
    (ringCq s p r v) := by
  refine Writes.step (g := 512) ?_ we wh
  clear wh we
  have hz : Writes 512 s s := Writes.refl _ _
  unfold ringCq
  try dsimp only
  repeat' (first
    | with_reducible assumption
    | (with_reducible apply serveCq_writes; (on_goal 2 => decide))
    | (with_reducible apply State.withRing_writes; (on_goal 2 => decide))
    | with_reducible apply Writes.ite)

theorem execSqDb_writes {part : Nat} {ring : Nat} {value : BitVec 32} {wm : Nat} {z0 s : State} (wh : Writes wm z0 s) (we : 512 ||| wm =
    wm) : WritesOut wm z0 (execSqDb part ring value s) := by
  refine WritesOut.step (g := 512) ?_ we wh
  clear wh we
  have hz : Writes 512 s s := Writes.refl _ _
  unfold execSqDb
  try dsimp only
  repeat' (first
    | with_reducible assumption
    | (with_reducible apply ringSq_writes; (on_goal 2 => decide))
    | with_reducible apply WritesOut.next
    | with_reducible apply WritesOut.ite)

theorem execCqDb_writes {part : Nat} {ring : Nat} {value : BitVec 32} {wm : Nat} {z0 s : State} (wh : Writes wm z0 s) (we : 512 ||| wm =
    wm) : WritesOut wm z0 (execCqDb part ring value s) := by
  refine WritesOut.step (g := 512) ?_ we wh
  clear wh we
  have hz : Writes 512 s s := Writes.refl _ _
  unfold execCqDb
  try dsimp only
  repeat' (first
    | with_reducible assumption
    | (with_reducible apply ringCq_writes; (on_goal 2 => decide))
    | with_reducible apply WritesOut.next
    | with_reducible apply WritesOut.ite)

theorem heldBells_writes {p : Nat} {r : Nat} {wm : Nat} {z0 s : State} (wh : Writes wm z0 s) (we : 512 ||| wm = wm) : Writes wm z0
    (heldBells s p r) := by
  refine Writes.step (g := 512) ?_ we wh
  clear wh we
  have hz : Writes 512 s s := Writes.refl _ _
  unfold heldBells
  try dsimp only
  repeat' (first
    | with_reducible assumption
    | (with_reducible apply ringCq_writes; (on_goal 2 => decide))
    | (with_reducible apply ringSq_writes; (on_goal 2 => decide))
    | (with_reducible apply State.withRing_writes; (on_goal 2 => decide))
    | split)

theorem releaseRing_writes {p : Nat} {r : Nat} {wm : Nat} {z0 s : State} (wh : Writes wm z0 s) (we : 512 ||| wm = wm) : Writes wm z0
    (releaseRing s p r) := by
  refine Writes.step (g := 512) ?_ we wh
  clear wh we
  have hz : Writes 512 s s := Writes.refl _ _
  unfold releaseRing
  try dsimp only
  repeat' (first
    | with_reducible assumption
    | (with_reducible apply heldBells_writes; (on_goal 2 => decide))
    | (with_reducible apply State.withRing_writes; (on_goal 2 => decide))
    | with_reducible apply Writes.ite)

theorem disableRing_writes {p : Nat} {r : Nat} {wm : Nat} {z0 s : State} (wh : Writes wm z0 s) (we : 1077941888 ||| wm = wm) : Writes wm z0
    (disableRing s p r) := by
  refine Writes.step (g := 1077941888) ?_ we wh
  clear wh we
  have hz : Writes 1077941888 s s := Writes.refl _ _
  unfold disableRing
  try dsimp only
  repeat' (first
    | with_reducible assumption
    | (with_reducible apply heldBells_writes; (on_goal 2 => decide))
    | (with_reducible apply dropRead_writes; (on_goal 2 => decide))
    | (with_reducible apply settleRing_writes; (on_goal 2 => decide))
    | (with_reducible apply drainRing_writes; (on_goal 2 => decide)))

theorem execRingDisable_writes {part : Nat} {ring : Nat} {wm : Nat} {z0 s : State} (wh : Writes wm z0 s) (we : 1077941888 ||| wm = wm) :
    WritesOut wm z0 (execRingDisable part ring s) := by
  refine WritesOut.step (g := 1077941888) ?_ we wh
  clear wh we
  have hz : Writes 1077941888 s s := Writes.refl _ _
  unfold execRingDisable
  try dsimp only
  repeat' (first
    | with_reducible assumption
    | (with_reducible apply disableRing_writes; (on_goal 2 => decide))
    | with_reducible apply WritesOut.next
    | with_reducible apply WritesOut.ite)

theorem execRingAbort_writes {part : Nat} {ring : Nat} {wm : Nat} {z0 s : State} (wh : Writes wm z0 s) (we : 20439914114 ||| wm = wm) :
    WritesOut wm z0 (execRingAbort part ring s) := by
  refine WritesOut.step (g := 20439914114) ?_ we wh
  clear wh we
  have hz : Writes 20439914114 s s := Writes.refl _ _
  unfold execRingAbort
  try dsimp only
  repeat' (first
    | intro _
    | with_reducible assumption
    | (with_reducible apply heldBells_writes; (on_goal 2 => decide))
    | (with_reducible apply abortJob_writes; (on_goal 2 => decide))
    | (with_reducible apply dropRead_writes; (on_goal 2 => decide))
    | (with_reducible apply settleRing_writes; (on_goal 2 => decide))
    | (with_reducible apply drainRing_writes; (on_goal 2 => decide))
    | with_reducible apply WritesOut.next
    | with_reducible apply WritesOut.ite
    | with_reducible apply Writes.foldl)

theorem releaseHeld_writes {wm : Nat} {z0 s : State} (wh : Writes wm z0 s) (we : 512 ||| wm = wm) : Writes wm z0 (releaseHeld s) := by
  refine Writes.step (g := 512) ?_ we wh
  clear wh we
  have hz : Writes 512 s s := Writes.refl _ _
  unfold releaseHeld
  try dsimp only
  repeat' (first
    | intro _
    | with_reducible assumption
    | (with_reducible apply releaseRing_writes; (on_goal 2 => decide))
    | with_reducible apply Writes.ite
    | with_reducible apply Writes.foldl)

theorem holdRings_writes {p : Nat} {wm : Nat} {z0 s : State} (wh : Writes wm z0 s) (we : 512 ||| wm = wm) : Writes wm z0 (holdRings s p) := by
  refine Writes.step (g := 512) ?_ we wh
  clear wh we
  have hz : Writes 512 s s := Writes.refl _ _
  unfold holdRings
  try dsimp only
  repeat' (first
    | intro _
    | with_reducible assumption
    | (with_reducible apply State.withRing_writes; (on_goal 2 => decide))
    | with_reducible apply Writes.foldl)

theorem execIntakeVisit_writes {core : Nat} {wm : Nat} {z0 s : State} (wh : Writes wm z0 s) (we : 4608 ||| wm = wm) : WritesOut wm z0
    (execIntakeVisit core s) := by
  refine WritesOut.step (g := 4608) ?_ we wh
  clear wh we
  have hz : Writes 4608 s s := Writes.refl _ _
  unfold execIntakeVisit
  try dsimp only
  repeat' (first
    | with_reducible assumption
    | (with_reducible apply State.withRing_writes; (on_goal 2 => decide))
    | (with_reducible apply State.withIntake_writes; (on_goal 2 => decide))
    | with_reducible apply WritesOut.next
    | with_reducible apply WritesOut.ite
    | split)

theorem execDescriptorReadFailed_writes {core : Nat} {wm : Nat} {z0 s : State} (wh : Writes wm z0 s) (we : 1077941888 ||| wm = wm) :
    WritesOut wm z0 (execDescriptorReadFailed core s) := by
  refine WritesOut.step (g := 1077941888) ?_ we wh
  clear wh we
  have hz : Writes 1077941888 s s := Writes.refl _ _
  unfold execDescriptorReadFailed
  try dsimp only
  repeat' (first
    | with_reducible assumption
    | (with_reducible apply disableRing_writes; (on_goal 2 => decide))
    | (with_reducible apply ringFault_writes; (on_goal 2 => decide))
    | (with_reducible apply State.withRing_writes; (on_goal 2 => decide))
    | (with_reducible apply State.withIntake_writes; (on_goal 2 => decide))
    | with_reducible apply WritesOut.next
    | with_reducible apply WritesOut.ite
    | split)

theorem requeueRead_writes {c : Nat} {wm : Nat} {z0 s : State} (wh : Writes wm z0 s) (we : 4608 ||| wm = wm) : Writes wm z0 (requeueRead s c) := by
  refine Writes.step (g := 4608) ?_ we wh
  clear wh we
  have hz : Writes 4608 s s := Writes.refl _ _
  unfold requeueRead
  try dsimp only
  repeat' (first
    | with_reducible assumption
    | (with_reducible apply State.withRing_writes; (on_goal 2 => decide))
    | (with_reducible apply State.withIntake_writes; (on_goal 2 => decide))
    | split)

theorem emptyIntake_writes {c : Nat} {wm : Nat} {z0 s : State} (wh : Writes wm z0 s) (we : 1077941888 ||| wm = wm) : Writes wm z0
    (emptyIntake s c) := by
  refine Writes.step (g := 1077941888) ?_ we wh
  clear wh we
  have hz : Writes 1077941888 s s := Writes.refl _ _
  unfold emptyIntake
  try dsimp only
  repeat' (first
    | with_reducible assumption
    | (with_reducible apply requeueRead_writes; (on_goal 2 => decide))
    | (with_reducible apply squashWhere_writes; (on_goal 2 => decide)))

theorem execStagingWipeDone_writes {pool : StagingPool} {wm : Nat} {z0 s : State} (wh : Writes wm z0 s) (we : 4096 ||| wm = wm) : WritesOut
    wm z0 (execStagingWipeDone pool s) := by
  refine WritesOut.step (g := 4096) ?_ we wh
  clear wh we
  have hz : Writes 4096 s s := Writes.refl _ _
  unfold execStagingWipeDone
  try dsimp only
  repeat' (first
    | with_reducible assumption
    | (with_reducible apply State.withIntake_writes; (on_goal 2 => decide))
    | with_reducible apply WritesOut.next)

/-! ### Rng -/

theorem State.withNoise_writes {c : Nat} {f : NoiseCh → NoiseCh} {wm : Nat} {z0 s : State} (wh : Writes wm z0 s) (we : 2097152 ||| wm = wm)
    : Writes wm z0 (State.withNoise s c f) := by
  refine Writes.step (g := 2097152) ?_ we wh
  clear wh we
  have hz : Writes 2097152 s s := Writes.refl _ _
  unfold State.withNoise
  try dsimp only
  repeat' (first
    | with_reducible assumption
    | (with_reducible apply State.withRng_writes; (on_goal 2 => decide)))

theorem State.withExp_writes {e : Nat} {f : Expander → Expander} {wm : Nat} {z0 s : State} (wh : Writes wm z0 s) (we : 2097152 ||| wm = wm)
    : Writes wm z0 (State.withExp s e f) := by
  refine Writes.step (g := 2097152) ?_ we wh
  clear wh we
  have hz : Writes 2097152 s s := Writes.refl _ _
  unfold State.withExp
  try dsimp only
  repeat' (first
    | with_reducible assumption
    | (with_reducible apply State.withRng_writes; (on_goal 2 => decide)))

theorem seed_writes {e : Nat} {wm : Nat} {z0 s : State} (wh : Writes wm z0 s) (we : 2097152 ||| wm = wm) : Writes wm z0 (seed s e) := by
  refine Writes.step (g := 2097152) ?_ we wh
  clear wh we
  have hz : Writes 2097152 s s := Writes.refl _ _
  unfold seed
  try dsimp only
  repeat' (first
    | with_reducible assumption
    | (with_reducible apply State.withRng_writes; (on_goal 2 => decide)))

theorem instantiate_writes {p : Nat} {wm : Nat} {z0 s : State} (wh : Writes wm z0 s) (we : 2097152 ||| wm = wm) : Writes wm z0 (instantiate s p) := by
  refine Writes.step (g := 2097152) ?_ we wh
  clear wh we
  have hz : Writes 2097152 s s := Writes.refl _ _
  unfold instantiate
  try dsimp only
  repeat' (first
    | intro _
    | with_reducible assumption
    | (with_reducible apply seed_writes; (on_goal 2 => decide))
    | with_reducible apply Writes.ite
    | with_reducible apply Writes.foldl)

theorem uninstantiate_writes {p : Nat} {wm : Nat} {z0 s : State} (wh : Writes wm z0 s) (we : 2097152 ||| wm = wm) : Writes wm z0
    (uninstantiate s p) := by
  refine Writes.step (g := 2097152) ?_ we wh
  clear wh we
  have hz : Writes 2097152 s s := Writes.refl _ _
  unfold uninstantiate
  try dsimp only
  repeat' (first
    | intro _
    | with_reducible assumption
    | (with_reducible apply State.withExp_writes; (on_goal 2 => decide))
    | with_reducible apply Writes.foldl)

theorem startHolds_writes {wm : Nat} {z0 s0 : State} (wh : Writes wm z0 s0) (we : 2186302592 ||| wm = wm) : Writes wm z0 (startHolds s0) := by
  refine Writes.step (g := 2186302592) ?_ we wh
  clear wh we
  have hz : Writes 2186302592 s0 s0 := Writes.refl _ _
  unfold startHolds
  try dsimp only
  repeat' (first
    | intro _
    | with_reducible assumption
    | (with_reducible apply finish_writes; (on_goal 2 => decide))
    | (with_reducible refine Writes.upd_jobs ?_ ?_; (on_goal 2 => decide); first | with_reducible apply Writes.foldl))

theorem endHolds_writes {wm : Nat} {z0 s : State} (wh : Writes wm z0 s) (we : 1024 ||| wm = wm) : Writes wm z0 (endHolds s) := by
  refine Writes.step (g := 1024) ?_ we wh
  clear wh we
  have hz : Writes 1024 s s := Writes.refl _ _
  unfold endHolds
  try dsimp only
  repeat' (first
    | (with_reducible refine Writes.upd_jobs ?_ ?_; (on_goal 2 => decide); with_reducible assumption))

theorem updatePath_writes {p : Nat} {retired : Bool} {wm : Nat} {z0 s : State} (wh : Writes wm z0 s) (we : 3262141568 ||| wm = wm) : Writes
    wm z0 (updatePath s p retired) := by
  refine Writes.step (g := 3262141568) ?_ we wh
  clear wh we
  have hz : Writes 3262141568 s s := Writes.refl _ _
  unfold updatePath
  try dsimp only
  repeat' (first
    | intro _
    | with_reducible assumption
    | (with_reducible apply endHolds_writes; (on_goal 2 => decide))
    | (with_reducible apply startHolds_writes; (on_goal 2 => decide))
    | (with_reducible apply uninstantiate_writes; (on_goal 2 => decide))
    | (with_reducible apply instantiate_writes; (on_goal 2 => decide))
    | (with_reducible apply State.gset_writes; (on_goal 2 => decide))
    | with_reducible apply Writes.ite
    | with_reducible apply Writes.onlyIf)

theorem startChan_writes {c : Nat} {wm : Nat} {z0 s : State} (wh : Writes wm z0 s) (we : 2097152 ||| wm = wm) : Writes wm z0 (startChan s c) := by
  refine Writes.step (g := 2097152) ?_ we wh
  clear wh we
  have hz : Writes 2097152 s s := Writes.refl _ _
  unfold startChan
  try dsimp only
  repeat' (first
    | with_reducible assumption
    | (with_reducible apply State.withNoise_writes; (on_goal 2 => decide)))

theorem startPath_writes {p : Nat} {wm : Nat} {z0 s : State} (wh : Writes wm z0 s) (we : 1075838976 ||| wm = wm) : Writes wm z0 (startPath s p) := by
  refine Writes.step (g := 1075838976) ?_ we wh
  clear wh we
  have hz : Writes 1075838976 s s := Writes.refl _ _
  unfold startPath
  try dsimp only
  repeat' (first
    | intro _
    | with_reducible assumption
    | (with_reducible apply startChan_writes; (on_goal 2 => decide))
    | (with_reducible apply State.withExp_writes; (on_goal 2 => decide))
    | (with_reducible apply State.withNoise_writes; (on_goal 2 => decide))
    | (with_reducible apply State.gset_writes; (on_goal 2 => decide))
    | with_reducible apply Writes.foldl)

theorem retire_writes {c : Nat} {test : Nat} {wm : Nat} {z0 s : State} (wh : Writes wm z0 s) (we : 3262141600 ||| wm = wm) : Writes wm z0
    (retire s c test) := by
  refine Writes.step (g := 3262141600) ?_ we wh
  clear wh we
  have hz : Writes 3262141600 s s := Writes.refl _ _
  unfold retire
  try dsimp only
  repeat' (first
    | with_reducible assumption
    | (with_reducible apply updatePath_writes; (on_goal 2 => decide))
    | (with_reducible apply State.withNoise_writes; (on_goal 2 => decide))
    | (with_reducible apply State.event_writes; (on_goal 2 => decide))
    | (with_reducible apply State.bump_writes; (on_goal 2 => decide))
    | with_reducible apply Writes.ite)

theorem makeMinuteKeys_writes {wm : Nat} {z0 s : State} (wh : Writes wm z0 s) (we : 268435456 ||| wm = wm) : Writes wm z0 (makeMinuteKeys s) := by
  refine Writes.step (g := 268435456) ?_ we wh
  clear wh we
  have hz : Writes 268435456 s s := Writes.refl _ _
  unfold makeMinuteKeys
  try dsimp only
  repeat' (first
    | with_reducible assumption
    | (with_reducible apply State.withLife_writes; (on_goal 2 => decide))
    | with_reducible apply Writes.ite)

theorem execStartUpTestPassed_writes {chan : Nat} {wm : Nat} {z0 s : State} (wh : Writes wm z0 s) (we : 3530577024 ||| wm = wm) : WritesOut
    wm z0 (execStartUpTestPassed chan s) := by
  refine WritesOut.step (g := 3530577024) ?_ we wh
  clear wh we
  have hz : Writes 3530577024 s s := Writes.refl _ _
  unfold execStartUpTestPassed
  try dsimp only
  repeat' (first
    | with_reducible assumption
    | (with_reducible apply makeMinuteKeys_writes; (on_goal 2 => decide))
    | (with_reducible apply updatePath_writes; (on_goal 2 => decide))
    | (with_reducible apply State.withNoise_writes; (on_goal 2 => decide))
    | with_reducible apply WritesOut.next
    | with_reducible apply WritesOut.ite)

theorem execChannelRestart_writes {chan : Nat} {wm : Nat} {z0 s : State} (wh : Writes wm z0 s) (we : 2097152 ||| wm = wm) : WritesOut wm z0
    (execChannelRestart chan s) := by
  refine WritesOut.step (g := 2097152) ?_ we wh
  clear wh we
  have hz : Writes 2097152 s s := Writes.refl _ _
  unfold execChannelRestart
  try dsimp only
  repeat' (first
    | with_reducible assumption
    | (with_reducible apply startChan_writes; (on_goal 2 => decide))
    | with_reducible apply WritesOut.next
    | with_reducible apply WritesOut.ite)

theorem execReseed_writes {expander : Nat} {wm : Nat} {z0 s : State} (wh : Writes wm z0 s) (we : 2097152 ||| wm = wm) : WritesOut wm z0
    (execReseed expander s) := by
  refine WritesOut.step (g := 2097152) ?_ we wh
  clear wh we
  have hz : Writes 2097152 s s := Writes.refl _ _
  unfold execReseed
  try dsimp only
  repeat' (first
    | with_reducible assumption
    | (with_reducible apply seed_writes; (on_goal 2 => decide))
    | with_reducible apply WritesOut.next
    | with_reducible apply WritesOut.ite)

theorem rngDraw_writes {p : Nat} {n : Nat} {wm : Nat} {z0 s : State} (wh : Writes wm z0 s) (we : 2097154 ||| wm = wm) : WritesSnd wm z0
    (rngDraw s p n) := by
  refine WritesSnd.step (g := 2097154) ?_ we wh
  clear wh we
  have hz : Writes 2097154 s s := Writes.refl _ _
  unfold rngDraw
  try dsimp only
  repeat' (first
    | with_reducible assumption
    | (with_reducible apply State.withExp_writes; (on_goal 2 => decide))
    | (with_reducible apply State.drawBytes_writes; (on_goal 2 => decide))
    | with_reducible apply WritesSnd.mk
    | split
    | with_reducible apply WritesSnd.snd)

theorem rngHold_writes {id : Nat} {wm : Nat} {z0 s : State} (wh : Writes wm z0 s) (we : 1024 ||| wm = wm) : Writes wm z0 (rngHold s id) := by
  refine Writes.step (g := 1024) ?_ we wh
  clear wh we
  have hz : Writes 1024 s s := Writes.refl _ _
  unfold rngHold
  try dsimp only
  repeat' (first
    | with_reducible assumption
    | (with_reducible apply State.withJob_writes; (on_goal 2 => decide))
    | with_reducible apply Writes.ite)

theorem execRngWaitEnd_writes {job : Nat} {wm : Nat} {z0 s : State} (wh : Writes wm z0 s) (we : 1024 ||| wm = wm) : WritesOut wm z0
    (execRngWaitEnd job s) := by
  refine WritesOut.step (g := 1024) ?_ we wh
  clear wh we
  have hz : Writes 1024 s s := Writes.refl _ _
  unfold execRngWaitEnd
  try dsimp only
  repeat' (first
    | with_reducible assumption
    | (with_reducible apply State.withJob_writes; (on_goal 2 => decide))
    | with_reducible apply WritesOut.next
    | with_reducible apply WritesOut.ite)

theorem execRngHoldExpiry_writes {job : Nat} {wm : Nat} {z0 s : State} (wh : Writes wm z0 s) (we : 2186302592 ||| wm = wm) : WritesOut wm
    z0 (execRngHoldExpiry job s) := by
  refine WritesOut.step (g := 2186302592) ?_ we wh
  clear wh we
  have hz : Writes 2186302592 s s := Writes.refl _ _
  unfold execRngHoldExpiry
  try dsimp only
  repeat' (first
    | with_reducible assumption
    | (with_reducible apply finish_writes; (on_goal 2 => decide))
    | with_reducible apply WritesOut.next
    | with_reducible apply WritesOut.ite)

theorem outputRound_writes {x0 : Nat} {x1 : Nat} {wm : Nat} {z0 x2 : State} (wh : Writes wm z0 x2) (we : 2097152 ||| wm = wm) :
    WritesOptSnd wm z0 (outputRound x0 x1 x2) := by
  refine WritesOptSnd.step (g := 2097152) ?_ we wh
  clear wh we
  clear z0 wm
  induction x0 generalizing x1 x2 with
  | zero =>
    have hz : Writes 2097152 x2 x2 := Writes.refl _ _
    unfold outputRound
    try dsimp only
    repeat' (first
      | with_reducible assumption
      | (with_reducible apply State.withRng_writes; (on_goal 2 => decide))
      | with_reducible exact WritesOptSnd.none
      | with_reducible apply WritesOptSnd.some
      | split)
  | succ n ih =>
    have hz : Writes 2097152 x2 x2 := Writes.refl _ _
    unfold outputRound
    try dsimp only
    repeat' (first
      | (with_reducible refine WritesOptSnd.step (g := 2097152) ih ?_ ?_; (on_goal 1 => decide))
      | with_reducible assumption
      | (with_reducible apply State.withRng_writes; (on_goal 2 => decide))
      | with_reducible exact WritesOptSnd.none
      | with_reducible apply WritesOptSnd.some
      | split)

theorem outputPart_writes {wm : Nat} {z0 s : State} (wh : Writes wm z0 s) (we : 2097152 ||| wm = wm) : WritesOptSnd wm z0 (outputPart s) := by
  refine WritesOptSnd.step (g := 2097152) ?_ we wh
  clear wh we
  have hz : Writes 2097152 s s := Writes.refl _ _
  unfold outputPart
  try dsimp only
  repeat' (first
    | with_reducible assumption
    | (with_reducible apply outputRound_writes; (on_goal 2 => decide))
    | with_reducible apply WritesOptSnd.some
    | split)

theorem outputStep_writes {id : Nat} {wm : Nat} {z0 s0 : State} (wh : Writes wm z0 s0) (we : 20442011266 ||| wm = wm) : Writes wm z0
    (outputStep s0 id) := by
  refine Writes.step (g := 20442011266) ?_ we wh
  clear wh we
  have hz : Writes 20442011266 s0 s0 := Writes.refl _ _
  unfold outputStep
  try dsimp only
  repeat' (first
    | with_reducible assumption
    | (with_reducible apply rngDraw_writes; (on_goal 2 => decide))
    | (with_reducible apply finishWith_writes; (on_goal 2 => decide))
    | (with_reducible apply toEngine_writes; (on_goal 2 => decide))
    | (with_reducible apply State.withJob_writes; (on_goal 2 => decide))
    | (with_reducible apply State.hostWrite_writes; (on_goal 2 => decide))
    | (with_reducible apply State.bumpBys_writes; (on_goal 2 => decide))
    | with_reducible apply Writes.ite
    | split
    | with_reducible apply WritesSnd.snd)

theorem outputCharge_writes {p : Nat} {n : Nat} {wm : Nat} {z0 s : State} (wh : Writes wm z0 s) (we : 2097152 ||| wm = wm) : Writes wm z0
    (outputCharge s p n) := by
  refine Writes.step (g := 2097152) ?_ we wh
  clear wh we
  have hz : Writes 2097152 s s := Writes.refl _ _
  unfold outputCharge
  try dsimp only
  repeat' (first
    | with_reducible assumption
    | (with_reducible apply State.withRng_writes; (on_goal 2 => decide)))

theorem execRandomBytes_writes {job : Nat} {wm : Nat} {z0 s : State} (wh : Writes wm z0 s) (we : 20442011266 ||| wm = wm) : WritesOut wm z0
    (execRandomBytes job s) := by
  refine WritesOut.step (g := 20442011266) ?_ we wh
  clear wh we
  have hz : Writes 20442011266 s s := Writes.refl _ _
  unfold execRandomBytes
  try dsimp only
  repeat' (first
    | with_reducible assumption
    | (with_reducible apply outputCharge_writes; (on_goal 2 => decide))
    | (with_reducible apply outputStep_writes; (on_goal 2 => decide))
    | (with_reducible apply outputPart_writes; (on_goal 2 => decide))
    | (with_reducible apply seed_writes; (on_goal 2 => decide))
    | (with_reducible apply finish_writes; (on_goal 2 => decide))
    | with_reducible apply WritesOut.next
    | with_reducible apply WritesOut.ite
    | with_reducible apply Writes.ite
    | (with_reducible apply WritesOptSnd.of_eq; with_reducible assumption)
    | split)

theorem condChanged_writes {p : Nat} {old : Nat} {new : Nat} {wm : Nat} {z0 s : State} (wh : Writes wm z0 s) (we : 3262141568 ||| wm = wm)
    : Writes wm z0 (condChanged s p old new) := by
  refine Writes.step (g := 3262141568) ?_ we wh
  clear wh we
  have hz : Writes 3262141568 s s := Writes.refl _ _
  unfold condChanged
  try dsimp only
  repeat' (first
    | intro _
    | with_reducible assumption
    | (with_reducible apply startChan_writes; (on_goal 2 => decide))
    | (with_reducible apply updatePath_writes; (on_goal 2 => decide))
    | with_reducible apply Writes.ite
    | with_reducible apply Writes.foldl)

theorem rngErase_writes {wm : Nat} {z0 s : State} (wh : Writes wm z0 s) (we : 2097152 ||| wm = wm) : Writes wm z0 (rngErase s) := by
  refine Writes.step (g := 2097152) ?_ we wh
  clear wh we
  have hz : Writes 2097152 s s := Writes.refl _ _
  unfold rngErase
  try dsimp only
  repeat' (first
    | with_reducible assumption
    | (with_reducible apply uninstantiate_writes; (on_goal 2 => decide))
    | (with_reducible apply instantiate_writes; (on_goal 2 => decide))
    | with_reducible apply Writes.ite)

/-! ### VaultLog -/

theorem State.withVBank_writes {b : Nat} {f : VBank → VBank} {wm : Nat} {z0 s : State} (wh : Writes wm z0 s) (we : 16777216 ||| wm = wm) :
    Writes wm z0 (State.withVBank s b f) := by
  refine Writes.step (g := 16777216) ?_ we wh
  clear wh we
  have hz : Writes 16777216 s s := Writes.refl _ _
  unfold State.withVBank
  try dsimp only
  repeat' (first
    | with_reducible assumption
    | (with_reducible apply State.withVault_writes; (on_goal 2 => decide)))

theorem allocLog_writes {b : Nat} {wm : Nat} {z0 s : State} (wh : Writes wm z0 s) (we : 16777216 ||| wm = wm) : WritesSnd wm z0 (allocLog s b) := by
  refine WritesSnd.step (g := 16777216) ?_ we wh
  clear wh we
  have hz : Writes 16777216 s s := Writes.refl _ _
  unfold allocLog
  try dsimp only
  repeat' (first
    | with_reducible assumption
    | (with_reducible apply State.withVault_writes; (on_goal 2 => decide))
    | with_reducible apply WritesSnd.mk)

theorem headOf_writes {rel : Bool} {b : Nat} {wm : Nat} {z0 s : State} (wh : Writes wm z0 s) (we : 16777216 ||| wm = wm) : WritesSnd wm z0
    (headOf s rel b) := by
  refine WritesSnd.step (g := 16777216) ?_ we wh
  clear wh we
  have hz : Writes 16777216 s s := Writes.refl _ _
  unfold headOf
  try dsimp only
  repeat' (first
    | with_reducible assumption
    | (with_reducible apply allocLog_writes; (on_goal 2 => decide))
    | (with_reducible apply State.withVBank_writes; (on_goal 2 => decide))
    | with_reducible apply WritesSnd.mk
    | split
    | with_reducible apply WritesSnd.snd)

theorem flushPage_writes {rel : Bool} {wm : Nat} {z0 s : State} (wh : Writes wm z0 s) (we : 16777216 ||| wm = wm) : Writes wm z0 (flushPage
    s rel) := by
  refine Writes.step (g := 16777216) ?_ we wh
  clear wh we
  have hz : Writes 16777216 s s := Writes.refl _ _
  unfold flushPage
  try dsimp only
  repeat' (first
    | with_reducible assumption
    | (with_reducible apply State.withVBank_writes; (on_goal 2 => decide))
    | (with_reducible apply State.withVault_writes; (on_goal 2 => decide))
    | with_reducible apply Writes.ite)

theorem countRate_writes {n : Nat} {wm : Nat} {z0 s : State} (wh : Writes wm z0 s) (we : 16777216 ||| wm = wm) : Writes wm z0 (countRate s n) := by
  refine Writes.step (g := 16777216) ?_ we wh
  clear wh we
  have hz : Writes 16777216 s s := Writes.refl _ _
  unfold countRate
  try dsimp only
  repeat' (first
    | with_reducible assumption
    | (with_reducible apply State.withVault_writes; (on_goal 2 => decide)))

theorem vAppend_writes {rel : Bool} {src : VSrc} {data : Bytes} {wm : Nat} {z0 s : State} (wh : Writes wm z0 s) (we : 16777216 ||| wm = wm)
    : Writes wm z0 (vAppend s rel src data) := by
  refine Writes.step (g := 16777216) ?_ we wh
  clear wh we
  have hz : Writes 16777216 s s := Writes.refl _ _
  unfold vAppend
  try dsimp only
  repeat' (first
    | with_reducible assumption
    | (with_reducible apply countRate_writes; (on_goal 2 => decide))
    | (with_reducible apply flushPage_writes; (on_goal 2 => decide))
    | (with_reducible apply headOf_writes; (on_goal 2 => decide))
    | (with_reducible apply State.withVault_writes; (on_goal 2 => decide))
    | with_reducible apply Writes.ite
    | split
    | with_reducible apply WritesSnd.snd)

theorem vDiscard_writes {a : Nat} {n : Nat} {wm : Nat} {z0 s : State} (wh : Writes wm z0 s) (we : 16777216 ||| wm = wm) : Writes wm z0
    (vDiscard s a n) := by
  refine Writes.step (g := 16777216) ?_ we wh
  clear wh we
  have hz : Writes 16777216 s s := Writes.refl _ _
  unfold vDiscard
  try dsimp only
  repeat' (first
    | intro _
    | with_reducible assumption
    | (with_reducible apply State.withVault_writes; (on_goal 2 => decide))
    | with_reducible apply Writes.foldl)

/-! ### Keys -/

theorem queueCommit_writes {kind : Nat} {p : Nat} {job : Option Nat} {slot : Nat} {arg : Nat} {body : Bytes} {wm : Nat} {z0 s : State} (wh
    : Writes wm z0 s) (we : 1048576 ||| wm = wm) : Writes wm z0 (queueCommit s kind p job slot arg body) := by
  refine Writes.step (g := 1048576) ?_ we wh
  clear wh we
  have hz : Writes 1048576 s s := Writes.refl _ _
  unfold queueCommit
  try dsimp only
  repeat' (first
    | with_reducible assumption
    | (with_reducible apply State.withKeys_writes; (on_goal 2 => decide)))

theorem advanceGen_writes {i : Nat} {wm : Nat} {z0 s : State} (wh : Writes wm z0 s) (we : 1048576 ||| wm = wm) : Writes wm z0 (advanceGen s i) := by
  refine Writes.step (g := 1048576) ?_ we wh
  clear wh we
  have hz : Writes 1048576 s s := Writes.refl _ _
  unfold advanceGen
  try dsimp only
  repeat' (first
    | with_reducible assumption
    | (with_reducible apply State.withKeys_writes; (on_goal 2 => decide)))

theorem freeKey_writes {i : Nat} {wm : Nat} {z0 s : State} (wh : Writes wm z0 s) (we : 1048576 ||| wm = wm) : Writes wm z0 (freeKey s i) := by
  refine Writes.step (g := 1048576) ?_ we wh
  clear wh we
  have hz : Writes 1048576 s s := Writes.refl _ _
  unfold freeKey
  try dsimp only
  repeat' (first
    | with_reducible assumption
    | (with_reducible apply advanceGen_writes; (on_goal 2 => decide))
    | (with_reducible apply State.withKeys_writes; (on_goal 2 => decide))
    | with_reducible apply Writes.ite)

theorem allocKey_writes {k : KSlot} {wm : Nat} {z0 s : State} (wh : Writes wm z0 s) (we : 1048578 ||| wm = wm) : WritesSnd wm z0 (allocKey s k) := by
  refine WritesSnd.step (g := 1048578) ?_ we wh
  clear wh we
  have hz : Writes 1048578 s s := Writes.refl _ _
  unfold allocKey
  try dsimp only
  repeat' (first
    | with_reducible assumption
    | (with_reducible apply State.withKeys_writes; (on_goal 2 => decide))
    | (with_reducible apply State.drawNat_writes; (on_goal 2 => decide))
    | with_reducible apply WritesSnd.mk
    | with_reducible apply WritesSnd.snd)

theorem makeRoom_writes {n : Nat} {x0 : Nat} {wm : Nat} {z0 x1 : State} (wh : Writes wm z0 x1) (we : 1048576 ||| wm = wm) : Writes wm z0
    (makeRoom n x0 x1) := by
  refine Writes.step (g := 1048576) ?_ we wh
  clear wh we
  clear z0 wm
  induction x0 generalizing x1 with
  | zero =>
    have hz : Writes 1048576 x1 x1 := Writes.refl _ _
    unfold makeRoom
    try dsimp only
    repeat' (first
      | with_reducible assumption
      | (with_reducible apply State.withSlot_writes; (on_goal 2 => decide))
      | with_reducible apply Writes.ite
      | split)
  | succ n ih =>
    have hz : Writes 1048576 x1 x1 := Writes.refl _ _
    unfold makeRoom
    try dsimp only
    repeat' (first
      | (with_reducible refine Writes.step (g := 1048576) ih ?_ ?_; (on_goal 1 => decide))
      | with_reducible assumption
      | (with_reducible apply State.withSlot_writes; (on_goal 2 => decide))
      | with_reducible apply Writes.ite
      | split)

theorem fillCache_writes {i : Nat} {wm : Nat} {z0 s : State} (wh : Writes wm z0 s) (we : 1048576 ||| wm = wm) : Writes wm z0 (fillCache s i) := by
  refine Writes.step (g := 1048576) ?_ we wh
  clear wh we
  have hz : Writes 1048576 s s := Writes.refl _ _
  unfold fillCache
  try dsimp only
  repeat' (first
    | with_reducible assumption
    | (with_reducible apply makeRoom_writes; (on_goal 2 => decide))
    | (with_reducible apply State.withSlot_writes; (on_goal 2 => decide)))

theorem damageSlot_writes {i : Nat} {cause : Nat} {wm : Nat} {z0 s : State} (wh : Writes wm z0 s) (we : 1048608 ||| wm = wm) : Writes wm z0
    (damageSlot s i cause) := by
  refine Writes.step (g := 1048608) ?_ we wh
  clear wh we
  have hz : Writes 1048608 s s := Writes.refl _ _
  unfold damageSlot
  try dsimp only
  repeat' (first
    | with_reducible assumption
    | (with_reducible apply State.withSlot_writes; (on_goal 2 => decide))
    | (with_reducible apply State.event_writes; (on_goal 2 => decide)))

theorem checkEntry_writes {i : Nat} {wm : Nat} {z0 s : State} (wh : Writes wm z0 s) (we : 1048608 ||| wm = wm) : Writes wm z0 (checkEntry s i) := by
  refine Writes.step (g := 1048608) ?_ we wh
  clear wh we
  have hz : Writes 1048608 s s := Writes.refl _ _
  unfold checkEntry
  try dsimp only
  repeat' (first
    | with_reducible assumption
    | (with_reducible apply damageSlot_writes; (on_goal 2 => decide))
    | (with_reducible apply State.withSlot_writes; (on_goal 2 => decide))
    | with_reducible apply Writes.ite)

theorem loadKey_writes {id : Nat} {i : Nat} {use : Bool} {wm : Nat} {z0 s : State} (wh : Writes wm z0 s) (we : 1049600 ||| wm = wm) :
    Writes wm z0 (loadKey s id i use) := by
  refine Writes.step (g := 1049600) ?_ we wh
  clear wh we
  have hz : Writes 1049600 s s := Writes.refl _ _
  unfold loadKey
  try dsimp only
  repeat' (first
    | with_reducible assumption
    | (with_reducible apply State.withSlot_writes; (on_goal 2 => decide))
    | (with_reducible apply State.withJob_writes; (on_goal 2 => decide))
    | with_reducible apply Writes.ite)

theorem reserve_writes {i : Nat} {wm : Nat} {z0 s : State} (wh : Writes wm z0 s) (we : 1048576 ||| wm = wm) : Writes wm z0 (reserve s i) := by
  refine Writes.step (g := 1048576) ?_ we wh
  clear wh we
  have hz : Writes 1048576 s s := Writes.refl _ _
  unfold reserve
  try dsimp only
  repeat' (first
    | with_reducible assumption
    | (with_reducible apply queueCommit_writes; (on_goal 2 => decide))
    | (with_reducible apply State.withSlot_writes; (on_goal 2 => decide))
    | with_reducible apply Writes.ite)

theorem tryLoad_writes {id : Nat} {handle : Nat} {a : LoadAsk} {wm : Nat} {z0 s0 : State} (wh : Writes wm z0 s0) (we : 1074791456 ||| wm =
    wm) : WritesSnd wm z0 (tryLoad s0 id handle a) := by
  refine WritesSnd.step (g := 1074791456) ?_ we wh
  clear wh we
  have hz : Writes 1074791456 s0 s0 := Writes.refl _ _
  unfold tryLoad
  try dsimp only
  repeat' (first
    | with_reducible assumption
    | (with_reducible apply reserve_writes; (on_goal 2 => decide))
    | (with_reducible apply loadKey_writes; (on_goal 2 => decide))
    | (with_reducible apply checkEntry_writes; (on_goal 2 => decide))
    | (with_reducible apply State.bump_writes; (on_goal 2 => decide))
    | with_reducible apply WritesSnd.mk
    | with_reducible apply Writes.ite
    | split)

theorem holdJob_writes {id : Nat} {w : Nat} {wm : Nat} {z0 s : State} (wh : Writes wm z0 s) (we : 1024 ||| wm = wm) : Writes wm z0 (holdJob
    s id w) := by
  refine Writes.step (g := 1024) ?_ we wh
  clear wh we
  have hz : Writes 1024 s s := Writes.refl _ _
  unfold holdJob
  try dsimp only
  repeat' (first
    | with_reducible assumption
    | (with_reducible apply State.withJob_writes; (on_goal 2 => decide)))

theorem createKey_writes {id : Nat} {k : KSlot} {out : Nat → Bytes} {tc : Nat} {lane : Nat} {wm : Nat} {z0 s : State} (wh : Writes wm z0 s)
    (we : 2186302594 ||| wm = wm) : Writes wm z0 (createKey s id k out tc lane) := by
  refine Writes.step (g := 2186302594) ?_ we wh
  clear wh we
  have hz : Writes 2186302594 s s := Writes.refl _ _
  unfold createKey
  try dsimp only
  repeat' (first
    | with_reducible assumption
    | (with_reducible apply fillCache_writes; (on_goal 2 => decide))
    | (with_reducible apply allocKey_writes; (on_goal 2 => decide))
    | (with_reducible apply queueCommit_writes; (on_goal 2 => decide))
    | (with_reducible apply finishWith_writes; (on_goal 2 => decide))
    | (with_reducible apply releaseUnits_writes; (on_goal 2 => decide))
    | (with_reducible apply State.withSlot_writes; (on_goal 2 => decide))
    | (with_reducible apply State.withJob_writes; (on_goal 2 => decide))
    | with_reducible apply Writes.ite
    | with_reducible apply WritesSnd.snd)

theorem execKeyGenSym_writes {job : Nat} {wm : Nat} {z0 s : State} (wh : Writes wm z0 s) (we : 2188400258 ||| wm = wm) : WritesOut wm z0
    (execKeyGenSym job s) := by
  refine WritesOut.step (g := 2188400258) ?_ we wh
  clear wh we
  have hz : Writes 2188400258 s s := Writes.refl _ _
  unfold execKeyGenSym
  try dsimp only
  repeat' (first
    | with_reducible assumption
    | (with_reducible apply createKey_writes; (on_goal 2 => decide))
    | (with_reducible apply rngHold_writes; (on_goal 2 => decide))
    | (with_reducible apply rngDraw_writes; (on_goal 2 => decide))
    | (with_reducible apply finish_writes; (on_goal 2 => decide))
    | (with_reducible apply toEngine_writes; (on_goal 2 => decide))
    | with_reducible apply WritesOut.next
    | with_reducible apply WritesOut.ite
    | (with_reducible refine Writes.upd_free ?_ ?_; (on_goal 2 => decide); first | with_reducible assumption | with_reducible apply WritesSnd.snd))

theorem withKey_writes {id : Nat} {op : Nat} {a : LoadAsk} {valid : List Nat} {f : State → State} {s z0 : State} {wm : Nat} (hm :
    3260044960 ||| wm = wm) (wh : Writes wm z0 s) (hf : ∀ y0, Writes wm z0 y0 → Writes wm z0 (f y0)) :
    WritesOut wm z0 (withKey s id op a valid f) := by
  unfold withKey
  try dsimp only
  repeat' (first
    | with_reducible assumption
    | with_reducible apply hf
    | (with_reducible apply holdJob_writes; (on_goal 2 => (first | decide | exact Writes.sub (by decide) hm)))
    | (with_reducible apply tryLoad_writes; (on_goal 2 => (first | decide | exact Writes.sub (by decide) hm)))
    | (with_reducible apply finish_writes; (on_goal 2 => (first | decide | exact Writes.sub (by decide) hm)))
    | (with_reducible apply toEngine_writes; (on_goal 2 => (first | decide | exact Writes.sub (by decide) hm)))
    | with_reducible apply WritesOut.next
    | with_reducible apply WritesOut.ite
    | split
    | with_reducible apply WritesSnd.snd)

theorem execKeyInfo_writes {job : Nat} {wm : Nat} {z0 s : State} (wh : Writes wm z0 s) (we : 3260044960 ||| wm = wm) : WritesOut wm z0
    (execKeyInfo job s) := by
  refine WritesOut.step (g := 3260044960) ?_ we wh
  clear wh we
  have hz : Writes 3260044960 s s := Writes.refl _ _
  unfold execKeyInfo
  try dsimp only
  repeat' (first
    | intro _
    | with_reducible assumption
    | (with_reducible apply withKey_writes; (on_goal 1 => decide))
    | (with_reducible apply finish_writes; (on_goal 2 => decide)))

theorem execKeyDestroy_writes {job : Nat} {wm : Nat} {z0 s : State} (wh : Writes wm z0 s) (we : 3260044960 ||| wm = wm) : WritesOut wm z0
    (execKeyDestroy job s) := by
  refine WritesOut.step (g := 3260044960) ?_ we wh
  clear wh we
  have hz : Writes 3260044960 s s := Writes.refl _ _
  unfold execKeyDestroy
  try dsimp only
  repeat' (first
    | intro _
    | with_reducible assumption
    | (with_reducible apply withKey_writes; (on_goal 1 => decide))
    | (with_reducible apply State.withSlot_writes; (on_goal 2 => decide))
    | (with_reducible apply State.withJob_writes; (on_goal 2 => decide)))

theorem execDestroyComplete_writes {slot : Nat} {wm : Nat} {z0 s : State} (wh : Writes wm z0 s) (we : 2186302592 ||| wm = wm) : WritesOut
    wm z0 (execDestroyComplete slot s) := by
  refine WritesOut.step (g := 2186302592) ?_ we wh
  clear wh we
  have hz : Writes 2186302592 s s := Writes.refl _ _
  unfold execDestroyComplete
  try dsimp only
  repeat' (first
    | with_reducible assumption
    | (with_reducible apply freeKey_writes; (on_goal 2 => decide))
    | (with_reducible apply advanceGen_writes; (on_goal 2 => decide))
    | (with_reducible apply queueCommit_writes; (on_goal 2 => decide))
    | (with_reducible apply finish_writes; (on_goal 2 => decide))
    | (with_reducible apply State.withSlot_writes; (on_goal 2 => decide))
    | with_reducible apply WritesOut.next
    | with_reducible apply WritesOut.ite
    | with_reducible apply Writes.ite)

theorem applyRestrict_writes {i : Nat} {v : Nat} {job : Option Nat} {wm : Nat} {z0 s : State} (wh : Writes wm z0 s) (we : 1049600 ||| wm =
    wm) : Writes wm z0 (applyRestrict s i v job) := by
  refine Writes.step (g := 1049600) ?_ we wh
  clear wh we
  have hz : Writes 1049600 s s := Writes.refl _ _
  unfold applyRestrict
  try dsimp only
  repeat' (first
    | with_reducible assumption
    | (with_reducible apply State.withSlot_writes; (on_goal 2 => decide))
    | (with_reducible apply State.withJob_writes; (on_goal 2 => decide))
    | with_reducible apply Writes.ite
    | split)

theorem execKeyRestrict_writes {job : Nat} {wm : Nat} {z0 s : State} (wh : Writes wm z0 s) (we : 3260044960 ||| wm = wm) : WritesOut wm z0
    (execKeyRestrict job s) := by
  refine WritesOut.step (g := 3260044960) ?_ we wh
  clear wh we
  have hz : Writes 3260044960 s s := Writes.refl _ _
  unfold execKeyRestrict
  try dsimp only
  repeat' (first
    | intro _
    | with_reducible assumption
    | (with_reducible apply applyRestrict_writes; (on_goal 2 => decide))
    | (with_reducible apply withKey_writes; (on_goal 1 => decide))
    | (with_reducible apply queueCommit_writes; (on_goal 2 => decide))
    | (with_reducible apply finish_writes; (on_goal 2 => decide))
    | (with_reducible apply State.withSlot_writes; (on_goal 2 => decide))
    | (with_reducible apply State.withJob_writes; (on_goal 2 => decide))
    | with_reducible apply WritesOut.next
    | with_reducible apply WritesOut.ite
    | with_reducible apply Writes.ite)

theorem execRestrictDone_writes {job : Nat} {wm : Nat} {z0 s : State} (wh : Writes wm z0 s) (we : 2186302592 ||| wm = wm) : WritesOut wm z0
    (execRestrictDone job s) := by
  refine WritesOut.step (g := 2186302592) ?_ we wh
  clear wh we
  have hz : Writes 2186302592 s s := Writes.refl _ _
  unfold execRestrictDone
  try dsimp only
  repeat' (first
    | with_reducible assumption
    | (with_reducible apply finish_writes; (on_goal 2 => decide))
    | with_reducible apply WritesOut.next
    | with_reducible apply WritesOut.ite)

theorem newSalt_writes {p : Nat} {wm : Nat} {z0 s : State} (wh : Writes wm z0 s) (we : 2097410 ||| wm = wm) : Writes wm z0 (newSalt s p) := by
  refine Writes.step (g := 2097410) ?_ we wh
  clear wh we
  have hz : Writes 2097410 s s := Writes.refl _ _
  unfold newSalt
  try dsimp only
  repeat' (first
    | with_reducible assumption
    | (with_reducible apply rngDraw_writes; (on_goal 2 => decide))
    | (with_reducible apply State.withPart_writes; (on_goal 2 => decide))
    | with_reducible apply WritesSnd.snd)

theorem beginPurge_writes {p : Nat} {job : Option Nat} {wm : Nat} {z0 s : State} (wh : Writes wm z0 s) (we : 2205177218 ||| wm = wm) :
    WritesSnd wm z0 (beginPurge s p job) := by
  refine WritesSnd.step (g := 2205177218) ?_ we wh
  clear wh we
  have hz : Writes 2205177218 s s := Writes.refl _ _
  unfold beginPurge
  try dsimp only
  repeat' (first
    | intro _
    | with_reducible assumption
    | (with_reducible apply newSalt_writes; (on_goal 2 => decide))
    | (with_reducible apply finish_writes; (on_goal 2 => decide))
    | (with_reducible apply State.withVault_writes; (on_goal 2 => decide))
    | (with_reducible apply State.withKeys_writes; (on_goal 2 => decide))
    | with_reducible apply WritesSnd.mk
    | with_reducible apply Writes.foldl
    | split)

theorem execKeyPurge_writes {job : Nat} {wm : Nat} {z0 s : State} (wh : Writes wm z0 s) (we : 2205177730 ||| wm = wm) : WritesOut wm z0
    (execKeyPurge job s) := by
  refine WritesOut.step (g := 2205177730) ?_ we wh
  clear wh we
  have hz : Writes 2205177730 s s := Writes.refl _ _
  unfold execKeyPurge
  try dsimp only
  repeat' (first
    | with_reducible assumption
    | (with_reducible apply beginPurge_writes; (on_goal 2 => decide))
    | (with_reducible apply finish_writes; (on_goal 2 => decide))
    | (with_reducible apply toEngine_writes; (on_goal 2 => decide))
    | (with_reducible apply State.withJob_writes; (on_goal 2 => decide))
    | with_reducible apply WritesOut.next
    | with_reducible apply WritesOut.ite
    | with_reducible apply WritesSnd.snd)

theorem execPurgeWipe_writes {part : Nat} {wm : Nat} {z0 s : State} (wh : Writes wm z0 s) (we : 3145986 ||| wm = wm) : WritesOut wm z0
    (execPurgeWipe part s) := by
  refine WritesOut.step (g := 3145986) ?_ we wh
  clear wh we
  have hz : Writes 3145986 s s := Writes.refl _ _
  unfold execPurgeWipe
  try dsimp only
  repeat' (first
    | with_reducible assumption
    | (with_reducible apply newSalt_writes; (on_goal 2 => decide))
    | (with_reducible apply queueCommit_writes; (on_goal 2 => decide))
    | (with_reducible apply State.withKeys_writes; (on_goal 2 => decide))
    | with_reducible apply WritesOut.next
    | with_reducible apply WritesOut.ite
    | split)

theorem serveCommit_writes {p : Nat} {wm : Nat} {z0 s : State} (wh : Writes wm z0 s) (we : 17825792 ||| wm = wm) : WritesOpt wm z0
    (serveCommit s p) := by
  refine WritesOpt.step (g := 17825792) ?_ we wh
  clear wh we
  have hz : Writes 17825792 s s := Writes.refl _ _
  unfold serveCommit
  try dsimp only
  repeat' (first
    | with_reducible assumption
    | (with_reducible apply vAppend_writes; (on_goal 2 => decide))
    | (with_reducible apply State.withKeys_writes; (on_goal 2 => decide))
    | with_reducible exact WritesOpt.none
    | with_reducible apply WritesOpt.some
    | split)

theorem commitRound_writes {x0 : Nat} {x1 : Nat} {wm : Nat} {z0 x2 : State} (wh : Writes wm z0 x2) (we : 17825792 ||| wm = wm) : Writes wm
    z0 (commitRound x0 x1 x2) := by
  refine Writes.step (g := 17825792) ?_ we wh
  clear wh we
  clear z0 wm
  induction x0 generalizing x1 x2 with
  | zero =>
    have hz : Writes 17825792 x2 x2 := Writes.refl _ _
    unfold commitRound
    try dsimp only
    repeat' (first
      | with_reducible assumption
      | (with_reducible apply serveCommit_writes; (on_goal 2 => decide))
      | (with_reducible apply State.withKeys_writes; (on_goal 2 => decide))
      | with_reducible apply WritesOpt.getD
      | with_reducible apply Writes.ite
      | split)
  | succ n ih =>
    have hz : Writes 17825792 x2 x2 := Writes.refl _ _
    unfold commitRound
    try dsimp only
    repeat' (first
      | (with_reducible refine Writes.step (g := 17825792) ih ?_ ?_; (on_goal 1 => decide))
      | with_reducible assumption
      | (with_reducible apply serveCommit_writes; (on_goal 2 => decide))
      | (with_reducible apply State.withKeys_writes; (on_goal 2 => decide))
      | with_reducible apply WritesOpt.getD
      | with_reducible apply Writes.ite
      | split)

theorem execCommitService_writes {wm : Nat} {z0 s : State} (wh : Writes wm z0 s) (we : 17825792 ||| wm = wm) : WritesOut wm z0
    (execCommitService s) := by
  refine WritesOut.step (g := 17825792) ?_ we wh
  clear wh we
  have hz : Writes 17825792 s s := Writes.refl _ _
  unfold execCommitService
  try dsimp only
  repeat' (first
    | with_reducible assumption
    | (with_reducible apply commitRound_writes; (on_goal 2 => decide))
    | (with_reducible apply serveCommit_writes; (on_goal 2 => decide))
    | with_reducible apply WritesOpt.getD
    | with_reducible apply WritesOut.next
    | with_reducible apply WritesOut.ite
    | split)

theorem commitJob_writes {job : Option Nat} {wm : Nat} {z0 s : State} (wh : Writes wm z0 s) (we : 2186302592 ||| wm = wm) : Writes wm z0
    (commitJob s job) := by
  refine Writes.step (g := 2186302592) ?_ we wh
  clear wh we
  have hz : Writes 2186302592 s s := Writes.refl _ _
  unfold commitJob
  try dsimp only
  repeat' (first
    | with_reducible assumption
    | (with_reducible apply finish_writes; (on_goal 2 => decide))
    | (with_reducible apply State.withJob_writes; (on_goal 2 => decide))
    | with_reducible apply Writes.ite
    | split)

theorem endDestroyer_writes {k : KSlot} {wm : Nat} {z0 s : State} (wh : Writes wm z0 s) (we : 2186302592 ||| wm = wm) : Writes wm z0
    (endDestroyer s k) := by
  refine Writes.step (g := 2186302592) ?_ we wh
  clear wh we
  have hz : Writes 2186302592 s s := Writes.refl _ _
  unfold endDestroyer
  try dsimp only
  repeat' (first
    | with_reducible assumption
    | (with_reducible apply finish_writes; (on_goal 2 => decide))
    | with_reducible apply Writes.ite
    | split)

theorem commitDurable_writes {c : KCommit} {addr : Nat} {wm : Nat} {z0 s : State} (wh : Writes wm z0 s) (we : 2186302592 ||| wm = wm) :
    Writes wm z0 (commitDurable s c addr) := by
  refine Writes.step (g := 2186302592) ?_ we wh
  clear wh we
  have hz : Writes 2186302592 s s := Writes.refl _ _
  unfold commitDurable
  try dsimp only
  repeat' (first
    | intro _
    | with_reducible assumption
    | (with_reducible apply endDestroyer_writes; (on_goal 2 => decide))
    | (with_reducible apply commitJob_writes; (on_goal 2 => decide))
    | (with_reducible apply applyRestrict_writes; (on_goal 2 => decide))
    | (with_reducible apply fillCache_writes; (on_goal 2 => decide))
    | (with_reducible apply freeKey_writes; (on_goal 2 => decide))
    | (with_reducible apply State.withSlot_writes; (on_goal 2 => decide))
    | (with_reducible apply State.withKeys_writes; (on_goal 2 => decide))
    | (with_reducible apply State.withJob_writes; (on_goal 2 => decide))
    | with_reducible apply Writes.ite
    | with_reducible apply Writes.foldl
    | split)

theorem execUseCountPage_writes {wm : Nat} {z0 s : State} (wh : Writes wm z0 s) (we : 17825792 ||| wm = wm) : WritesOut wm z0
    (execUseCountPage s) := by
  refine WritesOut.step (g := 17825792) ?_ we wh
  clear wh we
  have hz : Writes 17825792 s s := Writes.refl _ _
  unfold execUseCountPage
  try dsimp only
  repeat' (first
    | intro _
    | with_reducible assumption
    | (with_reducible apply vAppend_writes; (on_goal 2 => decide))
    | (with_reducible apply State.withSlot_writes; (on_goal 2 => decide))
    | (with_reducible apply State.withKeys_writes; (on_goal 2 => decide))
    | with_reducible apply WritesOut.next
    | with_reducible apply WritesOut.ite
    | with_reducible apply Writes.foldl)

theorem pageDurable_writes {items : List (Nat × Nat)} {wm : Nat} {z0 s : State} (wh : Writes wm z0 s) (we : 1048576 ||| wm = wm) : Writes
    wm z0 (pageDurable s items) := by
  refine Writes.step (g := 1048576) ?_ we wh
  clear wh we
  have hz : Writes 1048576 s s := Writes.refl _ _
  unfold pageDurable
  try dsimp only
  repeat' (first
    | intro _
    | with_reducible assumption
    | (with_reducible apply State.withSlot_writes; (on_goal 2 => decide))
    | with_reducible apply Writes.ite
    | with_reducible apply Writes.foldl)

theorem execKeyCacheFill_writes {slot : Nat} {copy1Ok : Bool} {copy2Ok : Bool} {wm : Nat} {z0 s : State} (wh : Writes wm z0 s) (we :
    3260044448 ||| wm = wm) : WritesOut wm z0 (execKeyCacheFill slot copy1Ok copy2Ok s) := by
  refine WritesOut.step (g := 3260044448) ?_ we wh
  clear wh we
  have hz : Writes 3260044448 s s := Writes.refl _ _
  unfold execKeyCacheFill
  try dsimp only
  repeat' (first
    | intro _
    | with_reducible assumption
    | (with_reducible apply checkEntry_writes; (on_goal 2 => decide))
    | (with_reducible apply damageSlot_writes; (on_goal 2 => decide))
    | (with_reducible apply fillCache_writes; (on_goal 2 => decide))
    | (with_reducible apply finish_writes; (on_goal 2 => decide))
    | (with_reducible apply State.bump_writes; (on_goal 2 => decide))
    | with_reducible apply WritesOut.next
    | with_reducible apply WritesOut.ite
    | with_reducible apply Writes.foldl)

theorem destroyVolatile_writes {wm : Nat} {z0 s : State} (wh : Writes wm z0 s) (we : 1048576 ||| wm = wm) : Writes wm z0 (destroyVolatile s) := by
  refine Writes.step (g := 1048576) ?_ we wh
  clear wh we
  have hz : Writes 1048576 s s := Writes.refl _ _
  unfold destroyVolatile
  try dsimp only
  repeat' (first
    | intro _
    | with_reducible assumption
    | (with_reducible apply freeKey_writes; (on_goal 2 => decide))
    | with_reducible apply Writes.foldl)

theorem wipeCache_writes {wm : Nat} {z0 s : State} (wh : Writes wm z0 s) (we : 1048576 ||| wm = wm) : Writes wm z0 (wipeCache s) := by
  refine Writes.step (g := 1048576) ?_ we wh
  clear wh we
  have hz : Writes 1048576 s s := Writes.refl _ _
  unfold wipeCache
  try dsimp only
  repeat' (first
    | with_reducible assumption
    | (with_reducible apply State.withKeys_writes; (on_goal 2 => decide)))

theorem abandonCommits_writes {wm : Nat} {z0 s : State} (wh : Writes wm z0 s) (we : 2203079808 ||| wm = wm) : Writes wm z0 (abandonCommits s) := by
  refine Writes.step (g := 2203079808) ?_ we wh
  clear wh we
  have hz : Writes 2203079808 s s := Writes.refl _ _
  unfold abandonCommits
  try dsimp only
  repeat' (first
    | intro _
    | with_reducible assumption
    | (with_reducible apply freeKey_writes; (on_goal 2 => decide))
    | (with_reducible apply finish_writes; (on_goal 2 => decide))
    | (with_reducible apply State.withVault_writes; (on_goal 2 => decide))
    | (with_reducible apply State.withKeys_writes; (on_goal 2 => decide))
    | with_reducible apply Writes.foldl)

theorem rebuildKeys_writes {wm : Nat} {z0 s : State} (wh : Writes wm z0 s) (we : 1048576 ||| wm = wm) : Writes wm z0 (rebuildKeys s) := by
  refine Writes.step (g := 1048576) ?_ we wh
  clear wh we
  have hz : Writes 1048576 s s := Writes.refl _ _
  unfold rebuildKeys
  try dsimp only
  repeat' (first
    | intro _
    | with_reducible assumption
    | (with_reducible apply freeKey_writes; (on_goal 2 => decide))
    | (with_reducible apply State.withKeys_writes; (on_goal 2 => decide))
    | with_reducible apply Writes.foldl)

end Sys2Proof.Machine
end

