-- ==== Sys2Proof/Laws/Writes3.lean ====
section
/-! SUPPORT. Which fields each operation can write (see Writes.lean), operation by operation: Intake, Squads, Access, TagMem, Modes, Guards, Volatile. -/

set_option linter.unusedTactic false
set_option linter.unreachableTactic false
set_option linter.unusedVariables false

namespace Sys2Proof.Machine

open Sys2Proof

/-! ### Intake -/

theorem giveContext_writes {id : Nat} {wm : Nat} {z0 s : State} (wh : Writes wm z0 s) (we : 1024 ||| wm = wm) : Writes wm z0 (giveContext s id) := by
  refine Writes.step (g := 1024) ?_ we wh
  clear wh we
  have hz : Writes 1024 s s := Writes.refl _ _
  unfold giveContext
  try dsimp only
  repeat' (first
    | with_reducible assumption
    | (with_reducible apply State.withJob_writes; (on_goal 2 => decide)))

theorem letIn_writes {id : Nat} {wm : Nat} {z0 s : State} (wh : Writes wm z0 s) (we : 18257843840 ||| wm = wm) : Writes wm z0 (letIn s id) := by
  refine Writes.step (g := 18257843840) ?_ we wh
  clear wh we
  have hz : Writes 18257843840 s s := Writes.refl _ _
  unfold letIn
  try dsimp only
  repeat' (first
    | with_reducible assumption
    | (with_reducible apply giveContext_writes; (on_goal 2 => decide))
    | (with_reducible apply completeAtIntake_writes; (on_goal 2 => decide))
    | (with_reducible apply State.bumps_writes; (on_goal 2 => decide))
    | with_reducible apply Writes.ite)

theorem execContextFreed_writes {wm : Nat} {z0 s : State} (wh : Writes wm z0 s) (we : 9216 ||| wm = wm) : WritesOut wm z0 (execContextFreed s) := by
  refine WritesOut.step (g := 9216) ?_ we wh
  clear wh we
  have hz : Writes 9216 s s := Writes.refl _ _
  unfold execContextFreed
  try dsimp only
  repeat' (first
    | with_reducible assumption
    | (with_reducible apply giveContext_writes; (on_goal 2 => decide))
    | with_reducible apply WritesOut.next
    | (with_reducible refine Writes.upd_disp ?_ ?_; (on_goal 2 => decide); with_reducible assumption)
    | split)

theorem arrive_writes {core : Nat} {p : Nat} {r : Nat} {e : Nat × BitVec 512} {wm : Nat} {z0 s : State} (wh : Writes wm z0 s) (we :
    18257845888 ||| wm = wm) : Writes wm z0 (arrive core p r s e) := by
  refine Writes.step (g := 18257845888) ?_ we wh
  clear wh we
  have hz : Writes 18257845888 s s := Writes.refl _ _
  unfold arrive
  try dsimp only
  repeat' (first
    | (with_reducible apply letIn_writes; (on_goal 2 => decide))
    | (with_reducible apply completeAtIntake_writes; (on_goal 2 => decide))
    | (with_reducible apply State.withRing_writes; (on_goal 2 => decide))
    | with_reducible apply Writes.ite
    | (refine Writes.lit ?_ (.inr rfl) (.inr rfl) (.inr rfl) (.inr rfl) (.inr rfl) (.inr rfl) (.inr rfl) (.inr rfl) (.inr rfl) (.inr rfl) (.inl (by decide)) (.inl (by decide)) (.inr rfl) (.inr rfl) (.inr rfl) (.inr rfl) (.inr rfl) (.inr rfl) (.inr rfl) (.inr rfl) (.inr rfl) (.inr rfl) (.inr rfl) (.inr rfl) (.inr rfl) (.inr rfl) (.inr rfl) (.inr rfl) (.inr rfl) (.inr rfl) (.inr rfl) (.inr rfl) (.inr rfl) (.inr rfl) (.inr rfl); with_reducible assumption))

theorem execDescriptorArrival_writes {core : Nat} {descs : List (BitVec 512)} {wm : Nat} {z0 s : State} (wh : Writes wm z0 s) (we :
    18257845888 ||| wm = wm) : WritesOut wm z0 (execDescriptorArrival core descs s) := by
  refine WritesOut.step (g := 18257845888) ?_ we wh
  clear wh we
  have hz : Writes 18257845888 s s := Writes.refl _ _
  unfold execDescriptorArrival
  try dsimp only
  repeat' (first
    | intro _
    | with_reducible assumption
    | (with_reducible apply arrive_writes; (on_goal 2 => decide))
    | (with_reducible apply State.withIntake_writes; (on_goal 2 => decide))
    | with_reducible apply WritesOut.next
    | with_reducible apply WritesOut.ite
    | with_reducible apply Writes.foldl
    | split)

theorem drawUnits_writes {c : Nat} {n : Nat} {part : Option Nat} {wm : Nat} {z0 s : State} (wh : Writes wm z0 s) (we : 4194304 ||| wm = wm)
    : Writes wm z0 (drawUnits s c n part) := by
  refine Writes.step (g := 4194304) ?_ we wh
  clear wh we
  have hz : Writes 4194304 s s := Writes.refl _ _
  unfold drawUnits
  try dsimp only
  repeat' (first
    | with_reducible assumption
    | (with_reducible apply State.withChan_writes; (on_goal 2 => decide)))

theorem execChannelGrant_writes {wm : Nat} {z0 s : State} (wh : Writes wm z0 s) (we : 4195456 ||| wm = wm) : WritesOut wm z0
    (execChannelGrant s) := by
  refine WritesOut.step (g := 4195456) ?_ we wh
  clear wh we
  have hz : Writes 4195456 s s := Writes.refl _ _
  unfold execChannelGrant
  try dsimp only
  repeat' (first
    | with_reducible assumption
    | (with_reducible apply drawUnits_writes; (on_goal 2 => decide))
    | (with_reducible apply issueRead_writes; (on_goal 2 => decide))
    | (with_reducible apply State.withDma_writes; (on_goal 2 => decide))
    | (with_reducible apply State.withJob_writes; (on_goal 2 => decide))
    | with_reducible apply WritesOut.next
    | with_reducible apply WritesOut.ite
    | with_reducible apply Writes.ite
    | split)

/-! ### Squads -/

theorem ownershipWipe_writes {q : Nat} {wm : Nat} {z0 s : State} (wh : Writes wm z0 s) (we : 3254779904 ||| wm = wm) : Writes wm z0
    (ownershipWipe s q) := by
  refine Writes.step (g := 3254779904) ?_ we wh
  clear wh we
  have hz : Writes 3254779904 s s := Writes.refl _ _
  unfold ownershipWipe
  try dsimp only
  repeat' (first
    | with_reducible assumption
    | (with_reducible apply clearSquad_writes; (on_goal 2 => decide))
    | (with_reducible apply State.bump_writes; (on_goal 2 => decide)))

theorem ownSquad_writes {q : Nat} {p : Nat} {wm : Nat} {z0 s : State} (wh : Writes wm z0 s) (we : 3254796288 ||| wm = wm) : Writes wm z0
    (ownSquad s q p) := by
  refine Writes.step (g := 3254796288) ?_ we wh
  clear wh we
  have hz : Writes 3254796288 s s := Writes.refl _ _
  unfold ownSquad
  try dsimp only
  repeat' (first
    | with_reducible assumption
    | (with_reducible apply ownershipWipe_writes; (on_goal 2 => decide))
    | (with_reducible apply State.withSquad_writes; (on_goal 2 => decide))
    | with_reducible apply Writes.ite)

theorem firstDispatch_writes {id : Nat} {wm : Nat} {z0 s : State} (wh : Writes wm z0 s) (we : 22016 ||| wm = wm) : Writes wm z0
    (firstDispatch s id) := by
  refine Writes.step (g := 22016) ?_ we wh
  clear wh we
  have hz : Writes 22016 s s := Writes.refl _ _
  unfold firstDispatch
  try dsimp only
  repeat' (first
    | with_reducible assumption
    | (with_reducible apply toEngine_writes; (on_goal 2 => decide))
    | (with_reducible apply State.withLanes_writes; (on_goal 2 => decide))
    | (with_reducible apply State.withJob_writes; (on_goal 2 => decide))
    | with_reducible apply Writes.ite)

theorem reservePark_writes {id : Nat} {wm : Nat} {z0 s : State} (wh : Writes wm z0 s) (we : 17408 ||| wm = wm) : WritesOpt wm z0
    (reservePark s id) := by
  refine WritesOpt.step (g := 17408) ?_ we wh
  clear wh we
  have hz : Writes 17408 s s := Writes.refl _ _
  unfold reservePark
  try dsimp only
  repeat' (first
    | with_reducible assumption
    | (with_reducible apply State.withLanes_writes; (on_goal 2 => decide))
    | (with_reducible apply State.withJob_writes; (on_goal 2 => decide))
    | with_reducible exact WritesOpt.none
    | with_reducible apply WritesOpt.some
    | split)

theorem failLoad_writes {id : Nat} {c : Nat} {wm : Nat} {z0 s : State} (wh : Writes wm z0 s) (we : 2186302594 ||| wm = wm) : Writes wm z0
    (failLoad s id c) := by
  refine Writes.step (g := 2186302594) ?_ we wh
  clear wh we
  have hz : Writes 2186302594 s s := Writes.refl _ _
  unfold failLoad
  try dsimp only
  repeat' (first
    | with_reducible assumption
    | (with_reducible apply finishWith_writes; (on_goal 2 => decide))
    | (with_reducible apply State.drawNat_writes; (on_goal 2 => decide))
    | with_reducible apply Writes.ite
    | with_reducible apply WritesSnd.snd)

theorem loadForSquad_writes {id : Nat} {wm : Nat} {z0 s : State} (wh : Writes wm z0 s) (we : 3260044450 ||| wm = wm) : Writes wm z0
    (loadForSquad s id) := by
  refine Writes.step (g := 3260044450) ?_ we wh
  clear wh we
  have hz : Writes 3260044450 s s := Writes.refl _ _
  unfold loadForSquad
  try dsimp only
  repeat' (first
    | with_reducible assumption
    | (with_reducible apply failLoad_writes; (on_goal 2 => decide))
    | (with_reducible apply holdJob_writes; (on_goal 2 => decide))
    | (with_reducible apply tryLoad_writes; (on_goal 2 => decide))
    | (with_reducible apply State.withJob_writes; (on_goal 2 => decide))
    | with_reducible apply Writes.ite
    | with_reducible apply WritesSnd.snd)

theorem putImage_writes {u : Nat} {i : LaneImage} {wm : Nat} {z0 s : State} (wh : Writes wm z0 s) (we : 2181038080 ||| wm = wm) : Writes wm
    z0 (putImage s u i) := by
  refine Writes.step (g := 2181038080) ?_ we wh
  clear wh we
  have hz : Writes 2181038080 s s := Writes.refl _ _
  unfold putImage
  try dsimp only
  repeat' (first
    | (with_reducible apply State.withUnit_writes; (on_goal 2 => decide))
    | (with_reducible refine Writes.upd_mem ?_ ?_; (on_goal 2 => decide); with_reducible assumption))

theorem checkpoint_writes {id : Nat} {wm : Nat} {z0 s : State} (wh : Writes wm z0 s) (we : 33554432 ||| wm = wm) : Writes wm z0 (checkpoint
    s id) := by
  refine Writes.step (g := 33554432) ?_ we wh
  clear wh we
  have hz : Writes 33554432 s s := Writes.refl _ _
  unfold checkpoint
  try dsimp only
  repeat' (first
    | intro _
    | with_reducible assumption
    | (with_reducible apply State.withUnit_writes; (on_goal 2 => decide))
    | with_reducible apply Writes.foldl)

theorem tagContexts_writes {id : Nat} {wm : Nat} {z0 s : State} (wh : Writes wm z0 s) (we : 33554432 ||| wm = wm) : Writes wm z0
    (tagContexts s id) := by
  refine Writes.step (g := 33554432) ?_ we wh
  clear wh we
  have hz : Writes 33554432 s s := Writes.refl _ _
  unfold tagContexts
  try dsimp only
  repeat' (first
    | intro _
    | with_reducible assumption
    | (with_reducible apply State.withUnit_writes; (on_goal 2 => decide))
    | with_reducible apply Writes.foldl)

theorem unpark_writes {id : Nat} {wm : Nat} {z0 s : State} (wh : Writes wm z0 s) (we : 2181055488 ||| wm = wm) : Writes wm z0 (unpark s id) := by
  refine Writes.step (g := 2181055488) ?_ we wh
  clear wh we
  have hz : Writes 2181055488 s s := Writes.refl _ _
  unfold unpark
  try dsimp only
  repeat' (first
    | intro _
    | with_reducible assumption
    | (with_reducible apply putImage_writes; (on_goal 2 => decide))
    | (with_reducible apply State.withLanes_writes; (on_goal 2 => decide))
    | (with_reducible apply State.withJob_writes; (on_goal 2 => decide))
    | with_reducible apply Writes.foldl
    | split)

theorem parkJob_writes {id : Nat} {k : Nat} {wm : Nat} {z0 s : State} (wh : Writes wm z0 s) (we : 2181055488 ||| wm = wm) : Writes wm z0
    (parkJob s id k) := by
  refine Writes.step (g := 2181055488) ?_ we wh
  clear wh we
  have hz : Writes 2181055488 s s := Writes.refl _ _
  unfold parkJob
  try dsimp only
  repeat' (first
    | with_reducible assumption
    | (with_reducible apply leaveSquads_writes; (on_goal 2 => decide))
    | (with_reducible apply State.withLanes_writes; (on_goal 2 => decide))
    | (with_reducible apply State.withJob_writes; (on_goal 2 => decide)))

theorem seatJob_writes {id : Nat} {wm : Nat} {z0 s : State} (wh : Writes wm z0 s) (we : 3260044450 ||| wm = wm) : Writes wm z0 (seatJob s id) := by
  refine Writes.step (g := 3260044450) ?_ we wh
  clear wh we
  have hz : Writes 3260044450 s s := Writes.refl _ _
  unfold seatJob
  try dsimp only
  repeat' (first
    | with_reducible assumption
    | (with_reducible apply loadForSquad_writes; (on_goal 2 => decide))
    | (with_reducible apply State.withJob_writes; (on_goal 2 => decide))
    | with_reducible apply Writes.ite)

theorem putOnSquad_writes {id : Nat} {q : Nat} {wm : Nat} {z0 s : State} (wh : Writes wm z0 s) (we : 3260044962 ||| wm = wm) : Writes wm z0
    (putOnSquad s id q) := by
  refine Writes.step (g := 3260044962) ?_ we wh
  clear wh we
  have hz : Writes 3260044962 s s := Writes.refl _ _
  unfold putOnSquad
  try dsimp only
  repeat' (first
    | with_reducible assumption
    | (with_reducible apply seatJob_writes; (on_goal 2 => decide))
    | (with_reducible apply unpark_writes; (on_goal 2 => decide))
    | (with_reducible apply tagContexts_writes; (on_goal 2 => decide))
    | (with_reducible apply checkpoint_writes; (on_goal 2 => decide))
    | (with_reducible apply firstDispatch_writes; (on_goal 2 => decide))
    | (with_reducible apply ownSquad_writes; (on_goal 2 => decide))
    | (with_reducible apply State.withSquad_writes; (on_goal 2 => decide))
    | (with_reducible apply State.withJob_writes; (on_goal 2 => decide))
    | split)

theorem reserveGang_writes {id : Nat} {l : List Nat} {wm : Nat} {z0 s : State} (wh : Writes wm z0 s) (we : 22016 ||| wm = wm) : Writes wm
    z0 (reserveGang s id l) := by
  refine Writes.step (g := 22016) ?_ we wh
  clear wh we
  have hz : Writes 22016 s s := Writes.refl _ _
  unfold reserveGang
  try dsimp only
  repeat' (first
    | intro _
    | with_reducible assumption
    | (with_reducible apply firstDispatch_writes; (on_goal 2 => decide))
    | (with_reducible apply State.withSquad_writes; (on_goal 2 => decide))
    | (with_reducible apply State.withJob_writes; (on_goal 2 => decide))
    | with_reducible apply Writes.foldl)

theorem place_writes {id : Nat} {squad : Nat} {wm : Nat} {z0 s : State} (wh : Writes wm z0 s) (we : 3260044962 ||| wm = wm) : WritesOpt wm
    z0 (place s id squad) := by
  refine WritesOpt.step (g := 3260044962) ?_ we wh
  clear wh we
  have hz : Writes 3260044962 s s := Writes.refl _ _
  unfold place
  try dsimp only
  repeat' (first
    | intro _
    | with_reducible assumption
    | (with_reducible apply reserveGang_writes; (on_goal 2 => decide))
    | (with_reducible apply putOnSquad_writes; (on_goal 2 => decide))
    | (with_reducible apply reservePark_writes; (on_goal 2 => decide))
    | with_reducible exact WritesOpt.none
    | with_reducible apply WritesOpt.some
    | with_reducible apply WritesOpt.map
    | with_reducible apply Writes.ite
    | (with_reducible apply WritesOpt.of_eq; with_reducible assumption)
    | split)

theorem grant_writes {wm : Nat} {z0 s : State} (wh : Writes wm z0 s) (we : 8192 ||| wm = wm) : WritesOptSnd wm z0 (grant s) := by
  refine WritesOptSnd.step (g := 8192) ?_ we wh
  clear wh we
  have hz : Writes 8192 s s := Writes.refl _ _
  unfold grant
  try dsimp only
  repeat' (first
    | with_reducible assumption
    | with_reducible exact WritesOptSnd.none
    | with_reducible apply WritesOptSnd.some
    | (with_reducible refine Writes.upd_disp ?_ ?_; (on_goal 2 => decide); with_reducible assumption)
    | split)

theorem chargeDispatch_writes {p : Nat} {cost : Nat} {wm : Nat} {z0 s : State} (wh : Writes wm z0 s) (we : 8192 ||| wm = wm) : Writes wm z0
    (chargeDispatch s p cost) := by
  refine Writes.step (g := 8192) ?_ we wh
  clear wh we
  have hz : Writes 8192 s s := Writes.refl _ _
  unfold chargeDispatch
  try dsimp only
  repeat' (first
    | with_reducible apply Writes.ite
    | (with_reducible refine Writes.upd_disp ?_ ?_; (on_goal 2 => decide); with_reducible assumption))

theorem execDispatch_writes {squad : Nat} {_opa : Bytes} {_opb : Bytes} {wm : Nat} {z0 s : State} (wh : Writes wm z0 s) (we : 3260053154
    ||| wm = wm) : WritesOut wm z0 (execDispatch squad _opa _opb s) := by
  refine WritesOut.step (g := 3260053154) ?_ we wh
  clear wh we
  have hz : Writes 3260053154 s s := Writes.refl _ _
  unfold execDispatch
  try dsimp only
  repeat' (first
    | with_reducible assumption
    | (with_reducible apply chargeDispatch_writes; (on_goal 2 => decide))
    | (with_reducible apply grant_writes; (on_goal 2 => decide))
    | (with_reducible apply place_writes; (on_goal 2 => decide))
    | with_reducible apply WritesOpt.getD
    | with_reducible apply WritesOut.next
    | with_reducible apply WritesOut.ite
    | (with_reducible apply WritesOpt.of_eq; with_reducible assumption)
    | (with_reducible apply WritesOptSnd.of_eq; with_reducible assumption)
    | split)

theorem execGangSliceStart_writes {job : Nat} {wm : Nat} {z0 s : State} (wh : Writes wm z0 s) (we : 3260044450 ||| wm = wm) : WritesOut wm
    z0 (execGangSliceStart job s) := by
  refine WritesOut.step (g := 3260044450) ?_ we wh
  clear wh we
  have hz : Writes 3260044450 s s := Writes.refl _ _
  unfold execGangSliceStart
  try dsimp only
  repeat' (first
    | intro _
    | with_reducible assumption
    | (with_reducible apply seatJob_writes; (on_goal 2 => decide))
    | (with_reducible apply unpark_writes; (on_goal 2 => decide))
    | (with_reducible apply tagContexts_writes; (on_goal 2 => decide))
    | (with_reducible apply checkpoint_writes; (on_goal 2 => decide))
    | (with_reducible apply ownSquad_writes; (on_goal 2 => decide))
    | (with_reducible apply State.withSquad_writes; (on_goal 2 => decide))
    | (with_reducible apply State.withJob_writes; (on_goal 2 => decide))
    | with_reducible apply WritesOut.next
    | with_reducible apply WritesOut.ite
    | with_reducible apply Writes.foldl)

theorem execStagingReadDone_writes {job : Nat} {opa : Bytes} {opb : Bytes} {wm : Nat} {z0 s : State} (wh : Writes wm z0 s) (we : 3260044450
    ||| wm = wm) : WritesOut wm z0 (execStagingReadDone job opa opb s) := by
  refine WritesOut.step (g := 3260044450) ?_ we wh
  clear wh we
  have hz : Writes 3260044450 s s := Writes.refl _ _
  unfold execStagingReadDone
  try dsimp only
  repeat' (first
    | with_reducible assumption
    | (with_reducible apply loadForSquad_writes; (on_goal 2 => decide))
    | (with_reducible apply returnChannel_writes; (on_goal 2 => decide))
    | (with_reducible apply State.withJob_writes; (on_goal 2 => decide))
    | with_reducible apply WritesOut.next
    | with_reducible apply WritesOut.ite)

/-! ### Access -/

theorem State.withSess_writes {x : SessId} {f : Sess → Sess} {wm : Nat} {z0 s : State} (wh : Writes wm z0 s) (we : 524288 ||| wm = wm) :
    Writes wm z0 (State.withSess s x f) := by
  refine Writes.step (g := 524288) ?_ we wh
  clear wh we
  have hz : Writes 524288 s s := Writes.refl _ _
  unfold State.withSess
  try dsimp only
  repeat' (first
    | with_reducible assumption
    | (with_reducible apply State.withMgmt_writes; (on_goal 2 => decide))
    | split)

theorem reply_writes {x : SessId} {msg : Nat} {req : BitVec 16} {body : Bytes} {wm : Nat} {z0 s : State} (wh : Writes wm z0 s) (we : 524416
    ||| wm = wm) : Writes wm z0 (reply s x msg req body) := by
  refine Writes.step (g := 524416) ?_ we wh
  clear wh we
  have hz : Writes 524416 s s := Writes.refl _ _
  unfold reply
  try dsimp only
  repeat' (first
    | with_reducible assumption
    | (with_reducible apply State.withSess_writes; (on_goal 2 => decide))
    | (with_reducible apply State.withMgmt_writes; (on_goal 2 => decide))
    | (with_reducible apply State.msix_writes; (on_goal 2 => decide))
    | split)

theorem replyStatus_writes {x : SessId} {msg : Nat} {req : BitVec 16} {st : Nat} {rest : Bytes} {wm : Nat} {z0 s : State} (wh : Writes wm
    z0 s) (we : 524416 ||| wm = wm) : Writes wm z0 (replyStatus s x msg req st rest) := by
  refine Writes.step (g := 524416) ?_ we wh
  clear wh we
  have hz : Writes 524416 s s := Writes.refl _ _
  unfold replyStatus
  try dsimp only
  repeat' (first
    | with_reducible assumption
    | (with_reducible apply reply_writes; (on_goal 2 => decide)))

theorem onMsg_writes {x : SessId} {req : BitVec 16} {f : State → State} {s z0 : State} {wm : Nat} (hm : 524288 ||| wm = wm) (wh : Writes wm
    z0 s) (hf : ∀ y0, Writes wm z0 y0 → Writes wm z0 (f y0)) :
    WritesOut wm z0 (onMsg s x req f) := by
  unfold onMsg
  try dsimp only
  repeat' (first
    | with_reducible assumption
    | with_reducible apply hf
    | (with_reducible apply State.withSess_writes; (on_goal 2 => (first | decide | exact Writes.sub (by decide) hm)))
    | with_reducible apply WritesOut.next
    | with_reducible apply WritesOut.ite
    | split)

theorem replyRead_writes {x : SessId} {req : BitVec 16} {v : Bytes} {off : Nat} {len : Nat} {wm : Nat} {z0 s : State} (wh : Writes wm z0 s)
    (we : 524416 ||| wm = wm) : Writes wm z0 (replyRead s x req v off len) := by
  refine Writes.step (g := 524416) ?_ we wh
  clear wh we
  have hz : Writes 524416 s s := Writes.refl _ _
  unfold replyRead
  try dsimp only
  repeat' (first
    | with_reducible assumption
    | (with_reducible apply replyStatus_writes; (on_goal 2 => decide))
    | with_reducible apply Writes.ite)

theorem countRefusal_writes {st : Nat} {rwp : Bool} {wm : Nat} {z0 s : State} (wh : Writes wm z0 s) (we : 1073741824 ||| wm = wm) : Writes
    wm z0 (countRefusal s st rwp) := by
  refine Writes.step (g := 1073741824) ?_ we wh
  clear wh we
  have hz : Writes 1073741824 s s := Writes.refl _ _
  unfold countRefusal
  try dsimp only
  repeat' (first
    | with_reducible assumption
    | (with_reducible apply State.bump_writes; (on_goal 2 => decide))
    | with_reducible apply Writes.ite)

theorem actWrite_writes {x : SessId} {req : BitVec 16} {key : Nat} {v : Bytes} {cond : Bool} {busy : Bool} {f : State → State} {s z0 :
    State} {wm : Nat} (hm : 1074266240 ||| wm = wm) (wh : Writes wm z0 s) (hf : ∀ y0, Writes wm z0 y0 → Writes wm z0 (f y0)) :
    WritesOut wm z0 (actWrite s x req key v cond busy f) := by
  unfold actWrite
  try dsimp only
  repeat' (first
    | intro _
    | with_reducible assumption
    | with_reducible apply hf
    | (with_reducible apply countRefusal_writes; (on_goal 2 => (first | decide | exact Writes.sub (by decide) hm)))
    | (with_reducible apply onMsg_writes; (on_goal 1 => (first | decide | exact Writes.sub (by decide) hm)))
    | (with_reducible apply replyStatus_writes; (on_goal 2 => (first | decide | exact Writes.sub (by decide) hm)))
    | with_reducible apply Writes.ite)

/-! ### TagMem -/

theorem State.withTag_writes {f : Tag → Tag} {wm : Nat} {z0 s : State} (wh : Writes wm z0 s) (we : 134217728 ||| wm = wm) : Writes wm z0
    (State.withTag s f) := by
  refine Writes.step (g := 134217728) ?_ we wh
  clear wh we
  have hz : Writes 134217728 s s := Writes.refl _ _
  unfold State.withTag
  try dsimp only
  repeat' (first
    | (with_reducible refine Writes.upd_tag ?_ ?_; (on_goal 2 => decide); with_reducible assumption))

theorem tagAdd_writes {n : Nat} {a : Nat} {wm : Nat} {z0 s : State} (wh : Writes wm z0 s) (we : 134217728 ||| wm = wm) : WritesOpt wm z0
    (tagAdd s n a) := by
  refine WritesOpt.step (g := 134217728) ?_ we wh
  clear wh we
  have hz : Writes 134217728 s s := Writes.refl _ _
  unfold tagAdd
  try dsimp only
  repeat' (first
    | with_reducible assumption
    | (with_reducible apply State.withTag_writes; (on_goal 2 => decide))
    | with_reducible exact WritesOpt.none
    | with_reducible apply WritesOpt.some
    | split)

theorem tagTear_writes {n : Nat} {wm : Nat} {z0 s : State} (wh : Writes wm z0 s) (we : 134217730 ||| wm = wm) : Writes wm z0 (tagTear s n) := by
  refine Writes.step (g := 134217730) ?_ we wh
  clear wh we
  have hz : Writes 134217730 s s := Writes.refl _ _
  unfold tagTear
  try dsimp only
  repeat' (first
    | with_reducible assumption
    | (with_reducible apply State.withTag_writes; (on_goal 2 => decide))
    | (with_reducible apply State.drawNat_writes; (on_goal 2 => decide))
    | with_reducible apply WritesSnd.snd)

theorem refreshTag_writes {wm : Nat} {z0 s : State} (wh : Writes wm z0 s) (we : 134217728 ||| wm = wm) : Writes wm z0 (refreshTag s) := by
  refine Writes.step (g := 134217728) ?_ we wh
  clear wh we
  have hz : Writes 134217728 s s := Writes.refl _ _
  unfold refreshTag
  try dsimp only
  repeat' (first
    | with_reducible assumption
    | (with_reducible apply State.withTag_writes; (on_goal 2 => decide))
    | with_reducible apply Writes.ite)

/-! ### Modes -/

theorem redispatch_writes {id : Nat} {wm : Nat} {z0 s : State} (wh : Writes wm z0 s) (we : 2185249920 ||| wm = wm) : Writes wm z0
    (redispatch s id) := by
  refine Writes.step (g := 2185249920) ?_ we wh
  clear wh we
  have hz : Writes 2185249920 s s := Writes.refl _ _
  unfold redispatch
  try dsimp only
  repeat' (first
    | with_reducible assumption
    | (with_reducible apply returnChannel_writes; (on_goal 2 => decide))
    | (with_reducible apply dropImage_writes; (on_goal 2 => decide))
    | (with_reducible apply leaveSquads_writes; (on_goal 2 => decide))
    | (with_reducible apply State.withJob_writes; (on_goal 2 => decide))
    | with_reducible apply Writes.ite)

theorem unbind_writes {id : Nat} {wm : Nat} {z0 s : State} (wh : Writes wm z0 s) (we : 1024 ||| wm = wm) : Writes wm z0 (unbind s id) := by
  refine Writes.step (g := 1024) ?_ we wh
  clear wh we
  have hz : Writes 1024 s s := Writes.refl _ _
  unfold unbind
  try dsimp only
  repeat' (first
    | with_reducible assumption
    | (with_reducible apply State.withJob_writes; (on_goal 2 => decide))
    | with_reducible apply Writes.ite)

theorem strikeSquad_writes {q : Nat} {wm : Nat} {z0 s : State} (wh : Writes wm z0 s) (we : 2185249968 ||| wm = wm) : Writes wm z0
    (strikeSquad s q) := by
  refine Writes.step (g := 2185249968) ?_ we wh
  clear wh we
  have hz : Writes 2185249968 s s := Writes.refl _ _
  unfold strikeSquad
  try dsimp only
  repeat' (first
    | intro _
    | with_reducible assumption
    | (with_reducible apply redispatch_writes; (on_goal 2 => decide))
    | (with_reducible apply State.withSquad_writes; (on_goal 2 => decide))
    | (with_reducible apply State.present_writes; (on_goal 2 => decide))
    | (with_reducible apply strikeIsl_writes; (on_goal 2 => decide))
    | with_reducible apply Writes.foldl)

theorem strikeEngine_writes {e : Nat} {wm : Nat} {z0 s : State} (wh : Writes wm z0 s) (we : 1072 ||| wm = wm) : Writes wm z0 (strikeEngine s e) := by
  refine Writes.step (g := 1072) ?_ we wh
  clear wh we
  have hz : Writes 1072 s s := Writes.refl _ _
  unfold strikeEngine
  try dsimp only
  repeat' (first
    | intro _
    | with_reducible assumption
    | (with_reducible apply unbind_writes; (on_goal 2 => decide))
    | (with_reducible apply State.present_writes; (on_goal 2 => decide))
    | (with_reducible apply strikeIsl_writes; (on_goal 2 => decide))
    | with_reducible apply Writes.foldl)

theorem loseSquad_writes {q : Nat} {cause : Nat} {wm : Nat} {z0 s : State} (wh : Writes wm z0 s) (we : 2185249968 ||| wm = wm) : Writes wm
    z0 (loseSquad s q cause) := by
  refine Writes.step (g := 2185249968) ?_ we wh
  clear wh we
  have hz : Writes 2185249968 s s := Writes.refl _ _
  unfold loseSquad
  try dsimp only
  repeat' (first
    | intro _
    | with_reducible assumption
    | (with_reducible apply redispatch_writes; (on_goal 2 => decide))
    | (with_reducible apply clearSquad_writes; (on_goal 2 => decide))
    | (with_reducible apply State.withSquad_writes; (on_goal 2 => decide))
    | (with_reducible apply State.event_writes; (on_goal 2 => decide))
    | (with_reducible apply State.present_writes; (on_goal 2 => decide))
    | (with_reducible apply State.setIsl_writes; (on_goal 2 => decide))
    | with_reducible apply Writes.ite
    | with_reducible apply Writes.foldl)

theorem loseEngine_writes {e : Nat} {cause : Nat} {wm : Nat} {z0 s : State} (wh : Writes wm z0 s) (we : 1072 ||| wm = wm) : Writes wm z0
    (loseEngine s e cause) := by
  refine Writes.step (g := 1072) ?_ we wh
  clear wh we
  have hz : Writes 1072 s s := Writes.refl _ _
  unfold loseEngine
  try dsimp only
  repeat' (first
    | intro _
    | with_reducible assumption
    | (with_reducible apply unbind_writes; (on_goal 2 => decide))
    | (with_reducible apply State.event_writes; (on_goal 2 => decide))
    | (with_reducible apply State.setIsl_writes; (on_goal 2 => decide))
    | with_reducible apply Writes.ite
    | with_reducible apply Writes.foldl)

theorem strikeLean_writes {wm : Nat} {z0 s : State} (wh : Writes wm z0 s) (we : 2185250032 ||| wm = wm) : Writes wm z0 (strikeLean s) := by
  refine Writes.step (g := 2185250032) ?_ we wh
  clear wh we
  have hz : Writes 2185250032 s s := Writes.refl _ _
  unfold strikeLean
  try dsimp only
  repeat' (first
    | intro _
    | with_reducible assumption
    | (with_reducible apply strikeEngine_writes; (on_goal 2 => decide))
    | (with_reducible apply strikeSquad_writes; (on_goal 2 => decide))
    | (with_reducible apply State.withMode_writes; (on_goal 2 => decide))
    | with_reducible apply Writes.foldl)

theorem hoistLean_writes {wm : Nat} {z0 s : State} (wh : Writes wm z0 s) (we : 33570928 ||| wm = wm) : Writes wm z0 (hoistLean s) := by
  refine Writes.step (g := 33570928) ?_ we wh
  clear wh we
  have hz : Writes 33570928 s s := Writes.refl _ _
  unfold hoistLean
  try dsimp only
  repeat' (first
    | intro _
    | with_reducible assumption
    | (with_reducible apply State.withVerb_writes; (on_goal 2 => decide))
    | (with_reducible apply State.withSquad_writes; (on_goal 2 => decide))
    | (with_reducible apply State.withMode_writes; (on_goal 2 => decide))
    | (with_reducible apply State.present_writes; (on_goal 2 => decide))
    | (with_reducible apply hoistIsl_writes; (on_goal 2 => decide))
    | with_reducible apply Writes.foldl)

theorem enterMode_writes {m : Nat} {forced : Bool} {cause : Nat} {wm : Nat} {z0 s : State} (wh : Writes wm z0 s) (we : 1208516832 ||| wm =
    wm) : Writes wm z0 (enterMode s m forced cause) := by
  refine Writes.step (g := 1208516832) ?_ we wh
  clear wh we
  have hz : Writes 1208516832 s s := Writes.refl _ _
  unfold enterMode
  try dsimp only
  repeat' (first
    | with_reducible assumption
    | (with_reducible apply refreshTag_writes; (on_goal 2 => decide))
    | (with_reducible apply noteFlag_writes; (on_goal 2 => decide))
    | (with_reducible apply State.withMode_writes; (on_goal 2 => decide))
    | (with_reducible apply State.notify_writes; (on_goal 2 => decide))
    | (with_reducible apply State.msix_writes; (on_goal 2 => decide))
    | (with_reducible apply State.event_writes; (on_goal 2 => decide))
    | (with_reducible apply State.present_writes; (on_goal 2 => decide))
    | (with_reducible apply State.bump_writes; (on_goal 2 => decide))
    | with_reducible apply Writes.ite)

theorem limit60_writes {on : Bool} {wm : Nat} {z0 s : State} (wh : Writes wm z0 s) (we : 1107296278 ||| wm = wm) : Writes wm z0 (limit60 s on) := by
  refine Writes.step (g := 1107296278) ?_ we wh
  clear wh we
  have hz : Writes 1107296278 s s := Writes.refl _ _
  unfold limit60
  try dsimp only
  repeat' (first
    | with_reducible assumption
    | (with_reducible apply State.withPower_writes; (on_goal 2 => decide))
    | (with_reducible apply setThrottle_writes; (on_goal 2 => decide))
    | (with_reducible apply State.gset_writes; (on_goal 2 => decide)))

theorem leanOn_writes {cause : Nat} {wm : Nat} {z0 s : State} (wh : Writes wm z0 s) (we : 3258991862 ||| wm = wm) : Writes wm z0 (leanOn s
    cause) := by
  refine Writes.step (g := 3258991862) ?_ we wh
  clear wh we
  have hz : Writes 3258991862 s s := Writes.refl _ _
  unfold leanOn
  try dsimp only
  repeat' (first
    | with_reducible assumption
    | (with_reducible apply limit60_writes; (on_goal 2 => decide))
    | (with_reducible apply strikeLean_writes; (on_goal 2 => decide))
    | (with_reducible apply State.gset_writes; (on_goal 2 => decide)))

theorem leanOff_writes {wm : Nat} {z0 s : State} (wh : Writes wm z0 s) (we : 1107312758 ||| wm = wm) : Writes wm z0 (leanOff s) := by
  refine Writes.step (g := 1107312758) ?_ we wh
  clear wh we
  have hz : Writes 1107312758 s s := Writes.refl _ _
  unfold leanOff
  try dsimp only
  repeat' (first
    | with_reducible assumption
    | (with_reducible apply limit60_writes; (on_goal 2 => decide))
    | (with_reducible apply hoistLean_writes; (on_goal 2 => decide))
    | (with_reducible apply State.gset_writes; (on_goal 2 => decide)))

theorem completeTrans_writes {t : Transition} {wm : Nat} {z0 s : State} (wh : Writes wm z0 s) (we : 3393766646 ||| wm = wm) : Writes wm z0
    (completeTrans s t) := by
  refine Writes.step (g := 3393766646) ?_ we wh
  clear wh we
  have hz : Writes 3393766646 s s := Writes.refl _ _
  unfold completeTrans
  try dsimp only
  repeat' (first
    | with_reducible assumption
    | (with_reducible apply leanOff_writes; (on_goal 2 => decide))
    | (with_reducible apply leanOn_writes; (on_goal 2 => decide))
    | (with_reducible apply enterMode_writes; (on_goal 2 => decide))
    | with_reducible apply Writes.ite)

theorem beginTrans_writes {target : Nat} {cause : Nat} {wm : Nat} {z0 s : State} (wh : Writes wm z0 s) (we : 3393766646 ||| wm = wm) :
    Writes wm z0 (beginTrans s target cause) := by
  refine Writes.step (g := 3393766646) ?_ we wh
  clear wh we
  have hz : Writes 3393766646 s s := Writes.refl _ _
  unfold beginTrans
  try dsimp only
  repeat' (first
    | with_reducible assumption
    | (with_reducible apply completeTrans_writes; (on_goal 2 => decide))
    | (with_reducible apply State.withMode_writes; (on_goal 2 => decide))
    | with_reducible apply Writes.ite)

theorem requestMode_writes {target : Nat} {wm : Nat} {z0 s : State} (wh : Writes wm z0 s) (we : 3393766646 ||| wm = wm) : Writes wm z0
    (requestMode s target) := by
  refine Writes.step (g := 3393766646) ?_ we wh
  clear wh we
  have hz : Writes 3393766646 s s := Writes.refl _ _
  unfold requestMode
  try dsimp only
  repeat' (first
    | with_reducible assumption
    | (with_reducible apply beginTrans_writes; (on_goal 2 => decide))
    | with_reducible apply Writes.ite)

theorem takeWaiting_writes {wm : Nat} {z0 s : State} (wh : Writes wm z0 s) (we : 3393766646 ||| wm = wm) : Writes wm z0 (takeWaiting s) := by
  refine Writes.step (g := 3393766646) ?_ we wh
  clear wh we
  have hz : Writes 3393766646 s s := Writes.refl _ _
  unfold takeWaiting
  try dsimp only
  repeat' (first
    | with_reducible assumption
    | (with_reducible apply requestMode_writes; (on_goal 2 => decide))
    | (with_reducible apply State.withMode_writes; (on_goal 2 => decide))
    | split)

theorem abortTrans_writes {wm : Nat} {z0 s : State} (wh : Writes wm z0 s) (we : 64 ||| wm = wm) : Writes wm z0 (abortTrans s) := by
  refine Writes.step (g := 64) ?_ we wh
  clear wh we
  have hz : Writes 64 s s := Writes.refl _ _
  unfold abortTrans
  try dsimp only
  repeat' (first
    | with_reducible assumption
    | (with_reducible apply State.withMode_writes; (on_goal 2 => decide)))

theorem loseIsland_writes {n : Nat} {cause : Nat} {wm : Nat} {z0 s : State} (wh : Writes wm z0 s) (we : 3258996400 ||| wm = wm) : Writes wm
    z0 (loseIsland s n cause) := by
  refine Writes.step (g := 3258996400) ?_ we wh
  clear wh we
  have hz : Writes 3258996400 s s := Writes.refl _ _
  unfold loseIsland
  try dsimp only
  repeat' (first
    | with_reducible assumption
    | (with_reducible apply loseEngine_writes; (on_goal 2 => decide))
    | (with_reducible apply loseSquad_writes; (on_goal 2 => decide))
    | (with_reducible apply emptyIntake_writes; (on_goal 2 => decide))
    | (with_reducible apply State.event_writes; (on_goal 2 => decide))
    | (with_reducible apply State.setIsl_writes; (on_goal 2 => decide))
    | with_reducible apply Writes.ite)

theorem countRefuse_writes {n : Nat} {reason : Nat} {wm : Nat} {z0 s : State} (wh : Writes wm z0 s) (we : 1073741824 ||| wm = wm) : Writes
    wm z0 (countRefuse s n reason) := by
  refine Writes.step (g := 1073741824) ?_ we wh
  clear wh we
  have hz : Writes 1073741824 s s := Writes.refl _ _
  unfold countRefuse
  try dsimp only
  repeat' (first
    | with_reducible assumption
    | (with_reducible apply State.bumps_writes; (on_goal 2 => decide))
    | (with_reducible apply State.gset_writes; (on_goal 2 => decide))
    | (with_reducible apply State.gsets_writes; (on_goal 2 => decide)))

theorem refuse_writes {t : Transition} {n : Nat} {reason : Nat} {wm : Nat} {z0 s : State} (wh : Writes wm z0 s) (we : 3393771254 ||| wm =
    wm) : Writes wm z0 (refuse s t n reason) := by
  refine Writes.step (g := 3393771254) ?_ we wh
  clear wh we
  have hz : Writes 3393771254 s s := Writes.refl _ _
  unfold refuse
  try dsimp only
  repeat' (first
    | with_reducible assumption
    | (with_reducible apply countRefuse_writes; (on_goal 2 => decide))
    | (with_reducible apply loseIsland_writes; (on_goal 2 => decide))
    | (with_reducible apply abortTrans_writes; (on_goal 2 => decide))
    | (with_reducible apply takeWaiting_writes; (on_goal 2 => decide))
    | (with_reducible apply beginTrans_writes; (on_goal 2 => decide))
    | (with_reducible apply State.withMode_writes; (on_goal 2 => decide))
    | (with_reducible apply State.event_writes; (on_goal 2 => decide))
    | with_reducible apply Writes.ite)

theorem execAgentAnswer_writes {island : Nat} {ans : AgentReply} {wm : Nat} {z0 s : State} (wh : Writes wm z0 s) (we : 3393771254 ||| wm =
    wm) : WritesOut wm z0 (execAgentAnswer island ans s) := by
  refine WritesOut.step (g := 3393771254) ?_ we wh
  clear wh we
  have hz : Writes 3393771254 s s := Writes.refl _ _
  unfold execAgentAnswer
  try dsimp only
  repeat' (first
    | with_reducible assumption
    | (with_reducible apply refuse_writes; (on_goal 2 => decide))
    | (with_reducible apply takeWaiting_writes; (on_goal 2 => decide))
    | (with_reducible apply completeTrans_writes; (on_goal 2 => decide))
    | (with_reducible apply State.withMode_writes; (on_goal 2 => decide))
    | (with_reducible apply State.bumps_writes; (on_goal 2 => decide))
    | with_reducible apply WritesOut.next
    | with_reducible apply WritesOut.ite
    | split)

theorem execAgentTimeout_writes {island : Nat} {wm : Nat} {z0 s : State} (wh : Writes wm z0 s) (we : 3393771254 ||| wm = wm) : WritesOut wm
    z0 (execAgentTimeout island s) := by
  refine WritesOut.step (g := 3393771254) ?_ we wh
  clear wh we
  have hz : Writes 3393771254 s s := Writes.refl _ _
  unfold execAgentTimeout
  try dsimp only
  repeat' (first
    | with_reducible assumption
    | (with_reducible apply refuse_writes; (on_goal 2 => decide))
    | with_reducible apply WritesOut.next
    | with_reducible apply WritesOut.ite
    | split)

theorem execDelayExpiry_writes {island : Nat} {wm : Nat} {z0 s : State} (wh : Writes wm z0 s) (we : 64 ||| wm = wm) : WritesOut wm z0
    (execDelayExpiry island s) := by
  refine WritesOut.step (g := 64) ?_ we wh
  clear wh we
  have hz : Writes 64 s s := Writes.refl _ _
  unfold execDelayExpiry
  try dsimp only
  repeat' (first
    | with_reducible assumption
    | (with_reducible apply State.withMode_writes; (on_goal 2 => decide))
    | with_reducible apply WritesOut.next
    | with_reducible apply WritesOut.ite
    | split)

theorem askMode_writes {target : Nat} {wm : Nat} {z0 s : State} (wh : Writes wm z0 s) (we : 3393766646 ||| wm = wm) : Writes wm z0 (askMode
    s target) := by
  refine Writes.step (g := 3393766646) ?_ we wh
  clear wh we
  have hz : Writes 3393766646 s s := Writes.refl _ _
  unfold askMode
  try dsimp only
  repeat' (first
    | with_reducible assumption
    | (with_reducible apply requestMode_writes; (on_goal 2 => decide))
    | (with_reducible apply State.withMode_writes; (on_goal 2 => decide))
    | with_reducible apply Writes.ite)

theorem execModeTarget_writes {sess : SessId} {req : BitVec 16} {value : Bytes} {wm : Nat} {z0 s : State} (wh : Writes wm z0 s) (we :
    3393766646 ||| wm = wm) : WritesOut wm z0 (execModeTarget sess req value s) := by
  refine WritesOut.step (g := 3393766646) ?_ we wh
  clear wh we
  have hz : Writes 3393766646 s s := Writes.refl _ _
  unfold execModeTarget
  try dsimp only
  repeat' (first
    | intro _
    | with_reducible assumption
    | (with_reducible apply askMode_writes; (on_goal 2 => decide))
    | (with_reducible apply actWrite_writes; (on_goal 1 => decide))
    | (with_reducible apply State.gset_writes; (on_goal 2 => decide)))

theorem leaveService_writes {wm : Nat} {z0 s : State} (wh : Writes wm z0 s) (we : 3393766646 ||| wm = wm) : Writes wm z0 (leaveService s) := by
  refine Writes.step (g := 3393766646) ?_ we wh
  clear wh we
  have hz : Writes 3393766646 s s := Writes.refl _ _
  unfold leaveService
  try dsimp only
  repeat' (first
    | with_reducible assumption
    | (with_reducible apply takeWaiting_writes; (on_goal 2 => decide))
    | (with_reducible apply enterMode_writes; (on_goal 2 => decide))
    | (with_reducible apply State.withMode_writes; (on_goal 2 => decide)))

theorem enterService_writes {wm : Nat} {z0 s : State} (wh : Writes wm z0 s) (we : 1208516832 ||| wm = wm) : Writes wm z0 (enterService s) := by
  refine Writes.step (g := 1208516832) ?_ we wh
  clear wh we
  have hz : Writes 1208516832 s s := Writes.refl _ _
  unfold enterService
  try dsimp only
  repeat' (first
    | with_reducible assumption
    | (with_reducible apply enterMode_writes; (on_goal 2 => decide))
    | (with_reducible apply State.withMode_writes; (on_goal 2 => decide)))

theorem execServiceEnd_writes {sess : SessId} {req : BitVec 16} {value : Bytes} {wm : Nat} {z0 s : State} (wh : Writes wm z0 s) (we :
    3393766646 ||| wm = wm) : WritesOut wm z0 (execServiceEnd sess req value s) := by
  refine WritesOut.step (g := 3393766646) ?_ we wh
  clear wh we
  have hz : Writes 3393766646 s s := Writes.refl _ _
  unfold execServiceEnd
  try dsimp only
  repeat' (first
    | intro _
    | with_reducible assumption
    | (with_reducible apply leaveService_writes; (on_goal 2 => decide))
    | (with_reducible apply actWrite_writes; (on_goal 1 => decide))
    | with_reducible apply Writes.ite)

theorem execServiceLimitExpiry_writes {wm : Nat} {z0 s : State} (wh : Writes wm z0 s) (we : 3393766646 ||| wm = wm) : WritesOut wm z0
    (execServiceLimitExpiry s) := by
  refine WritesOut.step (g := 3393766646) ?_ we wh
  clear wh we
  have hz : Writes 3393766646 s s := Writes.refl _ _
  unfold execServiceLimitExpiry
  try dsimp only
  repeat' (first
    | with_reducible assumption
    | (with_reducible apply leaveService_writes; (on_goal 2 => decide))
    | with_reducible apply WritesOut.next
    | with_reducible apply WritesOut.ite
    | split)

theorem auxLost_writes {wm : Nat} {z0 s : State} (wh : Writes wm z0 s) (we : 3393766646 ||| wm = wm) : Writes wm z0 (auxLost s) := by
  refine Writes.step (g := 3393766646) ?_ we wh
  clear wh we
  have hz : Writes 3393766646 s s := Writes.refl _ _
  unfold auxLost
  try dsimp only
  repeat' (first
    | with_reducible assumption
    | (with_reducible apply abortTrans_writes; (on_goal 2 => decide))
    | (with_reducible apply leanOn_writes; (on_goal 2 => decide))
    | (with_reducible apply limit60_writes; (on_goal 2 => decide))
    | (with_reducible apply enterMode_writes; (on_goal 2 => decide))
    | (with_reducible apply State.withPower_writes; (on_goal 2 => decide))
    | (with_reducible apply State.gset_writes; (on_goal 2 => decide))
    | with_reducible apply Writes.ite)

theorem execAuxPowerLoss_writes {wm : Nat} {z0 s : State} (wh : Writes wm z0 s) (we : 3393766646 ||| wm = wm) : WritesOut wm z0
    (execAuxPowerLoss s) := by
  refine WritesOut.step (g := 3393766646) ?_ we wh
  clear wh we
  have hz : Writes 3393766646 s s := Writes.refl _ _
  unfold execAuxPowerLoss
  try dsimp only
  repeat' (first
    | with_reducible assumption
    | (with_reducible apply auxLost_writes; (on_goal 2 => decide))
    | with_reducible apply WritesOut.next)

theorem execAuxPowerReturn_writes {wm : Nat} {z0 s : State} (wh : Writes wm z0 s) (we : 3393766646 ||| wm = wm) : WritesOut wm z0
    (execAuxPowerReturn s) := by
  refine WritesOut.step (g := 3393766646) ?_ we wh
  clear wh we
  have hz : Writes 3393766646 s s := Writes.refl _ _
  unfold execAuxPowerReturn
  try dsimp only
  repeat' (first
    | with_reducible assumption
    | (with_reducible apply askMode_writes; (on_goal 2 => decide))
    | (with_reducible apply leanOff_writes; (on_goal 2 => decide))
    | (with_reducible apply limit60_writes; (on_goal 2 => decide))
    | (with_reducible apply State.withPower_writes; (on_goal 2 => decide))
    | (with_reducible apply State.gset_writes; (on_goal 2 => decide))
    | with_reducible apply WritesOut.next
    | with_reducible apply WritesOut.ite
    | with_reducible apply Writes.ite)

/-! ### Guards -/

theorem guardRefused_writes {g : Nat} {i : Nat} {off : Nat} {wm : Nat} {z0 s : State} (wh : Writes wm z0 s) (we : 1073741856 ||| wm = wm) :
    Writes wm z0 (guardRefused s g i off) := by
  refine Writes.step (g := 1073741856) ?_ we wh
  clear wh we
  have hz : Writes 1073741856 s s := Writes.refl _ _
  unfold guardRefused
  try dsimp only
  repeat' (first
    | with_reducible assumption
    | (with_reducible apply State.reportBy_writes; (on_goal 2 => decide))
    | (with_reducible apply State.bump_writes; (on_goal 2 => decide)))

theorem stageSlot_writes {g : Nat} {slot : Nat} {v : Nat} {wm : Nat} {z0 s : State} (wh : Writes wm z0 s) (we : 65536 ||| wm = wm) : Writes
    wm z0 (stageSlot s g slot v) := by
  refine Writes.step (g := 65536) ?_ we wh
  clear wh we
  have hz : Writes 65536 s s := Writes.refl _ _
  unfold stageSlot
  try dsimp only
  repeat' (first
    | with_reducible assumption
    | (with_reducible apply State.withGuard_writes; (on_goal 2 => decide)))

theorem restoreStaging_writes {gs : List Nat} {wm : Nat} {z0 s : State} (wh : Writes wm z0 s) (we : 65536 ||| wm = wm) : Writes wm z0
    (restoreStaging s gs) := by
  refine Writes.step (g := 65536) ?_ we wh
  clear wh we
  have hz : Writes 65536 s s := Writes.refl _ _
  unfold restoreStaging
  try dsimp only
  repeat' (first
    | intro _
    | with_reducible assumption
    | (with_reducible apply State.withGuard_writes; (on_goal 2 => decide))
    | with_reducible apply Writes.foldl)

theorem switchGuards_writes {rules : Tab (Tab Nat)} {change : Nat} {wm : Nat} {z0 s : State} (wh : Writes wm z0 s) (we : 1078138528 ||| wm
    = wm) : Writes wm z0 (switchGuards s rules change) := by
  refine Writes.step (g := 1078138528) ?_ we wh
  clear wh we
  have hz : Writes 1078138528 s s := Writes.refl _ _
  unfold switchGuards
  try dsimp only
  repeat' (first
    | intro _
    | with_reducible assumption
    | (with_reducible apply squashWhere_writes; (on_goal 2 => decide))
    | (with_reducible apply State.withGuard_writes; (on_goal 2 => decide))
    | (with_reducible apply State.present_writes; (on_goal 2 => decide))
    | (with_reducible apply State.gset_writes; (on_goal 2 => decide))
    | with_reducible apply Writes.foldl
    | (with_reducible refine Writes.upd_guardSt ?_ ?_; (on_goal 2 => decide); with_reducible assumption))

theorem endDrain_writes {wm : Nat} {z0 s : State} (wh : Writes wm z0 s) (we : 1073807360 ||| wm = wm) : Writes wm z0 (endDrain s) := by
  refine Writes.step (g := 1073807360) ?_ we wh
  clear wh we
  have hz : Writes 1073807360 s s := Writes.refl _ _
  unfold endDrain
  try dsimp only
  repeat' (first
    | with_reducible assumption
    | (with_reducible apply restoreStaging_writes; (on_goal 2 => decide))
    | (with_reducible apply State.bump_writes; (on_goal 2 => decide))
    | (with_reducible apply State.gset_writes; (on_goal 2 => decide)))

theorem reloadGuards_writes {wm : Nat} {z0 s : State} (wh : Writes wm z0 s) (we : 1073938464 ||| wm = wm) : Writes wm z0 (reloadGuards s) := by
  refine Writes.step (g := 1073938464) ?_ we wh
  clear wh we
  have hz : Writes 1073938464 s s := Writes.refl _ _
  unfold reloadGuards
  try dsimp only
  repeat' (first
    | intro _
    | with_reducible assumption
    | (with_reducible apply State.withGuard_writes; (on_goal 2 => decide))
    | (with_reducible apply State.present_writes; (on_goal 2 => decide))
    | (with_reducible apply State.bump_writes; (on_goal 2 => decide))
    | with_reducible apply Writes.ite
    | (with_reducible refine Writes.upd_guardSt ?_ ?_; (on_goal 2 => decide); first | with_reducible apply Writes.foldl))

/-! ### Volatile -/

theorem restartJob_writes {id : Nat} {wm : Nat} {z0 s : State} (wh : Writes wm z0 s) (we : 2186298496 ||| wm = wm) : Writes wm z0
    (restartJob s id) := by
  refine Writes.step (g := 2186298496) ?_ we wh
  clear wh we
  have hz : Writes 2186298496 s s := Writes.refl _ _
  unfold restartJob
  try dsimp only
  repeat' (first
    | with_reducible assumption
    | (with_reducible apply redispatch_writes; (on_goal 2 => decide))
    | (with_reducible apply returnUses_writes; (on_goal 2 => decide))
    | (with_reducible apply dropImage_writes; (on_goal 2 => decide))
    | (with_reducible apply State.withJob_writes; (on_goal 2 => decide)))

theorem restartStream_writes {root : Bool} {id : Nat} {wm : Nat} {z0 s : State} (wh : Writes wm z0 s) (we : 19366171776 ||| wm = wm) :
    Writes wm z0 (restartStream s root id) := by
  refine Writes.step (g := 19366171776) ?_ we wh
  clear wh we
  have hz : Writes 19366171776 s s := Writes.refl _ _
  unfold restartStream
  try dsimp only
  repeat' (first
    | with_reducible assumption
    | (with_reducible apply zeroFill_writes; (on_goal 2 => decide))
    | (with_reducible apply finish_writes; (on_goal 2 => decide))
    | (with_reducible apply State.withJob_writes; (on_goal 2 => decide))
    | with_reducible apply Writes.ite)

theorem eraseVolatile_writes {root : Bool} {wm : Nat} {z0 s : State} (wh : Writes wm z0 s) (we : 20458788480 ||| wm = wm) : Writes wm z0
    (eraseVolatile s root) := by
  refine Writes.step (g := 20458788480) ?_ we wh
  clear wh we
  have hz : Writes 20458788480 s s := Writes.refl _ _
  unfold eraseVolatile
  try dsimp only
  repeat' (first
    | intro _
    | with_reducible assumption
    | (with_reducible apply restartStream_writes; (on_goal 2 => decide))
    | (with_reducible apply restartJob_writes; (on_goal 2 => decide))
    | (with_reducible apply abandonCommits_writes; (on_goal 2 => decide))
    | (with_reducible apply wipeCache_writes; (on_goal 2 => decide))
    | (with_reducible apply destroyVolatile_writes; (on_goal 2 => decide))
    | (with_reducible apply rngErase_writes; (on_goal 2 => decide))
    | (with_reducible apply squashWhere_writes; (on_goal 2 => decide))
    | (with_reducible apply finish_writes; (on_goal 2 => decide))
    | with_reducible apply Writes.ite
    | with_reducible apply Writes.foldl)

end Sys2Proof.Machine
end

