-- ==== Sys2Proof/Laws/Writes4.lean ====
section
/-! SUPPORT. Which fields each operation can write (see Writes.lean), operation by operation: Tamper, Retry, Arith, Mgmt, Approve. -/

set_option linter.unusedTactic false
set_option linter.unreachableTactic false
set_option linter.unusedVariables false

namespace Sys2Proof.Machine

open Sys2Proof

/-! ### Tamper -/

theorem rootGone_writes {m : Nat} {wm : Nat} {z0 s : State} (wh : Writes wm z0 s) (we : 20593825504 ||| wm = wm) : Writes wm z0 (rootGone s m) := by
  refine Writes.step (g := 20593825504) ?_ we wh
  clear wh we
  have hz : Writes 20593825504 s s := Writes.refl _ _
  unfold rootGone
  try dsimp only
  repeat' (first
    | with_reducible assumption
    | (with_reducible apply eraseVolatile_writes; (on_goal 2 => decide))
    | (with_reducible apply abortTrans_writes; (on_goal 2 => decide))
    | (with_reducible apply enterMode_writes; (on_goal 2 => decide))
    | (with_reducible apply State.withTamper_writes; (on_goal 2 => decide))
    | (with_reducible apply State.withMode_writes; (on_goal 2 => decide))
    | (with_reducible apply State.event_writes; (on_goal 2 => decide))
    | (with_reducible apply State.gset_writes; (on_goal 2 => decide))
    | with_reducible apply Writes.ite)

theorem eraseRoot_writes {m : Nat} {wm : Nat} {z0 s : State} (wh : Writes wm z0 s) (we : 20593825504 ||| wm = wm) : Writes wm z0 (eraseRoot s m) := by
  refine Writes.step (g := 20593825504) ?_ we wh
  clear wh we
  have hz : Writes 20593825504 s s := Writes.refl _ _
  unfold eraseRoot
  try dsimp only
  repeat' (first
    | with_reducible assumption
    | (with_reducible apply rootGone_writes; (on_goal 2 => decide))
    | (with_reducible apply State.bump_writes; (on_goal 2 => decide)))

theorem sntStore_writes {r : SntRec} {wm : Nat} {z0 s : State} (wh : Writes wm z0 s) (we : 1074003968 ||| wm = wm) : Writes wm z0 (sntStore s r) := by
  refine Writes.step (g := 1074003968) ?_ we wh
  clear wh we
  have hz : Writes 1074003968 s s := Writes.refl _ _
  unfold sntStore
  try dsimp only
  repeat' (first
    | with_reducible assumption
    | (with_reducible apply State.withTamper_writes; (on_goal 2 => decide))
    | (with_reducible apply State.bump_writes; (on_goal 2 => decide))
    | with_reducible apply Writes.ite
    | split)

theorem cellEraseRoot_writes {wm : Nat} {z0 s : State} (wh : Writes wm z0 s) (we : 262144 ||| wm = wm) : Writes wm z0 (cellEraseRoot s) := by
  refine Writes.step (g := 262144) ?_ we wh
  clear wh we
  have hz : Writes 262144 s s := Writes.refl _ _
  unfold cellEraseRoot
  try dsimp only
  repeat' (first
    | with_reducible assumption
    | (with_reducible apply State.withTamper_writes; (on_goal 2 => decide)))

theorem raiseAlarm_writes {m : Nat} {count : Nat} {value : Nat} {wm : Nat} {z0 s : State} (wh : Writes wm z0 s) (we : 20593825504 ||| wm =
    wm) : Writes wm z0 (raiseAlarm s m count value) := by
  refine Writes.step (g := 20593825504) ?_ we wh
  clear wh we
  have hz : Writes 20593825504 s s := Writes.refl _ _
  unfold raiseAlarm
  try dsimp only
  repeat' (first
    | with_reducible assumption
    | (with_reducible apply cellEraseRoot_writes; (on_goal 2 => decide))
    | (with_reducible apply sntStore_writes; (on_goal 2 => decide))
    | (with_reducible apply eraseRoot_writes; (on_goal 2 => decide))
    | (with_reducible apply rootGone_writes; (on_goal 2 => decide))
    | (with_reducible apply State.withTamper_writes; (on_goal 2 => decide))
    | (with_reducible apply State.event_writes; (on_goal 2 => decide))
    | (with_reducible apply State.bumps_writes; (on_goal 2 => decide))
    | (with_reducible apply State.bump_writes; (on_goal 2 => decide))
    | with_reducible apply Writes.ite)

theorem countEvent_writes {m : Nat} {value : Nat} {wm : Nat} {z0 s : State} (wh : Writes wm z0 s) (we : 20593825504 ||| wm = wm) : Writes
    wm z0 (countEvent s m value) := by
  refine Writes.step (g := 20593825504) ?_ we wh
  clear wh we
  have hz : Writes 20593825504 s s := Writes.refl _ _
  unfold countEvent
  try dsimp only
  repeat' (first
    | with_reducible assumption
    | (with_reducible apply raiseAlarm_writes; (on_goal 2 => decide))
    | (with_reducible apply State.withTamper_writes; (on_goal 2 => decide))
    | (with_reducible apply State.bumps_writes; (on_goal 2 => decide))
    | with_reducible apply Writes.ite)

theorem countBurst_writes {unit : Nat} {value : Nat} {wm : Nat} {z0 s : State} (wh : Writes wm z0 s) (we : 20593825504 ||| wm = wm) :
    Writes wm z0 (countBurst s unit value) := by
  refine Writes.step (g := 20593825504) ?_ we wh
  clear wh we
  have hz : Writes 20593825504 s s := Writes.refl _ _
  unfold countBurst
  try dsimp only
  repeat' (first
    | with_reducible assumption
    | (with_reducible apply raiseAlarm_writes; (on_goal 2 => decide))
    | (with_reducible apply State.withTamper_writes; (on_goal 2 => decide))
    | (with_reducible apply State.bumps_writes; (on_goal 2 => decide))
    | with_reducible apply Writes.ite)

theorem faultReport_writes {unit : Nat} {wm : Nat} {z0 s : State} (wh : Writes wm z0 s) (we : 20593825504 ||| wm = wm) : Writes wm z0
    (faultReport s unit) := by
  refine Writes.step (g := 20593825504) ?_ we wh
  clear wh we
  have hz : Writes 20593825504 s s := Writes.refl _ _
  unfold faultReport
  try dsimp only
  repeat' (first
    | with_reducible assumption
    | (with_reducible apply countBurst_writes; (on_goal 2 => decide))
    | (with_reducible apply countEvent_writes; (on_goal 2 => decide))
    | with_reducible apply Writes.ite)

theorem csNote_writes {x : ChangeSet} {step : Nat} {code : BitVec 12} {wm : Nat} {z0 s : State} (wh : Writes wm z0 s) (we : 524320 ||| wm =
    wm) : Writes wm z0 (csNote s x step code) := by
  refine Writes.step (g := 524320) ?_ we wh
  clear wh we
  have hz : Writes 524320 s s := Writes.refl _ _
  unfold csNote
  try dsimp only
  repeat' (first
    | with_reducible assumption
    | (with_reducible apply State.notify_writes; (on_goal 2 => decide))
    | (with_reducible apply State.event_writes; (on_goal 2 => decide)))

theorem freeSet_writes {k : Nat} {final : Nat} {reason : Nat} {wm : Nat} {z0 s : State} (wh : Writes wm z0 s) (we : 1074331680 ||| wm = wm)
    : Writes wm z0 (freeSet s k final reason) := by
  refine Writes.step (g := 1074331680) ?_ we wh
  clear wh we
  have hz : Writes 1074331680 s s := Writes.refl _ _
  unfold freeSet
  try dsimp only
  repeat' (first
    | with_reducible assumption
    | (with_reducible apply csNote_writes; (on_goal 2 => decide))
    | (with_reducible apply restoreStaging_writes; (on_goal 2 => decide))
    | (with_reducible apply State.withMgmt_writes; (on_goal 2 => decide))
    | (with_reducible apply State.bump_writes; (on_goal 2 => decide))
    | (with_reducible apply State.gset_writes; (on_goal 2 => decide))
    | with_reducible apply Writes.ite)

theorem setMachine_writes {k : Nat} {c : BitVec 12} {wm : Nat} {z0 s : State} (wh : Writes wm z0 s) (we : 1074528320 ||| wm = wm) : Writes
    wm z0 (setMachine s k c) := by
  refine Writes.step (g := 1074528320) ?_ we wh
  clear wh we
  have hz : Writes 1074528320 s s := Writes.refl _ _
  unfold setMachine
  try dsimp only
  repeat' (first
    | with_reducible assumption
    | (with_reducible apply State.withMgmt_writes; (on_goal 2 => decide))
    | (with_reducible apply State.withTamper_writes; (on_goal 2 => decide))
    | (with_reducible apply State.withMode_writes; (on_goal 2 => decide))
    | (with_reducible apply State.gset_writes; (on_goal 2 => decide))
    | with_reducible apply Writes.ite)

theorem failMachine_writes {k : Nat} {wm : Nat} {z0 s : State} (wh : Writes wm z0 s) (we : 1074724896 ||| wm = wm) : Writes wm z0
    (failMachine s k) := by
  refine Writes.step (g := 1074724896) ?_ we wh
  clear wh we
  have hz : Writes 1074724896 s s := Writes.refl _ _
  unfold failMachine
  try dsimp only
  repeat' (first
    | with_reducible assumption
    | (with_reducible apply freeSet_writes; (on_goal 2 => decide))
    | (with_reducible apply State.withTamper_writes; (on_goal 2 => decide))
    | (with_reducible apply State.gset_writes; (on_goal 2 => decide))
    | with_reducible apply Writes.ite
    | (with_reducible refine Writes.upd_guardSt ?_ ?_; (on_goal 2 => decide); with_reducible assumption))

theorem readMachine_writes {k : Nat} {c : BitVec 12} {wm : Nat} {z0 s : State} (wh : Writes wm z0 s) (we : 20594022112 ||| wm = wm) :
    Writes wm z0 (readMachine s k c) := by
  refine Writes.step (g := 20594022112) ?_ we wh
  clear wh we
  have hz : Writes 20594022112 s s := Writes.refl _ _
  unfold readMachine
  try dsimp only
  repeat' (first
    | with_reducible assumption
    | (with_reducible apply failMachine_writes; (on_goal 2 => decide))
    | (with_reducible apply setMachine_writes; (on_goal 2 => decide))
    | (with_reducible apply countEvent_writes; (on_goal 2 => decide))
    | (with_reducible apply State.event_writes; (on_goal 2 => decide))
    | (with_reducible apply State.bump_writes; (on_goal 2 => decide))
    | with_reducible apply Writes.ite
    | split)

theorem actionRec_writes {resp : Nat} {outcome : Nat} {wm : Nat} {z0 s : State} (wh : Writes wm z0 s) (we : 32 ||| wm = wm) : Writes wm z0
    (actionRec s resp outcome) := by
  refine Writes.step (g := 32) ?_ we wh
  clear wh we
  have hz : Writes 32 s s := Writes.refl _ _
  unfold actionRec
  try dsimp only
  repeat' (first
    | with_reducible assumption
    | (with_reducible apply State.event_writes; (on_goal 2 => decide)))

theorem alertBatch_writes {l : List Alarm} {wm : Nat} {z0 s : State} (wh : Writes wm z0 s) (we : 1208483972 ||| wm = wm) : Writes wm z0
    (alertBatch s l) := by
  refine Writes.step (g := 1208483972) ?_ we wh
  clear wh we
  have hz : Writes 1208483972 s s := Writes.refl _ _
  unfold alertBatch
  try dsimp only
  repeat' (first
    | intro _
    | with_reducible assumption
    | (with_reducible apply refreshTag_writes; (on_goal 2 => decide))
    | (with_reducible apply State.withPower_writes; (on_goal 2 => decide))
    | (with_reducible apply State.notify_writes; (on_goal 2 => decide))
    | (with_reducible apply State.msixAlert_writes; (on_goal 2 => decide))
    | (with_reducible apply State.gset_writes; (on_goal 2 => decide))
    | with_reducible apply Writes.ite
    | with_reducible apply Writes.foldl)

theorem startHold_writes {mons : List Nat} {wm : Nat} {z0 s : State} (wh : Writes wm z0 s) (we : 1074003968 ||| wm = wm) : Writes wm z0
    (startHold s mons) := by
  refine Writes.step (g := 1074003968) ?_ we wh
  clear wh we
  have hz : Writes 1074003968 s s := Writes.refl _ _
  unfold startHold
  try dsimp only
  repeat' (first
    | with_reducible assumption
    | (with_reducible apply State.withTamper_writes; (on_goal 2 => decide))
    | (with_reducible apply State.gset_writes; (on_goal 2 => decide)))

theorem execBatchExecute_writes {wm : Nat} {z0 s : State} (wh : Writes wm z0 s) (we : 20593792676 ||| wm = wm) : WritesOut wm z0
    (execBatchExecute s) := by
  refine WritesOut.step (g := 20593792676) ?_ we wh
  clear wh we
  have hz : Writes 20593792676 s s := Writes.refl _ _
  unfold execBatchExecute
  try dsimp only
  repeat' (first
    | with_reducible assumption
    | (with_reducible apply startHold_writes; (on_goal 2 => decide))
    | (with_reducible apply alertBatch_writes; (on_goal 2 => decide))
    | (with_reducible apply actionRec_writes; (on_goal 2 => decide))
    | (with_reducible apply eraseVolatile_writes; (on_goal 2 => decide))
    | (with_reducible apply State.withTamper_writes; (on_goal 2 => decide))
    | with_reducible apply WritesOut.next
    | with_reducible apply WritesOut.ite
    | with_reducible apply Writes.ite)

theorem execQuiesceHoldEnd_writes {wm : Nat} {z0 s : State} (wh : Writes wm z0 s) (we : 20459050656 ||| wm = wm) : WritesOut wm z0
    (execQuiesceHoldEnd s) := by
  refine WritesOut.step (g := 20459050656) ?_ we wh
  clear wh we
  have hz : Writes 20459050656 s s := Writes.refl _ _
  unfold execQuiesceHoldEnd
  try dsimp only
  repeat' (first
    | with_reducible assumption
    | (with_reducible apply eraseVolatile_writes; (on_goal 2 => decide))
    | (with_reducible apply State.withTamper_writes; (on_goal 2 => decide))
    | (with_reducible apply State.event_writes; (on_goal 2 => decide))
    | (with_reducible apply State.gset_writes; (on_goal 2 => decide))
    | with_reducible apply WritesOut.next
    | with_reducible apply WritesOut.ite
    | split)

theorem execAlertAck_writes {sess : SessId} {req : BitVec 16} {value : Bytes} {wm : Nat} {z0 s : State} (wh : Writes wm z0 s) (we :
    1074266240 ||| wm = wm) : WritesOut wm z0 (execAlertAck sess req value s) := by
  refine WritesOut.step (g := 1074266240) ?_ we wh
  clear wh we
  have hz : Writes 1074266240 s s := Writes.refl _ _
  unfold execAlertAck
  try dsimp only
  repeat' (first
    | intro _
    | with_reducible assumption
    | (with_reducible apply actWrite_writes; (on_goal 1 => decide))
    | (with_reducible apply State.gset_writes; (on_goal 2 => decide)))

theorem handover_writes {toSnt : Bool} {wm : Nat} {z0 s : State} (wh : Writes wm z0 s) (we : 262144 ||| wm = wm) : Writes wm z0 (handover s
    toSnt) := by
  refine Writes.step (g := 262144) ?_ we wh
  clear wh we
  have hz : Writes 262144 s s := Writes.refl _ _
  unfold handover
  try dsimp only
  repeat' (first
    | with_reducible assumption
    | (with_reducible apply State.withTamper_writes; (on_goal 2 => decide)))

theorem sntHandover_writes {wm : Nat} {z0 s : State} (wh : Writes wm z0 s) (we : 1074004000 ||| wm = wm) : Writes wm z0 (sntHandover s) := by
  refine Writes.step (g := 1074004000) ?_ we wh
  clear wh we
  have hz : Writes 1074004000 s s := Writes.refl _ _
  unfold sntHandover
  try dsimp only
  repeat' (first
    | intro _
    | with_reducible assumption
    | (with_reducible apply State.withTamper_writes; (on_goal 2 => decide))
    | (with_reducible apply State.event_writes; (on_goal 2 => decide))
    | (with_reducible apply State.bump_writes; (on_goal 2 => decide))
    | (with_reducible apply State.gset_writes; (on_goal 2 => decide))
    | with_reducible apply Writes.ite
    | with_reducible apply Writes.foldl)

theorem takeOut_writes {island : Nat} {cause : Nat} {wm : Nat} {z0 s : State} (wh : Writes wm z0 s) (we : 3259258544 ||| wm = wm) : Writes
    wm z0 (takeOut s island cause) := by
  refine Writes.step (g := 3259258544) ?_ we wh
  clear wh we
  have hz : Writes 3259258544 s s := Writes.refl _ _
  unfold takeOut
  try dsimp only
  repeat' (first
    | with_reducible assumption
    | (with_reducible apply handover_writes; (on_goal 2 => decide))
    | (with_reducible apply loseIsland_writes; (on_goal 2 => decide))
    | (with_reducible apply State.withTamper_writes; (on_goal 2 => decide))
    | with_reducible apply Writes.ite)

theorem execCrossingTimeout_writes {island : Nat} {wm : Nat} {z0 s : State} (wh : Writes wm z0 s) (we : 3259258544 ||| wm = wm) : WritesOut
    wm z0 (execCrossingTimeout island s) := by
  refine WritesOut.step (g := 3259258544) ?_ we wh
  clear wh we
  have hz : Writes 3259258544 s s := Writes.refl _ _
  unfold execCrossingTimeout
  try dsimp only
  repeat' (first
    | with_reducible assumption
    | (with_reducible apply takeOut_writes; (on_goal 2 => decide))
    | with_reducible apply WritesOut.next
    | with_reducible apply WritesOut.ite)

theorem countClock_writes {island : Nat} {value : Nat} {wm : Nat} {z0 s : State} (wh : Writes wm z0 s) (we : 20593825520 ||| wm = wm) :
    Writes wm z0 (countClock s island value) := by
  refine Writes.step (g := 20593825520) ?_ we wh
  clear wh we
  have hz : Writes 20593825520 s s := Writes.refl _ _
  unfold countClock
  try dsimp only
  repeat' (first
    | with_reducible assumption
    | (with_reducible apply takeOut_writes; (on_goal 2 => decide))
    | (with_reducible apply countEvent_writes; (on_goal 2 => decide))
    | with_reducible apply Writes.ite)

theorem execMonitorSample_writes {mon : Nat} {unit : Nat} {value : Nat} {holds : Bool} {wm : Nat} {z0 s : State} (wh : Writes wm z0 s) (we
    : 20594022128 ||| wm = wm) : WritesOut wm z0 (execMonitorSample mon unit value holds s) := by
  refine WritesOut.step (g := 20594022128) ?_ we wh
  clear wh we
  have hz : Writes 20594022128 s s := Writes.refl _ _
  unfold execMonitorSample
  try dsimp only
  repeat' (first
    | with_reducible assumption
    | (with_reducible apply countClock_writes; (on_goal 2 => decide))
    | (with_reducible apply readMachine_writes; (on_goal 2 => decide))
    | (with_reducible apply faultReport_writes; (on_goal 2 => decide))
    | (with_reducible apply countEvent_writes; (on_goal 2 => decide))
    | (with_reducible apply State.withTamper_writes; (on_goal 2 => decide))
    | with_reducible apply WritesOut.next
    | with_reducible apply WritesOut.ite)

/-! ### Retry -/

theorem failLane_writes {q : Nat} {half : Nat} {lane : Nat} {wm : Nat} {z0 s : State} (wh : Writes wm z0 s) (we : 16416 ||| wm = wm) :
    Writes wm z0 (failLane s q half lane) := by
  refine Writes.step (g := 16416) ?_ we wh
  clear wh we
  have hz : Writes 16416 s s := Writes.refl _ _
  unfold failLane
  try dsimp only
  repeat' (first
    | with_reducible assumption
    | (with_reducible apply State.withSquad_writes; (on_goal 2 => decide))
    | (with_reducible apply State.event_writes; (on_goal 2 => decide))
    | with_reducible apply Writes.ite)

theorem rewind_writes {id : Nat} {wm : Nat} {z0 s : State} (wh : Writes wm z0 s) (we : 2181038080 ||| wm = wm) : Writes wm z0 (rewind s id) := by
  refine Writes.step (g := 2181038080) ?_ we wh
  clear wh we
  have hz : Writes 2181038080 s s := Writes.refl _ _
  unfold rewind
  try dsimp only
  repeat' (first
    | intro _
    | with_reducible assumption
    | (with_reducible apply putImage_writes; (on_goal 2 => decide))
    | with_reducible apply Writes.foldl
    | split)

theorem swapLanes_writes {q : Nat} {lanes : List Nat} {wm : Nat} {z0 s : State} (wh : Writes wm z0 s) (we : 2185249968 ||| wm = wm) :
    Writes wm z0 (swapLanes s q lanes) := by
  refine Writes.step (g := 2185249968) ?_ we wh
  clear wh we
  have hz : Writes 2185249968 s s := Writes.refl _ _
  unfold swapLanes
  try dsimp only
  repeat' (first
    | intro _
    | with_reducible assumption
    | (with_reducible apply rewind_writes; (on_goal 2 => decide))
    | (with_reducible apply failLane_writes; (on_goal 2 => decide))
    | (with_reducible apply loseSquad_writes; (on_goal 2 => decide))
    | with_reducible apply Writes.ite
    | with_reducible apply Writes.foldl)

theorem countThird_writes {q : Nat} {wm : Nat} {z0 s : State} (wh : Writes wm z0 s) (we : 16384 ||| wm = wm) : Writes wm z0 (countThird s q) := by
  refine Writes.step (g := 16384) ?_ we wh
  clear wh we
  have hz : Writes 16384 s s := Writes.refl _ _
  unfold countThird
  try dsimp only
  repeat' (first
    | with_reducible assumption
    | (with_reducible apply State.withSquad_writes; (on_goal 2 => decide))
    | with_reducible apply Writes.ite)

theorem localise_writes {q : Nat} {wm : Nat} {z0 s : State} (wh : Writes wm z0 s) (we : 2 ||| wm = wm) : WritesSnd wm z0 (localise s q) := by
  refine WritesSnd.step (g := 2) ?_ we wh
  clear wh we
  have hz : Writes 2 s s := Writes.refl _ _
  unfold localise
  try dsimp only
  repeat' (first
    | with_reducible assumption
    | (with_reducible apply State.drawNat_writes; (on_goal 2 => decide))
    | with_reducible apply WritesSnd.mk
    | with_reducible apply WritesSnd.snd)

theorem localiseSwap_writes {id : Nat} {q : Nat} {wm : Nat} {z0 s : State} (wh : Writes wm z0 s) (we : 2185249970 ||| wm = wm) : Writes wm
    z0 (localiseSwap s id q) := by
  refine Writes.step (g := 2185249970) ?_ we wh
  clear wh we
  have hz : Writes 2185249970 s s := Writes.refl _ _
  unfold localiseSwap
  try dsimp only
  repeat' (first
    | with_reducible assumption
    | (with_reducible apply localise_writes; (on_goal 2 => decide))
    | (with_reducible apply swapLanes_writes; (on_goal 2 => decide))
    | (with_reducible apply rewind_writes; (on_goal 2 => decide))
    | (with_reducible apply State.withSquad_writes; (on_goal 2 => decide))
    | with_reducible apply Writes.ite
    | with_reducible apply WritesSnd.snd)

theorem retryJob_writes {id : Nat} {q : Nat} {wm : Nat} {z0 s : State} (wh : Writes wm z0 s) (we : 3260044466 ||| wm = wm) : Writes wm z0
    (retryJob s id q) := by
  refine Writes.step (g := 3260044466) ?_ we wh
  clear wh we
  have hz : Writes 3260044466 s s := Writes.refl _ _
  unfold retryJob
  try dsimp only
  repeat' (first
    | with_reducible assumption
    | (with_reducible apply localiseSwap_writes; (on_goal 2 => decide))
    | (with_reducible apply countThird_writes; (on_goal 2 => decide))
    | (with_reducible apply rewind_writes; (on_goal 2 => decide))
    | (with_reducible apply redispatch_writes; (on_goal 2 => decide))
    | (with_reducible apply finish_writes; (on_goal 2 => decide))
    | (with_reducible apply State.withJob_writes; (on_goal 2 => decide))
    | (with_reducible apply State.bump_writes; (on_goal 2 => decide))
    | with_reducible apply Writes.ite)

theorem laneFault_writes {id : Nat} {q : Nat} {e : GE} {code : Nat} {detail : Nat} {wm : Nat} {z0 s : State} (wh : Writes wm z0 s) (we :
    20593825522 ||| wm = wm) : Writes wm z0 (laneFault s id q e code detail) := by
  refine Writes.step (g := 20593825522) ?_ we wh
  clear wh we
  have hz : Writes 20593825522 s s := Writes.refl _ _
  unfold laneFault
  try dsimp only
  repeat' (first
    | with_reducible assumption
    | (with_reducible apply retryJob_writes; (on_goal 2 => decide))
    | (with_reducible apply faultReport_writes; (on_goal 2 => decide))
    | (with_reducible apply State.report_writes; (on_goal 2 => decide))
    | (with_reducible apply State.bump_writes; (on_goal 2 => decide)))

theorem releaseFail_writes {id : Nat} {wm : Nat} {z0 s : State} (wh : Writes wm z0 s) (we : 20593825522 ||| wm = wm) : Writes wm z0
    (releaseFail s id) := by
  refine Writes.step (g := 20593825522) ?_ we wh
  clear wh we
  have hz : Writes 20593825522 s s := Writes.refl _ _
  unfold releaseFail
  try dsimp only
  repeat' (first
    | with_reducible assumption
    | (with_reducible apply laneFault_writes; (on_goal 2 => decide)))

/-! ### Arith -/

theorem runSlice_writes {id : Nat} {f : State → State} {s z0 : State} {wm : Nat} (hm : 2181055488 ||| wm = wm) (wh : Writes wm z0 s) (hf :
    ∀ y0, Writes wm z0 y0 → Writes wm z0 (f y0)) :
    Writes wm z0 (runSlice s id f) := by
  unfold runSlice
  try dsimp only
  repeat' (first
    | with_reducible assumption
    | with_reducible apply hf
    | (with_reducible apply parkJob_writes; (on_goal 2 => (first | decide | exact Writes.sub (by decide) hm)))
    | (with_reducible apply rngHold_writes; (on_goal 2 => (first | decide | exact Writes.sub (by decide) hm)))
    | with_reducible apply Writes.ite
    | split)

theorem onSquad_writes {id : Nat} {op : Nat} {f : State → State} {s z0 : State} {wm : Nat} (hm : 3260044450 ||| wm = wm) (wh : Writes wm z0
    s) (hf : ∀ y0, Writes wm z0 y0 → Writes wm z0 (f y0)) :
    WritesOut wm z0 (onSquad s id op f) := by
  unfold onSquad
  try dsimp only
  repeat' (first
    | intro _
    | with_reducible assumption
    | with_reducible apply hf
    | (with_reducible apply runSlice_writes; (on_goal 1 => (first | decide | exact Writes.sub (by decide) hm)))
    | (with_reducible apply loadForSquad_writes; (on_goal 2 => (first | decide | exact Writes.sub (by decide) hm)))
    | with_reducible apply WritesOut.next
    | with_reducible apply WritesOut.ite
    | with_reducible apply Writes.ite)

theorem passJob_writes {id : Nat} {out : Bytes} {tc : Nat} {b : Nat} {wm : Nat} {z0 s : State} (wh : Writes wm z0 s) (we : 2186302592 |||
    wm = wm) : Writes wm z0 (passJob s id out tc b) := by
  refine Writes.step (g := 2186302592) ?_ we wh
  clear wh we
  have hz : Writes 2186302592 s s := Writes.refl _ _
  unfold passJob
  try dsimp only
  repeat' (first
    | with_reducible assumption
    | (with_reducible apply finishWith_writes; (on_goal 2 => decide)))

theorem failValid_writes {id : Nat} {status : Nat} {wm : Nat} {z0 s : State} (wh : Writes wm z0 s) (we : 2186302592 ||| wm = wm) : Writes
    wm z0 (failValid s id status) := by
  refine Writes.step (g := 2186302592) ?_ we wh
  clear wh we
  have hz : Writes 2186302592 s s := Writes.refl _ _
  unfold failValid
  try dsimp only
  repeat' (first
    | with_reducible assumption
    | (with_reducible apply finishWith_writes; (on_goal 2 => decide)))

theorem runGeneric_writes {id : Nat} {checkB : Bool} {r : GenOps → Option Nat} {wm : Nat} {z0 s : State} (wh : Writes wm z0 s) (we :
    2186302592 ||| wm = wm) : Writes wm z0 (runGeneric s id checkB r) := by
  refine Writes.step (g := 2186302592) ?_ we wh
  clear wh we
  have hz : Writes 2186302592 s s := Writes.refl _ _
  unfold runGeneric
  try dsimp only
  repeat' (first
    | with_reducible assumption
    | (with_reducible apply failValid_writes; (on_goal 2 => decide))
    | (with_reducible apply passJob_writes; (on_goal 2 => decide))
    | with_reducible apply Writes.ite
    | split)

theorem execModadd_writes {job : Nat} {wm : Nat} {z0 s : State} (wh : Writes wm z0 s) (we : 3260044450 ||| wm = wm) : WritesOut wm z0
    (execModadd job s) := by
  refine WritesOut.step (g := 3260044450) ?_ we wh
  clear wh we
  have hz : Writes 3260044450 s s := Writes.refl _ _
  unfold execModadd
  try dsimp only
  repeat' (first
    | intro _
    | with_reducible assumption
    | (with_reducible apply runGeneric_writes; (on_goal 2 => decide))
    | (with_reducible apply onSquad_writes; (on_goal 1 => decide)))

theorem execModmul_writes {job : Nat} {wm : Nat} {z0 s : State} (wh : Writes wm z0 s) (we : 3260044450 ||| wm = wm) : WritesOut wm z0
    (execModmul job s) := by
  refine WritesOut.step (g := 3260044450) ?_ we wh
  clear wh we
  have hz : Writes 3260044450 s s := Writes.refl _ _
  unfold execModmul
  try dsimp only
  repeat' (first
    | intro _
    | with_reducible assumption
    | (with_reducible apply runGeneric_writes; (on_goal 2 => decide))
    | (with_reducible apply onSquad_writes; (on_goal 1 => decide)))

theorem execModexp_writes {job : Nat} {wm : Nat} {z0 s : State} (wh : Writes wm z0 s) (we : 3260044450 ||| wm = wm) : WritesOut wm z0
    (execModexp job s) := by
  refine WritesOut.step (g := 3260044450) ?_ we wh
  clear wh we
  have hz : Writes 3260044450 s s := Writes.refl _ _
  unfold execModexp
  try dsimp only
  repeat' (first
    | intro _
    | with_reducible assumption
    | (with_reducible apply runGeneric_writes; (on_goal 2 => decide))
    | (with_reducible apply onSquad_writes; (on_goal 1 => decide)))

theorem execModinv_writes {job : Nat} {wm : Nat} {z0 s : State} (wh : Writes wm z0 s) (we : 3260044450 ||| wm = wm) : WritesOut wm z0
    (execModinv job s) := by
  refine WritesOut.step (g := 3260044450) ?_ we wh
  clear wh we
  have hz : Writes 3260044450 s s := Writes.refl _ _
  unfold execModinv
  try dsimp only
  repeat' (first
    | intro _
    | with_reducible assumption
    | (with_reducible apply runGeneric_writes; (on_goal 2 => decide))
    | (with_reducible apply onSquad_writes; (on_goal 1 => decide)))

/-! ### Mgmt -/

theorem onRole_writes {x : SessId} {req : BitVec 16} {msg : Nat} {may : Nat → Bool} {f : State → State} {s z0 : State} {wm : Nat} (hm :
    524416 ||| wm = wm) (wh : Writes wm z0 s) (hf : ∀ y0, Writes wm z0 y0 → Writes wm z0 (f y0)) :
    WritesOut wm z0 (onRole s x req msg may f) := by
  unfold onRole
  try dsimp only
  repeat' (first
    | intro _
    | with_reducible assumption
    | with_reducible apply hf
    | (with_reducible apply onMsg_writes; (on_goal 1 => (first | decide | exact Writes.sub (by decide) hm)))
    | (with_reducible apply replyStatus_writes; (on_goal 2 => (first | decide | exact Writes.sub (by decide) hm)))
    | with_reducible apply Writes.ite)

theorem refuseForm_writes {x : SessId} {m : Bytes} {wm : Nat} {z0 s : State} (wh : Writes wm z0 s) (we : 524416 ||| wm = wm) : WritesOut wm
    z0 (refuseForm s x m) := by
  refine WritesOut.step (g := 524416) ?_ we wh
  clear wh we
  have hz : Writes 524416 s s := Writes.refl _ _
  unfold refuseForm
  try dsimp only
  repeat' (first
    | intro _
    | with_reducible assumption
    | (with_reducible apply onMsg_writes; (on_goal 1 => decide))
    | (with_reducible apply replyStatus_writes; (on_goal 2 => decide)))

theorem execMbGo_writes {wm : Nat} {z0 s : State} (wh : Writes wm z0 s) (we : 524416 ||| wm = wm) : WritesOut wm z0 (execMbGo s) := by
  refine WritesOut.step (g := 524416) ?_ we wh
  clear wh we
  have hz : Writes 524416 s s := Writes.refl _ _
  unfold execMbGo
  try dsimp only
  repeat' (first
    | with_reducible assumption
    | (with_reducible apply refuseForm_writes; (on_goal 2 => decide))
    | (with_reducible apply State.withMgmt_writes; (on_goal 2 => decide))
    | with_reducible apply WritesOut.next
    | with_reducible apply WritesOut.ite)

theorem execNopMessage_writes {sess : SessId} {req : BitVec 16} {wm : Nat} {z0 s : State} (wh : Writes wm z0 s) (we : 524416 ||| wm = wm) :
    WritesOut wm z0 (execNopMessage sess req s) := by
  refine WritesOut.step (g := 524416) ?_ we wh
  clear wh we
  have hz : Writes 524416 s s := Writes.refl _ _
  unfold execNopMessage
  try dsimp only
  repeat' (first
    | intro _
    | with_reducible assumption
    | (with_reducible apply onRole_writes; (on_goal 1 => decide))
    | (with_reducible apply replyStatus_writes; (on_goal 2 => decide)))

theorem execMsgUnknown_writes {sess : SessId} {req : BitVec 16} {msg : Nat} {wm : Nat} {z0 s : State} (wh : Writes wm z0 s) (we : 524416
    ||| wm = wm) : WritesOut wm z0 (execMsgUnknown sess req msg s) := by
  refine WritesOut.step (g := 524416) ?_ we wh
  clear wh we
  have hz : Writes 524416 s s := Writes.refl _ _
  unfold execMsgUnknown
  try dsimp only
  repeat' (first
    | intro _
    | with_reducible assumption
    | (with_reducible apply onMsg_writes; (on_goal 1 => decide))
    | (with_reducible apply reply_writes; (on_goal 2 => decide))
    | with_reducible apply WritesOut.next
    | with_reducible apply WritesOut.ite)

theorem execDescribe_writes {sess : SessId} {req : BitVec 16} {index : Nat} {sub : Nat} {wm : Nat} {z0 s : State} (wh : Writes wm z0 s) (we
    : 524416 ||| wm = wm) : WritesOut wm z0 (execDescribe sess req index sub s) := by
  refine WritesOut.step (g := 524416) ?_ we wh
  clear wh we
  have hz : Writes 524416 s s := Writes.refl _ _
  unfold execDescribe
  try dsimp only
  repeat' (first
    | intro _
    | with_reducible assumption
    | (with_reducible apply onRole_writes; (on_goal 1 => decide))
    | (with_reducible apply replyStatus_writes; (on_goal 2 => decide))
    | split)

theorem execAuthChallenge_writes {req : BitVec 16} {wm : Nat} {z0 s : State} (wh : Writes wm z0 s) (we : 524418 ||| wm = wm) : WritesOut wm
    z0 (execAuthChallenge req s) := by
  refine WritesOut.step (g := 524418) ?_ we wh
  clear wh we
  have hz : Writes 524418 s s := Writes.refl _ _
  unfold execAuthChallenge
  try dsimp only
  repeat' (first
    | intro _
    | with_reducible assumption
    | (with_reducible apply onRole_writes; (on_goal 1 => decide))
    | (with_reducible apply replyStatus_writes; (on_goal 2 => decide))
    | (with_reducible apply State.withSess_writes; (on_goal 2 => decide))
    | (with_reducible apply State.drawBytes_writes; (on_goal 2 => decide))
    | with_reducible apply WritesSnd.snd)

theorem execAuthResponse_writes {req : BitVec 16} {cred : Nat} {sig : Bytes} {wm : Nat} {z0 s : State} (wh : Writes wm z0 s) (we : 524416
    ||| wm = wm) : WritesOut wm z0 (execAuthResponse req cred sig s) := by
  refine WritesOut.step (g := 524416) ?_ we wh
  clear wh we
  have hz : Writes 524416 s s := Writes.refl _ _
  unfold execAuthResponse
  try dsimp only
  repeat' (first
    | intro _
    | with_reducible assumption
    | (with_reducible apply onRole_writes; (on_goal 1 => decide))
    | (with_reducible apply replyStatus_writes; (on_goal 2 => decide))
    | (with_reducible apply State.withSess_writes; (on_goal 2 => decide))
    | with_reducible apply Writes.ite
    | split)

theorem dropOfficer_writes {wm : Nat} {z0 s : State} (wh : Writes wm z0 s) (we : 524288 ||| wm = wm) : Writes wm z0 (dropOfficer s) := by
  refine Writes.step (g := 524288) ?_ we wh
  clear wh we
  have hz : Writes 524288 s s := Writes.refl _ _
  unfold dropOfficer
  try dsimp only
  repeat' (first
    | with_reducible assumption
    | (with_reducible apply State.withSess_writes; (on_goal 2 => decide)))

theorem execAuthDrop_writes {req : BitVec 16} {wm : Nat} {z0 s : State} (wh : Writes wm z0 s) (we : 524416 ||| wm = wm) : WritesOut wm z0
    (execAuthDrop req s) := by
  refine WritesOut.step (g := 524416) ?_ we wh
  clear wh we
  have hz : Writes 524416 s s := Writes.refl _ _
  unfold execAuthDrop
  try dsimp only
  repeat' (first
    | intro _
    | with_reducible assumption
    | (with_reducible apply dropOfficer_writes; (on_goal 2 => decide))
    | (with_reducible apply onRole_writes; (on_goal 1 => decide))
    | (with_reducible apply replyStatus_writes; (on_goal 2 => decide)))

theorem execOfficerIdle_writes {wm : Nat} {z0 s : State} (wh : Writes wm z0 s) (we : 524288 ||| wm = wm) : WritesOut wm z0 (execOfficerIdle s) := by
  refine WritesOut.step (g := 524288) ?_ we wh
  clear wh we
  have hz : Writes 524288 s s := Writes.refl _ _
  unfold execOfficerIdle
  try dsimp only
  repeat' (first
    | with_reducible assumption
    | (with_reducible apply dropOfficer_writes; (on_goal 2 => decide))
    | with_reducible apply WritesOut.next
    | with_reducible apply WritesOut.ite)

theorem reopenMailbox_writes {wm : Nat} {z0 s : State} (wh : Writes wm z0 s) (we : 524288 ||| wm = wm) : Writes wm z0 (reopenMailbox s) := by
  refine Writes.step (g := 524288) ?_ we wh
  clear wh we
  have hz : Writes 524288 s s := Writes.refl _ _
  unfold reopenMailbox
  try dsimp only
  repeat' (first
    | with_reducible assumption
    | (with_reducible apply State.withMgmt_writes; (on_goal 2 => decide)))

theorem gapEvent_writes {ev : Nat} {role : Nat} {wm : Nat} {z0 s : State} (wh : Writes wm z0 s) (we : 34 ||| wm = wm) : Writes wm z0
    (gapEvent s ev role) := by
  refine Writes.step (g := 34) ?_ we wh
  clear wh we
  have hz : Writes 34 s s := Writes.refl _ _
  unfold gapEvent
  try dsimp only
  repeat' (first
    | with_reducible assumption
    | (with_reducible apply State.event_writes; (on_goal 2 => decide))
    | (with_reducible apply State.drawNat_writes; (on_goal 2 => decide))
    | with_reducible apply WritesSnd.snd)

theorem closeGap_writes {n : Nat} {wm : Nat} {z0 s : State} (wh : Writes wm z0 s) (we : 524322 ||| wm = wm) : Writes wm z0 (closeGap s n) := by
  refine Writes.step (g := 524322) ?_ we wh
  clear wh we
  have hz : Writes 524322 s s := Writes.refl _ _
  unfold closeGap
  try dsimp only
  repeat' (first
    | with_reducible assumption
    | (with_reducible apply gapEvent_writes; (on_goal 2 => decide))
    | (with_reducible apply State.withMgmt_writes; (on_goal 2 => decide)))

theorem closeAllGap_writes {wm : Nat} {z0 s : State} (wh : Writes wm z0 s) (we : 524322 ||| wm = wm) : Writes wm z0 (closeAllGap s) := by
  refine Writes.step (g := 524322) ?_ we wh
  clear wh we
  have hz : Writes 524322 s s := Writes.refl _ _
  unfold closeAllGap
  try dsimp only
  repeat' (first
    | intro _
    | with_reducible assumption
    | (with_reducible apply closeGap_writes; (on_goal 2 => decide))
    | with_reducible apply Writes.foldl)

theorem execHello_writes {nonce : Bytes} {eph : Bytes} {cert : Bytes} {key : Bytes} {wm : Nat} {z0 s : State} (wh : Writes wm z0 s) (we :
    524322 ||| wm = wm) : WritesOut wm z0 (execHello nonce eph cert key s) := by
  refine WritesOut.step (g := 524322) ?_ we wh
  clear wh we
  have hz : Writes 524322 s s := Writes.refl _ _
  unfold execHello
  try dsimp only
  repeat' (first
    | with_reducible assumption
    | (with_reducible apply gapEvent_writes; (on_goal 2 => decide))
    | (with_reducible apply State.withMgmt_writes; (on_goal 2 => decide))
    | (with_reducible apply State.drawBytes_writes; (on_goal 2 => decide))
    | with_reducible apply WritesOut.next
    | with_reducible apply WritesOut.ite
    | with_reducible apply WritesSnd.snd)

theorem execFinish_writes {sess : Nat} {sig : Bytes} {wm : Nat} {z0 s : State} (wh : Writes wm z0 s) (we : 524322 ||| wm = wm) : WritesOut
    wm z0 (execFinish sess sig s) := by
  refine WritesOut.step (g := 524322) ?_ we wh
  clear wh we
  have hz : Writes 524322 s s := Writes.refl _ _
  unfold execFinish
  try dsimp only
  repeat' (first
    | with_reducible assumption
    | (with_reducible apply gapEvent_writes; (on_goal 2 => decide))
    | (with_reducible apply State.withSess_writes; (on_goal 2 => decide))
    | (with_reducible apply State.withMgmt_writes; (on_goal 2 => decide))
    | with_reducible apply WritesOut.next
    | with_reducible apply WritesOut.ite
    | split)

theorem execClose_writes {sess : Nat} {_req : BitVec 16} {wm : Nat} {z0 s : State} (wh : Writes wm z0 s) (we : 524322 ||| wm = wm) :
    WritesOut wm z0 (execClose sess _req s) := by
  refine WritesOut.step (g := 524322) ?_ we wh
  clear wh we
  have hz : Writes 524322 s s := Writes.refl _ _
  unfold execClose
  try dsimp only
  repeat' (first
    | with_reducible assumption
    | (with_reducible apply closeGap_writes; (on_goal 2 => decide))
    | with_reducible apply WritesOut.next
    | with_reducible apply WritesOut.ite)

theorem execGapSessionExpiry_writes {sess : Nat} {wm : Nat} {z0 s : State} (wh : Writes wm z0 s) (we : 524322 ||| wm = wm) : WritesOut wm
    z0 (execGapSessionExpiry sess s) := by
  refine WritesOut.step (g := 524322) ?_ we wh
  clear wh we
  have hz : Writes 524322 s s := Writes.refl _ _
  unfold execGapSessionExpiry
  try dsimp only
  repeat' (first
    | with_reducible assumption
    | (with_reducible apply closeGap_writes; (on_goal 2 => decide))
    | with_reducible apply WritesOut.next
    | with_reducible apply WritesOut.ite
    | split)

theorem execNotifyAck_writes {sess : Nat} {req : BitVec 16} {wm : Nat} {z0 s : State} (wh : Writes wm z0 s) (we : 524288 ||| wm = wm) :
    WritesOut wm z0 (execNotifyAck sess req s) := by
  refine WritesOut.step (g := 524288) ?_ we wh
  clear wh we
  have hz : Writes 524288 s s := Writes.refl _ _
  unfold execNotifyAck
  try dsimp only
  repeat' (first
    | with_reducible assumption
    | (with_reducible apply State.withSess_writes; (on_goal 2 => decide))
    | with_reducible apply WritesOut.next
    | with_reducible apply WritesOut.ite)

theorem execNotifyResend_writes {sess : Nat} {req : BitVec 16} {wm : Nat} {z0 s : State} (wh : Writes wm z0 s) (we : 524288 ||| wm = wm) :
    WritesOut wm z0 (execNotifyResend sess req s) := by
  refine WritesOut.step (g := 524288) ?_ we wh
  clear wh we
  have hz : Writes 524288 s s := Writes.refl _ _
  unfold execNotifyResend
  try dsimp only
  repeat' (first
    | with_reducible assumption
    | (with_reducible apply State.withSess_writes; (on_goal 2 => decide))
    | with_reducible apply WritesOut.next
    | with_reducible apply WritesOut.ite)

theorem takeFrame_writes {x0 : FrameKind} {wm : Nat} {z0 s : State} (wh : Writes wm z0 s) (we : 1074266240 ||| wm = wm) : WritesOut wm z0
    (takeFrame s x0) := by
  refine WritesOut.step (g := 1074266240) ?_ we wh
  clear wh we
  have hz : Writes 1074266240 s s := Writes.refl _ _
  unfold takeFrame
  try dsimp only
  repeat' (first
    | with_reducible assumption
    | (with_reducible apply refuseForm_writes; (on_goal 2 => decide))
    | (with_reducible apply State.withSess_writes; (on_goal 2 => decide))
    | (with_reducible apply State.withMgmt_writes; (on_goal 2 => decide))
    | (with_reducible apply State.bump_writes; (on_goal 2 => decide))
    | with_reducible apply WritesOut.next
    | with_reducible apply WritesOut.ite
    | split)

theorem execInboundFrame_writes {frame : FrameKind} {wm : Nat} {z0 s : State} (wh : Writes wm z0 s) (we : 1074266240 ||| wm = wm) :
    WritesOut wm z0 (execInboundFrame frame s) := by
  refine WritesOut.step (g := 1074266240) ?_ we wh
  clear wh we
  have hz : Writes 1074266240 s s := Writes.refl _ _
  unfold execInboundFrame
  try dsimp only
  repeat' (first
    | with_reducible assumption
    | (with_reducible apply takeFrame_writes; (on_goal 2 => decide))
    | (with_reducible apply State.withMgmt_writes; (on_goal 2 => decide))
    | (with_reducible apply State.bump_writes; (on_goal 2 => decide))
    | with_reducible apply WritesOut.next
    | with_reducible apply WritesOut.ite)

theorem guardStep_writes {x : ChangeSet} {c : Nat} {wm : Nat} {z0 s : State} (wh : Writes wm z0 s) (we : 1073741824 ||| wm = wm) : Writes
    wm z0 (guardStep s x c) := by
  refine Writes.step (g := 1073741824) ?_ we wh
  clear wh we
  have hz : Writes 1073741824 s s := Writes.refl _ _
  unfold guardStep
  try dsimp only
  repeat' (first
    | with_reducible assumption
    | (with_reducible apply State.gset_writes; (on_goal 2 => decide))
    | with_reducible apply Writes.ite)

theorem execCsSeal_writes {sess : SessId} {req : BitVec 16} {wm : Nat} {z0 s : State} (wh : Writes wm z0 s) (we : 1074266272 ||| wm = wm) :
    WritesOut wm z0 (execCsSeal sess req s) := by
  refine WritesOut.step (g := 1074266272) ?_ we wh
  clear wh we
  have hz : Writes 1074266272 s s := Writes.refl _ _
  unfold execCsSeal
  try dsimp only
  repeat' (first
    | intro _
    | with_reducible assumption
    | (with_reducible apply guardStep_writes; (on_goal 2 => decide))
    | (with_reducible apply onRole_writes; (on_goal 1 => decide))
    | (with_reducible apply csNote_writes; (on_goal 2 => decide))
    | (with_reducible apply replyStatus_writes; (on_goal 2 => decide))
    | (with_reducible apply State.withSess_writes; (on_goal 2 => decide))
    | (with_reducible apply State.withMgmt_writes; (on_goal 2 => decide))
    | (with_reducible apply State.gset_writes; (on_goal 2 => decide))
    | with_reducible apply Writes.ite
    | split)

theorem execCsSign_writes {sess : SessId} {req : BitVec 16} {change : Nat} {cred : Nat} {sig : Bytes} {wm : Nat} {z0 s : State} (wh :
    Writes wm z0 s) (we : 1074331808 ||| wm = wm) : WritesOut wm z0 (execCsSign sess req change cred sig s) := by
  refine WritesOut.step (g := 1074331808) ?_ we wh
  clear wh we
  have hz : Writes 1074331808 s s := Writes.refl _ _
  unfold execCsSign
  try dsimp only
  repeat' (first
    | intro _
    | with_reducible assumption
    | (with_reducible apply guardStep_writes; (on_goal 2 => decide))
    | (with_reducible apply onRole_writes; (on_goal 1 => decide))
    | (with_reducible apply freeSet_writes; (on_goal 2 => decide))
    | (with_reducible apply csNote_writes; (on_goal 2 => decide))
    | (with_reducible apply replyStatus_writes; (on_goal 2 => decide))
    | (with_reducible apply State.withMgmt_writes; (on_goal 2 => decide))
    | with_reducible apply Writes.ite
    | split)

theorem execCsCancel_writes {sess : SessId} {req : BitVec 16} {change : Nat} {wm : Nat} {z0 s : State} (wh : Writes wm z0 s) (we :
    1074331808 ||| wm = wm) : WritesOut wm z0 (execCsCancel sess req change s) := by
  refine WritesOut.step (g := 1074331808) ?_ we wh
  clear wh we
  have hz : Writes 1074331808 s s := Writes.refl _ _
  unfold execCsCancel
  try dsimp only
  repeat' (first
    | intro _
    | with_reducible assumption
    | (with_reducible apply onRole_writes; (on_goal 1 => decide))
    | (with_reducible apply freeSet_writes; (on_goal 2 => decide))
    | (with_reducible apply replyStatus_writes; (on_goal 2 => decide))
    | with_reducible apply Writes.ite
    | split)

theorem execCsQuery_writes {sess : SessId} {req : BitVec 16} {change : Nat} {off : Nat} {wm : Nat} {z0 s : State} (wh : Writes wm z0 s) (we
    : 524416 ||| wm = wm) : WritesOut wm z0 (execCsQuery sess req change off s) := by
  refine WritesOut.step (g := 524416) ?_ we wh
  clear wh we
  have hz : Writes 524416 s s := Writes.refl _ _
  unfold execCsQuery
  try dsimp only
  repeat' (first
    | intro _
    | with_reducible assumption
    | (with_reducible apply onRole_writes; (on_goal 1 => decide))
    | (with_reducible apply replyStatus_writes; (on_goal 2 => decide))
    | split)

theorem execCsDiscard_writes {sess : SessId} {req : BitVec 16} {wm : Nat} {z0 s : State} (wh : Writes wm z0 s) (we : 524416 ||| wm = wm) :
    WritesOut wm z0 (execCsDiscard sess req s) := by
  refine WritesOut.step (g := 524416) ?_ we wh
  clear wh we
  have hz : Writes 524416 s s := Writes.refl _ _
  unfold execCsDiscard
  try dsimp only
  repeat' (first
    | intro _
    | with_reducible assumption
    | (with_reducible apply onRole_writes; (on_goal 1 => decide))
    | (with_reducible apply replyStatus_writes; (on_goal 2 => decide))
    | (with_reducible apply State.withSess_writes; (on_goal 2 => decide)))

theorem execCountersignExpiry_writes {slot : Nat} {wm : Nat} {z0 s : State} (wh : Writes wm z0 s) (we : 1074331680 ||| wm = wm) : WritesOut
    wm z0 (execCountersignExpiry slot s) := by
  refine WritesOut.step (g := 1074331680) ?_ we wh
  clear wh we
  have hz : Writes 1074331680 s s := Writes.refl _ _
  unfold execCountersignExpiry
  try dsimp only
  repeat' (first
    | with_reducible assumption
    | (with_reducible apply freeSet_writes; (on_goal 2 => decide))
    | with_reducible apply WritesOut.next
    | with_reducible apply WritesOut.ite)

theorem approve_writes {k : Nat} {slot : Nat} {counter : Nat} {wm : Nat} {z0 s : State} (wh : Writes wm z0 s) (we : 1074331680 ||| wm = wm)
    : WritesSnd wm z0 (approve s k slot counter) := by
  refine WritesSnd.step (g := 1074331680) ?_ we wh
  clear wh we
  have hz : Writes 1074331680 s s := Writes.refl _ _
  unfold approve
  try dsimp only
  repeat' (first
    | with_reducible assumption
    | (with_reducible apply freeSet_writes; (on_goal 2 => decide))
    | (with_reducible apply csNote_writes; (on_goal 2 => decide))
    | (with_reducible apply State.withMgmt_writes; (on_goal 2 => decide))
    | with_reducible apply WritesSnd.mk
    | split)

theorem losePower_writes {wm : Nat} {z0 s : State} (wh : Writes wm z0 s) (we : 524288 ||| wm = wm) : Writes wm z0 (losePower s) := by
  refine Writes.step (g := 524288) ?_ we wh
  clear wh we
  have hz : Writes 524288 s s := Writes.refl _ _
  unfold losePower
  try dsimp only
  repeat' (first
    | with_reducible assumption
    | (with_reducible apply State.withMgmt_writes; (on_goal 2 => decide)))

theorem endCredSessions_writes {k : Nat} {wm : Nat} {z0 s : State} (wh : Writes wm z0 s) (we : 524322 ||| wm = wm) : Writes wm z0
    (endCredSessions s k) := by
  refine Writes.step (g := 524322) ?_ we wh
  clear wh we
  have hz : Writes 524322 s s := Writes.refl _ _
  unfold endCredSessions
  try dsimp only
  repeat' (first
    | intro _
    | with_reducible assumption
    | (with_reducible apply closeGap_writes; (on_goal 2 => decide))
    | (with_reducible apply dropOfficer_writes; (on_goal 2 => decide))
    | with_reducible apply Writes.ite
    | with_reducible apply Writes.foldl)

/-! ### Approve -/

theorem State.withAppr_writes {f : Approvals → Approvals} {wm : Nat} {z0 s : State} (wh : Writes wm z0 s) (we : 67108864 ||| wm = wm) :
    Writes wm z0 (State.withAppr s f) := by
  refine Writes.step (g := 67108864) ?_ we wh
  clear wh we
  have hz : Writes 67108864 s s := Writes.refl _ _
  unfold State.withAppr
  try dsimp only
  repeat' (first
    | (with_reducible refine Writes.upd_appr ?_ ?_; (on_goal 2 => decide); with_reducible assumption))

theorem State.withTok_writes {b : Bool} {f : TokSt → TokSt} {wm : Nat} {z0 s : State} (wh : Writes wm z0 s) (we : 67108864 ||| wm = wm) :
    Writes wm z0 (State.withTok s b f) := by
  refine Writes.step (g := 67108864) ?_ we wh
  clear wh we
  have hz : Writes 67108864 s s := Writes.refl _ _
  unfold State.withTok
  try dsimp only
  repeat' (first
    | with_reducible assumption
    | (with_reducible apply State.withAppr_writes; (on_goal 2 => decide)))

theorem setResult_writes {b : Bool} {st : Nat} {wm : Nat} {z0 s : State} (wh : Writes wm z0 s) (we : 1073741824 ||| wm = wm) : Writes wm z0
    (setResult s b st) := by
  refine Writes.step (g := 1073741824) ?_ we wh
  clear wh we
  have hz : Writes 1073741824 s s := Writes.refl _ _
  unfold setResult
  try dsimp only
  repeat' (first
    | with_reducible assumption
    | (with_reducible apply State.gset_writes; (on_goal 2 => decide)))

theorem sendTok_writes {b : Bool} {g : TokStage} {wm : Nat} {z0 s : State} (wh : Writes wm z0 s) (we : 67108864 ||| wm = wm) : Writes wm z0
    (sendTok s b g) := by
  refine Writes.step (g := 67108864) ?_ we wh
  clear wh we
  have hz : Writes 67108864 s s := Writes.refl _ _
  unfold sendTok
  try dsimp only
  repeat' (first
    | with_reducible assumption
    | (with_reducible apply State.withTok_writes; (on_goal 2 => decide)))

theorem endRequest_writes {b : Bool} {st : Nat} {wm : Nat} {z0 s : State} (wh : Writes wm z0 s) (we : 1140850688 ||| wm = wm) : Writes wm
    z0 (endRequest s b st) := by
  refine Writes.step (g := 1140850688) ?_ we wh
  clear wh we
  have hz : Writes 1140850688 s s := Writes.refl _ _
  unfold endRequest
  try dsimp only
  repeat' (first
    | with_reducible assumption
    | (with_reducible apply setResult_writes; (on_goal 2 => decide))
    | (with_reducible apply State.withTok_writes; (on_goal 2 => decide))
    | (with_reducible apply State.withAppr_writes; (on_goal 2 => decide)))

theorem resolveMidstep_writes {b : Bool} {m : Midstep} {counted : Bool} {wm : Nat} {z0 s : State} (wh : Writes wm z0 s) (we : 67108896 |||
    wm = wm) : Writes wm z0 (resolveMidstep s b m counted) := by
  refine Writes.step (g := 67108896) ?_ we wh
  clear wh we
  have hz : Writes 67108896 s s := Writes.refl _ _
  unfold resolveMidstep
  try dsimp only
  repeat' (first
    | with_reducible assumption
    | (with_reducible apply State.withAppr_writes; (on_goal 2 => decide))
    | (with_reducible apply State.event_writes; (on_goal 2 => decide)))

theorem becomeReady_writes {b : Bool} {slot : Nat} {counter : Nat} {wm : Nat} {z0 s : State} (wh : Writes wm z0 s) (we : 67108896 ||| wm =
    wm) : Writes wm z0 (becomeReady s b slot counter) := by
  refine Writes.step (g := 67108896) ?_ we wh
  clear wh we
  have hz : Writes 67108896 s s := Writes.refl _ _
  unfold becomeReady
  try dsimp only
  repeat' (first
    | with_reducible assumption
    | (with_reducible apply resolveMidstep_writes; (on_goal 2 => decide))
    | (with_reducible apply sendTok_writes; (on_goal 2 => decide))
    | (with_reducible apply State.withTok_writes; (on_goal 2 => decide))
    | with_reducible apply Writes.ite
    | split)

theorem takeReceipt_writes {b : Bool} {sw : Nat} {data : Bytes} {wm : Nat} {z0 s : State} (wh : Writes wm z0 s) (we : 1141440544 ||| wm =
    wm) : Writes wm z0 (takeReceipt s b sw data) := by
  refine Writes.step (g := 1141440544) ?_ we wh
  clear wh we
  have hz : Writes 1141440544 s s := Writes.refl _ _
  unfold takeReceipt
  try dsimp only
  repeat' (first
    | with_reducible assumption
    | (with_reducible apply resolveMidstep_writes; (on_goal 2 => decide))
    | (with_reducible apply sendTok_writes; (on_goal 2 => decide))
    | (with_reducible apply approve_writes; (on_goal 2 => decide))
    | (with_reducible apply State.withMgmt_writes; (on_goal 2 => decide))
    | with_reducible apply Writes.ite
    | split
    | with_reducible apply WritesSnd.snd)

theorem takeApproval_writes {b : Bool} {r : AppReq} {data : Bytes} {wm : Nat} {z0 s : State} (wh : Writes wm z0 s) (we : 1141440544 ||| wm
    = wm) : Writes wm z0 (takeApproval s b r data) := by
  refine Writes.step (g := 1141440544) ?_ we wh
  clear wh we
  have hz : Writes 1141440544 s s := Writes.refl _ _
  unfold takeApproval
  try dsimp only
  repeat' (first
    | with_reducible assumption
    | (with_reducible apply endRequest_writes; (on_goal 2 => decide))
    | (with_reducible apply approve_writes; (on_goal 2 => decide))
    | with_reducible apply Writes.ite
    | split
    | with_reducible apply WritesSnd.snd)

theorem takePin_writes {b : Bool} {r : AppReq} {sw : Nat} {wm : Nat} {z0 s : State} (wh : Writes wm z0 s) (we : 1141440544 ||| wm = wm) :
    Writes wm z0 (takePin s b r sw) := by
  refine Writes.step (g := 1141440544) ?_ we wh
  clear wh we
  have hz : Writes 1141440544 s s := Writes.refl _ _
  unfold takePin
  try dsimp only
  repeat' (first
    | with_reducible assumption
    | (with_reducible apply endRequest_writes; (on_goal 2 => decide))
    | (with_reducible apply sendTok_writes; (on_goal 2 => decide))
    | (with_reducible apply freeSet_writes; (on_goal 2 => decide))
    | with_reducible apply Writes.ite
    | split)

theorem tokGone_writes {b : Bool} {g : TokStage} {st : Nat} {wm : Nat} {z0 s : State} (wh : Writes wm z0 s) (we : 1140850720 ||| wm = wm) :
    Writes wm z0 (tokGone s b g st) := by
  refine Writes.step (g := 1140850720) ?_ we wh
  clear wh we
  have hz : Writes 1140850720 s s := Writes.refl _ _
  unfold tokGone
  try dsimp only
  repeat' (first
    | with_reducible assumption
    | (with_reducible apply setResult_writes; (on_goal 2 => decide))
    | (with_reducible apply State.withTok_writes; (on_goal 2 => decide))
    | (with_reducible apply State.withAppr_writes; (on_goal 2 => decide))
    | (with_reducible apply State.event_writes; (on_goal 2 => decide))
    | (with_reducible apply State.bump_writes; (on_goal 2 => decide))
    | with_reducible apply Writes.ite
    | split)

theorem blockFails_writes {b : Bool} {wm : Nat} {z0 s : State} (wh : Writes wm z0 s) (we : 1140850720 ||| wm = wm) : Writes wm z0
    (blockFails s b) := by
  refine Writes.step (g := 1140850720) ?_ we wh
  clear wh we
  have hz : Writes 1140850720 s s := Writes.refl _ _
  unfold blockFails
  try dsimp only
  repeat' (first
    | with_reducible assumption
    | (with_reducible apply tokGone_writes; (on_goal 2 => decide))
    | (with_reducible apply setResult_writes; (on_goal 2 => decide))
    | (with_reducible apply State.withTok_writes; (on_goal 2 => decide))
    | with_reducible apply Writes.ite)

theorem grantWtx_writes {b : Bool} {secs : Nat} {wm : Nat} {z0 s : State} (wh : Writes wm z0 s) (we : 1140850720 ||| wm = wm) : Writes wm
    z0 (grantWtx s b secs) := by
  refine Writes.step (g := 1140850720) ?_ we wh
  clear wh we
  have hz : Writes 1140850720 s s := Writes.refl _ _
  unfold grantWtx
  try dsimp only
  repeat' (first
    | with_reducible assumption
    | (with_reducible apply tokGone_writes; (on_goal 2 => decide))
    | (with_reducible apply setResult_writes; (on_goal 2 => decide))
    | (with_reducible apply State.withTok_writes; (on_goal 2 => decide))
    | with_reducible apply Writes.ite)

theorem takeResp_writes {b : Bool} {sw : Nat} {data : Bytes} {wm : Nat} {z0 s : State} (wh : Writes wm z0 s) (we : 1141440544 ||| wm = wm)
    : Writes wm z0 (takeResp s b sw data) := by
  refine Writes.step (g := 1141440544) ?_ we wh
  clear wh we
  have hz : Writes 1141440544 s s := Writes.refl _ _
  unfold takeResp
  try dsimp only
  repeat' (first
    | with_reducible assumption
    | (with_reducible apply takePin_writes; (on_goal 2 => decide))
    | (with_reducible apply takeApproval_writes; (on_goal 2 => decide))
    | (with_reducible apply takeReceipt_writes; (on_goal 2 => decide))
    | (with_reducible apply endRequest_writes; (on_goal 2 => decide))
    | with_reducible apply Writes.ite
    | split)

theorem beginRequest_writes {b : Bool} {v : Bytes} {wm : Nat} {z0 s : State} (wh : Writes wm z0 s) (we : 1140850688 ||| wm = wm) :
    WritesSnd wm z0 (beginRequest s b v) := by
  refine WritesSnd.step (g := 1140850688) ?_ we wh
  clear wh we
  have hz : Writes 1140850688 s s := Writes.refl _ _
  unfold beginRequest
  try dsimp only
  repeat' (first
    | with_reducible assumption
    | (with_reducible apply sendTok_writes; (on_goal 2 => decide))
    | (with_reducible apply setResult_writes; (on_goal 2 => decide))
    | (with_reducible apply State.withAppr_writes; (on_goal 2 => decide))
    | with_reducible apply WritesSnd.mk
    | split)

theorem requestWrite_writes {x : SessId} {req : BitVec 16} {b : Bool} {v : Bytes} {wm : Nat} {z0 s : State} (wh : Writes wm z0 s) (we :
    1141375104 ||| wm = wm) : Writes wm z0 (requestWrite s x req b v) := by
  refine Writes.step (g := 1141375104) ?_ we wh
  clear wh we
  have hz : Writes 1141375104 s s := Writes.refl _ _
  unfold requestWrite
  try dsimp only
  repeat' (first
    | with_reducible assumption
    | (with_reducible apply beginRequest_writes; (on_goal 2 => decide))
    | (with_reducible apply countRefusal_writes; (on_goal 2 => decide))
    | (with_reducible apply replyStatus_writes; (on_goal 2 => decide))
    | with_reducible apply Writes.ite
    | with_reducible apply WritesSnd.snd)

theorem recheckTok_writes {wm : Nat} {z0 s : State} (wh : Writes wm z0 s) (we : 67108864 ||| wm = wm) : Writes wm z0 (recheckTok s) := by
  refine Writes.step (g := 67108864) ?_ we wh
  clear wh we
  have hz : Writes 67108864 s s := Writes.refl _ _
  unfold recheckTok
  try dsimp only
  repeat' (first
    | with_reducible assumption
    | (with_reducible apply sendTok_writes; (on_goal 2 => decide))
    | with_reducible apply Writes.ite)

end Sys2Proof.Machine
end

