-- ==== Sys2Proof/Laws/Writes5.lean ====
section
/-! SUPPORT. Which fields each operation can write (see Writes.lean), operation by operation: Classical, Lattice, KeyMove, Lanes, Streams, DmaCh. -/

set_option linter.unusedTactic false
set_option linter.unreachableTactic false
set_option linter.unusedVariables false

namespace Sys2Proof.Machine

open Sys2Proof

/-! ### Classical -/

theorem rsaPrivate_writes {id : Nat} {x : Nat} {out : Nat → State} {s z0 : State} {wm : Nat} (hm : 20593825522 ||| wm = wm) (wh : Writes wm
    z0 s) (hout : ∀ y0, Writes wm z0 (out y0)) :
    Writes wm z0 (rsaPrivate s id x out) := by
  unfold rsaPrivate
  try dsimp only
  repeat' (first
    | with_reducible assumption
    | with_reducible apply hout
    | (with_reducible apply releaseFail_writes; (on_goal 2 => (first | decide | exact Writes.sub (by decide) hm)))
    | with_reducible apply Writes.ite)

theorem rsaOut_writes {id : Nat} {x : Nat} {wm : Nat} {z0 s : State} (wh : Writes wm z0 s) (we : 20593825522 ||| wm = wm) : Writes wm z0
    (rsaOut s id x) := by
  refine Writes.step (g := 20593825522) ?_ we wh
  clear wh we
  have hz : Writes 20593825522 s s := Writes.refl _ _
  unfold rsaOut
  try dsimp only
  repeat' (first
    | intro _
    | with_reducible assumption
    | (with_reducible apply rsaPrivate_writes; (on_goal 1 => decide))
    | (with_reducible apply passJob_writes; (on_goal 2 => decide)))

theorem execRsaPrivate_writes {job : Nat} {wm : Nat} {z0 s : State} (wh : Writes wm z0 s) (we : 20593825522 ||| wm = wm) : WritesOut wm z0
    (execRsaPrivate job s) := by
  refine WritesOut.step (g := 20593825522) ?_ we wh
  clear wh we
  have hz : Writes 20593825522 s s := Writes.refl _ _
  unfold execRsaPrivate
  try dsimp only
  repeat' (first
    | intro _
    | with_reducible assumption
    | (with_reducible apply rsaOut_writes; (on_goal 2 => decide))
    | (with_reducible apply failValid_writes; (on_goal 2 => decide))
    | (with_reducible apply onSquad_writes; (on_goal 1 => decide))
    | with_reducible apply Writes.ite)

theorem execRsaPublic_writes {job : Nat} {wm : Nat} {z0 s : State} (wh : Writes wm z0 s) (we : 3260044450 ||| wm = wm) : WritesOut wm z0
    (execRsaPublic job s) := by
  refine WritesOut.step (g := 3260044450) ?_ we wh
  clear wh we
  have hz : Writes 3260044450 s s := Writes.refl _ _
  unfold execRsaPublic
  try dsimp only
  repeat' (first
    | intro _
    | with_reducible assumption
    | (with_reducible apply failValid_writes; (on_goal 2 => decide))
    | (with_reducible apply passJob_writes; (on_goal 2 => decide))
    | (with_reducible apply onSquad_writes; (on_goal 1 => decide))
    | with_reducible apply Writes.ite)

theorem execRsaSignV15_writes {job : Nat} {wm : Nat} {z0 s : State} (wh : Writes wm z0 s) (we : 20593825522 ||| wm = wm) : WritesOut wm z0
    (execRsaSignV15 job s) := by
  refine WritesOut.step (g := 20593825522) ?_ we wh
  clear wh we
  have hz : Writes 20593825522 s s := Writes.refl _ _
  unfold execRsaSignV15
  try dsimp only
  repeat' (first
    | intro _
    | with_reducible assumption
    | (with_reducible apply rsaOut_writes; (on_goal 2 => decide))
    | (with_reducible apply onSquad_writes; (on_goal 1 => decide)))

theorem execRsaSignPss_writes {job : Nat} {wm : Nat} {z0 s : State} (wh : Writes wm z0 s) (we : 20593825522 ||| wm = wm) : WritesOut wm z0
    (execRsaSignPss job s) := by
  refine WritesOut.step (g := 20593825522) ?_ we wh
  clear wh we
  have hz : Writes 20593825522 s s := Writes.refl _ _
  unfold execRsaSignPss
  try dsimp only
  repeat' (first
    | intro _
    | with_reducible assumption
    | (with_reducible apply rsaOut_writes; (on_goal 2 => decide))
    | (with_reducible apply onSquad_writes; (on_goal 1 => decide))
    | (with_reducible apply rngDraw_writes; (on_goal 2 => decide))
    | split
    | with_reducible apply WritesSnd.snd)

theorem rsaVerify_writes {id : Nat} {form : Desc → Nat → Bytes → Bytes → Bool} {matches_ : Desc → Nat → Bytes → Bytes → Bool} {wm : Nat}
    {z0 s : State} (wh : Writes wm z0 s) (we : 2186302592 ||| wm = wm) : Writes wm z0 (rsaVerify s id form matches_) := by
  refine Writes.step (g := 2186302592) ?_ we wh
  clear wh we
  have hz : Writes 2186302592 s s := Writes.refl _ _
  unfold rsaVerify
  try dsimp only
  repeat' (first
    | with_reducible assumption
    | (with_reducible apply failValid_writes; (on_goal 2 => decide))
    | (with_reducible apply passJob_writes; (on_goal 2 => decide))
    | with_reducible apply Writes.ite)

theorem execRsaVerifyV15_writes {job : Nat} {wm : Nat} {z0 s : State} (wh : Writes wm z0 s) (we : 3260044450 ||| wm = wm) : WritesOut wm z0
    (execRsaVerifyV15 job s) := by
  refine WritesOut.step (g := 3260044450) ?_ we wh
  clear wh we
  have hz : Writes 3260044450 s s := Writes.refl _ _
  unfold execRsaVerifyV15
  try dsimp only
  repeat' (first
    | intro _
    | with_reducible assumption
    | (with_reducible apply rsaVerify_writes; (on_goal 2 => decide))
    | (with_reducible apply onSquad_writes; (on_goal 1 => decide)))

theorem execRsaVerifyPss_writes {job : Nat} {wm : Nat} {z0 s : State} (wh : Writes wm z0 s) (we : 3260044450 ||| wm = wm) : WritesOut wm z0
    (execRsaVerifyPss job s) := by
  refine WritesOut.step (g := 3260044450) ?_ we wh
  clear wh we
  have hz : Writes 3260044450 s s := Writes.refl _ _
  unfold execRsaVerifyPss
  try dsimp only
  repeat' (first
    | intro _
    | with_reducible assumption
    | (with_reducible apply rsaVerify_writes; (on_goal 2 => decide))
    | (with_reducible apply onSquad_writes; (on_goal 1 => decide)))

theorem execRsaEncryptOaep_writes {job : Nat} {wm : Nat} {z0 s : State} (wh : Writes wm z0 s) (we : 3262141602 ||| wm = wm) : WritesOut wm
    z0 (execRsaEncryptOaep job s) := by
  refine WritesOut.step (g := 3262141602) ?_ we wh
  clear wh we
  have hz : Writes 3262141602 s s := Writes.refl _ _
  unfold execRsaEncryptOaep
  try dsimp only
  repeat' (first
    | intro _
    | with_reducible assumption
    | (with_reducible apply failValid_writes; (on_goal 2 => decide))
    | (with_reducible apply passJob_writes; (on_goal 2 => decide))
    | (with_reducible apply onSquad_writes; (on_goal 1 => decide))
    | (with_reducible apply rngDraw_writes; (on_goal 2 => decide))
    | with_reducible apply Writes.ite
    | with_reducible apply WritesSnd.snd)

theorem execRsaDecryptOaep_writes {job : Nat} {wm : Nat} {z0 s : State} (wh : Writes wm z0 s) (we : 20593825522 ||| wm = wm) : WritesOut wm
    z0 (execRsaDecryptOaep job s) := by
  refine WritesOut.step (g := 20593825522) ?_ we wh
  clear wh we
  have hz : Writes 20593825522 s s := Writes.refl _ _
  unfold execRsaDecryptOaep
  try dsimp only
  repeat' (first
    | intro _
    | with_reducible assumption
    | (with_reducible apply rsaPrivate_writes; (on_goal 1 => decide))
    | (with_reducible apply failValid_writes; (on_goal 2 => decide))
    | (with_reducible apply passJob_writes; (on_goal 2 => decide))
    | (with_reducible apply onSquad_writes; (on_goal 1 => decide))
    | (with_reducible apply finishWith_writes; (on_goal 2 => decide))
    | with_reducible apply Writes.ite
    | split)

theorem execEcdsaSign_writes {job : Nat} {wm : Nat} {z0 s : State} (wh : Writes wm z0 s) (we : 20593825522 ||| wm = wm) : WritesOut wm z0
    (execEcdsaSign job s) := by
  refine WritesOut.step (g := 20593825522) ?_ we wh
  clear wh we
  have hz : Writes 20593825522 s s := Writes.refl _ _
  unfold execEcdsaSign
  try dsimp only
  repeat' (first
    | intro _
    | with_reducible assumption
    | (with_reducible apply passJob_writes; (on_goal 2 => decide))
    | (with_reducible apply onSquad_writes; (on_goal 1 => decide))
    | (with_reducible apply releaseFail_writes; (on_goal 2 => decide))
    | (with_reducible apply rngDraw_writes; (on_goal 2 => decide))
    | (with_reducible apply State.bump_writes; (on_goal 2 => decide))
    | with_reducible apply Writes.ite
    | with_reducible apply WritesSnd.snd)

theorem execEcdsaVerify_writes {job : Nat} {wm : Nat} {z0 s : State} (wh : Writes wm z0 s) (we : 3260044450 ||| wm = wm) : WritesOut wm z0
    (execEcdsaVerify job s) := by
  refine WritesOut.step (g := 3260044450) ?_ we wh
  clear wh we
  have hz : Writes 3260044450 s s := Writes.refl _ _
  unfold execEcdsaVerify
  try dsimp only
  repeat' (first
    | intro _
    | with_reducible assumption
    | (with_reducible apply failValid_writes; (on_goal 2 => decide))
    | (with_reducible apply passJob_writes; (on_goal 2 => decide))
    | (with_reducible apply onSquad_writes; (on_goal 1 => decide))
    | with_reducible apply Writes.ite)

theorem execEcdh_writes {job : Nat} {wm : Nat} {z0 s : State} (wh : Writes wm z0 s) (we : 20593825522 ||| wm = wm) : WritesOut wm z0
    (execEcdh job s) := by
  refine WritesOut.step (g := 20593825522) ?_ we wh
  clear wh we
  have hz : Writes 20593825522 s s := Writes.refl _ _
  unfold execEcdh
  try dsimp only
  repeat' (first
    | intro _
    | with_reducible assumption
    | (with_reducible apply failValid_writes; (on_goal 2 => decide))
    | (with_reducible apply passJob_writes; (on_goal 2 => decide))
    | (with_reducible apply onSquad_writes; (on_goal 1 => decide))
    | (with_reducible apply releaseFail_writes; (on_goal 2 => decide))
    | (with_reducible apply rngDraw_writes; (on_goal 2 => decide))
    | with_reducible apply Writes.ite
    | split
    | with_reducible apply WritesSnd.snd)

theorem execEddsaSign_writes {job : Nat} {wm : Nat} {z0 s : State} (wh : Writes wm z0 s) (we : 20593825522 ||| wm = wm) : WritesOut wm z0
    (execEddsaSign job s) := by
  refine WritesOut.step (g := 20593825522) ?_ we wh
  clear wh we
  have hz : Writes 20593825522 s s := Writes.refl _ _
  unfold execEddsaSign
  try dsimp only
  repeat' (first
    | intro _
    | with_reducible assumption
    | (with_reducible apply passJob_writes; (on_goal 2 => decide))
    | (with_reducible apply onSquad_writes; (on_goal 1 => decide))
    | (with_reducible apply releaseFail_writes; (on_goal 2 => decide))
    | with_reducible apply Writes.ite)

theorem execEddsaVerify_writes {job : Nat} {wm : Nat} {z0 s : State} (wh : Writes wm z0 s) (we : 3260044450 ||| wm = wm) : WritesOut wm z0
    (execEddsaVerify job s) := by
  refine WritesOut.step (g := 3260044450) ?_ we wh
  clear wh we
  have hz : Writes 3260044450 s s := Writes.refl _ _
  unfold execEddsaVerify
  try dsimp only
  repeat' (first
    | intro _
    | with_reducible assumption
    | (with_reducible apply failValid_writes; (on_goal 2 => decide))
    | (with_reducible apply passJob_writes; (on_goal 2 => decide))
    | (with_reducible apply onSquad_writes; (on_goal 1 => decide))
    | with_reducible apply Writes.ite)

theorem execXdh_writes {job : Nat} {wm : Nat} {z0 s : State} (wh : Writes wm z0 s) (we : 20593825522 ||| wm = wm) : WritesOut wm z0
    (execXdh job s) := by
  refine WritesOut.step (g := 20593825522) ?_ we wh
  clear wh we
  have hz : Writes 20593825522 s s := Writes.refl _ _
  unfold execXdh
  try dsimp only
  repeat' (first
    | intro _
    | with_reducible assumption
    | (with_reducible apply failValid_writes; (on_goal 2 => decide))
    | (with_reducible apply passJob_writes; (on_goal 2 => decide))
    | (with_reducible apply onSquad_writes; (on_goal 1 => decide))
    | (with_reducible apply releaseFail_writes; (on_goal 2 => decide))
    | (with_reducible apply rngDraw_writes; (on_goal 2 => decide))
    | with_reducible apply Writes.ite
    | with_reducible apply WritesSnd.snd)

theorem runKeygen_writes {id : Nat} {cls : Nat} {f : Attr → State} {s z0 : State} {wm : Nat} (hm : 2186302592 ||| wm = wm) (wh : Writes wm
    z0 s) (hf : ∀ y0, Writes wm z0 (f y0)) :
    Writes wm z0 (runKeygen s id cls f) := by
  unfold runKeygen
  try dsimp only
  repeat' (first
    | with_reducible assumption
    | with_reducible apply hf
    | (with_reducible apply failValid_writes; (on_goal 2 => (first | decide | exact Writes.sub (by decide) hm)))
    | (with_reducible apply finish_writes; (on_goal 2 => (first | decide | exact Writes.sub (by decide) hm)))
    | with_reducible apply Writes.ite)

theorem rebatch_writes {id : Nat} {wm : Nat} {z0 s : State} (wh : Writes wm z0 s) (we : 1073742848 ||| wm = wm) : Writes wm z0 (rebatch s id) := by
  refine Writes.step (g := 1073742848) ?_ we wh
  clear wh we
  have hz : Writes 1073742848 s s := Writes.refl _ _
  unfold rebatch
  try dsimp only
  repeat' (first
    | with_reducible assumption
    | (with_reducible apply State.withJob_writes; (on_goal 2 => decide))
    | (with_reducible apply State.bump_writes; (on_goal 2 => decide)))

theorem execRsaKeygen_writes {job : Nat} {wm : Nat} {z0 s : State} (wh : Writes wm z0 s) (we : 20593825522 ||| wm = wm) : WritesOut wm z0
    (execRsaKeygen job s) := by
  refine WritesOut.step (g := 20593825522) ?_ we wh
  clear wh we
  have hz : Writes 20593825522 s s := Writes.refl _ _
  unfold execRsaKeygen
  try dsimp only
  repeat' (first
    | intro _
    | with_reducible assumption
    | (with_reducible apply rebatch_writes; (on_goal 2 => decide))
    | (with_reducible apply runKeygen_writes; (on_goal 1 => decide))
    | (with_reducible apply onSquad_writes; (on_goal 1 => decide))
    | (with_reducible apply releaseFail_writes; (on_goal 2 => decide))
    | (with_reducible apply createKey_writes; (on_goal 2 => decide))
    | (with_reducible apply rngDraw_writes; (on_goal 2 => decide))
    | with_reducible apply Writes.ite
    | split
    | with_reducible apply WritesSnd.snd)

theorem execEcKeygen_writes {job : Nat} {wm : Nat} {z0 s : State} (wh : Writes wm z0 s) (we : 20593825522 ||| wm = wm) : WritesOut wm z0
    (execEcKeygen job s) := by
  refine WritesOut.step (g := 20593825522) ?_ we wh
  clear wh we
  have hz : Writes 20593825522 s s := Writes.refl _ _
  unfold execEcKeygen
  try dsimp only
  repeat' (first
    | intro _
    | with_reducible assumption
    | (with_reducible apply runKeygen_writes; (on_goal 1 => decide))
    | (with_reducible apply onSquad_writes; (on_goal 1 => decide))
    | (with_reducible apply releaseFail_writes; (on_goal 2 => decide))
    | (with_reducible apply createKey_writes; (on_goal 2 => decide))
    | (with_reducible apply rngDraw_writes; (on_goal 2 => decide))
    | with_reducible apply Writes.ite
    | split
    | with_reducible apply WritesSnd.snd)

/-! ### Lattice -/

theorem countExtra_writes {op : Nat} {ps : Nat} {input : Bytes} {wm : Nat} {z0 s : State} (wh : Writes wm z0 s) (we : 1073741824 ||| wm =
    wm) : Writes wm z0 (countExtra s op ps input) := by
  refine Writes.step (g := 1073741824) ?_ we wh
  clear wh we
  have hz : Writes 1073741824 s s := Writes.refl _ _
  unfold countExtra
  try dsimp only
  repeat' (first
    | with_reducible assumption
    | (with_reducible apply State.bumpBys_writes; (on_goal 2 => decide)))

theorem execMlkemEncaps_writes {job : Nat} {wm : Nat} {z0 s : State} (wh : Writes wm z0 s) (we : 3262141602 ||| wm = wm) : WritesOut wm z0
    (execMlkemEncaps job s) := by
  refine WritesOut.step (g := 3262141602) ?_ we wh
  clear wh we
  have hz : Writes 3262141602 s s := Writes.refl _ _
  unfold execMlkemEncaps
  try dsimp only
  repeat' (first
    | intro _
    | with_reducible assumption
    | (with_reducible apply countExtra_writes; (on_goal 2 => decide))
    | (with_reducible apply failValid_writes; (on_goal 2 => decide))
    | (with_reducible apply passJob_writes; (on_goal 2 => decide))
    | (with_reducible apply onSquad_writes; (on_goal 1 => decide))
    | (with_reducible apply rngDraw_writes; (on_goal 2 => decide))
    | with_reducible apply Writes.ite
    | with_reducible apply WritesSnd.snd)

theorem execMlkemDecaps_writes {job : Nat} {wm : Nat} {z0 s : State} (wh : Writes wm z0 s) (we : 3260044450 ||| wm = wm) : WritesOut wm z0
    (execMlkemDecaps job s) := by
  refine WritesOut.step (g := 3260044450) ?_ we wh
  clear wh we
  have hz : Writes 3260044450 s s := Writes.refl _ _
  unfold execMlkemDecaps
  try dsimp only
  repeat' (first
    | intro _
    | with_reducible assumption
    | (with_reducible apply countExtra_writes; (on_goal 2 => decide))
    | (with_reducible apply passJob_writes; (on_goal 2 => decide))
    | (with_reducible apply onSquad_writes; (on_goal 1 => decide)))

theorem countAttempts_writes {n : Nat} {wm : Nat} {z0 s : State} (wh : Writes wm z0 s) (we : 1073741824 ||| wm = wm) : Writes wm z0
    (countAttempts s n) := by
  refine Writes.step (g := 1073741824) ?_ we wh
  clear wh we
  have hz : Writes 1073741824 s s := Writes.refl _ _
  unfold countAttempts
  try dsimp only
  repeat' (first
    | with_reducible assumption
    | (with_reducible apply State.bumpBys_writes; (on_goal 2 => decide))
    | (with_reducible apply State.gset_writes; (on_goal 2 => decide)))

theorem execMldsaSign_writes {job : Nat} {wm : Nat} {z0 s : State} (wh : Writes wm z0 s) (we : 20593825522 ||| wm = wm) : WritesOut wm z0
    (execMldsaSign job s) := by
  refine WritesOut.step (g := 20593825522) ?_ we wh
  clear wh we
  have hz : Writes 20593825522 s s := Writes.refl _ _
  unfold execMldsaSign
  try dsimp only
  repeat' (first
    | intro _
    | with_reducible assumption
    | (with_reducible apply countAttempts_writes; (on_goal 2 => decide))
    | (with_reducible apply countExtra_writes; (on_goal 2 => decide))
    | (with_reducible apply passJob_writes; (on_goal 2 => decide))
    | (with_reducible apply onSquad_writes; (on_goal 1 => decide))
    | (with_reducible apply releaseFail_writes; (on_goal 2 => decide))
    | (with_reducible apply rngDraw_writes; (on_goal 2 => decide))
    | (with_reducible apply finish_writes; (on_goal 2 => decide))
    | with_reducible apply Writes.ite
    | split
    | with_reducible apply WritesSnd.snd)

theorem execMldsaVerify_writes {job : Nat} {wm : Nat} {z0 s : State} (wh : Writes wm z0 s) (we : 3260044450 ||| wm = wm) : WritesOut wm z0
    (execMldsaVerify job s) := by
  refine WritesOut.step (g := 3260044450) ?_ we wh
  clear wh we
  have hz : Writes 3260044450 s s := Writes.refl _ _
  unfold execMldsaVerify
  try dsimp only
  repeat' (first
    | intro _
    | with_reducible assumption
    | (with_reducible apply countExtra_writes; (on_goal 2 => decide))
    | (with_reducible apply passJob_writes; (on_goal 2 => decide))
    | (with_reducible apply onSquad_writes; (on_goal 1 => decide)))

theorem execMlkemKeygen_writes {job : Nat} {wm : Nat} {z0 s : State} (wh : Writes wm z0 s) (we : 20593825522 ||| wm = wm) : WritesOut wm z0
    (execMlkemKeygen job s) := by
  refine WritesOut.step (g := 20593825522) ?_ we wh
  clear wh we
  have hz : Writes 20593825522 s s := Writes.refl _ _
  unfold execMlkemKeygen
  try dsimp only
  repeat' (first
    | intro _
    | with_reducible assumption
    | (with_reducible apply countExtra_writes; (on_goal 2 => decide))
    | (with_reducible apply runKeygen_writes; (on_goal 1 => decide))
    | (with_reducible apply onSquad_writes; (on_goal 1 => decide))
    | (with_reducible apply releaseFail_writes; (on_goal 2 => decide))
    | (with_reducible apply createKey_writes; (on_goal 2 => decide))
    | (with_reducible apply rngDraw_writes; (on_goal 2 => decide))
    | with_reducible apply Writes.ite
    | with_reducible apply WritesSnd.snd)

theorem execMldsaKeygen_writes {job : Nat} {wm : Nat} {z0 s : State} (wh : Writes wm z0 s) (we : 20593825522 ||| wm = wm) : WritesOut wm z0
    (execMldsaKeygen job s) := by
  refine WritesOut.step (g := 20593825522) ?_ we wh
  clear wh we
  have hz : Writes 20593825522 s s := Writes.refl _ _
  unfold execMldsaKeygen
  try dsimp only
  repeat' (first
    | intro _
    | with_reducible assumption
    | (with_reducible apply countAttempts_writes; (on_goal 2 => decide))
    | (with_reducible apply countExtra_writes; (on_goal 2 => decide))
    | (with_reducible apply runKeygen_writes; (on_goal 1 => decide))
    | (with_reducible apply onSquad_writes; (on_goal 1 => decide))
    | (with_reducible apply releaseFail_writes; (on_goal 2 => decide))
    | (with_reducible apply createKey_writes; (on_goal 2 => decide))
    | (with_reducible apply rngDraw_writes; (on_goal 2 => decide))
    | (with_reducible apply finish_writes; (on_goal 2 => decide))
    | with_reducible apply Writes.ite
    | with_reducible apply WritesSnd.snd)

/-! ### KeyMove -/

theorem finishImport_writes {id : Nat} {a : Attr} {mat : Option Bytes} {wm : Nat} {z0 s : State} (wh : Writes wm z0 s) (we : 2188399746 |||
    wm = wm) : Writes wm z0 (finishImport s id a mat) := by
  refine Writes.step (g := 2188399746) ?_ we wh
  clear wh we
  have hz : Writes 2188399746 s s := Writes.refl _ _
  unfold finishImport
  try dsimp only
  repeat' (first
    | with_reducible assumption
    | (with_reducible apply createKey_writes; (on_goal 2 => decide))
    | (with_reducible apply rngDraw_writes; (on_goal 2 => decide))
    | (with_reducible apply finishWith_writes; (on_goal 2 => decide))
    | (with_reducible apply State.drawNat_writes; (on_goal 2 => decide))
    | with_reducible apply Writes.ite
    | split
    | with_reducible apply WritesSnd.snd)

theorem runImport_writes {id : Nat} {wm : Nat} {z0 s : State} (wh : Writes wm z0 s) (we : 3262141602 ||| wm = wm) : Writes wm z0 (runImport
    s id) := by
  refine Writes.step (g := 3262141602) ?_ we wh
  clear wh we
  have hz : Writes 3262141602 s s := Writes.refl _ _
  unfold runImport
  try dsimp only
  repeat' (first
    | with_reducible assumption
    | (with_reducible apply finishImport_writes; (on_goal 2 => decide))
    | (with_reducible apply holdJob_writes; (on_goal 2 => decide))
    | (with_reducible apply tryLoad_writes; (on_goal 2 => decide))
    | (with_reducible apply finishWith_writes; (on_goal 2 => decide))
    | (with_reducible apply finish_writes; (on_goal 2 => decide))
    | (with_reducible apply State.withJob_writes; (on_goal 2 => decide))
    | (with_reducible apply State.drawNat_writes; (on_goal 2 => decide))
    | with_reducible apply Writes.ite
    | with_reducible apply WritesSnd.snd)

theorem execKeyImport_writes {job : Nat} {wm : Nat} {z0 s : State} (wh : Writes wm z0 s) (we : 3262141602 ||| wm = wm) : WritesOut wm z0
    (execKeyImport job s) := by
  refine WritesOut.step (g := 3262141602) ?_ we wh
  clear wh we
  have hz : Writes 3262141602 s s := Writes.refl _ _
  unfold execKeyImport
  try dsimp only
  repeat' (first
    | intro _
    | with_reducible assumption
    | (with_reducible apply runImport_writes; (on_goal 2 => decide))
    | (with_reducible apply runSlice_writes; (on_goal 1 => decide))
    | with_reducible apply WritesOut.next
    | with_reducible apply WritesOut.ite)

theorem wrapExport_writes {id : Nat} {wm : Nat} {z0 s : State} (wh : Writes wm z0 s) (we : 3260044448 ||| wm = wm) : Writes wm z0
    (wrapExport s id) := by
  refine Writes.step (g := 3260044448) ?_ we wh
  clear wh we
  have hz : Writes 3260044448 s s := Writes.refl _ _
  unfold wrapExport
  try dsimp only
  repeat' (first
    | with_reducible assumption
    | (with_reducible apply holdJob_writes; (on_goal 2 => decide))
    | (with_reducible apply tryLoad_writes; (on_goal 2 => decide))
    | (with_reducible apply finish_writes; (on_goal 2 => decide))
    | with_reducible apply Writes.ite
    | with_reducible apply WritesSnd.snd)

theorem execKeyExport_writes {job : Nat} {wm : Nat} {z0 s : State} (wh : Writes wm z0 s) (we : 3260044960 ||| wm = wm) : WritesOut wm z0
    (execKeyExport job s) := by
  refine WritesOut.step (g := 3260044960) ?_ we wh
  clear wh we
  have hz : Writes 3260044960 s s := Writes.refl _ _
  unfold execKeyExport
  try dsimp only
  repeat' (first
    | intro _
    | with_reducible assumption
    | (with_reducible apply wrapExport_writes; (on_goal 2 => decide))
    | (with_reducible apply withKey_writes; (on_goal 1 => decide))
    | (with_reducible apply finish_writes; (on_goal 2 => decide))
    | with_reducible apply WritesOut.next
    | with_reducible apply WritesOut.ite
    | with_reducible apply Writes.ite)

/-! ### Lanes -/

theorem execPatrolTest_writes {squad : Nat} {lanesFailed : List Nat} {keccakOk : Bool} {wm : Nat} {z0 s : State} (wh : Writes wm z0 s) (we
    : 2185249968 ||| wm = wm) : WritesOut wm z0 (execPatrolTest squad lanesFailed keccakOk s) := by
  refine WritesOut.step (g := 2185249968) ?_ we wh
  clear wh we
  have hz : Writes 2185249968 s s := Writes.refl _ _
  unfold execPatrolTest
  try dsimp only
  repeat' (first
    | with_reducible assumption
    | (with_reducible apply swapLanes_writes; (on_goal 2 => decide))
    | (with_reducible apply loseSquad_writes; (on_goal 2 => decide))
    | (with_reducible apply State.withSquad_writes; (on_goal 2 => decide))
    | with_reducible apply WritesOut.next
    | with_reducible apply WritesOut.ite)

theorem startSelftest_writes {q : Nat} {wm : Nat} {z0 s : State} (wh : Writes wm z0 s) (we : 1073758208 ||| wm = wm) : Writes wm z0
    (startSelftest s q) := by
  refine Writes.step (g := 1073758208) ?_ we wh
  clear wh we
  have hz : Writes 1073758208 s s := Writes.refl _ _
  unfold startSelftest
  try dsimp only
  repeat' (first
    | with_reducible assumption
    | (with_reducible apply State.withSquad_writes; (on_goal 2 => decide))
    | (with_reducible apply State.withLanes_writes; (on_goal 2 => decide))
    | (with_reducible apply State.gset_writes; (on_goal 2 => decide)))

theorem execRnsSelftestRun_writes {squad : Nat} {wm : Nat} {z0 s : State} (wh : Writes wm z0 s) (we : 1073758208 ||| wm = wm) : WritesOut
    wm z0 (execRnsSelftestRun squad s) := by
  refine WritesOut.step (g := 1073758208) ?_ we wh
  clear wh we
  have hz : Writes 1073758208 s s := Writes.refl _ _
  unfold execRnsSelftestRun
  try dsimp only
  repeat' (first
    | with_reducible assumption
    | (with_reducible apply startSelftest_writes; (on_goal 2 => decide))
    | with_reducible apply WritesOut.next
    | with_reducible apply WritesOut.ite)

theorem execSelfTestDone_writes {passed : Bool} {wm : Nat} {z0 s : State} (wh : Writes wm z0 s) (we : 1073758240 ||| wm = wm) : WritesOut
    wm z0 (execSelfTestDone passed s) := by
  refine WritesOut.step (g := 1073758240) ?_ we wh
  clear wh we
  have hz : Writes 1073758240 s s := Writes.refl _ _
  unfold execSelfTestDone
  try dsimp only
  repeat' (first
    | with_reducible assumption
    | (with_reducible apply State.withSquad_writes; (on_goal 2 => decide))
    | (with_reducible apply State.withLanes_writes; (on_goal 2 => decide))
    | (with_reducible apply State.event_writes; (on_goal 2 => decide))
    | (with_reducible apply State.gset_writes; (on_goal 2 => decide))
    | with_reducible apply WritesOut.next
    | with_reducible apply WritesOut.ite
    | split)

/-! ### Streams -/

theorem failStream_writes {id : Nat} {status : Nat} {tc : Nat} {wm : Nat} {z0 s : State} (wh : Writes wm z0 s) (we : 19366171778 ||| wm =
    wm) : Writes wm z0 (failStream s id status tc) := by
  refine Writes.step (g := 19366171778) ?_ we wh
  clear wh we
  have hz : Writes 19366171778 s s := Writes.refl _ _
  unfold failStream
  try dsimp only
  repeat' (first
    | with_reducible assumption
    | (with_reducible apply zeroFill_writes; (on_goal 2 => decide))
    | (with_reducible apply partialCounts_writes; (on_goal 2 => decide))
    | (with_reducible apply finish_writes; (on_goal 2 => decide)))

theorem startStream_writes {id : Nat} {op : Nat} {opaIn : Bytes} {opbIn : Bytes} {wm : Nat} {z0 s : State} (wh : Writes wm z0 s) (we :
    20439913632 ||| wm = wm) : WritesOut wm z0 (startStream s id op opaIn opbIn) := by
  refine WritesOut.step (g := 20439913632) ?_ we wh
  clear wh we
  have hz : Writes 20439913632 s s := Writes.refl _ _
  unfold startStream
  try dsimp only
  repeat' (first
    | with_reducible assumption
    | (with_reducible apply holdJob_writes; (on_goal 2 => decide))
    | (with_reducible apply tryLoad_writes; (on_goal 2 => decide))
    | (with_reducible apply zeroFill_writes; (on_goal 2 => decide))
    | (with_reducible apply finish_writes; (on_goal 2 => decide))
    | (with_reducible apply State.withJob_writes; (on_goal 2 => decide))
    | with_reducible apply WritesOut.next
    | with_reducible apply WritesOut.ite
    | split
    | with_reducible apply WritesSnd.snd)

theorem execStreamSeal_writes {job : Nat} {opa : Bytes} {opb : Bytes} {wm : Nat} {z0 s : State} (wh : Writes wm z0 s) (we : 20439913632 |||
    wm = wm) : WritesOut wm z0 (execStreamSeal job opa opb s) := by
  refine WritesOut.step (g := 20439913632) ?_ we wh
  clear wh we
  have hz : Writes 20439913632 s s := Writes.refl _ _
  unfold execStreamSeal
  try dsimp only
  repeat' (first
    | with_reducible assumption
    | (with_reducible apply startStream_writes; (on_goal 2 => decide)))

theorem execStreamOpen_writes {job : Nat} {opa : Bytes} {opb : Bytes} {wm : Nat} {z0 s : State} (wh : Writes wm z0 s) (we : 20439913632 |||
    wm = wm) : WritesOut wm z0 (execStreamOpen job opa opb s) := by
  refine WritesOut.step (g := 20439913632) ?_ we wh
  clear wh we
  have hz : Writes 20439913632 s s := Writes.refl _ _
  unfold execStreamOpen
  try dsimp only
  repeat' (first
    | with_reducible assumption
    | (with_reducible apply startStream_writes; (on_goal 2 => decide)))

theorem bindJob_writes {id : Nat} {e : Nat} {wm : Nat} {z0 s : State} (wh : Writes wm z0 s) (we : 5632 ||| wm = wm) : Writes wm z0 (bindJob
    s id e) := by
  refine Writes.step (g := 5632) ?_ we wh
  clear wh we
  have hz : Writes 5632 s s := Writes.refl _ _
  unfold bindJob
  try dsimp only
  repeat' (first
    | with_reducible assumption
    | (with_reducible apply toEngine_writes; (on_goal 2 => decide))
    | (with_reducible apply State.withJob_writes; (on_goal 2 => decide))
    | with_reducible apply Writes.ite)

theorem bindOne_writes {p : Nat} {e : Nat} {wm : Nat} {z0 s : State} (wh : Writes wm z0 s) (we : 4199936 ||| wm = wm) : Writes wm z0
    (bindOne s p e) := by
  refine Writes.step (g := 4199936) ?_ we wh
  clear wh we
  have hz : Writes 4199936 s s := Writes.refl _ _
  unfold bindOne
  try dsimp only
  repeat' (first
    | with_reducible assumption
    | (with_reducible apply bindJob_writes; (on_goal 2 => decide))
    | (with_reducible apply State.withDma_writes; (on_goal 2 => decide))
    | split)

theorem bindRound_writes {x0 : Nat} {x1 : Nat} {x2 : Nat} {wm : Nat} {z0 x3 : State} (wh : Writes wm z0 x3) (we : 4199936 ||| wm = wm) :
    Writes wm z0 (bindRound x0 x1 x2 x3) := by
  refine Writes.step (g := 4199936) ?_ we wh
  clear wh we
  clear z0 wm
  induction x0 generalizing x1 x2 x3 with
  | zero =>
    have hz : Writes 4199936 x3 x3 := Writes.refl _ _
    unfold bindRound
    try dsimp only
    repeat' (first
      | with_reducible assumption
      | (with_reducible apply bindOne_writes; (on_goal 2 => decide))
      | (with_reducible apply State.withDma_writes; (on_goal 2 => decide))
      | with_reducible apply Writes.ite
      | split)
  | succ n ih =>
    have hz : Writes 4199936 x3 x3 := Writes.refl _ _
    unfold bindRound
    try dsimp only
    repeat' (first
      | (with_reducible refine Writes.step (g := 4199936) ih ?_ ?_; (on_goal 1 => decide))
      | with_reducible assumption
      | (with_reducible apply bindOne_writes; (on_goal 2 => decide))
      | (with_reducible apply State.withDma_writes; (on_goal 2 => decide))
      | with_reducible apply Writes.ite
      | split)

theorem execStreamBind_writes {wm : Nat} {z0 s : State} (wh : Writes wm z0 s) (we : 4199936 ||| wm = wm) : WritesOut wm z0 (execStreamBind s) := by
  refine WritesOut.step (g := 4199936) ?_ we wh
  clear wh we
  have hz : Writes 4199936 s s := Writes.refl _ _
  unfold execStreamBind
  try dsimp only
  repeat' (first
    | with_reducible assumption
    | (with_reducible apply bindRound_writes; (on_goal 2 => decide))
    | (with_reducible apply bindOne_writes; (on_goal 2 => decide))
    | (with_reducible apply bindJob_writes; (on_goal 2 => decide))
    | with_reducible apply WritesOut.next
    | with_reducible apply WritesOut.ite
    | split)

theorem endStream_writes {id : Nat} {out : Bytes} {wm : Nat} {z0 s : State} (wh : Writes wm z0 s) (we : 20439913600 ||| wm = wm) : Writes
    wm z0 (endStream s id out) := by
  refine Writes.step (g := 20439913600) ?_ we wh
  clear wh we
  have hz : Writes 20439913600 s s := Writes.refl _ _
  unfold endStream
  try dsimp only
  repeat' (first
    | with_reducible assumption
    | (with_reducible apply zeroFill_writes; (on_goal 2 => decide))
    | (with_reducible apply finish_writes; (on_goal 2 => decide))
    | (with_reducible apply State.withJob_writes; (on_goal 2 => decide))
    | (with_reducible apply State.bump_writes; (on_goal 2 => decide))
    | with_reducible apply Writes.ite)

theorem laterRead_writes {id : Nat} {wm : Nat} {z0 s : State} (wh : Writes wm z0 s) (we : 128 ||| wm = wm) : Writes wm z0 (laterRead s id) := by
  refine Writes.step (g := 128) ?_ we wh
  clear wh we
  have hz : Writes 128 s s := Writes.refl _ _
  unfold laterRead
  try dsimp only
  repeat' (first
    | with_reducible assumption
    | (with_reducible apply State.withLink_writes; (on_goal 2 => decide)))

theorem runSegment_writes {id : Nat} {wm : Nat} {z0 s : State} (wh : Writes wm z0 s) (we : 20439913600 ||| wm = wm) : Writes wm z0
    (runSegment s id) := by
  refine Writes.step (g := 20439913600) ?_ we wh
  clear wh we
  have hz : Writes 20439913600 s s := Writes.refl _ _
  unfold runSegment
  try dsimp only
  repeat' (first
    | with_reducible assumption
    | (with_reducible apply laterRead_writes; (on_goal 2 => decide))
    | (with_reducible apply endStream_writes; (on_goal 2 => decide))
    | (with_reducible apply State.withJob_writes; (on_goal 2 => decide))
    | (with_reducible apply State.hostWrite_writes; (on_goal 2 => decide))
    | with_reducible apply Writes.ite)

theorem segMismatch_writes {id : Nat} {e : Nat} {wm : Nat} {z0 s : State} (wh : Writes wm z0 s) (we : 20593825522 ||| wm = wm) : Writes wm
    z0 (segMismatch s id e) := by
  refine Writes.step (g := 20593825522) ?_ we wh
  clear wh we
  have hz : Writes 20593825522 s s := Writes.refl _ _
  unfold segMismatch
  try dsimp only
  repeat' (first
    | with_reducible assumption
    | (with_reducible apply failStream_writes; (on_goal 2 => decide))
    | (with_reducible apply faultReport_writes; (on_goal 2 => decide))
    | (with_reducible apply loseEngine_writes; (on_goal 2 => decide))
    | (with_reducible apply State.withJob_writes; (on_goal 2 => decide))
    | (with_reducible apply State.report_writes; (on_goal 2 => decide))
    | (with_reducible apply State.bump_writes; (on_goal 2 => decide))
    | with_reducible apply Writes.ite)

theorem segRound_writes {x0 : Nat} {x1 : Nat} {x2 : Nat} {wm : Nat} {z0 x3 : State} (wh : Writes wm z0 x3) (we : 4194304 ||| wm = wm) :
    WritesOptSnd wm z0 (segRound x0 x1 x2 x3) := by
  refine WritesOptSnd.step (g := 4194304) ?_ we wh
  clear wh we
  clear z0 wm
  induction x0 generalizing x1 x2 x3 with
  | zero =>
    have hz : Writes 4194304 x3 x3 := Writes.refl _ _
    unfold segRound
    try dsimp only
    repeat' (first
      | with_reducible assumption
      | (with_reducible apply State.withDma_writes; (on_goal 2 => decide))
      | with_reducible exact WritesOptSnd.none
      | with_reducible apply WritesOptSnd.some
      | split)
  | succ n ih =>
    have hz : Writes 4194304 x3 x3 := Writes.refl _ _
    unfold segRound
    try dsimp only
    repeat' (first
      | (with_reducible refine WritesOptSnd.step (g := 4194304) ih ?_ ?_; (on_goal 1 => decide))
      | with_reducible assumption
      | (with_reducible apply State.withDma_writes; (on_goal 2 => decide))
      | with_reducible exact WritesOptSnd.none
      | with_reducible apply WritesOptSnd.some
      | split)

theorem execStreamSegment_writes {engine : Nat} {mismatch : Bool} {wm : Nat} {z0 s : State} (wh : Writes wm z0 s) (we : 20593825522 ||| wm
    = wm) : WritesOut wm z0 (execStreamSegment engine mismatch s) := by
  refine WritesOut.step (g := 20593825522) ?_ we wh
  clear wh we
  have hz : Writes 20593825522 s s := Writes.refl _ _
  unfold execStreamSegment
  try dsimp only
  repeat' (first
    | with_reducible assumption
    | (with_reducible apply segRound_writes; (on_goal 2 => decide))
    | (with_reducible apply segMismatch_writes; (on_goal 2 => decide))
    | (with_reducible apply runSegment_writes; (on_goal 2 => decide))
    | (with_reducible apply State.withDma_writes; (on_goal 2 => decide))
    | with_reducible apply WritesOptSnd.some
    | with_reducible apply WritesOut.next
    | with_reducible apply WritesOut.ite
    | (with_reducible apply WritesOptSnd.of_eq; with_reducible assumption)
    | split)

/-! ### DmaCh -/

theorem putRecord_writes {c : Nat} {d : DDesc} {status : Nat} {offset : Nat} {done : Nat} {unknown : Bool} {mismatch : Bool} {wm : Nat} {z0
    s : State} (wh : Writes wm z0 s) (we : 2185232384 ||| wm = wm) : Writes wm z0 (putRecord s c d status offset done unknown mismatch) := by
  refine Writes.step (g := 2185232384) ?_ we wh
  clear wh we
  have hz : Writes 2185232384 s s := Writes.refl _ _
  unfold putRecord
  try dsimp only
  repeat' (first
    | (with_reducible apply sendEvents_writes; (on_goal 2 => decide))
    | (with_reducible apply State.withChan_writes; (on_goal 2 => decide))
    | with_reducible apply Writes.ite
    | (with_reducible refine Writes.upd_mem ?_ ?_; (on_goal 2 => decide); with_reducible assumption))

theorem settleChan_writes {c : Nat} {wm : Nat} {z0 s : State} (wh : Writes wm z0 s) (we : 4194304 ||| wm = wm) : Writes wm z0 (settleChan s c) := by
  refine Writes.step (g := 4194304) ?_ we wh
  clear wh we
  have hz : Writes 4194304 s s := Writes.refl _ _
  unfold settleChan
  try dsimp only
  repeat' (first
    | with_reducible assumption
    | (with_reducible apply State.withChan_writes; (on_goal 2 => decide))
    | with_reducible apply Writes.ite)

theorem completeDesc_writes {c : Nat} {d : DDesc} {status : Nat} {offset : Nat} {done : Nat} {unknown : Bool} {mismatch : Bool} {wm : Nat}
    {z0 s : State} (wh : Writes wm z0 s) (we : 3258974208 ||| wm = wm) : Writes wm z0 (completeDesc s c d status offset done unknown mismatch) := by
  refine Writes.step (g := 3258974208) ?_ we wh
  clear wh we
  have hz : Writes 3258974208 s s := Writes.refl _ _
  unfold completeDesc
  try dsimp only
  repeat' (first
    | with_reducible assumption
    | (with_reducible apply settleChan_writes; (on_goal 2 => decide))
    | (with_reducible apply putRecord_writes; (on_goal 2 => decide))
    | (with_reducible apply State.withChan_writes; (on_goal 2 => decide))
    | (with_reducible apply State.bump_writes; (on_goal 2 => decide))
    | with_reducible apply Writes.ite)

theorem endDesc_writes {c : Nat} {d : DDesc} {status : Nat} {offset : Nat} {done : Nat} {mismatch : Bool} {wm : Nat} {z0 s : State} (wh :
    Writes wm z0 s) (we : 3258974208 ||| wm = wm) : Writes wm z0 (endDesc s c d status offset done mismatch) := by
  refine Writes.step (g := 3258974208) ?_ we wh
  clear wh we
  have hz : Writes 3258974208 s s := Writes.refl _ _
  unfold endDesc
  try dsimp only
  repeat' (first
    | with_reducible assumption
    | (with_reducible apply completeDesc_writes; (on_goal 2 => decide))
    | (with_reducible apply State.withChan_writes; (on_goal 2 => decide))
    | with_reducible apply Writes.ite)

theorem enableChan_writes {c : Nat} {on : Bool} {wm : Nat} {z0 s : State} (wh : Writes wm z0 s) (we : 4194304 ||| wm = wm) : Writes wm z0
    (enableChan s c on) := by
  refine Writes.step (g := 4194304) ?_ we wh
  clear wh we
  have hz : Writes 4194304 s s := Writes.refl _ _
  unfold enableChan
  try dsimp only
  repeat' (first
    | with_reducible assumption
    | (with_reducible apply settleChan_writes; (on_goal 2 => decide))
    | (with_reducible apply State.withChan_writes; (on_goal 2 => decide))
    | with_reducible apply Writes.ite)

theorem execChannelEnable_writes {ch : Nat} {on : Bool} {wm : Nat} {z0 s : State} (wh : Writes wm z0 s) (we : 4194304 ||| wm = wm) :
    WritesOut wm z0 (execChannelEnable ch on s) := by
  refine WritesOut.step (g := 4194304) ?_ we wh
  clear wh we
  have hz : Writes 4194304 s s := Writes.refl _ _
  unfold execChannelEnable
  try dsimp only
  repeat' (first
    | with_reducible assumption
    | (with_reducible apply enableChan_writes; (on_goal 2 => decide))
    | with_reducible apply WritesOut.next
    | with_reducible apply WritesOut.ite)

theorem abortRest_writes {x0 : Nat} {x2 : Nat} {wm : Nat} {z0 x1 : State} (wh : Writes wm z0 x1) (we : 2185232384 ||| wm = wm) : Writes wm
    z0 (abortRest x0 x1 x2) := by
  refine Writes.step (g := 2185232384) ?_ we wh
  clear wh we
  clear z0 wm
  induction x0 generalizing x1 x2 with
  | zero =>
    have hz : Writes 2185232384 x1 x1 := Writes.refl _ _
    unfold abortRest
    try dsimp only
    repeat' (first
      | with_reducible assumption
      | (with_reducible apply putRecord_writes; (on_goal 2 => decide))
      | with_reducible apply Writes.ite)
  | succ n ih =>
    have hz : Writes 2185232384 x1 x1 := Writes.refl _ _
    unfold abortRest
    try dsimp only
    repeat' (first
      | (with_reducible refine Writes.step (g := 2185232384) ih ?_ ?_; (on_goal 1 => decide))
      | with_reducible assumption
      | (with_reducible apply putRecord_writes; (on_goal 2 => decide))
      | with_reducible apply Writes.ite)

theorem abortChan_writes {c : Nat} {wm : Nat} {z0 s : State} (wh : Writes wm z0 s) (we : 2185232384 ||| wm = wm) : Writes wm z0 (abortChan s c) := by
  refine Writes.step (g := 2185232384) ?_ we wh
  clear wh we
  have hz : Writes 2185232384 s s := Writes.refl _ _
  unfold abortChan
  try dsimp only
  repeat' (first
    | with_reducible assumption
    | (with_reducible apply abortRest_writes; (on_goal 2 => decide))
    | (with_reducible apply State.withChan_writes; (on_goal 2 => decide))
    | with_reducible apply Writes.ite)

theorem execChannelAbort_writes {ch : Nat} {wm : Nat} {z0 s : State} (wh : Writes wm z0 s) (we : 2185232384 ||| wm = wm) : WritesOut wm z0
    (execChannelAbort ch s) := by
  refine WritesOut.step (g := 2185232384) ?_ we wh
  clear wh we
  have hz : Writes 2185232384 s s := Writes.refl _ _
  unfold execChannelAbort
  try dsimp only
  repeat' (first
    | with_reducible assumption
    | (with_reducible apply abortChan_writes; (on_goal 2 => decide))
    | with_reducible apply WritesOut.next
    | with_reducible apply WritesOut.ite)

theorem tailChan_writes {c : Nat} {v : Nat} {wm : Nat} {z0 s : State} (wh : Writes wm z0 s) (we : 4194304 ||| wm = wm) : Writes wm z0
    (tailChan s c v) := by
  refine Writes.step (g := 4194304) ?_ we wh
  clear wh we
  have hz : Writes 4194304 s s := Writes.refl _ _
  unfold tailChan
  try dsimp only
  repeat' (first
    | with_reducible assumption
    | (with_reducible apply State.withChan_writes; (on_goal 2 => decide))
    | with_reducible apply Writes.ite)

theorem failJobRead_writes {id : Nat} {wm : Nat} {z0 s : State} (wh : Writes wm z0 s) (we : 19366171778 ||| wm = wm) : Writes wm z0
    (failJobRead s id) := by
  refine Writes.step (g := 19366171778) ?_ we wh
  clear wh we
  have hz : Writes 19366171778 s s := Writes.refl _ _
  unfold failJobRead
  try dsimp only
  repeat' (first
    | with_reducible assumption
    | (with_reducible apply zeroFill_writes; (on_goal 2 => decide))
    | (with_reducible apply partialCounts_writes; (on_goal 2 => decide))
    | (with_reducible apply finish_writes; (on_goal 2 => decide))
    | with_reducible apply Writes.ite)

end Sys2Proof.Machine
end

