-- ==== Sys2Proof/Laws/Writes6.lean ====
section
/-! SUPPORT. Which fields each operation can write (see Writes.lean), operation by operation: Flash, RegSpace, DmaOps, Verb. -/

set_option linter.unusedTactic false
set_option linter.unreachableTactic false
set_option linter.unusedVariables false

namespace Sys2Proof.Machine

open Sys2Proof

/-! ### Flash -/

theorem State.withFQueue_writes {q : FlashQ} {f : FQueue → FQueue} {wm : Nat} {z0 s : State} (wh : Writes wm z0 s) (we : 25165824 ||| wm =
    wm) : Writes wm z0 (State.withFQueue s q f) := by
  refine Writes.step (g := 25165824) ?_ we wh
  clear wh we
  have hz : Writes 25165824 s s := Writes.refl _ _
  unfold State.withFQueue
  try dsimp only
  repeat' (first
    | with_reducible assumption
    | (with_reducible apply State.withVault_writes; (on_goal 2 => decide))
    | (with_reducible apply State.withCode_writes; (on_goal 2 => decide))
    | split)

theorem takeHead_writes {q : FlashQ} {wm : Nat} {z0 s : State} (wh : Writes wm z0 s) (we : 25165824 ||| wm = wm) : Writes wm z0 (takeHead s q) := by
  refine Writes.step (g := 25165824) ?_ we wh
  clear wh we
  have hz : Writes 25165824 s s := Writes.refl _ _
  unfold takeHead
  try dsimp only
  repeat' (first
    | with_reducible assumption
    | (with_reducible apply State.withFQueue_writes; (on_goal 2 => decide))
    | (with_reducible apply State.withVault_writes; (on_goal 2 => decide))
    | (with_reducible apply State.withCode_writes; (on_goal 2 => decide))
    | split)

theorem settleQueue_writes {q : FlashQ} {wm : Nat} {z0 s : State} (wh : Writes wm z0 s) (we : 25165824 ||| wm = wm) : Writes wm z0
    (settleQueue s q) := by
  refine Writes.step (g := 25165824) ?_ we wh
  clear wh we
  have hz : Writes 25165824 s s := Writes.refl _ _
  unfold settleQueue
  try dsimp only
  repeat' (first
    | with_reducible assumption
    | (with_reducible apply State.withFQueue_writes; (on_goal 2 => decide))
    | with_reducible apply Writes.ite)

theorem flashEntry_writes {q : FlashQ} {op : Nat} {tag : Nat} {status : Nat} {done : Nat} {retry : Nat} {result : Nat} {aux : Nat} {wm :
    Nat} {z0 s : State} (wh : Writes wm z0 s) (we : 2206203904 ||| wm = wm) : Writes wm z0 (flashEntry s q op tag status done retry result aux) := by
  refine Writes.step (g := 2206203904) ?_ we wh
  clear wh we
  have hz : Writes 2206203904 s s := Writes.refl _ _
  unfold flashEntry
  try dsimp only
  repeat' (first
    | with_reducible assumption
    | (with_reducible apply settleQueue_writes; (on_goal 2 => decide))
    | (with_reducible apply State.withFQueue_writes; (on_goal 2 => decide))
    | (with_reducible apply sendEvents_writes; (on_goal 2 => decide))
    | with_reducible apply Writes.ite
    | (with_reducible refine Writes.upd_mem ?_ ?_; (on_goal 2 => decide); with_reducible assumption))

theorem flashDone_writes {q : FlashQ} {d : FDesc} {status : Nat} {done : Nat} {wm : Nat} {z0 s : State} (wh : Writes wm z0 s) (we :
    2206203904 ||| wm = wm) : Writes wm z0 (flashDone s q d status done) := by
  refine Writes.step (g := 2206203904) ?_ we wh
  clear wh we
  have hz : Writes 2206203904 s s := Writes.refl _ _
  unfold flashDone
  try dsimp only
  repeat' (first
    | with_reducible assumption
    | (with_reducible apply flashEntry_writes; (on_goal 2 => decide)))

theorem withSector_writes {n : Nat} {f : FUnit → FUnit} {wm : Nat} {z0 s : State} (wh : Writes wm z0 s) (we : 8388608 ||| wm = wm) : Writes
    wm z0 (withSector s n f) := by
  refine Writes.step (g := 8388608) ?_ we wh
  clear wh we
  have hz : Writes 8388608 s s := Writes.refl _ _
  unfold withSector
  try dsimp only
  repeat' (first
    | with_reducible assumption
    | (with_reducible apply State.withCode_writes; (on_goal 2 => decide)))

theorem onFlash_writes {ref : QueueRef} {ops : Nat → Bool} {f : FlashQ → FDesc → State → Option State} {s z0 : State} {wm : Nat} (hm :
    3279945760 ||| wm = wm) (wh : Writes wm z0 s) (hf : ∀ y0, ∀ y1, ∀ y2, Writes wm z0 y2 → WritesOpt wm z0 (f y0 y1 y2)) :
    WritesOut wm z0 (onFlash s ref ops f) := by
  unfold onFlash
  try dsimp only
  repeat' (first
    | with_reducible assumption
    | with_reducible apply hf
    | (with_reducible apply flashDone_writes; (on_goal 2 => (first | decide | exact Writes.sub (by decide) hm)))
    | (with_reducible apply takeHead_writes; (on_goal 2 => (first | decide | exact Writes.sub (by decide) hm)))
    | (with_reducible apply guardRefused_writes; (on_goal 2 => (first | decide | exact Writes.sub (by decide) hm)))
    | with_reducible apply WritesOpt.getD
    | with_reducible apply WritesOut.next
    | with_reducible apply WritesOut.ite
    | split)

theorem collect_writes {n : Nat} {wm : Nat} {z0 s : State} (wh : Writes wm z0 s) (we : 1090519040 ||| wm = wm) : Writes wm z0 (collect s n) := by
  refine Writes.step (g := 1090519040) ?_ we wh
  clear wh we
  have hz : Writes 1090519040 s s := Writes.refl _ _
  unfold collect
  try dsimp only
  repeat' (first
    | intro _
    | with_reducible assumption
    | (with_reducible apply vAppend_writes; (on_goal 2 => decide))
    | (with_reducible apply State.withVault_writes; (on_goal 2 => decide))
    | (with_reducible apply State.bumpBys_writes; (on_goal 2 => decide))
    | with_reducible apply Writes.ite
    | with_reducible apply Writes.foldl)

theorem readOk_writes {q : FlashQ} {d : FDesc} {retry : Nat} {data : Bytes} {wm : Nat} {z0 s : State} (wh : Writes wm z0 s) (we :
    3279945760 ||| wm = wm) : Writes wm z0 (readOk s q d retry data) := by
  refine Writes.step (g := 3279945760) ?_ we wh
  clear wh we
  have hz : Writes 3279945760 s s := Writes.refl _ _
  unfold readOk
  try dsimp only
  repeat' (first
    | (with_reducible apply collect_writes; (on_goal 2 => decide))
    | (with_reducible apply flashEntry_writes; (on_goal 2 => decide))
    | (with_reducible apply State.event_writes; (on_goal 2 => decide))
    | (with_reducible apply State.bump_writes; (on_goal 2 => decide))
    | (with_reducible apply State.gset_writes; (on_goal 2 => decide))
    | with_reducible apply Writes.ite
    | (with_reducible refine Writes.upd_mem ?_ ?_; (on_goal 2 => decide); first | with_reducible assumption | split))

theorem startRead_writes {w : FWait} {wm : Nat} {z0 s : State} (wh : Writes wm z0 s) (we : 3279945760 ||| wm = wm) : Writes wm z0
    (startRead s w) := by
  refine Writes.step (g := 3279945760) ?_ we wh
  clear wh we
  have hz : Writes 3279945760 s s := Writes.refl _ _
  unfold startRead
  try dsimp only
  repeat' (first
    | with_reducible assumption
    | (with_reducible apply readOk_writes; (on_goal 2 => decide))
    | (with_reducible apply flashDone_writes; (on_goal 2 => decide))
    | (with_reducible apply State.bump_writes; (on_goal 2 => decide))
    | with_reducible apply Writes.ite
    | split)

theorem startVaultRead_writes {w : FWait} {wm : Nat} {z0 s : State} (wh : Writes wm z0 s) (we : 3279945760 ||| wm = wm) : Writes wm z0
    (startVaultRead s w) := by
  refine Writes.step (g := 3279945760) ?_ we wh
  clear wh we
  have hz : Writes 3279945760 s s := Writes.refl _ _
  unfold startVaultRead
  try dsimp only
  repeat' (first
    | with_reducible assumption
    | (with_reducible apply readOk_writes; (on_goal 2 => decide))
    | (with_reducible apply flashDone_writes; (on_goal 2 => decide))
    | (with_reducible apply State.bump_writes; (on_goal 2 => decide))
    | split)

theorem acceptVaultRead_writes {w : FWait} {wm : Nat} {z0 s : State} (wh : Writes wm z0 s) (we : 3279945760 ||| wm = wm) : Writes wm z0
    (acceptVaultRead s w) := by
  refine Writes.step (g := 3279945760) ?_ we wh
  clear wh we
  have hz : Writes 3279945760 s s := Writes.refl _ _
  unfold acceptVaultRead
  try dsimp only
  repeat' (first
    | with_reducible assumption
    | (with_reducible apply startVaultRead_writes; (on_goal 2 => decide))
    | (with_reducible apply State.withVault_writes; (on_goal 2 => decide))
    | with_reducible apply Writes.ite)

theorem serveVaultReads_writes {wm : Nat} {z0 s : State} (wh : Writes wm z0 s) (we : 3279945760 ||| wm = wm) : Writes wm z0 (serveVaultReads s) := by
  refine Writes.step (g := 3279945760) ?_ we wh
  clear wh we
  have hz : Writes 3279945760 s s := Writes.refl _ _
  unfold serveVaultReads
  try dsimp only
  repeat' (first
    | intro _
    | with_reducible assumption
    | (with_reducible apply acceptVaultRead_writes; (on_goal 2 => decide))
    | (with_reducible apply State.withVault_writes; (on_goal 2 => decide))
    | with_reducible apply Writes.foldl)

theorem startProgram_writes {w : FWait} {wm : Nat} {z0 s : State} (wh : Writes wm z0 s) (we : 2206203904 ||| wm = wm) : Writes wm z0
    (startProgram s w) := by
  refine Writes.step (g := 2206203904) ?_ we wh
  clear wh we
  have hz : Writes 2206203904 s s := Writes.refl _ _
  unfold startProgram
  try dsimp only
  repeat' (first
    | with_reducible assumption
    | (with_reducible apply flashDone_writes; (on_goal 2 => decide))
    | (with_reducible apply State.withCode_writes; (on_goal 2 => decide))
    | with_reducible apply Writes.ite)

theorem spareBlock_writes {b : Nat} {key : Nat} {cause : Nat} {wm : Nat} {z0 s : State} (wh : Writes wm z0 s) (we : 16777248 ||| wm = wm) :
    Writes wm z0 (spareBlock s b key cause) := by
  refine Writes.step (g := 16777248) ?_ we wh
  clear wh we
  have hz : Writes 16777248 s s := Writes.refl _ _
  unfold spareBlock
  try dsimp only
  repeat' (first
    | with_reducible assumption
    | (with_reducible apply State.withVBank_writes; (on_goal 2 => decide))
    | (with_reducible apply State.withVault_writes; (on_goal 2 => decide))
    | (with_reducible apply State.event_writes; (on_goal 2 => decide)))

theorem dropEvents_writes {before : List EvRec} {wm : Nat} {z0 s : State} (wh : Writes wm z0 s) (we : 16777216 ||| wm = wm) : Writes wm z0
    (dropEvents before s) := by
  refine Writes.step (g := 16777216) ?_ we wh
  clear wh we
  have hz : Writes 16777216 s s := Writes.refl _ _
  unfold dropEvents
  try dsimp only
  repeat' (first
    | intro _
    | with_reducible assumption
    | (with_reducible apply vDiscard_writes; (on_goal 2 => decide))
    | with_reducible apply Writes.foldl)

theorem programmed_writes {p : VProg} {wm : Nat} {z0 s : State} (wh : Writes wm z0 s) (we : 2211468448 ||| wm = wm) : Writes wm z0
    (programmed s p) := by
  refine Writes.step (g := 2211468448) ?_ we wh
  clear wh we
  have hz : Writes 2211468448 s s := Writes.refl _ _
  unfold programmed
  try dsimp only
  repeat' (first
    | with_reducible assumption
    | (with_reducible apply dropEvents_writes; (on_goal 2 => decide))
    | (with_reducible apply flashEntry_writes; (on_goal 2 => decide))
    | (with_reducible apply pageDurable_writes; (on_goal 2 => decide))
    | (with_reducible apply commitDurable_writes; (on_goal 2 => decide))
    | (with_reducible apply evrDurable_writes; (on_goal 2 => decide))
    | (with_reducible apply State.withVault_writes; (on_goal 2 => decide))
    | (with_reducible apply State.withEvr_writes; (on_goal 2 => decide))
    | with_reducible apply Writes.ite
    | split)

theorem endProgram_writes {b : Nat} {o : BankOp} {ok : Bool} {wm : Nat} {z0 s : State} (wh : Writes wm z0 s) (we : 6501171202 ||| wm = wm)
    : Writes wm z0 (endProgram s b o ok) := by
  refine Writes.step (g := 6501171202) ?_ we wh
  clear wh we
  have hz : Writes 6501171202 s s := Writes.refl _ _
  unfold endProgram
  try dsimp only
  repeat' (first
    | intro _
    | with_reducible assumption
    | (with_reducible apply withSector_writes; (on_goal 2 => decide))
    | (with_reducible apply flashDone_writes; (on_goal 2 => decide))
    | (with_reducible apply State.withCode_writes; (on_goal 2 => decide))
    | (with_reducible apply State.drawBytes_writes; (on_goal 2 => decide))
    | (with_reducible apply State.drawNat_writes; (on_goal 2 => decide))
    | with_reducible apply Writes.foldl
    | (with_reducible refine Writes.upd_codeFlash ?_ ?_; (on_goal 2 => decide); first | with_reducible apply WritesSnd.snd))

theorem nextErase_writes {b : Nat} {o : BankOp} {wm : Nat} {z0 s : State} (wh : Writes wm z0 s) (we : 2206203904 ||| wm = wm) : Writes wm
    z0 (nextErase s b o) := by
  refine Writes.step (g := 2206203904) ?_ we wh
  clear wh we
  have hz : Writes 2206203904 s s := Writes.refl _ _
  unfold nextErase
  try dsimp only
  repeat' (first
    | with_reducible assumption
    | (with_reducible apply withSector_writes; (on_goal 2 => decide))
    | (with_reducible apply flashDone_writes; (on_goal 2 => decide))
    | (with_reducible apply State.withCode_writes; (on_goal 2 => decide))
    | split)

theorem startErase_writes {w : FWait} {wm : Nat} {z0 s : State} (wh : Writes wm z0 s) (we : 2206203904 ||| wm = wm) : Writes wm z0
    (startErase s w) := by
  refine Writes.step (g := 2206203904) ?_ we wh
  clear wh we
  have hz : Writes 2206203904 s s := Writes.refl _ _
  unfold startErase
  try dsimp only
  repeat' (first
    | with_reducible assumption
    | (with_reducible apply nextErase_writes; (on_goal 2 => decide))
    | (with_reducible apply flashDone_writes; (on_goal 2 => decide))
    | with_reducible apply Writes.ite)

theorem acceptCode_writes {w : FWait} {wm : Nat} {z0 s : State} (wh : Writes wm z0 s) (we : 3279945760 ||| wm = wm) : Writes wm z0
    (acceptCode s w) := by
  refine Writes.step (g := 3279945760) ?_ we wh
  clear wh we
  have hz : Writes 3279945760 s s := Writes.refl _ _
  unfold acceptCode
  try dsimp only
  repeat' (first
    | with_reducible assumption
    | (with_reducible apply startErase_writes; (on_goal 2 => decide))
    | (with_reducible apply startProgram_writes; (on_goal 2 => decide))
    | (with_reducible apply startRead_writes; (on_goal 2 => decide))
    | (with_reducible apply State.withCode_writes; (on_goal 2 => decide))
    | with_reducible apply Writes.ite
    | split)

theorem serveCode_writes {wm : Nat} {z0 s : State} (wh : Writes wm z0 s) (we : 3279945760 ||| wm = wm) : Writes wm z0 (serveCode s) := by
  refine Writes.step (g := 3279945760) ?_ we wh
  clear wh we
  have hz : Writes 3279945760 s s := Writes.refl _ _
  unfold serveCode
  try dsimp only
  repeat' (first
    | intro _
    | with_reducible assumption
    | (with_reducible apply acceptCode_writes; (on_goal 2 => decide))
    | (with_reducible apply State.withCode_writes; (on_goal 2 => decide))
    | with_reducible apply Writes.foldl)

theorem execFlashRead_writes {queue : QueueRef} {retry : Option Nat} {wm : Nat} {z0 s : State} (wh : Writes wm z0 s) (we : 3279945760 |||
    wm = wm) : WritesOut wm z0 (execFlashRead queue retry s) := by
  refine WritesOut.step (g := 3279945760) ?_ we wh
  clear wh we
  have hz : Writes 3279945760 s s := Writes.refl _ _
  unfold execFlashRead
  try dsimp only
  repeat' (first
    | intro _
    | with_reducible assumption
    | (with_reducible apply acceptCode_writes; (on_goal 2 => decide))
    | (with_reducible apply acceptVaultRead_writes; (on_goal 2 => decide))
    | (with_reducible apply onFlash_writes; (on_goal 1 => decide))
    | with_reducible exact WritesOpt.none
    | with_reducible apply WritesOpt.some
    | split)

theorem execFlashProgram_writes {queue : QueueRef} {wm : Nat} {z0 s : State} (wh : Writes wm z0 s) (we : 3279945760 ||| wm = wm) :
    WritesOut wm z0 (execFlashProgram queue s) := by
  refine WritesOut.step (g := 3279945760) ?_ we wh
  clear wh we
  have hz : Writes 3279945760 s s := Writes.refl _ _
  unfold execFlashProgram
  try dsimp only
  repeat' (first
    | intro _
    | with_reducible assumption
    | (with_reducible apply acceptCode_writes; (on_goal 2 => decide))
    | (with_reducible apply onFlash_writes; (on_goal 1 => decide))
    | (with_reducible apply vAppend_writes; (on_goal 2 => decide))
    | with_reducible apply WritesOpt.some
    | split)

theorem execFlashErase_writes {queue : QueueRef} {wm : Nat} {z0 s : State} (wh : Writes wm z0 s) (we : 3279945760 ||| wm = wm) : WritesOut
    wm z0 (execFlashErase queue s) := by
  refine WritesOut.step (g := 3279945760) ?_ we wh
  clear wh we
  have hz : Writes 3279945760 s s := Writes.refl _ _
  unfold execFlashErase
  try dsimp only
  repeat' (first
    | intro _
    | with_reducible assumption
    | (with_reducible apply acceptCode_writes; (on_goal 2 => decide))
    | (with_reducible apply onFlash_writes; (on_goal 1 => decide))
    | (with_reducible apply flashDone_writes; (on_goal 2 => decide))
    | (with_reducible apply vDiscard_writes; (on_goal 2 => decide))
    | with_reducible apply WritesOpt.some
    | split)

theorem endSector_writes {n : Nat} {ok : Bool} {wm : Nat} {z0 s : State} (wh : Writes wm z0 s) (we : 4303355904 ||| wm = wm) : Writes wm z0
    (endSector s n ok) := by
  refine Writes.step (g := 4303355904) ?_ we wh
  clear wh we
  have hz : Writes 4303355904 s s := Writes.refl _ _
  unfold endSector
  try dsimp only
  repeat' (first
    | with_reducible assumption
    | (with_reducible apply withSector_writes; (on_goal 2 => decide))
    | with_reducible apply Writes.ite
    | (with_reducible refine Writes.upd_codeFlash ?_ ?_; (on_goal 2 => decide); with_reducible assumption))

theorem programDone_writes {bank : Nat} {ok : Bool} {wm : Nat} {z0 s : State} (wh : Writes wm z0 s) (we : 7580177570 ||| wm = wm) : Writes
    wm z0 (programDone bank ok s) := by
  refine Writes.step (g := 7580177570) ?_ we wh
  clear wh we
  have hz : Writes 7580177570 s s := Writes.refl _ _
  unfold programDone
  try dsimp only
  repeat' (first
    | intro _
    | with_reducible assumption
    | (with_reducible apply serveCode_writes; (on_goal 2 => decide))
    | (with_reducible apply endProgram_writes; (on_goal 2 => decide))
    | (with_reducible apply programmed_writes; (on_goal 2 => decide))
    | (with_reducible apply spareBlock_writes; (on_goal 2 => decide))
    | (with_reducible apply serveVaultReads_writes; (on_goal 2 => decide))
    | (with_reducible apply State.withVBank_writes; (on_goal 2 => decide))
    | (with_reducible apply State.drawNat_writes; (on_goal 2 => decide))
    | with_reducible apply Writes.ite
    | with_reducible apply Writes.foldl
    | split
    | with_reducible apply WritesSnd.snd)

theorem endBlock_writes {b : Nat} {key : Nat} {ok : Bool} {wm : Nat} {z0 s : State} (wh : Writes wm z0 s) (we : 16777248 ||| wm = wm) :
    Writes wm z0 (endBlock s b key ok) := by
  refine Writes.step (g := 16777248) ?_ we wh
  clear wh we
  have hz : Writes 16777248 s s := Writes.refl _ _
  unfold endBlock
  try dsimp only
  repeat' (first
    | with_reducible assumption
    | (with_reducible apply spareBlock_writes; (on_goal 2 => decide))
    | (with_reducible apply State.withVBank_writes; (on_goal 2 => decide))
    | (with_reducible apply State.withVault_writes; (on_goal 2 => decide))
    | with_reducible apply Writes.ite)

theorem execFlashEraseDone_writes {bank : Nat} {ok : Bool} {wm : Nat} {z0 s : State} (wh : Writes wm z0 s) (we : 7574913056 ||| wm = wm) :
    WritesOut wm z0 (execFlashEraseDone bank ok s) := by
  refine WritesOut.step (g := 7574913056) ?_ we wh
  clear wh we
  have hz : Writes 7574913056 s s := Writes.refl _ _
  unfold execFlashEraseDone
  try dsimp only
  repeat' (first
    | with_reducible assumption
    | (with_reducible apply endBlock_writes; (on_goal 2 => decide))
    | (with_reducible apply endSector_writes; (on_goal 2 => decide))
    | (with_reducible apply serveCode_writes; (on_goal 2 => decide))
    | (with_reducible apply nextErase_writes; (on_goal 2 => decide))
    | (with_reducible apply serveVaultReads_writes; (on_goal 2 => decide))
    | (with_reducible apply flashDone_writes; (on_goal 2 => decide))
    | (with_reducible apply State.withCode_writes; (on_goal 2 => decide))
    | with_reducible apply WritesOut.next
    | with_reducible apply WritesOut.ite
    | split)

theorem execEraseSuspend_writes {queue : QueueRef} {wm : Nat} {z0 s : State} (wh : Writes wm z0 s) (we : 3279945760 ||| wm = wm) :
    WritesOut wm z0 (execEraseSuspend queue s) := by
  refine WritesOut.step (g := 3279945760) ?_ we wh
  clear wh we
  have hz : Writes 3279945760 s s := Writes.refl _ _
  unfold execEraseSuspend
  try dsimp only
  repeat' (first
    | intro _
    | with_reducible assumption
    | (with_reducible apply serveCode_writes; (on_goal 2 => decide))
    | (with_reducible apply onFlash_writes; (on_goal 1 => decide))
    | (with_reducible apply withSector_writes; (on_goal 2 => decide))
    | (with_reducible apply flashDone_writes; (on_goal 2 => decide))
    | (with_reducible apply State.withCode_writes; (on_goal 2 => decide))
    | with_reducible apply WritesOpt.some
    | split)

theorem resumeErase_writes {b : Nat} {o : BankOp} {wm : Nat} {z0 s : State} (wh : Writes wm z0 s) (we : 2206203904 ||| wm = wm) : Writes wm
    z0 (resumeErase s b o) := by
  refine Writes.step (g := 2206203904) ?_ we wh
  clear wh we
  have hz : Writes 2206203904 s s := Writes.refl _ _
  unfold resumeErase
  try dsimp only
  repeat' (first
    | with_reducible assumption
    | (with_reducible apply nextErase_writes; (on_goal 2 => decide)))

theorem execEraseResume_writes {queue : QueueRef} {wm : Nat} {z0 s : State} (wh : Writes wm z0 s) (we : 3279945760 ||| wm = wm) : WritesOut
    wm z0 (execEraseResume queue s) := by
  refine WritesOut.step (g := 3279945760) ?_ we wh
  clear wh we
  have hz : Writes 3279945760 s s := Writes.refl _ _
  unfold execEraseResume
  try dsimp only
  repeat' (first
    | intro _
    | with_reducible assumption
    | (with_reducible apply resumeErase_writes; (on_goal 2 => decide))
    | (with_reducible apply onFlash_writes; (on_goal 1 => decide))
    | (with_reducible apply flashDone_writes; (on_goal 2 => decide))
    | with_reducible apply WritesOpt.some
    | split)

theorem execSuspendExpiry_writes {bank : Nat} {wm : Nat} {z0 s : State} (wh : Writes wm z0 s) (we : 2206203904 ||| wm = wm) : WritesOut wm
    z0 (execSuspendExpiry bank s) := by
  refine WritesOut.step (g := 2206203904) ?_ we wh
  clear wh we
  have hz : Writes 2206203904 s s := Writes.refl _ _
  unfold execSuspendExpiry
  try dsimp only
  repeat' (first
    | with_reducible assumption
    | (with_reducible apply resumeErase_writes; (on_goal 2 => decide))
    | with_reducible apply WritesOut.next
    | with_reducible apply WritesOut.ite
    | split)

theorem execReadStatus_writes {queue : QueueRef} {wm : Nat} {z0 s : State} (wh : Writes wm z0 s) (we : 3279945762 ||| wm = wm) : WritesOut
    wm z0 (execReadStatus queue s) := by
  refine WritesOut.step (g := 3279945762) ?_ we wh
  clear wh we
  have hz : Writes 3279945762 s s := Writes.refl _ _
  unfold execReadStatus
  try dsimp only
  repeat' (first
    | intro _
    | with_reducible assumption
    | (with_reducible apply onFlash_writes; (on_goal 1 => decide))
    | (with_reducible apply flashEntry_writes; (on_goal 2 => decide))
    | (with_reducible apply State.drawNat_writes; (on_goal 2 => decide))
    | with_reducible apply WritesOpt.some
    | split
    | with_reducible apply WritesSnd.snd)

theorem enableQueue_writes {q : FlashQ} {on : Bool} {wm : Nat} {z0 s : State} (wh : Writes wm z0 s) (we : 25165824 ||| wm = wm) : Writes wm
    z0 (enableQueue s q on) := by
  refine Writes.step (g := 25165824) ?_ we wh
  clear wh we
  have hz : Writes 25165824 s s := Writes.refl _ _
  unfold enableQueue
  try dsimp only
  repeat' (first
    | with_reducible assumption
    | (with_reducible apply settleQueue_writes; (on_goal 2 => decide))
    | (with_reducible apply State.withFQueue_writes; (on_goal 2 => decide))
    | with_reducible apply Writes.ite)

theorem tailQueue_writes {q : FlashQ} {v : Nat} {wm : Nat} {z0 s : State} (wh : Writes wm z0 s) (we : 25165824 ||| wm = wm) : Writes wm z0
    (tailQueue s q v) := by
  refine Writes.step (g := 25165824) ?_ we wh
  clear wh we
  have hz : Writes 25165824 s s := Writes.refl _ _
  unfold tailQueue
  try dsimp only
  repeat' (first
    | with_reducible assumption
    | (with_reducible apply State.withFQueue_writes; (on_goal 2 => decide))
    | with_reducible apply Writes.ite)

theorem abortPending_writes {x0 : Nat} {x2 : FlashQ} {wm : Nat} {z0 x1 : State} (wh : Writes wm z0 x1) (we : 2206203904 ||| wm = wm) :
    Writes wm z0 (abortPending x0 x1 x2) := by
  refine Writes.step (g := 2206203904) ?_ we wh
  clear wh we
  clear z0 wm
  induction x0 generalizing x1 x2 with
  | zero =>
    have hz : Writes 2206203904 x1 x1 := Writes.refl _ _
    unfold abortPending
    try dsimp only
    repeat' (first
      | with_reducible assumption
      | (with_reducible apply flashDone_writes; (on_goal 2 => decide))
      | (with_reducible apply State.withFQueue_writes; (on_goal 2 => decide))
      | with_reducible apply Writes.ite)
  | succ n ih =>
    have hz : Writes 2206203904 x1 x1 := Writes.refl _ _
    unfold abortPending
    try dsimp only
    repeat' (first
      | (with_reducible refine Writes.step (g := 2206203904) ih ?_ ?_; (on_goal 1 => decide))
      | with_reducible assumption
      | (with_reducible apply flashDone_writes; (on_goal 2 => decide))
      | (with_reducible apply State.withFQueue_writes; (on_goal 2 => decide))
      | with_reducible apply Writes.ite)

theorem stopBank_writes {b : Nat} {o : BankOp} {wm : Nat} {z0 s : State} (wh : Writes wm z0 s) (we : 6501171202 ||| wm = wm) : Writes wm z0
    (stopBank s b o) := by
  refine Writes.step (g := 6501171202) ?_ we wh
  clear wh we
  have hz : Writes 6501171202 s s := Writes.refl _ _
  unfold stopBank
  try dsimp only
  repeat' (first
    | intro _
    | with_reducible assumption
    | (with_reducible apply endSector_writes; (on_goal 2 => decide))
    | (with_reducible apply withSector_writes; (on_goal 2 => decide))
    | (with_reducible apply flashDone_writes; (on_goal 2 => decide))
    | (with_reducible apply State.withCode_writes; (on_goal 2 => decide))
    | (with_reducible apply State.drawNat_writes; (on_goal 2 => decide))
    | with_reducible apply Writes.foldl
    | (with_reducible refine Writes.upd_codeFlash ?_ ?_; (on_goal 2 => decide); first | split | with_reducible apply WritesSnd.snd))

theorem abortCode_writes {k : Nat} {wm : Nat} {z0 s : State} (wh : Writes wm z0 s) (we : 7574913058 ||| wm = wm) : Writes wm z0 (abortCode s k) := by
  refine Writes.step (g := 7574913058) ?_ we wh
  clear wh we
  have hz : Writes 7574913058 s s := Writes.refl _ _
  unfold abortCode
  try dsimp only
  repeat' (first
    | intro _
    | with_reducible assumption
    | (with_reducible apply stopBank_writes; (on_goal 2 => decide))
    | (with_reducible apply serveCode_writes; (on_goal 2 => decide))
    | (with_reducible apply flashDone_writes; (on_goal 2 => decide))
    | (with_reducible apply State.withCode_writes; (on_goal 2 => decide))
    | with_reducible apply Writes.foldl)

theorem abortVault_writes {k : Nat} {wm : Nat} {z0 s : State} (wh : Writes wm z0 s) (we : 2206203904 ||| wm = wm) : Writes wm z0
    (abortVault s k) := by
  refine Writes.step (g := 2206203904) ?_ we wh
  clear wh we
  have hz : Writes 2206203904 s s := Writes.refl _ _
  unfold abortVault
  try dsimp only
  repeat' (first
    | intro _
    | with_reducible assumption
    | (with_reducible apply flashDone_writes; (on_goal 2 => decide))
    | (with_reducible apply flashEntry_writes; (on_goal 2 => decide))
    | (with_reducible apply State.withVault_writes; (on_goal 2 => decide))
    | with_reducible apply Writes.foldl)

theorem abortQueue_writes {q : FlashQ} {wm : Nat} {z0 s : State} (wh : Writes wm z0 s) (we : 7574913058 ||| wm = wm) : Writes wm z0
    (abortQueue s q) := by
  refine Writes.step (g := 7574913058) ?_ we wh
  clear wh we
  have hz : Writes 7574913058 s s := Writes.refl _ _
  unfold abortQueue
  try dsimp only
  repeat' (first
    | with_reducible assumption
    | (with_reducible apply abortVault_writes; (on_goal 2 => decide))
    | (with_reducible apply abortCode_writes; (on_goal 2 => decide))
    | (with_reducible apply abortPending_writes; (on_goal 2 => decide))
    | (with_reducible apply State.withFQueue_writes; (on_goal 2 => decide))
    | with_reducible apply Writes.ite
    | split)

theorem execQTail_writes {queue : QueueRef} {value : Nat} {wm : Nat} {z0 s : State} (wh : Writes wm z0 s) (we : 29360128 ||| wm = wm) :
    WritesOut wm z0 (execQTail queue value s) := by
  refine WritesOut.step (g := 29360128) ?_ we wh
  clear wh we
  have hz : Writes 29360128 s s := Writes.refl _ _
  unfold execQTail
  try dsimp only
  repeat' (first
    | with_reducible assumption
    | (with_reducible apply tailQueue_writes; (on_goal 2 => decide))
    | (with_reducible apply tailChan_writes; (on_goal 2 => decide))
    | with_reducible apply WritesOut.next
    | with_reducible apply WritesOut.ite
    | split)

theorem handEvents_writes {wm : Nat} {z0 s : State} (wh : Writes wm z0 s) (we : 16777216 ||| wm = wm) : Writes wm z0 (handEvents s) := by
  refine Writes.step (g := 16777216) ?_ we wh
  clear wh we
  have hz : Writes 16777216 s s := Writes.refl _ _
  unfold handEvents
  try dsimp only
  repeat' (first
    | with_reducible assumption
    | (with_reducible apply vAppend_writes; (on_goal 2 => decide))
    | (with_reducible apply countRate_writes; (on_goal 2 => decide))
    | (with_reducible apply State.withVault_writes; (on_goal 2 => decide))
    | with_reducible apply Writes.ite)

theorem hoistBanks_writes {wm : Nat} {z0 s : State} (wh : Writes wm z0 s) (we : 16777264 ||| wm = wm) : Writes wm z0 (hoistBanks s) := by
  refine Writes.step (g := 16777264) ?_ we wh
  clear wh we
  have hz : Writes 16777264 s s := Writes.refl _ _
  unfold hoistBanks
  try dsimp only
  repeat' (first
    | intro _
    | with_reducible assumption
    | (with_reducible apply State.withVBank_writes; (on_goal 2 => decide))
    | (with_reducible apply State.present_writes; (on_goal 2 => decide))
    | (with_reducible apply hoistIsl_writes; (on_goal 2 => decide))
    | with_reducible apply Writes.ite
    | with_reducible apply Writes.foldl)

theorem execFlushTick_writes {wm : Nat} {z0 s : State} (wh : Writes wm z0 s) (we : 16777264 ||| wm = wm) : WritesOut wm z0 (execFlushTick s) := by
  refine WritesOut.step (g := 16777264) ?_ we wh
  clear wh we
  have hz : Writes 16777264 s s := Writes.refl _ _
  unfold execFlushTick
  try dsimp only
  repeat' (first
    | with_reducible assumption
    | (with_reducible apply hoistBanks_writes; (on_goal 2 => decide))
    | (with_reducible apply handEvents_writes; (on_goal 2 => decide))
    | (with_reducible apply flushPage_writes; (on_goal 2 => decide))
    | (with_reducible apply State.withVault_writes; (on_goal 2 => decide))
    | with_reducible apply WritesOut.next
    | with_reducible apply WritesOut.ite)

theorem execCollection_writes {wm : Nat} {z0 s : State} (wh : Writes wm z0 s) (we : 1090519040 ||| wm = wm) : WritesOut wm z0 (execCollection s) := by
  refine WritesOut.step (g := 1090519040) ?_ we wh
  clear wh we
  have hz : Writes 1090519040 s s := Writes.refl _ _
  unfold execCollection
  try dsimp only
  repeat' (first
    | with_reducible assumption
    | (with_reducible apply collect_writes; (on_goal 2 => decide))
    | (with_reducible apply State.withVault_writes; (on_goal 2 => decide))
    | with_reducible apply WritesOut.next
    | with_reducible apply WritesOut.ite
    | split)

theorem execVictimErase_writes {wm : Nat} {z0 s : State} (wh : Writes wm z0 s) (we : 16777216 ||| wm = wm) : WritesOut wm z0 (execVictimErase s) := by
  refine WritesOut.step (g := 16777216) ?_ we wh
  clear wh we
  have hz : Writes 16777216 s s := Writes.refl _ _
  unfold execVictimErase
  try dsimp only
  repeat' (first
    | with_reducible assumption
    | (with_reducible apply State.withVBank_writes; (on_goal 2 => decide))
    | (with_reducible apply State.withVault_writes; (on_goal 2 => decide))
    | with_reducible apply WritesOut.next
    | with_reducible apply WritesOut.ite
    | split)

theorem execWearCollection_writes {bank : Nat} {wm : Nat} {z0 s : State} (wh : Writes wm z0 s) (we : 1090519040 ||| wm = wm) : WritesOut wm
    z0 (execWearCollection bank s) := by
  refine WritesOut.step (g := 1090519040) ?_ we wh
  clear wh we
  have hz : Writes 1090519040 s s := Writes.refl _ _
  unfold execWearCollection
  try dsimp only
  repeat' (first
    | with_reducible assumption
    | (with_reducible apply collect_writes; (on_goal 2 => decide))
    | (with_reducible apply State.withVBank_writes; (on_goal 2 => decide))
    | with_reducible apply WritesOut.next
    | with_reducible apply WritesOut.ite
    | split)

theorem execVaultBankIdle_writes {bank : Nat} {wm : Nat} {z0 s : State} (wh : Writes wm z0 s) (we : 48 ||| wm = wm) : WritesOut wm z0
    (execVaultBankIdle bank s) := by
  refine WritesOut.step (g := 48) ?_ we wh
  clear wh we
  have hz : Writes 48 s s := Writes.refl _ _
  unfold execVaultBankIdle
  try dsimp only
  repeat' (first
    | with_reducible assumption
    | (with_reducible apply State.present_writes; (on_goal 2 => decide))
    | (with_reducible apply strikeIsl_writes; (on_goal 2 => decide))
    | with_reducible apply WritesOut.next
    | with_reducible apply WritesOut.ite)

/-! ### RegSpace -/

theorem chanStore_writes {c : Nat} {w : Nat} {v : Nat} {wm : Nat} {z0 s : State} (wh : Writes wm z0 s) (we : 2185232384 ||| wm = wm) :
    Writes wm z0 (chanStore s c w v) := by
  refine Writes.step (g := 2185232384) ?_ we wh
  clear wh we
  have hz : Writes 2185232384 s s := Writes.refl _ _
  unfold chanStore
  try dsimp only
  repeat' (first
    | with_reducible assumption
    | (with_reducible apply tailChan_writes; (on_goal 2 => decide))
    | (with_reducible apply abortChan_writes; (on_goal 2 => decide))
    | (with_reducible apply enableChan_writes; (on_goal 2 => decide))
    | (with_reducible apply State.withChan_writes; (on_goal 2 => decide))
    | with_reducible apply Writes.ite)

theorem queueStore_writes {i : Nat} {q : FlashQ} {w : Nat} {v : Nat} {wm : Nat} {z0 s : State} (wh : Writes wm z0 s) (we : 7574913058 |||
    wm = wm) : Writes wm z0 (queueStore s i q w v) := by
  refine Writes.step (g := 7574913058) ?_ we wh
  clear wh we
  have hz : Writes 7574913058 s s := Writes.refl _ _
  unfold queueStore
  try dsimp only
  repeat' (first
    | with_reducible assumption
    | (with_reducible apply abortQueue_writes; (on_goal 2 => decide))
    | (with_reducible apply tailQueue_writes; (on_goal 2 => decide))
    | (with_reducible apply enableQueue_writes; (on_goal 2 => decide))
    | (with_reducible apply State.withFQueue_writes; (on_goal 2 => decide))
    | with_reducible apply Writes.ite)

theorem regStore_writes {i : Nat} {g : Nat} {off : Nat} {v : Nat} {wm : Nat} {z0 s : State} (wh : Writes wm z0 s) (we : 7579107362 ||| wm =
    wm) : Writes wm z0 (regStore s i g off v) := by
  refine Writes.step (g := 7579107362) ?_ we wh
  clear wh we
  have hz : Writes 7579107362 s s := Writes.refl _ _
  unfold regStore
  try dsimp only
  repeat' (first
    | with_reducible assumption
    | (with_reducible apply queueStore_writes; (on_goal 2 => decide))
    | (with_reducible apply chanStore_writes; (on_goal 2 => decide))
    | (with_reducible apply State.withUnit_writes; (on_goal 2 => decide))
    | with_reducible apply Writes.ite
    | (with_reducible refine Writes.upd_mem ?_ ?_; (on_goal 2 => decide); first | with_reducible assumption | split))

theorem regBytes_writes : ∀ {n i g off : Nat} {bs : Bytes} {m : Nat} {z0 s : State} (_ : Writes m z0 s) (_ : 7579107362 ||| m = m),
    Writes m z0 (regBytes n s i g off bs)
  | 0, _, _, _, _, _, _, _, h, _ => h
  | _ + 1, _, _, _, [], _, _, _, h, _ => h
  | n + 1, i, g, off, b :: bs, m, z0, s, h, e => by
    unfold regBytes
    exact regBytes_writes (regStore_writes h (Writes.sub (by decide) e)) e

theorem spaceWrite_writes {i : Nat} {g : Nat} {off : Nat} {bs : Bytes} {wm : Nat} {z0 s : State} (wh : Writes wm z0 s) (we : 7579107362 |||
    wm = wm) : Writes wm z0 (spaceWrite s i g off bs) := by
  refine Writes.step (g := 7579107362) ?_ we wh
  clear wh we
  have hz : Writes 7579107362 s s := Writes.refl _ _
  unfold spaceWrite
  try dsimp only
  repeat' (first
    | with_reducible assumption
    | (with_reducible apply regBytes_writes; (on_goal 2 => decide))
    | with_reducible apply Writes.ite
    | (with_reducible refine Writes.upd_mem ?_ ?_; (on_goal 2 => decide); with_reducible assumption))

/-! ### DmaOps -/

theorem countRefused_writes {i : Nat} {a : Nat} {wm : Nat} {z0 s : State} (wh : Writes wm z0 s) (we : 1073741856 ||| wm = wm) : Writes wm
    z0 (countRefused s i a) := by
  refine Writes.step (g := 1073741856) ?_ we wh
  clear wh we
  have hz : Writes 1073741856 s s := Writes.refl _ _
  unfold countRefused
  try dsimp only
  repeat' (first
    | with_reducible assumption
    | (with_reducible apply guardRefused_writes; (on_goal 2 => decide))
    | split)

theorem sideWrite_writes {c : Nat} {x : Side} {bs : Bytes} {wm : Nat} {z0 s : State} (wh : Writes wm z0 s) (we : 24758976546 ||| wm = wm) :
    Writes wm z0 (sideWrite s c x bs) := by
  refine Writes.step (g := 24758976546) ?_ we wh
  clear wh we
  have hz : Writes 24758976546 s s := Writes.refl _ _
  unfold sideWrite
  try dsimp only
  repeat' (first
    | intro _
    | with_reducible assumption
    | (with_reducible apply spaceWrite_writes; (on_goal 2 => decide))
    | (with_reducible apply State.hostWrite_writes; (on_goal 2 => decide))
    | with_reducible apply Writes.ite
    | with_reducible apply Writes.foldl
    | split)

theorem noteRefusal_writes {i : Nat} {d : DDesc} {o : Nat} {wm : Nat} {z0 s : State} (wh : Writes wm z0 s) (we : 1073741856 ||| wm = wm) :
    Writes wm z0 (noteRefusal s i d o) := by
  refine Writes.step (g := 1073741856) ?_ we wh
  clear wh we
  have hz : Writes 1073741856 s s := Writes.refl _ _
  unfold noteRefusal
  try dsimp only
  repeat' (first
    | with_reducible assumption
    | (with_reducible apply countRefused_writes; (on_goal 2 => decide))
    | with_reducible apply Writes.ite
    | split)

theorem stageData_writes {c : Nat} {bs : Bytes} {wm : Nat} {z0 s : State} (wh : Writes wm z0 s) (we : 4194304 ||| wm = wm) : Writes wm z0
    (stageData s c bs) := by
  refine Writes.step (g := 4194304) ?_ we wh
  clear wh we
  have hz : Writes 4194304 s s := Writes.refl _ _
  unfold stageData
  try dsimp only
  repeat' (first
    | with_reducible assumption
    | (with_reducible apply drawUnits_writes; (on_goal 2 => decide))
    | (with_reducible apply State.withChan_writes; (on_goal 2 => decide)))

theorem runDesc_writes {c : Nat} {d : DDesc} {host : Bytes} {hostFail : Option Nat} {wm : Nat} {z0 s : State} (wh : Writes wm z0 s) (we :
    24758976546 ||| wm = wm) : Writes wm z0 (runDesc s c d host hostFail) := by
  refine Writes.step (g := 24758976546) ?_ we wh
  clear wh we
  have hz : Writes 24758976546 s s := Writes.refl _ _
  unfold runDesc
  try dsimp only
  repeat' (first
    | with_reducible assumption
    | (with_reducible apply stageData_writes; (on_goal 2 => decide))
    | (with_reducible apply noteRefusal_writes; (on_goal 2 => decide))
    | (with_reducible apply sideWrite_writes; (on_goal 2 => decide))
    | (with_reducible apply endDesc_writes; (on_goal 2 => decide))
    | (with_reducible apply State.drawBytes_writes; (on_goal 2 => decide))
    | with_reducible apply Writes.ite
    | split
    | with_reducible apply WritesSnd.snd)

theorem onDma_writes {c : Nat} {ops : Nat → Bool} {host : Bytes} {wm : Nat} {z0 s : State} (wh : Writes wm z0 s) (we : 24758976546 ||| wm =
    wm) : Writes wm z0 (onDma s c ops host) := by
  refine Writes.step (g := 24758976546) ?_ we wh
  clear wh we
  have hz : Writes 24758976546 s s := Writes.refl _ _
  unfold onDma
  try dsimp only
  repeat' (first
    | with_reducible assumption
    | (with_reducible apply runDesc_writes; (on_goal 2 => decide))
    | (with_reducible apply completeDesc_writes; (on_goal 2 => decide))
    | with_reducible apply Writes.ite)

theorem execCopy_writes {ch : Nat} {hostData : Bytes} {wm : Nat} {z0 s : State} (wh : Writes wm z0 s) (we : 24758976546 ||| wm = wm) :
    WritesOut wm z0 (execCopy ch hostData s) := by
  refine WritesOut.step (g := 24758976546) ?_ we wh
  clear wh we
  have hz : Writes 24758976546 s s := Writes.refl _ _
  unfold execCopy
  try dsimp only
  repeat' (first
    | with_reducible assumption
    | (with_reducible apply onDma_writes; (on_goal 2 => decide))
    | with_reducible apply WritesOut.next)

theorem execFill_writes {ch : Nat} {wm : Nat} {z0 s : State} (wh : Writes wm z0 s) (we : 24758976546 ||| wm = wm) : WritesOut wm z0
    (execFill ch s) := by
  refine WritesOut.step (g := 24758976546) ?_ we wh
  clear wh we
  have hz : Writes 24758976546 s s := Writes.refl _ _
  unfold execFill
  try dsimp only
  repeat' (first
    | with_reducible assumption
    | (with_reducible apply onDma_writes; (on_goal 2 => decide))
    | with_reducible apply WritesOut.next)

theorem execCompareConst_writes {ch : Nat} {hostData : Bytes} {wm : Nat} {z0 s : State} (wh : Writes wm z0 s) (we : 24758976546 ||| wm =
    wm) : WritesOut wm z0 (execCompareConst ch hostData s) := by
  refine WritesOut.step (g := 24758976546) ?_ we wh
  clear wh we
  have hz : Writes 24758976546 s s := Writes.refl _ _
  unfold execCompareConst
  try dsimp only
  repeat' (first
    | with_reducible assumption
    | (with_reducible apply onDma_writes; (on_goal 2 => decide))
    | with_reducible apply WritesOut.next)

theorem execCompareBuf_writes {ch : Nat} {hostData : Bytes} {wm : Nat} {z0 s : State} (wh : Writes wm z0 s) (we : 24758976546 ||| wm = wm)
    : WritesOut wm z0 (execCompareBuf ch hostData s) := by
  refine WritesOut.step (g := 24758976546) ?_ we wh
  clear wh we
  have hz : Writes 24758976546 s s := Writes.refl _ _
  unfold execCompareBuf
  try dsimp only
  repeat' (first
    | with_reducible assumption
    | (with_reducible apply onDma_writes; (on_goal 2 => decide))
    | with_reducible apply WritesOut.next)

theorem jobReadBack_writes {id : Nat} {ok : Bool} {wm : Nat} {z0 s : State} (wh : Writes wm z0 s) (we : 18257843840 ||| wm = wm) : Writes
    wm z0 (jobReadBack s id ok) := by
  refine Writes.step (g := 18257843840) ?_ we wh
  clear wh we
  have hz : Writes 18257843840 s s := Writes.refl _ _
  unfold jobReadBack
  try dsimp only
  repeat' (first
    | with_reducible assumption
    | (with_reducible apply complete_writes; (on_goal 2 => decide))
    | (with_reducible apply returnChannel_writes; (on_goal 2 => decide))
    | (with_reducible apply State.withJob_writes; (on_goal 2 => decide))
    | (with_reducible apply State.hostWrite_writes; (on_goal 2 => decide))
    | (with_reducible apply State.bump_writes; (on_goal 2 => decide))
    | with_reducible apply Writes.ite)

theorem chanReadBack_writes {c : Nat} {ok : Bool} {wm : Nat} {z0 s : State} (wh : Writes wm z0 s) (we : 3258974208 ||| wm = wm) : Writes wm
    z0 (chanReadBack s c ok) := by
  refine Writes.step (g := 3258974208) ?_ we wh
  clear wh we
  have hz : Writes 3258974208 s s := Writes.refl _ _
  unfold chanReadBack
  try dsimp only
  repeat' (first
    | with_reducible assumption
    | (with_reducible apply completeDesc_writes; (on_goal 2 => decide))
    | (with_reducible apply State.bump_writes; (on_goal 2 => decide))
    | with_reducible apply Writes.ite
    | split)

theorem execReadBackDone_writes {who : XferRef} {ok : Bool} {wm : Nat} {z0 s : State} (wh : Writes wm z0 s) (we : 20438881920 ||| wm = wm)
    : WritesOut wm z0 (execReadBackDone who ok s) := by
  refine WritesOut.step (g := 20438881920) ?_ we wh
  clear wh we
  have hz : Writes 20438881920 s s := Writes.refl _ _
  unfold execReadBackDone
  try dsimp only
  repeat' (first
    | with_reducible assumption
    | (with_reducible apply chanReadBack_writes; (on_goal 2 => decide))
    | (with_reducible apply jobReadBack_writes; (on_goal 2 => decide))
    | with_reducible apply WritesOut.next
    | with_reducible apply WritesOut.ite
    | split)

theorem failRead_writes {who : ReadRef} {wm : Nat} {z0 s : State} (wh : Writes wm z0 s) (we : 24760046754 ||| wm = wm) : Writes wm z0
    (failRead s who) := by
  refine Writes.step (g := 24760046754) ?_ we wh
  clear wh we
  have hz : Writes 24760046754 s s := Writes.refl _ _
  unfold failRead
  try dsimp only
  repeat' (first
    | with_reducible assumption
    | (with_reducible apply runDesc_writes; (on_goal 2 => decide))
    | (with_reducible apply failJobRead_writes; (on_goal 2 => decide))
    | with_reducible apply Writes.ite
    | split)

theorem execHostReadError_writes {who : ReadRef} {wm : Nat} {z0 s : State} (wh : Writes wm z0 s) (we : 24760046754 ||| wm = wm) : WritesOut
    wm z0 (execHostReadError who s) := by
  refine WritesOut.step (g := 24760046754) ?_ we wh
  clear wh we
  have hz : Writes 24760046754 s s := Writes.refl _ _
  unfold execHostReadError
  try dsimp only
  repeat' (first
    | with_reducible assumption
    | (with_reducible apply failRead_writes; (on_goal 2 => decide))
    | with_reducible apply WritesOut.next)

theorem execCompletionTimeout_writes {who : ReadRef} {wm : Nat} {z0 s : State} (wh : Writes wm z0 s) (we : 24760046754 ||| wm = wm) :
    WritesOut wm z0 (execCompletionTimeout who s) := by
  refine WritesOut.step (g := 24760046754) ?_ we wh
  clear wh we
  have hz : Writes 24760046754 s s := Writes.refl _ _
  unfold execCompletionTimeout
  try dsimp only
  repeat' (first
    | with_reducible assumption
    | (with_reducible apply failRead_writes; (on_goal 2 => decide))
    | with_reducible apply WritesOut.next
    | with_reducible apply WritesOut.ite)

theorem execReadAbandoned_writes {who : ReadRef} {wm : Nat} {z0 s : State} (wh : Writes wm z0 s) (we : 24760046754 ||| wm = wm) : WritesOut
    wm z0 (execReadAbandoned who s) := by
  refine WritesOut.step (g := 24760046754) ?_ we wh
  clear wh we
  have hz : Writes 24760046754 s s := Writes.refl _ _
  unfold execReadAbandoned
  try dsimp only
  repeat' (first
    | with_reducible assumption
    | (with_reducible apply failRead_writes; (on_goal 2 => decide))
    | with_reducible apply WritesOut.next
    | with_reducible apply WritesOut.ite)

/-! ### Verb -/

theorem State.withRegs_writes {u : Nat} {f : VRegs → VRegs} {wm : Nat} {z0 s : State} (wh : Writes wm z0 s) (we : 33554432 ||| wm = wm) :
    Writes wm z0 (State.withRegs s u f) := by
  refine Writes.step (g := 33554432) ?_ we wh
  clear wh we
  have hz : Writes 33554432 s s := Writes.refl _ _
  unfold State.withRegs
  try dsimp only
  repeat' (first
    | with_reducible assumption
    | (with_reducible apply State.withUnit_writes; (on_goal 2 => decide)))

theorem countEntry_writes {u : Nat} {e : Exc} {wm : Nat} {z0 s : State} (wh : Writes wm z0 s) (we : 1107296256 ||| wm = wm) : Writes wm z0
    (countEntry s u e) := by
  refine Writes.step (g := 1107296256) ?_ we wh
  clear wh we
  have hz : Writes 1107296256 s s := Writes.refl _ _
  unfold countEntry
  try dsimp only
  repeat' (first
    | with_reducible assumption
    | (with_reducible apply State.withVerb_writes; (on_goal 2 => decide))
    | (with_reducible apply State.bump_writes; (on_goal 2 => decide))
    | with_reducible apply Writes.ite)

theorem takeAsync_writes {u : Nat} {wm : Nat} {z0 s : State} (wh : Writes wm z0 s) (we : 1107296256 ||| wm = wm) : Writes wm z0 (takeAsync s u) := by
  refine Writes.step (g := 1107296256) ?_ we wh
  clear wh we
  have hz : Writes 1107296256 s s := Writes.refl _ _
  unfold takeAsync
  try dsimp only
  repeat' (first
    | with_reducible assumption
    | (with_reducible apply countEntry_writes; (on_goal 2 => decide))
    | (with_reducible apply State.withUnit_writes; (on_goal 2 => decide))
    | with_reducible apply Writes.ite
    | split)

theorem raiseAsync_writes {u : Nat} {ev : AsyncEvent} {wm : Nat} {z0 s : State} (wh : Writes wm z0 s) (we : 1107296256 ||| wm = wm) :
    Writes wm z0 (raiseAsync s u ev) := by
  refine Writes.step (g := 1107296256) ?_ we wh
  clear wh we
  have hz : Writes 1107296256 s s := Writes.refl _ _
  unfold raiseAsync
  try dsimp only
  repeat' (first
    | with_reducible assumption
    | (with_reducible apply takeAsync_writes; (on_goal 2 => decide))
    | (with_reducible apply State.withUnit_writes; (on_goal 2 => decide)))

theorem freeze_writes {u : Nat} {x : VUnit} {e : Exc} {wm : Nat} {z0 s : State} (wh : Writes wm z0 s) (we : 1107296288 ||| wm = wm) :
    Writes wm z0 (freeze s u x e) := by
  refine Writes.step (g := 1107296288) ?_ we wh
  clear wh we
  have hz : Writes 1107296288 s s := Writes.refl _ _
  unfold freeze
  try dsimp only
  repeat' (first
    | with_reducible assumption
    | (with_reducible apply raiseAsync_writes; (on_goal 2 => decide))
    | (with_reducible apply State.withUnit_writes; (on_goal 2 => decide))
    | (with_reducible apply State.event_writes; (on_goal 2 => decide))
    | (with_reducible apply State.bump_writes; (on_goal 2 => decide))
    | with_reducible apply Writes.ite)

theorem raiseSync_writes {u : Nat} {x : VUnit} {e : Exc} {mark : VUnit → VUnit} {wm : Nat} {z0 s : State} (wh : Writes wm z0 s) (we :
    3260044448 ||| wm = wm) : Writes wm z0 (raiseSync s u x e mark) := by
  refine Writes.step (g := 3260044448) ?_ we wh
  clear wh we
  have hz : Writes 3260044448 s s := Writes.refl _ _
  unfold raiseSync
  try dsimp only
  repeat' (first
    | with_reducible assumption
    | (with_reducible apply freeze_writes; (on_goal 2 => decide))
    | (with_reducible apply countEntry_writes; (on_goal 2 => decide))
    | (with_reducible apply finish_writes; (on_goal 2 => decide))
    | (with_reducible apply State.withUnit_writes; (on_goal 2 => decide))
    | with_reducible apply Writes.ite
    | split)

theorem failFetch_writes {u : Nat} {x : VUnit} {e : Exc} {wm : Nat} {z0 s : State} (wh : Writes wm z0 s) (we : 3260044448 ||| wm = wm) :
    Writes wm z0 (failFetch s u x e) := by
  refine Writes.step (g := 3260044448) ?_ we wh
  clear wh we
  have hz : Writes 3260044448 s s := Writes.refl _ _
  unfold failFetch
  try dsimp only
  repeat' (first
    | intro _
    | with_reducible assumption
    | (with_reducible apply raiseSync_writes; (on_goal 2 => decide))
    | (with_reducible apply State.bump_writes; (on_goal 2 => decide))
    | with_reducible apply Writes.onlyIf)

theorem runVerb_writes {u : Nat} {len : Nat} {body : VUnit → State → VRes} {s z0 : State} {wm : Nat} (hm : 3260044448 ||| wm = wm) (wh :
    Writes wm z0 s) (hbody : ∀ y0, ∀ y1, Writes wm z0 y1 → WritesRes wm z0 (body y0 y1)) :
    Writes wm z0 (runVerb s u len body) := by
  unfold runVerb
  try dsimp only
  repeat' (first
    | with_reducible assumption
    | with_reducible apply hbody
    | (with_reducible apply failFetch_writes; (on_goal 2 => (first | decide | exact Writes.sub (by decide) hm)))
    | (with_reducible apply raiseSync_writes; (on_goal 2 => (first | decide | exact Writes.sub (by decide) hm)))
    | (with_reducible apply takeAsync_writes; (on_goal 2 => (first | decide | exact Writes.sub (by decide) hm)))
    | (with_reducible apply State.withUnit_writes; (on_goal 2 => (first | decide | exact Writes.sub (by decide) hm)))
    | with_reducible apply Writes.ite
    | (with_reducible apply WritesRes.of_done; with_reducible assumption)
    | (with_reducible apply WritesRes.of_exc; with_reducible assumption)
    | split)

theorem trapReserved_writes {u : Nat} {pre : List (BitVec 12)} {word : Nat} {wm : Nat} {z0 s : State} (wh : Writes wm z0 s) (we :
    3260044448 ||| wm = wm) : Writes wm z0 (trapReserved s u pre word) := by
  refine Writes.step (g := 3260044448) ?_ we wh
  clear wh we
  have hz : Writes 3260044448 s s := Writes.refl _ _
  unfold trapReserved
  try dsimp only
  repeat' (first
    | with_reducible assumption
    | (with_reducible apply failFetch_writes; (on_goal 2 => decide))
    | (with_reducible apply raiseSync_writes; (on_goal 2 => decide))
    | with_reducible apply Writes.ite
    | split)

theorem runWord_writes {u : Nat} {pre : List (BitVec 12)} {word : Nat} {body : VUnit → State → VRes} {s z0 : State} {wm : Nat} (hm :
    3260044448 ||| wm = wm) (wh : Writes wm z0 s) (hbody : ∀ y0, ∀ y1, Writes wm z0 y1 → WritesRes wm z0 (body y0 y1)) :
    Writes wm z0 (runWord s u pre word body) := by
  unfold runWord
  try dsimp only
  repeat' (first
    | intro _
    | with_reducible assumption
    | with_reducible apply hbody
    | (with_reducible apply trapReserved_writes; (on_goal 2 => (first | decide | exact Writes.sub (by decide) hm)))
    | (with_reducible apply runVerb_writes; (on_goal 1 => (first | decide | exact Writes.sub (by decide) hm)))
    | with_reducible apply Writes.ite)

theorem onRegs_writes {u : Nat} {f : VRegs → VRegs → VRegs} {x0 : VUnit} {wm : Nat} {z0 x1 : State} (wh : Writes wm z0 x1) (we : 33554432
    ||| wm = wm) : WritesRes wm z0 (onRegs u f x0 x1) := by
  refine WritesRes.step (g := 33554432) ?_ we wh
  clear wh we
  have hz : Writes 33554432 x1 x1 := Writes.refl _ _
  unfold onRegs
  try dsimp only
  repeat' (first
    | with_reducible assumption
    | (with_reducible apply State.withRegs_writes; (on_goal 2 => decide))
    | with_reducible apply WritesRes.done)

theorem refusal_writes {g : Nat} {i : Nat} {off : Nat} {a : Nat} {code : Nat} {wr : Bool} {wm : Nat} {z0 s : State} (wh : Writes wm z0 s)
    (we : 1073741856 ||| wm = wm) : WritesRes wm z0 (refusal s g i off a code wr) := by
  refine WritesRes.step (g := 1073741856) ?_ we wh
  clear wh we
  have hz : Writes 1073741856 s s := Writes.refl _ _
  unfold refusal
  try dsimp only
  repeat' (first
    | with_reducible assumption
    | (with_reducible apply guardRefused_writes; (on_goal 2 => decide))
    | with_reducible apply WritesRes.exc)

theorem freshWord_writes {p : Nat} {wm : Nat} {z0 s : State} (wh : Writes wm z0 s) (we : 2097154 ||| wm = wm) : WritesOptSnd wm z0
    (freshWord s p) := by
  refine WritesOptSnd.step (g := 2097154) ?_ we wh
  clear wh we
  have hz : Writes 2097154 s s := Writes.refl _ _
  unfold freshWord
  try dsimp only
  repeat' (first
    | with_reducible assumption
    | (with_reducible apply rngDraw_writes; (on_goal 2 => decide))
    | with_reducible exact WritesOptSnd.none
    | with_reducible apply WritesOptSnd.some
    | split
    | with_reducible apply WritesSnd.snd)

theorem loadWord_writes {u : Nat} {g : Nat} {off : Nat} {a : Nat} {wm : Nat} {z0 s : State} (wh : Writes wm z0 s) (we : 35651594 ||| wm =
    wm) : WritesSum wm z0 (loadWord s u g off a) := by
  refine WritesSum.step (g := 35651594) ?_ we wh
  clear wh we
  have hz : Writes 35651594 s s := Writes.refl _ _
  unfold loadWord
  try dsimp only
  repeat' (first
    | with_reducible assumption
    | (with_reducible apply freshWord_writes; (on_goal 2 => decide))
    | (with_reducible apply latchDtb_writes; (on_goal 2 => decide))
    | (with_reducible apply State.withUnit_writes; (on_goal 2 => decide))
    | with_reducible apply WritesSum.inl
    | with_reducible apply WritesSum.inr
    | with_reducible apply Writes.ite
    | with_reducible apply WritesRes.exc
    | with_reducible exact WritesRes.rngWait
    | (with_reducible apply WritesOptSnd.of_eq; with_reducible assumption)
    | split)

theorem failStalled_writes {p : Nat} {wm : Nat} {z0 s : State} (wh : Writes wm z0 s) (we : 3260044448 ||| wm = wm) : Writes wm z0
    (failStalled s p) := by
  refine Writes.step (g := 3260044448) ?_ we wh
  clear wh we
  have hz : Writes 3260044448 s s := Writes.refl _ _
  unfold failStalled
  try dsimp only
  repeat' (first
    | intro _
    | with_reducible assumption
    | (with_reducible apply raiseSync_writes; (on_goal 2 => decide))
    | with_reducible apply Writes.ite
    | with_reducible apply Writes.foldl
    | split)

theorem vLoad_writes {u : Nat} {x : VUnit} {a : Nat} {n : Nat} {wm : Nat} {z0 s : State} (wh : Writes wm z0 s) (we : 1109393450 ||| wm =
    wm) : WritesSum wm z0 (vLoad s u x a n) := by
  refine WritesSum.step (g := 1109393450) ?_ we wh
  clear wh we
  have hz : Writes 1109393450 s s := Writes.refl _ _
  unfold vLoad
  try dsimp only
  repeat' (first
    | with_reducible assumption
    | (with_reducible apply loadWord_writes; (on_goal 2 => decide))
    | (with_reducible apply refusal_writes; (on_goal 2 => decide))
    | with_reducible apply WritesSum.inl
    | with_reducible apply WritesSum.inr
    | with_reducible apply WritesRes.exc
    | with_reducible exact WritesRes.stall
    | (with_reducible apply WritesSum.of_inl; with_reducible assumption)
    | (with_reducible apply WritesSum.of_inr; with_reducible assumption)
    | split)

theorem vStore_writes {u : Nat} {x : VUnit} {a : Nat} {bs : Bytes} {wm : Nat} {z0 s : State} (wh : Writes wm z0 s) (we : 7579107362 ||| wm
    = wm) : WritesRes wm z0 (vStore s u x a bs) := by
  refine WritesRes.step (g := 7579107362) ?_ we wh
  clear wh we
  have hz : Writes 7579107362 s s := Writes.refl _ _
  unfold vStore
  try dsimp only
  repeat' (first
    | with_reducible assumption
    | (with_reducible apply refusal_writes; (on_goal 2 => decide))
    | (with_reducible apply spaceWrite_writes; (on_goal 2 => decide))
    | (with_reducible apply State.withUnit_writes; (on_goal 2 => decide))
    | with_reducible apply WritesRes.ite
    | with_reducible apply WritesRes.done
    | with_reducible apply WritesRes.exc
    | split)

end Sys2Proof.Machine
end

