-- ==== Sys2Proof/Laws/Writes7.lean ====
section
/-! SUPPORT. Which fields each operation can write (see Writes.lean), operation by operation: VerbSys, VerbLane, VerbEvents, Power, Repair. -/

set_option linter.unusedTactic false
set_option linter.unreachableTactic false
set_option linter.unusedVariables false

namespace Sys2Proof.Machine

open Sys2Proof

/-! ### VerbSys -/

theorem execNop_writes {u : Nat} {wm : Nat} {z0 s : State} (wh : Writes wm z0 s) (we : 3260044448 ||| wm = wm) : WritesOut wm z0 (execNop u s) := by
  refine WritesOut.step (g := 3260044448) ?_ we wh
  clear wh we
  have hz : Writes 3260044448 s s := Writes.refl _ _
  unfold execNop
  try dsimp only
  repeat' (first
    | intro _
    | with_reducible assumption
    | (with_reducible apply runVerb_writes; (on_goal 1 => decide))
    | with_reducible apply WritesOut.next
    | with_reducible apply WritesRes.done)

theorem execVerbFence_writes {u : Nat} {wm : Nat} {z0 s : State} (wh : Writes wm z0 s) (we : 3260044448 ||| wm = wm) : WritesOut wm z0
    (execVerbFence u s) := by
  refine WritesOut.step (g := 3260044448) ?_ we wh
  clear wh we
  have hz : Writes 3260044448 s s := Writes.refl _ _
  unfold execVerbFence
  try dsimp only
  repeat' (first
    | intro _
    | with_reducible assumption
    | (with_reducible apply runVerb_writes; (on_goal 1 => decide))
    | with_reducible apply WritesOut.next
    | with_reducible apply WritesRes.done)

theorem execBrk_writes {u : Nat} {wm : Nat} {z0 s : State} (wh : Writes wm z0 s) (we : 3260044448 ||| wm = wm) : WritesOut wm z0 (execBrk u s) := by
  refine WritesOut.step (g := 3260044448) ?_ we wh
  clear wh we
  have hz : Writes 3260044448 s s := Writes.refl _ _
  unfold execBrk
  try dsimp only
  repeat' (first
    | intro _
    | with_reducible assumption
    | (with_reducible apply runVerb_writes; (on_goal 1 => decide))
    | with_reducible apply WritesOut.next
    | with_reducible apply WritesRes.exc)

theorem execEms_writes {u : Nat} {wm : Nat} {z0 s : State} (wh : Writes wm z0 s) (we : 3260044448 ||| wm = wm) : WritesOut wm z0 (execEms u s) := by
  refine WritesOut.step (g := 3260044448) ?_ we wh
  clear wh we
  have hz : Writes 3260044448 s s := Writes.refl _ _
  unfold execEms
  try dsimp only
  repeat' (first
    | intro _
    | with_reducible assumption
    | (with_reducible apply runVerb_writes; (on_goal 1 => decide))
    | (with_reducible apply State.withRegs_writes; (on_goal 2 => decide))
    | with_reducible apply WritesOut.next
    | with_reducible apply WritesRes.ite
    | with_reducible apply WritesRes.done
    | with_reducible apply WritesRes.exc)

theorem execEmc_writes {u : Nat} {wm : Nat} {z0 s : State} (wh : Writes wm z0 s) (we : 3260044448 ||| wm = wm) : WritesOut wm z0 (execEmc u s) := by
  refine WritesOut.step (g := 3260044448) ?_ we wh
  clear wh we
  have hz : Writes 3260044448 s s := Writes.refl _ _
  unfold execEmc
  try dsimp only
  repeat' (first
    | intro _
    | with_reducible assumption
    | (with_reducible apply runVerb_writes; (on_goal 1 => decide))
    | (with_reducible apply State.withRegs_writes; (on_goal 2 => decide))
    | with_reducible apply WritesOut.next
    | with_reducible apply WritesRes.ite
    | with_reducible apply WritesRes.done
    | with_reducible apply WritesRes.exc)

theorem wfeStep_writes {u : Nat} {wm : Nat} {z0 s : State} (wh : Writes wm z0 s) (we : 1107296256 ||| wm = wm) : Writes wm z0 (wfeStep s u) := by
  refine Writes.step (g := 1107296256) ?_ we wh
  clear wh we
  have hz : Writes 1107296256 s s := Writes.refl _ _
  unfold wfeStep
  try dsimp only
  repeat' (first
    | with_reducible assumption
    | (with_reducible apply takeAsync_writes; (on_goal 2 => decide))
    | (with_reducible apply State.withUnit_writes; (on_goal 2 => decide))
    | with_reducible apply Writes.ite)

theorem waitcStep_writes {u : Nat} {dn : BitVec 32} {wm : Nat} {z0 s : State} (wh : Writes wm z0 s) (we : 1107296256 ||| wm = wm) : Writes
    wm z0 (waitcStep s u dn) := by
  refine Writes.step (g := 1107296256) ?_ we wh
  clear wh we
  have hz : Writes 1107296256 s s := Writes.refl _ _
  unfold waitcStep
  try dsimp only
  repeat' (first
    | with_reducible assumption
    | (with_reducible apply takeAsync_writes; (on_goal 2 => decide))
    | (with_reducible apply State.withUnit_writes; (on_goal 2 => decide))
    | with_reducible apply Writes.ite)

theorem beginWait_writes {u : Nat} {f : VUnit → State → State} {s z0 : State} {wm : Nat} (hm : 3260044448 ||| wm = wm) (wh : Writes wm z0
    s) (hf : ∀ y0, ∀ y1, Writes wm z0 y1 → Writes wm z0 (f y0 y1)) :
    Writes wm z0 (beginWait s u f) := by
  unfold beginWait
  try dsimp only
  repeat' (first
    | with_reducible assumption
    | with_reducible apply hf
    | (with_reducible apply failFetch_writes; (on_goal 2 => (first | decide | exact Writes.sub (by decide) hm)))
    | (with_reducible apply State.withUnit_writes; (on_goal 2 => (first | decide | exact Writes.sub (by decide) hm)))
    | with_reducible apply Writes.ite
    | split)

theorem execWfe_writes {u : Nat} {wm : Nat} {z0 s : State} (wh : Writes wm z0 s) (we : 3260044448 ||| wm = wm) : WritesOut wm z0 (execWfe u s) := by
  refine WritesOut.step (g := 3260044448) ?_ we wh
  clear wh we
  have hz : Writes 3260044448 s s := Writes.refl _ _
  unfold execWfe
  try dsimp only
  repeat' (first
    | intro _
    | with_reducible assumption
    | (with_reducible apply beginWait_writes; (on_goal 1 => decide))
    | (with_reducible apply wfeStep_writes; (on_goal 2 => decide))
    | with_reducible apply WritesOut.next)

theorem execWaitc_writes {u : Nat} {dn : Fin 8} {wm : Nat} {z0 s : State} (wh : Writes wm z0 s) (we : 3260044448 ||| wm = wm) : WritesOut
    wm z0 (execWaitc u dn s) := by
  refine WritesOut.step (g := 3260044448) ?_ we wh
  clear wh we
  have hz : Writes 3260044448 s s := Writes.refl _ _
  unfold execWaitc
  try dsimp only
  repeat' (first
    | intro _
    | with_reducible assumption
    | (with_reducible apply beginWait_writes; (on_goal 1 => decide))
    | (with_reducible apply waitcStep_writes; (on_goal 2 => decide))
    | with_reducible apply WritesOut.next)

theorem execWaitWake_writes {u : Nat} {wm : Nat} {z0 s : State} (wh : Writes wm z0 s) (we : 1107296256 ||| wm = wm) : WritesOut wm z0
    (execWaitWake u s) := by
  refine WritesOut.step (g := 1107296256) ?_ we wh
  clear wh we
  have hz : Writes 1107296256 s s := Writes.refl _ _
  unfold execWaitWake
  try dsimp only
  repeat' (first
    | with_reducible assumption
    | (with_reducible apply waitcStep_writes; (on_goal 2 => decide))
    | (with_reducible apply wfeStep_writes; (on_goal 2 => decide))
    | with_reducible apply WritesOut.next
    | with_reducible apply WritesOut.ite
    | split)

theorem execSev_writes {u : Nat} {dn : Fin 8} {bank : Bool} {wm : Nat} {z0 s : State} (wh : Writes wm z0 s) (we : 3260044448 ||| wm = wm) :
    WritesOut wm z0 (execSev u dn bank s) := by
  refine WritesOut.step (g := 3260044448) ?_ we wh
  clear wh we
  have hz : Writes 3260044448 s s := Writes.refl _ _
  unfold execSev
  try dsimp only
  repeat' (first
    | intro _
    | with_reducible assumption
    | (with_reducible apply runVerb_writes; (on_goal 1 => decide))
    | (with_reducible apply sendEvents_writes; (on_goal 2 => decide))
    | (with_reducible apply State.bumpBys_writes; (on_goal 2 => decide))
    | with_reducible apply WritesOut.next
    | with_reducible apply WritesRes.done)

theorem execMfs_writes {u : Nat} {dd : Fin 8} {sreg : Fin 32} {wm : Nat} {z0 s : State} (wh : Writes wm z0 s) (we : 3260044448 ||| wm = wm)
    : WritesOut wm z0 (execMfs u dd sreg s) := by
  refine WritesOut.step (g := 3260044448) ?_ we wh
  clear wh we
  have hz : Writes 3260044448 s s := Writes.refl _ _
  unfold execMfs
  try dsimp only
  repeat' (first
    | intro _
    | with_reducible assumption
    | (with_reducible apply runWord_writes; (on_goal 1 => decide))
    | (with_reducible apply State.withRegs_writes; (on_goal 2 => decide))
    | (with_reducible apply State.withUnit_writes; (on_goal 2 => decide))
    | with_reducible apply WritesOut.next
    | with_reducible apply WritesRes.ite
    | with_reducible apply WritesRes.done
    | with_reducible apply WritesRes.exc)

theorem execMts_writes {u : Nat} {sreg : Fin 32} {ds : Fin 8} {wm : Nat} {z0 s : State} (wh : Writes wm z0 s) (we : 3260044448 ||| wm = wm)
    : WritesOut wm z0 (execMts u sreg ds s) := by
  refine WritesOut.step (g := 3260044448) ?_ we wh
  clear wh we
  have hz : Writes 3260044448 s s := Writes.refl _ _
  unfold execMts
  try dsimp only
  repeat' (first
    | intro _
    | with_reducible assumption
    | (with_reducible apply runWord_writes; (on_goal 1 => decide))
    | (with_reducible apply State.withUnit_writes; (on_goal 2 => decide))
    | with_reducible apply WritesOut.next
    | with_reducible apply WritesRes.ite
    | with_reducible apply WritesRes.done
    | with_reducible apply WritesRes.exc)

theorem execRetx_writes {u : Nat} {wm : Nat} {z0 s : State} (wh : Writes wm z0 s) (we : 3260044448 ||| wm = wm) : WritesOut wm z0 (execRetx u s) := by
  refine WritesOut.step (g := 3260044448) ?_ we wh
  clear wh we
  have hz : Writes 3260044448 s s := Writes.refl _ _
  unfold execRetx
  try dsimp only
  repeat' (first
    | intro _
    | with_reducible assumption
    | (with_reducible apply runVerb_writes; (on_goal 1 => decide))
    | (with_reducible apply State.withRegs_writes; (on_goal 2 => decide))
    | with_reducible apply WritesOut.next
    | with_reducible apply WritesRes.ite
    | with_reducible apply WritesRes.done
    | with_reducible apply WritesRes.exc)

theorem execRetg_writes {u : Nat} {wm : Nat} {z0 s : State} (wh : Writes wm z0 s) (we : 3260044448 ||| wm = wm) : WritesOut wm z0 (execRetg u s) := by
  refine WritesOut.step (g := 3260044448) ?_ we wh
  clear wh we
  have hz : Writes 3260044448 s s := Writes.refl _ _
  unfold execRetg
  try dsimp only
  repeat' (first
    | intro _
    | with_reducible assumption
    | (with_reducible apply runVerb_writes; (on_goal 1 => decide))
    | (with_reducible apply State.withRegs_writes; (on_goal 2 => decide))
    | with_reducible apply WritesOut.next
    | with_reducible apply WritesRes.ite
    | with_reducible apply WritesRes.done
    | with_reducible apply WritesRes.exc)

theorem execGate_writes {u : Nat} {n : BitVec 8} {wm : Nat} {z0 s : State} (wh : Writes wm z0 s) (we : 3260044448 ||| wm = wm) : WritesOut
    wm z0 (execGate u n s) := by
  refine WritesOut.step (g := 3260044448) ?_ we wh
  clear wh we
  have hz : Writes 3260044448 s s := Writes.refl _ _
  unfold execGate
  try dsimp only
  repeat' (first
    | intro _
    | with_reducible assumption
    | (with_reducible apply runVerb_writes; (on_goal 1 => decide))
    | (with_reducible apply State.withUnit_writes; (on_goal 2 => decide))
    | with_reducible apply WritesOut.next
    | with_reducible apply WritesRes.done
    | with_reducible apply WritesRes.exc
    | split)

theorem execMovad_writes {u : Nat} {ad : Fin 8} {ds : Fin 8} {wm : Nat} {z0 s : State} (wh : Writes wm z0 s) (we : 3260044448 ||| wm = wm)
    : WritesOut wm z0 (execMovad u ad ds s) := by
  refine WritesOut.step (g := 3260044448) ?_ we wh
  clear wh we
  have hz : Writes 3260044448 s s := Writes.refl _ _
  unfold execMovad
  try dsimp only
  repeat' (first
    | intro _
    | with_reducible assumption
    | (with_reducible apply onRegs_writes; (on_goal 2 => decide))
    | (with_reducible apply runVerb_writes; (on_goal 1 => decide))
    | with_reducible apply WritesOut.next)

theorem execMovda_writes {u : Nat} {dd : Fin 8} {as : Fin 8} {wm : Nat} {z0 s : State} (wh : Writes wm z0 s) (we : 3260044448 ||| wm = wm)
    : WritesOut wm z0 (execMovda u dd as s) := by
  refine WritesOut.step (g := 3260044448) ?_ we wh
  clear wh we
  have hz : Writes 3260044448 s s := Writes.refl _ _
  unfold execMovda
  try dsimp only
  repeat' (first
    | intro _
    | with_reducible assumption
    | (with_reducible apply onRegs_writes; (on_goal 2 => decide))
    | (with_reducible apply runVerb_writes; (on_goal 1 => decide))
    | with_reducible apply WritesOut.next)

theorem execMovaa_writes {u : Nat} {ad : Fin 8} {as : Fin 8} {wm : Nat} {z0 s : State} (wh : Writes wm z0 s) (we : 3260044448 ||| wm = wm)
    : WritesOut wm z0 (execMovaa u ad as s) := by
  refine WritesOut.step (g := 3260044448) ?_ we wh
  clear wh we
  have hz : Writes 3260044448 s s := Writes.refl _ _
  unfold execMovaa
  try dsimp only
  repeat' (first
    | intro _
    | with_reducible assumption
    | (with_reducible apply onRegs_writes; (on_goal 2 => decide))
    | (with_reducible apply runVerb_writes; (on_goal 1 => decide))
    | with_reducible apply WritesOut.next)

theorem execJmp_writes {u : Nat} {as : Fin 8} {wm : Nat} {z0 s : State} (wh : Writes wm z0 s) (we : 3260044448 ||| wm = wm) : WritesOut wm
    z0 (execJmp u as s) := by
  refine WritesOut.step (g := 3260044448) ?_ we wh
  clear wh we
  have hz : Writes 3260044448 s s := Writes.refl _ _
  unfold execJmp
  try dsimp only
  repeat' (first
    | intro _
    | with_reducible assumption
    | (with_reducible apply onRegs_writes; (on_goal 2 => decide))
    | (with_reducible apply runVerb_writes; (on_goal 1 => decide))
    | with_reducible apply WritesOut.next)

theorem execJsr_writes {u : Nat} {as : Fin 8} {wm : Nat} {z0 s : State} (wh : Writes wm z0 s) (we : 3260044448 ||| wm = wm) : WritesOut wm
    z0 (execJsr u as s) := by
  refine WritesOut.step (g := 3260044448) ?_ we wh
  clear wh we
  have hz : Writes 3260044448 s s := Writes.refl _ _
  unfold execJsr
  try dsimp only
  repeat' (first
    | intro _
    | with_reducible assumption
    | (with_reducible apply onRegs_writes; (on_goal 2 => decide))
    | (with_reducible apply runVerb_writes; (on_goal 1 => decide))
    | with_reducible apply WritesOut.next)

theorem execAdda_writes {u : Nat} {ad : Fin 8} {ds : Fin 8} {wm : Nat} {z0 s : State} (wh : Writes wm z0 s) (we : 3260044448 ||| wm = wm) :
    WritesOut wm z0 (execAdda u ad ds s) := by
  refine WritesOut.step (g := 3260044448) ?_ we wh
  clear wh we
  have hz : Writes 3260044448 s s := Writes.refl _ _
  unfold execAdda
  try dsimp only
  repeat' (first
    | intro _
    | with_reducible assumption
    | (with_reducible apply onRegs_writes; (on_goal 2 => decide))
    | (with_reducible apply runVerb_writes; (on_goal 1 => decide))
    | with_reducible apply WritesOut.next)

theorem execAddaa_writes {u : Nat} {ad : Fin 8} {as : Fin 8} {wm : Nat} {z0 s : State} (wh : Writes wm z0 s) (we : 3260044448 ||| wm = wm)
    : WritesOut wm z0 (execAddaa u ad as s) := by
  refine WritesOut.step (g := 3260044448) ?_ we wh
  clear wh we
  have hz : Writes 3260044448 s s := Writes.refl _ _
  unfold execAddaa
  try dsimp only
  repeat' (first
    | intro _
    | with_reducible assumption
    | (with_reducible apply onRegs_writes; (on_goal 2 => decide))
    | (with_reducible apply runVerb_writes; (on_goal 1 => decide))
    | with_reducible apply WritesOut.next)

theorem execCmpa_writes {u : Nat} {ad : Fin 8} {as : Fin 8} {wm : Nat} {z0 s : State} (wh : Writes wm z0 s) (we : 3260044448 ||| wm = wm) :
    WritesOut wm z0 (execCmpa u ad as s) := by
  refine WritesOut.step (g := 3260044448) ?_ we wh
  clear wh we
  have hz : Writes 3260044448 s s := Writes.refl _ _
  unfold execCmpa
  try dsimp only
  repeat' (first
    | intro _
    | with_reducible assumption
    | (with_reducible apply onRegs_writes; (on_goal 2 => decide))
    | (with_reducible apply runVerb_writes; (on_goal 1 => decide))
    | with_reducible apply WritesOut.next)

theorem execAddai_writes {u : Nat} {pre : List (BitVec 12)} {ad : Fin 8} {imm : BitVec 5} {wm : Nat} {z0 s : State} (wh : Writes wm z0 s)
    (we : 3260044448 ||| wm = wm) : WritesOut wm z0 (execAddai u pre ad imm s) := by
  refine WritesOut.step (g := 3260044448) ?_ we wh
  clear wh we
  have hz : Writes 3260044448 s s := Writes.refl _ _
  unfold execAddai
  try dsimp only
  repeat' (first
    | intro _
    | with_reducible assumption
    | (with_reducible apply onRegs_writes; (on_goal 2 => decide))
    | (with_reducible apply runWord_writes; (on_goal 1 => decide))
    | with_reducible apply WritesOut.next)

theorem execReservedPattern_writes {u : Nat} {pre : List (BitVec 12)} {word : BitVec 14} {wm : Nat} {z0 s : State} (wh : Writes wm z0 s)
    (we : 3260044448 ||| wm = wm) : WritesOut wm z0 (execReservedPattern u pre word s) := by
  refine WritesOut.step (g := 3260044448) ?_ we wh
  clear wh we
  have hz : Writes 3260044448 s s := Writes.refl _ _
  unfold execReservedPattern
  try dsimp only
  repeat' (first
    | with_reducible assumption
    | (with_reducible apply trapReserved_writes; (on_goal 2 => decide))
    | with_reducible apply WritesOut.next
    | with_reducible apply WritesOut.ite)

/-! ### VerbLane -/

theorem laneBad_writes {u : Nat} {e : GE} {code : Nat} {detail : Nat} {wm : Nat} {z0 s : State} (wh : Writes wm z0 s) (we : 20593825522 |||
    wm = wm) : Writes wm z0 (laneBad s u e code detail) := by
  refine Writes.step (g := 20593825522) ?_ we wh
  clear wh we
  have hz : Writes 20593825522 s s := Writes.refl _ _
  unfold laneBad
  try dsimp only
  repeat' (first
    | with_reducible assumption
    | (with_reducible apply laneFault_writes; (on_goal 2 => decide))
    | (with_reducible apply faultReport_writes; (on_goal 2 => decide))
    | (with_reducible apply State.report_writes; (on_goal 2 => decide))
    | (with_reducible apply State.bump_writes; (on_goal 2 => decide))
    | split)

theorem watchBad_writes {u : Nat} {k : Nat} {wm : Nat} {z0 s : State} (wh : Writes wm z0 s) (we : 20593825522 ||| wm = wm) : Writes wm z0
    (watchBad s u k) := by
  refine Writes.step (g := 20593825522) ?_ we wh
  clear wh we
  have hz : Writes 20593825522 s s := Writes.refl _ _
  unfold watchBad
  try dsimp only
  repeat' (first
    | with_reducible assumption
    | (with_reducible apply laneBad_writes; (on_goal 2 => decide))
    | (with_reducible apply State.drawNat_writes; (on_goal 2 => decide))
    | with_reducible apply WritesSnd.snd)

theorem narrowBad_writes {u : Nat} {wm : Nat} {z0 s : State} (wh : Writes wm z0 s) (we : 20593825522 ||| wm = wm) : Writes wm z0 (narrowBad s u) := by
  refine Writes.step (g := 20593825522) ?_ we wh
  clear wh we
  have hz : Writes 20593825522 s s := Writes.refl _ _
  unfold narrowBad
  try dsimp only
  repeat' (first
    | with_reducible assumption
    | (with_reducible apply laneBad_writes; (on_goal 2 => decide))
    | (with_reducible apply State.drawNat_writes; (on_goal 2 => decide))
    | (with_reducible apply State.bump_writes; (on_goal 2 => decide))
    | with_reducible apply WritesSnd.snd)

theorem laneOp_writes {u : Nat} {lop : Nat} {a : Nat} {b : Nat} {body : VUnit → State → VRes} {s z0 : State} {wm : Nat} (hm : 3260044448
    ||| wm = wm) (wh : Writes wm z0 s) (hbody : ∀ y0, ∀ y1, Writes wm z0 y1 → WritesRes wm z0 (body y0 y1)) :
    Writes wm z0 (laneOp s u lop a b body) := by
  unfold laneOp
  try dsimp only
  repeat' (first
    | intro _
    | with_reducible assumption
    | with_reducible apply hbody
    | (with_reducible apply runWord_writes; (on_goal 1 => (first | decide | exact Writes.sub (by decide) hm)))
    | with_reducible apply Writes.ite)

theorem wide_writes {f : Nat → Nat → Nat → VUnit → State → VRes} {x0 : VUnit} {x1 z0 : State} {wm : Nat} (hm : 0 ||| wm = wm) (wh : Writes
    wm z0 x1) (hf : ∀ y0, ∀ y1, ∀ y2, ∀ y3, ∀ y4, Writes wm z0 y4 → WritesRes wm z0 (f y0 y1 y2 y3 y4)) :
    WritesRes wm z0 (wide f x0 x1) := by
  unfold wide
  try dsimp only
  repeat' (first
    | with_reducible assumption
    | with_reducible apply hf
    | with_reducible apply WritesRes.exc
    | split)

theorem laneAt_writes {u : Nat} {x : VUnit} {as : Nat} {n : Nat} {wr : Bool} {wm : Nat} {z0 s : State} (wh : Writes wm z0 s) (we :
    1073741856 ||| wm = wm) : WritesInl wm z0 (laneAt s u x as n wr) := by
  refine WritesInl.step (g := 1073741856) ?_ we wh
  clear wh we
  have hz : Writes 1073741856 s s := Writes.refl _ _
  unfold laneAt
  try dsimp only
  repeat' (first
    | with_reducible assumption
    | (with_reducible apply refusal_writes; (on_goal 2 => decide))
    | with_reducible apply WritesInl.inl
    | with_reducible exact WritesInl.inr
    | with_reducible apply WritesRes.exc
    | split)

theorem countMont_writes {u : Nat} {wm : Nat} {z0 s : State} (wh : Writes wm z0 s) (we : 1024 ||| wm = wm) : Writes wm z0 (countMont s u) := by
  refine Writes.step (g := 1024) ?_ we wh
  clear wh we
  have hz : Writes 1024 s s := Writes.refl _ _
  unfold countMont
  try dsimp only
  repeat' (first
    | with_reducible assumption
    | (with_reducible apply State.withJob_writes; (on_goal 2 => decide))
    | with_reducible apply Writes.ite
    | split)

theorem execLmont_writes {u : Nat} {ld : Fin 8} {ls : Fin 8} {bad : Bool} {wm : Nat} {z0 s : State} (wh : Writes wm z0 s) (we : 20593825522
    ||| wm = wm) : WritesOut wm z0 (execLmont u ld ls bad s) := by
  refine WritesOut.step (g := 20593825522) ?_ we wh
  clear wh we
  have hz : Writes 20593825522 s s := Writes.refl _ _
  unfold execLmont
  try dsimp only
  repeat' (first
    | intro _
    | with_reducible assumption
    | (with_reducible apply countMont_writes; (on_goal 2 => decide))
    | (with_reducible apply wide_writes; (on_goal 1 => decide))
    | (with_reducible apply laneOp_writes; (on_goal 1 => decide))
    | (with_reducible apply watchBad_writes; (on_goal 2 => decide))
    | (with_reducible apply State.withRegs_writes; (on_goal 2 => decide))
    | (with_reducible apply State.drawNat_writes; (on_goal 2 => decide))
    | with_reducible apply WritesOut.next
    | with_reducible apply WritesRes.ite
    | with_reducible apply WritesRes.done
    | with_reducible apply WritesSnd.snd)

theorem execLadd_writes {u : Nat} {ld : Fin 8} {ls : Fin 8} {wm : Nat} {z0 s : State} (wh : Writes wm z0 s) (we : 3260044448 ||| wm = wm) :
    WritesOut wm z0 (execLadd u ld ls s) := by
  refine WritesOut.step (g := 3260044448) ?_ we wh
  clear wh we
  have hz : Writes 3260044448 s s := Writes.refl _ _
  unfold execLadd
  try dsimp only
  repeat' (first
    | intro _
    | with_reducible assumption
    | (with_reducible apply wide_writes; (on_goal 1 => decide))
    | (with_reducible apply laneOp_writes; (on_goal 1 => decide))
    | (with_reducible apply State.withRegs_writes; (on_goal 2 => decide))
    | with_reducible apply WritesOut.next
    | with_reducible apply WritesRes.done)

theorem execLsub_writes {u : Nat} {ld : Fin 8} {ls : Fin 8} {wm : Nat} {z0 s : State} (wh : Writes wm z0 s) (we : 3260044448 ||| wm = wm) :
    WritesOut wm z0 (execLsub u ld ls s) := by
  refine WritesOut.step (g := 3260044448) ?_ we wh
  clear wh we
  have hz : Writes 3260044448 s s := Writes.refl _ _
  unfold execLsub
  try dsimp only
  repeat' (first
    | intro _
    | with_reducible assumption
    | (with_reducible apply wide_writes; (on_goal 1 => decide))
    | (with_reducible apply laneOp_writes; (on_goal 1 => decide))
    | (with_reducible apply State.withRegs_writes; (on_goal 2 => decide))
    | with_reducible apply WritesOut.next
    | with_reducible apply WritesRes.done)

theorem execLmov_writes {u : Nat} {ld : Fin 8} {ls : Fin 8} {wm : Nat} {z0 s : State} (wh : Writes wm z0 s) (we : 3260044448 ||| wm = wm) :
    WritesOut wm z0 (execLmov u ld ls s) := by
  refine WritesOut.step (g := 3260044448) ?_ we wh
  clear wh we
  have hz : Writes 3260044448 s s := Writes.refl _ _
  unfold execLmov
  try dsimp only
  repeat' (first
    | intro _
    | with_reducible assumption
    | (with_reducible apply laneOp_writes; (on_goal 1 => decide))
    | (with_reducible apply onRegs_writes; (on_goal 2 => decide))
    | with_reducible apply WritesOut.next)

theorem convCkpt_writes {u : Nat} {wm : Nat} {z0 s : State} (wh : Writes wm z0 s) (we : 33554432 ||| wm = wm) : Writes wm z0 (convCkpt s u) := by
  refine Writes.step (g := 33554432) ?_ we wh
  clear wh we
  have hz : Writes 33554432 s s := Writes.refl _ _
  unfold convCkpt
  try dsimp only
  repeat' (first
    | with_reducible assumption
    | (with_reducible apply checkpoint_writes; (on_goal 2 => decide))
    | with_reducible apply Writes.ite
    | split)

theorem execLconv_writes {u : Nat} {ld : Fin 8} {as : Fin 8} {wm : Nat} {z0 s : State} (wh : Writes wm z0 s) (we : 3260044448 ||| wm = wm)
    : WritesOut wm z0 (execLconv u ld as s) := by
  refine WritesOut.step (g := 3260044448) ?_ we wh
  clear wh we
  have hz : Writes 3260044448 s s := Writes.refl _ _
  unfold execLconv
  try dsimp only
  repeat' (first
    | intro _
    | with_reducible assumption
    | (with_reducible apply convCkpt_writes; (on_goal 2 => decide))
    | (with_reducible apply laneAt_writes; (on_goal 2 => decide))
    | (with_reducible apply wide_writes; (on_goal 1 => decide))
    | (with_reducible apply laneOp_writes; (on_goal 1 => decide))
    | (with_reducible apply State.withRegs_writes; (on_goal 2 => decide))
    | with_reducible apply WritesOut.next
    | with_reducible apply WritesRes.done
    | (with_reducible apply WritesInl.of_inl; with_reducible assumption)
    | split)

theorem execLsettle_writes {u : Nat} {as : Fin 8} {ls : Fin 8} {bad : Bool} {wm : Nat} {z0 s : State} (wh : Writes wm z0 s) (we :
    20593825522 ||| wm = wm) : WritesOut wm z0 (execLsettle u as ls bad s) := by
  refine WritesOut.step (g := 20593825522) ?_ we wh
  clear wh we
  have hz : Writes 20593825522 s s := Writes.refl _ _
  unfold execLsettle
  try dsimp only
  repeat' (first
    | intro _
    | with_reducible assumption
    | (with_reducible apply laneAt_writes; (on_goal 2 => decide))
    | (with_reducible apply wide_writes; (on_goal 1 => decide))
    | (with_reducible apply laneOp_writes; (on_goal 1 => decide))
    | (with_reducible apply watchBad_writes; (on_goal 2 => decide))
    | with_reducible apply WritesOut.next
    | with_reducible apply WritesRes.ite
    | with_reducible apply WritesRes.done
    | (with_reducible refine Writes.upd_mem ?_ ?_; (on_goal 2 => decide); with_reducible assumption)
    | (with_reducible apply WritesInl.of_inl; with_reducible assumption)
    | split)

theorem execLld_writes {u : Nat} {ld : Fin 8} {as : Fin 8} {wm : Nat} {z0 s : State} (wh : Writes wm z0 s) (we : 3260044448 ||| wm = wm) :
    WritesOut wm z0 (execLld u ld as s) := by
  refine WritesOut.step (g := 3260044448) ?_ we wh
  clear wh we
  have hz : Writes 3260044448 s s := Writes.refl _ _
  unfold execLld
  try dsimp only
  repeat' (first
    | intro _
    | with_reducible assumption
    | (with_reducible apply laneAt_writes; (on_goal 2 => decide))
    | (with_reducible apply wide_writes; (on_goal 1 => decide))
    | (with_reducible apply laneOp_writes; (on_goal 1 => decide))
    | (with_reducible apply State.withRegs_writes; (on_goal 2 => decide))
    | with_reducible apply WritesOut.next
    | with_reducible apply WritesRes.done
    | (with_reducible apply WritesInl.of_inl; with_reducible assumption)
    | split)

theorem execLst_writes {u : Nat} {as : Fin 8} {ls : Fin 8} {wm : Nat} {z0 s : State} (wh : Writes wm z0 s) (we : 3260044448 ||| wm = wm) :
    WritesOut wm z0 (execLst u as ls s) := by
  refine WritesOut.step (g := 3260044448) ?_ we wh
  clear wh we
  have hz : Writes 3260044448 s s := Writes.refl _ _
  unfold execLst
  try dsimp only
  repeat' (first
    | intro _
    | with_reducible assumption
    | (with_reducible apply laneAt_writes; (on_goal 2 => decide))
    | (with_reducible apply wide_writes; (on_goal 1 => decide))
    | (with_reducible apply laneOp_writes; (on_goal 1 => decide))
    | with_reducible apply WritesOut.next
    | with_reducible apply WritesRes.done
    | (with_reducible refine Writes.upd_mem ?_ ?_; (on_goal 2 => decide); with_reducible assumption)
    | (with_reducible apply WritesInl.of_inl; with_reducible assumption)
    | split)

theorem execLsetup_writes {u : Nat} {as : Fin 8} {dn : Fin 8} {wm : Nat} {z0 s : State} (wh : Writes wm z0 s) (we : 3260044448 ||| wm = wm)
    : WritesOut wm z0 (execLsetup u as dn s) := by
  refine WritesOut.step (g := 3260044448) ?_ we wh
  clear wh we
  have hz : Writes 3260044448 s s := Writes.refl _ _
  unfold execLsetup
  try dsimp only
  repeat' (first
    | intro _
    | with_reducible assumption
    | (with_reducible apply laneAt_writes; (on_goal 2 => decide))
    | (with_reducible apply laneOp_writes; (on_goal 1 => decide))
    | (with_reducible apply State.withRegs_writes; (on_goal 2 => decide))
    | with_reducible apply WritesOut.next
    | with_reducible apply WritesRes.ite
    | with_reducible apply WritesRes.done
    | with_reducible apply WritesRes.exc
    | (with_reducible apply WritesInl.of_inl; with_reducible assumption)
    | split)

theorem narrowOp_writes {u : Nat} {lop : Nat} {ld : Nat} {ls : Nat} {bad : Bool} {f : Nat → Nat → Nat → Nat → Nat} {g : Option (Nat → Nat →
    Nat → Nat → Nat)} {wm : Nat} {z0 s : State} (wh : Writes wm z0 s) (we : 20593825522 ||| wm = wm) : Writes wm z0 (narrowOp s u lop ld ls bad f g) := by
  refine Writes.step (g := 20593825522) ?_ we wh
  clear wh we
  have hz : Writes 20593825522 s s := Writes.refl _ _
  unfold narrowOp
  try dsimp only
  repeat' (first
    | intro _
    | with_reducible assumption
    | (with_reducible apply laneOp_writes; (on_goal 1 => decide))
    | (with_reducible apply narrowBad_writes; (on_goal 2 => decide))
    | (with_reducible apply trapReserved_writes; (on_goal 2 => decide))
    | (with_reducible apply State.withRegs_writes; (on_goal 2 => decide))
    | (with_reducible apply State.drawBytes_writes; (on_goal 2 => decide))
    | with_reducible apply Writes.ite
    | with_reducible apply WritesRes.ite
    | with_reducible apply WritesRes.done
    | split
    | with_reducible apply WritesSnd.snd)

theorem execNmul_writes {u : Nat} {ld : Fin 8} {ls : Fin 8} {bad : Bool} {wm : Nat} {z0 s : State} (wh : Writes wm z0 s) (we : 20593825522
    ||| wm = wm) : WritesOut wm z0 (execNmul u ld ls bad s) := by
  refine WritesOut.step (g := 20593825522) ?_ we wh
  clear wh we
  have hz : Writes 20593825522 s s := Writes.refl _ _
  unfold execNmul
  try dsimp only
  repeat' (first
    | with_reducible assumption
    | (with_reducible apply narrowOp_writes; (on_goal 2 => decide))
    | with_reducible apply WritesOut.next)

theorem execNadd_writes {u : Nat} {ld : Fin 8} {ls : Fin 8} {bad : Bool} {wm : Nat} {z0 s : State} (wh : Writes wm z0 s) (we : 20593825522
    ||| wm = wm) : WritesOut wm z0 (execNadd u ld ls bad s) := by
  refine WritesOut.step (g := 20593825522) ?_ we wh
  clear wh we
  have hz : Writes 20593825522 s s := Writes.refl _ _
  unfold execNadd
  try dsimp only
  repeat' (first
    | with_reducible assumption
    | (with_reducible apply narrowOp_writes; (on_goal 2 => decide))
    | with_reducible apply WritesOut.next)

theorem execNsub_writes {u : Nat} {ld : Fin 8} {ls : Fin 8} {bad : Bool} {wm : Nat} {z0 s : State} (wh : Writes wm z0 s) (we : 20593825522
    ||| wm = wm) : WritesOut wm z0 (execNsub u ld ls bad s) := by
  refine WritesOut.step (g := 20593825522) ?_ we wh
  clear wh we
  have hz : Writes 20593825522 s s := Writes.refl _ _
  unfold execNsub
  try dsimp only
  repeat' (first
    | with_reducible assumption
    | (with_reducible apply narrowOp_writes; (on_goal 2 => decide))
    | with_reducible apply WritesOut.next)

theorem execNbfct_writes {u : Nat} {ld : Fin 8} {ls : Fin 8} {bad : Bool} {wm : Nat} {z0 s : State} (wh : Writes wm z0 s) (we : 20593825522
    ||| wm = wm) : WritesOut wm z0 (execNbfct u ld ls bad s) := by
  refine WritesOut.step (g := 20593825522) ?_ we wh
  clear wh we
  have hz : Writes 20593825522 s s := Writes.refl _ _
  unfold execNbfct
  try dsimp only
  repeat' (first
    | with_reducible assumption
    | (with_reducible apply narrowOp_writes; (on_goal 2 => decide))
    | with_reducible apply WritesOut.next)

theorem execNbfgs_writes {u : Nat} {ld : Fin 8} {ls : Fin 8} {bad : Bool} {wm : Nat} {z0 s : State} (wh : Writes wm z0 s) (we : 20593825522
    ||| wm = wm) : WritesOut wm z0 (execNbfgs u ld ls bad s) := by
  refine WritesOut.step (g := 20593825522) ?_ we wh
  clear wh we
  have hz : Writes 20593825522 s s := Writes.refl _ _
  unfold execNbfgs
  try dsimp only
  repeat' (first
    | with_reducible assumption
    | (with_reducible apply narrowOp_writes; (on_goal 2 => decide))
    | with_reducible apply WritesOut.next)

theorem execLqn_writes {u : Nat} {dn : Fin 8} {width : Fin 8} {wm : Nat} {z0 s : State} (wh : Writes wm z0 s) (we : 3260044448 ||| wm = wm)
    : WritesOut wm z0 (execLqn u dn width s) := by
  refine WritesOut.step (g := 3260044448) ?_ we wh
  clear wh we
  have hz : Writes 3260044448 s s := Writes.refl _ _
  unfold execLqn
  try dsimp only
  repeat' (first
    | intro _
    | with_reducible assumption
    | (with_reducible apply laneOp_writes; (on_goal 1 => decide))
    | (with_reducible apply onRegs_writes; (on_goal 2 => decide))
    | with_reducible apply WritesOut.next)

theorem execKperm_writes {u : Nat} {as : Fin 8} {bad : Bool} {wm : Nat} {z0 s : State} (wh : Writes wm z0 s) (we : 20593825522 ||| wm = wm)
    : WritesOut wm z0 (execKperm u as bad s) := by
  refine WritesOut.step (g := 20593825522) ?_ we wh
  clear wh we
  have hz : Writes 20593825522 s s := Writes.refl _ _
  unfold execKperm
  try dsimp only
  repeat' (first
    | intro _
    | with_reducible assumption
    | (with_reducible apply laneAt_writes; (on_goal 2 => decide))
    | (with_reducible apply laneOp_writes; (on_goal 1 => decide))
    | (with_reducible apply laneBad_writes; (on_goal 2 => decide))
    | (with_reducible apply State.drawNat_writes; (on_goal 2 => decide))
    | with_reducible apply WritesOut.next
    | with_reducible apply WritesRes.ite
    | with_reducible apply WritesRes.done
    | (with_reducible refine Writes.upd_mem ?_ ?_; (on_goal 2 => decide); first | with_reducible assumption | with_reducible apply WritesSnd.snd)
    | (with_reducible apply WritesInl.of_inl; with_reducible assumption)
    | split)

theorem yieldAt_writes {id : Nat} {wm : Nat} {z0 s : State} (wh : Writes wm z0 s) (we : 2181055488 ||| wm = wm) : Writes wm z0 (yieldAt s id) := by
  refine Writes.step (g := 2181055488) ?_ we wh
  clear wh we
  have hz : Writes 2181055488 s s := Writes.refl _ _
  unfold yieldAt
  try dsimp only
  repeat' (first
    | with_reducible assumption
    | (with_reducible apply parkJob_writes; (on_goal 2 => decide))
    | (with_reducible apply checkpoint_writes; (on_goal 2 => decide))
    | (with_reducible apply State.withJob_writes; (on_goal 2 => decide))
    | with_reducible apply Writes.ite
    | split)

theorem execYpt_writes {u : Nat} {wm : Nat} {z0 s : State} (wh : Writes wm z0 s) (we : 3260044448 ||| wm = wm) : WritesOut wm z0 (execYpt u s) := by
  refine WritesOut.step (g := 3260044448) ?_ we wh
  clear wh we
  have hz : Writes 3260044448 s s := Writes.refl _ _
  unfold execYpt
  try dsimp only
  repeat' (first
    | intro _
    | with_reducible assumption
    | (with_reducible apply yieldAt_writes; (on_goal 2 => decide))
    | (with_reducible apply laneOp_writes; (on_goal 1 => decide))
    | with_reducible apply WritesOut.next
    | with_reducible apply WritesRes.done
    | split)

/-! ### VerbEvents -/

theorem execDeviceInterrupt_writes {u : Nat} {ev : AsyncEvent} {wm : Nat} {z0 s : State} (wh : Writes wm z0 s) (we : 1107296256 ||| wm =
    wm) : WritesOut wm z0 (execDeviceInterrupt u ev s) := by
  refine WritesOut.step (g := 1107296256) ?_ we wh
  clear wh we
  have hz : Writes 1107296256 s s := Writes.refl _ _
  unfold execDeviceInterrupt
  try dsimp only
  repeat' (first
    | with_reducible assumption
    | (with_reducible apply raiseAsync_writes; (on_goal 2 => decide))
    | with_reducible apply WritesOut.next
    | with_reducible apply WritesOut.ite)

theorem resetCore_writes {u : Nat} {wm : Nat} {z0 s : State} (wh : Writes wm z0 s) (we : 33554432 ||| wm = wm) : Writes wm z0 (resetCore s u) := by
  refine Writes.step (g := 33554432) ?_ we wh
  clear wh we
  have hz : Writes 33554432 s s := Writes.refl _ _
  unfold resetCore
  try dsimp only
  repeat' (first
    | with_reducible assumption
    | (with_reducible apply State.withUnit_writes; (on_goal 2 => decide)))

theorem loadProgram_writes {core : Nat} {wm : Nat} {z0 s : State} (wh : Writes wm z0 s) (we : 33554432 ||| wm = wm) : Writes wm z0
    (loadProgram s core) := by
  refine Writes.step (g := 33554432) ?_ we wh
  clear wh we
  have hz : Writes 33554432 s s := Writes.refl _ _
  unfold loadProgram
  try dsimp only
  repeat' (first
    | with_reducible assumption
    | (with_reducible apply State.withVerb_writes; (on_goal 2 => decide)))

theorem testPair_writes {u : Nat} {wm : Nat} {z0 s : State} (wh : Writes wm z0 s) (we : 33554432 ||| wm = wm) : Writes wm z0 (testPair s u) := by
  refine Writes.step (g := 33554432) ?_ we wh
  clear wh we
  have hz : Writes 33554432 s s := Writes.refl _ _
  unfold testPair
  try dsimp only
  repeat' (first
    | with_reducible assumption
    | (with_reducible apply resetCore_writes; (on_goal 2 => decide))
    | (with_reducible apply State.withVerb_writes; (on_goal 2 => decide)))

theorem pairStops_writes {u : Nat} {wm : Nat} {z0 s : State} (wh : Writes wm z0 s) (we : 1107296288 ||| wm = wm) : Writes wm z0 (pairStops s u) := by
  refine Writes.step (g := 1107296288) ?_ we wh
  clear wh we
  have hz : Writes 1107296288 s s := Writes.refl _ _
  unfold pairStops
  try dsimp only
  repeat' (first
    | with_reducible assumption
    | (with_reducible apply testPair_writes; (on_goal 2 => decide))
    | (with_reducible apply resetCore_writes; (on_goal 2 => decide))
    | (with_reducible apply raiseAsync_writes; (on_goal 2 => decide))
    | (with_reducible apply State.withVerb_writes; (on_goal 2 => decide))
    | (with_reducible apply State.event_writes; (on_goal 2 => decide))
    | (with_reducible apply State.bump_writes; (on_goal 2 => decide))
    | with_reducible apply Writes.ite)

theorem execPairDiverged_writes {pair : Bool} {wm : Nat} {z0 s : State} (wh : Writes wm z0 s) (we : 1107296288 ||| wm = wm) : WritesOut wm
    z0 (execPairDiverged pair s) := by
  refine WritesOut.step (g := 1107296288) ?_ we wh
  clear wh we
  have hz : Writes 1107296288 s s := Writes.refl _ _
  unfold execPairDiverged
  try dsimp only
  repeat' (first
    | with_reducible assumption
    | (with_reducible apply pairStops_writes; (on_goal 2 => decide))
    | (with_reducible apply State.event_writes; (on_goal 2 => decide))
    | (with_reducible apply State.bump_writes; (on_goal 2 => decide))
    | with_reducible apply WritesOut.next
    | with_reducible apply WritesOut.ite)

theorem execPairSelftestDone_writes {pair : Bool} {passed : Bool} {wm : Nat} {z0 s : State} (wh : Writes wm z0 s) (we : 33554432 ||| wm =
    wm) : WritesOut wm z0 (execPairSelftestDone pair passed s) := by
  refine WritesOut.step (g := 33554432) ?_ we wh
  clear wh we
  have hz : Writes 33554432 s s := Writes.refl _ _
  unfold execPairSelftestDone
  try dsimp only
  repeat' (first
    | with_reducible assumption
    | (with_reducible apply State.withVerb_writes; (on_goal 2 => decide))
    | with_reducible apply WritesOut.next
    | with_reducible apply WritesOut.ite)

theorem recoverContext_writes {u : Nat} {wm : Nat} {z0 s : State} (wh : Writes wm z0 s) (we : 2186302592 ||| wm = wm) : Writes wm z0
    (recoverContext s u) := by
  refine Writes.step (g := 2186302592) ?_ we wh
  clear wh we
  have hz : Writes 2186302592 s s := Writes.refl _ _
  unfold recoverContext
  try dsimp only
  repeat' (first
    | with_reducible assumption
    | (with_reducible apply resetCore_writes; (on_goal 2 => decide))
    | (with_reducible apply redispatch_writes; (on_goal 2 => decide))
    | (with_reducible apply finish_writes; (on_goal 2 => decide))
    | (with_reducible apply dropImage_writes; (on_goal 2 => decide))
    | (with_reducible apply wipeSlot_writes; (on_goal 2 => decide))
    | (with_reducible apply State.withJob_writes; (on_goal 2 => decide))
    | with_reducible apply Writes.ite
    | split)

theorem recoverIntake_writes {u : Nat} {wm : Nat} {z0 s : State} (wh : Writes wm z0 s) (we : 1111496320 ||| wm = wm) : Writes wm z0
    (recoverIntake s u) := by
  refine Writes.step (g := 1111496320) ?_ we wh
  clear wh we
  have hz : Writes 1111496320 s s := Writes.refl _ _
  unfold recoverIntake
  try dsimp only
  repeat' (first
    | with_reducible assumption
    | (with_reducible apply loadProgram_writes; (on_goal 2 => decide))
    | (with_reducible apply resetCore_writes; (on_goal 2 => decide))
    | (with_reducible apply emptyIntake_writes; (on_goal 2 => decide)))

theorem execFrozenUnitRecovery_writes {u : Nat} {wm : Nat} {z0 s : State} (wh : Writes wm z0 s) (we : 3260044960 ||| wm = wm) : WritesOut
    wm z0 (execFrozenUnitRecovery u s) := by
  refine WritesOut.step (g := 3260044960) ?_ we wh
  clear wh we
  have hz : Writes 3260044960 s s := Writes.refl _ _
  unfold execFrozenUnitRecovery
  try dsimp only
  repeat' (first
    | with_reducible assumption
    | (with_reducible apply recoverIntake_writes; (on_goal 2 => decide))
    | (with_reducible apply recoverContext_writes; (on_goal 2 => decide))
    | (with_reducible apply pairStops_writes; (on_goal 2 => decide))
    | (with_reducible apply loadProgram_writes; (on_goal 2 => decide))
    | (with_reducible apply resetCore_writes; (on_goal 2 => decide))
    | with_reducible apply WritesOut.next
    | with_reducible apply WritesOut.ite)

theorem execRunAhead_writes {pair : Bool} {wm : Nat} {z0 s : State} (wh : Writes wm z0 s) (we : 1073741824 ||| wm = wm) : WritesOut wm z0
    (execRunAhead pair s) := by
  refine WritesOut.step (g := 1073741824) ?_ we wh
  clear wh we
  have hz : Writes 1073741824 s s := Writes.refl _ _
  unfold execRunAhead
  try dsimp only
  repeat' (first
    | with_reducible assumption
    | (with_reducible apply State.bump_writes; (on_goal 2 => decide))
    | with_reducible apply WritesOut.next
    | with_reducible apply WritesOut.ite)

/-! ### Power -/

theorem holdUp_writes {wm : Nat} {z0 s : State} (wh : Writes wm z0 s) (we : 2211468448 ||| wm = wm) : Writes wm z0 (holdUp s) := by
  refine Writes.step (g := 2211468448) ?_ we wh
  clear wh we
  have hz : Writes 2211468448 s s := Writes.refl _ _
  unfold holdUp
  try dsimp only
  repeat' (first
    | intro _
    | with_reducible assumption
    | (with_reducible apply programmed_writes; (on_goal 2 => decide))
    | (with_reducible apply State.withVault_writes; (on_goal 2 => decide))
    | with_reducible apply Writes.foldl
    | split)

theorem tearErases_writes {wm : Nat} {z0 s : State} (wh : Writes wm z0 s) (we : 2206203904 ||| wm = wm) : Writes wm z0 (tearErases s) := by
  refine Writes.step (g := 2206203904) ?_ we wh
  clear wh we
  have hz : Writes 2206203904 s s := Writes.refl _ _
  unfold tearErases
  try dsimp only
  repeat' (first
    | intro _
    | with_reducible assumption
    | (with_reducible apply withSector_writes; (on_goal 2 => decide))
    | (with_reducible apply flashDone_writes; (on_goal 2 => decide))
    | (with_reducible apply State.withVault_writes; (on_goal 2 => decide))
    | (with_reducible apply State.withCode_writes; (on_goal 2 => decide))
    | with_reducible apply Writes.foldl
    | split)

theorem loseStaged_writes {wm : Nat} {z0 s : State} (wh : Writes wm z0 s) (we : 1073807360 ||| wm = wm) : Writes wm z0 (loseStaged s) := by
  refine Writes.step (g := 1073807360) ?_ we wh
  clear wh we
  have hz : Writes 1073807360 s s := Writes.refl _ _
  unfold loseStaged
  try dsimp only
  repeat' (first
    | with_reducible assumption
    | (with_reducible apply restoreStaging_writes; (on_goal 2 => decide))
    | (with_reducible apply State.gset_writes; (on_goal 2 => decide))
    | with_reducible apply Writes.ite)

theorem cutMain_writes {wm : Nat} {z0 s : State} (wh : Writes wm z0 s) (we : 3891909864 ||| wm = wm) : Writes wm z0 (cutMain s) := by
  refine Writes.step (g := 3891909864) ?_ we wh
  clear wh we
  have hz : Writes 3891909864 s s := Writes.refl _ _
  unfold cutMain
  try dsimp only
  repeat' (first
    | intro _
    | with_reducible assumption
    | (with_reducible apply loseStaged_writes; (on_goal 2 => decide))
    | (with_reducible apply tearErases_writes; (on_goal 2 => decide))
    | (with_reducible apply holdUp_writes; (on_goal 2 => decide))
    | (with_reducible apply serveCode_writes; (on_goal 2 => decide))
    | (with_reducible apply tokGone_writes; (on_goal 2 => decide))
    | (with_reducible apply losePower_writes; (on_goal 2 => decide))
    | (with_reducible apply abortTrans_writes; (on_goal 2 => decide))
    | (with_reducible apply State.withExp_writes; (on_goal 2 => decide))
    | (with_reducible apply State.withNoise_writes; (on_goal 2 => decide))
    | (with_reducible apply saveDtb_writes; (on_goal 2 => decide))
    | (with_reducible apply State.withMeter_writes; (on_goal 2 => decide))
    | (with_reducible apply State.withLink_writes; (on_goal 2 => decide))
    | (with_reducible apply State.withMode_writes; (on_goal 2 => decide))
    | (with_reducible apply State.withClock_writes; (on_goal 2 => decide))
    | with_reducible apply Writes.foldl
    | (refine Writes.lit ?_ (.inr rfl) (.inr rfl) (.inr rfl) (.inr rfl) (.inr rfl) (.inr rfl) (.inr rfl) (.inr rfl) (.inr rfl) (.inr rfl) (.inl (by decide)) (.inr rfl) (.inr rfl) (.inr rfl) (.inr rfl) (.inr rfl) (.inr rfl) (.inr rfl) (.inr rfl) (.inr rfl) (.inr rfl) (.inr rfl) (.inr rfl) (.inr rfl) (.inr rfl) (.inr rfl) (.inr rfl) (.inr rfl) (.inr rfl) (.inl (by decide)) (.inr rfl) (.inr rfl) (.inr rfl) (.inr rfl) (.inr rfl); first | (with_reducible apply serveVaultReads_writes; (on_goal 2 => decide))))

theorem newUid_writes {wm : Nat} {z0 s : State} (wh : Writes wm z0 s) (we : 136314882 ||| wm = wm) : Writes wm z0 (newUid s) := by
  refine Writes.step (g := 136314882) ?_ we wh
  clear wh we
  have hz : Writes 136314882 s s := Writes.refl _ _
  unfold newUid
  try dsimp only
  repeat' (first
    | with_reducible assumption
    | (with_reducible apply State.withTag_writes; (on_goal 2 => decide))
    | (with_reducible apply rngDraw_writes; (on_goal 2 => decide))
    | with_reducible apply WritesSnd.snd)

theorem toDormant_writes {wm : Nat} {z0 s : State} (wh : Writes wm z0 s) (we : 1210614002 ||| wm = wm) : Writes wm z0 (toDormant s) := by
  refine Writes.step (g := 1210614002) ?_ we wh
  clear wh we
  have hz : Writes 1210614002 s s := Writes.refl _ _
  unfold toDormant
  try dsimp only
  repeat' (first
    | intro _
    | with_reducible assumption
    | (with_reducible apply newUid_writes; (on_goal 2 => decide))
    | (with_reducible apply enterMode_writes; (on_goal 2 => decide))
    | (with_reducible apply State.present_writes; (on_goal 2 => decide))
    | (with_reducible apply strikeIsl_writes; (on_goal 2 => decide))
    | with_reducible apply Writes.foldl)

theorem cutProgram_writes {o : BankOp} {wm : Nat} {z0 s : State} (wh : Writes wm z0 s) (we : 4303355906 ||| wm = wm) : Writes wm z0
    (cutProgram s o) := by
  refine Writes.step (g := 4303355906) ?_ we wh
  clear wh we
  have hz : Writes 4303355906 s s := Writes.refl _ _
  unfold cutProgram
  try dsimp only
  repeat' (first
    | intro _
    | with_reducible assumption
    | (with_reducible apply withSector_writes; (on_goal 2 => decide))
    | (with_reducible apply State.drawNat_writes; (on_goal 2 => decide))
    | with_reducible apply Writes.foldl
    | (with_reducible refine Writes.upd_codeFlash ?_ ?_; (on_goal 2 => decide); first | with_reducible apply WritesSnd.snd))

theorem cellGone_writes {wm : Nat} {z0 s : State} (wh : Writes wm z0 s) (we : 262152 ||| wm = wm) : Writes wm z0 (cellGone s) := by
  refine Writes.step (g := 262152) ?_ we wh
  clear wh we
  have hz : Writes 262152 s s := Writes.refl _ _
  unfold cellGone
  try dsimp only
  repeat' (first
    | with_reducible assumption
    | (with_reducible apply State.withTamper_writes; (on_goal 2 => decide))
    | (with_reducible apply State.withClock_writes; (on_goal 2 => decide)))

theorem toSentinel_writes {wm : Nat} {z0 s : State} (wh : Writes wm z0 s) (we : 5565808894 ||| wm = wm) : Writes wm z0 (toSentinel s) := by
  refine Writes.step (g := 5565808894) ?_ we wh
  clear wh we
  have hz : Writes 5565808894 s s := Writes.refl _ _
  unfold toSentinel
  try dsimp only
  repeat' (first
    | intro _
    | with_reducible assumption
    | (with_reducible apply cellGone_writes; (on_goal 2 => decide))
    | (with_reducible apply cutProgram_writes; (on_goal 2 => decide))
    | (with_reducible apply closeAllGap_writes; (on_goal 2 => decide))
    | (with_reducible apply handover_writes; (on_goal 2 => decide))
    | (with_reducible apply enterMode_writes; (on_goal 2 => decide))
    | (with_reducible apply destroyVolatile_writes; (on_goal 2 => decide))
    | (with_reducible apply State.withExp_writes; (on_goal 2 => decide))
    | (with_reducible apply State.withNoise_writes; (on_goal 2 => decide))
    | (with_reducible apply State.withVault_writes; (on_goal 2 => decide))
    | (with_reducible apply State.withCode_writes; (on_goal 2 => decide))
    | (with_reducible apply State.withTamper_writes; (on_goal 2 => decide))
    | (with_reducible apply State.withPower_writes; (on_goal 2 => decide))
    | (with_reducible apply strikeIsl_writes; (on_goal 2 => decide))
    | (with_reducible apply State.gset_writes; (on_goal 2 => decide))
    | with_reducible apply Writes.ite
    | with_reducible apply Writes.foldl
    | (refine Writes.lit ?_ (.inr rfl) (.inr rfl) (.inr rfl) (.inr rfl) (.inr rfl) (.inl (by decide)) (.inr rfl) (.inr rfl) (.inr rfl) (.inr rfl) (.inr rfl) (.inr rfl) (.inr rfl) (.inr rfl) (.inr rfl) (.inr rfl) (.inl (by decide)) (.inl (by decide)) (.inr rfl) (.inr rfl) (.inr rfl) (.inr rfl) (.inr rfl) (.inr rfl) (.inr rfl) (.inl (by decide)) (.inr rfl) (.inr rfl) (.inr rfl) (.inr rfl) (.inr rfl) (.inr rfl) (.inr rfl) (.inr rfl) (.inr rfl); first | with_reducible apply Writes.foldl))

theorem flashCut_writes {was12 : Bool} {wm : Nat} {z0 s : State} (wh : Writes wm z0 s) (we : 2211468448 ||| wm = wm) : Writes wm z0
    (flashCut s was12) := by
  refine Writes.step (g := 2211468448) ?_ we wh
  clear wh we
  have hz : Writes 2211468448 s s := Writes.refl _ _
  unfold flashCut
  try dsimp only
  repeat' (first
    | with_reducible assumption
    | (with_reducible apply tearErases_writes; (on_goal 2 => decide))
    | (with_reducible apply holdUp_writes; (on_goal 2 => decide))
    | with_reducible apply Writes.ite)

theorem execCut_writes {wm : Nat} {z0 s : State} (wh : Writes wm z0 s) (we : 8321488126 ||| wm = wm) : WritesOut wm z0 (execCut s) := by
  refine WritesOut.step (g := 8321488126) ?_ we wh
  clear wh we
  have hz : Writes 8321488126 s s := Writes.refl _ _
  unfold execCut
  try dsimp only
  repeat' (first
    | with_reducible assumption
    | (with_reducible apply flashCut_writes; (on_goal 2 => decide))
    | (with_reducible apply toSentinel_writes; (on_goal 2 => decide))
    | (with_reducible apply toDormant_writes; (on_goal 2 => decide))
    | (with_reducible apply cutMain_writes; (on_goal 2 => decide))
    | (with_reducible apply State.withPower_writes; (on_goal 2 => decide))
    | with_reducible apply WritesOut.next
    | with_reducible apply WritesOut.ite
    | with_reducible apply Writes.ite)

theorem execSuppliesLost_writes {wm : Nat} {z0 s : State} (wh : Writes wm z0 s) (we : 8321488126 ||| wm = wm) : WritesOut wm z0
    (execSuppliesLost s) := by
  refine WritesOut.step (g := 8321488126) ?_ we wh
  clear wh we
  have hz : Writes 8321488126 s s := Writes.refl _ _
  unfold execSuppliesLost
  try dsimp only
  repeat' (first
    | with_reducible assumption
    | (with_reducible apply flashCut_writes; (on_goal 2 => decide))
    | (with_reducible apply toSentinel_writes; (on_goal 2 => decide))
    | (with_reducible apply cutMain_writes; (on_goal 2 => decide))
    | (with_reducible apply State.withPower_writes; (on_goal 2 => decide))
    | with_reducible apply WritesOut.next
    | with_reducible apply WritesOut.ite
    | with_reducible apply Writes.ite)

theorem execCellExhausted_writes {wm : Nat} {z0 s : State} (wh : Writes wm z0 s) (we : 262156 ||| wm = wm) : WritesOut wm z0
    (execCellExhausted s) := by
  refine WritesOut.step (g := 262156) ?_ we wh
  clear wh we
  have hz : Writes 262156 s s := Writes.refl _ _
  unfold execCellExhausted
  try dsimp only
  repeat' (first
    | with_reducible assumption
    | (with_reducible apply cellGone_writes; (on_goal 2 => decide))
    | (with_reducible apply State.withPower_writes; (on_goal 2 => decide))
    | with_reducible apply WritesOut.next
    | with_reducible apply WritesOut.ite)

theorem execAlwaysOnSupplyChange_writes {present : Bool} {wm : Nat} {z0 s : State} (wh : Writes wm z0 s) (we : 4 ||| wm = wm) : WritesOut
    wm z0 (execAlwaysOnSupplyChange present s) := by
  refine WritesOut.step (g := 4) ?_ we wh
  clear wh we
  have hz : Writes 4 s s := Writes.refl _ _
  unfold execAlwaysOnSupplyChange
  try dsimp only
  repeat' (first
    | with_reducible assumption
    | (with_reducible apply State.withPower_writes; (on_goal 2 => decide))
    | with_reducible apply WritesOut.next
    | with_reducible apply WritesOut.ite)

theorem execThermalOverload_writes {die : Nat} {hot : Bool} {wm : Nat} {z0 s : State} (wh : Writes wm z0 s) (we : 33554454 ||| wm = wm) :
    WritesOut wm z0 (execThermalOverload die hot s) := by
  refine WritesOut.step (g := 33554454) ?_ we wh
  clear wh we
  have hz : Writes 33554454 s s := Writes.refl _ _
  unfold execThermalOverload
  try dsimp only
  repeat' (first
    | with_reducible assumption
    | (with_reducible apply State.withPower_writes; (on_goal 2 => decide))
    | (with_reducible apply setThrottle_writes; (on_goal 2 => decide))
    | with_reducible apply WritesOut.next
    | with_reducible apply WritesOut.ite)

/-! ### Repair -/

theorem mapSpare_writes {x : Spare} {wm : Nat} {z0 s : State} (wh : Writes wm z0 s) (we : 3527431856 ||| wm = wm) : Writes wm z0 (mapSpare s x) := by
  refine Writes.step (g := 3527431856) ?_ we wh
  clear wh we
  have hz : Writes 3527431856 s s := Writes.refl _ _
  unfold mapSpare
  try dsimp only
  repeat' (first
    | with_reducible assumption
    | (with_reducible apply loseIsland_writes; (on_goal 2 => decide))
    | (with_reducible apply State.withLife_writes; (on_goal 2 => decide))
    | (with_reducible apply State.event_writes; (on_goal 2 => decide))
    | (with_reducible apply State.bump_writes; (on_goal 2 => decide))
    | with_reducible apply Writes.ite)

theorem restage_writes {id : Nat} {wm : Nat} {z0 s : State} (wh : Writes wm z0 s) (we : 5120 ||| wm = wm) : Writes wm z0 (restage s id) := by
  refine Writes.step (g := 5120) ?_ we wh
  clear wh we
  have hz : Writes 5120 s s := Writes.refl _ _
  unfold restage
  try dsimp only
  repeat' (first
    | with_reducible assumption
    | (with_reducible apply freeSlot_writes; (on_goal 2 => decide))
    | (with_reducible apply State.withJob_writes; (on_goal 2 => decide))
    | with_reducible apply Writes.ite
    | split)

theorem repeatWork_writes {x0 : SramUse} {wm : Nat} {z0 s : State} (wh : Writes wm z0 s) (we : 3260044960 ||| wm = wm) : Writes wm z0
    (repeatWork s x0) := by
  refine Writes.step (g := 3260044960) ?_ we wh
  clear wh we
  have hz : Writes 3260044960 s s := Writes.refl _ _
  unfold repeatWork
  try dsimp only
  repeat' (first
    | intro _
    | with_reducible assumption
    | (with_reducible apply restage_writes; (on_goal 2 => decide))
    | (with_reducible apply recoverIntake_writes; (on_goal 2 => decide))
    | (with_reducible apply recoverContext_writes; (on_goal 2 => decide))
    | (with_reducible apply pairStops_writes; (on_goal 2 => decide))
    | (with_reducible apply loadProgram_writes; (on_goal 2 => decide))
    | (with_reducible apply resetCore_writes; (on_goal 2 => decide))
    | (with_reducible apply rewind_writes; (on_goal 2 => decide))
    | (with_reducible apply redispatch_writes; (on_goal 2 => decide))
    | (with_reducible apply State.event_writes; (on_goal 2 => decide))
    | (with_reducible apply State.bump_writes; (on_goal 2 => decide))
    | with_reducible apply Writes.ite
    | with_reducible apply Writes.foldl
    | split)

theorem execSramRepaired_writes {spare : Spare} {corrected : Bool} {use : SramUse} {wm : Nat} {z0 s : State} (wh : Writes wm z0 s) (we :
    3528480432 ||| wm = wm) : WritesOut wm z0 (execSramRepaired spare corrected use s) := by
  refine WritesOut.step (g := 3528480432) ?_ we wh
  clear wh we
  have hz : Writes 3528480432 s s := Writes.refl _ _
  unfold execSramRepaired
  try dsimp only
  repeat' (first
    | intro _
    | with_reducible assumption
    | (with_reducible apply repeatWork_writes; (on_goal 2 => decide))
    | (with_reducible apply mapSpare_writes; (on_goal 2 => decide))
    | (with_reducible apply State.bump_writes; (on_goal 2 => decide))
    | with_reducible apply WritesOut.next
    | with_reducible apply WritesOut.ite
    | with_reducible apply Writes.onlyIf)

theorem measure_writes {ks : List Nat} {wm : Nat} {z0 s : State} (wh : Writes wm z0 s) (we : 64 ||| wm = wm) : Writes wm z0 (measure s ks) := by
  refine Writes.step (g := 64) ?_ we wh
  clear wh we
  have hz : Writes 64 s s := Writes.refl _ _
  unfold measure
  try dsimp only
  repeat' (first
    | with_reducible assumption
    | (with_reducible apply State.withMode_writes; (on_goal 2 => decide)))

end Sys2Proof.Machine
end

