-- ==== Sys2Proof/Laws/Writes8.lean ====
section
/-! SUPPORT. Which fields each operation can write (see Writes.lean), operation by operation: Lifecycle, Startup, Changeover, Commit, Minutes. -/

set_option linter.unusedTactic false
set_option linter.unreachableTactic false
set_option linter.unusedVariables false

namespace Sys2Proof.Machine

open Sys2Proof

/-! ### Lifecycle -/

theorem clearPes_writes {target : Nat} {wm : Nat} {z0 s : State} (wh : Writes wm z0 s) (we : 3329971618 ||| wm = wm) : Writes wm z0
    (clearPes s target) := by
  refine Writes.step (g := 3329971618) ?_ we wh
  clear wh we
  have hz : Writes 3329971618 s s := Writes.refl _ _
  unfold clearPes
  try dsimp only
  repeat' (first
    | intro _
    | with_reducible assumption
    | (with_reducible apply loseStaged_writes; (on_goal 2 => decide))
    | (with_reducible apply recheckTok_writes; (on_goal 2 => decide))
    | (with_reducible apply endCredSessions_writes; (on_goal 2 => decide))
    | (with_reducible apply losePower_writes; (on_goal 2 => decide))
    | (with_reducible apply condChanged_writes; (on_goal 2 => decide))
    | (with_reducible apply State.withMgmt_writes; (on_goal 2 => decide))
    | with_reducible apply Writes.ite
    | with_reducible apply Writes.foldl
    | (refine Writes.lit ?_ (.inr rfl) (.inr rfl) (.inr rfl) (.inr rfl) (.inr rfl) (.inr rfl) (.inr rfl) (.inr rfl) (.inl (by decide)) (.inr rfl) (.inr rfl) (.inr rfl) (.inr rfl) (.inr rfl) (.inr rfl) (.inr rfl) (.inr rfl) (.inl (by decide)) (.inr rfl) (.inr rfl) (.inr rfl) (.inr rfl) (.inr rfl) (.inr rfl) (.inr rfl) (.inr rfl) (.inr rfl) (.inr rfl) (.inr rfl) (.inr rfl) (.inl (by decide)) (.inr rfl) (.inr rfl) (.inr rfl) (.inr rfl); with_reducible assumption))

theorem freeAllKeys_writes {wm : Nat} {z0 s : State} (wh : Writes wm z0 s) (we : 1048576 ||| wm = wm) : Writes wm z0 (freeAllKeys s) := by
  refine Writes.step (g := 1048576) ?_ we wh
  clear wh we
  have hz : Writes 1048576 s s := Writes.refl _ _
  unfold freeAllKeys
  try dsimp only
  repeat' (first
    | intro _
    | with_reducible assumption
    | (with_reducible apply freeKey_writes; (on_goal 2 => decide))
    | with_reducible apply Writes.foldl)

theorem discardVault_writes {wm : Nat} {z0 s : State} (wh : Writes wm z0 s) (we : 16809984 ||| wm = wm) : Writes wm z0 (discardVault s) := by
  refine Writes.step (g := 16809984) ?_ we wh
  clear wh we
  have hz : Writes 16809984 s s := Writes.refl _ _
  unfold discardVault
  try dsimp only
  repeat' (first
    | with_reducible assumption
    | (with_reducible apply State.withMeter_writes; (on_goal 2 => decide))
    | (with_reducible apply State.withVault_writes; (on_goal 2 => decide)))

theorem lifeSteps_writes {c : LifeChange} {first : Bool} {wm : Nat} {z0 s : State} (wh : Writes wm z0 s) (we : 20661131234 ||| wm = wm) :
    Writes wm z0 (lifeSteps s c first) := by
  refine Writes.step (g := 20661131234) ?_ we wh
  clear wh we
  have hz : Writes 20661131234 s s := Writes.refl _ _
  unfold lifeSteps
  try dsimp only
  repeat' (first
    | with_reducible assumption
    | (with_reducible apply discardVault_writes; (on_goal 2 => decide))
    | (with_reducible apply freeAllKeys_writes; (on_goal 2 => decide))
    | (with_reducible apply clearPes_writes; (on_goal 2 => decide))
    | (with_reducible apply closeAllGap_writes; (on_goal 2 => decide))
    | (with_reducible apply eraseRoot_writes; (on_goal 2 => decide))
    | (with_reducible apply enterMode_writes; (on_goal 2 => decide))
    | (with_reducible apply State.gset_writes; (on_goal 2 => decide))
    | with_reducible apply Writes.ite)

theorem beginLife_writes {t : Nat} {change : Nat} {wm : Nat} {z0 s : State} (wh : Writes wm z0 s) (we : 1342177312 ||| wm = wm) : Writes wm
    z0 (beginLife s t change) := by
  refine Writes.step (g := 1342177312) ?_ we wh
  clear wh we
  have hz : Writes 1342177312 s s := Writes.refl _ _
  unfold beginLife
  try dsimp only
  repeat' (first
    | with_reducible assumption
    | (with_reducible apply State.withLife_writes; (on_goal 2 => decide))
    | (with_reducible apply State.event_writes; (on_goal 2 => decide))
    | (with_reducible apply State.gset_writes; (on_goal 2 => decide)))

theorem lifeGoOn_writes {wm : Nat} {z0 s : State} (wh : Writes wm z0 s) (we : 20661131234 ||| wm = wm) : Writes wm z0 (lifeGoOn s) := by
  refine Writes.step (g := 20661131234) ?_ we wh
  clear wh we
  have hz : Writes 20661131234 s s := Writes.refl _ _
  unfold lifeGoOn
  try dsimp only
  repeat' (first
    | with_reducible assumption
    | (with_reducible apply lifeSteps_writes; (on_goal 2 => decide))
    | with_reducible apply Writes.ite
    | split)

theorem execFlashProgramDone_writes {bank : Nat} {ok : Bool} {wm : Nat} {z0 s : State} (wh : Writes wm z0 s) (we : 24964487138 ||| wm = wm)
    : WritesOut wm z0 (execFlashProgramDone bank ok s) := by
  refine WritesOut.step (g := 24964487138) ?_ we wh
  clear wh we
  have hz : Writes 24964487138 s s := Writes.refl _ _
  unfold execFlashProgramDone
  try dsimp only
  repeat' (first
    | with_reducible assumption
    | (with_reducible apply lifeGoOn_writes; (on_goal 2 => decide))
    | (with_reducible apply programDone_writes; (on_goal 2 => decide))
    | with_reducible apply WritesOut.next)

theorem eraseBlocks_writes {wm : Nat} {z0 s : State} (wh : Writes wm z0 s) (we : 16777216 ||| wm = wm) : Writes wm z0 (eraseBlocks s) := by
  refine Writes.step (g := 16777216) ?_ we wh
  clear wh we
  have hz : Writes 16777216 s s := Writes.refl _ _
  unfold eraseBlocks
  try dsimp only
  repeat' (first
    | with_reducible assumption
    | (with_reducible apply State.withVault_writes; (on_goal 2 => decide)))

theorem execLifecycleEraseComplete_writes {wm : Nat} {z0 s : State} (wh : Writes wm z0 s) (we : 3683156192 ||| wm = wm) : WritesOut wm z0
    (execLifecycleEraseComplete s) := by
  refine WritesOut.step (g := 3683156192) ?_ we wh
  clear wh we
  have hz : Writes 3683156192 s s := Writes.refl _ _
  unfold execLifecycleEraseComplete
  try dsimp only
  repeat' (first
    | with_reducible assumption
    | (with_reducible apply eraseBlocks_writes; (on_goal 2 => decide))
    | (with_reducible apply serveVaultReads_writes; (on_goal 2 => decide))
    | (with_reducible apply abortTrans_writes; (on_goal 2 => decide))
    | (with_reducible apply enterMode_writes; (on_goal 2 => decide))
    | (with_reducible apply refreshTag_writes; (on_goal 2 => decide))
    | (with_reducible apply State.withLife_writes; (on_goal 2 => decide))
    | (with_reducible apply State.withMode_writes; (on_goal 2 => decide))
    | (with_reducible apply State.bump_writes; (on_goal 2 => decide))
    | (with_reducible apply State.gset_writes; (on_goal 2 => decide))
    | with_reducible apply WritesOut.next
    | with_reducible apply WritesOut.ite
    | with_reducible apply Writes.ite
    | split)

/-! ### Startup -/

theorem checkSt_writes {wm : Nat} {z0 s : State} (wh : Writes wm z0 s) (we : 40 ||| wm = wm) : Writes wm z0 (checkSt s) := by
  refine Writes.step (g := 40) ?_ we wh
  clear wh we
  have hz : Writes 40 s s := Writes.refl _ _
  unfold checkSt
  try dsimp only
  repeat' (first
    | with_reducible assumption
    | (with_reducible apply State.withClock_writes; (on_goal 2 => decide))
    | (with_reducible apply State.event_writes; (on_goal 2 => decide))
    | with_reducible apply Writes.ite)

theorem rootInvalid_writes {check : Nat} {wm : Nat} {z0 s : State} (wh : Writes wm z0 s) (we : 1074004000 ||| wm = wm) : Writes wm z0
    (rootInvalid s check) := by
  refine Writes.step (g := 1074004000) ?_ we wh
  clear wh we
  have hz : Writes 1074004000 s s := Writes.refl _ _
  unfold rootInvalid
  try dsimp only
  repeat' (first
    | with_reducible assumption
    | (with_reducible apply State.withTamper_writes; (on_goal 2 => decide))
    | (with_reducible apply State.event_writes; (on_goal 2 => decide))
    | (with_reducible apply State.gset_writes; (on_goal 2 => decide)))

theorem powerUpRec_writes {wm : Nat} {z0 s : State} (wh : Writes wm z0 s) (we : 1073741856 ||| wm = wm) : Writes wm z0 (powerUpRec s) := by
  refine Writes.step (g := 1073741856) ?_ we wh
  clear wh we
  have hz : Writes 1073741856 s s := Writes.refl _ _
  unfold powerUpRec
  try dsimp only
  repeat' (first
    | with_reducible assumption
    | (with_reducible apply takeTok_writes; (on_goal 2 => decide))
    | (with_reducible apply State.withEvr_writes; (on_goal 2 => decide)))

theorem runImage_writes {k : Nat} {wm : Nat} {z0 s : State} (wh : Writes wm z0 s) (we : 1107296416 ||| wm = wm) : Writes wm z0 (runImage s k) := by
  refine Writes.step (g := 1107296416) ?_ we wh
  clear wh we
  have hz : Writes 1107296416 s s := Writes.refl _ _
  unfold runImage
  try dsimp only
  repeat' (first
    | with_reducible assumption
    | (with_reducible apply State.withVerb_writes; (on_goal 2 => decide))
    | (with_reducible apply State.withLink_writes; (on_goal 2 => decide))
    | (with_reducible apply State.event_writes; (on_goal 2 => decide))
    | (with_reducible apply State.gset_writes; (on_goal 2 => decide)))

theorem selectImage_writes {wm : Nat} {z0 s : State} (wh : Writes wm z0 s) (we : 1107296480 ||| wm = wm) : Writes wm z0 (selectImage s) := by
  refine Writes.step (g := 1107296480) ?_ we wh
  clear wh we
  have hz : Writes 1107296480 s s := Writes.refl _ _
  unfold selectImage
  try dsimp only
  repeat' (first
    | with_reducible assumption
    | (with_reducible apply runImage_writes; (on_goal 2 => decide))
    | (with_reducible apply State.withMode_writes; (on_goal 2 => decide))
    | (with_reducible apply State.msixAlert_writes; (on_goal 2 => decide))
    | (with_reducible apply State.event_writes; (on_goal 2 => decide))
    | (with_reducible apply State.gset_writes; (on_goal 2 => decide))
    | with_reducible apply Writes.ite
    | split)

theorem resolveMarks_writes {wm : Nat} {z0 s : State} (wh : Writes wm z0 s) (we : 25165824 ||| wm = wm) : Writes wm z0 (resolveMarks s) := by
  refine Writes.step (g := 25165824) ?_ we wh
  clear wh we
  have hz : Writes 25165824 s s := Writes.refl _ _
  unfold resolveMarks
  try dsimp only
  repeat' (first
    | with_reducible assumption
    | (with_reducible apply State.withVault_writes; (on_goal 2 => decide))
    | (with_reducible apply State.withCode_writes; (on_goal 2 => decide)))

theorem noteBudget_writes {wm : Nat} {z0 s : State} (wh : Writes wm z0 s) (we : 134217760 ||| wm = wm) : Writes wm z0 (noteBudget s) := by
  refine Writes.step (g := 134217760) ?_ we wh
  clear wh we
  have hz : Writes 134217760 s s := Writes.refl _ _
  unfold noteBudget
  try dsimp only
  repeat' (first
    | with_reducible assumption
    | (with_reducible apply State.withTag_writes; (on_goal 2 => decide))
    | (with_reducible apply State.event_writes; (on_goal 2 => decide))
    | with_reducible apply Writes.ite)

theorem execSupplyArrival_writes {rail : Rail} {wm : Nat} {z0 s : State} (wh : Writes wm z0 s) (we : 1269596414 ||| wm = wm) : WritesOut wm
    z0 (execSupplyArrival rail s) := by
  refine WritesOut.step (g := 1269596414) ?_ we wh
  clear wh we
  have hz : Writes 1269596414 s s := Writes.refl _ _
  unfold execSupplyArrival
  try dsimp only
  repeat' (first
    | intro _
    | with_reducible assumption
    | (with_reducible apply noteBudget_writes; (on_goal 2 => decide))
    | (with_reducible apply resolveMarks_writes; (on_goal 2 => decide))
    | (with_reducible apply selectImage_writes; (on_goal 2 => decide))
    | (with_reducible apply powerUpRec_writes; (on_goal 2 => decide))
    | (with_reducible apply rootInvalid_writes; (on_goal 2 => decide))
    | (with_reducible apply checkSt_writes; (on_goal 2 => decide))
    | (with_reducible apply newUid_writes; (on_goal 2 => decide))
    | (with_reducible apply resetCore_writes; (on_goal 2 => decide))
    | (with_reducible apply sntHandover_writes; (on_goal 2 => decide))
    | (with_reducible apply handover_writes; (on_goal 2 => decide))
    | (with_reducible apply actionRec_writes; (on_goal 2 => decide))
    | (with_reducible apply enterMode_writes; (on_goal 2 => decide))
    | (with_reducible apply startPath_writes; (on_goal 2 => decide))
    | (with_reducible apply State.withVerb_writes; (on_goal 2 => decide))
    | (with_reducible apply State.withTamper_writes; (on_goal 2 => decide))
    | (with_reducible apply State.withPower_writes; (on_goal 2 => decide))
    | (with_reducible apply State.withClock_writes; (on_goal 2 => decide))
    | (with_reducible apply State.setIsl_writes; (on_goal 2 => decide))
    | (with_reducible apply State.gset_writes; (on_goal 2 => decide))
    | with_reducible apply WritesOut.next
    | with_reducible apply WritesOut.ite
    | with_reducible apply Writes.ite
    | with_reducible apply Writes.foldl)

theorem wipeAll_writes {wm : Nat} {z0 s : State} (wh : Writes wm z0 s) (we : 12377978752 ||| wm = wm) : Writes wm z0 (wipeAll s) := by
  refine Writes.step (g := 12377978752) ?_ we wh
  clear wh we
  have hz : Writes 12377978752 s s := Writes.refl _ _
  unfold wipeAll
  try dsimp only
  repeat' (first
    | (refine Writes.lit ?_ (.inr rfl) (.inr rfl) (.inr rfl) (.inr rfl) (.inr rfl) (.inr rfl) (.inr rfl) (.inl (by decide)) (.inl (by decide)) (.inl (by decide)) (.inl (by decide)) (.inr rfl) (.inl (by decide)) (.inl (by decide)) (.inl (by decide)) (.inl (by decide)) (.inr rfl) (.inr rfl) (.inr rfl) (.inl (by decide)) (.inr rfl) (.inr rfl) (.inl (by decide)) (.inl (by decide)) (.inl (by decide)) (.inr rfl) (.inr rfl) (.inr rfl) (.inr rfl) (.inl (by decide)) (.inl (by decide)) (.inl (by decide)) (.inr rfl) (.inl (by decide)) (.inr rfl); with_reducible assumption))

theorem startCores_writes {wm : Nat} {z0 s : State} (wh : Writes wm z0 s) (we : 33554432 ||| wm = wm) : Writes wm z0 (startCores s) := by
  refine Writes.step (g := 33554432) ?_ we wh
  clear wh we
  have hz : Writes 33554432 s s := Writes.refl _ _
  unfold startCores
  try dsimp only
  repeat' (first
    | (with_reducible refine Writes.upd_verb ?_ ?_; (on_goal 2 => decide); with_reducible assumption))

theorem loadGuards_writes {wm : Nat} {z0 s : State} (wh : Writes wm z0 s) (we : 1073938432 ||| wm = wm) : Writes wm z0 (loadGuards s) := by
  refine Writes.step (g := 1073938432) ?_ we wh
  clear wh we
  have hz : Writes 1073938432 s s := Writes.refl _ _
  unfold loadGuards
  try dsimp only
  repeat' (first
    | (with_reducible apply State.gset_writes; (on_goal 2 => decide))
    | (refine Writes.lit ?_ (.inr rfl) (.inr rfl) (.inr rfl) (.inr rfl) (.inr rfl) (.inr rfl) (.inr rfl) (.inr rfl) (.inr rfl) (.inr rfl) (.inr rfl) (.inr rfl) (.inr rfl) (.inr rfl) (.inr rfl) (.inr rfl) (.inl (by decide)) (.inl (by decide)) (.inr rfl) (.inr rfl) (.inr rfl) (.inr rfl) (.inr rfl) (.inr rfl) (.inr rfl) (.inr rfl) (.inr rfl) (.inr rfl) (.inr rfl) (.inr rfl) (.inr rfl) (.inr rfl) (.inr rfl) (.inr rfl) (.inr rfl); with_reducible assumption))

theorem startNoise_writes {wm : Nat} {z0 s : State} (wh : Writes wm z0 s) (we : 1075838976 ||| wm = wm) : Writes wm z0 (startNoise s) := by
  refine Writes.step (g := 1075838976) ?_ we wh
  clear wh we
  have hz : Writes 1075838976 s s := Writes.refl _ _
  unfold startNoise
  try dsimp only
  repeat' (first
    | intro _
    | with_reducible assumption
    | (with_reducible apply startPath_writes; (on_goal 2 => decide))
    | (with_reducible apply startChan_writes; (on_goal 2 => decide))
    | (with_reducible apply seed_writes; (on_goal 2 => decide))
    | (with_reducible apply State.withExp_writes; (on_goal 2 => decide))
    | (with_reducible apply State.withNoise_writes; (on_goal 2 => decide))
    | with_reducible apply Writes.ite
    | with_reducible apply Writes.onlyIf
    | with_reducible apply Writes.foldl)

theorem endChangeover_writes {wm : Nat} {z0 s : State} (wh : Writes wm z0 s) (we : 1107296480 ||| wm = wm) : Writes wm z0 (endChangeover s) := by
  refine Writes.step (g := 1107296480) ?_ we wh
  clear wh we
  have hz : Writes 1107296480 s s := Writes.refl _ _
  unfold endChangeover
  try dsimp only
  repeat' (first
    | with_reducible assumption
    | (with_reducible apply selectImage_writes; (on_goal 2 => decide))
    | (with_reducible apply State.withMode_writes; (on_goal 2 => decide))
    | (with_reducible apply State.gset_writes; (on_goal 2 => decide))
    | split)

theorem applyReport_writes {r : AssayReport} {wm : Nat} {z0 s : State} (wh : Writes wm z0 s) (we : 3527431856 ||| wm = wm) : Writes wm z0
    (applyReport s r) := by
  refine Writes.step (g := 3527431856) ?_ we wh
  clear wh we
  have hz : Writes 3527431856 s s := Writes.refl _ _
  unfold applyReport
  try dsimp only
  repeat' (first
    | intro _
    | with_reducible assumption
    | (with_reducible apply mapSpare_writes; (on_goal 2 => decide))
    | (with_reducible apply failLane_writes; (on_goal 2 => decide))
    | (with_reducible apply loseIsland_writes; (on_goal 2 => decide))
    | (with_reducible apply loseSquad_writes; (on_goal 2 => decide))
    | (with_reducible apply State.withVerb_writes; (on_goal 2 => decide))
    | (with_reducible apply State.withSquad_writes; (on_goal 2 => decide))
    | (with_reducible apply State.gset_writes; (on_goal 2 => decide))
    | with_reducible apply Writes.ite
    | with_reducible apply Writes.foldl)

theorem closeCut_writes {wm : Nat} {z0 s : State} (wh : Writes wm z0 s) (we : 32930 ||| wm = wm) : Writes wm z0 (closeCut s) := by
  refine Writes.step (g := 32930) ?_ we wh
  clear wh we
  have hz : Writes 32930 s s := Writes.refl _ _
  unfold closeCut
  try dsimp only
  repeat' (first
    | intro _
    | with_reducible assumption
    | (with_reducible apply setDurable_writes; (on_goal 2 => decide))
    | (with_reducible apply closeMinute_writes; (on_goal 2 => decide))
    | (with_reducible apply State.withMeter_writes; (on_goal 2 => decide))
    | with_reducible apply Writes.foldl
    | split)

theorem makeRoot_writes {wm : Nat} {z0 s : State} (wh : Writes wm z0 s) (we : 1076101378 ||| wm = wm) : Writes wm z0 (makeRoot s) := by
  refine Writes.step (g := 1076101378) ?_ we wh
  clear wh we
  have hz : Writes 1076101378 s s := Writes.refl _ _
  unfold makeRoot
  try dsimp only
  repeat' (first
    | intro _
    | with_reducible assumption
    | (with_reducible apply newSalt_writes; (on_goal 2 => decide))
    | (with_reducible apply rngDraw_writes; (on_goal 2 => decide))
    | (with_reducible apply State.withTamper_writes; (on_goal 2 => decide))
    | (with_reducible apply State.gset_writes; (on_goal 2 => decide))
    | with_reducible apply Writes.ite
    | with_reducible apply Writes.foldl
    | with_reducible apply WritesSnd.snd)

theorem stepTen_writes {wm : Nat} {z0 s : State} (wh : Writes wm z0 s) (we : 1344536866 ||| wm = wm) : Writes wm z0 (stepTen s) := by
  refine Writes.step (g := 1344536866) ?_ we wh
  clear wh we
  have hz : Writes 1344536866 s s := Writes.refl _ _
  unfold stepTen
  try dsimp only
  repeat' (first
    | with_reducible assumption
    | (with_reducible apply makeRoot_writes; (on_goal 2 => decide))
    | (with_reducible apply rootInvalid_writes; (on_goal 2 => decide))
    | (with_reducible apply makeMinuteKeys_writes; (on_goal 2 => decide))
    | with_reducible apply Writes.ite)

theorem resumeLife_writes {wm : Nat} {z0 s : State} (wh : Writes wm z0 s) (we : 20661131234 ||| wm = wm) : Writes wm z0 (resumeLife s) := by
  refine Writes.step (g := 20661131234) ?_ we wh
  clear wh we
  have hz : Writes 20661131234 s s := Writes.refl _ _
  unfold resumeLife
  try dsimp only
  repeat' (first
    | with_reducible assumption
    | (with_reducible apply lifeSteps_writes; (on_goal 2 => decide))
    | split)

theorem hoistAll_writes {wm : Nat} {z0 s : State} (wh : Writes wm z0 s) (we : 48 ||| wm = wm) : Writes wm z0 (hoistAll s) := by
  refine Writes.step (g := 48) ?_ we wh
  clear wh we
  have hz : Writes 48 s s := Writes.refl _ _
  unfold hoistAll
  try dsimp only
  repeat' (first
    | intro _
    | with_reducible assumption
    | (with_reducible apply State.present_writes; (on_goal 2 => decide))
    | (with_reducible apply State.setIsl_writes; (on_goal 2 => decide))
    | with_reducible apply Writes.ite
    | with_reducible apply Writes.foldl)

theorem assaySteps_writes {r : AssayReport} {fromDormant : Bool} {wm : Nat} {z0 s : State} (wh : Writes wm z0 s) (we : 30064769022 ||| wm =
    wm) : Writes wm z0 (assaySteps s r fromDormant) := by
  refine Writes.step (g := 30064769022) ?_ we wh
  clear wh we
  have hz : Writes 30064769022 s s := Writes.refl _ _
  unfold assaySteps
  try dsimp only
  repeat' (first
    | with_reducible assumption
    | (with_reducible apply hoistAll_writes; (on_goal 2 => decide))
    | (with_reducible apply resumeLife_writes; (on_goal 2 => decide))
    | (with_reducible apply stepTen_writes; (on_goal 2 => decide))
    | (with_reducible apply closeCut_writes; (on_goal 2 => decide))
    | (with_reducible apply applyReport_writes; (on_goal 2 => decide))
    | (with_reducible apply endChangeover_writes; (on_goal 2 => decide))
    | (with_reducible apply startNoise_writes; (on_goal 2 => decide))
    | (with_reducible apply loadGuards_writes; (on_goal 2 => decide))
    | (with_reducible apply startCores_writes; (on_goal 2 => decide))
    | (with_reducible apply wipeAll_writes; (on_goal 2 => decide))
    | (with_reducible apply measure_writes; (on_goal 2 => decide))
    | (with_reducible apply reopenMailbox_writes; (on_goal 2 => decide))
    | (with_reducible apply limit60_writes; (on_goal 2 => decide))
    | (with_reducible apply rebuildKeys_writes; (on_goal 2 => decide))
    | (with_reducible apply startTimebase_writes; (on_goal 2 => decide))
    | (with_reducible apply State.withMode_writes; (on_goal 2 => decide))
    | (with_reducible apply State.gset_writes; (on_goal 2 => decide))
    | with_reducible apply Writes.ite)

theorem execAssay_writes {report : AssayReport} {wm : Nat} {z0 s : State} (wh : Writes wm z0 s) (we : 30064769022 ||| wm = wm) : WritesOut
    wm z0 (execAssay report s) := by
  refine WritesOut.step (g := 30064769022) ?_ we wh
  clear wh we
  have hz : Writes 30064769022 s s := Writes.refl _ _
  unfold execAssay
  try dsimp only
  repeat' (first
    | with_reducible assumption
    | (with_reducible apply assaySteps_writes; (on_goal 2 => decide))
    | (with_reducible apply enterMode_writes; (on_goal 2 => decide))
    | (with_reducible apply State.withPower_writes; (on_goal 2 => decide))
    | with_reducible apply WritesOut.next
    | with_reducible apply WritesOut.ite)

theorem leaveAssay_writes {m : Nat} {wm : Nat} {z0 s : State} (wh : Writes wm z0 s) (we : 3395864566 ||| wm = wm) : Writes wm z0
    (leaveAssay s m) := by
  refine Writes.step (g := 3395864566) ?_ we wh
  clear wh we
  have hz : Writes 3395864566 s s := Writes.refl _ _
  unfold leaveAssay
  try dsimp only
  repeat' (first
    | with_reducible assumption
    | (with_reducible apply reopenMailbox_writes; (on_goal 2 => decide))
    | (with_reducible apply leanOn_writes; (on_goal 2 => decide))
    | (with_reducible apply enterMode_writes; (on_goal 2 => decide))
    | (with_reducible apply newSalt_writes; (on_goal 2 => decide))
    | (with_reducible apply releaseHeld_writes; (on_goal 2 => decide))
    | (with_reducible apply openMinute_writes; (on_goal 2 => decide))
    | (with_reducible apply State.withMeter_writes; (on_goal 2 => decide))
    | (with_reducible apply State.event_writes; (on_goal 2 => decide))
    | with_reducible apply Writes.ite)

theorem execAssayDone_writes {wm : Nat} {z0 s : State} (wh : Writes wm z0 s) (we : 3664562166 ||| wm = wm) : WritesOut wm z0 (execAssayDone s) := by
  refine WritesOut.step (g := 3664562166) ?_ we wh
  clear wh we
  have hz : Writes 3664562166 s s := Writes.refl _ _
  unfold execAssayDone
  try dsimp only
  repeat' (first
    | with_reducible assumption
    | (with_reducible apply leaveAssay_writes; (on_goal 2 => decide))
    | (with_reducible apply stepTen_writes; (on_goal 2 => decide))
    | (with_reducible apply refreshTag_writes; (on_goal 2 => decide))
    | (with_reducible apply State.msixAlert_writes; (on_goal 2 => decide))
    | (with_reducible apply State.gset_writes; (on_goal 2 => decide))
    | with_reducible apply WritesOut.next
    | with_reducible apply WritesOut.ite
    | with_reducible apply Writes.ite)

/-! ### Changeover -/

theorem setProg_writes {core : Nat} {slot : Nat} {wm : Nat} {z0 s : State} (wh : Writes wm z0 s) (we : 33554432 ||| wm = wm) : Writes wm z0
    (setProg s core slot) := by
  refine Writes.step (g := 33554432) ?_ we wh
  clear wh we
  have hz : Writes 33554432 s s := Writes.refl _ _
  unfold setProg
  try dsimp only
  repeat' (first
    | with_reducible assumption
    | (with_reducible apply State.withVerb_writes; (on_goal 2 => decide)))

theorem holdCore_writes {u : Nat} {wm : Nat} {z0 s : State} (wh : Writes wm z0 s) (we : 33554432 ||| wm = wm) : Writes wm z0 (holdCore s u) := by
  refine Writes.step (g := 33554432) ?_ we wh
  clear wh we
  have hz : Writes 33554432 s s := Writes.refl _ _
  unfold holdCore
  try dsimp only
  repeat' (first
    | with_reducible assumption
    | (with_reducible apply State.withVerb_writes; (on_goal 2 => decide)))

theorem releaseCore_writes {u : Nat} {wm : Nat} {z0 s : State} (wh : Writes wm z0 s) (we : 33554432 ||| wm = wm) : Writes wm z0
    (releaseCore s u) := by
  refine Writes.step (g := 33554432) ?_ we wh
  clear wh we
  have hz : Writes 33554432 s s := Writes.refl _ _
  unfold releaseCore
  try dsimp only
  repeat' (first
    | with_reducible assumption
    | (with_reducible apply State.withVerb_writes; (on_goal 2 => decide)))

theorem drainForReload_writes {q : Nat} {wm : Nat} {z0 s : State} (wh : Writes wm z0 s) (we : 16384 ||| wm = wm) : Writes wm z0
    (drainForReload s q) := by
  refine Writes.step (g := 16384) ?_ we wh
  clear wh we
  have hz : Writes 16384 s s := Writes.refl _ _
  unfold drainForReload
  try dsimp only
  repeat' (first
    | with_reducible assumption
    | (with_reducible apply State.withSquad_writes; (on_goal 2 => decide)))

theorem startUnit_writes {n : Nat} {slot : Nat} {wm : Nat} {z0 s : State} (wh : Writes wm z0 s) (we : 1111512704 ||| wm = wm) : Writes wm
    z0 (startUnit s n slot) := by
  refine Writes.step (g := 1111512704) ?_ we wh
  clear wh we
  have hz : Writes 1111512704 s s := Writes.refl _ _
  unfold startUnit
  try dsimp only
  repeat' (first
    | with_reducible assumption
    | (with_reducible apply drainForReload_writes; (on_goal 2 => decide))
    | (with_reducible apply holdCore_writes; (on_goal 2 => decide))
    | (with_reducible apply setProg_writes; (on_goal 2 => decide))
    | (with_reducible apply testPair_writes; (on_goal 2 => decide))
    | (with_reducible apply resetCore_writes; (on_goal 2 => decide))
    | (with_reducible apply emptyIntake_writes; (on_goal 2 => decide))
    | (with_reducible apply State.withIntake_writes; (on_goal 2 => decide))
    | with_reducible apply Writes.ite)

theorem unitBack_writes {n : Nat} {slot : Nat} {wm : Nat} {z0 s : State} (wh : Writes wm z0 s) (we : 3254800384 ||| wm = wm) : Writes wm z0
    (unitBack s n slot) := by
  refine Writes.step (g := 3254800384) ?_ we wh
  clear wh we
  have hz : Writes 3254800384 s s := Writes.refl _ _
  unfold unitBack
  try dsimp only
  repeat' (first
    | intro _
    | with_reducible assumption
    | (with_reducible apply releaseCore_writes; (on_goal 2 => decide))
    | (with_reducible apply setProg_writes; (on_goal 2 => decide))
    | (with_reducible apply resetCore_writes; (on_goal 2 => decide))
    | (with_reducible apply ownershipWipe_writes; (on_goal 2 => decide))
    | (with_reducible apply State.withIntake_writes; (on_goal 2 => decide))
    | (with_reducible apply State.withSquad_writes; (on_goal 2 => decide))
    | with_reducible apply Writes.ite
    | with_reducible apply Writes.foldl)

theorem unitLost_writes {n : Nat} {wm : Nat} {z0 s : State} (wh : Writes wm z0 s) (we : 3258996400 ||| wm = wm) : Writes wm z0 (unitLost s n) := by
  refine Writes.step (g := 3258996400) ?_ we wh
  clear wh we
  have hz : Writes 3258996400 s s := Writes.refl _ _
  unfold unitLost
  try dsimp only
  repeat' (first
    | with_reducible assumption
    | (with_reducible apply releaseCore_writes; (on_goal 2 => decide))
    | (with_reducible apply loseIsland_writes; (on_goal 2 => decide))
    | (with_reducible apply loseSquad_writes; (on_goal 2 => decide))
    | (with_reducible apply State.withVerb_writes; (on_goal 2 => decide))
    | (with_reducible apply State.withIntake_writes; (on_goal 2 => decide))
    | with_reducible apply Writes.ite)

theorem takeOver_writes {wm : Nat} {z0 s : State} (wh : Writes wm z0 s) (we : 1107296288 ||| wm = wm) : Writes wm z0 (takeOver s) := by
  refine Writes.step (g := 1107296288) ?_ we wh
  clear wh we
  have hz : Writes 1107296288 s s := Writes.refl _ _
  unfold takeOver
  try dsimp only
  repeat' (first
    | with_reducible assumption
    | (with_reducible apply raiseAsync_writes; (on_goal 2 => decide))
    | (with_reducible apply State.withVerb_writes; (on_goal 2 => decide))
    | (with_reducible apply State.event_writes; (on_goal 2 => decide))
    | (with_reducible apply State.bump_writes; (on_goal 2 => decide)))

theorem reissue_writes {slot : Nat} {wm : Nat} {z0 s : State} (wh : Writes wm z0 s) (we : 128 ||| wm = wm) : Writes wm z0 (reissue s slot) := by
  refine Writes.step (g := 128) ?_ we wh
  clear wh we
  have hz : Writes 128 s s := Writes.refl _ _
  unfold reissue
  try dsimp only
  repeat' (first
    | with_reducible assumption
    | (with_reducible apply State.withLink_writes; (on_goal 2 => decide)))

theorem setChangeover_writes {c : Changeover} {wm : Nat} {z0 s : State} (wh : Writes wm z0 s) (we : 64 ||| wm = wm) : Writes wm z0
    (setChangeover s c) := by
  refine Writes.step (g := 64) ?_ we wh
  clear wh we
  have hz : Writes 64 s s := Writes.refl _ _
  unfold setChangeover
  try dsimp only
  repeat' (first
    | with_reducible assumption
    | (with_reducible apply State.withMode_writes; (on_goal 2 => decide)))

theorem leaveChangeover_writes {left : Nat} {wm : Nat} {z0 s : State} (wh : Writes wm z0 s) (we : 3393766646 ||| wm = wm) : Writes wm z0
    (leaveChangeover s left) := by
  refine Writes.step (g := 3393766646) ?_ we wh
  clear wh we
  have hz : Writes 3393766646 s s := Writes.refl _ _
  unfold leaveChangeover
  try dsimp only
  repeat' (first
    | with_reducible assumption
    | (with_reducible apply takeWaiting_writes; (on_goal 2 => decide))
    | (with_reducible apply enterMode_writes; (on_goal 2 => decide))
    | (with_reducible apply State.withMode_writes; (on_goal 2 => decide))
    | with_reducible apply Writes.ite)

theorem finishChangeover_writes {c : Changeover} {wm : Nat} {z0 s : State} (wh : Writes wm z0 s) (we : 3393766646 ||| wm = wm) : Writes wm
    z0 (finishChangeover s c) := by
  refine Writes.step (g := 3393766646) ?_ we wh
  clear wh we
  have hz : Writes 3393766646 s s := Writes.refl _ _
  unfold finishChangeover
  try dsimp only
  repeat' (first
    | with_reducible assumption
    | (with_reducible apply leaveChangeover_writes; (on_goal 2 => decide))
    | (with_reducible apply setProg_writes; (on_goal 2 => decide))
    | (with_reducible apply measure_writes; (on_goal 2 => decide))
    | (with_reducible apply State.event_writes; (on_goal 2 => decide))
    | (with_reducible apply State.gset_writes; (on_goal 2 => decide))
    | with_reducible apply Writes.ite)

theorem startRules_writes {c : Changeover} {wm : Nat} {z0 s : State} (wh : Writes wm z0 s) (we : 1078138592 ||| wm = wm) : Writes wm z0
    (startRules s c) := by
  refine Writes.step (g := 1078138592) ?_ we wh
  clear wh we
  have hz : Writes 1078138592 s s := Writes.refl _ _
  unfold startRules
  try dsimp only
  repeat' (first
    | with_reducible assumption
    | (with_reducible apply setChangeover_writes; (on_goal 2 => decide))
    | (with_reducible apply switchGuards_writes; (on_goal 2 => decide))
    | with_reducible apply Writes.ite)

theorem goOn_writes {c : Changeover} {n : Nat} {wm : Nat} {z0 s : State} (wh : Writes wm z0 s) (we : 3393967862 ||| wm = wm) : Writes wm z0
    (goOn s c n) := by
  refine Writes.step (g := 3393967862) ?_ we wh
  clear wh we
  have hz : Writes 3393967862 s s := Writes.refl _ _
  unfold goOn
  try dsimp only
  repeat' (first
    | with_reducible assumption
    | (with_reducible apply startRules_writes; (on_goal 2 => decide))
    | (with_reducible apply finishChangeover_writes; (on_goal 2 => decide))
    | (with_reducible apply setChangeover_writes; (on_goal 2 => decide))
    | (with_reducible apply startUnit_writes; (on_goal 2 => decide))
    | with_reducible apply Writes.ite)

theorem finishRollback_writes {c : Changeover} {wm : Nat} {z0 s : State} (wh : Writes wm z0 s) (we : 3393766646 ||| wm = wm) : Writes wm z0
    (finishRollback s c) := by
  refine Writes.step (g := 3393766646) ?_ we wh
  clear wh we
  have hz : Writes 3393766646 s s := Writes.refl _ _
  unfold finishRollback
  try dsimp only
  repeat' (first
    | with_reducible assumption
    | (with_reducible apply leaveChangeover_writes; (on_goal 2 => decide))
    | (with_reducible apply measure_writes; (on_goal 2 => decide))
    | (with_reducible apply State.event_writes; (on_goal 2 => decide))
    | (with_reducible apply State.gset_writes; (on_goal 2 => decide)))

theorem startBack_writes {c : Changeover} {n : Nat} {rest : List Nat} {wm : Nat} {z0 s : State} (wh : Writes wm z0 s) (we : 1111512800 |||
    wm = wm) : Writes wm z0 (startBack s c n rest) := by
  refine Writes.step (g := 1111512800) ?_ we wh
  clear wh we
  have hz : Writes 1111512800 s s := Writes.refl _ _
  unfold startBack
  try dsimp only
  repeat' (first
    | with_reducible assumption
    | (with_reducible apply setChangeover_writes; (on_goal 2 => decide))
    | (with_reducible apply reissue_writes; (on_goal 2 => decide))
    | (with_reducible apply takeOver_writes; (on_goal 2 => decide))
    | (with_reducible apply startUnit_writes; (on_goal 2 => decide))
    | with_reducible apply Writes.ite)

theorem goBack_writes {c : Changeover} {l : List Nat} {m : Nat} {z0 s : State} (h : Writes m z0 s) (e : 3393771254 ||| m = m) :
    Writes m z0 (goBack s c l) := by
  induction l with
  | nil => exact finishRollback_writes h (Writes.sub (by decide) e)
  | cons n l ih =>
    unfold goBack
    split
    · exact startBack_writes h (Writes.sub (by decide) e)
    · exact ih

theorem unitMoved_writes {c : Changeover} {wm : Nat} {z0 s : State} (wh : Writes wm z0 s) (we : 3393967862 ||| wm = wm) : Writes wm z0
    (unitMoved s c) := by
  refine Writes.step (g := 3393967862) ?_ we wh
  clear wh we
  have hz : Writes 3393967862 s s := Writes.refl _ _
  unfold unitMoved
  try dsimp only
  repeat' (first
    | with_reducible assumption
    | (with_reducible apply goOn_writes; (on_goal 2 => decide))
    | (with_reducible apply reissue_writes; (on_goal 2 => decide))
    | (with_reducible apply takeOver_writes; (on_goal 2 => decide))
    | (with_reducible apply unitBack_writes; (on_goal 2 => decide))
    | (with_reducible apply State.gset_writes; (on_goal 2 => decide))
    | with_reducible apply Writes.ite)

theorem unitFailed_writes {c : Changeover} {passedOld : Bool} {wm : Nat} {z0 s : State} (wh : Writes wm z0 s) (we : 3393967862 ||| wm = wm)
    : Writes wm z0 (unitFailed s c passedOld) := by
  refine Writes.step (g := 3393967862) ?_ we wh
  clear wh we
  have hz : Writes 3393967862 s s := Writes.refl _ _
  unfold unitFailed
  try dsimp only
  repeat' (first
    | with_reducible assumption
    | (with_reducible apply goBack_writes; (on_goal 2 => decide))
    | (with_reducible apply goOn_writes; (on_goal 2 => decide))
    | (with_reducible apply setChangeover_writes; (on_goal 2 => decide))
    | (with_reducible apply unitLost_writes; (on_goal 2 => decide))
    | (with_reducible apply unitBack_writes; (on_goal 2 => decide))
    | (with_reducible apply startUnit_writes; (on_goal 2 => decide))
    | with_reducible apply Writes.ite)

theorem beginChangeover_writes {slot : Nat} {change : Nat} {raise : Bool} {wm : Nat} {z0 s : State} (wh : Writes wm z0 s) (we : 1246287584
    ||| wm = wm) : Writes wm z0 (beginChangeover s slot change raise) := by
  refine Writes.step (g := 1246287584) ?_ we wh
  clear wh we
  have hz : Writes 1246287584 s s := Writes.refl _ _
  unfold beginChangeover
  try dsimp only
  repeat' (first
    | with_reducible assumption
    | (with_reducible apply setChangeover_writes; (on_goal 2 => decide))
    | (with_reducible apply startUnit_writes; (on_goal 2 => decide))
    | (with_reducible apply enterMode_writes; (on_goal 2 => decide))
    | (with_reducible apply State.gset_writes; (on_goal 2 => decide)))

theorem execChangeoverUnitDone_writes {passedNew : Bool} {passedOld : Bool} {wm : Nat} {z0 s : State} (wh : Writes wm z0 s) (we :
    3393967862 ||| wm = wm) : WritesOut wm z0 (execChangeoverUnitDone passedNew passedOld s) := by
  refine WritesOut.step (g := 3393967862) ?_ we wh
  clear wh we
  have hz : Writes 3393967862 s s := Writes.refl _ _
  unfold execChangeoverUnitDone
  try dsimp only
  repeat' (first
    | with_reducible assumption
    | (with_reducible apply unitFailed_writes; (on_goal 2 => decide))
    | (with_reducible apply unitMoved_writes; (on_goal 2 => decide))
    | (with_reducible apply goBack_writes; (on_goal 2 => decide))
    | (with_reducible apply goOn_writes; (on_goal 2 => decide))
    | (with_reducible apply unitLost_writes; (on_goal 2 => decide))
    | (with_reducible apply unitBack_writes; (on_goal 2 => decide))
    | (with_reducible apply drainForReload_writes; (on_goal 2 => decide))
    | with_reducible apply WritesOut.next
    | with_reducible apply WritesOut.ite
    | with_reducible apply Writes.ite
    | split)

theorem guardBad_writes {g : Nat} {slot : Nat} {kind : Nat} {wm : Nat} {z0 s : State} (wh : Writes wm z0 s) (we : 20594022112 ||| wm = wm)
    : Writes wm z0 (guardBad s g slot kind) := by
  refine Writes.step (g := 20594022112) ?_ we wh
  clear wh we
  have hz : Writes 20594022112 s s := Writes.refl _ _
  unfold guardBad
  try dsimp only
  repeat' (first
    | with_reducible assumption
    | (with_reducible apply countEvent_writes; (on_goal 2 => decide))
    | (with_reducible apply State.withGuard_writes; (on_goal 2 => decide))
    | (with_reducible apply State.event_writes; (on_goal 2 => decide))
    | with_reducible apply Writes.ite
    | (with_reducible refine Writes.upd_guardSt ?_ ?_; (on_goal 2 => decide); first | (with_reducible apply State.bump_writes; (on_goal 2 => decide))))

theorem execGuardScrub_writes {g : Nat} {errors : List ScrubError} {wm : Nat} {z0 s : State} (wh : Writes wm z0 s) (we : 20594022112 ||| wm
    = wm) : WritesOut wm z0 (execGuardScrub g errors s) := by
  refine WritesOut.step (g := 20594022112) ?_ we wh
  clear wh we
  have hz : Writes 20594022112 s s := Writes.refl _ _
  unfold execGuardScrub
  try dsimp only
  repeat' (first
    | intro _
    | with_reducible assumption
    | (with_reducible apply guardBad_writes; (on_goal 2 => decide))
    | (with_reducible apply State.event_writes; (on_goal 2 => decide))
    | with_reducible apply WritesOut.next
    | with_reducible apply WritesOut.ite
    | with_reducible apply Writes.ite
    | with_reducible apply Writes.foldl
    | split)

theorem freeDrained_writes {wm : Nat} {z0 s : State} (wh : Writes wm z0 s) (we : 1074331680 ||| wm = wm) : Writes wm z0 (freeDrained s) := by
  refine Writes.step (g := 1074331680) ?_ we wh
  clear wh we
  have hz : Writes 1074331680 s s := Writes.refl _ _
  unfold freeDrained
  try dsimp only
  repeat' (first
    | with_reducible assumption
    | (with_reducible apply freeSet_writes; (on_goal 2 => decide))
    | split)

theorem drained_writes {wm : Nat} {z0 s : State} (wh : Writes wm z0 s) (we : 3393967862 ||| wm = wm) : Writes wm z0 (drained s) := by
  refine Writes.step (g := 3393967862) ?_ we wh
  clear wh we
  have hz : Writes 3393967862 s s := Writes.refl _ _
  unfold drained
  try dsimp only
  repeat' (first
    | with_reducible assumption
    | (with_reducible apply freeDrained_writes; (on_goal 2 => decide))
    | (with_reducible apply goOn_writes; (on_goal 2 => decide))
    | (with_reducible apply startRules_writes; (on_goal 2 => decide))
    | (with_reducible apply measure_writes; (on_goal 2 => decide))
    | (with_reducible apply endDrain_writes; (on_goal 2 => decide))
    | with_reducible apply Writes.ite
    | split)

theorem execGuardDrainDone_writes {wm : Nat} {z0 s : State} (wh : Writes wm z0 s) (we : 3393967862 ||| wm = wm) : WritesOut wm z0
    (execGuardDrainDone s) := by
  refine WritesOut.step (g := 3393967862) ?_ we wh
  clear wh we
  have hz : Writes 3393967862 s s := Writes.refl _ _
  unfold execGuardDrainDone
  try dsimp only
  repeat' (first
    | with_reducible assumption
    | (with_reducible apply drained_writes; (on_goal 2 => decide))
    | (with_reducible apply reloadGuards_writes; (on_goal 2 => decide))
    | with_reducible apply WritesOut.next
    | with_reducible apply WritesOut.ite)

/-! ### Commit -/

theorem setCreds_writes {t : Tab Cred} {wm : Nat} {z0 s : State} (wh : Writes wm z0 s) (we : 67633186 ||| wm = wm) : Writes wm z0 (setCreds s t) := by
  refine Writes.step (g := 67633186) ?_ we wh
  clear wh we
  have hz : Writes 67633186 s s := Writes.refl _ _
  unfold setCreds
  try dsimp only
  repeat' (first
    | intro _
    | with_reducible assumption
    | (with_reducible apply recheckTok_writes; (on_goal 2 => decide))
    | (with_reducible apply endCredSessions_writes; (on_goal 2 => decide))
    | (with_reducible apply State.withMgmt_writes; (on_goal 2 => decide))
    | with_reducible apply Writes.ite
    | with_reducible apply Writes.foldl)

theorem applyValue_writes {r : CsRec} {wm : Nat} {z0 s : State} (wh : Writes wm z0 s) (we : 3262141568 ||| wm = wm) : Writes wm z0
    (applyValue s r) := by
  refine Writes.step (g := 3262141568) ?_ we wh
  clear wh we
  have hz : Writes 3262141568 s s := Writes.refl _ _
  unfold applyValue
  try dsimp only
  repeat' (first
    | with_reducible assumption
    | (with_reducible apply condChanged_writes; (on_goal 2 => decide))
    | with_reducible apply Writes.ite
    | (with_reducible refine Writes.upd_gls ?_ ?_; (on_goal 2 => decide); with_reducible assumption))

theorem glossPurge_writes {p : Nat} {wm : Nat} {z0 s : State} (wh : Writes wm z0 s) (we : 2205177218 ||| wm = wm) : Writes wm z0
    (glossPurge s p) := by
  refine Writes.step (g := 2205177218) ?_ we wh
  clear wh we
  have hz : Writes 2205177218 s s := Writes.refl _ _
  unfold glossPurge
  try dsimp only
  repeat' (first
    | with_reducible assumption
    | (with_reducible apply beginPurge_writes; (on_goal 2 => decide))
    | with_reducible apply Writes.ite
    | with_reducible apply WritesSnd.snd)

theorem applyAction_writes {id : Nat} {r : CsRec} {wm : Nat} {z0 s : State} (wh : Writes wm z0 s) (we : 3413694434 ||| wm = wm) : Writes wm
    z0 (applyAction id s r) := by
  refine Writes.step (g := 3413694434) ?_ we wh
  clear wh we
  have hz : Writes 3413694434 s s := Writes.refl _ _
  unfold applyAction
  try dsimp only
  repeat' (first
    | with_reducible assumption
    | (with_reducible apply glossPurge_writes; (on_goal 2 => decide))
    | (with_reducible apply beginChangeover_writes; (on_goal 2 => decide))
    | (with_reducible apply enterService_writes; (on_goal 2 => decide))
    | with_reducible apply Writes.ite)

theorem applySet_writes {x : ChangeSet} {wm : Nat} {z0 s : State} (wh : Writes wm z0 s) (we : 3749435362 ||| wm = wm) : Writes wm z0
    (applySet s x) := by
  refine Writes.step (g := 3749435362) ?_ we wh
  clear wh we
  have hz : Writes 3749435362 s s := Writes.refl _ _
  unfold applySet
  try dsimp only
  repeat' (first
    | intro _
    | with_reducible assumption
    | (with_reducible apply applyAction_writes; (on_goal 2 => decide))
    | (with_reducible apply applyValue_writes; (on_goal 2 => decide))
    | (with_reducible apply setCreds_writes; (on_goal 2 => decide))
    | (with_reducible apply beginLife_writes; (on_goal 2 => decide))
    | (with_reducible apply switchGuards_writes; (on_goal 2 => decide))
    | (with_reducible apply State.present_writes; (on_goal 2 => decide))
    | (with_reducible apply State.bump_writes; (on_goal 2 => decide))
    | with_reducible apply Writes.ite
    | with_reducible apply Writes.foldl
    | split)

theorem execCsCommit_writes {wm : Nat} {z0 s : State} (wh : Writes wm z0 s) (we : 3749435362 ||| wm = wm) : WritesOut wm z0 (execCsCommit s) := by
  refine WritesOut.step (g := 3749435362) ?_ we wh
  clear wh we
  have hz : Writes 3749435362 s s := Writes.refl _ _
  unfold execCsCommit
  try dsimp only
  repeat' (first
    | with_reducible assumption
    | (with_reducible apply applySet_writes; (on_goal 2 => decide))
    | (with_reducible apply freeSet_writes; (on_goal 2 => decide))
    | (with_reducible apply State.withMgmt_writes; (on_goal 2 => decide))
    | (with_reducible apply State.bump_writes; (on_goal 2 => decide))
    | with_reducible apply WritesOut.next
    | with_reducible apply WritesOut.ite
    | with_reducible apply Writes.ite
    | split)

/-! ### Minutes -/

theorem execMinuteSetDurable_writes {wm : Nat} {z0 s : State} (wh : Writes wm z0 s) (we : 32896 ||| wm = wm) : WritesOut wm z0
    (execMinuteSetDurable s) := by
  refine WritesOut.step (g := 32896) ?_ we wh
  clear wh we
  have hz : Writes 32896 s s := Writes.refl _ _
  unfold execMinuteSetDurable
  try dsimp only
  repeat' (first
    | with_reducible assumption
    | (with_reducible apply setDurable_writes; (on_goal 2 => decide))
    | with_reducible apply WritesOut.next
    | with_reducible apply WritesOut.ite
    | split)

theorem State.withMd_writes {vf : Nat} {f : MdBlock → MdBlock} {wm : Nat} {z0 s : State} (wh : Writes wm z0 s) (we : 32768 ||| wm = wm) :
    Writes wm z0 (State.withMd s vf f) := by
  refine Writes.step (g := 32768) ?_ we wh
  clear wh we
  have hz : Writes 32768 s s := Writes.refl _ _
  unfold State.withMd
  try dsimp only
  repeat' (first
    | with_reducible assumption
    | (with_reducible apply State.withMeter_writes; (on_goal 2 => decide)))

theorem deliveryFailed_writes {vf : Nat} {code : Nat} {wm : Nat} {z0 s : State} (wh : Writes wm z0 s) (we : 1073774592 ||| wm = wm) :
    Writes wm z0 (deliveryFailed s vf code) := by
  refine Writes.step (g := 1073774592) ?_ we wh
  clear wh we
  have hz : Writes 1073774592 s s := Writes.refl _ _
  unfold deliveryFailed
  try dsimp only
  repeat' (first
    | with_reducible assumption
    | (with_reducible apply State.withMd_writes; (on_goal 2 => decide))
    | (with_reducible apply State.bump_writes; (on_goal 2 => decide)))

theorem deliverOne_writes {vf : Nat} {seq : Nat} {ok : Bool} {wm : Nat} {z0 s : State} (wh : Writes wm z0 s) (we : 18253643904 ||| wm = wm)
    : Writes wm z0 (deliverOne s vf seq ok) := by
  refine Writes.step (g := 18253643904) ?_ we wh
  clear wh we
  have hz : Writes 18253643904 s s := Writes.refl _ _
  unfold deliverOne
  try dsimp only
  repeat' (first
    | with_reducible assumption
    | (with_reducible apply deliveryFailed_writes; (on_goal 2 => decide))
    | (with_reducible apply State.withMd_writes; (on_goal 2 => decide))
    | (with_reducible apply State.hostWrite_writes; (on_goal 2 => decide))
    | (with_reducible apply State.msix_writes; (on_goal 2 => decide))
    | with_reducible apply Writes.ite
    | split)

theorem deliverDue_writes {vf : Nat} {ok : Bool} {wm : Nat} {z0 s : State} (wh : Writes wm z0 s) (we : 18253643904 ||| wm = wm) : Writes wm
    z0 (deliverDue s vf ok) := by
  refine Writes.step (g := 18253643904) ?_ we wh
  clear wh we
  have hz : Writes 18253643904 s s := Writes.refl _ _
  unfold deliverDue
  try dsimp only
  repeat' (first
    | with_reducible assumption
    | (with_reducible apply deliverOne_writes; (on_goal 2 => decide))
    | (with_reducible apply State.withMd_writes; (on_goal 2 => decide))
    | with_reducible apply Writes.ite
    | split)

theorem execMinuteDelivery_writes {vf : Nat} {ok : Bool} {wm : Nat} {z0 s : State} (wh : Writes wm z0 s) (we : 18253643904 ||| wm = wm) :
    WritesOut wm z0 (execMinuteDelivery vf ok s) := by
  refine WritesOut.step (g := 18253643904) ?_ we wh
  clear wh we
  have hz : Writes 18253643904 s s := Writes.refl _ _
  unfold execMinuteDelivery
  try dsimp only
  repeat' (first
    | with_reducible assumption
    | (with_reducible apply deliverDue_writes; (on_goal 2 => decide))
    | with_reducible apply WritesOut.next)

theorem deliverAll_writes {vf : Nat} {wm : Nat} {z0 s : State} (wh : Writes wm z0 s) (we : 18253643904 ||| wm = wm) : Writes wm z0
    (deliverAll s vf) := by
  refine Writes.step (g := 18253643904) ?_ we wh
  clear wh we
  have hz : Writes 18253643904 s s := Writes.refl _ _
  unfold deliverAll
  try dsimp only
  repeat' (first
    | intro _
    | with_reducible assumption
    | (with_reducible apply deliverDue_writes; (on_goal 2 => decide))
    | with_reducible apply Writes.foldl)

end Sys2Proof.Machine
end

