-- ==== Sys2Proof/Laws/Writes9.lean ====
section
/-! SUPPORT. Which fields each operation can write (see Writes.lean), operation by operation: Link, Bar, Card, Field. -/

set_option linter.unusedTactic false
set_option linter.unreachableTactic false
set_option linter.unusedVariables false

namespace Sys2Proof.Machine

open Sys2Proof

/-! ### Link -/

theorem State.aer_writes {fn : Nat} {e : Nat} {wm : Nat} {z0 s : State} (wh : Writes wm z0 s) (we : 256 ||| wm = wm) : Writes wm z0
    (State.aer s fn e) := by
  refine Writes.step (g := 256) ?_ we wh
  clear wh we
  have hz : Writes 256 s s := Writes.refl _ _
  unfold State.aer
  try dsimp only
  repeat' (first
    | with_reducible assumption
    | (with_reducible apply State.withPart_writes; (on_goal 2 => decide)))

theorem execConventionalReset_writes {wm : Nat} {z0 s0 : State} (wh : Writes wm z0 s0) (we : 3259553670 ||| wm = wm) : WritesOut wm z0
    (execConventionalReset s0) := by
  refine WritesOut.step (g := 3259553670) ?_ we wh
  clear wh we
  have hz : Writes 3259553670 s0 s0 := Writes.refl _ _
  unfold execConventionalReset
  try dsimp only
  repeat' (first
    | intro _
    | with_reducible assumption
    | (with_reducible apply reopenMailbox_writes; (on_goal 2 => decide))
    | (with_reducible apply tearDown_writes; (on_goal 2 => decide))
    | (with_reducible apply State.withPower_writes; (on_goal 2 => decide))
    | (with_reducible apply State.withLink_writes; (on_goal 2 => decide))
    | (with_reducible apply State.drawNat_writes; (on_goal 2 => decide))
    | with_reducible apply WritesOut.next
    | with_reducible apply WritesOut.ite
    | with_reducible apply Writes.foldl
    | with_reducible apply WritesSnd.snd)

theorem execPerstDeasserted_writes {wm : Nat} {z0 s : State} (wh : Writes wm z0 s) (we : 132 ||| wm = wm) : WritesOut wm z0
    (execPerstDeasserted s) := by
  refine WritesOut.step (g := 132) ?_ we wh
  clear wh we
  have hz : Writes 132 s s := Writes.refl _ _
  unfold execPerstDeasserted
  try dsimp only
  repeat' (first
    | with_reducible assumption
    | (with_reducible apply State.withPower_writes; (on_goal 2 => decide))
    | (with_reducible apply State.withLink_writes; (on_goal 2 => decide))
    | with_reducible apply WritesOut.next
    | with_reducible apply Writes.ite)

theorem execLinkRecovery_writes {width : Nat} {rate : Nat} {wm : Nat} {z0 s : State} (wh : Writes wm z0 s) (we : 1073741984 ||| wm = wm) :
    WritesOut wm z0 (execLinkRecovery width rate s) := by
  refine WritesOut.step (g := 1073741984) ?_ we wh
  clear wh we
  have hz : Writes 1073741984 s s := Writes.refl _ _
  unfold execLinkRecovery
  try dsimp only
  repeat' (first
    | with_reducible assumption
    | (with_reducible apply State.withLink_writes; (on_goal 2 => decide))
    | (with_reducible apply State.event_writes; (on_goal 2 => decide))
    | (with_reducible apply State.bump_writes; (on_goal 2 => decide))
    | with_reducible apply WritesOut.next
    | with_reducible apply WritesOut.ite)

theorem execLinkReturnL0_writes {width : Nat} {rate : Nat} {wm : Nat} {z0 s : State} (wh : Writes wm z0 s) (we : 18257843840 ||| wm = wm) :
    WritesOut wm z0 (execLinkReturnL0 width rate s) := by
  refine WritesOut.step (g := 18257843840) ?_ we wh
  clear wh we
  have hz : Writes 18257843840 s s := Writes.refl _ _
  unfold execLinkReturnL0
  try dsimp only
  repeat' (first
    | intro _
    | with_reducible assumption
    | (with_reducible apply deliverAll_writes; (on_goal 2 => decide))
    | (with_reducible apply post_writes; (on_goal 2 => decide))
    | (with_reducible apply State.withLink_writes; (on_goal 2 => decide))
    | (with_reducible apply State.msix_writes; (on_goal 2 => decide))
    | with_reducible apply WritesOut.next
    | with_reducible apply WritesOut.ite
    | with_reducible apply Writes.foldl)

theorem execD3hotEntry_writes {wm : Nat} {z0 s : State} (wh : Writes wm z0 s) (we : 128 ||| wm = wm) : WritesOut wm z0 (execD3hotEntry s) := by
  refine WritesOut.step (g := 128) ?_ we wh
  clear wh we
  have hz : Writes 128 s s := Writes.refl _ _
  unfold execD3hotEntry
  try dsimp only
  repeat' (first
    | with_reducible assumption
    | (with_reducible apply State.withLink_writes; (on_goal 2 => decide))
    | with_reducible apply WritesOut.next
    | with_reducible apply Writes.ite)

theorem execD3hotExit_writes {wm : Nat} {z0 s : State} (wh : Writes wm z0 s) (we : 128 ||| wm = wm) : WritesOut wm z0 (execD3hotExit s) := by
  refine WritesOut.step (g := 128) ?_ we wh
  clear wh we
  have hz : Writes 128 s s := Writes.refl _ _
  unfold execD3hotExit
  try dsimp only
  repeat' (first
    | intro _
    | with_reducible assumption
    | (with_reducible apply State.withLink_writes; (on_goal 2 => decide))
    | (with_reducible apply State.msix_writes; (on_goal 2 => decide))
    | with_reducible apply WritesOut.next
    | with_reducible apply WritesOut.ite
    | with_reducible apply Writes.foldl)

theorem execFunctionLevelReset_writes {vf : Nat} {wm : Nat} {z0 s : State} (wh : Writes wm z0 s) (we : 3259029378 ||| wm = wm) : WritesOut
    wm z0 (execFunctionLevelReset vf s) := by
  refine WritesOut.step (g := 3259029378) ?_ we wh
  clear wh we
  have hz : Writes 3259029378 s s := Writes.refl _ _
  unfold execFunctionLevelReset
  try dsimp only
  repeat' (first
    | with_reducible assumption
    | (with_reducible apply tearDown_writes; (on_goal 2 => decide))
    | with_reducible apply WritesOut.next
    | with_reducible apply WritesOut.ite)

theorem execNumvfsWrite_writes {n : Nat} {wm : Nat} {z0 s : State} (wh : Writes wm z0 s) (we : 128 ||| wm = wm) : WritesOut wm z0
    (execNumvfsWrite n s) := by
  refine WritesOut.step (g := 128) ?_ we wh
  clear wh we
  have hz : Writes 128 s s := Writes.refl _ _
  unfold execNumvfsWrite
  try dsimp only
  repeat' (first
    | with_reducible assumption
    | (with_reducible apply State.withLink_writes; (on_goal 2 => decide))
    | with_reducible apply WritesOut.next
    | with_reducible apply WritesOut.ite)

theorem enablePart_writes {p : Nat} {wm : Nat} {z0 s : State} (wh : Writes wm z0 s) (we : 2130178 ||| wm = wm) : Writes wm z0 (enablePart s p) := by
  refine Writes.step (g := 2130178) ?_ we wh
  clear wh we
  have hz : Writes 2130178 s s := Writes.refl _ _
  unfold enablePart
  try dsimp only
  repeat' (first
    | with_reducible assumption
    | (with_reducible apply newSalt_writes; (on_goal 2 => decide))
    | (with_reducible apply State.withMeter_writes; (on_goal 2 => decide))
    | (with_reducible apply State.withPart_writes; (on_goal 2 => decide))
    | with_reducible apply Writes.ite)

theorem execVfEnableSet_writes {wm : Nat} {z0 s : State} (wh : Writes wm z0 s) (we : 2130306 ||| wm = wm) : WritesOut wm z0 (execVfEnableSet s) := by
  refine WritesOut.step (g := 2130306) ?_ we wh
  clear wh we
  have hz : Writes 2130306 s s := Writes.refl _ _
  unfold execVfEnableSet
  try dsimp only
  repeat' (first
    | intro _
    | with_reducible assumption
    | (with_reducible apply enablePart_writes; (on_goal 2 => decide))
    | (with_reducible apply State.withLink_writes; (on_goal 2 => decide))
    | with_reducible apply WritesOut.next
    | with_reducible apply WritesOut.ite
    | with_reducible apply Writes.foldl)

theorem execVfEnableClear_writes {wm : Nat} {z0 s : State} (wh : Writes wm z0 s) (we : 3259029378 ||| wm = wm) : WritesOut wm z0
    (execVfEnableClear s) := by
  refine WritesOut.step (g := 3259029378) ?_ we wh
  clear wh we
  have hz : Writes 3259029378 s s := Writes.refl _ _
  unfold execVfEnableClear
  try dsimp only
  repeat' (first
    | intro _
    | with_reducible assumption
    | (with_reducible apply tearDown_writes; (on_goal 2 => decide))
    | (with_reducible apply State.withPart_writes; (on_goal 2 => decide))
    | (with_reducible apply State.withLink_writes; (on_goal 2 => decide))
    | with_reducible apply WritesOut.next
    | with_reducible apply WritesOut.ite
    | with_reducible apply Writes.foldl)

theorem execBarAccessDropped_writes {fn : Nat} {off : Nat} {size : Nat} {write : Bool} {wm : Nat} {z0 s : State} (wh : Writes wm z0 s) (we
    : 32 ||| wm = wm) : WritesOut wm z0 (execBarAccessDropped fn off size write s) := by
  refine WritesOut.step (g := 32) ?_ we wh
  clear wh we
  have hz : Writes 32 s s := Writes.refl _ _
  unfold execBarAccessDropped
  try dsimp only
  repeat' (first
    | with_reducible assumption
    | (with_reducible apply State.reportBy_writes; (on_goal 2 => decide))
    | with_reducible apply WritesOut.next
    | with_reducible apply WritesOut.ite)

theorem execPoisonedWrite_writes {fn : Nat} {_bar : Nat} {_off : Nat} {wm : Nat} {z0 s : State} (wh : Writes wm z0 s) (we : 256 ||| wm =
    wm) : WritesOut wm z0 (execPoisonedWrite fn _bar _off s) := by
  refine WritesOut.step (g := 256) ?_ we wh
  clear wh we
  have hz : Writes 256 s s := Writes.refl _ _
  unfold execPoisonedWrite
  try dsimp only
  repeat' (first
    | with_reducible assumption
    | (with_reducible apply State.aer_writes; (on_goal 2 => decide))
    | with_reducible apply WritesOut.next
    | with_reducible apply Writes.ite)

theorem execProxyDoorbell_writes {vf : Nat} {ring : Nat} {cq : Bool} {value : BitVec 32} {wm : Nat} {z0 s : State} (wh : Writes wm z0 s)
    (we : 1073742336 ||| wm = wm) : WritesOut wm z0 (execProxyDoorbell vf ring cq value s) := by
  refine WritesOut.step (g := 1073742336) ?_ we wh
  clear wh we
  have hz : Writes 1073742336 s s := Writes.refl _ _
  unfold execProxyDoorbell
  try dsimp only
  repeat' (first
    | with_reducible assumption
    | (with_reducible apply ringCq_writes; (on_goal 2 => decide))
    | (with_reducible apply ringSq_writes; (on_goal 2 => decide))
    | (with_reducible apply State.bumps_writes; (on_goal 2 => decide))
    | with_reducible apply WritesOut.next
    | with_reducible apply WritesOut.ite)

theorem State.withIde_writes {n : Nat} {f : IdeStream → IdeStream} {wm : Nat} {z0 s : State} (wh : Writes wm z0 s) (we : 128 ||| wm = wm) :
    Writes wm z0 (State.withIde s n f) := by
  refine Writes.step (g := 128) ?_ we wh
  clear wh we
  have hz : Writes 128 s s := Writes.refl _ _
  unfold State.withIde
  try dsimp only
  repeat' (first
    | with_reducible assumption
    | (with_reducible apply State.withLink_writes; (on_goal 2 => decide)))

theorem execKSetGo_writes {stream : Nat} {set : Nat} {wm : Nat} {z0 s : State} (wh : Writes wm z0 s) (we : 128 ||| wm = wm) : WritesOut wm
    z0 (execKSetGo stream set s) := by
  refine WritesOut.step (g := 128) ?_ we wh
  clear wh we
  have hz : Writes 128 s s := Writes.refl _ _
  unfold execKSetGo
  try dsimp only
  repeat' (first
    | with_reducible assumption
    | (with_reducible apply State.withIde_writes; (on_goal 2 => decide))
    | with_reducible apply WritesOut.next
    | with_reducible apply WritesOut.ite)

theorem tdiError_writes {vf : Nat} {wm : Nat} {z0 s : State} (wh : Writes wm z0 s) (we : 3259029378 ||| wm = wm) : Writes wm z0 (tdiError s vf) := by
  refine Writes.step (g := 3259029378) ?_ we wh
  clear wh we
  have hz : Writes 3259029378 s s := Writes.refl _ _
  unfold tdiError
  try dsimp only
  repeat' (first
    | with_reducible assumption
    | (with_reducible apply tearDown_writes; (on_goal 2 => decide))
    | (with_reducible apply State.withPart_writes; (on_goal 2 => decide)))

theorem execIdeKm_writes {stream : Nat} {set : Nat} {lo : Nat} {hi : Nat} {keyOut : Bytes} {keyIn : Bytes} {wm : Nat} {z0 s : State} (wh :
    Writes wm z0 s) (we : 3259029378 ||| wm = wm) : WritesOut wm z0 (execIdeKm stream set lo hi keyOut keyIn s) := by
  refine WritesOut.step (g := 3259029378) ?_ we wh
  clear wh we
  have hz : Writes 3259029378 s s := Writes.refl _ _
  unfold execIdeKm
  try dsimp only
  repeat' (first
    | intro _
    | with_reducible assumption
    | (with_reducible apply tdiError_writes; (on_goal 2 => decide))
    | (with_reducible apply State.withIde_writes; (on_goal 2 => decide))
    | with_reducible apply WritesOut.next
    | with_reducible apply WritesOut.ite
    | with_reducible apply Writes.foldl)

theorem execIdeStreamInsecure_writes {stream : Nat} {wm : Nat} {z0 s : State} (wh : Writes wm z0 s) (we : 3259029378 ||| wm = wm) :
    WritesOut wm z0 (execIdeStreamInsecure stream s) := by
  refine WritesOut.step (g := 3259029378) ?_ we wh
  clear wh we
  have hz : Writes 3259029378 s s := Writes.refl _ _
  unfold execIdeStreamInsecure
  try dsimp only
  repeat' (first
    | intro _
    | with_reducible assumption
    | (with_reducible apply tdiError_writes; (on_goal 2 => decide))
    | (with_reducible apply State.withIde_writes; (on_goal 2 => decide))
    | with_reducible apply WritesOut.next
    | with_reducible apply WritesOut.ite
    | with_reducible apply Writes.foldl)

theorem execTlpIntegrityFail_writes {_stream : Nat} {fn : Nat} {wm : Nat} {z0 s : State} (wh : Writes wm z0 s) (we : 256 ||| wm = wm) :
    WritesOut wm z0 (execTlpIntegrityFail _stream fn s) := by
  refine WritesOut.step (g := 256) ?_ we wh
  clear wh we
  have hz : Writes 256 s s := Writes.refl _ _
  unfold execTlpIntegrityFail
  try dsimp only
  repeat' (first
    | with_reducible assumption
    | (with_reducible apply State.aer_writes; (on_goal 2 => decide))
    | with_reducible apply WritesOut.next
    | with_reducible apply Writes.ite)

theorem execLockInterface_writes {vf : Nat} {wm : Nat} {z0 s : State} (wh : Writes wm z0 s) (we : 256 ||| wm = wm) : WritesOut wm z0
    (execLockInterface vf s) := by
  refine WritesOut.step (g := 256) ?_ we wh
  clear wh we
  have hz : Writes 256 s s := Writes.refl _ _
  unfold execLockInterface
  try dsimp only
  repeat' (first
    | with_reducible assumption
    | (with_reducible apply State.withPart_writes; (on_goal 2 => decide))
    | with_reducible apply WritesOut.next
    | with_reducible apply WritesOut.ite
    | split)

theorem execStopInterface_writes {vf : Nat} {wm : Nat} {z0 s : State} (wh : Writes wm z0 s) (we : 3259029378 ||| wm = wm) : WritesOut wm z0
    (execStopInterface vf s) := by
  refine WritesOut.step (g := 3259029378) ?_ we wh
  clear wh we
  have hz : Writes 3259029378 s s := Writes.refl _ _
  unfold execStopInterface
  try dsimp only
  repeat' (first
    | with_reducible assumption
    | (with_reducible apply tearDown_writes; (on_goal 2 => decide))
    | (with_reducible apply State.withPart_writes; (on_goal 2 => decide))
    | with_reducible apply WritesOut.next
    | with_reducible apply WritesOut.ite)

theorem execTdiFrozenChange_writes {vf : Nat} {wm : Nat} {z0 s : State} (wh : Writes wm z0 s) (we : 3259029378 ||| wm = wm) : WritesOut wm
    z0 (execTdiFrozenChange vf s) := by
  refine WritesOut.step (g := 3259029378) ?_ we wh
  clear wh we
  have hz : Writes 3259029378 s s := Writes.refl _ _
  unfold execTdiFrozenChange
  try dsimp only
  repeat' (first
    | with_reducible assumption
    | (with_reducible apply tdiError_writes; (on_goal 2 => decide))
    | with_reducible apply WritesOut.next
    | with_reducible apply WritesOut.ite)

theorem doeReply_writes {b : Bytes} {wm : Nat} {z0 s : State} (wh : Writes wm z0 s) (we : 128 ||| wm = wm) : Writes wm z0 (doeReply s b) := by
  refine Writes.step (g := 128) ?_ we wh
  clear wh we
  have hz : Writes 128 s s := Writes.refl _ _
  unfold doeReply
  try dsimp only
  repeat' (first
    | with_reducible assumption
    | (with_reducible apply State.withLink_writes; (on_goal 2 => decide)))

theorem execDoeObject_writes {kind : DoeKind} {len : Nat} {wm : Nat} {z0 s : State} (wh : Writes wm z0 s) (we : 128 ||| wm = wm) :
    WritesOut wm z0 (execDoeObject kind len s) := by
  refine WritesOut.step (g := 128) ?_ we wh
  clear wh we
  have hz : Writes 128 s s := Writes.refl _ _
  unfold execDoeObject
  try dsimp only
  repeat' (first
    | with_reducible assumption
    | (with_reducible apply doeReply_writes; (on_goal 2 => decide))
    | (with_reducible apply State.withLink_writes; (on_goal 2 => decide))
    | with_reducible apply WritesOut.next
    | with_reducible apply Writes.ite
    | split)

theorem spdmSign_writes {body : Bytes} {wm : Nat} {z0 s : State} (wh : Writes wm z0 s) (we : 162 ||| wm = wm) : Writes wm z0 (spdmSign s body) := by
  refine Writes.step (g := 162) ?_ we wh
  clear wh we
  have hz : Writes 162 s s := Writes.refl _ _
  unfold spdmSign
  try dsimp only
  repeat' (first
    | with_reducible assumption
    | (with_reducible apply doeReply_writes; (on_goal 2 => decide))
    | (with_reducible apply State.event_writes; (on_goal 2 => decide))
    | (with_reducible apply State.drawBytes_writes; (on_goal 2 => decide))
    | with_reducible apply Writes.ite
    | split
    | with_reducible apply WritesSnd.snd)

theorem execSpdmMessage_writes {req : SpdmReq} {wm : Nat} {z0 s : State} (wh : Writes wm z0 s) (we : 418 ||| wm = wm) : WritesOut wm z0
    (execSpdmMessage req s) := by
  refine WritesOut.step (g := 418) ?_ we wh
  clear wh we
  have hz : Writes 418 s s := Writes.refl _ _
  unfold execSpdmMessage
  try dsimp only
  repeat' (first
    | with_reducible assumption
    | (with_reducible apply spdmSign_writes; (on_goal 2 => decide))
    | (with_reducible apply doeReply_writes; (on_goal 2 => decide))
    | (with_reducible apply State.withPart_writes; (on_goal 2 => decide))
    | (with_reducible apply State.withLink_writes; (on_goal 2 => decide))
    | with_reducible apply WritesOut.next
    | with_reducible apply WritesOut.ite
    | with_reducible apply Writes.ite
    | split)

theorem adminWait_writes {id : Nat} {wm : Nat} {z0 s : State} (wh : Writes wm z0 s) (we : 4200064 ||| wm = wm) : Writes wm z0 (adminWait s id) := by
  refine Writes.step (g := 4200064) ?_ we wh
  clear wh we
  have hz : Writes 4200064 s s := Writes.refl _ _
  unfold adminWait
  try dsimp only
  repeat' (first
    | with_reducible assumption
    | (with_reducible apply toEngine_writes; (on_goal 2 => decide))
    | (with_reducible apply returnChannel_writes; (on_goal 2 => decide))
    | (with_reducible apply State.withJob_writes; (on_goal 2 => decide)))

theorem putWindow_writes {p : Nat} {slot : Nat} {w : Window} {wm : Nat} {z0 s : State} (wh : Writes wm z0 s) (we : 256 ||| wm = wm) :
    Writes wm z0 (putWindow s p slot w) := by
  refine Writes.step (g := 256) ?_ we wh
  clear wh we
  have hz : Writes 256 s s := Writes.refl _ _
  unfold putWindow
  try dsimp only
  repeat' (first
    | with_reducible assumption
    | (with_reducible apply State.withPart_writes; (on_goal 2 => decide)))

theorem execWindowSet_writes {job : Nat} {block : BitVec 256} {wm : Nat} {z0 s : State} (wh : Writes wm z0 s) (we : 3260045184 ||| wm = wm)
    : WritesOut wm z0 (execWindowSet job block s) := by
  refine WritesOut.step (g := 3260045184) ?_ we wh
  clear wh we
  have hz : Writes 3260045184 s s := Writes.refl _ _
  unfold execWindowSet
  try dsimp only
  repeat' (first
    | with_reducible assumption
    | (with_reducible apply putWindow_writes; (on_goal 2 => decide))
    | (with_reducible apply adminWait_writes; (on_goal 2 => decide))
    | (with_reducible apply squashWhere_writes; (on_goal 2 => decide))
    | (with_reducible apply finish_writes; (on_goal 2 => decide))
    | (with_reducible apply State.withPart_writes; (on_goal 2 => decide))
    | with_reducible apply WritesOut.next
    | with_reducible apply WritesOut.ite)

theorem execWindowSetDone_writes {job : Nat} {wm : Nat} {z0 s : State} (wh : Writes wm z0 s) (we : 2186302592 ||| wm = wm) : WritesOut wm
    z0 (execWindowSetDone job s) := by
  refine WritesOut.step (g := 2186302592) ?_ we wh
  clear wh we
  have hz : Writes 2186302592 s s := Writes.refl _ _
  unfold execWindowSetDone
  try dsimp only
  repeat' (first
    | with_reducible assumption
    | (with_reducible apply finish_writes; (on_goal 2 => decide))
    | with_reducible apply WritesOut.next
    | with_reducible apply WritesOut.ite)

theorem execWindowGet_writes {job : Nat} {wm : Nat} {z0 s : State} (wh : Writes wm z0 s) (we : 2186302592 ||| wm = wm) : WritesOut wm z0
    (execWindowGet job s) := by
  refine WritesOut.step (g := 2186302592) ?_ we wh
  clear wh we
  have hz : Writes 2186302592 s s := Writes.refl _ _
  unfold execWindowGet
  try dsimp only
  repeat' (first
    | with_reducible assumption
    | (with_reducible apply finish_writes; (on_goal 2 => decide))
    | with_reducible apply WritesOut.next
    | with_reducible apply WritesOut.ite)

theorem execPartitionInfo_writes {job : Nat} {wm : Nat} {z0 s : State} (wh : Writes wm z0 s) (we : 2186302592 ||| wm = wm) : WritesOut wm
    z0 (execPartitionInfo job s) := by
  refine WritesOut.step (g := 2186302592) ?_ we wh
  clear wh we
  have hz : Writes 2186302592 s s := Writes.refl _ _
  unfold execPartitionInfo
  try dsimp only
  repeat' (first
    | with_reducible assumption
    | (with_reducible apply finish_writes; (on_goal 2 => decide))
    | with_reducible apply WritesOut.next
    | with_reducible apply WritesOut.ite)

theorem execTimeGet_writes {job : Nat} {wm : Nat} {z0 s : State} (wh : Writes wm z0 s) (we : 2186302592 ||| wm = wm) : WritesOut wm z0
    (execTimeGet job s) := by
  refine WritesOut.step (g := 2186302592) ?_ we wh
  clear wh we
  have hz : Writes 2186302592 s s := Writes.refl _ _
  unfold execTimeGet
  try dsimp only
  repeat' (first
    | with_reducible assumption
    | (with_reducible apply finish_writes; (on_goal 2 => decide))
    | with_reducible apply WritesOut.next
    | with_reducible apply WritesOut.ite)

theorem execFence_writes {job : Nat} {wm : Nat} {z0 s : State} (wh : Writes wm z0 s) (we : 4200064 ||| wm = wm) : WritesOut wm z0
    (execFence job s) := by
  refine WritesOut.step (g := 4200064) ?_ we wh
  clear wh we
  have hz : Writes 4200064 s s := Writes.refl _ _
  unfold execFence
  try dsimp only
  repeat' (first
    | with_reducible assumption
    | (with_reducible apply adminWait_writes; (on_goal 2 => decide))
    | with_reducible apply WritesOut.next
    | with_reducible apply Writes.ite)

theorem execFenceDone_writes {job : Nat} {wm : Nat} {z0 s : State} (wh : Writes wm z0 s) (we : 2186302592 ||| wm = wm) : WritesOut wm z0
    (execFenceDone job s) := by
  refine WritesOut.step (g := 2186302592) ?_ we wh
  clear wh we
  have hz : Writes 2186302592 s s := Writes.refl _ _
  unfold execFenceDone
  try dsimp only
  repeat' (first
    | with_reducible assumption
    | (with_reducible apply finish_writes; (on_goal 2 => decide))
    | with_reducible apply WritesOut.next
    | with_reducible apply WritesOut.ite)

theorem quiescePart_writes {p : Nat} {wm : Nat} {z0 s : State} (wh : Writes wm z0 s) (we : 1077942144 ||| wm = wm) : Writes wm z0
    (quiescePart s p) := by
  refine Writes.step (g := 1077942144) ?_ we wh
  clear wh we
  have hz : Writes 1077942144 s s := Writes.refl _ _
  unfold quiescePart
  try dsimp only
  repeat' (first
    | intro _
    | with_reducible assumption
    | (with_reducible apply holdRings_writes; (on_goal 2 => decide))
    | (with_reducible apply squashWhere_writes; (on_goal 2 => decide))
    | (with_reducible apply State.withRing_writes; (on_goal 2 => decide))
    | (with_reducible apply State.withIntake_writes; (on_goal 2 => decide))
    | (with_reducible apply State.withPart_writes; (on_goal 2 => decide))
    | with_reducible apply Writes.ite
    | with_reducible apply Writes.foldl
    | split)

theorem execQuiesce_writes {job : Nat} {word : BitVec 64} {wm : Nat} {z0 s : State} (wh : Writes wm z0 s) (we : 3260045184 ||| wm = wm) :
    WritesOut wm z0 (execQuiesce job word s) := by
  refine WritesOut.step (g := 3260045184) ?_ we wh
  clear wh we
  have hz : Writes 3260045184 s s := Writes.refl _ _
  unfold execQuiesce
  try dsimp only
  repeat' (first
    | with_reducible assumption
    | (with_reducible apply quiescePart_writes; (on_goal 2 => decide))
    | (with_reducible apply adminWait_writes; (on_goal 2 => decide))
    | (with_reducible apply finish_writes; (on_goal 2 => decide))
    | (with_reducible apply State.withJob_writes; (on_goal 2 => decide))
    | with_reducible apply WritesOut.next
    | with_reducible apply WritesOut.ite)

theorem execQuiesceDone_writes {job : Nat} {wm : Nat} {z0 s : State} (wh : Writes wm z0 s) (we : 2186302592 ||| wm = wm) : WritesOut wm z0
    (execQuiesceDone job s) := by
  refine WritesOut.step (g := 2186302592) ?_ we wh
  clear wh we
  have hz : Writes 2186302592 s s := Writes.refl _ _
  unfold execQuiesceDone
  try dsimp only
  repeat' (first
    | with_reducible assumption
    | (with_reducible apply finish_writes; (on_goal 2 => decide))
    | with_reducible apply WritesOut.next
    | with_reducible apply WritesOut.ite)

theorem execResume_writes {job : Nat} {word : BitVec 64} {wm : Nat} {z0 s : State} (wh : Writes wm z0 s) (we : 2186303360 ||| wm = wm) :
    WritesOut wm z0 (execResume job word s) := by
  refine WritesOut.step (g := 2186303360) ?_ we wh
  clear wh we
  have hz : Writes 2186303360 s s := Writes.refl _ _
  unfold execResume
  try dsimp only
  repeat' (first
    | intro _
    | with_reducible assumption
    | (with_reducible apply releaseRing_writes; (on_goal 2 => decide))
    | (with_reducible apply finish_writes; (on_goal 2 => decide))
    | (with_reducible apply State.withPart_writes; (on_goal 2 => decide))
    | with_reducible apply WritesOut.next
    | with_reducible apply WritesOut.ite
    | with_reducible apply Writes.foldl)

theorem execTimeSet_writes {job : Nat} {ns : BitVec 64} {word : BitVec 64} {wm : Nat} {z0 s : State} (wh : Writes wm z0 s) (we : 3260077738
    ||| wm = wm) : WritesOut wm z0 (execTimeSet job ns word s) := by
  refine WritesOut.step (g := 3260077738) ?_ we wh
  clear wh we
  have hz : Writes 3260077738 s s := Writes.refl _ _
  unfold execTimeSet
  try dsimp only
  repeat' (first
    | with_reducible assumption
    | (with_reducible apply adminWait_writes; (on_goal 2 => decide))
    | (with_reducible apply finish_writes; (on_goal 2 => decide))
    | (with_reducible apply setDtb_writes; (on_goal 2 => decide))
    | (with_reducible apply closeMinute_writes; (on_goal 2 => decide))
    | (with_reducible apply openMinute_writes; (on_goal 2 => decide))
    | (with_reducible apply State.withClock_writes; (on_goal 2 => decide))
    | (with_reducible apply State.bump_writes; (on_goal 2 => decide))
    | with_reducible apply WritesOut.next
    | with_reducible apply WritesOut.ite)

theorem execTimeSetDone_writes {job : Nat} {wm : Nat} {z0 s : State} (wh : Writes wm z0 s) (we : 2186302600 ||| wm = wm) : WritesOut wm z0
    (execTimeSetDone job s) := by
  refine WritesOut.step (g := 2186302600) ?_ we wh
  clear wh we
  have hz : Writes 2186302600 s s := Writes.refl _ _
  unfold execTimeSetDone
  try dsimp only
  repeat' (first
    | with_reducible assumption
    | (with_reducible apply finish_writes; (on_goal 2 => decide))
    | (with_reducible apply State.withClock_writes; (on_goal 2 => decide))
    | with_reducible apply WritesOut.next
    | with_reducible apply WritesOut.ite)

/-! ### Bar -/

theorem after_writes {m : Nat} {o : Out} {s z0 : State} (ho : WritesOut m z0 o) : Writes m z0 (after o s) := by
  obtain ⟨t, rfl, h⟩ := ho
  exact h

theorem ringSet_writes {p : Nat} {r : Nat} {f : Ring → Ring} {wm : Nat} {z0 s : State} (wh : Writes wm z0 s) (we : 512 ||| wm = wm) :
    Writes wm z0 (ringSet s p r f) := by
  refine Writes.step (g := 512) ?_ we wh
  clear wh we
  have hz : Writes 512 s s := Writes.refl _ _
  unfold ringSet
  try dsimp only
  repeat' (first
    | with_reducible assumption
    | (with_reducible apply ringFault_writes; (on_goal 2 => decide))
    | (with_reducible apply State.withRing_writes; (on_goal 2 => decide))
    | with_reducible apply Writes.ite)

theorem ringCtl_writes {p : Nat} {r : Nat} {v : Nat} {wm : Nat} {z0 s : State} (wh : Writes wm z0 s) (we : 20439914114 ||| wm = wm) :
    Writes wm z0 (ringCtl s p r v) := by
  refine Writes.step (g := 20439914114) ?_ we wh
  clear wh we
  have hz : Writes 20439914114 s s := Writes.refl _ _
  unfold ringCtl
  try dsimp only
  repeat' (first
    | with_reducible assumption
    | with_reducible apply after_writes
    | (with_reducible apply execRingAbort_writes; (on_goal 2 => decide))
    | (with_reducible apply execRingDisable_writes; (on_goal 2 => decide))
    | (with_reducible apply execRingEnable_writes; (on_goal 2 => decide))
    | with_reducible apply Writes.ite)

theorem ringCtlWrite_writes {p : Nat} {r : Nat} {w : Nat} {v : Nat} {wm : Nat} {z0 s : State} (wh : Writes wm z0 s) (we : 20439914114 |||
    wm = wm) : Writes wm z0 (ringCtlWrite s p r w v) := by
  refine Writes.step (g := 20439914114) ?_ we wh
  clear wh we
  have hz : Writes 20439914114 s s := Writes.refl _ _
  unfold ringCtlWrite
  try dsimp only
  repeat' (first
    | with_reducible assumption
    | (with_reducible apply ringCtl_writes; (on_goal 2 => decide))
    | (with_reducible apply ringFault_writes; (on_goal 2 => decide))
    | with_reducible apply Writes.ite)

theorem ringBlock_writes {p : Nat} {r : Nat} {w : Nat} {size : Nat} {v : Nat} {wm : Nat} {z0 s : State} (wh : Writes wm z0 s) (we :
    20439914114 ||| wm = wm) : Writes wm z0 (ringBlock s p r w size v) := by
  refine Writes.step (g := 20439914114) ?_ we wh
  clear wh we
  have hz : Writes 20439914114 s s := Writes.refl _ _
  unfold ringBlock
  try dsimp only
  repeat' (first
    | with_reducible assumption
    | (with_reducible apply ringCtlWrite_writes; (on_goal 2 => decide))
    | (with_reducible apply ringSet_writes; (on_goal 2 => decide))
    | (with_reducible apply State.withRing_writes; (on_goal 2 => decide))
    | with_reducible apply Writes.ite)

theorem ringPages_writes {p : Nat} {off : Nat} {size : Nat} {v : Nat} {wm : Nat} {z0 s : State} (wh : Writes wm z0 s) (we : 20439914114 |||
    wm = wm) : WritesOpt wm z0 (ringPages s p off size v) := by
  refine WritesOpt.step (g := 20439914114) ?_ we wh
  clear wh we
  have hz : Writes 20439914114 s s := Writes.refl _ _
  unfold ringPages
  try dsimp only
  repeat' (first
    | with_reducible assumption
    | (with_reducible apply ringBlock_writes; (on_goal 2 => decide))
    | (with_reducible apply ringCq_writes; (on_goal 2 => decide))
    | (with_reducible apply ringSq_writes; (on_goal 2 => decide))
    | with_reducible exact WritesOpt.none
    | with_reducible apply WritesOpt.some
    | with_reducible apply Writes.ite
    | split)

theorem msixTable_writes {p : Nat} {off : Nat} {size : Nat} {v : Nat} {wm : Nat} {z0 s : State} (wh : Writes wm z0 s) (we : 8589934592 |||
    wm = wm) : WritesOpt wm z0 (msixTable s p off size v) := by
  refine WritesOpt.step (g := 8589934592) ?_ we wh
  clear wh we
  have hz : Writes 8589934592 s s := Writes.refl _ _
  unfold msixTable
  try dsimp only
  repeat' (first
    | with_reducible exact WritesOpt.none
    | with_reducible apply WritesOpt.some
    | (with_reducible refine Writes.upd_barMem ?_ ?_; (on_goal 2 => decide); with_reducible assumption)
    | split)

theorem mdBlock_writes {vf : Nat} {off : Nat} {size : Nat} {v : Nat} {wm : Nat} {z0 s : State} (wh : Writes wm z0 s) (we : 32768 ||| wm =
    wm) : Writes wm z0 (mdBlock s vf off size v) := by
  refine Writes.step (g := 32768) ?_ we wh
  clear wh we
  have hz : Writes 32768 s s := Writes.refl _ _
  unfold mdBlock
  try dsimp only
  repeat' (first
    | with_reducible assumption
    | (with_reducible apply State.withMd_writes; (on_goal 2 => decide))
    | with_reducible apply Writes.ite)

theorem mailbox_writes {w : Nat} {size : Nat} {v : Nat} {wm : Nat} {z0 s : State} (wh : Writes wm z0 s) (we : 524416 ||| wm = wm) : Writes
    wm z0 (mailbox s w size v) := by
  refine Writes.step (g := 524416) ?_ we wh
  clear wh we
  have hz : Writes 524416 s s := Writes.refl _ _
  unfold mailbox
  try dsimp only
  repeat' (first
    | with_reducible assumption
    | with_reducible apply after_writes
    | (with_reducible apply execMbGo_writes; (on_goal 2 => decide))
    | (with_reducible apply State.withMgmt_writes; (on_goal 2 => decide))
    | with_reducible apply Writes.ite)

theorem pfBar0_writes {off : Nat} {size : Nat} {v : Nat} {wm : Nat} {z0 s : State} (wh : Writes wm z0 s) (we : 29030372994 ||| wm = wm) :
    Writes wm z0 (pfBar0 s off size v) := by
  refine Writes.step (g := 29030372994) ?_ we wh
  clear wh we
  have hz : Writes 29030372994 s s := Writes.refl _ _
  unfold pfBar0
  try dsimp only
  repeat' (first
    | with_reducible assumption
    | (with_reducible apply mailbox_writes; (on_goal 2 => decide))
    | (with_reducible apply msixTable_writes; (on_goal 2 => decide))
    | (with_reducible apply ringPages_writes; (on_goal 2 => decide))
    | with_reducible apply Writes.ite
    | (with_reducible apply WritesOpt.of_eq; with_reducible assumption)
    | split)

theorem vfBar0_writes {vf : Nat} {off : Nat} {size : Nat} {v : Nat} {wm : Nat} {z0 s : State} (wh : Writes wm z0 s) (we : 29029881474 |||
    wm = wm) : Writes wm z0 (vfBar0 s vf off size v) := by
  refine Writes.step (g := 29029881474) ?_ we wh
  clear wh we
  have hz : Writes 29029881474 s s := Writes.refl _ _
  unfold vfBar0
  try dsimp only
  repeat' (first
    | with_reducible assumption
    | (with_reducible apply mdBlock_writes; (on_goal 2 => decide))
    | (with_reducible apply msixTable_writes; (on_goal 2 => decide))
    | (with_reducible apply ringPages_writes; (on_goal 2 => decide))
    | with_reducible apply Writes.ite
    | (with_reducible apply WritesOpt.of_eq; with_reducible assumption)
    | split)

theorem pfBar2_writes {off : Nat} {size : Nat} {v : Nat} {wm : Nat} {z0 s : State} (wh : Writes wm z0 s) (we : 1073742336 ||| wm = wm) :
    Writes wm z0 (pfBar2 s off size v) := by
  refine Writes.step (g := 1073742336) ?_ we wh
  clear wh we
  have hz : Writes 1073742336 s s := Writes.refl _ _
  unfold pfBar2
  try dsimp only
  repeat' (first
    | with_reducible assumption
    | with_reducible apply after_writes
    | (with_reducible apply execProxyDoorbell_writes; (on_goal 2 => decide))
    | (with_reducible apply State.bumps_writes; (on_goal 2 => decide))
    | with_reducible apply Writes.ite)

theorem barWrite_writes {fn : Nat} {bar : Nat} {off : Nat} {size : Nat} {v : Nat} {wm : Nat} {z0 s : State} (wh : Writes wm z0 s) (we :
    29030405794 ||| wm = wm) : Writes wm z0 (barWrite s fn bar off size v) := by
  refine Writes.step (g := 29030405794) ?_ we wh
  clear wh we
  have hz : Writes 29030405794 s s := Writes.refl _ _
  unfold barWrite
  try dsimp only
  repeat' (first
    | with_reducible assumption
    | (with_reducible apply pfBar2_writes; (on_goal 2 => decide))
    | (with_reducible apply vfBar0_writes; (on_goal 2 => decide))
    | (with_reducible apply pfBar0_writes; (on_goal 2 => decide))
    | with_reducible apply after_writes
    | (with_reducible apply execBarAccessDropped_writes; (on_goal 2 => decide))
    | with_reducible apply Writes.ite)

theorem spaceRegWrite_writes {mid : Nat} {g : Nat} {off : Nat} {size : Nat} {v : Nat} {wm : Nat} {z0 s : State} (wh : Writes wm z0 s) (we :
    7579107362 ||| wm = wm) : Writes wm z0 (spaceRegWrite s mid g off size v) := by
  refine Writes.step (g := 7579107362) ?_ we wh
  clear wh we
  have hz : Writes 7579107362 s s := Writes.refl _ _
  unfold spaceRegWrite
  try dsimp only
  repeat' (first
    | with_reducible assumption
    | (with_reducible apply regBytes_writes; (on_goal 2 => decide))
    | (with_reducible apply guardRefused_writes; (on_goal 2 => decide))
    | with_reducible apply Writes.ite)

theorem configWrite_writes {off : Nat} {v : Nat} {wm : Nat} {z0 s : State} (wh : Writes wm z0 s) (we : 136 ||| wm = wm) : Writes wm z0
    (configWrite s off v) := by
  refine Writes.step (g := 136) ?_ we wh
  clear wh we
  have hz : Writes 136 s s := Writes.refl _ _
  unfold configWrite
  try dsimp only
  repeat' (first
    | with_reducible assumption
    | (with_reducible apply State.withLink_writes; (on_goal 2 => decide))
    | (with_reducible apply State.withClock_writes; (on_goal 2 => decide))
    | with_reducible apply Writes.ite)

theorem execRegisterWrite_writes {space : RegSpace} {off : Nat} {size : Nat} {value : BitVec 64} {wm : Nat} {z0 s : State} (wh : Writes wm
    z0 s) (we : 33350538922 ||| wm = wm) : WritesOut wm z0 (execRegisterWrite space off size value s) := by
  refine WritesOut.step (g := 33350538922) ?_ we wh
  clear wh we
  have hz : Writes 33350538922 s s := Writes.refl _ _
  unfold execRegisterWrite
  try dsimp only
  repeat' (first
    | with_reducible assumption
    | (with_reducible apply configWrite_writes; (on_goal 2 => decide))
    | (with_reducible apply spaceRegWrite_writes; (on_goal 2 => decide))
    | (with_reducible apply barWrite_writes; (on_goal 2 => decide))
    | with_reducible apply WritesOut.next
    | with_reducible apply Writes.ite
    | split)

/-! ### Card -/

theorem activate_writes {classA : Bool} {noPps : Bool} {wm : Nat} {z0 s : State} (wh : Writes wm z0 s) (we : 67108864 ||| wm = wm) : Writes
    wm z0 (activate s classA noPps) := by
  refine Writes.step (g := 67108864) ?_ we wh
  clear wh we
  have hz : Writes 67108864 s s := Writes.refl _ _
  unfold activate
  try dsimp only
  repeat' (first
    | with_reducible assumption
    | (with_reducible apply State.withTok_writes; (on_goal 2 => decide)))

theorem unsupported_writes {wm : Nat} {z0 s : State} (wh : Writes wm z0 s) (we : 1140850720 ||| wm = wm) : Writes wm z0 (unsupported s) := by
  refine Writes.step (g := 1140850720) ?_ we wh
  clear wh we
  have hz : Writes 1140850720 s s := Writes.refl _ _
  unfold unsupported
  try dsimp only
  repeat' (first
    | with_reducible assumption
    | (with_reducible apply tokGone_writes; (on_goal 2 => decide))
    | (with_reducible apply setResult_writes; (on_goal 2 => decide)))

theorem runAt_writes {fidi : Nat} {wm : Nat} {z0 s : State} (wh : Writes wm z0 s) (we : 67108864 ||| wm = wm) : Writes wm z0 (runAt s fidi) := by
  refine Writes.step (g := 67108864) ?_ we wh
  clear wh we
  have hz : Writes 67108864 s s := Writes.refl _ _
  unfold runAt
  try dsimp only
  repeat' (first
    | with_reducible assumption
    | (with_reducible apply sendTok_writes; (on_goal 2 => decide))
    | (with_reducible apply State.withTok_writes; (on_goal 2 => decide)))

theorem takeAtr_writes {classB : Bool} {t1 : Bool} {negotiable : Bool} {fidi : Nat} {clockStop : Nat} {ifsc : Nat} {bwi : Nat} {cwi : Nat}
    {crc : Bool} {wm : Nat} {z0 s : State} (wh : Writes wm z0 s) (we : 1140850720 ||| wm = wm) : Writes wm z0 (takeAtr s classB t1 negotiable fidi clockStop ifsc bwi cwi crc) := by
  refine Writes.step (g := 1140850720) ?_ we wh
  clear wh we
  have hz : Writes 1140850720 s s := Writes.refl _ _
  unfold takeAtr
  try dsimp only
  repeat' (first
    | with_reducible assumption
    | (with_reducible apply runAt_writes; (on_goal 2 => decide))
    | (with_reducible apply unsupported_writes; (on_goal 2 => decide))
    | (with_reducible apply activate_writes; (on_goal 2 => decide))
    | (with_reducible apply sendTok_writes; (on_goal 2 => decide))
    | (with_reducible apply State.withTok_writes; (on_goal 2 => decide))
    | with_reducible apply Writes.ite)

theorem takeStatus_writes {sw : Nat} {data : Bytes} {wm : Nat} {z0 s : State} (wh : Writes wm z0 s) (we : 1140850720 ||| wm = wm) : Writes
    wm z0 (takeStatus s sw data) := by
  refine Writes.step (g := 1140850720) ?_ we wh
  clear wh we
  have hz : Writes 1140850720 s s := Writes.refl _ _
  unfold takeStatus
  try dsimp only
  repeat' (first
    | with_reducible assumption
    | (with_reducible apply tokGone_writes; (on_goal 2 => decide))
    | (with_reducible apply becomeReady_writes; (on_goal 2 => decide))
    | (with_reducible apply sendTok_writes; (on_goal 2 => decide))
    | (with_reducible apply setResult_writes; (on_goal 2 => decide))
    | (with_reducible apply State.withTok_writes; (on_goal 2 => decide))
    | with_reducible apply Writes.ite
    | split)

theorem execCardInserted_writes {wm : Nat} {z0 s : State} (wh : Writes wm z0 s) (we : 67108864 ||| wm = wm) : WritesOut wm z0
    (execCardInserted s) := by
  refine WritesOut.step (g := 67108864) ?_ we wh
  clear wh we
  have hz : Writes 67108864 s s := Writes.refl _ _
  unfold execCardInserted
  try dsimp only
  repeat' (first
    | with_reducible assumption
    | (with_reducible apply activate_writes; (on_goal 2 => decide))
    | with_reducible apply WritesOut.next
    | with_reducible apply WritesOut.ite)

theorem execCardResponse_writes {reply : CardReply} {wm : Nat} {z0 s : State} (wh : Writes wm z0 s) (we : 1141440544 ||| wm = wm) :
    WritesOut wm z0 (execCardResponse reply s) := by
  refine WritesOut.step (g := 1141440544) ?_ we wh
  clear wh we
  have hz : Writes 1141440544 s s := Writes.refl _ _
  unfold execCardResponse
  try dsimp only
  repeat' (first
    | with_reducible assumption
    | (with_reducible apply takeStatus_writes; (on_goal 2 => decide))
    | (with_reducible apply takeAtr_writes; (on_goal 2 => decide))
    | (with_reducible apply runAt_writes; (on_goal 2 => decide))
    | (with_reducible apply activate_writes; (on_goal 2 => decide))
    | (with_reducible apply takeResp_writes; (on_goal 2 => decide))
    | (with_reducible apply blockFails_writes; (on_goal 2 => decide))
    | (with_reducible apply tokGone_writes; (on_goal 2 => decide))
    | (with_reducible apply sendTok_writes; (on_goal 2 => decide))
    | (with_reducible apply setResult_writes; (on_goal 2 => decide))
    | (with_reducible apply State.withTok_writes; (on_goal 2 => decide))
    | with_reducible apply WritesOut.next
    | with_reducible apply WritesOut.ite
    | with_reducible apply Writes.ite
    | split)

theorem execCardWtx_writes {secs : Nat} {wm : Nat} {z0 s : State} (wh : Writes wm z0 s) (we : 1140850720 ||| wm = wm) : WritesOut wm z0
    (execCardWtx secs s) := by
  refine WritesOut.step (g := 1140850720) ?_ we wh
  clear wh we
  have hz : Writes 1140850720 s s := Writes.refl _ _
  unfold execCardWtx
  try dsimp only
  repeat' (first
    | with_reducible assumption
    | (with_reducible apply grantWtx_writes; (on_goal 2 => decide))
    | with_reducible apply WritesOut.next
    | with_reducible apply WritesOut.ite)

theorem execClockStop_writes {wm : Nat} {z0 s : State} (wh : Writes wm z0 s) (we : 67108864 ||| wm = wm) : WritesOut wm z0 (execClockStop s) := by
  refine WritesOut.step (g := 67108864) ?_ we wh
  clear wh we
  have hz : Writes 67108864 s s := Writes.refl _ _
  unfold execClockStop
  try dsimp only
  repeat' (first
    | with_reducible assumption
    | (with_reducible apply State.withTok_writes; (on_goal 2 => decide))
    | with_reducible apply WritesOut.next
    | with_reducible apply WritesOut.ite)

theorem execCardRemoved_writes {wm : Nat} {z0 s : State} (wh : Writes wm z0 s) (we : 1140850720 ||| wm = wm) : WritesOut wm z0
    (execCardRemoved s) := by
  refine WritesOut.step (g := 1140850720) ?_ we wh
  clear wh we
  have hz : Writes 1140850720 s s := Writes.refl _ _
  unfold execCardRemoved
  try dsimp only
  repeat' (first
    | with_reducible assumption
    | (with_reducible apply tokGone_writes; (on_goal 2 => decide))
    | with_reducible apply WritesOut.next
    | with_reducible apply WritesOut.ite)

theorem execCardOvercurrent_writes {wm : Nat} {z0 s : State} (wh : Writes wm z0 s) (we : 1140850720 ||| wm = wm) : WritesOut wm z0
    (execCardOvercurrent s) := by
  refine WritesOut.step (g := 1140850720) ?_ we wh
  clear wh we
  have hz : Writes 1140850720 s s := Writes.refl _ _
  unfold execCardOvercurrent
  try dsimp only
  repeat' (first
    | with_reducible assumption
    | (with_reducible apply tokGone_writes; (on_goal 2 => decide))
    | with_reducible apply WritesOut.next
    | with_reducible apply WritesOut.ite)

theorem execBlockWaitingTimeExpiry_writes {wm : Nat} {z0 s : State} (wh : Writes wm z0 s) (we : 1140850720 ||| wm = wm) : WritesOut wm z0
    (execBlockWaitingTimeExpiry s) := by
  refine WritesOut.step (g := 1140850720) ?_ we wh
  clear wh we
  have hz : Writes 1140850720 s s := Writes.refl _ _
  unfold execBlockWaitingTimeExpiry
  try dsimp only
  repeat' (first
    | with_reducible assumption
    | (with_reducible apply activate_writes; (on_goal 2 => decide))
    | (with_reducible apply blockFails_writes; (on_goal 2 => decide))
    | (with_reducible apply tokGone_writes; (on_goal 2 => decide))
    | (with_reducible apply setResult_writes; (on_goal 2 => decide))
    | with_reducible apply WritesOut.next
    | with_reducible apply WritesOut.ite)

theorem execCardRequest_writes {sess : SessId} {req : BitVec 16} {value : Bytes} {wm : Nat} {z0 s : State} (wh : Writes wm z0 s) (we :
    1141375104 ||| wm = wm) : WritesOut wm z0 (execCardRequest sess req value s) := by
  refine WritesOut.step (g := 1141375104) ?_ we wh
  clear wh we
  have hz : Writes 1141375104 s s := Writes.refl _ _
  unfold execCardRequest
  try dsimp only
  repeat' (first
    | intro _
    | with_reducible assumption
    | (with_reducible apply requestWrite_writes; (on_goal 2 => decide))
    | (with_reducible apply onMsg_writes; (on_goal 1 => decide)))

theorem execCardMidstepClear_writes {sess : SessId} {req : BitVec 16} {value : Bytes} {wm : Nat} {z0 s : State} (wh : Writes wm z0 s) (we :
    1141375136 ||| wm = wm) : WritesOut wm z0 (execCardMidstepClear sess req value s) := by
  refine WritesOut.step (g := 1141375136) ?_ we wh
  clear wh we
  have hz : Writes 1141375136 s s := Writes.refl _ _
  unfold execCardMidstepClear
  try dsimp only
  repeat' (first
    | intro _
    | with_reducible assumption
    | (with_reducible apply resolveMidstep_writes; (on_goal 2 => decide))
    | (with_reducible apply actWrite_writes; (on_goal 1 => decide))
    | split)

/-! ### Field -/

theorem execPing_writes {amplitude : Nat} {wm : Nat} {z0 s : State} (wh : Writes wm z0 s) (we : 67108864 ||| wm = wm) : WritesOut wm z0
    (execPing amplitude s) := by
  refine WritesOut.step (g := 67108864) ?_ we wh
  clear wh we
  have hz : Writes 67108864 s s := Writes.refl _ _
  unfold execPing
  try dsimp only
  repeat' (first
    | with_reducible assumption
    | (with_reducible apply sendTok_writes; (on_goal 2 => decide))
    | (with_reducible apply State.withAppr_writes; (on_goal 2 => decide))
    | with_reducible apply WritesOut.next
    | with_reducible apply WritesOut.ite)

theorem haltBadge_writes {wm : Nat} {z0 s : State} (wh : Writes wm z0 s) (we : 67108864 ||| wm = wm) : Writes wm z0 (haltBadge s) := by
  refine Writes.step (g := 67108864) ?_ we wh
  clear wh we
  have hz : Writes 67108864 s s := Writes.refl _ _
  unfold haltBadge
  try dsimp only
  repeat' (first
    | with_reducible assumption
    | (with_reducible apply sendTok_writes; (on_goal 2 => decide))
    | (with_reducible apply State.withTok_writes; (on_goal 2 => decide)))

theorem badgeStatus_writes {sw : Nat} {data : Bytes} {wm : Nat} {z0 s : State} (wh : Writes wm z0 s) (we : 67108896 ||| wm = wm) : Writes
    wm z0 (badgeStatus s sw data) := by
  refine Writes.step (g := 67108896) ?_ we wh
  clear wh we
  have hz : Writes 67108896 s s := Writes.refl _ _
  unfold badgeStatus
  try dsimp only
  repeat' (first
    | with_reducible assumption
    | (with_reducible apply haltBadge_writes; (on_goal 2 => decide))
    | (with_reducible apply becomeReady_writes; (on_goal 2 => decide))
    | with_reducible apply Writes.ite
    | split)

theorem execBadgeResponse_writes {reply : BadgeReply} {wm : Nat} {z0 s : State} (wh : Writes wm z0 s) (we : 1141440544 ||| wm = wm) :
    WritesOut wm z0 (execBadgeResponse reply s) := by
  refine WritesOut.step (g := 1141440544) ?_ we wh
  clear wh we
  have hz : Writes 1141440544 s s := Writes.refl _ _
  unfold execBadgeResponse
  try dsimp only
  repeat' (first
    | with_reducible assumption
    | (with_reducible apply badgeStatus_writes; (on_goal 2 => decide))
    | (with_reducible apply haltBadge_writes; (on_goal 2 => decide))
    | (with_reducible apply takeResp_writes; (on_goal 2 => decide))
    | (with_reducible apply grantWtx_writes; (on_goal 2 => decide))
    | (with_reducible apply blockFails_writes; (on_goal 2 => decide))
    | (with_reducible apply sendTok_writes; (on_goal 2 => decide))
    | (with_reducible apply State.withTok_writes; (on_goal 2 => decide))
    | (with_reducible apply State.bump_writes; (on_goal 2 => decide))
    | with_reducible apply WritesOut.next
    | with_reducible apply WritesOut.ite
    | with_reducible apply Writes.ite
    | split)

theorem execFrameWaitingTimeExpiry_writes {wm : Nat} {z0 s : State} (wh : Writes wm z0 s) (we : 1140850720 ||| wm = wm) : WritesOut wm z0
    (execFrameWaitingTimeExpiry s) := by
  refine WritesOut.step (g := 1140850720) ?_ we wh
  clear wh we
  have hz : Writes 1140850720 s s := Writes.refl _ _
  unfold execFrameWaitingTimeExpiry
  try dsimp only
  repeat' (first
    | with_reducible assumption
    | (with_reducible apply blockFails_writes; (on_goal 2 => decide))
    | (with_reducible apply tokGone_writes; (on_goal 2 => decide))
    | with_reducible apply WritesOut.next
    | with_reducible apply WritesOut.ite
    | split)

theorem execBadgePresenceCheck_writes {answered : Bool} {wm : Nat} {z0 s : State} (wh : Writes wm z0 s) (we : 1140850720 ||| wm = wm) :
    WritesOut wm z0 (execBadgePresenceCheck answered s) := by
  refine WritesOut.step (g := 1140850720) ?_ we wh
  clear wh we
  have hz : Writes 1140850720 s s := Writes.refl _ _
  unfold execBadgePresenceCheck
  try dsimp only
  repeat' (first
    | with_reducible assumption
    | (with_reducible apply tokGone_writes; (on_goal 2 => decide))
    | (with_reducible apply State.withTok_writes; (on_goal 2 => decide))
    | with_reducible apply WritesOut.next
    | with_reducible apply WritesOut.ite)

theorem execExternalField_writes {wm : Nat} {z0 s : State} (wh : Writes wm z0 s) (we : 67108864 ||| wm = wm) : WritesOut wm z0
    (execExternalField s) := by
  refine WritesOut.step (g := 67108864) ?_ we wh
  clear wh we
  have hz : Writes 67108864 s s := Writes.refl _ _
  unfold execExternalField
  try dsimp only
  repeat' (first
    | with_reducible assumption
    | (with_reducible apply State.withAppr_writes; (on_goal 2 => decide))
    | with_reducible apply WritesOut.next
    | with_reducible apply WritesOut.ite)

theorem execFieldRequest_writes {sess : SessId} {req : BitVec 16} {value : Bytes} {wm : Nat} {z0 s : State} (wh : Writes wm z0 s) (we :
    1141375104 ||| wm = wm) : WritesOut wm z0 (execFieldRequest sess req value s) := by
  refine WritesOut.step (g := 1141375104) ?_ we wh
  clear wh we
  have hz : Writes 1141375104 s s := Writes.refl _ _
  unfold execFieldRequest
  try dsimp only
  repeat' (first
    | intro _
    | with_reducible assumption
    | (with_reducible apply requestWrite_writes; (on_goal 2 => decide))
    | (with_reducible apply onMsg_writes; (on_goal 1 => decide)))

end Sys2Proof.Machine
end

