-- ==== Sys2Proof/Laws/Writes10.lean ====
section
/-! SUPPORT. Which fields each operation can write (see Writes.lean), operation by operation: TagCmds, GlossView, Gloss, RngFail, VerbData. -/

set_option linter.unusedTactic false
set_option linter.unreachableTactic false
set_option linter.unusedVariables false

namespace Sys2Proof.Machine

open Sys2Proof

/-! ### TagCmds -/

theorem execTagTransactionStart_writes {wm : Nat} {z0 s : State} (wh : Writes wm z0 s) (we : 201326592 ||| wm = wm) : WritesOut wm z0
    (execTagTransactionStart s) := by
  refine WritesOut.step (g := 201326592) ?_ we wh
  clear wh we
  have hz : Writes 201326592 s s := Writes.refl _ _
  unfold execTagTransactionStart
  try dsimp only
  repeat' (first
    | with_reducible assumption
    | (with_reducible apply State.withAppr_writes; (on_goal 2 => decide))
    | (with_reducible apply refreshTag_writes; (on_goal 2 => decide))
    | (with_reducible apply tagAdd_writes; (on_goal 2 => decide))
    | (with_reducible apply State.withTag_writes; (on_goal 2 => decide))
    | with_reducible apply WritesOpt.getD
    | with_reducible apply WritesOut.next
    | with_reducible apply WritesOut.ite
    | with_reducible apply Writes.ite)

theorem tagAnswer_writes {data : Bytes} {sw : Nat} {wm : Nat} {z0 s : State} (wh : Writes wm z0 s) (we : 134217728 ||| wm = wm) : Writes wm
    z0 (tagAnswer s data sw) := by
  refine Writes.step (g := 134217728) ?_ we wh
  clear wh we
  have hz : Writes 134217728 s s := Writes.refl _ _
  unfold tagAnswer
  try dsimp only
  repeat' (first
    | with_reducible assumption
    | (with_reducible apply State.withTag_writes; (on_goal 2 => decide)))

theorem onTag_writes {f : State → State} {s z0 : State} {wm : Nat} (hm : 0 ||| wm = wm) (wh : Writes wm z0 s) (hf : ∀ y0, Writes wm z0 y0 →
    Writes wm z0 (f y0)) :
    WritesOut wm z0 (onTag s f) := by
  unfold onTag
  try dsimp only
  repeat' (first
    | with_reducible assumption
    | with_reducible apply hf
    | with_reducible apply WritesOut.next
    | with_reducible apply WritesOut.ite)

theorem execTagSelect_writes {aid : Bytes} {wm : Nat} {z0 s : State} (wh : Writes wm z0 s) (we : 134217728 ||| wm = wm) : WritesOut wm z0
    (execTagSelect aid s) := by
  refine WritesOut.step (g := 134217728) ?_ we wh
  clear wh we
  have hz : Writes 134217728 s s := Writes.refl _ _
  unfold execTagSelect
  try dsimp only
  repeat' (first
    | intro _
    | with_reducible assumption
    | (with_reducible apply onTag_writes; (on_goal 1 => decide))
    | (with_reducible apply tagAnswer_writes; (on_goal 2 => decide))
    | (with_reducible apply State.withTag_writes; (on_goal 2 => decide))
    | with_reducible apply Writes.ite)

theorem execReadBinary_writes {off : Nat} {len : Nat} {wm : Nat} {z0 s : State} (wh : Writes wm z0 s) (we : 134217728 ||| wm = wm) :
    WritesOut wm z0 (execReadBinary off len s) := by
  refine WritesOut.step (g := 134217728) ?_ we wh
  clear wh we
  have hz : Writes 134217728 s s := Writes.refl _ _
  unfold execReadBinary
  try dsimp only
  repeat' (first
    | intro _
    | with_reducible assumption
    | (with_reducible apply onTag_writes; (on_goal 1 => decide))
    | (with_reducible apply tagAnswer_writes; (on_goal 2 => decide))
    | with_reducible apply Writes.ite)

theorem execUpdateBinary_writes {off : Nat} {data : Bytes} {wm : Nat} {z0 s : State} (wh : Writes wm z0 s) (we : 134217728 ||| wm = wm) :
    WritesOut wm z0 (execUpdateBinary off data s) := by
  refine WritesOut.step (g := 134217728) ?_ we wh
  clear wh we
  have hz : Writes 134217728 s s := Writes.refl _ _
  unfold execUpdateBinary
  try dsimp only
  repeat' (first
    | intro _
    | with_reducible assumption
    | (with_reducible apply onTag_writes; (on_goal 1 => decide))
    | (with_reducible apply tagAnswer_writes; (on_goal 2 => decide))
    | (with_reducible apply State.withTag_writes; (on_goal 2 => decide))
    | with_reducible apply Writes.ite)

theorem execIncrement_writes {ctr : Nat} {data : Bytes} {torn : Bool} {wm : Nat} {z0 s : State} (wh : Writes wm z0 s) (we : 134217730 |||
    wm = wm) : WritesOut wm z0 (execIncrement ctr data torn s) := by
  refine WritesOut.step (g := 134217730) ?_ we wh
  clear wh we
  have hz : Writes 134217730 s s := Writes.refl _ _
  unfold execIncrement
  try dsimp only
  repeat' (first
    | intro _
    | with_reducible assumption
    | (with_reducible apply onTag_writes; (on_goal 1 => decide))
    | (with_reducible apply tagAnswer_writes; (on_goal 2 => decide))
    | (with_reducible apply tagTear_writes; (on_goal 2 => decide))
    | (with_reducible apply tagAdd_writes; (on_goal 2 => decide))
    | (with_reducible apply State.withTag_writes; (on_goal 2 => decide))
    | with_reducible apply Writes.ite
    | (with_reducible apply WritesOpt.of_eq; with_reducible assumption)
    | split)

theorem tagRead_writes {x : SessId} {req : BitVec 16} {off : Nat} {len : Nat} {wm : Nat} {z0 s : State} (wh : Writes wm z0 s) (we :
    1074266240 ||| wm = wm) : Writes wm z0 (tagRead s x req off len) := by
  refine Writes.step (g := 1074266240) ?_ we wh
  clear wh we
  have hz : Writes 1074266240 s s := Writes.refl _ _
  unfold tagRead
  try dsimp only
  repeat' (first
    | with_reducible assumption
    | (with_reducible apply countRefusal_writes; (on_goal 2 => decide))
    | (with_reducible apply replyRead_writes; (on_goal 2 => decide))
    | (with_reducible apply replyStatus_writes; (on_goal 2 => decide))
    | with_reducible apply Writes.ite)

theorem tagWrite_writes {x : SessId} {req : BitVec 16} {v : Bytes} {wm : Nat} {z0 s : State} (wh : Writes wm z0 s) (we : 1208483968 ||| wm
    = wm) : Writes wm z0 (tagWrite s x req v) := by
  refine Writes.step (g := 1208483968) ?_ we wh
  clear wh we
  have hz : Writes 1208483968 s s := Writes.refl _ _
  unfold tagWrite
  try dsimp only
  repeat' (first
    | with_reducible assumption
    | (with_reducible apply State.withTag_writes; (on_goal 2 => decide))
    | (with_reducible apply countRefusal_writes; (on_goal 2 => decide))
    | (with_reducible apply replyStatus_writes; (on_goal 2 => decide))
    | (with_reducible apply State.withMgmt_writes; (on_goal 2 => decide))
    | with_reducible apply Writes.ite)

theorem tagHostAdd_writes {x : SessId} {req : BitVec 16} {v : Bytes} {wm : Nat} {z0 s : State} (wh : Writes wm z0 s) (we : 1208483968 |||
    wm = wm) : Writes wm z0 (tagHostAdd s x req v) := by
  refine Writes.step (g := 1208483968) ?_ we wh
  clear wh we
  have hz : Writes 1208483968 s s := Writes.refl _ _
  unfold tagHostAdd
  try dsimp only
  repeat' (first
    | with_reducible assumption
    | (with_reducible apply tagAdd_writes; (on_goal 2 => decide))
    | (with_reducible apply countRefusal_writes; (on_goal 2 => decide))
    | (with_reducible apply replyStatus_writes; (on_goal 2 => decide))
    | with_reducible apply Writes.ite
    | (with_reducible apply WritesOpt.of_eq; with_reducible assumption)
    | split)

theorem tagAccess_writes {w : TagWait} {wm : Nat} {z0 s : State} (wh : Writes wm z0 s) (we : 1208483968 ||| wm = wm) : Writes wm z0
    (tagAccess s w) := by
  refine Writes.step (g := 1208483968) ?_ we wh
  clear wh we
  have hz : Writes 1208483968 s s := Writes.refl _ _
  unfold tagAccess
  try dsimp only
  repeat' (first
    | with_reducible assumption
    | (with_reducible apply tagHostAdd_writes; (on_goal 2 => decide))
    | (with_reducible apply tagWrite_writes; (on_goal 2 => decide))
    | (with_reducible apply tagRead_writes; (on_goal 2 => decide))
    | with_reducible apply Writes.ite
    | split)

theorem tagHost_writes {w : TagWait} {wm : Nat} {z0 s : State} (wh : Writes wm z0 s) (we : 1208483968 ||| wm = wm) : Writes wm z0 (tagHost s w) := by
  refine Writes.step (g := 1208483968) ?_ we wh
  clear wh we
  have hz : Writes 1208483968 s s := Writes.refl _ _
  unfold tagHost
  try dsimp only
  repeat' (first
    | with_reducible assumption
    | (with_reducible apply tagAccess_writes; (on_goal 2 => decide))
    | (with_reducible apply State.withTag_writes; (on_goal 2 => decide))
    | with_reducible apply Writes.ite)

theorem execTagMemBlock_writes {sess : SessId} {req : BitVec 16} {data : Option Bytes} {wm : Nat} {z0 s : State} (wh : Writes wm z0 s) (we
    : 1208483968 ||| wm = wm) : WritesOut wm z0 (execTagMemBlock sess req data s) := by
  refine WritesOut.step (g := 1208483968) ?_ we wh
  clear wh we
  have hz : Writes 1208483968 s s := Writes.refl _ _
  unfold execTagMemBlock
  try dsimp only
  repeat' (first
    | intro _
    | with_reducible assumption
    | (with_reducible apply tagHost_writes; (on_goal 2 => decide))
    | (with_reducible apply onMsg_writes; (on_goal 1 => decide)))

theorem execTagCounterAdd_writes {sess : SessId} {req : BitVec 16} {value : Bytes} {wm : Nat} {z0 s : State} (wh : Writes wm z0 s) (we :
    1208483968 ||| wm = wm) : WritesOut wm z0 (execTagCounterAdd sess req value s) := by
  refine WritesOut.step (g := 1208483968) ?_ we wh
  clear wh we
  have hz : Writes 1208483968 s s := Writes.refl _ _
  unfold execTagCounterAdd
  try dsimp only
  repeat' (first
    | intro _
    | with_reducible assumption
    | (with_reducible apply tagHost_writes; (on_goal 2 => decide))
    | (with_reducible apply onMsg_writes; (on_goal 1 => decide)))

theorem execTagHostTimeout_writes {wm : Nat} {z0 s : State} (wh : Writes wm z0 s) (we : 1208483968 ||| wm = wm) : WritesOut wm z0
    (execTagHostTimeout s) := by
  refine WritesOut.step (g := 1208483968) ?_ we wh
  clear wh we
  have hz : Writes 1208483968 s s := Writes.refl _ _
  unfold execTagHostTimeout
  try dsimp only
  repeat' (first
    | with_reducible assumption
    | (with_reducible apply State.withTag_writes; (on_goal 2 => decide))
    | (with_reducible apply replyStatus_writes; (on_goal 2 => decide))
    | (with_reducible apply State.bump_writes; (on_goal 2 => decide))
    | with_reducible apply WritesOut.next
    | with_reducible apply WritesOut.ite
    | split)

theorem endTxn_writes {wm : Nat} {z0 s : State} (wh : Writes wm z0 s) (we : 1208483968 ||| wm = wm) : Writes wm z0 (endTxn s) := by
  refine Writes.step (g := 1208483968) ?_ we wh
  clear wh we
  have hz : Writes 1208483968 s s := Writes.refl _ _
  unfold endTxn
  try dsimp only
  repeat' (first
    | intro _
    | with_reducible assumption
    | (with_reducible apply tagAccess_writes; (on_goal 2 => decide))
    | (with_reducible apply refreshTag_writes; (on_goal 2 => decide))
    | (with_reducible apply State.withTag_writes; (on_goal 2 => decide))
    | with_reducible apply Writes.ite
    | with_reducible apply Writes.foldl)

theorem execTagTransactionEnd_writes {wm : Nat} {z0 s : State} (wh : Writes wm z0 s) (we : 1208483968 ||| wm = wm) : WritesOut wm z0
    (execTagTransactionEnd s) := by
  refine WritesOut.step (g := 1208483968) ?_ we wh
  clear wh we
  have hz : Writes 1208483968 s s := Writes.refl _ _
  unfold execTagTransactionEnd
  try dsimp only
  repeat' (first
    | intro _
    | with_reducible assumption
    | (with_reducible apply endTxn_writes; (on_goal 2 => decide))
    | (with_reducible apply onTag_writes; (on_goal 1 => decide)))

theorem execExternalFieldGone_writes {wm : Nat} {z0 s : State} (wh : Writes wm z0 s) (we : 1275592832 ||| wm = wm) : WritesOut wm z0
    (execExternalFieldGone s) := by
  refine WritesOut.step (g := 1275592832) ?_ we wh
  clear wh we
  have hz : Writes 1275592832 s s := Writes.refl _ _
  unfold execExternalFieldGone
  try dsimp only
  repeat' (first
    | with_reducible assumption
    | (with_reducible apply endTxn_writes; (on_goal 2 => decide))
    | (with_reducible apply State.withAppr_writes; (on_goal 2 => decide))
    | (with_reducible apply State.withTag_writes; (on_goal 2 => decide))
    | with_reducible apply WritesOut.next
    | with_reducible apply Writes.ite)

theorem execTagTransactionTimeout_writes {wm : Nat} {z0 s : State} (wh : Writes wm z0 s) (we : 1208483968 ||| wm = wm) : WritesOut wm z0
    (execTagTransactionTimeout s) := by
  refine WritesOut.step (g := 1208483968) ?_ we wh
  clear wh we
  have hz : Writes 1208483968 s s := Writes.refl _ _
  unfold execTagTransactionTimeout
  try dsimp only
  repeat' (first
    | with_reducible assumption
    | (with_reducible apply endTxn_writes; (on_goal 2 => decide))
    | (with_reducible apply State.withTag_writes; (on_goal 2 => decide))
    | with_reducible apply WritesOut.next
    | with_reducible apply WritesOut.ite
    | split)

/-! ### GlossView -/

theorem shownJobs_writes {wm : Nat} {z0 s : State} (wh : Writes wm z0 s) (we : 1024 ||| wm = wm) : Writes wm z0 (shownJobs s) := by
  refine Writes.step (g := 1024) ?_ we wh
  clear wh we
  have hz : Writes 1024 s s := Writes.refl _ _
  unfold shownJobs
  try dsimp only
  repeat' (first
    | with_reducible assumption
    | with_reducible apply Writes.ite
    | (with_reducible refine Writes.upd_jobs ?_ ?_; (on_goal 2 => decide); with_reducible assumption))

/-! ### Gloss -/

theorem execRead_writes {sess : SessId} {req : BitVec 16} {index : Nat} {sub : Nat} {off : Nat} {len : Nat} {wm : Nat} {z0 s : State} (wh :
    Writes wm z0 s) (we : 1208483970 ||| wm = wm) : WritesOut wm z0 (execRead sess req index sub off len s) := by
  refine WritesOut.step (g := 1208483970) ?_ we wh
  clear wh we
  have hz : Writes 1208483970 s s := Writes.refl _ _
  unfold execRead
  try dsimp only
  repeat' (first
    | intro _
    | with_reducible assumption
    | (with_reducible apply tagHost_writes; (on_goal 2 => decide))
    | (with_reducible apply countRefusal_writes; (on_goal 2 => decide))
    | (with_reducible apply replyRead_writes; (on_goal 2 => decide))
    | (with_reducible apply onMsg_writes; (on_goal 1 => decide))
    | (with_reducible apply replyStatus_writes; (on_goal 2 => decide))
    | with_reducible apply Writes.ite
    | (with_reducible refine Writes.upd_free ?_ ?_; (on_goal 2 => decide); first | with_reducible assumption | split))

theorem wrote_writes {x : SessId} {req : BitVec 16} {st : Nat} {wm : Nat} {z0 s : State} (wh : Writes wm z0 s) (we : 524416 ||| wm = wm) :
    Writes wm z0 (wrote s x req st) := by
  refine Writes.step (g := 524416) ?_ we wh
  clear wh we
  have hz : Writes 524416 s s := Writes.refl _ _
  unfold wrote
  try dsimp only
  repeat' (first
    | with_reducible assumption
    | (with_reducible apply replyStatus_writes; (on_goal 2 => decide)))

theorem writeRwp_writes {x : SessId} {req : BitVec 16} {r : GRow} {v : Bytes} {wm : Nat} {z0 s : State} (wh : Writes wm z0 s) (we :
    1074266240 ||| wm = wm) : Writes wm z0 (writeRwp s x req r v) := by
  refine Writes.step (g := 1074266240) ?_ we wh
  clear wh we
  have hz : Writes 1074266240 s s := Writes.refl _ _
  unfold writeRwp
  try dsimp only
  repeat' (first
    | (with_reducible apply wrote_writes; (on_goal 2 => decide))
    | (with_reducible apply State.withMgmt_writes; (on_goal 2 => decide))
    | (with_reducible refine Writes.upd_gls ?_ ?_; (on_goal 2 => decide); with_reducible assumption))

theorem writeCred_writes {x : SessId} {req : BitVec 16} {r : GRow} {v : Bytes} {wm : Nat} {z0 s : State} (wh : Writes wm z0 s) (we :
    67633314 ||| wm = wm) : Writes wm z0 (writeCred s x req r v) := by
  refine Writes.step (g := 67633314) ?_ we wh
  clear wh we
  have hz : Writes 67633314 s s := Writes.refl _ _
  unfold writeCred
  try dsimp only
  repeat' (first
    | with_reducible assumption
    | (with_reducible apply wrote_writes; (on_goal 2 => decide))
    | (with_reducible apply setCreds_writes; (on_goal 2 => decide))
    | with_reducible apply Writes.ite)

theorem writeDraft_writes {x : SessId} {r : GRow} {v : Bytes} {wm : Nat} {z0 s : State} (wh : Writes wm z0 s) (we : 524288 ||| wm = wm) :
    Writes wm z0 (writeDraft s x r v) := by
  refine Writes.step (g := 524288) ?_ we wh
  clear wh we
  have hz : Writes 524288 s s := Writes.refl _ _
  unfold writeDraft
  try dsimp only
  repeat' (first
    | with_reducible assumption
    | (with_reducible apply State.withSess_writes; (on_goal 2 => decide)))

theorem cancelGuard_writes {g : Nat} {wm : Nat} {z0 s : State} (wh : Writes wm z0 s) (we : 1074331680 ||| wm = wm) : Writes wm z0
    (cancelGuard s g) := by
  refine Writes.step (g := 1074331680) ?_ we wh
  clear wh we
  have hz : Writes 1074331680 s s := Writes.refl _ _
  unfold cancelGuard
  try dsimp only
  repeat' (first
    | intro _
    | with_reducible assumption
    | (with_reducible apply freeSet_writes; (on_goal 2 => decide))
    | with_reducible apply Writes.foldl)

theorem writeStage_writes {x : SessId} {req : BitVec 16} {r : GRow} {v : Bytes} {wm : Nat} {z0 s : State} (wh : Writes wm z0 s) (we :
    1074331808 ||| wm = wm) : Writes wm z0 (writeStage s x req r v) := by
  refine Writes.step (g := 1074331808) ?_ we wh
  clear wh we
  have hz : Writes 1074331808 s s := Writes.refl _ _
  unfold writeStage
  try dsimp only
  repeat' (first
    | with_reducible assumption
    | (with_reducible apply cancelGuard_writes; (on_goal 2 => decide))
    | (with_reducible apply writeDraft_writes; (on_goal 2 => decide))
    | (with_reducible apply wrote_writes; (on_goal 2 => decide))
    | (with_reducible apply stageSlot_writes; (on_goal 2 => decide))
    | (with_reducible apply State.bump_writes; (on_goal 2 => decide))
    | with_reducible apply Writes.ite)

theorem startKat_writes {wm : Nat} {z0 s : State} (wh : Writes wm z0 s) (we : 1073741824 ||| wm = wm) : Writes wm z0 (startKat s) := by
  refine Writes.step (g := 1073741824) ?_ we wh
  clear wh we
  have hz : Writes 1073741824 s s := Writes.refl _ _
  unfold startKat
  try dsimp only
  repeat' (first
    | with_reducible assumption
    | (with_reducible apply State.gset_writes; (on_goal 2 => decide)))

theorem writeSelftest_writes {wm : Nat} {z0 s : State} (wh : Writes wm z0 s) (we : 1073758210 ||| wm = wm) : Writes wm z0 (writeSelftest s) := by
  refine Writes.step (g := 1073758210) ?_ we wh
  clear wh we
  have hz : Writes 1073758210 s s := Writes.refl _ _
  unfold writeSelftest
  try dsimp only
  repeat' (first
    | with_reducible assumption
    | (with_reducible apply startSelftest_writes; (on_goal 2 => decide))
    | (with_reducible apply State.drawNat_writes; (on_goal 2 => decide))
    | split
    | with_reducible apply WritesSnd.snd)

theorem writeEntry22_writes {x : SessId} {req : BitVec 16} {key : Nat} {v : Bytes} {wm : Nat} {z0 s : State} (wh : Writes wm z0 s) (we :
    1141457058 ||| wm = wm) : Writes wm z0 (writeEntry22 s x req key v) := by
  refine Writes.step (g := 1141457058) ?_ we wh
  clear wh we
  have hz : Writes 1141457058 s s := Writes.refl _ _
  unfold writeEntry22
  try dsimp only
  repeat' (first
    | with_reducible assumption
    | (with_reducible apply writeSelftest_writes; (on_goal 2 => decide))
    | (with_reducible apply startKat_writes; (on_goal 2 => decide))
    | (with_reducible apply writeStage_writes; (on_goal 2 => decide))
    | (with_reducible apply writeDraft_writes; (on_goal 2 => decide))
    | (with_reducible apply writeCred_writes; (on_goal 2 => decide))
    | (with_reducible apply writeRwp_writes; (on_goal 2 => decide))
    | (with_reducible apply wrote_writes; (on_goal 2 => decide))
    | (with_reducible apply countRefusal_writes; (on_goal 2 => decide))
    | (with_reducible apply State.withSess_writes; (on_goal 2 => decide))
    | with_reducible apply Writes.ite
    | split)

theorem execWrite_writes {sess : SessId} {req : BitVec 16} {index : Nat} {sub : Nat} {value : Bytes} {wm : Nat} {z0 s : State} (wh : Writes
    wm z0 s) (we : 3460941046 ||| wm = wm) : WritesOut wm z0 (execWrite sess req index sub value s) := by
  refine WritesOut.step (g := 3460941046) ?_ we wh
  clear wh we
  have hz : Writes 3460941046 s s := Writes.refl _ _
  unfold execWrite
  try dsimp only
  repeat' (first
    | intro _
    | with_reducible assumption
    | (with_reducible apply writeEntry22_writes; (on_goal 2 => decide))
    | (with_reducible apply execTagCounterAdd_writes; (on_goal 2 => decide))
    | (with_reducible apply execTagMemBlock_writes; (on_goal 2 => decide))
    | (with_reducible apply execFieldRequest_writes; (on_goal 2 => decide))
    | (with_reducible apply execCardMidstepClear_writes; (on_goal 2 => decide))
    | (with_reducible apply execCardRequest_writes; (on_goal 2 => decide))
    | (with_reducible apply execAlertAck_writes; (on_goal 2 => decide))
    | (with_reducible apply execServiceEnd_writes; (on_goal 2 => decide))
    | (with_reducible apply execModeTarget_writes; (on_goal 2 => decide))
    | (with_reducible apply onMsg_writes; (on_goal 1 => decide))
    | split)

/-! ### RngFail -/

theorem retireChan_writes {c : Nat} {test : Nat} {wm : Nat} {z0 s : State} (wh : Writes wm z0 s) (we : 3262141600 ||| wm = wm) : Writes wm
    z0 (retireChan s c test) := by
  refine Writes.step (g := 3262141600) ?_ we wh
  clear wh we
  have hz : Writes 3262141600 s s := Writes.refl _ _
  unfold retireChan
  try dsimp only
  repeat' (first
    | with_reducible assumption
    | (with_reducible apply failStalled_writes; (on_goal 2 => decide))
    | (with_reducible apply retire_writes; (on_goal 2 => decide)))

theorem execRngRetired_writes {chan : Nat} {test : Nat} {wm : Nat} {z0 s : State} (wh : Writes wm z0 s) (we : 3262141600 ||| wm = wm) :
    WritesOut wm z0 (execRngRetired chan test s) := by
  refine WritesOut.step (g := 3262141600) ?_ we wh
  clear wh we
  have hz : Writes 3262141600 s s := Writes.refl _ _
  unfold execRngRetired
  try dsimp only
  repeat' (first
    | with_reducible assumption
    | (with_reducible apply retireChan_writes; (on_goal 2 => decide))
    | with_reducible apply WritesOut.next
    | with_reducible apply WritesOut.ite)

theorem execStartTimeout_writes {chan : Nat} {wm : Nat} {z0 s : State} (wh : Writes wm z0 s) (we : 3262141600 ||| wm = wm) : WritesOut wm
    z0 (execStartTimeout chan s) := by
  refine WritesOut.step (g := 3262141600) ?_ we wh
  clear wh we
  have hz : Writes 3262141600 s s := Writes.refl _ _
  unfold execStartTimeout
  try dsimp only
  repeat' (first
    | with_reducible assumption
    | (with_reducible apply retireChan_writes; (on_goal 2 => decide))
    | with_reducible apply WritesOut.next
    | with_reducible apply WritesOut.ite)

theorem execRngKatRun_writes {which : Nat} {failed : List Nat} {wm : Nat} {z0 s : State} (wh : Writes wm z0 s) (we : 3262141600 ||| wm =
    wm) : WritesOut wm z0 (execRngKatRun which failed s) := by
  refine WritesOut.step (g := 3262141600) ?_ we wh
  clear wh we
  have hz : Writes 3262141600 s s := Writes.refl _ _
  unfold execRngKatRun
  try dsimp only
  repeat' (first
    | intro _
    | with_reducible assumption
    | (with_reducible apply retireChan_writes; (on_goal 2 => decide))
    | (with_reducible apply State.withExp_writes; (on_goal 2 => decide))
    | (with_reducible apply State.gset_writes; (on_goal 2 => decide))
    | with_reducible apply WritesOut.next
    | with_reducible apply WritesOut.ite
    | with_reducible apply Writes.foldl)

/-! ### VerbData -/

theorem dataOp_writes {u : Nat} {dd : Fin 8} {ds : Fin 8} {f : BitVec 32 → BitVec 32 → BitVec 32 → Option (BitVec 32) × Fl} {wm : Nat} {z0
    s : State} (wh : Writes wm z0 s) (we : 3260044448 ||| wm = wm) : Writes wm z0 (dataOp s u dd ds f) := by
  refine Writes.step (g := 3260044448) ?_ we wh
  clear wh we
  have hz : Writes 3260044448 s s := Writes.refl _ _
  unfold dataOp
  try dsimp only
  repeat' (first
    | intro _
    | with_reducible assumption
    | (with_reducible apply onRegs_writes; (on_goal 2 => decide))
    | (with_reducible apply runVerb_writes; (on_goal 1 => decide)))

theorem execMov_writes {u : Nat} {dd : Fin 8} {ds : Fin 8} {wm : Nat} {z0 s : State} (wh : Writes wm z0 s) (we : 3260044448 ||| wm = wm) :
    WritesOut wm z0 (execMov u dd ds s) := by
  refine WritesOut.step (g := 3260044448) ?_ we wh
  clear wh we
  have hz : Writes 3260044448 s s := Writes.refl _ _
  unfold execMov
  try dsimp only
  repeat' (first
    | with_reducible assumption
    | (with_reducible apply dataOp_writes; (on_goal 2 => decide))
    | with_reducible apply WritesOut.next)

theorem execAdd_writes {u : Nat} {dd : Fin 8} {ds : Fin 8} {wm : Nat} {z0 s : State} (wh : Writes wm z0 s) (we : 3260044448 ||| wm = wm) :
    WritesOut wm z0 (execAdd u dd ds s) := by
  refine WritesOut.step (g := 3260044448) ?_ we wh
  clear wh we
  have hz : Writes 3260044448 s s := Writes.refl _ _
  unfold execAdd
  try dsimp only
  repeat' (first
    | with_reducible assumption
    | (with_reducible apply dataOp_writes; (on_goal 2 => decide))
    | with_reducible apply WritesOut.next)

theorem execAdc_writes {u : Nat} {dd : Fin 8} {ds : Fin 8} {wm : Nat} {z0 s : State} (wh : Writes wm z0 s) (we : 3260044448 ||| wm = wm) :
    WritesOut wm z0 (execAdc u dd ds s) := by
  refine WritesOut.step (g := 3260044448) ?_ we wh
  clear wh we
  have hz : Writes 3260044448 s s := Writes.refl _ _
  unfold execAdc
  try dsimp only
  repeat' (first
    | with_reducible assumption
    | (with_reducible apply dataOp_writes; (on_goal 2 => decide))
    | with_reducible apply WritesOut.next)

theorem execSub_writes {u : Nat} {dd : Fin 8} {ds : Fin 8} {wm : Nat} {z0 s : State} (wh : Writes wm z0 s) (we : 3260044448 ||| wm = wm) :
    WritesOut wm z0 (execSub u dd ds s) := by
  refine WritesOut.step (g := 3260044448) ?_ we wh
  clear wh we
  have hz : Writes 3260044448 s s := Writes.refl _ _
  unfold execSub
  try dsimp only
  repeat' (first
    | with_reducible assumption
    | (with_reducible apply dataOp_writes; (on_goal 2 => decide))
    | with_reducible apply WritesOut.next)

theorem execSbc_writes {u : Nat} {dd : Fin 8} {ds : Fin 8} {wm : Nat} {z0 s : State} (wh : Writes wm z0 s) (we : 3260044448 ||| wm = wm) :
    WritesOut wm z0 (execSbc u dd ds s) := by
  refine WritesOut.step (g := 3260044448) ?_ we wh
  clear wh we
  have hz : Writes 3260044448 s s := Writes.refl _ _
  unfold execSbc
  try dsimp only
  repeat' (first
    | with_reducible assumption
    | (with_reducible apply dataOp_writes; (on_goal 2 => decide))
    | with_reducible apply WritesOut.next)

theorem execCmp_writes {u : Nat} {dd : Fin 8} {ds : Fin 8} {wm : Nat} {z0 s : State} (wh : Writes wm z0 s) (we : 3260044448 ||| wm = wm) :
    WritesOut wm z0 (execCmp u dd ds s) := by
  refine WritesOut.step (g := 3260044448) ?_ we wh
  clear wh we
  have hz : Writes 3260044448 s s := Writes.refl _ _
  unfold execCmp
  try dsimp only
  repeat' (first
    | with_reducible assumption
    | (with_reducible apply dataOp_writes; (on_goal 2 => decide))
    | with_reducible apply WritesOut.next)

theorem execAnd_writes {u : Nat} {dd : Fin 8} {ds : Fin 8} {wm : Nat} {z0 s : State} (wh : Writes wm z0 s) (we : 3260044448 ||| wm = wm) :
    WritesOut wm z0 (execAnd u dd ds s) := by
  refine WritesOut.step (g := 3260044448) ?_ we wh
  clear wh we
  have hz : Writes 3260044448 s s := Writes.refl _ _
  unfold execAnd
  try dsimp only
  repeat' (first
    | with_reducible assumption
    | (with_reducible apply dataOp_writes; (on_goal 2 => decide))
    | with_reducible apply WritesOut.next)

theorem execOr_writes {u : Nat} {dd : Fin 8} {ds : Fin 8} {wm : Nat} {z0 s : State} (wh : Writes wm z0 s) (we : 3260044448 ||| wm = wm) :
    WritesOut wm z0 (execOr u dd ds s) := by
  refine WritesOut.step (g := 3260044448) ?_ we wh
  clear wh we
  have hz : Writes 3260044448 s s := Writes.refl _ _
  unfold execOr
  try dsimp only
  repeat' (first
    | with_reducible assumption
    | (with_reducible apply dataOp_writes; (on_goal 2 => decide))
    | with_reducible apply WritesOut.next)

theorem execXor_writes {u : Nat} {dd : Fin 8} {ds : Fin 8} {wm : Nat} {z0 s : State} (wh : Writes wm z0 s) (we : 3260044448 ||| wm = wm) :
    WritesOut wm z0 (execXor u dd ds s) := by
  refine WritesOut.step (g := 3260044448) ?_ we wh
  clear wh we
  have hz : Writes 3260044448 s s := Writes.refl _ _
  unfold execXor
  try dsimp only
  repeat' (first
    | with_reducible assumption
    | (with_reducible apply dataOp_writes; (on_goal 2 => decide))
    | with_reducible apply WritesOut.next)

theorem execAndn_writes {u : Nat} {dd : Fin 8} {ds : Fin 8} {wm : Nat} {z0 s : State} (wh : Writes wm z0 s) (we : 3260044448 ||| wm = wm) :
    WritesOut wm z0 (execAndn u dd ds s) := by
  refine WritesOut.step (g := 3260044448) ?_ we wh
  clear wh we
  have hz : Writes 3260044448 s s := Writes.refl _ _
  unfold execAndn
  try dsimp only
  repeat' (first
    | with_reducible assumption
    | (with_reducible apply dataOp_writes; (on_goal 2 => decide))
    | with_reducible apply WritesOut.next)

theorem execTst_writes {u : Nat} {dd : Fin 8} {ds : Fin 8} {wm : Nat} {z0 s : State} (wh : Writes wm z0 s) (we : 3260044448 ||| wm = wm) :
    WritesOut wm z0 (execTst u dd ds s) := by
  refine WritesOut.step (g := 3260044448) ?_ we wh
  clear wh we
  have hz : Writes 3260044448 s s := Writes.refl _ _
  unfold execTst
  try dsimp only
  repeat' (first
    | with_reducible assumption
    | (with_reducible apply dataOp_writes; (on_goal 2 => decide))
    | with_reducible apply WritesOut.next)

theorem execNeg_writes {u : Nat} {dd : Fin 8} {ds : Fin 8} {wm : Nat} {z0 s : State} (wh : Writes wm z0 s) (we : 3260044448 ||| wm = wm) :
    WritesOut wm z0 (execNeg u dd ds s) := by
  refine WritesOut.step (g := 3260044448) ?_ we wh
  clear wh we
  have hz : Writes 3260044448 s s := Writes.refl _ _
  unfold execNeg
  try dsimp only
  repeat' (first
    | with_reducible assumption
    | (with_reducible apply dataOp_writes; (on_goal 2 => decide))
    | with_reducible apply WritesOut.next)

theorem execNot_writes {u : Nat} {dd : Fin 8} {ds : Fin 8} {wm : Nat} {z0 s : State} (wh : Writes wm z0 s) (we : 3260044448 ||| wm = wm) :
    WritesOut wm z0 (execNot u dd ds s) := by
  refine WritesOut.step (g := 3260044448) ?_ we wh
  clear wh we
  have hz : Writes 3260044448 s s := Writes.refl _ _
  unfold execNot
  try dsimp only
  repeat' (first
    | with_reducible assumption
    | (with_reducible apply dataOp_writes; (on_goal 2 => decide))
    | with_reducible apply WritesOut.next)

theorem execShl_writes {u : Nat} {dd : Fin 8} {ds : Fin 8} {wm : Nat} {z0 s : State} (wh : Writes wm z0 s) (we : 3260044448 ||| wm = wm) :
    WritesOut wm z0 (execShl u dd ds s) := by
  refine WritesOut.step (g := 3260044448) ?_ we wh
  clear wh we
  have hz : Writes 3260044448 s s := Writes.refl _ _
  unfold execShl
  try dsimp only
  repeat' (first
    | with_reducible assumption
    | (with_reducible apply dataOp_writes; (on_goal 2 => decide))
    | with_reducible apply WritesOut.next)

theorem execShr_writes {u : Nat} {dd : Fin 8} {ds : Fin 8} {wm : Nat} {z0 s : State} (wh : Writes wm z0 s) (we : 3260044448 ||| wm = wm) :
    WritesOut wm z0 (execShr u dd ds s) := by
  refine WritesOut.step (g := 3260044448) ?_ we wh
  clear wh we
  have hz : Writes 3260044448 s s := Writes.refl _ _
  unfold execShr
  try dsimp only
  repeat' (first
    | with_reducible assumption
    | (with_reducible apply dataOp_writes; (on_goal 2 => decide))
    | with_reducible apply WritesOut.next)

theorem execSar_writes {u : Nat} {dd : Fin 8} {ds : Fin 8} {wm : Nat} {z0 s : State} (wh : Writes wm z0 s) (we : 3260044448 ||| wm = wm) :
    WritesOut wm z0 (execSar u dd ds s) := by
  refine WritesOut.step (g := 3260044448) ?_ we wh
  clear wh we
  have hz : Writes 3260044448 s s := Writes.refl _ _
  unfold execSar
  try dsimp only
  repeat' (first
    | with_reducible assumption
    | (with_reducible apply dataOp_writes; (on_goal 2 => decide))
    | with_reducible apply WritesOut.next)

theorem execRor_writes {u : Nat} {dd : Fin 8} {ds : Fin 8} {wm : Nat} {z0 s : State} (wh : Writes wm z0 s) (we : 3260044448 ||| wm = wm) :
    WritesOut wm z0 (execRor u dd ds s) := by
  refine WritesOut.step (g := 3260044448) ?_ we wh
  clear wh we
  have hz : Writes 3260044448 s s := Writes.refl _ _
  unfold execRor
  try dsimp only
  repeat' (first
    | with_reducible assumption
    | (with_reducible apply dataOp_writes; (on_goal 2 => decide))
    | with_reducible apply WritesOut.next)

theorem execMul_writes {u : Nat} {dd : Fin 8} {ds : Fin 8} {wm : Nat} {z0 s : State} (wh : Writes wm z0 s) (we : 3260044448 ||| wm = wm) :
    WritesOut wm z0 (execMul u dd ds s) := by
  refine WritesOut.step (g := 3260044448) ?_ we wh
  clear wh we
  have hz : Writes 3260044448 s s := Writes.refl _ _
  unfold execMul
  try dsimp only
  repeat' (first
    | with_reducible assumption
    | (with_reducible apply dataOp_writes; (on_goal 2 => decide))
    | with_reducible apply WritesOut.next)

theorem execMulhu_writes {u : Nat} {dd : Fin 8} {ds : Fin 8} {wm : Nat} {z0 s : State} (wh : Writes wm z0 s) (we : 3260044448 ||| wm = wm)
    : WritesOut wm z0 (execMulhu u dd ds s) := by
  refine WritesOut.step (g := 3260044448) ?_ we wh
  clear wh we
  have hz : Writes 3260044448 s s := Writes.refl _ _
  unfold execMulhu
  try dsimp only
  repeat' (first
    | with_reducible assumption
    | (with_reducible apply dataOp_writes; (on_goal 2 => decide))
    | with_reducible apply WritesOut.next)

theorem execMulhs_writes {u : Nat} {dd : Fin 8} {ds : Fin 8} {wm : Nat} {z0 s : State} (wh : Writes wm z0 s) (we : 3260044448 ||| wm = wm)
    : WritesOut wm z0 (execMulhs u dd ds s) := by
  refine WritesOut.step (g := 3260044448) ?_ we wh
  clear wh we
  have hz : Writes 3260044448 s s := Writes.refl _ _
  unfold execMulhs
  try dsimp only
  repeat' (first
    | with_reducible assumption
    | (with_reducible apply dataOp_writes; (on_goal 2 => decide))
    | with_reducible apply WritesOut.next)

theorem execMinu_writes {u : Nat} {dd : Fin 8} {ds : Fin 8} {wm : Nat} {z0 s : State} (wh : Writes wm z0 s) (we : 3260044448 ||| wm = wm) :
    WritesOut wm z0 (execMinu u dd ds s) := by
  refine WritesOut.step (g := 3260044448) ?_ we wh
  clear wh we
  have hz : Writes 3260044448 s s := Writes.refl _ _
  unfold execMinu
  try dsimp only
  repeat' (first
    | with_reducible assumption
    | (with_reducible apply dataOp_writes; (on_goal 2 => decide))
    | with_reducible apply WritesOut.next)

theorem execMaxu_writes {u : Nat} {dd : Fin 8} {ds : Fin 8} {wm : Nat} {z0 s : State} (wh : Writes wm z0 s) (we : 3260044448 ||| wm = wm) :
    WritesOut wm z0 (execMaxu u dd ds s) := by
  refine WritesOut.step (g := 3260044448) ?_ we wh
  clear wh we
  have hz : Writes 3260044448 s s := Writes.refl _ _
  unfold execMaxu
  try dsimp only
  repeat' (first
    | with_reducible assumption
    | (with_reducible apply dataOp_writes; (on_goal 2 => decide))
    | with_reducible apply WritesOut.next)

theorem execMins_writes {u : Nat} {dd : Fin 8} {ds : Fin 8} {wm : Nat} {z0 s : State} (wh : Writes wm z0 s) (we : 3260044448 ||| wm = wm) :
    WritesOut wm z0 (execMins u dd ds s) := by
  refine WritesOut.step (g := 3260044448) ?_ we wh
  clear wh we
  have hz : Writes 3260044448 s s := Writes.refl _ _
  unfold execMins
  try dsimp only
  repeat' (first
    | with_reducible assumption
    | (with_reducible apply dataOp_writes; (on_goal 2 => decide))
    | with_reducible apply WritesOut.next)

theorem execMaxs_writes {u : Nat} {dd : Fin 8} {ds : Fin 8} {wm : Nat} {z0 s : State} (wh : Writes wm z0 s) (we : 3260044448 ||| wm = wm) :
    WritesOut wm z0 (execMaxs u dd ds s) := by
  refine WritesOut.step (g := 3260044448) ?_ we wh
  clear wh we
  have hz : Writes 3260044448 s s := Writes.refl _ _
  unfold execMaxs
  try dsimp only
  repeat' (first
    | with_reducible assumption
    | (with_reducible apply dataOp_writes; (on_goal 2 => decide))
    | with_reducible apply WritesOut.next)

theorem execClz_writes {u : Nat} {dd : Fin 8} {ds : Fin 8} {wm : Nat} {z0 s : State} (wh : Writes wm z0 s) (we : 3260044448 ||| wm = wm) :
    WritesOut wm z0 (execClz u dd ds s) := by
  refine WritesOut.step (g := 3260044448) ?_ we wh
  clear wh we
  have hz : Writes 3260044448 s s := Writes.refl _ _
  unfold execClz
  try dsimp only
  repeat' (first
    | with_reducible assumption
    | (with_reducible apply dataOp_writes; (on_goal 2 => decide))
    | with_reducible apply WritesOut.next)

theorem execPopc_writes {u : Nat} {dd : Fin 8} {ds : Fin 8} {wm : Nat} {z0 s : State} (wh : Writes wm z0 s) (we : 3260044448 ||| wm = wm) :
    WritesOut wm z0 (execPopc u dd ds s) := by
  refine WritesOut.step (g := 3260044448) ?_ we wh
  clear wh we
  have hz : Writes 3260044448 s s := Writes.refl _ _
  unfold execPopc
  try dsimp only
  repeat' (first
    | with_reducible assumption
    | (with_reducible apply dataOp_writes; (on_goal 2 => decide))
    | with_reducible apply WritesOut.next)

theorem execBswap_writes {u : Nat} {dd : Fin 8} {ds : Fin 8} {wm : Nat} {z0 s : State} (wh : Writes wm z0 s) (we : 3260044448 ||| wm = wm)
    : WritesOut wm z0 (execBswap u dd ds s) := by
  refine WritesOut.step (g := 3260044448) ?_ we wh
  clear wh we
  have hz : Writes 3260044448 s s := Writes.refl _ _
  unfold execBswap
  try dsimp only
  repeat' (first
    | with_reducible assumption
    | (with_reducible apply dataOp_writes; (on_goal 2 => decide))
    | with_reducible apply WritesOut.next)

theorem execCmovz_writes {u : Nat} {dd : Fin 8} {ds : Fin 8} {wm : Nat} {z0 s : State} (wh : Writes wm z0 s) (we : 3260044448 ||| wm = wm)
    : WritesOut wm z0 (execCmovz u dd ds s) := by
  refine WritesOut.step (g := 3260044448) ?_ we wh
  clear wh we
  have hz : Writes 3260044448 s s := Writes.refl _ _
  unfold execCmovz
  try dsimp only
  repeat' (first
    | with_reducible assumption
    | (with_reducible apply dataOp_writes; (on_goal 2 => decide))
    | with_reducible apply WritesOut.next)

theorem execCmovc_writes {u : Nat} {dd : Fin 8} {ds : Fin 8} {wm : Nat} {z0 s : State} (wh : Writes wm z0 s) (we : 3260044448 ||| wm = wm)
    : WritesOut wm z0 (execCmovc u dd ds s) := by
  refine WritesOut.step (g := 3260044448) ?_ we wh
  clear wh we
  have hz : Writes 3260044448 s s := Writes.refl _ _
  unfold execCmovc
  try dsimp only
  repeat' (first
    | with_reducible assumption
    | (with_reducible apply dataOp_writes; (on_goal 2 => decide))
    | with_reducible apply WritesOut.next)

theorem execSxb_writes {u : Nat} {dd : Fin 8} {ds : Fin 8} {wm : Nat} {z0 s : State} (wh : Writes wm z0 s) (we : 3260044448 ||| wm = wm) :
    WritesOut wm z0 (execSxb u dd ds s) := by
  refine WritesOut.step (g := 3260044448) ?_ we wh
  clear wh we
  have hz : Writes 3260044448 s s := Writes.refl _ _
  unfold execSxb
  try dsimp only
  repeat' (first
    | with_reducible assumption
    | (with_reducible apply dataOp_writes; (on_goal 2 => decide))
    | with_reducible apply WritesOut.next)

theorem execSxh_writes {u : Nat} {dd : Fin 8} {ds : Fin 8} {wm : Nat} {z0 s : State} (wh : Writes wm z0 s) (we : 3260044448 ||| wm = wm) :
    WritesOut wm z0 (execSxh u dd ds s) := by
  refine WritesOut.step (g := 3260044448) ?_ we wh
  clear wh we
  have hz : Writes 3260044448 s s := Writes.refl _ _
  unfold execSxh
  try dsimp only
  repeat' (first
    | with_reducible assumption
    | (with_reducible apply dataOp_writes; (on_goal 2 => decide))
    | with_reducible apply WritesOut.next)

theorem immOp_writes {u : Nat} {pre : List (BitVec 12)} {word : Nat} {dd : Fin 8} {f : BitVec 32 → Option (BitVec 32) × Fl} {wm : Nat} {z0
    s : State} (wh : Writes wm z0 s) (we : 3260044448 ||| wm = wm) : Writes wm z0 (immOp s u pre word dd f) := by
  refine Writes.step (g := 3260044448) ?_ we wh
  clear wh we
  have hz : Writes 3260044448 s s := Writes.refl _ _
  unfold immOp
  try dsimp only
  repeat' (first
    | intro _
    | with_reducible assumption
    | (with_reducible apply onRegs_writes; (on_goal 2 => decide))
    | (with_reducible apply runWord_writes; (on_goal 1 => decide)))

theorem execMovi_writes {u : Nat} {pre : List (BitVec 12)} {dd : Fin 8} {imm : BitVec 5} {wm : Nat} {z0 s : State} (wh : Writes wm z0 s)
    (we : 3260044448 ||| wm = wm) : WritesOut wm z0 (execMovi u pre dd imm s) := by
  refine WritesOut.step (g := 3260044448) ?_ we wh
  clear wh we
  have hz : Writes 3260044448 s s := Writes.refl _ _
  unfold execMovi
  try dsimp only
  repeat' (first
    | with_reducible assumption
    | (with_reducible apply immOp_writes; (on_goal 2 => decide))
    | with_reducible apply WritesOut.next)

theorem execAddi_writes {u : Nat} {pre : List (BitVec 12)} {dd : Fin 8} {imm : BitVec 5} {wm : Nat} {z0 s : State} (wh : Writes wm z0 s)
    (we : 3260044448 ||| wm = wm) : WritesOut wm z0 (execAddi u pre dd imm s) := by
  refine WritesOut.step (g := 3260044448) ?_ we wh
  clear wh we
  have hz : Writes 3260044448 s s := Writes.refl _ _
  unfold execAddi
  try dsimp only
  repeat' (first
    | with_reducible assumption
    | (with_reducible apply immOp_writes; (on_goal 2 => decide))
    | with_reducible apply WritesOut.next)

theorem execCmpi_writes {u : Nat} {pre : List (BitVec 12)} {dd : Fin 8} {imm : BitVec 5} {wm : Nat} {z0 s : State} (wh : Writes wm z0 s)
    (we : 3260044448 ||| wm = wm) : WritesOut wm z0 (execCmpi u pre dd imm s) := by
  refine WritesOut.step (g := 3260044448) ?_ we wh
  clear wh we
  have hz : Writes 3260044448 s s := Writes.refl _ _
  unfold execCmpi
  try dsimp only
  repeat' (first
    | with_reducible assumption
    | (with_reducible apply immOp_writes; (on_goal 2 => decide))
    | with_reducible apply WritesOut.next)

theorem execAndi_writes {u : Nat} {pre : List (BitVec 12)} {dd : Fin 8} {imm : BitVec 5} {wm : Nat} {z0 s : State} (wh : Writes wm z0 s)
    (we : 3260044448 ||| wm = wm) : WritesOut wm z0 (execAndi u pre dd imm s) := by
  refine WritesOut.step (g := 3260044448) ?_ we wh
  clear wh we
  have hz : Writes 3260044448 s s := Writes.refl _ _
  unfold execAndi
  try dsimp only
  repeat' (first
    | with_reducible assumption
    | (with_reducible apply immOp_writes; (on_goal 2 => decide))
    | with_reducible apply WritesOut.next)

theorem execOri_writes {u : Nat} {pre : List (BitVec 12)} {dd : Fin 8} {imm : BitVec 5} {wm : Nat} {z0 s : State} (wh : Writes wm z0 s) (we
    : 3260044448 ||| wm = wm) : WritesOut wm z0 (execOri u pre dd imm s) := by
  refine WritesOut.step (g := 3260044448) ?_ we wh
  clear wh we
  have hz : Writes 3260044448 s s := Writes.refl _ _
  unfold execOri
  try dsimp only
  repeat' (first
    | with_reducible assumption
    | (with_reducible apply immOp_writes; (on_goal 2 => decide))
    | with_reducible apply WritesOut.next)

theorem execXori_writes {u : Nat} {pre : List (BitVec 12)} {dd : Fin 8} {imm : BitVec 5} {wm : Nat} {z0 s : State} (wh : Writes wm z0 s)
    (we : 3260044448 ||| wm = wm) : WritesOut wm z0 (execXori u pre dd imm s) := by
  refine WritesOut.step (g := 3260044448) ?_ we wh
  clear wh we
  have hz : Writes 3260044448 s s := Writes.refl _ _
  unfold execXori
  try dsimp only
  repeat' (first
    | with_reducible assumption
    | (with_reducible apply immOp_writes; (on_goal 2 => decide))
    | with_reducible apply WritesOut.next)

theorem execShli_writes {u : Nat} {dd : Fin 8} {imm : BitVec 5} {wm : Nat} {z0 s : State} (wh : Writes wm z0 s) (we : 3260044448 ||| wm =
    wm) : WritesOut wm z0 (execShli u dd imm s) := by
  refine WritesOut.step (g := 3260044448) ?_ we wh
  clear wh we
  have hz : Writes 3260044448 s s := Writes.refl _ _
  unfold execShli
  try dsimp only
  repeat' (first
    | with_reducible assumption
    | (with_reducible apply immOp_writes; (on_goal 2 => decide))
    | with_reducible apply WritesOut.next)

theorem execShri_writes {u : Nat} {dd : Fin 8} {imm : BitVec 5} {wm : Nat} {z0 s : State} (wh : Writes wm z0 s) (we : 3260044448 ||| wm =
    wm) : WritesOut wm z0 (execShri u dd imm s) := by
  refine WritesOut.step (g := 3260044448) ?_ we wh
  clear wh we
  have hz : Writes 3260044448 s s := Writes.refl _ _
  unfold execShri
  try dsimp only
  repeat' (first
    | with_reducible assumption
    | (with_reducible apply immOp_writes; (on_goal 2 => decide))
    | with_reducible apply WritesOut.next)

theorem execBranch_writes {u : Nat} {pre : List (BitVec 12)} {cond : Fin 15} {disp : BitVec 7} {wm : Nat} {z0 s : State} (wh : Writes wm z0
    s) (we : 3260044448 ||| wm = wm) : WritesOut wm z0 (execBranch u pre cond disp s) := by
  refine WritesOut.step (g := 3260044448) ?_ we wh
  clear wh we
  have hz : Writes 3260044448 s s := Writes.refl _ _
  unfold execBranch
  try dsimp only
  repeat' (first
    | intro _
    | with_reducible assumption
    | (with_reducible apply onRegs_writes; (on_goal 2 => decide))
    | (with_reducible apply runWord_writes; (on_goal 1 => decide))
    | with_reducible apply WritesOut.next)

theorem execCall_writes {u : Nat} {pre : List (BitVec 12)} {disp : BitVec 7} {wm : Nat} {z0 s : State} (wh : Writes wm z0 s) (we :
    3260044448 ||| wm = wm) : WritesOut wm z0 (execCall u pre disp s) := by
  refine WritesOut.step (g := 3260044448) ?_ we wh
  clear wh we
  have hz : Writes 3260044448 s s := Writes.refl _ _
  unfold execCall
  try dsimp only
  repeat' (first
    | intro _
    | with_reducible assumption
    | (with_reducible apply onRegs_writes; (on_goal 2 => decide))
    | (with_reducible apply runWord_writes; (on_goal 1 => decide))
    | with_reducible apply WritesOut.next)

theorem accOp_writes {u : Nat} {q : Fin 4} {f : VRegs → BitVec 72 × Bool} {wm : Nat} {z0 s : State} (wh : Writes wm z0 s) (we : 3260044448
    ||| wm = wm) : Writes wm z0 (accOp s u q f) := by
  refine Writes.step (g := 3260044448) ?_ we wh
  clear wh we
  have hz : Writes 3260044448 s s := Writes.refl _ _
  unfold accOp
  try dsimp only
  repeat' (first
    | intro _
    | with_reducible assumption
    | (with_reducible apply onRegs_writes; (on_goal 2 => decide))
    | (with_reducible apply runVerb_writes; (on_goal 1 => decide)))

theorem execMacu_writes {u : Nat} {q : Fin 4} {m : Fin 8} {n : Fin 8} {wm : Nat} {z0 s : State} (wh : Writes wm z0 s) (we : 3260044448 |||
    wm = wm) : WritesOut wm z0 (execMacu u q m n s) := by
  refine WritesOut.step (g := 3260044448) ?_ we wh
  clear wh we
  have hz : Writes 3260044448 s s := Writes.refl _ _
  unfold execMacu
  try dsimp only
  repeat' (first
    | with_reducible assumption
    | (with_reducible apply accOp_writes; (on_goal 2 => decide))
    | with_reducible apply WritesOut.next)

theorem execMacs_writes {u : Nat} {q : Fin 4} {m : Fin 8} {n : Fin 8} {wm : Nat} {z0 s : State} (wh : Writes wm z0 s) (we : 3260044448 |||
    wm = wm) : WritesOut wm z0 (execMacs u q m n s) := by
  refine WritesOut.step (g := 3260044448) ?_ we wh
  clear wh we
  have hz : Writes 3260044448 s s := Writes.refl _ _
  unfold execMacs
  try dsimp only
  repeat' (first
    | with_reducible assumption
    | (with_reducible apply accOp_writes; (on_goal 2 => decide))
    | with_reducible apply WritesOut.next)

theorem execMulu_writes {u : Nat} {q : Fin 4} {m : Fin 8} {n : Fin 8} {wm : Nat} {z0 s : State} (wh : Writes wm z0 s) (we : 3260044448 |||
    wm = wm) : WritesOut wm z0 (execMulu u q m n s) := by
  refine WritesOut.step (g := 3260044448) ?_ we wh
  clear wh we
  have hz : Writes 3260044448 s s := Writes.refl _ _
  unfold execMulu
  try dsimp only
  repeat' (first
    | with_reducible assumption
    | (with_reducible apply accOp_writes; (on_goal 2 => decide))
    | with_reducible apply WritesOut.next)

theorem accRead_writes {u : Nat} {q : Fin 4} {d : Fin 8} {sh : Nat} {w : Nat} {wm : Nat} {z0 s : State} (wh : Writes wm z0 s) (we :
    3260044448 ||| wm = wm) : Writes wm z0 (accRead s u q d sh w) := by
  refine Writes.step (g := 3260044448) ?_ we wh
  clear wh we
  have hz : Writes 3260044448 s s := Writes.refl _ _
  unfold accRead
  try dsimp only
  repeat' (first
    | intro _
    | with_reducible assumption
    | (with_reducible apply onRegs_writes; (on_goal 2 => decide))
    | (with_reducible apply runVerb_writes; (on_goal 1 => decide)))

theorem execMql_writes {u : Nat} {q : Fin 4} {d : Fin 8} {wm : Nat} {z0 s : State} (wh : Writes wm z0 s) (we : 3260044448 ||| wm = wm) :
    WritesOut wm z0 (execMql u q d s) := by
  refine WritesOut.step (g := 3260044448) ?_ we wh
  clear wh we
  have hz : Writes 3260044448 s s := Writes.refl _ _
  unfold execMql
  try dsimp only
  repeat' (first
    | with_reducible assumption
    | (with_reducible apply accRead_writes; (on_goal 2 => decide))
    | with_reducible apply WritesOut.next)

theorem execMqh_writes {u : Nat} {q : Fin 4} {d : Fin 8} {wm : Nat} {z0 s : State} (wh : Writes wm z0 s) (we : 3260044448 ||| wm = wm) :
    WritesOut wm z0 (execMqh u q d s) := by
  refine WritesOut.step (g := 3260044448) ?_ we wh
  clear wh we
  have hz : Writes 3260044448 s s := Writes.refl _ _
  unfold execMqh
  try dsimp only
  repeat' (first
    | with_reducible assumption
    | (with_reducible apply accRead_writes; (on_goal 2 => decide))
    | with_reducible apply WritesOut.next)

theorem execMqg_writes {u : Nat} {q : Fin 4} {d : Fin 8} {wm : Nat} {z0 s : State} (wh : Writes wm z0 s) (we : 3260044448 ||| wm = wm) :
    WritesOut wm z0 (execMqg u q d s) := by
  refine WritesOut.step (g := 3260044448) ?_ we wh
  clear wh we
  have hz : Writes 3260044448 s s := Writes.refl _ _
  unfold execMqg
  try dsimp only
  repeat' (first
    | with_reducible assumption
    | (with_reducible apply accRead_writes; (on_goal 2 => decide))
    | with_reducible apply WritesOut.next)

theorem execMdql_writes {u : Nat} {q : Fin 4} {d : Fin 8} {wm : Nat} {z0 s : State} (wh : Writes wm z0 s) (we : 3260044448 ||| wm = wm) :
    WritesOut wm z0 (execMdql u q d s) := by
  refine WritesOut.step (g := 3260044448) ?_ we wh
  clear wh we
  have hz : Writes 3260044448 s s := Writes.refl _ _
  unfold execMdql
  try dsimp only
  repeat' (first
    | with_reducible assumption
    | (with_reducible apply accOp_writes; (on_goal 2 => decide))
    | with_reducible apply WritesOut.next)

theorem execMdqh_writes {u : Nat} {q : Fin 4} {d : Fin 8} {wm : Nat} {z0 s : State} (wh : Writes wm z0 s) (we : 3260044448 ||| wm = wm) :
    WritesOut wm z0 (execMdqh u q d s) := by
  refine WritesOut.step (g := 3260044448) ?_ we wh
  clear wh we
  have hz : Writes 3260044448 s s := Writes.refl _ _
  unfold execMdqh
  try dsimp only
  repeat' (first
    | with_reducible assumption
    | (with_reducible apply accOp_writes; (on_goal 2 => decide))
    | with_reducible apply WritesOut.next)

theorem execMdqg_writes {u : Nat} {q : Fin 4} {d : Fin 8} {wm : Nat} {z0 s : State} (wh : Writes wm z0 s) (we : 3260044448 ||| wm = wm) :
    WritesOut wm z0 (execMdqg u q d s) := by
  refine WritesOut.step (g := 3260044448) ?_ we wh
  clear wh we
  have hz : Writes 3260044448 s s := Writes.refl _ _
  unfold execMdqg
  try dsimp only
  repeat' (first
    | with_reducible assumption
    | (with_reducible apply accOp_writes; (on_goal 2 => decide))
    | with_reducible apply WritesOut.next)

theorem execShrq_writes {u : Nat} {q : Fin 4} {d : Fin 8} {wm : Nat} {z0 s : State} (wh : Writes wm z0 s) (we : 3260044448 ||| wm = wm) :
    WritesOut wm z0 (execShrq u q d s) := by
  refine WritesOut.step (g := 3260044448) ?_ we wh
  clear wh we
  have hz : Writes 3260044448 s s := Writes.refl _ _
  unfold execShrq
  try dsimp only
  repeat' (first
    | with_reducible assumption
    | (with_reducible apply accOp_writes; (on_goal 2 => decide))
    | with_reducible apply WritesOut.next)

theorem execShlq_writes {u : Nat} {q : Fin 4} {d : Fin 8} {wm : Nat} {z0 s : State} (wh : Writes wm z0 s) (we : 3260044448 ||| wm = wm) :
    WritesOut wm z0 (execShlq u q d s) := by
  refine WritesOut.step (g := 3260044448) ?_ we wh
  clear wh we
  have hz : Writes 3260044448 s s := Writes.refl _ _
  unfold execShlq
  try dsimp only
  repeat' (first
    | with_reducible assumption
    | (with_reducible apply accOp_writes; (on_goal 2 => decide))
    | with_reducible apply WritesOut.next)

end Sys2Proof.Machine
end

