-- ==== Sys2Proof/Laws/Writes11.lean ====
section
/-! SUPPORT. Which fields each operation can write (see Writes.lean), operation by operation: VerbMem. -/

set_option linter.unusedTactic false
set_option linter.unreachableTactic false
set_option linter.unusedVariables false

namespace Sys2Proof.Machine

open Sys2Proof

/-! ### VerbMem -/

theorem loadOp_writes {u : Nat} {pre : List (BitVec 12)} {word : Nat} {isA : Bool} {r : Fin 8} {aa : Fin 8} {mode : BitVec 2} {n : Nat} {wm
    : Nat} {z0 s : State} (wh : Writes wm z0 s) (we : 3262141610 ||| wm = wm) : Writes wm z0 (loadOp s u pre word isA r aa mode n) := by
  refine Writes.step (g := 3262141610) ?_ we wh
  clear wh we
  have hz : Writes 3262141610 s s := Writes.refl _ _
  unfold loadOp
  try dsimp only
  repeat' (first
    | intro _
    | with_reducible assumption
    | (with_reducible apply vLoad_writes; (on_goal 2 => decide))
    | (with_reducible apply runWord_writes; (on_goal 1 => decide))
    | (with_reducible apply State.withUnit_writes; (on_goal 2 => decide))
    | with_reducible apply WritesRes.done
    | (with_reducible apply WritesSum.of_inl; with_reducible assumption)
    | (with_reducible apply WritesSum.of_inr; with_reducible assumption)
    | split)

theorem storeOp_writes {u : Nat} {pre : List (BitVec 12)} {word : Nat} {aa : Fin 8} {mode : BitVec 2} {n : Nat} {val : VRegs → Nat} {wm :
    Nat} {z0 s : State} (wh : Writes wm z0 s) (we : 7580177570 ||| wm = wm) : Writes wm z0 (storeOp s u pre word aa mode n val) := by
  refine Writes.step (g := 7580177570) ?_ we wh
  clear wh we
  have hz : Writes 7580177570 s s := Writes.refl _ _
  unfold storeOp
  try dsimp only
  repeat' (first
    | intro _
    | with_reducible assumption
    | (with_reducible apply vStore_writes; (on_goal 2 => decide))
    | (with_reducible apply runWord_writes; (on_goal 1 => decide))
    | (with_reducible apply State.withRegs_writes; (on_goal 2 => decide))
    | with_reducible apply WritesRes.done
    | (with_reducible apply WritesRes.of_done; with_reducible assumption)
    | split)

theorem execLdb_writes {u : Nat} {pre : List (BitVec 12)} {r : Fin 8} {aa : Fin 8} {mode : BitVec 2} {wm : Nat} {z0 s : State} (wh : Writes
    wm z0 s) (we : 3262141610 ||| wm = wm) : WritesOut wm z0 (execLdb u pre r aa mode s) := by
  refine WritesOut.step (g := 3262141610) ?_ we wh
  clear wh we
  have hz : Writes 3262141610 s s := Writes.refl _ _
  unfold execLdb
  try dsimp only
  repeat' (first
    | with_reducible assumption
    | (with_reducible apply loadOp_writes; (on_goal 2 => decide))
    | with_reducible apply WritesOut.next)

theorem execLdh_writes {u : Nat} {pre : List (BitVec 12)} {r : Fin 8} {aa : Fin 8} {mode : BitVec 2} {wm : Nat} {z0 s : State} (wh : Writes
    wm z0 s) (we : 3262141610 ||| wm = wm) : WritesOut wm z0 (execLdh u pre r aa mode s) := by
  refine WritesOut.step (g := 3262141610) ?_ we wh
  clear wh we
  have hz : Writes 3262141610 s s := Writes.refl _ _
  unfold execLdh
  try dsimp only
  repeat' (first
    | with_reducible assumption
    | (with_reducible apply loadOp_writes; (on_goal 2 => decide))
    | with_reducible apply WritesOut.next)

theorem execLdw_writes {u : Nat} {pre : List (BitVec 12)} {r : Fin 8} {aa : Fin 8} {mode : BitVec 2} {wm : Nat} {z0 s : State} (wh : Writes
    wm z0 s) (we : 3262141610 ||| wm = wm) : WritesOut wm z0 (execLdw u pre r aa mode s) := by
  refine WritesOut.step (g := 3262141610) ?_ we wh
  clear wh we
  have hz : Writes 3262141610 s s := Writes.refl _ _
  unfold execLdw
  try dsimp only
  repeat' (first
    | with_reducible assumption
    | (with_reducible apply loadOp_writes; (on_goal 2 => decide))
    | with_reducible apply WritesOut.next)

theorem execLda_writes {u : Nat} {pre : List (BitVec 12)} {r : Fin 8} {aa : Fin 8} {mode : BitVec 2} {wm : Nat} {z0 s : State} (wh : Writes
    wm z0 s) (we : 3262141610 ||| wm = wm) : WritesOut wm z0 (execLda u pre r aa mode s) := by
  refine WritesOut.step (g := 3262141610) ?_ we wh
  clear wh we
  have hz : Writes 3262141610 s s := Writes.refl _ _
  unfold execLda
  try dsimp only
  repeat' (first
    | with_reducible assumption
    | (with_reducible apply loadOp_writes; (on_goal 2 => decide))
    | with_reducible apply WritesOut.next)

theorem execStb_writes {u : Nat} {pre : List (BitVec 12)} {r : Fin 8} {aa : Fin 8} {mode : BitVec 2} {wm : Nat} {z0 s : State} (wh : Writes
    wm z0 s) (we : 7580177570 ||| wm = wm) : WritesOut wm z0 (execStb u pre r aa mode s) := by
  refine WritesOut.step (g := 7580177570) ?_ we wh
  clear wh we
  have hz : Writes 7580177570 s s := Writes.refl _ _
  unfold execStb
  try dsimp only
  repeat' (first
    | with_reducible assumption
    | (with_reducible apply storeOp_writes; (on_goal 2 => decide))
    | with_reducible apply WritesOut.next)

theorem execSth_writes {u : Nat} {pre : List (BitVec 12)} {r : Fin 8} {aa : Fin 8} {mode : BitVec 2} {wm : Nat} {z0 s : State} (wh : Writes
    wm z0 s) (we : 7580177570 ||| wm = wm) : WritesOut wm z0 (execSth u pre r aa mode s) := by
  refine WritesOut.step (g := 7580177570) ?_ we wh
  clear wh we
  have hz : Writes 7580177570 s s := Writes.refl _ _
  unfold execSth
  try dsimp only
  repeat' (first
    | with_reducible assumption
    | (with_reducible apply storeOp_writes; (on_goal 2 => decide))
    | with_reducible apply WritesOut.next)

theorem execStw_writes {u : Nat} {pre : List (BitVec 12)} {r : Fin 8} {aa : Fin 8} {mode : BitVec 2} {wm : Nat} {z0 s : State} (wh : Writes
    wm z0 s) (we : 7580177570 ||| wm = wm) : WritesOut wm z0 (execStw u pre r aa mode s) := by
  refine WritesOut.step (g := 7580177570) ?_ we wh
  clear wh we
  have hz : Writes 7580177570 s s := Writes.refl _ _
  unfold execStw
  try dsimp only
  repeat' (first
    | with_reducible assumption
    | (with_reducible apply storeOp_writes; (on_goal 2 => decide))
    | with_reducible apply WritesOut.next)

theorem execSta_writes {u : Nat} {pre : List (BitVec 12)} {r : Fin 8} {aa : Fin 8} {mode : BitVec 2} {wm : Nat} {z0 s : State} (wh : Writes
    wm z0 s) (we : 7580177570 ||| wm = wm) : WritesOut wm z0 (execSta u pre r aa mode s) := by
  refine WritesOut.step (g := 7580177570) ?_ we wh
  clear wh we
  have hz : Writes 7580177570 s s := Writes.refl _ _
  unfold execSta
  try dsimp only
  repeat' (first
    | with_reducible assumption
    | (with_reducible apply storeOp_writes; (on_goal 2 => decide))
    | with_reducible apply WritesOut.next)

theorem readOnly_writes {u : Nat} {a : Nat} {wm : Nat} {z0 s : State} (wh : Writes wm z0 s) (we : 3262141610 ||| wm = wm) : Writes wm z0
    (readOnly s u a) := by
  refine Writes.step (g := 3262141610) ?_ we wh
  clear wh we
  have hz : Writes 3262141610 s s := Writes.refl _ _
  unfold readOnly
  try dsimp only
  repeat' (first
    | with_reducible assumption
    | (with_reducible apply vLoad_writes; (on_goal 2 => decide))
    | (with_reducible apply raiseSync_writes; (on_goal 2 => decide))
    | (with_reducible apply State.withUnit_writes; (on_goal 2 => decide))
    | with_reducible apply Writes.ite
    | (with_reducible apply WritesSum.of_exc; with_reducible assumption)
    | (with_reducible apply WritesSum.of_inr; with_reducible assumption)
    | split)

theorem execRngDataLo_writes {unit : Nat} {wm : Nat} {z0 s : State} (wh : Writes wm z0 s) (we : 3262141610 ||| wm = wm) : WritesOut wm z0
    (execRngDataLo unit s) := by
  refine WritesOut.step (g := 3262141610) ?_ we wh
  clear wh we
  have hz : Writes 3262141610 s s := Writes.refl _ _
  unfold execRngDataLo
  try dsimp only
  repeat' (first
    | with_reducible assumption
    | (with_reducible apply readOnly_writes; (on_goal 2 => decide))
    | with_reducible apply WritesOut.next
    | with_reducible apply WritesOut.ite)

theorem execRngDataHi_writes {unit : Nat} {wm : Nat} {z0 s : State} (wh : Writes wm z0 s) (we : 3262141610 ||| wm = wm) : WritesOut wm z0
    (execRngDataHi unit s) := by
  refine WritesOut.step (g := 3262141610) ?_ we wh
  clear wh we
  have hz : Writes 3262141610 s s := Writes.refl _ _
  unfold execRngDataHi
  try dsimp only
  repeat' (first
    | with_reducible assumption
    | (with_reducible apply readOnly_writes; (on_goal 2 => decide))
    | with_reducible apply WritesOut.next
    | with_reducible apply WritesOut.ite)

theorem execRngJdataLo_writes {unit : Nat} {wm : Nat} {z0 s : State} (wh : Writes wm z0 s) (we : 3262141610 ||| wm = wm) : WritesOut wm z0
    (execRngJdataLo unit s) := by
  refine WritesOut.step (g := 3262141610) ?_ we wh
  clear wh we
  have hz : Writes 3262141610 s s := Writes.refl _ _
  unfold execRngJdataLo
  try dsimp only
  repeat' (first
    | with_reducible assumption
    | (with_reducible apply readOnly_writes; (on_goal 2 => decide))
    | with_reducible apply WritesOut.next
    | with_reducible apply WritesOut.ite)

theorem execRngJdataHi_writes {unit : Nat} {wm : Nat} {z0 s : State} (wh : Writes wm z0 s) (we : 3262141610 ||| wm = wm) : WritesOut wm z0
    (execRngJdataHi unit s) := by
  refine WritesOut.step (g := 3262141610) ?_ we wh
  clear wh we
  have hz : Writes 3262141610 s s := Writes.refl _ _
  unfold execRngJdataHi
  try dsimp only
  repeat' (first
    | with_reducible assumption
    | (with_reducible apply readOnly_writes; (on_goal 2 => decide))
    | with_reducible apply WritesOut.next
    | with_reducible apply WritesOut.ite)

theorem execDtbFrac_writes {u : Nat} {wm : Nat} {z0 s : State} (wh : Writes wm z0 s) (we : 3262141610 ||| wm = wm) : WritesOut wm z0
    (execDtbFrac u s) := by
  refine WritesOut.step (g := 3262141610) ?_ we wh
  clear wh we
  have hz : Writes 3262141610 s s := Writes.refl _ _
  unfold execDtbFrac
  try dsimp only
  repeat' (first
    | with_reducible assumption
    | (with_reducible apply readOnly_writes; (on_goal 2 => decide))
    | with_reducible apply WritesOut.next
    | with_reducible apply WritesOut.ite)

end Sys2Proof.Machine
end

