-- ==== Sys2Proof/Laws/Jobs.lean ====
section
/-! SUPPORT. What the operations that the commands share do to jobs and rings: said once, so that no proof unfolds them. -/

namespace Sys2Proof.Machine

open Sys2Proof

theorem Tab.get_upd {α : Type} (d : α) (t : Tab α) (i j : Nat) (f : α → α) :
    Tab.get d (Tab.upd d t i f) j = if j = i then f (Tab.get d t i) else Tab.get d t j := by
  simp only [Tab.upd, Tab.get_set]

theorem State.withJob_job (s : State) (id k : Nat) (f : Job → Job) :
    (s.withJob id f).job k = if k = id then f (s.job id) else s.job k := by
  simp only [State.job, State.withJob, Tab.get_upd]

theorem State.withRing_ring (s : State) (p r : Nat) (f : Ring → Ring) : (s.withRing p r f).ring p r = f (s.ring p r) := by
  simp [State.ring, State.withRing]

theorem State.withRing_beside (s : State) (p r : Nat) (f : Ring → Ring) : (s.withRing p r f).sameBesideRing s p r := by
  refine ⟨?_, rfl⟩
  intro q k h
  simp [State.ring, State.withRing, Tab.get_upd, h]

/-- The table of jobs alone says what a job is. -/
theorem State.job_congr {s t : State} (h : t.jobs = s.jobs) (k : Nat) : t.job k = s.job k := by
  simp only [State.job, h]

theorem freeSlot_job (s : State) (id k : Nat) :
    (freeSlot s id).job k = if k = id then { s.job id with slot := none } else s.job k := by
  unfold freeSlot
  split
  · rename_i h
    split
    · rename_i hk; subst hk; rw [← h]
    · rfl
  · rw [State.withJob_job]; rfl

theorem returnChannel_job (s : State) (id k : Nat) :
    (returnChannel s id).job k = if k = id then { s.job id with chan := none } else s.job k := by
  unfold returnChannel
  split
  · rename_i h
    split
    · rename_i hk; subst hk; rw [← h]
    · rfl
  · rw [State.withJob_job]; rfl

theorem leaveSquads_job (s : State) (id k : Nat) :
    (leaveSquads s id).job k = if k = id then { s.job id with squads := [] } else s.job k := by
  unfold leaveSquads
  simp only [State.withJob_job]
  have h1 : ∀ (g : Squad → Squad) (l : List Nat) (u : State), (l.foldl (fun s q => s.withSquad q g) u).jobs = u.jobs := by
    intro g l; induction l with
    | nil => intro u; rfl
    | cons a l ih => intro u; rw [List.foldl_cons, ih]; rfl
  have h2 : ∀ (q : Nat) (l : List Nat) (u : State), (l.foldl (fun s c => wipeSlot s q c) u).jobs = u.jobs := by
    intro q l; induction l with
    | nil => intro u; rfl
    | cons a l ih => intro u; rw [List.foldl_cons, ih]; rfl
  have h3 : ∀ (l : List Nat) (u : State), (l.foldl (fun s q =>
      (((s.squad q).slots.filter (fun e => e.2 == id)).map Prod.fst).foldl (fun s c => wipeSlot s q c) s) u).jobs = u.jobs := by
    intro l; induction l with
    | nil => intro u; rfl
    | cons a l ih => intro u; rw [List.foldl_cons, ih, h2]
  simp only [State.job, h1, h3]

theorem freePark_job (s : State) (id k : Nat) :
    (freePark s id).job k = if k = id then { s.job id with parkSlot := none, parked := false } else s.job k := by
  unfold freePark
  rw [State.withJob_job]; rfl

theorem leaveEngine_job (s : State) (id k : Nat) :
    (leaveEngine s id).job k =
      if k = id then { s.job id with engine := none, strm := { (s.job id).strm with key := [] } } else s.job k := by
  unfold leaveEngine
  rw [State.withJob_job]

/-- A job that has left its units. -/
def Job.released (j : Job) : Job :=
  { j with slot := none, squads := [], parkSlot := none, parked := false, engine := none, strm := { j.strm with key := [] },
           chan := none }

theorem releaseUnits_job (s : State) (id k : Nat) :
    (releaseUnits s id).job k = if k = id then (s.job id).released else s.job k := by
  unfold releaseUnits
  simp only [returnChannel_job, leaveEngine_job, freePark_job, leaveSquads_job, freeSlot_job, if_true]
  split <;> rfl

theorem returnUses_job (s : State) (id k : Nat) :
    (returnUses s id).job k = if k = id then { s.job id with uses := [] } else s.job k := by
  unfold returnUses
  simp only [State.withJob_job]
  have h : ∀ (l : List Nat) (u : State), (l.foldl (fun s i =>
      if (s.keys.slots.find i).isSome then s.withSlot i (fun k => { k with count := k.count - 1 }) else s) u).jobs = u.jobs := by
    intro l; induction l with
    | nil => intro u; rfl
    | cons a l ih => intro u; rw [List.foldl_cons, ih]; split <;> rfl
  simp only [State.job, h]

/-- A job that ends: it keeps its descriptor, and its counts but where the outcome counts nothing; every other job is as before. -/
theorem finish_job (s : State) (id status : Nat) (out : Bytes) (tc k : Nat) :
    (finish s id status out tc).job k =
      if k = id then
        let j : Job := { (s.job id).released with
          uses := if 0x5000 ≤ status then [] else (s.job id).uses
          phase := .finished, again := false, status := status, out := if status = 0 then out else [], timeClass := tc }
        if chargeless status then { j with lane := 0, stream := 0, commit := 0, random := 0 } else j
      else s.job k := by
  have hj : ∀ k, (onlyIf (decide (0x5000 ≤ status)) (fun s => returnUses s id) (releaseUnits s id)).job k =
      if k = id then { (s.job id).released with uses := if 0x5000 ≤ status then [] else (s.job id).uses } else s.job k := by
    intro k
    by_cases hu : 0x5000 ≤ status
    · simp only [onlyIf, hu, decide_true, if_true, returnUses_job, releaseUnits_job]
      split <;> rfl
    · simp only [onlyIf, hu, decide_false, Bool.false_eq_true, if_false, releaseUnits_job]
      split <;> rfl
  unfold finish
  rw [State.withJob_job]
  by_cases hk : k = id
  · subst hk
    simp only [hj, if_true]
  · simp only [hj, if_neg hk]

/-- `finish` ends its job and leaves the others. -/
theorem finish_ended (s : State) (id status : Nat) (out : Bytes) (tc : Nat) : Ended s (finish s id status out tc) id status out tc := by
  refine ⟨⟨?_, ?_, ?_, ?_⟩, fun k h => by rw [finish_job, if_neg h]⟩ <;>
    (rw [finish_job]; dsimp only; simp only [if_true]; split <;> rfl)

/-- `finishWith` ends its job with its counts and leaves the others. -/
theorem finishWith_ended (s : State) (id status : Nat) (out : Bytes) (tc lane random : Nat) :
    Ended s (finishWith s id status out tc lane random) id status out tc ∧
      ((finishWith s id status out tc lane random).job id).lane = (if chargeless status then 0 else lane) ∧
      ((finishWith s id status out tc lane random).job id).random = (if chargeless status then 0 else random) := by
  unfold finishWith
  refine ⟨⟨(finish_ended _ id status out tc).1, fun k h => ?_⟩, ?_, ?_⟩
  · rw [finish_job, if_neg h, State.withJob_job, if_neg h]
  · rw [finish_job]; dsimp only; simp only [if_true, State.withJob_job]; split <;> rfl
  · rw [finish_job]; dsimp only; simp only [if_true, State.withJob_job]; split <;> rfl

/-- A draw from an expander path changes no job. -/
theorem rngDraw_jobs (s : State) (p n : Nat) : (rngDraw s p n).2.jobs = s.jobs :=
  (rngDraw_writes (wm := 2097154) (Writes.refl _ s) (by decide)).snd.jobs (by decide)

end Sys2Proof.Machine
end

