-- ==== Sys2Proof/Laws/Keeps.lean ====
section
/-! SUPPORT. What every operation of the machine keeps: the queue of waiting commands, and the canonical form of the four memories.
The relation, and the rules by which it goes through updates, choices and iterations. -/

namespace Sys2Proof.Machine

open Sys2Proof

/-- The parts that `Keeps` speaks of: the queue is that of `s0`, and memories that were canonical in `s0` are. -/
def KeepsParts (s0 : State) (pending : List Instr) (mem code bar host : Mem) : Prop :=
  pending = s0.pending ∧ (s0.memoriesOk = true → Mem.wf 0 mem = true ∧ Mem.wf 0xFF code = true ∧ Mem.wf 0 bar = true ∧ Mem.wf 0 host = true)

/-- The queue of `t` is that of `s0`, and the memories of `t` are in canonical form when those of `s0` are. -/
def Keeps (s0 t : State) : Prop := KeepsParts s0 t.pending t.mem t.codeFlash t.barMem t.hostMem

/-- The outcome is a next state that keeps queue and canonical form. -/
def KeepsOut (s0 : State) (o : Host.Outcome State Fault Refusal) : Prop := ∃ t, o = .next t ∧ Keeps s0 t

theorem Keeps.refl (s : State) : Keeps s s := by
  refine ⟨rfl, fun h => ?_⟩
  simpa [State.memoriesOk, and_assoc] using h

theorem KeepsOut.next {s0 t : State} (h : Keeps s0 t) : KeepsOut s0 (.next t) := ⟨t, rfl, h⟩

theorem KeepsOut.ite {s0 : State} {c : Prop} [Decidable c] {a b : Host.Outcome State Fault Refusal} (ha : KeepsOut s0 a)
    (hb : KeepsOut s0 b) : KeepsOut s0 (if c then a else b) := by
  split <;> assumption

theorem Keeps.ite {s0 : State} {c : Prop} [Decidable c] {a b : State} (ha : Keeps s0 a) (hb : Keeps s0 b) :
    Keeps s0 (if c then a else b) := by
  split <;> assumption

theorem Keeps.foldl {s0 : State} {α : Type} {f : State → α → State} {l : List α} {s : State} (h : Keeps s0 s)
    (hf : ∀ t, Keeps s0 t → ∀ a, Keeps s0 (f t a)) : Keeps s0 (l.foldl f s) := by
  induction l generalizing s with
  | nil => exact h
  | cons a l ih => exact ih (hf s h a)

/-- An operation that writes neither queue nor memories keeps both. -/
theorem Keeps.quiet {m : Nat} {s0 s t : State} (hw : Writes m s t) (e : m &&& 0x780000001 = 0) (h : Keeps s0 s) : Keeps s0 t := by
  have bit : ∀ k : Nat, (0x780000001 : Nat).testBit k = true → m.testBit k = false := by
    intro k hk
    have : (m &&& 0x780000001).testBit k = false := by rw [e]; exact Nat.zero_testBit k
    rw [Nat.testBit_and, hk, Bool.and_true] at this
    exact this
  unfold Keeps
  rw [hw.pending (bit 0 (by decide)), hw.mem (bit 31 (by decide)), hw.codeFlash (bit 32 (by decide)), hw.barMem (bit 33 (by decide)),
    hw.hostMem (bit 34 (by decide))]
  exact h

/-- The same for an outcome. -/
theorem KeepsOut.quiet {m : Nat} {s0 s : State} {o : Host.Outcome State Fault Refusal} (hw : WritesOut m s o)
    (e : m &&& 0x780000001 = 0) (h : Keeps s0 s) : KeepsOut s0 o := by
  obtain ⟨t, rfl, ht⟩ := hw
  exact ⟨t, rfl, Keeps.quiet ht e h⟩

/-! Updates of single fields; a memory is replaced by one that is canonical when the old one is. -/

theorem KeepsParts.of {s0 t : State} (h : Keeps s0 t) :
    KeepsParts s0 t.pending t.mem t.codeFlash t.barMem t.hostMem := h

theorem KeepsParts.mem {s0 t : State} {m : Mem} (h : Keeps s0 t) (hm : Mem.wf 0 t.mem = true → Mem.wf 0 m = true) :
    KeepsParts s0 t.pending m t.codeFlash t.barMem t.hostMem :=
  ⟨h.1, fun e => ⟨hm (h.2 e).1, (h.2 e).2⟩⟩

theorem KeepsParts.code {s0 t : State} {m : Mem} (h : Keeps s0 t) (hm : Mem.wf 0xFF t.codeFlash = true → Mem.wf 0xFF m = true) :
    KeepsParts s0 t.pending t.mem m t.barMem t.hostMem :=
  ⟨h.1, fun e => ⟨(h.2 e).1, hm (h.2 e).2.1, (h.2 e).2.2⟩⟩

theorem KeepsParts.bar {s0 t : State} {m : Mem} (h : Keeps s0 t) (hm : Mem.wf 0 t.barMem = true → Mem.wf 0 m = true) :
    KeepsParts s0 t.pending t.mem t.codeFlash m t.hostMem :=
  ⟨h.1, fun e => ⟨(h.2 e).1, (h.2 e).2.1, hm (h.2 e).2.2.1, (h.2 e).2.2.2⟩⟩

theorem KeepsParts.host {s0 t : State} {m : Mem} (h : Keeps s0 t) (hm : Mem.wf 0 t.hostMem = true → Mem.wf 0 m = true) :
    KeepsParts s0 t.pending t.mem t.codeFlash t.barMem m :=
  ⟨h.1, fun e => ⟨(h.2 e).1, (h.2 e).2.1, (h.2 e).2.2.1, hm (h.2 e).2.2.2⟩⟩

theorem KeepsParts.memBar {s0 t : State} {m b : Mem} (h : Keeps s0 t) (hm : Mem.wf 0 t.mem = true → Mem.wf 0 m = true)
    (hb : Mem.wf 0 t.barMem = true → Mem.wf 0 b = true) : KeepsParts s0 t.pending m t.codeFlash b t.hostMem :=
  ⟨h.1, fun e => ⟨hm (h.2 e).1, (h.2 e).2.1, hb (h.2 e).2.2.1, (h.2 e).2.2.2⟩⟩

/-- A state is as good as the parts that `Keeps` speaks of. -/
theorem Keeps.mk {s0 : State} {pending : List Instr} {free : Nat} {power : Power} {clock : Clock} {islands : Tab Island} {evr : Recorder} {mode : ModeSt} {link : Link} {parts : Tab Part} {rings : Tab Ring} {jobs : Tab Job} {nextJob : Nat} {intake : Tab Intake} {disp : Dispatch} {lanes : Lanes} {meter : Meter} {guards : Tab Guard} {guardSt : GuardSt} {tamper : Tamper} {mgmt : Mgmt} {keys : KeyStore} {rng : Rng} {dma : Dma} {code : CodeFlash} {vault : Vault} {verb : VerbSt} {appr : Approvals} {tag : Tag} {life : Life} {stood : Tab Job} {gls : Tab Nat} {mem : Mem} {codeFlash : Mem} {barMem : Mem} {hostMem : Mem}
    (h : KeepsParts s0 pending mem codeFlash barMem hostMem) : Keeps s0 ⟨pending, free, power, clock, islands, evr, mode, link, parts, rings, jobs, nextJob, intake, disp, lanes, meter, guards, guardSt, tamper, mgmt, keys, rng, dma, code, vault, verb, appr, tag, life, stood, gls, mem, codeFlash, barMem, hostMem⟩ := h

theorem Keeps.onlyIf {s0 : State} {c : Bool} {f : State → State} {s : State} (h : Keeps s0 s)
    (hf : ∀ t, Keeps s0 t → Keeps s0 (f t)) : Keeps s0 (Machine.onlyIf c f s) := by
  unfold Machine.onlyIf
  split
  · exact hf s h
  · exact h

/-- The state an instruction of a core comes to keeps queue and canonical form, whether it completes or raises a cause. -/
inductive KeepsRes (s0 : State) : VRes → Prop
  | done {t : State} (h : Keeps s0 t) : KeepsRes s0 (.done t)
  | exc {e : Exc} {t : State} (h : Keeps s0 t) : KeepsRes s0 (.exc e t)
  | stall : KeepsRes s0 .stall
  | rngWait {a : Nat} : KeepsRes s0 (.rngWait a)

theorem KeepsRes.of_done {s0 t : State} {r : VRes} (e : r = .done t) (h : KeepsRes s0 r) : Keeps s0 t := by
  subst e
  cases h
  assumption

theorem KeepsRes.of_exc {s0 t : State} {r : VRes} {x : Exc} (e : r = .exc x t) (h : KeepsRes s0 r) : Keeps s0 t := by
  subst e
  cases h
  assumption

theorem KeepsRes.ite {s0 : State} {c : Prop} [Decidable c] {a b : VRes} (ha : KeepsRes s0 a) (hb : KeepsRes s0 b) :
    KeepsRes s0 (if c then a else b) := by
  split <;> assumption

/-! Results that carry a state beside a value, or none. -/

/-- The state of a pair keeps queue and canonical form. -/
inductive KeepsSnd (s0 : State) {α : Type} : α × State → Prop
  | mk {a : α} {t : State} (h : Keeps s0 t) : KeepsSnd s0 (a, t)

/-- A state, if there is one, keeps queue and canonical form. -/
inductive KeepsOpt (s0 : State) : Option State → Prop
  | none : KeepsOpt s0 none
  | some {t : State} (h : Keeps s0 t) : KeepsOpt s0 (some t)

/-- The state of a pair, if there is one, keeps queue and canonical form. -/
inductive KeepsOptSnd (s0 : State) {α : Type} : Option (α × State) → Prop
  | none : KeepsOptSnd s0 none
  | some {a : α} {t : State} (h : Keeps s0 t) : KeepsOptSnd s0 (some (a, t))

/-- An exception, or a pair with a state: both keep queue and canonical form. -/
inductive KeepsSum (s0 : State) {α : Type} : VRes ⊕ (α × State) → Prop
  | inl {e : VRes} (h : KeepsRes s0 e) : KeepsSum s0 (.inl e)
  | inr {a : α} {t : State} (h : Keeps s0 t) : KeepsSum s0 (.inr (a, t))

/-- An exception, if it is one, keeps queue and canonical form. -/
inductive KeepsInl (s0 : State) {α : Type} : VRes ⊕ α → Prop
  | inl {e : VRes} (h : KeepsRes s0 e) : KeepsInl s0 (.inl e)
  | inr {a : α} : KeepsInl s0 (.inr a)

theorem KeepsSnd.of_eq {s0 t : State} {α : Type} {p : α × State} {a : α} (e : p = (a, t)) (h : KeepsSnd s0 p) : Keeps s0 t := by
  subst e
  cases h
  assumption

theorem KeepsSnd.snd {s0 : State} {α : Type} {p : α × State} (h : KeepsSnd s0 p) : Keeps s0 p.2 := by
  cases h
  assumption

theorem KeepsOpt.of_eq {s0 t : State} {o : Option State} (e : o = Option.some t) (h : KeepsOpt s0 o) : Keeps s0 t := by
  subst e
  cases h
  assumption

theorem KeepsOpt.getD {s0 t : State} {o : Option State} (h : KeepsOpt s0 o) (ht : Keeps s0 t) : Keeps s0 (o.getD t) := by
  cases h
  · exact ht
  · assumption

theorem KeepsOpt.map {s0 : State} {o : Option State} {f : State → State} (h : KeepsOpt s0 o) (hf : ∀ t, Keeps s0 t → Keeps s0 (f t)) :
    KeepsOpt s0 (o.map f) := by
  cases h
  · exact KeepsOpt.none
  · exact KeepsOpt.some (hf _ (by assumption))

theorem KeepsOptSnd.of_eq {s0 t : State} {α : Type} {o : Option (α × State)} {a : α} (e : o = Option.some (a, t))
    (h : KeepsOptSnd s0 o) : Keeps s0 t := by
  subst e
  cases h
  assumption

theorem KeepsSum.of_inl {s0 : State} {α : Type} {x : VRes ⊕ (α × State)} {r : VRes} (e : x = .inl r) (h : KeepsSum s0 x) :
    KeepsRes s0 r := by
  subst e
  cases h
  assumption

theorem KeepsSum.of_exc {s0 t : State} {α : Type} {x : VRes ⊕ (α × State)} {y : Exc} (e : x = .inl (.exc y t)) (h : KeepsSum s0 x) :
    Keeps s0 t := KeepsRes.of_exc rfl (KeepsSum.of_inl e h)

theorem KeepsSum.of_done {s0 t : State} {α : Type} {x : VRes ⊕ (α × State)} (e : x = .inl (.done t)) (h : KeepsSum s0 x) :
    Keeps s0 t := KeepsRes.of_done rfl (KeepsSum.of_inl e h)

theorem KeepsSum.of_inr {s0 t : State} {α : Type} {x : VRes ⊕ (α × State)} {a : α} (e : x = .inr (a, t)) (h : KeepsSum s0 x) :
    Keeps s0 t := by
  subst e
  cases h
  assumption

theorem KeepsInl.of_inl {s0 : State} {α : Type} {x : VRes ⊕ α} {r : VRes} (e : x = .inl r) (h : KeepsInl s0 x) : KeepsRes s0 r := by
  subst e
  cases h
  assumption

end Sys2Proof.Machine
end

