-- ==== Sys2Proof/Laws/Keeps1.lean ====
section
/-! SUPPORT. Keeping of queue and canonical form (see Keeps.lean), operation by operation: Ops, Events, Meter, Time, Jobs, Rings, Rng, VaultLog, Keys. -/

set_option linter.unusedTactic false
set_option linter.unreachableTactic false
set_option linter.unusedVariables false

namespace Sys2Proof.Machine

open Sys2Proof

variable {z0 : State}

/-! ### Ops -/

theorem State.gsets_keeps (e : GE) (sel : Nat) (v : Nat) {s : State} (hk : Keeps z0 s) : Keeps z0 (State.gsets s e sel v) :=
  Keeps.quiet (State.gsets_writes (wm := 1073741824) (Writes.refl _ _) (by decide)) (by decide) hk

theorem State.gset_keeps (e : GE) (v : Nat) {s : State} (hk : Keeps z0 s) : Keeps z0 (State.gset s e v) :=
  Keeps.quiet (State.gset_writes (wm := 1073741824) (Writes.refl _ _) (by decide)) (by decide) hk

theorem State.bumpBys_keeps (e : GE) (sel : Nat) (n : Nat) {s : State} (hk : Keeps z0 s) : Keeps z0 (State.bumpBys s e sel n) :=
  Keeps.quiet (State.bumpBys_writes (wm := 1073741824) (Writes.refl _ _) (by decide)) (by decide) hk

theorem State.bump_keeps (e : GE) {s : State} (hk : Keeps z0 s) : Keeps z0 (State.bump s e) :=
  Keeps.quiet (State.bump_writes (wm := 1073741824) (Writes.refl _ _) (by decide)) (by decide) hk

theorem State.bumps_keeps (e : GE) (sel : Nat) {s : State} (hk : Keeps z0 s) : Keeps z0 (State.bumps s e sel) :=
  Keeps.quiet (State.bumps_writes (wm := 1073741824) (Writes.refl _ _) (by decide)) (by decide) hk

theorem State.drawNat_keeps {s : State} (hk : Keeps z0 s) :
    KeepsSnd z0 (State.drawNat s) := by
  unfold State.drawNat
  try dsimp only
  repeat' (first
    | with_reducible apply KeepsSnd.mk
    | (with_reducible apply Keeps.mk; with_reducible apply KeepsParts.of; with_reducible assumption))

theorem State.drawBytes_keeps (n : Nat) {s : State} (hk : Keeps z0 s) :
    KeepsSnd z0 (State.drawBytes s n) := by
  unfold State.drawBytes
  try dsimp only
  repeat' (first
    | with_reducible apply KeepsSnd.mk
    | (with_reducible apply Keeps.mk; with_reducible apply KeepsParts.of; with_reducible assumption))

theorem State.setIsl_keeps (n : Nat) (v : Nat) {s : State} (hk : Keeps z0 s) : Keeps z0 (State.setIsl s n v) :=
  Keeps.quiet (State.setIsl_writes (wm := 16) (Writes.refl _ _) (by decide)) (by decide) hk

theorem strikeIsl_keeps (l : List Nat) {s : State} (hk : Keeps z0 s) : Keeps z0 (strikeIsl s l) :=
  Keeps.quiet (strikeIsl_writes (wm := 16) (Writes.refl _ _) (by decide)) (by decide) hk

theorem hoistIsl_keeps (l : List Nat) {s : State} (hk : Keeps z0 s) : Keeps z0 (hoistIsl s l) :=
  Keeps.quiet (hoistIsl_writes (wm := 16) (Writes.refl _ _) (by decide)) (by decide) hk

theorem setThrottle_keeps  {s0 : State} (hk : Keeps z0 s0) : Keeps z0 (setThrottle s0) :=
  Keeps.quiet (setThrottle_writes (wm := 33554450) (Writes.refl _ _) (by decide)) (by decide) hk

theorem State.present_keeps (isl : Nat) (t : Tok) {s : State} (hk : Keeps z0 s) : Keeps z0 (State.present s isl t) :=
  Keeps.quiet (State.present_writes (wm := 32) (Writes.refl _ _) (by decide)) (by decide) hk

theorem State.event_keeps (isl : Nat) (code : Nat) (len : Nat) (pay : Bytes) {s : State} (hk : Keeps z0 s) : Keeps z0 (State.event s isl
    code len pay) :=
  Keeps.quiet (State.event_writes (wm := 32) (Writes.refl _ _) (by decide)) (by decide) hk

theorem State.report_keeps (isl : Nat) (code : Nat) (subj : Nat) (detail : Nat) {s : State} (hk : Keeps z0 s) : Keeps z0 (State.report s
    isl code subj detail) :=
  Keeps.quiet (State.report_writes (wm := 32) (Writes.refl _ _) (by decide)) (by decide) hk

theorem State.reportBy_keeps (isl : Nat) (code : Nat) (subj : Nat) (detail : Nat) (who : Nat) {s : State} (hk : Keeps z0 s) : Keeps z0
    (State.reportBy s isl code subj detail who) :=
  Keeps.quiet (State.reportBy_writes (wm := 32) (Writes.refl _ _) (by decide)) (by decide) hk

theorem State.msix_keeps (fn : Nat) (vec : Nat) {s : State} (hk : Keeps z0 s) : Keeps z0 (State.msix s fn vec) :=
  Keeps.quiet (State.msix_writes (wm := 128) (Writes.refl _ _) (by decide)) (by decide) hk

theorem State.msixAlert_keeps  {s : State} (hk : Keeps z0 s) : Keeps z0 (State.msixAlert s) :=
  Keeps.quiet (State.msixAlert_writes (wm := 128) (Writes.refl _ _) (by decide)) (by decide) hk

theorem State.notify_keeps (body : Bytes) {s : State} (hk : Keeps z0 s) : Keeps z0 (State.notify s body) :=
  Keeps.quiet (State.notify_writes (wm := 524288) (Writes.refl _ _) (by decide)) (by decide) hk

theorem State.hostWrite_keeps (fn : Nat) (a : Nat) (bs : Bytes) {s : State} (hk : Keeps z0 s) :
    Keeps z0 (State.hostWrite s fn a bs) := by
  unfold State.hostWrite
  try dsimp only
  repeat' (first
    | with_reducible assumption
    | (with_reducible apply Keeps.mk; refine KeepsParts.host ?_ (Mem.write_wf _ _)))

theorem State.withClock_keeps (f : Clock → Clock) {s : State} (hk : Keeps z0 s) : Keeps z0 (State.withClock s f) :=
  Keeps.quiet (State.withClock_writes (wm := 8) (Writes.refl _ _) (by decide)) (by decide) hk

theorem State.withEvr_keeps (f : Recorder → Recorder) {s : State} (hk : Keeps z0 s) : Keeps z0 (State.withEvr s f) :=
  Keeps.quiet (State.withEvr_writes (wm := 32) (Writes.refl _ _) (by decide)) (by decide) hk

theorem State.withMode_keeps (f : ModeSt → ModeSt) {s : State} (hk : Keeps z0 s) : Keeps z0 (State.withMode s f) :=
  Keeps.quiet (State.withMode_writes (wm := 64) (Writes.refl _ _) (by decide)) (by decide) hk

theorem State.withLink_keeps (f : Link → Link) {s : State} (hk : Keeps z0 s) : Keeps z0 (State.withLink s f) :=
  Keeps.quiet (State.withLink_writes (wm := 128) (Writes.refl _ _) (by decide)) (by decide) hk

theorem State.withPower_keeps (f : Power → Power) {s : State} (hk : Keeps z0 s) : Keeps z0 (State.withPower s f) :=
  Keeps.quiet (State.withPower_writes (wm := 4) (Writes.refl _ _) (by decide)) (by decide) hk

theorem State.withTamper_keeps (f : Tamper → Tamper) {s : State} (hk : Keeps z0 s) : Keeps z0 (State.withTamper s f) :=
  Keeps.quiet (State.withTamper_writes (wm := 262144) (Writes.refl _ _) (by decide)) (by decide) hk

theorem State.withMgmt_keeps (f : Mgmt → Mgmt) {s : State} (hk : Keeps z0 s) : Keeps z0 (State.withMgmt s f) :=
  Keeps.quiet (State.withMgmt_writes (wm := 524288) (Writes.refl _ _) (by decide)) (by decide) hk

theorem State.withPart_keeps (p : Nat) (f : Part → Part) {s : State} (hk : Keeps z0 s) : Keeps z0 (State.withPart s p f) :=
  Keeps.quiet (State.withPart_writes (wm := 256) (Writes.refl _ _) (by decide)) (by decide) hk

theorem State.withJob_keeps (j : Nat) (f : Job → Job) {s : State} (hk : Keeps z0 s) : Keeps z0 (State.withJob s j f) :=
  Keeps.quiet (State.withJob_writes (wm := 1024) (Writes.refl _ _) (by decide)) (by decide) hk

theorem State.withKeys_keeps (f : KeyStore → KeyStore) {s : State} (hk : Keeps z0 s) : Keeps z0 (State.withKeys s f) :=
  Keeps.quiet (State.withKeys_writes (wm := 1048576) (Writes.refl _ _) (by decide)) (by decide) hk

theorem State.withSlot_keeps (i : Nat) (f : KSlot → KSlot) {s : State} (hk : Keeps z0 s) : Keeps z0 (State.withSlot s i f) :=
  Keeps.quiet (State.withSlot_writes (wm := 1048576) (Writes.refl _ _) (by decide)) (by decide) hk

theorem State.withRng_keeps (f : Rng → Rng) {s : State} (hk : Keeps z0 s) : Keeps z0 (State.withRng s f) :=
  Keeps.quiet (State.withRng_writes (wm := 2097152) (Writes.refl _ _) (by decide)) (by decide) hk

theorem State.withDma_keeps (f : Dma → Dma) {s : State} (hk : Keeps z0 s) : Keeps z0 (State.withDma s f) :=
  Keeps.quiet (State.withDma_writes (wm := 4194304) (Writes.refl _ _) (by decide)) (by decide) hk

theorem State.withChan_keeps (c : Nat) (f : DmaCh → DmaCh) {s : State} (hk : Keeps z0 s) : Keeps z0 (State.withChan s c f) :=
  Keeps.quiet (State.withChan_writes (wm := 4194304) (Writes.refl _ _) (by decide)) (by decide) hk

theorem State.withCode_keeps (f : CodeFlash → CodeFlash) {s : State} (hk : Keeps z0 s) : Keeps z0 (State.withCode s f) :=
  Keeps.quiet (State.withCode_writes (wm := 8388608) (Writes.refl _ _) (by decide)) (by decide) hk

theorem State.withVault_keeps (f : Vault → Vault) {s : State} (hk : Keeps z0 s) : Keeps z0 (State.withVault s f) :=
  Keeps.quiet (State.withVault_writes (wm := 16777216) (Writes.refl _ _) (by decide)) (by decide) hk

theorem State.withLanes_keeps (f : Lanes → Lanes) {s : State} (hk : Keeps z0 s) : Keeps z0 (State.withLanes s f) :=
  Keeps.quiet (State.withLanes_writes (wm := 16384) (Writes.refl _ _) (by decide)) (by decide) hk

theorem State.withSquad_keeps (q : Nat) (f : Squad → Squad) {s : State} (hk : Keeps z0 s) : Keeps z0 (State.withSquad s q f) :=
  Keeps.quiet (State.withSquad_writes (wm := 16384) (Writes.refl _ _) (by decide)) (by decide) hk

theorem State.withIntake_keeps (c : Nat) (f : Intake → Intake) {s : State} (hk : Keeps z0 s) : Keeps z0 (State.withIntake s c f) :=
  Keeps.quiet (State.withIntake_writes (wm := 4096) (Writes.refl _ _) (by decide)) (by decide) hk

theorem State.withVerb_keeps (f : VerbSt → VerbSt) {s : State} (hk : Keeps z0 s) : Keeps z0 (State.withVerb s f) :=
  Keeps.quiet (State.withVerb_writes (wm := 33554432) (Writes.refl _ _) (by decide)) (by decide) hk

theorem State.withUnit_keeps (u : Nat) (f : VUnit → VUnit) {s : State} (hk : Keeps z0 s) : Keeps z0 (State.withUnit s u f) :=
  Keeps.quiet (State.withUnit_writes (wm := 33554432) (Writes.refl _ _) (by decide)) (by decide) hk

theorem sendEvents_keeps (mask : Nat) (sender : Option Nat) {s : State} (hk : Keeps z0 s) : Keeps z0 (sendEvents s mask sender) :=
  Keeps.quiet (sendEvents_writes (wm := 33554432) (Writes.refl _ _) (by decide)) (by decide) hk

theorem State.withGuard_keeps (g : Nat) (f : Guard → Guard) {s : State} (hk : Keeps z0 s) : Keeps z0 (State.withGuard s g f) :=
  Keeps.quiet (State.withGuard_writes (wm := 65536) (Writes.refl _ _) (by decide)) (by decide) hk

theorem State.withLife_keeps (f : Life → Life) {s : State} (hk : Keeps z0 s) : Keeps z0 (State.withLife s f) :=
  Keeps.quiet (State.withLife_writes (wm := 268435456) (Writes.refl _ _) (by decide)) (by decide) hk

theorem State.withMeter_keeps (f : Meter → Meter) {s : State} (hk : Keeps z0 s) : Keeps z0 (State.withMeter s f) :=
  Keeps.quiet (State.withMeter_writes (wm := 32768) (Writes.refl _ _) (by decide)) (by decide) hk

theorem State.withRing_keeps (p : Nat) (r : Nat) (f : Ring → Ring) {s : State} (hk : Keeps z0 s) : Keeps z0 (State.withRing s p r f) :=
  Keeps.quiet (State.withRing_writes (wm := 512) (Writes.refl _ _) (by decide)) (by decide) hk

/-! ### Events -/

theorem storeRec_keeps (r : EvRec) {s : State} (hk : Keeps z0 s) : Keeps z0 (storeRec s r) :=
  Keeps.quiet (storeRec_writes (wm := 32) (Writes.refl _ _) (by decide)) (by decide) hk

theorem suppress_keeps (c : Nat) (otc : Nat) {s : State} (hk : Keeps z0 s) : Keeps z0 (suppress s c otc) :=
  Keeps.quiet (suppress_writes (wm := 1073741856) (Writes.refl _ _) (by decide)) (by decide) hk

theorem limitRec_keeps (r : EvRec) {s : State} (hk : Keeps z0 s) : Keeps z0 (limitRec s r) :=
  Keeps.quiet (limitRec_writes (wm := 1073741856) (Writes.refl _ _) (by decide)) (by decide) hk

theorem drainItems_keeps : ∀ (l : List EvItem) {s : State} (_ : Keeps z0 s), Keeps z0 (drainItems l s)
  | [], s, h => State.withEvr_keeps _ h
  | .formed r :: l, s, h => by
    unfold drainItems
    split
    · exact drainItems_keeps l (limitRec_keeps r h)
    · exact State.withEvr_keeps _ h
  | .window w :: l, s, h => State.withEvr_keeps _ h

theorem drain_keeps  {s : State} (hk : Keeps z0 s) : Keeps z0 (drain s) :=
  Keeps.quiet (drain_writes (wm := 1073741856) (Writes.refl _ _) (by decide)) (by decide) hk

theorem takeTok_keeps (isl : Nat) (x0 : Tok) {s : State} (hk : Keeps z0 s) : Keeps z0 (takeTok s isl x0) :=
  Keeps.quiet (takeTok_writes (wm := 1073741856) (Writes.refl _ _) (by decide)) (by decide) hk

theorem signalCie_keeps (t : Tok) {s : State} (hk : Keeps z0 s) : Keeps z0 (signalCie s t) :=
  Keeps.quiet (signalCie_writes (wm := 288) (Writes.refl _ _) (by decide)) (by decide) hk

theorem execEventStamp_keeps  {s : State} (hk : Keeps z0 s) : KeepsOut z0 (execEventStamp s) :=
  KeepsOut.quiet (execEventStamp_writes (wm := 1073742112) (Writes.refl _ _) (by decide)) (by decide) hk

theorem execCoalesceWindowClose_keeps  {s : State} (hk : Keeps z0 s) : KeepsOut z0 (execCoalesceWindowClose s) :=
  KeepsOut.quiet (execCoalesceWindowClose_writes (wm := 1073741856) (Writes.refl _ _) (by decide)) (by decide) hk

theorem execSuppressed_keeps (code : Nat) {s : State} (hk : Keeps z0 s) : KeepsOut z0 (execSuppressed code s) :=
  KeepsOut.quiet (execSuppressed_writes (wm := 32) (Writes.refl _ _) (by decide)) (by decide) hk

theorem evrDurable_keeps (n : Nat) (addr : Nat) {s : State} (hk : Keeps z0 s) : Keeps z0 (evrDurable s n addr) :=
  Keeps.quiet (evrDurable_writes (wm := 32) (Writes.refl _ _) (by decide)) (by decide) hk

/-! ### Meter -/

theorem addClass_keeps (p : Nat) (c : Nat) (n : Nat) {s : State} (hk : Keeps z0 s) : Keeps z0 (addClass s p c n) :=
  Keeps.quiet (addClass_writes (wm := 32768) (Writes.refl _ _) (by decide)) (by decide) hk

theorem addCounts_keeps (j : Job) {s : State} (hk : Keeps z0 s) : Keeps z0 (addCounts s j) :=
  Keeps.quiet (addCounts_writes (wm := 1073774592) (Writes.refl _ _) (by decide)) (by decide) hk

theorem acceptEntry_keeps (j : Job) {s : State} (hk : Keeps z0 s) : Keeps z0 (acceptEntry s j) :=
  Keeps.quiet (acceptEntry_writes (wm := 1073774592) (Writes.refl _ _) (by decide)) (by decide) hk

theorem acceptOrphan_keeps (j : Job) {s : State} (hk : Keeps z0 s) : Keeps z0 (acceptOrphan s j) :=
  Keeps.quiet (acceptOrphan_writes (wm := 1073774592) (Writes.refl _ _) (by decide)) (by decide) hk

theorem noteFlag_keeps (bitNo : Nat) {s : State} (hk : Keeps z0 s) : Keeps z0 (noteFlag s bitNo) :=
  Keeps.quiet (noteFlag_writes (wm := 32768) (Writes.refl _ _) (by decide)) (by decide) hk

theorem openMinute_keeps (start : Nat) (extra : Nat) {s : State} (hk : Keeps z0 s) : Keeps z0 (openMinute s start extra) :=
  Keeps.quiet (openMinute_writes (wm := 32768) (Writes.refl _ _) (by decide)) (by decide) hk

theorem closeMinute_keeps (stop : Nat) (extra : Nat) (noRandom : Bool) {s : State} (hk : Keeps z0 s) : Keeps z0 (closeMinute s stop extra noRandom) :=
  Keeps.quiet (closeMinute_writes (wm := 32802) (Writes.refl _ _) (by decide)) (by decide) hk

theorem execMinuteClose_keeps  {s : State} (hk : Keeps z0 s) : KeepsOut z0 (execMinuteClose s) :=
  KeepsOut.quiet (execMinuteClose_writes (wm := 32810) (Writes.refl _ _) (by decide)) (by decide) hk

theorem setDurable_keeps (h : MinSet) (rest : List MinSet) {s : State} (hk : Keeps z0 s) : Keeps z0 (setDurable s h rest) :=
  Keeps.quiet (setDurable_writes (wm := 32896) (Writes.refl _ _) (by decide)) (by decide) hk

/-! ### Time -/

theorem idleTick_keeps  {s : State} (hk : Keeps z0 s) : Keeps z0 (idleTick s) :=
  Keeps.quiet (idleTick_writes (wm := 8) (Writes.refl _ _) (by decide)) (by decide) hk

theorem setTState_keeps (n : Nat) {s : State} (hk : Keeps z0 s) : Keeps z0 (setTState s n) :=
  Keeps.quiet (setTState_writes (wm := 32808) (Writes.refl _ _) (by decide)) (by decide) hk

theorem enterHoldover_keeps  {s : State} (hk : Keeps z0 s) : Keeps z0 (enterHoldover s) :=
  Keeps.quiet (enterHoldover_writes (wm := 32808) (Writes.refl _ _) (by decide)) (by decide) hk

theorem execPtmRequest_keeps  {s : State} (hk : Keeps z0 s) : KeepsOut z0 (execPtmRequest s) :=
  KeepsOut.quiet (execPtmRequest_writes (wm := 8) (Writes.refl _ _) (by decide)) (by decide) hk

theorem discardExchange_keeps  {s : State} (hk : Keeps z0 s) : Keeps z0 (discardExchange s) :=
  Keeps.quiet (discardExchange_writes (wm := 1073774632) (Writes.refl _ _) (by decide)) (by decide) hk

theorem execPtmAbandon_keeps  {s : State} (hk : Keeps z0 s) : KeepsOut z0 (execPtmAbandon s) :=
  KeepsOut.quiet (execPtmAbandon_writes (wm := 1073774632) (Writes.refl _ _) (by decide)) (by decide) hk

theorem stateAfterValid_keeps  {s : State} (hk : Keeps z0 s) : Keeps z0 (stateAfterValid s) :=
  Keeps.quiet (stateAfterValid_writes (wm := 32808) (Writes.refl _ _) (by decide)) (by decide) hk

theorem acceptExchange_keeps (t1 : Nat) (d : Nat) (m : Nat) {s : State} (hk : Keeps z0 s) : Keeps z0 (acceptExchange s t1 d m) :=
  Keeps.quiet (acceptExchange_writes (wm := 1073774632) (Writes.refl _ _) (by decide)) (by decide) hk

theorem execPtmResponse_keeps (master : Nat) {s : State} (hk : Keeps z0 s) : KeepsOut z0 (execPtmResponse master s) :=
  KeepsOut.quiet (execPtmResponse_writes (wm := 1073774632) (Writes.refl _ _) (by decide)) (by decide) hk

theorem execHoldoverEntry_keeps  {s : State} (hk : Keeps z0 s) : KeepsOut z0 (execHoldoverEntry s) :=
  KeepsOut.quiet (execHoldoverEntry_writes (wm := 32808) (Writes.refl _ _) (by decide)) (by decide) hk

theorem execHoldoverExpiry_keeps  {s : State} (hk : Keeps z0 s) : KeepsOut z0 (execHoldoverExpiry s) :=
  KeepsOut.quiet (execHoldoverExpiry_writes (wm := 32808) (Writes.refl _ _) (by decide)) (by decide) hk

theorem unanchor_keeps  {s : State} (hk : Keeps z0 s) : Keeps z0 (unanchor s) :=
  Keeps.quiet (unanchor_writes (wm := 32808) (Writes.refl _ _) (by decide)) (by decide) hk

theorem startTimebase_keeps  {s : State} (hk : Keeps z0 s) : Keeps z0 (startTimebase s) :=
  Keeps.quiet (startTimebase_writes (wm := 32808) (Writes.refl _ _) (by decide)) (by decide) hk

theorem saveDtb_keeps  {s : State} (hk : Keeps z0 s) : Keeps z0 (saveDtb s) :=
  Keeps.quiet (saveDtb_writes (wm := 8) (Writes.refl _ _) (by decide)) (by decide) hk

theorem execOtcSave_keeps  {s : State} (hk : Keeps z0 s) : KeepsOut z0 (execOtcSave s) :=
  KeepsOut.quiet (execOtcSave_writes (wm := 8) (Writes.refl _ _) (by decide)) (by decide) hk

theorem setDtb_keeps (ns : Nat) (frac : Nat) {s : State} (hk : Keeps z0 s) : Keeps z0 (setDtb s ns frac) :=
  Keeps.quiet (setDtb_writes (wm := 32808) (Writes.refl _ _) (by decide)) (by decide) hk

theorem latchDtb_keeps  {s : State} (hk : Keeps z0 s) : Keeps z0 (latchDtb s) :=
  Keeps.quiet (latchDtb_writes (wm := 8) (Writes.refl _ _) (by decide)) (by decide) hk

/-! ### Jobs -/

theorem issueRead_keeps (id : Nat) (p : Nat) (n : Nat) {s : State} (hk : Keeps z0 s) : Keeps z0 (issueRead s id p n) :=
  Keeps.quiet (issueRead_writes (wm := 128) (Writes.refl _ _) (by decide)) (by decide) hk

theorem freeSlot_keeps (id : Nat) {s : State} (hk : Keeps z0 s) : Keeps z0 (freeSlot s id) :=
  Keeps.quiet (freeSlot_writes (wm := 5120) (Writes.refl _ _) (by decide)) (by decide) hk

theorem wipeSlot_keeps (q : Nat) (c : Nat) {s : State} (hk : Keeps z0 s) :
    Keeps z0 (wipeSlot s q c) := by
  unfold wipeSlot
  try dsimp only
  repeat' (first
    | with_reducible assumption
    | with_reducible apply State.withUnit_keeps
    | (with_reducible apply Keeps.mk; with_reducible refine KeepsParts.mem ?_ (Mem.clear_wf _ _)))

theorem clearSquad_keeps (q : Nat) {s : State} (hk : Keeps z0 s) :
    Keeps z0 (clearSquad s q) := by
  unfold clearSquad
  try dsimp only
  repeat' (first
    | intro _
    | with_reducible assumption
    | with_reducible apply State.withUnit_keeps
    | with_reducible apply Keeps.foldl
    | (with_reducible apply Keeps.mk; with_reducible refine KeepsParts.mem ?_ (Mem.clear_wf _ _)))

theorem leaveSquads_keeps (id : Nat) {s0 : State} (hk : Keeps z0 s0) :
    Keeps z0 (leaveSquads s0 id) := by
  unfold leaveSquads
  try dsimp only
  repeat' (first
    | intro _
    | with_reducible assumption
    | with_reducible apply wipeSlot_keeps
    | with_reducible apply State.withSquad_keeps
    | with_reducible apply State.withJob_keeps
    | with_reducible apply Keeps.foldl)

theorem dropImage_keeps (id : Nat) {s : State} (hk : Keeps z0 s) : Keeps z0 (dropImage s id) :=
  Keeps.quiet (dropImage_writes (wm := 16384) (Writes.refl _ _) (by decide)) (by decide) hk

theorem freePark_keeps (id : Nat) {s : State} (hk : Keeps z0 s) : Keeps z0 (freePark s id) :=
  Keeps.quiet (freePark_writes (wm := 17408) (Writes.refl _ _) (by decide)) (by decide) hk

theorem leaveEngine_keeps (id : Nat) {s : State} (hk : Keeps z0 s) : Keeps z0 (leaveEngine s id) :=
  Keeps.quiet (leaveEngine_writes (wm := 1024) (Writes.refl _ _) (by decide)) (by decide) hk

theorem dropReads_keeps (id : Nat) {s : State} (hk : Keeps z0 s) : Keeps z0 (dropReads s id) :=
  Keeps.quiet (dropReads_writes (wm := 128) (Writes.refl _ _) (by decide)) (by decide) hk

theorem returnChannel_keeps (id : Nat) {s : State} (hk : Keeps z0 s) : Keeps z0 (returnChannel s id) :=
  Keeps.quiet (returnChannel_writes (wm := 4195456) (Writes.refl _ _) (by decide)) (by decide) hk

theorem toEngine_keeps (id : Nat) {s : State} (hk : Keeps z0 s) : Keeps z0 (toEngine s id) :=
  Keeps.quiet (toEngine_writes (wm := 5632) (Writes.refl _ _) (by decide)) (by decide) hk

theorem releaseUnits_keeps (id : Nat) {s : State} (hk : Keeps z0 s) :
    Keeps z0 (releaseUnits s id) := by
  unfold releaseUnits
  try dsimp only
  repeat' (first
    | with_reducible assumption
    | with_reducible apply returnChannel_keeps
    | with_reducible apply leaveEngine_keeps
    | with_reducible apply freePark_keeps
    | with_reducible apply leaveSquads_keeps
    | with_reducible apply freeSlot_keeps)

theorem returnUses_keeps (id : Nat) {s : State} (hk : Keeps z0 s) : Keeps z0 (returnUses s id) :=
  Keeps.quiet (returnUses_writes (wm := 1049600) (Writes.refl _ _) (by decide)) (by decide) hk

theorem finish_keeps (id : Nat) (status : Nat) (out : Bytes) (tc : Nat) {s : State} (hk : Keeps z0 s) :
    Keeps z0 (finish s id status out tc) := by
  unfold finish
  try dsimp only
  repeat' (first
    | intro _
    | with_reducible assumption
    | with_reducible apply returnUses_keeps
    | with_reducible apply releaseUnits_keeps
    | with_reducible apply State.withJob_keeps
    | with_reducible apply Keeps.onlyIf)

theorem finishWith_keeps (id : Nat) (status : Nat) (out : Bytes) (tc : Nat) (lane : Nat) (random : Nat) {s : State} (hk : Keeps z0 s) :
    Keeps z0 (finishWith s id status out tc lane random) := by
  unfold finishWith
  try dsimp only
  repeat' (first
    | with_reducible assumption
    | with_reducible apply finish_keeps
    | with_reducible apply State.withJob_keeps)

theorem squashJob_keeps (again : Bool) (id : Nat) {s : State} (hk : Keeps z0 s) : Keeps z0 (squashJob s again id) :=
  Keeps.quiet (squashJob_writes (wm := 1077941888) (Writes.refl _ _) (by decide)) (by decide) hk

theorem squashWhere_keeps (again : Bool) (p : Job → Bool) {s : State} (hk : Keeps z0 s) : Keeps z0 (squashWhere s again p) :=
  Keeps.quiet (squashWhere_writes (wm := 1077941888) (Writes.refl _ _) (by decide)) (by decide) hk

theorem writeEntry_keeps (id : Nat) {s : State} (hk : Keeps z0 s) :
    Keeps z0 (writeEntry s id) := by
  unfold writeEntry
  try dsimp only
  repeat' (first
    | with_reducible assumption
    | with_reducible apply acceptEntry_keeps
    | with_reducible apply State.hostWrite_keeps
    | with_reducible apply State.msix_keeps
    | with_reducible apply Keeps.ite
    | (with_reducible apply Keeps.mk; with_reducible apply KeepsParts.of; first | with_reducible apply State.withRing_keeps))

theorem squashMember_keeps (p : Nat) (r : Nat) (n : Nat) {s : State} (hk : Keeps z0 s) :
    Keeps z0 (squashMember s p r n) := by
  unfold squashMember
  try dsimp only
  repeat' (first
    | with_reducible assumption
    | with_reducible apply writeEntry_keeps
    | with_reducible apply squashJob_keeps
    | with_reducible apply returnChannel_keeps
    | with_reducible apply freeSlot_keeps
    | with_reducible apply State.withRing_keeps
    | with_reducible apply State.withJob_keeps
    | with_reducible apply State.bump_keeps
    | with_reducible apply Keeps.ite
    | (with_reducible apply Keeps.mk; with_reducible apply KeepsParts.of; first | split))

theorem chainSquash_keeps (p : Nat) (r : Nat) (n : Nat) {s : State} (hk : Keeps z0 s) :
    Keeps z0 (chainSquash s p r n) := by
  unfold chainSquash
  try dsimp only
  repeat' (first
    | intro _
    | with_reducible assumption
    | with_reducible apply squashMember_keeps
    | with_reducible apply squashWhere_keeps
    | with_reducible apply State.withRing_keeps
    | with_reducible apply Keeps.foldl
    | (with_reducible apply Keeps.mk; with_reducible apply KeepsParts.of; first | split))

theorem post_keeps (id : Nat) {s : State} (hk : Keeps z0 s) :
    Keeps z0 (post s id) := by
  unfold post
  try dsimp only
  repeat' (first
    | with_reducible assumption
    | with_reducible apply chainSquash_keeps
    | with_reducible apply writeEntry_keeps
    | with_reducible apply Keeps.ite)

theorem complete_keeps (id : Nat) {s : State} (hk : Keeps z0 s) :
    Keeps z0 (complete s id) := by
  unfold complete
  try dsimp only
  repeat' (first
    | with_reducible assumption
    | with_reducible apply post_keeps
    | with_reducible apply State.withLink_keeps
    | with_reducible apply Keeps.ite)

theorem completeAtIntake_keeps (id : Nat) (status : Nat) (tc : Nat) {s : State} (hk : Keeps z0 s) :
    Keeps z0 (completeAtIntake s id status tc) := by
  unfold completeAtIntake
  try dsimp only
  repeat' (first
    | with_reducible assumption
    | with_reducible apply complete_keeps
    | with_reducible apply freeSlot_keeps
    | with_reducible apply State.withJob_keeps)

theorem ringFault_keeps (p : Nat) (r : Nat) (code : Nat) {s : State} (hk : Keeps z0 s) : Keeps z0 (ringFault s p r code) :=
  Keeps.quiet (ringFault_writes (wm := 512) (Writes.refl _ _) (by decide)) (by decide) hk

theorem drainRing_keeps (p : Nat) (r : Nat) {s : State} (hk : Keeps z0 s) : Keeps z0 (drainRing s p r) :=
  Keeps.quiet (drainRing_writes (wm := 1077941888) (Writes.refl _ _) (by decide)) (by decide) hk

theorem partialCounts_keeps (id : Nat) {s : State} (hk : Keeps z0 s) : Keeps z0 (partialCounts s id) :=
  Keeps.quiet (partialCounts_writes (wm := 1026) (Writes.refl _ _) (by decide)) (by decide) hk

theorem dropJob_keeps (id : Nat) {s0 : State} (hk : Keeps z0 s0) :
    Keeps z0 (dropJob s0 id) := by
  unfold dropJob
  try dsimp only
  repeat' (first
    | with_reducible assumption
    | with_reducible apply partialCounts_keeps
    | with_reducible apply acceptOrphan_keeps
    | with_reducible apply State.withLink_keeps
    | with_reducible apply Keeps.ite
    | (with_reducible apply Keeps.mk; with_reducible apply KeepsParts.of; first | with_reducible apply releaseUnits_keeps))

theorem tearDown_keeps (p : Nat) {s : State} (hk : Keeps z0 s) :
    Keeps z0 (tearDown s p) := by
  unfold tearDown
  try dsimp only
  repeat' (first
    | intro _
    | with_reducible assumption
    | with_reducible apply dropJob_keeps
    | with_reducible apply squashWhere_keeps
    | with_reducible apply State.withRing_keeps
    | with_reducible apply State.withMeter_keeps
    | with_reducible apply State.withPart_keeps
    | with_reducible apply State.withLink_keeps
    | with_reducible apply Keeps.foldl
    | (with_reducible apply Keeps.mk; with_reducible apply KeepsParts.of; first | with_reducible apply Keeps.foldl))

/-! ### Rings -/

theorem execRingEnable_keeps (part : Nat) (ring : Nat) {s : State} (hk : Keeps z0 s) : KeepsOut z0 (execRingEnable part ring s) :=
  KeepsOut.quiet (execRingEnable_writes (wm := 512) (Writes.refl _ _) (by decide)) (by decide) hk

theorem settleRing_keeps (p : Nat) (r : Nat) {s : State} (hk : Keeps z0 s) : Keeps z0 (settleRing s p r) :=
  Keeps.quiet (settleRing_writes (wm := 512) (Writes.refl _ _) (by decide)) (by decide) hk

theorem dropRead_keeps (p : Nat) (r : Nat) {s : State} (hk : Keeps z0 s) : Keeps z0 (dropRead s p r) :=
  Keeps.quiet (dropRead_writes (wm := 4096) (Writes.refl _ _) (by decide)) (by decide) hk

theorem zeroFill_keeps (j : Job) {s : State} (hk : Keeps z0 s) :
    Keeps z0 (zeroFill s j) := by
  unfold zeroFill
  try dsimp only
  repeat' (first
    | with_reducible assumption
    | with_reducible apply State.hostWrite_keeps
    | with_reducible apply Keeps.ite)

theorem abortJob_keeps (id : Nat) {s : State} (hk : Keeps z0 s) :
    Keeps z0 (abortJob s id) := by
  unfold abortJob
  try dsimp only
  repeat' (first
    | with_reducible assumption
    | with_reducible apply zeroFill_keeps
    | with_reducible apply partialCounts_keeps
    | with_reducible apply finish_keeps
    | with_reducible apply Keeps.ite
    | (with_reducible apply Keeps.mk; with_reducible apply KeepsParts.of; first | split))

theorem execRingDrained_keeps (part : Nat) (ring : Nat) {s : State} (hk : Keeps z0 s) : KeepsOut z0 (execRingDrained part ring s) :=
  KeepsOut.quiet (execRingDrained_writes (wm := 512) (Writes.refl _ _) (by decide)) (by decide) hk

theorem serveSq_keeps (p : Nat) (r : Nat) (v : Nat) {s : State} (hk : Keeps z0 s) : Keeps z0 (serveSq s p r v) :=
  Keeps.quiet (serveSq_writes (wm := 512) (Writes.refl _ _) (by decide)) (by decide) hk

theorem serveCq_keeps (p : Nat) (r : Nat) (v : Nat) {s : State} (hk : Keeps z0 s) : Keeps z0 (serveCq s p r v) :=
  Keeps.quiet (serveCq_writes (wm := 512) (Writes.refl _ _) (by decide)) (by decide) hk

theorem ringSq_keeps (p : Nat) (r : Nat) (v : Nat) {s : State} (hk : Keeps z0 s) : Keeps z0 (ringSq s p r v) :=
  Keeps.quiet (ringSq_writes (wm := 512) (Writes.refl _ _) (by decide)) (by decide) hk

theorem ringCq_keeps (p : Nat) (r : Nat) (v : Nat) {s : State} (hk : Keeps z0 s) : Keeps z0 (ringCq s p r v) :=
  Keeps.quiet (ringCq_writes (wm := 512) (Writes.refl _ _) (by decide)) (by decide) hk

theorem execSqDb_keeps (part : Nat) (ring : Nat) (value : BitVec 32) {s : State} (hk : Keeps z0 s) : KeepsOut z0 (execSqDb part ring value s) :=
  KeepsOut.quiet (execSqDb_writes (wm := 512) (Writes.refl _ _) (by decide)) (by decide) hk

theorem execCqDb_keeps (part : Nat) (ring : Nat) (value : BitVec 32) {s : State} (hk : Keeps z0 s) : KeepsOut z0 (execCqDb part ring value s) :=
  KeepsOut.quiet (execCqDb_writes (wm := 512) (Writes.refl _ _) (by decide)) (by decide) hk

theorem heldBells_keeps (p : Nat) (r : Nat) {s : State} (hk : Keeps z0 s) : Keeps z0 (heldBells s p r) :=
  Keeps.quiet (heldBells_writes (wm := 512) (Writes.refl _ _) (by decide)) (by decide) hk

theorem releaseRing_keeps (p : Nat) (r : Nat) {s : State} (hk : Keeps z0 s) : Keeps z0 (releaseRing s p r) :=
  Keeps.quiet (releaseRing_writes (wm := 512) (Writes.refl _ _) (by decide)) (by decide) hk

theorem disableRing_keeps (p : Nat) (r : Nat) {s : State} (hk : Keeps z0 s) : Keeps z0 (disableRing s p r) :=
  Keeps.quiet (disableRing_writes (wm := 1077941888) (Writes.refl _ _) (by decide)) (by decide) hk

theorem execRingDisable_keeps (part : Nat) (ring : Nat) {s : State} (hk : Keeps z0 s) : KeepsOut z0 (execRingDisable part ring s) :=
  KeepsOut.quiet (execRingDisable_writes (wm := 1077941888) (Writes.refl _ _) (by decide)) (by decide) hk

theorem execRingAbort_keeps (part : Nat) (ring : Nat) {s : State} (hk : Keeps z0 s) :
    KeepsOut z0 (execRingAbort part ring s) := by
  unfold execRingAbort
  try dsimp only
  repeat' (first
    | intro _
    | with_reducible assumption
    | with_reducible apply heldBells_keeps
    | with_reducible apply abortJob_keeps
    | with_reducible apply dropRead_keeps
    | with_reducible apply settleRing_keeps
    | with_reducible apply drainRing_keeps
    | with_reducible apply KeepsOut.next
    | with_reducible apply KeepsOut.ite
    | with_reducible apply Keeps.foldl)

theorem releaseHeld_keeps  {s : State} (hk : Keeps z0 s) : Keeps z0 (releaseHeld s) :=
  Keeps.quiet (releaseHeld_writes (wm := 512) (Writes.refl _ _) (by decide)) (by decide) hk

theorem holdRings_keeps (p : Nat) {s : State} (hk : Keeps z0 s) : Keeps z0 (holdRings s p) :=
  Keeps.quiet (holdRings_writes (wm := 512) (Writes.refl _ _) (by decide)) (by decide) hk

theorem execIntakeVisit_keeps (core : Nat) {s : State} (hk : Keeps z0 s) : KeepsOut z0 (execIntakeVisit core s) :=
  KeepsOut.quiet (execIntakeVisit_writes (wm := 4608) (Writes.refl _ _) (by decide)) (by decide) hk

theorem execDescriptorReadFailed_keeps (core : Nat) {s : State} (hk : Keeps z0 s) : KeepsOut z0 (execDescriptorReadFailed core s) :=
  KeepsOut.quiet (execDescriptorReadFailed_writes (wm := 1077941888) (Writes.refl _ _) (by decide)) (by decide) hk

theorem requeueRead_keeps (c : Nat) {s : State} (hk : Keeps z0 s) : Keeps z0 (requeueRead s c) :=
  Keeps.quiet (requeueRead_writes (wm := 4608) (Writes.refl _ _) (by decide)) (by decide) hk

theorem emptyIntake_keeps (c : Nat) {s : State} (hk : Keeps z0 s) : Keeps z0 (emptyIntake s c) :=
  Keeps.quiet (emptyIntake_writes (wm := 1077941888) (Writes.refl _ _) (by decide)) (by decide) hk

theorem execStagingWipeDone_keeps (pool : StagingPool) {s : State} (hk : Keeps z0 s) : KeepsOut z0 (execStagingWipeDone pool s) :=
  KeepsOut.quiet (execStagingWipeDone_writes (wm := 4096) (Writes.refl _ _) (by decide)) (by decide) hk

/-! ### Rng -/

theorem State.withNoise_keeps (c : Nat) (f : NoiseCh → NoiseCh) {s : State} (hk : Keeps z0 s) : Keeps z0 (State.withNoise s c f) :=
  Keeps.quiet (State.withNoise_writes (wm := 2097152) (Writes.refl _ _) (by decide)) (by decide) hk

theorem State.withExp_keeps (e : Nat) (f : Expander → Expander) {s : State} (hk : Keeps z0 s) : Keeps z0 (State.withExp s e f) :=
  Keeps.quiet (State.withExp_writes (wm := 2097152) (Writes.refl _ _) (by decide)) (by decide) hk

theorem seed_keeps (e : Nat) {s : State} (hk : Keeps z0 s) : Keeps z0 (seed s e) :=
  Keeps.quiet (seed_writes (wm := 2097152) (Writes.refl _ _) (by decide)) (by decide) hk

theorem instantiate_keeps (p : Nat) {s : State} (hk : Keeps z0 s) : Keeps z0 (instantiate s p) :=
  Keeps.quiet (instantiate_writes (wm := 2097152) (Writes.refl _ _) (by decide)) (by decide) hk

theorem uninstantiate_keeps (p : Nat) {s : State} (hk : Keeps z0 s) : Keeps z0 (uninstantiate s p) :=
  Keeps.quiet (uninstantiate_writes (wm := 2097152) (Writes.refl _ _) (by decide)) (by decide) hk

theorem startHolds_keeps {s0 : State} (hk : Keeps z0 s0) :
    Keeps z0 (startHolds s0) := by
  unfold startHolds
  try dsimp only
  repeat' (first
    | intro _
    | with_reducible assumption
    | with_reducible apply finish_keeps
    | (with_reducible apply Keeps.mk; with_reducible apply KeepsParts.of; first | with_reducible apply Keeps.foldl))

theorem endHolds_keeps  {s : State} (hk : Keeps z0 s) : Keeps z0 (endHolds s) :=
  Keeps.quiet (endHolds_writes (wm := 1024) (Writes.refl _ _) (by decide)) (by decide) hk

theorem updatePath_keeps (p : Nat) (retired : Bool) {s : State} (hk : Keeps z0 s) :
    Keeps z0 (updatePath s p retired) := by
  unfold updatePath
  try dsimp only
  repeat' (first
    | intro _
    | with_reducible assumption
    | with_reducible apply endHolds_keeps
    | with_reducible apply startHolds_keeps
    | with_reducible apply uninstantiate_keeps
    | with_reducible apply instantiate_keeps
    | with_reducible apply State.gset_keeps
    | with_reducible apply Keeps.ite
    | with_reducible apply Keeps.onlyIf)

theorem startChan_keeps (c : Nat) {s : State} (hk : Keeps z0 s) : Keeps z0 (startChan s c) :=
  Keeps.quiet (startChan_writes (wm := 2097152) (Writes.refl _ _) (by decide)) (by decide) hk

theorem startPath_keeps (p : Nat) {s : State} (hk : Keeps z0 s) : Keeps z0 (startPath s p) :=
  Keeps.quiet (startPath_writes (wm := 1075838976) (Writes.refl _ _) (by decide)) (by decide) hk

theorem retire_keeps (c : Nat) (test : Nat) {s : State} (hk : Keeps z0 s) :
    Keeps z0 (retire s c test) := by
  unfold retire
  try dsimp only
  repeat' (first
    | with_reducible assumption
    | with_reducible apply updatePath_keeps
    | with_reducible apply State.withNoise_keeps
    | with_reducible apply State.event_keeps
    | with_reducible apply State.bump_keeps
    | with_reducible apply Keeps.ite)

theorem makeMinuteKeys_keeps  {s : State} (hk : Keeps z0 s) : Keeps z0 (makeMinuteKeys s) :=
  Keeps.quiet (makeMinuteKeys_writes (wm := 268435456) (Writes.refl _ _) (by decide)) (by decide) hk

theorem execStartUpTestPassed_keeps (chan : Nat) {s : State} (hk : Keeps z0 s) :
    KeepsOut z0 (execStartUpTestPassed chan s) := by
  unfold execStartUpTestPassed
  try dsimp only
  repeat' (first
    | with_reducible assumption
    | with_reducible apply makeMinuteKeys_keeps
    | with_reducible apply updatePath_keeps
    | with_reducible apply State.withNoise_keeps
    | with_reducible apply KeepsOut.next
    | with_reducible apply KeepsOut.ite)

theorem execChannelRestart_keeps (chan : Nat) {s : State} (hk : Keeps z0 s) : KeepsOut z0 (execChannelRestart chan s) :=
  KeepsOut.quiet (execChannelRestart_writes (wm := 2097152) (Writes.refl _ _) (by decide)) (by decide) hk

theorem execReseed_keeps (expander : Nat) {s : State} (hk : Keeps z0 s) : KeepsOut z0 (execReseed expander s) :=
  KeepsOut.quiet (execReseed_writes (wm := 2097152) (Writes.refl _ _) (by decide)) (by decide) hk

theorem rngDraw_keeps (p : Nat) (n : Nat) {s : State} (hk : Keeps z0 s) :
    KeepsSnd z0 (rngDraw s p n) := by
  unfold rngDraw
  try dsimp only
  repeat' (first
    | with_reducible assumption
    | with_reducible apply State.withExp_keeps
    | with_reducible apply State.drawBytes_keeps
    | with_reducible apply KeepsSnd.mk
    | (with_reducible apply Keeps.mk; with_reducible apply KeepsParts.of; first | split)
    | with_reducible apply KeepsSnd.snd)

theorem rngHold_keeps (id : Nat) {s : State} (hk : Keeps z0 s) : Keeps z0 (rngHold s id) :=
  Keeps.quiet (rngHold_writes (wm := 1024) (Writes.refl _ _) (by decide)) (by decide) hk

theorem execRngWaitEnd_keeps (job : Nat) {s : State} (hk : Keeps z0 s) : KeepsOut z0 (execRngWaitEnd job s) :=
  KeepsOut.quiet (execRngWaitEnd_writes (wm := 1024) (Writes.refl _ _) (by decide)) (by decide) hk

theorem execRngHoldExpiry_keeps (job : Nat) {s : State} (hk : Keeps z0 s) :
    KeepsOut z0 (execRngHoldExpiry job s) := by
  unfold execRngHoldExpiry
  try dsimp only
  repeat' (first
    | with_reducible assumption
    | with_reducible apply finish_keeps
    | with_reducible apply KeepsOut.next
    | with_reducible apply KeepsOut.ite)

theorem outputRound_keeps (x0 : Nat) (x1 : Nat) {x2 : State} (hk : Keeps z0 x2) :
    KeepsOptSnd z0 (outputRound x0 x1 x2) := by
  induction x0 generalizing x1 x2 with
  | zero =>
    unfold outputRound
    try dsimp only
    repeat' (first
      | with_reducible apply State.withRng_keeps
      | with_reducible exact KeepsOptSnd.none
      | with_reducible apply KeepsOptSnd.some
      | split)
  | succ n ih =>
    unfold outputRound
    try dsimp only
    repeat' (first
      | with_reducible assumption
      | with_reducible apply ih
      | with_reducible apply State.withRng_keeps
      | with_reducible exact KeepsOptSnd.none
      | with_reducible apply KeepsOptSnd.some
      | split)

theorem outputPart_keeps {s : State} (hk : Keeps z0 s) :
    KeepsOptSnd z0 (outputPart s) := by
  unfold outputPart
  try dsimp only
  repeat' (first
    | with_reducible assumption
    | with_reducible apply outputRound_keeps
    | with_reducible apply KeepsOptSnd.some
    | split)

theorem outputStep_keeps (id : Nat) {s0 : State} (hk : Keeps z0 s0) :
    Keeps z0 (outputStep s0 id) := by
  unfold outputStep
  try dsimp only
  repeat' (first
    | with_reducible assumption
    | with_reducible apply rngDraw_keeps
    | with_reducible apply finishWith_keeps
    | with_reducible apply toEngine_keeps
    | with_reducible apply State.withJob_keeps
    | with_reducible apply State.hostWrite_keeps
    | with_reducible apply State.bumpBys_keeps
    | with_reducible apply Keeps.ite
    | (with_reducible apply Keeps.mk; with_reducible apply KeepsParts.of; first | split)
    | with_reducible apply KeepsSnd.snd)

theorem outputCharge_keeps (p : Nat) (n : Nat) {s : State} (hk : Keeps z0 s) : Keeps z0 (outputCharge s p n) :=
  Keeps.quiet (outputCharge_writes (wm := 2097152) (Writes.refl _ _) (by decide)) (by decide) hk

theorem execRandomBytes_keeps (job : Nat) {s : State} (hk : Keeps z0 s) :
    KeepsOut z0 (execRandomBytes job s) := by
  unfold execRandomBytes
  try dsimp only
  repeat' (first
    | with_reducible assumption
    | with_reducible apply outputCharge_keeps
    | with_reducible apply outputStep_keeps
    | with_reducible apply outputPart_keeps
    | with_reducible apply seed_keeps
    | with_reducible apply finish_keeps
    | with_reducible apply KeepsOut.next
    | with_reducible apply KeepsOut.ite
    | with_reducible apply Keeps.ite
    | (with_reducible apply KeepsOptSnd.of_eq; with_reducible assumption)
    | split)

theorem condChanged_keeps (p : Nat) (old : Nat) (new : Nat) {s : State} (hk : Keeps z0 s) :
    Keeps z0 (condChanged s p old new) := by
  unfold condChanged
  try dsimp only
  repeat' (first
    | intro _
    | with_reducible assumption
    | with_reducible apply startChan_keeps
    | with_reducible apply updatePath_keeps
    | with_reducible apply Keeps.ite
    | with_reducible apply Keeps.foldl)

theorem rngErase_keeps  {s : State} (hk : Keeps z0 s) : Keeps z0 (rngErase s) :=
  Keeps.quiet (rngErase_writes (wm := 2097152) (Writes.refl _ _) (by decide)) (by decide) hk

/-! ### VaultLog -/

theorem State.withVBank_keeps (b : Nat) (f : VBank → VBank) {s : State} (hk : Keeps z0 s) : Keeps z0 (State.withVBank s b f) :=
  Keeps.quiet (State.withVBank_writes (wm := 16777216) (Writes.refl _ _) (by decide)) (by decide) hk

theorem allocLog_keeps (b : Nat) {s : State} (hk : Keeps z0 s) :
    KeepsSnd z0 (allocLog s b) := by
  unfold allocLog
  try dsimp only
  repeat' (first
    | with_reducible assumption
    | with_reducible apply State.withVault_keeps
    | with_reducible apply KeepsSnd.mk)

theorem headOf_keeps (rel : Bool) (b : Nat) {s : State} (hk : Keeps z0 s) :
    KeepsSnd z0 (headOf s rel b) := by
  unfold headOf
  try dsimp only
  repeat' (first
    | with_reducible assumption
    | with_reducible apply allocLog_keeps
    | with_reducible apply State.withVBank_keeps
    | with_reducible apply KeepsSnd.mk
    | (with_reducible apply Keeps.mk; with_reducible apply KeepsParts.of; first | split)
    | with_reducible apply KeepsSnd.snd)

theorem flushPage_keeps (rel : Bool) {s : State} (hk : Keeps z0 s) : Keeps z0 (flushPage s rel) :=
  Keeps.quiet (flushPage_writes (wm := 16777216) (Writes.refl _ _) (by decide)) (by decide) hk

theorem countRate_keeps (n : Nat) {s : State} (hk : Keeps z0 s) : Keeps z0 (countRate s n) :=
  Keeps.quiet (countRate_writes (wm := 16777216) (Writes.refl _ _) (by decide)) (by decide) hk

theorem vAppend_keeps (rel : Bool) (src : VSrc) (data : Bytes) {s : State} (hk : Keeps z0 s) : Keeps z0 (vAppend s rel src data) :=
  Keeps.quiet (vAppend_writes (wm := 16777216) (Writes.refl _ _) (by decide)) (by decide) hk

theorem vDiscard_keeps (a : Nat) (n : Nat) {s : State} (hk : Keeps z0 s) : Keeps z0 (vDiscard s a n) :=
  Keeps.quiet (vDiscard_writes (wm := 16777216) (Writes.refl _ _) (by decide)) (by decide) hk

/-! ### Keys -/

theorem queueCommit_keeps (kind : Nat) (p : Nat) (job : Option Nat) (slot : Nat) (arg : Nat) (body : Bytes) {s : State} (hk : Keeps z0 s) :
    Keeps z0 (queueCommit s kind p job slot arg body) :=
  Keeps.quiet (queueCommit_writes (wm := 1048576) (Writes.refl _ _) (by decide)) (by decide) hk

theorem advanceGen_keeps (i : Nat) {s : State} (hk : Keeps z0 s) : Keeps z0 (advanceGen s i) :=
  Keeps.quiet (advanceGen_writes (wm := 1048576) (Writes.refl _ _) (by decide)) (by decide) hk

theorem freeKey_keeps (i : Nat) {s : State} (hk : Keeps z0 s) : Keeps z0 (freeKey s i) :=
  Keeps.quiet (freeKey_writes (wm := 1048576) (Writes.refl _ _) (by decide)) (by decide) hk

theorem allocKey_keeps (k : KSlot) {s : State} (hk : Keeps z0 s) :
    KeepsSnd z0 (allocKey s k) := by
  unfold allocKey
  try dsimp only
  repeat' (first
    | with_reducible assumption
    | with_reducible apply State.withKeys_keeps
    | with_reducible apply State.drawNat_keeps
    | with_reducible apply KeepsSnd.mk
    | with_reducible apply KeepsSnd.snd)

theorem makeRoom_keeps (n : Nat) (x0 : Nat) {x1 : State} (hk : Keeps z0 x1) : Keeps z0 (makeRoom n x0 x1) :=
  Keeps.quiet (makeRoom_writes (wm := 1048576) (Writes.refl _ _) (by decide)) (by decide) hk

theorem fillCache_keeps (i : Nat) {s : State} (hk : Keeps z0 s) : Keeps z0 (fillCache s i) :=
  Keeps.quiet (fillCache_writes (wm := 1048576) (Writes.refl _ _) (by decide)) (by decide) hk

theorem damageSlot_keeps (i : Nat) (cause : Nat) {s : State} (hk : Keeps z0 s) : Keeps z0 (damageSlot s i cause) :=
  Keeps.quiet (damageSlot_writes (wm := 1048608) (Writes.refl _ _) (by decide)) (by decide) hk

theorem checkEntry_keeps (i : Nat) {s : State} (hk : Keeps z0 s) : Keeps z0 (checkEntry s i) :=
  Keeps.quiet (checkEntry_writes (wm := 1048608) (Writes.refl _ _) (by decide)) (by decide) hk

theorem loadKey_keeps (id : Nat) (i : Nat) (use : Bool) {s : State} (hk : Keeps z0 s) : Keeps z0 (loadKey s id i use) :=
  Keeps.quiet (loadKey_writes (wm := 1049600) (Writes.refl _ _) (by decide)) (by decide) hk

theorem reserve_keeps (i : Nat) {s : State} (hk : Keeps z0 s) : Keeps z0 (reserve s i) :=
  Keeps.quiet (reserve_writes (wm := 1048576) (Writes.refl _ _) (by decide)) (by decide) hk

theorem tryLoad_keeps (id : Nat) (handle : Nat) (a : LoadAsk) {s0 : State} (hk : Keeps z0 s0) :
    KeepsSnd z0 (tryLoad s0 id handle a) := by
  unfold tryLoad
  try dsimp only
  repeat' (first
    | with_reducible assumption
    | with_reducible apply reserve_keeps
    | with_reducible apply loadKey_keeps
    | with_reducible apply checkEntry_keeps
    | with_reducible apply State.bump_keeps
    | with_reducible apply KeepsSnd.mk
    | with_reducible apply Keeps.ite
    | (with_reducible apply Keeps.mk; with_reducible apply KeepsParts.of; first | split))

theorem holdJob_keeps (id : Nat) (w : Nat) {s : State} (hk : Keeps z0 s) : Keeps z0 (holdJob s id w) :=
  Keeps.quiet (holdJob_writes (wm := 1024) (Writes.refl _ _) (by decide)) (by decide) hk

theorem createKey_keeps (id : Nat) (k : KSlot) (out : Nat → Bytes) (tc : Nat) (lane : Nat) {s : State} (hk : Keeps z0 s) :
    Keeps z0 (createKey s id k out tc lane) := by
  unfold createKey
  try dsimp only
  repeat' (first
    | with_reducible assumption
    | with_reducible apply fillCache_keeps
    | with_reducible apply allocKey_keeps
    | with_reducible apply queueCommit_keeps
    | with_reducible apply finishWith_keeps
    | with_reducible apply releaseUnits_keeps
    | with_reducible apply State.withSlot_keeps
    | with_reducible apply State.withJob_keeps
    | with_reducible apply Keeps.ite
    | with_reducible apply KeepsSnd.snd)

theorem execKeyGenSym_keeps (job : Nat) {s : State} (hk : Keeps z0 s) :
    KeepsOut z0 (execKeyGenSym job s) := by
  unfold execKeyGenSym
  try dsimp only
  repeat' (first
    | with_reducible assumption
    | with_reducible apply createKey_keeps
    | with_reducible apply rngHold_keeps
    | with_reducible apply rngDraw_keeps
    | with_reducible apply finish_keeps
    | with_reducible apply toEngine_keeps
    | with_reducible apply KeepsOut.next
    | with_reducible apply KeepsOut.ite
    | (with_reducible apply Keeps.mk; with_reducible apply KeepsParts.of; with_reducible assumption)
    | with_reducible apply KeepsSnd.snd)

theorem withKey_keeps (id : Nat) (op : Nat) (a : LoadAsk) (valid : List Nat) (f : State → State) {s : State} (hk : Keeps z0 s) (hf : ∀ y0,
    Keeps z0 y0 → Keeps z0 (f y0)) :
    KeepsOut z0 (withKey s id op a valid f) := by
  unfold withKey
  try dsimp only
  repeat' (first
    | with_reducible assumption
    | with_reducible apply hf
    | with_reducible apply holdJob_keeps
    | with_reducible apply tryLoad_keeps
    | with_reducible apply finish_keeps
    | with_reducible apply toEngine_keeps
    | with_reducible apply KeepsOut.next
    | with_reducible apply KeepsOut.ite
    | (with_reducible apply Keeps.mk; with_reducible apply KeepsParts.of; first | split)
    | with_reducible apply KeepsSnd.snd)

theorem execKeyInfo_keeps (job : Nat) {s : State} (hk : Keeps z0 s) :
    KeepsOut z0 (execKeyInfo job s) := by
  unfold execKeyInfo
  try dsimp only
  repeat' (first
    | intro _
    | with_reducible assumption
    | with_reducible apply withKey_keeps
    | with_reducible apply finish_keeps)

theorem execKeyDestroy_keeps (job : Nat) {s : State} (hk : Keeps z0 s) :
    KeepsOut z0 (execKeyDestroy job s) := by
  unfold execKeyDestroy
  try dsimp only
  repeat' (first
    | intro _
    | with_reducible assumption
    | with_reducible apply withKey_keeps
    | with_reducible apply State.withSlot_keeps
    | with_reducible apply State.withJob_keeps)

theorem execDestroyComplete_keeps (slot : Nat) {s : State} (hk : Keeps z0 s) :
    KeepsOut z0 (execDestroyComplete slot s) := by
  unfold execDestroyComplete
  try dsimp only
  repeat' (first
    | with_reducible assumption
    | with_reducible apply freeKey_keeps
    | with_reducible apply advanceGen_keeps
    | with_reducible apply queueCommit_keeps
    | with_reducible apply finish_keeps
    | with_reducible apply State.withSlot_keeps
    | with_reducible apply KeepsOut.next
    | with_reducible apply KeepsOut.ite
    | with_reducible apply Keeps.ite)

theorem applyRestrict_keeps (i : Nat) (v : Nat) (job : Option Nat) {s : State} (hk : Keeps z0 s) : Keeps z0 (applyRestrict s i v job) :=
  Keeps.quiet (applyRestrict_writes (wm := 1049600) (Writes.refl _ _) (by decide)) (by decide) hk

theorem execKeyRestrict_keeps (job : Nat) {s : State} (hk : Keeps z0 s) :
    KeepsOut z0 (execKeyRestrict job s) := by
  unfold execKeyRestrict
  try dsimp only
  repeat' (first
    | intro _
    | with_reducible assumption
    | with_reducible apply applyRestrict_keeps
    | with_reducible apply withKey_keeps
    | with_reducible apply queueCommit_keeps
    | with_reducible apply finish_keeps
    | with_reducible apply State.withSlot_keeps
    | with_reducible apply State.withJob_keeps
    | with_reducible apply KeepsOut.next
    | with_reducible apply KeepsOut.ite
    | with_reducible apply Keeps.ite)

theorem execRestrictDone_keeps (job : Nat) {s : State} (hk : Keeps z0 s) :
    KeepsOut z0 (execRestrictDone job s) := by
  unfold execRestrictDone
  try dsimp only
  repeat' (first
    | with_reducible assumption
    | with_reducible apply finish_keeps
    | with_reducible apply KeepsOut.next
    | with_reducible apply KeepsOut.ite)

theorem newSalt_keeps (p : Nat) {s : State} (hk : Keeps z0 s) : Keeps z0 (newSalt s p) :=
  Keeps.quiet (newSalt_writes (wm := 2097410) (Writes.refl _ _) (by decide)) (by decide) hk

theorem beginPurge_keeps (p : Nat) (job : Option Nat) {s : State} (hk : Keeps z0 s) :
    KeepsSnd z0 (beginPurge s p job) := by
  unfold beginPurge
  try dsimp only
  repeat' (first
    | intro _
    | with_reducible assumption
    | with_reducible apply newSalt_keeps
    | with_reducible apply finish_keeps
    | with_reducible apply State.withVault_keeps
    | with_reducible apply State.withKeys_keeps
    | with_reducible apply KeepsSnd.mk
    | with_reducible apply Keeps.foldl
    | (with_reducible apply Keeps.mk; with_reducible apply KeepsParts.of; first | split))

theorem execKeyPurge_keeps (job : Nat) {s : State} (hk : Keeps z0 s) :
    KeepsOut z0 (execKeyPurge job s) := by
  unfold execKeyPurge
  try dsimp only
  repeat' (first
    | with_reducible assumption
    | with_reducible apply beginPurge_keeps
    | with_reducible apply finish_keeps
    | with_reducible apply toEngine_keeps
    | with_reducible apply State.withJob_keeps
    | with_reducible apply KeepsOut.next
    | with_reducible apply KeepsOut.ite
    | with_reducible apply KeepsSnd.snd)

theorem execPurgeWipe_keeps (part : Nat) {s : State} (hk : Keeps z0 s) : KeepsOut z0 (execPurgeWipe part s) :=
  KeepsOut.quiet (execPurgeWipe_writes (wm := 3145986) (Writes.refl _ _) (by decide)) (by decide) hk

theorem serveCommit_keeps (p : Nat) {s : State} (hk : Keeps z0 s) :
    KeepsOpt z0 (serveCommit s p) := by
  unfold serveCommit
  try dsimp only
  repeat' (first
    | with_reducible assumption
    | with_reducible apply vAppend_keeps
    | with_reducible apply State.withKeys_keeps
    | with_reducible exact KeepsOpt.none
    | with_reducible apply KeepsOpt.some
    | split)

theorem commitRound_keeps (x0 : Nat) (x1 : Nat) {x2 : State} (hk : Keeps z0 x2) : Keeps z0 (commitRound x0 x1 x2) :=
  Keeps.quiet (commitRound_writes (wm := 17825792) (Writes.refl _ _) (by decide)) (by decide) hk

theorem execCommitService_keeps  {s : State} (hk : Keeps z0 s) : KeepsOut z0 (execCommitService s) :=
  KeepsOut.quiet (execCommitService_writes (wm := 17825792) (Writes.refl _ _) (by decide)) (by decide) hk

theorem commitJob_keeps (job : Option Nat) {s : State} (hk : Keeps z0 s) :
    Keeps z0 (commitJob s job) := by
  unfold commitJob
  try dsimp only
  repeat' (first
    | with_reducible assumption
    | with_reducible apply finish_keeps
    | with_reducible apply State.withJob_keeps
    | with_reducible apply Keeps.ite
    | (with_reducible apply Keeps.mk; with_reducible apply KeepsParts.of; first | split))

theorem endDestroyer_keeps (k : KSlot) {s : State} (hk : Keeps z0 s) :
    Keeps z0 (endDestroyer s k) := by
  unfold endDestroyer
  try dsimp only
  repeat' (first
    | with_reducible assumption
    | with_reducible apply finish_keeps
    | with_reducible apply Keeps.ite
    | (with_reducible apply Keeps.mk; with_reducible apply KeepsParts.of; first | split))

theorem commitDurable_keeps (c : KCommit) (addr : Nat) {s : State} (hk : Keeps z0 s) :
    Keeps z0 (commitDurable s c addr) := by
  unfold commitDurable
  try dsimp only
  repeat' (first
    | intro _
    | with_reducible assumption
    | with_reducible apply endDestroyer_keeps
    | with_reducible apply commitJob_keeps
    | with_reducible apply applyRestrict_keeps
    | with_reducible apply fillCache_keeps
    | with_reducible apply freeKey_keeps
    | with_reducible apply State.withSlot_keeps
    | with_reducible apply State.withKeys_keeps
    | with_reducible apply State.withJob_keeps
    | with_reducible apply Keeps.ite
    | with_reducible apply Keeps.foldl
    | (with_reducible apply Keeps.mk; with_reducible apply KeepsParts.of; first | split))

theorem execUseCountPage_keeps  {s : State} (hk : Keeps z0 s) : KeepsOut z0 (execUseCountPage s) :=
  KeepsOut.quiet (execUseCountPage_writes (wm := 17825792) (Writes.refl _ _) (by decide)) (by decide) hk

theorem pageDurable_keeps (items : List (Nat × Nat)) {s : State} (hk : Keeps z0 s) : Keeps z0 (pageDurable s items) :=
  Keeps.quiet (pageDurable_writes (wm := 1048576) (Writes.refl _ _) (by decide)) (by decide) hk

theorem execKeyCacheFill_keeps (slot : Nat) (copy1Ok : Bool) (copy2Ok : Bool) {s : State} (hk : Keeps z0 s) :
    KeepsOut z0 (execKeyCacheFill slot copy1Ok copy2Ok s) := by
  unfold execKeyCacheFill
  try dsimp only
  repeat' (first
    | intro _
    | with_reducible assumption
    | with_reducible apply checkEntry_keeps
    | with_reducible apply damageSlot_keeps
    | with_reducible apply fillCache_keeps
    | with_reducible apply finish_keeps
    | with_reducible apply State.bump_keeps
    | with_reducible apply KeepsOut.next
    | with_reducible apply KeepsOut.ite
    | with_reducible apply Keeps.foldl)

theorem destroyVolatile_keeps  {s : State} (hk : Keeps z0 s) : Keeps z0 (destroyVolatile s) :=
  Keeps.quiet (destroyVolatile_writes (wm := 1048576) (Writes.refl _ _) (by decide)) (by decide) hk

theorem wipeCache_keeps  {s : State} (hk : Keeps z0 s) : Keeps z0 (wipeCache s) :=
  Keeps.quiet (wipeCache_writes (wm := 1048576) (Writes.refl _ _) (by decide)) (by decide) hk

theorem abandonCommits_keeps {s : State} (hk : Keeps z0 s) :
    Keeps z0 (abandonCommits s) := by
  unfold abandonCommits
  try dsimp only
  repeat' (first
    | intro _
    | with_reducible assumption
    | with_reducible apply freeKey_keeps
    | with_reducible apply finish_keeps
    | with_reducible apply State.withVault_keeps
    | with_reducible apply State.withKeys_keeps
    | with_reducible apply Keeps.foldl)

theorem rebuildKeys_keeps  {s : State} (hk : Keeps z0 s) : Keeps z0 (rebuildKeys s) :=
  Keeps.quiet (rebuildKeys_writes (wm := 1048576) (Writes.refl _ _) (by decide)) (by decide) hk

end Sys2Proof.Machine
end

