-- ==== Sys2Proof/Laws/Keeps2.lean ====
section
/-! SUPPORT. Keeping of queue and canonical form (see Keeps.lean), operation by operation: Intake, Squads, Access, TagMem, Modes, Guards, Volatile, Tamper, Retry, Arith, Mgmt, Approve. -/

set_option linter.unusedTactic false
set_option linter.unreachableTactic false
set_option linter.unusedVariables false

namespace Sys2Proof.Machine

open Sys2Proof

variable {z0 : State}

/-! ### Intake -/

theorem giveContext_keeps (id : Nat) {s : State} (hk : Keeps z0 s) : Keeps z0 (giveContext s id) :=
  Keeps.quiet (giveContext_writes (wm := 1024) (Writes.refl _ _) (by decide)) (by decide) hk

theorem letIn_keeps (id : Nat) {s : State} (hk : Keeps z0 s) :
    Keeps z0 (letIn s id) := by
  unfold letIn
  try dsimp only
  repeat' (first
    | with_reducible assumption
    | with_reducible apply giveContext_keeps
    | with_reducible apply completeAtIntake_keeps
    | with_reducible apply State.bumps_keeps
    | with_reducible apply Keeps.ite)

theorem execContextFreed_keeps  {s : State} (hk : Keeps z0 s) : KeepsOut z0 (execContextFreed s) :=
  KeepsOut.quiet (execContextFreed_writes (wm := 9216) (Writes.refl _ _) (by decide)) (by decide) hk

theorem arrive_keeps (core : Nat) (p : Nat) (r : Nat) (e : Nat × BitVec 512) {s : State} (hk : Keeps z0 s) :
    Keeps z0 (arrive core p r s e) := by
  unfold arrive
  try dsimp only
  repeat' (first
    | with_reducible apply letIn_keeps
    | with_reducible apply completeAtIntake_keeps
    | with_reducible apply State.withRing_keeps
    | with_reducible apply Keeps.ite
    | (with_reducible apply Keeps.mk; with_reducible apply KeepsParts.of; with_reducible assumption))

theorem execDescriptorArrival_keeps (core : Nat) (descs : List (BitVec 512)) {s : State} (hk : Keeps z0 s) :
    KeepsOut z0 (execDescriptorArrival core descs s) := by
  unfold execDescriptorArrival
  try dsimp only
  repeat' (first
    | intro _
    | with_reducible assumption
    | with_reducible apply arrive_keeps
    | with_reducible apply State.withIntake_keeps
    | with_reducible apply KeepsOut.next
    | with_reducible apply KeepsOut.ite
    | with_reducible apply Keeps.foldl
    | split)

theorem drawUnits_keeps (c : Nat) (n : Nat) (part : Option Nat) {s : State} (hk : Keeps z0 s) : Keeps z0 (drawUnits s c n part) :=
  Keeps.quiet (drawUnits_writes (wm := 4194304) (Writes.refl _ _) (by decide)) (by decide) hk

theorem execChannelGrant_keeps  {s : State} (hk : Keeps z0 s) : KeepsOut z0 (execChannelGrant s) :=
  KeepsOut.quiet (execChannelGrant_writes (wm := 4195456) (Writes.refl _ _) (by decide)) (by decide) hk

/-! ### Squads -/

theorem ownershipWipe_keeps (q : Nat) {s : State} (hk : Keeps z0 s) :
    Keeps z0 (ownershipWipe s q) := by
  unfold ownershipWipe
  try dsimp only
  repeat' (first
    | with_reducible assumption
    | with_reducible apply clearSquad_keeps
    | with_reducible apply State.bump_keeps)

theorem ownSquad_keeps (q : Nat) (p : Nat) {s : State} (hk : Keeps z0 s) :
    Keeps z0 (ownSquad s q p) := by
  unfold ownSquad
  try dsimp only
  repeat' (first
    | with_reducible assumption
    | with_reducible apply ownershipWipe_keeps
    | with_reducible apply State.withSquad_keeps
    | with_reducible apply Keeps.ite)

theorem firstDispatch_keeps (id : Nat) {s : State} (hk : Keeps z0 s) : Keeps z0 (firstDispatch s id) :=
  Keeps.quiet (firstDispatch_writes (wm := 22016) (Writes.refl _ _) (by decide)) (by decide) hk

theorem reservePark_keeps (id : Nat) {s : State} (hk : Keeps z0 s) :
    KeepsOpt z0 (reservePark s id) := by
  unfold reservePark
  try dsimp only
  repeat' (first
    | with_reducible assumption
    | with_reducible apply State.withLanes_keeps
    | with_reducible apply State.withJob_keeps
    | with_reducible exact KeepsOpt.none
    | with_reducible apply KeepsOpt.some
    | split)

theorem failLoad_keeps (id : Nat) (c : Nat) {s : State} (hk : Keeps z0 s) :
    Keeps z0 (failLoad s id c) := by
  unfold failLoad
  try dsimp only
  repeat' (first
    | with_reducible assumption
    | with_reducible apply finishWith_keeps
    | with_reducible apply State.drawNat_keeps
    | with_reducible apply Keeps.ite
    | with_reducible apply KeepsSnd.snd)

theorem loadForSquad_keeps (id : Nat) {s : State} (hk : Keeps z0 s) :
    Keeps z0 (loadForSquad s id) := by
  unfold loadForSquad
  try dsimp only
  repeat' (first
    | with_reducible assumption
    | with_reducible apply failLoad_keeps
    | with_reducible apply holdJob_keeps
    | with_reducible apply tryLoad_keeps
    | with_reducible apply State.withJob_keeps
    | with_reducible apply Keeps.ite
    | with_reducible apply KeepsSnd.snd)

theorem putImage_keeps (u : Nat) (i : LaneImage) {s : State} (hk : Keeps z0 s) :
    Keeps z0 (putImage s u i) := by
  unfold putImage
  try dsimp only
  repeat' (first
    | with_reducible assumption
    | (with_reducible apply Keeps.mk; refine KeepsParts.mem ?_ (fun h => Mem.putCells_wf _ _ (Mem.clear_wf _ _ h)))
    | with_reducible apply State.withUnit_keeps)

theorem checkpoint_keeps (id : Nat) {s : State} (hk : Keeps z0 s) : Keeps z0 (checkpoint s id) :=
  Keeps.quiet (checkpoint_writes (wm := 33554432) (Writes.refl _ _) (by decide)) (by decide) hk

theorem tagContexts_keeps (id : Nat) {s : State} (hk : Keeps z0 s) : Keeps z0 (tagContexts s id) :=
  Keeps.quiet (tagContexts_writes (wm := 33554432) (Writes.refl _ _) (by decide)) (by decide) hk

theorem unpark_keeps (id : Nat) {s : State} (hk : Keeps z0 s) :
    Keeps z0 (unpark s id) := by
  unfold unpark
  try dsimp only
  repeat' (first
    | intro _
    | with_reducible assumption
    | with_reducible apply putImage_keeps
    | with_reducible apply State.withLanes_keeps
    | with_reducible apply State.withJob_keeps
    | with_reducible apply Keeps.foldl
    | (with_reducible apply Keeps.mk; with_reducible apply KeepsParts.of; first | split))

theorem parkJob_keeps (id : Nat) (k : Nat) {s : State} (hk : Keeps z0 s) :
    Keeps z0 (parkJob s id k) := by
  unfold parkJob
  try dsimp only
  repeat' (first
    | with_reducible assumption
    | with_reducible apply leaveSquads_keeps
    | with_reducible apply State.withLanes_keeps
    | with_reducible apply State.withJob_keeps)

theorem seatJob_keeps (id : Nat) {s : State} (hk : Keeps z0 s) :
    Keeps z0 (seatJob s id) := by
  unfold seatJob
  try dsimp only
  repeat' (first
    | with_reducible assumption
    | with_reducible apply loadForSquad_keeps
    | with_reducible apply State.withJob_keeps
    | with_reducible apply Keeps.ite)

theorem putOnSquad_keeps (id : Nat) (q : Nat) {s : State} (hk : Keeps z0 s) :
    Keeps z0 (putOnSquad s id q) := by
  unfold putOnSquad
  try dsimp only
  repeat' (first
    | with_reducible assumption
    | with_reducible apply seatJob_keeps
    | with_reducible apply unpark_keeps
    | with_reducible apply tagContexts_keeps
    | with_reducible apply checkpoint_keeps
    | with_reducible apply firstDispatch_keeps
    | with_reducible apply ownSquad_keeps
    | with_reducible apply State.withSquad_keeps
    | with_reducible apply State.withJob_keeps
    | (with_reducible apply Keeps.mk; with_reducible apply KeepsParts.of; first | split))

theorem reserveGang_keeps (id : Nat) (l : List Nat) {s : State} (hk : Keeps z0 s) : Keeps z0 (reserveGang s id l) :=
  Keeps.quiet (reserveGang_writes (wm := 22016) (Writes.refl _ _) (by decide)) (by decide) hk

theorem place_keeps (id : Nat) (squad : Nat) {s : State} (hk : Keeps z0 s) :
    KeepsOpt z0 (place s id squad) := by
  unfold place
  try dsimp only
  repeat' (first
    | intro _
    | with_reducible assumption
    | with_reducible apply reserveGang_keeps
    | with_reducible apply putOnSquad_keeps
    | with_reducible apply reservePark_keeps
    | with_reducible exact KeepsOpt.none
    | with_reducible apply KeepsOpt.some
    | with_reducible apply KeepsOpt.map
    | with_reducible apply Keeps.ite
    | (with_reducible apply KeepsOpt.of_eq; with_reducible assumption)
    | split)

theorem grant_keeps {s : State} (hk : Keeps z0 s) :
    KeepsOptSnd z0 (grant s) := by
  unfold grant
  try dsimp only
  repeat' (first
    | with_reducible assumption
    | with_reducible exact KeepsOptSnd.none
    | with_reducible apply KeepsOptSnd.some
    | (with_reducible apply Keeps.mk; with_reducible apply KeepsParts.of; with_reducible assumption)
    | split)

theorem chargeDispatch_keeps (p : Nat) (cost : Nat) {s : State} (hk : Keeps z0 s) : Keeps z0 (chargeDispatch s p cost) :=
  Keeps.quiet (chargeDispatch_writes (wm := 8192) (Writes.refl _ _) (by decide)) (by decide) hk

theorem execDispatch_keeps (squad : Nat) (_opa : Bytes) (_opb : Bytes) {s : State} (hk : Keeps z0 s) :
    KeepsOut z0 (execDispatch squad _opa _opb s) := by
  unfold execDispatch
  try dsimp only
  repeat' (first
    | with_reducible assumption
    | with_reducible apply chargeDispatch_keeps
    | with_reducible apply grant_keeps
    | with_reducible apply place_keeps
    | with_reducible apply KeepsOpt.getD
    | with_reducible apply KeepsOut.next
    | with_reducible apply KeepsOut.ite
    | (with_reducible apply KeepsOpt.of_eq; with_reducible assumption)
    | (with_reducible apply KeepsOptSnd.of_eq; with_reducible assumption)
    | split)

theorem execGangSliceStart_keeps (job : Nat) {s : State} (hk : Keeps z0 s) :
    KeepsOut z0 (execGangSliceStart job s) := by
  unfold execGangSliceStart
  try dsimp only
  repeat' (first
    | intro _
    | with_reducible assumption
    | with_reducible apply seatJob_keeps
    | with_reducible apply unpark_keeps
    | with_reducible apply tagContexts_keeps
    | with_reducible apply checkpoint_keeps
    | with_reducible apply ownSquad_keeps
    | with_reducible apply State.withSquad_keeps
    | with_reducible apply State.withJob_keeps
    | with_reducible apply KeepsOut.next
    | with_reducible apply KeepsOut.ite
    | with_reducible apply Keeps.foldl)

theorem execStagingReadDone_keeps (job : Nat) (opa : Bytes) (opb : Bytes) {s : State} (hk : Keeps z0 s) :
    KeepsOut z0 (execStagingReadDone job opa opb s) := by
  unfold execStagingReadDone
  try dsimp only
  repeat' (first
    | with_reducible assumption
    | with_reducible apply loadForSquad_keeps
    | with_reducible apply returnChannel_keeps
    | with_reducible apply State.withJob_keeps
    | with_reducible apply KeepsOut.next
    | with_reducible apply KeepsOut.ite)

/-! ### Access -/

theorem State.withSess_keeps (x : SessId) (f : Sess → Sess) {s : State} (hk : Keeps z0 s) : Keeps z0 (State.withSess s x f) :=
  Keeps.quiet (State.withSess_writes (wm := 524288) (Writes.refl _ _) (by decide)) (by decide) hk

theorem reply_keeps (x : SessId) (msg : Nat) (req : BitVec 16) (body : Bytes) {s : State} (hk : Keeps z0 s) : Keeps z0 (reply s x msg req body) :=
  Keeps.quiet (reply_writes (wm := 524416) (Writes.refl _ _) (by decide)) (by decide) hk

theorem replyStatus_keeps (x : SessId) (msg : Nat) (req : BitVec 16) (st : Nat) (rest : Bytes) {s : State} (hk : Keeps z0 s) : Keeps z0
    (replyStatus s x msg req st rest) :=
  Keeps.quiet (replyStatus_writes (wm := 524416) (Writes.refl _ _) (by decide)) (by decide) hk

theorem onMsg_keeps (x : SessId) (req : BitVec 16) (f : State → State) {s : State} (hk : Keeps z0 s) (hf : ∀ y0, Keeps z0 y0 → Keeps z0 (f y0)) :
    KeepsOut z0 (onMsg s x req f) := by
  unfold onMsg
  try dsimp only
  repeat' (first
    | with_reducible assumption
    | with_reducible apply hf
    | with_reducible apply State.withSess_keeps
    | with_reducible apply KeepsOut.next
    | with_reducible apply KeepsOut.ite
    | split)

theorem replyRead_keeps (x : SessId) (req : BitVec 16) (v : Bytes) (off : Nat) (len : Nat) {s : State} (hk : Keeps z0 s) : Keeps z0
    (replyRead s x req v off len) :=
  Keeps.quiet (replyRead_writes (wm := 524416) (Writes.refl _ _) (by decide)) (by decide) hk

theorem countRefusal_keeps (st : Nat) (rwp : Bool) {s : State} (hk : Keeps z0 s) : Keeps z0 (countRefusal s st rwp) :=
  Keeps.quiet (countRefusal_writes (wm := 1073741824) (Writes.refl _ _) (by decide)) (by decide) hk

theorem actWrite_keeps (x : SessId) (req : BitVec 16) (key : Nat) (v : Bytes) (cond : Bool) (busy : Bool) (f : State → State) {s : State}
    (hk : Keeps z0 s) (hf : ∀ y0, Keeps z0 y0 → Keeps z0 (f y0)) :
    KeepsOut z0 (actWrite s x req key v cond busy f) := by
  unfold actWrite
  try dsimp only
  repeat' (first
    | intro _
    | with_reducible assumption
    | with_reducible apply hf
    | with_reducible apply countRefusal_keeps
    | with_reducible apply onMsg_keeps
    | with_reducible apply replyStatus_keeps
    | with_reducible apply Keeps.ite)

/-! ### TagMem -/

theorem State.withTag_keeps (f : Tag → Tag) {s : State} (hk : Keeps z0 s) : Keeps z0 (State.withTag s f) :=
  Keeps.quiet (State.withTag_writes (wm := 134217728) (Writes.refl _ _) (by decide)) (by decide) hk

theorem tagAdd_keeps (n : Nat) (a : Nat) {s : State} (hk : Keeps z0 s) :
    KeepsOpt z0 (tagAdd s n a) := by
  unfold tagAdd
  try dsimp only
  repeat' (first
    | with_reducible assumption
    | with_reducible apply State.withTag_keeps
    | with_reducible exact KeepsOpt.none
    | with_reducible apply KeepsOpt.some
    | split)

theorem tagTear_keeps (n : Nat) {s : State} (hk : Keeps z0 s) : Keeps z0 (tagTear s n) :=
  Keeps.quiet (tagTear_writes (wm := 134217730) (Writes.refl _ _) (by decide)) (by decide) hk

theorem refreshTag_keeps  {s : State} (hk : Keeps z0 s) : Keeps z0 (refreshTag s) :=
  Keeps.quiet (refreshTag_writes (wm := 134217728) (Writes.refl _ _) (by decide)) (by decide) hk

/-! ### Modes -/

theorem redispatch_keeps (id : Nat) {s : State} (hk : Keeps z0 s) :
    Keeps z0 (redispatch s id) := by
  unfold redispatch
  try dsimp only
  repeat' (first
    | with_reducible assumption
    | with_reducible apply returnChannel_keeps
    | with_reducible apply dropImage_keeps
    | with_reducible apply leaveSquads_keeps
    | with_reducible apply State.withJob_keeps
    | with_reducible apply Keeps.ite)

theorem unbind_keeps (id : Nat) {s : State} (hk : Keeps z0 s) : Keeps z0 (unbind s id) :=
  Keeps.quiet (unbind_writes (wm := 1024) (Writes.refl _ _) (by decide)) (by decide) hk

theorem strikeSquad_keeps (q : Nat) {s : State} (hk : Keeps z0 s) :
    Keeps z0 (strikeSquad s q) := by
  unfold strikeSquad
  try dsimp only
  repeat' (first
    | intro _
    | with_reducible assumption
    | with_reducible apply redispatch_keeps
    | with_reducible apply State.withSquad_keeps
    | with_reducible apply State.present_keeps
    | with_reducible apply strikeIsl_keeps
    | with_reducible apply Keeps.foldl)

theorem strikeEngine_keeps (e : Nat) {s : State} (hk : Keeps z0 s) : Keeps z0 (strikeEngine s e) :=
  Keeps.quiet (strikeEngine_writes (wm := 1072) (Writes.refl _ _) (by decide)) (by decide) hk

theorem loseSquad_keeps (q : Nat) (cause : Nat) {s : State} (hk : Keeps z0 s) :
    Keeps z0 (loseSquad s q cause) := by
  unfold loseSquad
  try dsimp only
  repeat' (first
    | intro _
    | with_reducible assumption
    | with_reducible apply redispatch_keeps
    | with_reducible apply clearSquad_keeps
    | with_reducible apply State.withSquad_keeps
    | with_reducible apply State.event_keeps
    | with_reducible apply State.present_keeps
    | with_reducible apply State.setIsl_keeps
    | with_reducible apply Keeps.ite
    | with_reducible apply Keeps.foldl)

theorem loseEngine_keeps (e : Nat) (cause : Nat) {s : State} (hk : Keeps z0 s) : Keeps z0 (loseEngine s e cause) :=
  Keeps.quiet (loseEngine_writes (wm := 1072) (Writes.refl _ _) (by decide)) (by decide) hk

theorem strikeLean_keeps {s : State} (hk : Keeps z0 s) :
    Keeps z0 (strikeLean s) := by
  unfold strikeLean
  try dsimp only
  repeat' (first
    | intro _
    | with_reducible assumption
    | with_reducible apply strikeEngine_keeps
    | with_reducible apply strikeSquad_keeps
    | with_reducible apply State.withMode_keeps
    | with_reducible apply Keeps.foldl)

theorem hoistLean_keeps  {s : State} (hk : Keeps z0 s) : Keeps z0 (hoistLean s) :=
  Keeps.quiet (hoistLean_writes (wm := 33570928) (Writes.refl _ _) (by decide)) (by decide) hk

theorem enterMode_keeps (m : Nat) (forced : Bool) (cause : Nat) {s : State} (hk : Keeps z0 s) : Keeps z0 (enterMode s m forced cause) :=
  Keeps.quiet (enterMode_writes (wm := 1208516832) (Writes.refl _ _) (by decide)) (by decide) hk

theorem limit60_keeps (on : Bool) {s : State} (hk : Keeps z0 s) : Keeps z0 (limit60 s on) :=
  Keeps.quiet (limit60_writes (wm := 1107296278) (Writes.refl _ _) (by decide)) (by decide) hk

theorem leanOn_keeps (cause : Nat) {s : State} (hk : Keeps z0 s) :
    Keeps z0 (leanOn s cause) := by
  unfold leanOn
  try dsimp only
  repeat' (first
    | with_reducible assumption
    | with_reducible apply limit60_keeps
    | with_reducible apply strikeLean_keeps
    | with_reducible apply State.gset_keeps)

theorem leanOff_keeps  {s : State} (hk : Keeps z0 s) : Keeps z0 (leanOff s) :=
  Keeps.quiet (leanOff_writes (wm := 1107312758) (Writes.refl _ _) (by decide)) (by decide) hk

theorem completeTrans_keeps (t : Transition) {s : State} (hk : Keeps z0 s) :
    Keeps z0 (completeTrans s t) := by
  unfold completeTrans
  try dsimp only
  repeat' (first
    | with_reducible assumption
    | with_reducible apply leanOff_keeps
    | with_reducible apply leanOn_keeps
    | with_reducible apply enterMode_keeps
    | with_reducible apply Keeps.ite)

theorem beginTrans_keeps (target : Nat) (cause : Nat) {s : State} (hk : Keeps z0 s) :
    Keeps z0 (beginTrans s target cause) := by
  unfold beginTrans
  try dsimp only
  repeat' (first
    | with_reducible assumption
    | with_reducible apply completeTrans_keeps
    | with_reducible apply State.withMode_keeps
    | with_reducible apply Keeps.ite)

theorem requestMode_keeps (target : Nat) {s : State} (hk : Keeps z0 s) :
    Keeps z0 (requestMode s target) := by
  unfold requestMode
  try dsimp only
  repeat' (first
    | with_reducible assumption
    | with_reducible apply beginTrans_keeps
    | with_reducible apply Keeps.ite)

theorem takeWaiting_keeps {s : State} (hk : Keeps z0 s) :
    Keeps z0 (takeWaiting s) := by
  unfold takeWaiting
  try dsimp only
  repeat' (first
    | with_reducible assumption
    | with_reducible apply requestMode_keeps
    | with_reducible apply State.withMode_keeps
    | (with_reducible apply Keeps.mk; with_reducible apply KeepsParts.of; first | split))

theorem abortTrans_keeps  {s : State} (hk : Keeps z0 s) : Keeps z0 (abortTrans s) :=
  Keeps.quiet (abortTrans_writes (wm := 64) (Writes.refl _ _) (by decide)) (by decide) hk

theorem loseIsland_keeps (n : Nat) (cause : Nat) {s : State} (hk : Keeps z0 s) :
    Keeps z0 (loseIsland s n cause) := by
  unfold loseIsland
  try dsimp only
  repeat' (first
    | with_reducible assumption
    | with_reducible apply loseEngine_keeps
    | with_reducible apply loseSquad_keeps
    | with_reducible apply emptyIntake_keeps
    | with_reducible apply State.event_keeps
    | with_reducible apply State.setIsl_keeps
    | with_reducible apply Keeps.ite)

theorem countRefuse_keeps (n : Nat) (reason : Nat) {s : State} (hk : Keeps z0 s) : Keeps z0 (countRefuse s n reason) :=
  Keeps.quiet (countRefuse_writes (wm := 1073741824) (Writes.refl _ _) (by decide)) (by decide) hk

theorem refuse_keeps (t : Transition) (n : Nat) (reason : Nat) {s : State} (hk : Keeps z0 s) :
    Keeps z0 (refuse s t n reason) := by
  unfold refuse
  try dsimp only
  repeat' (first
    | with_reducible assumption
    | with_reducible apply countRefuse_keeps
    | with_reducible apply loseIsland_keeps
    | with_reducible apply abortTrans_keeps
    | with_reducible apply takeWaiting_keeps
    | with_reducible apply beginTrans_keeps
    | with_reducible apply State.withMode_keeps
    | with_reducible apply State.event_keeps
    | with_reducible apply Keeps.ite)

theorem execAgentAnswer_keeps (island : Nat) (ans : AgentReply) {s : State} (hk : Keeps z0 s) :
    KeepsOut z0 (execAgentAnswer island ans s) := by
  unfold execAgentAnswer
  try dsimp only
  repeat' (first
    | with_reducible assumption
    | with_reducible apply refuse_keeps
    | with_reducible apply takeWaiting_keeps
    | with_reducible apply completeTrans_keeps
    | with_reducible apply State.withMode_keeps
    | with_reducible apply State.bumps_keeps
    | with_reducible apply KeepsOut.next
    | with_reducible apply KeepsOut.ite
    | split)

theorem execAgentTimeout_keeps (island : Nat) {s : State} (hk : Keeps z0 s) :
    KeepsOut z0 (execAgentTimeout island s) := by
  unfold execAgentTimeout
  try dsimp only
  repeat' (first
    | with_reducible assumption
    | with_reducible apply refuse_keeps
    | with_reducible apply KeepsOut.next
    | with_reducible apply KeepsOut.ite
    | split)

theorem execDelayExpiry_keeps (island : Nat) {s : State} (hk : Keeps z0 s) : KeepsOut z0 (execDelayExpiry island s) :=
  KeepsOut.quiet (execDelayExpiry_writes (wm := 64) (Writes.refl _ _) (by decide)) (by decide) hk

theorem askMode_keeps (target : Nat) {s : State} (hk : Keeps z0 s) :
    Keeps z0 (askMode s target) := by
  unfold askMode
  try dsimp only
  repeat' (first
    | with_reducible assumption
    | with_reducible apply requestMode_keeps
    | with_reducible apply State.withMode_keeps
    | with_reducible apply Keeps.ite)

theorem execModeTarget_keeps (sess : SessId) (req : BitVec 16) (value : Bytes) {s : State} (hk : Keeps z0 s) :
    KeepsOut z0 (execModeTarget sess req value s) := by
  unfold execModeTarget
  try dsimp only
  repeat' (first
    | intro _
    | with_reducible assumption
    | with_reducible apply askMode_keeps
    | with_reducible apply actWrite_keeps
    | with_reducible apply State.gset_keeps)

theorem leaveService_keeps {s : State} (hk : Keeps z0 s) :
    Keeps z0 (leaveService s) := by
  unfold leaveService
  try dsimp only
  repeat' (first
    | with_reducible assumption
    | with_reducible apply takeWaiting_keeps
    | with_reducible apply enterMode_keeps
    | with_reducible apply State.withMode_keeps)

theorem enterService_keeps  {s : State} (hk : Keeps z0 s) : Keeps z0 (enterService s) :=
  Keeps.quiet (enterService_writes (wm := 1208516832) (Writes.refl _ _) (by decide)) (by decide) hk

theorem execServiceEnd_keeps (sess : SessId) (req : BitVec 16) (value : Bytes) {s : State} (hk : Keeps z0 s) :
    KeepsOut z0 (execServiceEnd sess req value s) := by
  unfold execServiceEnd
  try dsimp only
  repeat' (first
    | intro _
    | with_reducible assumption
    | with_reducible apply leaveService_keeps
    | with_reducible apply actWrite_keeps
    | with_reducible apply Keeps.ite)

theorem execServiceLimitExpiry_keeps {s : State} (hk : Keeps z0 s) :
    KeepsOut z0 (execServiceLimitExpiry s) := by
  unfold execServiceLimitExpiry
  try dsimp only
  repeat' (first
    | with_reducible assumption
    | with_reducible apply leaveService_keeps
    | with_reducible apply KeepsOut.next
    | with_reducible apply KeepsOut.ite
    | split)

theorem auxLost_keeps {s : State} (hk : Keeps z0 s) :
    Keeps z0 (auxLost s) := by
  unfold auxLost
  try dsimp only
  repeat' (first
    | with_reducible assumption
    | with_reducible apply abortTrans_keeps
    | with_reducible apply leanOn_keeps
    | with_reducible apply limit60_keeps
    | with_reducible apply enterMode_keeps
    | with_reducible apply State.withPower_keeps
    | with_reducible apply State.gset_keeps
    | with_reducible apply Keeps.ite)

theorem execAuxPowerLoss_keeps {s : State} (hk : Keeps z0 s) :
    KeepsOut z0 (execAuxPowerLoss s) := by
  unfold execAuxPowerLoss
  try dsimp only
  repeat' (first
    | with_reducible assumption
    | with_reducible apply auxLost_keeps
    | with_reducible apply KeepsOut.next)

theorem execAuxPowerReturn_keeps {s : State} (hk : Keeps z0 s) :
    KeepsOut z0 (execAuxPowerReturn s) := by
  unfold execAuxPowerReturn
  try dsimp only
  repeat' (first
    | with_reducible assumption
    | with_reducible apply askMode_keeps
    | with_reducible apply leanOff_keeps
    | with_reducible apply limit60_keeps
    | with_reducible apply State.withPower_keeps
    | with_reducible apply State.gset_keeps
    | with_reducible apply KeepsOut.next
    | with_reducible apply KeepsOut.ite
    | with_reducible apply Keeps.ite)

/-! ### Guards -/

theorem guardRefused_keeps (g : Nat) (i : Nat) (off : Nat) {s : State} (hk : Keeps z0 s) : Keeps z0 (guardRefused s g i off) :=
  Keeps.quiet (guardRefused_writes (wm := 1073741856) (Writes.refl _ _) (by decide)) (by decide) hk

theorem stageSlot_keeps (g : Nat) (slot : Nat) (v : Nat) {s : State} (hk : Keeps z0 s) : Keeps z0 (stageSlot s g slot v) :=
  Keeps.quiet (stageSlot_writes (wm := 65536) (Writes.refl _ _) (by decide)) (by decide) hk

theorem restoreStaging_keeps (gs : List Nat) {s : State} (hk : Keeps z0 s) : Keeps z0 (restoreStaging s gs) :=
  Keeps.quiet (restoreStaging_writes (wm := 65536) (Writes.refl _ _) (by decide)) (by decide) hk

theorem switchGuards_keeps (rules : Tab (Tab Nat)) (change : Nat) {s : State} (hk : Keeps z0 s) : Keeps z0 (switchGuards s rules change) :=
  Keeps.quiet (switchGuards_writes (wm := 1078138528) (Writes.refl _ _) (by decide)) (by decide) hk

theorem endDrain_keeps  {s : State} (hk : Keeps z0 s) : Keeps z0 (endDrain s) :=
  Keeps.quiet (endDrain_writes (wm := 1073807360) (Writes.refl _ _) (by decide)) (by decide) hk

theorem reloadGuards_keeps  {s : State} (hk : Keeps z0 s) : Keeps z0 (reloadGuards s) :=
  Keeps.quiet (reloadGuards_writes (wm := 1073938464) (Writes.refl _ _) (by decide)) (by decide) hk

/-! ### Volatile -/

theorem restartJob_keeps (id : Nat) {s : State} (hk : Keeps z0 s) :
    Keeps z0 (restartJob s id) := by
  unfold restartJob
  try dsimp only
  repeat' (first
    | with_reducible assumption
    | with_reducible apply redispatch_keeps
    | with_reducible apply returnUses_keeps
    | with_reducible apply dropImage_keeps
    | with_reducible apply State.withJob_keeps)

theorem restartStream_keeps (root : Bool) (id : Nat) {s : State} (hk : Keeps z0 s) :
    Keeps z0 (restartStream s root id) := by
  unfold restartStream
  try dsimp only
  repeat' (first
    | with_reducible assumption
    | with_reducible apply zeroFill_keeps
    | with_reducible apply finish_keeps
    | with_reducible apply State.withJob_keeps
    | with_reducible apply Keeps.ite)

theorem eraseVolatile_keeps (root : Bool) {s : State} (hk : Keeps z0 s) :
    Keeps z0 (eraseVolatile s root) := by
  unfold eraseVolatile
  try dsimp only
  repeat' (first
    | intro _
    | with_reducible assumption
    | with_reducible apply restartStream_keeps
    | with_reducible apply restartJob_keeps
    | with_reducible apply abandonCommits_keeps
    | with_reducible apply wipeCache_keeps
    | with_reducible apply destroyVolatile_keeps
    | with_reducible apply rngErase_keeps
    | with_reducible apply squashWhere_keeps
    | with_reducible apply finish_keeps
    | with_reducible apply Keeps.ite
    | with_reducible apply Keeps.foldl)

/-! ### Tamper -/

theorem rootGone_keeps (m : Nat) {s : State} (hk : Keeps z0 s) :
    Keeps z0 (rootGone s m) := by
  unfold rootGone
  try dsimp only
  repeat' (first
    | with_reducible assumption
    | with_reducible apply eraseVolatile_keeps
    | with_reducible apply abortTrans_keeps
    | with_reducible apply enterMode_keeps
    | with_reducible apply State.withTamper_keeps
    | with_reducible apply State.withMode_keeps
    | with_reducible apply State.event_keeps
    | with_reducible apply State.gset_keeps
    | with_reducible apply Keeps.ite)

theorem eraseRoot_keeps (m : Nat) {s : State} (hk : Keeps z0 s) :
    Keeps z0 (eraseRoot s m) := by
  unfold eraseRoot
  try dsimp only
  repeat' (first
    | with_reducible assumption
    | with_reducible apply rootGone_keeps
    | with_reducible apply State.bump_keeps)

theorem sntStore_keeps (r : SntRec) {s : State} (hk : Keeps z0 s) : Keeps z0 (sntStore s r) :=
  Keeps.quiet (sntStore_writes (wm := 1074003968) (Writes.refl _ _) (by decide)) (by decide) hk

theorem cellEraseRoot_keeps  {s : State} (hk : Keeps z0 s) : Keeps z0 (cellEraseRoot s) :=
  Keeps.quiet (cellEraseRoot_writes (wm := 262144) (Writes.refl _ _) (by decide)) (by decide) hk

theorem raiseAlarm_keeps (m : Nat) (count : Nat) (value : Nat) {s : State} (hk : Keeps z0 s) :
    Keeps z0 (raiseAlarm s m count value) := by
  unfold raiseAlarm
  try dsimp only
  repeat' (first
    | with_reducible assumption
    | with_reducible apply cellEraseRoot_keeps
    | with_reducible apply sntStore_keeps
    | with_reducible apply eraseRoot_keeps
    | with_reducible apply rootGone_keeps
    | with_reducible apply State.withTamper_keeps
    | with_reducible apply State.event_keeps
    | with_reducible apply State.bumps_keeps
    | with_reducible apply State.bump_keeps
    | with_reducible apply Keeps.ite)

theorem countEvent_keeps (m : Nat) (value : Nat) {s : State} (hk : Keeps z0 s) :
    Keeps z0 (countEvent s m value) := by
  unfold countEvent
  try dsimp only
  repeat' (first
    | with_reducible assumption
    | with_reducible apply raiseAlarm_keeps
    | with_reducible apply State.withTamper_keeps
    | with_reducible apply State.bumps_keeps
    | with_reducible apply Keeps.ite)

theorem countBurst_keeps (unit : Nat) (value : Nat) {s : State} (hk : Keeps z0 s) :
    Keeps z0 (countBurst s unit value) := by
  unfold countBurst
  try dsimp only
  repeat' (first
    | with_reducible assumption
    | with_reducible apply raiseAlarm_keeps
    | with_reducible apply State.withTamper_keeps
    | with_reducible apply State.bumps_keeps
    | with_reducible apply Keeps.ite)

theorem faultReport_keeps (unit : Nat) {s : State} (hk : Keeps z0 s) :
    Keeps z0 (faultReport s unit) := by
  unfold faultReport
  try dsimp only
  repeat' (first
    | with_reducible assumption
    | with_reducible apply countBurst_keeps
    | with_reducible apply countEvent_keeps
    | with_reducible apply Keeps.ite)

theorem csNote_keeps (x : ChangeSet) (step : Nat) (code : BitVec 12) {s : State} (hk : Keeps z0 s) : Keeps z0 (csNote s x step code) :=
  Keeps.quiet (csNote_writes (wm := 524320) (Writes.refl _ _) (by decide)) (by decide) hk

theorem freeSet_keeps (k : Nat) (final : Nat) (reason : Nat) {s : State} (hk : Keeps z0 s) : Keeps z0 (freeSet s k final reason) :=
  Keeps.quiet (freeSet_writes (wm := 1074331680) (Writes.refl _ _) (by decide)) (by decide) hk

theorem setMachine_keeps (k : Nat) (c : BitVec 12) {s : State} (hk : Keeps z0 s) : Keeps z0 (setMachine s k c) :=
  Keeps.quiet (setMachine_writes (wm := 1074528320) (Writes.refl _ _) (by decide)) (by decide) hk

theorem failMachine_keeps (k : Nat) {s : State} (hk : Keeps z0 s) : Keeps z0 (failMachine s k) :=
  Keeps.quiet (failMachine_writes (wm := 1074724896) (Writes.refl _ _) (by decide)) (by decide) hk

theorem readMachine_keeps (k : Nat) (c : BitVec 12) {s : State} (hk : Keeps z0 s) :
    Keeps z0 (readMachine s k c) := by
  unfold readMachine
  try dsimp only
  repeat' (first
    | with_reducible assumption
    | with_reducible apply failMachine_keeps
    | with_reducible apply setMachine_keeps
    | with_reducible apply countEvent_keeps
    | with_reducible apply State.event_keeps
    | with_reducible apply State.bump_keeps
    | with_reducible apply Keeps.ite
    | (with_reducible apply Keeps.mk; with_reducible apply KeepsParts.of; first | split))

theorem actionRec_keeps (resp : Nat) (outcome : Nat) {s : State} (hk : Keeps z0 s) : Keeps z0 (actionRec s resp outcome) :=
  Keeps.quiet (actionRec_writes (wm := 32) (Writes.refl _ _) (by decide)) (by decide) hk

theorem alertBatch_keeps (l : List Alarm) {s : State} (hk : Keeps z0 s) : Keeps z0 (alertBatch s l) :=
  Keeps.quiet (alertBatch_writes (wm := 1208483972) (Writes.refl _ _) (by decide)) (by decide) hk

theorem startHold_keeps (mons : List Nat) {s : State} (hk : Keeps z0 s) : Keeps z0 (startHold s mons) :=
  Keeps.quiet (startHold_writes (wm := 1074003968) (Writes.refl _ _) (by decide)) (by decide) hk

theorem execBatchExecute_keeps {s : State} (hk : Keeps z0 s) :
    KeepsOut z0 (execBatchExecute s) := by
  unfold execBatchExecute
  try dsimp only
  repeat' (first
    | with_reducible assumption
    | with_reducible apply startHold_keeps
    | with_reducible apply alertBatch_keeps
    | with_reducible apply actionRec_keeps
    | with_reducible apply eraseVolatile_keeps
    | with_reducible apply State.withTamper_keeps
    | with_reducible apply KeepsOut.next
    | with_reducible apply KeepsOut.ite
    | with_reducible apply Keeps.ite)

theorem execQuiesceHoldEnd_keeps {s : State} (hk : Keeps z0 s) :
    KeepsOut z0 (execQuiesceHoldEnd s) := by
  unfold execQuiesceHoldEnd
  try dsimp only
  repeat' (first
    | with_reducible assumption
    | with_reducible apply eraseVolatile_keeps
    | with_reducible apply State.withTamper_keeps
    | with_reducible apply State.event_keeps
    | with_reducible apply State.gset_keeps
    | with_reducible apply KeepsOut.next
    | with_reducible apply KeepsOut.ite
    | split)

theorem execAlertAck_keeps (sess : SessId) (req : BitVec 16) (value : Bytes) {s : State} (hk : Keeps z0 s) : KeepsOut z0 (execAlertAck sess
    req value s) :=
  KeepsOut.quiet (execAlertAck_writes (wm := 1074266240) (Writes.refl _ _) (by decide)) (by decide) hk

theorem handover_keeps (toSnt : Bool) {s : State} (hk : Keeps z0 s) : Keeps z0 (handover s toSnt) :=
  Keeps.quiet (handover_writes (wm := 262144) (Writes.refl _ _) (by decide)) (by decide) hk

theorem sntHandover_keeps  {s : State} (hk : Keeps z0 s) : Keeps z0 (sntHandover s) :=
  Keeps.quiet (sntHandover_writes (wm := 1074004000) (Writes.refl _ _) (by decide)) (by decide) hk

theorem takeOut_keeps (island : Nat) (cause : Nat) {s : State} (hk : Keeps z0 s) :
    Keeps z0 (takeOut s island cause) := by
  unfold takeOut
  try dsimp only
  repeat' (first
    | with_reducible assumption
    | with_reducible apply handover_keeps
    | with_reducible apply loseIsland_keeps
    | with_reducible apply State.withTamper_keeps
    | with_reducible apply Keeps.ite)

theorem execCrossingTimeout_keeps (island : Nat) {s : State} (hk : Keeps z0 s) :
    KeepsOut z0 (execCrossingTimeout island s) := by
  unfold execCrossingTimeout
  try dsimp only
  repeat' (first
    | with_reducible assumption
    | with_reducible apply takeOut_keeps
    | with_reducible apply KeepsOut.next
    | with_reducible apply KeepsOut.ite)

theorem countClock_keeps (island : Nat) (value : Nat) {s : State} (hk : Keeps z0 s) :
    Keeps z0 (countClock s island value) := by
  unfold countClock
  try dsimp only
  repeat' (first
    | with_reducible assumption
    | with_reducible apply takeOut_keeps
    | with_reducible apply countEvent_keeps
    | with_reducible apply Keeps.ite)

theorem execMonitorSample_keeps (mon : Nat) (unit : Nat) (value : Nat) (holds : Bool) {s : State} (hk : Keeps z0 s) :
    KeepsOut z0 (execMonitorSample mon unit value holds s) := by
  unfold execMonitorSample
  try dsimp only
  repeat' (first
    | with_reducible assumption
    | with_reducible apply countClock_keeps
    | with_reducible apply readMachine_keeps
    | with_reducible apply faultReport_keeps
    | with_reducible apply countEvent_keeps
    | with_reducible apply State.withTamper_keeps
    | with_reducible apply KeepsOut.next
    | with_reducible apply KeepsOut.ite)

/-! ### Retry -/

theorem failLane_keeps (q : Nat) (half : Nat) (lane : Nat) {s : State} (hk : Keeps z0 s) : Keeps z0 (failLane s q half lane) :=
  Keeps.quiet (failLane_writes (wm := 16416) (Writes.refl _ _) (by decide)) (by decide) hk

theorem rewind_keeps (id : Nat) {s : State} (hk : Keeps z0 s) :
    Keeps z0 (rewind s id) := by
  unfold rewind
  try dsimp only
  repeat' (first
    | intro _
    | with_reducible assumption
    | with_reducible apply putImage_keeps
    | with_reducible apply Keeps.foldl
    | (with_reducible apply Keeps.mk; with_reducible apply KeepsParts.of; first | split))

theorem swapLanes_keeps (q : Nat) (lanes : List Nat) {s : State} (hk : Keeps z0 s) :
    Keeps z0 (swapLanes s q lanes) := by
  unfold swapLanes
  try dsimp only
  repeat' (first
    | intro _
    | with_reducible assumption
    | with_reducible apply rewind_keeps
    | with_reducible apply failLane_keeps
    | with_reducible apply loseSquad_keeps
    | with_reducible apply Keeps.ite
    | with_reducible apply Keeps.foldl)

theorem countThird_keeps (q : Nat) {s : State} (hk : Keeps z0 s) : Keeps z0 (countThird s q) :=
  Keeps.quiet (countThird_writes (wm := 16384) (Writes.refl _ _) (by decide)) (by decide) hk

theorem localise_keeps (q : Nat) {s : State} (hk : Keeps z0 s) :
    KeepsSnd z0 (localise s q) := by
  unfold localise
  try dsimp only
  repeat' (first
    | with_reducible assumption
    | with_reducible apply State.drawNat_keeps
    | with_reducible apply KeepsSnd.mk
    | with_reducible apply KeepsSnd.snd)

theorem localiseSwap_keeps (id : Nat) (q : Nat) {s : State} (hk : Keeps z0 s) :
    Keeps z0 (localiseSwap s id q) := by
  unfold localiseSwap
  try dsimp only
  repeat' (first
    | with_reducible assumption
    | with_reducible apply localise_keeps
    | with_reducible apply swapLanes_keeps
    | with_reducible apply rewind_keeps
    | with_reducible apply State.withSquad_keeps
    | with_reducible apply Keeps.ite
    | with_reducible apply KeepsSnd.snd)

theorem retryJob_keeps (id : Nat) (q : Nat) {s : State} (hk : Keeps z0 s) :
    Keeps z0 (retryJob s id q) := by
  unfold retryJob
  try dsimp only
  repeat' (first
    | with_reducible assumption
    | with_reducible apply localiseSwap_keeps
    | with_reducible apply countThird_keeps
    | with_reducible apply rewind_keeps
    | with_reducible apply redispatch_keeps
    | with_reducible apply finish_keeps
    | with_reducible apply State.withJob_keeps
    | with_reducible apply State.bump_keeps
    | with_reducible apply Keeps.ite)

theorem laneFault_keeps (id : Nat) (q : Nat) (e : GE) (code : Nat) (detail : Nat) {s : State} (hk : Keeps z0 s) :
    Keeps z0 (laneFault s id q e code detail) := by
  unfold laneFault
  try dsimp only
  repeat' (first
    | with_reducible assumption
    | with_reducible apply retryJob_keeps
    | with_reducible apply faultReport_keeps
    | with_reducible apply State.report_keeps
    | with_reducible apply State.bump_keeps)

theorem releaseFail_keeps (id : Nat) {s : State} (hk : Keeps z0 s) :
    Keeps z0 (releaseFail s id) := by
  unfold releaseFail
  try dsimp only
  repeat' (first
    | with_reducible assumption
    | with_reducible apply laneFault_keeps)

/-! ### Arith -/

theorem runSlice_keeps (id : Nat) (f : State → State) {s : State} (hk : Keeps z0 s) (hf : ∀ y0, Keeps z0 y0 → Keeps z0 (f y0)) :
    Keeps z0 (runSlice s id f) := by
  unfold runSlice
  try dsimp only
  repeat' (first
    | with_reducible assumption
    | with_reducible apply hf
    | with_reducible apply parkJob_keeps
    | with_reducible apply rngHold_keeps
    | with_reducible apply Keeps.ite
    | (with_reducible apply Keeps.mk; with_reducible apply KeepsParts.of; first | split))

theorem onSquad_keeps (id : Nat) (op : Nat) (f : State → State) {s : State} (hk : Keeps z0 s) (hf : ∀ y0, Keeps z0 y0 → Keeps z0 (f y0)) :
    KeepsOut z0 (onSquad s id op f) := by
  unfold onSquad
  try dsimp only
  repeat' (first
    | intro _
    | with_reducible assumption
    | with_reducible apply hf
    | with_reducible apply runSlice_keeps
    | with_reducible apply loadForSquad_keeps
    | with_reducible apply KeepsOut.next
    | with_reducible apply KeepsOut.ite
    | with_reducible apply Keeps.ite)

theorem passJob_keeps (id : Nat) (out : Bytes) (tc : Nat) (b : Nat) {s : State} (hk : Keeps z0 s) :
    Keeps z0 (passJob s id out tc b) := by
  unfold passJob
  try dsimp only
  repeat' (first
    | with_reducible assumption
    | with_reducible apply finishWith_keeps)

theorem failValid_keeps (id : Nat) (status : Nat) {s : State} (hk : Keeps z0 s) :
    Keeps z0 (failValid s id status) := by
  unfold failValid
  try dsimp only
  repeat' (first
    | with_reducible assumption
    | with_reducible apply finishWith_keeps)

theorem runGeneric_keeps (id : Nat) (checkB : Bool) (r : GenOps → Option Nat) {s : State} (hk : Keeps z0 s) :
    Keeps z0 (runGeneric s id checkB r) := by
  unfold runGeneric
  try dsimp only
  repeat' (first
    | with_reducible assumption
    | with_reducible apply failValid_keeps
    | with_reducible apply passJob_keeps
    | with_reducible apply Keeps.ite
    | (with_reducible apply Keeps.mk; with_reducible apply KeepsParts.of; first | split))

theorem execModadd_keeps (job : Nat) {s : State} (hk : Keeps z0 s) :
    KeepsOut z0 (execModadd job s) := by
  unfold execModadd
  try dsimp only
  repeat' (first
    | intro _
    | with_reducible assumption
    | with_reducible apply runGeneric_keeps
    | with_reducible apply onSquad_keeps)

theorem execModmul_keeps (job : Nat) {s : State} (hk : Keeps z0 s) :
    KeepsOut z0 (execModmul job s) := by
  unfold execModmul
  try dsimp only
  repeat' (first
    | intro _
    | with_reducible assumption
    | with_reducible apply runGeneric_keeps
    | with_reducible apply onSquad_keeps)

theorem execModexp_keeps (job : Nat) {s : State} (hk : Keeps z0 s) :
    KeepsOut z0 (execModexp job s) := by
  unfold execModexp
  try dsimp only
  repeat' (first
    | intro _
    | with_reducible assumption
    | with_reducible apply runGeneric_keeps
    | with_reducible apply onSquad_keeps)

theorem execModinv_keeps (job : Nat) {s : State} (hk : Keeps z0 s) :
    KeepsOut z0 (execModinv job s) := by
  unfold execModinv
  try dsimp only
  repeat' (first
    | intro _
    | with_reducible assumption
    | with_reducible apply runGeneric_keeps
    | with_reducible apply onSquad_keeps)

/-! ### Mgmt -/

theorem onRole_keeps (x : SessId) (req : BitVec 16) (msg : Nat) (may : Nat → Bool) (f : State → State) {s : State} (hk : Keeps z0 s) (hf :
    ∀ y0, Keeps z0 y0 → Keeps z0 (f y0)) :
    KeepsOut z0 (onRole s x req msg may f) := by
  unfold onRole
  try dsimp only
  repeat' (first
    | intro _
    | with_reducible assumption
    | with_reducible apply hf
    | with_reducible apply onMsg_keeps
    | with_reducible apply replyStatus_keeps
    | with_reducible apply Keeps.ite)

theorem refuseForm_keeps (x : SessId) (m : Bytes) {s : State} (hk : Keeps z0 s) : KeepsOut z0 (refuseForm s x m) :=
  KeepsOut.quiet (refuseForm_writes (wm := 524416) (Writes.refl _ _) (by decide)) (by decide) hk

theorem execMbGo_keeps  {s : State} (hk : Keeps z0 s) : KeepsOut z0 (execMbGo s) :=
  KeepsOut.quiet (execMbGo_writes (wm := 524416) (Writes.refl _ _) (by decide)) (by decide) hk

theorem execNopMessage_keeps (sess : SessId) (req : BitVec 16) {s : State} (hk : Keeps z0 s) : KeepsOut z0 (execNopMessage sess req s) :=
  KeepsOut.quiet (execNopMessage_writes (wm := 524416) (Writes.refl _ _) (by decide)) (by decide) hk

theorem execMsgUnknown_keeps (sess : SessId) (req : BitVec 16) (msg : Nat) {s : State} (hk : Keeps z0 s) : KeepsOut z0 (execMsgUnknown sess
    req msg s) :=
  KeepsOut.quiet (execMsgUnknown_writes (wm := 524416) (Writes.refl _ _) (by decide)) (by decide) hk

theorem execDescribe_keeps (sess : SessId) (req : BitVec 16) (index : Nat) (sub : Nat) {s : State} (hk : Keeps z0 s) : KeepsOut z0
    (execDescribe sess req index sub s) :=
  KeepsOut.quiet (execDescribe_writes (wm := 524416) (Writes.refl _ _) (by decide)) (by decide) hk

theorem execAuthChallenge_keeps (req : BitVec 16) {s : State} (hk : Keeps z0 s) : KeepsOut z0 (execAuthChallenge req s) :=
  KeepsOut.quiet (execAuthChallenge_writes (wm := 524418) (Writes.refl _ _) (by decide)) (by decide) hk

theorem execAuthResponse_keeps (req : BitVec 16) (cred : Nat) (sig : Bytes) {s : State} (hk : Keeps z0 s) : KeepsOut z0 (execAuthResponse
    req cred sig s) :=
  KeepsOut.quiet (execAuthResponse_writes (wm := 524416) (Writes.refl _ _) (by decide)) (by decide) hk

theorem dropOfficer_keeps  {s : State} (hk : Keeps z0 s) : Keeps z0 (dropOfficer s) :=
  Keeps.quiet (dropOfficer_writes (wm := 524288) (Writes.refl _ _) (by decide)) (by decide) hk

theorem execAuthDrop_keeps (req : BitVec 16) {s : State} (hk : Keeps z0 s) : KeepsOut z0 (execAuthDrop req s) :=
  KeepsOut.quiet (execAuthDrop_writes (wm := 524416) (Writes.refl _ _) (by decide)) (by decide) hk

theorem execOfficerIdle_keeps  {s : State} (hk : Keeps z0 s) : KeepsOut z0 (execOfficerIdle s) :=
  KeepsOut.quiet (execOfficerIdle_writes (wm := 524288) (Writes.refl _ _) (by decide)) (by decide) hk

theorem reopenMailbox_keeps  {s : State} (hk : Keeps z0 s) : Keeps z0 (reopenMailbox s) :=
  Keeps.quiet (reopenMailbox_writes (wm := 524288) (Writes.refl _ _) (by decide)) (by decide) hk

theorem gapEvent_keeps (ev : Nat) (role : Nat) {s : State} (hk : Keeps z0 s) : Keeps z0 (gapEvent s ev role) :=
  Keeps.quiet (gapEvent_writes (wm := 34) (Writes.refl _ _) (by decide)) (by decide) hk

theorem closeGap_keeps (n : Nat) {s : State} (hk : Keeps z0 s) : Keeps z0 (closeGap s n) :=
  Keeps.quiet (closeGap_writes (wm := 524322) (Writes.refl _ _) (by decide)) (by decide) hk

theorem closeAllGap_keeps  {s : State} (hk : Keeps z0 s) : Keeps z0 (closeAllGap s) :=
  Keeps.quiet (closeAllGap_writes (wm := 524322) (Writes.refl _ _) (by decide)) (by decide) hk

theorem execHello_keeps (nonce : Bytes) (eph : Bytes) (cert : Bytes) (key : Bytes) {s : State} (hk : Keeps z0 s) : KeepsOut z0 (execHello
    nonce eph cert key s) :=
  KeepsOut.quiet (execHello_writes (wm := 524322) (Writes.refl _ _) (by decide)) (by decide) hk

theorem execFinish_keeps (sess : Nat) (sig : Bytes) {s : State} (hk : Keeps z0 s) : KeepsOut z0 (execFinish sess sig s) :=
  KeepsOut.quiet (execFinish_writes (wm := 524322) (Writes.refl _ _) (by decide)) (by decide) hk

theorem execClose_keeps (sess : Nat) (_req : BitVec 16) {s : State} (hk : Keeps z0 s) : KeepsOut z0 (execClose sess _req s) :=
  KeepsOut.quiet (execClose_writes (wm := 524322) (Writes.refl _ _) (by decide)) (by decide) hk

theorem execGapSessionExpiry_keeps (sess : Nat) {s : State} (hk : Keeps z0 s) : KeepsOut z0 (execGapSessionExpiry sess s) :=
  KeepsOut.quiet (execGapSessionExpiry_writes (wm := 524322) (Writes.refl _ _) (by decide)) (by decide) hk

theorem execNotifyAck_keeps (sess : Nat) (req : BitVec 16) {s : State} (hk : Keeps z0 s) : KeepsOut z0 (execNotifyAck sess req s) :=
  KeepsOut.quiet (execNotifyAck_writes (wm := 524288) (Writes.refl _ _) (by decide)) (by decide) hk

theorem execNotifyResend_keeps (sess : Nat) (req : BitVec 16) {s : State} (hk : Keeps z0 s) : KeepsOut z0 (execNotifyResend sess req s) :=
  KeepsOut.quiet (execNotifyResend_writes (wm := 524288) (Writes.refl _ _) (by decide)) (by decide) hk

theorem takeFrame_keeps (x0 : FrameKind) {s : State} (hk : Keeps z0 s) : KeepsOut z0 (takeFrame s x0) :=
  KeepsOut.quiet (takeFrame_writes (wm := 1074266240) (Writes.refl _ _) (by decide)) (by decide) hk

theorem execInboundFrame_keeps (frame : FrameKind) {s : State} (hk : Keeps z0 s) : KeepsOut z0 (execInboundFrame frame s) :=
  KeepsOut.quiet (execInboundFrame_writes (wm := 1074266240) (Writes.refl _ _) (by decide)) (by decide) hk

theorem guardStep_keeps (x : ChangeSet) (c : Nat) {s : State} (hk : Keeps z0 s) : Keeps z0 (guardStep s x c) :=
  Keeps.quiet (guardStep_writes (wm := 1073741824) (Writes.refl _ _) (by decide)) (by decide) hk

theorem execCsSeal_keeps (sess : SessId) (req : BitVec 16) {s : State} (hk : Keeps z0 s) : KeepsOut z0 (execCsSeal sess req s) :=
  KeepsOut.quiet (execCsSeal_writes (wm := 1074266272) (Writes.refl _ _) (by decide)) (by decide) hk

theorem execCsSign_keeps (sess : SessId) (req : BitVec 16) (change : Nat) (cred : Nat) (sig : Bytes) {s : State} (hk : Keeps z0 s) :
    KeepsOut z0 (execCsSign sess req change cred sig s) :=
  KeepsOut.quiet (execCsSign_writes (wm := 1074331808) (Writes.refl _ _) (by decide)) (by decide) hk

theorem execCsCancel_keeps (sess : SessId) (req : BitVec 16) (change : Nat) {s : State} (hk : Keeps z0 s) : KeepsOut z0 (execCsCancel sess
    req change s) :=
  KeepsOut.quiet (execCsCancel_writes (wm := 1074331808) (Writes.refl _ _) (by decide)) (by decide) hk

theorem execCsQuery_keeps (sess : SessId) (req : BitVec 16) (change : Nat) (off : Nat) {s : State} (hk : Keeps z0 s) : KeepsOut z0
    (execCsQuery sess req change off s) :=
  KeepsOut.quiet (execCsQuery_writes (wm := 524416) (Writes.refl _ _) (by decide)) (by decide) hk

theorem execCsDiscard_keeps (sess : SessId) (req : BitVec 16) {s : State} (hk : Keeps z0 s) : KeepsOut z0 (execCsDiscard sess req s) :=
  KeepsOut.quiet (execCsDiscard_writes (wm := 524416) (Writes.refl _ _) (by decide)) (by decide) hk

theorem execCountersignExpiry_keeps (slot : Nat) {s : State} (hk : Keeps z0 s) : KeepsOut z0 (execCountersignExpiry slot s) :=
  KeepsOut.quiet (execCountersignExpiry_writes (wm := 1074331680) (Writes.refl _ _) (by decide)) (by decide) hk

theorem approve_keeps (k : Nat) (slot : Nat) (counter : Nat) {s : State} (hk : Keeps z0 s) :
    KeepsSnd z0 (approve s k slot counter) := by
  unfold approve
  try dsimp only
  repeat' (first
    | with_reducible assumption
    | with_reducible apply freeSet_keeps
    | with_reducible apply csNote_keeps
    | with_reducible apply State.withMgmt_keeps
    | with_reducible apply KeepsSnd.mk
    | (with_reducible apply Keeps.mk; with_reducible apply KeepsParts.of; first | split))

theorem losePower_keeps  {s : State} (hk : Keeps z0 s) : Keeps z0 (losePower s) :=
  Keeps.quiet (losePower_writes (wm := 524288) (Writes.refl _ _) (by decide)) (by decide) hk

theorem endCredSessions_keeps (k : Nat) {s : State} (hk : Keeps z0 s) : Keeps z0 (endCredSessions s k) :=
  Keeps.quiet (endCredSessions_writes (wm := 524322) (Writes.refl _ _) (by decide)) (by decide) hk

/-! ### Approve -/

theorem State.withAppr_keeps (f : Approvals → Approvals) {s : State} (hk : Keeps z0 s) : Keeps z0 (State.withAppr s f) :=
  Keeps.quiet (State.withAppr_writes (wm := 67108864) (Writes.refl _ _) (by decide)) (by decide) hk

theorem State.withTok_keeps (b : Bool) (f : TokSt → TokSt) {s : State} (hk : Keeps z0 s) : Keeps z0 (State.withTok s b f) :=
  Keeps.quiet (State.withTok_writes (wm := 67108864) (Writes.refl _ _) (by decide)) (by decide) hk

theorem setResult_keeps (b : Bool) (st : Nat) {s : State} (hk : Keeps z0 s) : Keeps z0 (setResult s b st) :=
  Keeps.quiet (setResult_writes (wm := 1073741824) (Writes.refl _ _) (by decide)) (by decide) hk

theorem sendTok_keeps (b : Bool) (g : TokStage) {s : State} (hk : Keeps z0 s) : Keeps z0 (sendTok s b g) :=
  Keeps.quiet (sendTok_writes (wm := 67108864) (Writes.refl _ _) (by decide)) (by decide) hk

theorem endRequest_keeps (b : Bool) (st : Nat) {s : State} (hk : Keeps z0 s) : Keeps z0 (endRequest s b st) :=
  Keeps.quiet (endRequest_writes (wm := 1140850688) (Writes.refl _ _) (by decide)) (by decide) hk

theorem resolveMidstep_keeps (b : Bool) (m : Midstep) (counted : Bool) {s : State} (hk : Keeps z0 s) : Keeps z0 (resolveMidstep s b m counted) :=
  Keeps.quiet (resolveMidstep_writes (wm := 67108896) (Writes.refl _ _) (by decide)) (by decide) hk

theorem becomeReady_keeps (b : Bool) (slot : Nat) (counter : Nat) {s : State} (hk : Keeps z0 s) : Keeps z0 (becomeReady s b slot counter) :=
  Keeps.quiet (becomeReady_writes (wm := 67108896) (Writes.refl _ _) (by decide)) (by decide) hk

theorem takeReceipt_keeps (b : Bool) (sw : Nat) (data : Bytes) {s : State} (hk : Keeps z0 s) : Keeps z0 (takeReceipt s b sw data) :=
  Keeps.quiet (takeReceipt_writes (wm := 1141440544) (Writes.refl _ _) (by decide)) (by decide) hk

theorem takeApproval_keeps (b : Bool) (r : AppReq) (data : Bytes) {s : State} (hk : Keeps z0 s) : Keeps z0 (takeApproval s b r data) :=
  Keeps.quiet (takeApproval_writes (wm := 1141440544) (Writes.refl _ _) (by decide)) (by decide) hk

theorem takePin_keeps (b : Bool) (r : AppReq) (sw : Nat) {s : State} (hk : Keeps z0 s) : Keeps z0 (takePin s b r sw) :=
  Keeps.quiet (takePin_writes (wm := 1141440544) (Writes.refl _ _) (by decide)) (by decide) hk

theorem tokGone_keeps (b : Bool) (g : TokStage) (st : Nat) {s : State} (hk : Keeps z0 s) : Keeps z0 (tokGone s b g st) :=
  Keeps.quiet (tokGone_writes (wm := 1140850720) (Writes.refl _ _) (by decide)) (by decide) hk

theorem blockFails_keeps (b : Bool) {s : State} (hk : Keeps z0 s) : Keeps z0 (blockFails s b) :=
  Keeps.quiet (blockFails_writes (wm := 1140850720) (Writes.refl _ _) (by decide)) (by decide) hk

theorem grantWtx_keeps (b : Bool) (secs : Nat) {s : State} (hk : Keeps z0 s) : Keeps z0 (grantWtx s b secs) :=
  Keeps.quiet (grantWtx_writes (wm := 1140850720) (Writes.refl _ _) (by decide)) (by decide) hk

theorem takeResp_keeps (b : Bool) (sw : Nat) (data : Bytes) {s : State} (hk : Keeps z0 s) : Keeps z0 (takeResp s b sw data) :=
  Keeps.quiet (takeResp_writes (wm := 1141440544) (Writes.refl _ _) (by decide)) (by decide) hk

theorem beginRequest_keeps (b : Bool) (v : Bytes) {s : State} (hk : Keeps z0 s) :
    KeepsSnd z0 (beginRequest s b v) := by
  unfold beginRequest
  try dsimp only
  repeat' (first
    | with_reducible assumption
    | with_reducible apply sendTok_keeps
    | with_reducible apply setResult_keeps
    | with_reducible apply State.withAppr_keeps
    | with_reducible apply KeepsSnd.mk
    | (with_reducible apply Keeps.mk; with_reducible apply KeepsParts.of; first | split))

theorem requestWrite_keeps (x : SessId) (req : BitVec 16) (b : Bool) (v : Bytes) {s : State} (hk : Keeps z0 s) : Keeps z0 (requestWrite s x
    req b v) :=
  Keeps.quiet (requestWrite_writes (wm := 1141375104) (Writes.refl _ _) (by decide)) (by decide) hk

theorem recheckTok_keeps  {s : State} (hk : Keeps z0 s) : Keeps z0 (recheckTok s) :=
  Keeps.quiet (recheckTok_writes (wm := 67108864) (Writes.refl _ _) (by decide)) (by decide) hk

end Sys2Proof.Machine
end

