-- ==== Sys2Proof/Laws/Keeps3.lean ====
section
/-! SUPPORT. Keeping of queue and canonical form (see Keeps.lean), operation by operation: Classical, Lattice, KeyMove, Lanes, Streams, DmaCh, Flash, RegSpace, DmaOps. -/

set_option linter.unusedTactic false
set_option linter.unreachableTactic false
set_option linter.unusedVariables false

namespace Sys2Proof.Machine

open Sys2Proof

variable {z0 : State}

/-! ### Classical -/

theorem rsaPrivate_keeps (id : Nat) (x : Nat) (out : Nat → State) {s : State} (hk : Keeps z0 s) (hout : ∀ y0, Keeps z0 (out y0)) :
    Keeps z0 (rsaPrivate s id x out) := by
  unfold rsaPrivate
  try dsimp only
  repeat' (first
    | with_reducible assumption
    | with_reducible apply hout
    | with_reducible apply releaseFail_keeps
    | with_reducible apply Keeps.ite)

theorem rsaOut_keeps (id : Nat) (x : Nat) {s : State} (hk : Keeps z0 s) :
    Keeps z0 (rsaOut s id x) := by
  unfold rsaOut
  try dsimp only
  repeat' (first
    | intro _
    | with_reducible assumption
    | with_reducible apply rsaPrivate_keeps
    | with_reducible apply passJob_keeps)

theorem execRsaPrivate_keeps (job : Nat) {s : State} (hk : Keeps z0 s) :
    KeepsOut z0 (execRsaPrivate job s) := by
  unfold execRsaPrivate
  try dsimp only
  repeat' (first
    | intro _
    | with_reducible assumption
    | with_reducible apply rsaOut_keeps
    | with_reducible apply failValid_keeps
    | with_reducible apply onSquad_keeps
    | with_reducible apply Keeps.ite)

theorem execRsaPublic_keeps (job : Nat) {s : State} (hk : Keeps z0 s) :
    KeepsOut z0 (execRsaPublic job s) := by
  unfold execRsaPublic
  try dsimp only
  repeat' (first
    | intro _
    | with_reducible assumption
    | with_reducible apply failValid_keeps
    | with_reducible apply passJob_keeps
    | with_reducible apply onSquad_keeps
    | with_reducible apply Keeps.ite)

theorem execRsaSignV15_keeps (job : Nat) {s : State} (hk : Keeps z0 s) :
    KeepsOut z0 (execRsaSignV15 job s) := by
  unfold execRsaSignV15
  try dsimp only
  repeat' (first
    | intro _
    | with_reducible assumption
    | with_reducible apply rsaOut_keeps
    | with_reducible apply onSquad_keeps)

theorem execRsaSignPss_keeps (job : Nat) {s : State} (hk : Keeps z0 s) :
    KeepsOut z0 (execRsaSignPss job s) := by
  unfold execRsaSignPss
  try dsimp only
  repeat' (first
    | intro _
    | with_reducible assumption
    | with_reducible apply rsaOut_keeps
    | with_reducible apply onSquad_keeps
    | with_reducible apply rngDraw_keeps
    | (with_reducible apply Keeps.mk; with_reducible apply KeepsParts.of; first | split)
    | with_reducible apply KeepsSnd.snd)

theorem rsaVerify_keeps (id : Nat) (form : Desc → Nat → Bytes → Bytes → Bool) (matches_ : Desc → Nat → Bytes → Bytes → Bool) {s : State}
    (hk : Keeps z0 s) :
    Keeps z0 (rsaVerify s id form matches_) := by
  unfold rsaVerify
  try dsimp only
  repeat' (first
    | with_reducible assumption
    | with_reducible apply failValid_keeps
    | with_reducible apply passJob_keeps
    | with_reducible apply Keeps.ite)

theorem execRsaVerifyV15_keeps (job : Nat) {s : State} (hk : Keeps z0 s) :
    KeepsOut z0 (execRsaVerifyV15 job s) := by
  unfold execRsaVerifyV15
  try dsimp only
  repeat' (first
    | intro _
    | with_reducible assumption
    | with_reducible apply rsaVerify_keeps
    | with_reducible apply onSquad_keeps)

theorem execRsaVerifyPss_keeps (job : Nat) {s : State} (hk : Keeps z0 s) :
    KeepsOut z0 (execRsaVerifyPss job s) := by
  unfold execRsaVerifyPss
  try dsimp only
  repeat' (first
    | intro _
    | with_reducible assumption
    | with_reducible apply rsaVerify_keeps
    | with_reducible apply onSquad_keeps)

theorem execRsaEncryptOaep_keeps (job : Nat) {s : State} (hk : Keeps z0 s) :
    KeepsOut z0 (execRsaEncryptOaep job s) := by
  unfold execRsaEncryptOaep
  try dsimp only
  repeat' (first
    | intro _
    | with_reducible assumption
    | with_reducible apply failValid_keeps
    | with_reducible apply passJob_keeps
    | with_reducible apply onSquad_keeps
    | with_reducible apply rngDraw_keeps
    | with_reducible apply Keeps.ite
    | with_reducible apply KeepsSnd.snd)

theorem execRsaDecryptOaep_keeps (job : Nat) {s : State} (hk : Keeps z0 s) :
    KeepsOut z0 (execRsaDecryptOaep job s) := by
  unfold execRsaDecryptOaep
  try dsimp only
  repeat' (first
    | intro _
    | with_reducible assumption
    | with_reducible apply rsaPrivate_keeps
    | with_reducible apply failValid_keeps
    | with_reducible apply passJob_keeps
    | with_reducible apply onSquad_keeps
    | with_reducible apply finishWith_keeps
    | with_reducible apply Keeps.ite
    | (with_reducible apply Keeps.mk; with_reducible apply KeepsParts.of; first | split))

theorem execEcdsaSign_keeps (job : Nat) {s : State} (hk : Keeps z0 s) :
    KeepsOut z0 (execEcdsaSign job s) := by
  unfold execEcdsaSign
  try dsimp only
  repeat' (first
    | intro _
    | with_reducible assumption
    | with_reducible apply passJob_keeps
    | with_reducible apply onSquad_keeps
    | with_reducible apply releaseFail_keeps
    | with_reducible apply rngDraw_keeps
    | with_reducible apply State.bump_keeps
    | with_reducible apply Keeps.ite
    | with_reducible apply KeepsSnd.snd)

theorem execEcdsaVerify_keeps (job : Nat) {s : State} (hk : Keeps z0 s) :
    KeepsOut z0 (execEcdsaVerify job s) := by
  unfold execEcdsaVerify
  try dsimp only
  repeat' (first
    | intro _
    | with_reducible assumption
    | with_reducible apply failValid_keeps
    | with_reducible apply passJob_keeps
    | with_reducible apply onSquad_keeps
    | with_reducible apply Keeps.ite)

theorem execEcdh_keeps (job : Nat) {s : State} (hk : Keeps z0 s) :
    KeepsOut z0 (execEcdh job s) := by
  unfold execEcdh
  try dsimp only
  repeat' (first
    | intro _
    | with_reducible assumption
    | with_reducible apply failValid_keeps
    | with_reducible apply passJob_keeps
    | with_reducible apply onSquad_keeps
    | with_reducible apply releaseFail_keeps
    | with_reducible apply rngDraw_keeps
    | with_reducible apply Keeps.ite
    | (with_reducible apply Keeps.mk; with_reducible apply KeepsParts.of; first | split)
    | with_reducible apply KeepsSnd.snd)

theorem execEddsaSign_keeps (job : Nat) {s : State} (hk : Keeps z0 s) :
    KeepsOut z0 (execEddsaSign job s) := by
  unfold execEddsaSign
  try dsimp only
  repeat' (first
    | intro _
    | with_reducible assumption
    | with_reducible apply passJob_keeps
    | with_reducible apply onSquad_keeps
    | with_reducible apply releaseFail_keeps
    | with_reducible apply Keeps.ite)

theorem execEddsaVerify_keeps (job : Nat) {s : State} (hk : Keeps z0 s) :
    KeepsOut z0 (execEddsaVerify job s) := by
  unfold execEddsaVerify
  try dsimp only
  repeat' (first
    | intro _
    | with_reducible assumption
    | with_reducible apply failValid_keeps
    | with_reducible apply passJob_keeps
    | with_reducible apply onSquad_keeps
    | with_reducible apply Keeps.ite)

theorem execXdh_keeps (job : Nat) {s : State} (hk : Keeps z0 s) :
    KeepsOut z0 (execXdh job s) := by
  unfold execXdh
  try dsimp only
  repeat' (first
    | intro _
    | with_reducible assumption
    | with_reducible apply failValid_keeps
    | with_reducible apply passJob_keeps
    | with_reducible apply onSquad_keeps
    | with_reducible apply releaseFail_keeps
    | with_reducible apply rngDraw_keeps
    | with_reducible apply Keeps.ite
    | with_reducible apply KeepsSnd.snd)

theorem runKeygen_keeps (id : Nat) (cls : Nat) (f : Attr → State) {s : State} (hk : Keeps z0 s) (hf : ∀ y0, Keeps z0 (f y0)) :
    Keeps z0 (runKeygen s id cls f) := by
  unfold runKeygen
  try dsimp only
  repeat' (first
    | with_reducible assumption
    | with_reducible apply hf
    | with_reducible apply failValid_keeps
    | with_reducible apply finish_keeps
    | with_reducible apply Keeps.ite)

theorem rebatch_keeps (id : Nat) {s : State} (hk : Keeps z0 s) : Keeps z0 (rebatch s id) :=
  Keeps.quiet (rebatch_writes (wm := 1073742848) (Writes.refl _ _) (by decide)) (by decide) hk

theorem execRsaKeygen_keeps (job : Nat) {s : State} (hk : Keeps z0 s) :
    KeepsOut z0 (execRsaKeygen job s) := by
  unfold execRsaKeygen
  try dsimp only
  repeat' (first
    | intro _
    | with_reducible assumption
    | with_reducible apply rebatch_keeps
    | with_reducible apply runKeygen_keeps
    | with_reducible apply onSquad_keeps
    | with_reducible apply releaseFail_keeps
    | with_reducible apply createKey_keeps
    | with_reducible apply rngDraw_keeps
    | with_reducible apply Keeps.ite
    | (with_reducible apply Keeps.mk; with_reducible apply KeepsParts.of; first | split)
    | with_reducible apply KeepsSnd.snd)

theorem execEcKeygen_keeps (job : Nat) {s : State} (hk : Keeps z0 s) :
    KeepsOut z0 (execEcKeygen job s) := by
  unfold execEcKeygen
  try dsimp only
  repeat' (first
    | intro _
    | with_reducible assumption
    | with_reducible apply runKeygen_keeps
    | with_reducible apply onSquad_keeps
    | with_reducible apply releaseFail_keeps
    | with_reducible apply createKey_keeps
    | with_reducible apply rngDraw_keeps
    | with_reducible apply Keeps.ite
    | (with_reducible apply Keeps.mk; with_reducible apply KeepsParts.of; first | split)
    | with_reducible apply KeepsSnd.snd)

/-! ### Lattice -/

theorem countExtra_keeps (op : Nat) (ps : Nat) (input : Bytes) {s : State} (hk : Keeps z0 s) : Keeps z0 (countExtra s op ps input) :=
  Keeps.quiet (countExtra_writes (wm := 1073741824) (Writes.refl _ _) (by decide)) (by decide) hk

theorem execMlkemEncaps_keeps (job : Nat) {s : State} (hk : Keeps z0 s) :
    KeepsOut z0 (execMlkemEncaps job s) := by
  unfold execMlkemEncaps
  try dsimp only
  repeat' (first
    | intro _
    | with_reducible assumption
    | with_reducible apply countExtra_keeps
    | with_reducible apply failValid_keeps
    | with_reducible apply passJob_keeps
    | with_reducible apply onSquad_keeps
    | with_reducible apply rngDraw_keeps
    | with_reducible apply Keeps.ite
    | with_reducible apply KeepsSnd.snd)

theorem execMlkemDecaps_keeps (job : Nat) {s : State} (hk : Keeps z0 s) :
    KeepsOut z0 (execMlkemDecaps job s) := by
  unfold execMlkemDecaps
  try dsimp only
  repeat' (first
    | intro _
    | with_reducible assumption
    | with_reducible apply countExtra_keeps
    | with_reducible apply passJob_keeps
    | with_reducible apply onSquad_keeps)

theorem countAttempts_keeps (n : Nat) {s : State} (hk : Keeps z0 s) : Keeps z0 (countAttempts s n) :=
  Keeps.quiet (countAttempts_writes (wm := 1073741824) (Writes.refl _ _) (by decide)) (by decide) hk

theorem execMldsaSign_keeps (job : Nat) {s : State} (hk : Keeps z0 s) :
    KeepsOut z0 (execMldsaSign job s) := by
  unfold execMldsaSign
  try dsimp only
  repeat' (first
    | intro _
    | with_reducible assumption
    | with_reducible apply countAttempts_keeps
    | with_reducible apply countExtra_keeps
    | with_reducible apply passJob_keeps
    | with_reducible apply onSquad_keeps
    | with_reducible apply releaseFail_keeps
    | with_reducible apply rngDraw_keeps
    | with_reducible apply finish_keeps
    | with_reducible apply Keeps.ite
    | (with_reducible apply Keeps.mk; with_reducible apply KeepsParts.of; first | split)
    | with_reducible apply KeepsSnd.snd)

theorem execMldsaVerify_keeps (job : Nat) {s : State} (hk : Keeps z0 s) :
    KeepsOut z0 (execMldsaVerify job s) := by
  unfold execMldsaVerify
  try dsimp only
  repeat' (first
    | intro _
    | with_reducible assumption
    | with_reducible apply countExtra_keeps
    | with_reducible apply passJob_keeps
    | with_reducible apply onSquad_keeps)

theorem execMlkemKeygen_keeps (job : Nat) {s : State} (hk : Keeps z0 s) :
    KeepsOut z0 (execMlkemKeygen job s) := by
  unfold execMlkemKeygen
  try dsimp only
  repeat' (first
    | intro _
    | with_reducible assumption
    | with_reducible apply countExtra_keeps
    | with_reducible apply runKeygen_keeps
    | with_reducible apply onSquad_keeps
    | with_reducible apply releaseFail_keeps
    | with_reducible apply createKey_keeps
    | with_reducible apply rngDraw_keeps
    | with_reducible apply Keeps.ite
    | with_reducible apply KeepsSnd.snd)

theorem execMldsaKeygen_keeps (job : Nat) {s : State} (hk : Keeps z0 s) :
    KeepsOut z0 (execMldsaKeygen job s) := by
  unfold execMldsaKeygen
  try dsimp only
  repeat' (first
    | intro _
    | with_reducible assumption
    | with_reducible apply countAttempts_keeps
    | with_reducible apply countExtra_keeps
    | with_reducible apply runKeygen_keeps
    | with_reducible apply onSquad_keeps
    | with_reducible apply releaseFail_keeps
    | with_reducible apply createKey_keeps
    | with_reducible apply rngDraw_keeps
    | with_reducible apply finish_keeps
    | with_reducible apply Keeps.ite
    | with_reducible apply KeepsSnd.snd)

/-! ### KeyMove -/

theorem finishImport_keeps (id : Nat) (a : Attr) (mat : Option Bytes) {s : State} (hk : Keeps z0 s) :
    Keeps z0 (finishImport s id a mat) := by
  unfold finishImport
  try dsimp only
  repeat' (first
    | with_reducible assumption
    | with_reducible apply createKey_keeps
    | with_reducible apply rngDraw_keeps
    | with_reducible apply finishWith_keeps
    | with_reducible apply State.drawNat_keeps
    | with_reducible apply Keeps.ite
    | (with_reducible apply Keeps.mk; with_reducible apply KeepsParts.of; first | split)
    | with_reducible apply KeepsSnd.snd)

theorem runImport_keeps (id : Nat) {s : State} (hk : Keeps z0 s) :
    Keeps z0 (runImport s id) := by
  unfold runImport
  try dsimp only
  repeat' (first
    | with_reducible assumption
    | with_reducible apply finishImport_keeps
    | with_reducible apply holdJob_keeps
    | with_reducible apply tryLoad_keeps
    | with_reducible apply finishWith_keeps
    | with_reducible apply finish_keeps
    | with_reducible apply State.withJob_keeps
    | with_reducible apply State.drawNat_keeps
    | with_reducible apply Keeps.ite
    | with_reducible apply KeepsSnd.snd)

theorem execKeyImport_keeps (job : Nat) {s : State} (hk : Keeps z0 s) :
    KeepsOut z0 (execKeyImport job s) := by
  unfold execKeyImport
  try dsimp only
  repeat' (first
    | intro _
    | with_reducible assumption
    | with_reducible apply runImport_keeps
    | with_reducible apply runSlice_keeps
    | with_reducible apply KeepsOut.next
    | with_reducible apply KeepsOut.ite)

theorem wrapExport_keeps (id : Nat) {s : State} (hk : Keeps z0 s) :
    Keeps z0 (wrapExport s id) := by
  unfold wrapExport
  try dsimp only
  repeat' (first
    | with_reducible assumption
    | with_reducible apply holdJob_keeps
    | with_reducible apply tryLoad_keeps
    | with_reducible apply finish_keeps
    | with_reducible apply Keeps.ite
    | with_reducible apply KeepsSnd.snd)

theorem execKeyExport_keeps (job : Nat) {s : State} (hk : Keeps z0 s) :
    KeepsOut z0 (execKeyExport job s) := by
  unfold execKeyExport
  try dsimp only
  repeat' (first
    | intro _
    | with_reducible assumption
    | with_reducible apply wrapExport_keeps
    | with_reducible apply withKey_keeps
    | with_reducible apply finish_keeps
    | with_reducible apply KeepsOut.next
    | with_reducible apply KeepsOut.ite
    | with_reducible apply Keeps.ite)

/-! ### Lanes -/

theorem execPatrolTest_keeps (squad : Nat) (lanesFailed : List Nat) (keccakOk : Bool) {s : State} (hk : Keeps z0 s) :
    KeepsOut z0 (execPatrolTest squad lanesFailed keccakOk s) := by
  unfold execPatrolTest
  try dsimp only
  repeat' (first
    | with_reducible assumption
    | with_reducible apply swapLanes_keeps
    | with_reducible apply loseSquad_keeps
    | with_reducible apply State.withSquad_keeps
    | with_reducible apply KeepsOut.next
    | with_reducible apply KeepsOut.ite)

theorem startSelftest_keeps (q : Nat) {s : State} (hk : Keeps z0 s) : Keeps z0 (startSelftest s q) :=
  Keeps.quiet (startSelftest_writes (wm := 1073758208) (Writes.refl _ _) (by decide)) (by decide) hk

theorem execRnsSelftestRun_keeps (squad : Nat) {s : State} (hk : Keeps z0 s) : KeepsOut z0 (execRnsSelftestRun squad s) :=
  KeepsOut.quiet (execRnsSelftestRun_writes (wm := 1073758208) (Writes.refl _ _) (by decide)) (by decide) hk

theorem execSelfTestDone_keeps (passed : Bool) {s : State} (hk : Keeps z0 s) : KeepsOut z0 (execSelfTestDone passed s) :=
  KeepsOut.quiet (execSelfTestDone_writes (wm := 1073758240) (Writes.refl _ _) (by decide)) (by decide) hk

/-! ### Streams -/

theorem failStream_keeps (id : Nat) (status : Nat) (tc : Nat) {s : State} (hk : Keeps z0 s) :
    Keeps z0 (failStream s id status tc) := by
  unfold failStream
  try dsimp only
  repeat' (first
    | with_reducible assumption
    | with_reducible apply zeroFill_keeps
    | with_reducible apply partialCounts_keeps
    | with_reducible apply finish_keeps)

theorem startStream_keeps (id : Nat) (op : Nat) (opaIn : Bytes) (opbIn : Bytes) {s : State} (hk : Keeps z0 s) :
    KeepsOut z0 (startStream s id op opaIn opbIn) := by
  unfold startStream
  try dsimp only
  repeat' (first
    | with_reducible assumption
    | with_reducible apply holdJob_keeps
    | with_reducible apply tryLoad_keeps
    | with_reducible apply zeroFill_keeps
    | with_reducible apply finish_keeps
    | with_reducible apply State.withJob_keeps
    | with_reducible apply KeepsOut.next
    | with_reducible apply KeepsOut.ite
    | (with_reducible apply Keeps.mk; with_reducible apply KeepsParts.of; first | split)
    | split
    | with_reducible apply KeepsSnd.snd)

theorem execStreamSeal_keeps (job : Nat) (opa : Bytes) (opb : Bytes) {s : State} (hk : Keeps z0 s) :
    KeepsOut z0 (execStreamSeal job opa opb s) := by
  unfold execStreamSeal
  try dsimp only
  repeat' (first
    | with_reducible assumption
    | with_reducible apply startStream_keeps)

theorem execStreamOpen_keeps (job : Nat) (opa : Bytes) (opb : Bytes) {s : State} (hk : Keeps z0 s) :
    KeepsOut z0 (execStreamOpen job opa opb s) := by
  unfold execStreamOpen
  try dsimp only
  repeat' (first
    | with_reducible assumption
    | with_reducible apply startStream_keeps)

theorem bindJob_keeps (id : Nat) (e : Nat) {s : State} (hk : Keeps z0 s) : Keeps z0 (bindJob s id e) :=
  Keeps.quiet (bindJob_writes (wm := 5632) (Writes.refl _ _) (by decide)) (by decide) hk

theorem bindOne_keeps (p : Nat) (e : Nat) {s : State} (hk : Keeps z0 s) : Keeps z0 (bindOne s p e) :=
  Keeps.quiet (bindOne_writes (wm := 4199936) (Writes.refl _ _) (by decide)) (by decide) hk

theorem bindRound_keeps (x0 : Nat) (x1 : Nat) (x2 : Nat) {x3 : State} (hk : Keeps z0 x3) : Keeps z0 (bindRound x0 x1 x2 x3) :=
  Keeps.quiet (bindRound_writes (wm := 4199936) (Writes.refl _ _) (by decide)) (by decide) hk

theorem execStreamBind_keeps  {s : State} (hk : Keeps z0 s) : KeepsOut z0 (execStreamBind s) :=
  KeepsOut.quiet (execStreamBind_writes (wm := 4199936) (Writes.refl _ _) (by decide)) (by decide) hk

theorem endStream_keeps (id : Nat) (out : Bytes) {s : State} (hk : Keeps z0 s) :
    Keeps z0 (endStream s id out) := by
  unfold endStream
  try dsimp only
  repeat' (first
    | with_reducible assumption
    | with_reducible apply zeroFill_keeps
    | with_reducible apply finish_keeps
    | with_reducible apply State.withJob_keeps
    | with_reducible apply State.bump_keeps
    | with_reducible apply Keeps.ite)

theorem laterRead_keeps (id : Nat) {s : State} (hk : Keeps z0 s) : Keeps z0 (laterRead s id) :=
  Keeps.quiet (laterRead_writes (wm := 128) (Writes.refl _ _) (by decide)) (by decide) hk

theorem runSegment_keeps (id : Nat) {s : State} (hk : Keeps z0 s) :
    Keeps z0 (runSegment s id) := by
  unfold runSegment
  try dsimp only
  repeat' (first
    | with_reducible assumption
    | with_reducible apply laterRead_keeps
    | with_reducible apply endStream_keeps
    | with_reducible apply State.withJob_keeps
    | with_reducible apply State.hostWrite_keeps
    | with_reducible apply Keeps.ite)

theorem segMismatch_keeps (id : Nat) (e : Nat) {s : State} (hk : Keeps z0 s) :
    Keeps z0 (segMismatch s id e) := by
  unfold segMismatch
  try dsimp only
  repeat' (first
    | with_reducible assumption
    | with_reducible apply failStream_keeps
    | with_reducible apply faultReport_keeps
    | with_reducible apply loseEngine_keeps
    | with_reducible apply State.withJob_keeps
    | with_reducible apply State.report_keeps
    | with_reducible apply State.bump_keeps
    | with_reducible apply Keeps.ite)

theorem segRound_keeps (x0 : Nat) (x1 : Nat) (x2 : Nat) {x3 : State} (hk : Keeps z0 x3) :
    KeepsOptSnd z0 (segRound x0 x1 x2 x3) := by
  induction x0 generalizing x1 x2 x3 with
  | zero =>
    unfold segRound
    try dsimp only
    repeat' (first
      | with_reducible apply State.withDma_keeps
      | with_reducible exact KeepsOptSnd.none
      | with_reducible apply KeepsOptSnd.some
      | split)
  | succ n ih =>
    unfold segRound
    try dsimp only
    repeat' (first
      | with_reducible assumption
      | with_reducible apply ih
      | with_reducible apply State.withDma_keeps
      | with_reducible exact KeepsOptSnd.none
      | with_reducible apply KeepsOptSnd.some
      | split)

theorem execStreamSegment_keeps (engine : Nat) (mismatch : Bool) {s : State} (hk : Keeps z0 s) :
    KeepsOut z0 (execStreamSegment engine mismatch s) := by
  unfold execStreamSegment
  try dsimp only
  repeat' (first
    | with_reducible assumption
    | with_reducible apply segRound_keeps
    | with_reducible apply segMismatch_keeps
    | with_reducible apply runSegment_keeps
    | with_reducible apply State.withDma_keeps
    | with_reducible apply KeepsOptSnd.some
    | with_reducible apply KeepsOut.next
    | with_reducible apply KeepsOut.ite
    | (with_reducible apply KeepsOptSnd.of_eq; with_reducible assumption)
    | split)

/-! ### DmaCh -/

theorem putRecord_keeps (c : Nat) (d : DDesc) (status : Nat) (offset : Nat) (done : Nat) (unknown : Bool) (mismatch : Bool) {s : State} (hk
    : Keeps z0 s) :
    Keeps z0 (putRecord s c d status offset done unknown mismatch) := by
  unfold putRecord
  try dsimp only
  repeat' (first
    | with_reducible assumption
    | with_reducible apply sendEvents_keeps
    | with_reducible apply State.withChan_keeps
    | with_reducible apply Keeps.ite
    | (with_reducible apply Keeps.mk; with_reducible refine KeepsParts.mem ?_ (Mem.write_wf _ _)))

theorem settleChan_keeps (c : Nat) {s : State} (hk : Keeps z0 s) : Keeps z0 (settleChan s c) :=
  Keeps.quiet (settleChan_writes (wm := 4194304) (Writes.refl _ _) (by decide)) (by decide) hk

theorem completeDesc_keeps (c : Nat) (d : DDesc) (status : Nat) (offset : Nat) (done : Nat) (unknown : Bool) (mismatch : Bool) {s : State}
    (hk : Keeps z0 s) :
    Keeps z0 (completeDesc s c d status offset done unknown mismatch) := by
  unfold completeDesc
  try dsimp only
  repeat' (first
    | with_reducible assumption
    | with_reducible apply settleChan_keeps
    | with_reducible apply putRecord_keeps
    | with_reducible apply State.withChan_keeps
    | with_reducible apply State.bump_keeps
    | with_reducible apply Keeps.ite)

theorem endDesc_keeps (c : Nat) (d : DDesc) (status : Nat) (offset : Nat) (done : Nat) (mismatch : Bool) {s : State} (hk : Keeps z0 s) :
    Keeps z0 (endDesc s c d status offset done mismatch) := by
  unfold endDesc
  try dsimp only
  repeat' (first
    | with_reducible assumption
    | with_reducible apply completeDesc_keeps
    | with_reducible apply State.withChan_keeps
    | with_reducible apply Keeps.ite)

theorem enableChan_keeps (c : Nat) (on : Bool) {s : State} (hk : Keeps z0 s) : Keeps z0 (enableChan s c on) :=
  Keeps.quiet (enableChan_writes (wm := 4194304) (Writes.refl _ _) (by decide)) (by decide) hk

theorem execChannelEnable_keeps (ch : Nat) (on : Bool) {s : State} (hk : Keeps z0 s) : KeepsOut z0 (execChannelEnable ch on s) :=
  KeepsOut.quiet (execChannelEnable_writes (wm := 4194304) (Writes.refl _ _) (by decide)) (by decide) hk

theorem abortRest_keeps (x0 : Nat) (x2 : Nat) {x1 : State} (hk : Keeps z0 x1) :
    Keeps z0 (abortRest x0 x1 x2) := by
  induction x0 generalizing x1 x2 with
  | zero =>
    unfold abortRest
    try dsimp only
    repeat' (first
      | with_reducible assumption
      | with_reducible apply putRecord_keeps
      | with_reducible apply Keeps.ite)
  | succ n ih =>
    unfold abortRest
    try dsimp only
    repeat' (first
      | with_reducible assumption
      | with_reducible apply ih
      | with_reducible assumption
      | with_reducible apply putRecord_keeps
      | with_reducible apply Keeps.ite)

theorem abortChan_keeps (c : Nat) {s : State} (hk : Keeps z0 s) :
    Keeps z0 (abortChan s c) := by
  unfold abortChan
  try dsimp only
  repeat' (first
    | with_reducible assumption
    | with_reducible apply abortRest_keeps
    | with_reducible apply State.withChan_keeps
    | with_reducible apply Keeps.ite)

theorem execChannelAbort_keeps (ch : Nat) {s : State} (hk : Keeps z0 s) :
    KeepsOut z0 (execChannelAbort ch s) := by
  unfold execChannelAbort
  try dsimp only
  repeat' (first
    | with_reducible assumption
    | with_reducible apply abortChan_keeps
    | with_reducible apply KeepsOut.next
    | with_reducible apply KeepsOut.ite)

theorem tailChan_keeps (c : Nat) (v : Nat) {s : State} (hk : Keeps z0 s) : Keeps z0 (tailChan s c v) :=
  Keeps.quiet (tailChan_writes (wm := 4194304) (Writes.refl _ _) (by decide)) (by decide) hk

theorem failJobRead_keeps (id : Nat) {s : State} (hk : Keeps z0 s) :
    Keeps z0 (failJobRead s id) := by
  unfold failJobRead
  try dsimp only
  repeat' (first
    | with_reducible assumption
    | with_reducible apply zeroFill_keeps
    | with_reducible apply partialCounts_keeps
    | with_reducible apply finish_keeps
    | with_reducible apply Keeps.ite)

/-! ### Flash -/

theorem State.withFQueue_keeps (q : FlashQ) (f : FQueue → FQueue) {s : State} (hk : Keeps z0 s) : Keeps z0 (State.withFQueue s q f) :=
  Keeps.quiet (State.withFQueue_writes (wm := 25165824) (Writes.refl _ _) (by decide)) (by decide) hk

theorem takeHead_keeps (q : FlashQ) {s : State} (hk : Keeps z0 s) : Keeps z0 (takeHead s q) :=
  Keeps.quiet (takeHead_writes (wm := 25165824) (Writes.refl _ _) (by decide)) (by decide) hk

theorem settleQueue_keeps (q : FlashQ) {s : State} (hk : Keeps z0 s) : Keeps z0 (settleQueue s q) :=
  Keeps.quiet (settleQueue_writes (wm := 25165824) (Writes.refl _ _) (by decide)) (by decide) hk

theorem flashEntry_keeps (q : FlashQ) (op : Nat) (tag : Nat) (status : Nat) (done : Nat) (retry : Nat) (result : Nat) (aux : Nat) {s :
    State} (hk : Keeps z0 s) :
    Keeps z0 (flashEntry s q op tag status done retry result aux) := by
  unfold flashEntry
  try dsimp only
  repeat' (first
    | with_reducible assumption
    | with_reducible apply settleQueue_keeps
    | with_reducible apply State.withFQueue_keeps
    | with_reducible apply sendEvents_keeps
    | with_reducible apply Keeps.ite
    | (with_reducible apply Keeps.mk; with_reducible refine KeepsParts.mem ?_ (Mem.write_wf _ _)))

theorem flashDone_keeps (q : FlashQ) (d : FDesc) (status : Nat) (done : Nat) {s : State} (hk : Keeps z0 s) :
    Keeps z0 (flashDone s q d status done) := by
  unfold flashDone
  try dsimp only
  repeat' (first
    | with_reducible assumption
    | with_reducible apply flashEntry_keeps)

theorem withSector_keeps (n : Nat) (f : FUnit → FUnit) {s : State} (hk : Keeps z0 s) : Keeps z0 (withSector s n f) :=
  Keeps.quiet (withSector_writes (wm := 8388608) (Writes.refl _ _) (by decide)) (by decide) hk

theorem onFlash_keeps (ref : QueueRef) (ops : Nat → Bool) (f : FlashQ → FDesc → State → Option State) {s : State} (hk : Keeps z0 s) (hf : ∀
    y0, ∀ y1, ∀ y2, Keeps z0 y2 → KeepsOpt z0 (f y0 y1 y2)) :
    KeepsOut z0 (onFlash s ref ops f) := by
  unfold onFlash
  try dsimp only
  repeat' (first
    | with_reducible assumption
    | with_reducible apply hf
    | with_reducible apply flashDone_keeps
    | with_reducible apply takeHead_keeps
    | with_reducible apply guardRefused_keeps
    | with_reducible apply KeepsOpt.getD
    | with_reducible apply KeepsOut.next
    | with_reducible apply KeepsOut.ite
    | split)

theorem collect_keeps (n : Nat) {s : State} (hk : Keeps z0 s) : Keeps z0 (collect s n) :=
  Keeps.quiet (collect_writes (wm := 1090519040) (Writes.refl _ _) (by decide)) (by decide) hk

theorem readOk_keeps (q : FlashQ) (d : FDesc) (retry : Nat) (data : Bytes) {s : State} (hk : Keeps z0 s) :
    Keeps z0 (readOk s q d retry data) := by
  unfold readOk
  try dsimp only
  repeat' (first
    | with_reducible assumption
    | with_reducible apply collect_keeps
    | with_reducible apply flashEntry_keeps
    | with_reducible apply State.event_keeps
    | with_reducible apply State.bump_keeps
    | with_reducible apply State.gset_keeps
    | with_reducible apply Keeps.ite
    | (with_reducible apply Keeps.mk; with_reducible apply KeepsParts.of; first | split)
    | (with_reducible apply Keeps.mk; with_reducible refine KeepsParts.mem ?_ (Mem.write_wf _ _)))

theorem startRead_keeps (w : FWait) {s : State} (hk : Keeps z0 s) :
    Keeps z0 (startRead s w) := by
  unfold startRead
  try dsimp only
  repeat' (first
    | with_reducible assumption
    | with_reducible apply readOk_keeps
    | with_reducible apply flashDone_keeps
    | with_reducible apply State.bump_keeps
    | with_reducible apply Keeps.ite
    | (with_reducible apply Keeps.mk; with_reducible apply KeepsParts.of; first | split))

theorem startVaultRead_keeps (w : FWait) {s : State} (hk : Keeps z0 s) :
    Keeps z0 (startVaultRead s w) := by
  unfold startVaultRead
  try dsimp only
  repeat' (first
    | with_reducible assumption
    | with_reducible apply readOk_keeps
    | with_reducible apply flashDone_keeps
    | with_reducible apply State.bump_keeps
    | (with_reducible apply Keeps.mk; with_reducible apply KeepsParts.of; first | split))

theorem acceptVaultRead_keeps (w : FWait) {s : State} (hk : Keeps z0 s) :
    Keeps z0 (acceptVaultRead s w) := by
  unfold acceptVaultRead
  try dsimp only
  repeat' (first
    | with_reducible assumption
    | with_reducible apply startVaultRead_keeps
    | with_reducible apply State.withVault_keeps
    | with_reducible apply Keeps.ite)

theorem serveVaultReads_keeps {s : State} (hk : Keeps z0 s) :
    Keeps z0 (serveVaultReads s) := by
  unfold serveVaultReads
  try dsimp only
  repeat' (first
    | intro _
    | with_reducible assumption
    | with_reducible apply acceptVaultRead_keeps
    | with_reducible apply State.withVault_keeps
    | with_reducible apply Keeps.foldl)

theorem startProgram_keeps (w : FWait) {s : State} (hk : Keeps z0 s) :
    Keeps z0 (startProgram s w) := by
  unfold startProgram
  try dsimp only
  repeat' (first
    | with_reducible assumption
    | with_reducible apply flashDone_keeps
    | with_reducible apply State.withCode_keeps
    | with_reducible apply Keeps.ite)

theorem spareBlock_keeps (b : Nat) (key : Nat) (cause : Nat) {s : State} (hk : Keeps z0 s) : Keeps z0 (spareBlock s b key cause) :=
  Keeps.quiet (spareBlock_writes (wm := 16777248) (Writes.refl _ _) (by decide)) (by decide) hk

theorem dropEvents_keeps (before : List EvRec) {s : State} (hk : Keeps z0 s) : Keeps z0 (dropEvents before s) :=
  Keeps.quiet (dropEvents_writes (wm := 16777216) (Writes.refl _ _) (by decide)) (by decide) hk

theorem programmed_keeps (p : VProg) {s : State} (hk : Keeps z0 s) :
    Keeps z0 (programmed s p) := by
  unfold programmed
  try dsimp only
  repeat' (first
    | with_reducible assumption
    | with_reducible apply dropEvents_keeps
    | with_reducible apply flashEntry_keeps
    | with_reducible apply pageDurable_keeps
    | with_reducible apply commitDurable_keeps
    | with_reducible apply evrDurable_keeps
    | with_reducible apply State.withVault_keeps
    | with_reducible apply State.withEvr_keeps
    | with_reducible apply Keeps.ite
    | (with_reducible apply Keeps.mk; with_reducible apply KeepsParts.of; first | split))

theorem endProgram_keeps (b : Nat) (o : BankOp) (ok : Bool) {s : State} (hk : Keeps z0 s) :
    Keeps z0 (endProgram s b o ok) := by
  unfold endProgram
  try dsimp only
  repeat' (first
    | intro _
    | with_reducible assumption
    | with_reducible apply withSector_keeps
    | with_reducible apply flashDone_keeps
    | with_reducible apply State.withCode_keeps
    | with_reducible apply State.drawBytes_keeps
    | with_reducible apply State.drawNat_keeps
    | with_reducible apply Keeps.foldl
    | (with_reducible apply Keeps.mk; with_reducible refine KeepsParts.code ?_ (Mem.write_wf _ _))
    | with_reducible apply KeepsSnd.snd)

theorem nextErase_keeps (b : Nat) (o : BankOp) {s : State} (hk : Keeps z0 s) :
    Keeps z0 (nextErase s b o) := by
  unfold nextErase
  try dsimp only
  repeat' (first
    | with_reducible assumption
    | with_reducible apply withSector_keeps
    | with_reducible apply flashDone_keeps
    | with_reducible apply State.withCode_keeps
    | (with_reducible apply Keeps.mk; with_reducible apply KeepsParts.of; first | split))

theorem startErase_keeps (w : FWait) {s : State} (hk : Keeps z0 s) :
    Keeps z0 (startErase s w) := by
  unfold startErase
  try dsimp only
  repeat' (first
    | with_reducible assumption
    | with_reducible apply nextErase_keeps
    | with_reducible apply flashDone_keeps
    | with_reducible apply Keeps.ite)

theorem acceptCode_keeps (w : FWait) {s : State} (hk : Keeps z0 s) :
    Keeps z0 (acceptCode s w) := by
  unfold acceptCode
  try dsimp only
  repeat' (first
    | with_reducible assumption
    | with_reducible apply startErase_keeps
    | with_reducible apply startProgram_keeps
    | with_reducible apply startRead_keeps
    | with_reducible apply State.withCode_keeps
    | with_reducible apply Keeps.ite
    | (with_reducible apply Keeps.mk; with_reducible apply KeepsParts.of; first | split))

theorem serveCode_keeps {s : State} (hk : Keeps z0 s) :
    Keeps z0 (serveCode s) := by
  unfold serveCode
  try dsimp only
  repeat' (first
    | intro _
    | with_reducible assumption
    | with_reducible apply acceptCode_keeps
    | with_reducible apply State.withCode_keeps
    | with_reducible apply Keeps.foldl)

theorem execFlashRead_keeps (queue : QueueRef) (retry : Option Nat) {s : State} (hk : Keeps z0 s) :
    KeepsOut z0 (execFlashRead queue retry s) := by
  unfold execFlashRead
  try dsimp only
  repeat' (first
    | intro _
    | with_reducible assumption
    | with_reducible apply acceptCode_keeps
    | with_reducible apply acceptVaultRead_keeps
    | with_reducible apply onFlash_keeps
    | with_reducible exact KeepsOpt.none
    | with_reducible apply KeepsOpt.some
    | split)

theorem execFlashProgram_keeps (queue : QueueRef) {s : State} (hk : Keeps z0 s) :
    KeepsOut z0 (execFlashProgram queue s) := by
  unfold execFlashProgram
  try dsimp only
  repeat' (first
    | intro _
    | with_reducible assumption
    | with_reducible apply acceptCode_keeps
    | with_reducible apply onFlash_keeps
    | with_reducible apply vAppend_keeps
    | with_reducible apply KeepsOpt.some
    | split)

theorem execFlashErase_keeps (queue : QueueRef) {s : State} (hk : Keeps z0 s) :
    KeepsOut z0 (execFlashErase queue s) := by
  unfold execFlashErase
  try dsimp only
  repeat' (first
    | intro _
    | with_reducible assumption
    | with_reducible apply acceptCode_keeps
    | with_reducible apply onFlash_keeps
    | with_reducible apply flashDone_keeps
    | with_reducible apply vDiscard_keeps
    | with_reducible apply KeepsOpt.some
    | split)

theorem endSector_keeps (n : Nat) (ok : Bool) {s : State} (hk : Keeps z0 s) :
    Keeps z0 (endSector s n ok) := by
  unfold endSector
  try dsimp only
  repeat' (first
    | with_reducible assumption
    | with_reducible apply withSector_keeps
    | with_reducible apply Keeps.ite
    | (with_reducible apply Keeps.mk; with_reducible refine KeepsParts.code ?_ (Mem.clear_wf _ _)))

theorem programDone_keeps (bank : Nat) (ok : Bool) {s : State} (hk : Keeps z0 s) :
    Keeps z0 (programDone bank ok s) := by
  unfold programDone
  try dsimp only
  repeat' (first
    | intro _
    | with_reducible assumption
    | with_reducible apply serveCode_keeps
    | with_reducible apply endProgram_keeps
    | with_reducible apply programmed_keeps
    | with_reducible apply spareBlock_keeps
    | with_reducible apply serveVaultReads_keeps
    | with_reducible apply State.withVBank_keeps
    | with_reducible apply State.drawNat_keeps
    | with_reducible apply Keeps.ite
    | with_reducible apply Keeps.foldl
    | (with_reducible apply Keeps.mk; with_reducible apply KeepsParts.of; first | split)
    | with_reducible apply KeepsSnd.snd)

theorem endBlock_keeps (b : Nat) (key : Nat) (ok : Bool) {s : State} (hk : Keeps z0 s) : Keeps z0 (endBlock s b key ok) :=
  Keeps.quiet (endBlock_writes (wm := 16777248) (Writes.refl _ _) (by decide)) (by decide) hk

theorem execFlashEraseDone_keeps (bank : Nat) (ok : Bool) {s : State} (hk : Keeps z0 s) :
    KeepsOut z0 (execFlashEraseDone bank ok s) := by
  unfold execFlashEraseDone
  try dsimp only
  repeat' (first
    | with_reducible assumption
    | with_reducible apply endBlock_keeps
    | with_reducible apply endSector_keeps
    | with_reducible apply serveCode_keeps
    | with_reducible apply nextErase_keeps
    | with_reducible apply serveVaultReads_keeps
    | with_reducible apply flashDone_keeps
    | with_reducible apply State.withCode_keeps
    | with_reducible apply KeepsOut.next
    | with_reducible apply KeepsOut.ite
    | split)

theorem execEraseSuspend_keeps (queue : QueueRef) {s : State} (hk : Keeps z0 s) :
    KeepsOut z0 (execEraseSuspend queue s) := by
  unfold execEraseSuspend
  try dsimp only
  repeat' (first
    | intro _
    | with_reducible assumption
    | with_reducible apply serveCode_keeps
    | with_reducible apply onFlash_keeps
    | with_reducible apply withSector_keeps
    | with_reducible apply flashDone_keeps
    | with_reducible apply State.withCode_keeps
    | with_reducible apply KeepsOpt.some
    | split)

theorem resumeErase_keeps (b : Nat) (o : BankOp) {s : State} (hk : Keeps z0 s) :
    Keeps z0 (resumeErase s b o) := by
  unfold resumeErase
  try dsimp only
  repeat' (first
    | with_reducible assumption
    | with_reducible apply nextErase_keeps)

theorem execEraseResume_keeps (queue : QueueRef) {s : State} (hk : Keeps z0 s) :
    KeepsOut z0 (execEraseResume queue s) := by
  unfold execEraseResume
  try dsimp only
  repeat' (first
    | intro _
    | with_reducible assumption
    | with_reducible apply resumeErase_keeps
    | with_reducible apply onFlash_keeps
    | with_reducible apply flashDone_keeps
    | with_reducible apply KeepsOpt.some
    | split)

theorem execSuspendExpiry_keeps (bank : Nat) {s : State} (hk : Keeps z0 s) :
    KeepsOut z0 (execSuspendExpiry bank s) := by
  unfold execSuspendExpiry
  try dsimp only
  repeat' (first
    | with_reducible assumption
    | with_reducible apply resumeErase_keeps
    | with_reducible apply KeepsOut.next
    | with_reducible apply KeepsOut.ite
    | split)

theorem execReadStatus_keeps (queue : QueueRef) {s : State} (hk : Keeps z0 s) :
    KeepsOut z0 (execReadStatus queue s) := by
  unfold execReadStatus
  try dsimp only
  repeat' (first
    | intro _
    | with_reducible assumption
    | with_reducible apply onFlash_keeps
    | with_reducible apply flashEntry_keeps
    | with_reducible apply State.drawNat_keeps
    | with_reducible apply KeepsOpt.some
    | split
    | with_reducible apply KeepsSnd.snd)

theorem enableQueue_keeps (q : FlashQ) (on : Bool) {s : State} (hk : Keeps z0 s) : Keeps z0 (enableQueue s q on) :=
  Keeps.quiet (enableQueue_writes (wm := 25165824) (Writes.refl _ _) (by decide)) (by decide) hk

theorem tailQueue_keeps (q : FlashQ) (v : Nat) {s : State} (hk : Keeps z0 s) : Keeps z0 (tailQueue s q v) :=
  Keeps.quiet (tailQueue_writes (wm := 25165824) (Writes.refl _ _) (by decide)) (by decide) hk

theorem abortPending_keeps (x0 : Nat) (x2 : FlashQ) {x1 : State} (hk : Keeps z0 x1) :
    Keeps z0 (abortPending x0 x1 x2) := by
  induction x0 generalizing x1 x2 with
  | zero =>
    unfold abortPending
    try dsimp only
    repeat' (first
      | with_reducible assumption
      | with_reducible apply flashDone_keeps
      | with_reducible apply State.withFQueue_keeps
      | with_reducible apply Keeps.ite)
  | succ n ih =>
    unfold abortPending
    try dsimp only
    repeat' (first
      | with_reducible assumption
      | with_reducible apply ih
      | with_reducible assumption
      | with_reducible apply flashDone_keeps
      | with_reducible apply State.withFQueue_keeps
      | with_reducible apply Keeps.ite)

theorem stopBank_keeps (b : Nat) (o : BankOp) {s : State} (hk : Keeps z0 s) :
    Keeps z0 (stopBank s b o) := by
  unfold stopBank
  try dsimp only
  repeat' (first
    | intro _
    | with_reducible assumption
    | with_reducible apply endSector_keeps
    | with_reducible apply withSector_keeps
    | with_reducible apply flashDone_keeps
    | with_reducible apply State.withCode_keeps
    | with_reducible apply State.drawNat_keeps
    | with_reducible apply Keeps.foldl
    | (with_reducible apply Keeps.mk; with_reducible apply KeepsParts.of; first | split)
    | (with_reducible apply Keeps.mk; with_reducible refine KeepsParts.code ?_ (Mem.write_wf _ _))
    | with_reducible apply KeepsSnd.snd)

theorem abortCode_keeps (k : Nat) {s : State} (hk : Keeps z0 s) :
    Keeps z0 (abortCode s k) := by
  unfold abortCode
  try dsimp only
  repeat' (first
    | intro _
    | with_reducible assumption
    | with_reducible apply stopBank_keeps
    | with_reducible apply serveCode_keeps
    | with_reducible apply flashDone_keeps
    | with_reducible apply State.withCode_keeps
    | with_reducible apply Keeps.foldl)

theorem abortVault_keeps (k : Nat) {s : State} (hk : Keeps z0 s) :
    Keeps z0 (abortVault s k) := by
  unfold abortVault
  try dsimp only
  repeat' (first
    | intro _
    | with_reducible assumption
    | with_reducible apply flashDone_keeps
    | with_reducible apply flashEntry_keeps
    | with_reducible apply State.withVault_keeps
    | with_reducible apply Keeps.foldl)

theorem abortQueue_keeps (q : FlashQ) {s : State} (hk : Keeps z0 s) :
    Keeps z0 (abortQueue s q) := by
  unfold abortQueue
  try dsimp only
  repeat' (first
    | with_reducible assumption
    | with_reducible apply abortVault_keeps
    | with_reducible apply abortCode_keeps
    | with_reducible apply abortPending_keeps
    | with_reducible apply State.withFQueue_keeps
    | with_reducible apply Keeps.ite
    | (with_reducible apply Keeps.mk; with_reducible apply KeepsParts.of; first | split))

theorem execQTail_keeps (queue : QueueRef) (value : Nat) {s : State} (hk : Keeps z0 s) : KeepsOut z0 (execQTail queue value s) :=
  KeepsOut.quiet (execQTail_writes (wm := 29360128) (Writes.refl _ _) (by decide)) (by decide) hk

theorem handEvents_keeps  {s : State} (hk : Keeps z0 s) : Keeps z0 (handEvents s) :=
  Keeps.quiet (handEvents_writes (wm := 16777216) (Writes.refl _ _) (by decide)) (by decide) hk

theorem hoistBanks_keeps  {s : State} (hk : Keeps z0 s) : Keeps z0 (hoistBanks s) :=
  Keeps.quiet (hoistBanks_writes (wm := 16777264) (Writes.refl _ _) (by decide)) (by decide) hk

theorem execFlushTick_keeps  {s : State} (hk : Keeps z0 s) : KeepsOut z0 (execFlushTick s) :=
  KeepsOut.quiet (execFlushTick_writes (wm := 16777264) (Writes.refl _ _) (by decide)) (by decide) hk

theorem execCollection_keeps  {s : State} (hk : Keeps z0 s) : KeepsOut z0 (execCollection s) :=
  KeepsOut.quiet (execCollection_writes (wm := 1090519040) (Writes.refl _ _) (by decide)) (by decide) hk

theorem execVictimErase_keeps  {s : State} (hk : Keeps z0 s) : KeepsOut z0 (execVictimErase s) :=
  KeepsOut.quiet (execVictimErase_writes (wm := 16777216) (Writes.refl _ _) (by decide)) (by decide) hk

theorem execWearCollection_keeps (bank : Nat) {s : State} (hk : Keeps z0 s) : KeepsOut z0 (execWearCollection bank s) :=
  KeepsOut.quiet (execWearCollection_writes (wm := 1090519040) (Writes.refl _ _) (by decide)) (by decide) hk

theorem execVaultBankIdle_keeps (bank : Nat) {s : State} (hk : Keeps z0 s) : KeepsOut z0 (execVaultBankIdle bank s) :=
  KeepsOut.quiet (execVaultBankIdle_writes (wm := 48) (Writes.refl _ _) (by decide)) (by decide) hk

/-! ### RegSpace -/

theorem chanStore_keeps (c : Nat) (w : Nat) (v : Nat) {s : State} (hk : Keeps z0 s) :
    Keeps z0 (chanStore s c w v) := by
  unfold chanStore
  try dsimp only
  repeat' (first
    | with_reducible assumption
    | with_reducible apply tailChan_keeps
    | with_reducible apply abortChan_keeps
    | with_reducible apply enableChan_keeps
    | with_reducible apply State.withChan_keeps
    | with_reducible apply Keeps.ite)

theorem queueStore_keeps (i : Nat) (q : FlashQ) (w : Nat) (v : Nat) {s : State} (hk : Keeps z0 s) :
    Keeps z0 (queueStore s i q w v) := by
  unfold queueStore
  try dsimp only
  repeat' (first
    | with_reducible assumption
    | with_reducible apply abortQueue_keeps
    | with_reducible apply tailQueue_keeps
    | with_reducible apply enableQueue_keeps
    | with_reducible apply State.withFQueue_keeps
    | with_reducible apply Keeps.ite)

theorem regStore_keeps (i : Nat) (g : Nat) (off : Nat) (v : Nat) {s : State} (hk : Keeps z0 s) :
    Keeps z0 (regStore s i g off v) := by
  unfold regStore
  try dsimp only
  repeat' (first
    | with_reducible assumption
    | with_reducible apply queueStore_keeps
    | with_reducible apply chanStore_keeps
    | with_reducible apply State.withUnit_keeps
    | with_reducible apply Keeps.ite
    | (with_reducible apply Keeps.mk; with_reducible apply KeepsParts.of; first | split)
    | (with_reducible apply Keeps.mk; with_reducible refine KeepsParts.mem ?_ (Mem.write_wf _ _)))

theorem regBytes_keeps : ∀ (n i g off : Nat) (bs : Bytes) {s : State} (_ : Keeps z0 s), Keeps z0 (regBytes n s i g off bs)
  | 0, _, _, _, _, _, h => h
  | _ + 1, _, _, _, [], _, h => h
  | n + 1, i, g, off, b :: bs, s, h => by
    unfold regBytes
    exact regBytes_keeps n i g _ _ (regStore_keeps i g _ _ h)

theorem spaceWrite_keeps (i : Nat) (g : Nat) (off : Nat) (bs : Bytes) {s : State} (hk : Keeps z0 s) :
    Keeps z0 (spaceWrite s i g off bs) := by
  unfold spaceWrite
  try dsimp only
  repeat' (first
    | with_reducible assumption
    | with_reducible apply regBytes_keeps
    | with_reducible apply Keeps.ite
    | (with_reducible apply Keeps.mk; with_reducible refine KeepsParts.mem ?_ (Mem.write_wf _ _)))

/-! ### DmaOps -/

theorem countRefused_keeps (i : Nat) (a : Nat) {s : State} (hk : Keeps z0 s) : Keeps z0 (countRefused s i a) :=
  Keeps.quiet (countRefused_writes (wm := 1073741856) (Writes.refl _ _) (by decide)) (by decide) hk

theorem sideWrite_keeps (c : Nat) (x : Side) (bs : Bytes) {s : State} (hk : Keeps z0 s) :
    Keeps z0 (sideWrite s c x bs) := by
  unfold sideWrite
  try dsimp only
  repeat' (first
    | intro _
    | with_reducible assumption
    | with_reducible apply spaceWrite_keeps
    | with_reducible apply State.hostWrite_keeps
    | with_reducible apply Keeps.ite
    | with_reducible apply Keeps.foldl
    | (with_reducible apply Keeps.mk; with_reducible apply KeepsParts.of; first | split))

theorem noteRefusal_keeps (i : Nat) (d : DDesc) (o : Nat) {s : State} (hk : Keeps z0 s) : Keeps z0 (noteRefusal s i d o) :=
  Keeps.quiet (noteRefusal_writes (wm := 1073741856) (Writes.refl _ _) (by decide)) (by decide) hk

theorem stageData_keeps (c : Nat) (bs : Bytes) {s : State} (hk : Keeps z0 s) : Keeps z0 (stageData s c bs) :=
  Keeps.quiet (stageData_writes (wm := 4194304) (Writes.refl _ _) (by decide)) (by decide) hk

theorem runDesc_keeps (c : Nat) (d : DDesc) (host : Bytes) (hostFail : Option Nat) {s : State} (hk : Keeps z0 s) :
    Keeps z0 (runDesc s c d host hostFail) := by
  unfold runDesc
  try dsimp only
  repeat' (first
    | with_reducible assumption
    | with_reducible apply stageData_keeps
    | with_reducible apply noteRefusal_keeps
    | with_reducible apply sideWrite_keeps
    | with_reducible apply endDesc_keeps
    | with_reducible apply State.drawBytes_keeps
    | with_reducible apply Keeps.ite
    | (with_reducible apply Keeps.mk; with_reducible apply KeepsParts.of; first | split)
    | with_reducible apply KeepsSnd.snd)

theorem onDma_keeps (c : Nat) (ops : Nat → Bool) (host : Bytes) {s : State} (hk : Keeps z0 s) :
    Keeps z0 (onDma s c ops host) := by
  unfold onDma
  try dsimp only
  repeat' (first
    | with_reducible assumption
    | with_reducible apply runDesc_keeps
    | with_reducible apply completeDesc_keeps
    | with_reducible apply Keeps.ite)

theorem execCopy_keeps (ch : Nat) (hostData : Bytes) {s : State} (hk : Keeps z0 s) :
    KeepsOut z0 (execCopy ch hostData s) := by
  unfold execCopy
  try dsimp only
  repeat' (first
    | with_reducible assumption
    | with_reducible apply onDma_keeps
    | with_reducible apply KeepsOut.next)

theorem execFill_keeps (ch : Nat) {s : State} (hk : Keeps z0 s) :
    KeepsOut z0 (execFill ch s) := by
  unfold execFill
  try dsimp only
  repeat' (first
    | with_reducible assumption
    | with_reducible apply onDma_keeps
    | with_reducible apply KeepsOut.next)

theorem execCompareConst_keeps (ch : Nat) (hostData : Bytes) {s : State} (hk : Keeps z0 s) :
    KeepsOut z0 (execCompareConst ch hostData s) := by
  unfold execCompareConst
  try dsimp only
  repeat' (first
    | with_reducible assumption
    | with_reducible apply onDma_keeps
    | with_reducible apply KeepsOut.next)

theorem execCompareBuf_keeps (ch : Nat) (hostData : Bytes) {s : State} (hk : Keeps z0 s) :
    KeepsOut z0 (execCompareBuf ch hostData s) := by
  unfold execCompareBuf
  try dsimp only
  repeat' (first
    | with_reducible assumption
    | with_reducible apply onDma_keeps
    | with_reducible apply KeepsOut.next)

theorem jobReadBack_keeps (id : Nat) (ok : Bool) {s : State} (hk : Keeps z0 s) :
    Keeps z0 (jobReadBack s id ok) := by
  unfold jobReadBack
  try dsimp only
  repeat' (first
    | with_reducible assumption
    | with_reducible apply complete_keeps
    | with_reducible apply returnChannel_keeps
    | with_reducible apply State.withJob_keeps
    | with_reducible apply State.hostWrite_keeps
    | with_reducible apply State.bump_keeps
    | with_reducible apply Keeps.ite)

theorem chanReadBack_keeps (c : Nat) (ok : Bool) {s : State} (hk : Keeps z0 s) :
    Keeps z0 (chanReadBack s c ok) := by
  unfold chanReadBack
  try dsimp only
  repeat' (first
    | with_reducible assumption
    | with_reducible apply completeDesc_keeps
    | with_reducible apply State.bump_keeps
    | with_reducible apply Keeps.ite
    | (with_reducible apply Keeps.mk; with_reducible apply KeepsParts.of; first | split))

theorem execReadBackDone_keeps (who : XferRef) (ok : Bool) {s : State} (hk : Keeps z0 s) :
    KeepsOut z0 (execReadBackDone who ok s) := by
  unfold execReadBackDone
  try dsimp only
  repeat' (first
    | with_reducible assumption
    | with_reducible apply chanReadBack_keeps
    | with_reducible apply jobReadBack_keeps
    | with_reducible apply KeepsOut.next
    | with_reducible apply KeepsOut.ite
    | split)

theorem failRead_keeps (who : ReadRef) {s : State} (hk : Keeps z0 s) :
    Keeps z0 (failRead s who) := by
  unfold failRead
  try dsimp only
  repeat' (first
    | with_reducible assumption
    | with_reducible apply runDesc_keeps
    | with_reducible apply failJobRead_keeps
    | with_reducible apply Keeps.ite
    | (with_reducible apply Keeps.mk; with_reducible apply KeepsParts.of; first | split))

theorem execHostReadError_keeps (who : ReadRef) {s : State} (hk : Keeps z0 s) :
    KeepsOut z0 (execHostReadError who s) := by
  unfold execHostReadError
  try dsimp only
  repeat' (first
    | with_reducible assumption
    | with_reducible apply failRead_keeps
    | with_reducible apply KeepsOut.next)

theorem execCompletionTimeout_keeps (who : ReadRef) {s : State} (hk : Keeps z0 s) :
    KeepsOut z0 (execCompletionTimeout who s) := by
  unfold execCompletionTimeout
  try dsimp only
  repeat' (first
    | with_reducible assumption
    | with_reducible apply failRead_keeps
    | with_reducible apply KeepsOut.next
    | with_reducible apply KeepsOut.ite)

theorem execReadAbandoned_keeps (who : ReadRef) {s : State} (hk : Keeps z0 s) :
    KeepsOut z0 (execReadAbandoned who s) := by
  unfold execReadAbandoned
  try dsimp only
  repeat' (first
    | with_reducible assumption
    | with_reducible apply failRead_keeps
    | with_reducible apply KeepsOut.next
    | with_reducible apply KeepsOut.ite)

end Sys2Proof.Machine
end

