-- ==== Sys2Proof/Laws/Keeps4.lean ====
section
/-! SUPPORT. Keeping of queue and canonical form (see Keeps.lean), operation by operation: Verb, VerbSys, VerbLane, VerbEvents, Power, Repair, Lifecycle, Startup. -/

set_option linter.unusedTactic false
set_option linter.unreachableTactic false
set_option linter.unusedVariables false

namespace Sys2Proof.Machine

open Sys2Proof

variable {z0 : State}

/-! ### Verb -/

theorem State.withRegs_keeps (u : Nat) (f : VRegs → VRegs) {s : State} (hk : Keeps z0 s) : Keeps z0 (State.withRegs s u f) :=
  Keeps.quiet (State.withRegs_writes (wm := 33554432) (Writes.refl _ _) (by decide)) (by decide) hk

theorem countEntry_keeps (u : Nat) (e : Exc) {s : State} (hk : Keeps z0 s) : Keeps z0 (countEntry s u e) :=
  Keeps.quiet (countEntry_writes (wm := 1107296256) (Writes.refl _ _) (by decide)) (by decide) hk

theorem takeAsync_keeps (u : Nat) {s : State} (hk : Keeps z0 s) : Keeps z0 (takeAsync s u) :=
  Keeps.quiet (takeAsync_writes (wm := 1107296256) (Writes.refl _ _) (by decide)) (by decide) hk

theorem raiseAsync_keeps (u : Nat) (ev : AsyncEvent) {s : State} (hk : Keeps z0 s) : Keeps z0 (raiseAsync s u ev) :=
  Keeps.quiet (raiseAsync_writes (wm := 1107296256) (Writes.refl _ _) (by decide)) (by decide) hk

theorem freeze_keeps (u : Nat) (x : VUnit) (e : Exc) {s : State} (hk : Keeps z0 s) : Keeps z0 (freeze s u x e) :=
  Keeps.quiet (freeze_writes (wm := 1107296288) (Writes.refl _ _) (by decide)) (by decide) hk

theorem raiseSync_keeps (u : Nat) (x : VUnit) (e : Exc) (mark : VUnit → VUnit) {s : State} (hk : Keeps z0 s) :
    Keeps z0 (raiseSync s u x e mark) := by
  unfold raiseSync
  try dsimp only
  repeat' (first
    | with_reducible assumption
    | with_reducible apply freeze_keeps
    | with_reducible apply countEntry_keeps
    | with_reducible apply finish_keeps
    | with_reducible apply State.withUnit_keeps
    | with_reducible apply Keeps.ite
    | (with_reducible apply Keeps.mk; with_reducible apply KeepsParts.of; first | split))

theorem failFetch_keeps (u : Nat) (x : VUnit) (e : Exc) {s : State} (hk : Keeps z0 s) :
    Keeps z0 (failFetch s u x e) := by
  unfold failFetch
  try dsimp only
  repeat' (first
    | intro _
    | with_reducible assumption
    | with_reducible apply raiseSync_keeps
    | with_reducible apply State.bump_keeps
    | with_reducible apply Keeps.onlyIf)

theorem runVerb_keeps (u : Nat) (len : Nat) (body : VUnit → State → VRes) {s : State} (hk : Keeps z0 s) (hbody : ∀ y0, ∀ y1, Keeps z0 y1 →
    KeepsRes z0 (body y0 y1)) :
    Keeps z0 (runVerb s u len body) := by
  unfold runVerb
  try dsimp only
  repeat' (first
    | with_reducible assumption
    | with_reducible apply hbody
    | with_reducible apply failFetch_keeps
    | with_reducible apply raiseSync_keeps
    | with_reducible apply takeAsync_keeps
    | with_reducible apply State.withUnit_keeps
    | with_reducible apply Keeps.ite
    | (with_reducible apply Keeps.mk; with_reducible apply KeepsParts.of; first | split)
    | (with_reducible apply KeepsRes.of_done; with_reducible assumption)
    | (with_reducible apply KeepsRes.of_exc; with_reducible assumption))

theorem trapReserved_keeps (u : Nat) (pre : List (BitVec 12)) (word : Nat) {s : State} (hk : Keeps z0 s) :
    Keeps z0 (trapReserved s u pre word) := by
  unfold trapReserved
  try dsimp only
  repeat' (first
    | with_reducible assumption
    | with_reducible apply failFetch_keeps
    | with_reducible apply raiseSync_keeps
    | with_reducible apply Keeps.ite
    | (with_reducible apply Keeps.mk; with_reducible apply KeepsParts.of; first | split))

theorem runWord_keeps (u : Nat) (pre : List (BitVec 12)) (word : Nat) (body : VUnit → State → VRes) {s : State} (hk : Keeps z0 s) (hbody :
    ∀ y0, ∀ y1, Keeps z0 y1 → KeepsRes z0 (body y0 y1)) :
    Keeps z0 (runWord s u pre word body) := by
  unfold runWord
  try dsimp only
  repeat' (first
    | intro _
    | with_reducible assumption
    | with_reducible apply hbody
    | with_reducible apply trapReserved_keeps
    | with_reducible apply runVerb_keeps
    | with_reducible apply Keeps.ite)

theorem onRegs_keeps (u : Nat) (f : VRegs → VRegs → VRegs) (x0 : VUnit) {x1 : State} (hk : Keeps z0 x1) :
    KeepsRes z0 (onRegs u f x0 x1) := by
  unfold onRegs
  try dsimp only
  repeat' (first
    | with_reducible assumption
    | with_reducible apply State.withRegs_keeps
    | with_reducible apply KeepsRes.done)

theorem refusal_keeps (g : Nat) (i : Nat) (off : Nat) (a : Nat) (code : Nat) (wr : Bool) {s : State} (hk : Keeps z0 s) :
    KeepsRes z0 (refusal s g i off a code wr) := by
  unfold refusal
  try dsimp only
  repeat' (first
    | with_reducible assumption
    | with_reducible apply guardRefused_keeps
    | with_reducible apply KeepsRes.exc)

theorem freshWord_keeps (p : Nat) {s : State} (hk : Keeps z0 s) :
    KeepsOptSnd z0 (freshWord s p) := by
  unfold freshWord
  try dsimp only
  repeat' (first
    | with_reducible assumption
    | with_reducible apply rngDraw_keeps
    | with_reducible exact KeepsOptSnd.none
    | with_reducible apply KeepsOptSnd.some
    | split
    | with_reducible apply KeepsSnd.snd)

theorem loadWord_keeps (u : Nat) (g : Nat) (off : Nat) (a : Nat) {s : State} (hk : Keeps z0 s) :
    KeepsSum z0 (loadWord s u g off a) := by
  unfold loadWord
  try dsimp only
  repeat' (first
    | with_reducible assumption
    | with_reducible apply freshWord_keeps
    | with_reducible apply latchDtb_keeps
    | with_reducible apply State.withUnit_keeps
    | with_reducible apply KeepsSum.inl
    | with_reducible apply KeepsSum.inr
    | with_reducible apply Keeps.ite
    | with_reducible apply KeepsRes.exc
    | with_reducible exact KeepsRes.rngWait
    | (with_reducible apply KeepsOptSnd.of_eq; with_reducible assumption)
    | split)

theorem failStalled_keeps (p : Nat) {s : State} (hk : Keeps z0 s) :
    Keeps z0 (failStalled s p) := by
  unfold failStalled
  try dsimp only
  repeat' (first
    | intro _
    | with_reducible assumption
    | with_reducible apply raiseSync_keeps
    | with_reducible apply Keeps.ite
    | with_reducible apply Keeps.foldl
    | (with_reducible apply Keeps.mk; with_reducible apply KeepsParts.of; first | split))

theorem vLoad_keeps (u : Nat) (x : VUnit) (a : Nat) (n : Nat) {s : State} (hk : Keeps z0 s) :
    KeepsSum z0 (vLoad s u x a n) := by
  unfold vLoad
  try dsimp only
  repeat' (first
    | with_reducible assumption
    | with_reducible apply loadWord_keeps
    | with_reducible apply refusal_keeps
    | with_reducible apply KeepsSum.inl
    | with_reducible apply KeepsSum.inr
    | with_reducible apply KeepsRes.exc
    | with_reducible exact KeepsRes.stall
    | (with_reducible apply KeepsSum.of_inl; with_reducible assumption)
    | (with_reducible apply KeepsSum.of_inr; with_reducible assumption)
    | split)

theorem vStore_keeps (u : Nat) (x : VUnit) (a : Nat) (bs : Bytes) {s : State} (hk : Keeps z0 s) :
    KeepsRes z0 (vStore s u x a bs) := by
  unfold vStore
  try dsimp only
  repeat' (first
    | with_reducible assumption
    | with_reducible apply refusal_keeps
    | with_reducible apply spaceWrite_keeps
    | with_reducible apply State.withUnit_keeps
    | with_reducible apply KeepsRes.ite
    | with_reducible apply KeepsRes.done
    | with_reducible apply KeepsRes.exc
    | split)

/-! ### VerbSys -/

theorem execNop_keeps (u : Nat) {s : State} (hk : Keeps z0 s) :
    KeepsOut z0 (execNop u s) := by
  unfold execNop
  try dsimp only
  repeat' (first
    | intro _
    | with_reducible assumption
    | with_reducible apply runVerb_keeps
    | with_reducible apply KeepsOut.next
    | with_reducible apply KeepsRes.done)

theorem execVerbFence_keeps (u : Nat) {s : State} (hk : Keeps z0 s) :
    KeepsOut z0 (execVerbFence u s) := by
  unfold execVerbFence
  try dsimp only
  repeat' (first
    | intro _
    | with_reducible assumption
    | with_reducible apply runVerb_keeps
    | with_reducible apply KeepsOut.next
    | with_reducible apply KeepsRes.done)

theorem execBrk_keeps (u : Nat) {s : State} (hk : Keeps z0 s) :
    KeepsOut z0 (execBrk u s) := by
  unfold execBrk
  try dsimp only
  repeat' (first
    | intro _
    | with_reducible assumption
    | with_reducible apply runVerb_keeps
    | with_reducible apply KeepsOut.next
    | with_reducible apply KeepsRes.exc)

theorem execEms_keeps (u : Nat) {s : State} (hk : Keeps z0 s) :
    KeepsOut z0 (execEms u s) := by
  unfold execEms
  try dsimp only
  repeat' (first
    | intro _
    | with_reducible assumption
    | with_reducible apply runVerb_keeps
    | with_reducible apply State.withRegs_keeps
    | with_reducible apply KeepsOut.next
    | with_reducible apply KeepsRes.ite
    | with_reducible apply KeepsRes.done
    | with_reducible apply KeepsRes.exc)

theorem execEmc_keeps (u : Nat) {s : State} (hk : Keeps z0 s) :
    KeepsOut z0 (execEmc u s) := by
  unfold execEmc
  try dsimp only
  repeat' (first
    | intro _
    | with_reducible assumption
    | with_reducible apply runVerb_keeps
    | with_reducible apply State.withRegs_keeps
    | with_reducible apply KeepsOut.next
    | with_reducible apply KeepsRes.ite
    | with_reducible apply KeepsRes.done
    | with_reducible apply KeepsRes.exc)

theorem wfeStep_keeps (u : Nat) {s : State} (hk : Keeps z0 s) : Keeps z0 (wfeStep s u) :=
  Keeps.quiet (wfeStep_writes (wm := 1107296256) (Writes.refl _ _) (by decide)) (by decide) hk

theorem waitcStep_keeps (u : Nat) (dn : BitVec 32) {s : State} (hk : Keeps z0 s) : Keeps z0 (waitcStep s u dn) :=
  Keeps.quiet (waitcStep_writes (wm := 1107296256) (Writes.refl _ _) (by decide)) (by decide) hk

theorem beginWait_keeps (u : Nat) (f : VUnit → State → State) {s : State} (hk : Keeps z0 s) (hf : ∀ y0, ∀ y1, Keeps z0 y1 → Keeps z0 (f y0 y1)) :
    Keeps z0 (beginWait s u f) := by
  unfold beginWait
  try dsimp only
  repeat' (first
    | with_reducible assumption
    | with_reducible apply hf
    | with_reducible apply failFetch_keeps
    | with_reducible apply State.withUnit_keeps
    | with_reducible apply Keeps.ite
    | (with_reducible apply Keeps.mk; with_reducible apply KeepsParts.of; first | split))

theorem execWfe_keeps (u : Nat) {s : State} (hk : Keeps z0 s) :
    KeepsOut z0 (execWfe u s) := by
  unfold execWfe
  try dsimp only
  repeat' (first
    | intro _
    | with_reducible assumption
    | with_reducible apply beginWait_keeps
    | with_reducible apply wfeStep_keeps
    | with_reducible apply KeepsOut.next)

theorem execWaitc_keeps (u : Nat) (dn : Fin 8) {s : State} (hk : Keeps z0 s) :
    KeepsOut z0 (execWaitc u dn s) := by
  unfold execWaitc
  try dsimp only
  repeat' (first
    | intro _
    | with_reducible assumption
    | with_reducible apply beginWait_keeps
    | with_reducible apply waitcStep_keeps
    | with_reducible apply KeepsOut.next)

theorem execWaitWake_keeps (u : Nat) {s : State} (hk : Keeps z0 s) : KeepsOut z0 (execWaitWake u s) :=
  KeepsOut.quiet (execWaitWake_writes (wm := 1107296256) (Writes.refl _ _) (by decide)) (by decide) hk

theorem execSev_keeps (u : Nat) (dn : Fin 8) (bank : Bool) {s : State} (hk : Keeps z0 s) :
    KeepsOut z0 (execSev u dn bank s) := by
  unfold execSev
  try dsimp only
  repeat' (first
    | intro _
    | with_reducible assumption
    | with_reducible apply runVerb_keeps
    | with_reducible apply sendEvents_keeps
    | with_reducible apply State.bumpBys_keeps
    | with_reducible apply KeepsOut.next
    | with_reducible apply KeepsRes.done)

theorem execMfs_keeps (u : Nat) (dd : Fin 8) (sreg : Fin 32) {s : State} (hk : Keeps z0 s) :
    KeepsOut z0 (execMfs u dd sreg s) := by
  unfold execMfs
  try dsimp only
  repeat' (first
    | intro _
    | with_reducible assumption
    | with_reducible apply runWord_keeps
    | with_reducible apply State.withRegs_keeps
    | with_reducible apply State.withUnit_keeps
    | with_reducible apply KeepsOut.next
    | with_reducible apply KeepsRes.ite
    | with_reducible apply KeepsRes.done
    | with_reducible apply KeepsRes.exc)

theorem execMts_keeps (u : Nat) (sreg : Fin 32) (ds : Fin 8) {s : State} (hk : Keeps z0 s) :
    KeepsOut z0 (execMts u sreg ds s) := by
  unfold execMts
  try dsimp only
  repeat' (first
    | intro _
    | with_reducible assumption
    | with_reducible apply runWord_keeps
    | with_reducible apply State.withUnit_keeps
    | with_reducible apply KeepsOut.next
    | with_reducible apply KeepsRes.ite
    | with_reducible apply KeepsRes.done
    | with_reducible apply KeepsRes.exc)

theorem execRetx_keeps (u : Nat) {s : State} (hk : Keeps z0 s) :
    KeepsOut z0 (execRetx u s) := by
  unfold execRetx
  try dsimp only
  repeat' (first
    | intro _
    | with_reducible assumption
    | with_reducible apply runVerb_keeps
    | with_reducible apply State.withRegs_keeps
    | with_reducible apply KeepsOut.next
    | with_reducible apply KeepsRes.ite
    | with_reducible apply KeepsRes.done
    | with_reducible apply KeepsRes.exc)

theorem execRetg_keeps (u : Nat) {s : State} (hk : Keeps z0 s) :
    KeepsOut z0 (execRetg u s) := by
  unfold execRetg
  try dsimp only
  repeat' (first
    | intro _
    | with_reducible assumption
    | with_reducible apply runVerb_keeps
    | with_reducible apply State.withRegs_keeps
    | with_reducible apply KeepsOut.next
    | with_reducible apply KeepsRes.ite
    | with_reducible apply KeepsRes.done
    | with_reducible apply KeepsRes.exc)

theorem execGate_keeps (u : Nat) (n : BitVec 8) {s : State} (hk : Keeps z0 s) :
    KeepsOut z0 (execGate u n s) := by
  unfold execGate
  try dsimp only
  repeat' (first
    | intro _
    | with_reducible assumption
    | with_reducible apply runVerb_keeps
    | with_reducible apply State.withUnit_keeps
    | with_reducible apply KeepsOut.next
    | with_reducible apply KeepsRes.done
    | with_reducible apply KeepsRes.exc
    | split)

theorem execMovad_keeps (u : Nat) (ad : Fin 8) (ds : Fin 8) {s : State} (hk : Keeps z0 s) :
    KeepsOut z0 (execMovad u ad ds s) := by
  unfold execMovad
  try dsimp only
  repeat' (first
    | intro _
    | with_reducible assumption
    | with_reducible apply onRegs_keeps
    | with_reducible apply runVerb_keeps
    | with_reducible apply KeepsOut.next)

theorem execMovda_keeps (u : Nat) (dd : Fin 8) (as : Fin 8) {s : State} (hk : Keeps z0 s) :
    KeepsOut z0 (execMovda u dd as s) := by
  unfold execMovda
  try dsimp only
  repeat' (first
    | intro _
    | with_reducible assumption
    | with_reducible apply onRegs_keeps
    | with_reducible apply runVerb_keeps
    | with_reducible apply KeepsOut.next)

theorem execMovaa_keeps (u : Nat) (ad : Fin 8) (as : Fin 8) {s : State} (hk : Keeps z0 s) :
    KeepsOut z0 (execMovaa u ad as s) := by
  unfold execMovaa
  try dsimp only
  repeat' (first
    | intro _
    | with_reducible assumption
    | with_reducible apply onRegs_keeps
    | with_reducible apply runVerb_keeps
    | with_reducible apply KeepsOut.next)

theorem execJmp_keeps (u : Nat) (as : Fin 8) {s : State} (hk : Keeps z0 s) :
    KeepsOut z0 (execJmp u as s) := by
  unfold execJmp
  try dsimp only
  repeat' (first
    | intro _
    | with_reducible assumption
    | with_reducible apply onRegs_keeps
    | with_reducible apply runVerb_keeps
    | with_reducible apply KeepsOut.next)

theorem execJsr_keeps (u : Nat) (as : Fin 8) {s : State} (hk : Keeps z0 s) :
    KeepsOut z0 (execJsr u as s) := by
  unfold execJsr
  try dsimp only
  repeat' (first
    | intro _
    | with_reducible assumption
    | with_reducible apply onRegs_keeps
    | with_reducible apply runVerb_keeps
    | with_reducible apply KeepsOut.next)

theorem execAdda_keeps (u : Nat) (ad : Fin 8) (ds : Fin 8) {s : State} (hk : Keeps z0 s) :
    KeepsOut z0 (execAdda u ad ds s) := by
  unfold execAdda
  try dsimp only
  repeat' (first
    | intro _
    | with_reducible assumption
    | with_reducible apply onRegs_keeps
    | with_reducible apply runVerb_keeps
    | with_reducible apply KeepsOut.next)

theorem execAddaa_keeps (u : Nat) (ad : Fin 8) (as : Fin 8) {s : State} (hk : Keeps z0 s) :
    KeepsOut z0 (execAddaa u ad as s) := by
  unfold execAddaa
  try dsimp only
  repeat' (first
    | intro _
    | with_reducible assumption
    | with_reducible apply onRegs_keeps
    | with_reducible apply runVerb_keeps
    | with_reducible apply KeepsOut.next)

theorem execCmpa_keeps (u : Nat) (ad : Fin 8) (as : Fin 8) {s : State} (hk : Keeps z0 s) :
    KeepsOut z0 (execCmpa u ad as s) := by
  unfold execCmpa
  try dsimp only
  repeat' (first
    | intro _
    | with_reducible assumption
    | with_reducible apply onRegs_keeps
    | with_reducible apply runVerb_keeps
    | with_reducible apply KeepsOut.next)

theorem execAddai_keeps (u : Nat) (pre : List (BitVec 12)) (ad : Fin 8) (imm : BitVec 5) {s : State} (hk : Keeps z0 s) :
    KeepsOut z0 (execAddai u pre ad imm s) := by
  unfold execAddai
  try dsimp only
  repeat' (first
    | intro _
    | with_reducible assumption
    | with_reducible apply onRegs_keeps
    | with_reducible apply runWord_keeps
    | with_reducible apply KeepsOut.next)

theorem execReservedPattern_keeps (u : Nat) (pre : List (BitVec 12)) (word : BitVec 14) {s : State} (hk : Keeps z0 s) :
    KeepsOut z0 (execReservedPattern u pre word s) := by
  unfold execReservedPattern
  try dsimp only
  repeat' (first
    | with_reducible assumption
    | with_reducible apply trapReserved_keeps
    | with_reducible apply KeepsOut.next
    | with_reducible apply KeepsOut.ite)

/-! ### VerbLane -/

theorem laneBad_keeps (u : Nat) (e : GE) (code : Nat) (detail : Nat) {s : State} (hk : Keeps z0 s) :
    Keeps z0 (laneBad s u e code detail) := by
  unfold laneBad
  try dsimp only
  repeat' (first
    | with_reducible assumption
    | with_reducible apply laneFault_keeps
    | with_reducible apply faultReport_keeps
    | with_reducible apply State.report_keeps
    | with_reducible apply State.bump_keeps
    | (with_reducible apply Keeps.mk; with_reducible apply KeepsParts.of; first | split))

theorem watchBad_keeps (u : Nat) (k : Nat) {s : State} (hk : Keeps z0 s) :
    Keeps z0 (watchBad s u k) := by
  unfold watchBad
  try dsimp only
  repeat' (first
    | with_reducible assumption
    | with_reducible apply laneBad_keeps
    | with_reducible apply State.drawNat_keeps
    | with_reducible apply KeepsSnd.snd)

theorem narrowBad_keeps (u : Nat) {s : State} (hk : Keeps z0 s) :
    Keeps z0 (narrowBad s u) := by
  unfold narrowBad
  try dsimp only
  repeat' (first
    | with_reducible assumption
    | with_reducible apply laneBad_keeps
    | with_reducible apply State.drawNat_keeps
    | with_reducible apply State.bump_keeps
    | with_reducible apply KeepsSnd.snd)

theorem laneOp_keeps (u : Nat) (lop : Nat) (a : Nat) (b : Nat) (body : VUnit → State → VRes) {s : State} (hk : Keeps z0 s) (hbody : ∀ y0, ∀
    y1, Keeps z0 y1 → KeepsRes z0 (body y0 y1)) :
    Keeps z0 (laneOp s u lop a b body) := by
  unfold laneOp
  try dsimp only
  repeat' (first
    | intro _
    | with_reducible assumption
    | with_reducible apply hbody
    | with_reducible apply runWord_keeps
    | with_reducible apply Keeps.ite)

theorem wide_keeps (f : Nat → Nat → Nat → VUnit → State → VRes) (x0 : VUnit) {x1 : State} (hk : Keeps z0 x1) (hf : ∀ y0, ∀ y1, ∀ y2, ∀ y3,
    ∀ y4, Keeps z0 y4 → KeepsRes z0 (f y0 y1 y2 y3 y4)) :
    KeepsRes z0 (wide f x0 x1) := by
  unfold wide
  try dsimp only
  repeat' (first
    | with_reducible assumption
    | with_reducible apply hf
    | with_reducible apply KeepsRes.exc
    | split)

theorem laneAt_keeps (u : Nat) (x : VUnit) (as : Nat) (n : Nat) (wr : Bool) {s : State} (hk : Keeps z0 s) :
    KeepsInl z0 (laneAt s u x as n wr) := by
  unfold laneAt
  try dsimp only
  repeat' (first
    | with_reducible assumption
    | with_reducible apply refusal_keeps
    | with_reducible apply KeepsInl.inl
    | with_reducible exact KeepsInl.inr
    | with_reducible apply KeepsRes.exc
    | split)

theorem countMont_keeps (u : Nat) {s : State} (hk : Keeps z0 s) : Keeps z0 (countMont s u) :=
  Keeps.quiet (countMont_writes (wm := 1024) (Writes.refl _ _) (by decide)) (by decide) hk

theorem execLmont_keeps (u : Nat) (ld : Fin 8) (ls : Fin 8) (bad : Bool) {s : State} (hk : Keeps z0 s) :
    KeepsOut z0 (execLmont u ld ls bad s) := by
  unfold execLmont
  try dsimp only
  repeat' (first
    | intro _
    | with_reducible assumption
    | with_reducible apply countMont_keeps
    | with_reducible apply wide_keeps
    | with_reducible apply laneOp_keeps
    | with_reducible apply watchBad_keeps
    | with_reducible apply State.withRegs_keeps
    | with_reducible apply State.drawNat_keeps
    | with_reducible apply KeepsOut.next
    | with_reducible apply KeepsRes.ite
    | with_reducible apply KeepsRes.done
    | with_reducible apply KeepsSnd.snd)

theorem execLadd_keeps (u : Nat) (ld : Fin 8) (ls : Fin 8) {s : State} (hk : Keeps z0 s) :
    KeepsOut z0 (execLadd u ld ls s) := by
  unfold execLadd
  try dsimp only
  repeat' (first
    | intro _
    | with_reducible assumption
    | with_reducible apply wide_keeps
    | with_reducible apply laneOp_keeps
    | with_reducible apply State.withRegs_keeps
    | with_reducible apply KeepsOut.next
    | with_reducible apply KeepsRes.done)

theorem execLsub_keeps (u : Nat) (ld : Fin 8) (ls : Fin 8) {s : State} (hk : Keeps z0 s) :
    KeepsOut z0 (execLsub u ld ls s) := by
  unfold execLsub
  try dsimp only
  repeat' (first
    | intro _
    | with_reducible assumption
    | with_reducible apply wide_keeps
    | with_reducible apply laneOp_keeps
    | with_reducible apply State.withRegs_keeps
    | with_reducible apply KeepsOut.next
    | with_reducible apply KeepsRes.done)

theorem execLmov_keeps (u : Nat) (ld : Fin 8) (ls : Fin 8) {s : State} (hk : Keeps z0 s) :
    KeepsOut z0 (execLmov u ld ls s) := by
  unfold execLmov
  try dsimp only
  repeat' (first
    | intro _
    | with_reducible assumption
    | with_reducible apply laneOp_keeps
    | with_reducible apply onRegs_keeps
    | with_reducible apply KeepsOut.next)

theorem convCkpt_keeps (u : Nat) {s : State} (hk : Keeps z0 s) : Keeps z0 (convCkpt s u) :=
  Keeps.quiet (convCkpt_writes (wm := 33554432) (Writes.refl _ _) (by decide)) (by decide) hk

theorem execLconv_keeps (u : Nat) (ld : Fin 8) (as : Fin 8) {s : State} (hk : Keeps z0 s) :
    KeepsOut z0 (execLconv u ld as s) := by
  unfold execLconv
  try dsimp only
  repeat' (first
    | intro _
    | with_reducible assumption
    | with_reducible apply convCkpt_keeps
    | with_reducible apply laneAt_keeps
    | with_reducible apply wide_keeps
    | with_reducible apply laneOp_keeps
    | with_reducible apply State.withRegs_keeps
    | with_reducible apply KeepsOut.next
    | with_reducible apply KeepsRes.done
    | (with_reducible apply KeepsInl.of_inl; with_reducible assumption)
    | split)

theorem execLsettle_keeps (u : Nat) (as : Fin 8) (ls : Fin 8) (bad : Bool) {s : State} (hk : Keeps z0 s) :
    KeepsOut z0 (execLsettle u as ls bad s) := by
  unfold execLsettle
  try dsimp only
  repeat' (first
    | intro _
    | with_reducible assumption
    | with_reducible apply laneAt_keeps
    | with_reducible apply wide_keeps
    | with_reducible apply laneOp_keeps
    | with_reducible apply watchBad_keeps
    | with_reducible apply KeepsOut.next
    | with_reducible apply KeepsRes.ite
    | with_reducible apply KeepsRes.done
    | (with_reducible apply Keeps.mk; with_reducible refine KeepsParts.mem ?_ (Mem.write_wf _ _))
    | (with_reducible apply KeepsInl.of_inl; with_reducible assumption)
    | split)

theorem execLld_keeps (u : Nat) (ld : Fin 8) (as : Fin 8) {s : State} (hk : Keeps z0 s) :
    KeepsOut z0 (execLld u ld as s) := by
  unfold execLld
  try dsimp only
  repeat' (first
    | intro _
    | with_reducible assumption
    | with_reducible apply laneAt_keeps
    | with_reducible apply wide_keeps
    | with_reducible apply laneOp_keeps
    | with_reducible apply State.withRegs_keeps
    | with_reducible apply KeepsOut.next
    | with_reducible apply KeepsRes.done
    | (with_reducible apply KeepsInl.of_inl; with_reducible assumption)
    | split)

theorem execLst_keeps (u : Nat) (as : Fin 8) (ls : Fin 8) {s : State} (hk : Keeps z0 s) :
    KeepsOut z0 (execLst u as ls s) := by
  unfold execLst
  try dsimp only
  repeat' (first
    | intro _
    | with_reducible assumption
    | with_reducible apply laneAt_keeps
    | with_reducible apply wide_keeps
    | with_reducible apply laneOp_keeps
    | with_reducible apply KeepsOut.next
    | with_reducible apply KeepsRes.done
    | (with_reducible apply Keeps.mk; with_reducible refine KeepsParts.mem ?_ (Mem.write_wf _ _))
    | (with_reducible apply KeepsInl.of_inl; with_reducible assumption)
    | split)

theorem execLsetup_keeps (u : Nat) (as : Fin 8) (dn : Fin 8) {s : State} (hk : Keeps z0 s) :
    KeepsOut z0 (execLsetup u as dn s) := by
  unfold execLsetup
  try dsimp only
  repeat' (first
    | intro _
    | with_reducible assumption
    | with_reducible apply laneAt_keeps
    | with_reducible apply laneOp_keeps
    | with_reducible apply State.withRegs_keeps
    | with_reducible apply KeepsOut.next
    | with_reducible apply KeepsRes.ite
    | with_reducible apply KeepsRes.done
    | with_reducible apply KeepsRes.exc
    | (with_reducible apply KeepsInl.of_inl; with_reducible assumption)
    | split)

theorem narrowOp_keeps (u : Nat) (lop : Nat) (ld : Nat) (ls : Nat) (bad : Bool) (f : Nat → Nat → Nat → Nat → Nat) (g : Option (Nat → Nat →
    Nat → Nat → Nat)) {s : State} (hk : Keeps z0 s) :
    Keeps z0 (narrowOp s u lop ld ls bad f g) := by
  unfold narrowOp
  try dsimp only
  repeat' (first
    | intro _
    | with_reducible assumption
    | with_reducible apply laneOp_keeps
    | with_reducible apply narrowBad_keeps
    | with_reducible apply trapReserved_keeps
    | with_reducible apply State.withRegs_keeps
    | with_reducible apply State.drawBytes_keeps
    | with_reducible apply Keeps.ite
    | with_reducible apply KeepsRes.ite
    | with_reducible apply KeepsRes.done
    | (with_reducible apply Keeps.mk; with_reducible apply KeepsParts.of; first | split)
    | split
    | with_reducible apply KeepsSnd.snd)

theorem execNmul_keeps (u : Nat) (ld : Fin 8) (ls : Fin 8) (bad : Bool) {s : State} (hk : Keeps z0 s) :
    KeepsOut z0 (execNmul u ld ls bad s) := by
  unfold execNmul
  try dsimp only
  repeat' (first
    | with_reducible assumption
    | with_reducible apply narrowOp_keeps
    | with_reducible apply KeepsOut.next)

theorem execNadd_keeps (u : Nat) (ld : Fin 8) (ls : Fin 8) (bad : Bool) {s : State} (hk : Keeps z0 s) :
    KeepsOut z0 (execNadd u ld ls bad s) := by
  unfold execNadd
  try dsimp only
  repeat' (first
    | with_reducible assumption
    | with_reducible apply narrowOp_keeps
    | with_reducible apply KeepsOut.next)

theorem execNsub_keeps (u : Nat) (ld : Fin 8) (ls : Fin 8) (bad : Bool) {s : State} (hk : Keeps z0 s) :
    KeepsOut z0 (execNsub u ld ls bad s) := by
  unfold execNsub
  try dsimp only
  repeat' (first
    | with_reducible assumption
    | with_reducible apply narrowOp_keeps
    | with_reducible apply KeepsOut.next)

theorem execNbfct_keeps (u : Nat) (ld : Fin 8) (ls : Fin 8) (bad : Bool) {s : State} (hk : Keeps z0 s) :
    KeepsOut z0 (execNbfct u ld ls bad s) := by
  unfold execNbfct
  try dsimp only
  repeat' (first
    | with_reducible assumption
    | with_reducible apply narrowOp_keeps
    | with_reducible apply KeepsOut.next)

theorem execNbfgs_keeps (u : Nat) (ld : Fin 8) (ls : Fin 8) (bad : Bool) {s : State} (hk : Keeps z0 s) :
    KeepsOut z0 (execNbfgs u ld ls bad s) := by
  unfold execNbfgs
  try dsimp only
  repeat' (first
    | with_reducible assumption
    | with_reducible apply narrowOp_keeps
    | with_reducible apply KeepsOut.next)

theorem execLqn_keeps (u : Nat) (dn : Fin 8) (width : Fin 8) {s : State} (hk : Keeps z0 s) :
    KeepsOut z0 (execLqn u dn width s) := by
  unfold execLqn
  try dsimp only
  repeat' (first
    | intro _
    | with_reducible assumption
    | with_reducible apply laneOp_keeps
    | with_reducible apply onRegs_keeps
    | with_reducible apply KeepsOut.next)

theorem execKperm_keeps (u : Nat) (as : Fin 8) (bad : Bool) {s : State} (hk : Keeps z0 s) :
    KeepsOut z0 (execKperm u as bad s) := by
  unfold execKperm
  try dsimp only
  repeat' (first
    | intro _
    | with_reducible assumption
    | with_reducible apply laneAt_keeps
    | with_reducible apply laneOp_keeps
    | with_reducible apply laneBad_keeps
    | with_reducible apply State.drawNat_keeps
    | with_reducible apply KeepsOut.next
    | with_reducible apply KeepsRes.ite
    | with_reducible apply KeepsRes.done
    | (with_reducible apply Keeps.mk; with_reducible refine KeepsParts.mem ?_ (Mem.write_wf _ _))
    | (with_reducible apply KeepsInl.of_inl; with_reducible assumption)
    | split
    | with_reducible apply KeepsSnd.snd)

theorem yieldAt_keeps (id : Nat) {s : State} (hk : Keeps z0 s) :
    Keeps z0 (yieldAt s id) := by
  unfold yieldAt
  try dsimp only
  repeat' (first
    | with_reducible assumption
    | with_reducible apply parkJob_keeps
    | with_reducible apply checkpoint_keeps
    | with_reducible apply State.withJob_keeps
    | with_reducible apply Keeps.ite
    | (with_reducible apply Keeps.mk; with_reducible apply KeepsParts.of; first | split))

theorem execYpt_keeps (u : Nat) {s : State} (hk : Keeps z0 s) :
    KeepsOut z0 (execYpt u s) := by
  unfold execYpt
  try dsimp only
  repeat' (first
    | intro _
    | with_reducible assumption
    | with_reducible apply yieldAt_keeps
    | with_reducible apply laneOp_keeps
    | with_reducible apply KeepsOut.next
    | with_reducible apply KeepsRes.done
    | (with_reducible apply Keeps.mk; with_reducible apply KeepsParts.of; first | split))

/-! ### VerbEvents -/

theorem execDeviceInterrupt_keeps (u : Nat) (ev : AsyncEvent) {s : State} (hk : Keeps z0 s) : KeepsOut z0 (execDeviceInterrupt u ev s) :=
  KeepsOut.quiet (execDeviceInterrupt_writes (wm := 1107296256) (Writes.refl _ _) (by decide)) (by decide) hk

theorem resetCore_keeps (u : Nat) {s : State} (hk : Keeps z0 s) : Keeps z0 (resetCore s u) :=
  Keeps.quiet (resetCore_writes (wm := 33554432) (Writes.refl _ _) (by decide)) (by decide) hk

theorem loadProgram_keeps (core : Nat) {s : State} (hk : Keeps z0 s) : Keeps z0 (loadProgram s core) :=
  Keeps.quiet (loadProgram_writes (wm := 33554432) (Writes.refl _ _) (by decide)) (by decide) hk

theorem testPair_keeps (u : Nat) {s : State} (hk : Keeps z0 s) : Keeps z0 (testPair s u) :=
  Keeps.quiet (testPair_writes (wm := 33554432) (Writes.refl _ _) (by decide)) (by decide) hk

theorem pairStops_keeps (u : Nat) {s : State} (hk : Keeps z0 s) : Keeps z0 (pairStops s u) :=
  Keeps.quiet (pairStops_writes (wm := 1107296288) (Writes.refl _ _) (by decide)) (by decide) hk

theorem execPairDiverged_keeps (pair : Bool) {s : State} (hk : Keeps z0 s) : KeepsOut z0 (execPairDiverged pair s) :=
  KeepsOut.quiet (execPairDiverged_writes (wm := 1107296288) (Writes.refl _ _) (by decide)) (by decide) hk

theorem execPairSelftestDone_keeps (pair : Bool) (passed : Bool) {s : State} (hk : Keeps z0 s) : KeepsOut z0 (execPairSelftestDone pair passed s) :=
  KeepsOut.quiet (execPairSelftestDone_writes (wm := 33554432) (Writes.refl _ _) (by decide)) (by decide) hk

theorem recoverContext_keeps (u : Nat) {s : State} (hk : Keeps z0 s) :
    Keeps z0 (recoverContext s u) := by
  unfold recoverContext
  try dsimp only
  repeat' (first
    | with_reducible assumption
    | with_reducible apply resetCore_keeps
    | with_reducible apply redispatch_keeps
    | with_reducible apply finish_keeps
    | with_reducible apply dropImage_keeps
    | with_reducible apply wipeSlot_keeps
    | with_reducible apply State.withJob_keeps
    | with_reducible apply Keeps.ite
    | (with_reducible apply Keeps.mk; with_reducible apply KeepsParts.of; first | split))

theorem recoverIntake_keeps (u : Nat) {s : State} (hk : Keeps z0 s) : Keeps z0 (recoverIntake s u) :=
  Keeps.quiet (recoverIntake_writes (wm := 1111496320) (Writes.refl _ _) (by decide)) (by decide) hk

theorem execFrozenUnitRecovery_keeps (u : Nat) {s : State} (hk : Keeps z0 s) :
    KeepsOut z0 (execFrozenUnitRecovery u s) := by
  unfold execFrozenUnitRecovery
  try dsimp only
  repeat' (first
    | with_reducible assumption
    | with_reducible apply recoverIntake_keeps
    | with_reducible apply recoverContext_keeps
    | with_reducible apply pairStops_keeps
    | with_reducible apply loadProgram_keeps
    | with_reducible apply resetCore_keeps
    | with_reducible apply KeepsOut.next
    | with_reducible apply KeepsOut.ite)

theorem execRunAhead_keeps (pair : Bool) {s : State} (hk : Keeps z0 s) : KeepsOut z0 (execRunAhead pair s) :=
  KeepsOut.quiet (execRunAhead_writes (wm := 1073741824) (Writes.refl _ _) (by decide)) (by decide) hk

/-! ### Power -/

theorem holdUp_keeps {s : State} (hk : Keeps z0 s) :
    Keeps z0 (holdUp s) := by
  unfold holdUp
  try dsimp only
  repeat' (first
    | intro _
    | with_reducible assumption
    | with_reducible apply programmed_keeps
    | with_reducible apply State.withVault_keeps
    | with_reducible apply Keeps.foldl
    | (with_reducible apply Keeps.mk; with_reducible apply KeepsParts.of; first | split))

theorem tearErases_keeps {s : State} (hk : Keeps z0 s) :
    Keeps z0 (tearErases s) := by
  unfold tearErases
  try dsimp only
  repeat' (first
    | intro _
    | with_reducible assumption
    | with_reducible apply withSector_keeps
    | with_reducible apply flashDone_keeps
    | with_reducible apply State.withVault_keeps
    | with_reducible apply State.withCode_keeps
    | with_reducible apply Keeps.foldl
    | (with_reducible apply Keeps.mk; with_reducible apply KeepsParts.of; first | split))

theorem loseStaged_keeps  {s : State} (hk : Keeps z0 s) : Keeps z0 (loseStaged s) :=
  Keeps.quiet (loseStaged_writes (wm := 1073807360) (Writes.refl _ _) (by decide)) (by decide) hk

theorem cutMain_keeps {s : State} (hk : Keeps z0 s) :
    Keeps z0 (cutMain s) := by
  unfold cutMain
  try dsimp only
  repeat' (first
    | intro _
    | with_reducible assumption
    | with_reducible apply loseStaged_keeps
    | with_reducible apply tearErases_keeps
    | with_reducible apply holdUp_keeps
    | with_reducible apply serveCode_keeps
    | with_reducible apply tokGone_keeps
    | with_reducible apply losePower_keeps
    | with_reducible apply abortTrans_keeps
    | with_reducible apply State.withExp_keeps
    | with_reducible apply State.withNoise_keeps
    | with_reducible apply saveDtb_keeps
    | with_reducible apply State.withMeter_keeps
    | with_reducible apply State.withLink_keeps
    | with_reducible apply State.withMode_keeps
    | with_reducible apply State.withClock_keeps
    | with_reducible apply Keeps.foldl
    | (with_reducible apply Keeps.mk; with_reducible apply KeepsParts.of; first | with_reducible apply serveVaultReads_keeps))

theorem newUid_keeps  {s : State} (hk : Keeps z0 s) : Keeps z0 (newUid s) :=
  Keeps.quiet (newUid_writes (wm := 136314882) (Writes.refl _ _) (by decide)) (by decide) hk

theorem toDormant_keeps  {s : State} (hk : Keeps z0 s) : Keeps z0 (toDormant s) :=
  Keeps.quiet (toDormant_writes (wm := 1210614002) (Writes.refl _ _) (by decide)) (by decide) hk

theorem cutProgram_keeps (o : BankOp) {s : State} (hk : Keeps z0 s) :
    Keeps z0 (cutProgram s o) := by
  unfold cutProgram
  try dsimp only
  repeat' (first
    | intro _
    | with_reducible assumption
    | with_reducible apply withSector_keeps
    | with_reducible apply State.drawNat_keeps
    | with_reducible apply Keeps.foldl
    | (with_reducible apply Keeps.mk; with_reducible refine KeepsParts.code ?_ (Mem.write_wf _ _))
    | with_reducible apply KeepsSnd.snd)

theorem cellGone_keeps  {s : State} (hk : Keeps z0 s) : Keeps z0 (cellGone s) :=
  Keeps.quiet (cellGone_writes (wm := 262152) (Writes.refl _ _) (by decide)) (by decide) hk

theorem toSentinel_keeps {s : State} (hk : Keeps z0 s) :
    Keeps z0 (toSentinel s) := by
  unfold toSentinel
  try dsimp only
  repeat' (first
    | intro _
    | with_reducible assumption
    | with_reducible apply cellGone_keeps
    | with_reducible apply cutProgram_keeps
    | with_reducible apply closeAllGap_keeps
    | with_reducible apply handover_keeps
    | with_reducible apply enterMode_keeps
    | with_reducible apply destroyVolatile_keeps
    | with_reducible apply State.withExp_keeps
    | with_reducible apply State.withNoise_keeps
    | with_reducible apply State.withVault_keeps
    | with_reducible apply State.withCode_keeps
    | with_reducible apply State.withTamper_keeps
    | with_reducible apply State.withPower_keeps
    | with_reducible apply strikeIsl_keeps
    | with_reducible apply State.gset_keeps
    | with_reducible apply Keeps.ite
    | with_reducible apply Keeps.foldl
    | (with_reducible apply Keeps.mk; with_reducible apply KeepsParts.of; first | with_reducible apply Keeps.foldl))

theorem flashCut_keeps (was12 : Bool) {s : State} (hk : Keeps z0 s) :
    Keeps z0 (flashCut s was12) := by
  unfold flashCut
  try dsimp only
  repeat' (first
    | with_reducible assumption
    | with_reducible apply tearErases_keeps
    | with_reducible apply holdUp_keeps
    | with_reducible apply Keeps.ite)

theorem execCut_keeps {s : State} (hk : Keeps z0 s) :
    KeepsOut z0 (execCut s) := by
  unfold execCut
  try dsimp only
  repeat' (first
    | with_reducible assumption
    | with_reducible apply flashCut_keeps
    | with_reducible apply toSentinel_keeps
    | with_reducible apply toDormant_keeps
    | with_reducible apply cutMain_keeps
    | with_reducible apply State.withPower_keeps
    | with_reducible apply KeepsOut.next
    | with_reducible apply KeepsOut.ite
    | with_reducible apply Keeps.ite)

theorem execSuppliesLost_keeps {s : State} (hk : Keeps z0 s) :
    KeepsOut z0 (execSuppliesLost s) := by
  unfold execSuppliesLost
  try dsimp only
  repeat' (first
    | with_reducible assumption
    | with_reducible apply flashCut_keeps
    | with_reducible apply toSentinel_keeps
    | with_reducible apply cutMain_keeps
    | with_reducible apply State.withPower_keeps
    | with_reducible apply KeepsOut.next
    | with_reducible apply KeepsOut.ite
    | with_reducible apply Keeps.ite)

theorem execCellExhausted_keeps  {s : State} (hk : Keeps z0 s) : KeepsOut z0 (execCellExhausted s) :=
  KeepsOut.quiet (execCellExhausted_writes (wm := 262156) (Writes.refl _ _) (by decide)) (by decide) hk

theorem execAlwaysOnSupplyChange_keeps (present : Bool) {s : State} (hk : Keeps z0 s) : KeepsOut z0 (execAlwaysOnSupplyChange present s) :=
  KeepsOut.quiet (execAlwaysOnSupplyChange_writes (wm := 4) (Writes.refl _ _) (by decide)) (by decide) hk

theorem execThermalOverload_keeps (die : Nat) (hot : Bool) {s : State} (hk : Keeps z0 s) : KeepsOut z0 (execThermalOverload die hot s) :=
  KeepsOut.quiet (execThermalOverload_writes (wm := 33554454) (Writes.refl _ _) (by decide)) (by decide) hk

/-! ### Repair -/

theorem mapSpare_keeps (x : Spare) {s : State} (hk : Keeps z0 s) :
    Keeps z0 (mapSpare s x) := by
  unfold mapSpare
  try dsimp only
  repeat' (first
    | with_reducible assumption
    | with_reducible apply loseIsland_keeps
    | with_reducible apply State.withLife_keeps
    | with_reducible apply State.event_keeps
    | with_reducible apply State.bump_keeps
    | with_reducible apply Keeps.ite)

theorem restage_keeps (id : Nat) {s : State} (hk : Keeps z0 s) : Keeps z0 (restage s id) :=
  Keeps.quiet (restage_writes (wm := 5120) (Writes.refl _ _) (by decide)) (by decide) hk

theorem repeatWork_keeps (x0 : SramUse) {s : State} (hk : Keeps z0 s) :
    Keeps z0 (repeatWork s x0) := by
  unfold repeatWork
  try dsimp only
  repeat' (first
    | intro _
    | with_reducible assumption
    | with_reducible apply restage_keeps
    | with_reducible apply recoverIntake_keeps
    | with_reducible apply recoverContext_keeps
    | with_reducible apply pairStops_keeps
    | with_reducible apply loadProgram_keeps
    | with_reducible apply resetCore_keeps
    | with_reducible apply rewind_keeps
    | with_reducible apply redispatch_keeps
    | with_reducible apply State.event_keeps
    | with_reducible apply State.bump_keeps
    | with_reducible apply Keeps.ite
    | with_reducible apply Keeps.foldl
    | (with_reducible apply Keeps.mk; with_reducible apply KeepsParts.of; first | split))

theorem execSramRepaired_keeps (spare : Spare) (corrected : Bool) (use : SramUse) {s : State} (hk : Keeps z0 s) :
    KeepsOut z0 (execSramRepaired spare corrected use s) := by
  unfold execSramRepaired
  try dsimp only
  repeat' (first
    | intro _
    | with_reducible assumption
    | with_reducible apply repeatWork_keeps
    | with_reducible apply mapSpare_keeps
    | with_reducible apply State.bump_keeps
    | with_reducible apply KeepsOut.next
    | with_reducible apply KeepsOut.ite
    | with_reducible apply Keeps.onlyIf)

theorem measure_keeps (ks : List Nat) {s : State} (hk : Keeps z0 s) : Keeps z0 (measure s ks) :=
  Keeps.quiet (measure_writes (wm := 64) (Writes.refl _ _) (by decide)) (by decide) hk

/-! ### Lifecycle -/

theorem clearPes_keeps (target : Nat) {s : State} (hk : Keeps z0 s) :
    Keeps z0 (clearPes s target) := by
  unfold clearPes
  try dsimp only
  repeat' (first
    | intro _
    | with_reducible assumption
    | with_reducible apply loseStaged_keeps
    | with_reducible apply recheckTok_keeps
    | with_reducible apply endCredSessions_keeps
    | with_reducible apply losePower_keeps
    | with_reducible apply condChanged_keeps
    | with_reducible apply State.withMgmt_keeps
    | with_reducible apply Keeps.ite
    | with_reducible apply Keeps.foldl
    | (with_reducible apply Keeps.mk; with_reducible apply KeepsParts.of; with_reducible assumption))

theorem freeAllKeys_keeps  {s : State} (hk : Keeps z0 s) : Keeps z0 (freeAllKeys s) :=
  Keeps.quiet (freeAllKeys_writes (wm := 1048576) (Writes.refl _ _) (by decide)) (by decide) hk

theorem discardVault_keeps  {s : State} (hk : Keeps z0 s) : Keeps z0 (discardVault s) :=
  Keeps.quiet (discardVault_writes (wm := 16809984) (Writes.refl _ _) (by decide)) (by decide) hk

theorem lifeSteps_keeps (c : LifeChange) (first : Bool) {s : State} (hk : Keeps z0 s) :
    Keeps z0 (lifeSteps s c first) := by
  unfold lifeSteps
  try dsimp only
  repeat' (first
    | with_reducible assumption
    | with_reducible apply discardVault_keeps
    | with_reducible apply freeAllKeys_keeps
    | with_reducible apply clearPes_keeps
    | with_reducible apply closeAllGap_keeps
    | with_reducible apply eraseRoot_keeps
    | with_reducible apply enterMode_keeps
    | with_reducible apply State.gset_keeps
    | with_reducible apply Keeps.ite)

theorem beginLife_keeps (t : Nat) (change : Nat) {s : State} (hk : Keeps z0 s) : Keeps z0 (beginLife s t change) :=
  Keeps.quiet (beginLife_writes (wm := 1342177312) (Writes.refl _ _) (by decide)) (by decide) hk

theorem lifeGoOn_keeps {s : State} (hk : Keeps z0 s) :
    Keeps z0 (lifeGoOn s) := by
  unfold lifeGoOn
  try dsimp only
  repeat' (first
    | with_reducible assumption
    | with_reducible apply lifeSteps_keeps
    | with_reducible apply Keeps.ite
    | (with_reducible apply Keeps.mk; with_reducible apply KeepsParts.of; first | split))

theorem execFlashProgramDone_keeps (bank : Nat) (ok : Bool) {s : State} (hk : Keeps z0 s) :
    KeepsOut z0 (execFlashProgramDone bank ok s) := by
  unfold execFlashProgramDone
  try dsimp only
  repeat' (first
    | with_reducible assumption
    | with_reducible apply lifeGoOn_keeps
    | with_reducible apply programDone_keeps
    | with_reducible apply KeepsOut.next)

theorem eraseBlocks_keeps  {s : State} (hk : Keeps z0 s) : Keeps z0 (eraseBlocks s) :=
  Keeps.quiet (eraseBlocks_writes (wm := 16777216) (Writes.refl _ _) (by decide)) (by decide) hk

theorem execLifecycleEraseComplete_keeps {s : State} (hk : Keeps z0 s) :
    KeepsOut z0 (execLifecycleEraseComplete s) := by
  unfold execLifecycleEraseComplete
  try dsimp only
  repeat' (first
    | with_reducible assumption
    | with_reducible apply eraseBlocks_keeps
    | with_reducible apply serveVaultReads_keeps
    | with_reducible apply abortTrans_keeps
    | with_reducible apply enterMode_keeps
    | with_reducible apply refreshTag_keeps
    | with_reducible apply State.withLife_keeps
    | with_reducible apply State.withMode_keeps
    | with_reducible apply State.bump_keeps
    | with_reducible apply State.gset_keeps
    | with_reducible apply KeepsOut.next
    | with_reducible apply KeepsOut.ite
    | with_reducible apply Keeps.ite
    | split)

/-! ### Startup -/

theorem checkSt_keeps  {s : State} (hk : Keeps z0 s) : Keeps z0 (checkSt s) :=
  Keeps.quiet (checkSt_writes (wm := 40) (Writes.refl _ _) (by decide)) (by decide) hk

theorem rootInvalid_keeps (check : Nat) {s : State} (hk : Keeps z0 s) : Keeps z0 (rootInvalid s check) :=
  Keeps.quiet (rootInvalid_writes (wm := 1074004000) (Writes.refl _ _) (by decide)) (by decide) hk

theorem powerUpRec_keeps  {s : State} (hk : Keeps z0 s) : Keeps z0 (powerUpRec s) :=
  Keeps.quiet (powerUpRec_writes (wm := 1073741856) (Writes.refl _ _) (by decide)) (by decide) hk

theorem runImage_keeps (k : Nat) {s : State} (hk : Keeps z0 s) : Keeps z0 (runImage s k) :=
  Keeps.quiet (runImage_writes (wm := 1107296416) (Writes.refl _ _) (by decide)) (by decide) hk

theorem selectImage_keeps  {s : State} (hk : Keeps z0 s) : Keeps z0 (selectImage s) :=
  Keeps.quiet (selectImage_writes (wm := 1107296480) (Writes.refl _ _) (by decide)) (by decide) hk

theorem resolveMarks_keeps  {s : State} (hk : Keeps z0 s) : Keeps z0 (resolveMarks s) :=
  Keeps.quiet (resolveMarks_writes (wm := 25165824) (Writes.refl _ _) (by decide)) (by decide) hk

theorem noteBudget_keeps  {s : State} (hk : Keeps z0 s) : Keeps z0 (noteBudget s) :=
  Keeps.quiet (noteBudget_writes (wm := 134217760) (Writes.refl _ _) (by decide)) (by decide) hk

theorem execSupplyArrival_keeps (rail : Rail) {s : State} (hk : Keeps z0 s) : KeepsOut z0 (execSupplyArrival rail s) :=
  KeepsOut.quiet (execSupplyArrival_writes (wm := 1269596414) (Writes.refl _ _) (by decide)) (by decide) hk

theorem wipeAll_keeps {s : State} (hk : Keeps z0 s) :
    Keeps z0 (wipeAll s) := by
  unfold wipeAll
  try dsimp only
  repeat' (first
    | with_reducible assumption
    | (with_reducible apply Keeps.mk; with_reducible refine KeepsParts.memBar ?_ (Mem.filter_wf _) (fun _ => rfl)))

theorem startCores_keeps  {s : State} (hk : Keeps z0 s) : Keeps z0 (startCores s) :=
  Keeps.quiet (startCores_writes (wm := 33554432) (Writes.refl _ _) (by decide)) (by decide) hk

theorem loadGuards_keeps  {s : State} (hk : Keeps z0 s) : Keeps z0 (loadGuards s) :=
  Keeps.quiet (loadGuards_writes (wm := 1073938432) (Writes.refl _ _) (by decide)) (by decide) hk

theorem startNoise_keeps  {s : State} (hk : Keeps z0 s) : Keeps z0 (startNoise s) :=
  Keeps.quiet (startNoise_writes (wm := 1075838976) (Writes.refl _ _) (by decide)) (by decide) hk

theorem endChangeover_keeps  {s : State} (hk : Keeps z0 s) : Keeps z0 (endChangeover s) :=
  Keeps.quiet (endChangeover_writes (wm := 1107296480) (Writes.refl _ _) (by decide)) (by decide) hk

theorem applyReport_keeps (r : AssayReport) {s : State} (hk : Keeps z0 s) :
    Keeps z0 (applyReport s r) := by
  unfold applyReport
  try dsimp only
  repeat' (first
    | intro _
    | with_reducible assumption
    | with_reducible apply mapSpare_keeps
    | with_reducible apply failLane_keeps
    | with_reducible apply loseIsland_keeps
    | with_reducible apply loseSquad_keeps
    | with_reducible apply State.withVerb_keeps
    | with_reducible apply State.withSquad_keeps
    | with_reducible apply State.gset_keeps
    | with_reducible apply Keeps.ite
    | with_reducible apply Keeps.foldl)

theorem closeCut_keeps  {s : State} (hk : Keeps z0 s) : Keeps z0 (closeCut s) :=
  Keeps.quiet (closeCut_writes (wm := 32930) (Writes.refl _ _) (by decide)) (by decide) hk

theorem makeRoot_keeps  {s : State} (hk : Keeps z0 s) : Keeps z0 (makeRoot s) :=
  Keeps.quiet (makeRoot_writes (wm := 1076101378) (Writes.refl _ _) (by decide)) (by decide) hk

theorem stepTen_keeps  {s : State} (hk : Keeps z0 s) : Keeps z0 (stepTen s) :=
  Keeps.quiet (stepTen_writes (wm := 1344536866) (Writes.refl _ _) (by decide)) (by decide) hk

theorem resumeLife_keeps {s : State} (hk : Keeps z0 s) :
    Keeps z0 (resumeLife s) := by
  unfold resumeLife
  try dsimp only
  repeat' (first
    | with_reducible assumption
    | with_reducible apply lifeSteps_keeps
    | (with_reducible apply Keeps.mk; with_reducible apply KeepsParts.of; first | split))

theorem hoistAll_keeps  {s : State} (hk : Keeps z0 s) : Keeps z0 (hoistAll s) :=
  Keeps.quiet (hoistAll_writes (wm := 48) (Writes.refl _ _) (by decide)) (by decide) hk

theorem assaySteps_keeps (r : AssayReport) (fromDormant : Bool) {s : State} (hk : Keeps z0 s) :
    Keeps z0 (assaySteps s r fromDormant) := by
  unfold assaySteps
  try dsimp only
  repeat' (first
    | with_reducible assumption
    | with_reducible apply hoistAll_keeps
    | with_reducible apply resumeLife_keeps
    | with_reducible apply stepTen_keeps
    | with_reducible apply closeCut_keeps
    | with_reducible apply applyReport_keeps
    | with_reducible apply endChangeover_keeps
    | with_reducible apply startNoise_keeps
    | with_reducible apply loadGuards_keeps
    | with_reducible apply startCores_keeps
    | with_reducible apply wipeAll_keeps
    | with_reducible apply measure_keeps
    | with_reducible apply reopenMailbox_keeps
    | with_reducible apply limit60_keeps
    | with_reducible apply rebuildKeys_keeps
    | with_reducible apply startTimebase_keeps
    | with_reducible apply State.withMode_keeps
    | with_reducible apply State.gset_keeps
    | with_reducible apply Keeps.ite)

theorem execAssay_keeps (report : AssayReport) {s : State} (hk : Keeps z0 s) :
    KeepsOut z0 (execAssay report s) := by
  unfold execAssay
  try dsimp only
  repeat' (first
    | with_reducible assumption
    | with_reducible apply assaySteps_keeps
    | with_reducible apply enterMode_keeps
    | with_reducible apply State.withPower_keeps
    | with_reducible apply KeepsOut.next
    | with_reducible apply KeepsOut.ite)

theorem leaveAssay_keeps (m : Nat) {s : State} (hk : Keeps z0 s) :
    Keeps z0 (leaveAssay s m) := by
  unfold leaveAssay
  try dsimp only
  repeat' (first
    | with_reducible assumption
    | with_reducible apply reopenMailbox_keeps
    | with_reducible apply leanOn_keeps
    | with_reducible apply enterMode_keeps
    | with_reducible apply newSalt_keeps
    | with_reducible apply releaseHeld_keeps
    | with_reducible apply openMinute_keeps
    | with_reducible apply State.withMeter_keeps
    | with_reducible apply State.event_keeps
    | with_reducible apply Keeps.ite)

theorem execAssayDone_keeps {s : State} (hk : Keeps z0 s) :
    KeepsOut z0 (execAssayDone s) := by
  unfold execAssayDone
  try dsimp only
  repeat' (first
    | with_reducible assumption
    | with_reducible apply leaveAssay_keeps
    | with_reducible apply stepTen_keeps
    | with_reducible apply refreshTag_keeps
    | with_reducible apply State.msixAlert_keeps
    | with_reducible apply State.gset_keeps
    | with_reducible apply KeepsOut.next
    | with_reducible apply KeepsOut.ite
    | with_reducible apply Keeps.ite)

end Sys2Proof.Machine
end

