-- ==== Sys2Proof/Laws/Keeps5.lean ====
section
/-! SUPPORT. Keeping of queue and canonical form (see Keeps.lean), operation by operation: Changeover, Commit, Minutes, Link, Bar, Card, Field, TagCmds, GlossView, Gloss, RngFail. -/

set_option linter.unusedTactic false
set_option linter.unreachableTactic false
set_option linter.unusedVariables false

namespace Sys2Proof.Machine

open Sys2Proof

variable {z0 : State}

/-! ### Changeover -/

theorem setProg_keeps (core : Nat) (slot : Nat) {s : State} (hk : Keeps z0 s) : Keeps z0 (setProg s core slot) :=
  Keeps.quiet (setProg_writes (wm := 33554432) (Writes.refl _ _) (by decide)) (by decide) hk

theorem holdCore_keeps (u : Nat) {s : State} (hk : Keeps z0 s) : Keeps z0 (holdCore s u) :=
  Keeps.quiet (holdCore_writes (wm := 33554432) (Writes.refl _ _) (by decide)) (by decide) hk

theorem releaseCore_keeps (u : Nat) {s : State} (hk : Keeps z0 s) : Keeps z0 (releaseCore s u) :=
  Keeps.quiet (releaseCore_writes (wm := 33554432) (Writes.refl _ _) (by decide)) (by decide) hk

theorem drainForReload_keeps (q : Nat) {s : State} (hk : Keeps z0 s) : Keeps z0 (drainForReload s q) :=
  Keeps.quiet (drainForReload_writes (wm := 16384) (Writes.refl _ _) (by decide)) (by decide) hk

theorem startUnit_keeps (n : Nat) (slot : Nat) {s : State} (hk : Keeps z0 s) : Keeps z0 (startUnit s n slot) :=
  Keeps.quiet (startUnit_writes (wm := 1111512704) (Writes.refl _ _) (by decide)) (by decide) hk

theorem unitBack_keeps (n : Nat) (slot : Nat) {s : State} (hk : Keeps z0 s) :
    Keeps z0 (unitBack s n slot) := by
  unfold unitBack
  try dsimp only
  repeat' (first
    | intro _
    | with_reducible assumption
    | with_reducible apply releaseCore_keeps
    | with_reducible apply setProg_keeps
    | with_reducible apply resetCore_keeps
    | with_reducible apply ownershipWipe_keeps
    | with_reducible apply State.withIntake_keeps
    | with_reducible apply State.withSquad_keeps
    | with_reducible apply Keeps.ite
    | with_reducible apply Keeps.foldl)

theorem unitLost_keeps (n : Nat) {s : State} (hk : Keeps z0 s) :
    Keeps z0 (unitLost s n) := by
  unfold unitLost
  try dsimp only
  repeat' (first
    | with_reducible assumption
    | with_reducible apply releaseCore_keeps
    | with_reducible apply loseIsland_keeps
    | with_reducible apply loseSquad_keeps
    | with_reducible apply State.withVerb_keeps
    | with_reducible apply State.withIntake_keeps
    | with_reducible apply Keeps.ite)

theorem takeOver_keeps  {s : State} (hk : Keeps z0 s) : Keeps z0 (takeOver s) :=
  Keeps.quiet (takeOver_writes (wm := 1107296288) (Writes.refl _ _) (by decide)) (by decide) hk

theorem reissue_keeps (slot : Nat) {s : State} (hk : Keeps z0 s) : Keeps z0 (reissue s slot) :=
  Keeps.quiet (reissue_writes (wm := 128) (Writes.refl _ _) (by decide)) (by decide) hk

theorem setChangeover_keeps (c : Changeover) {s : State} (hk : Keeps z0 s) : Keeps z0 (setChangeover s c) :=
  Keeps.quiet (setChangeover_writes (wm := 64) (Writes.refl _ _) (by decide)) (by decide) hk

theorem leaveChangeover_keeps (left : Nat) {s : State} (hk : Keeps z0 s) :
    Keeps z0 (leaveChangeover s left) := by
  unfold leaveChangeover
  try dsimp only
  repeat' (first
    | with_reducible assumption
    | with_reducible apply takeWaiting_keeps
    | with_reducible apply enterMode_keeps
    | with_reducible apply State.withMode_keeps
    | with_reducible apply Keeps.ite)

theorem finishChangeover_keeps (c : Changeover) {s : State} (hk : Keeps z0 s) :
    Keeps z0 (finishChangeover s c) := by
  unfold finishChangeover
  try dsimp only
  repeat' (first
    | with_reducible assumption
    | with_reducible apply leaveChangeover_keeps
    | with_reducible apply setProg_keeps
    | with_reducible apply measure_keeps
    | with_reducible apply State.event_keeps
    | with_reducible apply State.gset_keeps
    | with_reducible apply Keeps.ite)

theorem startRules_keeps (c : Changeover) {s : State} (hk : Keeps z0 s) : Keeps z0 (startRules s c) :=
  Keeps.quiet (startRules_writes (wm := 1078138592) (Writes.refl _ _) (by decide)) (by decide) hk

theorem goOn_keeps (c : Changeover) (n : Nat) {s : State} (hk : Keeps z0 s) :
    Keeps z0 (goOn s c n) := by
  unfold goOn
  try dsimp only
  repeat' (first
    | with_reducible assumption
    | with_reducible apply startRules_keeps
    | with_reducible apply finishChangeover_keeps
    | with_reducible apply setChangeover_keeps
    | with_reducible apply startUnit_keeps
    | with_reducible apply Keeps.ite)

theorem finishRollback_keeps (c : Changeover) {s : State} (hk : Keeps z0 s) :
    Keeps z0 (finishRollback s c) := by
  unfold finishRollback
  try dsimp only
  repeat' (first
    | with_reducible assumption
    | with_reducible apply leaveChangeover_keeps
    | with_reducible apply measure_keeps
    | with_reducible apply State.event_keeps
    | with_reducible apply State.gset_keeps)

theorem startBack_keeps (c : Changeover) (n : Nat) (rest : List Nat) {s : State} (hk : Keeps z0 s) : Keeps z0 (startBack s c n rest) :=
  Keeps.quiet (startBack_writes (wm := 1111512800) (Writes.refl _ _) (by decide)) (by decide) hk

theorem goBack_keeps (c : Changeover) (l : List Nat) {s : State} (hk : Keeps z0 s) : Keeps z0 (goBack s c l) := by
  induction l with
  | nil => exact finishRollback_keeps c hk
  | cons n l ih =>
    unfold goBack
    split
    · exact startBack_keeps c n l hk
    · exact ih

theorem unitMoved_keeps (c : Changeover) {s : State} (hk : Keeps z0 s) :
    Keeps z0 (unitMoved s c) := by
  unfold unitMoved
  try dsimp only
  repeat' (first
    | with_reducible assumption
    | with_reducible apply goOn_keeps
    | with_reducible apply reissue_keeps
    | with_reducible apply takeOver_keeps
    | with_reducible apply unitBack_keeps
    | with_reducible apply State.gset_keeps
    | with_reducible apply Keeps.ite)

theorem unitFailed_keeps (c : Changeover) (passedOld : Bool) {s : State} (hk : Keeps z0 s) :
    Keeps z0 (unitFailed s c passedOld) := by
  unfold unitFailed
  try dsimp only
  repeat' (first
    | with_reducible assumption
    | with_reducible apply goBack_keeps
    | with_reducible apply goOn_keeps
    | with_reducible apply setChangeover_keeps
    | with_reducible apply unitLost_keeps
    | with_reducible apply unitBack_keeps
    | with_reducible apply startUnit_keeps
    | with_reducible apply Keeps.ite)

theorem beginChangeover_keeps (slot : Nat) (change : Nat) (raise : Bool) {s : State} (hk : Keeps z0 s) : Keeps z0 (beginChangeover s slot
    change raise) :=
  Keeps.quiet (beginChangeover_writes (wm := 1246287584) (Writes.refl _ _) (by decide)) (by decide) hk

theorem execChangeoverUnitDone_keeps (passedNew : Bool) (passedOld : Bool) {s : State} (hk : Keeps z0 s) :
    KeepsOut z0 (execChangeoverUnitDone passedNew passedOld s) := by
  unfold execChangeoverUnitDone
  try dsimp only
  repeat' (first
    | with_reducible assumption
    | with_reducible apply unitFailed_keeps
    | with_reducible apply unitMoved_keeps
    | with_reducible apply goBack_keeps
    | with_reducible apply goOn_keeps
    | with_reducible apply unitLost_keeps
    | with_reducible apply unitBack_keeps
    | with_reducible apply drainForReload_keeps
    | with_reducible apply KeepsOut.next
    | with_reducible apply KeepsOut.ite
    | with_reducible apply Keeps.ite
    | split)

theorem guardBad_keeps (g : Nat) (slot : Nat) (kind : Nat) {s : State} (hk : Keeps z0 s) :
    Keeps z0 (guardBad s g slot kind) := by
  unfold guardBad
  try dsimp only
  repeat' (first
    | with_reducible assumption
    | with_reducible apply countEvent_keeps
    | with_reducible apply State.withGuard_keeps
    | with_reducible apply State.event_keeps
    | with_reducible apply Keeps.ite
    | (with_reducible apply Keeps.mk; with_reducible apply KeepsParts.of; first | with_reducible apply State.bump_keeps))

theorem execGuardScrub_keeps (g : Nat) (errors : List ScrubError) {s : State} (hk : Keeps z0 s) :
    KeepsOut z0 (execGuardScrub g errors s) := by
  unfold execGuardScrub
  try dsimp only
  repeat' (first
    | intro _
    | with_reducible assumption
    | with_reducible apply guardBad_keeps
    | with_reducible apply State.event_keeps
    | with_reducible apply KeepsOut.next
    | with_reducible apply KeepsOut.ite
    | with_reducible apply Keeps.ite
    | with_reducible apply Keeps.foldl
    | (with_reducible apply Keeps.mk; with_reducible apply KeepsParts.of; first | split))

theorem freeDrained_keeps  {s : State} (hk : Keeps z0 s) : Keeps z0 (freeDrained s) :=
  Keeps.quiet (freeDrained_writes (wm := 1074331680) (Writes.refl _ _) (by decide)) (by decide) hk

theorem drained_keeps {s : State} (hk : Keeps z0 s) :
    Keeps z0 (drained s) := by
  unfold drained
  try dsimp only
  repeat' (first
    | with_reducible assumption
    | with_reducible apply freeDrained_keeps
    | with_reducible apply goOn_keeps
    | with_reducible apply startRules_keeps
    | with_reducible apply measure_keeps
    | with_reducible apply endDrain_keeps
    | with_reducible apply Keeps.ite
    | (with_reducible apply Keeps.mk; with_reducible apply KeepsParts.of; first | split))

theorem execGuardDrainDone_keeps {s : State} (hk : Keeps z0 s) :
    KeepsOut z0 (execGuardDrainDone s) := by
  unfold execGuardDrainDone
  try dsimp only
  repeat' (first
    | with_reducible assumption
    | with_reducible apply drained_keeps
    | with_reducible apply reloadGuards_keeps
    | with_reducible apply KeepsOut.next
    | with_reducible apply KeepsOut.ite)

/-! ### Commit -/

theorem setCreds_keeps (t : Tab Cred) {s : State} (hk : Keeps z0 s) : Keeps z0 (setCreds s t) :=
  Keeps.quiet (setCreds_writes (wm := 67633186) (Writes.refl _ _) (by decide)) (by decide) hk

theorem applyValue_keeps (r : CsRec) {s : State} (hk : Keeps z0 s) :
    Keeps z0 (applyValue s r) := by
  unfold applyValue
  try dsimp only
  repeat' (first
    | with_reducible assumption
    | with_reducible apply condChanged_keeps
    | with_reducible apply Keeps.ite
    | (with_reducible apply Keeps.mk; with_reducible apply KeepsParts.of; with_reducible assumption))

theorem glossPurge_keeps (p : Nat) {s : State} (hk : Keeps z0 s) :
    Keeps z0 (glossPurge s p) := by
  unfold glossPurge
  try dsimp only
  repeat' (first
    | with_reducible assumption
    | with_reducible apply beginPurge_keeps
    | with_reducible apply Keeps.ite
    | with_reducible apply KeepsSnd.snd)

theorem applyAction_keeps (id : Nat) (r : CsRec) {s : State} (hk : Keeps z0 s) :
    Keeps z0 (applyAction id s r) := by
  unfold applyAction
  try dsimp only
  repeat' (first
    | with_reducible assumption
    | with_reducible apply glossPurge_keeps
    | with_reducible apply beginChangeover_keeps
    | with_reducible apply enterService_keeps
    | with_reducible apply Keeps.ite)

theorem applySet_keeps (x : ChangeSet) {s : State} (hk : Keeps z0 s) :
    Keeps z0 (applySet s x) := by
  unfold applySet
  try dsimp only
  repeat' (first
    | intro _
    | with_reducible assumption
    | with_reducible apply applyAction_keeps
    | with_reducible apply applyValue_keeps
    | with_reducible apply setCreds_keeps
    | with_reducible apply beginLife_keeps
    | with_reducible apply switchGuards_keeps
    | with_reducible apply State.present_keeps
    | with_reducible apply State.bump_keeps
    | with_reducible apply Keeps.ite
    | with_reducible apply Keeps.foldl
    | (with_reducible apply Keeps.mk; with_reducible apply KeepsParts.of; first | split))

theorem execCsCommit_keeps {s : State} (hk : Keeps z0 s) :
    KeepsOut z0 (execCsCommit s) := by
  unfold execCsCommit
  try dsimp only
  repeat' (first
    | with_reducible assumption
    | with_reducible apply applySet_keeps
    | with_reducible apply freeSet_keeps
    | with_reducible apply State.withMgmt_keeps
    | with_reducible apply State.bump_keeps
    | with_reducible apply KeepsOut.next
    | with_reducible apply KeepsOut.ite
    | with_reducible apply Keeps.ite
    | split)

/-! ### Minutes -/

theorem execMinuteSetDurable_keeps  {s : State} (hk : Keeps z0 s) : KeepsOut z0 (execMinuteSetDurable s) :=
  KeepsOut.quiet (execMinuteSetDurable_writes (wm := 32896) (Writes.refl _ _) (by decide)) (by decide) hk

theorem State.withMd_keeps (vf : Nat) (f : MdBlock → MdBlock) {s : State} (hk : Keeps z0 s) : Keeps z0 (State.withMd s vf f) :=
  Keeps.quiet (State.withMd_writes (wm := 32768) (Writes.refl _ _) (by decide)) (by decide) hk

theorem deliveryFailed_keeps (vf : Nat) (code : Nat) {s : State} (hk : Keeps z0 s) : Keeps z0 (deliveryFailed s vf code) :=
  Keeps.quiet (deliveryFailed_writes (wm := 1073774592) (Writes.refl _ _) (by decide)) (by decide) hk

theorem deliverOne_keeps (vf : Nat) (seq : Nat) (ok : Bool) {s : State} (hk : Keeps z0 s) :
    Keeps z0 (deliverOne s vf seq ok) := by
  unfold deliverOne
  try dsimp only
  repeat' (first
    | with_reducible assumption
    | with_reducible apply deliveryFailed_keeps
    | with_reducible apply State.withMd_keeps
    | with_reducible apply State.hostWrite_keeps
    | with_reducible apply State.msix_keeps
    | with_reducible apply Keeps.ite
    | (with_reducible apply Keeps.mk; with_reducible apply KeepsParts.of; first | split))

theorem deliverDue_keeps (vf : Nat) (ok : Bool) {s : State} (hk : Keeps z0 s) :
    Keeps z0 (deliverDue s vf ok) := by
  unfold deliverDue
  try dsimp only
  repeat' (first
    | with_reducible assumption
    | with_reducible apply deliverOne_keeps
    | with_reducible apply State.withMd_keeps
    | with_reducible apply Keeps.ite
    | (with_reducible apply Keeps.mk; with_reducible apply KeepsParts.of; first | split))

theorem execMinuteDelivery_keeps (vf : Nat) (ok : Bool) {s : State} (hk : Keeps z0 s) :
    KeepsOut z0 (execMinuteDelivery vf ok s) := by
  unfold execMinuteDelivery
  try dsimp only
  repeat' (first
    | with_reducible assumption
    | with_reducible apply deliverDue_keeps
    | with_reducible apply KeepsOut.next)

theorem deliverAll_keeps (vf : Nat) {s : State} (hk : Keeps z0 s) :
    Keeps z0 (deliverAll s vf) := by
  unfold deliverAll
  try dsimp only
  repeat' (first
    | intro _
    | with_reducible assumption
    | with_reducible apply deliverDue_keeps
    | with_reducible apply Keeps.foldl)

/-! ### Link -/

theorem State.aer_keeps (fn : Nat) (e : Nat) {s : State} (hk : Keeps z0 s) : Keeps z0 (State.aer s fn e) :=
  Keeps.quiet (State.aer_writes (wm := 256) (Writes.refl _ _) (by decide)) (by decide) hk

theorem execConventionalReset_keeps {s0 : State} (hk : Keeps z0 s0) :
    KeepsOut z0 (execConventionalReset s0) := by
  unfold execConventionalReset
  try dsimp only
  repeat' (first
    | intro _
    | with_reducible assumption
    | with_reducible apply reopenMailbox_keeps
    | with_reducible apply tearDown_keeps
    | with_reducible apply State.withPower_keeps
    | with_reducible apply State.withLink_keeps
    | with_reducible apply State.drawNat_keeps
    | with_reducible apply KeepsOut.next
    | with_reducible apply KeepsOut.ite
    | with_reducible apply Keeps.foldl
    | with_reducible apply KeepsSnd.snd)

theorem execPerstDeasserted_keeps  {s : State} (hk : Keeps z0 s) : KeepsOut z0 (execPerstDeasserted s) :=
  KeepsOut.quiet (execPerstDeasserted_writes (wm := 132) (Writes.refl _ _) (by decide)) (by decide) hk

theorem execLinkRecovery_keeps (width : Nat) (rate : Nat) {s : State} (hk : Keeps z0 s) : KeepsOut z0 (execLinkRecovery width rate s) :=
  KeepsOut.quiet (execLinkRecovery_writes (wm := 1073741984) (Writes.refl _ _) (by decide)) (by decide) hk

theorem execLinkReturnL0_keeps (width : Nat) (rate : Nat) {s : State} (hk : Keeps z0 s) :
    KeepsOut z0 (execLinkReturnL0 width rate s) := by
  unfold execLinkReturnL0
  try dsimp only
  repeat' (first
    | intro _
    | with_reducible assumption
    | with_reducible apply deliverAll_keeps
    | with_reducible apply post_keeps
    | with_reducible apply State.withLink_keeps
    | with_reducible apply State.msix_keeps
    | with_reducible apply KeepsOut.next
    | with_reducible apply KeepsOut.ite
    | with_reducible apply Keeps.foldl)

theorem execD3hotEntry_keeps  {s : State} (hk : Keeps z0 s) : KeepsOut z0 (execD3hotEntry s) :=
  KeepsOut.quiet (execD3hotEntry_writes (wm := 128) (Writes.refl _ _) (by decide)) (by decide) hk

theorem execD3hotExit_keeps  {s : State} (hk : Keeps z0 s) : KeepsOut z0 (execD3hotExit s) :=
  KeepsOut.quiet (execD3hotExit_writes (wm := 128) (Writes.refl _ _) (by decide)) (by decide) hk

theorem execFunctionLevelReset_keeps (vf : Nat) {s : State} (hk : Keeps z0 s) :
    KeepsOut z0 (execFunctionLevelReset vf s) := by
  unfold execFunctionLevelReset
  try dsimp only
  repeat' (first
    | with_reducible assumption
    | with_reducible apply tearDown_keeps
    | with_reducible apply KeepsOut.next
    | with_reducible apply KeepsOut.ite)

theorem execNumvfsWrite_keeps (n : Nat) {s : State} (hk : Keeps z0 s) : KeepsOut z0 (execNumvfsWrite n s) :=
  KeepsOut.quiet (execNumvfsWrite_writes (wm := 128) (Writes.refl _ _) (by decide)) (by decide) hk

theorem enablePart_keeps (p : Nat) {s : State} (hk : Keeps z0 s) : Keeps z0 (enablePart s p) :=
  Keeps.quiet (enablePart_writes (wm := 2130178) (Writes.refl _ _) (by decide)) (by decide) hk

theorem execVfEnableSet_keeps  {s : State} (hk : Keeps z0 s) : KeepsOut z0 (execVfEnableSet s) :=
  KeepsOut.quiet (execVfEnableSet_writes (wm := 2130306) (Writes.refl _ _) (by decide)) (by decide) hk

theorem execVfEnableClear_keeps {s : State} (hk : Keeps z0 s) :
    KeepsOut z0 (execVfEnableClear s) := by
  unfold execVfEnableClear
  try dsimp only
  repeat' (first
    | intro _
    | with_reducible assumption
    | with_reducible apply tearDown_keeps
    | with_reducible apply State.withPart_keeps
    | with_reducible apply State.withLink_keeps
    | with_reducible apply KeepsOut.next
    | with_reducible apply KeepsOut.ite
    | with_reducible apply Keeps.foldl)

theorem execBarAccessDropped_keeps (fn : Nat) (off : Nat) (size : Nat) (write : Bool) {s : State} (hk : Keeps z0 s) : KeepsOut z0
    (execBarAccessDropped fn off size write s) :=
  KeepsOut.quiet (execBarAccessDropped_writes (wm := 32) (Writes.refl _ _) (by decide)) (by decide) hk

theorem execPoisonedWrite_keeps (fn : Nat) (_bar : Nat) (_off : Nat) {s : State} (hk : Keeps z0 s) : KeepsOut z0 (execPoisonedWrite fn _bar _off s) :=
  KeepsOut.quiet (execPoisonedWrite_writes (wm := 256) (Writes.refl _ _) (by decide)) (by decide) hk

theorem execProxyDoorbell_keeps (vf : Nat) (ring : Nat) (cq : Bool) (value : BitVec 32) {s : State} (hk : Keeps z0 s) : KeepsOut z0
    (execProxyDoorbell vf ring cq value s) :=
  KeepsOut.quiet (execProxyDoorbell_writes (wm := 1073742336) (Writes.refl _ _) (by decide)) (by decide) hk

theorem State.withIde_keeps (n : Nat) (f : IdeStream → IdeStream) {s : State} (hk : Keeps z0 s) : Keeps z0 (State.withIde s n f) :=
  Keeps.quiet (State.withIde_writes (wm := 128) (Writes.refl _ _) (by decide)) (by decide) hk

theorem execKSetGo_keeps (stream : Nat) (set : Nat) {s : State} (hk : Keeps z0 s) : KeepsOut z0 (execKSetGo stream set s) :=
  KeepsOut.quiet (execKSetGo_writes (wm := 128) (Writes.refl _ _) (by decide)) (by decide) hk

theorem tdiError_keeps (vf : Nat) {s : State} (hk : Keeps z0 s) :
    Keeps z0 (tdiError s vf) := by
  unfold tdiError
  try dsimp only
  repeat' (first
    | with_reducible assumption
    | with_reducible apply tearDown_keeps
    | with_reducible apply State.withPart_keeps)

theorem execIdeKm_keeps (stream : Nat) (set : Nat) (lo : Nat) (hi : Nat) (keyOut : Bytes) (keyIn : Bytes) {s : State} (hk : Keeps z0 s) :
    KeepsOut z0 (execIdeKm stream set lo hi keyOut keyIn s) := by
  unfold execIdeKm
  try dsimp only
  repeat' (first
    | intro _
    | with_reducible assumption
    | with_reducible apply tdiError_keeps
    | with_reducible apply State.withIde_keeps
    | with_reducible apply KeepsOut.next
    | with_reducible apply KeepsOut.ite
    | with_reducible apply Keeps.foldl)

theorem execIdeStreamInsecure_keeps (stream : Nat) {s : State} (hk : Keeps z0 s) :
    KeepsOut z0 (execIdeStreamInsecure stream s) := by
  unfold execIdeStreamInsecure
  try dsimp only
  repeat' (first
    | intro _
    | with_reducible assumption
    | with_reducible apply tdiError_keeps
    | with_reducible apply State.withIde_keeps
    | with_reducible apply KeepsOut.next
    | with_reducible apply KeepsOut.ite
    | with_reducible apply Keeps.foldl)

theorem execTlpIntegrityFail_keeps (_stream : Nat) (fn : Nat) {s : State} (hk : Keeps z0 s) : KeepsOut z0 (execTlpIntegrityFail _stream fn s) :=
  KeepsOut.quiet (execTlpIntegrityFail_writes (wm := 256) (Writes.refl _ _) (by decide)) (by decide) hk

theorem execLockInterface_keeps (vf : Nat) {s : State} (hk : Keeps z0 s) : KeepsOut z0 (execLockInterface vf s) :=
  KeepsOut.quiet (execLockInterface_writes (wm := 256) (Writes.refl _ _) (by decide)) (by decide) hk

theorem execStopInterface_keeps (vf : Nat) {s : State} (hk : Keeps z0 s) :
    KeepsOut z0 (execStopInterface vf s) := by
  unfold execStopInterface
  try dsimp only
  repeat' (first
    | with_reducible assumption
    | with_reducible apply tearDown_keeps
    | with_reducible apply State.withPart_keeps
    | with_reducible apply KeepsOut.next
    | with_reducible apply KeepsOut.ite)

theorem execTdiFrozenChange_keeps (vf : Nat) {s : State} (hk : Keeps z0 s) :
    KeepsOut z0 (execTdiFrozenChange vf s) := by
  unfold execTdiFrozenChange
  try dsimp only
  repeat' (first
    | with_reducible assumption
    | with_reducible apply tdiError_keeps
    | with_reducible apply KeepsOut.next
    | with_reducible apply KeepsOut.ite)

theorem doeReply_keeps (b : Bytes) {s : State} (hk : Keeps z0 s) : Keeps z0 (doeReply s b) :=
  Keeps.quiet (doeReply_writes (wm := 128) (Writes.refl _ _) (by decide)) (by decide) hk

theorem execDoeObject_keeps (kind : DoeKind) (len : Nat) {s : State} (hk : Keeps z0 s) : KeepsOut z0 (execDoeObject kind len s) :=
  KeepsOut.quiet (execDoeObject_writes (wm := 128) (Writes.refl _ _) (by decide)) (by decide) hk

theorem spdmSign_keeps (body : Bytes) {s : State} (hk : Keeps z0 s) : Keeps z0 (spdmSign s body) :=
  Keeps.quiet (spdmSign_writes (wm := 162) (Writes.refl _ _) (by decide)) (by decide) hk

theorem execSpdmMessage_keeps (req : SpdmReq) {s : State} (hk : Keeps z0 s) : KeepsOut z0 (execSpdmMessage req s) :=
  KeepsOut.quiet (execSpdmMessage_writes (wm := 418) (Writes.refl _ _) (by decide)) (by decide) hk

theorem adminWait_keeps (id : Nat) {s : State} (hk : Keeps z0 s) : Keeps z0 (adminWait s id) :=
  Keeps.quiet (adminWait_writes (wm := 4200064) (Writes.refl _ _) (by decide)) (by decide) hk

theorem putWindow_keeps (p : Nat) (slot : Nat) (w : Window) {s : State} (hk : Keeps z0 s) : Keeps z0 (putWindow s p slot w) :=
  Keeps.quiet (putWindow_writes (wm := 256) (Writes.refl _ _) (by decide)) (by decide) hk

theorem execWindowSet_keeps (job : Nat) (block : BitVec 256) {s : State} (hk : Keeps z0 s) :
    KeepsOut z0 (execWindowSet job block s) := by
  unfold execWindowSet
  try dsimp only
  repeat' (first
    | with_reducible assumption
    | with_reducible apply putWindow_keeps
    | with_reducible apply adminWait_keeps
    | with_reducible apply squashWhere_keeps
    | with_reducible apply finish_keeps
    | with_reducible apply State.withPart_keeps
    | with_reducible apply KeepsOut.next
    | with_reducible apply KeepsOut.ite)

theorem execWindowSetDone_keeps (job : Nat) {s : State} (hk : Keeps z0 s) :
    KeepsOut z0 (execWindowSetDone job s) := by
  unfold execWindowSetDone
  try dsimp only
  repeat' (first
    | with_reducible assumption
    | with_reducible apply finish_keeps
    | with_reducible apply KeepsOut.next
    | with_reducible apply KeepsOut.ite)

theorem execWindowGet_keeps (job : Nat) {s : State} (hk : Keeps z0 s) :
    KeepsOut z0 (execWindowGet job s) := by
  unfold execWindowGet
  try dsimp only
  repeat' (first
    | with_reducible assumption
    | with_reducible apply finish_keeps
    | with_reducible apply KeepsOut.next
    | with_reducible apply KeepsOut.ite)

theorem execPartitionInfo_keeps (job : Nat) {s : State} (hk : Keeps z0 s) :
    KeepsOut z0 (execPartitionInfo job s) := by
  unfold execPartitionInfo
  try dsimp only
  repeat' (first
    | with_reducible assumption
    | with_reducible apply finish_keeps
    | with_reducible apply KeepsOut.next
    | with_reducible apply KeepsOut.ite)

theorem execTimeGet_keeps (job : Nat) {s : State} (hk : Keeps z0 s) :
    KeepsOut z0 (execTimeGet job s) := by
  unfold execTimeGet
  try dsimp only
  repeat' (first
    | with_reducible assumption
    | with_reducible apply finish_keeps
    | with_reducible apply KeepsOut.next
    | with_reducible apply KeepsOut.ite)

theorem execFence_keeps (job : Nat) {s : State} (hk : Keeps z0 s) : KeepsOut z0 (execFence job s) :=
  KeepsOut.quiet (execFence_writes (wm := 4200064) (Writes.refl _ _) (by decide)) (by decide) hk

theorem execFenceDone_keeps (job : Nat) {s : State} (hk : Keeps z0 s) :
    KeepsOut z0 (execFenceDone job s) := by
  unfold execFenceDone
  try dsimp only
  repeat' (first
    | with_reducible assumption
    | with_reducible apply finish_keeps
    | with_reducible apply KeepsOut.next
    | with_reducible apply KeepsOut.ite)

theorem quiescePart_keeps (p : Nat) {s : State} (hk : Keeps z0 s) : Keeps z0 (quiescePart s p) :=
  Keeps.quiet (quiescePart_writes (wm := 1077942144) (Writes.refl _ _) (by decide)) (by decide) hk

theorem execQuiesce_keeps (job : Nat) (word : BitVec 64) {s : State} (hk : Keeps z0 s) :
    KeepsOut z0 (execQuiesce job word s) := by
  unfold execQuiesce
  try dsimp only
  repeat' (first
    | with_reducible assumption
    | with_reducible apply quiescePart_keeps
    | with_reducible apply adminWait_keeps
    | with_reducible apply finish_keeps
    | with_reducible apply State.withJob_keeps
    | with_reducible apply KeepsOut.next
    | with_reducible apply KeepsOut.ite)

theorem execQuiesceDone_keeps (job : Nat) {s : State} (hk : Keeps z0 s) :
    KeepsOut z0 (execQuiesceDone job s) := by
  unfold execQuiesceDone
  try dsimp only
  repeat' (first
    | with_reducible assumption
    | with_reducible apply finish_keeps
    | with_reducible apply KeepsOut.next
    | with_reducible apply KeepsOut.ite)

theorem execResume_keeps (job : Nat) (word : BitVec 64) {s : State} (hk : Keeps z0 s) :
    KeepsOut z0 (execResume job word s) := by
  unfold execResume
  try dsimp only
  repeat' (first
    | intro _
    | with_reducible assumption
    | with_reducible apply releaseRing_keeps
    | with_reducible apply finish_keeps
    | with_reducible apply State.withPart_keeps
    | with_reducible apply KeepsOut.next
    | with_reducible apply KeepsOut.ite
    | with_reducible apply Keeps.foldl)

theorem execTimeSet_keeps (job : Nat) (ns : BitVec 64) (word : BitVec 64) {s : State} (hk : Keeps z0 s) :
    KeepsOut z0 (execTimeSet job ns word s) := by
  unfold execTimeSet
  try dsimp only
  repeat' (first
    | with_reducible assumption
    | with_reducible apply adminWait_keeps
    | with_reducible apply finish_keeps
    | with_reducible apply setDtb_keeps
    | with_reducible apply closeMinute_keeps
    | with_reducible apply openMinute_keeps
    | with_reducible apply State.withClock_keeps
    | with_reducible apply State.bump_keeps
    | with_reducible apply KeepsOut.next
    | with_reducible apply KeepsOut.ite)

theorem execTimeSetDone_keeps (job : Nat) {s : State} (hk : Keeps z0 s) :
    KeepsOut z0 (execTimeSetDone job s) := by
  unfold execTimeSetDone
  try dsimp only
  repeat' (first
    | with_reducible assumption
    | with_reducible apply finish_keeps
    | with_reducible apply State.withClock_keeps
    | with_reducible apply KeepsOut.next
    | with_reducible apply KeepsOut.ite)

/-! ### Bar -/

theorem after_keeps {o : Out} {s : State} (ho : KeepsOut z0 o) : Keeps z0 (after o s) := by
  obtain ⟨t, rfl, h⟩ := ho
  exact h

theorem ringSet_keeps (p : Nat) (r : Nat) (f : Ring → Ring) {s : State} (hk : Keeps z0 s) : Keeps z0 (ringSet s p r f) :=
  Keeps.quiet (ringSet_writes (wm := 512) (Writes.refl _ _) (by decide)) (by decide) hk

theorem ringCtl_keeps (p : Nat) (r : Nat) (v : Nat) {s : State} (hk : Keeps z0 s) :
    Keeps z0 (ringCtl s p r v) := by
  unfold ringCtl
  try dsimp only
  repeat' (first
    | with_reducible assumption
    | with_reducible apply after_keeps
    | with_reducible apply execRingAbort_keeps
    | with_reducible apply execRingDisable_keeps
    | with_reducible apply execRingEnable_keeps
    | with_reducible apply Keeps.ite)

theorem ringCtlWrite_keeps (p : Nat) (r : Nat) (w : Nat) (v : Nat) {s : State} (hk : Keeps z0 s) :
    Keeps z0 (ringCtlWrite s p r w v) := by
  unfold ringCtlWrite
  try dsimp only
  repeat' (first
    | with_reducible assumption
    | with_reducible apply ringCtl_keeps
    | with_reducible apply ringFault_keeps
    | with_reducible apply Keeps.ite)

theorem ringBlock_keeps (p : Nat) (r : Nat) (w : Nat) (size : Nat) (v : Nat) {s : State} (hk : Keeps z0 s) :
    Keeps z0 (ringBlock s p r w size v) := by
  unfold ringBlock
  try dsimp only
  repeat' (first
    | with_reducible assumption
    | with_reducible apply ringCtlWrite_keeps
    | with_reducible apply ringSet_keeps
    | with_reducible apply State.withRing_keeps
    | with_reducible apply Keeps.ite)

theorem ringPages_keeps (p : Nat) (off : Nat) (size : Nat) (v : Nat) {s : State} (hk : Keeps z0 s) :
    KeepsOpt z0 (ringPages s p off size v) := by
  unfold ringPages
  try dsimp only
  repeat' (first
    | with_reducible assumption
    | with_reducible apply ringBlock_keeps
    | with_reducible apply ringCq_keeps
    | with_reducible apply ringSq_keeps
    | with_reducible exact KeepsOpt.none
    | with_reducible apply KeepsOpt.some
    | with_reducible apply Keeps.ite
    | split)

theorem msixTable_keeps (p : Nat) (off : Nat) (size : Nat) (v : Nat) {s : State} (hk : Keeps z0 s) :
    KeepsOpt z0 (msixTable s p off size v) := by
  unfold msixTable
  try dsimp only
  repeat' (first
    | with_reducible assumption
    | with_reducible exact KeepsOpt.none
    | with_reducible apply KeepsOpt.some
    | (with_reducible apply Keeps.mk; with_reducible refine KeepsParts.bar ?_ (Mem.write_wf _ _))
    | split)

theorem mdBlock_keeps (vf : Nat) (off : Nat) (size : Nat) (v : Nat) {s : State} (hk : Keeps z0 s) : Keeps z0 (mdBlock s vf off size v) :=
  Keeps.quiet (mdBlock_writes (wm := 32768) (Writes.refl _ _) (by decide)) (by decide) hk

theorem mailbox_keeps (w : Nat) (size : Nat) (v : Nat) {s : State} (hk : Keeps z0 s) : Keeps z0 (mailbox s w size v) :=
  Keeps.quiet (mailbox_writes (wm := 524416) (Writes.refl _ _) (by decide)) (by decide) hk

theorem pfBar0_keeps (off : Nat) (size : Nat) (v : Nat) {s : State} (hk : Keeps z0 s) :
    Keeps z0 (pfBar0 s off size v) := by
  unfold pfBar0
  try dsimp only
  repeat' (first
    | with_reducible assumption
    | with_reducible apply mailbox_keeps
    | with_reducible apply msixTable_keeps
    | with_reducible apply ringPages_keeps
    | with_reducible apply Keeps.ite
    | (with_reducible apply Keeps.mk; with_reducible apply KeepsParts.of; first | split)
    | (with_reducible apply KeepsOpt.of_eq; with_reducible assumption))

theorem vfBar0_keeps (vf : Nat) (off : Nat) (size : Nat) (v : Nat) {s : State} (hk : Keeps z0 s) :
    Keeps z0 (vfBar0 s vf off size v) := by
  unfold vfBar0
  try dsimp only
  repeat' (first
    | with_reducible assumption
    | with_reducible apply mdBlock_keeps
    | with_reducible apply msixTable_keeps
    | with_reducible apply ringPages_keeps
    | with_reducible apply Keeps.ite
    | (with_reducible apply Keeps.mk; with_reducible apply KeepsParts.of; first | split)
    | (with_reducible apply KeepsOpt.of_eq; with_reducible assumption))

theorem pfBar2_keeps (off : Nat) (size : Nat) (v : Nat) {s : State} (hk : Keeps z0 s) : Keeps z0 (pfBar2 s off size v) :=
  Keeps.quiet (pfBar2_writes (wm := 1073742336) (Writes.refl _ _) (by decide)) (by decide) hk

theorem barWrite_keeps (fn : Nat) (bar : Nat) (off : Nat) (size : Nat) (v : Nat) {s : State} (hk : Keeps z0 s) :
    Keeps z0 (barWrite s fn bar off size v) := by
  unfold barWrite
  try dsimp only
  repeat' (first
    | with_reducible assumption
    | with_reducible apply pfBar2_keeps
    | with_reducible apply vfBar0_keeps
    | with_reducible apply pfBar0_keeps
    | with_reducible apply after_keeps
    | with_reducible apply execBarAccessDropped_keeps
    | with_reducible apply Keeps.ite)

theorem spaceRegWrite_keeps (mid : Nat) (g : Nat) (off : Nat) (size : Nat) (v : Nat) {s : State} (hk : Keeps z0 s) :
    Keeps z0 (spaceRegWrite s mid g off size v) := by
  unfold spaceRegWrite
  try dsimp only
  repeat' (first
    | with_reducible assumption
    | with_reducible apply regBytes_keeps
    | with_reducible apply guardRefused_keeps
    | with_reducible apply Keeps.ite)

theorem configWrite_keeps (off : Nat) (v : Nat) {s : State} (hk : Keeps z0 s) : Keeps z0 (configWrite s off v) :=
  Keeps.quiet (configWrite_writes (wm := 136) (Writes.refl _ _) (by decide)) (by decide) hk

theorem execRegisterWrite_keeps (space : RegSpace) (off : Nat) (size : Nat) (value : BitVec 64) {s : State} (hk : Keeps z0 s) :
    KeepsOut z0 (execRegisterWrite space off size value s) := by
  unfold execRegisterWrite
  try dsimp only
  repeat' (first
    | with_reducible assumption
    | with_reducible apply configWrite_keeps
    | with_reducible apply spaceRegWrite_keeps
    | with_reducible apply barWrite_keeps
    | with_reducible apply KeepsOut.next
    | with_reducible apply Keeps.ite
    | (with_reducible apply Keeps.mk; with_reducible apply KeepsParts.of; first | split))

/-! ### Card -/

theorem activate_keeps (classA : Bool) (noPps : Bool) {s : State} (hk : Keeps z0 s) : Keeps z0 (activate s classA noPps) :=
  Keeps.quiet (activate_writes (wm := 67108864) (Writes.refl _ _) (by decide)) (by decide) hk

theorem unsupported_keeps  {s : State} (hk : Keeps z0 s) : Keeps z0 (unsupported s) :=
  Keeps.quiet (unsupported_writes (wm := 1140850720) (Writes.refl _ _) (by decide)) (by decide) hk

theorem runAt_keeps (fidi : Nat) {s : State} (hk : Keeps z0 s) : Keeps z0 (runAt s fidi) :=
  Keeps.quiet (runAt_writes (wm := 67108864) (Writes.refl _ _) (by decide)) (by decide) hk

theorem takeAtr_keeps (classB : Bool) (t1 : Bool) (negotiable : Bool) (fidi : Nat) (clockStop : Nat) (ifsc : Nat) (bwi : Nat) (cwi : Nat)
    (crc : Bool) {s : State} (hk : Keeps z0 s) : Keeps z0 (takeAtr s classB t1 negotiable fidi clockStop ifsc bwi cwi crc) :=
  Keeps.quiet (takeAtr_writes (wm := 1140850720) (Writes.refl _ _) (by decide)) (by decide) hk

theorem takeStatus_keeps (sw : Nat) (data : Bytes) {s : State} (hk : Keeps z0 s) : Keeps z0 (takeStatus s sw data) :=
  Keeps.quiet (takeStatus_writes (wm := 1140850720) (Writes.refl _ _) (by decide)) (by decide) hk

theorem execCardInserted_keeps  {s : State} (hk : Keeps z0 s) : KeepsOut z0 (execCardInserted s) :=
  KeepsOut.quiet (execCardInserted_writes (wm := 67108864) (Writes.refl _ _) (by decide)) (by decide) hk

theorem execCardResponse_keeps (reply : CardReply) {s : State} (hk : Keeps z0 s) : KeepsOut z0 (execCardResponse reply s) :=
  KeepsOut.quiet (execCardResponse_writes (wm := 1141440544) (Writes.refl _ _) (by decide)) (by decide) hk

theorem execCardWtx_keeps (secs : Nat) {s : State} (hk : Keeps z0 s) : KeepsOut z0 (execCardWtx secs s) :=
  KeepsOut.quiet (execCardWtx_writes (wm := 1140850720) (Writes.refl _ _) (by decide)) (by decide) hk

theorem execClockStop_keeps  {s : State} (hk : Keeps z0 s) : KeepsOut z0 (execClockStop s) :=
  KeepsOut.quiet (execClockStop_writes (wm := 67108864) (Writes.refl _ _) (by decide)) (by decide) hk

theorem execCardRemoved_keeps  {s : State} (hk : Keeps z0 s) : KeepsOut z0 (execCardRemoved s) :=
  KeepsOut.quiet (execCardRemoved_writes (wm := 1140850720) (Writes.refl _ _) (by decide)) (by decide) hk

theorem execCardOvercurrent_keeps  {s : State} (hk : Keeps z0 s) : KeepsOut z0 (execCardOvercurrent s) :=
  KeepsOut.quiet (execCardOvercurrent_writes (wm := 1140850720) (Writes.refl _ _) (by decide)) (by decide) hk

theorem execBlockWaitingTimeExpiry_keeps  {s : State} (hk : Keeps z0 s) : KeepsOut z0 (execBlockWaitingTimeExpiry s) :=
  KeepsOut.quiet (execBlockWaitingTimeExpiry_writes (wm := 1140850720) (Writes.refl _ _) (by decide)) (by decide) hk

theorem execCardRequest_keeps (sess : SessId) (req : BitVec 16) (value : Bytes) {s : State} (hk : Keeps z0 s) : KeepsOut z0
    (execCardRequest sess req value s) :=
  KeepsOut.quiet (execCardRequest_writes (wm := 1141375104) (Writes.refl _ _) (by decide)) (by decide) hk

theorem execCardMidstepClear_keeps (sess : SessId) (req : BitVec 16) (value : Bytes) {s : State} (hk : Keeps z0 s) : KeepsOut z0
    (execCardMidstepClear sess req value s) :=
  KeepsOut.quiet (execCardMidstepClear_writes (wm := 1141375136) (Writes.refl _ _) (by decide)) (by decide) hk

/-! ### Field -/

theorem execPing_keeps (amplitude : Nat) {s : State} (hk : Keeps z0 s) : KeepsOut z0 (execPing amplitude s) :=
  KeepsOut.quiet (execPing_writes (wm := 67108864) (Writes.refl _ _) (by decide)) (by decide) hk

theorem haltBadge_keeps  {s : State} (hk : Keeps z0 s) : Keeps z0 (haltBadge s) :=
  Keeps.quiet (haltBadge_writes (wm := 67108864) (Writes.refl _ _) (by decide)) (by decide) hk

theorem badgeStatus_keeps (sw : Nat) (data : Bytes) {s : State} (hk : Keeps z0 s) : Keeps z0 (badgeStatus s sw data) :=
  Keeps.quiet (badgeStatus_writes (wm := 67108896) (Writes.refl _ _) (by decide)) (by decide) hk

theorem execBadgeResponse_keeps (reply : BadgeReply) {s : State} (hk : Keeps z0 s) : KeepsOut z0 (execBadgeResponse reply s) :=
  KeepsOut.quiet (execBadgeResponse_writes (wm := 1141440544) (Writes.refl _ _) (by decide)) (by decide) hk

theorem execFrameWaitingTimeExpiry_keeps  {s : State} (hk : Keeps z0 s) : KeepsOut z0 (execFrameWaitingTimeExpiry s) :=
  KeepsOut.quiet (execFrameWaitingTimeExpiry_writes (wm := 1140850720) (Writes.refl _ _) (by decide)) (by decide) hk

theorem execBadgePresenceCheck_keeps (answered : Bool) {s : State} (hk : Keeps z0 s) : KeepsOut z0 (execBadgePresenceCheck answered s) :=
  KeepsOut.quiet (execBadgePresenceCheck_writes (wm := 1140850720) (Writes.refl _ _) (by decide)) (by decide) hk

theorem execExternalField_keeps  {s : State} (hk : Keeps z0 s) : KeepsOut z0 (execExternalField s) :=
  KeepsOut.quiet (execExternalField_writes (wm := 67108864) (Writes.refl _ _) (by decide)) (by decide) hk

theorem execFieldRequest_keeps (sess : SessId) (req : BitVec 16) (value : Bytes) {s : State} (hk : Keeps z0 s) : KeepsOut z0
    (execFieldRequest sess req value s) :=
  KeepsOut.quiet (execFieldRequest_writes (wm := 1141375104) (Writes.refl _ _) (by decide)) (by decide) hk

/-! ### TagCmds -/

theorem execTagTransactionStart_keeps  {s : State} (hk : Keeps z0 s) : KeepsOut z0 (execTagTransactionStart s) :=
  KeepsOut.quiet (execTagTransactionStart_writes (wm := 201326592) (Writes.refl _ _) (by decide)) (by decide) hk

theorem tagAnswer_keeps (data : Bytes) (sw : Nat) {s : State} (hk : Keeps z0 s) : Keeps z0 (tagAnswer s data sw) :=
  Keeps.quiet (tagAnswer_writes (wm := 134217728) (Writes.refl _ _) (by decide)) (by decide) hk

theorem onTag_keeps (f : State → State) {s : State} (hk : Keeps z0 s) (hf : ∀ y0, Keeps z0 y0 → Keeps z0 (f y0)) :
    KeepsOut z0 (onTag s f) := by
  unfold onTag
  try dsimp only
  repeat' (first
    | with_reducible assumption
    | with_reducible apply hf
    | with_reducible apply KeepsOut.next
    | with_reducible apply KeepsOut.ite)

theorem execTagSelect_keeps (aid : Bytes) {s : State} (hk : Keeps z0 s) : KeepsOut z0 (execTagSelect aid s) :=
  KeepsOut.quiet (execTagSelect_writes (wm := 134217728) (Writes.refl _ _) (by decide)) (by decide) hk

theorem execReadBinary_keeps (off : Nat) (len : Nat) {s : State} (hk : Keeps z0 s) : KeepsOut z0 (execReadBinary off len s) :=
  KeepsOut.quiet (execReadBinary_writes (wm := 134217728) (Writes.refl _ _) (by decide)) (by decide) hk

theorem execUpdateBinary_keeps (off : Nat) (data : Bytes) {s : State} (hk : Keeps z0 s) : KeepsOut z0 (execUpdateBinary off data s) :=
  KeepsOut.quiet (execUpdateBinary_writes (wm := 134217728) (Writes.refl _ _) (by decide)) (by decide) hk

theorem execIncrement_keeps (ctr : Nat) (data : Bytes) (torn : Bool) {s : State} (hk : Keeps z0 s) : KeepsOut z0 (execIncrement ctr data torn s) :=
  KeepsOut.quiet (execIncrement_writes (wm := 134217730) (Writes.refl _ _) (by decide)) (by decide) hk

theorem tagRead_keeps (x : SessId) (req : BitVec 16) (off : Nat) (len : Nat) {s : State} (hk : Keeps z0 s) : Keeps z0 (tagRead s x req off len) :=
  Keeps.quiet (tagRead_writes (wm := 1074266240) (Writes.refl _ _) (by decide)) (by decide) hk

theorem tagWrite_keeps (x : SessId) (req : BitVec 16) (v : Bytes) {s : State} (hk : Keeps z0 s) : Keeps z0 (tagWrite s x req v) :=
  Keeps.quiet (tagWrite_writes (wm := 1208483968) (Writes.refl _ _) (by decide)) (by decide) hk

theorem tagHostAdd_keeps (x : SessId) (req : BitVec 16) (v : Bytes) {s : State} (hk : Keeps z0 s) : Keeps z0 (tagHostAdd s x req v) :=
  Keeps.quiet (tagHostAdd_writes (wm := 1208483968) (Writes.refl _ _) (by decide)) (by decide) hk

theorem tagAccess_keeps (w : TagWait) {s : State} (hk : Keeps z0 s) : Keeps z0 (tagAccess s w) :=
  Keeps.quiet (tagAccess_writes (wm := 1208483968) (Writes.refl _ _) (by decide)) (by decide) hk

theorem tagHost_keeps (w : TagWait) {s : State} (hk : Keeps z0 s) : Keeps z0 (tagHost s w) :=
  Keeps.quiet (tagHost_writes (wm := 1208483968) (Writes.refl _ _) (by decide)) (by decide) hk

theorem execTagMemBlock_keeps (sess : SessId) (req : BitVec 16) (data : Option Bytes) {s : State} (hk : Keeps z0 s) : KeepsOut z0
    (execTagMemBlock sess req data s) :=
  KeepsOut.quiet (execTagMemBlock_writes (wm := 1208483968) (Writes.refl _ _) (by decide)) (by decide) hk

theorem execTagCounterAdd_keeps (sess : SessId) (req : BitVec 16) (value : Bytes) {s : State} (hk : Keeps z0 s) : KeepsOut z0
    (execTagCounterAdd sess req value s) :=
  KeepsOut.quiet (execTagCounterAdd_writes (wm := 1208483968) (Writes.refl _ _) (by decide)) (by decide) hk

theorem execTagHostTimeout_keeps  {s : State} (hk : Keeps z0 s) : KeepsOut z0 (execTagHostTimeout s) :=
  KeepsOut.quiet (execTagHostTimeout_writes (wm := 1208483968) (Writes.refl _ _) (by decide)) (by decide) hk

theorem endTxn_keeps  {s : State} (hk : Keeps z0 s) : Keeps z0 (endTxn s) :=
  Keeps.quiet (endTxn_writes (wm := 1208483968) (Writes.refl _ _) (by decide)) (by decide) hk

theorem execTagTransactionEnd_keeps  {s : State} (hk : Keeps z0 s) : KeepsOut z0 (execTagTransactionEnd s) :=
  KeepsOut.quiet (execTagTransactionEnd_writes (wm := 1208483968) (Writes.refl _ _) (by decide)) (by decide) hk

theorem execExternalFieldGone_keeps  {s : State} (hk : Keeps z0 s) : KeepsOut z0 (execExternalFieldGone s) :=
  KeepsOut.quiet (execExternalFieldGone_writes (wm := 1275592832) (Writes.refl _ _) (by decide)) (by decide) hk

theorem execTagTransactionTimeout_keeps  {s : State} (hk : Keeps z0 s) : KeepsOut z0 (execTagTransactionTimeout s) :=
  KeepsOut.quiet (execTagTransactionTimeout_writes (wm := 1208483968) (Writes.refl _ _) (by decide)) (by decide) hk

/-! ### GlossView -/

theorem shownJobs_keeps  {s : State} (hk : Keeps z0 s) : Keeps z0 (shownJobs s) :=
  Keeps.quiet (shownJobs_writes (wm := 1024) (Writes.refl _ _) (by decide)) (by decide) hk

/-! ### Gloss -/

theorem execRead_keeps (sess : SessId) (req : BitVec 16) (index : Nat) (sub : Nat) (off : Nat) (len : Nat) {s : State} (hk : Keeps z0 s) :
    KeepsOut z0 (execRead sess req index sub off len s) :=
  KeepsOut.quiet (execRead_writes (wm := 1208483970) (Writes.refl _ _) (by decide)) (by decide) hk

theorem wrote_keeps (x : SessId) (req : BitVec 16) (st : Nat) {s : State} (hk : Keeps z0 s) : Keeps z0 (wrote s x req st) :=
  Keeps.quiet (wrote_writes (wm := 524416) (Writes.refl _ _) (by decide)) (by decide) hk

theorem writeRwp_keeps (x : SessId) (req : BitVec 16) (r : GRow) (v : Bytes) {s : State} (hk : Keeps z0 s) : Keeps z0 (writeRwp s x req r v) :=
  Keeps.quiet (writeRwp_writes (wm := 1074266240) (Writes.refl _ _) (by decide)) (by decide) hk

theorem writeCred_keeps (x : SessId) (req : BitVec 16) (r : GRow) (v : Bytes) {s : State} (hk : Keeps z0 s) : Keeps z0 (writeCred s x req r v) :=
  Keeps.quiet (writeCred_writes (wm := 67633314) (Writes.refl _ _) (by decide)) (by decide) hk

theorem writeDraft_keeps (x : SessId) (r : GRow) (v : Bytes) {s : State} (hk : Keeps z0 s) : Keeps z0 (writeDraft s x r v) :=
  Keeps.quiet (writeDraft_writes (wm := 524288) (Writes.refl _ _) (by decide)) (by decide) hk

theorem cancelGuard_keeps (g : Nat) {s : State} (hk : Keeps z0 s) : Keeps z0 (cancelGuard s g) :=
  Keeps.quiet (cancelGuard_writes (wm := 1074331680) (Writes.refl _ _) (by decide)) (by decide) hk

theorem writeStage_keeps (x : SessId) (req : BitVec 16) (r : GRow) (v : Bytes) {s : State} (hk : Keeps z0 s) : Keeps z0 (writeStage s x req r v) :=
  Keeps.quiet (writeStage_writes (wm := 1074331808) (Writes.refl _ _) (by decide)) (by decide) hk

theorem startKat_keeps  {s : State} (hk : Keeps z0 s) : Keeps z0 (startKat s) :=
  Keeps.quiet (startKat_writes (wm := 1073741824) (Writes.refl _ _) (by decide)) (by decide) hk

theorem writeSelftest_keeps  {s : State} (hk : Keeps z0 s) : Keeps z0 (writeSelftest s) :=
  Keeps.quiet (writeSelftest_writes (wm := 1073758210) (Writes.refl _ _) (by decide)) (by decide) hk

theorem writeEntry22_keeps (x : SessId) (req : BitVec 16) (key : Nat) (v : Bytes) {s : State} (hk : Keeps z0 s) : Keeps z0 (writeEntry22 s
    x req key v) :=
  Keeps.quiet (writeEntry22_writes (wm := 1141457058) (Writes.refl _ _) (by decide)) (by decide) hk

theorem execWrite_keeps (sess : SessId) (req : BitVec 16) (index : Nat) (sub : Nat) (value : Bytes) {s : State} (hk : Keeps z0 s) :
    KeepsOut z0 (execWrite sess req index sub value s) := by
  unfold execWrite
  try dsimp only
  repeat' (first
    | intro _
    | with_reducible assumption
    | with_reducible apply writeEntry22_keeps
    | with_reducible apply execTagCounterAdd_keeps
    | with_reducible apply execTagMemBlock_keeps
    | with_reducible apply execFieldRequest_keeps
    | with_reducible apply execCardMidstepClear_keeps
    | with_reducible apply execCardRequest_keeps
    | with_reducible apply execAlertAck_keeps
    | with_reducible apply execServiceEnd_keeps
    | with_reducible apply execModeTarget_keeps
    | with_reducible apply onMsg_keeps
    | split)

/-! ### RngFail -/

theorem retireChan_keeps (c : Nat) (test : Nat) {s : State} (hk : Keeps z0 s) :
    Keeps z0 (retireChan s c test) := by
  unfold retireChan
  try dsimp only
  repeat' (first
    | with_reducible assumption
    | with_reducible apply failStalled_keeps
    | with_reducible apply retire_keeps)

theorem execRngRetired_keeps (chan : Nat) (test : Nat) {s : State} (hk : Keeps z0 s) :
    KeepsOut z0 (execRngRetired chan test s) := by
  unfold execRngRetired
  try dsimp only
  repeat' (first
    | with_reducible assumption
    | with_reducible apply retireChan_keeps
    | with_reducible apply KeepsOut.next
    | with_reducible apply KeepsOut.ite)

theorem execStartTimeout_keeps (chan : Nat) {s : State} (hk : Keeps z0 s) :
    KeepsOut z0 (execStartTimeout chan s) := by
  unfold execStartTimeout
  try dsimp only
  repeat' (first
    | with_reducible assumption
    | with_reducible apply retireChan_keeps
    | with_reducible apply KeepsOut.next
    | with_reducible apply KeepsOut.ite)

theorem execRngKatRun_keeps (which : Nat) (failed : List Nat) {s : State} (hk : Keeps z0 s) :
    KeepsOut z0 (execRngKatRun which failed s) := by
  unfold execRngKatRun
  try dsimp only
  repeat' (first
    | intro _
    | with_reducible assumption
    | with_reducible apply retireChan_keeps
    | with_reducible apply State.withExp_keeps
    | with_reducible apply State.gset_keeps
    | with_reducible apply KeepsOut.next
    | with_reducible apply KeepsOut.ite
    | with_reducible apply Keeps.foldl)

end Sys2Proof.Machine
end

