-- ==== Sys2Proof/Laws/Keeps6.lean ====
section
/-! SUPPORT. Keeping of queue and canonical form (see Keeps.lean), operation by operation: VerbData, VerbMem. -/

set_option linter.unusedTactic false
set_option linter.unreachableTactic false
set_option linter.unusedVariables false

namespace Sys2Proof.Machine

open Sys2Proof

variable {z0 : State}

/-! ### VerbData -/

theorem dataOp_keeps (u : Nat) (dd : Fin 8) (ds : Fin 8) (f : BitVec 32 → BitVec 32 → BitVec 32 → Option (BitVec 32) × Fl) {s : State} (hk
    : Keeps z0 s) :
    Keeps z0 (dataOp s u dd ds f) := by
  unfold dataOp
  try dsimp only
  repeat' (first
    | intro _
    | with_reducible assumption
    | with_reducible apply onRegs_keeps
    | with_reducible apply runVerb_keeps)

theorem execMov_keeps (u : Nat) (dd : Fin 8) (ds : Fin 8) {s : State} (hk : Keeps z0 s) :
    KeepsOut z0 (execMov u dd ds s) := by
  unfold execMov
  try dsimp only
  repeat' (first
    | with_reducible assumption
    | with_reducible apply dataOp_keeps
    | with_reducible apply KeepsOut.next)

theorem execAdd_keeps (u : Nat) (dd : Fin 8) (ds : Fin 8) {s : State} (hk : Keeps z0 s) :
    KeepsOut z0 (execAdd u dd ds s) := by
  unfold execAdd
  try dsimp only
  repeat' (first
    | with_reducible assumption
    | with_reducible apply dataOp_keeps
    | with_reducible apply KeepsOut.next)

theorem execAdc_keeps (u : Nat) (dd : Fin 8) (ds : Fin 8) {s : State} (hk : Keeps z0 s) :
    KeepsOut z0 (execAdc u dd ds s) := by
  unfold execAdc
  try dsimp only
  repeat' (first
    | with_reducible assumption
    | with_reducible apply dataOp_keeps
    | with_reducible apply KeepsOut.next)

theorem execSub_keeps (u : Nat) (dd : Fin 8) (ds : Fin 8) {s : State} (hk : Keeps z0 s) :
    KeepsOut z0 (execSub u dd ds s) := by
  unfold execSub
  try dsimp only
  repeat' (first
    | with_reducible assumption
    | with_reducible apply dataOp_keeps
    | with_reducible apply KeepsOut.next)

theorem execSbc_keeps (u : Nat) (dd : Fin 8) (ds : Fin 8) {s : State} (hk : Keeps z0 s) :
    KeepsOut z0 (execSbc u dd ds s) := by
  unfold execSbc
  try dsimp only
  repeat' (first
    | with_reducible assumption
    | with_reducible apply dataOp_keeps
    | with_reducible apply KeepsOut.next)

theorem execCmp_keeps (u : Nat) (dd : Fin 8) (ds : Fin 8) {s : State} (hk : Keeps z0 s) :
    KeepsOut z0 (execCmp u dd ds s) := by
  unfold execCmp
  try dsimp only
  repeat' (first
    | with_reducible assumption
    | with_reducible apply dataOp_keeps
    | with_reducible apply KeepsOut.next)

theorem execAnd_keeps (u : Nat) (dd : Fin 8) (ds : Fin 8) {s : State} (hk : Keeps z0 s) :
    KeepsOut z0 (execAnd u dd ds s) := by
  unfold execAnd
  try dsimp only
  repeat' (first
    | with_reducible assumption
    | with_reducible apply dataOp_keeps
    | with_reducible apply KeepsOut.next)

theorem execOr_keeps (u : Nat) (dd : Fin 8) (ds : Fin 8) {s : State} (hk : Keeps z0 s) :
    KeepsOut z0 (execOr u dd ds s) := by
  unfold execOr
  try dsimp only
  repeat' (first
    | with_reducible assumption
    | with_reducible apply dataOp_keeps
    | with_reducible apply KeepsOut.next)

theorem execXor_keeps (u : Nat) (dd : Fin 8) (ds : Fin 8) {s : State} (hk : Keeps z0 s) :
    KeepsOut z0 (execXor u dd ds s) := by
  unfold execXor
  try dsimp only
  repeat' (first
    | with_reducible assumption
    | with_reducible apply dataOp_keeps
    | with_reducible apply KeepsOut.next)

theorem execAndn_keeps (u : Nat) (dd : Fin 8) (ds : Fin 8) {s : State} (hk : Keeps z0 s) :
    KeepsOut z0 (execAndn u dd ds s) := by
  unfold execAndn
  try dsimp only
  repeat' (first
    | with_reducible assumption
    | with_reducible apply dataOp_keeps
    | with_reducible apply KeepsOut.next)

theorem execTst_keeps (u : Nat) (dd : Fin 8) (ds : Fin 8) {s : State} (hk : Keeps z0 s) :
    KeepsOut z0 (execTst u dd ds s) := by
  unfold execTst
  try dsimp only
  repeat' (first
    | with_reducible assumption
    | with_reducible apply dataOp_keeps
    | with_reducible apply KeepsOut.next)

theorem execNeg_keeps (u : Nat) (dd : Fin 8) (ds : Fin 8) {s : State} (hk : Keeps z0 s) :
    KeepsOut z0 (execNeg u dd ds s) := by
  unfold execNeg
  try dsimp only
  repeat' (first
    | with_reducible assumption
    | with_reducible apply dataOp_keeps
    | with_reducible apply KeepsOut.next)

theorem execNot_keeps (u : Nat) (dd : Fin 8) (ds : Fin 8) {s : State} (hk : Keeps z0 s) :
    KeepsOut z0 (execNot u dd ds s) := by
  unfold execNot
  try dsimp only
  repeat' (first
    | with_reducible assumption
    | with_reducible apply dataOp_keeps
    | with_reducible apply KeepsOut.next)

theorem execShl_keeps (u : Nat) (dd : Fin 8) (ds : Fin 8) {s : State} (hk : Keeps z0 s) :
    KeepsOut z0 (execShl u dd ds s) := by
  unfold execShl
  try dsimp only
  repeat' (first
    | with_reducible assumption
    | with_reducible apply dataOp_keeps
    | with_reducible apply KeepsOut.next)

theorem execShr_keeps (u : Nat) (dd : Fin 8) (ds : Fin 8) {s : State} (hk : Keeps z0 s) :
    KeepsOut z0 (execShr u dd ds s) := by
  unfold execShr
  try dsimp only
  repeat' (first
    | with_reducible assumption
    | with_reducible apply dataOp_keeps
    | with_reducible apply KeepsOut.next)

theorem execSar_keeps (u : Nat) (dd : Fin 8) (ds : Fin 8) {s : State} (hk : Keeps z0 s) :
    KeepsOut z0 (execSar u dd ds s) := by
  unfold execSar
  try dsimp only
  repeat' (first
    | with_reducible assumption
    | with_reducible apply dataOp_keeps
    | with_reducible apply KeepsOut.next)

theorem execRor_keeps (u : Nat) (dd : Fin 8) (ds : Fin 8) {s : State} (hk : Keeps z0 s) :
    KeepsOut z0 (execRor u dd ds s) := by
  unfold execRor
  try dsimp only
  repeat' (first
    | with_reducible assumption
    | with_reducible apply dataOp_keeps
    | with_reducible apply KeepsOut.next)

theorem execMul_keeps (u : Nat) (dd : Fin 8) (ds : Fin 8) {s : State} (hk : Keeps z0 s) :
    KeepsOut z0 (execMul u dd ds s) := by
  unfold execMul
  try dsimp only
  repeat' (first
    | with_reducible assumption
    | with_reducible apply dataOp_keeps
    | with_reducible apply KeepsOut.next)

theorem execMulhu_keeps (u : Nat) (dd : Fin 8) (ds : Fin 8) {s : State} (hk : Keeps z0 s) :
    KeepsOut z0 (execMulhu u dd ds s) := by
  unfold execMulhu
  try dsimp only
  repeat' (first
    | with_reducible assumption
    | with_reducible apply dataOp_keeps
    | with_reducible apply KeepsOut.next)

theorem execMulhs_keeps (u : Nat) (dd : Fin 8) (ds : Fin 8) {s : State} (hk : Keeps z0 s) :
    KeepsOut z0 (execMulhs u dd ds s) := by
  unfold execMulhs
  try dsimp only
  repeat' (first
    | with_reducible assumption
    | with_reducible apply dataOp_keeps
    | with_reducible apply KeepsOut.next)

theorem execMinu_keeps (u : Nat) (dd : Fin 8) (ds : Fin 8) {s : State} (hk : Keeps z0 s) :
    KeepsOut z0 (execMinu u dd ds s) := by
  unfold execMinu
  try dsimp only
  repeat' (first
    | with_reducible assumption
    | with_reducible apply dataOp_keeps
    | with_reducible apply KeepsOut.next)

theorem execMaxu_keeps (u : Nat) (dd : Fin 8) (ds : Fin 8) {s : State} (hk : Keeps z0 s) :
    KeepsOut z0 (execMaxu u dd ds s) := by
  unfold execMaxu
  try dsimp only
  repeat' (first
    | with_reducible assumption
    | with_reducible apply dataOp_keeps
    | with_reducible apply KeepsOut.next)

theorem execMins_keeps (u : Nat) (dd : Fin 8) (ds : Fin 8) {s : State} (hk : Keeps z0 s) :
    KeepsOut z0 (execMins u dd ds s) := by
  unfold execMins
  try dsimp only
  repeat' (first
    | with_reducible assumption
    | with_reducible apply dataOp_keeps
    | with_reducible apply KeepsOut.next)

theorem execMaxs_keeps (u : Nat) (dd : Fin 8) (ds : Fin 8) {s : State} (hk : Keeps z0 s) :
    KeepsOut z0 (execMaxs u dd ds s) := by
  unfold execMaxs
  try dsimp only
  repeat' (first
    | with_reducible assumption
    | with_reducible apply dataOp_keeps
    | with_reducible apply KeepsOut.next)

theorem execClz_keeps (u : Nat) (dd : Fin 8) (ds : Fin 8) {s : State} (hk : Keeps z0 s) :
    KeepsOut z0 (execClz u dd ds s) := by
  unfold execClz
  try dsimp only
  repeat' (first
    | with_reducible assumption
    | with_reducible apply dataOp_keeps
    | with_reducible apply KeepsOut.next)

theorem execPopc_keeps (u : Nat) (dd : Fin 8) (ds : Fin 8) {s : State} (hk : Keeps z0 s) :
    KeepsOut z0 (execPopc u dd ds s) := by
  unfold execPopc
  try dsimp only
  repeat' (first
    | with_reducible assumption
    | with_reducible apply dataOp_keeps
    | with_reducible apply KeepsOut.next)

theorem execBswap_keeps (u : Nat) (dd : Fin 8) (ds : Fin 8) {s : State} (hk : Keeps z0 s) :
    KeepsOut z0 (execBswap u dd ds s) := by
  unfold execBswap
  try dsimp only
  repeat' (first
    | with_reducible assumption
    | with_reducible apply dataOp_keeps
    | with_reducible apply KeepsOut.next)

theorem execCmovz_keeps (u : Nat) (dd : Fin 8) (ds : Fin 8) {s : State} (hk : Keeps z0 s) :
    KeepsOut z0 (execCmovz u dd ds s) := by
  unfold execCmovz
  try dsimp only
  repeat' (first
    | with_reducible assumption
    | with_reducible apply dataOp_keeps
    | with_reducible apply KeepsOut.next)

theorem execCmovc_keeps (u : Nat) (dd : Fin 8) (ds : Fin 8) {s : State} (hk : Keeps z0 s) :
    KeepsOut z0 (execCmovc u dd ds s) := by
  unfold execCmovc
  try dsimp only
  repeat' (first
    | with_reducible assumption
    | with_reducible apply dataOp_keeps
    | with_reducible apply KeepsOut.next)

theorem execSxb_keeps (u : Nat) (dd : Fin 8) (ds : Fin 8) {s : State} (hk : Keeps z0 s) :
    KeepsOut z0 (execSxb u dd ds s) := by
  unfold execSxb
  try dsimp only
  repeat' (first
    | with_reducible assumption
    | with_reducible apply dataOp_keeps
    | with_reducible apply KeepsOut.next)

theorem execSxh_keeps (u : Nat) (dd : Fin 8) (ds : Fin 8) {s : State} (hk : Keeps z0 s) :
    KeepsOut z0 (execSxh u dd ds s) := by
  unfold execSxh
  try dsimp only
  repeat' (first
    | with_reducible assumption
    | with_reducible apply dataOp_keeps
    | with_reducible apply KeepsOut.next)

theorem immOp_keeps (u : Nat) (pre : List (BitVec 12)) (word : Nat) (dd : Fin 8) (f : BitVec 32 → Option (BitVec 32) × Fl) {s : State} (hk
    : Keeps z0 s) :
    Keeps z0 (immOp s u pre word dd f) := by
  unfold immOp
  try dsimp only
  repeat' (first
    | intro _
    | with_reducible assumption
    | with_reducible apply onRegs_keeps
    | with_reducible apply runWord_keeps)

theorem execMovi_keeps (u : Nat) (pre : List (BitVec 12)) (dd : Fin 8) (imm : BitVec 5) {s : State} (hk : Keeps z0 s) :
    KeepsOut z0 (execMovi u pre dd imm s) := by
  unfold execMovi
  try dsimp only
  repeat' (first
    | with_reducible assumption
    | with_reducible apply immOp_keeps
    | with_reducible apply KeepsOut.next)

theorem execAddi_keeps (u : Nat) (pre : List (BitVec 12)) (dd : Fin 8) (imm : BitVec 5) {s : State} (hk : Keeps z0 s) :
    KeepsOut z0 (execAddi u pre dd imm s) := by
  unfold execAddi
  try dsimp only
  repeat' (first
    | with_reducible assumption
    | with_reducible apply immOp_keeps
    | with_reducible apply KeepsOut.next)

theorem execCmpi_keeps (u : Nat) (pre : List (BitVec 12)) (dd : Fin 8) (imm : BitVec 5) {s : State} (hk : Keeps z0 s) :
    KeepsOut z0 (execCmpi u pre dd imm s) := by
  unfold execCmpi
  try dsimp only
  repeat' (first
    | with_reducible assumption
    | with_reducible apply immOp_keeps
    | with_reducible apply KeepsOut.next)

theorem execAndi_keeps (u : Nat) (pre : List (BitVec 12)) (dd : Fin 8) (imm : BitVec 5) {s : State} (hk : Keeps z0 s) :
    KeepsOut z0 (execAndi u pre dd imm s) := by
  unfold execAndi
  try dsimp only
  repeat' (first
    | with_reducible assumption
    | with_reducible apply immOp_keeps
    | with_reducible apply KeepsOut.next)

theorem execOri_keeps (u : Nat) (pre : List (BitVec 12)) (dd : Fin 8) (imm : BitVec 5) {s : State} (hk : Keeps z0 s) :
    KeepsOut z0 (execOri u pre dd imm s) := by
  unfold execOri
  try dsimp only
  repeat' (first
    | with_reducible assumption
    | with_reducible apply immOp_keeps
    | with_reducible apply KeepsOut.next)

theorem execXori_keeps (u : Nat) (pre : List (BitVec 12)) (dd : Fin 8) (imm : BitVec 5) {s : State} (hk : Keeps z0 s) :
    KeepsOut z0 (execXori u pre dd imm s) := by
  unfold execXori
  try dsimp only
  repeat' (first
    | with_reducible assumption
    | with_reducible apply immOp_keeps
    | with_reducible apply KeepsOut.next)

theorem execShli_keeps (u : Nat) (dd : Fin 8) (imm : BitVec 5) {s : State} (hk : Keeps z0 s) :
    KeepsOut z0 (execShli u dd imm s) := by
  unfold execShli
  try dsimp only
  repeat' (first
    | with_reducible assumption
    | with_reducible apply immOp_keeps
    | with_reducible apply KeepsOut.next)

theorem execShri_keeps (u : Nat) (dd : Fin 8) (imm : BitVec 5) {s : State} (hk : Keeps z0 s) :
    KeepsOut z0 (execShri u dd imm s) := by
  unfold execShri
  try dsimp only
  repeat' (first
    | with_reducible assumption
    | with_reducible apply immOp_keeps
    | with_reducible apply KeepsOut.next)

theorem execBranch_keeps (u : Nat) (pre : List (BitVec 12)) (cond : Fin 15) (disp : BitVec 7) {s : State} (hk : Keeps z0 s) :
    KeepsOut z0 (execBranch u pre cond disp s) := by
  unfold execBranch
  try dsimp only
  repeat' (first
    | intro _
    | with_reducible assumption
    | with_reducible apply onRegs_keeps
    | with_reducible apply runWord_keeps
    | with_reducible apply KeepsOut.next)

theorem execCall_keeps (u : Nat) (pre : List (BitVec 12)) (disp : BitVec 7) {s : State} (hk : Keeps z0 s) :
    KeepsOut z0 (execCall u pre disp s) := by
  unfold execCall
  try dsimp only
  repeat' (first
    | intro _
    | with_reducible assumption
    | with_reducible apply onRegs_keeps
    | with_reducible apply runWord_keeps
    | with_reducible apply KeepsOut.next)

theorem accOp_keeps (u : Nat) (q : Fin 4) (f : VRegs → BitVec 72 × Bool) {s : State} (hk : Keeps z0 s) :
    Keeps z0 (accOp s u q f) := by
  unfold accOp
  try dsimp only
  repeat' (first
    | intro _
    | with_reducible assumption
    | with_reducible apply onRegs_keeps
    | with_reducible apply runVerb_keeps)

theorem execMacu_keeps (u : Nat) (q : Fin 4) (m : Fin 8) (n : Fin 8) {s : State} (hk : Keeps z0 s) :
    KeepsOut z0 (execMacu u q m n s) := by
  unfold execMacu
  try dsimp only
  repeat' (first
    | with_reducible assumption
    | with_reducible apply accOp_keeps
    | with_reducible apply KeepsOut.next)

theorem execMacs_keeps (u : Nat) (q : Fin 4) (m : Fin 8) (n : Fin 8) {s : State} (hk : Keeps z0 s) :
    KeepsOut z0 (execMacs u q m n s) := by
  unfold execMacs
  try dsimp only
  repeat' (first
    | with_reducible assumption
    | with_reducible apply accOp_keeps
    | with_reducible apply KeepsOut.next)

theorem execMulu_keeps (u : Nat) (q : Fin 4) (m : Fin 8) (n : Fin 8) {s : State} (hk : Keeps z0 s) :
    KeepsOut z0 (execMulu u q m n s) := by
  unfold execMulu
  try dsimp only
  repeat' (first
    | with_reducible assumption
    | with_reducible apply accOp_keeps
    | with_reducible apply KeepsOut.next)

theorem accRead_keeps (u : Nat) (q : Fin 4) (d : Fin 8) (sh : Nat) (w : Nat) {s : State} (hk : Keeps z0 s) :
    Keeps z0 (accRead s u q d sh w) := by
  unfold accRead
  try dsimp only
  repeat' (first
    | intro _
    | with_reducible assumption
    | with_reducible apply onRegs_keeps
    | with_reducible apply runVerb_keeps)

theorem execMql_keeps (u : Nat) (q : Fin 4) (d : Fin 8) {s : State} (hk : Keeps z0 s) :
    KeepsOut z0 (execMql u q d s) := by
  unfold execMql
  try dsimp only
  repeat' (first
    | with_reducible assumption
    | with_reducible apply accRead_keeps
    | with_reducible apply KeepsOut.next)

theorem execMqh_keeps (u : Nat) (q : Fin 4) (d : Fin 8) {s : State} (hk : Keeps z0 s) :
    KeepsOut z0 (execMqh u q d s) := by
  unfold execMqh
  try dsimp only
  repeat' (first
    | with_reducible assumption
    | with_reducible apply accRead_keeps
    | with_reducible apply KeepsOut.next)

theorem execMqg_keeps (u : Nat) (q : Fin 4) (d : Fin 8) {s : State} (hk : Keeps z0 s) :
    KeepsOut z0 (execMqg u q d s) := by
  unfold execMqg
  try dsimp only
  repeat' (first
    | with_reducible assumption
    | with_reducible apply accRead_keeps
    | with_reducible apply KeepsOut.next)

theorem execMdql_keeps (u : Nat) (q : Fin 4) (d : Fin 8) {s : State} (hk : Keeps z0 s) :
    KeepsOut z0 (execMdql u q d s) := by
  unfold execMdql
  try dsimp only
  repeat' (first
    | with_reducible assumption
    | with_reducible apply accOp_keeps
    | with_reducible apply KeepsOut.next)

theorem execMdqh_keeps (u : Nat) (q : Fin 4) (d : Fin 8) {s : State} (hk : Keeps z0 s) :
    KeepsOut z0 (execMdqh u q d s) := by
  unfold execMdqh
  try dsimp only
  repeat' (first
    | with_reducible assumption
    | with_reducible apply accOp_keeps
    | with_reducible apply KeepsOut.next)

theorem execMdqg_keeps (u : Nat) (q : Fin 4) (d : Fin 8) {s : State} (hk : Keeps z0 s) :
    KeepsOut z0 (execMdqg u q d s) := by
  unfold execMdqg
  try dsimp only
  repeat' (first
    | with_reducible assumption
    | with_reducible apply accOp_keeps
    | with_reducible apply KeepsOut.next)

theorem execShrq_keeps (u : Nat) (q : Fin 4) (d : Fin 8) {s : State} (hk : Keeps z0 s) :
    KeepsOut z0 (execShrq u q d s) := by
  unfold execShrq
  try dsimp only
  repeat' (first
    | with_reducible assumption
    | with_reducible apply accOp_keeps
    | with_reducible apply KeepsOut.next)

theorem execShlq_keeps (u : Nat) (q : Fin 4) (d : Fin 8) {s : State} (hk : Keeps z0 s) :
    KeepsOut z0 (execShlq u q d s) := by
  unfold execShlq
  try dsimp only
  repeat' (first
    | with_reducible assumption
    | with_reducible apply accOp_keeps
    | with_reducible apply KeepsOut.next)

/-! ### VerbMem -/

theorem loadOp_keeps (u : Nat) (pre : List (BitVec 12)) (word : Nat) (isA : Bool) (r : Fin 8) (aa : Fin 8) (mode : BitVec 2) (n : Nat) {s :
    State} (hk : Keeps z0 s) :
    Keeps z0 (loadOp s u pre word isA r aa mode n) := by
  unfold loadOp
  try dsimp only
  repeat' (first
    | intro _
    | with_reducible assumption
    | with_reducible apply vLoad_keeps
    | with_reducible apply runWord_keeps
    | with_reducible apply State.withUnit_keeps
    | with_reducible apply KeepsRes.done
    | (with_reducible apply KeepsSum.of_inl; with_reducible assumption)
    | (with_reducible apply KeepsSum.of_inr; with_reducible assumption)
    | split)

theorem storeOp_keeps (u : Nat) (pre : List (BitVec 12)) (word : Nat) (aa : Fin 8) (mode : BitVec 2) (n : Nat) (val : VRegs → Nat) {s :
    State} (hk : Keeps z0 s) :
    Keeps z0 (storeOp s u pre word aa mode n val) := by
  unfold storeOp
  try dsimp only
  repeat' (first
    | intro _
    | with_reducible assumption
    | with_reducible apply vStore_keeps
    | with_reducible apply runWord_keeps
    | with_reducible apply State.withRegs_keeps
    | with_reducible apply KeepsRes.done
    | (with_reducible apply Keeps.mk; with_reducible apply KeepsParts.of; first | split)
    | (with_reducible apply KeepsRes.of_done; with_reducible assumption)
    | split)

theorem execLdb_keeps (u : Nat) (pre : List (BitVec 12)) (r : Fin 8) (aa : Fin 8) (mode : BitVec 2) {s : State} (hk : Keeps z0 s) :
    KeepsOut z0 (execLdb u pre r aa mode s) := by
  unfold execLdb
  try dsimp only
  repeat' (first
    | with_reducible assumption
    | with_reducible apply loadOp_keeps
    | with_reducible apply KeepsOut.next)

theorem execLdh_keeps (u : Nat) (pre : List (BitVec 12)) (r : Fin 8) (aa : Fin 8) (mode : BitVec 2) {s : State} (hk : Keeps z0 s) :
    KeepsOut z0 (execLdh u pre r aa mode s) := by
  unfold execLdh
  try dsimp only
  repeat' (first
    | with_reducible assumption
    | with_reducible apply loadOp_keeps
    | with_reducible apply KeepsOut.next)

theorem execLdw_keeps (u : Nat) (pre : List (BitVec 12)) (r : Fin 8) (aa : Fin 8) (mode : BitVec 2) {s : State} (hk : Keeps z0 s) :
    KeepsOut z0 (execLdw u pre r aa mode s) := by
  unfold execLdw
  try dsimp only
  repeat' (first
    | with_reducible assumption
    | with_reducible apply loadOp_keeps
    | with_reducible apply KeepsOut.next)

theorem execLda_keeps (u : Nat) (pre : List (BitVec 12)) (r : Fin 8) (aa : Fin 8) (mode : BitVec 2) {s : State} (hk : Keeps z0 s) :
    KeepsOut z0 (execLda u pre r aa mode s) := by
  unfold execLda
  try dsimp only
  repeat' (first
    | with_reducible assumption
    | with_reducible apply loadOp_keeps
    | with_reducible apply KeepsOut.next)

theorem execStb_keeps (u : Nat) (pre : List (BitVec 12)) (r : Fin 8) (aa : Fin 8) (mode : BitVec 2) {s : State} (hk : Keeps z0 s) :
    KeepsOut z0 (execStb u pre r aa mode s) := by
  unfold execStb
  try dsimp only
  repeat' (first
    | with_reducible assumption
    | with_reducible apply storeOp_keeps
    | with_reducible apply KeepsOut.next)

theorem execSth_keeps (u : Nat) (pre : List (BitVec 12)) (r : Fin 8) (aa : Fin 8) (mode : BitVec 2) {s : State} (hk : Keeps z0 s) :
    KeepsOut z0 (execSth u pre r aa mode s) := by
  unfold execSth
  try dsimp only
  repeat' (first
    | with_reducible assumption
    | with_reducible apply storeOp_keeps
    | with_reducible apply KeepsOut.next)

theorem execStw_keeps (u : Nat) (pre : List (BitVec 12)) (r : Fin 8) (aa : Fin 8) (mode : BitVec 2) {s : State} (hk : Keeps z0 s) :
    KeepsOut z0 (execStw u pre r aa mode s) := by
  unfold execStw
  try dsimp only
  repeat' (first
    | with_reducible assumption
    | with_reducible apply storeOp_keeps
    | with_reducible apply KeepsOut.next)

theorem execSta_keeps (u : Nat) (pre : List (BitVec 12)) (r : Fin 8) (aa : Fin 8) (mode : BitVec 2) {s : State} (hk : Keeps z0 s) :
    KeepsOut z0 (execSta u pre r aa mode s) := by
  unfold execSta
  try dsimp only
  repeat' (first
    | with_reducible assumption
    | with_reducible apply storeOp_keeps
    | with_reducible apply KeepsOut.next)

theorem readOnly_keeps (u : Nat) (a : Nat) {s : State} (hk : Keeps z0 s) :
    Keeps z0 (readOnly s u a) := by
  unfold readOnly
  try dsimp only
  repeat' (first
    | with_reducible assumption
    | with_reducible apply vLoad_keeps
    | with_reducible apply raiseSync_keeps
    | with_reducible apply State.withUnit_keeps
    | with_reducible apply Keeps.ite
    | (with_reducible apply Keeps.mk; with_reducible apply KeepsParts.of; first | split)
    | (with_reducible apply KeepsSum.of_exc; with_reducible assumption)
    | (with_reducible apply KeepsSum.of_inr; with_reducible assumption))

theorem execRngDataLo_keeps (unit : Nat) {s : State} (hk : Keeps z0 s) :
    KeepsOut z0 (execRngDataLo unit s) := by
  unfold execRngDataLo
  try dsimp only
  repeat' (first
    | with_reducible assumption
    | with_reducible apply readOnly_keeps
    | with_reducible apply KeepsOut.next
    | with_reducible apply KeepsOut.ite)

theorem execRngDataHi_keeps (unit : Nat) {s : State} (hk : Keeps z0 s) :
    KeepsOut z0 (execRngDataHi unit s) := by
  unfold execRngDataHi
  try dsimp only
  repeat' (first
    | with_reducible assumption
    | with_reducible apply readOnly_keeps
    | with_reducible apply KeepsOut.next
    | with_reducible apply KeepsOut.ite)

theorem execRngJdataLo_keeps (unit : Nat) {s : State} (hk : Keeps z0 s) :
    KeepsOut z0 (execRngJdataLo unit s) := by
  unfold execRngJdataLo
  try dsimp only
  repeat' (first
    | with_reducible assumption
    | with_reducible apply readOnly_keeps
    | with_reducible apply KeepsOut.next
    | with_reducible apply KeepsOut.ite)

theorem execRngJdataHi_keeps (unit : Nat) {s : State} (hk : Keeps z0 s) :
    KeepsOut z0 (execRngJdataHi unit s) := by
  unfold execRngJdataHi
  try dsimp only
  repeat' (first
    | with_reducible assumption
    | with_reducible apply readOnly_keeps
    | with_reducible apply KeepsOut.next
    | with_reducible apply KeepsOut.ite)

theorem execDtbFrac_keeps (u : Nat) {s : State} (hk : Keeps z0 s) :
    KeepsOut z0 (execDtbFrac u s) := by
  unfold execDtbFrac
  try dsimp only
  repeat' (first
    | with_reducible assumption
    | with_reducible apply readOnly_keeps
    | with_reducible apply KeepsOut.next
    | with_reducible apply KeepsOut.ite)

end Sys2Proof.Machine
end

