-- ==== Sys2Proof/Laws/Keys.lean ====
section
/-! SUPPORT. What the key store's shared operations do: the search for a free slot, the cache's eviction, a key made for a job. -/

namespace Sys2Proof.Machine

open Sys2Proof

/-! ### Slots -/

theorem State.withSlot_kslot (s : State) (i k : Nat) (f : KSlot → KSlot) :
    (s.withSlot i f).kslot k = if k = i then f (s.kslot i) else s.kslot k := by
  simp only [State.kslot, State.withSlot, State.withKeys, Tab.get_upd]

/-- The key store alone says what a slot is. -/
theorem State.kslot_congr {s t : State} (h : t.keys = s.keys) (k : Nat) : t.kslot k = s.kslot k := by
  simp only [State.kslot, h]

/-! ### The search for a free slot (09 R345) -/

/-- The `k`-th index of the search from `i`, cyclically over 1 to 2,097,151. -/
def cycAt (i k : Nat) : Nat := (i - 1 + k) % 2097151 + 1

theorem cycAt_succ (i k : Nat) : cycAt i (k + 1) = cycAt i k % 2097151 + 1 := by unfold cycAt; omega

theorem freeIndex_at (t : Tab KSlot) (i : Nat) : ∀ n j, ∃ m, m ≤ n ∧ freeIndex t n (cycAt i j) = cycAt i (j + m) ∧
    (∀ k, k < m → (t.find (cycAt i (j + k))).isSome = true) ∧ (m = n ∨ t.find (cycAt i (j + m)) = none) := by
  intro n
  induction n with
  | zero => intro j; exact ⟨0, Nat.le_refl _, rfl, fun k h => absurd h (Nat.not_lt_zero _), .inl rfl⟩
  | succ n ih =>
    intro j
    by_cases h : (t.find (cycAt i j)).isSome = true
    · obtain ⟨m, h1, h2, h3, h4⟩ := ih (j + 1)
      refine ⟨m + 1, by omega, ?_, ?_, ?_⟩
      · rw [freeIndex, if_pos h, ← cycAt_succ, h2]; congr 1; omega
      · intro k hk
        cases k with
        | zero => exact h
        | succ k => have := h3 k (by omega); rwa [show j + (k + 1) = j + 1 + k by omega]
      · rcases h4 with h4 | h4
        · exact .inl (by omega)
        · exact .inr (by rwa [show j + (m + 1) = j + 1 + m by omega])
    · refine ⟨0, by omega, by rw [freeIndex, if_neg h]; rfl, fun k h => absurd h (Nat.not_lt_zero _), .inr ?_⟩
      simpa using h

theorem Tab.find_mem {α : Type} : ∀ (t : Tab α) (k : Nat), (Tab.find t k).isSome = true → k ∈ t.map Prod.fst
  | [], _, h => by simp [Tab.find] at h
  | (a, v) :: t, k, h => by
    by_cases e : a = k
    · simp [e]
    · simp only [Tab.find, if_neg e] at h
      simp [Tab.find_mem t k h]

/-- The search for a free slot finds one while there is one (09 R345). -/
theorem freeIndex_free (t : Tab KSlot) (i : Nat) (h : t.length < 2097151) (h1 : 1 ≤ i) (h2 : i ≤ 2097151) :
    t.find (freeIndex t t.length i) = none ∧ 1 ≤ freeIndex t t.length i ∧ freeIndex t t.length i ≤ 2097151 := by
  obtain ⟨m, a, b, c, d⟩ := freeIndex_at t i t.length 0
  have e : cycAt i 0 = i := by unfold cycAt; omega
  rw [e] at b
  rw [b]
  refine ⟨?_, by unfold cycAt; omega, by unfold cycAt; omega⟩
  rcases d with d | d
  · by_contra hn
    have hs : (t.find (cycAt i (0 + m))).isSome = true := by
      cases hq : t.find (cycAt i (0 + m)) with
      | none => exact absurd hq hn
      | some _ => rfl
    have hsub : ((List.range (m + 1)).map (cycAt i)) ⊆ t.map Prod.fst := by
      intro x hx
      obtain ⟨k, hk, rfl⟩ := List.mem_map.mp hx
      rw [List.mem_range] at hk
      apply Tab.find_mem
      by_cases hkm : k = m
      · subst hkm; simpa using hs
      · have := c k (by omega); simpa using this
    have hnd : ((List.range (m + 1)).map (cycAt i)).Nodup := by
      rw [List.nodup_map_iff_inj_on List.nodup_range]
      intro x hx y hy hxy
      rw [List.mem_range] at hx hy
      unfold cycAt at hxy
      omega
    have := (hnd.subperm hsub).length_le
    simp at this
    omega
  · exact d
/-! ### The key cache (09 R365) -/

/-- An eviction takes slots out of the cache and changes nothing else of them. -/
theorem makeRoom_slots (n : Nat) : ∀ (f : Nat) (s : State) (k : Nat),
    { (makeRoom n f s).kslot k with cached := (s.kslot k).cached } = s.kslot k
  | 0, _, _ => rfl
  | f + 1, s, k => by
    unfold makeRoom
    split
    · rfl
    · split
      · rfl
      · rename_i i hi
        have h := makeRoom_slots n f (s.withSlot i (fun k => { k with cached := false })) k
        rw [State.withSlot_kslot] at h
        by_cases hk : k = i
        · subst hk
          simp only [if_true] at h
          have := congrArg (fun x : KSlot => { x with cached := (s.kslot k).cached }) h
          exact this
        · rw [if_neg hk] at h; exact h

/-- A slot comes into the cache; others leave it at most. -/
theorem fillCache_kslot (s : State) (i k : Nat) :
    (k = i → { (fillCache s i).kslot k with cached := (s.kslot k).cached, loadedAt := (s.kslot k).loadedAt } = s.kslot k ∧
      ((fillCache s i).kslot k).cached = true) ∧
    (k ≠ i → { (fillCache s i).kslot k with cached := (s.kslot k).cached } = s.kslot k) := by
  have h := makeRoom_slots (s.kslot i).lines s.keys.slots.length s k
  unfold fillCache
  rw [State.withSlot_kslot]
  constructor
  · intro e; subst e; rw [if_pos rfl]
    exact ⟨congrArg (fun x : KSlot => { x with loadedAt := (s.kslot k).loadedAt }) h, rfl⟩
  · intro e; rw [if_neg e]; exact h

/-! ### Ends of jobs -/

/-- A job that ends below 0x5000 returns no use: the key store is as before. -/
theorem finish_keys (s : State) (id st : Nat) (out : Bytes) (tc : Nat) (h : st < 0x5000) : (finish s id st out tc).keys = s.keys := by
  unfold finish
  rw [show decide (0x5000 ≤ st) = false by simp; omega]
  simp only [onlyIf, Bool.false_eq_true, if_false, State.withJob]
  exact (releaseUnits_writes (wm := 2185254016) (Writes.refl _ s) (by decide)).keys (by decide)

/-! ### A key made for a job (09 R345, R353) -/

/-- A key with the attributes of a job's block is made for it, from a state with its jobs and key store. -/
theorem createKey_made {s u : State} (hj : u.jobs = s.jobs) (hk : u.keys = s.keys) (id cls : Nat) (mat pub : Bytes) (kb : Nat)
    (out : Bytes) (tc lane : Nat) (hc : allocCheck s (s.job id).part = 0) :
    ∃ i, KeyMade s (createKey u id (attrSlot (parseAttr (s.job id).opa) cls (s.job id).part mat kb pub) (fun _ => out) tc lane) id i cls mat out
      tc := by
  have hlen : s.keys.slots.length < 2097151 := by
    unfold allocCheck at hc
    split at hc
    · simp at hc
    · split at hc
      · simp at hc
      · omega
  have hf := freeIndex_free s.keys.slots (u.drawNat.1 % 2097151 + 1) hlen (by omega) (by omega)
  refine ⟨freeIndex s.keys.slots s.keys.slots.length (u.drawNat.1 % 2097151 + 1), ?_⟩
  have ha : allocKey u (attrSlot (parseAttr (s.job id).opa) cls (s.job id).part mat kb pub) =
      (freeIndex s.keys.slots s.keys.slots.length (u.drawNat.1 % 2097151 + 1), (allocKey u (attrSlot (parseAttr (s.job id).opa) cls (s.job id).part mat kb pub)).2) := by
    unfold allocKey
    simp only [show u.drawNat.2.keys = s.keys from hk]
  generalize hi : freeIndex s.keys.slots s.keys.slots.length (u.drawNat.1 % 2097151 + 1) = i at *
  generalize hs1 : (allocKey u (attrSlot (parseAttr (s.job id).opa) cls (s.job id).part mat kb pub)).2 = s1 at *
  have h1 : ∀ k, s1.kslot k = if k = i then { attrSlot (parseAttr (s.job id).opa) cls (s.job id).part mat kb pub with state := 1, index := i, gen := s.genOf i } else s.kslot k := by
    intro k
    subst hs1
    unfold allocKey
    simp only [show u.drawNat.2.keys = s.keys from hk, State.withKeys, State.kslot, hi, Tab.get_set, State.genOf]
  have hq : s1.keys.queues = s.keys.queues := by
    subst hs1; unfold allocKey; simp only [State.withKeys, show u.drawNat.2.keys = s.keys from hk]
  have hj1 : s1.jobs = s.jobs := by subst hs1; unfold allocKey; exact hj
  have hi1 := h1 i
  rw [if_pos rfl] at hi1
  cases hv : (parseAttr (s.job id).opa).vol with
  | true =>
    have hvol : (attrSlot (parseAttr (s.job id).opa) cls (s.job id).part mat kb pub).vol = true := hv
    have he : createKey u id (attrSlot (parseAttr (s.job id).opa) cls (s.job id).part mat kb pub) (fun _ => out) tc lane =
        finishWith ((fillCache s1 i).withSlot i (fun k => { k with state := 2, created := u.dtbNs })) id 0 (toLE 8 (handleOf i (s1.kslot i)) ++ out) tc lane 0 := by
      unfold createKey; rw [ha]; simp only [hvol, if_true]
    have hkk : ∀ k, (createKey u id (attrSlot (parseAttr (s.job id).opa) cls (s.job id).part mat kb pub) (fun _ => out) tc lane).kslot k =
        ((fillCache s1 i).withSlot i (fun k => { k with state := 2, created := u.dtbNs })).kslot k := by
      intro k; rw [he]; exact State.kslot_congr (finish_keys _ _ _ _ _ (by decide)) k
    have hf1 := (fillCache_kslot s1 i i).1 rfl
    have hki := hkk i
    rw [State.withSlot_kslot, if_pos rfl] at hki
    have hfin := finishWith_ended ((fillCache s1 i).withSlot i (fun k => { k with state := 2, created := u.dtbNs })) id 0
      (toLE 8 (handleOf i (s1.kslot i)) ++ out) tc lane 0
    have e1 := hf1.1
    rw [hi1] at e1
    generalize (fillCache s1 i).kslot i = X at *
    have hx : X = { attrSlot (parseAttr (s.job id).opa) cls (s.job id).part mat kb pub with
        state := 1, index := i, gen := s.genOf i, cached := X.cached, loadedAt := X.loadedAt } := by
      have := congrArg (fun y : KSlot => { y with cached := X.cached, loadedAt := X.loadedAt }) e1
      exact this
    rw [hx] at hki
    refine ⟨hf.2.1, hf.2.2, hf.1, by rw [hki], by rw [hki]; rfl, by rw [hki]; rfl, by rw [hki]; rfl, by rw [hki]; rfl, by rw [hki]; rfl,
      by rw [hki]; rfl, by rw [hki]; rfl, by rw [hki]; rfl, by rw [hki]; rfl, by rw [hki]; rfl, ?_, ?_, ?_, ?_, ?_⟩
    · intro k hk'
      rw [hkk k, State.withSlot_kslot, if_neg hk']
      have := (fillCache_kslot s1 i k).2 hk'
      rw [h1 k, if_neg hk'] at this
      exact this
    · rw [hki, he, hfin.1.1.2.2.2, hi1]; rfl
    · rw [he]; exact hfin.1.1.2.2.1
    · intro _; exact ⟨by rw [hki], by rw [he]; exact hfin.1.1.1, by rw [he]; exact hfin.1.1.2.1⟩
    · intro h; rw [hv] at h; cases h
  | false =>
    have hvol : (attrSlot (parseAttr (s.job id).opa) cls (s.job id).part mat kb pub).vol = false := hv
    have hrk : (releaseUnits s1 id).keys = s1.keys := (releaseUnits_writes (wm := 2185254016) (Writes.refl _ s1) (by decide)).keys (by decide)
    have he : createKey u id (attrSlot (parseAttr (s.job id).opa) cls (s.job id).part mat kb pub) (fun _ => out) tc lane =
        (queueCommit (releaseUnits s1 id) 1 (s.job id).part (some id) i 0 []).withJob id (fun j => { j with
          phase := .waitCommit, out := toLE 8 (handleOf i (s1.kslot i)) ++ out, timeClass := tc, lane := lane }) := by
      unfold createKey; rw [ha]; simp only [hvol, Bool.false_eq_true, if_false]; rfl
    have hkk : ∀ k, (createKey u id (attrSlot (parseAttr (s.job id).opa) cls (s.job id).part mat kb pub) (fun _ => out) tc lane).kslot k =
        if k = i then { s1.kslot i with jseq := s1.keys.jseq + 1 } else s1.kslot k := by
      intro k; rw [he]
      simp only [State.kslot, State.withJob, queueCommit, State.withKeys, hrk, Tab.get_upd, Nat.reduceEqDiff, if_false]
    have hki := hkk i
    rw [if_pos rfl, hi1] at hki
    refine ⟨hf.2.1, hf.2.2, hf.1, by rw [hki], by rw [hki]; rfl, by rw [hki]; rfl, by rw [hki]; rfl, by rw [hki]; rfl, by rw [hki]; rfl,
      by rw [hki]; rfl, by rw [hki]; rfl, by rw [hki]; rfl, by rw [hki]; rfl, by rw [hki]; rfl, ?_, ?_, ?_, ?_, ?_⟩
    · intro k hk'
      rw [hkk k, if_neg hk', h1 k, if_neg hk']
    · rw [hki, he]; simp only [State.withJob_job, if_true, hi1]; rfl
    · rw [he]; simp only [State.withJob_job, if_true]
    · intro h; rw [hv] at h; cases h
    · intro _
      refine ⟨by rw [hki], by rw [he]; simp only [State.withJob_job, if_true], ?_⟩
      rw [he]
      simp only [State.withJob, queueCommit, State.withKeys, hrk, Tab.get_upd, if_true, hq]
      simp

end Sys2Proof.Machine
end

