-- ==== Sys2Proof/Laws/Shared.lean ====
section
/-! SUPPORT. Lemmas about the operations that commands share, for proofs to cite instead of unfolding them: teardown, modes, replies,
roles, change sets, squads, verb words. -/

namespace Sys2Proof.Machine

open Sys2Proof

/-- A partition torn down: its windows are cleared, and no other partition changes (03 R102). -/
theorem tearDown_parts (s : State) (p : Nat) : (tearDown s p).parts = s.parts.upd {} p (fun x => { x with windows := [], winVer := x.winVer + 1 }) := by
  unfold tearDown
  simp only [State.withMeter_parts, State.withLink_parts, State.withPart_parts]
  congr 1
  have h1 : ∀ u : State, ((List.range 8).foldl (fun s r => s.withRing p r (fun x => { x with
    enable := false, state := 0, refetch := [], chainSq := [], chainAt := [], barriers := [], heldSq := none, heldCq := none,
    reserved := 0 })) u).parts = u.parts := by
    intro u; exact (Writes.foldl (m := 512) (Writes.refl _ u) (fun v hv a => State.withRing_writes hv (by decide))).parts (by decide)
  rw [h1]
  have h2 : ∀ (l : List Nat) (u : State), (l.foldl dropJob u).parts = u.parts := by
    intro l u; exact (Writes.foldl (m := 3259028610) (Writes.refl _ u) (fun v hv a => dropJob_writes hv (by decide))).parts (by decide)
  rw [h2]
  exact (squashWhere_writes (wm := 1077941888) (Writes.refl _ s) (by decide)).parts (by decide)

/-- Its rings are disabled (03 R102). -/
theorem tearDown_rings (s : State) (p r : Nat) (hr : r < 8) : ((tearDown s p).ring p r).enable = false ∧ ((tearDown s p).ring p r).state = 0 := by
  unfold tearDown
  simp only [State.ring, State.withMeter_rings, State.withLink_rings, State.withPart_rings]
  generalize (List.foldl dropJob _ _) = u
  have : r = 0 ∨ r = 1 ∨ r = 2 ∨ r = 3 ∨ r = 4 ∨ r = 5 ∨ r = 6 ∨ r = 7 := by omega
  simp only [List.range, List.range.loop, List.foldl, State.withRing, Tab.upd, Tab.get_set, ringKey]
  rcases this with h | h | h | h | h | h | h | h <;> subst h <;> simp

/-- Its windows are cleared (03 R102). -/
theorem tearDown_windows (s : State) (p : Nat) : ((tearDown s p).part p).windows = [] := by
  simp [State.part, tearDown_parts, Tab.upd]

/-- What entering a mode leaves in the mode registers (18 R659). -/
theorem enterMode_mode (s : State) (m : Nat) (f : Bool) (c : Nat) :
    (enterMode s m f c).mode = { s.mode with code := modeCode m, phase := 0x5A5, previous := s.modeNum, trans := none } := by
  unfold enterMode
  have hr : ∀ u : State, (refreshTag u).mode = u.mode := fun u => (refreshTag_writes (wm := 134217728) (Writes.refl _ u) (by decide)).mode (by decide)
  have hn : ∀ (u : State) (k : Nat), (noteFlag u k).mode = u.mode := fun u k => (noteFlag_writes (wm := 32768) (Writes.refl _ u) (by decide)).mode (by decide)
  have hm : ∀ (u : State) (a b : Nat), (u.msix a b).mode = u.mode := fun u a b => (State.msix_writes (wm := 128) (Writes.refl _ u) (by decide)).mode (by decide)
  split <;> simp [hr, hn, hm]

/-- A reply with a status is the latest message (22 R781). -/
theorem answered_reply (s : State) (x : SessId) (msg : Nat) (req : BitVec 16) (st : Nat) (rest : Bytes) :
    Answered (replyStatus s x msg req st rest) x (statusReply msg req st rest) := by
  cases x with
  | mailbox =>
    have hm : ∀ (u : State) (a b : Nat), (u.msix a b).mgmt = u.mgmt := fun u a b => (State.msix_writes (wm := 128) (Writes.refl _ u) (by decide)).mgmt (by decide)
    simp [Answered, replyStatus, reply, hm, statusReply]
  | gap n => simp [Answered, replyStatus, reply, State.sess, State.withSess, statusReply]

/-- A reply changes no stored value of an entry. -/
theorem reply_gls (s : State) (x : SessId) (msg : Nat) (req : BitVec 16) (st : Nat) (rest : Bytes) :
    (replyStatus s x msg req st rest).gls = s.gls := by
  exact (replyStatus_writes (wm := 524416) (Writes.refl _ s) (by decide)).gls (by decide)

/-- A served write that passes Table 2 has its effect and answers OK (22 R765). -/
theorem actWrite_ok {s : State} {x : SessId} {req : BitVec 16} {key : Nat} {v : Bytes} {c b : Bool} {f : State → State}
    (h : Served s x req) (hc : writeCheck s x key v c b = 0) :
    actWrite s x req key v c b f = .next (replyStatus (f s) x 0x11 req 0 []) := by
  simp [actWrite, onMsg, h.1, h.2, hc]

/-- Two changes beside one ring compose. -/
theorem sb_trans {s t u : State} {p r : Nat} (h : t.sameBesideRing s p r) (k : u.sameBesideRing t p r) : u.sameBesideRing s p r := by
  refine ⟨fun p' r' hh => (k.1 p' r' hh).trans (h.1 p' r' hh), ?_⟩
  have h1 := h.2; have h2 := k.2
  have := congrArg (fun x : State => { x with rings := s.rings }) h2
  exact Eq.trans this h1

/-- A command on a job on its squads acts. -/
theorem onSquad_eq {s : State} {id op : Nat} (h : OnSquads s id op) (f : State → State) : onSquad s id op f = .next (f s) := by
  obtain ⟨h1, h2, h3, h4, h5⟩ := h
  have hs : runSlice s id f = f s := by
    unfold runSlice
    by_cases hr : randomOp (s.job id).d = true <;> rcases h4 with h4 | h4
    · simp [h1, h4, h5 hr]
    · simp [h1, h4, h5 hr]
    · simp [h4, hr]
    · simp [h4, hr]
  cases hq : (s.job id).squads with
  | nil => exact absurd hq h2
  | cons a l => simp [onSquad, h1, hq, h3, hs]

/-- A failed validation ends the job (05 R227). -/
theorem failValid_invalid (s : State) (id st : Nat) (h : chargeless st = false) : Invalid s (failValid s id st) id st := by
  have e := finishWith_ended s id st [] 2 (32 * jobV s (s.job id)) 0
  simp only [h, Bool.false_eq_true, if_false] at e
  exact e

/-- A job that passes ends OK (06 R243). -/
theorem passJob_passed (s : State) (id : Nat) (out : Bytes) (tc b : Nat) : Passed s (passJob s id out tc b) id out tc b :=
  finishWith_ended s id 0 out tc (32 * jobCycles s (s.job id).d b) 0

/-- The later of two writes of a key stands. -/
theorem Tab.set_set {α : Type} : ∀ (t : Tab α) (i : Nat) (v w : α), Tab.set (Tab.set t i v) i w = Tab.set t i w
  | [], i, v, w => by simp [Tab.set]
  | (k, x) :: t, i, v, w => by
    unfold Tab.set
    by_cases h : k = i
    · simp [h, Tab.set]
    · by_cases h2 : i < k
      · simp [h, h2, Tab.set]
      · simp [h, h2, Tab.set, Tab.set_set t i v w]

/-- Two changes of one unit compose. -/
theorem State.withUnit_withUnit (s : State) (u : Nat) (f g : VUnit → VUnit) :
    (s.withUnit u f).withUnit u g = s.withUnit u (fun x => g (f x)) := by
  simp [State.withUnit, State.withVerb, Tab.upd, Tab.set_set]

/-- With no asynchronous event due, nothing is taken. -/
theorem takeAsync_none {t : State} {u : Nat} (h : nextAsync (t.unit u) = none) : takeAsync t u = t := by
  unfold takeAsync
  simp [h]

/-- A word that completes at a unit that runs. -/
theorem runVerb_done {s t : State} {u len : Nat} {body : VUnit → State → VRes} (h : Runs s u len)
    (hb : body (s.unit u) (s.withRegs u (fun r => r.setPc (r.pc + BitVec.ofNat 20 len))) = .done t)
    (ht : nextAsync (t.unit u) = none) : runVerb s u len body = t := by
  obtain ⟨h1, h2, h3, h4, h5, h6⟩ := h
  unfold runVerb
  have hl : land (s.unit u) = s.unit u := by simp [land, h5]
  simp only [h1, h2, h3, h4]
  rw [hl]
  have e : (s.withUnit u fun _ => (s.unit u).withR fun r => r.setPc ((s.unit u).r.pc + BitVec.ofNat 20 len)) =
    s.withRegs u (fun r => r.setPc (r.pc + BitVec.ofNat 20 len)) := rfl
  rw [e, hb]
  simpa using takeAsync_none ht

/-- Registers raise no asynchronous event. -/
theorem nextAsync_withR (x : VUnit) (f : VRegs → VRegs) (h : nextAsync x = none) : nextAsync (x.withR f) = none := by
  unfold nextAsync at *
  unfold VUnit.withR
  revert h
  cases x.pendLock <;> cases x.pendSup <;> cases x.pendDev <;> simp

/-- A word that changes registers alone. -/
theorem runs_regs {s : State} {u len : Nat} (h : Runs s u len) (f : VRegs → VRegs → VRegs) :
    runVerb s u len (onRegs u f) = s.withRegs u (fun r => f r (r.setPc (r.pc + BitVec.ofNat 20 len))) := by
  refine runVerb_done h (t := _) ?_ ?_
  · simp only [onRegs, State.withRegs, State.withUnit_withUnit]
    rfl
  · simp only [State.withRegs, State.unit_withUnit]
    exact nextAsync_withR _ _ h.2.2.2.2.2

/-- An immediate word with up to three extensions is no reserved sequence. -/
theorem imm_ok (sq : Bool) (pre : List (BitVec 12)) (h : pre.length ≤ 3) (op : Nat) (ho : op ≤ 5) (dd : Fin 8) (imm : BitVec 5) :
    sequenceReserved sq pre (wordImm op dd.val imm.toNat) = false := by
  have hi : imm.toNat < 32 := imm.isLt
  have hd := dd.isLt
  have h1 : wordImm op dd.val imm.toNat / 2048 = 2 := by unfold wordImm; omega
  have h2 : wordImm op dd.val imm.toNat / 256 % 8 = op := by unfold wordImm; omega
  have h3 : ¬ 12288 ≤ wordImm op dd.val imm.toNat := by unfold wordImm; omega
  unfold sequenceReserved
  rw [if_neg h3]
  have h4 : wordReserved sq (wordImm op dd.val imm.toNat) = false := by unfold wordReserved; simp only [h1]
  have h5 : takesPrefix (wordImm op dd.val imm.toNat) = true := by unfold takesPrefix; rw [h1]; simp [h2, ho]
  rw [h4, h5]
  simp
  intro _; omega

/-- Free octets have the length asked for. -/
theorem drawBytes_len (s : State) (n : Nat) : (s.drawBytes n).1.length = n := by simp [State.drawBytes, fit]

/-- A reply is the latest message (22 R781). -/
theorem answered_gen (s : State) (x : SessId) (msg : Nat) (req : BitVec 16) (b : Bytes) :
    Answered (reply s x msg req b) x (message msg req.toNat b) := by
  cases x with
  | mailbox =>
    have hm : ∀ (u : State) (a b : Nat), (u.msix a b).mgmt = u.mgmt := fun u a b => (State.msix_writes (wm := 128) (Writes.refl _ u) (by decide)).mgmt (by decide)
    simp [Answered, reply, hm]
  | gap n => simp [Answered, reply, State.sess, State.withSess]

/-- A served message whose role suffices has its effect. -/
theorem onRole_ok {s : State} {x : SessId} {req : BitVec 16} {msg : Nat} {may : Nat → Bool} {f : State → State}
    (h : Served s x req) (hm : may (s.sess x).role = true) : onRole s x req msg may f = .next (f s) := by
  simp [onRole, onMsg, h.1, h.2, hm]

/-- What a reply leaves in the mailbox session. -/
theorem reply_mb (s : State) (msg : Nat) (req : BitVec 16) (st : Nat) (rest : Bytes) :
    (replyStatus s .mailbox msg req st rest).mgmt.mbox = { s.mgmt.mbox with lastAt := s.now } := by
  have hm : ∀ (u : State) (a b : Nat), (u.msix a b).mgmt = u.mgmt := fun u a b => (State.msix_writes (wm := 128) (Writes.refl _ u) (by decide)).mgmt (by decide)
  simp [replyStatus, reply, hm]

/-- A reply starts no interval of R767. -/
theorem reply_rwpAt (s : State) (x : SessId) (msg : Nat) (req : BitVec 16) (st : Nat) (rest : Bytes) :
    (replyStatus s x msg req st rest).mgmt.rwpAt = s.mgmt.rwpAt := by
  have hm : ∀ (u : State) (a b : Nat), (u.msix a b).mgmt = u.mgmt := fun u a b => (State.msix_writes (wm := 128) (Writes.refl _ u) (by decide)).mgmt (by decide)
  cases x <;> simp [replyStatus, reply, hm, State.withSess]

/-- A reply keeps selectors and draft. -/
theorem reply_sess (s : State) (x : SessId) (msg : Nat) (req : BitVec 16) (st : Nat) (rest : Bytes) :
    ((replyStatus s x msg req st rest).sess x).sel = (s.sess x).sel ∧ ((replyStatus s x msg req st rest).sess x).draft = (s.sess x).draft := by
  have hm : ∀ (u : State) (a b : Nat), (u.msix a b).mgmt = u.mgmt := fun u a b => (State.msix_writes (wm := 128) (Writes.refl _ u) (by decide)).mgmt (by decide)
  cases x <;> simp [replyStatus, reply, hm, State.withSess, State.sess]

/-- A notification of a set keeps slots and credentials. -/
theorem csNote_slots (s : State) (x : ChangeSet) (n : Nat) (c : BitVec 12) : (csNote s x n c).mgmt.slots = s.mgmt.slots ∧ (csNote s x n c).mgmt.creds = s.mgmt.creds := ⟨rfl, rfl⟩

/-- A reply keeps the change sets. -/
theorem reply_slots (s : State) (x : SessId) (msg : Nat) (req : BitVec 16) (st : Nat) (rest : Bytes) :
    (replyStatus s x msg req st rest).mgmt.slots = s.mgmt.slots := by
  have hm : ∀ (u : State) (a b : Nat), (u.msix a b).mgmt = u.mgmt := fun u a b => (State.msix_writes (wm := 128) (Writes.refl _ u) (by decide)).mgmt (by decide)
  cases x <;> simp [replyStatus, reply, hm, State.withSess]

/-- Restored staging banks keep the management state. -/
theorem restore_mgmt (s : State) (l : List Nat) : (restoreStaging s l).mgmt = s.mgmt :=
  (restoreStaging_writes (wm := 65536) (Writes.refl _ s) (by decide)).mgmt (by decide)

/-- A set made FREE: its slot alone changes (22 R796). -/
theorem freeSet_slots (s : State) (k f r : Nat) :
    (freeSet s k f r).mgmt.slots = Tab.set s.mgmt.slots k { s.cset k with code := 0x356, final := f, reason := r } := by
  unfold freeSet
  simp only [csNote_slots]
  have h : (if f = 0 ∨ (setGuards (Tab.get {} s.mgmt.slots k)).isEmpty = true then s
      else (restoreStaging s (setGuards (Tab.get {} s.mgmt.slots k))).gset gGuardCommitState 0xFC0).mgmt = s.mgmt := by
    split
    · rfl
    · exact restore_mgmt _ _
  split <;> simp only [State.bump, State.bumpBys, State.gsets, State.withMgmt, h] <;> rfl

/-- Equal slots hold equal sets. -/
theorem cset_slots {s t : State} (h : t.mgmt.slots = s.mgmt.slots) (k : Nat) : t.cset k = s.cset k := by simp [State.cset, h]

/-- A GAP event record keeps the management state. -/
theorem gapEvent_mgmt (s : State) (a b : Nat) : (gapEvent s a b).mgmt = s.mgmt :=
  (gapEvent_writes (wm := 34) (Writes.refl _ s) (by decide)).mgmt (by decide)

/-- A card that is gone (23 R807). -/
theorem tokGone_card (s : State) (g : TokStage) (n : Nat) : (tokGone s false g n).appr.card = { stage := g, counter := s.appr.card.counter } ∧ (tokGone s false g n).appr.badge = s.appr.badge := by
  unfold tokGone
  simp only [State.tok]
  cases hq : s.appr.req with
  | none => exact ⟨rfl, rfl⟩
  | some r =>
    simp only []
    by_cases h1 : r.badge ≠ false
    · simp only [if_pos h1]; exact ⟨rfl, rfl⟩
    · simp only [if_neg h1]
      simp only [Bool.false_eq_true, if_false]
      by_cases h2 : s.appr.card.stage = TokStage.approve
      · simp only [if_pos h2]; exact ⟨rfl, rfl⟩
      · simp only [if_neg h2]; exact ⟨rfl, rfl⟩

end Sys2Proof.Machine
end

