-- ==== Sys2Proof/Tests/Slice0.lean ====
section
/-! SUPPORT. The model's own tests: ill-formed terms that WellFormed refuses, single steps on small states, and for every statement with
hypotheses states and operands that meet them, clause by clause. -/

set_option Elab.async false

namespace Sys2Proof.Tests

open Sys2Proof Sys2Proof.Machine

/-! ### Small states -/

/-- A module in a mode, every other field at reset. -/
def up (m : Nat) : State := { mode := { code := modeCode m } }

/-- A module in SERVE. -/
def serve : State := up 3

/-- A module in SERVE with one job. -/
def withJob (j : Job) : State := { serve with jobs := [(1, j)] }

/-- VF 1 enabled with a TDI in a state, SPDM session 1 held, IDE stream 1 secure over it. -/
def locked (k : Nat) : State :=
  { serve with
    parts := [(1, { enabled := true, tdi := ⟨k, 1⟩ })]
    link := { vfEnable := true, numVfs := 1, spdm := [(1, {})], ide := [(1, { sets := [(0, ⟨[1], [2]⟩)], lo := 1, hi := 1, secure := true })] } }

/-! ### Witnesses: block, link, functions, protection, supplies -/

/-- StepRunsFrontCommand: a command in front of another. -/
theorem witness_StepRunsFrontCommand : ({ State.reset with pending := [.cut, .assayDone] } : State).pending = .cut :: [.assayDone] := by decide

/-- EveryCommandCompletesInOrder. -/
theorem witness_EveryCommandCompletesInOrder : ({ State.reset with pending := [.cut] } : State).pending = .cut :: [] := by decide

/-- EveryStepKeepsTheInvariant: the state after reset with a command waiting meets the invariant, and its step answers. -/
theorem witness_EveryStepKeepsTheInvariant :
    ({ State.reset with pending := [.cut] } : State).Inv ∧ step { State.reset with pending := [.cut] } = .next State.reset :=
  ⟨⟨by decide, by decide⟩, rfl⟩

/-- CommandsChangeListedFieldsAlone: a write of NumVFs answers, and its list does not name the mode. -/
theorem witness_CommandsChangeListedFieldsAlone :
    exec (.numvfsWrite 4) State.reset = .next State.reset ∧ Field.mode ∉ fieldsChanged (.numvfsWrite 4) :=
  ⟨rfl, by decide⟩

/-- LinkEventsSetTheLinkAlone. -/
theorem witness_LinkEventsSetTheLinkAlone :
    (serve.mainUp = true ∧ serve.link.state = .down) ∧
    (({ serve with link := { state := .l0 } } : State).link.state = .l0 ∧ linkOk 1 2 = true ∧ linkOk 16 128 = true) ∧
    (({ serve with link := { state := .recovery } } : State).link.state = .recovery ∧ serve.link.heldPosts = [] ∧ serve.meter.md = [] ∧
      serve.link.d3hot = false) ∧
    ({ serve with link := { state := .l0, d3hot := true } } : State).link.d3hot = true := by decide

/-- FunctionsEnableAndReset and NumVfsAndVfEnable. -/
theorem witness_FunctionsEnableAndReset :
    (serve.mainUp = true ∧ serve.link.vfEnable = false ∧ 1024 ≤ 1024) ∧ (locked 0).link.vfEnable = true ∧
    ((1 : Nat) ≠ 0 ∧ ((locked 0).part 1).enabled = true) ∧ (serve.part 1).enabled = false ∧
    ({ serve with power := { perst := false } } : State).power.perst = false := by decide

/-- IdeAndTdispStates. -/
theorem witness_IdeAndTdispStates :
    ((locked 0).mainUp = true ∧ (locked 0).link.spdm ≠ [] ∧ (locked 0).parts.keysWith (fun x => x.tdi.state == 1 || x.tdi.state == 2) = []) ∧
    (((locked 2).part 1).tdi.state = 2 ∧ carrier ((locked 2).withIde 1 (fun x => { x with sets := x.sets.set 0 ⟨[], []⟩, lo := 2, hi := 1024 })) 1 ≠
      some ((locked 2).part 1).tdi.stream) ∧
    ((locked 0).ideStream 1).sets.find 0 = some ⟨[1], [2]⟩ ∧
    (((locked 0).link.ide.find 1).isSome = true ∧
      (locked 0).parts.keysWith (fun x => (x.tdi.state == 1 || x.tdi.state == 2) && x.tdi.stream == 1) = []) ∧
    (((locked 0).part 1).enabled = true ∧ ((locked 0).part 1).tdi.state = 0 ∧ carrier (locked 0) 1 = some 1) ∧
    ((locked 3).part 1).tdi.state ≠ 0 ∧ ((locked 1).part 1).tdi.state = 1 ∧ ((locked 2).part 1).tdi.state = 2 := by decide

/-- BarAccessesAndDoe: an odd size, an odd address, both ends of the bytes of VF 1's table. -/
theorem witness_BarAccessesAndDoe :
    (serve.mainUp = true ∧ (2 ≠ 4 ∧ 2 ≠ 8) ∧ 2 % 4 ≠ 0) ∧
    (((locked 0).part 1).enabled = true ∧ 0xA000 ≤ 0xA000 ∧ 0xA07C + 4 ≤ 0xA080 ∧ 0xA07C % 4 = 0) ∧
    ((locked 0).part 1).tdi.state = 0 ∧ ((locked 3).part 1).tdi.state = 3 ∧ ((locked 3).part 1).enabled = true ∧
    (serve.part 1024).enabled = false := by decide

/-- SuppliesSetTheMode. -/
theorem witness_SuppliesSetTheMode :
    (up 0).hostSupply = false ∧
    ((up 1).modeNum = 1 ∧ (up 1).mode.noImage = false ∧ (up 1).mode.changeover = none ∧ (up 1).life.change = none) ∧
    (let s : State := { serve with power := { main12 := true, aux33 := true } }
     s.power.main12 = true ∧ s.mainUp = true ∧ s.power.aux33 = true ∧ s.hostSupply = true) ∧
    (let s : State := { serve with power := { main12 := true } }
     s.power.main12 = true ∧ s.power.aux33 = false) ∧
    (serve.modeNum = 3 ∧ serve.isLean = false) ∧ serve.hostSupply = true := by decide

/-! ### Witnesses: modes, time, channels, administrative jobs -/

/-- The mailbox busy with a request, by a role, in a mode. -/
def mail (m role : Nat) : State := { up m with islands := [(229, ⟨0⟩)], mgmt := { busy := true, mbox := { role := role } } }

/-- A module whose islands are all in service. -/
def allUp (m : Nat) : State := { up m with islands := (List.range 244).map (fun n => (n, ⟨0⟩)) }

/-- ModesHandshakeAndTests, first clause: ASSAY complete in a module that keeps its Key Root. -/
theorem witness_ModesHandshakeAndTests_assay :
    let s : State := { allUp 2 with mode := { code := modeCode 2, assayRun := true }, power := { perst := false }, tamper := { rootHeld := true, root := [], rootCheck := checkOf [] } }
    s.modeNum = 2 ∧ s.mode.assayRun = true ∧ s.power.perst = false ∧ commitsLeft s = false ∧ unitsServe s = true ∧
      s.tamper.rootHeld = true ∧ s.tamper.rootCheck = checkOf s.tamper.root ∧ s.gv gBootRootDue = 0 ∧ auxAbsent s = false ∧
      s.gv gModeTarget = 3 := by
  refine ⟨by decide, by decide, by decide, by decide, by decide, by decide, rfl, by decide, by decide, by decide⟩

/-- ModesHandshakeAndTests: the handshake, the operator's writes, the tests of squads. -/
theorem witness_ModesHandshakeAndTests :
    (let s : State := { serve with mode := { code := modeCode 3, trans := some { target := 4, waiting := [140, 200] } } }
     s.mode.trans = some { target := 4, waiting := [140, 200] } ∧ 140 ∈ [140, 200] ∧ [140, 200].filter (fun n => n != 140) ≠ [] ∧
       s.mode.waiting = none) ∧
    (let s : State := { serve with mode := { code := modeCode 3, trans := some { target := 7, waiting := [140] } } }
     s.mode.trans = some { target := 7, waiting := [140] } ∧ s.mode.waiting = none ∧ Tab.get 0 [] 140 + usTicks 20 ≤
       ({ s with clock := { ticks := usTicks 20 } } : State).now ∧ s.now < Tab.get 0 [] 140 + usTicks 20 ∧
       Tab.get 0 [(140, 254)] 140 + 1 ≤ 255) ∧
    (let s : State := { serve with mode := { code := modeCode 3, trans := some { target := 4, delayed := [140] } } }
     s.mode.trans = some { target := 4, delayed := [140] } ∧ 140 ∈ [140] ∧ Tab.get 0 [] 140 ≤ s.now ∧ s.now < Tab.get 0 [(140, 1)] 140) ∧
    (Served (mail 3 2) .mailbox 7 ∧ writeCheck (mail 3 2) .mailbox 0x110005 [4] true false = 0) ∧
    (Served (mail 7 3) .mailbox 7 ∧ (mail 7 3).modeNum = 7 ∧ writeCheck (mail 7 3) .mailbox 0x11000A [1] true false = 0) ∧
    (let s : State := { up 7 with mode := { code := modeCode 7, serviceAt := some 0 }, clock := { ticks := secTicks 14400 } }
     s.modeNum = 7 ∧ s.mode.serviceAt = some 0 ∧ 0 + secTicks (s.gv gModeServiceLimit) ≤ s.now) ∧
    (let s : State := { serve with lanes := { squads := [(31, { patrolDue := true })] } }
     31 < 32 ∧ s.serving = true ∧ (s.squad 31).mode = 0 ∧ patrolIsDue s 31 = true ∧ selftestFree s 31 = true) ∧
    (let s : State := { serve with lanes := { squads := [(31, { mode := 3 })], selfTest := some 31 } }
     s.lanes.selfTest = some 31 ∧ (s.squad 31).mode = 3 ∧ (s.squad 31).slots = [] ∧ (s.squad 31).gang = none) := by
  unfold Served; decide

/-- DeviceTimeAndPtm: an exchange at its limit of 1 ms, holdover after exactly 100 ms and 3,600 s. -/
theorem witness_DeviceTimeAndPtm :
    (let s : State := { serve with clock := { ptmEnable := true }, link := { state := .l0 } }
     s.clock.ptmEnable = true ∧ s.mainUp = true ∧ s.link.state = .l0 ∧ s.clock.ptmOut = none ∧ s.clock.ptmSlot ≠ some (ptmPeriod s)) ∧
    (let s : State := { serve with clock := { ptmEnable := true, ptmSlot := some 0 }, link := { state := .l0 } }
     s.clock.ptmSlot = some (ptmPeriod s)) ∧
    (let s : State := { serve with clock := { ptmOut := some (1, 5), ticks := msTicks 1 } }
     s.clock.ptmOut = some (1, 5) ∧ s.now < 1 + msTicks 1) ∧
    (let s : State := { serve with clock := { ptmOut := some (0, 5), ticks := msTicks 1 } }
     s.clock.ptmOut = some (0, 5) ∧ s.now ≤ 0 + msTicks 1 ∧ s.clock.lastValid = none ∧ s.clock.anchored = false ∧ s.clock.discRun < 99) ∧
    (let s : State := { serve with clock := { ptmOut := some (400, 4294967296000), ticks := 400, lastValid := some (0, 0), anchored := true, tstate := 0 } }
     s.clock.ptmOut = some (400, 4294967296000) ∧ s.now ≤ 400 + msTicks 1 ∧ exchangeValid s.clock 400 4294967296000 4294967296000 = true ∧
       s.clock.anchored = true ∧ s.clock.tstate = 0 ∧ s.clock.anchorLost = false) ∧
    (let s : State := { serve with clock := { tstate := 0, lastValid := some (0, 0), ticks := msTicks 100 } }
     s.clock.tstate = 0 ∧ s.clock.lastValid = some (0, 0) ∧ 0 + msTicks 100 ≤ s.now) ∧
    (let s : State := { serve with clock := { tstate := 1, ticks := secTicks 3600 } }
     s.clock.tstate = 1 ∧ s.clock.holdoverAt + secTicks 3600 ≤ s.now) ∧
    (up 1).hostSupply = true ∧
    (serve.pending = [] ∧ serve.clock.stSub + 1 < ticksPerSt ∧ 0 ≤ 2 ^ 48 + serve.clock.rate ∧ serve.clock.resid < 2 ^ 48) := by decide

/-- The source or destination of a descriptor: one line of 64 bytes. -/
def src64 (a : Nat) : Nat := a * 2 ^ 384 + 2 ^ 224 + 64 * 2 ^ 176
def dst64 (a : Nat) : Nat := a * 2 ^ 448 + 2 ^ 240 + 64 * 2 ^ 200

/-- System channel 511 with one descriptor in a queue of one entry, as core 0x803 before the first guard epoch. -/
def chan511 (v : Nat) : State :=
  { serve with
    mem := Mem.write 0 [] 0 (toLE 64 v)
    dma := { chans := [(511, { cqBase := 64, entries := 1, state := 1, tail := 1, owner := 0x803 })] } }

/-- COPY, FILL, COMPARE_CONST and COMPARE_BUF descriptors of one line of 64 bytes. -/
theorem witness_DmaOperations_copy :
    DmaTurn (chan511 (src64 0x1000 + dst64 0x2000 + 2 ^ 12)) 511 0 ∧
      (headDesc (chan511 (src64 0x1000 + dst64 0x2000 + 2 ^ 12)) 511).src.inModule = true ∧
      (headDesc (chan511 (src64 0x1000 + dst64 0x2000 + 2 ^ 12)) 511).dst.inModule = false ∧
      (headDesc (chan511 (src64 0x1000 + dst64 0x2000 + 2 ^ 12)) 511).dst.lines = 1 ∧
      (headDesc (chan511 (src64 0x1000 + dst64 0x2000 + 2 ^ 12)) 511).xform = 0 := by unfold DmaTurn; decide +kernel
theorem witness_DmaOperations_fill :
    DmaTurn (chan511 (dst64 0x2000 + 1)) 511 1 ∧ (headDesc (chan511 (dst64 0x2000 + 1)) 511).dst.lines = 1 := by
  unfold DmaTurn; decide +kernel
theorem witness_DmaOperations_compare :
    DmaTurn (chan511 (src64 0x1000 + 2)) 511 2 ∧ DmaTurn (chan511 (src64 0x1000 + dst64 0x2000 + 2 ^ 12 + 3)) 511 3 ∧
      ((chan511 0).chan 511).entries ≤ 4096 ∧
      Mem.wf 0 (chan511 (src64 0x1000 + 2)).mem = true ∧
      Mem.wf 0 (chan511 (src64 0x1000 + dst64 0x2000 + 2 ^ 12 + 3)).mem = true := by unfold DmaTurn; decide +kernel

/-- DmaOperations: channel control at both ends of the system class, tails of channel and flash queue. -/
theorem witness_DmaOperations :
    (384 ≤ 384 ∧ 511 < 512 ∧ serve.mainUp = true) ∧
    (let s : State := { serve with dma := { chans := [(384, { entries := 4096 })] } }
     (s.chan 384).state = 0 ∧ 1 ≤ (s.chan 384).entries ∧ (s.chan 384).entries ≤ 4096) ∧
    (let s : State := { serve with dma := { chans := [(384, { entries := 4096, state := 1 })] } }
     (s.chan 384).state = 1 ∧ (s.chan 384).cur = none ∧ 8191 < 8192 ∧ tailOk (s.chan 384).entries (s.chan 384).headN 4096 = true) ∧
    (let s : State := { serve with code := { queues := [(0, { entries := 4096, state := 1 })] } }
     flashQ (.code 0) = some (.code 0) ∧ (s.fqueue (.code 0)).state = 1 ∧ tailOk 4096 0 4096 = true) := by decide

/-- ReadBacksAndFailedReads. -/
theorem witness_ReadBacksAndFailedReads :
    (let s : State := { serve with dma := { chans := [(511, { cur := some {} })] } }
     s.mainUp = true ∧ (s.chan 511).cur = some {}) ∧
    (let s : State := { withJob { phase := .finished, out := [1], chan := some 383 } with link := { state := .l0 }, meter := { accepting := true } }
     (s.job 1).phase = .finished ∧ s.link.heldPosts.contains 1 = false ∧ (s.job 1).out ≠ [] ∧ (s.job 1).chan.isSome = true ∧ s.meter.accepting = true ∧
       (s.job 1).d.ordered = false) ∧
    (let s := withJob { phase := .finished, out := [1] }
     (s.job 1).out ≠ [] ∧ (s.job 1).chan = none ∧ s.mainUp = true) ∧
    (let s : State := { withJob { phase := .staged, d := { opcode := 0x0101, opaLen := 1 } } with
        link := { reads := [{ who := .job 1 }] }, clock := { ticks := msTicks 50 } }
     (s.job 1).phase = .staged ∧ operandBytes (s.job 1).d ≠ 0 ∧ s.link.ctoDisable = false ∧
       s.link.reads.any (fun h => h.who == .job 1) = true ∧ readDue s (.job 1) (ctoTicks s.link.ctoValue) = true) ∧
    (let s : State := { withJob { phase := .staged, d := { opcode := 0x0101, opaLen := 1 } } with
        link := { reads := [{ who := .job 1 }], ctoDisable := true }, clock := { ticks := secTicks 1 } }
     s.link.ctoDisable = true ∧ readDue s (.job 1) (secTicks 1) = true) := by decide

/-- A job of PF0 at its administrative turn, the link in L0, one VF enabled. -/
def adminAt (op : Nat) : State :=
  { withJob { phase := .admin, chan := some 0, d := { opcode := op } } with link := { state := .l0, numVfs := 1 }, parts := [(1, { enabled := true })] }

/-- AdministrativeJobs: blocks that pass and fail, a target at NumVFs and one above it. -/
theorem witness_AdministrativeJobs :
    (adminRead (adminAt 0x0801) 1 0x0801 = true ∧ windowCheck (adminAt 0x0801) 0 (15 + 2 ^ 8 + 2 ^ 128 * 4096) = 0 ∧
      windowCheck (adminAt 0x0801) 0 16 ≠ 0) ∧
    (((withJob { phase := .adminWait, d := { opcode := 0x0801 } }).job 1).phase = .adminWait ∧
      ∀ e ∈ (withJob { phase := .adminWait, d := { opcode := 0x0801 } }).jobs, e.1 = 1) ∧
    adminReady (adminAt 0x0802) 1 0x0802 = true ∧ adminReady (adminAt 0x0803) 1 0x0803 = true ∧
    adminReady (adminAt 0x0804) 1 0x0804 = true ∧ adminReady (adminAt 0x0805) 1 0x0805 = true ∧
    (((withJob { phase := .adminWait, n := 3, d := { opcode := 0x0805 } }).job 1).phase = .adminWait ∧
      (∀ e ∈ (withJob { phase := .adminWait, n := 3, d := { opcode := 0x0805 } }).jobs, 3 ≤ e.2.n)) ∧
    (adminRead (adminAt 0x0880) 1 0x0880 = true ∧ targetCheck (adminAt 0x0880) 1 = 0 ∧ targetCheck (adminAt 0x0880) 2 ≠ 0 ∧
      targetCheck (adminAt 0x0880) 0 ≠ 0 ∧ ((adminAt 0x0880).part 1).quiesced = false) ∧
    (let s : State := { adminAt 0x0880 with parts := [(1, { enabled := true, quiesced := true })] }
     (s.part 1).quiesced = true ∧ adminRead s 1 0x0880 = true) ∧
    (let s := withJob { phase := .adminWait, d := { opcode := 0x0880 }, waits := [1] }
     (s.job 1).phase = .adminWait ∧ ∀ p ∈ (s.job 1).waits, s.inFlight p = 0) ∧
    (adminRead (adminAt 0x0881) 1 0x0881 = true ∧ targetCheck (adminAt 0x0881) 1 = 0) ∧
    (adminRead (adminAt 0x0882) 1 0x0882 = true ∧ timeSetBusy (adminAt 0x0882) = false ∧ bits (2 ^ 32 - 1) 63 32 = 0 ∧ bits (2 ^ 32) 63 32 ≠ 0) ∧
    (let s := withJob { phase := .adminWait, d := { opcode := 0x0882 } }
     (s.job 1).d.opcode = 0x0882 ∧ ∀ h ∈ s.meter.closing, bit h.flags 3 = false) ∧
    (fetching (adminAt 0x0805) 0 0 = []) := by decide

/-! ### Witnesses: rings, intake, staging, dispatch, stream jobs -/

/-- PF0's ring 0 in a state, with entries, in SERVE and L0. -/
def ring0 (r : Ring) : State := { serve with rings := [(0, r)], link := { state := .l0 } }

/-- RingLife: indices at both ends of their range, on either side of each limit. -/
theorem witness_RingLife :
    (partOn (ring0 { entries := 1, cqBase := 64 }) 0 = true ∧ enableCheck (ring0 { entries := 1, cqBase := 64 }) 0 { entries := 1, cqBase := 64 } = 0 ∧
      ringsHeld (ring0 { entries := 1, cqBase := 64 }) 0 = false) ∧
    (((ring0 { entries := 4, state := 1 }).ring 0 0).state = 1 ∧ bits (4 : BitVec 32).toNat 16 0 < 2 * 4 ∧
      ((ring0 { entries := 4, state := 1 }).ring 0 0).diff 4 0 ≤ 4) ∧
    (4 < ((ring0 { entries := 4, state := 1 }).ring 0 0).diff 5 0 ∧ 2 * 4 ≤ bits (8 : BitVec 32).toNat 16 0 ∧
      bits (8 : BitVec 32).toNat 16 0 ≠ ((ring0 { entries := 4, state := 1 }).ring 0 0).sqTail) ∧
    ((ring0 { entries := 4, state := 1, cqN := 4 }).ring 0 0).diff ((ring0 { entries := 4, state := 1, cqN := 4 }).ring 0 0).cqTail 0 ≤ 4 ∧
    ringQuiet (ring0 { entries := 4, state := 1 }) 0 0 = true ∧ ((ring0 { state := 2 }).ring 0 0).state = 2 ∧
    ringQuiet (withJob {}) 0 0 = false ∧
    (let s : State := { withJob { phase := .running, d := { opcode := 0x0101 } } with rings := [(0, { entries := 4, state := 1 })] }
     partOn s 0 = true ∧ (s.ring 0 0).state = 1 ∧ s.jobs = [(1, { phase := .running, d := { opcode := 0x0101 } })]) := by decide

/-- RepeatedDoorbellHasNoEffect. -/
theorem witness_RepeatedDoorbellHasNoEffect :
    (((ring0 { entries := 4, state := 1, sqTail := 3 }).ring 0 0).state ≠ 3 ∧ bits (3 : BitVec 32).toNat 16 0 = 3) ∧
    (((locked 0).ring 1 0).state ≠ 3 ∧ ((locked 0).part 1).enabled = true ∧
      ((locked 0).part 1).tdi.state = 0 ∧ bits (0 : BitVec 32).toNat 16 0 = ((locked 0).ring 1 0).sqTail) ∧
    (partOn (ring0 { entries := 4, state := 3, heldSq := some 0 }) 0 = true ∧ 7 < 8 ∧
      ((ring0 { entries := 4, state := 3, heldSq := some 0 }).ring 0 0).state = 3 ∧
      ((ring0 { entries := 4, state := 3, heldSq := some 0 }).ring 0 0).heldSq = some ((ring0 { entries := 4, state := 3 }).ring 0 0).sqTail) := by
  decide

/-- Core 0 of intake in service, with a ring of PF0 that has two descriptors. -/
def intake0 (i : Intake) : State :=
  { ring0 { entries := 4, state := 1, sqTail := 2 } with islands := [(151, ⟨0⟩)], intake := [(0, i)] }

/-- IntakeAdmitsOrCompletes: a visit; a FENCE that passes its checks and an opcode that does not; a failed read; a freed context. -/
theorem witness_IntakeAdmitsOrCompletes :
    ((intake0 {}).serving = true ∧ (intake0 {}).link.state = .l0 ∧ ((intake0 {}).intake.get {} 0).held = false ∧
      ((intake0 {}).intake.get {} 0).out = none ∧ (intake0 {}).isl 151 < 2 ∧
      afterCyc (pendingParts (intake0 {}) 0) ((intake0 {}).intake.get {} 0).lastPart = some 0 ∧
      afterCyc ((List.range 8).filter (fun k => ((intake0 {}).ring 0 k).hasWork)) (((intake0 {}).intake.get {} 0).ringTurn.get 7 0) = some 0) ∧
    (((intake0 { out := some (0, 0, [0]) }).intake.get {} 0).out = some (0, 0, [0]) ∧
      chainMember ((intake0 { out := some (0, 0, [0]) }).ring 0 0) 0 (parseDesc 0x0805) = false ∧
      (intake0 { out := some (0, 0, [0]) }).jobs.find 0 = none ∧ intakeCheck (intake0 {}) 0 (parseDesc 0x0805) = 0 ∧
      canAlloc (intake0 {}) 0 = true ∧
      (intake0 {}).jobs.any (fun e => e.2.phase == .waitCtx && canAlloc (intake0 {}) e.2.part) = false) ∧
    (intakeCheck (intake0 {}) 0 (parseDesc 0) ≠ 0 ∧ (parseDesc 0).ordered = false ∧
      ({ intake0 {} with meter := { accepting := true } } : State).meter.accepting = true) := by decide +kernel

/-- IntakeAdmitsOrCompletes: one job waits for a context. -/
theorem witness_IntakeAdmitsOrCompletes_context :
    let s := withJob { phase := .waitCtx }
    afterCyc (if (waitingParts s).filter (fun p => decide (s.inFlight p < min (s.gvs gPartitionCap p) 32)) = [] then waitingParts s
      else (waitingParts s).filter (fun p => decide (s.inFlight p < min (s.gvs gPartitionCap p) 32))) s.disp.ctxPos = some 0 ∧
    (s.jobsWith (fun j => j.part == 0 && j.phase == .waitCtx)).head? = some 1 := by decide +kernel

/-- StagingReadsOperands: a channel for the only staged job; operands of the descriptor's lengths; a wait for randomness. -/
theorem witness_StagingReadsOperands :
    (let s : State := { withJob { phase := .staged, d := { opcode := 0x0101, opaLen := 1, opbLen := 1 } } with link := { state := .l0 } }
     s.jobs = [(1, { phase := .staged, d := { opcode := 0x0101, opaLen := 1, opbLen := 1 } })] ∧ orderBlocked s (s.job 1) = false ∧
       0 < operandBytes (s.job 1).d ∧ outstanding s < 4096 ∧ freeChannel s = some 0 ∧ 0 < s.gv gDmaPartitionChannels) ∧
    (let s : State := { withJob { phase := .staged, chan := some 0, d := { opcode := 0x0101, opaLen := 1, opbLen := 1 } } with link := { state := .l0 } }
     (s.job 1).phase = .staged ∧ (s.job 1).chan.isSome = true ∧ (zeros 8).length = (s.job 1).d.opaLen * lenUnit (s.job 1).d.opcode ∧
       (zeros 8).length = (s.job 1).d.opbLen * lenUnit (s.job 1).d.opcode ∧ orderBlocked s (s.job 1) = false) ∧
    (let s : State := { withJob { phase := .waitRng } with rng := { exps := [(0, { inst := true })] } }
     (s.job 1).phase = .waitRng ∧ rngTurn s (s.job 1).d.opcode = true) := by decide

/-- A READY modular multiplication of PF0 whose turn has come. -/
def ready1 : State :=
  { withJob { phase := .ready, d := { opcode := 0x0101, opaLen := 1, opbLen := 1 } } with disp := { deficit := [(0, 5)], granted := true } }

/-- DispatchPlacesJobs: an empty squad for a ready job, and a gang whose squads have drained. -/
theorem witness_DispatchPlacesJobs :
    (ready1.serving = true ∧ againJob ready1 = none ∧ readyJob ready1 0 = some 1 ∧
      isGang ready1 (ready1.job 1).d = false ∧ takesPark ready1 (ready1.job 1).d = false ∧
      (ready1.job 1).parkSlot = none ∧ (ready1.job 1).order = 0 ∧ slotKeyed (ready1.job 1).d = false ∧
      squadOk ready1 0 31 (ready1.job 1).avoid = true ∧ (ready1.squad 31).slots = [] ∧ operandsHeld (ready1.job 1) = true ∧
      operandsHeld { ready1.job 1 with d := { opcode := 0x0101, opaLen := 512, opbLen := 256 } } = false) ∧
    (let s := withJob { phase := .reserving, d := { opcode := 0x0101 }, squads := [0, 1] }
     (s.job 1).phase = .reserving ∧ slotKeyed (s.job 1).d = false ∧ (s.job 1).squads.all (fun q => (s.squad q).slots.isEmpty) = true) := by
  decide +kernel

/-- The partition whose turn goes on is PF0, and its grant changes nothing. -/
theorem witness_DispatchPlacesJobs_grant : grant ready1 = some (0, ready1) := by
  unfold grant
  exact if_pos (by decide +kernel)

/-- A stream job on engine 0, in L0, with slot 1 holding an AES-128 key. -/
def strm1 (j : Job) : State :=
  { withJob j with
    link := { state := .l0 }, islands := [(128, ⟨0⟩)]
    keys := { slots := [(1, { state := 2, index := 1, cls := 0x70, usage := 0x300, vol := true })] }
    dma := { engCur := [(0, 0)], engDef := [(0, [(0, 5)])] } }

/-- StreamJobs: a job to bind; SEAL and OPEN with slot and operands at hand; segments of AEAD and XTS jobs. -/
theorem witness_StreamJobs :
    (let s := strm1 { phase := .waitEngine }
     s.serving = true ∧ pickEngine s = some 0 ∧ (s.jobsWith (fun j => j.phase == .waitEngine)).head? = some 1 ∧
       (s.job 1).phase = .waitEngine) ∧
    (let s := strm1 { phase := .streaming, engine := some 0, d := { opcode := 0x0601, handle := 1, opaLen := 1, opbLen := 32, param := 1 }, opa := zeros 1, opb := zeros 32 }
     (s.job 1).d.opcode = 0x0601 ∧ (s.job 1).engine.isSome = true ∧ (s.job 1).strm.key = [] ∧ (s.job 1).strm.rekey = false ∧
       operandBytes (s.job 1).d ≤ 2048 ∧ (s.job 1).opa.length = (s.job 1).d.opaLen ∧ (s.job 1).opb.length = (s.job 1).d.opbLen ∧
       (tryLoad s 1 (s.job 1).d.handle (streamAsk (s.job 1).d)).1 = 0) ∧
    (let s := strm1 { phase := .streaming, engine := some 0, chan := some 0, d := { opcode := 0x0602, handle := 1, opaLen := 2017, opbLen := 32, param := 1 } }
     (s.job 1).d.opcode = 0x0602 ∧ 2048 < operandBytes (s.job 1).d ∧ (s.job 1).chan.isSome = true ∧ (zeros 2017).length = (s.job 1).d.opaLen ∧ (tryLoad s 1 (s.job 1).d.handle (streamAsk (s.job 1).d)).1 = 0) ∧
    (let j : Job := { phase := .streaming, engine := some 0, d := { opcode := 0x0601, opaLen := 65537, param := 1 }, strm := { key := [1] } }
     let s := strm1 j
     s.link.state = .l0 ∧ (enginesUp s).contains 0 = true ∧ segJobs s 0 = [(1, j)] ∧ s.job 1 = j ∧ s.dma.engCur.get 1024 0 = j.part ∧
       0 < Tab.get 0 (s.dma.engDef.get [] 0) j.part ∧ j.strm.done + min 65536 (j.d.payload - j.strm.done) < j.d.payload ∧
       j.strm.mism = 0 ∧ s.tamper.mons = [] ∧ s.tamper.burst = [] ∧ 1 < s.monN 18 ∧ 1 < s.monN 19) ∧
    (let j : Job := { phase := .streaming, engine := some 0, d := { opcode := 0x0601, opaLen := 65536, param := 4 }, strm := { key := [1] } }
     segJobs (strm1 j) 0 = [(1, j)] ∧ j.strm.done + min 65536 (j.d.payload - j.strm.done) = j.d.payload ∧ j.d.aead = false) := by decide +kernel


/-! ### Witnesses: squad jobs, keys, random numbers -/

/-- A running job of PF0 on squad 0. -/
def onSq (d : Desc) (a b : Bytes) : State :=
  { withJob { phase := .running, squads := [0], d := d, opa := a, opb := b } with
    rng := { exps := [(0, { inst := true })] } }

/-- A generic operand pair of one word. -/
def gen1 (op a b n : Nat) : State := onSq { opcode := op, opaLen := 2, opbLen := 1 } (toLE 8 n ++ toLE 8 a) (toLE 8 b)

/-- A slot of PF0 in ACTIVE at index 1, VOLATILE. -/
def key1 (k : KSlot) : KeyStore := { slots := [(1, { k with state := 2, index := 1, vol := true })] }

/-- GenericArithmetic: operands one below N and equal to N; an even N; an A without inverse. -/
theorem witness_GenericArithmetic :
    let n := 2 ^ 61 - 1
    OnSquads (gen1 0x0101 (n - 1) (n - 1) n) 1 0x0101 ∧
    (genOps ((gen1 0x0101 (n - 1) (n - 1) n).job 1)).a < (genOps ((gen1 0x0101 (n - 1) (n - 1) n).job 1)).n ∧
    (genOps ((gen1 0x0101 (n - 1) (n - 1) n).job 1)).b < (genOps ((gen1 0x0101 (n - 1) (n - 1) n).job 1)).n ∧
    modulusOk (genOps ((gen1 0x0102 (n - 1) n n).job 1)).L (genOps ((gen1 0x0102 (n - 1) n n).job 1)).n = true ∧
    (genOps ((gen1 0x0102 (n - 1) n n).job 1)).n ≤ (genOps ((gen1 0x0102 (n - 1) n n).job 1)).b ∧
    modulusOk (genOps ((gen1 0x0103 0 0 6).job 1)).L (genOps ((gen1 0x0103 0 0 6).job 1)).n = false ∧
    invMod? (genOps ((gen1 0x0104 1 0 n).job 1)).a (genOps ((gen1 0x0104 1 0 n).job 1)).n = some 1 ∧
    invMod? (genOps ((gen1 0x0104 0 0 n).job 1)).a (genOps ((gen1 0x0104 0 0 n).job 1)).n = none ∧
    modulusOk (genOps ((gen1 0x0104 0 0 n).job 1)).L (genOps ((gen1 0x0104 0 0 n).job 1)).n = true := by
  unfold OnSquads; decide +kernel

/-- A running RSA job under a VOLATILE slot of a private key of two bytes: n = 15, e = 3, d = 3, p = 3, q = 5. -/
def rsaJob (op x : Nat) : State :=
  { onSq { opcode := op, handle := 1 } (toBE 2 x) [] with
    keys := key1 { cls := 0x01, keyBytes := 2, material := toBE 2 15 ++ toBE 8 3 ++ toBE 2 3 ++ [3, 5, 1, 3, 2] } }

/-- RsaOperations: a representative one below n and equal to n; a host key that fails and a slot's key, which has no host checks. -/
theorem witness_RsaOperations :
    OnSquads (rsaJob 0x0201 14) 1 0x0201 ∧
    (let s := rsaJob 0x0201 14
     let k := slotCrt (jobSlot s (s.job 1))
     beNat (s.job 1).opa < (jobRsa s (s.job 1)).n ∧ powMod (rsaCrt k 14) k.pub.e k.pub.n = 14 ∧ k.p = 3 ∧ k.q = 5) ∧
    (let s : State := { rsaJob 0x0208 14 with keys := key1 { cls := 0x01, keyBytes := 2, material := toBE 2 15 ++ toBE 8 3 ++ toBE 2 3 ++ [3, 5, 1, 3, 0] } }
     let k := slotCrt (jobSlot s (s.job 1))
     beNat (s.job 1).opa < (jobRsa s (s.job 1)).n ∧ powMod (rsaCrt k 14) k.pub.e k.pub.n ≠ 14) ∧
    (let s := rsaJob 0x0201 15
     (jobRsa s (s.job 1)).n ≤ beNat (s.job 1).opa) ∧
    (let s := rsaJob 0x0202 14
     firstFail (rsaHostChecks (s.job 1).d (jobRsa s (s.job 1))) = 0 ∧ beNat (s.job 1).opa < (jobRsa s (s.job 1)).n) ∧
    (let s := onSq { opcode := 0x0202, param := 2 ^ 31 } (toBE 2 1) (toBE 8 3 ++ toBE 2 256)
     firstFail (rsaHostChecks (s.job 1).d (jobRsa s (s.job 1)) ++ [(true, 0x1010)]) = 0x1014) ∧
    (let s := rsaJob 0x0205 0
     firstFail (rsaHostChecks (s.job 1).d (jobRsa s (s.job 1))) = 0 ∧ beNat ((s.job 1).opa.drop (hLen (s.job 1).d.hash)) = 0) ∧
    (OnSquads (rsaJob 0x0203 0) 1 0x0203 ∧ OnSquads (rsaJob 0x0204 0) 1 0x0204 ∧ OnSquads (rsaJob 0x0206 0) 1 0x0206 ∧
      OnSquads (rsaJob 0x0207 0) 1 0x0207 ∧ OnSquads (rsaJob 0x0208 14) 1 0x0208) := by unfold OnSquads; decide +kernel

/-- CurveOperations: every opcode on a squad (whether a point lies on its curve is an opaque function of the model). -/
theorem witness_CurveOperations :
    OnSquads (onSq { opcode := 0x0301 } [] []) 1 0x0301 ∧ OnSquads (onSq { opcode := 0x0302 } [] []) 1 0x0302 ∧
    OnSquads (onSq { opcode := 0x0303 } [] [0]) 1 0x0303 ∧ OnSquads (onSq { opcode := 0x0304 } [] []) 1 0x0304 ∧
    OnSquads (onSq { opcode := 0x0305 } [] []) 1 0x0305 ∧ OnSquads (onSq { opcode := 0x0306 } [] [1]) 1 0x0306 ∧
    (readPoint (clsCurve (jobSlot (onSq { opcode := 0x0303 } [] [0]) ((onSq { opcode := 0x0303 } [] [0]).job 1)).cls)
      ((onSq { opcode := 0x0303 } [] [0]).job 1).opb).1 ≠ 0 := by unfold OnSquads; decide +kernel

/-- An attribute block of one usage flag, VOLATILE, of a class, in 64 bytes. -/
def attr (usage cls : Nat) : Bytes := toLE 64 (usage + 2 ^ 24 + cls * 2 ^ 32)

/-- LatticeOperationsAndKeyGenerations: host encapsulation keys that pass and fail, and the three key generations. -/
theorem witness_LatticeOperationsAndKeyGenerations :
    (let s := onSq { opcode := 0x0401, handle := 1 } [] []
     OnSquads s 1 0x0401 ∧ ((s.job 1).d.hostKey = false ∨ ekOk (psetOf (jobPset s (s.job 1).d)) (jobPub s (s.job 1)) = true)) ∧
    ekOk (psetOf 1) [0xFF, 0x0F, 0] = false ∧ OnSquads (onSq { opcode := 0x0402 } [] []) 1 0x0402 ∧
    OnSquads (onSq { opcode := 0x0410 } [] []) 1 0x0410 ∧ OnSquads (onSq { opcode := 0x0411 } [] []) 1 0x0411 ∧
    (onSq { opcode := 0x0411 } [] []).jobs ≠ [] := by unfold OnSquads; decide +kernel

/-- LatticeOperationsAndKeyGenerations: the four key generations, and one without the Key Root. What a batch, a draw or a pairing check
answers is free in the model, and every hypothesis about it names the values it is free to take. -/
theorem witness_LatticeOperationsAndKeyGenerations_rsa :
    let s := onSq { opcode := 0x0220 } (attr 1 0) []
    OnSquads s 1 0x0220 ∧ (parseAttr (s.job 1).opa).cls = 0 ∧ KeyReady s 1 0x01 ∧
      keysServed { s with tamper := { rootHeld := false } } = false ∧ OnSquads { s with tamper := { rootHeld := false } } 1 0x0220 := by
  refine ⟨⟨by decide, by decide, by decide, .inr (by decide), by decide⟩, by decide +kernel, ?_, by decide,
    ⟨by decide, by decide, by decide, .inr (by decide), by decide⟩⟩
  unfold KeyReady; decide +kernel
theorem witness_LatticeOperationsAndKeyGenerations_pairs :
    (let s := onSq { opcode := 0x0320, param := 0x100 } (attr 1 0) []
     OnSquads s 1 0x0320 ∧ (parseAttr (s.job 1).opa).cls = 0 ∧ KeyReady s 1 (curveCls (s.job 1).d.curve)) ∧
    (let s := onSq { opcode := 0x0420, param := 0x300 } (attr 0x80 0) []
     OnSquads s 1 0x0420 ∧ (parseAttr (s.job 1).opa).cls = 0 ∧ KeyReady s 1 (0x50 + (s.job 1).d.curve)) ∧
    (let s := onSq { opcode := 0x0421, param := 0x1100 } (attr 1 0) []
     OnSquads s 1 0x0421 ∧ (parseAttr (s.job 1).opa).cls = 0 ∧ KeyReady s 1 (0x50 + (s.job 1).d.curve)) := by
  unfold OnSquads KeyReady; decide +kernel

/-- A job of PF0 with its operands read and a turn to be placed. -/
def readyOp (d : Desc) (a : Bytes) : State := withJob { phase := .ready, d := d, opa := a }

/-- The same with one expander that delivers. -/
def withRng (s : State) : State := { s with rng := { exps := [(0, { inst := true })] } }

/-- KeyCreationInfoAndExport. -/
theorem witness_KeyCreationInfoAndExport :
    (let s := withRng (readyOp { opcode := 0x0501 } (attr 0x100 0x72))
     (s.job 1).phase = .ready ∧ orderBlocked s (s.job 1) = false ∧ rngTurn s 0x0501 = true ∧ (parseAttr (s.job 1).opa).rsvd = false ∧
       attrBad (parseAttr (s.job 1).opa) (parseAttr (s.job 1).opa).cls = false ∧ symLen (parseAttr (s.job 1).opa).cls = some 32 ∧
       keysServed s = true ∧ allocCheck s (s.job 1).part = 0 ∧ (parseAttr (s.job 1).opa).vol = true) ∧
    (let s := onSq { opcode := 0x0502 } (attr 0x100 0x73 ++ zeros 64) []
     (s.job 1).d.handle = 0 ∧ (parseAttr (s.job 1).opa).rsvd = false ∧ attrBad (parseAttr (s.job 1).opa) 0x73 = false ∧
       OnSquads s 1 0x0502 ∧ keysServed s = true ∧ keysServed { s with tamper := { rootHeld := false } } = false ∧ allocCheck s (s.job 1).part = 0 ∧
       matFits 0x73 ((s.job 1).opa.drop 64).length = true ∧ (∀ r ∈ [[]], materialPass 0x73 ((s.job 1).opa.drop 64) r = false) ∧
       matFits 0x73 63 = false ∧ materialPass 0x70 (zeros 16) [] = true ∧ attrBad (parseAttr (attr 0 0x70)) 0x70 = true ∧
       (parseAttr (toLE 64 (2 ^ 18))).rsvd = true ∧ (parseAttr (toLE 64 (2 ^ 383))).rsvd = true) ∧
    (let s : State := { readyOp { opcode := 0x0505, handle := 1 } [] with keys := key1 { cls := 0x70 } }
     s.tamper.holdUntil = none ∧ entryBad s 1 = false ∧ loadCheck s (s.job 1).part (s.job 1).d.handle false = 0 ∧ (s.kslot 1).vol = true ∧
       (s.kslot 1).owner = (s.job 1).part ∧ entryBad { s with keys := { slots := [(1, { state := 2 })] } } 1 = true ∧
       loadCheck s 0 (1 + 2097152) false = 0x4001 ∧ loadCheck s 1 1 false = 0x4002 ∧ loadCheck s 0 0 false = 0x4002) ∧
    (let s : State := { readyOp { opcode := 0x0503, handle := 1 } [] with keys := key1 { cls := 0x11 } }
     (s.job 1).d.param = 0 ∧ loadCheck s (s.job 1).part (s.job 1).d.handle false = 0 ∧ (s.kslot 1).state = 2 ∧
       (s.kslot 1).limited = false ∧ entryBad s 1 = false ∧ (symLen 0x11).isSome = false ∧ (symLen 0x70).isSome = true) ∧
    (let s : State := { readyOp { opcode := 0x0503, handle := 1 } [] with keys := key1 { cls := 0x11, limited := true, limit := 2, count := 2 } }
     loadCheck s (s.job 1).part (s.job 1).d.handle false = 0 ∧ (s.kslot 1).limited = true ∧ (s.kslot 1).limit ≤ (s.kslot 1).count) := by
  unfold OnSquads; decide +kernel

/-- KeyDestructionRestrictionAndPurge: a slot at each stage; blocks that widen, keep and narrow; a purge with and without slots. -/
theorem witness_KeyDestructionRestrictionAndPurge :
    (let s : State := { readyOp { opcode := 0x0504, handle := 1 } [] with keys := key1 {} }
     s.tamper.holdUntil = none ∧ entryBad s 1 = false ∧
       loadCheck s (s.job 1).part (s.job 1).d.handle true = 0 ∧ (s.kslot 1).vol = true ∧ orderBlocked s (s.job 1) = false) ∧
    (let s : State := { withJob { phase := .waitCommit, d := { opcode := 0x0504, handle := 1 } } with
        keys := { slots := [(1, { state := 3, vol := true, destroyer := some 1 })] } }
     (s.kslot 1).state = 3 ∧ (s.kslot 1).destroyer = some 1 ∧ (s.kslot 1).advanced = false ∧ usersOf s 1 = [] ∧ (s.jobs.find 1).isSome = true) ∧
    (let s : State := { readyOp { opcode := 0x0506, handle := 1 } (toLE 16 3) with keys := key1 { usage := 3 } }
     let v := leNat ((s.job 1).opa.take 16)
     entryBad s 1 = false ∧ loadCheck s (s.job 1).part (s.job 1).d.handle false = 0 ∧ (s.kslot 1).restricting = false ∧ bits v 24 18 = 0 ∧ bits v 63 26 = 0 ∧
       restrictBad (s.kslot 1) v = false ∧ restrictSame (s.kslot 1) v = true ∧ restrictBad (s.kslot 1) 7 = true ∧
       restrictBad (s.kslot 1) 1 = false ∧ restrictSame (s.kslot 1) 1 = false) ∧
    (let s := withJob { phase := .adminWait, d := { opcode := 0x0506 }, waits := [2] }
     ∀ k ∈ (s.job 1).waits, s.jobs.find k = none) ∧
    (let s := withRng (readyOp { opcode := 0x0510 } [])
     rngReady s = true ∧ s.keys.purges.find (s.job 1).part = none ∧ keysServed s = true ∧ s.keys.slots.keysWith (fun k => k.owner == (s.job 1).part) = []) ∧
    (let s : State := { readyOp { opcode := 0x0510 } [] with keys := key1 {} }
     s.keys.slots.keysWith (fun k => k.owner == (s.job 1).part) ≠ []) ∧
    (let s : State := { serve with keys := { purges := [(0, { victims := [1] })] } }
     s.keys.purges.find 0 = some { victims := [1] } ∧ rngReady (withRng s) = true ∧ usersOf s 1 = []) := by decide +kernel

/-- KeyStoreCommitsAndCache. -/
theorem witness_KeyStoreCommitsAndCache :
    (let s : State := { serve with keys := { cur := some 0, queues := [(0, [{ rec_ := zeros 64 }])], deficit := [(0, 64)] } }
     s.keys.cur = some 0 ∧ s.keys.queues.get [] 0 = { rec_ := zeros 64 } :: [] ∧ (waitingQueues s).contains 0 = true ∧
       0 < s.keys.deficit.get 0 0 ∧ s.keys.served = [] ∧ (zeros 64).length ≤ 6400000) ∧
    (let s : State := { serve with keys := { slots := [(1, { state := 2, count := 1 })] } }
     s.serving = true ∧ s.keys.slots = [(1, { state := 2, count := 1 })]) ∧
    (let s : State := { withJob { phase := .held, note := waitMiss, d := { handle := 1 } } with
        keys := { slots := [(1, { state := 2, index := 1 })] } }
     (s.kslot 1).state = 2 ∧ (s.kslot 1).cached = false ∧ keysServed s = true ∧ entryBad s 1 = false ∧
       entryBad { s with keys := { slots := [(1, { state := 2 })] } } 1 = true ∧ missJobs s 1 = [1] ∧ (s.job 1).uses = []) ∧
    (let s : State := { serve with keys := { slots := [(1, { state := 2 })] } }
     missJobs s 1 = [] ∧ (s.kslot 1).state = 2) := by decide +kernel

/-- RandomJobsAndChannels: channels and expanders at both ends, limits exactly reached. -/
theorem witness_RandomJobsAndChannels :
    (let s := (readyOp { opcode := 0x0701, resCap := 64 } []).gsets gRngState 0 2
     wantsOutput s (s.job 1) = true ∧ s.gv gRngState = 2) ∧
    (let s := (withJob { phase := .waitRng, heldAt := 5 }).gsets gRngState 0 2
     (s.job 1).phase ≠ .finished ∧ s.gv gRngState = 2 ∧ (s.job 1).heldAt ≠ 0 ∧ ¬ (s.job 1).heldAt ≤ s.now ∧
       (s.job 1).heldAt ≤ ({ s with clock := { ticks := 5 } } : State).now) ∧
    (let s : State := { serve with rng := { chans := [(7, { state := 0 })] } }
     7 < 8 ∧ (s.noise 7).state ≤ 1 ∧ (s.noise 7).state = 0) ∧
    (let s : State := { serve with clock := { ticks := usTicks 150 }, rng := { chans := [(7, { state := 0 })] } }
     (s.noise 7).state = 0 ∧ (s.noise 7).startedAt + usTicks 150 ≤ s.now) ∧
    (let s : State := { serve with clock := { ticks := 4 * 8192 }, rng := { chans := [(7, { state := 0 })] } }
     (s.noise 7).startedAt + 4 * windowTicks 7 ≤ s.now) ∧
    (let s : State := { serve with clock := { ticks := msTicks 100 }, rng := { chans := [(7, { state := 2 })] } }
     (s.noise 7).state = 2 ∧ (s.noise 7).stays = false ∧ (s.noise 7).retiredAt + msTicks 100 ≤ s.now) ∧
    (let s : State := { serve with clock := { ticks := msTicks 1 }, rng := { exps := [(17, { inst := true })], chans := [(6, { state := 1 }), (7, { state := 1 })] } }
     (s.expander 17).inst = true ∧ reseedDue s 17 = true ∧ canSeed s 17 = true) ∧
    (let s : State := { serve with rng := { exps := [(0, { inst := true, out := 1048576 })] } }
     reseedDue s 0 = true ∧ canSeed s 0 = false) ∧
    (let s := (serve.gsets (pathState 1) 0 1)
     instDue s 16 = true) ∧ serve.mainUp = true := by decide +kernel

/-- RandomJobsAndChannels: the last 64 bytes of the partition that streams, and 4 KiB of a longer job. -/
theorem witness_RandomJobsAndChannels_output :
    let s : State := { withRng (withJob { phase := .drawing, d := { opcode := 0x0701, resCap := 8192 } }) with
      link := { state := .l0 }, rng := { exps := [(0, { inst := true })], hostCur := some 0, hostDef := [(0, 1)] } }
    wantsOutput s (s.job 1) = true ∧ s.gv gRngState ≠ 2 ∧ rngTurn s 0x0701 = true ∧ s.link.state = .l0 ∧ readyExp s 0 = some 0 ∧
      outputPart s = some ((s.job 1).part, s) ∧ outputJob s (s.job 1).part = some 1 ∧ bit (s.job 1).d.param 0 = false ∧
      (0 : Nat) + min 4096 (8192 - 0) ≠ 8192 ∧ (8128 : Nat) + min 4096 (8192 - 8128) = 8192 := by
  refine ⟨by decide, by decide, by decide, by decide, by decide, ?_, by decide, by decide, by decide, by decide⟩
  unfold outputPart
  exact if_pos (by decide +kernel)

/-! ### Witnesses: minutes, flash, the recorder, repairs, lifecycle, tamper -/

/-- MinutesCloseAndDeliver: a minute at its boundary, a set that waits, deliveries admitted and refused by the window. -/
theorem witness_MinutesCloseAndDeliver :
    (let s : State := { serve with meter := { accepting := true, openMin := some { start := 59999999999 } }, clock := { dtb := 60000000000 * 2 ^ 32 } }
     s.meter.openMin = some { start := 59999999999 } ∧ s.meter.accepting = true ∧ boundary 59999999999 ≤ s.dtbNs ∧
       boundary 60000000000 = 120000000000) ∧
    (let s : State := { serve with meter := { closing := [{ seq := 1 }] }, link := { state := .l0 } }
     s.meter.closing = { seq := 1 } :: [] ∧ s.mainUp = true ∧ s.link.state = .l0 ∧ s.link.d3hot = false) ∧
    (let s : State := { serve with meter := { accepting := true, vault := [{ seq := 1 }], md := [(1, { due := [1] })] }, link := { state := .l0 }, parts := [(1, { windows := [(0, { base := 0x2000, size := 0x2000, wr := true })] })] }
     (s.meter.md.get {} 1).due = 1 :: [] ∧ s.link.state = .l0 ∧ s.meter.accepting = true ∧ canLend s 1 = true ∧ findSet s 1 = some { seq := 1 } ∧
       rangeOk s 1 ((s.meter.md.get {} 1).base + 1 % 2 * 0x2000) 0x2000 true = true ∧
       rangeOk s 1 ((s.meter.md.get {} 1).base + 2 % 2 * 0x2000) 0x2000 true = false) ∧
    canLend (serve.gsets gDmaPartitionChannels 0 0) 1 = false := by decide +kernel

/-- A flash descriptor of a queue of one entry, by core 0x803 before the first guard epoch. -/
def fdesc (op bank len target buf : Nat) : Nat := op + bank * 2 ^ 16 + len * 2 ^ 96 + target * 2 ^ 128 + buf * 2 ^ 192
def codeQ (v : Nat) (c : CodeFlash) : State :=
  { serve with
    mem := Mem.write 0 [] 0 (toLE 32 v), code := { c with queues := [(3, { cqBase := 64, entries := 1, state := 1, tail := 1, owner := 0x803 })] } }

/-- FlashDescriptors: code flash reads, programs and erases, of bank 3, as accepted and refused. -/
theorem witness_FlashDescriptors_data :
    (let d : FDesc := { op := 0, len := 32, target := 0x3FFFFE0, buf := 0x1000 }
     let s := codeQ (fdesc 0 0 32 0x3FFFFE0 0x1000) {}
     FlashTurn s (.code 3) (.code 3) d ∧ BanksBusy s d = false ∧
       (∀ n ∈ sectorsOf d.target d.len, (sector s n).state ≠ 3 ∧ (sector s n).state ≠ 4) ∧
       BanksBusy (codeQ (fdesc 0 0 32 0x3FFFFE0 0x1000) { banks := [(3, {})] }) d = true ∧ 0x3FFF ∈ sectorsOf d.target d.len ∧
       (sector (codeQ 0 { sectors := [(0x3FFF, { state := 4 })] }) 0x3FFF).state = 4 ∧
       (sector (codeQ 0 { sectors := [(0x3FFF, { state := 3 })] }) 0x3FFF).state = 3) ∧
    (let d : FDesc := { op := 1, len := 32, target := 0x3FFFFE0, buf := 0x1000 }
     let s := codeQ (fdesc 1 0 32 0x3FFFFE0 0x1000) {}
     FlashTurn s (.code 3) (.code 3) d ∧ BanksBusy s d = false ∧ s.code.banks.find (codeBank d.target) = none ∧
       (let u := codeQ (fdesc 1 0 32 0x3FFFFE0 0x1000) { banks := [(3, { left := [0x3000], suspAt := some 0 })] }
        FlashTurn u (.code 3) (.code 3) d ∧ BanksBusy u d = false ∧ (u.code.banks.find (codeBank d.target)).isSome = true) ∧
       (∀ n ∈ sectorsOf d.target d.len, (sector s n).state ≠ 4) ∧ rangeErased s d.target d.len = true ∧
       rangeErased { s with codeFlash := [(0x3FFFFFF, 0)] } d.target d.len = false) ∧
    (let d : FDesc := { op := 2, len := 4096, target := 0x3FFF000 }
     let s := codeQ (fdesc 2 0 4096 0x3FFF000 0) { sectors := [(0x3FFF, { state := 1 })] }
     FlashTurn s (.code 3) (.code 3) d ∧ BanksBusy s d = false ∧ s.code.banks.find (codeBank d.target) = none ∧
       (sectorsOf d.target d.len).filter (fun n => (sector s n).state != 0) = [0x3FFF] ∧
       (sectorsOf d.target d.len).filter (fun n => (sector (codeQ 0 {}) n).state != 0) = []) ∧
    (let s := codeQ (fdesc 1 0 16 0x3FFFFE0 0x1000) {}
     s.hostSupply = true ∧ (s.fqueue (.code 3)).hasWork = true ∧ queueTurn s (.code 3) = some 3 ∧ (flashHead s (.code 3)).op = 1 ∧
       flashCheck s (.code 3) (flashHead s (.code 3)) = 0x1040 ∧ (s.fqueue (.code 3)).entries ≤ 4096) := by unfold FlashTurn; decide +kernel

/-- FlashDescriptors: suspension and resumption of an erase, its status, a vault erase. -/
theorem witness_FlashDescriptors_control :
    (let s := codeQ (fdesc 3 3 0 0 0) { banks := [(3, { left := [0x3FFF] })] }
     FlashTurn s (.code 3) (.code 3) { op := 3, bank := 3 } ∧ s.code.waits = [] ∧ s.code.banks.find 3 = some { left := [0x3FFF] } ∧
       (codeQ (fdesc 3 3 0 0 0) {}).code.banks.find 3 = none) ∧
    (let s := codeQ (fdesc 4 3 0 0 0) { banks := [(3, { left := [0x3FFF], suspAt := some 0 })] }
     FlashTurn s (.code 3) (.code 3) { op := 4, bank := 3 } ∧ s.code.banks.find 3 = some { left := [0x3FFF], suspAt := some 0 } ∧
       (codeQ (fdesc 4 3 0 0 0) {}).code.banks.find 3 = none) ∧
    FlashTurn (codeQ (fdesc 5 0 0 0x3FFFFFF 0) {}) (.code 3) (.code 3) { op := 5, target := 0x3FFFFFF } ∧
    Mem.wf 0 (codeQ (fdesc 5 0 0 0x3FFFFFF 0) {}).mem = true ∧
    (let s : State := { codeQ (fdesc 2 0 32 0 0) {} with
        code := {}, vault := { queues := [(15, { cqBase := 64, entries := 1, state := 1, tail := 1, owner := 0x803 })] } }
     FlashTurn s (.vault 15) (.vault 15) { op := 2, len := 32 }) ∧
    (let s : State := { codeQ (fdesc 5 0 0 0 0) {} with
        code := {}, vault := { map := [(0, (0, 2720))], queues := [(15, { cqBase := 64, entries := 1, state := 1, tail := 1, owner := 0x803 })] } }
     FlashTurn s (.vault 15) (.vault 15) { op := 5 } ∧ Mem.wf 0 s.mem = true ∧ s.vault.map.find (0 % vHalf / vBlock) = some (0, 2720)) := by unfold FlashTurn; decide +kernel

/-- FlashDescriptors: a read and a program of the vault. -/
theorem witness_FlashDescriptors_vault :
    (let s : State := { codeQ (fdesc 0 0 32 0 0x1000) {} with
        code := {}, vault := { queues := [(15, { cqBase := 64, entries := 1, state := 1, tail := 1, owner := 0x803 })] } }
     FlashTurn s (.vault 15) (.vault 15) { op := 0, len := 32, buf := 0x1000 } ∧ s.vault.waits = [] ∧
       (∀ b ∈ vaultBanks s 0 32, vBankBusy s b = false)) ∧
    (let s : State := { codeQ (fdesc 1 0 32 0 0x1000) {} with
        code := {}, vault := { queues := [(15, { cqBase := 64, entries := 1, state := 1, tail := 1, owner := 0x803 })] } }
     FlashTurn s (.vault 15) (.vault 15) { op := 1, len := 32, buf := 0x1000 }) := by unfold FlashTurn; decide +kernel

/-- FlashOperationsEnd. -/
theorem witness_FlashOperationsEnd :
    (let s : State := { serve with code := { banks := [(3, { d := { op := 1, len := 32 }, data := zeros 32 }), (2, { d := { op := 2 }, left := [0x2FFF] })] } }
     s.hostSupply = true ∧ s.code.banks.find 3 = some { d := { op := 1, len := 32 }, data := zeros 32 } ∧
       s.code.banks.find 2 = some { d := { op := 2 }, left := [0x2FFF] }) ∧
    (let s : State := { serve with vault := { banks := [(15, { prog := [[{ src := .desc 0 0 0 }]] }), (14, { erasing := some 38080 })] } }
     (s.vbank 15).prog = [{ src := .desc 0 0 0 }] :: [] ∧ (s.vbank 15).erasing = none ∧ (s.vbank 14).erasing = some 38080) ∧
    (let s : State := { serve with clock := { ticks := msTicks 100 }, code := { banks := [(0, { left := [1], suspAt := some 0 })] } }
     s.code.banks.find 0 = some { left := [1], suspAt := some 0 } ∧ 0 + msTicks 100 ≤ s.now) ∧
    (let s : State := { serve with clock := { ticks := msTicks 4 } }
     s.vault.flushAt + msTicks 4 ≤ s.now) ∧ 1536 ≤ unmapped serve ∧
    (let s : State := { serve with vault := { map := [(0, (0, 2720))], victims := [0] } }
     s.vault.victims.find? (fun k => victimReady s k) = some 0 ∧ s.vault.map.get (0, 0) 0 = (0, 2720) ∧ (s.vbank 0).erasing = none ∧
       (s.vbank 1).erasing = none ∧ 0 / 2720 ≠ 2720 / 2720) ∧
    (let s : State := { serve with vault := { banks := [(0, { erases := 1000 })] } }
     1000 ≤ (s.vbank 0).erases) ∧
    (let s : State := { up 1 with islands := [(225, ⟨0⟩)], clock := { ticks := msTicks 10 } }
     s.modeNum = 1 ∧ s.isl 225 = 0 ∧ (s.vbank 15).prog = [] ∧ (s.vbank 15).erasing = none ∧ (s.vbank 15).idleAt + msTicks 10 ≤ s.now) := by decide +kernel

/-- FlashOperationsEnd: fewer than 1,024 unmapped log blocks. -/
theorem witness_FlashOperationsEnd_collection :
    unmapped { serve with vault := { map := (List.range 15873).map (fun n => (n, (n, n))) } } < 1024 := by
  unfold unmapped; simp

/-- EventsRepairsAndLifecycle. -/
theorem witness_EventsRepairsAndLifecycle :
    (let s : State := { serve with evr := { ports := [(243, [.evt 0x0603 []]), (140, [.mark 1 0])], granted := 243 } }
     s.evr.queue.length < 4096 ∧ nextPort s.evr.ports s.evr.granted = some 243 ∧ s.evr.ports.get [] 243 = [.evt 0x0603 []]) ∧
    (let s : State := { serve with evr := { ports := [(200, [.coal 0x0601 1 2 3])], held := [.window { code := 0x0601, subj := 1 }] } }
     nextPort s.evr.ports s.evr.granted = some 200 ∧ s.evr.ports.get [] 200 = .coal 0x0601 1 2 3 :: [] ∧
       foldReport 0x0601 1 3 s.evr.held = some [.window { code := 0x0601, subj := 1, reporters := [3] }]) ∧
    (let s : State := { serve with clock := { ticks := msTicks 1 }, evr := { held := [.window { code := 0x0601 }] } }
     s.evr.held = [.window { code := 0x0601 }] ∧ 0 + msTicks 1 ≤ s.now ∧ mayLeave s (coalRec { code := 0x0601 }) = true) ∧
    (let s : State := { serve with clock := { ticks := secTicks 1 }, evr := { supp := [(0x0601, { count := 1 })] } }
     0 < (s.evr.supp.get {} 0x0601).count ∧ (s.evr.supp.get {} 0x0601).since + secTicks 1 ≤ s.now) ∧
    (let s : State := { serve with life := { spares := [⟨200, 7, 0, false⟩, ⟨200, 7, 0, false⟩, ⟨200, 7, 0, false⟩] } }
     0 < sparesOf s 7 false ∧ sparesOf { serve with life := { spares := [⟨200, 7, 0, false⟩, ⟨200, 7, 0, false⟩, ⟨200, 7, 0, false⟩, ⟨200, 7, 0, false⟩] } } 7 false = 0) ∧
    (let s : State := { up 6 with life := { change := some { source := 0x3CC, target := 0xC33 } } }
     s.life.change = some { source := 0x3CC, target := 0xC33 } ∧ s.modeNum = 6 ∧ s.gv gLifeChangeStep ≠ 4 ∧
       (s.gsets gLifeChangeStep 0 4).gv gLifeChangeStep = 4) := by decide +kernel

/-- TamperResponses: monitors at both ends, an ALERT alarm after 1 us, a hold that is due, islands at both ends. -/
theorem witness_TamperResponses :
    (let s : State := { serve with tamper := { sntRuns := false } }
     watched s 0 = true ∧ watched s 20 = true ∧ watched s 21 = false ∧ ignored s 0 0 = false ∧
       ignored { s with islands := [(guardIsl 0, ⟨0⟩)] } 20 0 = false) ∧
    (let s : State := { serve with islands := [(140, ⟨3⟩)] }
     2 ≤ s.isl 140 ∧ ignored s 5 140 = true) ∧
    (let s : State := { serve with tamper := { sntRuns := false } }
     s.tamper.mons.get {} 0 = {} ∧ 1 < s.monN 0) ∧
    (let s : State := { serve with clock := { ticks := usTicks 1 }, tamper := { batch := [{ mon := 20, resp := 1 }] } }
     s.tamper.batch = [{ mon := 20, resp := 1 }] ∧ s.tamper.batchAt + usTicks 1 ≤ s.now) ∧
    (let s : State := { serve with tamper := { holdUntil := some 0, holdMons := [20] } }
     s.tamper.holdUntil = some 0 ∧ 0 ≤ s.now ∧ ∀ m ∈ s.tamper.holdMons, (s.tamper.mons.get {} m).inHold = 0) ∧
    (Served (mail 3 2) .mailbox 7 ∧ writeCheck (mail 3 2) .mailbox 0x500002 (toLE 4 0) true false = 0) ∧
    (let s : State := { serve with islands := [(140, ⟨0⟩), (243, ⟨1⟩), (236, ⟨0⟩)] }
     s.isl 140 < 2 ∧ s.isl 243 < 2 ∧ s.isl 236 < 2) := by unfold Served; decide +kernel

/-! ### Witnesses: Verb units -/

/-- A region that admits everybody everywhere, in every guard. -/
def openGuards : Tab Guard := (List.range 5).map (fun g => (g, { active := [(0, 40 + 7 * 2 ^ 8 + 0x7FF * 2 ^ 48)] }))

/-- One unit in service, with the guards open. -/
def unitOn (u : Nat) (x : VUnit) : State :=
  { serve with islands := [(unitIsl u, ⟨0⟩)], guardSt := { closed := false }, guards := openGuards, verb := { units := [(u, x)] } }

/-- A unit whose A0 is this. -/
def a0 (a : BitVec 24) : VUnit := { r := { a := (Vector.replicate 8 0).set 0 a } }

/-- A unit whose D0 is this. -/
def d0 (d : BitVec 32) : VUnit := { r := { d := (Vector.replicate 8 0).set 0 d } }

/-- A unit at a level with EM 0. -/
def atLevel (l : Nat) : VUnit := { r := { st := BitVec.ofNat 32 (512 * l) } }

/-- Units of all four kinds run, with three prefix words at the end of program SRAM (VerbAddAndSubtract, VerbLogicAndShifts,
VerbProductsAndMoves, VerbAccumulators). -/
theorem witness_Runs :
    Runs (unitOn 4 { r := { pc := 0x3FFC } }) 4 4 ∧ Runs (unitOn 11 {}) 11 1 ∧ Runs (unitOn 523 {}) 523 4 ∧ Runs (unitOn 0 {}) 0 4 ∧
      isSquadUnit 12 = true ∧ isDeep 3 = true := by unfold Runs; decide +kernel

/-- VerbFlowEventsAndWaits: a deadline met and not met, where the two meet. -/
theorem witness_VerbFlowEventsAndWaits :
    (let s := unitOn 4 { latch := true }
     Runs s 4 1 ∧ (s.unit 4).latch = true ∧ deadlineMet (tickOf s 4) 0 = true ∧ deadlineMet (tickOf s 4) 1 = false ∧
       deadlineMet (tickOf s 4) (2 ^ 31) = false ∧ deadlineMet (tickOf s 4) (2 ^ 31 + 1) = true) ∧
    (let s := unitOn 4 (d0 1)
     Runs s 4 1 ∧ (s.unit 4).latch = false ∧ deadlineMet (tickOf s 4) ((s.unit 4).r.d.get 0) = false) ∧
    (let s := unitOn 4 { latch := true, wait := some none }
     unitUp s 4 = true ∧ (s.unit 4).wait = some none ∧ nextAsync (s.unit 4) = none) ∧
    (let s := unitOn 8 { d0 (2 ^ 11 + 1) with sevMask := 2 ^ 11 + 1 }
     Runs s 8 1 ∧ (BitVec.ofNat 64 ((s.unit 8).r.d.get 0).toNat &&& (s.unit 8).sevMask).getLsbD 11 = true ∧
       (BitVec.ofNat 64 ((s.unit 8).r.d.get 0).toNat &&& (s.unit 8).sevMask).getLsbD 0 = true) := by
  unfold Runs; decide +kernel

/-- A gate entry in code flash: from level 0 to level 3, a stack of 64 bytes. -/
def gate0 : State :=
  { unitOn 0 { atLevel 0 with gtbase := 0xC00000 } with
    codeFlash := Mem.write 0xFF [] 0 (toLE 16 (2 ^ 31 + 2 ^ 24 + 3 * 2 ^ 20 + 0x801000 * 2 ^ 32 + 6 * 2 ^ 64)) }

/-- VerbSystemAndExceptions: levels at both ends, a saved status that returns, a gate that admits, a reserved word. -/
theorem witness_VerbSystemAndExceptions :
    (Runs (unitOn 4 (atLevel 1)) 4 1 ∧ ((unitOn 4 (atLevel 1)).unit 4).lvl ≠ 0) ∧
    (readLevel 23 ≤ ((unitOn 4 (atLevel 3)).unit 4).lvl ∧ readLevel 0 ≤ ((unitOn 4 (atLevel 0)).unit 4).lvl ∧
      writeLevel 0 ≤ ((unitOn 4 (atLevel 0)).unit 4).lvl ∧ 3 ≤ ((unitOn 4 (atLevel 3)).unit 4).lvl) ∧
    (((unitOn 4 (atLevel 3)).unit 4).lvl = 2 + 1 ∧ returnOk ((unitOn 4 (atLevel 3)).unit 4) 3 = true ∧
      ((unitOn 4 (atLevel 1)).unit 4).lvl = 0 + 1 ∧ returnOk ((unitOn 4 (atLevel 1)).unit 4) 1 = true) ∧
    (Runs gate0 0 1 ∧ gateFault gate0 0 (gate0.unit 0) (gateEntry gate0 0 (gate0.unit 0) 0) = none ∧
      bits (gateEntry gate0 0 (gate0.unit 0) 0) 21 20 = 3) ∧
    (Runs (unitOn 4 (atLevel 3)) 4 1 ∧ isDeep 4 = false ∧ stEM ((unitOn 4 (atLevel 3)).unit 4).r.st = false) ∧
    (sequenceReserved (isSquadUnit 4) [] 0x2C00 = true ∧ ((unitOn 4 (atLevel 0)).unit 4).lvl = 0) := by
  unfold Runs; decide +kernel

/-- VerbLoadsAndStores: the last word of local data memory and of a context's scratch, and a misaligned address. -/
theorem witness_VerbLoadsAndStores :
    (let s := unitOn 523 (a0 0xFFC)
     Runs s 523 1 ∧ memAt s 523 [] 0 0 4 % 4 = 0 ∧ memAt s 523 [] 0 0 4 < localSize 523) ∧
    (let s := unitOn 4 (a0 0x3FFFF)
     memAt s 4 [] 0 0 1 % 1 = 0 ∧ memAt s 4 [] 0 0 1 < localSize 4) ∧
    (let s := unitOn 4 { a0 0 with r := { (a0 0).r with pc := 0x3FFC } }
     Runs s 4 4 ∧ memAt s 4 [0, 0, 0] 0 3 4 % 4 = 0 ∧ memAt s 4 [0, 0, 0] 0 3 4 < localSize 4) ∧
    (let s := unitOn 523 (a0 0x41FFFC)
     isSquadUnit 523 = true ∧ memAt s 523 [] 0 0 4 = 0x41FFFC ∧
       guardCheck s 1 (identAt 523 (s.unit 523) (s.unit 523).lvl) 0x3FFFFFC 0x3FFFFFF .write = 0) ∧
    (let s := unitOn 4 { r := { st := 0, a := (Vector.replicate 8 0).set 0 2 } }
     Runs s 4 1 ∧ isDeep 4 = false ∧ stEM (s.unit 4).r.st = false ∧ memAt s 4 [] 0 0 4 % 4 ≠ 0) := by unfold Runs; decide +kernel

/-- RegisterReadsLatch: a Compact Verb core and a Deep Verb pair with expanders that deliver. -/
theorem witness_RegisterReadsLatch :
    (let s : State := { unitOn 4 { rngHi := some 5 } with islands := [(151, ⟨0⟩), (188, ⟨0⟩), (194, ⟨0⟩)], rng := { exps := [(0, { inst := true })] } }
     unitUp s 4 = true ∧ (s.unit 4).wait = none ∧ isDeep 4 = false ∧
       guardCheck s 2 (identAt 4 (s.unit 4) (s.unit 4).lvl) 0x210000 0x210003 .read = 0 ∧ regStruck s 2 0x210000 = false ∧
       guardCheck s 2 (identAt 4 (s.unit 4) (s.unit 4).lvl) 0x220000 0x220003 .read = 0 ∧ regStruck s 2 0x220000 = false ∧
       s.gv gRngState ≠ 2 ∧ (freshWord s 0).isSome = true ∧ (s.unit 4).rngHi = some 5 ∧
       guardCheck s 2 (identAt 4 (s.unit 4) (s.unit 4).lvl) 0x210004 0x210007 .read = 0 ∧ regStruck s 2 0x210004 = false) ∧
    (freshWord (unitOn 4 {}) 0 = none) ∧
    (let s : State := { unitOn 2 { rngHi := some 5 } with rng := { exps := [(16, { inst := true }), (17, { inst := true })] } }
     unitUp s 2 = true ∧ isDeep 2 = true ∧ guardCheck s 3 (identAt 2 (s.unit 2) (s.unit 2).lvl) 0x8030000 0x8030003 .read = 0 ∧
       regStruck s 3 0x8030000 = false ∧ s.gv gRngJstate ≠ 2 ∧ (freshWord s 1).isSome = true ∧ (s.unit 2).rngHi = some 5 ∧
       guardCheck s 3 (identAt 2 (s.unit 2) (s.unit 2).lvl) 0x8030004 0x8030007 .read = 0 ∧ regStruck s 3 0x8030004 = false) := by decide +kernel

/-- A context with a set-up of one word, N = 2^61 − 1, and A0 at the last place of its scratch where `n` bytes fit. -/
def laneUnit (n : Nat) : State := unitOn 523 { a0 (BitVec.ofNat 24 (0x420000 - n)) with r := { (a0 (BitVec.ofNat 24 (0x420000 - n))).r with setup := some (2 ^ 61 - 1, 1) } }

/-- VerbWideLanes: zero operands, with and without a job, and both ends of a set-up's length. -/
theorem witness_VerbWideLanes :
    (let s := laneUnit 8
     isSquadUnit 523 = true ∧ Runs s 523 1 ∧ turnSkipped s 523 = false ∧ (s.unit 523).r.setup = some (2 ^ 61 - 1, 1) ∧
       lazyOk 2 (2 ^ 61 - 1) (s.laneOf 523 0 6) = true ∧ (montRns 2 (2 ^ 61 - 1) (s.laneOf 523 0 6) (s.laneOf 523 1 6)).2 = false ∧
       (settleRns 2 (2 ^ 61 - 1) (s.laneOf 523 0 6)).2 = false ∧ jobAt s 523 = none) ∧
    (let s : State := { laneUnit 8 with jobs := [(1, { squads := [31] })], lanes := { squads := [(31, { slots := [(15, 1)] })] } }
     jobAt s 523 = some 1 ∧ (contextsOf s 1).headD 523 = 523 ∧ turnSkipped s 523 = false ∧
       ({ s with jobs := [(1, { squads := [31], monts := 1 })] }.job 1).monts ≠ 0) ∧
    (let s := unitOn 12 (d0 128)
     Runs s 12 1 ∧ turnSkipped s 12 = false ∧ ((s.unit 12).r.d.get 0).toNat % 256 = 128) := by unfold Runs; decide +kernel

/-- VerbWideLanes and VerbNarrowLanesAndYields: the last places of a context's scratch. -/
theorem witness_lane_places :
    laneAt (laneUnit 8) 523 ((laneUnit 8).unit 523) 0x41FFF8 8 false = .inr 0x3FFFFF8 ∧
    laneAt (laneUnit 48) 523 ((laneUnit 48).unit 523) 0x41FFD0 48 true = .inr 0x3FFFFD0 ∧
    laneAt (laneUnit 200) 523 ((laneUnit 200).unit 523) 0x41FF38 200 true = .inr 0x3FFFF38 ∧
    laneAt (unitOn 12 {}) 12 ((unitOn 12 {}).unit 12) 0x400000 1024 false = .inr 0 := ⟨rfl, rfl, rfl, rfl⟩

/-- VerbNarrowLanesAndYields: QN at both ends of both widths, a checkpoint that is due and one that is not. -/
theorem witness_VerbNarrowLanesAndYields :
    (let s := unitOn 12 { r := { qn := some (16, 3) } }
     Runs s 12 1 ∧ turnSkipped s 12 = false ∧ (s.unit 12).r.qn = some (16, 3) ∧ qnOk 16 3 = true ∧ qnOk 16 (2 ^ 15 - 1) = true ∧ qnOk 32 (2 ^ 30 - 1) = true ∧
       jobAt s 12 = none) ∧
    (let s : State := { unitOn 12 {} with jobs := [(1, { squads := [0], monts := 512 })], lanes := { squads := [(0, { slots := [(0, 1)] })] } }
     jobAt s 12 = some 1 ∧ turnSkipped s 12 = false ∧ (s.job 1).parkSlot = none ∧ (s.job 1).ckptAt + 512 ≤ (s.job 1).monts ∧ 511 < (s.job 1).ckptAt + 512) := by
  unfold Runs; decide +kernel

/-- CoreGuardAndChangeoverEvents. -/
theorem witness_CoreGuardAndChangeoverEvents :
    (unitPowered (unitOn 4 {}) 4 = true ∧ 63 < 64 ∧ stEM ((unitOn 4 {}).unit 4).r.st = true) ∧
    (let s := unitOn 523 (atLevel 0)
     unitUp s 523 = true ∧ stEM (s.unit 523).r.st = false ∧ (s.unit 523).pendLoad = none ∧ (s.unit 523).wait = none ∧ nextAsync (s.unit 523) = none) ∧
    (let s := unitOn 11 { frozen := some (0, 0, 0) }
     unitPowered s 11 = true ∧ (s.unit 11).frozen.isSome = true) ∧
    (let s : State := { unitOn 2 {} with islands := [(200, ⟨0⟩), (202, ⟨0⟩)] }
     unitPowered s 2 = true ∧ 2 ≠ s.verb.duty ∧ unitPowered s 0 = true ∧ 0 = s.verb.duty ∧ standbyUp s = true ∧ unitUp s 2 = true ∧
       s.verb.runahead.get 1 2 = 1) ∧
    (let s : State := { serve with verb := { testing := [2] } }
     2 ∈ s.verb.testing ∧ s.mode.changeover = none) ∧
    (let s : State := { serve with guardSt := { closed := false } }
     guardActive s 0 = true ∧ 511 < guardSlots 0 ∧ guardActive s 4 = true ∧ 63 < guardSlots 4 ∧ 63 ∉ (s.guards.get {} 4).bad ∧
       runtimeBad 4 (s.guards.get {} 4) = []) ∧
    (let s := serve.gsets gGuardCommitState 0 0x30F
     s.gv gGuardCommitState = 0x30F ∧ s.guardSt.reload = [] ∧ oldFlash s = false ∧
       oldFlash { s with code := { banks := [(0, {})] } } = true ∧ s.mode.changeover = none ∧ ∀ e ∈ s.mgmt.slots, e.2.code ≠ 0xF0F) ∧
    (let s : State := { up 5 with mode := { code := modeCode 5, changeover := some { unit := 9, slot := 1 } } }
     s.mode.changeover = some { unit := 9, slot := 1 } ∧ s.modeNum = 5 ∧ ({ unit := 9, slot := 1 } : Changeover).rolling = false) := by decide +kernel

/-! ### Witnesses: management, countersign, card, badge, tag -/

/-- A mailbox request area that holds a message. -/
def area (b : Bytes) : State := { serve with mgmt := { reqArea := Mem.write 0 [] 0 b } }

/-- A session opened by a role. -/
def gapAt (x : Sess) : State := (({ serve with mgmt := { gap := [(1, x)] } } : State).gsets gMgmtEnable 0 1)

/-- MailboxAndEntryMessages: well-formed and malformed requests; the Officer's idle time exactly over; entries of every access. -/
theorem witness_MailboxAndEntryMessages :
    ((area [0x3E, 0, 0, 0]).mainUp = true ∧ (area [0x3E]).mgmt.busy = false ∧
      badForm false (Mem.read 0 (area [0x3E, 0, 0, 0]).mgmt.reqArea 0 64) = false ∧
      badForm false (Mem.read 0 (area [0x3E, 1]).mgmt.reqArea 0 64) = true) ∧
    (Served (mail 3 2) .mailbox 7 ∧ roleReaches ((mail 3 2).sess .mailbox).role 1 = true ∧ knownMsg .mailbox 0x30 = false ∧
      roleReaches (mail 3 2).mgmt.mbox.role 2 = true) ∧
    (let s : State := { serve with clock := { ticks := secTicks 600 }, mgmt := { mbox := { role := 3 } } }
     s.mgmt.mbox.role = 3 ∧ s.mgmt.busy = false ∧ s.mgmt.mbox.lastAt + secTicks 600 ≤ s.now) ∧
    ((glossRow 0x321004).isSome = true ∧ 0x321004 ≠ 0x541005 ∧ 1024 ≤ 1024) ∧
    (Served (mail 3 3) .mailbox 7 ∧ writeCheck (mail 3 3) .mailbox 0x321004 [0] true (entryBusy (mail 3 3) 0x321004) = 0 ∧
      directCred (mail 3 3) .mailbox 0x321004 = false ∧ ((glossRow 0x321004).map GRow.acc) = some .dual) ∧
    (writeCheck (mail 3 2) .mailbox 0x221001 (toLE 4 65536) true (entryBusy (mail 3 2) 0x221001) = 0 ∧
      writeCheck (mail 3 2) .mailbox 0x221001 (toLE 4 65537) true false = 0x7022 ∧ ((glossRow 0x221001).map GRow.acc) = some .rwp) ∧
    (writeCheck (mail 3 1) .mailbox 0x210100 (toLE 2 1024) true (entryBusy (mail 3 1) 0x210100) = 0 ∧
      ((glossRow 0x210100).map GRow.acc) = some .rw) ∧
    ((mail 3 3).sess .mailbox).role = 3 := by unfold Served; decide +kernel

/-- GapSessions: a first message, an answer, limits exactly reached, a full second of frames. -/
theorem witness_GapSessions :
    (let s := gapAt { opened := false, hello := some [] }
     gapOn s = true ∧ s.mgmt.gap.length < 8 ∧ (zeros 32).length = 32 ∧ (zeros 97).length = 97 ∧ (zeros 1024).length ≤ 1024 ∧
       (s.sess (.gap 1)).hello = some [] ∧ (s.sess (.gap 1)).opened = false ∧ credOf s (s.sess (.gap 1)).peerKey = none) ∧
    (let s : State := { gapAt {} with mgmt := { gap := [(1, { opened := false, hello := some [], peerKey := [7] })], creds := [(31, { role := 3, key := [7] })] } }
     gapOn s = true ∧ credOf s (s.sess (.gap 1)).peerKey = some 31) ∧
    8 ≤ ({ serve with mgmt := { gap := (List.range 8).map (fun n => (n, {})) } } : State).mgmt.gap.length ∧
    (gapOn (gapAt {}) = true ∧ ((gapAt {}).sess (.gap 1)).opened = true) ∧
    (let s : State := { gapAt {} with clock := { ticks := secTicks 300 } }
     Tab.find s.mgmt.gap 1 = some {} ∧ ({} : Sess).lastAt + secTicks 300 ≤ s.now) ∧
    (let k : Notify := { req := 65536 + 9, resends := 4 }
     let s : State := { gapAt { notifies := [k] } with clock := { ticks := secTicks 1 } }
     (s.sess (.gap 1)).notifies.find? (fun k => k.req % 65536 == (9 : BitVec 16).toNat) = some k ∧ k.resends < 5 ∧ k.sentAt + secTicks 1 ≤ s.now) ∧
    (let s : State := { gapAt {} with mgmt := { frameCount := 2000 } }
     gapOn s = true ∧ s.mgmt.frameSecond = s.now / secTicks 1 ∧ 2000 ≤ s.mgmt.frameCount) ∧
    (let s : State := { gapAt {} with mgmt := { frameCount := 1999 } }
     gapOn s = true ∧ s.mgmt.frameCount < 2000) ∧
    (badForm true [0x3E, 0, 0, 0, 0, 0, 0, 0] = false ∧ badForm true [0x3E, 1, 0, 0, 0, 0, 0, 0] = true ∧ (gapAt {}).hostSupply = true ∧
      (gapAt {}).gv gMgmtEnable = 1 ∧ ((gapAt {}).sess (.gap 1)).seqIn < 1 ∧
      ((gapAt {}).sess (.gap 1)).replies.find? (fun p => p.1 == 0) = none) := by decide +kernel

/-- A served module with one change set in slot 15. -/
def withSet (x : ChangeSet) : State := { mail 3 3 with mgmt := { busy := true, mbox := { role := 3 }, slots := [(15, x)] } }

/-- ChangeSetsAndCommits: sets open, due, approved; records of every kind that is committed alone. -/
theorem witness_ChangeSetsAndCommits :
    (Served (withSet {}) .mailbox 7 ∧ ((withSet {}).sess .mailbox).role = 3 ∧ roleReaches ((withSet {}).sess .mailbox).role 1 = true) ∧
    (((withSet { code := 0x365 }).cset 15).isOpen = true ∧ ((withSet { code := 0x5A3 }).cset 15).isOpen = true ∧
      ((withSet { code := 0x365 }).cset 15).deadline ≤ (withSet {}).clock.st) ∧
    (let s := withSet { code := 0xC9A, recs := [{}] }
     mayCommit s = true ∧ nextSet s = some 15 ∧ setStatus s (s.cset 15).recs ≠ 0) ∧
    (let r : CsRec := { idx := 0x3210, sub := 0x04, value := [1] }
     let s := withSet { code := 0xC9A, recs := [r] }
     mayCommit s = true ∧ nextSet s = some 15 ∧ setStatus s [r] = 0 ∧ ((glossRow r.key).map GRow.acc) = some .dual ∧ r.sel < 65536 ∧
       isAction r.key = false ∧ r.key ≠ 0x110101 ∧ r.key ≠ 0x100004) ∧
    (let r : CsRec := { idx := 0x5250, sub := 0x02, selA := 31, value := 4 :: zeros 96 }
     setStatus (withSet {}) [r] = 0 ∧ credKeys r.key = true ∧ ((glossRow r.key).map GRow.acc) = some .dual ∧ r.sel < 65536) ∧
    (let r : CsRec := { idx := 0x4110, sub := 0x04, selA := 4, selB := 0, value := zeros 1024 }
     setStatus (withSet {}) [r] = 0 ∧ r.key = 0x411004 ∧ r.sel < 65536) ∧ nextSet serve = none := by unfold Served; decide +kernel

/-- Card and badge reached, in their stages. -/
def tok (card badge : TokSt) : State :=
  { serve with islands := [(234, ⟨1⟩), (233, ⟨1⟩), (235, ⟨1⟩)], appr := { card := card, badge := badge, carrier := true } }

/-- CardActivationAndTransport: the stages that a reply can meet. -/
theorem witness_CardActivationAndTransport :
    tokUp (tok {} {}) false = true ∧ (tok {} {}).appr.card.stage = .absent ∧ (tok { stage := .atr } {}).appr.card.stage = .atr ∧
    (tok { stage := .pps } {}).appr.card.stage = .pps ∧ (tok { stage := .ifs, resends := 1 } {}).appr.card.waits = true ∧
    (tok { stage := .ifs, resends := 1 } {}).appr.card.resends < 2 ∧ (tok { stage := .select } {}).appr.card.stage ≠ .atr ∧
    (tok { stage := .status } {}).appr.midstep = none ∧
    (let s : State := { tok { stage := .unknown, khz := 4000, clockStop := 2, clockOn := true } {} with clock := { ticks := secTicks 1 } }
     s.appr.card.clockOn = true ∧ s.appr.card.clockStop ≠ 0 ∧ s.appr.card.stage = .unknown ∧
       s.appr.card.seenAt + cycTicks (s.gv gCardClockTail) (max 1 s.appr.card.khz) ≤ s.now) ∧
    ((tok { stage := .ifs, waitUntil := 1 } {}).now < (tok { stage := .ifs, waitUntil := 1 } {}).appr.card.waitUntil ∧
      (tok { stage := .ifs, resends := 2 } {}).appr.card.waitUntil ≤ (tok { stage := .ifs, resends := 2 } {}).now) ∧
    (tok { stage := .ready } {}).appr.card.clockStop = 0 ∧ (tok { stage := .ready } {}).appr.card.stage ≠ .failed := by decide +kernel

/-- ApprovalsByCardAndBadge: a request by an operator, and each step of one in progress, by card and by badge. -/
theorem witness_ApprovalsByCardAndBadge :
    (let v := toLE 4 5 ++ [1] ++ zeros 11
     Served (mail 3 2) .mailbox 7 ∧ writeCheck (mail 3 2) .mailbox 0x530008 v true false = 0 ∧
       writeCheck (mail 3 2) .mailbox 0x540007 v true false = 0 ∧ (v.drop 5).take 3 = zeros 3 ∧ ((v.drop 4).headD 0).toNat = 1 ∧
       (mail 3 2).appr.req = none ∧ ((mail 3 2).tok false).stage = .absent) ∧
    (let s := tok { stage := .ready } { stage := .unknown }
     (s.tok false).stage = .ready ∧ (s.tok true).stage = .unknown ∧ s.appr.midstep = none) ∧
    (let s : State := { tok { stage := .pin } { stage := .pin } with appr := { card := { stage := .pin }, badge := { stage := .pin }, carrier := true, req := some {} } }
     tokUp s false = true ∧ tokUp s true = true ∧ s.appr.req = some {} ∧ s.appr.carrier = true ∧ (s.tok true).stage = .pin ∧ (s.tok false).stage = .pin) ∧
    (let s : State := { tok {} {} with
        appr := { card := { stage := .approve, cred := some 31 }, badge := { stage := .approve, cred := some 31 }, carrier := true, req := some { change := 5 } }
        mgmt := { slots := [(15, { code := 0x5A3, id := 5, deadline := 1 })] } }
     (s.tok true).stage = .approve ∧ (s.tok false).cred = some 31 ∧ heldSlot s 5 = some 15 ∧ (s.cset 15).code = 0x5A3 ∧
       s.clock.st < (s.cset 15).deadline ∧ s.appr.card.cred = some 31 ∧ 0x6983 ≠ 0x9000) ∧
    (Served (mail 3 3) .mailbox 7 ∧ writeCheck (mail 3 3) .mailbox 0x53000B [1] true false = 0) := by unfold Served; decide +kernel

/-- ReaderPollsAndBadges: a poll that is due, the stages of a badge, limits exactly reached. -/
theorem witness_ReaderPollsAndBadges :
    (let s : State := { tok {} {} with appr := {}, clock := { ticks := msTicks 250 } }
     s.gv gFieldReaderEnable = 1 ∧ tokUp s true = true ∧ s.appr.carrier = false ∧ s.appr.external = false ∧
       s.appr.pingAt + msTicks 250 ≤ s.now) ∧
    (tok {} {}).appr.carrier = true ∧ (tok {} { stage := .atqa }).appr.badge.stage = .atqa ∧
    (tok {} { stage := .anticoll, knownBits := [true] }).appr.badge.stage = .anticoll ∧
    (tok {} { stage := .atqa }).appr.badge.waitUntil ≤ (tok {} { stage := .atqa }).now ∧
    (tok {} { stage := .atqa, waitUntil := 1 }).now < (tok {} { stage := .atqa, waitUntil := 1 }).appr.badge.waitUntil ∧ tokUp (tok {} {}) true = true ∧
    (tok {} { stage := .bpps }).appr.badge.stage = .bpps ∧ (tok {} { stage := .status }).appr.midstep = none ∧
    ((tok {} { stage := .sak, resends := 2 }).appr.badge.stage ≠ .absent ∧ (tok {} { stage := .sak }).appr.badge.stage ≠ .atqa ∧
      (tok {} { stage := .sak }).appr.badge.stage ≠ .ready) ∧
    (let s : State := { tok {} { stage := .ready } with clock := { ticks := msTicks 250 } }
     s.appr.badge.seenAt + msTicks 250 ≤ s.now) := by decide +kernel

/-- The tag with a transaction. -/
def tagTxn : State := { mail 3 2 with tag := { txn := some 0 }, clock := { ticks := msTicks 300 } }

/-- TagTransactionsAndCommands, TagCountsTransactions, TagMemoryOfTheHost. -/
theorem witness_TagTransactionsAndCommands :
    ((tok {} {}).isl 235 ≤ 1 ∧ ({ tok {} {} with appr := {} } : State).appr.carrier = false ∧ (tok {} {}).tag.muted = false ∧
      (tok {} {}).tag.txn = none ∧ cltUp (tok {} {}) = true) ∧
    (∀ k ∈ List.range 8, (up k).modeNum = k ∧ cltUp { up k with islands := [(235, ⟨0⟩)] } = true) ∧
    (tagTxn.tag.txn ≠ none ∧ tagTxn.tag.txn = some 0 ∧ 0 + msTicks 300 ≤ tagTxn.now ∧ passive tagTxn = false) ∧
    ((tagTxn.gsets gTagFieldWrite 0 1).gv gTagFieldWrite = 1 ∧ (toLE 4 0xFFFFFFFF).length = 4 ∧ leNat (toLE 4 0xFFFFFFFF) ≠ 0 ∧
      tagCount tagTxn 15 + leNat (toLE 4 0xFFFFFFFF) ≤ 0xFFFFFFFF) := by decide +kernel
theorem witness_TagMemoryOfTheHost :
    (Served (mail 3 2) .mailbox 7 ∧ (mail 3 2).tag.txn = none ∧ readCheck (mail 3 2) .mailbox 0x541005 = 0) ∧
    (let s : State := { mail 3 2 with mgmt := { busy := true, mbox := { sel := [(0x541004, 0x1F00), (0x541006, 15)] } } }
     (s.sess .mailbox).selVal 0x541004 = 0x1F00 ∧ writeCheck s .mailbox 0x541005 (zeros 256) (decide (0x400 ≤ 0x1F00)) false = 0 ∧
       writeCheck s .mailbox 0x541005 (zeros 256) (decide (0x400 ≤ 0x300)) false ≠ 0 ∧
       writeCheck s .mailbox 0x541008 (toLE 4 1) (decide (8 ≤ 15)) false = 0 ∧ writeCheck s .mailbox 0x541008 (toLE 4 1) (decide (8 ≤ 7)) false ≠ 0 ∧
       tagCount s 15 + 0xFFFFFFFF ≤ 0xFFFFFFFF) ∧
    (Served tagTxn .mailbox 7 ∧ tagTxn.tag.txn ≠ none) ∧
    (let s : State := { tagTxn with tag := { txn := some 0, waits := [{}] } }
     s.tag.waits = {} :: [] ∧ ({} : TagWait).since + msTicks 5 ≤ s.now) := by unfold Served; decide +kernel

/-- EntryReadsAndRefusedWrites: reads at and over the end of an entry of four octets, a length of 1,024 and 1,025, writes out of range and
of another size. -/
theorem witness_EntryReadsAndRefusedWrites :
    Served (mail 3 2) .mailbox 7 ∧ (mail 3 2).tag.txn = none ∧ (glossRow 0x221001).isSome = true ∧
    (glossRow 0x221001).map (fun r => (roleReaches ((mail 3 2).sess .mailbox).role r.rd, (glossBytes (mail 3 2) ((mail 3 2).sess .mailbox) r).length, r.ty.size,
      inRange ((mail 3 2).sess .mailbox) r (toLE 4 65537))) = some (true, 4, 4, false) := by unfold Served; decide +kernel

/-- SlicesParkAndDrawsWait: an exponentiation of 65 words that is in its first slice, and draws that no source serves. -/
theorem witness_SlicesParkAndDrawsWait :
    let n := 2 ^ 4160 - 59
    let s := withJob { phase := .running, squads := [0, 1], parkSlot := some 7, opa := toLE 520 n ++ toLE 520 2, opb := toLE 4096 3, d := { opcode := 0x0103, opaLen := 130, opbLen := 512 } }
    (s.job 1).d.opcode = 0x0103 ∧ (s.job 1).squads ≠ [] ∧ (s.job 1).phase = .running ∧ lastSlice s (s.job 1) = false ∧
      (s.job 1).parkSlot = some 7 ∧ modulusOk ((s.job 1).d.opaLen / 2) (genOps (s.job 1)).n = true ∧
      (genOps (s.job 1)).a < (genOps (s.job 1)).n ∧ rngTurn s 0x0303 = false := by decide +kernel

/-- HostReads: both ends of a ring page. -/
theorem witness_HostReads :
    (1 ≤ 1024 ∧ (locked 3).mainUp = true ∧ ((locked 3).part 1).enabled = true ∧ (serve.part 1).enabled = false) ∧
    (0x1000 % 4 = 0 ∧ 0x1FF8 % 8 = 0 ∧ 0x1FF8 < 0x2000) := by decide

/-- PowerCyclesAreCountedOnce: a supply arrives while the other has not, and any command without one. -/
theorem witness_PowerCyclesAreCountedOnce :
    State.reset.hostSupply = false ∧ serve.hostSupply = true ∧ ∃ t, exec (.nop 4) serve = .next t := by
  refine ⟨by decide, by decide, _, rfl⟩

/-! ### Ill-formed commands, one for each check of WellFormed, are refused -/

/-- Units, contexts, functions, rings, prefixes, sizes, channels, queues. -/
theorem smoke_places :
    (Instr.nop 1).wf = false ∧ (Instr.nop 3).wf = false ∧ (Instr.nop 524).wf = false ∧ (Instr.nop 2).wf = true ∧ (Instr.lmov 11 0 0).wf = false ∧
    (Instr.functionLevelReset 0).wf = false ∧ (Instr.functionLevelReset 1025).wf = false ∧ (Instr.purgeWipe 1025).wf = false ∧
    (Instr.ringEnable 0 8).wf = false ∧ (Instr.ringEnable 1025 7).wf = false ∧ (Instr.movi 4 [0, 0, 0, 0] 0 0).wf = false ∧
    (Instr.movi 4 [0, 0, 0] 0 0).wf = true ∧ (Instr.registerWrite .config 0 3 0).wf = false ∧ (Instr.fill 512).wf = false ∧
    (Instr.flashErase (.dma 512)).wf = false ∧ (Instr.flashErase (.code 4)).wf = false ∧ (Instr.flashErase (.vault 16)).wf = false ∧
    (Instr.completionTimeout (.channel 512 [])).wf = false ∧ (Instr.readBackDone (.channel 512) true).wf = false := by decide

/-- Sessions, register spaces, SPDM requests, spares, uses, reports, errors of scrubbing, core events, replies, frames. -/
theorem smoke_operands :
    (Instr.csSeal (.gap 0) 0).wf = false ∧ (Instr.csSeal (.gap 65536) 0).wf = false ∧ (Instr.registerWrite (.bar 0 6) 0 4 0).wf = false ∧
    (Instr.registerWrite (.compute 4096) 0 4 0).wf = false ∧ (Instr.registerWrite (.control 4096) 0 4 0).wf = false ∧
    (Instr.spdmMessage (.negotiateAlgorithms 0 0 65536 0)).wf = false ∧ (Instr.spdmMessage (.endSession (2 ^ 32))).wf = false ∧
    (Instr.spdmMessage (.challenge 8)).wf = false ∧ (Instr.spdmMessage (.startInterface 0)).wf = false ∧
    (Instr.sramRepaired ⟨244, 0, 0, false⟩ true .nothing).wf = false ∧ (Instr.sramRepaired ⟨243, 0, 0, false⟩ true (.coreData 12)).wf = false ∧
    (Instr.assay ⟨[244], [], [], [], 0⟩).wf = false ∧ (Instr.assay ⟨[], [(31, 34)], [], [], 0⟩).wf = false ∧ (Instr.assay ⟨[], [], [32], [], 0⟩).wf = false ∧
    (Instr.guardScrub 5 []).wf = false ∧ (Instr.guardScrub 0 [.single 512]).wf = false ∧ (Instr.guardScrub 0 [.double 512]).wf = false ∧
    (Instr.deviceInterrupt 4 (.device 64)).wf = false ∧ (Instr.deviceInterrupt 4 (.supervisor 256)).wf = false ∧
    (Instr.agentAnswer 140 (.delay 256)).wf = false ∧ (Instr.agentAnswer 244 .accept).wf = false ∧
    (Instr.cardResponse (.resp 65536 [])).wf = false ∧ (Instr.cardResponse (.atr true true true 256 0 1 0 0 true)).wf = false ∧
    (Instr.badgeResponse (.uid [0])).wf = false ∧ (Instr.badgeResponse (.collision (List.replicate 80 true))).wf = false ∧ (Instr.badgeResponse (.ats 100 0)).wf = false ∧
    (Instr.inboundFrame (.gapProtected 65536 0 true [])).wf = false ∧
    (Instr.inboundFrame (.gapProtected 0 (2 ^ 64) true [])).wf = false ∧ (Instr.badgeResponse (.wtx 65536)).wf = false := by
  decide

/-- Fields of single commands. -/
theorem smoke_fields :
    (Instr.linkRecovery 17 0).wf = false ∧ (Instr.linkReturnL0 3 8).wf = false ∧ (Instr.numvfsWrite 65536).wf = false ∧
    (Instr.barAccessDropped 0 0 4097 true).wf = false ∧ (Instr.poisonedWrite 0 6 0).wf = false ∧ (Instr.proxyDoorbell 0 0 true 0).wf = false ∧
    (Instr.ideKm 0 0 1 0 [] []).wf = false ∧ (Instr.kSetGo 0 2).wf = false ∧ (Instr.ideStreamInsecure 65).wf = false ∧
    (Instr.intakeVisit 4).wf = false ∧ (Instr.dispatch 32 [] []).wf = false ∧ (Instr.destroyComplete 2097152).wf = false ∧
    (Instr.streamSegment 12 true).wf = false ∧ (Instr.qTail (.code 0) (2 ^ 32)).wf = false ∧ (Instr.rngRetired 8 1).wf = false ∧
    (Instr.rngRetired 0 4).wf = false ∧ (Instr.reseed 18).wf = false ∧ (Instr.rngKatRun 0 []).wf = false ∧ (Instr.patrolTest 32 [] true).wf = false ∧
    (Instr.flashEraseDone 20 true).wf = false ∧ (Instr.wearCollection 16).wf = false ∧ (Instr.crossingTimeout 244).wf = false ∧
    (Instr.monitorSample 21 0 0 true).wf = false ∧ (Instr.suppressed 65536).wf = false ∧ (Instr.hello [] [] [] []).wf = false ∧
    (Instr.authResponse 0 256 []).wf = false ∧ (Instr.read .mailbox 0 65536 0 0 0).wf = false ∧ (Instr.read .mailbox 0 0 256 0 0).wf = false ∧
    (Instr.csQuery .mailbox 0 (2 ^ 32) 0).wf = false ∧ (Instr.msgUnknown .mailbox 0 256).wf = false ∧ (Instr.countersignExpiry 16).wf = false ∧
    (Instr.tagSelect (zeros 17)).wf = false ∧ (Instr.increment 256 [] false).wf = false ∧ (Instr.thermalOverload 2 true).wf = false ∧
    (Instr.startUpTestPassed 8).wf = false ∧ (Instr.write .mailbox 0 0 0 (zeros 2041)).wf = false := by decide +kernel

/-! ### Worked examples of the spec, and single steps -/

/-- No row of the table has bits. -/
theorem test_decodeTableWord : decodeTableWord 32 0 = none ∧ (State.reset.withFetchWord 32 0).pending = [] := ⟨rfl, rfl⟩

/-- 09: handle 0x2A60_0013 holds GEN 0x153 and INDEX 0x13. -/
theorem test_handle : handleOf 0x13 { gen := 0x153 } = 0x2A600013 := by decide

/-- 13: three prefixes and MOVI make 0x1234_5678; two make 0xF234_5678. -/
theorem test_prefixes :
    immS [0x000, 0x91A, 0x2B3] 0b11000 = 0x12345678 ∧ immS [0x91A, 0x2B3] 0b11000 = 0xF2345678 := by decide +kernel

/-- 11 Table 3: rounding with a carried residue. -/
theorem test_carried_residue :
    billOf (10005 * 2 ^ 32 / 10) = 1000 ∧ billOf (200125 * 2 ^ 32 / 100 + 2 ^ 31) = 2002 ∧ billOf (99975 * 2 ^ 32 / 100 - 2 ^ 30) = 1000 ∧
      billOf (-(2 ^ 31)) = 0 := by decide +kernel

/-- 03: a result that ends beyond its window's last byte. -/
theorem test_window :
    let s : State := { serve with parts := [(12, { windows := [(3, { base := 0x1000000000, size := 0x10000, wr := true })] })] }
    rangeOk s 12 0x100000FFE0 64 true = false ∧ rangeOk s 12 0x100000FFC0 64 true = true ∧ rangeOk s 12 0x1000000000 64 false = false := by
  decide +kernel

/-- 04: VF 37's ring 2 of 6 entries: index 1 is accepted, index 5 is RING_FULL. -/
theorem test_ring_full :
    let s : State := { serve with parts := [(37, { enabled := true })], rings := [(37 * 8 + 2, { entries := 6, state := 1, headN := 10, fetchN := 10, sqTail := 10, cqN := 10, cqHead := 10 })] }
    ((match exec (.sqDb 37 2 1) s with | .next t => some ((t.ring 37 2).sqTail, (t.ring 37 2).fault) | _ => none) = some (1, false)) ∧
    ((match exec (.sqDb 37 2 5) s with | .next t => some ((t.ring 37 2).sqTail, (t.ring 37 2).faultCode) | _ => none) = some (10, 0x2001)) := by
  decide +kernel

/-- 05: constants of the example with small moduli. -/
theorem test_small_moduli :
    invMod 13 11 = 6 ∧ invMod 11 13 = 6 ∧ invMod 143 17 = 5 ∧ invMod 143 19 = 2 ∧ invMod 143 256 = 111 ∧ invMod 323 256 = 107 := by decide +kernel

/-- 15: the key cache's region, and a 256-byte write that passes the end of the metering unit's region. -/
theorem test_regions :
    let cache := 0x07FFFFFA00000320 + 0x100000000 * 2 ^ 64
    let meter := 0x07FFFFFA10000307 + 0x401000 * 2 ^ 64
    let s : State := { serve with guardSt := { closed := false }, guards := [(0, { active := [(17, cache), (18, meter)] })] }
    guardCheck s 0 0xA00 0x100000000 0x1000000FF .write = 0 ∧ guardCheck s 0 9 0x100000000 0x1000000FF .write = 1 ∧
      guardCheck s 0 0xA10 0x401000 0x40107F .write = 0 ∧ guardCheck s 0 0xA10 0x401000 0x4010FF .write = 1 := by decide +kernel

/-- 22: the record of tally.weight.lane for partition 37. -/
theorem test_record :
    csRecBytes { idx := 0x3510, sub := 0x01, selA := 37, value := toLE 4 0x18000 } =
      [0x10, 0x35, 0x01, 0x00, 0x25, 0x00, 0xFF, 0xFF, 0x04, 0x00, 0x00, 0x00, 0x00, 0x80, 0x01, 0x00] := by decide

/-- 24: counter 9 holds 41 and 42; the next write goes to copy 0. -/
theorem test_counter :
    let s : State := { serve with tag := { copies := [(18, copyWord 9 41), (19, copyWord 9 42)] } }
    tagCount s 9 = 42 ∧ copyToWrite s 9 = 0 ∧ (tagAdd s 9 1).map (fun t => (tagCount t 9, copyToWrite t 9)) = some (43, 1) := by decide +kernel

/-- One step takes the front of the queue: ADD wraps to zero and sets Z and C. -/
theorem test_add_wraps :
    (match step { unitOn 4 { d0 0xFFFFFFFF with r := { (d0 0xFFFFFFFF).r with d := (d0 0xFFFFFFFF).r.d.set 1 1 } } with pending := [.add 4 0 1, .nop 4] } with
      | .next t => some ((t.unit 4).r.d.get 0, (t.unit 4).r.st, (t.unit 4).r.pc, t.pending)
      | _ => none) = some (0, 0xE05, 1, [.nop 4]) := by decide +kernel

/-- A modular addition that wraps; an even modulus. -/
theorem test_modadd :
    (match exec (.modadd 1) (gen1 0x0101 (2 ^ 61 - 2) 3 (2 ^ 61 - 1)) with | .next t => some ((t.job 1).status, (t.job 1).out) | _ => none) =
      some (0, toLE 8 2) ∧
    (match exec (.modadd 1) (gen1 0x0101 1 2 6) with | .next t => some ((t.job 1).status, (t.job 1).out) | _ => none) = some (0x1014, []) := by
  decide +kernel

/-- 13 and 14: a branch that is taken, a call that stores its return address in A6, a trap of a reserved word at level 0. -/
theorem test_flow :
    (match exec (.branch 4 [] 0 5) (unitOn 4 { r := { pc := 10, st := 0xE00 } }) with | .next t => some (t.unit 4).r.pc | _ => none) = some 16 ∧
    (match exec (.call 4 [] 0x7F) (unitOn 4 { r := { pc := 10 } }) with | .next t => some ((t.unit 4).r.pc, (t.unit 4).r.a.get 6) | _ => none) = some (10, 11) ∧
    (match exec (.reservedPattern 4 [] 0x2C00) (unitOn 4 { atLevel 0 with xbase := 0x100 }) with
      | .next t => some ((t.unit 4).r.pc, (t.unit 4).emuWord, (t.unit 4).spc.get 2) | _ => none) = some (0x110, 0x2C00, 0) := by decide +kernel

/-- 13: a store to local data memory, little-endian, and a load that returns it. -/
theorem test_store_load :
    (match exec (.stw 4 [] 1 0 0) (unitOn 4 { r := { a := (Vector.replicate 8 0).set 0 0x100, d := (Vector.replicate 8 0).set 1 0x11223344 } }) with
      | .next t => some (Mem.read 0 (t.unit 4).ldata 0x100 4) | _ => none) = some [0x44, 0x33, 0x22, 0x11] ∧
    (match exec (.ldb 4 [] 2 0 0) (unitOn 4 { r := { a := (Vector.replicate 8 0).set 0 0x101 }, ldata := Mem.write 0 [] 0x100 [0x44, 0x33, 0x22, 0x11] }) with
      | .next t => some ((t.unit 4).pendLoad) | _ => none) = some (some (false, 2, 0x33)) := by decide +kernel

/-- 10: a FILL of one line of 64 bytes in module memory. -/
theorem test_fill :
    (match exec (.fill 511) (chan511 (dst64 0x2000 + 2 ^ 12 + 1 + 0xA5 * 2 ^ 64)) with
      | .next t => some ((t.chan 511).headN) | _ => none) = some 1 := by decide +kernel

/-- 16: an erase of one sector begins, and code flash still reads as before. -/
theorem test_erase :
    (match exec (.flashErase (.code 3)) (codeQ (fdesc 2 0 4096 0x3FFF000 0) { sectors := [(0x3FFF, { state := 1 })] }) with
      | .next t => some ((sector t 0x3FFF).state, (t.fqueue (.code 3)).headN) | _ => none) = some (2, 1) := by decide +kernel

/-- 22: NOP of a Reader is answered OK. -/
theorem test_nop_message :
    (match exec (.nopMessage .mailbox 7) (mail 3 1) with | .next t => some (t.mgmt.busy, t.mgmt.respArea.take 8) | _ => none) =
      some (false, [0xBE, 0, 7, 0, 2, 0, 0, 0]) := by decide +kernel

/-- 24: READ BINARY of a passive tag ends at 0x6F. -/
theorem test_read_binary :
    (match exec (.readBinary 0x3F0 0) tagTxn with | .next t => some t.tag.out | _ => none) = some [0x67, 0x00] ∧
    (match exec (.readBinary 0x1FFF 2) tagTxn with | .next t => some t.tag.out | _ => none) = some [0x6A, 0x86] := by decide +kernel

/-- 23: two resends of a block, then the card's transport goes on to a RESYNCH. -/
theorem test_card_resend :
    (match exec .blockWaitingTimeExpiry (tok { stage := .select, resends := 1 } {}) with | .next t => some (t.appr.card.resends, t.appr.card.stage == .select) | _ => none) =
      some (2, true) := by decide +kernel

end Sys2Proof.Tests
end

section
/-! PROOF. Read-backs and failed reads (01 R38; 03 R131, R132; 04 R161; 10 R395, R398): what a completion record leaves in its channel,
what a completion entry leaves in its ring and in host memory, and how a read that is out ends its job. -/

namespace Sys2Proof.Machine

open Sys2Proof

/-! ### Entries of a table erased -/

theorem Tab.find_erase {α : Type} (i j : Nat) : ∀ t : Tab α, Tab.find (Tab.erase t i) j = if j = i then none else Tab.find t j
  | [] => by simp [Tab.erase, Tab.find]
  | (k, v) :: t => by
    have ih := Tab.find_erase i j t
    rw [Tab.erase] at ih ⊢
    rw [List.filter_cons]
    by_cases hki : k = i
    · subst hki
      by_cases hj : j = k
      · simpa [hj] using ih
      · simpa [hj, Tab.find, Ne.symm hj] using ih
    · by_cases hj : k = j
      · subst hj; simp [hki, Tab.find]
      · simpa [hki, hj, Tab.find] using ih

theorem Tab.get_erase_other {α : Type} (d : α) (t : Tab α) {i j : Nat} (h : j ≠ i) : Tab.get d (Tab.erase t i) j = Tab.get d t j := by
  simp only [Tab.get, Tab.find_erase, if_neg h]

theorem Tab.get_erase_self {α : Type} (d : α) (t : Tab α) (i : Nat) : Tab.get d (Tab.erase t i) i = d := by
  simp only [Tab.get, Tab.find_erase, if_true, Option.getD_none]

/-! ### Completion records (10 R395, R397, R398) -/

theorem State.chan_congr {s t : State} (h : t.dma = s.dma) (c : Nat) : t.chan c = s.chan c := by
  simp only [State.chan, h]

/-- A record due for a channel's current descriptor: head and completion index advance and nothing is in hand. -/
theorem putRecord_chan (s : State) (c : Nat) (d : DDesc) (status offset done : Nat) (unknown mismatch : Bool) :
    (putRecord s c d status offset done unknown mismatch).chan c = { s.chan c with
      headN := (s.chan c).headN + 1, cqN := (s.chan c).cqN + 1, cur := none, readAt := s.now, data := [], shared := 0 } := by
  unfold putRecord
  extract_lets x rec_ s1 s2
  clear_value rec_
  have hdma : (if d.noEvent then s2 else sendEvents s2 x.evtMask none).dma = s2.dma := by
    split
    · rfl
    · exact (sendEvents_writes (wm := 33554432) (Writes.refl _ s2) (by decide)).dma (by decide)
  rw [State.chan_congr hdma, State.chan_withChan]
  rfl

/-- A stopping channel that settles keeps its indices and what it has in hand. -/
theorem settleChan_chan (s : State) (c : Nat) : ∃ st sk, (settleChan s c).chan c = { s.chan c with state := st, skip := sk } := by
  unfold settleChan
  split
  · exact ⟨0, false, State.chan_withChan s c _⟩
  · exact ⟨_, _, rfl⟩

theorem completeDesc_chan (s : State) (c : Nat) (d : DDesc) (status offset done : Nat) (unknown mismatch : Bool) :
    ∃ st sk, (completeDesc s c d status offset done unknown mismatch).chan c = { s.chan c with
      headN := (s.chan c).headN + 1, cqN := (s.chan c).cqN + 1, cur := none, readAt := s.now, data := [], shared := 0,
      state := st, skip := sk } := by
  unfold completeDesc
  extract_lets bad s1
  obtain ⟨st, sk, h⟩ := settleChan_chan (s1.withChan c (fun x => { x with skip := d.link && (x.skip || bad) })) c
  refine ⟨st, sk, h.trans ?_⟩
  rw [State.chan_withChan, putRecord_chan]
  split <;> rfl

/-- A read-back of a channel that has written, whether it succeeds or not, makes its record due. -/
theorem chanReadBack_chan {s : State} {c : Nat} {k : DmaCur} (ok : Bool) (hcur : (s.chan c).cur = some k) :
    ((chanReadBack s c ok).chan c).cur = none ∧ ((chanReadBack s c ok).chan c).headN = (s.chan c).headN + 1 ∧
      ((chanReadBack s c ok).chan c).cqN = (s.chan c).cqN + 1 := by
  unfold chanReadBack
  simp only [hcur]
  cases ok with
  | true =>
    obtain ⟨st, sk, h⟩ := completeDesc_chan s c k.desc k.status k.offset k.done false false
    simp [h]
  | false =>
    obtain ⟨st, sk, h⟩ := completeDesc_chan (s.bump gDmaReadbackFail) c k.desc 0x3003 k.done k.done true false
    have hb : (s.bump gDmaReadbackFail).chan c = s.chan c := rfl
    simp [h, hb]

/-! ### Completion entries (04 R161, R165) -/

theorem advanceHead_cqN : ∀ (k : Nat) (r : Ring), (advanceHead k r).cqN = r.cqN
  | 0, _ => rfl
  | k + 1, r => by
    unfold advanceHead
    split
    · rw [advanceHead_cqN k]
    · rfl

@[simp] theorem Ring.pass_cqN (r : Ring) (n : Nat) : (r.pass n).cqN = r.cqN := by
  unfold Ring.pass
  split
  · rfl
  · exact advanceHead_cqN _ _

/-- A finished job's entry written and its context freed, before the ring's message is sent. -/
def entryPosted (s : State) (id : Nat) : State :=
  let j := s.job id
  let r := (s.ring j.part j.ring).pass j.n
  let s3 := ((acceptEntry s j).hostWrite j.part (r.cqBase + 32 * (r.cqTail % r.entries))
    (entryBytes r j (s.tu j.part j.count))).withRing j.part j.ring (fun _ => { r with
      cqN := r.cqN + 1, reserved := r.reserved - 1, barriers := r.barriers.filter (fun k => k != j.n) })
  { s3 with jobs := s3.jobs.erase id }

/-- Beside the entry, `writeEntry` sends at most a message on the link. -/
theorem writeEntry_entryPosted (s : State) (id : Nat) : Writes 128 (entryPosted s id) (writeEntry s id) := by
  unfold writeEntry
  exact Writes.ite (Writes.refl _ _) (State.msix_writes (Writes.refl _ _) (by decide))

theorem acceptEntry_accepts (s : State) (j : Job) : Writes 1073774592 s (acceptEntry s j) :=
  acceptEntry_writes (Writes.refl _ s) (by decide)

theorem writeEntry_jobs (s : State) (id : Nat) : (writeEntry s id).jobs = s.jobs.erase id := by
  simp only [(writeEntry_entryPosted s id).jobs (by decide), entryPosted, State.withRing_jobs, State.hostWrite_jobs,
    (acceptEntry_accepts s (s.job id)).jobs (by decide)]

theorem writeEntry_job_other (s : State) {id k : Nat} (h : k ≠ id) : (writeEntry s id).job k = s.job k := by
  rw [State.job, writeEntry_jobs, Tab.get_erase_other _ _ h, State.job]

theorem writeEntry_find_self (s : State) (id : Nat) : (writeEntry s id).jobs.find id = none := by
  rw [writeEntry_jobs, Tab.find_erase, if_pos rfl]

theorem writeEntry_cqN (s : State) (id : Nat) :
    ((writeEntry s id).ring (s.job id).part (s.job id).ring).cqN = (s.ring (s.job id).part (s.job id).ring).cqN + 1 := by
  simp only [State.ring, (writeEntry_entryPosted s id).rings (by decide), entryPosted, State.withRing_rings, Tab.get_upd_self,
    Ring.pass_cqN]

theorem writeEntry_hostMem (s : State) (id : Nat) :
    (writeEntry s id).hostMem =
      let j := s.job id
      let r := (s.ring j.part j.ring).pass j.n
      Mem.write 0 s.hostMem (hostPlace j.part (r.cqBase + 32 * (r.cqTail % r.entries))) (entryBytes r j (s.tu j.part j.count)) := by
  simp only [(writeEntry_entryPosted s id).hostMem (by decide), entryPosted, State.withRing_hostMem, State.hostWrite_hostMem,
    (acceptEntry_accepts s (s.job id)).hostMem (by decide)]

theorem writeEntry_mem (s : State) (id : Nat) : (writeEntry s id).mem = s.mem :=
  (writeEntry_writes (wm := 18253645440) (Writes.refl _ s) (by decide)).mem (by decide)

theorem writeEntry_chan (s : State) (id c : Nat) : (writeEntry s id).chan c = s.chan c :=
  State.chan_congr ((writeEntry_writes (wm := 18253645440) (Writes.refl _ s) (by decide)).dma (by decide)) c

/-- Accepting a charge counts in the stream total alone, among the Glossary's entries. -/
theorem acceptEntry_gv (s : State) (j : Job) {e : GE} (h : e.key ≠ gStreamBytesTotal.key) : (acceptEntry s j).gv e = s.gv e := by
  have hc : (acceptEntry s j).gv e = (addCounts s j).gv e := rfl
  rw [hc]
  unfold addCounts
  split
  · rfl
  · exact State.gvs_gsets_other _ (by omega)

theorem writeEntry_gv (s : State) (id : Nat) {e : GE} (h : e.key ≠ gStreamBytesTotal.key) : (writeEntry s id).gv e = s.gv e := by
  have hg : (writeEntry s id).gls = (acceptEntry s (s.job id)).gls := by
    simp only [(writeEntry_entryPosted s id).gls (by decide), entryPosted, State.withRing_gls, State.hostWrite_gls]
  have ha := acceptEntry_gv s (s.job id) h
  simp only [State.gv, State.gvs, hg] at ha ⊢
  exact ha

/-- In L0, with metering open, a completion of a job that is not ORDERED posts its entry and squashes nothing. -/
theorem complete_writeEntry {s : State} {id : Nat} (hl : s.link.state = .l0) (hm : s.meter.accepting = true)
    (ho : (s.job id).d.ordered = false) : complete s id = writeEntry s id := by
  simp [complete, hl, hm, post, ho]

/-! ### The channel lent to a job returned (10 R380, R403) -/

theorem returnChannel_chan {s : State} {id c : Nat} (h : (s.job id).chan = some c) : (returnChannel s id).chan c = {} := by
  unfold returnChannel
  simp only [h]
  exact Tab.get_erase_self {} s.dma.chans c

theorem returnChannel_linkState (s : State) (id : Nat) : (returnChannel s id).link.state = s.link.state := by
  unfold returnChannel
  split <;> rfl

/-- A channel's return touches the link's reads, the table of channels and the job that held it. -/
theorem returnChannel_returns (s : State) (id : Nat) : Writes 4195456 s (returnChannel s id) :=
  returnChannel_writes (Writes.refl _ s) (by decide)

/-! ### Read-backs of jobs (01 R38, 10 R401, R402) -/

/-- A job that any phase but the first has reached stands in the table. -/
theorem State.find_of_phase {s : State} {id : Nat} (h : (s.job id).phase ≠ .waitCtx) : (s.jobs.find id).isNone = false := by
  cases hf : s.jobs.find id with
  | none => exact absurd (by simp [State.job, Tab.get, hf]) h
  | some j => rfl

/-- A finished job, not ORDERED, whose result is written through the channel lent to it, while nothing holds its completion back: the
link is in L0 and metering is open. -/
structure ResultOut (s : State) (id : Nat) : Prop where
  finished : (s.job id).phase = .finished
  free : s.link.heldPosts.contains id = false
  out : (s.job id).out ≠ []
  lent : (s.job id).chan.isSome = true
  l0 : s.link.state = .l0
  accepting : s.meter.accepting = true
  unordered : (s.job id).d.ordered = false

/-- A result written under its partition's routing ID, and the channel that carried it returned. -/
def resultWritten (s : State) (id : Nat) : State :=
  returnChannel (s.hostWrite (s.job id).part (s.job id).d.resAddr (s.job id).out) id

theorem resultWritten_job (s : State) (id k : Nat) :
    (resultWritten s id).job k = if k = id then { s.job id with chan := none } else s.job k :=
  returnChannel_job _ id k

theorem resultWritten_hostMem (s : State) (id : Nat) :
    (resultWritten s id).hostMem = Mem.write 0 s.hostMem (hostPlace (s.job id).part (s.job id).d.resAddr) (s.job id).out :=
  (returnChannel_returns _ id).hostMem (by decide)

theorem resultWritten_mem (s : State) (id : Nat) : (resultWritten s id).mem = s.mem := (returnChannel_returns _ id).mem (by decide)

theorem resultWritten_rings (s : State) (id : Nat) : (resultWritten s id).rings = s.rings :=
  (returnChannel_returns _ id).rings (by decide)

theorem resultWritten_meter (s : State) (id : Nat) : (resultWritten s id).meter = s.meter :=
  (returnChannel_returns _ id).meter (by decide)

theorem resultWritten_gls (s : State) (id : Nat) : (resultWritten s id).gls = s.gls := (returnChannel_returns _ id).gls (by decide)

theorem resultWritten_linkState (s : State) (id : Nat) : (resultWritten s id).link.state = s.link.state :=
  returnChannel_linkState _ id

/-- The read-back of a result that was written: when it fails it is counted and the status becomes DMA_BUS_ERROR, and in both cases the
completion is due. -/
theorem ResultOut.jobReadBack_eq {s : State} {id : Nat} (h : ResultOut s id) (ok : Bool) :
    jobReadBack s id ok = complete (if ok then resultWritten s id else
      ((resultWritten s id).bump gDmaReadbackFail).withJob id (fun j => { j with status := 0x3003, out := [], timeClass := 6 })) id := by
  have hf := State.find_of_phase (s := s) (id := id) (by simp [h.finished])
  obtain ⟨c, hc⟩ := Option.isSome_iff_exists.mp h.lent
  have ho : (s.job id).out.isEmpty = false := by simp [h.out]
  have hw : wroteHost (s.job id) = true := by simp [wroteHost, ho]
  unfold jobReadBack
  simp only [hf, h.finished, h.free, hw, h.l0, ho, hc]
  cases ok <;> simp [resultWritten]

/-- A job whose result needs a channel that it has not been lent makes nothing due. -/
theorem jobReadBack_unlent {s : State} {id : Nat} (ok : Bool) (ho : (s.job id).out ≠ []) (hc : (s.job id).chan = none) :
    jobReadBack s id ok = s := by
  have hw : wroteHost (s.job id) = true := by simp [wroteHost, ho]
  unfold jobReadBack
  simp [hw, ho, hc]

/-- A read-back that succeeds posts the entry. -/
theorem ResultOut.jobReadBack_ok {s : State} {id : Nat} (h : ResultOut s id) :
    jobReadBack s id true = writeEntry (resultWritten s id) id := by
  rw [h.jobReadBack_eq, if_pos rfl]
  refine complete_writeEntry ?_ ?_ ?_
  · rw [resultWritten_linkState, h.l0]
  · rw [resultWritten_meter, h.accepting]
  · rw [resultWritten_job, if_pos rfl]; exact h.unordered

/-- One that fails posts the entry with its own status. -/
theorem ResultOut.jobReadBack_failed {s : State} {id : Nat} (h : ResultOut s id) :
    jobReadBack s id false = writeEntry (((resultWritten s id).bump gDmaReadbackFail).withJob id
      (fun j => { j with status := 0x3003, out := [], timeClass := 6 })) id := by
  rw [h.jobReadBack_eq, if_neg Bool.false_ne_true]
  refine complete_writeEntry ?_ ?_ ?_
  · exact (resultWritten_linkState s id).trans h.l0
  · exact (congrArg Meter.accepting (resultWritten_meter s id)).trans h.accepting
  · rw [State.job_withJob]
    exact (congrArg (fun j => j.d.ordered) ((resultWritten_job s id id).trans (if_pos rfl))).trans h.unordered

/-- What the entry of a job says does not depend on the channel that was lent to it. -/
theorem resultWritten_entry (s : State) (id : Nat) (r : Ring) :
    entryBytes r ((resultWritten s id).job id) ((resultWritten s id).tu ((resultWritten s id).job id).part
      ((resultWritten s id).job id).count) = entryBytes r (s.job id) (s.tu (s.job id).part (s.job id).count) := by
  rw [resultWritten_job, if_pos rfl]
  simp only [State.tu, State.weight, resultWritten_meter]
  rfl

/-! ### Failed and abandoned reads (03 R131, R132) -/

theorem partialCounts_job_other (s : State) {id k : Nat} (h : k ≠ id) : (partialCounts s id).job k = s.job k := by
  unfold partialCounts
  extract_lets j l lo
  by_cases hq : isSquadOp j.d.opcode = true
  · rw [if_pos hq]
    by_cases hr : j.phase = .running
    · rw [if_pos hr]
      exact State.job_withJob_other s.drawNat.2 _ h
    · rw [if_neg hr]
      exact State.job_withJob_other s _ h
  · rw [if_neg hq]
    split <;> exact State.job_withJob_other s _ h

/-- A job with a read out, which fails, ends DMA_BUS_ERROR; what it has counted of its steps is its own. -/
theorem failJobRead_ended {s : State} {id : Nat} (h : s.link.reads.any (fun r => r.who == .job id) = true) :
    Ended s (failJobRead s id) id 0x3003 [] 6 := by
  unfold failJobRead
  rw [if_pos h]
  refine ⟨(finish_ended _ id 0x3003 [] 6).1, fun k hk => ?_⟩
  rw [finish_job, if_neg hk]
  split
  · have hz : (zeroFill s (s.job id)).jobs = s.jobs :=
      (zeroFill_writes (wm := 17179869184) (Writes.refl _ s) (by decide)).jobs (by decide)
    rw [partialCounts_job_other _ hk, State.job_congr hz]
  · rfl

/-- A read reference of a job in the table fails as the job's read. -/
theorem failRead_job {s : State} {id : Nat} (h : (s.jobs.find id).isNone = false) : failRead s (.job id) = failJobRead s id := by
  simp [failRead, h]

/-! ### The commands -/

theorem exec_readBackDone_job {s : State} (id : Nat) (ok : Bool) (h : s.mainUp = true) :
    exec (.readBackDone (.job id) ok) s = .next (jobReadBack s id ok) :=
  if_neg (by simp [h])

theorem exec_readBackDone_channel {s : State} (c : Nat) (ok : Bool) (h : s.mainUp = true) :
    exec (.readBackDone (.channel c) ok) s = .next (chanReadBack s c ok) :=
  if_neg (by simp [h])

theorem exec_hostReadError (s : State) (who : ReadRef) : exec (.hostReadError who) s = .next (failRead s who) := rfl

theorem exec_completionTimeout_due {s : State} {who : ReadRef} (hd : s.link.ctoDisable = false)
    (ht : readDue s who (ctoTicks s.link.ctoValue) = true) : exec (.completionTimeout who) s = .next (failRead s who) :=
  if_pos (by simp [hd, ht])

theorem exec_readAbandoned_due {s : State} {who : ReadRef} (hd : s.link.ctoDisable = true)
    (ht : readDue s who (secTicks 1) = true) : exec (.readAbandoned who) s = .next (failRead s who) :=
  if_pos (by simp [hd, ht])

/-! ### The obligation -/

/-- A read-back that succeeds: result and entry stand in host memory, the ring's index advances, job and channel are gone. -/
theorem ResultOut.readBackDone_posts {s : State} {id : Nat} (h : ResultOut s id) (hm : s.mainUp = true) :
    let j := s.job id
    let r := (s.ring j.part j.ring).pass j.n
    ∃ t, exec (.readBackDone (.job id) true) s = .next t ∧ t.jobs.find id = none ∧
      (t.ring j.part j.ring).cqN = (s.ring j.part j.ring).cqN + 1 ∧
      t.hostMem = Mem.write 0 (Mem.write 0 s.hostMem (hostPlace j.part j.d.resAddr) j.out)
        (hostPlace j.part (r.cqBase + 32 * (r.cqTail % r.entries))) (entryBytes r j (s.tu j.part j.count)) ∧
      (∀ k, k ≠ id → t.job k = s.job k) ∧ t.mem = s.mem ∧ t.chan ((j.chan).getD 0) = {} := by
  intro j r
  have hj : (resultWritten s id).job id = { j with chan := none } := (resultWritten_job s id id).trans (if_pos rfl)
  have hpart : ((resultWritten s id).job id).part = j.part := by rw [hj]
  have hring : ((resultWritten s id).job id).ring = j.ring := by rw [hj]
  have hn : ((resultWritten s id).job id).n = j.n := by rw [hj]
  have hr : (resultWritten s id).ring j.part j.ring = s.ring j.part j.ring := by simp only [State.ring, resultWritten_rings]
  refine ⟨writeEntry (resultWritten s id) id, ?_, writeEntry_find_self _ id, ?_, ?_, ?_, ?_, ?_⟩
  · rw [exec_readBackDone_job id true hm, h.jobReadBack_ok]
  · have hc := writeEntry_cqN (resultWritten s id) id
    rw [hpart, hring, hr] at hc
    exact hc
  · have hh := writeEntry_hostMem (resultWritten s id) id
    dsimp only at hh
    rw [resultWritten_entry, hpart, hring, hn, hr, resultWritten_hostMem] at hh
    exact hh
  · intro k hk
    rw [writeEntry_job_other _ hk, resultWritten_job, if_neg hk]
  · rw [writeEntry_mem, resultWritten_mem]
  · obtain ⟨c, hc⟩ := Option.isSome_iff_exists.mp h.lent
    rw [writeEntry_chan, show j.chan = some c from hc]
    exact returnChannel_chan hc

/-- A read-back that fails: it is counted, and the job is gone all the same. -/
theorem ResultOut.readBackDone_fails {s : State} {id : Nat} (h : ResultOut s id) (hm : s.mainUp = true) :
    ∃ t, exec (.readBackDone (.job id) false) s = .next t ∧ t.jobs.find id = none ∧
      t.gv gDmaReadbackFail = (s.gv gDmaReadbackFail + 1) % 2 ^ 64 ∧ (∀ k, k ≠ id → t.job k = s.job k) ∧ t.mem = s.mem := by
  refine ⟨_, (exec_readBackDone_job id false hm).trans (congrArg _ h.jobReadBack_failed), writeEntry_find_self _ id, ?_, ?_, ?_⟩
  · have hg : (resultWritten s id).gv gDmaReadbackFail = s.gv gDmaReadbackFail := by
      simp only [State.gv, State.gvs, resultWritten_gls]
    rw [writeEntry_gv _ id (by decide), ← hg]
    exact State.gv_bump _ _
  · intro k hk
    rw [writeEntry_job_other _ hk, State.job_withJob_other _ _ hk]
    exact (resultWritten_job s id k).trans (if_neg hk)
  · rw [writeEntry_mem]
    exact resultWritten_mem s id

/-- A job's read that fails by an error, a due timeout or a due abandonment ends the job. -/
theorem exec_failedRead {s : State} {id : Nat} {c : Instr} (hp : (s.job id).phase ≠ .waitCtx)
    (hc : c = .hostReadError (.job id) ∨
      (c = .completionTimeout (.job id) ∧ s.link.ctoDisable = false ∧ readDue s (.job id) (ctoTicks s.link.ctoValue) = true) ∨
      (c = .readAbandoned (.job id) ∧ s.link.ctoDisable = true ∧ readDue s (.job id) (secTicks 1) = true)) :
    exec c s = .next (failJobRead s id) := by
  rw [← failRead_job (State.find_of_phase hp)]
  rcases hc with rfl | ⟨rfl, hd, ht⟩ | ⟨rfl, hd, ht⟩
  · exact exec_hostReadError s _
  · exact exec_completionTimeout_due hd ht
  · exact exec_readAbandoned_due hd ht

/-- Settles O14: each clause is the lemma above about its command; the frame of a channel's record is what the record may write. -/
theorem readBacksAndFailedReads : Obligations.ReadBacksAndFailedReads := by
  unfold Obligations.ReadBacksAndFailedReads
  refine ⟨?_, ?_, ?_, ?_, ?_⟩
  · intro s c k ok hm hcur
    obtain ⟨hnone, hhead, hcq⟩ := chanReadBack_chan ok hcur
    have hw : Writes 3258974208 s (chanReadBack s c ok) := chanReadBack_writes (Writes.refl _ s) (by decide)
    exact ⟨_, exec_readBackDone_channel c ok hm, hnone, hhead, hcq, hw.hostMem (by decide), hw.jobs (by decide)⟩
  · intro s id hm hp hh ho hc hl ha hu
    exact ResultOut.readBackDone_posts ⟨hp, hh, ho, hc, hl, ha, hu⟩ hm
  · intro s id ok ho hc hm
    rw [exec_readBackDone_job id ok hm, jobReadBack_unlent ok ho hc]
  · intro s id hm hp hh ho hc hl ha hu
    exact ResultOut.readBackDone_fails ⟨hp, hh, ho, hc, hl, ha, hu⟩ hm
  · intro s id c hp hread hc
    have hw : (s.job id).phase ≠ .waitCtx := by rcases hp with hp | hp <;> simp [hp]
    exact ⟨_, exec_failedRead hw hc, failJobRead_ended hread⟩

end Sys2Proof.Machine
end

section
/-! PROOF. Supplies that arrive, fall and return (02 R71 to R84; 18 R661, R673, R678; 19 R690, R694): what each island's clock is marked
after a throttle, what a mode entered leaves standing, and what an ASSAY that resumes nothing keeps. -/

namespace Sys2Proof.Machine

open Sys2Proof

/-! ### The mode that a command leaves (18 R659) -/

/-- Every field of State but `power` and `mode` (bits 2 and 6), in the numbering of `Writes`. -/
def besidePowerAndMode : Nat := 34359738299

/-- Every field of State but `power`, `mode` and `life` (bits 2, 6 and 28). -/
def besidePowerModeLife : Nat := 34091302843

theorem State.modeNum_congr {s t : State} (h : t.mode.code = s.mode.code) : t.modeNum = s.modeNum := by
  rw [State.modeNum, State.modeNum, h]

theorem modeOfCode_modeCode {m : Nat} (h : m < 8) : modeOfCode (modeCode m) = m := by
  decide +revert

theorem enterMode_modeNum (s : State) {m : Nat} (forced : Bool) (cause : Nat) (h : m < 8) : (enterMode s m forced cause).modeNum = m := by
  rw [State.modeNum, enterMode_mode]
  exact modeOfCode_modeCode h

/-- What entering a mode can touch: the mode and what tells of it, no supply, no island, no key (18 R659). -/
theorem enterMode_tells (s : State) (m : Nat) (forced : Bool) (cause : Nat) : Writes 1208516832 s (enterMode s m forced cause) :=
  enterMode_writes (Writes.refl _ s) (by decide)

theorem enterMode_power (s : State) (m : Nat) (forced : Bool) (cause : Nat) : (enterMode s m forced cause).power = s.power :=
  (enterMode_tells s m forced cause).power (by decide)

/-- Of the Glossary's values, a mode entered raises mode.transitions alone. -/
theorem enterMode_gv (s : State) (m : Nat) (forced : Bool) (cause : Nat) {e : GE} (h : e.key ≠ gModeTransitions.key) :
    (enterMode s m forced cause).gv e = s.gv e := by
  have hr : ∀ u : State, (refreshTag u).gls = u.gls := fun u => (refreshTag_writes (wm := 134217728) (Writes.refl _ u) (by decide)).gls (by decide)
  have hn : ∀ u : State, (noteFlag u 7).gls = u.gls := fun u => (noteFlag_writes (wm := 32768) (Writes.refl _ u) (by decide)).gls (by decide)
  have hm : ∀ u : State, (u.msix 0 0).gls = u.gls := fun u => (State.msix_writes (wm := 128) (Writes.refl _ u) (by decide)).gls (by decide)
  have hg : (enterMode s m forced cause).gls = (s.bump gModeTransitions).gls := by
    unfold enterMode
    split <;> simp [hr, hn, hm, State.gvs]
  rw [State.gv, State.gvs, hg]
  exact State.gvs_gsets_other s (by omega)

/-! ### Clocks throttled (02 R71, R79) -/

/-- The state of an island once its clock is marked as the supplies have it: an island that is struck or lost stays so. -/
def throttledState (p : Power) (n v : Nat) : Nat := if v ≤ 1 then b2n (slowed p n) else v

/-- One island's mark, as `setThrottle` makes it. -/
def markIsl (s : State) (n : Nat) : State :=
  if s.isl n ≤ 1 ∧ s.isl n ≠ b2n (slowed s.power n) then s.setIsl n (b2n (slowed s.power n)) else s

theorem b2n_le_one (b : Bool) : b2n b ≤ 1 := by cases b <;> decide

theorem throttledState_idem (p : Power) (n v : Nat) : throttledState p n (throttledState p n v) = throttledState p n v := by
  by_cases h : v ≤ 1
  · simp [throttledState, h, b2n_le_one]
  · simp [throttledState, h]

theorem markIsl_eq (s : State) (n : Nat) : markIsl s n = { s with islands := (markIsl s n).islands } := by
  unfold markIsl
  split <;> rfl

theorem markIsl_isl (s : State) (n k : Nat) :
    (markIsl s n).isl k = if k = n then throttledState s.power k (s.isl k) else s.isl k := by
  unfold markIsl throttledState
  by_cases hk : k = n
  · subst hk
    rw [if_pos rfl]
    split
    · next h => rw [State.isl_setIsl, if_pos h.1]
    · next h =>
      split
      · next hle => exact not_not.mp fun hne => h ⟨hle, hne⟩
      · rfl
  · rw [if_neg hk]
    split
    · exact State.isl_setIsl_other s _ hk
    · rfl

/-- Marks change no field but the islands. -/
theorem foldl_markIsl_eq (l : List Nat) (s : State) : l.foldl markIsl s = { s with islands := (l.foldl markIsl s).islands } := by
  induction l generalizing s with
  | nil => rfl
  | cons n l ih =>
    have h := ih (markIsl s n)
    rw [markIsl_eq s n] at h
    rw [List.foldl_cons, markIsl_eq s n]
    exact h

theorem foldl_markIsl_isl (l : List Nat) (s : State) (k : Nat) :
    (l.foldl markIsl s).isl k = if k ∈ l then throttledState s.power k (s.isl k) else s.isl k := by
  induction l generalizing s with
  | nil => rfl
  | cons n l ih =>
    have hp : (markIsl s n).power = s.power := by rw [markIsl_eq]
    rw [List.foldl_cons, ih, hp, markIsl_isl]
    by_cases hk : k = n
    · simp [hk, throttledState_idem]
    · simp [hk]

/-- TICK set over to the rate that the supplies now give, before the islands are marked. -/
def rebased (s : State) : State := { s with free := s.free + 1, verb := { s.verb with units := s.verb.units.mapVals (rebaseTick s) } }

theorem setThrottle_marks (s : State) : setThrottle s = (List.range 244).foldl markIsl (rebased s) := rfl

theorem setThrottle_eq (s : State) : setThrottle s = { rebased s with islands := (setThrottle s).islands } := foldl_markIsl_eq _ _

theorem setThrottle_isl (s : State) (k : Nat) :
    (setThrottle s).isl k = if k < 244 then throttledState s.power k (s.isl k) else s.isl k := by
  rw [setThrottle_marks, foldl_markIsl_isl]
  simp [rebased, State.isl]

theorem setThrottle_power (s : State) : (setThrottle s).power = s.power := by
  rw [setThrottle_eq, rebased]

/-! ### The 60 W cap (02 R71, R72; 18 R677, R678) -/

theorem limit60_power (s : State) (on : Bool) : (limit60 s on).power = { s.power with cap60 := on } := by
  rw [limit60, State.gset_power, setThrottle_power, State.withPower_power]

theorem limit60_cap (s : State) (on : Bool) : (limit60 s on).gv gModePowerCap = if on then 60 else fullCap s :=
  State.gv_gset _ _ _

/-- What a change of the supplies reaches through the cap: the islands' clocks with the cores' TICK, and the Glossary. -/
theorem limit60_frame (s : State) (f : Power → Power) (on : Bool) :
    { limit60 (s.withPower f) on with power := s.power, islands := s.islands, verb := s.verb, gls := s.gls, free := s.free } = s := by
  rw [limit60, setThrottle_eq]
  rfl

theorem leanOn_power (s : State) (cause : Nat) : (leanOn s cause).power = { s.power with cap60 := true } := by
  have h : (strikeLean s).power = s.power := (strikeLean_writes (wm := 2185250032) (Writes.refl _ s) (by decide)).power (by decide)
  rw [leanOn, limit60_power, State.gset_power, h]

theorem leanOn_cause (s : State) (cause : Nat) : (leanOn s cause).gv gModeLeanCause = cause := by
  have h : ∀ u : State, (limit60 u true).gv gModeLeanCause = u.gv gModeLeanCause := fun u => by
    have hg : (limit60 u true).gls = (u.gset gModePowerCap 60).gls := by
      rw [limit60, State.gset_gls, setThrottle_eq]
      rfl
    rw [State.gv, State.gvs, hg]
    exact State.gvs_gsets_other u (by decide)
  rw [leanOn, h, State.gv_gset]

/-! ### From the cell to DORMANT (19 R690, R691) -/

/-- The supply state once a rail has come. -/
def railCame (p : Power) : Rail → Power
  | .aux33 => { p with aux33 := true, source := .aux33 }
  | .main12 => { p with main12 := true, source := .main12 }

/-- The choice of an image settles whether there is one, and no mode. -/
theorem selectImage_code (s : State) : (selectImage s).mode.code = s.mode.code := by
  have hr : ∀ (u : State) (k : Nat), (runImage u k).mode = u.mode := fun u k => (runImage_writes (wm := 1107296416) (Writes.refl _ u) (by decide)).mode (by decide)
  have hm : ∀ u : State, u.msixAlert.mode = u.mode := fun u => (State.msixAlert_writes (wm := 128) (Writes.refl _ u) (by decide)).mode (by decide)
  unfold selectImage
  dsimp only
  split
  · rfl
  · split <;> simp [hr, hm]

/-- Without a host supply, a rail that comes ends in the entry to DORMANT; until then only the supply state tells of it. -/
theorem exec_supplyArrival (rail : Rail) {s : State} (h : s.hostSupply = false) :
    ∃ u, exec (.supplyArrival rail) s = .next (enterMode u 1 true 8) ∧ u.mode.code = s.mode.code ∧ u.power = railCame s.power rail := by
  change ∃ u, execSupplyArrival rail s = _ ∧ _
  unfold execSupplyArrival
  rw [h]
  extract_lets s0 s1 s2 s3 s4 s5 s6 s7 s8 s9
  have h0 : s0.mode = s.mode ∧ s0.power = railCame s.power rail := by cases rail <;> exact ⟨rfl, rfl⟩
  have h3 : Writes besidePowerAndMode s0 s3 := State.withClock_writes (resolveMarks_writes (checkSt_writes (powerUpRec_writes
    (State.withClock_writes (Writes.foldl (Writes.refl _ _) fun u hu n => State.setIsl_writes hu (by decide)) (by decide))
    (by decide)) (by decide)) (by decide)) (by decide)
  have h4 : Writes besidePowerAndMode s0 s4 := Writes.ite (rootInvalid_writes h3 (by decide)) h3
  have h5 : Writes besidePowerAndMode s0 (s5.withVerb fun v => { v with duty := 0 }) :=
    State.withVerb_writes (startPath_writes (State.gset_writes h4 (by decide)) (by decide)) (by decide)
  have h6 : s6.mode.code = s.mode.code ∧ s6.power = railCame s.power rail := by
    refine ⟨?_, ?_⟩
    · rw [show s6 = selectImage _ from rfl, selectImage_code, h5.mode (by decide), h0.1]
    · rw [(selectImage_writes (wm := 1107296480) (Writes.refl _ _) (by decide)).power (by decide), h5.power (by decide), h0.2]
  have h8 : Writes besidePowerAndMode s6 s8 := handover_writes (sntHandover_writes (resetCore_writes (resetCore_writes
    (Writes.refl _ s6) (by decide)) (by decide)) (by decide)) (by decide)
  have h9 : Writes besidePowerAndMode s6 (newUid (noteBudget s9)) := newUid_writes (noteBudget_writes
    (Writes.ite (State.withTamper_writes (actionRec_writes h8 (by decide)) (by decide)) h8) (by decide)) (by decide)
  exact ⟨_, rfl, (congrArg ModeSt.code (h9.mode (by decide))).trans h6.1, (h9.power (by decide)).trans h6.2⟩

/-! ### The fall to SENTINEL (18 R673, 20 R720) -/

/-- What a fall to the cell leaves, from a state whose supplies are noted: SENTINEL, no core at work and no guard loaded. -/
structure FallsToCell (s t : State) : Prop where
  modeNum : t.modeNum = 0
  power : t.power = { s.power with source := .cell, wake := false, cap60 := false, hotDies := [] }
  units : t.verb.units = []
  guards : t.guards = []

/-- What the cell no longer holds is no concern of mode, supplies, cores and guards. -/
theorem FallsToCell.cellGone {s t : State} (h : FallsToCell s t) : FallsToCell s (cellGone t) := ⟨h.modeNum, h.power, h.units, h.guards⟩

theorem toSentinel_falls (s : State) : FallsToCell s (toSentinel s) := by
  unfold toSentinel
  extract_lets s1 s2 s3 s4 s5 s6 s7 s8 _ _ s9 s10 s11
  have h2 : Writes besidePowerAndMode s s2 :=
    strikeIsl_writes (destroyVolatile_writes (closeAllGap_writes (Writes.refl _ s) (by decide)) (by decide)) (by decide)
  have hp3 : s3.power = s.power := (enterMode_power s2 0 true 6).trans (h2.power (by decide))
  have h5 : Writes besidePowerAndMode s3 s5 := State.withCode_writes (Writes.foldl (handover_writes (Writes.refl _ s3) (by decide))
    fun u hu e => Writes.ite (cutProgram_writes hu (by decide)) hu) (by decide)
  have h8 : Writes besidePowerAndMode s3 s8 :=
    Writes.foldl (Writes.foldl (State.withVault_writes h5 (by decide)) fun u hu c => State.withNoise_writes hu (by decide))
      fun u hu e => State.withExp_writes hu (by decide)
  have hm : s8.modeNum = 0 := by
    rw [State.modeNum_congr (congrArg ModeSt.code (h8.mode (by decide)))]
    exact enterMode_modeNum s2 true 6 (by decide)
  have hp : s8.power = s.power := (h8.power (by decide)).trans hp3
  clear_value s8
  have h11 : FallsToCell s s11 := by
    refine ⟨hm, ?_, rfl, rfl⟩
    rw [← hp]
    rfl
  split
  · exact h11.cellGone
  · exact h11

/-- Of what a cut of +12V touches, no supply, no partition, no ring and no host memory (18 R673, 19 Table 9). -/
theorem cutMain_cuts (s : State) : Writes 3891909864 s (cutMain s) := cutMain_writes (Writes.refl _ s) (by decide)

theorem flashCut_cuts (s : State) (was12 : Bool) : Writes 2211468448 s (flashCut s was12) := flashCut_writes (Writes.refl _ s) (by decide)

theorem toDormant_modeNum (s : State) : (toDormant s).modeNum = 1 := by
  rw [toDormant]
  exact enterMode_modeNum _ _ _ (by decide)

theorem exec_cut_dormant {s : State} (h12 : s.power.main12 = true) (hm : s.mainUp = true) (h33 : s.power.aux33 = true) :
    exec .cut s = .next (toDormant (cutMain (s.withPower fun p => { p with main12 := false, source := .aux33 }))) := by
  change execCut s = _
  simp [execCut, h12, hm, h33, State.withPower]

/-- Without 3.3Vaux, a cut falls to the cell from a state whose supplies stand as they were, but for +12V. -/
theorem exec_cut_sentinel {s : State} (h12 : s.power.main12 = true) (h33 : s.power.aux33 = false) :
    ∃ u, exec .cut s = .next (toSentinel u) ∧ u.power = { s.power with main12 := false } := by
  have e : (s.withPower fun p => { p with main12 := false, source := if p.aux33 then .aux33 else p.source }) =
      s.withPower fun p => { p with main12 := false } := by simp [State.withPower, h33]
  change ∃ u, execCut s = _ ∧ _
  unfold execCut
  rw [e]
  by_cases hm : s.mainUp
  · refine ⟨cutMain (s.withPower fun p => { p with main12 := false }), ?_, (cutMain_cuts _).power (by decide)⟩
    simp [h12, h33, hm]
  · refine ⟨flashCut (s.withPower fun p => { p with main12 := false }) true, ?_, (flashCut_cuts _ _).power (by decide)⟩
    simp [h12, h33, hm]

/-- The loss of both supplies falls to the cell from a state that differs in nothing that a cut of +12V does not touch. -/
theorem exec_suppliesLost {s : State} (h : s.hostSupply = true) :
    ∃ u, exec .suppliesLost s = .next (toSentinel u) ∧ u.power = { s.power with aux33 := false, main12 := false } ∧ Writes 3891909868 s u := by
  change ∃ u, execSuppliesLost s = _ ∧ _
  unfold execSuppliesLost
  simp only [h, Bool.not_true, Bool.false_eq_true, if_false]
  refine ⟨_, rfl, ?_⟩
  have hw : Writes 3891909868 s (s.withPower fun p => { p with aux33 := false, main12 := false }) :=
    State.withPower_writes (Writes.refl _ s) (by decide)
  split
  · exact ⟨(cutMain_cuts _).power (by decide), cutMain_writes hw (by decide)⟩
  · exact ⟨(flashCut_cuts _ _).power (by decide), flashCut_writes hw (by decide)⟩

/-! ### ASSAY from DORMANT (19 R694) -/

theorem mapSpare_change (s : State) (x : Spare) : (mapSpare s x).life.change = s.life.change := by
  unfold mapSpare
  split
  · rw [(loseIsland_writes (wm := 3258996400) (Writes.refl _ s) (by decide)).life (by decide)]
  · rfl

/-- The self-test's findings leave a lifecycle change where it stands. -/
theorem applyReport_change (s : State) (r : AssayReport) : (applyReport s r).life.change = s.life.change := by
  unfold applyReport
  extract_lets s1 s2 s3 s4 s5 s6
  have h1 : s1.life.change = s.life.change :=
    List.foldlRecOn (motive := fun u : State => u.life.change = s.life.change) _ _ rfl fun u hu x _ => (mapSpare_change u x).trans hu
  have h3 : Writes 3258996400 s1 s3 := Writes.foldl
    (Writes.foldl (Writes.refl _ s1) fun u hu e => Writes.ite (failLane_writes hu (by decide)) hu)
    fun u hu q => Writes.ite (loseSquad_writes hu (by decide)) hu
  have h5 : Writes 3258996400 s1 s5 := State.gset_writes
    (Writes.foldl h3 fun u hu q => loseSquad_writes (State.withSquad_writes hu (by decide)) (by decide)) (by decide)
  have h6 : Writes 3258996400 s1 s6 := Writes.foldl h5 fun u hu n => loseIsland_writes hu (by decide)
  have h7 := Writes.foldl (l := [0, 2].filter fun u => 2 ≤ s6.isl (200 + u) ∨ 2 ≤ s6.isl (201 + u)) h6
    fun u hu n => State.withVerb_writes (f := fun v => { v with out := addUnique n v.out }) hu (by decide)
  rw [h7.life (by decide), h1]

/-- What the steps of an ASSAY hold to when there is no changeover to end and no lifecycle change to resume. -/
structure AssayHolds (s t : State) : Prop where
  code : t.mode.code = s.mode.code
  changeover : t.mode.changeover = none
  change : t.life.change = none
  main12 : t.power.main12 = s.power.main12

/-- A step that does not write the mode holds to it if it keeps the change and +12V. -/
theorem AssayHolds.of_mode {s t u : State} (h : AssayHolds s t) (hm : u.mode = t.mode) (hl : u.life.change = t.life.change)
    (hp : u.power.main12 = t.power.main12) : AssayHolds s u :=
  ⟨(congrArg ModeSt.code hm).trans h.code, (congrArg ModeSt.changeover hm).trans h.changeover, hl.trans h.change, hp.trans h.main12⟩

/-- A step that writes neither mode, supplies nor lifecycle holds to it. -/
theorem AssayHolds.of_writes {s t u : State} (h : AssayHolds s t) (hw : Writes besidePowerModeLife t u) : AssayHolds s u :=
  h.of_mode (hw.mode (by decide)) (congrArg Life.change (hw.life (by decide))) (congrArg Power.main12 (hw.power (by decide)))

theorem AssayHolds.limit60 {s t : State} (h : AssayHolds s t) (on : Bool) : AssayHolds s (limit60 t on) := by
  have hw : Writes 1107296278 t (Machine.limit60 t on) := limit60_writes (Writes.refl _ t) (by decide)
  exact h.of_mode (hw.mode (by decide)) (congrArg Life.change (hw.life (by decide))) (by rw [limit60_power])

theorem AssayHolds.applyReport {s t : State} (h : AssayHolds s t) (r : AssayReport) : AssayHolds s (applyReport t r) := by
  have hw : Writes 3527431856 t (Machine.applyReport t r) := applyReport_writes (Writes.refl _ t) (by decide)
  exact h.of_mode (hw.mode (by decide)) (applyReport_change t r) (congrArg Power.main12 (hw.power (by decide)))

theorem AssayHolds.endChangeover {s t : State} (h : AssayHolds s t) : endChangeover t = t := by
  rw [Machine.endChangeover, h.changeover]

theorem AssayHolds.resumeLife {s t : State} (h : AssayHolds s t) : resumeLife t = t := by
  rw [Machine.resumeLife, h.change]

/-- The measurement blocks stand in a field of their own. -/
theorem measure_eq (s : State) (ks : List Nat) : ∃ b, measure s ks = s.withMode fun m => { m with meas := b } := ⟨_, rfl⟩

/-- What an ASSAY leaves: the mode is the one that it began in, the self-test is noted as run, with its result by the units lost. -/
structure AssayRan (s t : State) : Prop where
  modeNum : t.modeNum = s.modeNum
  assayRun : t.mode.assayRun = true
  main12 : t.power.main12 = s.power.main12
  result : t.gv gBootResult = if t.gv gBootUnitsLost = 0 then 0 else 1
  role : t.mgmt.mbox.role = 2

/-- The result noted is that of the units lost noted. -/
theorem resultNoted_gv (s : State) (n : Nat) : ((s.gset gBootUnitsLost n).gset gBootResult (if n = 0 then 0 else 1)).gv gBootResult =
    if ((s.gset gBootUnitsLost n).gset gBootResult (if n = 0 then 0 else 1)).gv gBootUnitsLost = 0 then 0 else 1 := by
  have hn : ((s.gset gBootUnitsLost n).gset gBootResult (if n = 0 then 0 else 1)).gv gBootUnitsLost = n :=
    (State.gvs_gsets_other _ (by decide)).trans (State.gv_gset s gBootUnitsLost n)
  rw [State.gv_gset, hn]

theorem assaySteps_ran {s : State} (r : AssayReport) (fromDormant : Bool) (hc : s.mode.changeover = none) (hl : s.life.change = none) :
    AssayRan s (assaySteps s r fromDormant) := by
  unfold assaySteps
  extract_lets s1 s2 s3 s4 s5 s6 s7 s8 n
  have h0 : AssayHolds s s := ⟨rfl, hc, hl, rfl⟩
  have h1 : Writes besidePowerModeLife s s1 := hoistAll_writes (Writes.refl _ s) (by decide)
  have h2 : AssayHolds s (wipeAll s2) := h0.of_writes
    (wipeAll_writes (startNoise_writes (Writes.ite (startTimebase_writes h1 (by decide)) h1) (by decide)) (by decide))
  have h3 : AssayHolds s s3 := (congrArg (AssayHolds s) h2.endChangeover).mpr h2
  clear_value s3
  have h4 : AssayHolds s s4 := by
    obtain ⟨code, changeover, change, main12⟩ := h3.of_writes (startCores_writes (Writes.refl _ s3) (by decide))
    exact ⟨code, changeover, change, main12⟩
  clear_value s4
  have h5 : AssayHolds s s5 := ((h4.of_writes (State.gset_writes (Writes.refl _ s4) (by decide))).limit60 _).of_writes
    (loadGuards_writes (Writes.refl _ _) (by decide))
  clear_value s5
  have h6 : AssayHolds s s6 := by
    have h := h5.applyReport r
    rw [show s6 = rebuildKeys (resumeLife (applyReport s5 r)) from rfl, h.resumeLife]
    exact h.of_writes (rebuildKeys_writes (Writes.refl _ _) (by decide))
  clear_value s6
  have h7 : AssayHolds s s7 ∧ s7.mode.assayRun = true := by
    obtain ⟨code, changeover, change, main12⟩ := h6.of_writes (closeCut_writes (Writes.refl _ s6) (by decide))
    exact ⟨⟨code, changeover, change, main12⟩, rfl⟩
  clear_value s7
  obtain ⟨b, hb⟩ := measure_eq s7 [1, 2, 3, 4, 5, 6, 7, 8]
  have h8 : Writes besidePowerAndMode (s7.withMode fun m => { m with meas := b }) s8 := by
    rw [← hb]
    exact stepTen_writes (Writes.refl _ _) (by decide)
  have hm : s8.mode = { s7.mode with meas := b } := h8.mode (by decide)
  have hp : s8.power = s7.power := h8.power (by decide)
  clear_value n s8
  refine ⟨?_, ?_, ?_, ?_, rfl⟩
  · exact State.modeNum_congr ((congrArg ModeSt.code hm).trans h7.1.code)
  · exact (congrArg ModeSt.assayRun hm).trans h7.2
  · exact (congrArg Power.main12 hp).trans h7.1.main12
  · exact resultNoted_gv _ n

theorem exec_assay {s : State} (r : AssayReport) (hm : s.modeNum = 1) (hi : s.mode.noImage = false) : exec (.assay r) s =
    .next (assaySteps (enterMode (s.withPower fun p => { p with main12 := true }) 2 true 9) r true) := by
  change execAssay r s = _
  simp [execAssay, hm, hi]

/-! ### The cell and the always-on supply (02 R73, R84) -/

theorem exec_cellExhausted {s : State} (h : s.hostSupply = false) :
    exec .cellExhausted s = .next (cellGone (s.withPower fun p => { p with cellExhausted := true })) := by
  change execCellExhausted s = _
  simp [execCellExhausted, h]

theorem exec_alwaysOnSupplyChange {s : State} (present : Bool) (h12 : s.power.main12 = true) (hs : s.hostSupply = true) :
    exec (.alwaysOnSupplyChange present) s =
      .next (s.withPower fun p => { p with aux33 := present, source := if present then .aux33 else .main12 }) := by
  change execAlwaysOnSupplyChange present s = _
  simp [execAlwaysOnSupplyChange, h12, hs]

/-! ### The auxiliary supply and a hot die (02 R71, R72, R79) -/

/-- The loss of the auxiliary supply in SERVE forces LEAN from a state that has given up its transition. -/
theorem exec_auxPowerLoss_serve {s : State} (h : s.modeNum = 3) :
    ∃ u, exec .auxPowerLoss s = .next (enterMode (leanOn u 3) 4 true 4) ∧ u.power.auxGood = false := by
  refine ⟨limit60 ((abortTrans s).withPower fun p => { p with auxGood := false }) true, ?_, by rw [limit60_power]; rfl⟩
  change Host.Outcome.next (auxLost s) = _
  simp [auxLost, h, State.mainUp]

/-- The auxiliary supply as its return leaves it: in range, through a plug fitted meanwhile where there was none. -/
def auxBack (p : Power) : Power := { p with auxGood := true, auxConn := if p.auxConn = .absent then .eightPin else p.auxConn }

theorem exec_auxPowerReturn_serve {s : State} (h : s.modeNum = 3) (hl : s.isLean = false) :
    exec .auxPowerReturn s = .next (limit60 (s.withPower auxBack) false) := by
  change execAuxPowerReturn s = _
  unfold execAuxPowerReturn
  rw [if_neg (by simp [hl]), if_neg (by simp [h]), if_neg (by simp [hl]), if_pos (by simp [State.mainUp, h])]
  rfl

theorem fullCap_auxBack (s : State) : fullCap (s.withPower auxBack) = if s.power.auxConn = .sixPin then 135 else 150 := by
  cases h : s.power.auxConn <;> simp [fullCap, auxBack, h]

theorem exec_thermalOverload_hot {s : State} {die : Nat} (hd : die < 2) (hs : s.hostSupply = true) : exec (.thermalOverload die true) s =
    .next (setThrottle (s.withPower fun p => { p with hotDies := addUnique die p.hotDies })) := by
  change execThermalOverload die true s = _
  simp [execThermalOverload, hs, Nat.not_le.mpr hd]

theorem mem_addUnique (x : Nat) (l : List Nat) : x ∈ addUnique x l := by
  unfold addUnique
  split
  · next h => exact List.contains_iff_mem.mp h
  · simp

/-- A die that is hot has every clock of its islands throttled but TBS and SNT. -/
theorem slowed_of_hot {p : Power} {die n : Nat} (hd : die ∈ p.hotDies) (hn : (if n < 200 then 0 else 1) = die) (ht : n ≠ 194) (hs : n ≠ 243) :
    slowed p n = true := by
  subst hn
  simp [slowed, ht, hs, hd]

/-! ### What each event answers -/

theorem supplyArrival_answers_dormant (rail : Rail) {s : State} (h : s.hostSupply = false) :
    ∃ t, exec (.supplyArrival rail) s = .next t ∧ t.modeNum = 1 ∧ t.mode.previous = s.modeNum ∧ t.power = railCame s.power rail := by
  obtain ⟨u, hu, hcode, hpow⟩ := exec_supplyArrival rail h
  refine ⟨_, hu, enterMode_modeNum _ _ _ (by decide), ?_, (enterMode_power _ _ _ _).trans hpow⟩
  rw [enterMode_mode]
  exact State.modeNum_congr hcode

theorem cut_answers_sentinel {s : State} (h12 : s.power.main12 = true) (h33 : s.power.aux33 = false) :
    ∃ t, exec .cut s = .next t ∧ t.modeNum = 0 ∧ t.power.main12 = false ∧ t.power.source = .cell ∧ t.verb.units = [] ∧ t.guards = [] := by
  obtain ⟨u, hu, hp⟩ := exec_cut_sentinel h12 h33
  obtain ⟨hm, hpow, hunits, hguards⟩ := toSentinel_falls u
  rw [hp] at hpow
  exact ⟨_, hu, hm, congrArg Power.main12 hpow, congrArg Power.source hpow, hunits, hguards⟩

theorem suppliesLost_answers_sentinel {s : State} (hs : s.hostSupply = true) :
    ∃ t, exec .suppliesLost s = .next t ∧ t.modeNum = 0 ∧ t.power.main12 = false ∧ t.power.aux33 = false ∧ t.power.source = .cell ∧
      t.verb.units = [] ∧ t.rings = s.rings ∧ t.parts = s.parts ∧ t.hostMem = s.hostMem := by
  obtain ⟨u, hu, hp, hw⟩ := exec_suppliesLost hs
  obtain ⟨hm, hpow, hunits, -⟩ := toSentinel_falls u
  rw [hp] at hpow
  have hall : Writes 8321488126 s (toSentinel u) := toSentinel_writes (hw.mono (by decide)) (by decide)
  exact ⟨_, hu, hm, congrArg Power.main12 hpow, congrArg Power.aux33 hpow, congrArg Power.source hpow, hunits, hall.rings (by decide),
    hall.parts (by decide), hall.hostMem (by decide)⟩

theorem auxPowerLoss_forces_lean {s : State} (h : s.modeNum = 3) :
    ∃ t, exec .auxPowerLoss s = .next t ∧ t.modeNum = 4 ∧ t.power.auxGood = false ∧ t.power.cap60 = true ∧ t.gv gModeLeanCause = 3 := by
  obtain ⟨u, hu, hgood⟩ := exec_auxPowerLoss_serve h
  have hpow : (enterMode (leanOn u 3) 4 true 4).power = { u.power with cap60 := true } := by rw [enterMode_power, leanOn_power]
  refine ⟨_, hu, enterMode_modeNum _ _ _ (by decide), (congrArg Power.auxGood hpow).trans hgood, congrArg Power.cap60 hpow, ?_⟩
  rw [enterMode_gv _ _ _ _ (by decide), leanOn_cause]

theorem auxPowerReturn_lifts_cap {s : State} (h : s.modeNum = 3) (hl : s.isLean = false) :
    ∃ t, exec .auxPowerReturn s = .next t ∧ t.power.auxGood = true ∧ t.power.cap60 = false ∧
      t.gv gModePowerCap = (if s.power.auxConn = .sixPin then 135 else 150) ∧
      { t with power := s.power, islands := s.islands, verb := s.verb, gls := s.gls, free := s.free } = s := by
  have hpow := limit60_power (s.withPower auxBack) false
  exact ⟨_, exec_auxPowerReturn_serve h hl, congrArg Power.auxGood hpow, congrArg Power.cap60 hpow,
    (limit60_cap _ false).trans (fullCap_auxBack s), limit60_frame s auxBack false⟩

theorem cut_answers_dormant {s : State} (h12 : s.power.main12 = true) (hm : s.mainUp = true) (h33 : s.power.aux33 = true) :
    ∃ t, exec .cut s = .next t ∧ t.modeNum = 1 ∧ t.power.main12 = false ∧ t.power.source = .aux33 := by
  refine ⟨_, exec_cut_dormant h12 hm h33, toDormant_modeNum _, ?_⟩
  rw [(toDormant_writes (wm := 1210614002) (Writes.refl _ _) (by decide)).power (by decide), (cutMain_cuts _).power (by decide)]
  exact ⟨rfl, rfl⟩

theorem assay_answers_assay {s : State} (r : AssayReport) (hm : s.modeNum = 1) (hi : s.mode.noImage = false) (hc : s.mode.changeover = none)
    (hl : s.life.change = none) :
    ∃ t, exec (.assay r) s = .next t ∧ t.modeNum = 2 ∧ t.mode.assayRun = true ∧ t.power.main12 = true ∧
      t.gv gBootResult = (if t.gv gBootUnitsLost = 0 then 0 else 1) ∧ t.mgmt.mbox.role = 2 := by
  have h : AssayRan _ (assaySteps (enterMode (s.withPower fun p => { p with main12 := true }) 2 true 9) r true) :=
    assaySteps_ran r true (by rw [enterMode_mode]; exact hc) (by rw [(enterMode_tells _ _ _ _).life (by decide)]; exact hl)
  refine ⟨_, exec_assay r hm hi, h.modeNum.trans (enterMode_modeNum _ _ _ (by decide)), h.assayRun, ?_, h.result, h.role⟩
  rw [h.main12, enterMode_power]
  rfl

theorem thermalOverload_throttles {s : State} {die : Nat} (hd : die < 2) (hs : s.hostSupply = true) :
    ∃ t, exec (.thermalOverload die true) s = .next t ∧ die ∈ t.power.hotDies ∧
      (∀ n, n < 244 → (if n < 200 then 0 else 1) = die → n ≠ 194 → n ≠ 243 → s.isl n ≤ 1 → t.isl n = 1) ∧
      (∀ n, 1 < s.isl n → t.isl n = s.isl n) ∧ (s.isl 194 ≠ 1 → t.isl 194 = s.isl 194) ∧
      { t with power := s.power, islands := s.islands, verb := s.verb, free := s.free } = s := by
  refine ⟨_, exec_thermalOverload_hot hd hs, ?_⟩
  have hhot : die ∈ addUnique die s.power.hotDies := mem_addUnique _ _
  have hisl : ∀ n, (s.withPower fun p => { p with hotDies := addUnique die p.hotDies }).isl n = s.isl n := fun _ => rfl
  refine ⟨?_, ?_, ?_, ?_, ?_⟩
  · rw [setThrottle_power]
    exact hhot
  · intro n hn hdie ht hsnt hle
    rw [setThrottle_isl, if_pos hn, throttledState, hisl, if_pos hle, slowed_of_hot hhot hdie ht hsnt]
    rfl
  · intro n hn
    rw [setThrottle_isl, throttledState, hisl, if_neg (Nat.not_le.mpr hn), ite_self]
  · intro h194
    rw [setThrottle_isl, if_pos (by decide), throttledState, hisl]
    split
    · next h => exact (show 0 = s.isl 194 by omega)
    · rfl
  · rw [setThrottle_eq]
    rfl

/-- Settles O10: each clause is the lemma above about its event. -/
theorem suppliesSetTheMode : Obligations.SuppliesSetTheMode := by
  unfold Obligations.SuppliesSetTheMode
  refine ⟨?arrival, fun s r hm hi hc hl => assay_answers_assay r hm hi hc hl, fun s h12 hm h33 => cut_answers_dormant h12 hm h33,
    fun s h12 h33 => cut_answers_sentinel h12 h33, fun s hs => suppliesLost_answers_sentinel hs, ?exhausted, ?alwaysOn,
    fun s h => auxPowerLoss_forces_lean h, fun s h hl => auxPowerReturn_lifts_cap h hl, fun s die hd hs => thermalOverload_throttles hd hs⟩
  case arrival =>
    intro s h
    obtain ⟨t, ht, htm, htp, htpow⟩ := supplyArrival_answers_dormant .aux33 h
    obtain ⟨u, hu, hum, -, hupow⟩ := supplyArrival_answers_dormant .main12 h
    exact ⟨t, u, ht, htm, htp, congrArg Power.aux33 htpow, congrArg Power.source htpow, hu, hum, congrArg Power.main12 hupow,
      congrArg Power.source hupow⟩
  case exhausted => exact fun s h => ⟨_, exec_cellExhausted h, rfl, rfl, rfl, rfl, rfl⟩
  case alwaysOn => exact fun s present h12 hs => ⟨_, exec_alwaysOnSupplyChange present h12 hs, rfl, rfl, rfl⟩

end Sys2Proof.Machine
end

section
/-! PROOF. Link events and D3hot (01 R29; 02 R74; 03 R90, R106): in L0, and PF0 out of D3hot, a list of messages leaves in its order. -/

namespace Sys2Proof.Machine

open Sys2Proof

/-! ### Messages sent in L0 (03 R90) -/

theorem State.msix_sent {s : State} (hl : s.link.state = .l0) (hd : s.link.d3hot = false) (fn vec : Nat) :
    s.msix fn vec = s.withLink (fun l => { l with msixSent := l.msixSent ++ [(fn, vec)] }) := by
  simp [State.msix, hl, hd, State.withLink]

/-- Messages sent one after another leave in the order of their list. -/
theorem foldl_msix_sent : ∀ (l : List (Nat × Nat)) {s : State}, s.link.state = .l0 → s.link.d3hot = false →
    l.foldl (fun s e => s.msix e.1 e.2) s = s.withLink (fun k => { k with msixSent := k.msixSent ++ l })
  | [], s, _, _ => by simp [State.withLink]
  | e :: l, s, hl, hd => by
    have hs := State.msix_sent hl hd e.1 e.2
    rw [List.foldl_cons, foldl_msix_sent l (s := s.msix e.1 e.2) (by rw [hs]; exact hl) (by rw [hs]; exact hd), hs]
    simp [State.withLink]

/-! ### The commands -/

/-- Supply pins and link once PERST# is deasserted while the link is down. -/
def linkTrains (s : State) : State :=
  (s.withPower (fun p => { p with perst := false, wake := false })).withLink (fun l => { l with state := .training })

theorem exec_perstDeasserted_down {s : State} (hm : s.mainUp = true) (hl : s.link.state = .down) :
    exec .perstDeasserted s = .next (linkTrains s) := by
  change execPerstDeasserted s = _
  simp [execPerstDeasserted, hm, hl, linkTrains]

/-- A recovery counted and recorded, with width and rate before and after it (03 R106). -/
def recoveryNoted (s : State) (width rate : Nat) : State :=
  (s.bump gLinkRecoveryCount).event 140 0x0203 1 (toLE 1 s.link.width ++ toLE 1 s.link.rate ++ toLE 1 width ++ toLE 1 rate)

theorem recoveryNoted_gv (s : State) (width rate : Nat) :
    (recoveryNoted s width rate).gv gLinkRecoveryCount = (s.gv gLinkRecoveryCount + 1) % 2 ^ 64 :=
  State.gv_bump s _

theorem recoveryNoted_port (s : State) (width rate : Nat) :
    (recoveryNoted s width rate).evr.ports.get [] 140 = s.evr.ports.get [] 140 ++
      [.evt 0x0203 (fit 16 (toLE 1 s.link.width ++ toLE 1 s.link.rate ++ toLE 1 width ++ toLE 1 rate))] := by
  simp [recoveryNoted]

theorem exec_linkRecovery_l0 {s : State} {width rate : Nat} (hl : s.link.state = .l0) (hok : linkOk width rate = true) :
    exec (.linkRecovery width rate) s = .next ((recoveryNoted s width rate).withLink
      (fun l => { l with state := .recovery, width := width, rate := rate })) :=
  if_pos ⟨hl, hok⟩

/-- The link in L0 with nothing held back (01 R29). -/
def linkBack (s : State) (width rate : Nat) : State :=
  s.withLink (fun l => { l with state := .l0, width := width, rate := rate, heldPosts := [], msixHeld := [] })

/-- A link that returns to L0 with no completion held and no delivery due sends what it held (01 R29, 03 R90). -/
theorem exec_linkReturnL0_idle {s : State} {width rate : Nat} (hm : s.mainUp = true) (hl : s.link.state = .recovery ∨ s.link.state = .training)
    (hp : s.link.heldPosts = []) (hmd : s.meter.md = []) (hok : linkOk width rate = true) (hd : s.link.d3hot = false) :
    exec (.linkReturnL0 width rate) s =
      .next ((linkBack s width rate).withLink (fun l => { l with msixSent := l.msixSent ++ s.link.msixHeld })) := by
  have hg : (s.mainUp && (s.link.state == .recovery || s.link.state == .training) && linkOk width rate) = true := by
    rcases hl with hl | hl <;> simp [hm, hl, hok]
  change execLinkReturnL0 width rate s = _
  have hs := foldl_msix_sent s.link.msixHeld (s := linkBack s width rate) rfl hd
  unfold execLinkReturnL0
  rw [linkBack] at hs
  simp [hg, hp, hs, hmd, linkBack]

theorem exec_d3hotEntry {s : State} (hm : s.mainUp = true) :
    exec .d3hotEntry s = .next (s.withLink (fun l => { l with d3hot := true })) :=
  congrArg _ (if_pos hm)

/-- PF0 out of D3hot in L0: what it held pending is sent (03 R90). -/
theorem exec_d3hotExit_l0 {s : State} (hm : s.mainUp = true) (hd : s.link.d3hot = true) (hl : s.link.state = .l0) :
    exec .d3hotExit s = .next (s.withLink (fun l => { l with
      d3hot := false, pba := [], msixSent := l.msixSent ++ l.pba.map (fun v => (0, v)) })) := by
  have hf := foldl_msix_sent (s.link.pba.map (fun v => (0, v))) (s := s.withLink (fun l => { l with d3hot := false, pba := [] })) hl rfl
  rw [List.foldl_map] at hf
  change execD3hotExit s = _
  unfold execD3hotExit
  rw [if_pos (by simp [hm, hd])]
  exact congrArg _ hf

/-- Settles O6: each clause reads off the state that the lemma above gives its command. -/
theorem linkEventsSetTheLinkAlone : Obligations.LinkEventsSetTheLinkAlone := by
  unfold Obligations.LinkEventsSetTheLinkAlone
  refine ⟨?perst, ?recovery, ?back, ?entry, ?exit⟩
  case perst => exact fun s hm hl => ⟨_, exec_perstDeasserted_down hm hl, rfl, rfl, rfl, rfl⟩
  case recovery =>
    intro s width rate hl hok
    exact ⟨_, exec_linkRecovery_l0 hl hok, rfl, rfl, rfl, recoveryNoted_gv s width rate, recoveryNoted_port s width rate, rfl⟩
  case back => exact fun s width rate hm hl hp hmd hok hd => ⟨_, exec_linkReturnL0_idle hm hl hp hmd hok hd, rfl, rfl, rfl, rfl, rfl, rfl⟩
  case entry => exact fun s hm => ⟨_, exec_d3hotEntry hm, rfl, rfl⟩
  case exit => exact fun s hm hd hl => ⟨_, exec_d3hotExit_l0 hm hd hl, rfl, rfl, rfl, rfl⟩

end Sys2Proof.Machine
end

section
/-! PROOF. Functions enabled, disabled and reset (03 R94, R102, R105; 22 R773): what one step over a partition leaves of it, and what a
run of such steps over a list of partitions leaves of each. -/

namespace Sys2Proof.Machine

open Sys2Proof

/-! ### Steps that each touch one partition -/

section Partitionwise

variable {f : State → Nat → State} (hother : ∀ (s : State) {p q : Nat}, q ≠ p → (f s p).part q = s.part q)
include hother

theorem foldl_part_other : ∀ {l : List Nat} (s : State) {q : Nat}, q ∉ l → (l.foldl f s).part q = s.part q
  | [], _, _, _ => rfl
  | p :: l, s, q, h => by
    obtain ⟨hp, hl⟩ := List.ne_and_not_mem_of_not_mem_cons h
    rw [List.foldl_cons, foldl_part_other (f s p) hl, hother s hp]

/-- What each step leaves of its own partition holds in the end of every partition of the list. -/
theorem foldl_part_mem {P : Part → Prop} (hself : ∀ s p, P ((f s p).part p)) :
    ∀ {l : List Nat} (s : State) {q : Nat}, q ∈ l → P ((l.foldl f s).part q) := by
  intro l
  induction l with
  | nil => exact fun _ _ h => absurd h List.not_mem_nil
  | cons p l ih =>
    intro s q h
    rw [List.foldl_cons]
    by_cases hl : q ∈ l
    · exact ih (f s p) hl
    · obtain rfl : q = p := (List.mem_cons.mp h).resolve_right hl
      rw [foldl_part_other hother (f s q) hl]
      exact hself s q

end Partitionwise

theorem State.part_congr {s t : State} (h : t.parts = s.parts) (p : Nat) : t.part p = s.part p := by
  simp only [State.part, h]

/-- The VFs that VF Enable governs: partitions 1 to NumVFs (03 R94). -/
theorem mem_enabledVfs {n p : Nat} : p ∈ (List.range n).map (· + 1) ↔ 1 ≤ p ∧ p ≤ n := by
  simp only [List.mem_map, List.mem_range]
  exact ⟨fun ⟨k, hk, e⟩ => by omega, fun h => ⟨p - 1, by omega, by omega⟩⟩

/-! ### A partition enabled (03 R94, R107; 09 R362) -/

theorem newSalt_part_self (s : State) (p : Nat) : (newSalt s p).part p = { s.part p with salt := (rngDraw s 0 32).1 } := by
  have h := (rngDraw_writes (p := 0) (n := 32) (wm := 2097154) (Writes.refl _ s) (by decide)).snd.parts (by decide)
  rw [newSalt, State.part_withPart, State.part_congr h]

theorem newSalt_part_other (s : State) {p q : Nat} (hq : q ≠ p) : (newSalt s p).part q = s.part q := by
  have h := (rngDraw_writes (p := 0) (n := 32) (wm := 2097154) (Writes.refl _ s) (by decide)).snd.parts (by decide)
  rw [newSalt, State.part_withPart_other _ _ hq, State.part_congr h]

theorem enablePart_part_self (s : State) (p : Nat) :
    ∃ salt, (enablePart s p).part p = { s.part p with enabled := true, windows := [], salt := salt } := by
  unfold enablePart
  extract_lets s1 s2
  have h2 : s2.part p = { s.part p with enabled := true, windows := [] } := by
    rw [show s2.part p = s1.part p from rfl]
    exact State.part_withPart s p (fun x => { x with enabled := true, windows := [] })
  split
  · exact ⟨_, by rw [newSalt_part_self, h2]⟩
  · exact ⟨_, h2⟩

theorem enablePart_part_other (s : State) {p q : Nat} (hq : q ≠ p) : (enablePart s p).part q = s.part q := by
  unfold enablePart
  extract_lets s1 s2
  have h2 : s2.part q = s.part q := by
    rw [show s2.part q = s1.part q from rfl]
    exact State.part_withPart_other s (fun x => { x with enabled := true, windows := [] }) hq
  split
  · rw [newSalt_part_other s2 hq, h2]
  · exact h2

theorem enablePart_enables (s : State) (p : Nat) : ((enablePart s p).part p).enabled = true ∧ ((enablePart s p).part p).windows = [] := by
  obtain ⟨salt, h⟩ := enablePart_part_self s p
  rw [h]
  exact ⟨rfl, rfl⟩

/-! ### A partition torn down (03 R102) -/

theorem tearDown_part_self (s : State) (p : Nat) :
    (tearDown s p).part p = { s.part p with windows := [], winVer := (s.part p).winVer + 1 } := by
  rw [State.part, tearDown_parts, Tab.get_upd_self, State.part]

theorem tearDown_part_other (s : State) {p q : Nat} (hq : q ≠ p) : (tearDown s p).part q = s.part q := by
  rw [State.part, tearDown_parts, Tab.get_upd_other _ _ _ hq, State.part]

/-- A VF torn down as VF Enable is cleared. -/
def disablePart (s : State) (p : Nat) : State := (tearDown s p).withPart p (fun x => { x with enabled := false })

theorem disablePart_enabled (s : State) (p : Nat) : ((disablePart s p).part p).enabled = false := by
  rw [disablePart, State.part_withPart]

theorem disablePart_part_other (s : State) {p q : Nat} (hq : q ≠ p) : (disablePart s p).part q = s.part q := by
  rw [disablePart, State.part_withPart_other _ _ hq, tearDown_part_other s hq]

/-! ### The commands -/

theorem exec_numvfsWrite_stores {s : State} {n : Nat} (hm : s.mainUp = true) (hv : s.link.vfEnable = false) (hn : n ≤ 1024) :
    exec (.numvfsWrite n) s = .next (s.withLink (fun l => { l with numVfs := n })) :=
  if_pos (by simp [hm, hv, hn, totalVfs])

theorem exec_numvfsWrite_ignored {s : State} (n : Nat) (hv : s.link.vfEnable = true) : exec (.numvfsWrite n) s = .next s :=
  if_neg (by simp [hv])

theorem exec_vfEnableSet_ignored {s : State} (hv : s.link.vfEnable = true) : exec .vfEnableSet s = .next s :=
  if_neg (by simp [hv])

/-- The module with partitions 1 to NumVFs enabled (03 R94). -/
def vfsEnabled (s : State) : State :=
  ((List.range s.link.numVfs).map (· + 1)).foldl enablePart (s.withLink (fun l => { l with vfEnable := true }))

theorem exec_vfEnableSet_enables {s : State} (hm : s.mainUp = true) (hv : s.link.vfEnable = false) :
    exec .vfEnableSet s = .next (vfsEnabled s) :=
  if_pos (by simp [hm, hv])

/-- Beside VF Enable, no link, no job and no ring. -/
theorem vfsEnabled_enables (s : State) : Writes 2130178 (s.withLink (fun l => { l with vfEnable := true })) (vfsEnabled s) :=
  Writes.foldl (Writes.refl _ _) fun _ hu _ => enablePart_writes hu (by decide)

theorem vfsEnabled_vfEnable (s : State) : (vfsEnabled s).link.vfEnable = true :=
  congrArg Link.vfEnable ((vfsEnabled_enables s).link (by decide))

theorem vfsEnabled_part {s : State} {p : Nat} (h1 : 1 ≤ p) (hn : p ≤ s.link.numVfs) :
    ((vfsEnabled s).part p).enabled = true ∧ ((vfsEnabled s).part p).windows = [] :=
  foldl_part_mem (P := fun x => x.enabled = true ∧ x.windows = []) enablePart_part_other enablePart_enables _ (mem_enabledVfs.mpr ⟨h1, hn⟩)

theorem vfsEnabled_part_other {s : State} {p : Nat} (h : p = 0 ∨ s.link.numVfs < p) : (vfsEnabled s).part p = s.part p :=
  foldl_part_other enablePart_part_other _ (fun hp => by obtain ⟨h1, hn⟩ := mem_enabledVfs.mp hp; omega)

/-- The module with partitions 1 to NumVFs torn down and disabled (03 R102). -/
def vfsDisabled (s : State) : State :=
  ((List.range s.link.numVfs).map (· + 1)).foldl disablePart (s.withLink (fun l => { l with vfEnable := false }))

theorem exec_vfEnableClear {s : State} (hv : s.link.vfEnable = true) : exec .vfEnableClear s = .next (vfsDisabled s) :=
  if_pos hv

theorem vfsDisabled_part {s : State} {p : Nat} (h1 : 1 ≤ p) (hn : p ≤ s.link.numVfs) : ((vfsDisabled s).part p).enabled = false :=
  foldl_part_mem (P := fun x => x.enabled = false) disablePart_part_other disablePart_enabled _ (mem_enabledVfs.mpr ⟨h1, hn⟩)

theorem exec_functionLevelReset {s : State} {vf : Nat} (h0 : vf ≠ 0) (he : (s.part vf).enabled = true) :
    exec (.functionLevelReset vf) s = .next (tearDown s vf) :=
  if_pos ⟨h0, he⟩

/-- The state in which a conventional reset acts: whether it came by PERST# is drawn (log entry 167). -/
def resetCause (s : State) : State := s.drawNat.2.withPower (fun p => { p with perst := p.perst || s.drawNat.1 % 2 == 1 })

/-- Every partition in use torn down, PF0 included (03 R105). -/
def partsReset (s : State) : State := ((List.range 1025).filter (fun p => p == 0 || (s.part p).enabled)).foldl tearDown s

/-- Of what a reset of the partitions touches, no supply. -/
theorem partsReset_tears (s : State) : Writes 3259029378 s (partsReset s) := by
  rw [partsReset]
  exact Writes.foldl (Writes.refl _ s) fun _ hu _ => tearDown_writes hu (by decide)

theorem partsReset_windows (s : State) : ((partsReset s).part 0).windows = [] := by
  rw [partsReset]
  exact foldl_part_mem (P := fun x => x.windows = []) tearDown_part_other tearDown_windows s (by simp)

/-- The state that a conventional reset leaves (03 R105, 22 R773). -/
def moduleReset (s : State) : State :=
  reopenMailbox ((partsReset s).withLink (fun l => { l with
    state := if s.power.perst then .down else .training, width := 0, rate := 0, heldPosts := [], reads := [] }))

theorem exec_conventionalReset {s : State} (hm : s.mainUp = true) : exec .conventionalReset s = .next (moduleReset (resetCause s)) :=
  if_neg (show ¬(!s.mainUp) = true by simp [hm])

/-- Link and mailbox alone are reset beside the partitions. -/
theorem moduleReset_resets (s : State) : Writes 524416 (partsReset s) (moduleReset s) :=
  reopenMailbox_writes (State.withLink_writes (Writes.refl _ _) (by decide)) (by decide)

theorem moduleReset_power (s : State) : (moduleReset s).power = s.power := by
  rw [(moduleReset_resets s).power (by decide), (partsReset_tears s).power (by decide)]

theorem moduleReset_windows (s : State) : ((moduleReset s).part 0).windows = [] := by
  rw [State.part_congr ((moduleReset_resets s).parts (by decide)), partsReset_windows]

/-! ### The obligations -/

/-- Settles O7: each clause reads off the state that the lemma above gives its command. -/
theorem functionsEnableAndReset : Obligations.FunctionsEnableAndReset := by
  unfold Obligations.FunctionsEnableAndReset
  refine ⟨?numVfs, ?ignored, ?set, ?clear, ?flr, ?reset⟩
  case numVfs => exact fun s n hm hv hn => ⟨_, exec_numvfsWrite_stores hm hv hn, rfl, rfl⟩
  case ignored => exact fun s n hv => exec_numvfsWrite_ignored n hv
  case set =>
    intro s hm hv
    exact ⟨_, exec_vfEnableSet_enables hm hv, vfsEnabled_vfEnable s, fun p h1 hn => (vfsEnabled_part h1 hn).1,
      (vfsEnabled_enables s).jobs (by decide), (vfsEnabled_enables s).rings (by decide)⟩
  case clear => exact fun s hv => ⟨_, exec_vfEnableClear hv, fun p h1 hn => vfsDisabled_part h1 hn⟩
  case flr =>
    intro s vf h0 he
    exact ⟨_, exec_functionLevelReset h0 he, tearDown_windows s vf, fun r hr => tearDown_rings s vf r hr⟩
  case reset =>
    intro s hm
    have hp := moduleReset_power (resetCause s)
    refine ⟨_, exec_conventionalReset hm, ?_, ?_, rfl, rfl, moduleReset_windows _, rfl⟩
    · rw [hp]
      rfl
    · intro h
      rw [hp]
      simp [resetCause, State.drawNat, h]

/-- A partition that is not enabled takes no register write (03 R94). -/
theorem partOn_disabled {s : State} {p : Nat} (h0 : p ≠ 0) (he : (s.part p).enabled = false) : partOn s p = false := by
  simp [partOn, h0, he]

/-- Settles O55: NumVFs and VF Enable as above, and the guard that every ring command of a disabled partition fails. -/
theorem numVfsAndVfEnable : Obligations.NumVfsAndVfEnable := by
  unfold Obligations.NumVfsAndVfEnable
  refine ⟨?ignored, ?numVfs, ?set, ?rings⟩
  case ignored => exact fun s n hv => ⟨exec_numvfsWrite_ignored n hv, exec_vfEnableSet_ignored hv⟩
  case numVfs => exact fun s n hm hv hn => ⟨_, exec_numvfsWrite_stores hm hv hn, rfl, rfl⟩
  case set =>
    intro s hm hv
    exact ⟨_, exec_vfEnableSet_enables hm hv, vfsEnabled_vfEnable s, fun p h1 hn => vfsEnabled_part h1 hn,
      fun p h => vfsEnabled_part_other h⟩
  case rings =>
    intro s p r v h0 he
    have hoff := partOn_disabled h0 he
    exact ⟨if_neg (by simp [hoff]), if_neg (by simp [hoff]), if_pos (by simp [hoff]), if_neg (by simp [hoff]), if_neg (by simp [hoff])⟩

end Sys2Proof.Machine
end

section
/-! PROOF. IDE keys and streams, and the TDISP states of a VF (03 R115 to R123). -/

namespace Sys2Proof.Machine

open Sys2Proof

/-! ### IDE streams -/

theorem State.ideStream_withIde (s : State) (n : Nat) (f : IdeStream → IdeStream) : (s.withIde n f).ideStream n = f (s.ideStream n) := by
  simp only [State.ideStream, State.withIde, State.withLink_link, Tab.get_upd_self]

theorem State.ideStream_withIde_other (s : State) {n k : Nat} (f : IdeStream → IdeStream) (h : k ≠ n) :
    (s.withIde n f).ideStream k = s.ideStream k := by
  simp only [State.ideStream, State.withIde, State.withLink_link, Tab.get_upd_other _ _ _ h]

theorem inSpdm_of_session {s : State} (hm : s.mainUp = true) (hs : s.link.spdm ≠ []) : inSpdm s = true := by
  simp [inSpdm, hm, hs]

/-! ### TDIs that lose their binding or their stream -/

theorem Tab.keysWith_eq_nil {α : Type} {t : Tab α} {p : α → Bool} : t.keysWith p = [] ↔ ∀ e ∈ t, p e.2 = false := by
  simp [Tab.keysWith, List.filter_eq_nil_iff]

/-- What stands under a key is an entry of the table. -/
theorem Tab.mem_of_find {α : Type} {i : Nat} {v : α} : ∀ {t : Tab α}, Tab.find t i = some v → (i, v) ∈ t
  | (k, w) :: t, h => by
    rw [Tab.find] at h
    by_cases hk : k = i
    · rw [if_pos hk, Option.some.injEq] at h
      subst hk h
      exact List.mem_cons_self
    · rw [if_neg hk] at h
      exact List.mem_cons_of_mem _ (Tab.mem_of_find h)

/-- A partition whose TDI has left CONFIG_UNLOCKED stands in the table. -/
theorem State.part_mem {s : State} {p : Nat} (h : (s.part p).tdi.state ≠ 0) : (p, s.part p) ∈ s.parts := by
  cases hf : s.parts.find p with
  | none => exact absurd (by simp [State.part, Tab.get, hf]) h
  | some x =>
    have hx : s.part p = x := by simp [State.part, Tab.get, hf]
    rw [hx]
    exact Tab.mem_of_find hf

/-- While no VF is locked or running, no binding can change (03 R121). -/
theorem unbound_eq_nil {s : State} (h : s.parts.keysWith (fun x => x.tdi.state == 1 || x.tdi.state == 2) = []) : unbound s = [] := by
  rw [Tab.keysWith_eq_nil] at h
  rw [unbound, List.map_eq_nil_iff, List.filter_eq_nil_iff]
  intro e he
  simp [h e he]

theorem mem_unbound {s : State} {vf : Nat} (hst : (s.part vf).tdi.state = 1 ∨ (s.part vf).tdi.state = 2)
    (hc : carrier s vf ≠ some (s.part vf).tdi.stream) : vf ∈ unbound s := by
  have hmem := State.part_mem (s := s) (p := vf) (by omega)
  refine List.mem_map.mpr ⟨_, List.mem_filter.mpr ⟨hmem, ?_⟩, rfl⟩
  rcases hst with hst | hst <;> simp [hst, hc]

/-- A TDI that enters ERROR keeps its stream and loses its windows (03 R102, R123). -/
theorem tdiError_part_self (s : State) (vf : Nat) : (tdiError s vf).part vf =
    { s.part vf with windows := [], winVer := (s.part vf).winVer + 1, tdi := { (s.part vf).tdi with state := 3 } } := by
  rw [tdiError, State.part_withPart, tearDown_part_self]

theorem tdiError_part_other (s : State) {vf p : Nat} (h : p ≠ vf) : (tdiError s vf).part p = s.part p := by
  rw [tdiError, State.part_withPart_other _ _ h, tearDown_part_other s h]

theorem tdiError_state (s : State) (vf : Nat) : ((tdiError s vf).part vf).tdi.state = 3 := by
  rw [tdiError_part_self]

/-! ### The commands -/

/-- A key set and the range of a stream stored (03 R115, R116). -/
def keysStored (s : State) (stream set lo hi : Nat) (ko ki : Bytes) : State :=
  s.withIde stream (fun x => { x with sets := x.sets.set set ⟨ko, ki⟩, lo := lo, hi := hi })

theorem keysStored_stream (s : State) (stream set lo hi : Nat) (ko ki : Bytes) : (keysStored s stream set lo hi ko ki).ideStream stream =
    { s.ideStream stream with sets := (s.ideStream stream).sets.set set ⟨ko, ki⟩, lo := lo, hi := hi } :=
  State.ideStream_withIde s stream _

theorem exec_ideKm {s : State} {stream set lo hi : Nat} (ko ki : Bytes) (hm : s.mainUp = true) (hs : s.link.spdm ≠ []) (h64 : stream ≤ 64)
    (h1 : set ≤ 1) (hlo : lo ≤ hi) (hhi : hi ≤ 1024) : exec (.ideKm stream set lo hi ko ki) s =
      .next ((unbound (keysStored s stream set lo hi ko ki)).foldl tdiError (keysStored s stream set lo hi ko ki)) :=
  if_pos (by simp [inSpdm_of_session hm hs, h64, h1, hlo, hhi])

theorem exec_kSetGo {s : State} {stream set : Nat} {k : IdeKeys} (hm : s.mainUp = true) (hs : s.link.spdm ≠ [])
    (hk : (s.ideStream stream).sets.find set = some k) :
    exec (.kSetGo stream set) s = .next (s.withIde stream (fun x => { x with cur := set, secure := true, insecure := false })) :=
  if_pos (by simp [inSpdm_of_session hm hs, hk])

/-- A programmed stream that carries no locked or running TDI becomes insecure and nothing else does (03 R118). -/
theorem exec_ideStreamInsecure_unused {s : State} {stream : Nat} (hm : s.mainUp = true) (hp : (s.link.ide.find stream).isSome = true)
    (hnone : s.parts.keysWith (fun x => (x.tdi.state == 1 || x.tdi.state == 2) && x.tdi.stream == stream) = []) :
    exec (.ideStreamInsecure stream) s = .next (s.withIde stream (fun x => { x with secure := false, insecure := true })) := by
  change execIdeStreamInsecure stream s = _
  unfold execIdeStreamInsecure
  rw [if_neg (by simp [hm, Option.isNone_eq_false_iff.mpr hp]), hnone]
  rfl

theorem exec_tlpIntegrityFail {s : State} (stream fn : Nat) (hm : s.mainUp = true) : exec (.tlpIntegrityFail stream fn) s = .next (s.aer fn 2) :=
  congrArg _ (if_pos hm)

theorem exec_lockInterface {s : State} {vf n : Nat} (hm : s.mainUp = true) (hs : s.link.spdm ≠ []) (h0 : vf ≠ 0)
    (he : (s.part vf).enabled = true) (hst : (s.part vf).tdi.state = 0) (hc : carrier s vf = some n) :
    exec (.lockInterface vf) s = .next (s.withPart vf (fun x => { x with tdi := ⟨1, n⟩ })) := by
  change execLockInterface vf s = _
  simp [execLockInterface, inSpdm_of_session hm hs, h0, he, hst, hc]

/-- A VF torn down whose TDI returns to CONFIG_UNLOCKED (03 R123). -/
def tdiUnlocked (s : State) (vf : Nat) : State := (tearDown s vf).withPart vf (fun x => { x with tdi := {} })

theorem tdiUnlocked_part_self (s : State) (vf : Nat) : (tdiUnlocked s vf).part vf =
    { s.part vf with windows := [], winVer := (s.part vf).winVer + 1, tdi := {} } := by
  rw [tdiUnlocked, State.part_withPart, tearDown_part_self]

theorem tdiUnlocked_part_other (s : State) {vf p : Nat} (h : p ≠ vf) : (tdiUnlocked s vf).part p = s.part p := by
  rw [tdiUnlocked, State.part_withPart_other _ _ h, tearDown_part_other s h]

theorem exec_stopInterface {s : State} {vf : Nat} (hm : s.mainUp = true) (hs : s.link.spdm ≠ []) (hst : (s.part vf).tdi.state ≠ 0) :
    exec (.stopInterface vf) s = .next (tdiUnlocked s vf) :=
  if_neg (by simp [inSpdm_of_session hm hs, hst])

theorem exec_tdiFrozenChange {s : State} {vf : Nat} (hm : s.mainUp = true)
    (hst : (s.part vf).tdi.state = 1 ∨ (s.part vf).tdi.state = 2) : exec (.tdiFrozenChange vf) s = .next (tdiError s vf) :=
  if_pos (by rcases hst with hst | hst <;> simp [hm, hst])

/-! ### The obligation -/

/-- Settles O8: each clause reads off the state that the lemma above gives its command; a VF whose binding a key set changes is one of those
that the command takes to ERROR. -/
theorem ideAndTdispStates : Obligations.IdeAndTdispStates := by
  unfold Obligations.IdeAndTdispStates
  refine ⟨?keys, ?rebound, ?go, ?insecure, ?integrity, ?lock, ?stop, ?frozen⟩
  case keys =>
    intro s stream set lo hi ko ki hm hs h64 h1 hlo hhi hnone
    have hnil : unbound (keysStored s stream set lo hi ko ki) = [] := unbound_eq_nil hnone
    refine ⟨keysStored s stream set lo hi ko ki, ?_, ?_, ?_, ?_, fun n hn => State.ideStream_withIde_other s _ hn, rfl⟩
    · rw [exec_ideKm ko ki hm hs h64 h1 hlo hhi, hnil, List.foldl_nil]
    · rw [keysStored_stream]
      exact Tab.find_set_self _ _ _
    · rw [keysStored_stream]
    · rw [keysStored_stream]
  case rebound =>
    intro s stream set lo hi vf ko ki hm hs h64 h1 hlo hhi hst hc
    exact ⟨_, exec_ideKm ko ki hm hs h64 h1 hlo hhi,
      foldl_part_mem (P := fun x => x.tdi.state = 3) tdiError_part_other tdiError_state _ (mem_unbound hst hc)⟩
  case go =>
    intro s stream set k hm hs hk
    refine ⟨_, exec_kSetGo hm hs hk, ?_, ?_, ?_, ?_, fun n hn => State.ideStream_withIde_other s _ hn, rfl⟩ <;>
      rw [State.ideStream_withIde]
  case insecure =>
    intro s stream hm hp hnone
    refine ⟨_, exec_ideStreamInsecure_unused hm hp hnone, ?_, ?_, rfl⟩ <;> rw [State.ideStream_withIde]
  case integrity =>
    intro s stream fn hm
    exact ⟨_, exec_tlpIntegrityFail stream fn hm, congrArg Part.aer (State.part_withPart s fn _),
      fun p hp => State.part_withPart_other s _ hp, rfl⟩
  case lock =>
    intro s vf n hm hs h0 he hst hc
    refine ⟨_, exec_lockInterface hm hs h0 he hst hc, ?_, ?_, fun p hp => State.part_withPart_other s _ hp, rfl⟩ <;>
      rw [State.part_withPart]
  case stop =>
    intro s vf hm hs hst
    refine ⟨_, exec_stopInterface hm hs hst, ?_, ?_, fun p hp => tdiUnlocked_part_other s hp⟩ <;> rw [tdiUnlocked_part_self]
  case frozen =>
    intro s vf hm hst
    refine ⟨_, exec_tdiFrozenChange hm hst, ?_, ?_, fun p hp => tdiError_part_other s hp⟩ <;> rw [tdiError_part_self]

end Sys2Proof.Machine
end

section
/-! PROOF. Accesses of the BARs, register writes, proxy doorbells, DOE and SPDM (03 R88, R89, R97, R98, R123, R125, R127, R133). -/

namespace Sys2Proof.Machine

open Sys2Proof

/-! ### Accesses that are dropped or poisoned (03 R88, R133) -/

/-- A badly formed access reported by the link (03 R88). -/
def accessReported (s : State) (fn off size : Nat) (write : Bool) : State :=
  s.reportBy 140 0x0201 fn (off % 2 ^ 32 + 2 ^ 32 * (size % 256) + 2 ^ 40 * b2n write) fn

theorem accessReported_port (s : State) (fn off size : Nat) (write : Bool) :
    (accessReported s fn off size write).evr.ports.get [] 140 = s.evr.ports.get [] 140 ++
      [.coal 0x0201 fn (off % 2 ^ 32 + 2 ^ 32 * (size % 256) + 2 ^ 40 * b2n write) fn] := by
  simp [accessReported]

theorem exec_barAccessDropped {s : State} {fn off size : Nat} (write : Bool) (hm : s.mainUp = true)
    (h : (size ≠ 4 ∧ size ≠ 8) ∨ off % size ≠ 0) :
    exec (.barAccessDropped fn off size write) s = .next (accessReported s fn off size write) := by
  refine if_neg ?_
  rcases h with ⟨h4, h8⟩ | ha
  · simp [hm, h4, h8]
  · simp [hm, ha]

theorem exec_poisonedWrite {s : State} (fn bar off : Nat) (hm : s.mainUp = true) : exec (.poisonedWrite fn bar off) s = .next (s.aer fn 1) :=
  congrArg _ (if_pos hm)

/-! ### Register writes (00 R10; 03 R89, R129, R131) -/

theorem bit_eq_testBit (v i : Nat) : bit v i = v.testBit i := by
  rw [bit, Nat.testBit_eq_decide_div_mod_eq, beq_eq_decide]

theorem exec_registerWrite_ptmEnable {s : State} (size : Nat) (value : BitVec 64) (hm : s.mainUp = true) :
    exec (.registerWrite .config 0 size value) s = .next (s.withClock (fun c => { c with ptmEnable := value.getLsbD 0 })) := by
  change execRegisterWrite .config 0 size value s = _
  simp [execRegisterWrite, configWrite, hm, bit_eq_testBit, BitVec.getLsbD]

theorem exec_registerWrite_ctoValue {s : State} (size : Nat) (value : BitVec 64) (hm : s.mainUp = true) :
    exec (.registerWrite .config 2 size value) s = .next (s.withLink (fun l => { l with ctoValue := value.toNat % 16 })) := by
  change execRegisterWrite .config 2 size value s = _
  simp [execRegisterWrite, configWrite, hm]

/-- A well-formed write of 4 bytes to BAR0 of a VF reaches the VF's block. -/
theorem exec_registerWrite_vf {s : State} {vf off : Nat} (value : BitVec 64) (hm : s.mainUp = true) (h1 : 1 ≤ vf) (hn : vf ≤ 1024)
    (ha : off % 4 = 0) : exec (.registerWrite (.bar vf 0) off 4 value) s = .next (vfBar0 s vf off 4 value.toNat) := by
  have h0 : vf ≠ 0 := by omega
  change execRegisterWrite (.bar vf 0) off 4 value s = _
  simp [execRegisterWrite, barWrite, hm, h0, h1, hn, ha]

theorem partOn_of_enabled {s : State} {p : Nat} (hm : s.mainUp = true) (hn : p ≤ 1024) (he : (s.part p).enabled = true)
    (ht : (s.part p).tdi.state ≠ 3) : partOn s p = true := by
  simp [partOn, hm, hn, he, ht]

theorem partOn_inError {s : State} {p : Nat} (h0 : p ≠ 0) (ht : (s.part p).tdi.state = 3) : partOn s p = false := by
  simp [partOn, h0, ht]

/-- Bytes of a VF's MSI-X table are stored (03 Table 4). -/
theorem vfBar0_msixTable {s : State} {vf off : Nat} (v : Nat) (hon : partOn s vf = true) (h0 : vf ≠ 0) (hlo : 0xA000 ≤ off)
    (hhi : off + 4 ≤ 0xA080) : vfBar0 s vf off 4 v = { s with barMem := Mem.write 0 s.barMem (vf * 2 ^ 32 + off) (toLE 4 v) } := by
  have hring : ringPages s vf off 4 v = none := by
    rw [ringPages, if_neg (by omega), if_neg (by omega)]
  have hmsix : msixTable s vf off 4 v = some { s with barMem := Mem.write 0 s.barMem (vf * 2 ^ 32 + off) (toLE 4 v) } := by
    rw [msixTable, if_pos ⟨hlo, by rw [if_neg h0]; exact hhi⟩]
  simp [vfBar0, hon, hring, hmsix]

theorem vfBar0_inError {s : State} {vf : Nat} (off size v : Nat) (hoff : partOn s vf = false) : vfBar0 s vf off size v = s :=
  if_pos (by rw [hoff]; rfl)

/-! ### Proxy doorbells (03 R97, R98) -/

/-- An enabled VF in CONFIG_UNLOCKED takes a proxy doorbell as its own. -/
theorem exec_proxyDoorbell_open {s : State} {vf ring : Nat} (value : BitVec 32) (hm : s.mainUp = true) (h1 : 1 ≤ vf) (hn : vf ≤ 1024)
    (hr : ring < 8) (he : (s.part vf).enabled = true) (ht : (s.part vf).tdi.state = 0) :
    exec (.proxyDoorbell vf ring false value) s = exec (.sqDb vf ring value) s ∧
      exec (.proxyDoorbell vf ring true value) s = exec (.cqDb vf ring value) s := by
  have h0 : vf ≠ 0 := by omega
  have hon : partOn s vf = true := partOn_of_enabled hm hn he (by simp [ht])
  change execProxyDoorbell vf ring false value s = execSqDb vf ring value s ∧ execProxyDoorbell vf ring true value s = execCqDb vf ring value s
  simp [execProxyDoorbell, execSqDb, execCqDb, proxyShut, hm, h0, Nat.not_lt.mpr hn, Nat.not_le.mpr hr, hr, he, ht, hon]

/-- Any other VF's proxy doorbell is counted and dropped. -/
theorem exec_proxyDoorbell_shut {s : State} {vf ring : Nat} (cq : Bool) (value : BitVec 32) (hm : s.mainUp = true) (h1 : 1 ≤ vf)
    (hn : vf ≤ 1024) (hr : ring < 8) (h : (s.part vf).enabled = false ∨ (s.part vf).tdi.state ≠ 0) :
    exec (.proxyDoorbell vf ring cq value) s = .next (s.bumps gPartitionProxyDropped vf) := by
  have h0 : vf ≠ 0 := by omega
  have hshut : proxyShut s vf = true := by rcases h with h | h <;> simp [proxyShut, h]
  change execProxyDoorbell vf ring cq value s = _
  simp [execProxyDoorbell, hm, h0, Nat.not_lt.mpr hn, Nat.not_le.mpr hr, hshut]

/-! ### DOE and SPDM (03 R125 to R127) -/

theorem exec_doeObject_long {s : State} {len : Nat} (kind : DoeKind) (hm : s.mainUp = true) (h : 65536 < len) :
    exec (.doeObject kind len) s = .next (s.withLink (fun l => { l with doeError := true })) := by
  change execDoeObject kind len s = _
  simp [execDoeObject, hm, h]

theorem exec_doeObject_discovery {s : State} {len : Nat} (index : Nat) (hm : s.mainUp = true) (h : len ≤ 65536) :
    exec (.doeObject (.discovery index) len) s = .next (doeReply s (discovery index)) := by
  change execDoeObject (.discovery index) len s = _
  simp [execDoeObject, hm, Nat.not_lt.mpr h]

theorem exec_spdm_getVersion {s : State} (hm : s.mainUp = true) :
    exec (.spdmMessage .getVersion) s = .next (doeReply s (toLE 2 0x1200 ++ toLE 2 0x1300)) :=
  if_neg (by simp [hm])

theorem exec_spdm_getCertificate {s : State} (slot : Nat) (hm : s.mainUp = true) :
    exec (.spdmMessage (.getCertificate slot)) s = .next (doeReply s (certOf s slot)) :=
  if_neg (by simp [hm])

theorem certOf_empty (s : State) {slot : Nat} (h : 2 ≤ slot) : certOf s slot = [] := by
  rw [certOf, if_neg (by omega), if_neg (by omega)]

theorem exec_spdm_endSession {s : State} (id : Nat) (hm : s.mainUp = true) :
    exec (.spdmMessage (.endSession id)) s = .next (s.withLink (fun l => { l with spdm := l.spdm.erase id })) :=
  if_neg (by simp [hm])

/-! ### The obligation -/

/-- Settles O9: each clause reads off the state that the lemma above gives its command. -/
theorem barAccessesAndDoe : Obligations.BarAccessesAndDoe := by
  unfold Obligations.BarAccessesAndDoe
  refine ⟨?dropped, ?poisoned, ?config, ?msix, ?proxy, ?shut, ?long, ?discovery, ?spdm⟩
  case dropped =>
    exact fun s fn off size write hm h => ⟨_, exec_barAccessDropped write hm h, accessReported_port s fn off size write, rfl⟩
  case poisoned =>
    intro s fn bar off hm
    exact ⟨_, exec_poisonedWrite fn bar off hm, congrArg Part.aer (State.part_withPart s fn _),
      fun p hp => State.part_withPart_other s _ hp, rfl⟩
  case config =>
    intro s size value hm
    exact ⟨_, _, exec_registerWrite_ptmEnable size value hm, rfl, rfl, exec_registerWrite_ctoValue size value hm, rfl, rfl⟩
  case msix =>
    intro s vf off value hm h1 hn he hlo hhi ha
    have h0 : vf ≠ 0 := by omega
    rw [exec_registerWrite_vf value hm h1 hn ha]
    refine ⟨fun ht => ?_, fun ht => ?_⟩
    · exact ⟨_, congrArg _ (vfBar0_msixTable _ (partOn_of_enabled hm hn he ht) h0 hlo hhi), rfl, rfl⟩
    · rw [vfBar0_inError _ _ _ (partOn_inError h0 ht)]
  case proxy => exact fun s vf ring value hm h1 hn hr he ht => exec_proxyDoorbell_open value hm h1 hn hr he ht
  case shut =>
    intro s vf ring cq value hm h1 hn hr h
    exact ⟨_, exec_proxyDoorbell_shut cq value hm h1 hn hr h, State.gvs_gsets s gPartitionProxyDropped vf _, rfl⟩
  case long => exact fun s kind len hm h => ⟨_, exec_doeObject_long kind hm h, rfl, rfl⟩
  case discovery => exact fun s len index hm h => ⟨_, exec_doeObject_discovery index hm h, rfl, rfl⟩
  case spdm =>
    intro s slot id hm h
    refine ⟨_, _, _, exec_spdm_getVersion hm, rfl, rfl, exec_spdm_getCertificate slot hm, certOf_empty s h, rfl,
      exec_spdm_endSession id hm, ?_, rfl⟩
    exact (Tab.find_erase id id s.link.spdm).trans (if_pos rfl)

end Sys2Proof.Machine
end

section
/-! PROOF. What the host reads of configuration space and of the BARs (03 R85, R88, R89, R91, R95, R99, R123): a read whose access is badly
formed, or that no block of its BAR answers, returns zeros. -/

namespace Sys2Proof.Machine

open Sys2Proof

/-! ### Configuration space (03 R91) -/

theorem routingId_vf (s : State) (pf0 : Nat) {n : Nat} (h : 1 ≤ n) : routingId s pf0 n = pf0 + n := by
  rw [routingId, if_neg (by omega)]
  simp only [configRead, if_true]
  omega

/-! ### Bytes -/

theorem length_fit (n : Nat) (b : Bytes) : (fit n b).length = n := by
  simp [fit]

theorem length_slice (b : Bytes) (off n : Nat) : (slice b off n).length = n := length_fit n _

/-! ### Blocks that answer nothing (03 R89) -/

/-- The ranges of PF0's BAR0 that no block of 03 Table 3 takes a read from. -/
def pfReserved (off : Nat) : Prop :=
  0x2000 ≤ off ∧ off < 0xA000 ∨ 0xC000 ≤ off ∧ off < 0x10000 ∨ 0x20000 ≤ off ∧ off < 0x401000 ∨ 0x801000 ≤ off ∧ off < 0x1000000 ∨
    0x4000000 ≤ off

/-- Those of a VF's BAR0 (03 Table 4). -/
def vfReserved (off : Nat) : Prop := 0x2000 ≤ off ∧ off < 0xA000 ∨ 0xC000 ≤ off

theorem pfRead_reserved (s : State) {off : Nat} (n : Nat) (h : pfReserved off) : pfRead s off n = zeros n := by
  unfold pfReserved at h
  unfold pfRead
  rw [if_neg (by omega), if_neg (by omega), if_neg (by omega), if_neg (by omega), if_neg (by omega), if_neg (by omega), if_neg (by omega)]

theorem vfRead_reserved (s : State) (vf : Nat) {off : Nat} (n : Nat) (h : vfReserved off) : vfRead s vf off n = zeros n := by
  unfold vfReserved at h
  unfold vfRead
  rw [if_neg (by omega), if_neg (by omega), if_neg (by omega), if_neg (by omega), if_neg (by omega)]

/-! ### Reads of a BAR (03 R88, R95, R99) -/

theorem accessOk_iff {off n : Nat} : accessOk off n = true ↔ (n = 4 ∨ n = 8) ∧ off % n = 0 := by
  simp [accessOk]

theorem barRead_pf0 {s : State} {off n : Nat} (hm : s.mainUp = true) (ha : accessOk off n = true) (ho : off < 0x4000000) :
    barRead s 0 0 off n = pfRead s off n := by
  rw [barRead, if_neg (by simp [hm, ha]), if_pos ⟨rfl, rfl, ho⟩]

theorem barRead_vf {s : State} {fn off n : Nat} (hm : s.mainUp = true) (ha : accessOk off n = true) (h1 : 1 ≤ fn) (hn : fn ≤ 1024)
    (he : (s.part fn).enabled = true) (ho : off < 0x10000) : barRead s fn 0 off n = vfRead s fn off n := by
  rw [barRead, if_neg (by simp [hm, ha]), if_neg (by omega), if_pos ⟨h1, hn, he, rfl, ho⟩]

/-- A read that is badly formed, or made while the main domain is down, returns zeros. -/
theorem barRead_refused {s : State} {off n : Nat} (fn bar : Nat) (h : s.mainUp = false ∨ accessOk off n = false) :
    barRead s fn bar off n = zeros n :=
  if_pos (by rcases h with h | h <;> simp [h])

/-- A read returns zeros where neither PF0's BAR0 nor that of a VF that is there answers it with something else. -/
theorem barRead_zeros {s : State} {fn bar off n : Nat} (hp : fn = 0 → bar = 0 → off < 0x4000000 → pfRead s off n = zeros n)
    (hv : 1 ≤ fn → fn ≤ 1024 → (s.part fn).enabled = true → bar = 0 → vfRead s fn off n = zeros n) : barRead s fn bar off n = zeros n := by
  unfold barRead
  split
  · rfl
  · split
    · next h => exact hp h.1 h.2.1 h.2.2
    · split
      · next h => exact hv h.1 h.2.1 h.2.2.1 h.2.2.2.1
      · rfl

/-- What a read finds beyond a VF's identity page does not depend on the state of its TDI (03 R123). -/
theorem barRead_tdiState (s : State) (e : Nat) {fn off : Nat} (n : Nat) (h1 : 1 ≤ fn) (ho : 0x1000 ≤ off) :
    barRead (s.withPart fn (fun p => { p with tdi := { p.tdi with state := e } })) fn 0 off n = barRead s fn 0 off n := by
  have hv : vfRead (s.withPart fn (fun p => { p with tdi := { p.tdi with state := e } })) fn off n = vfRead s fn off n := by
    simp only [vfRead, if_neg (show ¬(0x800 ≤ off ∧ off < 0x900) by omega), if_neg (show ¬off < 0x1000 by omega)]
    rfl
  have h0 : fn ≠ 0 := by omega
  simp only [barRead, hv, State.part_withPart, h0, false_and, if_false]
  rfl

theorem pfRead_ids (s : State) : pfRead s 0 4 = [0x4E, 0x1F, 0x16, 0x72] := by
  simp only [pfRead, identityPage, configRead, if_true]
  rfl

theorem vfRead_ids (s : State) {vf : Nat} (h : vf ≠ 0) : vfRead s vf 0 4 = [0x4E, 0x1F, 0x17, 0x72] := by
  simp only [vfRead, identityPage, configRead, if_neg h]
  rfl

theorem pfRead_ringPage (s : State) {off : Nat} (n : Nat) (hlo : 0x1000 ≤ off) (hhi : off < 0x2000) :
    pfRead s off n = slice (ringPage s 0) (off - 0x1000) n := by
  rw [pfRead, if_neg (by omega), if_pos hhi]

/-! ### The obligation -/

/-- Settles O54: the reads that return zeros fall into those refused, and those that no block answers. -/
theorem hostReads : Obligations.HostReads := by
  unfold Obligations.HostReads
  refine ⟨?config, ?zeros, ?tdi, ?ids, ?rings⟩
  case config =>
    exact fun s => ⟨rfl, rfl, rfl, rfl, rfl, rfl, rfl, rfl, rfl, rfl, rfl, rfl, rfl, rfl, rfl, fun pf0 n h1 _ => routingId_vf s pf0 h1⟩
  case zeros =>
    intro s fn bar off n h
    rcases h with hsize | halign | hdown | hbar | hfn | ⟨h1, he⟩ | ⟨rfl, hres⟩ | ⟨h1, hres⟩
    · exact barRead_refused fn bar (.inr (by rw [← Bool.not_eq_true, accessOk_iff]; omega))
    · exact barRead_refused fn bar (.inr (by rw [← Bool.not_eq_true, accessOk_iff]; exact fun ha => halign ha.2))
    · exact barRead_refused fn bar (.inl hdown)
    · exact barRead_zeros (fun _ h0 => absurd h0 hbar) (fun _ _ _ h0 => absurd h0 hbar)
    · exact barRead_zeros (fun h0 => by omega) (fun _ hn => by omega)
    · exact barRead_zeros (fun h0 => by omega) (fun _ _ hon => by simp [he] at hon)
    · exact barRead_zeros (fun _ _ _ => pfRead_reserved s n hres) (fun h1 => by omega)
    · exact barRead_zeros (fun h0 => by omega) (fun _ _ _ _ => vfRead_reserved s fn n hres)
  case tdi => exact fun s fn e off n h1 ho => barRead_tdiState s e n h1 ho
  case ids =>
    intro s fn h1 hn hm he
    rw [barRead_vf hm rfl h1 hn he (by decide), barRead_pf0 hm rfl (by decide)]
    exact ⟨vfRead_ids s (by omega), pfRead_ids s⟩
  case rings =>
    intro s off n hm hn ha hlo hhi
    rw [barRead_pf0 hm (accessOk_iff.mpr ⟨hn, ha⟩) (by omega), pfRead_ringPage s n hlo hhi, length_slice]

end Sys2Proof.Machine
end

section
/-! PROOF. Administrative jobs (03 R111 to R113, R135 to R141; 17 R644): what a job that waits keeps, what a partition quiesced stops, and
what TIME_SET leaves of device time. -/

namespace Sys2Proof.Machine

open Sys2Proof

/-! ### A job that waits for what it has asked for -/

theorem toEngine_job (s : State) (id k : Nat) : (toEngine s id).job k = if k = id then { s.job id with slot := none } else s.job k :=
  freeSlot_job s id k

theorem adminWait_job_self (s : State) (id : Nat) :
    (adminWait s id).job id = { s.job id with chan := none, slot := none, phase := .adminWait } := by
  rw [adminWait, State.job_withJob, toEngine_job, if_pos rfl, returnChannel_job, if_pos rfl]

theorem adminWait_job_other (s : State) {id k : Nat} (h : k ≠ id) : (adminWait s id).job k = s.job k := by
  rw [adminWait, State.job_withJob_other _ _ h, toEngine_job, if_neg h, returnChannel_job, if_neg h]

/-- What a wait touches: link, rings, jobs, intake and channels. -/
theorem adminWait_waits (s : State) (id : Nat) : Writes 4200064 s (adminWait s id) := adminWait_writes (Writes.refl _ s) (by decide)

/-! ### A job that ends -/

/-- A job ended from a state that differs from `s` in no job is ended for `s`. -/
theorem finish_ended_of_jobs {s u : State} (h : u.jobs = s.jobs) (id status : Nat) (out : Bytes) (tc : Nat) :
    Ended s (finish u id status out tc) id status out tc := by
  obtain ⟨hfin, hother⟩ := finish_ended u id status out tc
  exact ⟨hfin, fun k hk => (hother k hk).trans (State.job_congr h k)⟩

/-- What the end of a job touches: neither the partitions nor the clock. -/
theorem finish_finishes (s : State) (id status : Nat) (out : Bytes) (tc : Nat) : Writes 2186302592 s (finish s id status out tc) :=
  finish_writes (Writes.refl _ s) (by decide)

/-! ### The states of rings (04 R154) -/

/-- Every ring is in the state that it was in. -/
def RingStatesKept (s t : State) : Prop := ∀ p r, (t.ring p r).state = (s.ring p r).state

theorem RingStatesKept.trans {s t u : State} (h : RingStatesKept s t) (k : RingStatesKept t u) : RingStatesKept s u :=
  fun p r => (k p r).trans (h p r)

theorem RingStatesKept.of_rings {s t : State} (h : t.rings = s.rings) : RingStatesKept s t := fun p r => by
  rw [State.ring, h, State.ring]

theorem RingStatesKept.withRing (s : State) (p r : Nat) {f : Ring → Ring} (hf : ∀ x, (f x).state = x.state) :
    RingStatesKept s (s.withRing p r f) := fun q k => by
  rw [State.ring, State.withRing, Tab.get_upd]
  split
  · next h => rw [hf, State.ring, h]
  · rfl

theorem RingStatesKept.foldl {α : Type} {f : State → α → State} (hf : ∀ s a, RingStatesKept s (f s a)) :
    ∀ (l : List α) (s : State), RingStatesKept s (l.foldl f s)
  | [], _ => fun _ _ => rfl
  | a :: l, s => (hf s a).trans (RingStatesKept.foldl hf l (f s a))

theorem advanceHead_state : ∀ (k : Nat) (r : Ring), (advanceHead k r).state = r.state
  | 0, _ => rfl
  | k + 1, r => by
    unfold advanceHead
    split
    · rw [advanceHead_state k]
    · rfl

theorem Ring.pass_state (r : Ring) (n : Nat) : (r.pass n).state = r.state := by
  unfold Ring.pass
  split
  · rfl
  · exact advanceHead_state _ _

theorem adminWait_ringStates (s : State) (id : Nat) : RingStatesKept s (adminWait s id) := by
  have hchan : RingStatesKept s (returnChannel s id) := .of_rings ((returnChannel_returns s id).rings (by decide))
  have hslot : RingStatesKept (returnChannel s id) (freeSlot (returnChannel s id) id) :=
    .of_rings ((freeSlot_writes (wm := 5120) (Writes.refl _ _) (by decide)).rings (by decide))
  exact (hchan.trans hslot).trans (.withRing _ _ _ fun x => Ring.pass_state x _)

theorem squashJob_ringStates (s : State) (again : Bool) (id : Nat) : RingStatesKept s (squashJob s again id) := by
  have hleft : RingStatesKept s (returnChannel (freeSlot s id) id) :=
    .of_rings ((returnChannel_writes (wm := 4199552) (freeSlot_writes (Writes.refl _ s) (by decide)) (by decide)).rings (by decide))
  refine hleft.trans ?_
  unfold squashJob
  extract_lets j s1 s2
  have hring : RingStatesKept s1 s2 := .withRing s1 _ _ fun _ => rfl
  exact hring.trans (.of_rings rfl)

theorem squashWhere_ringStates (s : State) (again : Bool) (p : Job → Bool) : RingStatesKept s (squashWhere s again p) :=
  .foldl (fun u id => squashJob_ringStates u again id) _ s

/-- One ring that is ACTIVE made HELD. -/
def holdRing (p : Nat) (s : State) (r : Nat) : State := s.withRing p r (fun x => if x.state = 1 then { x with state := 3 } else x)

theorem holdRing_state (p : Nat) (s : State) (r k : Nat) :
    ((holdRing p s k).ring p r).state = if r = k ∧ (s.ring p r).state = 1 then 3 else (s.ring p r).state := by
  by_cases h : r = k
  · subst h
    rw [holdRing, State.ring_withRing]
    by_cases h1 : (s.ring p r).state = 1 <;> simp [h1]
  · have hk : ringKey p r ≠ ringKey p k := by
      simp only [ringKey]
      omega
    rw [holdRing, (State.withRing_beside s p k _).1 p r hk, if_neg (fun e => h e.1)]

theorem foldl_holdRing_state (p r : Nat) (l : List Nat) (s : State) :
    ((l.foldl (holdRing p) s).ring p r).state = if r ∈ l ∧ (s.ring p r).state = 1 then 3 else (s.ring p r).state := by
  induction l generalizing s with
  | nil => simp
  | cons k l ih =>
    rw [List.foldl_cons, ih, holdRing_state]
    by_cases h1 : (s.ring p r).state = 1
    · by_cases hk : r = k
      · subst hk
        simp [h1]
      · simp [h1, hk]
    · simp [h1]

/-- Every ACTIVE ring of the partition is held (04 R154). -/
theorem holdRings_held {s : State} {p r : Nat} (hr : r < 8) (h : (s.ring p r).state = 1) : ((holdRings s p).ring p r).state = 3 :=
  (foldl_holdRing_state p r (List.range 8) s).trans (if_pos ⟨List.mem_range.mpr hr, h⟩)

/-! ### A partition quiesced (03 R140) -/

/-- A descriptor read of a partition given up by an intake core; its descriptors are to be read again. -/
def withdrawRead (p : Nat) (s : State) (e : Nat × Intake) : State :=
  match e.2.out with
  | some (q, r, ns) =>
    if q = p then (s.withIntake e.1 (fun i => { i with out := none })).withRing p r (fun x => { x with
      reserved := x.reserved - ns.length, refetch := ns.foldl (fun l n => insertAsc n l) x.refetch })
    else s
  | none => s

theorem withdrawRead_writes {p : Nat} {e : Nat × Intake} {m : Nat} {z s : State} (h : Writes m z s) (he : 4608 ||| m = m) :
    Writes m z (withdrawRead p s e) := by
  refine Writes.step (g := 4608) ?_ he h
  unfold withdrawRead
  split
  · exact Writes.ite (State.withRing_writes (State.withIntake_writes (Writes.refl _ s) (by decide)) (by decide)) (Writes.refl _ s)
  · exact Writes.refl _ s

theorem withdrawRead_ringStates (p : Nat) (s : State) (e : Nat × Intake) : RingStatesKept s (withdrawRead p s e) := by
  unfold withdrawRead
  split
  · split
    · exact .trans (.of_rings rfl) (.withRing _ _ _ fun _ => rfl)
    · exact fun _ _ => rfl
  · exact fun _ _ => rfl

/-- A partition marked quiesced, with its run-ahead squashed. -/
def intakeStopped (s : State) (p : Nat) : State :=
  squashWhere (s.withPart p (fun x => { x with quiesced := true })) true (fun j => j.part == p)

/-- The same with the reads of its descriptors given up: what is left of a QUIESCE is to hold its rings. -/
def readsWithdrawn (s : State) (p : Nat) : State := (intakeStopped s p).intake.foldl (withdrawRead p) (intakeStopped s p)

theorem quiescePart_eq (s : State) (p : Nat) : quiescePart s p = holdRings (readsWithdrawn s p) p := rfl

theorem readsWithdrawn_ringStates (s : State) (p : Nat) : RingStatesKept s (readsWithdrawn s p) :=
  have hmark : RingStatesKept s (s.withPart p (fun x => { x with quiesced := true })) := .of_rings rfl
  have hstop : RingStatesKept s (intakeStopped s p) := hmark.trans (squashWhere_ringStates _ _ _)
  hstop.trans (.foldl (withdrawRead_ringStates p) _ _)

theorem quiescePart_quiesced (s : State) (p : Nat) : ((quiescePart s p).part p).quiesced = true := by
  have hw : Writes 1077941888 (s.withPart p (fun x => { x with quiesced := true })) (quiescePart s p) := by
    rw [quiescePart_eq]
    exact holdRings_writes (Writes.foldl (squashWhere_writes (Writes.refl _ _) (by decide)) fun _ hu _ =>
      withdrawRead_writes hu (by decide)) (by decide)
  rw [State.part_congr (hw.parts (by decide)), State.part_withPart]

theorem quiescePart_held {s : State} {p r : Nat} (hr : r < 8) (h : (s.ring p r).state = 1) : ((quiescePart s p).ring p r).state = 3 := by
  rw [quiescePart_eq]
  exact holdRings_held hr ((readsWithdrawn_ringStates s p p r).trans h)

/-! ### Device time set (17 R644, R648; 11 R439) -/

theorem setTState_dtb (s : State) (n : Nat) : (setTState s n).clock.dtb = s.clock.dtb := by
  have hn : ∀ (u : State) (k : Nat), (noteFlag u k).clock = u.clock := fun u k =>
    (noteFlag_writes (wm := 32768) (Writes.refl _ u) (by decide)).clock (by decide)
  unfold setTState
  split
  · rfl
  · extract_lets s1 s2
    have h2 : s2.clock.dtb = s.clock.dtb := rfl
    clear_value s2
    split
    · rw [hn, h2]
    · split
      · rw [hn, h2]
      · exact h2

theorem setDtb_dtb (s : State) (ns frac : Nat) : (setDtb s ns frac).clock.dtb = (ns * 2 ^ 32 + frac) % 2 ^ 96 :=
  setTState_dtb _ 2

/-- The open minute closed with STEP, device time set and TIME_SET's job noted, before the next minute opens. -/
def timeStepped (s : State) (id ns frac : Nat) : State :=
  (setDtb (closeMinute (adminWait s id) s.dtbNs (2 ^ 3) s.noPrivRandom) ns frac).withClock (fun c =>
    { c with setJob := some id, setThisCycle := true })

/-- What the step of the time touches: beside what the wait does, clock, meter, recorder and the free values; no entry of the Glossary. -/
theorem timeStepped_steps (s : State) (id ns frac : Nat) : Writes 4232874 s (timeStepped s id ns frac) :=
  State.withClock_writes (setDtb_writes (closeMinute_writes (adminWait_writes (Writes.refl _ s) (by decide)) (by decide)) (by decide))
    (by decide)

/-- The state that TIME_SET leaves: the next minute is open, and the setting is counted. -/
def timeIsSet (s : State) (id ns frac : Nat) : State := (openMinute (timeStepped s id ns frac) ns 0).bump gTimeSetCount

theorem timeIsSet_clock (s : State) (id ns frac : Nat) : (timeIsSet s id ns frac).clock = (timeStepped s id ns frac).clock := rfl

theorem timeIsSet_count (s : State) (id ns frac : Nat) :
    (timeIsSet s id ns frac).gv gTimeSetCount = (s.gv gTimeSetCount + 1) % 2 ^ 64 := by
  have hg : (openMinute (timeStepped s id ns frac) ns 0).gls = s.gls :=
    (openMinute_writes (timeStepped_steps s id ns frac) (by decide)).gls (by decide)
  rw [timeIsSet, State.gv_bump, State.gv, State.gvs, hg, State.gv, State.gvs]

/-! ### The commands -/

/-- A window slot stored and the table's version raised, once the job waits and the run-ahead of its partition is squashed (03 R112,
R113). -/
def windowStored (s : State) (id v : Nat) : State :=
  (putWindow (squashWhere (adminWait s id) true (fun j => j.part == (s.job id).part)) (s.job id).part (bits v 3 0) (blockWindow v)).withPart
    (s.job id).part (fun x => { x with winVer := x.winVer + 1 })

theorem exec_windowSet_stored {s : State} {id : Nat} {b : BitVec 256} (h : adminRead s id 0x0801 = true)
    (hc : windowCheck s (s.job id).part b.toNat = 0) : exec (.windowSet id b) s = .next (windowStored s id b.toNat) := by
  change execWindowSet id b s = _
  simp [execWindowSet, h, hc, windowStored]

theorem exec_windowSet_refused {s : State} {id : Nat} {b : BitVec 256} (h : adminRead s id 0x0801 = true)
    (hc : windowCheck s (s.job id).part b.toNat ≠ 0) :
    exec (.windowSet id b) s = .next (finish s id (windowCheck s (s.job id).part b.toNat) [] 2) := by
  change execWindowSet id b s = _
  simp [execWindowSet, h, hc]

/-- Until its slot is stored, a WINDOW_SET changes no partition. -/
theorem windowSet_squashed_parts (s : State) (id : Nat) (p : Job → Bool) : (squashWhere (adminWait s id) true p).parts = s.parts :=
  (squashWhere_writes (wm := 1077941888) (adminWait_writes (Writes.refl _ s) (by decide)) (by decide)).parts (by decide)

theorem windowStored_part_self (s : State) (id v : Nat) : (windowStored s id v).part (s.job id).part =
    let x := s.part (s.job id).part
    { x with windows := x.windows.set (bits v 3 0) (blockWindow v), winVer := x.winVer + 1 } := by
  rw [windowStored, State.part_withPart, putWindow, State.part_withPart, State.part_congr (windowSet_squashed_parts s id _)]

theorem windowStored_part_other (s : State) (id v : Nat) {q : Nat} (h : q ≠ (s.job id).part) : (windowStored s id v).part q = s.part q := by
  rw [windowStored, State.part_withPart_other _ _ h, putWindow, State.part_withPart_other _ _ h,
    State.part_congr (windowSet_squashed_parts s id _)]

theorem exec_windowSetDone {s : State} {id : Nat} (hp : (s.job id).phase = .adminWait) (ho : (s.job id).d.opcode = 0x0801)
    (h : ∀ e, e ∈ s.jobs → e.1 = id ∨ e.2.part ≠ (s.job id).part ∨ (s.job id).winVer < e.2.winVer) :
    exec (.windowSetDone id) s = .next (finish s id 0 [] 6) := by
  refine if_pos ⟨hp, ho, ?_⟩
  rw [Bool.not_eq_true', List.any_eq_false]
  intro e he
  rcases h e he with h | h | h
  · simp [h]
  · simp [h]
  · simp [Nat.not_le.mpr h]

theorem exec_windowGet {s : State} {id : Nat} (h : adminReady s id 0x0802 = true) : exec (.windowGet id) s = .next (finish s id 0
    ((List.range 16).flatMap (fun k => windowBytes k ((s.part (s.job id).part).windows.get {} k))) 4) :=
  if_neg (by simp [h])

theorem exec_partitionInfo {s : State} {id : Nat} (h : adminReady s id 0x0803 = true) :
    exec (.partitionInfo id) s = .next (finish s id 0 (infoBlock s (s.job id).part) 4) :=
  if_pos h

theorem exec_timeGet {s : State} {id : Nat} (h : adminReady s id 0x0804 = true) : exec (.timeGet id) s = .next (finish s id 0
    (toLE 16 (s.dtbNs % 2 ^ 64 + 2 ^ 64 * (s.clock.dtb % 2 ^ 32) + 2 ^ 96 * s.clock.tstate)) 4) :=
  if_pos h

theorem exec_fence {s : State} {id : Nat} (h : adminReady s id 0x0805 = true) : exec (.fence id) s = .next (adminWait s id) :=
  congrArg _ (if_pos h)

theorem exec_fenceDone {s : State} {id : Nat} (hp : (s.job id).phase = .adminWait) (ho : (s.job id).d.opcode = 0x0805)
    (hj : ∀ e, e ∈ s.jobs → e.2.part ≠ (s.job id).part ∨ e.2.ring ≠ (s.job id).ring ∨ (s.job id).n ≤ e.2.n)
    (hf : ∀ n, n ∈ fetching s (s.job id).part (s.job id).ring → (s.job id).n ≤ n) :
    exec (.fenceDone id) s = .next (finish s id 0 [] 6) := by
  refine if_pos ⟨hp, ho, ?_, ?_⟩
  · rw [Bool.not_eq_true', List.any_eq_false]
    intro e he
    rcases hj e he with h | h | h
    · simp [h]
    · simp [h]
    · simp [Nat.not_lt.mpr h]
  · rw [Bool.not_eq_true', List.any_eq_false]
    intro n hn
    simp [hf n hn]

/-- A partition quiesced, with the job that asked for it waiting for the partition's jobs (03 R140). -/
def quiesceBegun (s : State) (id p : Nat) : State := (adminWait (quiescePart s p) id).withJob id (fun j => { j with waits := [p] })

theorem exec_quiesce_begun {s : State} {id : Nat} {w : BitVec 64} (h : adminRead s id 0x0880 = true) (hc : targetCheck s w.toNat = 0)
    (hq : (s.part w.toNat).quiesced = false) : exec (.quiesce id w) s = .next (quiesceBegun s id w.toNat) := by
  change execQuiesce id w s = _
  simp [execQuiesce, h, hc, hq, quiesceBegun]

theorem exec_quiesce_again {s : State} {id : Nat} {w : BitVec 64} (h : adminRead s id 0x0880 = true) (hc : targetCheck s w.toNat = 0)
    (hq : (s.part w.toNat).quiesced = true) : exec (.quiesce id w) s = .next (finish s id 0 [] 6) := by
  change execQuiesce id w s = _
  simp [execQuiesce, h, hc, hq]

theorem exec_quiesce_refused {s : State} {id : Nat} {w : BitVec 64} (h : adminRead s id 0x0880 = true) (hc : targetCheck s w.toNat ≠ 0) :
    exec (.quiesce id w) s = .next (finish s id (targetCheck s w.toNat) [] 2) := by
  change execQuiesce id w s = _
  simp [execQuiesce, h, hc]

theorem quiesceBegun_quiesced (s : State) (id p : Nat) : ((quiesceBegun s id p).part p).quiesced = true := by
  have hp : (quiesceBegun s id p).parts = (quiescePart s p).parts := (adminWait_waits (quiescePart s p) id).parts (by decide)
  rw [State.part_congr hp, quiescePart_quiesced]

theorem quiesceBegun_held {s : State} (id : Nat) {p r : Nat} (hr : r < 8) (h : (s.ring p r).state = 1) :
    ((quiesceBegun s id p).ring p r).state = 3 :=
  (adminWait_ringStates (quiescePart s p) id p r).trans (quiescePart_held hr h)

theorem exec_quiesceDone {s : State} {id : Nat} (hp : (s.job id).phase = .adminWait) (ho : (s.job id).d.opcode = 0x0880)
    (h : ∀ p, p ∈ (s.job id).waits → s.inFlight p = 0) : exec (.quiesceDone id) s = .next (finish s id 0 [] 6) :=
  if_pos ⟨hp, ho, List.all_eq_true.mpr fun p hw => beq_iff_eq.mpr (h p hw)⟩

/-- A partition resumed: its held rings leave HELD (03 R140, 04 R156). -/
def partResumed (s : State) (p : Nat) : State :=
  if (s.part p).quiesced then
    (List.range 8).foldl (fun s r => releaseRing s p r) (s.withPart p (fun x => { x with quiesced := false }))
  else s

theorem exec_resume {s : State} {id : Nat} {w : BitVec 64} (h : adminRead s id 0x0881 = true) (hc : targetCheck s w.toNat = 0) :
    exec (.resume id w) s = .next (finish (partResumed s w.toNat) id 0 [] 4) := by
  change execResume id w s = _
  cases hq : (s.part w.toNat).quiesced <;> simp [execResume, partResumed, h, hc, hq]

/-- A resume touches rings and its partition. -/
theorem partResumed_resumes (s : State) (p : Nat) : Writes 768 s (partResumed s p) :=
  Writes.ite (Writes.foldl (State.withPart_writes (Writes.refl _ s) (by decide)) fun _ hu _ => releaseRing_writes hu (by decide))
    (Writes.refl _ s)

theorem partResumed_quiesced (s : State) (p : Nat) : ((partResumed s p).part p).quiesced = false := by
  unfold partResumed
  cases hq : (s.part p).quiesced with
  | false => exact hq
  | true =>
    have hw : Writes 512 (s.withPart p (fun x => { x with quiesced := false }))
        ((List.range 8).foldl (fun s r => releaseRing s p r) (s.withPart p (fun x => { x with quiesced := false }))) :=
      Writes.foldl (Writes.refl _ _) fun _ hu _ => releaseRing_writes hu (by decide)
    rw [if_pos rfl, State.part_congr (hw.parts (by decide)), State.part_withPart]

theorem exec_timeSet_set {s : State} {id : Nat} (ns : BitVec 64) {w : BitVec 64} (h : adminRead s id 0x0882 = true)
    (hb : timeSetBusy s = false) (hw : bits w.toNat 63 32 = 0) :
    exec (.timeSet id ns w) s = .next (timeIsSet s id ns.toNat (bits w.toNat 31 0)) := by
  change execTimeSet id ns w s = _
  simp [execTimeSet, h, hb, hw, timeIsSet, timeStepped]

theorem exec_timeSet_refused {s : State} {id : Nat} (ns : BitVec 64) {w : BitVec 64} (h : adminRead s id 0x0882 = true)
    (hb : timeSetBusy s = false) (hw : bits w.toNat 63 32 ≠ 0) : exec (.timeSet id ns w) s = .next (finish s id 0x1003 [] 2) := by
  change execTimeSet id ns w s = _
  simp [execTimeSet, h, hb, hw]

theorem exec_timeSetDone {s : State} {id : Nat} (hp : (s.job id).phase = .adminWait) (ho : (s.job id).d.opcode = 0x0882)
    (h : ∀ m, m ∈ s.meter.closing → bit m.flags 3 = false) :
    exec (.timeSetDone id) s = .next (finish (s.withClock (fun c => { c with setJob := none })) id 0 [] 6) := by
  refine if_pos ⟨hp, ho, ?_⟩
  rw [Bool.not_eq_true', List.any_eq_false]
  intro m hm
  simp [h m hm]

/-! ### The obligation -/

/-- Settles O15: each clause reads off the state that the lemma above gives its command. -/
theorem administrativeJobs : Obligations.AdministrativeJobs := by
  unfold Obligations.AdministrativeJobs
  refine ⟨?windowSet, ?windowSetDone, ?windowGet, ?info, ?timeGet, ?fence, ?fenceDone, ?quiesce, ?quiesceDone, ?resume, ?timeSet,
    ?timeSetDone⟩
  case windowSet =>
    intro s id b h
    refine ⟨fun hc => ?_, fun hc => ?_⟩
    · refine ⟨_, exec_windowSet_stored h hc, ?_, ?_, fun q hq => windowStored_part_other s id _ hq⟩ <;> rw [windowStored_part_self]
    · exact ⟨_, exec_windowSet_refused h hc, finish_ended s id _ [] 2, (finish_finishes s id _ [] 2).parts (by decide)⟩
  case windowSetDone => exact fun s id hp ho h => ⟨_, exec_windowSetDone hp ho h, finish_ended s id 0 [] 6⟩
  case windowGet => exact fun s id h => ⟨_, exec_windowGet h, finish_ended s id 0 _ 4⟩
  case info => exact fun s id h => ⟨_, exec_partitionInfo h, finish_ended s id 0 _ 4⟩
  case timeGet => exact fun s id h => ⟨_, exec_timeGet h, finish_ended s id 0 _ 4⟩
  case fence =>
    intro s id h
    exact ⟨_, exec_fence h, by rw [adminWait_job_self], fun k hk => adminWait_job_other s hk⟩
  case fenceDone => exact fun s id hp ho hj hf => ⟨_, exec_fenceDone hp ho hj hf, finish_ended s id 0 [] 6⟩
  case quiesce =>
    intro s id w h
    refine ⟨fun hc hq => ?_, fun hc hq => ?_, fun hc => ?_⟩
    · exact ⟨_, exec_quiesce_begun h hc hq, quiesceBegun_quiesced s id _, fun r hr hs => quiesceBegun_held id hr hs⟩
    · exact ⟨_, exec_quiesce_again h hc hq, finish_ended s id 0 [] 6⟩
    · exact ⟨_, exec_quiesce_refused h hc, finish_ended s id _ [] 2⟩
  case quiesceDone => exact fun s id hp ho h => ⟨_, exec_quiesceDone hp ho h, finish_ended s id 0 [] 6⟩
  case resume =>
    intro s id w h hc
    have hjobs := (partResumed_resumes s w.toNat).jobs (by decide)
    have hparts := (finish_finishes (partResumed s w.toNat) id 0 [] 4).parts (by decide)
    exact ⟨_, exec_resume h hc, finish_ended_of_jobs hjobs id 0 [] 4, by rw [State.part_congr hparts, partResumed_quiesced]⟩
  case timeSet =>
    intro s id ns w h hb
    refine ⟨fun hw => ?_, fun hw => ?_⟩
    · refine ⟨_, exec_timeSet_set ns h hb hw, ?_, rfl, timeIsSet_count s id _ _⟩
      rw [timeIsSet_clock]
      exact setDtb_dtb _ _ _
    · exact ⟨_, exec_timeSet_refused ns h hb hw, finish_ended s id 0x1003 [] 2⟩
  case timeSetDone =>
    intro s id hp ho h
    refine ⟨_, exec_timeSetDone hp ho h, finish_ended_of_jobs rfl id 0 [] 6, ?_⟩
    rw [(finish_finishes _ id 0 [] 6).clock (by decide)]
    rfl

end Sys2Proof.Machine
end

section
/-! PROOF. What each command leaves as it was (95; 04 R161, 13 R498, 15 R581, 18 R659, 20 R728): the fields that `fieldsChanged` lists for a
command, as a set in the numbering of `Writes`, hold every field that its meaning writes. -/

namespace Sys2Proof.Machine

open Sys2Proof

/-! ### Fields as numbers -/

/-- The number of a field in the order in which State declares it, behind the queue. -/
def Field.num (f : Field) : Nat := f.ctorIdx + 1

theorem Field.num_injective : Function.Injective Field.num := fun f g h => by
  rw [← Field.ofNat_ctorIdx f, ← Field.ofNat_ctorIdx g, Nat.succ_injective h]

/-- The set of the fields of a list. -/
def fieldSet : List Field → Nat
  | [] => 0
  | f :: l => 2 ^ f.num ||| fieldSet l

theorem testBit_fieldSet (f : Field) (l : List Field) : (fieldSet l).testBit f.num = decide (f ∈ l) := by
  induction l with
  | nil => simp [fieldSet]
  | cons g l ih => simp [fieldSet, ih, Nat.testBit_two_pow, Field.num_injective.eq_iff, eq_comm]

/-- A field that the set leaves out agrees. -/
theorem Writes.agree {m : Nat} {s t : State} (h : Writes m s t) {f : Field} (hf : m.testBit f.num = false) : s.agree t f := by
  cases f with
  | free => exact h.free hf
  | power => exact h.power hf
  | clock => exact h.clock hf
  | islands => exact h.islands hf
  | evr => exact h.evr hf
  | mode => exact h.mode hf
  | link => exact h.link hf
  | parts => exact h.parts hf
  | rings => exact h.rings hf
  | jobs => exact h.jobs hf
  | nextJob => exact h.nextJob hf
  | intake => exact h.intake hf
  | disp => exact h.disp hf
  | lanes => exact h.lanes hf
  | meter => exact h.meter hf
  | guards => exact h.guards hf
  | guardSt => exact h.guardSt hf
  | tamper => exact h.tamper hf
  | mgmt => exact h.mgmt hf
  | keys => exact h.keys hf
  | rng => exact h.rng hf
  | dma => exact h.dma hf
  | code => exact h.code hf
  | vault => exact h.vault hf
  | verb => exact h.verb hf
  | appr => exact h.appr hf
  | tag => exact h.tag hf
  | life => exact h.life hf
  | stood => exact h.stood hf
  | gls => exact h.gls hf
  | mem => exact h.mem hf
  | codeFlash => exact h.codeFlash hf
  | barMem => exact h.barMem hf
  | hostMem => exact h.hostMem hf

/-! ### The commands -/

/-- What the meaning of each command writes is what its list names. -/
theorem exec_writes_fieldSet (s : State) (c : Instr) : WritesOut (fieldSet (fieldsChanged c)) s (exec c s) := by
  cases c <;> dsimp only [fieldsChanged]
  case supplyArrival => exact execSupplyArrival_writes (.refl _ s) rfl
  case assay => exact execAssay_writes (.refl _ s) rfl
  case assayDone => exact execAssayDone_writes (.refl _ s) rfl
  case cut => exact execCut_writes (.refl _ s) rfl
  case suppliesLost => exact execSuppliesLost_writes (.refl _ s) rfl
  case auxPowerLoss => exact execAuxPowerLoss_writes (.refl _ s) rfl
  case auxPowerReturn => exact execAuxPowerReturn_writes (.refl _ s) rfl
  case conventionalReset => exact execConventionalReset_writes (.refl _ s) rfl
  case perstDeasserted => exact execPerstDeasserted_writes (.refl _ s) rfl
  case linkRecovery => exact execLinkRecovery_writes (.refl _ s) rfl
  case linkReturnL0 => exact execLinkReturnL0_writes (.refl _ s) rfl
  case functionLevelReset => exact execFunctionLevelReset_writes (.refl _ s) rfl
  case vfEnableClear => exact execVfEnableClear_writes (.refl _ s) rfl
  case vfEnableSet => exact execVfEnableSet_writes (.refl _ s) rfl
  case numvfsWrite => exact execNumvfsWrite_writes (.refl _ s) rfl
  case d3hotEntry => exact execD3hotEntry_writes (.refl _ s) rfl
  case d3hotExit => exact execD3hotExit_writes (.refl _ s) rfl
  case barAccessDropped => exact execBarAccessDropped_writes (.refl _ s) rfl
  case poisonedWrite fn bar off => exact execPoisonedWrite_writes (_bar := bar) (_off := off) (.refl _ s) rfl
  case registerWrite => exact execRegisterWrite_writes (.refl _ s) rfl
  case proxyDoorbell => exact execProxyDoorbell_writes (.refl _ s) rfl
  case ideKm => exact execIdeKm_writes (.refl _ s) rfl
  case kSetGo => exact execKSetGo_writes (.refl _ s) rfl
  case ideStreamInsecure => exact execIdeStreamInsecure_writes (.refl _ s) rfl
  case tlpIntegrityFail stream fn => exact execTlpIntegrityFail_writes (_stream := stream) (.refl _ s) rfl
  case lockInterface => exact execLockInterface_writes (.refl _ s) rfl
  case stopInterface => exact execStopInterface_writes (.refl _ s) rfl
  case tdiFrozenChange => exact execTdiFrozenChange_writes (.refl _ s) rfl
  case doeObject => exact execDoeObject_writes (.refl _ s) rfl
  case spdmMessage => exact execSpdmMessage_writes (.refl _ s) rfl
  case ptmRequest => exact execPtmRequest_writes (.refl _ s) rfl
  case ptmResponse => exact execPtmResponse_writes (.refl _ s) rfl
  case ptmAbandon => exact execPtmAbandon_writes (.refl _ s) rfl
  case holdoverEntry => exact execHoldoverEntry_writes (.refl _ s) rfl
  case holdoverExpiry => exact execHoldoverExpiry_writes (.refl _ s) rfl
  case hostReadError => exact execHostReadError_writes (.refl _ s) rfl
  case completionTimeout => exact execCompletionTimeout_writes (.refl _ s) rfl
  case readAbandoned => exact execReadAbandoned_writes (.refl _ s) rfl
  case windowSet => exact execWindowSet_writes (.refl _ s) rfl
  case windowSetDone => exact execWindowSetDone_writes (.refl _ s) rfl
  case windowGet => exact execWindowGet_writes (.refl _ s) rfl
  case partitionInfo => exact execPartitionInfo_writes (.refl _ s) rfl
  case timeGet => exact execTimeGet_writes (.refl _ s) rfl
  case fence => exact execFence_writes (.refl _ s) rfl
  case fenceDone => exact execFenceDone_writes (.refl _ s) rfl
  case quiesce => exact execQuiesce_writes (.refl _ s) rfl
  case quiesceDone => exact execQuiesceDone_writes (.refl _ s) rfl
  case resume => exact execResume_writes (.refl _ s) rfl
  case timeSet => exact execTimeSet_writes (.refl _ s) rfl
  case timeSetDone => exact execTimeSetDone_writes (.refl _ s) rfl
  case ringEnable => exact execRingEnable_writes (.refl _ s) rfl
  case ringDisable => exact execRingDisable_writes (.refl _ s) rfl
  case ringAbort => exact execRingAbort_writes (.refl _ s) rfl
  case ringDrained => exact execRingDrained_writes (.refl _ s) rfl
  case sqDb => exact execSqDb_writes (.refl _ s) rfl
  case cqDb => exact execCqDb_writes (.refl _ s) rfl
  case intakeVisit => exact execIntakeVisit_writes (.refl _ s) rfl
  case descriptorArrival => exact execDescriptorArrival_writes (.refl _ s) rfl
  case descriptorReadFailed => exact execDescriptorReadFailed_writes (.refl _ s) rfl
  case contextFreed => exact execContextFreed_writes (.refl _ s) rfl
  case stagingReadDone => exact execStagingReadDone_writes (.refl _ s) rfl
  case stagingWipeDone => exact execStagingWipeDone_writes (.refl _ s) rfl
  case rngWaitEnd => exact execRngWaitEnd_writes (.refl _ s) rfl
  case dispatch squad opa opb => exact execDispatch_writes (_opa := opa) (_opb := opb) (.refl _ s) rfl
  case gangSliceStart => exact execGangSliceStart_writes (.refl _ s) rfl
  case modadd => exact execModadd_writes (.refl _ s) rfl
  case modmul => exact execModmul_writes (.refl _ s) rfl
  case modexp => exact execModexp_writes (.refl _ s) rfl
  case modinv => exact execModinv_writes (.refl _ s) rfl
  case rsaPrivate => exact execRsaPrivate_writes (.refl _ s) rfl
  case rsaPublic => exact execRsaPublic_writes (.refl _ s) rfl
  case rsaSignV15 => exact execRsaSignV15_writes (.refl _ s) rfl
  case rsaSignPss => exact execRsaSignPss_writes (.refl _ s) rfl
  case rsaVerifyV15 => exact execRsaVerifyV15_writes (.refl _ s) rfl
  case rsaVerifyPss => exact execRsaVerifyPss_writes (.refl _ s) rfl
  case rsaEncryptOaep => exact execRsaEncryptOaep_writes (.refl _ s) rfl
  case rsaDecryptOaep => exact execRsaDecryptOaep_writes (.refl _ s) rfl
  case rsaKeygen => exact execRsaKeygen_writes (.refl _ s) rfl
  case ecdsaSign => exact execEcdsaSign_writes (.refl _ s) rfl
  case ecdsaVerify => exact execEcdsaVerify_writes (.refl _ s) rfl
  case ecdh => exact execEcdh_writes (.refl _ s) rfl
  case eddsaSign => exact execEddsaSign_writes (.refl _ s) rfl
  case eddsaVerify => exact execEddsaVerify_writes (.refl _ s) rfl
  case xdh => exact execXdh_writes (.refl _ s) rfl
  case ecKeygen => exact execEcKeygen_writes (.refl _ s) rfl
  case mlkemEncaps => exact execMlkemEncaps_writes (.refl _ s) rfl
  case mlkemDecaps => exact execMlkemDecaps_writes (.refl _ s) rfl
  case mldsaSign => exact execMldsaSign_writes (.refl _ s) rfl
  case mldsaVerify => exact execMldsaVerify_writes (.refl _ s) rfl
  case mlkemKeygen => exact execMlkemKeygen_writes (.refl _ s) rfl
  case mldsaKeygen => exact execMldsaKeygen_writes (.refl _ s) rfl
  case keyGenSym => exact execKeyGenSym_writes (.refl _ s) rfl
  case keyImport => exact execKeyImport_writes (.refl _ s) rfl
  case keyExport => exact execKeyExport_writes (.refl _ s) rfl
  case keyDestroy => exact execKeyDestroy_writes (.refl _ s) rfl
  case destroyComplete => exact execDestroyComplete_writes (.refl _ s) rfl
  case keyInfo => exact execKeyInfo_writes (.refl _ s) rfl
  case keyRestrict => exact execKeyRestrict_writes (.refl _ s) rfl
  case restrictDone => exact execRestrictDone_writes (.refl _ s) rfl
  case keyPurge => exact execKeyPurge_writes (.refl _ s) rfl
  case purgeWipe => exact execPurgeWipe_writes (.refl _ s) rfl
  case commitService => exact execCommitService_writes (.refl _ s) rfl
  case useCountPage => exact execUseCountPage_writes (.refl _ s) rfl
  case keyCacheFill => exact execKeyCacheFill_writes (.refl _ s) rfl
  case streamSeal => exact execStreamSeal_writes (.refl _ s) rfl
  case streamOpen => exact execStreamOpen_writes (.refl _ s) rfl
  case streamBind => exact execStreamBind_writes (.refl _ s) rfl
  case streamSegment => exact execStreamSegment_writes (.refl _ s) rfl
  case randomBytes => exact execRandomBytes_writes (.refl _ s) rfl
  case channelGrant => exact execChannelGrant_writes (.refl _ s) rfl
  case channelEnable => exact execChannelEnable_writes (.refl _ s) rfl
  case channelAbort => exact execChannelAbort_writes (.refl _ s) rfl
  case qTail => exact execQTail_writes (.refl _ s) rfl
  case copy => exact execCopy_writes (.refl _ s) rfl
  case fill => exact execFill_writes (.refl _ s) rfl
  case compareConst => exact execCompareConst_writes (.refl _ s) rfl
  case compareBuf => exact execCompareBuf_writes (.refl _ s) rfl
  case readBackDone => exact execReadBackDone_writes (.refl _ s) rfl
  case minuteClose => exact execMinuteClose_writes (.refl _ s) rfl
  case minuteSetDurable => exact execMinuteSetDurable_writes (.refl _ s) rfl
  case minuteDelivery => exact execMinuteDelivery_writes (.refl _ s) rfl
  case rngRetired => exact execRngRetired_writes (.refl _ s) rfl
  case channelRestart => exact execChannelRestart_writes (.refl _ s) rfl
  case startTimeout => exact execStartTimeout_writes (.refl _ s) rfl
  case reseed => exact execReseed_writes (.refl _ s) rfl
  case rngDataLo => exact execRngDataLo_writes (.refl _ s) rfl
  case rngDataHi => exact execRngDataHi_writes (.refl _ s) rfl
  case rngJdataLo => exact execRngJdataLo_writes (.refl _ s) rfl
  case rngJdataHi => exact execRngJdataHi_writes (.refl _ s) rfl
  case rngHoldExpiry => exact execRngHoldExpiry_writes (.refl _ s) rfl
  case rngKatRun => exact execRngKatRun_writes (.refl _ s) rfl
  case rnsSelftestRun => exact execRnsSelftestRun_writes (.refl _ s) rfl
  case patrolTest => exact execPatrolTest_writes (.refl _ s) rfl
  case nop => exact execNop_writes (.refl _ s) rfl
  case wfe => exact execWfe_writes (.refl _ s) rfl
  case waitc => exact execWaitc_writes (.refl _ s) rfl
  case waitWake => exact execWaitWake_writes (.refl _ s) rfl
  case retg => exact execRetg_writes (.refl _ s) rfl
  case retx => exact execRetx_writes (.refl _ s) rfl
  case verbFence => exact execVerbFence_writes (.refl _ s) rfl
  case brk => exact execBrk_writes (.refl _ s) rfl
  case ems => exact execEms_writes (.refl _ s) rfl
  case emc => exact execEmc_writes (.refl _ s) rfl
  case gate => exact execGate_writes (.refl _ s) rfl
  case sev => exact execSev_writes (.refl _ s) rfl
  case mfs => exact execMfs_writes (.refl _ s) rfl
  case mts => exact execMts_writes (.refl _ s) rfl
  case movad => exact execMovad_writes (.refl _ s) rfl
  case movda => exact execMovda_writes (.refl _ s) rfl
  case movaa => exact execMovaa_writes (.refl _ s) rfl
  case jmp => exact execJmp_writes (.refl _ s) rfl
  case jsr => exact execJsr_writes (.refl _ s) rfl
  case adda => exact execAdda_writes (.refl _ s) rfl
  case addaa => exact execAddaa_writes (.refl _ s) rfl
  case cmpa => exact execCmpa_writes (.refl _ s) rfl
  case addai => exact execAddai_writes (.refl _ s) rfl
  case mov => exact execMov_writes (.refl _ s) rfl
  case add => exact execAdd_writes (.refl _ s) rfl
  case adc => exact execAdc_writes (.refl _ s) rfl
  case sub => exact execSub_writes (.refl _ s) rfl
  case sbc => exact execSbc_writes (.refl _ s) rfl
  case cmp => exact execCmp_writes (.refl _ s) rfl
  case and => exact execAnd_writes (.refl _ s) rfl
  case or => exact execOr_writes (.refl _ s) rfl
  case xor => exact execXor_writes (.refl _ s) rfl
  case andn => exact execAndn_writes (.refl _ s) rfl
  case tst => exact execTst_writes (.refl _ s) rfl
  case neg => exact execNeg_writes (.refl _ s) rfl
  case not => exact execNot_writes (.refl _ s) rfl
  case shl => exact execShl_writes (.refl _ s) rfl
  case shr => exact execShr_writes (.refl _ s) rfl
  case sar => exact execSar_writes (.refl _ s) rfl
  case ror => exact execRor_writes (.refl _ s) rfl
  case mul => exact execMul_writes (.refl _ s) rfl
  case mulhu => exact execMulhu_writes (.refl _ s) rfl
  case mulhs => exact execMulhs_writes (.refl _ s) rfl
  case minu => exact execMinu_writes (.refl _ s) rfl
  case maxu => exact execMaxu_writes (.refl _ s) rfl
  case mins => exact execMins_writes (.refl _ s) rfl
  case maxs => exact execMaxs_writes (.refl _ s) rfl
  case clz => exact execClz_writes (.refl _ s) rfl
  case popc => exact execPopc_writes (.refl _ s) rfl
  case bswap => exact execBswap_writes (.refl _ s) rfl
  case cmovz => exact execCmovz_writes (.refl _ s) rfl
  case cmovc => exact execCmovc_writes (.refl _ s) rfl
  case sxb => exact execSxb_writes (.refl _ s) rfl
  case sxh => exact execSxh_writes (.refl _ s) rfl
  case movi => exact execMovi_writes (.refl _ s) rfl
  case addi => exact execAddi_writes (.refl _ s) rfl
  case cmpi => exact execCmpi_writes (.refl _ s) rfl
  case andi => exact execAndi_writes (.refl _ s) rfl
  case ori => exact execOri_writes (.refl _ s) rfl
  case xori => exact execXori_writes (.refl _ s) rfl
  case shli => exact execShli_writes (.refl _ s) rfl
  case shri => exact execShri_writes (.refl _ s) rfl
  case ldb => exact execLdb_writes (.refl _ s) rfl
  case ldh => exact execLdh_writes (.refl _ s) rfl
  case ldw => exact execLdw_writes (.refl _ s) rfl
  case lda => exact execLda_writes (.refl _ s) rfl
  case stb => exact execStb_writes (.refl _ s) rfl
  case sth => exact execSth_writes (.refl _ s) rfl
  case stw => exact execStw_writes (.refl _ s) rfl
  case sta => exact execSta_writes (.refl _ s) rfl
  case branch => exact execBranch_writes (.refl _ s) rfl
  case call => exact execCall_writes (.refl _ s) rfl
  case macu => exact execMacu_writes (.refl _ s) rfl
  case macs => exact execMacs_writes (.refl _ s) rfl
  case mulu => exact execMulu_writes (.refl _ s) rfl
  case mql => exact execMql_writes (.refl _ s) rfl
  case mqh => exact execMqh_writes (.refl _ s) rfl
  case mqg => exact execMqg_writes (.refl _ s) rfl
  case mdql => exact execMdql_writes (.refl _ s) rfl
  case mdqh => exact execMdqh_writes (.refl _ s) rfl
  case mdqg => exact execMdqg_writes (.refl _ s) rfl
  case shrq => exact execShrq_writes (.refl _ s) rfl
  case shlq => exact execShlq_writes (.refl _ s) rfl
  case lmont => exact execLmont_writes (.refl _ s) rfl
  case ladd => exact execLadd_writes (.refl _ s) rfl
  case lsub => exact execLsub_writes (.refl _ s) rfl
  case lmov => exact execLmov_writes (.refl _ s) rfl
  case lconv => exact execLconv_writes (.refl _ s) rfl
  case lsettle => exact execLsettle_writes (.refl _ s) rfl
  case lld => exact execLld_writes (.refl _ s) rfl
  case lst => exact execLst_writes (.refl _ s) rfl
  case lsetup => exact execLsetup_writes (.refl _ s) rfl
  case nmul => exact execNmul_writes (.refl _ s) rfl
  case nadd => exact execNadd_writes (.refl _ s) rfl
  case nsub => exact execNsub_writes (.refl _ s) rfl
  case nbfct => exact execNbfct_writes (.refl _ s) rfl
  case nbfgs => exact execNbfgs_writes (.refl _ s) rfl
  case lqn => exact execLqn_writes (.refl _ s) rfl
  case kperm => exact execKperm_writes (.refl _ s) rfl
  case ypt => exact execYpt_writes (.refl _ s) rfl
  case reservedPattern => exact execReservedPattern_writes (.refl _ s) rfl
  case deviceInterrupt => exact execDeviceInterrupt_writes (.refl _ s) rfl
  case frozenUnitRecovery => exact execFrozenUnitRecovery_writes (.refl _ s) rfl
  case pairDiverged => exact execPairDiverged_writes (.refl _ s) rfl
  case pairSelftestDone => exact execPairSelftestDone_writes (.refl _ s) rfl
  case runAhead => exact execRunAhead_writes (.refl _ s) rfl
  case guardScrub => exact execGuardScrub_writes (.refl _ s) rfl
  case guardDrainDone => exact execGuardDrainDone_writes (.refl _ s) rfl
  case flashRead => exact execFlashRead_writes (.refl _ s) rfl
  case flashProgram => exact execFlashProgram_writes (.refl _ s) rfl
  case flashProgramDone => exact execFlashProgramDone_writes (.refl _ s) rfl
  case flashErase => exact execFlashErase_writes (.refl _ s) rfl
  case flashEraseDone => exact execFlashEraseDone_writes (.refl _ s) rfl
  case eraseSuspend => exact execEraseSuspend_writes (.refl _ s) rfl
  case eraseResume => exact execEraseResume_writes (.refl _ s) rfl
  case suspendExpiry => exact execSuspendExpiry_writes (.refl _ s) rfl
  case readStatus => exact execReadStatus_writes (.refl _ s) rfl
  case flushTick => exact execFlushTick_writes (.refl _ s) rfl
  case collection => exact execCollection_writes (.refl _ s) rfl
  case victimErase => exact execVictimErase_writes (.refl _ s) rfl
  case wearCollection => exact execWearCollection_writes (.refl _ s) rfl
  case crossingTimeout => exact execCrossingTimeout_writes (.refl _ s) rfl
  case eventStamp => exact execEventStamp_writes (.refl _ s) rfl
  case otcSave => exact execOtcSave_writes (.refl _ s) rfl
  case agentAnswer => exact execAgentAnswer_writes (.refl _ s) rfl
  case agentTimeout => exact execAgentTimeout_writes (.refl _ s) rfl
  case delayExpiry => exact execDelayExpiry_writes (.refl _ s) rfl
  case modeTarget => exact execModeTarget_writes (.refl _ s) rfl
  case serviceEnd => exact execServiceEnd_writes (.refl _ s) rfl
  case serviceLimitExpiry => exact execServiceLimitExpiry_writes (.refl _ s) rfl
  case changeoverUnitDone => exact execChangeoverUnitDone_writes (.refl _ s) rfl
  case sramRepaired => exact execSramRepaired_writes (.refl _ s) rfl
  case lifecycleEraseComplete => exact execLifecycleEraseComplete_writes (.refl _ s) rfl
  case monitorSample => exact execMonitorSample_writes (.refl _ s) rfl
  case batchExecute => exact execBatchExecute_writes (.refl _ s) rfl
  case quiesceHoldEnd => exact execQuiesceHoldEnd_writes (.refl _ s) rfl
  case alertAck => exact execAlertAck_writes (.refl _ s) rfl
  case coalesceWindowClose => exact execCoalesceWindowClose_writes (.refl _ s) rfl
  case suppressed => exact execSuppressed_writes (.refl _ s) rfl
  case mbGo => exact execMbGo_writes (.refl _ s) rfl
  case hello => exact execHello_writes (.refl _ s) rfl
  case finish => exact execFinish_writes (.refl _ s) rfl
  case authChallenge => exact execAuthChallenge_writes (.refl _ s) rfl
  case authResponse => exact execAuthResponse_writes (.refl _ s) rfl
  case authDrop => exact execAuthDrop_writes (.refl _ s) rfl
  case officerIdle => exact execOfficerIdle_writes (.refl _ s) rfl
  case read => exact execRead_writes (.refl _ s) rfl
  case write => exact execWrite_writes (.refl _ s) rfl
  case describe => exact execDescribe_writes (.refl _ s) rfl
  case csSeal => exact execCsSeal_writes (.refl _ s) rfl
  case csSign => exact execCsSign_writes (.refl _ s) rfl
  case csCancel => exact execCsCancel_writes (.refl _ s) rfl
  case csQuery => exact execCsQuery_writes (.refl _ s) rfl
  case csDiscard => exact execCsDiscard_writes (.refl _ s) rfl
  case notifyAck => exact execNotifyAck_writes (.refl _ s) rfl
  case notifyResend => exact execNotifyResend_writes (.refl _ s) rfl
  case nopMessage => exact execNopMessage_writes (.refl _ s) rfl
  case close sess req => exact execClose_writes (_req := req) (.refl _ s) rfl
  case msgUnknown => exact execMsgUnknown_writes (.refl _ s) rfl
  case gapSessionExpiry => exact execGapSessionExpiry_writes (.refl _ s) rfl
  case countersignExpiry => exact execCountersignExpiry_writes (.refl _ s) rfl
  case csCommit => exact execCsCommit_writes (.refl _ s) rfl
  case cardInserted => exact execCardInserted_writes (.refl _ s) rfl
  case cardResponse => exact execCardResponse_writes (.refl _ s) rfl
  case cardWtx => exact execCardWtx_writes (.refl _ s) rfl
  case clockStop => exact execClockStop_writes (.refl _ s) rfl
  case cardRemoved => exact execCardRemoved_writes (.refl _ s) rfl
  case cardOvercurrent => exact execCardOvercurrent_writes (.refl _ s) rfl
  case cardRequest => exact execCardRequest_writes (.refl _ s) rfl
  case cardMidstepClear => exact execCardMidstepClear_writes (.refl _ s) rfl
  case ping => exact execPing_writes (.refl _ s) rfl
  case badgeResponse => exact execBadgeResponse_writes (.refl _ s) rfl
  case badgePresenceCheck => exact execBadgePresenceCheck_writes (.refl _ s) rfl
  case externalField => exact execExternalField_writes (.refl _ s) rfl
  case externalFieldGone => exact execExternalFieldGone_writes (.refl _ s) rfl
  case fieldRequest => exact execFieldRequest_writes (.refl _ s) rfl
  case tagTransactionStart => exact execTagTransactionStart_writes (.refl _ s) rfl
  case tagSelect => exact execTagSelect_writes (.refl _ s) rfl
  case readBinary => exact execReadBinary_writes (.refl _ s) rfl
  case updateBinary => exact execUpdateBinary_writes (.refl _ s) rfl
  case increment => exact execIncrement_writes (.refl _ s) rfl
  case tagTransactionEnd => exact execTagTransactionEnd_writes (.refl _ s) rfl
  case tagTransactionTimeout => exact execTagTransactionTimeout_writes (.refl _ s) rfl
  case tagMemBlock => exact execTagMemBlock_writes (.refl _ s) rfl
  case tagCounterAdd => exact execTagCounterAdd_writes (.refl _ s) rfl
  case tagHostTimeout => exact execTagHostTimeout_writes (.refl _ s) rfl
  case thermalOverload => exact execThermalOverload_writes (.refl _ s) rfl
  case startUpTestPassed => exact execStartUpTestPassed_writes (.refl _ s) rfl
  case selfTestDone => exact execSelfTestDone_writes (.refl _ s) rfl
  case inboundFrame => exact execInboundFrame_writes (.refl _ s) rfl
  case blockWaitingTimeExpiry => exact execBlockWaitingTimeExpiry_writes (.refl _ s) rfl
  case frameWaitingTimeExpiry => exact execFrameWaitingTimeExpiry_writes (.refl _ s) rfl
  case vaultBankIdle => exact execVaultBankIdle_writes (.refl _ s) rfl
  case cellExhausted => exact execCellExhausted_writes (.refl _ s) rfl
  case alwaysOnSupplyChange => exact execAlwaysOnSupplyChange_writes (.refl _ s) rfl
  case dtbFrac => exact execDtbFrac_writes (.refl _ s) rfl

/-- Settles O5: a field outside the list is outside the set of what the command writes. -/
theorem commandsChangeListedFieldsAlone : Obligations.CommandsChangeListedFieldsAlone := by
  unfold Obligations.CommandsChangeListedFieldsAlone
  intro c s t f ht hf
  obtain ⟨u, hu, hw⟩ := exec_writes_fieldSet s c
  rw [ht, Host.Outcome.next.injEq] at hu
  subst hu
  exact hw.agree (by rw [testBit_fieldSet, decide_eq_false hf])

end Sys2Proof.Machine
end

section
/-! PROOF. Rings (04 R151 to R157, R850): what a doorbell leaves of its ring, what a squash leaves of every ring, and how a ring that
stops, with or without jobs, ends. -/

namespace Sys2Proof.Machine

open Sys2Proof

/-! ### Doorbells (04 R155 to R157) -/

/-- Beside its indices, its fault and its counts, a doorbell leaves a ring as it was; beside the ring it changes nothing. -/
structure BellKept (s t : State) (p r : Nat) : Prop where
  beside : t.sameBesideRing s p r
  state : (t.ring p r).state = (s.ring p r).state
  enable : (t.ring p r).enable = (s.ring p r).enable

theorem BellKept.refl (s : State) (p r : Nat) : BellKept s s p r := ⟨⟨fun _ _ _ => rfl, rfl⟩, rfl, rfl⟩

theorem BellKept.trans {s t u : State} {p r : Nat} (h : BellKept s t p r) (k : BellKept t u p r) : BellKept s u p r :=
  ⟨sb_trans h.beside k.beside, k.state.trans h.state, k.enable.trans h.enable⟩

theorem BellKept.withRing {s t : State} {p r : Nat} (h : BellKept s t p r) {f : Ring → Ring} (hs : ∀ x, (f x).state = x.state)
    (he : ∀ x, (f x).enable = x.enable) : BellKept s (t.withRing p r f) p r :=
  h.trans ⟨State.withRing_beside t p r f, by rw [State.ring_withRing, hs], by rw [State.ring_withRing, he]⟩

theorem BellKept.writes {s t : State} {p r : Nat} (h : BellKept s t p r) : Writes 512 s t := by
  rw [show t = { s with rings := t.rings } from (congrArg (fun x : State => { x with rings := t.rings }) h.beside.2 :)]
  exact Writes.upd_rings (Writes.refl _ s) (by decide)

/-- An impossible doorbell: its fault is recorded, and it is counted as dropped (04 R155). -/
def bellDropped (s : State) (p r code : Nat) : State :=
  (ringFault s p r code).withRing p r (fun x => { x with dbDropped := (x.dbDropped + 1) % 2 ^ 32 })

theorem bellDropped_ring (s : State) (p r code : Nat) : (bellDropped s p r code).ring p r =
    { s.ring p r with fault := true, faultCode := code, dbDropped := ((s.ring p r).dbDropped + 1) % 2 ^ 32 } := by
  rw [bellDropped, State.ring_withRing, ringFault, State.ring_withRing]

theorem bellDropped_kept (s : State) (p r code : Nat) : BellKept s (bellDropped s p r code) p r :=
  have hf : BellKept s (ringFault s p r code) p r := (BellKept.refl s p r).withRing (fun _ => rfl) fun _ => rfl
  hf.withRing (fun _ => rfl) fun _ => rfl

theorem serveSq_kept (s : State) (p r v : Nat) : BellKept s (serveSq s p r v) p r := by
  unfold serveSq
  have hs := BellKept.refl s p r
  dsimp only
  split
  · exact hs
  · split
    · exact bellDropped_kept s p r _
    · split
      · exact bellDropped_kept s p r _
      · exact hs.withRing (fun _ => rfl) fun _ => rfl

theorem serveCq_kept (s : State) (p r v : Nat) : BellKept s (serveCq s p r v) p r := by
  unfold serveCq
  have hs := BellKept.refl s p r
  dsimp only
  split
  · exact hs
  · split
    · exact bellDropped_kept s p r _
    · exact hs.withRing (fun _ => rfl) fun _ => rfl

theorem ringSq_kept (s : State) (p r v : Nat) : BellKept s (ringSq s p r v) p r := by
  unfold ringSq
  have hs := BellKept.refl s p r
  dsimp only
  split
  · exact hs.withRing (fun _ => rfl) fun _ => rfl
  · split
    · exact serveSq_kept s p r v
    · split
      · exact hs
      · exact hs.withRing (fun _ => rfl) fun _ => rfl

theorem ringCq_kept (s : State) (p r v : Nat) : BellKept s (ringCq s p r v) p r := by
  unfold ringCq
  have hs := BellKept.refl s p r
  dsimp only
  split
  · exact hs.withRing (fun _ => rfl) fun _ => rfl
  · split
    · exact serveCq_kept s p r v
    · split
      · exact hs
      · exact hs.withRing (fun _ => rfl) fun _ => rfl

theorem heldBells_kept (s : State) (p r : Nat) : BellKept s (heldBells s p r) p r := by
  unfold heldBells
  extract_lets x s1 s2
  have h1 : BellKept s s1 p r := (BellKept.refl s p r).withRing (fun _ => rfl) fun _ => rfl
  have h2 : BellKept s s2 p r := by
    cases hc : x.heldCq with
    | none => simpa only [s2, hc] using h1
    | some v => simpa only [s2, hc] using h1.trans (ringCq_kept s1 p r v)
  cases hq : x.heldSq with
  | none => exact h2
  | some v => exact h2.trans (ringSq_kept s2 p r v)

/-- A submission doorbell that repeats SQ_TAIL, on a ring that is not held, has no effect (04 R157). -/
theorem ringSq_repeated {s : State} {p r v : Nat} (hs : (s.ring p r).state ≠ 3) (hv : v = (s.ring p r).sqTail) : ringSq s p r v = s := by
  simp [ringSq, serveSq, hs, hv]

/-- A completion doorbell that repeats CQ_HEAD likewise. -/
theorem ringCq_repeated {s : State} {p r v : Nat} (hs : (s.ring p r).state ≠ 3) (hv : v = (s.ring p r).cqHead) : ringCq s p r v = s := by
  simp [ringCq, serveCq, hs, hv]

/-- Held doorbells that repeat the indices have no effect when they are serviced, and are held no more. -/
theorem heldBells_repeated {s : State} {p r : Nat} (hs : (s.ring p r).state ≠ 3)
    (hq : ∀ v, (s.ring p r).heldSq = some v → v = (s.ring p r).sqTail)
    (hc : ∀ v, (s.ring p r).heldCq = some v → v = (s.ring p r).cqHead) :
    heldBells s p r = s.withRing p r (fun x => { x with heldSq := none, heldCq := none }) := by
  unfold heldBells
  extract_lets x s1 s2
  have hx : s1.ring p r = { x with heldSq := none, heldCq := none } := State.ring_withRing s p r _
  have h2 : s2 = s1 := by
    cases hh : x.heldCq with
    | none => simp only [s2, hh]
    | some v => simpa only [s2, hh] using ringCq_repeated (by rw [hx]; exact hs) (by rw [hx]; exact hc v hh)
  cases hh : x.heldSq with
  | none => exact h2
  | some v =>
    refine (ringSq_repeated ?_ ?_).trans h2
    · rw [h2, hx]; exact hs
    · rw [h2, hx]; exact hq v hh

/-! ### Squashes (04 R182, R186) -/

/-- Every ring is as it was but for its reservation, its count of squashed descriptors and what it is to fetch again. -/
def RingsSquashed (s t : State) : Prop := ∀ p r, t.ring p r = { s.ring p r with
  reserved := (t.ring p r).reserved, squashed := (t.ring p r).squashed, refetch := (t.ring p r).refetch }

theorem RingsSquashed.trans {s t u : State} (h : RingsSquashed s t) (k : RingsSquashed t u) : RingsSquashed s u := fun p r => by
  rw [k p r, h p r]

theorem RingsSquashed.of_rings {s t : State} (h : t.rings = s.rings) : RingsSquashed s t := fun p r => by
  simp only [State.ring, h]

theorem squashJob_rings (s : State) (again : Bool) (id : Nat) : RingsSquashed s (squashJob s again id) := by
  have hleft : RingsSquashed s (returnChannel (freeSlot s id) id) :=
    .of_rings ((returnChannel_writes (wm := 4199552) (freeSlot_writes (Writes.refl _ s) (by decide)) (by decide)).rings (by decide))
  refine hleft.trans fun q k => ?_
  simp only [squashJob, State.ring, State.bump_rings, State.withRing_rings, Tab.get_upd]
  split
  · next h => rw [h]
  · rfl

theorem squashWhere_rings (s : State) (again : Bool) (p : Job → Bool) : RingsSquashed s (squashWhere s again p) := by
  unfold squashWhere
  generalize s.jobsWith _ = l
  induction l generalizing s with
  | nil => exact fun _ _ => rfl
  | cons id l ih => exact (squashJob_rings s again id).trans (ih _)

/-- Where no job that passes the test is in staging, nothing is squashed. -/
theorem squashWhere_none {s : State} {again : Bool} {p : Job → Bool} (h : ∀ e ∈ s.jobs, (e.2.inStaging && p e.2) = false) :
    squashWhere s again p = s := by
  rw [squashWhere, State.jobsWith, Tab.keysWith_eq_nil.mpr h, List.foldl_nil]

/-! ### A ring that stops (04 R152) -/

/-- A ring stopped: it drains, its read is dropped and the doorbells that it held are serviced. -/
def stopRing (s : State) (p r : Nat) : State := heldBells (dropRead (drainRing s p r) p r) p r

theorem disableRing_eq (s : State) (p r : Nat) : disableRing s p r = settleRing (stopRing s p r) p r := rfl

theorem stopRing_ring (s : State) (p r : Nat) : ((stopRing s p r).ring p r).state = 2 ∧ ((stopRing s p r).ring p r).enable = false := by
  obtain ⟨-, hs, he⟩ := heldBells_kept (dropRead (drainRing s p r) p r) p r
  have hd : (dropRead (drainRing s p r) p r).ring p r = (drainRing s p r).ring p r := rfl
  rw [stopRing, hs, he, hd, drainRing, State.ring_withRing]
  exact ⟨rfl, rfl⟩

/-- With none of its jobs in staging, a ring that stops leaves all but rings and descriptor reads as it was. -/
theorem stopRing_writes {s : State} {p r : Nat} (h : ∀ e ∈ s.jobs, (e.2.inStaging && (e.2.part == p && e.2.ring == r)) = false) :
    Writes 4608 s (stopRing s p r) := by
  rw [stopRing, drainRing, squashWhere_none h]
  exact heldBells_writes (dropRead_writes (State.withRing_writes (Writes.refl _ s) (by decide)) (by decide)) (by decide)

theorem ringQuiet_iff {s : State} {p r : Nat} : ringQuiet s p r = true ↔ ∀ e ∈ s.jobs, (e.2.part == p && e.2.ring == r) = false := by
  rw [ringQuiet, List.isEmpty_iff, State.jobsWith, Tab.keysWith_eq_nil]

theorem ringQuiet_congr {s t : State} (h : t.jobs = s.jobs) (p r : Nat) : ringQuiet t p r = ringQuiet s p r := by
  rw [ringQuiet, State.jobsWith, h, ← State.jobsWith, ← ringQuiet]

/-- A ring one of whose jobs is left is not quiet. -/
theorem ringQuiet_busy {s : State} {id : Nat} (h : (s.job id).phase ≠ .waitCtx) :
    ringQuiet s (s.job id).part (s.job id).ring = false := by
  rw [← Bool.not_eq_true, ringQuiet_iff]
  intro hq
  obtain ⟨j, hj⟩ := Option.isSome_iff_exists.mp (by simpa using State.find_of_phase h)
  have hjob : s.job id = j := by simp [State.job, Tab.get, hj]
  simpa [hjob] using hq _ (Tab.mem_of_find hj)

/-- A draining ring without jobs becomes DISABLED. -/
theorem settleRing_quiet {s : State} {p r : Nat} (hs : (s.ring p r).state = 2) (hq : ringQuiet s p r = true) :
    settleRing s p r = s.withRing p r (fun x => { x with state := 0, reserved := 0 }) := by
  simp [settleRing, hs, hq]

/-- A ring with jobs does not settle. -/
theorem settleRing_busy {s : State} {p r : Nat} (hq : ringQuiet s p r = false) : settleRing s p r = s := by
  simp [settleRing, hq]

/-! ### The commands (04 R151 to R157) -/

/-- A ring enabled: ACTIVE, with every index, list and count at its start. -/
def ringEnabled (s : State) (p r : Nat) : State := s.withRing p r (fun x => { x with
  enable := true, state := 1, headN := 0, cqN := 0, fetchN := 0, sqTail := 0, cqHead := 0, refetch := [], passed := [], flags := [],
  chainAt := [], chainSq := [], barriers := [], reserved := 0, dbDropped := 0, squashed := 0, heldSq := none, heldCq := none,
  bootstrap := inBootstrap s p })

theorem exec_ringEnable {s : State} {p r : Nat} (hp : partOn s p = true) (hr : r < 8) (hs : (s.ring p r).state = 0)
    (hc : enableCheck s p (s.ring p r) = 0) (hh : ringsHeld s p = false) : exec (.ringEnable p r) s = .next (ringEnabled s p r) := by
  change execRingEnable p r s = _
  simp [execRingEnable, ringEnabled, hp, Nat.not_le.mpr hr, hs, hc, hh]

theorem exec_sqDb_on {s : State} {p r : Nat} (v : BitVec 32) (hp : partOn s p = true) (hr : r < 8) :
    exec (.sqDb p r v) s = .next (ringSq s p r (bits v.toNat 16 0)) :=
  if_pos (by simp [hp, hr])

theorem exec_cqDb_on {s : State} {p r : Nat} (v : BitVec 32) (hp : partOn s p = true) (hr : r < 8) :
    exec (.cqDb p r v) s = .next (ringCq s p r (bits v.toNat 16 0)) :=
  if_pos (by simp [hp, hr])

theorem exec_sqDb_repeated {s : State} {p r : Nat} {v : BitVec 32} (hs : (s.ring p r).state ≠ 3)
    (hv : bits v.toNat 16 0 = (s.ring p r).sqTail) : exec (.sqDb p r v) s = .next s := by
  change execSqDb p r v s = _
  rw [execSqDb, ringSq_repeated hs hv, ite_self]

theorem exec_cqDb_repeated {s : State} {p r : Nat} {v : BitVec 32} (hs : (s.ring p r).state ≠ 3)
    (hv : bits v.toNat 16 0 = (s.ring p r).cqHead) : exec (.cqDb p r v) s = .next s := by
  change execCqDb p r v s = _
  rw [execCqDb, ringCq_repeated hs hv, ite_self]

/-- A possible submission doorbell on an ACTIVE ring is its SQ_TAIL, a repeated one included. -/
theorem ringSq_stored {s : State} {p r v : Nat} (hs : (s.ring p r).state = 1) (hv : v < 2 * (s.ring p r).entries)
    (hd : (s.ring p r).diff v (s.ring p r).sqHead ≤ (s.ring p r).entries) :
    (ringSq s p r v).ring p r = { s.ring p r with sqTail := v } := by
  have hserve : ringSq s p r v = serveSq s p r v := by simp [ringSq, hs]
  rw [hserve, serveSq]
  by_cases h : v = (s.ring p r).sqTail
  · simp [h]
  · simp [h, Nat.not_le.mpr hv, Nat.not_lt.mpr hd]

/-- A possible completion doorbell likewise is its CQ_HEAD. -/
theorem ringCq_stored {s : State} {p r v : Nat} (hs : (s.ring p r).state = 1) (hv : v < 2 * (s.ring p r).entries)
    (hd : (s.ring p r).diff (s.ring p r).cqTail v ≤ (s.ring p r).entries) :
    (ringCq s p r v).ring p r = { s.ring p r with cqHead := v } := by
  have hserve : ringCq s p r v = serveCq s p r v := by simp [ringCq, hs]
  rw [hserve, serveCq]
  by_cases h : v = (s.ring p r).cqHead
  · simp [h]
  · simp [h, Nat.not_le.mpr hv, Nat.not_lt.mpr hd]

/-- An impossible submission doorbell is dropped: out of its range, or further on than the ring holds. -/
theorem ringSq_dropped {s : State} {p r v : Nat} (hs : (s.ring p r).state = 1) (hn : v ≠ (s.ring p r).sqTail)
    (hv : 2 * (s.ring p r).entries ≤ v ∨ (s.ring p r).entries < (s.ring p r).diff v (s.ring p r).sqHead) :
    ringSq s p r v = bellDropped s p r (if 2 * (s.ring p r).entries ≤ v then 0x2011 else 0x2001) := by
  have hserve : ringSq s p r v = serveSq s p r v := by simp [ringSq, hs]
  rw [hserve, serveSq]
  by_cases h : 2 * (s.ring p r).entries ≤ v
  · simp [hn, h, bellDropped]
  · simp [hn, h, hv.resolve_left h, bellDropped]

theorem exec_ringDisable {s : State} {p r : Nat} (hp : partOn s p = true) (hs : (s.ring p r).state = 1) :
    exec (.ringDisable p r) s = .next (settleRing (stopRing s p r) p r) :=
  if_pos (by simp [hp, hs])

theorem exec_ringDrained (s : State) (p r : Nat) : exec (.ringDrained p r) s = .next (settleRing s p r) := rfl

/-- A squad job cut short by its ring: what it has counted stands, and it ends ABORTED_BY_HOST (04 R153). -/
def jobAborted (s : State) (id : Nat) : State := finish (partialCounts s id) id 0x6001 [] 6

theorem abortJob_running {s : State} {id : Nat} (hp : (s.job id).phase = .running) (ho : (s.job id).d.opcode ≠ 0x0602) :
    abortJob s id = jobAborted s id := by
  simp [abortJob, hp, zeroFill, largeOpen, ho, jobAborted]

theorem partialCounts_place (s : State) (id : Nat) :
    ((partialCounts s id).job id).part = (s.job id).part ∧ ((partialCounts s id).job id).ring = (s.job id).ring := by
  unfold partialCounts
  extract_lets j l lo
  by_cases hq : isSquadOp j.d.opcode = true
  · rw [if_pos hq]
    by_cases hr : j.phase = .running
    · rw [if_pos hr]
      simp [State.drawNat, State.job, State.withJob]
    · rw [if_neg hr]
      simp
  · rw [if_neg hq]
    split <;> simp

/-- An aborted job waits for its entry under its ring. -/
theorem jobAborted_place (s : State) (id : Nat) :
    ((jobAborted s id).job id).part = (s.job id).part ∧ ((jobAborted s id).job id).ring = (s.job id).ring := by
  obtain ⟨hp, hr⟩ := partialCounts_place s id
  rw [jobAborted, finish_job, if_pos rfl]
  exact ⟨hp, hr⟩

theorem jobAborted_finished (s : State) (id : Nat) : Finished (jobAborted s id) id 0x6001 [] 6 := (finish_ended _ id 0x6001 [] 6).1

/-- What the abort of a job touches: no ring and nothing of the host's memory. -/
theorem jobAborted_aborts (s : State) (id : Nat) : Writes 2186302594 s (jobAborted s id) :=
  finish_writes (partialCounts_writes (Writes.refl _ s) (by decide)) (by decide)

/-- A ring aborted whose only job runs on a squad: the job ends, and the ring drains until its entry is posted. -/
theorem exec_ringAbort {s : State} {p r id : Nat} {j : Job} (hp : partOn s p = true) (hs : (s.ring p r).state = 1)
    (hj : s.jobs = [(id, j)]) (hpart : j.part = p) (hring : j.ring = r) (hph : j.phase = .running) (ho : j.d.opcode ≠ 0x0602) :
    exec (.ringAbort p r) s = .next (jobAborted (stopRing s p r) id) := by
  have hstop : (stopRing s p r).jobs = [(id, j)] :=
    ((stopRing_writes (by simp [hj, Job.inStaging, hph])).jobs (by decide)).trans hj
  have hjob : (stopRing s p r).job id = j := by simp [State.job, hstop, Tab.get, Tab.find]
  have hown : (stopRing s p r).jobsWith (fun j => j.part == p && j.ring == r) = [id] := by
    simp [State.jobsWith, hstop, Tab.keysWith, hpart, hring]
  obtain ⟨hp', hr'⟩ := jobAborted_place (stopRing s p r) id
  have hbusy : ringQuiet (jobAborted (stopRing s p r) id) p r = false := by
    have h := ringQuiet_busy (s := jobAborted (stopRing s p r) id) (id := id) (by rw [(jobAborted_finished _ id).1]; decide)
    rwa [hp', hr', hjob, hpart, hring] at h
  have hexec : exec (.ringAbort p r) s = .next (settleRing
      (((stopRing s p r).jobsWith (fun j => j.part == p && j.ring == r)).foldl abortJob (stopRing s p r)) p r) :=
    if_pos (by simp [hp, hs])
  rw [hexec, hown, List.foldl_cons, List.foldl_nil, abortJob_running (by rw [hjob, hph]) (by rw [hjob]; exact ho), settleRing_busy hbusy]

/-! ### The obligations -/

/-- A ring released while the doorbells that it held repeat its indices (04 R156, R157). -/
theorem releaseRing_repeated {s : State} {p r : Nat} (hs : (s.ring p r).state = 3)
    (hq : ∀ v, (s.ring p r).heldSq = some v → v = (s.ring p r).sqTail)
    (hc : ∀ v, (s.ring p r).heldCq = some v → v = (s.ring p r).cqHead) :
    releaseRing s p r = (s.withRing p r (fun x => { x with state := 1 })).withRing p r (fun x =>
      { x with heldSq := none, heldCq := none }) := by
  have hx := State.ring_withRing s p r (fun x => { x with state := 1 })
  rw [releaseRing, if_neg (not_not.mpr hs)]
  exact heldBells_repeated (by simp [hx]) (by rw [hx]; exact hq) (by rw [hx]; exact hc)

/-- Settles O56: by the state of the ring, for each of the two doorbells. -/
theorem repeatedDoorbellHasNoEffect : Obligations.RepeatedDoorbellHasNoEffect := by
  unfold Obligations.RepeatedDoorbellHasNoEffect
  refine ⟨?own, ?proxy, ?held, ?released⟩
  case own => exact fun s p r v hs => ⟨exec_sqDb_repeated hs, exec_cqDb_repeated hs⟩
  case proxy =>
    intro s p r v hs he ht
    refine ⟨fun hv => ?_, fun hv => ?_⟩
    · change execProxyDoorbell p r false v s = _
      simp [execProxyDoorbell, proxyShut, he, ht, ringSq_repeated hs hv]
    · change execProxyDoorbell p r true v s = _
      simp [execProxyDoorbell, proxyShut, he, ht, ringCq_repeated hs hv]
  case held =>
    intro s p r v hp hr hs
    refine ⟨fun hv => ⟨_, exec_sqDb_on v hp hr, ?_⟩, fun hv => ⟨_, exec_cqDb_on v hp hr, ?_⟩⟩
    · rw [ringSq, if_pos hs, hv]
      exact ⟨rfl, State.withRing_beside s p r _, State.ring_withRing s p r _⟩
    · rw [ringCq, if_pos hs, hv]
      exact ⟨rfl, State.withRing_beside s p r _, State.ring_withRing s p r _⟩
  case released =>
    intro s p r hs hq hc
    rw [releaseRing_repeated hs hq hc]
    refine ⟨?_, sb_trans (State.withRing_beside s p r _) (State.withRing_beside _ p r _)⟩
    rw [State.ring_withRing, State.ring_withRing]

/-- Settles O16: each clause reads off the state that the lemma above gives its command. -/
theorem ringLife : Obligations.RingLife := by
  unfold Obligations.RingLife
  refine ⟨?enable, ?sq, ?sqDropped, ?cq, ?disable, ?drained, ?busy, ?abort⟩
  case enable =>
    intro s p r hp hr hs hc hh
    have hx : (ringEnabled s p r).ring p r = _ := State.ring_withRing s p r _
    refine ⟨_, exec_ringEnable hp hr hs hc hh, ?_⟩
    rw [hx]
    exact ⟨rfl, rfl, Nat.zero_mod _, Nat.zero_mod _, rfl, rfl, rfl, rfl, State.withRing_beside s p r _⟩
  case sq => exact fun s p r v hp hr hs hv hd => ⟨_, exec_sqDb_on v hp hr, ringSq_stored hs hv hd, (ringSq_kept s p r _).beside⟩
  case sqDropped =>
    intro s p r v hp hr hs hn hv
    have hx := bellDropped_ring s p r (if 2 * (s.ring p r).entries ≤ bits v.toNat 16 0 then 0x2011 else 0x2001)
    refine ⟨_, (exec_sqDb_on v hp hr).trans (congrArg _ (ringSq_dropped hs hn hv)), ?_⟩
    rw [hx]
    exact ⟨rfl, rfl, rfl, rfl, (bellDropped_kept s p r _).beside⟩
  case cq => exact fun s p r v hp hr hs hv hd => ⟨_, exec_cqDb_on v hp hr, ringCq_stored hs hv hd, (ringCq_kept s p r _).beside⟩
  case disable =>
    intro s p r hp hs hq
    have hw : Writes 4608 s (stopRing s p r) := stopRing_writes fun e he => by rw [ringQuiet_iff.mp hq e he, Bool.and_false]
    have hjobs := hw.jobs (by decide)
    obtain ⟨hstate, henable⟩ := stopRing_ring s p r
    refine ⟨_, exec_ringDisable hp hs, ?_⟩
    rw [settleRing_quiet hstate ((ringQuiet_congr hjobs p r).trans hq), State.ring_withRing]
    exact ⟨rfl, henable, hjobs, hw.parts (by decide), hw.hostMem (by decide)⟩
  case drained =>
    intro s p r hs hq
    refine ⟨_, exec_ringDrained s p r, ?_⟩
    rw [settleRing_quiet hs hq, State.ring_withRing]
    exact ⟨rfl, State.withRing_beside s p r _⟩
  case busy => exact fun s p r hq => by rw [exec_ringDrained, settleRing_busy hq]
  case abort =>
    intro s p r id j hp hs hj hpart hring hph ho
    have hw : Writes 4608 s (stopRing s p r) := stopRing_writes (by simp [hj, Job.inStaging, hph])
    have ha := jobAborted_aborts (stopRing s p r) id
    refine ⟨_, exec_ringAbort hp hs hj hpart hring hph ho, jobAborted_finished _ id, ?_, ?_⟩
    · rw [State.ring, ha.rings (by decide), ← State.ring]
      exact (stopRing_ring s p r).1
    · rw [ha.hostMem (by decide), hw.hostMem (by decide)]

end Sys2Proof.Machine
end

section
/-! PROOF. Intake (04 R166 to R176, R850): what a visit reads, what a descriptor that arrives becomes, and what a read that fails and a
context that is freed leave. -/

namespace Sys2Proof.Machine

open Sys2Proof

/-! ### Tables under a key that they do not list -/

/-- A new key adds nothing that fails a test. -/
theorem Tab.filter_set_new {α : Type} {i : Nat} {v : α} {q : Nat × α → Bool} (hv : q (i, v) = false) :
    ∀ {t : Tab α}, Tab.find t i = none → (Tab.set t i v).filter q = t.filter q
  | [], _ => by simp [Tab.set, hv]
  | (k, w) :: t, h => by
    rw [Tab.find] at h
    by_cases hk : k = i
    · simp [hk] at h
    · rw [if_neg hk] at h
      rw [Tab.set, if_neg hk]
      by_cases hi : i < k
      · rw [if_pos hi, List.filter_cons, hv]
        rfl
      · rw [if_neg hi, List.filter_cons, List.filter_cons, Tab.filter_set_new hv h]

theorem Tab.find_mapVals {α : Type} (f : Nat → α → α) (i : Nat) :
    ∀ t : Tab α, Tab.find (Tab.mapVals t f) i = (Tab.find t i).map (f i)
  | [] => rfl
  | (k, v) :: t => by
    have ih := Tab.find_mapVals f i t
    rw [Tab.mapVals] at ih ⊢
    rw [List.map_cons, Tab.find, Tab.find, ih]
    by_cases hk : k = i
    · simp [hk]
    · simp [hk]

/-! ### Intake cores -/

theorem State.intake_withIntake (s : State) (c : Nat) (f : Intake → Intake) :
    (s.withIntake c f).intake.get {} c = f (s.intake.get {} c) :=
  Tab.get_upd_self _ s.intake c f

/-! ### A visit (04 R166, R167) -/

theorem length_nextRead_le (r : Ring) (room : Nat) : (nextRead r room).length ≤ 8 := by
  simp only [nextRead, List.length_map, List.length_range]
  omega

/-- The descriptors that a ring may still be sent: entries that its completion queue has free, staging slots and jobs in flight. -/
def intakeRoom (s : State) (p r : Nat) : Nat :=
  min ((s.ring p r).entries - (s.ring p r).diff (s.ring p r).cqTail (s.ring p r).cqHead - (s.ring p r).reserved)
    (min (freeSlots s p) (s.gvs gPartitionCap p - s.inFlight p))

/-- A visit to a ring: its read is issued and its descriptors are reserved. -/
def visited (s : State) (c p r : Nat) : State :=
  let ns := nextRead (s.ring p r) (intakeRoom s p r)
  (s.withIntake c (fun i => { i with
    lastPart := p, ringTurn := i.ringTurn.set p r, out := if ns.isEmpty then none else some (p, r, ns) })).withRing p r (fun x => { x with
      reserved := x.reserved + ns.length, fetchN := if x.refetch.isEmpty then x.fetchN + ns.length else x.fetchN,
      refetch := x.refetch.filter (fun n => !(ns.contains n)) })

theorem visited_core (s : State) (c p r : Nat) : (visited s c p r).intake.get {} c =
    let i := s.intake.get {} c
    let ns := nextRead (s.ring p r) (intakeRoom s p r)
    { i with lastPart := p, ringTurn := i.ringTurn.set p r, out := if ns.isEmpty then none else some (p, r, ns) } := by
  simp only [visited, State.withRing_intake, State.intake_withIntake]

theorem exec_intakeVisit {s : State} {c p r : Nat} (hs : s.serving = true) (hl : s.link.state = .l0)
    (hh : (s.intake.get {} c).held = false) (ho : (s.intake.get {} c).out = none) (hc : c < 4) (hi : s.isl (151 + c) < 2)
    (hp : afterCyc (pendingParts s c) (s.intake.get {} c).lastPart = some p)
    (hr : afterCyc ((List.range 8).filter (fun k => (s.ring p k).hasWork)) ((s.intake.get {} c).ringTurn.get 7 p) = some r) :
    exec (.intakeVisit c) s = .next (visited s c p r) := by
  change execIntakeVisit c s = _
  simp [execIntakeVisit, hs, hl, hh, ho, Nat.not_le.mpr hc, Nat.not_le.mpr hi, hp, hr, visited, intakeRoom]

/-! ### Descriptors that arrive (04 R170 to R176) -/

/-- The job that a descriptor becomes: it holds a staging slot of its core and waits for a context. -/
def newJob (s : State) (c p r n : Nat) (d : Desc) : Job :=
  { part := p, ring := r, n := n, d := d, slot := some c, winVer := (s.part p).winVer, epoch := s.gv gGuardEpoch }

/-- A descriptor noted as a job, its read at an end. -/
def arrived (s : State) (c p r n : Nat) (d : Desc) : State :=
  ({ s.withIntake c (fun i => { i with out := none }) with
    nextJob := s.nextJob + 1, jobs := s.jobs.set s.nextJob (newJob s c p r n d) } : State).withRing p r (fun x => noteArrival x n d)

theorem arrived_job_self (s : State) (c p r n : Nat) (d : Desc) : (arrived s c p r n d).job s.nextJob = newJob s c p r n d :=
  Tab.get_set_self _ _ _ _

theorem arrived_job_other (s : State) (c p r n : Nat) (d : Desc) {k : Nat} (h : k ≠ s.nextJob) : (arrived s c p r n d).job k = s.job k :=
  Tab.get_set_other _ _ _ h

theorem arrived_out (s : State) (c p r n : Nat) (d : Desc) : ((arrived s c p r n d).intake.get {} c).out = none := by
  rw [show (arrived s c p r n d).intake = (s.withIntake c (fun i => { i with out := none })).intake from rfl, State.intake_withIntake]

theorem arrived_cqN (s : State) (c p r n : Nat) (d : Desc) : ((arrived s c p r n d).ring p r).cqN = (s.ring p r).cqN := by
  rw [arrived, State.ring_withRing]
  rfl

/-- A job that holds no context counts for none. -/
theorem arrived_canAlloc {s : State} (c p r n : Nat) (d : Desc) (hj : s.jobs.find s.nextJob = none) (q : Nat) :
    canAlloc (arrived s c p r n d) q = canAlloc s q := by
  have hcount (g : Job → Bool) (hg : ∀ j : Job, j.ctx = false → g j = false) :
      (arrived s c p r n d).jobs.countP g = s.jobs.countP g :=
    congrArg List.length (Tab.filter_set_new (hg _ rfl) hj)
  have hfl : (arrived s c p r n d).inFlight q = s.inFlight q := hcount _ fun j h => by simp [h]
  have hctx : (arrived s c p r n d).ctxUsed = s.ctxUsed := hcount _ fun j h => h
  have hcap : (arrived s c p r n d).gvs gPartitionCap q = s.gvs gPartitionCap q := rfl
  simp only [canAlloc, hfl, hctx, hcap]

theorem arrived_check (s : State) (c p r n : Nat) (d : Desc) : intakeCheck (arrived s c p r n d) p d = intakeCheck s p d := rfl

theorem arrived_afterContext (s : State) (c p r n : Nat) (d : Desc) : afterContext (arrived s c p r n d) d = afterContext s d := rfl

/-- With no earlier job able to take the context, none waits beside the one that has arrived. -/
theorem arrived_waits {s : State} (c p r n : Nat) (d : Desc) (hj : s.jobs.find s.nextJob = none)
    (hw : s.jobs.any (fun e => e.2.phase == .waitCtx && canAlloc s e.2.part) = false) :
    (arrived s c p r n d).jobs.any (fun e =>
      e.1 != s.nextJob && e.2.phase == .waitCtx && canAlloc (arrived s c p r n d) e.2.part) = false := by
  simp only [arrived_canAlloc c p r n d hj]
  rw [List.any_eq_false] at hw
  rw [List.any_eq_false, ← List.filter_eq_nil_iff, show (arrived s c p r n d).jobs = s.jobs.set s.nextJob _ from rfl,
    Tab.filter_set_new (by simp) hj, List.filter_eq_nil_iff]
  intro e he
  rw [Bool.and_assoc, Bool.and_eq_true]
  exact fun h => hw e he h.2

/-- The one descriptor that a core has asked for, outside a chain under squash, is admitted or completed by the checks of Table 11. -/
theorem exec_descriptorArrival {s : State} {c p r n : Nat} {w : BitVec 512} (hl : s.link.state = .l0)
    (ho : (s.intake.get {} c).out = some (p, r, [n])) (hm : chainMember (s.ring p r) n (parseDesc w) = false) :
    let s1 := arrived s c p r n (parseDesc w)
    exec (.descriptorArrival c [w]) s = .next (
      if intakeCheck s1 p (parseDesc w) = 0 then letIn s1 s.nextJob
      else completeAtIntake s1 s.nextJob (intakeCheck s1 p (parseDesc w)) 0) := by
  intro s1
  have harrive : arrive c p r (s.withIntake c (fun i => { i with out := none })) (n, w) =
      if intakeCheck s1 p (parseDesc w) = 0 then letIn s1 s.nextJob
      else completeAtIntake s1 s.nextJob (intakeCheck s1 p (parseDesc w)) 0 :=
    if_neg (by simpa [State.ring] using hm)
  change execDescriptorArrival c [w] s = _
  simp [execDescriptorArrival, ho, hl, harrive]

theorem letIn_given {s : State} {id : Nat} (ha : canAlloc s (s.job id).part = true)
    (hw : s.jobs.any (fun e => e.1 != id && e.2.phase == .waitCtx && canAlloc s e.2.part) = false) : letIn s id = giveContext s id := by
  simp only [letIn, ha, hw, if_true, Bool.false_eq_true, if_false]

theorem giveContext_job_self (s : State) (id : Nat) : ∃ held, (giveContext s id).job id =
    { s.job id with ctx := true, phase := afterContext s (s.job id).d, heldAt := held } :=
  ⟨_, State.job_withJob s id _⟩

theorem giveContext_job_other (s : State) {id k : Nat} (h : k ≠ id) : (giveContext s id).job k = s.job k :=
  State.job_withJob_other s _ h

/-- A job that intake completes, before its entry is due. -/
def refusedAtIntake (s : State) (id status tc : Nat) : State :=
  (freeSlot s id).withJob id (fun j => { j with phase := .finished, status := status, out := [], timeClass := tc, ctx := false })

theorem completeAtIntake_eq (s : State) (id status tc : Nat) :
    completeAtIntake s id status tc = complete (refusedAtIntake s id status tc) id := rfl

theorem refusedAtIntake_refuses (s : State) (id status tc : Nat) : Writes 5120 s (refusedAtIntake s id status tc) :=
  State.withJob_writes (freeSlot_writes (Writes.refl _ s) (by decide)) (by decide)

theorem refusedAtIntake_job_self (s : State) (id status tc : Nat) : (refusedAtIntake s id status tc).job id =
    { s.job id with slot := none, phase := .finished, status := status, out := [], timeClass := tc, ctx := false } := by
  rw [refusedAtIntake, State.job_withJob, freeSlot_job, if_pos rfl]

theorem refusedAtIntake_job_other (s : State) (status tc : Nat) {id k : Nat} (h : k ≠ id) :
    (refusedAtIntake s id status tc).job k = s.job k := by
  rw [refusedAtIntake, State.job_withJob_other _ _ h, freeSlot_job, if_neg h]

/-- A job completed at intake in L0, not ORDERED and with metering open, posts one entry and is gone. -/
theorem completeAtIntake_posts {s : State} {id : Nat} (status tc : Nat) (hl : s.link.state = .l0) (hm : s.meter.accepting = true)
    (ho : (s.job id).d.ordered = false) :
    (completeAtIntake s id status tc).jobs.find id = none ∧
      ((completeAtIntake s id status tc).ring (s.job id).part (s.job id).ring).cqN = (s.ring (s.job id).part (s.job id).ring).cqN + 1 ∧
      ∀ k, k ≠ id → (completeAtIntake s id status tc).job k = s.job k := by
  have hr := refusedAtIntake_refuses s id status tc
  have hj := refusedAtIntake_job_self s id status tc
  have hpost : completeAtIntake s id status tc = writeEntry (refusedAtIntake s id status tc) id :=
    (completeAtIntake_eq s id status tc).trans (complete_writeEntry (by rw [hr.link (by decide), hl])
      (by rw [hr.meter (by decide), hm]) (by rw [hj, ← ho]))
  have hcq := writeEntry_cqN (refusedAtIntake s id status tc) id
  rw [hj] at hcq
  rw [hpost]
  refine ⟨writeEntry_find_self _ id, hcq.trans ?_, fun k hk => ?_⟩
  · simp only [State.ring, hr.rings (by decide)]
  · rw [writeEntry_job_other _ hk, refusedAtIntake_job_other s status tc hk]

/-! ### A descriptor read that fails (04 R850) -/

theorem freeSlot_out (s : State) (id c : Nat) : ((freeSlot s id).intake.get {} c).out = (s.intake.get {} c).out := by
  unfold freeSlot
  split
  · rfl
  · next k hk =>
    rw [State.withJob_intake, State.withIntake, Tab.get_upd]
    split
    · next h => subst h; split <;> rfl
    · rfl

theorem squashJob_out (s : State) (again : Bool) (id c : Nat) : ((squashJob s again id).intake.get {} c).out = (s.intake.get {} c).out := by
  have hret : (returnChannel (freeSlot s id) id).intake = (freeSlot s id).intake :=
    (returnChannel_returns (freeSlot s id) id).intake (by decide)
  simp only [squashJob, State.bump_intake, State.withRing_intake, hret, freeSlot_out]

/-- Squashes leave the reads of the intake cores as they were. -/
theorem squashWhere_out (s : State) (again : Bool) (p : Job → Bool) (c : Nat) :
    ((squashWhere s again p).intake.get {} c).out = (s.intake.get {} c).out := by
  unfold squashWhere
  generalize s.jobsWith _ = l
  induction l generalizing s with
  | nil => rfl
  | cons id l ih => exact (ih _).trans (squashJob_out s again id c)

/-- A core whose read is at an end has none after a ring's read is dropped. -/
theorem dropRead_out {s : State} (p r : Nat) {c : Nat} (h : (s.intake.get {} c).out = none) :
    ((dropRead s p r).intake.get {} c).out = none := by
  rw [Tab.get] at h
  simp only [dropRead, Tab.get, Tab.find_mapVals]
  cases hf : s.intake.find c with
  | none => rfl
  | some i =>
    rw [hf, Option.getD_some] at h
    simp [h]

theorem settleRing_settles (s : State) (p r : Nat) : Writes 512 s (settleRing s p r) := settleRing_writes (Writes.refl _ s) (by decide)

theorem disableRing_out {s : State} (p r : Nat) {c : Nat} (h : (s.intake.get {} c).out = none) :
    ((disableRing s p r).intake.get {} c).out = none := by
  rw [disableRing_eq, (settleRing_settles _ p r).intake (by decide), stopRing, (heldBells_kept _ p r).writes.intake (by decide)]
  exact dropRead_out p r ((squashWhere_out s false _ c).trans h)

/-- A ring that drains keeps its fault and the doorbells that it holds. -/
theorem drainRing_ring (s : State) (p r : Nat) :
    let x := (drainRing s p r).ring p r
    x.state = 2 ∧ x.heldSq = (s.ring p r).heldSq ∧ x.heldCq = (s.ring p r).heldCq ∧ x.fault = (s.ring p r).fault ∧
      x.faultCode = (s.ring p r).faultCode := by
  rw [drainRing, State.ring_withRing, squashWhere_rings s false _ p r]
  exact ⟨rfl, rfl, rfl, rfl, rfl⟩

/-- A ring that holds no doorbell keeps its fault when it is disabled. -/
theorem disableRing_fault {s : State} {p r : Nat} (hq : (s.ring p r).heldSq = none) (hc : (s.ring p r).heldCq = none) :
    ((disableRing s p r).ring p r).fault = (s.ring p r).fault ∧ ((disableRing s p r).ring p r).faultCode = (s.ring p r).faultCode := by
  obtain ⟨hstate, hsq, hcq, hfault, hcode⟩ := drainRing_ring s p r
  have hread : (dropRead (drainRing s p r) p r).ring p r = (drainRing s p r).ring p r := rfl
  have hstop : stopRing s p r = _ := heldBells_repeated (s := dropRead (drainRing s p r) p r) (by rw [hread, hstate]; decide)
    (by rw [hread, hsq, hq]; nofun) (by rw [hread, hcq, hc]; nofun)
  rw [disableRing_eq, settleRing]
  split
  · rw [State.ring_withRing, hstop, State.ring_withRing]
    exact ⟨hfault, hcode⟩
  · rw [hstop, State.ring_withRing]
    exact ⟨hfault, hcode⟩

/-- A descriptor read that has failed: it is at an end, its reservation is given back, and its ring has a fault. -/
def readFailed (s : State) (c p r : Nat) (ns : List Nat) : State :=
  ringFault ((s.withIntake c (fun i => { i with out := none })).withRing p r (fun x =>
    { x with reserved := x.reserved - ns.length })) p r 0x3003

theorem readFailed_ring (s : State) (c p r : Nat) (ns : List Nat) : (readFailed s c p r ns).ring p r =
    { s.ring p r with reserved := (s.ring p r).reserved - ns.length, fault := true, faultCode := 0x3003 } := by
  rw [readFailed, ringFault, State.ring_withRing, State.ring_withRing]
  rfl

theorem readFailed_out (s : State) (c p r : Nat) (ns : List Nat) : ((readFailed s c p r ns).intake.get {} c).out = none := by
  rw [show (readFailed s c p r ns).intake = (s.withIntake c (fun i => { i with out := none })).intake from rfl, State.intake_withIntake]

theorem exec_descriptorReadFailed {s : State} {c p r : Nat} {ns : List Nat} (ho : (s.intake.get {} c).out = some (p, r, ns)) :
    exec (.descriptorReadFailed c) s = .next (if (s.ring p r).state = 1 ∨ (s.ring p r).state = 3
      then disableRing (readFailed s c p r ns) p r else readFailed s c p r ns) := by
  change execDescriptorReadFailed c s = _
  simp only [execDescriptorReadFailed, ho]
  split <;> rfl

/-! ### A context freed (04 R176) -/

/-- The partitions among which a freed context goes: those that hold fewer than min(partition.cap, 32), where one of them waits. -/
def contextParts (s : State) : List Nat :=
  let l := waitingParts s
  let first := l.filter (fun p => decide (s.inFlight p < min (s.gvs gPartitionCap p) 32))
  if first.isEmpty then l else first

theorem exec_contextFreed {s : State} {p id : Nat} (hp : afterCyc (contextParts s) s.disp.ctxPos = some p)
    (hid : (s.jobsWith (fun j => j.part == p && j.phase == .waitCtx)).head? = some id) :
    exec .contextFreed s = .next (giveContext { s with disp := { s.disp with ctxPos := p } } id) := by
  rw [contextParts] at hp
  change execContextFreed s = _
  simp only [execContextFreed, hp, hid]

/-! ### The obligation -/

/-- Settles O17: each clause reads off the state that the lemma above gives its command. -/
theorem intakeAdmitsOrCompletes : Obligations.IntakeAdmitsOrCompletes := by
  unfold Obligations.IntakeAdmitsOrCompletes
  refine ⟨?visit, ?arrival, ?failed, ?freed⟩
  case visit =>
    intro s c p r hs hl hh ho hc hi hp hr
    dsimp only
    refine ⟨_, exec_intakeVisit hs hl hh ho hc hi hp hr, length_nextRead_le _ _, ?_, ?_, ?_, rfl, rfl⟩
    · rw [visited_core]
    · rw [visited_core]
      rfl
    · exact congrArg Ring.reserved (State.ring_withRing _ p r _)
  case arrival =>
    intro s c p r n w hl ho hm hj
    have hexec := exec_descriptorArrival hl ho hm
    have hself := arrived_job_self s c p r n (parseDesc w)
    dsimp only at hexec
    rw [arrived_check] at hexec
    refine ⟨fun hc ha hw => ?_, fun hc hord hacc => ?_⟩
    · have hfree : canAlloc (arrived s c p r n (parseDesc w)) ((arrived s c p r n (parseDesc w)).job s.nextJob).part = true := by
        rw [hself, arrived_canAlloc c p r n _ hj]
        exact ha
      rw [if_pos hc, letIn_given hfree (arrived_waits c p r n _ hj hw)] at hexec
      obtain ⟨held, hg⟩ := giveContext_job_self (arrived s c p r n (parseDesc w)) s.nextJob
      rw [hself] at hg
      refine ⟨_, hexec, rfl, ?_⟩
      rw [hg]
      refine ⟨rfl, rfl, rfl, rfl, rfl, arrived_afterContext s c p r n _, rfl, fun k hk => ?_, arrived_out s c p r n (parseDesc w)⟩
      rw [giveContext_job_other _ hk, arrived_job_other s c p r n (parseDesc w) hk]
    · rw [if_neg hc] at hexec
      obtain ⟨hfind, hcq, hother⟩ := completeAtIntake_posts (s := arrived s c p r n (parseDesc w)) (id := s.nextJob)
        (intakeCheck s p (parseDesc w)) 0 hl hacc (by rw [hself]; exact hord)
      rw [hself] at hcq
      exact ⟨_, hexec, hfind, hcq.trans (congrArg (· + 1) (arrived_cqN s c p r n _)), fun k hk =>
        (hother k hk).trans (arrived_job_other s c p r n _ hk)⟩
  case failed =>
    intro s c p r ns ho hq hc
    have hring := readFailed_ring s c p r ns
    have hout := readFailed_out s c p r ns
    refine ⟨_, exec_descriptorReadFailed ho, ?_⟩
    split
    · have hsq : ((readFailed s c p r ns).ring p r).heldSq = none := by rw [hring]; exact hq
      have hcq : ((readFailed s c p r ns).ring p r).heldCq = none := by rw [hring]; exact hc
      obtain ⟨hf, hcode⟩ := disableRing_fault hsq hcq
      rw [hring] at hf hcode
      exact ⟨hf, hcode, disableRing_out p r hout⟩
    · rw [hring]
      exact ⟨rfl, rfl, hout⟩
  case freed =>
    intro s p id
    dsimp only
    intro hp hid
    obtain ⟨held, hg⟩ := giveContext_job_self { s with disp := { s.disp with ctxPos := p } } id
    refine ⟨_, exec_contextFreed hp hid, ?_⟩
    rw [hg]
    exact ⟨rfl, rfl, rfl, fun k hk => giveContext_job_other _ hk⟩

end Sys2Proof.Machine
end

section
/-! PROOF. Staging (04 R177 to R183; 10 R379, R382, R401; 12 R480): the channel lent to a job, its operands read, a slot wiped, and a job
that waits for randomness. -/

namespace Sys2Proof.Machine

open Sys2Proof

/-! ### Reads and channels of a job -/

/-- A staged job that no ORDERED job blocks has its operands to read and no result to write. -/
theorem wants_of_staged {s : State} {j : Job} (hp : j.phase = .staged) (ho : orderBlocked s j = false) :
    wantsRead s j = operandBytes j.d ∧ wantsWrite j = 0 := by
  simp [wantsRead, wantsWrite, hp, ho]

theorem afterCyc_singleton (p k : Nat) : afterCyc [p] k = some p := by
  unfold afterCyc
  by_cases h : k < p <;> simp [h]

theorem freeChannel_lt {s : State} {c : Nat} (h : freeChannel s = some c) : c < 384 :=
  List.mem_range.mp (List.mem_of_find?_eq_some h)

theorem State.job_of_only {s : State} {id : Nat} {j : Job} (h : s.jobs = [(id, j)]) : s.job id = j := by
  simp [State.job, h, Tab.get, Tab.find]

/-- The only job's channel granted: the lowest free channel with its transit units, its read out, and the partition visited. -/
def channelGranted (s : State) (id c p n : Nat) : State :=
  (issueRead (drawUnits (s.withDma (fun d => { d with lastPart := p })) c n (some p)) id p n).withJob id (fun j =>
    { j with chan := some c })

/-- A partition whose only job has no channel holds no shared unit. -/
theorem sharedOf_only {s : State} {id : Nat} {j : Job} (hj : s.jobs = [(id, j)]) (hc : j.chan = none) (p : Nat) :
    sharedOf s p = 0 := by
  rw [sharedOf, hj]
  by_cases hp : j.part = p <;> simp [hp, hc]

theorem channelGranted_shared {s : State} {id : Nat} {j : Job} (hj : s.jobs = [(id, j)]) (hc : j.chan = none) (c p n : Nat) :
    ((channelGranted s id c p n).chan c).shared = min (ceilDiv n 4096 - 1) (min (poolFree s) 64) := by
  have hchan : (channelGranted s id c p n).chan c = _ := State.chan_withChan (s.withDma (fun d => { d with lastPart := p })) c _
  have hpool : sharedOf (s.withDma (fun d => { d with lastPart := p })) p = 0 := sharedOf_only (s := s.withDma _) hj hc p
  rw [hchan]
  dsimp only
  rw [hpool]
  rfl

theorem exec_channelGrant {s : State} {id c : Nat} {j : Job} (hj : s.jobs = [(id, j)]) (hp : j.phase = .staged) (hn : j.chan = none)
    (ho : orderBlocked s j = false) (hb : 0 < operandBytes j.d) (hl : s.link.state = .l0) (hr : outstanding s < 4096)
    (hc : freeChannel s = some c) (hg : 0 < s.gv gDmaPartitionChannels) :
    exec .channelGrant s = .next (channelGranted s id c j.part (operandBytes j.d)) := by
  obtain ⟨hread, hwrite⟩ := wants_of_staged hp ho
  have hlent : chansOf s j.part = 0 := by simp [chansOf, hj, Tab.countP, hn]
  have hasks : ((((s.jobs.filter (fun e => e.2.chan.isNone && decide (0 < wantsRead s e.2 + wantsWrite e.2))).map (fun e =>
      e.2.part)).dedup.filter (fun p => decide (chansOf s p < s.gv gDmaPartitionChannels))).mergeSort (fun a b => decide (a ≤ b))) =
      [j.part] := by
    simp [hj, hn, hread, hb, hlent, hg]
  have hfirst : wantsChannel s j.part = [id] := by
    simp [wantsChannel, State.jobsWith, Tab.keysWith, hj, hn, hread, hb]
  change execChannelGrant s = _
  simp only [execChannelGrant, hasks, afterCyc_singleton, hc, hfirst, List.head?_cons, State.job_of_only hj, hread, hwrite]
  rw [if_neg (by simp [hl, Nat.not_le.mpr hr]), if_neg (Nat.ne_of_gt hb)]
  rfl

/-- Operands read: they stand in the job, which is READY, and its channel is returned. -/
def operandsRead (s : State) (id : Nat) (opa opb : Bytes) : State :=
  (returnChannel (s.withJob id (fun j => { j with opa := opa, opb := opb })) id).withJob id (fun j => { j with phase := .ready })

theorem operandsRead_job_self (s : State) (id : Nat) (opa opb : Bytes) : (operandsRead s id opa opb).job id =
    { s.job id with opa := opa, opb := opb, chan := none, phase := .ready } := by
  rw [operandsRead, State.job_withJob, returnChannel_job, if_pos rfl, State.job_withJob]

theorem operandsRead_job_other (s : State) (opa opb : Bytes) {id k : Nat} (h : k ≠ id) : (operandsRead s id opa opb).job k = s.job k := by
  rw [operandsRead, State.job_withJob_other _ _ h, returnChannel_job, if_neg h, State.job_withJob_other _ _ h]

theorem exec_stagingReadDone {s : State} {id : Nat} {opa opb : Bytes} (hp : (s.job id).phase = .staged)
    (hc : (s.job id).chan.isSome = true) (hl : s.link.state = .l0) (ha : opa.length = (s.job id).d.opaLen * lenUnit (s.job id).d.opcode)
    (hb : opb.length = (s.job id).d.opbLen * lenUnit (s.job id).d.opcode) (ho : orderBlocked s (s.job id) = false) :
    exec (.stagingReadDone id opa opb) s = .next (operandsRead s id opa opb) := by
  change execStagingReadDone id opa opb s = _
  rw [execStagingReadDone]
  dsimp only
  rw [if_pos ⟨hc, hl, ha, hb⟩, if_pos ⟨hp, by simp [ho]⟩]
  rfl

/-! ### The obligation -/

/-- Settles O18: each clause reads off the state that the lemma above gives its command. -/
theorem stagingReadsOperands : Obligations.StagingReadsOperands := by
  unfold Obligations.StagingReadsOperands
  refine ⟨?grant, ?read, ?wiped, ?random⟩
  case grant =>
    intro s id c j hj hp hn ho hb hl hr hc hg
    refine ⟨_, exec_channelGrant hj hp hn ho hb hl hr hc hg, ?_, rfl, freeChannel_lt hc, ⟨_, rfl, rfl, rfl, rfl⟩, ?_⟩
    · rw [channelGranted, State.job_withJob]
    · exact channelGranted_shared hj hn c j.part _
  case read =>
    intro s id opa opb hp hc hl ha hb ho
    refine ⟨_, exec_stagingReadDone hp hc hl ha hb ho, ?_⟩
    rw [operandsRead_job_self]
    exact ⟨rfl, rfl, rfl, rfl, rfl, fun k hk => operandsRead_job_other s opa opb hk⟩
  case wiped =>
    intro s c
    have h := fun f => State.intake_withIntake s c f
    exact ⟨_, _, rfl, by rw [h]; rfl, by rw [h]; rfl, rfl, rfl, by rw [h]; rfl, by rw [h]; rfl, rfl⟩
  case random =>
    intro s id hp ht
    refine ⟨_, if_pos ⟨hp, ht⟩, ?_, fun k hk => State.job_withJob_other s _ hk, rfl⟩
    rw [State.job_withJob]

end Sys2Proof.Machine
end

section
/-! PROOF. Dispatch (04 R187 to R190; 06 R247 to R252, R255): what a squad and a job are once the job has taken its resident slot, on one
squad and on the squads of a gang. -/

namespace Sys2Proof.Machine

open Sys2Proof

/-! ### Squads -/

theorem State.squad_withSquad_other (s : State) {q k : Nat} (f : Squad → Squad) (h : k ≠ q) : (s.withSquad q f).squad k = s.squad k :=
  Tab.get_upd_other _ s.lanes.squads f h

theorem State.squad_congr {s t : State} (h : t.lanes.squads = s.lanes.squads) (q : Nat) : t.squad q = s.squad q := by
  rw [State.squad, h, State.squad]

/-- A squad made ready for a partition is that partition's; nothing else of the lanes changes. -/
theorem ownSquad_lanes (s : State) (q p : Nat) :
    (ownSquad s q p).lanes = (s.withSquad q (fun x => { x with owner := p, owned := true })).lanes := by
  have hwipe : (ownershipWipe s q).lanes = s.lanes :=
    (ownershipWipe_writes (wm := 3254779904) (Writes.refl _ s) (by decide)).lanes (by decide)
  rw [ownSquad, State.withSquad_lanes, State.withSquad_lanes]
  split
  · rw [hwipe]
  · rfl

theorem ownSquad_squad_self (s : State) (q p : Nat) : (ownSquad s q p).squad q = { s.squad q with owner := p, owned := true } := by
  rw [State.squad, ownSquad_lanes, ← State.squad, State.squad_withSquad]

theorem ownSquad_squad_other (s : State) (p : Nat) {q k : Nat} (h : k ≠ q) : (ownSquad s q p).squad k = s.squad k := by
  rw [State.squad, ownSquad_lanes, ← State.squad, State.squad_withSquad_other _ _ h]

/-- What readying a squad touches: no job. -/
theorem ownSquad_owns (s : State) (q p : Nat) : Writes 3254796288 s (ownSquad s q p) := ownSquad_writes (Writes.refl _ s) (by decide)

/-! ### Jobs that start on their squads (04 R146; 06 R255, R256; 10 R401) -/

/-- A first dispatch numbers the job; it has left its staging slot. -/
theorem firstDispatch_job_self {s : State} {id : Nat} (h : (s.job id).order = 0) :
    (firstDispatch s id).job id = { s.job id with slot := none, order := s.lanes.dispatched + 1 } := by
  have hjob : ((toEngine s id).withLanes (fun l => { l with dispatched := s.lanes.dispatched + 1 })).job id = (toEngine s id).job id := rfl
  rw [firstDispatch, if_neg (not_not.mpr h), State.job_withJob, hjob, toEngine_job, if_pos rfl]

theorem firstDispatch_job_other (s : State) {id k : Nat} (hk : k ≠ id) : (firstDispatch s id).job k = s.job k := by
  rw [firstDispatch]
  split
  · exact State.job_withJob_other s _ hk
  · exact (State.job_withJob_other _ _ hk).trans ((toEngine_job s id k).trans (if_neg hk))

theorem firstDispatch_lanes {s : State} {id : Nat} (h : (s.job id).order = 0) :
    (firstDispatch s id).lanes = { s.lanes with dispatched := s.lanes.dispatched + 1 } := by
  have heng : (toEngine s id).lanes = s.lanes := (toEngine_writes (wm := 5632) (Writes.refl _ s) (by decide)).lanes (by decide)
  rw [firstDispatch, if_neg (not_not.mpr h), State.withJob_lanes, State.withLanes_lanes, heng]

/-- The image of a park slot put back into a job's contexts. -/
def imageBack (s : State) (id k : Nat) : State :=
  ((contextsOf s id).zip (s.lanes.images.get [] k)).foldl (fun s e => putImage s e.1 e.2) s

theorem imageBack_puts (s : State) (id k : Nat) : Writes 2181038080 s (imageBack s id k) :=
  Writes.foldl (Writes.refl _ s) fun _ hu _ => putImage_writes hu (by decide)

theorem unpark_resumed {s : State} {id k : Nat} (h : (s.job id).parkSlot = some k) :
    unpark s id = ((imageBack s id k).withLanes (fun l => { l with parked := l.parked.filter (fun n => n != k) })).withJob id (fun j =>
      { j with parked := false }) := by
  simp only [unpark, h, imageBack]

theorem unpark_fresh {s : State} {id : Nat} (h : (s.job id).parkSlot = none) : unpark s id = s := by
  simp only [unpark, h]

/-- A job resumed from its park slot is parked no more. -/
theorem unpark_job_self (s : State) (id : Nat) : ∃ b, (unpark s id).job id = { s.job id with parked := b } := by
  cases h : (s.job id).parkSlot with
  | none => exact ⟨_, by rw [unpark_fresh h]⟩
  | some k =>
    have hjob := State.job_congr ((imageBack_puts s id k).jobs (by decide)) id
    rw [unpark_resumed h, State.job_withJob]
    exact ⟨false, congrArg (fun j : Job => { j with parked := false }) hjob⟩

theorem unpark_job_other (s : State) {id k : Nat} (hk : k ≠ id) : (unpark s id).job k = s.job k := by
  cases h : (s.job id).parkSlot with
  | none => rw [unpark_fresh h]
  | some n =>
    rw [unpark_resumed h, State.job_withJob_other _ _ hk]
    exact State.job_congr ((imageBack_puts s id n).jobs (by decide)) k

theorem unpark_squads (s : State) (id : Nat) : (unpark s id).lanes.squads = s.lanes.squads := by
  cases h : (s.job id).parkSlot with
  | none => rw [unpark_fresh h]
  | some k => rw [unpark_resumed h, State.withJob_lanes, State.withLanes_lanes, (imageBack_puts s id k).lanes (by decide)]

/-- Tags and checkpoints stand in the contexts alone. -/
theorem tagContexts_tags (s : State) (id : Nat) : Writes 33554432 s (tagContexts s id) := tagContexts_writes (Writes.refl _ s) (by decide)

theorem checkpoint_checks (s : State) (id : Nat) : Writes 33554432 s (checkpoint s id) := checkpoint_writes (Writes.refl _ s) (by decide)

/-- The phase in which a job that needs no key starts. -/
def startPhase (j : Job) : Phase := if operandsHeld j then .running else .fetching

/-- A job that takes no slot key runs, or has its operands read first (10 R401). -/
theorem seatJob_unkeyed {s : State} {id : Nat} (h : slotKeyed (s.job id).d = false) :
    seatJob s id = s.withJob id (fun j => { j with phase := startPhase (s.job id) }) := by
  rw [seatJob, startPhase]
  split
  · simp [loadForSquad, h]
  · rfl

/-! ### A job on one squad (04 R187, R188, R190) -/

/-- A squad made ready for a job at its first dispatch, with slot 0 of it taken. -/
def slotZeroTaken (s : State) (id q : Nat) : State :=
  (ownSquad (firstDispatch s id) q (s.job id).part).withSquad q (fun x =>
    { x with slots := x.slots.set 0 id, busyAt := some (x.busyAt.getD s.now) })

/-- A job first dispatched to an empty squad: it holds slot 0. -/
def inSlotZero (s : State) (id q : Nat) : State :=
  (slotZeroTaken s id q).withJob id (fun j => { j with squads := [q], monts := 0, ckptAt := 0 })

theorem slotZeroTaken_job (s : State) (id q k : Nat) : (slotZeroTaken s id q).job k = (firstDispatch s id).job k :=
  State.job_congr ((State.withSquad_jobs _ q _).trans ((ownSquad_owns _ q _).jobs (by decide))) k

theorem slotZeroTaken_dispatched {s : State} {id : Nat} (q : Nat) (h : (s.job id).order = 0) :
    (slotZeroTaken s id q).lanes.dispatched = s.lanes.dispatched + 1 := by
  rw [slotZeroTaken, State.withSquad_lanes, ownSquad_lanes, State.withSquad_lanes, firstDispatch_lanes h]

theorem slotZeroTaken_squad {s : State} {id q : Nat} (ho : (s.job id).order = 0) :
    ((slotZeroTaken s id q).squad q).slots = (s.squad q).slots.set 0 id ∧ ((slotZeroTaken s id q).squad q).owner = (s.job id).part := by
  have hsq : (firstDispatch s id).squad q = s.squad q := State.squad_congr (by rw [firstDispatch_lanes ho]) q
  rw [slotZeroTaken, State.squad_withSquad, ownSquad_squad_self, hsq]
  exact ⟨rfl, rfl⟩

theorem inSlotZero_job_self {s : State} {id : Nat} (q : Nat) (h : (s.job id).order = 0) : (inSlotZero s id q).job id =
    { s.job id with slot := none, order := s.lanes.dispatched + 1, squads := [q], monts := 0, ckptAt := 0 } := by
  rw [inSlotZero, State.job_withJob, slotZeroTaken_job, firstDispatch_job_self h]

theorem inSlotZero_job_other (s : State) (q : Nat) {id k : Nat} (h : k ≠ id) : (inSlotZero s id q).job k = s.job k := by
  rw [inSlotZero, State.job_withJob_other _ _ h, slotZeroTaken_job, firstDispatch_job_other s h]

theorem inSlotZero_lanes (s : State) (id q : Nat) : (inSlotZero s id q).lanes = (slotZeroTaken s id q).lanes := rfl

theorem putOnSquad_empty {s : State} {id q : Nat} (ho : (s.job id).order = 0) (hq : (s.squad q).slots = []) :
    putOnSquad s id q = seatJob (checkpoint (unpark (tagContexts (inSlotZero s id q) id) id) id) id := by
  have hsq : (firstDispatch s id).squad q = s.squad q := State.squad_congr (by rw [firstDispatch_lanes ho]) q
  have hfree : freeSlotIn ((ownSquad (firstDispatch s id) q (s.job id).part).squad q).slots 16 = some 0 := by
    rw [ownSquad_squad_self, hsq, hq]
    decide
  rw [putOnSquad]
  simp only [hfree]
  rfl

/-- A job without slot key and park slot put on an empty squad starts: beside what it and the squad hold, tags and checkpoints of contexts
change. -/
theorem putOnSquad_starts {s : State} {id q : Nat} (ho : (s.job id).order = 0) (hq : (s.squad q).slots = [])
    (hp : (s.job id).parkSlot = none) (hk : slotKeyed (s.job id).d = false) : ∃ w, Writes 33554432 (inSlotZero s id q) w ∧
      putOnSquad s id q = w.withJob id (fun j => { j with phase := startPhase (s.job id) }) := by
  have hself := inSlotZero_job_self q ho
  have htag := tagContexts_tags (inSlotZero s id q) id
  have hfresh : unpark (tagContexts (inSlotZero s id q) id) id = tagContexts (inSlotZero s id q) id :=
    unpark_fresh (by rw [State.job_congr (htag.jobs (by decide)), hself]; exact hp)
  have hw := Writes.step (checkpoint_checks (tagContexts (inSlotZero s id q) id) id) (by decide) htag
  have hjob := State.job_congr (hw.jobs (by decide)) id
  rw [hself] at hjob
  refine ⟨_, hw, ?_⟩
  rw [putOnSquad_empty ho hq, hfresh, seatJob_unkeyed (by rw [hjob]; exact hk), hjob]
  rfl

/-- An empty squad is no squad whose residents are about to finish. -/
theorem seat_empty {s : State} {q : Nat} (p : Nat) (avoid : Option Nat) (hq : (s.squad q).slots = []) : seat s p q avoid ≠ 3 := by
  rw [seat]
  split
  · decide
  · rw [if_pos (by rw [hq]; rfl)]
    decide

/-- A job that is no gang and parks nowhere goes to the empty squad that the choice of R190 allows. -/
theorem place_empty {s : State} {id q : Nat} (hg : isGang s (s.job id).d = false) (ht : takesPark s (s.job id).d = false)
    (hok : squadOk s (s.job id).part q (s.job id).avoid = true) (hq : (s.squad q).slots = []) :
    place s id q = some (putOnSquad s id q) := by
  have hpark : reservePark s id = some s := if_pos (by simp [ht])
  simp [place, hg, hok, hpark, seat_empty _ _ hq]

theorem exec_dispatch {s s1 s2 : State} {p id q : Nat} (opa opb : Bytes) (hs : s.serving = true) (ha : againJob s = none)
    (hg : grant s = some (p, s1)) (hr : readyJob s1 p = some id) (hp : place s1 id q = some s2) :
    exec (.dispatch q opa opb) s = .next (chargeDispatch s2 p (unitCost s (s.job id).d (s.job id).slices)) := by
  change execDispatch q opa opb s = _
  simp [execDispatch, hs, ha, hg, hr, hp]

/-! ### A gang on its squads (06 R252, R255) -/

/-- One squad of a gang taken: it is the partition's, and slot 0 is the gang's. -/
def takeSquad (id p : Nat) (s : State) (q : Nat) : State :=
  (ownSquad s q p).withSquad q (fun x => { x with slots := x.slots.set 0 id, busyAt := some s.now })

/-- A squad is held by a job of a partition in slot 0. -/
def HeldBy (id p : Nat) (x : Squad) : Prop := x.slots.find 0 = some id ∧ x.owner = p

theorem takeSquad_held (id p : Nat) (s : State) (q : Nat) : HeldBy id p ((takeSquad id p s q).squad q) := by
  rw [takeSquad, State.squad_withSquad, ownSquad_squad_self]
  exact ⟨Tab.find_set_self _ 0 id, rfl⟩

theorem takeSquad_other (id p : Nat) (s : State) {q k : Nat} (h : k ≠ q) : (takeSquad id p s q).squad k = s.squad k := by
  rw [takeSquad, State.squad_withSquad_other _ _ h, ownSquad_squad_other s p h]

theorem foldl_takeSquad_held {id p q : Nat} : ∀ (l : List Nat) (s : State), q ∈ l ∨ HeldBy id p (s.squad q) →
    HeldBy id p ((l.foldl (takeSquad id p) s).squad q)
  | [], _, h => h.resolve_left List.not_mem_nil
  | k :: l, s, h => by
    refine foldl_takeSquad_held l (takeSquad id p s k) ?_
    by_cases hk : q = k
    · exact .inr (hk ▸ takeSquad_held id p s k)
    · rw [takeSquad_other id p s hk]
      exact h.imp_left fun hm => (List.mem_cons.mp hm).resolve_left hk

/-- A gang on its squads before it starts. -/
def gangTaken (s : State) (id : Nat) : State := (s.job id).squads.foldl (takeSquad id (s.job id).part) s

theorem gangTaken_jobs (s : State) (id : Nat) : (gangTaken s id).jobs = s.jobs :=
  (Writes.foldl (m := 3254796288) (Writes.refl _ s) fun _ hu _ =>
    State.withSquad_writes (ownSquad_writes hu (by decide)) (by decide)).jobs (by decide)

/-- A gang resumed on its squads, its counts since the last yield at zero. -/
def gangResumed (s : State) (id : Nat) : State :=
  (unpark (tagContexts (gangTaken s id) id) id).withJob id (fun j => { j with monts := 0, ckptAt := 0 })

theorem gangResumed_job_self (s : State) (id : Nat) :
    ∃ b, (gangResumed s id).job id = { s.job id with parked := b, monts := 0, ckptAt := 0 } := by
  have htag := State.job_congr (((tagContexts_tags (gangTaken s id) id).jobs (by decide)).trans (gangTaken_jobs s id)) id
  obtain ⟨b, hb⟩ := unpark_job_self (tagContexts (gangTaken s id) id) id
  exact ⟨b, by rw [gangResumed, State.job_withJob, hb, htag]⟩

theorem gangResumed_job_other (s : State) {id k : Nat} (h : k ≠ id) : (gangResumed s id).job k = s.job k := by
  have htag := State.job_congr (((tagContexts_tags (gangTaken s id) id).jobs (by decide)).trans (gangTaken_jobs s id)) k
  rw [gangResumed, State.job_withJob_other _ _ h, unpark_job_other _ h, htag]

theorem gangResumed_held {s : State} {id q : Nat} (h : q ∈ (s.job id).squads) :
    HeldBy id (s.job id).part ((gangResumed s id).squad q) := by
  have htag : (tagContexts (gangTaken s id) id).lanes = (gangTaken s id).lanes := (tagContexts_tags _ id).lanes (by decide)
  have hsq : (gangResumed s id).squad q = (gangTaken s id).squad q := State.squad_congr (by
    rw [gangResumed, State.withJob_lanes, unpark_squads, htag]) q
  rw [hsq]
  exact foldl_takeSquad_held _ s (.inl h)

/-- A gang without slot key starts: beside its squads, checkpoints of contexts change. -/
theorem gangResumed_starts {s : State} {id : Nat} (hk : slotKeyed (s.job id).d = false) : ∃ w, Writes 33554432 (gangResumed s id) w ∧
    seatJob (checkpoint (gangResumed s id) id) id = w.withJob id (fun j => { j with phase := startPhase (s.job id) }) := by
  obtain ⟨b, hself⟩ := gangResumed_job_self s id
  have hw := checkpoint_checks (gangResumed s id) id
  have hjob := State.job_congr (hw.jobs (by decide)) id
  rw [hself] at hjob
  refine ⟨_, hw, ?_⟩
  rw [seatJob_unkeyed (by rw [hjob]; exact hk), hjob]
  rfl

theorem exec_gangSliceStart {s : State} {id : Nat} (hp : (s.job id).phase = .reserving)
    (hq : (s.job id).squads.all (fun q => (s.squad q).slots.isEmpty) = true) :
    exec (.gangSliceStart id) s = .next (seatJob (checkpoint (gangResumed s id) id) id) :=
  if_pos ⟨hp, hq⟩

/-! ### The obligation -/

/-- Settles O19: each clause reads off the state in which the job has taken its squads, and its start. -/
theorem dispatchPlacesJobs : Obligations.DispatchPlacesJobs := by
  unfold Obligations.DispatchPlacesJobs
  refine ⟨?squad, ?gang⟩
  case squad =>
    intro s s1 p id q opa opb hs ha hg hr hgang ht hpark ho hk hok hq
    obtain ⟨w, hw, hput⟩ := putOnSquad_starts ho hq hpark hk
    obtain ⟨hslots, howner⟩ := slotZeroTaken_squad (q := q) ho
    have hc : Writes 8192 (putOnSquad s1 id q) (chargeDispatch (putOnSquad s1 id q) p (unitCost s (s.job id).d (s.job id).slices)) :=
      chargeDispatch_writes (Writes.refl _ _) (by decide)
    have hjob := State.job_congr (hc.jobs (by decide))
    have hstart : (putOnSquad s1 id q).lanes = (slotZeroTaken s1 id q).lanes := by
      rw [hput, State.withJob_lanes, hw.lanes (by decide), inSlotZero_lanes]
    have hlanes := (hc.lanes (by decide)).trans hstart
    have hsq := State.squad_congr (congrArg Lanes.squads hlanes) q
    have hid := hjob id
    rw [hput, State.job_withJob, State.job_congr (hw.jobs (by decide)), inSlotZero_job_self q ho, ← hput] at hid
    refine ⟨_, exec_dispatch opa opb hs ha hg hr (place_empty hgang ht hok hq), ?_⟩
    rw [hid, hsq, hlanes]
    refine ⟨rfl, rfl, rfl, slotZeroTaken_dispatched q ho, hslots.trans (by rw [hq]; rfl), howner, fun k hne => ?_⟩
    rw [hjob, hput, State.job_withJob_other _ _ hne, State.job_congr (hw.jobs (by decide)), inSlotZero_job_other s1 q hne]
  case gang =>
    intro s id hp hk hq
    obtain ⟨b, hself⟩ := gangResumed_job_self s id
    obtain ⟨w, hw, hseat⟩ := gangResumed_starts hk
    have hjob := State.job_congr (hw.jobs (by decide))
    refine ⟨_, (exec_gangSliceStart hp hq).trans (congrArg _ hseat), ?_⟩
    rw [State.job_withJob, hjob, hself]
    refine ⟨rfl, rfl, fun q hmem => ?_, fun k hne => ?_⟩
    · have hheld := gangResumed_held hmem
      rw [State.squad, ← hw.lanes (by decide), ← State.squad] at hheld
      exact hheld
    · rw [State.job_withJob_other _ _ hne, hjob, gangResumed_job_other s hne]

end Sys2Proof.Machine
end

section
/-! PROOF. Generic arithmetic (05 R225 to R233): the first failed check of a job's operands, and what each outcome leaves. -/

namespace Sys2Proof.Machine

open Sys2Proof

/-! ### The first failed check (05 Table 7) -/

/-- The status of the first check that N, A and, where `checkB` asks for it, B fail; 0 when all pass. -/
def genericCheck (checkB : Bool) (g : GenOps) : Nat :=
  firstFail [(modulusOk g.L g.n, 0x1014), (decide (g.a < g.n), 0x1010), (!checkB || decide (g.b < g.n), 0x1010)]

theorem genericCheck_modulus {g : GenOps} (checkB : Bool) (h : modulusOk g.L g.n = false) : genericCheck checkB g = 0x1014 := by
  simp [genericCheck, firstFail, h]

theorem genericCheck_operand {checkB : Bool} {g : GenOps} (hn : modulusOk g.L g.n = true)
    (h : g.n ≤ g.a ∨ checkB = true ∧ g.n ≤ g.b) : genericCheck checkB g = 0x1010 := by
  by_cases ha : g.a < g.n
  · obtain ⟨hcheck, hb⟩ := h.resolve_left (Nat.not_le.mpr ha)
    simp [genericCheck, firstFail, hn, ha, hcheck, hb]
  · simp [genericCheck, firstFail, hn, ha]

theorem genericCheck_pass {checkB : Bool} {g : GenOps} (hn : modulusOk g.L g.n = true) (ha : g.a < g.n)
    (hb : checkB = true → g.b < g.n) : genericCheck checkB g = 0 := by
  cases checkB with
  | false => simp [genericCheck, firstFail, hn, ha]
  | true => simp [genericCheck, firstFail, hn, ha, hb rfl]

/-! ### Outcomes (05 R225, R227) -/

theorem runGeneric_invalid {s : State} {id st : Nat} {checkB : Bool} (r : GenOps → Option Nat)
    (h : genericCheck checkB (genOps (s.job id)) = st) (hst : st ≠ 0) (hc : chargeless st = false) :
    Invalid s (runGeneric s id checkB r) id st := by
  have hrun : runGeneric s id checkB r = failValid s id st := (if_pos (h.trans_ne hst)).trans (congrArg _ h)
  rw [hrun]
  exact failValid_invalid s id st hc

theorem runGeneric_noInverse {s : State} {id : Nat} {checkB : Bool} {r : GenOps → Option Nat}
    (h : genericCheck checkB (genOps (s.job id)) = 0) (hr : r (genOps (s.job id)) = none) :
    Invalid s (runGeneric s id checkB r) id 0x1015 := by
  have hrun : runGeneric s id checkB r = failValid s id 0x1015 := (if_neg (not_not.mpr h)).trans (by rw [hr])
  rw [hrun]
  exact failValid_invalid s id 0x1015 rfl

theorem runGeneric_passed {s : State} {id v : Nat} {checkB : Bool} {r : GenOps → Option Nat}
    (h : genericCheck checkB (genOps (s.job id)) = 0) (hr : r (genOps (s.job id)) = some v) :
    Passed s (runGeneric s id checkB r) id (toLE (8 * (genOps (s.job id)).L) v) 1 0 := by
  have hrun : runGeneric s id checkB r = passJob s id (toLE (8 * (genOps (s.job id)).L) v) 1 0 :=
    (if_neg (not_not.mpr h)).trans (by rw [hr])
  rw [hrun]
  exact passJob_passed s id _ 1 0

/-- The outcomes of an opcode that has both operands below N and a result for every such pair. -/
theorem runGeneric_belowN {s : State} {id : Nat} {c : Instr} {f : GenOps → Nat}
    (hc : exec c s = .next (runGeneric s id true (fun g => some (f g)))) :
    let g := genOps (s.job id)
    (modulusOk g.L g.n = true → g.a < g.n → g.b < g.n →
      ∃ t, exec c s = .next t ∧ Passed s t id (toLE (8 * g.L) (f g)) 1 0) ∧
    (modulusOk g.L g.n = false → ∃ t, exec c s = .next t ∧ Invalid s t id 0x1014) ∧
    (modulusOk g.L g.n = true → g.n ≤ g.a ∨ g.n ≤ g.b → ∃ t, exec c s = .next t ∧ Invalid s t id 0x1010) :=
  ⟨fun hn ha hb => ⟨_, hc, runGeneric_passed (genericCheck_pass hn ha fun _ => hb) rfl⟩,
    fun hn => ⟨_, hc, runGeneric_invalid _ (genericCheck_modulus true hn) (by decide) rfl⟩,
    fun hn hab => ⟨_, hc, runGeneric_invalid _ (genericCheck_operand hn (hab.imp_right (⟨rfl, ·⟩))) (by decide) rfl⟩⟩

/-! ### The commands -/

theorem exec_modadd {s : State} {id : Nat} (h : OnSquads s id 0x0101) :
    exec (.modadd id) s = .next (runGeneric s id true (fun g => some ((g.a + g.b) % g.n))) := onSquad_eq h _

theorem exec_modmul {s : State} {id : Nat} (h : OnSquads s id 0x0102) :
    exec (.modmul id) s = .next (runGeneric s id true (fun g => some (g.a * g.b % g.n))) := onSquad_eq h _

theorem exec_modexp {s : State} {id : Nat} (h : OnSquads s id 0x0103) :
    exec (.modexp id) s = .next (runGeneric s id false (fun g => some (powMod g.a g.b g.n))) := onSquad_eq h _

theorem exec_modinv {s : State} {id : Nat} (h : OnSquads s id 0x0104) :
    exec (.modinv id) s = .next (runGeneric s id false (fun g => invMod? g.a g.n)) := onSquad_eq h _

/-! ### The obligation -/

/-- Settles O21: each clause is one outcome of the checks; MODEXP and MODINV ask nothing of B. -/
theorem genericArithmetic : Obligations.GenericArithmetic := by
  unfold Obligations.GenericArithmetic
  refine ⟨fun s id hs => runGeneric_belowN (exec_modadd hs), fun s id hs => runGeneric_belowN (exec_modmul hs), ?modexp, ?modinv⟩
  case modexp =>
    exact fun s id hs =>
      ⟨fun hn ha => ⟨_, exec_modexp hs, runGeneric_passed (genericCheck_pass hn ha nofun) rfl⟩,
        fun hn => ⟨_, exec_modexp hs, runGeneric_invalid _ (genericCheck_modulus false hn) (by decide) rfl⟩,
        fun hn ha => ⟨_, exec_modexp hs, runGeneric_invalid _ (genericCheck_operand hn (.inl ha)) (by decide) rfl⟩⟩
  case modinv =>
    exact fun s id hs =>
      ⟨fun v hn ha hv => ⟨_, exec_modinv hs, runGeneric_passed (genericCheck_pass hn ha nofun) hv⟩,
        fun hn ha hv => ⟨_, exec_modinv hs, runGeneric_noInverse (genericCheck_pass hn ha nofun) hv⟩,
        fun hn => ⟨_, exec_modinv hs, runGeneric_invalid _ (genericCheck_modulus false hn) (by decide) rfl⟩⟩

end Sys2Proof.Machine
end

section
/-! PROOF. Narrow lane words, Keccak and yields of a squad context (05 R217 to R220; 06 R256; 08 R327; 13 R527, R529): how a LANE word that
is not reserved completes, and what each body leaves. -/

namespace Sys2Proof.Machine

open Sys2Proof

/-! ### LANE words that are not reserved (13 Table 13) -/

theorem wordLane_fields {lop a b : Nat} (hlop : lop < 16) (ha : a < 8) (hb : b < 8) :
    wordLane lop a b / 2048 = 5 ∧ wordLane lop a b / 1024 % 2 = 1 ∧ wordLane lop a b / 64 % 16 = lop ∧
      wordLane lop a b / 8 % 8 = a ∧ wordLane lop a b % 8 = b := by
  unfold wordLane
  omega

theorem sequenceReserved_lane {lop a b : Nat} (hlop : lop < 16) (ha : a < 8) (hb : b < 8) :
    sequenceReserved true [] (wordLane lop a b) = wordReserved true (wordLane lop a b) :=
  if_neg (by unfold wordLane; omega)

theorem wordReserved_arith {lop a b : Nat} (hlop : lop < 12) (ha : a < 8) (hb : b < 8) : wordReserved true (wordLane lop a b) = false := by
  obtain ⟨hclass, hlane, hop, -, -⟩ := wordLane_fields (Nat.lt_of_lt_of_le hlop (by decide)) ha hb
  simp only [wordReserved, hclass, hlane, hop]
  interval_cases lop <;> rfl

theorem wordReserved_butterfly {lop a b : Nat} (hlop : lop = 12 ∨ lop = 13) (ha : a < 7) (hb : b < 7) (hab : a ≠ b) :
    wordReserved true (wordLane lop a b) = false := by
  obtain ⟨hclass, hlane, hop, hla, hlb⟩ := wordLane_fields (lop := lop) (by omega) (Nat.lt_succ_of_lt ha) (Nat.lt_succ_of_lt hb)
  rcases hlop with rfl | rfl <;> simp [wordReserved, hclass, hlane, hop, hla, hlb, ha.ne, hb.ne, hab]

theorem wordReserved_lqn {a b : Nat} (ha : a < 8) (hb : b < 2) : wordReserved true (wordLane 14 a b) = false := by
  obtain ⟨hclass, hlane, hop, -, hlb⟩ := wordLane_fields (lop := 14) (by decide) ha (Nat.lt_of_lt_of_le hb (by decide))
  simp [wordReserved, hclass, hlane, hop, hlb, hb]

theorem wordReserved_kperm {a : Nat} (ha : a < 8) : wordReserved true (wordLane 15 a 0) = false := by
  obtain ⟨hclass, hlane, hop, -, hlb⟩ := wordLane_fields (lop := 15) (b := 0) (by decide) ha (by decide)
  simp [wordReserved, hclass, hlane, hop, hlb]

/-! ### A LANE word in its turn (06 R241, 13 R526) -/

/-- A squad context runs the LANE word in its turn: the word at its PC is issued and is not reserved. -/
structure LaneTurn (s : State) (u lop a b : Nat) : Prop where
  squad : isSquadUnit u = true
  runs : Runs s u 1
  turn : turnSkipped s u = false
  issued : sequenceReserved true [] (wordLane lop a b) = false

theorem LaneTurn.noEvent {s : State} {u lop a b : Nat} (h : LaneTurn s u lop a b) : nextAsync (s.unit u) = none := by
  obtain ⟨-, -, -, -, -, hn⟩ := h.runs
  exact hn

theorem laneOp_eq {s : State} {u lop a b : Nat} (h : LaneTurn s u lop a b) (body : VUnit → State → VRes) :
    laneOp s u lop a b body = runVerb s u 1 body := by
  simp [laneOp, runWord, h.turn, h.squad, h.issued]

theorem laneOp_done {s t : State} {u lop a b : Nat} {body : VUnit → State → VRes} (h : LaneTurn s u lop a b)
    (hb : body (s.unit u) (s.afterPc u) = .done t) (hn : nextAsync (t.unit u) = none) : laneOp s u lop a b body = t :=
  (laneOp_eq h body).trans (runVerb_done h.runs hb hn)

theorem nextAsync_withRegs {s : State} {u : Nat} (f : VRegs → VRegs) (h : nextAsync (s.unit u) = none) :
    nextAsync ((s.withRegs u f).unit u) = none := by
  rw [State.withRegs, State.unit_withUnit]
  exact nextAsync_withR _ f h

theorem State.withRegs_withRegs (s : State) (u : Nat) (f g : VRegs → VRegs) :
    (s.withRegs u f).withRegs u g = s.withRegs u (fun r => g (f r)) := State.withUnit_withUnit s u _ _

theorem LaneTurn.noEvent_afterPc {s : State} {u lop a b : Nat} (h : LaneTurn s u lop a b) : nextAsync ((s.afterPc u).unit u) = none :=
  nextAsync_withRegs _ h.noEvent

/-- A lane register written once the PC has passed the word. -/
theorem afterPc_setLane (s : State) (u : Nat) (ld : Fin 8) (ws : List Nat) :
    (s.afterPc u).withRegs u (fun r => r.setLane ld.val ws) = s.afterLane u ld ws := State.withRegs_withRegs s u _ _

/-! ### Narrow words (05 R217 to R220) -/

/-- A context passes a narrow word: its PC, and the two free draws that the word makes whether it needs them or not. -/
def State.afterDraws (s : State) (u : Nat) : State := { s.afterPc u with free := s.free + 2 }

theorem afterDraws_setLane (s : State) (u : Nat) (ld : Fin 8) (ws : List Nat) :
    { (s.afterDraws u).withRegs u (fun r => r.setLane ld.val ws) with free := s.free } = s.afterLane u ld ws :=
  afterPc_setLane s u ld ws

theorem afterDraws_setLane_setLane (s : State) (u : Nat) (ld ls : Fin 8) (ws vs : List Nat) :
    { ((s.afterDraws u).withRegs u (fun r => r.setLane ld.val ws)).withRegs u (fun r => r.setLane ls.val vs) with free := s.free } =
      (s.afterLane u ld ws).withRegs u (fun r => r.setLane ls.val vs) :=
  congrArg (fun t : State => t.withRegs u (fun r => r.setLane ls.val vs)) (afterPc_setLane s u ld ws)

/-- A word with one result, for an instruction that takes no zeta. -/
theorem narrowOp_one {s : State} {u lop w q : Nat} {ld ls : Fin 8} (h : LaneTurn s u lop ld.val ls.val)
    (hqn : (s.unit u).r.qn = some (w, q)) (hok : qnOk w q = true) (f : Nat → Nat → Nat → Nat → Nat) : ∃ fr,
    narrowOp s u lop ld.val ls.val false f none = (s.afterDraws u).withRegs u
      (fun r => r.setLane ld.val (narrowAll w q (f q) 32 (s.laneOf u ld 32) (s.laneOf u ls 32) [] fr)) := by
  refine ⟨words64 32 ((s.afterPc u).drawBytes 256).1, ?_⟩
  simp only [narrowOp, hqn, hok]
  exact laneOp_done h rfl (nextAsync_withRegs _ h.noEvent_afterPc)

/-- A butterfly: both results from both registers as they stood, with zeta from L7. -/
theorem narrowOp_two {s : State} {u lop w q : Nat} {ld ls : Fin 8} (h : LaneTurn s u lop ld.val ls.val)
    (hqn : (s.unit u).r.qn = some (w, q)) (hok : qnOk w q = true) (f g : Nat → Nat → Nat → Nat → Nat) : ∃ fr fr2,
    narrowOp s u lop ld.val ls.val false f (some g) = ((s.afterDraws u).withRegs u
      (fun r => r.setLane ld.val (narrowAll w q (f q) 32 (s.laneOf u ld 32) (s.laneOf u ls 32) (s.laneOf u 7 32) fr))).withRegs u
      (fun r => r.setLane ls.val (narrowAll w q (g q) 32 (s.laneOf u ld 32) (s.laneOf u ls 32) (s.laneOf u 7 32) fr2)) := by
  refine ⟨words64 32 ((s.afterPc u).drawBytes 256).1, words64 32 (((s.afterPc u).drawBytes 256).2.drawBytes 256).1, ?_⟩
  simp only [narrowOp, hqn, hok]
  exact laneOp_done h rfl (nextAsync_withRegs _ (nextAsync_withRegs _ h.noEvent_afterPc))

theorem exec_nmul (s : State) (u : Nat) (ld ls : Fin 8) (bad : Bool) : exec (.nmul u ld ls bad) s =
    .next (narrowOp s u 9 ld.val ls.val bad (fun _ x y _ => x * y) none) := rfl

theorem exec_nadd (s : State) (u : Nat) (ld ls : Fin 8) (bad : Bool) : exec (.nadd u ld ls bad) s =
    .next (narrowOp s u 10 ld.val ls.val bad (fun _ x y _ => x + y) none) := rfl

theorem exec_nsub (s : State) (u : Nat) (ld ls : Fin 8) (bad : Bool) : exec (.nsub u ld ls bad) s =
    .next (narrowOp s u 11 ld.val ls.val bad (fun q x y _ => x + (q - y)) none) := rfl

theorem exec_nbfct (s : State) (u : Nat) (ld ls : Fin 8) (bad : Bool) : exec (.nbfct u ld ls bad) s =
    .next (narrowOp s u 12 ld.val ls.val bad (fun _ x y c => x + c * y) (some (fun q x y c => x + (q - c * y % q)))) := rfl

theorem exec_nbfgs (s : State) (u : Nat) (ld ls : Fin 8) (bad : Bool) : exec (.nbfgs u ld ls bad) s =
    .next (narrowOp s u 13 ld.val ls.val bad (fun _ x y _ => x + y) (some (fun q x y c => (x + (q - y)) * c))) := rfl

/-- A narrow command with one result leaves it in its register. -/
theorem exec_narrow_one {c : Instr} {s : State} {u lop w q : Nat} {ld ls : Fin 8} {f : Nat → Nat → Nat → Nat → Nat}
    (hc : exec c s = .next (narrowOp s u lop ld.val ls.val false f none)) (h : LaneTurn s u lop ld.val ls.val)
    (hqn : (s.unit u).r.qn = some (w, q)) (hok : qnOk w q = true) : ∃ t fr, exec c s = .next t ∧
    { t with free := s.free } = s.afterLane u ld (narrowAll w q (f q) 32 (s.laneOf u ld 32) (s.laneOf u ls 32) [] fr) := by
  obtain ⟨fr, hrun⟩ := narrowOp_one h hqn hok f
  exact ⟨_, fr, hc.trans (congrArg _ hrun), afterDraws_setLane s u ld _⟩

/-- A butterfly leaves both results in its registers. -/
theorem exec_narrow_two {c : Instr} {s : State} {u lop w q : Nat} {ld ls : Fin 8} {f g : Nat → Nat → Nat → Nat → Nat}
    (hc : exec c s = .next (narrowOp s u lop ld.val ls.val false f (some g))) (h : LaneTurn s u lop ld.val ls.val)
    (hqn : (s.unit u).r.qn = some (w, q)) (hok : qnOk w q = true) : ∃ t fr fr2, exec c s = .next t ∧
    { t with free := s.free } =
      (s.afterLane u ld (narrowAll w q (f q) 32 (s.laneOf u ld 32) (s.laneOf u ls 32) (s.laneOf u 7 32) fr)).withRegs u
        (fun r => r.setLane ls.val (narrowAll w q (g q) 32 (s.laneOf u ld 32) (s.laneOf u ls 32) (s.laneOf u 7 32) fr2)) := by
  obtain ⟨fr, fr2, hrun⟩ := narrowOp_two h hqn hok f g
  exact ⟨_, fr, fr2, hc.trans (congrArg _ hrun), afterDraws_setLane_setLane s u ld ls _ _⟩

/-! ### Keccak (08 R327) -/

/-- A lane access that its guard admits: it lies in the context's scratch. -/
theorem laneAt_inr_iff {s : State} {u as n off : Nat} {x : VUnit} {wr : Bool} : laneAt s u x as n wr = .inr off ↔
    ¬ (as < 0x400000 ∨ 0x420000 < as + n) ∧ squadOf u * 0x200000 + ctxNum u * 0x20000 + (as - 0x400000) = off ∧
      guardCheck s 1 (identAt u x x.lvl) off (off + n - 1) (if wr then .write else .read) = 0 := by
  unfold laneAt
  generalize (if wr = true then Access.write else Access.read) = k
  split
  case isTrue hout => exact iff_of_false nofun (fun h => h.1 hout)
  case isFalse hin =>
    dsimp only
    split
    case isTrue hc =>
      refine iff_of_false nofun ?_
      rintro ⟨-, rfl, hc0⟩
      exact hc hc0
    case isFalse hc =>
      refine ⟨fun h => ?_, ?_⟩
      · obtain rfl := Sum.inr.inj h
        exact ⟨hin, rfl, not_not.mp hc⟩
      · rintro ⟨-, rfl, -⟩
        rfl

theorem laneAt_afterPc {s : State} {u as n off : Nat} {x : VUnit} {wr : Bool} (h : laneAt s u x as n wr = .inr off) :
    laneAt (s.afterPc u) u x as n wr = .inr off := by
  rw [laneAt_inr_iff] at h ⊢
  exact h

theorem exec_kperm {s : State} {u off : Nat} {as : Fin 8} (h : LaneTurn s u 15 as.val 0)
    (hr : laneAt s u (s.unit u) ((s.unit u).r.a.get as).toNat 200 false = .inr off)
    (hw : laneAt s u (s.unit u) ((s.unit u).r.a.get as).toNat 200 true = .inr off) :
    exec (.kperm u as false) s = .next { s.afterPc u with
      mem := Mem.write 0 s.mem (moduleAddr 1 off) (fit 200 (Config.keccakF (Mem.read 0 s.mem (moduleAddr 1 off) 200))) } := by
  refine congrArg Host.Outcome.next (laneOp_done h ?_ h.noEvent_afterPc)
  simp only [laneAt_afterPc hr, laneAt_afterPc hw]
  rfl

/-! ### QN (05 R218) -/

theorem exec_lqn {s : State} {u : Nat} {dn width : Fin 8} (h : LaneTurn s u 14 dn.val width.val) :
    exec (.lqn u dn width) s = .next (s.withRegs u (fun r => { r with
      qn := some (if width = 0 then 16 else 32, (r.d.get dn).toNat), pc := r.pc + 1 })) := by
  refine congrArg Host.Outcome.next ((laneOp_eq h _).trans ((runs_regs h.runs _).trans ?_))
  simp only [Fin.ext_iff]
  rfl

/-! ### Yields (06 R256, 13 R529) -/

theorem nextAsync_eq_none_iff {x : VUnit} : nextAsync x = none ↔ x.pendLock = false ∧ x.pendSup = [] ∧ x.pendDev = [] := by
  unfold nextAsync
  cases x.pendLock <;> cases x.pendSup <;> cases x.pendDev <;> simp

theorem nextAsync_ckpt {x : VUnit} (c : Option LaneImage) : nextAsync { x with ckpt := c } = none ↔ nextAsync x = none := by
  rw [nextAsync_eq_none_iff, nextAsync_eq_none_iff]

/-- A checkpoint changes nothing of a unit beside the image that it keeps. -/
theorem foldl_checkpoint_unit (u : Nat) : ∀ (l : List Nat) (s : State), ∃ c,
    (l.foldl (fun s v => s.withUnit v (fun x => { x with ckpt := some (liveImage s v) })) s).unit u = { s.unit u with ckpt := c }
  | [], s => ⟨(s.unit u).ckpt, rfl⟩
  | v :: l, s => by
    obtain ⟨c, hc⟩ := foldl_checkpoint_unit u l (s.withUnit v (fun x => { x with ckpt := some (liveImage s v) }))
    refine ⟨c, hc.trans ?_⟩
    by_cases hv : u = v
    · rw [hv, State.unit_withUnit]
    · rw [State.unit_withUnit_other _ _ hv]

theorem checkpoint_unit (s : State) (id u : Nat) : ∃ c, (checkpoint s id).unit u = { s.unit u with ckpt := c } :=
  foldl_checkpoint_unit u _ s

/-- A job's checkpoint noted at its count of MONTs. -/
def noteCheckpoint (s : State) (id : Nat) : State := (checkpoint s id).withJob id (fun j => { j with ckptAt := j.monts })

theorem noteCheckpoint_ckptAt (s : State) (id : Nat) : ((noteCheckpoint s id).job id).ckptAt = (s.job id).monts := by
  rw [noteCheckpoint, State.job_withJob, State.job_congr ((checkpoint_checks s id).jobs (by decide))]

theorem noteCheckpoint_unit (s : State) (id u : Nat) : ∃ c, (noteCheckpoint s id).unit u = { s.unit u with ckpt := c } :=
  checkpoint_unit s id u

theorem yieldAt_early {s : State} {id : Nat} (hp : (s.job id).parkSlot = none) (hm : (s.job id).monts < (s.job id).ckptAt + 512) :
    yieldAt s id = s := by
  simp [yieldAt, hp, Nat.not_le.mpr hm]

theorem yieldAt_due {s : State} {id : Nat} (hp : (s.job id).parkSlot = none) (hm : (s.job id).ckptAt + 512 ≤ (s.job id).monts) :
    yieldAt s id = noteCheckpoint s id := by
  simp [yieldAt, hp, hm, noteCheckpoint]

theorem exec_ypt_idle {s : State} {u : Nat} (h : LaneTurn s u 15 0 1) (hj : jobAt s u = none) :
    exec (.ypt u) s = .next (s.afterPc u) := by
  refine congrArg Host.Outcome.next (laneOp_done h ?_ h.noEvent_afterPc)
  have hj' : jobAt (s.afterPc u) u = none := hj
  simp only [hj']

theorem exec_ypt_job {s : State} {u id : Nat} (h : LaneTurn s u 15 0 1) (hj : jobAt s u = some id)
    (hn : nextAsync ((yieldAt (s.afterPc u) id).unit u) = none) : exec (.ypt u) s = .next (yieldAt (s.afterPc u) id) := by
  refine congrArg Host.Outcome.next (laneOp_done h ?_ hn)
  have hj' : jobAt (s.afterPc u) u = some id := hj
  simp only [hj']

/-! ### The obligation -/

/-- Settles O43: each word is issued in its context's turn, and completes as its body says. -/
theorem verbNarrowLanesAndYields : Obligations.VerbNarrowLanesAndYields := by
  unfold Obligations.VerbNarrowLanesAndYields
  refine ⟨?narrow, ?lqn, ?kperm, ?ypt⟩
  case narrow =>
    intro s u w q ld ls hu hr ht hqn hok
    have arith : ∀ lop, lop < 12 → LaneTurn s u lop ld.val ls.val := fun lop hl =>
      ⟨hu, hr, ht, (sequenceReserved_lane (by omega) ld.isLt ls.isLt).trans (wordReserved_arith hl ld.isLt ls.isLt)⟩
    have hmul := exec_narrow_one (exec_nmul s u ld ls false) (arith 9 (by decide)) hqn hok
    have hadd := exec_narrow_one (exec_nadd s u ld ls false) (arith 10 (by decide)) hqn hok
    have hsub := exec_narrow_one (exec_nsub s u ld ls false) (arith 11 (by decide)) hqn hok
    refine ⟨hmul, hadd, hsub, fun hd hs hne => ?_⟩
    have butterfly : ∀ lop, lop = 12 ∨ lop = 13 → LaneTurn s u lop ld.val ls.val := fun lop hl =>
      ⟨hu, hr, ht, (sequenceReserved_lane (by omega) ld.isLt ls.isLt).trans
        (wordReserved_butterfly hl (by omega) (by omega) (by omega))⟩
    have hct := exec_narrow_two (exec_nbfct s u ld ls false) (butterfly 12 (.inl rfl)) hqn hok
    have hgs := exec_narrow_two (exec_nbfgs s u ld ls false) (butterfly 13 (.inr rfl)) hqn hok
    exact ⟨hct, hgs⟩
  case lqn =>
    intro s u dn width hu hr ht hwidth
    exact exec_lqn ⟨hu, hr, ht, (sequenceReserved_lane (by decide) dn.isLt width.isLt).trans (wordReserved_lqn dn.isLt hwidth)⟩
  case kperm =>
    intro s u off as hu hr ht hread hwrite
    exact ⟨_, exec_kperm ⟨hu, hr, ht, (sequenceReserved_lane (by decide) as.isLt (by decide)).trans (wordReserved_kperm as.isLt)⟩
      hread hwrite, rfl, rfl⟩
  case ypt =>
    intro s u hu hr ht
    have h : LaneTurn s u 15 0 1 := ⟨hu, hr, ht, by decide⟩
    refine ⟨exec_ypt_idle h, fun id hj hp hm => ?_, fun id hj hp hm => ?_⟩
    · have hy : yieldAt (s.afterPc u) id = s.afterPc u := yieldAt_early hp hm
      exact (exec_ypt_job h hj (hy.symm ▸ h.noEvent_afterPc)).trans (congrArg _ hy)
    · have hy : yieldAt (s.afterPc u) id = noteCheckpoint (s.afterPc u) id := yieldAt_due hp hm
      obtain ⟨c, hunit⟩ := noteCheckpoint_unit (s.afterPc u) id u
      have hn : nextAsync ((yieldAt (s.afterPc u) id).unit u) = none := by
        rw [hy, hunit, nextAsync_ckpt]
        exact h.noEvent_afterPc
      refine ⟨_, (exec_ypt_job h hj hn).trans (congrArg _ hy), noteCheckpoint_ckptAt _ id, ?_⟩
      rw [hunit, State.afterPc, State.withRegs, State.unit_withUnit]
      rfl

end Sys2Proof.Machine
end

section
/-! PROOF. Slices and draws of squad jobs (05 R232; 06 R250, R254, R255; 12 R480, R487): what a job that parks at a yield leaves in its park
slot, and that an operation that draws out of its turn comes to nothing but a hold. -/

namespace Sys2Proof.Machine

open Sys2Proof

/-! ### Jobs off their squads (06 R263, R265) -/

/-- Of the lane array's tables only the squads' own differs. -/
def SquadsAlone (s t : State) : Prop := ∃ q, t.lanes = { s.lanes with squads := q }

theorem SquadsAlone.of_lanes {s t : State} (h : t.lanes = s.lanes) : SquadsAlone s t := ⟨s.lanes.squads, h⟩

theorem SquadsAlone.trans {s t u : State} (h : SquadsAlone s t) (k : SquadsAlone t u) : SquadsAlone s u := by
  obtain ⟨_, ht⟩ := h
  obtain ⟨q, hu⟩ := k
  exact ⟨q, by rw [hu, ht]⟩

theorem SquadsAlone.foldl {α : Type} {f : State → α → State} (hf : ∀ s a, SquadsAlone s (f s a)) :
    ∀ (l : List α) (s : State), SquadsAlone s (l.foldl f s)
  | [], _ => .of_lanes rfl
  | a :: l, s => (hf s a).trans (SquadsAlone.foldl hf l (f s a))

theorem wipeSlot_lanes (s : State) (q c : Nat) : (wipeSlot s q c).lanes = s.lanes := rfl

theorem leaveSquads_squadsAlone (s : State) (id : Nat) : SquadsAlone s (leaveSquads s id) := by
  have wiped : ∀ (s : State) (q : Nat), SquadsAlone s
      ((((s.squad q).slots.filter (fun e => e.2 == id)).map Prod.fst).foldl (fun s c => wipeSlot s q c) s) :=
    fun s q => SquadsAlone.foldl (fun s c => .of_lanes (wipeSlot_lanes s q c)) _ s
  exact (SquadsAlone.foldl wiped (s.job id).squads s).trans (SquadsAlone.foldl (fun s q => ⟨_, State.withSquad_lanes s q _⟩) _ _)

/-! ### Jobs that park (06 R254, R255) -/

theorem parkJob_job_self (s : State) (id k : Nat) : (parkJob s id k).job id =
    { s.job id with
      squads := [], phase := .ready, slices := (s.job id).slices + 1, parked := true, monts := 0, ckptAt := 0 } := by
  rw [parkJob, State.job_withJob, leaveSquads_job, if_pos rfl]
  rfl

/-- The live values of the contexts stand in the park slot, which counts as occupied. -/
theorem parkJob_parkSlot (s : State) (id k : Nat) :
    Tab.find (parkJob s id k).lanes.images k = some ((contextsOf s id).map (liveImage s)) ∧ k ∈ (parkJob s id k).lanes.parked := by
  obtain ⟨q, hq⟩ := leaveSquads_squadsAlone (s.withLanes (fun l =>
    { l with images := Tab.set l.images k ((contextsOf s id).map (liveImage s)), parked := addUnique k l.parked })) id
  rw [parkJob, State.withJob_lanes, hq]
  exact ⟨Tab.find_set_self _ k _, mem_addUnique k _⟩

/-- Beside its job, a job that parks changes squads, contexts and scratch alone. -/
theorem parkJob_parks (s : State) (id k : Nat) : Writes 2181055488 s (parkJob s id k) := parkJob_writes (Writes.refl _ s) (by decide)

/-! ### Slices of squad operations (06 R250; 12 R480, R487) -/

theorem onSquad_running {s : State} {id op : Nat} (ho : (s.job id).d.opcode = op) (hq : (s.job id).squads ≠ [])
    (hp : (s.job id).phase = .running) (f : State → State) : onSquad s id op f = .next (runSlice s id f) := by
  simp [onSquad, ho, hq, hp]

/-- A slice before the last parks where the operation passes. -/
theorem runSlice_parks {s : State} {id k : Nat} {f : State → State} (hr : randomOp (s.job id).d = false)
    (hl : lastSlice s (s.job id) = false) (hk : (s.job id).parkSlot = some k) (hf : ((f s).job id).status = 0) :
    runSlice s id f = parkJob s id k := by
  simp [runSlice, hr, hl, hk, hf]

theorem runSlice_held {s : State} {id : Nat} (hr : randomOp (s.job id).d = true) (ht : rngTurn s (s.job id).d.opcode = false)
    (f : State → State) : runSlice s id f = rngHold s id := by
  simp [runSlice, hr, ht]

/-- MODEXP draws nothing. -/
theorem randomOp_modexp {d : Desc} (h : d.opcode = 0x0103) : randomOp d = false := by
  simp [randomOp, h]

theorem exec_modexp_parks {s : State} {id k : Nat} (ho : (s.job id).d.opcode = 0x0103) (hq : (s.job id).squads ≠ [])
    (hp : (s.job id).phase = .running) (hl : lastSlice s (s.job id) = false) (hk : (s.job id).parkSlot = some k)
    (hn : modulusOk (genOps (s.job id)).L (genOps (s.job id)).n = true) (ha : (genOps (s.job id)).a < (genOps (s.job id)).n) :
    exec (.modexp id) s = .next (parkJob s id k) := by
  obtain ⟨⟨⟨_, hstatus, _⟩, _⟩, _⟩ := runGeneric_passed (s := s) (id := id) (r := fun g => some (powMod g.a g.b g.n))
    (genericCheck_pass (checkB := false) hn ha nofun) rfl
  exact (onSquad_running ho hq hp _).trans (congrArg _ (runSlice_parks (randomOp_modexp ho) hl hk hstatus))

/-! ### Commands that draw on squads (12 R480) -/

/-- The squad commands that draw random bits whatever their descriptor, each with its opcode. -/
def alwaysDraw (id : Nat) : List (Nat × Instr) :=
  [(0x0207, .rsaEncryptOaep id), (0x0220, .rsaKeygen id), (0x0301, .ecdsaSign id), (0x0303, .ecdh id), (0x0306, .xdh id),
    (0x0320, .ecKeygen id), (0x0401, .mlkemEncaps id), (0x0420, .mlkemKeygen id), (0x0421, .mldsaKeygen id)]

/-- These, and the signatures that draw where their salt has a length, or where they are hedged (07 R284, 08 R323). -/
def drawCommands (id : Nat) : List (Nat × Instr) := alwaysDraw id ++ [(0x0204, .rsaSignPss id), (0x0410, .mldsaSign id)]

theorem drawCommand_onSquad {id : Nat} {c : Nat × Instr} (h : c ∈ drawCommands id) :
    ∃ f : State → State, ∀ s, exec c.2 s = onSquad s id c.1 f := by
  simp only [drawCommands, alwaysDraw, List.cons_append, List.nil_append, List.mem_cons, List.not_mem_nil, or_false] at h
  rcases h with rfl | rfl | rfl | rfl | rfl | rfl | rfl | rfl | rfl | rfl | rfl <;> exact ⟨_, fun _ => rfl⟩

theorem alwaysDraw_random {id : Nat} {c : Nat × Instr} {d : Desc} (h : c ∈ alwaysDraw id) (ho : d.opcode = c.1) : randomOp d = true := by
  simp only [alwaysDraw, List.mem_cons, List.not_mem_nil, or_false] at h
  rcases h with rfl | rfl | rfl | rfl | rfl | rfl | rfl | rfl | rfl <;> simp [randomOp, ho]

theorem drawCommand_random {id : Nat} {c : Nat × Instr} {d : Desc} (h : c ∈ drawCommands id) (ho : d.opcode = c.1)
    (hsalt : c.1 = 0x0204 → d.salt ≠ 0) (hhedged : c.1 = 0x0410 → bit d.param 30 = false) : randomOp d = true := by
  rcases List.mem_append.mp h with halways | hsign
  · exact alwaysDraw_random halways ho
  rcases List.mem_pair.mp hsign with rfl | rfl
  · simp [randomOp, ho, hsalt rfl]
  · simp [randomOp, ho, hhedged rfl]

/-! ### The obligation -/

/-- Settles O53: a slice whose operands pass parks, and a draw out of its turn is held. -/
theorem slicesParkAndDrawsWait : Obligations.SlicesParkAndDrawsWait := by
  unfold Obligations.SlicesParkAndDrawsWait
  refine ⟨?park, ?draw⟩
  case park =>
    intro s id k ho hq hp hl hk hn ha
    have hw := parkJob_parks s id k
    obtain ⟨himage, hparked⟩ := parkJob_parkSlot s id k
    refine ⟨_, exec_modexp_parks ho hq hp hl hk hn ha, ?_⟩
    rw [parkJob_job_self]
    exact ⟨rfl, rfl, rfl, rfl, hk, rfl, rfl, rfl, himage, hparked, hw.keys (by decide), hw.meter (by decide), hw.evr (by decide),
      hw.hostMem (by decide)⟩
  case draw =>
    intro s id c hc ho hq hp hsalt hhedged hturn
    obtain ⟨f, hexec⟩ := drawCommand_onSquad hc
    have hheld : runSlice s id f = rngHold s id := runSlice_held (drawCommand_random hc ho hsalt hhedged) (ho.symm ▸ hturn) f
    exact (hexec s).trans ((onSquad_running ho hq hp f).trans (congrArg _ hheld))

end Sys2Proof.Machine
end

section
/-! PROOF. Squad jobs after a check or a draw (05 R227, R233; 12 R476): the first failed check of a validation table, and what a job's key and
outcome are once random bits have been drawn. -/

namespace Sys2Proof.Machine

open Sys2Proof

/-! ### The first failed check of a table (05 R227) -/

/-- A check that passes at the end of a table decides nothing. -/
@[simp] theorem firstFail_append_pass (st : Nat) : ∀ l : List (Bool × Nat), firstFail (l ++ [(true, st)]) = firstFail l
  | [] => rfl
  | (ok, c) :: l => by
    rw [List.cons_append, firstFail, firstFail, firstFail_append_pass st l]

/-- A table that names no status that counts nothing fails with none. -/
theorem firstFail_counted : ∀ {l : List (Bool × Nat)}, (∀ e ∈ l, chargeless e.2 = false) → chargeless (firstFail l) = false
  | [], _ => rfl
  | (ok, c) :: l, h => by
    obtain ⟨hc, hl⟩ := List.forall_mem_cons.mp h
    cases ok with
    | false => exact hc
    | true => exact firstFail_counted (l := l) hl

/-- A failed check of a table ends the job with its status. -/
theorem failValid_firstFail (s : State) (id : Nat) {c : Nat} {l : List (Bool × Nat)} (hl : ∀ e ∈ l, chargeless e.2 = false)
    (hc : firstFail l = c) : Invalid s (failValid s id c) id c :=
  failValid_invalid s id c (hc ▸ firstFail_counted hl)

/-! ### Draws (12 R476) -/

/-- The fields that a draw writes: the expanders, and the octets that the model leaves free. -/
abbrev drawWrites : Nat := 2097154

theorem rngDraw_draws (s : State) (p n : Nat) : Writes drawWrites s (rngDraw s p n).2 := (rngDraw_writes (Writes.refl _ s) (by decide)).snd

theorem jobSlot_congr {s t : State} (h : t.keys = s.keys) (j : Job) : jobSlot t j = jobSlot s j := by
  simp only [jobSlot, State.kslot, h]

theorem jobRsa_congr {s t : State} (h : t.keys = s.keys) (j : Job) : jobRsa t j = jobRsa s j := by
  simp only [jobRsa, jobSlot_congr h]

/-- An end in a state with the same jobs is an end. -/
theorem Ended.of_jobs {s t u : State} {id st tc : Nat} {out : Bytes} (h : Ended t u id st out tc) (hj : t.jobs = s.jobs) :
    Ended s u id st out tc :=
  ⟨h.1, fun k hk => (h.2 k hk).trans (State.job_congr hj k)⟩

/-- A status other than 0 carries no output. -/
theorem Ended.of_output {s t : State} {id st tc : Nat} {out out' : Bytes} (h : Ended s t id st out tc) (ho : st = 0 → out = out') :
    Ended s t id st out' tc := by
  obtain ⟨⟨hphase, hstatus, htime, hout⟩, hother⟩ := h
  refine ⟨⟨hphase, hstatus, htime, hout.trans ?_⟩, hother⟩
  split
  case isTrue h0 => exact ho h0
  case isFalse => rfl

/-- A job that passes after draws ends OK. -/
theorem passJob_ended {s t : State} (h : Writes drawWrites s t) (id : Nat) (out : Bytes) (tc b : Nat) :
    Ended s (passJob t id out tc b) id 0 out tc :=
  (passJob_passed t id out tc b).1.of_jobs (h.jobs (by decide))

end Sys2Proof.Machine
end

section
/-! PROOF. RSA (07 R280 to R287, R297): a CRT operation is released or fails its check, a host key's first failed check ends the job,
and the verdict of a recovered encoding. -/

namespace Sys2Proof.Machine

open Sys2Proof

/-! ### CRT operations (07 R287, R297) -/

/-- The result of a job's CRT operation gives the input back under the public exponent. -/
def CrtReleases (s : State) (id x : Nat) : Prop :=
  let k := slotCrt (jobSlot s (s.job id))
  powMod (rsaCrt k x) k.pub.e k.pub.n = x

theorem rsaPrivate_released {s : State} {id x : Nat} (h : CrtReleases s id x) (out : Nat → State) :
    rsaPrivate s id x out = out (rsaCrt (slotCrt (jobSlot s (s.job id))) x) := if_pos h

theorem rsaPrivate_withheld {s : State} {id x : Nat} (h : ¬ CrtReleases s id x) (out : Nat → State) :
    rsaPrivate s id x out = releaseFail s id := if_neg h

theorem rsaOut_released {s : State} {id x : Nat} (h : CrtReleases s id x) : Passed s (rsaOut s id x) id
    (toBE (jobRsa s (s.job id)).kn (rsaCrt (slotCrt (jobSlot s (s.job id))) x)) 1 (jobB s (s.job id)) := by
  rw [rsaOut, rsaPrivate_released h]
  exact passJob_passed s id _ 1 _

theorem rsaOut_withheld {s : State} {id x : Nat} (h : ¬ CrtReleases s id x) : rsaOut s id x = releaseFail s id := by
  rw [rsaOut, rsaPrivate_withheld h]

/-! ### Checks of a host key (07 Table 8) -/

theorem rsaHostChecks_counted (d : Desc) (k : RsaPub) : ∀ e ∈ rsaHostChecks d k, chargeless e.2 = false := by
  unfold rsaHostChecks
  split
  · exact List.forall_mem_nil _
  · refine List.forall_mem_cons.mpr ⟨?_, List.forall_mem_singleton.mpr ?_⟩ <;> rfl

/-- The checks of a public operation on input `x`: of the host key, and of the input against the modulus. -/
def rsaChecks (d : Desc) (k : RsaPub) (x : Nat) : List (Bool × Nat) := rsaHostChecks d k ++ [(decide (x < k.n), 0x1010)]

theorem rsaChecks_counted (d : Desc) (k : RsaPub) (x : Nat) : ∀ e ∈ rsaChecks d k x, chargeless e.2 = false :=
  List.forall_mem_append.mpr ⟨rsaHostChecks_counted d k, List.forall_mem_singleton.mpr rfl⟩

theorem rsaChecks_pass {d : Desc} {k : RsaPub} {x : Nat} (hk : firstFail (rsaHostChecks d k) = 0) (hx : x < k.n) :
    firstFail (rsaChecks d k x) = 0 := by
  simp [rsaChecks, hx, hk]

/-! ### Verdicts (07 R280) -/

/-- REASON of a signature: ENCODING where the form fails, EQUATION where another digest stands in it. -/
def rsaReason (form digest : Bool) : Nat := if !form then 2 else if digest then 0 else 1

theorem rsaReason_le (form digest : Bool) : rsaReason form digest ≤ 2 := by cases form <;> cases digest <;> decide

theorem rsaReason_eq_two {form digest : Bool} : rsaReason form digest = 2 ↔ form = false := by
  cases form <;> cases digest <;> decide

theorem rsaReason_eq_zero {form digest : Bool} : rsaReason form digest = 0 ↔ form = true ∧ digest = true := by
  cases form <;> cases digest <;> decide

/-- The signature of a job that verifies. -/
def jobSig (j : Job) : Nat := beNat (j.opa.drop (hLen j.d.hash))

/-- The encoding that it recovers under a key. -/
def recovered (k : RsaPub) (j : Job) : Bytes := toBE k.kn (powMod (jobSig j) k.e k.n)

section

variable {s : State} {id : Nat} {form digest : Desc → Nat → Bytes → Bytes → Bool}

theorem rsaVerify_invalid {c : Nat} (h : firstFail (rsaChecks (s.job id).d (jobRsa s (s.job id)) (jobSig (s.job id))) = c) (hc : c ≠ 0) :
    Invalid s (rsaVerify s id form digest) id c := by
  have hrun : rsaVerify s id form digest = failValid s id c := (if_pos (h.trans_ne hc)).trans (congrArg _ h)
  rw [hrun]
  exact failValid_firstFail s id (rsaChecks_counted _ _ _) h

theorem rsaVerify_passed (h : firstFail (rsaChecks (s.job id).d (jobRsa s (s.job id)) (jobSig (s.job id))) = 0) :
    let j := s.job id
    let k := jobRsa s j
    let dig := j.opa.take (hLen j.d.hash)
    Passed s (rsaVerify s id form digest) id
      (verdict (rsaReason (form j.d k.kn dig (recovered k j)) (digest j.d k.kn dig (recovered k j)))) 3 (bOf k.e) := by
  extract_lets j k dig
  have hrun : rsaVerify s id form digest = passJob s id
      (verdict (rsaReason (form j.d k.kn dig (recovered k j)) (digest j.d k.kn dig (recovered k j)))) 3 (bOf k.e) :=
    if_neg (not_not.mpr h)
  rw [hrun]
  exact passJob_passed s id _ 3 _

/-! ### The commands -/

theorem exec_rsaPrivate_below (hs : OnSquads s id 0x0201) (hx : beNat (s.job id).opa < (jobRsa s (s.job id)).n) :
    exec (.rsaPrivate id) s = .next (rsaOut s id (beNat (s.job id).opa)) :=
  (onSquad_eq hs _).trans (congrArg _ (if_pos hx))

theorem exec_rsaPrivate_range (hs : OnSquads s id 0x0201) (hx : (jobRsa s (s.job id)).n ≤ beNat (s.job id).opa) :
    exec (.rsaPrivate id) s = .next (failValid s id 0x1010) :=
  (onSquad_eq hs _).trans (congrArg _ (if_neg (Nat.not_lt.mpr hx)))

theorem exec_rsaPublic_passed (hs : OnSquads s id 0x0202)
    (h : firstFail (rsaChecks (s.job id).d (jobRsa s (s.job id)) (beNat (s.job id).opa)) = 0) :
    let k := jobRsa s (s.job id)
    exec (.rsaPublic id) s = .next (passJob s id (toBE k.kn (powMod (beNat (s.job id).opa) k.e k.n)) 3 (bOf k.e)) :=
  (onSquad_eq hs _).trans (congrArg _ (if_neg (not_not.mpr h)))

theorem exec_rsaPublic_invalid {c : Nat} (hs : OnSquads s id 0x0202)
    (h : firstFail (rsaChecks (s.job id).d (jobRsa s (s.job id)) (beNat (s.job id).opa)) = c) (hc : c ≠ 0) :
    exec (.rsaPublic id) s = .next (failValid s id c) :=
  (onSquad_eq hs _).trans (congrArg _ ((if_pos (h.trans_ne hc)).trans (congrArg _ h)))

theorem exec_rsaSignV15 (hs : OnSquads s id 0x0203) : exec (.rsaSignV15 id) s =
    .next (rsaOut s id (beNat (emsaV15 (s.job id).d.hash (jobRsa s (s.job id)).kn (s.job id).opa))) := onSquad_eq hs _

/-- The salt of a PSS signature, and the state once it is drawn (07 R284). -/
def pssSalt (s : State) (id : Nat) : Bytes × State := if (s.job id).d.salt = 0 then ([], s) else rngDraw s 0 (s.job id).d.salt

theorem pssSalt_draws (s : State) (id : Nat) : Writes drawWrites s (pssSalt s id).2 := by
  unfold pssSalt
  split
  · exact Writes.refl _ s
  · exact rngDraw_draws s 0 _

/-- What a PSS signature encodes. -/
def pssEncoding (s : State) (id : Nat) : Nat :=
  beNat (emsaPss (s.job id).d.hash (jobRsa s (s.job id)).kn (s.job id).opa (pssSalt s id).1)

theorem exec_rsaSignPss (hs : OnSquads s id 0x0204) :
    exec (.rsaSignPss id) s = .next (rsaOut (pssSalt s id).2 id (pssEncoding s id)) := onSquad_eq hs _

/-- A draw leaves a CRT operation's key as it was. -/
theorem crtReleases_congr {t : State} (h : Writes drawWrites s t) (x : Nat) : CrtReleases t id x ↔ CrtReleases s id x := by
  rw [CrtReleases, CrtReleases, State.job_congr (h.jobs (by decide)), jobSlot_congr (h.keys (by decide))]

/-- A CRT operation after a draw is released as one before it. -/
theorem rsaOut_ended {t : State} {x : Nat} (h : Writes drawWrites s t) (hr : CrtReleases s id x) : Ended s (rsaOut t id x) id 0
    (toBE (jobRsa s (s.job id)).kn (rsaCrt (slotCrt (jobSlot s (s.job id))) x)) 1 := by
  have hj := h.jobs (by decide)
  have hk := h.keys (by decide)
  obtain ⟨hended, -, -⟩ := rsaOut_released ((crtReleases_congr h x).mpr hr)
  rw [State.job_congr hj, jobRsa_congr hk, jobSlot_congr hk] at hended
  exact hended.of_jobs hj

theorem exec_rsaVerifyV15 (hs : OnSquads s id 0x0205) : exec (.rsaVerifyV15 id) s = .next (rsaVerify s id
    (fun d kn dig em => em.take (kn - dig.length) == (emsaV15 d.hash kn dig).take (kn - dig.length))
    (fun d kn dig em => em == emsaV15 d.hash kn dig)) := onSquad_eq hs _

theorem exec_rsaVerifyPss (hs : OnSquads s id 0x0206) : exec (.rsaVerifyPss id) s = .next (rsaVerify s id
    (fun d kn _ em => pssForm d.hash kn d.salt em) (fun d kn dig em => pssMatches d.hash kn d.salt dig em)) := onSquad_eq hs _

theorem exec_rsaEncryptOaep_passed (hs : OnSquads s id 0x0207)
    (h : firstFail (rsaHostChecks (s.job id).d (jobRsa s (s.job id))) = 0) :
    let j := s.job id
    let k := jobRsa s j
    let seed := rngDraw s 0 (hLen j.d.hash)
    exec (.rsaEncryptOaep id) s =
      .next (passJob seed.2 id (toBE k.kn (powMod (beNat (emeOaep j.d.hash k.kn j.opa seed.1)) k.e k.n)) 3 (bOf k.e)) :=
  (onSquad_eq hs _).trans (congrArg _ (if_neg (not_not.mpr h)))

theorem exec_rsaEncryptOaep_invalid {c : Nat} (hs : OnSquads s id 0x0207)
    (h : firstFail (rsaHostChecks (s.job id).d (jobRsa s (s.job id))) = c) (hc : c ≠ 0) :
    exec (.rsaEncryptOaep id) s = .next (failValid s id c) :=
  (onSquad_eq hs _).trans (congrArg _ ((if_pos (h.trans_ne hc)).trans (congrArg _ h)))

/-! ### OAEP decryption (07 R286) -/

/-- A job ends with its decoded message, or DECRYPT_FAILED where there is none; both take the count of the whole sequence. -/
def oaepOut (s : State) (id : Nat) (msg : Option Bytes) : State :=
  let k := jobRsa s (s.job id)
  match msg with
  | some m => passJob s id m 1 (bOf k.e)
  | none => finishWith s id 0x1016 [] 2 (32 * jobCycles s (s.job id).d (bOf k.e)) 0

/-- The message of a representative: an input of zero has none. -/
def oaepMessage (s : State) (id x m : Nat) : Option Bytes :=
  let k := jobRsa s (s.job id)
  if x = 0 then none else oaepDecode (s.job id).d.hash k.kn (toBE k.kn m)

theorem oaepOut_ended (s : State) (id : Nat) (msg : Option Bytes) :
    ((oaepOut s id msg).job id).lane = 32 * jobCycles s (s.job id).d (bOf (jobRsa s (s.job id)).e) ∧
      Ended s (oaepOut s id msg) id (if msg = none then 0x1016 else 0) (msg.getD []) (if msg = none then 2 else 1) := by
  cases msg with
  | some m =>
    obtain ⟨hended, hlane, -⟩ := passJob_passed s id m 1 (bOf (jobRsa s (s.job id)).e)
    exact ⟨hlane, hended⟩
  | none =>
    obtain ⟨hended, hlane, -⟩ :=
      finishWith_ended s id 0x1016 [] 2 (32 * jobCycles s (s.job id).d (bOf (jobRsa s (s.job id)).e)) 0
    exact ⟨hlane, hended⟩

theorem oaepMessage_none {x m : Nat} : oaepMessage s id x m = none ↔
    x = 0 ∨ oaepDecode (s.job id).d.hash (jobRsa s (s.job id)).kn (toBE (jobRsa s (s.job id)).kn m) = none := by
  by_cases hx : x = 0 <;> simp [oaepMessage, hx]

theorem exec_rsaDecryptOaep_below (hs : OnSquads s id 0x0208) (hx : beNat (s.job id).opa < (jobRsa s (s.job id)).n) :
    exec (.rsaDecryptOaep id) s = .next (rsaPrivate s id (beNat (s.job id).opa)
      (fun m => oaepOut s id (oaepMessage s id (beNat (s.job id).opa) m))) :=
  (onSquad_eq hs _).trans (congrArg _ (if_neg (Nat.not_le.mpr hx)))

theorem exec_rsaDecryptOaep_range (hs : OnSquads s id 0x0208) (hx : (jobRsa s (s.job id)).n ≤ beNat (s.job id).opa) :
    exec (.rsaDecryptOaep id) s = .next (failValid s id 0x1010) :=
  (onSquad_eq hs _).trans (congrArg _ (if_pos hx))

end

/-! ### The obligation -/

/-- Settles O22: each clause is one outcome of its command; a salt or a seed is drawn before the operation. -/
theorem rsaOperations : Obligations.RsaOperations := by
  unfold Obligations.RsaOperations
  refine ⟨?priv, ?pub, ?signV15, ?signPss, ?verifyV15, ?verifyPss, ?encrypt, ?decrypt⟩
  case priv =>
    exact fun s id hs =>
      ⟨fun hx hr => ⟨_, exec_rsaPrivate_below hs hx, rsaOut_released hr⟩,
        fun hx hr => (exec_rsaPrivate_below hs hx).trans (congrArg _ (rsaOut_withheld hr)),
        fun hx => ⟨_, exec_rsaPrivate_range hs hx, failValid_invalid s id _ rfl⟩⟩
  case pub =>
    exact fun s id hs =>
      ⟨fun hk hx => ⟨_, exec_rsaPublic_passed hs (rsaChecks_pass hk hx), passJob_passed s id _ 3 _⟩,
        fun c hc h0 => ⟨_, exec_rsaPublic_invalid hs hc h0, failValid_firstFail s id (rsaChecks_counted _ _ _) hc⟩⟩
  case signV15 =>
    intro s id hs k x
    refine ⟨_, exec_rsaSignV15 hs, ?_⟩
    split
    case isTrue hr => exact rsaOut_released hr
    case isFalse hr => exact rsaOut_withheld hr
  case signPss =>
    intro s id hs k sd x
    have hd := pssSalt_draws s id
    refine ⟨_, exec_rsaSignPss hs, ?_⟩
    split
    case isTrue hr => exact rsaOut_ended hd hr
    case isFalse hr => exact rsaOut_withheld (mt (crtReleases_congr hd _).mp hr)
  case verifyV15 =>
    intro s id hs k h sig em want
    refine ⟨fun hk hx => ⟨_, _, exec_rsaVerifyV15 hs, rsaVerify_passed (rsaChecks_pass hk hx), rsaReason_le _ _, ?_, ?_⟩,
      fun c hc h0 => ⟨_, exec_rsaVerifyV15 hs, rsaVerify_invalid hc h0⟩⟩
    · rw [rsaReason_eq_zero, beq_iff_eq, beq_iff_eq]
      exact ⟨And.right, fun he => ⟨congrArg (List.take _) he, he⟩⟩
    · rw [rsaReason_eq_two, beq_eq_false_iff_ne]
      exact Iff.rfl
  case verifyPss =>
    intro s id hs k h sig em
    exact ⟨fun hk hx => ⟨_, _, exec_rsaVerifyPss hs, rsaVerify_passed (rsaChecks_pass hk hx), rsaReason_le _ _, rsaReason_eq_two,
        rsaReason_eq_zero⟩,
      fun c hc h0 => ⟨_, exec_rsaVerifyPss hs, rsaVerify_invalid hc h0⟩⟩
  case encrypt =>
    exact fun s id hs =>
      ⟨fun hk => ⟨_, exec_rsaEncryptOaep_passed hs hk, passJob_ended (rngDraw_draws s 0 _) id _ 3 _⟩,
        fun c hc h0 => ⟨_, exec_rsaEncryptOaep_invalid hs hc h0, failValid_firstFail s id (rsaHostChecks_counted _ _) hc⟩⟩
  case decrypt =>
    intro s id hs k p x m
    refine ⟨fun hx hr => ?_, fun hx hr => (exec_rsaDecryptOaep_below hs hx).trans (congrArg _ (rsaPrivate_withheld hr _)),
      fun hx => ⟨_, exec_rsaDecryptOaep_range hs hx, failValid_invalid s id _ rfl⟩⟩
    obtain ⟨hlane, hended⟩ := oaepOut_ended s id (oaepMessage s id x m)
    simp only [oaepMessage_none] at hended
    refine ⟨_, (exec_rsaDecryptOaep_below hs hx).trans (congrArg _ (rsaPrivate_released hr _)), hlane,
      hended.of_output fun h0 => ?_⟩
    have hx0 : x ≠ 0 := fun e => absurd (ite_eq_right_iff.mp h0 (.inl e)) (by decide)
    exact congrArg (Option.getD · []) (if_neg hx0)

end Sys2Proof.Machine
end

section
/-! PROOF. Elliptic curves (07 R290 to R297): the checks of a received key and of a signature's scalars, the draws before an operation, and
results that are released only where their point is on the curve. -/

namespace Sys2Proof.Machine

open Sys2Proof

/-! ### Received points and scalars (07 R277, R278, Table 8) -/

/-- Every branch answers 0 or a status of the table, each of which counts its validation. -/
theorem readPoint_counted (cn : Nat) (b : Bytes) : chargeless (readPoint cn b).1 = false := by
  unfold readPoint
  dsimp only
  repeat' split
  all_goals rfl

theorem readEdPoint_counted (cn : Nat) (b : Bytes) : chargeless (readEdPoint cn b).1 = false := by
  unfold readEdPoint
  dsimp only
  repeat' split
  all_goals rfl

theorem readU_counted (cn : Nat) (b : Bytes) : chargeless (readU cn b).1 = false := by
  unfold readU
  dsimp only
  repeat' split
  all_goals rfl

/-- The checks of a verification: of a key that the host sends, by the status `st` of its point, and of the signature's scalars. -/
def verifyChecks (host : Bool) (st : Nat) (scalars : Bool) : List (Bool × Nat) := [(!host || st == 0, st), (scalars, 0x1011)]

theorem verifyChecks_point {host : Bool} {st : Nat} (h : host = true ∧ st ≠ 0) (scalars : Bool) :
    firstFail (verifyChecks host st scalars) = st := by
  simp [verifyChecks, firstFail, h]

theorem verifyChecks_scalars {host : Bool} {st : Nat} (h : ¬(host = true ∧ st ≠ 0)) (scalars : Bool) :
    firstFail (verifyChecks host st scalars) = if scalars then 0 else 0x1011 := by
  have hkey : (!host || st == 0) = true := by
    cases host with
    | false => rfl
    | true => simpa using h
  rw [verifyChecks, hkey]
  rfl

/-- A verification after its checks. -/
def verified (s : State) (id : Nat) (host : Bool) (st : Nat) (scalars : Bool) (out : Bytes) : State :=
  let c := firstFail (verifyChecks host st scalars)
  if c ≠ 0 then failValid s id c else passJob s id out 1 0

theorem verified_outcome (s : State) (id : Nat) {host scalars : Bool} {st : Nat} (out : Bytes) {bad : Prop} [Decidable bad]
    (hst : chargeless st = false) (hbad : scalars = false ↔ bad) :
    if host = true ∧ st ≠ 0 then Invalid s (verified s id host st scalars out) id st
    else if bad then Invalid s (verified s id host st scalars out) id 0x1011
    else Passed s (verified s id host st scalars out) id out 1 0 := by
  unfold verified
  split
  case isTrue hkey =>
    rw [verifyChecks_point hkey, if_pos hkey.2]
    exact failValid_invalid s id st hst
  case isFalse hkey =>
    rw [verifyChecks_scalars hkey]
    split
    case isTrue hb =>
      rw [hbad.mpr hb]
      exact failValid_invalid s id 0x1011 rfl
    case isFalse hb =>
      rw [Bool.of_not_eq_false (mt hbad.mp hb)]
      exact passJob_passed s id out 1 0

/-! ### Points on their curve (07 R297) -/

/-- A point is there and lies on the curve: it is not the identity. -/
def pointGood (cn : Nat) (z : Option (Nat × Nat)) : Bool := z.any (fun p => Config.onCurve cn p.1 p.2)

theorem pointGood_some {cn : Nat} {z : Option (Nat × Nat)} {p : Nat × Nat} (hz : z = some p)
    (hp : Config.onCurve cn p.1 p.2 = true) : pointGood cn z = true := by
  rw [hz]
  exact hp

theorem pointGood_off {cn : Nat} {z : Option (Nat × Nat)} (h : z.all (fun p => !Config.onCurve cn p.1 p.2) = true) :
    pointGood cn z = false := by
  cases z with
  | none => rfl
  | some p => exact (Bool.not_eq_true' _).mp h

section

variable {s : State} {id : Nat}

/-! ### ECDSA signatures (07 R290, R294 to R296) -/

/-- The curve of the slot that a job names. -/
def slotCurve (s : State) (id : Nat) : Nat := clsCurve (jobSlot s (s.job id)).cls

/-- The digest of a signature as a number. -/
def ecdsaDigest (s : State) (id : Nat) : Nat := bits2int (Config.orderN (slotCurve s id)) (s.job id).opa

/-- The hedged nonce of a signature, from the first draw. -/
def ecdsaNonce (s : State) (id : Nat) : Nat :=
  hedgedNonce (slotCurve s id) (s.job id).d.hash (slotScalar (jobSlot s (s.job id))) (ecdsaDigest s id)
    (rngDraw s 0 (curveOf (slotCurve s id)).qb).1

/-- r and s of a job's signature. -/
def ecdsaSig (s : State) (id : Nat) : Nat × Nat :=
  ecdsaPair (slotCurve s id) (slotScalar (jobSlot s (s.job id))) (ecdsaDigest s id) (ecdsaNonce s id)

/-- The signature passes its check before release. -/
def ecdsaReleases (s : State) (id : Nat) : Bool :=
  ecdsaOk (slotCurve s id) (slotScalar (jobSlot s (s.job id))) (ecdsaDigest s id) (ecdsaNonce s id) (ecdsaSig s id)

/-- A signature's two draws, of the nonce and of the blinding. -/
def ecdsaDrawn (s : State) (id : Nat) : State :=
  (rngDraw (rngDraw s 0 (curveOf (slotCurve s id)).qb).2 0 (curveOf (slotCurve s id)).fb).2

theorem ecdsaDrawn_draws (s : State) (id : Nat) : Writes drawWrites s (ecdsaDrawn s id) :=
  Writes.step (rngDraw_draws _ 0 _) (by decide) (rngDraw_draws s 0 _)

/-- A signature after its draws: a zero r or s repeats with fresh ones, and a pair that fails its check is withheld. -/
def ecdsaOut (s : State) (id : Nat) : State :=
  let q := (curveOf (slotCurve s id)).qb
  let rs := ecdsaSig s id
  if rs.1 = 0 ∨ rs.2 = 0 then (ecdsaDrawn s id).bump gPkNonceRetry
  else if ecdsaReleases s id then passJob (ecdsaDrawn s id) id (toBE q rs.1 ++ toBE q rs.2) 1 0
  else releaseFail (ecdsaDrawn s id) id

theorem exec_ecdsaSign (hs : OnSquads s id 0x0301) : exec (.ecdsaSign id) s = .next (ecdsaOut s id) := onSquad_eq hs _

theorem ecdsaOut_outcome (s : State) (id : Nat) :
    let q := (curveOf (slotCurve s id)).qb
    let rs := ecdsaSig s id
    if rs.1 = 0 ∨ rs.2 = 0 then
      (ecdsaOut s id).jobs = s.jobs ∧ (ecdsaOut s id).gv gPkNonceRetry = (s.gv gPkNonceRetry + 1) % 2 ^ 64
    else if ecdsaReleases s id = true then Ended s (ecdsaOut s id) id 0 (toBE q rs.1 ++ toBE q rs.2) 1
    else ecdsaOut s id = releaseFail (ecdsaDrawn s id) id := by
  have hd := ecdsaDrawn_draws s id
  have hgv : (ecdsaDrawn s id).gv gPkNonceRetry = s.gv gPkNonceRetry := by
    rw [State.gv, State.gvs, hd.gls (by decide)]
    rfl
  extract_lets q rs
  split
  case isTrue hz =>
    rw [ecdsaOut, if_pos hz]
    exact ⟨hd.jobs (by decide), by rw [State.gv_bump, hgv]⟩
  case isFalse hz =>
    rw [ecdsaOut, if_neg hz]
    split
    · exact passJob_ended hd id _ 1 0
    · rfl

/-! ### ECDH (07 R293, R297) -/

/-- The shared point of a job. -/
def ecdhPoint (s : State) (id : Nat) : Option (Nat × Nat) :=
  Config.mulPoint (slotCurve s id) (slotScalar (jobSlot s (s.job id))) (readPoint (slotCurve s id) (s.job id).opb).2

/-- The blinding of a job's point operation drawn. -/
def blindDrawn (s : State) (id : Nat) : State := (rngDraw s 0 (curveOf (slotCurve s id)).fb).2

/-- A shared point's x-coordinate, released where the point is on the curve. -/
def ecdhOut (s : State) (id cn : Nat) (z : Option (Nat × Nat)) : State :=
  match z with
  | some p => if Config.onCurve cn p.1 p.2 then passJob s id (toBE (curveOf cn).fb p.1) 1 0 else releaseFail s id
  | none => releaseFail s id

theorem ecdhOut_released {t : State} {cn : Nat} {z : Option (Nat × Nat)} {p : Nat × Nat} (hd : Writes drawWrites s t) (hz : z = some p)
    (hp : Config.onCurve cn p.1 p.2 = true) : Ended s (ecdhOut t id cn z) id 0 (toBE (curveOf cn).fb p.1) 1 := by
  rw [hz, ecdhOut, if_pos hp]
  exact passJob_ended hd id _ 1 0

theorem ecdhOut_withheld {cn : Nat} {z : Option (Nat × Nat)} (h : pointGood cn z = false) :
    ecdhOut s id cn z = releaseFail s id := by
  cases z with
  | none => rfl
  | some p => exact if_neg (Bool.not_eq_true _ ▸ h)

theorem exec_ecdh_invalid (hs : OnSquads s id 0x0303) (h : (readPoint (slotCurve s id) (s.job id).opb).1 ≠ 0) :
    exec (.ecdh id) s = .next (failValid s id (readPoint (slotCurve s id) (s.job id).opb).1) :=
  (onSquad_eq hs _).trans (congrArg _ (if_pos h))

theorem exec_ecdh_valid (hs : OnSquads s id 0x0303) (h : (readPoint (slotCurve s id) (s.job id).opb).1 = 0) :
    exec (.ecdh id) s = .next (ecdhOut (blindDrawn s id) id (slotCurve s id) (ecdhPoint s id)) :=
  (onSquad_eq hs _).trans (congrArg _ (if_neg (not_not.mpr h)))

/-! ### EdDSA (07 R291, R292, R297) -/

/-- S on the second path, by reduced factors, is S. -/
theorem edSecondPath (r k a n : Nat) : ((r + k * a) % n == (r + k % n * (a % n)) % n) = true := by
  rw [beq_iff_eq, Nat.add_mod, Nat.mul_mod, ← Nat.add_mod]

/-- The seed of the slot that a job names. -/
def edSeed (s : State) (id : Nat) : Bytes := (jobSlot s (s.job id)).material.take (curveOf (slotCurve s id)).fb

/-- r of a job's signature. -/
def edR (s : State) (id : Nat) : Nat := edNonce (slotCurve s id) (s.job id).d.ph (edSeed s id) (s.job id).opa

/-- The point R of a job's signature. -/
def edPoint (s : State) (id : Nat) : Option (Nat × Nat) := Config.mulBase (slotCurve s id) (edR s id)

/-- k of a job's signature. -/
def edK (s : State) (id : Nat) : Nat :=
  let j := s.job id
  edHash (slotCurve s id) j.d.ph (edEncode (slotCurve s id) (edPoint s id) ++ slotPoint (jobSlot s j) ++ j.opa)

/-- A job's signature: R, and S. -/
def edSig (s : State) (id : Nat) : Bytes :=
  let cn := slotCurve s id
  edEncode cn (edPoint s id) ++
    toLE (curveOf cn).fb ((edR s id + edK s id * edScalar cn (edSeed s id)) % Config.orderN cn)

/-- A point R is released where it is on the curve and S agrees on both paths. -/
def edReleases (cn : Nat) (z : Option (Nat × Nat)) (agree : Bool) : Bool :=
  match z with
  | none => false
  | some p => Config.onCurve cn p.1 p.2 && agree

/-- Where both paths agree, the point alone decides. -/
theorem edReleases_agreed (cn : Nat) (z : Option (Nat × Nat)) : edReleases cn z true = pointGood cn z := by
  cases z with
  | none => rfl
  | some p => exact Bool.and_true _

/-- A signature whose R is on the curve is released. -/
def eddsaOut (s : State) (id : Nat) : State :=
  if pointGood (slotCurve s id) (edPoint s id) then passJob s id (edSig s id) 1 0 else releaseFail s id

theorem exec_eddsaSign (hs : OnSquads s id 0x0304) : exec (.eddsaSign id) s = .next (eddsaOut s id) := by
  have hboth := edReleases_agreed (slotCurve s id) (edPoint s id)
  rw [← edSecondPath (edR s id) (edK s id) (edScalar (slotCurve s id) (edSeed s id)) (Config.orderN (slotCurve s id))] at hboth
  rw [eddsaOut, ← hboth]
  exact onSquad_eq hs _

theorem eddsaOut_released (h : pointGood (slotCurve s id) (edPoint s id) = true) : Passed s (eddsaOut s id) id (edSig s id) 1 0 := by
  rw [eddsaOut, if_pos h]
  exact passJob_passed s id _ 1 0

theorem eddsaOut_withheld (h : pointGood (slotCurve s id) (edPoint s id) = false) : eddsaOut s id = releaseFail s id :=
  if_neg (ne_true_of_eq_false h)

/-! ### XDH (07 R293, R297) -/

/-- The shared u of a job as octets. -/
def xdhShared (s : State) (id : Nat) : Bytes :=
  let cn := slotCurve s id
  let f := (curveOf cn).fb
  fit f (Config.xdh cn ((jobSlot s (s.job id)).material.take f) (toLE f (readU cn (s.job id).opb).2))

/-- A shared u released where it is of the curve and not the identity's. -/
def xdhOut (s : State) (id cn : Nat) (z : Bytes) : State := if uGood cn z then passJob s id z 1 0 else releaseFail s id

theorem xdhOut_outcome {t : State} (hd : Writes drawWrites s t) (id cn : Nat) (z : Bytes) :
    if uGood cn z = true then Ended s (xdhOut t id cn z) id 0 z 1 else xdhOut t id cn z = releaseFail t id := by
  unfold xdhOut
  split
  · exact passJob_ended hd id z 1 0
  · rfl

theorem exec_xdh_invalid (hs : OnSquads s id 0x0306) (h : (readU (slotCurve s id) (s.job id).opb).1 ≠ 0) :
    exec (.xdh id) s = .next (failValid s id (readU (slotCurve s id) (s.job id).opb).1) :=
  (onSquad_eq hs _).trans (congrArg _ (if_pos h))

theorem exec_xdh_valid (hs : OnSquads s id 0x0306) (h : (readU (slotCurve s id) (s.job id).opb).1 = 0) :
    exec (.xdh id) s = .next (xdhOut (blindDrawn s id) id (slotCurve s id) (xdhShared s id)) :=
  (onSquad_eq hs _).trans (congrArg _ (if_neg (not_not.mpr h)))

end

/-! ### The obligation -/

/-- Settles O23: each clause is one outcome of its command; what is drawn is drawn before. -/
theorem curveOperations : Obligations.CurveOperations := by
  unfold Obligations.CurveOperations
  refine ⟨?ecdsaSign, ?ecdsaVerify, ?ecdh, ?eddsaSign, ?eddsaVerify, ?xdh⟩
  case ecdsaSign =>
    exact fun s id hs => ⟨_, exec_ecdsaSign hs, ecdsaOut_outcome s id⟩
  case ecdsaVerify =>
    intro s id hs j cn q n h pt r g w x
    have hbad : decide (1 ≤ r ∧ r < n ∧ 1 ≤ g ∧ g < n) = false ↔ r = 0 ∨ n ≤ r ∨ g = 0 ∨ n ≤ g := by
      rw [decide_eq_false_iff_not]
      omega
    have hexec : exec (.ecdsaVerify id) s = .next (verified s id j.d.hostKey pt.1 (decide (1 ≤ r ∧ r < n ∧ 1 ≤ g ∧ g < n))
      (verdict (if x.map (fun p => p.1 % n) = some r then 0 else 1))) := onSquad_eq hs _
    exact ⟨_, hexec, verified_outcome s id _ (readPoint_counted cn _) hbad⟩
  case ecdh =>
    intro s id hs j cn pt z
    by_cases hpt : pt.1 = 0
    case neg =>
      exact ⟨_, exec_ecdh_invalid hs hpt, fun _ => failValid_invalid s id _ (readPoint_counted cn j.opb),
        fun _ h0 => absurd h0 hpt, fun h0 => absurd h0 hpt⟩
    case pos =>
      exact ⟨_, exec_ecdh_valid hs hpt, fun h0 => absurd hpt h0,
        fun p _ hz hp => ecdhOut_released (rngDraw_draws s 0 _) hz hp, fun _ hz => ecdhOut_withheld (pointGood_off hz)⟩
  case eddsaSign =>
    exact fun s id hs => ⟨_, exec_eddsaSign hs, fun p hz hp => eddsaOut_released (pointGood_some hz hp),
      fun hz => eddsaOut_withheld (pointGood_off hz)⟩
  case eddsaVerify =>
    intro s id hs j cn n pk a rb sc k
    have hbad : decide (sc < Config.orderN cn) = false ↔ Config.orderN cn ≤ sc := by
      rw [decide_eq_false_iff_not, Nat.not_lt]
    have hexec : exec (.eddsaVerify id) s = .next (verified s id j.d.hostKey a.1 (decide (sc < Config.orderN cn))
      (verdict (if edCheck cn sc k a.2 = rb then 0 else 1))) := onSquad_eq hs _
    exact ⟨_, hexec, verified_outcome s id _ (readEdPoint_counted cn pk) hbad⟩
  case xdh =>
    intro s id hs j k cn f u z
    by_cases hu : u.1 = 0
    case neg => exact ⟨_, exec_xdh_invalid hs hu, (if_pos hu).mpr (failValid_invalid s id _ (readU_counted cn j.opb))⟩
    case pos =>
      exact ⟨_, exec_xdh_valid hs hu, (if_neg (not_not.mpr hu)).mpr (xdhOut_outcome (rngDraw_draws s 0 _) id cn z)⟩

end Sys2Proof.Machine
end

section
/-! PROOF. Lattice operations (08 R320 to R333) and the key generations on a squad (07 R299 to R302, 08 R325, R328; 09 R351 to R353): a job
whose random bits are drawn and whose squeezes and attempts are counted has its outcome, or makes its key, as from the state before. -/

namespace Sys2Proof.Machine

open Sys2Proof

/-! ### Draws and counts before an outcome (08 R330, R337; 12 R476) -/

/-- The fields that an operation writes before its outcome: those of its draws, and the counters of the Glossary. -/
abbrev countWrites : Nat := 1075838978

theorem rngDraw_counts (s : State) (p n : Nat) : Writes countWrites s (rngDraw s p n).2 := (rngDraw_draws s p n).mono (by decide)

section

variable {s t : State} {id : Nat}

theorem rngDraw_counts_after (h : Writes countWrites s t) (p n : Nat) : Writes countWrites s (rngDraw t p n).2 :=
  Writes.step (rngDraw_counts t p n) (by decide) h

theorem countExtra_counts (h : Writes countWrites s t) (op ps : Nat) (input : Bytes) :
    Writes countWrites s (countExtra t op ps input) := countExtra_writes h (by decide)

theorem countAttempts_counts (h : Writes countWrites s t) (n : Nat) : Writes countWrites s (countAttempts t n) :=
  countAttempts_writes h (by decide)

theorem passJob_ended_counted (h : Writes countWrites s t) (id : Nat) (out : Bytes) (tc b : Nat) :
    Ended s (passJob t id out tc b) id 0 out tc := (passJob_passed t id out tc b).1.of_jobs (h.jobs (by decide))

theorem finish_ended_counted (h : Writes countWrites s t) (id st : Nat) (out : Bytes) (tc : Nat) :
    Ended s (finish t id st out tc) id st out tc := finish_ended_of_jobs (h.jobs (by decide)) id st out tc

/-! ### ML-KEM on a slot's or a host's key (08 R320, R324) -/

/-- The octets m of an encapsulation drawn, and its squeezes counted. -/
def encapsCounted (s : State) (id : Nat) : State :=
  countExtra (rngDraw s 0 32).2 0x0401 (jobPset s (s.job id).d) (jobPub s (s.job id) ++ (rngDraw s 0 32).1)

theorem encapsCounted_counts (s : State) (id : Nat) : Writes countWrites s (encapsCounted s id) :=
  countExtra_counts (rngDraw_counts s 0 32) _ _ _

/-- A slot's key has passed check 4 when it was made; a host's key passes it now. -/
theorem exec_mlkemEncaps_passed (hs : OnSquads s id 0x0401)
    (h : (s.job id).d.hostKey = false ∨ ekOk (psetOf (jobPset s (s.job id).d)) (jobPub s (s.job id)) = true) :
    exec (.mlkemEncaps id) s = .next (passJob (encapsCounted s id) id
      (kemEncaps (jobPset s (s.job id).d) (jobPub s (s.job id)) (rngDraw s 0 32).1) 1 0) := by
  refine (onSquad_eq hs _).trans (congrArg _ (if_neg ?_))
  rcases h with hslot | hok
  · simp [hslot]
  · simp [hok]

theorem exec_mlkemEncaps_range (hs : OnSquads s id 0x0401) (hhost : (s.job id).d.hostKey = true)
    (hek : ekOk (psetOf (jobPset s (s.job id).d)) (jobPub s (s.job id)) = false) :
    exec (.mlkemEncaps id) s = .next (failValid s id 0x1010) :=
  (onSquad_eq hs _).trans (congrArg _ (if_pos (by simp [hhost, hek])))

/-- The squeezes of a decapsulation counted. -/
def decapsCounted (s : State) (id : Nat) : State :=
  countExtra s 0x0402 (jobPset s (s.job id).d) ((jobSlot s (s.job id)).material ++ (s.job id).opa)

theorem exec_mlkemDecaps (hs : OnSquads s id 0x0402) :
    exec (.mlkemDecaps id) s = .next (passJob (decapsCounted s id) id
      (kemDecaps (jobPset s (s.job id).d) (jobSlot s (s.job id)).material (s.job id).opa) 1 0) := onSquad_eq hs _

/-! ### ML-DSA signatures (08 R322, R323, R331 to R333) -/

/-- rnd of a signature, zeros where it is deterministic, and the state once it is drawn (08 R323). -/
def dsaRnd (s : State) (id : Nat) : Bytes × State := if bit (s.job id).d.param 30 then (zeros 32, s) else rngDraw s 0 32

theorem dsaRnd_fst (s : State) (id : Nat) :
    (dsaRnd s id).1 = if bit (s.job id).d.param 30 then zeros 32 else (rngDraw s 0 32).1 := apply_ite Prod.fst _ _ _

theorem dsaRnd_counts (s : State) (id : Nat) : Writes countWrites s (dsaRnd s id).2 := by
  unfold dsaRnd
  split
  · exact Writes.refl _ s
  · exact rngDraw_counts s 0 32

/-- A job's signature under `rnd`, and the attempts that it took. -/
def dsaJob (s : State) (id : Nat) (rnd : Bytes) : Bytes × Nat :=
  let j := s.job id
  Config.mldsaJob (jobPset s j.d) j.d.hash (dsaSecret (jobSlot s j)) (j.opa.take j.d.salt) (j.opa.drop j.d.salt) rnd

/-- The octets of a job's signature. -/
def dsaSig (s : State) (id : Nat) (rnd : Bytes) : Bytes := fit (psetOf (jobPset s (s.job id).d)).ct (dsaJob s id rnd).1

/-- REASON of a job's own signature. -/
def dsaSigReason (s : State) (id : Nat) (rnd : Bytes) : Nat :=
  let j := s.job id
  dsaReason (jobPset s j.d) j.d.hash (latticePub (jobSlot s j)) (j.opa.take j.d.salt) (j.opa.drop j.d.salt) (dsaSig s id rnd)

/-- The squeezes and the attempts of a signature counted. -/
def signCounted (s : State) (id : Nat) : State :=
  let j := s.job id
  let rnd := (dsaRnd s id).1
  countAttempts (countExtra (dsaRnd s id).2 0x0410 (jobPset s j.d) (toLE 1 j.d.hash ++ dsaSecret (jobSlot s j) ++ rnd ++
    toLE 1 j.d.salt ++ j.opa.take j.d.salt ++ j.opa.drop j.d.salt)) (dsaJob s id rnd).2

theorem signCounted_counts (s : State) (id : Nat) : Writes countWrites s (signCounted s id) :=
  countAttempts_counts (countExtra_counts (dsaRnd_counts s id) _ _ _) _

/-- A signature after its attempts: too many end the job, and one that does not verify is withheld. -/
def signOut (s : State) (id : Nat) (rnd : Bytes) : State :=
  if 814 < (dsaJob s id rnd).2 then finish (signCounted s id) id 0x5010 [] 6
  else if dsaSigReason s id rnd = 0 then passJob (signCounted s id) id (dsaSig s id rnd) 5 0
  else releaseFail (signCounted s id) id

theorem exec_mldsaSign (hs : OnSquads s id 0x0410) : exec (.mldsaSign id) s = .next (signOut s id (dsaRnd s id).1) := onSquad_eq hs _

theorem signOut_attempts {rnd : Bytes} (h : 814 < (dsaJob s id rnd).2) : Ended s (signOut s id rnd) id 0x5010 [] 6 := by
  rw [signOut, if_pos h]
  exact finish_ended_counted (signCounted_counts s id) id _ _ _

theorem signOut_released {rnd : Bytes} (h : (dsaJob s id rnd).2 ≤ 814) (hok : dsaSigReason s id rnd = 0) :
    Ended s (signOut s id rnd) id 0 (dsaSig s id rnd) 5 := by
  rw [signOut, if_neg (Nat.not_lt.mpr h), if_pos hok]
  exact passJob_ended_counted (signCounted_counts s id) id _ _ _

/-- The squeezes of a verification counted. -/
def verifyCounted (s : State) (id : Nat) : State :=
  let j := s.job id
  countExtra s 0x0411 (jobPset s j.d) (toLE 1 j.d.hash ++ jobPub s j ++ j.opa)

theorem exec_mldsaVerify (hs : OnSquads s id 0x0411) :
    let j := s.job id
    let n := (psetOf (jobPset s j.d)).ct
    exec (.mldsaVerify id) s = .next (passJob (verifyCounted s id) id
      (verdict (dsaReason (jobPset s j.d) j.d.hash (jobPub s j) ((j.opa.drop n).take j.d.salt) ((j.opa.drop n).drop j.d.salt)
        (j.opa.take n))) 1 0) := onSquad_eq hs _

/-! ### Checks of a new key (09 R351, R352, R368) -/

theorem runKeygen_unserved (h : keysServed s = false) (id cls : Nat) (f : Attr → State) :
    runKeygen s id cls f = finish s id 0x4010 [] 6 := if_pos (by rw [h]; rfl)

theorem runKeygen_ready {cls : Nat} (hc : (parseAttr (s.job id).opa).cls = 0) (hr : KeyReady s id cls) (f : Attr → State) :
    runKeygen s id cls f = f (parseAttr (s.job id).opa) := by
  obtain ⟨hserved, hrsvd, hattr, halloc⟩ := hr
  simp [runKeygen, hserved, hrsvd, hc, hattr, halloc]

/-- The four key generations differ in the class, and in how a key of it is made. -/
theorem keygen_runKeygen {op : Nat} {c : Instr} (h : (c = .rsaKeygen id ∧ op = 0x0220) ∨ (c = .ecKeygen id ∧ op = 0x0320) ∨
    (c = .mlkemKeygen id ∧ op = 0x0420) ∨ (c = .mldsaKeygen id ∧ op = 0x0421)) :
    ∃ (cls : State → Nat) (f : State → Attr → State), ∀ s, exec c s = onSquad s id op (fun s => runKeygen s id (cls s) (f s)) := by
  rcases h with ⟨rfl, rfl⟩ | ⟨rfl, rfl⟩ | ⟨rfl, rfl⟩ | ⟨rfl, rfl⟩ <;> exact ⟨_, _, fun _ => rfl⟩

/-- A key made after draws and counts is made from the state before them. -/
theorem createKey_counted {cls kb tc lane : Nat} {mat pub out : Bytes} {c : Instr} (h : Writes countWrites s t) (hr : KeyReady s id cls)
    (hexec : exec c s = .next (createKey t id (attrSlot (parseAttr (s.job id).opa) cls (s.job id).part mat kb pub) (fun _ => out) tc lane)) :
    ∃ t i, exec c s = .next t ∧ KeyMade s t id i cls mat out tc := by
  obtain ⟨-, -, -, halloc⟩ := hr
  obtain ⟨i, hmade⟩ := createKey_made (h.jobs (by decide)) (h.keys (by decide)) id cls mat pub kb out tc lane halloc
  exact ⟨_, i, hexec, hmade⟩

/-! ### RSA keys (07 R299 to R301) -/

/-- The batch that p is looked for in. -/
def batchP (s : State) (id : Nat) : Bytes × State := rngDraw s 0 (batchBytes (primeBits (s.job id).d.salt))

/-- The batch that q is looked for in. -/
def batchQ (s : State) (id : Nat) : Bytes × State := rngDraw (batchP s id).2 0 (batchBytes (primeBits (s.job id).d.salt))

/-- The octets of the pairing check. -/
def rsaCheckDraw (s : State) (id : Nat) : Bytes × State := rngDraw (batchQ s id).2 0 (8 * (s.job id).d.salt)

theorem rsaCheckDraw_draws (s : State) (id : Nat) : Writes drawWrites s (rsaCheckDraw s id).2 :=
  Writes.step (rngDraw_draws _ 0 _) (by decide) (Writes.step (rngDraw_draws _ 0 _) (by decide) (rngDraw_draws s 0 _))

/-- The prime p that the first batch gives. -/
def rsaP (s : State) (id : Nat) : Option Nat := tryBatch (primeBits (s.job id).d.salt) 65537 none (batchP s id).1

/-- The prime q that the second batch gives beside p. -/
def rsaQ (s : State) (id p : Nat) : Option Nat := tryBatch (primeBits (s.job id).d.salt) 65537 (some p) (batchQ s id).1

/-- A key of two primes: it is made when it passes its check before release. -/
def rsaPairOut (s : State) (id p q : Nat) : State :=
  let j := s.job id
  let kn := 8 * j.d.salt
  let k := rsaFrom kn 65537 p q
  let pub := toBE 8 65537 ++ toBE kn (p * q)
  if rsaKeyOk k (leNat (rsaCheckDraw s id).1 % k.pub.n) then
    createKey (rsaCheckDraw s id).2 id (attrSlot (parseAttr j.opa) 0x01 j.part (rsaMaterial k) kn pub) (fun _ => pub) 1
      (32 * runCycles (rsaKeygenRuns j.d.salt (2 + j.batches)))
  else releaseFail (rsaCheckDraw s id).2 id

/-- An RSA key generation from the primes of its batches: a batch without one is drawn again. -/
def rsaKeygenOut (s : State) (id : Nat) (p : Option Nat) (q : Nat → Option Nat) : State :=
  match p with
  | none => rebatch (rsaCheckDraw s id).2 id
  | some p =>
    match q p with
    | none => rebatch (rsaCheckDraw s id).2 id
    | some q => rsaPairOut s id p q

theorem exec_rsaKeygen (hs : OnSquads s id 0x0220) (hc : (parseAttr (s.job id).opa).cls = 0) (hr : KeyReady s id 0x01) :
    exec (.rsaKeygen id) s = .next (rsaKeygenOut s id (rsaP s id) (rsaQ s id)) :=
  (onSquad_eq hs _).trans (congrArg _ (runKeygen_ready hc hr _))

theorem rsaKeygenOut_rebatch {q : Nat → Option Nat} {p : Option Nat} (hp : p = none) :
    rsaKeygenOut s id p q = rebatch (rsaCheckDraw s id).2 id := by
  rw [hp, rsaKeygenOut]

theorem rsaKeygenOut_pair {p : Option Nat} {q : Nat → Option Nat} {x y : Nat} (hp : p = some x) (hq : q x = some y) :
    rsaKeygenOut s id p q = rsaPairOut s id x y := by
  rw [hp]
  simp only [rsaKeygenOut, hq]

/-- A rebatch counts in the job and in the Glossary, and makes no key. -/
theorem rebatch_counted (h : Writes drawWrites s t) (id : Nat) :
    (rebatch t id).job id = { s.job id with batches := (s.job id).batches + 1 } ∧ (rebatch t id).keys = s.keys ∧
      (rebatch t id).gv gPkKeygenRebatch = (s.gv gPkKeygenRebatch + 1) % 2 ^ 64 := by
  have hjob : (t.bump gPkKeygenRebatch).job id = s.job id := State.job_congr (h.jobs (by decide)) id
  have hgv : t.gv gPkKeygenRebatch = s.gv gPkKeygenRebatch := by
    rw [State.gv, State.gvs, h.gls (by decide)]
    rfl
  refine ⟨by rw [rebatch, State.job_withJob, hjob], h.keys (by decide), ?_⟩
  calc (rebatch t id).gv gPkKeygenRebatch = (t.bump gPkKeygenRebatch).gv gPkKeygenRebatch := rfl
    _ = (s.gv gPkKeygenRebatch + 1) % 2 ^ 64 := by rw [State.gv_bump, hgv]

/-! ### Elliptic-curve keys (07 R302) -/

/-- The octets that a new key of a job's curve is made of. -/
def ecDraw (s : State) (id : Nat) : Bytes × State :=
  let cn := (s.job id).d.curve
  rngDraw s 0 (if cn ≤ 6 then (curveOf cn).qb + 8 else (curveOf cn).fb)

theorem exec_ecKeygen_made (hs : OnSquads s id 0x0320) (hc : (parseAttr (s.job id).opa).cls = 0)
    (hr : KeyReady s id (curveCls (s.job id).d.curve))
    (hok : ecKeyOk (s.job id).d.curve (ecPair (s.job id).d.curve (ecDraw s id).1).1 (ecPair (s.job id).d.curve (ecDraw s id).1).2 = true) :
    let j := s.job id
    let cn := j.d.curve
    let k := ecPair cn (ecDraw s id).1
    exec (.ecKeygen id) s = .next (createKey (ecDraw s id).2 id
      (attrSlot (parseAttr j.opa) (curveCls cn) j.part (k.1 ++ k.2) (curveOf cn).fb k.2) (fun _ => k.2) 1 (32 * jobCycles s j.d 0)) :=
  (onSquad_eq hs _).trans (congrArg _ ((runKeygen_ready hc hr _).trans (if_pos hok)))

/-! ### Lattice keys (08 R325, R328, R332, R333) -/

/-- The octets of the encapsulation that checks a new ML-KEM key, drawn after those of the key. -/
def kemCheckDraw (s : State) : Bytes × State := rngDraw (rngDraw s 0 64).2 0 32

/-- The squeezes of an ML-KEM key generation counted. -/
def kemKeygenCounted (s : State) (id : Nat) : State :=
  countExtra (kemCheckDraw s).2 0x0420 (s.job id).d.curve ((rngDraw s 0 64).1 ++ (kemCheckDraw s).1)

theorem kemKeygenCounted_counts (s : State) (id : Nat) : Writes countWrites s (kemKeygenCounted s id) :=
  countExtra_counts (rngDraw_counts_after (rngDraw_counts s 0 64) 0 32) _ _ _

theorem exec_mlkemKeygen_made (hs : OnSquads s id 0x0420) (hc : (parseAttr (s.job id).opa).cls = 0)
    (hr : KeyReady s id (0x50 + (s.job id).d.curve))
    (hok : kemKeyOk (s.job id).d.curve (kemKeygen (s.job id).d.curve (rngDraw s 0 64).1).1
      (kemKeygen (s.job id).d.curve (rngDraw s 0 64).1).2 (kemCheckDraw s).1 = true) :
    let j := s.job id
    let ps := j.d.curve
    let k := kemKeygen ps (rngDraw s 0 64).1
    exec (.mlkemKeygen id) s = .next (createKey (kemKeygenCounted s id) id
      (attrSlot (parseAttr j.opa) (0x50 + ps) j.part k.2 (psetOf ps).pk k.1) (fun _ => k.1) 1 (32 * jobCycles s j.d 0)) :=
  (onSquad_eq hs _).trans (congrArg _ ((runKeygen_ready hc hr _).trans (if_pos hok)))

/-- A job's new ML-DSA key: its public and its secret key. -/
def dsaPair (s : State) (id : Nat) : Bytes × Bytes :=
  let ps := (s.job id).d.curve
  let k := Config.mldsaKeygen ps (rngDraw s 0 32).1
  (fit (psetOf ps).pk k.1, fit (dsaSkLen ps) k.2)

/-- The attempts of the signature that checks a job's new key. -/
def dsaCheckAttempts (s : State) (id : Nat) : Nat := (dsaCheckSig (s.job id).d.curve (dsaPair s id).2).2

/-- The squeezes and the attempts of an ML-DSA key generation counted. -/
def dsaKeygenCounted (s : State) (id : Nat) : State :=
  countAttempts (countExtra (rngDraw s 0 32).2 0x0421 (s.job id).d.curve (rngDraw s 0 32).1) (dsaCheckAttempts s id)

theorem dsaKeygenCounted_counts (s : State) (id : Nat) : Writes countWrites s (dsaKeygenCounted s id) :=
  countAttempts_counts (countExtra_counts (rngDraw_counts s 0 32) _ _ _) _

theorem exec_mldsaKeygen_attempts (hs : OnSquads s id 0x0421) (hc : (parseAttr (s.job id).opa).cls = 0)
    (hr : KeyReady s id (0x50 + (s.job id).d.curve)) (hn : 814 < dsaCheckAttempts s id) :
    exec (.mldsaKeygen id) s = .next (finish (dsaKeygenCounted s id) id 0x5010 [] 6) :=
  (onSquad_eq hs _).trans (congrArg _ ((runKeygen_ready hc hr _).trans (if_pos hn)))

theorem exec_mldsaKeygen_made (hs : OnSquads s id 0x0421) (hc : (parseAttr (s.job id).opa).cls = 0)
    (hr : KeyReady s id (0x50 + (s.job id).d.curve)) (hn : dsaCheckAttempts s id ≤ 814)
    (hok : dsaKeyOk (s.job id).d.curve (dsaPair s id).1 (dsaPair s id).2 = true) :
    let j := s.job id
    let ps := j.d.curve
    let k := dsaPair s id
    exec (.mldsaKeygen id) s = .next (createKey (dsaKeygenCounted s id) id
      (attrSlot (parseAttr j.opa) (0x50 + ps) j.part (k.2 ++ k.1) (psetOf ps).pk k.1) (fun _ => k.1) 5 (32 * jobCycles s j.d 0)) :=
  (onSquad_eq hs _).trans (congrArg _ ((runKeygen_ready hc hr _).trans ((if_neg (Nat.not_lt.mpr hn)).trans (if_pos hok))))

end

/-! ### The obligation -/

/-- Settles O24: each clause is one outcome of its command, from a state that differs from the one before in draws and counts alone. -/
theorem latticeOperationsAndKeyGenerations : Obligations.LatticeOperationsAndKeyGenerations := by
  unfold Obligations.LatticeOperationsAndKeyGenerations
  refine ⟨?encaps, ?decaps, ?sign, ?verify, ?unserved, ?rsa, ?ec, ?kem, ?dsa⟩
  case encaps =>
    exact fun s id hs => ⟨fun h => ⟨_, exec_mlkemEncaps_passed hs h, passJob_ended_counted (encapsCounted_counts s id) id _ _ _⟩,
      fun hhost hek => ⟨_, exec_mlkemEncaps_range hs hhost hek, failValid_invalid s id _ rfl⟩⟩
  case decaps =>
    exact fun s id hs => ⟨_, exec_mlkemDecaps hs, passJob_ended_counted (countExtra_counts (Writes.refl _ s) _ _ _) id _ _ _⟩
  case sign =>
    intro s id hs j ps k rnd r sig
    have hrnd : (dsaRnd s id).1 = rnd := dsaRnd_fst s id
    exact ⟨_, hrnd ▸ exec_mldsaSign hs, signOut_attempts, signOut_released⟩
  case verify =>
    exact fun s id hs => ⟨_, exec_mldsaVerify hs, passJob_ended_counted (countExtra_counts (Writes.refl _ s) _ _ _) id _ _ _⟩
  case unserved =>
    intro s id op c hs hserved hc
    obtain ⟨cls, f, hexec⟩ := keygen_runKeygen hc
    exact ⟨_, (hexec s).trans ((onSquad_eq hs _).trans (congrArg _ (runKeygen_unserved hserved id _ _))), finish_ended s id _ _ _⟩
  case rsa =>
    intro s id p q hs hc hr j b u v x k
    have hexec := exec_rsaKeygen hs hc hr
    have hd := rsaCheckDraw_draws s id
    constructor
    · intro hp
      obtain ⟨hjob, hkeys, hcount⟩ := rebatch_counted hd id
      obtain ⟨-, -, hrunning, -, -⟩ := hs
      exact ⟨_, hexec.trans (congrArg _ (rsaKeygenOut_rebatch hp)), congrArg Job.batches hjob,
        (congrArg Job.phase hjob).trans hrunning, hkeys, hcount⟩
    · intro hp hq hok
      exact createKey_counted (hd.mono (by decide)) hr
        (hexec.trans (congrArg _ ((rsaKeygenOut_pair hp hq).trans (if_pos hok))))
  case ec =>
    intro s id hs hc hr cn k hok
    exact createKey_counted (rngDraw_counts s 0 _) hr (exec_ecKeygen_made hs hc hr hok)
  case kem =>
    intro s id hs hc hr ps d k hok
    exact createKey_counted (kemKeygenCounted_counts s id) hr (exec_mlkemKeygen_made hs hc hr hok)
  case dsa =>
    intro s id hs hc hr ps k pk sk
    exact ⟨fun hn => ⟨_, exec_mldsaKeygen_attempts hs hc hr hn, finish_ended_counted (dsaKeygenCounted_counts s id) id _ _ _⟩,
      fun hn hok => createKey_counted (dsaKeygenCounted_counts s id) hr (exec_mldsaKeygen_made hs hc hr hn hok)⟩

end Sys2Proof.Machine
end

section
/-! PROOF. The rules of the key store's shared operations (09 R346, R348, R355 to R358): what a key load answers and leaves, what a damaged
slot becomes, and what a queued commit adds. -/

namespace Sys2Proof.Machine

open Sys2Proof

/-! ### What the tests of a key load depend on -/

/-- Key store, tamper registers and mode are the same: all that a handle's check reads beside the job. -/
def SameStore (s t : State) : Prop := t.keys = s.keys ∧ t.tamper = s.tamper ∧ t.mode = s.mode

section

variable {s t : State}

theorem SameStore.kslot (h : SameStore s t) (i : Nat) : t.kslot i = s.kslot i := State.kslot_congr h.1 i

theorem keysServed_congr (ht : t.tamper = s.tamper) (hm : t.mode = s.mode) : keysServed t = keysServed s := by
  simp only [keysServed, ht, State.modeNum_congr (congrArg ModeSt.code hm)]

theorem SameStore.keysServed (h : SameStore s t) : keysServed t = keysServed s := keysServed_congr h.2.1 h.2.2

theorem SameStore.entryBad (h : SameStore s t) (i : Nat) : entryBad t i = entryBad s i := by
  simp only [Machine.entryBad, h.kslot, State.genOf, h.1]

theorem SameStore.handleCheck (h : SameStore s t) (p handle : Nat) : handleCheck t p handle = handleCheck s p handle := by
  simp only [Machine.handleCheck, h.kslot]

theorem SameStore.loadCheck (h : SameStore s t) (p handle : Nat) (destroys : Bool) :
    loadCheck t p handle destroys = loadCheck s p handle destroys := by
  simp only [Machine.loadCheck, h.handleCheck, h.kslot, h.keysServed, h.1]

end

/-! ### Leaving staging for the key store engine (04 R146) -/

theorem toEngine_leaves (s : State) (id : Nat) : Writes 5632 s (toEngine s id) := toEngine_writes (Writes.refl _ s) (by decide)

theorem toEngine_keys (s : State) (id : Nat) : (toEngine s id).keys = s.keys := (toEngine_leaves s id).keys (by decide)

theorem toEngine_sameStore (s : State) (id : Nat) : SameStore s (toEngine s id) :=
  ⟨toEngine_keys s id, (toEngine_leaves s id).tamper (by decide), (toEngine_leaves s id).mode (by decide)⟩

theorem toEngine_now (s : State) (id : Nat) : (toEngine s id).now = s.now := by
  simp only [State.now, (toEngine_leaves s id).clock (by decide)]

/-- What leaving staging keeps of the job. -/
theorem toEngine_job_self (s : State) (id : Nat) : (toEngine s id).job id = { s.job id with slot := none } := by
  rw [toEngine_job, if_pos rfl]

theorem toEngine_part (s : State) (id : Nat) : ((toEngine s id).job id).part = (s.job id).part := by rw [toEngine_job_self]

theorem toEngine_job_other (s : State) {id k : Nat} (h : k ≠ id) : (toEngine s id).job k = s.job k := by
  rw [toEngine_job, if_neg h]

/-! ### Ends of jobs -/

/-- An end in a state with the same other jobs is an end. -/
theorem Ended.of_others {s t u : State} {id st tc : Nat} {out : Bytes} (h : Ended t u id st out tc) (hj : ∀ k, k ≠ id → t.job k = s.job k) :
    Ended s u id st out tc :=
  ⟨h.1, fun k hk => (h.2 k hk).trans (hj k hk)⟩

theorem finish_kslot (s : State) (id st : Nat) (out : Bytes) (tc i : Nat) (h : st < 0x5000) :
    (finish s id st out tc).kslot i = s.kslot i := State.kslot_congr (finish_keys s id st out tc h) i

/-- A job that leaves staging and ends at once. -/
theorem finish_toEngine_ended (s : State) (id st : Nat) (out : Bytes) (tc : Nat) :
    Ended s (finish (toEngine s id) id st out tc) id st out tc :=
  (finish_ended (toEngine s id) id st out tc).of_others fun _ hk => toEngine_job_other s hk

/-! ### Entries that fail their check (09 R348, R364) -/

/-- A slot DAMAGED: it leaves the cache; no other slot changes. -/
theorem damageSlot_kslot (s : State) (i cause k : Nat) :
    (damageSlot s i cause).kslot k = if k = i then { s.kslot i with state := 4, cached := false } else s.kslot k :=
  State.withSlot_kslot s i k _

theorem damageSlot_jobs (s : State) (i cause : Nat) : (damageSlot s i cause).jobs = s.jobs := rfl

theorem checkEntry_sound {s : State} {i : Nat} (h : entryBad s i = false) : checkEntry s i = s := by
  simp [checkEntry, h]

/-- An entry that fails its check: DAMAGED, with INDEX and GEN as its position and its cell have them. -/
theorem checkEntry_bad_kslot {s : State} {i : Nat} (h : entryBad s i = true) (k : Nat) :
    (checkEntry s i).kslot k =
      if k = i then { s.kslot i with state := 4, cached := false, index := i, gen := s.genOf i } else s.kslot k := by
  rw [checkEntry, if_pos h, State.withSlot_kslot, damageSlot_kslot, damageSlot_kslot, if_pos rfl]
  by_cases hk : k = i <;> simp [hk]

/-- A check of an entry touches the key store and the recorder alone. -/
theorem checkEntry_checks (s : State) (i : Nat) : Writes 1048608 s (checkEntry s i) := by
  unfold checkEntry
  exact Writes.ite (State.withSlot_writes (damageSlot_writes (Writes.refl _ s) (by decide)) (by decide)) (Writes.refl _ s)

/-! ### What a key load leaves (09 R358) -/

theorem loadKey_kslot (s : State) (id i : Nat) (use : Bool) (k : Nat) :
    (loadKey s id i use).kslot k = if k = i then { s.kslot i with
      loadedAt := s.now, count := if use then (s.kslot i).count + 1 else (s.kslot i).count } else s.kslot k := by
  have hslot : ∀ (f : Job → Job) (k : Nat), (s.withJob id f).kslot k = s.kslot k := fun _ _ => rfl
  cases use <;> by_cases hk : k = i <;> simp [loadKey, State.withSlot_kslot, hk, hslot]

theorem loadKey_job (s : State) (id i : Nat) (use : Bool) (k : Nat) :
    (loadKey s id i use).job k = if k = id then { s.job id with
      keys := addUnique i (s.job id).keys, uses := if use then (s.job id).uses ++ [i] else (s.job id).uses } else s.job k := by
  have hjobs : (loadKey s id i use).jobs = (s.withJob id (fun j => { j with
      keys := addUnique i j.keys, uses := if use then j.uses ++ [i] else j.uses })).jobs := by cases use <;> rfl
  rw [State.job_congr hjobs, State.withJob_job]

/-- Beside the slots, a key load leaves the key store as it is. -/
theorem loadKey_keys (s : State) (id i : Nat) (use : Bool) :
    (loadKey s id i use).keys = { s.keys with slots := (loadKey s id i use).keys.slots } := by cases use <;> rfl

theorem loadKey_job_other (s : State) {id k : Nat} (i : Nat) (use : Bool) (h : k ≠ id) : (loadKey s id i use).job k = s.job k := by
  rw [loadKey_job, if_neg h]

/-! ### Outcomes of a key load (09 R346, R358) -/

section

variable {s : State} {id handle : Nat} {a : LoadAsk}

/-- A slot that passes the check at key load is ACTIVE, but for what KEY_DESTROY may take. -/
theorem loadCheck_active {p : Nat} (h : loadCheck s p handle false = 0) : (s.kslot (handle % 2097152)).state = 2 := by
  simp only [loadCheck, Bool.false_eq_true, and_false, if_false] at h
  grind

/-- The check of a handle at key load answers a status of 09 Table 9. -/
theorem loadCheck_lt (p : Nat) (destroys : Bool) : loadCheck s p handle destroys < 0x5000 := by
  unfold loadCheck handleCheck
  grind

theorem tryLoad_refused {c : Nat} (hh : s.tamper.holdUntil = none)
    (hc : loadCheck (checkEntry s (handle % 2097152)) (s.job id).part handle a.destroys = c) (h0 : c ≠ 0) :
    tryLoad s id handle a = (c, checkEntry s (handle % 2097152)) := by
  have hjob : (checkEntry s (handle % 2097152)).job id = s.job id := State.job_congr ((checkEntry_checks s _).jobs (by decide)) id
  simp [tryLoad, hh, hjob, hc, h0]

/-- The key's material is at hand: in the cache, where VOLATILE material always is (09 R354, R364). -/
def AtHand (k : KSlot) : Prop := k.vol = true ∨ k.cached = true

theorem AtHand.not_missing {k : KSlot} (h : AtHand k) : (!k.vol && !k.cached) = false := by
  rcases h with h | h <;> simp [h]

theorem classCheck_unasked (k : KSlot) (ha : a.classes = []) (hu : a.usage = 0) : classCheck k a = 0 := by
  simp [classCheck, ha, hu]

/-- Neither KEY_INFO nor KEY_RESTRICT nor KEY_DESTROY counts a use (09 R358); KEY_DESTROY loads a DAMAGED slot without its material
(R346). -/
theorem tryLoad_uncounted (hh : s.tamper.holdUntil = none) (hs : entryBad s (handle % 2097152) = false)
    (hc : loadCheck s (s.job id).part handle a.destroys = 0)
    (hm : (s.kslot (handle % 2097152)).state = 4 ∨ AtHand (s.kslot (handle % 2097152)))
    (ha : a.classes = []) (hu : a.usage = 0) (hn : a.use = false) :
    tryLoad s id handle a = (0, loadKey s id (handle % 2097152) false) := by
  by_cases h4 : (s.kslot (handle % 2097152)).state = 4
  · simp [tryLoad, hh, checkEntry_sound hs, hc, h4]
  · have hm := (hm.resolve_left h4).not_missing
    simp [tryLoad, hh, checkEntry_sound hs, hc, h4, hm, classCheck_unasked _ ha hu, hn]

section

variable (hh : s.tamper.holdUntil = none) (hs : entryBad s (handle % 2097152) = false)
  (hc : loadCheck s (s.job id).part handle false = 0) (hm : AtHand (s.kslot (handle % 2097152)))

include hh hs hc hm

/-- A load beyond the limit counts no use (09 R358). -/
theorem tryLoad_limit (hl : (s.kslot (handle % 2097152)).limited = true)
    (hn : (s.kslot (handle % 2097152)).limit ≤ (s.kslot (handle % 2097152)).count) : tryLoad s id handle {} = (0x4003, s) := by
  simp [tryLoad, hh, checkEntry_sound hs, hc, loadCheck_active hc, hm.not_missing, classCheck, hl, hn]

/-- A load within the limit, and within the reserved block of a persistent slot, counts one use (09 R358, R360). -/
theorem tryLoad_counted (hl : (s.kslot (handle % 2097152)).limited = false ∨
      (s.kslot (handle % 2097152)).count < (s.kslot (handle % 2097152)).limit ∧
        ((s.kslot (handle % 2097152)).vol = true ∨ (s.kslot (handle % 2097152)).count < (s.kslot (handle % 2097152)).mark)) :
    tryLoad s id handle {} = (0, loadKey s id (handle % 2097152) true) := by
  have hlimit : ((s.kslot (handle % 2097152)).limited &&
      decide ((s.kslot (handle % 2097152)).limit ≤ (s.kslot (handle % 2097152)).count)) = false := by
    rcases hl with hl | ⟨hl, -⟩ <;> simp [hl]
  have hmark : ((s.kslot (handle % 2097152)).limited && !(s.kslot (handle % 2097152)).vol &&
      decide ((s.kslot (handle % 2097152)).mark ≤ (s.kslot (handle % 2097152)).count)) = false := by
    rcases hl with hl | ⟨-, hl | hl⟩ <;> simp [hl]
  simp [tryLoad, hh, checkEntry_sound hs, hc, loadCheck_active hc, hm.not_missing, classCheck, hlimit, hmark]

end

end

/-! ### Key store jobs whose turn it is (09 R346, R369) -/

/-- A ready job of an opcode whose turn it is; no QUIESCE hold is in force (20 R726). -/
structure KeyTurn (s : State) (id op : Nat) : Prop where
  opcode : (s.job id).d.opcode = op
  ready : (s.job id).phase = .ready
  inOrder : orderBlocked s (s.job id) = false
  unheld : s.tamper.holdUntil = none

/-- The index of the slot that a job names. -/
abbrev jobIndex (s : State) (id : Nat) : Nat := (s.job id).d.handle % 2097152

/-- The key loaded by a job that has left staging for the key store engine. -/
def engineLoaded (s : State) (id : Nat) (use : Bool) : State := loadKey (toEngine s id) id (jobIndex s id) use

theorem engineLoaded_kslot (s : State) (id : Nat) (use : Bool) (k : Nat) :
    (engineLoaded s id use).kslot k = if k = jobIndex s id then { s.kslot (jobIndex s id) with
      loadedAt := s.now, count := if use then (s.kslot (jobIndex s id)).count + 1 else (s.kslot (jobIndex s id)).count }
    else s.kslot k := by
  rw [engineLoaded, loadKey_kslot, toEngine_now, (toEngine_sameStore s id).kslot, (toEngine_sameStore s id).kslot]

/-- A slot loaded without a use counted. -/
theorem engineLoaded_kslot_self (s : State) (id : Nat) :
    (engineLoaded s id false).kslot (jobIndex s id) = { s.kslot (jobIndex s id) with loadedAt := s.now } := by
  rw [engineLoaded_kslot, if_pos rfl]
  rfl

theorem engineLoaded_kslot_other (s : State) (id : Nat) (use : Bool) {k : Nat} (h : k ≠ jobIndex s id) :
    (engineLoaded s id use).kslot k = s.kslot k := by
  rw [engineLoaded_kslot, if_neg h]

theorem engineLoaded_keys (s : State) (id : Nat) (use : Bool) :
    (engineLoaded s id use).keys = { s.keys with slots := (engineLoaded s id use).keys.slots } :=
  (loadKey_keys _ id _ use).trans (by rw [toEngine_keys]; rfl)

theorem engineLoaded_job_other (s : State) (use : Bool) {id k : Nat} (h : k ≠ id) : (engineLoaded s id use).job k = s.job k := by
  rw [engineLoaded, loadKey_job_other _ _ _ h, toEngine_job_other s h]

/-- An end after the load is an end from the state before it. -/
theorem finish_engineLoaded_ended (s : State) (id : Nat) (use : Bool) (st : Nat) (out : Bytes) (tc : Nat) :
    Ended s (finish (engineLoaded s id use) id st out tc) id st out tc :=
  (finish_ended _ id st out tc).of_others fun _ hk => engineLoaded_job_other s use hk

theorem engineLoaded_d (s : State) (id : Nat) (use : Bool) : ((engineLoaded s id use).job id).d = (s.job id).d := by
  rw [engineLoaded, loadKey_job, if_pos rfl, toEngine_job_self]

section

variable {s : State} {id op : Nat} {a : LoadAsk} {valid : List Nat} {f : State → State}

/-- A job in its turn leaves staging and goes on as its load answers. -/
theorem KeyTurn.withKey_loaded {t : State} (h : KeyTurn s id op) (hl : tryLoad (toEngine s id) id (s.job id).d.handle a = (0, t)) :
    withKey s id op a valid f = .next (f t) := by
  obtain ⟨hop, hready, horder, -⟩ := h
  simp [withKey, hop, hready, horder, hl]

theorem KeyTurn.withKey_status {t : State} {c : Nat} (h : KeyTurn s id op)
    (hl : tryLoad (toEngine s id) id (s.job id).d.handle a = (c, t)) (h0 : c ≠ 0) (hc : c < 0x5000) :
    withKey s id op a valid f = .next (finish t id c [] (tcOf c valid 1)) := by
  obtain ⟨hop, hready, horder, -⟩ := h
  simp [withKey, hop, hready, horder, hl, h0, show c < 65536 by omega]

/-- A status that no validation gives is reported with its own time class. -/
theorem tcOf_refused {c : Nat} (h0 : c ≠ 0) (ok : Nat) : tcOf c [] ok = 6 := by simp [tcOf, h0]

variable (h : KeyTurn s id op) (hs : entryBad s (jobIndex s id) = false)

include h hs

/-- A load that counts no use. -/
theorem KeyTurn.withKey_uncounted (hc : loadCheck s (s.job id).part (s.job id).d.handle a.destroys = 0)
    (hm : (s.kslot (jobIndex s id)).state = 4 ∨ AtHand (s.kslot (jobIndex s id)))
    (ha : a.classes = []) (hu : a.usage = 0) (hn : a.use = false) :
    withKey s id op a valid f = .next (f (engineLoaded s id false)) := by
  have hstore := toEngine_sameStore s id
  refine h.withKey_loaded (tryLoad_uncounted ?_ ?_ ?_ ?_ ha hu hn)
  · rw [hstore.2.1]; exact h.unheld
  · rw [hstore.entryBad]; exact hs
  · rw [hstore.loadCheck, toEngine_part]; exact hc
  · rw [hstore.kslot]; exact hm

/-- A handle that the check at key load refuses. -/
theorem KeyTurn.withKey_refused {c : Nat} (hc : loadCheck s (s.job id).part (s.job id).d.handle a.destroys = c) (h0 : c ≠ 0) :
    withKey s id op a [] f = .next (finish (toEngine s id) id c [] 6) := by
  have hstore := toEngine_sameStore s id
  have hsound := checkEntry_sound ((hstore.entryBad (jobIndex s id)).trans hs)
  have hload : tryLoad (toEngine s id) id (s.job id).d.handle a = (c, checkEntry (toEngine s id) (jobIndex s id)) := by
    refine tryLoad_refused (hstore.2.1 ▸ h.unheld) ?_ h0
    rw [hsound, hstore.loadCheck, toEngine_part]
    exact hc
  rw [h.withKey_status hload h0 (hc ▸ loadCheck_lt _ _), tcOf_refused h0, hsound]

end

/-! ### Commits queued (09 R355, R363, R366) -/

/-- A queued commit takes the next JOURNAL_SEQ and stands behind those of its partition. -/
theorem queueCommit_jseq (s : State) (kind p : Nat) (job : Option Nat) (slot arg : Nat) (body : Bytes) :
    (queueCommit s kind p job slot arg body).keys.jseq = s.keys.jseq + 1 := rfl

theorem queueCommit_queue (s : State) (kind p : Nat) (job : Option Nat) (slot arg : Nat) (body : Bytes) :
    ((queueCommit s kind p job slot arg body).keys.queues.get [] p).length = (s.keys.queues.get [] p).length + 1 := by
  simp only [queueCommit, State.withKeys_keys, Tab.get_upd_self, List.length_append, List.length_singleton]

/-- Of the slots it changes JOURNAL_SEQ alone. -/
theorem queueCommit_kslot (s : State) {kind : Nat} (p : Nat) (job : Option Nat) (slot arg : Nat) (body : Bytes) (k : Nat) (h : kind ≠ 5) :
    (queueCommit s kind p job slot arg body).kslot k =
      if k = slot then { s.kslot slot with jseq := s.keys.jseq + 1 } else s.kslot k := by
  simp only [queueCommit, State.kslot, State.withKeys_keys, if_neg h, Tab.get_upd]

theorem queueCommit_gens (s : State) (kind p : Nat) (job : Option Nat) (slot arg : Nat) (body : Bytes) :
    (queueCommit s kind p job slot arg body).keys.gens = s.keys.gens := rfl

theorem queueCommit_purges (s : State) (kind p : Nat) (job : Option Nat) (slot arg : Nat) (body : Bytes) :
    (queueCommit s kind p job slot arg body).keys.purges = s.keys.purges := rfl

end Sys2Proof.Machine
end

section
/-! PROOF. Key store jobs that make or read a slot (09 R346, R348, R351 to R353, R369, R372, R373; 10 R412): what each check of a new key
answers, and what KEY_INFO and KEY_EXPORT return of a loaded slot. -/

namespace Sys2Proof.Machine

open Sys2Proof

section

variable {s t u : State} {id i cls tc : Nat} {mat out : Bytes}

/-! ### Keys made after a change that leaves the key store alone -/

/-- What a made key says is about the job's partition and its block of attributes and about the key store. -/
theorem KeyMade.of_keys (h : KeyMade u t id i cls mat out tc) (hk : u.keys = s.keys) (hpart : (u.job id).part = (s.job id).part)
    (hopa : (u.job id).opa = (s.job id).opa) : KeyMade s t id i cls mat out tc := by
  simp only [KeyMade, OtherSlotsKept, State.kslot, State.genOf, hk, hpart, hopa] at h ⊢
  exact h

theorem allocCheck_toEngine (s : State) (id p : Nat) : allocCheck (toEngine s id) p = allocCheck s p := by
  have hquota : (toEngine s id).gvs gKeystoreQuota p = s.gvs gKeystoreQuota p := by
    rw [State.gvs, (toEngine_leaves s id).gls (by decide), State.gvs]
  have hheld : slotsHeld (toEngine s id) p = slotsHeld s p := by rw [slotsHeld, toEngine_keys, slotsHeld]
  simp only [allocCheck, hquota, hheld, toEngine_keys]

/-- What a draw gives depends on the free octets alone. -/
theorem rngDraw_fst_congr (h : t.free = s.free) (p n : Nat) : (rngDraw t p n).1 = (rngDraw s p n).1 := by
  simp only [rngDraw, State.drawBytes, h]

/-! ### KEY_GEN_SYM (09 R352, R353; 10 R412) -/

/-- The octets drawn for a symmetric key, after its job has left staging. -/
def symDraw (s : State) (id n : Nat) : Bytes × State := rngDraw (toEngine s id) 0 n

theorem symDraw_fst (s : State) (id n : Nat) : (symDraw s id n).1 = (rngDraw s 0 n).1 :=
  rngDraw_fst_congr ((toEngine_leaves s id).free (by decide)) 0 n

/-- The new key of a KEY_GEN_SYM. -/
def symCreated (s : State) (id n : Nat) : State :=
  let j := s.job id
  let a := parseAttr j.opa
  createKey (symDraw s id n).2 id (attrSlot a a.cls j.part (symDraw s id n).1 n []) (fun _ => []) 1 0

theorem symCreated_made {n : Nat} (ha : allocCheck s (s.job id).part = 0) :
    ∃ i, KeyMade s (symCreated s id n) id i (parseAttr (s.job id).opa).cls (rngDraw s 0 n).1 [] 1 := by
  have hdraw : Writes drawWrites (toEngine s id) (symDraw s id n).2 := rngDraw_draws _ 0 n
  have hjob : (toEngine s id).job id = { s.job id with slot := none } := toEngine_job_self s id
  obtain ⟨i, hmade⟩ := createKey_made (hdraw.jobs (by decide)) (hdraw.keys (by decide)) id (parseAttr (s.job id).opa).cls
    (symDraw s id n).1 [] n [] 1 0 (by rw [hjob, allocCheck_toEngine]; exact ha)
  rw [hjob] at hmade
  rw [← symDraw_fst s id n]
  exact ⟨i, hmade.of_keys (toEngine_keys s id) (by rw [hjob]) (by rw [hjob])⟩

theorem exec_keyGenSym_unserved (hp : (s.job id).phase = .ready) (ho : (s.job id).d.opcode = 0x0501)
    (hb : orderBlocked s (s.job id) = false) (hk : keysServed s = false) :
    exec (.keyGenSym id) s = .next (finish (toEngine s id) id 0x4010 [] 6) := by
  change execKeyGenSym id s = _
  simp [execKeyGenSym, hp, ho, hb, hk]

/-- The halves of a drawn XTS key are equal (10 R412, check 9). -/
def xtsHalvesEqual (s : State) (id n : Nat) : Prop :=
  (parseAttr (s.job id).opa).cls = 0x73 ∧ (symDraw s id n).1.take 32 = (symDraw s id n).1.drop 32

section

variable {n : Nat} (hp : (s.job id).phase = .ready) (ho : (s.job id).d.opcode = 0x0501) (hb : orderBlocked s (s.job id) = false)
  (hturn : rngTurn s 0x0501 = true) (hlen : symLen (parseAttr (s.job id).opa).cls = some n)
  (hr : KeyReady s id (parseAttr (s.job id).opa).cls)

include hp ho hb hturn hlen hr

theorem exec_keyGenSym_created (hx : ¬ xtsHalvesEqual s id n) : exec (.keyGenSym id) s = .next (symCreated s id n) := by
  obtain ⟨hserved, hrsvd, hattr, halloc⟩ := hr
  rw [xtsHalvesEqual, symDraw] at hx
  change execKeyGenSym id s = _
  simp only [execKeyGenSym, hp, ho, hb, hturn, hserved, hrsvd, hattr, halloc, hlen, Option.getD_some, if_neg hx]
  rfl

/-- An XTS key whose halves are equal is drawn again: the job is ready as before. -/
theorem exec_keyGenSym_again (hx : xtsHalvesEqual s id n) :
    exec (.keyGenSym id) s = .next { s with free := (symDraw s id n).2.free } := by
  obtain ⟨hserved, hrsvd, hattr, halloc⟩ := hr
  rw [xtsHalvesEqual, symDraw] at hx
  change execKeyGenSym id s = _
  simp only [execKeyGenSym, hp, ho, hb, hturn, hserved, hrsvd, hattr, halloc, hlen, Option.getD_some, if_pos hx]
  rfl

end

/-! ### KEY_IMPORT of cleartext material (01 R33; 09 R353, R373) -/

/-- The octets drawn for the checks of the material. -/
def importDraw (s : State) : Bytes × State := rngDraw s.drawNat.2 0 1024

theorem importDraw_draws (s : State) : Writes drawWrites s (importDraw s).2 :=
  (rngDraw_writes (State.drawNat_writes (Writes.refl _ s) (by decide)).snd (by decide)).snd

/-- The outcome of a check that the block of attributes or the lengths of an import fail. -/
def importFailed (s : State) (id st : Nat) : State :=
  finishWith s.drawNat.2 id st [] 2 (importLane (parseAttr (s.job id).opa).cls ((s.job id).opa.drop 64) s.drawNat.1) 0

theorem importFailed_ended (s : State) (id st : Nat) : Ended s (importFailed s id st) id st [] 2 :=
  (finishWith_ended s.drawNat.2 id st [] 2 _ 0).1.of_jobs rfl

theorem exec_keyImport (hs : OnSquads s id 0x0502) : exec (.keyImport id) s = .next (runImport s id) := by
  have hsquad := onSquad_eq hs (fun s => runImport s id)
  obtain ⟨hop, hsq, hrun, -, -⟩ := hs
  rw [← hsquad]
  change execKeyImport id s = _
  simp [execKeyImport, onSquad, hop, hsq, hrun]

section

variable (h0 : (s.job id).d.handle = 0) (hk : keysServed s = true)

theorem runImport_unserved (hk : keysServed s = false) : runImport s id = finish s id 0x4010 [] 6 := by
  simp [runImport, hk]

include hk in
theorem runImport_reserved (hr : (parseAttr (s.job id).opa).rsvd = true) : runImport s id = importFailed s id 0x1003 := by
  simp [runImport, hk, hr, importFailed]

include hk in
theorem runImport_attr (hr : (parseAttr (s.job id).opa).rsvd = false)
    (ha : attrBad (parseAttr (s.job id).opa) (parseAttr (s.job id).opa).cls = true) : runImport s id = importFailed s id 0x4015 := by
  simp [runImport, hk, hr, ha, importFailed]

include h0 hk in
theorem runImport_length (hr : (parseAttr (s.job id).opa).rsvd = false)
    (ha : attrBad (parseAttr (s.job id).opa) (parseAttr (s.job id).opa).cls = false)
    (hf : matFits (parseAttr (s.job id).opa).cls ((s.job id).opa.drop 64).length = false) :
    runImport s id = importFailed s id 0x1002 := by
  have hfit : importFits (parseAttr (s.job id).opa).cls false ((s.job id).opa.drop 64).length = false := hf
  rw [List.length_drop] at hfit
  simp [runImport, hk, hr, ha, hfit, h0, importFailed]

end

section

variable (h0 : (s.job id).d.handle = 0) (hr : KeyReady s id (parseAttr (s.job id).opa).cls)
  (hf : matFits (parseAttr (s.job id).opa).cls ((s.job id).opa.drop 64).length = true)

include h0 hr hf

theorem runImport_cleartext : runImport s id = finishImport s id (parseAttr (s.job id).opa) (some ((s.job id).opa.drop 64)) := by
  obtain ⟨hserved, hrsvd, hattr, halloc⟩ := hr
  have hfit : importFits (parseAttr (s.job id).opa).cls false ((s.job id).opa.drop 64).length = true := hf
  rw [List.length_drop] at hfit
  simp [runImport, hserved, hrsvd, hattr, halloc, hfit, h0]

theorem runImport_material
    (hp : materialPass (parseAttr (s.job id).opa).cls ((s.job id).opa.drop 64) (importDraw s).1 = false) :
    runImport s id = finishWith (importDraw s).2 id 0x4018 [] 2
      (importLane (parseAttr (s.job id).opa).cls ((s.job id).opa.drop 64) s.drawNat.1) 0 := by
  rw [importDraw] at hp
  rw [runImport_cleartext h0 hr hf]
  simp only [finishImport, hf, hp]
  rfl

theorem runImport_made
    (hp : materialPass (parseAttr (s.job id).opa).cls ((s.job id).opa.drop 64) (importDraw s).1 = true) :
    let a := parseAttr (s.job id).opa
    let m := (s.job id).opa.drop 64
    runImport s id = createKey (importDraw s).2 id (attrSlot a a.cls (s.job id).part m (materialBytes a.cls m) (materialPub a.cls m))
      (fun _ => []) 1 (importLane a.cls m s.drawNat.1) := by
  rw [importDraw] at hp
  rw [runImport_cleartext h0 hr hf]
  simp only [finishImport, hf, hp]
  rfl

end

/-! ### KEY_INFO (09 R346, R348, R369, Table 8) -/

/-- The time of a slot's last load stands in no field of Table 8. -/
theorem infoBytes_loadedAt (handle n : Nat) (k : KSlot) : infoBytes handle { k with loadedAt := n } = infoBytes handle k := rfl

theorem exec_keyInfo (s : State) (id : Nat) : exec (.keyInfo id) s = withKey s id 0x0505 { use := false } [] (fun s =>
    finish s id 0 (infoBytes (s.job id).d.handle (s.kslot ((s.job id).d.handle % 2097152))) 1) := rfl

section

variable (h : KeyTurn s id 0x0505)

include h

theorem KeyTurn.keyInfo_loaded (hs : entryBad s (jobIndex s id) = false)
    (hc : loadCheck s (s.job id).part (s.job id).d.handle false = 0) (hm : AtHand (s.kslot (jobIndex s id))) :
    exec (.keyInfo id) s =
      .next (finish (engineLoaded s id false) id 0 (infoBytes (s.job id).d.handle (s.kslot (jobIndex s id))) 1) := by
  rw [exec_keyInfo, h.withKey_uncounted hs hc (.inr hm) rfl rfl rfl, engineLoaded_d, engineLoaded_kslot_self, infoBytes_loadedAt]

/-- An entry that fails its check is DAMAGED, and so refused, before its load (09 R348). -/
theorem KeyTurn.keyInfo_damaged (hs : entryBad s (jobIndex s id) = true) (hk : keysServed s = true) (hi : jobIndex s id ≠ 0)
    (ho : (s.kslot (jobIndex s id)).owner = (s.job id).part) :
    exec (.keyInfo id) s = .next (finish (checkEntry (toEngine s id) (jobIndex s id)) id 0x4001 [] 6) := by
  have hstore := toEngine_sameStore s id
  have hbad := (hstore.entryBad (jobIndex s id)).trans hs
  have hw := checkEntry_checks (toEngine s id) (jobIndex s id)
  have hslot := checkEntry_bad_kslot hbad (jobIndex s id)
  rw [if_pos rfl, hstore.kslot] at hslot
  have hserved : keysServed (checkEntry (toEngine s id) (jobIndex s id)) = true :=
    ((keysServed_congr (hw.tamper (by decide)) (hw.mode (by decide))).trans hstore.keysServed).trans hk
  have hcheck : loadCheck (checkEntry (toEngine s id) (jobIndex s id)) (s.job id).part (s.job id).d.handle false = 0x4001 := by
    simp only [loadCheck, handleCheck, hslot, hserved, ho]
    grind
  have hload : tryLoad (toEngine s id) id (s.job id).d.handle { use := false } =
      (0x4001, checkEntry (toEngine s id) (jobIndex s id)) :=
    tryLoad_refused (hstore.2.1 ▸ h.unheld) (by rw [toEngine_part]; exact hcheck) (by decide)
  rw [exec_keyInfo, h.withKey_status hload (by decide) (by decide)]
  rfl

end

/-! ### KEY_EXPORT without a key-encryption key (09 R372) -/

/-- KEY_EXPORT of a loaded slot's public part: denied for a symmetric class, and for a class that holds a secret without EXPORT_PUBLIC
(09 R372). -/
def exportPublic (s : State) (id : Nat) (k : KSlot) : State :=
  if (symLen k.cls).isSome ∨ (execKeyExport.isPrivate k.cls ∧ !bit k.exp 0) then finish s id 0x4017 [] 2
  else finish s id 0 (materialPub k.cls k.material) 1

theorem exportPublic_count (s : State) (id i : Nat) (k : KSlot) : (exportPublic s id k).kslot i = s.kslot i := by
  unfold exportPublic
  split <;> exact finish_kslot s id _ _ _ i (by decide)

theorem exec_keyExport_public (hp : (s.job id).phase = .ready) (h0 : (s.job id).d.param = 0) :
    exec (.keyExport id) s = withKey s id 0x0503 {} [] (fun t => exportPublic t id (t.kslot (jobIndex s id))) := by
  change execKeyExport id s = _
  simp [execKeyExport, hp, h0, exportPublic, jobSlot]

section

variable (h : KeyTurn s id 0x0503) (h0 : (s.job id).d.param = 0) (hs : entryBad s (jobIndex s id) = false)
  (hc : loadCheck s (s.job id).part (s.job id).d.handle false = 0) (hm : AtHand (s.kslot (jobIndex s id)))

include h h0 hs hc hm

theorem KeyTurn.keyExport_limit (hl : (s.kslot (jobIndex s id)).limited = true)
    (hn : (s.kslot (jobIndex s id)).limit ≤ (s.kslot (jobIndex s id)).count) :
    exec (.keyExport id) s = .next (finish (toEngine s id) id 0x4003 [] 6) := by
  have hstore := toEngine_sameStore s id
  rw [exec_keyExport_public h.ready h0, h.withKey_status (c := 0x4003) (t := toEngine s id) ?_ (by decide) (by decide)]
  · rfl
  · refine tryLoad_limit (hstore.2.1 ▸ h.unheld) ((hstore.entryBad _).trans hs) ?_ ?_ ?_ ?_
    · rw [hstore.loadCheck, toEngine_part]; exact hc
    · rw [hstore.kslot]; exact hm
    · rw [hstore.kslot]; exact hl
    · rw [hstore.kslot]; exact hn

theorem KeyTurn.keyExport_counted (hl : (s.kslot (jobIndex s id)).limited = false ∨
      (s.kslot (jobIndex s id)).count < (s.kslot (jobIndex s id)).limit ∧
        ((s.kslot (jobIndex s id)).vol = true ∨ (s.kslot (jobIndex s id)).count < (s.kslot (jobIndex s id)).mark)) :
    exec (.keyExport id) s = .next (exportPublic (engineLoaded s id true) id (s.kslot (jobIndex s id))) := by
  have hstore := toEngine_sameStore s id
  rw [exec_keyExport_public h.ready h0, h.withKey_loaded (t := engineLoaded s id true) ?_]
  · rw [engineLoaded_kslot, if_pos rfl]
    rfl
  · refine tryLoad_counted (hstore.2.1 ▸ h.unheld) ((hstore.entryBad _).trans hs) ?_ ?_ ?_
    · rw [hstore.loadCheck, toEngine_part]; exact hc
    · rw [hstore.kslot]; exact hm
    · rw [hstore.kslot]; exact hl

end

theorem exportPublic_ended (s : State) (id : Nat) (k : KSlot) :
    if (symLen k.cls).isSome ∨ (execKeyExport.isPrivate k.cls ∧ !bit k.exp 0)
    then Ended s (exportPublic (engineLoaded s id true) id k) id 0x4017 [] 2
    else Ended s (exportPublic (engineLoaded s id true) id k) id 0 (materialPub k.cls k.material) 1 := by
  unfold exportPublic
  split <;> exact finish_engineLoaded_ended s id true _ _ _

end

/-! ### The obligation -/

/-- Settles O25: each clause is one outcome of its command. A job's leaving staging, its load and its draws leave what the outcome speaks
of as it was. -/
theorem keyCreationInfoAndExport : Obligations.KeyCreationInfoAndExport := by
  unfold Obligations.KeyCreationInfoAndExport
  refine ⟨?genSym, ?imported, ?info, ?exported⟩
  case genSym =>
    intro s id hp ho hb
    refine ⟨fun hk => ⟨_, exec_keyGenSym_unserved hp ho hb hk, finish_toEngine_ended s id _ _ _⟩, ?_⟩
    intro n hturn hlen hr m
    have hdraw : (symDraw s id n).1 = m := symDraw_fst s id n
    constructor
    · intro hdiff
      have hx : ¬ xtsHalvesEqual s id n := by
        rw [xtsHalvesEqual, hdraw]
        exact fun h => hdiff.elim (· h.1) (· h.2)
      have hexec := exec_keyGenSym_created hp ho hb hturn hlen hr hx
      obtain ⟨-, -, -, halloc⟩ := hr
      obtain ⟨i, hmade⟩ := symCreated_made (n := n) halloc
      exact ⟨_, i, hexec, hmade⟩
    · intro hcls heq
      have hx : xtsHalvesEqual s id n := by
        rw [xtsHalvesEqual, hdraw]
        exact ⟨hcls, heq⟩
      exact ⟨_, exec_keyGenSym_again hp ho hb hturn hlen hr hx, hp, rfl⟩
  case imported =>
    intro s id hs h0 a m r
    refine ⟨fun hk => ⟨_, (exec_keyImport hs).trans (congrArg _ (runImport_unserved hk)), finish_ended s id _ _ _⟩,
      fun hk hr => ⟨_, (exec_keyImport hs).trans (congrArg _ (runImport_reserved hk hr)), importFailed_ended s id _⟩,
      fun hk hr ha => ⟨_, (exec_keyImport hs).trans (congrArg _ (runImport_attr hk hr ha)), importFailed_ended s id _⟩,
      fun hk hr ha hf => ⟨_, (exec_keyImport hs).trans (congrArg _ (runImport_length h0 hk hr ha hf)), importFailed_ended s id _⟩,
      fun hr hf => ⟨fun hp => ?_, fun hp => ?_⟩⟩
    · have hdraw := importDraw_draws s
      exact ⟨_, (exec_keyImport hs).trans (congrArg _ (runImport_material h0 hr hf hp)),
        (finishWith_ended _ id 0x4018 [] 2 _ 0).1.of_jobs (hdraw.jobs (by decide)),
        (finish_keys _ id _ _ _ (by decide)).trans (hdraw.keys (by decide))⟩
    · exact createKey_counted ((importDraw_draws s).mono (by decide)) hr
        ((exec_keyImport hs).trans (congrArg _ (runImport_made h0 hr hf hp)))
  case info =>
    intro s id ho hp hb hh i
    have hturn : KeyTurn s id 0x0505 := ⟨ho, hp, hb, hh⟩
    refine ⟨fun hs hc hm => ?_, fun c hs hc h0 => ?_, fun hs hk hi howner => ?_⟩
    · refine ⟨_, hturn.keyInfo_loaded hs hc hm, finish_engineLoaded_ended s id false _ _ _, ?_, fun k hk => ?_⟩
      · rw [finish_kslot _ _ _ _ _ _ (by decide), engineLoaded_kslot_self]
      · rw [finish_kslot _ _ _ _ _ _ (by decide), engineLoaded_kslot_other s id false hk]
    · exact ⟨_, (exec_keyInfo s id).trans (hturn.withKey_refused hs hc h0), finish_toEngine_ended s id _ _ _⟩
    · have hbad := ((toEngine_sameStore s id).entryBad i).trans hs
      have hjobs := (checkEntry_checks (toEngine s id) i).jobs (by decide)
      have hslot := checkEntry_bad_kslot hbad i
      rw [if_pos rfl, State.genOf, toEngine_keys] at hslot
      refine ⟨_, hturn.keyInfo_damaged hs hk hi howner, ?_, ?_, ?_, ?_⟩
      · rw [finish_kslot _ _ _ _ _ _ (by decide), hslot]
      · rw [finish_kslot _ _ _ _ _ _ (by decide), hslot]
      · rw [finish_kslot _ _ _ _ _ _ (by decide), hslot]; rfl
      · exact (finish_ended _ id 0x4001 [] 6).of_others fun k hk => (State.job_congr hjobs k).trans (toEngine_job_other s hk)
  case exported =>
    intro s id ho hp hb hh h0 i k hs hc hm
    have hturn : KeyTurn s id 0x0503 := ⟨ho, hp, hb, hh⟩
    refine ⟨fun hl hn => ⟨_, hturn.keyExport_limit h0 hs hc hm hl hn, finish_toEngine_ended s id _ _ _⟩, fun hl => ?_⟩
    refine ⟨_, hturn.keyExport_counted h0 hs hc hm hl, ?_, exportPublic_ended s id k⟩
    rw [exportPublic_count, engineLoaded_kslot, if_pos rfl]
    rfl

end Sys2Proof.Machine
end

section
/-! PROOF. Key store jobs that end or narrow a slot (09 R344, R354 to R357, R370, R371): a slot from DESTROYING to FREE, a restriction
applied or queued, and a purge from its begin to its record. -/

namespace Sys2Proof.Machine

open Sys2Proof

section

variable {s : State} {id i : Nat}

/-! ### KEY_DESTROY (09 R353, R356, R357) -/

/-- A slot marked DESTROYING by a job, which waits for it. -/
def markDestroying (s : State) (id i : Nat) : State :=
  (s.withSlot i (fun k => { k with state := 3, destroyer := some id })).withJob id (fun j => { j with phase := .waitCommit })

theorem markDestroying_kslot (s : State) (id i k : Nat) :
    (markDestroying s id i).kslot k = if k = i then { s.kslot i with state := 3, destroyer := some id } else s.kslot k :=
  State.withSlot_kslot s i k _

theorem markDestroying_phase (s : State) (id i : Nat) : ((markDestroying s id i).job id).phase = .waitCommit := by
  rw [markDestroying, State.job_withJob]

theorem KeyTurn.keyDestroy_marked (h : KeyTurn s id 0x0504) (hs : entryBad s (jobIndex s id) = false)
    (hc : loadCheck s (s.job id).part (s.job id).d.handle true = 0)
    (hm : (s.kslot (jobIndex s id)).state = 4 ∨ AtHand (s.kslot (jobIndex s id))) :
    exec (.keyDestroy id) s = .next (markDestroying (engineLoaded s id false) id (jobIndex s id)) := by
  have hexec : exec (.keyDestroy id) s = withKey s id 0x0504 { use := false, destroys := true } []
      (fun s => markDestroying s id (jobIndex s id)) := rfl
  rw [hexec, h.withKey_uncounted hs hc hm rfl rfl rfl, jobIndex, engineLoaded_d]

/-! ### DESTROY_COMPLETE (09 R344, R354 to R356) -/

/-- A slot whose last user has retired: wiped from the cache, its generation advanced. -/
def slotWiped (s : State) (i : Nat) : State :=
  (advanceGen s i).withSlot i (fun k => { k with cached := false, advanced := true })

theorem slotWiped_genOf (s : State) (i : Nat) : (slotWiped s i).genOf i = (s.genOf i + 1) % 2048 := by
  simp only [slotWiped, State.genOf, State.withSlot_keys, advanceGen, State.withKeys_keys, Tab.get_set_self]

theorem slotWiped_kslot (s : State) (i : Nat) : (slotWiped s i).kslot i = { s.kslot i with cached := false, advanced := true } :=
  State.kslot_withSlot (advanceGen s i) i _

/-- A slot freed whose generation has advanced. -/
theorem freeKey_advanced (h : (s.kslot i).advanced = true) :
    freeKey s i = s.withKeys (fun k => { k with slots := k.slots.erase i }) := by
  rw [freeKey, if_pos h]

section

variable (hst : (s.kslot i).state = 3) (hd : (s.kslot i).destroyer = some id) (ha : (s.kslot i).advanced = false)
  (hu : usersOf s i = [])

include hst hd ha hu

/-- A VOLATILE slot is freed at once and its KEY_DESTROY completes. -/
theorem exec_destroyComplete_volatile (hv : (s.kslot i).vol = true) (hj : (s.jobs.find id).isSome = true) :
    exec (.destroyComplete i) s =
      .next (finish ((slotWiped s i).withKeys (fun k => { k with slots := k.slots.erase i })) id 0 [] 1) := by
  have hfree := freeKey_advanced (s := slotWiped s i) (i := i) (by rw [slotWiped_kslot])
  have hjobs : (advanceGen s i).jobs = s.jobs := rfl
  change execDestroyComplete i s = _
  rw [slotWiped] at hfree
  simp [execDestroyComplete, hst, hd, ha, hu, hv, hj, hjobs, hfree, slotWiped]

/-- A persistent slot queues its destroy commit once its generation has advanced (09 R355). -/
theorem exec_destroyComplete_persistent (hv : (s.kslot i).vol = false) :
    exec (.destroyComplete i) s = .next (queueCommit (slotWiped s i) 2 (s.kslot i).owner (some id) i 0
      (toLE 2 ((slotWiped s i).genOf i) ++ zeros 6)) := by
  change execDestroyComplete i s = _
  simp [execDestroyComplete, hst, hd, ha, hu, hv, slotWiped]

end

/-! ### KEY_RESTRICT (09 R369, R371) -/

/-- The restrict block of a job. -/
abbrev jobBlock (s : State) (id : Nat) : Nat := leNat ((s.job id).opa.take 16)

/-- A restriction of a persistent slot queued; its job waits for the commit. -/
def restrictQueued (s : State) (id i v : Nat) : State :=
  ((queueCommit s 3 (s.kslot i).owner (some id) i v (toLE 16 v)).withSlot i (fun k => { k with restricting := true })).withJob id
    (fun j => { j with phase := .waitCommit })

theorem restrictQueued_kslot (s : State) (id i v : Nat) :
    (restrictQueued s id i v).kslot i = { s.kslot i with jseq := s.keys.jseq + 1, restricting := true } := by
  have h : (restrictQueued s id i v).kslot i = _ :=
    State.kslot_withSlot (queueCommit s 3 (s.kslot i).owner (some id) i v (toLE 16 v)) i (fun k => { k with restricting := true })
  rw [h, queueCommit_kslot _ _ _ _ _ _ _ (by decide), if_pos rfl]

theorem restrictQueued_queue (s : State) (id i v : Nat) :
    ((restrictQueued s id i v).keys.queues.get [] (s.kslot i).owner).length =
      (s.keys.queues.get [] (s.kslot i).owner).length + 1 := queueCommit_queue s 3 _ (some id) i v _

/-- A slot under a restrict block: the block states the whole of the new usage and limit; the uses counted before a limit
are reserved. -/
def restrictedTo (v : Nat) (k : KSlot) : KSlot :=
  { k with
    usage := bits v 15 0, exp := bits v 17 16, mark := if !k.limited && bit v 25 && !k.vol then k.count else k.mark,
    limited := bit v 25, limit := bits v 127 64, restricting := false }

theorem applyRestrict_kslot (s : State) (i v : Nat) (job : Option Nat) (k : Nat) :
    (applyRestrict s i v job).kslot k = if k = i then restrictedTo v (s.kslot i) else s.kslot k := by
  refine (State.kslot_congr ?_ k).trans (State.withSlot_kslot s i k (restrictedTo v))
  unfold applyRestrict
  cases job with
  | none => rfl
  | some id => dsimp only; split <;> rfl

/-- The outcomes of a restrict block on a loaded slot. -/
def restrict (s : State) (id i v : Nat) : State :=
  if bits v 24 18 != 0 || bits v 63 26 != 0 then finish s id 0x1003 [] 2
  else if restrictBad (s.kslot i) v then finish s id 0x4015 [] 2
  else if restrictSame (s.kslot i) v then finish s id 0 [] 1
  else if (s.kslot i).vol then applyRestrict s i v (some id)
  else restrictQueued s id i v

/-- Restrictions of one slot are checked one after another. -/
theorem exec_keyRestrict (hr : (s.kslot (jobIndex s id)).restricting = false) : exec (.keyRestrict id) s =
    withKey s id 0x0506 { use := false } [] (fun t => restrict t id (jobIndex t id) (jobBlock s id)) := by
  change execKeyRestrict id s = _
  unfold execKeyRestrict
  rw [if_neg (by simp [hr])]
  rfl

theorem KeyTurn.keyRestrict_loaded (h : KeyTurn s id 0x0506) (hs : entryBad s (jobIndex s id) = false)
    (hc : loadCheck s (s.job id).part (s.job id).d.handle false = 0) (hr : (s.kslot (jobIndex s id)).restricting = false)
    (hm : AtHand (s.kslot (jobIndex s id))) :
    exec (.keyRestrict id) s = .next (restrict (engineLoaded s id false) id (jobIndex s id) (jobBlock s id)) := by
  rw [exec_keyRestrict hr, h.withKey_uncounted hs hc (.inr hm) rfl rfl rfl]
  simp only [jobIndex, engineLoaded_d]

section

variable {v : Nat} (h1 : bits v 24 18 = 0) (h2 : bits v 63 26 = 0)

include h1 h2

theorem restrict_bad (hb : restrictBad (s.kslot i) v = true) : restrict s id i v = finish s id 0x4015 [] 2 := by
  simp [restrict, h1, h2, hb]

theorem restrict_same (hb : restrictBad (s.kslot i) v = false) (hq : restrictSame (s.kslot i) v = true) :
    restrict s id i v = finish s id 0 [] 1 := by
  simp [restrict, h1, h2, hb, hq]

theorem restrict_volatile (hb : restrictBad (s.kslot i) v = false) (hq : restrictSame (s.kslot i) v = false)
    (hv : (s.kslot i).vol = true) : restrict s id i v = applyRestrict s i v (some id) := by
  simp [restrict, h1, h2, hb, hq, hv]

theorem restrict_persistent (hb : restrictBad (s.kslot i) v = false) (hq : restrictSame (s.kslot i) v = false)
    (hv : (s.kslot i).vol = false) : restrict s id i v = restrictQueued s id i v := by
  simp [restrict, h1, h2, hb, hq, hv]

end

/-! ### RESTRICT_DONE (09 R371) -/

theorem exec_restrictDone (hp : (s.job id).phase = .adminWait) (ho : (s.job id).d.opcode = 0x0506)
    (hw : ∀ k ∈ (s.job id).waits, s.jobs.find k = none) : exec (.restrictDone id) s = .next (finish s id 0 [] 1) := by
  have hall : (s.job id).waits.all (fun k => (s.jobs.find k).isNone) = true :=
    List.all_eq_true.mpr fun k hk => Option.isNone_iff_eq_none.mpr (hw k hk)
  change execRestrictDone id s = _
  rw [execRestrictDone, if_pos ⟨hp, ho, hall⟩]

/-! ### KEY_PURGE (09 R370) -/

/-- Slots that a partition holds. -/
abbrev heldBy (s : State) (p : Nat) : List Nat := s.keys.slots.keysWith (fun k => k.owner == p)

theorem heldBy_toEngine (s : State) (id p : Nat) : heldBy (toEngine s id) p = heldBy s p := by rw [heldBy, toEngine_keys]

/-- An ACTIVE slot of the partition becomes DESTROYING. -/
def purgeSlot (p : Nat) (k : KSlot) : KSlot := if k.owner = p ∧ k.state = 2 then { k with state := 3 } else k

theorem purgeSlot_state {p : Nat} {k : KSlot} (h : (purgeSlot p k).owner = p) : (purgeSlot p k).state ≠ 2 := by
  unfold purgeSlot at h ⊢
  split
  case isTrue => exact (by decide : 3 ≠ 2)
  case isFalse hn =>
    rw [if_neg hn] at h
    exact fun hs => hn ⟨h, hs⟩

/-- Jobs that end with a status below 0x5000 leave the key store. -/
theorem foldl_finish_keys (l : List Nat) (st : Nat) (out : Bytes) (tc : Nat) (h : st < 0x5000) (s : State) :
    (l.foldl (fun s id => finish s id st out tc) s).keys = s.keys := by
  induction l generalizing s with
  | nil => rfl
  | cons a l ih => rw [List.foldl_cons, ih, finish_keys s a st out tc h]

theorem beginPurge_none {p : Nat} {job : Option Nat} (h : heldBy s p = []) : beginPurge s p job = (false, newSalt s p) := by
  simp [beginPurge, h]

theorem beginPurge_some {p : Nat} {job : Option Nat} (h : heldBy s p ≠ []) :
    (beginPurge s p job).1 = true ∧ (beginPurge s p job).2.keys.slots = s.keys.slots.mapVals (fun _ => purgeSlot p) ∧
      (beginPurge s p job).2.keys.purges = s.keys.purges.set p { job := job, victims := heldBy s p } := by
  have hne : (heldBy s p).isEmpty = false := by simpa using h
  unfold beginPurge
  simp only [hne, Bool.false_eq_true, if_false, foldl_finish_keys _ 0x4001 [] 6 (by decide)]
  exact ⟨trivial, rfl, rfl⟩

theorem newSalt_keys (s : State) (p : Nat) : (newSalt s p).keys = s.keys :=
  (newSalt_writes (wm := 2097410) (Writes.refl _ s) (by decide)).keys (by decide)

theorem newSalt_jobs (s : State) (p : Nat) : (newSalt s p).jobs = s.jobs :=
  (newSalt_writes (wm := 2097410) (Writes.refl _ s) (by decide)).jobs (by decide)

section

variable (hp : (s.job id).phase = .ready) (ho : (s.job id).d.opcode = 0x0510) (hb : orderBlocked s (s.job id) = false)
  (hg : s.keys.purges.find (s.job id).part = none) (hr : rngReady s = true) (hk : keysServed s = true)

include hp ho hb hg hr hk

theorem exec_keyPurge : exec (.keyPurge id) s =
    let b := beginPurge (toEngine s id) (s.job id).part (some id)
    if b.1 then .next (b.2.withJob id (fun j => { j with phase := .waitCommit })) else .next (finish b.2 id 0 [] 1) := by
  change execKeyPurge id s = _
  simp only [execKeyPurge, hp, ho, hb, hg, hr, hk]
  rfl

/-- A partition without slots takes a new salt alone. -/
theorem exec_keyPurge_none (he : heldBy s (s.job id).part = []) :
    exec (.keyPurge id) s = .next (finish (newSalt (toEngine s id) (s.job id).part) id 0 [] 1) := by
  rw [exec_keyPurge hp ho hb hg hr hk, beginPurge_none ((heldBy_toEngine s id _).trans he)]
  rfl

theorem exec_keyPurge_some (he : heldBy s (s.job id).part ≠ []) :
    exec (.keyPurge id) s = .next ((beginPurge (toEngine s id) (s.job id).part (some id)).2.withJob id
      (fun j => { j with phase := .waitCommit })) := by
  rw [exec_keyPurge hp ho hb hg hr hk]
  exact if_pos (beginPurge_some ((heldBy_toEngine s id _).trans_ne he)).1

end

/-! ### PURGE_WIPE (09 R370) -/

/-- The lines of a purge's victims wiped, and the purge's record due. -/
def purgeWiped (s : State) (p : Nat) (g : Purge) : State :=
  s.withKeys (fun x => { x with
    slots := x.slots.mapVals (fun i k => if g.victims.contains i then { k with cached := false } else k),
    purges := x.purges.set p { g with queued := true } })

theorem exec_purgeWipe {p : Nat} {g : Purge} (hg : s.keys.purges.find p = some g) (hq : g.queued = false) (hr : rngReady s = true)
    (hu : ∀ i ∈ g.victims, usersOf s i = []) :
    exec (.purgeWipe p) s = .next (queueCommit (newSalt (purgeWiped s p g) p) 5 p g.job 0 0 (toLE 2 p ++ zeros 6)) := by
  have hany : g.victims.any (fun i => !(usersOf s i).isEmpty) = false := by
    rw [List.any_eq_false]
    intro i hi
    simp [hu i hi]
  change execPurgeWipe p s = _
  simp only [execPurgeWipe, hg, hq, hr, hany]
  rfl

end

/-! ### The obligation -/

/-- Settles O26: each clause is one outcome of its command. -/
theorem keyDestructionRestrictionAndPurge : Obligations.KeyDestructionRestrictionAndPurge := by
  unfold Obligations.KeyDestructionRestrictionAndPurge
  refine ⟨?destroy, ?complete, ?narrow, ?narrowed, ?purge, ?wipe⟩
  case destroy =>
    intro s id ho hp hb hh hs hc hm
    have hturn : KeyTurn s id 0x0504 := ⟨ho, hp, hb, hh⟩
    refine ⟨_, hturn.keyDestroy_marked hs hc hm, markDestroying_phase _ id _, ?_, ?_, fun k hk => ?_⟩
    · rw [markDestroying_kslot, if_pos rfl]
    · rw [markDestroying_kslot, if_pos rfl]
    · rw [markDestroying_kslot, if_neg hk, engineLoaded_kslot_other s id false hk]
  case complete =>
    intro s i id hst hd ha hu
    constructor
    · intro hv hj
      refine ⟨_, exec_destroyComplete_volatile hst hd ha hu hv hj, finish_ended_of_jobs rfl id 0 [] 1, ?_, ?_⟩
      · rw [finish_keys _ _ _ _ _ (by decide), State.withKeys_keys, Tab.find_erase, if_pos rfl]
      · rw [State.genOf, finish_keys _ _ _ _ _ (by decide)]
        exact slotWiped_genOf s i
    · intro hv
      refine ⟨_, exec_destroyComplete_persistent hst hd ha hu hv, ?_, ?_, ?_, queueCommit_jseq _ _ _ _ _ _ _,
        queueCommit_queue _ _ _ _ _ _ _⟩
      · rw [queueCommit_kslot _ _ _ _ _ _ _ (by decide), if_pos rfl, slotWiped_kslot]
      · rw [queueCommit_kslot _ _ _ _ _ _ _ (by decide), if_pos rfl, slotWiped_kslot]
      · rw [State.genOf, queueCommit_gens]
        exact slotWiped_genOf s i
  case narrow =>
    intro s id ho hp hb hh hc i v hs hr hm h1 h2
    have hturn : KeyTurn s id 0x0506 := ⟨ho, hp, hb, hh⟩
    have hexec := hturn.keyRestrict_loaded hs hc hr hm
    have hslot : (engineLoaded s id false).kslot i = { s.kslot i with loadedAt := s.now } := engineLoaded_kslot_self s id
    have hkeys := engineLoaded_keys s id false
    refine ⟨fun hb => ?_, fun hb hq => ?_, fun hb hq hv => ?_, fun hb hq hv => ?_⟩
    · exact ⟨_, hexec.trans (congrArg _ (restrict_bad h1 h2 (by rw [hslot]; exact hb))), finish_engineLoaded_ended s id false _ _ _⟩
    · exact ⟨_, hexec.trans (congrArg _ (restrict_same h1 h2 (by rw [hslot]; exact hb) (by rw [hslot]; exact hq))),
        finish_engineLoaded_ended s id false _ _ _⟩
    · refine ⟨_, hexec.trans (congrArg _ (restrict_persistent h1 h2 (by rw [hslot]; exact hb) (by rw [hslot]; exact hq)
        (by rw [hslot]; exact hv))), by rw [restrictQueued, State.job_withJob], ?_, ?_, ?_, ?_⟩
      · rw [restrictQueued_kslot]
      · rw [restrictQueued_kslot, hslot]
      · rw [restrictQueued_kslot, hslot]
      · have hlen := restrictQueued_queue (engineLoaded s id false) id i v
        rw [hslot, hkeys] at hlen
        exact hlen
    · refine ⟨_, hexec.trans (congrArg _ (restrict_volatile h1 h2 (by rw [hslot]; exact hb) (by rw [hslot]; exact hq)
        (by rw [hslot]; exact hv))), ?_, ?_, ?_, ?_, ?_, fun k hk => ?_⟩
      case refine_6 => rw [applyRestrict_kslot, if_neg hk, engineLoaded_kslot_other s id false hk]
      all_goals rw [applyRestrict_kslot, if_pos rfl, hslot]; rfl
  case narrowed => exact fun s id hp ho hw => ⟨_, exec_restrictDone hp ho hw, finish_ended s id 0 [] 1⟩
  case purge =>
    intro s id hp ho hb hg hr hk
    constructor
    · intro he
      refine ⟨_, exec_keyPurge_none hp ho hb hg hr hk he, (finish_ended _ id 0 [] 1).of_others fun k hne => ?_, ?_⟩
      · rw [State.job_congr (newSalt_jobs _ _), toEngine_job_other s hne]
      · rw [finish_keys _ _ _ _ _ (by decide), newSalt_keys, toEngine_keys]
    · intro he
      obtain ⟨-, hslots, hpurges⟩ := beginPurge_some (job := some id) ((heldBy_toEngine s id _).trans_ne he)
      refine ⟨_, exec_keyPurge_some hp ho hb hg hr hk he, by rw [State.job_withJob], ?_, fun e hmem howner => ?_⟩
      · rw [State.withJob_keys, hpurges, Tab.find_set_self]
        rfl
      · rw [State.withJob_keys, hslots, Tab.mapVals, List.mem_map] at hmem
        obtain ⟨e', -, rfl⟩ := hmem
        exact purgeSlot_state howner
  case wipe =>
    intro s p g hg hq hr hu
    refine ⟨_, exec_purgeWipe hg hq hr hu, ?_, ?_, ?_, newSalt_jobs _ p⟩
    · rw [queueCommit_purges, newSalt_keys, purgeWiped, State.withKeys_keys, Tab.find_set_self]
      rfl
    · rw [queueCommit_jseq, newSalt_keys]
      rfl
    · rw [queueCommit_queue, newSalt_keys]
      rfl

end Sys2Proof.Machine
end

section
/-! PROOF. What the key store engine does by itself (09 R348, R361, R364, R366): a commit handed to the vault, a use-count page, and a
miss of the key cache answered. -/

namespace Sys2Proof.Machine

open Sys2Proof

section

variable {s t : State} {i : Nat}

/-- A program appended to the vault's log is the vault's alone. -/
theorem vAppend_keys (s : State) (rel : Bool) (src : VSrc) (data : Bytes) : (vAppend s rel src data).keys = s.keys :=
  (vAppend_writes (wm := 16777216) (Writes.refl _ s) (by decide)).keys (by decide)

/-! ### COMMIT_SERVICE (09 R366) -/

/-- The key store once a commit of a queue has been handed over: it leaves the queue, is taken from the deficit, and counts in the
windows of both ceilings. -/
def handedOver (s : State) (p : Nat) (c : KCommit) (l : List KCommit) : State :=
  s.withKeys (fun x => { x with
    queues := x.queues.set p l,
    deficit := if l.isEmpty then x.deficit.erase p else x.deficit.set p (x.deficit.get 0 p - c.rec_.length),
    cur := if l.isEmpty then none else some p,
    served := (x.served.filter (fun e => decide (s.now < e.1 + secTicks 2))) ++ [(s.now, c.rec_.length)] })

/-- Where no commit was served before, a record within the ceiling of bytes is served. -/
theorem serveCommit_first {p : Nat} {c : KCommit} {l : List KCommit} (hq : s.keys.queues.get [] p = c :: l) (hs : s.keys.served = [])
    (hlen : c.rec_.length ≤ 6400000) :
    serveCommit s p = some (vAppend (handedOver s p c l) false (.commit c) c.rec_) := by
  have hceil : ¬(25000 ≤ ([] : List (Nat × Nat)).length ∨ 6400000 < 0 + c.rec_.length) := by
    rw [List.length_nil]
    omega
  simp only [serveCommit, hq, hs, List.filter_nil, List.foldl_nil, if_neg hceil]
  rfl

/-- The queue in turn goes on while its deficit is positive. -/
theorem exec_commitService_turn {p : Nat} (hc : s.keys.cur = some p) (hw : (waitingQueues s).contains p = true)
    (hd : 0 < s.keys.deficit.get 0 p) (hv : serveCommit s p = some t) : exec .commitService s = .next t := by
  change execCommitService s = _
  simp only [execCommitService, hc, hw, hd, hv]
  rfl

/-! ### USE_COUNT_PAGE (09 R361) -/

/-- A persistent slot without LIMITED whose count has changed since its page, and which no page has taken in the last 60 s. -/
def pageDue (s : State) (k : KSlot) : Bool :=
  (k.state == 2 || k.state == 3) && !k.vol && !k.limited && k.count != k.page &&
    (match k.pageAt with | some t => decide (t + secTicks 60 ≤ s.now) | none => true)

/-- The slots of the next page. -/
def dueSlots (s : State) : List (Nat × KSlot) := (s.keys.slots.filter (fun e => pageDue s e.2)).take 1022

/-- What a page says of its slots (09 R852, KIND 6). -/
def pageItems (l : List (Nat × KSlot)) : List (Nat × Nat) := l.map (fun e => (e.1, e.2.count))

def pageBody (l : List (Nat × KSlot)) : Bytes := (l.map (fun e => toLE 4 (handleOf e.1 e.2) ++ zeros 4 ++ toLE 8 e.2.count)).flatten

/-- The time of a page noted at its slots, under the next JOURNAL_SEQ. -/
def pageNoted (s : State) (items : List (Nat × Nat)) : State :=
  items.foldl (fun t e => t.withSlot e.1 (fun k => { k with pageAt := some t.now })) (s.withKeys (fun x => { x with jseq := s.keys.jseq + 1 }))

/-- The page of the slots that are due, handed to the vault. -/
def pageHanded (s : State) (l : List (Nat × KSlot)) : State :=
  vAppend (pageNoted s (pageItems l)) false (.usePage (pageItems l)) (recHead 6 0 (s.keys.jseq + 1) 0 0 (pageBody l).length ++ pageBody l)

theorem exec_useCountPage (hserve : s.serving = true) (hd : dueSlots s ≠ []) : exec .useCountPage s = .next (pageHanded s (dueSlots s)) := by
  have hguard : ¬((dueSlots s).isEmpty || !s.serving) = true := by simp [hserve, hd]
  exact if_neg hguard

/-- With one slot in the table, the page is of that slot. -/
theorem dueSlots_one {k : KSlot} (hs : s.keys.slots = [(i, k)]) (hd : pageDue s k = true) : dueSlots s = [(i, k)] := by
  simp [dueSlots, hs, hd]

theorem pageHanded_one_keys (s : State) (i : Nat) (k : KSlot) : (pageHanded s [(i, k)]).keys =
    ((s.withKeys (fun x => { x with jseq := s.keys.jseq + 1 })).withSlot i (fun k => { k with pageAt := some s.now })).keys :=
  vAppend_keys _ _ _ _

theorem pageHanded_one_kslot (s : State) (i : Nat) (k : KSlot) :
    (pageHanded s [(i, k)]).kslot i = { s.kslot i with pageAt := some s.now } :=
  (State.kslot_congr (pageHanded_one_keys s i k) i).trans (State.kslot_withSlot (s.withKeys _) i _)

/-! ### KEY_CACHE_FILL (09 R348, R364) -/

section

variable (h2 : (s.kslot i).state = 2) (hv : (s.kslot i).vol = false) (hc : (s.kslot i).cached = false) (hk : keysServed s = true)

include h2 hv hc hk

theorem exec_keyCacheFill_bad (hs : entryBad s i = true) (a b : Bool) :
    exec (.keyCacheFill i a b) s = .next (checkEntry s i) := by
  change execKeyCacheFill i a b s = _
  simp [execKeyCacheFill, h2, hv, hc, hk, hs]

theorem exec_keyCacheFill_copy (hs : entryBad s i = false) {a b : Bool} (hab : a = true ∨ b = true) :
    exec (.keyCacheFill i a b) s = .next (fillCache s i) := by
  change execKeyCacheFill i a b s = _
  simp [execKeyCacheFill, h2, hv, hc, hk, hs, hab]

/-- With no copy that unwraps, the slot is DAMAGED and the jobs that wait for it end KEY_INTEGRITY. -/
theorem exec_keyCacheFill_none (hs : entryBad s i = false) :
    exec (.keyCacheFill i false false) s = .next ((missJobs s i).foldl
      (fun s id => (finish s id 0x5011 [] 6).bump gKeystoreIntegrityFail) (damageSlot s i 1)) := by
  change execKeyCacheFill i false false s = _
  simp [execKeyCacheFill, h2, hv, hc, hk, hs]

end

theorem fillCache_jobs (s : State) (i : Nat) : (fillCache s i).jobs = s.jobs :=
  (fillCache_writes (wm := 1048576) (Writes.refl _ s) (by decide)).jobs (by decide)

/-- A counter raised changes no job. -/
theorem Ended.bump {id st tc : Nat} {out : Bytes} (h : Ended s t id st out tc) (e : GE) : Ended s (t.bump e) id st out tc := h

/-- A job that has counted no use returns none: the key store is as before (09 R359). -/
theorem finish_keys_unused {id : Nat} (st : Nat) (out : Bytes) (tc : Nat) (h : (s.job id).uses = []) :
    (finish s id st out tc).keys = s.keys := by
  have hrel : (releaseUnits s id).keys = s.keys :=
    (releaseUnits_writes (wm := 2185254016) (Writes.refl _ s) (by decide)).keys (by decide)
  have huses : ((releaseUnits s id).job id).uses = [] := by
    rw [releaseUnits_job, if_pos rfl]
    exact h
  unfold finish
  rw [State.withJob_keys, onlyIf]
  split
  · rw [returnUses, huses, State.withJob_keys]
    exact hrel
  · exact hrel

end

/-! ### The obligation -/

/-- Settles O27: each clause is one outcome of its command. -/
theorem keyStoreCommitsAndCache : Obligations.KeyStoreCommitsAndCache := by
  unfold Obligations.KeyStoreCommitsAndCache
  refine ⟨?service, ?page, ?fill⟩
  case service =>
    intro s p c l hcur hq hw hd hs hlen
    refine ⟨_, exec_commitService_turn hcur hw hd (serveCommit_first hq hs hlen), ?_, ?_, ?_⟩
    · rw [vAppend_keys, handedOver, State.withKeys_keys, Tab.get_set_self]
    · rw [vAppend_keys]
      rfl
    · rw [vAppend_keys, handedOver, State.withKeys_keys, hs]
      rfl
  case page =>
    intro s i k hserve hs h2 hv hl hcount hat
    have hdue : pageDue s k = true := by simp [pageDue, h2, hv, hl, hcount, hat]
    have hslot : s.kslot i = k := by simp [State.kslot, hs, Tab.get, Tab.find]
    have hone := dueSlots_one hs hdue
    have hexec := exec_useCountPage hserve (by rw [hone]; exact List.cons_ne_nil _ _)
    rw [hone] at hexec
    refine ⟨_, hexec, ?_, ?_, ?_⟩
    · rw [pageHanded_one_keys]
      rfl
    · rw [pageHanded_one_kslot, hslot]
    · rw [pageHanded_one_kslot]
  case fill =>
    intro s i a b h2 hv hc hk
    refine ⟨fun hs => ?_, fun hs hab => ?_, fun hs ha hb hj => ?_, fun id hs ha hb hj hu => ?_⟩
    · refine ⟨_, exec_keyCacheFill_bad h2 hv hc hk hs a b, ?_, ?_, ?_, fun k hne => ?_, (checkEntry_checks s i).jobs (by decide)⟩
      case refine_4 => rw [checkEntry_bad_kslot hs, if_neg hne]
      all_goals rw [checkEntry_bad_kslot hs, if_pos rfl]
    · obtain ⟨hfilled, hcached⟩ := (fillCache_kslot s i i).1 rfl
      exact ⟨_, exec_keyCacheFill_copy h2 hv hc hk hs hab, hcached, (congrArg KSlot.state hfilled).trans h2,
        fun k hne => (fillCache_kslot s i k).2 hne, fillCache_jobs s i⟩
    · subst ha hb
      refine ⟨_, exec_keyCacheFill_none h2 hv hc hk hs, ?_, ?_⟩
      · rw [hj, List.foldl_nil, damageSlot_kslot, if_pos rfl]
      · rw [hj]
        rfl
    · subst ha hb
      refine ⟨_, exec_keyCacheFill_none h2 hv hc hk hs, ?_, ?_⟩
      · rw [hj, List.foldl_cons, List.foldl_nil]
        have hkeys := finish_keys_unused (s := damageSlot s i 1) 0x5011 [] 6 hu
        rw [State.kslot_congr ((State.bump_keys _ _).trans hkeys), damageSlot_kslot, if_pos rfl]
      · rw [hj]
        exact (finish_ended_of_jobs (damageSlot_jobs s i 1) id 0x5011 [] 6).bump _

end Sys2Proof.Machine
end

section
/-! PROOF. DMA channels (10 R385, R386, R388, R395 to R400): channels started, stopped and aborted, tails, what a COPY or FILL of one host
line leaves to be read back, and the record that a compare completes with. -/

namespace Sys2Proof.Machine

open Sys2Proof

/-! ### Channels and flash queues after an update -/

theorem State.chan_withChan_other (s : State) {c k : Nat} (f : DmaCh → DmaCh) (h : k ≠ c) : (s.withChan c f).chan k = s.chan k :=
  Tab.get_upd_other _ s.dma.chans f h

theorem State.fqueue_withFQueue (s : State) (q : FlashQ) (f : FQueue → FQueue) : (s.withFQueue q f).fqueue q = f (s.fqueue q) := by
  cases q <;> exact Tab.get_upd_self _ _ _ f

/-! ### Channel control (10 R385, R386) -/

section

variable {s : State} {c : Nat}

theorem exec_channelEnable (on : Bool) (hc : c < 512) (hm : s.mainUp = true) :
    exec (.channelEnable c on) s = .next (enableChan s c on) :=
  if_pos (by simp [hc, hm])

theorem exec_channelAbort (hc : c < 512) (hm : s.mainUp = true) : exec (.channelAbort c) s = .next (abortChan s c) :=
  if_pos (by simp [hc, hm])

/-- A system-class channel starts whether or not it is lent (10 R381, R383). -/
theorem enableChan_starts (hc : 384 ≤ c) (h0 : (s.chan c).state = 0) (h1 : 1 ≤ (s.chan c).entries) (h2 : (s.chan c).entries ≤ 4096) :
    enableChan s c true = s.withChan c (fun x => { x with
      state := 1, tail := 0, headN := 0, cqN := 0, skip := false, cur := none, readAt := s.now }) := by
  simp [enableChan, h0, h1, h2, hc]

/-- A channel cleared with nothing in hand stops at once. -/
theorem enableChan_stops (h1 : (s.chan c).state = 1) (hcur : (s.chan c).cur = none) :
    enableChan s c false = (s.withChan c (fun x => { x with state := 2 })).withChan c (fun x => { x with state := 0, skip := false }) := by
  simp [enableChan, settleChan, h1, hcur]

theorem abortChan_chan (h : (s.chan c).state ≠ 0) : ((abortChan s c).chan c).state = 0 ∧ ((abortChan s c).chan c).cur = none := by
  simp [abortChan, h]

/-! ### Tails (04 R145; 10 R385) -/

theorem exec_qTail_channel {v : Nat} (hc : c < 512) (hm : s.mainUp = true) (h1 : (s.chan c).state = 1) (hv : v < 8192)
    (ht : tailOk (s.chan c).entries (s.chan c).headN v = true) :
    exec (.qTail (.dma c) v) s = .next (s.withChan c (fun x => { x with tail := v, readAt := if chanWork x then x.readAt else s.now })) := by
  change execQTail (.dma c) v s = _
  simp [execQTail, tailChan, Nat.mod_eq_of_lt hv, hc, hm, h1, ht]

theorem exec_qTail_flash {ref : QueueRef} {q : FlashQ} {v : Nat} (hq : flashQ ref = some q) (hp : s.hostSupply = true)
    (h1 : (s.fqueue q).state = 1) (hv : v < 8192) (ht : tailOk (s.fqueue q).entries (s.fqueue q).headN v = true) :
    exec (.qTail ref v) s = .next (s.withFQueue q (fun x => { x with tail := v })) := by
  change execQTail ref v s = _
  cases ref with
  | dma c => cases hq
  | code k | vault k => simp [execQTail, hq, hp, tailQueue, Nat.mod_eq_of_lt hv, h1, ht]

end

/-! ### What a descriptor that passes Table 4 has -/

/-- A list of checks that all pass. -/
theorem firstFail_pass : ∀ {l : List (Bool × Nat)}, (∀ e ∈ l, e.2 ≠ 0) → firstFail l = 0 → ∀ e ∈ l, e.1 = true
  | [], _, _ => by simp
  | (true, _) :: _, hne, h => List.forall_mem_cons.mpr ⟨rfl, firstFail_pass (List.forall_mem_cons.mp hne).2 h⟩
  | (false, _) :: _, hne, h => absurd h (List.forall_mem_cons.mp hne).1

/-- Each side that the operation uses has bytes, and the two sides of a COPY or a COMPARE_BUF have as many (10 Table 4 checks 5, 10). -/
theorem dmaCheck_sides {data : Bool} {d : DDesc} (h : dmaCheck data d = 0) :
    (d.op = 0 ∨ d.op = 3 → d.src.total = d.dst.total) ∧ (d.op ≠ 1 → d.src.total ≠ 0) ∧ (d.op ≠ 2 → d.dst.total ≠ 0) := by
  have hpass := firstFail_pass (by simp) h
  simp only [List.forall_mem_cons] at hpass
  obtain ⟨-, -, -, -, hlen, -, -, -, -, hbytes, -⟩ := hpass
  simp only [Bool.or_eq_true, Bool.and_eq_true, beq_iff_eq, Bool.not_eq_true', bne_iff_ne, usesSrc, usesDst, bne_eq_false_iff_eq]
    at hlen hbytes
  omega

theorem Side.total_line {x : Side} (h : x.lines = 1) : x.total = x.len := by rw [Side.total, h, Nat.mul_one]

section

variable {s : State} {c op : Nat}

theorem DmaTurn.op_eq (h : DmaTurn s c op) : (headDesc s c).op = op := by
  obtain ⟨-, -, -, -, -, hop, -⟩ := h
  exact hop

/-- A command that takes the operation runs the descriptor in turn (10 R389). -/
theorem DmaTurn.onDma_runs (h : DmaTurn s c op) {ops : Nat → Bool} (ho : ops op = true) (host : Bytes) :
    onDma s c ops host = runDesc s c (headDesc s c) host none := by
  obtain ⟨hc, hm, hwork, hcur, hskip, hop, hcheck, -⟩ := h
  simp [onDma, Nat.not_le.mpr hc, hm, hwork, hcur, hop, ho, hskip, hcheck]

/-! ### Transfers to one line of host memory (10 R388, R395) -/

/-- The bytes of one host line, written under the routing ID of the channel's function. -/
theorem sideWrite_hostLine (s : State) (c : Nat) {x : Side} (bs : Bytes) (hi : x.inModule = false) (hl : x.lines = 1) :
    sideWrite s c x bs = s.hostWrite (chanFn s c) x.addr (bs.take x.len) := by
  simp only [sideWrite, pieces, hi, hl, Bool.false_eq_true, if_false, List.range_one, List.map_cons, List.map_nil, List.foldl_cons,
    List.foldl_nil, Nat.zero_mul, Nat.add_zero, List.drop_zero, Bool.not_false, if_true]
  split
  · rename_i hb
    rw [List.isEmpty_iff.mp hb]
    rfl
  · rfl

/-- Data staged touches the channel's transit units alone, and not the function that the channel speaks for. -/
theorem stageData_stages (s : State) (c : Nat) (bs : Bytes) : Writes 4194304 s (stageData s c bs) :=
  stageData_writes (Writes.refl _ s) (by decide)

theorem stageData_chanFn (s : State) (c : Nat) (bs : Bytes) : chanFn (stageData s c bs) c = chanFn s c := by
  by_cases hc : c < 384
  · simp [chanFn, chanId, lentTo, hc, (stageData_stages s c bs).jobs (by decide)]
  · simp [chanFn, hc]

theorem stageData_headN (s : State) (c : Nat) (bs : Bytes) : ((stageData s c bs).chan c).headN = (s.chan c).headN := by
  simp [stageData, drawUnits]

/-- A transfer that has written waits for its read-back. -/
theorem endDesc_waits (s : State) (c : Nat) {d : DDesc} {n : Nat} (hop : d.op = 0 ∨ d.op = 1) (hn : n ≠ 0) :
    endDesc s c d 0 0 n false = s.withChan c (fun x => { x with cur := some ⟨d.tag, d.link, d.noEvent, 0, 0, n⟩ }) :=
  if_pos ⟨hop, hn⟩

/-- A transfer written to a host address of a channel's function, of which `n` bytes wait to be read back. -/
def lineWritten (s : State) (c : Nat) (d : DDesc) (n : Nat) (bs : Bytes) : State :=
  (s.hostWrite (chanFn s c) d.dst.addr bs).withChan c (fun x => { x with cur := some ⟨d.tag, d.link, d.noEvent, 0, 0, n⟩ })

theorem lineWritten_cur (s : State) (c : Nat) (d : DDesc) (n : Nat) (bs : Bytes) :
    ((lineWritten s c d n bs).chan c).cur = some ⟨d.tag, d.link, d.noEvent, 0, 0, n⟩ := by simp [lineWritten]

theorem lineWritten_headN (s : State) (c : Nat) (d : DDesc) (n : Nat) (bs : Bytes) :
    ((lineWritten s c d n bs).chan c).headN = (s.chan c).headN := by
  rw [lineWritten, State.chan_withChan]
  rfl

/-- COPY of module memory, untransformed, to one host line. -/
theorem DmaTurn.exec_copy_line (h : DmaTurn s c 0) (host : Bytes) (hx : (headDesc s c).xform = 0)
    (hs : (headDesc s c).src.inModule = true) (hd : (headDesc s c).dst.inModule = false) (hl : (headDesc s c).dst.lines = 1) :
    exec (.copy c host) s =
      let d := headDesc s c
      let bs := sideRead s d.src d.src.total
      .next (lineWritten (stageData s c bs) c d d.src.total (bs.take d.src.total)) := by
  have hrun := h.onDma_runs (ops := fun op => op == 0 || decide (4 ≤ op)) rfl host
  obtain ⟨-, -, -, -, -, hop, hcheck, hfault⟩ := h
  obtain ⟨hlen, hsrc, -⟩ := dmaCheck_sides hcheck
  have hlen := (hlen (.inl hop)).trans (Side.total_line hl)
  have hn : (headDesc s c).src.total ≠ 0 := hsrc (by omega)
  change Host.Outcome.next (onDma s c _ host) = _
  rw [hrun]
  simp only [runDesc, hfault, hop, usesSrc, hx, xformUnit, Nat.mod_one, if_true, applyXform, sideData, hs, List.append_nil,
    Option.map_none, Option.getD_none, sideWrite_hostLine _ _ _ hd hl, bne_iff_ne, ne_eq, Nat.zero_ne_one, not_false_eq_true]
  rw [endDesc_waits _ _ (.inl hop) hn, ← hlen, List.take_take, Nat.min_self]
  rfl

/-- FILL of one host line. -/
theorem DmaTurn.exec_fill_line (h : DmaTurn s c 1) (hd : (headDesc s c).dst.inModule = false) (hl : (headDesc s c).dst.lines = 1) :
    exec (.fill c) s =
      let d := headDesc s c
      .next (lineWritten s c d d.dst.len (patternBytes d.pattern d.dst.len)) := by
  have hrun := h.onDma_runs (ops := (· == 1)) rfl []
  obtain ⟨-, -, -, -, -, hop, hcheck, hfault⟩ := h
  obtain ⟨-, -, hdst⟩ := dmaCheck_sides hcheck
  have hn : (headDesc s c).dst.len ≠ 0 := Side.total_line hl ▸ hdst (by omega)
  have htake : (patternBytes (headDesc s c).pattern (headDesc s c).dst.len).take (headDesc s c).dst.len = _ :=
    List.take_of_length_le (by simp [patternBytes])
  change Host.Outcome.next (onDma s c _ []) = _
  rw [hrun]
  simp only [runDesc, hfault, hop, usesSrc, Option.map_none, Option.getD_none, bne_self_eq_false, Bool.false_eq_true, if_false,
    Side.total_line hl, sideWrite_hostLine _ _ _ hd hl, htake]
  rw [endDesc_waits _ _ (.inr hop) hn]
  rfl

end

/-! ### Completion records (10 R397, R399) -/

theorem length_toLE : ∀ n v : Nat, (toLE n v).length = n
  | 0, _ => rfl
  | n + 1, v => congrArg (· + 1) (length_toLE n (v / 256))

theorem getElem_toLE : ∀ (n v i : Nat) (h : i < (toLE n v).length), (toLE n v)[i] = BitVec.ofNat 8 (v / 256 ^ i)
  | 0, _, _, h => absurd h (Nat.not_lt_zero _)
  | n + 1, v, 0, _ => by simp [toLE]
  | n + 1, v, i + 1, h => by
    simp only [toLE, List.getElem_cons_succ]
    rw [getElem_toLE n (v / 256) i, Nat.div_div_eq_div_mul, Nat.pow_succ, Nat.mul_comm]

/-- The value of the completion record of a channel's head descriptor (10 Table 5). -/
def recordValue (x : DmaCh) (d : DDesc) (status offset done : Nat) (unknown mismatch : Bool) : Nat :=
  b2n (decide (qIdx x.cqN x.entries < x.entries)) + 2 * qIdx (x.headN + 1) x.entries + 2 ^ 64 * b2n mismatch +
    2 ^ 65 * b2n unknown + 2 ^ 80 * status + 2 ^ 96 * d.tag + 2 ^ 128 * done + 2 ^ 192 * offset

/-- Where a channel's next completion record stands. -/
def recordAt (x : DmaCh) : Nat := x.cqBase + 32 * (x.cqN % x.entries)

/-- In a record of status OK, the low bit of byte 8 tells of a mismatch, and no other bit of the byte is set. -/
theorem recordValue_mismatch {x : DmaCh} (d : DDesc) (offset done : Nat) (mismatch : Bool) (h0 : x.entries ≠ 0) (h1 : x.entries ≤ 4096) :
    recordValue x d 0 offset done false mismatch / 256 ^ 8 % 256 = b2n mismatch := by
  have hq : qIdx (x.headN + 1) x.entries < 2 * x.entries := Nat.mod_lt _ (by omega)
  have hp := b2n_le_one (decide (qIdx x.cqN x.entries < x.entries))
  have hm := b2n_le_one mismatch
  have hu : b2n false = 0 := rfl
  unfold recordValue
  omega

theorem putRecord_mem (s : State) (c : Nat) (d : DDesc) (status offset done : Nat) (unknown mismatch : Bool) :
    (putRecord s c d status offset done unknown mismatch).mem =
      Mem.write 0 s.mem (recordAt (s.chan c)) (toLE 32 (recordValue (s.chan c) d status offset done unknown mismatch)) := by
  unfold putRecord
  extract_lets x rec_ s1 s2
  have hrec : rec_ = toLE 32 (recordValue x d status offset done unknown mismatch) := rfl
  rw [← hrec]
  clear_value rec_
  split
  · rfl
  · exact (sendEvents_writes (wm := 33554432) (Writes.refl _ s2) (by decide)).mem (by decide)

/-- A completion that is not BAD leaves its record in module memory. -/
theorem completeDesc_mem (s : State) (c : Nat) (d : DDesc) (offset done : Nat) (unknown mismatch : Bool) :
    (completeDesc s c d 0 offset done unknown mismatch).mem =
      Mem.write 0 s.mem (recordAt (s.chan c)) (toLE 32 (recordValue (s.chan c) d 0 offset done unknown mismatch)) := by
  unfold completeDesc
  extract_lets bad s1
  rw [(settleChan_writes (wm := 4194304) (Writes.refl _ _) (by decide)).mem (by decide)]
  exact putRecord_mem s c d 0 offset done unknown mismatch

theorem completeDesc_hostMem (s : State) (c : Nat) (d : DDesc) (status offset done : Nat) (unknown mismatch : Bool) :
    (completeDesc s c d status offset done unknown mismatch).hostMem = s.hostMem :=
  (completeDesc_writes (wm := 3258974208) (Writes.refl _ s) (by decide)).hostMem (by decide)

/-! ### Compares (10 R388, R397, R400) -/

/-- A compare of `n` bytes that found its first difference at `r`, or none. -/
def compared (s : State) (c : Nat) (d : DDesc) (n : Nat) (r : Option Nat) : State :=
  completeDesc s c d 0 (r.getD 0) (r.getD n) false r.isSome

/-- A completed compare wrote one completion record, which tells whether there is a difference. -/
theorem compared_record {s : State} {c : Nat} (d : DDesc) (n : Nat) (r : Option Nat) (h0 : (s.chan c).entries ≠ 0)
    (h1 : (s.chan c).entries ≤ 4096) (hwf : Mem.wf 0 s.mem = true) :
    let a := (s.chan c).cqBase + 32 * ((s.chan c).cqN % (s.chan c).entries)
    let t := compared s c d n r
    (t.chan c).headN = (s.chan c).headN + 1 ∧ (t.chan c).cqN = (s.chan c).cqN + 1 ∧ t.hostMem = s.hostMem ∧
      (∀ k, k < a ∨ a + 32 ≤ k → Mem.get 0 t.mem k = Mem.get 0 s.mem k) ∧ (Mem.get 0 t.mem (a + 8)).toNat = b2n r.isSome := by
  intro a t
  obtain ⟨st, sk, hchan⟩ := completeDesc_chan s c d 0 (r.getD 0) (r.getD n) false r.isSome
  have hmem := completeDesc_mem s c d (r.getD 0) (r.getD n) false r.isSome
  refine ⟨congrArg DmaCh.headN hchan, congrArg DmaCh.cqN hchan, completeDesc_hostMem .., fun k hk => ?outside, ?flag⟩
  case outside =>
    rw [show t.mem = _ from hmem, Mem.get_write_outside _ _ _ hwf (by rwa [length_toLE])]
  case flag =>
    rw [show t.mem = _ from hmem]
    have hbyte := Mem.get_write_inside (toLE 32 (recordValue (s.chan c) d 0 (r.getD 0) (r.getD n) false r.isSome))
      (recordAt (s.chan c)) 8 hwf (by rw [length_toLE]; decide)
    rw [getElem_toLE] at hbyte
    exact (congrArg BitVec.toNat hbyte).trans (recordValue_mismatch d _ _ _ h0 h1)

theorem chanWork_entries {x : DmaCh} (h : chanWork x = true) : x.entries ≠ 0 := by
  simp only [chanWork, Bool.and_eq_true, bne_iff_ne] at h
  obtain ⟨⟨-, hne⟩, -⟩ := h
  exact hne

section

variable {s : State} {c : Nat}

theorem DmaTurn.entries_ne_zero {op : Nat} (h : DmaTurn s c op) : (s.chan c).entries ≠ 0 := by
  obtain ⟨-, -, hwork, -⟩ := h
  exact chanWork_entries hwork

/-- A compare ends where it finds a difference. -/
theorem endDesc_differs (s : State) (c : Nat) {d : DDesc} (n m : Nat) (h0 : d.op ≠ 0) (h1 : d.op ≠ 1) :
    endDesc s c d 0 m m true = compared s c d n (some m) :=
  if_neg (by simp [h0, h1])

/-- It ends at its length when it finds none. -/
theorem endDesc_equal (s : State) (c : Nat) {d : DDesc} (n : Nat) (h0 : d.op ≠ 0) (h1 : d.op ≠ 1) :
    endDesc s c d 0 0 n false = compared s c d n none :=
  if_neg (by simp [h0, h1])

/-- What a compare holds its source against: the pattern, or the other side (10 R388). -/
def compareWith (s : State) (d : DDesc) (host : Bytes) : Bytes :=
  if d.op = 2 then patternBytes d.pattern d.src.total else sideData s d.dst host d.src.total

/-- A compare in turn ends without a fault, at its first difference or at its length. -/
theorem DmaTurn.onDma_compares {op : Nat} (h : DmaTurn s c op) (h23 : op = 2 ∨ op = 3) {ops : Nat → Bool} (ho : ops op = true)
    (host : Bytes) :
    onDma s c ops host =
      let d := headDesc s c
      compared s c d d.src.total (firstDiff 0 (sideData s d.src host d.src.total) (compareWith s d host)) := by
  rw [h.onDma_runs ho]
  obtain ⟨-, -, -, -, -, hop, -, hfault⟩ := h
  have h1 : (headDesc s c).op ≠ 1 := by omega
  rcases h23 with rfl | rfl
  all_goals
    simp only [runDesc, hfault, hop, usesSrc, compareWith, Option.map_none, Option.getD_none, bne_iff_ne, ne_eq, OfNat.ofNat_ne_one,
      Nat.reduceEqDiff, not_false_eq_true, if_true, if_false]
    generalize firstDiff 0 _ _ = r
    cases r with
    | none => exact endDesc_equal s c _ (by omega) h1
    | some m => exact endDesc_differs s c _ m (by omega) h1

theorem DmaTurn.exec_compareConst (h : DmaTurn s c 2) (host : Bytes) :
    exec (.compareConst c host) s =
      let d := headDesc s c
      .next (compared s c d d.src.total (firstDiff 0 (sideData s d.src host d.src.total) (patternBytes d.pattern d.src.total))) := by
  have hwith : compareWith s (headDesc s c) host = _ := if_pos h.op_eq
  dsimp only
  rw [← hwith]
  exact congrArg _ (h.onDma_compares (.inl rfl) rfl host)

theorem DmaTurn.exec_compareBuf (h : DmaTurn s c 3) (host : Bytes) :
    exec (.compareBuf c host) s =
      let d := headDesc s c
      .next (compared s c d d.src.total (firstDiff 0 (sideData s d.src host d.src.total) (sideData s d.dst host d.src.total))) := by
  have hwith : compareWith s (headDesc s c) host = _ := if_neg (by simp [h.op_eq])
  dsimp only
  rw [← hwith]
  exact congrArg _ (h.onDma_compares (.inr rfl) rfl host)

end

/-! ### The obligation -/

/-- Settles O13: each clause reads off the state that the lemma above gives its command. -/
theorem dmaOperations : Obligations.DmaOperations := by
  unfold Obligations.DmaOperations
  refine ⟨?control, ?tail, ?flashTail, ?copy, ?fill, ?const, ?buf⟩
  case control =>
    intro s c hl hc hm
    refine ⟨fun h0 h1 h2 => ⟨_, (exec_channelEnable true hc hm).trans (congrArg _ (enableChan_starts hl h0 h1 h2)), ?started⟩,
      fun h1 hcur => ⟨_, (exec_channelEnable false hc hm).trans (congrArg _ (enableChan_stops h1 hcur)), ?stopped⟩,
      fun h => ⟨_, exec_channelAbort hc hm, abortChan_chan h⟩⟩
    case started =>
      rw [State.chan_withChan]
      exact ⟨rfl, rfl, rfl, rfl, fun k hk => State.chan_withChan_other s _ hk, rfl⟩
    case stopped =>
      rw [State.chan_withChan]
      exact ⟨rfl, fun k hk => (State.chan_withChan_other _ _ hk).trans (State.chan_withChan_other s _ hk), rfl⟩
  case tail =>
    intro s c v hc hm h1 hv ht
    refine ⟨_, exec_qTail_channel hc hm h1 hv ht, ?_, fun k hk => State.chan_withChan_other s _ hk, rfl⟩
    rw [State.chan_withChan]
  case flashTail =>
    intro s ref q v hq hp h1 hv ht
    have hw := State.withFQueue_writes (q := q) (f := fun x => { x with tail := v }) (wm := 25165824) (Writes.refl _ s) (by decide)
    exact ⟨_, exec_qTail_flash hq hp h1 hv ht, State.fqueue_withFQueue s q _, hw.mem (by decide), hw.dma (by decide)⟩
  case copy =>
    intro s c host h hx hs hd hl d
    have hstage := stageData_stages s c (sideRead s d.src d.src.total)
    refine ⟨_, h.exec_copy_line host hx hs hd hl, hstage.mem (by decide), ?_, lineWritten_cur .., ?_⟩
    · rw [lineWritten, State.withChan_hostMem, State.hostWrite_hostMem, stageData_chanFn, hstage.hostMem (by decide)]
    · rw [lineWritten_headN, stageData_headN]
  case fill =>
    intro s c h hd hl d
    exact ⟨_, h.exec_fill_line hd hl, rfl, rfl, lineWritten_cur ..⟩
  case const =>
    intro s c host h h1 hwf d a
    exact ⟨_, h.exec_compareConst host, compared_record d _ _ h.entries_ne_zero h1 hwf⟩
  case buf =>
    intro s c host h h1 hwf d a
    exact ⟨_, h.exec_compareBuf host, compared_record d _ _ h.entries_ne_zero h1 hwf⟩

end Sys2Proof.Machine
end

section
/-! PROOF. Stream jobs (10 R405, R412 to R420): a job bound to an engine, its key load and the checks of Table 11, one segment of a job in
turn, and the first mismatch between an engine's two paths. -/

namespace Sys2Proof.Machine

open Sys2Proof

/-! ### Binding (10 R415) -/

/-- A job whose engine was lost is bound again: it left staging before. -/
theorem bindJob_again {s : State} {id : Nat} (e : Nat) (hp : (s.job id).phase = .waitEngine) :
    bindJob s id e = s.withJob id (fun j => { j with engine := some e, phase := .streaming }) := by
  simp [bindJob, hp]

theorem exec_streamBind_again {s : State} {e id : Nat} (hs : s.serving = true) (he : pickEngine s = some e)
    (hid : (s.jobsWith (fun j => j.phase == .waitEngine)).head? = some id) (hp : (s.job id).phase = .waitEngine) :
    exec .streamBind s = .next (s.withJob id (fun j => { j with engine := some e, phase := .streaming })) := by
  change execStreamBind s = _
  simp [execStreamBind, hs, he, hid, bindJob_again e hp]

/-! ### Key load and validation (10 R405, R412) -/

/-- A bound stream job of an opcode that has no key yet, with `head` as its operand A and `data` as its operand B: operands of at most 2 KiB
stand in its staging slot, larger ones come with the command through the channel lent to it (04 R179, 10 R401). -/
structure StreamTurn (s : State) (id op : Nat) (opa opb head data : Bytes) : Prop where
  opcode : (s.job id).d.opcode = op
  bound : (s.job id).engine.isSome = true
  streaming : (s.job id).phase = .streaming
  keyless : (s.job id).strm.key = []
  fresh : (s.job id).strm.rekey = false
  lent : 2048 < operandBytes (s.job id).d → s.link.state = .l0 ∧ (s.job id).chan.isSome = true
  head_eq : (if decide (operandBytes (s.job id).d ≤ 2048) then (s.job id).opa else opa) = head
  data_eq : (if decide (operandBytes (s.job id).d ≤ 2048) then (s.job id).opb else opb) = data
  head_length : head.length = (s.job id).d.opaLen
  data_length : data.length = (s.job id).d.opbLen

/-- A loaded stream job that passed its checks keeps its operands and its key. -/
def streamKeyed (s : State) (id : Nat) (head data key : Bytes) : State :=
  s.withJob id (fun j => { j with phase := .streaming, opa := head, opb := data, strm := { j.strm with key := key } })

/-- Its slot loaded, a job ends with the status of the first failed check of Table 11, or keeps its key. -/
theorem StreamTurn.startStream_loaded {s s1 : State} {id op : Nat} {opa opb head data : Bytes} (h : StreamTurn s id op opa opb head data)
    (hl : tryLoad s id (s.job id).d.handle (streamAsk (s.job id).d) = (0, s1)) :
    startStream s id op opa opb =
      let v := streamCheck (s.job id).d data (streamKey s (s.job id) data)
      .next (if v = 0 then streamKeyed s1 id head data ((streamKey s (s.job id) data).getD []) else finish s1 id v [] 2) := by
  obtain ⟨hop, hbound, hphase, hkey, hfresh, hlent, hhead, hdata, hheadLen, hdataLen⟩ := h
  obtain ⟨e, hbound⟩ := Option.isSome_iff_exists.mp hbound
  unfold startStream
  simp only [hhead, hdata, hfresh, Bool.false_eq_true, if_false, hl]
  rw [if_neg (by simpa [hop, hbound, hphase, hkey, hheadLen, hdataLen, Option.isSome_iff_ne_none] using hlent)]
  by_cases hv : streamCheck (s.job id).d data (streamKey s (s.job id) data) = 0
  · simp only [hv, ne_eq, not_true, if_true, if_false]
    rfl
  · simp only [hv, ne_eq, not_false_eq_true, if_true, if_false]

theorem exec_streamStart {c : Instr} {id op : Nat} {opa opb : Bytes}
    (h : (c = .streamSeal id opa opb ∧ op = 0x0601) ∨ (c = .streamOpen id opa opb ∧ op = 0x0602)) (s : State) :
    exec c s = startStream s id op opa opb := by
  rcases h with ⟨rfl, rfl⟩ | ⟨rfl, rfl⟩ <;> rfl

/-! ### Segments (10 R413, R417) -/

/-- An engine of a module that serves, in L0, whose only validated job is one of the partition in turn (10 R414). -/
structure SegTurn (s : State) (e id : Nat) (j : Job) : Prop where
  serving : s.serving = true
  l0 : s.link.state = .l0
  up : (enginesUp s).contains e = true
  only : segJobs s e = [(id, j)]
  job : s.job id = j
  inTurn : s.dma.engCur.get 1024 e = j.part
  credit : 0 < Tab.get 0 (s.dma.engDef.get [] e) j.part

/-- The payload bytes of a job's next segment. -/
abbrev segLen (j : Job) : Nat := min 65536 (j.d.payload - j.strm.done)

/-- A job's payload transformed. -/
abbrev streamOut (j : Job) : Bytes := cipher j.d j.strm.key j.opb (j.opa.take j.d.payload)

/-- A job whose next segment's running state is committed. -/
def Job.segCommitted (j : Job) : Job := { j with strm := { j.strm with done := j.strm.done + segLen j, started := true } }

/-- A segment commits its job's running state and touches no other job; the last one ends the pass. -/
theorem runSegment_commits (s : State) (id : Nat) : ∃ t : State,
    (∀ k, t.job k = if k = id then (s.job id).segCommitted else s.job k) ∧
      runSegment s id = if (s.job id).strm.done + segLen (s.job id) = (s.job id).d.payload
        then endStream t id (streamOut (s.job id)) else t := by
  unfold runSegment
  extract_lets j out n held s1 s2
  have hjobs : s1.jobs = s.jobs :=
    (laterRead_writes (wm := 17179869312) (Writes.ite (Writes.refl _ s) (State.hostWrite_writes (Writes.refl _ s) (by decide)))
      (by decide)).jobs (by decide)
  refine ⟨s2, fun k => ?_, rfl⟩
  rw [State.withJob_job, State.job_congr hjobs, State.job_congr hjobs]
  rfl

/-- The end of an XTS pass: the output is whole, and AAD and payload are counted (10 R417, R425). -/
theorem endStream_xts {t : State} {id : Nat} (out : Bytes) (h : (t.job id).d.aead = false) :
    endStream t id out = finish (t.withJob id (fun j => { j with stream := hdrAad j.opb + j.d.payload })) id 0 out 4 := by
  simp [endStream, h]

theorem endStream_xts_ended {t : State} {id : Nat} (out : Bytes) (h : (t.job id).d.aead = false) :
    Ended t (endStream t id out) id 0 out 4 ∧
      ((endStream t id out).job id).stream = hdrAad (t.job id).opb + (t.job id).d.payload := by
  rw [endStream_xts out h]
  refine ⟨(finish_ended _ id 0 out 4).of_others fun k hk => State.job_withJob_other t _ hk, ?_⟩
  rw [finish_job, if_pos rfl, State.job_withJob]
  rfl

/-- The engine's account of a partition after a segment: it pays the segment's bytes, or leaves the round with its last job (10 R414). -/
def segCharged (t : State) (e : Nat) (j : Job) : State :=
  t.withDma (fun x => { x with engDef := x.engDef.upd [] e (fun a =>
    if (segJobs t e).any (fun y => y.2.part == j.part) then Tab.set a j.part (Tab.get 0 a j.part - segBytes j) else Tab.erase a j.part) })

section

variable {s : State} {e id : Nat} {j : Job}

/-- The job in turn has its segment, unless the two paths differ. -/
theorem SegTurn.exec_streamSegment (h : SegTurn s e id j) (mismatch : Bool) :
    exec (.streamSegment e mismatch) s =
      .next (if mismatch then segMismatch s id e else segCharged (runSegment s id) e j) := by
  obtain ⟨hs, h0, hup, honly, -, hcur, hcredit⟩ := h
  change execStreamSegment e mismatch s = _
  simp only [execStreamSegment, hs, h0, hup, honly, hcur, hcredit, List.map_cons, List.map_nil]
  cases mismatch <;> simp [honly, segCharged]

theorem SegTurn.exec_matched (h : SegTurn s e id j) :
    exec (.streamSegment e false) s = .next (segCharged (runSegment s id) e j) := h.exec_streamSegment false

theorem SegTurn.exec_mismatched (h : SegTurn s e id j) : exec (.streamSegment e true) s = .next (segMismatch s id e) :=
  h.exec_streamSegment true

end

/-! ### A first mismatch (10 R420; 20 R718, R854) -/

/-- A first event of a monitor whose N is above 1 is counted, and raises no alarm. -/
theorem countEvent_first {s : State} {m : Nat} (value : Nat) (h : s.tamper.mons = []) (hn : 1 < s.monN m) :
    ∃ x, countEvent s m value = (s.bumps gTamperMonEvents m).withTamper (fun t => { t with mons := t.mons.set m x }) := by
  have htimes : (s.tamper.mons.get {} m).times = [] := by rw [h]; rfl
  unfold countEvent
  extract_lets x times held s1 fire x1 s2
  have hfire : fire = false := by simp [fire, times, x, htimes, Nat.not_le.mpr hn]
  exact ⟨x1, if_neg (by simp [hfire])⟩

/-- So with the first report of a unit in the window of FAULT_BURST. -/
theorem countBurst_first {s : State} {unit : Nat} (value : Nat) (h : s.tamper.burst = []) (hn : 1 < s.monN 19) :
    ∃ f, countBurst s unit value = (s.bumps gTamperMonEvents 19).withTamper f := by
  have htimes : s.tamper.burst.get [] unit = [] := by rw [h]; rfl
  unfold countBurst
  extract_lets times held s1
  have hquiet : ¬ s.monN 19 ≤ times.length := by simp [times, htimes, Nat.not_le.mpr hn]
  exact ⟨_, if_neg hquiet⟩

/-- A first fault report that raises no alarm touches the monitors and their counts alone. -/
theorem faultReport_first {s : State} (unit : Nat) (hm : s.tamper.mons = []) (hb : s.tamper.burst = []) (hr : 1 < s.monN 18)
    (hn : 1 < s.monN 19) : Writes 1074003968 s (faultReport s unit) := by
  unfold faultReport
  split
  · obtain ⟨x, hx⟩ := countEvent_first unit hm hr
    have hn' : (countEvent s 18 unit).monN 19 = s.monN 19 := by
      rw [hx]
      exact Tab.get_set_other _ _ _ (by decide)
    obtain ⟨f, hf⟩ := countBurst_first (unit := unit) unit (s := countEvent s 18 unit) (by rw [hx]; exact hb) (hn' ▸ hn)
    rw [hf, hx]
    exact State.withTamper_writes (State.bumps_writes (State.withTamper_writes (State.bumps_writes (Writes.refl _ s) (by decide))
      (by decide)) (by decide)) (by decide)
  · exact Writes.refl _ s

/-- A mismatch reported and counted in its job, before the retry. -/
def mismatchNoted (s : State) (id e : Nat) : State :=
  (faultReport (s.report (strIsl e) 0x0305 e (s.job id).strm.done) (64 + e)).withJob id (fun j =>
    { j with strm := { j.strm with mism := (s.job id).strm.mism + 1 } })

theorem segMismatch_first {s : State} {id e : Nat} (h : (s.job id).strm.mism = 0) :
    segMismatch s id e = (mismatchNoted s id e).bump gStreamRetryTotal := by
  simp [segMismatch, mismatchNoted, h]

theorem segMismatch_first_mism {s : State} {id e : Nat} (h : (s.job id).strm.mism = 0) :
    ((segMismatch s id e).job id).strm.mism = 1 := by
  rw [segMismatch_first h, State.job_congr (State.bump_jobs _ _), mismatchNoted, State.job_withJob, h]

/-- Where the report raises no alarm, the job's count is all that a first mismatch changes of jobs and host memory. -/
theorem segMismatch_first_quiet {s : State} {id e : Nat} (h : (s.job id).strm.mism = 0) (hm : s.tamper.mons = [])
    (hb : s.tamper.burst = []) (hr : 1 < s.monN 18) (hn : 1 < s.monN 19) :
    ((segMismatch s id e).job id).strm.done = (s.job id).strm.done ∧ (segMismatch s id e).hostMem = s.hostMem ∧
      ∀ k, k ≠ id → (segMismatch s id e).job k = s.job k := by
  have hw : Writes 1074003968 (s.report (strIsl e) 0x0305 e (s.job id).strm.done) _ := faultReport_first (64 + e) hm hb hr hn
  have hjobs := hw.jobs (by decide)
  rw [segMismatch_first h]
  simp only [State.job_congr (State.bump_jobs _ _)]
  refine ⟨?_, hw.hostMem (by decide), fun k hk => ?_⟩
  · rw [mismatchNoted, State.job_withJob, State.job_congr hjobs]
    rfl
  · rw [mismatchNoted, State.job_withJob_other _ _ hk, State.job_congr hjobs]
    rfl

/-! ### The obligation -/

/-- Settles O20: each clause reads off the state that the lemma above gives its command. -/
theorem streamJobs : Obligations.StreamJobs := by
  unfold Obligations.StreamJobs
  refine ⟨?bind, ?start, ?segment⟩
  case bind =>
    intro s e id hs he hid hp
    refine ⟨_, exec_streamBind_again hs he hid hp, ?_, ?_, fun k hk => State.job_withJob_other s _ hk, rfl⟩ <;>
      rw [State.job_withJob]
  case start =>
    intro s s1 id op opa opb c hc hop hbound hphase hkey hfresh hlent small head data hhead hdata hl
    have h : StreamTurn s id op opa opb head data := ⟨hop, hbound, hphase, hkey, hfresh, hlent, rfl, rfl, hhead, hdata⟩
    refine ⟨_, (exec_streamStart hc s).trans (h.startStream_loaded hl), ?_⟩
    split
    · rw [streamKeyed, State.job_withJob]
      exact ⟨rfl, rfl, rfl, rfl⟩
    · exact (finish_ended s1 id _ [] 2).1
  case segment =>
    intro s e id j hs h0 hup honly hjob hcur hcredit n
    have h : SegTurn s e id j := ⟨hs, h0, hup, honly, hjob, hcur, hcredit⟩
    obtain ⟨t, ht, hrun⟩ := runSegment_commits s id
    have hself : t.job id = j.segCommitted := by rw [ht, if_pos rfl, hjob]
    have hothers : ∀ k, k ≠ id → t.job k = s.job k := fun k hk => (ht k).trans (if_neg hk)
    rw [hjob] at hrun
    refine ⟨fun hmore => ?more, fun hlast hx => ?last, fun hmis => ?mismatch⟩
    case more =>
      rw [if_neg (Nat.ne_of_lt hmore)] at hrun
      refine ⟨_, h.exec_matched, ?_⟩
      rw [hrun]
      change (t.job id).strm.done = _ ∧ (t.job id).strm.started = _ ∧ (t.job id).phase = _ ∧ ∀ k, k ≠ id → t.job k = _
      rw [hself]
      exact ⟨rfl, rfl, rfl, hothers⟩
    case last =>
      rw [if_pos hlast] at hrun
      obtain ⟨hended, hcount⟩ := endStream_xts_ended (streamOut j) (t := t) (id := id) (by rw [hself]; exact hx)
      refine ⟨_, h.exec_matched, ?_⟩
      rw [hrun]
      exact ⟨hended.of_others hothers, hcount.trans (by rw [hself]; rfl)⟩
    case mismatch =>
      subst hjob
      exact ⟨_, h.exec_mismatched, segMismatch_first_mism hmis, fun hm hb hr hn => segMismatch_first_quiet hmis hm hb hr hn⟩

end Sys2Proof.Machine
end

section
/-! PROOF. Minutes (11 R437 to R460): what a close puts into the meter, a set made durable, and a delivery that is admitted, fails or waits. -/

namespace Sys2Proof.Machine

open Sys2Proof

/-! ### The closed set and its root (11 R450 to R452) -/

/-- A table built from a list of keys reads, at each of them, as the function that built it. -/
theorem Tab.find_ofKeys {α : Type} (f : Nat → α) {k : Nat} : ∀ {l : List Nat}, k ∈ l → Tab.find (l.map (fun i => (i, f i))) k = some (f k)
  | i :: l, h => by
    rw [List.map_cons, Tab.find]
    by_cases hi : i = k
    · rw [if_pos hi, hi]
    · rw [if_neg hi]
      exact Tab.find_ofKeys f ((List.mem_cons.mp h).resolve_left (Ne.symm hi))

/-- The leaves hash the records under the set's number and its two times; its roots and signatures do not enter. -/
theorem leaves_congr {h k : MinSet} (hrecs : h.recs = k.recs) (hseq : h.seq = k.seq) (hstart : h.start = k.start) (hstop : h.stop = k.stop) :
    leaves h = leaves k := by
  have hbytes : minRecBytes h = minRecBytes k := by
    funext r
    simp only [minRecBytes, hseq, hstart, hstop]
  simp only [leaves, hrecs, hbytes]

/-- The set that closes an open minute, before its root and signatures. -/
def closingSet (s : State) (o : OpenMin) (stop extra : Nat) : MinSet :=
  { seq := s.meter.seq + s.meter.closing.length + 1, flags := o.flags + extra, start := o.start, stop := stop,
    recs := (List.range 1025).map (closeRec s (o.flags + extra)), prevRoot := s.meter.prevRoot }

/-- The set with its root, under some pair of signatures. -/
def closedSet (s : State) (o : OpenMin) (stop extra : Nat) (ec ml : Bytes) : MinSet :=
  { closingSet s o stop extra with root := treeRoot 11 (leaves (closingSet s o stop extra)), sigEc := ec, sigMl := ml }

theorem closedSet_recs_length (s : State) (o : OpenMin) (stop extra : Nat) (ec ml : Bytes) :
    (closedSet s o stop extra ec ml).recs.length = 1025 := by
  simp [closedSet, closingSet]

theorem closedSet_root (s : State) (o : OpenMin) (stop extra : Nat) (ec ml : Bytes) :
    (closedSet s o stop extra ec ml).root = treeRoot 11 (leaves (closedSet s o stop extra ec ml)) := by
  have hleaves : leaves (closedSet s o stop extra ec ml) = leaves (closingSet s o stop extra) := by apply leaves_congr <;> rw [closedSet]
  rw [hleaves, closedSet]

/-! ### The close (11 R437, R444) -/

/-- The accumulators that the next minute starts from. -/
def nextCls (s : State) : Tab MeterCls :=
  (List.range 4100).map (fun k => (k, (closeCls (s.weight (k / 4) (k % 4)) (s.meter.cls.get {} k)).2))

theorem nextCls_get (s : State) {k : Nat} (hk : k < 4100) :
    (nextCls s).get {} k = (closeCls (s.weight (k / 4) (k % 4)) (s.meter.cls.get {} k)).2 := by
  rw [nextCls, Tab.get, Tab.find_ofKeys _ (List.mem_range.mpr hk), Option.getD_some]

/-- A close carries exactly what it does not bill. -/
theorem closeCls_carry (w : Nat) (x : MeterCls) :
    (closeCls w x).2.carry + billOf ((x.acc : Int) + x.carry) * 2 ^ 32 = x.acc + x.carry :=
  Int.sub_add_cancel ..

/-- With or without random input for the signatures, a close chains the set and its root and starts the accumulators afresh. -/
theorem closeMinute_meter {s : State} {o : OpenMin} (ho : s.meter.openMin = some o) (stop extra : Nat) (noRandom : Bool) :
    ∃ ec ml, (closeMinute s stop extra noRandom).meter =
      { s.meter with openMin := none, started := true, closing := s.meter.closing ++ [closedSet s o stop extra ec ml],
                     prevRoot := (closedSet s o stop extra ec ml).root, cls := nextCls s } := by
  have hdraw : (s.drawBytes 32).2.meter = s.meter := rfl
  cases noRandom <;>
    simp only [closeMinute, ho, hdraw, Bool.false_eq_true, if_false, if_true, State.present_meter, State.event_meter, State.withMeter_meter,
      closedSet, closingSet, nextCls] <;>
    exact ⟨_, _, rfl⟩

/-- The state after a minute closed at its boundary and the next one opened, with the time saved. -/
def minuteTurned (s : State) (o : OpenMin) : State :=
  (openMinute (closeMinute s (boundary o.start) 0 s.noPrivRandom) (boundary o.start) 0).withClock
    (fun c => { c with savedDtb := c.dtb, savedSt := c.st, saveStale := false, rateFSaved := c.rateF })

theorem exec_minuteClose {s : State} {o : OpenMin} (ho : s.meter.openMin = some o) (ha : s.meter.accepting = true)
    (hb : boundary o.start ≤ s.dtbNs) : exec .minuteClose s = .next (minuteTurned s o) := by
  change execMinuteClose s = _
  simp only [execMinuteClose, ho, ha, hb, Bool.true_and, decide_true, if_true]
  rfl

/-- Beside the clock, a turn of the minute writes what its close and the next minute's opening write: draws, events and the meter. -/
theorem minuteTurned_steps (s : State) (o : OpenMin) :
    Writes 32802 s (openMinute (closeMinute s (boundary o.start) 0 s.noPrivRandom) (boundary o.start) 0) :=
  openMinute_writes (closeMinute_writes (.refl _ s) (by decide)) (by decide)

/-- The next minute's opening leaves the closed sets, the chain and the accumulators as the close made them. -/
theorem minuteTurned_meter {s : State} {o : OpenMin} (ho : s.meter.openMin = some o) :
    ∃ ec ml, (minuteTurned s o).meter.closing = s.meter.closing ++ [closedSet s o (boundary o.start) 0 ec ml] ∧
      (minuteTurned s o).meter.prevRoot = (closedSet s o (boundary o.start) 0 ec ml).root ∧
      (minuteTurned s o).meter.cls = nextCls s := by
  obtain ⟨ec, ml, hmeter⟩ := closeMinute_meter ho (boundary o.start) 0 s.noPrivRandom
  simp only [minuteTurned, State.withClock_meter, openMinute, State.withMeter_meter, hmeter]
  exact ⟨ec, ml, rfl, rfl, trivial⟩

theorem minuteTurned_openMin (s : State) (o : OpenMin) :
    (minuteTurned s o).meter.openMin.map (fun m => m.start) = some (boundary o.start) := rfl

/-! ### Durable sets (11 R454, R456) -/

theorem exec_minuteSetDurable {s : State} {h : MinSet} {l : List MinSet} (hc : s.meter.closing = h :: l) (hm : s.mainUp = true) :
    exec .minuteSetDurable s = .next (setDurable s h l) := by
  change execMinuteSetDurable s = _
  simp only [execMinuteSetDurable, hc, hm, if_true]

/-! A message touches neither the meter nor host memory. -/

theorem State.msix_meter (s : State) (fn vec : Nat) : (s.msix fn vec).meter = s.meter :=
  (State.msix_writes (.refl 128 s) rfl).meter (by decide)

theorem State.msix_hostMem (s : State) (fn vec : Nat) : (s.msix fn vec).hostMem = s.hostMem :=
  (State.msix_writes (.refl 128 s) rfl).hostMem (by decide)

theorem setDurable_meter (s : State) (h : MinSet) (l : List MinSet) :
    (setDurable s h l).meter =
      { s.meter with
        seq := h.seq, closing := l, vault := s.meter.vault ++ [h], ring := s.meter.ring.set (h.seq % 96) h,
        ready := s.meter.ready.set (h.seq % 96) h.seq,
        md := s.meter.md.mapVals (fun p b => if b.enable && (s.part p).enabled then { b with due := b.due ++ [h.seq] } else b) } := by
  rw [setDurable, State.msix_meter, State.withMeter_meter]

theorem setDurable_msixSent {s : State} (h : MinSet) (l : List MinSet) (hl : s.link.state = .l0) (hd : s.link.d3hot = false) :
    (setDurable s h l).link.msixSent = s.link.msixSent ++ [(0, 2)] :=
  congrArg (fun t => t.link.msixSent) (State.msix_sent (s := s.withMeter _) hl hd 0 2)

/-! ### Deliveries (11 R459, R460) -/

@[simp] theorem State.withMd_md (s : State) (vf : Nat) (f : MdBlock → MdBlock) :
    (s.withMd vf f).meter.md.get {} vf = f (s.meter.md.get {} vf) := Tab.get_upd_self ..

@[simp] theorem State.withMd_hostMem (s : State) (vf : Nat) (f : MdBlock → MdBlock) : (s.withMd vf f).hostMem = s.hostMem := rfl

/-- A failed delivery changes FAULT and CODE of the block alone. -/
@[simp] theorem deliveryFailed_md (s : State) (vf code : Nat) :
    (deliveryFailed s vf code).meter.md.get {} vf = { s.meter.md.get {} vf with fault := true, code := code } :=
  State.withMd_md ..

/-- Where a package of a MINUTE_SEQ goes: the two halves of the block's area take turns. -/
def packageAt (s : State) (vf seq : Nat) : Nat := (s.meter.md.get {} vf).base + seq % 2 * 0x2000

/-- The package as it stands before its seal. -/
def packageWritten (s : State) (vf seq : Nat) (h : MinSet) : State := s.hostWrite vf (packageAt s vf seq) (packageBytes h vf ++ zeros 8)

/-- The package, its seal and MD_LAST. -/
def packageSealed (s : State) (vf seq : Nat) (h : MinSet) : State :=
  ((packageWritten s vf seq h).hostWrite vf (packageAt s vf seq + 0x1FF8) (toLE 8 seq)).withMd vf (fun b => { b with last := seq })

@[simp] theorem packageSealed_md (s : State) (vf seq : Nat) (h : MinSet) :
    (packageSealed s vf seq h).meter.md.get {} vf = { s.meter.md.get {} vf with last := seq } := State.withMd_md ..

@[simp] theorem packageSealed_hostMem (s : State) (vf seq : Nat) (h : MinSet) :
    (packageSealed s vf seq h).hostMem =
      Mem.write 0 (Mem.write 0 s.hostMem (hostPlace vf (packageAt s vf seq)) (packageBytes h vf ++ zeros 8))
        (hostPlace vf (packageAt s vf seq + 0x1FF8)) (toLE 8 seq) := by
  rw [packageSealed, State.withMd_hostMem, State.hostWrite_hostMem, packageWritten, State.hostWrite_hostMem]

section
variable {s : State} {vf seq : Nat} {h : MinSet} (hf : findSet s seq = some h)
include hf

theorem deliverOne_outside (ok : Bool) (hr : rangeOk s vf (packageAt s vf seq) 0x2000 true = false) :
    deliverOne s vf seq ok = deliveryFailed s vf 0x3002 := by
  rw [packageAt] at hr
  simp only [deliverOne, hf, hr, Bool.not_false, if_true]

theorem deliverOne_unread (hr : rangeOk s vf (packageAt s vf seq) 0x2000 true = true) :
    deliverOne s vf seq false = deliveryFailed (packageWritten s vf seq h) vf 0x3003 := by
  rw [packageAt] at hr
  simp only [deliverOne, hf, hr, Bool.not_true, Bool.not_false, Bool.false_eq_true, if_false, if_true]
  rfl

theorem deliverOne_sealed (hr : rangeOk s vf (packageAt s vf seq) 0x2000 true = true) :
    deliverOne s vf seq true = (packageSealed s vf seq h).msix vf (s.gvs gPartitionEventVector vf) := by
  rw [packageAt] at hr
  simp only [deliverOne, hf, hr, Bool.not_true, Bool.false_eq_true, if_false]
  rfl

end

/-- The oldest due delivery taken from a VF's list. -/
def dueTaken (s : State) (vf : Nat) (l : List Nat) : State := s.withMd vf (fun b => { b with due := l })

@[simp] theorem dueTaken_md (s : State) (vf : Nat) (l : List Nat) :
    (dueTaken s vf l).meter.md.get {} vf = { s.meter.md.get {} vf with due := l } := State.withMd_md ..

@[simp] theorem dueTaken_packageAt (s : State) (vf seq : Nat) (l : List Nat) : packageAt (dueTaken s vf l) vf seq = packageAt s vf seq := by
  rw [packageAt, dueTaken_md, packageAt]

theorem exec_minuteDelivery {s : State} {vf seq : Nat} {l : List Nat} (ok : Bool) (hd : (s.meter.md.get {} vf).due = seq :: l)
    (hl : s.link.state = .l0) (ha : s.meter.accepting = true) (hc : canLend s vf = true) :
    exec (.minuteDelivery vf ok) s = .next (deliverOne (dueTaken s vf l) vf seq ok) := by
  change execMinuteDelivery vf ok s = _
  simp only [execMinuteDelivery, deliverDue, hd, hl, ha, hc, and_self, if_true]
  rfl

/-- Without a channel to lend a delivery waits. -/
theorem exec_minuteDelivery_waits {s : State} {vf : Nat} (ok : Bool) (hc : canLend s vf = false) :
    exec (.minuteDelivery vf ok) s = .next s := by
  change execMinuteDelivery vf ok s = _
  rw [execMinuteDelivery, deliverDue]
  split
  · rfl
  · rw [if_neg (by simp [hc])]

/-! ### The obligation -/

/-- Settles O29: each clause reads off the state that the lemma above gives its command. -/
theorem minutesCloseAndDeliver : Obligations.MinutesCloseAndDeliver := by
  unfold Obligations.MinutesCloseAndDeliver
  refine ⟨?close, ?durable, ?delivery, fun s vf ok hc => exec_minuteDelivery_waits ok hc⟩
  case close =>
    intro s o ho ha hb
    obtain ⟨ec, ml, hclosing, hroot, hcls⟩ := minuteTurned_meter ho
    have hw := minuteTurned_steps s o
    refine ⟨_, closedSet s o (boundary o.start) 0 ec ml, exec_minuteClose ho ha hb, hclosing, rfl, rfl, rfl, closedSet_recs_length .., rfl,
      hroot, closedSet_root .., minuteTurned_openMin s o, fun k hk => ?_, congrArg Clock.dtb (hw.clock (by decide)),
      hw.hostMem (by decide), hw.jobs (by decide)⟩
    rw [hcls, nextCls_get s hk]
    exact ⟨rfl, rfl, closeCls_carry .., rfl⟩
  case durable =>
    intro s h l hc hm
    refine ⟨_, exec_minuteSetDurable hc hm, ?_⟩
    rw [setDurable_meter]
    exact ⟨rfl, rfl, rfl, rfl, Tab.get_set_self .., setDurable_msixSent h l⟩
  case delivery =>
    intro s vf seq l h ok hd hl ha hc hf a
    have hrun := exec_minuteDelivery ok hd hl ha hc
    have hfound : findSet (dueTaken s vf l) seq = some h := hf
    have hplace : packageAt (dueTaken s vf l) vf seq = a := dueTaken_packageAt ..
    refine ⟨fun hr hok => ?sealed, fun hr hok => ?unread, fun hr => ?outside⟩
    case sealed =>
      subst hok
      rw [deliverOne_sealed hfound (by rw [hplace]; exact hr)] at hrun
      refine ⟨_, hrun, ?_⟩
      rw [State.msix_meter, State.msix_hostMem, packageSealed_md, packageSealed_hostMem, hplace, dueTaken_md]
      exact ⟨rfl, rfl, rfl⟩
    case unread =>
      subst hok
      rw [deliverOne_unread hfound (by rw [hplace]; exact hr)] at hrun
      refine ⟨_, hrun, ?_⟩
      rw [deliveryFailed_md, packageWritten, State.hostWrite_meter, dueTaken_md]
      exact ⟨rfl, rfl, rfl⟩
    case outside =>
      rw [deliverOne_outside hfound ok (by rw [hplace]; exact hr)] at hrun
      refine ⟨_, hrun, ?_⟩
      rw [deliveryFailed_md]
      exact ⟨rfl, rfl, rfl⟩

end Sys2Proof.Machine
end

section
/-! PROOF. Counter copies of the inventory tag (24 R837, Table 7): a copy that the tag writes is valid and reads as its value. -/

namespace Sys2Proof.Machine

open Sys2Proof

theorem copyWord_low {n : Nat} (hn : n < 2 ^ 16) (v : Nat) : copyWord n v % 2 ^ 48 = v % 2 ^ 32 + n * 2 ^ 32 := by
  simp only [copyWord]
  omega

/-- The value of a copy stands in its low word. -/
theorem copyWord_value (n v : Nat) : copyWord n v % 2 ^ 32 = v % 2 ^ 32 := by
  simp only [copyWord]
  omega

theorem copyWord_valid {n : Nat} (hn : n < 2 ^ 16) (v : Nat) : copyValid n (copyWord n v) = true := by
  have hcrc : copyWord n v / 2 ^ 48 = (crcA (toLE 6 (v % 2 ^ 32 + n * 2 ^ 32))).toNat := by
    simp only [copyWord]
    omega
  have hnum : bits (copyWord n v) 47 32 = n := by
    simp only [bits, copyWord]
    omega
  rw [copyValid, copyWord_low hn, hcrc, hnum]
  simp

/-- A counter that has not been written reads zero in both copies (log entry 105). -/
theorem tagCount_unset {s : State} (h : s.tag.copies = []) {n : Nat} (hn : n < 2 ^ 16) : tagCount s n = 0 := by
  have hcopy (c : Nat) : tagCopy s n c = copyWord n 0 := by
    rw [tagCopy, h, Tab.get, Tab.find, Option.getD_none]
  simp only [tagCount, hcopy, copyWord_valid hn, if_true, max_self, copyWord_value, Nat.zero_mod, ite_self]

end Sys2Proof.Machine
end

section
/-! PROOF. The queue and the invariant (95; 15 R568; 16 R607; 03 R95): every command answers a next state, takes itself alone off the queue
and keeps the memories canonical; what reset leaves. -/

namespace Sys2Proof.Machine

open Sys2Proof

/-! ### Every command keeps queue and canonical form -/

/-- A command that writes no memory keeps them by its frame; of the others each has the law of its meaning. -/
theorem exec_keeps (s : State) (c : Instr) : KeepsOut s (exec c s) := by
  have hwrites := exec_writes_fieldSet s c
  cases c <;> dsimp only [fieldsChanged] at hwrites
  case assay => exact execAssay_keeps _ (.refl s)
  case assayDone => exact execAssayDone_keeps (.refl s)
  case cut => exact execCut_keeps (.refl s)
  case suppliesLost => exact execSuppliesLost_keeps (.refl s)
  case auxPowerLoss => exact execAuxPowerLoss_keeps (.refl s)
  case auxPowerReturn => exact execAuxPowerReturn_keeps (.refl s)
  case conventionalReset => exact execConventionalReset_keeps (.refl s)
  case linkReturnL0 => exact execLinkReturnL0_keeps _ _ (.refl s)
  case functionLevelReset => exact execFunctionLevelReset_keeps _ (.refl s)
  case vfEnableClear => exact execVfEnableClear_keeps (.refl s)
  case registerWrite => exact execRegisterWrite_keeps _ _ _ _ (.refl s)
  case ideKm => exact execIdeKm_keeps _ _ _ _ _ _ (.refl s)
  case ideStreamInsecure => exact execIdeStreamInsecure_keeps _ (.refl s)
  case stopInterface => exact execStopInterface_keeps _ (.refl s)
  case tdiFrozenChange => exact execTdiFrozenChange_keeps _ (.refl s)
  case hostReadError => exact execHostReadError_keeps _ (.refl s)
  case completionTimeout => exact execCompletionTimeout_keeps _ (.refl s)
  case readAbandoned => exact execReadAbandoned_keeps _ (.refl s)
  case windowSet => exact execWindowSet_keeps _ _ (.refl s)
  case windowSetDone => exact execWindowSetDone_keeps _ (.refl s)
  case windowGet => exact execWindowGet_keeps _ (.refl s)
  case partitionInfo => exact execPartitionInfo_keeps _ (.refl s)
  case timeGet => exact execTimeGet_keeps _ (.refl s)
  case fenceDone => exact execFenceDone_keeps _ (.refl s)
  case quiesce => exact execQuiesce_keeps _ _ (.refl s)
  case quiesceDone => exact execQuiesceDone_keeps _ (.refl s)
  case resume => exact execResume_keeps _ _ (.refl s)
  case timeSet => exact execTimeSet_keeps _ _ _ (.refl s)
  case timeSetDone => exact execTimeSetDone_keeps _ (.refl s)
  case ringAbort => exact execRingAbort_keeps _ _ (.refl s)
  case descriptorArrival => exact execDescriptorArrival_keeps _ _ (.refl s)
  case stagingReadDone => exact execStagingReadDone_keeps _ _ _ (.refl s)
  case dispatch squad opa opb => exact execDispatch_keeps squad opa opb (.refl s)
  case gangSliceStart => exact execGangSliceStart_keeps _ (.refl s)
  case modadd => exact execModadd_keeps _ (.refl s)
  case modmul => exact execModmul_keeps _ (.refl s)
  case modexp => exact execModexp_keeps _ (.refl s)
  case modinv => exact execModinv_keeps _ (.refl s)
  case rsaPrivate => exact execRsaPrivate_keeps _ (.refl s)
  case rsaPublic => exact execRsaPublic_keeps _ (.refl s)
  case rsaSignV15 => exact execRsaSignV15_keeps _ (.refl s)
  case rsaSignPss => exact execRsaSignPss_keeps _ (.refl s)
  case rsaVerifyV15 => exact execRsaVerifyV15_keeps _ (.refl s)
  case rsaVerifyPss => exact execRsaVerifyPss_keeps _ (.refl s)
  case rsaEncryptOaep => exact execRsaEncryptOaep_keeps _ (.refl s)
  case rsaDecryptOaep => exact execRsaDecryptOaep_keeps _ (.refl s)
  case rsaKeygen => exact execRsaKeygen_keeps _ (.refl s)
  case ecdsaSign => exact execEcdsaSign_keeps _ (.refl s)
  case ecdsaVerify => exact execEcdsaVerify_keeps _ (.refl s)
  case ecdh => exact execEcdh_keeps _ (.refl s)
  case eddsaSign => exact execEddsaSign_keeps _ (.refl s)
  case eddsaVerify => exact execEddsaVerify_keeps _ (.refl s)
  case xdh => exact execXdh_keeps _ (.refl s)
  case ecKeygen => exact execEcKeygen_keeps _ (.refl s)
  case mlkemEncaps => exact execMlkemEncaps_keeps _ (.refl s)
  case mlkemDecaps => exact execMlkemDecaps_keeps _ (.refl s)
  case mldsaSign => exact execMldsaSign_keeps _ (.refl s)
  case mldsaVerify => exact execMldsaVerify_keeps _ (.refl s)
  case mlkemKeygen => exact execMlkemKeygen_keeps _ (.refl s)
  case mldsaKeygen => exact execMldsaKeygen_keeps _ (.refl s)
  case keyGenSym => exact execKeyGenSym_keeps _ (.refl s)
  case keyImport => exact execKeyImport_keeps _ (.refl s)
  case keyExport => exact execKeyExport_keeps _ (.refl s)
  case keyDestroy => exact execKeyDestroy_keeps _ (.refl s)
  case destroyComplete => exact execDestroyComplete_keeps _ (.refl s)
  case keyInfo => exact execKeyInfo_keeps _ (.refl s)
  case keyRestrict => exact execKeyRestrict_keeps _ (.refl s)
  case restrictDone => exact execRestrictDone_keeps _ (.refl s)
  case keyPurge => exact execKeyPurge_keeps _ (.refl s)
  case keyCacheFill => exact execKeyCacheFill_keeps _ _ _ (.refl s)
  case streamSeal => exact execStreamSeal_keeps _ _ _ (.refl s)
  case streamOpen => exact execStreamOpen_keeps _ _ _ (.refl s)
  case streamSegment => exact execStreamSegment_keeps _ _ (.refl s)
  case randomBytes => exact execRandomBytes_keeps _ (.refl s)
  case channelAbort => exact execChannelAbort_keeps _ (.refl s)
  case copy => exact execCopy_keeps _ _ (.refl s)
  case fill => exact execFill_keeps _ (.refl s)
  case compareConst => exact execCompareConst_keeps _ _ (.refl s)
  case compareBuf => exact execCompareBuf_keeps _ _ (.refl s)
  case readBackDone => exact execReadBackDone_keeps _ _ (.refl s)
  case minuteDelivery => exact execMinuteDelivery_keeps _ _ (.refl s)
  case rngRetired => exact execRngRetired_keeps _ _ (.refl s)
  case startTimeout => exact execStartTimeout_keeps _ (.refl s)
  case rngDataLo => exact execRngDataLo_keeps _ (.refl s)
  case rngDataHi => exact execRngDataHi_keeps _ (.refl s)
  case rngJdataLo => exact execRngJdataLo_keeps _ (.refl s)
  case rngJdataHi => exact execRngJdataHi_keeps _ (.refl s)
  case rngHoldExpiry => exact execRngHoldExpiry_keeps _ (.refl s)
  case rngKatRun => exact execRngKatRun_keeps _ _ (.refl s)
  case patrolTest => exact execPatrolTest_keeps _ _ _ (.refl s)
  case nop => exact execNop_keeps _ (.refl s)
  case wfe => exact execWfe_keeps _ (.refl s)
  case waitc => exact execWaitc_keeps _ _ (.refl s)
  case retg => exact execRetg_keeps _ (.refl s)
  case retx => exact execRetx_keeps _ (.refl s)
  case verbFence => exact execVerbFence_keeps _ (.refl s)
  case brk => exact execBrk_keeps _ (.refl s)
  case ems => exact execEms_keeps _ (.refl s)
  case emc => exact execEmc_keeps _ (.refl s)
  case gate => exact execGate_keeps _ _ (.refl s)
  case sev => exact execSev_keeps _ _ _ (.refl s)
  case mfs => exact execMfs_keeps _ _ _ (.refl s)
  case mts => exact execMts_keeps _ _ _ (.refl s)
  case movad => exact execMovad_keeps _ _ _ (.refl s)
  case movda => exact execMovda_keeps _ _ _ (.refl s)
  case movaa => exact execMovaa_keeps _ _ _ (.refl s)
  case jmp => exact execJmp_keeps _ _ (.refl s)
  case jsr => exact execJsr_keeps _ _ (.refl s)
  case adda => exact execAdda_keeps _ _ _ (.refl s)
  case addaa => exact execAddaa_keeps _ _ _ (.refl s)
  case cmpa => exact execCmpa_keeps _ _ _ (.refl s)
  case addai => exact execAddai_keeps _ _ _ _ (.refl s)
  case mov => exact execMov_keeps _ _ _ (.refl s)
  case add => exact execAdd_keeps _ _ _ (.refl s)
  case adc => exact execAdc_keeps _ _ _ (.refl s)
  case sub => exact execSub_keeps _ _ _ (.refl s)
  case sbc => exact execSbc_keeps _ _ _ (.refl s)
  case cmp => exact execCmp_keeps _ _ _ (.refl s)
  case and => exact execAnd_keeps _ _ _ (.refl s)
  case or => exact execOr_keeps _ _ _ (.refl s)
  case xor => exact execXor_keeps _ _ _ (.refl s)
  case andn => exact execAndn_keeps _ _ _ (.refl s)
  case tst => exact execTst_keeps _ _ _ (.refl s)
  case neg => exact execNeg_keeps _ _ _ (.refl s)
  case not => exact execNot_keeps _ _ _ (.refl s)
  case shl => exact execShl_keeps _ _ _ (.refl s)
  case shr => exact execShr_keeps _ _ _ (.refl s)
  case sar => exact execSar_keeps _ _ _ (.refl s)
  case ror => exact execRor_keeps _ _ _ (.refl s)
  case mul => exact execMul_keeps _ _ _ (.refl s)
  case mulhu => exact execMulhu_keeps _ _ _ (.refl s)
  case mulhs => exact execMulhs_keeps _ _ _ (.refl s)
  case minu => exact execMinu_keeps _ _ _ (.refl s)
  case maxu => exact execMaxu_keeps _ _ _ (.refl s)
  case mins => exact execMins_keeps _ _ _ (.refl s)
  case maxs => exact execMaxs_keeps _ _ _ (.refl s)
  case clz => exact execClz_keeps _ _ _ (.refl s)
  case popc => exact execPopc_keeps _ _ _ (.refl s)
  case bswap => exact execBswap_keeps _ _ _ (.refl s)
  case cmovz => exact execCmovz_keeps _ _ _ (.refl s)
  case cmovc => exact execCmovc_keeps _ _ _ (.refl s)
  case sxb => exact execSxb_keeps _ _ _ (.refl s)
  case sxh => exact execSxh_keeps _ _ _ (.refl s)
  case movi => exact execMovi_keeps _ _ _ _ (.refl s)
  case addi => exact execAddi_keeps _ _ _ _ (.refl s)
  case cmpi => exact execCmpi_keeps _ _ _ _ (.refl s)
  case andi => exact execAndi_keeps _ _ _ _ (.refl s)
  case ori => exact execOri_keeps _ _ _ _ (.refl s)
  case xori => exact execXori_keeps _ _ _ _ (.refl s)
  case shli => exact execShli_keeps _ _ _ (.refl s)
  case shri => exact execShri_keeps _ _ _ (.refl s)
  case ldb => exact execLdb_keeps _ _ _ _ _ (.refl s)
  case ldh => exact execLdh_keeps _ _ _ _ _ (.refl s)
  case ldw => exact execLdw_keeps _ _ _ _ _ (.refl s)
  case lda => exact execLda_keeps _ _ _ _ _ (.refl s)
  case stb => exact execStb_keeps _ _ _ _ _ (.refl s)
  case sth => exact execSth_keeps _ _ _ _ _ (.refl s)
  case stw => exact execStw_keeps _ _ _ _ _ (.refl s)
  case sta => exact execSta_keeps _ _ _ _ _ (.refl s)
  case branch => exact execBranch_keeps _ _ _ _ (.refl s)
  case call => exact execCall_keeps _ _ _ (.refl s)
  case macu => exact execMacu_keeps _ _ _ _ (.refl s)
  case macs => exact execMacs_keeps _ _ _ _ (.refl s)
  case mulu => exact execMulu_keeps _ _ _ _ (.refl s)
  case mql => exact execMql_keeps _ _ _ (.refl s)
  case mqh => exact execMqh_keeps _ _ _ (.refl s)
  case mqg => exact execMqg_keeps _ _ _ (.refl s)
  case mdql => exact execMdql_keeps _ _ _ (.refl s)
  case mdqh => exact execMdqh_keeps _ _ _ (.refl s)
  case mdqg => exact execMdqg_keeps _ _ _ (.refl s)
  case shrq => exact execShrq_keeps _ _ _ (.refl s)
  case shlq => exact execShlq_keeps _ _ _ (.refl s)
  case lmont => exact execLmont_keeps _ _ _ _ (.refl s)
  case ladd => exact execLadd_keeps _ _ _ (.refl s)
  case lsub => exact execLsub_keeps _ _ _ (.refl s)
  case lmov => exact execLmov_keeps _ _ _ (.refl s)
  case lconv => exact execLconv_keeps _ _ _ (.refl s)
  case lsettle => exact execLsettle_keeps _ _ _ _ (.refl s)
  case lld => exact execLld_keeps _ _ _ (.refl s)
  case lst => exact execLst_keeps _ _ _ (.refl s)
  case lsetup => exact execLsetup_keeps _ _ _ (.refl s)
  case nmul => exact execNmul_keeps _ _ _ _ (.refl s)
  case nadd => exact execNadd_keeps _ _ _ _ (.refl s)
  case nsub => exact execNsub_keeps _ _ _ _ (.refl s)
  case nbfct => exact execNbfct_keeps _ _ _ _ (.refl s)
  case nbfgs => exact execNbfgs_keeps _ _ _ _ (.refl s)
  case lqn => exact execLqn_keeps _ _ _ (.refl s)
  case kperm => exact execKperm_keeps _ _ _ (.refl s)
  case ypt => exact execYpt_keeps _ (.refl s)
  case reservedPattern => exact execReservedPattern_keeps _ _ _ (.refl s)
  case frozenUnitRecovery => exact execFrozenUnitRecovery_keeps _ (.refl s)
  case guardScrub => exact execGuardScrub_keeps _ _ (.refl s)
  case guardDrainDone => exact execGuardDrainDone_keeps (.refl s)
  case flashRead => exact execFlashRead_keeps _ _ (.refl s)
  case flashProgram => exact execFlashProgram_keeps _ (.refl s)
  case flashProgramDone => exact execFlashProgramDone_keeps _ _ (.refl s)
  case flashErase => exact execFlashErase_keeps _ (.refl s)
  case flashEraseDone => exact execFlashEraseDone_keeps _ _ (.refl s)
  case eraseSuspend => exact execEraseSuspend_keeps _ (.refl s)
  case eraseResume => exact execEraseResume_keeps _ (.refl s)
  case suspendExpiry => exact execSuspendExpiry_keeps _ (.refl s)
  case readStatus => exact execReadStatus_keeps _ (.refl s)
  case crossingTimeout => exact execCrossingTimeout_keeps _ (.refl s)
  case agentAnswer => exact execAgentAnswer_keeps _ _ (.refl s)
  case agentTimeout => exact execAgentTimeout_keeps _ (.refl s)
  case modeTarget => exact execModeTarget_keeps _ _ _ (.refl s)
  case serviceEnd => exact execServiceEnd_keeps _ _ _ (.refl s)
  case serviceLimitExpiry => exact execServiceLimitExpiry_keeps (.refl s)
  case changeoverUnitDone => exact execChangeoverUnitDone_keeps _ _ (.refl s)
  case sramRepaired => exact execSramRepaired_keeps _ _ _ (.refl s)
  case lifecycleEraseComplete => exact execLifecycleEraseComplete_keeps (.refl s)
  case monitorSample => exact execMonitorSample_keeps _ _ _ _ (.refl s)
  case batchExecute => exact execBatchExecute_keeps (.refl s)
  case quiesceHoldEnd => exact execQuiesceHoldEnd_keeps (.refl s)
  case write => exact execWrite_keeps _ _ _ _ _ (.refl s)
  case csCommit => exact execCsCommit_keeps (.refl s)
  case startUpTestPassed => exact execStartUpTestPassed_keeps _ (.refl s)
  case dtbFrac => exact execDtbFrac_keeps _ (.refl s)
  all_goals exact KeepsOut.quiet hwrites rfl (.refl s)

theorem step_cons {s : State} {c : Instr} {rest : List Instr} (h : s.pending = c :: rest) : step s = exec c { s with pending := rest } := by
  rw [step, h]

/-- What a state keeps of the invariant, it keeps of one that meets it. -/
theorem Keeps.inv {s t : State} (h : Keeps s t) (hs : s.Inv) : t.Inv := by
  obtain ⟨hqueue, hmem⟩ := h
  obtain ⟨h1, h2, h3, h4⟩ := hmem hs.2
  refine ⟨?_, ?_⟩
  · rw [State.queueOk, hqueue]
    exact hs.1
  · rw [State.memoriesOk, h1, h2, h3, h4]
    rfl

/-- The rest of a sound queue is sound. -/
theorem inv_rest {s : State} {c : Instr} {rest : List Instr} (h : s.pending = c :: rest) (hs : s.Inv) :
    State.Inv { s with pending := rest } := by
  obtain ⟨hqueue, hmem⟩ := hs
  rw [State.queueOk, h, List.all_cons, Bool.and_eq_true] at hqueue
  exact ⟨hqueue.2, hmem⟩

/-! ### The obligations -/

/-- Settles O1: it is how a step is defined. -/
theorem stepRunsFrontCommand : Obligations.StepRunsFrontCommand := fun _ _ _ => step_cons rfl

/-- Settles O2: a command keeps the queue that it finds, which is the rest. -/
theorem everyCommandCompletesInOrder : Obligations.EveryCommandCompletesInOrder := by
  unfold Obligations.EveryCommandCompletesInOrder
  intro c rest s h
  obtain ⟨t, ht, hkeeps⟩ := exec_keeps { s with pending := rest } c
  exact ⟨t, (step_cons h).trans ht, hkeeps.1⟩

/-- Settles O3: an empty queue is a tick, which keeps queue and memories; a command keeps those of the state with the rest of the queue. -/
theorem everyStepKeepsTheInvariant : Obligations.EveryStepKeepsTheInvariant := by
  unfold Obligations.EveryStepKeepsTheInvariant
  intro s t hs ht
  cases hq : s.pending with
  | nil =>
    rw [step, hq, Host.Outcome.next.injEq] at ht
    exact ht ▸ (idleTick_keeps (.refl s)).inv hs
  | cons c rest =>
    obtain ⟨u, hu, hkeeps⟩ := exec_keeps { s with pending := rest } c
    rw [step_cons hq, hu, Host.Outcome.next.injEq] at ht
    exact ht ▸ hkeeps.inv (inv_rest hq hs)

/-- Settles O4: nothing waits, and no memory lists a byte. -/
theorem resetMeetsTheInvariant : Obligations.ResetMeetsTheInvariant := ⟨rfl, rfl⟩

/-- Settles O60: the tables are empty, so every entry, ring and job reads its default. -/
theorem resetLeavesTheModuleIdle : Obligations.ResetLeavesTheModuleIdle := by
  unfold Obligations.ResetLeavesTheModuleIdle
  refine ⟨rfl, rfl, rfl, fun p => ?_, fun p r => ⟨rfl, rfl⟩, fun k => rfl, rfl, fun e sel => rfl, rfl, fun k => rfl, rfl, rfl, rfl, rfl, rfl,
    tagCount_unset rfl (by decide), tagCount_unset rfl (by decide), rfl⟩
  have hmain : State.reset.mainUp = false := rfl
  rw [partOn, hmain, Bool.false_and]

end Sys2Proof.Machine
end

section
/-! PROOF. What the timebase's operations leave in the clock, and the power cycle count (17 R642 to R657): who writes the clock beside the
count, and the one command that raises it. -/

namespace Sys2Proof.Machine

open Sys2Proof

/-! ### The clock after the operations of the timebase -/

@[simp] theorem setTState_clock (s : State) (n : Nat) : (setTState s n).clock = { s.clock with tstate := n } := by
  rw [setTState]
  split
  case isTrue h => rw [← h]
  case isFalse => split_ifs <;> rfl

@[simp] theorem enterHoldover_clock (s : State) :
    (enterHoldover s).clock = { s.clock with rate := s.clock.rateF, holdoverAt := s.clock.ticks, tstate := 1 } := by
  rw [enterHoldover, setTState_clock, State.withClock_clock]

@[simp] theorem unanchor_clock (s : State) :
    (unanchor s).clock = { s.clock with anchored := false, validRun := 0, discRun := 0, anchorLost := false, tstate := 2 } := by
  rw [unanchor, setTState_clock, State.withClock_clock]

/-- A first exchange anchors (17 R647). -/
theorem acceptExchange_first {s : State} (h : s.clock.anchored = false) (t1 d m : Nat) :
    acceptExchange s t1 d m = (s.bump gTimePtmValid).withClock (fun c => { c with
      off := (d : Int) - m, anchored := true, lastValid := some (m, t1), validRun := 0, discRun := 0, ptmOut := none }) := by
  rw [acceptExchange]
  exact if_pos (by rw [h]; rfl)

/-- A later exchange steers (17 R647). -/
def steered (s : State) (t1 d m : Nat) : State :=
  (s.bump gTimePtmValid).withClock (fun c => { c with
    rate := (steer s.clock t1 d m).1, rateF := (steer s.clock t1 d m).2, lastValid := some (m, t1), validRun := c.validRun + 1, discRun := 0,
    ptmOut := none })

theorem acceptExchange_later {s : State} (h : s.clock.anchored = true) (t1 d m : Nat) :
    acceptExchange s t1 d m = stateAfterValid (steered s t1 d m) := by
  rw [acceptExchange]
  exact if_neg (by rw [h]; decide)

/-! ### The same count -/

/-- Every field but the clock. -/
def offClock : Nat := 0x7FFFFFFF7

/-- The two states count the same power cycles. -/
def SamePcc (s t : State) : Prop := t.clock.pcc = s.clock.pcc

theorem SamePcc.trans {s t u : State} (h : SamePcc s t) (k : SamePcc t u) : SamePcc s u := Eq.trans k h

/-- What leaves the clock leaves the count. -/
theorem Writes.samePcc {s t : State} (h : Writes offClock s t) : SamePcc s t := congrArg Clock.pcc (h.clock rfl)

/-- A command whose list leaves the clock out leaves the count. -/
theorem samePcc_of_frame {c : Instr} {s t : State} (h : exec c s = .next t) (hc : Field.clock ∉ fieldsChanged c) : SamePcc s t :=
  congrArg Clock.pcc (commandsChangeListedFieldsAlone c s t .clock h hc)

theorem setTState_samePcc (s : State) (n : Nat) : SamePcc s (setTState s n) := by rw [SamePcc, setTState_clock]

theorem enterHoldover_samePcc (s : State) : SamePcc s (enterHoldover s) := by rw [SamePcc, enterHoldover_clock]

theorem discardExchange_samePcc (s : State) : SamePcc s (discardExchange s) := by
  rw [discardExchange]
  dsimp only
  split_ifs
  · rw [onlyIf]
    split_ifs <;> simp [SamePcc]
  · rfl

theorem stateAfterValid_samePcc (s : State) : SamePcc s (stateAfterValid s) := by
  rw [stateAfterValid]
  split_ifs
  · rfl
  · exact setTState_samePcc s 0
  · exact setTState_samePcc s 0
  · rfl

theorem State.withClock_samePcc (s : State) (f : Clock → Clock) (h : (f s.clock).pcc = s.clock.pcc) : SamePcc s (s.withClock f) := h

theorem State.bump_samePcc (s : State) (e : GE) : SamePcc s (s.bump e) := (State.bump_writes (.refl _ s) rfl).samePcc

theorem steered_samePcc (s : State) (t1 d m : Nat) : SamePcc s (steered s t1 d m) :=
  (State.bump_samePcc s gTimePtmValid).trans (State.withClock_samePcc _ _ rfl)

theorem acceptExchange_samePcc (s : State) (t1 d m : Nat) : SamePcc s (acceptExchange s t1 d m) := by
  cases ha : s.clock.anchored with
  | false =>
    rw [acceptExchange_first ha]
    exact (State.bump_samePcc s gTimePtmValid).trans (State.withClock_samePcc _ _ rfl)
  | true =>
    rw [acceptExchange_later ha]
    exact (steered_samePcc s t1 d m).trans (stateAfterValid_samePcc _)

theorem startTimebase_samePcc (s : State) : SamePcc s (startTimebase s) := by rw [SamePcc, startTimebase, unanchor_clock, State.withClock_clock]

theorem unanchor_samePcc (s : State) : SamePcc s (unanchor s) := by rw [SamePcc, unanchor_clock]

theorem setDtb_samePcc (s : State) (ns frac : Nat) : SamePcc s (setDtb s ns frac) :=
  ((State.withClock_samePcc s _ rfl).trans (unanchor_samePcc _)).trans (Writes.samePcc (State.event_writes (State.present_writes (.refl _ _) rfl) rfl))

/-- The clock's part of the fall of +12V: times are saved, and an exchange in progress is gone (17 R652, R656). -/
def cutSaved (s : State) : State :=
  (saveDtb (s.withMeter (fun m => { m with accepting := false, cutAt := if s.meter.accepting then some s.dtbNs else m.cutAt }))).withClock
    (fun c => { c with otcSaved := c.otc, ptmOut := none, ptmSlot := none })

theorem Writes.upd_jobs_stood {m : Nat} {s x : State} {v w : Tab Job} (h : Writes m s x) (hj : m.testBit 10 = true)
    (hs : m.testBit 29 = true) : Writes m s { x with jobs := v, stood := w } :=
  Writes.upd_stood (x := { x with jobs := v }) (Writes.upd_jobs h hj) hs

/-- The rest of the fall of +12V leaves the clock. -/
theorem cutMain_afterSaved (s : State) : Writes offClock (cutSaved s) (cutMain s) := by
  unfold cutMain
  refine Writes.foldl (Writes.foldl ?_ fun u hu c => State.withNoise_writes hu rfl) fun u hu e => State.withExp_writes hu rfl
  refine State.withLink_writes (State.withMode_writes (loseStaged_writes (losePower_writes (abortTrans_writes ?_ rfl) rfl) rfl) rfl) rfl
  refine Writes.upd_jobs_stood ?_ rfl rfl
  exact serveVaultReads_writes (serveCode_writes (tearErases_writes (holdUp_writes (tokGone_writes (tokGone_writes (.refl _ _)
    rfl) rfl) rfl) rfl) rfl) rfl

theorem cutMain_samePcc (s : State) : SamePcc s (cutMain s) := SamePcc.trans (t := cutSaved s) rfl (cutMain_afterSaved s).samePcc

theorem toDormant_samePcc (s : State) : SamePcc s (toDormant s) := (toDormant_writes (.refl _ s) rfl).samePcc

theorem Writes.upd_recorder_guards_verb {m : Nat} {s x : State} {e : Recorder} {g : Tab Guard} {k : GuardSt} {v : VerbSt} (h : Writes m s x)
    (he : m.testBit 5 = true) (hg : m.testBit 16 = true) (hk : m.testBit 17 = true) (hv : m.testBit 25 = true) :
    Writes m s { x with evr := e, guards := g, guardSt := k, verb := v } :=
  Writes.upd_verb (x := { x with evr := e, guards := g, guardSt := k })
    (Writes.upd_guardSt (x := { x with evr := e, guards := g }) (Writes.upd_guards (x := { x with evr := e }) (Writes.upd_evr h he) hg) hk) hv

theorem SamePcc.ite_cellGone {s t : State} {c : Prop} [Decidable c] (h : SamePcc s t) : SamePcc s (if c then cellGone t else t) := by
  split <;> exact h

/-- The fall to SENTINEL writes of the clock what an exhausted cell loses. -/
theorem toSentinel_samePcc (s : State) : SamePcc s (toSentinel s) := by
  unfold toSentinel
  refine SamePcc.ite_cellGone (Writes.samePcc ?_)
  refine State.withPower_writes (State.withTamper_writes (State.gset_writes (State.gset_writes (Writes.upd_recorder_guards_verb ?_
    rfl rfl rfl rfl) rfl) rfl) rfl) rfl
  refine Writes.foldl (Writes.foldl ?_ fun u hu c => State.withNoise_writes hu rfl) fun u hu e => State.withExp_writes hu rfl
  refine State.withVault_writes (State.withCode_writes (Writes.foldl ?_ fun u hu e => .ite (cutProgram_writes hu rfl) hu) rfl) rfl
  exact handover_writes (enterMode_writes (strikeIsl_writes (destroyVolatile_writes (closeAllGap_writes (.refl _ s) rfl) rfl) rfl) rfl) rfl

theorem flashCut_samePcc (s : State) (b : Bool) : SamePcc s (flashCut s b) := (flashCut_writes (.refl _ s) rfl).samePcc

/-- An ASSAY from DORMANT starts the timebase; the rest of it leaves the clock. -/
theorem assaySteps_samePcc (s : State) (r : AssayReport) (fromDormant : Bool) : SamePcc s (assaySteps s r fromDormant) := by
  have hhoist : SamePcc s (hoistAll s) := (hoistAll_writes (.refl _ s) rfl).samePcc
  have hbase : SamePcc s (if fromDormant then startTimebase (hoistAll s) else hoistAll s) := by
    split
    · exact hhoist.trans (startTimebase_samePcc _)
    · exact hhoist
  refine hbase.trans (Writes.samePcc ?_)
  unfold assaySteps
  exact reopenMailbox_writes (State.gset_writes (State.gset_writes (State.gset_writes (stepTen_writes (measure_writes (State.withMode_writes
    (closeCut_writes (rebuildKeys_writes (resumeLife_writes (applyReport_writes (loadGuards_writes (limit60_writes (State.gset_writes
      (State.withMode_writes (startCores_writes (endChangeover_writes (wipeAll_writes (startNoise_writes (.refl _ _) rfl) rfl) rfl) rfl) rfl)
        rfl) rfl) rfl) rfl) rfl) rfl) rfl) rfl) rfl) rfl) rfl) rfl) rfl) rfl

/-! ### The commands that write the clock -/

theorem finish_samePcc (s : State) (id status : Nat) (out : Bytes) (tc : Nat) : SamePcc s (finish s id status out tc) :=
  (finish_writes (.refl _ s) rfl).samePcc

/-- The outcome is a next state with the same count. -/
def SamePccOut (s : State) (o : Host.Outcome State Fault Refusal) : Prop := ∀ t, o = .next t → SamePcc s t

theorem SamePcc.out {s t : State} (h : SamePcc s t) : SamePccOut s (.next t) := by
  rintro _ ⟨⟩
  exact h

theorem SamePccOut.ite {s : State} {c : Prop} [Decidable c] {a b : Host.Outcome State Fault Refusal} (ha : SamePccOut s a)
    (hb : SamePccOut s b) : SamePccOut s (if c then a else b) := by
  split <;> assumption

theorem SamePcc.ite {s a b : State} {c : Prop} [Decidable c] (ha : SamePcc s a) (hb : SamePcc s b) : SamePcc s (if c then a else b) := by
  split <;> assumption

theorem execAssay_samePcc (r : AssayReport) (s : State) : SamePccOut s (execAssay r s) := by
  rw [execAssay]
  refine .ite (.ite (SamePcc.out rfl) (SamePcc.out ?_)) (.ite (SamePcc.out (assaySteps_samePcc ..)) (SamePcc.out rfl))
  exact SamePcc.trans (enterMode_writes (State.withPower_writes (.refl _ s) rfl) rfl).samePcc (assaySteps_samePcc ..)

theorem execCut_samePcc (s : State) : SamePccOut s (execCut s) := by
  have hsaved (f : Power → Power) : SamePcc s (if s.mainUp then cutMain (s.withPower f) else s.withPower f) :=
    .ite (SamePcc.trans (t := s.withPower f) rfl (cutMain_samePcc _)) rfl
  rw [execCut]
  refine .ite (SamePcc.out rfl) (.ite (SamePcc.out (.ite ((hsaved _).trans (toDormant_samePcc _)) (hsaved _))) (SamePcc.out ?_))
  exact SamePcc.trans (.ite (hsaved _) ((hsaved _).trans (flashCut_samePcc ..))) (toSentinel_samePcc _)

theorem execSuppliesLost_samePcc (s : State) : SamePccOut s (execSuppliesLost s) := by
  have hpower (f : Power → Power) : SamePcc s (s.withPower f) := rfl
  rw [execSuppliesLost]
  refine .ite (SamePcc.out rfl) (SamePcc.out (SamePcc.trans ?_ (toSentinel_samePcc _)))
  exact .ite ((hpower _).trans (cutMain_samePcc _)) ((hpower _).trans (flashCut_samePcc ..))

/-- A write of PTM Enable is the one register write that reaches the clock (03 R129). -/
theorem execRegisterWrite_samePcc (space : RegSpace) (off size : Nat) (v : BitVec 64) (s : State) :
    SamePccOut s (execRegisterWrite space off size v s) := by
  unfold execRegisterWrite
  refine SamePcc.out ?_
  cases space with
  | bar fn bar => exact (barWrite_writes (.refl _ s) rfl).samePcc
  | compute mid => exact .ite (spaceRegWrite_writes (.refl _ s) rfl).samePcc rfl
  | control mid => exact .ite (spaceRegWrite_writes (.refl _ s) rfl).samePcc rfl
  | config =>
    dsimp only [configWrite]
    split_ifs <;> rfl

theorem execPtmRequest_samePcc (s : State) : SamePccOut s (execPtmRequest s) := by
  rw [execPtmRequest]
  exact .ite (SamePcc.out (State.withClock_samePcc _ _ rfl)) (SamePcc.out rfl)

theorem execPtmResponse_samePcc (m : Nat) (s : State) : SamePccOut s (execPtmResponse m s) := by
  rw [execPtmResponse]
  split
  · exact SamePcc.out rfl
  · exact .ite (SamePcc.out (acceptExchange_samePcc ..)) (SamePcc.out (discardExchange_samePcc s))

theorem execPtmAbandon_samePcc (s : State) : SamePccOut s (execPtmAbandon s) := by
  rw [execPtmAbandon]
  split
  · exact SamePcc.out rfl
  · exact .ite (SamePcc.out (discardExchange_samePcc s)) (SamePcc.out rfl)

theorem execHoldoverEntry_samePcc (s : State) : SamePccOut s (execHoldoverEntry s) := by
  rw [execHoldoverEntry]
  exact .ite (SamePcc.out (enterHoldover_samePcc s)) (SamePcc.out rfl)

theorem execHoldoverExpiry_samePcc (s : State) : SamePccOut s (execHoldoverExpiry s) := by
  rw [execHoldoverExpiry]
  exact .ite (SamePcc.out (setTState_samePcc s 2)) (SamePcc.out rfl)

theorem execTimeSet_samePcc (job : Nat) (ns word : BitVec 64) (s : State) : SamePccOut s (execTimeSet job ns word s) := by
  rw [execTimeSet]
  refine .ite (SamePcc.out rfl) (.ite (SamePcc.out (finish_samePcc ..)) (SamePcc.out ?_))
  have hclose (a b : Nat) (c : Bool) : SamePcc s (closeMinute (adminWait s job) a b c) :=
    (closeMinute_writes (adminWait_writes (.refl _ s) rfl) rfl).samePcc
  exact (((hclose _ _ _).trans (setDtb_samePcc ..)).trans (State.withClock_samePcc _ _ rfl)).trans
    (State.bump_writes (openMinute_writes (.refl _ _) rfl) rfl).samePcc

theorem execTimeSetDone_samePcc (job : Nat) (s : State) : SamePccOut s (execTimeSetDone job s) := by
  rw [execTimeSetDone]
  exact .ite (SamePcc.out ((State.withClock_samePcc s _ rfl).trans (finish_samePcc ..))) (SamePcc.out rfl)

theorem execMinuteClose_samePcc (s : State) : SamePccOut s (execMinuteClose s) := by
  rw [execMinuteClose]
  split
  · exact SamePcc.out rfl
  · refine .ite (SamePcc.out (SamePcc.trans ?_ (State.withClock_samePcc _ _ rfl))) (SamePcc.out rfl)
    exact (openMinute_writes (closeMinute_writes (.refl _ s) rfl) rfl).samePcc

/-! ### Loads: a read of DTB_FRAC takes the latches of device time -/

/-- What an instruction of a core comes to counts the same power cycles. -/
inductive SamePccRes (s : State) : VRes → Prop
  | done {t : State} (h : SamePcc s t) : SamePccRes s (.done t)
  | exc {e : Exc} {t : State} (h : SamePcc s t) : SamePccRes s (.exc e t)
  | stall : SamePccRes s .stall
  | rngWait {a : Nat} : SamePccRes s (.rngWait a)

/-- A load's value comes with the same count, and so does what it raises. -/
inductive SamePccLoad (s : State) : VRes ⊕ (BitVec 32 × State) → Prop
  | inl {r : VRes} (h : SamePccRes s r) : SamePccLoad s (.inl r)
  | inr {v : BitVec 32} {t : State} (h : SamePcc s t) : SamePccLoad s (.inr (v, t))

theorem SamePccLoad.of_inl {s : State} {x : VRes ⊕ (BitVec 32 × State)} {r : VRes} (h : SamePccLoad s x) (e : x = .inl r) :
    SamePccRes s r := by
  subst e
  cases h
  assumption

theorem SamePccLoad.of_inr {s t : State} {x : VRes ⊕ (BitVec 32 × State)} {v : BitVec 32} (h : SamePccLoad s x) (e : x = .inr (v, t)) :
    SamePcc s t := by
  subst e
  cases h
  assumption

theorem freshWord_samePcc {s t : State} {p w : Nat} (h : freshWord s p = some (w, t)) : SamePcc s t :=
  ((freshWord_writes (.refl _ s) rfl).of_eq h).samePcc

theorem loadWord_samePcc (s : State) (u g off a : Nat) : SamePccLoad s (loadWord s u g off a) := by
  have hunit (t : State) (f : VUnit → VUnit) : SamePcc t (t.withUnit u f) := rfl
  rw [loadWord]
  dsimp only
  split
  · split
    · exact .inl (.exc rfl)
    · split
      · exact .inr (hunit ..)
      · split
        · exact .inl .rngWait
        · rename_i hw
          have hfresh := freshWord_samePcc hw
          split
          · exact .inr (hfresh.trans (hunit ..))
          · exact .inr ((hfresh.trans (hunit ..)).trans (hunit ..))
  · refine .inr (.ite ?_ rfl)
    exact State.withClock_samePcc _ _ rfl

theorem vLoad_samePcc (s : State) (u : Nat) (x : VUnit) (a n : Nat) : SamePccLoad s (vLoad s u x a n) := by
  have hrefused (g i off code : Nat) : SamePccLoad s (.inl (refusal s g i off a code false)) :=
    .inl (.exc (guardRefused_writes (.refl _ s) rfl).samePcc)
  rw [vLoad]
  dsimp only
  split
  · exact .inl (.exc rfl)
  split
  · exact .inl (.exc rfl)
  · exact .inr rfl
  · split
    · exact hrefused ..
    split
    · exact .inr rfl
    split
    · exact .inl (.exc rfl)
    split
    · rename_i h
      exact .inl ((loadWord_samePcc ..).of_inl h)
    · rename_i h
      exact .inr ((loadWord_samePcc ..).of_inr h)
  · split
    · exact hrefused ..
    split
    · exact .inl (.exc rfl)
    split
    · exact .inl .stall
    · exact .inr rfl

theorem raiseSync_samePcc (s : State) (u : Nat) (x : VUnit) (e : Exc) (mark : VUnit → VUnit) : SamePcc s (raiseSync s u x e mark) :=
  (raiseSync_writes (.refl _ s) rfl).samePcc

theorem readOnly_samePcc (s : State) (u a : Nat) : SamePcc s (readOnly s u a) := by
  have hload := vLoad_samePcc s u (s.unit u) a 4
  rw [readOnly]
  split
  · rfl
  split
  · rename_i h
    exact hload.of_inr h
  · rename_i h
    cases hload.of_inl h with
    | exc hexc => exact hexc.trans (raiseSync_samePcc ..)
  · rfl
  · rfl

/-- Whatever a body does that keeps the count, its instruction keeps it. -/
theorem runVerb_samePcc {s : State} {u len : Nat} {body : VUnit → State → VRes} (h : ∀ x t, SamePcc s t → SamePccRes s (body x t)) :
    SamePcc s (runVerb s u len body) := by
  rw [runVerb]
  split
  · rfl
  split
  · exact (failFetch_writes (.refl _ s) rfl).samePcc
  have hbody := h (s.unit u) (s.withUnit u (fun _ => (land (s.unit u)).withR (fun r => r.setPc ((s.unit u).r.pc + BitVec.ofNat 20 len)))) rfl
  split
  · rename_i e
    rw [e] at hbody
    cases hbody with
    | done hdone => exact hdone.trans (takeAsync_writes (.refl _ _) rfl).samePcc
  · rename_i e
    rw [e] at hbody
    cases hbody with
    | exc hexc => exact hexc.trans (raiseSync_samePcc ..)
  · rfl
  · rfl

theorem loadOp_samePcc (s : State) (u : Nat) (pre : List (BitVec 12)) (word : Nat) (isA : Bool) (r aa : Fin 8) (mode : BitVec 2) (n : Nat) :
    SamePcc s (loadOp s u pre word isA r aa mode n) := by
  rw [loadOp, runWord]
  refine .ite (trapReserved_writes (.refl _ s) rfl).samePcc (runVerb_samePcc fun x t ht => ?_)
  have hload := vLoad_samePcc t u x (memAddr (x.r.a.get aa) mode pre n).1.toNat n
  dsimp only
  split
  · rename_i h
    cases hload.of_inl h with
    | done hdone => exact .done (ht.trans hdone)
    | exc hexc => exact .exc (ht.trans hexc)
    | stall => exact .stall
    | rngWait => exact .rngWait
  · rename_i h
    have hvalue := hload.of_inr h
    exact .done (ht.trans (hvalue.trans rfl))

/-! ### The obligation -/

/-- No command but an arrival of supply on the cell changes the count: the others that write the clock leave it. -/
theorem exec_samePcc {c : Instr} {s : State} (hc : ∀ rail, c = .supplyArrival rail → s.hostSupply = true) : SamePccOut s (exec c s) := by
  by_cases hclock : Field.clock ∉ fieldsChanged c
  · exact fun t ht => samePcc_of_frame ht hclock
  have hlisted := not_not.mp hclock
  have hread (u a : Nat) : SamePccOut s (.next (readOnly s u a)) := SamePcc.out (readOnly_samePcc ..)
  cases c <;> dsimp only [fieldsChanged] at hlisted
  case supplyArrival rail =>
    change SamePccOut s (execSupplyArrival rail s)
    rw [execSupplyArrival, if_pos (hc rail rfl)]
    exact SamePcc.out rfl
  case assay r => exact execAssay_samePcc r s
  case cut => exact execCut_samePcc s
  case suppliesLost => exact execSuppliesLost_samePcc s
  case registerWrite space off size v => exact execRegisterWrite_samePcc space off size v s
  case ptmRequest => exact execPtmRequest_samePcc s
  case otcSave => exact SamePccOut.ite (SamePcc.out (State.withClock_samePcc _ _ rfl)) (SamePcc.out rfl)
  case ptmResponse m => exact execPtmResponse_samePcc m s
  case ptmAbandon => exact execPtmAbandon_samePcc s
  case holdoverEntry => exact execHoldoverEntry_samePcc s
  case holdoverExpiry => exact execHoldoverExpiry_samePcc s
  case timeSet job ns word => exact execTimeSet_samePcc job ns word s
  case timeSetDone job => exact execTimeSetDone_samePcc job s
  case minuteClose => exact execMinuteClose_samePcc s
  case rngDataLo u => exact .ite (SamePcc.out rfl) (hread u _)
  case rngDataHi u => exact .ite (SamePcc.out rfl) (hread u _)
  case rngJdataLo u => exact .ite (hread u _) (SamePcc.out rfl)
  case rngJdataHi u => exact .ite (hread u _) (SamePcc.out rfl)
  case ldb => exact SamePcc.out (loadOp_samePcc ..)
  case ldh => exact SamePcc.out (loadOp_samePcc ..)
  case ldw => exact SamePcc.out (loadOp_samePcc ..)
  case lda => exact SamePcc.out (loadOp_samePcc ..)
  case dtbFrac u => exact .ite (SamePcc.out rfl) (hread u _)
  case cellExhausted => exact SamePccOut.ite (SamePcc.out rfl) (SamePcc.out rfl)
  all_goals exact absurd hlisted (by decide)

/-- An arrival up to its count: the supply is noted, and the islands of domain A are in service again (17 R657). -/
def supplied (s : State) (rail : Rail) : State :=
  ((domIsl 1).filter (fun n => n != 202 && n != 203)).foldl (fun s n => s.setIsl n 0)
    (s.withPower (fun p => match rail with
      | .aux33 => { p with aux33 := true, source := .aux33 }
      | .main12 => { p with main12 := true, source := .main12 }))

/-- The clock's part of an arrival: the count is raised, operating time and Sentinel Time are taken up (17 R655 to R657). -/
def cycleCounted (s : State) (rail : Rail) : State :=
  (supplied s rail).withClock (fun c => { c with
    pcc := (c.pcc + 1) % 2 ^ 32, otc := c.otcSaved, st := if c.stLost then 0 else c.st, saveStale := c.saveStale || c.stLost })

theorem supplied_clock (s : State) (rail : Rail) : (supplied s rail).clock = s.clock :=
  (Writes.foldl (m := offClock) (State.withPower_writes (.refl _ s) rfl) fun _ hu _ => State.setIsl_writes hu rfl).clock rfl

theorem cycleCounted_pcc (s : State) (rail : Rail) : (cycleCounted s rail).clock.pcc = (s.clock.pcc + 1) % 2 ^ 32 := by
  rw [cycleCounted, State.withClock_clock, supplied_clock]

theorem checkSt_samePcc (s : State) : SamePcc s (checkSt s) := by
  rw [checkSt]
  exact .ite ((State.withClock_samePcc s _ rfl).trans (State.event_writes (.refl _ _) rfl).samePcc) rfl

/-- An arrival up to the time that it restores (17 R652). -/
def arrivalTimed (s : State) (rail : Rail) : State :=
  (resolveMarks (checkSt (powerUpRec (cycleCounted s rail)))).withClock (fun c => { c with dtb := restoreDtb c })

theorem arrivalTimed_samePcc (s : State) (rail : Rail) : SamePcc (cycleCounted s rail) (arrivalTimed s rail) :=
  (((powerUpRec_writes (.refl _ _) rfl).samePcc.trans (checkSt_samePcc _)).trans (resolveMarks_writes (.refl _ _) rfl).samePcc).trans
    (State.withClock_samePcc _ (fun c => { c with dtb := restoreDtb c }) rfl)

/-- After the count nothing of an arrival changes it. -/
theorem execSupplyArrival_counted {s : State} (rail : Rail) (h : s.hostSupply = false) :
    ∃ t, execSupplyArrival rail s = .next t ∧ SamePcc (cycleCounted s rail) t := by
  refine ⟨_, if_neg (by rw [h]; decide), (arrivalTimed_samePcc s rail).trans (Writes.samePcc ?_)⟩
  refine enterMode_writes (newUid_writes (noteBudget_writes (.ite (State.withTamper_writes (actionRec_writes ?handed rfl) rfl) ?handed)
    rfl) rfl) rfl
  refine handover_writes (sntHandover_writes (resetCore_writes (resetCore_writes (selectImage_writes (State.withVerb_writes (startPath_writes
    (State.gset_writes ?_ rfl) rfl) rfl) rfl) rfl) rfl) rfl) rfl
  exact .ite (rootInvalid_writes (.refl _ _) rfl) (.refl _ _)

/-- Settles O59: an arrival on the cell counts once; every other command, and a supply that joins another, keeps the count. -/
theorem powerCyclesAreCountedOnce : Obligations.PowerCyclesAreCountedOnce :=
  ⟨fun s rail h => (execSupplyArrival_counted rail h).imp fun _ ht => ⟨ht.1, Eq.trans ht.2 (cycleCounted_pcc s rail)⟩,
    fun _ _ t ht hc => exec_samePcc hc t ht⟩

end Sys2Proof.Machine
end

section
/-! PROOF. DATA, IMMEDIATE and ACC words of Verb-14 (13 R507, R511, R514, R515, Tables 9, 10, 12): what each shared form of word leaves at
the unit that runs it, and the arithmetic of flags and accumulator fields. -/

namespace Sys2Proof.Machine

open Sys2Proof

/-! ### The forms of word -/

/-- Two changes that agree on the registers as they stand leave the same state. -/
theorem State.withRegs_congr {s : State} {u : Nat} {f g : VRegs → VRegs} (h : f (s.unit u).r = g (s.unit u).r) :
    s.withRegs u f = s.withRegs u g := by
  have hset (k : VRegs → VRegs) : s.withRegs u k = s.withVerb (fun v => { v with units := v.units.set u ((s.unit u).withR k) }) := rfl
  have hunit : (s.unit u).withR f = (s.unit u).withR g := by rw [VUnit.withR, h, VUnit.withR]
  rw [hset, hunit, hset]

section
variable {s : State} {u : Nat} {v : BitVec 32} {fl : Fl}

theorem dataOp_value {f : BitVec 32 → BitVec 32 → BitVec 32 → Option (BitVec 32) × Fl} {dd ds : Fin 8} (h : Runs s u 1)
    (hf : f ((s.unit u).r.d.get dd) ((s.unit u).r.d.get ds) (s.unit u).r.st = (some v, fl)) :
    dataOp s u dd ds f = s.afterData u 1 dd v fl := by
  rw [dataOp, runs_regs h]
  exact State.withRegs_congr (by rw [hf]; rfl)

theorem dataOp_flags {f : BitVec 32 → BitVec 32 → BitVec 32 → Option (BitVec 32) × Fl} {dd ds : Fin 8} (h : Runs s u 1)
    (hf : f ((s.unit u).r.d.get dd) ((s.unit u).r.d.get ds) (s.unit u).r.st = (none, fl)) :
    dataOp s u dd ds f = s.afterFlags u 1 fl := by
  rw [dataOp, runs_regs h]
  exact State.withRegs_congr (by rw [hf]; rfl)

/-- A word that is no reserved sequence runs. -/
theorem runWord_regs {pre : List (BitVec 12)} {word : Nat} (h : Runs s u (pre.length + 1))
    (hword : sequenceReserved (isSquadUnit u) pre word = false) (f : VRegs → VRegs → VRegs) :
    runWord s u pre word (onRegs u f) = s.withRegs u (fun r => f r (r.setPc (r.pc + BitVec.ofNat 20 (pre.length + 1)))) := by
  rw [runWord, hword, if_neg (by decide), runs_regs h]

theorem immOp_value {f : BitVec 32 → Option (BitVec 32) × Fl} {pre : List (BitVec 12)} {word : Nat} {dd : Fin 8}
    (h : Runs s u (pre.length + 1)) (hword : sequenceReserved (isSquadUnit u) pre word = false)
    (hf : f ((s.unit u).r.d.get dd) = (some v, fl)) : immOp s u pre word dd f = s.afterData u (pre.length + 1) dd v fl := by
  rw [immOp, runWord_regs h hword]
  exact State.withRegs_congr (by rw [hf]; rfl)

theorem immOp_flags {f : BitVec 32 → Option (BitVec 32) × Fl} {pre : List (BitVec 12)} {word : Nat} {dd : Fin 8}
    (h : Runs s u (pre.length + 1)) (hword : sequenceReserved (isSquadUnit u) pre word = false)
    (hf : f ((s.unit u).r.d.get dd) = (none, fl)) : immOp s u pre word dd f = s.afterFlags u (pre.length + 1) fl := by
  rw [immOp, runWord_regs h hword]
  exact State.withRegs_congr (by rw [hf]; rfl)

end

/-- A word that changes registers alone leaves what its effect gives for the registers as they stood. -/
theorem runs_onRegs {s : State} {u len : Nat} (h : Runs s u len) {f : VRegs → VRegs → VRegs} {g : VRegs → VRegs}
    (e : f (s.unit u).r ((s.unit u).r.setPc ((s.unit u).r.pc + BitVec.ofNat 20 len)) = g (s.unit u).r) :
    runVerb s u len (onRegs u f) = s.withRegs u g := (runs_regs h f).trans (State.withRegs_congr e)

/-- A word that takes prefixes and is no reserved pattern is no reserved sequence with up to three (13 R511, R512). -/
theorem prefixed_ok {sq : Bool} {w : Nat} (hw : w < 12288) (ht : takesPrefix w = true) (hr : wordReserved sq w = false)
    {pre : List (BitVec 12)} (hpre : pre.length ≤ 3) : sequenceReserved sq pre w = false := by
  have hfour : decide (4 ≤ pre.length) = false := decide_eq_false (by omega)
  simp [sequenceReserved, hr, ht, hfour, Nat.not_le.mpr hw]

/-- SHLI and SHRI stand alone and are defined for every field. -/
theorem shiftImm_ok (sq : Bool) {op : Nat} (hop : op = 6 ∨ op = 7) (dd : Fin 8) (imm : BitVec 5) :
    sequenceReserved sq [] (wordImm op dd.val imm.toNat) = false := by
  have hi := imm.isLt
  have hclass : wordImm op dd.val imm.toNat / 2048 = 2 := by unfold wordImm; omega
  have hword : wordReserved sq (wordImm op dd.val imm.toNat) = false := by simp only [wordReserved, hclass]
  rw [sequenceReserved, if_neg (by unfold wordImm; omega), List.isEmpty_nil, if_pos rfl, hword]

/-- ADDAI takes up to three prefixes. -/
theorem addai_ok (sq : Bool) {pre : List (BitVec 12)} (hpre : pre.length ≤ 3) (ad : Fin 8) (imm : BitVec 5) :
    sequenceReserved sq pre (wordSys 7 (ad.val * 32 + imm.toNat)) = false := by
  have hi := imm.isLt
  have hclass : wordSys 7 (ad.val * 32 + imm.toNat) / 2048 = 0 := by unfold wordSys; omega
  have hgroup : wordSys 7 (ad.val * 32 + imm.toNat) / 256 % 8 = 7 := by unfold wordSys; omega
  refine prefixed_ok (by unfold wordSys; omega) ?_ ?_ hpre
  · simp only [takesPrefix, hclass, hgroup]
    rfl
  · simp only [wordReserved, hclass, hgroup]

/-! ### Sums and differences (13 R514) -/

theorem addF_eq (a b : BitVec 32) (c : Bool) :
    let x := a + b + BitVec.ofNat 32 (b2n c)
    addF a b c = (x, ⟨some (x == 0), some x.msb, some (decide (2 ^ 32 ≤ a.toNat + b.toNat + b2n c)), some (a.msb == b.msb && x.msb != a.msb)⟩) := by
  have hsum : BitVec.ofNat 32 (a.toNat + b.toNat + b2n c) = a + b + BitVec.ofNat 32 (b2n c) := by
    simp [BitVec.ofNat_add]
  simp only [addF, hsum]

theorem subF_eq (a b : BitVec 32) (c : Bool) :
    let x := a - b - BitVec.ofNat 32 (b2n c)
    subF a b c = (x, ⟨some (x == 0), some x.msb, some (decide (a.toNat < b.toNat + b2n c)), some (a.msb != b.msb && x.msb != a.msb)⟩) := by
  have hdiff : BitVec.ofInt 32 ((a.toNat : Int) - b.toNat - b2n c) = a - b - BitVec.ofNat 32 (b2n c) := by
    rw [sub_eq_add_neg, sub_eq_add_neg, BitVec.ofInt_add, BitVec.ofInt_add, BitVec.ofInt_neg, BitVec.ofInt_neg, BitVec.ofInt_natCast,
      BitVec.ofInt_natCast, BitVec.ofInt_natCast, BitVec.ofNat_toNat, BitVec.ofNat_toNat, BitVec.setWidth_eq, BitVec.setWidth_eq,
      ← BitVec.sub_eq_add_neg, ← BitVec.sub_eq_add_neg]
  have hborrow : decide ((a.toNat : Int) - b.toNat - b2n c < 0) = decide (a.toNat < b.toNat + b2n c) := by
    rw [decide_eq_decide]
    omega
  simp only [subF, hdiff, hborrow]

/-- A borrow of a difference without a borrow in. -/
theorem subF_false (a b : BitVec 32) : subF a b false = (a - b, ⟨some (a - b == 0), some (a - b).msb, some (decide (a.toNat < b.toNat)),
    some (a.msb != b.msb && (a - b).msb != a.msb)⟩) := by
  simpa [b2n] using subF_eq a b false

theorem addF_false (a b : BitVec 32) : addF a b false = (a + b, ⟨some (a + b == 0), some (a + b).msb,
    some (decide (2 ^ 32 ≤ a.toNat + b.toNat)), some (a.msb == b.msb && (a + b).msb != a.msb)⟩) := by
  simpa [b2n] using addF_eq a b false

/-! ### The obligation -/

/-- Settles O34: each word is a form above with its sum or difference. -/
theorem verbAddAndSubtract : Obligations.VerbAddAndSubtract := by
  unfold Obligations.VerbAddAndSubtract
  refine ⟨?data, ?imm, ?addr, ?addai⟩
  case data =>
    intro s u dd ds h
    dsimp only
    refine ⟨?_, ?_, ?_, ?_, ?_, ?_⟩ <;> refine congrArg Host.Outcome.next ?_
    · exact dataOp_value h (congrArg res (addF_false ..))
    · exact dataOp_value h (congrArg res (addF_eq ..))
    · exact dataOp_value h (congrArg res (subF_false ..))
    · exact dataOp_value h (congrArg res (subF_eq ..))
    · rw [← BitVec.zero_sub]
      exact dataOp_value h (congrArg res (subF_false 0 _))
    · exact dataOp_flags h (congrArg (fun p => (none, p.2)) (subF_false ..))
  case imm =>
    intro s u pre dd imm hlen h
    refine ⟨congrArg Host.Outcome.next ?_, congrArg Host.Outcome.next ?_⟩
    · exact immOp_value h (imm_ok _ pre hlen 1 (by decide) dd imm) (congrArg res (addF_false ..))
    · exact immOp_flags h (imm_ok _ pre hlen 2 (by decide) dd imm) (congrArg (fun p => (none, p.2)) (subF_false ..))
  case addr =>
    intro s u ad x h
    refine ⟨congrArg Host.Outcome.next ?_, congrArg Host.Outcome.next ?_, congrArg Host.Outcome.next ?_⟩ <;> exact runs_onRegs h rfl
  case addai =>
    intro s u pre ad imm hlen h
    refine congrArg Host.Outcome.next ?_
    exact (runWord_regs h (addai_ok _ hlen ad imm) _).trans (State.withRegs_congr rfl)

/-! ### Shifts, counts and bytes (13 R514, Table 10) -/

/-- The last bit that a rotation to the right brings out stands at its top. -/
theorem rorF_eq (a : BitVec 32) {k : Nat} (hk : k < 32) :
    rorF a k = (a.rotateRight k, shiftF (a.rotateRight k) k (a.getLsbD (k - 1))) := by
  have hmsb (h0 : k ≠ 0) : (a.rotateRight k).msb = a.getLsbD (k - 1) := by
    have hplace : (32 - k % 32) % 32 = 32 - k := by omega
    have hindex : 32 - 1 - (32 - k) = k - 1 := by omega
    rw [BitVec.msb_rotateRight, hplace, BitVec.getMsbD, hindex, decide_eq_true (by omega), Bool.true_and]
  simp only [rorF, shiftF]
  by_cases h0 : k = 0
  · simp [h0]
  · rw [hmsb h0]

theorem ult_ite {α : Type} (a b : BitVec 32) (x y : α) : (if a.ult b then x else y) = if a.toNat < b.toNat then x else y := by
  simp [BitVec.ult]

theorem slt_ite {α : Type} (a b : BitVec 32) (x y : α) : (if a.slt b then x else y) = if a.toInt < b.toInt then x else y := by
  simp [BitVec.slt]

theorem bitLen_le : ∀ n v : Nat, bitLen n v ≤ n
  | 0, _ => Nat.le_refl 0
  | n + 1, v => by
    have ih := bitLen_le n (v / 2)
    rw [bitLen]
    split <;> omega

theorem lt_two_pow_bitLen : ∀ {n v : Nat}, v < 2 ^ n → v < 2 ^ bitLen n v
  | 0, _, h => h
  | n + 1, v, h => by
    have ih := lt_two_pow_bitLen (n := n) (v := v / 2) (by omega)
    rw [bitLen]
    split
    · omega
    · rw [Nat.add_comm, Nat.pow_succ]
      omega

theorem two_pow_bitLen_le : ∀ {n v k : Nat}, bitLen n v = k + 1 → 2 ^ k ≤ v
  | 0, _, _, h => nomatch h
  | n + 1, v, k, h => by
    rw [bitLen] at h
    split at h
    · omega
    · cases k with
      | zero => omega
      | succ k =>
        have ih := two_pow_bitLen_le (n := n) (v := v / 2) (k := k) (by omega)
        rw [Nat.pow_succ]
        omega

/-- CLZ counts the zeros above the highest one bit. -/
theorem clz32_spec (b : BitVec 32) : ∃ n : Nat, clz32 b = BitVec.ofNat 32 n ∧ n ≤ 32 ∧ b.toNat < 2 ^ (32 - n) ∧
    (n < 32 → 2 ^ (31 - n) ≤ b.toNat) := by
  have hle := bitLen_le 32 b.toNat
  have hback : 32 - (32 - bitLen 32 b.toNat) = bitLen 32 b.toNat := by omega
  refine ⟨32 - bitLen 32 b.toNat, rfl, by omega, ?_, fun hn => two_pow_bitLen_le (n := 32) (by omega)⟩
  rw [hback]
  exact lt_two_pow_bitLen b.isLt

theorem popcount_eq_length : ∀ n v : Nat, popcount n v = ((List.range n).filter (fun i => v.testBit i)).length
  | 0, _ => rfl
  | n + 1, v => by
    have ih := popcount_eq_length n (v / 2)
    have hstep : (fun i => v.testBit i) ∘ Nat.succ = fun i => (v / 2).testBit i := by
      funext i
      simp [Nat.testBit_succ]
    rw [popcount, ih, List.range_succ_eq_map, List.filter_cons, List.filter_map, hstep]
    rcases Nat.mod_two_eq_zero_or_one v with h | h <;> simp [Nat.testBit_zero, h, Nat.add_comm]

/-- Fields side by side, as a number. -/
theorem toNat_append_add {n m : Nat} (x : BitVec n) (y : BitVec m) : (x ++ y).toNat = x.toNat * 2 ^ m + y.toNat := by
  rw [BitVec.toNat_append, ← Nat.shiftLeft_add_eq_or_of_lt y.isLt, Nat.shiftLeft_eq]

theorem toNat_extract {n : Nat} (x : BitVec n) (start len : Nat) : (x.extractLsb' start len).toNat = x.toNat / 2 ^ start % 2 ^ len := by
  rw [BitVec.extractLsb'_toNat, Nat.shiftRight_eq_div_pow]

theorem bswap32_eq (b : BitVec 32) :
    bswap32 b = b.extractLsb' 0 8 ++ b.extractLsb' 8 8 ++ b.extractLsb' 16 8 ++ b.extractLsb' 24 8 := by
  apply BitVec.eq_of_toNat_eq
  simp only [bswap32, toLE, beNat, List.foldl, toNat_append_add, toNat_extract, BitVec.toNat_ofNat, Nat.div_div_eq_div_mul, Nat.reducePow,
    Nat.reduceMul, Nat.div_one]
  omega

/-! ### Fields of an accumulator (13 R507) -/

theorem putField_low (x : BitVec 72) (a : BitVec 32) : putField x 0 32 a.toNat = x.extractLsb' 32 40 ++ a := by
  apply BitVec.eq_of_toNat_eq
  have hx := x.isLt
  have ha := a.isLt
  simp only [putField, toNat_append_add, toNat_extract, BitVec.toNat_ofNat]
  omega

theorem putField_middle (x : BitVec 72) (a : BitVec 32) : putField x 32 32 a.toNat = x.extractLsb' 64 8 ++ a ++ x.extractLsb' 0 32 := by
  apply BitVec.eq_of_toNat_eq
  have hx := x.isLt
  have ha := a.isLt
  simp only [putField, toNat_append_add, toNat_extract, BitVec.toNat_ofNat]
  omega

theorem putField_high (x : BitVec 72) (a : BitVec 32) : putField x 64 8 a.toNat = a.setWidth 8 ++ x.extractLsb' 0 64 := by
  apply BitVec.eq_of_toNat_eq
  have hx := x.isLt
  simp only [putField, toNat_append_add, toNat_extract, BitVec.toNat_ofNat, BitVec.toNat_setWidth]
  omega

theorem ofNat_field (x : BitVec 72) (sh : Nat) : BitVec.ofNat 32 (x.toNat / 2 ^ sh % 2 ^ 32) = x.extractLsb' sh 32 := by
  apply BitVec.eq_of_toNat_eq
  rw [toNat_extract, BitVec.toNat_ofNat, Nat.mod_mod]

theorem ofNat_guard (x : BitVec 72) : BitVec.ofNat 32 (x.toNat / 2 ^ 64 % 2 ^ 8) = (x.extractLsb' 64 8).setWidth 32 := by
  apply BitVec.eq_of_toNat_eq
  rw [BitVec.toNat_setWidth, toNat_extract, BitVec.toNat_ofNat]

theorem ofNat_shifted (x : BitVec 72) (k : Nat) : BitVec.ofNat 72 (x.toNat * 2 ^ k) = x <<< k := by
  apply BitVec.eq_of_toNat_eq
  rw [BitVec.toNat_shiftLeft, Nat.shiftLeft_eq, BitVec.toNat_ofNat]

theorem ofNat_accumulated (x : BitVec 72) (n : Nat) : BitVec.ofNat 72 (x.toNat + n) = x + BitVec.ofNat 72 n := by
  rw [BitVec.ofNat_add, BitVec.ofNat_toNat, BitVec.setWidth_eq]

theorem ofInt_accumulated (x : BitVec 72) (n : Int) : BitVec.ofInt 72 (x.toInt + n) = x + BitVec.ofInt 72 n := by
  rw [BitVec.ofInt_add, BitVec.ofInt_toInt]

theorem accOp_value {s : State} {u : Nat} {q : Fin 4} {f : VRegs → BitVec 72 × Bool} {v : BitVec 72} {g : Bool} (h : Runs s u 1)
    (hf : f (s.unit u).r = (v, g)) : accOp s u q f = s.afterAcc u q v g := by
  rw [accOp, runs_regs h]
  exact State.withRegs_congr (by rw [hf]; rfl)

theorem accRead_value {s : State} {u : Nat} {q : Fin 4} {d : Fin 8} {sh w : Nat} {v : BitVec 32} (h : Runs s u 1)
    (hv : BitVec.ofNat 32 (((s.unit u).r.q.get q).toNat / 2 ^ sh % 2 ^ w) = v) : accRead s u q d sh w = s.afterData u 1 d v {} := by
  rw [accRead, runs_regs h]
  exact State.withRegs_congr (by rw [hv]; rfl)

/-! ### The obligations -/

/-- Settles O35: each word is a form above with its result. -/
theorem verbLogicAndShifts : Obligations.VerbLogicAndShifts := by
  unfold Obligations.VerbLogicAndShifts
  refine ⟨?data, ?imm, ?shift⟩
  case data =>
    intro s u dd ds h
    have hk : ((s.unit u).r.d.get ds).toNat % 32 < 32 := Nat.mod_lt _ (by decide)
    dsimp only
    refine ⟨?_, ?_, ?_, ?_, ?_, ?_, ?_, ?_, ?_, ?ror⟩ <;> refine congrArg Host.Outcome.next ?_
    case ror => exact dataOp_value h (congrArg res (rorF_eq _ hk))
    case refine_6 => exact dataOp_flags h rfl
    all_goals exact dataOp_value h rfl
  case imm =>
    intro s u pre dd imm hlen h
    refine ⟨congrArg Host.Outcome.next ?_, congrArg Host.Outcome.next ?_, congrArg Host.Outcome.next ?_⟩
    · exact immOp_value h (imm_ok _ pre hlen 3 (by decide) dd imm) rfl
    · exact immOp_value h (imm_ok _ pre hlen 4 (by decide) dd imm) rfl
    · exact immOp_value h (imm_ok _ pre hlen 5 (by decide) dd imm) rfl
  case shift =>
    intro s u dd imm h
    refine ⟨congrArg Host.Outcome.next ?_, congrArg Host.Outcome.next ?_⟩
    · exact immOp_value (pre := []) h (shiftImm_ok _ (.inl rfl) dd imm) rfl
    · exact immOp_value (pre := []) h (shiftImm_ok _ (.inr rfl) dd imm) rfl

/-- Settles O36: each word is a form above with its result; CMOVZ and CMOVC write or leave Dd. -/
theorem verbProductsAndMoves : Obligations.VerbProductsAndMoves := by
  unfold Obligations.VerbProductsAndMoves
  refine ⟨?data, ?movi, ?addr⟩
  case data =>
    intro s u dd ds h
    have hmove {c : Bool} {f : BitVec 32 → BitVec 32 → BitVec 32 → Option (BitVec 32) × Fl}
        (hf : f ((s.unit u).r.d.get dd) ((s.unit u).r.d.get ds) (s.unit u).r.st = (if c then some ((s.unit u).r.d.get ds) else none, {})) :
        dataOp s u dd ds f = if c then s.afterData u 1 dd ((s.unit u).r.d.get ds) {} else s.afterFlags u 1 {} := by
      cases c with
      | true => exact dataOp_value h hf
      | false => exact dataOp_flags h hf
    obtain ⟨n, hclz, hn⟩ := clz32_spec ((s.unit u).r.d.get ds)
    dsimp only
    refine ⟨?_, ?_, ?_, ?_, ?minu, ?maxu, ?mins, ?maxs, ⟨n, ?clz, hn⟩, ⟨_, ?_, popcount_eq_length 32 _⟩, ?bswap, ?cmovz, ?cmovc, ?_, ?_⟩ <;>
      refine congrArg Host.Outcome.next ?_
    case minu => exact dataOp_value h (congrArg resM (ult_ite ..))
    case maxu => exact dataOp_value h (congrArg resM (ult_ite ..))
    case mins => exact dataOp_value h (congrArg resM (slt_ite ..))
    case maxs => exact dataOp_value h (congrArg resM (slt_ite ..))
    case clz => exact dataOp_value h (congrArg resM hclz)
    case bswap => exact dataOp_value h (congrArg resM (bswap32_eq _))
    case cmovz => exact hmove rfl
    case cmovc => exact hmove rfl
    all_goals exact dataOp_value h rfl
  case movi =>
    intro s u pre dd imm hlen h
    exact congrArg Host.Outcome.next (immOp_value h (imm_ok _ pre hlen 0 (by decide) dd imm) rfl)
  case addr =>
    intro s u x y h
    refine ⟨congrArg Host.Outcome.next ?_, congrArg Host.Outcome.next ?_, congrArg Host.Outcome.next ?_⟩ <;> exact runs_onRegs h rfl

/-- Settles O37: each word computes its accumulator, or reads a field of it. -/
theorem verbAccumulators : Obligations.VerbAccumulators := by
  unfold Obligations.VerbAccumulators
  intro s u q m n h
  dsimp only
  refine ⟨?_, ?_, ?_, ?_, ?_, ?_, ?_, ?_, ?_, ?_, ?_⟩ <;> refine congrArg Host.Outcome.next ?_
  · exact accOp_value h (congrArg (·, _) (ofNat_accumulated ..))
  · exact accOp_value h (congrArg (·, _) (ofInt_accumulated ..))
  · exact accOp_value h rfl
  · exact accRead_value h (ofNat_field _ 0)
  · exact accRead_value h (ofNat_field _ 32)
  · exact accRead_value h (ofNat_guard _)
  · exact accOp_value h (congrArg (·, false) (putField_low ..))
  · exact accOp_value h (congrArg (·, false) (putField_middle ..))
  · exact accOp_value h (congrArg (·, false) (putField_high ..))
  · exact accOp_value h rfl
  · exact accOp_value h (congrArg (·, _) (ofNat_shifted ..))

end Sys2Proof.Machine
end

section
/-! PROOF. States that differ in a set of fields (95): with those fields put back, the second is the first. -/

namespace Sys2Proof.Machine

open Sys2Proof

/-- The second state with the fields of a set, numbered as in `Writes`, taken from the first. -/
def State.merge (m : Nat) (s t : State) : State where
  pending := bif m.testBit 0 then s.pending else t.pending
  free := bif m.testBit 1 then s.free else t.free
  power := bif m.testBit 2 then s.power else t.power
  clock := bif m.testBit 3 then s.clock else t.clock
  islands := bif m.testBit 4 then s.islands else t.islands
  evr := bif m.testBit 5 then s.evr else t.evr
  mode := bif m.testBit 6 then s.mode else t.mode
  link := bif m.testBit 7 then s.link else t.link
  parts := bif m.testBit 8 then s.parts else t.parts
  rings := bif m.testBit 9 then s.rings else t.rings
  jobs := bif m.testBit 10 then s.jobs else t.jobs
  nextJob := bif m.testBit 11 then s.nextJob else t.nextJob
  intake := bif m.testBit 12 then s.intake else t.intake
  disp := bif m.testBit 13 then s.disp else t.disp
  lanes := bif m.testBit 14 then s.lanes else t.lanes
  meter := bif m.testBit 15 then s.meter else t.meter
  guards := bif m.testBit 16 then s.guards else t.guards
  guardSt := bif m.testBit 17 then s.guardSt else t.guardSt
  tamper := bif m.testBit 18 then s.tamper else t.tamper
  mgmt := bif m.testBit 19 then s.mgmt else t.mgmt
  keys := bif m.testBit 20 then s.keys else t.keys
  rng := bif m.testBit 21 then s.rng else t.rng
  dma := bif m.testBit 22 then s.dma else t.dma
  code := bif m.testBit 23 then s.code else t.code
  vault := bif m.testBit 24 then s.vault else t.vault
  verb := bif m.testBit 25 then s.verb else t.verb
  appr := bif m.testBit 26 then s.appr else t.appr
  tag := bif m.testBit 27 then s.tag else t.tag
  life := bif m.testBit 28 then s.life else t.life
  stood := bif m.testBit 29 then s.stood else t.stood
  gls := bif m.testBit 30 then s.gls else t.gls
  mem := bif m.testBit 31 then s.mem else t.mem
  codeFlash := bif m.testBit 32 then s.codeFlash else t.codeFlash
  barMem := bif m.testBit 33 then s.barMem else t.barMem
  hostMem := bif m.testBit 34 then s.hostMem else t.hostMem

theorem cond_eq_left {α : Type} {b : Bool} {x y : α} (h : b = false → y = x) : (bif b then x else y) = x := by
  cases b with
  | false => exact h rfl
  | true => rfl

/-- With the written fields put back, the second state is the first. -/
theorem Writes.merge {m : Nat} {s t : State} (h : Writes m s t) : State.merge m s t = s := by
  cases s
  simp only [State.merge, State.mk.injEq]
  exact ⟨cond_eq_left h.pending, cond_eq_left h.free, cond_eq_left h.power, cond_eq_left h.clock, cond_eq_left h.islands, cond_eq_left
    h.evr, cond_eq_left h.mode, cond_eq_left h.link, cond_eq_left h.parts, cond_eq_left h.rings, cond_eq_left h.jobs, cond_eq_left
    h.nextJob, cond_eq_left h.intake, cond_eq_left h.disp, cond_eq_left h.lanes, cond_eq_left h.meter, cond_eq_left h.guards,
    cond_eq_left h.guardSt, cond_eq_left h.tamper, cond_eq_left h.mgmt, cond_eq_left h.keys, cond_eq_left h.rng, cond_eq_left h.dma,
    cond_eq_left h.code, cond_eq_left h.vault, cond_eq_left h.verb, cond_eq_left h.appr, cond_eq_left h.tag, cond_eq_left h.life,
    cond_eq_left h.stood, cond_eq_left h.gls, cond_eq_left h.mem, cond_eq_left h.codeFlash, cond_eq_left h.barMem, cond_eq_left
    h.hostMem⟩

end Sys2Proof.Machine
end


section
/-! PROOF. FLOW and SYSTEM words of Verb-14, waits and exception entry (13 R507, R508, R520 to R528, Table 9; 14 R541 to R558): what each
leaves at its unit. -/

namespace Sys2Proof.Machine

open Sys2Proof

/-! ### Units changed and read back -/

/-- Two changes that agree on the unit as it stands leave the same state. -/
theorem State.withUnit_congr {s : State} {u : Nat} {f g : VUnit → VUnit} (h : f (s.unit u) = g (s.unit u)) :
    s.withUnit u f = s.withUnit u g := by
  have hset (k : VUnit → VUnit) : s.withUnit u k = s.withVerb (fun v => { v with units := v.units.set u (k (s.unit u)) }) := rfl
  rw [hset, h, hset]

/-- A unit with no load on its way lands as it stands. -/
theorem land_eq {x : VUnit} (h : x.pendLoad = none) : land x = x := by rw [land, h]

/-- TICK follows what a unit keeps of its clock, and nothing else of it. -/
theorem tickOf_withUnit {s : State} {u : Nat} {f : VUnit → VUnit} (hat : (f (s.unit u)).tickAt = (s.unit u).tickAt)
    (hbase : (f (s.unit u)).tickBase = (s.unit u).tickBase) (hslow : (f (s.unit u)).tickSlow = (s.unit u).tickSlow) :
    tickOf (s.withUnit u f) u = tickOf s u := by
  have hunit : Tab.get {} (s.withUnit u f).verb.units u = f (s.unit u) := State.unit_withUnit s u f
  simp only [tickOf, hunit, hat, hbase, hslow, State.withUnit_clock]
  rfl

/-! ### FLOW (13 R520) -/

theorem flow_ok (sq : Bool) {pre : List (BitVec 12)} (hpre : pre.length ≤ 3) {cond : Nat} (hc : cond < 16) (disp : BitVec 7) :
    sequenceReserved sq pre (wordFlow cond disp.toNat) = false := by
  have hd := disp.isLt
  have hclass : wordFlow cond disp.toNat / 2048 = 4 := by unfold wordFlow; omega
  refine prefixed_ok (by unfold wordFlow; omega) ?_ ?_ hpre
  · simp only [takesPrefix, hclass]
  · simp only [wordReserved, hclass]

/-! ### Waiting words (13 R524) -/

section
variable {s : State} {u : Nat}

/-- A waiting word that is issued begins at its unit as it stands. -/
theorem beginWait_runs (h : Runs s u 1) (f : VUnit → State → State) :
    beginWait s u f = f (s.unit u) (s.withUnit u (fun x => x)) := by
  obtain ⟨hup, hwait, hstall, hfetch, hload, -⟩ := h
  have hland : s.withUnit u land = s.withUnit u (fun x => x) := State.withUnit_congr (land_eq hload)
  simp only [beginWait, hup, hwait, hstall, hfetch, hland]
  rfl

/-- The state in which a wait is over: its PC has passed, and the latch and ST are as given. -/
def State.woken (s : State) (u : Nat) (latch : Bool) (st : BitVec 32) : State :=
  s.withUnit u (fun x => { x.wake with latch := latch, r := { x.wake.r with st := st } })

theorem State.woken_at (hw : (s.unit u).wait = none) (latch : Bool) (st : BitVec 32) :
    (s.withUnit u (fun x => x)).woken u latch st = s.withUnit u (fun x => { x with latch := latch, r := { x.r with pc := x.r.pc + 1, st := st } }) := by
  refine (State.withUnit_withUnit ..).trans (State.withUnit_congr ?_)
  simp only [VUnit.wake, VUnit.withR, VRegs.setPc, hw]

theorem takeAsync_woken (h : nextAsync (s.unit u) = none) (latch : Bool) (st : BitVec 32) :
    takeAsync (s.woken u latch st) u = s.woken u latch st := by
  refine takeAsync_none ?_
  rw [nextAsync_eq_none_iff] at h ⊢
  rwa [State.woken, State.unit_withUnit]

theorem wfeStep_latched (h : nextAsync (s.unit u) = none) (hl : (s.unit u).latch = true) :
    wfeStep s u = s.woken u false (s.unit u).r.st := by
  have hstate : s.withUnit u (fun x => { x.wake with latch := false }) = s.woken u false (s.unit u).r.st := State.withUnit_congr rfl
  rw [wfeStep, if_pos hl, hstate, takeAsync_woken h]

theorem wfeStep_waits (h : nextAsync (s.unit u) = none) (hl : (s.unit u).latch = false) :
    wfeStep s u = s.withUnit u (fun x => { x with wait := some none }) := by
  simp [wfeStep, hl, h]

theorem waitcStep_late (h : nextAsync (s.unit u) = none) {d : BitVec 32} (hd : deadlineMet (tickOf s u) d = true) :
    waitcStep s u d = s.woken u (s.unit u).latch (putBit (s.unit u).r.st 2 false) := by
  have hstate : s.withUnit u (fun x => x.wake.withR (fun r => r.setSt (putBit r.st 2 false))) =
      s.woken u (s.unit u).latch (putBit (s.unit u).r.st 2 false) := State.withUnit_congr rfl
  rw [waitcStep, if_pos hd, hstate, takeAsync_woken h]

theorem waitcStep_latched (h : nextAsync (s.unit u) = none) {d : BitVec 32} (hd : deadlineMet (tickOf s u) d = false)
    (hl : (s.unit u).latch = true) : waitcStep s u d = s.woken u false (putBit (s.unit u).r.st 2 true) := by
  have hstate : s.withUnit u (fun x => { x.wake.withR (fun r => r.setSt (putBit r.st 2 true)) with latch := false }) =
      s.woken u false (putBit (s.unit u).r.st 2 true) := State.withUnit_congr rfl
  rw [waitcStep, if_neg (by rw [hd]; decide), if_pos hl, hstate, takeAsync_woken h]

theorem waitcStep_waits (h : nextAsync (s.unit u) = none) {d : BitVec 32} (hd : deadlineMet (tickOf s u) d = false)
    (hl : (s.unit u).latch = false) : waitcStep s u d = s.withUnit u (fun x => { x with wait := some (some d) }) := by
  simp [waitcStep, hd, hl, h]

end

/-! ### Events sent to cores (13 R522, R523) -/

/-- Beside its latch and the senders noted, a unit is as before. -/
def SameButEvents (x y : VUnit) : Prop := { y with latch := x.latch, ev0 := x.ev0, ev1 := x.ev1 } = x

theorem SameButEvents.regs {x y : VUnit} (h : SameButEvents x y) : y.r = x.r := by
  rw [SameButEvents] at h
  rw [← h]

section
variable {g : VUnit → VUnit} (hg : ∀ x, (g x).latch = true ∧ SameButEvents x (g x))
include hg

theorem foldl_signal_unit (v : Nat) : ∀ (l : List Nat) (s : State),
    SameButEvents (s.unit v) ((l.foldl (fun s u => s.withUnit u g) s).unit v)
  | [], _ => rfl
  | u :: l, s => by
    have ih := foldl_signal_unit v l (s.withUnit u g)
    by_cases hv : v = u
    · subst hv
      rw [State.unit_withUnit] at ih
      have hx := (hg (s.unit v)).2
      unfold SameButEvents at ih hx ⊢
      rw [List.foldl_cons]
      rw [← ih] at hx
      exact hx
    · rwa [State.unit_withUnit_other _ _ hv] at ih

theorem foldl_signal_latched (v : Nat) : ∀ (l : List Nat) (s : State), v ∈ l ∨ (s.unit v).latch = true →
    ((l.foldl (fun s u => s.withUnit u g) s).unit v).latch = true
  | [], _, h => h.resolve_left (List.not_mem_nil)
  | u :: l, s, h => by
    refine foldl_signal_latched v l (s.withUnit u g) ?_
    by_cases hv : v = u
    · subst hv
      right
      rw [State.unit_withUnit]
      exact (hg _).1
    · rw [State.unit_withUnit_other _ _ hv]
      exact h.imp_left (fun hm => (List.mem_cons.mp hm).resolve_left hv)

end

/-- What a unit notes of a sender. -/
def noteSender (b : Nat) (x : VUnit) : VUnit :=
  { x with latch := true, ev0 := (BitVec.ofNat 64 (2 ^ b) ||| (x.ev1 ++ x.ev0)).setWidth 32,
           ev1 := ((BitVec.ofNat 64 (2 ^ b) ||| (x.ev1 ++ x.ev0)) >>> 32).setWidth 32 }

/-- The units that a mask of cores names. -/
def namedUnits (mask : Nat) : List Nat := ((List.range 44).filter (fun n => bit mask n)).flatMap coreUnits

theorem sendEvents_eq (s : State) (mask b : Nat) :
    sendEvents s mask (some b) = (namedUnits mask).foldl (fun s u => s.withUnit u (noteSender b)) s := by
  rw [namedUnits, List.foldl_flatMap]
  rfl

theorem mem_namedUnits {mask v : Nat} (hv : v < 12) (h1 : v ≠ 1) (h3 : v ≠ 3) (hm : bit mask v = true) : v ∈ namedUnits mask := by
  refine List.mem_flatMap.mpr ⟨v, List.mem_filter.mpr ⟨List.mem_range.mpr (by omega), hm⟩, ?_⟩
  rw [coreUnits]
  split_ifs
  · exact List.mem_singleton.mpr (by omega)
  · exact List.mem_singleton.mpr rfl

/-- What a core's SEV sends: the events that its permit mask leaves, and the count of the others (13 R522, R523). -/
def sentBy (s : State) (u : Nat) (d : BitVec 32) : State :=
  let m := BitVec.ofNat 64 (sevCores false d)
  sendEvents (s.bumpBys gVerbSevDropped 0 (popcount 44 (m &&& ~~~(s.unit u).sevMask).toNat)) (m &&& (s.unit u).sevMask).toNat
    (some (coreNum u))

theorem sentBy_unit (s : State) (u : Nat) (d : BitVec 32) (v : Nat) : SameButEvents (s.unit v) ((sentBy s u d).unit v) := by
  rw [sentBy, sendEvents_eq]
  exact foldl_signal_unit (g := noteSender (coreNum u)) (fun x => ⟨rfl, rfl⟩) v _ _

theorem nextAsync_of_sameButEvents {x y : VUnit} (h : SameButEvents x y) (hn : nextAsync x = none) : nextAsync y = none := by
  rw [SameButEvents] at h
  rw [nextAsync_eq_none_iff] at hn ⊢
  rw [← h] at hn
  exact hn

theorem sentBy_latched (s : State) (u : Nat) (d : BitVec 32) {v : Nat} (hv : v < 12) (h1 : v ≠ 1) (h3 : v ≠ 3)
    (hm : (BitVec.ofNat 64 d.toNat &&& (s.unit u).sevMask).getLsbD v = true) : ((sentBy s u d).unit v).latch = true := by
  rw [sentBy, sendEvents_eq]
  refine foldl_signal_latched (g := noteSender (coreNum u)) (fun x => ⟨rfl, rfl⟩) v _ _ (.inl (mem_namedUnits hv h1 h3 ?_))
  have hlow : (BitVec.ofNat 64 (sevCores false d)).getLsbD v = (BitVec.ofNat 64 d.toNat).getLsbD v := by
    have hmod : (d.toNat % 2 ^ 12).testBit v = d.toNat.testBit v := by
      rw [Nat.testBit_mod_two_pow, decide_eq_true hv, Bool.true_and]
    rw [sevCores, if_neg (by decide), BitVec.getLsbD_ofNat, BitVec.getLsbD_ofNat, hmod]
  have hbit (n i : Nat) : bit n i = n.testBit i := by
    rw [bit, Nat.testBit_eq_decide_div_mod_eq]
    rfl
  rw [hbit, ← BitVec.getLsbD, BitVec.getLsbD_and, hlow, ← BitVec.getLsbD_and]
  exact hm

theorem State.unit_afterPc (s : State) (u : Nat) :
    (s.afterPc u).unit u = { s.unit u with r := { (s.unit u).r with pc := (s.unit u).r.pc + 1 } } := State.unit_withUnit ..

theorem sentBy_frame {z s : State} (h : Writes 1107296256 z s) (u : Nat) (d : BitVec 32) : Writes 1107296256 z (sentBy s u d) := by
  unfold sentBy
  exact sendEvents_writes (State.bumpBys_writes h rfl) rfl

theorem exec_sev {s : State} {u : Nat} (h : Runs s u 1) (dn : Fin 8) :
    exec (.sev u dn false) s = .next (sentBy (s.afterPc u) u ((s.unit u).r.d.get dn)) := by
  have hpc : ((s.afterPc u).unit u).sevMask = (s.unit u).sevMask := by rw [State.afterPc, State.withRegs, State.unit_withUnit]; rfl
  have hasync : nextAsync ((s.afterPc u).unit u) = none := nextAsync_withRegs _ h.2.2.2.2.2
  refine congrArg Host.Outcome.next (runVerb_done h ?_ (nextAsync_of_sameButEvents (sentBy_unit ..) hasync))
  simp only [sentBy, hpc]
  rfl

/-! ### The obligation on flow -/

/-- Settles O38: a FLOW or jump word changes registers alone; a waiting word passes or waits by its latch and deadline; SEV sends. -/
theorem verbFlowEventsAndWaits : Obligations.VerbFlowEventsAndWaits := by
  unfold Obligations.VerbFlowEventsAndWaits
  refine ⟨?flow, ?jump, ?passes, ?waits, ?wake, ?sev⟩
  case flow =>
    intro s u pre cond disp hpre h
    refine ⟨congrArg Host.Outcome.next ?_, congrArg Host.Outcome.next ?_⟩
    · refine (runWord_regs h (flow_ok _ hpre (by omega) disp) _).trans (State.withRegs_congr ?_)
      split <;> rfl
    · exact (runWord_regs h (flow_ok _ hpre (by decide) disp) _).trans (State.withRegs_congr rfl)
  case jump =>
    intro s u as h
    have hn : nextAsync ((s.afterPc u).unit u) = none := nextAsync_withRegs _ h.2.2.2.2.2
    refine ⟨congrArg Host.Outcome.next (runs_onRegs h rfl), congrArg Host.Outcome.next (runs_onRegs h rfl),
      congrArg Host.Outcome.next (runVerb_done h rfl hn), congrArg Host.Outcome.next (runVerb_done h rfl hn)⟩
  case passes =>
    intro s u dn h hl
    have hx : (s.withUnit u (fun x => x)).unit u = s.unit u := State.unit_withUnit ..
    have htick : tickOf (s.withUnit u (fun x => x)) u = tickOf s u := tickOf_withUnit rfl rfl rfl
    have hl' : ((s.withUnit u (fun x => x)).unit u).latch = true := by rw [hx, hl]
    have hn : nextAsync ((s.withUnit u (fun x => x)).unit u) = none := by rw [hx, h.2.2.2.2.2]
    refine ⟨congrArg Host.Outcome.next ?_, fun hd => congrArg Host.Outcome.next ?_, fun hd => congrArg Host.Outcome.next ?_⟩
    · rw [beginWait_runs h, wfeStep_latched hn hl', State.woken_at h.2.1, hx]
      exact State.withUnit_congr rfl
    · rw [beginWait_runs h, waitcStep_latched hn (htick ▸ hd) hl', State.woken_at h.2.1, hx]
      exact State.withUnit_congr rfl
    · rw [beginWait_runs h, waitcStep_late hn (htick ▸ hd), State.woken_at h.2.1, hx]
      exact State.withUnit_congr rfl
  case waits =>
    intro s u dn h hl
    have hx : (s.withUnit u (fun x => x)).unit u = s.unit u := State.unit_withUnit ..
    have htick : tickOf (s.withUnit u (fun x => x)) u = tickOf s u := tickOf_withUnit rfl rfl rfl
    have hl' : ((s.withUnit u (fun x => x)).unit u).latch = false := by rw [hx, hl]
    have hn : nextAsync ((s.withUnit u (fun x => x)).unit u) = none := by rw [hx, h.2.2.2.2.2]
    refine ⟨congrArg Host.Outcome.next ?_, fun hd => congrArg Host.Outcome.next ?_⟩
    · rw [beginWait_runs h, wfeStep_waits hn hl', State.withUnit_withUnit]
    · rw [beginWait_runs h, waitcStep_waits hn (htick ▸ hd) hl', State.withUnit_withUnit]
  case wake =>
    intro s u hup hw hl hn
    have hstep : exec (.waitWake u) s = .next (wfeStep s u) := by
      rw [show exec (.waitWake u) s = execWaitWake u s from rfl, execWaitWake, hup, hw]
      rfl
    rw [hstep, wfeStep_latched hn hl]
    exact congrArg Host.Outcome.next (State.withUnit_congr rfl)
  case sev =>
    intro s u v dn h hv h1 h3 hm
    have hunit := State.unit_afterPc s u
    have hown : SameButEvents ((s.afterPc u).unit u) ((sentBy (s.afterPc u) u ((s.unit u).r.d.get dn)).unit u) := sentBy_unit ..
    have hregs := hown.regs
    rw [hunit] at hregs
    refine ⟨_, exec_sev h dn, sentBy_latched _ _ _ hv h1 h3 (by rwa [hunit]), by rw [hregs], by rw [hregs], ?_⟩
    exact (sentBy_frame (State.withRegs_writes (.refl _ s) rfl) u _).merge

end Sys2Proof.Machine
end

section
/-! PROOF. SYSTEM words of Verb-14 and exception entry (13 R507, R508, R512, R513; 14 R543, R552 to R558). -/

namespace Sys2Proof.Machine

open Sys2Proof

/-! ### The level and EM of ST -/

theorem stLvl_eq (st : BitVec 32) : stLvl st = (st.extractLsb' 9 2).toNat := by
  rw [stLvl, BitVec.extractLsb'_toNat, Nat.shiftRight_eq_div_pow]

theorem stLvl_lt (st : BitVec 32) : stLvl st < 4 := Nat.mod_lt _ (by decide)

theorem withLvl_level (st : BitVec 32) {l : Nat} (hl : l < 4) (em : Bool) : stLvl (withLvl st l em) = l := by
  have hbits : (withLvl st l em).extractLsb' 9 2 = BitVec.ofNat 2 l := by
    have hlow : ∀ l < 4, ∀ i < 2, (BitVec.ofNat 2 l).getLsbD i = if i = 0 then l % 2 == 1 else l / 2 % 2 == 1 := by decide
    refine BitVec.eq_of_getLsbD_eq (fun i hi => ?_)
    rw [hlow l hl i hi, BitVec.getLsbD_extractLsb', decide_eq_true hi, Bool.true_and]
    have hi2 : i = 0 ∨ i = 1 := by omega
    obtain rfl | rfl := hi2 <;> cases em <;> cases h1 : l % 2 == 1 <;> cases h2 : l / 2 % 2 == 1 <;> simp [withLvl, putBit, h1, h2]
  rw [stLvl_eq, hbits, BitVec.toNat_ofNat]
  exact Nat.mod_eq_of_lt hl

theorem withLvl_em (st : BitVec 32) (l : Nat) (em : Bool) : stEM (withLvl st l em) = em := by
  cases em <;> simp [stEM, withLvl, putBit]

theorem takenAt_bounds (xroute : BitVec 32) (cls : Nat) {lvl : Nat} (h : lvl < 4) : 1 ≤ takenAt xroute cls lvl ∧ takenAt xroute cls lvl < 4 := by
  unfold takenAt
  omega

/-! ### Exception entry (14 R543) -/

theorem Vector.get_set_fin {α : Type} {n : Nat} (v : Vector α n) (i : Fin n) (a : α) : (v.set i a).get i = a :=
  Vector.getElem_set_self i.isLt

section
variable (x : VUnit) (e : Exc) (pc : BitVec 20)

theorem enterExc_lvl : (enterExc x e pc).lvl = takenAt x.xroute e.cls x.lvl :=
  withLvl_level _ (takenAt_bounds _ _ (stLvl_lt _)).2 _

theorem enterExc_em : stEM (enterExc x e pc).r.st = true := withLvl_em ..

theorem enterExc_spc : (enterExc x e pc).spc.get (Fin.ofNat 3 (takenAt x.xroute e.cls x.lvl - 1)) = pc := Vector.get_set_fin ..

theorem enterExc_sst : (enterExc x e pc).sst.get (Fin.ofNat 3 (takenAt x.xroute e.cls x.lvl - 1)) = x.r.st := Vector.get_set_fin ..

end

section
variable {s t : State} {u : Nat} {e : Exc}

/-- Entry without a freeze, of a cause that marks no guard slot. -/
theorem raiseSync_enters {x : VUnit} (hf : freezes x e = false) (hi : e.integ = false) (mark : VUnit → VUnit) :
    raiseSync s u x e mark = countEntry (s.withUnit u (fun _ => enterExc (mark (land x)) e x.r.pc)) u e := by
  rw [raiseSync, if_neg (by rw [hf]; decide)]
  simp only [hi]

/-- On a core with no run-ahead of its own, the entries of most classes count nothing. -/
theorem countEntry_none (hd : isDeep u = false) (h1 : e.cls ≠ 1) (h6 : e.cls ≠ 6) (h7 : e.cls ≠ 7) : countEntry s u e = s := by
  simp [countEntry, hd, h1, h6, h7]

/-- A word whose own effect is a cause raises it. -/
theorem runVerb_exc {len : Nat} {body : VUnit → State → VRes} (h : Runs s u len)
    (hb : body (s.unit u) (s.withRegs u (fun r => r.setPc (r.pc + BitVec.ofNat 20 len))) = .exc e t) :
    runVerb s u len body = raiseSync t u (s.unit u) e id := by
  obtain ⟨hup, hwait, hstall, hfetch, hload, -⟩ := h
  have hland : (s.withUnit u fun _ => (land (s.unit u)).withR fun r => r.setPc ((s.unit u).r.pc + BitVec.ofNat 20 len)) =
      s.withRegs u (fun r => r.setPc (r.pc + BitVec.ofNat 20 len)) := by
    rw [land_eq hload]
    rfl
  simp only [runVerb, hup, hwait, hstall, hfetch, hland, hb]
  rfl

/-- The state in which a unit has entered the exception of a cause at its word. -/
def State.entered (s : State) (u : Nat) (e : Exc) : State := s.withUnit u (fun x => enterExc x e x.r.pc)

theorem State.unit_entered (s : State) (u : Nat) (e : Exc) : (s.entered u e).unit u = enterExc (s.unit u) e (s.unit u).r.pc :=
  State.unit_withUnit ..

theorem entered_frame (s : State) (u : Nat) (e : Exc) : { s.entered u e with verb := s.verb } = s :=
  (State.withUnit_writes (wm := 33554432) (.refl _ s) rfl).merge

/-- A word that raises a cause with EM clear leaves its unit entered and all else as it was. -/
theorem runVerb_entered {len : Nat} {body : VUnit → State → VRes} (h : Runs s u len) (hd : isDeep u = false)
    (hem : stEM (s.unit u).r.st = false)
    (hb : body (s.unit u) (s.withRegs u (fun r => r.setPc (r.pc + BitVec.ofNat 20 len))) =
      .exc e (s.withRegs u (fun r => r.setPc (r.pc + BitVec.ofNat 20 len))))
    (hi : e.integ = false) (h1 : e.cls ≠ 1) (h6 : e.cls ≠ 6) (h7 : e.cls ≠ 7) : runVerb s u len body = s.entered u e := by
  have hf : freezes (s.unit u) e = false := by rw [freezes, if_neg h7, hem]
  rw [runVerb_exc h hb, raiseSync_enters hf hi, countEntry_none hd h1 h6 h7, land_eq h.2.2.2.2.1, State.withRegs, State.withUnit_withUnit]
  exact State.withUnit_congr rfl

/-- A reserved pattern that stands alone, with EM clear: the emulation registers name it, and the entry is counted (13 R513). -/
theorem reservedPattern_enters (h : Runs s u 1) (hd : isDeep u = false) (hem : stEM (s.unit u).r.st = false) {w : BitVec 14}
    (hw : sequenceReserved (isSquadUnit u) [] w.toNat = true) :
    exec (.reservedPattern u [] w) s = .next ((s.withUnit u (fun x =>
      enterExc { x with emuWord := w.setWidth 32, emuLo := 0, emuHi := 0 } excEmu x.r.pc)).bump gVerbEmuTraps) := by
  have hf : freezes (s.unit u) excEmu = false := by rw [freezes, if_neg (by decide), hem]
  have hword : BitVec.ofNat 32 (w.toNat % 2 ^ 14) = w.setWidth 32 := by
    rw [Nat.mod_eq_of_lt w.isLt, BitVec.ofNat_toNat]
  obtain ⟨hup, hwait, hstall, hfetch, hload, -⟩ := h
  have htrap : trapReserved s u [] w.toNat = raiseSync s u (s.unit u) excEmu (fun y =>
      { y with emuWord := BitVec.ofNat 32 (w.toNat % 2 ^ 14), emuLo := 0, emuHi := 0 }) := by
    unfold trapReserved
    simp only [hup, hwait, hstall, List.take_nil, List.length_nil, Nat.zero_add, hfetch, List.drop_nil, Nat.zero_mul, List.reverse_nil]
    rfl
  refine (if_pos hw).trans (congrArg Host.Outcome.next ?_)
  rw [htrap, raiseSync_enters hf rfl, land_eq hload, countEntry, if_neg (by rw [hd]; decide), if_pos (show excEmu.cls = 1 from rfl), hword]
  exact congrArg (fun t => t.bump gVerbEmuTraps) (State.withUnit_congr rfl)

end

/-! ### Special registers (13 R508) -/

/-- TICK apart, a special register reads as the unit stands. -/
theorem readSpec_afterPc (s : State) (u : Nat) (x : VUnit) (k : Nat) : readSpec (s.afterPc u) u x k = readSpec s u x k := by
  have htick : tickOf (s.afterPc u) u = tickOf s u := tickOf_withUnit rfl rfl rfl
  unfold readSpec
  rw [htick]

theorem afterRead_r (s : State) (u k : Nat) (x : VUnit) : (afterRead s u k x).r = x.r := by
  unfold afterRead
  split <;> rfl

theorem nextAsync_afterRead {s : State} {u k : Nat} {x : VUnit} (h : nextAsync x = none) : nextAsync (afterRead s u k x) = none := by
  rw [nextAsync_eq_none_iff] at h ⊢
  unfold afterRead
  split <;> exact h

theorem mfs_ok (sq : Bool) (k : Fin 24) (d : Fin 8) : sequenceReserved sq [] (wordSys 3 (k.val * 8 + d.val)) = false := by
  have hclass : wordSys 3 (k.val * 8 + d.val) / 2048 = 0 := by unfold wordSys; omega
  have hgroup : wordSys 3 (k.val * 8 + d.val) / 256 % 8 = 3 := by unfold wordSys; omega
  have hreg : decide (23 < wordSys 3 (k.val * 8 + d.val) % 256 / 8) = false := decide_eq_false (by unfold wordSys; omega)
  rw [sequenceReserved, if_neg (by unfold wordSys; omega), List.isEmpty_nil, if_pos rfl]
  simp only [wordReserved, hclass, hgroup, hreg]

theorem mts_ok (sq : Bool) {k : Nat} (hk : k = 0 ∨ k = 20) (d : Fin 8) : sequenceReserved sq [] (wordSys 4 (k * 8 + d.val)) = false := by
  have hclass : wordSys 4 (k * 8 + d.val) / 2048 = 0 := by unfold wordSys; omega
  have hgroup : wordSys 4 (k * 8 + d.val) / 256 % 8 = 4 := by unfold wordSys; omega
  have hreg : wordSys 4 (k * 8 + d.val) % 256 / 8 = k := by unfold wordSys; omega
  rw [sequenceReserved, if_neg (by unfold wordSys; omega), List.isEmpty_nil, if_pos rfl]
  simp only [wordReserved, hclass, hgroup, hreg]
  obtain rfl | rfl := hk <;> rfl

section
variable {s : State} {u : Nat}

/-- A word that changes its unit alone, and raises no event at it. -/
theorem runVerb_unit {body : VUnit → State → VRes} {f : VUnit → VUnit} (h : Runs s u 1)
    (hb : body (s.unit u) (s.afterPc u) = .done ((s.afterPc u).withUnit u f))
    (hf : nextAsync (f ((s.afterPc u).unit u)) = none) : runVerb s u 1 body = (s.afterPc u).withUnit u f :=
  runVerb_done h hb (by rwa [State.unit_withUnit])

/-- A change of one unit after its PC leaves every other field of the state. -/
theorem afterPc_frame (s : State) (u : Nat) (f : VUnit → VUnit) : { (s.afterPc u).withUnit u f with verb := s.verb } = s :=
  (State.withUnit_writes (wm := 33554432) (State.withRegs_writes (.refl _ s) rfl) rfl).merge

theorem unit_afterPc_withUnit (s : State) (u : Nat) (f : VUnit → VUnit) :
    ((s.afterPc u).withUnit u f).unit u = f { s.unit u with r := { (s.unit u).r with pc := (s.unit u).r.pc + 1 } } := by
  rw [State.unit_withUnit, State.unit_afterPc]

theorem nextAsync_afterPc (h : Runs s u 1) : nextAsync ((s.afterPc u).unit u) = none := nextAsync_withRegs _ h.2.2.2.2.2

theorem exec_mfs (h : Runs s u 1) (d : Fin 8) (k : Fin 24) (hk : readLevel k.val ≤ (s.unit u).lvl) :
    exec (.mfs u d (k.castLE (by decide))) s = .next ((s.afterPc u).withUnit u (fun x =>
      (afterRead (s.afterPc u) u k.val x).withR (fun r => r.setD d (readSpec s u (s.unit u) k.val)))) := by
  have hword : sequenceReserved (isSquadUnit u) [] (wordSys 3 (k.val * 8 + d.val)) = false := mfs_ok _ k d
  refine congrArg Host.Outcome.next (?_ : runWord s u [] (wordSys 3 (k.val * 8 + d.val)) _ = _)
  rw [runWord, hword, if_neg (by decide)]
  refine runVerb_unit h ?_ (nextAsync_withR _ _ (nextAsync_afterRead (nextAsync_afterPc h)))
  refine (if_neg (Nat.not_lt.mpr hk)).trans (congrArg VRes.done ?_)
  rw [State.withRegs, State.withUnit_withUnit, readSpec_afterPc]
  rfl

theorem exec_mts (h : Runs s u 1) (d : Fin 8) {k : Fin 32} (hk : k.val = 0 ∨ k.val = 20) (hl : writeLevel k.val ≤ (s.unit u).lvl) :
    exec (.mts u k d) s = .next ((s.afterPc u).withUnit u (fun x => writeSpec u x k.val ((s.unit u).r.d.get d))) := by
  have hword : sequenceReserved (isSquadUnit u) [] (wordSys 4 (k.val * 8 + d.val)) = false := mts_ok _ hk d
  refine congrArg Host.Outcome.next (?_ : runWord s u [] (wordSys 4 (k.val * 8 + d.val)) _ = _)
  rw [runWord, hword, if_neg (by decide)]
  refine runVerb_unit h (if_neg (Nat.not_lt.mpr hl)) ?_
  have hn := nextAsync_afterPc h
  rw [nextAsync_eq_none_iff] at hn ⊢
  obtain h0 | h20 := hk
  · rw [h0]; exact hn
  · rw [h20]; exact hn

/-- A return that is allowed restores ST and PC. -/
theorem exec_retx (h : Runs s u 1) (hl : (s.unit u).lvl ≠ 0) (ok : returnOk (s.unit u) (s.unit u).lvl = true) :
    exec (.retx u) s = .next ((s.afterPc u).withRegs u (returnRegs (s.unit u) (s.unit u).lvl)) := by
  refine congrArg Host.Outcome.next (runVerb_unit h ((if_neg hl).trans (if_neg (by rw [ok]; decide))) (nextAsync_withR _ _ (nextAsync_afterPc h)))

theorem exec_retg (h : Runs s u 1) (hl : (s.unit u).lvl ≠ 0) (ok : returnOk (s.unit u) (s.unit u).lvl = true) :
    exec (.retg u) s = .next ((s.afterPc u).withRegs u (fun r => returnRegs (s.unit u) (s.unit u).lvl (r.setA 7 ((s.unit u).r.a.get 6)))) := by
  refine congrArg Host.Outcome.next (runVerb_unit h ((if_neg hl).trans (if_neg (by rw [ok]; decide))) (nextAsync_withR _ _ (nextAsync_afterPc h)))

theorem Vector.get_set_other {α : Type} {n : Nat} (v : Vector α n) {i j : Fin n} (h : i ≠ j) (a : α) : (v.set i a).get j = v.get j :=
  Vector.getElem_set_ne _ _ (fun e => h (Fin.ext e))

theorem enterGate_lvl (x y : VUnit) (e : Nat) (next : BitVec 20) : (enterGate x e next y).lvl = bits e 21 20 :=
  withLvl_level _ (Nat.mod_lt _ (by decide)) _

theorem enterGate_a6 (x y : VUnit) (e : Nat) (next : BitVec 20) : (enterGate x e next y).r.a.get 6 = x.r.a.get 7 :=
  (Vector.get_set_other (y.r.a.set 6 (x.r.a.get 7)) (i := 7) (j := 6) (by decide) _).trans (Vector.get_set_fin y.r.a 6 _)

/-- GATE with every check passed (14 R558). -/
theorem exec_gate (h : Runs s u 1) (n : BitVec 8) (ok : gateFault s u (s.unit u) (gateEntry s u (s.unit u) n.toNat) = none) :
    exec (.gate u n) s = .next ((s.afterPc u).withUnit u
      (enterGate (s.unit u) (gateEntry s u (s.unit u) n.toNat) ((s.unit u).r.pc + 1))) := by
  have hok : gateFault (s.afterPc u) u (s.unit u) (gateEntry (s.afterPc u) u (s.unit u) n.toNat) = none := ok
  refine congrArg Host.Outcome.next (runVerb_unit h ?_ ?_)
  · dsimp only
    rw [hok]
    rfl
  · have hn := nextAsync_afterPc h
    rw [nextAsync_eq_none_iff] at hn ⊢
    exact hn

end

/-! ### The obligation -/

/-- Settles O39: a register word changes its unit alone; a cause with EM clear leaves its unit entered, as 14 R543 gives it. -/
theorem verbSystemAndExceptions : Obligations.VerbSystemAndExceptions := by
  unfold Obligations.VerbSystemAndExceptions
  refine ⟨?em, ?special, ?returns, ?gate, ?brk, ?reserved, ?misplaced⟩
  case em =>
    intro s u h hl
    have hn := nextAsync_withR _ (fun r => r) (nextAsync_afterPc h)
    refine ⟨congrArg Host.Outcome.next ?_, congrArg Host.Outcome.next ?_⟩
    · refine (runVerb_unit h (if_neg hl) (nextAsync_withR _ _ (nextAsync_afterPc h))).trans ?_
      exact (State.withUnit_withUnit ..).trans (State.withUnit_congr rfl)
    · refine (runVerb_unit h (if_neg hl) (nextAsync_withR _ _ (nextAsync_afterPc h))).trans ?_
      exact (State.withUnit_withUnit ..).trans (State.withUnit_congr rfl)
  case special =>
    intro s u d k h
    refine ⟨fun hk => ⟨_, exec_mfs h d k hk, ?_⟩, fun hk => ⟨_, exec_mts h d (.inl rfl) hk, ?_⟩, fun hk => ⟨_, exec_mts h d (.inr rfl) hk, ?_⟩⟩
    · rw [unit_afterPc_withUnit, VUnit.withR, afterRead_r]
      exact ⟨rfl, rfl, rfl, afterPc_frame ..⟩
    · rw [unit_afterPc_withUnit]
      exact ⟨rfl, rfl, afterPc_frame ..⟩
    · rw [unit_afterPc_withUnit]
      exact ⟨rfl, rfl, afterPc_frame ..⟩
  case returns =>
    intro s u n h hl hn ok
    rw [← hl] at ok
    have hne : (s.unit u).lvl ≠ 0 := by omega
    refine ⟨(exec_retx h hne ok).trans (congrArg Host.Outcome.next ?_), (exec_retg h hne ok).trans (congrArg Host.Outcome.next ?_)⟩ <;>
    · rw [State.afterPc, State.withRegs_withRegs, hl]
      exact State.withRegs_congr rfl
  case gate =>
    intro s u n h e l ok hl
    refine ⟨_, exec_gate h n ok, ?_⟩
    rw [unit_afterPc_withUnit]
    exact ⟨enterGate_lvl .., Vector.get_set_fin .., Vector.get_set_fin .., rfl, enterGate_a6 .., rfl, afterPc_frame ..⟩
  case brk =>
    intro s u h hd hem
    have hexec : exec (.brk u) s = .next (s.entered u excBreak) :=
      congrArg Host.Outcome.next (runVerb_entered h hd hem rfl rfl (by decide) (by decide) (by decide))
    refine ⟨_, hexec, ?_⟩
    rw [State.unit_entered]
    refine ⟨enterExc_lvl .., enterExc_em .., enterExc_spc .., enterExc_sst .., rfl, ?_, rfl, rfl, entered_frame ..⟩
    exact congrArg (BitVec.ofNat 32) (by simp [excBreak, b2n])
  case reserved =>
    intro s u w h hd hem hw
    refine ⟨_, reservedPattern_enters h hd hem hw, ?_⟩
    have hunit (t : State) : (t.bump gVerbEmuTraps).unit u = t.unit u := rfl
    rw [hunit, State.unit_withUnit]
    refine ⟨enterExc_lvl .., enterExc_spc .., rfl, rfl, ?_, rfl, ?_, ?_⟩
    · exact congrArg (BitVec.ofNat 32) (by simp [excEmu, b2n, VUnit.lvl])
    · exact State.gv_bump ..
    · exact (State.bump_writes (wm := 1107296256) (State.withUnit_writes (.refl _ s) rfl) rfl).merge
  case misplaced =>
    intro s u h hd hem hl
    have hexec : exec (.retx u) s = .next (s.entered u (excPriv 0xFF)) :=
      congrArg Host.Outcome.next (runVerb_entered h hd hem (if_pos hl) rfl (by decide) (by decide) (by decide))
    refine ⟨_, hexec, ?_⟩
    rw [State.unit_entered, enterExc_lvl, hl]
    exact ⟨rfl, rfl, entered_frame ..⟩

end Sys2Proof.Machine
end

section
/-! PROOF. MEMORY words of Verb-14 and register reads with an effect (13 R503, R504, R516 to R518; 12 R483, R484; 17 R645). -/

namespace Sys2Proof.Machine

open Sys2Proof

/-! ### The form of a MEMORY word (13 R511, R516) -/

/-- A MEMORY word with its prefixes is no reserved sequence, LDA into its own stepped address register apart. -/
theorem mem_ok (sq : Bool) {pre : List (BitVec 12)} {op : Nat} (hop : op < 8) (r aa : Fin 8) {mode : BitVec 2}
    (hpre : pre = [] ∨ mode = 3 ∧ pre.length ≤ 3) (hlda : op ≠ 3 ∨ r ≠ aa ∨ mode = 0 ∨ mode = 3) :
    sequenceReserved sq pre (wordMem op r.val aa.val mode.toNat) = false := by
  have hm := mode.isLt
  have hclass : wordMem op r.val aa.val mode.toNat / 2048 = 3 := by unfold wordMem; omega
  have hopf : wordMem op r.val aa.val mode.toNat / 256 % 8 = op := by unfold wordMem; omega
  have hr : wordMem op r.val aa.val mode.toNat / 32 % 8 = r.val := by unfold wordMem; omega
  have ha : wordMem op r.val aa.val mode.toNat / 4 % 8 = aa.val := by unfold wordMem; omega
  have hmode : wordMem op r.val aa.val mode.toNat % 4 = mode.toNat := by unfold wordMem; omega
  have hfree : wordReserved sq (wordMem op r.val aa.val mode.toNat) = false := by
    simp only [wordReserved, hclass, hopf, hr, ha, hmode]
    obtain h | h | rfl | rfl := hlda
    · simp [h]
    · simp [Fin.val_ne_of_ne h]
    · simp
    · simp
  obtain rfl | ⟨rfl, hlen⟩ := hpre
  · rw [sequenceReserved, if_neg (by unfold wordMem; omega), List.isEmpty_nil, if_pos rfl, hfree]
  · refine prefixed_ok (by unfold wordMem; omega) ?_ hfree hlen
    simp only [takesPrefix, hclass, hmode]
    rfl

/-! ### Local data memory (13 R504) -/

theorem resolve_local {u a : Nat} (x : VUnit) (h : a < localSize u) : resolve u x a = some (.mem a) := by
  unfold resolve
  exact if_pos h

theorem vLoad_local {u a n : Nat} {x : VUnit} (ha : a % n = 0) (hl : a < localSize u) (t : State) :
    vLoad t u x a n = .inr (BitVec.ofNat 32 (leNat (Mem.read 0 x.ldata a n)), t) := by
  rw [vLoad, if_neg (by simp [ha]), resolve_local x hl]

theorem vStore_local {u a n v : Nat} {x : VUnit} (ha : a % n = 0) (hl : a < localSize u) (t : State) :
    vStore t u x a (toLE n v) = .done (t.withUnit u (fun y => { y with ldata := Mem.write 0 y.ldata a (toLE n v) })) := by
  unfold vStore
  rw [length_toLE]
  dsimp only
  rw [if_neg (by simp [ha]), resolve_local x hl]

/-- A store into a guarded space whose guard admits it. -/
theorem vStore_space {t : State} {u a n v g off : Nat} {x : VUnit} (ha : a % n = 0) (hres : resolve u x a = some (.space g off))
    (hg : guardCheck t g (identAt u x x.lvl) off (off + n - 1) .write = 0) :
    vStore t u x a (toLE n v) = .done (spaceWrite t (identAt u x x.lvl) g off (toLE n v)) := by
  unfold vStore
  rw [length_toLE]
  dsimp only
  rw [if_neg (by simp [ha]), hres]
  exact if_neg (fun hne => hne hg)

/-- A write to the scratch space writes module memory alone. -/
theorem spaceWrite_scratch (t : State) (i off : Nat) (bs : Bytes) :
    spaceWrite t i 1 off bs = { t with mem := Mem.write 0 t.mem (0x001000000000 + off) bs } := by
  rw [spaceWrite, if_pos (by decide)]
  rfl

section
variable {s : State} {u : Nat}

variable {pre : List (BitVec 12)} {word : Nat} {aa : Fin 8} {mode : BitVec 2} {n : Nat}

/-- A load from local data memory puts its value on the way. -/
theorem loadOp_local (h : Runs s u (pre.length + 1)) (hw : sequenceReserved (isSquadUnit u) pre word = false)
    (ha : memAt s u pre aa mode n % n = 0) (hl : memAt s u pre aa mode n < localSize u) (isA : Bool) (i : Fin 8) :
    loadOp s u pre word isA i aa mode n = s.afterLoad u pre isA i aa mode n := by
  have hload := h.2.2.2.2.1
  rw [loadOp, runWord, hw, if_neg (by decide)]
  refine runVerb_done h ?_ ?_
  · have hv := vLoad_local (x := s.unit u) ha hl (s.withRegs u (fun r => r.setPc (r.pc + BitVec.ofNat 20 (pre.length + 1))))
    simp only [memAt] at hv
    simp only [hv, hload]
    refine congrArg VRes.done ((State.withUnit_withUnit ..).trans (State.withUnit_congr ?_))
    unfold memRegs
    cases (memAddr ((s.unit u).r.a.get aa) mode pre n).2 <;> rfl
  · rw [State.afterLoad, State.unit_withUnit]
    exact nextAsync_eq_none_iff.mpr (nextAsync_eq_none_iff (x := s.unit u) |>.mp h.2.2.2.2.2)

/-- A store to local data memory changes its bytes alone. -/
theorem storeOp_local (h : Runs s u (pre.length + 1)) (hw : sequenceReserved (isSquadUnit u) pre word = false)
    (ha : memAt s u pre aa mode n % n = 0) (hl : memAt s u pre aa mode n < localSize u) (val : VRegs → Nat) :
    storeOp s u pre word aa mode n val = s.afterStore u pre (val (s.unit u).r) aa mode n := by
  rw [storeOp, runWord, hw, if_neg (by decide)]
  refine runVerb_done h ?_ ?_
  · have hv := vStore_local (v := val (s.unit u).r) (x := s.unit u) ha hl
      (s.withRegs u (fun r => r.setPc (r.pc + BitVec.ofNat 20 (pre.length + 1))))
    simp only [memAt] at hv
    simp only [hv]
    refine congrArg VRes.done ?_
    cases hu : (memAddr ((s.unit u).r.a.get aa) mode pre n).2 with
    | none =>
      refine (State.withUnit_withUnit ..).trans (State.withUnit_congr ?_)
      unfold memRegs
      rw [hu]
      rfl
    | some v =>
      refine (State.withUnit_withUnit ..).trans ((State.withUnit_withUnit ..).trans (State.withUnit_congr ?_))
      unfold memRegs
      rw [hu]
      rfl
  · rw [State.afterStore, State.unit_withUnit]
    exact nextAsync_eq_none_iff.mpr (nextAsync_eq_none_iff (x := s.unit u) |>.mp h.2.2.2.2.2)

/-- A store word whose address is not a multiple of its size, with EM clear, leaves its unit entered. -/
theorem storeOp_misaligned (h : Runs s u 1) (hw : sequenceReserved (isSquadUnit u) [] word = false) (hd : isDeep u = false)
    (hem : stEM (s.unit u).r.st = false) (ha : memAt s u [] aa mode n % n ≠ 0) (val : VRegs → Nat) :
    storeOp s u [] word aa mode n val = s.entered u (excAlign (memAt s u [] aa mode n) true) := by
  have hv (t : State) : vStore t u (s.unit u) (memAt s u [] aa mode n) (toLE n (val (s.unit u).r)) =
      .exc (excAlign (memAt s u [] aa mode n) true) t := by
    unfold vStore
    rw [length_toLE]
    exact if_pos ha
  rw [storeOp, runWord, hw, if_neg (by decide)]
  refine runVerb_entered h hd hem ?_ rfl (show 4 ≠ 1 by decide) (show 4 ≠ 6 by decide) (show 4 ≠ 7 by decide)
  simp only [memAt] at hv ⊢
  simp only [hv]

/-- A squad context's address from 0x400000 on leads to its scratch slot. -/
theorem resolve_scratch {a : Nat} (x : VUnit) (hsq : isSquadUnit u = true) (hlo : 0x400000 ≤ a) (hhi : a < 0x420000) :
    resolve u x a = some (.space 1 (squadOf u * 0x200000 + ctxNum u * 0x20000 + (a - 0x400000))) := by
  have hlocal : localSize u = 0x1000 := by
    have hdeep : isDeep u = false := by
      simp only [isSquadUnit, decide_eq_true_eq] at hsq
      exact decide_eq_false (by omega)
    simp [localSize, hdeep, hsq]
  rw [resolve, hlocal, if_neg (by omega), hsq, decide_eq_true ⟨hlo, hhi⟩]
  rfl

/-- A word store of a squad context to its scratch slot that the guard admits. -/
theorem storeOp_scratch {off : Nat} (h : Runs s u 1) (hw : sequenceReserved (isSquadUnit u) [] word = false)
    (ha : memAt s u [] aa 0 4 % 4 = 0) (hres : resolve u (s.unit u) (memAt s u [] aa 0 4) = some (.space 1 off))
    (hg : guardCheck s 1 (identAt u (s.unit u) (s.unit u).lvl) off (off + 3) .write = 0) (val : VRegs → Nat) :
    storeOp s u [] word aa 0 4 val =
      { s.afterPc u with mem := Mem.write 0 s.mem (0x001000000000 + off) (toLE 4 (val (s.unit u).r)) } := by
  rw [storeOp, runWord, hw, if_neg (by decide)]
  refine runVerb_done h ?_ (nextAsync_afterPc h)
  have hv : vStore (s.afterPc u) u (s.unit u) (memAt s u [] aa 0 4) (toLE 4 (val (s.unit u).r)) = .done { s.afterPc u with
      mem := Mem.write 0 s.mem (0x001000000000 + off) (toLE 4 (val (s.unit u).r)) } := by
    rw [vStore_space (t := s.afterPc u) ha hres hg, spaceWrite_scratch]
    rfl
  have hstep : memAddr ((s.unit u).r.a.get aa) 0 [] 4 = ((s.unit u).r.a.get aa, none) := by
    rw [memAddr]
    exact if_pos rfl
  simp only [memAt, hstep] at hv ⊢
  rw [List.length_nil, show (s.withRegs u fun r => r.setPc (r.pc + BitVec.ofNat 20 (0 + 1))) = s.afterPc u from rfl, hv]

end

/-! ### The obligation on loads and stores -/

/-- Settles O40: an aligned access to local data memory or to the scratch slot lands as 13 gives it; a misaligned store is a trap. -/
theorem verbLoadsAndStores : Obligations.VerbLoadsAndStores := by
  unfold Obligations.VerbLoadsAndStores
  refine ⟨?near, ?scratch, ?misaligned⟩
  case near =>
    intro s u pre i aa mode hpre h ok r
    have hw {op : Nat} (hop : op < 8) (hlda : op ≠ 3 ∨ i ≠ aa ∨ mode = 0 ∨ mode = 3) := mem_ok (isSquadUnit u) hop i aa hpre hlda
    refine ⟨fun ha => ?_, fun ha => ?_, fun ha => ?_, fun ha hne => ?_, fun ha => ?_, fun ha => ?_, fun ha => ?_, fun ha => ?_⟩ <;>
      refine congrArg Host.Outcome.next ?_
    · exact loadOp_local h (hw (by decide) (.inl (by decide))) ha.1 ha.2 _ _
    · exact loadOp_local h (hw (by decide) (.inl (by decide))) ha.1 ha.2 _ _
    · exact loadOp_local h (hw (by decide) (.inl (by decide))) ha.1 ha.2 _ _
    · exact loadOp_local h (hw (by decide) (.inr hne)) ha.1 ha.2 _ _
    · exact storeOp_local h (hw (by decide) (.inl (by decide))) ha.1 ha.2 _
    · exact storeOp_local h (hw (by decide) (.inl (by decide))) ha.1 ha.2 _
    · exact storeOp_local h (hw (by decide) (.inl (by decide))) ha.1 ha.2 _
    · exact storeOp_local h (hw (by decide) (.inl (by decide))) ha.1 ha.2 _
  case scratch =>
    intro s u i aa hsq h a off ha hlo hhi hg
    have hw := mem_ok (isSquadUnit u) (op := 6) (by decide) i aa (mode := 0) (pre := []) (.inl rfl) (.inl (by decide))
    exact ⟨_, congrArg Host.Outcome.next (storeOp_scratch h hw ha (resolve_scratch _ hsq hlo hhi) hg _), rfl, rfl⟩
  case misaligned =>
    intro s u i aa h hd hem ha
    have hw := mem_ok (isSquadUnit u) (op := 6) (by decide) i aa (mode := 0) (pre := []) (.inl rfl) (.inl (by decide))
    refine ⟨_, congrArg Host.Outcome.next (storeOp_misaligned h hw hd hem ha _), ?_⟩
    rw [State.unit_entered]
    exact ⟨rfl, rfl, rfl, entered_frame ..⟩

/-! ### Register reads (12 R483, R484; 17 R645) -/

section
variable {s : State} {u : Nat}

/-- A unit's load of a register that its guard admits and whose island answers. -/
structure RegisterLoad (s : State) (u a g off : Nat) : Prop where
  up : unitUp s u = true
  wait : (s.unit u).wait = none
  aligned : a % 4 = 0
  resolved : resolve u (s.unit u) a = some (.space g off)
  space : g ≠ 1
  word : off % 4 = 0
  guarded : guardCheck s g (identAt u (s.unit u) (s.unit u).lvl) off (off + 3) .read = 0
  answers : regStruck s g off = false

theorem vLoad_word {a g off : Nat} {v : BitVec 32} {t : State} (h : RegisterLoad s u a g off)
    (hw : loadWord s u g off a = .inr (v, t)) : ∃ w, vLoad s u (s.unit u) a 4 = .inr (w, t) := by
  have hword : off / 4 * 4 = off := by have := h.word; omega
  rw [vLoad, if_neg (by rw [h.aligned]; decide), h.resolved]
  dsimp only
  rw [if_neg (fun hne => hne h.guarded), if_neg h.space, h.answers, if_neg (by decide), hword, hw]
  exact ⟨_, rfl⟩

theorem vLoad_waits {a g off b : Nat} (h : RegisterLoad s u a g off) (hw : loadWord s u g off a = .inl (.rngWait b)) :
    vLoad s u (s.unit u) a 4 = .inl (.rngWait b) := by
  have hword : off / 4 * 4 = off := by have := h.word; omega
  rw [vLoad, if_neg (by rw [h.aligned]; decide), h.resolved]
  dsimp only
  rw [if_neg (fun hne => hne h.guarded), if_neg h.space, h.answers, if_neg (by decide), hword, hw]

/-- What the read of a word does stays. -/
theorem readOnly_word {a g off : Nat} {v : BitVec 32} {t : State} (h : RegisterLoad s u a g off)
    (hw : loadWord s u g off a = .inr (v, t)) : readOnly s u a = t := by
  obtain ⟨w, hload⟩ := vLoad_word h hw
  simp [readOnly, h.up, h.wait, hload]

/-- A read that waits for a word is noted by its address. -/
theorem readOnly_waits {a g off b : Nat} (h : RegisterLoad s u a g off) (hw : loadWord s u g off a = .inl (.rngWait b)) :
    readOnly s u a = s.withUnit u (fun x => { x with rngStall := some b }) := by
  simp [readOnly, h.up, h.wait, vLoad_waits h hw]

theorem resolve_register {a : Nat} (x : VUnit) (hd : isDeep u = false) (hlo : 0x800000 ≤ a) (hhi : a < 0xC00000) :
    resolve u x a = some (.space 2 (a - 0x800000)) := by
  have hlocal : localSize u ≤ 0x40000 := by
    rw [localSize, hd, if_neg (by decide)]
    split <;> decide
  rw [resolve, if_neg (by omega), decide_eq_false (p := 0x400000 ≤ a ∧ a < 0x420000) (by omega), Bool.and_false, if_neg (by decide), if_pos ⟨hlo, hhi⟩, hd]
  rfl

theorem resolve_register_deep {a : Nat} (x : VUnit) (hd : isDeep u = true) (hlo : 0x800000 ≤ a) (hhi : a < 0xC00000) :
    resolve u x a = some (.space 3 (ctlBase + (a - 0x800000))) := by
  have hlocal : localSize u = 0x100000 := by rw [localSize, hd, if_pos rfl]
  rw [resolve, hlocal, if_neg (by omega), decide_eq_false (p := 0x400000 ≤ a ∧ a < 0x420000) (by omega), Bool.and_false, if_neg (by decide), if_pos ⟨hlo, hhi⟩, hd]
  rfl

/-- The register words of a path, and the path that each draws from (12 R487, R488). -/
def isRngWord (p g off : Nat) : Prop :=
  (p = 0 ∧ g = 2 ∧ (off = 0x210000 ∨ off = 0x210004)) ∨ (p = 1 ∧ g = 3 ∧ (off = ctlBase + 0x30000 ∨ off = ctlBase + 0x30004))

theorem loadWord_rng {p g off a : Nat} (h : isRngWord p g off) (hs : s.gv (pathState p) ≠ 2) :
    loadWord s u g off a = if off % 8 = 4 ∧ (s.unit u).rngHi.isSome then
        .inr (((s.unit u).rngHi).getD 0, s.withUnit u (fun x => { x with rngHi := none }))
      else match freshWord s p with
        | none => .inl (.rngWait a)
        | some (w, s0) =>
          let s1 := s0.withUnit u (fun x => { x with rngStall := none })
          if off % 8 = 4 then .inr (BitVec.ofNat 32 (w / 2 ^ 32), s1)
          else .inr (BitVec.ofNat 32 w, s1.withUnit u (fun x => { x with rngHi := some (BitVec.ofNat 32 (w / 2 ^ 32)) })) := by
  unfold loadWord
  obtain ⟨rfl, rfl, hoff⟩ | ⟨rfl, rfl, hoff⟩ := h
  · rw [if_pos ⟨rfl, hoff⟩]
    exact if_neg hs
  · rw [if_neg (fun h32 => absurd h32.1 (by decide)), if_pos ⟨rfl, hoff⟩]
    exact if_neg hs

/-- A word drawn leaves all but the free values and the expander's count. -/
theorem freshWord_frame {p w : Nat} {s1 : State} (h : freshWord s p = some (w, s1)) : Writes 2097154 s s1 := by
  rw [freshWord] at h
  split at h
  · cases h
  · cases h
    exact (rngDraw_writes (.refl _ s) rfl).snd

/-- A read of the LO word takes a fresh word and latches its high half. -/
theorem rngLow_reads {p g off a w : Nat} {s1 : State} (h : isRngWord p g off) (hs : s.gv (pathState p) ≠ 2) (hoff : off % 8 = 0)
    (hw : freshWord s p = some (w, s1)) :
    loadWord s u g off a = .inr (BitVec.ofNat 32 w, s1.withUnit u (fun x =>
      { x with rngStall := none, rngHi := some (BitVec.ofNat 32 (w / 2 ^ 32)) })) := by
  rw [loadWord_rng h hs, if_neg (by omega), hw]
  dsimp only
  rw [if_neg (by omega), State.withUnit_withUnit]

theorem rngLow_waits {p g off a : Nat} (h : isRngWord p g off) (hs : s.gv (pathState p) ≠ 2) (hoff : off % 8 = 0)
    (hw : freshWord s p = none) : loadWord s u g off a = .inl (.rngWait a) := by
  rw [loadWord_rng h hs, if_neg (by omega), hw]

theorem rngHigh_reads {p g off a : Nat} {v : BitVec 32} (h : isRngWord p g off) (hs : s.gv (pathState p) ≠ 2) (hoff : off % 8 = 4)
    (hv : (s.unit u).rngHi = some v) : loadWord s u g off a = .inr (v, s.withUnit u (fun x => { x with rngHi := none })) := by
  rw [loadWord_rng h hs, if_pos ⟨hoff, by rw [hv]; rfl⟩, hv]
  rfl

/-- What a word drawn leaves, its high half latched. -/
theorem latched_word {p w : Nat} {s1 : State} (h : freshWord s p = some (w, s1)) :
    let t := s1.withUnit u (fun x => { x with rngStall := none, rngHi := some (BitVec.ofNat 32 (w / 2 ^ 32)) })
    (t.unit u).rngHi = some (BitVec.ofNat 32 (w / 2 ^ 32)) ∧ (t.unit u).r = (s.unit u).r ∧
      { t with verb := s.verb, rng := s.rng, free := s.free } = s := by
  have hverb : s1.verb = s.verb := (freshWord_frame h).verb rfl
  have hframe : Writes 35651586 s (s1.withUnit u (fun x =>
      { x with rngStall := none, rngHi := some (BitVec.ofNat 32 (w / 2 ^ 32)) })) :=
    State.withUnit_writes ((freshWord_frame h).mono rfl) rfl
  have hunit : s1.unit u = s.unit u := by rw [State.unit, hverb]; rfl
  dsimp only
  rw [State.unit_withUnit]
  exact ⟨rfl, by rw [hunit], hframe.merge⟩

end

/-- Settles O41: a register's load comes to what its word gives; the LO word latches, the HI word takes, DTB_FRAC latches all three. -/
theorem registerReadsLatch : Obligations.RegisterReadsLatch := by
  unfold Obligations.RegisterReadsLatch
  refine ⟨?low, ?waits, ?high, ?jlow, ?jhigh, ?frac, ?lacks⟩
  case low =>
    intro s u w s1 hup hwait hd hg hst hs hw
    have hload : RegisterLoad s u 0xA10000 _ _ :=
      ⟨hup, hwait, by decide, resolve_register _ hd (by decide) (by decide), by decide, by decide, hg, hst⟩
    have hread := readOnly_word hload (rngLow_reads (.inl ⟨rfl, rfl, .inl rfl⟩) hs (by decide) hw)
    exact ⟨_, (if_neg (by rw [hd]; decide)).trans (congrArg Host.Outcome.next hread), latched_word hw⟩
  case waits =>
    intro s u hup hwait hd hg hst hs hw
    have hload : RegisterLoad s u 0xA10000 _ _ :=
      ⟨hup, hwait, by decide, resolve_register _ hd (by decide) (by decide), by decide, by decide, hg, hst⟩
    have hread := readOnly_waits hload (rngLow_waits (.inl ⟨rfl, rfl, .inl rfl⟩) hs (by decide) hw)
    exact (if_neg (by rw [hd]; decide)).trans (congrArg Host.Outcome.next hread)
  case high =>
    intro s u v hup hwait hd hg hst hs hv
    have hload : RegisterLoad s u 0xA10004 _ _ :=
      ⟨hup, hwait, by decide, resolve_register _ hd (by decide) (by decide), by decide, by decide, hg, hst⟩
    have hread := readOnly_word hload (rngHigh_reads (.inl ⟨rfl, rfl, .inr rfl⟩) hs (by decide) hv)
    exact (if_neg (by rw [hd]; decide)).trans (congrArg Host.Outcome.next hread)
  case jlow =>
    intro s u w s1 hup hwait hd hg hst hs hw
    have hload : RegisterLoad s u 0x830000 _ _ :=
      ⟨hup, hwait, by decide, resolve_register_deep _ hd (by decide) (by decide), by decide, by decide, hg, hst⟩
    have hread := readOnly_word hload (rngLow_reads (.inr ⟨rfl, rfl, .inl rfl⟩) hs (by decide) hw)
    exact ⟨_, (if_pos hd).trans (congrArg Host.Outcome.next hread), latched_word hw⟩
  case jhigh =>
    intro s u v hup hwait hd hg hst hs hv
    have hload : RegisterLoad s u 0x830004 _ _ :=
      ⟨hup, hwait, by decide, resolve_register_deep _ hd (by decide) (by decide), by decide, by decide, hg, hst⟩
    have hread := readOnly_word hload (rngHigh_reads (.inr ⟨rfl, rfl, .inr rfl⟩) hs (by decide) hv)
    exact (if_pos hd).trans (congrArg Host.Outcome.next hread)
  case frac =>
    intro s u hup hwait hd hg hst
    have hload : RegisterLoad s u 0xA20000 _ _ :=
      ⟨hup, hwait, by decide, resolve_register _ hd (by decide) (by decide), by decide, by decide, hg, hst⟩
    have hword : loadWord s u 2 (0xA20000 - 0x800000) 0xA20000 =
        .inr (BitVec.ofNat 32 (regWord (latchDtb s) 2 0x220000), latchDtb s) := rfl
    have hread := readOnly_word hload hword
    exact ⟨_, (if_neg (by rw [hd]; decide)).trans (congrArg Host.Outcome.next hread), rfl, rfl, rfl, rfl,
      (latchDtb_writes (wm := 8) (.refl _ s) rfl).merge⟩
  case lacks =>
    intro s u
    exact ⟨fun hd => if_pos hd, fun hd => if_pos hd, fun hd => if_neg (by rw [hd]; decide), fun hd => if_neg (by rw [hd]; decide),
      fun hd => if_pos hd⟩

end Sys2Proof.Machine
end

section
/-! PROOF. Wide LANE words (05 R200 to R210; 06 R251 to R256; 13 R526, R527, Table 13): sums over shares of channels, and what each word
leaves of its squad context. -/

namespace Sys2Proof.Machine

open Sys2Proof

/-! ### Channels in shares (06 R253) -/

theorem sum_sharesOf (n : Nat) : ∀ (fuel : Nat) (l : List Nat), ((sharesOf n fuel l).map List.sum).sum = l.sum
  | 0, l => List.sum_singleton
  | fuel + 1, l => by
    rw [sharesOf]
    split
    · exact List.sum_singleton
    · rw [List.map_cons, List.sum_cons, sum_sharesOf n fuel, ← List.sum_append, List.take_append_drop]

/-- A sum formed over the squads of a gang is the sum of its channels. -/
theorem crossSum_eq (share : Nat) (l : List Nat) : crossSum share l = l.sum := sum_sharesOf ..

theorem extend_share (share share' : Nat) (ms es : List Nat) (c m : Nat) : extend share ms es c m = extend share' ms es c m := by
  simp only [extend, crossSum_eq]

/-- The product form does not depend on how the channels are split over squads. -/
theorem montShared_eq (share k n : Nat) (a b : List Nat) : montShared share k n a b = montRns k n a b := by
  simp only [montRns, montShared, extend_share share (k + 1)]

/-! ### Words of a context that is set up (13 R527) -/

theorem wide_set {s : State} {u n L : Nat} (h : (s.unit u).r.setup = some (n, L)) (f : Nat → Nat → Nat → VUnit → State → VRes) (t : State) :
    wide f (s.unit u) t = f (chans L) L n (s.unit u) t := by
  rw [wide, h]

/-- A word of the first twelve, in its turn. -/
theorem laneTurn_arith {s : State} {u lop : Nat} (hlop : lop < 12) (a b : Fin 8) (hu : isSquadUnit u = true) (hr : Runs s u 1)
    (ht : turnSkipped s u = false) : LaneTurn s u lop a.val b.val :=
  ⟨hu, hr, ht, (sequenceReserved_lane (by omega) a.isLt b.isLt).trans (wordReserved_arith hlop a.isLt b.isLt)⟩

section
variable {s : State} {u n L : Nat}

/-- A word that writes one lane register of a context that is set up. -/
theorem laneOp_lane {lop : Nat} {a b : Nat} {f : Nat → Nat → Nat → VUnit → State → VRes} (h : LaneTurn s u lop a b)
    (hset : (s.unit u).r.setup = some (n, L)) {ld : Fin 8} {ws : List Nat}
    (hf : f (chans L) L n (s.unit u) (s.afterPc u) = .done ((s.afterPc u).withRegs u (fun r => r.setLane ld.val ws))) :
    laneOp s u lop a b (wide f) = s.afterLane u ld ws := by
  rw [← afterPc_setLane]
  exact laneOp_done h ((wide_set hset f _).trans hf) (nextAsync_withRegs _ h.noEvent_afterPc)

/-- A word that writes bytes of the context's scratch slot. -/
theorem laneOp_scratch {lop : Nat} {a b : Nat} {f : Nat → Nat → Nat → VUnit → State → VRes} (h : LaneTurn s u lop a b)
    (hset : (s.unit u).r.setup = some (n, L)) {m : Mem} (hf : f (chans L) L n (s.unit u) (s.afterPc u) = .done { s.afterPc u with mem := m }) :
    laneOp s u lop a b (wide f) = { s.afterPc u with mem := m } :=
  laneOp_done h ((wide_set hset f _).trans hf) h.noEvent_afterPc

theorem exec_ladd {ld ls : Fin 8} (h : LaneTurn s u 1 ld.val ls.val) (hset : (s.unit u).r.setup = some (n, L)) :
    exec (.ladd u ld ls) s = .next (s.afterLane u ld
      (chanwise (fun _ p q => p + q) (chans L) (s.laneOf u ld (2 * chans L + 2)) (s.laneOf u ls (2 * chans L + 2)))) :=
  congrArg Host.Outcome.next (laneOp_lane h hset rfl)

theorem exec_lsub {ld ls : Fin 8} (h : LaneTurn s u 2 ld.val ls.val) (hset : (s.unit u).r.setup = some (n, L)) :
    exec (.lsub u ld ls) s = .next (s.afterLane u ld
      (subRns (chans L) n (s.laneOf u ld (2 * chans L + 2)) (s.laneOf u ls (2 * chans L + 2)))) :=
  congrArg Host.Outcome.next (laneOp_lane h hset rfl)

theorem exec_lmov {ld ls : Fin 8} (h : LaneTurn s u 3 ld.val ls.val) : exec (.lmov u ld ls) s =
    .next (s.withRegs u (fun r => { r with lanes := Tab.set r.lanes ld.val (r.lanes.get [] ls.val), pc := r.pc + 1 })) := by
  refine congrArg Host.Outcome.next ((laneOp_eq h _).trans ((runs_regs h.runs _).trans ?_))
  exact State.withRegs_congr rfl

theorem unit_of_verb {s t : State} (h : t.verb = s.verb) (u : Nat) : t.unit u = s.unit u := by
  rw [State.unit, h]
  rfl

/-- What the product form of two registers leaves, once counted. -/
theorem exec_lmont {ld ls : Fin 8} (h : LaneTurn s u 0 ld.val ls.val) (hset : (s.unit u).r.setup = some (n, L))
    (ha : lazyOk (chans L) n (s.laneOf u ld (2 * chans L + 2)) = true) (hb : lazyOk (chans L) n (s.laneOf u ls (2 * chans L + 2)) = true)
    (hm : (montRns (chans L) n (s.laneOf u ld (2 * chans L + 2)) (s.laneOf u ls (2 * chans L + 2))).2 = false) :
    exec (.lmont u ld ls false) s = .next (countMont (s.afterLane u ld
      (montRns (chans L) n (s.laneOf u ld (2 * chans L + 2)) (s.laneOf u ls (2 * chans L + 2))).1) u) := by
  refine congrArg Host.Outcome.next (laneOp_done h ((wide_set hset _ _).trans ?_) ?_)
  · simp only [State.laneOf] at ha hb hm
    simp only [ha, hb, montShared_eq, hm]
    rw [← afterPc_setLane]
    exact (if_neg (by decide)).trans ((if_pos rfl).trans (if_neg (by decide)))
  · rw [unit_of_verb ((countMont_writes (wm := 1024) (.refl _ _) rfl).verb rfl)]
    exact nextAsync_withRegs _ h.noEvent

theorem countMont_idle {t : State} (h : jobAt t u = none) : countMont t u = t := by rw [countMont, h]

theorem countMont_job {t : State} {id : Nat} (h : jobAt t u = some id) (hc : (contextsOf t id).headD u = u) :
    countMont t u = t.withJob id (fun j => { j with monts := j.monts + 1 }) := by
  rw [countMont, h]
  exact if_pos hc

/-- A conversion past the first MONT of its job makes no checkpoint. -/
theorem convCkpt_past {t : State} (h : ∀ id, jobAt t u = some id → (t.job id).monts ≠ 0) : convCkpt t u = t := by
  rw [convCkpt]
  cases hj : jobAt t u with
  | none => rfl
  | some id => exact if_neg (h id hj)

theorem exec_lconv {l as : Fin 8} {off : Nat} (h : LaneTurn s u 4 l.val as.val) (hset : (s.unit u).r.setup = some (n, L))
    (hat : laneAt s u (s.unit u) ((s.unit u).r.a.get as).toNat (8 * L) false = .inr off)
    (hj : ∀ id, jobAt s u = some id → (s.job id).monts ≠ 0) :
    exec (.lconv u l as) s = .next (s.afterLane u l (toRns (chans L) (leNat (Mem.read 0 s.mem (moduleAddr 1 off) (8 * L))))) := by
  refine congrArg Host.Outcome.next (laneOp_lane h hset ?_)
  rw [laneAt_afterPc hat]
  exact congrArg VRes.done (convCkpt_past hj)

theorem exec_lld {l as : Fin 8} {off : Nat} (h : LaneTurn s u 6 l.val as.val) (hset : (s.unit u).r.setup = some (n, L))
    (hat : laneAt s u (s.unit u) ((s.unit u).r.a.get as).toNat (8 * (2 * chans L + 2)) false = .inr off) :
    exec (.lld u l as) s = .next (s.afterLane u l (loadedWords (s.unit u).r (chans L)
      (words64 (2 * chans L + 2) (Mem.read 0 s.mem (moduleAddr 1 off) (8 * (2 * chans L + 2)))))) := by
  refine congrArg Host.Outcome.next (laneOp_lane h hset ?_)
  rw [laneAt_afterPc hat]
  rfl

theorem exec_lsettle {l as : Fin 8} {off : Nat} (h : LaneTurn s u 5 as.val l.val) (hset : (s.unit u).r.setup = some (n, L))
    (hat : laneAt s u (s.unit u) ((s.unit u).r.a.get as).toNat (8 * L) true = .inr off)
    (hz : (settleRns (chans L) n (s.laneOf u l (2 * chans L + 2))).2 = false) :
    exec (.lsettle u as l false) s = .next { s.afterPc u with
      mem := Mem.write 0 s.mem (moduleAddr 1 off) (toLE (8 * L) (settleRns (chans L) n (s.laneOf u l (2 * chans L + 2))).1) } := by
  refine congrArg Host.Outcome.next (laneOp_scratch h hset ?_)
  rw [laneAt_afterPc hat]
  exact if_neg (by rw [Bool.false_or]; exact ne_true_of_eq_false hz)

theorem exec_lst {l as : Fin 8} {off : Nat} (h : LaneTurn s u 7 as.val l.val) (hset : (s.unit u).r.setup = some (n, L))
    (hat : laneAt s u (s.unit u) ((s.unit u).r.a.get as).toNat (8 * (2 * chans L + 2)) true = .inr off) :
    exec (.lst u as l) s = .next { s.afterPc u with
      mem := Mem.write 0 s.mem (moduleAddr 1 off) (image64 (s.laneOf u l (2 * chans L + 2))) } := by
  refine congrArg Host.Outcome.next (laneOp_scratch h hset ?_)
  rw [laneAt_afterPc hat]
  rfl

theorem exec_lsetup {as dn : Fin 8} {off : Nat} (h : LaneTurn s u 8 as.val dn.val) (hL : ((s.unit u).r.d.get dn).toNat % 256 = L)
    (h1 : 1 ≤ L) (h128 : L ≤ 128) (hat : laneAt s u (s.unit u) ((s.unit u).r.a.get as).toNat (8 * L) false = .inr off) :
    exec (.lsetup u as dn) s = .next (s.withRegs u (fun r => { r with
      setup := some (leNat (Mem.read 0 s.mem (moduleAddr 1 off) (8 * L)), L), pc := r.pc + 1 })) := by
  refine congrArg Host.Outcome.next ((laneOp_done h (t := (s.afterPc u).withRegs u (fun r =>
    { r with setup := some (leNat (Mem.read 0 s.mem (moduleAddr 1 off) (8 * L)), L) })) ?_ (nextAsync_withRegs _ h.noEvent_afterPc)).trans ?_)
  · dsimp only
    rw [hL, if_neg (by omega), laneAt_afterPc hat]
    rfl
  · rw [State.afterPc, State.withRegs_withRegs]

end

/-! ### The obligation -/

/-- Settles O42: a wide word runs in its context's turn, and its body writes its lane register, its bytes or the set-up alone. -/
theorem verbWideLanes : Obligations.VerbWideLanes := by
  unfold Obligations.VerbWideLanes
  refine ⟨?arith, ?move, ?images, ?setup⟩
  case arith =>
    intro s u n L ld ls hu hr ht hset k a b
    have turn {lop : Nat} (hlop : lop < 12) := laneTurn_arith hlop ld ls hu hr ht
    refine ⟨exec_ladd (turn (by decide)) hset, exec_lsub (turn (by decide)) hset, fun ha hb hm hj => ?_, fun id ha hb hm hj hc => ?_⟩
    · rw [exec_lmont (turn (by decide)) hset ha hb hm, countMont_idle (t := s.afterLane u ld _) hj]
    · rw [exec_lmont (turn (by decide)) hset ha hb hm, countMont_job (t := s.afterLane u ld _) hj hc]
  case move =>
    intro s u ld ls hu hr ht
    exact exec_lmov (laneTurn_arith (by decide) ld ls hu hr ht)
  case images =>
    intro s u n L off l as hu hr ht hset a k
    have turn {lop : Nat} (hlop : lop < 12) (x y : Fin 8) := laneTurn_arith hlop x y hu hr ht
    refine ⟨fun hat hj => exec_lconv (turn (by decide) ..) hset hat hj, fun hat => exec_lld (turn (by decide) ..) hset hat,
      fun hat hz => ⟨_, exec_lsettle (turn (by decide) ..) hset hat hz, rfl, rfl⟩, fun hat => ⟨_, exec_lst (turn (by decide) ..) hset hat, rfl, rfl⟩⟩
  case setup =>
    intro s u L off as dn hu hr ht hL h1 h128 hat
    exact exec_lsetup (laneTurn_arith (by decide) as dn hu hr ht) hL h1 h128 hat

end Sys2Proof.Machine
end

section
/-! PROOF. Which values of the Glossary an operation leaves (22 R764): squashes, erasures, alarms and requested modes write their own entries
alone. -/

namespace Sys2Proof.Machine

open Sys2Proof

/-- Every field beside the Glossary's values. -/
def besideGls : Nat := 33285996543

section
variable {s : State} {e : GE}

theorem Writes.gv {m : Nat} {t : State} (h : Writes m s t) (hm : m.testBit 30 = false) (e : GE) : t.gv e = s.gv e := by
  rw [State.gv, State.gvs, h.gls hm]
  rfl

theorem State.gv_gset_other {e' : GE} (h : e'.key ≠ e.key) (v : Nat) : (s.gset e' v).gv e = s.gv e :=
  State.gvs_gsets_other s (by omega)

theorem State.gv_bump_other {e' : GE} (h : e'.key ≠ e.key) : (s.bump e').gv e = s.gv e :=
  State.gvs_gsets_other s (by omega)

theorem State.gv_bumps_other {e' : GE} (h : e'.key ≠ e.key) {sel : Nat} (hs : sel < 65536) : (s.bumps e' sel).gv e = s.gv e :=
  State.gvs_gsets_other s (by omega)

theorem foldl_gv {α : Type} {f : State → α → State} (hf : ∀ s a, (f s a).gv e = s.gv e) :
    ∀ (l : List α) (s : State), (l.foldl f s).gv e = s.gv e
  | [], _ => rfl
  | a :: l, s => (foldl_gv hf l (f s a)).trans (hf s a)

/-! ### Squashes (04 R182) -/

theorem squashJob_gv (h : gIntakeSquashTotal.key ≠ e.key) (again : Bool) (id : Nat) : (squashJob s again id).gv e = s.gv e := by
  unfold squashJob
  refine (State.gv_bump_other h).trans ?_
  have hchan : (returnChannel (freeSlot s id) id).gv e = s.gv e :=
    (returnChannel_writes (wm := besideGls) (freeSlot_writes (.refl _ s) rfl) rfl).gv rfl e
  exact hchan

theorem squashWhere_gv (h : gIntakeSquashTotal.key ≠ e.key) (again : Bool) (p : Job → Bool) : (squashWhere s again p).gv e = s.gv e :=
  foldl_gv (fun _ _ => squashJob_gv h again _) _ s

theorem emptyIntake_gv (h : gIntakeSquashTotal.key ≠ e.key) (c : Nat) : (emptyIntake s c).gv e = s.gv e :=
  (squashWhere_gv h _ _).trans ((requeueRead_writes (wm := 4608) (.refl _ s) rfl).gv rfl e)

/-! ### Erasures and alarms (20 R718, R727, R728, R731) -/

theorem eraseVolatile_gv (h : gIntakeSquashTotal.key ≠ e.key) (root : Bool) : (eraseVolatile s root).gv e = s.gv e := by
  have hrest (t : State) : (t.jobsWith onSquads |>.foldl restartJob t).gv e = t.gv e :=
    foldl_gv (fun u id => (restartJob_writes (wm := besideGls) (.refl _ u) rfl).gv rfl e) _ t
  have hstream (t : State) : ((t.jobsWith (fun j => j.phase == .streaming)).foldl (fun s id => restartStream s root id) t).gv e = t.gv e :=
    foldl_gv (fun u id => (restartStream_writes (wm := besideGls) (.refl _ u) rfl).gv rfl e) _ t
  have hneeds (t : State) : ((t.jobsWith needsRoot).foldl (fun s id => finish s id 0x4010 [] 6) t).gv e = t.gv e :=
    foldl_gv (fun u id => (finish_writes (wm := besideGls) (.refl _ u) rfl).gv rfl e) _ t
  have hstart : (squashWhere (destroyVolatile (wipeCache s)) true (fun _ => true)).gv e = s.gv e :=
    (squashWhere_gv h _ _).trans ((destroyVolatile_writes (wm := besideGls) (wipeCache_writes (.refl _ s) rfl) rfl).gv rfl e)
  have hcommits (t : State) : (rngErase (if root then abandonCommits t else t)).gv e = t.gv e :=
    (rngErase_writes (wm := besideGls) (.ite (abandonCommits_writes (.refl _ t) rfl) (.refl _ t)) rfl).gv rfl e
  unfold eraseVolatile
  refine (hcommits _).trans ((hstream _).trans ((hrest _).trans ?_))
  cases root
  · exact hstart
  · exact (hneeds _).trans hstart

/-- The entries that an alarm and what it erases can write. -/
def alarmKeys : List Nat := [gIntakeSquashTotal, gModeTransitions, gLifeRootHeld, gBootRootDue, gTamperLockdownCause, gTamperRootErased,
  gSentinelOverflow, gTamperMonAlarms, gTamperAlarmsTotal, gTamperMonEvents].map GE.key

/-- An entry that no alarm writes. -/
def NoAlarm (e : GE) : Prop := ∀ k ∈ alarmKeys, k ≠ e.key

theorem rootGone_gv (h : NoAlarm e) (m : Nat) : (rootGone s m).gv e = s.gv e := by
  unfold rootGone
  extract_lets s1 s2 s3 s4
  have h2 : s2.gv e = s.gv e := by
    refine (State.gv_gset_other (h gTamperLockdownCause.key (by decide)) _).trans ?_
    refine (State.gv_gset_other (h gBootRootDue.key (by decide)) _).trans ?_
    exact State.gv_gset_other (h gLifeRootHeld.key (by decide)) _
  have h4 : s4.gv e = s.gv e := by
    refine Eq.trans ?_ h2
    show State.gv (if s.mainUp then eraseVolatile s3 true else s3) e = _
    split
    · exact eraseVolatile_gv (h gIntakeSquashTotal.key (by decide)) _
    · rfl
  split
  · exact (enterMode_gv _ _ _ _ (h gModeTransitions.key (by decide)).symm).trans h4
  · exact h4

theorem eraseRoot_gv (h : NoAlarm e) (m : Nat) : (eraseRoot s m).gv e = s.gv e :=
  (rootGone_gv h m).trans (State.gv_bump_other (h gTamperRootErased.key (by decide)))

theorem sntStore_gv (h : NoAlarm e) (r : SntRec) : (sntStore s r).gv e = s.gv e := by
  unfold sntStore
  extract_lets t r1
  split
  · rfl
  · split
    · rfl
    · exact State.gv_bump_other (h gSentinelOverflow.key (by decide))

theorem raiseAlarm_gv (h : NoAlarm e) {m : Nat} (hm : m < 65536) (count value : Nat) : (raiseAlarm s m count value).gv e = s.gv e := by
  unfold raiseAlarm
  extract_lets resp s1 s2 s2' s3
  have h1 : s1.gv e = s.gv e := (State.gv_bump_other (h gTamperAlarmsTotal.key (by decide))).trans
    (State.gv_bumps_other (h gTamperMonAlarms.key (by decide)) hm)
  split
  · refine (sntStore_gv h _).trans (Eq.trans ?_ h1)
    show State.gv (if resp ≠ 4 then s1 else if s.hostSupply then rootGone s1 m else cellEraseRoot s1) e = _
    split_ifs
    · rfl
    · exact rootGone_gv h m
    · rfl
  · split
    · exact (eraseRoot_gv h m).trans h1
    · exact h1

theorem countEvent_gv (h : NoAlarm e) {m : Nat} (hm : m < 65536) (value : Nat) : (countEvent s m value).gv e = s.gv e := by
  have hb := State.gv_bumps_other (s := s) (h gTamperMonEvents.key (by decide)) hm
  unfold countEvent
  extract_lets x times held s1 fire x1 s2
  split
  · exact (raiseAlarm_gv h hm _ _).trans hb
  · exact hb

/-! ### Requested modes (18 R659, R664 to R671, R676, R679) -/

/-- An entry that no requested mode writes. -/
def NoModeEntry (e : GE) : Prop := ∀ k ∈ [gModeTransitions.key, gModeLeanCause.key, gModePowerCap.key], k ≠ e.key

theorem limit60_gv (h : NoModeEntry e) (on : Bool) : (limit60 s on).gv e = s.gv e :=
  (State.gv_gset_other (h gModePowerCap.key (by decide)) _).trans
    ((setThrottle_writes (wm := besideGls) (State.withPower_writes (.refl _ s) rfl) rfl).gv rfl e)

theorem leanOn_gv (h : NoModeEntry e) (cause : Nat) : (leanOn s cause).gv e = s.gv e :=
  (limit60_gv h true).trans ((State.gv_gset_other (h gModeLeanCause.key (by decide)) _).trans
    ((strikeLean_writes (wm := besideGls) (.refl _ s) rfl).gv rfl e))

theorem leanOff_gv (h : NoModeEntry e) : (leanOff s).gv e = s.gv e :=
  (limit60_gv h false).trans ((State.gv_gset_other (h gModeLeanCause.key (by decide)) _).trans
    ((hoistLean_writes (wm := besideGls) (.refl _ s) rfl).gv rfl e))

theorem completeTrans_gv (h : NoModeEntry e) (t : Transition) : (completeTrans s t).gv e = s.gv e := by
  have henter := (h gModeTransitions.key (by decide)).symm
  unfold completeTrans
  split_ifs
  · exact (enterMode_gv _ _ _ _ henter).trans (leanOn_gv h _)
  · exact (enterMode_gv _ _ _ _ henter).trans (leanOff_gv h)
  · exact enterMode_gv _ _ _ _ henter

theorem beginTrans_gv (h : NoModeEntry e) (target cause : Nat) : (beginTrans s target cause).gv e = s.gv e := by
  unfold beginTrans
  extract_lets isls t
  split
  · exact completeTrans_gv h t
  · rfl

theorem takeWaiting_gv (h : NoModeEntry e) : (takeWaiting s).gv e = s.gv e := by
  unfold takeWaiting
  split
  · unfold requestMode
    split_ifs
    · exact beginTrans_gv h _ _
    · exact beginTrans_gv h _ _
    · rfl
  · rfl

end

end Sys2Proof.Machine
end

section
/-! PROOF. Events of the cores, of the guards and of a changeover (13 R530; 14 R543, R545, R550, R561, R562; 15 R580, R585; 18 R682). -/

namespace Sys2Proof.Machine

open Sys2Proof

/-! ### Asynchronous events (14 R543, R545) -/

section
variable {s : State} {u : Nat}

theorem takeAsync_masked (h : stEM (s.unit u).r.st = true) : takeAsync s u = s := by simp [takeAsync, h]

/-- The event due at a unit that issues, with EM 0 and no load on its way, is taken. -/
theorem takeAsync_due {e : Exc} {y : VUnit} (hup : unitUp s u = true) (hem : stEM (s.unit u).r.st = false)
    (hload : (s.unit u).pendLoad = none) (hwait : (s.unit u).wait = none) (hn : nextAsync (s.unit u) = some (e, y)) :
    takeAsync s u = countEntry (s.withUnit u (fun _ => enterExc y e y.r.pc)) u e := by
  simp [takeAsync, hup, hem, hload, hwait, hn]

/-- A device line raised at a unit whose EM is 1 stays pending. -/
theorem raiseAsync_masked (n : Nat) (h : stEM (s.unit u).r.st = true) :
    raiseAsync s u (.device n) = s.withUnit u (fun x => { x with latch := true, pendDev := addUnique n x.pendDev }) :=
  takeAsync_masked (by rwa [State.unit_withUnit])

theorem addUnique_nil (n : Nat) : addUnique n [] = [n] := rfl

/-- The one event pending at a unit is its device line. -/
theorem nextAsync_device {x : VUnit} {n : Nat} (h : nextAsync x = none) :
    nextAsync { x with latch := true, pendDev := addUnique n x.pendDev } = some (excDevice n, { x with latch := true, pendDev := [] }) := by
  obtain ⟨hlock, hsup, hdev⟩ := nextAsync_eq_none_iff.mp h
  simp [nextAsync, hlock, hsup, hdev, addUnique_nil]

/-- A device line raised at a unit that issues, with EM 0 and nothing else due, is taken at once. -/
theorem raiseAsync_taken (n : Nat) (hup : unitUp s u = true) (hd : isDeep u = false) (hem : stEM (s.unit u).r.st = false)
    (hload : (s.unit u).pendLoad = none) (hwait : (s.unit u).wait = none) (hn : nextAsync (s.unit u) = none) :
    raiseAsync s u (.device n) = s.withUnit u (fun x => enterExc { x with latch := true, pendDev := [] } (excDevice n) x.r.pc) := by
  have hunit : (s.withUnit u (fun x => { x with latch := true, pendDev := addUnique n x.pendDev })).unit u =
      { s.unit u with latch := true, pendDev := addUnique n (s.unit u).pendDev } := State.unit_withUnit ..
  have hup' : unitUp (s.withUnit u (fun x => { x with latch := true, pendDev := addUnique n x.pendDev })) u = true := by
    unfold unitUp at hup ⊢
    rw [hunit]
    exact hup
  have hnext := nextAsync_device (n := n) hn
  rw [← hunit] at hnext
  have htake := takeAsync_due hup' (by rw [hunit]; exact hem) (by rw [hunit]; exact hload) (by rw [hunit]; exact hwait) hnext
  rw [countEntry_none hd (show 8 ≠ 1 by decide) (show 8 ≠ 6 by decide) (show 8 ≠ 7 by decide)] at htake
  exact htake.trans ((State.withUnit_withUnit ..).trans (State.withUnit_congr rfl))

/-- Taking an event leaves which pairs are tested and which is on duty. -/
theorem takeAsync_pairs (t : State) (u : Nat) : (takeAsync t u).verb.testing = t.verb.testing ∧ (takeAsync t u).verb.duty = t.verb.duty := by
  have hcount (t : State) (e : Exc) : (countEntry t u e).verb.testing = t.verb.testing ∧ (countEntry t u e).verb.duty = t.verb.duty := by
    unfold countEntry
    split_ifs <;> exact ⟨rfl, rfl⟩
  unfold takeAsync
  extract_lets x
  split_ifs
  · exact ⟨rfl, rfl⟩
  · cases nextAsync x with
    | none => exact ⟨rfl, rfl⟩
    | some p => exact hcount _ _

theorem raiseAsync_pairs (s : State) (u : Nat) (ev : AsyncEvent) :
    (raiseAsync s u ev).verb.testing = s.verb.testing ∧ (raiseAsync s u ev).verb.duty = s.verb.duty := takeAsync_pairs _ u

end

/-! ### Cores reset (14 R535, R562) -/

section
variable (s : State) (u : Nat)

theorem resetCore_unit : ((resetCore s u).unit u).r.pc = 0 ∧ ((resetCore s u).unit u).r.st = 0xE00 ∧
    ((resetCore s u).unit u).frozen = none ∧ ((resetCore s u).unit u).ldata = (s.unit u).ldata := by
  rw [resetCore, State.unit_withUnit]
  exact ⟨rfl, rfl, rfl, rfl⟩

theorem testPair_testing : u ∈ (testPair s u).verb.testing := mem_addUnique ..

/-- A pair that diverges while the other is on duty goes into self-test. -/
theorem pairStops_standby {u : Nat} (h : u ≠ s.verb.duty) : pairStops s u = testPair s u := if_pos h

/-- A duty pair that diverges hands over to the standby pair. -/
theorem pairStops_duty {u : Nat} (h : u = s.verb.duty) (hs : standbyUp s = true) :
    u ∈ (pairStops s u).verb.testing ∧ (pairStops s u).verb.duty = otherPair u := by
  rw [pairStops, if_neg (not_not_intro h), if_pos hs]
  dsimp only
  rw [(raiseAsync_pairs ..).1, (raiseAsync_pairs ..).2]
  exact ⟨testPair_testing s u, rfl⟩

end

/-! ### The guards' scrub and drain (15 R580, R585) -/

theorem State.guard_withGuard (s : State) (g : Nat) (f : Guard → Guard) : (s.withGuard g f).guards.get {} g = f (s.guards.get {} g) :=
  Tab.get_upd_self _ s.guards g f

theorem State.guard_withGuard_other (s : State) {g k : Nat} (f : Guard → Guard) (h : g ≠ k) :
    (s.withGuard k f).guards.get {} g = s.guards.get {} g := Tab.get_upd_other _ s.guards f h

/-- A slot found wrong, marked and reported, before the tamper aggregator counts it. -/
def foundBad (s : State) (g n kind : Nat) : State :=
  let s1 := (s.withGuard g (fun x => { x with bad := addUnique n x.bad })).bump gGuardIntegrityFail
  ({ s1 with guardSt := { s1.guardSt with reload := addUnique g s1.guardSt.reload } } : State).event (guardIsl g) 0x0502 1
    (toLE 1 g ++ toLE 2 n ++ toLE 1 (Config.code 12 kind))

theorem guardBad_new {s : State} {g n : Nat} (h : n ∉ (s.guards.get {} g).bad) (kind : Nat) : guardBad s g n kind =
    if (foundBad s g n kind).tamper.sntRuns then foundBad s g n kind else countEvent (foundBad s g n kind) 20 g := by
  rw [guardBad, if_neg (by simpa using h)]
  rfl

/-- What the tamper aggregator leaves when it counts a guard's slot. -/
theorem countGuard_frame (s : State) (g : Nat) : (countEvent s 20 g).guards = s.guards ∧ (countEvent s 20 g).guardSt = s.guardSt ∧
    (countEvent s 20 g).parts = s.parts ∧ (countEvent s 20 g).codeFlash = s.codeFlash ∧
    (countEvent s 20 g).gv gGuardIntegrityFail = s.gv gGuardIntegrityFail := by
  have hw : Writes 20593825504 s (countEvent s 20 g) := countEvent_writes (.refl _ s) rfl
  exact ⟨hw.guards rfl, hw.guardSt rfl, hw.parts rfl, hw.codeFlash rfl, countEvent_gv (by unfold NoAlarm; decide) (by decide) _⟩

/-- A double-bit error found in an active slot: marked, counted, its bank due to be loaded again. -/
theorem guardBad_found {s : State} {g n : Nat} (h : n ∉ (s.guards.get {} g).bad) (kind : Nat) :
    n ∈ ((guardBad s g n kind).guards.get {} g).bad ∧ g ∈ (guardBad s g n kind).guardSt.reload ∧
      ((guardBad s g n kind).guards.get {} g).active = (s.guards.get {} g).active ∧
      (guardBad s g n kind).gv gGuardIntegrityFail = (s.gv gGuardIntegrityFail + 1) % 2 ^ 64 ∧
      (guardBad s g n kind).parts = s.parts ∧ (guardBad s g n kind).codeFlash = s.codeFlash := by
  have hmark : (foundBad s g n kind).guards.get {} g = { s.guards.get {} g with bad := addUnique n (s.guards.get {} g).bad } :=
    State.guard_withGuard s g (fun x => { x with bad := addUnique n x.bad })
  have hfound : n ∈ ((foundBad s g n kind).guards.get {} g).bad ∧ g ∈ (foundBad s g n kind).guardSt.reload ∧
      ((foundBad s g n kind).guards.get {} g).active = (s.guards.get {} g).active ∧
      (foundBad s g n kind).gv gGuardIntegrityFail = (s.gv gGuardIntegrityFail + 1) % 2 ^ 64 ∧
      (foundBad s g n kind).parts = s.parts ∧ (foundBad s g n kind).codeFlash = s.codeFlash := by
    rw [hmark]
    exact ⟨mem_addUnique .., mem_addUnique .., rfl, State.gv_bump _ _, rfl, rfl⟩
  rw [guardBad_new h]
  split
  · exact hfound
  · obtain ⟨hguards, hst, hparts, hflash, hgv⟩ := countGuard_frame (foundBad s g n kind) g
    rw [hguards, hst, hparts, hflash, hgv]
    exact hfound

/-- Restoring leaves the rules in force, and the staging banks of the guards named take them. -/
theorem restoreStaging_guard (g : Nat) : ∀ (gs : List Nat) (s : State), ((restoreStaging s gs).guards.get {} g).active = (s.guards.get {} g).active ∧
    (g ∈ gs ∨ (s.guards.get {} g).staging = (s.guards.get {} g).active →
      ((restoreStaging s gs).guards.get {} g).staging = (s.guards.get {} g).active)
  | [], _ => ⟨rfl, fun h => h.resolve_left List.not_mem_nil⟩
  | k :: gs, s => by
    obtain ⟨hact, hstage⟩ := restoreStaging_guard g gs (s.withGuard k (fun x => { x with staging := x.active }))
    by_cases hk : g = k
    · subst hk
      have hget : (s.withGuard g (fun x => { x with staging := x.active })).guards.get {} g =
          { s.guards.get {} g with staging := (s.guards.get {} g).active } := State.guard_withGuard ..
      rw [hget] at hact hstage
      exact ⟨hact, fun _ => hstage (.inr rfl)⟩
    · have hget : (s.withGuard k (fun x => { x with staging := x.active })).guards.get {} g = s.guards.get {} g := State.guard_withGuard_other _ _ hk
      rw [hget] at hact hstage
      exact ⟨hact, fun h => hstage (h.imp_left (fun hm => (List.mem_cons.mp hm).resolve_left hk))⟩

/-- The end of a drain: the epoch rises, the machine is idle, every staging bank takes the rules in force. -/
theorem endDrain_ends (s : State) : (endDrain s).gv gGuardEpoch = (s.gv gGuardEpoch + 1) % 2 ^ 64 ∧ (endDrain s).gv gGuardCommitState = 0xFC0 ∧
    (endDrain s).gv gGuardCommitChange = 0 ∧ ∀ g, g < 5 → ((endDrain s).guards.get {} g).staging = (s.guards.get {} g).active ∧
      ((endDrain s).guards.get {} g).active = (s.guards.get {} g).active := by
  refine ⟨?_, ?_, State.gv_gset _ _ _, fun g hg => ?_⟩
  · refine (State.gv_gset_other (by decide) _).trans ((State.gv_gset_other (by decide) _).trans ((State.gv_bump _ _).trans ?_))
    rw [(restoreStaging_writes (wm := besideGls) (.refl _ s) rfl).gv rfl]
  · exact (State.gv_gset_other (by decide) _).trans (State.gv_gset _ _ _)
  · obtain ⟨hact, hstage⟩ := restoreStaging_guard g [0, 1, 2, 3, 4] s
    refine ⟨hstage (.inl ?_), hact⟩
    interval_cases g <;> decide

theorem reloadGuards_none {s : State} (h : s.guardSt.reload = []) : reloadGuards s = s := by simp [reloadGuards, h]

/-- With no change set draining and no changeover, the end of a drain is measured, and that is all. -/
theorem drained_alone {s : State} (hset : ∀ e ∈ s.mgmt.slots, e.2.code ≠ 0xF0F) (hc : s.mode.changeover = none) :
    drained s = measure (endDrain s) [5] := by
  have hmgmt : (endDrain s).mgmt = s.mgmt := (endDrain_writes (wm := 1073807360) (.refl _ s) rfl).mgmt rfl
  have hmode : (endDrain s).mode = s.mode := (endDrain_writes (wm := 1073807360) (.refl _ s) rfl).mode rfl
  have hfind : (endDrain s).mgmt.slots.find? (fun e => e.2.code == 0xF0F) = none := by
    rw [hmgmt]
    exact List.find?_eq_none.mpr (fun e he => by simpa using hset e he)
  have hfree : freeDrained (endDrain s) = endDrain s := by
    rw [freeDrained, hfind]
    rfl
  have hnone : (measure (endDrain s) [5]).mode.changeover = none := by
    rw [show (measure (endDrain s) [5]).mode.changeover = (endDrain s).mode.changeover from rfl, hmode, hc]
  unfold drained
  rw [hfree]
  simp only [hnone]

/-! ### Units of a changeover (18 R682) -/

/-- The image slots of the cores below the squads are as before. -/
def SameProgs (s t : State) : Prop := ∀ j < 12, t.verb.prog.get 0 j = s.verb.prog.get 0 j

section
variable {s t : State}

theorem SameProgs.refl (s : State) : SameProgs s s := fun _ _ => rfl

theorem SameProgs.of_prog (h : t.verb.prog = s.verb.prog) : SameProgs s t := fun _ _ => by rw [h]

theorem Writes.sameProgs {m : Nat} (h : Writes m s t) (hm : m.testBit 25 = false) : SameProgs s t := .of_prog (by rw [h.verb hm])

theorem SameProgs.trans {u : State} (h : SameProgs s t) (k : SameProgs t u) : SameProgs s u := fun j hj => (k j hj).trans (h j hj)

theorem SameProgs.foldl {α : Type} {f : State → α → State} (hf : ∀ s a, SameProgs s (f s a)) :
    ∀ (l : List α) (s : State), SameProgs s (l.foldl f s)
  | [], _ => .refl _
  | a :: l, s => (hf s a).trans (SameProgs.foldl hf l (f s a))

end

/-- Every field beside the Verb cores. -/
def besideVerb : Nat := 34326183935

theorem leaveSquads_progs (s : State) (id : Nat) : SameProgs s (leaveSquads s id) := by
  have hwipe (s : State) (q : Nat) : SameProgs s
      ((((s.squad q).slots.filter (fun e => e.2 == id)).map Prod.fst).foldl (fun s c => wipeSlot s q c) s) :=
    .foldl (f := fun s c => wipeSlot s q c) (fun _ _ => .of_prog rfl) _ s
  have hleave (l : List Nat) (f : Squad → Squad) (s : State) : SameProgs s (l.foldl (fun s q => s.withSquad q f) s) :=
    .foldl (f := fun s q => s.withSquad q f) (fun _ _ => .of_prog rfl) l s
  intro j hj
  exact (hleave _ _ _ j hj).trans (SameProgs.foldl hwipe (s.job id).squads s j hj)

theorem redispatch_progs (s : State) (id : Nat) : SameProgs s (redispatch s id) := by
  have hleft : SameProgs s (leaveSquads (returnChannel s id) id) :=
    ((returnChannel_writes (wm := besideVerb) (.refl _ s) rfl).sameProgs rfl).trans (leaveSquads_progs _ id)
  unfold redispatch
  extract_lets j s1
  split_ifs
  · exact hleft.trans (.of_prog rfl)
  · exact hleft.trans (.of_prog rfl)
  · exact .refl s

theorem strikeSquad_progs (s : State) (q : Nat) : SameProgs s (strikeSquad s q) := by
  have hmarks (l : List Nat) (s : State) : SameProgs s (l.foldl (fun s n => s.present n (.mark 4 n)) s) := .foldl (f := fun s n => s.present n (.mark 4 n)) (fun _ _ => .of_prog rfl) l s
  exact (SameProgs.foldl redispatch_progs _ s).trans
    (((strikeIsl_writes (wm := besideVerb) (State.withSquad_writes (.refl _ _) rfl) rfl).sameProgs rfl).trans (hmarks _ _))

theorem strikeLean_progs (s : State) : SameProgs s (strikeLean s) :=
  (SameProgs.foldl strikeSquad_progs _ s).trans
    ((SameProgs.foldl (fun u _ => (strikeEngine_writes (wm := besideVerb) (.refl _ u) rfl).sameProgs rfl) _ _).trans (.of_prog rfl))

theorem setThrottle_progs (s : State) : SameProgs s (setThrottle s) := by
  unfold setThrottle
  extract_lets v u
  have hu : SameProgs s u := .of_prog rfl
  refine hu.trans (.foldl (fun w n => ?_) _ u)
  split
  · exact .of_prog rfl
  · exact .refl w

/-- Squads that are hoisted load their own images; no other core's is touched. -/
theorem hoistLean_progs (s : State) : SameProgs s (hoistLean s) := by
  have hsquad (s : State) (q slot : Nat) : SameProgs s (s.withVerb (fun v => { v with
      prog := Tab.set v.prog (12 + q) slot, badWords := v.badWords.erase (12 + q) })) :=
    fun j hj => Tab.get_set_other _ _ _ (by omega)
  have hisl (s : State) (l : List Nat) : SameProgs s (hoistIsl s l) := (hoistIsl_writes (wm := besideVerb) (.refl _ s) rfl).sameProgs rfl
  have hmarks (l : List Nat) (s : State) : SameProgs s (l.foldl (fun s n => s.present n (.mark 3 n)) s) :=
    .foldl (f := fun s n => s.present n (.mark 3 n)) (fun _ _ => .of_prog rfl) l s
  unfold hoistLean
  extract_lets s1 s3
  have h1 : SameProgs s s1 := .foldl (fun u q => ((hisl u _).trans (hmarks _ _)).trans
    (SameProgs.trans (.of_prog rfl) (hsquad (State.withSquad _ q _) q _))) _ s
  have h3 : SameProgs s1 s3 := .foldl (f := fun s e => (hoistIsl s [strIsl e]).present (strIsl e) (.mark 3 (strIsl e)))
    (fun u e => (hisl u [strIsl e]).trans (.of_prog rfl)) _ s1
  exact (h1.trans h3).trans (.of_prog rfl)

theorem limit60_progs (s : State) (on : Bool) : SameProgs s (limit60 s on) := by
  have hpower : SameProgs s (s.withPower (fun p => { p with cap60 := on })) := .of_prog rfl
  have hset (t : State) (v : Nat) : SameProgs t (t.gset gModePowerCap v) := .of_prog rfl
  exact (hpower.trans (setThrottle_progs _)).trans (hset _ _)

theorem leanOn_progs (s : State) (cause : Nat) : SameProgs s (leanOn s cause) := by
  have hset (t : State) : SameProgs t (t.gset gModeLeanCause cause) := .of_prog rfl
  exact ((strikeLean_progs s).trans (hset _)).trans (limit60_progs _ _)

theorem leanOff_progs (s : State) : SameProgs s (leanOff s) := by
  have hset (t : State) : SameProgs t (t.gset gModeLeanCause 0) := .of_prog rfl
  exact ((hoistLean_progs s).trans (hset _)).trans (limit60_progs _ _)

theorem enterMode_progs (s : State) (m : Nat) (forced : Bool) (cause : Nat) : SameProgs s (enterMode s m forced cause) :=
  (enterMode_writes (wm := besideVerb) (.refl _ s) rfl).sameProgs rfl

theorem completeTrans_progs (s : State) (t : Transition) : SameProgs s (completeTrans s t) := by
  unfold completeTrans
  split_ifs
  · exact (leanOn_progs s _).trans (enterMode_progs _ _ _ _)
  · exact (leanOff_progs s).trans (enterMode_progs _ _ _ _)
  · exact enterMode_progs _ _ _ _

theorem beginTrans_progs (s : State) (target cause : Nat) : SameProgs s (beginTrans s target cause) := by
  unfold beginTrans
  extract_lets isls t
  split
  · exact completeTrans_progs s t
  · exact .of_prog rfl

theorem takeWaiting_progs (s : State) : SameProgs s (takeWaiting s) := by
  unfold takeWaiting
  split
  · unfold requestMode
    split_ifs
    · exact fun j hj => beginTrans_progs _ _ _ j hj
    · exact fun j hj => beginTrans_progs _ _ _ j hj
    · exact .of_prog rfl
  · exact .refl s

theorem leaveChangeover_progs (s : State) (left : Nat) : SameProgs s (leaveChangeover s left) := by
  unfold leaveChangeover
  extract_lets s1
  split
  · exact fun j hj => takeWaiting_progs s1 j hj
  · exact fun j hj => (takeWaiting_progs _ j hj).trans (enterMode_progs s1 _ _ _ j hj)

theorem leaveChangeover_gv {e : GE} (h : NoModeEntry e) (s : State) (left : Nat) : (leaveChangeover s left).gv e = s.gv e := by
  unfold leaveChangeover
  extract_lets s1
  refine (takeWaiting_gv h).trans ?_
  split
  · rfl
  · exact enterMode_gv _ _ _ _ (h gModeTransitions.key (by decide)).symm

/-- What the next unit's start, or the end, keeps of a core between the pairs and the squads that has moved: its image slot, and the
count of units moved. -/
structure KeepsMoved (j : Nat) (s t : State) : Prop where
  slot : t.verb.prog.get 0 j = s.verb.prog.get 0 j
  count : t.gv gChangeoverProgress = s.gv gChangeoverProgress

theorem KeepsMoved.trans {j : Nat} {s t u : State} (h : KeepsMoved j s t) (k : KeepsMoved j t u) : KeepsMoved j s u :=
  ⟨k.slot.trans h.slot, k.count.trans h.count⟩

theorem setProg_keepsMoved {j core : Nat} (h : j ≠ core) (s : State) (slot : Nat) : KeepsMoved j s (setProg s core slot) :=
  ⟨Tab.get_set_other _ _ _ h, rfl⟩

theorem startUnit_keepsMoved {j n : Nat} (hj : 8 ≤ j) (hn : j < n + 2) (s : State) (slot : Nat) : KeepsMoved j s (startUnit s n slot) := by
  have hcore : n < 10 → unitCore s n = n + 2 := fun h => by
    rw [unitCore, if_neg (by omega), if_neg (by omega), if_pos h]
  have hintake : 10 ≤ n → unitCore s n = n - 6 := fun h => by
    rw [unitCore, if_neg (by omega), if_neg (by omega), if_neg (by omega)]
  unfold startUnit
  extract_lets u
  rw [if_neg (by omega)]
  split_ifs with h10 h14
  · have hu : j ≠ u := by have := hcore h10; omega
    have hreset : KeepsMoved j s (resetCore s u) := ⟨rfl, rfl⟩
    exact (hreset.trans (setProg_keepsMoved hu _ _)).trans ⟨rfl, rfl⟩
  · have hu : j ≠ u := by have := hintake (by omega); omega
    have hempty : KeepsMoved j s (emptyIntake s (u - 4)) :=
      ⟨by rw [(emptyIntake_writes (wm := besideVerb) (.refl _ s) rfl).verb rfl], emptyIntake_gv (by decide) _⟩
    have hreset (t : State) : KeepsMoved j t (resetCore t u) := ⟨rfl, rfl⟩
    have hhold (t : State) : KeepsMoved j t ((holdCore t u).withIntake (u - 4) (fun i => { i with held := true })) := ⟨rfl, rfl⟩
    exact ((hempty.trans (hreset _)).trans (setProg_keepsMoved hu _ _)).trans (hhold _)
  · exact ⟨rfl, rfl⟩

theorem finishChangeover_keepsMoved {j : Nat} (hj : 8 ≤ j) (hj' : j < 12) (s : State) (c : Changeover) :
    KeepsMoved j s (finishChangeover s c) := by
  have hleave (t : State) : KeepsMoved j t (leaveChangeover t c.left) :=
    ⟨leaveChangeover_progs t _ j hj', leaveChangeover_gv (by unfold NoModeEntry; decide) t _⟩
  have hset {e : GE} (he : e.key ≠ gChangeoverProgress.key) (t : State) (v : Nat) : KeepsMoved j t (t.gset e v) :=
    ⟨rfl, State.gv_gset_other he v⟩
  have hevent (t : State) (b : Bytes) : KeepsMoved j t (t.event 229 0x0703 1 b) := ⟨rfl, rfl⟩
  have hmeasure (t : State) (l : List Nat) : KeepsMoved j t (measure t l) := ⟨rfl, rfl⟩
  unfold finishChangeover
  extract_lets h s1 s2 s3
  have h1 : KeepsMoved j s s1 := hset (by decide) _ _
  have h2 : KeepsMoved j s s2 := by
    refine h1.trans ?_
    show KeepsMoved j s1 (if c.raise then s1.gset gFlashSvnFloor (svnOf h) else s1)
    split
    · exact hset (by decide) _ _
    · exact ⟨rfl, rfl⟩
  have h3 : KeepsMoved j s s3 := (h2.trans (hset (by decide) _ _)).trans (hevent _ _)
  exact (((h3.trans (setProg_keepsMoved (by omega) _ _)).trans (setProg_keepsMoved (by omega) _ _)).trans (hmeasure _ _)).trans (hleave _)

theorem le_nextUnit (s : State) (c : Changeover) {n : Nat} (hn : n ≤ 46) : n ≤ nextUnit s c n := by
  unfold nextUnit
  extract_lets due
  cases h : ((List.range 46).filter (fun k => decide (n ≤ k) && due k)).head? with
  | none => exact hn
  | some k =>
    have hk := (List.mem_filter.mp (List.mem_of_mem_head? h)).2
    rw [Bool.and_eq_true, decide_eq_true_eq] at hk
    exact hk.1

/-- Past a core that has moved, the changeover goes on with a later unit, or ends. -/
theorem goOn_keepsMoved {j n : Nat} (hj : 8 ≤ j) (hj' : j < 12) (hn : j < n + 2) (hn' : n ≤ 46) (s : State) (c : Changeover) :
    KeepsMoved j s (goOn s c n) := by
  have hle := le_nextUnit s c hn'
  have hset (c : Changeover) : KeepsMoved j s (setChangeover s c) := ⟨rfl, rfl⟩
  unfold goOn
  extract_lets k c1
  split_ifs with h46 h4
  · exact finishChangeover_keepsMoved hj hj' s c1
  · omega
  · exact (hset c1).trans (startUnit_keepsMoved hj (by omega) _ _)

/-- A service core that has passed on the new image counts, and runs it. -/
theorem unitMoved_service {s : State} {c : Changeover} (hlo : 6 ≤ c.unit) (hhi : c.unit < 10) :
    (unitMoved s c).gv gChangeoverProgress = s.gv gChangeoverProgress + 1 ∧ (unitMoved s c).verb.prog.get 0 (c.unit + 2) = c.slot ∧
      (unitMoved s c).parts = s.parts ∧ (unitMoved s c).keys = s.keys := by
  have hcore : unitCore s c.unit = c.unit + 2 := by
    rw [unitCore, if_neg (by omega), if_neg (by omega), if_pos hhi]
  have hback : unitBack s c.unit c.slot = setProg (releaseCore s (c.unit + 2)) (c.unit + 2) c.slot := by
    rw [← hcore]
    exact if_pos hhi
  have hmoved : unitMoved s c = goOn ((unitBack s c.unit c.slot).gset gChangeoverProgress (s.gv gChangeoverProgress + 1))
      { c with moved := c.unit :: c.moved } (c.unit + 1) := (if_neg (by omega)).trans (if_neg (by omega))
  rw [hmoved, hback]
  have hkeep := goOn_keepsMoved (j := c.unit + 2) (n := c.unit + 1) (by omega) (by omega) (by omega) (by omega)
    ((setProg (releaseCore s (c.unit + 2)) (c.unit + 2) c.slot).gset gChangeoverProgress (s.gv gChangeoverProgress + 1))
    { c with moved := c.unit :: c.moved }
  have hw : Writes 3393967862 _ (goOn ((setProg (releaseCore s (c.unit + 2)) (c.unit + 2) c.slot).gset gChangeoverProgress
    (s.gv gChangeoverProgress + 1)) { c with moved := c.unit :: c.moved } (c.unit + 1)) := goOn_writes (.refl _ _) rfl
  refine ⟨hkeep.count.trans (State.gv_gset _ _ _), hkeep.slot.trans (Tab.get_set_self _ _ _ _), (hw.parts rfl).trans rfl, (hw.keys rfl).trans rfl⟩

/-! ### The obligation -/

/-- Settles O44: EM decides whether an event pends or is taken; a pair stops by its role; a slot found wrong, the end of a drain and a moved
core leave what their lemmas say. -/
theorem coreGuardAndChangeoverEvents : Obligations.CoreGuardAndChangeoverEvents := by
  unfold Obligations.CoreGuardAndChangeoverEvents
  refine ⟨?masked, ?taken, ?recovery, ?standby, ?duty, ?tested, ?ahead, ?scrub, ?draining, ?drained, ?moved⟩
  case masked =>
    intro s u n hp hn hem
    have hok : (unitPowered s u && decide (n < 64)) = true := by rw [hp, decide_eq_true hn]; rfl
    exact (if_pos hok).trans (congrArg Host.Outcome.next (raiseAsync_masked n hem))
  case taken =>
    intro s u n hup hd hn hem hload hwait hnext x l
    have hp : unitPowered s u = true := by
      rw [unitUp, Bool.and_eq_true] at hup
      exact hup.1
    have hok : (unitPowered s u && decide (n < 64)) = true := by rw [hp, decide_eq_true hn]; rfl
    refine ⟨_, (if_pos hok).trans (congrArg Host.Outcome.next (raiseAsync_taken n hup hd hem hload hwait hnext)), ?_⟩
    rw [State.unit_withUnit]
    refine ⟨rfl, rfl, enterExc_lvl .., enterExc_em .., enterExc_spc .., enterExc_sst .., rfl, ?_, rfl,
      (State.withUnit_writes (wm := 33554432) (.refl _ s) rfl).merge⟩
    exact congrArg (BitVec.ofNat 32) (by simp [excDevice, b2n, VUnit.lvl, x])
  case recovery =>
    intro s u hlo hhi hp hf
    have hexec : exec (.frozenUnitRecovery u) s = .next (loadProgram (resetCore s u) u) := by
      refine (if_neg ?_).trans ((if_neg ?_).trans (if_pos hlo))
      · rw [hp, ← Option.not_isSome, hf]; decide
      · rw [isSquadUnit, decide_eq_false (by omega)]; decide
    obtain ⟨hpc, hst, hfrozen, hdata⟩ := resetCore_unit s u
    exact ⟨_, hexec, hfrozen, hpc, hst, hdata, (loadProgram_writes (wm := 33554432) (resetCore_writes (.refl _ s) rfl) rfl).merge⟩
  case standby =>
    intro s pair u hp hduty
    have hexec : exec (.pairDiverged pair) s = .next (testPair ((s.bump gExcLockstepDiverge).event (200 + u) 0x0504 1
        (toLE 1 (u / 2) ++ toLE 1 (Config.code 9 (b2n (u == s.verb.duty))))) u) := by
      refine (if_neg ?_).trans (congrArg Host.Outcome.next (pairStops_standby _ hduty))
      rw [hp]; decide
    refine ⟨_, hexec, testPair_testing _ u, rfl, (resetCore_unit _ u).1, State.gv_bump s _, ?_⟩
    exact (testPair_writes (wm := 1107296288) (State.event_writes (State.bump_writes (.refl _ s) rfl) rfl) rfl).merge
  case duty =>
    intro s pair u hp hduty hs
    have hexec : exec (.pairDiverged pair) s = .next (pairStops ((s.bump gExcLockstepDiverge).event (200 + u) 0x0504 1
        (toLE 1 (u / 2) ++ toLE 1 (Config.code 9 (b2n (u == s.verb.duty))))) u) := by
      refine if_neg ?_
      rw [hp]; decide
    exact ⟨_, hexec, pairStops_duty _ hduty hs⟩
  case tested =>
    intro s pair passed u hu hc
    have hok : (s.verb.testing.contains u && !pairInHand s u) = true := by
      rw [List.contains_iff_mem.mpr hu, pairInHand, hc]; rfl
    refine ⟨_, if_pos hok, ?_, fun h => if_pos h, fun h => ?_, (State.withVerb_writes (wm := 33554432) (.refl _ s) rfl).merge⟩
    · intro hm
      have hne := (List.mem_filter.mp hm).2
      simp only [bne_iff_ne] at hne
      exact hne rfl
    · refine (congrArg (u ∈ ·) (if_neg ?_)).mpr (mem_addUnique u s.verb.out)
      rw [h]; decide
  case ahead =>
    intro s pair u hup hrun
    have hok : (unitUp s u && s.verb.runahead.get 1 u == 1) = true := by rw [hup, hrun]; rfl
    exact ⟨_, if_pos hok, State.gv_bump s _, (State.bump_writes (wm := 1073741824) (.refl _ s) rfl).merge⟩
  case scrub =>
    intro s g n hact hn hbad hrun
    have hexec : exec (.guardScrub g [.double n]) s = .next (guardBad s g n 0) := by
      refine (if_neg (by rw [hact]; decide)).trans (congrArg Host.Outcome.next ?_)
      rw [hrun]
      exact if_pos hn
    exact ⟨_, hexec, guardBad_found hbad 0⟩
  case draining =>
    intro s hst hre hold
    refine (if_neg ?_).trans (congrArg Host.Outcome.next (reloadGuards_none hre))
    rw [hold, Bool.not_true, Bool.and_false]
    decide
  case drained =>
    intro s hst hre hold hc hset
    have hre' : (measure (endDrain s) [5]).guardSt.reload = [] := by
      rw [(measure_writes (wm := 1073807424) (endDrain_writes (.refl _ s) rfl) rfl).guardSt rfl, hre]
    have hok : (decide (s.gv gGuardCommitState = 0x30F) && !oldFlash s) = true := by rw [decide_eq_true hst, hold]; rfl
    refine ⟨_, (if_pos hok).trans (congrArg Host.Outcome.next ((congrArg reloadGuards (drained_alone hset hc)).trans (reloadGuards_none hre'))), ?_⟩
    exact endDrain_ends s
  case moved =>
    intro s c hc hmode hlo hhi hroll
    have hexec : exec (.changeoverUnitDone true true) s = .next (unitMoved s c) := by
      show execChangeoverUnitDone true true s = _
      have hempty : unitEmpty s c.unit = true := if_pos (by omega)
      unfold execChangeoverUnitDone
      rw [hc]
      dsimp only
      rw [if_neg (by omega), if_neg (by omega), hempty, hroll]
      rfl
    exact ⟨_, hexec, unitMoved_service hlo hhi⟩

end Sys2Proof.Machine
end

section
/-! PROOF. Device time and PTM (17 R642, R646 to R648, R656; 03 R129): what an exchange, the state changes and a tick leave of the timebase. -/

namespace Sys2Proof.Machine

open Sys2Proof

/-! ### One tick (17 R642) -/

/-- A sum split at a unit: what has passed and what is left. -/
theorem split_at_unit {k x : Int} (hk : 0 < k) (hx : 0 ≤ x) : ((x / k).toNat : Int) * k + ((x % k).toNat : Int) = x := by
  rw [Int.toNat_of_nonneg (Int.ediv_nonneg hx hk.le), Int.toNat_of_nonneg (Int.emod_nonneg x hk.ne'), mul_comm]
  exact Int.mul_ediv_add_emod x k

theorem tbsAdvance_sum {c : Clock} (h : 0 ≤ 2 ^ 48 + c.rate) : ∃ w : Nat, (tbsAdvance c).dtb = w % 2 ^ 96 ∧
    (w : Int) * 2 ^ 48 + (tbsAdvance c).resid = (c.dtb : Int) * 2 ^ 48 + 10737418240 * (2 ^ 48 + c.rate) + c.resid ∧
    (tbsAdvance c).resid < 2 ^ 48 := by
  have hx : (0 : Int) ≤ (pNom : Int) * (2 ^ 48 + c.rate) + c.resid := by unfold pNom; positivity
  have hsplit := split_at_unit (k := 2 ^ 48) (by positivity) hx
  have hrest := Int.emod_lt_of_pos ((pNom : Int) * (2 ^ 48 + c.rate) + c.resid) (b := 2 ^ 48) (by positivity)
  refine ⟨c.dtb + (((pNom : Int) * (2 ^ 48 + c.rate) + c.resid) / 2 ^ 48).toNat, rfl, ?_, ?_⟩
  · have hnom : (pNom : Int) = 10737418240 := rfl
    have hresid : (tbsAdvance c).resid = (((pNom : Int) * (2 ^ 48 + c.rate) + c.resid) % 2 ^ 48).toNat := rfl
    rw [hresid, Nat.cast_add, add_mul, add_assoc, hsplit, hnom, add_assoc]
  · exact (Int.toNat_lt (Int.emod_nonneg _ (by positivity))).mpr hrest

/-- A tick that ends no tick of Sentinel Time. -/
theorem idleTick_short {s : State} (hm : s.mainUp = true) (hsub : s.clock.stSub + 1 < ticksPerSt) :
    idleTick s = s.withClock (fun c => { tbsAdvance c with stSub := c.stSub + 1 }) := by
  have hsupply : s.hostSupply = true := by
    simp only [State.mainUp, State.hostSupply, decide_eq_true_eq] at hm ⊢
    omega
  rw [idleTick, hsupply, Bool.not_true, Bool.false_and, if_neg (by decide), if_pos hm]
  exact congrArg (fun c => { s with clock := c }) (if_neg (Nat.not_le.mpr hsub))

/-! ### Exchanges (17 R646, R647) -/

theorem exec_ptmResponse_valid {s : State} {m t1 d : Nat} (ho : s.clock.ptmOut = some (t1, d)) (ht : s.now ≤ t1 + msTicks 1)
    (hv : exchangeValid s.clock t1 d m = true) : exec (.ptmResponse m) s = .next (acceptExchange s t1 d m) := by
  show execPtmResponse m s = _
  rw [execPtmResponse, ho]
  exact if_pos (by rw [decide_eq_true ht, hv]; rfl)

/-- A valid exchange of a calibrated timebase that keeps its anchor changes no state of it. -/
theorem stateAfterValid_calibrated {s : State} (h : s.clock.tstate = 0) : stateAfterValid s = s := by
  simp [stateAfterValid, h]

/-- An exchange discarded within the first hundred in a row is counted, and that is all. -/
theorem discardExchange_counted {s : State} (h : s.clock.discRun < 99) :
    discardExchange s = (s.withClock (fun c => { c with ptmOut := none, discRun := c.discRun + 1 })).bump gTimePtmDiscarded := by
  refine if_neg (fun hd => ?_)
  have hrun : 100 ≤ s.clock.discRun + 1 := hd.1
  omega

/-- Clock and the Glossary's values alone. -/
theorem clockCount_frame (s : State) (f : Clock → Clock) (e : GE) : { (s.bump e).withClock f with clock := s.clock, gls := s.gls } = s :=
  (State.withClock_writes (wm := 1073741832) (State.bump_writes (.refl _ s) rfl) rfl).merge

theorem discardCount_frame (s : State) : { (s.withClock (fun c => { c with ptmOut := none, discRun := c.discRun + 1 })).bump gTimePtmDiscarded
    with clock := s.clock, gls := s.gls } = s :=
  (State.bump_writes (wm := 1073741832) (State.withClock_writes (.refl _ s) rfl) rfl).merge

/-! ### The obligation -/

/-- Settles O12: each event is its own function of the clock, and a tick is a sum split at its unit. -/
theorem deviceTimeAndPtm : Obligations.DeviceTimeAndPtm := by
  unfold Obligations.DeviceTimeAndPtm
  refine ⟨?request, ?first, ?later, ?early, ?late, ?holdover, ?expiry, ?save, ?idle⟩
  case request =>
    intro s he hm hl ho
    refine ⟨fun hs => ⟨_, if_pos ?_, rfl⟩, fun hs => if_neg ?_⟩
    · simp [he, hm, hl, ho, hs]
    · simp [hs]
  case first =>
    intro s m t1 d ho ht hlast ha
    have hvalid : exchangeValid s.clock t1 d m = true := by rw [exchangeValid, hlast]
    exact ⟨_, (exec_ptmResponse_valid ho ht hvalid).trans (congrArg _ (acceptExchange_first ha t1 d m)), rfl, rfl, rfl, rfl, rfl, rfl,
      State.gv_bump s gTimePtmValid, clockCount_frame ..⟩
  case later =>
    intro s m t1 d ho ht hv ha hst _
    have hsteer : acceptExchange s t1 d m = steered s t1 d m :=
      (acceptExchange_later ha t1 d m).trans (stateAfterValid_calibrated hst)
    exact ⟨_, (exec_ptmResponse_valid ho ht hv).trans (congrArg _ hsteer), rfl, rfl, rfl, rfl, rfl, clockCount_frame ..⟩
  case early =>
    intro s t1 d ho ht
    show execPtmAbandon s = _
    rw [execPtmAbandon, ho]
    exact if_neg (by omega)
  case late =>
    intro s t1 d ho ht hrun
    have hexec : exec .ptmAbandon s = .next (discardExchange s) := by
      show execPtmAbandon s = _
      rw [execPtmAbandon, ho]
      exact if_pos ht
    exact ⟨_, hexec.trans (congrArg _ (discardExchange_counted hrun)), rfl, rfl, State.gv_bump .., discardCount_frame s⟩
  case holdover =>
    intro s m n hst hlast ht
    have hexec : exec .holdoverEntry s = .next (enterHoldover s) := by
      refine if_pos ?_
      rw [hst, hlast]
      simp only [decide_eq_true ht]
      rfl
    refine ⟨_, hexec, ?_⟩
    rw [enterHoldover_clock]
    exact ⟨rfl, rfl, rfl, (enterHoldover_writes (wm := 32808) (.refl _ s) rfl).merge⟩
  case expiry =>
    intro s hst ht
    have hexec : exec .holdoverExpiry s = .next (setTState s 2) := by
      refine if_pos ?_
      rw [hst, decide_eq_true ht]
      rfl
    refine ⟨_, hexec, ?_⟩
    rw [setTState_clock]
    exact ⟨rfl, rfl, (setTState_writes (wm := 32808) (.refl _ s) rfl).merge⟩
  case save =>
    intro s hs
    exact ⟨_, if_pos hs, rfl, rfl⟩
  case idle =>
    intro s hp hm hsub hrate _
    have hstep : step s = .next (s.withClock (fun c => { tbsAdvance c with stSub := c.stSub + 1 })) := by
      rw [step, hp]
      exact congrArg _ (idleTick_short hm hsub)
    obtain ⟨w, hdtb, hsum, hresid⟩ := tbsAdvance_sum hrate
    exact ⟨_, hstep, rfl, rfl, w, hdtb, hsum, hresid, rfl⟩

end Sys2Proof.Machine
end

section
/-! PROOF. The event recorder, SRAM repairs and the end of a lifecycle change (17 R638, R639; 19 R701, R711; 21 R753 to R758). -/

namespace Sys2Proof.Machine

open Sys2Proof

/-! ### What storing records leaves of the arbiter (17 R639, 21 R742) -/

/-- The stamps and every port but the recorder's own are as before. -/
structure SameStamps (s t : State) : Prop where
  aseq : t.evr.aseq = s.evr.aseq
  granted : t.evr.granted = s.evr.granted
  ports : ∀ k, k ≠ 230 → t.evr.ports.get [] k = s.evr.ports.get [] k

section
variable {s t u : State}

theorem SameStamps.refl (s : State) : SameStamps s s := ⟨rfl, rfl, fun _ _ => rfl⟩

theorem SameStamps.trans (h : SameStamps s t) (k : SameStamps t u) : SameStamps s u :=
  ⟨k.aseq.trans h.aseq, k.granted.trans h.granted, fun i hi => (k.ports i hi).trans (h.ports i hi)⟩

end

theorem State.port_present_other (s : State) (x : Tok) {k isl : Nat} (h : k ≠ isl) :
    (s.present isl x).evr.ports.get [] k = s.evr.ports.get [] k := Tab.get_upd_other [] s.evr.ports (fun l => l ++ [x]) h

theorem State.port_present (s : State) (x : Tok) (isl : Nat) :
    (s.present isl x).evr.ports.get [] isl = s.evr.ports.get [] isl ++ [x] := Tab.get_upd_self [] s.evr.ports isl (fun l => l ++ [x])

theorem event_sameStamps (s : State) (code len : Nat) (pay : Bytes) : SameStamps s (s.event 230 code len pay) :=
  ⟨rfl, rfl, fun _ hk => State.port_present_other s _ hk⟩

theorem storeRec_sameStamps (s : State) (r : EvRec) : SameStamps s (storeRec s r) := by
  unfold storeRec
  extract_lets e f early res place r' s1
  have h1 : SameStamps s s1 := ⟨rfl, rfl, fun _ _ => rfl⟩
  split
  · have h2 : SameStamps s1 { s1 with evr := { s1.evr with fullNoted := true } } := ⟨rfl, rfl, fun _ _ => rfl⟩
    exact (h1.trans h2).trans (event_sameStamps _ _ _ _)
  · exact h1

theorem limitRec_sameStamps (s : State) (r : EvRec) : SameStamps s (limitRec s r) := by
  unfold limitRec
  extract_lets g cl b
  split_ifs
  · refine SameStamps.trans ?_ (storeRec_sameStamps _ r)
    exact ⟨rfl, rfl, fun _ _ => rfl⟩
  · refine SameStamps.trans ?_ (storeRec_sameStamps _ r)
    exact ⟨rfl, rfl, fun _ _ => rfl⟩
  · exact ⟨rfl, rfl, fun _ _ => rfl⟩

theorem drainItems_sameStamps : ∀ (l : List EvItem) (s : State), SameStamps s (drainItems l s)
  | [], _ => ⟨rfl, rfl, fun _ _ => rfl⟩
  | .formed r :: l, s => by
    rw [drainItems]
    split
    · exact (limitRec_sameStamps s r).trans (drainItems_sameStamps l _)
    · exact ⟨rfl, rfl, fun _ _ => rfl⟩
  | .window _ :: _, _ => ⟨rfl, rfl, fun _ _ => rfl⟩

theorem takeTok_sameStamps (s : State) (isl : Nat) (x : Tok) : SameStamps s (takeTok s isl x) := by
  cases x with
  | mark _ _ => exact .refl s
  | evt c pay =>
    refine SameStamps.trans ?_ (drainItems_sameStamps _ _)
    exact ⟨rfl, rfl, fun _ _ => rfl⟩
  | coal c subj det who =>
    unfold takeTok
    dsimp only
    split <;> exact ⟨rfl, rfl, fun _ _ => rfl⟩

/-- A corrected fault that is signalled presents a record at the link's port alone. -/
theorem signalCie_frame (s : State) (x : Tok) : (signalCie s x).evr.aseq = s.evr.aseq ∧ (signalCie s x).evr.granted = s.evr.granted ∧
    (signalCie s x).evr.held = s.evr.held ∧ (signalCie s x).evr.queue = s.evr.queue ∧ (signalCie s x).gls = s.gls ∧
    ∀ k, k ≠ 140 → (signalCie s x).evr.ports.get [] k = s.evr.ports.get [] k := by
  unfold signalCie
  extract_lets c s1
  split
  · exact ⟨rfl, rfl, rfl, rfl, rfl, fun k hk => State.port_present_other s1 _ hk⟩
  · exact ⟨rfl, rfl, rfl, rfl, rfl, fun _ _ => rfl⟩

/-! ### Stamping (17 R638, R639) -/

/-- The token at the head of the next port is stamped. -/
def stamped (s : State) (k : Nat) (l : List Tok) : State :=
  s.withEvr (fun e => { e with ports := e.ports.set k l, granted := k, aseq := (e.aseq + 1) % 2 ^ 64 })

theorem exec_eventStamp {s : State} {k : Nat} {x : Tok} {l : List Tok} (hsup : s.hostSupply = true) (hq : s.evr.queue.length < 4096)
    (hport : nextPort s.evr.ports s.evr.granted = some k) (hhead : s.evr.ports.get [] k = x :: l) :
    exec .eventStamp s = .next (signalCie (takeTok (stamped s k l) k x) x) := by
  have hwait : ¬ (!s.hostSupply || decide (4096 ≤ s.evr.queue.length)) = true := by simp [hsup, hq]
  refine (if_neg hwait).trans ?_
  rw [hport]
  dsimp only
  rw [hhead]
  rfl

/-- A report of an open window joins it. -/
theorem takeTok_joins {s : State} {isl code subj det who : Nat} {h : List EvItem} (hf : foldReport code subj who s.evr.held = some h) :
    takeTok s isl (.coal code subj det who) = (s.withEvr (fun e => { e with held := h })).bump gEvrCoalescedTotal := by
  unfold takeTok
  simp only [hf]

/-! ### Repairs (19 R701) -/

theorem mapSpare_maps {s : State} {x : Spare} (h : 0 < sparesOf s x.mac x.column) :
    mapSpare s x = ((s.withLife (fun l => { l with spares := l.spares ++ [x] })).bump gRepairSramUsed).event 197 0x0603 1 (toLE 2 x.mac ++
      toLE 1 (Config.code 11 (b2n x.column)) ++ toLE 1 (sparesOf ((s.withLife (fun l => { l with spares := l.spares ++ [x] })).bump
        gRepairSramUsed) x.mac x.column)) := if_neg (by omega)

/-- A spare mapped: the map, its count, and no other entry. -/
theorem mapSpare_left {s : State} {x : Spare} (h : 0 < sparesOf s x.mac x.column) : (mapSpare s x).life.spares = s.life.spares ++ [x] ∧
    (mapSpare s x).jobs = s.jobs ∧ (mapSpare s x).gv gRepairSramUsed = (s.gv gRepairSramUsed + 1) % 2 ^ 64 ∧
    ∀ e : GE, gRepairSramUsed.key ≠ e.key → (mapSpare s x).gv e = s.gv e := by
  have hevent (t : State) (b : Bytes) (e : GE) : (t.event 197 0x0603 1 b).gv e = t.gv e := rfl
  rw [mapSpare_maps h]
  refine ⟨rfl, rfl, ?_, fun e he => ?_⟩
  · rw [hevent, State.gv_bump]
    rfl
  · rw [hevent, State.gv_bump_other he]
    rfl

/-! ### The end of a lifecycle change (19 R711) -/

section
variable {s : State} {e : GE}

/-- An entry that no vault read writes. -/
def NoVaultEntry (e : GE) : Prop := ∀ k ∈ [gFlashVaultReadFail.key, gFlashVaultRelocated.key], k ≠ e.key

theorem collect_gv (h : NoVaultEntry e) (n : Nat) : (collect s n).gv e = s.gv e := by
  have happend (u : State) (src : VSrc) (data : Bytes) (k : Nat) :
      ((vAppend u true src data).bumpBys gFlashVaultRelocated 0 k).gv e = u.gv e := by
    refine (State.gvs_gsets_other _ ?_).trans ((vAppend_writes (wm := besideGls) (.refl _ u) rfl).gv rfl e)
    have := h gFlashVaultRelocated.key (by decide)
    omega
  unfold collect
  extract_lets rs s1
  split
  · rfl
  · exact foldl_gv (fun u r => happend u _ _ _) rs s

/-- A vault read that decodes writes the relocation count alone of the Glossary. -/
theorem readOk_vault_gv (h : NoVaultEntry e) (q : Nat) (d : FDesc) (retry : Nat) (data : Bytes) :
    (readOk s (.vault q) d retry data).gv e = s.gv e := by
  have hentry : (flashEntry { s with mem := Mem.write 0 s.mem d.buf data } (.vault q) 0 d.tag 0 d.len retry 0 0).gv e = s.gv e :=
    (flashEntry_writes (wm := besideGls) (.refl _ _) rfl).gv rfl e
  unfold readOk
  dsimp only
  split
  · exact (collect_gv h _).trans hentry
  · exact hentry

theorem startVaultRead_gv (h : NoVaultEntry e) (w : FWait) : (startVaultRead s w).gv e = s.gv e := by
  unfold startVaultRead
  split
  · exact (State.gv_bump_other (h gFlashVaultReadFail.key (by decide))).trans ((flashDone_writes (wm := besideGls) (.refl _ s) rfl).gv rfl e)
  · exact readOk_vault_gv h _ _ _ _

theorem acceptVaultRead_gv (h : NoVaultEntry e) (w : FWait) : (acceptVaultRead s w).gv e = s.gv e := by
  unfold acceptVaultRead
  extract_lets l
  split
  · rfl
  · exact startVaultRead_gv h w

theorem serveVaultReads_gv (h : NoVaultEntry e) : (serveVaultReads s).gv e = s.gv e :=
  (foldl_gv (fun _ w => acceptVaultRead_gv h w) _ _).trans rfl

end

/-- A lifecycle change whose erases are over: the state code, the marks and the step. -/
def lifeEnded (s : State) (c : LifeChange) : State :=
  ((((serveVaultReads (eraseBlocks s)).gset gLifeState c.target).gset gBootRootDue (b2n (c.target != 0xC3C))).bump gLifeSeq).gset gLifeChangeStep 0

theorem lifeEnded_gv (s : State) (c : LifeChange) : (lifeEnded s c).gv gLifeState = c.target ∧
    (lifeEnded s c).gv gLifeSeq = (s.gv gLifeSeq + 1) % 2 ^ 64 ∧ (lifeEnded s c).gv gLifeChangeStep = 0 := by
  have hseq : (serveVaultReads (eraseBlocks s)).gv gLifeSeq = s.gv gLifeSeq :=
    (serveVaultReads_gv (by unfold NoVaultEntry; decide)).trans ((eraseBlocks_writes (wm := besideGls) (.refl _ s) rfl).gv rfl _)
  refine ⟨?_, ?_, State.gv_gset _ _ _⟩
  · refine (State.gv_gset_other (by decide) _).trans ((State.gv_bump_other (by decide)).trans ?_)
    exact (State.gv_gset_other (by decide) _).trans (State.gv_gset _ _ _)
  · refine (State.gv_gset_other (by decide) _).trans ((State.gv_bump _ _).trans ?_)
    rw [State.gv_gset_other (by decide), State.gv_gset_other (by decide), hseq]

/-- The end of a lifecycle change in LOCKDOWN: ASSAY is forced. -/
theorem exec_lifecycleEraseComplete {s : State} {c : LifeChange} (hc : s.life.change = some c) (hm : s.modeNum = 6)
    (hstep : s.gv gLifeChangeStep = 4) : exec .lifecycleEraseComplete s = .next (enterMode (abortTrans
      (((lifeEnded s c).withLife (fun l => { l with change := none, keysDue := true })).withMode
        (fun m => { m with assayRun := false, serviceAt := none }))) 2 true 12) := by
  show execLifecycleEraseComplete s = _
  unfold execLifecycleEraseComplete
  rw [hc]
  dsimp only
  rw [if_neg (by omega), if_neg (by omega)]
  rfl

/-! ### The obligation -/

/-- Settles O32: a stamp is one token's, a window closes into the records that drain, a repair maps one spare, and a change's end sets its
marks before ASSAY is forced. -/
theorem eventsRepairsAndLifecycle : Obligations.EventsRepairsAndLifecycle := by
  unfold Obligations.EventsRepairsAndLifecycle
  refine ⟨?stamp, ?coalesced, ?close, ?suppressed, ?repaired, ?life⟩
  case stamp =>
    intro s k x l hsup hq hport hhead
    have htake := takeTok_sameStamps (stamped s k l) k x
    obtain ⟨haseq, hgranted, -, -, -, hports⟩ := signalCie_frame (takeTok (stamped s k l) k x) x
    refine ⟨_, exec_eventStamp hsup hq hport hhead, hgranted.trans htake.granted, haseq.trans htake.aseq, fun h230 h140 => ?_⟩
    exact (hports k h140).trans ((htake.ports k h230).trans (Tab.get_set_self _ _ _ _))
  case coalesced =>
    intro s k code subj det who l h hsup hq hport hhead hf
    have htake : takeTok (stamped s k l) k (.coal code subj det who) = _ := takeTok_joins hf
    obtain ⟨-, -, hheld, hqueue, hgls, -⟩ := signalCie_frame (takeTok (stamped s k l) k (.coal code subj det who)) (.coal code subj det who)
    rw [htake] at hheld hqueue hgls
    refine ⟨_, exec_eventStamp hsup hq hport hhead, ?_⟩
    rw [htake]
    refine ⟨hheld, hqueue, ?_⟩
    rw [State.gv, State.gvs, hgls]
    exact State.gv_bump _ _
  case close =>
    intro s w hheld ht
    have hclose : closeOldest s.now s.evr.held = some [.formed (coalRec w)] := by
      rw [hheld, closeOldest, if_pos ht]
    have hexec : exec .coalesceWindowClose s = .next (drainItems [.formed (coalRec w)] (s.withEvr (fun e => { e with
        held := [.formed (coalRec w)], aseq := (e.aseq + 1) % 2 ^ 64 }))) := by
      show execCoalesceWindowClose s = _
      rw [execCoalesceWindowClose, hclose]
      rfl
    refine ⟨_, hexec, (drainItems_sameStamps _ _).aseq, fun hleave => ?_⟩
    have hleave' : mayLeave (s.withEvr (fun e => { e with held := [.formed (coalRec w)], aseq := (e.aseq + 1) % 2 ^ 64 })) (coalRec w) = true := hleave
    rw [drainItems, if_pos hleave']
    rfl
  case suppressed =>
    intro s c hcount ht x
    have hdue : (decide (0 < (s.evr.supp.get {} c).count) && (decide (token ≤ (bucketNow s.evr s.now c).level) ||
        decide ((s.evr.supp.get {} c).since + secTicks 1 ≤ s.now))) = true := by
      rw [decide_eq_true hcount, decide_eq_true ht, Bool.or_true, Bool.and_true]
    refine ⟨_, if_pos hdue, congrArg Supp.count (Tab.get_set_self _ _ _ _), State.port_present ..⟩
  case repaired =>
    intro s x u hsup hspare
    have hleft : (sparesOf s x.mac x.column != 0) = true := by rw [bne_iff_ne]; omega
    have hexec : exec (.sramRepaired x true u) s = .next (((mapSpare s x).bump gRepairRuntime).bump gRepairEccCorrected) := by
      refine (if_neg (by rw [hsup]; decide)).trans (congrArg Host.Outcome.next ?_)
      rw [hleft]
      rfl
    refine ⟨_, hexec, ?_⟩
    obtain ⟨hspares, hjobs, hused, hother⟩ := mapSpare_left hspare
    refine ⟨hspares, ?_, ?_, ?_, hjobs⟩
    · rw [State.gv_bump_other (by decide), State.gv_bump_other (by decide), hused]
    · rw [State.gv_bump_other (by decide), State.gv_bump, hother _ (by decide)]
    · rw [State.gv_bump, State.gv_bump_other (by decide), hother _ (by decide)]
  case life =>
    intro s c hc hm
    refine ⟨fun hstep => ?_, fun hstep => ⟨_, exec_lifecycleEraseComplete hc hm hstep, ?_⟩⟩
    · show execLifecycleEraseComplete s = _
      unfold execLifecycleEraseComplete
      rw [hc]
      exact if_pos (.inl hstep)
    · obtain ⟨hstate, hseq, hzero⟩ := lifeEnded_gv s c
      have hlife (t : State) : (enterMode t 2 true 12).life = t.life := (enterMode_tells t 2 true 12).life rfl
      have hkeep (t : State) (f : Life → Life) (g : ModeSt → ModeSt) (e : GE) : (abortTrans ((t.withLife f).withMode g)).gv e = t.gv e := rfl
      rw [hlife, enterMode_gv (e := gLifeState) _ _ _ _ (by decide), enterMode_gv (e := gLifeSeq) _ _ _ _ (by decide),
        enterMode_gv (e := gLifeChangeStep) _ _ _ _ (by decide), hkeep, hkeep, hkeep]
      exact ⟨hstate, hseq, hzero, rfl, rfl, enterMode_modeNum _ _ _ (by decide)⟩

end Sys2Proof.Machine
end

section
/-! PROOF. The mode controller and the tests of squads (18 R664 to R675; 19 R698, R707; 06 R257; 05 R237): a transition's end seen in the
mode's own registers, what a refusal, a delay and the operator's choice leave, the self-test's end, the patrol and the arithmetic
self-test. -/

namespace Sys2Proof.Machine

open Sys2Proof

/-! ### What the restriction of LEAN leaves of the mode (18 R676, R679) -/

/-- The mode stands, and so does the request that waits. -/
def SameMode (s t : State) : Prop := t.mode.code = s.mode.code ∧ t.mode.waiting = s.mode.waiting

theorem limit60_mode (s : State) (on : Bool) : (limit60 s on).mode = s.mode :=
  (limit60_writes (wm := 1107296278) (.refl _ s) rfl).mode rfl

theorem strikeLean_sameMode (s : State) : SameMode s (strikeLean s) := by
  unfold strikeLean
  extract_lets sq en s1
  have h1 : Writes 2185249968 s s1 :=
    .foldl (.foldl (.refl _ s) fun _ h _ => strikeSquad_writes h rfl) fun _ h _ => strikeEngine_writes h rfl
  show s1.mode.code = s.mode.code ∧ s1.mode.waiting = s.mode.waiting
  rw [h1.mode rfl]
  exact ⟨rfl, rfl⟩

theorem hoistLean_sameMode (s : State) : SameMode s (hoistLean s) := by
  unfold hoistLean
  extract_lets s1 s3
  have h1 : Writes 33570864 s s1 := .foldl (.refl _ s) fun t h q => State.withVerb_writes (State.withSquad_writes
    (.foldl (hoistIsl_writes h rfl) fun _ h _ => State.present_writes h rfl) rfl) rfl
  have h3 : Writes 33570864 s s3 := .foldl h1 fun t h e => State.present_writes (hoistIsl_writes h rfl) rfl
  show s3.mode.code = s.mode.code ∧ s3.mode.waiting = s.mode.waiting
  rw [h3.mode rfl]
  exact ⟨rfl, rfl⟩

theorem leanOn_sameMode (s : State) (cause : Nat) : SameMode s (leanOn s cause) := by
  rw [SameMode, leanOn, limit60_mode, State.gset_mode]
  exact strikeLean_sameMode s

theorem leanOff_sameMode (s : State) : SameMode s (leanOff s) := by
  rw [SameMode, leanOff, limit60_mode, State.gset_mode]
  exact hoistLean_sameMode s

/-! ### The end of a requested transition (18 R664 to R672) -/

/-- A request that does not wait is not carried out. -/
theorem takeWaiting_none {s : State} (h : s.mode.waiting = none) : takeWaiting s = s := by
  unfold takeWaiting
  rw [h]

/-- The target is the mode, the transition is over, the mode left is noted, and what waits still waits. -/
def TransEnded (s t : State) (target : Nat) : Prop :=
  t.modeNum = target ∧ t.mode.trans = none ∧ t.mode.previous = s.modeNum ∧ t.mode.waiting = s.mode.waiting

theorem enterMode_transEnded {s u : State} (h : SameMode s u) {m : Nat} (hm : m < 8) (forced : Bool) (cause : Nat) :
    TransEnded s (enterMode u m forced cause) m := by
  refine ⟨enterMode_modeNum _ _ _ hm, ?_, ?_, ?_⟩ <;> rw [enterMode_mode]
  · exact State.modeNum_congr h.1
  · exact h.2

theorem completeTrans_transEnded (s : State) (t : Transition) (ht : t.target < 8) : TransEnded s (completeTrans s t) t.target := by
  unfold completeTrans
  split
  next h4 =>
    rw [h4]
    exact enterMode_transEnded (leanOn_sameMode s _) (by decide) _ _
  next =>
    split
    next h3 =>
      rw [h3]
      exact enterMode_transEnded (leanOff_sameMode s) (by decide) _ _
    next => exact enterMode_transEnded ⟨rfl, rfl⟩ ht _ _

/-- SERVICE is left for the mode it returns to; nothing waits (18 R675). -/
theorem leaveService_leaves {s : State} (h : s.mode.waiting = none) :
    (leaveService s).modeNum = modeBack s s.mode.serviceLeft ∧ (leaveService s).mode.serviceAt = none := by
  have hback : modeBack s s.mode.serviceLeft < 8 := by
    unfold modeBack
    split_ifs <;> decide
  unfold leaveService
  extract_lets s1
  have hm := enterMode_mode s1 (modeBack s s.mode.serviceLeft) false 2
  rw [takeWaiting_none (by rw [hm]; exact h)]
  exact ⟨enterMode_modeNum _ _ _ hback, congrArg ModeSt.serviceAt hm⟩

/-! ### A refusal (18 R667, R668) -/

/-- A REFUSE for another reason than FAULT is counted, recorded, and ends the transition. -/
theorem refuse_aborts {s : State} {t : Transition} {n reason : Nat} (hr : reason ≠ 1) (hw : s.mode.waiting = none) :
    refuse s t n reason =
      abortTrans ((countRefuse s n reason).event 229 0x0702 1 (toLE 1 t.target ++ toLE 1 n ++ toLE 1 reason)) := by
  unfold refuse
  rw [if_neg hr]
  refine takeWaiting_none ?_
  show (State.event (countRefuse s n reason) 229 0x0702 1 _).mode.waiting = none
  rw [State.event_mode]
  exact hw

theorem refuse_modeNum {s : State} {t : Transition} {n reason : Nat} (hr : reason ≠ 1) (hw : s.mode.waiting = none) :
    (refuse s t n reason).modeNum = s.modeNum := by
  rw [refuse_aborts hr hw]
  refine State.modeNum_congr ?_
  show (State.event (countRefuse s n reason) 229 0x0702 1 _).mode.code = s.mode.code
  rw [State.event_mode]
  rfl

theorem refuse_gvs {s : State} {t : Transition} {n reason : Nat} (hr : reason ≠ 1) (hw : s.mode.waiting = none) (e : GE) (sel : Nat) :
    (refuse s t n reason).gvs e sel = (countRefuse s n reason).gvs e sel := by
  rw [refuse_aborts hr hw]
  rfl

theorem refuse_counts {s : State} {t : Transition} {n reason : Nat} (hr : reason ≠ 1) (hw : s.mode.waiting = none) (hn : n < 65536) :
    (refuse s t n reason).gvs gPowerIslandRefusals n = (s.gvs gPowerIslandRefusals n + 1) % 2 ^ 64 ∧
      (refuse s t n reason).gvs gPowerIslandReason n = reason ∧ (refuse s t n reason).gv gModeRefusedLast = 256 * reason + n := by
  have hkeys : gPowerIslandRefusals.key ≠ gPowerIslandReason.key ∧ gPowerIslandRefusals.key ≠ gModeRefusedLast.key ∧
      gPowerIslandReason.key ≠ gModeRefusedLast.key := by decide
  obtain ⟨h12, h13, h23⟩ := hkeys
  rw [State.gv]
  simp only [refuse_gvs hr hw]
  unfold countRefuse
  refine ⟨?_, ?_, State.gvs_gsets _ _ _ _⟩
  · rw [State.gset, State.gvs_gsets_other _ (by omega), State.gvs_gsets_other _ (by omega), State.bumps, State.bumpBys, State.gvs_gsets]
  · rw [State.gset, State.gvs_gsets_other _ (by omega), State.gvs_gsets]

theorem refuse_frame {s : State} {t : Transition} {n reason : Nat} (hr : reason ≠ 1) (hw : s.mode.waiting = none) :
    { refuse s t n reason with mode := s.mode, gls := s.gls, evr := s.evr } = s := by
  rw [refuse_aborts hr hw]
  have h : Writes 1073741920 s
      (abortTrans ((countRefuse s n reason).event 229 0x0702 1 (toLE 1 t.target ++ toLE 1 n ++ toLE 1 reason))) :=
    State.withMode_writes (State.event_writes (countRefuse_writes (.refl _ s) rfl) rfl) rfl
  exact h.merge

/-! ### The self-test ends (19 Table 2, R706 to R708) -/

/-- With a Key Root that stands and none due, step 10 makes the minute keys alone. -/
theorem stepTen_held {s : State} (hroot : s.tamper.rootHeld = true) (hcheck : s.tamper.rootCheck = checkOf s.tamper.root)
    (hdue : s.gv gBootRootDue = 0) : stepTen s = makeMinuteKeys s := by
  have hmake : makeRoot s = s := by
    unfold makeRoot
    rw [if_neg (by simp [hdue])]
  unfold stepTen
  rw [hroot, hcheck, bne_self_eq_false, Bool.and_false, if_neg Bool.false_ne_true]
  exact congrArg makeMinuteKeys hmake

theorem makeMinuteKeys_life (s : State) : Writes 268435456 s (makeMinuteKeys s) := makeMinuteKeys_writes (.refl _ s) rfl

/-- With both supplies in range the self-test is left straight for the mode, and charges are accepted. -/
theorem leaveAssay_serves {s : State} (haux : auxAbsent s = false) :
    (leaveAssay s 3).modeNum = 3 ∧ (leaveAssay s 3).mode.previous = s.modeNum ∧ (leaveAssay s 3).meter.accepting = true ∧
      (leaveAssay s 3).tamper = s.tamper := by
  unfold leaveAssay
  extract_lets cause s1 s2 s3 s4 s5
  have hcause : cause = 0 := by simp [cause, haux]
  have hs1 : s1 = enterMode s 3 false 10 := by
    simp only [s1]
    rw [if_pos hcause]
  have hm : Writes 2097442 s1 s3 := by
    have h2 : Writes 2097442 s1 s2 := State.event_writes (.refl _ s1) rfl
    simp only [s3]
    split
    · exact newSalt_writes h2 rfl
    · exact h2
  have hopen : Writes 2130210 s1 s5 ∧ s5.meter.accepting = true := by
    have h4 : Writes 2130210 s1 s4 := State.withMeter_writes (hm.mono rfl) rfl
    simp only [s5]
    split
    · exact ⟨openMinute_writes h4 rfl, rfl⟩
    · exact ⟨h4, rfl⟩
  have hend : Writes 524800 s5 (releaseHeld (reopenMailbox s5)) := releaseHeld_writes (reopenMailbox_writes (.refl _ s5) rfl) rfl
  have hmode : (releaseHeld (reopenMailbox s5)).mode = s1.mode := (hend.mode rfl).trans (hopen.1.mode rfl)
  refine ⟨(State.modeNum_congr (congrArg ModeSt.code hmode)).trans ?_, (congrArg ModeSt.previous hmode).trans ?_,
    (congrArg Meter.accepting (hend.meter rfl)).trans hopen.2, (hend.tamper rfl).trans ((hopen.1.tamper rfl).trans ?_)⟩
  · rw [hs1]
    exact enterMode_modeNum _ _ _ (by decide)
  · rw [hs1, enterMode_mode]
  · rw [hs1]
    exact (enterMode_tells _ _ _ _).tamper rfl

theorem exec_assayDone_serves {s : State} (hmode : s.modeNum = 2) (hrun : s.mode.assayRun = true) (hperst : s.power.perst = false)
    (hleft : commitsLeft s = false) (hserve : unitsServe s = true) (hroot : s.tamper.rootHeld = true)
    (hcheck : s.tamper.rootCheck = checkOf s.tamper.root) (hdue : s.gv gBootRootDue = 0) (haux : auxAbsent s = false)
    (htarget : s.gv gModeTarget = 3) : exec .assayDone s = .next (leaveAssay (makeMinuteKeys s) 3) := by
  have hkeys := makeMinuteKeys_life s
  have haux' : auxAbsent (makeMinuteKeys s) = false := by
    rw [auxAbsent, hkeys.power rfl]
    exact haux
  have htarget' : (makeMinuteKeys s).gv gModeTarget = 3 := by
    rw [State.gv, State.gvs, hkeys.gls rfl]
    exact htarget
  have hheld : (makeMinuteKeys s).tamper.rootHeld = true := (congrArg Tamper.rootHeld (hkeys.tamper rfl)).trans hroot
  show execAssayDone s = _
  unfold execAssayDone
  simp only [stepTen_held hroot hcheck hdue, hmode, hrun, hperst, hleft, hserve, haux', htarget', hheld]
  rfl

/-! ### Squads (05 R237, 06 R257 to R260) -/

/-- A squad lost reads so, and holds nothing. -/
theorem loseSquad_squad {s : State} {q cause : Nat} (h : (s.squad q).mode ≠ 2) :
    ((loseSquad s q cause).squad q).mode = 2 ∧ ((loseSquad s q cause).squad q).slots = [] := by
  unfold loseSquad
  rw [if_neg h]
  extract_lets s1 s2 s3
  have h3 : Writes 48 s2 s3 := .foldl (.refl _ s2) fun _ h _ => State.present_writes (State.setIsl_writes h rfl) rfl
  have hlanes (u : State) (a b c : Nat) (l : Bytes) : (u.event a b c l).squad q = u.squad q := by rw [State.squad, State.event_lanes]; rfl
  have hsq : s3.squad q = s2.squad q := by rw [State.squad, h3.lanes rfl]; rfl
  rw [hlanes, hsq]
  simp only [s2]
  rw [State.squad_withSquad]
  exact ⟨rfl, rfl⟩

/-- A squad at its patrol: the instant is noted, and a squad that was withdrawn returns. -/
def patrolled (s : State) (q : Nat) : State :=
  s.withSquad q (fun x => { x with
    patrolAt := s.now, patrolDue := false, period := s.gv gLanePatrolPeriod, busyAt := if x.slots.isEmpty then none else some s.now
    withdrawn := false, mode := if x.withdrawn && x.mode == 3 then 0 else x.mode })

theorem patrolled_mode {s : State} {q : Nat} (h : (s.squad q).mode = 0) : ((patrolled s q).squad q).mode = 0 := by
  rw [patrolled, State.squad_withSquad]
  simp [h]

/-- The patrol of a squad that serves is run when it is due. -/
theorem exec_patrolTest {s : State} {q : Nat} (hq : q < 32) (hserve : s.serving = true) (hmode : (s.squad q).mode = 0)
    (hdue : patrolIsDue s q = true) (l : List Nat) (ok : Bool) :
    exec (.patrolTest q l ok) s =
      .next (if !ok then loseSquad (patrolled s q) q 1 else swapLanes (patrolled s q) q l) := by
  show execPatrolTest q l ok s = _
  unfold execPatrolTest
  simp only [hq, hserve, hmode, hdue]
  cases ok <;> rfl

theorem patrol_passes {s : State} {q : Nat} (hq : q < 32) (hserve : s.serving = true) (hmode : (s.squad q).mode = 0)
    (hdue : patrolIsDue s q = true) :
    ∃ t, exec (.patrolTest q [] true) s = .next t ∧ (t.squad q).patrolAt = s.now ∧ (t.squad q).patrolDue = false ∧ (t.squad q).mode = 0 ∧
      (∀ k, k ≠ q → t.squad k = s.squad k) ∧ { t with lanes := s.lanes } = s := by
  refine ⟨_, exec_patrolTest hq hserve hmode hdue [] true, ?_, ?_, patrolled_mode hmode, fun k hk => ?_, ?_⟩
  · show ((patrolled s q).squad q).patrolAt = _
    rw [patrolled, State.squad_withSquad]
  · show ((patrolled s q).squad q).patrolDue = _
    rw [patrolled, State.squad_withSquad]
  · exact State.squad_withSquad_other s _ hk
  · exact (State.withSquad_writes (wm := 16384) (.refl _ s) rfl).merge

theorem patrol_keccakFails {s : State} {q : Nat} (hq : q < 32) (hserve : s.serving = true) (hmode : (s.squad q).mode = 0)
    (hdue : patrolIsDue s q = true) (l : List Nat) :
    ∃ t, exec (.patrolTest q l false) s = .next t ∧ (t.squad q).mode = 2 ∧ (t.squad q).slots = [] :=
  ⟨_, exec_patrolTest hq hserve hmode hdue l false, loseSquad_squad (by rw [patrolled_mode hmode]; decide)⟩

theorem selftest_starts {s : State} {q : Nat} (hserve : s.serving = true) (hfree : selftestFree s q = true) :
    ∃ t, exec (.rnsSelftestRun q) s = .next t ∧ t.lanes.selfTest = some q ∧ (t.squad q).mode = 3 ∧ t.gv gRnsSelftestResult = 3 ∧
      { t with lanes := s.lanes, gls := s.gls } = s := by
  refine ⟨startSelftest s q, ?_, rfl, ?_, State.gv_gset _ _ _, (startSelftest_writes (wm := 1073758208) (.refl _ s) rfl).merge⟩
  · show execRnsSelftestRun q s = _
    unfold execRnsSelftestRun
    rw [hserve, hfree]
    rfl
  · show ((s.withSquad q (fun x => { x with mode := 3 })).squad q).mode = 3
    rw [State.squad_withSquad]

/-- The self-test of a squad that has drained ends with its result; a squad that failed waits for its patrol. -/
theorem selftest_ends {s : State} {q : Nat} (htest : s.lanes.selfTest = some q) (hmode : (s.squad q).mode = 3)
    (hslots : (s.squad q).slots = []) (hgang : (s.squad q).gang = none) :
    (∃ t, exec (.selfTestDone true) s = .next t ∧ t.lanes.selfTest = none ∧ (t.squad q).mode = 0 ∧ t.gv gRnsSelftestResult = 1 ∧
      { t with lanes := s.lanes, gls := s.gls } = s) ∧
    ∃ t, exec (.selfTestDone false) s = .next t ∧ t.lanes.selfTest = none ∧ (t.squad q).mode = 3 ∧ (t.squad q).withdrawn = true ∧
      (t.squad q).patrolDue = true ∧ t.gv gRnsSelftestResult = 2 ∧ { t with lanes := s.lanes, gls := s.gls, evr := s.evr } = s := by
  have hself (ok : Bool) : exec (.selfTestDone ok) s = execSelfTestDone ok s := rfl
  constructor
  · let t := ((s.withLanes (fun l => { l with selfTest := none })).withSquad q (fun x => { x with mode := 0 })).gset gRnsSelftestResult 1
    have hw : Writes 1073758208 s t := State.gset_writes (State.withSquad_writes (State.withLanes_writes (.refl _ s) rfl) rfl) rfl
    refine ⟨t, ?_, rfl, ?_, State.gv_gset _ _ _, hw.merge⟩
    · rw [hself, execSelfTestDone]
      simp only [htest, hmode, hslots, hgang]
      rfl
    · show ((State.withSquad _ q _).squad q).mode = 0
      rw [State.squad_withSquad]
  · let u := (s.withLanes (fun l => { l with selfTest := none })).withSquad q (fun x =>
      { x with mode := 3, withdrawn := true, patrolDue := true })
    let t := (u.gset gRnsSelftestResult 2).event (sqIsl q) 0x0308 1 (toLE 1 q ++ toLE 1 (Config.code 7 0))
    have hw : Writes 1073758240 s t :=
      State.event_writes (State.gset_writes (State.withSquad_writes (State.withLanes_writes (.refl _ s) rfl) rfl) rfl) rfl
    have ht : Writes 32 (u.gset gRnsSelftestResult 2) t := State.event_writes (.refl _ _) rfl
    have hsq : t.squad q = u.squad q := by
      rw [State.squad, ht.lanes rfl]
      rfl
    have hval : t.gv gRnsSelftestResult = 2 := by
      rw [State.gv, State.gvs, ht.gls rfl]
      exact State.gv_gset u _ _
    refine ⟨t, ?_, (congrArg Lanes.selfTest (ht.lanes rfl)).trans rfl, ?_, ?_, ?_, hval, hw.merge⟩
    · rw [hself, execSelfTestDone]
      simp only [htest, hmode, hslots, hgang]
      rfl
    all_goals
      rw [hsq, State.squad_withSquad]

/-! ### The agents' answers (18 R664 to R668) -/

section answers

variable {s : State} {tr : Transition} {k : Nat} (htr : s.mode.trans = some tr)

include htr

theorem accept_waits (hk : k ∈ tr.waiting) (hrest : tr.waiting.filter (fun n => n != k) ≠ []) :
    ∃ t, exec (.agentAnswer k .accept) s = .next t ∧
      t.mode.trans = some { tr with waiting := tr.waiting.filter (fun n => n != k) } ∧ { t with mode := s.mode } = s := by
  refine ⟨_, ?_, ?_, (State.withMode_writes (f := fun m => { m with
    trans := some { tr with waiting := tr.waiting.filter (fun n => n != k) } }) (wm := 64) (.refl _ s) rfl).merge⟩
  · show execAgentAnswer k .accept s = _
    unfold execAgentAnswer
    simp only [htr, List.contains_iff_mem.mpr hk, List.isEmpty_eq_false_iff.mpr hrest]
    rfl
  · rfl

theorem accept_completes (hk : tr.waiting = [k]) (hdel : tr.delayed = []) (hwait : s.mode.waiting = none) (ht : tr.target ≤ 7) :
    ∃ t, exec (.agentAnswer k .accept) s = .next t ∧ t.modeNum = tr.target ∧ t.mode.trans = none ∧ t.mode.previous = s.modeNum := by
  have hnone : [k].filter (fun n => n != k) = [] := by simp
  obtain ⟨hmode, htrans, hprev, hwait'⟩ := completeTrans_transEnded s { tr with waiting := [] } (Nat.lt_succ_of_le ht)
  refine ⟨completeTrans s { tr with waiting := [] }, ?_, hmode, htrans, hprev⟩
  show execAgentAnswer k .accept s = _
  unfold execAgentAnswer
  simp only [htr, hk, hdel, hnone, List.contains_iff_mem.mpr (List.mem_singleton.mpr (rfl : k = k))]
  exact congrArg Host.Outcome.next (takeWaiting_none (hwait'.trans hwait))

theorem answer_refuses (hk : k ∈ tr.waiting) (reason : Nat) :
    exec (.agentAnswer k (.refuse reason)) s = .next (refuse s tr k reason) := by
  show execAgentAnswer k (.refuse reason) s = _
  unfold execAgentAnswer
  simp only [htr, List.contains_iff_mem.mpr hk]
  rfl

theorem answer_timesOut (hk : k ∈ tr.waiting) :
    (tr.asked.get tr.askedAt k + usTicks 20 ≤ s.now → exec (.agentTimeout k) s = .next (refuse s tr k 5)) ∧
      (s.now < tr.asked.get tr.askedAt k + usTicks 20 → exec (.agentTimeout k) s = .next s) := by
  have hexec : exec (.agentTimeout k) s = execAgentTimeout k s := rfl
  rw [hexec, execAgentTimeout]
  simp only [htr, List.contains_iff_mem.mpr hk, Bool.true_and, decide_eq_true_eq]
  exact ⟨fun h => if_pos h, fun h => if_neg (by omega)⟩

theorem answer_delays (hk : k ∈ tr.waiting) {n : Nat} (hn : 1 ≤ n) (htotal : tr.delays.get 0 k + n ≤ 255) :
    exec (.agentAnswer k (.delay n)) s =
      .next ((s.bumps gPowerIslandDelays k).withMode (fun m => { m with trans := some { tr with
        waiting := tr.waiting.filter (fun m => m != k), delayed := addUnique k tr.delayed,
        delays := tr.delays.set k (tr.delays.get 0 k + n), asked := tr.asked.set k (s.now + usTicks (10 * n)) } })) := by
  show execAgentAnswer k (.delay n) s = _
  unfold execAgentAnswer
  simp only [htr, List.contains_iff_mem.mpr hk]
  rw [if_neg (by decide), if_neg (by omega), if_neg (by omega)]

theorem delay_expires (hk : k ∈ tr.delayed) :
    (tr.asked.get 0 k ≤ s.now → exec (.delayExpiry k) s = .next (s.withMode (fun m => { m with trans := some { tr with
      delayed := tr.delayed.filter (fun n => n != k), waiting := tr.waiting ++ [k], asked := tr.asked.set k s.now } }))) ∧
      (s.now < tr.asked.get 0 k → exec (.delayExpiry k) s = .next s) := by
  have hexec : exec (.delayExpiry k) s = execDelayExpiry k s := rfl
  rw [hexec, execDelayExpiry]
  simp only [htr, List.contains_iff_mem.mpr hk, Bool.true_and, decide_eq_true_eq]
  exact ⟨fun h => if_pos h, fun h => if_neg (by omega)⟩

end answers

/-! ### The operator's choice, and SERVICE (18 R671, R675) -/

theorem askMode_gv {s : State} {e : GE} (h : NoModeEntry e) (target : Nat) : (askMode s target).gv e = s.gv e := by
  unfold askMode
  split
  · rfl
  · unfold requestMode
    split_ifs
    · exact beginTrans_gv h _ _
    · exact beginTrans_gv h _ _
    · rfl

theorem modeTarget_stores {s : State} {x : SessId} {req : BitVec 16} {value : Bytes} (hserved : Served s x req)
    (hcheck : writeCheck s x 0x110005 value true false = 0) :
    ∃ t, exec (.modeTarget x req value) s = .next t ∧ t.gv gModeTarget = leNat value ∧ Answered t x (statusReply 0x11 req 0 []) := by
  refine ⟨replyStatus (askMode (s.gset gModeTarget (leNat value)) (leNat value)) x 0x11 req 0 [], ?_, ?_, answered_reply _ _ _ _ _ _⟩
  · show execModeTarget x req value s = _
    rw [execModeTarget, actWrite_ok hserved hcheck]
  rw [State.gv, State.gvs, reply_gls]
  exact (askMode_gv (by unfold NoModeEntry; decide) _).trans (State.gv_gset _ _ _)

theorem serviceEnd_leaves {s : State} {x : SessId} {req : BitVec 16} {value : Bytes} (hserved : Served s x req) (hmode : s.modeNum = 7)
    (hcheck : writeCheck s x 0x11000A value true false = 0) (hwait : s.mode.waiting = none) :
    ∃ t, exec (.serviceEnd x req value) s = .next t ∧ t.modeNum = modeBack s s.mode.serviceLeft ∧ t.mode.serviceAt = none ∧
      Answered t x (statusReply 0x11 req 0 []) := by
  obtain ⟨hback, hat⟩ := leaveService_leaves hwait
  have hmode' : (s.modeNum == 7) = true := beq_iff_eq.mpr hmode
  have hreply := (replyStatus_writes (x := x) (msg := 0x11) (req := req) (st := 0) (rest := []) (wm := 524416)
    (.refl _ (leaveService s)) rfl).mode rfl
  refine ⟨replyStatus (leaveService s) x 0x11 req 0 [], ?_, (State.modeNum_congr (congrArg ModeSt.code hreply)).trans hback,
    (congrArg ModeSt.serviceAt hreply).trans hat, answered_reply _ _ _ _ _ _⟩
  show execServiceEnd x req value s = _
  rw [execServiceEnd, actWrite_ok hserved (by rw [hmode']; exact hcheck), if_pos hmode]

theorem serviceLimit_leaves {s : State} {n : Nat} (hmode : s.modeNum = 7) (hat : s.mode.serviceAt = some n)
    (hlimit : n + secTicks (s.gv gModeServiceLimit) ≤ s.now) (hwait : s.mode.waiting = none) :
    ∃ t, exec .serviceLimitExpiry s = .next t ∧ t.modeNum = modeBack s s.mode.serviceLeft ∧ t.mode.serviceAt = none := by
  refine ⟨leaveService s, ?_, leaveService_leaves hwait⟩
  show execServiceLimitExpiry s = _
  unfold execServiceLimitExpiry
  rw [hat]
  simp only [hmode]
  rw [if_pos (by rw [decide_eq_true hlimit]; rfl)]

/-- Settles O11: each event's next state is written out above, one lemma each; the lemmas of the mode's own registers
(`completeTrans_transEnded`, `refuse_aborts`, `leaveService_leaves`) say how a transition ends. -/
theorem modesHandshakeAndTests : Obligations.ModesHandshakeAndTests := by
  unfold Obligations.ModesHandshakeAndTests
  refine ⟨?_, fun s tr k htr hk hrest => accept_waits htr hk hrest, fun s tr k htr hk hdel hwait ht => accept_completes htr hk hdel hwait ht,
    ?_, ?_, ?_, ?_, fun s x req value hserved hcheck => modeTarget_stores hserved hcheck,
    fun s x req value hserved hmode hcheck hwait => serviceEnd_leaves hserved hmode hcheck hwait,
    fun s n hmode hat hlimit hwait => serviceLimit_leaves hmode hat hlimit hwait,
    fun s q hq hserve hmode hdue => ⟨patrol_passes hq hserve hmode hdue, patrol_keccakFails hq hserve hmode hdue⟩,
    fun s q hserve hfree => selftest_starts hserve hfree,
    fun s q htest hmode hslots hgang => selftest_ends htest hmode hslots hgang⟩
  case refine_1 =>
    intro s hmode hrun hperst hleft hserve hroot hcheck hdue haux htarget
    have hkeys := makeMinuteKeys_life s
    have haux' : auxAbsent (makeMinuteKeys s) = false := by
      rw [auxAbsent, hkeys.power rfl]
      exact haux
    obtain ⟨hthree, hprev, hacc, htamper⟩ := leaveAssay_serves haux'
    refine ⟨_, exec_assayDone_serves hmode hrun hperst hleft hserve hroot hcheck hdue haux htarget, hthree, hprev.trans ?_, hacc, ?_⟩
    · exact (State.modeNum_congr (congrArg ModeSt.code (hkeys.mode rfl))).trans hmode
    · rw [htamper, hkeys.tamper rfl]
  case refine_2 =>
    intro s tr k reason htr hk hreason hwait hk16
    obtain ⟨hcount, hwhy, -⟩ := refuse_counts (t := tr) hreason hwait hk16
    exact ⟨_, answer_refuses htr hk reason, refuse_modeNum hreason hwait, by rw [refuse_aborts hreason hwait]; rfl, hcount, hwhy,
      refuse_frame hreason hwait⟩
  case refine_3 =>
    intro s tr k htr hk hwait hk16
    obtain ⟨hlate, hearly⟩ := answer_timesOut htr hk
    have hreason : 5 ≠ 1 := by decide
    obtain ⟨-, hwhy, hlast⟩ := refuse_counts (t := tr) hreason hwait hk16
    exact ⟨fun h => ⟨_, hlate h, refuse_modeNum hreason hwait, by rw [refuse_aborts hreason hwait]; rfl, hwhy, hlast⟩, hearly⟩
  case refine_4 =>
    intro s tr k n htr hk hn htotal
    refine ⟨_, _, answer_delays htr hk hn htotal, rfl, rfl, mem_addUnique _ _, Tab.get_set_self _ _ _ _, Tab.get_set_self _ _ _ _,
      State.gvs_gsets _ _ _ _, ?_⟩
    exact (State.withMode_writes (wm := 1073741888) (State.bumps_writes (.refl _ s) rfl) rfl).merge
  case refine_5 =>
    intro s tr k htr hk
    obtain ⟨hlate, hearly⟩ := delay_expires htr hk
    exact ⟨fun h => ⟨_, hlate h, (State.withMode_writes (wm := 64) (.refl _ s) rfl).merge, rfl⟩, hearly⟩

end Sys2Proof.Machine
end

section
/-! PROOF. The inventory tag (24 R830 to R840): its counters only rise, a transaction counts, the tag's commands read and write tag memory
as their status words say, and the host's accesses wait for the transaction to end. -/

namespace Sys2Proof.Machine

open Sys2Proof

/-! ### Counters (24 R837) -/

theorem tagCount_congr {s t : State} (h : t.tag.copies = s.tag.copies) (n : Nat) : tagCount t n = tagCount s n := by
  have hcopy (c : Nat) : tagCopy t n c = tagCopy s n c := by rw [tagCopy, tagCopy, h]
  simp only [tagCount, hcopy]

theorem tagCount_le (s : State) (n : Nat) : tagCount s n ≤ 0xFFFFFFFF := by
  simp only [tagCount]
  split_ifs <;> omega

theorem copyToWrite_le (s : State) (n : Nat) : copyToWrite s n ≤ 1 := by
  simp only [copyToWrite]
  split_ifs <;> omega

/-- A copy of one counter is no copy of another. -/
theorem tagCopy_set_other (s : State) {n k : Nat} (h : k ≠ n) {c d : Nat} (hc : c ≤ 1) (hd : d ≤ 1) (w : Nat) :
    tagCopy (s.withTag (fun t => { t with copies := Tab.set t.copies (2 * n + c) w })) k d = tagCopy s k d :=
  Tab.get_set_other _ _ _ (by omega)

theorem tagCount_set_other (s : State) {n k : Nat} (h : k ≠ n) {c : Nat} (hc : c ≤ 1) (w : Nat) :
    tagCount (s.withTag (fun t => { t with copies := Tab.set t.copies (2 * n + c) w })) k = tagCount s k := by
  simp only [tagCount, tagCopy_set_other s h hc (Nat.zero_le 1), tagCopy_set_other s h hc (Nat.le_refl 1)]

/-- What add(n, a) leaves when it is not refused. -/
def tagAdded (s : State) (n a : Nat) : State :=
  s.withTag (fun t => { t with copies := Tab.set t.copies (2 * n + copyToWrite s n) (copyWord n (tagCount s n + a)) })

theorem tagAdd_fits {s : State} {n a : Nat} (h : tagCount s n + a ≤ 0xFFFFFFFF) : tagAdd s n a = some (tagAdded s n a) :=
  if_neg (Nat.not_lt.mpr h)

theorem tagAdd_past {s : State} {n a : Nat} (h : 0xFFFFFFFF < tagCount s n + a) : tagAdd s n a = none := if_pos h

theorem tagAdd_some {s u : State} {n a : Nat} (h : tagAdd s n a = some u) : u = tagAdded s n a := by
  by_cases hpast : 0xFFFFFFFF < tagCount s n + a
  · rw [tagAdd_past hpast] at h
    exact nomatch h
  · rw [tagAdd_fits (Nat.le_of_not_lt hpast), Option.some.injEq] at h
    exact h.symm

theorem tagAdded_other (s : State) {n k : Nat} (h : k ≠ n) (a : Nat) : tagCount (tagAdded s n a) k = tagCount s k :=
  tagCount_set_other s h (copyToWrite_le s n) _

theorem tagCopy_added (s : State) (n a c : Nat) :
    tagCopy (tagAdded s n a) n c = if c = copyToWrite s n then copyWord n (tagCount s n + a) else tagCopy s n c := by
  by_cases h : c = copyToWrite s n
  · rw [if_pos h, tagCopy, h]
    exact Tab.get_set_self _ _ _ _
  · rw [if_neg h]
    exact Tab.get_set_other _ _ _ (by omega)

/-- What two copies read as, of which each may be invalid. -/
def copiesRead (va vb : Bool) (a b : Nat) : Nat := if va then (if vb then max a b else a) else if vb then b else 0xFFFFFFFF

theorem tagCount_eq (s : State) {n : Nat} (hn : n < 2 ∨ 8 ≤ n) :
    tagCount s n = copiesRead (copyValid n (tagCopy s n 0)) (copyValid n (tagCopy s n 1)) (tagCopy s n 0 % 2 ^ 32) (tagCopy s n 1 % 2 ^ 32) :=
  if_neg (by omega)

/-- The copy that is written, valid and no less than the reading, is what both read as. -/
theorem copiesRead_written (va vb : Bool) (a b : Nat) {v : Nat} (h : copiesRead va vb a b ≤ v) :
    (if !va then copiesRead true vb v b else if !vb then copiesRead va true a v
      else if b < a then copiesRead va true a v else copiesRead true vb v b) = v := by
  cases va <;> cases vb
  case false.false => rfl
  case false.true => exact max_eq_left h
  case true.false => exact max_eq_right h
  case true.true =>
    have hmax : max a b ≤ v := h
    show (if b < a then max a v else max v b) = v
    split_ifs <;> omega

/-- The copy written is valid and no less than the other: the counter reads the sum. -/
theorem tagAdded_self {s : State} {n a : Nat} (hn : n < 2 ∨ 8 ≤ n) (hn16 : n < 2 ^ 16) (h : tagCount s n + a ≤ 0xFFFFFFFF) :
    tagCount (tagAdded s n a) n = tagCount s n + a := by
  have hval : copyWord n (tagCount s n + a) % 2 ^ 32 = tagCount s n + a := (copyWord_value _ _).trans (Nat.mod_eq_of_lt (by omega))
  have hread := copiesRead_written (copyValid n (tagCopy s n 0)) (copyValid n (tagCopy s n 1)) (tagCopy s n 0 % 2 ^ 32)
    (tagCopy s n 1 % 2 ^ 32) (v := tagCount s n + a) (by rw [← tagCount_eq s hn]; exact Nat.le_add_right _ _)
  have hzero (hw : copyToWrite s n = 0) : tagCount (tagAdded s n a) n =
      copiesRead true (copyValid n (tagCopy s n 1)) (tagCount s n + a) (tagCopy s n 1 % 2 ^ 32) := by
    rw [tagCount_eq _ hn, tagCopy_added, tagCopy_added, hw, if_pos rfl, if_neg one_ne_zero, copyWord_valid hn16, hval]
  have hone (hw : copyToWrite s n = 1) : tagCount (tagAdded s n a) n =
      copiesRead (copyValid n (tagCopy s n 0)) true (tagCopy s n 0 % 2 ^ 32) (tagCount s n + a) := by
    rw [tagCount_eq _ hn, tagCopy_added, tagCopy_added, hw, if_pos rfl, if_neg zero_ne_one, copyWord_valid hn16, hval]
  have hw : copyToWrite s n = if !copyValid n (tagCopy s n 0) then 0 else if !copyValid n (tagCopy s n 1) then 1
    else if tagCopy s n 1 % 2 ^ 32 < tagCopy s n 0 % 2 ^ 32 then 1 else 0 := rfl
  split_ifs at hw hread
  · exact (hzero hw).trans hread
  · exact (hone hw).trans hread
  · exact (hone hw).trans hread
  · exact (hzero hw).trans hread

/-- A torn write touches no other counter. -/
theorem tagTear_other (s : State) {n k : Nat} (h : k ≠ n) : tagCount (tagTear s n) k = tagCount s k :=
  (tagCount_set_other s.drawNat.2 h (copyToWrite_le s n) _).trans (tagCount_congr rfl k)

theorem refreshTag_copies (s : State) : (refreshTag s).tag.copies = s.tag.copies := by
  unfold refreshTag
  split <;> rfl

/-! ### A transaction starts (24 R830 to R832) -/

/-- Counter 1 within the budget, then counter 0. -/
def txnCounted (s : State) : State :=
  let s1 := if s.modeNum == 0 && !budgetSpent s then refreshTag ((tagAdd s 1 1).getD s) else s
  (tagAdd s1 0 1).getD s1

def txnStarted (s : State) : State :=
  ((txnCounted s).withTag (fun t => { t with txn := some s.now, selected := false, out := toLE 2 4 })).withAppr
    (fun a => { a with external := true })

/-- add(n, 1), or nothing at the top. -/
theorem raised_self (s : State) {n : Nat} (hn : n < 2) : tagCount ((tagAdd s n 1).getD s) n = min (tagCount s n + 1) 0xFFFFFFFF := by
  have hle := tagCount_le s n
  by_cases h : tagCount s n + 1 ≤ 0xFFFFFFFF
  · rw [tagAdd_fits h, Option.getD_some, tagAdded_self (.inl hn) (by omega) h, min_eq_left h]
  · rw [tagAdd_past (by omega), Option.getD_none]
    omega

theorem raised_other (s : State) {n k : Nat} (h : k ≠ n) : tagCount ((tagAdd s n 1).getD s) k = tagCount s k := by
  unfold tagAdd
  extract_lets v
  split
  · rfl
  · exact tagAdded_other s h 1

theorem txnCounted_counts (s : State) :
    tagCount (txnCounted s) 0 = min (tagCount s 0 + 1) 0xFFFFFFFF ∧
      tagCount (txnCounted s) 1 = (if s.modeNum = 0 ∧ budgetSpent s = false then tagCount s 1 + 1 else tagCount s 1) ∧
      ∀ n, n ≠ 0 → n ≠ 1 → tagCount (txnCounted s) n = tagCount s n := by
  unfold txnCounted
  extract_lets s1
  have hs1 (n : Nat) (hn : n ≠ 1) : tagCount s1 n = tagCount s n := by
    simp only [s1]
    split
    · exact (tagCount_congr (refreshTag_copies _) n).trans (raised_other s hn)
    · rfl
  have hone : tagCount s1 1 = if s.modeNum = 0 ∧ budgetSpent s = false then tagCount s 1 + 1 else tagCount s 1 := by
    by_cases h : s.modeNum = 0 ∧ budgetSpent s = false
    · have hlt : tagCount s 1 < 2000 := Nat.lt_of_not_le (of_decide_eq_false h.2)
      rw [if_pos h]
      simp only [s1, h.1, h.2]
      refine (tagCount_congr (refreshTag_copies _) 1).trans ((raised_self s (by decide)).trans (min_eq_left (by omega)))
    · have hb : (s.modeNum == 0 && !budgetSpent s) = false := by
        rw [Bool.and_eq_false_iff, beq_eq_false_iff_ne, Bool.not_eq_false']
        by_cases h0 : s.modeNum = 0
        · exact .inr (Bool.not_eq_false _ ▸ fun hf => h ⟨h0, hf⟩)
        · exact .inl h0
      rw [if_neg h]
      simp only [s1, hb]
      rfl
  refine ⟨?_, (raised_other s1 (by decide)).trans hone, fun n h0 h1 => (raised_other s1 h0).trans (hs1 n h1)⟩
  rw [raised_self s1 (by decide), hs1 0 (by decide)]

theorem txnStarted_count (s : State) (n : Nat) : tagCount (txnStarted s) n = tagCount (txnCounted s) n := by
  have hcopies : (txnStarted s).tag.copies = (txnCounted s).tag.copies := by rw [txnStarted]; rfl
  exact tagCount_congr hcopies n

theorem txnCounted_writes (s : State) : Writes 134217728 s (txnCounted s) := by
  have hadd {u : State} (h : Writes 134217728 s u) (n : Nat) : Writes 134217728 s ((tagAdd u n 1).getD u) := by
    unfold tagAdd
    extract_lets v
    split
    · exact h
    · rw [Option.getD_some]
      exact State.withTag_writes h rfl
  unfold txnCounted
  extract_lets s1
  refine hadd ?_ 0
  simp only [s1]
  split
  · exact refreshTag_writes (hadd (.refl _ s) 1) rfl
  · exact .refl _ s

theorem txnStarted_writes (s : State) : Writes 201326592 s (txnStarted s) :=
  State.withAppr_writes (State.withTag_writes ((txnCounted_writes s).mono rfl) rfl) rfl

theorem exec_tagTransactionStart {s : State} (hcarrier : s.appr.carrier = false) (hmuted : s.tag.muted = false) (htxn : s.tag.txn = none)
    (hup : cltUp s = true) : exec .tagTransactionStart s = .next (txnStarted s) := by
  show execTagTransactionStart s = _
  unfold execTagTransactionStart
  rw [if_neg (by rw [hcarrier, hmuted, htxn, hup]; decide)]
  rfl

theorem tagTransactionStart_ignored {s : State} (h : s.appr.carrier = true ∨ s.tag.muted = true ∨ s.tag.txn ≠ none ∨ cltUp s = false) :
    exec .tagTransactionStart s = .next s := by
  show execTagTransactionStart s = _
  unfold execTagTransactionStart
  rw [if_pos (by rwa [Option.isSome_iff_ne_none])]

/-- Settles O58: a transaction that starts is the one of `txnStarted`, in whatever mode, whose counter 0 is one higher or saturated. -/
theorem tagCountsTransactions : Obligations.TagCountsTransactions := by
  unfold Obligations.TagCountsTransactions
  refine ⟨fun s t ht hnone hsome => ?_, fun s k hk hmode hcarrier hmuted htxn hup => ?_⟩
  · by_cases hstart : s.appr.carrier = true ∨ s.tag.muted = true ∨ s.tag.txn ≠ none ∨ cltUp s = false
    · rw [tagTransactionStart_ignored hstart, Host.Outcome.next.injEq] at ht
      rw [← ht] at hsome
      exact absurd hnone hsome
    · simp only [not_or, Bool.not_eq_true, Bool.not_eq_false, ne_eq, not_not] at hstart
      obtain ⟨hcarrier, hmuted, htxn, hup⟩ := hstart
      rw [exec_tagTransactionStart hcarrier hmuted htxn hup, Host.Outcome.next.injEq] at ht
      rw [← ht, txnStarted_count]
      exact (txnCounted_counts s).1
  · have hcount := (txnCounted_counts s).1
    refine ⟨_, exec_tagTransactionStart hcarrier hmuted htxn hup, rfl, ?_, fun hlt => ?_⟩
    · exact (State.modeNum_congr (congrArg ModeSt.code ((txnStarted_writes s).mode rfl))).trans hmode
    · rw [txnStarted_count, hcount]
      omega

/-! ### The tag's commands (24 Table 3) -/

/-- A tag command acts within a transaction. -/
theorem exec_onTag {s : State} {c : Instr} {f : State → State} (hc : exec c s = onTag s f) (h : s.tag.txn ≠ none) :
    exec c s = .next (f s) := by
  rw [hc, onTag, if_pos (Option.isSome_iff_ne_none.mpr h)]

theorem tagAnswer_frame (s : State) (data : Bytes) (sw : Nat) : { tagAnswer s data sw with tag := s.tag } = s :=
  (tagAnswer_writes (wm := 134217728) (.refl _ s) rfl).merge

theorem tagSelect_answers {s : State} (htxn : s.tag.txn ≠ none) (aid : Bytes) :
    ∃ t, exec (.tagSelect aid) s = .next t ∧ { t with tag := s.tag } = s ∧
      if aid = tagAid then t.tag = { s.tag with selected := true, out := [0x90, 0x00] } else t.tag = { s.tag with out := [0x6A, 0x82] } := by
  refine ⟨_, exec_onTag (execTagSelect.eq_1 ..) htxn, ?_⟩
  split_ifs
  · exact ⟨(tagAnswer_writes (wm := 134217728) (State.withTag_writes (.refl _ s) rfl) rfl).merge, rfl⟩
  · exact ⟨tagAnswer_frame s _ _, rfl⟩

theorem readBinary_answers {s : State} (htxn : s.tag.txn ≠ none) (off len : Nat) :
    ∃ t, exec (.readBinary off len) s = .next t ∧ { t with tag := s.tag } = s ∧
      t.tag.out = (if passive s = true ∧ (len = 0 ∨ 0x70 < off + len) then [0x6A, 0x82]
        else if len = 0 ∨ 256 < len then [0x67, 0x00]
        else if 0x2000 < off + len then [0x6A, 0x86]
        else (List.range len).map (fun i => tagByte s (off + i)) ++ [0x90, 0x00]) ∧
      { t.tag with out := s.tag.out } = s.tag := by
  refine ⟨_, exec_onTag (execReadBinary.eq_1 ..) htxn, ?_⟩
  split_ifs
  all_goals exact ⟨tagAnswer_frame s _ _, rfl, rfl⟩

/-- A write of the user area reaches those of its bytes alone. -/
theorem tagByte_user_other {s t : State} {off : Nat} {d : Bytes} (hcopies : t.tag.copies = s.tag.copies)
    (hstatus : t.tag.status = s.tag.status) (huser : t.tag.user = Mem.write 0 s.tag.user off d) {a : Nat}
    (ha : a < off ∨ off + d.length ≤ a) : tagByte t a = tagByte s a := by
  have hcopy (n c : Nat) : tagCopy t n c = tagCopy s n c := by rw [tagCopy, tagCopy, hcopies]
  simp only [tagByte, hstatus, hcopy, huser, Mem.get_write_ne d s.tag.user off a ha]

theorem updateBinary_answers {s : State} (htxn : s.tag.txn ≠ none) (off : Nat) (d : Bytes) :
    ∃ t, exec (.updateBinary off d) s = .next t ∧ { t with tag := s.tag } = s ∧
      if passive s = true then t.tag = { s.tag with out := [0x6A, 0x82] }
      else if d = [] ∨ 240 < d.length then t.tag = { s.tag with out := [0x67, 0x00] }
      else if off < 0x400 ∨ 0x2000 < off + d.length ∨ s.gv gTagFieldWrite ≠ 1 then t.tag = { s.tag with out := [0x69, 0x82] }
      else t.tag = { s.tag with user := Mem.write 0 s.tag.user off d, out := [0x90, 0x00] } ∧
        ∀ a, a < off ∨ off + d.length ≤ a → tagByte t a = tagByte s a := by
  refine ⟨_, exec_onTag (execUpdateBinary.eq_1 ..) htxn, ?_⟩
  simp only [List.isEmpty_iff]
  split_ifs
  case neg =>
    refine ⟨(tagAnswer_writes (wm := 134217728) (State.withTag_writes (.refl _ s) rfl) rfl).merge, rfl, fun a ha => ?_⟩
    exact tagByte_user_other (s := s) (t := tagAnswer (s.withTag _) _ _) rfl rfl rfl ha
  all_goals exact ⟨tagAnswer_frame s _ _, rfl⟩

theorem tagAnswer_count (s : State) (data : Bytes) (sw n : Nat) : tagCount (tagAnswer s data sw) n = tagCount s n := by
  have hcopies : (tagAnswer s data sw).tag.copies = s.tag.copies := rfl
  exact tagCount_congr hcopies n

theorem increment_answers {s : State} (htxn : s.tag.txn ≠ none) (n : Nat) (d : Bytes) :
    ∃ t, exec (.increment n d false) s = .next t ∧ { t with tag := s.tag } = s ∧
      (∀ k, k ≠ n → tagCount t k = tagCount s k) ∧
      if passive s = true then t.tag = { s.tag with out := [0x6A, 0x82] }
      else if d.length ≠ 4 then t.tag = { s.tag with out := [0x67, 0x00] }
      else if 16 ≤ n ∨ leNat d = 0 then t.tag = { s.tag with out := [0x6D, 0x00] }
      else if n < 8 ∨ s.gv gTagFieldWrite ≠ 1 then t.tag = { s.tag with out := [0x69, 0x82] }
      else if 0xFFFFFFFF < tagCount s n + leNat d then t.tag = { s.tag with out := [0x69, 0x85] }
      else tagCount t n = tagCount s n + leNat d ∧ t.tag.out = toLE 4 (tagCount s n + leNat d) ++ [0x90, 0x00] := by
  have hrefused (data : Bytes) (sw : Nat) : { tagAnswer s data sw with tag := s.tag } = s ∧
      ∀ k, k ≠ n → tagCount (tagAnswer s data sw) k = tagCount s k := ⟨tagAnswer_frame s _ _, fun k _ => tagAnswer_count s _ _ k⟩
  refine ⟨_, exec_onTag (execIncrement.eq_1 ..) htxn, ?_⟩
  by_cases hpast : 0xFFFFFFFF < tagCount s n + leNat d
  · simp only [tagAdd_past hpast, if_pos hpast]
    split_ifs
    all_goals exact ⟨(hrefused _ _).1, (hrefused _ _).2, rfl⟩
  · have hfits : tagCount s n + leNat d ≤ 0xFFFFFFFF := Nat.le_of_not_lt hpast
    simp only [tagAdd_fits hfits, if_neg hpast, Bool.false_eq_true, if_false]
    split_ifs with _ _ hrange hfield
    case neg =>
      have hself : tagCount (tagAdded s n (leNat d)) n = tagCount s n + leNat d :=
        tagAdded_self (by omega) (by omega) hfits
      refine ⟨(tagAnswer_writes (wm := 134217728) (State.withTag_writes (.refl _ s) rfl) rfl).merge,
        fun k hk => (tagAnswer_count _ _ _ k).trans (tagAdded_other s hk _), (tagAnswer_count _ _ _ n).trans hself, ?_⟩
      rw [hself]
      rfl
    all_goals exact ⟨(hrefused _ _).1, (hrefused _ _).2, rfl⟩

theorem increment_torn {s : State} (htxn : s.tag.txn ≠ none) {n : Nat} {d : Bytes} (hpassive : passive s = false) (h8 : 8 ≤ n) (h16 : n < 16)
    (hlen : d.length = 4) (hd : leNat d ≠ 0) (hfield : s.gv gTagFieldWrite = 1) (hfits : tagCount s n + leNat d ≤ 0xFFFFFFFF) :
    ∃ t, exec (.increment n d true) s = .next t ∧ t.tag.out = [] ∧ (∀ k, k ≠ n → tagCount t k = tagCount s k) := by
  refine ⟨(tagTear s n).withTag (fun t => { t with out := [] }), ?_, rfl, fun k hk => ?_⟩
  · have hexec : exec (.increment n d true) s = execIncrement n d true s := rfl
    refine (exec_onTag (hexec.trans (execIncrement.eq_1 ..)) htxn).trans ?_
    rw [if_neg (by rw [hpassive]; decide), if_neg (not_not.mpr hlen), if_neg (by omega), if_neg (by omega)]
    simp only [tagAdd_fits hfits, if_true]
  · have hcopies : ((tagTear s n).withTag (fun t => { t with out := [] })).tag.copies = (tagTear s n).tag.copies := rfl
    exact (tagCount_congr hcopies k).trans (tagTear_other s hk)

/-! ### A transaction ends: what waited is served (24 R830, R838) -/

/-- No transaction, no selection, nothing waits. -/
def TxnOver (s : State) : Prop := s.tag.txn = none ∧ s.tag.selected = false ∧ s.tag.waits = []

theorem TxnOver.of_tag {s t : State} (hs : TxnOver s) (h : t.tag = s.tag) : TxnOver t := by
  rw [TxnOver, h]
  exact hs

theorem tagAccess_over {s : State} (h : TxnOver s) (w : TagWait) : TxnOver (tagAccess s w) := by
  have hreply (u : State) (x : SessId) (msg : Nat) (req : BitVec 16) (st : Nat) (rest : Bytes) :
      (replyStatus u x msg req st rest).tag = u.tag := (replyStatus_writes (wm := 524416) (.refl _ u) rfl).tag rfl
  have hrefusal (u : State) (st : Nat) (b : Bool) : (countRefusal u st b).tag = u.tag :=
    (countRefusal_writes (wm := 1073741824) (.refl _ u) rfl).tag rfl
  have hread (u : State) (x : SessId) (req : BitVec 16) (v : Bytes) (off len : Nat) : (replyRead u x req v off len).tag = u.tag :=
    (replyRead_writes (wm := 524416) (.refl _ u) rfl).tag rfl
  unfold tagAccess
  split
  · unfold tagRead
    extract_lets st
    split
    · exact h.of_tag ((hreply _ _ _ _ _ _).trans (hrefusal _ _ _))
    · exact h.of_tag (hread _ _ _ _ _ _)
  · split
    · unfold tagHostAdd
      extract_lets n st
      split
      · exact h.of_tag ((hreply _ _ _ _ _ _).trans (hrefusal _ _ _))
      · split
        next => exact h.of_tag (hreply _ _ _ _ _ _)
        next u hu =>
          have hover : TxnOver u := by
            rw [tagAdd_some hu]
            exact h
          exact hover.of_tag (hreply _ _ _ _ _ _)
    · unfold tagWrite
      extract_lets off st s1
      split
      · exact h.of_tag ((hreply _ _ _ _ _ _).trans (hrefusal _ _ _))
      · exact TxnOver.of_tag (s := s1) h (hreply _ _ _ _ _ _)

theorem endTxn_over (s : State) : TxnOver (endTxn s) := by
  have hfold (l : List TagWait) : ∀ u : State, TxnOver u → TxnOver (l.foldl tagAccess u) := by
    induction l with
    | nil => exact fun _ h => h
    | cons w l ih => exact fun u h => ih _ (tagAccess_over h w)
  unfold endTxn
  extract_lets l due s1
  refine hfold l _ ?_
  have h1 : TxnOver s1 := ⟨rfl, rfl, rfl⟩
  split
  · unfold refreshTag
    split
    · exact h1
    · exact h1
  · exact h1

/-- Settles O51: one lemma for each command of the tag; counters through `tagAdded_self` and `tagAdded_other`. -/
theorem tagTransactionsAndCommands : Obligations.TagTransactionsAndCommands := by
  unfold Obligations.TagTransactionsAndCommands
  refine ⟨fun s hcarrier hmuted htxn hup => ?_, fun s h => tagTransactionStart_ignored ?_, fun s aid htxn => tagSelect_answers htxn aid,
    fun s off len htxn => readBinary_answers htxn off len, fun s off d htxn => updateBinary_answers htxn off d,
    fun s n d htxn => increment_answers htxn n d,
    fun s n d htxn hpassive h8 h16 hlen hd hfield hfits => increment_torn htxn hpassive h8 h16 hlen hd hfield hfits,
    fun s htxn => ?_, fun s n htxn hlate => ?_⟩
  case refine_1 =>
    obtain ⟨hzero, hone, hother⟩ := txnCounted_counts s
    refine ⟨_, exec_tagTransactionStart hcarrier hmuted htxn hup, rfl, rfl, rfl, (txnStarted_count s 0).trans hzero,
      (txnStarted_count s 1).trans hone, fun n h0 h1 => (txnStarted_count s n).trans (hother n h0 h1), (txnStarted_writes s).merge⟩
  case refine_2 =>
    rcases h with h | h | h
    · exact .inl h
    · exact .inr (.inl h)
    · exact .inr (.inr (.inl h))
  case refine_3 => exact ⟨_, exec_onTag (execTagTransactionEnd.eq_1 ..) htxn, endTxn_over s⟩
  case refine_4 =>
    obtain ⟨hnone, -, hwaits⟩ := endTxn_over s
    refine ⟨(endTxn s).withTag (fun t => { t with muted := true }), ?_, hnone, rfl, hwaits⟩
    show execTagTransactionTimeout s = _
    unfold execTagTransactionTimeout
    rw [htxn]
    exact if_pos hlate

/-! ### The host's accesses (24 R838, R840) -/

/-- A served message is executed. -/
theorem onMsg_served {s : State} {x : SessId} {req : BitVec 16} (h : Served s x req) (f : State → State) : onMsg s x req f = .next (f s) := by
  obtain ⟨hserve, hnew⟩ := h
  simp only [onMsg, hserve, hnew]
  rfl

theorem exec_tagMemBlock {s : State} {x : SessId} {req : BitVec 16} (h : Served s x req) (d : Option Bytes) :
    exec (.tagMemBlock x req d) s = .next (tagHost s { sess := x, req := req, key := 0x541005, value := d, since := s.now }) := by
  show execTagMemBlock x req d s = _
  rw [execTagMemBlock, onMsg_served h]

theorem exec_tagCounterAdd {s : State} {x : SessId} {req : BitVec 16} (h : Served s x req) (v : Bytes) :
    exec (.tagCounterAdd x req v) s = .next (tagHost s { sess := x, req := req, key := 0x541008, value := some v, since := s.now }) := by
  show execTagCounterAdd x req v s = _
  rw [execTagCounterAdd, onMsg_served h]

theorem tagHost_free {s : State} (h : s.tag.txn = none) (w : TagWait) : tagHost s w = tagAccess s w := by
  rw [tagHost, h]
  rfl

/-- An access during a transaction joins the waiting ones. -/
theorem tagHost_waits {s : State} (h : s.tag.txn ≠ none) (w : TagWait) :
    tagHost s w = s.withTag (fun t => { t with waits := t.waits ++ [w] }) := if_pos (Option.isSome_iff_ne_none.mpr h)

theorem replyStatus_tag (s : State) (x : SessId) (msg : Nat) (req : BitVec 16) (st : Nat) (rest : Bytes) :
    (replyStatus s x msg req st rest).tag = s.tag := (replyStatus_writes (wm := 524416) (.refl _ s) rfl).tag rfl

theorem countRefusal_tag (s : State) (st : Nat) (rwp : Bool) : (countRefusal s st rwp).tag = s.tag :=
  (countRefusal_writes (wm := 1073741824) (.refl _ s) rfl).tag rfl

theorem tagRead_answers (s : State) (x : SessId) (req : BitVec 16) :
    (tagRead s x req 0 256).tag = s.tag ∧
      (readCheck s x 0x541005 = 0 → Answered (tagRead s x req 0 256) x (statusReply 0x10 req 0
        (toLE 4 256 ++ (List.range 256).map (fun i => tagByte s ((s.sess x).selVal 0x541004 + i))))) ∧
      (readCheck s x 0x541005 ≠ 0 → Answered (tagRead s x req 0 256) x (statusReply 0x10 req (readCheck s x 0x541005) [])) := by
  have hlen (a : Nat) : (tagBytes s a 256).length = 256 := by rw [tagBytes, List.length_map, List.length_range]
  by_cases h : readCheck s x 0x541005 = 0
  · have hread : tagRead s x req 0 256 =
        replyStatus s x 0x10 req 0 (toLE 4 256 ++ tagBytes s ((s.sess x).selVal 0x541004) 256) := by
      unfold tagRead
      extract_lets st
      rw [if_neg (not_not.mpr h), replyRead, hlen, if_neg (by decide), List.drop_zero, List.take_of_length_le (Nat.le_of_eq (hlen _))]
    rw [hread]
    exact ⟨replyStatus_tag _ _ _ _ _ _, fun _ => answered_reply _ _ _ _ _ _, fun hne => absurd h hne⟩
  · have hread : tagRead s x req 0 256 =
        replyStatus (countRefusal s (readCheck s x 0x541005) false) x 0x10 req (readCheck s x 0x541005) [] := if_pos h
    rw [hread]
    exact ⟨(replyStatus_tag _ _ _ _ _ _).trans (countRefusal_tag _ _ _), fun h0 => absurd h0 h, fun _ => answered_reply _ _ _ _ _ _⟩

/-- A write that passes the checks has the length of the entry's Type (22 Table 2 check 5). -/
theorem writeCheck_length {s : State} {x : SessId} {key : Nat} {v : Bytes} {cond busy : Bool} (h : writeCheck s x key v cond busy = 0)
    {r : GRow} (hr : glossRow key = some r) : v.length = r.ty.size := by
  unfold writeCheck at h
  rw [hr] at h
  simp only at h
  split_ifs at h with h1 h2 h3 h4
  exact not_not.mp h4

/-- A write whose conditions do not hold does not pass (22 Table 2 check 3). -/
theorem writeCheck_cond {s : State} {x : SessId} {key : Nat} {v : Bytes} {cond busy : Bool} (h : writeCheck s x key v cond busy = 0) :
    cond = true := by
  unfold writeCheck at h
  split at h
  next => exact absurd h (by decide)
  next =>
    simp only at h
    split_ifs at h with h1 h2
    rw [Bool.not_eq_true, Bool.or_eq_false_iff, Bool.not_eq_false'] at h2
    exact h2.2

theorem tagWrite_answers (s : State) (x : SessId) (req : BitVec 16) (v : Bytes) :
    let off := (s.sess x).selVal 0x541004
    let st := writeCheck s x 0x541005 v (decide (0x400 ≤ off)) false
    Answered (tagWrite s x req v) x (statusReply 0x11 req st []) ∧
      (st = 0 → (tagWrite s x req v).tag = { s.tag with user := Mem.write 0 s.tag.user off v } ∧
        (∀ a, a < off ∨ off + 256 ≤ a → tagByte (tagWrite s x req v) a = tagByte s a)) ∧
      (st ≠ 0 → (tagWrite s x req v).tag = s.tag) := by
  intro off st
  by_cases h : st = 0
  · have hlen : v.length = 256 := writeCheck_length h (r := ⟨0x541005, "tag.mem.block", (.octets 256), .rwp, 0, [], 1, 2, 0x541004⟩) (by decide)
    have hwrite : tagWrite s x req v = replyStatus ((s.withTag (fun t => { t with user := Mem.write 0 t.user off v })).withMgmt
        (fun m => { m with rwpAt := Tab.set m.rwpAt (0x541005 * 65536 + off) s.now })) x 0x11 req 0 [] := by
      unfold tagWrite
      exact if_neg (not_not.mpr h)
    have htag : (tagWrite s x req v).tag = { s.tag with user := Mem.write 0 s.tag.user off v } := by
      rw [hwrite, replyStatus_tag]
      rfl
    refine ⟨by rw [h, hwrite]; exact answered_reply _ _ _ _ _ _, fun _ => ⟨htag, fun a ha => ?_⟩, fun hne => absurd h hne⟩
    have hother (u : State) (hu : u.tag = { s.tag with user := Mem.write 0 s.tag.user off v }) : tagByte u a = tagByte s a :=
      tagByte_user_other (by rw [hu]) (by rw [hu]) (by rw [hu]) (by rwa [hlen])
    exact hother _ htag
  · have hwrite : tagWrite s x req v = replyStatus (countRefusal s st true) x 0x11 req st [] := if_pos h
    rw [hwrite]
    exact ⟨answered_reply _ _ _ _ _ _, fun h0 => absurd h0 h, fun _ => (replyStatus_tag _ _ _ _ _ _).trans (countRefusal_tag _ _ _)⟩

theorem tagHostAdd_answers (s : State) (x : SessId) (req : BitVec 16) (v : Bytes) :
    let n := (s.sess x).selVal 0x541006
    let st := writeCheck s x 0x541008 v (decide (8 ≤ n)) false
    (n < 16 → st = 0 → tagCount s n + leNat v ≤ 0xFFFFFFFF → Answered (tagHostAdd s x req v) x (statusReply 0x11 req 0 []) ∧
        tagCount (tagHostAdd s x req v) n = tagCount s n + leNat v ∧
        (∀ k, k ≠ n → tagCount (tagHostAdd s x req v) k = tagCount s k)) ∧
      (st = 0 → 0xFFFFFFFF < tagCount s n + leNat v →
        Answered (tagHostAdd s x req v) x (statusReply 0x11 req 0x7022 []) ∧ (tagHostAdd s x req v).tag = s.tag) ∧
      (st ≠ 0 → Answered (tagHostAdd s x req v) x (statusReply 0x11 req st []) ∧ (tagHostAdd s x req v).tag = s.tag) := by
  intro n st
  refine ⟨fun hn h hfits => ?_, fun h hpast => ?_, fun h => ?_⟩
  · have h8 : 8 ≤ n := of_decide_eq_true (writeCheck_cond h)
    have hadd : tagHostAdd s x req v = replyStatus (tagAdded s n (leNat v)) x 0x11 req 0 [] := by
      unfold tagHostAdd
      refine (if_neg (not_not.mpr h)).trans ?_
      rw [tagAdd_fits hfits]
    have hcount (k : Nat) : tagCount (tagHostAdd s x req v) k = tagCount (tagAdded s n (leNat v)) k := by
      rw [hadd]
      exact tagCount_congr (congrArg Tag.copies (replyStatus_tag _ _ _ _ _ _)) k
    exact ⟨by rw [hadd]; exact answered_reply _ _ _ _ _ _, (hcount n).trans (tagAdded_self (.inr h8) (by omega) hfits),
      fun k hk => (hcount k).trans (tagAdded_other s hk _)⟩
  · have hadd : tagHostAdd s x req v = replyStatus s x 0x11 req 0x7022 [] := by
      unfold tagHostAdd
      refine (if_neg (not_not.mpr h)).trans ?_
      rw [tagAdd_past hpast]
    rw [hadd]
    exact ⟨answered_reply _ _ _ _ _ _, replyStatus_tag _ _ _ _ _ _⟩
  · have hadd : tagHostAdd s x req v = replyStatus (countRefusal s st false) x 0x11 req st [] := if_pos h
    rw [hadd]
    exact ⟨answered_reply _ _ _ _ _ _, (replyStatus_tag _ _ _ _ _ _).trans (countRefusal_tag _ _ _)⟩

theorem tagHostTimeout_answers {s : State} {w : TagWait} {l : List TagWait} (htxn : s.tag.txn ≠ none) (hw : s.tag.waits = w :: l)
    (hlate : w.since + msTicks 5 ≤ s.now) :
    ∃ t, exec .tagHostTimeout s = .next t ∧ t.tag = { s.tag with waits := l } ∧ t.gv gTagBusy = (s.gv gTagBusy + 1) % 2 ^ 64 ∧
      Answered t w.sess (statusReply (if w.value.isSome then 0x11 else 0x10) w.req 0x7024 []) := by
  refine ⟨replyStatus ((s.withTag (fun t => { t with waits := l })).bump gTagBusy) w.sess (if w.value.isSome then 0x11 else 0x10) w.req
    0x7024 [], ?_, replyStatus_tag _ _ _ _ _ _, ?_, answered_reply _ _ _ _ _ _⟩
  · show execTagHostTimeout s = _
    unfold execTagHostTimeout
    rw [hw]
    exact if_pos ⟨Option.isSome_iff_ne_none.mpr htxn, hlate⟩
  · rw [State.gv, State.gvs, reply_gls]
    exact State.gv_bump _ _

/-- Settles O52: one lemma for each access outside a transaction; within one it joins the waiting ones. -/
theorem tagMemoryOfTheHost : Obligations.TagMemoryOfTheHost := by
  unfold Obligations.TagMemoryOfTheHost
  refine ⟨fun s x req h htxn => ?_, fun s x req v h htxn => ?_, fun s x req v h htxn => ?_, fun s x req v d h htxn => ⟨?_, ?_⟩,
    fun s w l htxn hw hlate => tagHostTimeout_answers htxn hw hlate⟩
  · exact ⟨_, (exec_tagMemBlock h none).trans (congrArg Host.Outcome.next (tagHost_free htxn _)), tagRead_answers s x req⟩
  · exact ⟨_, (exec_tagMemBlock h (some v)).trans (congrArg Host.Outcome.next (tagHost_free htxn _)), tagWrite_answers s x req v⟩
  · exact ⟨_, (exec_tagCounterAdd h v).trans (congrArg Host.Outcome.next (tagHost_free htxn _)), tagHostAdd_answers s x req v⟩
  · refine ⟨_, (exec_tagMemBlock h d).trans (congrArg Host.Outcome.next (tagHost_waits htxn _)), ?_, rfl⟩
    exact (State.withTag_writes (wm := 134217728) (.refl _ s) rfl).merge
  · refine ⟨_, (exec_tagCounterAdd h v).trans (congrArg Host.Outcome.next (tagHost_waits htxn _)), ?_, rfl⟩
    exact (State.withTag_writes (wm := 134217728) (.refl _ s) rfl).merge

end Sys2Proof.Machine
end

section
/-! PROOF. Random jobs, noise channels and expanders (12 R464 to R492): a step of a host's random job, the retirement and the start of a
channel, the seeding of an expander, and the known-answer tests. -/

namespace Sys2Proof.Machine

open Sys2Proof

/-! ### Channels and expanders read and written (12 R464, R472) -/

theorem State.noise_withNoise (s : State) (c d : Nat) (f : NoiseCh → NoiseCh) :
    (s.withNoise c f).noise d = if d = c then f (s.noise c) else s.noise d := Tab.get_upd _ _ _ _ _

theorem State.expander_withExp (s : State) (e d : Nat) (f : Expander → Expander) :
    (s.withExp e f).expander d = if d = e then f (s.expander e) else s.expander d := Tab.get_upd _ _ _ _ _

/-- Every channel is in the state that it was in, and was retired when it was. -/
def SameChannels (s t : State) : Prop := ∀ c, (t.noise c).state = (s.noise c).state ∧ (t.noise c).retiredAt = (s.noise c).retiredAt

theorem SameChannels.refl (s : State) : SameChannels s s := fun _ => ⟨rfl, rfl⟩

theorem SameChannels.trans {s t u : State} (h : SameChannels s t) (k : SameChannels t u) : SameChannels s u :=
  fun c => ⟨(k c).1.trans (h c).1, (k c).2.trans (h c).2⟩

theorem SameChannels.of_chans {s t : State} (h : t.rng.chans = s.rng.chans) : SameChannels s t := by
  intro c
  rw [State.noise, State.noise, h]
  exact ⟨rfl, rfl⟩

theorem SameChannels.of_rng {s t : State} (h : t.rng = s.rng) : SameChannels s t := .of_chans (congrArg Rng.chans h)

/-- A channel after a seed has taken its bits. -/
def seedTaken (e : Nat) (x : NoiseCh) : NoiseCh := { x with used := x.used + seedBits e }

theorem seed_chans (s : State) (e c : Nat) :
    (seed s e).noise c = Tab.get {} (Tab.upd {} (Tab.upd {} s.rng.chans (seedPair s e).1 (seedTaken e)) (seedPair s e).2 (seedTaken e)) c := by
  rw [seed]
  rfl

theorem seed_expander (s : State) (e d : Nat) :
    (seed s e).expander d = if d = e then { s.expander e with inst := true, out := 0, seededAt := s.now } else s.expander d := by
  rw [seed]
  exact Tab.get_upd {} s.rng.exps e d (fun x => { x with inst := true, out := 0, seededAt := s.now })

/-- What a seeding takes of the two channels of its pair: their unused bits (12 R470). -/
theorem seed_noise {s : State} {e : Nat} (h : (seedPair s e).1 ≠ (seedPair s e).2) (c : Nat) :
    (seed s e).noise c = { s.noise c with
      used := (s.noise c).used + if c = (seedPair s e).1 ∨ c = (seedPair s e).2 then seedBits e else 0 } := by
  rw [seed_chans, Tab.get_upd, Tab.get_upd, Tab.get_upd, if_neg h.symm]
  by_cases h2 : c = (seedPair s e).2
  · rw [if_pos h2, if_pos (.inr h2), h2]
    rfl
  · by_cases h1 : c = (seedPair s e).1
    · rw [if_neg h2, if_pos h1, if_pos (.inl h1), h1]
      rfl
    · rw [if_neg h2, if_neg h1, if_neg (not_or.mpr ⟨h1, h2⟩)]
      rfl

theorem seed_sameChannels (s : State) (e : Nat) : SameChannels s (seed s e) := by
  have htaken {x y : NoiseCh} (h : x.state = y.state ∧ x.retiredAt = y.retiredAt) :
      (seedTaken e x).state = y.state ∧ (seedTaken e x).retiredAt = y.retiredAt := h
  have hupd {f : Tab NoiseCh} (hf : ∀ c, (f.get {} c).state = (s.noise c).state ∧ (f.get {} c).retiredAt = (s.noise c).retiredAt) (k c : Nat) :
      ((Tab.upd {} f k (seedTaken e)).get {} c).state = (s.noise c).state ∧
        ((Tab.upd {} f k (seedTaken e)).get {} c).retiredAt = (s.noise c).retiredAt := by
    rw [Tab.get_upd]
    split
    next h =>
      rw [h]
      exact htaken (hf k)
    next => exact hf c
  intro c
  rw [seed_chans]
  exact hupd (hupd (fun _ => ⟨rfl, rfl⟩) _) _ c

theorem foldl_sameChannels {α : Type} {f : State → α → State} (hf : ∀ u a, SameChannels u (f u a)) (l : List α) (s : State) :
    SameChannels s (l.foldl f s) := by
  induction l generalizing s with
  | nil => exact .refl s
  | cons a l ih => exact (hf s a).trans (ih (f s a))

theorem instantiate_sameChannels (s : State) (p : Nat) : SameChannels s (instantiate s p) :=
  foldl_sameChannels (f := fun s e => if (s.expander e).failed || !canSeed s e then s else seed s e) (fun u e => by
    split
    · exact .refl u
    · exact seed_sameChannels u e) _ s

theorem uninstantiate_sameChannels (s : State) (p : Nat) : SameChannels s (uninstantiate s p) :=
  foldl_sameChannels (f := fun s e => s.withExp e (fun x => { x with inst := false, out := 0 })) (fun _ _ => .of_chans rfl) _ s

theorem startHolds_sameChannels (s : State) : SameChannels s (startHolds s) :=
  .of_rng ((startHolds_writes (wm := 2186302592) (.refl _ s) rfl).rng rfl)

theorem onlyIf_sameChannels {f : State → State} (hf : ∀ u, SameChannels u (f u)) (b : Bool) (s : State) : SameChannels s (onlyIf b f s) := by
  unfold onlyIf
  split
  · exact hf s
  · exact .refl s

theorem gset_sameChannels (s : State) (e : GE) (v : Nat) : SameChannels s (s.gset e v) := .of_chans rfl

/-- Bringing a path up to date starts and retires no channel (12 R485 to R487). -/
theorem updatePath_sameChannels (s : State) (p : Nat) (retired : Bool) : SameChannels s (updatePath s p retired) := by
  unfold updatePath
  extract_lets n old s1 pending
  have h1 : SameChannels s s1 := gset_sameChannels s _ _
  split
  · split
    · exact h1.trans ((instantiate_sameChannels s1 p).trans (gset_sameChannels _ _ _))
    · split
      · exact h1
      · exact h1.trans ((gset_sameChannels _ _ _).trans (onlyIf_sameChannels startHolds_sameChannels _ _))
  · split
    · exact h1.trans ((uninstantiate_sameChannels s1 p).trans
        ((gset_sameChannels _ _ _).trans (onlyIf_sameChannels startHolds_sameChannels _ _)))
    · split
      · exact h1.trans ((onlyIf_sameChannels (fun u => uninstantiate_sameChannels u p) _ _).trans
          ((instantiate_sameChannels _ p).trans ((gset_sameChannels _ _ _).trans (onlyIf_sameChannels (f := endHolds) (fun _ => .of_chans rfl) _ _))))
      · exact h1

/-! ### Channels retired, restarted and passed (12 R464, R465, R478) -/

/-- A channel retired is RETIRED from now on; every other one is in the state that it was in. -/
theorem retireChan_retires (s : State) (c test : Nat) :
    ((retireChan s c test).noise c).state = 2 ∧ ((retireChan s c test).noise c).retiredAt = s.now ∧
      ∀ d, d ≠ c → ((retireChan s c test).noise d).state = (s.noise d).state := by
  have hstalled (u : State) (p : Nat) : SameChannels u (failStalled u p) :=
    .of_rng ((failStalled_writes (wm := 3260044448) (.refl _ u) rfl).rng rfl)
  unfold retireChan retire
  extract_lets ts s1 s2 s3
  have h3 : SameChannels s1 (failStalled (updatePath s3 (chanPath c) true) (chanPath c)) := by
    refine SameChannels.trans (.of_rng ?_) ((updatePath_sameChannels s3 _ _).trans (hstalled _ _))
    simp only [s3]
    split
    · rfl
    · split
      · rfl
      · rfl
  have hself : s1.noise c = { s.noise c with
      state := 2, retiredAt := s.now, retires := ts, stays := (s.noise c).stays || decide (3 ≤ ts.length) } :=
    (State.noise_withNoise s c c _).trans (if_pos rfl)
  refine ⟨(h3 c).1.trans (by rw [hself]), (h3 c).2.trans (by rw [hself]), fun d hd => (h3 d).1.trans ?_⟩
  exact congrArg NoiseCh.state ((State.noise_withNoise s c d _).trans (if_neg hd))

theorem exec_rngRetired {s : State} {c k : Nat} (hc : c < 8) (hstate : (s.noise c).state ≤ 1) (h1 : 1 ≤ k) (h3 : k ≤ 3) :
    exec (.rngRetired c k) s = .next (retireChan s c k) := by
  show execRngRetired c k s = _
  unfold execRngRetired
  simp only [hc, hstate, h1, h3, decide_true, Bool.true_and, and_self]
  rfl

theorem exec_startTimeout {s : State} {c : Nat} (hc : c < 8) (hstate : (s.noise c).state = 0)
    (hlate : (s.noise c).startedAt + usTicks 150 ≤ s.now) : exec (.startTimeout c) s = .next (retireChan s c 4) := by
  show execStartTimeout c s = _
  unfold execStartTimeout
  simp only [hc, hstate, hlate, decide_true, Bool.true_and, beq_self_eq_true]
  rfl

theorem channelRestart_starts {s : State} {c : Nat} (hc : c < 8) (hstate : (s.noise c).state = 2) (hstays : (s.noise c).stays = false)
    (hlate : (s.noise c).retiredAt + msTicks 100 ≤ s.now) :
    ∃ t, exec (.channelRestart c) s = .next t ∧ (t.noise c).state = 0 ∧ (t.noise c).startedAt = s.now ∧
      (∀ d, d ≠ c → t.noise d = s.noise d) ∧ { t with rng := s.rng } = s := by
  have hself : (startChan s c).noise c = { s.noise c with state := 0, startedAt := s.now, used := 0 } :=
    (State.noise_withNoise s c c _).trans (if_pos rfl)
  refine ⟨startChan s c, ?_, by rw [hself], by rw [hself], fun d hd => (State.noise_withNoise s c d _).trans (if_neg hd),
    (startChan_writes (wm := 2097152) (.refl _ s) rfl).merge⟩
  show execChannelRestart c s = _
  unfold execChannelRestart
  simp only [hc, hstate, hstays, hlate, decide_true, Bool.true_and, beq_self_eq_true, Bool.not_false]
  rfl

theorem startUpTest_passes {s : State} {c : Nat} (hc : c < 8) (hstate : (s.noise c).state = 0)
    (hlate : (s.noise c).startedAt + 4 * windowTicks c ≤ s.now) :
    ∃ t, exec (.startUpTestPassed c) s = .next t ∧ (t.noise c).state = 1 ∧ (∀ d, d ≠ c → (t.noise d).state = (s.noise d).state) := by
  let u := s.withNoise c (fun x => { x with state := 1 })
  have hsame : SameChannels u (makeMinuteKeys (updatePath u (chanPath c) false)) :=
    (updatePath_sameChannels u _ _).trans (.of_rng ((makeMinuteKeys_life _).rng rfl))
  refine ⟨makeMinuteKeys (updatePath u (chanPath c) false), ?_, (hsame c).1.trans ?_, fun d hd => (hsame d).1.trans ?_⟩
  · show execStartUpTestPassed c s = _
    unfold execStartUpTestPassed
    simp only [hc, hstate, hlate, decide_true, Bool.true_and, beq_self_eq_true]
    rfl
  · exact congrArg NoiseCh.state ((State.noise_withNoise s c c _).trans (if_pos rfl))
  · exact congrArg NoiseCh.state ((State.noise_withNoise s c d _).trans (if_neg hd))

/-! ### Expanders seeded (12 R470, R473, R474) -/

theorem reseed_seeds {s : State} {e : Nat} (he : e < 18) (hdue : ((s.expander e).inst = true ∧ reseedDue s e = true) ∨ instDue s e = true)
    (hbits : canSeed s e = true) :
    ∃ t, exec (.reseed e) s = .next t ∧ (t.expander e).inst = true ∧ (t.expander e).out = 0 ∧
      (t.expander e).seededAt = s.now ∧ (∀ d, d ≠ e → t.expander d = s.expander d) ∧
      (∀ c, (t.noise c).used = (s.noise c).used +
        (if c = (seedPair s e).1 ∨ c = (seedPair s e).2 then (if e < 16 then 320 else 640) else 0)) ∧
      { t with rng := s.rng } = s := by
  have hpair : (seedPair s e).1 ≠ (seedPair s e).2 := by
    unfold canSeed at hbits
    simp only [Bool.and_eq_true, bne_iff_ne] at hbits
    exact hbits.1.1
  have hwhen : (((s.expander e).inst && reseedDue s e) || instDue s e) = true := by
    rw [Bool.or_eq_true, Bool.and_eq_true]
    exact hdue
  refine ⟨seed s e, ?_, by rw [seed_expander, if_pos rfl], by rw [seed_expander, if_pos rfl], by rw [seed_expander, if_pos rfl], fun d hd => by rw [seed_expander, if_neg hd],
    fun c => by rw [seed_noise hpair c]; rfl, (seed_writes (wm := 2097152) (.refl _ s) rfl).merge⟩
  show execReseed e s = _
  unfold execReseed
  rw [hwhen, hbits, decide_eq_true he]
  rfl

theorem reseed_waits {s : State} {e : Nat} (hbits : canSeed s e = false) : exec (.reseed e) s = .next s := by
  show execReseed e s = _
  unfold execReseed
  rw [hbits, Bool.and_false]
  rfl

/-! ### The known-answer tests (12 R490) -/

theorem range_filter_beq {n c : Nat} (h : c < n) : (List.range n).filter (fun d => d == c) = [c] := by
  rw [List.filter_beq, List.count_eq_one_of_mem List.nodup_range (List.mem_range.mpr h), List.replicate_one]

/-- What is left once every unit that was tested has passed or failed. -/
theorem exec_rngKatRun {s : State} {w : Nat} (hmain : s.mainUp = true) (h1 : 1 ≤ w) (h3 : w ≤ 3) {failed ch ex : List Nat}
    (hch : (List.range 8).filter (fun c => w != 2 && failed.contains c && decide ((s.noise c).state ≤ 1)) = ch)
    (hex : (List.range 18).filter (fun e => w != 1 && failed.contains (8 + e)) = ex) :
    exec (.rngKatRun w failed) s = .next ((ex.foldl (fun s e => s.withExp e (fun _ => { failed := true }))
      (ch.foldl (fun s c => retireChan s c 3) s)).gset gRngKatResult (if ch.isEmpty && ex.isEmpty then 1 else 2)) := by
  have hw : (!s.mainUp || w == 0 || decide (3 < w)) = false := by
    simp only [hmain, Bool.not_true, Bool.false_or, Bool.or_eq_false_iff, beq_eq_false_iff_ne, decide_eq_false_iff_not]
    omega
  show execRngKatRun w failed s = _
  unfold execRngKatRun
  rw [hw, hch, hex]
  rfl

theorem rngKat_passes {s : State} {w : Nat} (hmain : s.mainUp = true) (h1 : 1 ≤ w) (h3 : w ≤ 3) :
    ∃ t, exec (.rngKatRun w []) s = .next t ∧ t.gv gRngKatResult = 1 ∧ t.rng = s.rng :=
  ⟨_, exec_rngKatRun hmain h1 h3 (ch := []) (ex := []) (by simp) (by simp), State.gv_gset _ _ _, rfl⟩

theorem rngKat_failsChannel {s : State} {w c : Nat} (hmain : s.mainUp = true) (h1 : 1 ≤ w) (h3 : w ≤ 3) (hw : w ≠ 2) (hc : c < 8)
    (hstate : (s.noise c).state ≤ 1) :
    ∃ t, exec (.rngKatRun w [c]) s = .next t ∧ t.gv gRngKatResult = 2 ∧ (t.noise c).state = 2 := by
  have hch : (List.range 8).filter (fun d => w != 2 && [c].contains d && decide ((s.noise d).state ≤ 1)) = [c] := by
    have hd (d : Nat) : (w != 2 && [c].contains d && decide ((s.noise d).state ≤ 1)) = (d == c) := by
      by_cases h : d = c
      · subst h
        simp [hw, hstate]
      · simp [h]
    simp only [hd]
    exact range_filter_beq hc
  have hex : (List.range 18).filter (fun e => w != 1 && [c].contains (8 + e)) = [] := by
    rw [List.filter_eq_nil_iff]
    intro e he
    have hne : 8 + e ≠ c := by omega
    simp [hne]
  exact ⟨_, exec_rngKatRun hmain h1 h3 hch hex, State.gv_gset _ _ _, (retireChan_retires s c 3).1⟩

theorem rngKat_failsExpander {s : State} {w e : Nat} (hmain : s.mainUp = true) (h1 : 1 ≤ w) (h3 : w ≤ 3) (hw : w ≠ 1) (he : e < 18) :
    ∃ t, exec (.rngKatRun w [8 + e]) s = .next t ∧ t.gv gRngKatResult = 2 ∧ (t.expander e).failed = true ∧
      (t.expander e).inst = false := by
  have hch : (List.range 8).filter (fun d => w != 2 && [8 + e].contains d && decide ((s.noise d).state ≤ 1)) = [] := by
    rw [List.filter_eq_nil_iff]
    intro d hd
    have hne : d ≠ 8 + e := by
      rw [List.mem_range] at hd
      omega
    simp [hne]
  have hex : (List.range 18).filter (fun d => w != 1 && [8 + e].contains (8 + d)) = [e] := by
    have hd (d : Nat) : (w != 1 && [8 + e].contains (8 + d)) = (d == e) := by
      by_cases h : d = e
      · subst h
        simp [hw]
      · simp [h]
    simp only [hd]
    exact range_filter_beq he
  have hself : (s.withExp e (fun _ => { failed := true })).expander e = { failed := true } :=
    (State.expander_withExp s e e _).trans (if_pos rfl)
  exact ⟨_, exec_rngKatRun hmain h1 h3 hch hex, State.gv_gset _ _ _, congrArg Expander.failed hself, congrArg Expander.inst hself⟩

/-! ### Random jobs (12 R474, R480, R482, R487, R491) -/

/-- In SHORT a job that reaches the scheduler ends RNG_UNAVAILABLE. -/
theorem randomBytes_short {s : State} {id : Nat} (hwants : wantsOutput s (s.job id) = true) (hshort : s.gv gRngState = 2) :
    ∃ t, exec (.randomBytes id) s = .next t ∧ Ended s t id 0x5002 [] 6 := by
  refine ⟨finish s id 0x5002 [] 6, ?_, finish_ended s id 0x5002 [] 6⟩
  show execRandomBytes id s = _
  unfold execRandomBytes
  simp only [hwants, hshort]
  rfl

theorem rngHold_expires {s : State} {id : Nat} (hphase : (s.job id).phase ≠ .finished) (hshort : s.gv gRngState = 2)
    (hheld : (s.job id).heldAt ≠ 0) (hlate : (s.job id).heldAt ≤ s.now) :
    ∃ t, exec (.rngHoldExpiry id) s = .next t ∧ Ended s t id 0x5002 [] 6 :=
  ⟨_, if_pos ⟨hphase, hshort, hheld, hlate⟩, finish_ended s id 0x5002 [] 6⟩

/-- The state in which a step of output draws: the visits made, an expander seeded afresh for FRESH, and the job out of staging. -/
def outputFrom (s s1 : State) (id e : Nat) : State :=
  let u := if bit (s.job id).d.param 0 then seed s1 e else s1
  if (u.job id).phase = .ready then toEngine u id else u

/-- The octets of the step drawn, written and counted. -/
def outputDrawn (s : State) (id n : Nat) : State :=
  ((rngDraw s 0 n).2.hostWrite (s.job id).part ((s.job id).d.resAddr + (s.job id).strm.done) (rngDraw s 0 n).1).bumpBys gRngHostBytes 0 n

/-- The job after a step that is not its last. -/
def outputNext (n : Nat) (b : Bytes) (j : Job) : Job :=
  { j with phase := .drawing, strm := { j.strm with done := j.strm.done + n, out := j.strm.out ++ b } }

/-- The job after a step of output. -/
def outputDone (s : State) (id n : Nat) : State :=
  if (s.job id).strm.done + n = (s.job id).d.resCap then
    finishWith (outputDrawn s id n) id 0 ((s.job id).strm.out ++ (rngDraw s 0 n).1) 4 0 (s.job id).d.resCap
  else (outputDrawn s id n).withJob id (outputNext n (rngDraw s 0 n).1)

theorem exec_randomBytes {s s1 : State} {id e : Nat} (hwants : wantsOutput s (s.job id) = true) (hshort : s.gv gRngState ≠ 2)
    (hturn : rngTurn s 0x0701 = true) (hlink : s.link.state = .l0) (hexp : readyExp s 0 = some e)
    (hpart : outputPart s = some ((s.job id).part, s1)) (hjob : outputJob s1 (s.job id).part = some id)
    (hfresh : bit (s.job id).d.param 0 = true → canSeed s e = true) :
    exec (.randomBytes id) s = .next (outputCharge
      (outputStep (if bit (s.job id).d.param 0 then seed s1 e else s1) id) (s.job id).part
        (min 4096 ((s.job id).d.resCap - (s.job id).strm.done))) := by
  have hblocked : ¬ (outputJob s1 (s.job id).part ≠ some id ∨ (bit (s.job id).d.param 0 = true ∧ (!canSeed s e) = true)) := by
    rintro (h | ⟨hbit, hno⟩)
    · exact h hjob
    · rw [hfresh hbit] at hno
      exact absurd hno (by decide)
  have hready : ¬ ((!rngTurn s 0x0701) = true ∨ s.link.state ≠ .l0) := by
    rw [hturn, hlink]
    decide
  show execRandomBytes id s = _
  unfold execRandomBytes
  simp only [hwants]
  rw [if_neg (by decide), if_neg hshort, if_neg hready, hpart, hexp]
  exact if_neg hblocked

/-- Up to the draw only the sources, rings, intake and the job's slot have changed. -/
theorem outputFrom_writes {s s1 : State} {id : Nat} (h : Writes 2097152 s s1) (e : Nat) : Writes 2102784 s (outputFrom s s1 id e) := by
  unfold outputFrom
  extract_lets u
  have hu : Writes 2097152 s u := by
    simp only [u]
    split
    · exact seed_writes h rfl
    · exact h
  split
  · exact toEngine_writes (hu.mono rfl) rfl
  · exact hu.mono rfl

theorem outputFrom_job {s s1 : State} {id : Nat} (h : Writes 2097152 s s1) (e : Nat) :
    (∀ k, k ≠ id → (outputFrom s s1 id e).job k = s.job k) ∧
      ((outputFrom s s1 id e).job id).part = (s.job id).part ∧ ((outputFrom s s1 id e).job id).d = (s.job id).d ∧
      ((outputFrom s s1 id e).job id).strm = (s.job id).strm := by
  unfold outputFrom
  extract_lets u
  have hu : u.jobs = s.jobs := by
    simp only [u]
    split
    · exact (seed_writes (wm := 2097152) h rfl).jobs rfl
    · exact h.jobs rfl
  split
  · refine ⟨fun k hk => (toEngine_job_other u hk).trans (State.job_congr hu k), ?_⟩
    rw [toEngine_job_self, State.job_congr hu]
    exact ⟨rfl, rfl, rfl⟩
  · refine ⟨fun k _ => State.job_congr hu k, ?_⟩
    rw [State.job_congr hu]
    exact ⟨rfl, rfl, rfl⟩

theorem outputStep_eq (s s1 : State) (id e : Nat) :
    outputStep (if bit (s.job id).d.param 0 then seed s1 e else s1) id =
      outputDone (outputFrom s s1 id e) id
        (min 4096 (((outputFrom s s1 id e).job id).d.resCap - ((outputFrom s s1 id e).job id).strm.done)) := by
  unfold outputStep outputDone
  rfl

/-- What a step draws, it writes to the job's result and counts; no job has changed. -/
theorem outputDrawn_draws (s : State) (id n : Nat) :
    (outputDrawn s id n).hostMem =
        Mem.write 0 s.hostMem (hostPlace (s.job id).part ((s.job id).d.resAddr + (s.job id).strm.done)) (rngDraw s 0 n).1 ∧
      (outputDrawn s id n).gv gRngHostBytes = (s.gv gRngHostBytes + n) % 2 ^ 64 ∧ (outputDrawn s id n).jobs = s.jobs := by
  have hd : Writes 2097154 s (rngDraw s 0 n).2 := (rngDraw_writes (.refl _ s) rfl).snd
  refine ⟨?_, ?_, hd.jobs rfl⟩
  · show Mem.write 0 (rngDraw s 0 n).2.hostMem _ _ = _
    rw [hd.hostMem rfl]
  · refine (State.gvs_gsets _ _ _ _).trans ?_
    have hgls : ((rngDraw s 0 n).2.hostWrite (s.job id).part ((s.job id).d.resAddr + (s.job id).strm.done) (rngDraw s 0 n).1).gls = s.gls :=
      hd.gls rfl
    rw [State.gvs, hgls]
    rfl

theorem outputDone_frame (s : State) (id n : Nat) :
    (outputDone s id n).hostMem = (outputDrawn s id n).hostMem ∧ (outputDone s id n).gls = (outputDrawn s id n).gls := by
  unfold outputDone
  split
  · have h : Writes 2186302592 (outputDrawn s id n) (finishWith (outputDrawn s id n) id 0
        ((s.job id).strm.out ++ (rngDraw s 0 n).1) 4 0 (s.job id).d.resCap) := finishWith_writes (.refl _ _) rfl
    exact ⟨h.hostMem rfl, h.gls rfl⟩
  · exact ⟨rfl, rfl⟩

theorem rngDraw_length (s : State) (p n : Nat) : (rngDraw s p n).1.length = n := drawBytes_len s n

/-- A step of a host's random job: its octets, and the job's end or its next state (12 R430, R491). -/
theorem randomBytes_writes {s s1 : State} {id e : Nat} (hwants : wantsOutput s (s.job id) = true) (hshort : s.gv gRngState ≠ 2)
    (hturn : rngTurn s 0x0701 = true) (hlink : s.link.state = .l0) (hexp : readyExp s 0 = some e)
    (hpart : outputPart s = some ((s.job id).part, s1)) (hjob : outputJob s1 (s.job id).part = some id)
    (hfresh : bit (s.job id).d.param 0 = true → canSeed s e = true) :
    let j := s.job id
    let n := min 4096 (j.d.resCap - j.strm.done)
    let b := (rngDraw s 0 n).1
    ∃ t, exec (.randomBytes id) s = .next t ∧
      t.hostMem = Mem.write 0 s.hostMem (hostPlace j.part (j.d.resAddr + j.strm.done)) b ∧ b.length = n ∧
      t.gv gRngHostBytes = (s.gv gRngHostBytes + n) % 2 ^ 64 ∧
      (j.strm.done + n = j.d.resCap → Ended s t id 0 (j.strm.out ++ b) 4 ∧ (t.job id).random = j.d.resCap) ∧
      (j.strm.done + n ≠ j.d.resCap → (t.job id).phase = .drawing ∧ (t.job id).strm.done = j.strm.done + n ∧
        (t.job id).strm.out = j.strm.out ++ b ∧ (∀ k, k ≠ id → t.job k = s.job k)) := by
  intro j n b
  let u := outputFrom s s1 id e
  have hs1 : Writes 2097152 s s1 := WritesOptSnd.of_eq hpart (outputPart_writes (.refl _ s) rfl)
  have hu : Writes 2102784 s u := outputFrom_writes hs1 e
  obtain ⟨hother, hpart', hd, hstrm⟩ := outputFrom_job hs1 e
  have hb : (rngDraw u 0 n).1 = b := rngDraw_fst_congr (hu.free rfl) 0 n
  have hexec := exec_randomBytes hwants hshort hturn hlink hexp hpart hjob hfresh
  rw [outputStep_eq, hd, hstrm] at hexec
  obtain ⟨hmem, hcount, hjobs⟩ := outputDrawn_draws u id n
  obtain ⟨hmem', hgls'⟩ := outputDone_frame u id n
  refine ⟨outputCharge (outputDone u id n) j.part n, hexec, hmem'.trans (hmem.trans ?_), rngDraw_length s 0 n, ?_, fun hlast => ?_,
    fun hmore => ?_⟩
  · rw [hu.hostMem rfl, hpart', hd, hstrm, hb]
  · show Tab.get _ (outputDone u id n).gls _ = _
    rw [hgls']
    refine hcount.trans ?_
    rw [State.gv, State.gvs, hu.gls rfl]
    rfl
  · have hdone : outputDone u id n = finishWith (outputDrawn u id n) id 0 (j.strm.out ++ b) 4 0 j.d.resCap := by
      rw [outputDone, hstrm, hd, if_pos hlast, hb]
    have hend := finishWith_ended (outputDrawn u id n) id 0 (j.strm.out ++ b) 4 0 j.d.resCap
    rw [← hdone] at hend
    obtain ⟨hended, -, hrandom⟩ := hend
    have hended' : Ended s (outputDone u id n) id 0 (j.strm.out ++ b) 4 :=
      hended.of_others fun k hk => (State.job_congr hjobs k).trans (hother k hk)
    exact ⟨⟨hended'.1, hended'.2⟩, hrandom⟩
  · have hdone : outputDone u id n = (outputDrawn u id n).withJob id (outputNext n b) := by
      rw [outputDone, hstrm, hd, if_neg hmore, hb]
    have hself : (outputDone u id n).job id = outputNext n b (u.job id) := by
      rw [hdone, State.withJob_job, if_pos rfl, State.job_congr hjobs]
    have hrest (k : Nat) (hk : k ≠ id) : (outputDone u id n).job k = s.job k := by
      rw [hdone, State.withJob_job, if_neg hk, State.job_congr hjobs]
      exact hother k hk
    have hcharge (k : Nat) : (outputCharge (outputDone u id n) j.part n).job k = (outputDone u id n).job k := rfl
    simp only [hcharge, hself]
    refine ⟨rfl, ?_, ?_, hrest⟩
    · show (u.job id).strm.done + n = _
      rw [hstrm]
    · show (u.job id).strm.out ++ b = _
      rw [hstrm]

/-- Settles O28: the random job by its one step (`randomBytes_writes`), the channels by `retireChan_retires` and
`updatePath_sameChannels`, the expanders by `seed_noise` and `seed_expander`. -/
theorem randomJobsAndChannels : Obligations.RandomJobsAndChannels := by
  unfold Obligations.RandomJobsAndChannels
  refine ⟨fun s id hwants hshort => randomBytes_short hwants hshort,
    fun s s1 id e hwants hshort hturn hlink hexp hpart hjob hfresh => randomBytes_writes hwants hshort hturn hlink hexp hpart hjob hfresh,
    fun s id hphase hshort hheld hlate => rngHold_expires hphase hshort hheld hlate,
    fun s c k hc hstate h1 h3 => ⟨_, exec_rngRetired hc hstate h1 h3, retireChan_retires s c k⟩, fun s c hc hstate hlate => ?_,
    fun s c hc hstate hstays hlate => channelRestart_starts hc hstate hstays hlate,
    fun s c hc hstate hlate => startUpTest_passes hc hstate hlate,
    fun s e he hdue => ⟨fun hbits => reseed_seeds he hdue hbits, fun hbits => reseed_waits hbits⟩,
    fun s w hmain h1 h3 => ⟨rngKat_passes hmain h1 h3, fun c hw hc hstate => rngKat_failsChannel hmain h1 h3 hw hc hstate,
      fun e hw he => rngKat_failsExpander hmain h1 h3 hw he⟩⟩
  obtain ⟨hself, -, hother⟩ := retireChan_retires s c 4
  exact ⟨_, exec_startTimeout hc hstate hlate, hself, hother⟩

end Sys2Proof.Machine
end

section
/-! PROOF. Tamper (20 R717 to R733; 17 R634): samples, a batch of one ALERT, the end of a QUIESCE hold, the acknowledgement and a crossing
time-out. -/

namespace Sys2Proof.Machine

open Sys2Proof

/-! ### Samples (20 R717 to R719) -/

/-- A condition that no longer holds stands no more. -/
theorem monitorSample_ends {s : State} {m u : Nat} (v : Nat) (hwatched : watched s m = true) (hign : ignored s m u = false) :
    ∃ t, exec (.monitorSample m u v false) s = .next t ∧ (t.tamper.mons.get {} m).standing = false ∧
      (∀ k, k ≠ m → t.tamper.mons.get {} k = s.tamper.mons.get {} k) ∧ { t with tamper := s.tamper } = s := by
  let t := s.withTamper (fun t => { t with mons := t.mons.upd {} m (fun x => { x with standing := false }) })
  have hmons (k : Nat) : t.tamper.mons.get {} k =
      if k = m then { s.tamper.mons.get {} m with standing := false } else s.tamper.mons.get {} k :=
    Tab.get_upd {} s.tamper.mons m k (fun x => { x with standing := false })
  refine ⟨t, ?_, by rw [hmons, if_pos rfl], fun k hk => by rw [hmons, if_neg hk],
    (State.withTamper_writes (wm := 262144) (.refl _ s) rfl).merge⟩
  show execMonitorSample m u v false s = _
  unfold execMonitorSample
  rw [hwatched, hign]
  rfl

/-- The state once an event of a monitor is counted that is the first in its window and raises no alarm. -/
def eventCounted (s : State) (m : Nat) : State :=
  let held := b2n (s.tamper.holdUntil.isSome && s.tamper.holdMons.contains m)
  (s.bumps gTamperMonEvents m).withTamper (fun t => { t with mons := t.mons.set m { times := [s.now], standing := false, inHold := held } })

theorem countEvent_alone {s : State} {m : Nat} (v : Nat) (hnew : s.tamper.mons.get {} m = {}) (hn : 1 < s.monN m) :
    countEvent s m v = eventCounted s m := by
  have hlow : ¬ s.monN m ≤ 1 := Nat.not_le_of_gt hn
  unfold countEvent eventCounted
  rw [hnew]
  simp only [List.filter_nil, List.nil_append, List.length_singleton, hlow, decide_false, Bool.false_and, Bool.false_eq_true, if_false, Bool.or_false,
    Nat.zero_add]

theorem eventCounted_events (s : State) (m : Nat) :
    (eventCounted s m).gvs gTamperMonEvents m = (s.gvs gTamperMonEvents m + 1) % 2 ^ 64 := State.gvs_gsets _ _ _ _

theorem eventCounted_alarms (s : State) (m : Nat) : (eventCounted s m).gvs gTamperMonAlarms m = s.gvs gTamperMonAlarms m := by
  have hkeys : gTamperMonAlarms.key ≠ gTamperMonEvents.key := by decide
  exact State.gvs_gsets_other s (by omega)

/-- Of a monitor that is neither a report nor the state-code check, a sample that holds counts one event. -/
theorem monitorSample_counts {s : State} {m u : Nat} (v : Nat) (hwatched : watched s m = true) (hign : ignored s m u = false)
    (h15 : m ≠ 15) (h18 : m ≠ 18) (h19 : m ≠ 19) (hnew : s.tamper.mons.get {} m = {}) (hn : 1 < s.monN m) :
    exec (.monitorSample m u v true) s = .next (eventCounted s m) := by
  have hclock : countClock s u v = if m = 5 then eventCounted s m else countClock s u v := by
    split
    next h5 =>
      subst h5
      unfold countClock
      rw [countEvent_alone v hnew hn]
      exact if_pos (eventCounted_alarms s 5)
    next => rfl
  show execMonitorSample m u v true s = _
  unfold execMonitorSample
  rw [hwatched, hign, if_neg (by decide), if_neg (by decide), if_neg (by omega), if_neg h15]
  split
  next h5 => rw [hclock, if_pos h5]
  next => rw [countEvent_alone v hnew hn]

theorem monitorSample_ignored {s : State} {m u : Nat} (v : Nat) (b : Bool) (hign : ignored s m u = true) :
    exec (.monitorSample m u v b) s = .next s := by
  show execMonitorSample m u v b s = _
  unfold execMonitorSample
  rw [hign, Bool.or_true]
  rfl

/-! ### A batch of one ALERT (20 R730, R849) -/

theorem bit_set (v k : Nat) : bit (if bit v k then v else v + 2 ^ k) k = true := by
  cases h : bit v k
  · rw [if_neg Bool.false_ne_true, bit, beq_iff_eq, Nat.add_div_right _ (Nat.two_pow_pos k)]
    rw [bit, beq_eq_false_iff_ne] at h
    omega
  · rw [if_pos rfl, h]

theorem State.msixAlert_sent {s : State} (hlink : s.link.state = .l0) (hhot : s.link.d3hot = false) :
    s.msixAlert.link.msixSent = s.link.msixSent ++ [(0, 0)] := by
  rw [State.msixAlert, if_pos hlink, State.msix_sent hlink hhot]
  rfl

/-- The pending bit of an alarm set. -/
def alertNoted (s : State) (a : Alarm) : State :=
  s.gset gTamperAlertPending
    (if bit (s.gv gTamperAlertPending) a.mon then s.gv gTamperAlertPending else s.gv gTamperAlertPending + 2 ^ a.mon)

/-- ALERT of one alarm: its pending bit, and what tells of it. -/
theorem alertBatch_one (s : State) (a : Alarm) : Writes 134742020 (alertNoted s a).msixAlert (alertBatch s [a]) := by
  unfold alertBatch
  extract_lets bitsOn s1 s2 s3
  have h3 : Writes 134742020 s1 s3 := refreshTag_writes (State.notify_writes (.refl _ s1) rfl) rfl
  split
  · exact State.withPower_writes h3 rfl
  · exact h3

theorem exec_batchExecute_alert {s : State} {a : Alarm} (hsupply : s.hostSupply = true) (hbatch : s.tamper.batch = [a]) (hresp : a.resp = 1)
    (hlate : s.tamper.batchAt + usTicks 1 ≤ s.now) :
    exec .batchExecute s = .next (actionRec (alertBatch (s.withTamper (fun t => { t with batch := [] })) [a]) 1 0) := by
  have hdue : decide (s.now < s.tamper.batchAt + usTicks 1) = false := decide_eq_false (Nat.not_lt.mpr hlate)
  show execBatchExecute s = _
  unfold execBatchExecute
  simp only [hbatch, hsupply, hdue, List.any_cons, List.any_nil, hresp, List.filter_cons, List.filter_nil]
  rfl

/-- The response of a batch that holds one alarm of ALERT. -/
theorem batchExecute_alerts {s : State} {a : Alarm} (hsupply : s.hostSupply = true) (hbatch : s.tamper.batch = [a]) (hresp : a.resp = 1)
    (hlate : s.tamper.batchAt + usTicks 1 ≤ s.now) :
    ∃ t, exec .batchExecute s = .next t ∧ t.tamper.batch = [] ∧ bit (t.gv gTamperAlertPending) a.mon = true ∧
      t.keys = s.keys ∧ t.jobs = s.jobs ∧
      (s.link.state = .l0 → s.link.d3hot = false → t.link.msixSent = s.link.msixSent ++ [(0, 0)]) := by
  let s0 := s.withTamper (fun t => { t with batch := [] })
  let u := alertNoted s0 a
  have hmsix : Writes 128 u u.msixAlert := State.msixAlert_writes (.refl _ u) rfl
  have hrec : Writes 32 (alertBatch s0 [a]) (actionRec (alertBatch s0 [a]) 1 0) := actionRec_writes (.refl _ _) rfl
  have halert : Writes 134742020 u.msixAlert (alertBatch s0 [a]) := alertBatch_one s0 a
  refine ⟨_, exec_batchExecute_alert hsupply hbatch hresp hlate, ?_, ?_, ?_, ?_, fun hlink hhot => ?_⟩
  · rw [hrec.tamper rfl, halert.tamper rfl, hmsix.tamper rfl]
    rfl
  · rw [State.gv, State.gvs, hrec.gls rfl, halert.gls rfl, hmsix.gls rfl]
    exact (congrArg (fun v => bit v a.mon) (State.gv_gset s0 _ _)).trans (bit_set _ _)
  · rw [hrec.keys rfl, halert.keys rfl, hmsix.keys rfl]
    rfl
  · rw [hrec.jobs rfl, halert.jobs rfl, hmsix.jobs rfl]
    rfl
  · rw [hrec.link rfl, halert.link rfl]
    exact State.msixAlert_sent (s := u) hlink hhot

/-! ### The QUIESCE hold, the acknowledgement and crossings (20 R726, R733; 17 R634) -/

theorem quiesceHold_lifts {s : State} {n : Nat} (hhold : s.tamper.holdUntil = some n) (hlate : n ≤ s.now)
    (hcold : ∀ m, m ∈ s.tamper.holdMons → (s.tamper.mons.get {} m).inHold = 0) :
    ∃ t, exec .quiesceHoldEnd s = .next t ∧ t.tamper.holdUntil = none ∧ t.gv gTamperQuiesceActive = 0 ∧ t.keys = s.keys := by
  have hnone : s.tamper.holdMons.filter (fun m => decide (0 < (s.tamper.mons.get {} m).inHold)) = [] := by
    rw [List.filter_eq_nil_iff]
    intro m hm
    rw [hcold m hm]
    decide
  refine ⟨(s.withTamper (fun t => { t with holdUntil := none, holdMons := [] })).gset gTamperQuiesceActive 0, ?_, rfl, State.gv_gset _ _ _, rfl⟩
  show execQuiesceHoldEnd s = _
  unfold execQuiesceHoldEnd
  rw [hhold]
  simp only [hnone]
  exact if_neg (Nat.not_lt.mpr hlate)

theorem alertAck_clears {s : State} {x : SessId} {req : BitVec 16} {v : Bytes} (hserved : Served s x req)
    (hcheck : writeCheck s x 0x500002 v true false = 0) :
    ∃ t, exec (.alertAck x req v) s = .next t ∧ Answered t x (statusReply 0x11 req 0 []) ∧
      t.gv gTamperAlertPending = (BitVec.ofNat 32 (s.gv gTamperAlertPending) &&& ~~~(BitVec.ofNat 32 (leNat v))).toNat := by
  refine ⟨replyStatus (s.gset gTamperAlertPending
    (BitVec.ofNat 32 (s.gv gTamperAlertPending) &&& ~~~(BitVec.ofNat 32 (leNat v))).toNat) x 0x11 req 0 [], ?_, answered_reply _ _ _ _ _ _, ?_⟩
  · show execAlertAck x req v s = _
    rw [execAlertAck, actWrite_ok hserved hcheck]
  · rw [State.gv, State.gvs, reply_gls]
    exact State.gv_gset _ _ _

/-- An island that is neither a squad's nor a stream engine's is lost by its own mark. -/
theorem loseIsland_isl {s : State} {n : Nat} (hn : 140 ≤ n) (hisl : s.isl n < 2) (cause : Nat) : (loseIsland s n cause).isl n = 3 := by
  have h3 : s.isl n ≠ 3 := by omega
  unfold loseIsland
  rw [if_neg (by omega), if_neg (by omega), if_neg h3]
  have hevent (u : State) (a b c : Nat) (l : Bytes) : (u.event a b c l).isl n = u.isl n := by
    rw [State.isl, State.event_islands]
    rfl
  rw [hevent, State.isl_setIsl]

theorem crossingTimeout_takesOut {s : State} {n : Nat} (hlow : 140 ≤ n) (hhigh : n ≤ 243) (hisl : s.isl n < 2) (htmp : n ≠ 236) :
    ∃ t, exec (.crossingTimeout n) s = .next t ∧ t.isl n = 3 := by
  refine ⟨loseIsland s n 1, ?_, loseIsland_isl hlow hisl 1⟩
  show execCrossingTimeout n s = _
  rw [execCrossingTimeout, if_neg (by omega), takeOut]
  exact congrArg Host.Outcome.next (if_neg htmp)

/-- Settles O33: one lemma for each event. -/
theorem tamperResponses : Obligations.TamperResponses := by
  unfold Obligations.TamperResponses
  refine ⟨fun s m u v hwatched hign => monitorSample_ends v hwatched hign,
    fun s m u v hwatched hign h15 h18 h19 hnew hn => ?_, fun s m u v b hign => monitorSample_ignored v b hign,
    fun s a hsupply hbatch hresp hlate => batchExecute_alerts hsupply hbatch hresp hlate,
    fun s n hhold hlate hcold => quiesceHold_lifts hhold hlate hcold,
    fun s x req v hserved hcheck => alertAck_clears hserved hcheck,
    fun s n hlow hhigh hisl htmp => crossingTimeout_takesOut hlow hhigh hisl htmp, fun s n hisl => if_pos (.inr hisl)⟩
  refine ⟨_, monitorSample_counts v hwatched hign h15 h18 h19 hnew hn, ?_, eventCounted_events s m, rfl, rfl, rfl⟩
  exact congrArg MonSt.times (Tab.get_set_self {} s.tamper.mons m _)

end Sys2Proof.Machine
end

section
/-! PROOF. Flash queues (16 R601 to R606): the head taken, the completion entry and what it reads as, and what either leaves of the
arrays. -/

namespace Sys2Proof.Machine

open Sys2Proof

/-! ### Little-endian values read back from memory (00 R8) -/

theorem leNat_toLE (n v : Nat) : leNat (toLE n v) = v % 256 ^ n := by
  induction n generalizing v with
  | zero => rw [toLE, leNat, Nat.pow_zero, Nat.mod_one]
  | succ n ih =>
    rw [toLE, leNat, ih, BitVec.toNat_ofNat, Nat.pow_succ' (m := 256)]
    exact Nat.mod_mul.symm

/-- Part of a value that was written reads as that part. -/
theorem leNat_read_write {m : Mem} (hm : Mem.wf 0 m = true) (a v : Nat) {k off n : Nat} (h : off + n ≤ k) :
    leNat (Mem.read 0 (Mem.write 0 m a (toLE k v)) (a + off) n) = v / 256 ^ off % 256 ^ n := by
  have hread : Mem.read 0 (Mem.write 0 m a (toLE k v)) (a + off) n = toLE n (v / 256 ^ off) := by
    refine List.ext_getElem (by rw [Mem.read, List.length_map, List.length_range, length_toLE]) fun i hi _ => ?_
    rw [Mem.read, List.length_map, List.length_range] at hi
    have hin : off + i < (toLE k v).length := by rw [length_toLE]; omega
    simp only [Mem.read, List.getElem_map, List.getElem_range, getElem_toLE]
    rw [Nat.add_assoc, Mem.get_write_inside _ a (off + i) hm hin, getElem_toLE, Nat.div_div_eq_div_mul, ← Nat.pow_add]
  rw [hread, leNat_toLE]

/-! ### Beside the queues (16 R601) -/

/-- Sectors, banks, blocks and the log are as before: beside the registers of its queues neither array has changed. -/
def SameArrays (s t : State) : Prop :=
  { t.code with queues := s.code.queues } = s.code ∧ { t.vault with queues := s.vault.queues } = s.vault

theorem SameArrays.refl (s : State) : SameArrays s s := ⟨rfl, rfl⟩

theorem SameArrays.trans {s t u : State} (h : SameArrays s t) (k : SameArrays t u) : SameArrays s u :=
  ⟨(congrArg (fun c => { c with queues := s.code.queues }) k.1).trans h.1,
    (congrArg (fun v => { v with queues := s.vault.queues }) k.2).trans h.2⟩

theorem SameArrays.banks {s t : State} (h : SameArrays s t) : t.code.banks = s.code.banks := by
  have h := congrArg CodeFlash.banks h.1
  exact h

theorem SameArrays.sectors {s t : State} (h : SameArrays s t) : t.code.sectors = s.code.sectors := by
  have h := congrArg CodeFlash.sectors h.1
  exact h

theorem SameArrays.waits {s t : State} (h : SameArrays s t) : t.code.waits = s.code.waits := by
  have h := congrArg CodeFlash.waits h.1
  exact h

theorem SameArrays.sector {s t : State} (h : SameArrays s t) (n : Nat) : sector t n = sector s n := by
  unfold Sys2Proof.Machine.sector
  rw [h.sectors]

theorem SameArrays.runs {s t : State} (h : SameArrays s t) : t.vault.runs = s.vault.runs := by
  have h := congrArg Vault.runs h.2
  exact h

theorem SameArrays.vbank {s t : State} (h : SameArrays s t) (b : Nat) : t.vbank b = s.vbank b := by
  have hb : t.vault.banks = s.vault.banks := by
    have h := congrArg Vault.banks h.2
    exact h
  rw [State.vbank, hb]
  rfl

theorem SameArrays.of_writes {s t : State} {m : Nat} (h : Writes m s t) (hc : m.testBit 23 = false) (hv : m.testBit 24 = false) :
    SameArrays s t := by
  rw [SameArrays, h.code hc, h.vault hv]
  exact ⟨rfl, rfl⟩

theorem State.withFQueue_sameArrays (s : State) (q : FlashQ) (f : FQueue → FQueue) : SameArrays s (s.withFQueue q f) := by
  cases q <;> exact ⟨rfl, rfl⟩

/-! ### The head taken (16 R606) -/

theorem takeHead_queue (s : State) (q : FlashQ) : (takeHead s q).fqueue q = { s.fqueue q with headN := (s.fqueue q).headN + 1 } := by
  cases q <;> exact Tab.get_upd_self _ _ _ (fun x : FQueue => { x with headN := x.headN + 1 })

theorem takeHead_writes_turn (s : State) (q : FlashQ) : Writes 25165824 s (takeHead s q) := takeHead_writes (.refl _ s) rfl

/-- The turn and the queue's head have moved; banks, sectors, waiting descriptors and the log stand. -/
theorem takeHead_arrays (s : State) (q : FlashQ) :
    (takeHead s q).code.banks = s.code.banks ∧ (takeHead s q).code.sectors = s.code.sectors ∧ (takeHead s q).code.waits = s.code.waits ∧
      { (takeHead s q).vault with queues := s.vault.queues, turn := s.vault.turn } = s.vault := by
  cases q <;> exact ⟨rfl, rfl, rfl, rfl⟩

/-! ### Completion entries (16 Table 5) -/

/-- The value of the completion entry that a queue writes next. -/
def entryValue (x : FQueue) (op tag status done retry result aux : Nat) : Nat :=
  b2n (decide (qIdx x.cqN x.entries < x.entries)) + 2 * qIdx x.headN x.entries + 2 ^ 40 * retry + 2 ^ 44 * op +
    2 ^ 48 * status + 2 ^ 64 * tag + 2 ^ 96 * done + 2 ^ 128 * aux + 2 ^ 192 * result

theorem entryValue_low {x : FQueue} (h0 : x.entries ≠ 0) (h1 : x.entries ≤ 4096) :
    b2n (decide (qIdx x.cqN x.entries < x.entries)) + 2 * qIdx x.headN x.entries < 2 ^ 40 := by
  have hq : qIdx x.headN x.entries < 2 * x.entries := Nat.mod_lt _ (by omega)
  have hb := b2n_le_one (decide (qIdx x.cqN x.entries < x.entries))
  omega

/-- Bytes 6 and 7 of an entry are its status. -/
theorem entryValue_status {x : FQueue} (h0 : x.entries ≠ 0) (h1 : x.entries ≤ 4096) {op status retry : Nat} (hop : op < 16)
    (hretry : retry < 16) (hstatus : status < 65536) (tag done result aux : Nat) :
    entryValue x op tag status done retry result aux / 256 ^ 6 % 256 ^ 2 = status := by
  have hlow := entryValue_low h0 h1
  unfold entryValue
  omega

/-- Bytes 24 to 31 of an entry without bytes done and without a second address are its result. -/
theorem entryValue_result {x : FQueue} (h0 : x.entries ≠ 0) (h1 : x.entries ≤ 4096) {op tag : Nat} (hop : op < 16) (htag : tag < 2 ^ 32)
    (result : Nat) : entryValue x op tag 0 0 0 result 0 / 256 ^ 24 % 256 ^ 8 = result % 2 ^ 64 := by
  have hlow := entryValue_low h0 h1
  unfold entryValue
  omega

theorem settleQueue_sameArrays (s : State) (q : FlashQ) : SameArrays s (settleQueue s q) := by
  unfold settleQueue
  split
  · exact State.withFQueue_sameArrays s q _
  · exact .refl s

/-- A queue that settles keeps its counts. -/
theorem settleQueue_counts (s : State) (q : FlashQ) :
    ((settleQueue s q).fqueue q).headN = (s.fqueue q).headN ∧ ((settleQueue s q).fqueue q).cqN = (s.fqueue q).cqN := by
  unfold settleQueue
  split
  · rw [State.fqueue_withFQueue]
    exact ⟨rfl, rfl⟩
  · exact ⟨rfl, rfl⟩

theorem settleQueue_mem (s : State) (q : FlashQ) : (settleQueue s q).mem = s.mem :=
  (settleQueue_writes (wm := 25165824) (.refl _ s) rfl).mem rfl

/-- The state in which an entry stands and is counted, before the queue's SEV. -/
def entryPut (s : State) (q : FlashQ) (e : Bytes) : State :=
  State.withFQueue { s with mem := Mem.write 0 s.mem (entryAt s q) e } q (fun x => { x with cqN := x.cqN + 1 })

theorem entryPut_mem (s : State) (q : FlashQ) (e : Bytes) : (entryPut s q e).mem = Mem.write 0 s.mem (entryAt s q) e := by
  cases q <;> rfl

theorem entryPut_queue (s : State) (q : FlashQ) (e : Bytes) :
    (entryPut s q e).fqueue q = { s.fqueue q with cqN := (s.fqueue q).cqN + 1 } := by
  rw [entryPut, State.fqueue_withFQueue]
  cases q <;> rfl

theorem entryPut_sameArrays (s : State) (q : FlashQ) (e : Bytes) : SameArrays s (entryPut s q e) := by
  cases q <;> exact ⟨rfl, rfl⟩

theorem sendEvents_queue (s : State) (mask : Nat) (b : Option Nat) (q : FlashQ) : (sendEvents s mask b).fqueue q = s.fqueue q := by
  have hw : Writes 33554432 s (sendEvents s mask b) := sendEvents_writes (.refl _ s) rfl
  cases q with
  | code k => exact congrArg (fun c => Tab.get {} c.queues k) (hw.code rfl)
  | vault k => exact congrArg (fun v => Tab.get {} v.queues k) (hw.vault rfl)

section entry

variable {s : State} {q : FlashQ} (h0 : (s.fqueue q).entries ≠ 0) (op tag status done retry result aux : Nat)

include h0

theorem flashEntry_eq : flashEntry s q op tag status done retry result aux =
    settleQueue (sendEvents (entryPut s q (toLE 32 (entryValue (s.fqueue q) op tag status done retry result aux))) (s.fqueue q).evtMask none)
      q := by
  unfold flashEntry
  dsimp only
  rw [if_neg h0]
  rfl

theorem flashEntry_mem : (flashEntry s q op tag status done retry result aux).mem =
    Mem.write 0 s.mem (entryAt s q) (toLE 32 (entryValue (s.fqueue q) op tag status done retry result aux)) := by
  rw [flashEntry_eq h0, settleQueue_mem, ← entryPut_mem]
  exact (sendEvents_writes (wm := 33554432) (.refl _ _) rfl).mem rfl

theorem flashEntry_counts : ((flashEntry s q op tag status done retry result aux).fqueue q).headN = (s.fqueue q).headN ∧
    ((flashEntry s q op tag status done retry result aux).fqueue q).cqN = (s.fqueue q).cqN + 1 := by
  rw [flashEntry_eq h0]
  generalize toLE 32 (entryValue (s.fqueue q) op tag status done retry result aux) = e
  obtain ⟨hhead, hcq⟩ := settleQueue_counts (sendEvents (entryPut s q e) (s.fqueue q).evtMask none) q
  rw [hhead, hcq, sendEvents_queue, entryPut_queue]
  exact ⟨rfl, rfl⟩

end entry

theorem flashEntry_sameArrays (s : State) (q : FlashQ) (op tag status done retry result aux : Nat) :
    SameArrays s (flashEntry s q op tag status done retry result aux) := by
  by_cases h0 : (s.fqueue q).entries = 0
  · have hsame : flashEntry s q op tag status done retry result aux = s := by
      unfold flashEntry
      dsimp only
      rw [if_pos h0]
    rw [hsame]
    exact .refl s
  · rw [flashEntry_eq h0]
    generalize toLE 32 (entryValue (s.fqueue q) op tag status done retry result aux) = e
    refine .trans (entryPut_sameArrays s q e) (.trans ?_ (settleQueue_sameArrays _ q))
    exact .of_writes (m := 33554432) (sendEvents_writes (.refl _ _) rfl) rfl rfl

theorem flashEntry_frame (s : State) (q : FlashQ) (op tag status done retry result aux : Nat) :
    Writes 2206203904 s (flashEntry s q op tag status done retry result aux) := flashEntry_writes (.refl _ s) rfl

/-! ### One entry for the head taken (16 R602) -/

/-- The queue's head is taken and no entry written, in memory still canonical if it was. -/
def HeadTaken (s u : State) (q : FlashQ) : Prop :=
  u.fqueue q = { s.fqueue q with headN := (s.fqueue q).headN + 1 } ∧ (Mem.wf 0 s.mem = true → Mem.wf 0 u.mem = true)

theorem takeHead_taken (s : State) (q : FlashQ) : HeadTaken s (takeHead s q) q :=
  ⟨takeHead_queue s q, fun h => by rwa [(takeHead_writes_turn s q).mem rfl]⟩

/-- What leaves the queues and memory alone leaves the head taken. -/
theorem HeadTaken.of_queues {s u v : State} {q : FlashQ} (h : HeadTaken s u q) (hc : v.code.queues = u.code.queues)
    (hv : v.vault.queues = u.vault.queues) (hm : v.mem = u.mem) : HeadTaken s v q := by
  have hq : v.fqueue q = u.fqueue q := by
    cases q with
    | code k => exact congrArg (fun t => Tab.get {} t k) hc
    | vault k => exact congrArg (fun t => Tab.get {} t k) hv
  exact ⟨hq.trans h.1, fun hw => by rw [hm]; exact h.2 hw⟩

theorem HeadTaken.entryAt {s u : State} {q : FlashQ} (h : HeadTaken s u q) : entryAt u q = Sys2Proof.Machine.entryAt s q := by
  rw [Sys2Proof.Machine.entryAt, Sys2Proof.Machine.entryAt, h.1]

theorem HeadTaken.entries {s u : State} {q : FlashQ} (h : HeadTaken s u q) : (u.fqueue q).entries = (s.fqueue q).entries := by rw [h.1]

/-- An entry of the head taken. -/
theorem HeadTaken.entered {s u : State} {q : FlashQ} (h : HeadTaken s u q) (h0 : (s.fqueue q).entries ≠ 0) (h1 : (s.fqueue q).entries ≤ 4096)
    {op status retry : Nat} (hop : op < 16) (hretry : retry < 16) (hstatus : status < 65536) (tag done result aux : Nat) :
    Entered s (flashEntry u q op tag status done retry result aux) q status := by
  have hu0 : (u.fqueue q).entries ≠ 0 := by rwa [h.entries]
  have hu1 : (u.fqueue q).entries ≤ 4096 := by rwa [h.entries]
  obtain ⟨hhead, hcq⟩ := flashEntry_counts hu0 op tag status done retry result aux
  refine ⟨hhead.trans (by rw [h.1]), hcq.trans (by rw [h.1]), fun hw => ?_⟩
  rw [flashEntry_mem hu0, ← h.entryAt, leNat_read_write (h.2 hw) _ _ (by decide), entryValue_status hu0 hu1 hop hretry hstatus]

/-- What keeps the queue and memory keeps the entry. -/
theorem Entered.of_same {s t u : State} {q : FlashQ} {status : Nat} (h : Entered s t q status) (hq : u.fqueue q = t.fqueue q)
    (hm : u.mem = t.mem) : Entered s u q status := by
  rw [Entered, hq, hm]
  exact h

theorem Entered.of_writes {s t u : State} {q : FlashQ} {status m : Nat} (h : Entered s t q status) (hw : Writes m t u)
    (hc : m.testBit 23 = false) (hv : m.testBit 24 = false) (hm : m.testBit 31 = false) : Entered s u q status := by
  refine h.of_same ?_ (hw.mem hm)
  cases q with
  | code k => exact congrArg (fun c => Tab.get {} c.queues k) (hw.code hc)
  | vault k => exact congrArg (fun v => Tab.get {} v.queues k) (hw.vault hv)

/-! ### The descriptor in turn (16 R603, R606, Table 7) -/

theorem FlashTurn.entries_ne {s : State} {ref : QueueRef} {q : FlashQ} {d : FDesc} (h : FlashTurn s ref q d) : (s.fqueue q).entries ≠ 0 := by
  obtain ⟨-, -, hwork, -⟩ := h
  intro h0
  rw [FQueue.hasWork, h0] at hwork
  simp at hwork

/-- The descriptor of a turn is handed on with its head taken. -/
theorem FlashTurn.onFlash {s : State} {ref : QueueRef} {q : FlashQ} {d : FDesc} (h : FlashTurn s ref q d) {ops : Nat → Bool}
    (hops : ops d.op = true) (f : FlashQ → FDesc → State → Option State) :
    onFlash s ref ops f = .next ((f q d (takeHead s q)).getD s) := by
  obtain ⟨href, hsupply, hwork, -, hturn, hhead, hcheck⟩ := h
  unfold Sys2Proof.Machine.onFlash
  rw [href]
  simp only [hsupply, hwork, hturn, hhead, hops, hcheck, bne_self_eq_false, Bool.not_true, Bool.or_false, Bool.false_eq_true, if_false]
  rfl

theorem FlashTurn.desc_lt {s : State} {ref : QueueRef} {q : FlashQ} {d : FDesc} (h : FlashTurn s ref q d) : d.tag < 2 ^ 32 := by
  obtain ⟨-, -, -, -, -, hhead, -⟩ := h
  rw [← hhead]
  exact Nat.mod_lt _ (by decide)

/-- An entry for the descriptor in turn, of a state that has its head taken. -/
theorem FlashTurn.entered {s u : State} {ref : QueueRef} {q : FlashQ} {d : FDesc} (h : FlashTurn s ref q d) (hu : HeadTaken s u q)
    {op status retry : Nat} (hop : op < 16) (hretry : retry < 16) (hstatus : status < 65536) (tag done result aux : Nat) :
    Entered s (flashEntry u q op tag status done retry result aux) q status := by
  have h0 := h.entries_ne
  obtain ⟨-, -, -, h1, -⟩ := h
  exact hu.entered h0 h1 hop hretry hstatus tag done result aux

/-- The status of a refusal fits its field. -/
theorem flashCheck_lt (s : State) (q : FlashQ) (d : FDesc) : flashCheck s q d < 65536 := by
  have hfail : ∀ l : List (Bool × Nat), (∀ e ∈ l, e.2 < 65536) → firstFail l < 65536 := by
    intro l
    induction l with
    | nil => exact fun _ => by decide
    | cons e l ih =>
      intro hl
      obtain ⟨ok, st⟩ := e
      unfold firstFail
      split
      · exact ih fun e he => hl e (List.mem_cons_of_mem _ he)
      · exact hl (ok, st) List.mem_cons_self
  unfold flashCheck
  extract_lets v op size susp rw
  refine hfail _ fun e he => ?_
  simp only [List.mem_cons, List.not_mem_nil, or_false] at he
  rcases he with rfl | rfl | rfl | rfl | rfl | rfl | rfl | rfl <;> norm_num

end Sys2Proof.Machine
end

section
/-! PROOF. Flash descriptors (16 R602 to R613): the one in turn refused, held up by a busy bank, or begun, read and completed. -/

namespace Sys2Proof.Machine

open Sys2Proof

/-! ### Refusals (16 Table 7) -/

theorem flashDone_entered {s u : State} {ref : QueueRef} {q : FlashQ} {d e : FDesc} (h : FlashTurn s ref q d) (hu : HeadTaken s u q)
    (he : e.op < 16) {status : Nat} (hstatus : status < 65536) (done : Nat) : Entered s (flashDone u q e status done) q status :=
  h.entered hu he (by decide) hstatus _ _ _ _

theorem flashDone_frame (s : State) (q : FlashQ) (d : FDesc) (status done : Nat) : Writes 2206203904 s (flashDone s q d status done) :=
  flashEntry_frame s q _ _ _ _ _ _ _

theorem flashDone_sameArrays (s : State) (q : FlashQ) (d : FDesc) (status done : Nat) : SameArrays s (flashDone s q d status done) :=
  flashEntry_sameArrays s q _ _ _ _ _ _ _

/-- A program that Table 7 refuses, other than by a guard, leaves one entry with the status. -/
theorem flashProgram_refused {s : State} {ref : QueueRef} {q : FlashQ} {c : Nat} (href : flashQ ref = some q) (hsupply : s.hostSupply = true)
    (hwork : (s.fqueue q).hasWork = true) (hmax : (s.fqueue q).entries ≤ 4096) (hturn : queueTurn s q = some q.num)
    (hop : (flashHead s q).op = 1) (hcheck : flashCheck s q (flashHead s q) = c) (hc : c ≠ 0) (hguard : c ≠ 0x3001) :
    ∃ t, exec (.flashProgram ref) s = .next t ∧ Entered s t q c ∧ t.codeFlash = s.codeFlash := by
  have hne : (s.fqueue q).entries ≠ 0 := by
    intro h0
    rw [FQueue.hasWork, h0] at hwork
    simp at hwork
  refine ⟨flashDone (takeHead s q) q (flashHead s q) c 0, ?_, ?_, ?_⟩
  · show execFlashProgram ref s = _
    rw [execFlashProgram, onFlash, href]
    simp only [hsupply, hwork, hturn, hop, hcheck, bne_self_eq_false, Bool.not_true, Bool.or_false, Bool.false_eq_true, if_false,
      beq_self_eq_true]
    rw [if_neg hguard, if_pos hc]
  · exact (takeHead_taken s q).entered hne hmax (by rw [hop]; decide) (by decide) (hcheck ▸ flashCheck_lt s q _) _ _ _ _
  · exact ((flashDone_frame _ q _ c 0).codeFlash rfl).trans ((takeHead_writes_turn s q).codeFlash rfl)

/-! ### Code flash descriptors accepted (16 R606, R607) -/

section code

variable {s : State} {ref : QueueRef} {k : Nat} {d : FDesc}

theorem accessEpoch_takeHead (s : State) (q : FlashQ) : accessEpoch (takeHead s q) = accessEpoch s := by
  cases q <;> rfl

theorem BanksBusy_takeHead (s : State) (q : FlashQ) (d : FDesc) : BanksBusy (takeHead s q) d = BanksBusy s d := by
  obtain ⟨hbanks, -, hwaits, -⟩ := takeHead_arrays s q
  simp only [BanksBusy, bankStalls, hbanks, hwaits]

theorem sector_takeHead (s : State) (q : FlashQ) (n : Nat) : sector (takeHead s q) n = sector s n := by
  obtain ⟨-, hsectors, -, -⟩ := takeHead_arrays s q
  rw [sector, sector, hsectors]

/-- A descriptor whose banks are busy waits. -/
theorem acceptCode_waits {u : State} {w : FWait} (h : BanksBusy u w.d = true) :
    acceptCode u w = u.withCode (fun c => { c with waits := c.waits ++ [w] }) := if_pos h

/-- A descriptor whose banks are free begins. -/
theorem acceptCode_starts {u : State} {w : FWait} (h : BanksBusy u w.d = false) :
    (w.d.op = 0 → acceptCode u w = startRead u w) ∧ (w.d.op = 1 → acceptCode u w = startProgram u w) ∧
      (w.d.op = 2 → acceptCode u w = startErase u w) := by
  have hfree : ¬ BanksBusy u w.d = true := by rw [h]; decide
  rw [BanksBusy] at hfree
  unfold acceptCode
  rw [if_neg hfree]
  exact ⟨fun hop => by simp only [hop], fun hop => by simp only [hop], fun hop => by simp only [hop]⟩

theorem exec_flashRead_code (h : FlashTurn s ref (.code k) d) (hop : d.op = 0) {r : Option Nat} (hr : r.getD 0 ≤ 7) :
    exec (.flashRead ref r) s = .next (acceptCode (takeHead s (.code k)) { queue := k, epoch := accessEpoch s, d := d, retry := r }) := by
  have hops : (d.op == 0 || decide (6 ≤ d.op)) = true := by rw [hop]; rfl
  show execFlashRead ref r s = _
  rw [execFlashRead, h.onFlash (ops := fun op => op == 0 || decide (6 ≤ op)) hops]
  simp only [if_neg (Nat.not_lt.mpr hr), Option.getD_some, accessEpoch_takeHead]

theorem exec_flashProgram_code (h : FlashTurn s ref (.code k) d) (hop : d.op = 1) :
    exec (.flashProgram ref) s = .next (acceptCode (takeHead s (.code k)) { queue := k, epoch := accessEpoch s, d := d }) := by
  show execFlashProgram ref s = _
  rw [execFlashProgram, h.onFlash (ops := fun op => op == 1) (beq_iff_eq.mpr hop)]
  simp only [Option.getD_some, accessEpoch_takeHead]

theorem exec_flashErase_code (h : FlashTurn s ref (.code k) d) (hop : d.op = 2) :
    exec (.flashErase ref) s = .next (acceptCode (takeHead s (.code k)) { queue := k, epoch := accessEpoch s, d := d }) := by
  show execFlashErase ref s = _
  rw [execFlashErase, h.onFlash (ops := fun op => op == 2) (beq_iff_eq.mpr hop)]
  simp only [Option.getD_some, accessEpoch_takeHead]

/-- The three commands of a descriptor whose banks are busy leave it waiting, with its head taken and no entry. -/
theorem code_waits (h : FlashTurn s ref (.code k) d) (hbusy : BanksBusy s d = true) (c : Instr) (r : Option Nat)
    (hc : (c = .flashRead ref r ∧ d.op = 0 ∧ r.getD 0 ≤ 7) ∨ (c = .flashProgram ref ∧ d.op = 1 ∧ r = none) ∨
      (c = .flashErase ref ∧ d.op = 2 ∧ r = none)) :
    ∃ t, exec c s = .next t ∧ t.codeFlash = s.codeFlash ∧ t.mem = s.mem ∧ t.code.banks = s.code.banks ∧
      (t.fqueue (.code k)).headN = (s.fqueue (.code k)).headN + 1 ∧ (t.fqueue (.code k)).cqN = (s.fqueue (.code k)).cqN ∧
      t.code.waits = s.code.waits ++ [{ queue := k, epoch := accessEpoch s, d := d, retry := r }] := by
  let w : FWait := { queue := k, epoch := accessEpoch s, d := d, retry := r }
  let u := takeHead s (.code k)
  let t := u.withCode (fun c => { c with waits := c.waits ++ [w] })
  have hwait : acceptCode u w = t := acceptCode_waits ((BanksBusy_takeHead s (.code k) d).trans hbusy)
  have hexec : exec c s = .next t := by
    rw [← hwait]
    rcases hc with ⟨rfl, hop, hr⟩ | ⟨rfl, hop, rfl⟩ | ⟨rfl, hop, rfl⟩
    · exact exec_flashRead_code h hop hr
    · exact exec_flashProgram_code h hop
    · exact exec_flashErase_code h hop
  have hq : t.fqueue (.code k) = { s.fqueue (.code k) with headN := (s.fqueue (.code k)).headN + 1 } := takeHead_queue s (.code k)
  exact ⟨t, hexec, rfl, rfl, rfl, by rw [hq], by rw [hq], rfl⟩

/-! ### Reads of code flash (16 R612 to R614) -/

theorem List.any_eq_false_of {α : Type} {l : List α} {p : α → Bool} (h : ∀ a ∈ l, p a = false) : l.any p = false := by
  rw [List.any_eq_false]
  intro a ha
  rw [h a ha]
  decide

/-- The read of sectors that are neither TORN nor SUSPENDED. -/
theorem startRead_reads {u : State} {w : FWait} (h : ∀ n, n ∈ sectorsOf w.d.target w.d.len → (sector u n).state ≠ 3 ∧ (sector u n).state ≠ 4) :
    (∀ r, w.retry = some r → startRead u w = readOk u (.code w.queue) w.d r (Mem.read 0xFF u.codeFlash w.d.target w.d.len)) ∧
      (w.retry = none → startRead u w = flashDone (u.bump gFlashCodeRetry) (.code w.queue) w.d 0x5015 0) := by
  have h4 : (sectorsOf w.d.target w.d.len).any (fun n => (sector u n).state == 4) = false :=
    List.any_eq_false_of fun n hn => beq_eq_false_iff_ne.mpr (h n hn).2
  have h3 : (sectorsOf w.d.target w.d.len).any (fun n => (sector u n).state == 3) = false :=
    List.any_eq_false_of fun n hn => beq_eq_false_iff_ne.mpr (h n hn).1
  unfold startRead
  simp only [h4, h3, Bool.false_eq_true, if_false]
  exact ⟨fun r hr => by rw [hr], fun hr => by rw [hr]⟩

theorem startRead_torn {u : State} {w : FWait} {n : Nat} (hn : n ∈ sectorsOf w.d.target w.d.len) (h : (sector u n).state = 4) :
    startRead u w = flashDone u (.code w.queue) w.d 0x5016 0 := by
  have h4 : (sectorsOf w.d.target w.d.len).any (fun n => (sector u n).state == 4) = true :=
    List.any_eq_true.mpr ⟨n, hn, beq_iff_eq.mpr h⟩
  exact if_pos h4

theorem startRead_suspended {u : State} {w : FWait} {n : Nat} (hn : n ∈ sectorsOf w.d.target w.d.len) (h : (sector u n).state = 3)
    (hnone : ∀ m, m ∈ sectorsOf w.d.target w.d.len → (sector u m).state ≠ 4) :
    startRead u w = flashDone u (.code w.queue) w.d 0x2020 0 := by
  have h4 : (sectorsOf w.d.target w.d.len).any (fun n => (sector u n).state == 4) = false :=
    List.any_eq_false_of fun m hm => beq_eq_false_iff_ne.mpr (hnone m hm)
  have h3 : (sectorsOf w.d.target w.d.len).any (fun n => (sector u n).state == 3) = true :=
    List.any_eq_true.mpr ⟨n, hn, beq_iff_eq.mpr h⟩
  unfold startRead
  simp only [h4, h3, Bool.false_eq_true, if_false, if_true]

/-- A read that decodes: its buffer, then its entry; what tells of the retry step touches neither. -/
theorem readOk_code (u : State) (q : Nat) (d : FDesc) (r : Nat) (data : Bytes) :
    Writes 1073741856 (flashEntry { u with mem := Mem.write 0 u.mem d.buf data } (.code q) 0 d.tag 0 d.len r 0 0) (readOk u (.code q) d r data) := by
  unfold readOk
  extract_lets s1 s2 s3
  have h3 : Writes 1073741856 s2 s3 := by
    simp only [s3]
    split
    · exact .refl _ s2
    · exact State.bump_writes (.refl _ s2) rfl
  show Writes 1073741856 s2 (if 4 ≤ r then _ else s3)
  split
  · exact State.event_writes (State.gset_writes h3 rfl) rfl
  · exact h3

/-- Reads, programs and erases of a queue in turn whose banks are free begin on the state with the head taken. -/
theorem code_begins (h : FlashTurn s ref (.code k) d) (hfree : BanksBusy s d = false) :
    (∀ r : Option Nat, d.op = 0 → r.getD 0 ≤ 7 → exec (.flashRead ref r) s =
      .next (startRead (takeHead s (.code k)) { queue := k, epoch := accessEpoch s, d := d, retry := r })) ∧
    (d.op = 1 → exec (.flashProgram ref) s =
      .next (startProgram (takeHead s (.code k)) { queue := k, epoch := accessEpoch s, d := d })) ∧
    (d.op = 2 → exec (.flashErase ref) s =
      .next (startErase (takeHead s (.code k)) { queue := k, epoch := accessEpoch s, d := d })) := by
  have hfree' (w : FWait) (hw : w.d = d) : BanksBusy (takeHead s (.code k)) w.d = false := by
    rw [hw, BanksBusy_takeHead]
    exact hfree
  refine ⟨fun r hop hr => ?_, fun hop => ?_, fun hop => ?_⟩
  · rw [exec_flashRead_code h hop hr, (acceptCode_starts (hfree' _ rfl)).1 hop]
  · rw [exec_flashProgram_code h hop, (acceptCode_starts (hfree' _ rfl)).2.1 hop]
  · rw [exec_flashErase_code h hop, (acceptCode_starts (hfree' _ rfl)).2.2 hop]

/-- An entry of a code flash queue leaves code flash as it is. -/
theorem code_entry (h : FlashTurn s ref (.code k) d) (hop : d.op ≤ 5) {u : State} (hu : HeadTaken s u (.code k))
    (hcode : u.codeFlash = s.codeFlash) {status : Nat} (hstatus : status < 65536) (done : Nat) :
    Entered s (flashDone u (.code k) d status done) (.code k) status ∧ (flashDone u (.code k) d status done).codeFlash = s.codeFlash :=
  ⟨flashDone_entered h hu (by omega) hstatus done, ((flashDone_frame u _ d status done).codeFlash rfl).trans hcode⟩

theorem takeHead_codeFlash (s : State) (q : FlashQ) : (takeHead s q).codeFlash = s.codeFlash := (takeHead_writes_turn s q).codeFlash rfl

theorem codeRead_decodes (h : FlashTurn s ref (.code k) d) (hop : d.op = 0) (hfree : BanksBusy s d = false)
    (hsectors : ∀ n, n ∈ sectorsOf d.target d.len → (sector s n).state ≠ 3 ∧ (sector s n).state ≠ 4) {r : Nat} (hr : r ≤ 7) :
    ∃ t e, exec (.flashRead ref (some r)) s = .next t ∧ Entered s t (.code k) 0 ∧ e.length = 32 ∧
      t.mem = Mem.write 0 (Mem.write 0 s.mem d.buf (Mem.read 0xFF s.codeFlash d.target d.len)) (entryAt s (.code k)) e ∧
      t.codeFlash = s.codeFlash := by
  let u := takeHead s (.code k)
  let data := Mem.read 0xFF s.codeFlash d.target d.len
  let v : State := { u with mem := Mem.write 0 u.mem d.buf data }
  let x := flashEntry v (.code k) 0 d.tag 0 d.len r 0 0
  have htaken : HeadTaken s u (.code k) := takeHead_taken s _
  have hv : HeadTaken s v (.code k) := ⟨htaken.1, fun hw => Mem.write_wf _ _ (htaken.2 hw)⟩
  have hmem : u.mem = s.mem := (takeHead_writes_turn s (.code k)).mem rfl
  have hread := (startRead_reads (u := u) (w := { queue := k, epoch := accessEpoch s, d := d, retry := some r })
    (fun n hn => by rw [sector_takeHead]; exact hsectors n hn)).1 r rfl
  have htell : Writes 1073741856 x (readOk u (.code k) d r data) := readOk_code u k d r data
  refine ⟨readOk u (.code k) d r data, toLE 32 (entryValue (v.fqueue (.code k)) 0 d.tag 0 d.len r 0 0), ?_, ?_, length_toLE _ _, ?_, ?_⟩
  · rw [(code_begins h hfree).1 (some r) hop hr, hread, takeHead_codeFlash]
  · exact Entered.of_writes (h.entered hv (by decide) (by omega) (by decide) _ _ _ _) htell rfl rfl rfl
  · rw [htell.mem rfl, flashEntry_mem (by rw [hv.entries]; exact h.entries_ne), hv.entryAt]
    show Mem.write 0 (Mem.write 0 u.mem d.buf data) _ _ = _
    rw [hmem]
  · exact (htell.codeFlash rfl).trans (((flashEntry_frame v _ _ _ _ _ _ _ _).codeFlash rfl).trans (takeHead_codeFlash s _))

theorem codeRead_fails (h : FlashTurn s ref (.code k) d) (hop : d.op = 0) (hfree : BanksBusy s d = false)
    (hsectors : ∀ n, n ∈ sectorsOf d.target d.len → (sector s n).state ≠ 3 ∧ (sector s n).state ≠ 4) :
    ∃ t, exec (.flashRead ref none) s = .next t ∧ Entered s t (.code k) 0x5015 ∧ t.codeFlash = s.codeFlash := by
  let u := (takeHead s (.code k)).bump gFlashCodeRetry
  have hread : startRead (takeHead s (.code k)) { queue := k, epoch := accessEpoch s, d := d } = flashDone u (.code k) d 0x5015 0 :=
    (startRead_reads (fun n hn => by rw [sector_takeHead]; exact hsectors n hn)).2 rfl
  refine ⟨flashDone u (.code k) d 0x5015 0, ((code_begins h hfree).1 none hop (by decide)).trans (congrArg Host.Outcome.next hread), ?_⟩
  have hu : Writes 1073741824 (takeHead s (.code k)) u := State.bump_writes (.refl _ _) rfl
  have htaken : HeadTaken s u (.code k) :=
    (takeHead_taken s _).of_queues (by rw [hu.code rfl]) (by rw [hu.vault rfl]) (hu.mem rfl)
  exact code_entry h (by omega) htaken ((hu.codeFlash rfl).trans (takeHead_codeFlash s _)) (by decide) 0

theorem codeRead_torn (h : FlashTurn s ref (.code k) d) (hop : d.op = 0) (hfree : BanksBusy s d = false) {n : Nat}
    (hn : n ∈ sectorsOf d.target d.len) (hstate : (sector s n).state = 4) :
    ∃ t, exec (.flashRead ref (some 0)) s = .next t ∧ Entered s t (.code k) 0x5016 ∧ t.codeFlash = s.codeFlash := by
  have hread : startRead (takeHead s (.code k)) { queue := k, epoch := accessEpoch s, d := d, retry := some 0 } =
      flashDone (takeHead s (.code k)) (.code k) d 0x5016 0 :=
    startRead_torn hn ((congrArg FUnit.state (sector_takeHead s _ n)).trans hstate)
  refine ⟨flashDone (takeHead s (.code k)) (.code k) d 0x5016 0, ((code_begins h hfree).1 (some 0) hop (by decide)).trans (congrArg Host.Outcome.next hread), ?_⟩
  exact code_entry h (by omega) (takeHead_taken s _) (takeHead_codeFlash s _) (by decide) 0

theorem codeRead_suspended (h : FlashTurn s ref (.code k) d) (hop : d.op = 0) (hfree : BanksBusy s d = false) {n : Nat}
    (hn : n ∈ sectorsOf d.target d.len) (hstate : (sector s n).state = 3)
    (hnone : ∀ m, m ∈ sectorsOf d.target d.len → (sector s m).state ≠ 4) :
    ∃ t, exec (.flashRead ref (some 0)) s = .next t ∧ Entered s t (.code k) 0x2020 ∧ t.codeFlash = s.codeFlash := by
  have hread : startRead (takeHead s (.code k)) { queue := k, epoch := accessEpoch s, d := d, retry := some 0 } =
      flashDone (takeHead s (.code k)) (.code k) d 0x2020 0 :=
    startRead_suspended hn ((congrArg FUnit.state (sector_takeHead s _ n)).trans hstate) (fun m hm => by rw [sector_takeHead]; exact hnone m hm)
  refine ⟨flashDone (takeHead s (.code k)) (.code k) d 0x2020 0, ((code_begins h hfree).1 (some 0) hop (by decide)).trans (congrArg Host.Outcome.next hread), ?_⟩
  exact code_entry h (by omega) (takeHead_taken s _) (takeHead_codeFlash s _) (by decide) 0

/-! ### Programs of code flash (16 R608, R609) -/

/-- A program on a bank that an erase holds, of a range that is not erased, or begun. -/
theorem startProgram_cases {u : State} {w : FWait} :
    ((u.code.banks.find (codeBank w.d.target)).isSome = true → startProgram u w = flashDone u (.code w.queue) w.d 0x2017 0) ∧
    (u.code.banks.find (codeBank w.d.target) = none → (∀ n, n ∈ sectorsOf w.d.target w.d.len → (sector u n).state ≠ 4) →
      (rangeErased u w.d.target w.d.len = false → startProgram u w = flashDone u (.code w.queue) w.d 0x1041 0) ∧
      (rangeErased u w.d.target w.d.len = true → startProgram u w = u.withCode (fun c => { c with
        banks := c.banks.set (codeBank w.d.target)
          { queue := w.queue, epoch := w.epoch, d := w.d, data := Mem.read 0 u.mem w.d.buf w.d.len } }))) := by
  refine ⟨fun hbusy => if_pos hbusy, fun hnone hsectors => ?_⟩
  have h4 : (sectorsOf w.d.target w.d.len).any (fun n => (sector u n).state == 4) = false :=
    List.any_eq_false_of fun n hn => beq_eq_false_iff_ne.mpr (hsectors n hn)
  unfold startProgram
  simp only [hnone, h4, Option.isSome_none, Bool.false_eq_true, if_false]
  exact ⟨fun he => by simp only [he, Bool.not_false, if_true], fun he => by simp only [he, Bool.not_true, Bool.false_eq_true, if_false]⟩

theorem codeProgram_cases (h : FlashTurn s ref (.code k) d) (hop : d.op = 1) (hfree : BanksBusy s d = false)
    (hsectors : ∀ n, n ∈ sectorsOf d.target d.len → (sector s n).state ≠ 4) :
    ((s.code.banks.find (codeBank d.target)).isSome = true →
      ∃ t, exec (.flashProgram ref) s = .next t ∧ Entered s t (.code k) 0x2017 ∧ t.codeFlash = s.codeFlash) ∧
    (s.code.banks.find (codeBank d.target) = none → rangeErased s d.target d.len = true →
      ∃ t, exec (.flashProgram ref) s = .next t ∧
        t.code.banks.find (codeBank d.target) =
          some { queue := k, epoch := accessEpoch s, d := d, data := Mem.read 0 s.mem d.buf d.len } ∧
        t.codeFlash = s.codeFlash ∧ t.mem = s.mem) ∧
    (s.code.banks.find (codeBank d.target) = none → rangeErased s d.target d.len = false →
      ∃ t, exec (.flashProgram ref) s = .next t ∧ Entered s t (.code k) 0x1041 ∧ t.codeFlash = s.codeFlash) := by
  let u := takeHead s (.code k)
  let w : FWait := { queue := k, epoch := accessEpoch s, d := d }
  have hexec : exec (.flashProgram ref) s = .next (startProgram u w) := (code_begins h hfree).2.1 hop
  have hmem : u.mem = s.mem := (takeHead_writes_turn s (.code k)).mem rfl
  obtain ⟨hheld, hfreeBank⟩ := startProgram_cases (u := u) (w := w)
  have hsectors' (n : Nat) (hn : n ∈ sectorsOf w.d.target w.d.len) : (sector u n).state ≠ 4 := by
    rw [sector_takeHead]
    exact hsectors n hn
  refine ⟨fun hbusy => ⟨flashDone u (.code k) d 0x2017 0, hexec.trans (congrArg Host.Outcome.next (hheld hbusy)), ?_⟩, fun hnone he => ?_, fun hnone he => ?_⟩
  · exact code_entry h (by omega) (takeHead_taken s _) (takeHead_codeFlash s _) (by decide) 0
  · refine ⟨_, hexec.trans (congrArg Host.Outcome.next ((hfreeBank hnone hsectors').2 he)), ?_, takeHead_codeFlash s _, hmem⟩
    refine (Tab.find_set_self u.code.banks _ _).trans ?_
    rw [hmem]
  · refine ⟨flashDone u (.code k) d 0x1041 0, hexec.trans (congrArg Host.Outcome.next ((hfreeBank hnone hsectors').1 he)), ?_⟩
    exact code_entry h (by omega) (takeHead_taken s _) (takeHead_codeFlash s _) (by decide) 0

/-! ### Erases of code flash, suspensions and resumptions (16 R608, R610) -/

theorem withSector_sector (s : State) (n m : Nat) (f : FUnit → FUnit) :
    sector (withSector s n f) m = if m = n then f (sector s n) else sector s m := Tab.get_upd _ _ _ _ _

/-- The state in which a bank erases the next of its sectors. -/
def erasing (s : State) (b n : Nat) (o : BankOp) : State :=
  (withSector s n (fun u => { u with state := 2 })).withCode (fun c => { c with banks := c.banks.set b o })

theorem nextErase_cons {u : State} {b n : Nat} {o : BankOp} {l : List Nat} (h : o.left = n :: l) : nextErase u b o = erasing u b n o := by
  unfold nextErase
  rw [h]
  rfl

theorem nextErase_nil {u : State} {b : Nat} {o : BankOp} (h : o.left = []) :
    nextErase u b o = flashDone (u.withCode (fun c => { c with banks := c.banks.erase b })) (.code o.queue) o.d 0 o.d.len := by
  unfold nextErase
  rw [h]

theorem erasing_bank (s : State) (b n : Nat) (o : BankOp) :
    (erasing s b n o).code.banks.find b = some o ∧ (sector (erasing s b n o) n).state = 2 := by
  refine ⟨Tab.find_set_self _ _ _, ?_⟩
  have hsector : sector (erasing s b n o) n = { sector s n with state := 2 } := (withSector_sector s n n (fun u => { u with state := 2 })).trans (if_pos rfl)
  rw [hsector]

theorem erasing_taken {u : State} (h : HeadTaken s u (.code k)) (b n : Nat) (o : BankOp) : HeadTaken s (erasing u b n o) (.code k) :=
  h.of_queues rfl rfl rfl

theorem codeErase_cases (h : FlashTurn s ref (.code k) d) (hop : d.op = 2) (hfree : BanksBusy s d = false)
    (hnone : s.code.banks.find (codeBank d.target) = none) :
    let l := (sectorsOf d.target d.len).filter (fun n => (sector s n).state != 0)
    (∀ n m, l = n :: m →
      ∃ t o, exec (.flashErase ref) s = .next t ∧ t.code.banks.find (codeBank d.target) = some o ∧ o.left = l ∧ o.queue = k ∧
        (sector t n).state = 2 ∧ t.codeFlash = s.codeFlash) ∧
    (l = [] → ∃ t, exec (.flashErase ref) s = .next t ∧ Entered s t (.code k) 0 ∧ t.codeFlash = s.codeFlash) := by
  intro l
  let u := takeHead s (.code k)
  let o : BankOp := { queue := k, epoch := accessEpoch s, d := d, left := l }
  have hstart : startErase u { queue := k, epoch := accessEpoch s, d := d } = nextErase u (codeBank d.target) o := by
    have hbank : (u.code.banks.find (codeBank d.target)).isSome = false := by
      have hu : u.code.banks.find (codeBank d.target) = none := hnone
      rw [hu]
      rfl
    unfold startErase
    simp only [hbank, Bool.false_eq_true, if_false, u, sector_takeHead]
    rfl
  have hexec : exec (.flashErase ref) s = .next (nextErase u (codeBank d.target) o) := by
    rw [← hstart]
    exact (code_begins h hfree).2.2 hop
  refine ⟨fun n m hl => ?_, fun hl => ?_⟩
  · obtain ⟨hbank, hsector⟩ := erasing_bank u (codeBank d.target) n o
    exact ⟨_, o, hexec.trans (congrArg Host.Outcome.next (nextErase_cons (o := o) hl)), hbank, rfl, rfl, hsector, takeHead_codeFlash s _⟩
  · let v := u.withCode (fun c => { c with banks := c.banks.erase (codeBank d.target) })
    have hv : HeadTaken s v (.code k) := (takeHead_taken s _).of_queues rfl rfl rfl
    refine ⟨flashDone v (.code k) d 0 d.len, hexec.trans (congrArg Host.Outcome.next (nextErase_nil (o := o) hl)), ?_⟩
    exact code_entry h (by omega) hv (takeHead_codeFlash s _) (by decide) d.len

/-- A running erase suspended: its sector is SUSPENDED, and what waits for the bank is looked at again. -/
theorem eraseSuspend_suspends (h : FlashTurn s ref (.code k) d) (hop : d.op = 3) {o : BankOp} {n : Nat} {l : List Nat}
    (hbank : s.code.banks.find d.bank = some o) (hleft : o.left = n :: l) (hsusp : o.suspAt = none) :
    ∃ u, exec (.eraseSuspend ref) s = .next (serveCode u) ∧ Entered s u (.code k) 0 ∧ (sector u n).state = 3 ∧
      u.code.banks.find d.bank = some { o with suspAt := some s.now } ∧ u.code.waits = s.code.waits ∧
      (s.code.waits = [] → serveCode u = u) := by
  let v := (withSector (takeHead s (.code k)) n (fun u => { u with state := 3 })).withCode (fun c => { c with
    banks := c.banks.set d.bank { o with suspAt := some s.now } })
  let u := flashDone v (.code k) d 0 0
  have hv : HeadTaken s v (.code k) := (takeHead_taken s _).of_queues rfl rfl rfl
  have hsame : SameArrays v u := flashDone_sameArrays v _ d 0 0
  have hbank' : (takeHead s (.code k)).code.banks.find d.bank = some o := hbank
  refine ⟨u, ?_, flashDone_entered h hv (by omega) (by decide) 0, ?_, ?_, hsame.waits, fun hnone => ?_⟩
  · show execEraseSuspend ref s = _
    rw [execEraseSuspend, h.onFlash (ops := fun op => op == 3) (beq_iff_eq.mpr hop)]
    simp only [hbank', hleft, hsusp]
    rw [← hleft]
    rfl
  · have hsector : sector u n = { sector (takeHead s (.code k)) n with state := 3 } :=
      (hsame.sector n).trans ((withSector_sector _ n n (fun u => { u with state := 3 })).trans (if_pos rfl))
    rw [hsector]
  · rw [hsame.banks]
    exact Tab.find_set_self _ _ _
  · have hwaits : u.code.waits = [] := hsame.waits.trans hnone
    have hback : u.withCode (fun c => { c with waits := [] }) = u := by
      rw [State.withCode, ← hwaits]
    rw [serveCode, hwaits, List.foldl_nil, hback]

theorem eraseSuspend_none (h : FlashTurn s ref (.code k) d) (hop : d.op = 3) (hbank : s.code.banks.find d.bank = none) :
    ∃ t, exec (.eraseSuspend ref) s = .next t ∧ Entered s t (.code k) 0x2016 := by
  have hbank' : (takeHead s (.code k)).code.banks.find d.bank = none := hbank
  refine ⟨flashDone (takeHead s (.code k)) (.code k) d 0x2016 0, ?_, flashDone_entered h (takeHead_taken s _) (by omega) (by decide) 0⟩
  show execEraseSuspend ref s = _
  rw [execEraseSuspend, h.onFlash (ops := fun op => op == 3) (beq_iff_eq.mpr hop)]
  simp only [hbank']
  rfl

theorem eraseResume_resumes (h : FlashTurn s ref (.code k) d) (hop : d.op = 4) {o : BankOp} {n : Nat} {l : List Nat}
    (hbank : s.code.banks.find d.bank = some o) (hleft : o.left = n :: l) (hsusp : o.suspAt.isSome = true) :
    ∃ t, exec (.eraseResume ref) s = .next t ∧ Entered s t (.code k) 0 ∧ (sector t n).state = 2 ∧
      t.code.banks.find d.bank = some { o with suspAt := none } := by
  let v := erasing (takeHead s (.code k)) d.bank n { o with suspAt := none }
  have hv : HeadTaken s v (.code k) := erasing_taken (takeHead_taken s _) _ _ _
  have hsame : SameArrays v (flashDone v (.code k) d 0 0) := flashDone_sameArrays v _ d 0 0
  have hbank' : (takeHead s (.code k)).code.banks.find d.bank = some o := hbank
  obtain ⟨hset, hsector⟩ := erasing_bank (takeHead s (.code k)) d.bank n { o with suspAt := none }
  refine ⟨flashDone v (.code k) d 0 0, ?_, flashDone_entered h hv (by omega) (by decide) 0, ?_, ?_⟩
  · show execEraseResume ref s = _
    rw [execEraseResume, h.onFlash (ops := fun op => op == 4) (beq_iff_eq.mpr hop)]
    simp only [hbank', hsusp, if_true, resumeErase]
    rw [nextErase_cons (o := { o with suspAt := none }) hleft]
    rfl
  · rw [hsame.sector]
    exact hsector
  · rw [hsame.banks]
    exact hset

theorem eraseResume_none (h : FlashTurn s ref (.code k) d) (hop : d.op = 4) (hbank : s.code.banks.find d.bank = none) :
    ∃ t, exec (.eraseResume ref) s = .next t ∧ Entered s t (.code k) 0x2016 := by
  have hbank' : (takeHead s (.code k)).code.banks.find d.bank = none := hbank
  refine ⟨flashDone (takeHead s (.code k)) (.code k) d 0x2016 0, ?_, flashDone_entered h (takeHead_taken s _) (by omega) (by decide) 0⟩
  show execEraseResume ref s = _
  rw [execEraseResume, h.onFlash (ops := fun op => op == 4) (beq_iff_eq.mpr hop)]
  simp only [hbank']
  rfl

end code

/-! ### Vault descriptors (16 R606, R612, R618, R621) -/

section vault

variable {s : State} {ref : QueueRef} {k : Nat} {d : FDesc}

/-- The log reads as its runs say. -/
theorem vByte_congr {s t : State} (h : t.vault.runs = s.vault.runs) (a : Nat) : vByte t a = vByte s a := by
  simp only [vByte, h]

theorem vBankBusy_congr {s t : State} (h : t.vault.banks = s.vault.banks) (b : Nat) : vBankBusy t b = vBankBusy s b := by
  simp only [vBankBusy, State.vbank, h]

theorem vaultBanks_congr {s t : State} (h : t.vault.map = s.vault.map) (a n : Nat) : vaultBanks t a n = vaultBanks s a n := by
  simp only [vaultBanks, h]

/-- A vault read that nothing holds up begins. -/
theorem acceptVaultRead_starts {u : State} {w : FWait} (hwaits : u.vault.waits = [])
    (hfree : ∀ b, b ∈ vaultBanks u w.d.target w.d.len → vBankBusy u b = false) : acceptVaultRead u w = startVaultRead u w := by
  have hnone : (vaultBanks u w.d.target w.d.len).any (fun b =>
      vBankBusy u b || u.vault.waits.any (fun v => (vaultBanks u v.d.target v.d.len).contains b)) = false :=
    List.any_eq_false_of fun b hb => by rw [hfree b hb, hwaits]; rfl
  unfold acceptVaultRead
  dsimp only
  rw [hnone, if_neg Bool.false_ne_true]

/-- The read of the descriptor `d` of vault queue `k` as it waits or begins: its bytes as the log reads now. -/
def vaultRead (s : State) (k : Nat) (d : FDesc) (r : Option Nat) : FWait where
  queue := k
  epoch := accessEpoch s
  d := d
  retry := r
  data := (List.range d.len).map (fun i => vByte s (d.target + i))

theorem startVaultRead_none {u : State} {w : FWait} (h : w.retry = none) :
    startVaultRead u w = (flashDone u (.vault w.queue) w.d 0x5015 0).bump gFlashVaultReadFail := by
  rw [startVaultRead, h]

theorem startVaultRead_first {u : State} {w : FWait} (h : w.retry = some 0) :
    startVaultRead u w = flashEntry { u with mem := Mem.write 0 u.mem w.d.buf w.data } (.vault w.queue) 0 w.d.tag 0 w.d.len 0 0 0 := by
  have hok (v : State) : (if 8 ≤ 0 then collect v (w.d.target % vHalf / vBlock) else v) = v := if_neg (by decide)
  rw [startVaultRead, h]
  exact hok _

theorem exec_flashRead_vault (h : FlashTurn s ref (.vault k) d) (hop : d.op = 0) (hwaits : s.vault.waits = [])
    (hfree : ∀ b, b ∈ vaultBanks s d.target d.len → vBankBusy s b = false) {r : Option Nat} (hr : r.getD 0 ≤ 15) :
    exec (.flashRead ref r) s = .next (startVaultRead (takeHead s (.vault k)) (vaultRead s k d r)) := by
  have hops : (d.op == 0 || decide (6 ≤ d.op)) = true := by rw [hop]; rfl
  have hfree' (b : Nat) (hb : b ∈ vaultBanks (takeHead s (.vault k)) d.target d.len) : vBankBusy (takeHead s (.vault k)) b = false := by
    rw [vaultBanks_congr rfl] at hb
    rw [vBankBusy_congr rfl]
    exact hfree b hb
  have hbyte (a : Nat) : vByte (takeHead s (.vault k)) a = vByte s a := vByte_congr rfl a
  show execFlashRead ref r s = _
  rw [execFlashRead, h.onFlash (ops := fun op => op == 0 || decide (6 ≤ op)) hops]
  simp only [if_neg (Nat.not_lt.mpr hr), Option.getD_some, accessEpoch_takeHead, hbyte]
  exact congrArg Host.Outcome.next (acceptVaultRead_starts (w := vaultRead s k d r) hwaits hfree')

theorem vaultRead_decodes (h : FlashTurn s ref (.vault k) d) (hop : d.op = 0) (hwaits : s.vault.waits = [])
    (hfree : ∀ b, b ∈ vaultBanks s d.target d.len → vBankBusy s b = false) :
    ∃ t e, exec (.flashRead ref (some 0)) s = .next t ∧ Entered s t (.vault k) 0 ∧ e.length = 32 ∧
      t.mem = Mem.write 0 (Mem.write 0 s.mem d.buf ((List.range d.len).map (fun i => vByte s (d.target + i)))) (entryAt s (.vault k)) e := by
  let u := takeHead s (.vault k)
  let data := (List.range d.len).map (fun i => vByte s (d.target + i))
  let v : State := { u with mem := Mem.write 0 u.mem d.buf data }
  have htaken : HeadTaken s u (.vault k) := takeHead_taken s _
  have hv : HeadTaken s v (.vault k) := ⟨htaken.1, fun hw => Mem.write_wf _ _ (htaken.2 hw)⟩
  have hmem : u.mem = s.mem := (takeHead_writes_turn s (.vault k)).mem rfl
  refine ⟨flashEntry v (.vault k) 0 d.tag 0 d.len 0 0 0, toLE 32 (entryValue (v.fqueue (.vault k)) 0 d.tag 0 d.len 0 0 0), ?_,
    h.entered hv (by decide) (by decide) (by decide) _ _ _ _, length_toLE _ _, ?_⟩
  · rw [exec_flashRead_vault h hop hwaits hfree (by decide), startVaultRead_first rfl]
    rfl
  · rw [flashEntry_mem (by rw [hv.entries]; exact h.entries_ne), hv.entryAt]
    show Mem.write 0 (Mem.write 0 u.mem d.buf data) _ _ = _
    rw [hmem]

theorem vaultRead_fails (h : FlashTurn s ref (.vault k) d) (hop : d.op = 0) (hwaits : s.vault.waits = [])
    (hfree : ∀ b, b ∈ vaultBanks s d.target d.len → vBankBusy s b = false) :
    ∃ t, exec (.flashRead ref none) s = .next t ∧ Entered s t (.vault k) 0x5015 ∧
      t.gv gFlashVaultReadFail = (s.gv gFlashVaultReadFail + 1) % 2 ^ 64 := by
  let u := flashDone (takeHead s (.vault k)) (.vault k) d 0x5015 0
  have hgls : u.gls = s.gls :=
    ((flashDone_frame (takeHead s (.vault k)) _ d 0x5015 0).gls rfl).trans ((takeHead_writes_turn s (.vault k)).gls rfl)
  have hbump : Writes 1073741824 u (u.bump gFlashVaultReadFail) := State.bump_writes (.refl _ u) rfl
  have hentered : Entered s u (.vault k) 0x5015 := flashDone_entered h (takeHead_taken s _) (by omega) (by decide) 0
  refine ⟨u.bump gFlashVaultReadFail, ?_, hentered.of_writes hbump rfl rfl rfl, ?_⟩
  · rw [exec_flashRead_vault h hop hwaits hfree (by decide), startVaultRead_none rfl]
    rfl
  · rw [State.gv_bump, State.gv, State.gvs, hgls]
    rfl

/-- A vault program is appended to the log. -/
theorem vaultProgram_appends (h : FlashTurn s ref (.vault k) d) (hop : d.op = 1) :
    exec (.flashProgram ref) s =
      .next (vAppend (takeHead s (.vault k)) false (.desc k (accessEpoch s) d.tag) (Mem.read 0 s.mem d.buf d.len)) := by
  have hmem : (takeHead s (.vault k)).mem = s.mem := (takeHead_writes_turn s (.vault k)).mem rfl
  show execFlashProgram ref s = _
  rw [execFlashProgram, h.onFlash (ops := fun op => op == 1) (beq_iff_eq.mpr hop)]
  simp only [Option.getD_some, accessEpoch_takeHead, hmem]

/-- The runs of the log after a discard depend on the runs before it alone. -/
theorem vDiscard_runs_congr {s t : State} (h : t.vault.runs = s.vault.runs) (a n : Nat) :
    (vDiscard t a n).vault.runs = (vDiscard s a n).vault.runs := by
  have hfold {f : List VRun → Nat × Nat → List VRun} (l : List (Nat × Nat)) : ∀ u v : State, v.vault.runs = u.vault.runs →
      (l.foldl (fun s e => s.withVault (fun v => { v with runs := f v.runs e })) v).vault.runs =
        (l.foldl (fun s e => s.withVault (fun v => { v with runs := f v.runs e })) u).vault.runs := by
    induction l with
    | nil => exact fun _ _ h => h
    | cons e l ih => exact fun u v h => ih _ _ (congrArg (fun r => f r e) h)
  unfold vDiscard
  rw [h]
  let mark (x m : Nat) (r : VRun) : VRun := if x < r.addr + r.data.length ∧ r.addr < x + m then { r with dead := r.dead ++ [(x, m)] } else r
  exact hfold (f := fun r e => r.map (mark e.1 e.2)) _ (s.withVault (fun v => { v with runs := v.runs.map (mark a n) }))
    (t.withVault (fun v => { v with runs := v.runs.map (mark a n) })) (congrArg (List.map (mark a n)) h)

/-- A discard changes the runs alone. -/
theorem vDiscard_queues (s : State) (a n : Nat) : (vDiscard s a n).vault.queues = s.vault.queues := by
  have hfold {f : State → Nat × Nat → State} (hf : ∀ u e, (f u e).vault.queues = u.vault.queues) (l : List (Nat × Nat)) :
      ∀ u : State, (l.foldl f u).vault.queues = u.vault.queues := by
    induction l with
    | nil => exact fun _ => rfl
    | cons e l ih => exact fun u => (ih _).trans (hf u e)
  unfold vDiscard
  extract_lets hit mark moved s1
  exact hfold (f := fun s e => s.withVault (fun v => { v with runs := v.runs.map (mark e.1 e.2) })) (fun _ _ => rfl) _ _

theorem vaultErase_discards (h : FlashTurn s ref (.vault k) d) (hop : d.op = 2) :
    ∃ t, exec (.flashErase ref) s = .next t ∧ Entered s t (.vault k) 0 ∧ t.vault.runs = (vDiscard s d.target d.len).vault.runs := by
  let u := vDiscard (takeHead s (.vault k)) d.target d.len
  have hw : Writes 16777216 (takeHead s (.vault k)) u := vDiscard_writes (.refl _ _) rfl
  have hu : HeadTaken s u (.vault k) :=
    (takeHead_taken s _).of_queues (by rw [hw.code rfl]) (vDiscard_queues _ _ _) (hw.mem rfl)
  refine ⟨flashDone u (.vault k) d 0 d.len, ?_, flashDone_entered h hu (by omega) (by decide) _,
    (flashDone_sameArrays u _ d 0 d.len).runs.trans (vDiscard_runs_congr (s := s) (t := takeHead s (.vault k)) rfl _ _)⟩
  show execFlashErase ref s = _
  rw [execFlashErase, h.onFlash (ops := fun op => op == 2) (beq_iff_eq.mpr hop)]
  rfl

end vault

/-! ### READ_STATUS (16 Table 6) -/

section status

variable {s : State} {ref : QueueRef} {k : Nat} {d : FDesc}

/-- An entry of READ_STATUS carries the status word. -/
theorem readStatus_word {q : FlashQ} (h : FlashTurn s ref q d) (hwf : Mem.wf 0 s.mem = true) (word : Nat) :
    leNat (Mem.read 0 (flashEntry (takeHead s q) q 5 d.tag 0 0 0 word 0).mem (entryAt s q + 24) 8) = word % 2 ^ 64 := by
  have htaken : HeadTaken s (takeHead s q) q := takeHead_taken s q
  have h0 := h.entries_ne
  obtain ⟨-, -, -, h1, -⟩ := id h
  rw [flashEntry_mem (by rwa [htaken.entries]), ← htaken.entryAt, leNat_read_write (htaken.2 hwf) _ _ (by decide),
    entryValue_result (by rwa [htaken.entries]) (by rwa [htaken.entries]) (by decide) h.desc_lt]

theorem bankStalls_takeHead (s : State) (q : FlashQ) (b : Nat) : bankStalls (takeHead s q) b = bankStalls s b := by
  obtain ⟨hbanks, -, -, -⟩ := takeHead_arrays s q
  rw [bankStalls, bankStalls, hbanks]

theorem readStatus_code (h : FlashTurn s ref (.code k) d) (hop : d.op = 5) (hwf : Mem.wf 0 s.mem = true) :
    let b := codeBank d.target
    let u := sector s (d.target / 4096)
    ∃ t, exec (.readStatus ref) s = .next t ∧ Entered s t (.code k) 0 ∧
      leNat (Mem.read 0 t.mem (entryAt s (.code k) + 24) 8) =
        (u.state + 2 ^ 8 * (u.count % 2 ^ 24) + 2 ^ 32 * b + 2 ^ 36 * b2n (bankStalls s b)) % 2 ^ 64 := by
  intro b u
  refine ⟨flashEntry (takeHead s (.code k)) (.code k) 5 d.tag 0 0 0
    (u.state + 2 ^ 8 * (u.count % 2 ^ 24) + 2 ^ 32 * b + 2 ^ 36 * b2n (bankStalls s b)) 0, ?_,
    h.entered (takeHead_taken s _) (by decide) (by decide) (by decide) _ _ _ _, readStatus_word h hwf _⟩
  show execReadStatus ref s = _
  rw [execReadStatus, h.onFlash (ops := fun op => op == 5) (beq_iff_eq.mpr hop)]
  simp only [Option.getD_some, bankStalls_takeHead, sector_takeHead]
  rfl

theorem readStatus_vault (h : FlashTurn s ref (.vault k) d) (hop : d.op = 5) (hwf : Mem.wf 0 s.mem = true) {p p2 : Nat}
    (hmap : s.vault.map.find (d.target % vHalf / vBlock) = some (p, p2)) :
    let key := if d.target < vHalf then p else p2
    let b := key / 2720
    let u := s.vault.blocks.get {} key
    ∃ t, exec (.readStatus ref) s = .next t ∧ Entered s t (.vault k) 0 ∧
      leNat (Mem.read 0 t.mem (entryAt s (.vault k) + 24) 8) =
        (u.state + 2 ^ 8 * (u.count % 2 ^ 24) + 2 ^ 32 * b + 2 ^ 36 * b2n (vBankBusy s b)) % 2 ^ 64 := by
  intro key b u
  have hmap' : (takeHead s (.vault k)).vault.map.find (d.target % vHalf / vBlock) = some (p, p2) := hmap
  have hbusy : vBankBusy (takeHead s (.vault k)) b = vBankBusy s b := vBankBusy_congr rfl b
  refine ⟨flashEntry (takeHead s (.vault k)) (.vault k) 5 d.tag 0 0 0
    (u.state + 2 ^ 8 * (u.count % 2 ^ 24) + 2 ^ 32 * b + 2 ^ 36 * b2n (vBankBusy s b)) 0, ?_,
    h.entered (takeHead_taken s _) (by decide) (by decide) (by decide) _ _ _ _, readStatus_word h hwf _⟩
  show execReadStatus ref s = _
  rw [execReadStatus, h.onFlash (ops := fun op => op == 5) (beq_iff_eq.mpr hop), ← hbusy]
  simp only [hmap', Option.getD_some]
  rfl

end status

/-- Settles O30: each operation of the descriptor in turn acts on the state with its head taken (`FlashTurn.onFlash`); what an entry reads
as is `HeadTaken.entered` and `readStatus_word`. -/
theorem flashDescriptors : Obligations.FlashDescriptors := by
  unfold Obligations.FlashDescriptors
  refine ⟨fun s ref q c href hsupply hwork hmax hturn hop hcheck hc hguard =>
      flashProgram_refused href hsupply hwork hmax hturn hop hcheck hc hguard,
    fun s ref k d h hbusy c r hc => code_waits h hbusy c r hc, fun s ref k d h hop hfree => ⟨fun hsectors => ⟨fun r hr => ?_, ?_⟩, ?_, ?_⟩,
    fun s ref k d h hop hwaits hfree => ⟨vaultRead_decodes h hop hwaits hfree, vaultRead_fails h hop hwaits hfree⟩,
    fun s ref k d h hop => vaultProgram_appends h hop,
    fun s ref k d h hop hfree hsectors => codeProgram_cases h hop hfree hsectors,
    fun s ref k d h hop hfree hnone => codeErase_cases h hop hfree hnone, fun s ref k d h hop => vaultErase_discards h hop,
    fun s ref k d h hop => ⟨fun o n l hbank hleft hsusp => eraseSuspend_suspends h hop hbank hleft hsusp, eraseSuspend_none h hop⟩,
    fun s ref k d h hop => ⟨fun o n l hbank hleft hsusp => eraseResume_resumes h hop hbank hleft hsusp, eraseResume_none h hop⟩,
    fun s ref k d h hop hwf => readStatus_code h hop hwf, fun s ref k d p p2 h hop hwf hmap => readStatus_vault h hop hwf hmap⟩
  · exact codeRead_decodes h hop hfree hsectors hr
  · exact codeRead_fails h hop hfree hsectors
  · exact fun n hn hstate => codeRead_torn h hop hfree hn hstate
  · exact fun n hn hstate hnone => codeRead_suspended h hop hfree hn hstate hnone

end Sys2Proof.Machine
end

section
/-! PROOF. Flash programs and erases end, suspended erases resume, and the vault's log is flushed and collected (16 R608 to R625, 18 R661). -/

namespace Sys2Proof.Machine

open Sys2Proof

/-! ### Cleared bytes -/

/-- A byte of a cleared range reads as what unlisted bytes read as. -/
theorem Mem.get_clear_inside {d : Byte} {a n i : Nat} (h : a ≤ i ∧ i < a + n) : ∀ m : Mem, Mem.get d (m.clear a n) i = d
  | [] => rfl
  | (j, b) :: m => by
    have ih := Mem.get_clear_inside (d := d) h m
    unfold Mem.clear at ih ⊢
    rw [List.filter_cons]
    split
    · rename_i hj
      have hj := of_decide_eq_true hj
      rw [Mem.get, if_neg (by omega)]
      exact ih
    · exact ih

/-- A byte beside a cleared range reads as before. -/
theorem Mem.get_clear_outside {d : Byte} {a n i : Nat} (h : i < a ∨ a + n ≤ i) : ∀ m : Mem, Mem.get d (m.clear a n) i = Mem.get d m i
  | [] => rfl
  | (j, b) :: m => by
    have ih := Mem.get_clear_outside (d := d) h m
    unfold Mem.clear at ih ⊢
    rw [List.filter_cons]
    split
    · rw [Mem.get, Mem.get, ih]
    · rename_i hj
      have hj : ¬ (j < a ∨ a + n ≤ j) := fun hc => hj (decide_eq_true hc)
      rw [Mem.get, if_neg (by omega)]
      exact ih

/-! ### Programs of code flash (16 R609, R611) -/

/-- The sectors of a list marked programmed. -/
def markProgrammed (s : State) (l : List Nat) : State := l.foldl (fun s k => withSector s k (fun u => { u with state := 1 })) s

theorem markProgrammed_codeFlash (l : List Nat) (s : State) : (markProgrammed s l).codeFlash = s.codeFlash :=
  (Writes.foldl (m := 8388608) (f := fun (s : State) k => withSector s k (fun u => { u with state := 1 })) (.refl _ s)
    (fun _ h _ => withSector_writes h rfl)).codeFlash rfl

theorem markProgrammed_sector {n : Nat} (l : List Nat) : ∀ s : State, n ∈ l ∨ (sector s n).state = 1 → (sector (markProgrammed s l) n).state = 1 := by
  induction l with
  | nil => exact fun s h => h.resolve_left List.not_mem_nil
  | cons k l ih =>
    intro s h
    refine ih _ ?_
    rw [withSector_sector s k n (fun u => { u with state := 1 })]
    split
    · exact .inr rfl
    · next hk => exact h.imp_left fun hm => (List.mem_cons.mp hm).resolve_left hk

/-- A program of code flash ended: `n` of its bytes programmed, then those of `bad`. -/
def programEnded (s : State) (b : Nat) (o : BankOp) (n : Nat) (bad : Bytes) (status : Nat) : State :=
  flashDone ((markProgrammed { s with codeFlash := Mem.write 0xFF s.codeFlash o.d.target (o.data.take n ++ bad) }
    (sectorsOf o.d.target (n + bad.length))).withCode (fun c => { c with banks := c.banks.erase b })) (.code o.queue) o.d status n

section

variable (s : State) (b : Nat) (o : BankOp) (n : Nat) (bad : Bytes) (status : Nat)

theorem programEnded_codeFlash :
    (programEnded s b o n bad status).codeFlash = Mem.write 0xFF s.codeFlash o.d.target (o.data.take n ++ bad) :=
  ((flashDone_frame _ _ _ _ _).codeFlash rfl).trans (markProgrammed_codeFlash _ _)

theorem programEnded_bank : (programEnded s b o n bad status).code.banks.find b = none := by
  unfold programEnded
  rw [(flashDone_sameArrays _ _ _ _ _).banks]
  exact (Tab.find_erase b b _).trans (if_pos rfl)

theorem programEnded_sector {k : Nat} (hk : k ∈ sectorsOf o.d.target (n + bad.length)) :
    (sector (programEnded s b o n bad status) k).state = 1 := by
  unfold programEnded
  rw [(flashDone_sameArrays _ _ _ _ _).sector]
  exact markProgrammed_sector _ _ (.inl hk)

end

theorem endProgram_done (s : State) (b : Nat) (o : BankOp) :
    endProgram s b o true = programEnded (s.drawNat.2.drawBytes 32).2 b o o.d.len [] 0 := rfl

theorem endProgram_failed (s : State) (b : Nat) (o : BankOp) : endProgram s b o false =
    programEnded (s.drawNat.2.drawBytes 32).2 b o (s.drawNat.1 % (o.d.len / 32) * 32) (s.drawNat.2.drawBytes 32).1 0x5017 := rfl

/-- What a failing program has programmed, and what the failing granule holds, lies within its range. -/
theorem failed_within {len : Nat} (hlen : 32 ≤ len) (hgranules : len % 32 = 0) (f : Nat) (data : Bytes) {bad : Bytes} (hbad : bad.length = 32) :
    (data.take (f % (len / 32) * 32) ++ bad).length ≤ len := by
  have hlt : f % (len / 32) < len / 32 := Nat.mod_lt _ (by omega)
  rw [List.length_append, List.length_take, hbad]
  omega

theorem exec_flashProgramDone_code {s : State} {b : Nat} {o : BankOp} (hsupply : s.hostSupply = true) (hb : b < 4)
    (hbank : s.code.banks.find b = some o) (hop : o.d.op = 1) (ok : Bool) :
    exec (.flashProgramDone b ok) s = .next (lifeGoOn (serveCode (endProgram s b o ok))) := by
  refine congrArg (fun u => Host.Outcome.next (lifeGoOn u)) ?_
  unfold programDone
  rw [hsupply, Bool.not_true, if_neg Bool.false_ne_true, if_pos hb, hbank]
  exact if_pos hop

theorem codeProgram_ends {s : State} {b : Nat} {o : BankOp} (hsupply : s.hostSupply = true) (hb : b < 4)
    (hbank : s.code.banks.find b = some o) (hop : o.d.op = 1) :
    (∃ u, exec (.flashProgramDone b true) s = .next (lifeGoOn (serveCode u)) ∧
      u.codeFlash = Mem.write 0xFF s.codeFlash o.d.target (o.data.take o.d.len) ∧ u.code.banks.find b = none ∧
      (∀ n, n ∈ sectorsOf o.d.target o.d.len → (sector u n).state = 1)) ∧
    (∃ u, exec (.flashProgramDone b false) s = .next (lifeGoOn (serveCode u)) ∧ u.code.banks.find b = none ∧
      (32 ≤ o.d.len → o.d.len % 32 = 0 → ∀ a, a < o.d.target ∨ o.d.target + o.d.len ≤ a →
        Mem.get 0xFF u.codeFlash a = Mem.get 0xFF s.codeFlash a)) := by
  constructor
  · refine ⟨endProgram s b o true, exec_flashProgramDone_code hsupply hb hbank hop true, ?_⟩
    rw [endProgram_done, programEnded_codeFlash, List.append_nil]
    exact ⟨rfl, programEnded_bank .., fun n hn => programEnded_sector _ _ _ _ _ _ hn⟩
  · refine ⟨endProgram s b o false, exec_flashProgramDone_code hsupply hb hbank hop false, ?_⟩
    rw [endProgram_failed, programEnded_codeFlash]
    refine ⟨programEnded_bank .., fun hlen hgranules a ha => Mem.get_write_ne _ _ _ _ ?_⟩
    have hwithin := failed_within hlen hgranules s.drawNat.1 o.data (bad := (s.drawNat.2.drawBytes 32).1) (length_fit _ _)
    omega

/-! ### Programs of the vault (16 R619, R624) -/

/-- A block that is replaced is RETIRED. -/
theorem spareBlock_block (s : State) (b key cause : Nat) : ((spareBlock s b key cause).vault.blocks.get {} key).state = 5 := by
  unfold spareBlock
  refine (congrArg FUnit.state (Tab.get_upd_self {} _ key (fun u => { u with state := 5 }))).trans ?_
  rfl

/-- A block replaced leaves the pages and the erases of every bank. -/
theorem spareBlock_bank (s : State) (b key cause c : Nat) :
    ((spareBlock s b key cause).vbank c).prog = (s.vbank c).prog ∧ ((spareBlock s b key cause).vbank c).erasing = (s.vbank c).erasing := by
  have hbank : (spareBlock s b key cause).vbank c =
      if c = b then { s.vbank b with spent := if (s.vbank b).spent < 64 then (s.vbank b).spent + 1 else (s.vbank b).spent } else s.vbank c :=
    Tab.get_upd _ _ _ _ (fun x : VBank => { x with spent := if x.spent < 64 then x.spent + 1 else x.spent })
  rw [hbank]
  split
  · next h => rw [h]; exact ⟨rfl, rfl⟩
  · exact ⟨rfl, rfl⟩

theorem withVBank_vbank (s : State) (b c : Nat) (f : VBank → VBank) : (s.withVBank b f).vbank c = if c = b then f (s.vbank b) else s.vbank c :=
  Tab.get_upd _ _ _ _ _

/-- The programmed run of a queue's descriptor joins the log, and its queue is told. -/
theorem programmed_desc {p : VProg} {k e tag : Nat} (h : p.src = .desc k e tag) (s : State) :
    (programmed s p).vault.runs = s.vault.runs ++ [{ addr := p.addr, data := p.data, queue := some k }] ∧
      ∀ b, (programmed s p).vbank b = s.vbank b := by
  let u := s.withVault (fun v => { v with runs := v.runs ++ [{ addr := p.addr, data := p.data, queue := some k }] })
  have heq : programmed s p = flashEntry u (.vault k) 1 tag 0 p.data.length 0 p.addr 0 := by
    unfold programmed
    simp only [h]
    rfl
  have hsame : SameArrays u (programmed s p) := by
    rw [heq]
    exact flashEntry_sameArrays ..
  exact ⟨hsame.runs, hsame.vbank⟩

section

variable {s : State} {b : Nat} {p : VProg} {k e tag : Nat} {l : List (List VProg)}

theorem exec_flashProgramDone_page (hsupply : s.hostSupply = true) (hb : b < 16) (hprog : (s.vbank b).prog = [p] :: l)
    (herasing : (s.vbank b).erasing = none) :
    exec (.flashProgramDone (4 + b) true) s =
      .next (lifeGoOn (serveVaultReads (programmed (s.withVBank b (fun x => { x with prog := l, idleAt := s.now })) p))) := by
  refine congrArg (fun u => Host.Outcome.next (lifeGoOn u)) ?_
  unfold programDone
  rw [hsupply, Bool.not_true, if_neg Bool.false_ne_true, if_neg (by omega)]
  simp only [Nat.add_sub_cancel_left, hprog, herasing]
  rw [if_neg (by simpa using hb)]
  exact if_pos trivial

theorem exec_flashProgramDone_fails (hsupply : s.hostSupply = true) (hb : b < 16) (hprog : (s.vbank b).prog = [p] :: l)
    (herasing : (s.vbank b).erasing = none) :
    let m := s.vault.map.get (0, 0) (p.addr / vBlock)
    let key := if s.drawNat.1 % 2 = 0 then m.1 else m.2
    exec (.flashProgramDone (4 + b) false) s = .next (lifeGoOn (spareBlock s.drawNat.2 (key / 2720) key 0)) := by
  intro m key
  refine congrArg (fun u => Host.Outcome.next (lifeGoOn u)) ?_
  unfold programDone
  rw [hsupply, Bool.not_true, if_neg Bool.false_ne_true, if_neg (by omega)]
  simp only [Nat.add_sub_cancel_left, hprog, herasing]
  rw [if_neg (by simpa using hb), if_neg Bool.false_ne_true]
  rfl

theorem vaultProgram_ends (hsupply : s.hostSupply = true) (hb : b < 16) (hprog : (s.vbank b).prog = [p] :: l)
    (herasing : (s.vbank b).erasing = none) :
    (p.src = .desc k e tag → ∃ u, exec (.flashProgramDone (4 + b) true) s = .next (lifeGoOn (serveVaultReads u)) ∧ (u.vbank b).prog = l ∧
      u.vault.runs = s.vault.runs ++ [{ addr := p.addr, data := p.data, queue := some k }]) ∧
    (∃ u key, exec (.flashProgramDone (4 + b) false) s = .next (lifeGoOn u) ∧ (u.vbank b).prog = (s.vbank b).prog ∧
      (key = (s.vault.map.get (0, 0) (p.addr / vBlock)).1 ∨ key = (s.vault.map.get (0, 0) (p.addr / vBlock)).2) ∧
      (u.vault.blocks.get {} key).state = 5) := by
  refine ⟨fun hsrc => ?_, _, _, exec_flashProgramDone_fails hsupply hb hprog herasing, (spareBlock_bank ..).1, ?_, spareBlock_block ..⟩
  · obtain ⟨hruns, hbank⟩ := programmed_desc hsrc (s.withVBank b (fun x => { x with prog := l, idleAt := s.now }))
    refine ⟨_, exec_flashProgramDone_page hsupply hb hprog herasing, ?_, hruns⟩
    rw [hbank, withVBank_vbank, if_pos rfl]
  · split
    · exact .inl rfl
    · exact .inr rfl

end

/-! ### Erases of code flash (16 R608, R610, R611, R615) -/

theorem endSector_sector (s : State) (n m : Nat) (ok : Bool) : sector (endSector s n ok) m =
    if m = n then { state := if ok then 0 else 4, count := (sector s n).count + 1, lastErase := some s.clock.st } else sector s m := by
  cases ok <;> exact withSector_sector _ n m (fun u => { u with state := _, count := u.count + 1, lastErase := some s.clock.st })

section

variable {s : State} {b n : Nat} {o : BankOp} {l : List Nat}

theorem exec_flashEraseDone_code (hsupply : s.hostSupply = true) (hb : b < 4) (hbank : s.code.banks.find b = some o) (hleft : o.left = n :: l)
    (hsusp : o.suspAt = none) :
    exec (.flashEraseDone b true) s = .next (serveCode (nextErase (endSector s n true) b { o with left := l })) := by
  show execFlashEraseDone b true s = _
  unfold execFlashEraseDone
  rw [hsupply, Bool.not_true, if_neg Bool.false_ne_true, if_pos hb]
  simp only [hbank, hleft, hsusp]
  rfl

theorem exec_flashEraseDone_torn (hsupply : s.hostSupply = true) (hb : b < 4) (hbank : s.code.banks.find b = some o) (hleft : o.left = n :: l)
    (hsusp : o.suspAt = none) :
    exec (.flashEraseDone b false) s = .next (serveCode (flashDone ((endSector s n false).withCode (fun c => { c with banks := c.banks.erase b }))
      (.code o.queue) o.d 0x5018 (n * 4096 - o.d.target))) := by
  show execFlashEraseDone b false s = _
  unfold execFlashEraseDone
  rw [hsupply, Bool.not_true, if_neg Bool.false_ne_true, if_pos hb]
  simp only [hbank, hleft, hsusp]
  rfl

/-- Of a sector that the erase goes past, only the next one's state changes. -/
theorem nextErase_sector (u : State) (hn : n ∉ l) (hl : o.left = l) : sector (nextErase u b o) n = sector u n := by
  cases l with
  | nil =>
    rw [nextErase_nil hl]
    exact (flashDone_sameArrays _ _ _ _ _).sector n
  | cons m r =>
    rw [nextErase_cons hl]
    exact (withSector_sector u m n (fun u => { u with state := 2 })).trans (if_neg (List.ne_of_not_mem_cons hn))

theorem codeErase_ends (hsupply : s.hostSupply = true) (hb : b < 4) (hbank : s.code.banks.find b = some o) (hleft : o.left = n :: l)
    (hsusp : o.suspAt = none) :
    ∃ u, exec (.flashEraseDone b true) s = .next (serveCode u) ∧
      (n ∉ l → (sector u n).state = 0 ∧ (sector u n).count = (sector s n).count + 1 ∧ (sector u n).lastErase = some s.clock.st) ∧
      (l = [] → u.code.banks.find b = none) ∧
      (∀ m r, l = m :: r → u.code.banks.find b = some { o with left := l } ∧ (sector u m).state = 2) ∧
      (∀ a, n * 4096 ≤ a → a < n * 4096 + 4096 → Mem.get 0xFF u.codeFlash a = 0xFF) ∧
      (∀ a, a < n * 4096 ∨ n * 4096 + 4096 ≤ a → Mem.get 0xFF u.codeFlash a = Mem.get 0xFF s.codeFlash a) := by
  let v := endSector s n true
  have hflash : (nextErase v b { o with left := l }).codeFlash = s.codeFlash.clear (n * 4096) 4096 :=
    (nextErase_writes (wm := 2206203904) (.refl _ v) rfl).codeFlash rfl
  refine ⟨nextErase v b { o with left := l }, exec_flashEraseDone_code hsupply hb hbank hleft hsusp, fun hn => ?_, fun hl => ?_, fun m r hl => ?_,
    fun a h1 h2 => ?_, fun a ha => ?_⟩
  · rw [nextErase_sector v hn rfl, endSector_sector, if_pos rfl]
    exact ⟨rfl, rfl, rfl⟩
  · rw [nextErase_nil hl, (flashDone_sameArrays _ _ _ _ _).banks]
    exact (Tab.find_erase b b _).trans (if_pos rfl)
  · rw [nextErase_cons (l := r) hl]
    exact erasing_bank v b m { o with left := l }
  · rw [hflash]
    exact Mem.get_clear_inside ⟨h1, h2⟩ _
  · rw [hflash]
    exact Mem.get_clear_outside ha _

theorem codeErase_fails (hsupply : s.hostSupply = true) (hb : b < 4) (hbank : s.code.banks.find b = some o) (hleft : o.left = n :: l)
    (hsusp : o.suspAt = none) :
    ∃ u, exec (.flashEraseDone b false) s = .next (serveCode u) ∧ (sector u n).state = 4 ∧ u.code.banks.find b = none ∧
      u.codeFlash = s.codeFlash := by
  let v := (endSector s n false).withCode (fun c => { c with banks := c.banks.erase b })
  have hsame : SameArrays v (flashDone v (.code o.queue) o.d 0x5018 (n * 4096 - o.d.target)) := flashDone_sameArrays ..
  refine ⟨_, exec_flashEraseDone_torn hsupply hb hbank hleft hsusp, ?_, ?_, (flashDone_frame v _ _ _ _).codeFlash rfl⟩
  · rw [hsame.sector]
    have hsector : sector v n = { state := 4, count := (sector s n).count + 1, lastErase := some s.clock.st } :=
      (endSector_sector s n n false).trans (if_pos rfl)
    rw [hsector]
  · rw [hsame.banks]
    exact (Tab.find_erase b b _).trans (if_pos rfl)

/-- SUSPEND_EXPIRY of an erase suspended for 100 ms. -/
theorem suspendExpiry_resumes {t0 : Nat} (hbank : s.code.banks.find b = some o) (hsusp : o.suspAt = some t0) (hdue : t0 + msTicks 100 ≤ s.now)
    (hleft : o.left = n :: l) :
    ∃ t, exec (.suspendExpiry b) s = .next t ∧ t.code.banks.find b = some { o with suspAt := none } ∧ (sector t n).state = 2 := by
  refine ⟨erasing s b n { o with suspAt := none }, ?_, erasing_bank ..⟩
  show execSuspendExpiry b s = _
  unfold execSuspendExpiry
  simp only [hbank, hsusp]
  rw [if_pos hdue, resumeErase, nextErase_cons (o := { o with suspAt := none }) hleft]

end

/-! ### Erases of vault blocks (16 R624, R625) -/

section

variable {s : State} {b key : Nat}

theorem exec_flashEraseDone_vault (hsupply : s.hostSupply = true) (herasing : (s.vbank b).erasing = some key) (ok : Bool) :
    exec (.flashEraseDone (4 + b) ok) s = .next (serveVaultReads (endBlock s b key ok)) := by
  show execFlashEraseDone (4 + b) ok s = _
  unfold execFlashEraseDone
  rw [hsupply, Bool.not_true, if_neg Bool.false_ne_true, if_neg (by omega)]
  simp only [Nat.add_sub_cancel_left, herasing]

theorem endBlock_done (s : State) (b key : Nat) :
    ((endBlock s b key true).vbank b).erasing = none ∧ ((endBlock s b key true).vault.blocks.get {} key).state = 0 ∧
      ((endBlock s b key true).vault.blocks.get {} key).count = (s.vault.blocks.get {} key).count + 1 := by
  have hblock : (endBlock s b key true).vault.blocks.get {} key =
      { state := 0, count := (s.vault.blocks.get {} key).count + 1, lastErase := some s.clock.st } :=
    Tab.get_upd_self {} _ key (fun u : FUnit => { u with state := 0, count := u.count + 1, lastErase := some s.clock.st })
  have hbank : (endBlock s b key true).vbank b = { s.vbank b with erasing := none, erases := (s.vbank b).erases + 1, idleAt := s.now } :=
    (withVBank_vbank s b b (fun x => { x with erasing := none, erases := x.erases + 1, idleAt := s.now })).trans (if_pos rfl)
  rw [hblock, hbank]
  exact ⟨rfl, rfl, rfl⟩

theorem vaultErase_ends (hsupply : s.hostSupply = true) (herasing : (s.vbank b).erasing = some key) :
    (∃ u, exec (.flashEraseDone (4 + b) true) s = .next (serveVaultReads u) ∧ (u.vbank b).erasing = none ∧
      (u.vault.blocks.get {} key).state = 0 ∧ (u.vault.blocks.get {} key).count = (s.vault.blocks.get {} key).count + 1) ∧
    (∃ u, exec (.flashEraseDone (4 + b) false) s = .next (serveVaultReads u) ∧ (u.vbank b).erasing = none ∧
      (u.vault.blocks.get {} key).state = 5) := by
  refine ⟨⟨_, exec_flashEraseDone_vault hsupply herasing true, endBlock_done s b key⟩,
    _, exec_flashEraseDone_vault hsupply herasing false, ?_, spareBlock_block (endBlock s b key true) b key 1⟩
  exact (spareBlock_bank (endBlock s b key true) b key 1 b).2.trans (endBlock_done s b key).1

end

/-! ### What appending to the log leaves (16 R618 to R620, R622) -/

/-- The flush tick, whether collection goes on, and the erases of each bank are as before. -/
def SameUpkeep (s t : State) : Prop :=
  t.vault.flushAt = s.vault.flushAt ∧ t.vault.collecting = s.vault.collecting ∧ ∀ b, (t.vbank b).erases = (s.vbank b).erases

theorem SameUpkeep.refl (s : State) : SameUpkeep s s := ⟨rfl, rfl, fun _ => rfl⟩

theorem SameUpkeep.trans {s t u : State} (h : SameUpkeep s t) (k : SameUpkeep t u) : SameUpkeep s u :=
  ⟨k.1.trans h.1, k.2.1.trans h.2.1, fun b => (k.2.2 b).trans (h.2.2 b)⟩

theorem SameUpkeep.of_vault {s t : State} (h : t.vault = s.vault) : SameUpkeep s t := by
  unfold SameUpkeep State.vbank
  rw [h]
  exact ⟨rfl, rfl, fun _ => rfl⟩

theorem SameUpkeep.ite {s t u : State} {c : Prop} [Decidable c] (h : SameUpkeep s t) (k : SameUpkeep s u) : SameUpkeep s (if c then t else u) := by
  split
  · exact h
  · exact k

theorem withVBank_sameUpkeep (s : State) (b : Nat) {f : VBank → VBank} (hf : ∀ x, (f x).erases = x.erases) : SameUpkeep s (s.withVBank b f) := by
  refine ⟨rfl, rfl, fun c => ?_⟩
  rw [withVBank_vbank]
  split
  · next h => rw [h, hf]
  · rfl

theorem flushPage_sameUpkeep (s : State) (rel : Bool) : SameUpkeep s (flushPage s rel) := by
  unfold flushPage
  extract_lets l b s1
  split
  · exact .refl s
  · have h1 : SameUpkeep s s1 := withVBank_sameUpkeep s b (fun x => by cases rel <;> rfl)
    refine h1.trans ?_
    cases rel <;> exact ⟨rfl, rfl, fun _ => rfl⟩

theorem opened_sameUpkeep (s : State) (rel : Bool) (b : Nat) : SameUpkeep s ((allocLog s b).2.withVBank b (fun x =>
    if rel then { x with openRel := some (allocLog s b).1, relPage := 0 } else { x with openLog := some (allocLog s b).1, nextPage := 0 })) :=
  SameUpkeep.trans (t := (allocLog s b).2) ⟨rfl, rfl, fun _ => rfl⟩ (withVBank_sameUpkeep _ b (fun x => by cases rel <;> rfl))

theorem headOf_sameUpkeep (s : State) (rel : Bool) (b : Nat) : SameUpkeep s (headOf s rel b).2 := by
  unfold headOf
  dsimp only
  generalize (if rel then (s.vbank b).openRel else (s.vbank b).openLog) = o
  generalize (if rel then (s.vbank b).relPage else (s.vbank b).nextPage) = page
  cases o with
  | none => exact opened_sameUpkeep s rel b
  | some n =>
    dsimp only
    split
    · exact .refl s
    · exact opened_sameUpkeep s rel b

theorem countRate_sameUpkeep (s : State) (n : Nat) : SameUpkeep s (countRate s n) := by
  unfold countRate SameUpkeep State.withVault State.vbank
  dsimp only
  split <;> exact ⟨rfl, rfl, fun _ => rfl⟩

theorem vAppend_sameUpkeep (s : State) (rel : Bool) (src : VSrc) (data : Bytes) : SameUpkeep s (vAppend s rel src data) := by
  unfold vAppend
  extract_lets n s1 used b
  have h1 : SameUpkeep s s1 := .ite (flushPage_sameUpkeep s rel) (.refl s)
  have h2 : SameUpkeep s1 (headOf s1 rel b).2 := headOf_sameUpkeep s1 rel b
  split
  rename_i h s2 heq
  extract_lets p s3 s4
  rw [heq] at h2
  have h3 : SameUpkeep s2 s3 := by cases rel <;> exact ⟨rfl, rfl, fun _ => rfl⟩
  have h4 : SameUpkeep s s4 := ((h1.trans h2).trans h3).trans (countRate_sameUpkeep s3 (2 * n))
  exact .ite (h4.trans (flushPage_sameUpkeep s4 rel)) h4

theorem handEvents_sameUpkeep (s : State) : SameUpkeep s (handEvents s) := by
  unfold handEvents
  extract_lets isEv l b s1
  have h1 : SameUpkeep s s1 := countRate_sameUpkeep s 0
  split
  · exact .refl s
  · split
    · exact .refl s
    · exact (h1.trans (t := s1) (u := s1.withVault (fun v => { v with rateEvr := v.rateEvr + 2 * unitLen b.length })) ⟨rfl, rfl, fun _ => rfl⟩).trans
        (vAppend_sameUpkeep _ _ _ _)

theorem foldl_sameUpkeep {α : Type} {f : State → α → State} (hf : ∀ s a, SameUpkeep s (f s a)) (l : List α) :
    ∀ s : State, SameUpkeep s (l.foldl f s) := by
  induction l with
  | nil => exact .refl
  | cons a l ih => exact fun s => (hf s a).trans (ih _)

theorem collect_sameUpkeep (s : State) (n : Nat) : SameUpkeep s (collect s n) := by
  unfold collect
  split
  · exact .refl s
  · extract_lets rs s1
    have h1 : SameUpkeep s s1 := foldl_sameUpkeep (f := fun s (r : VRun) =>
      (vAppend s true (.reloc r.addr r.queue) ((List.range r.data.length).map (fun i => vByte s (r.addr + i)))).bumpBys
        gFlashVaultRelocated 0 r.data.length) (fun s r => (vAppend_sameUpkeep s _ _ _).trans (.of_vault rfl)) rs s
    exact h1.trans (t := s1) ⟨rfl, rfl, fun _ => rfl⟩

/-! ### Flush ticks and collection (16 R619, R622, R625) -/

theorem flushPage_gather (s : State) : (flushPage s false).vault.gather = [] := by
  unfold flushPage
  extract_lets l b s1
  split
  · next h => exact List.isEmpty_iff.mp h
  · rfl

theorem flushPage_rgather (s : State) : (flushPage s true).vault.rgather = [] ∧ (flushPage s true).vault.gather = s.vault.gather := by
  unfold flushPage
  extract_lets l b s1
  split
  · next h => exact ⟨List.isEmpty_iff.mp h, rfl⟩
  · exact ⟨rfl, rfl⟩

/-- Hoisting struck banks leaves the flush tick and what is gathered. -/
theorem hoistBanks_gathered (s : State) : (hoistBanks s).vault.flushAt = s.vault.flushAt ∧ (hoistBanks s).vault.gather = s.vault.gather ∧
    (hoistBanks s).vault.rgather = s.vault.rgather := by
  unfold hoistBanks
  generalize List.range 16 = l
  induction l generalizing s with
  | nil => exact ⟨rfl, rfl, rfl⟩
  | cons b l ih =>
    obtain ⟨h1, h2, h3⟩ := ih (if !(s.vbank b).prog.isEmpty && s.isl (210 + b) == 2 then
      ((hoistIsl s [210 + b]).present (210 + b) (.mark 3 (210 + b))).withVBank b (fun x => { x with idleAt := s.now })
    else s)
    have hvault : ((hoistIsl s [210 + b]).present (210 + b) (.mark 3 (210 + b))).vault = s.vault :=
      (hoistIsl_writes (wm := 16) (.refl _ s) rfl).vault rfl
    rw [List.foldl_cons, h1, h2, h3]
    split
    · dsimp only [State.withVBank, State.withVault]
      rw [hvault]
      exact ⟨rfl, rfl, rfl⟩
    · exact ⟨rfl, rfl, rfl⟩

theorem flushTick_flushes {s : State} (hsupply : s.hostSupply = true) (hdue : s.vault.flushAt + msTicks 4 ≤ s.now) :
    ∃ t, exec .flushTick s = .next t ∧ t.vault.flushAt = s.now ∧ t.vault.gather = [] ∧ t.vault.rgather = [] := by
  let u := handEvents (s.withVault (fun v => { v with flushAt := s.now }))
  let v := flushPage (flushPage u false) true
  obtain ⟨htick, hgather, hrgather⟩ := hoistBanks_gathered v
  obtain ⟨hempty, hkept⟩ := flushPage_rgather (flushPage u false)
  have hv : SameUpkeep (s.withVault (fun v => { v with flushAt := s.now })) v :=
    ((handEvents_sameUpkeep _).trans (flushPage_sameUpkeep u false)).trans (flushPage_sameUpkeep _ true)
  refine ⟨hoistBanks v, ?_, htick.trans hv.1, hgather.trans (hkept.trans (flushPage_gather u)), hrgather.trans hempty⟩
  show execFlushTick s = _
  unfold execFlushTick
  rw [hsupply, Bool.not_true, Bool.false_or, if_neg (by simpa using hdue)]

theorem collection_begins {s : State} (hsupply : s.hostSupply = true) (hlow : unmapped s < 1024) :
    ∃ t, exec .collection s = .next t ∧ t.vault.collecting = true := by
  let u := s.withVault (fun v => { v with collecting := true })
  have hexec : exec .collection s = .next (match pickVictim u with | none => u | some n => collect u n) := by
    show execCollection s = _
    unfold execCollection
    dsimp only
    rw [hsupply, decide_eq_true hlow, Bool.true_or, Bool.not_true, Bool.or_self, if_neg Bool.false_ne_true]
    show (match pickVictim u with | none => Host.Outcome.next u | some n => Host.Outcome.next (collect u n)) = _
    cases pickVictim u <;> rfl
  refine ⟨_, hexec, ?_⟩
  split
  · rfl
  · exact (collect_sameUpkeep u _).2.1

theorem collection_stops {s : State} (hmany : 1536 ≤ unmapped s) :
    ∃ t, exec .collection s = .next t ∧ t.vault.collecting = false ∧ t.vault.map = s.vault.map := by
  refine ⟨s.withVault (fun v => { v with collecting := false }), ?_, rfl, rfl⟩
  show execCollection s = _
  unfold execCollection
  dsimp only
  rw [decide_eq_false (by omega : ¬ unmapped s < 1024), decide_eq_false (by omega : ¬ unmapped s < 1536), Bool.and_false, Bool.or_false, Bool.not_false,
    Bool.or_true, if_pos rfl]

theorem victimErase_begins {s : State} {n : Nat} (hsupply : s.hostSupply = true) (hready : s.vault.victims.find? (fun k => victimReady s k) = some n) :
    let e := s.vault.map.get (0, 0) n
    (s.vbank (e.1 / 2720)).erasing = none → (s.vbank (e.2 / 2720)).erasing = none → e.1 / 2720 ≠ e.2 / 2720 →
    ∃ t, exec .victimErase s = .next t ∧ t.vault.map.find n = none ∧ (t.vbank (e.1 / 2720)).erasing = some e.1 ∧
      (t.vbank (e.2 / 2720)).erasing = some e.2 ∧ t.mem = s.mem := by
  intro e h1 h2 hne
  let u := s.withVault (fun v => { v with
    victims := v.victims.filter (fun k => k != n), map := v.map.erase n,
    runs := v.runs.filter (fun r => r.addr / vBlock != n),
    blocks := (v.blocks.upd {} e.1 (fun u => { u with state := 2 })).upd {} e.2 (fun u => { u with state := 2 }) })
  let f (k : Nat) (x : VBank) : VBank := { x with erasing := some k }
  refine ⟨(u.withVBank (e.1 / 2720) (f e.1)).withVBank (e.2 / 2720) (f e.2), ?_, (Tab.find_erase n n _).trans (if_pos rfl), ?_, ?_, rfl⟩
  · show execVictimErase s = _
    unfold execVictimErase
    simp only [hready, hsupply]
    rw [h1, h2]
    rfl
  · rw [withVBank_vbank, if_neg hne, withVBank_vbank, if_pos rfl]
  · rw [withVBank_vbank, if_pos rfl]

theorem wearCollection_counts {s : State} {b : Nat} (hsupply : s.hostSupply = true) (hb : b < 16) (hworn : 1000 ≤ (s.vbank b).erases) :
    ∃ t, exec (.wearCollection b) s = .next t ∧ (t.vbank b).erases = (s.vbank b).erases - 1000 := by
  let u := s.withVBank b (fun x => { x with erases := x.erases - 1000 })
  have hu : (u.vbank b).erases = (s.vbank b).erases - 1000 := by
    rw [withVBank_vbank, if_pos rfl]
  have hguard : ¬ (16 ≤ b ∨ (s.vbank b).erases < 1000 ∨ (!s.hostSupply) = true) := by
    rw [hsupply]
    rintro (h | h | h)
    · omega
    · omega
    · exact Bool.false_ne_true h
  have hexec : exec (.wearCollection b) s = .next u ∨ ∃ n, exec (.wearCollection b) s = .next (collect u n) := by
    show execWearCollection b s = _ ∨ ∃ n, execWearCollection b s = _
    unfold execWearCollection
    rw [if_neg hguard]
    extract_lets s1 l
    split
    · exact .inl rfl
    · exact .inr ⟨_, rfl⟩
  obtain hexec | ⟨n, hexec⟩ := hexec
  · exact ⟨u, hexec, hu⟩
  · exact ⟨collect u n, hexec, ((collect_sameUpkeep u n).2.2 b).trans hu⟩

/-! ### Idle banks in DORMANT (18 R661) -/

theorem vaultBankIdle_strikes {s : State} {b : Nat} (hmode : s.modeNum = 1) (hb : b < 16) (hisl : s.isl (210 + b) = 0) (hprog : (s.vbank b).prog = [])
    (herasing : (s.vbank b).erasing = none) (hidle : (s.vbank b).idleAt + msTicks 10 ≤ s.now) :
    ∃ t, exec (.vaultBankIdle b) s = .next t ∧ t.isl (210 + b) = 2 ∧ (∀ k, k ≠ 210 + b → t.isl k = s.isl k) := by
  have hstrike : strikeIsl s [210 + b] = s.setIsl (210 + b) 2 := by
    unfold strikeIsl
    rw [List.foldl_cons, List.foldl_nil, hisl]
    rfl
  refine ⟨(s.setIsl (210 + b) 2).present (210 + b) (.mark 4 (210 + b)), ?_, ?_, fun k hk => ?_⟩
  · show execVaultBankIdle b s = _
    unfold execVaultBankIdle
    rw [hstrike]
    exact if_pos ⟨hmode, hb, hisl, by rw [hprog]; rfl, by rw [herasing]; rfl, hidle⟩
  · exact congrArg Island.state (Tab.get_set_self {} s.islands (210 + b) ⟨2⟩)
  · exact congrArg Island.state (Tab.get_set_other {} s.islands ⟨2⟩ hk)

/-- Settles O31: a program or an erase that ends is `programEnded`, `programmed`, `endSector` or `endBlock` with the next one begun, and the
log's upkeep is kept by every append (`vAppend_sameUpkeep`). -/
theorem flashOperationsEnd : Obligations.FlashOperationsEnd := by
  unfold Obligations.FlashOperationsEnd
  exact ⟨fun s b o hsupply hb hbank hop => codeProgram_ends hsupply hb hbank hop,
    fun s b p k e tag l hsupply hb hprog herasing => vaultProgram_ends hsupply hb hprog herasing,
    fun s b n o l hsupply hb hbank hleft hsusp =>
      ⟨codeErase_ends hsupply hb hbank hleft hsusp, codeErase_fails hsupply hb hbank hleft hsusp⟩,
    fun s b key hsupply herasing => vaultErase_ends hsupply herasing,
    fun s b n t0 o l hbank hsusp hdue hleft => suspendExpiry_resumes hbank hsusp hdue hleft,
    fun s hsupply hdue => flushTick_flushes hsupply hdue,
    fun s hsupply => ⟨collection_begins hsupply, collection_stops⟩,
    fun s n hsupply hready => victimErase_begins hsupply hready,
    fun s b hsupply hb hworn => wearCollection_counts hsupply hb hworn,
    fun s b hmode hb hisl hprog herasing hidle => vaultBankIdle_strikes hmode hb hisl hprog herasing hidle⟩

end Sys2Proof.Machine
end

section
/-! PROOF. A request of the mailbox whose identity stands among the session's stored replies (22 R772, R781, R785). -/

namespace Sys2Proof.Machine

open Sys2Proof

/-! ### Bytes of a copied area -/

theorem Mem.getD_read {d : Byte} (m : Mem) (a : Nat) {n i : Nat} (h : i < n) : (Mem.read d m a n).getD i 0 = Mem.get d m (a + i) := by
  have hi : i < (Mem.read d m a n).length := by rwa [Mem.read, List.length_map, List.length_range]
  rw [List.getD_eq_getElem _ _ hi]
  simp only [Mem.read, List.getElem_map, List.getElem_range]

/-- A part of what is read is what is read there. -/
theorem Mem.take_drop_read {d : Byte} (m : Mem) (a : Nat) {n k j : Nat} (h : k + j ≤ n) :
    ((Mem.read d m a n).drop k).take j = Mem.read d m (a + k) j := by
  refine List.ext_getElem ?_ fun i _ _ => ?_
  · simp only [Mem.read, List.length_take, List.length_drop, List.length_map, List.length_range]
    omega
  · simp only [Mem.read, List.getElem_take, List.getElem_drop, List.getElem_map, List.getElem_range]
    rw [Nat.add_assoc]

/-! ### The stored reply -/

/-- A module with its +12V supply whose request area holds NOP_MESSAGE with FLAGS 1 and REQ_ID 0, and whose mailbox session stores a reply to
REQ_ID 0. -/
def storedReply : State where
  mode := { code := 0x555 }
  mgmt := { reqArea := [(0, 0x3E), (1, 1)], mbox := { replies := [(0, [])] } }

/-- The request that MB_GO copies. -/
def storedRequest : Bytes := Mem.read 0 storedReply.mgmt.reqArea 0 (28 * 1024)

/-- Its FLAGS are not zero, so it breaks its form. -/
theorem storedRequest_badForm : badForm false storedRequest = true := by
  have hmsg : storedRequest.getD 0 0 = 0x3E := Mem.getD_read _ 0 (by decide)
  have hflags : storedRequest.getD 1 0 = 1 := Mem.getD_read _ 0 (by decide)
  unfold badForm
  simp only [hmsg, hflags]
  rfl

theorem storedRequest_req : BitVec.ofNat 16 (leNat ((storedRequest.drop 2).take 2)) = 0#16 := by
  rw [storedRequest, Mem.take_drop_read _ _ (by decide)]
  decide

/-- MB_GO of a mailbox that is not BUSY copies the request, and refuses one that breaks its form. -/
theorem mbGo_copies {s : State} {m : Bytes} (hup : s.mainUp = true) (hidle : s.mgmt.busy = false) (hm : Mem.read 0 s.mgmt.reqArea 0 (28 * 1024) = m) :
    exec .mbGo s = if badForm false m then refuseForm (s.withMgmt (fun g => { g with request := m, busy := true })) .mailbox m
      else .next (s.withMgmt (fun g => { g with request := m, busy := true })) := by
  show execMbGo s = _
  unfold execMbGo
  rw [hup, hidle, hm]
  rfl

/-- MB_GO of that request sends the stored reply to no response area: BUSY stays. -/
theorem mbGo_storedReply : ∃ u, exec .mbGo storedReply = .next u ∧ u.mgmt.busy = true := by
  let s1 := storedReply.withMgmt (fun g => { g with request := storedRequest, busy := true })
  refine ⟨s1.withSess .mailbox (fun z => { z with sent := z.sent ++ [[]], seqOut := z.seqOut + 1, framesOut := z.framesOut + 1, lastAt := s1.now }), ?_, rfl⟩
  rw [mbGo_copies (by decide) rfl (rfl : _ = storedRequest), if_pos storedRequest_badForm, refuseForm, storedRequest_req]
  rfl

/-- Refutes O45: in `storedReply` the mailbox session stores a reply to REQ_ID 0, so the malformed request of that identity is no new one
(22 R785) and `onMsg` answers it with the stored reply; the response area and BUSY stay, where the clause of MB_GO has MSG_FORMAT answered.
The model's commands store replies in GAP sessions alone; the clause speaks of every state. -/
theorem not_mailboxAndEntryMessages : ¬ Obligations.MailboxAndEntryMessages := by
  unfold Obligations.MailboxAndEntryMessages
  rintro ⟨-, hgo, -⟩
  obtain ⟨t, hexec, -, -, hanswered⟩ := hgo storedReply (by decide) rfl
  obtain ⟨u, hu, hbusy⟩ := mbGo_storedReply
  obtain ⟨-, hidle, -⟩ := hanswered storedRequest_badForm
  have htu : t = u := Host.Outcome.next.inj (hexec.symm.trans hu)
  rw [htu, hbusy] at hidle
  exact absurd hidle (by decide)

end Sys2Proof.Machine
end

section
/-! PROOF. Reads of entries, and writes that Table 2 refuses (22 R765, R788; 00 R13). -/

namespace Sys2Proof.Machine

open Sys2Proof

/-! ### Reads (22 R788) -/

theorem readCheck_ok {s : State} {x : SessId} {key : Nat} {r : GRow} (hrow : glossRow key = some r)
    (hrole : roleReaches (s.sess x).role r.rd = true) : readCheck s x key = 0 := by
  rw [readCheck, hrow]
  exact if_pos hrole

/-- What a READ of a value answers, by its range. -/
theorem replyRead_answers (u : State) (x : SessId) (req : BitVec 16) (v : Bytes) (off len : Nat) :
    ((len = 0 ∨ v.length ≤ off) → Answered (replyRead u x req v off len) x (statusReply 0x10 req 1 (toLE 4 v.length))) ∧
    (¬ (len = 0 ∨ v.length ≤ off) →
      Answered (replyRead u x req v off len) x (statusReply 0x10 req 0 (toLE 4 v.length ++ (v.drop off).take len))) := by
  refine ⟨fun h => ?_, fun h => ?_⟩
  · rw [replyRead, if_pos h]
    exact answered_reply ..
  · rw [replyRead, if_neg h]
    exact answered_reply ..

/-- A served read whose role suffices reads tag memory or the entry's value. -/
theorem exec_read {s : State} {x : SessId} {req : BitVec 16} {index sub off len : Nat} {r : GRow} (h : Served s x req) (htxn : s.tag.txn = none)
    (hrow : glossRow (index * 256 + sub) = some r) (hrole : roleReaches (s.sess x).role r.rd = true) :
    let v := if index * 256 + sub = 0x541005 then tagBytes s ((s.sess x).selVal 0x541004) 256 else glossBytes s (s.sess x) r
    ∃ u, exec (.read x req index sub off len) s =
      .next (if 1024 < len then replyStatus s x 0x10 req 0x7027 [] else replyRead u x req v off len) := by
  intro v
  have hcheck : readCheck s x (index * 256 + sub) = 0 := readCheck_ok hrow hrole
  have hexec (t : State) (ht : (if index * 256 + sub = 0x541005 then
      tagHost s { sess := x, req := req, key := index * 256 + sub, value := none, off := off, len := len, since := s.now }
      else replyRead { s with free := s.free + 1 } x req (glossBytes s (s.sess x) r) off len) = t) :
      exec (.read x req index sub off len) s = .next (if 1024 < len then replyStatus s x 0x10 req 0x7027 [] else t) := by
    show execRead x req index sub off len s = _
    unfold execRead
    dsimp only
    rw [onMsg_served h, hrow, hcheck, ← ht]
    rfl
  by_cases hkey : index * 256 + sub = 0x541005
  · refine ⟨s, hexec _ ?_⟩
    rw [if_pos hkey, tagHost_free htxn]
    show tagRead s x req off len = _
    unfold tagRead
    rw [← hkey, hcheck]
    simp only [v, if_pos hkey]
    rfl
  · exact ⟨{ s with free := s.free + 1 }, hexec _ (by simp only [v, if_neg hkey])⟩

theorem read_answers {s : State} {x : SessId} {req : BitVec 16} {index sub off len : Nat} {r : GRow} (h : Served s x req) (htxn : s.tag.txn = none)
    (hrow : glossRow (index * 256 + sub) = some r) (hrole : roleReaches (s.sess x).role r.rd = true) :
    let v := if index * 256 + sub = 0x541005 then tagBytes s ((s.sess x).selVal 0x541004) 256 else glossBytes s (s.sess x) r
    ∃ t, exec (.read x req index sub off len) s = .next t ∧
      (1024 < len → Answered t x (statusReply 0x10 req 0x7027 [])) ∧
      (len ≤ 1024 → (len = 0 ∨ v.length ≤ off) → Answered t x (statusReply 0x10 req 1 (toLE 4 v.length))) ∧
      (len ≤ 1024 → 0 < len → off < v.length → off + len ≤ v.length →
        Answered t x (statusReply 0x10 req 0 (toLE 4 v.length ++ (v.drop off).take len))) ∧
      (len ≤ 1024 → 0 < len → off < v.length → v.length < off + len →
        Answered t x (statusReply 0x10 req 0 (toLE 4 v.length ++ v.drop off))) := by
  intro v
  obtain ⟨u, hexec⟩ := exec_read (off := off) (len := len) h htxn hrow hrole
  obtain ⟨hempty, hbytes⟩ := replyRead_answers u x req v off len
  refine ⟨_, hexec, fun hlong => ?_, fun hlen he => ?_, fun hlen hpos hoff _ => ?_, fun hlen hpos hoff hend => ?_⟩
  · rw [if_pos hlong]
    exact answered_reply ..
  · rw [if_neg (by omega)]
    exact hempty he
  · rw [if_neg (by omega)]
    exact hbytes (by omega)
  · have htail : (v.drop off).take len = v.drop off := List.take_of_length_le (by rw [List.length_drop]; omega)
    rw [if_neg (by omega), ← htail]
    exact hbytes (by omega)

/-! ### Writes that Table 2 refuses (22 R765) -/

/-- A value of the wrong length or out of Range is refused, whatever else holds. -/
theorem writeCheck_refuses {s : State} {x : SessId} {key : Nat} {v : Bytes} {r : GRow} (hrow : glossRow key = some r)
    (hbad : v.length ≠ r.ty.size ∨ inRange (s.sess x) r v = false) (cond busy : Bool) : writeCheck s x key v cond busy ≠ 0 := by
  unfold writeCheck
  rw [hrow]
  dsimp only
  split
  · decide
  split
  · decide
  split
  · decide
  split
  · decide
  next hlen =>
    split
    · decide
    next hrange =>
      rw [hbad.resolve_left hlen] at hrange
      exact absurd rfl hrange

/-- The state after a refused write: the refusal counted and answered. -/
def refusedWrite (s : State) (x : SessId) (req : BitVec 16) (st : Nat) (rwp : Bool) : State :=
  replyStatus (countRefusal s st rwp) x 0x11 req st []

theorem actWrite_refused {s : State} {x : SessId} {req : BitVec 16} {key : Nat} {v : Bytes} {cond busy : Bool} {f : State → State}
    (h : Served s x req) (hst : writeCheck s x key v cond busy ≠ 0) :
    actWrite s x req key v cond busy f = .next (refusedWrite s x req (writeCheck s x key v cond busy) false) := by
  rw [actWrite, onMsg_served h]
  exact congrArg Host.Outcome.next (if_pos hst)

theorem requestWrite_refused {s : State} {x : SessId} {req : BitVec 16} {v : Bytes} {b : Bool}
    (hst : writeCheck s x (if b then 0x540007 else 0x530008) v true false ≠ 0) :
    requestWrite s x req b v = refusedWrite s x req (writeCheck s x (if b then 0x540007 else 0x530008) v true false) false := if_pos hst

theorem tagWrite_refused {s : State} {x : SessId} {req : BitVec 16} {v : Bytes} (htxn : s.tag.txn = none)
    (hst : ∀ cond busy, writeCheck s x 0x541005 v cond busy ≠ 0) (h : Served s x req) :
    ∃ st, st ≠ 0 ∧ execTagMemBlock x req (some v) s = .next (refusedWrite s x req st true) := by
  refine ⟨_, hst (decide (0x400 ≤ (s.sess x).selVal 0x541004)) false, ?_⟩
  rw [execTagMemBlock, onMsg_served h, tagHost_free htxn]
  exact congrArg Host.Outcome.next (if_pos (hst _ _))

theorem tagCounterAdd_refused {s : State} {x : SessId} {req : BitVec 16} {v : Bytes} (htxn : s.tag.txn = none)
    (hst : ∀ cond busy, writeCheck s x 0x541008 v cond busy ≠ 0) (h : Served s x req) :
    ∃ st, st ≠ 0 ∧ execTagCounterAdd x req v s = .next (refusedWrite s x req st false) := by
  refine ⟨_, hst (decide (8 ≤ (s.sess x).selVal 0x541006)) false, ?_⟩
  rw [execTagCounterAdd, onMsg_served h, tagHost_free htxn]
  exact congrArg Host.Outcome.next (if_pos (hst _ _))

theorem writeEntry22_refused {s : State} {x : SessId} {req : BitVec 16} {key : Nat} {v : Bytes} {r : GRow} (hrow : glossRow key = some r)
    (hst : ∀ cond busy, writeCheck s x key v cond busy ≠ 0) :
    ∃ st, st ≠ 0 ∧ writeEntry22 s x req key v = refusedWrite s x req st (r.acc == .rwp) := by
  refine ⟨_, hst (!(credKeys key && s.inEnrol && x != .mailbox)) (entryBusy s key), ?_⟩
  unfold writeEntry22
  rw [hrow]
  exact if_pos (hst _ _)

/-- A served write that no Table 2 check admits is refused, by whatever row it acts. -/
theorem exec_write_refused {s : State} {x : SessId} {req : BitVec 16} {index sub : Nat} {v : Bytes} {r : GRow} (h : Served s x req)
    (htxn : s.tag.txn = none) (hrow : glossRow (index * 256 + sub) = some r)
    (hst : ∀ cond busy, writeCheck s x (index * 256 + sub) v cond busy ≠ 0) :
    ∃ st rwp, st ≠ 0 ∧ exec (.write x req index sub v) s = .next (refusedWrite s x req st rwp) := by
  show ∃ st rwp, st ≠ 0 ∧ execWrite x req index sub v s = .next (refusedWrite s x req st rwp)
  unfold execWrite
  generalize index * 256 + sub = key at hrow hst
  split
  · exact ⟨_, _, hst _ _, actWrite_refused h (hst _ _)⟩
  · exact ⟨_, _, hst _ _, actWrite_refused h (hst _ _)⟩
  · exact ⟨_, _, hst _ _, actWrite_refused h (hst _ _)⟩
  · exact ⟨_, _, hst _ _, (onMsg_served h _).trans (congrArg Host.Outcome.next (requestWrite_refused (b := false) (hst _ _)))⟩
  · exact ⟨_, _, hst _ _, actWrite_refused h (hst _ _)⟩
  · exact ⟨_, _, hst _ _, (onMsg_served h _).trans (congrArg Host.Outcome.next (requestWrite_refused (b := true) (hst _ _)))⟩
  · obtain ⟨st, hne, heq⟩ := tagWrite_refused htxn hst h
    exact ⟨st, _, hne, heq⟩
  · obtain ⟨st, hne, heq⟩ := tagCounterAdd_refused htxn hst h
    exact ⟨st, _, hne, heq⟩
  · obtain ⟨st, hne, heq⟩ := writeEntry22_refused (req := req) hrow hst
    exact ⟨st, _, hne, (onMsg_served h _).trans (congrArg Host.Outcome.next heq)⟩

theorem glossRow_key {key : Nat} {r : GRow} (h : glossRow key = some r) : r.key = key := by
  have hkey := List.find?_some h
  exact beq_iff_eq.mp hkey

/-- The counters of refusals are read-only entries. -/
theorem refusalCounters_ro : ((glossRow gGlsDenied.key).map GRow.acc = some .ro) ∧ ((glossRow gGlsRwpBusy.key).map GRow.acc = some .ro) :=
  ⟨rfl, rfl⟩

theorem find_bump_other (s : State) (e : GE) {key sel : Nat} (hkey : key ≠ e.key) (hsel : sel < 65536) :
    Tab.find (s.bump e).gls (key * 65536 + sel) = Tab.find s.gls (key * 65536 + sel) := by
  rw [State.bump_gls]
  exact Tab.find_set_other _ _ (by omega)

/-- A refusal counted leaves every entry that is not read-only. -/
theorem countRefusal_find (s : State) (st : Nat) (rwp : Bool) {r : GRow} (hrow : glossRow r.key = some r) (hacc : r.acc ≠ .ro) {sel : Nat}
    (hsel : sel < 65536) : Tab.find (countRefusal s st rwp).gls (r.key * 65536 + sel) = Tab.find s.gls (r.key * 65536 + sel) := by
  obtain ⟨hdenied, hbusy⟩ := refusalCounters_ro
  have hne {e : GE} (he : (glossRow e.key).map GRow.acc = some .ro) : r.key ≠ e.key := by
    intro hkey
    rw [← hkey, hrow] at he
    exact hacc (Option.some.inj he)
  unfold countRefusal
  split
  · exact find_bump_other s _ (hne hdenied) hsel
  · split
    · exact find_bump_other s _ (hne hbusy) hsel
    · rfl

theorem reply_creds (s : State) (x : SessId) (msg : Nat) (req : BitVec 16) (body : Bytes) : (reply s x msg req body).mgmt.creds = s.mgmt.creds := by
  cases x with
  | mailbox =>
    unfold reply
    dsimp only
    rw [(State.msix_writes (wm := 128) (.refl _ _) rfl).mgmt rfl]
    rfl
  | gap n => rfl

theorem countRefusal_sess (s : State) (st : Nat) (rwp : Bool) (x : SessId) : (countRefusal s st rwp).sess x = s.sess x := by
  have hmgmt : (countRefusal s st rwp).mgmt = s.mgmt := (countRefusal_writes (wm := 1073741824) (.refl _ s) rfl).mgmt rfl
  cases x
  · exact congrArg Mgmt.mbox hmgmt
  · rename_i n
    exact congrArg (fun m : Mgmt => m.gap.get { opened := false, role := 0 } n) hmgmt

theorem refusedWrite_leaves (s : State) (x : SessId) (req : BitVec 16) (st : Nat) (rwp : Bool) {r : GRow} (hrow : glossRow r.key = some r) :
    let t := refusedWrite s x req st rwp
    Answered t x (statusReply 0x11 req st []) ∧
      (r.acc ≠ .ro → ∀ sel, sel < 65536 → Tab.find t.gls (r.key * 65536 + sel) = Tab.find s.gls (r.key * 65536 + sel)) ∧
      (t.sess x).draft = (s.sess x).draft ∧ (t.sess x).sel = (s.sess x).sel ∧ t.mgmt.creds = s.mgmt.creds ∧ t.guards = s.guards ∧
      t.tag = s.tag ∧ t.appr = s.appr := by
  intro t
  have hcount : Writes 1073741824 s (countRefusal s st rwp) := countRefusal_writes (.refl _ s) rfl
  have hw : Writes 1074266240 s t := replyStatus_writes (hcount.mono rfl) rfl
  obtain ⟨hsel, hdraft⟩ := reply_sess (countRefusal s st rwp) x 0x11 req st []
  rw [countRefusal_sess] at hsel hdraft
  refine ⟨answered_reply .., fun hacc sel hlt => ?_, hdraft, hsel, ?_, hw.guards rfl, hw.tag rfl, hw.appr rfl⟩
  · rw [show t.gls = (countRefusal s st rwp).gls from reply_gls ..]
    exact countRefusal_find s st rwp hrow hacc hlt
  · exact (reply_creds ..).trans (congrArg Mgmt.creds (hcount.mgmt rfl))

/-- Settles O57: a served READ is `replyRead` of the value (`exec_read`); a WRITE of a wrong length or out of Range passes no check of Table 2
(`writeCheck_refuses`), and each row that takes writes answers the refusal alone (`exec_write_refused`). -/
theorem entryReadsAndRefusedWrites : Obligations.EntryReadsAndRefusedWrites := by
  unfold Obligations.EntryReadsAndRefusedWrites
  refine ⟨fun s x req index sub off len r h htxn hrow hrole => read_answers h htxn hrow hrole, fun s x req index sub v r h htxn hrow hbad => ?_⟩
  obtain ⟨st, rwp, hne, hexec⟩ := exec_write_refused h htxn hrow (writeCheck_refuses hrow hbad)
  obtain ⟨hanswered, hleft⟩ := refusedWrite_leaves s x req st rwp (r := r) (by rw [glossRow_key hrow]; exact hrow)
  exact ⟨_, st, hexec, hne, hanswered, hleft⟩

end Sys2Proof.Machine
end

section
/-! PROOF. GAP: handshake, sessions, notifications and frames (22 R777 to R786). -/

namespace Sys2Proof.Machine

open Sys2Proof

/-! ### Sessions -/

theorem sess_withSess_gap (s : State) (n m : Nat) (f : Sess → Sess) :
    (s.withSess (.gap n) f).sess (.gap m) = if m = n then f (s.sess (.gap n)) else s.sess (.gap m) := Tab.get_upd _ _ _ _ _

theorem sess_withSess_self (s : State) (n : Nat) (f : Sess → Sess) : (s.withSess (.gap n) f).sess (.gap n) = f (s.sess (.gap n)) :=
  (sess_withSess_gap s n n f).trans (if_pos rfl)

theorem sess_withSess_other (s : State) {n m : Nat} (h : m ≠ n) (f : Sess → Sess) : (s.withSess (.gap n) f).sess (.gap m) = s.sess (.gap m) :=
  (sess_withSess_gap s n m f).trans (if_neg h)

/-- A session changed leaves all but the management state. -/
theorem withSess_frame (s : State) (n : Nat) (f : Sess → Sess) : { s.withSess (.gap n) f with mgmt := s.mgmt } = s := rfl

theorem closeGap_mgmt (s : State) (n : Nat) : (closeGap s n).mgmt = { s.mgmt with gap := s.mgmt.gap.erase n } := rfl

/-! ### The handshake (22 R780, R784) -/

theorem hello_opens {s : State} {nonce eph cert key : Bytes} (hon : gapOn s = true) (hfew : s.mgmt.gap.length < 8) (hnonce : nonce.length = 32)
    (heph : eph.length = 97) (hcert : cert.length ≤ 1024) :
    ∃ t x answer, exec (.hello nonce eph cert key) s = .next t ∧ t.mgmt.gap = Tab.set s.mgmt.gap s.mgmt.gapNext x ∧
      x.opened = false ∧ x.role = 0 ∧ x.peerKey = key ∧ x.sent = [message 0x81 0 answer] := by
  have hfull : decide (8 ≤ s.mgmt.gap.length) = false := decide_eq_false (by omega)
  have hform : ¬ (nonce.length ≠ 32 ∨ eph.length ≠ 97 ∨ 1024 < cert.length) := by omega
  have hexec : ∃ x answer, exec (.hello nonce eph cert key) s = .next ((((s.drawBytes 32).2.drawBytes 97).2.drawBytes 32).2.withMgmt (fun m =>
      { m with gap := m.gap.set s.mgmt.gapNext x, gapNext := s.mgmt.gapNext % 65535 + 1 })) ∧
      x.opened = false ∧ x.role = 0 ∧ x.peerKey = key ∧ x.sent = [message 0x81 0 answer] := by
    show ∃ x answer, execHello nonce eph cert key s = _ ∧ _
    unfold execHello
    rw [hon, hfull, Bool.not_true, Bool.or_self, if_neg Bool.false_ne_true, if_neg hform]
    exact ⟨_, _, rfl, rfl, rfl, rfl, rfl⟩
  obtain ⟨x, answer, hnext, hx⟩ := hexec
  exact ⟨_, x, answer, hnext, rfl, hx⟩

theorem hello_full {s : State} {nonce eph cert key : Bytes} (hfull : 8 ≤ s.mgmt.gap.length) : exec (.hello nonce eph cert key) s = .next s := by
  show execHello nonce eph cert key s = _
  rw [execHello, decide_eq_true hfull, Bool.or_true, if_pos rfl]

section

variable {s : State} {n : Nat} {h sig : Bytes}

/-- A FINISH of a session that waits for it goes by the credential slot of its key. -/
theorem finish_erases (hon : gapOn s = true) (hhello : (s.sess (.gap n)).hello = some h) (hopened : (s.sess (.gap n)).opened = false)
    (hcred : credOf s (s.sess (.gap n)).peerKey = none) :
    exec (.finish n sig) s = .next (gapEvent (s.withMgmt (fun m => { m with gap := m.gap.erase n })) 2 0) := by
  show execFinish n sig s = _
  unfold execFinish
  simp only [hhello, hon, hopened, hcred]
  rfl

theorem finish_verifies {k : Nat} (hon : gapOn s = true) (hhello : (s.sess (.gap n)).hello = some h) (hopened : (s.sess (.gap n)).opened = false)
    (hcred : credOf s (s.sess (.gap n)).peerKey = some k) :
    exec (.finish n sig) s =
      if Config.ecdsaVerify 2 (s.sess (.gap n)).peerKey (Config.sha384 h) sig then
        .next (gapEvent (s.withSess (.gap n) (fun z => { z with
          opened := true, role := (s.cred k).role, cred := some k, seqOut := 1, framesOut := 1, framesIn := 1, lastAt := s.now,
          openedAt := s.now, sent := z.sent ++ [message 0x83 0 (toLE 2 0 ++ toLE 1 (s.cred k).role)] })) 0 (s.cred k).role)
      else .next (gapEvent (s.withMgmt (fun m => { m with gap := m.gap.erase n })) 2 0) := by
  show execFinish n sig s = _
  unfold execFinish
  simp only [hhello, hon, hopened, hcred]
  rfl

theorem finish_admits {k : Nat} (hon : gapOn s = true) (hhello : (s.sess (.gap n)).hello = some h) (hopened : (s.sess (.gap n)).opened = false)
    (hcred : credOf s (s.sess (.gap n)).peerKey = some k) :
    ∃ t, exec (.finish n sig) s = .next t ∧
      if Config.ecdsaVerify 2 (s.sess (.gap n)).peerKey (Config.sha384 h) sig = true then
        (t.sess (.gap n)).opened = true ∧ (t.sess (.gap n)).role = (s.cred k).role ∧ (t.sess (.gap n)).cred = some k ∧
          (∀ m, m ≠ n → t.sess (.gap m) = s.sess (.gap m))
      else t.mgmt.gap = Tab.erase s.mgmt.gap n := by
  rw [finish_verifies hon hhello hopened hcred]
  split
  · let f (z : Sess) : Sess := { z with
      opened := true, role := (s.cred k).role, cred := some k, seqOut := 1, framesOut := 1, framesIn := 1, lastAt := s.now,
      openedAt := s.now, sent := z.sent ++ [message 0x83 0 (toLE 2 0 ++ toLE 1 (s.cred k).role)] }
    have hself : (gapEvent (s.withSess (.gap n) f) 0 (s.cred k).role).sess (.gap n) = f (s.sess (.gap n)) := sess_withSess_self s n f
    refine ⟨gapEvent (s.withSess (.gap n) f) 0 (s.cred k).role, rfl, ?_⟩
    rw [hself]
    exact ⟨rfl, rfl, rfl, fun m hm => sess_withSess_other s hm f⟩
  · exact ⟨_, rfl, rfl⟩

end

/-! ### Sessions that end, and notifications (22 R784, R786) -/

theorem close_closes {s : State} {n : Nat} {req : BitVec 16} (hon : gapOn s = true) (hopened : (s.sess (.gap n)).opened = true) :
    exec (.close n req) s = .next (closeGap s n) := by
  show execClose n req s = _
  rw [execClose, hopened, hon]
  rfl

theorem gapSessionExpiry_closes {s : State} {n : Nat} {x : Sess} (hfind : Tab.find s.mgmt.gap n = some x)
    (hdue : x.lastAt + secTicks 300 ≤ s.now ∨ x.openedAt + secTicks 86400 ≤ s.now ∨ 2 ^ 32 ≤ x.framesIn ∨ 2 ^ 32 ≤ x.framesOut) :
    exec (.gapSessionExpiry n) s = .next (closeGap s n) := by
  show execGapSessionExpiry n s = _
  unfold execGapSessionExpiry
  simp only [hfind, Bool.or_eq_true, decide_eq_true_eq, or_assoc]
  exact if_pos hdue

theorem notifyAck_removes {s : State} {n : Nat} {req : BitVec 16} (hopened : (s.sess (.gap n)).opened = true) :
    ∃ t, exec (.notifyAck n req) s = .next t ∧ (∀ k, k ∈ (t.sess (.gap n)).notifies ↔ k ∈ (s.sess (.gap n)).notifies ∧ k.req % 65536 ≠ req.toNat) ∧
      (∀ m, m ≠ n → t.sess (.gap m) = s.sess (.gap m)) ∧ { t with mgmt := s.mgmt } = s := by
  let f (z : Sess) : Sess := { z with notifies := z.notifies.filter (fun n => n.req % 65536 != req.toNat) }
  refine ⟨s.withSess (.gap n) f, if_pos hopened, fun k => ?_, fun m hm => sess_withSess_other s hm f, withSess_frame s n f⟩
  rw [sess_withSess_self, List.mem_filter, bne_iff_ne]

theorem resend_due {now req : Nat} {z : Sess} {k : Notify} (hfind : z.notifies.find? (fun k => k.req % 65536 == req) = some k) (hmore : k.resends < 5)
    (hdue : k.sentAt + secTicks 1 ≤ now) : (resend now req z).sent = z.sent ++ [message 0x30 (k.req % 65536) k.body] ∧
      { k with resends := k.resends + 1, sentAt := now } ∈ (resend now req z).notifies := by
  have hresend : resend now req z = { z with
      notifies := z.notifies.map (fun j => if j.req = k.req then { j with resends := j.resends + 1, sentAt := now } else j),
      seqOut := z.seqOut + 1, framesOut := z.framesOut + 1, sent := z.sent ++ [message 0x30 (k.req % 65536) k.body] } := by
    unfold resend
    simp only [hfind]
    exact if_pos ⟨hmore, hdue⟩
  rw [hresend]
  exact ⟨rfl, List.mem_map.mpr ⟨k, List.mem_of_find?_eq_some hfind, if_pos rfl⟩⟩

theorem resend_not_due {now req : Nat} {z : Sess} {k : Notify} (hfind : z.notifies.find? (fun k => k.req % 65536 == req) = some k)
    (h : ¬ (k.resends < 5 ∧ k.sentAt + secTicks 1 ≤ now)) : resend now req z = z := by
  unfold resend
  simp only [hfind]
  exact if_neg h

theorem notifyResend_resends {s : State} {n : Nat} {req : BitVec 16} {k : Notify} (hopened : (s.sess (.gap n)).opened = true)
    (hfind : (s.sess (.gap n)).notifies.find? (fun k => k.req % 65536 == req.toNat) = some k) :
    ∃ t, exec (.notifyResend n req) s = .next t ∧ (∀ m, m ≠ n → t.sess (.gap m) = s.sess (.gap m)) ∧ { t with mgmt := s.mgmt } = s ∧
      (k.resends < 5 → k.sentAt + secTicks 1 ≤ s.now →
        (t.sess (.gap n)).sent = (s.sess (.gap n)).sent ++ [message 0x30 (k.req % 65536) k.body] ∧
        { k with resends := k.resends + 1, sentAt := s.now } ∈ (t.sess (.gap n)).notifies) ∧
      (¬ (k.resends < 5 ∧ k.sentAt + secTicks 1 ≤ s.now) → t.sess (.gap n) = s.sess (.gap n)) := by
  let f := resend s.now req.toNat
  refine ⟨s.withSess (.gap n) f, if_pos hopened, fun m hm => sess_withSess_other s hm f, withSess_frame s n f, fun hmore hdue => ?_, fun h => ?_⟩
  · rw [sess_withSess_self]
    exact resend_due hfind hmore hdue
  · rw [sess_withSess_self]
    exact resend_not_due hfind h

/-! ### Frames (22 R777, R778, R783) -/

/-- The frames of the current second with one more. -/
def frameCounted (s : State) : State :=
  s.withMgmt (fun m => { m with
    frameSecond := s.now / secTicks 1, frameCount := (if s.mgmt.frameSecond = s.now / secTicks 1 then s.mgmt.frameCount else 0) + 1 })

theorem inboundFrame_dropped {s : State} {f : FrameKind} (hon : gapOn s = true) (hsecond : s.mgmt.frameSecond = s.now / secTicks 1)
    (hmany : 2000 ≤ s.mgmt.frameCount) : exec (.inboundFrame f) s = .next (s.bump gMgmtRxDropped) := by
  show execInboundFrame f s = _
  unfold execInboundFrame
  dsimp only
  rw [hon, Bool.not_true, if_neg Bool.false_ne_true, if_pos hsecond, if_pos hmany]

theorem inboundFrame_taken {s : State} {f : FrameKind} (hon : gapOn s = true)
    (hfew : s.mgmt.frameSecond ≠ s.now / secTicks 1 ∨ s.mgmt.frameCount < 2000) : exec (.inboundFrame f) s = takeFrame (frameCounted s) f := by
  have hk : ¬ 2000 ≤ (if s.mgmt.frameSecond = s.now / secTicks 1 then s.mgmt.frameCount else 0) := by
    split
    · next hsecond =>
      have := hfew.resolve_left (not_not.mpr hsecond)
      omega
    · decide
  show execInboundFrame f s = _
  unfold execInboundFrame
  dsimp only
  rw [hon, Bool.not_true, if_neg Bool.false_ne_true, if_neg hk]
  rfl

/-- The session after a protected frame that is accepted. -/
def frameAccepted (s : State) (n q : Nat) : State :=
  (frameCounted s).withSess (.gap n) (fun z => { z with seqIn := q, framesIn := z.framesIn + 1, lastAt := s.now })

theorem frameAccepted_sess (s : State) (n q : Nat) : (frameAccepted s n q).sess (.gap n) =
    { s.sess (.gap n) with seqIn := q, framesIn := (s.sess (.gap n)).framesIn + 1, lastAt := s.now } :=
  sess_withSess_self (frameCounted s) n (fun z => { z with seqIn := q, framesIn := z.framesIn + 1, lastAt := s.now })

theorem takeFrame_accepted {s : State} {n q : Nat} {msg : Bytes} (hopened : (s.sess (.gap n)).opened = true) (hnew : (s.sess (.gap n)).seqIn < q) :
    takeFrame (frameCounted s) (.gapProtected n q true msg) =
      if badForm true msg then refuseForm (frameAccepted s n q) (.gap n) msg else .next (frameAccepted s n q) := by
  have hsess : (frameCounted s).sess (.gap n) = s.sess (.gap n) := rfl
  unfold takeFrame
  dsimp only
  rw [hsess, hopened, decide_eq_true hnew]
  rfl

theorem takeFrame_rejected {s : State} {n q : Nat} {ok : Bool} {msg : Bytes}
    (h : ¬ ((s.sess (.gap n)).opened = true ∧ ok = true ∧ (s.sess (.gap n)).seqIn < q)) :
    takeFrame (frameCounted s) (.gapProtected n q ok msg) = .next ((frameCounted s).bump gMgmtGapRejected) := by
  have hsess : (frameCounted s).sess (.gap n) = s.sess (.gap n) := rfl
  unfold takeFrame
  dsimp only
  rw [hsess]
  refine if_neg fun hc => h ?_
  simpa only [Bool.and_eq_true, decide_eq_true_eq, and_assoc] using hc

theorem leNat_lt : ∀ b : Bytes, leNat b < 256 ^ b.length
  | [] => by decide
  | x :: b => by
    have hx := x.isLt
    have hb := leNat_lt b
    rw [leNat, List.length_cons, Nat.pow_succ]
    omega

/-- The identity in a message's header is one of 16 bits. -/
theorem toNat_headerReq (msg : Bytes) : (BitVec.ofNat 16 (leNat ((msg.drop 2).take 2))).toNat = leNat ((msg.drop 2).take 2) := by
  have hlt := leNat_lt ((msg.drop 2).take 2)
  have hlen : ((msg.drop 2).take 2).length ≤ 2 := List.length_take_le 2 _
  have hpow : 256 ^ ((msg.drop 2).take 2).length ≤ 256 ^ 2 := Nat.pow_le_pow_right (by decide) hlen
  rw [BitVec.toNat_ofNat]
  exact Nat.mod_eq_of_lt (by omega)

theorem refuseForm_next (s : State) (x : SessId) (m : Bytes) : ∃ t, refuseForm s x m = .next t := by
  unfold refuseForm onMsg
  dsimp only
  split
  · exact ⟨_, rfl⟩
  · split <;> exact ⟨_, rfl⟩

theorem refuseForm_answers {s : State} {n q : Nat} {msg : Bytes} (hopened : (s.sess (.gap n)).opened = true) (hsupply : s.hostSupply = true)
    (henable : s.gv gMgmtEnable = 1) (hnew : (s.sess (.gap n)).replies.find? (fun p => p.1 == leNat ((msg.drop 2).take 2)) = none) :
    refuseForm (frameAccepted s n q) (.gap n) msg = .next (replyStatus (frameAccepted s n q) (.gap n) (msg.getD 0 0).toNat
      (BitVec.ofNat 16 (leNat ((msg.drop 2).take 2))) 0x7027 []) := by
  have hserved : Served (frameAccepted s n q) (.gap n) (BitVec.ofNat 16 (leNat ((msg.drop 2).take 2))) := by
    have hserve : canServe (frameAccepted s n q) (.gap n) =
        (((frameAccepted s n q).sess (.gap n)).opened && s.hostSupply && s.gv gMgmtEnable == 1) := rfl
    constructor
    · rw [hserve, frameAccepted_sess, hopened, hsupply, henable]
      rfl
    · rw [frameAccepted_sess, toNat_headerReq]
      exact hnew
  unfold refuseForm
  dsimp only
  rw [onMsg_served hserved]

/-- A protected frame within the rate limit. -/
theorem inboundFrame_protected {s : State} {n q : Nat} {ok : Bool} {msg : Bytes} (hon : gapOn s = true)
    (hfew : s.mgmt.frameSecond ≠ s.now / secTicks 1 ∨ s.mgmt.frameCount < 2000) :
    ∃ t, exec (.inboundFrame (.gapProtected n q ok msg)) s = .next t ∧
      if (s.sess (.gap n)).opened = true ∧ ok = true ∧ (s.sess (.gap n)).seqIn < q then
        (badForm true msg = false → (t.sess (.gap n)).seqIn = q ∧ (t.sess (.gap n)).lastAt = s.now ∧ { t with mgmt := s.mgmt } = s) ∧
        (badForm true msg = true → s.hostSupply = true → s.gv gMgmtEnable = 1 →
          (s.sess (.gap n)).replies.find? (fun p => p.1 == leNat ((msg.drop 2).take 2)) = none →
          Answered t (.gap n) (statusReply (msg.getD 0 0).toNat (BitVec.ofNat 16 (leNat ((msg.drop 2).take 2))) 0x7027 []))
      else t.gv gMgmtGapRejected = (s.gv gMgmtGapRejected + 1) % 2 ^ 64 ∧ t.mgmt.gap = s.mgmt.gap ∧
        { t with mgmt := s.mgmt, gls := s.gls } = s := by
  rw [inboundFrame_taken hon hfew]
  by_cases h : (s.sess (.gap n)).opened = true ∧ ok = true ∧ (s.sess (.gap n)).seqIn < q
  · obtain ⟨hopened, rfl, hnew⟩ := id h
    rw [takeFrame_accepted hopened hnew]
    by_cases hform : badForm true msg = true
    · obtain ⟨t, ht⟩ := refuseForm_next (frameAccepted s n q) (.gap n) msg
      refine ⟨t, (if_pos hform).trans ht, ?_⟩
      rw [if_pos h]
      refine ⟨fun hsound => absurd (hform.symm.trans hsound) (by decide), fun _ hsupply henable hreq => ?_⟩
      rw [← Host.Outcome.next.inj ((refuseForm_answers (q := q) hopened hsupply henable hreq).symm.trans ht)]
      exact answered_reply ..
    · refine ⟨frameAccepted s n q, if_neg hform, ?_⟩
      rw [if_pos h]
      refine ⟨fun _ => ?_, fun hbad => absurd hbad hform⟩
      rw [frameAccepted_sess]
      exact ⟨rfl, rfl, rfl⟩
  · refine ⟨_, takeFrame_rejected h, ?_⟩
    rw [if_neg h]
    exact ⟨State.gv_bump (frameCounted s) gMgmtGapRejected, rfl, rfl⟩

/-- Settles O46: the handshake, the ends of a session, notifications and frames, each by the branch of its command that its hypotheses take. -/
theorem gapSessions : Obligations.GapSessions := by
  unfold Obligations.GapSessions
  refine ⟨fun s nonce eph cert key hon hfew hn he hc => hello_opens hon hfew hn he hc, fun s nonce eph cert key hfull => hello_full hfull,
    fun s n k h sig hon hhello hopened hcred => finish_admits hon hhello hopened hcred,
    fun s n h sig hon hhello hopened hcred => ⟨_, finish_erases hon hhello hopened hcred, rfl, rfl⟩,
    fun s n req hon hopened => ⟨_, close_closes hon hopened, closeGap_mgmt s n⟩,
    fun s n x hfind hdue => ⟨_, gapSessionExpiry_closes hfind hdue, closeGap_mgmt s n⟩,
    fun s n req hopened => notifyAck_removes hopened, fun s n req k hopened hfind => notifyResend_resends hopened hfind,
    fun s f hon hsecond hmany => ⟨_, inboundFrame_dropped hon hsecond hmany, State.gv_bump s gMgmtRxDropped, rfl⟩,
    fun s f hon hfew => ?_⟩
  cases f with
  | neighborSolicitation => exact ⟨_, inboundFrame_taken hon hfew, rfl, rfl⟩
  | echoRequest => exact ⟨_, inboundFrame_taken hon hfew, rfl, rfl⟩
  | foreign => exact ⟨_, inboundFrame_taken hon hfew, rfl, rfl⟩
  | gapProtected n q ok msg => exact inboundFrame_protected hon hfew

end Sys2Proof.Machine
end

section
/-! PROOF. Countersign: sealing, signing, cancelling, querying, expiry and commit of change sets (22 R789 to R799). -/

namespace Sys2Proof.Machine

open Sys2Proof

/-! ### Change-set slots -/

/-- One slot set: it holds the set, and every other slot is as before. -/
theorem cset_of_set {s t : State} {k : Nat} {y : ChangeSet} (h : t.mgmt.slots = Tab.set s.mgmt.slots k y) :
    t.cset k = y ∧ ∀ m, m ≠ k → t.cset m = s.cset m := by
  unfold State.cset
  rw [h]
  exact ⟨Tab.get_set_self {} _ k y, fun m hm => Tab.get_set_other {} _ y hm⟩

theorem guardStep_mgmt (s : State) (x : ChangeSet) (c : Nat) : (guardStep s x c).mgmt = s.mgmt :=
  (guardStep_writes (wm := 1073741824) (.refl _ s) rfl).mgmt rfl

theorem withSess_slots (s : State) (x : SessId) (f : Sess → Sess) : (s.withSess x f).mgmt.slots = s.mgmt.slots := by
  cases x <;> rfl

/-- A slot made FREE, as the session that asked for it finds it after the reply. -/
theorem reply_freeSet (s : State) (x : SessId) (req : BitVec 16) (msg st k final reason : Nat) (rest : Bytes) :
    let t := replyStatus (freeSet s k final reason) x msg req st rest
    t.cset k = { s.cset k with code := 0x356, final := final, reason := reason } ∧ ∀ m, m ≠ k → t.cset m = s.cset m :=
  cset_of_set ((reply_slots ..).trans (freeSet_slots ..))

/-! ### Sealing (22 R792) -/

/-- A notification leaves a session's draft. -/
theorem notify_draft (s : State) (body : Bytes) (x : SessId) : ((s.notify body).sess x).draft = (s.sess x).draft := by
  cases x with
  | mailbox => rfl
  | gap n =>
    have hfind : Tab.find (s.notify body).mgmt.gap n = (Tab.find s.mgmt.gap n).map (notifySess s.now body) :=
      Tab.find_mapVals (fun _ => notifySess s.now body) n s.mgmt.gap
    show (Option.getD (Tab.find (s.notify body).mgmt.gap n) { opened := false, role := 0 }).draft =
      (Option.getD (Tab.find s.mgmt.gap n) { opened := false, role := 0 }).draft
    rw [hfind]
    cases Tab.find s.mgmt.gap n with
    | none => rfl
    | some z =>
      show (notifySess s.now body z).draft = z.draft
      unfold notifySess
      split <;> rfl

theorem sess_congr {s t : State} (h : t.mgmt = s.mgmt) (x : SessId) : t.sess x = s.sess x := by
  cases x <;> simp only [State.sess, h]

theorem withSess_draft (s : State) (x : SessId) (l : List CsRec) : ((s.withSess x (fun z => { z with draft := l })).sess x).draft = l := by
  cases x with
  | mailbox => rfl
  | gap n =>
    rw [sess_withSess_self]

/-- The set that CS_SEAL holds. -/
def sealedSet (s : State) (x : SessId) (k : Nat) : ChangeSet where
  code := 0x365
  id := s.gv gCsNextId
  recs := sealRecs s (s.sess x).draft []
  hash := fit 48 (Config.sha384 (csEncode s (s.gv gCsNextId) (sealRecs s (s.sess x).draft [])))
  window := s.gv gCsWindow
  deadline := s.clock.st + 256 * s.gv gCsWindow
  final := (s.cset k).final
  reason := (s.cset k).reason

/-- The state in which the set is held and its draft empty, before the reply. -/
def sealedState (s : State) (x : SessId) (k : Nat) : State :=
  csNote (guardStep ((((s.withMgmt (fun m => { m with slots := m.slots.set k (sealedSet s x k) })).gset gCsNextId
    ((s.gv gCsNextId + 1) % 2 ^ 32))).withSess x (fun z => { z with draft := [] })) (sealedSet s x k) 0xC3C) (sealedSet s x k) 0 0x365

theorem sealedState_slots (s : State) (x : SessId) (k : Nat) : (sealedState s x k).mgmt.slots = Tab.set s.mgmt.slots k (sealedSet s x k) := by
  unfold sealedState
  rw [(csNote_slots ..).1, guardStep_mgmt, withSess_slots]
  rfl

theorem sealedState_draft (s : State) (x : SessId) (k : Nat) : ((sealedState s x k).sess x).draft = [] := by
  unfold sealedState csNote
  rw [notify_draft]
  refine (congrArg Sess.draft (sess_congr (t := State.event _ _ _ _ _) (State.event_mgmt ..) x)).trans ?_
  rw [sess_congr (guardStep_mgmt ..)]
  exact withSess_draft ..

/-- A record of the draft covers what a held set covers. -/
def draftCovered (s : State) (x : SessId) : Bool :=
  (s.sess x).draft.any (fun r => s.mgmt.slots.any (fun e => e.2.isHeld && e.2.recs.any (sameCover r)))

theorem draftCovered_iff (s : State) (x : SessId) : draftCovered s x = true ↔
    ∃ d ∈ (s.sess x).draft, ∃ e ∈ s.mgmt.slots, e.2.isHeld = true ∧ ∃ r ∈ e.2.recs, sameCover d r = true := by
  simp only [draftCovered, List.any_eq_true, Bool.and_eq_true]

section

variable {s : State} {x : SessId} {req : BitVec 16}

theorem exec_csSeal_empty (h : Served s x req) (hrole : (s.sess x).role = 3) (hdraft : (s.sess x).draft = []) :
    exec (.csSeal x req) s = .next (replyStatus s x 0x20 req 1 []) := by
  show execCsSeal x req s = _
  rw [execCsSeal, onRole_ok (may := fun r => r == 3) h (beq_iff_eq.mpr hrole)]
  dsimp only
  rw [hdraft]
  rfl

theorem exec_csSeal_full (h : Served s x req) (hrole : (s.sess x).role = 3) (hdraft : (s.sess x).draft ≠ []) (hfree : freeSlots16 s = []) :
    exec (.csSeal x req) s = .next (replyStatus s x 0x20 req 0x7004 []) := by
  show execCsSeal x req s = _
  rw [execCsSeal, onRole_ok (may := fun r => r == 3) h (beq_iff_eq.mpr hrole)]
  dsimp only
  rw [if_neg (fun he => hdraft (List.isEmpty_iff.mp he)), hfree]

theorem exec_csSeal_free {k : Nat} {l : List Nat} (h : Served s x req) (hrole : (s.sess x).role = 3) (hdraft : (s.sess x).draft ≠ [])
    (hfree : freeSlots16 s = k :: l) :
    exec (.csSeal x req) s = .next (if draftCovered s x then replyStatus s x 0x20 req 0x7002 []
      else replyStatus (sealedState s x k) x 0x20 req 0 (toLE 4 (s.gv gCsNextId) ++ toLE 2 (sealedSet s x k).recs.length ++ (sealedSet s x k).hash)) := by
  show execCsSeal x req s = _
  rw [execCsSeal, onRole_ok (may := fun r => r == 3) h (beq_iff_eq.mpr hrole)]
  dsimp only
  rw [if_neg (fun he => hdraft (List.isEmpty_iff.mp he)), hfree]
  rfl

theorem csSeal_seals (h : Served s x req) (hrole : (s.sess x).role = 3) :
    ∃ t, exec (.csSeal x req) s = .next t ∧
      if (s.sess x).draft = [] then Answered t x (statusReply 0x20 req 1 []) ∧ t.mgmt.slots = s.mgmt.slots
      else match freeSlots16 s with
        | [] => Answered t x (statusReply 0x20 req 0x7004 []) ∧ t.mgmt.slots = s.mgmt.slots
        | k :: _ =>
          if (∃ d ∈ (s.sess x).draft, ∃ e ∈ s.mgmt.slots, e.2.isHeld = true ∧ ∃ r ∈ e.2.recs, sameCover d r = true) then
            Answered t x (statusReply 0x20 req 0x7002 []) ∧ t.mgmt.slots = s.mgmt.slots
          else
            (t.cset k).code = 0x365 ∧ (t.cset k).id = s.gv gCsNextId ∧ (t.cset k).recs = sealRecs s (s.sess x).draft [] ∧
            (t.cset k).hash = fit 48 (Config.sha384 (csEncode s (s.gv gCsNextId) (sealRecs s (s.sess x).draft []))) ∧
            (t.cset k).deadline = s.clock.st + 256 * s.gv gCsWindow ∧ (t.sess x).draft = [] ∧ (∀ m, m ≠ k → t.cset m = s.cset m) ∧
            Answered t x (statusReply 0x20 req 0 (toLE 4 (s.gv gCsNextId) ++ toLE 2 (t.cset k).recs.length ++ (t.cset k).hash)) := by
  by_cases hdraft : (s.sess x).draft = []
  · refine ⟨_, exec_csSeal_empty h hrole hdraft, ?_⟩
    rw [if_pos hdraft]
    exact ⟨answered_reply .., reply_slots ..⟩
  cases hfree : freeSlots16 s with
  | nil =>
    refine ⟨_, exec_csSeal_full h hrole hdraft hfree, ?_⟩
    rw [if_neg hdraft]
    exact ⟨answered_reply .., reply_slots ..⟩
  | cons k l =>
    refine ⟨_, exec_csSeal_free h hrole hdraft hfree, ?_⟩
    rw [if_neg hdraft]
    dsimp only
    by_cases hcover : draftCovered s x = true
    · rw [if_pos ((draftCovered_iff s x).mp hcover), if_pos hcover]
      exact ⟨answered_reply .., reply_slots ..⟩
    · rw [if_neg (fun hc => hcover ((draftCovered_iff s x).mpr hc)), if_neg hcover]
      obtain ⟨hset, hother⟩ := cset_of_set ((reply_slots (sealedState s x k) x 0x20 req 0
        (toLE 4 (s.gv gCsNextId) ++ toLE 2 (sealedSet s x k).recs.length ++ (sealedSet s x k).hash)).trans (sealedState_slots s x k))
      rw [hset]
      exact ⟨rfl, rfl, rfl, rfl, rfl, ((reply_sess ..).2).trans (sealedState_draft s x k), hother, answered_reply ..⟩

end

/-! ### Signing, cancelling, querying, expiry (22 R787, R793, R795, R796) -/

section

variable {s : State} {x : SessId} {req : BitVec 16}

/-- The signature of a set by an Officer's key (22 R793). -/
def csSigned (s : State) (k cred : Nat) (sig : Bytes) : Bool :=
  decide (cred < 32) && (s.cred cred).role == 3 && Config.ecdsaVerify 2 (s.cred cred).key
    (Config.sha384 (ascii "VZM7216 CS-SIGN" ++ zeros 1 ++ (s.cset k).hash)) sig

/-- The set once signed. -/
def signedSet (s : State) (k : Nat) : ChangeSet := { s.cset k with code := 0x5A3, deadline := s.clock.st + 256 * (s.cset k).window }

def signedState (s : State) (k : Nat) : State :=
  csNote (guardStep (s.withMgmt (fun m => { m with slots := m.slots.set k (signedSet s k) })) (signedSet s k) 0x3F0) (signedSet s k) 1 0x5A3

theorem signedState_slots (s : State) (k : Nat) : (signedState s k).mgmt.slots = Tab.set s.mgmt.slots k (signedSet s k) := by
  unfold signedState
  rw [(csNote_slots ..).1, guardStep_mgmt]
  rfl

theorem exec_csSign_unknown {change cred : Nat} {sig : Bytes} (h : Served s x req) (hrole : roleReaches (s.sess x).role 1 = true)
    (hheld : heldSlot s change = none) : exec (.csSign x req change cred sig) s = .next (replyStatus s x 0x21 req 0x7005 []) := by
  show execCsSign x req change cred sig s = _
  rw [execCsSign, onRole_ok h hrole]
  dsimp only
  rw [hheld]

theorem exec_csSign_held {change cred k : Nat} {sig : Bytes} (h : Served s x req) (hrole : roleReaches (s.sess x).role 1 = true)
    (hheld : heldSlot s change = some k) : exec (.csSign x req change cred sig) s = .next (
      if (s.cset k).code ≠ 0x365 then replyStatus s x 0x21 req 0x7006 []
      else if (s.cset k).deadline ≤ s.clock.st then replyStatus (freeSet s k 0x7001 1) x 0x21 req 0x7001 []
      else if csSigned s k cred sig then replyStatus (signedState s k) x 0x21 req 0 []
      else replyStatus s x 0x21 req 0x7003 []) := by
  show execCsSign x req change cred sig s = _
  rw [execCsSign, onRole_ok h hrole]
  dsimp only
  rw [hheld]
  rfl

theorem csSign_signs {change cred : Nat} {sig : Bytes} (h : Served s x req) (hrole : roleReaches (s.sess x).role 1 = true) :
    ∃ t, exec (.csSign x req change cred sig) s = .next t ∧
      match heldSlot s change with
      | none => Answered t x (statusReply 0x21 req 0x7005 []) ∧ t.mgmt.slots = s.mgmt.slots
      | some k =>
        if (s.cset k).code ≠ 0x365 then Answered t x (statusReply 0x21 req 0x7006 []) ∧ t.mgmt.slots = s.mgmt.slots
        else if (s.cset k).deadline ≤ s.clock.st then
          Answered t x (statusReply 0x21 req 0x7001 []) ∧ (t.cset k).code = 0x356 ∧ (t.cset k).final = 0x7001
        else if cred < 32 ∧ (s.cred cred).role = 3 ∧ Config.ecdsaVerify 2 (s.cred cred).key
            (Config.sha384 (ascii "VZM7216 CS-SIGN" ++ zeros 1 ++ (s.cset k).hash)) sig = true then
          Answered t x (statusReply 0x21 req 0 []) ∧ (∀ m, m ≠ k → t.cset m = s.cset m) ∧
          t.cset k = { s.cset k with code := 0x5A3, deadline := s.clock.st + 256 * (s.cset k).window }
        else Answered t x (statusReply 0x21 req 0x7003 []) ∧ t.mgmt.slots = s.mgmt.slots := by
  cases hheld : heldSlot s change with
  | none => exact ⟨_, exec_csSign_unknown h hrole hheld, answered_reply .., reply_slots ..⟩
  | some k =>
    refine ⟨_, exec_csSign_held h hrole hheld, ?_⟩
    dsimp only
    by_cases hcode : (s.cset k).code ≠ 0x365
    · rw [if_pos hcode, if_pos hcode]
      exact ⟨answered_reply .., reply_slots ..⟩
    rw [if_neg hcode, if_neg hcode]
    by_cases hlate : (s.cset k).deadline ≤ s.clock.st
    · rw [if_pos hlate, if_pos hlate]
      rw [(reply_freeSet s x req 0x21 0x7001 k 0x7001 1 []).1]
      exact ⟨answered_reply .., rfl, rfl⟩
    rw [if_neg hlate, if_neg hlate]
    have hiff : csSigned s k cred sig = true ↔ cred < 32 ∧ (s.cred cred).role = 3 ∧ Config.ecdsaVerify 2 (s.cred cred).key
        (Config.sha384 (ascii "VZM7216 CS-SIGN" ++ zeros 1 ++ (s.cset k).hash)) sig = true := by
      simp only [csSigned, Bool.and_eq_true, decide_eq_true_eq, beq_iff_eq, and_assoc]
    by_cases hsig : csSigned s k cred sig = true
    · obtain ⟨hset, hother⟩ := cset_of_set ((reply_slots (signedState s k) x 0x21 req 0 []).trans (signedState_slots s k))
      rw [if_pos (hiff.mp hsig), if_pos hsig]
      exact ⟨answered_reply .., hother, hset⟩
    · rw [if_neg (fun hc => hsig (hiff.mpr hc)), if_neg hsig]
      exact ⟨answered_reply .., reply_slots ..⟩

theorem csCancel_cancels {change : Nat} (h : Served s x req) (hrole : (s.sess x).role = 3 ∨ (s.sess x).role = 4) :
    ∃ t, exec (.csCancel x req change) s = .next t ∧
      match heldSlot s change with
      | none => Answered t x (statusReply 0x22 req 0x7005 []) ∧ t.mgmt.slots = s.mgmt.slots
      | some k =>
        if (s.cset k).isOpen = true then
          Answered t x (statusReply 0x22 req 0 []) ∧ (∀ m, m ≠ k → t.cset m = s.cset m) ∧
          t.cset k = { s.cset k with code := 0x356, final := 0x7001, reason := 2 }
        else Answered t x (statusReply 0x22 req 0x7006 []) ∧ t.mgmt.slots = s.mgmt.slots := by
  have hmay : ((s.sess x).role == 3 || (s.sess x).role == 4) = true := by simpa using hrole
  show ∃ t, execCsCancel x req change s = .next t ∧ _
  rw [execCsCancel, onRole_ok (may := fun r => r == 3 || r == 4) h hmay]
  dsimp only
  cases heldSlot s change with
  | none => exact ⟨_, rfl, answered_reply .., reply_slots ..⟩
  | some k =>
    dsimp only
    by_cases hopen : (s.cset k).isOpen = true
    · refine ⟨_, congrArg Host.Outcome.next (if_pos hopen), ?_⟩
      obtain ⟨hset, hother⟩ := reply_freeSet s x req 0x22 0 k 0x7001 2 []
      rw [if_pos hopen]
      exact ⟨answered_reply .., hother, hset⟩
    · refine ⟨_, congrArg Host.Outcome.next (if_neg hopen), ?_⟩
      rw [if_neg hopen]
      exact ⟨answered_reply .., reply_slots ..⟩

theorem csQuery_answers {change off : Nat} (h : Served s x req) (hrole : roleReaches (s.sess x).role 1 = true) :
    ∃ t, exec (.csQuery x req change off) s = .next t ∧ t.mgmt.slots = s.mgmt.slots ∧
      match heldSlot s change with
      | none => Answered t x (statusReply 0x23 req 0x7005 [])
      | some k => Answered t x (statusReply 0x23 req 0 (toLE 2 (s.cset k).code.toNat ++ toLE 2 (s.cset k).final ++
          toLE 4 (csLeft s (s.cset k)) ++ (s.cset k).hash ++ toLE 4 (csEncode s (s.cset k).id (s.cset k).recs).length ++
          ((csEncode s (s.cset k).id (s.cset k).recs).drop off).take 1024)) := by
  show ∃ t, execCsQuery x req change off s = .next t ∧ _
  rw [execCsQuery, onRole_ok h hrole]
  dsimp only
  cases heldSlot s change with
  | none => exact ⟨_, rfl, reply_slots .., answered_reply ..⟩
  | some k => exact ⟨_, rfl, reply_slots .., answered_reply ..⟩

theorem countersignExpiry_frees {k : Nat} (hopen : (s.cset k).isOpen = true) (hlate : (s.cset k).deadline ≤ s.clock.st) :
    ∃ t, exec (.countersignExpiry k) s = .next t ∧ (∀ m, m ≠ k → t.cset m = s.cset m) ∧
      t.cset k = { s.cset k with code := 0x356, final := 0x7001, reason := 1 } := by
  obtain ⟨hset, hother⟩ := cset_of_set (freeSet_slots s k 0x7001 1)
  refine ⟨freeSet s k 0x7001 1, if_pos ?_, hother, hset⟩
  exact Bool.and_eq_true_iff.mpr ⟨hopen, decide_eq_true hlate⟩

end

/-! ### Values in force (22 R764, R797) -/

/-- A value set elsewhere leaves what is stored under a key. -/
theorem find_gset_other (s : State) {e : GE} {k : Nat} (h : k ≠ e.key * 65536) (v : Nat) : Tab.find (s.gset e v).gls k = Tab.find s.gls k := by
  have hk : k ≠ e.key * 65536 + 0 := by rwa [Nat.add_zero]
  show Tab.find (Tab.set s.gls (e.key * 65536 + 0) v) k = _
  exact Tab.find_set_other _ _ hk

/-- The entries that the state of a noise path writes. -/
def NotNoise (k : Nat) : Prop := k ≠ gRngHealthy.key * 65536 ∧ ∀ p, k ≠ (pathState p).key * 65536

theorem find_writes {m : Nat} {s t : State} (h : Writes m s t) (hm : m.testBit 30 = false) (k : Nat) : Tab.find t.gls k = Tab.find s.gls k := by
  rw [h.gls hm]

theorem onlyIf_find {f : State → State} (hf : ∀ s, Writes besideGls s (f s)) (c : Bool) (s : State) (k : Nat) :
    Tab.find (onlyIf c f s).gls k = Tab.find s.gls k := by
  cases c
  · rfl
  · exact find_writes (hf s) rfl k

theorem updatePath_find {k : Nat} (h : NotNoise k) (s : State) (p : Nat) (retired : Bool) :
    Tab.find (updatePath s p retired).gls k = Tab.find s.gls k := by
  obtain ⟨hhealthy, hstate⟩ := h
  have hstart (u : State) : Writes besideGls u (startHolds u) := startHolds_writes (.refl _ u) rfl
  have hend (u : State) : Writes besideGls u (endHolds u) := endHolds_writes (.refl _ u) rfl
  have hinst (u : State) : Tab.find (instantiate u p).gls k = Tab.find u.gls k := find_writes (instantiate_writes (wm := besideGls) (.refl _ u) rfl) rfl k
  have huninst (u : State) : Writes besideGls u (uninstantiate u p) := uninstantiate_writes (.refl _ u) rfl
  unfold updatePath
  extract_lets n old s1 pending
  have h1 : Tab.find s1.gls k = Tab.find s.gls k := find_gset_other s hhealthy _
  split
  · split
    · exact (find_gset_other _ (hstate p) _).trans ((hinst s1).trans h1)
    · split
      · exact h1
      · exact (onlyIf_find hstart _ _ k).trans ((find_gset_other _ (hstate p) _).trans h1)
  · split
    · exact (onlyIf_find hstart _ _ k).trans ((find_gset_other _ (hstate p) _).trans ((find_writes (huninst s1) rfl k).trans h1))
    · split
      · exact (onlyIf_find hend _ _ k).trans ((find_gset_other _ (hstate p) _).trans ((hinst _).trans
          ((onlyIf_find (f := fun s => uninstantiate s p) huninst _ _ k).trans h1)))
      · exact h1

theorem condChanged_find {k : Nat} (h : NotNoise k) (s : State) (p old new : Nat) : Tab.find (condChanged s p old new).gls k = Tab.find s.gls k := by
  refine (updatePath_find h _ p true).trans ?_
  refine find_writes (m := besideGls) (Writes.foldl (.refl _ s) fun u hu c => ?_) rfl k
  exact .ite (startChan_writes hu rfl) hu

/-! ### One record committed (22 R797) -/

theorem setRules_single (r : CsRec) : setRules [r] = if r.key = 0x411004 then [(r.selA, bankOfBytes r.selA r.value)] else [] := by
  unfold setRules
  rw [List.filter_cons, List.filter_nil]
  split
  · next h => rw [if_pos (beq_iff_eq.mp h)]; rfl
  · next h => rw [if_neg (fun hk => h (beq_iff_eq.mpr hk))]; rfl

/-- The state at the stamp of the set's token. -/
def commitStamped (s : State) (x : ChangeSet) : State := (s.present 199 (.mark 5 x.id)).bump gConfigEpoch

theorem applySet_single {s : State} {x : ChangeSet} {r : CsRec} (hrecs : x.recs = [r]) (hlife : r.key ≠ 0x100004) :
    applySet s x =
      let s2 := applyValue (commitStamped s x) r
      let s3 := if credKeys r.key then setCreds s2 (credsAfter s2.mgmt.creds [r]) else s2
      applyAction x.id (if (setRules [r]).isEmpty then s3 else switchGuards s3 (setRules [r]) x.id) r := by
  have hnone : (r.key == 0x100004) = false := beq_false_of_ne hlife
  unfold applySet
  simp only [hrecs, List.foldl_cons, List.foldl_nil, List.any_cons, List.any_nil, Bool.or_false, List.find?_cons, List.find?_nil, hnone]
  rfl

theorem applyAction_none {s : State} {id : Nat} {r : CsRec} (h1 : r.key ≠ 0x331005) (h2 : r.key ≠ 0x110009) (h3 : r.key ≠ 0x110101) :
    applyAction id s r = s := by
  rw [applyAction, if_neg h1, if_neg h2, if_neg h3]

/-- The keys of records that start an action. -/
theorem isAction_iff (key : Nat) : isAction key = true ↔ key = 0x110009 ∨ key = 0x331005 ∨ key = 0x411004 ∨ credKeys key = true := by
  simp only [isAction, Bool.or_eq_true, beq_iff_eq, or_assoc]

theorem credKeys_iff (key : Nat) : credKeys key = true ↔ key = 0x525001 ∨ key = 0x525002 ∨ key = 0x525003 := by
  simp only [credKeys, Bool.or_eq_true, beq_iff_eq, or_assoc]

section

variable {s : State} {k : Nat} {r : CsRec}

/-- The set in hand marked COMMITTING. -/
def committing (s : State) (k : Nat) : State := s.withMgmt (fun m => { m with slots := Tab.set m.slots k { s.cset k with code := 0xF0F } })

theorem exec_csCommit_ok (hmay : mayCommit s = true) (hnext : nextSet s = some k) (hok : setStatus s (s.cset k).recs = 0) :
    exec .csCommit s = .next (if (setRules (s.cset k).recs).isEmpty then freeSet (applySet (committing s k) (s.cset k)) k 0 0
      else applySet (committing s k) (s.cset k)) := by
  show execCsCommit s = _
  unfold execCsCommit
  rw [hmay, hnext]
  dsimp only
  rw [hok]
  rfl

theorem exec_csCommit_fails (hmay : mayCommit s = true) (hnext : nextSet s = some k) (hfail : setStatus s (s.cset k).recs ≠ 0) :
    exec .csCommit s = .next (freeSet (if setStatus s (s.cset k).recs = 0x3013 then s.bump gGuardOverlapRefused else s) k
      (setStatus s (s.cset k).recs) 0) := by
  show execCsCommit s = _
  unfold execCsCommit
  rw [hmay, hnext]
  dsimp only
  exact if_pos hfail

/-- A slot made FREE leaves the credentials. -/
theorem freeSet_creds (s : State) (k f r : Nat) : (freeSet s k f r).mgmt.creds = s.mgmt.creds := by
  unfold freeSet
  extract_lets x s0 s1
  have h0 : s0.mgmt = s.mgmt := by
    unfold s0
    split
    · rfl
    · exact restore_mgmt ..
  have hcreds : s0.mgmt.creds = s.mgmt.creds := congrArg Mgmt.creds h0
  rw [(csNote_slots ..).2]
  split <;> exact hcreds

/-- A set freed without a commit leaves the rules in force. -/
theorem freeSet_active (s : State) (k f r g : Nat) : (Tab.get {} (freeSet s k f r).guards g).active = (Tab.get {} s.guards g).active := by
  unfold freeSet
  extract_lets x s0 s1
  have h0 : (Tab.get {} s0.guards g).active = (Tab.get {} s.guards g).active := by
    unfold s0
    split
    · rfl
    · exact (restoreStaging_guard g _ s).1
  rw [show (csNote (if f = 0 then s1.bump gCsCommitted else s1.bump gCsExpired) x (if f = 0 then 3 else if r = 1 then 5 else 4) 0x356).guards =
    (if f = 0 then s1.bump gCsCommitted else s1.bump gCsExpired).guards from (csNote_writes (wm := 524320) (.refl _ _) rfl).guards rfl]
  split <;> exact h0

/-- A committed set's slot made FREE counts it, and stores no other value. -/
theorem freeSet_find {k' : Nat} (s : State) (k r : Nat) (h : k' ≠ gCsCommitted.key * 65536) :
    Tab.find (freeSet s k 0 r).gls k' = Tab.find s.gls k' := by
  unfold freeSet
  extract_lets x s0 s1
  rw [if_pos rfl]
  refine (find_writes (csNote_writes (wm := 524320) (.refl _ _) rfl) rfl k').trans ?_
  refine (find_gset_other s1 h _).trans ?_
  show Tab.find s0.gls k' = Tab.find s.gls k'
  unfold s0
  rw [if_pos (.inl rfl)]

/-- A set that fails a check is freed with its code, and nothing in force changes. -/
theorem csCommit_fails (hmay : mayCommit s = true) (hnext : nextSet s = some k) (hfail : setStatus s (s.cset k).recs ≠ 0) :
    ∃ t, exec .csCommit s = .next t ∧ (∀ m, m ≠ k → t.cset m = s.cset m) ∧
      t.cset k = { s.cset k with code := 0x356, final := setStatus s (s.cset k).recs, reason := 0 } ∧
      t.mgmt.creds = s.mgmt.creds ∧ t.mode = s.mode ∧ t.life = s.life ∧
      (∀ g, (Tab.get {} t.guards g).active = (Tab.get {} s.guards g).active) := by
  refine ⟨_, exec_csCommit_fails hmay hnext hfail, ?_⟩
  generalize setStatus s (s.cset k).recs = c
  have hcount : Writes 1073741824 s (if c = 0x3013 then s.bump gGuardOverlapRefused else s) := .ite (State.bump_writes (.refl _ s) rfl) (.refl _ s)
  generalize (if c = 0x3013 then s.bump gGuardOverlapRefused else s) = u at hcount
  have hmgmt : u.mgmt = s.mgmt := hcount.mgmt rfl
  have hfree : Writes 1074331680 u (freeSet u k c 0) := freeSet_writes (.refl _ u) rfl
  have hslots : (freeSet u k c 0).mgmt.slots = Tab.set s.mgmt.slots k { s.cset k with code := 0x356, final := c, reason := 0 } := by
    rw [freeSet_slots, State.cset, State.cset, hmgmt]
  obtain ⟨hset, hother⟩ := cset_of_set hslots
  refine ⟨hother, hset, (freeSet_creds ..).trans (congrArg Mgmt.creds hmgmt), (hfree.mode rfl).trans (hcount.mode rfl),
    (hfree.life rfl).trans (hcount.life rfl), fun g => (freeSet_active u k c 0 g).trans ?_⟩
  rw [hcount.guards rfl]

/-- A set that commits and is freed: its slot, when what it does leaves the slots. -/
theorem committed_cset {u : State} (h : u.mgmt.slots = (committing s k).mgmt.slots) :
    (freeSet u k 0 0).cset k = { s.cset k with code := 0x356, final := 0, reason := 0 } ∧ ∀ m, m ≠ k → (freeSet u k 0 0).cset m = s.cset m := by
  obtain ⟨hself, hkeep⟩ := cset_of_set (s := s) (t := u) (k := k) (y := { s.cset k with code := 0xF0F }) h
  obtain ⟨hset, hother⟩ := cset_of_set (freeSet_slots u k 0 0)
  rw [hself] at hset
  exact ⟨hset, fun m hm => (hother m hm).trans (hkeep m hm)⟩

/-! ### A value (22 R797) -/

theorem applyValue_mgmt (u : State) (r : CsRec) : (applyValue u r).mgmt = u.mgmt :=
  (applyValue_writes (wm := 3262141568) (.refl _ u) rfl).mgmt rfl

/-- What a value that takes effect stores. -/
theorem applyValue_find {u : State} (hact : isAction r.key = false) (hslot : r.key ≠ 0x110101) {k' : Nat} (hnoise : NotNoise k') :
    Tab.find (applyValue u r).gls k' = Tab.find (Tab.set u.gls (r.key * 65536 + r.sel) (leNat r.value)) k' := by
  unfold applyValue
  rw [hact, if_neg Bool.false_ne_true]
  simp only [if_neg hslot]
  split
  · exact condChanged_find hnoise _ _ _ _
  · split
    · exact condChanged_find hnoise _ _ _ _
    · rfl

/-- The entries that a commit itself writes are read-only. -/
theorem commitEntries_ro : ∀ e ∈ [gRngHealthy, gRngState, gRngJstate, gConfigEpoch, gCsCommitted], (glossRow e.key).map GRow.acc = some .ro := by
  simp only [List.mem_cons, List.not_mem_nil, or_false, forall_eq_or_imp, forall_eq]
  exact ⟨rfl, rfl, rfl, rfl, rfl⟩

theorem key_ne_commitEntry {row : GRow} (hrow : glossRow r.key = some row) (hdual : row.acc = .dual) {e : GE}
    (he : e ∈ [gRngHealthy, gRngState, gRngJstate, gConfigEpoch, gCsCommitted]) : r.key ≠ e.key := by
  intro hkey
  have hro := commitEntries_ro e he
  rw [← hkey, hrow] at hro
  exact absurd (hdual.symm.trans (Option.some.inj hro)) (by decide)

theorem pathState_mem (p : Nat) : pathState p ∈ [gRngHealthy, gRngState, gRngJstate, gConfigEpoch, gCsCommitted] := by
  unfold pathState
  split <;> decide

theorem notNoise_of_dual {row : GRow} (hrow : glossRow r.key = some row) (hdual : row.acc = .dual) (hsel : r.sel < 65536) :
    NotNoise (r.key * 65536 + r.sel) := by
  refine ⟨?_, fun p => ?_⟩
  · have := key_ne_commitEntry hrow hdual (e := gRngHealthy) (by decide)
    omega
  · have := key_ne_commitEntry hrow hdual (pathState_mem p)
    omega

theorem notNoise_configEpoch : NotNoise (gConfigEpoch.key * 65536) := by
  refine ⟨by decide, fun p => ?_⟩
  unfold pathState
  split <;> decide

theorem csCommit_value {row : GRow} (hmay : mayCommit s = true) (hnext : nextSet s = some k) (hrecs : (s.cset k).recs = [r])
    (hok : setStatus s [r] = 0) (hrow : glossRow r.key = some row) (hdual : row.acc = .dual) (hsel : r.sel < 65536)
    (hact : isAction r.key = false) (hslot : r.key ≠ 0x110101) (hlife : r.key ≠ 0x100004) :
    ∃ t, exec .csCommit s = .next t ∧ (∀ m, m ≠ k → t.cset m = s.cset m) ∧
      t.cset k = { s.cset k with code := 0x356, final := 0, reason := 0 } ∧
      Tab.find t.gls (r.key * 65536 + r.sel) = some (leNat r.value) ∧
      t.gv gConfigEpoch = (s.gv gConfigEpoch + 1) % 2 ^ 64 ∧ t.mgmt.creds = s.mgmt.creds := by
  have hnot : ¬ (r.key = 0x110009 ∨ r.key = 0x331005 ∨ r.key = 0x411004 ∨ credKeys r.key = true) := fun h => absurd ((isAction_iff r.key).mpr h) (by rw [hact]; exact Bool.false_ne_true)
  have hcred : credKeys r.key = false := Bool.eq_false_iff.mpr fun h => hnot (.inr (.inr (.inr h)))
  let v := commitStamped (committing s k) (s.cset k)
  let u := applyValue v r
  have hrules : setRules [r] = [] := (setRules_single r).trans (if_neg fun h => hnot (.inr (.inr (.inl h))))
  have happly : applySet (committing s k) (s.cset k) = u := by
    rw [applySet_single hrecs hlife, hcred, hrules]
    exact applyAction_none (fun h => hnot (.inr (.inl h))) (fun h => hnot (.inl h)) hslot
  have hexec : exec .csCommit s = .next (freeSet u k 0 0) := by
    rw [exec_csCommit_ok hmay hnext (by rw [hrecs]; exact hok), happly, hrecs, hrules]
    rfl
  have hmgmt : u.mgmt = (committing s k).mgmt := applyValue_mgmt v r
  obtain ⟨hset, hother⟩ := committed_cset (s := s) (k := k) (congrArg Mgmt.slots hmgmt)
  have hcreds : u.mgmt.creds = (committing s k).mgmt.creds := congrArg Mgmt.creds hmgmt
  refine ⟨freeSet u k 0 0, hexec, hother, hset, ?_, ?_, (freeSet_creds ..).trans hcreds⟩
  · have hne := key_ne_commitEntry hrow hdual (e := gCsCommitted) (by decide)
    rw [freeSet_find u k 0 (by omega), applyValue_find hact hslot (notNoise_of_dual hrow hdual hsel)]
    exact Tab.find_set_self _ _ _
  · have hne := key_ne_commitEntry hrow hdual (e := gConfigEpoch) (by decide)
    have hfind : Tab.find (freeSet u k 0 0).gls (gConfigEpoch.key * 65536) = Tab.find v.gls (gConfigEpoch.key * 65536) := by
      rw [freeSet_find u k 0 (by decide), applyValue_find hact hslot notNoise_configEpoch]
      exact Tab.find_set_other _ _ (by omega)
    exact (congrArg (fun o => Option.getD o gConfigEpoch.dflt) hfind).trans (State.gv_bump _ gConfigEpoch)

/-! ### A credential (22 R768, R771) -/

theorem applyValue_action {u : State} (h : isAction r.key = true) : applyValue u r = u := if_pos h

/-- Sessions that end leave the change sets and the credentials. -/
theorem endCredSessions_leaves (s : State) (k : Nat) :
    (endCredSessions s k).mgmt.slots = s.mgmt.slots ∧ (endCredSessions s k).mgmt.creds = s.mgmt.creds := by
  have hfold (l : List Nat) : ∀ u : State, (l.foldl closeGap u).mgmt.slots = u.mgmt.slots ∧ (l.foldl closeGap u).mgmt.creds = u.mgmt.creds := by
    induction l with
    | nil => exact fun _ => ⟨rfl, rfl⟩
    | cons n l ih =>
      intro u
      obtain ⟨h1, h2⟩ := ih (closeGap u n)
      exact ⟨h1, h2⟩
  unfold endCredSessions
  dsimp only
  split <;> exact hfold _ s

theorem setCreds_leaves (s : State) (t : Tab Cred) : (setCreds s t).mgmt.slots = s.mgmt.slots ∧ (setCreds s t).mgmt.creds = t := by
  have hfold (l : List Nat) : ∀ u : State, (l.foldl endCredSessions u).mgmt.slots = u.mgmt.slots ∧
      (l.foldl endCredSessions u).mgmt.creds = u.mgmt.creds := by
    induction l with
    | nil => exact fun _ => ⟨rfl, rfl⟩
    | cons n l ih =>
      intro u
      obtain ⟨h1, h2⟩ := ih (endCredSessions u n)
      obtain ⟨h3, h4⟩ := endCredSessions_leaves u n
      exact ⟨h1.trans h3, h2.trans h4⟩
  unfold setCreds
  extract_lets ch s1
  obtain ⟨h1, h2⟩ : s1.mgmt.slots = s.mgmt.slots ∧ s1.mgmt.creds = t := hfold ch (s.withMgmt (fun m => { m with creds := t }))
  split
  · exact ⟨h1, h2⟩
  · rw [(recheckTok_writes (wm := 67108864) (.refl _ s1) rfl).mgmt rfl]
    exact ⟨h1, h2⟩

theorem csCommit_credential (hmay : mayCommit s = true) (hnext : nextSet s = some k) (hrecs : (s.cset k).recs = [r]) (hok : setStatus s [r] = 0)
    (hcred : credKeys r.key = true) :
    ∃ t, exec .csCommit s = .next t ∧ t.cset k = { s.cset k with code := 0x356, final := 0, reason := 0 } ∧
      t.mgmt.creds = credsAfter s.mgmt.creds [r] := by
  have hkey := (credKeys_iff r.key).mp hcred
  let v := commitStamped (committing s k) (s.cset k)
  let u := setCreds v (credsAfter v.mgmt.creds [r])
  have hrules : setRules [r] = [] := (setRules_single r).trans (if_neg (by omega))
  have hact : applyValue v r = v := applyValue_action ((isAction_iff r.key).mpr (.inr (.inr (.inr hcred))))
  have happly : applySet (committing s k) (s.cset k) = u := by
    rw [applySet_single hrecs (by omega), hcred, hrules]
    dsimp only
    rw [hact]
    exact applyAction_none (by omega) (by omega) (by omega)
  have hexec : exec .csCommit s = .next (freeSet u k 0 0) := by
    rw [exec_csCommit_ok hmay hnext (by rw [hrecs]; exact hok), happly, hrecs, hrules]
    rfl
  obtain ⟨hslots, hcreds⟩ := setCreds_leaves v (credsAfter v.mgmt.creds [r])
  exact ⟨freeSet u k 0 0, hexec, (committed_cset (s := s) (k := k) (u := u) hslots).1, (freeSet_creds ..).trans hcreds⟩

/-! ### A guard bank (15 R585) -/

/-- One bank switched: it becomes active, the others stand, and the machine drains. -/
theorem switchGuards_single (u : State) (g change : Nat) (bank : Tab Nat) :
    (switchGuards u [(g, bank)] change).gv gGuardCommitState = 0x30F ∧ (Tab.get {} (switchGuards u [(g, bank)] change).guards g).active = bank ∧
      (∀ h, h ≠ g → (Tab.get {} (switchGuards u [(g, bank)] change).guards h).active = (Tab.get {} u.guards h).active) ∧
      (switchGuards u [(g, bank)] change).mgmt = u.mgmt := by
  have hw : Writes 1078138528 u (switchGuards u [(g, bank)] change) := switchGuards_writes (.refl _ u) rfl
  have hguards : ∃ v : State, v.guards = u.guards ∧ (switchGuards u [(g, bank)] change).guards = (v.withGuard g (fun x => { x with active := bank, bad := [] })).guards := by
    unfold switchGuards
    extract_lets aff all s1 s2 s3
    refine ⟨s2, ?_, rfl⟩
    exact (squashWhere_writes (wm := 1077941888) (.refl _ _) rfl).guards rfl
  obtain ⟨v, hv, hg⟩ := hguards
  rw [hg, ← hv]
  refine ⟨?_, ?_, fun h hne => ?_, hw.mgmt rfl⟩
  · unfold switchGuards
    extract_lets aff all s1 s2 s3
    rw [State.gv_gset_other (by decide)]
    exact State.gv_gset ..
  · rw [State.guard_withGuard]
  · rw [State.guard_withGuard_other _ _ hne]

theorem csCommit_guard (hmay : mayCommit s = true) (hnext : nextSet s = some k) (hrecs : (s.cset k).recs = [r]) (hok : setStatus s [r] = 0)
    (hkey : r.key = 0x411004) :
    ∃ t, exec .csCommit s = .next t ∧ (t.cset k).code = 0xF0F ∧ t.gv gGuardCommitState = 0x30F ∧
      (Tab.get {} t.guards r.selA).active = bankOfBytes r.selA r.value ∧
      (∀ g, g ≠ r.selA → (Tab.get {} t.guards g).active = (Tab.get {} s.guards g).active) := by
  let v := commitStamped (committing s k) (s.cset k)
  let u := switchGuards v [(r.selA, bankOfBytes r.selA r.value)] (s.cset k).id
  have hrules : setRules [r] = [(r.selA, bankOfBytes r.selA r.value)] := (setRules_single r).trans (if_pos hkey)
  have hact : applyValue v r = v := applyValue_action ((isAction_iff r.key).mpr (.inr (.inr (.inl hkey))))
  have hcred : credKeys r.key = false := by rw [hkey]; rfl
  have happly : applySet (committing s k) (s.cset k) = u := by
    rw [applySet_single hrecs (by omega), hcred, hrules]
    dsimp only
    rw [hact]
    exact applyAction_none (by omega) (by omega) (by omega)
  have hexec : exec .csCommit s = .next u := by
    rw [exec_csCommit_ok hmay hnext (by rw [hrecs]; exact hok), happly, hrecs, hrules]
    rfl
  obtain ⟨hstate, hactive, hother, hmgmt⟩ := switchGuards_single v r.selA (s.cset k).id (bankOfBytes r.selA r.value)
  have hset : u.cset k = { s.cset k with code := 0xF0F } := (cset_of_set (s := s) (congrArg Mgmt.slots hmgmt)).1
  refine ⟨u, hexec, ?_, hstate, hactive, hother⟩
  rw [hset]

end

theorem csCommit_none {s : State} (hnext : nextSet s = none) : exec .csCommit s = .next s := by
  show execCsCommit s = _
  unfold execCsCommit
  split
  · rfl
  · rw [hnext]

/-- Settles O47: each message acts on one slot (`cset_of_set`), and a commit of one record is that record's own effect (`applySet_single`). -/
theorem changeSetsAndCommits : Obligations.ChangeSetsAndCommits := by
  unfold Obligations.ChangeSetsAndCommits
  refine ⟨fun s x req h hrole => csSeal_seals h hrole, fun s x req change cred sig h hrole => csSign_signs h hrole,
    fun s x req change h hrole => csCancel_cancels h hrole, fun s x req change off h hrole => csQuery_answers h hrole,
    fun s k hopen hlate => countersignExpiry_frees hopen hlate, fun s k hmay hnext hfail => csCommit_fails hmay hnext hfail,
    fun s k r row hmay hnext hrecs hok hrow hdual hsel => ⟨fun hact hslot hlife => ?_, fun hcred => ?_, fun hkey => ?_⟩,
    fun s hnext => csCommit_none hnext⟩
  · exact csCommit_value hmay hnext hrecs hok hrow hdual hsel hact hslot hlife
  · exact csCommit_credential hmay hnext hrecs hok hcred
  · exact csCommit_guard hmay hnext hrecs hok hkey

end Sys2Proof.Machine
end

section
/-! PROOF. The card and the badge as a block is sent, fails, or they leave; the card's activation, identification, waits and removal
(23 R802 to R808; 02 R52). -/

namespace Sys2Proof.Machine

open Sys2Proof

/-! ### A card or a badge (23 R804, R805, R807; 24 R822, R827) -/

theorem tok_withTok (s : State) (b : Bool) (f : TokSt → TokSt) : (s.withTok b f).tok b = f (s.tok b) := by cases b <;> rfl

/-- A block sent: what it stands for, with no retransmission yet. -/
theorem tok_sendTok (s : State) (b : Bool) (g : TokStage) : (sendTok s b g).tok b = { s.tok b with
    stage := g, resends := 0, resynch := false, wtx := 0, clockOn := true, waitUntil := s.now + answerWait (s.tok b) b g } := by
  cases b <;> rfl

theorem sendTok_frame (s : State) (b : Bool) (g : TokStage) : { sendTok s b g with appr := s.appr } = s := rfl

/-- A card or badge that has gone: what is left of it. -/
theorem tokGone_tok (s : State) (b : Bool) (g : TokStage) (st : Nat) :
    (tokGone s b g st).tok b = { stage := g, counter := (s.tok b).counter } := by
  unfold tokGone
  cases b <;> rfl

/-- A badge gone takes the carrier with it and leaves the card. -/
theorem tokGone_badge (s : State) (g : TokStage) (st : Nat) :
    (tokGone s true g st).appr.carrier = false ∧ (tokGone s true g st).appr.card = s.appr.card := by
  refine ⟨rfl, ?_⟩
  unfold tokGone
  extract_lets t s1 s2
  have h1 : s1.appr.card = s.appr.card := by
    unfold s1
    split
    · rfl
    · split
      · rfl
      · split <;> rfl
  exact h1

/-- A card that goes for a reason already recorded, no APPROVE in doubt, leaves that reason. -/
theorem tokGone_result {s : State} {g : TokStage} {st : Nat} (hstage : s.appr.card.stage ≠ .approve) (hst : s.gv gCardResult = st) :
    (tokGone s false g st).gv gCardResult = st := by
  unfold tokGone
  extract_lets t s1 s2
  have h1 : s1.gv gCardResult = st := by
    unfold s1
    split
    · exact hst
    · split
      · exact hst
      · split
        · next h => exact absurd h hstage
        · exact State.gv_gset ..
  exact h1

theorem gv_setResult (s : State) (b : Bool) (st : Nat) : (setResult s b st).gv (if b then gFieldResult else gCardResult) = st := State.gv_gset ..

/-- A block that fails, while a retransmission is left. -/
theorem blockFails_resends {s : State} {b : Bool} (h : (s.tok b).resends < 2) : blockFails s b = s.withTok b (fun t => { t with
    resends := t.resends + 1, waitUntil := s.now + answerWait (s.tok b) b (s.tok b).stage }) := if_pos h

/-- A block of the card that fails again draws S(RESYNCH), then ends the card (23 R804). -/
theorem blockFails_card {s : State} (h : ¬ s.appr.card.resends < 2) : blockFails s false =
    if s.appr.card.resynch = false then s.withTok false (fun t => { t with
      resynch := true, waitUntil := s.now + answerWait s.appr.card false s.appr.card.stage })
    else tokGone (setResult s false 0x7034) false .failed 0x7034 := by
  refine (if_neg h).trans ?_
  show (if (!false && !s.appr.card.resynch) = true then _ else _) = _
  cases s.appr.card.resynch <;> rfl

/-- A block of the badge that fails again ends it (24 R822, R827). -/
theorem blockFails_badge {s : State} (h : ¬ s.appr.badge.resends < 2) : blockFails s true = tokGone s true .absent 0x7037 := if_neg h

/-! ### The card's answers (23 R802, R803, Table 1) -/

/-- The state in which an answer of the card has been seen. -/
def cardSeen (s : State) : State := s.withTok false (fun t => { t with seenAt := s.now })

theorem seen_sendTok_frame (s : State) (g : TokStage) : { sendTok (cardSeen s) false g with appr := s.appr } = s := rfl

section

variable {s : State}

/-- An answer is taken while a command or its answer is outstanding. -/
theorem execCardResponse_taken (hup : tokUp s false = true) (hwaits : s.appr.card.waits = true) : (!tokUp s false || !s.appr.card.waits) = false := by
  rw [hup, hwaits]
  rfl

theorem cardInserted_activates (hup : tokUp s false = true) (hstage : s.appr.card.stage = .absent) :
    exec .cardInserted s = .next (activate s false false) := by
  show execCardInserted s = _
  rw [execCardInserted, hup, hstage]
  rfl

theorem cardResponse_atr (hup : tokUp s false = true) (hstage : s.appr.card.stage = .atr) (classB t1 neg crc : Bool) (fidi stop ifsc bwi cwi : Nat) :
    exec (.cardResponse (.atr classB t1 neg fidi stop ifsc bwi cwi crc)) s =
      .next (takeAtr (cardSeen s) classB t1 neg fidi stop ifsc bwi cwi crc) := by
  show execCardResponse _ s = _
  unfold execCardResponse
  simp only [execCardResponse_taken hup (by rw [TokSt.waits, hstage]), hstage]
  rfl

theorem cardResponse_pps (hup : tokUp s false = true) (hstage : s.appr.card.stage = .pps) (echoed : Bool) :
    exec (.cardResponse (.pps echoed)) s =
      .next (if echoed then runAt (cardSeen s) s.appr.card.want else activate (cardSeen s) s.appr.card.classA true) := by
  show execCardResponse _ s = _
  unfold execCardResponse
  simp only [execCardResponse_taken hup (by rw [TokSt.waits, hstage]), hstage]
  rfl

theorem runAt_card (s : State) (fidi : Nat) : (runAt (cardSeen s) fidi).appr.card.stage = .ifs ∧ (runAt (cardSeen s) fidi).appr.card.fidi = fidi ∧
    (runAt (cardSeen s) fidi).appr.card.khz = cardKhz fidi ∧ { runAt (cardSeen s) fidi with appr := s.appr } = s :=
  ⟨rfl, rfl, rfl, (runAt_writes (wm := 67108864) (State.withTok_writes (.refl _ s) rfl) rfl).merge⟩

/-- An echoed PPS is used (23 R803). -/
theorem cardResponse_pps_echoed (hup : tokUp s false = true) (hstage : s.appr.card.stage = .pps) :
    ∃ t, exec (.cardResponse (.pps true)) s = .next t ∧ t.appr.card.stage = .ifs ∧ t.appr.card.fidi = s.appr.card.want ∧
      t.appr.card.khz = cardKhz s.appr.card.want ∧ { t with appr := s.appr } = s := by
  obtain ⟨h1, h2, h3, h4⟩ := runAt_card s s.appr.card.want
  exact ⟨runAt (cardSeen s) s.appr.card.want, (cardResponse_pps hup hstage true).trans (by rw [if_pos rfl]), h1, h2, h3, h4⟩

/-- Another answer restarts the card without PPS. -/
theorem cardResponse_pps_other (hup : tokUp s false = true) (hstage : s.appr.card.stage = .pps) :
    ∃ t, exec (.cardResponse (.pps false)) s = .next t ∧ t.appr.card.stage = .atr ∧ t.appr.card.noPps = true ∧
      t.appr.card.classA = s.appr.card.classA ∧ { t with appr := s.appr } = s :=
  ⟨activate (cardSeen s) s.appr.card.classA true, cardResponse_pps hup hstage false, rfl, rfl, rfl, rfl⟩

theorem cardResponse_ifs (hup : tokUp s false = true) (hstage : s.appr.card.stage = .ifs) :
    exec (.cardResponse .ifs) s = .next (sendTok (cardSeen s) false .select) := by
  show execCardResponse _ s = _
  unfold execCardResponse
  simp only [execCardResponse_taken hup (by rw [TokSt.waits, hstage]), hstage]
  rfl

theorem cardResponse_ifs_selects (hup : tokUp s false = true) (hstage : s.appr.card.stage = .ifs) :
    ∃ t, exec (.cardResponse .ifs) s = .next t ∧ t.appr.card.stage = .select ∧ { t with appr := s.appr } = s := by
  have hsent : (sendTok (cardSeen s) false .select).appr.card.stage = .select := congrArg TokSt.stage (tok_sendTok (cardSeen s) false .select)
  exact ⟨sendTok (cardSeen s) false .select, cardResponse_ifs hup hstage, hsent, seen_sendTok_frame s .select⟩

theorem cardResponse_select (hup : tokUp s false = true) (hstage : s.appr.card.stage = .select) (sw : Nat) (d : Bytes) :
    exec (.cardResponse (.resp sw d)) s = .next (if sw = 0x9000 then sendTok (cardSeen s) false .status
      else tokGone (setResult (cardSeen s) false 0x7034) false .failed 0x7034) := by
  show execCardResponse _ s = _
  unfold execCardResponse
  simp only [execCardResponse_taken hup (by rw [TokSt.waits, hstage]), hstage]
  rfl

theorem cardResponse_status (hup : tokUp s false = true) (hstage : s.appr.card.stage = .status) (sw : Nat) (d : Bytes) :
    exec (.cardResponse (.resp sw d)) s = .next (takeStatus (cardSeen s) sw d) := by
  show execCardResponse _ s = _
  unfold execCardResponse
  simp only [execCardResponse_taken hup (by rw [TokSt.waits, hstage]), hstage]
  rfl

/-- A block in error after the ATR and the PPS is a block that fails. -/
theorem cardResponse_badBlock (hup : tokUp s false = true) (hwaits : s.appr.card.waits = true) (hatr : s.appr.card.stage ≠ .atr) :
    exec (.cardResponse .badBlock) s = .next (blockFails (cardSeen s) false) := by
  show execCardResponse _ s = _
  unfold execCardResponse
  simp only [execCardResponse_taken hup hwaits]
  rw [if_neg Bool.false_ne_true]
  rfl

/-! ### The ATR (23 R803) -/

theorem unsupported_card (hstage : s.appr.card.stage ≠ .approve) :
    (unsupported s).appr.card.stage = .failed ∧ (unsupported s).gv gCardResult = 0x7036 := by
  refine ⟨congrArg TokSt.stage (tokGone_tok _ false .failed 0x7036), ?_⟩
  exact tokGone_result (s := setResult s false 0x7036) hstage (gv_setResult s false 0x7036)

/-- What the card keeps of its ATR. -/
def atrKept (s : State) (stop ifsc bwi cwi : Nat) (crc : Bool) : State :=
  (cardSeen s).withTok false (fun t => { t with clockStop := stop, ifsc := ifsc, bwi := bwi, cwi := cwi, crc := crc })

section

variable {classB t1 neg crc : Bool} {fidi stop ifsc bwi cwi : Nat}

theorem takeAtr_classA (hb : classB = false) (ha : s.appr.card.classA = false) :
    takeAtr (cardSeen s) classB t1 neg fidi stop ifsc bwi cwi crc = activate (cardSeen s) true s.appr.card.noPps :=
  if_pos (by rw [hb, show (cardSeen s).appr.card.classA = false from ha]; rfl)

/-- A card in a class that it supports is taken as it offers T=1. -/
theorem takeAtr_class (hclass : ¬ (classB = false ∧ s.appr.card.classA = false)) :
    takeAtr (cardSeen s) classB t1 neg fidi stop ifsc bwi cwi crc =
      if !t1 then unsupported (cardSeen s)
      else if neg then
        if s.appr.card.noPps then (sendTok (atrKept s stop ifsc bwi cwi crc) false .ifs).withTok false (fun t => { t with fidi := 0x11, khz := 4000 })
        else (sendTok (atrKept s stop ifsc bwi cwi crc) false .pps).withTok false (fun t => { t with want := proposal fidi })
      else if rateFits fidi then runAt (atrKept s stop ifsc bwi cwi crc) fidi
      else unsupported (atrKept s stop ifsc bwi cwi crc) := by
  have hkeep : ¬ (!classB && !(cardSeen s).appr.card.classA) = true := by
    have hsame : (cardSeen s).appr.card.classA = s.appr.card.classA := rfl
    rw [hsame]
    simpa using hclass
  exact if_neg hkeep

theorem takeAtr_takes (hstage : s.appr.card.stage = .atr) :
    let t := takeAtr (cardSeen s) classB t1 neg fidi stop ifsc bwi cwi crc
    if classB = false ∧ s.appr.card.classA = false then t.appr.card.stage = .atr ∧ t.appr.card.classA = true
    else if t1 = false ∨ (neg = false ∧ rateFits fidi = false) then t.appr.card.stage = .failed ∧ t.gv gCardResult = 0x7036
    else t.appr.card.clockStop = stop ∧ t.appr.card.ifsc = ifsc ∧ t.appr.card.crc = crc ∧
      (if neg = false then t.appr.card.stage = .ifs ∧ t.appr.card.fidi = fidi ∧ t.appr.card.khz = cardKhz fidi
       else if s.appr.card.noPps = true then t.appr.card.stage = .ifs ∧ t.appr.card.fidi = 0x11 ∧ t.appr.card.khz = 4000
       else t.appr.card.stage = .pps ∧ t.appr.card.want = proposal fidi) := by
  have hne : s.appr.card.stage ≠ .approve := by rw [hstage]; decide
  by_cases hclass : classB = false ∧ s.appr.card.classA = false
  · dsimp only
    rw [if_pos hclass, takeAtr_classA hclass.1 hclass.2]
    exact ⟨rfl, rfl⟩
  dsimp only
  rw [if_neg hclass, takeAtr_class hclass]
  cases t1 with
  | false => exact unsupported_card (s := cardSeen s) hne
  | true =>
    cases neg with
    | true =>
      rw [if_neg (by simp)]
      cases s.appr.card.noPps
      · exact ⟨rfl, rfl, rfl, rfl, rfl⟩
      · exact ⟨rfl, rfl, rfl, rfl, rfl, rfl⟩
    | false =>
      cases hrate : rateFits fidi with
      | false => exact unsupported_card (s := atrKept s stop ifsc bwi cwi crc) hne
      | true => exact ⟨rfl, rfl, rfl, rfl, rfl, rfl⟩

end

/-! ### Identification (23 Table 3, R808) -/

/-- With no midstep record, a card or badge that becomes READY is the slot's. -/
theorem becomeReady_tok {b : Bool} (h : s.appr.midstep = none) (slot counter : Nat) :
    ((becomeReady s b slot counter).tok b).stage = .ready ∧ ((becomeReady s b slot counter).tok b).cred = some slot ∧
      ((becomeReady s b slot counter).tok b).counter = counter := by
  unfold becomeReady
  extract_lets s1
  rw [h]
  dsimp only
  cases b <;> exact ⟨rfl, rfl, rfl⟩

theorem takeStatus_takes (hmid : s.appr.midstep = none) (sw : Nat) (d : Bytes) :
    let t := takeStatus (cardSeen s) sw d
    if sw ≠ 0x9000 ∨ d.length ≠ 117 then t.appr.card.stage = .failed
    else t.appr.card.counter = leNat ((d.drop 0x63).take 4) ∧ t.appr.card.cred = custodianOf s ((d.drop 2).take 97) ∧
      t.appr.card.stage = (if custodianOf s ((d.drop 2).take 97) = none then .unknown else .ready) := by
  have hslot : custodianOf (cardSeen s) ((d.drop 2).take 97) = custodianOf s ((d.drop 2).take 97) := rfl
  unfold takeStatus
  dsimp only
  by_cases hbad : sw ≠ 0x9000 ∨ d.length ≠ 117
  · rw [if_pos hbad, if_pos hbad]
    exact congrArg TokSt.stage (tokGone_tok _ false .failed 0x7034)
  rw [if_neg hbad, if_neg hbad, hslot]
  cases custodianOf s ((d.drop 2).take 97) with
  | none => exact ⟨rfl, rfl, rfl⟩
  | some k =>
    obtain ⟨h1, h2, h3⟩ := becomeReady_tok (s := cardSeen s) (b := false) hmid k (leNat ((d.drop 0x63).take 4))
    exact ⟨h3, h2, h1⟩

/-! ### Waiting times (23 R804, R805) -/

theorem blockWaitingTimeExpiry_early (h : s.now < s.appr.card.waitUntil) : exec .blockWaitingTimeExpiry s = .next s := by
  show execBlockWaitingTimeExpiry s = _
  unfold execBlockWaitingTimeExpiry
  dsimp only
  rw [decide_eq_true h, Bool.or_true, if_pos rfl]

/-- The waiting time of an outstanding command has passed. -/
theorem exec_blockWaitingTimeExpiry (hup : tokUp s false = true) (hwaits : s.appr.card.waits = true) (hlate : s.appr.card.waitUntil ≤ s.now) :
    exec .blockWaitingTimeExpiry s = if s.appr.card.stage = .pps then .next (activate s s.appr.card.classA true)
      else if s.appr.card.stage = .atr then .next (tokGone (setResult s false 0x7034) false .failed 0x7034) else .next (blockFails s false) := by
  show execBlockWaitingTimeExpiry s = _
  unfold execBlockWaitingTimeExpiry
  dsimp only
  rw [execCardResponse_taken hup hwaits, decide_eq_false (by omega), Bool.or_self, if_neg Bool.false_ne_true]

theorem block_fails (hup : tokUp s false = true) (hwaits : s.appr.card.waits = true) (hatr : s.appr.card.stage ≠ .atr)
    (hpps : s.appr.card.stage ≠ .pps) :
    let again := s.now + answerWait s.appr.card false s.appr.card.stage
    (s.appr.card.resends < 2 →
      (s.appr.card.waitUntil ≤ s.now → ∃ t, exec .blockWaitingTimeExpiry s = .next t ∧
        t.appr.card = { s.appr.card with resends := s.appr.card.resends + 1, waitUntil := again } ∧ { t with appr := s.appr } = s) ∧
      ∃ t, exec (.cardResponse .badBlock) s = .next t ∧
        t.appr.card = { s.appr.card with resends := s.appr.card.resends + 1, waitUntil := again, seenAt := s.now } ∧
        { t with appr := s.appr } = s) ∧
    (2 ≤ s.appr.card.resends → s.appr.card.waitUntil ≤ s.now → ∃ t, exec .blockWaitingTimeExpiry s = .next t ∧
      if s.appr.card.resynch = false then
        t.appr.card = { s.appr.card with resynch := true, waitUntil := again } ∧ { t with appr := s.appr } = s
      else t.appr.card.stage = .failed) := by
  intro again
  have hexpiry (hlate : s.appr.card.waitUntil ≤ s.now) : exec .blockWaitingTimeExpiry s = .next (blockFails s false) := by
    rw [exec_blockWaitingTimeExpiry hup hwaits hlate, if_neg hpps, if_neg hatr]
  refine ⟨fun hfew => ⟨fun hlate => ?_, ?_⟩, fun hmany hlate => ⟨_, hexpiry hlate, ?_⟩⟩
  · exact ⟨_, (hexpiry hlate).trans (congrArg Host.Outcome.next (blockFails_resends (b := false) hfew)), rfl, rfl⟩
  · have hagain : answerWait (cardSeen s).appr.card false (cardSeen s).appr.card.stage = answerWait s.appr.card false s.appr.card.stage := rfl
    exact ⟨_, (cardResponse_badBlock hup hwaits hatr).trans (congrArg Host.Outcome.next (blockFails_resends (s := cardSeen s) (b := false) hfew)),
      rfl, rfl⟩
  · rw [blockFails_card (by omega)]
    split
    · exact ⟨rfl, rfl⟩
    · exact congrArg TokSt.stage (tokGone_tok _ false .failed 0x7034)

theorem cardWtx_grants (hup : tokUp s false = true) (hwaits : s.appr.card.waits = true) (hatr : s.appr.card.stage ≠ .atr)
    (hpps : s.appr.card.stage ≠ .pps) (n : Nat) :
    ∃ t, exec (.cardWtx n) s = .next t ∧
      if s.appr.card.wtx + n ≤ 60 then { t with appr := s.appr } = s ∧
        t.appr.card = { s.appr.card with
          wtx := s.appr.card.wtx + n
          waitUntil := s.now + max (answerWait s.appr.card false s.appr.card.stage) (msTicks (1000 * n)) }
      else t.appr.card.stage = .failed := by
  have hexec : exec (.cardWtx n) s = .next (grantWtx s false n) := by
    show execCardWtx n s = _
    unfold execCardWtx
    dsimp only
    rw [execCardResponse_taken hup hwaits, beq_false_of_ne hatr, beq_false_of_ne hpps]
    rfl
  refine ⟨_, hexec, ?_⟩
  by_cases hfits : s.appr.card.wtx + n ≤ 60
  · rw [if_pos hfits, show grantWtx s false n = _ from if_pos hfits]
    exact ⟨rfl, rfl⟩
  · rw [if_neg hfits, show grantWtx s false n = _ from if_neg hfits]
    exact congrArg TokSt.stage (tokGone_tok _ false .failed 0x7034)

/-! ### Clock stop and removal (23 R806, R807; 02 R52) -/

theorem clockStop_stops (hup : tokUp s false = true) (hon : s.appr.card.clockOn = true) (hsupports : s.appr.card.clockStop ≠ 0)
    (hidle : s.appr.card.stage = .ready ∨ s.appr.card.stage = .unknown)
    (htail : s.appr.card.seenAt + cycTicks (s.gv gCardClockTail) (max 1 s.appr.card.khz) ≤ s.now) :
    exec .clockStop s = .next (s.withTok false (fun t => { t with clockOn := false, stoppedHigh := t.clockStop == 2 })) := by
  refine if_pos ?_
  simp only [Bool.and_eq_true, Bool.or_eq_true, beq_iff_eq, bne_iff_ne, decide_eq_true_eq]
  exact ⟨⟨⟨⟨hup, hon⟩, hsupports⟩, hidle⟩, htail⟩

theorem clockStop_unsupported (h : s.appr.card.clockStop = 0) : exec .clockStop s = .next s := by
  show execClockStop s = _
  unfold execClockStop
  dsimp only
  rw [h, show ((0 : Nat) != 0) = false from rfl, Bool.and_false, Bool.false_and, Bool.false_and, if_neg Bool.false_ne_true]

theorem cardRemoved_gone (h : s.appr.card.stage ≠ .absent) : exec .cardRemoved s = .next (tokGone s false .absent 0x7037) := if_neg h

theorem cardOvercurrent_gone (h1 : s.appr.card.stage ≠ .absent) (h2 : s.appr.card.stage ≠ .failed) :
    exec .cardOvercurrent s = .next (tokGone s false .failed 0x7034) := if_neg (fun h => h.elim h1 h2)

end

/-- Settles O48: each stage's answer has its own equation (`cardResponse_atr` and the others), and a block that fails, a wait and a removal
are those of `blockFails`, `grantWtx` and `tokGone`. -/
theorem cardActivationAndTransport : Obligations.CardActivationAndTransport := by
  unfold Obligations.CardActivationAndTransport
  refine ⟨fun s hup hstage => ⟨_, cardInserted_activates hup hstage, rfl, rfl, rfl, rfl, rfl⟩,
    fun s classB t1 neg crc fidi stop ifsc bwi cwi hup hstage =>
      ⟨_, cardResponse_atr hup hstage classB t1 neg crc fidi stop ifsc bwi cwi, takeAtr_takes hstage⟩,
    fun s hup hstage => ⟨cardResponse_pps_echoed hup hstage, cardResponse_pps_other hup hstage⟩,
    fun s hup hstage => cardResponse_ifs_selects hup hstage,
    fun s sw d hup hstage => ⟨_, cardResponse_select hup hstage sw d, ?_⟩,
    fun s sw d hup hstage hmid => ⟨_, cardResponse_status hup hstage sw d, takeStatus_takes hmid sw d⟩,
    fun s hearly => blockWaitingTimeExpiry_early hearly,
    fun s hup hwaits hatr hpps => block_fails hup hwaits hatr hpps,
    fun s hup hlate => ⟨fun hstage => ?_, fun hstage => ?_⟩,
    fun s n hup hwaits hatr hpps => cardWtx_grants hup hwaits hatr hpps n,
    fun s hup hon hsupports hidle htail => ⟨_, clockStop_stops hup hon hsupports hidle htail, rfl, rfl⟩,
    fun s h => clockStop_unsupported h,
    fun s h => ⟨_, cardRemoved_gone h, congrArg TokSt.stage (tokGone_tok s false .absent 0x7037), (tokGone_card s .absent 0x7037).2⟩,
    fun s h1 h2 => ⟨_, cardOvercurrent_gone h1 h2, congrArg TokSt.stage (tokGone_tok s false .failed 0x7034), (tokGone_card s .failed 0x7034).2⟩⟩
  · by_cases hsw : sw = 0x9000
    · rw [if_pos hsw, if_pos hsw]
      rfl
    · rw [if_neg hsw, if_neg hsw]
      exact congrArg TokSt.stage (tokGone_tok _ false .failed 0x7034)
  · have hwaits : s.appr.card.waits = true := by rw [TokSt.waits, hstage]
    have hne : s.appr.card.stage ≠ .approve := by rw [hstage]; decide
    refine ⟨tokGone (setResult s false 0x7034) false .failed 0x7034, ?_, congrArg TokSt.stage (tokGone_tok _ false .failed 0x7034),
      tokGone_result (s := setResult s false 0x7034) hne (gv_setResult s false 0x7034)⟩
    rw [exec_blockWaitingTimeExpiry hup hwaits hlate, if_neg (by rw [hstage]; decide), if_pos hstage]
  · have hwaits : s.appr.card.waits = true := by rw [TokSt.waits, hstage]
    refine ⟨activate s s.appr.card.classA true, ?_, rfl, rfl⟩
    rw [exec_blockWaitingTimeExpiry hup hwaits hlate, if_pos hstage]

end Sys2Proof.Machine
end

section
/-! PROOF. Approvals by card and by badge: the request, VERIFY PIN, APPROVE and what a card leaves behind (23 R811 to R815; 24 R826). -/

namespace Sys2Proof.Machine

open Sys2Proof

/-! ### Requests (23 R812, R813) -/

section

variable {s : State} {b : Bool} {v : Bytes}

theorem beginRequest_busy (h : s.appr.req ≠ none) : beginRequest s b v = (0x7035, s) :=
  if_pos (.inl (Option.isSome_iff_ne_none.mpr h))

theorem beginRequest_unknown (h : s.appr.req = none) (hstage : (s.tok b).stage = .unknown) : beginRequest s b v = (0x7031, s) := by
  unfold beginRequest
  dsimp only
  rw [h, hstage, if_neg (by decide), if_pos rfl]

theorem beginRequest_absent (h : s.appr.req = none) (hstage : (s.tok b).stage = .absent) : beginRequest s b v = (0x7030, s) := by
  unfold beginRequest
  dsimp only
  rw [h, hstage, if_neg (by decide), if_neg (by decide), if_pos (by decide)]

/-- The request that the value asks for. -/
def requestOf (b : Bool) (v : Bytes) : AppReq :=
  { badge := b, change := leNat (v.take 4), action := ((v.drop 4).headD 0).toNat, pin := v.drop 8 }

/-- A request that passes Table 2 and R812 looks at the named set. -/
theorem beginRequest_ready (h : s.appr.req = none) (hstage : (s.tok b).stage = .ready) (hmid : s.appr.midstep = none)
    (hzero : (v.drop 5).take 3 = zeros 3) (haction : ((v.drop 4).headD 0).toNat = 1 ∨ ((v.drop 4).headD 0).toNat = 2) :
    beginRequest s b v = match heldSlot s (leNat (v.take 4)) with
      | none => (0, setResult s b 0x7005)
      | some k =>
        if (s.cset k).code ≠ 0x5A3 then (0, setResult s b 0x7006)
        else (0, (sendTok s b .pin).withAppr (fun a => { a with req := some (requestOf b v) })) := by
  unfold beginRequest
  dsimp only
  have hform : ¬ ((((v.drop 4).headD 0).toNat ≠ 1 ∧ ((v.drop 4).headD 0).toNat ≠ 2) ∨ (v.drop 5).take 3 ≠ zeros 3) := by
    rintro (⟨h1, h2⟩ | h3)
    · exact haction.elim h1 h2
    · exact h3 hzero
  rw [h, hstage, hmid, if_neg (by decide), if_neg (by decide), if_neg (by decide)]
  dsimp only
  rw [if_neg Bool.false_ne_true, if_neg hform]
  rfl

theorem requestWrite_admitted {x : SessId} {req : BitVec 16} (hok : writeCheck s x (if b then 0x540007 else 0x530008) v true false = 0) :
    requestWrite s x req b v = replyStatus (beginRequest s b v).2 x 0x11 req (beginRequest s b v).1 [] := by
  unfold requestWrite
  dsimp only
  rw [hok]
  rfl

theorem reply_appr (s : State) (x : SessId) (msg : Nat) (req : BitVec 16) (st : Nat) (rest : Bytes) :
    (replyStatus s x msg req st rest).appr = s.appr := (replyStatus_writes (wm := 524416) (.refl _ s) rfl).appr rfl

theorem reply_gv (s : State) (x : SessId) (msg : Nat) (req : BitVec 16) (st : Nat) (rest : Bytes) (e : GE) :
    (replyStatus s x msg req st rest).gv e = s.gv e := (replyStatus_writes (wm := 524416) (.refl _ s) rfl).gv rfl e

theorem tok_congr {t : State} (h : t.appr = s.appr) (b : Bool) : t.tok b = s.tok b := by
  rw [State.tok, State.tok, h]

end

/-! ### The token's answers at VERIFY PIN and APPROVE (23 R813) -/

/-- The state in which a card's or a badge's answer is taken. -/
def answerSeen (s : State) (b : Bool) : State := if b then s else cardSeen s

/-- An answer of the applet at VERIFY PIN or APPROVE is taken with the request in progress. -/
theorem resp_taken {s : State} {b : Bool} (hup : tokUp s b = true) (hcarrier : b = true → s.appr.carrier = true)
    (hstage : (s.tok b).stage = .pin ∨ (s.tok b).stage = .approve) (sw : Nat) (d : Bytes) :
    (b = false → exec (.cardResponse (.resp sw d)) s = .next (takeResp (answerSeen s b) b sw d)) ∧
    (b = true → exec (.badgeResponse (.resp sw d)) s = .next (takeResp (answerSeen s b) b sw d)) := by
  constructor
  · rintro rfl
    have hstage : s.appr.card.stage = .pin ∨ s.appr.card.stage = .approve := hstage
    have hwaits : s.appr.card.waits = true := by obtain h | h := hstage <;> rw [TokSt.waits, h]
    show execCardResponse _ s = _
    unfold execCardResponse
    simp only [execCardResponse_taken hup hwaits]
    obtain h | h := hstage <;> (simp only [h]; rfl)
  · rintro rfl
    have hstage : s.appr.badge.stage = .pin ∨ s.appr.badge.stage = .approve := hstage
    have hon : (!tokUp s true || !s.appr.carrier) = false := by rw [hup, hcarrier rfl]; rfl
    show execBadgeResponse _ s = _
    unfold execBadgeResponse
    simp only [hon]
    obtain h | h := hstage <;> (simp only [h]; rfl)

section

variable {s : State} {b : Bool} {r : AppReq}

/-- Taking an answer changes the card's own record alone. -/
theorem answerSeen_same (s : State) (b : Bool) : (answerSeen s b).mgmt = s.mgmt ∧ (answerSeen s b).clock = s.clock ∧ (answerSeen s b).appr.req = s.appr.req ∧
    ((answerSeen s b).tok b).stage = (s.tok b).stage ∧ ((answerSeen s b).tok b).cred = (s.tok b).cred := by
  cases b <;> exact ⟨rfl, rfl, rfl, rfl, rfl⟩

theorem takeResp_pin (hreq : s.appr.req = some r) (hstage : (s.tok b).stage = .pin) (sw : Nat) (d : Bytes) :
    takeResp s b sw d = takePin s b r sw := by
  unfold takeResp
  rw [hstage, hreq]

theorem takeResp_approve (hreq : s.appr.req = some r) (hstage : (s.tok b).stage = .approve) (sw : Nat) (d : Bytes) :
    takeResp s b sw d = if sw = 0x9000 then takeApproval s b r d else endRequest s b (swOutcome sw) := by
  unfold takeResp
  rw [hstage, hreq]

/-- A request ended: no request, the token READY, the status recorded, the management state as before. -/
theorem endRequest_ends (s : State) (b : Bool) (st : Nat) : (endRequest s b st).appr.req = none ∧ ((endRequest s b st).tok b).stage = .ready ∧
    (endRequest s b st).gv (if b then gFieldResult else gCardResult) = st ∧ (endRequest s b st).mgmt = s.mgmt := by
  have hgv : (endRequest s b st).gv (if b then gFieldResult else gCardResult) =
      (setResult s b st).gv (if b then gFieldResult else gCardResult) := rfl
  refine ⟨?_, ?_, hgv.trans (gv_setResult s b st), rfl⟩
  · cases b <;> rfl
  · unfold endRequest
    rw [tok_withTok]

theorem heldSlot_congr {s t : State} (h : t.mgmt = s.mgmt) (id : Nat) : heldSlot t id = heldSlot s id := by
  rw [heldSlot, heldSlot, h]

theorem cset_congr {s t : State} (h : t.mgmt = s.mgmt) (k : Nat) : t.cset k = s.cset k := by
  rw [State.cset, State.cset, h]

theorem cred_congr {s t : State} (h : t.mgmt = s.mgmt) (k : Nat) : t.cred k = s.cred k := by
  rw [State.cred, State.cred, h]

/-- The answer to VERIFY PIN (23 R813 steps 2 to 4). -/
theorem takePin_takes (u : State) (hmgmt : u.mgmt = s.mgmt) (hreq : u.appr.req = some r) (sw : Nat) :
    let t := takePin u b r sw
    if sw ≠ 0x9000 then
      t.appr.req = none ∧ (t.tok b).stage = .ready ∧ t.gv (if b then gFieldResult else gCardResult) = swOutcome sw ∧ t.mgmt = s.mgmt
    else match heldSlot s r.change with
      | none => t.appr.req = none ∧ (t.tok b).stage = .ready ∧ t.gv (if b then gFieldResult else gCardResult) = 0x7005
      | some k =>
        if (s.cset k).code ≠ 0x5A3 then
          t.appr.req = none ∧ (t.tok b).stage = .ready ∧ t.gv (if b then gFieldResult else gCardResult) = 0x7006
        else if r.action = 2 then
          t.cset k = { s.cset k with code := 0x356, final := 0x7001, reason := 3 } ∧ (∀ m, m ≠ k → t.cset m = s.cset m) ∧
          t.appr.req = none ∧ (t.tok b).stage = .ready ∧ t.gv (if b then gFieldResult else gCardResult) = 0
        else (t.tok b).stage = .approve ∧ t.appr.req = some r ∧ t.mgmt = s.mgmt := by
  dsimp only
  by_cases hsw : sw ≠ 0x9000
  · obtain ⟨h1, h2, h3, h4⟩ := endRequest_ends u b (swOutcome sw)
    rw [if_pos hsw, show takePin u b r sw = _ from if_pos hsw]
    exact ⟨h1, h2, h3, h4.trans hmgmt⟩
  rw [if_neg hsw, show takePin u b r sw = _ from if_neg hsw, heldSlot_congr hmgmt]
  cases heldSlot s r.change with
  | none =>
    obtain ⟨h1, h2, h3, -⟩ := endRequest_ends u b 0x7005
    exact ⟨h1, h2, h3⟩
  | some k =>
    dsimp only
    rw [cset_congr hmgmt]
    by_cases hcode : (s.cset k).code ≠ 0x5A3
    · obtain ⟨h1, h2, h3, -⟩ := endRequest_ends u b 0x7006
      rw [if_pos hcode, if_pos hcode]
      exact ⟨h1, h2, h3⟩
    rw [if_neg hcode, if_neg hcode]
    by_cases haction : r.action = 2
    · obtain ⟨h1, h2, h3, h4⟩ := endRequest_ends (freeSet u k 0x7001 3) b 0
      have hslots : (endRequest (freeSet u k 0x7001 3) b 0).mgmt.slots =
          Tab.set s.mgmt.slots k { s.cset k with code := 0x356, final := 0x7001, reason := 3 } := by
        rw [h4, freeSet_slots, cset_congr hmgmt, hmgmt]
      obtain ⟨hset, hother⟩ := cset_of_set hslots
      rw [if_pos haction, if_pos haction]
      exact ⟨hset, hother, h1, h2, h3⟩
    · have hsent : (sendTok u b .approve).appr.req = u.appr.req := by cases b <;> rfl
      rw [if_neg haction, if_neg haction, tok_sendTok]
      exact ⟨rfl, hsent.trans hreq, hmgmt⟩

/-- An approval signed by the slot's key over the set, with a counter above the slot's (23 R813). -/
def approvalSigned (s : State) (k slot : Nat) (d : Bytes) : Bool :=
  d.length == 100 && decide ((s.cred slot).counter < leNat (d.take 4)) && (s.cred slot).role == 4 &&
    Config.ecdsaVerify 2 (s.cred slot).key (Config.sha384 (approveMsg (s.cset k).id (s.cset k).hash (leNat (d.take 4)))) (d.drop 4)

theorem approvalSigned_iff (s : State) (k slot : Nat) (d : Bytes) : approvalSigned s k slot d = true ↔
    d.length = 100 ∧ (s.cred slot).counter < leNat (d.take 4) ∧ (s.cred slot).role = 4 ∧
      Config.ecdsaVerify 2 (s.cred slot).key (Config.sha384 (approveMsg (s.cset k).id (s.cset k).hash (leNat (d.take 4)))) (d.drop 4) = true := by
  simp only [approvalSigned, Bool.and_eq_true, beq_iff_eq, decide_eq_true_eq, and_assoc]

/-- An approval before the deadline makes the set APPROVED and stores the counter (23 R813; 22 R794). -/
theorem approve_approves (u : State) (k slot counter : Nat) (h : u.clock.st < (u.cset k).deadline) :
    (approve u k slot counter).1 = 0 ∧
      (approve u k slot counter).2.mgmt.slots = Tab.set u.mgmt.slots k { u.cset k with code := 0xC9A, order := u.mgmt.orderNext } ∧
      (approve u k slot counter).2.mgmt.creds = u.mgmt.creds.upd {} slot (fun c => { c with counter := counter }) := by
  have hlate : ¬ (Tab.get {} u.mgmt.slots k).deadline ≤ u.clock.st := Nat.not_le.mpr h
  unfold approve
  dsimp only
  rw [if_neg hlate]
  exact ⟨rfl, rfl, rfl⟩

theorem takeApproval_takes (u : State) {k slot : Nat} (hmgmt : u.mgmt = s.mgmt) (hclock : u.clock = s.clock) (hcred : (u.tok b).cred = some slot)
    (hheld : heldSlot s r.change = some k) (hcode : (s.cset k).code = 0x5A3) (hopen : s.clock.st < (s.cset k).deadline) (d : Bytes) :
    let t := takeApproval u b r d
    t.appr.req = none ∧ (t.tok b).stage = .ready ∧
      if d.length = 100 ∧ (s.cred slot).counter < leNat (d.take 4) ∧ (s.cred slot).role = 4 ∧
          Config.ecdsaVerify 2 (s.cred slot).key (Config.sha384 (approveMsg (s.cset k).id (s.cset k).hash (leNat (d.take 4)))) (d.drop 4) = true then
        t.cset k = { s.cset k with code := 0xC9A, order := s.mgmt.orderNext } ∧ (∀ m, m ≠ k → t.cset m = s.cset m) ∧
        t.cred slot = { s.cred slot with counter := leNat (d.take 4) } ∧ t.gv (if b then gFieldResult else gCardResult) = 0
      else t.mgmt = s.mgmt ∧ t.gv (if b then gFieldResult else gCardResult) = 0x7003 := by
  have htake : takeApproval u b r d = if !approvalSigned s k slot d then endRequest u b 0x7003
      else endRequest (approve u k slot (leNat (d.take 4))).2 b (approve u k slot (leNat (d.take 4))).1 := by
    unfold takeApproval
    rw [hcred, heldSlot_congr hmgmt, hheld]
    dsimp only
    rw [cset_congr hmgmt, Option.getD_some, cred_congr hmgmt, hcode]
    rfl
  dsimp only
  rw [htake]
  by_cases hsigned : approvalSigned s k slot d = true
  · obtain ⟨hst, hslots, hcreds⟩ := approve_approves u k slot (leNat (d.take 4)) (by rw [hclock, cset_congr hmgmt]; exact hopen)
    rw [if_pos ((approvalSigned_iff s k slot d).mp hsigned), hsigned, Bool.not_true, if_neg Bool.false_ne_true, hst]
    obtain ⟨h1, h2, h3, h4⟩ := endRequest_ends (approve u k slot (leNat (d.take 4))).2 b 0
    rw [cset_congr hmgmt, hmgmt] at hslots
    obtain ⟨hset, hother⟩ := cset_of_set ((congrArg Mgmt.slots h4).trans hslots)
    refine ⟨h1, h2, hset, hother, ?_, h3⟩
    rw [State.cred, h4, hcreds, hmgmt]
    exact Tab.get_upd_self {} s.mgmt.creds slot (fun c : Cred => { c with counter := leNat (d.take 4) })
  · rw [if_neg (fun h => hsigned ((approvalSigned_iff s k slot d).mpr h)), Bool.eq_false_of_not_eq_true hsigned, if_pos (Bool.not_false)]
    obtain ⟨h1, h2, h3, h4⟩ := endRequest_ends u b 0x7003
    exact ⟨h1, h2, h4.trans hmgmt, h3⟩

end

/-! ### A card that leaves at APPROVE, and the Officer's clear (23 R814, R815) -/

/-- The card gone at APPROVE leaves a midstep record. -/
theorem cardRemoved_midstep {s : State} {r : AppReq} {slot : Nat} (hreq : s.appr.req = some r) (hbadge : r.badge = false)
    (hstage : s.appr.card.stage = .approve) (hcred : s.appr.card.cred = some slot) :
    ∃ t m, exec .cardRemoved s = .next t ∧ t.appr.midstep = some m ∧ m.change = r.change ∧ m.slot = slot ∧
      m.counter = s.appr.card.counter ∧ t.appr.req = none ∧ t.gv gCardResult = 0x7037 ∧ t.mgmt = s.mgmt := by
  let hash : Bytes := match heldSlot s r.change with | some k => (s.cset k).hash | none => []
  let m : Midstep := { change := r.change, hash := hash, slot := slot, counter := s.appr.card.counter }
  let u := setResult (((s.withAppr (fun a => { a with midstep := some m, req := none })).bump gCardRemovedMidstep).event (tokIsl false) 0x0903 1
    (toLE 4 m.change ++ toLE 4 m.counter)) false 0x7037
  have hgone : tokGone s false .absent 0x7037 = u.withTok false (fun _ => { stage := .absent, counter := s.appr.card.counter }) := by
    have hstage' : (s.tok false).stage = .approve := hstage
    have hcred' : (s.tok false).cred = some slot := hcred
    have hne : ¬ r.badge ≠ false := not_not.mpr hbadge
    unfold tokGone
    simp only [hreq, if_neg hne, if_pos hstage', hcred']
    rfl
  refine ⟨_, m, (cardRemoved_gone (by rw [hstage]; decide)).trans (congrArg Host.Outcome.next hgone), rfl, rfl, rfl, rfl, rfl, ?_, rfl⟩
  exact gv_setResult _ false 0x7037

theorem cardMidstepClear_clears {s : State} {x : SessId} {req : BitVec 16} {v : Bytes} (h : Served s x req)
    (hok : writeCheck s x 0x53000B v true false = 0) :
    ∃ t, exec (.cardMidstepClear x req v) s = .next t ∧ Answered t x (statusReply 0x11 req 0 []) ∧ t.appr.midstep = none ∧
      t.mgmt.slots = s.mgmt.slots := by
  show ∃ t, execCardMidstepClear x req v s = .next t ∧ _
  rw [execCardMidstepClear, actWrite_ok h hok]
  refine ⟨_, rfl, answered_reply .., ?_, ?_⟩
  · rw [reply_appr]
    split
    · next hnone => exact hnone
    · rfl
  · rw [reply_slots]
    split <;> rfl

/-- What a request's write answers and begins. -/
theorem request_begins {s : State} {x : SessId} {req : BitVec 16} {v : Bytes} {b : Bool} (h : Served s x req)
    (hok : writeCheck s x (if b then 0x540007 else 0x530008) v true false = 0) :
    ∃ t, (b = false → exec (.cardRequest x req v) s = .next t) ∧ (b = true → exec (.fieldRequest x req v) s = .next t) ∧
      t = replyStatus (beginRequest s b v).2 x 0x11 req (beginRequest s b v).1 [] := by
  refine ⟨_, ?_, ?_, rfl⟩
  · rintro rfl
    exact (onMsg_served h (fun u => requestWrite u x req false v)).trans (congrArg Host.Outcome.next (requestWrite_admitted hok))
  · rintro rfl
    exact (onMsg_served h (fun u => requestWrite u x req true v)).trans (congrArg Host.Outcome.next (requestWrite_admitted hok))

/-- Settles O49: a request's write is `beginRequest`, an answer is `takePin` or `takeApproval` (`resp_taken`), a removal is `tokGone`. -/
theorem approvalsByCardAndBadge : Obligations.ApprovalsByCardAndBadge := by
  unfold Obligations.ApprovalsByCardAndBadge
  refine ⟨fun s x req v b h hok => ?_, fun s b r sw d hup hreq hcarrier hstage => ?_,
    fun s b r k slot d hup hreq hcarrier hstage hcred hheld hcode hopen => ?_, fun s b r sw d hup hreq hcarrier hstage hsw => ?_,
    fun s r slot hreq hbadge hstage hcred => cardRemoved_midstep hreq hbadge hstage hcred, fun s x req v h hok => cardMidstepClear_clears h hok⟩
  · obtain ⟨t, hcard, hfield, ht⟩ := request_begins h hok
    refine ⟨t, hcard, hfield, fun hbusy => ?_, fun hidle hstage => ?_, fun hidle hstage => ?_, fun hidle hstage hmid hzero haction => ?_⟩
    · rw [ht, beginRequest_busy hbusy]
      exact ⟨answered_reply .., reply_appr ..⟩
    · rw [ht, beginRequest_unknown hidle hstage]
      exact ⟨answered_reply .., reply_appr ..⟩
    · rw [ht, beginRequest_absent hidle hstage]
      exact ⟨answered_reply .., reply_appr ..⟩
    · rw [ht, beginRequest_ready hidle hstage hmid hzero haction]
      cases heldSlot s (leNat (v.take 4)) with
      | none => exact ⟨answered_reply .., reply_appr .., (reply_gv ..).trans (gv_setResult s b 0x7005)⟩
      | some k =>
        dsimp only
        by_cases hcode : (s.cset k).code = 0x5A3
        · rw [if_neg (not_not.mpr hcode), if_pos hcode, tok_congr (reply_appr ..), reply_appr]
          exact ⟨answered_reply .., congrArg TokSt.stage (tok_sendTok s b .pin), rfl⟩
        · rw [if_pos hcode, if_neg hcode]
          exact ⟨answered_reply .., reply_appr .., (reply_gv ..).trans (gv_setResult s b 0x7006)⟩
  · obtain ⟨hcard, hbadge⟩ := resp_taken hup hcarrier (.inl hstage) sw d
    obtain ⟨hmgmt, -, hreq', hstage', -⟩ := answerSeen_same s b
    refine ⟨_, hcard, hbadge, ?_⟩
    rw [takeResp_pin (hreq'.trans hreq) (hstage'.trans hstage)]
    exact takePin_takes _ hmgmt (hreq'.trans hreq) sw
  · obtain ⟨hcard, hbadge⟩ := resp_taken hup hcarrier (.inr hstage) 0x9000 d
    obtain ⟨hmgmt, hclock, hreq', hstage', hcred'⟩ := answerSeen_same s b
    refine ⟨_, hcard, hbadge, ?_⟩
    rw [takeResp_approve (hreq'.trans hreq) (hstage'.trans hstage), if_pos rfl]
    exact takeApproval_takes _ hmgmt hclock (hcred'.trans hcred) hheld hcode hopen d
  · obtain ⟨hcard, hbadge⟩ := resp_taken hup hcarrier (.inr hstage) sw d
    obtain ⟨hmgmt, -, hreq', hstage', -⟩ := answerSeen_same s b
    refine ⟨_, hcard, hbadge, ?_⟩
    rw [takeResp_approve (hreq'.trans hreq) (hstage'.trans hstage), if_neg hsw]
    obtain ⟨h1, h2, h3, h4⟩ := endRequest_ends (answerSeen s b) b (swOutcome sw)
    exact ⟨h1, h2, h3, h4.trans hmgmt⟩

end Sys2Proof.Machine
end

section
/-! PROOF. The contactless reader: pings, polls, badges and outside fields (24 R818 to R830). -/

namespace Sys2Proof.Machine

open Sys2Proof

section

variable {s : State}

/-! ### Pings (24 R820) -/

/-- A shift beyond the threshold, read off the mean of the kept pings. -/
theorem detuned_iff (s : State) (a : Nat) : detuned s a = true ↔ s.appr.refs ≠ [] ∧
    s.gv gFieldPingThreshold * s.appr.refs.sum < 1000 * ((s.appr.refs.length * a : Int) - (s.appr.refs.sum : Int)).natAbs := by
  simp only [detuned, pingRef, ← List.sum_eq_foldl, Bool.and_eq_true, bne_iff_ne, decide_eq_true_eq, ne_eq, List.length_eq_zero_iff]

theorem ping_ignored (h : s.gv gFieldReaderEnable ≠ 1 ∨ s.appr.carrier = true ∨ s.appr.external = true) (a : Nat) : exec (.ping a) s = .next s := by
  refine if_pos ?_
  obtain h | h | h := h
  · exact .inl h
  · exact .inr (.inr (.inl h))
  · exact .inr (.inr (.inr (.inl h)))

/-- The poll that a shift starts. -/
def polls (s : State) : State :=
  (sendTok (s.withAppr (fun a => { a with pingAt := s.now })) true .atqa).withAppr (fun a => { a with carrier := true })

/-- A ping kept among the last 16. -/
def pingKept (s : State) (n : Nat) : State :=
  (s.withAppr (fun a => { a with pingAt := s.now })).withAppr (fun a => { a with refs := (a.refs ++ [n]).drop (a.refs.length + 1 - 16) })

theorem polls_frame (s : State) : { polls s with appr := s.appr } = s :=
  (State.withAppr_writes (wm := 67108864) (sendTok_writes (State.withAppr_writes (.refl _ s) rfl) rfl) rfl).merge

theorem pingKept_frame (s : State) (n : Nat) : { pingKept s n with appr := s.appr } = s :=
  (State.withAppr_writes (wm := 67108864) (State.withAppr_writes (.refl _ s) rfl) rfl).merge

theorem exec_ping (hen : s.gv gFieldReaderEnable = 1) (hup : tokUp s true = true) (hoff : s.appr.carrier = false) (hext : s.appr.external = false)
    (hdue : s.appr.pingAt + msTicks 250 ≤ s.now) (a : Nat) : exec (.ping a) s = .next (if detuned s a then polls s else pingKept s a) := by
  have hgo : ¬ (s.gv gFieldReaderEnable ≠ 1 ∨ tokUp s true = false ∨ s.appr.carrier = true ∨ s.appr.external = true ∨
      s.now < s.appr.pingAt + msTicks 250) := by
    rw [hup, hoff, hext]
    rintro (h | h | h | h | h)
    · exact h hen
    · exact Bool.false_ne_true h.symm
    · exact Bool.false_ne_true h
    · exact Bool.false_ne_true h
    · exact absurd h (Nat.not_lt.mpr hdue)
  have hsame : detuned (s.withAppr (fun a => { a with pingAt := s.now })) a = detuned s a := rfl
  refine (if_neg hgo).trans ?_
  cases detuned s a <;> rfl

theorem ping_polls (hen : s.gv gFieldReaderEnable = 1) (hup : tokUp s true = true) (hoff : s.appr.carrier = false) (hext : s.appr.external = false)
    (hdue : s.appr.pingAt + msTicks 250 ≤ s.now) (a : Nat) :
    ∃ t, exec (.ping a) s = .next t ∧ t.appr.pingAt = s.now ∧ { t with appr := s.appr } = s ∧
      if s.appr.refs ≠ [] ∧ s.gv gFieldPingThreshold * s.appr.refs.sum < 1000 * ((s.appr.refs.length * a : Int) - (s.appr.refs.sum : Int)).natAbs then
        t.appr.carrier = true ∧ t.appr.badge.stage = .atqa ∧ t.appr.refs = s.appr.refs
      else t.appr.carrier = false ∧ t.appr.refs = (s.appr.refs ++ [a]).drop (s.appr.refs.length + 1 - 16) := by
  have hexec := exec_ping hen hup hoff hext hdue a
  by_cases hshift : detuned s a = true
  · rw [if_pos hshift] at hexec
    refine ⟨polls s, hexec, rfl, polls_frame s, ?_⟩
    rw [if_pos ((detuned_iff s a).mp hshift)]
    exact ⟨rfl, rfl, rfl⟩
  · rw [if_neg hshift] at hexec
    refine ⟨pingKept s a, hexec, rfl, pingKept_frame s a, ?_⟩
    rw [if_neg (fun h => hshift ((detuned_iff s a).mpr h))]
    exact ⟨hoff, rfl⟩

/-! ### The badge's answers (24 R821 to R824) -/

theorem haltBadge_badge (s : State) : (haltBadge s).appr.badge.stage = .atqa ∧ (haltBadge s).appr.badge.cred = none := ⟨rfl, rfl⟩

section

variable (hup : tokUp s true = true) (hon : s.appr.carrier = true)

include hup hon

/-- A badge is heard while domain K, its island and the carrier are on. -/
theorem badgeHeard : (!tokUp s true || !s.appr.carrier) = false := by
  rw [hup, hon]
  rfl

theorem badgeResponse_atqa (hstage : s.appr.badge.stage = .atqa) :
    exec (.badgeResponse .atqa) s = .next ((sendTok s true .anticoll).withTok true (fun t => { t with knownBits := [] })) := by
  show execBadgeResponse _ s = _
  unfold execBadgeResponse
  simp only [badgeHeard hup hon, hstage]
  rfl

theorem badgeResponse_collision (hstage : s.appr.badge.stage = .anticoll) (l : List Bool) :
    exec (.badgeResponse (.collision l)) s = .next (if l.take s.appr.badge.knownBits.length = s.appr.badge.knownBits then
      (sendTok (s.bump gFieldCollisions) true .anticoll).withTok true (fun t => { t with knownBits := l ++ [true] }) else blockFails s true) := by
  show execBadgeResponse _ s = _
  unfold execBadgeResponse
  simp only [badgeHeard hup hon, hstage]
  rw [if_neg Bool.false_ne_true, apply_ite Host.Outcome.next]

theorem badgeResponse_uid (hstage : s.appr.badge.stage = .anticoll) (u : Bytes) :
    exec (.badgeResponse (.uid u)) s = .next (if (sentBits u).take s.appr.badge.knownBits.length = s.appr.badge.knownBits then
      (sendTok s true .sak).withTok true (fun t => { t with uid := u }) else blockFails s true) := by
  show execBadgeResponse _ s = _
  unfold execBadgeResponse
  simp only [badgeHeard hup hon, hstage]
  rw [if_neg Bool.false_ne_true, apply_ite Host.Outcome.next]

theorem badgeResponse_sak (hstage : s.appr.badge.stage = .sak) : exec (.badgeResponse .sak) s = .next (sendTok s true .ats) := by
  show execBadgeResponse _ s = _
  unfold execBadgeResponse
  simp only [badgeHeard hup hon, hstage]
  rfl

theorem badgeResponse_ats (hstage : s.appr.badge.stage = .ats) (kbit fwi : Nat) : exec (.badgeResponse (.ats kbit fwi)) s =
    .next (sendTok (s.withTok true (fun t => { t with want := badgeRate kbit, fwi := fwi })) true .bpps) := by
  show execBadgeResponse _ s = _
  unfold execBadgeResponse
  simp only [badgeHeard hup hon, hstage]
  rfl

theorem badgeResponse_pps (hstage : s.appr.badge.stage = .bpps) :
    exec (.badgeResponse .pps) s = .next ((sendTok s true .select).withTok true (fun t => { t with rate := t.want })) := by
  show execBadgeResponse _ s = _
  unfold execBadgeResponse
  simp only [badgeHeard hup hon, hstage]
  rfl

theorem badgeResponse_select (hstage : s.appr.badge.stage = .select) (sw : Nat) (d : Bytes) :
    exec (.badgeResponse (.resp sw d)) s = .next (if sw = 0x9000 then sendTok s true .status else haltBadge s) := by
  show execBadgeResponse _ s = _
  unfold execBadgeResponse
  simp only [badgeHeard hup hon, hstage]
  rfl

theorem badgeResponse_status (hstage : s.appr.badge.stage = .status) (sw : Nat) (d : Bytes) :
    exec (.badgeResponse (.resp sw d)) s = .next (badgeStatus s sw d) := by
  show execBadgeResponse _ s = _
  unfold execBadgeResponse
  simp only [badgeHeard hup hon, hstage]
  rfl

/-- Anticollision goes on from the bits known; an answer that does not begin with them is a block in error (24 R823). -/
theorem collision_extends (hstage : s.appr.badge.stage = .anticoll) (l : List Bool) :
    ∃ t, exec (.badgeResponse (.collision l)) s = .next t ∧
      if l.take s.appr.badge.knownBits.length = s.appr.badge.knownBits then
        t.appr.badge.stage = .anticoll ∧ t.appr.badge.knownBits = l ++ [true] ∧ t.gv gFieldCollisions = (s.gv gFieldCollisions + 1) % 2 ^ 64
      else t = blockFails s true := by
  refine ⟨_, badgeResponse_collision hup hon hstage l, ?_⟩
  split
  · exact ⟨rfl, rfl, State.gv_bump ..⟩
  · rfl

theorem uid_selects (hstage : s.appr.badge.stage = .anticoll) (u : Bytes) :
    ∃ t, exec (.badgeResponse (.uid u)) s = .next t ∧
      if (sentBits u).take s.appr.badge.knownBits.length = s.appr.badge.knownBits then t.appr.badge.stage = .sak ∧ t.appr.badge.uid = u
      else t = blockFails s true := by
  refine ⟨_, badgeResponse_uid hup hon hstage u, ?_⟩
  split
  · exact ⟨rfl, rfl⟩
  · rfl

theorem select_asks_status (hstage : s.appr.badge.stage = .select) (sw : Nat) (d : Bytes) :
    ∃ t, exec (.badgeResponse (.resp sw d)) s = .next t ∧ t.appr.badge.stage = if sw = 0x9000 then .status else .atqa := by
  refine ⟨_, badgeResponse_select hup hon hstage sw d, ?_⟩
  split <;> rfl

/-- A Custodian's badge becomes READY, another halts (24 R824). -/
theorem status_readies (hstage : s.appr.badge.stage = .status) (hmid : s.appr.midstep = none) (sw : Nat) (d : Bytes) :
    ∃ t, exec (.badgeResponse (.resp sw d)) s = .next t ∧
      if sw = 0x9000 ∧ d.length = 117 ∧ custodianOf s ((d.drop 2).take 97) ≠ none then
        t.appr.badge.stage = .ready ∧ t.appr.badge.cred = custodianOf s ((d.drop 2).take 97) ∧ t.appr.badge.counter = leNat ((d.drop 0x63).take 4)
      else t.appr.badge.stage = .atqa ∧ t.appr.badge.cred = none := by
  refine ⟨_, badgeResponse_status hup hon hstage sw d, ?_⟩
  by_cases hbad : sw ≠ 0x9000 ∨ d.length ≠ 117
  · rw [if_neg (fun h => hbad.elim (fun k => k h.1) (fun k => k h.2.1)), show badgeStatus s sw d = _ from if_pos hbad]
    exact haltBadge_badge s
  obtain ⟨hsw, hlen⟩ : sw = 0x9000 ∧ d.length = 117 := by omega
  have hkey : badgeStatus s sw d = _ := if_neg hbad
  rw [hkey]
  cases hslot : custodianOf s ((d.drop 2).take 97) with
  | none =>
    rw [if_neg (fun h => h.2.2 rfl)]
    exact haltBadge_badge s
  | some k =>
    rw [if_pos ⟨hsw, hlen, Option.some_ne_none k⟩]
    exact becomeReady_tok (b := true) hmid k (leNat ((d.drop 0x63).take 4))

/-! ### Waiting times and the presence check (24 R821, R822, R828) -/

/-- The frame waiting time of a badge that is heard has passed. -/
theorem frameWaitingTimeExpiry_atqa (hstage : s.appr.badge.stage = .atqa) (hlate : s.appr.badge.waitUntil ≤ s.now) :
    exec .frameWaitingTimeExpiry s = .next (tokGone s true .absent 0x7037) := by
  show execFrameWaitingTimeExpiry s = _
  unfold execFrameWaitingTimeExpiry
  simp only [badgeHeard hup hon, decide_eq_false (Nat.not_lt.mpr hlate), hstage]
  rfl

theorem frameWaitingTimeExpiry_block (h1 : s.appr.badge.stage ≠ .absent) (h2 : s.appr.badge.stage ≠ .ready) (h3 : s.appr.badge.stage ≠ .atqa)
    (hlate : s.appr.badge.waitUntil ≤ s.now) : exec .frameWaitingTimeExpiry s = .next (blockFails s true) := by
  show execFrameWaitingTimeExpiry s = _
  unfold execFrameWaitingTimeExpiry
  simp only [badgeHeard hup hon, decide_eq_false (Nat.not_lt.mpr hlate)]
  rw [Bool.or_self, if_neg Bool.false_ne_true]

end

theorem frameWaitingTimeExpiry_early (h : s.now < s.appr.badge.waitUntil) : exec .frameWaitingTimeExpiry s = .next s := by
  show execFrameWaitingTimeExpiry s = _
  unfold execFrameWaitingTimeExpiry
  dsimp only
  rw [decide_eq_true h, Bool.or_true, if_pos rfl]

/-- A badge that has left: no badge, no carrier. -/
theorem badge_left (s : State) : (tokGone s true .absent 0x7037).appr.badge.stage = .absent ∧ (tokGone s true .absent 0x7037).appr.carrier = false :=
  ⟨congrArg TokSt.stage (tokGone_tok s true .absent 0x7037), (tokGone_badge s .absent 0x7037).1⟩

/-- A block of the badge unanswered is sent again twice, then the badge has left. -/
theorem badge_block_fails (s : State) : if s.appr.badge.resends < 2 then
      { blockFails s true with appr := s.appr } = s ∧
        (blockFails s true).appr.badge = { s.appr.badge with
          resends := s.appr.badge.resends + 1
          waitUntil := s.now + answerWait s.appr.badge true s.appr.badge.stage }
    else (blockFails s true).appr.badge.stage = .absent ∧ (blockFails s true).appr.carrier = false := by
  by_cases hfew : s.appr.badge.resends < 2
  · rw [if_pos hfew, blockFails_resends (b := true) hfew]
    exact ⟨rfl, rfl⟩
  · rw [if_neg hfew, blockFails_badge hfew]
    exact badge_left s

theorem exec_badgePresenceCheck (hup : tokUp s true = true) (hstage : s.appr.badge.stage = .ready) (hdue : s.appr.badge.seenAt + msTicks 250 ≤ s.now)
    (ok : Bool) : exec (.badgePresenceCheck ok) s =
      .next (if ok = true then s.withTok true (fun t => { t with seenAt := s.now }) else tokGone s true .absent 0x7037) := by
  show execBadgePresenceCheck ok s = _
  unfold execBadgePresenceCheck
  dsimp only
  rw [hup, hstage, decide_eq_false (Nat.not_lt.mpr hdue)]
  cases ok <;> rfl

/-! ### Outside fields (24 R818, R819, R830) -/

/-- The outside field gone: the tag is no longer mute, and a transaction has ended. -/
theorem externalFieldGone_frees (s : State) : ∃ t, exec .externalFieldGone s = .next t ∧ t.appr = { s.appr with external := false } ∧
    t.tag.muted = false ∧ t.tag.txn = none ∧
    (s.tag.txn = none → t.tag = { s.tag with muted := false } ∧ { t with appr := s.appr, tag := s.tag } = s) := by
  refine ⟨_, rfl, ?_⟩
  cases htxn : s.tag.txn with
  | none => exact ⟨rfl, rfl, htxn, fun _ => ⟨rfl, rfl⟩⟩
  | some n =>
    have happr : (endTxn s).appr = s.appr := (endTxn_writes (wm := 1208483968) (.refl _ s) rfl).appr rfl
    exact ⟨congrArg (fun a : Approvals => { a with external := false }) happr, rfl, (endTxn_over s).1, fun h => absurd h (Option.some_ne_none n)⟩

end

/-- Settles O50: a ping polls or is kept, each answer of a badge has its own equation, and a badge that fails has left as `tokGone` says. -/
theorem readerPollsAndBadges : Obligations.ReaderPollsAndBadges := by
  unfold Obligations.ReaderPollsAndBadges
  refine ⟨fun s a hen hup hoff hext hdue => ping_polls hen hup hoff hext hdue a, fun s h a => ping_ignored h a, fun s hup hon => ?_,
    fun s hup hon hstage hlate => ?_, fun s hup hon h1 h2 h3 hlate => ?_, fun s ok hup hstage hdue => ?_, fun s hoff => ?_,
    fun s hearly => frameWaitingTimeExpiry_early hearly, externalFieldGone_frees⟩
  · exact ⟨fun h => ⟨_, badgeResponse_atqa hup hon h, rfl, rfl⟩,
      fun h => ⟨fun l => collision_extends hup hon h l, fun u => uid_selects hup hon h u⟩,
      fun h => ⟨_, badgeResponse_sak hup hon h, rfl⟩,
      fun h kbit fwi => ⟨_, badgeResponse_ats hup hon h kbit fwi, rfl, rfl⟩,
      fun h => ⟨_, badgeResponse_pps hup hon h, rfl, rfl⟩,
      fun h sw d => select_asks_status hup hon h sw d,
      fun h hmid sw d => status_readies hup hon h hmid sw d⟩
  · obtain ⟨hleft, hoff⟩ := badge_left s
    exact ⟨_, frameWaitingTimeExpiry_atqa hup hon hstage hlate, hleft, hoff, (tokGone_badge s .absent 0x7037).2⟩
  · exact ⟨_, frameWaitingTimeExpiry_block hup hon h1 h2 h3 hlate, badge_block_fails s⟩
  · refine ⟨_, exec_badgePresenceCheck hup hstage hdue ok, ?_⟩
    by_cases hok : ok = true
    · rw [if_pos hok, if_pos hok]
      exact ⟨rfl, rfl⟩
    · rw [if_neg hok, if_neg hok]
      exact badge_left s
  · have hexec : exec .externalField s = .next (s.withAppr (fun a => { a with external := true })) := if_neg (by rw [hoff]; exact Bool.false_ne_true)
    exact ⟨_, hexec, rfl, rfl⟩

end Sys2Proof.Machine
end
